-- ==== Sys2Proof/Word.lean ====
section
/-! DEFINITION. The word types of the model: bytes, the 32-bit and 64-bit words that software sees whole, and sparse tables.
Sizes follow R4, bit order R7, byte order R8. -/

namespace Sys2Proof

/-- One byte. -/
abbrev Byte := BitVec 8

/-- A 32-bit word of a register or descriptor (R8). -/
abbrev W32 := BitVec 32

/-- A 64-bit word of a register or descriptor (R8). -/
abbrev W64 := BitVec 64

/-- A string of bytes, lowest address first (R8). -/
abbrev Bytes := List Byte

/-- A sparse table: the listed keys hold the listed values, every other key its default (the default is named where the table is read). -/
abbrev Tab (α : Type) := List (Nat × α)

end Sys2Proof
end

