-- ==== Sys2Proof/Machine/Records.lean ====
section
/-! DEFINITION. The records that commands carry (spec chapters 7 to 16): roles, command records, link messages, dictionary frames, sensor readings. -/

namespace Sys2Proof

/-- The four dictionary roles (R431, R432). -/
inductive Role where
  | hostPf | tenant | shepherd | operatorKey
  deriving DecidableEq, Repr

/-- The paths that reach the dictionary (R432): the mailboxes, the two management ports, a link port. -/
inductive Path where
  | pf
  | vf (n : Nat)
  | mgt (port : Nat)
  | link (port : Nat)
  deriving DecidableEq, Repr

/-- Who acts: a granted role on a path (R432). -/
structure Who where
  role : Role
  path : Path
  deriving DecidableEq, Repr

/-- A MOON_CMD record without its OP (R226); `rsv` is true when a reserved field or FLAGS[7:3] is not zero. All ones mean unchanged. -/
structure MoonCmd where
  pool       : Bool
  privileged : Bool
  whenEn     : Bool
  syncBlocks : Nat
  share      : Nat
  linkShare  : Nat
  whenOrbit  : Nat
  octets     : Nat
  hbmPages   : Nat
  poolCount  : Nat
  peer       : Nat
  ports      : Nat
  peerMoon   : Nat
  rsv        : Bool
  deriving DecidableEq, Repr

/-- A PAGE_REQ record without its OP (R243). -/
structure PageReq where
  permR     : Bool
  permW     : Bool
  stackPref : Nat
  first     : Nat
  count     : Nat
  rsv       : Bool
  deriving DecidableEq, Repr

/-- A MODEL_CMD record without its OP (R289). -/
structure ModelCmd where
  pinned    : Bool
  whenEn    : Bool
  variant   : Nat
  whenOrbit : Nat
  rsv       : Bool
  deriving DecidableEq, Repr

/-- A FETCH_CMD record without its OP (R341). -/
structure FetchCmd where
  bar4         : Bool
  share        : Bool
  awaitOverlay : Bool
  writable     : Bool
  slot         : Nat
  sb           : Nat
  variant      : Nat
  fetchId      : Nat
  hostAddr     : Nat
  bundleBytes  : Nat
  targetMa     : Nat
  timeoutMs    : Nat
  rsv          : Bool
  deriving DecidableEq, Repr

/-- A SNAP_CMD record without its OP (R328). -/
structure SnapCmd where
  whenEn     : Bool
  remote     : Bool
  fromNormal : Bool
  snapId     : Nat
  whenOrbit  : Nat
  targetMa   : Nat
  peer       : Nat
  ports      : Nat
  targetMoon : Nat
  firstTile  : Nat
  tileCount  : Nat
  rsv        : Bool
  deriving DecidableEq, Repr

/-- A SNAP_ACCEPT record (R328). -/
structure SnapAccept where
  sourceModule : Nat
  sourceMoon   : Nat
  snapId       : Nat
  targetMa     : Nat
  length       : Nat
  deriving DecidableEq, Repr

/-- A TURN_CMD record without its OP (R330). -/
structure TurnCmd where
  endLive   : Bool
  slot      : Nat
  turnId    : Nat
  whenOrbit : Nat
  plan      : Nat
  pipeRec   : Nat
  barrier   : Nat
  timeoutMs : Nat
  rsv       : Bool
  deriving DecidableEq, Repr

/-- A GNS_CFG record (R326); ALPHA is its FP32 bit pattern. -/
structure GnsCfg where
  localTag  : Nat
  globalTag : Nat
  enable    : Bool
  bLocal    : Nat
  bGlobal   : Nat
  alpha     : Nat
  quantum   : Nat
  minimum   : Nat
  maximum   : Nat
  /-- ENABLE is neither 0 nor 1. -/
  rsv       : Bool
  deriving DecidableEq, Repr

/-- One range of a barrier definition (R384). -/
structure BarRange where
  first : Nat
  count : Nat
  moon  : Nat
  deriving DecidableEq, Repr

/-- A BARRIER_DEF record as written (R384): MEMBERS and GEN are the module's. -/
structure BarDef where
  valid     : Bool
  noScore   : Bool
  timeoutMs : Nat
  ranges    : List BarRange
  rsv       : Bool
  deriving DecidableEq, Repr

/-- A BARRIER_MOVE record (R389). -/
structure BarMove where
  oldFabric : Nat
  oldMoon   : Nat
  newFabric : Nat
  newMoon   : Nat
  rsv       : Bool
  deriving DecidableEq, Repr

/-- The target's answer to the query of a migration (M2 of R245, R299): it has a matching ARRIVING moon, and that moon's SEQ_QUOTA. -/
structure PeerAnswer where
  matching : Bool
  quota    : Nat
  deriving DecidableEq, Repr

/-- A work list as it reaches a follower (R293): its bytes, and the identity, moon and slot of the lead that sent it. -/
structure FollowList where
  bytes : Bytes
  lead  : Nat
  moon  : Nat
  slot  : Nat
  deriving DecidableEq, Repr

/-- A FW_CMD record without its OP (R488). -/
structure FwCmd where
  length   : Nat
  hostAddr : Nat
  rsv      : Bool
  deriving DecidableEq, Repr

/-- The counts of bubbles of one pass by cause (R98); they depend on data arrival and throttling. -/
structure Bubbles where
  throttle : Nat
  drain    : Nat
  feed     : Nat
  deriving DecidableEq, Repr

/-- An SXL2 flit as received or sent (R359): the header fields, the link control fields, whether its CRC-32 and FEC were good, and the FEC
codewords that the receiver corrected and that it could not correct as it came (R354, R376). -/
structure Flit where
  vc         : Nat
  destMoon   : Nat
  srcMoon    : Nat
  destFabric : Nat
  srcFabric  : Nat
  xfer       : Nat
  seq        : BitVec 12
  ack        : BitVec 12
  retryReq   : Bool
  good       : Bool
  payload    : Bytes
  fecCorr    : Nat := 0
  fecUncorr  : Nat := 0
  deriving DecidableEq, Repr

/-- A flit that waits for credit or retry-buffer room at its egress port (R360, R363), with its TYPE, and for a flit in transit the port, channel
and moon it came by, whose credit returns when it is sent on. -/
structure OutFlit where
  type : Nat
  flit : Flit
  back : Option (Nat × Nat × Nat)
  deriving DecidableEq, Repr

/-- What a CHUNK_HDR payload carries (R369). -/
structure ChunkHdr where
  destMa    : Nat
  bytes     : Nat
  hint      : Nat
  index     : Nat
  total     : Nat
  destObj   : Nat
  destAdd   : Int
  sigEn     : Bool
  migration : Bool
  deriving DecidableEq, Repr

/-- The kinds of CONTROL traffic (R372). -/
inductive CtlKind where
  | beacon | poll | answer | arrive | release | withdraw | arriveAck | arriveRefused | barFail
  | linkUp | delayReq | delayResp | dictReq | dictRsp | ready | go | running | abort | migQuery | migAnswer | snapQuery | snapAnswer | snapDone
  deriving DecidableEq, Repr

/-- What T6 learns of the partner (R358). -/
structure Partner where
  sxl1     : Bool
  sxl2     : Bool
  class112 : Bool
  class224 : Bool
  identity : Nat
  fabric   : Nat
  port     : Nat
  ports    : Nat
  role     : Nat
  deriving DecidableEq, Repr

/-- What T2 measures (R356): the worse loss of each lane in 0.1 dB at 53.125 GHz and at 26.5625 GHz, and the round-trip time in ns. -/
structure ChanMeas where
  loss224 : List Nat
  loss112 : List Nat
  rttNs   : Nat
  deriving DecidableEq, Repr

/-- A POLL (R380). -/
structure PollMsg where
  src        : Nat
  seq        : BitVec 16
  bootEpoch  : BitVec 16
  health     : Nat
  leadFabric : Nat
  orbitState : Nat
  deriving DecidableEq, Repr

/-- An ANSWER (R380), without the round trip the manager measures. -/
structure AnswerMsg where
  pollSeq    : BitVec 16
  fabric     : Nat
  powerState : Nat
  svcReq     : Bool
  locked     : Bool
  holdover   : Bool
  expelled   : Bool
  moons      : Nat
  role       : Nat
  offset     : Int
  orbit      : Nat
  deriving DecidableEq, Repr

/-- An ARRIVE or WITHDRAW (R385, R388). -/
structure ArriveMsg where
  fabric   : Nat
  moon     : Nat
  scope    : Nat
  barrier  : Nat
  orbit    : Nat
  state    : Nat
  deriving DecidableEq, Repr

/-- A BEACON's payload (R400). -/
structure BeaconMsg where
  orbit    : Nat
  seq      : BitVec 16
  state    : Nat
  hop      : Nat
  lead     : Nat
  upstream : Bool
  deriving DecidableEq, Repr

/-- The kinds of dictionary item operation (R436). -/
inductive ItemOp where
  | read | write | describe
  deriving DecidableEq, Repr

/-- A dictionary request item (R436); `rsv` when a reserved field or flag bit is set. -/
structure Item where
  param   : Nat
  element : Nat
  type    : Nat
  last    : Bool
  len     : Nat
  offset  : Nat
  value   : Bytes
  rsv     : Bool
  deriving DecidableEq, Repr

/-- The frame around an item as the module has it (R433, R435): the claimed role, the target and VIA, on a link the FABRIC_ID of the module it came
from, and for an AUTH frame the bytes under the tag, the nonce and the tag; on a management port the Ethernet destination (or that it is the broadcast
address), source, EtherType and whether a VLAN tag stands before it (R447); the whole body where the module has it as one. -/
structure Frame where
  version  : Nat
  kind     : Nat
  reqId    : Nat
  target   : Nat
  role     : Nat
  via      : Nat
  source   : Nat
  auth     : Bool
  broadcast : Bool
  wellLen  : Bool
  covered  : Bytes
  nonce    : Nat
  tag      : Bytes
  dest     : Bytes := []
  src      : Bytes := []
  etherType : Nat := 0x88B5
  vlan     : Bool := false
  raw      : Bytes := []
  deriving DecidableEq, Repr

/-- What start-up meets outside the module's own records (R465, R466): the straps, the coolant inlet and outlet in millidegrees, a leak
in step 1 or 2, a leak at step 4, the stacks that fail training, the bridges that cannot be brought up at full width, the failing segments and BIST-failing cores (die, physical core),
array columns that fail BIST (die, physical core, array, column), the rows whose hard repair a stack rejects (stack, row), the dies whose entropy source passes, the measured impedance in microohm,
whether a journal region is valid, how many of its records replay before a bad one if any is bad (R484), and whether the banks as manufactured verify. -/
structure BootFacts where
  roleSel     : Nat
  slotId      : Nat
  coolantMilli : Int
  leakEarly   : Bool
  leak        : Bool
  stackFails  : List Nat
  bridgeFails : List Nat
  groupFails  : List (Nat × Nat) := []
  segFails    : List (Nat × Nat)
  bistFails   : List (Nat × Nat)
  columnFails : List (Nat × Nat × Nat × Nat)
  rowRejects  : List (Nat × Nat)
  entropyOk   : List Nat
  impedanceUohm : Nat
  journalOk   : Bool
  torn        : Option Nat
  bankAOk     : Bool
  bankBOk     : Bool
  outletMilli : Int := coolantMilli
  deriving DecidableEq, Repr

/-- The measurements of a power-controller update (R459, R461): milliwatts over 10 µs and 100 µs, mean millivolts and milliamperes over
100 µs, whether the throttle estimate of R459 asks for more, and a load step's change of voltage (mV) and current (mA), if one occurred. -/
structure PowerSample where
  p10       : Nat
  p100      : Nat
  milliVolt : Nat
  milliAmp  : Nat
  loadStep  : Option (Nat × Nat)
  deriving DecidableEq, Repr

end Sys2Proof
end

