-- ==== Sys2Proof/Machine/Types.lean ====
section
/-! DEFINITION. The parts State is made of: plain data, one structure per unit of the module. Each field's comment names its width,
the rule of spec/ that gives it, and its reset value (the numbers in brackets are log entries of notes/assumptions). -/

namespace Sys2Proof.Machine

/-- The three orbit states (R46, R404). -/
inductive OrbitState where
  | unlocked | locked | holdover
  deriving DecidableEq, Repr

/-- The orbit unit on CD3 and its sources (R45 to R48, R397 to R404). -/
structure OrbitUnit where
  /-- ORBIT_NOW, 64 bits; R46; reset 0. -/
  now : Nat
  /-- Module reference time in ns since power-on, 64 bits; R35, R45; reset 0. -/
  refNs : Nat
  /-- ORBIT_STATE, 2 bits; R46; reset UNLOCKED. -/
  state : OrbitState
  /-- Whether a first lock has happened since power-on, 1 bit; R47; reset false. -/
  everLocked : Bool
  /-- Correction still to be slewed, ns; R47; reset 0. -/
  slew : Int
  /-- Reference ns since the last ns of correction; R47; reset 0. -/
  slewPhase : Nat
  /-- ORBIT_PPS_SECONDS has been written, 1 bit; R398; reset false. -/
  ppsArmed : Bool
  /-- REF is valid, 1 bit; R398; reset false. -/
  refValid : Bool
  /-- The current REF window is whole (it started after REF returned), 1 bit; R398; reset true. -/
  refWhole : Bool
  /-- Reference time at which REF became invalid, ns; R398; reset 0. -/
  refInvalidAt : Nat
  /-- Frequency of REF against 10 MHz in the last window, parts in 10^9; R398; reset 0. -/
  refPpb : Int
  /-- What REF has counted beyond the module reference since the last accepted edge, 10^-9 ns; R398; reset 0. -/
  refExtra : Int
  /-- Reference time up to which that count runs, ns; R398; reset 0. -/
  refCountAt : Nat
  /-- Reference time of the last accepted edge, ns; R398; reset 0. -/
  edgeRef : Nat
  /-- Second named by the last accepted edge; R398; reset 0. -/
  edgeSec : Nat
  /-- Reference time of the last ORBIT_SOURCE change, ns; R404; reset 0. -/
  sourceAt : Nat
  /-- ORBIT_FLAGS UPSTREAM_HOLDOVER, 1 bit; R404; reset 0. -/
  upstream : Bool
  /-- ORBIT_FLAGS ON_ALT_PORT, 1 bit; R404; reset 0. -/
  onAlt : Bool
  /-- ORBIT_FLAGS DIVERGED, 1 bit; R404; reset 0. -/
  diverged : Bool
  /-- Reference time since which the offset has been above 1 µs, if it is; R402; reset none. -/
  divergedAt : Option Nat
  /-- Offsets of the latest consecutive BEACONs by port, newest first, at most 16; R402; reset empty. -/
  run : Tab (List Int)
  /-- SEQ and reference time of the last BEACON by port; R400, R402; reset empty. -/
  heard : Tab (BitVec 16 × Nat)
  /-- Consecutive BEACONs missing on the port in use; R402; reset 0. -/
  missRun : Nat
  /-- Reference time of the last accepted BEACON, ns; R402; reset 0. -/
  beaconAt : Nat
  /-- SEQ of the next BEACON sent, 16 bits; R400; reset 0. -/
  beaconSeq : BitVec 16
  /-- LEAD_FABRIC of accepted BEACONs, 16 bits; R400; reset 0xFFFF [2]. -/
  lead : Nat
  /-- The last 16 round trips (t4 − t1) − (t3 − t2) measured by port, ns, newest first; R401; reset empty. -/
  delays : Tab (List Int)
  /-- Offsets of the latest consecutive Sync messages, newest first, at most 16; R399; reset empty. -/
  ptpRun : List Int
  /-- PTP end-to-end path delay, ns; R399; reset 0. -/
  ptpDelay : Int
  /-- Times of the Delay_Req that waits for its answer: the Sync's, its receipt's, its own; R399; reset none. -/
  ptpReq : Option (Nat × Nat × Nat)
  /-- Best master data set heard by the best master clock algorithm, smaller is better; R399; reset none. -/
  ptpMaster : Option Nat
  /-- Reference time of the last Sync, ns; R399; reset 0. -/
  ptpAt : Nat
  /-- Orbit value at the first lock, the start of the first minute that may close; R253; reset 0. -/
  lockAt : Nat
  /-- Reference time of the last BEACON_SEND, ns; R400; reset 0. -/
  beaconSentAt : Nat
  /-- Reference time of the last BEACON counted as missing, ns; R402; reset 0. -/
  beaconMissAt : Nat
  /-- Reference time of the last DELAY_REQ_SEND, ns; R401; reset 0. -/
  delayReqAt : Nat
  deriving DecidableEq, Repr

/-- Where the module stands between no input and service (R465 to R470). -/
inductive PowerPhase where
  | off | boot | up | faultStop
  deriving DecidableEq, Repr

/-- The input band of R456: the operating range, the bands above and below it, and what lies beyond those. -/
inductive InputBand where
  | normal | high | low | over | under
  deriving DecidableEq, Repr

/-- Input, throttling, thermal state, power states and the sideband pins (R454 to R474, R521, R526). -/
structure PowerUnit where
  /-- Phase; R465, R467, R470; reset off [1]. -/
  phase : PowerPhase
  /-- BOOT_STEP, 8 bits; R452, R465; reset 3. -/
  bootStep : Nat
  /-- Boot halt, 1 bit; R466; reset false. -/
  bootHalt : Bool
  /-- DRAIN given, 1 bit; R468; reset false. -/
  draining : Bool
  /-- FAULT_REASON, 16 bits; R470; reset 0. -/
  faultReason : Nat
  /-- SVC_REASON, 32 bits, journaled; R469; reset 0. -/
  svcReason : W32
  /-- ROLE_SEL straps as sampled, 2 bits; R377, R526; reset 3 (open straps). -/
  roleSel : Nat
  /-- SLOT_ID straps as sampled, 5 bits; R446, R526; reset 31 (open straps). -/
  slotId : Nat
  /-- PWR_GOOD pin, asserted; R472, R521; reset false. -/
  pwrGood : Bool
  /-- SVC_REQ_N pin, asserted; R472, R521; reset false. -/
  svcReqPin : Bool
  /-- FAULT_N pin, asserted; R472, R521; reset false. -/
  faultPin : Bool
  /-- LEAK parameter, 1 bit; R474; reset 0. -/
  leak : Bool
  /-- Input band; R456; reset normal [2]. -/
  band : InputBand
  /-- Rail switched off under REGULATOR, if any; R471; reset none. -/
  failedRail : Option Nat
  /-- ns since the rails went off after a power-fail, if they did; R457; reset none. -/
  railsOffAt : Option Nat
  /-- Power share in 64ths, 0 to 64; R458; reset 0. -/
  powerShare : Nat
  /-- Thermal share by die in 64ths; R458; reset empty (0). -/
  thermalShare : Tab Nat
  /-- Excursion credit E in units of 10 nJ; R459; reset 800,000,000 (8 J). -/
  credit : Int
  /-- E has been full since the last excursion, 1 bit; R474; reset true. -/
  creditFull : Bool
  /-- Load steps measured, (mV, mA), newest first, at most 32; R461; reset empty. -/
  zSamples : List (Nat × Nat)
  /-- Input power of the last 100 updates of 10 µs, mW, newest first; R474 (INPUT_P over 1 ms); reset empty. -/
  powerHist : List Nat
  /-- What a start-up held at step 4 meets in its later steps; R466; reset none. -/
  heldFacts : Option BootFacts
  /-- IMPEDANCE_HIGH raised since start-up, 1 bit; R461; reset false. -/
  zRaised : Bool
  /-- Dies whose reading is at or above DIE_TEMP_LIMIT; R462; reset empty. -/
  hotDies : List Nat
  /-- The inlet is above COOLANT_IN_MAX, 1 bit; R463; reset false. -/
  coolantHot : Bool
  /-- COOLANT_SENSOR_FAULT raised, inlet and outlet; R463; reset empty. -/
  sensorFaults : List Nat
  /-- Input energy below one joule, units of 10 nJ; R474; reset 0. -/
  energyRest : Nat
  deriving DecidableEq, Repr

/-- A substitution decided or running on a die (R24, R26, R30). -/
structure Subst where
  die     : Nat
  lc      : Nat
  spare   : Nat
  reload  : Bool
  started : Bool
  deriving DecidableEq, Repr

/-- The repair state of one array (R34, R121). -/
inductive ArrayRepair where
  | none
  | column (f : Nat)
  | spareBad
  deriving DecidableEq, Repr

/-- A bridge (R19, R20). -/
inductive BridgeState where
  | full | detour | failed
  deriving DecidableEq, Repr

/-- Cores, kennel, arrays, bridges and core microcode (R18 to R37, R120 to R124, R485, R490). -/
structure CoreUnit where
  /-- Logical-to-physical maps, 8 bits an entry, key 128 × die + LC, 0xFF = ABSENT; R21, R31; reset empty (the default map of R22). -/
  map : Tab Nat
  /-- Physical cores marked failed, key 136 × die + PC; R24, R30; reset empty. -/
  failed : List Nat
  /-- Module octets withdrawn; R29; reset empty. -/
  withdrawn : List Nat
  /-- Substitutions, in the order decided; R26, R30; reset empty. -/
  subst : List Subst
  /-- Array repairs, key 128 × (136 × die + PC) + array; R34, R121; reset empty (no field repair). -/
  arrays : Tab ArrayRepair
  /-- Soft-fuses waiting for a task boundary, same key and the column; R122; reset empty. -/
  fusePending : List (Nat × Nat)
  /-- Reference time of each core's last passing array test, ns, key module logical core; R120, R123; reset empty (0). -/
  testedAt : Tab Nat
  /-- Cores under array test, 2 × module logical core, plus 1 for a forced test; R120; reset empty. -/
  testing : List Nat
  /-- Orbit value of each core's last passing array test, 64 bits; R123; reset empty (0). -/
  testedOrbit : Tab Nat
  /-- Octets of the shared pool in effect, 64 bits; R233; reset 0. -/
  poolNow : Nat
  /-- Moons that completed a GEMM on a core since its last passing test, key module logical core; R123; reset empty. -/
  gemmMoons : Tab (List Nat)
  /-- Arrays that failed their core's last test, key 128 × module logical core + array: orbit value of the array's own last passing test and the
  moons that completed a GEMM on the core since; R123; reset empty. -/
  faulty : Tab (Nat × List Nat)
  /-- Reference time at which a cycle of background tests began, ns; R124; reset 0. -/
  testCycleAt : Nat
  /-- ARRAY_TEST_INTERVAL of that cycle, s; R124; reset 0 (no cycle yet). -/
  testCycleSec : Nat
  /-- Bridges 0 to 5 (BR01, BR12, BR23, BR30, BR02, BR13); R18 to R20; reset empty (full). -/
  bridges : Tab BridgeState
  /-- Wire groups of each bridge that spare groups replace; R19; reset empty (0). -/
  bridgeSpares : Tab Nat
  /-- Loaded microcode version by physical core, 32 bits, key 136 × die + PC; R490; reset empty (0). -/
  mcode : Tab Nat
  /-- RELOAD_STALE is in effect, 1 bit; R490; reset false. -/
  reloading : Bool
  /-- SRAM error times by physical core, key 136 × die + PC: (reference ns, word); R485; reset empty. -/
  uncorrected : Tab (List (Nat × Nat))
  /-- Correctable SRAM error times by physical core; R485; reset empty. -/
  corrected : Tab (List Nat)
  /-- Vector register bytes that are not zero, key 65,536 × module logical core + byte; R126, R183; reset empty (0). -/
  vregs : List Host.Cell
  deriving DecidableEq, Repr

/-- What a 2 MiB page of a stack's window is used for (R41, R181, R225). -/
inductive PageUse where
  | free | granted | save | retired | retirePending
  deriving DecidableEq, Repr

/-- A window page: its use and the moon whose key encrypts it (R170, R171). -/
structure PageInfo where
  use   : PageUse
  owner : Nat
  deriving DecidableEq, Repr

/-- A page table entry with V = 1 (R168); an index without one has V = 0. -/
structure PageEntry where
  r         : Bool
  w         : Bool
  poison    : Bool
  migrating : Bool
  stack     : Nat
  page      : Nat
  owner     : Nat
  deriving DecidableEq, Repr

/-- Retention class of a memory-side cache line (R161). -/
inductive MscClass where
  | normal | high
  | drop (count : Nat)
  deriving DecidableEq, Repr

/-- A line of a memory-side cache (R161, R162): line address HPA / 256, the moon whose key encrypts it; `comet` is the die whose comet filled it,
until a demand read hits it (R175); `before` holds the bytes HBM keeps if the line is dropped unwritten. -/
structure MscLine where
  line     : Nat
  moon     : Nat
  cls      : MscClass
  dirty    : Bool
  comet    : Option Nat
  poisoned : Bool
  before   : List Host.Cell
  marks    : List Nat
  deriving DecidableEq, Repr

/-- A byte that stands dirty in a core's operand cache (R155, R156). -/
structure DirtyByte where
  core  : Nat
  moon  : Nat
  ring  : Nat
  seq   : W32
  ma    : Nat
  value : Byte
  deriving DecidableEq, Repr

/-- An HBM row's tracking and repair state (R179, R180), and the window page where it last failed. -/
structure RowInfo where
  page     : Nat
  ceTimes  : List Nat
  soft     : Bool
  hard     : Bool
  rejected : Bool
  holding  : Bool
  deriving DecidableEq, Repr

/-- A valid line of a core's operand cache (R155, R156): line address MA / 128. -/
structure OpLine where
  core : Nat
  moon : Nat
  line : Nat
  deriving DecidableEq, Repr

/-- An entry of a die's translation cache, tagged by moon (R168): the MA page index. -/
structure TlbEntry where
  die  : Nat
  moon : Nat
  page : Nat
  deriving DecidableEq, Repr

/-- Where a die's comet stands in an HBM read stream of a task (R173, R174): the stream by its base address, bytes in stream order. -/
structure CometStream where
  die     : Nat
  moon    : Nat
  ring    : Nat
  seq     : W32
  base    : Nat
  pos     : Nat
  stopped : Bool
  deriving DecidableEq, Repr

/-- The position of a task in one of its HBM read streams (R173): the stream by its base address, bytes in stream order. -/
structure StreamPos where
  moon : Nat
  ring : Nat
  seq  : W32
  base : Nat
  pos  : Nat
  deriving DecidableEq, Repr

/-- Scratchpad, caches and HBM (R153 to R185, R491). -/
structure MemUnit where
  /-- HBM bytes as their owner reads them, key HPA, canonical; R40, R171, R172; reset empty (0) [3]. -/
  hbm : List Host.Cell
  /-- Scratchpad bytes, key SPA, canonical; R39, R159, R183; reset empty (0). -/
  spm : List Host.Cell
  /-- Window pages in use, key 32,768 × stack + page; R41, R181; reset empty (free). -/
  pages : Tab PageInfo
  /-- Failing 32-byte HBM sectors, HPA / 32; R177; reset empty. -/
  ueHbm : List Nat
  /-- Failing 8-byte scratchpad words, SPA / 8; R177; reset empty. -/
  ueSpm : List Nat
  /-- Failing 8-byte words of dirty operand-cache lines: core, moon, moon address / 8; R176, R177; reset empty. -/
  ueOpc : List (Nat × Nat × Nat)
  /-- Memory-side cache lines, most recently used first; R160 to R163; reset empty. -/
  msc : List MscLine
  /-- Dirty bytes in the operand caches, newest first; R155, R156; reset empty. -/
  dirty : List DirtyByte
  /-- HBM_REFRESH_BAND by stack, 8 bits; R167; reset empty (1). -/
  band : Tab Nat
  /-- Row error tracking, key row number within the stack + 2^32 × stack; R179; reset empty. -/
  rows : Tab RowInfo
  /-- Valid lines of the operand caches, most recently used first; R155; reset empty. -/
  opc : List OpLine
  /-- Entries of the translation caches, newest first; R168; reset empty. -/
  tlb : List TlbEntry
  /-- Where comet stands in the streams it has read ahead; R173; reset empty. -/
  comet : List CometStream
  /-- Where running tasks stand in their HBM read streams; R173; reset empty. -/
  demand : List StreamPos
  /-- Reference time of a page's last scrub, ns, key 32,768 × stack + page; R178; reset empty (none yet). -/
  hbmScrubAt : Tab Nat
  /-- Reference time of a segment's last scrub, ns, by scratchpad number as SCRUB_SCRATCHPAD names it; R178; reset empty (none yet). -/
  spmScrubAt : Tab Nat
  /-- The window page that stands in for a retired private page, key 256 × stack + private page; R165; reset empty. -/
  privPages : Tab Nat
  /-- Pages of a migrating moon that pre-copy has sent and nothing has written since, page keys; R245; reset empty. -/
  sentPages : List Nat
  /-- Channel in its recalibration window by stack; R491; reset empty. -/
  recal : Tab Nat
  /-- Stack temperature at the last window, millidegrees, by channel key 32 × stack + channel; R491; reset empty (0). -/
  recalTemp : Tab Int
  /-- Reference time of the last window by channel, ns; R491; reset empty (0). -/
  recalAt : Tab Nat
  /-- Last temperature read by stack, millidegrees; R167; reset empty (0). -/
  temp : Tab Int
  /-- Window pages whose retirement runs, keys 32,768 × stack + page; R181; reset empty. -/
  retirePend : List Nat
  deriving DecidableEq, Repr

/-- A ring's state (R206, R209). -/
inductive RingState where
  | disabled | running | halted | draining
  deriving DecidableEq, Repr

/-- One command ring's register block (R204 to R208). -/
structure Ring where
  /-- RING_BASE, 64 bits; R204; reset 0 [2]. -/
  base : Nat
  /-- CPL_BASE, 64 bits; R204; reset 0 [2]. -/
  cplBase : Nat
  /-- RING_CFG LOG2_SIZE, 5 bits; R205; reset 0. -/
  log2 : Nat
  /-- RING_CFG ENABLE, 1 bit; R205; reset 0. -/
  enable : Bool
  /-- RING_CFG IRQ_FAIL, 1 bit; R205; reset 1. -/
  irqFail : Bool
  /-- RING_TAIL, 32 bits; R204; reset 0 [2]. -/
  tail : W32
  /-- RING_HEAD, 32 bits; R204; reset 0 [2]. -/
  head : W32
  /-- RING_STARTED, 32 bits; R204; reset 0 [2]. -/
  started : W32
  /-- RING_STATUS STATE, 2 bits; R206; reset DISABLED. -/
  state : RingState
  /-- RING_STATUS DB_ERR, 1 bit; R206; reset 0. -/
  dbErr : Bool
  /-- RING_STATUS FAIL, 1 bit; R206; reset 0. -/
  fail : Bool
  /-- RING_STATUS CFG_ERR, 1 bit; R206; reset 0. -/
  cfgErr : Bool
  /-- RING_STATUS CPL_ERR, 1 bit; R206; reset 0. -/
  cplErr : Bool
  /-- RING_FAIL_SEQ, 32 bits; R204; reset 0 [2]. -/
  failSeq : W32
  /-- A failure is recorded in RING_FAIL_SEQ since the last RESUME or RESET; R204, R211; reset false. -/
  failKept : Bool
  deriving DecidableEq, Repr

/-- A task descriptor (R186, R187), parsed. -/
structure Desc where
  kind      : Nat
  moon      : Nat
  flags     : Nat
  taskId    : Nat
  notBefore : Nat
  wait0     : Nat
  wait1     : Nat
  sig0      : Nat
  sig1      : Nat
  w0Thresh  : Int
  w1Thresh  : Int
  s0Add     : Int
  s1Add     : Int
  coreMask  : Nat
  ext       : Nat
  extLines  : Nat
  karg16    : Nat
  karg32    : Nat
  deriving DecidableEq, Repr

/-- Where a task stands between fetch and the advance of RING_HEAD over it (R199 to R211). -/
inductive TaskPhase where
  | fetched    -- checked, not started
  | running    -- started
  | armed      -- ALARM: holds an alarm
  | done       -- every engine has finished, or failed, or discarded
  | recorded   -- signals applied, record issued
  | acked      -- record acknowledged, an earlier task not yet
  deriving DecidableEq, Repr

/-- A tile or row in progress on a core (R106, R128): moon-local core, unit number, first element of the next strip, suspended by
pre-emption (R232, R235) and in which order, for a row the terms its reductions have met, by stage (FP32 patterns; R141, R142, R151), and for a
tile the slots its pass has run before a pre-emption and the accumulators saved then, 32 bits with their status (R104). -/
structure WorkUnit where
  core  : Nat
  unit  : Nat
  pos   : Nat
  susp  : Bool
  terms : Tab (List Nat)
  slots : Nat
  accs  : List (List (Nat × Nat))
  order : Nat
  deriving DecidableEq, Repr

/-- Row statistics of one row (R111 to R113): FP32 patterns of m and s, flags. -/
structure RowAcc where
  m     : Nat
  s     : Nat
  flags : Nat
  deriving DecidableEq, Repr

/-- A flagged block and its residual (R73, R74): linear block number, element bytes, scale. -/
structure ResEntry where
  num   : Nat
  bytes : Bytes
  scale : Nat
  deriving DecidableEq, Repr

/-- A task from fetch until RING_HEAD passes it (R186 to R216): its descriptor and extension block as read, the moon-local cores it holds,
the cores it has run on, its units in progress, the next unit to hand out, units in all and not finished, what its record will carry. -/
structure Task where
  moon      : Nat
  ring      : Nat
  seq       : W32
  desc      : Desc
  ext       : Bytes
  phase     : TaskPhase
  cores     : List Nat
  seen      : List Nat
  work      : List WorkUnit
  next      : Nat
  units     : Nat
  left      : Nat
  rows      : Tab RowAcc
  resBlocks : List ResEntry
  flagged   : Nat
  result    : Nat
  error     : Nat
  detail    : Nat
  faultMa   : Nat
  cvt       : Nat
  kstatus   : Nat
  firstBad  : Nat
  late      : Bool
  sigOvf    : Bool
  preempted : Bool
  substd    : Bool
  released  : Bool
  alarmWait : Bool
  prio      : Option Nat
  startAt   : Nat
  endAt     : Nat
  engineNs  : Nat
  engine    : Option Nat
  deriving DecidableEq, Repr

/-- A synchronisation object (R195, R196): signed 32 bits, and whether it sticks; reset 0, not stuck. -/
structure SyncObj where
  value : Int
  stuck : Bool
  deriving DecidableEq, Repr

/-- Rings, tasks and synchronisation objects (R186 to R222). -/
structure TaskUnit where
  /-- Command rings, key 16 × moon + ring; R204; reset empty (Ring.reset). -/
  rings : Tab Ring
  /-- Tasks fetched and not yet acknowledged, oldest first; R199; reset empty. -/
  tasks : List Task
  /-- Synchronisation objects by module object number, 32 bits each; R194, R195; reset empty (0). -/
  objs : Tab SyncObj
  /-- Moon holding each synchronisation block; R194; reset empty. -/
  blocks : Tab Nat
  /-- Ring last served by each core, key module logical core, 16 for the pipeline unit; R200; reset empty (16, so that ring 0 is first) [2]. -/
  served : Tab Nat
  /-- Units suspended so far, which orders them; R232; reset 0. -/
  suspNo : Nat
  /-- Reference time of the last scheduler tick, ns; R234; reset none. -/
  tickAt : Option Nat
  /-- MOON_SHARE in force since the last scheduler tick, by moon; R257; reset empty (the parameter's default). -/
  shares : Tab Nat
  deriving DecidableEq, Repr

/-- The states of a moon (R228). -/
inductive MoonState where
  | free | admitting | active | waiting | suspended | resizing | migrating | moved | arriving | releasing
  deriving DecidableEq, Repr

/-- The operations of MOON_CMD (R226). -/
inductive MoonOp where
  | create | resize | release | suspend | resume | migrateOut | migrateIn | reclaim | cancel
  deriving DecidableEq, Repr

/-- The one command a moon has in progress (R227). -/
structure MoonJob where
  op      : MoonOp
  cmd     : MoonCmd
  who     : Who
  running : Bool
  deriving DecidableEq, Repr

/-- The ledger record of R252. -/
structure LedgerRec where
  recSeq     : W32
  moon       : Nat
  octets     : Nat
  flags      : Nat
  startOrbit : Nat
  endOrbit   : Nat
  engineUs   : Nat
  moveUs     : Nat
  heldUs     : Nat
  pageSec    : Nat
  txBytes    : Nat
  deriving DecidableEq, Repr

/-- A moon's open ledger span (R250, R251): totals in ns, page-ms and bytes, the flags of the span. -/
structure Ledger where
  /-- A span is open, 1 bit; R251; reset false. -/
  spanOpen : Bool
  /-- START_ORBIT, 64 bits; R252; reset 0. -/
  startOrbit : Nat
  /-- FLAGS of the open span, 16 bits; R252; reset 0. -/
  flags : Nat
  /-- Engine time, core-ns, remainder included; R250; reset 0. -/
  engineNs : Nat
  /-- Move engine time, ns; R250; reset 0. -/
  moveNs : Nat
  /-- Held core time, core-ns; R250; reset 0. -/
  heldNs : Nat
  /-- Page time, page-ns; R250; reset 0. -/
  pageNs : Nat
  /-- Link bytes; R250; reset 0. -/
  txBytes : Nat
  /-- REC_SEQ of the next record, 32 bits class C; R252; reset 0 [2]. -/
  recSeq : W32
  /-- Unacknowledged records, oldest first; R254; reset empty. -/
  records : List LedgerRec
  /-- Records were dropped unacknowledged, 1 bit; R254; reset false. -/
  gap : Bool
  deriving DecidableEq, Repr

/-- A whole moon being spilled to its save area or restored from it (E5 and E7 of R235). -/
inductive Swap where
  | none | spilling | restoring
  deriving DecidableEq, Repr

/-- Which side of a live migration a moon is on and how far it has come (R245). -/
inductive MigPhase where
  | none | precopy | handover | stateSent | awaitRunning | arriving | installed | uncertain
  deriving DecidableEq, Repr

/-- A chunk that has arrived whole (R365, R369): the port it came by (32 for the module's own receive path), its source and transfer, where it
goes and its bytes, and what its header says of the transfer. -/
structure Arrival where
  port      : Nat
  srcFabric : Nat
  srcMoon   : Nat
  xfer      : Nat
  ma        : Nat
  bytes     : Bytes
  hint      : Nat
  index     : Nat
  total     : Nat
  obj       : Nat
  add       : Int
  sig       : Bool
  deriving DecidableEq, Repr

/-- A moon: what it holds and how it stands (R223 to R257, R365, R368, R369). -/
structure Moon where
  /-- MOON_STATE, 8 bits; R228; reset FREE. -/
  state : MoonState
  /-- The state RESIZING, MIGRATING or a suspension returns to; R240, R247; reset FREE. -/
  prev : MoonState
  /-- POOL, 1 bit; R226; reset false. -/
  pool : Bool
  /-- PRIVILEGED, 1 bit; R226, R300; reset false. -/
  privileged : Bool
  /-- MOON_INFO octet mask as a list of module octets, ascending; R257; reset empty. -/
  octets : List Nat
  /-- POOL_COUNT, 8 bits; R226; reset 0. -/
  poolCount : Nat
  /-- LINK_SHARE, per mille; R226; reset 0. -/
  linkShare : Nat
  /-- HBM_PAGES reserved (PAGE_QUOTA), 32 bits; R226, R257; reset 0. -/
  hbmPages : Nat
  /-- Module block numbers held, in order of grant; R194; reset empty. -/
  blocks : List Nat
  /-- The command in progress; R227; reset none. -/
  job : Option MoonJob
  /-- MOON_CMD_STATUS, 32 bits; R227; reset 0. -/
  status : W32
  /-- Page table, key MA page index; R168; reset empty (V = 0). -/
  table : Tab PageEntry
  /-- Save area pages, keys 32,768 × stack + page; R225; reset empty. -/
  save : List Nat
  /-- Scratchpad image and contexts in the save area, key as in R225; reset empty (0). -/
  image : List Host.Cell
  /-- The moon's images stand in the save area, 1 bit; R235; reset false. -/
  spilled : Bool
  /-- PAGE_REQ_STATUS, 32 bits; R244; reset 0. -/
  pageReq : W32
  /-- Held arrivals that have left with the moon's state; R245, R371; reset 0. -/
  heldSent : Nat
  /-- MOON_DISPLACED, 1 bit; R249; reset false. -/
  displaced : Bool
  /-- Pool virtual time V in 10^-15 octet-ns per share; R234; reset 0. -/
  vtime : Nat
  /-- Pool octets that a tick has chosen for the moon and whose restore has not ended; R234; reset empty. -/
  nextOctets : List Nat
  /-- Reference time at which a pool moon became resident; R234; reset none. -/
  residentAt : Option Nat
  /-- A pool moon was runnable when last looked at, 1 bit; R234; reset false. -/
  runnable : Bool
  /-- RING_PRIO by ring, 2 bits; R232, R257; reset empty (0). -/
  prio : Tab Nat
  /-- MSC_KEEP_QUOTA set explicitly since creation, KiB; R163, R185; reset none. -/
  keepQuota : Option Nat
  /-- Ledger; R250 to R254; reset closed. -/
  ledger : Ledger
  /-- A spill or restore of the whole moon in progress; R235; reset none. -/
  swap : Swap
  /-- MIGRATE_OUT or MIGRATE_IN record in force; R245; reset none. -/
  migCmd : Option MoonCmd
  /-- Migration phase; R245; reset none. -/
  mig : MigPhase
  /-- Orbit or reference deadline of the migration's next message, ns on the module reference; R247; reset 0. -/
  migAt : Nat
  /-- Arrivals held while suspended, oldest first; R365; reset empty. -/
  held : List Arrival
  /-- LINK_RECV_WIN, 512 bytes; R369; reset empty (zeros). -/
  recvWin : Bytes
  /-- LINK_ROUTES, 512 bytes; R368; reset empty (zeros). -/
  routes : Bytes
  /-- Cores whose lower task of a kind the last tick marked for pre-emption, 1,024 × kind + moon-local core; R232; reset empty. -/
  marks : List Nat
  /-- Bytes of an ARRIVING moon's pages that pre-copy has brought, key MA, canonical; R245; reset empty (0). -/
  precopied : List Host.Cell
  /-- Failing 8-byte words of the image, save-area offset / 8; R236; reset empty. -/
  imageUe : List Nat
  /-- Reference time at which the spill or restore in progress began, ns; R256; reset 0. -/
  swapAt : Nat
  /-- Octet moves under way: the withdrawn octet, the free octet it goes to, the failed module core; R249; reset empty. -/
  moves : List (Nat × Nat × Nat)
  deriving DecidableEq, Repr

end Sys2Proof.Machine
end

