-- ==== Sys2Proof/Machine/Units.lean ====
section
/-! DEFINITION. The parts of State for serving, training, weight fetch, links, packs, host interface, dictionary, journal, firmware,
security and the test port: plain data. Field comments as in Machine/Types.lean: width; rule; reset. -/

namespace Sys2Proof.Machine

/-- The serving context as copied at the SERVE_CTX write (R258, R259). -/
structure ServeCtx where
  reqLog2   : Nat
  outLog2   : Nat
  reqRing   : Nat
  outRing   : Nat
  kvPool    : Nat
  kvPages   : Nat
  kvSpPages : Nat
  kvSp      : Nat
  treeBase  : Nat
  deriving DecidableEq, Repr

/-- Sampling values (R285): FP32 bit patterns and numbers. -/
structure Sampling where
  temp      : Nat
  topK      : Nat
  repWindow : Nat
  topP      : Nat
  repPen    : Nat
  presPen   : Nat
  freqPen   : Nat
  deriving DecidableEq, Repr

/-- The states of a live sequence (R263); FREE is the absence of a sequence. -/
inductive SeqState where
  | waiting | prefill | decode
  deriving DecidableEq, Repr

/-- A live sequence (R262 to R264, R275, R282). -/
structure Sequence where
  state      : SeqState
  slot       : Nat
  variant    : Nat
  tag        : Nat
  pos        : Nat
  promptDone : Nat
  promptLen  : Nat
  prompt     : Nat
  generated  : Nat
  maxNew     : Nat
  version    : BitVec 16
  spec       : Bool
  pinned     : Bool
  cancel     : Bool
  deferred   : Bool
  admitStep  : W32
  swapStep   : W32
  kv         : List Nat
  hist       : Option Nat
  stops      : List Nat
  sampling   : Sampling
  pendingTok : Nat
  swapped    : Bool
  deriving DecidableEq, Repr

/-- How a version stands in its slot (R265, R345). -/
inductive VersionKind where
  | current | staged | pinnedOld | waitingOverlay
  deriving DecidableEq, Repr

/-- A model version (R265, R345, R510). -/
structure Version where
  number   : BitVec 16
  kind     : VersionKind
  manifest : Bytes
  overlay  : Bytes
  derived  : Bool
  shared   : Option Nat
  vocab    : Nat
  layers   : Nat
  kvTpp    : Nat
  maxCtx   : Nat
  span     : Bool
  pages    : List Nat
  followers : List (Nat × Nat × Nat)
  deriving DecidableEq, Repr

/-- A variant of a slot (R291, R292). -/
structure Variant where
  experts  : Bool
  manifest : Bytes
  pages    : List Nat
  retired  : Bool
  /-- The slot has OPENed since F5 (R345). -/
  active   : Bool
  deriving DecidableEq, Repr

/-- A slot's registration (R332, R345). -/
structure Registration where
  vocab  : Nat
  layers : Nat
  kvTpp  : Nat
  maxCtx : Nat
  span   : Bool
  deriving DecidableEq, Repr

/-- SLOT_STATE (R266). -/
inductive SlotState where
  | empty | loading | ready | evicted
  deriving DecidableEq, Repr

/-- A waiting or armed swap (R289), held by a turn (R331). -/
structure SwapJob where
  pinned    : Bool
  whenOrbit : Option Nat
  armed     : Bool
  held      : Bool
  deriving DecidableEq, Repr

/-- A model slot (R265, R266, R289 to R295): its step number is 32 bits, class C (R271), reset 0 [2]. -/
structure Slot where
  state        : SlotState
  lastVersion  : BitVec 16
  versions     : List Version
  registration : Option Registration
  swap         : Option SwapJob
  variants     : Tab Variant
  unload       : Bool
  admitsOff    : Bool
  running      : Option (Nat × W32)
  stepTimes    : List Int
  step         : W32
  deriving DecidableEq, Repr

/-- One work-list entry of a running step (R271, R278 to R281). -/
structure Entry where
  index : Nat
  kind  : Nat
  rows  : Nat
  pos   : Nat
  row0  : Nat
  lrow0 : Nat
  tokens : List Nat
  parents : List Int
  line  : Nat
  treeBad : Bool
  deriving DecidableEq, Repr

/-- What a running STEP task holds between OPEN and CLOSE (R269, R293): its MODE, and for a follower whether the work list has come. -/
structure StepRun where
  ring      : Nat
  seq       : W32
  slot      : Nat
  step      : W32
  version   : BitVec 16
  entries   : List Entry
  logitBuf  : Nat
  vocab     : Nat
  kstatus   : BitVec 16
  followers : List (Nat × Nat × Nat)
  reported  : List Nat
  sentAt    : Nat
  outReserved : Nat
  mode      : Nat
  got       : Bool
  /-- FOLLOW: identity, moon and slot of the lead that sent the list (R293). -/
  lead      : Option (Nat × Nat × Nat)
  deriving DecidableEq, Repr

/-- Serving of one moon (R258 to R300). -/
structure Serve where
  /-- SERVE_CTX, 64 bits; R300; reset 0. -/
  ctxMa : Nat
  /-- The copied context; R259; reset none. -/
  ctx : Option ServeCtx
  /-- Live sequences by moon-local index; R261 to R264; reset empty (FREE). -/
  seqs : Tab Sequence
  /-- Generations by index, 18 bits class C; R262; reset empty (0). -/
  gens : Tab Nat
  /-- Model slots 0 to 15; R265; reset empty (Slot.reset). -/
  slots : Tab Slot
  /-- Running steps; R268; reset empty. -/
  runs : List StepRun
  /-- KV pages in use, by page number of the pool; R282; reset empty. -/
  kvUsed : List Nat
  /-- Scratchpad KV pages: pool page standing in each; R284; reset empty. -/
  kvSp : Tab Nat
  deriving DecidableEq, Repr

/-- STATE of PIPE_STATUS (R313). -/
inductive PipeState where
  | off | running | draining | halted
  deriving DecidableEq, Repr

/-- The pipeline record (R303), parsed. -/
structure PipeRec where
  manual     : Bool
  flush      : Bool
  recompute  : Bool
  stage      : Nat
  stages     : Nat
  actLayers  : Nat
  spillSlots : Nat
  mbPerStep  : Nat
  prefetch   : Nat
  fwdIn      : Nat
  bwdIn      : Nat
  tiles      : Nat
  fwdPlan    : Nat
  bwdPlan    : Nat
  updPlan    : Nat
  stashTable : Nat
  layerTable : Nat
  layers     : Nat
  actBytes   : Nat
  actRegion  : Nat
  actSpill   : Nat
  spillBytes : Nat
  cmdRing    : Nat
  cmdLog2    : Nat
  deriving DecidableEq, Repr

/-- A program of the pipeline unit (R305). -/
inductive Program where
  | forward (mb : W32)
  | backward (mb : W32)
  | update (first count : Nat)
  deriving DecidableEq, Repr

/-- The tallies of a layer since the last update (R321), and its GTAG as read at START; the entry itself stands in the moon's memory. -/
structure Layer where
  gtag   : Nat
  e4Ovf  : Nat
  e4Unf  : Nat
  e5Ovf  : Nat
  e5Unf  : Nat
  elems  : Nat
  deriving DecidableEq, Repr

/-- A micro-batch in flight (R306, R315, R319): its number, whether its retained activations stand in the region, the versions it used by parity. -/
structure InFlight where
  mb       : W32
  inRegion : Bool
  deriving DecidableEq, Repr

/-- LAYOUT of TURN_STATE (R330). -/
inductive Layout where
  | none | generate | learn
  deriving DecidableEq, Repr

/-- PHASE of TURN_STATE (R330). -/
inductive TurnPhase where
  | idle | pending | draining | transforming | barrier | done | failed
  deriving DecidableEq, Repr

/-- Pipeline unit, gradient-noise statistic, snapshots and turns of one moon (R303 to R336). -/
structure Train where
  /-- PIPE_CTX, 64 bits; R303; reset 0. -/
  ctxMa : Nat
  /-- The pipeline record installed; R303, R331; reset none. -/
  pipeRec : Option PipeRec
  /-- PIPE_STATUS STATE, 3 bits; R313; reset OFF. -/
  state : PipeState
  /-- PIPE_STATUS ERROR, 8 bits; R313; reset 0. -/
  error : Nat
  /-- PIPE_STATUS TASK, 16 bits; R313; reset 0. -/
  task : Nat
  /-- PIPE_STATUS CODE, 16 bits; R313; reset 0. -/
  code : Nat
  /-- The program that runs or failed; R306; reset none. -/
  program : Option Program
  /-- It is running, 1 bit; R306; reset false. -/
  active : Bool
  /-- The failed program has taken its consumptions and holds already, 1 bit; R312; reset false. -/
  taken : Bool
  /-- MANUAL: the program of the command at the head of the ring, once checked; R309; reset none. -/
  nextProgram : Option Program
  /-- Which of the two plan rings the current program uses (the model's own), 1 bit; R310; reset false. -/
  side : Bool
  /-- The program whose prefetch group stands in the other plan ring; R310; reset none. -/
  prefetched : Option Program
  /-- A RESET waits for started tasks and derivations, 1 bit; R304; reset false. -/
  resetting : Bool
  /-- Number of the next forward, 32 bits; R304; reset 0. -/
  nextMb : W32
  /-- Micro-batches in flight, oldest first; R306; reset empty. -/
  inFlight : List InFlight
  /-- Forwards completed in this step, R307; reset 0. -/
  fwdInStep : Nat
  /-- Backwards completed since the last update; R308; reset 0. -/
  bwdSince : Nat
  /-- Updates completed since START, 32 bits; R305; reset 0. -/
  steps : W32
  /-- Layer tallies by number; R321; reset empty (Layer.reset). -/
  layers : Tab Layer
  /-- Micro-batch whose activations are being restored; R320; reset none. -/
  restoring : Option W32
  /-- CMD_HEAD, 32 bits; R303; reset 0. -/
  cmdHead : W32
  /-- Reference time at which a wait for a derivation began; R336; reset none. -/
  waitAt : Option Int
  /-- ns of such waits not yet counted as a whole µs; R336; reset 0. -/
  waitNs : Nat
  /-- The current program is a command of the ring, 1 bit; R303, R309; reset false. -/
  fromRing : Bool
  /-- GNS_CFG; R326; reset none (zeros). -/
  gns : Option GnsCfg
  /-- Sum L, FP64 pattern; R326; reset 0. -/
  gnsL : Nat
  /-- Sum G, FP64 pattern; R326; reset 0. -/
  gnsG : Nat
  /-- First sample taken, 1 bit; R327; reset false. -/
  gnsSeen : Bool
  /-- The average that GNS_G2 shows, FP64 pattern; R327; reset 0. -/
  gnsMean : Nat
  /-- The average that GNS_S shows, FP64 pattern; R327; reset 0. -/
  gnsNoise : Nat
  /-- SNAP_CMD in progress and its writer; R328; reset none. -/
  snap : Option (SnapCmd × Who)
  /-- Snapshot stage: 0 none, 1 pending, 2 armed, 3 captured, 4 on its way to the peer; R329; reset 0. -/
  snapStage : Nat
  /-- SNAP_STATE, 32 bits; R329; reset 0. -/
  snapState : W32
  /-- SNAP_ACCEPT; R328; reset none (zeros). -/
  accept : Option SnapAccept
  /-- LAYOUT; R330; reset NONE. -/
  layout : Layout
  /-- PHASE; R330; reset IDLE. -/
  phase : TurnPhase
  /-- CODE of TURN_STATE, 16 bits; R330; reset 0. -/
  turnCode : Nat
  /-- The turn in progress, its direction (true for TO_LEARN) and writer; R330; reset none. -/
  turn : Option (TurnCmd × Bool × Who)
  /-- Reference time of the turn's WHEN firing, for TIMEOUT; R333; reset 0. -/
  turnAt : Int
  /-- Reference time of the drain point; R334; reset 0. -/
  drainAt : Int
  deriving DecidableEq, Repr

/-- The operations of FETCH_CMD (R341). -/
inductive FetchOp where
  | loadBase | loadOverlay | loadVariant | attachShared | dropShared | cancel
  deriving DecidableEq, Repr

/-- A fetch in progress (R344): its command and writer, the checked header, hash table and manifest digest, the chunks verified, whether the
next chunk has mismatched once, the MA pages granted, the slot's state before F1; through BAR4 the ranges received, the bytes before the image,
and the reference time at which a buffer last became FULL (R349). -/
structure FetchJob where
  op        : FetchOp
  cmd       : FetchCmd
  who       : Who
  headerOk  : Bool
  header    : Bytes
  hashes    : Bytes
  manifest  : Bytes
  verified  : List Nat
  retried   : List Nat
  granted   : List Nat
  prevSlot  : SlotState
  cancel    : Bool
  slotGone  : Bool
  received  : List (Nat × Nat)
  pre       : List Host.Cell
  fullAt    : Nat
  deriving DecidableEq, Repr

/-- A shared base (R347, R353). -/
structure SharedBase where
  state    : Nat
  manifest : Bytes
  pages    : List Nat
  attached : Nat
  header   : Bytes
  deriving DecidableEq, Repr

/-- A buffer descriptor of the BAR4 window (R349). -/
structure Bar4Buf where
  offset : Nat
  len    : Nat
  full   : Bool
  bytes  : List Host.Cell
  deriving DecidableEq, Repr

/-- Fetch engine, shared bases and the BAR4 window (R337 to R353). -/
structure FetchUnit where
  /-- Fetch in progress by moon; R341; reset empty. -/
  jobs : Tab FetchJob
  /-- FETCH_STATUS by moon, 32 bits; R341; reset empty (0). -/
  status : Tab W32
  /-- Shared bases 0 to 15; R347; reset empty (EMPTY). -/
  shared : Tab SharedBase
  /-- Moon whose fetch owns the BAR4 window (SESSION, WIN_STATE); R349; reset none (IDLE). -/
  bar4Owner : Option Nat
  /-- BAR4 buffers 0 to 62; R349; reset empty (EMPTY). -/
  bar4 : Tab Bar4Buf
  /-- The moon whose chunk the engine served last; R346; reset 63 (the round starts at moon 0). -/
  served : Nat
  deriving DecidableEq, Repr

/-- PORT_STATE STATE (R376). -/
inductive PortPhase where
  | disabled | down | training | up | retraining | failed
  deriving DecidableEq, Repr

/-- A link port (R354 to R376). -/
structure Port where
  /-- STATE; R376; reset DISABLED. -/
  phase : PortPhase
  /-- The port is enabled, 1 bit; R355, R376; reset true [2]. -/
  enabled : Bool
  /-- DEGRADED, 1 bit; R357; reset 0. -/
  degraded : Bool
  /-- SXL1, 1 bit; R358; reset 0. -/
  sxl1 : Bool
  /-- FORCED_112, 1 bit; R376; reset 0. -/
  forced112 : Bool
  /-- PROTO_REFUSED, 1 bit; R358; reset 0. -/
  protoRefused : Bool
  /-- FABRIC_CONFLICT, 1 bit; R361; reset 0. -/
  conflict : Bool
  /-- Last measurement of T2, by which T3 chose; R356; reset none. -/
  meas : Option ChanMeas
  /-- Orbit value of that measurement, 64 bits; R376; reset 0. -/
  measAt : Nat
  /-- Lane class 224 chosen, 1 bit; R357; reset false. -/
  class224 : Bool
  /-- Width: 0, 4 or 8; R357; reset 0. -/
  width : Nat
  /-- The partner as T6 learned it; R358; reset none. -/
  partner : Option Partner
  /-- SEQ of the next flit sent, 12 bits; R360; reset 0. -/
  txSeq : BitVec 12
  /-- SEQ expected next, 12 bits; R360; reset 0. -/
  rxSeq : BitVec 12
  /-- Flits sent and not acknowledged with their TYPE, oldest first, at most 1,024; R360; reset empty. -/
  retry : List (Nat × Flit)
  /-- Retries in a row of one flit; R360; reset 0. -/
  retryRun : Nat
  /-- Reference times of recent retries, ns; R360; reset empty. -/
  retryTimes : List Nat
  /-- Times of training failures with their clock: twice a reference time in ns, or twice an orbit value plus 1; R374; reset empty. -/
  failTimes : List Nat
  /-- Reference time of T1, ns; R355; reset 0. -/
  t1 : Nat
  /-- Credit held for VC0, flits; R363; reset 0. -/
  credit0 : Nat
  /-- Credit held for VC1, flits; R363; reset 0. -/
  credit1 : Nat
  /-- Credit held for VC2 by destination moon, flits; R363; reset empty (0). -/
  credit2 : Tab Nat
  /-- Flits of the common pool granted to a moon while its arrivals are held; R363; reset empty (0). -/
  rxUsed : Tab Nat
  /-- Flits of a moon's held arrivals whose credit is not returned; R365; reset empty (0). -/
  heldBy : Tab Nat
  /-- VC0 flits consumed whose credit the next CREDIT flit returns; R363; reset 0. -/
  owed : Nat
  /-- Reference time at which the port last left UP, ns; R370; reset 0. -/
  downAt : Nat
  /-- At width 4 the port runs on lanes 4 to 7, 1 bit; R357; reset false. -/
  high : Bool
  /-- What T8 published last: the measurement, its orbit value, lane class 224 and the width; R355, R376; reset none (zeros). -/
  shown : Option (ChanMeas × Nat × Bool × Nat)
  /-- A retraining has begun and its partner's flits are kept, 1 bit; R373; reset false. -/
  resume : Bool
  /-- A RETRY_REQ is out and the SEQ it waits for has not come, 1 bit; R360; reset false. -/
  asked : Bool
  /-- Moons that wait for credit of the common pool, oldest first; R363; reset empty. -/
  wants : List Nat
  /-- The bring-up repeats T3 to T6 at 112 Gb/s because the partner is SXL1 only; R358; reset false. -/
  repeat112 : Bool
  /-- Flits that wait for credit or retry-buffer room, oldest first; R360, R363, R373; reset empty. -/
  queue : List OutFlit
  /-- The round-robin turn: the queue served last (0 VC1, 1 + m moon m's VC2 traffic) and the flits it has sent in its turn; R363; reset (0, 0). -/
  turn : Nat × Nat
  deriving DecidableEq, Repr

/-- A chunk being received (R369). -/
structure RxChunk where
  port  : Nat
  flit  : Flit
  hdr   : ChunkHdr
  got   : Bytes
  refused : Bool
  deriving DecidableEq, Repr

/-- Chunks of one incoming transfer that have been written, or refused, which fails it (R370). -/
structure RxXfer where
  srcFabric : Nat
  srcMoon   : Nat
  xfer      : Nat
  destMoon  : Nat
  total     : Nat
  written   : List Nat
  refused   : Bool := false
  deriving DecidableEq, Repr

/-- An outgoing transfer of a SEND or of a remote shard (R350, R364 to R370): chunks in all, those sent and their ports, whether DELIVERED
has come, payload bytes, the reference time at which it last sent a chunk or opened; for a shard its chunks' addresses and bytes (a SEND's are read when a chunk starts). -/
structure TxXfer where
  moon       : Nat
  ring       : Nat
  seq        : W32
  xfer       : Nat
  destFabric : Nat
  destMoon   : Nat
  mask       : Nat
  total      : Nat
  sent       : List (Nat × Nat)
  delivered  : Bool
  bytes      : Nat
  chunks     : List (Nat × Bytes)
  pages      : List Nat
  hint       : Nat
  obj        : Nat
  add        : Int
  sig        : Bool
  openedAt   : Nat
  deriving DecidableEq, Repr

/-- Link ports, forwarding and transfers (R354 to R376). -/
structure LinkUnit where
  /-- Ports 0 to 31; R354; reset empty (Port.reset). -/
  ports : Tab Port
  /-- Forwarding table by FABRIC_ID, 32-bit port masks, journaled; R362; reset empty (0). -/
  fwd : Tab Nat
  /-- Egress port chosen for each transit chunk: ingress port, source fabric, source moon, XFER, egress port; R362; reset empty. -/
  transit : List (Nat × Nat × Nat × Nat × Nat)
  /-- DELIVERED and NACK flits, with their TYPE, that have found no port, oldest first; R373; reset empty. -/
  parked : List (Nat × Flit)
  /-- Chunks being received; R369; reset empty. -/
  rx : List RxChunk
  /-- Incoming transfers; R370; reset empty. -/
  rxXfers : List RxXfer
  /-- Outgoing transfers; R366; reset empty. -/
  tx : List TxXfer
  /-- Next transfer tag, 12 bits; R359; reset 0 [2]. -/
  nextXfer : BitVec 12
  deriving DecidableEq, Repr

/-- HEALTH of a member (R392). -/
inductive Health where
  | normal | suspect | watch | expelled
  deriving DecidableEq, Repr

/-- A member table entry (R378, R380, R381, R391, R392). -/
structure Member where
  fabric    : Nat
  silent    : Bool
  health    : Health
  svcReq    : Bool
  locked    : Bool
  missRun   : Nat
  answerRun : Nat
  score     : Nat
  answer    : Option (AnswerMsg × Nat)
  pollSeq   : BitVec 16
  polledAt  : Option Nat
  /-- Polling times of the manager's periods that have been used (R380). -/
  polls     : Nat
  deriving DecidableEq, Repr

/-- A barrier definition with its substitutions (R384, R389). -/
structure Barrier where
  defn   : BarDef
  gen    : W32
  moves  : List BarMove
  deriving DecidableEq, Repr

/-- An open barrier instance (R385). -/
structure Instance where
  arrived : List ArriveMsg
  openedAt : Nat
  deriving DecidableEq, Repr

/-- BARRIER_REC (R387). -/
structure BarRec where
  gen        : W32
  result     : Nat
  sample     : Bool
  modules    : Nat
  firstOrbit : Nat
  lastOrbit  : Nat
  gapNs      : Nat
  lastFabric : Nat
  order      : List Nat
  deriving DecidableEq, Repr

/-- Roles, polling, barriers and health (R377 to R396). -/
structure PackUnit where
  /-- ROLE_NOW, 8 bits; R377; reset 0. -/
  role : Nat
  /-- PACK_STATE, 8 bits; R382; reset 0. -/
  packState : Nat
  /-- Reference time of the last POLL, ns; R382; reset none. -/
  pollAt : Option Nat
  /-- BOOT_EPOCH last seen, 16 bits; R382; reset none. -/
  seenEpoch : Option (BitVec 16)
  /-- LEAD_FABRIC of the last POLL, 16 bits; R383; reset none. -/
  leadFabric : Option Nat
  /-- This manager's BOOT_EPOCH, 16 bits; R380; reset 0 [2]. -/
  bootEpoch : BitVec 16
  /-- POLL_SEQ of the next POLL, 16 bits; R380; reset 0 [2]. -/
  pollSeq : BitVec 16
  /-- Member entries 0 to 63; R378; reset empty. -/
  members : Tab Member
  /-- Barrier definitions 0 to 255; R384; reset empty (not VALID). -/
  barriers : Tab Barrier
  /-- Open instances by barrier; R385; reset empty. -/
  instances : Tab Instance
  /-- BARRIER_REC by barrier; R387; reset empty (zeros). -/
  records : Tab BarRec
  /-- Arrivals this module has sent and not seen released: moon, ring, task, message; R385; reset empty. -/
  sent : List (Nat × Nat × W32 × ArriveMsg)
  /-- The pack is frozen, 1 bit; R393; reset 0. -/
  frozen : Bool
  /-- Reference time at which the module started managing, ns: its poll periods of 100 µs run from then; R379, R380; reset 0. -/
  pollBase : Nat
  /-- Reference time of the last expulsion, ns; R394; reset 0. -/
  expelRef : Nat
  /-- LAST_EXPEL was set while orbit was UNLOCKED, 1 bit; R394; reset false. -/
  expelFree : Bool
  deriving DecidableEq, Repr

/-- STATE of MBX_STATUS (R416). -/
inductive MbxState where
  | idle | busy | done
  deriving DecidableEq, Repr

/-- An event held while the management controller restarts (R489): function, code, moon, orbit value, arguments. -/
structure HeldEvent where
  fn    : Nat
  code  : Nat
  moon  : Nat
  orbit : Nat
  args  : List Nat
  deriving DecidableEq, Repr

/-- One PCI Express function: event queue, mailbox and MSI-X (R416 to R424). -/
structure Func where
  /-- EVQ_BASE, 64 bits; R416; reset 0. -/
  evqBase : Nat
  /-- EVQ_CFG LOG2_SIZE, 4 bits; R416; reset 0. -/
  evqLog2 : Nat
  /-- EVQ_CFG ENABLE, 1 bit; R416; reset 0. -/
  evqEnable : Bool
  /-- EVQ_TAIL, 32 bits; R416; reset 0. -/
  evqTail : W32
  /-- EVQ_HEAD, 32 bits; R416; reset 0. -/
  evqHead : W32
  /-- EVQ_STATUS OVERFLOW, 1 bit; R416; reset 0. -/
  evqOverflow : Bool
  /-- EVQ_STATUS CFG_ERR, 1 bit; R416; reset 0. -/
  evqCfgErr : Bool
  /-- EVQ_DROPPED, 64 bits class A; R416; reset 0. -/
  evqDropped : Nat
  /-- Events were dropped since the last record, 1 bit; R422; reset false. -/
  lostBefore : Bool
  /-- MBX_STATUS STATE, 2 bits; R416; reset IDLE. -/
  mbx : MbxState
  /-- MBX_STATUS REFUSED, 1 bit; R416; reset 0. -/
  mbxRefused : Bool
  /-- MBX_STATUS RSP_LEN, 13 bits; R416; reset 0. -/
  rspLen : Nat
  /-- MBX_CTRL IRQ_EN, 1 bit; R416; reset 0. -/
  mbxIrq : Bool
  /-- Mailbox request buffer, 4 KiB; R415; reset empty (0) [2]. -/
  reqBuf : List Host.Cell
  /-- Mailbox response buffer, 4 KiB; R415; reset empty (0) [2]. -/
  rspBuf : Bytes
  /-- MSI-X table entries, 16 bytes each, key 16 × vector + byte; R415; reset empty (0) [2]. -/
  msixTable : List Host.Cell
  /-- Unmasked vectors; R421; reset empty (every vector masked) [2]. -/
  unmasked : List Nat
  /-- Pending bits; R421; reset empty. -/
  pendingVecs : List Nat
  /-- Bus Master Enable, 1 bit; R421; reset 0 [2]. -/
  busMaster : Bool
  /-- Writable bits of the configuration space by 32-bit register: BAR addresses, Max_Payload_Size, Max_Read_Request_Size, Completion Timeout, AER,
  ACS and ARI controls; R408, R414, R425; reset empty (the model's values) [22]. -/
  cfg : Tab Nat
  deriving DecidableEq, Repr

/-- A write of a function to BAR space that waits, under flow control, with those after it (R417, R426): through a ring window, to the moon and MA it
mapped to as it arrived; through BAR2; of RING_TAIL; of BAR0 otherwise. -/
inductive HostWrite where
  | window (fn moon ma : Nat) (data : Bytes)
  | bar2 (offset : Nat) (data : Bytes)
  | tail (fn moon ring : Nat) (value : W32)
  | reg (fn offset : Nat) (data : Bytes)
  deriving DecidableEq, Repr

/-- The endpoint (R407 to R427). -/
structure HostUnit where
  /-- Functions by number, 0 = PF, n = VF n; R411; reset empty (Func.reset). -/
  funcs : Tab Func
  /-- VF Enable, 1 bit; R412; reset 0 [2]. -/
  vfEnable : Bool
  /-- NumVFs, 6 bits; R412; reset 0 [2]. -/
  numVfs : Nat
  /-- WIN_BASE by moon, 64 bits; R415; reset empty (0) [2]. -/
  winBase : Tab Nat
  /-- WIN_DENIED by moon, 64 bits class A; R415, R417; reset empty (0). -/
  winDenied : Tab Nat
  /-- BAR2 size, bytes; R414; reset 512 GiB. -/
  bar2Size : Nat
  /-- PERST_N is asserted, 1 bit; R409; reset true. -/
  perst : Bool
  /-- The endpoint trains or is up, 1 bit; R409; reset false. -/
  linkTraining : Bool
  /-- Events that arose while the management controller restarts or before the queue is next served, oldest first; R489, R498, R515; reset empty. -/
  heldEvents : List HeldEvent
  /-- Mailbox requests copied and not yet answered, with their functions; R424; reset empty. -/
  taken : List (Nat × Bytes)
  /-- Requests taken before a firmware swap, held until it ends; function and bytes, with 64 added to a function reset since; R424, R489; reset
  empty. -/
  heldTaken : List (Nat × Bytes)
  /-- Writes that wait on a MIGRATING page, and those of the same function after them, oldest first; R417, R426; reset empty. -/
  waiting : List HostWrite
  deriving DecidableEq, Repr

/-- A staged write (R438). -/
structure Staging where
  who     : Who
  param   : Nat
  element : Nat
  bytes   : Bytes
  at_     : Nat
  deriving DecidableEq, Repr

/-- A snapshot for reads in pieces (R438). -/
structure PieceSnap where
  who     : Who
  param   : Nat
  element : Nat
  bytes   : Bytes
  at_     : Nat
  deriving DecidableEq, Repr

/-- A request forwarded through the gateway (R449 to R451): its number, its path, whether a mailbox waits for it, its header, the member it went
to, hops, and the reference time it was sent. -/
structure Forwarded where
  request : Nat
  origin  : Path
  mailbox : Bool
  frame   : Frame
  member  : Nat
  hops    : Nat
  sentAt  : Nat
  deriving DecidableEq, Repr

/-- A request of a management port or a link that has not yet been served (R442, R447). -/
structure HeldReq where
  path  : Path
  frame : Frame
  items : List (ItemOp × Item)
  deriving DecidableEq, Repr

/-- The last answer the dictionary or a read gave: item status (R439), frame status (R441), value. -/
structure Answer where
  frame  : Nat
  status : Nat
  stuck  : Bool
  last   : Bool
  value  : Bytes
  deriving DecidableEq, Repr

/-- The dictionary and the management ports (R428 to R453). -/
structure DictUnit where
  /-- Numeric parameter values, key 65,536 × parameter + element (MODEL_STEPS_TOTAL: + 256 × moon + slot); R428 to R430; reset empty (each parameter's default). -/
  params : Tab Nat
  /-- BLOB and STR parameter values, same key; R429; reset empty (each parameter's default). -/
  blobs : Tab Bytes
  /-- Selector copies by role, key 8 × parameter + role; R84, R300, R336, R376; reset empty (0). -/
  selectors : Tab Nat
  /-- Parameters whose class A counter sticks, same key as params; R218; reset empty. -/
  stuckList : List Nat
  /-- Staged writes; R438; reset empty. -/
  staging : List Staging
  /-- Snapshots for pieces; R438; reset empty. -/
  pieces : List PieceSnap
  /-- Highest accepted nonce, 64 bits; R434; reset 0. -/
  nonce : Nat
  /-- Journaled nonce ceiling, 64 bits; R434; reset 0 [2]. -/
  nonceCeil : Nat
  /-- Nonce mark of the provisional session, 64 bits; R506; reset 0. -/
  nonceProv : Nat
  /-- Requests forwarded to members; R450; reset empty. -/
  forwarded : List Forwarded
  /-- Number of the next forwarded request; R451; reset 0 [2]. -/
  nextRequest : Nat
  /-- Requests of management ports and links not yet served, oldest first; R442, R447; reset empty. -/
  held : List HeldReq
  /-- Dictionary bodies that CONTROL flits have brought in part, key 2 × FABRIC_ID of their sender, + 1 for a response; R435; reset empty. -/
  parts : Tab Bytes
  /-- Management ports fallen back to CSMA/CD; R446; reset empty. -/
  csma : List Nat
  /-- Reference time of the last PLCA BEACON by management port, ns; R446; reset empty (0). -/
  plcaAt : Tab Nat
  /-- The last answer given (the model's own output register); R436; reset OK and empty. -/
  answer : Answer
  deriving DecidableEq, Repr

/-- Class B groups (R219) and format statistics (R79 to R85). -/
structure StatUnit where
  /-- Class B counters, 32 bits, key 65,536 × parameter + element (format statistics: + 256 × moon + tag); R219; reset empty (0). -/
  cnt : Tab Nat
  /-- Snapshots of class B groups, same key; R219; reset empty (0). -/
  snap : Tab Nat
  /-- Interval start of each group by its first member's key: orbit value, orbit was not UNLOCKED; R219; reset empty (0, false). -/
  start : Tab (Nat × Bool)
  /-- Groups whose saturation event has been raised in this interval; R219; reset empty. -/
  raised : List Nat
  /-- FMT_STAT_INFO LAST_FMT and MIXED by 256 × moon + tag; R85; reset empty (0x1F). -/
  fmtInfo : Tab Nat
  /-- FMT_STAT_INFO as of the last snapshot, same key; R82; reset empty (0x1F). -/
  fmtSnap : Tab Nat
  /-- Core-cycles not yet counted as units of 65,536, key 65,536 × parameter + die; R99; reset empty (0). -/
  slotRest : Tab Nat
  deriving DecidableEq, Repr

/-- A journal record's payload (R477). -/
inductive JPayload where
  | ledgerClose (r : LedgerRec)
  | ledgerSnap (totals : List (Nat × List Nat))
  | ledgerAck (moon : Nat) (recSeq : W32)
  | coreMap (die lc phys cause : Nat)
  | softFuse (die phys array column repairs : Nat)
  | spareBad (die phys array : Nat)
  | hbmRepair (stack row kind count : Nat)
  | pageRetire (stack page state count : Nat)
  | coreFail (die phys cause count : Nat)
  | param (key value : Nat)
  | paramBlob (key : Nat) (value : Bytes)
  | nonceCeil (value : Nat)
  | counters (values : List (Nat × Nat))
  | health (entry status score : Nat) (counts : List Nat)
  | svc (reason : W32)
  | fault (reason : Nat)
  | fwBank (running trial otherState : Nat)
  | compactBegin (epoch target : Nat)
  | compactEnd (epoch s0 sLast count : Nat)
  deriving DecidableEq, Repr

/-- A journal record (R476). -/
structure JRec where
  seq       : W32
  time      : Nat
  timeLocal : Bool
  checkpoint : Bool
  payload   : JPayload
  deriving DecidableEq, Repr

/-- The journal (R475 to R484). -/
structure JournalUnit where
  /-- ACTIVE_REGION, 1 bit; R494; reset 0. -/
  active : Nat
  /-- JOURNAL_EPOCH, 32 bits; R494; reset 0. -/
  epoch : W32
  /-- Committed records of the active region, oldest first; R475, R478; reset empty (the epoch-0 checkpoint, R484). -/
  committed : List JRec
  /-- Records of the open page, oldest first; R478; reset empty. -/
  openPage : List JRec
  /-- Records of a page being programmed; R478; reset empty. -/
  programming : List JRec
  /-- SEQ of the next record, 32 bits; R476; reset 0 [2]. -/
  seq : W32
  /-- Written pages of the active region; R481; reset 1. -/
  pages : Nat
  /-- COMPACTING, 1 bit; R494; reset 0. -/
  compacting : Bool
  /-- S0 of the running compaction, 32 bits; R482; reset 0. -/
  s0 : W32
  /-- TORN, 1 bit; R494; reset 0. -/
  torn : Bool
  /-- RESET, 1 bit; R494; reset 0. -/
  wasReset : Bool
  /-- A valid region exists, 1 bit; R483; reset true. -/
  valid : Bool
  /-- SPARE blocks left; R475, R480; reset 128. -/
  spare : Nat
  /-- Erase count of the blocks of JR0 (0) and JR1 (1); R480; reset empty (0) [2]. -/
  erases : Tab Nat
  /-- A compaction trigger waits for a firmware swap or for Ready; R481; reset false. -/
  compactWaits : Bool
  /-- The journal has been reset in the field, so that each moon's first ledger record since carries GAP_BEFORE, 1 bit; R484; reset false. -/
  gapNext : Bool
  /-- Reference time of the last LEDGER_SNAP, ns; R477; reset 0. -/
  snapAt : Nat
  /-- Reference time of the last COUNTERS, ns; R477; reset 0. -/
  countAt : Nat
  deriving DecidableEq, Repr

/-- A firmware bank (R494, R497). -/
structure Bank where
  image   : Bytes
  digest  : Bytes
  version : Nat
  svn     : Nat
  mcode   : Nat
  valid   : Bool
  deriving DecidableEq, Repr

/-- Firmware and microcode (R488 to R492, R497 to R500). -/
structure FwUnit where
  /-- RUNNING, 1 bit; R488; reset 0. -/
  running : Nat
  /-- TRIAL, 1 bit; R488; reset 0. -/
  trial : Bool
  /-- OTHER_STATE, 2 bits; R488; reset 0. -/
  other : Nat
  /-- FELL_BACK, 1 bit; R488; reset 0. -/
  fellBack : Bool
  /-- LAST_OP, 8 bits; R488; reset 0. -/
  lastOp : Nat
  /-- CODE, 16 bits; R488; reset 0. -/
  code : Nat
  /-- Banks 0 (A) and 1 (B); R475, R494; reset empty (zeros). -/
  banks : Tab Bank
  /-- Reference time at which TRIAL began, ns; R488; reset 0. -/
  trialAt : Nat
  /-- A swap runs towards this bank, and whether it is an automatic revert; R489; reset none. -/
  swap : Option (Nat × Bool)
  /-- A start-up on the trial bank has begun and not reached step 9, 1 bit; R488; reset false. -/
  trialTried : Bool
  /-- The staging in progress: bytes expected; R488; reset none. -/
  staging : Option Nat
  /-- Ports still to retrain after an activation, ascending; R490; reset empty. -/
  retrainPorts : List Nat
  /-- FUSED_SVN, 8 bits; R500; reset 0 [2]. -/
  fusedSvn : Nat
  /-- ROM keys whose revocation fuse is blown; R498; reset empty [2]. -/
  revoked : List Nat
  deriving DecidableEq, Repr

/-- A live offer (R503): moon 0xFF for a session. -/
structure Offer where
  id   : Nat
  moon : Nat
  seed : Bytes
  at_  : Nat
  deriving DecidableEq, Repr

/-- A moon's key slot (R511 to R513). -/
structure KeySlot where
  key       : Option Bytes
  generated : Bool
  lastError : Nat
  deriving DecidableEq, Repr

/-- DEBUG_STATE (R515, R517). -/
inductive DebugState where
  | locked | recovery | full
  deriving DecidableEq, Repr

/-- Keys, sessions, reports and the debug lock (R495 to R517). -/
structure SecUnit where
  /-- Operator key digests fused, oldest first, 64 bytes each; R502; reset empty [2]. -/
  operatorKeys : List Bytes
  /-- Live offers; R503; reset empty. -/
  offers : List Offer
  /-- Provisional session: key, offer, digest of the ciphertext; R504; reset none. -/
  provisional : Option (Bytes × Nat × Bytes)
  /-- Proven session key; R505; reset none. -/
  proven : Option Bytes
  /-- Moon key slots; R511; reset empty (EMPTY). -/
  slots : Tab KeySlot
  /-- The module key is held, 1 bit; R496; reset false. -/
  moduleKey : Bool
  /-- ATTEST_NONCE by role and moon, key 8 × moon + role, 32 bytes; R509; reset empty (zeros). -/
  nonces : Tab Bytes
  /-- DEBUG_STATE, 8 bits; R517; reset LOCKED. -/
  debug : DebugState
  /-- Any unlock since power-on, 1 bit; R509; reset false. -/
  everUnlocked : Bool
  /-- Dies whose entropy source has failed a health test; R325; reset empty. -/
  entropyBad : List Nat
  /-- The live debug challenge, 32 bytes; R515; reset none. -/
  challenge : Option Bytes
  /-- Reference time of the last refused response; R515; reset none. -/
  refusedAt : Option Nat
  deriving DecidableEq, Repr

/-- The IEEE 1149.1 instruction in force (R527). -/
inductive JtagIr where
  | idcode | bypass | sample | extest
  deriving DecidableEq, Repr

/-- The test access port (R527). -/
structure JtagUnit where
  /-- Instruction in force, 8 bits; R527; reset IDCODE [2]. -/
  ir : JtagIr
  /-- Boundary cells as captured or loaded; R527; reset 0 [2]. -/
  cells : Nat
  /-- Data register as last selected or captured, 32 bits or more; R527; reset 0 [2]. -/
  dr : Nat
  deriving DecidableEq, Repr

/-- What a MIGRATE state transfer brings to the target (M5 of R245, R246, R299, R348): pages (MA index, R, W, POISON) and their bytes by MA,
shared pages (MA index, shared base's manifest, page of the base), the save area's image, objects by moon-relative number, rings, tasks
with their contexts, ring priorities, class B counters and intervals and class A counters by parameter and element within the moon, the
totals P7000 to P7004, serving and training state, held arrivals and the link and signing registers of the moon. -/
structure MigState where
  pages     : List (Nat × Bool × Bool × Bool)
  shared    : List (Nat × Bytes × Nat)
  marked    : List Nat
  pageBytes : List Host.Cell
  image     : List Host.Cell
  imageUe   : List Nat
  objects   : List (Nat × SyncObj)
  rings     : List (Nat × Ring)
  tasks     : List Task
  prio      : Tab Nat
  countB    : List (Nat × Nat × Nat)
  startB    : List (Nat × Nat × Nat × Bool)
  countA    : List (Nat × Nat × Nat)
  snapB     : List (Nat × Nat × Nat)
  raisedB   : List (Nat × Nat)
  fmtInfo   : List (Nat × Nat)
  fmtSnap   : List (Nat × Nat)
  stuck     : List (Nat × Nat)
  ledger    : List Nat
  serve     : Serve
  train     : Train
  held      : List Arrival
  routes    : Bytes
  recvWin   : Bytes
  signKey   : Bytes
  rxXfers   : List RxXfer := []
  deriving DecidableEq, Repr

/-- What the module sends or drives out, newest first in State (the model's own record of its outputs). -/
inductive Out where
  | msix (fn vector : Nat)
  | flit (port type : Nat) (flit : Flit)
  | control (port : Nat) (kind : CtlKind) (dest : Nat) (args : List Nat)
  | bus (data : Bytes)
  | dma (fn address : Nat) (data : Bytes)
  | dictFrame (path : Path) (body : Bytes)
  | migrate (moon peer peerMoon : Nat) (kind : CtlKind) (args : List Nat)
  | span (identity moon slot : Nat) (data : Bytes)
  | delayReq (orbit : Nat)
  | announce (port : Nat) (items : Partner)
  | migState (moon peer peerMoon : Nat) (state : MigState)
  deriving DecidableEq, Repr

end Sys2Proof.Machine
end

