-- ==== Sys2Proof/Syntax.lean ====
section
/-! DEFINITION. The commands of the block: one constructor of Instr for each row of spec/opcode_table.json. The table gives
no operands; those here are what the row's rules name (a function, a moon, a ring, a record, the value a sensor or a link brings). -/

namespace Sys2Proof

/-- The commands: one constructor per row of spec/opcode_table.json, in the table's order, those without operands after the others. -/
inductive Instr where
  /-- SUBSTITUTION_START (R26): At the task boundary of a core chosen for field or reload substitution, the module stops issue to it and begins copying its scratchpad segment to the chosen spare. -/
  | substitutionStart (die lc : Nat) (reload : Bool)
  /-- SUBSTITUTION_DONE (R26): The segment copy ends; the map entry is updated and journaled, and waiting tasks resume on the spare. -/
  | substitutionDone (die lc : Nat)
  /-- FMT_STAT_READ (R82): A read of FMT_STAT_ELEMS snapshots the five counters of a tag; a read from the moon's own role also clears them and starts a new interval. -/
  | fmtStatRead (who : Who) (tag : Nat)
  /-- GEMM (R192): An eligible GEMM task starts on its first free core and issues passes over its tiles. -/
  | gemm (moon ring : Nat)
  /-- GEMM_PASS_DONE (R93): A pass drains through the output unit and its tile is written; the next tile is handed to the first free core. -/
  | gemmPassDone (moon ring : Nat) (seq : W32) (core : Nat) (bubbles : Bubbles)
  /-- ARRAY_STAT_READ (R99): A read of ARRAY_SLOTS snapshots and clears a die's slot and bubble counters and starts a new interval. -/
  | arrayStatRead (who : Who) (die : Nat)
  /-- ARRAY_BACKGROUND_TEST (R120): On a core with no task, the module starts the known-answer background test of its arrays. -/
  | arrayBackgroundTest (die lc : Nat)
  /-- FORCED_ARRAY_TEST (R120): An array untested for ARRAY_TEST_INTERVAL forces a test of its core at the core's next task boundary. -/
  | forcedArrayTest (die lc : Nat)
  /-- ARRAY_TEST_DONE (R121): An array test completes and any failing column is soft-fused, marked as an unusable spare, or fails the core. -/
  | arrayTestDone (die lc : Nat) (fails : List (Nat × Nat))
  /-- SOFT_FUSE (R122): At a task boundary of the core, a journaled field soft-fuse commits and takes effect before the next task issues. -/
  | softFuse (die lc array column : Nat)
  /-- CHAIN (R130): An eligible CHAIN task starts and the sequencer begins cutting rows into strips. -/
  | chain (moon ring : Nat)
  /-- CHAIN_STRIP_DONE (R148): A strip of a CHAIN task finishes its stages and writes its outputs; the next strip or row starts. -/
  | chainStripDone (moon ring : Nat) (seq : W32) (core : Nat)
  /-- COMET_READ (R173): While the stack queue is less than half full, comet issues a read-ahead burst for a stream into the memory-side cache. -/
  | cometRead (die stream : Nat)
  /-- HBM_TEMP_SAMPLE (R167): Every 1 ms the HBM controller reads a stack's temperature and sets its refresh band, or enters Fault-Stop at 110 °C. -/
  | hbmTempSample (stack : Nat) (milliC : Int)
  /-- SCRUB_SCRATCHPAD (R178): The hourly scrub reads and corrects scratchpad words, reporting uncorrectable ones as poisoned scratchpad. -/
  | scrubScratchpad (core : Nat) (corrected : Nat) (failing : List Nat)
  /-- SCRUB_HBM (R178): The scrub reads and corrects HBM sectors once per HBM_SCRUB_PERIOD, starting row handling on uncorrectable ones. -/
  | scrubHbm (stack page : Nat) (corrected failing : List Nat)
  /-- SOFT_REPAIR_DONE (R180): The journal commits a soft repair record and the bank is released so held accesses proceed. -/
  | softRepairDone (stack row : Nat)
  /-- PAGE_RETIRE_DONE (R181): The copy of a retiring page ends; entries point to the new page, POISON is set if sectors were lost, and the retirement is journaled. -/
  | pageRetireDone (stack page : Nat) (lost : List Nat)
  /-- BAR2_READ (R184): A PF read through BAR2 returns page contents, zeros for free pages or all-ones for denied pages. -/
  | bar2Read (offset len : Nat)
  /-- BAR2_WRITE (R184): A PF write through BAR2 stores into moon 0 pages or is discarded and counted. -/
  | bar2Write (offset : Nat) (data : Bytes)
  /-- MEM_STAT_READ (R185): A read of the first counter of a memory statistics group snapshots and clears the group. -/
  | memStatRead (who : Who) (param element : Nat)
  /-- TASK_FETCH (R214): The module reads a published descriptor and its extension block and runs the fetch checks, failing the task on the first fault. -/
  | taskFetch (moon ring : Nat)
  /-- MOVE_COPY (R193): An eligible MOVE COPY task starts on a move engine and copies bytes unchanged. -/
  | moveCopy (moon ring : Nat) (hostData : Bytes)
  /-- MOVE_FILL (R193): An eligible MOVE FILL task starts and repeats FILL_VALUE over its destination. -/
  | moveFill (moon ring : Nat)
  /-- TRANSCODE (R350): An eligible TRANSCODE task converts, optionally transposes and scatters a tensor into shards. -/
  | transcode (moon ring : Nat) (hostData : Bytes)
  /-- SEND (R366): An eligible SEND task cuts its destination range into chunks for delivery to another module's moon. -/
  | send (moon ring : Nat)
  /-- SYNC_SIGNAL (R197): A SYNC SIGNAL task starts and completes at once with only its waits and signals. -/
  | syncSignal (moon ring : Nat)
  /-- SYNC_SET (R197): A SYNC SET task writes KARG32 into its objects and clears their stick. -/
  | syncSet (moon ring : Nat)
  /-- SYNC_DUMP (R197): A SYNC DUMP task writes the 256 values of a block and its stuck bitmap to memory. -/
  | syncDump (moon ring : Nat)
  /-- BARRIER (R385): An eligible BARRIER task starts and sends ARRIVE to its combiner. -/
  | barrier (moon ring : Nat)
  /-- ALARM (R202): An eligible ALARM task takes a free alarm within quota and its ring moves on. -/
  | alarm (moon ring : Nat)
  /-- ALARM_FIRE (R202): An armed alarm reaches NOT_BEFORE; its task applies its signals, completes and frees the alarm. -/
  | alarmFire (moon ring : Nat) (seq : W32)
  /-- NOT_BEFORE_RELEASE (R199): Orbit reaches a task's NOT_BEFORE and the task becomes eligible if its other conditions hold. -/
  | notBeforeRelease (moon ring : Nat)
  /-- TASK_COMPLETION (R211): Once every engine has finished and write-backs are acknowledged, the task's signals apply and its completion record is issued. -/
  | taskCompletion (moon ring : Nat) (seq : W32)
  /-- COMPLETION_RECORD_ACK (R211): The completion record write is acknowledged; RING_HEAD advances and interrupts are raised. -/
  | completionRecordAck (moon ring : Nat) (seq : W32)
  /-- RING_TAIL (R208): A doorbell write to RING_TAIL publishes descriptors, or is refused with DB_ERR. -/
  | ringTail (fn moon ring : Nat) (value : W32)
  /-- RING_CFG (R205): A RING_CFG write enables a ring with checked configuration, or clears ENABLE to reset and disable it. -/
  | ringCfg (fn moon ring : Nat) (value : W32)
  /-- RING_CTRL_RESUME (R207): RESUME moves a HALTED ring back to RUNNING past its failed tasks. -/
  | ringCtrlResume (fn moon ring : Nat)
  /-- RING_CTRL_RESET (R209): RESET sends a ring into DRAINING, discarding unstarted and disarmed tasks. -/
  | ringCtrlReset (fn moon ring : Nat)
  /-- TASK_STAT_READ (R222): A read of TASK_DONE snapshots the task counters, clearing them only for the moon's own role. -/
  | taskStatRead (who : Who) (moon : Nat)
  /-- CREATE (R230): MOON_CMD CREATE checks and grants octets, pages, save area, blocks and link share, then opens the ledger entry. -/
  | create (who : Who) (moon : Nat) (cmd : MoonCmd)
  /-- RESIZE (R240): MOON_CMD RESIZE puts the moon into RESIZING until a step boundary. -/
  | resize (who : Who) (moon : Nat) (cmd : MoonCmd)
  /-- RELEASE (R248): MOON_CMD RELEASE stops the moon, writes its final ledger record, clears its memory and returns it to FREE. -/
  | release (who : Who) (moon : Nat) (cmd : MoonCmd)
  /-- SUSPEND (R235): MOON_CMD SUSPEND pre-empts the whole moon into its save area. -/
  | suspend (who : Who) (moon : Nat) (cmd : MoonCmd)
  /-- RESUME (R247): MOON_CMD RESUME restores a suspended moon, or completes M8 without GO at an ARRIVING target. -/
  | resume (who : Who) (moon : Nat) (cmd : MoonCmd)
  /-- MIGRATE_OUT (R245): MOON_CMD MIGRATE_OUT starts live migration of the moon to a named target module. -/
  | migrateOut (who : Who) (moon : Nat) (cmd : MoonCmd)
  /-- MIGRATE_IN (R245): MOON_CMD MIGRATE_IN admits an arriving moon without opening a ledger minute. -/
  | migrateIn (who : Who) (moon : Nat) (cmd : MoonCmd)
  /-- MIGRATE_RECLAIM (R247): MOON_CMD MIGRATE_RECLAIM returns a MOVED moon to SUSPENDED from its save area. -/
  | migrateReclaim (who : Who) (moon : Nat) (cmd : MoonCmd)
  /-- MOON_CMD_CANCEL (R229): MOON_CMD CANCEL withdraws or undoes the pending or running command of the moon. -/
  | moonCmdCancel (who : Who) (moon : Nat) (cmd : MoonCmd)
  /-- MOON_CMD_WHEN (R227): Orbit reaches the WHEN of a pending moon command, which then runs. -/
  | moonCmdWhen (moon : Nat)
  /-- RESIZE_STEP_BOUNDARY (R240): A RESIZING moon reaches a step boundary; octets, save area, pages and blocks change and order is recomputed. -/
  | resizeStepBoundary (moon : Nat)
  /-- PREEMPTION_BOUNDARY (R235): Affected work reaches its segment, strip or chunk boundary; credits return and contexts and dirty lines are saved. -/
  | preemptionBoundary (moon core : Nat)
  /-- SPILL_DONE (R235): A whole moon's scratchpad images are written to the save area and the cores are cleared for the incoming moon. -/
  | spillDone (moon : Nat)
  /-- RESTORE_DONE (R235): A moon's images and contexts are restored and its tasks may start again. -/
  | restoreDone (moon : Nat)
  /-- MAP (R244): PAGE_REQ MAP grants zeroed pages to unmapped MA page indexes within the reservation. -/
  | map (who : Who) (moon : Nat) (req : PageReq)
  /-- UNMAP (R244): PAGE_REQ UNMAP clears entries, drops cached lines without write-back and frees the pages. -/
  | unmap (who : Who) (moon : Nat) (req : PageReq)
  /-- PROTECT (R244): PAGE_REQ PROTECT sets the read and write permissions of a range. -/
  | protect (who : Who) (moon : Nat) (req : PageReq)
  /-- REPLACE_POISONED (R244): PAGE_REQ REPLACE_POISONED gives each poisoned page of a range a fresh zeroed page. -/
  | replacePoisoned (who : Who) (moon : Nat) (req : PageReq)
  /-- MIGRATE_PEER_CONFIRM (R245): The source learns over PORTS whether the target holds a matching ARRIVING moon, and its SEQ_QUOTA (R299), starting pre-copy or failing with PEER_REFUSED. -/
  | migratePeerConfirm (moon : Nat) (peer : PeerAnswer)
  /-- PRECOPY_DONE (R227): With WHEN_EN 0, pre-copy has sent every mapped page once and the handover begins. -/
  | precopyDone (moon : Nat)
  /-- MIGRATION_HANDOVER (R245): At WHEN the source suspends the moon and sends its state to the target. -/
  | migrationHandover (moon : Nat)
  /-- MIGRATE_STATE_RECEIVED (R245): The target installs the migrated state and sends READY. -/
  | migrateStateReceived (moon : Nat) (state : Machine.MigState)
  /-- READY_RECEIVED (R245): The source receives READY, sends GO, enters MOVED and writes a MIGRATED_OUT ledger record. -/
  | readyReceived (moon : Nat)
  /-- GO_RECEIVED (R245): The target receives GO, restores the moon, enters ACTIVE or WAITING and sends RUNNING. -/
  | goReceived (moon : Nat)
  /-- RUNNING_RECEIVED (R245): The source receives RUNNING and releases the moon without a further ledger record. -/
  | runningReceived (moon : Nat)
  /-- ABORT_RECEIVED (R247): The target receives ABORT and releases its ARRIVING moon. -/
  | abortReceived (moon : Nat)
  /-- MIGRATE_READY_TIMEOUT (R247): No READY within MIGRATE_TIMEOUT after WHEN; the source sends ABORT and resumes the moon. -/
  | migrateReadyTimeout (moon : Nat)
  /-- MIGRATE_RUNNING_TIMEOUT (R247): No RUNNING within MIGRATE_TIMEOUT after GO; the source stays MOVED and raises MIGRATE_UNCERTAIN. -/
  | migrateRunningTimeout (moon : Nat)
  /-- MIGRATE_GO_TIMEOUT (R247): No GO within MIGRATE_TIMEOUT after READY; the target stays ARRIVING and raises MIGRATE_UNCERTAIN. -/
  | migrateGoTimeout (moon : Nat)
  /-- LEDGER_READ (R254): LEDGER_READ returns the moon's oldest unacknowledged ledger record, or zeros. -/
  | ledgerRead (who : Who) (moon : Nat)
  /-- LEDGER_ACK (R254): LEDGER_ACK acknowledges a held record and all earlier ones of the moon. -/
  | ledgerAck (who : Who) (moon recSeq : Nat)
  /-- MOON_STAT_READ (R256): A read of PREEMPTS snapshots the moon statistics group, clearing it only for the moon's own role. -/
  | moonStatRead (who : Who) (moon : Nat)
  /-- SERVE_CTX (R259): A SERVE_CTX write installs the moon's serving context, or is refused as busy. -/
  | serveCtx (who : Who) (moon address : Nat)
  /-- STEP_RUN (R272): A RUN STEP task starts with OPEN: it applies swaps and requests, builds the work list, assigns KV pages and starts the plan. -/
  | stepRun (moon ring : Nat)
  /-- STEP_CLOSE (R273): When the step plan completes, CLOSE handles cancels, samples and verifies, keeps KV entries and writes the output records. -/
  | stepClose (moon ring : Nat) (seq : W32)
  /-- STEP_SERVICE (R269): A SERVICE STEP task performs OPEN with an empty work list and completes. -/
  | stepService (moon ring : Nat)
  /-- FOLLOW (R293): A FOLLOW STEP task starts and waits for the lead's work list. -/
  | follow (moon ring : Nat)
  /-- FOLLOW_WORK_LIST (R293): The work list reaches a follower, which runs its plan or fails with FOLLOW_MISMATCH. -/
  | followWorkList (moon ring : Nat) (seq step : W32) (list : FollowList)
  /-- FOLLOW_REPORT (R293): The lead receives a follower's completion report; after the last one its CLOSE may start. -/
  | followReport (moon ring : Nat) (seq : W32) (follower : Nat)
  /-- SPAN_TIMEOUT (R294): A follower has not reported within SPAN_TIMEOUT and the lead's step fails with FOLLOW_TIMEOUT. -/
  | spanTimeout (moon ring : Nat) (seq : W32)
  /-- SWAP (R289): MODEL_CMD SWAP schedules the STAGED version to replace CURRENT at WHEN. -/
  | swap (who : Who) (moon slot : Nat) (cmd : ModelCmd)
  /-- CANCEL_SWAP (R290): MODEL_CMD CANCEL_SWAP withdraws a waiting or armed swap. -/
  | cancelSwap (who : Who) (moon slot : Nat) (cmd : ModelCmd)
  /-- UNLOAD (R290): MODEL_CMD UNLOAD ends the slot's sequences and releases its versions at the next OPEN. -/
  | unload (who : Who) (moon slot : Nat) (cmd : ModelCmd)
  /-- VARIANT_RETIRE (R292): MODEL_CMD VARIANT_RETIRE stops new admissions of a variant. -/
  | variantRetire (who : Who) (moon slot : Nat) (cmd : ModelCmd)
  /-- SWAP_FIRE (R289): A swap reaches its WHEN as an order-4 orbit event and sets SWAP_ARMED. -/
  | swapFire (moon slot : Nat)
  /-- SERVE_STAT_READ (R300): A read of SERVE_STEPS snapshots the serving statistics group, clearing it only for the moon's own role. -/
  | serveStatRead (who : Who) (moon : Nat)
  /-- PIPE_CTX (R303): A PIPE_CTX write installs the pipeline record while the unit is OFF or HALTED. -/
  | pipeCtx (who : Who) (moon address : Nat)
  /-- PIPE_START (R304): PIPE_CTRL START checks the record, resets micro-batch numbers and puts the unit into RUNNING. -/
  | pipeStart (who : Who) (moon : Nat)
  /-- PIPE_DRAIN (R304): PIPE_CTRL DRAIN stops new forwards and finishes backwards and a final update. -/
  | pipeDrain (who : Who) (moon : Nat)
  /-- PIPE_RETRY (R304): PIPE_CTRL RETRY reruns the failed program or derivation from a HALTED unit. -/
  | pipeRetry (who : Who) (moon : Nat)
  /-- PIPE_RESET (R304): PIPE_CTRL RESET clears the holds, re-derives stale copies and turns the unit OFF. -/
  | pipeReset (who : Who) (moon : Nat)
  /-- PIPE_CMD_FWD (R309): In MANUAL mode a FWD command of the command ring is taken and checked. -/
  | pipeCmdFwd (moon : Nat)
  /-- PIPE_CMD_BWD (R309): In MANUAL mode a BWD command of the command ring is taken and checked. -/
  | pipeCmdBwd (moon : Nat)
  /-- PIPE_CMD_UPDATE (R309): In MANUAL mode an UPDATE command is taken; unmet conditions halt the unit with UPDATE_BLOCKED. -/
  | pipeCmdUpdate (moon : Nat)
  /-- FORWARD_PROGRAM_START (R306): A forward program becomes eligible and starts, consuming FWD_IN and taking holds on every tile. -/
  | forwardProgramStart (moon : Nat)
  /-- BACKWARD_PROGRAM_START (R315): A backward program becomes eligible once its input, transposed version and restore are ready, and starts. -/
  | backwardProgramStart (moon : Nat)
  /-- UPDATE_PROGRAM_START (R316): An update program starts once every tile of its range is current and free of derivation. -/
  | updateProgramStart (moon : Nat)
  /-- FORWARD_DONE (R307): A forward program completes and the unit picks its next program. -/
  | forwardDone (moon : Nat)
  /-- BACKWARD_DONE (R315): A backward program completes, releases its holds and frees the retention region. -/
  | backwardDone (moon : Nat)
  /-- UPDATE_DONE (R316): An update program completes; each tile advances VER and FIRST_MB. -/
  | updateDone (moon : Nat)
  /-- DERIVE_DONE (R317): A derivation completes and the tile sets TVER = VER. -/
  | deriveDone (moon tile : Nat)
  /-- ACT_RESTORE_DONE (R320): The copy of spilled activations into the retention region completes, releasing the waiting backward. -/
  | actRestoreDone (moon : Nat)
  /-- GNS_CFG (R326): A GNS_CFG write configures and enables the gradient-noise statistic. -/
  | gnsCfg (who : Who) (moon : Nat) (cfg : GnsCfg)
  /-- GNS_CLOSE (R326): A write of 1 to GNS_CLOSE closes a gradient-noise sample. -/
  | gnsClose (who : Who) (moon : Nat)
  /-- TRAIN_STAT_READ (R336): A read of PIPE_FWD snapshots the pipeline statistics group, clearing it only for the moon's own role. -/
  | trainStatRead (who : Who) (moon : Nat)
  /-- SNAPSHOT (R328): SNAP_CMD SNAPSHOT schedules an evaluation snapshot to a target moon. -/
  | snapshot (who : Who) (moon : Nat) (cmd : SnapCmd)
  /-- SNAP_CANCEL (R328): SNAP_CMD CANCEL withdraws a pending snapshot. -/
  | snapCancel (who : Who) (moon : Nat) (cmd : SnapCmd)
  /-- SNAP_ACCEPT (R328): A SNAP_ACCEPT write by the target moon records the snapshot it will accept. -/
  | snapAccept (who : Who) (moon : Nat) (acc : SnapAccept)
  /-- SNAPSHOT_ARM (R329): At WHEN, as an order-5 orbit event, the snapshot is armed or fails with LAYOUT_BAD. -/
  | snapshotArm (moon : Nat)
  /-- SNAPSHOT_CAPTURE (R329): At the first boundary between programs the armed snapshot captures and blocks updates. -/
  | snapshotCapture (moon : Nat)
  /-- SNAPSHOT_DONE (R329): Every tile of the snapshot is written at the target and SNAP_DONE is raised at both moons. -/
  | snapshotDone (moon : Nat) (ok : Bool)
  /-- TO_LEARN (R331): TURN_CMD TO_LEARN schedules a switch to the learning layout at WHEN. -/
  | toLearn (who : Who) (moon : Nat) (cmd : TurnCmd)
  /-- TO_GENERATE (R332): TURN_CMD TO_GENERATE checks the slot's registration and schedules a switch to the generation layout. -/
  | toGenerate (who : Who) (moon : Nat) (cmd : TurnCmd)
  /-- TURN_CANCEL (R330): TURN_CMD CANCEL withdraws a PENDING turn. -/
  | turnCancel (who : Who) (moon : Nat) (cmd : TurnCmd)
  /-- TURN_SWITCH_FIRE (R331): At WHEN, as an order-3 orbit event, the turn begins by gating admissions or draining the unit. -/
  | turnSwitchFire (moon : Nat)
  /-- TURN_DRAIN_POINT (R331): The slot's sequences have ended or the unit has drained, and the turn plan starts. -/
  | turnDrainPoint (moon : Nat)
  /-- TURN_PLAN_DONE (R331): The turn plan completes and the new layout is installed before the pack barrier. -/
  | turnPlanDone (moon : Nat)
  /-- TURN_TIMEOUT (R333): Live sequences remain after TIMEOUT without END_LIVE and the turn fails with LIVE_SEQ. -/
  | turnTimeout (moon : Nat)
  /-- ENTROPY_TEST_FAIL (R325): A die's entropy source fails a health test, raises ENTROPY_FAULT and reseeds from another die or gives Fault-Stop. -/
  | entropyTestFail (die : Nat)
  /-- LOAD_BASE (R342): FETCH_CMD LOAD_BASE starts fetching a base bundle into a slot, a plain image or a shared base. -/
  | loadBase (who : Who) (moon : Nat) (cmd : FetchCmd)
  /-- LOAD_OVERLAY (R342): FETCH_CMD LOAD_OVERLAY fetches an overlay for the version waiting under AWAIT_OVERLAY. -/
  | loadOverlay (who : Who) (moon : Nat) (cmd : FetchCmd)
  /-- LOAD_VARIANT (R342): FETCH_CMD LOAD_VARIANT fetches a STEER or EXPERTS variant bundle. -/
  | loadVariant (who : Who) (moon : Nat) (cmd : FetchCmd)
  /-- ATTACH_SHARED (R347): FETCH_CMD ATTACH_SHARED maps a shared base read-only into the moon as a slot version. -/
  | attachShared (who : Who) (moon : Nat) (cmd : FetchCmd)
  /-- DROP_SHARED (R342): FETCH_CMD DROP_SHARED releases a shared base that no moon maps. -/
  | dropShared (who : Who) (moon : Nat) (cmd : FetchCmd)
  /-- FETCH_CANCEL (R342): FETCH_CMD CANCEL ends the running fetch at its next chunk boundary. -/
  | fetchCancel (who : Who) (moon : Nat) (cmd : FetchCmd)
  /-- FETCH_HEADER_READ (R344): The header, hash table and signature of a bundle arrive and are checked, and the pages are granted. -/
  | fetchHeaderRead (moon : Nat) (header hashes signature : Bytes)
  /-- FETCH_CHUNK_DONE (R344): A chunk is read, hashed, compared and written; after the last, the image is activated. -/
  | fetchChunkDone (moon : Nat) (chunk : Bytes)
  /-- BAR4_WRITE (R349): A peer write into the BAR4 window fills a buffer, or is dropped while the window is IDLE. -/
  | bar4Write (offset : Nat) (data : Bytes)
  /-- BAR4_BUFFER_FULL (R349): A buffer descriptor set FULL is taken, its bytes placed at their bundle offsets and the buffer emptied. -/
  | bar4BufferFull (buffer : Nat)
  /-- BAR4_TIMEOUT (R349): No buffer becomes FULL for BAR4_TIMEOUT while bytes are missing, and the fetch fails. -/
  | bar4Timeout (moon : Nat)
  /-- LINK_SIGNAL_DETECT (R355): A port detects its partner's signal on four lanes and begins bring-up. -/
  | linkSignalDetect (port : Nat) (meas : ChanMeas)
  /-- LINK_UP (R355): Bring-up reaches T8; the port is UP, publishes its results and raises LINK_UP. -/
  | linkUp (port : Nat) (partner : Partner)
  /-- BRING_UP_TIMEOUT (R355): A bring-up fails a step or misses T8 within 1 s, counts a training failure and returns to T1. -/
  | bringUpTimeout (port : Nat)
  /-- DATA (R369): A DATA flit is received and checked; its payload is written, forwarded in transit or discarded. -/
  | data (port : Nat) (flit : Flit)
  /-- CHUNK_HDR (R369): A CHUNK_HDR flit is received and its chunk is checked against the destination moon, or refused with a NACK. -/
  | chunkHdr (port : Nat) (flit : Flit) (hdr : ChunkHdr)
  /-- DELIVERED (R370): A DELIVERED flit reaches the sender; the SEND completes once every chunk is delivered. -/
  | delivered (port : Nat) (flit : Flit)
  /-- NACK (R370): A NACK flit reaches the sender and fails its SEND with the reason given. -/
  | nack (port : Nat) (flit : Flit) (reason chunk : Nat)
  /-- CONTROL (R372): A CONTROL flit is received and passed to the beacon, poll, barrier, dictionary or migration handshake logic. -/
  | control (port : Nat) (flit : Flit) (kind : CtlKind) (args : List Nat)
  /-- CREDIT (R363): A CREDIT flit returns per-VC, per-moon credit to the sending port. -/
  | credit (port : Nat) (flit : Flit) (entries : List (Nat × Nat × Nat))
  /-- CREDIT_SYNC (R373): A CREDIT_SYNC flit re-establishes credit after training or retraining. -/
  | creditSync (port : Nat) (flit : Flit) (vc credit : Nat)
  /-- SEND_CHUNK_START (R364): Credit for a whole chunk becomes available and the chunk is sent. -/
  | sendChunkStart (moon ring : Nat) (seq : W32)
  /-- RETRAIN (R373): PORT_CTRL RETRAIN, or a retry trigger, retrains one port while the others carry traffic. -/
  | retrain (who : Who) (port : Nat)
  /-- RETRAIN_DONE (R373): Retraining ends; the retry buffer is resent or dropped, failing SENDs with LINK_LOST, and the port is UP. -/
  | retrainDone (port : Nat) (meas : ChanMeas) (partner : Partner)
  /-- DISABLE (R376): PORT_CTRL DISABLE takes a port down. -/
  | disable (who : Who) (port : Nat)
  /-- ENABLE (R374): PORT_CTRL ENABLE enables a port, including one in FAILED, and starts bring-up. -/
  | enable (who : Who) (port : Nat)
  /-- FORCE_112 (R357): PORT_CTRL FORCE_112 restricts a port to the 112 Gb/s lane class. -/
  | force112 (who : Who) (port : Nat)
  /-- AUTO (R376): PORT_CTRL AUTO removes FORCE_112 from a port. -/
  | auto (who : Who) (port : Nat)
  /-- LINK_TIMEOUT (R370): A chunk finds no usable port for LINK_TIMEOUT and its SEND fails with ROUTE_NONE. -/
  | linkTimeout (moon ring : Nat) (seq : W32)
  /-- LINK_STAT_READ (R376): A read of LINK_FEC_CORR snapshots and clears a port's link statistics group. -/
  | linkStatRead (who : Who) (port : Nat)
  /-- POLL (R382): A member receives a POLL from its parent, updates PACK_STATE and answers through its link logic. -/
  | poll (port : Nat) (msg : PollMsg)
  /-- ANSWER (R381): A manager receives an ANSWER, stores MEMBER_ANSWER and updates the member's answer run. -/
  | answer (entry : Nat) (msg : AnswerMsg) (rttNs : Nat)
  /-- POLL_MISS (R381): An ANSWER is missing 10 µs after its POLL; the miss is counted and three in a row make the member SILENT. -/
  | pollMiss (entry : Nat)
  /-- ARRIVE (R385): A combiner receives an ARRIVE and opens or completes an instance, recording it and sending RELEASE. -/
  | arrive (msg : ArriveMsg)
  /-- BARRIER_RELEASE (R385): A member module receives RELEASE and completes its waiting BARRIER tasks. -/
  | barrierRelease (scope barrier : Nat)
  /-- WITHDRAW (R388): A combiner receives WITHDRAW and removes a member's unreleased arrival. -/
  | withdraw (msg : ArriveMsg)
  /-- BARRIER_TIMEOUT (R386): An instance misses its timeout; its arrived tasks fail and a record is written. -/
  | barrierTimeout (barrier : Nat)
  /-- BARRIER_DEF (R384): A BARRIER_DEF write defines a barrier's member ranges, or is refused as invalid or busy. -/
  | barrierDef (who : Who) (barrier : Nat) (rec : BarDef)
  /-- BARRIER_MOVE (R389): A BARRIER_MOVE write substitutes one member pair for another in a barrier. -/
  | barrierMove (who : Who) (barrier : Nat) (rec : BarMove)
  /-- MEMBER_FABRIC (R378): A MEMBER_FABRIC write sets a member entry and resets its link and health state. -/
  | memberFabric (who : Who) (entry value : Nat)
  /-- SPARES_DECLARED (R392): A SPARES_DECLARED write re-evaluates every member's HEALTH transitions. -/
  | sparesDeclared (who : Who) (value : Nat)
  /-- PACK_ROLE (R379): A PACK_ROLE write changes the module's role at once, starting or stopping management. -/
  | packRole (who : Who) (value : Nat)
  /-- REF_WINDOW (R398): A 1 s REF measurement window ends and REF becomes valid or invalid. -/
  | refWindow (partsPerBillion : Int)
  /-- ORBIT_PPS_SECONDS (R398): An ORBIT_PPS_SECONDS write names the second of the next PPS edge before the first lock. -/
  | orbitPpsSeconds (who : Who) (value : Nat)
  /-- PTP_SYNC (R399): A PTP Sync message arrives on a management port and updates the offset and lock. -/
  | ptpSync (master time : Nat)
  /-- BEACON (R402): An accepted BEACON updates the offset, locks or slews orbit and may switch ports. -/
  | beacon (port : Nat) (msg : BeaconMsg)
  /-- DELAY_REQ (R401): A partner receives DELAY_REQ and sends DELAY_RESP with its timestamps. -/
  | delayReq (port : Nat) (t1 : Nat)
  /-- DELAY_RESP (R401): A DELAY_RESP arrives and the module updates the path delay median. -/
  | delayResp (port : Nat) (t1 t2 t3 t4 : Nat)
  /-- ORBIT_SOURCE (R404): An ORBIT_SOURCE write switches source at once, entering HOLDOVER if already locked. -/
  | orbitSource (who : Who) (value : Nat)
  /-- ORBIT_STAT_READ (R406): A read of BEACON_MISSED snapshots and clears the orbit statistics group. -/
  | orbitStatRead (who : Who)
  /-- PACK_STAT_READ (R406): A read of BARRIERS_RELEASED snapshots and clears the pack statistics group. -/
  | packStatRead (who : Who)
  /-- GATEWAY_RESPONSE (R451): A forwarded dictionary response arrives and is passed back if its originator is still waiting. -/
  | gatewayResponse (request : Nat) (body : Bytes)
  /-- TARGET_TIMEOUT (R451): No response to a forwarded request within 100 µs per hop, and the originator receives TARGET_TIMEOUT. -/
  | targetTimeout (request : Nat)
  /-- FLR (R413): A Function Level Reset resets a function's state and drains its moon's rings to DISABLED. -/
  | flr (fn : Nat)
  /-- VF_ENABLE_CLEAR (R413): Clearing VF Enable or lowering NumVFs passes the affected moons to the PF. -/
  | vfEnableClear (numVfs : Nat)
  /-- WIN_BASE (R417): A WIN_BASE write moves a ring window if aligned and inside the HBM region. -/
  | winBase (fn moon : Nat) (high : Bool) (value : W32)
  /-- RING_WINDOW_READ (R417): A read through a ring window returns moon HBM bytes, or all-ones when denied. -/
  | ringWindowRead (fn moon offset len : Nat)
  /-- RING_WINDOW_WRITE (R417): A write through a ring window stores into moon HBM, or is discarded and counted when denied. -/
  | ringWindowWrite (fn moon offset : Nat) (data : Bytes)
  /-- EVQ_CFG (R416): An EVQ_CFG write enables the event queue, or is refused with CFG_ERR. -/
  | evqCfg (fn : Nat) (value : W32)
  /-- REGISTER_WRITE (R416): A write to a BAR0 register that has no behaviour of its own stores its value under the access rules. -/
  | registerWrite (fn offset : Nat) (data : Bytes)
  /-- MBX_DOORBELL (R424): A mailbox doorbell submits a dictionary request, or is refused while BUSY or with a bad length. -/
  | mbxDoorbell (fn : Nat) (value : W32)
  /-- MSIX_UNMASK (R421): Unmasking a vector with its pending bit set sends one MSI-X message. -/
  | msixUnmask (fn vector : Nat)
  /-- HOST_CPL_TIMEOUT (R425): A host memory read times out, ending its MOVE task or fetch with completion status 3. -/
  | hostCplTimeout (moon : Nat) (task : Option (Nat × W32))
  /-- HOST_READ_ABORTED (R426): A window or BAR2 read waiting on a MIGRATING page for 500 µs completes with all-ones. -/
  | hostReadAborted (len : Nat)
  /-- READ (R436): A dictionary READ item returns a parameter value or slice after the frame and item checks. -/
  | read (path : Path) (frame : Frame) (item : Item)
  /-- WRITE (R444): A dictionary WRITE item sets a parameter, journaling it if needed, after the frame and item checks. -/
  | write (path : Path) (frame : Frame) (item : Item)
  /-- DESCRIBE (R437): A dictionary DESCRIBE item returns a parameter's shape under any role. -/
  | describe (path : Path) (frame : Frame) (item : Item)
  /-- STAGING_EXPIRE (R438): A staged BLOB or STR write that gets no piece for 1 s is dropped. -/
  | stagingExpire (who : Who)
  /-- PLCA_BEACON_TIMEOUT (R446): No PLCA BEACON for 4 ms and the management port falls back to CSMA/CD. -/
  | plcaBeaconTimeout (port : Nat)
  /-- PLCA_BEACON (R446): A PLCA BEACON returns a fallen-back management port to PLCA. -/
  | plcaBeacon (port : Nat)
  /-- DICT_STAT_READ (R452): A read of DICT_REQUESTS snapshots and clears the dictionary statistics group. -/
  | dictStatRead (who : Who)
  /-- START_UP (R465): The input reaches 46.0 V and the module runs the start-up steps through to Ready. -/
  | startUp (facts : BootFacts)
  /-- INPUT_HIGH (R456): The input enters the 60 to 62 V band and the module raises INPUT_HIGH. -/
  | inputHigh (milliVolt : Nat)
  /-- INPUT_LOW (R456): The input enters the 44 to 46 V band and the module raises INPUT_LOW. -/
  | inputLow (milliVolt : Nat)
  /-- REGULATOR (R471): An on-module rail leaves regulation; it is switched off and the module enters Fault-Stop. -/
  | regulator (rail : Nat)
  /-- POWER_CONTROL_UPDATE (R459): Every 10 µs the power controller updates the excursion credit, the target and the power share. -/
  | powerControlUpdate (sample : PowerSample)
  /-- THERMAL_EVALUATE (R462): Every 1 ms each die's hottest reading adjusts its thermal share or causes Fault-Stop. -/
  | thermalEvaluate (die : Nat) (milliC : Int)
  /-- COOLANT_READ (R463): Every 10 ms the coolant thermistors are read, and sensor faults or COOLANT_HOT are raised. -/
  | coolantRead (inletMilliC outletMilliC : Int)
  /-- DRAIN (R468): POWER_CMD DRAIN puts the module into Drain, refusing CREATE and MIGRATE_IN. -/
  | drain (who : Who)
  /-- UNDRAIN (R468): POWER_CMD UNDRAIN ends Drain. -/
  | undrain (who : Who)
  /-- POWER_STAT_READ (R474): A read of THROTTLE_POWER_US snapshots and clears the power statistics group. -/
  | powerStatRead (who : Who)
  /-- JOURNAL_PAGE_PROGRAMMED (R478): A journal page program and read-back complete, committing its records. -/
  | journalPageProgrammed (failedBlock : Bool)
  /-- COMPACT_NOW (R481): JOURNAL_CMD COMPACT_NOW starts a compaction. -/
  | compactNow (who : Who)
  /-- JOURNAL_RESET (R484): JOURNAL_CMD RESET in Fault-Stop JOURNAL erases both regions and writes an epoch-0 checkpoint. -/
  | journalReset (who : Who)
  /-- SVC_CLEAR (R486): An SVC_CLEAR write clears the named Service-Requested bits whose conditions no longer hold. -/
  | svcClear (who : Who) (mask : W32)
  /-- STAGE (R488): FW_CMD STAGE copies a firmware image into the bank that is not running. -/
  | stage (who : Who) (cmd : FwCmd)
  /-- FW_STAGED (R488): Staging completes and verification marks the bank VALID or INVALID. -/
  | fwStaged (image : Bytes) (hostStatus : Nat)
  /-- ACTIVATE (R488): FW_CMD ACTIVATE swaps to the staged bank in TRIAL. -/
  | activate (who : Who) (cmd : FwCmd)
  /-- COMMIT (R500): FW_CMD COMMIT advances the SVN fuses if needed and commits the trial bank. -/
  | commit (who : Who) (cmd : FwCmd)
  /-- REVERT (R488): FW_CMD REVERT swaps back to the committed bank. -/
  | revert (who : Who) (cmd : FwCmd)
  /-- FW_SWAP_DONE (R489): The management controller restarts on the new bank, the dictionary goes live and FW_ACTIVATED is raised. -/
  | fwSwapDone (verified : Bool)
  /-- RELOAD_STALE (R490): MCODE_CMD RELOAD_STALE reloads stale cores one per die at a time by reload substitution. -/
  | reloadStale (who : Who)
  /-- STOP (R490): MCODE_CMD STOP starts no further microcode reload. -/
  | stop (who : Who)
  /-- HBM_RECAL_WINDOW (R491): A channel's recalibration period or 10 °C drift opens its recalibration window. -/
  | hbmRecalWindow (stack channel : Nat)
  /-- HBM_RECAL_DONE (R491): Recalibration and any pending hard repair end and held lines are written back. -/
  | hbmRecalDone (stack : Nat) (rejected : List Nat)
  /-- RECOVERY_IMAGE (R492): An image written through the JTAG recovery register is verified and restarts start-up from step 3. -/
  | recoveryImage (image : Bytes)
  /-- CORE_HANG_TIMEOUT (R485): A sequencer makes no progress for 10 ms while holding a task. -/
  | coreHangTimeout (die lc : Nat)
  /-- OPERATOR_KEY_DIGEST (R502): An OPERATOR_KEY_DIGEST write fuses a new operator key digest and ends every session. -/
  | operatorKeyDigest (who : Who) (digest : Bytes)
  /-- SESSION_OFFER (R503): A read of SESSION_OFFER at offset 0 makes a new signed session offer. -/
  | sessionOffer (who : Who)
  /-- KEY_OFFER (R503): A read of KEY_OFFER at offset 0 makes a new signed moon-key offer. -/
  | keyOffer (who : Who) (moon : Nat)
  /-- OFFER_EXPIRE (R503): An offer reaches 60 s and ends, erasing its decapsulation key. -/
  | offerExpire (offerId : Nat)
  /-- SESSION_OPEN (R504): A SESSION_OPEN write decapsulates against the live offer and sets the provisional session key. -/
  | sessionOpen (who : Who) (value : Bytes)
  /-- SESSION_PROVE (R505): A SESSION_PROVE write verifies the operator signature and makes the provisional key the proven key. -/
  | sessionProve (who : Who) (value : Bytes)
  /-- ATTEST_REPORT (R509): A read of ATTEST_REPORT at offset 0 makes a signed attestation report for the moon. -/
  | attestReport (who : Who) (moon : Nat)
  /-- KEY_LOAD (R512): A KEY_LOAD write unwraps a delivered moon key into the slot of a FREE moon. -/
  | keyLoad (who : Who) (moon : Nat) (value : Bytes)
  /-- GENERATE (R512): KEY_CMD GENERATE loads a moon key from entropy. -/
  | generate (who : Who) (moon : Nat)
  /-- ERASE (R512): KEY_CMD ERASE empties a moon's key slot. -/
  | erase (who : Who) (moon : Nat)
  /-- DBG_RESPONSE (R515): A DBG_RESPONSE shifted in is verified and grants a RECOVERY or FULL unlock. -/
  | dbgResponse (response : Bytes)
  /-- EXTEST (R527): The EXTEST instruction drives the boundary cells, only in boot halt or Fault-Stop. -/
  | extest (cells : Nat)
  /-- SAMPLE_PRELOAD (R527): The SAMPLE/PRELOAD instruction captures or loads boundary cells. -/
  | samplePreload (load : Option Nat)
  /-- ADMISSION_DONE (R230): The grants of a CREATE or MIGRATE_IN complete and the moon leaves ADMITTING for ACTIVE, WAITING or ARRIVING. -/
  | admissionDone (moon : Nat)
  /-- POWER_FAIL_RESTART (R457): After at least 100 ms with rails off following a power-fail stop, the module starts again from step 1 once the input is at or above 46.0 V. -/
  | powerFailRestart (facts : BootFacts)
  /-- VF_ENABLE (R412): Setting VF Enable or raising NumVFs passes moon n from the PF to VF n, after which PF writes and window accesses for n act as in R410. -/
  | vfEnable (numVfs : Nat)
  /-- HOST_DMA_ERROR (R425): A host-memory read completes with an error status (Unsupported Request, Completer Abort or Poisoned), ending its MOVE task with HOST_DMA or its fetch with code 0x000A. -/
  | hostDmaError (moon : Nat) (task : Option (Nat × W32)) (status : Nat)
  /-- BRIDGE_FAIL (R20): A bridge fails while the module runs: it goes into detour with Service-Requested, or it is a second failure and the module enters Fault-Stop. -/
  | bridgeFail (bridge : Nat)
  /-- PTP_ANNOUNCE (R399): A PTP Announce message of PTP_DOMAIN arrives on a management port and feeds the best master clock algorithm. -/
  | ptpAnnounce (domain : Nat) (dataset : Nat)
  /-- PTP_DELAY_RESP (R399): A PTP Delay_Resp arrives for the module's end-to-end delay request and updates the path delay used for orbit. -/
  | ptpDelayResp (time : Nat)
  /-- SCHED_TICK (R234): Every SCHED_TICK the module updates virtual times and decides which pool moons are resident. -/
  | schedTick
  /-- BILLING_MINUTE_CLOSE (R251): At each minute boundary the module closes every moon's open minute and journals a ledger record. -/
  | billingMinuteClose
  /-- LEDGER_SNAP (R477): Every 1 s the module journals the open ledger totals of moons whose totals changed. -/
  | ledgerSnap
  /-- COUNTERS (R477): Every 1 s the module journals changed journaled class A counters. -/
  | counters
  /-- POLL_SEND (R380): Every 100 µs a manager sends a POLL to each member in its table. -/
  | pollSend
  /-- ORPHAN (R382): No POLL arrives for ORPHAN_MS; the member becomes ORPHAN and raises SHEPHERD_LOST. -/
  | orphan
  /-- PPS_EDGE (R398): A rising ORBIT_PPS edge is accepted for lock or correction, or rejected and counted. -/
  | ppsEdge
  /-- REF_LOSS (R398): No REF cycle arrives for 1 µs and REF becomes invalid. -/
  | refLoss
  /-- PPS_HOLDOVER (R398): REF invalid for 2 s, or two missing edges, puts the PINS module into HOLDOVER. -/
  | ppsHoldover
  /-- PTP_SYNC_TIMEOUT (R399): No Sync message arrives for 5 s and the module enters HOLDOVER. -/
  | ptpSyncTimeout
  /-- BEACON_SEND (R400): Every 10 µs a locked or holdover module sends a BEACON on each port in BEACON_OUT. -/
  | beaconSend
  /-- BEACON_TIMEOUT (R402): Beacons go missing on the port in use, causing a switch to the other port or HOLDOVER after 100 µs. -/
  | beaconTimeout
  /-- DELAY_REQ_SEND (R401): Every 1 ms a BEACON module sends DELAY_REQ on its orbit ports. -/
  | delayReqSend
  /-- PERST_N_DEASSERT (R409): PERST_N deasserts and the endpoint starts link training. -/
  | perstNDeassert
  /-- HOT_RESET (R413): Hot reset, link down or PERST_N assertion acts as an FLR of the PF. -/
  | hotReset
  /-- POWER_FAIL_DETECT (R457): The input is below 44.0 V for 20 µs; the module stops issue, commits the journal and switches off. -/
  | powerFailDetect
  /-- INPUT_OV (R456): The input is above 62.0 V for 1 ms and the module enters Fault-Stop. -/
  | inputOv
  /-- LEAK (R464): LEAK_N is asserted for 10 ms and the module enters Fault-Stop with reason LEAK. -/
  | leak
  /-- JOURNAL_PAGE_TIMER (R478): 100 ms after its first record, the open journal page is committed. -/
  | journalPageTimer
  /-- COMPACT_AT (R481): Orbit reaches COMPACT_AT as an order-9 event and compaction begins. -/
  | compactAt
  /-- COMPACTION_DONE (R482): The C4 page with COMPACT_END commits, the target becomes active and JOURNAL_COMPACTED is raised. -/
  | compactionDone
  /-- FW_TRIAL_EXPIRE (R488): FW_TRIAL_S passes and the trial bank is committed as by COMMIT. -/
  | fwTrialExpire
  /-- FW_WATCHDOG (R488): The watchdog fires during TRIAL, and the module reverts and raises FW_FALLBACK. -/
  | fwWatchdog
  /-- DBG_CHALLENGE (R515): Reading DBG_CHALLENGE over JTAG yields a fresh debug unlock challenge. -/
  | dbgChallenge
  /-- IDCODE (R527): The IDCODE instruction selects the identification register. -/
  | idcode
  /-- BYPASS (R527): The BYPASS instruction selects the bypass register. -/
  | bypass
  /-- TAP_RESET (R527): TRST_N, or five TCK cycles with TMS high, resets the TAP controller and ends EXTEST. -/
  | tapReset
  /-- EXPEL_INTERVAL_ELAPSED (R394): EXPEL_INTERVAL passes since LAST_EXPEL while a SUSPECT member exists and SPARES_DECLARED is above 0, and the manager expels the highest-scoring SUSPECT. -/
  | expelIntervalElapsed
  deriving DecidableEq, Repr

end Sys2Proof
end

