-- ==== Sys2Proof/Decode.lean ====
section
/-! DEFINITION. Commands that a word spells: the table gives no row any bits, so none does. -/

namespace Sys2Proof

/-- The command that a word spells by the table's bits: the table gives bits to no row. -/
def decodeTableWord (_nbits _w : Nat) : Option Instr := none

end Sys2Proof
end

