-- ==== Sys2Proof/Config.lean ====
section
/-! DEFINITION. What one module's manufacture fixes, the free values (values the spec leaves open), and the algorithms of
outside standards that the spec names without repeating them. Every constant here is opaque: no statement can rest on its value. -/

namespace Sys2Proof.Config

/-- Free random bits: draw number `n` of the lane generators (R62, R147, R286, R324). Log entry 4. -/
opaque random : Nat → Nat

/-- Free order of an operation whose order the spec leaves open (R111, R114, R141, R198). Log entry 5. -/
opaque pick : Nat → Nat

/-- Free FP32 result of a special function or a row exponential, by operation code and FP32 argument (taken where it keeps the error bound of R111, R140). Log entry 6. -/
opaque sfu : Nat → Nat → Nat

/-- Free value where the spec states no result (log entry 7): case number, operand. -/
opaque openValue : Nat → Nat → Nat

/-- Free entropy: fresh random bits of a die's entropy source, by draw number (R325, R495). Log entry 4. -/
opaque entropy : Nat → Nat

/-- The pace of orbit slewing in reference ns for each ns of correction; the module uses at least 20,000 (50 ppm, R47). Log entry 8. -/
opaque slewPace : Nat

/-- MODULE_IDENTITY, fused (R452). -/
opaque moduleIdentity : Nat

/-- SERIAL, fused, 16 bytes (R452). -/
opaque serial : Bytes

/-- DEVICE_CERT, programmed at manufacture (R501). -/
opaque deviceCert : Bytes

/-- The unique device secret of the fuses (R496). -/
opaque uds : Bytes

/-- ROM version shown in reports (R509). -/
opaque romVersion : Nat

/-- The four Vilrid firmware public keys of the ROM (R498), by index 0 to 3. -/
opaque romKey : Nat → Bytes

/-- Physical cores that failed manufacturing test and were remapped by e-fuse (R22), die number and physical core. -/
opaque fusedFailed : Nat → Nat → Bool

/-- Spare wire groups of a bridge (R19), by bridge 0 to 5. -/
opaque spareGroups : Nat → Nat

/-- Array columns repaired by e-fuse at manufacture (R34): die, physical core, array to column, 9 for none. -/
opaque fusedColumn : Nat → Nat → Nat → Nat

/-- SHA3-512 of FIPS 202 (R495): 64 bytes. Log entry 9. -/
opaque sha3 : Bytes → Bytes

/-- KMAC256 of NIST SP 800-185: key, input, output bits, customisation (R433, R495). Log entry 9. -/
opaque kmac : Bytes → Bytes → Nat → String → Bytes

/-- ML-DSA-87 verification under FIPS 204: public key, message digest, signature (R339, R495). Log entry 9. -/
opaque dsaVerify : Bytes → Bytes → Bytes → Bool

/-- ML-DSA-87 signature: seed of the key, message digest (R495). Log entry 9. -/
opaque dsaSign : Bytes → Bytes → Bytes

/-- ML-DSA-87 public key of a seed (R496). Log entry 9. -/
opaque dsaPublic : Bytes → Bytes

/-- ML-KEM-1024 encapsulation key of a seed (R503). Log entry 9. -/
opaque kemPublic : Bytes → Bytes

/-- ML-KEM-1024 decapsulation: seed of the key pair, ciphertext (R504, R511). Log entry 9. -/
opaque kemDecap : Bytes → Bytes → Bytes

/-- AES-256 KW unwrap: key-encryption key, wrapped key; none when the integrity check fails (R511, R512). Log entry 9. -/
opaque kwUnwrap : Bytes → Bytes → Option Bytes

/-- The vendor diagnostics area, not described (R428): parameter and element. Log entry 7. -/
opaque vendor : Nat → Nat → Bytes

/-- The fuse array without the device secret (R509: its layout is not described): FUSED_SVN, revoked ROM keys, operator key digests. Log entry 7. -/
opaque fuseArray : Nat → List Nat → List Bytes → Bytes

/-- Whether a port's SerDes settings differ in a new firmware bank (R490), by bank version and port. Log entry 7. -/
opaque serdesDiffers : Nat → Nat → Bool

end Sys2Proof.Config
end

