-- ==== Sys2Proof/Machine/DictTable.lean ====
section
/-! DEFINITION. The parameters of the dictionary (R428 to R431, R437): number, type code of R429, value bytes, access code for each role
(0 none, 1 RO, 2 RW, 3 WO, 4 RW-KEY), default, inclusive range of a numeric value, persistence, counter class, highest element.
The rows are those of R31, R84, R124, R185, R222, R257, R300, R336, R353, R376, R406, R427, R452, R474, R494 and R517. A default that is
fused, sampled or a formula stands as 0 here and is computed where it is read. -/

namespace Sys2Proof.Machine

/-- One parameter as DESCRIBE shows it (R437). -/
structure ParamInfo where
  num       : Nat
  name      : String
  typ       : Nat
  size      : Nat
  pf        : Nat
  vf        : Nat
  shep      : Nat
  key       : Nat
  dflt      : Nat
  lo        : Nat
  hi        : Nat
  journaled : Bool
  cls       : Nat
  last      : Nat
  deriving DecidableEq, Repr

/-- Area 0x0: Identity, host link, management ports. -/
def paramArea0 : List ParamInfo := [
  { num := 0x0000, name := "MODULE_IDENTITY", typ := 5, size := 8, pf := 1, vf := 1, shep := 1, key := 1, dflt := 0, lo := 0, hi := 18446744073709551615, journaled := false, cls := 0, last := 0 },
  { num := 0x0001, name := "PART_NUMBER", typ := 8, size := 256, pf := 1, vf := 1, shep := 1, key := 1, dflt := 0, lo := 0, hi := 0, journaled := false, cls := 0, last := 0 },
  { num := 0x0002, name := "ORDERING_CODE", typ := 8, size := 256, pf := 1, vf := 1, shep := 1, key := 1, dflt := 0, lo := 0, hi := 0, journaled := false, cls := 0, last := 0 },
  { num := 0x0003, name := "STEPPING", typ := 8, size := 256, pf := 1, vf := 1, shep := 1, key := 1, dflt := 0, lo := 0, hi := 0, journaled := false, cls := 0, last := 0 },
  { num := 0x0004, name := "SERIAL", typ := 8, size := 16, pf := 1, vf := 1, shep := 1, key := 1, dflt := 0, lo := 0, hi := 0, journaled := false, cls := 0, last := 0 },
  { num := 0x0006, name := "DICT_VERSION", typ := 3, size := 2, pf := 1, vf := 1, shep := 1, key := 1, dflt := 1, lo := 0, hi := 65535, journaled := false, cls := 0, last := 0 },
  { num := 0x0008, name := "BOOT_STEP", typ := 2, size := 1, pf := 1, vf := 1, shep := 1, key := 1, dflt := 3, lo := 3, hi := 11, journaled := false, cls := 0, last := 0 },
  { num := 0x0010, name := "HOST_LINK", typ := 4, size := 4, pf := 1, vf := 1, shep := 1, key := 1, dflt := 0, lo := 0, hi := 4294967295, journaled := false, cls := 0, last := 0 },
  { num := 0x0011, name := "HOST_READ_ABORTED", typ := 5, size := 8, pf := 1, vf := 0, shep := 1, key := 1, dflt := 0, lo := 0, hi := 18446744073709551615, journaled := false, cls := 1, last := 0 },
  { num := 0x0012, name := "HOST_NUM_VFS", typ := 2, size := 1, pf := 1, vf := 1, shep := 1, key := 1, dflt := 0, lo := 0, hi := 255, journaled := false, cls := 0, last := 0 },
  { num := 0x0013, name := "HOST_CPL_TIMEOUTS", typ := 5, size := 8, pf := 1, vf := 0, shep := 1, key := 1, dflt := 0, lo := 0, hi := 18446744073709551615, journaled := false, cls := 1, last := 0 },
  { num := 0x0014, name := "BAR2_BASE", typ := 5, size := 8, pf := 2, vf := 0, shep := 0, key := 2, dflt := 0, lo := 0, hi := 18446744073709551615, journaled := false, cls := 0, last := 0 },
  { num := 0x0020, name := "MGT_STATE", typ := 4, size := 4, pf := 1, vf := 0, shep := 1, key := 1, dflt := 0, lo := 0, hi := 4294967295, journaled := false, cls := 0, last := 1 },
  { num := 0x0021, name := "MGT_ENABLE", typ := 1, size := 1, pf := 1, vf := 0, shep := 2, key := 2, dflt := 1, lo := 0, hi := 1, journaled := true, cls := 0, last := 1 },
  { num := 0x0023, name := "PLCA_TO_TIMER", typ := 2, size := 1, pf := 1, vf := 0, shep := 2, key := 2, dflt := 32, lo := 1, hi := 255, journaled := true, cls := 0, last := 0 },
  { num := 0x0024, name := "MGT_MAC", typ := 9, size := 6, pf := 1, vf := 0, shep := 1, key := 1, dflt := 0, lo := 0, hi := 0, journaled := false, cls := 0, last := 1 },
  { num := 0x0025, name := "SLOT_ID", typ := 2, size := 1, pf := 1, vf := 0, shep := 1, key := 1, dflt := 0, lo := 0, hi := 31, journaled := false, cls := 0, last := 0 },
  { num := 0x0030, name := "DICT_REQUESTS", typ := 4, size := 4, pf := 1, vf := 0, shep := 1, key := 1, dflt := 0, lo := 0, hi := 4294967295, journaled := false, cls := 2, last := 0 },
  { num := 0x0031, name := "DICT_ERRORS", typ := 4, size := 4, pf := 1, vf := 0, shep := 1, key := 1, dflt := 0, lo := 0, hi := 4294967295, journaled := false, cls := 2, last := 0 },
  { num := 0x0032, name := "DICT_AUTH_FAILS", typ := 4, size := 4, pf := 1, vf := 0, shep := 1, key := 1, dflt := 0, lo := 0, hi := 4294967295, journaled := false, cls := 2, last := 0 },
  { num := 0x0033, name := "DICT_DROPPED", typ := 4, size := 4, pf := 1, vf := 0, shep := 1, key := 1, dflt := 0, lo := 0, hi := 4294967295, journaled := false, cls := 2, last := 0 },
  { num := 0x0034, name := "DICT_INTERVAL", typ := 5, size := 8, pf := 1, vf := 0, shep := 1, key := 1, dflt := 0, lo := 0, hi := 18446744073709551615, journaled := false, cls := 0, last := 0 } ]

/-- Area 0x1: Power and thermal. -/
def paramArea1 : List ParamInfo := [
  { num := 0x1000, name := "POWER_CAP", typ := 4, size := 4, pf := 1, vf := 0, shep := 2, key := 2, dflt := 2400, lo := 800, hi := 2400, journaled := true, cls := 0, last := 0 },
  { num := 0x1001, name := "POWER_CMD", typ := 2, size := 1, pf := 3, vf := 0, shep := 3, key := 3, dflt := 0, lo := 0, hi := 255, journaled := false, cls := 0, last := 0 },
  { num := 0x1002, name := "POWER_STATE", typ := 2, size := 1, pf := 1, vf := 1, shep := 1, key := 1, dflt := 1, lo := 0, hi := 255, journaled := false, cls := 0, last := 0 },
  { num := 0x1003, name := "FAULT_REASON", typ := 3, size := 2, pf := 1, vf := 1, shep := 1, key := 1, dflt := 0, lo := 0, hi := 65535, journaled := false, cls := 0, last := 0 },
  { num := 0x1004, name := "SVC_REASON", typ := 4, size := 4, pf := 1, vf := 1, shep := 1, key := 1, dflt := 0, lo := 0, hi := 4294967295, journaled := true, cls := 0, last := 0 },
  { num := 0x1005, name := "EXCURSION_CREDIT", typ := 7, size := 4, pf := 1, vf := 0, shep := 1, key := 1, dflt := 1090519040, lo := 0, hi := 4294967295, journaled := false, cls := 0, last := 0 },
  { num := 0x1006, name := "THROTTLE_NOW", typ := 2, size := 1, pf := 1, vf := 1, shep := 1, key := 1, dflt := 0, lo := 0, hi := 64, journaled := false, cls := 0, last := 3 },
  { num := 0x1010, name := "DIE_TEMP_LIMIT", typ := 7, size := 4, pf := 1, vf := 0, shep := 2, key := 2, dflt := 1120403456, lo := 1118437376, hi := 1121058816, journaled := true, cls := 0, last := 0 },
  { num := 0x1011, name := "COOLANT_IN_MAX", typ := 7, size := 4, pf := 1, vf := 0, shep := 2, key := 2, dflt := 1109393408, lo := 1101004800, hi := 1112014848, journaled := true, cls := 0, last := 0 },
  { num := 0x1012, name := "IMPEDANCE_WARN", typ := 4, size := 4, pf := 1, vf := 0, shep := 2, key := 2, dflt := 25, lo := 5, hi := 500, journaled := true, cls := 0, last := 0 },
  { num := 0x1020, name := "THROTTLE_POWER_US", typ := 4, size := 4, pf := 1, vf := 0, shep := 1, key := 1, dflt := 0, lo := 0, hi := 4294967295, journaled := false, cls := 2, last := 0 },
  { num := 0x1021, name := "THROTTLE_THERMAL_US", typ := 4, size := 4, pf := 1, vf := 0, shep := 1, key := 1, dflt := 0, lo := 0, hi := 4294967295, journaled := false, cls := 2, last := 0 },
  { num := 0x1022, name := "EXCURSIONS", typ := 4, size := 4, pf := 1, vf := 0, shep := 1, key := 1, dflt := 0, lo := 0, hi := 4294967295, journaled := false, cls := 2, last := 0 },
  { num := 0x1023, name := "POWER_STAT_INTERVAL", typ := 5, size := 8, pf := 1, vf := 0, shep := 1, key := 1, dflt := 0, lo := 0, hi := 18446744073709551615, journaled := false, cls := 0, last := 0 },
  { num := 0x1030, name := "INPUT_ENERGY_J", typ := 5, size := 8, pf := 1, vf := 0, shep := 1, key := 1, dflt := 0, lo := 0, hi := 18446744073709551615, journaled := true, cls := 1, last := 0 },
  { num := 0x1100, name := "INPUT_V", typ := 7, size := 4, pf := 1, vf := 0, shep := 1, key := 1, dflt := 0, lo := 0, hi := 4294967295, journaled := false, cls := 0, last := 0 },
  { num := 0x1101, name := "INPUT_I", typ := 7, size := 4, pf := 1, vf := 0, shep := 1, key := 1, dflt := 0, lo := 0, hi := 4294967295, journaled := false, cls := 0, last := 0 },
  { num := 0x1102, name := "INPUT_P", typ := 7, size := 4, pf := 1, vf := 0, shep := 1, key := 1, dflt := 0, lo := 0, hi := 4294967295, journaled := false, cls := 0, last := 0 },
  { num := 0x1103, name := "INPUT_Z", typ := 7, size := 4, pf := 1, vf := 0, shep := 1, key := 1, dflt := 0, lo := 0, hi := 4294967295, journaled := false, cls := 0, last := 0 },
  { num := 0x1104, name := "DROOP_CEILING", typ := 7, size := 4, pf := 1, vf := 0, shep := 1, key := 1, dflt := 1160708096, lo := 0, hi := 4294967295, journaled := false, cls := 0, last := 0 },
  { num := 0x1110, name := "DIE_TEMP", typ := 7, size := 4, pf := 1, vf := 0, shep := 1, key := 1, dflt := 0, lo := 0, hi := 4294967295, journaled := false, cls := 0, last := 3 },
  { num := 0x1120, name := "COOLANT_IN", typ := 7, size := 4, pf := 1, vf := 0, shep := 1, key := 1, dflt := 0, lo := 0, hi := 4294967295, journaled := false, cls := 0, last := 0 },
  { num := 0x1121, name := "COOLANT_OUT", typ := 7, size := 4, pf := 1, vf := 0, shep := 1, key := 1, dflt := 0, lo := 0, hi := 4294967295, journaled := false, cls := 0, last := 0 },
  { num := 0x1122, name := "COOLANT_VALID", typ := 2, size := 1, pf := 1, vf := 0, shep := 1, key := 1, dflt := 0, lo := 0, hi := 255, journaled := false, cls := 0, last := 0 },
  { num := 0x1123, name := "LEAK", typ := 1, size := 1, pf := 1, vf := 0, shep := 1, key := 1, dflt := 0, lo := 0, hi := 1, journaled := false, cls := 0, last := 0 } ]

/-- Area 0x2: Measurements and orbit. -/
def paramArea2 : List ParamInfo := [
  { num := 0x2030, name := "ORBIT_STATE", typ := 2, size := 1, pf := 1, vf := 1, shep := 1, key := 1, dflt := 0, lo := 0, hi := 255, journaled := false, cls := 0, last := 0 },
  { num := 0x2031, name := "ORBIT_NOW", typ := 10, size := 8, pf := 1, vf := 1, shep := 1, key := 1, dflt := 0, lo := 0, hi := 18446744073709551615, journaled := false, cls := 0, last := 0 },
  { num := 0x2032, name := "ORBIT_SOURCE", typ := 2, size := 1, pf := 1, vf := 0, shep := 2, key := 2, dflt := 0, lo := 0, hi := 2, journaled := true, cls := 0, last := 0 },
  { num := 0x2033, name := "ORBIT_PORT", typ := 2, size := 1, pf := 1, vf := 0, shep := 2, key := 2, dflt := 255, lo := 0, hi := 31, journaled := true, cls := 0, last := 0 },
  { num := 0x2034, name := "ORBIT_ALT_PORT", typ := 2, size := 1, pf := 1, vf := 0, shep := 2, key := 2, dflt := 255, lo := 0, hi := 31, journaled := true, cls := 0, last := 0 },
  { num := 0x2035, name := "BEACON_OUT", typ := 4, size := 4, pf := 1, vf := 0, shep := 2, key := 2, dflt := 0, lo := 0, hi := 4294967295, journaled := true, cls := 0, last := 0 },
  { num := 0x2036, name := "ORBIT_OFFSET", typ := 6, size := 4, pf := 1, vf := 0, shep := 1, key := 1, dflt := 0, lo := 0, hi := 4294967295, journaled := false, cls := 0, last := 0 },
  { num := 0x2037, name := "ORBIT_PATH_DELAY", typ := 4, size := 4, pf := 1, vf := 0, shep := 1, key := 1, dflt := 0, lo := 0, hi := 4294967295, journaled := false, cls := 0, last := 0 },
  { num := 0x2038, name := "ORBIT_HOP", typ := 2, size := 1, pf := 1, vf := 0, shep := 1, key := 1, dflt := 0, lo := 0, hi := 255, journaled := false, cls := 0, last := 0 },
  { num := 0x2039, name := "ORBIT_PPS_SECONDS", typ := 5, size := 8, pf := 1, vf := 0, shep := 2, key := 2, dflt := 0, lo := 0, hi := 18446744073, journaled := false, cls := 0, last := 0 },
  { num := 0x203A, name := "PTP_DOMAIN", typ := 2, size := 1, pf := 1, vf := 0, shep := 2, key := 2, dflt := 0, lo := 0, hi := 255, journaled := true, cls := 0, last := 0 },
  { num := 0x203B, name := "BEACON_MISSED", typ := 4, size := 4, pf := 1, vf := 0, shep := 1, key := 1, dflt := 0, lo := 0, hi := 4294967295, journaled := false, cls := 2, last := 0 },
  { num := 0x203C, name := "PPS_REJECTED", typ := 4, size := 4, pf := 1, vf := 0, shep := 1, key := 1, dflt := 0, lo := 0, hi := 4294967295, journaled := false, cls := 2, last := 0 },
  { num := 0x203D, name := "ORBIT_STAT_INTERVAL", typ := 5, size := 8, pf := 1, vf := 0, shep := 1, key := 1, dflt := 0, lo := 0, hi := 18446744073709551615, journaled := false, cls := 0, last := 0 },
  { num := 0x203E, name := "ORBIT_FLAGS", typ := 2, size := 1, pf := 1, vf := 1, shep := 1, key := 1, dflt := 0, lo := 0, hi := 255, journaled := false, cls := 0, last := 0 },
  { num := 0x2040, name := "HBM_TEMP", typ := 7, size := 4, pf := 1, vf := 0, shep := 1, key := 1, dflt := 0, lo := 0, hi := 4294967295, journaled := false, cls := 0, last := 7 } ]

/-- Area 0x3: Cores, kennel and arrays. -/
def paramArea3 : List ParamInfo := [
  { num := 0x3000, name := "KENNEL_SIZE", typ := 2, size := 1, pf := 1, vf := 1, shep := 1, key := 1, dflt := 8, lo := 0, hi := 255, journaled := true, cls := 0, last := 3 },
  { num := 0x3001, name := "CORES_PRESENTED", typ := 2, size := 1, pf := 1, vf := 1, shep := 1, key := 1, dflt := 128, lo := 0, hi := 255, journaled := true, cls := 0, last := 3 },
  { num := 0x3010, name := "CORE_MAP_0", typ := 2, size := 1, pf := 1, vf := 1, shep := 1, key := 1, dflt := 0, lo := 0, hi := 255, journaled := true, cls := 0, last := 127 },
  { num := 0x3011, name := "CORE_MAP_1", typ := 2, size := 1, pf := 1, vf := 1, shep := 1, key := 1, dflt := 0, lo := 0, hi := 255, journaled := true, cls := 0, last := 127 },
  { num := 0x3012, name := "CORE_MAP_2", typ := 2, size := 1, pf := 1, vf := 1, shep := 1, key := 1, dflt := 0, lo := 0, hi := 255, journaled := true, cls := 0, last := 127 },
  { num := 0x3013, name := "CORE_MAP_3", typ := 2, size := 1, pf := 1, vf := 1, shep := 1, key := 1, dflt := 0, lo := 0, hi := 255, journaled := true, cls := 0, last := 127 },
  { num := 0x3020, name := "ARRAY_FIELD_REPAIRS", typ := 5, size := 8, pf := 1, vf := 0, shep := 1, key := 1, dflt := 0, lo := 0, hi := 18446744073709551615, journaled := true, cls := 1, last := 3 },
  { num := 0x3025, name := "ARRAY_TEST_INTERVAL", typ := 4, size := 4, pf := 1, vf := 0, shep := 2, key := 2, dflt := 600, lo := 60, hi := 86400, journaled := true, cls := 0, last := 0 },
  { num := 0x3030, name := "ARRAY_SLOTS", typ := 4, size := 4, pf := 1, vf := 0, shep := 1, key := 1, dflt := 0, lo := 0, hi := 4294967295, journaled := false, cls := 2, last := 3 },
  { num := 0x3031, name := "ARRAY_BUBBLE_FEED", typ := 4, size := 4, pf := 1, vf := 0, shep := 1, key := 1, dflt := 0, lo := 0, hi := 4294967295, journaled := false, cls := 2, last := 3 },
  { num := 0x3032, name := "ARRAY_BUBBLE_DRAIN", typ := 4, size := 4, pf := 1, vf := 0, shep := 1, key := 1, dflt := 0, lo := 0, hi := 4294967295, journaled := false, cls := 2, last := 3 },
  { num := 0x3033, name := "ARRAY_BUBBLE_THROTTLE", typ := 4, size := 4, pf := 1, vf := 0, shep := 1, key := 1, dflt := 0, lo := 0, hi := 4294967295, journaled := false, cls := 2, last := 3 },
  { num := 0x3034, name := "ARRAY_STAT_INTERVAL", typ := 5, size := 8, pf := 1, vf := 0, shep := 1, key := 1, dflt := 0, lo := 0, hi := 18446744073709551615, journaled := false, cls := 0, last := 3 } ]

/-- Area 0x4: Memory. -/
def paramArea4 : List ParamInfo := [
  { num := 0x4000, name := "HBM_PAGES_FREE", typ := 4, size := 4, pf := 1, vf := 0, shep := 1, key := 1, dflt := 22888, lo := 0, hi := 4294967295, journaled := false, cls := 0, last := 7 },
  { num := 0x4001, name := "HBM_PAGES_RETIRED", typ := 5, size := 8, pf := 1, vf := 0, shep := 1, key := 1, dflt := 0, lo := 0, hi := 18446744073709551615, journaled := true, cls := 1, last := 7 },
  { num := 0x4002, name := "HBM_REFRESH_BAND", typ := 2, size := 1, pf := 1, vf := 0, shep := 1, key := 1, dflt := 1, lo := 1, hi := 4, journaled := false, cls := 0, last := 7 },
  { num := 0x4003, name := "HBM_CE", typ := 4, size := 4, pf := 1, vf := 0, shep := 1, key := 1, dflt := 0, lo := 0, hi := 4294967295, journaled := false, cls := 2, last := 7 },
  { num := 0x4004, name := "HBM_UE", typ := 4, size := 4, pf := 1, vf := 0, shep := 1, key := 1, dflt := 0, lo := 0, hi := 4294967295, journaled := false, cls := 2, last := 7 },
  { num := 0x4005, name := "HBM_ERR_INTERVAL", typ := 5, size := 8, pf := 1, vf := 0, shep := 1, key := 1, dflt := 0, lo := 0, hi := 18446744073709551615, journaled := false, cls := 0, last := 7 },
  { num := 0x4006, name := "HBM_PPR_SOFT", typ := 5, size := 8, pf := 1, vf := 0, shep := 1, key := 1, dflt := 0, lo := 0, hi := 18446744073709551615, journaled := true, cls := 1, last := 7 },
  { num := 0x4007, name := "HBM_PPR_HARD", typ := 5, size := 8, pf := 1, vf := 0, shep := 1, key := 1, dflt := 0, lo := 0, hi := 18446744073709551615, journaled := true, cls := 1, last := 7 },
  { num := 0x4008, name := "BAR2_DENIED", typ := 5, size := 8, pf := 1, vf := 0, shep := 1, key := 1, dflt := 0, lo := 0, hi := 18446744073709551615, journaled := false, cls := 1, last := 0 },
  { num := 0x4010, name := "SRAM_CE", typ := 4, size := 4, pf := 1, vf := 0, shep := 1, key := 1, dflt := 0, lo := 0, hi := 4294967295, journaled := false, cls := 2, last := 3 },
  { num := 0x4011, name := "SRAM_UE", typ := 4, size := 4, pf := 1, vf := 0, shep := 1, key := 1, dflt := 0, lo := 0, hi := 4294967295, journaled := false, cls := 2, last := 3 },
  { num := 0x4012, name := "SRAM_ERR_INTERVAL", typ := 5, size := 8, pf := 1, vf := 0, shep := 1, key := 1, dflt := 0, lo := 0, hi := 18446744073709551615, journaled := false, cls := 0, last := 3 },
  { num := 0x4021, name := "MSC_KEEP_QUOTA", typ := 4, size := 4, pf := 1, vf := 1, shep := 2, key := 2, dflt := 0, lo := 0, hi := 32768, journaled := false, cls := 0, last := 63 },
  { num := 0x4030, name := "HBM_SCRUB_PERIOD", typ := 4, size := 4, pf := 1, vf := 0, shep := 2, key := 2, dflt := 24, lo := 1, hi := 168, journaled := true, cls := 0, last := 0 },
  { num := 0x4031, name := "COMET_DEPTH", typ := 4, size := 4, pf := 1, vf := 0, shep := 2, key := 2, dflt := 256, lo := 0, hi := 2048, journaled := true, cls := 0, last := 0 },
  { num := 0x4032, name := "COMET_LINES", typ := 4, size := 4, pf := 1, vf := 0, shep := 1, key := 1, dflt := 0, lo := 0, hi := 4294967295, journaled := false, cls := 2, last := 3 },
  { num := 0x4033, name := "COMET_USED", typ := 4, size := 4, pf := 1, vf := 0, shep := 1, key := 1, dflt := 0, lo := 0, hi := 4294967295, journaled := false, cls := 2, last := 3 },
  { num := 0x4034, name := "COMET_INTERVAL", typ := 5, size := 8, pf := 1, vf := 0, shep := 1, key := 1, dflt := 0, lo := 0, hi := 18446744073709551615, journaled := false, cls := 0, last := 3 } ]

/-- Area 0x5: Links. -/
def paramArea5 : List ParamInfo := [
  { num := 0x5000, name := "PORT_STATE", typ := 4, size := 4, pf := 1, vf := 1, shep := 1, key := 1, dflt := 0, lo := 0, hi := 4294967295, journaled := false, cls := 0, last := 31 },
  { num := 0x5001, name := "PORT_MEAS", typ := 9, size := 32, pf := 1, vf := 1, shep := 1, key := 1, dflt := 0, lo := 0, hi := 0, journaled := false, cls := 0, last := 31 },
  { num := 0x5002, name := "PORT_PARTNER", typ := 9, size := 32, pf := 1, vf := 1, shep := 1, key := 1, dflt := 0, lo := 0, hi := 0, journaled := false, cls := 0, last := 31 },
  { num := 0x5003, name := "PORT_CTRL", typ := 2, size := 1, pf := 3, vf := 0, shep := 3, key := 3, dflt := 0, lo := 0, hi := 255, journaled := false, cls := 0, last := 31 },
  { num := 0x5004, name := "PORT_ALLOW_SXL1", typ := 1, size := 1, pf := 1, vf := 0, shep := 2, key := 2, dflt := 1, lo := 0, hi := 1, journaled := true, cls := 0, last := 31 },
  { num := 0x5010, name := "FABRIC_ID", typ := 3, size := 2, pf := 1, vf := 1, shep := 2, key := 2, dflt := 65535, lo := 0, hi := 65535, journaled := true, cls := 0, last := 0 },
  { num := 0x5020, name := "FWD_SELECT", typ := 3, size := 2, pf := 2, vf := 0, shep := 2, key := 2, dflt := 0, lo := 0, hi := 65535, journaled := false, cls := 0, last := 0 },
  { num := 0x5021, name := "FWD_ENTRY", typ := 4, size := 4, pf := 1, vf := 0, shep := 2, key := 2, dflt := 0, lo := 0, hi := 4294967295, journaled := true, cls := 0, last := 255 },
  { num := 0x5030, name := "LINK_FEC_CORR", typ := 4, size := 4, pf := 1, vf := 0, shep := 1, key := 1, dflt := 0, lo := 0, hi := 4294967295, journaled := false, cls := 2, last := 31 },
  { num := 0x5031, name := "LINK_FEC_UNCORR", typ := 4, size := 4, pf := 1, vf := 0, shep := 1, key := 1, dflt := 0, lo := 0, hi := 4294967295, journaled := false, cls := 2, last := 31 },
  { num := 0x5032, name := "LINK_CRC_ERR", typ := 4, size := 4, pf := 1, vf := 0, shep := 1, key := 1, dflt := 0, lo := 0, hi := 4294967295, journaled := false, cls := 2, last := 31 },
  { num := 0x5033, name := "LINK_RETRY", typ := 4, size := 4, pf := 1, vf := 0, shep := 1, key := 1, dflt := 0, lo := 0, hi := 4294967295, journaled := false, cls := 2, last := 31 },
  { num := 0x5034, name := "LINK_INTERVAL", typ := 5, size := 8, pf := 1, vf := 0, shep := 1, key := 1, dflt := 0, lo := 0, hi := 18446744073709551615, journaled := false, cls := 0, last := 31 },
  { num := 0x5040, name := "LINK_TRAIN_FAILS", typ := 5, size := 8, pf := 1, vf := 0, shep := 1, key := 1, dflt := 0, lo := 0, hi := 18446744073709551615, journaled := true, cls := 1, last := 31 },
  { num := 0x5041, name := "LINK_RETRAINS", typ := 5, size := 8, pf := 1, vf := 0, shep := 1, key := 1, dflt := 0, lo := 0, hi := 18446744073709551615, journaled := true, cls := 1, last := 31 },
  { num := 0x5050, name := "LINK_RECV_WIN", typ := 9, size := 512, pf := 2, vf := 2, shep := 0, key := 0, dflt := 0, lo := 0, hi := 0, journaled := false, cls := 0, last := 63 },
  { num := 0x5051, name := "LINK_RX_CREDIT", typ := 3, size := 2, pf := 1, vf := 1, shep := 1, key := 1, dflt := 0, lo := 0, hi := 65535, journaled := false, cls := 0, last := 63 },
  { num := 0x5052, name := "LINK_REFUSED", typ := 5, size := 8, pf := 1, vf := 1, shep := 1, key := 1, dflt := 0, lo := 0, hi := 18446744073709551615, journaled := false, cls := 1, last := 63 },
  { num := 0x5053, name := "LINK_ROUTES", typ := 9, size := 512, pf := 2, vf := 2, shep := 0, key := 0, dflt := 0, lo := 0, hi := 0, journaled := false, cls := 0, last := 63 },
  { num := 0x5060, name := "LINK_TIMEOUT", typ := 4, size := 4, pf := 1, vf := 0, shep := 2, key := 2, dflt := 100, lo := 1, hi := 10000, journaled := true, cls := 0, last := 0 } ]

/-- Area 0x6: Moons, tasks and synchronisation. -/
def paramArea6 : List ParamInfo := [
  { num := 0x6000, name := "MOON_CMD", typ := 9, size := 64, pf := 3, vf := 0, shep := 3, key := 3, dflt := 0, lo := 0, hi := 0, journaled := false, cls := 0, last := 63 },
  { num := 0x6001, name := "MOON_CMD_STATUS", typ := 4, size := 4, pf := 1, vf := 1, shep := 1, key := 1, dflt := 0, lo := 0, hi := 4294967295, journaled := false, cls := 0, last := 63 },
  { num := 0x6002, name := "MOON_STATE", typ := 2, size := 1, pf := 1, vf := 1, shep := 1, key := 1, dflt := 0, lo := 0, hi := 255, journaled := false, cls := 0, last := 63 },
  { num := 0x6003, name := "MOON_INFO", typ := 5, size := 8, pf := 1, vf := 1, shep := 1, key := 1, dflt := 0, lo := 0, hi := 18446744073709551615, journaled := false, cls := 0, last := 63 },
  { num := 0x6004, name := "MOON_SHARE", typ := 3, size := 2, pf := 1, vf := 1, shep := 2, key := 2, dflt := 100, lo := 0, hi := 65535, journaled := false, cls := 0, last := 63 },
  { num := 0x6005, name := "POOL_OCTETS", typ := 5, size := 8, pf := 1, vf := 0, shep := 2, key := 2, dflt := 0, lo := 0, hi := 18446744073709551615, journaled := true, cls := 0, last := 0 },
  { num := 0x6006, name := "SCHED_TICK", typ := 4, size := 4, pf := 1, vf := 0, shep := 2, key := 2, dflt := 10, lo := 1, hi := 1000, journaled := true, cls := 0, last := 0 },
  { num := 0x6007, name := "MIN_RESIDENCY", typ := 4, size := 4, pf := 1, vf := 0, shep := 2, key := 2, dflt := 20, lo := 0, hi := 10000, journaled := true, cls := 0, last := 0 },
  { num := 0x6008, name := "MOON_DISPLACED", typ := 1, size := 1, pf := 1, vf := 1, shep := 1, key := 1, dflt := 0, lo := 0, hi := 1, journaled := false, cls := 0, last := 63 },
  { num := 0x6010, name := "RING_PRIO", typ := 2, size := 1, pf := 2, vf := 2, shep := 0, key := 0, dflt := 0, lo := 0, hi := 3, journaled := false, cls := 0, last := 15 },
  { num := 0x6020, name := "PAGE_REQ", typ := 9, size := 16, pf := 3, vf := 3, shep := 0, key := 0, dflt := 0, lo := 0, hi := 0, journaled := false, cls := 0, last := 63 },
  { num := 0x6021, name := "PAGE_QUOTA", typ := 4, size := 4, pf := 1, vf := 1, shep := 1, key := 1, dflt := 0, lo := 0, hi := 4294967295, journaled := false, cls := 0, last := 63 },
  { num := 0x6022, name := "PAGES_MAPPED", typ := 4, size := 4, pf := 1, vf := 1, shep := 1, key := 1, dflt := 0, lo := 0, hi := 4294967295, journaled := false, cls := 0, last := 63 },
  { num := 0x6023, name := "PAGE_REQ_STATUS", typ := 4, size := 4, pf := 1, vf := 1, shep := 1, key := 1, dflt := 0, lo := 0, hi := 4294967295, journaled := false, cls := 0, last := 63 },
  { num := 0x6030, name := "PREEMPTS", typ := 4, size := 4, pf := 1, vf := 1, shep := 1, key := 1, dflt := 0, lo := 0, hi := 4294967295, journaled := false, cls := 2, last := 63 },
  { num := 0x6031, name := "INHERIT_EVENTS", typ := 4, size := 4, pf := 1, vf := 1, shep := 1, key := 1, dflt := 0, lo := 0, hi := 4294967295, journaled := false, cls := 2, last := 63 },
  { num := 0x6032, name := "MOON_STAT_INTERVAL", typ := 5, size := 8, pf := 1, vf := 1, shep := 1, key := 1, dflt := 0, lo := 0, hi := 18446744073709551615, journaled := false, cls := 0, last := 63 },
  { num := 0x6033, name := "SPILL_US", typ := 5, size := 8, pf := 1, vf := 1, shep := 1, key := 1, dflt := 0, lo := 0, hi := 18446744073709551615, journaled := false, cls := 1, last := 63 },
  { num := 0x6040, name := "MIGRATE_TIMEOUT", typ := 4, size := 4, pf := 1, vf := 0, shep := 2, key := 2, dflt := 1000, lo := 10, hi := 60000, journaled := true, cls := 0, last := 0 },
  { num := 0x6100, name := "TASK_DONE", typ := 4, size := 4, pf := 1, vf := 1, shep := 1, key := 1, dflt := 0, lo := 0, hi := 4294967295, journaled := false, cls := 2, last := 63 },
  { num := 0x6101, name := "TASK_FAILED", typ := 4, size := 4, pf := 1, vf := 1, shep := 1, key := 1, dflt := 0, lo := 0, hi := 4294967295, journaled := false, cls := 2, last := 63 },
  { num := 0x6102, name := "TASK_DISCARDED", typ := 4, size := 4, pf := 1, vf := 1, shep := 1, key := 1, dflt := 0, lo := 0, hi := 4294967295, journaled := false, cls := 2, last := 63 },
  { num := 0x6103, name := "TASK_INTERVAL", typ := 5, size := 8, pf := 1, vf := 1, shep := 1, key := 1, dflt := 0, lo := 0, hi := 18446744073709551615, journaled := false, cls := 0, last := 63 },
  { num := 0x6110, name := "SYNC_BLOCKS", typ := 2, size := 1, pf := 1, vf := 1, shep := 1, key := 1, dflt := 0, lo := 0, hi := 255, journaled := false, cls := 0, last := 63 },
  { num := 0x6111, name := "SYNC_OVF_EVENTS", typ := 5, size := 8, pf := 1, vf := 1, shep := 1, key := 1, dflt := 0, lo := 0, hi := 18446744073709551615, journaled := false, cls := 1, last := 63 },
  { num := 0x6120, name := "ALARMS_FREE", typ := 3, size := 2, pf := 1, vf := 1, shep := 1, key := 1, dflt := 224, lo := 0, hi := 224, journaled := false, cls := 0, last := 0 },
  { num := 0x6121, name := "ALARM_QUOTA", typ := 2, size := 1, pf := 1, vf := 1, shep := 2, key := 2, dflt := 8, lo := 0, hi := 224, journaled := true, cls := 0, last := 63 } ]

/-- Area 0x7: Accounting. -/
def paramArea7 : List ParamInfo := [
  { num := 0x7000, name := "LEDGER_ENGINE_CORE_US", typ := 5, size := 8, pf := 1, vf := 1, shep := 1, key := 1, dflt := 0, lo := 0, hi := 18446744073709551615, journaled := true, cls := 1, last := 63 },
  { num := 0x7001, name := "LEDGER_MOVE_ENGINE_US", typ := 5, size := 8, pf := 1, vf := 1, shep := 1, key := 1, dflt := 0, lo := 0, hi := 18446744073709551615, journaled := true, cls := 1, last := 63 },
  { num := 0x7002, name := "LEDGER_HELD_CORE_US", typ := 5, size := 8, pf := 1, vf := 1, shep := 1, key := 1, dflt := 0, lo := 0, hi := 18446744073709551615, journaled := true, cls := 1, last := 63 },
  { num := 0x7003, name := "LEDGER_PAGE_SECONDS", typ := 5, size := 8, pf := 1, vf := 1, shep := 1, key := 1, dflt := 0, lo := 0, hi := 18446744073709551615, journaled := true, cls := 1, last := 63 },
  { num := 0x7004, name := "LEDGER_LINK_TX_BYTES", typ := 5, size := 8, pf := 1, vf := 1, shep := 1, key := 1, dflt := 0, lo := 0, hi := 18446744073709551615, journaled := true, cls := 1, last := 63 },
  { num := 0x7020, name := "LEDGER_READ", typ := 9, size := 64, pf := 1, vf := 1, shep := 1, key := 1, dflt := 0, lo := 0, hi := 0, journaled := true, cls := 0, last := 63 },
  { num := 0x7021, name := "LEDGER_ACK", typ := 4, size := 4, pf := 3, vf := 0, shep := 3, key := 3, dflt := 0, lo := 0, hi := 4294967295, journaled := true, cls := 0, last := 63 } ]

/-- Area 0x8: Serving and weight fetch. -/
def paramArea8 : List ParamInfo := [
  { num := 0x8000, name := "SERVE_MOON", typ := 2, size := 1, pf := 2, vf := 0, shep := 2, key := 2, dflt := 0, lo := 0, hi := 255, journaled := false, cls := 0, last := 0 },
  { num := 0x8001, name := "SEQ_QUOTA", typ := 3, size := 2, pf := 2, vf := 1, shep := 2, key := 2, dflt := 0, lo := 0, hi := 16384, journaled := false, cls := 0, last := 63 },
  { num := 0x8002, name := "SEQ_LIVE", typ := 3, size := 2, pf := 1, vf := 1, shep := 1, key := 1, dflt := 0, lo := 0, hi := 65535, journaled := false, cls := 0, last := 63 },
  { num := 0x8003, name := "SEQ_UNALLOTTED", typ := 3, size := 2, pf := 1, vf := 1, shep := 1, key := 1, dflt := 16384, lo := 0, hi := 65535, journaled := false, cls := 0, last := 0 },
  { num := 0x8004, name := "SERVE_PRIVILEGED", typ := 1, size := 1, pf := 1, vf := 1, shep := 1, key := 1, dflt := 0, lo := 0, hi := 1, journaled := false, cls := 0, last := 63 },
  { num := 0x8010, name := "SERVE_CTX", typ := 5, size := 8, pf := 2, vf := 2, shep := 0, key := 0, dflt := 0, lo := 0, hi := 18446744073709551615, journaled := false, cls := 0, last := 63 },
  { num := 0x8020, name := "SEQ_SELECT", typ := 3, size := 2, pf := 2, vf := 2, shep := 2, key := 2, dflt := 0, lo := 0, hi := 65535, journaled := false, cls := 0, last := 63 },
  { num := 0x8021, name := "SEQ_RECORD", typ := 9, size := 64, pf := 1, vf := 1, shep := 1, key := 1, dflt := 0, lo := 0, hi := 0, journaled := false, cls := 0, last := 63 },
  { num := 0x8030, name := "MODEL_CMD", typ := 9, size := 32, pf := 3, vf := 3, shep := 0, key := 0, dflt := 0, lo := 0, hi := 0, journaled := false, cls := 0, last := 15 },
  { num := 0x8031, name := "MODEL_STATE", typ := 4, size := 4, pf := 1, vf := 1, shep := 1, key := 1, dflt := 0, lo := 0, hi := 4294967295, journaled := false, cls := 0, last := 15 },
  { num := 0x8032, name := "MODEL_STEPS_TOTAL", typ := 5, size := 8, pf := 1, vf := 1, shep := 1, key := 1, dflt := 0, lo := 0, hi := 18446744073709551615, journaled := false, cls := 1, last := 15 },
  { num := 0x8033, name := "MODEL_STEPS_RECENT", typ := 4, size := 4, pf := 1, vf := 1, shep := 1, key := 1, dflt := 0, lo := 0, hi := 4294967295, journaled := false, cls := 0, last := 15 },
  { num := 0x8034, name := "EVICT_WINDOW", typ := 4, size := 4, pf := 1, vf := 0, shep := 2, key := 2, dflt := 3600, lo := 10, hi := 86400, journaled := true, cls := 0, last := 0 },
  { num := 0x8035, name := "SPAN_TIMEOUT", typ := 4, size := 4, pf := 1, vf := 0, shep := 2, key := 2, dflt := 100, lo := 1, hi := 10000, journaled := true, cls := 0, last := 0 },
  { num := 0x8040, name := "SERVE_STEPS", typ := 4, size := 4, pf := 1, vf := 1, shep := 1, key := 1, dflt := 0, lo := 0, hi := 4294967295, journaled := false, cls := 2, last := 63 },
  { num := 0x8041, name := "SERVE_TOKENS_OUT", typ := 4, size := 4, pf := 1, vf := 1, shep := 1, key := 1, dflt := 0, lo := 0, hi := 4294967295, journaled := false, cls := 2, last := 63 },
  { num := 0x8042, name := "SERVE_SPEC_NODES", typ := 4, size := 4, pf := 1, vf := 1, shep := 1, key := 1, dflt := 0, lo := 0, hi := 4294967295, journaled := false, cls := 2, last := 63 },
  { num := 0x8043, name := "SERVE_SPEC_ACCEPTED", typ := 4, size := 4, pf := 1, vf := 1, shep := 1, key := 1, dflt := 0, lo := 0, hi := 4294967295, journaled := false, cls := 2, last := 63 },
  { num := 0x8044, name := "SERVE_CANCELS", typ := 4, size := 4, pf := 1, vf := 1, shep := 1, key := 1, dflt := 0, lo := 0, hi := 4294967295, journaled := false, cls := 2, last := 63 },
  { num := 0x8045, name := "SERVE_REJECTS", typ := 4, size := 4, pf := 1, vf := 1, shep := 1, key := 1, dflt := 0, lo := 0, hi := 4294967295, journaled := false, cls := 2, last := 63 },
  { num := 0x8046, name := "SERVE_DEFERRED", typ := 4, size := 4, pf := 1, vf := 1, shep := 1, key := 1, dflt := 0, lo := 0, hi := 4294967295, journaled := false, cls := 2, last := 63 },
  { num := 0x8047, name := "SERVE_INTERVAL", typ := 5, size := 8, pf := 1, vf := 1, shep := 1, key := 1, dflt := 0, lo := 0, hi := 18446744073709551615, journaled := false, cls := 0, last := 63 },
  { num := 0x8050, name := "FETCH_CMD", typ := 9, size := 64, pf := 3, vf := 3, shep := 0, key := 0, dflt := 0, lo := 0, hi := 0, journaled := false, cls := 0, last := 63 },
  { num := 0x8051, name := "FETCH_STATUS", typ := 4, size := 4, pf := 1, vf := 1, shep := 1, key := 1, dflt := 0, lo := 0, hi := 4294967295, journaled := false, cls := 0, last := 63 },
  { num := 0x8052, name := "FETCH_CHUNKS_DONE", typ := 4, size := 4, pf := 1, vf := 1, shep := 1, key := 1, dflt := 0, lo := 0, hi := 4294967295, journaled := false, cls := 0, last := 63 },
  { num := 0x8053, name := "FETCH_BYTES", typ := 5, size := 8, pf := 1, vf := 1, shep := 1, key := 1, dflt := 0, lo := 0, hi := 18446744073709551615, journaled := false, cls := 1, last := 63 },
  { num := 0x8055, name := "SHARED_BASE_INFO", typ := 9, size := 80, pf := 1, vf := 1, shep := 1, key := 1, dflt := 0, lo := 0, hi := 0, journaled := false, cls := 0, last := 15 },
  { num := 0x8056, name := "BAR4_DROPPED", typ := 5, size := 8, pf := 1, vf := 0, shep := 1, key := 1, dflt := 0, lo := 0, hi := 18446744073709551615, journaled := false, cls := 1, last := 0 } ]

/-- Area 0x9: Training, format statistics, turns and snapshots. -/
def paramArea9 : List ParamInfo := [
  { num := 0x9000, name := "FMT_STAT_MOON", typ := 2, size := 1, pf := 2, vf := 0, shep := 2, key := 2, dflt := 0, lo := 0, hi := 255, journaled := false, cls := 0, last := 0 },
  { num := 0x9001, name := "TRAIN_MOON", typ := 2, size := 1, pf := 2, vf := 0, shep := 2, key := 2, dflt := 0, lo := 0, hi := 255, journaled := false, cls := 0, last := 0 },
  { num := 0x9010, name := "PIPE_CTX", typ := 5, size := 8, pf := 2, vf := 2, shep := 0, key := 0, dflt := 0, lo := 0, hi := 18446744073709551615, journaled := false, cls := 0, last := 63 },
  { num := 0x9011, name := "PIPE_PRIO", typ := 2, size := 1, pf := 2, vf := 2, shep := 0, key := 0, dflt := 0, lo := 0, hi := 3, journaled := false, cls := 0, last := 63 },
  { num := 0x9012, name := "PIPE_CTRL", typ := 2, size := 1, pf := 3, vf := 3, shep := 0, key := 0, dflt := 0, lo := 0, hi := 255, journaled := false, cls := 0, last := 63 },
  { num := 0x9013, name := "PIPE_STATUS", typ := 5, size := 8, pf := 1, vf := 1, shep := 1, key := 1, dflt := 0, lo := 0, hi := 18446744073709551615, journaled := false, cls := 0, last := 63 },
  { num := 0x9020, name := "PIPE_FWD", typ := 4, size := 4, pf := 1, vf := 1, shep := 1, key := 1, dflt := 0, lo := 0, hi := 4294967295, journaled := false, cls := 2, last := 63 },
  { num := 0x9021, name := "PIPE_BWD", typ := 4, size := 4, pf := 1, vf := 1, shep := 1, key := 1, dflt := 0, lo := 0, hi := 4294967295, journaled := false, cls := 2, last := 63 },
  { num := 0x9022, name := "PIPE_UPDATES", typ := 4, size := 4, pf := 1, vf := 1, shep := 1, key := 1, dflt := 0, lo := 0, hi := 4294967295, journaled := false, cls := 2, last := 63 },
  { num := 0x9023, name := "PIPE_WAIT_DERIVE_US", typ := 4, size := 4, pf := 1, vf := 1, shep := 1, key := 1, dflt := 0, lo := 0, hi := 4294967295, journaled := false, cls := 2, last := 63 },
  { num := 0x9024, name := "PIPE_INTERVAL", typ := 5, size := 8, pf := 1, vf := 1, shep := 1, key := 1, dflt := 0, lo := 0, hi := 18446744073709551615, journaled := false, cls := 0, last := 63 },
  { num := 0x9030, name := "GF_OVF_PPM", typ := 4, size := 4, pf := 2, vf := 2, shep := 0, key := 0, dflt := 100, lo := 0, hi := 1000000, journaled := false, cls := 0, last := 63 },
  { num := 0x9031, name := "GF_UNF_PPM", typ := 4, size := 4, pf := 2, vf := 2, shep := 0, key := 0, dflt := 20000, lo := 0, hi := 1000000, journaled := false, cls := 0, last := 63 },
  { num := 0x9032, name := "GF_DOWN_STEPS", typ := 2, size := 1, pf := 2, vf := 2, shep := 0, key := 0, dflt := 8, lo := 1, hi := 255, journaled := false, cls := 0, last := 63 },
  { num := 0x9100, name := "FMT_STAT_ELEMS", typ := 4, size := 4, pf := 1, vf := 1, shep := 1, key := 1, dflt := 0, lo := 0, hi := 4294967295, journaled := false, cls := 2, last := 255 },
  { num := 0x9101, name := "FMT_STAT_OVF", typ := 4, size := 4, pf := 1, vf := 1, shep := 1, key := 1, dflt := 0, lo := 0, hi := 4294967295, journaled := false, cls := 2, last := 255 },
  { num := 0x9102, name := "FMT_STAT_UNF", typ := 4, size := 4, pf := 1, vf := 1, shep := 1, key := 1, dflt := 0, lo := 0, hi := 4294967295, journaled := false, cls := 2, last := 255 },
  { num := 0x9103, name := "FMT_STAT_NONFIN", typ := 4, size := 4, pf := 1, vf := 1, shep := 1, key := 1, dflt := 0, lo := 0, hi := 4294967295, journaled := false, cls := 2, last := 255 },
  { num := 0x9104, name := "FMT_STAT_RES", typ := 4, size := 4, pf := 1, vf := 1, shep := 1, key := 1, dflt := 0, lo := 0, hi := 4294967295, journaled := false, cls := 2, last := 255 },
  { num := 0x9105, name := "FMT_STAT_INFO", typ := 4, size := 4, pf := 1, vf := 1, shep := 1, key := 1, dflt := 31, lo := 0, hi := 4294967295, journaled := false, cls := 0, last := 255 },
  { num := 0x9106, name := "FMT_STAT_INTERVAL", typ := 5, size := 8, pf := 1, vf := 1, shep := 1, key := 1, dflt := 0, lo := 0, hi := 18446744073709551615, journaled := false, cls := 0, last := 255 },
  { num := 0x9200, name := "GNS_CFG", typ := 9, size := 32, pf := 2, vf := 2, shep := 0, key := 0, dflt := 0, lo := 0, hi := 0, journaled := false, cls := 0, last := 63 },
  { num := 0x9201, name := "GNS_BATCH", typ := 4, size := 4, pf := 1, vf := 1, shep := 1, key := 1, dflt := 0, lo := 0, hi := 4294967295, journaled := false, cls := 0, last := 63 },
  { num := 0x9202, name := "GNS_G2", typ := 7, size := 4, pf := 1, vf := 1, shep := 1, key := 1, dflt := 0, lo := 0, hi := 4294967295, journaled := false, cls := 0, last := 63 },
  { num := 0x9203, name := "GNS_S", typ := 7, size := 4, pf := 1, vf := 1, shep := 1, key := 1, dflt := 0, lo := 0, hi := 4294967295, journaled := false, cls := 0, last := 63 },
  { num := 0x9204, name := "GNS_SAMPLES", typ := 5, size := 8, pf := 1, vf := 1, shep := 1, key := 1, dflt := 0, lo := 0, hi := 18446744073709551615, journaled := false, cls := 1, last := 63 },
  { num := 0x9205, name := "GNS_CLOSE", typ := 1, size := 1, pf := 3, vf := 3, shep := 0, key := 0, dflt := 0, lo := 0, hi := 1, journaled := false, cls := 0, last := 63 },
  { num := 0x9300, name := "ENTROPY_FAULTS", typ := 5, size := 8, pf := 1, vf := 0, shep := 1, key := 1, dflt := 0, lo := 0, hi := 18446744073709551615, journaled := true, cls := 1, last := 3 },
  { num := 0x9400, name := "TURN_CMD", typ := 9, size := 64, pf := 3, vf := 3, shep := 0, key := 0, dflt := 0, lo := 0, hi := 0, journaled := false, cls := 0, last := 63 },
  { num := 0x9401, name := "TURN_STATE", typ := 4, size := 4, pf := 1, vf := 1, shep := 1, key := 1, dflt := 0, lo := 0, hi := 4294967295, journaled := false, cls := 0, last := 63 },
  { num := 0x9402, name := "TURN_LAST_US", typ := 4, size := 4, pf := 1, vf := 1, shep := 1, key := 1, dflt := 0, lo := 0, hi := 4294967295, journaled := false, cls := 0, last := 63 },
  { num := 0x9403, name := "TURN_COUNT", typ := 5, size := 8, pf := 1, vf := 1, shep := 1, key := 1, dflt := 0, lo := 0, hi := 18446744073709551615, journaled := false, cls := 1, last := 63 },
  { num := 0x9500, name := "SNAP_CMD", typ := 9, size := 64, pf := 3, vf := 3, shep := 0, key := 0, dflt := 0, lo := 0, hi := 0, journaled := false, cls := 0, last := 63 },
  { num := 0x9501, name := "SNAP_STATE", typ := 4, size := 4, pf := 1, vf := 1, shep := 1, key := 1, dflt := 0, lo := 0, hi := 4294967295, journaled := false, cls := 0, last := 63 },
  { num := 0x9502, name := "SNAP_ACCEPT", typ := 9, size := 32, pf := 2, vf := 2, shep := 0, key := 0, dflt := 0, lo := 0, hi := 0, journaled := false, cls := 0, last := 63 } ]

/-- Area 0xA: Security. -/
def paramAreaA : List ParamInfo := [
  { num := 0xA000, name := "DEVICE_CERT", typ := 9, size := 7379, pf := 1, vf := 1, shep := 1, key := 1, dflt := 0, lo := 0, hi := 0, journaled := false, cls := 0, last := 0 },
  { num := 0xA001, name := "OPERATOR_KEY_DIGEST", typ := 9, size := 64, pf := 2, vf := 1, shep := 1, key := 4, dflt := 0, lo := 0, hi := 0, journaled := false, cls := 0, last := 0 },
  { num := 0xA002, name := "SESSION_OFFER", typ := 9, size := 6227, pf := 1, vf := 0, shep := 1, key := 1, dflt := 0, lo := 0, hi := 0, journaled := false, cls := 0, last := 0 },
  { num := 0xA003, name := "SESSION_OPEN", typ := 9, size := 1584, pf := 3, vf := 0, shep := 3, key := 3, dflt := 0, lo := 0, hi := 0, journaled := false, cls := 0, last := 0 },
  { num := 0xA004, name := "SESSION_PROVE", typ := 9, size := 7219, pf := 0, vf := 0, shep := 0, key := 3, dflt := 0, lo := 0, hi := 0, journaled := false, cls := 0, last := 0 },
  { num := 0xA005, name := "FW_CERT", typ := 9, size := 7379, pf := 1, vf := 1, shep := 1, key := 1, dflt := 0, lo := 0, hi := 0, journaled := false, cls := 0, last := 0 },
  { num := 0xA006, name := "FUSED_SVN", typ := 2, size := 1, pf := 1, vf := 1, shep := 1, key := 1, dflt := 0, lo := 0, hi := 64, journaled := false, cls := 0, last := 0 },
  { num := 0xA007, name := "DEBUG_STATE", typ := 2, size := 1, pf := 1, vf := 1, shep := 1, key := 1, dflt := 0, lo := 0, hi := 255, journaled := false, cls := 0, last := 0 },
  { num := 0xA010, name := "PUB_TRUST", typ := 9, size := 2592, pf := 1, vf := 0, shep := 1, key := 4, dflt := 0, lo := 0, hi := 0, journaled := true, cls := 0, last := 15 },
  { num := 0xA011, name := "TENANT_SIGN_KEY", typ := 9, size := 2592, pf := 2, vf := 1, shep := 0, key := 4, dflt := 0, lo := 0, hi := 0, journaled := false, cls := 0, last := 63 },
  { num := 0xA020, name := "ATTEST_NONCE", typ := 9, size := 32, pf := 2, vf := 2, shep := 2, key := 2, dflt := 0, lo := 0, hi := 0, journaled := false, cls := 0, last := 63 },
  { num := 0xA021, name := "ATTEST_REPORT", typ := 9, size := 10419, pf := 1, vf := 1, shep := 1, key := 1, dflt := 0, lo := 0, hi := 0, journaled := false, cls := 0, last := 63 },
  { num := 0xA030, name := "KEY_OFFER", typ := 9, size := 6227, pf := 1, vf := 1, shep := 0, key := 1, dflt := 0, lo := 0, hi := 0, journaled := false, cls := 0, last := 63 },
  { num := 0xA031, name := "KEY_LOAD", typ := 9, size := 1656, pf := 3, vf := 3, shep := 0, key := 3, dflt := 0, lo := 0, hi := 0, journaled := false, cls := 0, last := 63 },
  { num := 0xA032, name := "KEY_CMD", typ := 2, size := 1, pf := 3, vf := 3, shep := 0, key := 3, dflt := 0, lo := 0, hi := 255, journaled := false, cls := 0, last := 63 },
  { num := 0xA033, name := "KEY_STATE", typ := 4, size := 4, pf := 1, vf := 1, shep := 1, key := 1, dflt := 0, lo := 0, hi := 4294967295, journaled := false, cls := 0, last := 63 } ]

/-- Area 0xB: Journal, service and pack. -/
def paramAreaB : List ParamInfo := [
  { num := 0xB000, name := "PACK_ROLE", typ := 2, size := 1, pf := 1, vf := 0, shep := 2, key := 2, dflt := 255, lo := 0, hi := 255, journaled := true, cls := 0, last := 0 },
  { num := 0xB001, name := "PARENT_FABRIC", typ := 3, size := 2, pf := 1, vf := 0, shep := 2, key := 2, dflt := 65535, lo := 0, hi := 65535, journaled := true, cls := 0, last := 0 },
  { num := 0xB002, name := "ROLE_NOW", typ := 2, size := 1, pf := 1, vf := 1, shep := 1, key := 1, dflt := 0, lo := 0, hi := 255, journaled := false, cls := 0, last := 0 },
  { num := 0xB003, name := "PACK_STATE", typ := 2, size := 1, pf := 1, vf := 1, shep := 1, key := 1, dflt := 0, lo := 0, hi := 255, journaled := false, cls := 0, last := 0 },
  { num := 0xB004, name := "ORPHAN_MS", typ := 4, size := 4, pf := 1, vf := 0, shep := 2, key := 2, dflt := 1000, lo := 10, hi := 60000, journaled := true, cls := 0, last := 0 },
  { num := 0xB010, name := "MEMBER_FABRIC", typ := 3, size := 2, pf := 1, vf := 0, shep := 2, key := 2, dflt := 65535, lo := 0, hi := 65535, journaled := true, cls := 0, last := 63 },
  { num := 0xB011, name := "MEMBER_STATUS", typ := 4, size := 4, pf := 1, vf := 0, shep := 1, key := 1, dflt := 0, lo := 0, hi := 4294967295, journaled := true, cls := 0, last := 63 },
  { num := 0xB012, name := "MEMBER_SCORE", typ := 7, size := 4, pf := 1, vf := 0, shep := 1, key := 1, dflt := 0, lo := 0, hi := 4294967295, journaled := true, cls := 0, last := 63 },
  { num := 0xB013, name := "MEMBER_ANSWER", typ := 9, size := 32, pf := 1, vf := 0, shep := 1, key := 1, dflt := 0, lo := 0, hi := 0, journaled := false, cls := 0, last := 63 },
  { num := 0xB014, name := "MEMBER_POLL_MISSES", typ := 5, size := 8, pf := 1, vf := 0, shep := 1, key := 1, dflt := 0, lo := 0, hi := 18446744073709551615, journaled := true, cls := 1, last := 63 },
  { num := 0xB015, name := "MEMBER_SAMPLES", typ := 5, size := 8, pf := 1, vf := 0, shep := 1, key := 1, dflt := 0, lo := 0, hi := 18446744073709551615, journaled := true, cls := 1, last := 63 },
  { num := 0xB016, name := "MEMBER_LAST", typ := 5, size := 8, pf := 1, vf := 0, shep := 1, key := 1, dflt := 0, lo := 0, hi := 18446744073709551615, journaled := true, cls := 1, last := 63 },
  { num := 0xB020, name := "LATE_GAP_NS", typ := 4, size := 4, pf := 1, vf := 0, shep := 2, key := 2, dflt := 2000, lo := 100, hi := 1000000, journaled := true, cls := 0, last := 0 },
  { num := 0xB021, name := "HEALTH_SHIFT", typ := 2, size := 1, pf := 1, vf := 0, shep := 2, key := 2, dflt := 6, lo := 4, hi := 10, journaled := true, cls := 0, last := 0 },
  { num := 0xB022, name := "SUSPECT_ON", typ := 7, size := 4, pf := 1, vf := 0, shep := 2, key := 2, dflt := 1048576000, lo := 1028443341, hi := 1065353216, journaled := true, cls := 0, last := 0 },
  { num := 0xB023, name := "SUSPECT_OFF", typ := 7, size := 4, pf := 1, vf := 0, shep := 2, key := 2, dflt := 1040187392, lo := 0, hi := 1064514355, journaled := true, cls := 0, last := 0 },
  { num := 0xB024, name := "MIN_SAMPLES", typ := 3, size := 2, pf := 1, vf := 0, shep := 2, key := 2, dflt := 64, lo := 16, hi := 65535, journaled := true, cls := 0, last := 0 },
  { num := 0xB025, name := "EXPEL_INTERVAL", typ := 4, size := 4, pf := 1, vf := 0, shep := 2, key := 2, dflt := 600, lo := 600, hi := 86400, journaled := true, cls := 0, last := 0 },
  { num := 0xB026, name := "SPARES_DECLARED", typ := 2, size := 1, pf := 1, vf := 0, shep := 2, key := 2, dflt := 0, lo := 0, hi := 64, journaled := true, cls := 0, last := 0 },
  { num := 0xB027, name := "LAST_EXPEL", typ := 10, size := 8, pf := 1, vf := 0, shep := 1, key := 1, dflt := 0, lo := 0, hi := 18446744073709551615, journaled := true, cls := 0, last := 0 },
  { num := 0xB028, name := "PACK_HEALTH", typ := 2, size := 1, pf := 1, vf := 0, shep := 1, key := 1, dflt := 0, lo := 0, hi := 255, journaled := false, cls := 0, last := 0 },
  { num := 0xB030, name := "BARRIER_TIMEOUT", typ := 4, size := 4, pf := 1, vf := 0, shep := 2, key := 2, dflt := 10000, lo := 1, hi := 600000, journaled := true, cls := 0, last := 0 },
  { num := 0xB040, name := "BARRIER_DEF", typ := 9, size := 528, pf := 1, vf := 0, shep := 2, key := 2, dflt := 0, lo := 0, hi := 0, journaled := true, cls := 0, last := 255 },
  { num := 0xB041, name := "BARRIER_REC", typ := 9, size := 160, pf := 1, vf := 0, shep := 1, key := 1, dflt := 0, lo := 0, hi := 0, journaled := false, cls := 0, last := 255 },
  { num := 0xB042, name := "BARRIER_MOVE", typ := 9, size := 8, pf := 0, vf := 0, shep := 3, key := 3, dflt := 0, lo := 0, hi := 0, journaled := true, cls := 0, last := 255 },
  { num := 0xB050, name := "BARRIERS_RELEASED", typ := 4, size := 4, pf := 1, vf := 0, shep := 1, key := 1, dflt := 0, lo := 0, hi := 4294967295, journaled := false, cls := 2, last := 0 },
  { num := 0xB051, name := "BARRIERS_FAILED", typ := 4, size := 4, pf := 1, vf := 0, shep := 1, key := 1, dflt := 0, lo := 0, hi := 4294967295, journaled := false, cls := 2, last := 0 },
  { num := 0xB052, name := "HEALTH_SAMPLES", typ := 4, size := 4, pf := 1, vf := 0, shep := 1, key := 1, dflt := 0, lo := 0, hi := 4294967295, journaled := false, cls := 2, last := 0 },
  { num := 0xB053, name := "PACK_STAT_INTERVAL", typ := 5, size := 8, pf := 1, vf := 0, shep := 1, key := 1, dflt := 0, lo := 0, hi := 18446744073709551615, journaled := false, cls := 0, last := 0 },
  { num := 0xB100, name := "JOURNAL_STATE", typ := 4, size := 4, pf := 1, vf := 0, shep := 1, key := 1, dflt := 0, lo := 0, hi := 4294967295, journaled := false, cls := 0, last := 0 },
  { num := 0xB101, name := "JOURNAL_FILL", typ := 2, size := 1, pf := 1, vf := 0, shep := 1, key := 1, dflt := 0, lo := 0, hi := 255, journaled := false, cls := 0, last := 0 },
  { num := 0xB102, name := "JOURNAL_WEAR", typ := 2, size := 1, pf := 1, vf := 0, shep := 1, key := 1, dflt := 0, lo := 0, hi := 255, journaled := false, cls := 0, last := 0 },
  { num := 0xB103, name := "JOURNAL_EPOCH", typ := 4, size := 4, pf := 1, vf := 0, shep := 1, key := 1, dflt := 0, lo := 0, hi := 4294967295, journaled := false, cls := 3, last := 0 },
  { num := 0xB104, name := "COMPACT_AT", typ := 10, size := 8, pf := 1, vf := 0, shep := 2, key := 2, dflt := 0, lo := 0, hi := 18446744073709551615, journaled := true, cls := 0, last := 0 },
  { num := 0xB105, name := "JOURNAL_CMD", typ := 2, size := 1, pf := 0, vf := 0, shep := 0, key := 3, dflt := 0, lo := 0, hi := 255, journaled := false, cls := 0, last := 0 },
  { num := 0xB106, name := "JOURNAL_RECORDS", typ := 5, size := 8, pf := 1, vf := 0, shep := 1, key := 1, dflt := 0, lo := 0, hi := 18446744073709551615, journaled := true, cls := 1, last := 0 },
  { num := 0xB107, name := "JOURNAL_COMPACTIONS", typ := 5, size := 8, pf := 1, vf := 0, shep := 1, key := 1, dflt := 0, lo := 0, hi := 18446744073709551615, journaled := true, cls := 1, last := 0 },
  { num := 0xB108, name := "JOURNAL_BAD_BLOCKS", typ := 5, size := 8, pf := 1, vf := 0, shep := 1, key := 1, dflt := 0, lo := 0, hi := 18446744073709551615, journaled := true, cls := 1, last := 0 },
  { num := 0xB110, name := "FW_CMD", typ := 9, size := 32, pf := 3, vf := 0, shep := 0, key := 3, dflt := 0, lo := 0, hi := 0, journaled := false, cls := 0, last := 0 },
  { num := 0xB111, name := "FW_STATE", typ := 4, size := 4, pf := 1, vf := 0, shep := 1, key := 1, dflt := 0, lo := 0, hi := 4294967295, journaled := false, cls := 0, last := 0 },
  { num := 0xB112, name := "FW_BANK_INFO", typ := 9, size := 80, pf := 1, vf := 0, shep := 1, key := 1, dflt := 0, lo := 0, hi := 0, journaled := false, cls := 0, last := 1 },
  { num := 0xB113, name := "FW_TRIAL_S", typ := 4, size := 4, pf := 1, vf := 0, shep := 2, key := 2, dflt := 600, lo := 60, hi := 86400, journaled := true, cls := 0, last := 0 },
  { num := 0xB120, name := "MCODE_CMD", typ := 2, size := 1, pf := 3, vf := 0, shep := 3, key := 3, dflt := 0, lo := 0, hi := 255, journaled := false, cls := 0, last := 0 },
  { num := 0xB121, name := "MCODE_PENDING", typ := 2, size := 1, pf := 1, vf := 0, shep := 1, key := 1, dflt := 0, lo := 0, hi := 255, journaled := false, cls := 0, last := 3 },
  { num := 0xB122, name := "MCODE_VERSION", typ := 4, size := 4, pf := 1, vf := 1, shep := 1, key := 1, dflt := 0, lo := 0, hi := 4294967295, journaled := false, cls := 0, last := 0 },
  { num := 0xB130, name := "HBM_RECAL_PERIOD", typ := 4, size := 4, pf := 1, vf := 0, shep := 2, key := 2, dflt := 900, lo := 60, hi := 86400, journaled := true, cls := 0, last := 0 },
  { num := 0xB131, name := "HBM_RECALS", typ := 5, size := 8, pf := 1, vf := 0, shep := 1, key := 1, dflt := 0, lo := 0, hi := 18446744073709551615, journaled := true, cls := 1, last := 7 },
  { num := 0xB140, name := "SVC_CLEAR", typ := 4, size := 4, pf := 0, vf := 0, shep := 0, key := 3, dflt := 0, lo := 0, hi := 4294967295, journaled := false, cls := 0, last := 0 },
  { num := 0xB141, name := "CORE_FIELD_FAILS", typ := 5, size := 8, pf := 1, vf := 0, shep := 1, key := 1, dflt := 0, lo := 0, hi := 18446744073709551615, journaled := true, cls := 1, last := 3 } ]

/-- The parameters of an area by bits [15:12] of their number (R428). -/
def paramArea (n : Nat) : List ParamInfo :=
  match n / 4096 with
  | 0 => paramArea0
  | 1 => paramArea1
  | 2 => paramArea2
  | 3 => paramArea3
  | 4 => paramArea4
  | 5 => paramArea5
  | 6 => paramArea6
  | 7 => paramArea7
  | 8 => paramArea8
  | 9 => paramArea9
  | 10 => paramAreaA
  | 11 => paramAreaB
  | _ => []

/-- The row of a parameter, none when this stepping does not define the number (R439 NO_PARAM). -/
def paramInfo (n : Nat) : Option ParamInfo := (paramArea n).find? fun p => p.num = n

/-- The tabulated default of a parameter (R430). -/
def paramDefault (n : Nat) : Nat := match paramInfo n with | some p => p.dflt | none => 0

end Sys2Proof.Machine
end

