-- ==== Sys2Proof/Machine/State.lean ====
section
/-! DEFINITION. The state of the module (R1 to R529) with the queue of waiting commands, the ways a step can stop, and the state after
reset: a module as it left manufacture, before the 60 V input is applied (R465, R484). -/

namespace Sys2Proof.Machine

/-- Ways the module could stop. -/
inductive Fault where
  /-- Raised by no meaning: every access the spec describes ends in a status, an event or Fault-Stop, all of which are next states. Safe. -/
  | unused
  deriving DecidableEq, Repr

/-- Commands without a meaning. -/
inductive Refusal where
  /-- A command whose meaning is not written: raised by no meaning, only by an arm of exec that names its row. Safe. -/
  | notModelled (mnemonic : String)
  deriving DecidableEq, Repr

/-- The whole module. -/
structure State where
  /-- Commands waiting, first in first out; the model's own queue; reset empty. -/
  pending : List Instr
  /-- Orbit unit; R45; reset OrbitUnit.reset. -/
  orbit : OrbitUnit
  /-- Power, thermal state and sideband pins; R454; reset PowerUnit.reset. -/
  power : PowerUnit
  /-- Cores, kennel, arrays, bridges; R18; reset CoreUnit.reset. -/
  cores : CoreUnit
  /-- Memory hierarchy; R153; reset MemUnit.reset. -/
  mem : MemUnit
  /-- Rings, tasks, synchronisation objects; R186; reset TaskUnit.reset. -/
  tasks : TaskUnit
  /-- Moons 0 to 63; R223; reset empty (Moon.reset). -/
  moons : Tab Moon
  /-- Serving by moon; R258; reset empty (Serve.reset). -/
  serve : Tab Serve
  /-- Training by moon; R303; reset empty (Train.reset). -/
  train : Tab Train
  /-- Fetch engine; R337; reset FetchUnit.reset. -/
  fetch : FetchUnit
  /-- Link ports and transfers; R354; reset LinkUnit.reset. -/
  links : LinkUnit
  /-- Pack; R377; reset PackUnit.reset. -/
  pack : PackUnit
  /-- Host endpoint; R407; reset HostUnit.reset. -/
  host : HostUnit
  /-- Dictionary; R428; reset DictUnit.reset. -/
  dict : DictUnit
  /-- Class B groups and format statistics; R219; reset StatUnit.reset. -/
  stat : StatUnit
  /-- Journal; R475; reset JournalUnit.reset. -/
  journal : JournalUnit
  /-- Firmware and microcode; R488; reset FwUnit.reset. -/
  fw : FwUnit
  /-- Security; R495; reset SecUnit.reset. -/
  sec : SecUnit
  /-- Test access port; R527; reset JtagUnit.reset. -/
  jtag : JtagUnit
  /-- What the module has sent out, newest first; the model's own record of its outputs; reset empty. -/
  out : List Out
  /-- Number of the next free value drawn; the model's own counter; reset 0 [DESIGN CHOICE 4]. -/
  free : Nat
  deriving DecidableEq, Repr

/-- Reset values of the orbit unit (R45, R46). -/
def OrbitUnit.reset : OrbitUnit :=
  { now := 0, refNs := 0, state := .unlocked, everLocked := false, slew := 0, slewPhase := 0, ppsArmed := false, refValid := false,
    refWhole := true, refInvalidAt := 0, refPpb := 0, refExtra := 0, refCountAt := 0, edgeRef := 0, edgeSec := 0, sourceAt := 0, upstream := false, onAlt := false, diverged := false,
    divergedAt := none, run := [], heard := [], missRun := 0, beaconAt := 0, beaconSeq := 0, lead := 0xFFFF, delays := [], ptpRun := [],
    ptpDelay := 0, ptpReq := none, ptpMaster := none, ptpAt := 0, lockAt := 0, beaconSentAt := 0, beaconMissAt := 0, delayReqAt := 0 }

/-- Reset values of the power unit: no input, straps open (R465, R526). -/
def PowerUnit.reset : PowerUnit :=
  { phase := .off, bootStep := 3, bootHalt := false, draining := false, faultReason := 0, svcReason := 0, roleSel := 3,
    slotId := 31, pwrGood := false, svcReqPin := false, faultPin := false, leak := false, band := .normal, failedRail := none,
    railsOffAt := none, powerShare := 0, thermalShare := [], credit := 800000000, creditFull := true, zSamples := [], powerHist := [], heldFacts := none, zRaised := false,
    hotDies := [], coolantHot := false, sensorFaults := [], energyRest := 0 }

/-- Reset values of the core unit: the default map and no field repair (R22). -/
def CoreUnit.reset : CoreUnit :=
  { map := [], failed := [], withdrawn := [], subst := [], arrays := [], fusePending := [], testedAt := [], testing := [], testedOrbit := [], poolNow := 0, gemmMoons := [],
    faulty := [], testCycleAt := 0, testCycleSec := 0, bridges := [], bridgeSpares := [], mcode := [], reloading := false, uncorrected := [], corrected := [], vregs := [] }

/-- Reset values of the memory unit: nothing listed (R183). -/
def MemUnit.reset : MemUnit :=
  { hbm := [], spm := [], pages := [], ueHbm := [], ueSpm := [], ueOpc := [], msc := [], dirty := [], band := [], rows := [], opc := [], tlb := [], comet := [],
    demand := [], hbmScrubAt := [], spmScrubAt := [], privPages := [], sentPages := [], recal := [],
    recalTemp := [], recalAt := [], temp := [], retirePend := [] }

/-- Reset values of one command ring (R204 to R206). -/
def Ring.reset : Ring :=
  { base := 0, cplBase := 0, log2 := 0, enable := false, irqFail := true, tail := 0, head := 0, started := 0, state := .disabled,
    dbErr := false, fail := false, cfgErr := false, cplErr := false, failSeq := 0, failKept := false }

/-- Reset values of the task unit. -/
def TaskUnit.reset : TaskUnit := { rings := [], tasks := [], objs := [], blocks := [], served := [], suspNo := 0, tickAt := none, shares := [] }

/-- Reset values of a ledger (R250). -/
def Ledger.reset : Ledger :=
  { spanOpen := false, startOrbit := 0, flags := 0, engineNs := 0, moveNs := 0, heldNs := 0, pageNs := 0, txBytes := 0, recSeq := 0,
    records := [], gap := false }

/-- A moon that is FREE (R228). -/
def Moon.reset : Moon :=
  { state := .free, prev := .free, pool := false, privileged := false, octets := [], poolCount := 0, linkShare := 0, hbmPages := 0,
    blocks := [], job := none, status := 0, table := [], save := [], image := [], spilled := false, pageReq := 0, displaced := false,
    vtime := 0, nextOctets := [], residentAt := none, runnable := false, prio := [], keepQuota := none, ledger := Ledger.reset, swap := .none, migCmd := none, mig := .none, migAt := 0,
    held := [], recvWin := [], routes := [], marks := [], imageUe := [], precopied := [], swapAt := 0, moves := [], heldSent := 0 }

/-- An EMPTY model slot (R266). -/
def Slot.reset : Slot :=
  { state := .empty, lastVersion := 0, versions := [], registration := none, swap := none, variants := [], unload := false,
    admitsOff := false, running := none, stepTimes := [], step := 0 }

/-- Serving of a moon with nothing installed (R259). -/
def Serve.reset : Serve :=
  { ctxMa := 0, ctx := none, seqs := [], gens := [], slots := [], runs := [], kvUsed := [], kvSp := [] }

/-- A layer's tallies at START (R321). -/
def Layer.reset : Layer := { gtag := 0, e4Ovf := 0, e4Unf := 0, e5Ovf := 0, e5Unf := 0, elems := 0 }

/-- Training of a moon with the pipeline unit OFF (R313). -/
def Train.reset : Train :=
  { ctxMa := 0, pipeRec := none, state := .off, error := 0, task := 0, code := 0, program := none, active := false, taken := false,
    nextProgram := none, side := false, prefetched := none, resetting := false, nextMb := 0, inFlight := [], fwdInStep := 0, bwdSince := 0,
    steps := 0, layers := [], restoring := none, cmdHead := 0, waitAt := none, waitNs := 0, fromRing := false, gns := none, gnsL := 0, gnsG := 0, gnsSeen := false, gnsMean := 0, gnsNoise := 0, snap := none,
    snapStage := 0, snapState := 0, accept := none, layout := .none, phase := .idle, turnCode := 0, turn := none, turnAt := 0,
    drainAt := 0 }

/-- Reset values of the fetch unit. -/
def FetchUnit.reset : FetchUnit := { jobs := [], status := [], shared := [], bar4Owner := none, bar4 := [], served := 63 }

/-- An EMPTY shared base (R347). -/
def SharedBase.reset : SharedBase := { state := 0, manifest := [], pages := [], attached := 0, header := [] }

/-- An EMPTY BAR4 buffer (R349). -/
def Bar4Buf.reset : Bar4Buf := { offset := 0, len := 0, full := false, bytes := [] }

/-- A port before start-up step 10 (R376). -/
def Port.reset : Port :=
  { phase := .disabled, enabled := true, degraded := false, sxl1 := false, forced112 := false, protoRefused := false, conflict := false,
    meas := none, measAt := 0, class224 := false, width := 0, partner := none, txSeq := 0, rxSeq := 0, retry := [], retryRun := 0,
    retryTimes := [], failTimes := [], t1 := 0, credit0 := 0, credit1 := 0, credit2 := [], rxUsed := [], heldBy := [], owed := 0, downAt := 0, repeat112 := false,
    high := false, shown := none, resume := false, asked := false, wants := [],
    queue := [], turn := (0, 0) }

/-- Reset values of the link unit. -/
def LinkUnit.reset : LinkUnit := { ports := [], fwd := [], transit := [], parked := [], rx := [], rxXfers := [], tx := [], nextXfer := 0 }

/-- Reset values of the pack unit (R377, R382). -/
def PackUnit.reset : PackUnit :=
  { role := 0, packState := 0, pollAt := none, seenEpoch := none, leadFabric := none, bootEpoch := 0, pollSeq := 0, members := [],
    barriers := [], instances := [], records := [], sent := [], frozen := false, pollBase := 0, expelRef := 0, expelFree := false }

/-- Reset values of one function (R416, R421). -/
def Func.reset : Func :=
  { evqBase := 0, evqLog2 := 0, evqEnable := false, evqTail := 0, evqHead := 0, evqOverflow := false, evqCfgErr := false, evqDropped := 0,
    lostBefore := false, mbx := .idle, mbxRefused := false, rspLen := 0, mbxIrq := false, reqBuf := [], rspBuf := [], msixTable := [],
    unmasked := [], pendingVecs := [], busMaster := false, cfg := [] }

/-- Reset values of the endpoint (R412, R414). -/
def HostUnit.reset : HostUnit :=
  { funcs := [], vfEnable := false, numVfs := 0, winBase := [], winDenied := [], bar2Size := 512 * 2 ^ 30, perst := true,
    linkTraining := false, heldEvents := [], taken := [], heldTaken := [], waiting := [] }

/-- The answer register before any answer. -/
def Answer.reset : Answer := { frame := 0, status := 0, stuck := false, last := false, value := [] }

/-- Reset values of the dictionary (R430). -/
def DictUnit.reset : DictUnit :=
  { params := [], blobs := [], selectors := [], stuckList := [], staging := [], pieces := [], nonce := 0, nonceCeil := 0, nonceProv := 0,
    forwarded := [], nextRequest := 0, held := [], parts := [], csma := [], plcaAt := [], answer := Answer.reset }

/-- Reset values of the statistics (R219). -/
def StatUnit.reset : StatUnit := { cnt := [], snap := [], start := [], raised := [], fmtInfo := [], fmtSnap := [], slotRest := [] }

/-- The journal as it left manufacture: JR0 with the checkpoint of epoch 0 (R484). -/
def JournalUnit.reset : JournalUnit :=
  { active := 0, epoch := 0, committed := [], openPage := [], programming := [], seq := 0, pages := 1, compacting := false, s0 := 0,
    torn := false, wasReset := false, valid := true, spare := 128, erases := [], compactWaits := false, gapNext := false, snapAt := 0, countAt := 0 }

/-- An EMPTY firmware bank. -/
def Bank.reset : Bank := { image := [], digest := [], version := 0, svn := 0, mcode := 0, valid := false }

/-- Reset values of the firmware unit (R488). -/
def FwUnit.reset : FwUnit :=
  { running := 0, trial := false, other := 0, fellBack := false, lastOp := 0, code := 0, banks := [], trialAt := 0, swap := none, trialTried := false,
    staging := none, retrainPorts := [], fusedSvn := 0, revoked := [] }

/-- An EMPTY key slot (R511). -/
def KeySlot.reset : KeySlot := { key := none, generated := false, lastError := 0 }

/-- Reset values of the security unit (R517). -/
def SecUnit.reset : SecUnit :=
  { operatorKeys := [], offers := [], provisional := none, proven := none, slots := [], moduleKey := false, nonces := [],
    debug := .locked, everUnlocked := false, entropyBad := [], challenge := none, refusedAt := none }

/-- Reset values of the test access port (R527). -/
def JtagUnit.reset : JtagUnit := { ir := .idcode, cells := 0, dr := 0 }

/-- The module right after reset: no input yet, nothing queued. -/
def State.reset : State :=
  { pending := [], orbit := OrbitUnit.reset, power := PowerUnit.reset, cores := CoreUnit.reset, mem := MemUnit.reset,
    tasks := TaskUnit.reset, moons := [], serve := [], train := [], fetch := FetchUnit.reset, links := LinkUnit.reset,
    pack := PackUnit.reset, host := HostUnit.reset, dict := DictUnit.reset, stat := StatUnit.reset, journal := JournalUnit.reset,
    fw := FwUnit.reset, sec := SecUnit.reset, jtag := JtagUnit.reset, out := [], free := 0 }

end Sys2Proof.Machine
end

