-- ==== Sys2Proof/Machine/Ops.lean ====
section
/-! DEFINITION. Operations shared by every meaning: sparse tables, bytes and canonical memory (R8, R40), counters of the three classes
(R218 to R220), parameters (R430), events and MSI-X (R421 to R423), journal appends (R476 to R478), power-state codes (R467). -/

namespace Sys2Proof.Machine

/-- The answer of a meaning. -/
abbrev Res := Host.Outcome State Fault Refusal

/-! ## Sparse tables -/

/-- The value of key `k`, the default when it is not listed. -/
def tget {α : Type} (t : Tab α) (d : α) (k : Nat) : α :=
  match t with
  | [] => d
  | (j, v) :: r => if j = k then v else tget r d k

/-- Whether key `k` is listed. -/
def thas {α : Type} (t : Tab α) (k : Nat) : Bool := t.any fun e => e.1 == k

/-- The value of key `k`, if listed. -/
def tfind {α : Type} (t : Tab α) (k : Nat) : Option α :=
  match t with
  | [] => none
  | (j, v) :: r => if j = k then some v else tfind r k

/-- Set key `k`, keeping keys in ascending order. -/
def tset {α : Type} (t : Tab α) (k : Nat) (x : α) : Tab α :=
  match t with
  | [] => [(k, x)]
  | (j, v) :: r => if j = k then (k, x) :: r else if k < j then (k, x) :: (j, v) :: r else (j, v) :: tset r k x

/-- Remove key `k`. -/
def tdel {α : Type} (t : Tab α) (k : Nat) : Tab α := t.filter fun e => e.1 != k

/-- Change the value of key `k`. -/
def tmod {α : Type} (t : Tab α) (d : α) (k : Nat) (f : α → α) : Tab α := tset t k (f (tget t d k))

/-- Add a number to an ascending list without repeats. -/
def addNum (l : List Nat) (n : Nat) : List Nat :=
  match l with
  | [] => [n]
  | a :: r => if a = n then l else if n < a then n :: l else a :: addNum r n

/-- Remove a number. -/
def delNum (l : List Nat) (n : Nat) : List Nat := l.filter fun a => a != n

/-- The numbers below `n` in ascending order. -/
def upTo (n : Nat) : List Nat := List.range n

/-- The set bits of a mask below `n`, ascending. -/
def bitsOf (mask n : Nat) : List Nat := (List.range n).filter fun i => mask.testBit i

/-- The mask of a list of bit numbers. -/
def maskOf (l : List Nat) : Nat := l.foldl (fun m i => m ||| 2 ^ i) 0

/-- The least of a list, `d` when it is empty. -/
def leastOf (l : List Nat) (d : Nat) : Nat := l.foldl Nat.min d

/-! ## Bytes (R8) -/

/-- The low `n` bytes of `v`, little-endian. -/
def leBytes (n v : Nat) : Bytes :=
  match n with
  | 0 => []
  | n + 1 => BitVec.ofNat 8 v :: leBytes n (v / 256)

/-- The number that little-endian bytes spell. -/
def leNat (b : Bytes) : Nat :=
  match b with
  | [] => 0
  | x :: r => x.toNat + 256 * leNat r

/-- Bytes from `o`, `n` of them, zeros past the end. -/
def slice (b : Bytes) (o n : Nat) : Bytes := let x := (b.drop o).take n; x ++ List.replicate (n - x.length) 0

/-- The little-endian number in `n` bytes at offset `o`. -/
def field (b : Bytes) (o n : Nat) : Nat := leNat (slice b o n)

/-- The two's complement value of a `w`-bit number. -/
def toSigned (w v : Nat) : Int := let u := v % 2 ^ w; if u < 2 ^ (w - 1) then (u : Int) else (u : Int) - (2 ^ w : Nat)

/-- The `w`-bit two's complement pattern of an integer. -/
def ofSigned (w : Nat) (v : Int) : Nat := (v % ((2 ^ w : Nat) : Int)).toNat

/-- Zeros to pad `b` to `n` bytes. -/
def padTo (b : Bytes) (n : Nat) : Bytes := b ++ List.replicate (n - b.length) 0

/-! ## Canonical memory: addresses strictly rising, no entry equal to the 0 an unlisted address reads as [3] -/

/-- The byte at an address; 0 when not listed [DESIGN CHOICE 3]. -/
def memGet (m : List Host.Cell) (a : Nat) : Byte := tget m 0 a

/-- Write one byte, keeping the canonical form. -/
def memSet (m : List Host.Cell) (a : Nat) (v : Byte) : List Host.Cell :=
  match m with
  | [] => if v = 0 then [] else [(a, v)]
  | (b, x) :: r =>
    if b = a then (if v = 0 then r else (a, v) :: r)
    else if a < b then (if v = 0 then (b, x) :: r else (a, v) :: (b, x) :: r)
    else (b, x) :: memSet r a v

/-- `n` bytes from address `a`. -/
def memRead (m : List Host.Cell) (a n : Nat) : Bytes :=
  match n with
  | 0 => []
  | n + 1 => memGet m a :: memRead m (a + 1) n

/-- Write bytes from address `a`. -/
def memWrite (m : List Host.Cell) (a : Nat) (b : Bytes) : List Host.Cell :=
  match b with
  | [] => m
  | x :: r => memWrite (memSet m a x) (a + 1) r

/-- Write zeros over `n` bytes from address `a` (R183). -/
def memZero (m : List Host.Cell) (a n : Nat) : List Host.Cell := m.filter fun c => c.1 < a || a + n ≤ c.1

/-- The listed bytes of a range, keyed from its start. -/
def memPart (m : List Host.Cell) (a n : Nat) : List Host.Cell :=
  (m.filter fun c => a ≤ c.1 && c.1 < a + n).map fun c => (c.1 - a, c.2)

/-- Write the listed bytes of a part at address `a`. -/
def memPut (m : List Host.Cell) (a : Nat) (p : List Host.Cell) : List Host.Cell :=
  p.foldl (fun m c => memSet m (a + c.1) c.2) m

/-- The canonical form: strictly rising addresses, no listed zero. -/
def memWf (m : List Host.Cell) : Bool :=
  match m with
  | [] => true
  | (a, v) :: r => decide (v ≠ 0) && r.all (fun c => decide (a < c.1)) && memWf r

/-- Every byte memory of the state is canonical. -/
def Memory.wf (s : State) : Bool := memWf s.mem.hbm && memWf s.mem.spm && memWf s.cores.vregs

/-! ## Units by number -/

/-- Moon `m`. -/
def getMoon (s : State) (m : Nat) : Moon := tget s.moons Moon.reset m

/-- Set moon `m`. -/
def setMoon (s : State) (m : Nat) (x : Moon) : State := { s with moons := tset s.moons m x }

/-- Change moon `m`. -/
def modMoon (s : State) (m : Nat) (f : Moon → Moon) : State := setMoon s m (f (getMoon s m))

/-- Command ring `r` of moon `m`. -/
def getRing (s : State) (m r : Nat) : Ring := tget s.tasks.rings Ring.reset (16 * m + r)

/-- Set command ring `r` of moon `m`. -/
def setRing (s : State) (m r : Nat) (x : Ring) : State :=
  { s with tasks := { s.tasks with rings := tset s.tasks.rings (16 * m + r) x } }

/-- Serving of moon `m`. -/
def getServe (s : State) (m : Nat) : Serve := tget s.serve Serve.reset m

/-- Set serving of moon `m`. -/
def setServe (s : State) (m : Nat) (x : Serve) : State := { s with serve := tset s.serve m x }

/-- Training of moon `m`. -/
def getTrain (s : State) (m : Nat) : Train := tget s.train Train.reset m

/-- Set training of moon `m`. -/
def setTrain (s : State) (m : Nat) (x : Train) : State := { s with train := tset s.train m x }

/-- Function `n` of the endpoint, 0 the PF (R411). -/
def getFn (s : State) (n : Nat) : Func := tget s.host.funcs Func.reset n

/-- Set function `n`. -/
def setFn (s : State) (n : Nat) (f : Func) : State := { s with host := { s.host with funcs := tset s.host.funcs n f } }

/-- Link port `p`. -/
def getPort (s : State) (p : Nat) : Port := tget s.links.ports Port.reset p

/-- Set link port `p`. -/
def setPort (s : State) (p : Nat) (x : Port) : State := { s with links := { s.links with ports := tset s.links.ports p x } }

/-- Append to the module's outputs. -/
def emit (s : State) (o : Out) : State := { s with out := o :: s.out }

/-- Draw a free value: its number, and the state with the counter advanced [4, 5]. -/
def draw (s : State) : Nat × State := (s.free, { s with free := s.free + 1 })

/-- The module runs: start-up complete, not in Fault-Stop (R467). -/
def isUp (s : State) : Bool := s.power.phase == .up

/-- A meaning that acts only while the module runs; otherwise nothing happens [DESIGN CHOICE 10]. -/
def whenUp (s : State) (t : State) : Res := if isUp s then .next t else .next s

/-! ## Functions and roles (R412, R432) -/

/-- VF `n` is enabled (R412). -/
def vfOn (s : State) (n : Nat) : Bool := s.host.vfEnable && decide (1 ≤ n) && decide (n ≤ s.host.numVfs)

/-- The function that hosts moon `m`: VF `m` while enabled, otherwise the PF (R412). -/
def hostFn (s : State) (m : Nat) : Nat := if vfOn s m then m else 0

/-- The function a writer stands on, none for the other paths (R423 "Writer"). -/
def writerFn (w : Who) : Option Nat :=
  match w.path with
  | .pf => some 0
  | .vf n => some n
  | _ => none

/-- The role is the moon's own role: its VF as tenant, or the PF while it hosts the moon (R222, R412). -/
def ownRole (s : State) (w : Who) (m : Nat) : Bool :=
  match w.role, w.path with
  | .tenant, .vf n => n == m
  | .hostPf, .pf => hostFn s m == 0
  | _, _ => false

/-- The number of a role as frames carry it (R435). -/
def roleCode : Role → Nat
  | .hostPf => 0
  | .tenant => 1
  | .shepherd => 2
  | .operatorKey => 3

/-! ## Events and MSI-X (R419 to R423) -/

/-- Raise a vector: a message, or its pending bit while masked (R421). -/
def sendMsix (s : State) (fn v : Nat) : State :=
  let f := getFn s fn
  if v ∈ f.unmasked then (if f.busMaster then emit (setFn s fn { f with pendingVecs := delNum f.pendingVecs v }) (.msix fn v) else s)
  else setFn s fn { f with pendingVecs := addNum f.pendingVecs v }

/-- The 64 bytes of an event record (R422). -/
def eventBytes (seq : W32) (code moon : Nat) (lost : Bool) (orbit : Nat) (args : List Nat) : Bytes :=
  padTo (leBytes 4 seq.toNat ++ leBytes 2 code ++ leBytes 1 moon ++ leBytes 1 (if lost then 1 else 0) ++ leBytes 8 orbit ++
    (args.take 6).flatMap (leBytes 8)) 64

/-- The vector of an event record: 32 on a VF, 32 m + 17 or 19 on the PF (R419, R420). -/
def eventVector (fn moon : Nat) : Nat := if fn ≠ 0 then 32 else if moon = 0xFF then 19 else 32 * moon + 17

/-- Saturating 64-bit addition (R218). -/
def satAdd (a n : Nat) : Nat := Nat.min (a + n) (2 ^ 64 - 1)

/-- Write an event record to a function's queue, or drop and count it (R421, R422). -/
def postEvent (s : State) (fn code moon orbit : Nat) (args : List Nat) : State :=
  let f := getFn s fn
  let size := 2 ^ f.evqLog2
  if !f.evqEnable || decide (size ≤ (f.evqTail - f.evqHead).toNat) then
    setFn s fn { f with evqDropped := satAdd f.evqDropped 1, evqOverflow := true, lostBefore := true }
  else if !f.busMaster then setFn s fn { f with evqDropped := satAdd f.evqDropped 1, lostBefore := true }
  else
    let addr := f.evqBase + 64 * (f.evqTail.toNat % size)
    let s := setFn s fn { f with evqTail := f.evqTail + 1, lostBefore := false }
    sendMsix (emit s (.dma fn addr (eventBytes f.evqTail code moon f.lostBefore orbit args))) fn (eventVector fn moon)

/-- Raise an event to a function; held while the management controller restarts (R489). -/
def raiseTo (s : State) (fn code moon : Nat) (args : List Nat) : State :=
  if s.fw.swap.isSome then
    { s with host := { s.host with heldEvents := s.host.heldEvents ++ [⟨fn, code, moon, s.orbit.now, args⟩] } }
  else postEvent s fn code moon s.orbit.now args

/-- Raise an event to the PF with MOON = 0xFF (R423). -/
def raisePf (s : State) (code : Nat) (args : List Nat) : State := raiseTo s 0 code 0xFF args

/-- Raise an event to the function hosting a moon (R423). -/
def raiseMoon (s : State) (m code : Nat) (args : List Nat) : State := raiseTo s (hostFn s m) code m args

/-- Raise an event to the function that wrote a command; none for another role (R423). -/
def raiseWriter (s : State) (w : Who) (m code : Nat) (args : List Nat) : State :=
  match writerFn w with
  | some fn => raiseTo s fn code m args
  | none => s

/-! ## Parameters and counters (R218, R219, R430) -/

/-- The key of a parameter's element. -/
def pkey (p e : Nat) : Nat := 65536 * p + e

/-- The value of a numeric parameter that software or a counter keeps (R430). -/
def param (s : State) (p e : Nat) : Nat := tget s.dict.params (paramDefault p) (pkey p e)

/-- Set a numeric parameter. -/
def setParam (s : State) (p e v : Nat) : State := { s with dict := { s.dict with params := tset s.dict.params (pkey p e) v } }

/-- Counters of one moon: their CNT_STUCK goes to the moon (R423). The element's moon. -/
def counterMoon (p e : Nat) : Option Nat :=
  if p = 0x8032 then some (e / 256)
  else if p ∈ [0x5052, 0x6033, 0x6111, 0x7000, 0x7001, 0x7002, 0x7003, 0x7004, 0x8053, 0x9204, 0x9403] then some (e % 256) else none

/-- Increase a class A counter (R218). -/
def incA (s : State) (p e n : Nat) : State :=
  let k := pkey p e
  if k ∈ s.dict.stuckList then s
  else
    let v := param s p e + n
    if v < 2 ^ 64 then setParam s p e v
    else
      let s := setParam s p e (2 ^ 64 - 1)
      let s := { s with dict := { s.dict with stuckList := addNum s.dict.stuckList k } }
      match counterMoon p e with
      | some m => raiseMoon s m 0x0701 [p, e % 256]
      | none => raisePf s 0x0701 [p, e]

/-- Set a class A counter that its chapter clears (R218). -/
def clearA (s : State) (p e : Nat) : State :=
  let s := setParam s p e 0
  { s with dict := { s.dict with stuckList := delNum s.dict.stuckList (pkey p e) } }

/-- A class B group: its counters, first member first, and its interval (R219). -/
structure GroupB where
  counters : List Nat
  interval : Nat
  deriving DecidableEq, Repr

/-- The class B group a parameter belongs to (R84, R124, R185, R222, R257, R300, R336, R376, R406, R452, R474). -/
def groupOf (p : Nat) : Option GroupB :=
  if p ∈ [0x0030, 0x0031, 0x0032, 0x0033, 0x0034] then some ⟨[0x0030, 0x0031, 0x0032, 0x0033], 0x0034⟩
  else if p ∈ [0x1020, 0x1021, 0x1022, 0x1023] then some ⟨[0x1020, 0x1021, 0x1022], 0x1023⟩
  else if p ∈ [0x203B, 0x203C, 0x203D] then some ⟨[0x203B, 0x203C], 0x203D⟩
  else if p ∈ [0x3030, 0x3031, 0x3032, 0x3033, 0x3034] then some ⟨[0x3030, 0x3031, 0x3032, 0x3033], 0x3034⟩
  else if p ∈ [0x4003, 0x4004, 0x4005] then some ⟨[0x4003, 0x4004], 0x4005⟩
  else if p ∈ [0x4010, 0x4011, 0x4012] then some ⟨[0x4010, 0x4011], 0x4012⟩
  else if p ∈ [0x4032, 0x4033, 0x4034] then some ⟨[0x4032, 0x4033], 0x4034⟩
  else if p ∈ [0x5030, 0x5031, 0x5032, 0x5033, 0x5034] then some ⟨[0x5030, 0x5031, 0x5032, 0x5033], 0x5034⟩
  else if p ∈ [0x6030, 0x6031, 0x6032] then some ⟨[0x6030, 0x6031], 0x6032⟩
  else if p ∈ [0x6100, 0x6101, 0x6102, 0x6103] then some ⟨[0x6100, 0x6101, 0x6102], 0x6103⟩
  else if p ∈ [0x8040, 0x8041, 0x8042, 0x8043, 0x8044, 0x8045, 0x8046, 0x8047] then
    some ⟨[0x8040, 0x8041, 0x8042, 0x8043, 0x8044, 0x8045, 0x8046], 0x8047⟩
  else if p ∈ [0x9020, 0x9021, 0x9022, 0x9023, 0x9024] then some ⟨[0x9020, 0x9021, 0x9022, 0x9023], 0x9024⟩
  else if p ∈ [0x9100, 0x9101, 0x9102, 0x9103, 0x9104, 0x9106] then some ⟨[0x9100, 0x9101, 0x9102, 0x9103, 0x9104], 0x9106⟩
  else if p ∈ [0xB050, 0xB051, 0xB052, 0xB053] then some ⟨[0xB050, 0xB051, 0xB052], 0xB053⟩
  else none

/-- The first member of a group, 0 for none. -/
def GroupB.first (g : GroupB) : Nat := g.counters.headD 0

/-- Raise the saturation event of a group (R219, R423): the parameter, the element, the die, the port, the tag or nothing. -/
def raiseSat (s : State) (first p e : Nat) : State :=
  match first with
  | 0x0030 => raisePf s 0x0001 [p]
  | 0x1020 => raisePf s 0x010A [p]
  | 0x203B => raisePf s 0x0203 [p]
  | 0x3030 => raisePf s 0x0302 [e]
  | 0x4003 => raisePf s 0x0403 [p, e]
  | 0x4010 => raisePf s 0x0403 [p, e]
  | 0x4032 => raisePf s 0x0403 [p, e]
  | 0x5030 => raisePf s 0x0505 [e]
  | 0x6030 => raiseMoon s e 0x0607 []
  | 0x6100 => raiseMoon s e 0x0602 []
  | 0x8040 => raiseMoon s e 0x0801 []
  | 0x9020 => raiseMoon s e 0x0903 []
  | 0x9100 => raiseMoon s (e / 256) 0x0901 [e % 256]
  | 0xB050 => raisePf s 0x0B09 []
  | _ => s

/-- The value of a class B counter in its interval. -/
def cntB (s : State) (p e : Nat) : Nat := tget s.stat.cnt 0 (pkey p e)

/-- Increase a class B counter; the first saturation of its group in an interval raises the event (R219). -/
def incB (s : State) (p e n : Nat) : State :=
  let v := cntB s p e + n
  let t := { s with stat := { s.stat with cnt := tset s.stat.cnt (pkey p e) (Nat.min v 0xFFFFFFFF) } }
  if v < 0xFFFFFFFF then t
  else match groupOf p with
    | none => t
    | some g =>
      let k := pkey g.first e
      if k ∈ s.stat.raised then t
      else raiseSat { t with stat := { t.stat with raised := addNum t.stat.raised k } } g.first p e

/-- The interval of a group: orbit ns since its start, 0 when orbit was UNLOCKED at either end (R219). -/
def intervalB (s : State) (first e : Nat) : Nat :=
  let st := tget s.stat.start (0, false) (pkey first e)
  if st.2 && s.orbit.state != .unlocked then s.orbit.now - st.1 else 0

/-- Clear a group and start a new interval (R219). -/
def clearB (s : State) (p e : Nat) : State :=
  match groupOf p with
  | none => s
  | some g =>
    { s with stat := { s.stat with
        cnt := s.stat.cnt.filter fun x => !(g.counters.any fun c => x.1 == pkey c e)
        start := tset s.stat.start (pkey g.first e) (s.orbit.now, s.orbit.state != .unlocked)
        raised := delNum s.stat.raised (pkey g.first e) } }

/-- The snapshot of a group: every counter and the interval (R219). -/
def snapB (s : State) (p e : Nat) : State :=
  match groupOf p with
  | none => s
  | some g =>
    let sn := g.counters.foldl (fun t c => tset t (pkey c e) (cntB s c e)) s.stat.snap
    { s with stat := { s.stat with snap := tset sn (pkey g.interval e) (intervalB s g.first e) } }

/-- A read of a group's first member: snapshot, and clear when the reader clears it (R219). -/
def readB (s : State) (p e : Nat) (clears : Bool) : State := if clears then clearB (snapB s p e) p e else s

/-! ## Journal (R476 to R478) -/

/-- Payload bytes of a record (R477; a field the rule gives no width takes 1 byte, a count 8) [DESIGN CHOICE 11]. -/
def payloadLen : JPayload → Nat
  | .ledgerClose _ => 64
  | .ledgerSnap l => 8 + 48 * l.length
  | .ledgerAck _ _ => 5
  | .coreMap .. => 4
  | .softFuse .. => 12
  | .spareBad .. => 3
  | .hbmRepair .. => 16
  | .pageRetire .. => 12
  | .coreFail .. => 11
  | .param .. => 12
  | .paramBlob _ b => 4 + b.length
  | .nonceCeil _ => 8
  | .counters l => 11 * l.length
  | .health .. => 33
  | .svc _ => 4
  | .fault _ => 2
  | .fwBank .. => 80
  | .compactBegin .. => 5
  | .compactEnd .. => 20

/-- Bytes of a record on its page: header, payload, CRC, padded to 8 (R476). -/
def recordLen (p : JPayload) : Nat := (16 + payloadLen p + 4 + 7) / 8 * 8

/-- Bytes of the records of a page. -/
def pageLen (l : List JRec) : Nat := l.foldl (fun n r => n + recordLen r.payload) 0

/-- Append a record to the open page; a record that does not fit closes the page and starts the next (R478). -/
def jAppend (s : State) (p : JPayload) : State :=
  let j := s.journal
  let r : JRec := { seq := j.seq, time := if s.orbit.state == .unlocked then s.orbit.refNs else s.orbit.now,
                    timeLocal := s.orbit.state == .unlocked, checkpoint := false, payload := p }
  let j := if pageLen j.openPage + recordLen p ≤ 4096 then { j with seq := j.seq + 1, openPage := j.openPage ++ [r] }
           else { j with seq := j.seq + 1, programming := j.programming ++ j.openPage, openPage := [r], pages := j.pages + 1 }
  incA { s with journal := j } 0xB106 0 1

/-- The open page and the page being programmed commit (R478) [DESIGN CHOICE 11: without the program's duration]. -/
def jCommit (s : State) : State :=
  let j := s.journal
  { s with journal := { j with
      committed := j.committed ++ j.programming ++ j.openPage, programming := [], openPage := [],
      pages := if j.openPage.isEmpty then j.pages else j.pages + 1 } }

/-- Append a record that commits before the module acts (R478). -/
def jMust (s : State) (p : JPayload) : State := if s.fw.swap.isSome then jAppend s p else jCommit (jAppend s p)

/-- Set a journaled numeric parameter and append its record (R444). -/
def setParamJ (s : State) (p e v : Nat) : State := jAppend (setParam s p e v) (.param (pkey p e) v)

/-! ## Power state, Service-Requested (R467, R469) -/

/-- Some moon is not FREE. -/
def someMoon (s : State) : Bool := s.moons.any fun e => e.2.state != .free

/-- The POWER_STATE code (R467). -/
def powerCode (s : State) : Nat :=
  match s.power.phase with
  | .off => 0
  | .faultStop => 6
  | .boot => 1
  | .up => if s.power.draining then 4 else if s.power.svcReason ≠ 0 then 5 else if someMoon s then 3 else 2

/-- POWER_STATE_CHANGE when the code shown changes, but not between Ready and Active (R467). -/
def announce (old new : State) : State :=
  let a := powerCode old
  let b := powerCode new
  if a = b ∨ (a ∈ [2, 3] ∧ b ∈ [2, 3]) then new else raisePf new 0x0101 [b, a]

/-- Set a bit of SVC_REASON: journaled, announced, SVC_REQ_N from start-up step 8 onward (R469, R472). -/
def setSvc (s : State) (bit : Nat) : State :=
  if s.power.svcReason.toNat.testBit bit then s
  else
    let v := s.power.svcReason ||| BitVec.ofNat 32 (2 ^ bit)
    let t := { s with power := { s.power with svcReason := v, svcReqPin := decide (8 ≤ s.power.bootStep) } }
    announce s (raisePf (jAppend t (.svc v)) 0x0108 [v.toNat, bit])

/-- The number of ORBIT_STATE (R404). -/
def orbitCode : OrbitState → Nat
  | .unlocked => 0
  | .locked => 1
  | .holdover => 2

/-- The end of a fetch whose read of host memory failed (R343, R425): code 0x000A, with the completion status in the byte above it, which no code
takes [22]. -/
def hostDma (status : Nat) : Nat := 0xA + 256 * status

end Sys2Proof.Machine
end

