-- ==== Sys2Proof/Machine/Access.lean ====
section
/-! DEFINITION. Access to a dictionary parameter (R428 to R432, R439, R443): the item status a role gets before the parameter's own rule
is asked, and the shapes of a command written to a parameter and of a reading command. -/

namespace Sys2Proof.Machine

/-- The access code of a parameter for a role (R431): 0 none, 1 RO, 2 RW, 3 WO, 4 RW-KEY. -/
def accessOf (p : ParamInfo) (r : Role) : Nat :=
  match r with
  | .hostPf => p.pf
  | .tenant => p.vf
  | .shepherd => p.shep
  | .operatorKey => p.key

/-- The moon an element names: a tenant always addresses its own (R432). -/
def effMoon (w : Who) (m : Nat) : Nat :=
  match w.role, w.path with
  | .tenant, .vf n => n
  | _, _ => m

/-- NOT_READY (R443): the dictionary is not live, except reads of P0000 to P0008 during start-up and, in Fault-Stop, reads and
operator-key writes to areas 0xA and 0xB; nor while the management controller restarts (R489). -/
def notReady (s : State) (w : Who) (p : Nat) (write : Bool) : Bool :=
  match s.power.phase with
  | .off => true
  | .boot => write || decide (8 < p)
  | .faultStop => decide (s.power.bootStep < 3) || s.fw.swap.isSome || (write && !(w.role == .operatorKey && (p / 4096 == 0xA || p / 4096 == 0xB)))
  | .up => s.fw.swap.isSome

/-- Item status of a write before its value is looked at, in the order of R439. -/
def writeStatus (s : State) (w : Who) (p e : Nat) : Nat :=
  if notReady s w p true then 9
  else match paramInfo p with
    | none => 1
    | some i =>
      if i.last < e then 2
      else match accessOf i w.role with
        | 0 => 3
        | 1 => 4
        | 4 => if w.role = .operatorKey then 0 else 10
        | _ => 0

/-- Item status of a read, in the order of R439. -/
def readStatus (s : State) (w : Who) (p e : Nat) : Nat :=
  if notReady s w p false then 9
  else match paramInfo p with
    | none => 1
    | some i => if i.last < e then 2 else match accessOf i w.role with | 0 => 3 | 3 => 5 | _ => 0

/-- Values of a parameter pass in pieces: STR and BLOB (R438). -/
def inPieces (p : Nat) : Bool := match paramInfo p with | some i => i.typ == 8 || i.typ == 9 | none => false

/-- The answer to a request of one item: its status and value, LAST for the end of a value that passes in pieces; requests and errors are counted
(R436, R438, R452). -/
def answerWith (s : State) (code : Nat) (value : Bytes) (last : Bool) : State :=
  let s := incB s 0x0030 0 1
  let s := if code = 0 then s else incB s 0x0031 0 1
  { s with dict := { s.dict with answer := { frame := 0, status := code, stuck := false, last := last, value := value } } }

/-- The answer of an item without a value. -/
def answer (s : State) (code : Nat) : State := answerWith s code [] false

/-- No management controller runs: the module has no power, or a leak before step 3 stopped it (R464). A command does nothing. -/
def dead (s : State) : Bool := s.power.phase == .off || (s.power.phase == .faultStop && decide (s.power.bootStep < 3))

/-- A command written to a parameter (R444): refused with an item status, or acted on. -/
def command (s : State) (w : Who) (p e : Nat) (f : State → Except Nat State) : Res :=
  if dead s then .next s
  else
    let c := writeStatus s w p e
    if c ≠ 0 then .next (answer s c)
    else match f s with
      | .error c => .next (answer s c)
      | .ok t => .next (answer t 0)

/-- A reading command (R436): refused with an item status, or answered with a value. -/
def query (s : State) (w : Who) (p e : Nat) (f : State → Except Nat (State × Bytes)) : Res :=
  if dead s then .next s
  else
    let c := readStatus s w p e
    if c ≠ 0 then .next (answer s c)
    else match f s with
      | .error c => .next (answer s c)
      | .ok (t, v) => .next (answerWith t 0 v (inPieces p))

/-- A read of the first member of a class B group: its value, the group snapshot and cleared for a reader that clears it (R219). -/
def readStat (s : State) (p e : Nat) (clears : Bool) : Except Nat (State × Bytes) :=
  .ok (readB s p e clears, leBytes 4 (cntB s p e))

end Sys2Proof.Machine
end

