-- ==== Sys2Proof/Machine/Formats.lean ====
section
/-! DEFINITION. Number formats (R49 to R59), rounding (R60 to R62), conversions (R64 to R70), blocks (R67 to R69), E8M0 (R139) and
residual blocks (R72, R73), over exact numbers m · 2^e. Free values are drawn by number: each function that may draw takes the number of
the next draw and returns the number after its last. -/

namespace Sys2Proof.Machine

/-- A value read from an element: exact finite with its sign, infinite, or NaN (R50, R51: payloads are not carried). -/
inductive Num where
  | fin (neg : Bool) (m : Nat) (e : Int)
  | inf (neg : Bool)
  | nan
  deriving DecidableEq, Repr

/-- A finite value above every FP32 value: a finite result that FP32 cannot hold, which R135's policy then acts on. -/
def hugeNum (s : Bool) : Num := .fin s 1 1024

/-- Plus zero. -/
def Num.zero : Num := .fin false 0 0

/-- Whether a value is finite. -/
def Num.isFin : Num → Bool
  | .fin .. => true
  | _ => false

/-- Whether a value is a zero. -/
def Num.isZero : Num → Bool
  | .fin _ m _ => m == 0
  | _ => false

/-- Whether a value is NaN. -/
def Num.isNan : Num → Bool
  | .nan => true
  | _ => false

/-- Whether a value is infinite. -/
def Num.isInf : Num → Bool
  | .inf _ => true
  | _ => false

/-- Sign bit; NaN is positive (R51). -/
def Num.sign : Num → Bool
  | .fin s _ _ => s
  | .inf s => s
  | .nan => false

/-- Negation. -/
def Num.neg : Num → Num
  | .fin s m e => .fin (!s) m e
  | .inf s => .inf (!s)
  | .nan => .nan

/-- Magnitude. -/
def Num.abs : Num → Num
  | .fin _ m e => .fin false m e
  | .inf _ => .inf false
  | .nan => .nan

/-- The finite value of an integer. -/
def Num.ofInt (i : Int) : Num := .fin (decide (i < 0)) i.natAbs 0

/-- Multiply by 2^k exactly. -/
def Num.scale (v : Num) (k : Int) : Num :=
  match v with
  | .fin s m e => .fin s m (e + k)
  | v => v

/-- The signed integer m · 2^(e − q), for q at most e. -/
def Num.unitsAt (s : Bool) (m : Nat) (e q : Int) : Int :=
  let k := (m * 2 ^ (e - q).toNat : Nat)
  if s then -(k : Int) else k

/-- Exact sum (R100, R102): ∞ + (−∞) is NaN; a zero sum is +0 unless both are −0. -/
def Num.add (a b : Num) : Num :=
  match a, b with
  | .nan, _ => .nan
  | _, .nan => .nan
  | .inf s, .inf t => if s = t then .inf s else .nan
  | .inf s, _ => .inf s
  | _, .inf t => .inf t
  | .fin s m e, .fin t k f =>
    if m = 0 ∧ k = 0 then .fin (s && t) 0 0
    else
      let q := min e f
      let x := Num.unitsAt s m e q + Num.unitsAt t k f q
      .fin (decide (x < 0)) x.natAbs q

/-- Exact product: ∞ times 0 is NaN (R102). -/
def Num.mul (a b : Num) : Num :=
  match a, b with
  | .nan, _ => .nan
  | _, .nan => .nan
  | .inf s, .inf t => .inf (s != t)
  | .inf s, .fin t k _ => if k = 0 then .nan else .inf (s != t)
  | .fin s m _, .inf t => if m = 0 then .nan else .inf (s != t)
  | .fin s m e, .fin t k f => .fin (s != t) (m * k) (e + f)

/-- Order of two values that are not NaN: −1, 0 or 1; zeros equal. -/
def Num.cmp (a b : Num) : Int :=
  match a, b with
  | .inf s, .inf t => if s = t then 0 else if s then -1 else 1
  | .inf s, _ => if s then -1 else 1
  | _, .inf t => if t then 1 else -1
  | .fin s m e, .fin t k f =>
    let q := min e f
    let d := Num.unitsAt s m e q - Num.unitsAt t k f q
    if d < 0 then -1 else if d = 0 then 0 else 1
  | _, _ => 0

/-- a < b, false with a NaN. -/
def Num.lt (a b : Num) : Bool := !a.isNan && !b.isNan && decide (Num.cmp a b < 0)

/-- a ≤ b, false with a NaN. -/
def Num.le (a b : Num) : Bool := !a.isNan && !b.isNan && decide (Num.cmp a b ≤ 0)

/-- How a narrow float uses its top exponent (R50, R53). -/
inductive FloatKind where
  | ieee | e4m3 | finite
  deriving DecidableEq, Repr

/-- A binary float: exponent bits, mantissa bits, bias (R50, R53). -/
structure FloatFmt where
  eb   : Nat
  mb   : Nat
  bias : Nat
  kind : FloatKind
  deriving DecidableEq, Repr

/-- FP32 (R50). -/
def fp32 : FloatFmt := ⟨8, 23, 127, .ieee⟩
/-- BF16 (R50). -/
def bf16 : FloatFmt := ⟨8, 7, 127, .ieee⟩
/-- FP16 (R50). -/
def fp16 : FloatFmt := ⟨5, 10, 15, .ieee⟩
/-- E4M3 (R53). -/
def e4m3 : FloatFmt := ⟨4, 3, 7, .e4m3⟩
/-- E5M2 (R53). -/
def e5m2 : FloatFmt := ⟨5, 2, 15, .ieee⟩
/-- E2M3 (R53). -/
def e2m3 : FloatFmt := ⟨2, 3, 1, .finite⟩
/-- E3M2 (R53). -/
def e3m2 : FloatFmt := ⟨3, 2, 3, .finite⟩
/-- E2M1 (R53). -/
def e2m1 : FloatFmt := ⟨2, 1, 1, .finite⟩
/-- FP64, for the gradient-noise sums (R326). -/
def fp64 : FloatFmt := ⟨11, 52, 1023, .ieee⟩

/-- Least exponent of a normal value. -/
def FloatFmt.emin (f : FloatFmt) : Int := 1 - f.bias

/-- Exponent of the largest normal value, Emax (R53). -/
def FloatFmt.emax (f : FloatFmt) : Int := if f.kind = .ieee then (2 ^ f.eb : Nat) - 2 - f.bias else (2 ^ f.eb : Nat) - 1 - f.bias

/-- Significand of the largest finite value, at exponent emax − mb. -/
def FloatFmt.maxM (f : FloatFmt) : Nat := if f.kind = .e4m3 then 14 else 2 ^ (f.mb + 1) - 1

/-- The largest finite value. -/
def FloatFmt.maxNum (f : FloatFmt) (neg : Bool) : Num := .fin neg f.maxM (f.emax - f.mb)

/-- The value of an element's bits (R50, R53, R54). -/
def decFloat (f : FloatFmt) (bits : Nat) : Num :=
  let s := bits.testBit (f.eb + f.mb)
  let x := bits / 2 ^ f.mb % 2 ^ f.eb
  let m := bits % 2 ^ f.mb
  if f.kind = .ieee ∧ x = 2 ^ f.eb - 1 then (if m = 0 then .inf s else .nan)
  else if f.kind = .e4m3 ∧ x = 2 ^ f.eb - 1 ∧ m = 2 ^ f.mb - 1 then .nan
  else if x = 0 then .fin s m (f.emin - f.mb)
  else .fin s (2 ^ f.mb + m) ((x : Int) - f.bias - f.mb)

/-- The canonical NaN bits of a format (R51). -/
def canonNan (f : FloatFmt) : Nat := if f.kind = .e4m3 then 0x7F else (2 ^ f.eb - 1) * 2 ^ f.mb + 2 ^ (f.mb - 1)

/-- The bits of a value the format holds exactly (a value already rounded into it). -/
def encFloat (f : FloatFmt) (v : Num) : Nat :=
  match v with
  | .nan => canonNan f
  | .inf s => (if s then 2 ^ (f.eb + f.mb) else 0) + (2 ^ f.eb - 1) * 2 ^ f.mb
  | .fin s m e =>
    let sb := if s then 2 ^ (f.eb + f.mb) else 0
    if m = 0 then sb
    else
      let x := (Nat.log2 m : Int) + e
      let q := max (x - f.mb) (f.emin - f.mb)
      let k := if q ≤ e then m * 2 ^ (e - q).toNat else m / 2 ^ (q - e).toNat
      if k < 2 ^ f.mb then sb + k else sb + (x + f.bias).toNat * 2 ^ f.mb + (k - 2 ^ f.mb)

/-- E5M2 and the other IEEE-like formats read canonical bits back: FP32 bits of a value. -/
def bits32 (v : Num) : Nat := encFloat fp32 v

/-- The value of FP32 bits. -/
def num32 (b : Nat) : Num := decFloat fp32 (b % 2 ^ 32)

/-! ## Rounding (R60, R61) -/

/-- Whether a magnitude rem / 2^sh above k rounds up: RN ties to even, or SR with draw `r` of 0 to 8191 (R61). -/
def roundsUp (sr : Bool) (k rem sh r : Nat) : Bool :=
  if sr then decide (8192 ≤ 8192 * rem / 2 ^ sh + r % 8192)
  else decide (2 ^ sh < 2 * rem) || (decide (2 * rem = 2 ^ sh) && k % 2 == 1)

/-- Round m · 2^e to a multiple of 2^q: the multiple, and whether it was exact. -/
def roundAt (sr : Bool) (m : Nat) (e q : Int) (r : Nat) : Nat × Bool :=
  if q ≤ e then (m * 2 ^ (e - q).toNat, true)
  else
    let sh := (q - e).toNat
    let k := m / 2 ^ sh
    let rem := m % 2 ^ sh
    if rem = 0 then (k, true) else (if roundsUp sr k rem sh r then k + 1 else k, false)

/-- The quantum at which a format holds a magnitude. -/
def FloatFmt.quantum (f : FloatFmt) (m : Nat) (e : Int) : Int := max ((Nat.log2 m : Int) + e - f.mb) (f.emin - f.mb)

/-- The overflow test of R65: |v| ≥ max + ½ ulp(max) under RN, |v| > max under SR. -/
def FloatFmt.overflows (f : FloatFmt) (sr : Bool) (m : Nat) (e : Int) : Bool :=
  let v := Num.fin false m e
  if sr then decide (Num.cmp v (f.maxNum false) > 0)
  else decide (Num.cmp v (.fin false (2 * f.maxM + 1) (f.emax - f.mb - 1)) ≥ 0)

/-! ## Status bits of CVT_STATUS (R70) -/

/-- NAN_IN. -/
def stNan : Nat := 1
/-- INF_IN. -/
def stInf : Nat := 2
/-- OVF. -/
def stOvf : Nat := 4
/-- UNF. -/
def stUnf : Nat := 8
/-- BLOCK_NAN. -/
def stBlockNan : Nat := 16
/-- SCALE_NAN_IN. -/
def stScaleNan : Nat := 32
/-- T2_RSV. -/
def stT2Rsv : Nat := 64
/-- RES_FULL. -/
def stResFull : Nat := 128
/-- INT_NAN. -/
def stIntNan : Nat := 256

/-- A converted value: the value held, its status, the next draw. -/
structure Conv where
  val : Num
  st  : Nat
  n   : Nat
  deriving DecidableEq, Repr

/-- Conversion into a float format (R64, R65): SAT or PROP (`prop`), RN or SR (`sr`). -/
def toFloat (f : FloatFmt) (sr prop : Bool) (v : Num) (n : Nat) : Conv :=
  match v with
  | .nan => ⟨.nan, stNan, n⟩
  | .inf s => ⟨if f.kind = .e4m3 then .nan else .inf s, stInf, n⟩
  | .fin s m e =>
    if m = 0 then ⟨.fin s 0 0, 0, n⟩
    else if f.overflows sr m e then ⟨if prop then (if f.kind = .e4m3 then .nan else .inf s) else f.maxNum s, stOvf, n⟩
    else
      let q := f.quantum m e
      let (k, exact) := roundAt sr m e q (Config.random n)
      ⟨.fin s k q, if k = 0 then stUnf else 0, if exact || !sr then n else n + 1⟩

/-- Round to FP32 under RN as arithmetic does: overflow gives ∞. -/
def rn32 (v : Num) : Num := (toFloat fp32 false true v 0).val

/-- Conversion into an integer format of range lo to hi (R66). -/
def toInt (lo hi : Int) (sr : Bool) (v : Num) (n : Nat) : Conv :=
  match v with
  | .nan => ⟨Num.zero, stNan + stIntNan, n⟩
  | .inf s => ⟨Num.ofInt (if s then lo else hi), stInf, n⟩
  | .fin s m e =>
    let (k, exact) := roundAt sr m e 0 (Config.random n)
    let i : Int := if s then -(k : Int) else k
    let c := max lo (min hi i)
    ⟨Num.ofInt c, (if c = i then 0 else stOvf) + (if k = 0 ∧ m ≠ 0 then stUnf else 0), if exact || !sr then n else n + 1⟩

/-- Conversion into E8M0 (R139): the code, its status, the next draw. -/
def toE8M0 (sr prop : Bool) (v : Num) (n : Nat) : Nat × Nat × Nat :=
  match v with
  | .nan => (0xFF, stNan, n)
  | .inf _ => (0xFF, stInf, n)
  | .fin _ m e =>
    if m = 0 then (0, stUnf, n)
    else
      let x := (Nat.log2 m : Int) + e
      if x < -127 then (0, stUnf, n)
      else
        let rem := m - 2 ^ Nat.log2 m
        let code := (x + 127).toNat
        let up := rem ≠ 0 ∧ roundsUp sr code rem (Nat.log2 m) (Config.random n)
        let n' := if rem = 0 ∨ !sr then n else n + 1
        let c := if up then code + 1 else code
        if 0xFE < c then (if prop then 0xFF else 0xFE, stOvf, n') else (c, 0, n')

/-! ## Format codes (R49) -/

/-- Element bits of a format code (R49). -/
def fmtBits : Nat → Nat
  | 0x00 => 32
  | 0x01 => 16
  | 0x02 => 16
  | 0x03 => 8
  | 0x04 => 4
  | 0x05 => 8
  | 0x06 => 8
  | 0x07 => 6
  | 0x08 => 6
  | 0x09 => 4
  | 0x0A => 8
  | 0x0B => 2
  | 0x0C => 8
  | _ => 0

/-- The code names a format; the others end the task with FMT_RSV (R49). -/
def fmtOk (f : Nat) : Bool := f ≤ 0x0C

/-- The format has blocks with scales: MX and T2 (R55). -/
def fmtBlocked (f : Nat) : Bool := 0x05 ≤ f && f ≤ 0x0B

/-- The float of a plain or MX element, none for integers, T2 and E8M0. -/
def fmtFloat : Nat → Option FloatFmt
  | 0x00 => some fp32
  | 0x01 => some bf16
  | 0x02 => some fp16
  | 0x05 => some e4m3
  | 0x06 => some e5m2
  | 0x07 => some e2m3
  | 0x08 => some e3m2
  | 0x09 => some e2m1
  | _ => none

/-- Bytes of `len` packed elements: whole blocks for MX and T2, else whole bytes (R190). -/
def packedBytes (f len : Nat) : Nat :=
  if fmtBlocked f then (len + 31) / 32 * (32 * fmtBits f / 8) else (len * fmtBits f + 7) / 8

/-- The code of element `i` of a packed vector (R52, R57: bits run upward through the bytes). -/
def elemCode (f : Nat) (b : Bytes) (i : Nat) : Nat :=
  let w := fmtBits f
  let o := i * w
  leNat (slice b (o / 8) ((o % 8 + w + 7) / 8)) / 2 ^ (o % 8) % 2 ^ w

/-- The value of an element code without its scale, and its status (R50 to R59). -/
def elemVal (f code : Nat) : Num × Nat :=
  match fmtFloat f with
  | some g => (decFloat g code, 0)
  | none =>
    match f with
    | 0x03 => (Num.ofInt (toSigned 8 code), 0)
    | 0x04 => (Num.ofInt (toSigned 4 code), 0)
    | 0x0A => ((Num.ofInt (toSigned 8 code)).scale (-6), 0)
    | 0x0B => if code = 1 then (.fin false 1 0, 0) else if code = 3 then (.fin true 1 0, 0)
              else if code = 2 then (Num.zero, stT2Rsv) else (Num.zero, 0)
    | 0x0C => if code = 0xFF then (.nan, 0) else (.fin false 1 ((code : Int) - 127), 0)
    | _ => (Num.zero, 0)

/-- Read one element with its block scale: value and read status (R55, R56, R59, R70). In a block with scale 0xFF every element is NaN and no code is
looked at: a reserved T2 code there does not set T2_RSV [DESIGN CHOICE 51]. -/
def readElem (f code scale : Nat) : Num × Nat :=
  if fmtBlocked f then
    if scale = 0xFF then (.nan, stScaleNan)
    else let (v, st) := elemVal f code; (v.scale ((scale : Int) - 127), st)
  else elemVal f code

/-- Pack element codes of `w` bits, lowest first. -/
def packCodes (w : Nat) (codes : List Nat) : Nat := codes.foldr (fun c a => c % 2 ^ w + 2 ^ w * a) 0

/-- The bytes of a list of codes (R52, R57). -/
def packBytes (f : Nat) (codes : List Nat) : Bytes := leBytes ((codes.length * fmtBits f + 7) / 8) (packCodes (fmtBits f) codes)

/-! ## Block conversions (R67 to R69) -/

/-- A converted list: codes, block scale, the status of each value in order, further status, next draw. -/
structure Block where
  codes : List Nat
  scale : Nat
  sts   : List Nat
  st    : Nat
  n     : Nat
  deriving DecidableEq, Repr

/-- Non-finite marks of a list. -/
def nonfinSt (l : List Num) : Nat :=
  (if l.any Num.isNan then stNan else 0) + (if l.any Num.isInf then stInf else 0)

/-- Convert one value into an MX element at scale exponent `x` (R68): code, status, next draw. -/
def toMxElem (f : Nat) (sr : Bool) (x : Int) (v : Num) (n : Nat) : Nat × Nat × Nat :=
  match v with
  | .fin s m e =>
    if m = 0 then
      (match fmtFloat f with
       | some g => (encFloat g (.fin s 0 0), 0, n)
       | none => (0, 0, n))
    else match fmtFloat f with
      | some g =>
        if g.overflows sr m (e - x) then (encFloat g (g.maxNum s), stOvf, n)
        else
          let c := toFloat g sr false (.fin s m (e - x)) n
          (encFloat g c.val, c.st, c.n)
      | none =>
        -- MXINT8: the integer nearest 64 · v / 2^x; overflow at 127½ under RN, above 127 under SR
        let w := Num.fin false m (e - x + 6)
        let big := if sr then decide (Num.cmp w (.fin false 127 0) > 0) else decide (Num.cmp w (.fin false 255 (-1)) ≥ 0)
        if big then (ofSigned 8 (if s then -127 else 127), stOvf, n)
        else
          let c := toInt (-127) 127 sr (.fin s m (e - x + 6)) n
          (match c.val with
           | .fin t k _ => (ofSigned 8 (if t then -(k : Int) else k), c.st, c.n)
           | _ => (0, c.st, c.n))
  | _ => (0, 0, n)

/-- Convert one value into a T2 code at scale exponent `x` (R69). -/
def toT2Elem (sr : Bool) (x : Int) (v : Num) (n : Nat) : Nat × Nat × Nat :=
  let c := toInt (-1) 1 sr (v.scale (-x)) n
  match c.val with
  | .fin s k _ => (if k = 0 then 0 else if s then 3 else 1, c.st, c.n)
  | _ => (0, c.st, c.n)

/-- Fold a list of element conversions. -/
def convList (g : Num → Nat → Nat × Nat × Nat) (l : List Num) (n : Nat) : List Nat × List Nat × Nat :=
  match l with
  | [] => ([], [], n)
  | v :: r =>
    let (c, st, n) := g v n
    let (cs, sts, n) := convList g r n
    (c :: cs, st :: sts, n)

/-- floor(log2 (a / b)) for positive naturals. -/
def floorLog2Ratio (a b : Nat) : Int :=
  let d : Int := (Nat.log2 a : Int) - Nat.log2 b
  let ge := if 0 ≤ d then decide (b * 2 ^ d.toNat ≤ a) else decide (b ≤ a * 2 ^ (-d).toNat)
  if ge then d else d - 1

/-- Largest magnitude of a list of finite values. -/
def amaxOf (l : List Num) : Num := l.foldl (fun a v => if Num.lt a v.abs then v.abs else a) Num.zero

/-- Emax of an MX format, 0 for MXINT8 (R68). -/
def fmtEmax (f : Nat) : Int := match fmtFloat f with | some g => g.emax | none => 0

/-- The scale exponent of a block into an MX format (R68). -/
def mxScale (f : Nat) (l : List Num) : Option Int :=
  match amaxOf l with
  | .fin _ m e => if m = 0 then none else some (max (-127) (min 127 ((Nat.log2 m : Int) + e - fmtEmax f)))
  | _ => none

/-- The scale exponent of a block into T2: log2 of the mean magnitude to the nearest integer, ties upward (R69). -/
def t2Scale (l : List Num) : Option Int :=
  match l.foldl (fun a v => Num.add a v.abs) Num.zero with
  | .fin _ m e =>
    if m = 0 then none
    else some (max (-127) (min 127 ((floorLog2Ratio (2 * m * m) (l.length * l.length) + 2 * e) / 2)))
  | _ => none

/-- Convert the real values of one block (1 to 32 of them) into an MX format or T2, padded with code 0 (R67 to R69). -/
def toBlock (f : Nat) (sr : Bool) (l : List Num) (n : Nat) : Block :=
  let pad := List.replicate (32 - l.length) 0
  if l.any (fun v => !v.isFin) then
    ⟨List.replicate 32 0, 0xFF, l.map fun v => if v.isNan then stNan else if v.isInf then stInf else 0, stBlockNan + nonfinSt l, n⟩
  else
    match (if f = 0x0B then t2Scale l else mxScale f l) with
    | none => ⟨List.replicate 32 0, 0, l.map fun _ => 0, 0, n⟩
    | some x =>
      let (cs, sts, n) := convList (if f = 0x0B then toT2Elem sr x else toMxElem f sr x) l n
      ⟨cs ++ pad, (x + 127).toNat, sts, 0, n⟩

/-- Convert one value into a plain format: code, status, next draw (R64 to R66, R139). -/
def toPlain (f : Nat) (sr prop : Bool) (v : Num) (n : Nat) : Nat × Nat × Nat :=
  match fmtFloat f with
  | some g => let c := toFloat g sr prop v n; (encFloat g c.val, c.st, c.n)
  | none =>
    if f = 0x0C then toE8M0 sr prop v n
    else
      let (lo, hi, w) := if f = 0x04 then ((-8 : Int), (7 : Int), 4) else (-128, 127, 8)
      let c := toInt lo hi sr v n
      match c.val with
      | .fin s k _ => (ofSigned w (if s then -(k : Int) else k), c.st, c.n)
      | _ => (0, c.st, c.n)

/-- A converted vector or strip: element bytes, scale bytes, statuses of its values, whole status, next draw, and the values read back by block. -/
structure VecConv where
  bytes  : Bytes
  scales : Bytes
  sts    : List Nat
  st     : Nat
  n      : Nat
  deriving DecidableEq, Repr

/-- OR of a list of statuses. -/
def orAll (l : List Nat) : Nat := l.foldl (· ||| ·) 0

/-- Cut a list into pieces of `k` (fuel: the list's length). -/
def chunksOf {α : Type} (k fuel : Nat) (l : List α) : List (List α) :=
  match fuel with
  | 0 => []
  | fuel + 1 => if l.isEmpty then [] else l.take k :: chunksOf k fuel (l.drop k)

/-- Convert blocks in order. -/
def convBlocks (f : Nat) (sr : Bool) (bl : List (List Num)) (n : Nat) : VecConv :=
  match bl with
  | [] => ⟨[], [], [], 0, n⟩
  | b :: r =>
    let k := toBlock f sr b n
    let t := convBlocks f sr r k.n
    ⟨packBytes f k.codes ++ t.bytes, BitVec.ofNat 8 k.scale :: t.scales, k.sts ++ t.sts, k.st ||| orAll k.sts ||| t.st, t.n⟩

/-- Convert a run of values that starts at a block boundary into format `f` (R64 to R69). -/
def convVec (f : Nat) (sr prop : Bool) (l : List Num) (n : Nat) : VecConv :=
  if fmtBlocked f then convBlocks f sr (chunksOf 32 l.length l) n
  else
    let (cs, sts, n) := convList (toPlain f sr prop) l n
    ⟨packBytes f cs, [], sts, orAll sts, n⟩

/-! ## Residual blocks (R72, R73) -/

/-- Read a converted block back: Q(v) of the real values. -/
def readBlock (f : Nat) (b : Block) (len : Nat) : List Num := (b.codes.take len).map fun c => (readElem f c b.scale).1

/-- The residual block D = v − Q(v) in FP32 under RN, converted into MXFP4 (R73): codes bytes, scale, next draw. -/
def resBlock (f : Nat) (sr : Bool) (b : Block) (vals : List Num) (n : Nat) : Block :=
  toBlock 0x09 sr ((vals.zip (readBlock f b vals.length)).map fun (v, q) => rn32 (Num.add v q.neg)) n

/-! ## Free reductions and special functions (R63, R140, R141) -/

/-- Take element `i` out of a list. -/
def takeOut (l : List Num) (i : Nat) : Num × List Num := (l.getD i Num.zero, l.eraseIdx i)

/-- Combine a list with `f` in an order and association that free values choose (R141, R111): value and next draw. -/
def reduceFree (f : Num → Num → Num) (fuel : Nat) (l : List Num) (n : Nat) : Num × Nat :=
  match fuel with
  | 0 => (l.headD Num.zero, n)
  | fuel + 1 =>
    match l with
    | [] => (Num.zero, n)
    | [x] => (x, n)
    | l =>
      let (x, l1) := takeOut l (Config.pick n % l.length)
      let (y, l2) := takeOut l1 (Config.pick (n + 1) % l1.length)
      reduceFree f fuel (f x y :: l2) (n + 2)

/-- A list in an order that free values choose (R190: overlapping vectors of a destination). -/
def shuffle {α : Type} (fuel : Nat) (l : List α) (n : Nat) : List α × Nat :=
  match fuel with
  | 0 => (l, n)
  | fuel + 1 =>
    match l with
    | [] => ([], n)
    | x :: r =>
      let i := Config.pick n % (r.length + 1)
      let (t, k) := shuffle fuel ((x :: r).eraseIdx i) (n + 1)
      ((x :: r).getD i x :: t, k)

/-- FP32 sum under RN in a free order. -/
def sumFree (l : List Num) (n : Nat) : Num × Nat := reduceFree (fun a b => rn32 (Num.add a b)) l.length l n

/-- A free FP32 candidate for the result of a special function: draw `n`, operation, argument [6]. -/
def sfuFree (n op : Nat) (a : Num) : Num := num32 (Config.sfu (op + 64 * n) (bits32 (rn32 a)))

/-- FP32 neighbour: the value one step up or down in magnitude. -/
def nudge32 (v : Num) (k : Nat) : Num :=
  match v with
  | .fin .. => let b := bits32 v; if k % 3 = 0 then v else if k % 3 = 1 then num32 (b + 1) else if b % 2 ^ 31 = 0 then v else num32 (b - 1)
  | v => v

/-- Digits of the integer square root, `b` of them left. -/
def isqrtGo (n b r : Nat) : Nat :=
  match b with
  | 0 => r
  | b + 1 => isqrtGo n b (if (r + 2 ^ b) * (r + 2 ^ b) ≤ n then r + 2 ^ b else r)

/-- The integer square root. -/
def isqrt (n : Nat) : Nat := isqrtGo n (Nat.log2 n / 2 + 1) 0

/-- FP32 under RN of the quotient a / b of positive exact values (64 further bits decide every rounding of these functions). -/
def quot32 (s : Bool) (m : Nat) (e : Int) (k : Nat) (f : Int) : Num :=
  let sh := 64 + Nat.log2 k
  let q := m * 2 ^ sh / k
  let q := if m * 2 ^ sh % k = 0 then 2 * q else 2 * q + 1
  rn32 (.fin s q (e - f - sh - 1))

/-- FP32 under RN of the square root of a positive exact value. -/
def sqrt32 (m : Nat) (e : Int) : Num :=
  let sh : Nat := if e % 2 = 0 then 128 else 129
  let x := m * 2 ^ sh
  let r := isqrt x
  let q := if r * r = x then 2 * r else 2 * r + 1
  rn32 (.fin false q ((e - sh) / 2 - 1))

/-! ## The relative error of a block (R72) -/

/-- FP32 squares of finite values under RN [51]. -/
def squares (l : List Num) : List Num := l.map fun v => rn32 (Num.mul v v)

/-- Exact sum of values. -/
def sumNum (l : List Num) : Num := l.foldl Num.add Num.zero

/-- Magnitude in units of 2^q. -/
def Num.units (q : Int) : Num → Nat
  | .fin _ m e => m * 2 ^ (e - q).toNat
  | _ => 0

/-- Exponent of a value. -/
def Num.exp : Num → Int
  | .fin _ _ e => e
  | _ => 0

/-- A sum of non-negative FP32 values is exact in FP32 whatever its order: each partial sum is a multiple of their lowest bit, below 2^24 of it. -/
def sumExact (l : List Num) : Bool :=
  let q := l.foldl (fun a v => min a v.exp) 0
  let u := l.map (Num.units q)
  let bits := u.foldl (· ||| ·) 0
  decide (u.foldl (· + ·) 0 < 2 ^ 24 * (bits - (bits &&& (bits - 1))))

/-- The least and the greatest FP32 sum under RN of non-negative values, over every order of the additions: each of the k additions
changes its exact result by at most one part in 2^24, and rounding is monotone. -/
def sumBounds (l : List Num) : Num × Num :=
  let s := sumNum l
  if l.any (fun v => !v.isFin) then (.inf false, .inf false)
  else if sumExact l then (s, s)
  else
    let k := (l.filter fun v => !v.isZero).length - 1
    let lim := fun b : Nat => rn32 (Num.mul s (.fin false (b ^ k) (-(24 * k : Nat))))
    (lim (2 ^ 24 - 1), lim (2 ^ 24 + 1))

/-- FP32 under RN of a square root. -/
def root32 : Num → Num
  | .fin _ m e => if m = 0 then Num.zero else sqrt32 m e
  | v => v

/-- The FP32 quotient of two norms under RN exceeds a finite τ; 0 / 0 and ∞ / ∞ are NaN and do not. -/
def ratioOver (tau a b : Num) : Bool :=
  match a, b with
  | .fin _ m e, .fin _ k f => if k = 0 then m != 0 else Num.lt tau (quot32 false m e k f)
  | .inf _, .fin .. => true
  | _, _ => false

/-- A block is flagged when e > τ (R72, R73), e being the FP32 quotient of the FP32 norms. The order of their sums is not given: where every
order puts e on one side of τ the outcome is that, elsewhere it is free (draw `n`) [7]. -/
def resFlagged (f : Nat) (b : Block) (vals : List Num) (tau : Num) (n : Nat) : Bool :=
  if !tau.isFin || vals.any (fun v => !v.isFin) || vals.all Num.isZero then false
  else
    let d := sumBounds (squares ((vals.zip (readBlock f b vals.length)).map fun (v, q) => rn32 (Num.add v q.neg)))
    let v := sumBounds (squares vals)
    let least := ratioOver tau (root32 d.1) (root32 v.2)
    let most := ratioOver tau (root32 d.2) (root32 v.1)
    if least == most then most else Config.openValue 1 n % 2 == 1

/-! ## Values of the special functions (R140, R146), in fixed point with 256 fraction bits, far below the error bounds of R140 -/

/-- Fraction bits of the fixed-point values. -/
def fixP : Nat := 256

/-- ln 2 in fixed point. -/
def ln2Fix : Nat := 0xb17217f7d1cf79abc9e3b39803f2f6af40f343267298b62d8a0d175b8baafa2b

/-- π in fixed point. -/
def piFix : Nat := 0x3243f6a8885a308d313198a2e03707344a4093822299f31d0082efa98ec4e6c89

/-- √0.125 in fixed point. -/
def root8Fix : Nat := isqrt (2 ^ (2 * fixP - 3))

/-- A finite value in fixed point, its magnitude rounded down. -/
def toFix (s : Bool) (m : Nat) (e : Int) : Int :=
  let x : Nat := if 0 ≤ e + fixP then m * 2 ^ (e + fixP).toNat else m / 2 ^ (-(e + fixP)).toNat
  if s then -(x : Int) else x

/-- A fixed-point value as a number. -/
def fixNum (x : Int) : Num := .fin (decide (x < 0)) x.natAbs (-(fixP : Int))

/-- Terms of e^r from the `k`th on, `t` the one before it. -/
def expTail (fuel k r t : Nat) : Nat :=
  match fuel with
  | 0 => 0
  | fuel + 1 => let u := t * r / (k * 2 ^ fixP); u + expTail fuel (k + 1) r u

/-- e^r of r in fixed point, 0 ≤ r < 1. -/
def expSeries (r : Nat) : Nat := 2 ^ fixP + expTail 80 1 r (2 ^ fixP)

/-- e^x. -/
def expNum (s : Bool) (m : Nat) (e : Int) : Num :=
  if Num.le (.fin false 1 10) (.fin false m e) then .fin false 1 (if s then -2048 else 2048)
  else
    let x := toFix s m e
    .fin false (expSeries (x % (ln2Fix : Int)).toNat) (x / (ln2Fix : Int) - fixP)

/-- 2^x. -/
def exp2Num (s : Bool) (m : Nat) (e : Int) : Num :=
  if Num.le (.fin false 1 10) (.fin false m e) then .fin false 1 (if s then -2048 else 2048)
  else
    let x := toFix s m e
    let one : Int := 2 ^ fixP
    .fin false (expSeries ((x % one).toNat * ln2Fix / 2 ^ fixP)) (x / one - fixP)

/-- Terms z^(2k+1) / (2k+1), `t` the power z^(2k+1). -/
def atanhTail (fuel k z2 t : Nat) : Nat :=
  match fuel with
  | 0 => 0
  | fuel + 1 => t / (2 * k + 1) + atanhTail fuel (k + 1) z2 (t * z2 / 2 ^ fixP)

/-- ln (m · 2^e) in fixed point, m > 0. -/
def lnFix (m : Nat) (e : Int) : Int :=
  let l := Nat.log2 m
  let y := if l ≤ fixP then m * 2 ^ (fixP - l) else m / 2 ^ (l - fixP)
  let z := (y - 2 ^ fixP) * 2 ^ fixP / (y + 2 ^ fixP)
  2 * (atanhTail 100 0 (z * z / 2 ^ fixP) z : Nat) + (e + l) * ln2Fix

/-- e^−x in fixed point for a magnitude x. -/
def expNegFix (m : Nat) (e : Int) : Nat :=
  match expNum true m e with
  | .fin _ k f => k / 2 ^ (-(f + fixP)).toNat
  | _ => 0

/-- 1 / (1 + e^−a). -/
def sigmoidNum (s : Bool) (m : Nat) (e : Int) : Num :=
  let q := expNegFix m e
  let one := 2 ^ fixP
  fixNum ((if s then q * one / (one + q) else one * one / (one + q) : Nat) : Int)

/-- tanh a. -/
def tanhNum (s : Bool) (m : Nat) (e : Int) : Num :=
  let q := expNegFix m (e + 1)
  let v : Nat := (2 ^ fixP - q) * 2 ^ fixP / (2 ^ fixP + q)
  .fin s v (-(fixP : Int))

/-- GELU_OI (R146) as x / 2 · (1 + x / (√(x² + 0.125) + √0.125)), which loses no digits near 0. -/
def geluNum (s : Bool) (m : Nat) (e : Int) : Num :=
  let x := toFix s m e
  let r := isqrt (x.natAbs * x.natAbs + 2 ^ (2 * fixP - 3))
  let y := x * (2 ^ fixP + x * 2 ^ fixP / ((r + root8Fix : Nat) : Int))
  .fin (decide (y < 0)) y.natAbs (-(2 * fixP + 1 : Nat))

/-- Alternating terms of sin or cos from a term `t` of degree `k` on. -/
def trigTail (fuel k : Nat) (r2 t : Int) : Int :=
  match fuel with
  | 0 => 0
  | fuel + 1 => t + trigTail fuel (k + 2) r2 (-(t * r2 / ((2 ^ fixP * ((k + 1) * (k + 2)) : Nat) : Int)))

/-- sin a, or cos a. -/
def trigNum (cos s : Bool) (m : Nat) (e : Int) : Num :=
  let r := toFix s m e % ((2 * piFix : Nat) : Int)
  let r2 := r * r / (2 ^ fixP : Nat)
  fixNum (if cos then trigTail 80 0 r2 (2 ^ fixP : Nat) else trigTail 80 1 r2 r)

/-- A tolerance 2^−b, less a part in 2^40 that covers the fixed-point error [6]. -/
def tolAbs (b : Nat) : Num := .fin false (2 ^ 40 - 1) (-(b + 40 : Nat))

/-- A tolerance relative to a value. -/
def tolRel (b : Nat) (v : Num) : Num := Num.mul v.abs (tolAbs b)

/-- The free candidate where it keeps R140's error bound; otherwise the value rounded to FP32, or the value itself beyond FP32's range [6]. -/
def boundedFree (n op : Nat) (a v tol : Num) : Num :=
  let c := sfuFree n op a
  if c.isFin && Num.le (Num.add c v.neg).abs tol then c
  else match rn32 v with
    | .inf _ => v
    | w => w

/-- LOG and LOG2 have an absolute bound for a in [0.5, 2] (R140). -/
def logNear (a : Num) : Bool := Num.le (.fin false 1 (-1)) a && Num.le a (.fin false 1 1)

/-- SFU function of a finite argument where R140 lists no special input: a free FP32 result within R140's bound [6]. RCP, SQRT and RSQRT are
the rounded exact value or an FP32 neighbour that keeps the bound. -/
def sfuFinite (op n : Nat) (s : Bool) (m : Nat) (e : Int) : Num :=
  let a : Num := .fin s m e
  match op with
  | 0x10 => let v := expNum s m e; boundedFree n op a v (tolRel 22 v)
  | 0x11 => let v := exp2Num s m e; boundedFree n op a v (tolRel 22 v)
  | 0x12 => let v := fixNum (lnFix m e); boundedFree n op a v (if logNear a then tolAbs 22 else tolRel 22 v)
  | 0x13 =>
    let v := fixNum (lnFix m e * (2 ^ fixP : Nat) / (ln2Fix : Int))
    boundedFree n op a v (if logNear a then tolAbs 22 else tolRel 22 v)
  | 0x14 =>
    let v := match quot32 s 1 0 m e with
      | .inf t => hugeNum t
      | v => v
    let c := nudge32 v (Config.pick n)
    -- |c · a − 1| ≤ 2^−23
    let err := (Num.add (Num.mul c a) (.fin true 1 0)).abs
    if Num.le err (.fin false 1 (-23)) then c else v
  | 0x15 =>
    let v := sqrt32 m e
    let c := nudge32 v (Config.pick n)
    -- |c² / a − 1| ≤ 2^−22 − 2^−46 keeps |c / √a − 1| ≤ 2^−23
    let err := (Num.add (Num.mul c c) (.fin true m e)).abs
    if Num.le err (Num.mul (.fin false m e) (.fin false (2 ^ 24 - 1) (-46))) then c else v
  | 0x16 =>
    -- 1/√a = √(1/a), rounded from 128 further bits
    let sh : Nat := 2 * (Nat.log2 m + 66)
    let q := 2 ^ sh / m
    let ev : Int := -e - sh
    let v := sqrt32 q ev
    let c := nudge32 v (Config.pick n)
    let err := (Num.add (Num.mul (Num.mul c c) (.fin false m e)) (.fin true 1 0)).abs
    if Num.le err (.fin false (2 ^ 24 - 1) (-46)) then c else v
  | 0x17 => boundedFree n op a (sigmoidNum s m e) (tolAbs 23)
  | 0x18 => boundedFree n op a (tanhNum s m e) (tolAbs 23)
  | 0x19 => let v := geluNum s m e; boundedFree n op a v (tolRel 21 v)
  | 0x1A => boundedFree n op a (trigNum false s m e) (tolAbs 21)
  | _ => boundedFree n op a (trigNum true s m e) (tolAbs 21)

/-- DGELU_OI (R134, R146): b · z² / (z² + 0.125) with z = 2a + √0.125, exact before rounding up to the fixed-point error; b / 2 at a = 0. -/
def dgeluNum (s : Bool) (m : Nat) (e : Int) (b : Num) : Num :=
  if m = 0 then Num.mul b (.fin false 1 (-1))
  else
    let z := 2 * toFix s m e + root8Fix
    let z2 := z.natAbs * z.natAbs
    let one := 2 ^ fixP
    Num.mul b (.fin false (2 * (z2 * one / (z2 + 2 ^ (2 * fixP - 3))) + 1) (-(fixP + 1 : Nat)))

end Sys2Proof.Machine
end

