-- ==== Sys2Proof/Machine/Operands.lean ====
section
/-! DEFINITION. Addresses and operands: cores of a moon (R43), moon addresses (R42), page checks (R168, R169), reads and writes of scratchpad,
HBM and operand caches (R155 to R159, R177), memory-side cache hints (R160 to R163), task descriptors (R186 to R189) and operand
descriptors (R190, R191). -/

namespace Sys2Proof.Machine

/-! ## Cores of a moon -/

/-- The physical core behind a logical core, 0xFF for ABSENT: the map of R21; without an entry the default of R22, core 17 × row + column. -/
def physOf (s : State) (die lc : Nat) : Nat := tget s.cores.map (17 * (lc / 16) + lc % 16) (128 * die + lc)

/-- The module logical cores of the octets a moon stands on, ascending (R43). -/
def moonCores (s : State) (m : Nat) : List Nat := (getMoon s m).octets.flatMap fun k => (upTo 8).map fun i => 8 * k + i

/-- The module logical core at a moon-local index (R43). -/
def moonCore (s : State) (m j : Nat) : Option Nat := (moonCores s m)[j]?

/-- The moon that holds a module logical core. -/
def coreMoon (s : State) (core : Nat) : Option Nat :=
  (s.moons.find? fun e => e.2.state != .free && core / 8 ∈ e.2.octets).map Prod.fst

/-! ## Addresses (R38 to R42, R168, R169) -/

/-- First moon address of the HBM region (R42). -/
def hbmRegion : Nat := 0x010000000000

/-- End of the HBM region (R42). -/
def hbmEnd : Nat := 0x020000000000

/-- Bytes of a page (R40). -/
def pageBytes : Nat := 2 ^ 21

/-- Pages of a stack's window (R41). -/
def windowPages : Nat := 22888

/-- The key of a window page: 32,768 × stack + page. -/
def pageKey (stack page : Nat) : Nat := 32768 * stack + page

/-- The HPA of a byte of a window page (R40). -/
def pageHpa (key off : Nat) : Nat := key * 2 ^ 21 + off

/-- Where a moon address lies. -/
inductive Home where
  | spm (spa : Nat)
  | hbm (hpa owner : Nat)
  deriving DecidableEq, Repr

/-- Why an access does not happen: the error code of R214, 0 while a MIGRATING page holds it (R169), and the address. -/
structure Fail where
  code : Nat
  ma   : Nat
  deriving DecidableEq, Repr

/-- The page entry of an MA page index (R168). -/
def entryOf (s : State) (m i : Nat) : Option PageEntry := tfind (getMoon s m).table i

/-- The row of a byte: its channel is HPA[15:11], the rest of the row number being open [7]; with the stack it keys the tracking table. -/
def rowOf (hpa : Nat) : Nat := hpa / 2 ^ 36 * 2 ^ 32 + 32 * (Config.openValue 10 (hpa / 2048) % 2 ^ 27) + hpa / 2048 % 32

/-- Tracking of a row. -/
def getRow (s : State) (k : Nat) : RowInfo :=
  tget s.mem.rows { page := 0, ceTimes := [], soft := false, hard := false, rejected := false, holding := false } k

/-- The bank of a row, which the spec leaves to the stack beyond its channel [7]. -/
def rowBank (row : Nat) : Nat := row / 2 ^ 32 * 2 ^ 32 + 32 * (Config.openValue 26 row % 2 ^ 27) + row % 32

/-- A soft repair holds new accesses to the bank of a byte (S1 of R180). -/
def bankHeld (s : State) (hpa : Nat) : Bool := s.mem.rows.any fun e => e.2.holding && rowBank e.1 == rowBank (rowOf hpa)

/-- The channel of a byte is in its recalibration window (R491). -/
def inWindow (s : State) (hpa : Nat) : Bool := tfind s.mem.recal (hpa / 2 ^ 36) == some (hpa / 2048 % 32)

/-- Stack of a 256-byte HBM line. -/
def lineStack (line : Nat) : Nat := line * 256 / 2 ^ 36

/-- The set of a line in its memory-side cache: the spec names the geometry but not the index [7]. -/
def mscSet (line : Nat) : Nat := Config.openValue 2 line % 8192

/-- A dirty line of a channel in its recalibration window is held (H1 of R491). -/
def lineHeld (s : State) (x : MscLine) : Bool := x.dirty && inWindow s (x.line * 256)

/-- Whether an access of a byte waits for the HBM controller: a held bank (R180), and in a recalibration window a read that misses, or a write
to a set whose ways are all dirty lines held for the channel (R491). -/
def hbmWaits (s : State) (hpa : Nat) (write : Bool) : Bool :=
  let there := s.mem.msc.any fun x => x.line == hpa / 256
  bankHeld s hpa ||
  (inWindow s hpa && !there && (!write || decide (16 ≤ (s.mem.msc.filter fun x =>
    lineHeld s x && lineStack x.line == hpa / 2 ^ 36 && mscSet x.line == mscSet (hpa / 256)).length)))

/-- Translate a moon address for a read or a write, with the checks of R42 and R169 in their order. -/
def homeOf (s : State) (m ma : Nat) (write : Bool) : Except Fail Home :=
  if ma < 0x200000000 then
    match moonCore s m (ma / 2 ^ 24) with
    | some c => .ok (.spm (c * 2 ^ 24 + ma % 2 ^ 24))
    | none => .error ⟨0x0201, ma⟩
  else if hbmRegion ≤ ma ∧ ma < hbmEnd then
    match entryOf s m ((ma - hbmRegion) / pageBytes) with
    | none => .error ⟨0x0201, ma⟩
    | some e =>
      if e.migrating then .error ⟨0, ma⟩
      else if (write ∧ !e.w) ∨ (!write ∧ !e.r) then .error ⟨0x0202, ma⟩
      else if e.poison then .error ⟨0x0203, ma⟩
      else
        let a := pageHpa (pageKey e.stack e.page) (ma % pageBytes)
        if hbmWaits s a write then .error ⟨0, ma⟩ else .ok (.hbm a e.owner)
  else .error ⟨0x0201, ma⟩

/-- Translate whatever the permissions, for write-backs of lines that are already cached (R156). -/
def homeRaw (s : State) (m ma : Nat) : Option Home :=
  if ma < 0x200000000 then (moonCore s m (ma / 2 ^ 24)).map fun c => .spm (c * 2 ^ 24 + ma % 2 ^ 24)
  else if hbmRegion ≤ ma ∧ ma < hbmEnd then
    (entryOf s m ((ma - hbmRegion) / pageBytes)).map fun e => .hbm (pageHpa (pageKey e.stack e.page) (ma % pageBytes)) e.owner
  else none

/-- A good copy of a sector stands in its memory-side cache, so that a read of it does not meet the failing one (R161, R176). -/
def cachedGood (s : State) (sector : Nat) : Bool := s.mem.msc.any fun x => x.line == sector / 8 && !x.poisoned

/-- A home range of `n` bytes holds a word or sector marked as failing (R177). -/
def homeBad (s : State) (h : Home) (n : Nat) : Bool :=
  match h with
  | .spm a => s.mem.ueSpm.any fun w => w * 8 < a + n && a < w * 8 + 8
  | .hbm a _ => s.mem.ueHbm.any fun w => w * 32 < a + n && a < w * 32 + 32 && !cachedGood s w

/-- A core's own dirty bytes overwrite in full every failing word or sector of a range that lies within one line, so that its reads there are good
(R156, R177). -/
def ownGood (s : State) (core m ma : Nat) (h : Home) (n : Nat) : Bool :=
  let own := fun (unit a w : Nat) => (upTo unit).all fun i => s.mem.dirty.any fun d => d.core == core && d.moon == m && d.ma + a == ma + w * unit + i
  match h with
  | .spm a => (s.mem.ueSpm.filter fun w => w * 8 < a + n && a < w * 8 + 8).all (own 8 a)
  | .hbm a _ => (s.mem.ueHbm.filter fun w => w * 32 < a + n && a < w * 32 + 32 && !cachedGood s w).all (own 32 a)

/-- A range touches a failing word of a core's operand cache (R176). -/
def opcBad (s : State) (core m ma n : Nat) : Bool :=
  s.mem.ueOpc.any fun w => w.1 == core && w.2.1 == m && decide (w.2.2 * 8 < ma + n) && decide (ma < w.2.2 * 8 + 8)

/-- A read of a range within one line, as a core sees it (none: not through an operand cache), meets a failing word or sector (R177). -/
def readBad (s : State) (core : Option Nat) (m ma : Nat) (h : Home) (n : Nat) : Bool :=
  match core with
  | some c => (homeBad s h n && !ownGood s c m ma h n) || opcBad s c m ma n
  | none => homeBad s h n

/-- The bytes standing at a home. -/
def homeRead (s : State) (h : Home) (n : Nat) : Bytes :=
  match h with
  | .spm a => memRead s.mem.spm a n
  | .hbm a _ => memRead s.mem.hbm a n

/-- Failing marks that a write of `n` bytes at `a` leaves: those of units not overwritten in full (R177). -/
def marksLeft (marks : List Nat) (unit a n : Nat) : List Nat := marks.filter fun w => !(a ≤ w * unit && w * unit + unit ≤ a + n)

/-- Write bytes at a home; marks of units overwritten in full clear (R177). -/
def homeWrite (s : State) (h : Home) (b : Bytes) : State :=
  match h with
  | .spm a => { s with mem := { s.mem with spm := memWrite s.mem.spm a b, ueSpm := marksLeft s.mem.ueSpm 8 a b.length } }
  | .hbm a _ => { s with mem := { s.mem with hbm := memWrite s.mem.hbm a b, ueHbm := marksLeft s.mem.ueHbm 32 a b.length
                                             sentPages := delNum s.mem.sentPages (a / 2 ^ 21) } }

/-- The latest dirty byte of a core's operand cache at a moon address (R155). -/
def dirtyByte (s : State) (core m ma : Nat) : Option Byte :=
  (s.mem.dirty.find? fun d => d.core == core && d.moon == m && d.ma == ma).map DirtyByte.value

/-- Overlay a core's dirty bytes on bytes read from `ma`. -/
def overlay (s : State) (core m ma : Nat) (b : Bytes) : Bytes :=
  match b with
  | [] => []
  | x :: r => (dirtyByte s core m ma).getD x :: overlay s core m (ma + 1) r

/-- Length of the piece of a range that stays within one 64-byte line. -/
def linePiece (a n : Nat) : Nat := Nat.min n (64 - a % 64)

/-- Read `n` bytes of a moon line by line, as core `core` sees them (none: not through an operand cache); `fuel` bounds the pieces. -/
def readMaGo (s : State) (m : Nat) (core : Option Nat) (fuel ma n : Nat) : Except Fail Bytes :=
  match fuel with
  | 0 => .ok []
  | fuel + 1 =>
    if n = 0 then .ok []
    else
      let k := linePiece ma n
      match homeOf s m ma false with
      | .error e => .error e
      | .ok h =>
        if readBad s core m ma h k then .error ⟨0x0204, ma - ma % 64⟩
        else
          let b := homeRead s h k
          let b := match core with | some c => overlay s c m ma b | none => b
          match readMaGo s m core fuel (ma + k) (n - k) with
          | .error e => .error e
          | .ok r => .ok (b ++ r)

/-- Read `n` bytes at a moon address with the checks of R169 and R177. -/
def readMa (s : State) (m : Nat) (core : Option Nat) (ma n : Nat) : Except Fail Bytes := readMaGo s m core (n / 64 + 2) ma n

/-- Check that `n` bytes may be written: the first failing line. -/
def checkWrite (s : State) (m fuel ma n : Nat) : Option Fail :=
  match fuel with
  | 0 => none
  | fuel + 1 =>
    if n = 0 then none
    else match homeOf s m ma true with
      | .error e => some e
      | .ok _ => checkWrite s m fuel (ma + linePiece ma n) (n - linePiece ma n)

/-- Write bytes to their homes line by line, once checked. -/
def writeHomes (s : State) (m fuel ma : Nat) (b : Bytes) : State :=
  match fuel with
  | 0 => s
  | fuel + 1 =>
    if b.isEmpty then s
    else
      let k := linePiece ma b.length
      let s := match homeRaw s m ma with | some h => homeWrite s h (b.take k) | none => s
      writeHomes s m fuel (ma + k) (b.drop k)

/-- Bytes of a moon have reached their homes: the copies in the operand caches of the cores other than `keep` are invalidated (R157), `hit`
naming the bytes and `hitLine` the lines. What another task has written to other bytes of such a line stays dirty there, so that no written
word is lost (R158) [DEDUCED 54]. -/
def invalidate (s : State) (m : Nat) (keep : Option Nat) (hit hitLine : Nat → Bool) : State :=
  let dirty := s.mem.dirty.filter fun d => !(d.moon == m && some d.core != keep && hit d.ma)
  { s with mem := { s.mem with
      dirty := dirty
      ueOpc := s.mem.ueOpc.filter fun w => dirty.any fun d => d.core == w.1 && d.moon == w.2.1 && d.ma / 128 == w.2.2 / 16
      opc := s.mem.opc.filter fun x => !(x.moon == m && some x.core != keep && hitLine x.line) ||
        dirty.any fun d => d.core == x.core && d.moon == m && d.ma / 128 == x.line } }

/-- A range of bytes has reached its home (R157). -/
def invalidateRange (s : State) (m : Nat) (keep : Option Nat) (ma n : Nat) : State :=
  invalidate s m keep (fun a => decide (ma ≤ a ∧ a < ma + n)) (fun l => decide (l * 128 < ma + n ∧ ma < l * 128 + 128))

/-- Write bytes at a moon address to their homes with the checks of R169; nothing is written when a check fails. Copies of the lines in
operand caches are invalidated (R157). -/
def writeMa (s : State) (m ma : Nat) (b : Bytes) : Except Fail State :=
  match checkWrite s m (b.length / 64 + 2) ma b.length with
  | some e => .error e
  | none => .ok (invalidateRange (writeHomes s m (b.length / 64 + 2) ma b) m none ma b.length)

/-- The words and sectors that dirty bytes overwrite in full lose their failing marks (R177). -/
def clearMarks (s : State) (homes : List Home) : State :=
  let spm := homes.filterMap fun h => match h with | .spm a => some a | .hbm .. => none
  let hbm := homes.filterMap fun h => match h with | .hbm a _ => some a | .spm _ => none
  { s with mem := { s.mem with
      ueSpm := s.mem.ueSpm.filter fun w => !((upTo 8).all fun i => spm.contains (8 * w + i))
      ueHbm := s.mem.ueHbm.filter fun w => !((upTo 32).all fun i => hbm.contains (32 * w + i)) } }

/-- A dirty byte stands in a failing word of its operand cache. -/
def badDirty (s : State) (d : DirtyByte) : Bool := s.mem.ueOpc.contains (d.core, d.moon, d.ma / 8)

/-- The homes of bytes that cannot be corrected are marked failing: they are written poisoned (R177). -/
def addMarks (s : State) (homes : List Home) : State :=
  homes.foldl (fun s h => match h with
    | .spm a => { s with mem := { s.mem with ueSpm := addNum s.mem.ueSpm (a / 8) } }
    | .hbm a _ => { s with mem := { s.mem with ueHbm := addNum s.mem.ueHbm (a / 32) } }) s

/-- Deliver dirty bytes of a core to their homes, oldest first (R156, R157, R177): failing ones poison them, and the words of the delivered lines
fail no longer in the cache. -/
def deliver (s : State) (core : Nat) (l : List DirtyByte) : State :=
  let t := l.foldr (fun d t => match homeRaw t d.moon d.ma with | some h => homeWrite t h [d.value] | none => t) s
  let t := clearMarks t ((l.filter fun d => !badDirty s d).filterMap fun d => homeRaw s d.moon d.ma)
  let t := addMarks t ((l.filter (badDirty s)).filterMap fun d => homeRaw s d.moon d.ma)
  let t := { t with mem := { t.mem with
    dirty := t.mem.dirty.filter fun d => !l.contains d
    ueOpc := t.mem.ueOpc.filter fun w => !l.any fun d => d.core == w.1 && d.moon == w.2.1 && d.ma / 8 == w.2.2 } }
  match l with
  | [] => t
  | d :: _ => invalidate t d.moon (some core) (fun a => l.any fun e => e.ma == a) (fun k => l.any fun e => e.ma / 128 == k)

/-- The set of a line in an operand cache of 1,024 sets: the spec gives size, lines and ways but not the index [7]. -/
def opcSet (line : Nat) : Nat := Config.openValue 24 line % 1024

/-- The least recently used line of a full set of 16 (R155). -/
def opcVictim (l : List OpLine) (core line : Nat) : Option OpLine :=
  let mine := l.filter fun x => x.core == core
  if mine.length < 16 then none
  else
    let set := mine.filter fun x => opcSet x.line == opcSet line
    if set.length < 16 then none else set.getLast?

/-- A line leaves an operand cache, written back when dirty (R155, R156). -/
def opcEvict (s : State) (x : OpLine) : State :=
  let t := deliver s x.core (s.mem.dirty.filter fun d => d.core == x.core && d.moon == x.moon && d.ma / 128 == x.line)
  { t with mem := { t.mem with opc := t.mem.opc.filter fun y => y != x } }

/-- A core uses a line through its operand cache: it becomes the most recently used (R155). -/
def opcTouch (s : State) (core m line : Nat) : State :=
  let x : OpLine := ⟨core, m, line⟩
  let s := if s.mem.opc.contains x then s
    else match opcVictim s.mem.opc core line with
      | some v => opcEvict s v
      | none => s
  { s with mem := { s.mem with opc := x :: (s.mem.opc.filter fun y => y != x) } }

/-- A core uses a range of addresses through its operand cache. -/
def opcUse (s : State) (core m ma n : Nat) : State :=
  (upTo ((ma % 128 + n + 127) / 128)).foldl (fun s i => opcTouch s core m (ma / 128 + i)) s

/-- Dirty bytes of a write by a task on a core. -/
def dirtyOf (core m ring : Nat) (seq : W32) (ma : Nat) (b : Bytes) : List DirtyByte :=
  match b with
  | [] => []
  | x :: r => ⟨core, m, ring, seq, ma, x⟩ :: dirtyOf core m ring seq (ma + 1) r

/-- Write bytes into a core's operand cache line by line; `fuel` bounds the lines. -/
def opcWrite (s : State) (m ring : Nat) (seq : W32) (core fuel ma : Nat) (b : Bytes) : State :=
  match fuel with
  | 0 => s
  | fuel + 1 =>
    if b.isEmpty then s
    else
      let k := Nat.min b.length (128 - ma % 128)
      let s := opcTouch s core m (ma / 128)
      let s := { s with mem := { s.mem with
        dirty := dirtyOf core m ring seq ma (b.take k) ++ (s.mem.dirty.filter fun d => !(d.core == core && d.moon == m && ma ≤ d.ma && d.ma < ma + k))
        ueOpc := s.mem.ueOpc.filter fun w => !(w.1 == core && w.2.1 == m && ma ≤ w.2.2 * 8 && w.2.2 * 8 + 8 ≤ ma + k) } }
      opcWrite s m ring seq core fuel (ma + k) (b.drop k)

/-- A task's write on a core: written through to the core's own segment, the line staying valid and clean, otherwise dirty in its operand cache
(R94, R156). -/
def coreWrite (s : State) (m ring : Nat) (seq : W32) (core ma : Nat) (b : Bytes) : Except Fail State :=
  match checkWrite s m (b.length / 64 + 2) ma b.length with
  | some e => .error e
  | none =>
    let own := match homeRaw s m ma with | some (.spm a) => a / 2 ^ 24 == core | _ => false
    if own then .ok (invalidateRange (writeHomes (opcUse s core m ma b.length) m (b.length / 64 + 2) ma b) m (some core) ma b.length)
    else .ok (opcWrite s m ring seq core (b.length / 128 + 2) ma b)

/-- Write back every dirty byte of one task, core by core, oldest first (R156); the lines stay valid and clean. -/
def writeBack (s : State) (m ring : Nat) (seq : W32) : State :=
  let mine := s.mem.dirty.filter fun d => d.moon == m && d.ring == ring && d.seq == seq
  (mine.foldl (fun l d => addNum l d.core) []).foldl (fun s c =>
    deliver s c (s.mem.dirty.filter fun d => d.core == c && d.moon == m && d.ring == ring && d.seq == seq)) s

/-! ## Memory-side caches (R160 to R163) -/

/-- MODE of a HINT word (R160). -/
def hintMode (h : Nat) : Nat := h % 4

/-- COUNT of a HINT word (R160). -/
def hintCount (h : Nat) : Nat := h / 256 % 256

/-- HINT_BAD: MODE 3, or MODE 2 with COUNT 0 (R160). -/
def hintBad (h : Nat) : Bool := hintMode h == 3 || (hintMode h == 2 && hintCount h == 0)

/-- MSC_KEEP_QUOTA in KiB: set, or 512 times the octets held (R163, R185). -/
def keepQuota (s : State) (m : Nat) : Nat :=
  let x := getMoon s m
  x.keepQuota.getD (512 * x.octets.length)

/-- A KEEP allocation of a moon in a stack's cache is within quota. -/
def keepRoom (s : State) (m stack : Nat) : Bool :=
  decide (((s.mem.msc.filter fun l => l.moon == m && l.cls == .high && lineStack l.line == stack).length + 1) * 256
    ≤ keepQuota s m * 1024)

/-- The line to evict for a new line of a full set: normal lines from least recently used, then high-retention ones (R162), none that is held for
its channel (R491). -/
def mscVictim (s : State) (line : Nat) : Option MscLine :=
  let l := s.mem.msc.filter fun x => lineStack x.line == lineStack line
  if l.length < 16 then none
  else
    let set := l.filter fun x => mscSet x.line == mscSet line
    let out := set.filter fun x => !lineHeld s x
    if set.length < 16 then none
    else match (out.filter fun x => x.cls != .high).getLast? with
      | some v => some v
      | none => out.getLast?

/-- Drop a line without writing it back: the HBM sectors keep what they held before it was allocated, failing marks among it (R162, R177). -/
def mscDiscard (s : State) (x : MscLine) : State :=
  { s with mem := { s.mem with
      msc := s.mem.msc.filter fun y => y.line != x.line
      hbm := if x.dirty then memPut (memZero s.mem.hbm (x.line * 256) 256) (x.line * 256) x.before else s.mem.hbm
      ueHbm := if x.dirty then x.marks.foldl addNum (s.mem.ueHbm.filter fun w => w / 8 != x.line) else s.mem.ueHbm } }

/-- Drop a line, written back when dirty: a good line overwrites its sectors in full (R177). -/
def mscDrop (s : State) (line : Nat) : State :=
  let good := s.mem.msc.any fun y => y.line == line && y.dirty && !y.poisoned
  { s with mem := { s.mem with msc := s.mem.msc.filter fun y => y.line != line
                               ueHbm := if good then s.mem.ueHbm.filter fun w => w / 8 != line else s.mem.ueHbm } }

/-- Demote a moon's least recently used high-retention lines in one stack's cache until it is within its quota (R163). -/
def demote (s : State) (m stack : Nat) : State :=
  let mine := fun (l : MscLine) => l.moon == m && l.cls == .high && lineStack l.line == stack
  let keep := ((s.mem.msc.filter mine).take (keepQuota s m * 4)).map MscLine.line
  { s with mem := { s.mem with msc := s.mem.msc.map fun l => if mine l && !keep.contains l.line then { l with cls := .normal } else l } }

/-- Make room for a new line of a moon: a quota lowered before takes effect at this allocation (R185), and a full set loses a line (R162). -/
def mscRoom (s : State) (m line : Nat) : State :=
  let s := demote s m (lineStack line)
  match mscVictim s line with
  | some v => mscDrop s v.line
  | none => s

/-- Put a line at the front as most recently used. -/
def mscPut (s : State) (x : MscLine) : State :=
  { s with mem := { s.mem with msc := x :: s.mem.msc.filter fun y => y.line != x.line } }

/-- Count one use of a line; at 0 it is invalidated, unwritten under DISCARD (R161, R162). -/
def mscUse (s : State) (x : MscLine) (discard : Bool) : State :=
  match x.cls with
  | .drop c => if c ≤ 1 then (if discard then mscDiscard s x else mscDrop s x.line) else mscPut s { x with cls := .drop (c - 1) }
  | _ => mscPut s x

/-- One access of a task stream, or of the host, to an HBM line under a hint: the first matching row of R161; a write to a channel in its recalibration
window stands as a dirty line until it ends (R491). `m` is the moon whose key encrypts the
line, which its tag and its KEEP quota go by (R160, R163, R171). -/
def mscAccess (s : State) (m line hint : Nat) (read : Bool) : State :=
  let stack := lineStack line
  let discard := hint.testBit 2
  let mark (x : MscLine) : MscLine := if read then x else { x with dirty := true }
  match s.mem.msc.find? fun x => x.line == line with
  | some x =>
    let s := match x.comet with | some d => if read then incB s 0x4033 d 1 else s | none => s
    let x := mark { x with comet := if read then none else x.comet }
    match hintMode hint, x.cls with
    | 0, _ => mscPut s x
    | 1, .high => mscPut s x
    | 1, _ => mscPut s { x with cls := if keepRoom s m stack then .high else .normal }
    | _, .high => mscPut s x
    | _, .drop _ => if read then mscUse s x discard else mscPut s x
    | _, .normal =>
      let x := { x with cls := .drop (hintCount hint) }
      if read then mscUse s x discard else mscPut s x
  | none =>
    let hold := !read && inWindow s (line * 256)
    if hintMode hint = 0 ∧ !hold then s
    else
      let s := mscRoom s m line
      let cls : MscClass := if hintMode hint = 0 then .normal
        else if hintMode hint = 1 then (if keepRoom s m stack then .high else .normal) else .drop (hintCount hint)
      let x : MscLine := mark { line := line, moon := m, cls := cls, dirty := false, comet := none,
                                poisoned := homeBad s (.hbm (line * 256) m) 256, before := memPart s.mem.hbm (line * 256) 256
                                marks := s.mem.ueHbm.filter fun w => w / 8 == line }
      if read && hintMode hint == 2 then mscUse (mscPut s x) x discard else mscPut s x

/-- The 256-byte HBM lines that a moon's range covers, in order, each with the OWNER of its page. -/
def hbmLines (s : State) (m fuel ma n : Nat) : List (Nat × Nat) :=
  match fuel with
  | 0 => []
  | fuel + 1 =>
    if n = 0 then []
    else
      let k := Nat.min n (256 - ma % 256)
      let r := hbmLines s m fuel (ma + k) (n - k)
      match homeRaw s m ma with
      | some (.hbm a o) => (a / 256, o) :: r
      | _ => r

/-- A stream's access to a range: every HBM line it covers counts once (R161). -/
def streamAccess (s : State) (m ma n hint : Nat) (read : Bool) : State :=
  (hbmLines s m (n / 256 + 2) ma n).foldl (fun s l => mscAccess s l.2 l.1 hint read) s

/-- Which entry a full translation cache loses; the spec names no rule [7]. -/
def tlbVictim (die : Nat) : Nat := Config.openValue 25 die % 4096

/-- A die's translation cache takes up an entry of a moon's table (R168): at most 4,096 a die. -/
def tlbTouch (s : State) (die m page : Nat) : State :=
  let x : TlbEntry := ⟨die, m, page⟩
  if s.mem.tlb.contains x then s
  else
    let mine := s.mem.tlb.filter fun e => e.die == die
    let gone := if mine.length < 4096 then none else mine[tlbVictim die]?
    { s with mem := { s.mem with tlb := x :: (s.mem.tlb.filter fun e => some e != gone) } }

/-- A die translates the pages of a range of the HBM region (R168). -/
def tlbUse (s : State) (die m ma n : Nat) : State :=
  if hbmRegion ≤ ma ∧ ma < hbmEnd then
    let i := (ma - hbmRegion) / pageBytes
    (upTo ((ma % pageBytes + n + pageBytes - 1) / pageBytes)).foldl (fun s k => if (entryOf s m (i + k)).isSome then tlbTouch s die m (i + k) else s) s
  else s

/-- The die a task's access starts from: that of its core, otherwise that of its move engine. -/
def useDie (t : Task) (core : Option Nat) : Nat := match core with | some c => c / 128 | none => t.engine.getD 0

/-- A task reads a range of its stream under a hint, on a core or a move engine: the operand cache, the translation cache and the memory-side
caches (R155, R161, R168). -/
def useRead (s : State) (t : Task) (core : Option Nat) (ma n hint : Nat) : State :=
  let s := match core with | some c => opcUse s c t.moon ma n | none => s
  streamAccess (tlbUse s (useDie t core) t.moon ma n) t.moon ma n hint true

/-- A task writes a range of its stream under a hint (R161, R168), before the bytes change in HBM (R162). -/
def useWrite (s : State) (t : Task) (core : Option Nat) (ma n hint : Nat) : State :=
  streamAccess (tlbUse s (useDie t core) t.moon ma n) t.moon ma n hint false

/-- A core reads or writes a row's entry of a row-statistics record (R113), whose stream carries no HINT (R142, R161). -/
def useRecord (s : State) (t : Task) (core base row : Nat) (read : Bool) : State :=
  let p := base + 1152 * (row / 128)
  let i := row % 128
  let use (s : State) (ma n : Nat) : State := if read then useRead s t (some core) ma n 0 else useWrite s t (some core) ma n 0
  use (use (use s (p + 4 * i) 4) (p + 512 + 4 * i) 4) (p + 1024 + i) 1

/-! ## Descriptors (R186 to R190) -/

/-- Parse the 64 bytes of a task descriptor (R186). -/
def parseDesc (b : Bytes) : Desc :=
  { kind := field b 0 1, moon := field b 1 1, flags := field b 2 2, taskId := field b 4 4, notBefore := field b 8 8,
    wait0 := field b 0x10 2, wait1 := field b 0x12 2, sig0 := field b 0x14 2, sig1 := field b 0x16 2,
    w0Thresh := toSigned 32 (field b 0x18 4), w1Thresh := toSigned 32 (field b 0x1C 4),
    s0Add := toSigned 32 (field b 0x20 4), s1Add := toSigned 32 (field b 0x24 4),
    coreMask := field b 0x28 8, ext := field b 0x30 8, extLines := field b 0x38 2, karg16 := field b 0x3A 2,
    karg32 := field b 0x3C 4 }

/-- NB_EN (R187). -/
def Desc.nbEn (d : Desc) : Bool := d.flags.testBit 0
/-- W0_EN (R187). -/
def Desc.w0En (d : Desc) : Bool := d.flags.testBit 1
/-- W1_EN (R187). -/
def Desc.w1En (d : Desc) : Bool := d.flags.testBit 2
/-- W0_CONSUME (R187). -/
def Desc.w0Consume (d : Desc) : Bool := d.flags.testBit 3
/-- W1_CONSUME (R187). -/
def Desc.w1Consume (d : Desc) : Bool := d.flags.testBit 4
/-- S0_EN (R187). -/
def Desc.s0En (d : Desc) : Bool := d.flags.testBit 5
/-- S1_EN (R187). -/
def Desc.s1En (d : Desc) : Bool := d.flags.testBit 6
/-- IRQ_DONE (R187). -/
def Desc.irqDone (d : Desc) : Bool := d.flags.testBit 7
/-- CORE_MODE (R187). -/
def Desc.coreMode (d : Desc) : Nat := d.flags / 256 % 4
/-- CORE_WIN (R187). -/
def Desc.coreWin (d : Desc) : Nat := d.flags / 1024 % 8
/-- RING_FENCE (R187). -/
def Desc.fence (d : Desc) : Bool := d.flags.testBit 13

/-- The moon-local cores a task may use (R189). -/
def descCores (s : State) (m : Nat) (d : Desc) : List Nat :=
  let n := (moonCores s m).length
  match d.coreMode with
  | 0 => upTo n
  | 1 => ((bitsOf d.coreMask 64).map fun b => 64 * d.coreWin + b).filter fun j => j < n
  | _ => ((bitsOf d.coreMask 64).flatMap fun b => (upTo 8).map fun i => 8 * b + i).filter fun j => j < n

/-- An operand descriptor (R190). -/
structure Opd where
  base    : Nat
  scale   : Nat
  res     : Nat
  len     : Nat
  count   : Nat
  stride  : Nat
  sstride : Nat
  fmt     : Nat
  tag     : Nat
  hint    : Nat
  count2  : Nat
  stride2 : Nat
  deriving DecidableEq, Repr

/-- Parse the operand descriptor at an offset of an extension block (R190); FMT[7:5] are ignored. -/
def parseOpd (b : Bytes) (o : Nat) : Opd :=
  { base := field b o 8, scale := field b (o + 8) 8, res := field b (o + 0x10) 8, len := field b (o + 0x18) 4,
    count := field b (o + 0x1C) 4, stride := field b (o + 0x20) 8, sstride := field b (o + 0x28) 4,
    fmt := field b (o + 0x2C) 1 % 32, tag := field b (o + 0x2D) 1, hint := field b (o + 0x2E) 2,
    count2 := field b (o + 0x30) 4, stride2 := field b (o + 0x38) 8 }

/-- Outer repetitions. -/
def Opd.reps (o : Opd) : Nat := Nat.max o.count2 1

/-- S1 of R190. -/
def Opd.s1 (o : Opd) : Nat := if o.stride = 0 then packedBytes o.fmt o.len else o.stride

/-- S2 of R190. -/
def Opd.s2 (o : Opd) : Nat := if o.stride2 = 0 then o.count * o.s1 else o.stride2

/-- Packed scale bytes of one vector. -/
def Opd.packedScales (o : Opd) : Nat := (o.len + 31) / 32

/-- T1 of R190. -/
def Opd.t1 (o : Opd) : Nat := if o.sstride = 0 then o.packedScales else o.sstride

/-- Start of vector `v` of repetition `r` in the element plane (R190). -/
def Opd.vecMa (o : Opd) (v r : Nat) : Nat := o.base + r * o.s2 + v * o.s1

/-- Start of its scales (R190). -/
def Opd.scaleMa (o : Opd) (v r : Nat) : Nat := o.scale + (r * o.count + v) * o.t1

/-- Vectors of the tensor. -/
def Opd.vectors (o : Opd) : Nat := o.count * o.reps

/-- Bytes from BASE to the end of the tensor's last vector. -/
def Opd.span (o : Opd) : Nat := (o.reps - 1) * o.s2 + (o.count - 1) * o.s1 + packedBytes o.fmt o.len

/-- The checks of R190 on a descriptor: LEN, COUNT, STRIDE and SSTRIDE. -/
def opdBad (o : Opd) : Bool :=
  !(1 ≤ o.len && o.len ≤ 2 ^ 24 && 1 ≤ o.count && o.count ≤ 2 ^ 24) ||
  (o.stride != 0 && (decide (o.stride < packedBytes o.fmt o.len) || o.stride % 8 != 0)) ||
  (fmtBlocked o.fmt && o.sstride != 0 && decide (o.sstride < o.packedScales))

/-- Element codes and scale codes of one vector as read. -/
structure VecCodes where
  codes  : List Nat
  scales : Bytes
  deriving DecidableEq, Repr

/-- Read the codes of elements `p` to `p + k − 1` of a vector (p a multiple of 32 for MX and T2). -/
def readCodes (s : State) (m : Nat) (core : Option Nat) (o : Opd) (v r p k : Nat) : Except Fail VecCodes := do
  let w := fmtBits o.fmt
  let b0 := p * w / 8
  let b1 := if fmtBlocked o.fmt then packedBytes o.fmt (p + k) else ((p + k) * w + 7) / 8
  let b ← readMa s m core (o.vecMa v r + b0) (b1 - b0)
  let sc ← if fmtBlocked o.fmt then readMa s m core (o.scaleMa v r + p / 32) ((p + k + 31) / 32 - p / 32) else .ok []
  .ok ⟨(upTo k).map fun i => elemCode o.fmt b (p + i - b0 * 8 / w), sc⟩

/-- The values of codes read by readCodes, each with its read status (R55, R70). -/
def codeVals (f : Nat) (c : VecCodes) : List (Num × Nat) :=
  (List.range c.codes.length).map fun i => readElem f (c.codes.getD i 0) ((c.scales.getD (i / 32) 127#8).toNat)

/-- Read elements `p` to `p + k − 1` of a vector: values and read statuses. -/
def readVec (s : State) (m : Nat) (core : Option Nat) (o : Opd) (v r p k : Nat) : Except Fail (List (Num × Nat)) :=
  (readCodes s m core o v r p k).map (codeVals o.fmt)

/-- A task stands at a byte of one of its HBM read streams (R173); where it has gone back to read the stream again, comet goes on from there. -/
def noteDemand (s : State) (t : Task) (base pos : Nat) : State :=
  if hbmRegion ≤ base ∧ base < hbmEnd then
    let back := s.mem.demand.any fun d => d.moon == t.moon && d.ring == t.ring && d.seq == t.seq && d.base == base && decide (pos < d.pos)
    { s with mem := { s.mem with
      comet := s.mem.comet.map fun c => if back && c.moon == t.moon && c.ring == t.ring && c.seq == t.seq && c.base == base then { c with pos := pos } else c
      demand := ⟨t.moon, t.ring, t.seq, base, pos⟩ ::
      (s.mem.demand.filter fun d => !(d.moon == t.moon && d.ring == t.ring && d.seq == t.seq && d.base == base)) } }
  else s

/-- A task has read elements `p` to `p + k − 1` of a vector and their scales as streams (R161, R173). -/
def touchVec (s : State) (t : Task) (core : Option Nat) (o : Opd) (v r p k : Nat) : State :=
  let b0 := p * fmtBits o.fmt / 8
  let n := if fmtBlocked o.fmt then packedBytes o.fmt k else (k * fmtBits o.fmt + 7) / 8
  let i := r * o.count + v
  let s := noteDemand (useRead s t core (o.vecMa v r + b0) n o.hint) t o.base (i * packedBytes o.fmt o.len + b0 + n)
  if fmtBlocked o.fmt then
    noteDemand (useRead s t core (o.scaleMa v r + p / 32) ((k + 31) / 32) o.hint) t o.scale (i * o.packedScales + (p + k + 31) / 32)
  else s

/-- Where the element array of a residual plane stands (R74). -/
def planeElems (res cap : Nat) : Nat := res + 64 + (4 * cap + 63) / 64 * 64

/-- A task has read a tensor's residual plane (R74, R161, R173). -/
def touchPlane (s : State) (t : Task) (core : Option Nat) (o : Opd) : State :=
  if o.res = 0 then s
  else match readMa s t.moon core o.res 64 with
    | .error _ => s
    | .ok h =>
      let cap := field h 4 4
      let cnt := field h 8 4
      let el := planeElems o.res cap
      let s := noteDemand (useRead s t core o.res (64 + 4 * cnt) o.hint) t o.res (64 + 4 * cnt)
      let s := noteDemand (useRead s t core el (16 * cnt) o.hint) t el (16 * cnt)
      noteDemand (useRead s t core (el + 16 * cap) cnt o.hint) t (el + 16 * cap) cnt

/-! ## Synchronisation objects (R194 to R196) -/

/-- The module object number of a moon-relative one, none when out of range (R194). -/
def objNum (s : State) (m k : Nat) : Option Nat := ((getMoon s m).blocks[k / 256]?).map fun b => 256 * b + k % 256

/-- The object's value and stick. -/
def getObj (s : State) (k : Nat) : SyncObj := tget s.tasks.objs ⟨0, false⟩ k

/-- Set an object. -/
def setObj (s : State) (k : Nat) (o : SyncObj) : State := { s with tasks := { s.tasks with objs := tset s.tasks.objs k o } }

/-- Add to a moon-relative object (R196): clamped and stuck at the extremes; the second answer is SIG_OVF for the adding task. -/
def addObj (s : State) (m k : Nat) (d : Int) : State × Bool :=
  match objNum s m k with
  | none => (s, false)
  | some n =>
    let o := getObj s n
    if o.stuck then (s, true)
    else
      let v := o.value + d
      if v > 2147483647 ∨ v < -2147483648 then
        let s := setObj s n ⟨if v > 0 then 2147483647 else -2147483648, true⟩
        (raiseMoon (incA s 0x6111 m 1) m 0x0601 [k], true)
      else (setObj s n ⟨v, false⟩, false)

/-- Write a moon-relative object and clear its stick (R197). -/
def setObjValue (s : State) (m k : Nat) (v : Int) : State :=
  match objNum s m k with
  | none => s
  | some n => setObj s n ⟨v, false⟩

/-- A wait is satisfied while value ≥ threshold (R195). -/
def waitMet (s : State) (m k : Nat) (t : Int) : Bool :=
  match objNum s m k with
  | none => false
  | some n => decide ((getObj s n).value ≥ t)

end Sys2Proof.Machine
end

