-- ==== Sys2Proof/Machine/Rows.lean ====
section
/-! DEFINITION. Pages and rows of HBM that fail (R165, R179 to R182): what a window page is used for, retirement at once and its beginning, the
private pages, and rows that fail. -/

namespace Sys2Proof.Machine

/-- What a window page is used for. -/
def pageInfo (s : State) (key : Nat) : PageInfo := tget s.mem.pages ⟨.free, 0⟩ key

/-- Set a window page's use. -/
def setPage (s : State) (key : Nat) (p : PageInfo) : State := { s with mem := { s.mem with pages := tset s.mem.pages key p } }

/-- Free pages of a stack's window. -/
@[irreducible] def freePages (s : State) (stack : Nat) : List Nat :=
  ((upTo windowPages).map (pageKey stack)).filter fun k => (pageInfo s k).use == .free

/-- Retire a page that is in no use (P6 of R181, R182): journaled and counted; the 229th of a stack requests service. -/
def retirePage (s : State) (key : Nat) : State :=
  let st := key / 32768
  let s := incA (setPage s key ⟨.retired, 0⟩) 0x4001 st 1
  let s := jMust s (.pageRetire st (key % 32768) 1 (param s 0x4001 st))
  if 228 < param s 0x4001 st then setSvc s 1 else s

/-- Private pages of a stack (R165). -/
def privatePages : Nat := 152

/-- A private page is retired: the highest-numbered free window page of its stack replaces it, and counts as retired (R165). Without one the page
stays in service, as R181 has it for a window page. -/
def retirePrivate (s : State) (stack i : Nat) : State :=
  match (freePages s stack).getLast? with
  | none => s
  | some key =>
    let old := pageKey stack (windowPages + i)
    retirePage { s with mem := { s.mem with privPages := tset s.mem.privPages (256 * stack + i) key
                                            ueHbm := s.mem.ueHbm.filter fun w => w * 32 / 2 ^ 21 != old } } key

/-- Change every entry that maps a window page. -/
def mapEntries (s : State) (key : Nat) (f : PageEntry → PageEntry) : State :=
  { s with moons := s.moons.map fun e =>
      (e.1, { e.2 with table := e.2.table.map fun t => if pageKey t.2.stack t.2.page == key then (t.1, f t.2) else t }) }

/-- P1 and P2 of R181: retirement of a window page begins; a free page is retired at once. A private page goes by the number 22,888 + its
own in its region [DESIGN CHOICE 54]. -/
def beginRetire (s : State) (key : Nat) : State :=
  let p := pageInfo s key
  if windowPages ≤ key % 32768 then retirePrivate s (key / 32768) (key % 32768 - windowPages)
  else if p.use = .retired ∨ p.use = .retirePending ∨ key ∈ s.mem.retirePend then s
  else if p.use = .free then retirePage s key
  else mapEntries { s with mem := { s.mem with retirePend := addNum s.mem.retirePend key } } key fun e => { e with migrating := true }

/-- Set tracking of a row. -/
def setRow (s : State) (k : Nat) (r : RowInfo) : State := { s with mem := { s.mem with rows := tset s.mem.rows k r } }

/-- A spare row is left in a row's bank, which the spec leaves to the stack [7]. -/
def spareRow (k : Nat) : Bool := Config.openValue 11 k % 2 == 1

/-- A row fails (R179): soft repair, or retirement of the page where it failed. -/
def failRow (s : State) (k key : Nat) : State :=
  let r := { getRow s k with page := key }
  if r.holding then s
  else if r.soft || r.hard || r.rejected || !spareRow k then beginRetire (setRow s k r) key
  else setRow s k { r with holding := true }

/-- A read of a page's byte met an uncorrectable error: its row fails (R179). -/
def failByte (s : State) (hpa : Nat) : State := failRow s (rowOf hpa) (hpa / 2 ^ 21)

/-- The time that row failures are measured in: orbit, or the module reference while orbit is UNLOCKED (R179). A time taken in one of the two does
not count in the other [DESIGN CHOICE 54]. -/
def rowTime (s : State) : Nat := if s.orbit.state == .unlocked then 2 * s.orbit.refNs else 2 * s.orbit.now + 1

end Sys2Proof.Machine
end

