-- ==== Sys2Proof/Machine/Due.lean ====
section
/-! DEFINITION. Events set against orbit (R48, R203, R237): which of them are due, and the order of their kinds. -/

namespace Sys2Proof.Machine

/-- Moons whose tasks may start: in ACTIVE, and in MIGRATING until the handover suspends it (R228, R237, R240, R245). -/
def moonRuns (s : State) (m : Nat) : Bool :=
  let x := getMoon s m
  isUp s && !x.spilled && x.swap == .none && (x.state == .active || (x.state == .migrating && (x.mig == .none || x.mig == .precopy) && x.prev == .active))

/-- Moons whose SYNC tasks apply: the synchronisation unit goes on while the moon is suspended (R237), not while it resizes (R240). -/
def moonSyncs (s : State) (m : Nat) : Bool :=
  let x := getMoon s m
  isUp s && x.mig != .stateSent && x.state != .free && x.state != .admitting && x.state != .resizing && x.state != .moved && x.state != .arriving &&
    x.state != .releasing

/-- Moons whose armed alarms fire: also while they resize, when started tasks run to completion (R202, R237, R240). -/
def moonAlarms (s : State) (m : Nat) : Bool := moonSyncs s m || (isUp s && (getMoon s m).state == .resizing)

/-- The moon is charged: its span is open and it is neither FREE nor ARRIVING (R250). -/
def charged (x : Moon) : Bool := x.ledger.spanOpen && x.state != .free && x.state != .arriving

/-- ns of a billing minute (R251). -/
def minuteNs : Nat := 60000000000

/-- The orbit value from which minutes of an open span are counted: its start, or the first lock for a span begun before it (R253). -/
def minuteFrom (s : State) (l : Ledger) : Nat := if l.flags.testBit 4 then s.orbit.lockAt else l.startOrbit

/-- A minute boundary has passed in a moon's open span. -/
def minuteDue (s : State) (x : Moon) : Bool :=
  charged x && s.orbit.state != .unlocked && decide (minuteFrom s x.ledger / minuteNs < s.orbit.now / minuteNs)

/-- Orbit has reached a value of a module in service: events held while orbit is UNLOCKED are not due (R46, R48). -/
def orbitReached (s : State) (v : Nat) : Bool := isUp s && s.orbit.state != .unlocked && decide (v ≤ s.orbit.now)

/-- A migration's handover has a WHEN (R245). -/
def migWhen (x : Moon) : Bool := (x.migCmd.map MoonCmd.whenEn).getD false

/-- The WHEN of a moon's pending command (R227). -/
def cmdWhen (x : Moon) : Option Nat :=
  match x.job with
  | some j => if !j.running && j.cmd.whenEn then some j.cmd.whenOrbit else none
  | none => none

/-- The WHEN of a migration in pre-copy (R245). -/
def handoverWhen (x : Moon) : Option Nat :=
  if x.state == .migrating && x.mig == .precopy && migWhen x then some ((x.migCmd.map MoonCmd.whenOrbit).getD 0) else none

/-- The WHEN of a moon's pending turn switch, once the moon is resident (R237, R330). -/
def turnWhen (s : State) (m : Nat) : Option Nat :=
  let t := getTrain s m
  if moonRuns s m && t.phase == .pending then t.turn.map fun x => x.1.whenOrbit else none

/-- The WHEN of a slot's waiting swap (R237, R289). -/
def swapWhen (s : State) (m : Nat) (x : Slot) : Option Nat :=
  match x.swap with
  | some j => if j.armed || (getMoon s m).spilled then none else some (j.whenOrbit.getD 0)
  | none => none

/-- The WHEN of a moon's pending snapshot (R237, R329). -/
def snapWhen (s : State) (m : Nat) : Option Nat :=
  let t := getTrain s m
  if moonRuns s m && t.snapStage == 1 then t.snap.map fun x => x.1.whenOrbit else none

/-- The events of kinds 1 to 5 of R203 that a moon has set, with their orbit values. -/
def moonEvents (s : State) (m : Nat) : List (Nat × Nat) :=
  let x := getMoon s m
  let one (k : Nat) (v : Option Nat) : List (Nat × Nat) := (v.map fun v => (k, v)).toList
  one 1 (cmdWhen x) ++ one 2 (handoverWhen x) ++ one 3 (turnWhen s m) ++
    (getServe s m).slots.flatMap (fun e => one 4 (swapWhen s m e.2)) ++ one 5 (snapWhen s m)

/-- The minute boundary at which a moon's billing minute closes (R251), kind 6. -/
def minuteEvents (s : State) : List (Nat × Nat) :=
  (s.moons.filter fun e => minuteDue s e.2).map fun _ => (6, s.orbit.now / minuteNs * minuteNs)

/-- Armed ALARM tasks that may fire (R202). -/
def alarmsArmed (s : State) : List Task := s.tasks.tasks.filter fun t => t.desc.kind == 7 && t.phase == .armed && moonAlarms s t.moon

/-- The not-before releases that are due: the oldest unstarted task of each running ring whose not-before value has yet to be met (R199). -/
def releasesDue (s : State) : List Task :=
  (upTo 1024).filterMap fun k =>
    match s.tasks.tasks.find? fun t => t.moon == k / 16 && t.ring == k % 16 && t.phase == .fetched with
    | some t => if t.desc.nbEn && t.desc.kind != 7 && !t.released then some t else none
    | none => none

/-- Every event of kinds 1 to 8 that is due and has not taken effect. -/
def dueEvents (s : State) : List (Nat × Nat) :=
  ((upTo 64).flatMap (moonEvents s) ++ minuteEvents s ++ (alarmsArmed s).map (fun t : Task => (7, t.desc.notBefore)) ++
    (releasesDue s).map (fun t : Task => (8, t.desc.notBefore))).filter fun e => orbitReached s e.2

/-- R203: an event of a kind waits while one of an earlier kind, due no later, has yet to take effect. Orbit is kept for the module as a whole, and
so is the order [DESIGN CHOICE 50]. -/
def earlierDue (s : State) (kind v : Nat) : Bool := (dueEvents s).any fun e => decide (e.1 < kind) && decide (e.2 ≤ v)

/-- R203: an ALARM task waits for another of the same orbit value whose moon, or ring in the moon, is lower. -/
def alarmFirst (s : State) (t : Task) : Bool :=
  (alarmsArmed s).any fun u => decide (u.desc.notBefore < t.desc.notBefore) || (u.desc.notBefore == t.desc.notBefore &&
    (decide (u.moon < t.moon) || (u.moon == t.moon && decide (u.ring < t.ring))))

/-- A reshaping event of a moon is due: no task of the moon starts before it has taken effect (R203, R237). -/
def reshapeDue (s : State) (m : Nat) : Bool := (moonEvents s m).any fun e => orbitReached s e.2

end Sys2Proof.Machine
end

