-- ==== Sys2Proof/Machine/Rings.lean ====
section
/-! DEFINITION. Command rings and tasks: ring registers (R204 to R209), eligibility and placement (R199 to R202, R231), failing and completing
tasks (R211 to R217), and the rows RING_TAIL, RING_CFG, RING_CTRL_RESUME, RING_CTRL_RESET, TASK_COMPLETION, COMPLETION_RECORD_ACK,
NOT_BEFORE_RELEASE, ALARM, ALARM_FIRE, SYNC_SIGNAL, SYNC_SET, SYNC_DUMP, TASK_STAT_READ. -/

namespace Sys2Proof.Machine

/-! ## Tasks of a ring -/

/-- The tasks of one ring that RING_HEAD has not passed, oldest first. -/
def ringTasks (s : State) (m r : Nat) : List Task := s.tasks.tasks.filter fun t => t.moon == m && t.ring == r

/-- A task by ring and sequence number. -/
def findTask (s : State) (m r : Nat) (q : W32) : Option Task := s.tasks.tasks.find? fun t => t.moon == m && t.ring == r && t.seq == q

/-- Replace a task by its changed self. -/
def putTask (s : State) (t : Task) : State :=
  { s with tasks := { s.tasks with tasks := s.tasks.tasks.map fun u =>
      if u.moon == t.moon && u.ring == t.ring && u.seq == t.seq then t else u } }

/-- Append a task. -/
def addTask (s : State) (t : Task) : State := { s with tasks := { s.tasks with tasks := s.tasks.tasks ++ [t] } }

/-- A task has started (R209): it runs, holds an alarm, or is past that. -/
def Task.started (t : Task) : Bool := t.phase != .fetched

/-- A task has completed (R211, R187 RING_FENCE). -/
def Task.completed (t : Task) : Bool := t.phase == .recorded || t.phase == .acked

/-- Sequence number of the next descriptor to fetch. -/
def nextFetch (s : State) (m r : Nat) : W32 :=
  match (ringTasks s m r).getLast? with
  | some t => t.seq + 1
  | none => (getRing s m r).head

/-- The oldest unstarted task of a ring, if it has been fetched (R199). -/
def oldestUnstarted (s : State) (m r : Nat) : Option Task := (ringTasks s m r).find? fun t => t.phase == .fetched

/-- A fresh task of a descriptor. -/
def mkTask (m r : Nat) (q : W32) (d : Desc) (ext : Bytes) : Task :=
  { moon := m, ring := r, seq := q, desc := d, ext := ext, phase := .fetched, cores := [], seen := [], work := [], next := 0, units := 0, left := 0,
    rows := [], resBlocks := [], flagged := 0, result := 0, error := 0, detail := 0, faultMa := 0, cvt := 0, kstatus := 0,
    firstBad := 0xFFFFFFFF, late := false, sigOvf := false, preempted := false, substd := false, released := false, alarmWait := false,
    prio := none, startAt := 0, endAt := 0, engineNs := 0, engine := none }

/-- Raise a ring's completion vector, or its attention vector (R419, R420). -/
def ringVector (s : State) (m r : Nat) (attention : Bool) : State :=
  let fn := hostFn s m
  if fn ≠ 0 then sendMsix s fn (if attention then 16 + r else r) else sendMsix s 0 (32 * m + if attention then 16 else r)

/-! ## Failing (R209, R211, R216) -/

/-- A failure recorded at a ring: HALTED when RUNNING, FAIL, RING_FAIL_SEQ of the first (R204, R206, R209). -/
def haltRing (s : State) (m r : Nat) (q : W32) : State :=
  let x := getRing s m r
  setRing s m r { x with state := if x.state = .running then .halted else x.state, fail := true,
                         failSeq := if x.failKept then x.failSeq else q, failKept := true }

/-- A task of a plan (R270, R305, R331): the model keeps it under a ring number from 16 on, which no register block has [DESIGN CHOICE 13]. -/
def Task.ofPlan (t : Task) : Bool := decide (16 ≤ t.ring)

/-- A STEP plan's task, whose time the STEP task carries. -/
def Task.underStep (t : Task) : Bool := decide (16 ≤ t.ring ∧ t.ring < 32)

/-- The first byte of a failing sector of a 64-byte line. -/
def badByte (s : State) (a : Nat) : Nat := if s.mem.ueHbm.contains (a / 32) then a else a + 32

/-- An access that met uncorrectable data counts (R176, R177, R185), and its HBM row fails (R179). -/
def countUe (s : State) (m code ma : Nat) : State :=
  if code ≠ 0x0204 then s
  else match s.mem.ueOpc.find? fun w => w.2.1 == m && w.2.2 / 8 == ma / 64 with
    | some w => incB s 0x4011 (w.1 / 128) 1
    | none =>
      match homeRaw s m ma with
      | some (.spm a) => incB s 0x4011 (a / 2 ^ 31) 1
      | some (.hbm a _) =>
        if s.mem.msc.any fun x => x.line == a / 256 && x.dirty && x.poisoned then incB s 0x4011 (a / 2 ^ 37) 1
        else failByte (incB s 0x4004 (a / 2 ^ 36) 1) (badByte s (a - a % 64))
      | none => s

/-- A task fails: its engines stop, its ring halts (R209, R216). -/
def failTask (s : State) (t : Task) (code ma detail : Nat) : State :=
  let s := countUe s t.moon code ma
  let u := putTask s { t with phase := .done, work := [], cores := [], result := 1, error := code, faultMa := ma, detail := detail }
  if t.ofPlan then u else haltRing u t.moon t.ring t.seq

/-- The work of a failed task on other cores has ended: its engines have finished (R211, R216). -/
def endFailing (s : State) (t : Task) (j : Nat) : State :=
  let t := { t with work := t.work.filter fun w => w.core != j, cores := delNum t.cores j }
  putTask s (if t.work.isEmpty then { t with phase := .done, cores := [] } else t)

/-- A task fails by its work on moon-local core `j`: it stops issuing, and what other cores have in hand completes (R216); of several failures the
first stands. -/
def failUnit (s : State) (t : Task) (j code ma detail : Nat) : State :=
  if t.result = 1 then endFailing (countUe s t.moon code ma) t j
  else
    let u := failTask s t code ma detail
    let work := t.work.filter fun w => w.core != j && !w.susp
    if work.isEmpty then u
    else putTask u { t with work := work, cores := work.map WorkUnit.core, units := t.next, result := 1, error := code, faultMa := ma, detail := detail }

/-! ## Eligibility and start (R195, R199 to R202) -/

/-- A started STEP task runs to completion while its moon is spilled or resized, so its plan's tasks go on (R235, R240); those of the
pipeline unit's program and of a turn go on while a resize waits for its boundary (R311, R333). -/
def stepGoesOn (x : Moon) (r : Nat) : Bool :=
  decide (16 ≤ r) && !x.spilled &&
  ((decide (r < 32) && x.swap == .spilling) || (x.swap == .none && x.state == .resizing && x.prev == .active))

/-- A task of a ring may start. -/
def startRuns (s : State) (m r : Nat) : Bool := moonRuns s m || (isUp s && stepGoesOn (getMoon s m) r)

/-- A started task of a ring may take further cores: also while the moon waits for its step boundary (R240). -/
def workRuns (s : State) (m r : Nat) : Bool :=
  let x := getMoon s m
  startRuns s m r || (isUp s && !x.spilled && x.swap == .none && x.state == .resizing && x.prev == .active)

/-- The enabled waits of a task are satisfied together (R195). -/
def waitsMet (s : State) (t : Task) : Bool :=
  (!t.desc.w0En || waitMet s t.moon t.desc.wait0 t.desc.w0Thresh) && (!t.desc.w1En || waitMet s t.moon t.desc.wait1 t.desc.w1Thresh)

/-- The not-before condition (R199): orbit at or above NOT_BEFORE and not UNLOCKED, once the events that R203 puts first have taken effect. -/
def nbMet (s : State) (t : Task) : Bool :=
  !t.desc.nbEn || t.released || (s.orbit.state != .unlocked && decide (t.desc.notBefore ≤ s.orbit.now) && !earlierDue s 8 t.desc.notBefore)

/-- RING_FENCE: every earlier task of the ring has completed (R187). -/
def fenceMet (s : State) (t : Task) : Bool :=
  !t.desc.fence || ((ringTasks s t.moon t.ring).takeWhile fun u => u.seq != t.seq).all Task.completed

/-- A task is eligible (R199), and no reshaping event of its moon is due (R203, R237). -/
def eligible (s : State) (t : Task) : Bool :=
  (t.ofPlan || (getRing s t.moon t.ring).state == .running) && t.phase == .fetched && !reshapeDue s t.moon &&
  ((oldestUnstarted s t.moon t.ring).map Task.seq == some t.seq) && fenceMet s t && waitsMet s t && (t.desc.kind == 7 || nbMet s t)

/-- The objects that a task's start consumes (R195). -/
def consumes (t : Task) : List Nat :=
  (if t.desc.w0En && t.desc.w0Consume then [t.desc.wait0] else []) ++ (if t.desc.w1En && t.desc.w1Consume then [t.desc.wait1] else [])

/-- Subtract a consumed threshold; a stuck object ignores it and sets SIG_OVF (R195, R196). -/
def consumeOne (s : State) (m k : Nat) (on : Bool) (t : Int) : State × Bool := if on then addObj s m k (-t) else (s, false)

/-- Start a task: consume its waits in one step, move RING_STARTED past it, note the orbit value (R195, R204, R212). -/
def startTask (s : State) (t : Task) (ph : TaskPhase) : State × Task :=
  let (s, o0) := consumeOne s t.moon t.desc.wait0 (t.desc.w0En && t.desc.w0Consume) t.desc.w0Thresh
  let (s, o1) := consumeOne s t.moon t.desc.wait1 (t.desc.w1En && t.desc.w1Consume) t.desc.w1Thresh
  let t := { t with phase := ph, startAt := s.orbit.now, sigOvf := t.sigOvf || o0 || o1 }
  let x := getRing s t.moon t.ring
  (putTask (if t.ofPlan then s else setRing s t.moon t.ring { x with started := t.seq + 1 }) t, t)

/-! ## Cores (R127, R231, R232) -/

/-- RING_PRIO of a ring (R232); a STEP's plan runs at the priority of the STEP's ring, the pipeline unit at PIPE_PRIO (R305). -/
def ringPrio (s : State) (m r : Nat) : Nat :=
  if r < 16 then tget (getMoon s m).prio 0 r
  else if r < 32 then
    match (getServe s m).runs.find? fun x => x.slot == r - 16 with
    | some x => tget (getMoon s m).prio 0 x.ring
    | none => 0
  else param s 0x9011 m

/-- The ring's priority, raised by inheritance while it lasts (R231, R239). -/
def taskPrio (s : State) (t : Task) : Nat := t.prio.getD (ringPrio s t.moon t.ring)

/-- A core is under substitution or a forced test, or a soft-fuse waits for it (R26, R120, R122). -/
def coreHeld (s : State) (core : Nat) : Bool :=
  s.cores.subst.any (fun x => x.die == core / 128 && x.lc == core % 128) || decide (2 * core + 1 ∈ s.cores.testing) ||
  s.cores.fusePending.any fun x => x.1 / 128 == 136 * (core / 128) + physOf s (core / 128) (core % 128)

/-- Seconds of ARRAY_TEST_INTERVAL in force (R124): a cycle keeps the interval it began with, and a new one applies from the cycle after the
write. The cycles are counted on the module reference [DESIGN CHOICE 49]. -/
def testSeconds (s : State) : Nat :=
  if s.orbit.refNs < s.cores.testCycleAt + s.cores.testCycleSec * 1000000000 then s.cores.testCycleSec else param s 0x3025 0

/-- Before P3025 is written: the cycle that runs, with its interval (R124). -/
def noteCycle (s : State) : State :=
  if s.orbit.refNs < s.cores.testCycleAt + s.cores.testCycleSec * 1000000000 then s
  else
    let from_ := s.cores.testCycleAt + s.cores.testCycleSec * 1000000000
    let len := param s 0x3025 0
    { s with cores := { s.cores with
      testCycleAt := from_ + (s.orbit.refNs - from_) / (len * 1000000000) * (len * 1000000000), testCycleSec := len } }

/-- A core's arrays have gone a whole ARRAY_TEST_INTERVAL without a test (R120), on the module reference [DESIGN CHOICE 49]. -/
def testOverdue (s : State) (core : Nat) : Bool := decide (tget s.cores.testedAt 0 core + testSeconds s * 1000000000 ≤ s.orbit.refNs)

/-- A core counts as busy for placement: held, or due for a forced test at its next task boundary (R26, R120, R122). -/
def coreBlocked (s : State) (core : Nat) : Bool := coreHeld s core || testOverdue s core

/-- The running task of a kind that holds moon-local core `j` (R127). -/
def holder (s : State) (m kind j : Nat) : Option Task :=
  s.tasks.tasks.find? fun t => t.moon == m && t.phase == .running && t.desc.kind == kind && t.cores.contains j

/-- Moon-local core `j` is free for a task of a kind. -/
def coreFree (s : State) (m kind j : Nat) : Bool :=
  match moonCore s m j with
  | none => false
  | some c => !coreBlocked s c && (holder s m kind j).isNone

/-- A claim on a core: priority, distance of its ring after the ring last served (R200), and the task. -/
structure Claim where
  prio : Nat
  dist : Nat
  task : Task
  deriving DecidableEq, Repr

/-- The order number of a claim's suspended unit on core `j`, none when it has none (R232). -/
def Claim.order (j : Nat) (a : Claim) : Option Nat := (a.task.work.find? fun w => w.core == j && w.susp).map WorkUnit.order

/-- The better of two claims (R231, R200); a suspended unit of the core goes before others of its priority, in order of suspension (R232). -/
def Claim.better (j : Nat) (a b : Claim) : Bool :=
  decide (a.prio > b.prio) || (a.prio == b.prio &&
    (match a.order j, b.order j with
     | some x, some y => decide (x < y)
     | some _, none => true
     | none, some _ => false
     | none, none => decide (a.dist < b.dist)))

/-- The ring a task counts as in the round-robin (R200): a STEP's plan tasks count as the STEP's ring (R270), the pipeline unit's after ring 15. -/
def servedRing (s : State) (m r : Nat) : Nat :=
  if r < 16 then r
  else match (getServe s m).runs.find? fun x => x.slot + 16 == r with
    | some x => x.ring
    | none => 16

/-- The place of a ring in the round-robin of core `core`, from the ring after the one last served (R200). -/
def ringDist (s : State) (m r core : Nat) : Nat := (servedRing s m r + 16 - tget s.tasks.served 16 core) % 17

/-- A substitution or a forced test of a core has begun: it is busy until the end, also for a task that has run on it (R26, R120). -/
def coreStopped (s : State) (core : Nat) : Bool :=
  s.cores.subst.any (fun x => x.die == core / 128 && x.lc == core % 128 && x.started) || s.cores.testing.contains (2 * core + 1)

/-- A core stands on an octet of the moon that is moving away (R249): no further task starts there (E1 of R235). -/
def coreMoving (s : State) (m core : Nat) : Bool := (getMoon s m).moves.any fun v => v.1 == core / 8

/-- Moon-local core `j` is open to a task: not blocked, or the task has run on it already and runs to its end there (R26, R120, R122); on an octet that
moves away only a STEP goes on (E2 of R235). -/
def coreOpen (s : State) (t : Task) (j : Nat) : Bool :=
  match moonCore s t.moon j with
  | none => false
  | some c => !coreStopped s c && (!coreBlocked s c || (t.phase == .running && t.seen.contains j)) && (t.underStep || !coreMoving s t.moon c)

/-- The claims on moon-local core `j` for a kind: running tasks with work to hand out or suspended there, and eligible tasks (R231). -/
def claims (s : State) (m kind j : Nat) : List Claim :=
  let core := (moonCore s m j).getD 0
  (s.tasks.tasks.filter fun t => t.moon == m && t.desc.kind == kind && (descCores s m t.desc).contains j && coreOpen s t j &&
      ((t.phase == .running && workRuns s m t.ring && (decide (t.next < t.units) || t.work.any fun w => w.core == j && w.susp)) ||
        (startRuns s m t.ring && eligible s t))).map
    fun t => ⟨taskPrio s t, ringDist s m t.ring core, t⟩

/-- The claim that takes a core. -/
def bestClaim (s : State) (m kind j : Nat) : Option Claim :=
  match claims s m kind j with
  | [] => none
  | c :: r => some (r.foldl (fun b x => if x.better j b then x else b) c)

/-- Hand a core to a running task: its suspended unit there, otherwise its next unit (R106, R128, R231). -/
def takeCore (s : State) (t : Task) (j : Nat) : State :=
  let s := match moonCore s t.moon j with
    | some c => { s with tasks := { s.tasks with served := tset s.tasks.served c (servedRing s t.moon t.ring) }
                         cores := { s.cores with testing := delNum s.cores.testing (2 * c) } }
    | none => s
  if t.work.any fun w => w.core == j && w.susp then
    putTask s { t with cores := addNum t.cores j, seen := addNum t.seen j, work := t.work.map fun w => if w.core == j then { w with susp := false } else w }
  else
    putTask s { t with cores := addNum t.cores j, seen := addNum t.seen j, work := t.work ++ [⟨j, t.next, 0, false, [], 0, [], 0⟩], next := t.next + 1 }

/-- Offer one core to its best claim; an eligible task takes it by its own start command. -/
def offerCore (s : State) (m kind j : Nat) : State :=
  if (moonCore s m j).isSome && (holder s m kind j).isNone then
    match bestClaim s m kind j with
    | some c => if c.task.phase == .running then takeCore s c.task j else s
    | none => s
  else s

/-- Offer every free core of a moon, ascending (R231). -/
def offerCores (s : State) (m kind : Nat) : State :=
  (upTo (moonCores s m).length).foldl (fun s j => offerCore s m kind j) s

/-- The first free core of a task's set is this task's to take (R200, R231). -/
def firstCore (s : State) (t : Task) : Bool :=
  (descCores s t.moon t.desc).any fun j => coreFree s t.moon t.desc.kind j &&
    (match bestClaim s t.moon t.desc.kind j with | some c => c.task.ring == t.ring && c.task.seq == t.seq | none => false)

/-! ## Completion (R196, R211 to R213) -/

/-- CFLAGS of a record (R213). -/
def cflags (t : Task) : Nat :=
  (if t.late then 1 else 0) + (if t.sigOvf then 2 else 0) + (if t.preempted then 4 else 0) + (if t.substd then 8 else 0)

/-- The 64 bytes of a completion record (R212). -/
def recordBytes (t : Task) : Bytes :=
  leBytes 4 t.desc.taskId ++ leBytes 1 t.desc.kind ++ leBytes 1 t.result ++ leBytes 2 t.error ++ leBytes 4 t.seq.toNat ++
  leBytes 2 t.cvt ++ leBytes 2 t.kstatus ++ leBytes 4 t.firstBad ++ leBytes 4 (cflags t) ++
  leBytes 8 (if t.result = 2 then 0 else t.startAt) ++ leBytes 8 t.endAt ++ leBytes 8 t.engineNs ++ leBytes 8 t.faultMa ++
  leBytes 8 t.detail

/-- The 1,056 bytes that DUMP writes: 256 values and the bitmap of stuck objects (R197). -/
def dumpBytes (s : State) (block : Nat) : Bytes :=
  (upTo 256).flatMap (fun i => leBytes 4 (ofSigned 32 (getObj s (256 * block + i)).value)) ++
  leBytes 32 (maskOf ((upTo 256).filter fun i => (getObj s (256 * block + i)).stuck))

/-- The SYNC operation of a descriptor (R197). -/
def syncOp (d : Desc) : Nat := d.karg16 % 4

/-- Cycles 1 and 2 of R211 for a DONE task: SIG0 then SIG1, or the SET of R197. -/
def applySignals (s : State) (t : Task) : State × Bool :=
  let d := t.desc
  let v := toSigned 32 d.karg32
  if d.kind = 4 ∧ syncOp d = 1 then
    let s := setObjValue s t.moon d.sig0 v
    (if d.s1En then setObjValue s t.moon d.sig1 v else s, false)
  else
    let (s, a) := if d.s0En && !(d.kind == 4 && syncOp d == 2) then addObj s t.moon d.sig0 d.s0Add else (s, false)
    let (s, b) := if d.s1En then addObj s t.moon d.sig1 d.s1Add else (s, false)
    (s, a || b)

/-- The class B counter of a record's RESULT (R222). -/
def resultCounter (r : Nat) : Nat := if r = 0 then 0x6100 else if r = 1 then 0x6101 else 0x6102

/-- The signals of a DONE task (R196, R211), and the DUMP of R197 with the values they leave; a dump that cannot be written fails the task, whose
signals are then not applied (R196, R216). -/
def signalTask (s : State) (t : Task) : State × Task :=
  if t.result ≠ 0 then (s, t)
  else
    let (u, o) := applySignals s t
    let done := { t with sigOvf := t.sigOvf || o }
    if t.desc.kind = 4 ∧ syncOp t.desc = 2 then
      match objNum u t.moon t.desc.sig0 with
      | some n =>
        (match writeMa u t.moon t.desc.ext (dumpBytes u (n / 256)) with
         | .ok u => (u, done)
         | .error e => (haltRing s t.moon t.ring t.seq, { t with result := 1, error := e.code, faultMa := e.ma }))
      | none => (u, done)
    else (u, done)

/-- Complete a task whose engines have finished: write-back, signals, record issued (R211); a plan's task writes no record (R270). -/
def completeTask (s : State) (t : Task) : State :=
  let s := writeBack s t.moon t.ring t.seq
  let (s, t) := signalTask s { t with endAt := s.orbit.now, cores := [], work := [], engine := none }
  let s := putTask s { t with phase := .recorded }
  if t.ofPlan then s else incB s (resultCounter t.result) t.moon 1

/-- The ring's configuration is valid: size, alignment, HBM region, a moon that is not FREE (R205, R224). -/
def ringCfgOk (s : State) (m : Nat) (x : Ring) : Bool :=
  decide (6 ≤ x.log2 ∧ x.log2 ≤ 16) && x.base % 4096 == 0 && x.cplBase % 4096 == 0 &&
  decide (hbmRegion ≤ x.base ∧ x.base < hbmEnd) && decide (hbmRegion ≤ x.cplBase ∧ x.cplBase < hbmEnd) && (getMoon s m).state != .free

/-- A DRAINING ring whose last record is written returns to RUNNING, or to DISABLED when ENABLE is 0 or its configuration is refused (R205, R209). -/
def drainEnd (s : State) (m r : Nat) : State :=
  let x := getRing s m r
  if x.state = .draining ∧ x.head = x.tail ∧ (ringTasks s m r).isEmpty then
    if !x.enable then setRing s m r { x with state := .disabled }
    else if ringCfgOk s m x then setRing s m r { x with state := .running, head := x.tail, started := x.tail }
    else ringVector (setRing s m r { x with state := .disabled, enable := false, cfgErr := true }) m r true
  else s

/-- RING_HEAD passes acknowledged tasks at the front of the ring (R208). -/
def advanceHead (s : State) (m r fuel : Nat) : State :=
  match fuel with
  | 0 => s
  | fuel + 1 =>
    match ringTasks s m r with
    | [] => s
    | t :: _ =>
      if t.phase = .acked then
        let x := getRing s m r
        let s := setRing s m r { x with head := t.seq + 1 }
        advanceHead { s with tasks := { s.tasks with tasks := s.tasks.tasks.filter fun u =>
          !(u.moon == m && u.ring == r && u.seq == t.seq) } } m r fuel
      else s

/-- The record's write, and whether it was dropped with CPL_ERR, for it fails a check (R211). -/
def writeRecord (s : State) (t : Task) : Except Fail (State × Bool) :=
  let x := getRing s t.moon t.ring
  let ma := x.cplBase + 64 * (t.seq.toNat % 2 ^ x.log2)
  match writeMa s t.moon ma (recordBytes t) with
  | .ok s => .ok (s, false)
  | .error e =>
    if e.code = 0 then .error e
    else
      let s := setRing s t.moon t.ring { x with cplErr := true }
      .ok (if x.state = .draining then s else haltRing s t.moon t.ring t.seq, true)

/-- COMPLETION_RECORD_ACK (R208, R211): the record stands in the completion ring, RING_HEAD advances, interrupts follow; of a dropped record TASK_FAIL
alone. -/
def execCompletionRecordAck (m r : Nat) (q : W32) (s : State) : Res :=
  match findTask s m r q with
  | none => .next s
  | some t =>
    if t.phase != .recorded || t.ofPlan || !isUp s then .next s
    else match writeRecord s t with
      | .error _ => .next s
      | .ok (s1, dropped) =>
        let fails := t.result == 1 || (dropped && (getRing s m r).state != .draining)
        let s := advanceHead (putTask s1 { t with phase := .acked }) m r (s1.tasks.tasks.length + 1)
        let s := if t.desc.irqDone && !dropped then ringVector s m r false else s
        let s := if fails && (getRing s m r).irqFail then ringVector s m r true else s
        .next (drainEnd s m r)

/-- The number of PIPE_STATUS STATE (R313). -/
def pipeCode : PipeState → Nat
  | .off => 0
  | .running => 1
  | .draining => 2
  | .halted => 3

/-- Count the time that a backward or an update has waited for a derivation until now (R336). -/
def flushWait (s : State) (m : Nat) : State :=
  let t := getTrain s m
  match t.waitAt with
  | none => s
  | some a =>
    let n := t.waitNs + ((s.orbit.refNs : Int) - a).toNat
    incB (setTrain s m { t with waitAt := some s.orbit.refNs, waitNs := n % 1000 }) 0x9023 m (n / 1000)

/-- Such a wait ends. -/
def endWait (s : State) (m : Nat) : State :=
  let s := flushWait s m
  setTrain s m { getTrain s m with waitAt := none }

/-- The pipeline unit enters HALTED with an error, its task and its code; PIPE_HALT to the moon (R312, R313). -/
def pipeHalt (s : State) (m err task code : Nat) : State :=
  let s := endWait s m
  let t := getTrain s m
  let s := setTrain s m { t with state := .halted, active := t.active && (err == 4 || err == 7), error := err, task := task, code := code }
  raiseMoon s m 0x0902 [3 + 2 ^ 8 * err + 2 ^ 16 * (task % 2 ^ 16) + 2 ^ 32 * (code % 2 ^ 16)]

/-- The plan ring of the pipeline unit's current program (the model's own number) [13]. -/
def pipeRing (t : Train) : Nat := if t.side then 35 else 32

/-- A failed task of the current program halts the unit with SUBTASK_FAILED (R312). -/
def pipeTaskEnd (s : State) (t : Task) : State :=
  let p := getTrain s t.moon
  if t.result == 1 && t.ring == pipeRing p && p.active && (p.state == .running || p.state == .draining) && !p.resetting then
    pipeHalt s t.moon 3 t.seq.toNat t.error
  else s

/-- TASK_COMPLETION (R211, R312): every engine has finished; signals apply and the record is issued. -/
def execTaskCompletion (m r : Nat) (q : W32) (s : State) : Res :=
  match findTask s m r q with
  | none => .next s
  | some t =>
    if t.phase != .done || !isUp s then .next s
    else .next (offerCores (offerCores (pipeTaskEnd (completeTask s t) t) m 1) m 2)

/-! ## Ring registers (R204 to R209, R412) -/

/-- A function's access to a moon's ring registers acts (R410, R412). -/
def ringAccess (s : State) (fn m : Nat) : Bool :=
  isUp s && decide (m < 64) && (if fn = 0 then hostFn s m == 0 else vfOn s fn && fn == m)

/-- Descriptors published and not fetched become discarded tasks (R209): TASK_ID and KIND from the descriptor where it can be read. -/
def discardUnfetched (s : State) (m r fuel : Nat) : State :=
  match fuel with
  | 0 => s
  | fuel + 1 =>
    let x := getRing s m r
    let q := nextFetch s m r
    if q = x.tail then s
    else
      let d := match readMa s m none (x.base + 64 * (q.toNat % 2 ^ x.log2)) 64 with
        | .ok b => parseDesc b
        | .error _ => parseDesc []
      discardUnfetched (addTask s { mkTask m r q d [] with phase := .done, result := 2 }) m r fuel

/-- A started MOVE that waits for link credit or for DELIVERED stops waiting and counts as disarmed (R209): a SEND, or a TRANSCODE whose remote
shards are on their way. -/
def isSend (s : State) (t : Task) : Bool :=
  t.desc.kind == 3 && (field t.ext 0 1 == 3 || s.links.tx.any fun x => x.moon == t.moon && x.ring == t.ring && x.seq == t.seq)

/-- The FABRIC_ID of the combiner of a scope (R383): 0 pack, 1 fabric; none when it is not known. -/
def combinerOf (s : State) (scope : Nat) : Option Nat :=
  let own := param s 0x5010 0
  if scope = 0 then
    if s.pack.role = 1 then some own else if s.pack.role = 2 ∨ param s 0xB001 0 = 0xFFFF then none else some (param s 0xB001 0)
  else if s.pack.role = 2 then some own else s.pack.leadFabric

/-- Change port `p`. -/
def modPort (s : State) (p : Nat) (f : Port → Port) : State := setPort s p (f (getPort s p))

/-- The UP ports of a mask that carry fabric traffic (R359, R362). -/
def upPorts (s : State) (mask : Nat) : List Nat := (bitsOf mask 32).filter fun p => (getPort s p).phase == .up && !(getPort s p).sxl1

/-- The port of a list with the most VC1 credit, the lowest of them (R362). -/
def bestPort (s : State) (l : List Nat) : Option Nat :=
  l.foldl (fun b p => match b with
    | none => some p
    | some q => if (getPort s q).credit1 < (getPort s p).credit1 then some p else b) none

/-- The egress port of a mask: the UP port with the most VC1 credit (R362); with none UP, a port that retrains, at which traffic waits (D1 of
R373) [59]. -/
def egress (s : State) (mask : Nat) : Option Nat :=
  match bestPort s (upPorts s mask) with
  | some e => some e
  | none => (bitsOf mask 32).find? fun p => (getPort s p).resume && !(getPort s p).sxl1

/-- The port towards a module through a mask, or by the forwarding table where the mask is 0 (R362, R368), 0xFF for none. -/
def portVia (s : State) (mask fabric : Nat) : Nat := (egress s (if mask = 0 then tget s.links.fwd 0 fabric else mask)).getD 0xFF

/-- The port towards a module by the forwarding table (R362), 0xFF for none. -/
def portTo (s : State) (fabric : Nat) : Nat := portVia s 0 fabric

/-- A flit of a channel from this module (R359); link control is filled in when it is sent. -/
def mkFlit (s : State) (vc destFabric destMoon srcMoon xfer : Nat) (payload : Bytes) : Flit :=
  { vc := vc, destMoon := destMoon, srcMoon := srcMoon, destFabric := destFabric, srcFabric := param s 0x5010 0, xfer := xfer, seq := 0, ack := 0
    retryReq := false, good := true, payload := payload }

/-- Payload bytes of one flit of a port: 240 in SXL2 framing, 112 in SXL1 framing (R359). -/
def flitBytes (s : State) (p : Nat) : Nat := if (getPort s p).sxl1 then 112 else 240

/-- A flit as a port's framing carries it: an SXL1 header has no fabric addresses and no moons (R359). -/
def framed (sxl1 : Bool) (f : Flit) : Flit :=
  if sxl1 then { f with destFabric := 0, destMoon := 0, srcFabric := 0, srcMoon := 0 } else f

/-- Send a flit on an UP port (R360): it takes the next SEQ, acknowledges, and stays in the retry buffer. -/
def sendFlit (s : State) (p type : Nat) (f : Flit) : State :=
  let x := getPort s p
  if x.phase = .up then
    let f := { framed x.sxl1 f with seq := x.txSeq, ack := x.rxSeq - 1 }
    emit (setPort s p { x with txSeq := x.txSeq + 1, retry := x.retry ++ [(type, f)] }) (.flit p type f)
  else s

/-- The channel of a flit on its way to a module through a port: VC2 where it arrives, VC1 in transit (R363). -/
def channelTo (s : State) (p fabric : Nat) : Nat :=
  let x := getPort s p
  if x.sxl1 || x.partner.map Partner.fabric == some fabric then 2 else 1

/-- The channel of a CONTROL flit to a module through a port: VC0 where it arrives, VC1 in transit (R363). -/
def controlTo (s : State) (p fabric : Nat) : Nat := if channelTo s p fabric = 2 then 0 else 1

/-- The credit a port holds for a channel, of a moon on VC2; an SXL1 port's traffic is moon 0's (R359, R363). -/
def Port.credit (x : Port) (vc moon : Nat) : Nat :=
  if vc = 0 then x.credit0 else if vc = 1 then x.credit1 else tget x.credit2 0 (if x.sxl1 then 0 else moon)

/-- Spend credit on a port for flits of a channel (R363). -/
def spend (s : State) (p vc moon n : Nat) : State :=
  let x := getPort s p
  setPort s p (if vc = 0 then { x with credit0 := x.credit0 - n } else if vc = 1 then { x with credit1 := x.credit1 - n }
    else { x with credit2 := tmod x.credit2 0 (if x.sxl1 then 0 else moon) (· - n) })

/-- A port may send a new flit: it is UP, its retry buffer has room and it holds the flit's credit; CREDIT_SYNC, which sets credit, takes none
(R360, R363) [59]. -/
def Port.maySend (x : Port) (type : Nat) (f : Flit) : Bool :=
  x.phase == .up && decide (x.retry.length < 1024) && (type == 6 || decide (0 < x.credit f.vc f.destMoon))

/-- Send a flit and spend its credit. -/
def sendSpent (s : State) (p type : Nat) (f : Flit) : State :=
  sendFlit (if type = 6 then s else spend s p f.vc f.destMoon 1) p type f

/-- Flits of one channel, of one moon on VC2, leave in order. -/
def sameQueue (f g : Flit) : Bool := f.vc == g.vc && (f.vc != 2 || f.destMoon == g.destMoon)

/-- A flit may go at once: nothing of its channel waits before it, and the port may send it. -/
def mayGo (x : Port) (type : Nat) (f : Flit) : Bool := x.maySend type f && !x.queue.any fun o => sameQueue o.flit f

/-- Queue a flit at a port; one that is neither UP nor retraining takes none (R373). -/
def enqueue (s : State) (p : Nat) (o : OutFlit) : State :=
  let x := getPort s p
  if x.phase = .up ∨ x.resume then setPort s p { x with queue := x.queue ++ [o] } else s

/-- Hand a flit of this module to a port: sent at once, or queued until credit and room allow (R360, R363). -/
def offer (s : State) (p type : Nat) (f : Flit) : State :=
  if mayGo (getPort s p) type f then sendSpent s p type f else enqueue s p ⟨type, f, none⟩

/-- Return credit to the partner in a CREDIT flit (R363), with what VC0 is owed. -/
def sendCredit (s : State) (p vc moon n : Nat) : State :=
  let x := getPort s p
  let e (vc m n : Nat) : Bytes := leBytes 4 (vc + 4 * m + 256 * n)
  let own := (if n = 0 then [] else e vc moon n) ++ if x.owed = 0 then [] else e 0 0 x.owed
  if own.isEmpty then s
  else offer (setPort s p { x with owed := 0 }) p 7 (mkFlit s 0 (x.partner.map Partner.fabric |>.getD 0xFFFF) 0 0 0 own)

/-- Hand a CONTROL flit for a module to a port that carries fabric traffic (R359, R372). -/
def offerCtl (s : State) (p fabric : Nat) : State :=
  if p < 32 ∧ !(getPort s p).sxl1 then offer s p 5 (mkFlit s (controlTo s p fabric) fabric 0 0 0 []) else s

/-- Send a CONTROL flit to a module (R359, R372): never over an SXL1 port. -/
def sendCtl (s : State) (kind : CtlKind) (fabric : Nat) (args : List Nat) : State :=
  let p := portTo s fabric
  offerCtl (emit s (.control p kind fabric args)) p fabric

/-- Withdraw unreleased arrivals (R388): one WITHDRAW each. -/
def withdrawArrivals (s : State) (p : Nat → Nat → W32 → Bool) : State :=
  let gone := s.pack.sent.filter fun e => p e.1 e.2.1 e.2.2.1
  let s := { s with pack := { s.pack with sent := s.pack.sent.filter fun e => !p e.1 e.2.1 e.2.2.1 } }
  gone.foldl (fun s e => match combinerOf s e.2.2.2.scope with
    | some f => sendCtl s .withdraw f [e.1, e.2.2.2.scope, e.2.2.2.barrier]
    | none => s) s

/-- The remote signal of a ring's stopped SENDs is not applied, also where their chunks are held on this module (R209); what has arrived of them no
longer counts towards a transfer. -/
def dropSignals (s : State) (m r : Nat) : State :=
  let tags := (s.links.tx.filter fun t => t.moon == m && t.ring == r).map TxXfer.xfer
  { s with
    moons := s.moons.map fun e => (e.1, { e.2 with held := e.2.held.map fun a =>
      if a.port == 32 && a.srcMoon == m && tags.contains a.xfer then { a with sig := false } else a })
    links := { s.links with rxXfers := s.links.rxXfers.filter fun x =>
      !(x.srcFabric == param s 0x5010 0 && x.srcMoon == m && tags.contains x.xfer) } }

/-- Enter DRAINING (R209): unstarted and disarmed tasks are discarded, started ones run on. -/
def drainRing (s : State) (m r : Nat) : State :=
  let s := dropSignals s m r
  let x := getRing s m r
  let s := withdrawArrivals (setRing s m r { x with state := .draining, failKept := false }) fun a b _ => a == m && b == r
  let s := { s with
    tasks := { s.tasks with tasks := s.tasks.tasks.map fun t =>
      if t.moon == m && t.ring == r && (t.phase == .fetched || t.phase == .armed || (t.phase == .running && (isSend s t || t.desc.kind == 6))) then
        { t with phase := .done, result := 2, work := [], cores := [] } else t }
    links := { s.links with tx := s.links.tx.filter fun t => !(t.moon == m && t.ring == r) } }
  drainEnd (discardUnfetched s m r (2 ^ x.log2)) m r

/-- A RING_TAIL write acts (R208): publish descriptors, or DB_ERR and the attention vector. -/
def takeTail (fn m r : Nat) (v : W32) (s : State) : State :=
  let x := getRing s m r
  if !ringAccess s fn m then s
  else if x.state = .disabled ∨ x.state = .draining ∨ 2 ^ x.log2 < (v - x.head).toNat ∨ (v - x.head).toNat < (x.tail - x.head).toNat then
    ringVector (setRing s m r { x with dbErr := true }) m r true
  else setRing s m r { x with tail := v }

/-- The function that made a write. -/
def HostWrite.fn : HostWrite → Nat
  | .window f _ _ _ | .tail f _ _ _ | .reg f _ _ => f
  | .bar2 _ _ => 0

/-- A function has a write that waits: its later ones wait behind it (R417, R426). -/
def hostWaits (s : State) (fn : Nat) : Bool := s.host.waiting.any fun w => w.fn == fn

/-- A write waits (R417, R426). -/
def holdWrite (s : State) (w : HostWrite) : State := { s with host := { s.host with waiting := s.host.waiting ++ [w] } }

/-- RING_TAIL (R208, R417): it acts after every earlier window write of its function. -/
def execRingTail (fn m r : Nat) (v : W32) (s : State) : Res :=
  .next (if hostWaits s fn then holdWrite s (.tail fn m r v) else takeTail fn m r v s)

/-- RING_CFG (R205): enable with checked values, or disable by way of DRAINING. -/
def execRingCfg (fn m r : Nat) (v : W32) (s : State) : Res :=
  let x := getRing s m r
  let en := v.toNat.testBit 5
  if !ringAccess s fn m then .next s
  else
    let x := { x with irqFail := v.toNat.testBit 6 }
    if x.enable then
      if en then .next (setRing s m r x)
      else
        let s := setRing s m r { x with enable := false }
        .next (if x.state = .draining then s else if x.state = .disabled then s else drainRing s m r)
    else if x.state = .draining then .next (setRing s m r { x with enable := en })
    else
      let x := { x with log2 := v.toNat % 32 }
      if !en then .next (setRing s m r x)
      else if ringCfgOk s m x then
        .next (setRing s m r { x with enable := true, state := .running, head := x.tail, started := x.tail })
      else .next (ringVector (setRing s m r { x with cfgErr := true }) m r true)

/-- RING_CTRL RESUME (R207, R209): HALTED to RUNNING. -/
def execRingCtrlResume (fn m r : Nat) (s : State) : Res :=
  let x := getRing s m r
  if ringAccess s fn m && x.state == .halted then .next (setRing s m r { x with state := .running, failKept := false }) else .next s

/-- RING_CTRL RESET (R207, R209): RUNNING or HALTED to DRAINING. -/
def execRingCtrlReset (fn m r : Nat) (s : State) : Res :=
  let x := getRing s m r
  if ringAccess s fn m && (x.state == .running || x.state == .halted) then .next (drainRing s m r) else .next s

/-! ## SYNC and ALARM tasks (R197, R201, R202) -/

/-- Alarms that ALARM tasks hold, of one moon or of all (R202). -/
def alarmsHeld (s : State) (m : Option Nat) : Nat :=
  (s.tasks.tasks.filter fun t => t.phase == .armed && (m.isNone || m == some t.moon)).length

/-- A free alarm within quota (R202). -/
def alarmFree (s : State) (m : Nat) : Bool :=
  decide (alarmsHeld s none < 224) && decide (alarmsHeld s (some m) < param s 0x6121 m)

/-- Free move engines of a die: 16 less those that tasks hold. -/
def enginesFree (s : State) (die : Nat) : Nat := 16 - (s.tasks.tasks.filter fun t => t.engine == some die).length

/-- The dies a moon stands on, ascending. -/
def moonDies (s : State) (m : Nat) : List Nat := (moonCores s m).foldl (fun l c => addNum l (c / 128)) []

/-- The die a task decides on: that of the first core of its set. -/
def taskDie (s : State) (t : Task) : Nat :=
  match (descCores s t.moon t.desc).head? with
  | some j => ((moonCore s t.moon j).getD 0) / 128
  | none => 0

/-- The die whose engine a MOVE task uses: that of its lowest-numbered core, or under ANY the moon's die with the most free engines
(the lowest such die) [DESIGN CHOICE 12]. -/
def moveDie (s : State) (t : Task) : Nat :=
  if t.desc.coreMode = 0 then
    (moonDies s t.moon).foldl (fun b d => if enginesFree s b < enginesFree s d then d else b) ((moonDies s t.moon).headD 0)
  else taskDie s t

/-- An eligible task has all that its start needs now (R199 to R202): an idle slot, an alarm, a core or an engine of its set that is free for it. -/
def canStart (s : State) (t : Task) : Bool :=
  match t.desc.kind with
  | 3 => startRuns s t.moon t.ring && decide (0 < enginesFree s (moveDie s t))
  | 4 => moonSyncs s t.moon
  | 5 => startRuns s t.moon t.ring && !((getServe s t.moon).runs.any fun x => x.slot == t.desc.karg16)
  | 6 => moonRuns s t.moon
  | 7 => moonRuns s t.moon && alarmFree s t.moon
  | _ => startRuns s t.moon t.ring && firstCore s t

/-- A task of a lower ring that can start now consumes an object that this task consumes too: it is taken first (R198). -/
def consumerBefore (s : State) (t : Task) : Bool :=
  !(consumes t).isEmpty && s.tasks.tasks.any fun u => u.moon == t.moon && decide (u.ring < t.ring) &&
    eligible s u && (consumes u).any (fun k => (consumes t).contains k) && canStart s u

/-- A task whose engines have finished is about to add to one of these objects (R196, R211). -/
def addsDue (s : State) (m : Nat) (objs : List Nat) : Bool :=
  s.tasks.tasks.any fun t => t.moon == m && t.phase == .done && t.result == 0 &&
    ((t.desc.s0En && objs.contains t.desc.sig0) || (t.desc.s1En && objs.contains t.desc.sig1))

/-- The objects that a SYNC SET writes (R197). -/
def setObjects (d : Desc) : List Nat := d.sig0 :: (if d.s1En then [d.sig1] else [])

/-- The oldest unstarted task of a ring when it is eligible and of a kind. -/
def readyTask (s : State) (m r kind : Nat) : Option Task :=
  match oldestUnstarted s m r with
  | some t => if t.desc.kind == kind && eligible s t && !consumerBefore s t then some t else none
  | none => none

/-- A SYNC task of operation `op` starts and completes at once (R197, R201); a SET comes after the adds that are due (R198). -/
def runSync (op m r : Nat) (s : State) : State :=
  match readyTask s m r 4 with
  | none => s
  | some t =>
    if moonSyncs s m && syncOp t.desc == op && !(op == 1 && addsDue s m (setObjects t.desc)) &&
        !(op == 2 && (checkWrite s m 20 t.desc.ext 1056).map Fail.code == some 0) then
      let (s, t) := startTask s t .done
      completeTask s t
    else s

/-- SYNC_SIGNAL (R197). -/
def execSyncSignal (m r : Nat) (s : State) : Res := .next (runSync 0 m r s)

/-- SYNC_SET (R197). -/
def execSyncSet (m r : Nat) (s : State) : Res := .next (runSync 1 m r s)

/-- SYNC_DUMP (R197). -/
def execSyncDump (m r : Nat) (s : State) : Res := .next (runSync 2 m r s)

/-- ALARM (R202): take a free alarm within quota, or wait for one. -/
def execAlarm (m r : Nat) (s : State) : Res :=
  match readyTask s m r 7 with
  | none => .next s
  | some t =>
    if !moonRuns s m then .next s
    else if alarmFree s m then .next (startTask s t .armed).1
    else .next (putTask s { t with alarmWait := true })

/-- ALARM_FIRE (R48, R202): at NOT_BEFORE the task applies its signals and completes; LATE after waiting for an alarm. -/
def execAlarmFire (m r : Nat) (q : W32) (s : State) : Res :=
  match findTask s m r q with
  | none => .next s
  | some t =>
    if t.phase == .armed && moonAlarms s m && s.orbit.state != .unlocked && decide (t.desc.notBefore ≤ s.orbit.now) &&
        !earlierDue s 7 t.desc.notBefore && !alarmFirst s t then
      .next (completeTask s { t with late := t.alarmWait && decide (t.desc.notBefore + 1000 < s.orbit.now) })
    else .next s

/-- NOT_BEFORE_RELEASE (R199, R200): the not-before value has passed and is not tested again. -/
def execNotBeforeRelease (m r : Nat) (s : State) : Res :=
  match oldestUnstarted s m r with
  | none => .next s
  | some t =>
    if isUp s && t.desc.nbEn && s.orbit.state != .unlocked && decide (t.desc.notBefore ≤ s.orbit.now) &&
        !earlierDue s 8 t.desc.notBefore then
      .next (putTask s { t with released := true })
    else .next s

/-- TASK_STAT_READ (R222): a read of TASK_DONE; only the moon's own role takes the snapshot and clears. -/
def execTaskStatRead (who : Who) (m : Nat) (s : State) : Res :=
  let m := effMoon who m
  query s who 0x6100 m fun s => readStat s 0x6100 m (ownRole s who m)

end Sys2Proof.Machine
end

