-- ==== Sys2Proof/Machine/Gemm.lean ====
section
/-! DEFINITION. GEMM tasks: operand pairs and rates (R89 to R91), fetch checks (R191, R214), accumulation (R100 to R105), tiles (R106), the
output unit (R107 to R110), row statistics (R111 to R114), residual passes (R77, R78, R115), status (R118, R119), slots and bubbles (R93 to
R99), format statistics (R79 to R85), and the rows GEMM, GEMM_PASS_DONE, ARRAY_STAT_READ, FMT_STAT_READ. -/

namespace Sys2Proof.Machine

/-! ## Format statistics (R79 to R85) -/

/-- Count conversions into a format under a moon's tag (R79, R80): the statuses of the values converted, residual blocks written. -/
def countFmt (s : State) (m tag fmt : Nat) (sts : List Nat) (res : Nat) : State :=
  if tag = 0 ∨ fmt = 0 ∨ (sts.isEmpty ∧ res = 0) then s
  else
    let e := 256 * m + tag
    let n (mask : Nat) := (sts.filter fun st => st &&& mask != 0).length
    let s := incB s 0x9100 e sts.length
    let s := if fmt = 0x0C then s else incB s 0x9101 e (n stOvf)
    let s := incB s 0x9102 e (n stUnf)
    let s := incB s 0x9103 e (n (stNan + stInf))
    let s := incB s 0x9104 e res
    if sts.isEmpty then s
    else
      let i := tget s.stat.fmtInfo 0x1F e
      let mixed := i.testBit 5 || (i % 32 != 0x1F && i % 32 != fmt)
      { s with stat := { s.stat with fmtInfo := tset s.stat.fmtInfo e (fmt + if mixed then 32 else 0) } }

/-- Tally a run of values under a layer's GTAG (R321): each block evaluated for MXFP8 E4M3 and E5M2. -/
def tallyLayer (x : Layer) (vals : List Num) : Layer :=
  let sts (f : Nat) : List Nat := (chunksOf 32 vals.length vals).flatMap fun b => (toBlock f false b 0).sts
  let n (l : List Nat) (mask : Nat) := (l.filter fun st => st &&& mask != 0).length
  let a := sts 5
  let b := sts 6
  { x with e4Ovf := x.e4Ovf + n a stOvf, e4Unf := x.e4Unf + n a stUnf, e5Ovf := x.e5Ovf + n b stOvf, e5Unf := x.e5Unf + n b stUnf
           elems := Nat.min (x.elems + vals.length) 0xFFFFFFFF }

/-- FP64 rounding of an exact value, as a pattern (R326). -/
def bits64 (v : Num) : Nat := encFloat fp64 (toFloat fp64 false true v 0).val

/-- The sum of squares of written values onto an FP64 accumulator, in the order of writing (R326). -/
def addSquares (acc : Nat) (l : List Num) : Nat := l.foldl (fun a v => bits64 (Num.add (decFloat fp64 a) (Num.mul v v))) acc

/-- Values written under a tag enter the layer tallies (R321) and the gradient-noise sums (R326): `vals` before conversion, `wrote` after. -/
def noteWrite (s : State) (m tag : Nat) (vals wrote : List Num) : State :=
  let t := getTrain s m
  let hit := t.layers.any fun e => e.2.gtag == tag
  let gl := match t.gns with | some g => g.enable && g.localTag == tag | none => false
  let gg := match t.gns with | some g => g.enable && g.globalTag == tag | none => false
  if tag = 0 ∨ !(hit || gl || gg) then s
  else
    let layers := t.layers.map fun e => if e.2.gtag == tag then (e.1, tallyLayer e.2 vals) else e
    let s := setTrain s m { t with layers := layers, gnsL := if gl then addSquares t.gnsL wrote else t.gnsL
                                   gnsG := if gg then addSquares t.gnsG wrote else t.gnsG }
    match t.pipeRec with
    | none => s
    | some r => (layers.filter fun e => e.2.gtag == tag).foldl (fun s e =>
        match writeMa s m (r.layerTable + 32 * e.1 + 0x14) (leBytes 4 e.2.elems) with
        | .ok s => s
        | .error _ => s) s

/-- The values that packed bytes and scales of a run spell. -/
def wroteVals (f n : Nat) (bytes scales : Bytes) : List Num :=
  (upTo n).map fun i => (readElem f (elemCode f bytes i) (field scales (i / 32) 1)).1

/-- Count a converted run under its tag: format statistics, layer tallies, gradient-noise sums (R79, R321, R326). -/
def countRun (s : State) (m tag fmt : Nat) (vals : List Num) (c : VecConv) : State :=
  noteWrite (countFmt s m tag fmt c.sts 0) m tag vals (wroteVals fmt vals.length c.bytes c.scales)

/-- FMT_STAT_INFO of a tag: LAST_FMT, MIXED and the saturation bits (R85). -/
def fmtInfoWord (s : State) (e : Nat) : Nat :=
  let sat (p b : Nat) := if cntB s p e = 0xFFFFFFFF then 2 ^ b else 0
  tget s.stat.fmtInfo 0x1F e + sat 0x9100 6 + sat 0x9101 7 + sat 0x9102 8 + sat 0x9103 9 + sat 0x9104 10

/-- A read of FMT_STAT_ELEMS of a moon (R82): only the moon's own role snapshots and clears. -/
def readFmt (s : State) (who : Who) (m tag : Nat) : State :=
  if ownRole s who m && decide (m < 64) then
    let e := 256 * m + tag
    let w := fmtInfoWord s e
    let s := readB s 0x9100 e true
    { s with stat := { s.stat with fmtSnap := tset s.stat.fmtSnap e w, fmtInfo := tdel s.stat.fmtInfo e } }
  else s

/-- The moon a role addresses through its own copy of a selector parameter; a tenant addresses its own (R84). -/
def selMoon (s : State) (who : Who) (p : Nat) : Nat :=
  match who.role, who.path with
  | .tenant, .vf n => n
  | _, _ => tget s.dict.selectors 0 (8 * p + roleCode who.role)

/-- A read of FMT_STAT_ELEMS with its value; a selector above 63 is an invalid element (R84). -/
def fmtRead (who : Who) (tag : Nat) (s : State) : Except Nat (State × Bytes) :=
  let m := selMoon s who 0x9000
  if 63 < m then .error 2 else .ok (readFmt s who m tag, leBytes 4 (cntB s 0x9100 (256 * m + tag)))

/-- FMT_STAT_READ (R82). -/
def execFmtStatRead (who : Who) (tag : Nat) (s : State) : Res := query s who 0x9100 tag (fmtRead who tag)

/-! ## Slots and bubbles (R93 to R99) -/

/-- Count core-cycles of a die under a parameter, in units of 65,536 (R99). What is left below a unit is not cleared by a read: it counts in the next
interval [DESIGN CHOICE 52]. -/
def countSlots (s : State) (p die n : Nat) : State :=
  let k := pkey p die
  let v := tget s.stat.slotRest 0 k + n
  let s := { s with stat := { s.stat with slotRest := tset s.stat.slotRest k (v % 65536) } }
  if v < 65536 then s else incB s p die (v / 65536)

/-- ARRAY_STAT_READ (R99): any role's read snapshots and clears. -/
def execArrayStatRead (who : Who) (die : Nat) (s : State) : Res := query s who 0x3030 die fun s => readStat s 0x3030 die true

/-- Write cycles of a tile by output format and destination (R94). -/
def tileWrite (fmt : Nat) (ownSegment : Bool) : Nat :=
  if fmt = 0 then (if ownSegment then 32 else 16) else if fmt = 1 ∨ fmt = 2 then (if ownSegment then 16 else 8) else 8

/-- Cycles of a pass of S slots with write time W: S + 29, or S + 21 + W when W exceeds 8 (R93, R94). -/
def passCycles (slots w : Nat) : Nat := if 8 < w then slots + 21 + w else slots + 29

/-- Cycles from one pass's first slot to the next pass's (R95). -/
def passInterval (slots w : Nat) : Nat := Nat.max slots (Nat.max 8 w)

/-- Cycles of a chain of `n` dependent passes, each 2 cycles after the operand's last word (R96). -/
def chainCycles (n slots w : Nat) : Nat := n * (passCycles slots w + 2)

/-! ## The record and its checks (R89, R107, R191, R192, R214) -/

/-- A GEMM record (R192). -/
structure GemmRec where
  m          : Nat
  n          : Nat
  k          : Nat
  ctrl       : Nat
  scale      : Nat
  maskOffset : Int
  rowScale   : Nat
  colScale   : Nat
  bias       : Nat
  maskMap    : Nat
  rowstatRec : Nat
  a          : Opd
  b          : Opd
  c          : Opd
  deriving DecidableEq, Repr

/-- Parse a GEMM task's extension block (R192). -/
def parseGemm (e : Bytes) : GemmRec :=
  { m := field e 0 4, n := field e 4 4, k := field e 8 4, ctrl := field e 0x0C 4, scale := field e 0x10 4,
    maskOffset := toSigned 32 (field e 0x14 4), rowScale := field e 0x18 8, colScale := field e 0x20 8, bias := field e 0x28 8,
    maskMap := field e 0x30 8, rowstatRec := field e 0x38 8, a := parseOpd e 0x40, b := parseOpd e 0x80, c := parseOpd e 0xC0 }

/-- ACC_RND. -/
def GemmRec.accSr (g : GemmRec) : Bool := g.ctrl.testBit 0
/-- ACC_IN. -/
def GemmRec.accIn (g : GemmRec) : Bool := g.ctrl.testBit 1
/-- OUT_WRITE. -/
def GemmRec.outWrite (g : GemmRec) : Nat := g.ctrl / 4 % 4
/-- OUT_FMT. -/
def GemmRec.outFmt (g : GemmRec) : Nat := g.ctrl / 16 % 32
/-- OUT_RND. -/
def GemmRec.outSr (g : GemmRec) : Bool := g.ctrl.testBit 9
/-- OUT_OVF. -/
def GemmRec.outProp (g : GemmRec) : Bool := g.ctrl.testBit 10
/-- BIAS_FMT. -/
def GemmRec.biasBf (g : GemmRec) : Bool := g.ctrl.testBit 11
/-- MASK_MODE. -/
def GemmRec.maskMode (g : GemmRec) : Nat := g.ctrl / 4096 % 4
/-- ROWSTAT. -/
def GemmRec.rowstat (g : GemmRec) : Nat := g.ctrl / 16384 % 4
/-- C is read or written (R191). -/
def GemmRec.usesC (g : GemmRec) : Bool := g.outWrite != 0 || g.accIn
/-- Tiles along N (R106). -/
def GemmRec.tilesN (g : GemmRec) : Nat := (g.n + 63) / 64
/-- Tiles of the task (R106). -/
def GemmRec.tiles (g : GemmRec) : Nat := (g.m + 127) / 128 * g.tilesN
/-- Blocks of 32 along K. -/
def GemmRec.kBlocks (g : GemmRec) : Nat := (g.k + 31) / 32

/-- The five 6-bit and 8-bit MX formats. -/
def isMx8 (f : Nat) : Bool := f == 5 || f == 6 || f == 7 || f == 8 || f == 0xA

/-- K values per K-step of an operand pair and whether its accumulator is INT32, in one order (R89); 0 stands for the FP32 pair. -/
def pairRate1 (f g : Nat) : Option (Nat × Bool) :=
  if f = 0 ∧ g = 0 then some (0, false)
  else if (f = 1 ∨ f = 2) ∧ (g = 1 ∨ g = 2) then some (1, false)
  else if isMx8 f ∧ isMx8 g then some (2, false)
  else if (f = 9 ∨ f = 0xB) ∧ isMx8 g then some (2, false)
  else if f = 9 ∧ g = 9 then some (4, false)
  else if f = 0xB ∧ (g = 9 ∨ g = 4) then some (8, false)
  else if f = 3 ∧ (g = 3 ∨ g = 4) then some (2, true)
  else if f = 4 ∧ g = 4 then some (4, true)
  else none

/-- K values per K-step in either order (R89). -/
def pairRate (f g : Nat) : Option (Nat × Bool) := (pairRate1 f g).or (pairRate1 g f)

/-- OPD_BAD of GEMM's operands: LEN, vectors and the format rules of C (R191). -/
def gemmOpdBad (g : GemmRec) : Option Nat :=
  if opdBad g.a || g.a.len != g.k || g.a.vectors != g.m then some 0x40
  else if opdBad g.b || g.b.len != g.k || g.b.vectors != g.n then some 0x80
  else if g.usesC && (opdBad g.c || g.c.len != g.n || g.c.vectors != g.m || g.c.res != 0 ||
      (g.outWrite == 1 && g.c.fmt != g.outFmt) || ((g.outWrite == 2 || g.accIn) && g.c.fmt != 0)) then some 0xC0
  else none

/-- Fetch checks of a GEMM descriptor after OP_RSV, in the order of R214: code and DETAIL. -/
def gemmCheck (g : GemmRec) : Option (Nat × Nat) :=
  if !fmtOk g.a.fmt then some (0x0110, 0x40)
  else if !fmtOk g.b.fmt then some (0x0110, 0x80)
  else if g.usesC && !fmtOk g.c.fmt then some (0x0110, 0xC0)
  else if (pairRate g.a.fmt g.b.fmt).isNone then some (0x0111, 0)
  else if g.maskMode = 3 then some (0x0112, 0)
  else if g.maskMode ≠ 0 ∧ g.outWrite = 1 ∧ g.outFmt ∉ [0, 1, 2] then some (0x0113, 0)
  else if hintBad g.a.hint then some (0x0114, 0x40)
  else if hintBad g.b.hint then some (0x0114, 0x80)
  else if g.usesC && hintBad g.c.hint then some (0x0114, 0xC0)
  else if g.outWrite = 3 ∨ g.rowstat = 3 ∨ (g.outWrite = 1 ∧ !fmtOk g.outFmt) ∨ g.ctrl / 65536 ≠ 0 then some (0x0116, 0)
  else (gemmOpdBad g).map fun o => (0x0117, o)

/-! ## Residual planes as read (R74, R78) -/

/-- Round up to a multiple of 64. -/
def align64 (n : Nat) : Nat := (n + 63) / 64 * 64

/-- A failed check or access of a task: error code, address, DETAIL. -/
structure Bad where
  code   : Nat
  ma     : Nat
  detail : Nat
  deriving DecidableEq, Repr

/-- A failed access as a failed task. -/
def Fail.toBad (f : Fail) : Bad := ⟨f.code, f.ma, 0⟩

/-- The start check of a named residual plane (R78). -/
def resCheck (s : State) (m : Nat) (o : Opd) : Option Bad :=
  if o.res = 0 then none
  else match readMa s m none o.res 64 with
    | .error e => some e.toBad
    | .ok h =>
      let bpv := (o.len + 31) / 32
      if field h 0 1 != o.fmt || field h 0x0C 4 != o.vectors * bpv || field h 0x10 4 != bpv then some ⟨0x0122, 0, o.res⟩ else none

/-- Check the index list: strictly ascending, below TENSOR_BLOCKS (R78). The number of the first bad entry. -/
def indexBad (total : Nat) (i : Nat) (last : Option Nat) (l : List Nat) : Option Nat :=
  match l with
  | [] => none
  | x :: r => if decide (total ≤ x) || (match last with | some y => decide (x ≤ y) | none => false) then some i else indexBad total (i + 1) (some x) r

/-- Read a residual plane: its entries by block number (R74); RES_BAD names the entry (R78). -/
def readPlane (s : State) (m : Nat) (core : Option Nat) (o : Opd) : Except Bad (List ResEntry) :=
  if o.res = 0 then .ok []
  else do
    let h ← (readMa s m core o.res 64).mapError Fail.toBad
    let cap := field h 4 4
    let cnt := field h 8 4
    let idx ← (readMa s m core (o.res + 64) (4 * cnt)).mapError Fail.toBad
    let el := o.res + 64 + align64 (4 * cap)
    let eb ← (readMa s m core el (16 * cnt)).mapError Fail.toBad
    let sb ← (readMa s m core (el + 16 * cap) cnt).mapError Fail.toBad
    let nums := (upTo cnt).map fun j => field idx (4 * j) 4
    match indexBad (field h 0x0C 4) 0 none nums with
    | some j => .error ⟨0x0205, 0, j⟩
    | none => .ok ((upTo cnt).map fun j => ⟨nums.getD j 0, slice eb (16 * j) 16, field sb j 1⟩)

/-- The 32 values of a residual entry (MXFP4). -/
def ResEntry.elems (e : ResEntry) : List (Num × Nat) := (upTo 32).map fun i => readElem 9 (elemCode 9 e.bytes i) e.scale

/-- The residual of linear block `b`, none when it is not flagged. -/
def resOf (p : List ResEntry) (b : Nat) : Option (List (Num × Nat)) := (p.find? fun e => e.num == b).map ResEntry.elems

/-! ## Accumulation (R90, R91, R100 to R103, R115) -/

/-- hi of the three-pass split (R90). -/
def splitHi (x : Num) : Num :=
  match x with
  | .fin s m e => if bf16.overflows false m e then bf16.maxNum s else (toFloat bf16 false false x 0).val
  | x => x

/-- lo of the three-pass split (R90). -/
def splitLo (x : Num) : Num :=
  match x with
  | .fin .. => (toFloat bf16 false false (Num.add x (splitHi x).neg) 0).val
  | _ => Num.zero

/-- An accumulator: an FP32 value, or INT32. -/
structure Acc where
  val : Num
  st  : Nat
  n   : Nat
  deriving DecidableEq, Repr

/-- TILE_STATUS OVF (R118). -/
def tsOvf : Nat := 1
/-- TILE_STATUS SAT. -/
def tsSat : Nat := 2
/-- TILE_STATUS INF_OUT. -/
def tsInf : Nat := 4
/-- TILE_STATUS NAN_OUT. -/
def tsNan : Nat := 8
/-- TILE_STATUS SCALE_OVF. -/
def tsScale : Nat := 16
/-- TILE_STATUS RES_PASS. -/
def tsRes : Nat := 256

/-- One FP32 slot: the exact sum of the accumulator and the products, rounded once (R100, R102). -/
def slotFp (sr : Bool) (a : Acc) (products : List Num) : Acc :=
  let v := products.foldl Num.add a.val
  let c := toFloat fp32 sr true v a.n
  ⟨c.val, if c.st &&& stOvf != 0 then a.st ||| tsOvf else a.st, c.n⟩

/-- One INT32 slot: exact sum, clamped (R103). -/
def slotInt (a : Acc) (products : List Num) : Acc :=
  let v := products.foldl Num.add a.val
  let c := toInt (-2147483648) 2147483647 false v a.n
  ⟨c.val, if c.st &&& stOvf != 0 then a.st ||| tsSat else a.st, a.n⟩

/-- Products of two runs of values. -/
def products (x y : List Num) : List Num := (x.zip y).map fun p => Num.mul p.1 p.2

/-- What a cell does in one slot: add products in FP32 or INT32, or leave its accumulator unchanged (R90). -/
inductive Slot32 where
  | fp (l : List Num)
  | int (l : List Num)
  | hold
  deriving DecidableEq, Repr

/-- A cell's accumulator after one slot. -/
def runSlot (sr : Bool) (a : Acc) : Slot32 → Acc
  | .fp l => slotFp sr a l
  | .int l => slotInt a l
  | .hold => a

/-- The values of a K-step, with zeros in its unused positions (R106). -/
def padStep (rate : Nat) (l : List Num) : List Num := l ++ List.replicate (rate - l.length) Num.zero

/-- The slots of two runs of K values at a rate (R87, R91, R106). -/
def stepSlots (int : Bool) (rate : Nat) (x y : List Num) : List Slot32 :=
  ((chunksOf rate x.length x).zip (chunksOf rate y.length y)).map fun p =>
    let l := products (padStep rate p.1) (padStep rate p.2)
    if int then .int l else .fp l

/-- The three K-steps of an FP32 pair (R90): the first two leave the accumulator unchanged at a non-finite K value. -/
def splitSlots (x y : Num) : List Slot32 :=
  (if x.isFin && y.isFin then [.fp [Num.mul (splitLo x) (splitHi y)], .fp [Num.mul (splitHi x) (splitLo y)]] else [.hold, .hold]) ++
    [.fp [Num.mul (splitHi x) (splitHi y)]]

/-- K values per K-step of a residual sub-pass D × partner (R115); free where R89 lists no such pair (INT4 partner) [7]. -/
def subRate (partner : Nat) : Nat :=
  match pairRate 9 partner with
  | some (r, _) => if r = 0 then 1 else r
  | none => [1, 2, 4, 8].getD (Config.openValue 3 partner % 4) 1

/-- One row or column of an operand over K: its blocks of 32 values, and its residual blocks. -/
structure Line where
  blocks : List (List Num)
  resid  : List (Option (List Num))
  st     : Nat
  deriving DecidableEq, Repr

/-- 32 zeros. -/
def zeroBlock : List Num := List.replicate 32 Num.zero

/-- The slots of a sub-pass (R115, R116): 32 / rate of them, zeros beyond K. -/
def subSlots (rate : Nat) (d : Option (List Num)) (y : List Num) : List Slot32 :=
  stepSlots false rate (padStep 32 ((d.getD zeroBlock).take y.length)) (padStep 32 y)

/-- A cell's slots over K in their order (R115): for each block the primary K-steps, then the sub-passes that some row or column of the tile
flags. -/
def cellSlots (g : GemmRec) (rate : Nat) (int : Bool) (aFlag bFlag : List Bool) (x y : Line) : List Slot32 :=
  (upTo g.kBlocks).flatMap fun b =>
    let xa := x.blocks.getD b []
    let yb := y.blocks.getD b []
    (if rate = 0 then (xa.zip yb).flatMap fun p => splitSlots p.1 p.2 else stepSlots int rate xa yb) ++
    (if aFlag.getD b false then subSlots (subRate g.b.fmt) (x.resid.getD b none) yb else []) ++
    (if bFlag.getD b false then subSlots (subRate g.a.fmt) (y.resid.getD b none) xa else [])

/-- A cell's accumulator after its slots `from_` to `stop` − 1 (R100, R103, R104). -/
def accumulate (g : GemmRec) (rate : Nat) (int : Bool) (aFlag bFlag : List Bool) (from_ stop : Nat) (x y : Line) (a : Acc) : Acc :=
  (((cellSlots g rate int aFlag bFlag x y).drop from_).take (stop - from_)).foldl (runSlot g.accSr) a

/-- Slots of a pass: primary K-steps and sub-passes of 32 / rate slots (R93, R116). A K-step that would hold padding alone does not issue
[DESIGN CHOICE 52]. -/
def passSlots (g : GemmRec) (rate : Nat) (aFlag bFlag : List Bool) : Nat :=
  (if rate = 0 then 3 * g.k else (g.k + rate - 1) / rate) +
  (aFlag.filter id).length * (32 / subRate g.b.fmt) + (bFlag.filter id).length * (32 / subRate g.a.fmt)

/-! ## Row statistics (R111, R112) -/

/-- A FP32 exponential of x − m within the bound of R111 [6]; exp of −∞ is +0. -/
def expFree (n : Nat) (x m : Num) : Num :=
  match Num.add x m.neg with
  | .inf true => Num.zero
  | .fin s k e => sfuFinite 0x10 n s k e
  | d => d

/-- Flag ROW_EMPTY of a record (R113). -/
def rsEmpty : Nat := 1
/-- Flag ROW_INF. -/
def rsInf : Nat := 2
/-- Flag ROW_NAN. -/
def rsNan : Nat := 4

/-- −∞ in FP32. -/
def negInf32 : Nat := 0xFF800000

/-- The record a row starts from (R111). -/
def RowAcc.start : RowAcc := ⟨negInf32, 0, rsEmpty⟩

/-- Exponentials of a list of values over m, −∞ entries left out (R111); the draw after the last. -/
def expTerms (m : Num) (l : List Num) (n : Nat) : List Num × Nat :=
  match l with
  | [] => ([], n)
  | x :: r =>
    if x == .inf true then expTerms m r n
    else let (t, k) := expTerms m r (n + 1); (expFree n x m :: t, k)

/-- Update a row's statistics with further values (R111, R112): first matching line. -/
def rowUpdate (a : RowAcc) (xs : List Num) (n : Nat) : RowAcc × Nat :=
  let m := num32 a.m
  let s := num32 a.s
  if xs.any Num.isNan || m.isNan || s.isNan then (⟨0x7FC00000, 0x7FC00000, rsNan⟩, n)
  else
    let infs := (xs.filter fun x => x == .inf false).length
    if infs ≠ 0 ∨ m = .inf false then
      let base := if m = .inf false then s else Num.zero
      (⟨0x7F800000, bits32 (rn32 (Num.add base (Num.ofInt infs))), rsInf⟩, n)
    else
      let t := xs.foldl (fun b x => if Num.lt b x then x else b) (.inf true)
      if t = .inf true ∧ m = .inf true then (⟨negInf32, 0, rsEmpty⟩, n)
      else
        let m' := if Num.lt m t then t else m
        let (terms, n) := expTerms m' xs n
        let (sum, n) := sumFree terms n
        let old := if m = .inf true then Num.zero else rn32 (Num.mul s (expFree n m m'))
        (⟨bits32 m', bits32 (rn32 (Num.add old sum)), 0⟩, n + 1)

/-- Merge two partial records of a row (R112, R114), with draw `n` for the exponentials. -/
def mergeRows (a b : RowAcc) (n : Nat) : RowAcc :=
  let m1 := num32 a.m
  let m2 := num32 b.m
  let s1 := num32 a.s
  let s2 := num32 b.s
  if m1.isNan || m2.isNan || s1.isNan || s2.isNan then ⟨0x7FC00000, 0x7FC00000, rsNan⟩
  else if m1 = .inf false ∨ m2 = .inf false then
    let part (m s : Num) : Num := if m = .inf false then s else Num.zero
    ⟨0x7F800000, bits32 (rn32 (Num.add (part m1 s1) (part m2 s2))), rsInf⟩
  else if m1 = .inf true ∧ m2 = .inf true then RowAcc.start
  else
    let m := if Num.lt m1 m2 then m2 else m1
    let part (k : Nat) (x s : Num) : Num := if x = .inf true then Num.zero else rn32 (Num.mul s (expFree k x m))
    ⟨bits32 m, bits32 (rn32 (Num.add (part n m1 s1) (part (n + 1) m2 s2))), 0⟩

/-- Merge a row's partial records in a free order (R114). -/
def mergeAll (l : List RowAcc) (n : Nat) : RowAcc × Nat :=
  match shuffle l.length l n with
  | ([], k) => (RowAcc.start, k)
  | (x :: r, k) => r.foldl (fun y b => (mergeRows y.1 b y.2, y.2 + 2)) (x, k)

/-! ## A tile (R106 to R110) -/

/-- Vector and repetition of the `i`-th vector of a tensor (R190). -/
def Opd.at_ (o : Opd) (i : Nat) : Nat × Nat := (i % o.count, i / o.count)

/-- Read a whole vector of an operand with its residuals (R88, R115). -/
def readLine (s : State) (m : Nat) (core : Option Nat) (o : Opd) (plane : List ResEntry) (i : Nat) : Except Bad Line := do
  let (v, r) := o.at_ i
  let e ← (readVec s m core o v r 0 o.len).mapError Fail.toBad
  let bpv := (o.len + 31) / 32
  let vals := e.map Prod.fst
  let st := orAll (e.map fun x => x.2 ||| (if x.1.isNan then stNan else if x.1.isInf then stInf else 0))
  let res := (upTo bpv).map fun b => resOf plane (i * bpv + b)
  let rst := orAll (res.flatMap fun d => (d.getD []).map fun x => x.2 ||| if x.1.isNan then stNan else 0)
  .ok ⟨chunksOf 32 vals.length vals, res.map fun d => d.map fun l => l.map Prod.fst, st ||| rst⟩

/-- Read several vectors. -/
def readLines (s : State) (m : Nat) (core : Option Nat) (o : Opd) (plane : List ResEntry) (l : List Nat) : Except Bad (List Line) :=
  match l with
  | [] => .ok []
  | i :: r => do
    let x ← readLine s m core o plane i
    let y ← readLines s m core o plane r
    .ok (x :: y)

/-- Which K blocks some line of a tile flags (R115). -/
def flagsOf (ls : List Line) (blocks : Nat) : List Bool :=
  (upTo blocks).map fun b => ls.any fun l => (l.resid.getD b none).isSome

/-- FP32 value at an MA index, or the default when the vector is absent (R107). -/
def readFactor (s : State) (m : Nat) (core : Option Nat) (ma i : Nat) (bf : Bool) (d : Num) : Except Bad Num :=
  if ma = 0 then .ok d
  else if bf then do
    let b ← (readMa s m core (ma + 2 * i) 2).mapError Fail.toBad
    .ok (decFloat bf16 (leNat b))
  else do
    let b ← (readMa s m core (ma + 4 * i) 4).mapError Fail.toBad
    .ok (num32 (leNat b))

/-- The mask bit of an element: true when masked (R109). -/
def maskedAt (s : State) (m : Nat) (core : Option Nat) (g : GemmRec) (row col : Nat) : Except Bad Bool :=
  match g.maskMode with
  | 1 => .ok (decide ((col : Int) > row + g.maskOffset))
  | 2 => do
    let b ← (readMa s m core (g.maskMap + row * (8 * g.tilesN) + col / 8) 1).mapError Fail.toBad
    .ok (!(leNat b).testBit (col % 8))
  | _ => .ok false

/-- Multiply or add in FP32, marking a finite value that becomes infinite (R108). -/
def outOp (f : Num → Num → Num) (v w : Num) (st : Nat) : Num × Nat :=
  let r := rn32 (f v w)
  (r, if v.isFin && r.isInf then st ||| tsScale else st)

/-- Stages 1 to 4 of the output unit for one element (R108): value before statistics and TILE_STATUS. -/
def outStages (s : State) (m : Nat) (core : Option Nat) (g : GemmRec) (row col : Nat) (acc : Acc) : Except Bad (Num × Nat) := do
  let v := rn32 acc.val
  let st := acc.st ||| (if acc.val.isInf then tsInf else 0) ||| (if acc.val.isNan then tsNan else 0)
  let (v, st) := outOp Num.mul v (num32 g.scale) st
  let rs ← readFactor s m core g.rowScale row false (Num.ofInt 1)
  let (v, st) := if g.rowScale = 0 then (v, st) else outOp Num.mul v rs st
  let cs ← readFactor s m core g.colScale col false (Num.ofInt 1)
  let (v, st) := if g.colScale = 0 then (v, st) else outOp Num.mul v cs st
  let bs ← readFactor s m core g.bias col g.biasBf Num.zero
  let (v, st) := if g.bias = 0 then (v, st) else outOp Num.add v bs st
  let k ← maskedAt s m core g row col
  .ok (if k then .inf true else v, st)

/-- What a tile's work carries along. -/
structure TileRun where
  s     : State
  rows  : Tab RowAcc
  cvt   : Nat
  ts    : Nat
  n     : Nat
  deriving DecidableEq, Repr

/-- The initial accumulator of an element (R100, R105). A NaN or infinity read from C sets no input flag [DESIGN CHOICE 52]. -/
def accStart (s : State) (m : Nat) (core : Option Nat) (g : GemmRec) (int : Bool) (row col n : Nat) : Except Bad Acc :=
  if !g.accIn then .ok ⟨Num.zero, 0, n⟩
  else do
    let (v, r) := g.c.at_ row
    let b ← (readMa s m core (g.c.vecMa v r + 4 * col) 4).mapError Fail.toBad
    .ok ⟨if int then Num.ofInt (toSigned 32 (leNat b)) else num32 (leNat b), 0, n⟩

/-- The initial accumulators of a row of a tile, all loaded before the pass's first slot (R105). -/
def startRow (s : State) (m : Nat) (core : Option Nat) (g : GemmRec) (int : Bool) (row : Nat) (cols : List Nat) : Except Bad (List Acc) :=
  match cols with
  | [] => .ok []
  | col :: r => do
    let a ← accStart s m core g int row col 0
    let l ← startRow s m core g int row r
    .ok (a :: l)

/-- The initial accumulators of a tile. -/
def startTile (s : State) (m : Nat) (core : Option Nat) (g : GemmRec) (int : Bool) (cols : List Nat) (rows : List Nat) :
    Except Bad (List (List Acc)) :=
  match rows with
  | [] => .ok []
  | row :: r => do
    let a ← startRow s m core g int row cols
    let l ← startTile s m core g int cols r
    .ok (a :: l)

/-- An accumulator as it stands in a task context: its 32 bits and its status so far (R104). -/
def accBits (int : Bool) (a : Acc) : Nat × Nat :=
  (if int then (match a.val with | .fin sg k ex => ofSigned 32 (Num.unitsAt sg k ex 0) | _ => 0) else bits32 a.val, a.st)

/-- An accumulator reloaded from a task context. -/
def accOfBits (int : Bool) (x : Nat × Nat) : Acc := ⟨if int then Num.ofInt (toSigned 32 x.1) else num32 x.1, x.2, 0⟩

/-- The accumulators of a row after slots `from_` to `stop` − 1, with the next draw. -/
def accRow (g : GemmRec) (rate : Nat) (int : Bool) (aF bF : List Bool) (from_ stop : Nat) (x : Line) (cols : List (Line × Acc)) (n : Nat) :
    List Acc × Nat :=
  match cols with
  | [] => ([], n)
  | (y, a) :: r =>
    let b := accumulate g rate int aF bF from_ stop x y { a with n := n }
    let (rest, k) := accRow g rate int aF bF from_ stop x r b.n
    (b :: rest, k)

/-- The accumulators of a tile after slots `from_` to `stop` − 1, row by row. -/
def accTile (g : GemmRec) (rate : Nat) (int : Bool) (aF bF : List Bool) (from_ stop : Nat) (cols : List Line) (rows : List (Line × List Acc))
    (n : Nat) : List (List Acc) × Nat :=
  match rows with
  | [] => ([], n)
  | (x, l) :: r =>
    let (a, n) := accRow g rate int aF bF from_ stop x (cols.zip l) n
    let (rest, k) := accTile g rate int aF bF from_ stop cols r n
    (a :: rest, k)

/-- One row of a tile through stages 1 to 4: (raw, staged value, status) per column. -/
def tileRow (s : State) (m : Nat) (core : Option Nat) (g : GemmRec) (row : Nat) (cols : List (Nat × Acc)) : Except Bad (List (Num × Num × Nat)) :=
  match cols with
  | [] => .ok []
  | (col, a) :: r => do
    let (v, st) ← if g.outWrite = 2 then
        .ok (a.val, a.st ||| (if a.val.isInf then tsInf else 0) ||| (if a.val.isNan then tsNan else 0))
      else outStages s m core g row col a
    let rest ← tileRow s m core g row r
    .ok ((a.val, v, st) :: rest)

/-- The key of a row's partial record on a core (R114). -/
def rowKey (core row : Nat) : Nat := core * 2 ^ 32 + row

/-- The row's statistics on a core before this tile: its own partial record; a fresh one where another core has begun the row; otherwise what
ROWSTAT gives: the record in memory, or a fresh one (R111, R114). -/
def rowStart (s : State) (m core : Nat) (g : GemmRec) (rows : Tab RowAcc) (row : Nat) : Except Bad RowAcc :=
  match tfind rows (rowKey core row) with
  | some a => .ok a
  | none =>
    if rows.any fun e => e.1 % 2 ^ 32 == row then .ok RowAcc.start
    else if g.rowstat = 2 then do
      let core := some core
      let p := g.rowstatRec + 1152 * (row / 128)
      let i := row % 128
      let mv ← (readMa s m core (p + 4 * i) 4).mapError Fail.toBad
      let sv ← (readMa s m core (p + 512 + 4 * i) 4).mapError Fail.toBad
      let fl ← (readMa s m core (p + 1024 + i) 1).mapError Fail.toBad
      .ok ⟨leNat mv, leNat sv, leNat fl⟩
    else .ok RowAcc.start

/-- A row's record is read from memory before this tile (R111, R114). -/
def rowRead (g : GemmRec) (rows : Tab RowAcc) (row : Nat) : Bool :=
  g.rowstat == 2 && g.outWrite != 2 && !rows.any fun e => e.1 % 2 ^ 32 == row

/-- Finish a row of a tile: statistics, conversion, write (stages 5 to 7 of R108). -/
def finishRow (t : Task) (core : Nat) (g : GemmRec) (int : Bool) (q row : Nat) (els : List (Num × Num × Nat)) (x : TileRun) :
    Except Bad TileRun := do
  let s := x.s
  let (rows, n) ← if g.rowstat = 0 ∨ g.outWrite = 2 then .ok (x.rows, x.n) else do
    let a ← rowStart s t.moon core g x.rows row
    let (a, n) := rowUpdate a (els.map fun e => e.2.1) x.n
    .ok (tset x.rows (rowKey core row) a, n)
  let ts := x.ts ||| orAll (els.map fun e => e.2.2)
  let s := if rowRead g x.rows row then useRecord s t core g.rowstatRec row true else s
  let (v, r) := g.c.at_ row
  if g.outWrite = 0 then .ok { x with s := s, rows := rows, ts := ts, n := n }
  else if g.outWrite = 2 then
    let b := els.flatMap fun e => leBytes 4 (accBits int ⟨e.1, 0, 0⟩).1
    let ma := g.c.vecMa v r + 256 * q
    let s ← (coreWrite (useWrite s t (some core) ma b.length g.c.hint) t.moon t.ring t.seq core ma b).mapError Fail.toBad
    let vals := els.map fun e => e.1
    .ok ⟨noteWrite s t.moon g.c.tag vals vals, rows, x.cvt, ts, n⟩
  else
    let c := convVec g.outFmt g.outSr g.outProp (els.map fun e => e.2.1) n
    let ma := g.c.vecMa v r + 64 * q * fmtBits g.outFmt / 8
    let s ← (coreWrite (useWrite s t (some core) ma c.bytes.length g.c.hint) t.moon t.ring t.seq core ma c.bytes).mapError Fail.toBad
    let sm := g.c.scaleMa v r + 2 * q
    let s ← if fmtBlocked g.outFmt then
        (coreWrite (useWrite s t (some core) sm c.scales.length g.c.hint) t.moon t.ring t.seq core sm c.scales).mapError Fail.toBad else .ok s
    .ok ⟨countRun s t.moon g.c.tag g.outFmt (els.map fun e => e.2.1) c, rows, x.cvt ||| c.st, ts, c.n⟩

/-- The rows of a drained tile through the output unit, in order. -/
def tileRows (t : Task) (core : Nat) (g : GemmRec) (int : Bool) (q : Nat) (cols : List Nat) (rows : List (Nat × List Acc)) (x : TileRun) :
    Except Bad TileRun :=
  match rows with
  | [] => .ok x
  | (row, l) :: r => do
    let els ← tileRow x.s t.moon (some core) g row (cols.zip l)
    let x ← finishRow t core g int q row els x
    tileRows t core g int q cols r x

/-- What a pass computes with: its rows and columns with their lines, the flagged K blocks, the rate, the accumulators it starts or goes on from. -/
structure Pass where
  rate : Nat
  int  : Bool
  rows : List (Nat × Line)
  cols : List (Nat × Line)
  aF   : List Bool
  bF   : List Bool
  accs : List (List Acc)
  deriving DecidableEq, Repr

/-- Read what a pass of tile `w.unit` needs (R105, R106, R115); a pass that goes on takes its saved accumulators (R104). -/
def readPass (s : State) (t : Task) (core : Nat) (w : WorkUnit) : Except Bad Pass := do
  let g := parseGemm t.ext
  let p := w.unit / g.tilesN
  let q := w.unit % g.tilesN
  let (rate, int) := (pairRate g.a.fmt g.b.fmt).getD (1, false)
  let rowNums := (upTo (Nat.min 128 (g.m - 128 * p))).map fun i => 128 * p + i
  let colNums := (upTo (Nat.min 64 (g.n - 64 * q))).map fun j => 64 * q + j
  let pa ← readPlane s t.moon (some core) g.a
  let pb ← readPlane s t.moon (some core) g.b
  let la ← readLines s t.moon (some core) g.a pa rowNums
  let lb ← readLines s t.moon (some core) g.b pb colNums
  let aF := if g.a.res = 0 then [] else flagsOf la g.kBlocks
  let bF := if g.b.res = 0 then [] else flagsOf lb g.kBlocks
  let accs ← if w.slots = 0 then startTile s t.moon (some core) g int colNums rowNums else .ok (w.accs.map fun l => l.map (accOfBits int))
  .ok ⟨rate, int, rowNums.zip la, colNums.zip lb, aF, bF, accs⟩

/-- The accumulators of a pass after slots `from_` to `stop` − 1. -/
def Pass.run (x : Pass) (g : GemmRec) (from_ stop n : Nat) : List (List Acc) × Nat :=
  accTile g x.rate x.int x.aF x.bF from_ stop (x.cols.map Prod.snd) ((x.rows.map Prod.snd).zip x.accs) n

/-- A task has read a tensor's vectors with their scales, and its residual plane (R161). -/
def touchLines (s : State) (t : Task) (core : Option Nat) (o : Opd) (l : List Nat) : State :=
  l.foldl (fun s i => let (v, r) := o.at_ i; touchVec s t core o v r 0 o.len) (touchPlane s t core o)

/-- A pass has read its starting accumulators from C (R105, R161, R173). -/
def touchStart (s : State) (t : Task) (core q n : Nat) (rows : List Nat) : State :=
  let g := parseGemm t.ext
  rows.foldl (fun s i =>
    let (v, r) := g.c.at_ i
    noteDemand (useRead s t (some core) (g.c.vecMa v r + 256 * q) (4 * n) g.c.hint) t g.c.base
      ((r * g.c.count + v) * packedBytes g.c.fmt g.c.len + 256 * q + 4 * n)) s

/-- The output unit has read a tile's factors, bias and mask map, which carry no HINT (R107, R109, R161). -/
def touchFactors (s : State) (t : Task) (core q p nr nc : Nat) : State :=
  let g := parseGemm t.ext
  let use (s : State) (ma off n : Nat) : State := if ma = 0 then s else useRead s t (some core) (ma + off) n 0
  let w := if g.biasBf then 2 else 4
  let s := use (use (use s g.rowScale (512 * p) (4 * nr)) g.colScale (256 * q) (4 * nc)) g.bias (64 * w * q) (w * nc)
  if g.maskMode ≠ 2 then s
  else (upTo nr).foldl (fun s i => useRead s t (some core) (g.maskMap + (128 * p + i) * (8 * g.tilesN) + 8 * q) ((nc + 7) / 8) 0) s

/-- Slots of a segment of a pass (R104); bubbles are not among them [DESIGN CHOICE 52]. -/
def segmentSlots : Nat := 4096

/-- A tile computed and written: the state with its draws, the task with status and statistics, and the slots that the pass took since it
began or resumed. -/
structure TileDone where
  s     : State
  t     : Task
  slots : Nat
  deriving DecidableEq, Repr

/-- Run the rest of a tile's pass of a GEMM task on a core (module logical core number), and write the tile. -/
def runTile (s : State) (t : Task) (core : Nat) (w : WorkUnit) : Except Bad TileDone := do
  let g := parseGemm t.ext
  let q := w.unit % g.tilesN
  let x ← readPass s t core w
  let s := touchLines (touchLines s t (some core) g.a (x.rows.map Prod.fst)) t (some core) g.b (x.cols.map Prod.fst)
  let s := if w.slots = 0 && g.accIn then touchStart s t core q x.cols.length (x.rows.map Prod.fst) else s
  let s := if g.outWrite = 2 then s else touchFactors s t core q (w.unit / g.tilesN) x.rows.length x.cols.length
  let total := passSlots g x.rate x.aF x.bF
  let (accs, n) := x.run g w.slots total s.free
  let cvt := orAll (x.rows.map fun l => l.2.st) ||| orAll (x.cols.map fun l => l.2.st)
  let done := (x.rows.map Prod.fst).zip accs
  let (rows, n) := if g.c.reps ≤ 1 then (done, n) else shuffle done.length done n
  let y ← tileRows t core g x.int q (x.cols.map Prod.fst) rows ⟨s, t.rows, t.cvt ||| cvt, 0, n⟩
  let ts := y.ts ||| (if x.aF.any id || x.bF.any id then tsRes else 0)
  let bad := ts &&& (tsOvf + tsSat + tsNan) != 0
  .ok ⟨{ y.s with free := y.n },
       { t with rows := y.rows, cvt := y.cvt, kstatus := t.kstatus ||| ts, firstBad := if bad then Nat.min t.firstBad w.unit else t.firstBad },
       total - w.slots⟩

/-- A pre-emption reaches a pass (R104): it stops at a segment boundary, which one a free value says, its raw accumulators saved with the slots
it has run; none when its last segment runs, which completes first. -/
def stopPass (s : State) (t : Task) (core : Nat) (w : WorkUnit) : Option (State × WorkUnit × Nat) :=
  match readPass s t core w with
  | .error _ => none
  | .ok x =>
    let g := parseGemm t.ext
    let total := passSlots g x.rate x.aF x.bF
    let last := (total - 1) / segmentSlots
    let seg := w.slots / segmentSlots
    if last ≤ seg then none
    else
      let stop := segmentSlots * (seg + 1 + Config.pick s.free % (last - seg))
      let (accs, n) := x.run g w.slots stop (s.free + 1)
      some ({ s with free := n }, { w with susp := true, slots := stop, accs := accs.map fun l => l.map (accBits x.int) }, stop - w.slots)

/-! ## Final row-statistics records (R113, R114, R118) -/

/-- The record of row block `p` (R113). -/
def rowRecord (rows : Tab RowAcc) (total p : Nat) : Bytes :=
  let a := (upTo 128).map fun i => if 128 * p + i < total then tget rows RowAcc.start (128 * p + i) else RowAcc.start
  a.flatMap (fun x => leBytes 4 x.m) ++ a.flatMap (fun x => leBytes 4 x.s) ++ a.flatMap fun x => leBytes 1 (x.flags % 8)

/-- The rows of a task with their partial records merged (R114); the draw after the last. -/
def mergedRows (rows : Tab RowAcc) (total n : Nat) : Tab RowAcc × Nat :=
  (upTo total).foldl (fun x row =>
    let (a, n) := mergeAll ((rows.filter fun e => e.1 % 2 ^ 32 == row).map Prod.snd) x.2
    (tset x.1 row a, n)) ([], n)

/-- Write the records of row blocks 0 to n − 1 through a core. -/
def writeRowRecs (s : State) (t : Task) (core base total : Nat) (rows : Tab RowAcc) (blocks : List Nat) : Except Bad State :=
  match blocks with
  | [] => .ok s
  | p :: r => do
    let s := useWrite s t (some core) (base + 1152 * p) 1152 0
    let s ← (coreWrite s t.moon t.ring t.seq core (base + 1152 * p) (rowRecord rows total p)).mapError Fail.toBad
    writeRowRecs s t core base total rows r

/-- TILE_STATUS bits of the final records (R118). -/
def rowFlagsStatus (rows : Tab RowAcc) : Nat :=
  let f := orAll (rows.map fun e => e.2.flags)
  (if f.testBit 0 then 32 else 0) + (if f.testBit 1 then 64 else 0) + (if f.testBit 2 then 128 else 0)

/-- The final records of a GEMM task (R113, R114) and their TILE_STATUS bits (R118). OUT_WRITE = RAW skips the update of stage 5 (R108): under
ROWSTAT 2 the records stay as they are, under ROWSTAT 1 they are written as they start, m = −∞, s = 0 and FLAGS 0x01, and set no
ROW_EMPTY [DESIGN CHOICE 52]. -/
def finishRows (s : State) (t : Task) (core : Nat) : Except Bad (State × Nat) := do
  let g := parseGemm t.ext
  let blocks := upTo ((g.m + 127) / 128)
  if g.rowstat = 0 ∨ (g.outWrite = 2 ∧ g.rowstat = 2) then .ok (s, 0)
  else if g.outWrite = 2 then do
    let s ← writeRowRecs s t core g.rowstatRec g.m [] blocks
    .ok (s, 0)
  else do
    let (rows, n) := mergedRows t.rows g.m s.free
    let s ← writeRowRecs { s with free := n } t core g.rowstatRec g.m rows blocks
    .ok (s, rowFlagsStatus rows)

/-! ## The rows GEMM and GEMM_PASS_DONE -/

/-- Fail a task with a check's outcome, or leave it while a MIGRATING page holds the access (R169). -/
def failWith (s0 s : State) (t : Task) (b : Bad) : State := if b.code = 0 then s0 else failTask s t b.code b.ma b.detail

/-- Work of a task on moon-local core `j` fails the task (R216), or waits while a MIGRATING page holds the access (R169). -/
def failOn (s : State) (t : Task) (j : Nat) (b : Bad) : State := if b.code = 0 then s else failUnit s t j b.code b.ma b.detail

/-- Comet stops the streams of a task that is pre-empted (R175). -/
def cometPause (s : State) (m r : Nat) (q : W32) : State :=
  { s with mem := { s.mem with comet := s.mem.comet.filter fun c => !(c.moon == m && c.ring == r && c.seq == q) } }

/-- Comet stops the streams of a task that completes or fails (R175). -/
def cometClose (s : State) (m r : Nat) (q : W32) : State :=
  let s := cometPause s m r q
  { s with mem := { s.mem with demand := s.mem.demand.filter fun c => !(c.moon == m && c.ring == r && c.seq == q) } }

/-- GEMM (R106, R192, R200, R231): an eligible task starts on its first free core and takes every free core of its set. -/
def execGemm (m r : Nat) (s : State) : Res :=
  match readyTask s m r 1 with
  | none => .next s
  | some t =>
    if !startRuns s m r then .next s
    else if (descCores s m t.desc).isEmpty then
      let (s, t) := startTask s t .running
      .next (failTask s t 0x0120 0 0)
    else if !firstCore s t then .next s
    else
      let g := parseGemm t.ext
      let s0 := s
      let (s, t) := startTask s t .running
      match (resCheck s m g.a).or (resCheck s m g.b) with
      | some b => .next (failWith s0 s t b)
      | none =>
        let t := { t with units := g.tiles, left := g.tiles }
        .next (offerCores (putTask s t) m 1)

/-- Remember that a moon completed a GEMM task on cores since their last passing tests (R123). -/
def noteGemm (s : State) (m : Nat) (cores : List Nat) : State :=
  { s with cores := { s.cores with
    gemmMoons := cores.foldl (fun t c => tmod t [] c fun l => addNum l m) s.cores.gemmMoons
    faulty := s.cores.faulty.map fun e => if cores.contains (e.1 / 128) then (e.1, e.2.1, addNum e.2.2 m) else e } }

/-- Count a die's slots and bubbles (R99). -/
def countPass (s : State) (die slots : Nat) (b : Bubbles) : State :=
  let s := countSlots s 0x3030 die (slots + b.throttle + b.drain + b.feed)
  countSlots (countSlots (countSlots s 0x3031 die b.feed) 0x3032 die b.drain) 0x3033 die b.throttle

/-- The last tile of a GEMM task is written: the final records, and its engines finish. -/
def finishGemm (s : State) (t : Task) (core : Nat) : State :=
  match finishRows s t core with
  | .error e => failWith s s t e
  | .ok (s, st) => noteGemm (putTask s { t with phase := .done, kstatus := t.kstatus ||| st }) t.moon (t.seen.filterMap (moonCore s t.moon))

/-- GEMM_PASS_DONE (R93, R98, R106): the tile on a core is written; the core takes the next tile, or the task's engines finish.
The slots and bubbles of a pass that ends in an access error are not counted [DESIGN CHOICE 52]. -/
def execGemmPassDone (m r : Nat) (q : W32) (j : Nat) (b : Bubbles) (s : State) : Res :=
  match findTask s m r q with
  | none => .next s
  | some t =>
    match t.work.find? fun w => w.core == j && !w.susp, moonCore s m j with
    | some w, some c =>
      if t.phase != .running || t.desc.kind != 1 || !isUp s then .next s
      else
        match runTile s t c w with
        | .error e => .next (offerCores (if e.code = 0 then s else cometClose (failOn s t j e) m r q) m 1)
        | .ok d =>
          let t := { d.t with work := d.t.work.filter fun x => !(x.core == j), cores := delNum d.t.cores j, left := d.t.left - 1 }
          let s := countPass d.s (c / 128) d.slots b
          if t.result = 1 then .next (offerCores (endFailing s t j) m 1)
          else if t.left ≠ 0 then .next (offerCores (putTask s t) m 1)
          else .next (offerCores (cometClose (finishGemm s t c) m r q) m 1)
    | _, _ => .next s

end Sys2Proof.Machine
end

