-- ==== Sys2Proof/Machine/Chain.lean ====
section
/-! DEFINITION. CHAIN tasks: the chain record and its checks (R130 to R133), compute types (R125), operations (R134 to R137, R140 to R147),
streams (R138, R139), reductions and row statistics (R141 to R144), residual planes as written (R72 to R76), timing (R148), status (R150),
and the rows CHAIN and CHAIN_STRIP_DONE. -/

namespace Sys2Proof.Machine

/-! ## The record (R130, R131) -/

/-- A stage word (R131). -/
structure Stage where
  op    : Nat
  ctype : Nat
  a     : Nat
  b     : Nat
  c     : Nat
  mreg  : Nat
  men   : Bool
  mdst  : Nat
  sr    : Bool
  prop  : Bool
  imm   : Nat
  deriving DecidableEq, Repr

/-- Parse a stage word (R131). -/
def parseStage (w : Nat) : Stage :=
  { op := w % 64, ctype := w / 2 ^ 6 % 8, a := w / 2 ^ 9 % 16, b := w / 2 ^ 13 % 16, c := w / 2 ^ 17 % 16, mreg := w / 2 ^ 21 % 8,
    men := w.testBit 24, mdst := w / 2 ^ 25 % 8, sr := w.testBit 28, prop := w.testBit 29, imm := w / 2 ^ 32 % 2 ^ 32 }

/-- A chain record with its stream descriptors (R130). -/
structure ChainRec where
  nStages  : Nat
  nin      : Nat
  nout     : Nat
  flags    : Nat
  rowLen   : Nat
  rows     : Nat
  out0     : Nat
  out1     : Nat
  tau      : Nat
  rowrec   : Nat
  plane    : Nat
  stages   : List Stage
  ins      : List Opd
  outs     : List Opd
  deriving DecidableEq, Repr

/-- Parse a CHAIN task's extension block (R130). -/
def parseChain (e : Bytes) : ChainRec :=
  let k := field e 0 1
  let nin := field e 1 1
  let nout := field e 2 1
  { nStages := k, nin := nin, nout := nout, flags := field e 3 1, rowLen := field e 4 4, rows := field e 8 4, out0 := field e 0x0C 1,
    out1 := field e 0x0D 1, tau := field e 0x0E 2, rowrec := field e 0x10 8, plane := field e 0x18 8,
    stages := (upTo (Nat.min k 8)).map fun i => parseStage (field e (0x20 + 8 * i) 8),
    ins := (upTo (Nat.min nin 4)).map fun i => parseOpd e (0x80 + 0x40 * i),
    outs := (upTo (Nat.min nout 2)).map fun j => parseOpd e (0x80 + 0x40 * (Nat.min nin 4 + j)) }

/-- ROWSCALAR of input stream `i` (R130). -/
def ChainRec.rowScalar (c : ChainRec) (i : Nat) : Bool := c.flags.testBit i

/-- Source stage of output stream `j`. -/
def ChainRec.outSrc (c : ChainRec) (j : Nat) : Nat := if j = 0 then c.out0 else c.out1

/-- OUTn_RND is SR. -/
def ChainRec.outSr (c : ChainRec) (j : Nat) : Bool := c.flags.testBit (4 + 2 * j)

/-- OUTn_OVF is PROP. -/
def ChainRec.outProp (c : ChainRec) (j : Nat) : Bool := c.flags.testBit (5 + 2 * j)

/-! ## Operations (R125, R134) -/

/-- Classes of operation (R134). -/
inductive OpClass where
  | lane | laneF | sfu | reduction
  deriving DecidableEq, Repr

/-- The class of an operation code, none when reserved (R134). -/
def opClass (op : Nat) : Option OpClass :=
  if op = 0x0D then some .laneF
  else if op ≤ 0x0E then some .lane
  else if 0x10 ≤ op ∧ op ≤ 0x1B then some .sfu
  else if op ∈ [0x20, 0x21, 0x22, 0x24] then some .laneF
  else if op ∈ [0x23, 0x25, 0x28, 0x29, 0x30] then some .sfu
  else if 0x31 ≤ op ∧ op ≤ 0x35 then some .reduction
  else none

/-- ROWSTAT. -/
def Stage.isRowstat (t : Stage) : Bool := t.op == 0x30
/-- A reduction stage (R141). -/
def Stage.isReduction (t : Stage) : Bool := opClass t.op == some .reduction
/-- NORM or LOGNORM. -/
def Stage.isNorm (t : Stage) : Bool := t.op == 0x28 || t.op == 0x29

/-- A class accepts a compute type (R134). -/
def ctypeOk (c : OpClass) (ct : Nat) : Bool :=
  match c with
  | .lane => decide (ct ≤ 6)
  | .laneF => decide (ct ≤ 4)
  | .sfu => decide (ct ≤ 2)
  | .reduction => decide (ct ≤ 4)

/-- Bits of a compute type (R125). -/
def ctypeBits (ct : Nat) : Nat := if ct = 0 ∨ ct = 5 then 32 else if ct = 1 ∨ ct = 2 then 16 else 8

/-- VLMAX: by the widest compute type among the stages (R128). -/
def vlMax (l : List Stage) : Nat := 16384 / (l.foldl (fun b t => Nat.max b (ctypeBits t.ctype)) 8)

/-- The operation reads SRC_A. -/
def readsA (op : Nat) : Bool := op != 0x0C
/-- The operation reads SRC_B (R134). -/
def readsB (op : Nat) : Bool :=
  [0x01, 0x02, 0x03, 0x04, 0x05, 0x06, 0x0A, 0x0B, 0x0E, 0x20, 0x21, 0x22, 0x23, 0x24, 0x25, 0x28, 0x29, 0x35].contains op
/-- The operation reads SRC_C (R134). -/
def readsC (op : Nat) : Bool := [0x04, 0x0E, 0x24, 0x25].contains op

/-- The selectors a stage uses, marked when it is SRC_B of NORM or LOGNORM (R132). -/
def Stage.used (t : Stage) : List (Nat × Bool) :=
  (if readsA t.op then [(t.a, false)] else []) ++ (if readsB t.op then [(t.b, t.isNorm)] else []) ++
  (if readsC t.op then [(t.c, false)] else [])

/-! ## Checks (R133) -/

/-- CHAIN_LEN (R133); OUT1_SRC is looked at where NOUT is 2 [DESIGN CHOICE 53]. -/
def chainLenBad (c : ChainRec) (lines : Nat) : Bool :=
  !(decide (1 ≤ c.nStages ∧ c.nStages ≤ 8) && decide (c.nin ≤ 4) && decide (1 ≤ c.nout ∧ c.nout ≤ 2) &&
    decide (1 ≤ c.rowLen ∧ c.rowLen ≤ 2 ^ 24) && decide (1 ≤ c.rows ∧ c.rows ≤ 2 ^ 24) && decide (c.out0 < c.nStages) &&
    (c.nout == 1 || decide (c.out1 < c.nStages)) && lines == 2 + c.nin + c.nout)

/-- A stage selector names a ROWSTAT stage. -/
def namesRowstat (c : ChainRec) (sel : Nat) : Bool :=
  decide (4 ≤ sel ∧ sel ≤ 0xA) && ((c.stages[sel - 4]?).map Stage.isRowstat).getD false

/-- CHAIN_SRC for one used selector of stage `i` (R133). -/
def selBad (c : ChainRec) (i sel : Nat) (norm : Bool) : Bool :=
  (decide (sel ≤ 3) && decide (c.nin ≤ sel)) || (decide (4 ≤ sel ∧ sel ≤ 0xA) && decide (i ≤ sel - 4)) ||
  (decide (sel = 0xC ∨ sel = 0xD) && c.rowrec == 0) || (norm && !(namesRowstat c sel || sel == 0xC)) || (!norm && namesRowstat c sel)

/-- The first stage that fails a test, with its number. -/
def firstStage (c : ChainRec) (f : Nat → Stage → Bool) : Option Nat :=
  (upTo c.stages.length).find? fun i => ((c.stages[i]?).map (f i)).getD false

/-- ROW_SPAN: a stage reads a reduction or ROWSTAT of a row longer than one strip (R133). -/
def spanBad (c : ChainRec) (t : Stage) : Bool :=
  decide (vlMax c.stages < c.rowLen) && t.used.any fun u => decide (4 ≤ u.1 ∧ u.1 ≤ 0xA) &&
    ((c.stages[u.1 - 4]?).map fun x => x.isRowstat || x.isReduction).getD false

/-- The output stream is fed by ROWSTAT (R142). -/
def fedByRowstat (c : ChainRec) (j : Nat) : Bool := ((c.stages[c.outSrc j]?).map Stage.isRowstat).getD false

/-- The output stream is fed by a reduction (R141). -/
def fedByReduction (c : ChainRec) (j : Nat) : Bool := ((c.stages[c.outSrc j]?).map Stage.isReduction).getD false

/-- OPD_BAD of an input stream (R191). -/
def chainInBad (c : ChainRec) (i : Nat) (o : Opd) : Bool :=
  opdBad o || o.len != (if c.rowScalar i then 1 else c.rowLen) || o.vectors != c.rows

/-- OPD_BAD of an output stream (R191); ROWSTAT's ignores FMT, SCALE, STRIDE and SSTRIDE (R142). -/
def chainOutBad (c : ChainRec) (j : Nat) (o : Opd) : Bool :=
  if fedByRowstat c j then o.len != 1 || o.vectors != c.rows || o.res != 0
  else opdBad o || o.len != (if fedByReduction c j then 1 else c.rowLen) || o.vectors != c.rows || o.res != 0

/-- Streams with their extension offsets: inputs, then outputs not fed by ROWSTAT. -/
def chainStreams (c : ChainRec) : List (Nat × Opd) :=
  ((upTo c.ins.length).zip c.ins).map (fun x => (0x80 + 0x40 * x.1, x.2)) ++
  (((upTo c.outs.length).zip c.outs).filter fun x => !fedByRowstat c x.1).map fun x => (0x80 + 0x40 * (c.nin + x.1), x.2)

/-- The first operand that fails OPD_BAD. -/
def chainOpdBad (c : ChainRec) : Option Nat :=
  match ((upTo c.ins.length).zip c.ins).find? fun x => chainInBad c x.1 x.2 with
  | some x => some (0x80 + 0x40 * x.1)
  | none => (((upTo c.outs.length).zip c.outs).find? fun x => chainOutBad c x.1 x.2).map fun x => 0x80 + 0x40 * (c.nin + x.1)

/-- τ is negative or NaN while a plane is asked for (R72, R133). Whether −0 is negative the spec does not say: it compares as 0 and is accepted
[DESIGN CHOICE 51]. -/
def threshBad (c : ChainRec) : Bool :=
  c.plane != 0 && (match decFloat bf16 c.tau with
    | .nan => true
    | .inf s => s
    | .fin s m _ => s && m != 0)

/-- Fetch checks of a CHAIN descriptor after OP_RSV in R214's order, CHAIN_LEN before the checks of stream descriptors (R133, R215):
code and DETAIL. A record to which CHAIN_LEN and RES_THRESH_BAD both apply reports RES_THRESH_BAD, which R214 lists first, and a plane on an O0
that ROWSTAT feeds is CHAIN_RES whatever the ignored FMT holds [DESIGN CHOICE 53]. -/
def chainCheck (c : ChainRec) (lines : Nat) : Option (Nat × Nat) :=
  if chainLenBad c lines then (if threshBad c then some (0x0115, 0) else some (0x0118, 0))
  else
    match (chainStreams c).find? fun x => !fmtOk x.2.fmt with
    | some x => some (0x0110, x.1)
    | none =>
    match (chainStreams c).find? fun x => hintBad x.2.hint with
    | some x => some (0x0114, x.1)
    | none =>
    if threshBad c then some (0x0115, 0)
    else
    match chainOpdBad c with
    | some o => some (0x0117, o)
    | none =>
    match firstStage c fun _ t => (opClass t.op).isNone || (t.op == 0x0A && !t.men) with
    | some i => some (0x0119, i)
    | none =>
    match firstStage c fun _ t => !((opClass t.op).map fun k => ctypeOk k t.ctype).getD false with
    | some i => some (0x011A, i)
    | none =>
    match firstStage c fun i t => t.used.any fun u => selBad c i u.1 u.2 with
    | some i => some (0x011B, i)
    | none =>
    match firstStage c fun _ t => spanBad c t with
    | some i => some (0x011C, i)
    | none =>
    if c.plane ≠ 0 ∧ (fedByRowstat c 0 ∨ ((c.outs.head?).map Opd.fmt).getD 0 ∉ [0x09, 0x0B]) then some (0x011D, 0) else none

/-! ## Compute types and conversions (R125, R135, R139) -/

/-- The float of a compute type, none for the integers. -/
def ctFloat (ct : Nat) : Option FloatFmt :=
  match ct with
  | 0 => some fp32
  | 1 => some bf16
  | 2 => some fp16
  | 3 => some e4m3
  | 4 => some e5m2
  | _ => none

/-- Convert or round a value into a compute type (R64 to R66, R135). -/
def toCtype (ct : Nat) (sr prop : Bool) (v : Num) (n : Nat) : Conv :=
  match ctFloat ct with
  | some f => toFloat f sr prop v n
  | none => if ct = 5 then toInt (-2147483648) 2147483647 sr v n else toInt (-128) 127 sr v n

/-- A run of values, its collected status and the next draw. -/
structure Run where
  vals : List Num
  st   : Nat
  n    : Nat
  deriving DecidableEq, Repr

/-- Convert a stage's source values (R135): status and random bits only at live positions (R136); masked ones round under RN. -/
def convSrc (t : Stage) (live : List Bool) (l : List (Num × Nat)) (n : Nat) : Run :=
  match live, l with
  | b :: bs, x :: xs =>
    if b then
      let c := toCtype t.ctype t.sr t.prop x.1 n
      let r := convSrc t bs xs c.n
      ⟨c.val :: r.vals, x.2 ||| c.st ||| r.st, r.n⟩
    else
      let r := convSrc t bs xs n
      ⟨(toCtype t.ctype false t.prop x.1 n).val :: r.vals, r.st, r.n⟩
  | _, _ => ⟨[], 0, n⟩

/-! ## VEC_STATUS (R150) -/

/-- ROW_EMPTY. -/
def vsEmpty : Nat := 1
/-- ROW_INF. -/
def vsInf : Nat := 2
/-- ROW_NAN. -/
def vsNan : Nat := 4
/-- DOMAIN. -/
def vsDomain : Nat := 8
/-- DIV0. -/
def vsDiv0 : Nat := 16
/-- REC_MISMATCH. -/
def vsMismatch : Nat := 32
/-- ARITH_OVF. -/
def vsOvf : Nat := 64

/-- The exact quotient of two values as a number with a sticky last bit, exact enough for one rounding under R60. -/
def divNum (a b : Num) : Num :=
  match a, b with
  | .nan, _ => .nan
  | _, .nan => .nan
  | .inf _, .inf _ => .nan
  | .inf s, b => .inf (s != b.sign)
  | .fin s _ _, .inf t => .fin (s != t) 0 0
  | .fin s m e, .fin t k f =>
    if k = 0 then (if m = 0 then .nan else .inf (s != t))
    else
      let sh := 128 + Nat.log2 k
      let q := m * 2 ^ sh / k
      .fin (s != t) (if m * 2 ^ sh % k = 0 then 2 * q else 2 * q + 1) (e - f - sh - 1)

/-- MIN: NaN if either is NaN; −0 below +0 (R135). -/
def minNum (a b : Num) : Num :=
  if a.isNan || b.isNan then .nan
  else if Num.lt a b then a else if Num.lt b a then b else if a.sign then a else b

/-- MAX: NaN if either is NaN; −0 below +0 (R135). -/
def maxNum (a b : Num) : Num :=
  if a.isNan || b.isNan then .nan
  else if Num.lt a b then b else if Num.lt b a then a else if a.sign then b else a

/-- The exact result of a lane operation (R134). -/
def laneOp (op : Nat) (a b c : Num) : Num :=
  match op with
  | 0x01 => Num.add a b
  | 0x02 => Num.add a b.neg
  | 0x03 => Num.mul a b
  | 0x04 => Num.add (Num.mul a b) c
  | 0x05 => minNum a b
  | 0x06 => maxNum a b
  | 0x07 => a.abs
  | 0x08 => a.neg
  | 0x0E => minNum (maxNum a b) c
  | 0x20 => Num.mul (Num.mul b a) (Num.add (Num.ofInt 1) a.neg)
  | 0x21 => Num.mul b (Num.add (Num.ofInt 1) (Num.mul a a).neg)
  | 0x22 => if a.isNan then .nan else if Num.lt Num.zero a then b else Num.zero
  | 0x24 => Num.mul a (Num.add b c.neg)
  | _ => a

/-- The truth of a comparison (R137). -/
def cmpTrue (sel : Nat) (a b : Num) : Bool :=
  let ord := !a.isNan && !b.isNan
  match sel % 8 with
  | 0 => ord && Num.cmp a b == 0
  | 1 => !(ord && Num.cmp a b == 0)
  | 2 => Num.lt a b
  | 3 => Num.le a b
  | 4 => Num.lt b a
  | 5 => Num.le b a
  | 6 => ord
  | _ => !ord

/-- MOP on two bits (R137). -/
def mopBit (sel : Nat) (a b : Bool) : Bool :=
  match sel % 4 with
  | 0 => a && b
  | 1 => a || b
  | 2 => a != b
  | _ => a && !b

/-- An SFU function of one argument (R140): FP32 value and VEC_STATUS, the special inputs first. -/
def sfuValue (op n : Nat) (a : Num) : Num × Nat :=
  match a with
  | .nan => (.nan, 0)
  | .inf s =>
    (match op with
     | 0x10 => (if s then Num.zero else .inf false, 0)
     | 0x11 => (if s then Num.zero else .inf false, 0)
     | 0x12 => if s then (.nan, vsDomain) else (.inf false, 0)
     | 0x13 => if s then (.nan, vsDomain) else (.inf false, 0)
     | 0x14 => (.fin s 0 0, 0)
     | 0x15 => if s then (.nan, vsDomain) else (.inf false, 0)
     | 0x16 => if s then (.nan, vsDomain) else (Num.zero, 0)
     | 0x17 => (if s then Num.zero else Num.ofInt 1, 0)
     | 0x18 => (Num.ofInt (if s then -1 else 1), 0)
     | 0x19 => if s then (rn32 (fixNum (-((root8Fix / 2 : Nat) : Int))), 0) else (.inf false, 0)
     | _ => (.nan, vsDomain))
  | .fin s m e =>
    if m = 0 ∧ (op = 0x12 ∨ op = 0x13) then (.inf true, vsDiv0)
    else if m = 0 ∧ (op = 0x14 ∨ op = 0x16) then (.inf s, vsDiv0)
    else if m = 0 ∧ op = 0x15 then (a, 0)
    else if s = true ∧ m ≠ 0 ∧ (op = 0x12 ∨ op = 0x13 ∨ op = 0x15 ∨ op = 0x16) then (.nan, vsDomain)
    else if (op = 0x1A ∨ op = 0x1B) ∧ Num.lt (.fin false 1 20) a.abs then (.nan, vsDomain)
    else (sfuFinite op n s m e, 0)

/-! ## Stages over a strip (R135 to R137, R140 to R147) -/

/-- What a row's strips carry: stage results of this strip, masks, reduction terms, status words, the next draw. -/
structure Eval where
  res   : List (List Num)
  masks : List (List Bool)
  terms : Tab (List Nat)
  cvt   : Nat
  vst   : Nat
  n     : Nat
  deriving DecidableEq, Repr

/-- The inputs of a strip: the streams' values with read statuses, the ROWREC entry, position and length, whether the row ends here. -/
structure StripIn where
  ins  : List (List (Num × Nat))
  rowst  : RowAcc
  pos  : Nat
  vl   : Nat
  last : Bool
  deriving DecidableEq, Repr

/-- The values a selector names (R132), with read statuses. -/
def source (x : StripIn) (t : Stage) (e : Eval) (sel : Nat) : List (Num × Nat) :=
  if sel ≤ 3 then x.ins.getD sel []
  else if sel ≤ 0xA then (e.res.getD (sel - 4) []).map fun v => (v, 0)
  else
    match sel with
    | 0xB => List.replicate x.vl (if (ctFloat t.ctype).isSome then num32 t.imm else Num.ofInt (toSigned 32 t.imm), 0)
    | 0xC => List.replicate x.vl (num32 x.rowst.m, 0)
    | 0xD => List.replicate x.vl (num32 x.rowst.s, 0)
    | 0xE => (upTo x.vl).map fun i => (Num.ofInt ((x.pos + i : Nat) : Int), 0)
    | _ => List.replicate x.vl (Num.zero, 0)

/-- Round the exact results of live positions into the compute type; masked positions keep a (R135, R136). A result beyond the type sets
ARITH_OVF alone, one below it nothing [DESIGN CHOICE 53]. -/
def roundRes (t : Stage) (live : List Bool) (exact a : List Num) (n : Nat) : Run :=
  match live, exact, a with
  | b :: bs, x :: xs, y :: ys =>
    if b then
      let c := toCtype t.ctype t.sr t.prop x n
      let r := roundRes t bs xs ys c.n
      ⟨c.val :: r.vals, (if c.st &&& stOvf != 0 then vsOvf else 0) ||| r.st, r.n⟩
    else
      let r := roundRes t bs xs ys n
      ⟨y :: r.vals, r.st, r.n⟩
  | _, _, _ => ⟨[], 0, n⟩

/-- SFU results at live positions: FP32 values, VEC_STATUS, next draw. DGELU_OI at a = −∞, where R146 gives no limit, returns b as at +∞
[DESIGN CHOICE 53]. -/
def sfuList (op : Nat) (live : List Bool) (a b c : List Num) (n : Nat) : Run :=
  match live, a, b, c with
  | l :: ls, x :: xs, y :: ys, z :: zs =>
    if l then
      let (v, st) :=
        if op = 0x23 then
          if x.isNan || y.isNan then (Num.nan, 0)
          else if x == .inf false then (y, 0)
          else match x with
            | .fin s m e => (dgeluNum s m e y, 0)
            | _ => (y, 0)
        else if op = 0x25 then
          let ex := match x with
            | .inf true => Num.zero
            | .inf false => .inf false
            | .nan => .nan
            | .fin s m e => sfuFinite 0x10 n s m e
          (Num.add y (Num.mul ex z).neg, 0)
        else sfuValue op n x
      let r := sfuList op ls xs ys zs (n + 1)
      ⟨v :: r.vals, st ||| r.st, r.n⟩
    else
      let r := sfuList op ls xs ys zs n
      ⟨Num.zero :: r.vals, r.st, r.n⟩
  | _, _, _, _ => ⟨[], 0, n⟩

/-- ln s within the bound of LOG [6]; a record may hold a negative s, for which R143 states no value: it is free there, with ROW_INF too
[DESIGN CHOICE 7]. -/
def lnFree (n : Nat) (s : Num) : Num :=
  match s with
  | .fin sg m e => if m = 0 then .inf true else if sg then num32 (Config.openValue 27 (bits32 s)) else sfuFinite 0x12 n false m e
  | .inf true => num32 (Config.openValue 27 (bits32 s))
  | d => d

/-- One element of NORM or LOGNORM over a row's statistics (R143, R144): value before rounding, VEC_STATUS. Whether an element exceeds m is told
by its value as read (`raw`), so that rounding it into CTYPE (`x`) makes no mismatch [DESIGN CHOICE 53]. -/
def normOne (log : Bool) (rowst : RowAcc) (live : Bool) (raw x : Num) (n : Nat) : Num × Nat :=
  let m := num32 rowst.m
  let s := num32 rowst.s
  let zero : Num := if log then .inf true else Num.zero
  if rowst.flags.testBit 2 || m.isNan || s.isNan then (.nan, vsNan)
  else if rowst.flags.testBit 1 || m == .inf false then
    if !live then (zero, vsInf)
    else if x.isNan then (.nan, vsInf + vsNan + vsMismatch)
    else if x == .inf false then (if log then (lnFree n s).neg else divNum (Num.ofInt 1) s, vsInf)
    else (zero, vsInf)
  else if rowst.flags.testBit 0 || m == .inf true then
    if !live || x == .inf true then (zero, vsEmpty)
    else if x.isNan then (.nan, vsEmpty + vsNan + vsMismatch)
    else (zero, vsEmpty + vsMismatch)
  else if !Num.lt Num.zero s then
    if live then (.nan, vsNan + vsMismatch) else (zero, 0)
  else if !live || x == .inf true then (zero, 0)
  else if x.isNan then (.nan, vsNan + vsMismatch)
  else
    let st := if Num.lt m raw then vsMismatch else 0
    if x == .inf false then (.inf false, st) else
    if log then (Num.add (Num.add x m.neg) (lnFree n s).neg, st) else (divNum (expFree n x m) s, st)

/-- NORM or LOGNORM over a strip, rounded into the compute type. -/
def normList (t : Stage) (rowst : RowAcc) (live : List Bool) (raw l : List Num) (n : Nat) : Run :=
  match live, raw, l with
  | b :: bs, y :: ys, x :: xs =>
    let (v, st) := normOne (t.op == 0x29) rowst b y x n
    let c := toCtype t.ctype t.sr t.prop v (n + 1)
    let r := normList t rowst bs ys xs c.n
    ⟨c.val :: r.vals, st ||| (if c.st &&& stOvf != 0 then vsOvf else 0) ||| r.st, r.n⟩
  | _, _, _ => ⟨[], 0, n⟩

/-- RAND at live positions, a at masked ones (R147). -/
def randList (t : Stage) (live : List Bool) (a : List Num) (n : Nat) : Run :=
  match live, a with
  | b :: bs, x :: xs =>
    if b then
      let c := toCtype t.ctype t.sr t.prop (.fin false (Config.random n % 2 ^ 24) (-24)) (n + 1)
      let r := randList t bs xs c.n
      ⟨c.val :: r.vals, (if c.st &&& stOvf != 0 then vsOvf else 0) ||| r.st, r.n⟩
    else
      let r := randList t bs xs n
      ⟨x :: r.vals, r.st, r.n⟩
  | _, _ => ⟨[], 0, n⟩

/-- A term of a reduction as a word: its FP32 bits, or a finite value that FP32 cannot hold as 2^32 (positive) or 2^32 + 1 (negative), so that the
stage's policy acts on the overflow (R135). RSUMSQ and RDOT round each product to FP32 under RN before they accumulate it [DESIGN CHOICE 53]. -/
def termBits (v : Num) : Nat :=
  match rn32 v with
  | .inf s => if v.isInf then bits32 (.inf s) else 2 ^ 32 + (if s then 1 else 0)
  | w => bits32 w

/-- The value of a term word. -/
def termNum (b : Nat) : Num := if b < 2 ^ 32 then num32 b else hugeNum (b == 2 ^ 32 + 1)

/-- The terms that a reduction takes from a strip's live positions (R141). -/
def redTerms (op : Nat) (live : List Bool) (a b : List Num) : List Nat :=
  match live, a, b with
  | l :: ls, x :: xs, y :: ys =>
    if l then termBits (if op = 0x34 then Num.mul x x else if op = 0x35 then Num.mul x y else x) :: redTerms op ls xs ys
    else redTerms op ls xs ys
  | _, _, _ => []

/-- Products beyond FP32's range stand among a reduction's terms (R135). -/
def termOvf (terms : List Nat) : Bool := terms.any fun b => decide (2 ^ 32 ≤ b)

/-- A reduction's value over its terms (R141): FP32 under RN in a free order; finite terms whose sum overflows follow R135. A product that overflows
counts as an infinity where it meets one of the other sign: such a sum is NaN [DESIGN CHOICE 53]. -/
def redValue (op : Nat) (terms : List Nat) (n : Nat) : Num × Nat :=
  let l := terms.map termNum
  let plus := l.any fun v => v == .inf false || v == hugeNum false
  let minus := l.any fun v => v == .inf true || v == hugeNum true
  if l.any Num.isNan then (.nan, n)
  else if op = 0x32 then (l.foldl maxNum (.inf true), n)
  else if op = 0x33 then (l.foldl minNum (.inf false), n)
  else if plus && minus then (.nan, n)
  else if l.any Num.isInf then (.inf minus, n)
  else if plus || minus then (hugeNum minus, n)
  else if l.isEmpty then (Num.zero, n)
  else
    let (v, n) := sumFree l n
    match v with
    | .inf s => (hugeNum s, n)
    | v => (v, n)

/-- The record of a ROWSTAT stage's terms entry. -/
def accOf (l : List Nat) : RowAcc := ⟨l.getD 0 negInf32, l.getD 1 0, l.getD 2 rsEmpty⟩

/-- The terms entry of a record. -/
def accList (a : RowAcc) : List Nat := [a.m, a.s, a.flags]

/-- VEC_STATUS of a row's flags. -/
def rowVst (flags : Nat) : Nat := flags % 8

/-- One stage over a strip (R135 to R137). A reduction's row value is rounded into a narrower CTYPE under the stage's RND, the accumulation under RN
[DESIGN CHOICE 53]. REC_MISMATCH arises only against ROWREC's records: an in-chain ROWSTAT sets none, and disagreeing values over it follow R144's
formulas [DESIGN CHOICE 53]. -/
def evalStage (x : StripIn) (e : Eval) (i : Nat) (t : Stage) : Eval :=
  let all := List.replicate x.vl true
  let live := if t.men && t.op != 0x0A then e.masks.getD t.mreg all else all
  let zeros := List.replicate x.vl (Num.zero, 0)
  let src (use : Bool) (sel : Nat) := if use then source x t e sel else zeros
  if t.op = 0x0C then
    let bits := (e.masks.getD (t.imm / 4 % 8) all).zip (e.masks.getD (t.imm / 32 % 8) all) |>.map fun p => mopBit t.imm p.1 p.2
    let new := ((live.zip bits).zip (e.masks.getD t.mdst all)).map fun p => if p.1.1 then p.1.2 else p.2
    { e with masks := e.masks.set t.mdst new, res := e.res ++ [new.map fun b => Num.ofInt (if b then 1 else 0)] }
  else if t.op = 0x0D then
    let a := convSrc t (all.map fun _ => false) (src true t.a) e.n
    let r := randList t live a.vals e.n
    { e with res := e.res ++ [r.vals], vst := e.vst ||| r.st, n := r.n }
  else
    let a := convSrc t live (src true t.a) e.n
    let b := if t.isNorm then Run.mk (zeros.map Prod.fst) 0 a.n else convSrc t live (src (readsB t.op) t.b) a.n
    let c := convSrc t live (src (readsC t.op) t.c) b.n
    let cvt := e.cvt ||| a.st ||| b.st ||| c.st
    match opClass t.op with
    | some .reduction =>
      let terms := tget e.terms [] i ++ redTerms t.op live a.vals b.vals
      if x.last then
        let (v, n) := redValue t.op terms c.n
        let k := toCtype t.ctype t.sr t.prop v n
        { e with res := e.res ++ [List.replicate x.vl k.val], terms := tset e.terms i terms, cvt := cvt,
                 vst := e.vst ||| (if k.st &&& stOvf != 0 || (v.isNan && termOvf terms) then vsOvf else 0), n := k.n }
      else { e with res := e.res ++ [List.replicate x.vl Num.zero], terms := tset e.terms i terms, cvt := cvt, n := c.n }
    | some .sfu =>
      if t.op = 0x30 then
        let xs := (live.zip a.vals).filterMap fun p => if p.1 && p.2 != .inf true then some p.2 else none
        let (r, n) := rowUpdate (accOf (tget e.terms [] i)) xs c.n
        { e with res := e.res ++ [List.replicate x.vl Num.zero], terms := tset e.terms i (accList r), cvt := cvt,
                 vst := e.vst ||| (if x.last then rowVst r.flags else 0), n := n }
      else if t.isNorm then
        let rowst := if t.b = 0xC then x.rowst else accOf (tget e.terms [] (t.b - 4))
        let r := normList t rowst live ((src true t.a).map Prod.fst) a.vals c.n
        let st := if t.b = 0xC then r.st else r.st &&& (127 - vsMismatch)
        { e with res := e.res ++ [r.vals], cvt := cvt, vst := e.vst ||| st, n := r.n }
      else
        let r := sfuList t.op live a.vals b.vals c.vals c.n
        let k := roundRes t live r.vals a.vals r.n
        { e with res := e.res ++ [k.vals], cvt := cvt, vst := e.vst ||| r.st ||| k.st, n := k.n }
    | _ =>
      if t.op = 0x0B then
        let bits := (a.vals.zip b.vals).map fun p => cmpTrue t.imm p.1 p.2
        let new := ((live.zip bits).zip (e.masks.getD t.mdst all)).map fun p => if p.1.1 then p.1.2 else p.2
        { e with masks := e.masks.set t.mdst new, cvt := cvt, n := c.n, res := e.res ++ [new.map fun b => Num.ofInt (if b then 1 else 0)] }
      else if t.op = 0x0A then
        let sel := e.masks.getD t.mreg all
        { e with res := e.res ++ [((sel.zip (a.vals.zip b.vals)).map fun p => if p.1 then p.2.1 else p.2.2)], cvt := cvt, n := c.n }
      else
        let exact := (a.vals.zip (b.vals.zip c.vals)).map fun p => laneOp t.op p.1 p.2.1 p.2.2
        let k := roundRes t live exact a.vals c.n
        { e with res := e.res ++ [k.vals], cvt := cvt, vst := e.vst ||| k.st, n := k.n }

/-- Every stage of a strip in order. -/
def evalStages (x : StripIn) (e : Eval) (i : Nat) (l : List Stage) : Eval :=
  match l with
  | [] => e
  | t :: r => evalStages x (evalStage x e i t) (i + 1) r

/-! ## Streams (R138, R142) -/

/-- Residual values added to a strip that starts at `pos`: rounded to FP32 under RN (R77); a sum beyond FP32 goes on as an infinity, without
a flag of its own [DESIGN CHOICE 51]. -/
def addResid (o : Opd) (plane : List ResEntry) (vec pos i : Nat) (l : List (Num × Nat)) : List (Num × Nat) :=
  match l with
  | [] => []
  | x :: r =>
    let p := pos + i
    let bpv := (o.len + 31) / 32
    let v := match resOf plane (vec * bpv + p / 32) with
      | some d => let y := d.getD (p % 32) (Num.zero, 0); (rn32 (Num.add x.1 y.1), x.2 ||| y.2)
      | none => (rn32 x.1, x.2)
    v :: addResid o plane vec pos (i + 1) r

/-- Read the strip of each input stream (R128, R130): ROWSCALAR streams give their element to every lane. -/
def readStreams (s : State) (m : Nat) (core : Option Nat) (c : ChainRec) (row pos vl i : Nat) (l : List Opd) :
    Except Bad (List (List (Num × Nat))) :=
  match l with
  | [] => .ok []
  | o :: r => do
    let (v, q) := o.at_ row
    let plane ← readPlane s m core o
    let x ← if c.rowScalar i then do
        let y ← (readVec s m core o v q 0 1).mapError Fail.toBad
        let y := if o.res = 0 then y else addResid o plane row 0 0 y
        .ok (List.replicate vl (y.headD (Num.zero, 0)))
      else do
        let y ← (readVec s m core o v q pos vl).mapError Fail.toBad
        .ok (if o.res = 0 then y else addResid o plane row pos 0 y)
    let xs ← readStreams s m core c row pos vl (i + 1) r
    .ok (x :: xs)

/-- A strip of each input stream has been read with its scales and residual planes (R161). -/
def touchStreams (s : State) (t : Task) (core : Nat) (c : ChainRec) (row pos vl i : Nat) (l : List Opd) : State :=
  match l with
  | [] => s
  | o :: r =>
    let (v, q) := o.at_ row
    let (p, k) := if c.rowScalar i then (0, 1) else (pos, vl)
    touchStreams (touchVec (touchPlane s t (some core) o) t (some core) o v q p k) t core c row pos vl (i + 1) r

/-- A chain reads the ROWREC record (R132, R143). -/
def readsRowrec (c : ChainRec) : Bool := c.rowrec != 0 && c.stages.any (fun t => t.used.any fun u => u.1 == 0xC || u.1 == 0xD)

/-- The ROWREC entry of a row, read only when a stage selects it (R132, R143). -/
def readRowrec (s : State) (m : Nat) (core : Option Nat) (c : ChainRec) (row : Nat) : Except Bad RowAcc :=
  if readsRowrec c then do
    let p := c.rowrec + 1152 * (row / 128)
    let i := row % 128
    let a ← (readMa s m core (p + 4 * i) 4).mapError Fail.toBad
    let b ← (readMa s m core (p + 512 + 4 * i) 4).mapError Fail.toBad
    let f ← (readMa s m core (p + 1024 + i) 1).mapError Fail.toBad
    .ok ⟨leNat a, leNat b, leNat f⟩
  else .ok RowAcc.start

/-- Insert a residual entry in ascending block order (R75). -/
def insRes (l : List ResEntry) (e : ResEntry) : List ResEntry :=
  match l with
  | [] => [e]
  | x :: r => if e.num < x.num then e :: x :: r else x :: insRes r e

/-- The flagged blocks among a run of blocks from linear block `num` (R72, R73): entries, the status of the residuals' own conversions (R70), which
R79's counters other than RES leave out [DESIGN CHOICE 51], and the next draw. -/
def flagBlocks (f : Nat) (sr : Bool) (tau : Num) (num : Nat) (bl : List (List Num)) (n : Nat) (n0 : Nat) : List ResEntry × Nat × Nat :=
  match bl with
  | [] => ([], 0, n)
  | b :: r =>
    let k := toBlock f sr b n0
    let hit := resFlagged f k b tau n
    let d := resBlock f sr k b (n + 1)
    let (rest, st, n2) := flagBlocks f sr tau (num + 1) r (if hit then d.n else n + 1) k.n
    if hit then (⟨num, packBytes 9 d.codes, d.scale⟩ :: rest, d.st ||| orAll d.sts ||| st, n2) else (rest, st, n2)

/-- What writing a strip changes. -/
structure StripOut where
  s     : State
  cvt   : Nat
  res   : List ResEntry
  flagged : Nat
  n     : Nat
  deriving DecidableEq, Repr

/-- Write a run of values of output stream `j` from element `pos` of a row (R138): conversion, counting, residual blocks of O0. -/
def writeRun (t : Task) (core : Nat) (c : ChainRec) (j : Nat) (o : Opd) (row pos : Nat) (vals : List Num) (x : StripOut) :
    Except Bad StripOut := do
  let (v, q) := o.at_ row
  let k := convVec o.fmt (c.outSr j) (c.outProp j) vals x.n
  let ma := o.vecMa v q + pos * fmtBits o.fmt / 8
  let s ← (coreWrite (useWrite x.s t (some core) ma k.bytes.length o.hint) t.moon t.ring t.seq core ma k.bytes).mapError Fail.toBad
  let sm := o.scaleMa v q + pos / 32
  let s ← if fmtBlocked o.fmt then
      (coreWrite (useWrite s t (some core) sm k.scales.length o.hint) t.moon t.ring t.seq core sm k.scales).mapError Fail.toBad else .ok s
  let s := countRun s t.moon o.tag o.fmt vals k
  if j = 0 ∧ c.plane ≠ 0 then
    let bpv := (o.len + 31) / 32
    let (es, st, n) := flagBlocks o.fmt (c.outSr 0) (decFloat bf16 c.tau) (row * bpv + pos / 32) (chunksOf 32 vals.length vals) k.n x.n
    .ok ⟨s, x.cvt ||| k.st ||| st, es.foldl insRes x.res, x.flagged + es.length, n⟩
  else .ok ⟨s, x.cvt ||| k.st, x.res, x.flagged, k.n⟩

/-- Write the entry of a ROWSTAT-fed output stream (R142). -/
def writeEntry (t : Task) (core base row : Nat) (a : RowAcc) (s : State) : Except Bad State := do
  let p := base + 1152 * (row / 128)
  let i := row % 128
  let s := useRecord s t core base row false
  let s ← (coreWrite s t.moon t.ring t.seq core (p + 4 * i) (leBytes 4 a.m)).mapError Fail.toBad
  let s ← (coreWrite s t.moon t.ring t.seq core (p + 512 + 4 * i) (leBytes 4 a.s)).mapError Fail.toBad
  (coreWrite s t.moon t.ring t.seq core (p + 1024 + i) (leBytes 1 (a.flags % 8))).mapError Fail.toBad

/-- Write every output stream of a strip: strips as they come, per-row outputs at the row's end (R128). -/
def writeOuts (t : Task) (core : Nat) (c : ChainRec) (row : Nat) (x : StripIn) (e : Eval) (j : Nat) (l : List Opd) (y : StripOut) :
    Except Bad StripOut :=
  match l with
  | [] => .ok y
  | o :: r => do
    let vals := e.res.getD (c.outSrc j) []
    let y ← if fedByRowstat c j then
        (if x.last then do
          let s ← writeEntry t core o.base row (accOf (tget e.terms [] (c.outSrc j))) y.s
          .ok { y with s := s }
        else .ok y)
      else if fedByReduction c j then
        (if x.last then writeRun t core c j o row 0 (vals.take 1) y else .ok y)
      else writeRun t core c j o row x.pos vals y
    writeOuts t core c row x e (j + 1) r y

/-- A strip computed and written: the task's accumulated words and the row's terms. -/
structure StripDone where
  s     : State
  t     : Task
  terms : Tab (List Nat)
  vl    : Nat
  last  : Bool
  deriving DecidableEq, Repr

/-- An element as a compute type holds it in a vector register (R125), little-endian. -/
def ctBytes (ct : Nat) (v : Num) : Bytes :=
  match ctFloat ct with
  | some f => leBytes (ctypeBits ct / 8) (encFloat f v)
  | none =>
    match v with
    | .fin s m e => let k := (roundAt false m e 0 0).1; leBytes (ctypeBits ct / 8) (if s then 2 ^ ctypeBits ct - k else k)
    | _ => leBytes (ctypeBits ct / 8) 0

/-- Write a strip into a core's vector register of 2 KiB, one element after the other. -/
def setVreg (s : State) (core reg : Nat) (b : Bytes) : State :=
  { s with cores := { s.cores with vregs := memPut s.cores.vregs (core * 65536 + reg % 32 * 2048) ((upTo 2048).zip b) } }

/-- The compute type in which a stream's strip stands in its register: that of the first stage that names the stream; where none does, the widest of
the stages, whose strip VLMAX bounds to one register. -/
def streamCtype (c : ChainRec) (i : Nat) : Nat := 
  ((c.stages.find? fun t => t.used.any fun u => u.1 == i).map Stage.ctype).getD
    (c.stages.foldl (fun b t => if ctypeBits b < ctypeBits t.ctype then t.ctype else b) ((c.stages.map Stage.ctype).headD 0))

/-- A strip's stream values and stage results stand in the core's vector registers (R126): stream i in register i, stage k's result in register
4 + k [DESIGN CHOICE 53]; a ROWSTAT stage has no value in a register. -/
def placeStrip (s : State) (core : Nat) (c : ChainRec) (x : StripIn) (res : List (List Num)) : State :=
  let s := ((upTo x.ins.length).zip x.ins).foldl (fun s e =>
    let ct := streamCtype c e.1
    setVreg s core e.1 (e.2.flatMap fun v => ctBytes ct (toCtype ct false false v.1 0).val)) s
  ((upTo res.length).zip (c.stages.zip res)).foldl (fun s e =>
    if e.2.1.isRowstat then s else setVreg s core (4 + e.1) (e.2.2.flatMap (ctBytes e.2.1.ctype))) s

/-- Run one strip of a row on a core (R128). -/
def runStrip (s : State) (t : Task) (core : Nat) (w : WorkUnit) : Except Bad StripDone := do
  let c := parseChain t.ext
  let vl := Nat.min (c.rowLen - w.pos) (vlMax c.stages)
  let last := decide (c.rowLen ≤ w.pos + vl)
  let ins ← readStreams s t.moon (some core) c w.unit w.pos vl 0 c.ins
  let rowst ← readRowrec s t.moon (some core) c w.unit
  let s := touchStreams s t core c w.unit w.pos vl 0 c.ins
  let s := if readsRowrec c then useRecord s t core c.rowrec w.unit true else s
  let x : StripIn := ⟨ins, rowst, w.pos, vl, last⟩
  let e := evalStages x ⟨[], List.replicate 8 (List.replicate vl true), w.terms, 0, 0, s.free⟩ 0 c.stages
  let s := placeStrip s core c x e.res
  let y ← writeOuts t core c w.unit x e 0 c.outs ⟨s, e.cvt, t.resBlocks, t.flagged, e.n⟩
  let bad := e.vst &&& (vsNan + vsMismatch) != 0
  .ok ⟨{ y.s with free := y.n },
       { t with cvt := t.cvt ||| y.cvt, kstatus := t.kstatus ||| e.vst, resBlocks := y.res, flagged := y.flagged,
                firstBad := if bad then Nat.min t.firstBad w.unit else t.firstBad },
       e.terms, vl, last⟩

/-! ## Residual planes as written (R74 to R76) -/

/-- The header of a plane (R74). -/
def planeHeader (fmt cap count blocks bpv tau flagged : Nat) : Bytes :=
  padTo (leBytes 1 fmt ++ leBytes 1 0 ++ leBytes 2 1 ++ leBytes 4 cap ++ leBytes 4 count ++ leBytes 4 blocks ++ leBytes 4 bpv ++
    leBytes 2 tau ++ leBytes 2 0 ++ leBytes 4 flagged) 64

/-- The start check of a plane to write (R76): RES_CAP_BAD. -/
def capCheck (s : State) (m plane : Nat) : Option Bad :=
  if plane = 0 then none
  else match readMa s m none plane 64 with
    | .error e => some e.toBad
    | .ok h => if field h 4 4 = 0 ∨ 2 ^ 24 < field h 4 4 then some ⟨0x0121, 0, plane⟩ else none

/-- Write a plane from the flagged blocks in ascending order (R74 to R76) through `wr`: the state, and RES_FULL when CAPACITY was reached. -/
def writePlane (wr : State → Nat → Bytes → Except Fail State) (s : State) (m : Nat) (o : Opd) (plane tau : Nat) (blocks : List ResEntry) :
    Except Bad (State × Nat × Nat) := do
  let h ← (readMa s m none plane 64).mapError Fail.toBad
  let cap := field h 4 4
  let l := blocks.take cap
  let bpv := (o.len + 31) / 32
  let el := plane + 64 + align64 (4 * cap)
  let s ← (wr s (plane + 64) (l.flatMap fun e => leBytes 4 e.num)).mapError Fail.toBad
  let s ← (wr s el (l.flatMap fun e => e.bytes)).mapError Fail.toBad
  let s ← (wr s (el + 16 * cap) (l.map fun e => BitVec.ofNat 8 e.scale)).mapError Fail.toBad
  let s ← (wr s plane (planeHeader o.fmt cap l.length (o.vectors * bpv) bpv tau blocks.length)).mapError Fail.toBad
  .ok (s, l.length, if cap < blocks.length then stResFull else 0)

/-! ## Timing (R148) -/

/-- Lane-work cycles of a strip. -/
def laneCycles (c : ChainRec) : Nat :=
  (c.stages.map fun t => match opClass t.op with
    | some .sfu => 0
    | _ => if t.op = 0x0D ∧ ctypeBits t.ctype = 8 then 2 else 1).foldl (· + ·) 0

/-- SFU-work cycles of a strip of `vl` elements. -/
def sfuCycles (c : ChainRec) (vl : Nat) : Nat := (c.stages.filter fun t => opClass t.op == some .sfu).length * ((vl + 127) / 128)

/-- Least cycles between strip starts for given input and output cycles. -/
def stripInterval (c : ChainRec) (vl input output : Nat) : Nat :=
  Nat.max (Nat.max (laneCycles c) (sfuCycles c vl)) (Nat.max input (output + if c.plane = 0 then 0 else 1))

/-! ## The rows CHAIN and CHAIN_STRIP_DONE -/

/-- The start checks of the planes that inputs name, in stream order (R78). -/
def resChecks (s : State) (m : Nat) (l : List Opd) : Option Bad := l.foldl (fun r o => r.or (resCheck s m o)) none

/-- CHAIN (R128, R130, R200, R231): an eligible task starts on its first free core; rows go to its cores in ascending order. -/
def execChain (m r : Nat) (s : State) : Res :=
  match readyTask s m r 2 with
  | none => .next s
  | some t =>
    if !startRuns s m r then .next s
    else if (descCores s m t.desc).isEmpty then
      let (s, t) := startTask s t .running
      .next (failTask s t 0x0120 0 0)
    else if !firstCore s t then .next s
    else
      let c := parseChain t.ext
      let s0 := s
      let (s, t) := startTask s t .running
      match (capCheck s m c.plane).or (resChecks s m c.ins) with
      | some b => .next (failWith s0 s t b)
      | none =>
        let t := { t with units := c.rows, left := c.rows }
        .next (offerCores (putTask s t) m 2)

/-- The end of a CHAIN task's engines: its residual plane is merged and written (R75, R76). -/
def finishChain (s : State) (t : Task) (core : Nat) : Except Bad State := do
  let c := parseChain t.ext
  let fin := { t with phase := .done }
  match c.plane, c.outs.head? with
  | 0, _ => .ok (putTask s fin)
  | p, some o =>
    let (s, n, st) ← writePlane (fun s a b => coreWrite (useWrite s t (some core) a b.length o.hint) t.moon t.ring t.seq core a b) s t.moon o p c.tau t.resBlocks
    .ok (putTask (countFmt s t.moon o.tag o.fmt [] n) { fin with cvt := t.cvt ||| st })
  | _, none => .ok (putTask s fin)

/-- CHAIN_STRIP_DONE (R128, R148): the strip's stages end and its outputs are written; the next strip, the next row, or the task's end. -/
def execChainStripDone (m r : Nat) (q : W32) (j : Nat) (s : State) : Res :=
  match findTask s m r q with
  | none => .next s
  | some t =>
    match t.work.find? fun w => w.core == j && !w.susp, moonCore s m j with
    | some w, some c =>
      if t.phase != .running || t.desc.kind != 2 || !isUp s then .next s
      else
        match runStrip s t c w with
        | .error e => .next (offerCores (if e.code = 0 then s else cometClose (failOn s t j e) m r q) m 2)
        | .ok d =>
          if !d.last then
            .next (putTask d.s { d.t with work := d.t.work.map fun x =>
              if x.core == j then { x with pos := x.pos + d.vl, terms := d.terms } else x })
          else
            let t := { d.t with work := d.t.work.filter fun x => !(x.core == j), cores := delNum d.t.cores j, left := d.t.left - 1 }
            if t.result = 1 then .next (offerCores (endFailing d.s t j) m 2)
            else if t.left ≠ 0 then .next (offerCores (putTask d.s t) m 2)
            else match finishChain d.s t c with
              | .error e => .next (offerCores (cometClose (failWith d.s d.s t e) m r q) m 2)
              | .ok s => .next (offerCores (cometClose s m r q) m 2)
    | _, _ => .next s

end Sys2Proof.Machine
end

