-- ==== Sys2Proof/Machine/Move.lean ====
section
/-! DEFINITION. MOVE tasks: the record and its checks (R191, R193, R350, R352, R367, R370), move engines (R189), COPY and FILL, TRANSCODE
(R350, R351), SEND as cut into chunks (R366), and the rows MOVE_COPY, MOVE_FILL, TRANSCODE, SEND. -/

namespace Sys2Proof.Machine

/-! ## The record (R193, R350, R367) -/

/-- A MOVE record (R193). -/
structure MoveRec where
  mode : Nat
  srcHost : Nat
  dstHost : Nat
  fill : Nat
  args : Bytes
  src  : Opd
  dst  : Opd
  deriving DecidableEq, Repr

/-- Parse a MOVE task's extension block (R193). -/
def parseMove (e : Bytes) : MoveRec :=
  { mode := field e 0 1, srcHost := field e 1 1, dstHost := field e 2 1, fill := field e 4 4, args := slice e 0x20 32,
    src := parseOpd e 0x40, dst := parseOpd e 0x80 }

/-- TRANSCODE arguments (R350). -/
structure TransArgs where
  sr     : Bool
  prop   : Bool
  trans  : Bool
  resEn  : Bool
  axis   : Nat
  shards : Nat
  tau    : Nat
  table  : Nat
  deriving DecidableEq, Repr

/-- Parse MODE_ARGS of a TRANSCODE (R350). -/
def parseTrans (a : Bytes) : TransArgs :=
  let f := field a 0 1
  { sr := f.testBit 0, prop := f.testBit 1, trans := f.testBit 2, resEn := f.testBit 3, axis := field a 1 1, shards := field a 2 1,
    tau := field a 4 2, table := field a 8 8 }

/-- TRANSCODE_ARGS (R352) of MODE_ARGS: a reserved field or value, or RES_EN where it may not stand; a τ of −0 is not negative [DESIGN CHOICE 51]. -/
def transArgsBad (a : Bytes) (dstFmt : Nat) : Bool :=
  let t := parseTrans a
  field a 0 1 ≥ 16 || t.axis > 1 || t.shards < 1 || t.shards > 64 || field a 3 1 != 0 || field a 6 2 != 0 || field a 0x10 16 != 0 ||
  (t.resEn && (!(dstFmt == 0x09 || dstFmt == 0x0B) ||
    (match decFloat bf16 t.tau with
     | .nan => true
     | .inf s => s
     | .fin s m _ => s && m != 0)))

/-- Vectors of the logical output (R351). -/
def outVectors (t : TransArgs) (src : Opd) : Nat := if t.trans then src.len else src.vectors

/-- Elements of a vector of the logical output (R351). -/
def outLen (t : TransArgs) (src : Opd) : Nat := if t.trans then src.vectors else src.len

/-- SHARD_BAD (R352). -/
def shardBad (t : TransArgs) (src dst : Opd) : Bool :=
  (if t.axis = 0 then t.shards * dst.count != outVectors t src || dst.len != outLen t src
   else t.shards * dst.len != outLen t src || dst.count != outVectors t src) ||
  (t.table == 0 && decide (1 < t.shards)) || (t.axis == 1 && fmtBlocked dst.fmt && dst.len % 32 != 0)

/-- A route table entry (R368): its 8 bytes, destination fabric and moon, port mask. -/
structure Route where
  raw    : Nat
  fabric : Nat
  moon   : Nat
  mask   : Nat
  deriving DecidableEq, Repr

/-- Entry `r` of a moon's LINK_ROUTES (R368). -/
def routeOf (s : State) (m r : Nat) : Route :=
  let b := (getMoon s m).routes
  ⟨field b (8 * r) 8, field b (8 * r) 2, field b (8 * r + 2) 1, field b (8 * r + 4) 4⟩

/-- SEND arguments (R367). -/
structure SendArgs where
  route : Nat
  sig   : Bool
  obj   : Nat
  add   : Int
  deriving DecidableEq, Repr

/-- Parse MODE_ARGS of a SEND (R367). -/
def parseSend (a : Bytes) : SendArgs :=
  { route := field a 0 2, sig := (field a 2 1).testBit 0, obj := field a 4 2, add := toSigned 32 (field a 8 4) }

/-- SEND_ARGS (R370): a reserved field, ROUTE above 63, or an empty route entry. -/
def sendArgsBad (s : State) (m : Nat) (a : Bytes) : Bool :=
  field a 2 1 > 1 || field a 3 1 != 0 || field a 6 2 != 0 || field a 0x0C 20 != 0 || field a 0 2 > 63 || (routeOf s m (field a 0 2)).raw == 0

/-- OPD_BAD of a MOVE (R190, R191): FILL ignores the source, COPY and SEND want equal shapes. -/
def moveOpdBad (r : MoveRec) : Option Nat :=
  if r.mode ≠ 1 ∧ opdBad r.src then some 0x40
  else if opdBad r.dst then some 0x80
  else if (r.mode = 0 ∨ r.mode = 3) ∧ (r.src.len ≠ r.dst.len ∨ r.src.vectors ≠ r.dst.vectors ∨ r.src.fmt ≠ r.dst.fmt) then some 0x80
  else none

/-- OP_RSV of a MOVE (R214): a reserved MODE or space. -/
def moveOpRsv (r : MoveRec) : Bool := decide (3 < r.mode) || decide (1 < r.srcHost) || decide (1 < r.dstHost)

/-- TRANSCODE_ARGS (R352) of a shard table: a reserved KIND or a reserved byte of an entry. A table that cannot be read is left to the task's
start. -/
def shardRsv (s : State) (m : Nat) (t : TransArgs) : Bool :=
  t.table != 0 && match readMa s m none t.table (32 * t.shards) with
    | .ok b => (upTo t.shards).any fun i => decide (1 < field b (32 * i) 1) || field b (32 * i + 1) 1 != 0 || field b (32 * i + 4) 4 != 0
    | .error _ => false

/-- Fetch checks of a MOVE descriptor after OP_RSV, in the order of R214: code and DETAIL. -/
def moveCheck (s : State) (m : Nat) (r : MoveRec) : Option (Nat × Nat) :=
  if r.mode ≠ 1 ∧ !fmtOk r.src.fmt then some (0x0110, 0x40)
  else if !fmtOk r.dst.fmt then some (0x0110, 0x80)
  else if r.mode ≠ 1 ∧ hintBad r.src.hint then some (0x0114, 0x40)
  else if hintBad r.dst.hint then some (0x0114, 0x80)
  else
    match moveOpdBad r with
    | some o => some (0x0117, o)
    | none =>
      if r.mode = 3 ∧ sendArgsBad s m r.args then some (0x0301, 0)
      else if r.mode = 2 then
        let t := parseTrans r.args
        if transArgsBad r.args r.dst.fmt || shardRsv s m t then some (0x0340, 0)
        else if shardBad t r.src r.dst then some (0x0341, 0)
        else if t.trans && decide (1 < r.src.count2) then some (0x0342, 0)
        else none
      else none

/-! ## Planes of a tensor as bytes -/

/-- Vector and repetition numbers of a tensor in order. -/
def Opd.index (o : Opd) : List (Nat × Nat) := (upTo o.vectors).map o.at_

/-- Scale bytes of one vector, 0 for plain formats. -/
def Opd.scaleBytes (o : Opd) : Nat := if fmtBlocked o.fmt then o.packedScales else 0

/-- Bytes of one vector with its scales. -/
def Opd.vecBytes (o : Opd) : Nat := packedBytes o.fmt o.len + o.scaleBytes

/-- Read the element and scale bytes of every vector from moon memory. -/
def readPlanes (s : State) (m : Nat) (o : Opd) (l : List (Nat × Nat)) : Except Bad (List (Bytes × Bytes)) :=
  match l with
  | [] => .ok []
  | (v, r) :: rest => do
    let e ← (readMa s m none (o.vecMa v r) (packedBytes o.fmt o.len)).mapError Fail.toBad
    let c ← (readMa s m none (o.scaleMa v r) o.scaleBytes).mapError Fail.toBad
    let t ← readPlanes s m o rest
    .ok ((e, c) :: t)

/-- The same from bytes that host memory returned, vector by vector, elements then scales. -/
def hostPlanes (o : Opd) (l : List (Nat × Nat)) (b : Bytes) : List (Bytes × Bytes) :=
  match l with
  | [] => []
  | _ :: rest =>
    let k := packedBytes o.fmt o.len
    (slice b 0 k, slice b k o.scaleBytes) :: hostPlanes o rest (b.drop o.vecBytes)

/-- A move engine has read a whole tensor in moon memory (R161, R173). -/
def touchSource (s : State) (t : Task) (o : Opd) : State := o.index.foldl (fun s x => touchVec s t none o x.1 x.2 0 o.len) s

/-- A move engine is to write a whole tensor in moon memory (R161, R162). -/
def touchDest (s : State) (t : Task) (o : Opd) : State :=
  o.index.foldl (fun s x =>
    let s := useWrite s t none (o.vecMa x.1 x.2) (packedBytes o.fmt o.len) o.hint
    if o.scaleBytes = 0 then s else useWrite s t none (o.scaleMa x.1 x.2) o.scaleBytes o.hint) s

/-- Write bytes to moon memory, or to the host's through the moon's function (R193): HOST_DMA with Bus Master Enable 0 (R425). -/
def spaceWrite (s : State) (m : Nat) (host : Bool) (ma : Nat) (b : Bytes) : Except Bad State :=
  if host then
    let fn := hostFn s m
    if (getFn s fn).busMaster then .ok (emit s (.dma fn ma b)) else .error ⟨0x0207, 0, 6⟩
  else (writeMa s m ma b).mapError Fail.toBad

/-- Write planes to vectors in the order given. -/
def writePlanes (s : State) (m : Nat) (host : Bool) (o : Opd) (l : List ((Nat × Nat) × (Bytes × Bytes))) : Except Bad State :=
  match l with
  | [] => .ok s
  | (x, p) :: r => do
    let s ← spaceWrite s m host (o.vecMa x.1 x.2) p.1
    let s ← if p.2.isEmpty then .ok s else spaceWrite s m host (o.scaleMa x.1 x.2) p.2
    writePlanes s m host o r

/-- Write every vector of a destination; overlapping repetitions in a free order (R190). -/
def writeTensor (s : State) (m : Nat) (host : Bool) (o : Opd) (p : List (Bytes × Bytes)) : Except Bad State :=
  let l := o.index.zip p
  if o.reps ≤ 1 then writePlanes s m host o l
  else
    let (l, n) := shuffle l.length l s.free
    writePlanes { s with free := n } m host o l

/-! ## Engines and start (R189) -/

/-- The oldest unstarted task of a ring when it is an eligible MOVE of a mode. -/
def readyMove (s : State) (m r mode : Nat) : Option Task :=
  match readyTask s m r 3 with
  | some t => if (parseMove t.ext).mode == mode then some t else none
  | none => none

/-- A running MOVE of a mode on a ring that waits for host memory. -/
def waitingMove (s : State) (m r mode : Nat) : Option Task :=
  (ringTasks s m r).find? fun t => t.phase == .running && t.desc.kind == 3 && (parseMove t.ext).mode == mode && (parseMove t.ext).srcHost == 1 &&
    t.engine.isSome && (s.links.tx.find? fun x => x.moon == m && x.ring == r && x.seq == t.seq).isNone

/-- Start an eligible MOVE of a mode on a free engine (R189, R215), or hand back the one that waits for host memory: the state before, the
state, and the task; none when it cannot start; a failed start is the first answer. -/
def startMove (s : State) (m r mode : Nat) : Option (Except State (State × Task)) :=
  match waitingMove s m r mode with
  | some t => if workRuns s m r then some (.ok (s, t)) else none
  | none =>
    match readyMove s m r mode with
    | none => none
    | some t =>
      if !startRuns s m r then none
      else if (descCores s m t.desc).isEmpty then
        let (s, t) := startTask s t .running
        some (.error (failTask s t 0x0120 0 0))
      else
        let d := moveDie s t
        if enginesFree s d = 0 then none
        else
          let (s, t) := startTask s t .running
          let t := { t with engine := some d }
          some (.ok (putTask s t, t))

/-- The task's engines have finished (R211), and comet with its streams (R175). -/
def moveDone (s : State) (t : Task) : State := cometClose (putTask s { t with phase := .done }) t.moon t.ring t.seq

/-- A MOVE that fails stops its engine and its transfers (R216). -/
def failMove (s0 s : State) (t : Task) (b : Bad) : State :=
  if b.code = 0 then s0
  else
    let s := cometClose (failTask s t b.code b.ma b.detail) t.moon t.ring t.seq
    { s with links := { s.links with tx := s.links.tx.filter fun x => !(x.moon == t.moon && x.ring == t.ring && x.seq == t.seq) } }

/-- The source planes of a MOVE: from moon memory, or from what the host returned; none while host bytes are missing. -/
def sourcePlanes (s : State) (t : Task) (r : MoveRec) (hostData : Bytes) : Except Bad (Option (List (Bytes × Bytes))) :=
  if r.srcHost = 1 then
    if !(getFn s (hostFn s t.moon)).busMaster then .error ⟨0x0207, 0, 6⟩
    else if hostData.length < r.src.vectors * r.src.vecBytes then .ok none
    else .ok (some (hostPlanes r.src r.src.index hostData))
  else (readPlanes s t.moon r.src r.src.index).map some

/-- The values that a COPY or FILL has written to local memory under its destination's tag (R321, R326). -/
def noteMove (s : State) (t : Task) (c : MoveRec) (p : List (Bytes × Bytes)) : State :=
  if c.dstHost = 1 then s
  else p.foldl (fun s x => let v := wroteVals c.dst.fmt c.dst.len x.1 x.2; noteWrite s t.moon c.dst.tag v v) s

/-! ## COPY and FILL (R193) -/

/-- MOVE_COPY: bytes unchanged from source to destination; it waits while host bytes are missing. -/
def execMoveCopy (m r : Nat) (hostData : Bytes) (s : State) : Res :=
  match startMove s m r 0 with
  | none => .next s
  | some (.error x) => .next x
  | some (.ok (s1, t)) =>
    if !isUp s then .next s
    else
      let c := parseMove t.ext
      match sourcePlanes s1 t c hostData with
      | .error b => .next (failMove s s1 t b)
      | .ok none => .next s1
      | .ok (some p) =>
        let s2 := if c.srcHost = 0 then touchSource s1 t c.src else s1
        let s2 := if c.dstHost = 0 then touchDest s2 t c.dst else s2
        match writeTensor s2 m (c.dstHost == 1) c.dst p with
        | .error b => .next (failMove s s1 t b)
        | .ok s3 => .next (moveDone (noteMove s3 t c p) t)

/-- FILL_VALUE repeated over `n` bytes from phase `ph` of the pattern. -/
def fillBytes (v n ph : Nat) : Bytes := (upTo n).map fun i => BitVec.ofNat 8 (v / 256 ^ ((i + ph) % 4))

/-- The phase at which a vector's pattern starts: 0, but free where an earlier vector's bytes are no multiple of 4 [7]. -/
def fillPhase (o : Opd) (i : Nat) : Nat :=
  if packedBytes o.fmt o.len % 4 = 0 ∨ i = 0 then 0 else Config.openValue 4 i % 4

/-- MOVE_FILL: FILL_VALUE over the destination's elements and scales; the source descriptor is ignored. -/
def execMoveFill (m r : Nat) (s : State) : Res :=
  match startMove s m r 1 with
  | none => .next s
  | some (.error x) => .next x
  | some (.ok (s1, t)) =>
    if !isUp s then .next s
    else
      let c := parseMove t.ext
      let p := (upTo c.dst.vectors).map fun i =>
        (fillBytes c.fill (packedBytes c.dst.fmt c.dst.len) (fillPhase c.dst i), fillBytes c.fill c.dst.scaleBytes 0)
      match writeTensor (if c.dstHost = 0 then touchDest s1 t c.dst else s1) m (c.dstHost == 1) c.dst p with
      | .error b => .next (failMove s s1 t b)
      | .ok s2 => .next (moveDone (noteMove s2 t c p) t)

/-! ## Chunks of a SEND (R366) -/

/-- A chunk to send: destination MA, bytes, the source pieces it is read from. -/
structure ChunkSrc where
  dst  : Nat
  len  : Nat
  segs : List (Nat × Nat)
  deriving DecidableEq, Repr

/-- Add a piece (destination, source, length) to the chunks, newest first: a chunk grows to 64 KiB of contiguous destination bytes. -/
def addPiece (fuel : Nat) (l : List ChunkSrc) (d a n : Nat) : List ChunkSrc :=
  match fuel with
  | 0 => l
  | fuel + 1 =>
    if n = 0 then l
    else match l with
      | c :: r =>
        if c.dst + c.len = d ∧ c.len < 65536 then
          let k := Nat.min n (65536 - c.len)
          addPiece fuel (⟨c.dst, c.len + k, c.segs ++ [(a, k)]⟩ :: r) (d + k) (a + k) (n - k)
        else
          let k := Nat.min n 65536
          addPiece fuel (⟨d, k, [(a, k)]⟩ :: l) (d + k) (a + k) (n - k)
      | [] =>
        let k := Nat.min n 65536
        addPiece fuel [⟨d, k, [(a, k)]⟩] (d + k) (a + k) (n - k)

/-- The chunks of a SEND: the element bytes of every vector, then the scales (R366). -/
def sendChunks (r : MoveRec) : List ChunkSrc :=
  let eb := packedBytes r.src.fmt r.src.len
  let sb := r.src.scaleBytes
  let l := (r.src.index.zip r.dst.index).foldl
    (fun l x => addPiece (eb / 65536 + 3) l (r.dst.vecMa x.2.1 x.2.2) (r.src.vecMa x.1.1 x.1.2) eb) []
  let l := (r.src.index.zip r.dst.index).foldl
    (fun l x => addPiece (sb / 65536 + 3) l (r.dst.scaleMa x.2.1 x.2.2) (r.src.scaleMa x.1.1 x.1.2) sb) l
  l.reverse

/-- Read the bytes of a chunk from moon memory. -/
def readSegs (s : State) (m : Nat) (l : List (Nat × Nat)) : Except Bad Bytes :=
  match l with
  | [] => .ok []
  | (a, n) :: r => do
    let b ← (readMa s m none a n).mapError Fail.toBad
    let t ← readSegs s m r
    .ok (b ++ t)

/-- Add bytes to the chunks of a remote shard, newest first. -/
def addBytes (fuel : Nat) (l : List (Nat × Bytes)) (d : Nat) (b : Bytes) : List (Nat × Bytes) :=
  match fuel with
  | 0 => l
  | fuel + 1 =>
    if b.isEmpty then l
    else match l with
      | (x, y) :: r =>
        if x + y.length = d ∧ y.length < 65536 then
          let k := 65536 - y.length
          addBytes fuel ((x, y ++ b.take k) :: r) (d + k) (b.drop k)
        else addBytes fuel ((d, b.take 65536) :: l) (d + 65536) (b.drop 65536)
      | [] => addBytes fuel [(d, b.take 65536)] (d + 65536) (b.drop 65536)

/-- Open an outgoing transfer with the next transfer tag. -/
def openTx (s : State) (t : Task) (rt : Route) (total bytes : Nat) (chunks : List (Nat × Bytes)) (hint : Nat) (a : SendArgs) : State :=
  { s with links := { s.links with
      nextXfer := s.links.nextXfer + 1
      tx := s.links.tx ++ [{ moon := t.moon, ring := t.ring, seq := t.seq, xfer := s.links.nextXfer.toNat, destFabric := rt.fabric,
                             destMoon := rt.moon, mask := rt.mask, total := total, sent := [], delivered := false, bytes := bytes,
                             chunks := chunks, pages := [], hint := hint, obj := a.obj, add := a.add, sig := a.sig, openedAt := s.orbit.refNs }] } }

/-- The ring number under which the model keeps migration data (R372) [13]. -/
def migRing : Nat := 40

/-- A transfer of the module's own for a moon, which belongs to no task (R372): its pages, or chunks of bytes already there. -/
def openOwn (s : State) (m ring fabric moon mask : Nat) (pages : List Nat) (chunks : List (Nat × Bytes)) (hint : Nat) : State :=
  let n := 32 * pages.length + chunks.length
  if n = 0 then s
  else { s with links := { s.links with
      nextXfer := s.links.nextXfer + 1
      tx := s.links.tx ++ [{ moon := m, ring := ring, seq := 0, xfer := s.links.nextXfer.toNat, destFabric := fabric, destMoon := moon, mask := mask
                             total := n, sent := [], delivered := false
                             bytes := 65536 * (32 * pages.length) + (chunks.map fun c => c.2.length).foldl (· + ·) 0
                             chunks := chunks, pages := pages, hint := hint, obj := 0, add := 0, sig := false, openedAt := s.orbit.refNs }] } }

/-- The FABRIC_ID of the module with an identity: that of a port's partner, 0xFFFF when no port has it for a partner, which the spec does not say
how else to find [DESIGN CHOICE 55]. -/
def fabricOf (s : State) (identity : Nat) : Nat :=
  if identity = Config.moduleIdentity then param s 0x5010 0
  else match s.links.ports.find? fun e => e.2.partner.map Partner.identity == some identity with
    | some e => (e.2.partner.map Partner.fabric).getD 0xFFFF
    | none => 0xFFFF

/-- SEND (R366): the engine cuts the destination range into chunks; the task runs until they are delivered. -/
def execSend (m r : Nat) (s : State) : Res :=
  match startMove s m r 3 with
  | none => .next s
  | some (.error x) => .next x
  | some (.ok (s1, t)) =>
    if !isUp s then .next s
    else
      let c := parseMove t.ext
      if (s1.links.tx.find? fun x => x.moon == m && x.ring == r && x.seq == t.seq).isSome then .next s
      else
        let a := parseSend c.args
        let ch := sendChunks c
        .next (openTx s1 t (routeOf s1 m a.route) ch.length ((ch.map ChunkSrc.len).foldl (· + ·) 0) [] c.dst.hint a)

/-! ## TRANSCODE (R350, R351) -/

/-- The values of a vector's planes, each with its read status. -/
def planeVals (o : Opd) (p : Bytes × Bytes) : List (Num × Nat) :=
  (upTo o.len).map fun i => readElem o.fmt (elemCode o.fmt p.1 i) (field p.2 (i / 32) 1)

/-- The source tensor's values, residuals added (R77, R190). -/
def sourceVals (s : State) (m : Nat) (o : Opd) (p : List (Bytes × Bytes)) : Except Bad (List (List (Num × Nat))) := do
  let plane ← readPlane s m none o
  .ok (((upTo p.length).zip p).map fun x =>
    let v := planeVals o x.2
    if o.res = 0 then v else addResid o plane x.1 0 0 v)

/-- The logical output (R351): the source, or its transpose. -/
def logicalOut (t : TransArgs) (src : Opd) (v : List (List (Num × Nat))) : List (List (Num × Nat)) :=
  if t.trans then (upTo src.len).map fun e => v.map fun x => x.getD e (Num.zero, 0) else v

/-- One shard of the logical output. -/
def shardVals (t : TransArgs) (dst : Opd) (k : Nat) (v : List (List (Num × Nat))) : List (List (Num × Nat)) :=
  if t.axis = 0 then (v.drop (k * dst.count)).take dst.count else v.map fun x => (x.drop (k * dst.len)).take dst.len

/-- Where a shard goes. -/
structure Shard where
  remote : Bool
  kind   : Nat
  route  : Nat
  base   : Nat
  scale  : Nat
  res    : Nat
  deriving DecidableEq, Repr

/-- The shards of a TRANSCODE (R350): the table's entries, or the destination descriptor's own addresses. -/
def readShards (s : State) (m : Nat) (t : TransArgs) (dst : Opd) : Except Bad (List Shard) :=
  if t.table = 0 then .ok [⟨false, 0, 0, dst.base, dst.scale, dst.res⟩]
  else do
    let b ← (readMa s m none t.table (32 * t.shards)).mapError Fail.toBad
    .ok ((upTo t.shards).map fun i =>
      ⟨field b (32 * i) 1 == 1, field b (32 * i) 1, field b (32 * i + 2) 2, field b (32 * i + 8) 8, field b (32 * i + 0x10) 8,
        field b (32 * i + 0x18) 8⟩)

/-- The converted vectors of a shard: planes, statuses, flagged blocks, the next draw. -/
structure ShardConv where
  planes : List (Bytes × Bytes)
  sts    : List Nat
  st     : Nat
  res    : List ResEntry
  n      : Nat
  deriving DecidableEq, Repr

/-- Convert the vectors of a shard from vector `v` on (R351). -/
def convShard (t : TransArgs) (dst : Opd) (v : Nat) (l : List (List (Num × Nat))) (n : Nat) : ShardConv :=
  match l with
  | [] => ⟨[], [], 0, [], n⟩
  | x :: r =>
    let vals := x.map Prod.fst
    let k := convVec dst.fmt t.sr t.prop vals n
    let (es, st, n2) := if t.resEn then
        flagBlocks dst.fmt t.sr (decFloat bf16 t.tau) (v * dst.packedScales) (chunksOf 32 vals.length vals) k.n n
      else ([], 0, k.n)
    let q := convShard t dst (v + 1) r n2
    ⟨(k.bytes, k.scales) :: q.planes, k.sts ++ q.sts, k.st ||| st ||| orAll (x.map Prod.snd) ||| q.st, es ++ q.res, q.n⟩

/-- CAPACITY of a remote plane: it stands in the peer's memory, which the sender cannot read; free [7]. -/
def remoteCap (res : Nat) : Nat := Config.openValue 5 res % 2 ^ 32

/-- The bytes of a remote residual plane by address (R74), CAPACITY left as it stands. -/
def remotePlane (dst : Opd) (res tau : Nat) (l : List ResEntry) : List (Nat × Bytes) :=
  let cap := remoteCap res
  let k := l.take cap
  let bpv := dst.packedScales
  let h := planeHeader dst.fmt cap k.length (dst.vectors * bpv) bpv tau l.length
  let el := res + 64 + align64 (4 * cap)
  [(res, h.take 4), (res + 8, h.drop 8), (res + 64, k.flatMap fun e => leBytes 4 e.num), (el, k.flatMap fun e => e.bytes),
   (el + 16 * cap, k.map fun e => BitVec.ofNat 8 e.scale)]

/-- Write one shard: locally, or as a transfer (R350, R351): the state and further status. -/
def putShard (s : State) (t : Task) (a : TransArgs) (dst : Opd) (host : Bool) (sh : Shard) (c : ShardConv) : Except Bad (State × Nat) := do
  let o : Opd := { dst with base := sh.base, scale := sh.scale, res := sh.res, count2 := 0, stride2 := 0 }
  if sh.kind > 1 then .error ⟨0x0340, 0, 0⟩
  else if sh.remote then
    let rt := routeOf s t.moon sh.route
    if sh.route > 63 || rt.raw == 0 then .error ⟨0x0301, 0, 0⟩
    else
      let pieces := ((o.index.zip c.planes).map fun x => (o.vecMa x.1.1 x.1.2, x.2.1)) ++
        ((o.index.zip c.planes).map fun x => (o.scaleMa x.1.1 x.1.2, x.2.2)) ++
        (if a.resEn then remotePlane o sh.res a.tau c.res else [])
      let ch := (pieces.foldl (fun l p => addBytes (p.2.length / 65536 + 3) l p.1 p.2) []).reverse
      let st := if a.resEn && decide (remoteCap sh.res < c.res.length) then stResFull else 0
      let s := if a.resEn then countFmt s t.moon o.tag o.fmt [] (Nat.min (remoteCap sh.res) c.res.length) else s
      .ok (openTx s t rt ch.length ((ch.map fun x => x.2.length).foldl (· + ·) 0) ch o.hint ⟨sh.route, false, 0, 0⟩, st)
  else
    let s ← writeTensor (if host then s else touchDest s t o) t.moon host o c.planes
    if a.resEn then
      let (s, k, st) ← writePlane (fun s x b => writeMa (useWrite s t none x b.length o.hint) t.moon x b) s t.moon o sh.res a.tau c.res
      .ok (countFmt s t.moon o.tag o.fmt [] k, st)
    else .ok (s, 0)

/-- Every shard in order. -/
def putShards (s : State) (t : Task) (a : TransArgs) (dst : Opd) (host : Bool) (v : List (List (Num × Nat))) (k cvt : Nat) (l : List Shard) :
    Except Bad (State × Nat) :=
  match l with
  | [] => .ok (s, cvt)
  | sh :: r => do
    let c := convShard a { dst with count2 := 0 } 0 (shardVals a dst k v) s.free
    let s := countFmt { s with free := c.n } t.moon dst.tag dst.fmt c.sts 0
    let s := ((shardVals a dst k v).zip c.planes).foldl (fun s x =>
      noteWrite s t.moon dst.tag (x.1.map Prod.fst) (wroteVals dst.fmt x.1.length x.2.1 x.2.2)) s
    let (s, st) ← putShard s t a dst host sh c
    putShards s t a dst host v (k + 1) (cvt ||| c.st ||| st) r

/-- The start checks of a TRANSCODE: planes to write and to read (R76, R78). -/
def transChecks (s : State) (m : Nat) (a : TransArgs) (r : MoveRec) (l : List Shard) : Option Bad :=
  let cap := fun (x : Shard) => if !x.remote then capCheck s m x.res
    else if remoteCap x.res = 0 ∨ 2 ^ 24 < remoteCap x.res then some ⟨0x0121, 0, x.res⟩ else none
  (if a.resEn then l.foldl (fun b x => b.or (cap x)) none else none).or (resCheck s m r.src)

/-- TRANSCODE (R350, R351): convert, transpose and scatter; with remote shards the task runs until they are delivered. -/
def execTranscode (m r : Nat) (hostData : Bytes) (s : State) : Res :=
  match startMove s m r 2 with
  | none => .next s
  | some (.error x) => .next x
  | some (.ok (s1, t)) =>
    if !isUp s then .next s
    else
      let c := parseMove t.ext
      let a := parseTrans c.args
      match readShards s1 m a c.dst with
      | .error b => .next (failMove s s1 t b)
      | .ok sh =>
        match transChecks s1 m a c sh with
        | some b => .next (failMove s s1 t b)
        | none =>
          match sourcePlanes s1 t c hostData with
          | .error b => .next (failMove s s1 t b)
          | .ok none => .next s1
          | .ok (some p) =>
            let s2 := if c.srcHost = 0 then touchPlane (touchSource s1 t c.src) t none c.src else s1
            match (sourceVals s1 m c.src p).bind fun v => putShards s2 t a c.dst (c.dstHost == 1) (logicalOut a c.src v) 0 t.cvt sh with
            | .error b => .next (failMove s s1 t b)
            | .ok (s3, cvt) =>
              let t := { t with cvt := cvt }
              if s3.links.tx.any fun x => x.moon == m && x.ring == r && x.seq == t.seq then .next (putTask s3 t)
              else .next (moveDone s3 t)

end Sys2Proof.Machine
end

