-- ==== Sys2Proof/Machine/TaskFetch.lean ====
section
/-! DEFINITION. TASK_FETCH: the descriptor and its extension block are read and checked in the order of R214 and R215, and the plans of
STEP tasks and of the pipeline unit are loaded as tasks (R270, R305). -/

namespace Sys2Proof.Machine

/-- The kinds that use an extension block which the module reads at fetch (R188). -/
def readsExt (kind : Nat) : Bool := kind == 1 || kind == 2 || kind == 3 || kind == 5

/-- EXT_LINES is right for the kind (R188, R214). -/
def linesOk (d : Desc) : Bool :=
  match d.kind with
  | 1 => d.extLines == 4
  | 2 => decide (2 ≤ d.extLines ∧ d.extLines ≤ 64)
  | 3 => d.extLines == 3
  | 5 => d.extLines == 1
  | _ => decide (17 ≤ d.extLines ∧ d.extLines ≤ 64)

/-- EXT_BAD (R214): EXT misaligned, outside the moon's HBM region, or EXT_LINES wrong; only for kinds that use EXT. -/
def extBad (d : Desc) : Bool :=
  (readsExt d.kind || (d.kind == 4 && syncOp d == 2)) &&
  (d.ext % 64 != 0 || !(decide (hbmRegion ≤ d.ext) && decide (d.ext + 64 * d.extLines ≤ hbmEnd)) || !linesOk d)

/-- The first enabled object number out of range (R194, R197, R214). -/
def syncRange (s : State) (m : Nat) (d : Desc) : Option Nat :=
  let sig0 := d.s0En || (d.kind == 4 && (syncOp d == 1 || syncOp d == 2))
  let l := (if d.w0En then [d.wait0] else []) ++ (if d.w1En then [d.wait1] else []) ++ (if sig0 then [d.sig0] else []) ++
    (if d.s1En then [d.sig1] else [])
  l.find? fun k => (objNum s m k).isNone

/-- WAIT_BAD (R195): a consuming wait with a threshold of 0 or less. -/
def waitBad (d : Desc) : Bool :=
  (d.w0En && d.w0Consume && decide (d.w0Thresh ≤ 0)) || (d.w1En && d.w1Consume && decide (d.w1Thresh ≤ 0))

/-- A step record (R267). -/
structure StepRec where
  mode   : Nat
  verSel : Nat
  chunk  : Nat
  tokens : Nat
  plan   : Nat
  wlBuf  : Nat
  wlCap  : Nat
  logit  : Nat
  logitCap : Nat
  rsv    : Bool
  deriving DecidableEq, Repr

/-- Parse a STEP task's extension block (R267). -/
def parseStep (e : Bytes) : StepRec :=
  { mode := field e 0 1, verSel := field e 1 1, chunk := field e 2 2, tokens := field e 4 4, plan := field e 8 8, wlBuf := field e 0x10 8,
    wlCap := field e 0x18 4, logit := field e 0x20 8, logitCap := field e 0x28 4,
    rsv := field e 0x1C 4 != 0 || field e 0x2C 20 != 0 }

/-- Fetch checks of a STEP descriptor (R267, R296). -/
def stepCheck (d : Desc) (r : StepRec) : Option (Nat × Nat) :=
  if r.mode > 2 || r.verSel > 1 || r.rsv then some (0x0402, 0)
  else if !(decide (1 ≤ r.tokens ∧ r.tokens ≤ 65536) && decide (1 ≤ r.chunk ∧ r.chunk ≤ 512) && decide (1 ≤ r.wlCap ∧ r.wlCap ≤ 16384) &&
      decide (d.karg16 ≤ 15) && d.karg32 == 0) then some (0x0403, 0)
  else none

/-- Fetch checks of a BARRIER descriptor (R390): SCOPE_RSV, BARRIER_UNDEFINED. -/
def barrierCheck (d : Desc) : Option (Nat × Nat) :=
  if 1 < d.karg16 then some (0x0501, 0) else if 255 < d.karg32 then some (0x0502, d.karg32) else none

/-- OP_RSV (R214). -/
def opRsv (d : Desc) (ext : Bytes) : Bool :=
  (d.kind == 4 && (decide (4 ≤ d.karg16) || syncOp d == 3)) || (d.kind == 3 && moveOpRsv (parseMove ext))

/-- The checks that belong to the kind's own record. -/
def kindCheck (s : State) (m : Nat) (d : Desc) (ext : Bytes) : Option (Nat × Nat) :=
  match d.kind with
  | 1 => gemmCheck (parseGemm ext)
  | 2 => chainCheck (parseChain ext) d.extLines
  | 3 => moveCheck s m (parseMove ext)
  | 5 => stepCheck d (parseStep ext)
  | 6 => barrierCheck d
  | _ => none

/-- Every fetch check of a descriptor in the order of R214: code and DETAIL of the first that fails. CORE_MODE 3 is FLAGS_RSV
for every kind [DESIGN CHOICE 56]. -/
def fetchCheck (s : State) (m : Nat) (d : Desc) (ext : Bytes) : Option (Nat × Nat) :=
  if d.kind = 0 ∨ 7 < d.kind then some (0x0101, 0)
  else if d.moon ≠ m then some (0x0102, 0)
  else if 16384 ≤ d.flags ∨ d.coreMode = 3 then some (0x0103, 0)
  else if extBad d then some (0x0104, 0)
  else if d.kind = 7 ∧ !d.nbEn then some (0x0105, 0)
  else
    match syncRange s m d with
    | some k => some (0x0106, k)
    | none => if waitBad d then some (0x0107, 0) else if opRsv d ext then some (0x0108, 0) else kindCheck s m d ext

/-- The extension block of a descriptor, read when it is where it may be (R215). -/
def readExt (s : State) (m : Nat) (d : Desc) : Except Fail Bytes :=
  if readsExt d.kind && !extBad d then readMa s m none d.ext (64 * d.extLines) else .ok []

/-- A task that fails at fetch (R204, R215): nothing consumed, RING_STARTED moves past it, the ring halts. -/
def failFetch (s : State) (t : Task) (code ma detail : Nat) : State :=
  let x := getRing s t.moon t.ring
  let s := setRing s t.moon t.ring { x with started := t.seq + 1 }
  failTask (addTask s t) { t with startAt := s.orbit.now } code ma detail

/-- TASK_FETCH (R199, R210, R214, R215): the next published descriptor of a RUNNING ring with no task waiting to start is read once and
checked. -/
def execTaskFetch (m r : Nat) (s : State) : Res :=
  let x := getRing s m r
  let q := nextFetch s m r
  if !(isUp s && decide (m < 64) && decide (r < 16) && x.state == .running && moonSyncs s m && (oldestUnstarted s m r).isNone && q != x.tail)
  then .next s
  else
    match readMa s m none (x.base + 64 * (q.toNat % 2 ^ x.log2)) 64 with
    | .error e => if e.code = 0 then .next s else .next (failFetch s (mkTask m r q (parseDesc []) []) e.code e.ma 0)
    | .ok b =>
      let d := parseDesc b
      match readExt s m d with
      | .error e => if e.code = 0 then .next s else .next (failFetch s (mkTask m r q d []) e.code e.ma 0)
      | .ok ext =>
        let t := mkTask m r q d ext
        match fetchCheck s m d ext with
        | some (c, k) => .next (failFetch s t c 0 k)
        | none => .next (addTask s t)

/-! ## Plans (R270, R305, R331) -/

/-- A plan header (R270). -/
structure PlanHdr where
  ntask   : Nat
  nbind   : Nat
  maxRows : Nat
  maxEnt  : Nat
  tasks   : Nat
  binds   : Nat
  deriving DecidableEq, Repr

/-- Read a plan's header: none when its header fails the ranges of R270; an access error otherwise. -/
def readPlan (s : State) (m plan : Nat) : Except Fail (Option PlanHdr) := do
  let b ← readMa s m none plan 32
  let h : PlanHdr := ⟨field b 2 2, field b 4 2, field b 8 4, field b 0x0C 4, field b 0x10 8, field b 0x18 8⟩
  .ok (if field b 0 2 = 1 ∧ 1 ≤ h.ntask ∧ h.ntask ≤ 4096 ∧ h.nbind ≤ 4096 then some h else none)

/-- Bytes with `w` bytes at offset `o` replaced by the number `v`. -/
def patch (b : Bytes) (o w v : Nat) : Bytes := if o + w ≤ b.length then b.take o ++ leBytes w v ++ b.drop (o + w) else b

/-- A binding record (R270, R305): task index, byte offset, quantity, width, argument. -/
structure Bind where
  task : Nat
  off  : Nat
  qty  : Nat
  wid  : Nat
  arg  : Nat
  deriving DecidableEq, Repr

/-- Read the binding records of a plan. -/
def readBinds (s : State) (m : Nat) (h : PlanHdr) : Except Fail (List Bind) := do
  let b ← readMa s m none h.binds (8 * h.nbind)
  .ok ((upTo h.nbind).map fun i => ⟨field b (8 * i) 2, field b (8 * i + 2) 2, field b (8 * i + 4) 1, field b (8 * i + 5) 1, field b (8 * i + 6) 2⟩)

/-- A descriptor of a plan as its copy runs: on the cores of the task `like` (R270). -/
def onCoresOf (like d : Desc) : Desc :=
  { d with flags := d.flags % 256 + like.flags / 256 % 32 * 256 + d.flags / 8192 * 8192, coreMask := like.coreMask }

/-- Fetch checks of a plan's descriptor: GEMM, CHAIN and MOVE only (R270). -/
def planCheck (s : State) (m : Nat) (d : Desc) (ext : Bytes) : Option (Nat × Nat) :=
  if d.kind = 0 ∨ 3 < d.kind then some (0x0101, 0) else fetchCheck s m d ext

/-- One descriptor of a plan as a task under ring `r` (R270): bound quantities written into the copy of its extension block; a descriptor
that fails its checks stands as a failed task. -/
def planTask (s : State) (m r : Nat) (like : Desc) (binds : List Bind) (qty : Bind → Nat) (i : Nat) (b : Bytes) :
    Except Fail Task :=
  let d := onCoresOf like (parseDesc b)
  let failed (code ma det : Nat) : Task :=
    { mkTask m r (BitVec.ofNat 32 i) d [] with phase := .done, result := 1, error := code, faultMa := ma, detail := det }
  match readExt s m d with
  | .error e => if e.code = 0 then .error e else .ok (failed e.code e.ma 0)
  | .ok ext =>
    let ext := (binds.filter fun x => x.task == i).foldl (fun e x => patch e x.off x.wid (qty x)) ext
    match planCheck s m d ext with
    | some (c, k) => .ok (failed c 0 k)
    | none => .ok (mkTask m r (BitVec.ofNat 32 i) d ext)

/-- The tasks of a plan under ring `r`. -/
def planTasks (s : State) (m r : Nat) (like : Desc) (h : PlanHdr) (binds : List Bind) (qty : Bind → Nat) (l : List Nat) :
    Except Fail (List Task) :=
  match l with
  | [] => .ok []
  | i :: rest => do
    let b ← readMa s m none (h.tasks + 64 * i) 64
    let t ← planTask s m r like binds qty i b
    let l ← planTasks s m r like h binds qty rest
    .ok (t :: l)

/-- Load a plan's tasks under ring `r`: an access error, none for a bad header, or the state with the tasks waiting to start. -/
def loadPlan (s : State) (m r : Nat) (like : Desc) (plan : Nat) (qty : Nat → Nat) : Except Fail (Option (PlanHdr × State)) := do
  match ← readPlan s m plan with
  | none => .ok none
  | some h =>
    let binds ← readBinds s m h
    let ts ← planTasks s m r like h binds (fun x => qty x.qty) (upTo h.ntask)
    .ok (some (h, { s with tasks := { s.tasks with tasks := s.tasks.tasks ++ ts } }))

/-- A task that stands for a plan's copy on every core of the moon (R305). -/
def freeDesc : Desc := { parseDesc [] with flags := 0, coreMask := 0 }

/-- A plan of the pipeline unit or of a turn is good (R305, R330): no rows or entries, every quantity among `ok`, widths 1, 4 or 8. -/
def pipePlanOk (h : PlanHdr) (binds : List Bind) (ok : Nat → Bool) : Bool :=
  h.maxRows == 0 && h.maxEnt == 0 && binds.all fun x => ok x.qty && (x.wid == 1 || x.wid == 4 || x.wid == 8)

/-- Load the tasks of a pipeline or turn plan whose index satisfies `p` under ring `r` (R305, R310): none for a bad plan. -/
def loadPipe (s : State) (m r plan : Nat) (ok : Nat → Bool) (qty : Bind → Nat) (p : Nat → Bool) : Except Fail (Option State) := do
  match ← readPlan s m plan with
  | none => .ok none
  | some h =>
    let binds ← readBinds s m h
    if !pipePlanOk h binds ok then .ok none
    else
      let ts ← planTasks s m r freeDesc h binds qty ((upTo h.ntask).filter p)
      .ok (some { s with tasks := { s.tasks with tasks := s.tasks.tasks ++ ts } })

/-- A plan's first failed task in index order, if one failed. -/
def planFailed (s : State) (m r : Nat) : Option Task := (ringTasks s m r).find? fun t => t.result == 1

/-- Every task of a plan has completed. -/
def planComplete (s : State) (m r : Nat) : Bool := (ringTasks s m r).all fun t => t.phase == .recorded && t.result == 0

/-- The OR of CVT_STATUS over a plan's tasks (R270). -/
def planCvt (s : State) (m r : Nat) : Nat := orAll ((ringTasks s m r).map Task.cvt)

/-- What a STEP's record takes from its plan's tasks: their CVT_STATUS bits (R270), and whether one was pre-empted or a core of one took part in a
substitution (R213). -/
def planMarks (s : State) (t : Task) (r : Nat) : Task :=
  { t with cvt := t.cvt ||| planCvt s t.moon r, preempted := t.preempted || (ringTasks s t.moon r).any Task.preempted,
           substd := t.substd || (ringTasks s t.moon r).any Task.substd }

/-- A plan's tasks leave, with their comet streams, transfers and dirty lines written back. -/
def dropPlan (s : State) (m r : Nat) : State :=
  let s := (ringTasks s m r).foldl (fun s t => cometClose (writeBack s m r t.seq) m r t.seq) s
  { s with tasks := { s.tasks with tasks := s.tasks.tasks.filter fun t => !(t.moon == m && t.ring == r) }
           links := { s.links with tx := s.links.tx.filter fun x => !(x.moon == m && x.ring == r) } }

end Sys2Proof.Machine
end

