-- ==== Sys2Proof/Machine/Arrivals.lean ====
section
/-! DEFINITION. Chunks that have arrived whole (R365, R369, R370): written to the destination moon, counted towards their transfer, DELIVERED
or refused with a NACK, and what the sender does on either. -/

namespace Sys2Proof.Machine

/-- The reason number of a NACK as this model carries it [24]: 0 ROUTE_NONE, 1 MOON_GONE, 2 WINDOW, otherwise the error code of R214. -/
def nackRoute : Nat := 0
/-- The chunk index of a NACK that refuses a flit of no chunk: a DELIVERED, a NACK or a CONTROL flit in transit that found no port (R362) [24]. -/
def noChunk : Nat := 0xFFFFFFFF
/-- MOON_GONE. -/
def nackGone : Nat := 1
/-- WINDOW. -/
def nackWindow : Nat := 2

/-- The running task of an outgoing transfer. -/
def txTask (s : State) (x : TxXfer) : Option Task :=
  match findTask s x.moon x.ring x.seq with
  | some t => if t.phase = .running then some t else none
  | none => none

/-- Remove the transfers of a task. -/
def dropTx (s : State) (m r : Nat) (q : W32) : State :=
  { s with links := { s.links with tx := s.links.tx.filter fun x => !(x.moon == m && x.ring == r && x.seq == q) } }

/-- A transfer fails its task (R370). -/
def failTx (s : State) (x : TxXfer) (code detail : Nat) : State :=
  match txTask s x with
  | some t => dropTx (failTask s t code 0 detail) x.moon x.ring x.seq
  | none => dropTx s x.moon x.ring x.seq

/-- Payload bytes of delivered chunks accrue to the source moon (R250, R370). -/
def countTx (s : State) (m n : Nat) : State :=
  modMoon s m fun y => { y with ledger := { y.ledger with txBytes := y.ledger.txBytes + n } }

/-- A transfer is a SEND's to another module, whose payload bytes count in LINK_TX_BYTES (R250). -/
def sendsAway (s : State) (x : TxXfer) : Bool :=
  x.destFabric != param s 0x5010 0 && (match txTask s x with | some t => field t.ext 0 1 == 3 | none => false)

/-- DELIVERED for transfer tag `xfer` of this module (R370): the task's engines finish once every transfer is delivered. -/
def txDelivered (s : State) (xfer : Nat) : State :=
  match s.links.tx.find? fun x => x.xfer == xfer && !x.delivered with
  | none => s
  | some x =>
    let s := if sendsAway s x then countTx s x.moon x.bytes else s
    let mine (y : TxXfer) : Bool := y.moon == x.moon && y.ring == x.ring && y.seq == x.seq
    let s := { s with links := { s.links with tx := s.links.tx.map fun y => if y == x then { y with delivered := true } else y } }
    if s.links.tx.all fun y => !mine y || y.delivered then
      match txTask s x with
      | some t => dropTx (moveDone s t) x.moon x.ring x.seq
      | none => dropTx s x.moon x.ring x.seq
    else s

/-- A NACK for transfer tag `xfer` of this module (R370): reason, chunk index, the module that refused. -/
def txRefused (s : State) (xfer reason chunk fabric : Nat) : State :=
  match s.links.tx.find? fun x => x.xfer == xfer && chunk != noChunk with
  | none => s
  | some x =>
    if reason = nackRoute then failTx s x 0x0302 fabric
    else if reason = nackWindow then failTx s x 0x0303 chunk
    else if reason = nackGone then failTx s x 0x0304 chunk
    else failTx s x 0x0305 (chunk * 65536 + reason)

/-- Hand DELIVERED or a NACK to a port; with no port it waits for one (R373) [59]. -/
def offerBack (s : State) (p type : Nat) (f : Flit) : State :=
  if p < 32 then offer s p type { f with vc := channelTo s p f.destFabric }
  else { s with links := { s.links with parked := s.links.parked ++ [(type, f)] } }

/-- Send DELIVERED or a NACK back to a module and moon (R369, R370): by an SXL1 port's own partner, or forwarding. -/
def sendBack (s : State) (port type fabric moon srcMoon xfer : Nat) (payload : Bytes) : State :=
  offerBack s (if port < 32 ∧ (getPort s port).sxl1 then port else portTo s fabric) type (mkFlit s 2 fabric moon srcMoon xfer payload)

/-- DELIVERED and NACK flits that wait for a port go out where one has come up (R373). -/
def sendParked (s : State) : State :=
  s.links.parked.foldl (fun s e => offerBack s (portTo s e.2.destFabric) e.1 e.2) { s with links := { s.links with parked := [] } }

/-- An arrival's sender is this module: it came by the module's own path, or its moon has moved here with what it held (R368, R371). -/
def fromSelf (s : State) (a : Arrival) : Bool := a.port == 32 || (a.port == 33 && a.srcFabric == param s 0x5010 0)

/-- Chunks of an arrival's transfer that have been seen at moon `m`, written or refused; another number of chunks, or a chunk seen already, belongs to
a new transfer under the same tag, which takes 12 bits (R359) [24]. -/
def seenOf (s : State) (m : Nat) (a : Arrival) : Option RxXfer :=
  s.links.rxXfers.find? fun x => x.srcFabric == a.srcFabric && x.srcMoon == a.srcMoon && x.xfer == a.xfer && x.destMoon == m && x.total == a.total &&
    !x.written.contains a.index

/-- Note a chunk of a transfer at moon `m` as seen, and whether it was refused: the state with the transfer's entry gone once every chunk has been
seen, and whether all of them have been written (R370). -/
def seeChunk (s : State) (m : Nat) (a : Arrival) (refused : Bool) : State × Bool :=
  let old := seenOf s m a
  let x : RxXfer := ⟨a.srcFabric, a.srcMoon, a.xfer, m, a.total, ((old.map RxXfer.written).getD []) ++ [a.index],
    refused || (old.map RxXfer.refused).getD false⟩
  let rest := s.links.rxXfers.filter fun y =>
    !(y.srcFabric == a.srcFabric && y.srcMoon == a.srcMoon && y.xfer == a.xfer && y.destMoon == m)
  let whole := decide (a.total ≤ x.written.length)
  ({ s with links := { s.links with rxXfers := if whole then rest else rest ++ [x] } }, whole && !x.refused)

/-- Refuse a chunk for moon `m` (R369). -/
def refuseChunk (s : State) (m : Nat) (a : Arrival) (reason : Nat) : State :=
  let s := (seeChunk (incA s 0x5052 m 1) m a true).1
  if fromSelf s a then txRefused s a.xfer reason a.index a.srcFabric
  else sendBack s a.port 4 a.srcFabric a.srcMoon m a.xfer (leBytes 2 reason ++ leBytes 4 a.index)

/-- The DEST_ADD of a SEND to this module itself stuck, or was ignored: its record carries SIG_OVF (R196). -/
def sendOvf (s : State) (xfer : Nat) : State :=
  match (s.links.tx.find? fun x => x.xfer == xfer && !x.delivered).bind fun x => findTask s x.moon x.ring x.seq with
  | some t => putTask s { t with sigOvf := true }
  | none => s

/-- A chunk has been written (R370): with the last of its transfer DEST_ADD applies and DELIVERED goes back. -/
def chunkWritten (s : State) (m : Nat) (a : Arrival) : State :=
  let (s, whole) := seeChunk s m a false
  if !whole then s
  else
    let s := if a.sig then (let (s, o) := addObj s m a.obj a.add; if o && fromSelf s a then sendOvf s a.xfer else s) else s
    if fromSelf s a then txDelivered s a.xfer else sendBack s a.port 3 a.srcFabric a.srcMoon m a.xfer []

/-- Write an arrival into its moon's memory (R369), or refuse it with the access error; what pre-copy brings an ARRIVING moon is kept until its pages
are installed (R245). -/
def putArrival (s : State) (m : Nat) (a : Arrival) : State :=
  if (getMoon s m).state == .arriving then chunkWritten (modMoon s m fun x => { x with precopied := memWrite x.precopied a.ma a.bytes }) m a
  else
  match writeMa (streamAccess s m a.ma a.bytes.length a.hint false) m a.ma a.bytes with
  | .ok t => chunkWritten t m a
  | .error e => refuseChunk s m a e.code

/-- Flits that each moon's guaranteed credit gives on a port (R363). -/
def guaranteed (s : State) (m : Nat) : Nat :=
  let x := getMoon s m
  if x.state = .free then 0 else 3584 * x.linkShare / 1000

/-- The common pool of a port that no moon holds (R363). -/
def poolLeft (s : State) (p : Nat) : Nat :=
  3584 - (s.moons.map fun e => guaranteed s e.1).foldl (· + ·) 0 - ((getPort s p).rxUsed.map Prod.snd).foldl (· + ·) 0

/-- The module writes none of a moon's arrivals now (R365): it is suspended, waiting, being saved or restored, or spilled. -/
def arrivalsHeld (s : State) (m : Nat) : Bool :=
  let x := getMoon s m
  x.spilled || x.swap != .none || x.state == .suspended || x.state == .waiting || x.mig == .stateSent

/-- Flits of a chunk whose DATA flits carry `unit` bytes (R359, R366). -/
def chunkFlits (unit bytes : Nat) : Nat := 1 + (bytes + unit - 1) / unit

/-- Flits of an arrival as its port carried it. -/
def arrivalFlits (s : State) (a : Arrival) : Nat := chunkFlits (flitBytes s a.port) a.bytes.length

/-- A moon's arrivals of `n` flits are held on a port: their credit stays out and is not renewed (R237, R365). -/
def holdFlits (s : State) (p m n : Nat) : State :=
  let x := getPort s p
  setPort s p { x with heldBy := tmod x.heldBy 0 m (· + n) }

/-- Credit of the common pool that a moon lacks on a port to hold a whole chunk of 64 KiB, without which its senders start none (R363, R364). -/
def shortOf (s : State) (p m : Nat) : Nat :=
  if (getMoon s m).state = .free then 0
  else chunkFlits (flitBytes s p) 65536 - (guaranteed s m + tget (getPort s p).rxUsed 0 m)

/-- Lend a moon credit of a port's common pool (R363). -/
def lendPool (s : State) (p m n : Nat) : State :=
  let x := getPort s p
  setPort s p { x with rxUsed := tmod x.rxUsed 0 m (· + n), wants := delNum x.wants m }

/-- A moon whose credit on a port is short of a chunk draws the rest from the common pool, or waits for it in turn; a suspended moon draws none
(R237, R363); with the credit that it drew. -/
def askPool (s : State) (p m : Nat) : State × Nat :=
  let x := getPort s p
  let n := shortOf s p m
  if n = 0 || arrivalsHeld s m || x.phase != .up then (setPort s p { x with wants := delNum x.wants m }, 0)
  else if n ≤ poolLeft s p then (lendPool s p m n, n)
  else (setPort s p { x with wants := if x.wants.contains m then x.wants else x.wants ++ [m] }, 0)

/-- A moon draws from the common pool of a port, and its senders learn of it (R363). -/
def drawShort (s : State) (p m : Nat) : State :=
  let (s, n) := askPool s p m
  sendCredit s p 2 m n

/-- Moons that wait for a port's common pool draw from it, first come, first served (R363). -/
def serveWants (s : State) (p : Nat) : List Nat → State
  | [] => s
  | m :: l =>
    let s := drawShort s p m
    if (getPort s p).wants.contains m then s else serveWants s p l

/-- A chunk of `n` flits for a moon begins to arrive on a port: when what the moon has there leaves less than another whole chunk of its guaranteed
credit, it draws from the common pool, unless it is suspended (R237, R363). -/
def drawPool (s : State) (p m n : Nat) : State :=
  let lend := Nat.min n (poolLeft s p)
  if lend = 0 ∨ 2 * n ≤ guaranteed s m then s else sendCredit (lendPool s p m lend) p 2 m lend

/-- The credit of `n` flits of a moon returns to the partner, less what the pool lent, which goes back to the pool (R363). -/
def returnCredit (s : State) (p m n : Nat) : State :=
  let x := getPort s p
  let lent := Nat.min n (tget x.rxUsed 0 m)
  let used := if lent = tget x.rxUsed 0 m then tdel x.rxUsed m else tmod x.rxUsed 0 m (· - lent)
  drawShort (serveWants (sendCredit (setPort s p { x with rxUsed := used }) p 2 m (n - lent)) p x.wants) p m

/-- The credit of up to `n` of a moon's held flits returns (R365). -/
def returnSome (s : State) (p m n : Nat) : State :=
  let x := getPort s p
  let held := tget x.heldBy 0 m
  let n := Nat.min n held
  if n = 0 then s
  else returnCredit (setPort s p { x with heldBy := if n = held then tdel x.heldBy m else tmod x.heldBy 0 m (· - n) }) p m n

/-- The credit of a moon's held flits returns (R365). -/
def returnHeld (s : State) (p m : Nat) : State := returnSome s p m (tget (getPort s p).heldBy 0 m)

/-- Destination moon of a flit: an SXL1 port's traffic is moon 0's (R359). -/
def flitMoon (s : State) (p : Nat) (f : Flit) : Nat := if (getPort s p).sxl1 then 0 else f.destMoon

/-- Flits of chunks that a moon has received in part on a port, whose credit is not returned. -/
def partFlits (s : State) (p m : Nat) : Nat :=
  ((s.links.rx.filter fun c => c.port == p && flitMoon s p c.flit == m && !c.refused).map fun c =>
    chunkFlits (flitBytes s p) c.got.length).foldl (· + ·) 0

/-- The credit a moon's senders hold on a port: the guaranteed and what the pool lent, less what has arrived and keeps its credit (R363, R365,
R373). -/
def creditHeld (s : State) (p m : Nat) : Nat :=
  guaranteed s m + tget (getPort s p).rxUsed 0 m - tget (getPort s p).heldBy 0 m - partFlits s p m

/-- CREDIT_SYNC of a channel on a port, for a moon on VC2 (R355 T7, R363). -/
def sendSync (s : State) (p vc m n : Nat) : State :=
  offer s p 6 (mkFlit s vc (((getPort s p).partner.map Partner.fabric).getD 0xFFFF) m 0 0 (leBytes 2 n))

/-- CREDIT_SYNC of a moon's VC2 on a port (R363). -/
def syncMoon (s : State) (p m : Nat) : State :=
  let s := (askPool s p m).1
  sendSync s p 2 m (creditHeld s p m)

/-- The ports at which a moon's credit stands: those that are UP; an SXL1 port carries moon 0's alone (R359, R363). -/
def creditPorts (s : State) (m : Nat) : List Nat :=
  (upTo 32).filter fun p => (getPort s p).phase == .up && (!(getPort s p).sxl1 || m == 0)

/-- A moon that has been admitted gets its credit on every port that is UP (R363). -/
def openCredit (s : State) (m : Nat) : State := (creditPorts s m).foldl (fun s p => syncMoon s p m) s

/-- A chunk waits for its page or bank: the write check is held by a MIGRATING mark (R170, R369). -/
def arrivalWaits (s : State) (m : Nat) (a : Arrival) : Bool :=
  (getMoon s m).state != .arriving && (checkWrite s m (a.bytes.length / 64 + 2) a.ma a.bytes.length).map Fail.code == some 0

/-- Write a moon's arrivals in order, as far as none waits; the rest stays held (R365, R369). -/
def writeHeld (s : State) (m : Nat) : List Arrival → State
  | [] => modMoon s m fun x => { x with held := [] }
  | a :: l =>
    if arrivalWaits s m a then modMoon s m fun x => { x with held := a :: l }
    else
      let s := putArrival s m a
      writeHeld (if a.port < 32 then returnSome s a.port m (arrivalFlits s a) else s) m l

/-- Arrivals held while a moon was suspended, or behind a page or bank that is moving, are written in order, and their credit returns (R365); the
moon draws on the pools again. -/
def deliverHeld (s : State) (m : Nat) : State :=
  let s := writeHeld s m (getMoon s m).held
  (creditPorts s m).foldl (fun s p => drawShort s p m) s

/-- Source and destination as a port's framing gives them: an SXL1 port's traffic is moon 0's (R359). -/
def flitEnds (s : State) (p : Nat) (f : Flit) : Nat × Nat × Nat :=
  if (getPort s p).sxl1 then (0xFFFF, 0, 0) else (f.srcFabric, f.srcMoon, f.destMoon)

/-- An arrival of a chunk with its bytes. -/
def arrivalOf (p fabric moon xfer : Nat) (h : ChunkHdr) (b : Bytes) : Arrival :=
  { port := p, srcFabric := fabric, srcMoon := moon, xfer := xfer, ma := h.destMa, bytes := b, hint := h.hint, index := h.index, total := h.total
    obj := h.destObj, add := h.destAdd, sig := h.sigEn }

end Sys2Proof.Machine
end

