-- ==== Sys2Proof/Machine/Ledger.lean ====
section
/-! DEFINITION. Accounting (R250 to R256): what a nanosecond adds to a moon's open span, ledger records, and the rows BILLING_MINUTE_CLOSE,
LEDGER_SNAP, COUNTERS, LEDGER_READ, LEDGER_ACK, MOON_STAT_READ. -/

namespace Sys2Proof.Machine

/-- Ledger of moon `m`. -/
def getLedger (s : State) (m : Nat) : Ledger := (getMoon s m).ledger

/-- Change a moon's ledger. -/
def modLedger (s : State) (m : Nat) (f : Ledger → Ledger) : State := modMoon s m fun x => { x with ledger := f x.ledger }

/-- A spilled or restoring moon's tasks hold nothing (R250). -/
def frozen (s : State) (m : Nat) : Bool := (getMoon s m).spilled || (getMoon s m).swap == .restoring

/-- Cores a task holds, for ENGINE_CORE_US and ENGINE_NS (R212, R250): the cores of a running GEMM or CHAIN task, and the core set of a
running STEP task, whose plan's tasks run on it and do not count again [13]. -/
def engineCores (s : State) (t : Task) : Nat :=
  if t.phase != .running || frozen s t.moon then 0
  else match t.desc.kind with
    | 1 => t.cores.length
    | 2 => t.cores.length
    | 5 => (descCores s t.moon t.desc).length
    | _ => 0

/-- Whether a MOVE task holds an engine. -/
def holdsEngine (s : State) (t : Task) : Bool := t.phase == .running && !frozen s t.moon && t.desc.kind == 3 && t.engine.isSome

/-- One nanosecond of a moon's open span (R250). -/
def accrue (s : State) (m : Nat) (x : Moon) : Moon :=
  if !charged x then x
  else
    let l := x.ledger
    let ts := s.tasks.tasks.filter fun t => t.moon == m && !t.underStep
    { x with ledger := { l with
        engineNs := l.engineNs + (ts.map (engineCores s)).foldl (· + ·) 0
        moveNs := l.moveNs + (ts.filter (holdsEngine s)).length
        heldNs := l.heldNs + (if x.pool && x.swap != .none then 0 else 8 * x.octets.length)
        pageNs := l.pageNs + x.hbmPages + x.save.length
        flags := l.flags ||| (if s.orbit.state = .unlocked then 16 else if s.orbit.state = .holdover then 32 else 0) } }

/-- One nanosecond of every task's ENGINE_NS (R212). -/
def accrueTask (s : State) (t : Task) : Task :=
  { t with engineNs := t.engineNs + engineCores s t + (if holdsEngine s t then 1 else 0) }

/-- One nanosecond of accounting for every moon and task. -/
def accrueAll (s : State) : State :=
  { s with moons := s.moons.map fun e => (e.1, accrue s e.1 e.2)
           tasks := { s.tasks with tasks := s.tasks.tasks.map (accrueTask s) } }

/-- The five totals of an open span in the units of a record (R252). -/
def spanTotals (l : Ledger) : List Nat := [l.engineNs / 1000, l.moveNs / 1000, l.heldNs / 1000, l.pageNs / 1000000000, l.txBytes]

/-- Open a span now; remainders below one unit carry over (R250, R251). -/
def openSpanAt (s : State) (m flags start : Nat) : State :=
  modLedger s m fun l => { l with
    spanOpen := true, startOrbit := start
    flags := flags ||| (if s.orbit.state = .unlocked then 16 else if s.orbit.state = .holdover then 32 else 0) }

/-- Open a span at the present orbit value. -/
def openSpan (s : State) (m flags : Nat) : State := openSpanAt s m flags s.orbit.now

/-- OCTETS of a record (R252): those the moon holds, 0 for a pool moon while it is not resident, which ends with the start of its spill and begins
with the end of its restore (R234). -/
def recordOctets (x : Moon) : Nat := if x.pool && (x.swap != .none || x.spilled) then 0 else x.octets.length

/-- Close a moon's span: one ledger record, its totals added to P7000 to P7004, the record journaled (R250 to R252, R477). -/
def closeSpan (s : State) (m flags endOrbit : Nat) : State :=
  let x := getMoon s m
  let l := x.ledger
  if !l.spanOpen then s
  else
    let r : LedgerRec := { recSeq := l.recSeq, moon := m, octets := recordOctets x, flags := l.flags ||| flags, startOrbit := l.startOrbit,
                           endOrbit := endOrbit, engineUs := l.engineNs / 1000, moveUs := l.moveNs / 1000, heldUs := l.heldNs / 1000,
                           pageSec := l.pageNs / 1000000000, txBytes := l.txBytes }
    let s := setMoon s m { x with ledger := { l with
      spanOpen := false, recSeq := l.recSeq + 1, records := l.records ++ [r], engineNs := l.engineNs % 1000, moveNs := l.moveNs % 1000,
      heldNs := l.heldNs % 1000, pageNs := l.pageNs % 1000000000, txBytes := 0, flags := 0 } }
    let s := incA (incA (incA (incA (incA s 0x7000 m r.engineUs) 0x7001 m r.moveUs) 0x7002 m r.heldUs) 0x7003 m r.pageSec) 0x7004 m r.txBytes
    jAppend s (.ledgerClose r)

/-- Drop an open span without a record (R229, R248). -/
def dropSpan (s : State) (m : Nat) : State := modLedger s m fun l => { l with spanOpen := false, flags := 0 }

/-- The value of LEDGER totals P7000 to P7004: closed spans and the open one (R250, R257). -/
def ledgerTotal (s : State) (p m : Nat) : Nat :=
  param s p m + (if (getLedger s m).spanOpen then (spanTotals (getLedger s m)).getD (p - 0x7000) 0 else 0)

/-- Close the minute of one moon if its boundary has passed, and open the next at the boundary. -/
def closeMinute (s : State) (m : Nat) : State :=
  if minuteDue s (getMoon s m) then
    let b := s.orbit.now / minuteNs * minuteNs
    openSpanAt (closeSpan s m 0 b) m 0 b
  else s

/-- BILLING_MINUTE_CLOSE (R251, R253): at a minute boundary every open minute closes. -/
def execBillingMinuteClose (s : State) : Res := 
  whenUp s (if earlierDue s 6 (s.orbit.now / minuteNs * minuteNs) then s else (s.moons.map Prod.fst).foldl closeMinute s)

/-- Every record of the active region and the open pages, oldest first. -/
def allRecords (s : State) : List JRec := s.journal.committed ++ s.journal.programming ++ s.journal.openPage

/-- What a LEDGER_SNAP keeps of a moon (R477): START_ORBIT and the five totals, then the OCTETS and FLAGS that a POWER_LOSS record takes
from the span (R252, R253); the last two take no room in the payload [11]. -/
def snapTotals (x : Moon) : List Nat := x.ledger.startOrbit :: spanTotals x.ledger ++ [recordOctets x, x.ledger.flags]

/-- What the journal last snapped of a moon. -/
def lastSnap (l : List JRec) (m : Nat) : Option (List Nat) :=
  l.foldl (fun a r => match r.payload with
    | .ledgerSnap t => (match t.find? fun e => e.1 == m with | some e => some e.2 | none => a)
    | .ledgerClose c => if c.moon = m then none else a
    | _ => a) none

/-- The open totals of each moon as the journal keeps them (R251, R477). -/
def openTotals (s : State) : List (Nat × List Nat) := (s.moons.filter fun e => charged e.2).map fun e => (e.1, snapTotals e.2)

/-- Those of the moons whose open totals changed since the journal last held them (R477). -/
def changedTotals (s : State) : List (Nat × List Nat) :=
  (openTotals s).filter fun e => (lastSnap (allRecords s) e.1).map (List.take 6) != some (e.2.take 6)

/-- Append a LEDGER_SNAP when any total changed (R477). -/
def snapLedger (s : State) : State := if (changedTotals s).isEmpty then s else jAppend s (.ledgerSnap (changedTotals s))

/-- LEDGER_SNAP (R251, R477): every 1 s. -/
def execLedgerSnap (s : State) : Res :=
  if isUp s && decide (s.journal.snapAt + 1000000000 ≤ s.orbit.refNs) then
    .next (snapLedger { s with journal := { s.journal with snapAt := s.orbit.refNs } })
  else .next s

/-- Journaled class A counters that event records carry (R477): soft-fuses, HBM repairs,
retirements, core failures, health. -/
def eventCarried : List Nat := [0x3020, 0x4001, 0x4006, 0x4007, 0xB014, 0xB015, 0xB016, 0xB141]

/-- What the journal last held of a counter. -/
def lastCounter (l : List JRec) (k : Nat) : Option Nat :=
  l.foldl (fun a r => match r.payload with
    | .counters v => (match v.find? fun e => e.1 == k with | some e => some e.2 | none => a)
    | _ => a) none

/-- Journaled class A counters that changed since the journal last held them (R477). -/
def changedCounters (s : State) : List (Nat × Nat) :=
  s.dict.params.filter fun e =>
    (match paramInfo (e.1 / 65536) with | some i => i.journaled && i.cls == 1 | none => false) &&
    !(eventCarried.contains (e.1 / 65536)) &&
    (lastCounter (allRecords s) e.1).getD (paramDefault (e.1 / 65536)) != e.2

/-- Append COUNTERS records of at most 300 counters each. -/
def snapCounters (s : State) : State :=
  let l := changedCounters s
  (chunksOf 300 (l.length + 1) l).foldl (fun s c => if c.isEmpty then s else jAppend s (.counters c)) s

/-- COUNTERS (R477): every 1 s. -/
def execCounters (s : State) : Res :=
  if isUp s && decide (s.journal.countAt + 1000000000 ≤ s.orbit.refNs) then
    .next (snapCounters { s with journal := { s.journal with countAt := s.orbit.refNs } })
  else .next s

/-- The 64 bytes of a ledger record (R252). -/
def ledgerBytes (r : LedgerRec) (gap : Bool) : Bytes :=
  leBytes 4 r.recSeq.toNat ++ leBytes 1 r.moon ++ leBytes 1 r.octets ++ leBytes 2 (r.flags ||| if gap then 128 else 0) ++
  leBytes 8 r.startOrbit ++ leBytes 8 r.endOrbit ++ leBytes 8 r.engineUs ++ leBytes 8 r.moveUs ++ leBytes 8 r.heldUs ++
  leBytes 8 r.pageSec ++ leBytes 8 r.txBytes

/-- The value of LEDGER_READ (R254): the oldest unacknowledged record, or zeros. -/
def ledgerValue (s : State) (m : Nat) : Bytes :=
  match (getLedger s m).records with
  | [] => List.replicate 64 0
  | r :: _ => ledgerBytes r (getLedger s m).gap

/-- LEDGER_READ (R254). -/
def execLedgerRead (who : Who) (m : Nat) (s : State) : Res :=
  let m := effMoon who m
  query s who 0x7020 m fun s => .ok (s, ledgerValue s m)

/-- Acknowledge a held record and all earlier ones of the moon, or INVALID_VALUE (R254). -/
def ackLedger (m q : Nat) (s : State) : Except Nat State :=
  let l := getLedger s m
  if l.records.any fun r => r.recSeq.toNat == q then
    let rest := (l.records.dropWhile fun r => r.recSeq.toNat != q).drop 1
    .ok (jAppend (modLedger s m fun l => { l with records := rest, gap := false }) (.ledgerAck m (BitVec.ofNat 32 q)))
  else .error 7

/-- LEDGER_ACK (R254). -/
def execLedgerAck (who : Who) (m q : Nat) (s : State) : Res :=
  let m := effMoon who m
  command s who 0x7021 m (ackLedger m q)

/-- MOON_STAT_READ (R256): the moon's own role clears, other roles read live values. -/
def execMoonStatRead (who : Who) (m : Nat) (s : State) : Res :=
  let m := effMoon who m
  query s who 0x6030 m fun s => readStat s 0x6030 m (ownRole s who m)

end Sys2Proof.Machine
end

