-- ==== Sys2Proof/Machine/Pages.lean ====
section
/-! DEFINITION. Window pages (R41, R168 to R172, R181, R223 to R225): free pages, grants and releases, the save area, and the rows MAP, UNMAP,
PROTECT, REPLACE_POISONED (R243, R244). -/

namespace Sys2Proof.Machine

/-- Choose one of a list, which one being open [16]. -/
def drawFrom (l : List Nat) (s : State) : Option Nat × State :=
  match l with
  | [] => (none, s)
  | a :: r => let (n, s) := draw s; (some ((a :: r).getD (Config.pick n % (r.length + 1)) a), s)

/-- Pages reserved by moons and their save areas (R223, R230). -/
def reservedPages (s : State) : Nat := (s.moons.map fun e => e.2.hbmPages + e.2.save.length).foldl (· + ·) 0

/-- Retired pages of the module. -/
def retiredPages (s : State) : Nat := (s.mem.pages.filter fun e => e.2.use == .retired).length

/-- Free window pages once the reserved ones are taken out (R230). -/
def availPages (s : State) : Nat := 8 * windowPages - retiredPages s - reservedPages s

/-- The stack with the most free pages, the lowest such stack. -/
def mostFree (s : State) : Nat :=
  (upTo 8).foldl (fun b k => if (freePages s b).length < (freePages s k).length then k else b) 0

/-- Stacks of the dies of some octets, ascending (R23, R244). -/
def stacksOf (octets : List Nat) : List Nat := (octets.foldl (fun l k => addNum l (k / 16)) []).flatMap fun d => [2 * d, 2 * d + 1]

/-- The octets on whose dies a moon's pages go: its own, or for a pool moon the pool's (R225). -/
def homeOctets (s : State) (m : Nat) : List Nat := if (getMoon s m).pool then bitsOf s.cores.poolNow 64 else (getMoon s m).octets

/-- The failing marks that lie outside a page. -/
def marksOutside (marks : List Nat) (key : Nat) : List Nat := marks.filter fun w => w * 32 / 2 ^ 21 != key

/-- Give a free page to a moon: zeros under the new owner's key (R172). -/
def givePage (s : State) (m key : Nat) (u : PageUse) : State :=
  let s := setPage s key ⟨u, m⟩
  { s with mem := { s.mem with hbm := memZero s.mem.hbm (pageHpa key 0) pageBytes, ueHbm := marksOutside s.mem.ueHbm key
                               msc := s.mem.msc.filter fun l => l.line * 256 / 2 ^ 21 != key } }

/-- One free page for a moon, from the first stack of `pref` that has one, otherwise from the stack with the most free pages (R181, R225). -/
def grantPage (s : State) (m : Nat) (u : PageUse) (pref : List Nat) : Option (Nat × State) :=
  let st := (pref.find? fun k => !(freePages s k).isEmpty).getD (mostFree s)
  match drawFrom (freePages s st) s with
  | (some key, s) => some (key, givePage s m key u)
  | (none, _) => none

/-- `n` pages round-robin over the stacks (R225, R244). -/
def grantPages (s : State) (m : Nat) (u : PageUse) (pref : List Nat) (n : Nat) : State × List Nat :=
  match n with
  | 0 => (s, [])
  | n + 1 =>
    match grantPage s m u pref with
    | none => (s, [])
    | some (key, s) =>
      let (s, l) := grantPages s m u (pref.drop 1 ++ pref.take 1) n
      (s, key :: l)

/-- A page returns to the free list, or is retired if it was retire-pending (R181). -/
def freePage (s : State) (key : Nat) : State :=
  if (pageInfo s key).use = .retirePending ∨ key ∈ s.mem.retirePend then
    retirePage { s with mem := { s.mem with retirePend := delNum s.mem.retirePend key } } key
  else { s with mem := { s.mem with pages := tdel s.mem.pages key } }

/-- Drop a moon's memory-side cache lines of a page without write-back (R244). -/
def dropLines (s : State) (m key : Nat) : State :=
  (s.mem.msc.filter fun l => l.moon == m && l.line * 256 / 2 ^ 21 == key).foldl mscDiscard s

/-- Another moon's table maps a window page (R170). -/
def mappedElsewhere (s : State) (m key : Nat) : Bool :=
  s.moons.any fun e => e.1 != m && e.2.table.any fun t => pageKey t.2.stack t.2.page == key

/-- The page table indexes at which a moon's versions hold attached shared bases (R347). -/
def attachedIdx (s : State) (m : Nat) : List Nat :=
  (tget s.serve Serve.reset m).slots.flatMap fun e => (e.2.versions.filter fun v => v.shared.isSome).flatMap Version.pages

/-- Moon 0 may not release a page of a shared base while its attach count is above 0 (R347). -/
def baseHeld (s : State) (m key : Nat) : Bool :=
  m == 0 && s.fetch.shared.any fun b => b.2.attached != 0 && b.2.pages.any fun i => match entryOf s 0 i with
    | some e => pageKey e.stack e.page == key
    | none => false

/-- Pages of its own that a moon maps, counted against HBM_PAGES (R244); shared pages are their owner's (R170). -/
def mappedCount (s : State) (m : Nat) : Nat :=
  let att := attachedIdx s m
  ((getMoon s m).table.filter fun e => e.2.owner == m && !att.contains e.1).length

/-- An entry that changes leaves the translation caches (R168). -/
def tlbDrop (s : State) (m i : Nat) : State := { s with mem := { s.mem with tlb := s.mem.tlb.filter fun e => !(e.moon == m && e.page == i) } }

/-- Set one page table entry. -/
def setEntry (s : State) (m i : Nat) (e : PageEntry) : State := tlbDrop (modMoon s m fun x => { x with table := tset x.table i e }) m i

/-- The save area of a moon has `n` pages: more are granted, or the last ones leave (R225, R240). -/
def resave (s : State) (m n : Nat) : State :=
  let x := getMoon s m
  if x.save.length ≤ n then
    let (s, l) := grantPages s m .save (stacksOf (homeOctets s m)) (n - x.save.length)
    modMoon s m fun x => { x with save := x.save ++ l }
  else
    let s := (x.save.drop n).foldl freePage s
    modMoon s m fun x => { x with save := x.save.take n }

/-! ## A fetch that ends (R341, R344) -/

/-- Unmap pages of a moon and free those it owns, as UNMAP does (R244). -/
def unmapPages (s : State) (m : Nat) (l : List Nat) : State :=
  l.foldl (fun s i => match entryOf s m i with
    | none => s
    | some e =>
      let k := pageKey e.stack e.page
      let s := dropLines (tlbDrop (modMoon s m fun x => { x with table := tdel x.table i }) m i) m k
      let still := (getMoon s m).table.any fun f => pageKey f.2.stack f.2.page == k
      if e.owner = m ∧ !still then freePage s k else s) s

/-- The number of a fetch operation (R341). -/
def fetchOpCode : FetchOp → Nat
  | .loadBase => 1
  | .loadOverlay => 2
  | .loadVariant => 3
  | .attachShared => 4
  | .dropShared => 5
  | .cancel => 6

/-- FETCH_STATUS, coded like MOON_CMD_STATUS, and FETCH_DONE to the writer (R341). -/
def fetchStatus (s : State) (m : Nat) (who : Who) (op : FetchOp) (id code : Nat) : State :=
  let v := (if code = 0 then 3 else 4) + 256 * fetchOpCode op + 65536 * code
  raiseWriter { s with fetch := { s.fetch with status := tset s.fetch.status m (BitVec.ofNat 32 v) } } who m 0x0802 [id, v]

/-- A running fetch ends with a code: its pages are unmapped, its slot returns to what it was, its window is let go (R344). -/
def endFetch (s : State) (m code : Nat) : State :=
  match tfind s.fetch.jobs m with
  | none => s
  | some j =>
    let s := unmapPages s m j.granted
    let v := getServe s m
    let s := if j.cmd.slot < 16 ∧ !j.slotGone then
        setServe s m { v with slots := tmod v.slots Slot.reset j.cmd.slot fun x =>
          if x.state = .loading then { x with state := j.prevSlot } else x }
      else s
    let s := if j.cmd.share then
        { s with fetch := { s.fetch with shared := tmod s.fetch.shared SharedBase.reset j.cmd.sb fun x => if x.state = 1 then SharedBase.reset else x } }
      else s
    let s := { s with fetch := { s.fetch with
      jobs := tdel s.fetch.jobs m
      bar4Owner := if s.fetch.bar4Owner = some m then none else s.fetch.bar4Owner
      bar4 := if s.fetch.bar4Owner = some m then [] else s.fetch.bar4 } }
    fetchStatus s m j.who j.op j.cmd.fetchId code

/-! ## Page requests -/

/-- The MA page indexes of a request. -/
def reqRange (r : PageReq) : List Nat := (upTo r.count).map fun i => r.first + i

/-- OP_BAD of a page request: a reserved field, no pages, a range past the table (R168, R243). -/
def reqBad (r : PageReq) : Bool := r.rsv || r.count == 0 || decide (524288 < r.first + r.count)

/-- Stacks for a MAP: those of the moon's dies from STACK_PREF on, or from the lowest (R244). -/
def mapStacks (s : State) (m pref : Nat) : List Nat :=
  let l := stacksOf (homeOctets s m)
  match l.findIdx? fun k => k == pref with
  | some i => l.drop i ++ l.take i
  | none => l

/-- Enter granted pages into a table. -/
def enterPages (s : State) (m : Nat) (r w : Bool) (l : List (Nat × Nat)) : State :=
  l.foldl (fun s e => setEntry s m e.1 { r := r, w := w, poison := false, migrating := false, stack := e.2 / 32768,
                                          page := e.2 % 32768, owner := m }) s

/-- Act on a page request: the code of R227 and the state (R244). -/
def pageAct (op m : Nat) (q : PageReq) (s : State) : Nat × State :=
  let has := fun i => (entryOf s m i).isSome
  if reqBad q || op == 0 || decide (4 < op) then (1, s)
  else if (getMoon s m).state = .free then (2, s)
  else match op with
  | 1 =>
    if (reqRange q).any (fun i => has i) then (2, s)
    else if (getMoon s m).hbmPages < mappedCount s m + q.count then (4, s)
    else
      let (t, l) := grantPages s m .granted (mapStacks s m q.stackPref) q.count
      if l.length < q.count then (4, s) else (0, enterPages t m q.permR q.permW ((reqRange q).zip l))
  | 2 =>
    let es := (reqRange q).filterMap (entryOf s m)
    if es.length ≠ q.count then (2, s)
    else if es.any (fun e => e.owner == m && (mappedElsewhere s m (pageKey e.stack e.page) || baseHeld s m (pageKey e.stack e.page))) then (0xB, s)
    else (0, unmapPages s m (reqRange q))
  | 3 =>
    if !((reqRange q).all fun i => has i) then (2, s)
    else
      let f := fun (e : Nat × PageEntry) =>
        if (reqRange q).contains e.1 then (e.1, { e.2 with r := q.permR, w := q.permW && e.2.owner == m && !(attachedIdx s m).contains e.1 }) else e
      (0, (reqRange q).foldl (fun s i => tlbDrop s m i) (modMoon s m fun x => { x with table := x.table.map f }))
  | _ =>
    let es := (reqRange q).filterMap fun i => match entryOf s m i with
      | some e => if e.poison && e.owner == m then some (i, e) else none
      | none => none
    if es.any (fun e => mappedElsewhere s m (pageKey e.2.stack e.2.page) || baseHeld s m (pageKey e.2.stack e.2.page)) then (0xB, s)
    else
      let (t, l) := grantPages s m .granted (mapStacks s m 0xFF) es.length
      if l.length < es.length then (4, s)
      else (0, (es.zip l).foldl (fun s x =>
        let old := pageKey x.1.2.stack x.1.2.page
        freePage (dropLines (setEntry s m x.1.1 { x.1.2 with poison := false, stack := x.2 / 32768, page := x.2 % 32768 }) m old) old) t)

/-- A page request written by a role (R243, R244): its status and PAGE_REQ_DONE. -/
def pageReq (who : Who) (op m : Nat) (q : PageReq) (s : State) : Except Nat State :=
  let (c, t) := pageAct op m q s
  let v := (if c = 0 then 3 else 4) + 256 * op + 65536 * c
  .ok (raiseWriter (modMoon t m fun x => { x with pageReq := BitVec.ofNat 32 v }) who m 0x0604 [v])

/-- A page request of one operation. -/
def execPage (op : Nat) (who : Who) (m : Nat) (q : PageReq) (s : State) : Res :=
  let m := effMoon who m
  command s who 0x6020 m (pageReq who op m q)

/-- MAP (R244). -/
def execMap (who : Who) (m : Nat) (q : PageReq) (s : State) : Res := execPage 1 who m q s

/-- UNMAP (R244). -/
def execUnmap (who : Who) (m : Nat) (q : PageReq) (s : State) : Res := execPage 2 who m q s

/-- PROTECT (R244). -/
def execProtect (who : Who) (m : Nat) (q : PageReq) (s : State) : Res := execPage 3 who m q s

/-- REPLACE_POISONED (R244). -/
def execReplacePoisoned (who : Who) (m : Nat) (q : PageReq) (s : State) : Res := execPage 4 who m q s

end Sys2Proof.Machine
end

