-- ==== Sys2Proof/Machine/Moons.lean ====
section
/-! DEFINITION. Moons (R223 to R230, R235 to R242, R247 to R249): what a moon holds and gives back, spilling and restoring, the checks and the
grants of a MOON_CMD, and the rows CREATE, RESIZE, RELEASE, SUSPEND, RESUME, MOON_CMD_CANCEL, MOON_CMD_WHEN, ADMISSION_DONE,
RESIZE_STEP_BOUNDARY, MIGRATE_OUT, MIGRATE_IN, MIGRATE_RECLAIM. -/

namespace Sys2Proof.Machine

/-! ## Commands and states (R226 to R228) -/

/-- The number of an operation (R226). -/
def opCode : MoonOp → Nat
  | .create => 1
  | .resize => 2
  | .release => 3
  | .suspend => 4
  | .resume => 5
  | .migrateOut => 6
  | .migrateIn => 7
  | .reclaim => 8
  | .cancel => 9

/-- The operations allowed in a state (R228). -/
def opAllowed (st : MoonState) (op : MoonOp) : Bool :=
  match st with
  | .free => op == .create || op == .migrateIn
  | .admitting => op == .cancel
  | .active => op == .resize || op == .release || op == .suspend || op == .migrateOut
  | .waiting => op == .resize || op == .release || op == .suspend || op == .migrateOut
  | .suspended => op == .resize || op == .release || op == .resume || op == .migrateOut
  | .resizing => op == .cancel
  | .migrating => op == .release || op == .cancel
  | .moved => op == .release || op == .reclaim
  | .arriving => op == .release || op == .resume
  | .releasing => false

/-- MOON_CMD_STATUS (R227). -/
def setStatus (s : State) (m st : Nat) (op : MoonOp) (code : Nat) : State :=
  modMoon s m fun x => { x with status := BitVec.ofNat 32 (st + 256 * opCode op + 65536 * code) }

/-- A command ends: DONE or FAILED with a code, and MOON_CMD_DONE to its writer (R227). -/
def endCmd (s : State) (m : Nat) (op : MoonOp) (who : Who) (code : Nat) : State :=
  let st := if code = 0 then 3 else 4
  raiseWriter (setStatus s m st op code) who m 0x0603 [st + 256 * opCode op + 65536 * code]

/-- The moon's command in progress ends. -/
def endJob (s : State) (m code : Nat) : State :=
  match (getMoon s m).job with
  | none => s
  | some j => endCmd (modMoon s m fun x => { x with job := none }) m j.op j.who code

/-- OP_BAD (R226, R227): a reserved field or value; "unchanged" stands for nothing at an admission [18]. -/
def moonCmdBad (op : MoonOp) (c : MoonCmd) (pool : Bool) : Bool :=
  c.rsv ||
  match op with
  | .create | .migrateIn =>
    !(decide (1 ≤ c.syncBlocks ∧ c.syncBlocks ≤ 255)) || decide (1000 < c.linkShare) || (op == .migrateIn && decide (63 < c.peerMoon)) || c.hbmPages == 2 ^ 32 - 1 ||
    (if c.pool then c.share == 0 || c.poolCount == 0 else c.octets == 0 || c.octets == 2 ^ 64 - 1)
  | .resize =>
    !(decide (1 ≤ c.syncBlocks ∧ c.syncBlocks ≤ 255) || c.syncBlocks == 0xFFFF) || !(decide (c.linkShare ≤ 1000) || c.linkShare == 0xFFFF) || (if pool then c.poolCount == 0 else c.octets == 0)
  | .migrateOut => decide (63 < c.peerMoon)
  | _ => false

/-! ## Resources -/

/-- Octets of the pool (R233). -/
def poolOctets (s : State) : List Nat := bitsOf s.cores.poolNow 64

/-- An octet is free for a dedicated moon: not held nor the place that one moves to, not in the pool or in a mask that waits to become the pool (R233), not withdrawn (R227, R29). -/
def octetFree (s : State) (k : Nat) : Bool :=
  !(s.moons.any fun e => e.2.octets.contains k || e.2.moves.any fun v => v.2.1 == k) && !(poolOctets s).contains k && !(param s 0x6005 0).testBit k && !s.cores.withdrawn.contains k

/-- Synchronisation blocks that no moon holds; the module has 256 (R194). -/
def freeBlocks (s : State) : List Nat :=
  let held := s.moons.flatMap fun e => e.2.blocks
  (upTo 256).filter fun b => !held.contains b

/-- A moon's key slot is LOADED (R511). -/
def keyLoaded (s : State) (m : Nat) : Bool := (tget s.sec.slots KeySlot.reset m).key.isSome

/-- SAVE_PAGES of a moon of `o` octets (R225). -/
def savePages (o : Nat) : Nat := 65 * o + 1

/-- Grant one block to a moon, its objects at 0 (R194, R195). -/
def grantBlock (s : State) (m : Nat) : State :=
  match drawFrom (freeBlocks s) s with
  | (none, s) => s
  | (some b, s) =>
    let s := { s with tasks := { s.tasks with objs := s.tasks.objs.filter fun e => e.1 / 256 != b, blocks := tset s.tasks.blocks b m } }
    modMoon s m fun x => { x with blocks := x.blocks ++ [b] }

/-- Grant `n` blocks. -/
def grantBlocks (s : State) (m n : Nat) : State := (upTo n).foldl (fun s _ => grantBlock s m) s

/-- A moon keeps its first `n` blocks; those granted last are withdrawn (R242). -/
def keepBlocks (s : State) (m n : Nat) : State :=
  let gone := (getMoon s m).blocks.drop n
  let s := { s with tasks := { s.tasks with
    objs := s.tasks.objs.filter fun e => !gone.contains (e.1 / 256), blocks := s.tasks.blocks.filter fun e => !gone.contains e.1 } }
  modMoon s m fun x => { x with blocks := x.blocks.take n }

/-- Class B counters of a moon and the intervals of their groups, by its number as element (R222, R257, R300, R336). -/
def moonCounters : List Nat :=
  [0x6030, 0x6031, 0x6032, 0x6100, 0x6101, 0x6102, 0x6103, 0x8040, 0x8041, 0x8042, 0x8043, 0x8044, 0x8045, 0x8046, 0x8047,
   0x9020, 0x9021, 0x9022, 0x9023, 0x9024]

/-- Class A counters of a moon by its number as element, the ledger totals apart. -/
def moonCountersA : List Nat := [0x5052, 0x6033, 0x6111, 0x8053, 0x9204, 0x9403]

/-- The element within moon `m` of a statistics key, none when it is another's: format statistics and MODEL_STEPS_TOTAL carry
256 × moon + tag or slot. -/
def keyOf (m k : Nat) : Option (Nat × Nat) :=
  let p := k / 65536
  let e := k % 65536
  if (decide (0x9100 ≤ p ∧ p ≤ 0x9106) || p == 0x8032) && e / 256 == m then some (p, e % 256)
  else if ((moonCounters ++ moonCountersA ++ [0x7000, 0x7001, 0x7002, 0x7003, 0x7004]).contains p) && e == m then some (p, 0)
  else none

/-- The key of an element within moon `m`. -/
def keyFor (m p e : Nat) : Nat := if (0x9100 ≤ p ∧ p ≤ 0x9106) ∨ p = 0x8032 then pkey p (256 * m + e) else pkey p m

/-- Set a moon's counters to 0 and start fresh intervals (R83, R222, R230, R248); the ledger totals only at a release (R257). -/
def clearCounters (s : State) (m : Nat) (ledger : Bool) : State :=
  let gone (k : Nat) : Bool := match keyOf m k with | some (p, _) => ledger || !(decide (0x7000 ≤ p ∧ p ≤ 0x7004)) | none => false
  let now := (s.orbit.now, s.orbit.state != .unlocked)
  let groups := [pkey 0x6030 m, pkey 0x6100 m, pkey 0x8040 m, pkey 0x9020 m] ++ (upTo 256).map fun t => pkey 0x9100 (256 * m + t)
  { s with
    stat := { s.stat with
      cnt := s.stat.cnt.filter fun e => !gone e.1, snap := s.stat.snap.filter fun e => !gone e.1
      raised := s.stat.raised.filter fun k => !gone k
      fmtInfo := s.stat.fmtInfo.filter fun e => e.1 / 256 != m, fmtSnap := s.stat.fmtSnap.filter fun e => e.1 / 256 != m
      start := groups.foldl (fun t k => tset t k now) s.stat.start }
    dict := { s.dict with
      params := s.dict.params.filter fun e => !gone e.1, stuckList := s.dict.stuckList.filter fun k => !gone k
      blobs := tdel s.dict.blobs (pkey 0xA011 m) } }

/-! ## Cores (R183, R235, R241) -/

/-- Z1 and Z2 of R183: vector registers, operand caches and scratchpad segments of cores are cleared. -/
def clearCores (s : State) (cores : List Nat) : State :=
  { s with
    cores := { s.cores with vregs := s.cores.vregs.filter fun e => !cores.contains (e.1 / 65536) }
    mem := { s.mem with
      spm := s.mem.spm.filter fun e => !cores.contains (e.1 / 2 ^ 24)
      ueSpm := s.mem.ueSpm.filter fun w => !cores.contains (w * 8 / 2 ^ 24)
      dirty := s.mem.dirty.filter fun d => !cores.contains d.core
      opc := s.mem.opc.filter fun x => !cores.contains x.core
      ueOpc := s.mem.ueOpc.filter fun x => !cores.contains x.1 } }

/-- The offset of core `j`'s image in the save area (R225). -/
def imageAt (j : Nat) : Nat := 2 ^ 21 + 2 ^ 24 * j

/-- The scratchpad contents of cores as an image, in the order given. -/
def imageOf (s : State) (cores : List Nat) : List Host.Cell :=
  ((upTo cores.length).zip cores).flatMap fun e =>
    (memPart s.mem.spm (e.2 * 2 ^ 24) (2 ^ 24)).map fun c => (imageAt e.1 + c.1, c.2)

/-- The failing words of cores as marks of an image. -/
def imageMarks (s : State) (cores : List Nat) : List Nat :=
  ((upTo cores.length).zip cores).flatMap fun e =>
    (s.mem.ueSpm.filter fun w => w * 8 / 2 ^ 24 == e.2).map fun w => (imageAt e.1 + w * 8 % 2 ^ 24) / 8

/-- Put an image onto cores, each segment replaced whole. -/
def putImage (s : State) (cores : List Nat) (im : List Host.Cell) (marks : List Nat) : State :=
  let s := clearCores s cores
  ((upTo cores.length).zip cores).foldl (fun s e =>
    { s with mem := { s.mem with
        spm := memPut s.mem.spm (e.2 * 2 ^ 24) (memPart im (imageAt e.1) (2 ^ 24))
        ueSpm := (marks.filter fun w => decide (imageAt e.1 ≤ w * 8 ∧ w * 8 < imageAt e.1 + 2 ^ 24)).foldl
          (fun l w => addNum l ((e.2 * 2 ^ 24 + (w * 8 - imageAt e.1)) / 8)) s.mem.ueSpm } }) s

/-- Runs of consecutive numbers in an ascending list: first and length. -/
def runsOf (l : List Nat) : List (Nat × Nat) :=
  l.foldr (fun a r => match r with
    | (b, n) :: t => if a + 1 = b then (a, n + 1) :: t else (a, 1) :: r
    | [] => [(a, 1)]) []

/-- POISONED_SCRATCHPAD for the failing words of a core (R27, R178): one event for each run of 64-byte lines. -/
def poisonEvents (s : State) (m core : Nat) (words : List Nat) : State :=
  let lines := words.foldl (fun l w => addNum l (w * 8 % 2 ^ 24 / 64)) []
  (runsOf lines).foldl (fun s r => raiseMoon s m 0x0303 [core, 64 * r.1, r.2]) s

/-- Write back every dirty byte of a moon (E4 of R235). -/
def writeBackMoon (s : State) (m : Nat) : State :=
  (s.tasks.tasks.filter fun t => t.moon == m).foldl (fun s t => writeBack s m t.ring t.seq) s

/-- A moon's comet streams stop (R175). -/
def cometStop (s : State) (m : Nat) : State := { s with mem := { s.mem with comet := s.mem.comet.filter fun c => c.moon != m } }

/-- A whole-moon pre-emption begins (E1 of R235); it counts in PREEMPTS (R257). Its MOVE tasks stop at their next chunk (E2), and are marked as
pre-empted (R213). -/
def beginSpill (s : State) (m : Nat) : State :=
  let s := { s with tasks := { s.tasks with tasks := s.tasks.tasks.map fun t =>
    if t.moon == m && t.phase == .running && t.desc.kind == 3 then { t with preempted := true } else t } }
  incB (cometStop (modMoon s m fun x => { x with swap := .spilling, swapAt := s.orbit.refNs }) m) 0x6030 m 1

/-- The reference time since a swap began, in SPILL_US (R256). -/
def countSwap (s : State) (m : Nat) : State := incA s 0x6033 m ((s.orbit.refNs - (getMoon s m).swapAt) / 1000)

/-- A restore of a pool moon that has not ended is given up: its images stay in the save area (R228, R237). -/
def endRestore (s : State) (m : Nat) : State :=
  let s := if (getMoon s m).swap == .restoring then countSwap s m else s
  modMoon s m fun x => { x with octets := if x.pool && x.spilled then [] else x.octets, nextOctets := [], swap := .none }

/-- E4 to E6 of R235: contexts and dirty lines saved, scratchpads imaged; the cores of a pool moon are cleared and leave it (R236). -/
def saveMoon (s : State) (m : Nat) : State :=
  let cores := moonCores s m
  let s := writeBackMoon s m
  let im := imageOf s cores
  let marks := imageMarks s cores
  let s := cores.foldl (fun s c => poisonEvents s m c (s.mem.ueSpm.filter fun w => w * 8 / 2 ^ 24 == c)) s
  let s := countSwap s m
  let s := if (getMoon s m).pool then clearCores s cores else s
  modMoon s m fun x => { x with image := im, imageUe := marks, spilled := true, swap := .none,
                                octets := if x.pool then [] else x.octets, residentAt := none }

/-- A whole-moon suspension that has not reached its save area is given up: arrivals held since it began are written (R229, R365). -/
def endSpill (s : State) (m : Nat) : State := deliverHeld (modMoon s m fun x => { x with state := .active, swap := .none }) m

/-- E7 of R235: images and contexts return to the moon's cores. -/
def restoreMoon (s : State) (m : Nat) : State :=
  let x := getMoon s m
  let s := if x.spilled then putImage s (moonCores s m) x.image x.imageUe else s
  let s := if x.swap == .restoring then countSwap s m else s
  deliverHeld (modMoon s m fun x => { x with spilled := false, swap := .none, image := [], imageUe := [] }) m

/-! ## Admission (R230) -/

/-- The first check of R227 that a CREATE or MIGRATE_IN fails, 0 for none. -/
def admitCheck (s : State) (m : Nat) (c : MoonCmd) : Nat :=
  let octs := bitsOf c.octets 64
  let n := if c.pool then c.poolCount else octs.length
  let others := s.moons.filter fun e => e.1 != m
  if !c.pool && octs.any (fun k => !octetFree s k) then 3
  else if availPages s < c.hbmPages + savePages n then 4
  else if (freeBlocks s).length < c.syncBlocks then 5
  else if 1000 < (others.map fun e => e.2.linkShare).foldl (· + ·) c.linkShare then 6
  else if !keyLoaded s m then 7
  else if c.privileged && decide (8 ≤ (others.filter fun e => e.2.privileged).length) then 8
  else if c.pool && decide ((poolOctets s).length < Nat.max c.poolCount 1) then 9
  else 0

/-- The grants of an admission in one step (R230); the moon is ADMITTING and a CREATE has opened its ledger entry. -/
def takeIn (s : State) (m : Nat) (c : MoonCmd) (create : Bool) : State :=
  let x := getMoon s m
  let y : Moon := { Moon.reset with
    state := .admitting, pool := c.pool, privileged := c.privileged, octets := if c.pool then [] else bitsOf c.octets 64
    poolCount := if c.pool then c.poolCount else 0, linkShare := c.linkShare, hbmPages := c.hbmPages, job := x.job, status := x.status
    migCmd := if create then none else some c, ledger := { Ledger.reset with recSeq := x.ledger.recSeq, records := x.ledger.records
                                                                             gap := x.ledger.gap } }
  let s := setMoon s m y
  let s := { s with dict := { s.dict with params := tdel s.dict.params (pkey 0x6004 m) } }
  let s := if c.share = 0 then s else setParam s 0x6004 m c.share
  let s := { s with tasks := { s.tasks with shares := tset s.tasks.shares m (param s 0x6004 m) } }
  let s := resave s m (savePages (if c.pool then c.poolCount else y.octets.length))
  let s := clearCounters (grantBlocks s m c.syncBlocks) m false
  if create then openSpan s m 1 else s

/-- Where a moon goes once admitted or restored: WAITING for a pool moon, ACTIVE otherwise. -/
def readyState (x : Moon) : MoonState := if x.pool then .waiting else .active

/-- The grants of an admission return (R229). -/
def unadmit (s : State) (m : Nat) : State :=
  let s := keepBlocks s m 0
  let s := resave s m 0
  let x := getMoon s m
  setMoon s m { Moon.reset with job := x.job, status := x.status
                                ledger := { x.ledger with spanOpen := false, flags := 0, engineNs := 0, moveNs := 0, heldNs := 0, pageNs := 0 } }

/-! ## Release (R248) -/

/-- Tasks, transfers, holds and units of a moon end without records (steps 1 to 3 of R248). -/
def stopMoon (s : State) (m : Nat) : State :=
  let s := withdrawArrivals (cometStop s m) fun a _ _ => a == m
  let s := (s.links.rx.filter fun r => r.flit.destMoon == m).foldl (fun s r =>
    returnCredit s r.port m (1 + (r.got.length + flitBytes s r.port - 1) / flitBytes s r.port)) s
  let s := (upTo 32).foldl (fun s p => returnHeld s p m) s
  { s with
    tasks := { s.tasks with tasks := s.tasks.tasks.filter fun t => t.moon != m
                            rings := s.tasks.rings.map fun e =>
                              if e.1 / 16 == m then (e.1, { e.2 with state := .disabled, enable := false, failKept := false }) else e }
    mem := { s.mem with dirty := s.mem.dirty.filter fun d => d.moon != m, opc := s.mem.opc.filter fun x => x.moon != m,
                        ueOpc := s.mem.ueOpc.filter fun x => x.2.1 != m,
                        tlb := s.mem.tlb.filter fun x => x.moon != m, demand := s.mem.demand.filter fun x => x.moon != m }
    links := { s.links with tx := s.links.tx.filter fun t => t.moon != m
                            rx := s.links.rx.filter fun r => r.flit.destMoon != m
                            rxXfers := s.links.rxXfers.filter fun r => r.destMoon != m }
    serve := tdel s.serve m
    train := tdel s.train m
    fetch := { s.fetch with jobs := tdel s.fetch.jobs m
                            shared := if m = 0 then [] else (tget s.serve Serve.reset m).slots.foldl (fun t e =>
                              e.2.versions.foldl (fun t v => match v.shared with
                                | some b => tmod t SharedBase.reset b fun x => { x with attached := x.attached - 1 }
                                | none => t) t) s.fetch.shared
                            bar4Owner := if s.fetch.bar4Owner = some m then none else s.fetch.bar4Owner
                            bar4 := if s.fetch.bar4Owner = some m then [] else s.fetch.bar4 } }

/-- A moon that is gone keeps no place in the receive buffers (R363). -/
def closeCredit (s : State) (m : Nat) : State :=
  { s with links := { s.links with ports := s.links.ports.map fun e =>
      (e.1, { e.2 with rxUsed := tdel e.2.rxUsed m, heldBy := tdel e.2.heldBy m, wants := delNum e.2.wants m }) } }

/-- Steps 1 to 6 of R248 with the ledger record already settled: stop, clear (Z1 to Z4), free, FREE. -/
def freeMoon (s : State) (m : Nat) : State :=
  let s := clearCores (stopMoon s m) (moonCores s m)
  let s := { s with
    mem := { s.mem with msc := s.mem.msc.filter fun l => l.moon != m }
    sec := { s.sec with slots := tdel s.sec.slots m } }
  let s := (getMoon s m).table.foldl (fun s e =>
    if e.2.owner = m then freePage s (pageKey e.2.stack e.2.page) else s) s
  let s := keepBlocks (resave s m 0) m 0
  let x := getMoon s m
  let s := setMoon s m { Moon.reset with
    job := x.job, status := x.status, ledger := { Ledger.reset with recSeq := x.ledger.recSeq, records := x.ledger.records, gap := x.ledger.gap } }
  clearCounters (closeCredit s m) m true

/-- Another moon maps one of a moon's pages (R248). -/
def pagesShared (s : State) (m : Nat) : Bool :=
  (s.moons.any fun e => e.1 != m && e.2.table.any fun t => t.2.owner == m) ||
  (m == 0 && s.fetch.shared.any fun b => b.2.attached != 0)

/-- RELEASE (R248): the final ledger record, then everything returns; in ARRIVING without a record. The span of a moon in MOVED ended at M7, and its
last record covers the time from there, for which nothing has been charged (R250). -/
def releaseMoon (s : State) (m : Nat) : State :=
  let x := getMoon s m
  let s := if x.state = .moved ∧ !x.ledger.spanOpen then openSpanAt s m 0 x.ledger.startOrbit else s
  freeMoon (closeSpan s m 2 s.orbit.now) m

/-! ## Resizing (R240 to R242) -/

/-- The octets of a moon once its octet moves have ended (R249). -/
def places (x : Moon) : List Nat := x.moves.foldl (fun l v => addNum (delNum l v.1) v.2.1) x.octets

/-- What a RESIZE asks for: octets, their count, pages, blocks. -/
structure ResizePlan where
  octets : List Nat
  count  : Nat
  pages  : Nat
  blocks : Nat
  deriving DecidableEq, Repr

/-- The plan of a RESIZE record over a moon; all ones leave a field unchanged (R226). -/
def resizePlan (x : Moon) (c : MoonCmd) : ResizePlan :=
  let octs := if x.pool then x.octets else if c.octets = 2 ^ 64 - 1 then places x else bitsOf c.octets 64
  { octets := octs
    count := if x.pool then c.poolCount else octs.length
    pages := if c.hbmPages = 2 ^ 32 - 1 then x.hbmPages else c.hbmPages
    blocks := if c.syncBlocks = 0xFFFF then x.blocks.length else c.syncBlocks }

/-- The first check of R242 that a RESIZE fails, in code order, 0 for none; a withdrawn octet is unavailable also to the moon that held it (R249). -/
def resizeCheck (s : State) (m : Nat) (p : ResizePlan) : Nat :=
  let x := getMoon s m
  if p.octets.any (fun k => s.cores.withdrawn.contains k || (!(places x).contains k && !octetFree s k)) then 3
  else if availPages s + x.hbmPages + x.save.length < p.pages + savePages p.count then 4
  else if (freeBlocks s).length + x.blocks.length < p.blocks then 5
  else if x.pool && decide ((poolOctets s).length < p.count) then 9
  else if p.pages < mappedCount s m then 0xA
  else 0

/-- The step boundary of a moon (R240): no GEMM, CHAIN, MOVE or STEP task has started without completing, no program of the pipeline unit
runs (R311) and no turn plan (R333). -/
def atBoundary (s : State) (m : Nat) : Bool :=
  !(getTrain s m).active && (ringTasks s m 33).isEmpty &&
  !(s.tasks.tasks.any fun t => t.moon == m && [1, 2, 3, 5].contains t.desc.kind && t.started && !t.completed)

/-- Move scratchpad segments from the old cores to the new ones by moon-local index; the leaving cores are cleared (R241). -/
def moveSegments (s : State) (old new : List Nat) : State :=
  let im := imageOf s (old.take new.length)
  let marks := imageMarks s (old.take new.length)
  putImage (clearCores s (old.filter fun c => !new.contains c)) new im marks

/-- Demote in every stack. -/
def demoteAll (s : State) (m : Nat) : State := (upTo 8).foldl (fun s k => demote s m k) s

/-- The oldest unstarted task of a ring is checked under R194 again; one whose objects have left the moon fails with SYNC_RANGE (R242). -/
def recheckSync (s : State) (m r : Nat) : State :=
  match oldestUnstarted s m r with
  | none => s
  | some t =>
    match syncRange s m t.desc with
    | none => s
    | some k =>
      let x := getRing s m r
      failTask (if t.ofPlan then s else setRing s m r { x with started := t.seq + 1 }) { t with startAt := s.orbit.now } 0x0106 0 k

/-- The changes of a resize at its boundary (R240 to R242); a resident pool moon whose count changes leaves its octets (R233). -/
def applyResize (s : State) (m : Nat) (p : ResizePlan) : State :=
  let x := getMoon s m
  let old := moonCores s m
  let s := if x.pool && p.count != x.poolCount && !x.octets.isEmpty then saveMoon (modMoon s m fun x => { x with swapAt := s.orbit.refNs }) m else s
  let s := modMoon s m fun x => { x with octets := if x.pool then x.octets else p.octets, poolCount := if x.pool then p.count else 0 }
  let new := moonCores s m
  let cut (n : Nat) (s : State) : State := modMoon s m fun x => { x with
    image := x.image.filter fun c => c.1 < imageAt n, imageUe := x.imageUe.filter fun w => w * 8 < imageAt n }
  let s := if x.pool then (if (getMoon s m).spilled then cut (8 * p.count) s else s)
           else if x.spilled then clearCores (cut new.length s)
              (old.filter fun c => !new.contains c)
           else if old == new then s else moveSegments s old new
  let s := resave s m (savePages p.count)
  let s := modMoon s m fun x => { x with hbmPages := p.pages }
  let have_ := (getMoon s m).blocks.length
  let s := if have_ ≤ p.blocks then grantBlocks s m (p.blocks - have_) else keepBlocks s m p.blocks
  demoteAll ((upTo 37).foldl (fun s r => recheckSync s m r) s) m

/-- A resize halts a pipeline unit that runs with RESIZED; the bound tasks of its next program leave (R311). A WAITING moon, resized at once (R242), keeps
the program that ran, which RETRY runs again. -/
def pipeResized (s : State) (m : Nat) : State :=
  let t := getTrain s m
  if (t.state == .running || t.state == .draining) && !t.resetting then
    let s := { s with tasks := { s.tasks with tasks := s.tasks.tasks.filter fun u => !(u.moon == m && (u.ring == 32 || u.ring == 35)) } }
    pipeHalt (setTrain s m { t with prefetched := none, active := false, program := if t.active then t.program else none, taken := t.active && t.taken }) m 8 0 0
  else s

/-- A RESIZE reaches its boundary: checked again and applied, or failed with no change (R242). -/
def finishResize (s : State) (m : Nat) (c : MoonCmd) : State :=
  let x := getMoon s m
  let p := resizePlan x c
  let code := resizeCheck s m p
  if code ≠ 0 then endJob (modMoon s m fun x => { x with state := x.prev }) m code
  else
    let s := applyResize s m p
    let y := getMoon s m
    let st := if x.prev = .active ∧ y.spilled then .waiting else x.prev
    let s := pipeResized (modMoon s m fun y => { y with state := st, displaced := false }) m
    offerCores (offerCores (endJob s m 0) m 1) m 2

/-! ## Running a command -/

/-- The window pages a moon owns, as keys. -/
def ownPages (s : State) (m : Nat) : List Nat :=
  ((getMoon s m).table.filter fun e => e.2.owner == m).map fun e => pageKey e.2.stack e.2.page

/-- A moon's migration data stops going out: its pages are no longer marked as sent. -/
def dropPrecopy (s : State) (m : Nat) : State :=
  let own := ownPages s m
  { s with links := { s.links with tx := s.links.tx.filter fun x => !(x.moon == m && x.ring == migRing) }
           mem := { s.mem with sentPages := s.mem.sentPages.filter fun k => !own.contains k } }

/-- A message of a migration to the peer, for the moon numbered PEER_MOON there, in a CONTROL flit by a port of PORTS (R245, R246, R372). -/
def handshake (s : State) (m : Nat) (k : CtlKind) (args : List Nat) : State :=
  let c := (getMoon s m).migCmd
  let peer := (c.map MoonCmd.peer).getD 0
  let fabric := fabricOf s peer
  offerCtl (emit s (.migrate m peer ((c.map MoonCmd.peerMoon).getD 0) k args)) (portVia s ((c.map MoonCmd.ports).getD 0) fabric) fabric

/-- Abort a migration before M7: ABORT to the target, and the moon goes on in its previous state (R229, R247). -/
def abortMigration (s : State) (m : Nat) : State :=
  let s := dropPrecopy (handshake s m .abort []) m
  let s := modMoon s m fun x => { x with state := x.prev, mig := .none, migCmd := none, heldSent := 0 }
  let y := getMoon s m
  if y.state = .active then
    let s := if !y.pool then restoreMoon s m
             else if y.spilled then modMoon s m fun x => { x with state := .waiting, swap := .none }
             else endSpill s m
    offerCores (offerCores s m 1) m 2
  else s

/-- M8 at the target (R245, R247): a dedicated moon is restored and ACTIVE, a pool moon WAITING; its first span opens. -/
def completeM8 (s : State) (m : Nat) : State :=
  let s := if (getMoon s m).pool then s else restoreMoon s m
  let s := openSpan (modMoon s m fun x => { x with state := readyState x, mig := .none, migCmd := none }) m 8
  offerCores (offerCores s m 1) m 2

/-- Manifest digests of the shared bases that a moon's versions hold (R347, R348). -/
def sharedUsed (s : State) (m : Nat) : List Bytes :=
  (getServe s m).slots.flatMap fun e => (e.2.versions.filter fun v => v.shared.isSome).map Version.manifest

/-- M2 (R245, R299): the source asks over PORTS whether the target holds the matching ARRIVING moon: its identity, the moon there, its own moon,
its FABRIC_ID, its live sequences. -/
def queryPeer (s : State) (m : Nat) : State :=
  handshake s m .migQuery ([Config.moduleIdentity, ((getMoon s m).migCmd.map MoonCmd.peerMoon).getD 0, m, param s 0x5010 0,
    (getServe s m).seqs.length] ++ (sharedUsed s m).map leNat)

/-- Run the command that a moon has in progress (R227, R228, R230, R240, R245, R247, R248). -/
def runJob (s : State) (m : Nat) : State :=
  match (getMoon s m).job with
  | none => s
  | some j =>
    let x := getMoon s m
    let s := modMoon (setStatus s m 2 j.op 0) m fun x => { x with job := some { j with running := true } }
    if !opAllowed x.state j.op || ((j.op == .create || j.op == .migrateIn) && s.power.draining) then endJob s m 2
    else match j.op with
    | .create => let c := admitCheck s m j.cmd; if c ≠ 0 then endJob s m c else takeIn s m j.cmd true
    | .migrateIn => let c := admitCheck s m j.cmd; if c ≠ 0 then endJob s m c else takeIn s m j.cmd false
    | .resize =>
      let c := resizeCheck s m (resizePlan x j.cmd)
      if c ≠ 0 then endJob s m c
      else
        let s := modMoon s m fun x => { x with prev := x.state, state := .resizing }
        if x.state = .waiting then finishResize (endRestore s m) m j.cmd else s
    | .release => if pagesShared s m then endJob s m 0xB else endJob (releaseMoon s m) m 0
    | .suspend =>
      if x.state = .waiting then endJob (endRestore (modMoon s m fun x => { x with state := .suspended }) m) m 0
      else beginSpill (modMoon s m fun x => { x with state := .suspended }) m
    | .resume =>
      if x.state = .arriving then
        if x.mig = .installed ∨ x.mig = .uncertain then endJob (completeM8 s m) m 0 else endJob s m 2
      else if x.displaced then endJob s m 2
      else if x.pool then
        let s := if x.spilled then modMoon s m fun x => { x with state := .waiting, swap := .none } else endSpill s m
        offerCores (offerCores (endJob s m 0) m 1) m 2
      else modMoon s m fun x => { x with swap := .restoring, swapAt := s.orbit.refNs }
    | .migrateOut =>
      if pagesShared s m then endJob s m 0xB
      else
        let s := if x.state = .waiting then endRestore s m else s
        queryPeer (modMoon s m fun x => { x with prev := x.state, state := .migrating, mig := .none, migCmd := some j.cmd }) m
    | .reclaim => endJob (openSpan (modMoon s m fun x => { x with state := .suspended, mig := .none, migCmd := none }) m 0) m 0
    | .cancel => endJob s m 2

/-- The command in progress gives way to a later write (R229): it completes with CANCELLED, or MIGRATE_UNCERTAIN in MOVED. -/
def giveWay (s : State) (m : Nat) : State :=
  match (getMoon s m).job with
  | none => s
  | some j =>
    let x := getMoon s m
    let code := if j.running && x.state == .moved then 0xF else 0xE
    let s := if !j.running then s
      else match x.state with
        | .admitting => unadmit s m
        | .resizing => modMoon s m fun x => { x with state := x.prev }
        | .migrating => abortMigration s m
        | .suspended => if j.op = .resume then modMoon s m fun x => { x with swap := .none } else s
        | _ => s
    let s := endJob s m code
    if j.running && x.state == .resizing then offerCores (offerCores s m 1) m 2 else s

/-- A resize has come to its step boundary (R229, R240); an octet that moves away has moved (R249). -/
def resizeDue (s : State) (m : Nat) : Bool :=
  let x := getMoon s m
  x.state == .resizing && x.swap == .none && x.moves.isEmpty && atBoundary s m

/-- MOON_CMD CANCEL (R227, R229): busy while a command runs that it may not meet; too late for a resize at or after its step boundary. -/
def cancelCmd (who : Who) (m : Nat) (c : MoonCmd) (s : State) : Except Nat State :=
  let x := getMoon s m
  match x.job with
  | none => .ok (endCmd s m .cancel who (if c.rsv then 1 else 2))
  | some j =>
    if j.running && !opAllowed x.state .cancel then .error 8
    else if c.rsv then .ok (endCmd s m .cancel who 1)
    else if j.running && resizeDue s m then .ok (endCmd s m .cancel who 2)
    else .ok (endCmd (giveWay s m) m .cancel who 0)

/-- A MOON_CMD write other than CANCEL (R226 to R229): busy, refused as OP_BAD, kept PENDING until WHEN, or run. -/
def moonWrite (who : Who) (op : MoonOp) (m : Nat) (c : MoonCmd) (s : State) : Except Nat State :=
  let x := getMoon s m
  let busy := match x.job with
    | none => false
    | some j => !j.running || !opAllowed x.state op
  if busy then .error 8
  else if moonCmdBad op c x.pool then .ok (endCmd s m op who 1)
  else
    let s := setStatus (giveWay s m) m 1 op 0
    let s := modMoon s m fun x => { x with job := some ⟨op, c, who, false⟩ }
    .ok (if c.whenEn && op != .migrateOut then s else runJob s m)

/-- CREATE (R230). -/
def execCreate (who : Who) (m : Nat) (c : MoonCmd) (s : State) : Res := command s who 0x6000 m (moonWrite who .create m c)

/-- RESIZE (R240). -/
def execResize (who : Who) (m : Nat) (c : MoonCmd) (s : State) : Res := command s who 0x6000 m (moonWrite who .resize m c)

/-- RELEASE (R248). -/
def execRelease (who : Who) (m : Nat) (c : MoonCmd) (s : State) : Res := command s who 0x6000 m (moonWrite who .release m c)

/-- SUSPEND (R235). -/
def execSuspend (who : Who) (m : Nat) (c : MoonCmd) (s : State) : Res := command s who 0x6000 m (moonWrite who .suspend m c)

/-- RESUME (R247). -/
def execResume (who : Who) (m : Nat) (c : MoonCmd) (s : State) : Res := command s who 0x6000 m (moonWrite who .resume m c)

/-- MIGRATE_OUT (R245). -/
def execMigrateOut (who : Who) (m : Nat) (c : MoonCmd) (s : State) : Res := command s who 0x6000 m (moonWrite who .migrateOut m c)

/-- MIGRATE_IN (R245). -/
def execMigrateIn (who : Who) (m : Nat) (c : MoonCmd) (s : State) : Res := command s who 0x6000 m (moonWrite who .migrateIn m c)

/-- MIGRATE_RECLAIM (R247). -/
def execMigrateReclaim (who : Who) (m : Nat) (c : MoonCmd) (s : State) : Res := command s who 0x6000 m (moonWrite who .reclaim m c)

/-- MOON_CMD_CANCEL (R229). -/
def execMoonCmdCancel (who : Who) (m : Nat) (c : MoonCmd) (s : State) : Res :=
  command s who 0x6000 m (cancelCmd who m c)

/-- MOON_CMD_WHEN (R227): orbit reaches the WHEN of a pending command. -/
def execMoonCmdWhen (m : Nat) (s : State) : Res :=
  match (getMoon s m).job with
  | none => .next s
  | some j =>
    if isUp s && !j.running && j.cmd.whenEn && s.orbit.state != .unlocked && decide (j.cmd.whenOrbit ≤ s.orbit.now) then .next (runJob s m)
    else .next s

/-- ADMISSION_DONE (R230, R245): the grants of a CREATE or MIGRATE_IN are complete. -/
def execAdmissionDone (m : Nat) (s : State) : Res :=
  let x := getMoon s m
  match x.job with
  | none => .next s
  | some j =>
    if isUp s && x.state == .admitting && j.running then
      let s := modMoon s m fun x =>
        if j.op == .create then { x with state := readyState x, spilled := x.pool } else { x with state := .arriving, mig := .arriving }
      .next (endJob (openCredit s m) m 0)
    else .next s

/-- RESIZE_STEP_BOUNDARY (R240): no task of the moon has started without completing. -/
def execResizeStepBoundary (m : Nat) (s : State) : Res :=
  let x := getMoon s m
  match x.job with
  | none => .next s
  | some j => if isUp s && resizeDue s m then .next (finishResize s m j.cmd) else .next s

end Sys2Proof.Machine
end

