-- ==== Sys2Proof/Machine/Pool.lean ====
section
/-! DEFINITION. The shared pool and pre-emption (R231 to R239): virtual time, the scheduler tick, priorities and inheritance, and the rows
SCHED_TICK, PREEMPTION_BOUNDARY, SPILL_DONE, RESTORE_DONE. -/

namespace Sys2Proof.Machine

/-- Units of virtual time in an octet-ns per share (R234) [19]. -/
def vUnit : Nat := 10 ^ 15

/-- MOON_SHARE of a moon as the last tick found it (R257). -/
def shareOf (s : State) (m : Nat) : Nat := Nat.max 1 ((tfind s.tasks.shares m).getD (param s 0x6004 m))

/-- The shares written since the last tick apply (R257). -/
def takeShares (s : State) : State :=
  { s with tasks := { s.tasks with shares := (s.moons.map Prod.fst).foldl (fun t m => tset t m (param s 0x6004 m)) [] } }

/-- A pool moon is resident: it stands on octets and neither spills nor restores (R234). -/
def resident (x : Moon) : Bool := x.pool && !x.octets.isEmpty && x.swap == .none && !x.spilled

/-- One nanosecond of virtual time (R234). -/
def ageMoon (s : State) (m : Nat) (x : Moon) : Moon :=
  if resident x then { x with vtime := x.vtime + x.poolCount * vUnit / shareOf s m } else x

/-- A pool moon takes part in the tick: ACTIVE or WAITING (R234). -/
def inTick (x : Moon) : Bool := x.pool && (x.state == .active || x.state == .waiting)

/-- A pool moon is runnable: it has an eligible task or a suspended one (R234). -/
def runnableNow (s : State) (m : Nat) : Bool :=
  s.tasks.tasks.any fun t => t.moon == m && (eligible s t || (t.phase == .running &&
    ((t.work.any fun w => w.susp) || ((getMoon s m).spilled && t.desc.kind == 3))))

/-- The virtual times of the other runnable pool moons at this tick. -/
def othersV (s : State) (m : Nat) : List Nat :=
  (s.moons.filter fun e => e.1 != m && inTick e.2 && runnableNow s e.1).map fun e => e.2.vtime

/-- A moon that becomes runnable after being idle has V raised to the smallest of the runnable pool moons (R234). -/
def noteRunnable (s : State) (m : Nat) : State :=
  let x := getMoon s m
  if !inTick x then s
  else
    let r := runnableNow s m
    let l := othersV s m
    let v := if r && !x.runnable && !l.isEmpty then Nat.max x.vtime (leastOf l (l.headD 0)) else x.vtime
    setMoon s m { x with runnable := r, vtime := v }

/-- Every pool moon that has become runnable or idle (R234). -/
def noteAll (s : State) : State := (s.moons.filter fun e => e.2.pool).foldl (fun s e => noteRunnable s e.1) s

/-- One nanosecond of virtual time for every moon. -/
def ageAll (s : State) : State :=
  let s := noteAll s
  { s with moons := s.moons.map fun e => (e.1, ageMoon s e.1 e.2) }

/-- A moon that this tick leaves where it is: resident for less than MIN_RESIDENCY, spilling, restoring or about to (R234). -/
def kept (s : State) (x : Moon) : Bool :=
  x.swap != .none || !x.nextOctets.isEmpty ||
  (resident x && decide (s.orbit.refNs < x.residentAt.getD 0 + param s 0x6007 0 * 1000000))

/-- Insert by ascending virtual time; equal times keep the order of arrival, which is by moon number. -/
def insertV (e : Nat × Moon) (l : List (Nat × Moon)) : List (Nat × Moon) :=
  match l with
  | [] => [e]
  | a :: r => if e.2.vtime < a.2.vtime then e :: a :: r else a :: insertV e r

/-- The order of the tick (R234): runnable moons by virtual time and number, then idle resident ones by number. -/
def tickOrder (s : State) : List (Nat × Moon) :=
  let c := s.moons.filter fun e => inTick e.2 && !kept s e.2
  let run := (c.filter fun e => e.2.runnable).foldl (fun l e => insertV e l) []
  run ++ c.filter fun e => !e.2.runnable && resident e.2

/-- Which moons of the order are selected with `free` octets (R234). -/
def selectMoons (free : Nat) (blocked : Bool) (l : List (Nat × Moon)) : List Nat :=
  match l with
  | [] => []
  | e :: r =>
    if blocked && !resident e.2 then selectMoons free blocked r
    else if e.2.poolCount ≤ free then e.1 :: selectMoons (free - e.2.poolCount) blocked r
    else selectMoons free true r

/-- Octets of the pool that stay taken: those of kept moons, of moons left out of the tick and of selected residents. -/
def takenOctets (s : State) (sel : List Nat) : List Nat :=
  s.moons.flatMap fun e =>
    if e.2.pool && (!inTick e.2 || kept s e.2 || sel.contains e.1) then e.2.octets ++ e.2.nextOctets else []

/-- Give each selected moon that is not resident the lowest-numbered octets left (R234). -/
def assignOctets (s : State) (free : List Nat) (l : List Nat) : State :=
  match l with
  | [] => s
  | m :: r =>
    let x := getMoon s m
    if resident x then assignOctets s free r
    else assignOctets (setMoon s m { x with nextOctets := free.take x.poolCount }) (free.drop x.poolCount) r

/-- A chosen moon whose octets nobody holds any more begins its restore (E7 of R235). -/
def beginRestore (s : State) (m : Nat) : State :=
  let x := getMoon s m
  if !x.nextOctets.isEmpty && x.octets.isEmpty && x.state == .waiting &&
      !(s.moons.any fun e => e.1 != m && e.2.octets.any fun k => x.nextOctets.contains k) then
    setMoon s m { x with octets := x.nextOctets, nextOctets := [], swap := .restoring, swapAt := s.orbit.refNs }
  else s

/-- Begin every restore that can begin. -/
def beginRestores (s : State) : State := (s.moons.map Prod.fst).foldl beginRestore s

/-- A change of POOL_OCTETS takes effect while no pool moon is resident (R233). -/
def settlePool (s : State) : State :=
  if s.moons.any fun e => e.2.pool && (!e.2.octets.isEmpty || !e.2.nextOctets.isEmpty) then s
  else { s with cores := { s.cores with poolNow := param s 0x6005 0 } }

/-- The residency decision of a tick (R234). -/
def tickPool (s : State) : State :=
  let s := settlePool (noteAll s)
  let pool := poolOctets s
  let taken := takenOctets s []
  let order := tickOrder s
  let sel := selectMoons (pool.filter fun k => !taken.contains k).length false order
  let victims := (s.moons.filter fun e => inTick e.2 && resident e.2 && !kept s e.2 && !sel.contains e.1).map Prod.fst
  let keepO := takenOctets s sel
  let s := victims.foldl beginSpill s
  let s := assignOctets s (pool.filter fun k => !keepO.contains k) ((order.map Prod.fst).filter fun m => sel.contains m)
  beginRestores s

/-! ## Priorities (R232, R239) -/

/-- The cores on which a waiting task of higher priority wants a core that a lower task of its kind holds (R232), as marks. -/
def prioMarks (s : State) (m : Nat) : List Nat :=
  let waiting := (s.tasks.tasks.filter fun t => t.moon == m && (t.desc.kind == 1 || t.desc.kind == 2)).filter fun t =>
    (t.phase == .fetched && eligible s t) || (t.phase == .running && t.prio.isSome && t.work.any fun w => w.susp)
  waiting.foldl (fun l t =>
    let want := if t.phase == .running then (t.work.filter fun w => w.susp).map WorkUnit.core else descCores s m t.desc
    want.foldl (fun l j => match holder s m t.desc.kind j with
      | some h => if taskPrio s h < taskPrio s t then addNum l (1024 * t.desc.kind + j) else l
      | none => l) l) []

/-- An unmet wait of a task on an object (R239). -/
def waitsOn (s : State) (t : Task) (k : Nat) : Bool :=
  (t.desc.w0En && t.desc.wait0 == k && !waitMet s t.moon k t.desc.w0Thresh) || (t.desc.w1En && t.desc.wait1 == k && !waitMet s t.moon k t.desc.w1Thresh)

/-- The task is eligible but for unmet waits on one object (R239). -/
def stuckOn (s : State) (t : Task) (k : Nat) : Bool :=
  t.phase == .fetched && (getRing s t.moon t.ring).state == .running && ((oldestUnstarted s t.moon t.ring).map Task.seq == some t.seq) &&
  fenceMet s t && nbMet s t && waitsOn s t k &&
  (!t.desc.w0En || t.desc.wait0 == k || waitMet s t.moon t.desc.wait0 t.desc.w0Thresh) &&
  (!t.desc.w1En || t.desc.wait1 == k || waitMet s t.moon t.desc.wait1 t.desc.w1Thresh)

/-- A task is suspended on some core (R232, R235). -/
def Task.suspended (t : Task) : Bool := t.phase == .running && t.work.any fun w => w.susp

/-- The objects a task holds (R239). -/
def heldObjects (t : Task) : List Nat := (if t.desc.s0En then [t.desc.sig0] else []) ++ (if t.desc.s1En then [t.desc.sig1] else [])

/-- The highest priority of the waiters that need a suspended task, if any (R239). -/
def inheritPrio (s : State) (h : Task) : Option Nat :=
  (s.tasks.tasks.filter fun w => w.moon == h.moon && (heldObjects h).any fun k => stuckOn s w k).foldl
    (fun a w => some (Nat.max (a.getD 0) (taskPrio s w))) none

/-- Priority inheritance at a tick (R239): each raise counts in INHERIT_EVENTS. -/
def inherit (s : State) (h : Task) : State :=
  if !h.suspended then s
  else match inheritPrio s h with
    | none => s
    | some p => if h.prio.isSome && decide (p ≤ taskPrio s h) then s
                else incB (putTask s { h with prio := some (Nat.max p (taskPrio s h)) }) 0x6031 h.moon 1

/-- Priorities of one moon at a tick: marks for pre-emption, then free cores handed out. -/
def tickMoon (s : State) (m : Nat) : State :=
  if !moonRuns s m then s
  else
    let s := (s.tasks.tasks.filter fun t => t.moon == m).foldl inherit s
    let s := modMoon s m fun x => { x with marks := prioMarks s m }
    offerCores (offerCores s m 1) m 2

/-- A scheduler tick is due (R234): once in every SCHED_TICK of the module reference. -/
def tickDue (s : State) : Bool :=
  let p := param s 0x6006 0 * 1000000
  match s.tasks.tickAt with
  | none => true
  | some t => decide (t / p < s.orbit.refNs / p)

/-- What a scheduler tick does (R232, R234, R239, R257). -/
def schedTick (s : State) : State :=
  let s := tickPool (takeShares { s with tasks := { s.tasks with tickAt := some s.orbit.refNs } })
  (s.moons.map Prod.fst).foldl tickMoon s

/-- SCHED_TICK (R232, R234, R239). -/
def execSchedTick (s : State) : Res := if isUp s && tickDue s then .next (schedTick s) else .next s

/-! ## Boundaries (R235) -/

/-- A task's unit on a moon-local core is suspended in the form `w` and the core let go (E2 of R235): comet stops the task's streams (E1), and its dirty
operand cache lines are written back (E4). A pre-emption by priority counts in PREEMPTS (R257). -/
def suspendUnit (s : State) (t : Task) (j : Nat) (w : WorkUnit) : State :=
  let n := s.tasks.suspNo + 1
  let s := writeBack (cometPause s t.moon t.ring t.seq) t.moon t.ring t.seq
  let x := getMoon s t.moon
  let byPrio := x.swap != .spilling && x.marks.contains (1024 * t.desc.kind + j)
  let s := incB { s with tasks := { s.tasks with suspNo := n } } 0x6030 t.moon (if byPrio then 1 else 0)
  putTask s { t with cores := delNum t.cores j, preempted := true
                     work := t.work.map fun x => if x.core == j then { w with susp := true, order := n } else x }

/-- A pre-emption reaches a task on a core (E2 of R235): a CHAIN at its strip boundary, a GEMM at a segment boundary; a pass whose last segment runs
completes first (R104). -/
def suspendAt (s : State) (t : Task) (j : Nat) : State :=
  match t.work.find? fun w => w.core == j && !w.susp, moonCore s t.moon j with
  | some w, some c =>
    if t.desc.kind = 1 then
      match stopPass s t c w with
      | some (s, w, n) => suspendUnit (countPass s (c / 128) n ⟨0, 0, 0⟩) t j w
      | none => s
    else suspendUnit s t j w
  | _, _ => s

/-- Moon-local core `j` stands on an octet that moves away (R249). -/
def localMoving (s : State) (m j : Nat) : Bool := (moonCore s m j).any fun c => coreMoving s m c

/-- The tasks that a boundary on a moon-local core suspends: every GEMM or CHAIN task there while the moon spills or the core's octet moves away, or
the marked kind's. -/
def boundaryTasks (s : State) (m j : Nat) : List Task :=
  let x := getMoon s m
  s.tasks.tasks.filter fun t => t.moon == m && t.phase == .running && (t.work.any fun w => w.core == j && !w.susp) && !t.underStep &&
    (x.swap == .spilling || localMoving s m j || x.marks.contains (1024 * t.desc.kind + j))

/-- PREEMPTION_BOUNDARY (R232, R235): the affected work of a core is at its segment or strip boundary. -/
def execPreemptionBoundary (m j : Nat) (s : State) : Res :=
  let l := boundaryTasks s m j
  if !isUp s || l.isEmpty then .next s
  else
    let spill := (getMoon s m).swap == .spilling
    let s := l.foldl (fun s t => suspendAt s t j) s
    let s := modMoon s m fun x => { x with marks := x.marks.filter fun k => k % 1024 != j }
    if spill then .next s else .next (offerCores (offerCores s m 1) m 2)

/-- Every affected core has reached its boundary: GEMM and CHAIN work is suspended, STEP tasks have run to completion (R235). -/
def spillReady (s : State) (m : Nat) : Bool :=
  !(s.tasks.tasks.any fun t => t.moon == m && t.phase == .running &&
    (t.desc.kind == 5 || t.work.any fun w => !w.susp))

/-! ## Octet moves (R249) -/

/-- The vector registers of a moon's cores move with its moon-local indexes. -/
def moveVregs (s : State) (old new : List Nat) : State :=
  let moved := (old.zip new).foldl (fun r e => memPut r (e.2 * 65536) (memPart s.cores.vregs (e.1 * 65536) 65536))
    (s.cores.vregs.filter fun c => !old.contains (c.1 / 65536) && !new.contains (c.1 / 65536))
  { s with cores := { s.cores with vregs := moved } }

/-- The moon's tasks have left an octet (E2 of R235): no GEMM or CHAIN work runs there, and no STEP that may use it. -/
def octetLeft (s : State) (m k : Nat) : Bool :=
  !(s.tasks.tasks.any fun t => t.moon == m && t.phase == .running &&
    ((t.desc.kind == 5 && (descCores s m t.desc).any fun j => (moonCore s m j).any fun c => c / 8 == k) ||
      t.work.any fun w => !w.susp && (moonCore s m w.core).any fun c => c / 8 == k))

/-- A dedicated moon's octet stands on another (R249): dirty lines are written back; each moon-local index names the core of the new ascending order, and
segments, marks and registers go to it (R43); the uncorrectable words of the failed core raise the event of R27, naming the core that now holds
them [35]. A spilled moon's images stay in its save area. -/
def moveOctet (s : State) (m : Nat) (v : Nat × Nat × Nat) : State :=
  let old := moonCores s m
  let s := writeBackMoon s m
  let bad := s.mem.ueSpm.filter fun w => w * 8 / 2 ^ 24 == v.2.2
  let s := modMoon s m fun x => { x with octets := addNum (delNum x.octets v.1) v.2.1, moves := x.moves.filter fun y => y != v }
  let new := moonCores s m
  if (getMoon s m).spilled then s
  else
    let s := moveVregs (moveSegments s old new) old new
    poisonEvents s m (((old.findIdx? fun c => c == v.2.2).bind fun j => new[j]?).getD v.2.2) bad

/-- Every octet move of a moon that can take place does; its tasks resume on the new octet (R249). -/
def settleMoves (s : State) (m : Nat) : State :=
  let l := (getMoon s m).moves
  if l.isEmpty then s
  else
    let s := l.foldl (fun s v => if (getMoon s m).spilled || ((getMoon s m).swap == .none && octetLeft s m v.1) then moveOctet s m v else s) s
    offerCores (offerCores s m 1) m 2

/-- What a finished spill means for a pool moon that a tick pre-empted, for one that RESIZE met meanwhile, which is resized at once as in WAITING
(R242), and for a SUSPEND (R228, R234, R235). -/
def spilledTo (s : State) (m : Nat) : State :=
  let x := getMoon s m
  match x.state with
  | .active => modMoon s m fun x => { x with state := .waiting }
  | .resizing =>
    if x.prev == .active && x.pool then
      let s := modMoon s m fun x => { x with prev := .waiting }
      match x.job with
      | some j => finishResize s m j.cmd
      | none => s
    else s
  | .migrating => modMoon s m fun x => { x with prev := if x.prev == .active && x.pool then .waiting else x.prev }
  | .suspended => match x.job with
    | some j => if j.op == .suspend then endJob s m 0 else s
    | none => s
  | _ => s

/-- RESTORE_DONE (R235, R249): a moon's images and contexts are back and its tasks may start again; or the segments of the octets that its tasks have
left stand on their new octets [35]. -/
def execRestoreDone (m : Nat) (s : State) : Res :=
  let x := getMoon s m
  if !isUp s then .next s
  else if x.swap != .restoring then .next (settleMoves s m)
  else
    let s := restoreMoon s m
    let s := modMoon s m fun x => { x with
      state := if x.state = .waiting ∨ x.state = .suspended then .active else x.state, residentAt := if x.pool then some s.orbit.refNs else none }
    let s := match x.job with
      | some j => if j.op == .resume then endJob s m 0 else s
      | none => s
    .next (settleMoves (offerCores (offerCores s m 1) m 2) m)

end Sys2Proof.Machine
end

