-- ==== Sys2Proof/Machine/Migrate.lean ====
section
/-! DEFINITION. Live migration (R245 to R247, R299, R348): the state that travels, its installation, and the rows SPILL_DONE,
MIGRATE_PEER_CONFIRM, PRECOPY_DONE, MIGRATION_HANDOVER, MIGRATE_STATE_RECEIVED, READY_RECEIVED, GO_RECEIVED, RUNNING_RECEIVED,
ABORT_RECEIVED, MIGRATE_READY_TIMEOUT, MIGRATE_RUNNING_TIMEOUT, MIGRATE_GO_TIMEOUT. -/

namespace Sys2Proof.Machine

/-- The peer a migration names (R226). -/
def peerOf (s : State) (m : Nat) : Nat := ((getMoon s m).migCmd.map MoonCmd.peer).getD 0

/-- MIGRATE_TIMEOUT from now on the module reference (R247). -/
def migDeadline (s : State) : Nat := s.orbit.refNs + param s 0x6040 0 * 1000000

/-- The place of a shared page: manifest of its shared base and the page's index in it (R348). -/
def sharedPlace (s : State) (e : PageEntry) : Option (Bytes × Nat) :=
  s.fetch.shared.findSome? fun b =>
    (b.2.pages.findIdx? fun i => match entryOf s 0 i with
      | some f => f.stack == e.stack && f.page == e.page
      | none => false).map fun k => (b.2.manifest, k)

/-- A BARRIER that waits for its release travels unstarted (R388). -/
def travels (t : Task) : Bool := t.desc.kind == 6 && t.phase == .running

/-- A task as it travels. -/
def travelTask (t : Task) : Task := if travels t then { t with phase := .fetched } else t

/-- An unstarted task has consumed nothing (R195): what a wait took goes back. -/
def giveBack (s : State) (m k : Nat) (on : Bool) (n : Int) : State := if on then (addObj s m k n).1 else s

/-- The waits of a moon's BARRIER tasks that travel unstarted go back to their objects (R195, R388). -/
def unstart (s : State) (m : Nat) : State :=
  (s.tasks.tasks.filter fun t => t.moon == m && travels t).foldl (fun s t =>
    giveBack (giveBack s m t.desc.wait0 (t.desc.w0En && t.desc.w0Consume) t.desc.w0Thresh) m t.desc.wait1 (t.desc.w1En && t.desc.w1Consume)
      t.desc.w1Thresh) s

/-- Serving with its reference times changed: they travel as the ns that have passed since, the two modules' references being their own. -/
def serveTimes (f : Int → Int) (v : Serve) : Serve :=
  { v with slots := v.slots.map fun e => (e.1, { e.2 with stepTimes := e.2.stepTimes.map f }) }

/-- Training with its reference times changed. -/
def trainTimes (f : Int → Int) (t : Train) : Train := { t with waitAt := t.waitAt.map f, turnAt := f t.turnAt, drainAt := f t.drainAt }

/-- The class B groups of an arriving moon go on in the interval they travelled in (R83, R219, R246). -/
def installStat (s : State) (m : Nat) (g : MigState) : StatUnit :=
  let put (l : List (Nat × Nat × Nat)) (t : Tab Nat) : Tab Nat := l.foldl (fun t c => tset t (keyFor m c.1 c.2.1) c.2.2) t
  { s.stat with
    cnt := put g.countB s.stat.cnt
    start := g.startB.foldl (fun t c => tset t (keyFor m c.1 c.2.1) c.2.2) s.stat.start
    snap := put g.snapB s.stat.snap
    raised := (g.raisedB.map fun k => keyFor m k.1 k.2).foldl addNum s.stat.raised
    fmtInfo := g.fmtInfo.foldl (fun t c => tset t (256 * m + c.1) c.2) s.stat.fmtInfo
    fmtSnap := g.fmtSnap.foldl (fun t c => tset t (256 * m + c.1) c.2) s.stat.fmtSnap }

/-- What the source sends in M3 and M5 (R245, R299). -/
def migStateOf (s : State) (m : Nat) : MigState :=
  let x := getMoon s m
  let own := x.table.filter fun e => e.2.owner == m
  let marked := own.filter fun e => !s.mem.sentPages.contains (pageKey e.2.stack e.2.page)
  { pages := own.map fun e => (e.1, e.2.r, e.2.w, e.2.poison)
    shared := x.table.filterMap fun e => if e.2.owner == m then none else (sharedPlace s e.2).map fun q => (e.1, q.1, q.2)
    marked := marked.map Prod.fst
    pageBytes := marked.flatMap fun e =>
      (memPart s.mem.hbm (pageHpa (pageKey e.2.stack e.2.page) 0) pageBytes).map fun c => (hbmRegion + e.1 * pageBytes + c.1, c.2)
    image := x.image
    imageUe := x.imageUe
    objects := ((upTo x.blocks.length).zip x.blocks).flatMap fun b =>
      (s.tasks.objs.filter fun o => o.1 / 256 == b.2).map fun o => (256 * b.1 + o.1 % 256, o.2)
    rings := (upTo 16).map fun r => (r, getRing s m r)
    tasks := (s.tasks.tasks.filter fun t => t.moon == m).map travelTask
    prio := x.prio
    countB := s.stat.cnt.filterMap fun e => (keyOf m e.1).map fun k => (k.1, k.2, e.2)
    startB := s.stat.start.filterMap fun e => (keyOf m e.1).map fun k => (k.1, k.2, e.2.1, e.2.2)
    countA := s.dict.params.filterMap fun e => (keyOf m e.1).map fun k => (k.1, k.2, e.2)
    snapB := s.stat.snap.filterMap fun e => (keyOf m e.1).map fun k => (k.1, k.2, e.2)
    raisedB := s.stat.raised.filterMap (keyOf m)
    fmtInfo := (s.stat.fmtInfo.filter fun e => e.1 / 256 == m).map fun e => (e.1 % 256, e.2)
    fmtSnap := (s.stat.fmtSnap.filter fun e => e.1 / 256 == m).map fun e => (e.1 % 256, e.2)
    stuck := s.dict.stuckList.filterMap (keyOf m)
    ledger := (upTo 5).map fun i => ledgerTotal s (0x7000 + i) m
    serve := serveTimes (fun a => (s.orbit.refNs : Int) - a) (getServe s m)
    train := trainTimes (fun a => (s.orbit.refNs : Int) - a) (getTrain s m)
    held := x.held.map fun a => { a with port := 33 }
    rxXfers := s.links.rxXfers.filter fun y => y.destMoon == m
    routes := x.routes
    recvWin := x.recvWin
    signKey := tget s.dict.blobs [] (pkey 0xA011 m) }

/-- Pre-copy stops where it stands: pages of which chunks are still to go count as written since (M4 and M5 of R245). -/
def stopPrecopy (s : State) (m : Nat) : State :=
  let l := s.links.tx.filter fun x => x.moon == m && x.ring == migRing
  let part := l.flatMap fun x => x.pages.filterMap fun k => (entryOf s m k).map fun e => pageKey e.stack e.page
  { s with links := { s.links with tx := s.links.tx.filter fun x => !(x.moon == m && x.ring == migRing) }
           mem := { s.mem with sentPages := s.mem.sentPages.filter fun k => !part.contains k } }

/-- A round of pre-copy (M3 of R245): every page of the moon's own that has not been sent, or has been written since, goes to the target. -/
def sendPages (s : State) (m : Nat) : State :=
  match (getMoon s m).migCmd with
  | none => s
  | some c =>
    let l := (getMoon s m).table.filter fun e => e.2.owner == m && !s.mem.sentPages.contains (pageKey e.2.stack e.2.page)
    openOwn s m migRing (fabricOf s c.peer) c.peerMoon c.ports (l.map Prod.fst) [] 0

/-- The state of M5 besides the marked pages, as chunks of 64 KiB at addresses of this model's own above the MAs: the blocks of the save area's images
that hold something, and the rest, whose form and length the rules leave open [55]. -/
def stateChunks (g : MigState) : List (Nat × Bytes) :=
  let blocks := (g.image.map fun c => c.1 / 65536).foldl addNum []
  (blocks.map fun k => (2 ^ 48 + k * 65536, (memPart g.image (k * 65536) 65536).foldl (fun b c => b.set c.1 c.2) (List.replicate 65536 0))) ++
    (upTo (1 + Config.openValue 28 0 % 4096)).map fun i => (2 ^ 49 + i * 65536, leBytes 65536 (Config.openValue 28 (i + 1)))

/-- M5: the moon's state leaves as chunks on VC2 through PORTS, with the pages that pre-copy has not sent or that were written since (R245, R372);
what it is stands in the model's own output. -/
def sendMigState (s : State) (m : Nat) : State :=
  let s := endWait s m
  let g := migStateOf s m
  let s := dropPrecopy (modMoon s m fun x => { x with mig := .stateSent, heldSent := x.held.length }) m
  match (getMoon s m).migCmd with
  | none => s
  | some c =>
    let f := fabricOf s c.peer
    let s := openOwn s m migRing f c.peerMoon c.ports g.marked [] 0
    emit (openOwn s m migRing f c.peerMoon c.ports [] (stateChunks g) 0) (.migState m c.peer c.peerMoon g)

/-- M4: the handover (R245): a fetch ends with MIGRATED, unreleased arrivals are withdrawn, the moon is suspended. -/
def handover (s : State) (m : Nat) : State :=
  let s := withdrawArrivals (endFetch (stopPrecopy s m) m 0xE) fun a _ _ => a == m
  let s := unstart s m
  let s := { s with tasks := { s.tasks with tasks := s.tasks.tasks.map fun t => if t.moon == m then travelTask t else t } }
  let s := modMoon s m fun x => { x with mig := .handover, migAt := migDeadline s }
  let x := getMoon s m
  if x.swap = .spilling then s
  else if x.spilled then sendMigState s m
  else beginSpill s m

/-- SPILL_DONE (R235): every image of the moon stands in its save area. -/
def execSpillDone (m : Nat) (s : State) : Res :=
  let x := getMoon s m
  if !isUp s || x.swap != .spilling || !spillReady s m then .next s
  else
    let s := saveMoon s m
    let s := if x.state == .migrating && x.mig == .handover then sendMigState s m else spilledTo s m
    .next (beginRestores (settleMoves s m))

/-- MIGRATE_PEER_CONFIRM (M2 of R245, R299): pre-copy begins, or the command fails with PEER_REFUSED, also when the target's SEQ_QUOTA is below the
moon's live sequences. -/
def execMigratePeerConfirm (m : Nat) (peer : PeerAnswer) (s : State) : Res :=
  let x := getMoon s m
  if !isUp s || x.state != .migrating || x.mig != .none then .next s
  else if peer.matching && decide ((getServe s m).seqs.length ≤ peer.quota) then .next (sendPages (setMoon s m { x with mig := .precopy }) m)
  else .next (endJob (setMoon s m { x with state := x.prev, migCmd := none }) m 0xC)

/-- A round of pre-copy has been delivered. -/
def roundDone (s : State) (m : Nat) : Bool := !(s.links.tx.any fun x => x.moon == m && x.ring == migRing)

/-- PRECOPY_DONE (R227, R245): every mapped page has been sent once; with WHEN_EN 0 the handover follows, otherwise pages written since are sent
again. -/
def execPrecopyDone (m : Nat) (s : State) : Res :=
  let x := getMoon s m
  if isUp s && x.state == .migrating && x.mig == .precopy && roundDone s m then .next (if migWhen x then sendPages s m else handover s m) else .next s

/-- MIGRATION_HANDOVER (R227, R245): orbit reaches WHEN. -/
def execMigrationHandover (m : Nat) (s : State) : Res :=
  let x := getMoon s m
  if isUp s && x.state == .migrating && x.mig == .precopy && migWhen x && s.orbit.state != .unlocked &&
      decide ((x.migCmd.map MoonCmd.whenOrbit).getD 0 ≤ s.orbit.now) && !earlierDue s 2 ((x.migCmd.map MoonCmd.whenOrbit).getD 0) then .next (handover s m) else .next s

/-- The page table of an arriving moon: fresh pages with the contents sent, and the target's own shared base at the same MAs (R348). -/
def installPages (s : State) (m : Nat) (g : MigState) : State :=
  let (s, keys) := grantPages s m .granted (stacksOf (homeOctets s m)) g.pages.length
  let s := (g.pages.zip keys).foldl (fun s e =>
    let i := e.1.1
    let s := setEntry s m i { r := e.1.2.1, w := e.1.2.2.1, poison := e.1.2.2.2, migrating := false, stack := e.2 / 32768,
                              page := e.2 % 32768, owner := m }
    let src := if g.marked.contains i then g.pageBytes else (getMoon s m).precopied
    { s with mem := { s.mem with hbm := memPut s.mem.hbm (pageHpa e.2 0) (memPart src (hbmRegion + i * pageBytes) pageBytes) } }) s
  g.shared.foldl (fun s e =>
    match s.fetch.shared.find? fun b => b.2.manifest == e.2.1 with
    | none => s
    | some b => match (b.2.pages[e.2.2]?).bind (entryOf s 0) with
      | some f => setEntry s m e.1 { f with r := true, w := false }
      | none => s) s

/-- Serving tables of an arriving moon: versions on shared bases name the target's base (R348). -/
def installServe (s : State) (m : Nat) (v : Serve) (manifests : List Bytes) : State :=
  let idx (mf : Bytes) : Option Nat := (s.fetch.shared.find? fun b => b.2.manifest == mf).map Prod.fst
  let fix (x : Version) : Version := if x.shared.isSome then { x with shared := idx x.manifest } else x
  let s := setServe s m { v with slots := v.slots.map fun e => (e.1, { e.2 with versions := e.2.versions.map fix }) }
  manifests.foldl (fun s mf => match idx mf with
    | some b => { s with fetch := { s.fetch with shared := tmod s.fetch.shared SharedBase.reset b fun x => { x with attached := x.attached + 1 } } }
    | none => s) s

/-- Install a migrated state into an ARRIVING moon (M6 of R245, R246). -/
def installMig (s : State) (m : Nat) (g : MigState) : State :=
  let s := installPages s m g
  let s := g.objects.foldl (fun s o => match objNum s m o.1 with | some n => setObj s n o.2 | none => s) s
  let s := g.rings.foldl (fun s r => if r.1 < 16 then setRing s m r.1 r.2 else s) s
  let s := (g.tasks.map fun (t : Task) => { t with moon := m }).foldl addTask s
  let s := { s with
    stat := installStat s m g
    dict := { s.dict with
      stuckList := (g.stuck.map fun k => keyFor m k.1 k.2).foldl addNum s.dict.stuckList
      params := g.countA.foldl (fun t c => tset t (keyFor m c.1 c.2.1) c.2.2) s.dict.params
      blobs := tset s.dict.blobs (pkey 0xA011 m) g.signKey } }
  let s := ((upTo 5).zip g.ledger).foldl (fun s e => setParam s (0x7000 + e.1) m e.2) s
  let v := serveTimes (fun a => (s.orbit.refNs : Int) - a) g.serve
  let s := installServe s m v (g.serve.slots.flatMap fun e => (e.2.versions.filter fun v => v.shared.isSome).map Version.manifest)
  let s := setTrain s m (trainTimes (fun a => (s.orbit.refNs : Int) - a) g.train)
  let s := { s with links := { s.links with rxXfers := s.links.rxXfers ++ g.rxXfers.map fun y => { y with destMoon := m } } }
  modMoon s m fun x => { x with
    image := g.image, imageUe := g.imageUe, spilled := true, prio := g.prio, held := g.held, routes := g.routes, recvWin := g.recvWin
    precopied := [], mig := .installed, migAt := migDeadline s }

/-- MIGRATE_STATE_RECEIVED (M6 of R245): install and send READY. -/
def execMigrateStateReceived (m : Nat) (g : MigState) (s : State) : Res :=
  let x := getMoon s m
  if isUp s && x.state == .arriving && x.mig == .arriving then .next (handshake (installMig s m g) m .ready []) else .next s

/-- At M7 (R371): chunks that have come since the state left, and those still being received, are refused with MOON_GONE; their credit, and that of
the held ones that have left with the state, returns. -/
def refuseLate (s : State) (m : Nat) : State :=
  let late := (getMoon s m).held.drop (getMoon s m).heldSent
  let part := s.links.rx.filter fun c => flitMoon s c.port c.flit == m && !c.refused
  let s := { modMoon s m (fun x => { x with held := [], heldSent := 0 }) with links := { s.links with
    rx := s.links.rx.map fun c => if part.contains c then { c with refused := true } else c } }
  let s := late.foldl (fun s a => refuseChunk s m a nackGone) s
  let s := part.foldl (fun s c =>
    let (fabric, moon, _) := flitEnds s c.port c.flit
    sendCredit (refuseChunk s m (arrivalOf c.port fabric moon c.flit.xfer c.hdr []) nackGone) c.port 2 m (chunkFlits (flitBytes s c.port) c.got.length)) s
  (upTo 32).foldl (fun s p => returnHeld s p m) s

/-- READY_RECEIVED (M7 of R245): GO, MOVED, and a ledger record with MIGRATED_OUT. -/
def execReadyReceived (m : Nat) (s : State) : Res :=
  let x := getMoon s m
  if isUp s && x.state == .migrating && x.mig == .stateSent then
    let s := refuseLate (dropPrecopy (handshake s m .go []) m) m
    let s := closeSpan s m 4 s.orbit.now
    let s := modLedger s m fun l => { l with startOrbit := s.orbit.now }
    .next (modMoon s m fun x => { x with state := .moved, mig := .awaitRunning, migAt := migDeadline s })
  else .next s

/-- GO_RECEIVED (M8 of R245): the moon is restored, runs or waits, and RUNNING is sent. -/
def execGoReceived (m : Nat) (s : State) : Res :=
  let x := getMoon s m
  if isUp s && x.state == .arriving && (x.mig == .installed || x.mig == .uncertain) then .next (completeM8 (handshake s m .running []) m)
  else .next s

/-- RUNNING_RECEIVED (M9 of R245): the source releases the moon without a further record, and MIGRATE_OUT is DONE. -/
def execRunningReceived (m : Nat) (s : State) : Res :=
  let x := getMoon s m
  if isUp s && x.state == .moved then .next (endJob (freeMoon s m) m 0) else .next s

/-- ABORT_RECEIVED (R247): the target releases its ARRIVING moon. -/
def execAbortReceived (m : Nat) (s : State) : Res :=
  if isUp s && (getMoon s m).state == .arriving then .next (freeMoon s m) else .next s

/-- MIGRATE_READY_TIMEOUT (R247): no READY in time before M7. -/
def execMigrateReadyTimeout (m : Nat) (s : State) : Res :=
  let x := getMoon s m
  if isUp s && x.state == .migrating && (x.mig == .handover || x.mig == .stateSent) && decide (x.migAt ≤ s.orbit.refNs) then
    .next (endJob (abortMigration s m) m 0xD)
  else .next s

/-- MIGRATE_RUNNING_TIMEOUT (R247): no RUNNING in time; the source stays MOVED. -/
def execMigrateRunningTimeout (m : Nat) (s : State) : Res :=
  let x := getMoon s m
  if isUp s && x.state == .moved && x.mig == .awaitRunning && decide (x.migAt ≤ s.orbit.refNs) then
    .next (endJob (raiseTo (setMoon s m { x with mig := .uncertain }) 0 0x0606 m []) m 0xF)
  else .next s

/-- MIGRATE_GO_TIMEOUT (R247): no GO in time; the target stays ARRIVING. -/
def execMigrateGoTimeout (m : Nat) (s : State) : Res :=
  let x := getMoon s m
  if isUp s && x.state == .arriving && x.mig == .installed && decide (x.migAt ≤ s.orbit.refNs) then
    .next (raiseTo (setMoon s m { x with mig := .uncertain }) 0 0x0606 m [])
  else .next s

end Sys2Proof.Machine
end

