-- ==== Sys2Proof/Machine/Sampling.lean ====
section
/-! DEFINITION. Sampling of one logits row (R285, R286): penalties, temperature, TOP_K, probabilities, TOP_P and the draw. -/

namespace Sys2Proof.Machine

/-- Parse SAMPLING (R285). -/
def parseSampling (b : Bytes) : Sampling :=
  { temp := field b 0 4, topK := field b 4 2, repWindow := field b 6 2, topP := field b 8 4, repPen := field b 0x0C 4
    presPen := field b 0x10 4, freqPen := field b 0x14 4 }

/-- The values of SAMPLING are in range (R285). A reserved field of it that is not zero counts as out of range, for UPDATE too
[DESIGN CHOICE 56]. -/
def samplingOk (b : Bytes) : Bool :=
  let p := parseSampling b
  let t := num32 p.temp
  let q := num32 p.topP
  let r := num32 p.repPen
  t.isFin && !(t.sign && !t.isZero) && decide (p.topK ≤ 1024) && decide (p.repWindow ≤ 4096) &&
  q.isFin && Num.lt Num.zero q && Num.le q (Num.ofInt 1) && r.isFin && Num.le (Num.ofInt 1) r && Num.le r (Num.ofInt 8) &&
  (num32 p.presPen).isFin && (num32 p.freqPen).isFin && field b 0x18 8 == 0

/-- Step 1 of R286 on one logit: `n` is how often its token stands in the window. -/
def penalise (p : Sampling) (n : Nat) (z : Num) : Num :=
  if n = 0 then z
  else
    let rp := num32 p.repPen
    let a := rn32 (if Num.lt Num.zero z then divNum z rp else Num.mul z rp)
    rn32 (Num.add a (rn32 (Num.add (num32 p.presPen) (rn32 (Num.mul (Num.ofInt n) (num32 p.freqPen))))).neg)

/-- Step 1 over a row: `hist` holds the last REP_WINDOW tokens. -/
def penalties (p : Sampling) (hist : List Nat) (z : List Num) : List Num :=
  ((upTo z.length).zip z).map fun e => penalise p (hist.filter fun t => t == e.1).length e.2

/-- The token of the largest value, ties to the lowest (step 2). -/
def greatest (l : List (Nat × Num)) (best : Nat × Num) : Nat × Num :=
  match l with
  | [] => best
  | e :: r => greatest r (if Num.lt best.2 e.2 then e else best)

/-- Insert by descending value; equal values keep ascending token number. -/
def insertDesc (e : Nat × Num) (l : List (Nat × Num)) : List (Nat × Num) :=
  match l with
  | [] => [e]
  | a :: r => if Num.lt a.2 e.2 then e :: a :: r else a :: insertDesc e r

/-- Tokens by descending value, then ascending number. -/
def sortDesc (l : List (Nat × Num)) : List (Nat × Num) := l.foldl (fun a e => insertDesc e a) []

/-- Step 3: divided by TEMP, all but the TOP_K largest at −∞. -/
def tempered (p : Sampling) (z : List Num) : List Num :=
  let d := z.map fun x => rn32 (divNum x (num32 p.temp))
  if p.topK = 0 then d
  else
    let keep := ((sortDesc ((upTo d.length).zip d)).take p.topK).map Prod.fst
    ((upTo d.length).zip d).map fun e => if keep.contains e.1 then e.2 else .inf true

/-- Step 4: probabilities under R143; the exponentials are free within it [6]. -/
def probabilities (z : List Num) (n : Nat) : List Num × Nat :=
  let (a, n) := rowUpdate RowAcc.start z n
  (((upTo z.length).zip z).map fun e => rn32 (normOne false a true e.2 e.2 (n + e.1)).1, n + z.length)

/-- The shortest prefix whose FP32 running sum reaches `q` (step 5), and its sum. -/
def prefixTo (q : Num) (sum : Num) (l : List (Nat × Num)) : List (Nat × Num) × Num :=
  match l with
  | [] => ([], sum)
  | e :: r =>
    let t := rn32 (Num.add sum e.2)
    if Num.le q t then ([e], t) else let (k, u) := prefixTo q t r; (e :: k, u)

/-- The first token whose running sum exceeds `u`, otherwise the last kept (step 6). -/
def drawToken (u : Num) (sum : Num) (last : Nat) (l : List (Nat × Num)) : Nat :=
  match l with
  | [] => last
  | e :: r =>
    let t := rn32 (Num.add sum e.2)
    if Num.lt u t then e.1 else drawToken u t e.1 r

/-- Sample a row (R286): the token, or the end reason 5 NONFINITE or 6 EMPTY_DIST; and the next draw. -/
def sampleRow (p : Sampling) (hist : List Nat) (row : List Num) (n : Nat) : Except Nat Nat × Nat :=
  let z := penalties p hist row
  if z.any Num.isNan then (.error 5, n)
  else if z.all fun x => x == .inf true then (.error 6, n)
  else if (num32 p.temp).isZero then
    (.ok (greatest ((upTo z.length).zip z) (0, z.headD Num.zero)).1, n)
  else
    let t := tempered p z
    if t.all fun x => x == .inf true then (.error 6, n)
    else
    let (pr, n) := probabilities t n
    let order := (sortDesc ((upTo pr.length).zip pr)).filter fun e => t.getD e.1 (.inf true) != .inf true
    let q := num32 p.topP
    let kept := if Num.lt q (Num.ofInt 1) then
        let (k, sum) := prefixTo q Num.zero order
        k.map fun e => (e.1, rn32 (divNum e.2 sum))
      else order
    let u := Num.fin false (Config.random n % 2 ^ 24) (-24)
    (.ok (drawToken u Num.zero ((kept.headD (0, Num.zero)).1) kept), n + 1)

end Sys2Proof.Machine
end

