-- ==== Sys2Proof/Machine/Serving.lean ====
section
/-! DEFINITION. Serving tables (R258 to R266, R275 to R277, R282 to R285, R289 to R292, R295): contexts, slots, versions, sequences, requests,
output records, KV pages, swaps, unloading, eviction, and the rows SERVE_CTX, SWAP, CANCEL_SWAP, UNLOAD, VARIANT_RETIRE, SWAP_FIRE,
SERVE_STAT_READ. -/

namespace Sys2Proof.Machine

/-! ## Slots and versions (R265, R266) -/

/-- Change the serving of a moon. -/
def modServe (s : State) (m : Nat) (f : Serve → Serve) : State := setServe s m (f (getServe s m))

/-- Model slot `k` of moon `m`. -/
def getSlot (s : State) (m k : Nat) : Slot := tget (getServe s m).slots Slot.reset k

/-- Set a model slot. -/
def setSlot (s : State) (m k : Nat) (x : Slot) : State := modServe s m fun v => { v with slots := tset v.slots k x }

/-- The slot's version of a kind. -/
def Slot.version (x : Slot) (k : VersionKind) : Option Version := x.versions.find? fun v => v.kind == k

/-- The number of SLOT_STATE (R266). -/
def slotCode : SlotState → Nat
  | .empty => 0
  | .loading => 1
  | .ready => 2
  | .evicted => 3

/-- MODEL_STATE (R266). -/
def modelWord (x : Slot) : Nat :=
  slotCode x.state + (if (x.version .staged).isSome then 16 else 0) + (if (x.version .pinnedOld).isSome then 32 else 0) +
  (match x.swap with | some j => if j.armed then 128 else 64 | none => 0) +
  65536 * (match x.version .current with | some v => v.number.toNat | none => 0)

/-- Live sequences of a slot, ascending by index. -/
def slotSeqs (v : Serve) (k : Nat) : List (Nat × Sequence) := v.seqs.filter fun e => e.2.slot == k

/-- Release a version: its pages are unmapped, and a shared base loses a holder (R289, R347). -/
def releaseVersion (s : State) (m : Nat) (v : Version) : State :=
  let s := unmapPages s m v.pages
  match v.shared with
  | some b => { s with fetch := { s.fetch with shared := tmod s.fetch.shared SharedBase.reset b fun x => { x with attached := x.attached - 1 } } }
  | none => s

/-- Remove the versions of a slot that satisfy `p`, releasing each. -/
def dropVersions (s : State) (m k : Nat) (p : Version → Bool) : State :=
  let x := getSlot s m k
  let s := (x.versions.filter p).foldl (fun s v => releaseVersion s m v) s
  setSlot s m k { x with versions := x.versions.filter fun v => !p v }

/-- A PINNED_OLD version and retired variants leave at the boundary where their last live sequence has ended (R289, R292). -/
def sweepSlot (s : State) (m k : Nat) : State :=
  let live := slotSeqs (getServe s m) k
  let s := dropVersions s m k fun v => v.kind == .pinnedOld && !(live.any fun e => e.2.version == v.number)
  let x := getSlot s m k
  let gone := x.variants.filter fun e => e.2.retired && !(live.any fun q => q.2.variant == e.1)
  let s := gone.foldl (fun s e => unmapPages s m e.2.pages) s
  let x := getSlot s m k
  setSlot s m k { x with variants := x.variants.filter fun e => !(gone.any fun g => g.1 == e.1) }

/-- Every slot of a moon at a boundary, whichever slot's it is (R274, R289, R292). -/
def sweepMoon (s : State) (m : Nat) : State := (upTo 16).foldl (fun s k => sweepSlot s m k) s

/-- Variants that F5 activated serve from the slot's next OPEN on (R345). -/
def openVariants (s : State) (m k : Nat) : State :=
  let x := getSlot s m k
  setSlot s m k { x with variants := x.variants.map fun e => (e.1, { e.2 with active := true }) }

/-- The pages of a slot's variants are unmapped and the variants leave. -/
def dropVariants (s : State) (m k : Nat) : State :=
  let x := getSlot s m k
  let s := x.variants.foldl (fun s e => unmapPages s m e.2.pages) s
  setSlot s m k { getSlot s m k with variants := [] }

/-! ## The serving context (R258 to R260) -/

/-- A range of `n` bytes lies inside a moon's address space (R42, R259). -/
def inSpace (s : State) (m ma n : Nat) : Bool :=
  decide (ma + n ≤ (moonCores s m).length * 2 ^ 24) || (decide (hbmRegion ≤ ma) && decide (ma + n ≤ hbmEnd))

/-- Parse a context (R258). -/
def parseCtx (b : Bytes) : ServeCtx :=
  { reqLog2 := field b 2 1, outLog2 := field b 3 1, reqRing := field b 8 8, outRing := field b 0x10 8, kvPool := field b 0x28 8
    kvPages := field b 0x30 4, kvSpPages := field b 0x34 4, kvSp := field b 0x38 8, treeBase := field b 0x40 8 }

/-- Ranges, alignments and placements of R258 and R259. -/
def ctxOk (s : State) (m : Nat) (b : Bytes) : Bool :=
  let c := parseCtx b
  field b 0 2 == 1 &&
  decide (6 ≤ c.reqLog2 ∧ c.reqLog2 ≤ 16) && decide (6 ≤ c.outLog2 ∧ c.outLog2 ≤ 16) &&
  c.reqRing % 4096 == 0 && c.outRing % 4096 == 0 && c.kvPool % 2 ^ 21 == 0 && c.kvSp % 65536 == 0 &&
  inSpace s m c.reqRing (128 * 2 ^ c.reqLog2) && inSpace s m c.outRing (128 * 2 ^ c.outLog2) &&
  inSpace s m c.kvPool (65536 * c.kvPages) &&
  (c.kvSpPages == 0 || decide (c.kvSp + 65536 * c.kvSpPages ≤ (moonCores s m).length * 2 ^ 24)) &&
  (c.treeBase == 0 || inSpace s m c.treeBase (512 * param s 0x8001 m))

/-- A STEP task of the moon has started and not completed (R259). -/
def stepStarted (s : State) (m : Nat) : Bool := s.tasks.tasks.any fun t => t.moon == m && t.desc.kind == 5 && t.started && !t.completed

/-- A SERVE_CTX write (R259): the context as read now; one that fails its checks leaves none. -/
def writeCtx (m a : Nat) (s : State) : Except Nat State :=
  let v := getServe s m
  if !v.seqs.isEmpty || stepStarted s m then .error 8
  else
    let inHbm := a % 64 == 0 && decide (hbmRegion ≤ a) && decide (a + 128 ≤ hbmEnd)
    let ctx := if !inHbm then none
      else match readMa s m none a 128 with
        | .ok b => if ctxOk s m b then some (parseCtx b) else none
        | .error _ => none
    .ok (setServe s m { v with ctxMa := a, ctx := ctx, kvUsed := [], kvSp := [] })

/-- SERVE_CTX (R259). -/
def execServeCtx (who : Who) (m a : Nat) (s : State) : Res :=
  let m := effMoon who m
  command s who 0x8010 m (writeCtx m a)

/-- A ring pointer in the context's memory (R259): REQ_TAIL 0x18, REQ_HEAD 0x1C, OUT_TAIL 0x20, OUT_HEAD 0x24. The two that
the module writes are read there too, and start from what the context holds [DESIGN CHOICE 56]. -/
def ctxWord (s : State) (m off : Nat) : Except Fail Nat := (readMa s m none ((getServe s m).ctxMa + off) 4).map leNat

/-- Write a ring pointer. -/
def setCtxWord (s : State) (m off v : Nat) : Except Fail State := writeMa s m ((getServe s m).ctxMa + off) (leBytes 4 v)

/-! ## Output records (R276, R277) -/

/-- An output record (R277). -/
structure OutRec where
  kind     : Nat
  code     : Nat
  flags    : Nat
  handle   : Nat
  tag      : Nat
  step     : W32
  version  : Nat
  accepted : Nat
  pos      : Nat
  tokens   : List Nat
  deriving DecidableEq, Repr

/-- The 128 bytes of an output record (R277). -/
def outBytes (o : OutRec) : Bytes :=
  padTo (leBytes 1 o.kind ++ leBytes 1 o.code ++ leBytes 1 o.tokens.length ++ leBytes 1 o.flags ++ leBytes 4 o.handle ++ leBytes 8 o.tag ++
    leBytes 4 o.step.toNat ++ leBytes 2 o.version ++ leBytes 1 o.accepted ++ leBytes 1 0 ++ leBytes 4 o.pos ++ leBytes 4 0 ++
    o.tokens.flatMap (leBytes 4)) 128

/-- Write an output record and advance OUT_TAIL. -/
def postOut (s : State) (m : Nat) (c : ServeCtx) (o : OutRec) : Except Fail State := do
  let tail ← ctxWord s m 0x20
  let s ← writeMa s m (c.outRing + 128 * (tail % 2 ^ c.outLog2)) (outBytes o)
  setCtxWord s m 0x20 ((tail + 1) % 2 ^ 32)

/-- The handle of a sequence (R262). -/
def handleOf (v : Serve) (i : Nat) : Nat := i + 16384 * (tget v.gens 0 i % 2 ^ 18)

/-- Entries of running RUN steps that hold a reserved output slot. -/
def runEntries (v : Serve) : List Entry := (v.runs.filter fun r => r.mode == 0).flatMap StepRun.entries

/-- A running step holds a sequence (R275). -/
def inRun (v : Serve) (i : Nat) : Bool := (runEntries v).any fun e => e.index == i

/-- Free entries of the output ring. -/
def outFree (s : State) (m : Nat) (c : ServeCtx) : Except Fail Int := do
  let tail ← ctxWord s m 0x20
  let head ← ctxWord s m 0x24
  .ok ((2 ^ c.outLog2 : Nat) - (((tail + 2 ^ 32 - head) % 2 ^ 32 : Nat) : Int))

/-- Entries the ring must keep free (R276): one for every DECODE sequence of the moon, one for every PREFILL entry of a running step. -/
def outNeed (v : Serve) : Nat := (v.seqs.filter fun e => e.2.state == .decode).length + ((runEntries v).filter fun e => e.kind == 3).length

/-- The room beyond what must be kept. -/
def outRoom (s : State) (m : Nat) (c : ServeCtx) : Except Fail Int := do
  let f ← outFree s m c
  .ok (f - outNeed (getServe s m))

/-! ## KV pages (R282 to R284) -/

/-- Free pages of the KV pool. -/
def kvFree (v : Serve) (c : ServeCtx) : List Nat := (upTo c.kvPages).filter fun p => !v.kvUsed.contains p

/-- Take `n` free pages of the KV pool, which ones being open [16]; fewer when they run out. -/
def takeKv (s : State) (m : Nat) (c : ServeCtx) (n : Nat) : State × List Nat :=
  match n with
  | 0 => (s, [])
  | n + 1 =>
    match drawFrom (kvFree (getServe s m) c) s with
    | (none, s) => (s, [])
    | (some p, s) =>
      let (s, l) := takeKv (modServe s m fun v => { v with kvUsed := addNum v.kvUsed p }) m c n
      (s, p :: l)

/-- Give KV pages back to the pool. -/
def giveKv (s : State) (m : Nat) (l : List Nat) : State :=
  modServe s m fun v => { v with kvUsed := v.kvUsed.filter fun p => !l.contains p, kvSp := v.kvSp.filter fun e => !l.contains e.2 }

/-- MA of a pool page. -/
def poolMa (c : ServeCtx) (p : Nat) : Nat := c.kvPool + 65536 * p

/-- The present home of a KV page: a scratchpad KV page or its pool page (R271). -/
def kvHome (v : Serve) (c : ServeCtx) (p : Nat) : Nat :=
  match v.kvSp.find? fun e => e.2 == p with
  | some e => c.kvSp + 65536 * e.1
  | none => poolMa c p

/-- KV pages of a sequence for `n` positions. -/
def kvCount (x : Version) (n : Nat) : Nat := x.layers * ((n + x.kvTpp - 1) / x.kvTpp)

/-- A sequence keeps the pages that cover its first `n` positions and frees the rest (R282, R288, R297). -/
def trimKv (s : State) (m i : Nat) (x : Version) : State :=
  match tfind (getServe s m).seqs i with
  | none => s
  | some q =>
    let n := kvCount x q.pos
    modServe (giveKv s m (q.kv.drop n)) m fun v => { v with seqs := tset v.seqs i { q with kv := q.kv.take n } }

/-- A sequence becomes FREE: its pages return and its index's generation advances (R262, R263, R282). -/
def freeSeq (s : State) (m i : Nat) : State :=
  match tfind (getServe s m).seqs i with
  | none => s
  | some q =>
    modServe (giveKv s m (q.hist.toList ++ q.kv)) m fun v => { v with
      seqs := tdel v.seqs i, gens := tset v.gens i ((tget v.gens 0 i + 1) % 2 ^ 18) }

/-- The ENDED record of a sequence (R277). -/
def endedRec (v : Serve) (i : Nat) (q : Sequence) (step : W32) (code : Nat) : OutRec :=
  { kind := 4, code := code, flags := 0, handle := handleOf v i, tag := q.tag, step := step, version := q.version.toNat, accepted := 0
    pos := q.pos, tokens := [] }

/-- End a sequence with an ENDED record. -/
def endSeq (s : State) (m i : Nat) (c : ServeCtx) (step : W32) (code : Nat) : Except Fail State :=
  match tfind (getServe s m).seqs i with
  | none => .ok s
  | some q => do
    let s ← postOut s m c (endedRec (getServe s m) i q step code)
    let s := if code = 3 then incB s 0x8044 m 1 else s
    .ok (freeSeq s m i)

/-- The history page's MA of token `n` of a sequence (R282). -/
def histMa (c : ServeCtx) (q : Sequence) (n : Nat) : Nat := poolMa c (q.hist.getD 0) + 4 * (n % 4096)

/-- Append tokens to a history page, the first being the sequence's token number `n`. -/
def histPut (s : State) (m : Nat) (c : ServeCtx) (q : Sequence) (n : Nat) (l : List Nat) : Except Fail State :=
  match l with
  | [] => .ok s
  | t :: r => do
    let s ← writeMa s m (histMa c q n) (leBytes 4 t)
    histPut s m c q (n + 1) r

/-- The last tokens of the history page within REP_WINDOW (R286). -/
def histLast (s : State) (m : Nat) (c : ServeCtx) (q : Sequence) : Except Fail (List Nat) :=
  let n := q.promptDone + q.generated
  let k := Nat.min q.sampling.repWindow (Nat.min n 4096)
  (upTo k).mapM fun j => (readMa s m none (histMa c q (n - k + j)) 4).map leNat

/-! ## Requests (R275) -/

/-- A request as read. -/
structure Req where
  op        : Nat
  flags     : Nat
  slot      : Nat
  variant   : Nat
  tag       : Nat
  prompt    : Nat
  promptLen : Nat
  maxNew    : Nat
  handle    : Nat
  stops     : List Nat
  sampling  : Bytes
  rsv       : Bool
  deriving DecidableEq, Repr

/-- Parse the 128 bytes of a request (R275). -/
def parseReq (b : Bytes) : Req :=
  { op := field b 0 1, flags := field b 1 1, slot := field b 2 1, variant := field b 4 2, tag := field b 8 8, prompt := field b 0x10 8
    promptLen := field b 0x18 4, maxNew := field b 0x1C 4, handle := field b 0x20 4
    stops := (upTo 4).map fun i => field b (0x28 + 4 * i) 4, sampling := slice b 0x38 32
    rsv := field b 3 1 != 0 || field b 6 2 != 0 || field b 0x24 4 != 0 || field b 0x58 40 != 0 || decide (4 ≤ field b 1 1) }

/-- The variant a request names is active and of a kind the slot allows (R291, R292). -/
def variantOk (s : State) (m : Nat) (x : Slot) (n : Nat) : Bool :=
  n == 0xFFFF ||
  match tfind x.variants n, x.version .current with
  | some w, some v => w.active && !w.retired && (if w.experts then v.span else !v.span && decide ((moonCores s m).length ≤ 64))
  | _, _ => false

/-- The lowest free sequence index below SEQ_QUOTA (R261). -/
def freeIndex (s : State) (m : Nat) : Option Nat := (upTo (param s 0x8001 m)).find? fun i => !thas (getServe s m).seqs i

/-- Reject code of an ADMIT, the lowest that applies, 0 for none (R275). -/
def rejectCode (s : State) (m : Nat) (c : ServeCtx) (r : Req) : Nat :=
  let x := getSlot s m r.slot
  if (freeIndex s m).isNone then 1
  else if 15 < r.slot ∨ x.state ≠ .ready ∨ x.admitsOff then 2
  else if !variantOk s m x r.variant then 3
  else if !samplingOk r.sampling || !decide (1 ≤ r.promptLen ∧ r.promptLen ≤ 2 ^ 24) || !decide (1 ≤ r.maxNew ∧ r.maxNew ≤ 2 ^ 24) then 4
  else if r.rsv then 5
  else if r.flags.testBit 0 && c.treeBase == 0 then 6
  else 0

/-- A REJECTED record; SERVE_REJECTS counts it. -/
def reject (s : State) (m : Nat) (c : ServeCtx) (step : W32) (r : Req) (code : Nat) : Except Fail State := do
  let s ← postOut s m c { kind := 3, code := code, flags := 0, handle := 0xFFFFFFFF, tag := r.tag, step := step, version := 0,
                          accepted := 0, pos := 0, tokens := [] }
  .ok (incB s 0x8045 m 1)

/-- Admit a request: the lowest free index enters WAITING at VERSION = CURRENT (R275), with its slot's step number as ADMIT_STEP. Where the KV pool has
no page left for the history page (R282), on which R275 names no code, the sequence ends at once with KV_FULL [DESIGN CHOICE 56]. -/
def admitSeq (s : State) (m : Nat) (c : ServeCtx) (step : W32) (r : Req) : Except Fail State :=
  match freeIndex s m, (getSlot s m r.slot).version .current with
  | some i, some cur => do
    let (s, l) := takeKv s m c 1
    let q : Sequence :=
      { state := .waiting, slot := r.slot, variant := r.variant, tag := r.tag, pos := 0, promptDone := 0, promptLen := r.promptLen
        prompt := r.prompt, generated := 0, maxNew := r.maxNew, version := cur.number, spec := r.flags.testBit 0, pinned := false
        cancel := false, deferred := false, admitStep := (getSlot s m r.slot).step, swapStep := 0xFFFFFFFF, kv := [], hist := l.head?, stops := r.stops
        sampling := parseSampling r.sampling, pendingTok := 0, swapped := false }
    let s := modServe s m fun v => { v with seqs := tset v.seqs i q }
    let full := l.isEmpty
    let s ← postOut s m c { kind := 2, code := 0, flags := 0, handle := handleOf (getServe s m) i, tag := r.tag, step := step
                            version := cur.number.toNat, accepted := 0, pos := 0, tokens := [] }
    if full then endSeq s m i c step 4 else .ok s
  | _, _ => .ok s

/-- The live sequence a CANCEL or UPDATE names (R262, R275). -/
def namedSeq (v : Serve) (r : Req) : Option Nat :=
  if r.op = 2 ∧ r.flags.testBit 1 then (v.seqs.find? fun e => e.2.tag == r.tag).map Prod.fst
  else if thas v.seqs (r.handle % 16384) && handleOf v (r.handle % 16384) == r.handle then some (r.handle % 16384) else none

/-- Act on one request (R275): the state, and whether it was rejected. -/
def actReq (s : State) (m : Nat) (c : ServeCtx) (step : W32) (r : Req) : Except Fail (State × Bool) :=
  let v := getServe s m
  match r.op with
  | 1 =>
    let code := rejectCode s m c r
    if code = 0 then (admitSeq s m c step r).map fun s => (s, false) else (reject s m c step r code).map fun s => (s, true)
  | 2 =>
    if r.rsv then (reject s m c step r 5).map fun s => (s, true)
    else match namedSeq v r with
      | none => .ok (s, false)
      | some i =>
        if inRun v i then .ok (modServe s m fun v => { v with seqs := v.seqs.map fun e => if e.1 == i then (e.1, { e.2 with cancel := true }) else e }, false)
        else (endSeq s m i c step 3).map fun s => (s, false)
  | 3 =>
    if !samplingOk r.sampling then (reject s m c step r 4).map fun s => (s, true)
    else match namedSeq v r with
      | none => .ok (s, false)
      | some i => .ok (modServe s m fun v => { v with seqs := v.seqs.map fun e =>
          if e.1 == i then (e.1, { e.2 with sampling := parseSampling r.sampling }) else e }, false)
  | _ => (reject s m c step r 5).map fun s => (s, true)

/-- O3 of R272: requests from REQ_HEAD up to `tail` while the output ring keeps its room; KSTATUS bits 2 and 7. -/
def takeReqs (s : State) (m : Nat) (c : ServeCtx) (step : W32) (tail fuel k : Nat) : Except Fail (State × Nat) :=
  match fuel with
  | 0 => .ok (s, k)
  | fuel + 1 => do
    let head ← ctxWord s m 0x1C
    if head = tail then .ok (s, k)
    else
      let b ← readMa s m none (c.reqRing + 128 * (head % 2 ^ c.reqLog2)) 128
      let (t, rej) ← actReq s m c step (parseReq b)
      let room ← outRoom t m c
      if room < 0 then .ok (s, k ||| 128)
      else
        let t ← setCtxWord t m 0x1C ((head + 1) % 2 ^ 32)
        takeReqs t m c step tail fuel (k ||| if rej then 4 else 0)

/-! ## Swaps and unloading (R289, R290) -/

/-- A turn is between its WHEN and its end. -/
def turnRuns (t : Train) : Bool := t.phase == .draining || t.phase == .transforming || t.phase == .barrier

/-- A turn of the slot is between its WHEN and its end: under TO_LEARN it holds a swap, and the swap of a slot that TO_GENERATE replaces applies
nothing (R331, R333). -/
def turnHolds (s : State) (m k : Nat) : Bool :=
  let t := getTrain s m
  turnRuns t && (match t.turn with | some (c, _, _) => c.slot == k | none => false)

/-- O2 of R272: an armed swap applies, unless a turn holds it (R331); KSTATUS bit 1. -/
def applySwap (s : State) (m k : Nat) (step : W32) : State × Nat :=
  let x := getSlot s m k
  match x.swap, x.version .staged with
  | some j, some new =>
    if !j.armed || j.held || turnHolds s m k then (s, 0)
    else
      let upd (q : Sequence) : Sequence :=
        if q.slot ≠ k then q
        else if j.pinned ∧ q.state ≠ .waiting then { q with pinned := true }
        else { q with version := new.number, swapStep := step, swapped := true }
      let s := modServe s m fun v => { v with seqs := v.seqs.map fun e => (e.1, upd e.2) }
      let s := if j.pinned then
          setSlot s m k { x with versions := x.versions.map fun v => if v.kind = .current then { v with kind := .pinnedOld } else v }
        else dropVersions s m k fun v => v.kind == .current
      let x := getSlot s m k
      (setSlot s m k { x with swap := none, versions := x.versions.map fun v => if v.kind = .staged then { v with kind := .current } else v }, 2)
  | _, _ => (s, 0)

/-- End every live sequence of a slot with a reason. -/
def endSlot (s : State) (m : Nat) (c : ServeCtx) (step : W32) (code : Nat) (l : List (Nat × Sequence)) : Except Fail State :=
  match l with
  | [] => .ok s
  | e :: r => do
    let s ← endSeq s m e.1 c step code
    endSlot s m c step code r

/-- A slot has been emptied: a fetch into it fails with SLOT_GONE at its next chunk boundary (R346). -/
def goneFetch (s : State) (m k : Nat) : State :=
  { s with fetch := { s.fetch with jobs := s.fetch.jobs.map fun e =>
    if e.1 == m && e.2.cmd.slot == k then (e.1, { e.2 with slotGone := true }) else e } }

/-- An UNLOAD takes effect (R290), once the output ring has room for its ENDED records. -/
def applyUnload (s : State) (m k : Nat) (c : ServeCtx) (step : W32) : Except Fail State :=
  if !(getSlot s m k).unload then .ok s
  else do
    let l := slotSeqs (getServe s m) k
    let room ← outRoom s m c
    if room + (l.filter fun e => e.2.state == .decode).length < l.length then .ok s
    else
      let s ← endSlot s m c step 7 l
      let s := dropVariants (dropVersions s m k fun _ => true) m k
      let x := getSlot s m k
      let s := setSlot s m k { x with state := .empty, versions := [], variants := [], registration := none, swap := none, unload := false }
      .ok (goneFetch s m k)

/-- MODEL_CMD SWAP (R289). -/
def swapCmd (m k : Nat) (c : ModelCmd) (s : State) : Except Nat State :=
  let x := getSlot s m k
  if (x.version .staged).isNone || x.swap.isSome then .error 7
  else .ok (setSlot s m k { x with swap := some { pinned := c.pinned, whenOrbit := if c.whenEn then some c.whenOrbit else none,
                                                   armed := !c.whenEn, held := x.admitsOff } })

/-- SWAP (R289). -/
def execSwap (who : Who) (m k : Nat) (c : ModelCmd) (s : State) : Res := command s who 0x8030 k (swapCmd (effMoon who m) k c)

/-- MODEL_CMD CANCEL_SWAP (R290). -/
def cancelSwapCmd (m k : Nat) (_c : ModelCmd) (s : State) : Except Nat State :=
  .ok (setSlot s m k { getSlot s m k with swap := none })

/-- CANCEL_SWAP (R290). -/
def execCancelSwap (who : Who) (m k : Nat) (c : ModelCmd) (s : State) : Res := command s who 0x8030 k (cancelSwapCmd (effMoon who m) k c)

/-- MODEL_CMD UNLOAD (R290). -/
def unloadCmd (m k : Nat) (_c : ModelCmd) (s : State) : Except Nat State :=
  .ok (setSlot s m k { getSlot s m k with unload := true })

/-- UNLOAD (R290): it takes effect at the slot's next OPEN. -/
def execUnload (who : Who) (m k : Nat) (c : ModelCmd) (s : State) : Res := command s who 0x8030 k (unloadCmd (effMoon who m) k c)

/-- MODEL_CMD VARIANT_RETIRE (R292). -/
def retireCmd (m k : Nat) (c : ModelCmd) (s : State) : Except Nat State :=
  let x := getSlot s m k
  .ok (setSlot s m k { x with variants := x.variants.map fun e => if e.1 == c.variant then (e.1, { e.2 with retired := true }) else e })

/-- VARIANT_RETIRE (R292). -/
def execVariantRetire (who : Who) (m k : Nat) (c : ModelCmd) (s : State) : Res := command s who 0x8030 k (retireCmd (effMoon who m) k c)

/-- SWAP_FIRE (R289): orbit reaches the swap's WHEN; a suspended moon applies it under R237. -/
def execSwapFire (m k : Nat) (s : State) : Res :=
  let x := getSlot s m k
  match x.swap with
  | some j =>
    if isUp s && !j.armed && s.orbit.state != .unlocked && decide (j.whenOrbit.getD 0 ≤ s.orbit.now) && !(getMoon s m).spilled &&
        !earlierDue s 4 (j.whenOrbit.getD 0) then
      .next (setSlot s m k { x with swap := some { j with armed := true } })
    else .next s
  | none => .next s

/-- SERVE_STAT_READ (R300). -/
def execServeStatRead (who : Who) (m : Nat) (s : State) : Res :=
  let m := effMoon who m
  query s who 0x8040 m fun s => readStat s 0x8040 m (ownRole s who m)

/-! ## Eviction (R295) -/

/-- Steps a slot served in the last EVICT_WINDOW seconds (R295, R300). -/
def stepsRecent (s : State) (x : Slot) : Nat :=
  (x.stepTimes.filter fun t => decide ((s.orbit.refNs : Int) < t + param s 0x8034 0 * 1000000000)).length

/-- A slot may be evicted (R295). -/
def evictable (v : Serve) (k : Nat) (x : Slot) : Bool :=
  x.state == .ready && (slotSeqs v k).isEmpty && (x.version .staged).isNone && (x.version .pinnedOld).isNone && x.swap.isNone &&
  !((x.version .current).map Version.span).getD false && !(v.runs.any fun r => r.slot == k)

/-- The slot to evict next: fewest recent steps, then the older last step, then the lower slot. -/
def evictNext (s : State) (m : Nat) : Option Nat :=
  let v := getServe s m
  let key (k : Nat) : Nat × Int := let x := getSlot s m k; (stepsRecent s x, x.stepTimes.getLastD 0)
  ((upTo 16).filter fun k => evictable v k (getSlot s m k)).foldl (fun b k => match b with
    | none => some k
    | some j => if (key k).1 < (key j).1 ∨ ((key k).1 = (key j).1 ∧ (key k).2 < (key j).2) then some k else b) none

/-- Unmapped pages of a moon's reservation (R295). -/
def unmappedPages (s : State) (m : Nat) : Nat := (getMoon s m).hbmPages - mappedCount s m

/-- Evict slots of a moon until `n` pages are free (R295). -/
def evictFor (s : State) (m n fuel : Nat) : State :=
  match fuel with
  | 0 => s
  | fuel + 1 =>
    if n ≤ unmappedPages s m then s
    else match evictNext s m with
      | none => s
      | some k =>
        let s := dropVariants (dropVersions s m k fun _ => true) m k
        let x := getSlot s m k
        evictFor (setSlot s m k { x with state := .evicted }) m n fuel

/-! ## Sequence records (R264) -/

/-- The state's number of R263. -/
def seqCode : SeqState → Nat
  | .waiting => 1
  | .prefill => 2
  | .decode => 3

/-- SEQ_RECORD of an index (R264): a FREE index reads zeros but for its handle [20]. -/
def seqRecord (v : Serve) (i : Nat) : Bytes :=
  match tfind v.seqs i with
  | none => padTo (leBytes 4 (handleOf v i)) 64
  | some q =>
    padTo (leBytes 4 (handleOf v i) ++ leBytes 1 (seqCode q.state) ++ leBytes 1 q.slot ++ leBytes 2 q.variant ++ leBytes 8 q.tag ++
      leBytes 4 q.pos ++ leBytes 4 q.promptDone ++ leBytes 4 q.promptLen ++ leBytes 4 q.generated ++ leBytes 4 q.maxNew ++
      leBytes 2 q.version.toNat ++
      leBytes 2 ((if q.spec then 1 else 0) + (if q.pinned then 2 else 0) + (if q.cancel then 4 else 0) + (if q.deferred then 8 else 0)) ++
      leBytes 4 q.admitStep.toNat ++ leBytes 4 q.swapStep.toNat ++ leBytes 4 (q.kv.length + q.hist.toList.length)) 64

end Sys2Proof.Machine
end

