-- ==== Sys2Proof/Machine/Steps.lean ====
section
/-! DEFINITION. STEP tasks (R267 to R274, R278 to R288, R293, R294, R296 to R298): the work list, KV pages, sampling and verification, OPEN and
CLOSE, and the rows STEP_RUN, STEP_CLOSE, STEP_SERVICE, FOLLOW, FOLLOW_WORK_LIST, FOLLOW_REPORT, SPAN_TIMEOUT. -/

namespace Sys2Proof.Machine

/-! ## The work list (R278 to R281, R287) -/

/-- What a sequence's tree buffer holds for its POS (R287): nothing, a bad tree, or node tokens and parents. -/
inductive TreeRead where
  | none
  | bad
  | nodes (tokens : List Nat) (parents : List Int)
  deriving DecidableEq, Repr

/-- Depth of each node, in node order; a parent is a lower node or −1. -/
def nodeDepths (parents : List Int) : List Nat :=
  parents.foldl (fun l p => l ++ [if p < 0 then 1 else l.getD p.toNat 0 + 1]) []

/-- The tree is well formed (R287). -/
def treeOk (vocab : Nat) (tokens : List Nat) (parents : List Int) : Bool :=
  let nodes := (upTo tokens.length).map fun i => (i, parents.getD i (-1), tokens.getD i 0)
  nodes.all (fun e => decide (-1 ≤ e.2.1 ∧ e.2.1 < (e.1 : Int)) && decide (e.2.2 < vocab)) &&
  (nodeDepths parents).all (fun d => decide (d ≤ 16)) &&
  nodes.all fun e => !(nodes.any fun f => decide (f.1 < e.1) && f.2.1 == e.2.1 && f.2.2 == e.2.2)

/-- Read a sequence's tree (R287). -/
def readTree (s : State) (m : Nat) (c : ServeCtx) (vocab i : Nat) (q : Sequence) : Except Fail TreeRead :=
  if !q.spec || c.treeBase == 0 then .ok .none
  else do
    let b ← readMa s m none (c.treeBase + 512 * i) 512
    let n := field b 4 1
    if field b 0 4 ≠ q.pos ∨ n = 0 then .ok .none
    else
      let ps := (upTo n).map fun j => toSigned 8 (field b (8 + j) 1)
      let ts := (upTo n).map fun j => field b (0x80 + 4 * j) 4
      .ok (if decide (n ≤ 64) && treeOk vocab ts ps then .nodes ts ps else .bad)

/-- The work list as it is built: the entries, the budget, rows of the logits buffer and output slots left, DECODE sequences not yet taken,
candidates deferred, the line-1 gate, and sequences that end with CONTEXT_LIMIT. -/
structure Building where
  entries  : List Entry
  budget   : Nat
  wlLeft   : Nat
  logits   : Nat
  outLeft  : Int
  decodes  : Nat
  deferred : List Nat
  shut     : Bool
  lineShut : Bool
  limit    : List Nat
  trees    : List Nat
  deriving DecidableEq, Repr

/-- An entry of a sequence. -/
def mkEntry (i : Nat) (q : Sequence) (kind rows line : Nat) (tokens : List Nat) (parents : List Int) (bad : Bool) : Entry :=
  { index := i, kind := kind, rows := rows, pos := q.pos, row0 := 0, lrow0 := 0xFFFFFFFF, tokens := tokens, parents := parents, line := line
    treeBad := bad }

/-- Logits rows an entry needs (R279). -/
def logitRows (q : Sequence) (e : Entry) : Nat :=
  if e.kind = 3 then (if q.promptDone + e.rows = q.promptLen then 1 else 0) else e.rows

/-- A sequence is deferred (R278 to R280). -/
def Building.defer (b : Building) (i : Nat) : Building := { b with deferred := addNum b.deferred i }

/-- Add an entry if the buffers take it; otherwise it and every later candidate are deferred (R279). An entry without a free output slot is
deferred alone [20]. -/
def Building.add (b : Building) (q : Sequence) (e : Entry) (cost : Nat) : Building :=
  let need := logitRows q e
  let room := if e.kind = 3 then decide (b.outLeft > b.decodes) else decide (b.outLeft > 0)
  if b.wlLeft = 0 ∨ b.logits < need then { b.defer e.index with shut := true }
  else if !room then b.defer e.index
  else { b with entries := b.entries ++ [e], budget := b.budget - cost, wlLeft := b.wlLeft - 1, logits := b.logits - need
                outLeft := b.outLeft - 1, decodes := if e.kind = 3 then b.decodes else b.decodes - 1 }

/-- Line 1 of R278: a DECODE sequence as VERIFY or DECODE. -/
def line1 (s : State) (m : Nat) (c : ServeCtx) (x : Version) (b : Building) (i : Nat) (q : Sequence) : Except Fail Building :=
  if x.maxCtx < q.pos + 1 then .ok { b with limit := b.limit ++ [i] }
  else if b.shut ∨ b.lineShut then .ok (b.defer i)
  else do
    let tr ← readTree s m c x.vocab i q
    let one (bad : Bool) : Building :=
      if b.budget = 0 then { b.defer i with lineShut := true } else b.add q (mkEntry i q 1 1 1 [q.pendingTok] [] bad) 1
    match tr with
    | .none => .ok (one false)
    | .bad => let y := one true; .ok { y with trees := addNum y.trees i }
    | .nodes ts ps =>
      let rows := 1 + ts.length
      .ok (if b.budget < rows ∨ x.maxCtx < q.pos + rows then one false
           else b.add q (mkEntry i q 2 rows 1 (q.pendingTok :: ts) ps false) rows)

/-- Prompt tokens of a chunk (R281). -/
def promptTokens (s : State) (m : Nat) (q : Sequence) (rows : Nat) : Except Fail (List Nat) := do
  let b ← readMa s m none (q.prompt + 4 * q.promptDone) (4 * rows)
  .ok ((upTo rows).map fun j => field b (4 * j) 4)

/-- A PREFILL entry of `rows` rows, costing `cost` of the budget. -/
def prefill (s : State) (m : Nat) (x : Version) (b : Building) (i : Nat) (q : Sequence) (rows cost line : Nat) : Except Fail Building :=
  if x.maxCtx < q.pos + rows then .ok { b with limit := b.limit ++ [i] }
  else if b.shut then .ok (b.defer i)
  else do
    let ts ← promptTokens s m q rows
    .ok (b.add q (mkEntry i q 3 rows line ts [] false) cost)

/-- Class C order (R220): `a` stands before `b`. -/
def beforeC (a b : W32) : Bool := a != b && decide ((b - a).toNat < 2 ^ 31)

/-- Sequences in the order of line 1 (R278): ascending ADMIT_STEP in class C order, then the lower index. -/
def insertOlder (e : Nat × Sequence) (l : List (Nat × Sequence)) : List (Nat × Sequence) :=
  match l with
  | [] => [e]
  | a :: r => if beforeC e.2.admitStep a.2.admitStep then e :: a :: r else a :: insertOlder e r

/-- Order candidates. -/
def byAge (l : List (Nat × Sequence)) : List (Nat × Sequence) := l.foldl (fun a e => insertOlder e a) []

/-- Every line-1 candidate. -/
def allLine1 (s : State) (m : Nat) (c : ServeCtx) (x : Version) (b : Building) (l : List (Nat × Sequence)) : Except Fail Building :=
  match l with
  | [] => .ok b
  | e :: r => do
    let b ← line1 s m c x b e.1 e.2
    allLine1 s m c x b r

/-- Line 3 of R278: it stops at the first candidate that gets no row. -/
def allLine3 (s : State) (m : Nat) (x : Version) (cap : Nat) (b : Building) (l : List (Nat × Sequence)) : Except Fail Building :=
  match l with
  | [] => .ok b
  | e :: r =>
    let rows := Nat.min (Nat.min b.budget (e.2.promptLen - e.2.promptDone)) cap
    if rows = 0 then .ok b
    else do
      let b ← prefill s m x b e.1 e.2 rows rows 3
      allLine3 s m x cap b r

/-- Candidates of a step: the slot's sequences on the step's version. -/
def candidates (v : Serve) (k : Nat) (x : Version) : List (Nat × Sequence) := (slotSeqs v k).filter fun e => e.2.version == x.number

/-- Build the work list (O4 of R272). -/
def buildList (s : State) (m : Nat) (c : ServeCtx) (t : StepRec) (k : Nat) (x : Version) : Except Fail Building := do
  let v := getServe s m
  let cs := byAge (candidates v k x)
  let free ← outFree s m c
  let b0 : Building :=
    { entries := [], budget := t.tokens, wlLeft := t.wlCap, logits := t.logitCap, outLeft := free - (runEntries v).length
      decodes := (v.seqs.filter fun e => e.2.state == .decode && !inRun v e.1).length
      deferred := [], shut := false, lineShut := false, limit := [], trees := [] }
  let b ← allLine1 s m c x b0 (cs.filter fun e => e.2.state == .decode)
  let ps := cs.filter fun e => e.2.state != .decode
  if (getMoon s m).privileged then
    match ps with
    | [] => .ok b
    | e :: r =>
      let b ← prefill s m x b e.1 e.2 (Nat.min t.chunk (e.2.promptLen - e.2.promptDone)) 0 2
      allLine3 s m x t.chunk b r
  else allLine3 s m x t.tokens b ps

/-! ## KV pages of a step (R283, R284) -/

/-- Pages an entry still needs. -/
def entryNeed (v : Serve) (x : Version) (e : Entry) : Nat :=
  match tfind v.seqs e.index with
  | none => 0
  | some q => kvCount x (e.pos + e.rows) - q.kv.length

/-- The list without its last element that satisfies `p`. -/
def dropLastWhere (p : Entry → Bool) (l : List Entry) : List Entry :=
  match l with
  | [] => []
  | e :: r => if r.any p then e :: dropLastWhere p r else if p e then r else e :: r

/-- The last VERIFY entry reduced to DECODE. -/
def reduceLast (l : List Entry) : List Entry :=
  match l with
  | [] => []
  | e :: r => if r.any (fun x => x.kind == 2) then e :: reduceLast r
              else if e.kind = 2 then { e with kind := 1, rows := 1, tokens := e.tokens.take 1, parents := [] } :: r else e :: r

/-- Defer entries until the pool's free pages suffice (R283). -/
def fitKv (v : Serve) (x : Version) (free fuel : Nat) (l : List Entry) : List Entry :=
  match fuel with
  | 0 => []
  | fuel + 1 =>
    if (l.map (entryNeed v x)).foldl (· + ·) 0 ≤ free then l
    else if l.any fun e => e.line == 3 then fitKv v x free fuel (dropLastWhere (fun e => e.line == 3) l)
    else if l.any fun e => e.line == 2 then fitKv v x free fuel (dropLastWhere (fun e => e.line == 2) l)
    else if l.any fun e => e.kind == 2 then fitKv v x free fuel (reduceLast l)
    else fitKv v x free fuel (dropLastWhere (fun _ => true) l)

/-- Give each entry its pages. -/
def givePages (s : State) (m : Nat) (c : ServeCtx) (x : Version) (l : List Entry) : State :=
  l.foldl (fun s e =>
    let (s, ps) := takeKv s m c (entryNeed (getServe s m) x e)
    modServe s m fun v => { v with seqs := v.seqs.map fun q => if q.1 == e.index then (q.1, { q.2 with kv := q.2.kv ++ ps }) else q }) s

/-- Copy a KV page. -/
def copyKv (s : State) (m src dst : Nat) : Except Fail State := do
  let b ← readMa s m none src 65536
  writeMa s m dst b

/-- The last page of each layer of an entry (R284). -/
def lastPages (v : Serve) (x : Version) (e : Entry) : List Nat :=
  match tfind v.seqs e.index with
  | none => []
  | some q => (q.kv.drop (q.kv.length - x.layers)).take x.layers

/-- Pages of the scratchpad leave it: each is written back to its pool page. -/
def leaveSp (s : State) (m : Nat) (c : ServeCtx) (l : List (Nat × Nat)) : Except Fail State :=
  match l with
  | [] => .ok s
  | e :: r => do
    let s ← copyKv s m (c.kvSp + 65536 * e.1) (poolMa c e.2)
    leaveSp (modServe s m fun v => { v with kvSp := v.kvSp.filter fun f => f.1 != e.1 }) m c r

/-- Pages enter free places of the scratchpad, which ones being open [16]. -/
def enterSp (s : State) (m : Nat) (c : ServeCtx) (l : List Nat) : Except Fail State :=
  match l with
  | [] => .ok s
  | p :: r =>
    match drawFrom ((upTo c.kvSpPages).filter fun i => !thas (getServe s m).kvSp i) s with
    | (none, s) => .ok s
    | (some i, s) => do
      let s ← copyKv s m (poolMa c p) (c.kvSp + 65536 * i)
      enterSp (modServe s m fun v => { v with kvSp := tset v.kvSp i p }) m c r

/-- Assign the scratchpad's KV pages (R284) to `pages` in their order, the list being the last pages of a work list's entries; those of running steps
stay and the others leave. -/
def assignSp (s : State) (m : Nat) (c : ServeCtx) (pages : List Nat) : Except Fail State := do
  let v := getServe s m
  let held := (runEntries v).flatMap fun e => match tfind v.seqs e.index with | some q => q.kv | none => []
  let locked := v.kvSp.filter fun e => held.contains e.2
  let want := pages.take (c.kvSpPages - locked.length)
  let s ← leaveSp s m c (v.kvSp.filter fun e => !held.contains e.2 && !want.contains e.2)
  enterSp s m c (want.filter fun p => !((getServe s m).kvSp.any fun e => e.2 == p))

/-! ## The work-list buffer (R271) -/

/-- Number the rows and the logits rows of the entries (R281). -/
def numberRows (v : Serve) (row lrow : Nat) (l : List Entry) : List Entry :=
  match l with
  | [] => []
  | e :: r =>
    let n := match tfind v.seqs e.index with | some q => logitRows q e | none => 0
    { e with row0 := row, lrow0 := if n = 0 then 0xFFFFFFFF else lrow } :: numberRows v (row + e.rows) (lrow + n) r

/-- The quantities of R270 by number: rows, entries, decode rows, prefill rows, the highest position, the buffer. -/
def quantity (l : List Entry) (buf q : Nat) : Nat :=
  let rows (p : Entry → Bool) : Nat := ((l.filter p).map Entry.rows).foldl (· + ·) 0
  match q with
  | 1 => rows fun _ => true
  | 2 => l.length
  | 3 => rows fun e => e.kind != 3
  | 4 => rows fun e => e.kind == 3
  | 5 => (l.map fun e => e.pos + e.rows - 1).foldl Nat.max 0
  | 6 => buf
  | _ => 0

/-- The list of homes of an entry's pages, layer by layer (R271). -/
def pageList (v : Serve) (c : ServeCtx) (x : Version) (e : Entry) : Bytes :=
  match tfind v.seqs e.index with
  | none => []
  | some q =>
    let n := kvCount x (e.pos + e.rows) / x.layers
    (upTo x.layers).flatMap fun l => (upTo n).flatMap fun p => leBytes 8 (kvHome v c (q.kv.getD (p * x.layers + l) 0))

/-- First page of a variant's data, 0 for none (R291). -/
def varData (s : State) (m k n : Nat) : Nat :=
  match tfind (getSlot s m k).variants n with
  | some w => (match w.pages with | i :: _ => hbmRegion + i * pageBytes | [] => 0)
  | none => 0

/-- One 64-byte entry (R271). -/
def entryBytes (s : State) (m k : Nat) (c : ServeCtx) (e : Entry) (tokens pages : Nat) : Bytes :=
  let v := getServe s m
  let var := match tfind v.seqs e.index with | some q => varData s m k q.variant | none => 0
  padTo (leBytes 4 (handleOf v e.index) ++ leBytes 4 e.kind ++ leBytes 4 e.rows ++ leBytes 4 e.pos ++ leBytes 4 e.row0 ++ leBytes 4 e.lrow0 ++
    leBytes 8 pages ++ leBytes 8 (if e.kind = 2 then c.treeBase + 512 * e.index else 0) ++ leBytes 8 tokens ++ leBytes 8 var) 64

/-- The header (R271). -/
def listHeader (step : W32) (number : BitVec 16) (l : List Entry) : Bytes :=
  padTo (leBytes 4 step.toNat ++ leBytes 4 (quantity l 0 2) ++ leBytes 4 (quantity l 0 1) ++ leBytes 4 (quantity l 0 3) ++
    leBytes 4 (quantity l 0 4) ++ leBytes 4 (quantity l 0 5) ++ leBytes 2 number.toNat) 64

/-- Entries with the MAs of their tokens and page lists, from `tok` and `pg` on. -/
def layEntries (s : State) (m k : Nat) (c : ServeCtx) (x : Version) (tok pg : Nat) (l : List Entry) : Bytes :=
  match l with
  | [] => []
  | e :: r => entryBytes s m k c e tok pg ++ layEntries s m k c x (tok + 4 * e.tokens.length) (pg + (pageList (getServe s m) c x e).length) r

/-- The whole work-list buffer: header, entries, tokens, page lists [15]. -/
def listBytes (s : State) (m k : Nat) (c : ServeCtx) (x : Version) (step : W32) (buf : Nat) (l : List Entry) : Bytes :=
  let tok := buf + 64 + 64 * l.length
  let toks := l.flatMap fun e => e.tokens.flatMap (leBytes 4)
  let pg := tok + (toks.length + 7) / 8 * 8
  listHeader step x.number l ++ layEntries s m k c x tok pg l ++ padTo toks ((toks.length + 7) / 8 * 8) ++
    l.flatMap (pageList (getServe s m) c x)

/-! ## OPEN (R272) -/

/-- The slot runs no STEP task (R268). -/
def slotIdle (s : State) (m k : Nat) : Bool := !((getServe s m).runs.any fun r => r.slot == k)

/-- The version a step runs on (R267, R289). -/
def stepVersion (x : Slot) (sel : Nat) : Option Version := if sel = 0 then x.version .current else x.version .pinnedOld

/-- The first start check that a STEP task fails (R296). -/
def stepStartBad (s : State) (t : Task) (r : StepRec) : Except Fail (Option Bad) :=
  let m := t.moon
  let k := t.desc.karg16
  if (descCores s m t.desc).isEmpty then .ok (some ⟨0x0120, 0, 0⟩)
  else if (getSlot s m k).state ≠ .ready then .ok (some ⟨0x0401, 0, k⟩)
  else match (getServe s m).ctx with
    | none => .ok (some ⟨0x0404, 0, 0⟩)
    | some c => do
      let tail ← if r.mode = 1 then .ok 0 else ctxWord s m 0x18
      let head ← if r.mode = 1 then .ok 0 else ctxWord s m 0x1C
      if 2 ^ c.reqLog2 < (tail + 2 ^ 32 - head) % 2 ^ 32 then .ok (some ⟨0x0405, 0, tail⟩)
      else if r.mode = 2 then .ok none
      else
        let h ← readPlan s m r.plan
        match h with
        | none => .ok (some ⟨0x0406, 0, 0⟩)
        | some h =>
          if h.maxRows < r.tokens + (if (getMoon s m).privileged then r.chunk else 0) ∨ h.maxEnt < r.wlCap then .ok (some ⟨0x0406, 0, 0⟩)
          else .ok none

/-- O1 to O3 of R272: unloading, the swap, requests, and what ends at this boundary. KSTATUS bits come back. -/
def openRequests (s : State) (m k : Nat) (c : ServeCtx) (step : W32) : Except Fail (State × Nat) := do
  let tail ← ctxWord s m 0x18
  let (s, a) := applySwap (openVariants s m k) m k step
  let s ← applyUnload s m k c step
  let (s, b) ← takeReqs s m c step tail (2 ^ c.reqLog2 + 1) a
  .ok (sweepMoon s m, b)

/-- End sequences with CONTEXT_LIMIT while the ring has room. -/
def endLimits (s : State) (m : Nat) (c : ServeCtx) (step : W32) (l : List Nat) : Except Fail State :=
  match l with
  | [] => .ok s
  | i :: r => do
    let room ← outRoom s m c
    let dec := ((tfind (getServe s m).seqs i).map fun q => q.state == .decode).getD false
    let s ← if dec || decide (room > 0) then endSeq s m i c step 8 else .ok s
    endLimits s m c step r

/-- The work list with its pages fitted (O4 and the deferrals of R283): when the pool leaves the list
empty, the candidate admitted last, deferred or not, ends with KV_FULL. -/
def fitList (s : State) (m : Nat) (c : ServeCtx) (t : StepRec) (k : Nat) (x : Version) (step : W32) (fuel bits : Nat) :
    Except Fail (State × Building × Nat) := do
  let b ← buildList s m c t k x
  let v := getServe s m
  let fit := fitKv v x (kvFree v c).length (2 * b.entries.length + 1) b.entries
  let gone := (b.entries.filter fun e => !(fit.any fun f => f.index == e.index)).map Entry.index
  let b' := { b with entries := fit, deferred := gone.foldl addNum b.deferred }
  match fuel with
  | 0 => .ok (s, b', bits)
  | fuel + 1 =>
    if !fit.isEmpty || b.entries.isEmpty then .ok (s, b', bits)
    else
      match (byAge (candidates v k x)).getLast? with
      | none => .ok (s, b', bits)
      | some e =>
        let room ← outRoom s m c
        if e.2.state == .decode || decide (room > 0) then
          let s ← endSeq s m e.1 c step 4
          fitList s m c t k x step fuel (bits ||| 64)
        else .ok (s, b', bits)

/-- DEFERRED marks of a step's candidates (R280), counted in SERVE_DEFERRED. -/
def markDeferred (s : State) (m : Nat) (b : Building) : State :=
  let s := modServe s m fun v => { v with seqs := v.seqs.map fun e =>
    (e.1, { e.2 with deferred := if b.deferred.contains e.1 then true else if b.entries.any (fun f => f.index == e.1) then false else e.2.deferred }) }
  if b.deferred.isEmpty then s else incB s 0x8046 m b.deferred.length

/-- The followers of a slot: those of its model when it spans modules (R293). -/
def leadOf (x : Slot) : List (Nat × Nat × Nat) :=
  match x.version .current with
  | some v => if v.span then v.followers else []
  | none => []

/-- O5 and O6 of an OPEN whose work list is empty: no page is assigned, those that nothing holds leave, and the buffer says ENTRIES 0 (R272, R284). -/
def writeEmpty (s : State) (m : Nat) (c : ServeCtx) (buf : Nat) (step : W32) (number : BitVec 16) : Except Fail State := do
  let s ← assignSp s m c []
  writeMa s m buf (listHeader step number [])

/-- The ring number of the transfers that carry slot `k`'s work lists. -/
def listRing (k : Nat) : Nat := migRing + 1 + k

/-- The lead's dispatcher sends the work-list buffer to each follower under the credit model (R293): transfers of its own to the follower's moon, at
the MA of its own WL_BUF, the two records naming one MA [DESIGN CHOICE 56]. -/
def sendList (s : State) (m k buf : Nat) (b : Bytes) (l : List (Nat × Nat × Nat)) : State :=
  let cut := chunksOf 65536 b.length b
  l.foldl (fun s f => openOwn s m (listRing k) (fabricOf s f.1) f.2.1 0 [] ((upTo cut.length).zip cut |>.map fun e => (buf + 65536 * e.1, e.2)) 0) s

/-- O1 to O6 of a RUN step (R272, R293). -/
def openRun (s : State) (t : Task) (r : StepRec) (c : ServeCtx) : Except Bad State := do
  let m := t.moon
  let k := t.desc.karg16
  let step := (getSlot s m k).step
  let lift {α : Type} (e : Except Fail α) : Except Bad α := e.mapError Fail.toBad
  let (s, bits) ← lift (openRequests s m k c step)
  let mk (s : State) (l : List Entry) (v : Option Version) (bits : Nat) : State :=
    let run : StepRun :=
      { ring := t.ring, seq := t.seq, slot := k, step := step, version := (v.map Version.number).getD 0, entries := l, logitBuf := r.logit
        vocab := (v.map Version.vocab).getD 0, kstatus := BitVec.ofNat 16 bits
        followers := leadOf (getSlot s m k)
        reported := [], sentAt := s.orbit.refNs, outReserved := l.length, mode := 0, got := true, lead := none }
    let s := modServe s m fun v => { v with runs := v.runs ++ [run] }
    setSlot s m k { getSlot s m k with step := step + 1, running := some (t.ring, t.seq) }
  let plan (s : State) (l : List Entry) : Except Bad State := do
    match ← lift (loadPlan s m (16 + k) t.desc r.plan (quantity l r.wlBuf)) with
    | none => .error ⟨0x0406, 0, 0⟩
    | some (_, s) => .ok s
  match stepVersion (getSlot s m k) r.verSel with
  | none =>
    let s ← lift (writeEmpty s m c r.wlBuf step 0)
    plan (sendList (mk s [] none (bits ||| 256)) m k r.wlBuf (listHeader step 0 []) (leadOf (getSlot s m k))) []
  | some x =>
    let b0 ← lift (buildList s m c r k x)
    let s ← lift (endLimits s m c step b0.limit)
    let (s, b, bits) ← lift (fitList s m c r k x step ((getServe s m).seqs.length + 1) bits)
    let s := markDeferred (sweepMoon s m) m b
    let s := givePages s m c x b.entries
    let s ← lift (assignSp s m c (b.entries.flatMap (lastPages (getServe s m) x)))
    let l := numberRows (getServe s m) 0 0 b.entries
    let buf := listBytes s m k c x step r.wlBuf l
    let s ← lift (writeMa s m r.wlBuf buf)
    let bits := bits ||| (if b.deferred.isEmpty then 0 else 8) ||| (if b.trees.isEmpty then 0 else 16) ||| (if l.isEmpty then 256 else 0)
    let s := mk s l (some x) bits
    let s := sendList s m k r.wlBuf buf (leadOf (getSlot s m k))
    plan s l

/-- An eligible STEP task of a mode whose slot is idle (R200, R268). -/
def readyStep (s : State) (m r mode : Nat) : Option (Task × StepRec) :=
  match readyTask s m r 5 with
  | none => none
  | some t =>
    let e := parseStep t.ext
    if startRuns s m r && e.mode == mode && slotIdle s m t.desc.karg16 then some (t, e) else none

/-- Start a STEP task: its start checks, then `act`. -/
def startStep (s : State) (p : Task × StepRec) (act : State → Task → ServeCtx → Except Bad State) : Res :=
  let (s1, t) := startTask s p.1 .running
  match stepStartBad s1 t p.2 with
  | .error e => .next (failWith s s1 t e.toBad)
  | .ok (some b) => .next (failTask s1 t b.code b.ma b.detail)
  | .ok none =>
    match (getServe s1 t.moon).ctx with
    | none => .next (failTask s1 t 0x0404 0 0)
    | some c =>
      match act s1 t c with
      | .error b => .next (failWith s s1 t b)
      | .ok s => .next s

/-- STEP_RUN (R269, R272): OPEN of a RUN step. -/
def execStepRun (m r : Nat) (s : State) : Res :=
  match readyStep s m r 0 with
  | none => .next s
  | some p => startStep s p fun s t c => openRun s t p.2 c

/-- STEP_SERVICE (R269, R272): OPEN with an empty work list; the task's engines finish at once. It takes no step number and sends followers nothing
[DESIGN CHOICE 56]. -/
def execStepService (m r : Nat) (s : State) : Res :=
  match readyStep s m r 2 with
  | none => .next s
  | some p => startStep s p fun s t c =>
      match openRequests s m t.desc.karg16 c (getSlot s m t.desc.karg16).step with
      | .error e => .error e.toBad
      | .ok (s, bits) =>
        let x := getSlot s m t.desc.karg16
        match writeEmpty s m c p.2.wlBuf x.step (((stepVersion x p.2.verSel).map Version.number).getD 0) with
        | .error e => .error e.toBad
        | .ok s => .ok (putTask s { t with phase := .done, kstatus := bits ||| 256 })

/-- FOLLOW (R293): the task waits for the lead's work list. -/
def execFollow (m r : Nat) (s : State) : Res :=
  match readyStep s m r 1 with
  | none => .next s
  | some p => startStep s p fun s t _ =>
      let k := t.desc.karg16
      let x := getSlot s m k
      let run : StepRun :=
        { ring := t.ring, seq := t.seq, slot := k, step := x.step, version := ((stepVersion x p.2.verSel).map Version.number).getD 0
          entries := [], logitBuf := p.2.logit, vocab := 0, kstatus := 0, followers := [], reported := [], sentAt := s.orbit.refNs
          outReserved := 0, mode := 1, got := false, lead := none }
      let s := modServe s m fun v => { v with runs := v.runs ++ [run] }
      .ok (setSlot s m k { x with step := x.step + 1, running := some (t.ring, t.seq) })

/-! ## Sampling and verification (R286 to R288) -/

/-- How a sequence's walk ended: tokens emitted, nodes accepted in path order, the end reason, 0 for none. -/
structure Walk where
  emitted  : List Nat
  path     : List Nat
  reason   : Nat
  deriving DecidableEq, Repr

/-- The logits row `i` of a step. -/
def readRow (s : State) (m : Nat) (run : StepRun) (i : Nat) : Except Fail (List Num) := do
  let b ← readMa s m none (run.logitBuf + 4 * run.vocab * i) (4 * run.vocab)
  .ok ((upTo run.vocab).map fun j => num32 (field b (4 * j) 4))

/-- The child of `cur` (−1: the pending token) that carries token `y`. -/
def childOf (e : Entry) (cur : Int) (y : Nat) : Option Nat :=
  (upTo e.parents.length).find? fun c => e.parents.getD c (-1) == cur && e.tokens.getD (c + 1) 0 == y

/-- The walk of R288. -/
def walkTree (s : State) (m : Nat) (run : StepRun) (e : Entry) (q : Sequence) (hist : List Nat) (fuel : Nat) (cur : Int) (w : Walk) :
    Except Fail (State × Walk) :=
  match fuel with
  | 0 => .ok (s, w)
  | fuel + 1 => do
    let row ← readRow s m run (e.lrow0 + (cur + 1).toNat)
    let (res, n) := sampleRow q.sampling hist row s.free
    let s := { s with free := n }
    match res with
    | .error code => .ok (s, { w with reason := code })
    | .ok y =>
      let w := { w with emitted := w.emitted ++ [y] }
      if q.stops.contains y && y != 0xFFFFFFFF then .ok (s, { w with reason := 1 })
      else if q.generated + w.emitted.length = q.maxNew then .ok (s, { w with reason := 2 })
      else match childOf e cur y with
        | some c => walkTree s m run e q hist fuel (c : Int) { w with path := w.path ++ [c] }
        | none => .ok (s, w)

/-- Move one KV entry of every layer from one position to another (R288). -/
def moveKv (s : State) (m : Nat) (c : ServeCtx) (x : Version) (q : Sequence) (src dst : Nat) (l : List Nat) : Except Fail State :=
  match l with
  | [] => .ok s
  | layer :: r => do
    let size := 65536 / x.kvTpp
    let at_ (p : Nat) : Nat := kvHome (getServe s m) c (q.kv.getD (p / x.kvTpp * x.layers + layer) 0) + p % x.kvTpp * size
    let b ← readMa s m none (at_ src) size
    let s ← writeMa s m (at_ dst) b
    moveKv s m c x q src dst r

/-- Compact the accepted nodes' KV entries behind the pending token's, in path order (R288). -/
def compactKv (s : State) (m : Nat) (c : ServeCtx) (x : Version) (q : Sequence) (j : Nat) (path : List Nat) : Except Fail State :=
  match path with
  | [] => .ok s
  | n :: r => do
    let s ← if n = j then .ok s else moveKv s m c x q (q.pos + 1 + n) (q.pos + 1 + j) (upTo x.layers)
    compactKv s m c x q (j + 1) r

/-! ## CLOSE (R273) -/

/-- A TOKENS record (R277). -/
def tokensRec (v : Serve) (i : Nat) (q : Sequence) (run : StepRun) (w : Walk) (treeBad : Bool) : OutRec :=
  { kind := 1, code := w.reason, handle := handleOf v i, tag := q.tag, step := run.step, version := run.version.toNat
    flags := (if w.reason = 0 then 0 else 1) + (if q.swapped then 2 else 0) + (if treeBad then 4 else 0)
    accepted := w.path.length, pos := q.pos, tokens := w.emitted }

/-- What CLOSE adds to KSTATUS for an end reason (R298). -/
def closeBits (code : Nat) : Nat := if code = 5 ∨ code = 6 then 32 else 0

/-- Write the outcome of a walk: the sequence moves on, its record is written, and it ends when the walk finished it (C3 to C5). -/
def finishWalk (s : State) (m i : Nat) (c : ServeCtx) (x : Version) (run : StepRun) (e : Entry) (q : Sequence) (w : Walk) :
    Except Fail (State × Nat) := do
  let s ← histPut s m c q (q.promptDone + q.generated) w.emitted
  let w := if w.reason = 0 ∧ x.maxCtx ≤ q.pos then { w with reason := 8 } else w
  let q' := { q with generated := q.generated + w.emitted.length, pendingTok := w.emitted.getLastD q.pendingTok, state := .decode
                     swapped := q.swapped && w.emitted.isEmpty }
  let s := modServe s m fun v => { v with seqs := tset v.seqs i q' }
  let s := if w.emitted.isEmpty then s else incB s 0x8041 m w.emitted.length
  let s := if e.kind = 2 then
      let s := incB s 0x8042 m (e.rows - 1)
      if w.path.isEmpty then s else incB s 0x8043 m w.path.length
    else s
  if w.emitted.isEmpty then
    let s ← endSeq s m i c run.step w.reason
    .ok (s, closeBits w.reason)
  else
    let s ← postOut s m c (tokensRec (getServe s m) i { q with pos := q'.pos } run w e.treeBad)
    .ok (if w.reason = 0 then trimKv s m i x else freeSeq s m i, closeBits w.reason)

/-- C2 to C5 of one entry (R273, R286 to R288): KSTATUS bits come back. -/
def closeEntry (s : State) (m : Nat) (c : ServeCtx) (x : Version) (run : StepRun) (e : Entry) : Except Fail (State × Nat) :=
  match tfind (getServe s m).seqs e.index with
  | none => .ok (s, 0)
  | some q =>
    let i := e.index
    if q.cancel then .ok (s, 0)
    else do
      let hist ← histLast s m c q
      if e.kind = 3 then
        let ends := q.promptDone + e.rows == q.promptLen
        let (s, w) ← if ends then walkTree s m run e q hist 1 (-1) ⟨[], [], 0⟩ else .ok (s, ⟨[], [], 0⟩)
        let s ← histPut s m c q (q.promptDone + q.generated) e.tokens
        let q := { q with promptDone := q.promptDone + e.rows, pos := q.pos + e.rows, state := .prefill }
        let s := modServe s m fun v => { v with seqs := tset v.seqs i q }
        if ends then finishWalk s m i c x run e q w else .ok (trimKv s m i x, 0)
      else
        let (s, w) ← walkTree s m run e q hist (e.parents.length + 1) (-1) ⟨[], [], 0⟩
        let s ← compactKv s m c x q 0 w.path
        let q := { q with pos := q.pos + 1 + w.path.length }
        finishWalk (modServe s m fun v => { v with seqs := tset v.seqs i q }) m i c x run e q w

/-- C1 of R273: cancels among the unconsumed requests mark sequences of this work list. -/
def seeCancels (s : State) (m : Nat) (c : ServeCtx) (run : StepRun) (at_ tail fuel : Nat) : Except Fail State :=
  match fuel with
  | 0 => .ok s
  | fuel + 1 =>
    if at_ = tail then .ok s
    else do
      let b ← readMa s m none (c.reqRing + 128 * (at_ % 2 ^ c.reqLog2)) 128
      let r := parseReq b
      let hit := if r.op = 2 ∧ !r.rsv then (namedSeq (getServe s m) r).filter fun i => run.entries.any fun e => e.index == i else none
      let s := match hit with
        | some i => modServe s m fun v => { v with seqs := v.seqs.map fun e => if e.1 == i then (e.1, { e.2 with cancel := true }) else e }
        | none => s
      seeCancels s m c run ((at_ + 1) % 2 ^ 32) tail fuel

/-- C2 of R273: cancelled entries end. -/
def endCancelled (s : State) (m : Nat) (c : ServeCtx) (run : StepRun) (l : List Entry) : Except Fail (State × Nat) :=
  match l with
  | [] => .ok (s, 0)
  | e :: r => do
    let (s, b) ← match tfind (getServe s m).seqs e.index with
      | some q => if q.cancel then (endSeq s m e.index c run.step 3).map fun s => (s, 1) else .ok (s, 0)
      | none => .ok (s, 0)
    let (s, k) ← endCancelled s m c run r
    .ok (s, b ||| k)

/-- C3 of R273 over the work list. -/
def closeEntries (s : State) (m : Nat) (c : ServeCtx) (x : Version) (run : StepRun) (l : List Entry) : Except Fail (State × Nat) :=
  match l with
  | [] => .ok (s, 0)
  | e :: r => do
    let (s, b) ← closeEntry s m c x run e
    let (s, k) ← closeEntries s m c x run r
    .ok (s, b ||| k)

/-- KV pages that filled during the step are written back to the pool (R284). -/
def fillBack (s : State) (m : Nat) (c : ServeCtx) (x : Version) (l : List Entry) : Except Fail State :=
  match l with
  | [] => .ok s
  | e :: r => do
    let v := getServe s m
    let full := match tfind v.seqs e.index with | some q => q.kv.take (q.pos / x.kvTpp * x.layers) | none => []
    let s ← (v.kvSp.filter fun p => full.contains p.2).foldlM (fun s p => copyKv s m (c.kvSp + 65536 * p.1) (poolMa c p.2)) s
    fillBack s m c x r

/-- A step leaves its slot: the run ends, its plan's tasks with it. -/
def endRun (s : State) (m : Nat) (run : StepRun) : State :=
  let s := dropPlan s m (16 + run.slot)
  let s := modServe s m fun v => { v with runs := v.runs.filter fun r => !(r.ring == run.ring && r.seq == run.seq) }
  setSlot s m run.slot { getSlot s m run.slot with running := none }

/-- A completed step counts (R295, R300). -/
def countStep (s : State) (m k : Nat) : State :=
  let s := incA (incB s 0x8040 m 1) 0x8032 (256 * m + k) 1
  let x := getSlot s m k
  setSlot s m k { x with stepTimes := (x.stepTimes.filter fun t => decide ((s.orbit.refNs : Int) < t + 86400000000000)) ++ [(s.orbit.refNs : Int)] }

/-- The version object of a running step. -/
def runVersion (s : State) (m : Nat) (run : StepRun) : Option Version :=
  (getSlot s m run.slot).versions.find? fun v => v.number == run.version && (v.kind == .current || v.kind == .pinnedOld)

/-- C1 to C5 of a RUN step (R273). -/
def closeRun (s : State) (t : Task) (run : StepRun) (c : ServeCtx) : Except Fail State := do
  let m := t.moon
  let tail ← ctxWord s m 0x18
  let head ← ctxWord s m 0x1C
  let s ← seeCancels s m c run head tail (2 ^ c.reqLog2)
  let (s, a) ← endCancelled s m c run run.entries
  let (s, b) ← match runVersion s m run with
    | some x => do
      let r ← closeEntries s m c x run run.entries
      let s ← fillBack r.1 m c x run.entries
      .ok (s, r.2)
    | none => .ok (s, 0)
  let t := planMarks s t (16 + run.slot)
  let s := sweepMoon (countStep (endRun s m run) m run.slot) m
  .ok (putTask s { t with phase := .done, kstatus := run.kstatus.toNat ||| a ||| b })

/-- Tasks of a step's plan still run on cores. -/
def planBusy (s : State) (m k : Nat) : Bool := (ringTasks s m (16 + k)).any fun t => t.phase == .running && t.work.any fun w => !w.susp

/-- The plan of a failing step issues no more work: its tasks go, but for those with work on cores, which that work ends (R216). -/
def stopPlan (s : State) (m k : Nat) : State :=
  let runs (t : Task) : Bool := t.phase == .running && t.work.any fun w => !w.susp
  let mine (t : Task) : Bool := t.moon == m && t.ring == 16 + k
  let s := ((ringTasks s m (16 + k)).filter fun t => !runs t).foldl (fun s t => cometClose (writeBack s m t.ring t.seq) m t.ring t.seq) s
  let cut (t : Task) : Task := if mine t then { t with work := t.work.filter fun w => !w.susp, units := t.next, result := 1 } else t
  { s with
    tasks := { s.tasks with tasks := (s.tasks.tasks.filter fun t => !mine t || runs t).map cut }
    links := { s.links with tx := s.links.tx.filter fun x => !(x.moon == m && x.ring == 16 + k) } }

/-- The end of a step that failed after O6 (R297): sequences keep what they held, cancelled ones end. -/
def endFailed (s : State) (t : Task) (run : StepRun) : State :=
  let m := t.moon
  let t := planMarks s t (16 + run.slot)
  let s := endRun s m run
  let (s, bits) := match (getServe s m).ctx with
    | none => (s, 0)
    | some c => match endCancelled s m c run run.entries with
      | .ok r => r
      | .error _ => (s, 0)
  let s := match runVersion s m run with
    | some x => run.entries.foldl (fun s e => trimKv s m e.index x) s
    | none => s
  putTask (sweepMoon s m) { t with phase := .done, kstatus := run.kstatus.toNat ||| bits }

/-- A step fails while it runs: the ring halts, and the step ends at once or when the work that its plan has issued ends (R216, R297). -/
def failRun (s : State) (t : Task) (run : StepRun) (code ma detail : Nat) : State :=
  let s := failTask s t code ma detail
  let t := { t with result := 1, error := code, faultMa := ma, detail := detail }
  if planBusy s t.moon run.slot then putTask (stopPlan s t.moon run.slot) t else endFailed s t run

/-- The run of a STEP task. -/
def findRun (s : State) (m r : Nat) (q : W32) : Option StepRun := (getServe s m).runs.find? fun x => x.ring == r && x.seq == q

/-- The running STEP task and its run. -/
def runningStep (s : State) (m r : Nat) (q : W32) : Option (Task × StepRun) :=
  match findTask s m r q, findRun s m r q with
  | some t, some x => if t.phase == .running && isUp s then some (t, x) else none
  | _, _ => none

/-- SUBTASK_FAILED's DETAIL (R296). -/
def subtaskDetail (t : Task) : Nat := t.seq.toNat * 2 ^ 32 + t.error

/-- STEP_CLOSE (R273, R293, R297): the plan has completed or failed; a lead's CLOSE waits for every follower. -/
def execStepClose (m r : Nat) (q : W32) (s : State) : Res :=
  match runningStep s m r q with
  | none => .next s
  | some (t, run) =>
    if t.result = 1 then .next (if planBusy s m run.slot then s else endFailed s t run)
    else match planFailed s m (16 + run.slot) with
    | some u => .next (failRun s t run 0x0407 0 (subtaskDetail u))
    | none =>
      if !run.got || !planComplete s m (16 + run.slot) then .next s
      else if run.mode = 1 then
        let t := planMarks s t (16 + run.slot)
        let (id, lm, lk) := run.lead.getD (Config.moduleIdentity, m, run.slot)
        let s := emit (endRun s m run) (.span id lm lk (leBytes 8 Config.moduleIdentity ++ leBytes 4 m ++ leBytes 4 run.slot ++ leBytes 4 run.step.toNat))
        .next (putTask s { t with phase := .done, kstatus := run.kstatus.toNat })
      else if run.reported.length < run.followers.length then .next s
      else match (getServe s m).ctx with
        | none => .next (failRun s t run 0x0404 0 0)
        | some c => match closeRun s t run c with
          | .ok s => .next s
          | .error e => if e.code = 0 then .next s else .next (failRun s t run e.code e.ma 0)

/-- R294, R298: the follower's run has its work list; bit 8 of KSTATUS says that it is empty. -/
def listTaken (s : State) (m r : Nat) (q : W32) (l : FollowList) : State :=
  modServe s m fun v => { v with runs := v.runs.map fun x =>
    if x.ring == r && x.seq == q then { x with got := true, entries := [], lead := some (l.lead, l.moon, l.slot)
                                               kstatus := if field l.bytes 4 4 = 0 then x.kstatus ||| 256 else x.kstatus } else x }

/-- R294: the quantities of a follower's plan, from the header of the list that it was sent. -/
def listQty (list : Bytes) (buf n : Nat) : Nat :=
  match n with
  | 1 => field list 8 4
  | 2 => field list 4 4
  | 3 => field list 0x0C 4
  | 4 => field list 0x10 4
  | 5 => field list 0x14 4
  | 6 => buf
  | _ => 0

/-- FOLLOW_WORK_LIST (R293, R294): the list of the lead; the follower's plan runs over it, or the step numbers disagree. An empty list sets EMPTY
(R298). -/
def execFollowWorkList (m r : Nat) (q step : W32) (l : FollowList) (s : State) : Res :=
  match runningStep s m r q with
  | none => .next s
  | some (t, run) =>
    if run.mode != 1 || run.got || t.result == 1 then .next s
    else if step != run.step then .next (failRun s t run 0x0409 0 step.toNat)
    else
      let e := parseStep t.ext
      match writeMa s m e.wlBuf l.bytes with
      | .error f => if f.code = 0 then .next s else .next (failRun s t run f.code f.ma 0)
      | .ok s1 =>
        let s1 := listTaken s1 m r q l
        match loadPlan s1 m (16 + run.slot) t.desc e.plan (listQty l.bytes e.wlBuf) with
          | .error f => if f.code = 0 then .next s else .next (failRun s1 t run f.code f.ma 0)
          | .ok none => .next (failRun s1 t run 0x0406 0 0)
          | .ok (some (_, s2)) => .next s2

/-- FOLLOW_REPORT (R293). -/
def execFollowReport (m r : Nat) (q : W32) (f : Nat) (s : State) : Res :=
  match runningStep s m r q with
  | none => .next s
  | some (_, run) =>
    if decide (f < run.followers.length) && run.mode == 0 then
      .next (modServe s m fun v => { v with runs := v.runs.map fun x =>
        if x.ring == r && x.seq == q then { x with reported := addNum x.reported f } else x })
    else .next s

/-- SPAN_TIMEOUT (R294): a follower has not reported in time. -/
def execSpanTimeout (m r : Nat) (q : W32) (s : State) : Res :=
  match runningStep s m r q with
  | none => .next s
  | some (t, run) =>
    match (upTo run.followers.length).find? fun i => !run.reported.contains i with
    | some i =>
      if run.mode == 0 && t.result != 1 && decide (run.sentAt + param s 0x8035 0 * 1000000 ≤ s.orbit.refNs) then
        .next (failRun s t run 0x0408 0 (((run.followers[i]?).map (fun f => f.1)).getD 0))
      else .next s
    | none => .next s

end Sys2Proof.Machine
end

