-- ==== Sys2Proof/Machine/FaultStop.lean ====
section
/-! DEFINITION. Fault-Stop (R470, R471). -/

namespace Sys2Proof.Machine

/-- Codes of FAULT_REASON (R470). -/
inductive FaultReason where
  | inputOv | regulator | leak | dieOvertemp | hbmOvertemp | bridge | entropy | hbmTrain | noOctet | journal
  deriving DecidableEq, Repr

/-- The number of a reason (R470). -/
def FaultReason.code : FaultReason → Nat
  | .inputOv => 1
  | .regulator => 2
  | .leak => 3
  | .dieOvertemp => 4
  | .hbmOvertemp => 5
  | .bridge => 6
  | .entropy => 7
  | .hbmTrain => 8
  | .noOctet => 9
  | .journal => 10

/-- FS1 and FS2 of one moon (R471): its tasks are abandoned, its rings become DISABLED, its final record is written, and it is FREE. -/
def faultMoon (s : State) (m : Nat) : State :=
  if (getMoon s m).state = .free then s
  else modMoon (freeMoon (closeSpan s m 2 s.orbit.now) m) m fun x => { x with job := none }

/-- FS1 of R471 for rings that no moon's release touches. -/
def disableRings (s : State) : State :=
  { s with tasks := { s.tasks with tasks := [], rings := s.tasks.rings.map fun e => (e.1, { e.2 with state := .disabled, enable := false }) } }

/-- FS3 of R471: scratchpads, caches and vector registers become zeros, key slots are erased; HBM contents stay. -/
def zeroise (s : State) : State :=
  { s with
    mem := { s.mem with spm := [], ueSpm := [], ueOpc := [], dirty := [], msc := [], opc := [], tlb := [], comet := [], demand := [] }
    cores := { s.cores with vregs := [], testing := [] }
    sec := { s.sec with slots := [] } }

/-- Enter Fault-Stop: the first cause counts (R470, R471). Nothing happens without power. -/
def faultStop (s : State) (r : FaultReason) : State :=
  if s.power.phase = .off ∨ s.power.phase = .faultStop then s
  else
    let t := { s with power := { s.power with phase := .faultStop, faultReason := r.code, bootHalt := false, heldFacts := none } }
    let t := disableRings ((t.moons.map Prod.fst).foldl faultMoon t)
    let t := if t.journal.valid then jMust t (.fault r.code) else t
    let t := zeroise t
    let t := { t with power := { t.power with faultPin := true } }
    announce s (raisePf t 0x0109 [r.code])

end Sys2Proof.Machine
end

