-- ==== Sys2Proof/Machine/Cores.lean ====
section
/-! DEFINITION. Cores and the kennel (R18 to R31, R34, R120 to R124, R249, R485, R490): spares, failures, substitution, withdrawn octets, array tests
and soft-fuses, bridges, and the rows SUBSTITUTION_START, SUBSTITUTION_DONE, ARRAY_BACKGROUND_TEST, FORCED_ARRAY_TEST, ARRAY_TEST_DONE,
SOFT_FUSE, BRIDGE_FAIL, CORE_HANG_TIMEOUT, SCRUB_SCRATCHPAD. -/

namespace Sys2Proof.Machine

/-! ## The kennel (R21, R25) -/

/-- The logical core that a physical core answers to. -/
def logicalOf (s : State) (die pc : Nat) : Option Nat := (upTo 128).find? fun lc => physOf s die lc == pc

/-- A physical core is marked failed. -/
def failedPc (s : State) (die pc : Nat) : Bool := s.cores.failed.contains (136 * die + pc)

/-- Spares of a die: physical cores that no entry names and that have not failed (R21, R30). -/
def kennel (s : State) (die : Nat) : List Nat := (upTo 136).filter fun pc => (logicalOf s die pc).isNone && !failedPc s die pc

/-- Difference of two numbers. -/
def gap (a b : Nat) : Nat := if a < b then b - a else a - b

/-- Distance of two physical cores (R25). -/
def pcDist (a b : Nat) : Nat := gap (a / 17) (b / 17) + gap (a % 17) (b % 17)

/-- The nearest of a list of spares, ties to the lowest (R25). -/
def nearest (pc : Nat) (l : List Nat) : Option Nat :=
  l.foldl (fun b x => match b with | none => some x | some y => if pcDist pc x < pcDist pc y then some x else b) none

/-- The spare for a physical core that no earlier decision has taken (R25, R30). -/
def spareFor (s : State) (die pc : Nat) : Option Nat :=
  nearest pc ((kennel s die).filter fun x => !(s.cores.subst.any fun b => b.die == die && b.spare == x))

/-- Set a map entry; the record commits before the next task (R26, R477). -/
def setMap (s : State) (die lc pc cause : Nat) : State :=
  jMust { s with cores := { s.cores with map := tset s.cores.map (128 * die + lc) pc } } (.coreMap die lc pc cause)

/-- KENNEL_EXHAUSTED once a die has used its last spare (R28). -/
def checkKennel (s : State) (die : Nat) : State := if (kennel s die).isEmpty then setSvc s 0 else s

/-! ## Withdrawn octets (R29, R249) -/

/-- The lowest free octet. -/
def lowestFree (s : State) : Option Nat :=
  (upTo 64).find? fun k => octetFree s k && (upTo 8).all fun i => physOf s (k / 16) (8 * (k % 16) + i) != 0xFF

/-- A moon without a place is suspended and displaced (R249); one that a command changes is SUSPENDED when that command ends, and one that
has moved or has not arrived keeps its state. A RESUME that restores it ends with STATE_BAD, for it may leave SUSPENDED so no more [35]. -/
def displace (s : State) (m : Nat) : State :=
  let s := modMoon s m fun x =>
    let y := { x with displaced := true, nextOctets := [] }
    match x.state with
    | .active => { y with state := .suspended }
    | .waiting => { y with state := .suspended }
    | .resizing => { y with prev := .suspended }
    | .migrating => { y with prev := .suspended }
    | _ => y
  let s := if (getMoon s m).swap = .restoring then endRestore s m else s
  let s := match (getMoon s m).job with
    | some j => if j.op == .resume && j.running then endJob s m 2 else s
    | none => s
  let s := if (getMoon s m).spilled ∨ (getMoon s m).swap ≠ .none then s else beginSpill s m
  raiseTo s 0 0x0605 m []

/-- An octet of a dedicated moon, lost with core `lost`, moves to the lowest free one once the tasks there have left it, or the moon is displaced
(R249). -/
def startOctetMove (s : State) (m k lost : Nat) : State :=
  match lowestFree s with
  | some k2 => settleMoves (modMoon s m fun x => { x with moves := x.moves ++ [(k, k2, lost)] }) m
  | none => displace s m

/-- A holder of a withdrawn octet, or one that would come to it (R249): a pool moon leaves the shrunken pool, spilled first where it is resident; a
dedicated moon's octet moves, or moves elsewhere. -/
def rehomeMoon (k lost : Nat) (s : State) (m : Nat) : State :=
  let x := getMoon s m
  if x.pool then
    let s := modMoon s m fun x => { x with nextOctets := if x.nextOctets.contains k then [] else x.nextOctets }
    if !x.octets.contains k || x.swap == .spilling then s
    else if x.swap = .restoring then endRestore s m
    else beginSpill s m
  else
    let lostMoves := x.moves.filter fun v => v.2.1 == k
    let s := modMoon s m fun x => { x with moves := x.moves.filter fun v => v.2.1 != k }
    let s := lostMoves.foldl (fun s v => startOctetMove s m v.1 v.2.2) s
    if x.octets.contains k then startOctetMove s m k lost else s

/-- Every moon that holds a withdrawn octet or would come to it (R249). -/
def rehome (s : State) (k lost : Nat) : State := (s.moons.map Prod.fst).foldl (rehomeMoon k lost) s

/-- Pool moons larger than the pool that remains stay WAITING, with the event (R249). -/
def poolEvents (s : State) : State :=
  (s.moons.filter fun e => e.2.pool && decide ((poolOctets s).length < e.2.poolCount)).foldl (fun s e => raiseTo s 0 0x0605 e.1 []) s

/-- R29: the octet of a failed core is withdrawn, its entries ABSENT, its surviving cores in the kennel; what was decided for them or ran on
them for the module's own sake is over. -/
def withdrawOctet (s : State) (lost cause : Nat) : State :=
  let k := lost / 8
  let die := k / 16
  let s := { s with cores := { s.cores with
    subst := s.cores.subst.filter fun b => !(b.die == die && b.lc / 8 == k % 16)
    testing := s.cores.testing.filter fun c => c / 16 != k } }
  let s := (upTo 8).foldl (fun s i => setMap s die (8 * (k % 16) + i) 0xFF cause) s
  let inPool := (poolOctets s).contains k || (param s 0x6005 0).testBit k
  let s := { s with cores := { s.cores with withdrawn := addNum s.cores.withdrawn k, poolNow := maskOf (delNum (poolOctets s) k) } }
  let s := rehome s k lost
  if inPool then poolEvents (setParamJ s 0x6005 0 (maskOf (delNum (bitsOf (param s 0x6005 0) 64) k))) else s

/-! ## Failures (R24, R30, R485) -/

/-- Work waiting for a core goes on. -/
def freeCore (s : State) (core : Nat) : State :=
  match coreMoon s core with
  | none => s
  | some m => offerCores (offerCores s m 1) m 2

/-- A logical core whose physical core is lost gets the nearest spare, or its octet is withdrawn (R25, R29). -/
def replaceCore (s : State) (die lc cause : Nat) : State :=
  match spareFor s die (physOf s die lc) with
  | some x => { s with cores := { s.cores with subst := s.cores.subst ++ [⟨die, lc, x, false, false⟩] } }
  | none => withdrawOctet s (128 * die + lc) cause

/-- Drop a decided substitution. -/
def dropSubst (s : State) (b : Subst) : State := { s with cores := { s.cores with subst := s.cores.subst.filter fun x => x != b } }

/-- A kennel core has failed (R30). Where a copy into it runs, the copy begins again into the next spare; a reload's old core stays, for it works. -/
def spareLost (s : State) (die pc cause : Nat) : State :=
  match s.cores.subst.find? fun b => b.die == die && b.spare == pc && b.started with
  | none => s
  | some b =>
    if b.reload then freeCore (dropSubst s b) (128 * die + b.lc)
    else match spareFor s die (physOf s die b.lc) with
      | some x => { s with cores := { s.cores with subst := s.cores.subst.map fun y => if y == b then { b with spare := x } else y } }
      | none => withdrawOctet (dropSubst s b) (128 * die + b.lc) cause

/-- A physical core is declared failed, with its cause row of R485: counted, journaled, announced; a mapped core is substituted or its octet
withdrawn, unless its own copy runs (R30), and one that reloads in place has no copy; a kennel core only leaves the kennel (R30). -/
def declareFail (s : State) (die pc cause : Nat) : State :=
  if failedPc s die pc then s
  else
    let s := incA { s with cores := { s.cores with failed := addNum s.cores.failed (136 * die + pc) } } 0xB141 die 1
    let s := raisePf (jMust s (.coreFail die pc cause (param s 0xB141 die))) 0x0C07 [die, pc, cause]
    match logicalOf s die pc with
    | none => spareLost s die pc cause
    | some lc =>
      match s.cores.subst.find? fun b => b.die == die && b.lc == lc with
      | none => replaceCore s die lc cause
      | some b => if b.spare = pc then replaceCore (dropSubst s b) die lc cause else s

/-- The moon-local index of a module logical core. -/
def localOf (s : State) (m core : Nat) : Option Nat := (moonCores s m).findIdx? fun c => c == core

/-- A core is at a task boundary: no running task holds it, and none that has run on it has more work for it (R26). -/
def atTaskBoundary (s : State) (core : Nat) : Bool :=
  match coreMoon s core with
  | none => true
  | some m => match localOf s m core with
    | none => true
    | some j => [1, 2].all fun k => (holder s m k j).isNone && !((claims s m k j).any fun c => c.task.phase == .running && c.task.seen.contains j)

/-! ## Substitution (R26 to R30) -/

/-- Microcode version that the running bank carries (R490). -/
def bankMcode (s : State) : Nat := (tget s.fw.banks Bank.reset s.fw.running).mcode

/-- A mapped core whose loaded microcode differs from the running bank's (R490). -/
def stale (s : State) (die lc : Nat) : Bool :=
  physOf s die lc != 0xFF && tget s.cores.mcode 0 (136 * die + physOf s die lc) != bankMcode s

/-- Stale logical cores of a die, ascending (R490). -/
def staleCores (s : State) (die : Nat) : List Nat := (upTo 128).filter fun lc => stale s die lc

/-- The tasks that have run on a core and whose records are still to come carry SUBSTITUTED (R26, R213). -/
def markSubst (s : State) (core : Nat) : State :=
  match coreMoon s core with
  | none => s
  | some m => match localOf s m core with
    | none => s
    | some j => { s with tasks := { s.tasks with tasks := s.tasks.tasks.map fun t =>
        if t.moon == m && (t.phase == .running || t.phase == .done) && t.seen.contains j then { t with substd := true } else t } }

/-- A decided field substitution starts: its spare chosen anew if it has failed meanwhile (R25, R30). -/
def startField (s : State) (b : Subst) : State :=
  let rest := s.cores.subst.filter fun x => x != b
  if (kennel s b.die).contains b.spare then
    { s with cores := { s.cores with subst := s.cores.subst.map fun x => if x == b then { b with started := true } else x } }
  else
    let s := { s with cores := { s.cores with subst := rest } }
    match spareFor s b.die (physOf s b.die b.lc) with
    | some x => { s with cores := { s.cores with subst := { b with spare := x, started := true } :: rest } }
    | none => withdrawOctet s (128 * b.die + b.lc) 0

/-- A core that no moon holds, or that the module has drained (R29): the module drains and no task of its moon has started. -/
def coreDrained (s : State) (core : Nat) : Bool :=
  match coreMoon s core with
  | none => true
  | some m => s.power.draining && !(s.tasks.tasks.any fun t => t.moon == m && t.phase == .running)

/-- SUBSTITUTION_START (R26, R29, R30, R490): the next substitution of a die at its core's task boundary. A reload refused on an empty kennel
is done on the core itself once its moon has released it or it is drained. -/
def execSubstitutionStart (die lc : Nat) (reload : Bool) (s : State) : Res :=
  if !isUp s || decide (4 ≤ die) || decide (128 ≤ lc) || !atTaskBoundary s (128 * die + lc) then .next s
  else match s.cores.subst.find? fun b => b.die == die with
    | some b => if b.lc == lc && !b.started && !reload && !b.reload then .next (startField (markSubst s (128 * die + lc)) b) else .next s
    | none =>
      if reload && s.cores.reloading && (staleCores s die).head? == some lc then
        match spareFor s die (physOf s die lc) with
        | some x =>
          let s := markSubst s (128 * die + lc)
          .next { s with cores := { s.cores with subst := s.cores.subst ++ [⟨die, lc, x, true, true⟩] } }
        | none =>
          if coreDrained s (128 * die + lc) then
            .next { s with cores := { s.cores with subst := s.cores.subst ++ [⟨die, lc, physOf s die lc, true, true⟩] } }
          else .next s
      else .next s

/-- The cores that a finished substitution leaves with the running bank's microcode (R490): the spare, and a reload's old core. -/
def loadMcode (s : State) (b : Subst) (old : Nat) : State :=
  let t := tset s.cores.mcode (136 * b.die + b.spare) (bankMcode s)
  { s with cores := { s.cores with mcode := if b.reload then tset t (136 * b.die + old) (bankMcode s) else t } }

/-- The spare answers to the logical core (R26, R27): its segment copied, with the event for the lines that the copy could not correct; the use of
the die's last spare raises Service-Requested (R28). -/
def useSpare (s : State) (b : Subst) : State :=
  let core := 128 * b.die + b.lc
  let s := markSubst s core
  let s := match coreMoon s core with
    | some m => poisonEvents s m core (s.mem.ueSpm.filter fun w => w * 8 / 2 ^ 24 == core)
    | none => s
  let last := (kennel s b.die).all fun x => x == b.spare
  let s := setMap s b.die b.lc b.spare 0
  if last then setSvc s 0 else s

/-- A substitution ends (R24, R26 to R28, R490): a reload's old core is reloaded into the kennel; a reload in place changes no map entry. -/
def finishSubst (s : State) (b : Subst) : State :=
  let old := physOf s b.die b.lc
  let s := { s with cores := { s.cores with subst := s.cores.subst.filter fun x => x != b } }
  let s := loadMcode (if b.spare = old then s else useSpare s b) b old
  let s := if b.reload && s.cores.reloading && (staleCores s b.die).isEmpty then raisePf s 0x0C06 [b.die] else s
  freeCore s (128 * b.die + b.lc)

/-- SUBSTITUTION_DONE (R26 to R28). -/
def execSubstitutionDone (die lc : Nat) (s : State) : Res :=
  match s.cores.subst.find? fun b => b.die == die && b.lc == lc && b.started with
  | some b => if isUp s then .next (finishSubst s b) else .next s
  | none => .next s

/-! ## Array tests (R34, R120 to R123) -/

/-- The key of an array of a physical core. -/
def arrayKey (die pc array : Nat) : Nat := 128 * (136 * die + pc) + array

/-- A mapped core on which a test may run: none runs there, no substitution is decided for it. -/
def testable (s : State) (die lc : Nat) : Bool :=
  let core := 128 * die + lc
  isUp s && decide (die < 4) && decide (lc < 128) && physOf s die lc != 0xFF && !coreHeld s core && !s.cores.testing.contains (2 * core)

/-- ARRAY_BACKGROUND_TEST (R120): a core with no task. -/
def execArrayBackgroundTest (die lc : Nat) (s : State) : Res :=
  if testable s die lc && atTaskBoundary s (128 * die + lc) then
    .next { s with cores := { s.cores with testing := addNum s.cores.testing (2 * (128 * die + lc)) } }
  else .next s

/-- FORCED_ARRAY_TEST (R120): a core untested for ARRAY_TEST_INTERVAL, at its task boundary. -/
def execForcedArrayTest (die lc : Nat) (s : State) : Res :=
  let core := 128 * die + lc
  if testable s die lc && atTaskBoundary s core && testOverdue s core then
    .next { s with cores := { s.cores with testing := addNum s.cores.testing (2 * core + 1) } }
  else .next s

/-- R121 for one failing physical column of an array. -/
def failColumn (s : State) (die pc : Nat) (f : Nat × Nat) : State :=
  let key := arrayKey die pc f.1
  match tget s.cores.arrays .none key with
  | .none =>
    if s.cores.fusePending.any fun p => p.1 == key then declareFail s die pc 5
    else if f.2 < 8 then { s with cores := { s.cores with fusePending := s.cores.fusePending ++ [(key, f.2)] } }
    else jAppend { s with cores := { s.cores with arrays := tset s.cores.arrays key .spareBad } } (.spareBad die pc f.1)
  | .column _ => declareFail s die pc 5
  | .spareBad => declareFail s die pc 5

/-- A failing column already dealt with: the repaired one, or the spare marked unusable (R121). -/
def knownColumn (s : State) (key f : Nat) : Bool :=
  match tget s.cores.arrays .none key with
  | .none => s.cores.fusePending.any fun p => p == (key, f)
  | .column c => c == f
  | .spareBad => f == 8

/-- Orbit value of an array's last passing test, and the moons that completed a GEMM on its core since (R123). -/
def arrayHistory (s : State) (core array : Nat) : Nat × List Nat :=
  match tfind s.cores.faulty (128 * core + array) with
  | some h => h
  | none => (tget s.cores.testedOrbit 0 core, tget s.cores.gemmMoons [] core)

/-- ARRAY_FAULT (R123): for each time at which one of the failing arrays last passed, once to every moon that has completed a GEMM since. -/
def arrayFaults (s : State) (core : Nat) (arrays : List Nat) : State :=
  let l := arrays.flatMap fun a => (arrayHistory s core a).2.map fun m => (m, (arrayHistory s core a).1)
  l.eraseDups.foldl (fun s e => raiseMoon s e.1 0x0301 [core, e.2, s.orbit.now]) s

/-- After a test of a core (R123): the arrays that failed keep their own last passing test, the others have passed now. -/
def noteTest (s : State) (core : Nat) (bad : List Nat) : State :=
  let others := s.cores.faulty.filter fun e => e.1 / 128 != core
  let kept := bad.foldl (fun t a => tset t (128 * core + a) (arrayHistory s core a)) others
  { s with cores := { s.cores with
    faulty := kept, testedAt := tset s.cores.testedAt core s.orbit.refNs, testedOrbit := tset s.cores.testedOrbit core s.orbit.now
    gemmMoons := tdel s.cores.gemmMoons core } }

/-- ARRAY_TEST_DONE (R120, R121, R123). -/
def execArrayTestDone (die lc : Nat) (fails : List (Nat × Nat)) (s : State) : Res :=
  let core := 128 * die + lc
  if !isUp s || !(s.cores.testing.contains (2 * core) || s.cores.testing.contains (2 * core + 1)) then .next s
  else
    let s := { s with cores := { s.cores with testing := delNum (delNum s.cores.testing (2 * core)) (2 * core + 1) } }
    let pc := physOf s die lc
    let new := fails.filter fun f => decide (f.1 < 128) && decide (f.2 < 9) && !knownColumn s (arrayKey die pc f.1) f.2
    let bad := new.foldl (fun l f => addNum l f.1) []
    let s := noteTest (arrayFaults s core bad) core bad
    .next (freeCore (new.foldl (fun s f => failColumn s die pc f) s) core)

/-- SOFT_FUSE (R121, R122): at a task boundary the record commits and the repair takes effect. -/
def execSoftFuse (die lc array column : Nat) (s : State) : Res :=
  let core := 128 * die + lc
  let pc := physOf s die lc
  let key := arrayKey die pc array
  if isUp s && decide (die < 4) && decide (lc < 128) && s.cores.fusePending.contains (key, column) && atTaskBoundary s core then
    let s := incA s 0x3020 die 1
    let s := jMust s (.softFuse die pc array column (param s 0x3020 die))
    .next (freeCore { s with cores := { s.cores with
      arrays := tset s.cores.arrays key (.column column), fusePending := s.cores.fusePending.filter fun p => p != (key, column) } } core)
  else .next s

/-! ## Hangs, SRAM errors, bridges -/

/-- Tasks of a kind of engine on a core fail with CORE_FATAL (R26, R214). -/
def killCore (s : State) (core : Nat) : State :=
  match coreMoon s core with
  | none => s
  | some m => match localOf s m core with
    | none => s
    | some j =>
      (s.tasks.tasks.filter fun t => t.moon == m && t.phase == .running && t.cores.contains j).foldl
        (fun s t => cometClose (failUnit s t j 0x0206 0 core) m t.ring t.seq) s

/-- A core holds a task. -/
def holdsTask (s : State) (core : Nat) : Bool :=
  match coreMoon s core with
  | none => false
  | some m => match localOf s m core with
    | none => false
    | some j => (holder s m 1 j).isSome || (holder s m 2 j).isSome

/-- CORE_HANG_TIMEOUT (R485): a fatal failure of a core that holds a task; one of a withdrawn octet whose tasks have yet to leave it is no mapped core
any more. -/
def execCoreHangTimeout (die lc : Nat) (s : State) : Res :=
  let core := 128 * die + lc
  if isUp s && decide (die < 4) && decide (lc < 128) && holdsTask s core then
    let t := killCore s core
    let t := if physOf s die lc = 0xFF then t else declareFail t die (physOf s die lc) 1
    .next (if t.cores.subst.any fun b => b.die == die && b.lc == lc then markSubst t core else t)
  else .next s

/-- ns of 24 hours. -/
def dayNs : Nat := 86400000000000

/-- One hour in ns. -/
def hourNs : Nat := 3600000000000

/-- A physical core's SRAM errors within 24 hours, told in orbit, or on the module reference while orbit is UNLOCKED (R485): 3 distinct uncorrectable words or 64 corrected errors declare it failed. -/
def sramErrors (s : State) (die pc corrected : Nat) (words : List Nat) : State :=
    let now := rowTime s
    let key := 136 * die + pc
    let near := fun (t : Nat) => t % 2 == now % 2 && decide (now < t + 2 * dayNs)
    let ue := (tget s.cores.uncorrected [] key ++ words.map fun w => (now, w)).filter fun e => near e.1
    let ce := (tget s.cores.corrected [] key ++ List.replicate corrected now).filter near
    let s := { s with cores := { s.cores with uncorrected := tset s.cores.uncorrected key ue, corrected := tset s.cores.corrected key ce } }
    let s := if 3 ≤ (ue.foldl (fun l e => addNum l e.2) []).length then declareFail s die pc 3 else s
    if 64 ≤ ce.length then declareFail s die pc 4 else s

/-- What a scrub of a mapped core's segment finds (R176, R178): corrected words count, failing ones are poisoned. -/
def scrubMapped (s : State) (core corrected : Nat) (failing : List Nat) : State :=
  let die := core / 128
  let words := (failing.filter fun w => decide (w < 2 ^ 21)).map fun w => core * 2 ^ 21 + w
  let s := if corrected = 0 then s else incB s 0x4010 die corrected
  let s := if words.isEmpty then s else incB s 0x4011 die words.length
  let s := { s with mem := { s.mem with ueSpm := words.foldl addNum s.mem.ueSpm } }
  let s := match coreMoon s core with | some m => poisonEvents s m core words | none => s
  sramErrors s die (physOf s die (core % 128)) corrected words

/-- What a scrub of a kennel core's segment finds: its errors count, and may remove it from the kennel (R30); the segment has no address. -/
def scrubSpare (s : State) (die pc corrected : Nat) (failing : List Nat) : State :=
  let words := failing.filter fun w => decide (w < 2 ^ 21)
  let s := if corrected = 0 then s else incB s 0x4010 die corrected
  let s := if words.isEmpty then s else incB s 0x4011 die words.length
  sramErrors s die pc corrected words

/-- The hourly scrub of a scratchpad is due (R178): the hours are counted on the module reference [DESIGN CHOICE 54]. -/
def spmScrubDue (s : State) (core : Nat) : Bool :=
  match tfind s.mem.spmScrubAt core with
  | none => true
  | some t => decide (t / hourNs < s.orbit.refNs / hourNs)

/-- What the scrub of a segment finds: a module logical core's, or a kennel core's. -/
def scrubSegment (s : State) (core corrected : Nat) (failing : List Nat) : State :=
  if core < 512 then (if physOf s (core / 128) (core % 128) = 0xFF then s else scrubMapped s core corrected failing)
  else
    let die := (core - 512) / 136
    let pc := (core - 512) % 136
    if die < 4 ∧ (kennel s die).contains pc = true then scrubSpare s die pc corrected failing else s

/-- A word of a core's operand cache fails, words numbered from the most recently used line on: in a clean line the line is invalidated, to be
refetched; in a dirty one it stays failing (R176, R177). -/
def opcFail (s : State) (core w : Nat) : State :=
  match (s.mem.opc.filter fun x => x.core == core)[w / 16]? with
  | none => s
  | some x =>
    if s.mem.dirty.any fun d => d.core == core && d.moon == x.moon && d.ma / 128 == x.line then
      { s with mem := { s.mem with ueOpc := (core, x.moon, x.line * 16 + w % 16) :: s.mem.ueOpc.filter fun y => y != (core, x.moon, x.line * 16 + w % 16) } }
    else { s with mem := { s.mem with opc := s.mem.opc.filter fun y => y != x } }

/-- What the ECC tells of a core's SRAM between two scrubs (R176, R485), when SCRUB_SCRATCHPAD is not due: corrected words count, and words fail from
now on, those from 2^21 on being the words of its operand cache; the demand access that meets one fails [DESIGN CHOICE 54]. -/
def demandSram (s : State) (core corrected : Nat) (failing : List Nat) : State :=
  let die := core / 128
  if 512 ≤ core ∨ physOf s die (core % 128) = 0xFF then s
  else
    let words := (failing.filter fun w => decide (w < 2 ^ 21)).map fun w => core * 2 ^ 21 + w
    let cache := (failing.filter fun w => decide (2 ^ 21 ≤ w)).map fun w => w - 2 ^ 21
    let s := if corrected = 0 then s else incB s 0x4010 die corrected
    let s := { s with mem := { s.mem with ueSpm := words.foldl addNum s.mem.ueSpm } }
    let s := cache.foldl (fun s w => opcFail s core w) s
    sramErrors s die (physOf s die (core % 128)) corrected (words ++ cache.map fun w => 2 ^ 30 + w)

/-- SCRUB_SCRATCHPAD (R176, R178, R485): once an hour, of a module logical core, or from 512 on of the kennel core 136 × die + PC that is 512
less [27]. -/
def execScrubScratchpad (core corrected : Nat) (failing : List Nat) (s : State) : Res :=
  if !isUp s then .next s
  else if !spmScrubDue s core then .next (demandSram s core corrected failing)
  else .next (scrubSegment { s with mem := { s.mem with spmScrubAt := tset s.mem.spmScrubAt core s.orbit.refNs } } core corrected failing)

/-- The two dies that a bridge joins (R18), by bridge 0 to 5: BR01, BR12, BR23, BR30, BR02, BR13. -/
def bridgeEnds (b : Nat) : Nat × Nat := [(0, 1), (1, 2), (2, 3), (3, 0), (0, 2), (1, 3)].getD b (0, 0)

/-- A bridge is a diagonal (R18); the others form the ring. -/
def bridgeDiagonal (b : Nat) : Bool := decide (4 ≤ b)

/-- The direct bridge of two dies (R18): every pair has one. -/
def bridgeOf (d e : Nat) : Option Nat := (upTo 6).find? fun b => bridgeEnds b == (d, e) || bridgeEnds b == (e, d)

/-- The lower-numbered of the two dies that are not a bridge's ends (R19). -/
def detourDie (b : Nat) : Nat := ((upTo 4).find? fun d => d != (bridgeEnds b).1 && d != (bridgeEnds b).2).getD 0

/-- The bridges that traffic from one die to another crosses (R18, R19): none on a die, the direct bridge while it works, and in detour the two
bridges through `detourDie`. -/
def bridgeRoute (s : State) (d e : Nat) : List Nat :=
  match bridgeOf d e with
  | none => []
  | some b =>
    match tget s.cores.bridges .full b with
    | .full => [b]
    | _ => [bridgeOf d (detourDie b), bridgeOf (detourDie b) e].filterMap id

/-- BRIDGE_FAIL (R20): the first failed bridge runs in detour, a second stops the module. -/
def execBridgeFail (bridge : Nat) (s : State) : Res :=
  if !isUp s || decide (6 ≤ bridge) || tget s.cores.bridges .full bridge != .full then .next s
  else if s.cores.bridges.any fun e => e.2 != .full then
    .next (faultStop { s with cores := { s.cores with bridges := tset s.cores.bridges bridge .failed } } .bridge)
  else .next (setSvc { s with cores := { s.cores with bridges := tset s.cores.bridges bridge .detour } } 3)

end Sys2Proof.Machine
end

