-- ==== Sys2Proof/Machine/Memory.lean ====
section
/-! DEFINITION. HBM and its upkeep (R164 to R167, R173 to R185, R418, R426, R491): temperature bands, rows and pages that fail, comet, recalibration,
host access through BAR2, and the rows COMET_READ, HBM_TEMP_SAMPLE, SCRUB_HBM, SOFT_REPAIR_DONE, PAGE_RETIRE_DONE, BAR2_READ, BAR2_WRITE,
MEM_STAT_READ, HBM_RECAL_WINDOW, HBM_RECAL_DONE, HOST_READ_ABORTED. -/

namespace Sys2Proof.Machine

/-- The FP32 pattern of thousandths. -/
def milliF32 (v : Int) : Nat := bits32 (rn32 (divNum (Num.ofInt v) (Num.ofInt 1000)))

/-! ## Temperature (R167) -/

/-- Lower limit of a refresh band in millidegrees. -/
def bandLimit (b : Nat) : Int := if b = 2 then 85000 else if b = 3 then 95000 else 105000

/-- The band after a reading: up as soon as the limit is reached, down 3 °C below it. Band 4 begins above 105 °C, as the table of R167 has it
[DESIGN CHOICE 54]. -/
def nextBand (b : Nat) (t : Int) : Nat :=
  let up := if t > 105000 then 4 else if t ≥ 95000 then 3 else if t ≥ 85000 then 2 else 1
  if b ≤ up then up
  else if b = 4 ∧ t > bandLimit 4 - 3000 then 4
  else if 3 ≤ b ∧ t > bandLimit 3 - 3000 then 3
  else if t > bandLimit 2 - 3000 then 2
  else 1

/-- HBM_REFRESH_BAND of a stack. -/
def bandOf (s : State) (stack : Nat) : Nat := tget s.mem.band 1 stack

/-- HBM_TEMP_SAMPLE (R167). -/
def execHbmTempSample (stack : Nat) (milliC : Int) (s : State) : Res :=
  if !(isUp s || s.power.phase == .faultStop) || decide (8 ≤ stack) then .next s
  else
    let b := nextBand (bandOf s stack) milliC
    let t := { s with mem := { s.mem with temp := tset s.mem.temp stack milliC, band := tset s.mem.band stack b } }
    if 110000 ≤ milliC then .next (faultStop t .hbmOvertemp)
    else if b = 4 ∧ bandOf s stack ≠ 4 then .next (raisePf t 0x0402 [stack, milliF32 milliC])
    else .next t

/-! ## Page retirement (R181, R182) -/

/-- The free page that takes a retiring page's place (P3). -/
def retireTarget (s : State) (stack : Nat) : Option Nat × State :=
  let same := (freePages s stack).filter fun k => !s.mem.retirePend.contains k
  if !same.isEmpty then drawFrom same s else drawFrom (freePages s (mostFree s)) s

/-- The moon and place in its save area of a save page. -/
def savePlace (s : State) (key : Nat) : Option (Nat × Nat) :=
  s.moons.findSome? fun e => (e.2.save.findIdx? fun k => k == key).map fun i => (e.1, i)

/-- POISONED_PAGE to every moon that maps the page and owns it (P5). -/
def poisonedEvents (s : State) (key lost : Nat) : State :=
  s.moons.foldl (fun s e => e.2.table.foldl (fun s t =>
    if pageKey t.2.stack t.2.page == key && t.2.owner == e.1 then raiseMoon s e.1 0x0401 [t.1, lost] else s) s) s

/-- P3 to P6 of R181: the copy has ended with some sectors lost. -/
def finishRetire (s : State) (key : Nat) (lost : List Nat) : State :=
  let p := pageInfo s key
  let s := { s with mem := { s.mem with retirePend := delNum s.mem.retirePend key } }
  match retireTarget s (key / 32768) with
  | (none, s) =>
    let s := mapEntries (setPage s key { p with use := .retirePending }) key fun e => { e with migrating := false }
    jMust s (.pageRetire (key / 32768) (key % 32768) 0 (param s 0x4001 (key / 32768)))
  | (some k2, s) =>
    let bad := (lost.map fun x => key * 65536 + x).foldl addNum (s.mem.ueHbm.filter fun w => w * 32 / 2 ^ 21 == key)
    let s := setPage s k2 p
    let s := { s with mem := { s.mem with
      hbm := memPut (memZero s.mem.hbm (pageHpa k2 0) pageBytes) (pageHpa k2 0) (memPart s.mem.hbm (pageHpa key 0) pageBytes)
      ueHbm := bad.foldl (fun l w => addNum l (k2 * 65536 + w % 65536)) (marksOutside (marksOutside s.mem.ueHbm key) k2)
      msc := s.mem.msc.filter fun l => l.line * 256 / 2 ^ 21 != key } }
    let s := match savePlace s key with
      | some (m, i) => modMoon s m fun x => { x with
          save := x.save.map fun k => if k = key then k2 else k
          imageUe := bad.foldl (fun l w => (upTo 4).foldl (fun l j => addNum l ((i * 2 ^ 21 + w % 65536 * 32) / 8 + j)) l) x.imageUe }
      | none => s
    let s := if bad.isEmpty then s else poisonedEvents s key bad.length
    let s := mapEntries s key fun e =>
      { e with stack := k2 / 32768, page := k2 % 32768, migrating := false, poison := e.poison || !bad.isEmpty }
    retirePage s key

/-- PAGE_RETIRE_DONE (R181): the copy of a retiring page ends; `lost` are the sectors of the page that could not be corrected. -/
def execPageRetireDone (stack page : Nat) (lost : List Nat) (s : State) : Res :=
  let key := pageKey stack page
  if isUp s && s.mem.retirePend.contains key && decide (page < windowPages) then
    .next (finishRetire s key ((lost.filter fun x => decide (x < 65536)).foldl addNum []))
  else .next s

/-! ## Rows (R179, R180) -/

/-- One sector corrected in a scrub: the third within 24 hours fails its row (R179). -/
def correctSector (s : State) (hpa : Nat) : State :=
  let k := rowOf hpa
  let r := getRow s k
  let now := rowTime s
  let ts := (r.ceTimes ++ [now]).filter fun t => t % 2 == now % 2 && decide (now < t + 2 * dayNs)
  let s := setRow s k { r with ceTimes := ts }
  if 3 ≤ ts.length then failRow (setRow s k { r with ceTimes := [] }) k (hpa / 2 ^ 21) else s

/-- A page's scrub of the current HBM_SCRUB_PERIOD is due (R178): the periods are counted on the module reference [DESIGN CHOICE 54]. -/
def scrubDue (s : State) (key : Nat) : Bool :=
  let p := param s 0x4030 0 * hourNs
  match tfind s.mem.hbmScrubAt key with
  | none => true
  | some t => decide (t / p < s.orbit.refNs / p)

/-- What the ECC tells between two scrubs (R176, R179), when SCRUB_HBM is not due: correctable errors that demand reads met count, a sector's
for its row too, one of a line in the memory-side cache as the cache's; sectors fail from now on, and the demand read that meets one fails.
A line of the cache that fails is invalidated when clean, and poisoned when dirty [DESIGN CHOICE 54]. -/
def demandErrors (s : State) (stack key : Nat) (corrected failing : List Nat) : State :=
  let line (x : Nat) : Option MscLine := s.mem.msc.find? fun y => y.line == (key * 65536 + x) / 8
  let s := corrected.foldl (fun s x =>
    if (line x).isSome then incB s 0x4010 (stack / 2) 1 else correctSector (incB s 0x4003 stack 1) (pageHpa key (32 * x))) s
  failing.foldl (fun s x =>
    let mark (s : State) : State := { s with mem := { s.mem with ueHbm := addNum s.mem.ueHbm (key * 65536 + x) } }
    match line x with
    | none => mark s
    | some y => if y.dirty then mark { s with mem := { s.mem with msc := s.mem.msc.map fun z => if z.line == y.line then { z with poisoned := true } else z } }
      else mscDrop s y.line) s

/-- SCRUB_HBM (R178, R179): the scrub of a page, once a period: sectors corrected, and those found uncorrectable. Pages from 22,888 on are the
stack's private pages (R165) [DESIGN CHOICE 54]. -/
def execScrubHbm (stack page : Nat) (corrected failing : List Nat) (s : State) : Res :=
  let key := pageKey stack page
  if !isUp s || decide (8 ≤ stack) || decide (windowPages + privatePages ≤ page) then .next s
  else if !scrubDue s key then .next (demandErrors s stack key (corrected.filter fun x => decide (x < 65536)) (failing.filter fun x => decide (x < 65536)))
  else
    let s := { s with mem := { s.mem with hbmScrubAt := tset s.mem.hbmScrubAt key s.orbit.refNs } }
    let ce := corrected.filter fun x => decide (x < 65536)
    let ue := (failing.filter fun x => decide (x < 65536)).foldl addNum []
    let s := if ce.isEmpty then s else incB s 0x4003 stack ce.length
    let s := if ue.isEmpty then s else incB s 0x4004 stack ue.length
    let s := { s with mem := { s.mem with ueHbm := ue.foldl (fun l x => addNum l (key * 65536 + x)) s.mem.ueHbm } }
    let s := ce.foldl (fun s x => correctSector s (pageHpa key (32 * x))) s
    .next (ue.foldl (fun s x => failRow s (rowOf (pageHpa key (32 * x))) key) s)

/-- SOFT_REPAIR_DONE (S5 and S6 of R180): the record commits and the bank is released; sectors that could not be corrected stay marked. -/
def execSoftRepairDone (stack row : Nat) (s : State) : Res :=
  let k := stack * 2 ^ 32 + row % 2 ^ 32
  let r := getRow s k
  if isUp s && decide (stack < 8) && r.holding then
    let s := incA s 0x4006 stack 1
    let s := jMust s (.hbmRepair stack row 0 (param s 0x4006 stack))
    .next (setRow s k { r with holding := false, soft := true })
  else .next s

/-! ## Recalibration (R491) -/

/-- HBM_RECAL_WINDOW (R491): the period has passed, or the stack has drifted by 10 °C; one channel of a stack at a time, none in band 4. -/
def execHbmRecalWindow (stack channel : Nat) (s : State) : Res :=
  let k := 32 * stack + channel
  let t := tget s.mem.temp 0 stack
  let last := tget s.mem.recalTemp 0 k
  let due := decide (tget s.mem.recalAt 0 k + param s 0xB130 0 * 1000000000 ≤ s.orbit.refNs) || decide (10000 ≤ (t - last).natAbs)
  if isUp s && decide (stack < 8) && decide (channel < 32) && !thas s.mem.recal stack && bandOf s stack != 4 && due then
    .next { s with mem := { s.mem with recal := tset s.mem.recal stack channel, recalAt := tset s.mem.recalAt k s.orbit.refNs
                                       recalTemp := tset s.mem.recalTemp k t } }
  else .next s

/-- Rows of a channel that await a hard repair. -/
def awaitingHard (s : State) (stack channel : Nat) : List (Nat × RowInfo) :=
  s.mem.rows.filter fun e => e.1 / 2 ^ 32 == stack && e.1 % 32 == channel && e.2.soft && !e.2.hard && !e.2.rejected

/-- One hard repair (R180): done, or rejected by the stack. -/
def hardRepair (stack : Nat) (rejected : List Nat) (s : State) (e : Nat × RowInfo) : State :=
  let row := e.1 % 2 ^ 32
  if rejected.contains row then
    let s := jAppend s (.hbmRepair stack row 2 (param s 0x4007 stack))
    beginRetire (setRow s e.1 { e.2 with rejected := true }) e.2.page
  else
    let s := incA s 0x4007 stack 1
    setRow (jAppend s (.hbmRepair stack row 1 (param s 0x4007 stack))) e.1 { e.2 with hard := true }

/-- HBM_RECAL_DONE (R491): the window closes after the hard repairs of its channel; `rejected` are rows the stack refused. -/
def execHbmRecalDone (stack : Nat) (rejected : List Nat) (s : State) : Res :=
  match tfind s.mem.recal stack with
  | none => .next s
  | some channel =>
    if !isUp s then .next s
    else
      let s := (awaitingHard s stack channel).foldl (hardRepair stack rejected) s
      let msc := s.mem.msc.map fun x => if lineStack x.line == stack && lineHeld s x then { x with dirty := false } else x
      .next (incA { s with mem := { s.mem with recal := tdel s.mem.recal stack, msc := msc } } 0xB131 stack 1)

/-! ## Comet (R173 to R175) -/

/-- Retention class of a comet line under a stream's hint (R173). -/
def cometClass (s : State) (m stack hint : Nat) : MscClass :=
  match hintMode hint with
  | 0 => .drop 1
  | 1 => if keepRoom s m stack then .high else .normal
  | _ => .drop (hintCount hint)

/-- Fill one line of the memory-side cache ahead of a stream, unless it stands there; `m` is the OWNER of its page. -/
def cometFill (s : State) (die m hint line : Nat) : State :=
  if s.mem.msc.any fun x => x.line == line then s
  else
    let s := mscRoom s m line
    let x : MscLine := { line := line, moon := m, cls := cometClass s m (lineStack line) hint, dirty := false, comet := some die
                         poisoned := homeBad s (.hbm (line * 256) m) 256, before := memPart s.mem.hbm (line * 256) 256
                         marks := s.mem.ueHbm.filter fun w => w / 8 == line }
    incB (mscPut s x) 0x4032 die 1

/-- The page a stream enters may be read (R174). -/
def cometPage (s : State) (m ma : Nat) : Option PageEntry :=
  match entryOf s m ((ma - hbmRegion) / pageBytes) with
  | some e => if e.r && !e.poison && !e.migrating then some e else none
  | none => none

/-- An HBM read stream of a task (R173): the element plane or the scale plane of an operand, its vectors in stream order. -/
structure ReadStream where
  task  : Task
  base  : Nat
  size  : Nat
  count : Nat
  total : Nat
  s1    : Nat
  s2    : Nat
  hint  : Nat
  deriving DecidableEq, Repr

/-- Bytes of a stream. -/
def ReadStream.bytes (x : ReadStream) : Nat := x.size * x.total

/-- The address of byte `p` of a stream. -/
def ReadStream.addr (x : ReadStream) (p : Nat) : Nat :=
  let i := p / x.size
  x.base + i / x.count * x.s2 + i % x.count * x.s1 + p % x.size

/-- The streams of an operand's residual plane: the header with the index list, the element array, the scale array (R74). -/
def planeStreams (s : State) (t : Task) (o : Opd) : List ReadStream :=
  if o.res = 0 then []
  else match readMa s t.moon none o.res 64 with
    | .error _ => []
    | .ok h =>
      let el := planeElems o.res (field h 4 4)
      let one (ma n : Nat) : ReadStream := ⟨t, ma, n, 1, 1, 0, 0, o.hint⟩
      [one o.res (64 + 4 * field h 8 4), one el (16 * field h 8 4), one (el + 16 * field h 4 4) (field h 8 4)]

/-- The streams of an operand that lie in HBM. -/
def opdStreams (s : State) (t : Task) (o : Opd) : List ReadStream :=
  let e : ReadStream := ⟨t, o.base, packedBytes o.fmt o.len, o.count, o.vectors, o.s1, o.s2, o.hint⟩
  let c : ReadStream := ⟨t, o.scale, o.packedScales, o.count, o.vectors, o.t1, o.count * o.t1, o.hint⟩
  ((if fmtBlocked o.fmt then [e, c] else [e]) ++ planeStreams s t o).filter fun x => decide (hbmRegion ≤ x.base ∧ x.base < hbmEnd)

/-- The HBM read streams of a task: the operands of its record that it reads (R173). -/
def taskStreams (s : State) (t : Task) : List ReadStream :=
  match t.desc.kind with
  | 1 => let g := parseGemm t.ext; ([g.a, g.b] ++ if g.accIn then [g.c] else []).flatMap (opdStreams s t)
  | 2 => (parseChain t.ext).ins.flatMap (opdStreams s t)
  | 3 => let c := parseMove t.ext; if c.mode = 1 ∨ c.srcHost = 1 then [] else opdStreams s t c.src
  | _ => []

/-- The cores of a die that a running task holds, moon-local. -/
def dieCores (s : State) (die : Nat) (t : Task) : List Nat := t.cores.filter fun j => (moonCore s t.moon j).map (· / 128) == some die

/-- The next task queued for a core (R173): of the oldest unstarted tasks of the moon's rings that may use it, the one that would take it first
(R200, R231) [DEDUCED 54]. -/
def nextQueued (s : State) (m j : Nat) : Option Task :=
  let core := (moonCore s m j).getD 0
  let l := s.tasks.tasks.filter fun t => t.moon == m && t.phase == .fetched && (oldestUnstarted s m t.ring).map Task.seq == some t.seq &&
    (descCores s m t.desc).contains j
  match l.map fun t => (⟨taskPrio s t, ringDist s m t.ring core, t⟩ : Claim) with
  | [] => none
  | c :: r => some (r.foldl (fun b x => if x.better j b then x else b) c).task

/-- The tasks that a die's comet reads for: those that run on its cores or move engines, neither pre-empted nor failed (R175), and the next queued for
those cores (R173). -/
def cometTasks (s : State) (die : Nat) : List Task :=
  let run := s.tasks.tasks.filter fun t => t.phase == .running && t.result != 1 && workRuns s t.moon t.ring && (t.engine == some die || !(dieCores s die t).isEmpty)
  let next := run.flatMap fun t => (dieCores s die t).filterMap fun j => nextQueued s t.moon j
  run ++ next.eraseDups

/-- A die's comet in a stream: where it stands; nothing read ahead yet without an entry. -/
def cometAt (s : State) (die : Nat) (x : ReadStream) : CometStream :=
  (s.mem.comet.find? fun c => c.die == die && c.moon == x.task.moon && c.ring == x.task.ring && c.seq == x.task.seq && c.base == x.base).getD
    ⟨die, x.task.moon, x.task.ring, x.task.seq, x.base, 0, false⟩

/-- Where the task itself stands in a stream. -/
def demandAt (s : State) (x : ReadStream) : Nat :=
  ((s.mem.demand.find? fun d => d.moon == x.task.moon && d.ring == x.task.ring && d.seq == x.task.seq && d.base == x.base).map StreamPos.pos).getD 0

/-- Keep where comet stands. -/
def putComet (s : State) (c : CometStream) : State :=
  { s with mem := { s.mem with comet := c :: (s.mem.comet.filter fun d =>
      !(d.die == c.die && d.moon == c.moon && d.ring == c.ring && d.seq == c.seq && d.base == c.base)) } }

/-- Where comet goes on in a stream: where it stood, unless the task has passed that byte. -/
def cometPos (s : State) (die : Nat) (x : ReadStream) : Nat := Nat.max (cometAt s die x).pos (demandAt s x)

/-- Bytes of the next burst at stream position `p` (R166, R173): up to 2 KiB of one channel, within a vector, and no further than COMET_DEPTH ahead of
the task. -/
def cometBurst (s : State) (x : ReadStream) (p : Nat) : Nat :=
  Nat.min (Nat.min (x.size - p % x.size) (2048 - x.addr p % 2048)) (demandAt s x + param s 0x4031 0 * 1024 - p)

/-- One read-ahead burst of a stream (R173, R174). -/
def cometStep (s : State) (die : Nat) (x : ReadStream) : State :=
  let c := cometAt s die x
  let p := cometPos s die x
  if c.stopped ∨ x.bytes ≤ p ∨ cometBurst s x p = 0 then s
  else match cometPage s c.moon (x.addr p) with
    | none => putComet s { c with pos := p, stopped := true }
    | some e =>
      let hpa := pageHpa (pageKey e.stack e.page) (x.addr p % pageBytes)
      if bandOf s e.stack = 4 ∨ inWindow s hpa = true ∨ bankHeld s hpa = true then s
      else
        let n := cometBurst s x p
        let s := (upTo ((hpa % 256 + n + 255) / 256)).foldl (fun s i => cometFill s die e.owner x.hint (hpa / 256 + i)) s
        putComet s { c with pos := p + n }

/-- COMET_READ (R173): the `n`th HBM read stream that a die's comet serves reads ahead. -/
def execCometRead (die n : Nat) (s : State) : Res :=
  match ((cometTasks s die).flatMap (taskStreams s))[n]? with
  | some x => if !isUp s then .next s else .next (cometStep s die x)
  | none => .next s

/-! ## BAR2 (R184, R414, R418, R426) -/

/-- The answer of a read by the host. -/
def respond (s : State) (b : Bytes) : State :=
  { s with dict := { s.dict with answer := { frame := 0, status := 0, stuck := false, last := true, value := b } } }

/-- The HPA of a BAR2 offset (R418). -/
def bar2Hpa (s : State) (o : Nat) : Nat := if s.host.bar2Size = 512 * 2 ^ 30 then o else param s 0x0014 0 + o

/-- What BAR2 does with a page (R184): 0 moon 0's, 1 free, 2 denied. -/
def bar2Kind (s : State) (hpa : Nat) : Nat :=
  let key := hpa / 2 ^ 21
  let p := pageInfo s key
  if windowPages ≤ key % 32768 ∨ 8 ≤ key / 32768 then 2
  else if p.use = .free then 1
  else if (p.use = .granted ∨ p.use = .save ∨ p.use = .retirePending) ∧ p.owner = 0 then 0
  else 2

/-- A page of a BAR2 range is MIGRATING, or its bank is held (R180, R491), so the access waits (R169, R426). -/
def bar2Waits (s : State) (hpa n : Nat) (write : Bool) : Bool :=
  (s.mem.retirePend.any fun k => decide (k * 2 ^ 21 < hpa + n) && decide (hpa < (k + 1) * 2 ^ 21) && bar2Kind s (k * 2 ^ 21) == 0) ||
  ((!s.mem.rows.isEmpty || !s.mem.recal.isEmpty) && (upTo ((hpa % 256 + n + 255) / 256)).any fun i =>
    bar2Kind s (hpa / 256 * 256 + 256 * i) == 0 && hbmWaits s (hpa / 256 * 256 + 256 * i) write)

/-- The kinds of the pages that a range touches. -/
def bar2Kinds (s : State) (hpa n : Nat) : List Nat :=
  (upTo ((hpa % 2 ^ 21 + n + 2 ^ 21 - 1) / 2 ^ 21)).map fun i => bar2Kind s ((hpa / 2 ^ 21 + i) * 2 ^ 21)

/-- A denied page of a request counts once in BAR2_DENIED (R184). -/
def bar2Count (s : State) (hpa n : Nat) : State := if (bar2Kinds s hpa n).contains 2 then incA s 0x4008 0 1 else s

/-- Bytes of a BAR2 range: those of a failing sector are never returned as if they were good (R177), and read as all-ones, which the spec does not
state [DESIGN CHOICE 54]. -/
def bar2Bytes (s : State) (hpa n : Nat) : Bytes :=
  match n with
  | 0 => []
  | n + 1 =>
    (match bar2Kind s hpa with | 0 => (if homeBad s (.hbm hpa 0) 1 then 0xFF else memGet s.mem.hbm hpa) | 1 => 0 | _ => 0xFF) :: bar2Bytes s (hpa + 1) n

/-- A read through BAR2 that met a failing sector counts (R177, R185), and its row fails (R179). -/
def bar2Ue (s : State) (hpa n : Nat) : State :=
  match s.mem.ueHbm.find? fun w => decide (w * 32 < hpa + n) && decide (hpa < w * 32 + 32) && bar2Kind s (w * 32) == 0 && homeBad s (.hbm (w * 32) 0) 32 with
  | some w => failByte (incB s 0x4004 (w * 32 / 2 ^ 36) 1) (w * 32)
  | none => s

/-- Host accesses to the lines of moon 0's pages pass through the memory-side cache (R161, R184). -/
def bar2Touch (s : State) (hpa n : Nat) (read : Bool) : State :=
  (upTo ((hpa % 256 + n + 255) / 256)).foldl (fun s i =>
    let line := hpa / 256 + i
    if bar2Kind s (line * 256) = 0 then mscAccess s 0 line 0 read else s) s

/-- Store the bytes that fall into moon 0's pages. -/
def bar2Store (s : State) (hpa : Nat) (b : Bytes) : State :=
  match b with
  | [] => s
  | x :: r =>
    bar2Store (if bar2Kind s hpa = 0 then { s with mem := { s.mem with hbm := memSet s.mem.hbm hpa x } } else s) (hpa + 1) r

/-- BAR2_READ (R184, R410, R418): a PF read of `n` bytes. -/
def execBar2Read (o n : Nat) (s : State) : Res :=
  let hpa := bar2Hpa s o
  if dead s || decide (s.host.bar2Size < o + n) then .next s
  else if !isUp s then .next (respond s (List.replicate n 0xFF))
  else if bar2Waits s hpa n false then .next s
  else
    let b := bar2Bytes s hpa n
    .next (respond (bar2Ue (bar2Touch (bar2Count s hpa n) hpa n true) hpa n) b)

/-- A BAR2 write lands (R184, R418). -/
def storeBar2 (s : State) (hpa : Nat) (b : Bytes) : State :=
  let n := b.length
  let s := bar2Store (bar2Touch (bar2Count s hpa n) hpa n false) hpa b
  { s with mem := { s.mem with ueHbm := if (bar2Kinds s hpa n).all (fun k => k == 0) then marksLeft s.mem.ueHbm 32 hpa n else s.mem.ueHbm } }

/-- BAR2_WRITE (R184, R410, R418). -/
def execBar2Write (o : Nat) (b : Bytes) (s : State) : Res :=
  let hpa := bar2Hpa s o
  let n := b.length
  if !isUp s || decide (s.host.bar2Size < o + n) then .next s
  else if hostWaits s 0 || bar2Waits s hpa n true then .next (holdWrite s (.bar2 o b))
  else .next (storeBar2 s hpa b)

/-- HOST_READ_ABORTED (R426): a read that waited for 500 µs on a MIGRATING page completes with all-ones. -/
def execHostReadAborted (n : Nat) (s : State) : Res :=
  if isUp s then .next (respond (incA s 0x0011 0 1) (List.replicate n 0xFF)) else .next s

/-- MEM_STAT_READ (R185): a read of the first counter of a memory group, by any role. -/
def execMemStatRead (who : Who) (p e : Nat) (s : State) : Res :=
  if p = 0x4003 ∨ p = 0x4010 ∨ p = 0x4032 then query s who p e fun s => readStat s p e true else .next s

end Sys2Proof.Machine
end

