-- ==== Sys2Proof/Machine/Training.lean ====
section
/-! DEFINITION. The pipeline unit (R303 to R313), weight tiles and versions (R314 to R318), activations (R319, R320), gradient formats (R321 to
R323) and the gradient-noise statistic (R326, R327), with the rows PIPE_CTX, PIPE_START, PIPE_DRAIN, PIPE_RETRY, PIPE_RESET, PIPE_CMD_FWD,
PIPE_CMD_BWD, PIPE_CMD_UPDATE, FORWARD_PROGRAM_START, BACKWARD_PROGRAM_START, UPDATE_PROGRAM_START, FORWARD_DONE, BACKWARD_DONE, UPDATE_DONE,
DERIVE_DONE, ACT_RESTORE_DONE, GNS_CFG, GNS_CLOSE, TRAIN_STAT_READ. -/

namespace Sys2Proof.Machine

/-- Change the training state of moon `m`. -/
def modTrain (s : State) (m : Nat) (f : Train → Train) : State := setTrain s m (f (getTrain s m))

/-! ## The pipeline record (R303, R304) -/

/-- Parse a pipeline record (R303). -/
def parsePipe (b : Bytes) : PipeRec :=
  let f := field b 3 1
  { manual := field b 2 1 == 1, flush := f.testBit 0, recompute := f.testBit 1, stage := field b 4 1, stages := field b 5 1
    actLayers := field b 6 1, spillSlots := field b 7 1, mbPerStep := field b 8 4, prefetch := field b 0xC 2, fwdIn := field b 0xE 2
    bwdIn := field b 0x10 2, tiles := field b 0x14 4, fwdPlan := field b 0x18 8, bwdPlan := field b 0x20 8, updPlan := field b 0x28 8
    stashTable := field b 0x30 8, layerTable := field b 0x38 8, layers := field b 0x40 2, actBytes := field b 0x44 4
    actRegion := field b 0x48 8, actSpill := field b 0x50 8, spillBytes := field b 0x58 4, cmdRing := field b 0x60 8
    cmdLog2 := field b 0x68 1 }

/-- The fields of a record lie in their ranges and its reserved fields are 0 (R303). -/
def pipeFieldsOk (b : Bytes) (r : PipeRec) : Bool :=
  field b 0 2 == 1 && decide (field b 2 1 ≤ 1) && decide (1 ≤ r.stages ∧ r.stages ≤ 64) && decide (r.stage < r.stages) &&
  decide (r.actLayers ≤ 4) && decide (1 ≤ r.spillSlots ∧ r.spillSlots ≤ 64) && decide (1 ≤ r.mbPerStep ∧ r.mbPerStep ≤ 65535) &&
  decide (r.prefetch ≤ 64) && decide (1 ≤ r.tiles ∧ r.tiles ≤ 65536) && decide (1 ≤ r.layers ∧ r.layers ≤ 1024) &&
  decide (r.actBytes ≤ r.spillBytes) &&
  (!r.manual || (decide (6 ≤ r.cmdLog2 ∧ r.cmdLog2 ≤ 12) && r.cmdRing % 4096 == 0))

/-- The regions a record names lie in the moon's address space (R42, R304). -/
def pipeRegionsOk (s : State) (m : Nat) (r : PipeRec) : Bool :=
  inSpace s m r.fwdPlan 32 && inSpace s m r.bwdPlan 32 && inSpace s m r.updPlan 32 && inSpace s m r.stashTable (64 * r.tiles) &&
  inSpace s m r.layerTable (32 * r.layers) &&
  (r.actBytes == 0 || (r.actRegion % 64 == 0 && decide (r.actRegion + r.actBytes ≤ (moonCores s m).length * 2 ^ 24))) &&
  (r.spillBytes == 0 || (decide (hbmRegion ≤ r.actSpill) && decide (r.actSpill + r.spillBytes * r.spillSlots ≤ hbmEnd))) &&
  (!r.manual || inSpace s m r.cmdRing (16 * 2 ^ r.cmdLog2))

/-- Stages after this one; W of R307. -/
def PipeRec.after (r : PipeRec) : Nat := r.stages - r.stage - 1

/-- The record passes every check of START and RETRY (R304). -/
def pipeOk (s : State) (m : Nat) (b : Bytes) : Bool :=
  let r := parsePipe b
  let n := r.stages - r.stage
  pipeFieldsOk b r && pipeRegionsOk s m r && (objNum s m r.fwdIn).isSome && (r.after == 0 || (objNum s m r.bwdIn).isSome) &&
  !(r.actLayers == 0 && r.actBytes != 0) &&
  (r.manual || (decide (n ≤ r.spillSlots) && (r.flush || decide (n ≤ r.mbPerStep)) && !(r.recompute && !r.flush)))

/-- Read the record of PIPE_CTX: an access error, none when a check fails. -/
def readPipe (s : State) (m ma : Nat) : Except Fail (Option (PipeRec × Bytes)) :=
  if !(decide (hbmRegion ≤ ma) && decide (ma + 128 ≤ hbmEnd)) then .ok none
  else do
    let b ← readMa s m none ma 128
    .ok (if pipeOk s m b then some (parsePipe b, b) else none)

/-! ## Tile records (R314) -/

/-- A tile record as it stands in memory (R314). -/
structure TileRec where
  ver     : BitVec 16
  tver    : BitVec 16
  even    : Nat
  odd     : Nat
  firstMb : W32
  deriving_ : Bool
  failed  : Bool
  layer   : Nat
  normal  : Nat
  master  : Nat
  derive  : Nat
  masterBytes : Nat
  normalBytes : Nat
  deriving DecidableEq, Repr

/-- Parse a tile record. -/
def parseTile (b : Bytes) : TileRec :=
  { ver := BitVec.ofNat 16 (field b 0 2), tver := BitVec.ofNat 16 (field b 2 2), even := field b 4 2, odd := field b 6 2
    firstMb := BitVec.ofNat 32 (field b 8 4), deriving_ := (field b 0xC 1).testBit 0, failed := (field b 0xC 1).testBit 1
    layer := field b 0xE 2, normal := field b 0x10 8, master := field b 0x20 8, derive := field b 0x28 8
    masterBytes := field b 0x30 4, normalBytes := field b 0x34 4 }

/-- Tile `i` of a stash table. -/
def readTile (s : State) (m : Nat) (r : PipeRec) (i : Nat) : Except Fail TileRec := do
  let b ← readMa s m none (r.stashTable + 64 * i) 64
  .ok (parseTile b)

/-- Every tile of a list of numbers. -/
def readTiles (s : State) (m : Nat) (r : PipeRec) (l : List Nat) : Except Fail (List (Nat × TileRec)) :=
  match l with
  | [] => .ok []
  | i :: q => do
    let t ← readTile s m r i
    let rest ← readTiles s m r q
    .ok ((i, t) :: rest)

/-- Write a tile's module fields (R314). -/
def writeTile (s : State) (m : Nat) (r : PipeRec) (i : Nat) (t : TileRec) : Except Fail State :=
  writeMa s m (r.stashTable + 64 * i)
    (leBytes 2 t.ver.toNat ++ leBytes 2 t.tver.toNat ++ leBytes 2 t.even ++ leBytes 2 t.odd ++ leBytes 4 t.firstMb.toNat ++
      leBytes 1 ((if t.deriving_ then 1 else 0) + if t.failed then 2 else 0))

/-- Change the tiles of a list of numbers. -/
def modTiles (s : State) (m : Nat) (r : PipeRec) (f : TileRec → TileRec) (l : List Nat) : Except Fail State :=
  match l with
  | [] => .ok s
  | i :: q => do
    let t ← readTile s m r i
    let s ← if f t = t then .ok s else writeTile s m r i (f t)
    modTiles s m r f q

/-- Hold count of a version (R314). -/
def TileRec.hold (t : TileRec) (v : BitVec 16) : Nat := if v.toNat % 2 = 0 then t.even else t.odd

/-- Change the hold count of a version. -/
def TileRec.setHold (t : TileRec) (v : BitVec 16) (f : Nat → Nat) : TileRec :=
  if v.toNat % 2 = 0 then { t with even := f t.even % 65536 } else { t with odd := f t.odd % 65536 }

/-- The version the backward of `k` uses (R315): VER when `k` does not precede FIRST_MB (R220), VER − 1 otherwise. -/
def TileRec.usedBy (t : TileRec) (k : W32) : BitVec 16 := if (k - t.firstMb).toNat < 2 ^ 31 then t.ver else t.ver - 1

/-- The transposed copy is stale and no micro-batch holds its version (R317). -/
def TileRec.stale (t : TileRec) : Bool := t.tver != t.ver && t.hold t.tver == 0

/-! ## Derivations (R317) -/

/-- Issue the derivations that are due among the tiles of a list (R317): DERIVING is set and the DERIVE descriptor becomes a task [13]. -/
def startDerives (s : State) (m : Nat) (r : PipeRec) (l : List Nat) : Except Fail State :=
  match l with
  | [] => .ok s
  | i :: q => do
    let t ← readTile s m r i
    if t.stale && !t.deriving_ && !t.failed then
      let b ← readMa s m none t.derive 64
      let u ← planTask s m 34 freeDesc [] (fun _ => 0) i b
      let s ← writeTile s m r i { t with deriving_ := true }
      startDerives (addTask s u) m r q
    else startDerives s m r q

/-! ## Activations (R319, R320) -/

/-- MA of a micro-batch's spill slot (R305). -/
def spillMa (r : PipeRec) (k : W32) : Nat := r.actSpill + r.spillBytes * (k.toNat % r.spillSlots)

/-- The retention region is free: no micro-batch in flight stands in it and no restore runs (R319). -/
def regionFree (t : Train) : Bool := t.restoring.isNone && !(t.inFlight.any InFlight.inRegion)

/-- ACT_HOME of micro-batch `k` (R319): the region when it stands there, otherwise its spill slot. -/
def actHome (t : Train) (r : PipeRec) (k : W32) : Nat :=
  if t.inFlight.any fun f => f.mb == k && f.inRegion then r.actRegion else spillMa r k

/-- The oldest micro-batch in flight is to be restored when the region is free and its activations stand in its slot (R320). -/
def startRestore (t : Train) (r : PipeRec) : Train :=
  match t.inFlight.head? with
  | some f => if r.actLayers ≠ 0 ∧ !f.inRegion ∧ regionFree t then { t with restoring := some f.mb } else t
  | none => t

/-- An operand of `n` bytes at a place (R190). -/
def bytesOpd (base n : Nat) : Bytes := padTo (leBytes 8 base ++ leBytes 16 0 ++ leBytes 4 n ++ leBytes 4 1 ++ leBytes 12 0 ++ leBytes 1 0x0C) 64

/-- The MOVE task, COPY of ACT_BYTES from the spill slot into the region, that a restore runs (R193, R320). -/
def addRestore (s : State) (m : Nat) (r : PipeRec) : State :=
  match (getTrain s m).restoring with
  | some k =>
    if (ringTasks s m 36).isEmpty then
      addTask s (mkTask m 36 0 { freeDesc with kind := 3, moon := m } (padTo [] 64 ++ bytesOpd (spillMa r k) r.actBytes ++ bytesOpd r.actRegion r.actBytes))
    else s
  | none => s

/-! ## Which program comes next (R307 to R309) -/

/-- The next program in AUTO mode, or of a draining unit (R304, R307, R308). -/
def nextAuto (t : Train) (r : PipeRec) : Option Program :=
  let backward := t.inFlight.head?.map fun f => Program.backward f.mb
  let update := Program.update 0 r.tiles
  if t.state = .draining then
    match backward with
    | some p => some p
    | none => if 0 < t.bwdSince then some update else none
  else if r.flush then
    if t.fwdInStep < r.mbPerStep ∧ t.inFlight.length ≤ Nat.min r.after r.mbPerStep then some (.forward t.nextMb)
    else some (backward.getD update)
  else if r.mbPerStep ≤ t.bwdSince then some update
  else if t.inFlight.length ≤ r.after then some (.forward t.nextMb)
  else some (backward.getD (.forward t.nextMb))

/-- The program to start next, none in MANUAL mode until a command has been taken (R309). -/
def nextUp (t : Train) (r : PipeRec) : Option Program :=
  if t.taken then t.program else if r.manual && t.state != .draining then t.nextProgram else nextAuto t r

/-- What starting a program changes in the unit's own counts. -/
def pipeBegun (t : Train) (r : PipeRec) (p : Program) : Train :=
  match p with
  | .forward k =>
    { t with nextMb := t.nextMb + 1, fwdInStep := t.fwdInStep + 1
             inFlight := t.inFlight ++ [⟨k, r.actLayers != 0 && t.inFlight.isEmpty && regionFree t⟩] }
  | _ => t

/-- What completing a program changes in the unit's own counts. -/
def pipeEnded (t : Train) (r : PipeRec) (p : Program) : Train :=
  let t := { t with program := none, active := false, taken := false, nextProgram := none, fromRing := false }
  match p with
  | .forward _ => t
  | .backward k => startRestore { t with inFlight := t.inFlight.filter fun f => f.mb != k, bwdSince := t.bwdSince + 1 } r
  | .update .. => { t with steps := t.steps + 1, bwdSince := 0, fwdInStep := 0 }

/-- A program's plan (R303). -/
def planOf (r : PipeRec) : Program → Nat
  | .forward _ => r.fwdPlan
  | .backward _ => r.bwdPlan
  | .update .. => r.updPlan

/-- FMT_NOW of a layer (R321, R323): read from its entry, 0 for a layer the table does not have. -/
def fmtNow (s : State) (m : Nat) (r : PipeRec) (layer : Nat) : Nat :=
  if layer < r.layers then
    match readMa s m none (r.layerTable + 32 * layer + 1) 1 with
    | .ok b => leNat b
    | .error _ => 0
  else 0

/-- The quantities of R305 for a program. -/
def pipeQty (s : State) (m : Nat) (t : Train) (r : PipeRec) (p : Program) (x : Bind) : Nat :=
  let k : W32 := match p with | .forward k => k | .backward k => k | .update .. => 0
  match x.qty with
  | 16 => k.toNat
  | 17 => actHome t r k
  | 18 => spillMa r k
  | 19 => fmtNow s m r x.arg
  | 20 => match p with | .update f _ => f | _ => 0
  | 21 => match p with | .update _ c => c | _ => 0
  | 22 => t.steps.toNat
  | _ => 0

/-- The quantity codes a program may bind (R305). -/
def pipeQtyOk (q : Nat) : Bool := decide (16 ≤ q ∧ q ≤ 22)

/-! ## Waiting (R306, R313, R315, R316) -/

/-- Every tile of a program's range is as R315 or R316 asks: some access failed, or not current, or current. -/
def tilesReady (s : State) (m : Nat) (r : PipeRec) (p : Program) : Except Fail Bool := do
  match p with
  | .forward _ => .ok true
  | .backward k =>
    let l ← readTiles s m r (upTo r.tiles)
    .ok (l.all fun e => e.2.tver == e.2.usedBy k)
  | .update f c =>
    let l ← readTiles s m r ((upTo c).map fun i => f + i)
    .ok (l.all fun e => e.2.tver == e.2.ver && !e.2.deriving_ && (!r.recompute || (e.2.even == 0 && e.2.odd == 0)))

/-- WAIT of PIPE_STATUS for a program that has not started (R313): 0 when it is eligible. -/
def waitFor (s : State) (m : Nat) (t : Train) (r : PipeRec) (p : Program) : Except Fail Nat := do
  let ready ← tilesReady s m r p
  match p with
  | .forward k =>
    if t.taken then .ok 0
    else if !waitMet s m r.fwdIn 1 then .ok 1
    else if t.inFlight.any fun f => f.mb.toNat % r.spillSlots == k.toNat % r.spillSlots then .ok 5
    else .ok 0
  | .backward k =>
    if !t.taken && r.after != 0 && !waitMet s m r.bwdIn 1 then .ok 2
    else if !ready then .ok 3
    else if t.restoring == some k then .ok 4
    else .ok 0
  | .update .. => if !ready then .ok 3 else if 3 ≤ t.snapStage then .ok 6 else .ok 0

/-- The unit runs or drains and no program does. -/
def pipeIdle (t : Train) : Bool := (t.state == .running || t.state == .draining) && !t.active && !t.resetting

/-- WAIT of PIPE_STATUS (R313). -/
def pipeWait (s : State) (m : Nat) : Nat :=
  let t := getTrain s m
  match t.pipeRec with
  | none => 0
  | some r =>
    if !pipeIdle t then 0
    else match nextUp t r with
      | none => 0
      | some p => match waitFor s m t r p with | .ok w => w | .error _ => 0

/-- PIPE_STATUS (R313). -/
def pipeStatus (s : State) (m : Nat) : Nat :=
  let t := getTrain s m
  pipeCode t.state + 2 ^ 3 * pipeWait s m + 2 ^ 8 * t.error + 2 ^ 16 * (t.task % 2 ^ 16) + 2 ^ 32 * (t.code % 2 ^ 16)

/-- Keep the time that a backward or an update waits for a derivation (R336). -/
def noteWait (s : State) (m : Nat) : State :=
  let t := getTrain s m
  match t.waitAt, pipeWait s m == 3 with
  | none, true => setTrain s m { t with waitAt := some s.orbit.refNs }
  | some _, false => endWait s m
  | _, _ => s

/-- The ring number of the unit's restores (R320). -/
def restoreRing : Nat := 36

/-- The unit's plan tasks leave, but for started ones, which run to completion. -/
def clearPlans (s : State) (m : Nat) : State :=
  { s with tasks := { s.tasks with tasks := s.tasks.tasks.filter fun u =>
    !(u.moon == m && (u.ring == 32 || u.ring == 35) && !(u.started && !u.completed)) } }

/-- A draining or resetting unit that has nothing left to do enters OFF once every transposed copy is current (R304). -/
def pipeOff (s : State) (m : Nat) : Except Fail State := do
  let t := getTrain s m
  match t.pipeRec with
  | none => .ok s
  | some r =>
    let busy := s.tasks.tasks.any fun u => u.moon == m && (u.ring == 32 || u.ring == 35 || u.ring == restoreRing) && u.started && !u.completed
    if t.state == .draining && !t.active && !(t.resetting && busy) && (t.resetting || (t.inFlight.isEmpty && t.bwdSince == 0)) then
      let l ← readTiles s m r (upTo r.tiles)
      if l.all fun e => e.2.tver == e.2.ver && !e.2.deriving_ then
        .ok (modTrain (clearPlans s m) m fun t => { t with state := .off, resetting := false, prefetched := none, nextProgram := none, program := none })
      else .ok s
    else .ok s

/-- The outcome of a meaning of the pipeline unit: an access held by a MIGRATING page leaves everything as it was; another access error
halts the unit [21]. -/
def pipeRes (s0 : State) (m : Nat) (x : Except Fail State) : Res :=
  match x.bind fun s => pipeOff s m with
  | .ok s => .next (noteWait s m)
  | .error e => if e.code = 0 then .next s0 else .next (pipeHalt s0 m 1 0 e.code)

/-! ## PIPE_CTX and PIPE_CTRL (R303, R304) -/

/-- A write of PIPE_CTX (R303): only while the unit is OFF or HALTED. -/
def writePipeCtx (m a : Nat) (s : State) : Except Nat State :=
  let t := getTrain s m
  if t.state == .off || t.state == .halted then .ok (setTrain s m { t with ctxMa := a }) else .error 8

/-- PIPE_CTX (R303). -/
def execPipeCtx (who : Who) (m a : Nat) (s : State) : Res := let m := effMoon who m; command s who 0x9010 m (writePipeCtx m a)

/-- The layer tallies at START: GTAG of every entry, nothing counted (R321). -/
def startLayers (s : State) (m : Nat) (r : PipeRec) : Except Fail (Tab Layer) := do
  let b ← readMa s m none r.layerTable (32 * r.layers)
  .ok ((upTo r.layers).map fun i => (i, { Layer.reset with gtag := field b (32 * i) 1 }))

/-- Install a checked record and enter RUNNING with micro-batch numbers at 0 (R304 START). -/
def pipeStarted (s : State) (m : Nat) (r : PipeRec) (b : Bytes) : Except Fail State := do
  let s ← modTiles s m r (fun t => { t with firstMb := 0 }) (upTo r.tiles)
  let layers ← startLayers s m r
  let s := modTrain (clearPlans s m) m fun t =>
    { t with pipeRec := some r, state := .running, error := 0, task := 0, code := 0, program := none, active := false, taken := false
             nextProgram := none, prefetched := none, resetting := false, fromRing := false, nextMb := 0, inFlight := [], fwdInStep := 0, bwdSince := 0
             steps := 0, layers := layers, restoring := none, cmdHead := BitVec.ofNat 32 (field b 0x70 4) }
  startDerives s m r (upTo r.tiles)

/-- START (R304): CTX_BAD leaves the unit in its state. -/
def pipeStart (m : Nat) (s : State) : Except Nat State :=
  let t := getTrain s m
  if t.state ≠ .off then .error 7
  else
    let bad := setTrain s m { t with error := 1 }
    match readPipe s m t.ctxMa with
    | .error e => if e.code = 0 then .error 8 else .ok bad
    | .ok none => .ok bad
    | .ok (some (r, b)) =>
      match pipeStarted s m r b with
      | .ok s => .ok (noteWait s m)
      | .error e => if e.code = 0 then .error 8 else .ok bad

/-- PIPE_START (R304). -/
def execPipeStart (who : Who) (m : Nat) (s : State) : Res := let m := effMoon who m; command s who 0x9012 m (pipeStart m)

/-- Unstarted tasks of the pipeline unit's plans leave. -/
def dropUnstarted (s : State) (m : Nat) (l : List Nat) : State :=
  { s with tasks := { s.tasks with tasks := s.tasks.tasks.filter fun u => !(u.moon == m && l.contains u.ring && u.phase == .fetched) } }

/-- DRAIN (R304): no forward starts any more. -/
def pipeDrain (m : Nat) (s : State) : Except Nat State :=
  let t := getTrain s m
  if t.state ≠ .running then .error 7
  else
    let s := setTrain s m { t with state := .draining, nextProgram := none }
    match pipeOff s m with
    | .ok s => .ok (noteWait s m)
    | .error _ => .ok (noteWait s m)

/-- PIPE_DRAIN (R304). -/
def execPipeDrain (who : Who) (m : Nat) (s : State) : Res := let m := effMoon who m; command s who 0x9012 m (pipeDrain m)

/-- Derivations that failed run again (R304 RETRY). -/
def retryDerives (s : State) (m : Nat) (r : PipeRec) : Except Fail State := do
  let s ← modTiles s m r (fun t => { t with failed := false }) (upTo r.tiles)
  startDerives s m r (upTo r.tiles)

/-- RETRY (R304, R311, R312): the record is checked again; the failed program, derivation or restore runs from its start, and a program that runs beside
a failed derivation or restore goes on. -/
def pipeRetry (m : Nat) (s : State) : Except Nat State :=
  let t := getTrain s m
  if t.state ≠ .halted then .error 7
  else
    let bad := setTrain s m { t with error := 1 }
    match readPipe s m t.ctxMa with
    | .error e => if e.code = 0 then .error 8 else .ok bad
    | .ok none => .ok bad
    | .ok (some (r, _)) =>
      let s := if t.active then s else clearPlans s m
      let s := setTrain s m { t with pipeRec := some r, state := .running, error := 0, task := 0, code := 0, resetting := false
                                     prefetched := if t.active then t.prefetched else none, nextProgram := none }
      match retryDerives s m r with
      | .ok s => .ok (noteWait (addRestore s m r) m)
      | .error e => if e.code = 0 then .error 8 else .ok bad

/-- PIPE_RETRY (R304). -/
def execPipeRetry (who : Who) (m : Nat) (s : State) : Res := let m := effMoon who m; command s who 0x9012 m (pipeRetry m)

/-- RESET (R304): started tasks run to completion, holds become 0, stale copies are derived again, then OFF. -/
def pipeReset (m : Nat) (s : State) : Except Nat State :=
  let t := getTrain s m
  match t.pipeRec with
  | none => .error 7
  | some r =>
    if t.state = .off then .error 7
    else
      let s := dropUnstarted s m [32, 35, restoreRing]
      let s := setTrain s m { t with state := .draining, resetting := true, inFlight := [], bwdSince := 0, taken := false, active := false
                                     restoring := none, nextProgram := none, prefetched := none, program := none, fromRing := false }
      match (do
        let s ← modTiles s m r (fun t => { t with even := 0, odd := 0, failed := false }) (upTo r.tiles)
        let s ← startDerives s m r (upTo r.tiles)
        pipeOff s m) with
      | .ok s => .ok (noteWait s m)
      | .error e => if e.code = 0 then .error 8 else .ok s

/-- PIPE_RESET (R304). -/
def execPipeReset (who : Who) (m : Nat) (s : State) : Res := let m := effMoon who m; command s who 0x9012 m (pipeReset m)

/-! ## The command ring (R309) -/

/-- A command of the ring at sequence number `q`, none when it is not published. -/
def readPipeCmd (s : State) (m : Nat) (t : Train) (r : PipeRec) (q : W32) : Except Fail (Option Bytes) := do
  let tail ← readMa s m none (t.ctxMa + 0x6C) 4
  if BitVec.ofNat 32 (leNat tail) = q then .ok none
  else
    let b ← readMa s m none (r.cmdRing + 16 * (q.toNat % 2 ^ r.cmdLog2)) 16
    .ok (some b)

/-- The program a command names, none when it halts the unit with CMD_BAD (R309). -/
def cmdProgram (t : Train) (r : PipeRec) (b : Bytes) : Option Program :=
  let k : W32 := BitVec.ofNat 32 (field b 4 4)
  let f := field b 8 4
  if field b 1 3 ≠ 0 then none
  else match field b 0 1 with
    | 1 => if k = t.nextMb then some (.forward k) else none
    | 2 => if t.inFlight.any fun x => x.mb == k then some (.backward k) else none
    | 3 =>
      let c := field b 0xC 4
      if c = 0 then some (.update 0 r.tiles) else if f + c ≤ r.tiles then some (.update f c) else none
    | _ => none

/-- Whether only running derivations stand between an update and its conditions (R309). -/
def onlyDeriving (s : State) (m : Nat) (r : PipeRec) (f c : Nat) : Except Fail Bool := do
  let l ← readTiles s m r ((upTo c).map fun i => f + i)
  .ok (l.all fun e => (e.2.deriving_ || e.2.tver == e.2.ver) && (!r.recompute || (e.2.even == 0 && e.2.odd == 0)))

/-- The command at the head of the ring is taken and checked (R309): `mine` tells whether the row is this command's. -/
def takePipeCmd (s : State) (m : Nat) (mine : Nat → Bool) : Res :=
  let t := getTrain s m
  match t.pipeRec with
  | none => .next s
  | some r =>
    if !(moonRuns s m && r.manual && t.state == .running && !t.active && !t.taken && t.nextProgram.isNone) then .next s
    else match readPipeCmd s m t r t.cmdHead with
      | .error e => pipeRes s m (.error e)
      | .ok none => .next s
      | .ok (some b) =>
        let op := field b 0 1
        if !mine op then .next s
        else match cmdProgram t r b with
          | none => .next (pipeHalt s m 5 0 0)
          | some (.update f c) =>
            pipeRes s m (do
              let ok ← onlyDeriving s m r f c
              .ok (if ok then setTrain s m { t with nextProgram := some (.update f c) } else pipeHalt s m 6 0 0))
          | some p => .next (noteWait (setTrain s m { t with nextProgram := some p }) m)

/-- A reserved OP halts the unit whichever row looks at it [21]. -/
def opReserved (op : Nat) : Bool := op == 0 || decide (3 < op)

/-- PIPE_CMD_FWD (R309). -/
def execPipeCmdFwd (m : Nat) (s : State) : Res := takePipeCmd s m fun op => op == 1 || opReserved op

/-- PIPE_CMD_BWD (R309). -/
def execPipeCmdBwd (m : Nat) (s : State) : Res := takePipeCmd s m fun op => op == 2 || opReserved op

/-- PIPE_CMD_UPDATE (R309). -/
def execPipeCmdUpdate (m : Nat) (s : State) : Res := takePipeCmd s m fun op => op == 3 || opReserved op

/-! ## Programs (R305, R306, R310, R315, R316) -/

/-- The program after the current one, as far as it is known (R310): the fixed order, or a command already published. -/
def followingProgram (s : State) (m : Nat) (t : Train) (r : PipeRec) (p : Program) : Except Fail (Option Program) :=
  let t' := pipeEnded t r p
  if r.manual && t.state != .draining then do
    let b ← readPipeCmd s m t r (t.cmdHead + 1)
    .ok (b.bind fun b => cmdProgram t' r b)
  else .ok (nextAuto t' r)

/-- Bind and release the prefetch group of the following program (R310): update plans have none. -/
def prefetchNext (s : State) (m : Nat) (r : PipeRec) (p : Program) : Except Fail State := do
  let t := getTrain s m
  if r.prefetch = 0 then .ok s
  else
    match ← followingProgram s m t r p with
    | none => .ok s
    | some (.update ..) => .ok s
    | some q =>
      let ring := if t.side then 32 else 35
      let s := dropPlan s m ring
      let t2 := pipeBegun (pipeEnded t r p) r q
      match ← loadPipe s m ring (planOf r q) pipeQtyOk (pipeQty s m t2 r q) (fun i => decide (i < r.prefetch)) with
      | some s => .ok (setTrain s m { t with prefetched := some q })
      | none => .ok s

/-- Every task in a plan ring has completed or has not started. -/
def ringQuiet (s : State) (m r : Nat) : Bool := (ringTasks s m r).all fun t => !t.started || t.completed || t.phase == .done

/-- The consumptions and holds of a program that has not taken them before a failure (R306, R315). -/
def takeProgram (s : State) (m : Nat) (r : PipeRec) (p : Program) : Except Fail State := do
  let t := getTrain s m
  if t.taken then .ok s
  else
    match p with
    | .forward _ =>
      let s := (addObj s m r.fwdIn (-1)).1
      let s ← modTiles s m r (fun x => x.setHold x.ver (· + 1)) (upTo r.tiles)
      .ok (setTrain s m (pipeBegun t r p))
    | .backward _ => .ok (if r.after = 0 then s else (addObj s m r.bwdIn (-1)).1)
    | .update .. => .ok s

/-- Start a program (R305, R306, R310): consumptions and holds, its tasks, the prefetch group of the next; PLAN_BAD halts the unit. -/
def startProgram (s : State) (m : Nat) (r : PipeRec) (p : Program) : Except Fail State := do
  let t0 := getTrain s m
  let s ← takeProgram s m r p
  let t := getTrain s m
  let other := if t.side then 32 else 35
  let pre := t.prefetched == some p
  let side := if pre then !t.side else t.side
  let ring := if side then 35 else 32
  let s := if pre then dropPlan s m (if t.side then 35 else 32) else dropPlan (dropUnstarted s m [other]) m ring
  let s := setTrain s m { t with program := some p, active := true, taken := true, side := side, prefetched := none, nextProgram := none
                                 fromRing := if t0.taken then t0.fromRing else r.manual && t0.state != .draining }
  match ← loadPipe s m ring (planOf r p) pipeQtyOk (pipeQty s m (getTrain s m) r p) (fun i => !pre || decide (r.prefetch ≤ i)) with
  | none => .ok (pipeHalt s m 2 0 0)
  | some s =>
    let s ← prefetchNext s m r p
    match (ringTasks s m ring).find? fun u => u.result == 1 with
    | some u => .ok (if u.completed then pipeHalt s m 3 u.seq.toNat u.error else s)
    | none => .ok s

/-- An armed snapshot waits for the turn that runs: one of its own WHEN, or any that is past its drain (R333). Other snapshots capture at the
next boundary between programs (R329). -/
def snapHeld (t : Train) : Bool :=
  turnRuns t && (t.phase != .draining || match t.turn, t.snap with
    | some (c, _), some (d, _) => d.whenEn && c.whenOrbit == d.whenOrbit
    | _, _ => false)

/-- The row that starts a program of a kind: it acts when that is the program whose turn it is and it is eligible (R306). -/
def tryStart (s : State) (m : Nat) (mine : Program → Bool) : Res :=
  let t := getTrain s m
  match t.pipeRec with
  | none => .next s
  | some r =>
    if !(moonRuns s m && pipeIdle t && (t.snapStage != 2 || snapHeld t) && !reshapeDue s m) then .next s
    else match nextUp t r with
      | none => .next s
      | some p =>
        if !mine p then .next s
        else if !ringQuiet s m (pipeRing t) || !(t.prefetched == some p || ringQuiet s m (if t.side then 32 else 35)) then .next s
        else pipeRes s m (do
          let w ← waitFor s m t r p
          if w = 0 then startProgram s m r p else .ok s)

/-- FORWARD_PROGRAM_START (R306, R315, R319). -/
def execForwardProgramStart (m : Nat) (s : State) : Res := tryStart s m fun | .forward _ => true | _ => false

/-- BACKWARD_PROGRAM_START (R306, R315). -/
def execBackwardProgramStart (m : Nat) (s : State) : Res := tryStart s m fun | .backward _ => true | _ => false

/-- UPDATE_PROGRAM_START (R306, R316). -/
def execUpdateProgramStart (m : Nat) (s : State) : Res := tryStart s m fun | .update .. => true | _ => false

/-! ## Gradient formats at an update (R321, R322) -/

/-- Parts per million of a tally. -/
def ppm (n elems : Nat) : Nat := if elems = 0 then 0 else n * 1000000 / elems

/-- Rank of a gradient format (R322): E4M3, E5M2, BF16. -/
def fmtRank (f : Nat) : Nat := if f = 5 then 0 else if f = 6 then 1 else 2

/-- The format of a rank. -/
def rankFmt (k : Nat) : Nat := if k = 0 then 5 else if k = 1 then 6 else 1

/-- A format qualifies (R322). -/
def qualifies (s : State) (m ovf unf elems : Nat) : Bool :=
  decide (ovf * 1000000 ≤ param s 0x9030 m * elems) && decide (unf * 1000000 ≤ param s 0x9031 m * elems)

/-- FMT_NOW and QUAL after an update (R322). -/
def chooseFmt (s : State) (m now qual : Nat) (x : Layer) : Nat × Nat :=
  if x.elems = 0 ∨ x.elems = 0xFFFFFFFF then (now, qual)
  else
    let cand := if qualifies s m x.e4Ovf x.e4Unf x.elems then 0 else if qualifies s m x.e5Ovf x.e5Unf x.elems then 1 else 2
    if fmtRank now < cand then (rankFmt cand, 0)
    else if fmtRank now = cand then (now, 0)
    else if param s 0x9032 m ≤ qual + 1 then (rankFmt cand, 0) else (now, qual + 1)

/-- One layer at an update: shares, format, tallies cleared (R321, R322). -/
def updateLayer (s : State) (m : Nat) (r : PipeRec) (l : Nat) : Except Fail State := do
  let t := getTrain s m
  match tfind t.layers l with
  | none => .ok s
  | some x =>
    let a := r.layerTable + 32 * l
    let b ← readMa s m none a 4
    let (f, q) := chooseFmt s m (field b 1 1) (field b 2 1) x
    let s ← writeMa s m (a + 1) (leBytes 1 f ++ leBytes 1 q)
    let s ← writeMa s m (a + 4) (leBytes 4 (ppm x.e4Ovf x.elems) ++ leBytes 4 (ppm x.e4Unf x.elems) ++ leBytes 4 (ppm x.e5Ovf x.elems) ++
      leBytes 4 (ppm x.e5Unf x.elems) ++ leBytes 4 0)
    .ok (setTrain s m { t with layers := tset t.layers l { Layer.reset with gtag := x.gtag } })

/-- Every layer of a list at an update. -/
def updateLayers (s : State) (m : Nat) (r : PipeRec) (l : List Nat) : Except Fail State :=
  match l with
  | [] => .ok s
  | x :: q => do
    let s ← updateLayer s m r x
    updateLayers s m r q

/-! ## The gradient-noise statistic (R326, R327) -/

/-- The quotient of a value and a positive rational denominator `n / d`, exact to 2^-80 of it with a sticky bit. -/
def divNat (a : Num) (n : Nat) : Num :=
  match a with
  | .fin s k e =>
    if n = 0 then .nan
    else
      let sh := 160 + Nat.log2 n
      let q := k * 2 ^ sh / n
      let st := if k * 2 ^ sh % n = 0 then 0 else 1
      .fin s (2 * q + st) (e - sh - 1)
  | x => x

/-- Round to FP64. -/
def rn64 (v : Num) : Num := decFloat fp64 (bits64 v)

/-- |𝒢|² of a sample (R327). -/
def gnsG2 (g : GnsCfg) (l gg : Num) : Num :=
  rn64 (divNat (Num.add (Num.mul (Num.ofInt g.bGlobal) gg) (Num.mul (Num.ofInt (-(g.bLocal : Int))) l)) (g.bGlobal - g.bLocal))

/-- S of a sample (R327): (L − G) b B / (B − b). -/
def gnsS (g : GnsCfg) (l gg : Num) : Num :=
  rn64 (divNat (Num.mul (Num.ofInt ((g.bLocal * g.bGlobal : Nat) : Int)) (Num.add l gg.neg)) (g.bGlobal - g.bLocal))

/-- An average moves towards a sample by ALPHA (R327). -/
def gnsMove (alpha old x : Num) : Num :=
  rn64 (Num.add (Num.mul (Num.add (Num.ofInt 1) alpha.neg) old) (Num.mul alpha x))

/-- Close a sample (R326, R327): L and G restart at 0; a sample with either 0 is dropped. -/
def closeGns (s : State) (m : Nat) : State :=
  let t := getTrain s m
  match t.gns with
  | none => s
  | some g =>
    let l := decFloat fp64 t.gnsL
    let gg := decFloat fp64 t.gnsG
    let u := { t with gnsL := 0, gnsG := 0 }
    if !g.enable || l.isZero || gg.isZero then setTrain s m u
    else
      let a := num32 g.alpha
      let g2 := gnsG2 g l gg
      let sn := gnsS g l gg
      let u := if t.gnsSeen then
          { u with gnsMean := bits64 (gnsMove a (decFloat fp64 t.gnsMean) g2), gnsNoise := bits64 (gnsMove a (decFloat fp64 t.gnsNoise) sn) }
        else { u with gnsSeen := true, gnsMean := bits64 g2, gnsNoise := bits64 sn }
      incA (setTrain s m u) 0x9204 m 1

/-- The nearest multiple of `q` to the quotient of two values, ties upward, as a multiple count; both finite, the second positive. -/
def nearMultiple (a b : Num) (q : Nat) : Int :=
  match a, b with
  | .fin sa ka ea, .fin _ kb eb =>
    -- floor ((2 a + q b) / (2 q b)) over a common exponent
    let e := min ea eb
    let x : Int := (if sa then -(ka : Int) else ka) * (2 : Int) ^ (ea - e).toNat
    let y : Int := (kb : Int) * (2 : Int) ^ (eb - e).toNat
    (2 * x + q * y).fdiv (2 * q * y)
  | _, _ => 0

/-- GNS_BATCH (R327); 0 before any sample, MAX when the average is not positive, a free value within bounds when an average is not finite [7]. -/
def gnsBatch (s : State) (m : Nat) : Nat :=
  let t := getTrain s m
  match t.gns with
  | none => 0
  | some g =>
    if !t.gnsSeen then 0
    else
      let mean := decFloat fp64 t.gnsMean
      let noise := decFloat fp64 t.gnsNoise
      if !mean.isFin || !noise.isFin then g.minimum + Config.openValue 12 t.gnsNoise % (g.maximum - g.minimum + 1)
      else if mean.sign || mean.isZero then g.maximum
      else
        let v := nearMultiple noise mean g.quantum * g.quantum
        if v < g.minimum then g.minimum else if (g.maximum : Int) < v then g.maximum else v.toNat

/-- A GNS_CFG record breaks R326. -/
def gnsBad (g : GnsCfg) : Bool :=
  g.rsv || !(decide (1 ≤ g.localTag ∧ g.localTag ≤ 255)) || !(decide (1 ≤ g.globalTag ∧ g.globalTag ≤ 255)) || g.localTag == g.globalTag ||
  decide (g.bGlobal ≤ g.bLocal) || g.quantum == 0 || decide (g.maximum < g.minimum) ||
  (match num32 g.alpha with
   | .fin sg k e => sg || k == 0 || decide (Num.cmp (.fin false k e) (Num.ofInt 1) > 0)
   | _ => true)

/-- A write of GNS_CFG (R326). -/
def writeGns (m : Nat) (g : GnsCfg) (s : State) : Except Nat State :=
  if gnsBad g then .error 7
  else
    let t := getTrain s m
    .ok (setTrain s m { t with gns := some g, gnsL := 0, gnsG := 0, gnsSeen := false, gnsMean := 0, gnsNoise := 0 })

/-- GNS_CFG (R326). -/
def execGnsCfg (who : Who) (m : Nat) (g : GnsCfg) (s : State) : Res :=
  let m := effMoon who m
  command s who 0x9200 m fun s => if ownRole s who m then writeGns m g s else .error 3

/-- GNS_CLOSE (R326). -/
def execGnsClose (who : Who) (m : Nat) (s : State) : Res :=
  let m := effMoon who m
  command s who 0x9205 m fun s => if ownRole s who m then .ok (closeGns s m) else .error 3

/-! ## Programs complete (R307, R315 to R317, R320) -/

/-- The tiles of an update move to the next version (R316). -/
def bumpTiles (s : State) (m : Nat) (r : PipeRec) (next : W32) (l : List Nat) : Except Fail State :=
  modTiles s m r (fun t => { t with ver := t.ver + 1, firstMb := next }) l

/-- The layers that tiles of a range belong to. -/
def layersOf (s : State) (m : Nat) (r : PipeRec) (l : List Nat) : Except Fail (List Nat) := do
  let ts ← readTiles s m r l
  .ok (ts.foldl (fun a e => addNum a e.2.layer) [])

/-- What a program's completion does beside the unit's own counts (R315, R316, R321, R326, R336). -/
def programEffect (s : State) (m : Nat) (r : PipeRec) (p : Program) : Except Fail State := do
  match p with
  | .forward _ => .ok (incB s 0x9020 m 1)
  | .backward k =>
    let s ← modTiles s m r (fun t => t.setHold (t.usedBy k) (· - 1)) (upTo r.tiles)
    .ok (incB s 0x9021 m 1)
  | .update f c =>
    let l := (upTo c).map fun i => f + i
    let s ← bumpTiles s m r (getTrain s m).nextMb l
    let ls ← layersOf s m r l
    let s ← updateLayers s m r ls
    .ok (closeGns (incB s 0x9022 m 1) m)

/-- CMD_HEAD advances over the completed command of a MANUAL unit (R303, R309). -/
def passCmd (s : State) (m : Nat) : Except Fail State :=
  let t := getTrain s m
  if t.fromRing then
    writeMa (setTrain s m { t with cmdHead := t.cmdHead + 1 }) m (t.ctxMa + 0x70) (leBytes 4 (t.cmdHead + 1).toNat)
  else .ok s

/-- The current program of a kind completes or has failed (R307, R312). -/
def endProgram (s : State) (m : Nat) (mine : Program → Bool) : Res :=
  let t := getTrain s m
  match t.pipeRec with
  | none => .next s
  | some r =>
    if t.resetting then pipeRes s m (.ok s)
    else match t.program with
    | none => if t.state == .draining then pipeRes s m (.ok s) else .next s
    | some p =>
      let ring := pipeRing t
      if !(mine p && t.active && isUp s && (t.state == .running || t.state == .draining)) then .next s
      else match planFailed s m ring with
        | some u => .next (pipeHalt s m 3 u.seq.toNat u.error)
        | none =>
          if !planComplete s m ring then .next s
          else pipeRes s m (do
            let s ← programEffect (dropPlan s m ring) m r p
            let s ← passCmd s m
            let s := addRestore (modTrain s m fun t => pipeEnded t r p) m r
            startDerives s m r (upTo r.tiles))

/-- FORWARD_DONE (R307). -/
def execForwardDone (m : Nat) (s : State) : Res := endProgram s m fun | .forward _ => true | _ => false

/-- BACKWARD_DONE (R315, R317, R320). -/
def execBackwardDone (m : Nat) (s : State) : Res := endProgram s m fun | .backward _ => true | _ => false

/-- UPDATE_DONE (R308, R316, R321, R322, R326). -/
def execUpdateDone (m : Nat) (s : State) : Res := endProgram s m fun | .update .. => true | _ => false

/-- The derivation task of a tile. -/
def deriveTask (s : State) (m i : Nat) : Option Task := s.tasks.tasks.find? fun t => t.moon == m && t.ring == 34 && t.seq.toNat == i

/-- A derivation's task leaves. -/
def dropDerive (s : State) (m i : Nat) : State :=
  { s with tasks := { s.tasks with tasks := s.tasks.tasks.filter fun t => !(t.moon == m && t.ring == 34 && t.seq.toNat == i) } }

/-- DERIVE_DONE (R312, R317): the tile's transposed copy is current, or DERIVE_FAILED halts the unit. -/
def execDeriveDone (m i : Nat) (s : State) : Res :=
  match deriveTask s m i, (getTrain s m).pipeRec with
  | some u, some r =>
    if !isUp s || !u.completed then .next s
    else
      let s1 := dropDerive s m i
      if u.result = 0 then pipeRes s m (modTiles s1 m r (fun t => { t with tver := t.ver, deriving_ := false }) [i])
      else
        let t := getTrain s m
        match modTiles s1 m r (fun t => { t with deriving_ := false, failed := true }) [i] with
        | .error e => if e.code = 0 then .next s else .next (pipeHalt s1 m 4 i u.error)
        | .ok s2 => .next (if t.state == .off || t.state == .halted then s2 else pipeHalt s2 m 4 i u.error)
  | _, _ => .next s

/-- ACT_RESTORE_DONE (R312, R320): the copy has completed and the retained activations stand in the region, or RESTORE_FAILED halts the unit. -/
def execActRestoreDone (m : Nat) (s : State) : Res :=
  match (ringTasks s m restoreRing).head? with
  | none => .next s
  | some u =>
    if !isUp s || !u.completed then .next s
    else
      let s1 := { s with tasks := { s.tasks with tasks := s.tasks.tasks.filter fun t => !(t.moon == m && t.ring == restoreRing) } }
      let t := getTrain s m
      match t.restoring with
      | none => pipeRes s m (.ok s1)
      | some k =>
        if u.result = 0 then
          .next (noteWait (setTrain s1 m { t with restoring := none, inFlight := t.inFlight.map fun f =>
            if f.mb == k then { f with inRegion := true } else f }) m)
        else .next (if t.state == .off || t.state == .halted then s1 else pipeHalt s1 m 7 0 u.error)

/-- TRAIN_STAT_READ (R336). -/
def execTrainStatRead (who : Who) (m : Nat) (s : State) : Res :=
  let m := effMoon who m
  query s who 0x9020 m fun s => readStat (flushWait s m) 0x9020 m (ownRole s who m)

end Sys2Proof.Machine
end

