-- ==== Sys2Proof/Machine/Turns.lean ====
section
/-! DEFINITION. Evaluation snapshots (R328, R329), turn switches (R330 to R334), the sending of an ARRIVE (R385) and entropy health tests
(R325), with the rows SNAPSHOT, SNAP_CANCEL, SNAP_ACCEPT, SNAPSHOT_ARM, SNAPSHOT_CAPTURE, SNAPSHOT_DONE, TO_LEARN, TO_GENERATE, TURN_CANCEL,
TURN_SWITCH_FIRE, TURN_DRAIN_POINT, TURN_PLAN_DONE, TURN_TIMEOUT, ENTROPY_TEST_FAIL. -/

namespace Sys2Proof.Machine

/-! ## Snapshots (R328, R329) -/

/-- Set SNAP_STATE (R227, R329). -/
def setSnap (s : State) (m st op code : Nat) : State :=
  modTrain s m fun t => { t with snapState := BitVec.ofNat 32 (st + 256 * op + 65536 * (code % 65536)) }

/-- A snapshot ends: DONE with code 0, otherwise FAILED; SNAP_DONE at the source, and at a local target when it was written (R329). -/
def endSnap (s : State) (m : Nat) (c : SnapCmd) (op code : Nat) : State :=
  let st := if code = 0 then 3 else 4
  let s := setSnap s m st op code
  let s := modTrain s m fun t => { t with snap := none, snapStage := 0 }
  let w := (getTrain s m).snapState.toNat
  let s := raiseMoon s m 0x0905 [c.snapId, w]
  if op ≠ 1 ∨ 63 < c.targetMoon then s
  else if c.remote then sendCtl s .snapDone (fabricOf s c.peer) [c.targetMoon, c.snapId, w]
  else raiseMoon s c.targetMoon 0x0905 [c.snapId, w]

/-- A snapshot has no layout to read: the generation layout, or no pipeline record (R329). -/
def snapNoLayout (t : Train) : Bool := t.layout == .generate || t.ctxMa == 0

/-- SNAP_CMD SNAPSHOT (R328, R329). -/
def snapshotCmd (who : Who) (m : Nat) (c : SnapCmd) (s : State) : Except Nat State :=
  let t := getTrain s m
  if t.snapStage ≠ 0 then .error 8
  else if c.rsv || decide (63 < c.targetMoon) then .ok (endSnap s m c 1 1)
  else if !c.whenEn && snapNoLayout t then .ok (endSnap s m c 1 2)
  else
    let s := setSnap s m (if c.whenEn then 1 else 2) 1 0
    .ok (modTrain s m fun t => { t with snap := some (c, who), snapStage := if c.whenEn then 1 else 2 })

/-- SNAPSHOT (R328). -/
def execSnapshot (who : Who) (m : Nat) (c : SnapCmd) (s : State) : Res := let m := effMoon who m; command s who 0x9500 m (snapshotCmd who m c)

/-- A SNAP_CMD that names no snapshot to end fails (R329, R423). -/
def snapFailed (s : State) (m op id code : Nat) : State :=
  let s := setSnap s m 4 op code
  raiseMoon s m 0x0905 [id, (getTrain s m).snapState.toNat]

/-- SNAP_CMD CANCEL (R328): it withdraws a pending snapshot. -/
def snapCancelCmd (m : Nat) (c : SnapCmd) (s : State) : Except Nat State :=
  let t := getTrain s m
  if c.rsv then .ok (snapFailed s m 2 c.snapId 1)
  else match t.snap with
    | some (x, _) => if t.snapStage = 1 then .ok (endSnap s m x 1 0xE) else .ok (snapFailed s m 2 c.snapId 2)
    | none => .ok (snapFailed s m 2 c.snapId 2)

/-- SNAP_CANCEL (R328). -/
def execSnapCancel (who : Who) (m : Nat) (c : SnapCmd) (s : State) : Res := let m := effMoon who m; command s who 0x9500 m (snapCancelCmd m c)

/-- SNAP_ACCEPT (R328): the target moon's own role names the snapshot it accepts. -/
def execSnapAccept (who : Who) (m : Nat) (a : SnapAccept) (s : State) : Res :=
  let m := effMoon who m
  command s who 0x9502 m fun s => if ownRole s who m then .ok (modTrain s m fun t => { t with accept := some a }) else .error 3

/-- SNAPSHOT_ARM (R203, R329): orbit reaches WHEN. -/
def execSnapshotArm (m : Nat) (s : State) : Res :=
  let t := getTrain s m
  match t.snap with
  | none => .next s
  | some (c, _) =>
    if !(moonRuns s m && t.snapStage == 1 && s.orbit.state != .unlocked && decide (c.whenOrbit ≤ s.orbit.now) && !earlierDue s 5 c.whenOrbit) then .next s
    else if snapNoLayout t then .next (endSnap s m c 1 2)
    else .next (modTrain (setSnap s m 2 1 0) m fun t => { t with snapStage := 2 })

/-- The places a snapshot reads, tile by tile: MA and bytes (R328). -/
def snapPieces (c : SnapCmd) (l : List (Nat × TileRec)) : List (Nat × Nat) :=
  l.map fun e => if c.fromNormal then (e.2.normal, e.2.normalBytes) else (e.2.master, e.2.masterBytes)

/-- The pieces of the snapshot in progress. -/
def snapList (s : State) (m : Nat) (c : SnapCmd) : Except Fail (Option (List (Nat × Nat))) := do
  match ← readPipe s m (getTrain s m).ctxMa with
  | none => .ok none
  | some (r, _) =>
    if c.firstTile + c.tileCount ≤ r.tiles then
      let l ← readTiles s m r ((upTo c.tileCount).map fun i => c.firstTile + i)
      .ok (some (snapPieces c l))
    else .ok none

/-- Every field of a target moon's acceptance matches (R328). -/
def accepts (s : State) (target : Nat) (a : SnapAccept) : Bool := (getTrain s target).accept == some a

/-- The acceptance a snapshot needs at its target (R328). -/
def needs (m : Nat) (c : SnapCmd) (bytes : Nat) : SnapAccept := ⟨Config.moduleIdentity, m, c.snapId, c.targetMa, bytes⟩

/-- Bytes of a snapshot's pieces. -/
def pieceBytes (l : List (Nat × Nat)) : Nat := (l.map Prod.snd).foldl (· + ·) 0

/-- Concatenate the bytes of pieces. -/
def readPieces (s : State) (m : Nat) (l : List (Nat × Nat)) : Except Fail Bytes :=
  match l with
  | [] => .ok []
  | (a, n) :: q => do
    let b ← readMa s m none a n
    let r ← readPieces s m q
    .ok (b ++ r)

/-- The code of a snapshot that an access fails, which the spec does not state; never 0 [7]. -/
def snapAccess (code : Nat) : Nat := 1 + Config.openValue 13 code % 65535

/-- The ring number of the transfers that carry snapshots. -/
def snapRing : Nat := migRing + 20

/-- A remote target is asked whether it has accepted the snapshot (R328), in a CONTROL flit to PEER [DESIGN CHOICE 58]. -/
def askTarget (s : State) (m : Nat) (c : SnapCmd) (bytes : Nat) : State :=
  sendCtl s .snapQuery (fabricOf s c.peer) [Config.moduleIdentity, m, c.snapId, c.targetMa, bytes, c.targetMoon, param s 0x5010 0]

/-- The snapshot's transfers leave. -/
def dropSnapTx (s : State) (m : Nat) : State :=
  { s with links := { s.links with tx := s.links.tx.filter fun x => !(x.moon == m && x.ring == snapRing) } }

/-- The target has answered (R328): the pieces leave as SEND chunks over PORTS to the target moon, packed in tile order (R329, R372), or it has
refused. -/
def snapAnswered (s : State) (m snapId : Nat) (ok : Bool) : State :=
  let t := getTrain s m
  match t.snap with
  | none => s
  | some (c, _) =>
    if t.snapStage != 3 || !c.remote || c.snapId != snapId then s
    else if !ok then noteWait (endSnap s m c 1 0xC) m
    else match (do
      match ← snapList s m c with
      | none => .ok []
      | some l => readPieces s m l) with
      | .error e => if (e : Fail).code = 0 then s else noteWait (endSnap s m c 1 (snapAccess e.code)) m
      | .ok b =>
        let cut := chunksOf 65536 b.length b
        modTrain (openOwn s m snapRing (fabricOf s c.peer) c.targetMoon c.ports [] ((upTo cut.length).zip cut |>.map fun e => (c.targetMa + 65536 * e.1, e.2)) 0)
          m fun t => { t with snapStage := 4 }

/-- A chunk of a snapshot is refused at the target, which fails the snapshot (R328). -/
def snapRefused (s : State) (m code : Nat) : State :=
  match (getTrain s m).snap with
  | none => s
  | some (c, _) => noteWait (endSnap (dropSnapTx s m) m c 1 (snapAccess code)) m

/-- SNAPSHOT_CAPTURE (R329, R333): at the first boundary between programs, after any turn of the same WHEN. -/
def execSnapshotCapture (m : Nat) (s : State) : Res :=
  let t := getTrain s m
  match t.snap with
  | none => .next s
  | some (c, _) =>
    if !(moonRuns s m && t.snapStage == 2 && !t.active && !snapHeld t && !((turnWhen s m).any (orbitReached s))) then .next s
    else if snapNoLayout t then .next (endSnap s m c 1 2)
    else match snapList s m c with
      | .error e => if e.code = 0 then .next s else .next (endSnap s m c 1 (snapAccess e.code))
      | .ok none => .next (endSnap s m c 1 1)
      | .ok (some l) =>
        if c.remote then
          .next (modTrain (askTarget s m c (pieceBytes l)) m fun t => { t with snapStage := 3 })
        else if !accepts s c.targetMoon (needs m c (pieceBytes l)) then .next (endSnap s m c 1 0xC)
        else .next (modTrain s m fun t => { t with snapStage := 3 })

/-- SNAPSHOT_DONE (R328, R329): every tile stands at the target, written through its page table, or the target has refused. -/
def execSnapshotDone (m : Nat) (ok : Bool) (s : State) : Res :=
  let t := getTrain s m
  match t.snap with
  | none => .next s
  | some (c, _) =>
    if !isUp s || decide (t.snapStage < 3) then .next s
    else if !ok then .next (noteWait (endSnap (dropSnapTx s m) m c 1 0xC) m)
    else if c.remote then
      if t.snapStage = 3 || s.links.tx.any (fun x => x.moon == m && x.ring == snapRing) then .next s
      else
        .next (noteWait (endSnap s m c 1 0) m)
    else
      match (do
        match ← snapList s m c with
        | none => .ok none
        | some l =>
          let b ← readPieces s m l
          let s ← writeMa s c.targetMoon c.targetMa b
          .ok (some s)) with
      | .error e => if (e : Fail).code = 0 then .next s else .next (noteWait (endSnap s m c 1 (snapAccess e.code)) m)
      | .ok none => .next (noteWait (endSnap s m c 1 1) m)
      | .ok (some s) => .next (noteWait (endSnap s m c 1 0) m)

/-! ## Turn commands (R330) -/

/-- The number of PHASE (R330). -/
def phaseCode : TurnPhase → Nat
  | .idle => 0
  | .pending => 1
  | .draining => 2
  | .transforming => 3
  | .barrier => 4
  | .done => 5
  | .failed => 6

/-- The number of LAYOUT (R330). -/
def layoutCode : Layout → Nat
  | .none => 0
  | .generate => 1
  | .learn => 2

/-- TURN_STATE (R330). -/
def turnState (t : Train) : Nat := layoutCode t.layout + 4 * phaseCode t.phase + 65536 * t.turnCode

/-- A turn ends with a code: DONE with 0, otherwise FAILED; TURN_DONE to the moon (R330). -/
def endTurn (s : State) (m turnId code : Nat) : State :=
  let s := modTrain s m fun t => { t with phase := if code = 0 then .done else .failed, turnCode := code, turn := none }
  raiseMoon s m 0x0904 [turnId, turnState (getTrain s m)]

/-- A field of a TURN_CMD is out of range (R330); reserved ones are ignored (R10). -/
def turnBad (c : TurnCmd) : Bool := decide (15 < c.slot) || !(decide (1 ≤ c.timeoutMs ∧ c.timeoutMs ≤ 60000))

/-- A turn is in progress (R330). -/
def turnBusy (t : Train) : Bool := t.phase == .pending || turnRuns t

/-- A TURN_CMD write of TO_LEARN (`learn`) or TO_GENERATE (R330, R332): BUSY leaves the turn in progress alone. -/
def turnCmd (learn : Bool) (who : Who) (m : Nat) (c : TurnCmd) (s : State) : Except Nat State :=
  let t := getTrain s m
  if turnBusy t then .ok (setTrain s m { t with turnCode := 8 })
  else if turnBad c then .ok (endTurn s m c.turnId 1)
  else if t.layout = (if learn then .learn else .generate) then .ok (endTurn s m c.turnId 2)
  else if !learn && (getSlot s m c.slot).registration.isNone then .ok (endTurn s m c.turnId 3)
  else .ok (setTrain s m { t with phase := .pending, turnCode := 0, turn := some (c, learn, who) })

/-- TO_LEARN (R330, R331). -/
def execToLearn (who : Who) (m : Nat) (c : TurnCmd) (s : State) : Res := let m := effMoon who m; command s who 0x9400 m (turnCmd true who m c)

/-- TO_GENERATE (R330, R332). -/
def execToGenerate (who : Who) (m : Nat) (c : TurnCmd) (s : State) : Res :=
  let m := effMoon who m; command s who 0x9400 m (turnCmd false who m c)

/-- TURN_CMD CANCEL (R330): a pending turn is withdrawn; one that drains cannot be. -/
def turnCancelCmd (m : Nat) (s : State) : Except Nat State :=
  let t := getTrain s m
  match t.turn with
  | some (c, _, _) => if t.phase = .pending then .ok (endTurn s m c.turnId 7) else .ok (setTrain s m { t with turnCode := 8 })
  | none => .ok s

/-- TURN_CANCEL (R330). -/
def execTurnCancel (who : Who) (m : Nat) (_c : TurnCmd) (s : State) : Res := let m := effMoon who m; command s who 0x9400 m (turnCancelCmd m)

/-! ## A turn runs (R331 to R334) -/

/-- ADMITs to a slot are gated or let through, and a swap of it held or released (R331). -/
def gateSlot (s : State) (m k : Nat) (on : Bool) : State :=
  let x := getSlot s m k
  setSlot s m k { x with admitsOff := on, swap := x.swap.map fun j => { j with held := on } }

/-- TURN_SWITCH_FIRE (R203, R331, R332): at WHEN, L1 or the check before G1 and G1. -/
def execTurnSwitchFire (m : Nat) (s : State) : Res :=
  let t := getTrain s m
  match t.turn with
  | none => .next s
  | some (c, learn, _) =>
    if !(moonRuns s m && t.phase == .pending && s.orbit.state != .unlocked && decide (c.whenOrbit ≤ s.orbit.now) && !earlierDue s 3 c.whenOrbit) then .next s
    else if learn then
      .next (gateSlot (setTrain s m { t with phase := .draining, turnAt := s.orbit.refNs }) m c.slot true)
    else if (getSlot s m c.slot).registration.isNone then .next (endTurn s m c.turnId 3)
    else
      let s := setTrain s m { t with phase := .draining, turnAt := s.orbit.refNs }
      match pipeDrain m s with
      | .ok s => .next s
      | .error _ => .next s

/-- A slot's sequences end with MODEL_GONE (R331): done, or no room yet for the records. -/
def endLive (s : State) (m k : Nat) : Except Fail (Option State) :=
  let l := slotSeqs (getServe s m) k
  if l.isEmpty then .ok (some s)
  else match (getServe s m).ctx with
    | none => .ok (some s)
    | some c => do
      let room ← outRoom s m c
      if room + (l.filter fun e => e.2.state == .decode).length < l.length then .ok none
      else
        let s ← endSlot s m c (getSlot s m k).step 7 l
        .ok (some s)

/-- L3 of R331: the held swap is withdrawn, every version released, the slot EMPTY with its registration kept. -/
def emptySlot (s : State) (m k : Nat) : State :=
  let s := dropVersions s m k fun _ => true
  let x := getSlot s m k
  let s := goneFetch (dropVariants s m k) m k
  setSlot s m k { x with state := .empty, versions := [], variants := [], swap := none, unload := false, admitsOff := false }

/-- A turn plan task has failed, or its plan is bad (R333): LAYOUT becomes NONE. -/
def failTurnPlan (s : State) (m : Nat) (c : TurnCmd) : State :=
  let s := dropPlan s m 33
  let s := gateSlot s m c.slot false
  endTurn (modTrain s m fun t => { t with layout := .none }) m c.turnId 5

/-- The drain point: the turn plan is bound (L4, G3). -/
def startTurnPlan (s : State) (m : Nat) (c : TurnCmd) : Except Fail State := do
  let s := modTrain s m fun t => { t with phase := .transforming, drainAt := s.orbit.refNs }
  match ← loadPipe s m 33 c.plan (fun _ => false) (fun _ => 0) (fun _ => true) with
  | some s => .ok s
  | none => .ok (failTurnPlan s m c)

/-- TURN_DRAIN_POINT (R331, R332): L2 and L3, or G2; then the turn plan. -/
def execTurnDrainPoint (m : Nat) (s : State) : Res :=
  let t := getTrain s m
  match t.turn with
  | none => .next s
  | some (c, learn, _) =>
    if !(moonRuns s m && t.phase == .draining) then .next s
    else
      let out : Except Fail (Option State) :=
        if learn then
          if !slotIdle s m c.slot then .ok none
          else do
            let e ← if c.endLive then endLive s m c.slot
                    else .ok (if (slotSeqs (getServe s m) c.slot).isEmpty then some s else none)
            match e with
            | none => .ok none
            | some s =>
              let s ← startTurnPlan (emptySlot s m c.slot) m c
              .ok (some s)
        else if t.state ≠ .off then .ok none
        else do
          let s ← startTurnPlan (setTrain s m { t with pipeRec := none, layers := [] }) m c
          .ok (some s)
      match out with
      | .ok (some s) => .next s
      | .ok none => .next s
      | .error e => if e.code = 0 then .next s else .next (failTurnPlan s m c)

/-- L5 of R331: PIPE_REC is installed; every tile moves to a version of its own, held by nothing. A bad record changes no tile [21]. -/
def installPipe (s : State) (m ma : Nat) : Except Fail State := do
  let s := modTrain s m fun t => { t with ctxMa := ma }
  match ← readPipe s m ma with
  | none => .ok s
  | some (r, _) => modTiles s m r (fun t => { t with ver := t.ver + 1, tver := t.ver + 1, even := 0, odd := 0 }) (upTo r.tiles)

/-- G4 of R332: the result is the slot's only version, CURRENT and derived, with the values of the registration. -/
def installDerived (s : State) (m k : Nat) : State :=
  let x0 := getSlot s m k
  let old := x0.version .current
  let s := dropVersions s m k fun _ => true
  let x := getSlot s m k
  match x.registration with
  | none => s
  | some g =>
    let v : Version :=
      { number := x.lastVersion + 1, kind := .current, manifest := [], overlay := [], derived := true, shared := none, vocab := g.vocab
        layers := g.layers, kvTpp := g.kvTpp, maxCtx := g.maxCtx, span := g.span, pages := []
        followers := (old.map Version.followers).getD [] }
    setSlot s m k { x with state := .ready, lastVersion := x.lastVersion + 1, versions := [v], swap := none, admitsOff := true }

/-- L7 and G6 (R331, R332, R334), or a barrier that failed (R333): the layout is set, and the turn ends. -/
def finishTurn (s : State) (m : Nat) (barrierOk : Bool) : State :=
  let t := getTrain s m
  match t.turn with
  | none => s
  | some (c, learn, _) =>
    let s := setTrain s m { t with layout := if learn then .learn else .generate }
    let s := if learn then
        (if barrierOk then (match pipeStart m s with | .ok s => s | .error _ => s) else s)
      else gateSlot s m c.slot false
    let s := setParam s 0x9402 m (((s.orbit.refNs : Int) - t.drainAt).toNat / 1000 % 2 ^ 32)
    let s := incA s 0x9403 m 1
    endTurn s m c.turnId (if barrierOk then 0 else 6)

/-! ## Arrivals sent (R383, R385) -/

/-- A moon has an arrival of a barrier that has not been released. -/
def hasArrived (s : State) (m scope b : Nat) : Bool := s.pack.sent.any fun e => e.1 == m && e.2.2.2.scope == scope && e.2.2.2.barrier == b

/-- Send ARRIVE for a moon (R385): kept until RELEASE; a second arrival of the moon waits for the first. None without a combiner (R388). -/
def sendArrive (s : State) (m r : Nat) (q : W32) (scope b start : Nat) : Option State :=
  match combinerOf s scope with
  | none => none
  | some f =>
    if hasArrived s m scope b then some s
    else
      let own := param s 0x5010 0
      let a : ArriveMsg := ⟨own, m, scope, b, start, orbitCode s.orbit.state⟩
      let s := { s with pack := { s.pack with sent := s.pack.sent ++ [(m, r, q, a)] } }
      some (if f = own then s else sendCtl s .arrive f [own, m, scope, b, a.orbit, a.state])

/-- An arrival leaves the list of those not released; its task completes or fails (DETAIL by the code), or its turn ends (R333, R385, R386). -/
def settleArrival (s : State) (e : Nat × Nat × W32 × ArriveMsg) (code detail : Nat) : State :=
  let m := e.1
  let s := { s with pack := { s.pack with sent := s.pack.sent.filter fun x => !(x.1 == m && x.2.1 == e.2.1 && x.2.2.1 == e.2.2.1) } }
  if e.2.1 = 33 then finishTurn s m (code == 0)
  else match findTask s m e.2.1 e.2.2.1 with
    | some t => if t.phase != .running then s else if code = 0 then completeTask s t else failTask s t code 0 detail
    | none => s

/-- BARRIER tasks and turns of a moon that wait at a barrier without having arrived there, oldest first (R385). -/
def waitingAt (s : State) (m scope b : Nat) : List (Nat × W32 × Nat) :=
  let l := (s.tasks.tasks.filter fun t => t.moon == m && t.phase == .running && t.desc.kind == 6 && t.desc.karg16 == scope && t.desc.karg32 == b).map
    fun t => (t.ring, t.seq, t.startAt)
  let tr := getTrain s m
  let l := if scope = 0 ∧ tr.phase = .barrier ∧ (tr.turn.map fun c => c.1.barrier) = some b then l ++ [(33, 0, s.orbit.now)] else l
  l.filter fun x => !s.pack.sent.any fun e => e.1 == m && e.2.1 == x.1 && e.2.2.1 == x.2.1

/-- A second arrival of a moon follows the release of the first (R385). -/
def sendWaiting (s : State) (m scope b : Nat) : State :=
  (waitingAt s m scope b).foldl (fun s x =>
    if hasArrived s m scope b then s
    else match sendArrive s m x.1 x.2.1 scope b x.2.2 with
      | some s => s
      | none => settleArrival s (m, x.1, x.2.1, ⟨0, m, scope, b, 0, 0⟩) 0x0504 0) s

/-- Arrivals are released (code 0) or fail with a code, and those that wait behind them follow. -/
def settleArrivals (s : State) (p : ArriveMsg → Bool) (code detail : Nat) : State :=
  let l := s.pack.sent.filter fun e => p e.2.2.2
  let s := l.foldl (fun s e => settleArrival s e code detail) s
  l.foldl (fun s e => sendWaiting s e.1 e.2.2.2.scope e.2.2.2.barrier) s

/-- TURN_PLAN_DONE (R331 to R333): the layout is installed, then the barrier or the end. -/
def execTurnPlanDone (m : Nat) (s : State) : Res :=
  let t := getTrain s m
  match t.turn with
  | none => .next s
  | some (c, learn, _) =>
    if !(isUp s && t.phase == .transforming) then .next s
    else match planFailed s m 33 with
      | some _ => .next (failTurnPlan s m c)
      | none =>
        if !planComplete s m 33 then .next s
        else
          let s1 := dropPlan s m 33
          let put := if learn then installPipe s1 m c.pipeRec else .ok (installDerived s1 m c.slot)
          match put with
          | .error e => if e.code = 0 then .next s else .next (failTurnPlan s1 m c)
          | .ok s =>
            if c.barrier = 0xFFFFFFFF then .next (finishTurn s m true)
            else
              let s := modTrain s m fun t => { t with phase := .barrier }
              match sendArrive s m 33 0 0 c.barrier s.orbit.now with
              | some s => .next s
              | none => .next (finishTurn s m false)

/-- TURN_TIMEOUT (R333): live sequences remain after TIMEOUT without END_LIVE; L1 is undone. -/
def execTurnTimeout (m : Nat) (s : State) : Res :=
  let t := getTrain s m
  match t.turn with
  | none => .next s
  | some (c, learn, _) =>
    if isUp s && t.phase == .draining && learn && !c.endLive && !(slotSeqs (getServe s m) c.slot).isEmpty &&
        decide (t.turnAt + c.timeoutMs * 1000000 ≤ s.orbit.refNs) then
      .next (endTurn (gateSlot s m c.slot false) m c.turnId 4)
    else .next s

/-! ## Entropy sources (R325) -/

/-- ENTROPY_TEST_FAIL (R325): the die seeds from another die's source from now on; with none left the module enters Fault-Stop. -/
def execEntropyTestFail (die : Nat) (s : State) : Res :=
  if !isUp s && s.power.phase != .boot then .next s
  else
    let s := { s with sec := { s.sec with entropyBad := addNum s.sec.entropyBad die } }
    let s := raisePf (incA s 0x9300 die 1) 0x0906 [die]
    if (upTo 4).all fun d => s.sec.entropyBad.contains d then .next (faultStop s .entropy) else .next s

end Sys2Proof.Machine
end

