-- ==== Sys2Proof/Machine/Fetch.lean ====
section
/-! DEFINITION. Weight bundles and the fetch engine (R337 to R349): the rows LOAD_BASE, LOAD_OVERLAY, LOAD_VARIANT, ATTACH_SHARED, DROP_SHARED,
FETCH_CANCEL, FETCH_HEADER_READ, FETCH_CHUNK_DONE, BAR4_WRITE, BAR4_BUFFER_FULL, BAR4_TIMEOUT. -/

namespace Sys2Proof.Machine

/-! ## Bundles (R337, R338) -/

/-- A bundle header (R338). -/
structure BundleHdr where
  kind   : Nat
  log2   : Nat
  image  : Nat
  chunks : Nat
  vocab  : Nat
  layers : Nat
  span   : Nat
  kvTpp  : Nat
  maxCtx : Nat
  placeOff : Nat
  placeCount : Nat
  base   : Bytes
  keyId  : Bytes
  deriving DecidableEq, Repr

/-- Parse a header. -/
def parseHdr (b : Bytes) : BundleHdr :=
  { kind := field b 6 1, log2 := field b 7 1, image := field b 8 8, chunks := field b 0x10 4, vocab := field b 0x14 4, layers := field b 0x18 2
    span := field b 0x1A 1, kvTpp := field b 0x1C 4, maxCtx := field b 0x20 4, placeOff := field b 0x24 4, placeCount := field b 0x28 4
    base := slice b 0x40 64, keyId := slice b 0x80 64 }

/-- Every byte is 0. -/
def allZero (b : Bytes) : Bool := b.all fun x => x == 0

/-- IMAGE_OFF for a number of chunks (R337). -/
def imageOff (chunks : Nat) : Nat := (4883 + 64 * chunks + 4095) / 4096 * 4096

/-- The slot values of a KIND 1 header are in the ranges of R265 and R338. -/
def slotFieldsOk (h : BundleHdr) : Bool :=
  decide (1 ≤ h.vocab ∧ h.vocab ≤ 262144) && decide (1 ≤ h.layers ∧ h.layers ≤ 1024) && decide (1 ≤ h.kvTpp ∧ h.kvTpp ≤ 65536) &&
  decide (1 ≤ h.maxCtx ∧ h.maxCtx ≤ 2 ^ 24) &&
  (if h.span = 1 then h.placeOff % 16 == 0 && decide (1 ≤ h.placeCount ∧ h.placeCount ≤ 64) && decide (h.placeOff + 16 * h.placeCount ≤ h.image)
   else h.placeCount == 0)

/-- HEADER_BAD (R338, R343): `kinds` are those the operation takes, `slot` tells that the bundle becomes a version or shared base. -/
def headerBad (b : Bytes) (c : FetchCmd) (kinds : List Nat) : Bool :=
  let h := parseHdr b
  field b 0 4 != 0x42574743 || field b 4 2 != 1 || !kinds.contains h.kind || !(decide (20 ≤ h.log2 ∧ h.log2 ≤ 26)) ||
  !(decide (1 ≤ h.image ∧ h.image ≤ 2 ^ 40)) || h.chunks != (h.image + 2 ^ h.log2 - 1) / 2 ^ h.log2 || decide (1 < h.span) ||
  (h.kind == 1 && (!allZero h.base || !slotFieldsOk h)) || (h.kind != 1 && (!allZero (slice b 0x14 7) || !allZero (slice b 0x1C 16))) ||
  c.bundleBytes != imageOff h.chunks + h.image

/-- Keys of the trust list (R340, R353): an entry of zeros is empty. -/
def trustKeys (s : State) : List Bytes := ((upTo 16).map fun k => tget s.dict.blobs [] (pkey 0xA010 k)).filter fun b => !allZero b

/-- The key a bundle of a kind must be signed by, when one carries KEY_ID (R340). -/
def bundleKey (s : State) (m : Nat) (h : BundleHdr) : Option Bytes :=
  let l := if h.kind = 1 then trustKeys s else [tget s.dict.blobs [] (pkey 0xA011 m)].filter fun b => !allZero b
  l.find? fun k => Config.sha3 k == h.keyId

/-- The version a bundle's BASE_DIGEST must name (R345). -/
def baseMatches (x : Slot) (op : FetchOp) (h : BundleHdr) : Bool :=
  match op with
  | .loadOverlay => x.versions.any fun v => v.kind == .waitingOverlay && v.manifest == h.base
  | .loadVariant => x.versions.any fun v => (v.kind == .current || v.kind == .staged) && v.manifest == h.base
  | _ => true

/-- VARIANT_BAD (R291, R343). -/
def variantBad (s : State) (m : Nat) (x : Slot) (op : FetchOp) (h : BundleHdr) : Bool :=
  if op = .loadVariant then
    let span := ((x.versions.find? fun v => (v.kind == .current || v.kind == .staged) && v.manifest == h.base).map Version.span).getD false
    if h.kind = 3 then span || decide (64 < (moonCores s m).length) else !span
  else false

/-- The checks of F2 in code order (R343, R344), 0 when all pass. -/
def bundleCode (s : State) (m : Nat) (j : FetchJob) (header hashes signature : Bytes) : Nat :=
  let h := parseHdr header
  let x := getSlot s m j.cmd.slot
  let kinds := match j.op with | .loadBase => [1] | .loadOverlay => [2] | .loadVariant => [3, 4] | _ => []
  if headerBad header j.cmd kinds then 5
  else match bundleKey s m h with
    | none => 6
    | some k =>
      if !Config.dsaVerify k (Config.sha3 (header ++ hashes)) signature then 7
      else if !baseMatches x j.op h then 8
      else if variantBad s m x j.op h then 0xB else 0

/-! ## Commands (R341 to R343) -/

/-- A slot can take one more version (R265, R343). -/
def slotFull (x : Slot) : Bool := decide (2 ≤ x.versions.length) || x.versions.any fun v => v.kind == .waitingOverlay

/-- OP_BAD (R342, R343). -/
def fetchOpBad (op : FetchOp) (who : Who) (m : Nat) (c : FetchCmd) : Bool :=
  let slotless := op == .loadBase && c.slot == 0xFF
  c.rsv || (c.bar4 && (who.role == .tenant || !(decide (1 ≤ c.timeoutMs ∧ c.timeoutMs ≤ 60000)))) ||
  (c.share && (op != .loadBase || m != 0 || c.slot != 0xFF)) || (c.writable && !(slotless && !c.share)) ||
  (c.awaitOverlay && ((op != .loadBase && op != .attachShared) || slotless)) ||
  (op != .dropShared && !slotless && decide (15 < c.slot)) || decide (15 < c.sb) || (op == .loadVariant && decide (1023 < c.variant)) ||
  (op == .dropShared && m != 0) ||
  (op != .dropShared && (c.targetMa % pageBytes != 0 || decide (c.targetMa < hbmRegion ∨ hbmEnd ≤ c.targetMa)))

/-- STATE_BAD (R343). -/
def fetchStateBad (s : State) (op : FetchOp) (m : Nat) (c : FetchCmd) : Bool :=
  let x := getSlot s m c.slot
  let b := tget s.fetch.shared SharedBase.reset c.sb
  (getMoon s m).state == .free ||
  match op with
  | .loadBase => (c.slot != 0xFF && slotFull x) || (c.share && b.state != 0)
  | .loadOverlay => !(x.versions.any fun v => v.kind == .waitingOverlay)
  | .loadVariant => thas x.variants c.variant
  | .attachShared => slotFull x || b.state != 2
  | .dropShared => b.state != 2
  | .cancel => false

/-- A new version enters a slot (R345): waiting for its overlay, CURRENT in a slot without one, STAGED in a READY slot. -/
def addVersion (s : State) (m k : Nat) (v : Version) (await_ : Bool) (prev : SlotState) : State :=
  let x := getSlot s m k
  let ready := x.state == .ready
  let kind : VersionKind := if await_ then .waitingOverlay else if ready then .staged else .current
  let st : SlotState := if await_ then (if x.state = .loading then prev else x.state) else .ready
  setSlot s m k { x with
    state := st, lastVersion := x.lastVersion + 1, versions := x.versions ++ [{ v with number := x.lastVersion + 1, kind := kind }]
    registration := some ⟨v.vocab, v.layers, v.kvTpp, v.maxCtx, v.span⟩ }

/-- A version of a header (R345). -/
def hdrVersion (h : BundleHdr) (manifest : Bytes) (sb : Option Nat) (pages : List Nat) (followers : List (Nat × Nat × Nat)) : Version :=
  { number := 0, kind := .current, manifest := manifest, overlay := [], derived := false, shared := sb, vocab := h.vocab, layers := h.layers
    kvTpp := h.kvTpp, maxCtx := h.maxCtx, span := h.span == 1, pages := pages, followers := followers }

/-- Bytes at a moon address whatever the permissions of its pages (F4, F5). -/
def readRaw (s : State) (m fuel ma n : Nat) : Bytes :=
  match fuel with
  | 0 => []
  | fuel + 1 =>
    if n = 0 then []
    else
      let k := linePiece ma n
      (match homeRaw s m ma with | some h => homeRead s h k | none => List.replicate k 0) ++ readRaw s m fuel (ma + k) (n - k)

/-- The followers of a placement record (R293, R338). -/
def followersAt (s : State) (m target : Nat) (h : BundleHdr) : List (Nat × Nat × Nat) :=
  if h.span = 1 then
    let b := readRaw s m (h.placeCount + 2) (target + h.placeOff) (16 * h.placeCount)
    (upTo h.placeCount).map fun i => (field b (16 * i) 8, field b (16 * i + 8) 1, field b (16 * i + 9) 1)
  else []

/-- ATTACH_SHARED (R345, R347): the shared pages are mapped read-only and become a version of the slot; a code on failure. -/
def attach (s : State) (m : Nat) (c : FetchCmd) : Nat × State :=
  let b := tget s.fetch.shared SharedBase.reset c.sb
  let i0 := (c.targetMa - hbmRegion) / pageBytes
  let idx := (upTo b.pages.length).map fun i => i0 + i
  if hbmEnd < c.targetMa + b.pages.length * pageBytes then (1, s)
  else if idx.any fun i => (entryOf s m i).isSome then (4, s)
  else
    let s := (idx.zip b.pages).foldl (fun s e => match entryOf s 0 e.2 with
      | some p => setEntry s m e.1 { p with r := true, w := false, owner := 0 }
      | none => s) s
    let s := { s with fetch := { s.fetch with shared := tset s.fetch.shared c.sb { b with attached := b.attached + 1 } } }
    let h := parseHdr b.header
    (0, addVersion s m c.slot (hdrVersion h b.manifest (some c.sb) idx (followersAt s m c.targetMa h)) c.awaitOverlay
      (getSlot s m c.slot).state)

/-- DROP_SHARED (R342, R347): SHARED_BUSY while it is mapped. -/
def dropShared (s : State) (c : FetchCmd) : Nat × State :=
  let b := tget s.fetch.shared SharedBase.reset c.sb
  if b.attached ≠ 0 then (0x11, s)
  else
    let s := unmapPages s 0 b.pages
    (0, { s with fetch := { s.fetch with shared := tdel s.fetch.shared c.sb } })

/-- F1 of a load (R344). -/
def startFetch (s : State) (op : FetchOp) (who : Who) (m : Nat) (c : FetchCmd) : State :=
  let x := getSlot s m c.slot
  let job : FetchJob :=
    { op := op, cmd := c, who := who, headerOk := false, header := [], hashes := [], manifest := [], verified := [], retried := []
      granted := [], prevSlot := x.state, cancel := false, slotGone := false, received := [], pre := [], fullAt := s.orbit.refNs }
  let s := if c.slot < 16 ∧ (x.state = .empty ∨ x.state = .evicted) then setSlot s m c.slot { x with state := .loading } else s
  let s := { s with fetch := { s.fetch with
    jobs := tset s.fetch.jobs m job
    status := tset s.fetch.status m (BitVec.ofNat 32 (2 + 256 * fetchOpCode op))
    shared := if c.share then tset s.fetch.shared c.sb { SharedBase.reset with state := 1 } else s.fetch.shared
    bar4Owner := if c.bar4 then some m else s.fetch.bar4Owner } }
  setParam s 0x8052 m 0

/-- A FETCH_CMD write other than CANCEL (R341 to R344). -/
def fetchCmd (op : FetchOp) (who : Who) (m : Nat) (c : FetchCmd) (s : State) : Except Nat State :=
  if thas s.fetch.jobs m then .error 8
  else if fetchOpBad op who m c then .ok (fetchStatus s m who op c.fetchId 1)
  else if fetchStateBad s op m c then .ok (fetchStatus s m who op c.fetchId 2)
  else match op with
    | .attachShared => let (k, t) := attach s m c; .ok (fetchStatus t m who op c.fetchId k)
    | .dropShared => let (k, t) := dropShared s c; .ok (fetchStatus t m who op c.fetchId k)
    | _ => if c.bar4 && s.fetch.bar4Owner.isSome then .ok (fetchStatus s m who op c.fetchId 0xF) else .ok (startFetch s op who m c)

/-- FETCH_CMD CANCEL (R342, R343): OP_BAD with a reserved field, STATE_BAD with no fetch running; a fetch that runs goes on. -/
def fetchCancelCmd (who : Who) (m : Nat) (c : FetchCmd) (s : State) : Except Nat State :=
  match tfind s.fetch.jobs m with
  | none => .ok (fetchStatus s m who .cancel c.fetchId (if c.rsv then 1 else 2))
  | some j => .ok (if c.rsv then fetchStatus s m who .cancel c.fetchId 1 else { s with fetch := { s.fetch with jobs := tset s.fetch.jobs m { j with cancel := true } } })

/-- LOAD_BASE (R342). -/
def execLoadBase (who : Who) (m : Nat) (c : FetchCmd) (s : State) : Res :=
  let m := effMoon who m; command s who 0x8050 m (fetchCmd .loadBase who m c)

/-- LOAD_OVERLAY (R342). -/
def execLoadOverlay (who : Who) (m : Nat) (c : FetchCmd) (s : State) : Res :=
  let m := effMoon who m; command s who 0x8050 m (fetchCmd .loadOverlay who m c)

/-- LOAD_VARIANT (R342). -/
def execLoadVariant (who : Who) (m : Nat) (c : FetchCmd) (s : State) : Res :=
  let m := effMoon who m; command s who 0x8050 m (fetchCmd .loadVariant who m c)

/-- ATTACH_SHARED (R347). -/
def execAttachShared (who : Who) (m : Nat) (c : FetchCmd) (s : State) : Res :=
  let m := effMoon who m; command s who 0x8050 m (fetchCmd .attachShared who m c)

/-- DROP_SHARED (R342). -/
def execDropShared (who : Who) (m : Nat) (c : FetchCmd) (s : State) : Res :=
  let m := effMoon who m; command s who 0x8050 m (fetchCmd .dropShared who m c)

/-- FETCH_CANCEL (R342). -/
def execFetchCancel (who : Who) (m : Nat) (c : FetchCmd) (s : State) : Res :=
  let m := effMoon who m; command s who 0x8050 m (fetchCancelCmd who m c)

/-! ## F2 and F3 (R344) -/

/-- Change the fetch of a moon. -/
def modJob (s : State) (m : Nat) (j : FetchJob) : State := { s with fetch := { s.fetch with jobs := tset s.fetch.jobs m j } }

/-- A position lies in one of the ranges. -/
def covered (l : List (Nat × Nat)) (a : Nat) : Bool := l.any fun r => decide (r.1 ≤ a) && decide (a < r.1 + r.2)

/-- Every byte of a range lies in one of the ranges. -/
def covers (l : List (Nat × Nat)) (fuel a n : Nat) : Bool :=
  match fuel with
  | 0 => n == 0
  | fuel + 1 =>
    if n = 0 then true
    else match l.find? fun r => decide (r.1 ≤ a) && decide (a < r.1 + r.2) with
      | none => false
      | some r => let k := Nat.min n (r.1 + r.2 - a); covers l fuel (a + k) (n - k)

/-- Two ranges meet. -/
def meets (a : Nat × Nat) (b : Nat × Nat) : Bool := decide (a.1 < b.1 + b.2) && decide (b.1 < a.1 + a.2)

/-- BAR4 bytes at hand before F2: those taken, and those waiting in FULL buffers (R349). -/
def bar4Ranges (s : State) (j : FetchJob) : List (Nat × Nat) := j.received ++ (s.fetch.bar4.filter fun e => e.2.full).map fun e => (e.2.offset, e.2.len)

/-- The bundle's first `n` bytes as they arrived through BAR4. -/
def bar4Bytes (s : State) (j : FetchJob) (n : Nat) : Bytes :=
  let m := (s.fetch.bar4.filter fun e => e.2.full).foldl (fun m e =>
    (e.2.bytes.filter fun c => decide (c.1 < e.2.len)).foldl (fun m c => memSet m (e.2.offset + c.1) c.2) m) j.pre
  memRead m 0 n

/-- The parts of a bundle before its image: from host memory as they came, or from the BAR4 window once all have arrived. -/
def bundleParts (s : State) (j : FetchJob) (header hashes signature : Bytes) : Option (Bytes × Bytes × Bytes) :=
  if !j.cmd.bar4 then
    let c := field header 0x10 4
    some (slice header 0 256, slice hashes 0 (64 * c), slice signature 0 4627)
  else
    let l := bar4Ranges s j
    if !covers l (l.length + 1) 0 256 then none
    else
      let c := field (bar4Bytes s j 256) 0x10 4
      if !covers l (l.length + 1) 0 (Nat.min (imageOff c) j.cmd.bundleBytes) then none
      else
        let b := bar4Bytes s j (imageOff c)
        some (slice b 0 256, slice b 256 (64 * c), slice b (256 + 64 * c) 4627)

/-- F3 (R344): the pages, evicting under R295, granted unreadable; a code on failure. -/
def fetchPages (s : State) (m : Nat) (j : FetchJob) (image : Nat) : Nat × State × List Nat :=
  let n := (image + pageBytes - 1) / pageBytes
  let i0 := (j.cmd.targetMa - hbmRegion) / pageBytes
  let idx := (upTo n).map fun i => i0 + i
  let s := evictFor s m n 17
  if unmappedPages s m < n then (3, s, [])
  else if decide (hbmEnd < j.cmd.targetMa + n * pageBytes) || idx.any (fun i => (entryOf s m i).isSome) then (4, s, [])
  else
    let (t, l) := grantPages s m .granted (mapStacks s m 0xFF) n
    if l.length < n then (3, s, []) else (0, enterPages t m false false (idx.zip l), idx)

/-- A fetch at a boundary between chunks: CANCEL and SLOT_GONE end it (R342, R346), and so does Bus Master Enable 0 when it would read host memory
(R425). -/
def atChunkEdge (s : State) (m : Nat) (j : FetchJob) : Option State :=
  if j.slotGone then some (endFetch s m 0xD) else if j.cancel then some (endFetch s m 0xC)
  else if !j.cmd.bar4 && !(getFn s (hostFn s m)).busMaster then some (endFetch s m (hostDma 6)) else none

/-- FETCH_HEADER_READ (R344): F2 and F3. -/
def execFetchHeaderRead (m : Nat) (header hashes signature : Bytes) (s : State) : Res :=
  match tfind s.fetch.jobs m with
  | none => .next s
  | some j =>
    if !isUp s || j.headerOk then .next s
    else match atChunkEdge s m j with
      | some s => .next s
      | none => match bundleParts s j header hashes signature with
        | none => .next s
        | some (hd, hs, sg) =>
          let c := bundleCode s m j hd hs sg
          if c ≠ 0 then .next (endFetch s m c)
          else
            let (c, s, idx) := fetchPages s m j (parseHdr hd).image
            if c ≠ 0 then .next (endFetch s m c)
            else .next (modJob s m { j with headerOk := true, header := hd, hashes := hs, manifest := Config.sha3 (hd ++ hs), granted := idx })

/-! ## F4 and F5 (R344, R345) -/

/-- Bytes of chunk `i` (R337). -/
def chunkLen (h : BundleHdr) (i : Nat) : Nat := Nat.min (2 ^ h.log2) (h.image - i * 2 ^ h.log2)

/-- The next chunk to verify: in order from host memory; through BAR4 the lowest whose bytes have all been placed (R349). -/
def nextChunk (j : FetchJob) : Option Nat :=
  let h := parseHdr j.header
  let o := imageOff h.chunks
  (upTo h.chunks).find? fun i =>
    !j.verified.contains i && (!j.cmd.bar4 || covers j.received (j.received.length + 1) (o + i * 2 ^ h.log2) (chunkLen h i))

/-- The image's pages become readable, and writable when the command says so (F5). -/
def openPages (s : State) (m : Nat) (l : List Nat) (w : Bool) : State :=
  l.foldl (fun s i => match entryOf s m i with
    | some e => setEntry s m i { e with r := true, w := w }
    | none => s) s

/-- Activation (R345). -/
def activate (s : State) (m : Nat) (j : FetchJob) : State :=
  let h := parseHdr j.header
  let k := j.cmd.slot
  match j.op with
  | .loadBase =>
    if j.cmd.share then
      let b : SharedBase := { state := 2, manifest := j.manifest, pages := j.granted, attached := 0, header := j.header }
      { s with fetch := { s.fetch with shared := tset s.fetch.shared j.cmd.sb b } }
    else if k = 0xFF then s
    else addVersion s m k (hdrVersion h j.manifest none j.granted (followersAt s m j.cmd.targetMa h)) j.cmd.awaitOverlay j.prevSlot
  | .loadOverlay =>
    let x := getSlot s m k
    let ready := x.state == .ready
    setSlot s m k { x with state := .ready, versions := x.versions.map fun v =>
      if v.kind = .waitingOverlay then { v with kind := if ready then .staged else .current, overlay := j.manifest, pages := v.pages ++ j.granted }
      else v }
  | .loadVariant =>
    let x := getSlot s m k
    setSlot s m k { x with state := if x.state = .loading then j.prevSlot else x.state, variants := tset x.variants j.cmd.variant ⟨h.kind == 4, j.manifest, j.granted, false, false⟩ }
  | _ => s

/-- F5 and F6: the image becomes visible and its use begins; FETCH_DONE. BASE_DIGEST must still name the version it belongs to (R345). -/
def finishFetch (s : State) (m : Nat) (j : FetchJob) : State :=
  if !baseMatches (getSlot s m j.cmd.slot) j.op (parseHdr j.header) then endFetch s m 8 else
  let s := activate (openPages s m j.granted j.cmd.writable) m j
  let s := incA s 0x8053 m j.cmd.bundleBytes
  let s := { s with fetch := { s.fetch with
    jobs := tdel s.fetch.jobs m
    bar4Owner := if j.cmd.bar4 then none else s.fetch.bar4Owner, bar4 := if j.cmd.bar4 then [] else s.fetch.bar4 } }
  fetchStatus s m j.who j.op j.cmd.fetchId 0

/-- The engine's next chunk is moon `m`'s: no fetch that could go on stands between the moon served last and it, in ascending order (R346). -/
def fetchTurn (s : State) (m : Nat) : Bool :=
  let far (x : Nat) : Nat := (x + 63 - s.fetch.served) % 64
  !(s.fetch.jobs.any fun e => decide (far e.1 < far m) && e.2.headerOk && (e.2.slotGone || e.2.cancel || (nextChunk e.2).isSome))

/-- FETCH_CHUNK_DONE (R344, R349): a chunk is hashed, compared and stands in the pages; after the last, the image is activated. -/
def execFetchChunkDone (m : Nat) (chunk : Bytes) (s : State) : Res :=
  match tfind s.fetch.jobs m with
  | none => .next s
  | some j =>
    if !isUp s || !j.headerOk || !fetchTurn s m then .next s
    else match atChunkEdge s m j with
      | some s => .next s
      | none => match nextChunk j with
        | none => .next s
        | some i =>
          let h := parseHdr j.header
          let ma := j.cmd.targetMa + i * 2 ^ h.log2
          let n := chunkLen h i
          let s := { s with fetch := { s.fetch with served := m } }
          let b := if j.cmd.bar4 then readRaw s m (n / 64 + 2) ma n else chunk.take n
          if Config.sha3 b ≠ slice j.hashes (64 * i) 64 then
            .next (if j.retried.contains i then endFetch s m 9 else modJob s m { j with retried := i :: j.retried })
          else
            let s := if j.cmd.bar4 then s else writeHomes s m (n / 64 + 2) ma b
            let j := { j with verified := addNum j.verified i }
            let s := setParam (modJob s m j) 0x8052 m j.verified.length
            if j.verified.length = h.chunks then .next (finishFetch s m j) else .next s

/-! ## The BAR4 window (R349) -/

/-- The 16 bytes of a buffer descriptor. -/
def bufBytes (b : Bar4Buf) : Bytes := leBytes 8 b.offset ++ leBytes 4 b.len ++ leBytes 4 (if b.full then 1 else 0)

/-- Bytes with `d` written over them from offset `o`. -/
def overwrite (b : Bytes) (o : Nat) (d : Bytes) : Bytes := (b.take o ++ d ++ b.drop (o + d.length)).take b.length

/-- Buffer `i` of the window. -/
def getBuf (s : State) (i : Nat) : Bar4Buf := tget s.fetch.bar4 Bar4Buf.reset i

/-- Set buffer `i`. -/
def setBuf (s : State) (i : Nat) (b : Bar4Buf) : State := { s with fetch := { s.fetch with bar4 := tset s.fetch.bar4 i b } }

/-- A dropped write or piece counts (R349). -/
def bar4Drop (s : State) : State := incA s 0x8056 0 1

/-- The part of a write at `o` that falls into the `n` bytes from `base` on: its place there, its bytes. -/
def overlap (o : Nat) (d : Bytes) (base n : Nat) : Nat × Bytes := (o - base, (d.drop (base - o)).take (base + n - Nat.max o base))

/-- Bytes written into descriptor `i` of moon `m`'s window; a buffer that is FULL restarts the timeout (R349). -/
def writeDesc (s : State) (m i o : Nat) (b : Bytes) : State :=
  let d := overwrite (bufBytes (getBuf s i)) o b
  let full := field d 12 4 == 1
  let s := setBuf s i { getBuf s i with offset := field d 0 8, len := field d 8 4, full := full }
  match tfind s.fetch.jobs m with
  | some j => if full then modJob s m { j with fullAt := s.orbit.refNs } else s
  | none => s

/-- BAR4_WRITE (R349, R410): descriptors and buffers of an open window; dropped and counted while it is IDLE, as it is before Ready and in
Fault-Stop. -/
def execBar4Write (offset : Nat) (data : Bytes) (s : State) : Res :=
  if dead s then .next s
  else match (if isUp s then s.fetch.bar4Owner else none) with
    | none => .next (bar4Drop s)
    | some m =>
      let s := (upTo 63).foldl (fun s i => let p := overlap offset data (0x400000 * (i + 1)) 0x400000
        if p.2.isEmpty then s else setBuf s i { getBuf s i with bytes := memWrite (getBuf s i).bytes p.1 p.2 }) s
      .next ((upTo 63).foldl (fun s i => let p := overlap offset data (0x800 + 16 * i) 16
        if p.2.isEmpty then s else writeDesc s m i p.1 p.2) s)

/-- Image offset as far as it is known: from the checked header, from the header's bytes once they are taken, or the least there can be. -/
def bar4ImageOff (j : FetchJob) : Nat :=
  if j.headerOk then imageOff (parseHdr j.header).chunks
  else if covers j.received (j.received.length + 1) 0x10 4 then imageOff (field (memRead j.pre 0 0x14) 0x10 4) else 8192

/-- BAR4_BUFFER_FULL (R349): a FULL buffer is taken; image bytes wait until F2 has passed. -/
def execBar4BufferFull (i : Nat) (s : State) : Res :=
  match s.fetch.bar4Owner with
  | none => .next s
  | some m =>
    match tfind s.fetch.jobs m with
    | none => .next s
    | some j =>
      let b := getBuf s i
      if !isUp s || !b.full then .next s
      else
        let r := (b.offset, b.len)
        if b.len = 0 ∨ 0x400000 < b.len ∨ j.cmd.bundleBytes < b.offset + b.len ∨ j.received.any (meets r) then
          .next (bar4Drop (setBuf s i { b with full := false }))
        else
          let o := bar4ImageOff j
          if !j.headerOk && decide (o < b.offset + b.len) then .next s
          else
            let bytes := memRead b.bytes 0 b.len
            let cut := Nat.min b.len (o - b.offset)
            let j := { j with received := j.received ++ [r], pre := if cut = 0 then j.pre else memWrite j.pre b.offset (bytes.take cut) }
            let rest := bytes.drop cut
            let s := if rest.isEmpty then s
              else writeHomes s m (rest.length / 64 + 2) (j.cmd.targetMa + (b.offset + cut - o)) rest
            .next (modJob (setBuf s i { b with full := false }) m j)

/-- BAR4_TIMEOUT (R349): bytes are missing and no buffer has become FULL in time. -/
def execBar4Timeout (m : Nat) (s : State) : Res :=
  match tfind s.fetch.jobs m with
  | none => .next s
  | some j =>
    let l := bar4Ranges s j
    if isUp s && j.cmd.bar4 && !covers l (l.length + 1) 0 j.cmd.bundleBytes &&
        decide (j.fullAt + j.cmd.timeoutMs * 1000000 ≤ s.orbit.refNs) then .next (endFetch s m 0x10)
    else .next s

end Sys2Proof.Machine
end

