-- ==== Sys2Proof/Machine/Links.lean ====
section
/-! DEFINITION. Link ports and SXL2 (R354 to R376): bring-up and modes, flits, credits, chunks of SEND transfers, transit, retraining, with the
rows LINK_SIGNAL_DETECT, LINK_UP, BRING_UP_TIMEOUT, DATA, CHUNK_HDR, DELIVERED, NACK, CONTROL, CREDIT, CREDIT_SYNC, SEND_CHUNK_START, RETRAIN,
RETRAIN_DONE, DISABLE, ENABLE, FORCE_112, AUTO, LINK_TIMEOUT, LINK_STAT_READ. -/

namespace Sys2Proof.Machine

/-- The ports work: from start-up step 4 on, and in Fault-Stop, where every moon is FREE and every chunk is refused with MOON_GONE (R355, R471). -/
def linksLive (s : State) : Bool := !dead s && (s.power.phase == .up || s.power.phase == .boot || s.power.phase == .faultStop)

/-- Orbit, or the module reference while orbit is UNLOCKED (R374). -/
def orbitOrRef (s : State) : Nat := if s.orbit.state = .unlocked then s.orbit.refNs else s.orbit.now

/-! ## Modes (R356, R357) -/

/-- Lane `i` is fit for 224 Gb/s (R357). -/
def fit224 (c : ChanMeas) (i : Nat) : Bool := decide (c.loss224.getD i 0xFFFF ≤ 400)

/-- Lane `i` is fit for 112 Gb/s (R357). -/
def fit112 (c : ChanMeas) (i : Nat) : Bool := decide (c.loss112.getD i 0xFFFF ≤ 320)

/-- The mode of R357: 224 Gb/s or not, and the width; none for row 7. -/
def linkMode (c : ChanMeas) (only112 : Bool) : Option (Bool × Nat) :=
  let lo := [0, 1, 2, 3]
  let hi := [4, 5, 6, 7]
  if !only112 && (upTo 8).all (fit224 c) then some (true, 8)
  else if (upTo 8).all (fit112 c) then some (false, 8)
  else if !only112 && lo.all (fit224 c) then some (true, 4)
  else if !only112 && hi.all (fit224 c) then some (true, 4)
  else if lo.all (fit112 c) || hi.all (fit112 c) then some (false, 4)
  else none

/-- At width 4 the first row of R357 that applies is one of lanes 4 to 7. -/
def linkHigh (c : ChanMeas) (only112 : Bool) : Bool :=
  let lo := [0, 1, 2, 3]
  let hi := [4, 5, 6, 7]
  match linkMode c only112 with
  | some (true, 4) => !lo.all (fit224 c)
  | some (false, 4) => !lo.all (fit112 c) && hi.all (fit112 c)
  | _ => false

/-- Estimated channel length in 0.1 m, floored at 0 (R356): 10 ns are 1 m, so 1 ns over 180 is 0.1 m. -/
def linkLength (c : ChanMeas) : Nat := c.rttNs - 180

/-- The channel is of class COPPER (R356): 2.5 m or less. -/
def isCopper (c : ChanMeas) : Bool := decide (linkLength c ≤ 25)

/-- A training failure lies less than 10 minutes back, on the clock that was in use when it happened (R374). -/
def failRecent (s : State) (e : Nat) : Bool :=
  decide ((if e % 2 = 1 then s.orbit.now else s.orbit.refNs) < e / 2 + 600000000000)

/-- Training failures of a port in the last 10 minutes, with one now (R374). -/
def failsNow (s : State) (p : Nat) : List Nat := (getPort s p).failTimes.filter (failRecent s) ++ [rowTime s]

/-- A training failure (R355, R374): counted; the third in 10 minutes puts the port into FAILED, otherwise it returns to T1. -/
def trainFail (s : State) (p : Nat) : State :=
  let l := failsNow s p
  let s := incA (modPort s p fun x => { x with phase := .down, failTimes := l, repeat112 := false, downAt := s.orbit.refNs }) 0x5040 p 1
  if l.length < 3 then s
  else setSvc (raisePf (modPort s p fun x => { x with phase := .failed, resume := false }) 0x0503 [p]) 2

/-- T2 and T3 of a bring-up or retraining (R355 to R357): the measurement is kept and a mode chosen. -/
def chooseMode (s : State) (p : Nat) (c : ChanMeas) : Option State :=
  let x := getPort s p
  match linkMode c (x.forced112 || x.repeat112) with
  | none => none
  | some (k, w) => some (setPort s p { x with meas := some c, measAt := s.orbit.now, class224 := k, width := w
                                              high := linkHigh c (x.forced112 || x.repeat112) })

/-- LINK_SIGNAL_DETECT (R355): T1 to T3. -/
def execLinkSignalDetect (p : Nat) (c : ChanMeas) (s : State) : Res :=
  let x := getPort s p
  if !(linksLive s && x.enabled && x.phase == .down) then .next s
  else
    let s := setPort s p { x with phase := .training, t1 := s.orbit.refNs, protoRefused := false, conflict := false }
    match chooseMode s p c with
    | some s => .next s
    | none => .next (trainFail s p)

/-! ## Waiting flits (R360, R363) -/

/-- The round-robin queue of a waiting flit: 0 for VC1 and traffic of other modules, 1 + m for moon m's own. -/
def turnOf (s : State) (f : Flit) : Nat := if f.vc = 1 ∨ f.srcFabric ≠ param s 0x5010 0 then 0 else 1 + f.srcMoon

/-- Flits a round-robin queue sends in its turn: a moon's LINK_SHARE, at least 1, and 1 for VC1, whose weight the rule leaves open (R363) [59]. -/
def turnWeight (s : State) (k : Nat) : Nat := if k = 0 then 1 else Nat.max 1 (getMoon s (k - 1)).linkShare

/-- The first waiting flit of its channel that the port may send, of round-robin queue `k`, or of VC0 (none). -/
def readyFlit (s : State) (x : Port) (k : Option Nat) : Option OutFlit :=
  x.queue.find? fun o =>
    (match k with | none => o.flit.vc == 0 | some k => o.flit.vc != 0 && turnOf s o.flit == k) && x.maySend o.type o.flit &&
    (x.queue.find? fun q => sameQueue q.flit o.flit) == some o

/-- The waiting flit that a port sends next: VC0 first, then VC1 and the moons' VC2 traffic round-robin by weight (R363); with the turn then. -/
def nextFlit (s : State) (x : Port) : Option (OutFlit × (Nat × Nat)) :=
  match readyFlit s x none with
  | some o => some (o, x.turn)
  | none =>
    match (if x.turn.2 < turnWeight s x.turn.1 then readyFlit s x (some x.turn.1) else none) with
    | some o => some (o, (x.turn.1, x.turn.2 + 1))
    | none => ((upTo 65).map fun i => (x.turn.1 + 1 + i) % 65).findSome? fun k => (readyFlit s x (some k)).map fun o => (o, (k, 1))

/-- Send a port's waiting flits while credit and room allow (R360, R363). -/
def drainPort (fuel : Nat) (s : State) (p : Nat) : State :=
  match fuel with
  | 0 => s
  | fuel + 1 =>
    let x := getPort s p
    match nextFlit s x with
    | none => s
    | some (o, turn) =>
      let s := sendSpent (setPort s p { x with queue := x.queue.erase o, turn := turn }) p o.type o.flit
      drainPort fuel (match o.back with | some b => sendCredit s b.1 b.2.1 b.2.2 1 | none => s) p

/-- Send what waits at a port (R360, R363). -/
def flushPort (s : State) (p : Nat) : State := drainPort (getPort s p).queue.length s p

/-! ## T6 to T8 (R358, R361, R363) -/

/-- What T6 decides. -/
inductive T6 where
  | up (sxl1 : Bool)
  | conflict
  | refused
  | again
  deriving DecidableEq, Repr

/-- The choice of T6 (R358, R361). -/
def chooseT6 (s : State) (p : Nat) (q : Partner) : T6 :=
  let own := param s 0x5010 0
  if q.sxl2 then (if own = 0xFFFF ∨ own = q.fabric then .conflict else .up false)
  else if q.sxl1 then
    (if (getPort s p).class224 then .again else if param s 0x5004 p = 1 then .up true else .refused)
  else .refused

/-- Flits in transit that came by a port on a channel and wait at others: their credit is out (R363). -/
def waitingFrom (s : State) (p vc : Nat) : Nat :=
  (s.links.ports.map fun e => (e.2.queue.filter fun o => o.back.any fun b => b.1 == p && b.2.1 == vc).length).foldl (· + ·) 0

/-- CREDIT_SYNC on every virtual channel (R355 T7, R363, R373): VC0, VC1, and VC2 for each moon; an SXL1 port, which forwards nothing, has no VC1, and
carries moon 0's VC2. -/
def sendSyncs (s : State) (p : Nat) : State :=
  let s := sendSync s p 0 0 (128 - waitingFrom s p 0 - (getPort s p).owed)
  if (getPort s p).sxl1 then syncMoon s p 0
  else
    let s := sendSync s p 1 0 (384 - waitingFrom s p 1)
    (s.moons.filter fun e => e.2.state != .free).foldl (fun s e => syncMoon s p e.1) s

/-- The SENDs with a flit in a port's retry buffer fail with LINK_LOST (R370, R373). -/
def loseFlits (s : State) (p : Nat) : State :=
  let own := param s 0x5010 0
  let tags := ((getPort s p).retry.filter fun e => (e.1 == 1 || e.1 == 2) && ((getPort s p).sxl1 || e.2.srcFabric == own)).map fun e => e.2.xfer
  (s.links.tx.filter fun x => tags.contains x.xfer && x.sent.any fun c => c.2 == p).foldl (fun s x => failTx s x 0x0306 p) s

/-- Flits queued at a port are lost; those in transit return their credit [59]. -/
def dropQueue (s : State) (p : Nat) : State :=
  (getPort s p).queue.foldl (fun s o => match o.back with | some b => sendCredit s b.1 b.2.1 b.2.2 1 | none => s)
    (modPort s p fun x => { x with queue := [] })

/-- T7: sequence numbers and credit start anew; chunks being received on the port are gone. -/
def freshPort (s : State) (p : Nat) : State :=
  let s := dropQueue (loseFlits s p) p
  let s := modPort s p fun x => { x with txSeq := 0, rxSeq := 0, retry := [], retryRun := 0, retryTimes := [], credit0 := 0, credit1 := 0
                                         credit2 := [], rxUsed := [], heldBy := [], owed := 0, asked := false, wants := [] }
  { s with links := { s.links with rx := s.links.rx.filter fun c => c.port != p } }

/-- DEGRADED (R357): width 4, or 112 Gb/s while the partner offers 224 Gb/s. -/
def degradedBy (x : Port) (q : Partner) : Bool := x.width == 4 || (!x.class224 && q.class224)

/-- Resend the retry buffer (R360, R373). -/
def resend (s : State) (p : Nat) : State :=
  (getPort s p).retry.foldl (fun s e => emit s (.flit p e.1 { e.2 with ack := (getPort s p).rxSeq - 1 })) s

/-- UP (T7 and T8 of R355, D3 and D4 of R373): the results are published; after a retraining with the same partner the retry buffer is resent and
credit stands as held, otherwise both start anew; what waits goes out. -/
def portUp (s : State) (p : Nat) (q : Partner) (sxl1 : Bool) : State :=
  let x := getPort s p
  let same := x.resume && x.partner.map Partner.identity == some q.identity
  let s := if same then s else freshPort s p
  let s := modPort s p fun x => { x with phase := .up, partner := some q, sxl1 := sxl1, degraded := degradedBy x q, repeat112 := false, resume := false,
                                         asked := false, shown := x.meas.map fun c => (c, x.measAt, x.class224, x.width) }
  let s := sendSyncs (if same then resend s p else s) p
  sendParked s

/-- T6 of a bring-up or retraining: what happens short of UP. -/
def t6Short (s : State) (p : Nat) (t : T6) : State :=
  match t with
  | .conflict => raisePf (modPort s p fun x => { x with phase := .down, conflict := true, repeat112 := false, resume := false, downAt := s.orbit.refNs }) 0x0504 [p]
  | .refused => modPort s p fun x => { x with phase := .down, protoRefused := true, repeat112 := false, resume := false, downAt := s.orbit.refNs }
  | .again =>
    let s := modPort s p fun x => { x with repeat112 := true }
    match (getPort s p).meas with
    | some c => (match chooseMode s p c with | some s => s | none => trainFail s p)
    | none => s
  | .up _ => s

/-- What the module announces on a port at T6 (R358): SXL1 beside SXL2 where the port allows it, 224 Gb/s unless the port is held at 112 Gb/s [59]. -/
def ownItems (s : State) (p : Nat) : Partner :=
  let x := getPort s p
  { sxl1 := param s 0x5004 p == 1, sxl2 := true, class112 := true, class224 := !(x.forced112 || x.repeat112)
    identity := Config.moduleIdentity, fabric := param s 0x5010 0, port := p, ports := 32, role := s.pack.role }

/-- The capability exchange of T6 (R358): the module's own items go out. -/
def exchangeItems (s : State) (p : Nat) : State := emit s (.announce p (ownItems s p))

/-- LINK_UP to the host physical function and, by a CONTROL flit, to the module's manager (R355 T8). -/
def tellUp (s : State) (p : Nat) : State :=
  let s := raisePf s 0x0501 [p]
  let parent := param s 0xB001 0
  if s.pack.role = 2 ∨ parent = 0xFFFF then s else sendCtl s .linkUp parent [param s 0x5010 0, p]

/-- LINK_UP (R355, R358): T4 to T8. -/
def execLinkUp (p : Nat) (q : Partner) (s : State) : Res :=
  let x := getPort s p
  if !(linksLive s && x.phase == .training) then .next s
  else
    let s := exchangeItems s p
    match chooseT6 s p q with
    | .up sxl1 =>
      let s := tellUp (portUp s p q sxl1) p
      .next (flushPort (if (getPort s p).degraded then raisePf s 0x0502 [p] else s) p)
    | t => .next (t6Short s p t)

/-- BRING_UP_TIMEOUT (R355): 1 s since T1, or a failed step. -/
def execBringUpTimeout (p : Nat) (s : State) : Res :=
  let x := getPort s p
  if linksLive s && (x.phase == .training || x.phase == .retraining) then .next (trainFail s p) else .next s

/-! ## Flits (R360) -/

/-- The retry buffer after an acknowledgement. -/
def ackFlits (l : List (Nat × Flit)) (ack : BitVec 12) : List (Nat × Flit) :=
  if l.any fun e => e.2.seq == ack then (l.dropWhile fun e => e.2.seq != ack).drop 1 else l

/-- A port starts to retrain (D1 of R373). -/
def startRetrain (s : State) (p : Nat) : State :=
  incA (modPort s p fun x => { x with phase := .retraining, resume := true, t1 := s.orbit.refNs, downAt := s.orbit.refNs, retryRun := 0, retryTimes := [] })
    0x5041 p 1

/-- A RETRY_REQ (R360): everything after the acknowledged flit is sent again; 8 retries in a row, or 1,000 in 1 ms, retrain the port. -/
def retryPort (s : State) (p : Nat) : State :=
  let x := getPort s p
  let n := x.retry.length
  let now := s.orbit.refNs
  let times := (x.retryTimes.filter fun t => decide (now < t + 1000000)) ++ List.replicate n now
  let s := incB (setPort s p { x with retryRun := x.retryRun + 1, retryTimes := times }) 0x5033 p n
  let s := resend s p
  if 8 ≤ x.retryRun + 1 ∨ 1000 < times.length then startRetrain s p else s

/-- LINK_FEC_CORR and LINK_FEC_UNCORR count the codewords of a flit (R376). -/
def countFec (s : State) (p : Nat) (f : Flit) : State :=
  let s := if f.fecCorr = 0 then s else incB s 0x5030 p f.fecCorr
  if f.fecUncorr = 0 then s else incB s 0x5031 p f.fecUncorr

/-- Ask for the flits after the last good one in an IDLE flit (R360). -/
def askRetry (s : State) (p : Nat) : State :=
  let x := getPort s p
  emit (setPort s p { x with asked := true })
    (.flit p 0 { framed x.sxl1 (mkFlit s 0 0 0 0 0 []) with ack := x.rxSeq - 1, retryReq := true })

/-- Take the link control of a good flit (R360): what it acknowledges leaves the retry buffer, and a RETRY_REQ has the rest resent. -/
def takeControl (s : State) (p : Nat) (f : Flit) : State :=
  let x := getPort s p
  let l := ackFlits x.retry f.ack
  let s := setPort s p { x with retry := l, retryRun := if l.length < x.retry.length then 0 else x.retryRun }
  if f.retryReq && !l.isEmpty then retryPort s p else flushPort s p

/-- Take a flit at a port (R360): delivered when its CRC and its codewords are good and its SEQ is the next one. A bad flit is discarded with
RETRY_REQ; the good ones after it are discarded without another, and one that has come before too [59]. -/
def takeFlit (s : State) (p : Nat) (f : Flit) : State × Bool :=
  let x := getPort s p
  if !(linksLive s && x.phase == .up) then (s, false)
  else
    let s := countFec s p f
    if !(f.good && f.fecUncorr == 0) then (askRetry (if f.good then s else incB s 0x5032 p 1) p, false)
    else if f.seq = x.rxSeq then (takeControl (modPort s p fun x => { x with rxSeq := x.rxSeq + 1, asked := false }) p f, true)
    else
      let s := takeControl s p f
      (if x.asked || decide (2048 ≤ (f.seq - x.rxSeq).toNat) then s else askRetry s p, false)

/-! ## Transit (R362, R363) -/

/-- A flit that came by port `p` is for this module: every flit of an SXL1 port, and those of its own FABRIC_ID. -/
def forUs (s : State) (p : Nat) (f : Flit) : Bool := (getPort s p).sxl1 || f.destFabric == param s 0x5010 0

/-- Send a flit that came by port `p` on through egress port `e`: at once, which returns its credit to the partner it came from, or queued there
(R363). A port that takes no flits loses it, and the credit returns [59]. -/
def passOn (s : State) (p e type : Nat) (f : Flit) : State :=
  let g := { f with vc := if type = 5 then controlTo s e f.destFabric else channelTo s e f.destFabric }
  let x := getPort s e
  if mayGo x type g then sendCredit (sendSpent s e type g) p f.vc f.destMoon 1
  else if x.phase = .up ∨ x.resume then enqueue s e ⟨type, g, some (p, f.vc, f.destMoon)⟩
  else sendCredit s p f.vc f.destMoon 1

/-- Flits of one chunk in transit: a chunk's flits come by one port, without another chunk of its transfer between them (R366). -/
def sameTransit (p : Nat) (f : Flit) (t : Nat × Nat × Nat × Nat × Nat) : Bool :=
  t.1 == p && t.2.1 == f.srcFabric && t.2.2.1 == f.srcMoon && t.2.2.2.1 == f.xfer

/-- ROUTE_NONE to the source of a flit in transit that has no port (R362). -/
def routeNone (s : State) (p : Nat) (f : Flit) (chunk : Nat) : State :=
  sendBack s p 4 f.srcFabric f.srcMoon f.destMoon f.xfer (leBytes 2 nackRoute ++ leBytes 4 chunk)

/-- A flit in transit (R362): its chunk's egress port, chosen at CHUNK_HDR; ROUTE_NONE to the source when there is none, which a chunk's DATA flits do
not ask again. -/
def transit (s : State) (p type : Nat) (f : Flit) : State :=
  let pick := egress s (tget s.links.fwd 0 f.destFabric)
  let gone (s : State) : State := sendCredit s p f.vc f.destMoon 1
  let set (s : State) (l : List (Nat × Nat × Nat × Nat × Nat)) : State := { s with links := { s.links with transit := l } }
  if type = 2 then
    let rest := s.links.transit.filter fun t => !sameTransit p f t
    match pick with
    | some e => passOn (set s (rest ++ [(p, f.srcFabric, f.srcMoon, f.xfer, e)])) p e type f
    | none => routeNone (gone (set s rest)) p f 0
  else if type = 1 then
    match s.links.transit.find? (sameTransit p f) with
    | some t => passOn s p t.2.2.2.2 type f
    | none => gone s
  else match pick with
    | some e => passOn s p e type f
    | none => routeNone (gone s) p f noChunk

/-! ## Chunks received (R365, R369) -/

/-- A receive-window entry names a source (R369). -/
def winMatch (b : Bytes) (i fabric moon : Nat) : Bool :=
  let f := field b (32 * i) 2
  let m := field b (32 * i + 2) 1
  (field b (32 * i + 3) 1).testBit 0 && (f == 0xFFFF || f == fabric) && (m == 0xFF || m == moon)

/-- The WINDOW checks (R369). -/
def windowOk (s : State) (m fabric moon : Nat) (h : ChunkHdr) : Bool :=
  let b := (getMoon s m).recvWin
  let l := (upTo 16).filter fun i => winMatch b i fabric moon
  (l.any fun i => (field b (32 * i + 3) 1).testBit 1 && decide (field b (32 * i + 8) 8 ≤ h.destMa) &&
    decide (h.destMa + h.bytes ≤ field b (32 * i + 8) 8 + field b (32 * i + 16) 8)) &&
  (!h.sigEn || l.any fun i => (field b (32 * i + 3) 1).testBit 2 && decide (field b (32 * i + 24) 2 ≤ h.destObj) &&
    decide (h.destObj < field b (32 * i + 24) 2 + field b (32 * i + 26) 2))

/-- The destination moon takes arrivals (R369). -/
def moonTakes (s : State) (m : Nat) (migration : Bool) : Bool :=
  match (getMoon s m).state with
  | .active | .waiting | .suspended | .resizing | .migrating => true
  | .arriving => migration
  | _ => false

/-- The first check of R369 that refuses a chunk; an access held by a MIGRATING page refuses nothing. -/
def chunkRefusal (s : State) (m fabric moon : Nat) (h : ChunkHdr) : Option Nat :=
  if !moonTakes s m h.migration then some nackGone
  else if (getMoon s m).state == .arriving then none
  else if !windowOk s m fabric moon h then some nackWindow
  else match checkWrite s m (h.bytes / 64 + 2) h.destMa h.bytes with
    | some e => if e.code = 0 then none else some e.code
    | none => none

/-- A whole chunk has arrived for moon `m`: written, or held while the moon is suspended, while its page or bank is moving, or behind such a chunk
(R365, R369). -/
def arriveChunk (s : State) (m : Nat) (a : Arrival) : State :=
  if arrivalsHeld s m || !(getMoon s m).held.isEmpty || arrivalWaits s m a then
    let s := modMoon s m fun x => { x with held := x.held ++ [a] }
    if a.port < 32 then holdFlits s a.port m (arrivalFlits s a) else s
  else
    let s := putArrival s m a
    if a.port < 32 then returnCredit s a.port m (arrivalFlits s a) else s

/-- The chunk whose DATA a flit carries. -/
def rxOf (s : State) (p : Nat) (f : Flit) : Option RxChunk :=
  s.links.rx.find? fun c => c.port == p && c.flit.srcFabric == f.srcFabric && c.flit.srcMoon == f.srcMoon && c.flit.xfer == f.xfer

/-- Replace the chunk being received, or remove it. -/
def setRx (s : State) (p : Nat) (f : Flit) (c : Option RxChunk) : State :=
  let rest := s.links.rx.filter fun c => !(c.port == p && c.flit.srcFabric == f.srcFabric && c.flit.srcMoon == f.srcMoon && c.flit.xfer == f.xfer)
  { s with links := { s.links with rx := match c with | some c => rest ++ [c] | none => rest } }

/-- CHUNK_HDR (R362, R369): transit, or the checks of the destination moon. -/
def execChunkHdr (p : Nat) (f : Flit) (h : ChunkHdr) (s : State) : Res :=
  let (s, ok) := takeFlit s p f
  if !ok then .next s
  else if !forUs s p f then .next (transit s p 2 f)
  else
    let (fabric, moon, m) := flitEnds s p f
    match chunkRefusal s m fabric moon h with
    | some r =>
      let s := refuseChunk s m (arrivalOf p fabric moon f.xfer h []) r
      .next (sendCredit (setRx s p f (some ⟨p, f, h, [], true⟩)) p 2 m 1)
    | none =>
      if h.bytes = 0 then .next (arriveChunk (setRx s p f none) m (arrivalOf p fabric moon f.xfer h []))
      else
        let s := setRx s p f (some ⟨p, f, h, [], false⟩)
        .next (if arrivalsHeld s m then s else drawPool s p m (chunkFlits (flitBytes s p) h.bytes))

/-- DATA (R362, R369): transit, or more bytes of a chunk; the last write it. -/
def execData (p : Nat) (f : Flit) (s : State) : Res :=
  let (s, ok) := takeFlit s p f
  if !ok then .next s
  else if !forUs s p f then .next (transit s p 1 f)
  else
    let (fabric, moon, m) := flitEnds s p f
    match rxOf s p f with
    | none => .next (sendCredit s p 2 m 1)
    | some c =>
      let got := c.got ++ f.payload.take (Nat.min (flitBytes s p) (c.hdr.bytes - c.got.length))
      let whole := decide (c.hdr.bytes ≤ got.length)
      if c.refused then .next (sendCredit (setRx s p f (if whole then none else some { c with got := got })) p 2 m 1)
      else if !whole then .next (setRx s p f (some { c with got := got }))
      else .next (arriveChunk (setRx s p f none) m (arrivalOf p fabric moon f.xfer c.hdr got))

/-- DELIVERED (R370). -/
def execDelivered (p : Nat) (f : Flit) (s : State) : Res :=
  let (s, ok) := takeFlit s p f
  if !ok then .next s
  else if !forUs s p f then .next (transit s p 3 f)
  else .next (sendCredit (txDelivered s f.xfer) p 2 (flitEnds s p f).2.2 1)

/-- The transfer of a tag, when it is the module's own. -/
def ownOf (s : State) (xfer : Nat) : Option TxXfer := s.links.tx.find? fun x => x.xfer == xfer && decide (migRing ≤ x.ring)

/-- A transfer of the module's own was refused or found no port: a migration before M7 is aborted, its target being unreachable (R247). -/
def ownRefused (s : State) (x : Option TxXfer) : State :=
  match x with
  | some x => if x.ring = snapRing then snapRefused s x.moon 0 else if x.ring = migRing ∧ (getMoon s x.moon).state = .migrating then endJob (abortMigration s x.moon) x.moon 0xD else s
  | none => s

/-- NACK (R370). -/
def execNack (p : Nat) (f : Flit) (reason chunk : Nat) (s : State) : Res :=
  let (s, ok) := takeFlit s p f
  if !ok then .next s
  else if !forUs s p f then .next (transit s p 4 f)
  else .next (sendCredit (ownRefused (txRefused s f.xfer reason chunk f.srcFabric) (ownOf s f.xfer)) p 2 (flitEnds s p f).2.2 1)

/-- The target's answer to the query of M2 (R245): moon `m` is ARRIVING, and its MIGRATE_IN names the source by identity and moon, and its
moon 0 holds a READY shared base of each manifest digest that the source names (R348). -/
def migMatches (s : State) (source m sourceMoon : Nat) (bases : List Nat) : Bool :=
  let x := getMoon s m
  bases.all (fun d => s.fetch.shared.any fun b => b.2.state == 2 && leNat b.2.manifest == d) &&
  x.state == .arriving && (match x.migCmd with | some c => c.peer == source && c.peerMoon == sourceMoon | none => false)

/-- What a CONTROL flit does that has no row of its own (R386, R390): a refused ARRIVE (moon, scope, barrier, code, DETAIL) or the failure of
an instance (scope, barrier, code, DETAIL, the moons that arrived in it) fails the tasks it names [23]; a source's query of M2 (its identity, the moon asked for, its moon, its
FABRIC_ID) is answered with the moon's SEQ_QUOTA (R245, R299). -/
def controlActs (s : State) (kind : CtlKind) (args : List Nat) : State :=
  let a (i : Nat) := args.getD i 0
  match kind with
  | .arriveRefused => settleArrivals s (fun m => m.moon == a 0 && m.scope == a 1 && m.barrier == a 2) (a 3) (a 4)
  | .barFail => settleArrivals s (fun m => m.scope == a 0 && m.barrier == a 1 && (args.drop 4).contains m.moon) (a 2) (a 3)
  | .snapQuery => sendCtl s .snapAnswer (a 6) [a 1, a 2, if accepts s (a 5) ⟨a 0, a 1, a 2, a 3, a 4⟩ then 1 else 0]
  | .snapAnswer => snapAnswered s (a 0) (a 1) (a 2 == 1)
  | .snapDone => raiseMoon s (a 0) 0x0905 [a 1, a 2]
  | .migQuery => sendCtl s .migAnswer (a 3) [a 2, (if migMatches s (a 0) (a 1) (a 2) (args.drop 5) then 1 else 0), param s 0x8001 (a 1)]
  | _ => s

/-- VC0 credit owed to the partner returns by itself once a quarter of the 128 flits is out, so that CREDIT flits alone never run a port dry
(R363) [59]. -/
def returnOwed (s : State) (p : Nat) : State := if 32 ≤ (getPort s p).owed then sendCredit s p 0 0 0 else s

/-- CREDIT (R363). -/
def execCredit (p : Nat) (f : Flit) (l : List (Nat × Nat × Nat)) (s : State) : Res :=
  let (s, ok) := takeFlit s p f
  if !ok then .next s
  else .next (returnOwed (flushPort (modPort s p fun x =>
    l.foldl (fun x e =>
      if e.1 = 0 then { x with credit0 := x.credit0 + e.2.2 } else if e.1 = 1 then { x with credit1 := x.credit1 + e.2.2 }
      else { x with credit2 := tmod x.credit2 0 e.2.1 (· + e.2.2) }) { x with owed := x.owed + 1 }) p) p)

/-- Flits of a channel, of a moon on VC2, that the partner had not taken when it said its credit: they have spent some of it (R360, R363). -/
def unacked (x : Port) (vc moon : Nat) : Nat :=
  (x.retry.filter fun e => e.1 != 6 && e.2.vc == vc && (vc != 2 || e.2.destMoon == moon)).length

/-- CREDIT_SYNC (R355 T7, R373 D3): the credit of a channel, of a moon on VC2. -/
def execCreditSync (p : Nat) (f : Flit) (vc n : Nat) (s : State) : Res :=
  let (s, ok) := takeFlit s p f
  if !ok then .next s
  else .next (flushPort (modPort s p fun x =>
    let n := n - unacked x vc f.destMoon
    if vc = 0 then { x with credit0 := n } else if vc = 1 then { x with credit1 := n } else { x with credit2 := tset x.credit2 f.destMoon n }) p)

/-! ## Chunks sent (R364, R366, R368) -/

/-- The ports a transfer may use for its first hop (R368): its mask, or the forwarding entry of its destination; an
SXL1 port carries traffic of moon 0 alone (R359). -/
def txPorts (s : State) (x : TxXfer) : List Nat :=
  if x.mask = 0 then upPorts s (tget s.links.fwd 0 x.destFabric)
  else (bitsOf x.mask 32).filter fun p => (getPort s p).phase == .up && (!(getPort s p).sxl1 || (x.moon == 0 && x.destMoon == 0))

/-- Credit and retry room for `n` flits of a transfer on a port (R360, R364). -/
def creditFor (s : State) (x : TxXfer) (p n : Nat) : Bool :=
  let y := getPort s p
  decide (n ≤ y.credit (channelTo s p x.destFabric) x.destMoon) && decide (y.retry.length + n ≤ 1024)

/-- The MA of chunk `i` of a transfer of pages (R245): 32 chunks of 64 KiB a page. -/
def pageChunk (x : TxXfer) (i : Nat) : Option Nat := (x.pages[i / 32]?).map fun k => hbmRegion + k * pageBytes + i % 32 * 65536

/-- The place of chunk `i` of a transfer: destination MA and length. -/
def chunkPlace (t : Option Task) (x : TxXfer) (i : Nat) : Nat × Nat :=
  match x.chunks[i]?, pageChunk x i, t with
  | some c, _, _ => (c.1, c.2.length)
  | none, some ma, _ => (ma, 65536)
  | none, none, some t => (match (sendChunks (parseMove t.ext))[i]? with
    | some c => (c.dst, c.len)
    | none => (0, 0))
  | none, none, none => (0, 0)

/-- The bytes of chunk `i` of a transfer: a shard's as converted, a page's or a SEND's as they stand in memory. -/
def chunkBytes (s : State) (t : Option Task) (x : TxXfer) (i : Nat) : Except Bad Bytes :=
  match x.chunks[i]?, pageChunk x i, t with
  | some c, _, _ => .ok c.2
  | none, some ma, _ => .ok (readRaw s x.moon 1026 ma 65536)
  | none, none, some t => (match (sendChunks (parseMove t.ext))[i]? with
    | some c => readSegs s t.moon c.segs
    | none => .ok [])
  | none, none, none => .ok []

/-- A page counts as sent from its first chunk on, until it is written again (M3 of R245). -/
def markSent (s : State) (x : TxXfer) (i : Nat) : State :=
  match x.pages[i / 32]? with
  | some k => (match entryOf s x.moon k with
    | some e => if i % 32 = 0 ∧ (getMoon s x.moon).mig = .precopy then { s with mem := { s.mem with sentPages := addNum s.mem.sentPages (pageKey e.stack e.page) } } else s
    | none => s)
  | none => s

/-- A SEND has read the source pieces of chunk `i` (R161, R173). -/
def touchChunk (s : State) (t : Option Task) (x : TxXfer) (i : Nat) : State :=
  match x.chunks[i]?, t with
  | none, some t =>
    let c := parseMove t.ext
    match (sendChunks c)[i]? with
    | none => s
    | some k => noteDemand (k.segs.foldl (fun s g => useRead s t none g.1 g.2 c.src.hint) s) t c.src.base ((((sendChunks c).take (i + 1)).map ChunkSrc.len).foldl (· + ·) 0)
  | _, _ => s

/-- The header of chunk `i` (R369). -/
def chunkHeader (x : TxXfer) (i ma n : Nat) : ChunkHdr :=
  { destMa := ma, bytes := n, hint := x.hint, index := i, total := x.total, destObj := x.obj, destAdd := x.add, sigEn := x.sig, migration := x.ring == migRing }

/-- A header as payload bytes, in an order of this model's own [24]. -/
def hdrBytes (h : ChunkHdr) : Bytes :=
  leBytes 8 h.destMa ++ leBytes 4 h.bytes ++ leBytes 4 h.index ++ leBytes 4 h.total ++ leBytes 2 h.hint ++ leBytes 2 h.destObj ++
  leBytes 4 (ofSigned 32 h.destAdd) ++ leBytes 1 (if h.sigEn then 1 else 0)

/-- Cut bytes into DATA payloads of `unit` bytes (R359, R366). -/
def payloads (unit fuel : Nat) (b : Bytes) : List Bytes :=
  match fuel with
  | 0 => []
  | fuel + 1 => if b.isEmpty then [] else b.take unit :: payloads unit fuel (b.drop unit)

/-- Send a chunk on a port: its CHUNK_HDR and DATA flits (R366). -/
def sendChunk (s : State) (x : TxXfer) (p : Nat) (h : ChunkHdr) (b : Bytes) : State :=
  let vc := channelTo s p x.destFabric
  let s := spend s p vc x.destMoon (chunkFlits (flitBytes s p) b.length)
  let s := sendFlit s p 2 (mkFlit s vc x.destFabric x.destMoon x.moon x.xfer (hdrBytes h))
  (payloads (flitBytes s p) (b.length / 112 + 2) b).foldl (fun s d => sendFlit s p 1 (mkFlit s vc x.destFabric x.destMoon x.moon x.xfer d)) s

/-- Change a transfer. -/
def putTx (s : State) (x : TxXfer) : State :=
  { s with links := { s.links with tx := s.links.tx.map fun y => if y.xfer == x.xfer && y.moon == x.moon && y.ring == x.ring then x else y } }

/-- A chunk to this module itself goes through its own receive path (R368). -/
def sendSelf (s : State) (x : TxXfer) (h : ChunkHdr) (b : Bytes) : State :=
  let a := arrivalOf 32 x.destFabric x.moon x.xfer h b
  match chunkRefusal s x.destMoon x.destFabric x.moon h with
  | some r => refuseChunk s x.destMoon a r
  | none => arriveChunk s x.destMoon a

/-- The next chunk of a task's transfers that has not been sent. -/
def nextTx (s : State) (m r : Nat) (q : W32) : Option (TxXfer × Nat) :=
  (s.links.tx.filter fun x => x.moon == m && x.ring == r && x.seq == q).findSome? fun x =>
    ((upTo x.total).find? fun i => !(x.sent.any fun e => e.1 == i)).map fun i => (x, i)

/-- A transfer may send its next chunk: its task runs (R235, R364), or it is the module's own (R372). -/
def txRuns (s : State) (x : TxXfer) (t : Option Task) : Bool :=
  match t with
  | some t => t.phase == .running && workRuns s x.moon x.ring
  | none => isUp s && decide (migRing ≤ x.ring)

/-- SEND_CHUNK_START (R364, R366, R368, R372): the next chunk goes out on a port that holds credit for all of it. -/
def execSendChunkStart (m r : Nat) (q : W32) (s : State) : Res :=
  match nextTx s m r q with
  | some (x, i) =>
    let t := findTask s m r q
    if !txRuns s x t then .next s
    else
      let (ma, n) := chunkPlace t x i
      let self := x.destFabric == param s 0x5010 0
      let ports := (txPorts s x).filter fun p => creditFor s x p (chunkFlits (flitBytes s p) n)
      if !self && ports.isEmpty then .next s
      else if self && (checkWrite s x.destMoon (n / 64 + 2) ma n).map Fail.code == some 0 then .next s
      else match chunkBytes s t x i with
        | .error b => .next (match t with | some t => failMove s s t b | none => s)
        | .ok b =>
          let h := chunkHeader x i ma n
          let s := markSent (touchChunk s t x i) x i
          if self then .next (sendSelf (putTx s { x with sent := x.sent ++ [(i, 32)], openedAt := s.orbit.refNs }) x h b)
          else match drawFrom ports s with
            | (some p, s) => .next (sendChunk (putTx s { x with sent := x.sent ++ [(i, p)], openedAt := s.orbit.refNs }) x p h b)
            | (none, s) => .next s
  | none => .next s

/-- LINK_TIMEOUT (R247, R370): no usable port for LINK_TIMEOUT; a migration's target is then unreachable. -/
def execLinkTimeout (m r : Nat) (q : W32) (s : State) : Res :=
  match nextTx s m r q with
  | some (x, _) =>
    let t := findTask s m r q
    let limit := param s 0x5060 0 * 1000000
    let past (a : Nat) : Bool := decide (a + limit ≤ s.orbit.refNs)
    let mask := if x.mask = 0 then tget s.links.fwd 0 x.destFabric else x.mask
    if (match t with | some t => t.phase == .running | none => decide (migRing ≤ x.ring)) && isUp s && x.destFabric != param s 0x5010 0 && (txPorts s x).isEmpty && past x.openedAt &&
        (bitsOf mask 32).all (fun p => past (getPort s p).downAt) then .next (ownRefused (failTx s x 0x0302 (param s 0x5010 0)) (some x))
    else .next s
  | none => .next s

/-! ## Port control (R373, R374, R376) -/

/-- PORT_CTRL 1 RETRAIN (R373): a port that is UP retrains. -/
def retrainPort (p : Nat) (s : State) : Except Nat State := .ok (if (getPort s p).phase = .up then startRetrain s p else s)

/-- RETRAIN (R373). -/
def execRetrain (who : Who) (p : Nat) (s : State) : Res := command s who 0x5003 p (retrainPort p)

/-- RETRAIN_DONE (R373): D2 to D4. -/
def execRetrainDone (p : Nat) (c : ChanMeas) (q : Partner) (s : State) : Res :=
  let x := getPort s p
  if !(linksLive s && x.phase == .retraining) then .next s
  else match chooseMode s p c with
    | none => .next (trainFail s p)
    | some s =>
      let s := exchangeItems s p
      match chooseT6 s p q with
      | .up sxl1 => .next (flushPort (portUp s p q sxl1) p)
      | t => .next (t6Short s p t)

/-- PORT_CTRL 2 DISABLE (R374, R376): a FAILED port keeps that state until ENABLE. -/
def disablePort (p : Nat) (s : State) : Except Nat State :=
  .ok (modPort s p fun x => { x with enabled := false, phase := if x.phase = .failed then .failed else .disabled, resume := false, repeat112 := false
                                     downAt := s.orbit.refNs })

/-- DISABLE (R376). -/
def execDisable (who : Who) (p : Nat) (s : State) : Res := command s who 0x5003 p (disablePort p)

/-- PORT_CTRL 3 ENABLE (R374, R376): a DISABLED or FAILED port starts bring-up. -/
def enablePort (p : Nat) (s : State) : Except Nat State :=
  .ok (modPort s p fun x =>
    if x.phase = .disabled ∨ x.phase = .failed then { x with enabled := true, phase := .down, failTimes := [] } else { x with enabled := true })

/-- ENABLE (R374). -/
def execEnable (who : Who) (p : Nat) (s : State) : Res := command s who 0x5003 p (enablePort p)

/-- PORT_CTRL 4 FORCE_112 (R357). -/
def forcePort (p : Nat) (s : State) : Except Nat State := .ok (modPort s p fun x => { x with forced112 := true })

/-- FORCE_112 (R357). -/
def execForce112 (who : Who) (p : Nat) (s : State) : Res := command s who 0x5003 p (forcePort p)

/-- PORT_CTRL 5 AUTO (R376). -/
def autoPort (p : Nat) (s : State) : Except Nat State := .ok (modPort s p fun x => { x with forced112 := false })

/-- AUTO (R376). -/
def execAuto (who : Who) (p : Nat) (s : State) : Res := command s who 0x5003 p (autoPort p)

/-- LINK_STAT_READ (R376): any role's read clears. -/
def execLinkStatRead (who : Who) (p : Nat) (s : State) : Res := query s who 0x5030 p fun s => readStat s 0x5030 p true

/-! ## Port registers (R376) -/

/-- The number of STATE. -/
def portCode : PortPhase → Nat
  | .disabled => 0
  | .down => 1
  | .training => 2
  | .up => 3
  | .retraining => 4
  | .failed => 5

/-- PORT_STATE (R376). -/
def portState (x : Port) : Nat :=
  let b (c : Bool) (i : Nat) : Nat := if c then 2 ^ i else 0
  portCode x.phase + b (x.degraded && (x.phase == .up || x.phase == .retraining)) 4 + b (x.sxl1 && x.phase == .up) 5 + b x.forced112 6 + b x.protoRefused 7 + b x.conflict 8

/-- PORT_MEAS (R376). -/
def portMeas (x : Port) : Bytes :=
  match x.shown with
  | none => List.replicate 32 0
  | some (c, at_, k, w) =>
    padTo (leBytes 1 (if isCopper c then 1 else 2) ++ leBytes 1 (if k then 2 else 1) ++ leBytes 1 w ++
      leBytes 1 (maskOf ((upTo 8).filter fun i => if k then fit224 c i else fit112 c i)) ++
      (upTo 8).flatMap (fun i => leBytes 2 (if k then c.loss224.getD i 0 else c.loss112.getD i 0)) ++
      leBytes 2 (linkLength c) ++ leBytes 2 c.rttNs ++ leBytes 8 at_) 32

/-- PORT_PARTNER (R376). -/
def portPartner (x : Port) : Bytes :=
  match x.partner with
  | none => List.replicate 32 0
  | some q =>
    padTo (leBytes 1 (if x.sxl1 then 1 else 2) ++ leBytes 1 ((if q.class112 then 1 else 0) + if q.class224 then 2 else 0) ++ leBytes 1 q.port ++
      leBytes 1 q.ports ++ leBytes 2 (if x.sxl1 then 0xFFFF else q.fabric) ++ leBytes 2 0 ++ leBytes 8 q.identity ++
      leBytes 1 (if x.sxl1 then 0xFF else q.role)) 32

end Sys2Proof.Machine
end

