-- ==== Sys2Proof/Machine/Pack.lean ====
section
/-! DEFINITION. Packs (R377 to R396, R405, R406): roles, polling, barriers and health scoring, and the rows BARRIER, POLL_SEND, POLL, ANSWER,
POLL_MISS, ORPHAN, ARRIVE, BARRIER_RELEASE, WITHDRAW, BARRIER_TIMEOUT, BARRIER_DEF, BARRIER_MOVE, MEMBER_FABRIC, SPARES_DECLARED, PACK_ROLE,
EXPEL_INTERVAL_ELAPSED, PACK_STAT_READ. -/

namespace Sys2Proof.Machine

/-! ## Roles and members (R377 to R379) -/

/-- FABRIC_ID of the module (R361). -/
def ownFabric (s : State) : Nat := param s 0x5010 0

/-- A shepherd or a lead shepherd (R377). -/
def isManager (s : State) : Bool := s.pack.role == 1 || s.pack.role == 2

/-- The role in force: PACK_ROLE, or the straps (R377). -/
def roleNow (s : State) : Nat :=
  let v := param s 0xB000 0
  if v ≤ 2 then v else if s.power.roleSel = 1 then 1 else if s.power.roleSel = 2 then 2 else 0

/-- An EMPTY entry, or a member just written (R381, R392): ANSWERING and NORMAL, runs and score cleared. -/
def freshMember (fabric : Nat) : Member :=
  { fabric := fabric, silent := false, health := .normal, svcReq := false, locked := false, missRun := 0, answerRun := 0, score := 0
    answer := none, pollSeq := 0, polledAt := none, polls := 0 }

/-- Member entry `e`. -/
def getMember (s : State) (e : Nat) : Member := tget s.pack.members (freshMember 0xFFFF) e

/-- Set member entry `e`. -/
def setMember (s : State) (e : Nat) (x : Member) : State := { s with pack := { s.pack with members := tset s.pack.members e x } }

/-- The entries that are not empty, ascending. -/
def memberEntries (s : State) : List Nat := (upTo 64).filter fun e => (getMember s e).fabric != 0xFFFF

/-- The entry of a FABRIC_ID. -/
def memberOf (s : State) (fabric : Nat) : Option Nat := (memberEntries s).find? fun e => (getMember s e).fabric == fabric

/-- PACK_STATE is NONE or ORPHAN. -/
def packLost (s : State) : Bool := s.pack.packState == 0 || s.pack.packState == 2

/-- A scope has no combiner to arrive at (R388): no shepherd, or a shepherd lost; no lead shepherd known. -/
def noCombiner (s : State) (scope : Nat) : Bool :=
  match combinerOf s scope with
  | none => true
  | some f => scope == 0 && f != ownFabric s && packLost s

/-- Unreleased arrivals without a combiner fail with NO_SHEPHERD (R388). -/
def dropLost (s : State) : State := settleArrivals s (fun a => noCombiner s a.scope) 0x0504 0

/-- PACK_STATE after the role or PARENT_FABRIC changed (R382): NONE for a lead shepherd or without a parent; a parent has ORPHAN_MS to poll. -/
def packParent (s : State) : State :=
  let s := { s with pack := { s.pack with pollAt := some s.orbit.refNs } }
  if s.pack.role = 2 ∨ param s 0xB001 0 = 0xFFFF then
    dropLost { s with pack := { s.pack with packState := 0, seenEpoch := none, leadFabric := none } }
  else s

/-- The pack is frozen (R393): c at or above max(1, floor(n / 8)). -/
def frozenNow (s : State) : Bool :=
  let l := memberEntries s
  decide (Nat.max 1 (l.length / 8) ≤ (l.filter fun e => (getMember s e).health != .normal).length)

/-- FROZEN follows the members; PACK_HEALTH_FROZEN on entry (R393). -/
def refreeze (s : State) : State :=
  let b := s.pack.role == 1 && frozenNow s
  let t := { s with pack := { s.pack with frozen := b } }
  if b && !s.pack.frozen then raisePf t 0x0B07 [] else t

/-- What the members hold follows the role (R393, R396): every member of a lead shepherd is NORMAL without a score, and FROZEN is a shepherd's. -/
def settlePack (s : State) : State :=
  refreeze (if s.pack.role = 2 then
    { s with pack := { s.pack with members := s.pack.members.map fun e => (e.1, { e.2 with health := .normal, score := 0 }) } }
  else s)

/-- The role in force follows PACK_ROLE and the straps (R377, R379): the open instances of a combiner whose role ends are dropped, and
BOOT_EPOCH advances when the module starts managing. -/
def updateRole (s : State) : State :=
  let r := roleNow s
  if r = s.pack.role then s
  else
    let starts := !isManager s && (r == 1 || r == 2)
    let s := { s with pack := { s.pack with
      role := r, instances := [], bootEpoch := if starts then s.pack.bootEpoch + 1 else s.pack.bootEpoch
      members := s.pack.members.map fun e => (e.1, { e.2 with polledAt := none, polls := if starts then 0 else e.2.polls })
      pollBase := if starts then s.orbit.refNs else s.pack.pollBase } }
    settlePack (dropLost (packParent s))

/-- A PACK_ROLE write (R377, R379): 0, 1, 2 or 0xFF. -/
def writeRole (v : Nat) (s : State) : Except Nat State :=
  if v ≤ 2 ∨ v = 0xFF then .ok (updateRole (setParamJ s 0xB000 0 v)) else .error 7

/-- PACK_ROLE (R379). -/
def execPackRole (who : Who) (v : Nat) (s : State) : Res := command s who 0xB000 0 (writeRole v)

/-! ## Health (R391 to R396) -/

/-- The number of HEALTH (R406). -/
def healthCode : Health → Nat
  | .normal => 0
  | .suspect => 1
  | .watch => 2
  | .expelled => 3

/-- MEMBER_STATUS (R406). -/
def memberStatus (x : Member) : Nat :=
  (if x.fabric = 0xFFFF then 0 else if x.silent then 2 else 1) + 4 * healthCode x.health + 16 * (if x.svcReq then 1 else 0) +
  32 * (if x.locked then 1 else 0) + 2 ^ 8 * x.missRun + 2 ^ 16 * x.answerRun

/-- Journal a member's status and score (R406). -/
def noteHealth (s : State) (e : Nat) : State :=
  let x := getMember s e
  jAppend s (.health e (memberStatus x) x.score [param s 0xB014 e, param s 0xB015 e, param s 0xB016 e])

/-- A member's HEALTH changes, with its event (R392). -/
def setHealth (s : State) (e : Nat) (h : Health) : State :=
  let x := getMember s e
  let s := noteHealth (setMember s e { x with health := h }) e
  refreeze (match h with
    | .normal => s
    | .suspect => raisePf s 0x0B04 [e, x.fabric]
    | .watch => raisePf s 0x0B05 [e, x.fabric]
    | .expelled => raisePf s 0x0B06 [e, x.fabric])

/-- One member's transitions (R392). -/
def evalMember (s : State) (e : Nat) : State :=
  let x := getMember s e
  let spares := decide (0 < param s 0xB026 0)
  let on := Num.le (num32 (param s 0xB022 0)) (num32 x.score)
  let off := Num.le (num32 x.score) (num32 (param s 0xB023 0))
  match x.health with
  | .normal =>
    if on && decide (param s 0xB024 0 ≤ param s 0xB015 e) && !s.pack.frozen then setHealth s e (if spares then .suspect else .watch) else s
  | .suspect => if !spares then setHealth s e .watch else if off then setHealth s e .normal else s
  | .watch => if spares && on then setHealth s e .suspect else if off then setHealth s e .normal else s
  | .expelled => s

/-- The SUSPECT with the highest H, the lower entry on a tie (R394). -/
def topSuspect (s : State) : Option Nat :=
  ((memberEntries s).filter fun e => (getMember s e).health == .suspect).foldl (fun b e => match b with
    | none => some e
    | some f => if Num.lt (num32 (getMember s f).score) (num32 (getMember s e).score) then some e else some f) none

/-- EXPEL_INTERVAL has passed since LAST_EXPEL, in orbit, or on the module reference while UNLOCKED, then or now (R394). -/
def expelDue (s : State) : Bool :=
  let n := 1000000000 * param s 0xB025 0
  if s.orbit.state = .unlocked ∨ s.pack.expelFree then decide (s.pack.expelRef + n ≤ s.orbit.refNs) else decide (param s 0xB027 0 + n ≤ s.orbit.now)

/-- Expel when R394 allows it: SPARES_DECLARED falls, LAST_EXPEL is set, and without a spare left the suspects move to WATCH. -/
def tryExpel (s : State) : State :=
  match topSuspect s with
  | none => s
  | some e =>
    let spares := param s 0xB026 0
    if s.pack.role = 1 ∧ 0 < spares ∧ expelDue s then
      let s := setHealth (setParamJ (setParamJ s 0xB026 0 (spares - 1)) 0xB027 0 s.orbit.now) e .expelled
      let s := { s with pack := { s.pack with expelRef := s.orbit.refNs, expelFree := s.orbit.state == .unlocked } }
      if spares = 1 then
        (memberEntries s).foldl (fun s e => if (getMember s e).health = .suspect then setHealth s e .watch else s) s
      else s
    else s

/-- The transitions of every member, then expulsion (R392, R394); a lead shepherd keeps no score (R396). -/
def evalHealth (s : State) : State := if s.pack.role = 1 then tryExpel ((memberEntries s).foldl evalMember s) else s

/-- H after a sample s (R391), FP32 under RN. -/
def nextScore (h shift : Nat) (late : Bool) : Nat :=
  let one := Num.ofInt (if late then 1 else 0)
  bits32 (rn32 (Num.add (num32 h) (Num.scale (rn32 (Num.add one (num32 h).neg)) (-(shift : Int)))))

/-- A SPARES_DECLARED write (R392). On a module that is no manager it takes no effect (R406). -/
def writeSpares (v : Nat) (s : State) : Except Nat State :=
  if 64 < v then .error 7 else if !isManager s then .ok s else .ok (evalHealth (setParamJ s 0xB026 0 v))

/-- SPARES_DECLARED (R392). -/
def execSparesDeclared (who : Who) (v : Nat) (s : State) : Res := command s who 0xB026 0 (writeSpares v)

/-- EXPEL_INTERVAL_ELAPSED (R394). -/
def execExpelIntervalElapsed (s : State) : Res := whenUp s (tryExpel s)

/-- Polling times of entry `e` that have come since the module started managing (R380): every 100 µs, offset by 1,562.5 ns per entry. -/
def pollsDue (s : State) (e : Nat) : Nat :=
  let d := 2 * (s.orbit.refNs - s.pack.pollBase)
  if d < 3125 * e then 0 else (d - 3125 * e) / 200000 + 1

/-- A MEMBER_FABRIC write (R378, R381, R392): its entry starts afresh. -/
def writeMember (e v : Nat) (s : State) : Except Nat State :=
  if v ≠ 0xFFFF ∧ (v = ownFabric s ∨ (memberEntries s).any fun f => f != e && (getMember s f).fabric == v) then .error 7
  else if 0xFFFF < v then .error 7
  else if !isManager s then .ok s
  else
    let s := setMember (clearA (setParamJ s 0xB010 e v) 0xB015 e) e { freshMember v with polls := pollsDue s e }
    .ok (refreeze (noteHealth s e))

/-- MEMBER_FABRIC (R378). -/
def execMemberFabric (who : Who) (e v : Nat) (s : State) : Res := command s who 0xB010 e (writeMember e v)

/-! ## Polling (R380 to R382) -/

/-- A miss (R381): counted; the third in a row makes an ANSWERING member SILENT. -/
def pollMissed (s : State) (e : Nat) : State :=
  let x := getMember s e
  let n := Nat.min 255 (x.missRun + 1)
  let s := incA (setMember s e { x with missRun := n, answerRun := 0, polledAt := none }) 0xB014 e 1
  if !x.silent && decide (3 ≤ n) then raisePf (setMember s e { getMember s e with silent := true }) 0x0B01 [e, x.fabric] else s

/-- The POLL to one member (R380). -/
def sendPoll (s : State) (e : Nat) : State :=
  let s := if (getMember s e).polledAt.isSome then pollMissed s e else s
  let x := getMember s e
  let q := s.pack.pollSeq
  let lead := if s.pack.role = 2 then ownFabric s else param s 0xB001 0
  let st := match s.orbit.state with | .unlocked => 0 | .locked => 1 | .holdover => 2
  let s := setMember { s with pack := { s.pack with pollSeq := q + 1 } } e
    { x with pollSeq := q, polledAt := some s.orbit.refNs, polls := pollsDue s e }
  sendCtl s .poll x.fabric [ownFabric s, q.toNat, s.pack.bootEpoch.toNat, healthCode x.health, lead, st]

/-- POLL_SEND (R380): a POLL to each member of the table whose time in the period has come. -/
def execPollSend (s : State) : Res :=
  whenUp s (if isManager s then ((memberEntries s).filter fun e => decide ((getMember s e).polls < pollsDue s e)).foldl sendPoll s else s)

/-- Moons that are not FREE. -/
def moonsHeld (s : State) : Nat := (s.moons.filter fun e => e.2.state != .free).length

/-- The ANSWER of this module (R380). -/
def ownAnswer (s : State) (seq : BitVec 16) : AnswerMsg :=
  { pollSeq := seq, fabric := ownFabric s, powerState := powerCode s, svcReq := s.power.svcReason != 0, locked := s.orbit.state == .locked
    holdover := s.orbit.state == .holdover, expelled := s.pack.packState == 3, moons := moonsHeld s, role := s.pack.role
    offset := toSigned 32 (param s 0x2036 0), orbit := s.orbit.now }

/-- FLAGS of an ANSWER (R380). -/
def AnswerMsg.flags (a : AnswerMsg) : Nat :=
  (if a.svcReq then 1 else 0) + (if a.locked then 2 else 0) + (if a.holdover then 4 else 0) + (if a.expelled then 8 else 0)

/-- The record MEMBER_ANSWER (R380). -/
def answerBytes (a : AnswerMsg) (rtt : Nat) : Bytes :=
  padTo (leBytes 2 a.pollSeq.toNat ++ leBytes 2 a.fabric ++ leBytes 1 a.powerState ++ leBytes 1 (AnswerMsg.flags a) ++ leBytes 1 a.moons ++
    leBytes 1 a.role ++ leBytes 4 (ofSigned 32 a.offset) ++ leBytes 4 rtt ++ leBytes 8 a.orbit) 32

/-- Send again every arrival not released (R382). -/
def resendArrivals (s : State) : State :=
  s.pack.sent.foldl (fun s e => match combinerOf s e.2.2.2.scope with
    | some f => if f = ownFabric s then s
                else sendCtl s .arrive f [e.2.2.2.fabric, e.1, e.2.2.2.scope, e.2.2.2.barrier, e.2.2.2.orbit, e.2.2.2.state]
    | none => s) s

/-- POLL (R382, R395): from PARENT_FABRIC alone; PACK_STATE follows, arrivals are sent again after a new BOOT_EPOCH, and the link logic
answers. -/
def execPoll (_port : Nat) (g : PollMsg) (s : State) : Res :=
  if (!isUp s && s.power.phase != .faultStop) || s.pack.role == 2 || param s 0xB001 0 == 0xFFFF || g.src != param s 0xB001 0 then .next s
  else
    let was := s.pack.packState
    let again := match s.pack.seenEpoch with | some e => e != g.bootEpoch | none => false
    let st := if g.health = 3 then 3 else 1
    let s := { s with pack := { s.pack with
      packState := st, pollAt := some s.orbit.refNs, seenEpoch := some g.bootEpoch
      leadFabric := if g.leadFabric = 0xFFFF then none else some g.leadFabric } }
    let s := if st = 3 ∧ was ≠ 3 then raisePf s 0x0B08 [] else s
    let s := dropLost (if again then resendArrivals s else s)
    let a := ownAnswer s g.seq
    .next (sendCtl s .answer g.src [a.pollSeq.toNat, a.fabric, a.powerState, AnswerMsg.flags a, a.moons, a.role, ofSigned 32 a.offset, a.orbit])

/-- ANSWER (R380, R381): to the latest POLL and within 10 µs of it; the record is kept and the run of answers grows. -/
def execAnswer (e : Nat) (a : AnswerMsg) (rtt : Nat) (s : State) : Res :=
  let x := getMember s e
  if !isUp s || !isManager s || x.fabric == 0xFFFF || x.polledAt.isNone || a.pollSeq != x.pollSeq then .next s
  else if 10000 < rtt then .next (pollMissed s e)
  else
    let n := Nat.min 255 (x.answerRun + 1)
    let back := x.silent && decide (16 ≤ n)
    let s := setMember s e { x with answer := some (a, rtt), missRun := 0, answerRun := n, polledAt := none, silent := x.silent && !back
                                    svcReq := a.svcReq, locked := a.locked }
    .next (if back then raisePf s 0x0B02 [e, x.fabric] else s)

/-- POLL_MISS (R381): no ANSWER within 10 µs of the POLL. -/
def execPollMiss (e : Nat) (s : State) : Res :=
  match (getMember s e).polledAt with
  | some t => if isUp s && isManager s && decide (t + 10000 ≤ s.orbit.refNs) then .next (pollMissed s e) else .next s
  | none => .next s

/-- ORPHAN (R382, R388): no POLL for ORPHAN_MS. -/
def execOrphan (s : State) : Res :=
  if isUp s && s.pack.role != 2 && param s 0xB001 0 != 0xFFFF && s.pack.packState != 2 &&
      decide (s.pack.pollAt.getD 0 + 1000000 * param s 0xB004 0 ≤ s.orbit.refNs) then
    .next (dropLost (raisePf { s with pack := { s.pack with packState := 2 } } 0x0B03 []))
  else .next s

/-! ## Barriers (R383 to R390) -/

/-- A barrier that is not defined (R384). -/
def noBarrier : Barrier := { defn := { valid := false, noScore := false, timeoutMs := 0, ranges := [], rsv := false }, gen := 0, moves := [] }

/-- Definition `b` as it stands. -/
def getBarrier (s : State) (b : Nat) : Barrier := tget s.pack.barriers noBarrier b

/-- Set definition `b`. -/
def setBarrier (s : State) (b : Nat) (x : Barrier) : State := { s with pack := { s.pack with barriers := tset s.pack.barriers b x } }

/-- The pairs (FABRIC_ID, moon) that ranges name, in order (R384). -/
def rangePairs (l : List BarRange) : List (Nat × Nat) := l.flatMap fun r => (upTo r.count).map fun i => (r.first + i, r.moon)

/-- A substitution applied to pairs (R389). -/
def movePair (l : List (Nat × Nat)) (v : BarMove) : List (Nat × Nat) :=
  l.map fun p => if p = (v.oldFabric, v.oldMoon) then (v.newFabric, v.newMoon) else p

/-- The member pairs of a barrier after its substitutions (R384, R389). -/
def barrierPairs (x : Barrier) : List (Nat × Nat) := x.moves.foldl movePair (rangePairs x.defn.ranges)

/-- The scope whose definitions this module holds (R383): a shepherd pack, a lead shepherd fabric. -/
def ownScope (s : State) : Option Nat := if s.pack.role = 1 then some 0 else if s.pack.role = 2 then some 1 else none

/-- A module's arrivals as the record orders them (R387): the latest orbit value of its moons, then FABRIC_ID. -/
def moduleArrivals (l : List ArriveMsg) : List (Nat × Nat) :=
  let mods := l.foldl (fun t a => tset t a.fabric (Nat.max (tget t 0 a.fabric) a.orbit)) []
  (mods.map fun e => (e.2, e.1)).mergeSort fun a b => decide (a.1 < b.1) || (a.1 == b.1 && decide (a.2 ≤ b.2))

/-- BARRIER_REC of an instance (R387); GAP_NS of a single module is not stated [7]. -/
def makeRecord (gen : W32) (result : Nat) (sample : Bool) (l : List ArriveMsg) : BarRec :=
  let o := moduleArrivals l
  let last := o.getLastD (0, 0)
  let gap := match o.reverse with
    | a :: b :: _ => Nat.min (a.1 - b.1) 0xFFFFFFFF
    | _ => Config.openValue 14 0 % 2 ^ 32
  { gen := gen, result := result, sample := sample, modules := o.length, firstOrbit := (o.headD (0, 0)).1, lastOrbit := last.1, gapNs := gap
    lastFabric := last.2, order := (o.drop (o.length - 64)).map Prod.snd }

/-- The 160 bytes of BARRIER_REC (R387). -/
def recordRecBytes (r : BarRec) : Bytes :=
  padTo (leBytes 4 r.gen.toNat ++ leBytes 1 r.result ++ leBytes 1 (if r.sample then 1 else 0) ++ leBytes 2 r.modules ++ leBytes 8 r.firstOrbit ++
    leBytes 8 r.lastOrbit ++ leBytes 4 r.gapNs ++ leBytes 2 r.lastFabric) 32 ++
  (r.order ++ List.replicate (64 - r.order.length) 0xFFFF).flatMap (leBytes 2)

/-- The instance gives a health sample (R391). -/
def givesSample (s : State) (x : Barrier) (l : List ArriveMsg) : Bool :=
  let o := moduleArrivals l
  s.pack.role == 1 && !x.defn.noScore && decide (4 ≤ o.length) && (l.all fun a => a.state == 1) &&
  (match memberOf s (o.getLastD (0, 0)).2 with | some e => (getMember s e).health != .expelled | none => false)

/-- The sample of an instance (R391): every arrived worker that is not EXPELLED. -/
def takeSample (s : State) (r : BarRec) (l : List ArriveMsg) : State :=
  let shift := param s 0xB021 0
  let s := (moduleArrivals l).foldl (fun s a =>
    match memberOf s a.2 with
    | none => s
    | some e =>
      let x := getMember s e
      if x.health = .expelled then s
      else
        let late := a.2 == r.lastFabric && decide (param s 0xB020 0 ≤ r.gapNs)
        let s := incA (setMember s e { x with score := nextScore x.score shift late }) 0xB015 e 1
        if late then incA s 0xB016 e 1 else s) (incB s 0xB052 0 1)
  evalHealth s

/-- An instance closes (R385 to R387): the record is written, GEN advances, the instance is gone. -/
def closeInstance (s : State) (b result : Nat) (sample : Bool) (l : List ArriveMsg) : State :=
  let x := getBarrier s b
  let s := setBarrier s b { x with gen := x.gen + 1 }
  { s with pack := { s.pack with
      records := tset s.pack.records b (makeRecord x.gen result sample l), instances := tdel s.pack.instances b } }

/-- The modules of arrivals, ascending FABRIC_ID. -/
def arrivedModules (l : List ArriveMsg) : List Nat := l.foldl (fun m a => addNum m a.fabric) []

/-- RELEASE to every member module (R385). -/
def releaseInstance (s : State) (scope b : Nat) (l : List ArriveMsg) : State :=
  let x := getBarrier s b
  let sample := givesSample s x l
  let s := incB (closeInstance s b 0 sample l) 0xB050 0 1
  let s := (arrivedModules l).foldl (fun s f =>
    if f = ownFabric s then settleArrivals s (fun a => a.scope == scope && a.barrier == b) 0 0
    else sendCtl s .release f [scope, b]) s
  if sample then takeSample s (tget s.pack.records (makeRecord 0 0 false []) b) l else s

/-- A refused ARRIVE (R390). -/
def refuseArrive (s : State) (g : ArriveMsg) (code detail : Nat) : State :=
  if g.fabric = ownFabric s then
    settleArrivals s (fun a => a.moon == g.moon && a.scope == g.scope && a.barrier == g.barrier) code detail
  else sendCtl s .arriveRefused g.fabric [g.moon, g.scope, g.barrier, code, detail]

/-- BARRIER (R201, R385, R390): an eligible BARRIER task starts and its moon arrives. -/
def execBarrier (m r : Nat) (s : State) : Res :=
  match readyTask s m r 6 with
  | none => .next s
  | some t =>
    if !moonRuns s m then .next s
    else
      let scope := t.desc.karg16
      let (s, t) := startTask s t .running
      if noCombiner s scope then .next (failTask s t 0x0504 0 0)
      else if combinerOf s scope = some (ownFabric s) ∧ !(getBarrier s t.desc.karg32).defn.valid then
        .next (failTask s t 0x0502 0 t.desc.karg32)
      else match sendArrive s m r t.seq scope t.desc.karg32 t.startAt with
        | some s => .next s
        | none => .next (failTask s t 0x0504 0 0)

/-- ARRIVE (R385, R387, R390): a member's arrival opens or joins the instance, and the last one releases it; an arrival sent again counts
once. -/
def execArrive (g : ArriveMsg) (s : State) : Res :=
  let x := getBarrier s g.barrier
  if !isUp s then .next s
  else if ownScope s ≠ some g.scope ∨ !x.defn.valid then .next (refuseArrive s g 0x0502 g.barrier)
  else if !(barrierPairs x).contains (g.fabric, g.moon) then .next (refuseArrive s g 0x0503 (ownFabric s))
  else
    let s := if g.fabric = ownFabric s then s else sendCtl s .arriveAck g.fabric [g.moon, g.scope, g.barrier]
    let i : Instance := tget s.pack.instances { arrived := [], openedAt := s.orbit.refNs } g.barrier
    let l := if i.arrived.any fun a => a.fabric == g.fabric && a.moon == g.moon then i.arrived else i.arrived ++ [g]
    if (barrierPairs x).all fun p => l.any fun a => a.fabric == p.1 && a.moon == p.2 then .next (releaseInstance s g.scope g.barrier l)
    else .next { s with pack := { s.pack with instances := tset s.pack.instances g.barrier { i with arrived := l } } }

/-- BARRIER_RELEASE (R385, R331): RELEASE reaches this module. -/
def execBarrierRelease (scope b : Nat) (s : State) : Res :=
  whenUp s (settleArrivals s (fun a => a.scope == scope && a.barrier == b) 0 0)

/-- WITHDRAW (R388): the arrival is taken back; no record is written. -/
def execWithdraw (g : ArriveMsg) (s : State) : Res :=
  match tfind s.pack.instances g.barrier with
  | none => .next s
  | some i =>
    if !isUp s || ownScope s != some g.scope then .next s
    else
      let l := i.arrived.filter fun a => !(a.fabric == g.fabric && a.moon == g.moon)
      .next { s with pack := { s.pack with
        instances := if l.isEmpty then tdel s.pack.instances g.barrier else tset s.pack.instances g.barrier { i with arrived := l } } }

/-- TIMEOUT_MS of a barrier, or BARRIER_TIMEOUT (R384), in ns. -/
def barrierTimeoutNs (s : State) (x : Barrier) : Nat :=
  1000000 * (if x.defn.timeoutMs = 0 then param s 0xB030 0 else x.defn.timeoutMs)

/-- BARRIER_TIMEOUT (R386): the instance fails, and so does every arrived member's task. -/
def execBarrierTimeout (b : Nat) (s : State) : Res :=
  match tfind s.pack.instances b, ownScope s with
  | some i, some scope =>
    let x := getBarrier s b
    if !isUp s || !decide (i.openedAt + barrierTimeoutNs s x ≤ s.orbit.refNs) then .next s
    else
      let l := i.arrived
      let missing := ((barrierPairs x).filter fun p => !l.any fun a => a.fabric == p.1 && a.moon == p.2).map Prod.fst
      let silent := missing.any fun f => match memberOf s f with | some e => (getMember s e).silent | none => false
      let low := leastOf missing 0xFFFF
      let code := if silent then 0x0506 else 0x0505
      let s := incB (closeInstance s b (if silent then 2 else 1) false l) 0xB051 0 1
      .next ((arrivedModules l).foldl (fun s f =>
        let moons := (l.filter fun a => a.fabric == f).map ArriveMsg.moon
        if f = ownFabric s then settleArrivals s (fun a => a.scope == scope && a.barrier == b && moons.contains a.moon) code low
        else sendCtl s .barFail f ([scope, b, code, low] ++ moons)) s)
  | _, _ => .next s

/-- A definition is refused as invalid, VALID or not (R384): a range or timeout outside its bounds, more than 4,096 pairs, a pair named twice, or for
pack scope a module that is no member; reserved fields are ignored (R10). -/
def badDef (s : State) (d : BarDef) : Bool :=
    (!(decide (1 ≤ d.ranges.length ∧ d.ranges.length ≤ 64)) || decide (600000 < d.timeoutMs) ||
     !(d.ranges.all fun r => decide (1 ≤ r.count ∧ r.count ≤ 4096) && decide (r.moon < 64) && decide (r.first + r.count ≤ 65536)) ||
     decide (4096 < (d.ranges.map BarRange.count).foldl (· + ·) 0) ||
     !(let p := rangePairs d.ranges; p.eraseDups.length == p.length) ||
     (s.pack.role == 1 && !(rangePairs d.ranges).all fun p => p.1 == ownFabric s || (memberOf s p.1).isSome))

/-- The 528 bytes of BARRIER_DEF (R384). -/
def barDefBytes (x : Barrier) : Bytes :=
  padTo (leBytes 1 ((if x.defn.valid then 1 else 0) + if x.defn.noScore then 2 else 0) ++ leBytes 1 x.defn.ranges.length ++
    leBytes 2 (barrierPairs x).length ++ leBytes 4 x.defn.timeoutMs ++ leBytes 4 x.gen.toNat ++ leBytes 4 0 ++
    x.defn.ranges.flatMap fun r => leBytes 2 r.first ++ leBytes 2 r.count ++ leBytes 4 r.moon) 528

/-- A BARRIER_DEF record from its bytes (R384): MEMBERS and GEN are ignored on a write. -/
def parseBarDef (b : Bytes) : BarDef :=
  let n := field b 1 1
  { valid := (field b 0 1).testBit 0, noScore := (field b 0 1).testBit 1, timeoutMs := field b 4 4
    ranges := (upTo (Nat.min n 65)).map fun i => ⟨field b (16 + 8 * i) 2, field b (18 + 8 * i) 2, field b (20 + 8 * i) 1⟩
    rsv := decide (4 ≤ field b 0 1) || field b 12 4 != 0 || (upTo (Nat.min n 64)).any fun i => field b (21 + 8 * i) 3 != 0 }

/-- A BARRIER_DEF write (R384): invalid, busy while the open instance holds arrivals, or taken; the substitutions go. -/
def writeBarDef (b : Nat) (d : BarDef) (s : State) : Except Nat State :=
  if badDef s d then .error 7
  else if (tfind s.pack.instances b).isSome then .error 8
  else if !isManager s then .ok s
  else
    let x : Barrier := { defn := d, gen := (getBarrier s b).gen, moves := [] }
    .ok (jAppend (setBarrier s b x) (.paramBlob (pkey 0xB040 b) (barDefBytes x)))

/-- BARRIER_DEF (R384). -/
def execBarrierDef (who : Who) (b : Nat) (d : BarDef) (s : State) : Res := command s who 0xB040 b (writeBarDef b d)

/-- A BARRIER_MOVE record from its bytes (R389). -/
def parseBarMove (b : Bytes) : BarMove := ⟨field b 0 2, field b 2 1, field b 4 2, field b 6 1, field b 3 1 != 0 || field b 7 1 != 0⟩

/-- The 8 bytes of a BARRIER_MOVE (R389). -/
def barMoveBytes (v : BarMove) : Bytes := leBytes 2 v.oldFabric ++ leBytes 2 v.oldMoon ++ leBytes 2 v.newFabric ++ leBytes 2 v.newMoon

/-- A BARRIER_MOVE write (R389): one member replaced, in the open instance and later ones. A pair that is no member has nothing to replace
and is refused as invalid [23]. -/
def writeBarMove (b : Nat) (v : BarMove) (s : State) : Except Nat State :=
  let x := getBarrier s b
  let l := barrierPairs x
  if !isManager s then .ok s
  else if decide (64 ≤ v.newMoon) || l.contains (v.newFabric, v.newMoon) || !l.contains (v.oldFabric, v.oldMoon) then .error 7
  else if ((tfind s.pack.instances b).map Instance.arrived).getD [] |>.any fun a => a.fabric == v.oldFabric && a.moon == v.oldMoon then .error 8
  else if 16 ≤ x.moves.length then .error 8
  else .ok (jAppend (setBarrier s b { x with moves := x.moves ++ [v] }) (.paramBlob (pkey 0xB042 b) (barMoveBytes v)))

/-- BARRIER_MOVE (R389). -/
def execBarrierMove (who : Who) (b : Nat) (v : BarMove) (s : State) : Res := command s who 0xB042 b (writeBarMove b v)

/-- PACK_STAT_READ (R406): any role clears the group. -/
def execPackStatRead (who : Who) (s : State) : Res := query s who 0xB050 0 fun s => readStat s 0xB050 0 true

end Sys2Proof.Machine
end

