-- ==== Sys2Proof/Machine/Orbit.lean ====
section
/-! DEFINITION. Orbit generation and distribution (R46, R47, R397 to R404, R406): the sources PINS, PTP and BEACON, and the rows PPS_EDGE,
REF_WINDOW, REF_LOSS, PPS_HOLDOVER, ORBIT_PPS_SECONDS, PTP_SYNC, PTP_SYNC_TIMEOUT, PTP_ANNOUNCE, PTP_DELAY_RESP, BEACON_SEND, BEACON,
BEACON_TIMEOUT, DELAY_REQ_SEND, DELAY_REQ, DELAY_RESP, ORBIT_SOURCE, ORBIT_STAT_READ. -/

namespace Sys2Proof.Machine

/-- Change the orbit unit. -/
def modOrbit (s : State) (f : OrbitUnit → OrbitUnit) : State := { s with orbit := f s.orbit }

/-- ORBIT_FLAGS (R404). -/
def orbitFlags (o : OrbitUnit) : Nat := (if o.upstream then 1 else 0) + (if o.onAlt then 2 else 0) + if o.diverged then 4 else 0

/-- The phase of slewing when the deviation is measured anew (R47): slewing that goes on in the same direction keeps its pace. -/
def reslew (o : OrbitUnit) (v : Int) : Nat := if (0 < o.slew ∧ 0 < v) ∨ (o.slew < 0 ∧ v < 0) then o.slewPhase else 0

/-- LOCKED on a source value (R47): the first lock steps every copy to it, a later one slews. -/
def lockTo (o : OrbitUnit) (v : Int) : OrbitUnit :=
  if o.everLocked then { o with state := .locked, slew := v - o.now, slewPhase := reslew o (v - o.now) }
  else
    let n := ofSigned 64 v
    { o with state := .locked, everLocked := true, now := n, lockAt := n, slew := 0, slewPhase := 0 }

/-- HOLDOVER, the count on the module reference; ORBIT_HOLDOVER on every entry (R46, R404). -/
def enterHoldover (s : State) : State :=
  if s.orbit.state = .holdover then s
  else raisePf (modOrbit s fun o => { o with state := .holdover, slew := 0, slewPhase := 0 }) 0x0201 []

/-- The source in force (R397): 0 BEACON, 1 PINS, 2 PTP. -/
def orbitSource (s : State) : Nat := param s 0x2032 0

/-! ## PINS (R398) -/

/-- The whole second nearest a time in ns. -/
def nearestSec (ns : Nat) : Nat := (ns + 500000000) / 1000000000

/-- The distance of two times. -/
def timeGap (a b : Nat) : Nat := (a - b) + (b - a)

/-- An edge outside the window, or without REF (R398). -/
def rejectEdge (s : State) : State := incB s 0x203C 0 1

/-- An accepted edge names a second. -/
def acceptEdge (s : State) (sec : Nat) : State :=
  modOrbit s fun o => { lockTo o ((1000000000 * sec : Nat) : Int) with
    edgeRef := o.refNs, edgeSec := sec, refExtra := 0, refCountAt := o.refNs }

/-- The count on REF goes on to now at a frequency; across an interval without REF it is that of the module reference (R398) [9]. -/
def countRef (o : OrbitUnit) (ppb : Int) : OrbitUnit :=
  { o with refExtra := o.refExtra + (if o.refValid then ppb * ((o.refNs - o.refCountAt : Nat) : Int) else 0), refCountAt := o.refNs }

/-- Time since the last accepted edge in ns, counted on REF while it was valid (R398). -/
def sinceEdge (o : OrbitUnit) : Nat := (((o.refNs - o.edgeRef : Nat) : Int) + (countRef o o.refPpb).refExtra / 1000000000).toNat

/-- The window of HOLDOVER in ns (R398, R404): 1 µs and 20 ppm of the time since the last accepted edge or the change of source, at most
499 ms. -/
def holdWindow (o : OrbitUnit) : Nat := Nat.min 499000000 (1000 + (o.refNs - Nat.max o.edgeRef o.sourceAt) / 50000)

/-- PPS_EDGE (R398). -/
def execPpsEdge (s : State) : Res :=
  let o := s.orbit
  if !isUp s || orbitSource s != 1 then .next s
  else if !o.refValid then .next (rejectEdge s)
  else match o.state with
    | .unlocked => .next (if o.ppsArmed then acceptEdge s (param s 0x2039 0) else s)
    | .locked =>
      let n := nearestSec (sinceEdge o)
      .next (if timeGap (sinceEdge o) (1000000000 * n) ≤ 1000 then acceptEdge s (o.edgeSec + n) else rejectEdge s)
    | .holdover =>
      let sec := nearestSec o.now
      .next (if timeGap o.now (1000000000 * sec) ≤ holdWindow o then acceptEdge s sec else rejectEdge s)

/-- REF_WINDOW (R398): a window of 1 s ends, with the frequency it measured against 10 MHz; a window that holds no cycle at all is followed
by one that is not whole. -/
def execRefWindow (ppb : Int) (s : State) : Res :=
  if !isUp s || orbitSource s != 1 then .next s
  else .next (modOrbit s fun o =>
    let o := { countRef o ppb with refPpb := ppb }
    if ppb.natAbs ≤ 5000 then { o with refValid := o.refValid || o.refWhole, refWhole := true }
    else { o with refValid := false, refWhole := decide (-1000000000 < ppb), refInvalidAt := if o.refValid then o.refNs else o.refInvalidAt })

/-- REF_LOSS (R398): no cycle for 1 µs. A module that does not use PINS ignores both inputs (R525). -/
def execRefLoss (s : State) : Res :=
  if !isUp s || orbitSource s != 1 then .next s
  else .next (modOrbit s fun o =>
    let o := countRef o o.refPpb
    { o with refValid := false, refWhole := false, refInvalidAt := if o.refValid then o.refNs else o.refInvalidAt })

/-- PPS_HOLDOVER (R398): REF invalid for 2 s, or no edge by the end of the window of the second 2 s after the last accepted one. -/
def execPpsHoldover (s : State) : Res :=
  let o := s.orbit
  if isUp s && orbitSource s == 1 && o.state == .locked &&
      ((!o.refValid && decide (o.refInvalidAt + 2000000000 ≤ o.refNs)) || decide (2000001000 ≤ sinceEdge o)) then
    .next (enterHoldover s)
  else .next s

/-- An ORBIT_PPS_SECONDS write (R398): refused above the largest second and after the first lock. -/
def writePps (v : Nat) (s : State) : Except Nat State :=
  if 18446744073 < v ∨ s.orbit.everLocked then .error 7
  else .ok (modOrbit (setParam s 0x2039 0 v) fun o => { o with ppsArmed := true })

/-- ORBIT_PPS_SECONDS (R398). -/
def execOrbitPpsSeconds (who : Who) (v : Nat) (s : State) : Res := command s who 0x2039 0 (writePps v)

/-! ## PTP (R399) -/

/-- The spread of offsets. -/
def spread (l : List Int) : Nat := (l.foldl max (l.headD 0) - l.foldl min (l.headD 0)).toNat

/-- PTP_ANNOUNCE (R399): the best data set of the domain, the smallest one with the clock identity in its low 64 bits; a clock's new data set
replaces its old one [9]. -/
def execPtpAnnounce (domain dataset : Nat) (s : State) : Res :=
  if !isUp s || orbitSource s != 2 || domain != param s 0x203A 0 then .next s
  else .next (modOrbit s fun o => match o.ptpMaster with
    | none => { o with ptpMaster := some dataset, ptpRun := [] }
    | some d =>
      if d % 2 ^ 64 = dataset % 2 ^ 64 then { o with ptpMaster := some dataset }
      else if dataset < d then { o with ptpMaster := some dataset, ptpRun := [] } else o)

/-- PTP_SYNC (R399): the Sync of the master, with its time in ns; 16 in a row whose offsets agree within 1 µs lock. A Delay_Req follows each Sync
[9]. -/
def execPtpSync (master time : Nat) (s : State) : Res :=
  if !isUp s || orbitSource s != 2 || s.orbit.ptpMaster.map (· % 2 ^ 64) != some (master % 2 ^ 64) then .next s
  else .next (modOrbit (emit s (.delayReq s.orbit.now)) fun o =>
    let off : Int := (o.now : Int) - (time + o.ptpDelay)
    let run := (off :: o.ptpRun).take 16
    let o := { o with ptpRun := run, ptpAt := o.refNs, ptpReq := some (time, o.now, o.now) }
    if o.state = .locked then { o with slew := -off, slewPhase := reslew o (-off) }
    else if run.length = 16 ∧ spread run ≤ 1000 then { lockTo o (o.now - off) with ptpRun := [] }
    else o)

/-- PTP_SYNC_TIMEOUT (R399): 5 s without Sync. -/
def execPtpSyncTimeout (s : State) : Res :=
  if !isUp s || orbitSource s != 2 || !decide (s.orbit.ptpAt + 5000000000 ≤ s.orbit.refNs) then .next s
  else
    let s := modOrbit s fun o => { o with ptpRun := [], ptpMaster := none }
    .next (if s.orbit.state = .locked then enterHoldover s else s)

/-- Half of a number of ns; the rounding of a half ns is not stated [7]. -/
def halfNs (d : Int) : Int := d / 2 + if d % 2 = 0 then 0 else ((Config.openValue 15 d.natAbs % 2 : Nat) : Int)

/-- PTP_DELAY_RESP (R399): the master's time of receipt t4 of the Delay_Req gives the path delay of the end-to-end mechanism, the mean of the ways
from the master at the Sync and to it. -/
def execPtpDelayResp (t4 : Nat) (s : State) : Res :=
  match s.orbit.ptpReq with
  | none => .next s
  | some (t1, t2, t3) =>
    if !isUp s || orbitSource s != 2 then .next s
    else .next (modOrbit s fun o => { o with ptpReq := none, ptpDelay := halfNs (((t2 : Int) - t1) + ((t4 : Int) - t3)) })

/-- A PTP_DOMAIN write (R399): the masters of another domain are heard anew. -/
def writeDomain (v : Nat) (s : State) : Except Nat State :=
  let t := setParamJ s 0x203A 0 v
  .ok (if v = param s 0x203A 0 then t else modOrbit t fun o => { o with ptpMaster := none, ptpRun := [], ptpReq := none, ptpAt := o.refNs })

/-! ## BEACON (R400 to R402) -/

/-- ORBIT_PORT or ORBIT_ALT_PORT (R401, R402). -/
def orbitPortOf (s : State) (alt : Bool) : Nat := param s (if alt then 0x2034 else 0x2033) 0

/-- The port in use (R402). -/
def portInUse (s : State) : Nat := orbitPortOf s s.orbit.onAlt

/-- Send a CONTROL flit on one UP SXL2 port (R372, R400). -/
def sendOn (s : State) (p : Nat) (kind : CtlKind) (args : List Nat) (payload : Bytes) : State :=
  let x := getPort s p
  let dest := (x.partner.map Partner.fabric).getD 0xFFFF
  if p < 32 ∧ x.phase = .up ∧ !x.sxl1 then
    offer (emit s (.control p kind dest args)) p 5 (mkFlit s 0 dest 0 0 0 payload)
  else s

/-- The payload of a BEACON (R400). -/
def beaconBytes (b : BeaconMsg) : Bytes :=
  padTo (leBytes 8 b.orbit ++ leBytes 2 b.seq.toNat ++ leBytes 1 b.state ++ leBytes 1 b.hop ++ leBytes 2 b.lead ++
    leBytes 1 (if b.upstream then 1 else 0)) 240

/-- The BEACON this module sends (R400). -/
def ownBeacon (s : State) : BeaconMsg :=
  let beacon := orbitSource s == 0
  { orbit := s.orbit.now, seq := s.orbit.beaconSeq, state := orbitCode s.orbit.state, hop := if beacon then param s 0x2038 0 else 0
    lead := if beacon then s.orbit.lead else ownFabric s, upstream := s.orbit.upstream }

/-- BEACON_SEND (R400): every 10 µs one BEACON on each UP SXL2 port of BEACON_OUT, unless UNLOCKED. -/
def execBeaconSend (s : State) : Res :=
  if !isUp s || s.orbit.state == .unlocked || decide (s.orbit.refNs < s.orbit.beaconSentAt + 10000) then .next s
  else
    let b := ownBeacon s
    let s := (bitsOf (param s 0x2035 0) 32).foldl (fun s p => sendOn s p .beacon [b.orbit, b.seq.toNat, b.state, b.hop, b.lead] (beaconBytes b)) s
    .next (modOrbit s fun o => { o with beaconSeq := o.beaconSeq + 1, beaconSentAt := o.refNs })

/-- The median of a port's round trips, twice its value to keep the halves of an even count. -/
def medianTwice (l : List Int) : Int :=
  let a := l.mergeSort fun x y => decide (x ≤ y)
  a.getD ((a.length - 1) / 2) 0 + a.getD (a.length / 2) 0

/-- The path delay D of a port in ns (R401), 0 before a measurement; the rounding of a part of a ns is not stated [7]. -/
def pathDelay (s : State) (p : Nat) : Int :=
  let q := medianTwice (tget s.orbit.delays [] p)
  q / 4 + if q % 4 = 0 then 0 else ((Config.openValue 15 q.natAbs % 2 : Nat) : Int)

/-- Whether |θ| above 1 µs has lasted 1 s after lock: DIVERGED, and ORBIT_DIVERGED once (R402). -/
def checkDiverged (s : State) : State :=
  match s.orbit.divergedAt with
  | none => s
  | some t =>
    if s.orbit.diverged || decide (s.orbit.refNs < t + 1000000000) then s
    else raisePf (modOrbit s fun o => { o with diverged := true }) 0x0202 [param s 0x2036 0]

/-- An offset of the port in use (R402): whether it has been above 1 µs, and since when. -/
def follow (s : State) (th : Int) : State :=
  checkDiverged (modOrbit s fun o => { o with
    divergedAt := if th.natAbs ≤ 1000 then none else match o.divergedAt with | some t => some t | none => some o.refNs })

/-- Take up a port (R402): ON_ALT_PORT and the published path delay follow the port in use. -/
def usePort (s : State) (alt : Bool) : State :=
  let s := modOrbit s fun o => { o with onAlt := alt, missRun := 0 }
  setParam s 0x2037 0 (pathDelay s (portInUse s)).toNat

/-- What every accepted BEACON gives (R400 to R402): its offset and its HOP + 1 published, the state upstream and the module at hop 0. An offset
outside ORBIT_OFFSET's 32 bits shows a free value [7]. -/
def takeBeacon (s : State) (b : BeaconMsg) (th : Int) : State :=
  let shown := if -2147483648 ≤ th ∧ th < 2147483648 then ofSigned 32 th else Config.openValue 16 th.natAbs % 2 ^ 32
  modOrbit (setParam (setParam s 0x2038 0 (b.hop + 1)) 0x2036 0 shown) fun o => { o with upstream := b.state == 2 || b.upstream, lead := b.lead }

/-- BEACON (R401, R402, R404). -/
def execBeacon (p : Nat) (b : BeaconMsg) (s : State) : Res :=
  let main := orbitPortOf s false
  let alt := orbitPortOf s true
  if !isUp s || orbitSource s != 0 || (p != main && p != alt) || decide (8 ≤ b.hop) then .next s
  else
    let th : Int := (s.orbit.now : Int) - ((b.orbit : Int) + pathDelay s p)
    let next := match tfind s.orbit.heard p with | some (q, _) => b.seq == q + 1 | none => false
    let run := (th :: if next then tget s.orbit.run [] p else []).take 16
    let s := modOrbit (takeBeacon s b th) fun o => { o with
      run := tset o.run p run, heard := tset o.heard p (b.seq, o.refNs), beaconAt := o.refNs }
    let isAlt := p != main
    match s.orbit.state with
    | .unlocked =>
      if (tget s.orbit.delays [] p).isEmpty || decide (run.length < 8) || decide (20 < spread (run.take 8)) then .next s
      else .next (follow (modOrbit (usePort s isAlt) fun o => lockTo o (o.now - th)) th)
    | .holdover =>
      .next (follow (modOrbit (usePort s isAlt) fun o => lockTo o (o.now - th)) th)
    | .locked =>
      let s := if s.orbit.onAlt && !isAlt && run.length == 16 then usePort s false else s
      if p ≠ portInUse s then .next s
      else .next (follow (modOrbit s fun o => { o with slew := -th, slewPhase := reslew o (-th), missRun := 0 }) th)

/-- The other port delivers: a BEACON within the last three periods (R402) [23]. -/
def otherDelivers (s : State) : Bool :=
  let q := orbitPortOf s (!s.orbit.onAlt)
  q != portInUse s && (match tfind s.orbit.heard q with | some (_, t) => decide (s.orbit.refNs ≤ t + 30000) | none => false)

/-- A BEACON is missing on the port in use (R400, R402): none for more than a period of 10 µs, the last counted miss apart. -/
def beaconMissing (s : State) : Bool :=
  let o := s.orbit
  let t := match tfind o.heard (portInUse s) with | some (_, t) => t | none => o.sourceAt
  decide (Nat.max t o.beaconMissAt + 10000 < o.refNs)

/-- BEACON_TIMEOUT (R402): a BEACON is missing on the port in use; the third in a row switches ports while the other delivers, and 100 µs
without any is HOLDOVER, also where the port in use is none. -/
def execBeaconTimeout (s : State) : Res :=
  if !isUp s || orbitSource s != 0 || !beaconMissing s then .next s
  else
    let p := portInUse s
    let s := modOrbit (if p = 0xFF then s else incB s 0x203B 0 1) fun o => { o with missRun := o.missRun + 1, run := tdel o.run p, beaconMissAt := o.refNs }
    let s := if 3 ≤ s.orbit.missRun ∧ otherDelivers s then usePort s (!s.orbit.onAlt) else s
    let s := checkDiverged s
    .next (if s.orbit.state = .locked ∧ s.orbit.beaconAt + 100000 ≤ s.orbit.refNs then enterHoldover s else s)

/-- DELAY_REQ_SEND (R401): every 1 ms on both orbit ports, at orbit t1. -/
def execDelayReqSend (s : State) : Res :=
  if !isUp s || orbitSource s != 0 || decide (s.orbit.refNs < s.orbit.delayReqAt + 1000000) then .next s
  else
    let s := modOrbit s fun o => { o with delayReqAt := o.refNs }
    let ports := addNum (addNum [] (orbitPortOf s false)) (orbitPortOf s true)
    .next (ports.foldl (fun s p => sendOn s p .delayReq [s.orbit.now] (leBytes 8 s.orbit.now)) s)

/-- DELAY_REQ (R401): the partner answers with its times of receipt and of sending. -/
def execDelayReq (p t1 : Nat) (s : State) : Res :=
  let t := s.orbit.now
  if !isUp s then .next s else .next (sendOn s p .delayResp [t1, t, t] (leBytes 8 t1 ++ leBytes 8 t ++ leBytes 8 t))

/-- DELAY_RESP (R401): the median of the last 16 delays follows. -/
def execDelayResp (p t1 t2 t3 t4 : Nat) (s : State) : Res :=
  if !isUp s || orbitSource s != 0 || (p != orbitPortOf s false && p != orbitPortOf s true) then .next s
  else
    let d : Int := ((t4 : Int) - t1) - ((t3 : Int) - t2)
    let s := modOrbit s fun o => { o with delays := tset o.delays p ((d :: tget o.delays [] p).take 16) }
    .next (if p = portInUse s then setParam s 0x2037 0 (pathDelay s p).toNat else s)

/-! ## Choice of source (R404, R406) -/

/-- An ORBIT_SOURCE write (R404): another source takes effect at once, through HOLDOVER after the first lock. -/
def writeSource (v : Nat) (s : State) : Except Nat State :=
  if 2 < v then .error 7
  else if v = orbitSource s then .ok s
  else
    let s := modOrbit (setParamJ s 0x2032 0 v) fun o => { o with
      sourceAt := o.refNs, run := [], heard := [], missRun := 0, ptpRun := [], ptpMaster := none, ptpAt := o.refNs, beaconAt := o.refNs
      divergedAt := none, upstream := false, ptpReq := none, refValid := false, refWhole := true, refInvalidAt := o.refNs }
    .ok (if s.orbit.state = .locked then enterHoldover s else s)

/-- An ORBIT_PORT or ORBIT_ALT_PORT write (R404): it takes effect at once, and what a port that is no longer named has delivered is gone; where the
port in use is another now, its misses count anew and its path delay is published. -/
def writeOrbitPort (alt : Bool) (v : Nat) (s : State) : Except Nat State :=
  let was := portInUse s
  let s := setParamJ s (if alt then 0x2034 else 0x2033) 0 v
  let named (p : Nat) : Bool := p == orbitPortOf s false || p == orbitPortOf s true
  let s := modOrbit s fun o => { o with run := o.run.filter fun e => named e.1, heard := o.heard.filter fun e => named e.1 }
  .ok (if portInUse s = was then s else modOrbit (usePort s s.orbit.onAlt) fun o => { o with beaconMissAt := o.refNs })

/-- ORBIT_SOURCE (R404). -/
def execOrbitSource (who : Who) (v : Nat) (s : State) : Res := command s who 0x2032 0 (writeSource v)

/-- ORBIT_STAT_READ (R406): any role clears the group. -/
def execOrbitStatRead (who : Who) (s : State) : Res := query s who 0x203B 0 fun s => readStat s 0x203B 0 true

end Sys2Proof.Machine
end

