-- ==== Sys2Proof/Machine/HostIf.lean ====
section
/-! DEFINITION. The host endpoint (R407 to R427): link, functions, ring windows, event queues, MSI-X and host-memory errors, and the rows
PERST_N_DEASSERT, HOT_RESET, FLR, VF_ENABLE, VF_ENABLE_CLEAR, WIN_BASE, RING_WINDOW_READ, RING_WINDOW_WRITE, EVQ_CFG, MSIX_UNMASK,
HOST_CPL_TIMEOUT, HOST_DMA_ERROR. -/

namespace Sys2Proof.Machine

/-- Change the endpoint. -/
def modHost (s : State) (f : HostUnit → HostUnit) : State := { s with host := f s.host }

/-- Change function `n`. -/
def modFn (s : State) (n : Nat) (f : Func → Func) : State := setFn s n (f (getFn s n))

/-- Function `n` exists (R411, R412). -/
def fnLive (s : State) (n : Nat) : Bool := n == 0 || vfOn s n

/-! ## Link (R407, R409) -/

/-- HOST_LINK of a trained mode (R427): the mode is what both ends and the channel support, a free choice [7]. -/
def hostLinkValue (n : Nat) : Nat :=
  let g := 4 + Config.openValue 17 n % 3
  g + 8 * (2 ^ (2 + Config.openValue 18 n % 3)) + if g = 6 then 256 else 0

/-- The endpoint trains once PERST_N is deasserted and the ROM stage has begun (R409). -/
def trainHost (s : State) : State :=
  if s.host.perst ∨ s.host.linkTraining ∨ dead s then s
  else
    let (n, s) := draw s
    modHost (setParam s 0x0010 0 (hostLinkValue n)) fun h => { h with linkTraining := true }

/-- The link is down, and trains anew as far as it may (R407, R409). -/
def retrainHost (s : State) : State := trainHost (modHost s fun h => { h with linkTraining := false })

/-- PERST_N_DEASSERT (R409). -/
def execPerstNDeassert (s : State) : Res := .next (retrainHost (modHost s fun h => { h with perst := false }))

/-! ## Resets of functions (R412, R413) -/

/-- ENABLE of a ring clears and it drains to DISABLED (R205, R209). -/
def disableRing (s : State) (m r : Nat) : State :=
  let x := getRing s m r
  if !x.enable then s
  else
    let s := setRing s m r { x with enable := false }
    if x.state = .draining ∨ x.state = .disabled then s else drainRing s m r

/-- A MOVE task that waits for host memory ends with HOST_DMA (R214, R425). -/
def failHostMove (s : State) (t : Task) (status : Nat) : State :=
  if t.phase == .running && t.desc.kind == 3 && (parseMove t.ext).srcHost == 1 && t.engine.isSome then
    failMove s s t ⟨0x0207, 0, status⟩
  else s

/-- Reads of host memory in flight for a moon fail (R413, R425): its MOVE tasks, and a fetch from host memory with code 0x000A. -/
def hostLost (s : State) (m status : Nat) : State :=
  let s := (s.tasks.tasks.filter fun t => t.moon == m).foldl (fun s t => failHostMove s t status) s
  match tfind s.fetch.jobs m with
  | some j => if j.cmd.bar4 then s else endFetch s m (hostDma status)
  | none => s

/-- A request that function `n`'s mailbox has taken, once the function is reset: it takes effect and its response is discarded (R424). -/
def orphan (n : Nat) (x : Nat × Bytes) : Nat × Bytes := if x.1 = n then (n + 64, x.2) else x

/-- A forwarded request came from function `n`'s mailbox. -/
def fromMailbox (n : Nat) (x : Forwarded) : Bool :=
  x.mailbox && match x.origin with
    | .pf => n == 0
    | .vf k => n == k
    | _ => false

/-- The state of a function goes back to reset (R413); what its mailbox still awaits is discarded when it comes (R424). -/
def resetFn (s : State) (n : Nat) : State :=
  let s := modHost s fun h => { h with
    funcs := tdel h.funcs n, taken := h.taken.map (orphan n), heldTaken := h.heldTaken.map (orphan n)
    waiting := h.waiting.filter fun w => w.fn != n, bar2Size := if n = 0 then 512 * 2 ^ 30 else h.bar2Size }
  { s with dict := { s.dict with forwarded := s.dict.forwarded.filter fun x => !fromMailbox n x } }

/-- An FLR as it meets one moon and its function (R413). -/
def flrMoon (s : State) (n : Nat) : State := (upTo 16).foldl (fun s r => disableRing s n r) (resetFn (hostLost s n 5) n)

/-- VF Enable and NumVFs change (R412, R413): a VF that goes loses its state, and its moon passes to the PF with its rings. -/
def setVfs (s : State) (n : Nat) : State :=
  let gone := (upTo 64).filter fun k => vfOn s k && decide (n < k)
  let s := gone.foldl (fun s k => resetFn (hostLost s k 6) k) s
  modHost s fun h => { h with vfEnable := decide (0 < n), numVfs := n }

/-- An FLR of the PF (R413): that of moon 0, VF Enable clears, and the reads of host memory that the PF makes for other moons fail. -/
def flrPf (s : State) : State :=
  let own := (upTo 64).filter fun m => m != 0 && hostFn s m == 0
  flrMoon (setVfs (own.foldl (fun s m => hostLost s m 5) s) 0) 0

/-- FLR (R413). -/
def execFlr (fn : Nat) (s : State) : Res :=
  if dead s || !fnLive s fn then .next s else .next (if fn = 0 then flrPf s else flrMoon s fn)

/-- HOT_RESET (R413): hot reset, link down or PERST_N assertion; the link trains again (R407), after a PERST_N assertion once more at its
deassertion [22]. -/
def execHotReset (s : State) : Res := if dead s then .next s else .next (retrainHost (flrPf s))

/-- VF_ENABLE (R412). -/
def execVfEnable (n : Nat) (s : State) : Res :=
  if dead s || decide (63 < n) || (s.host.vfEnable && decide (n ≤ s.host.numVfs)) then .next s else .next (setVfs s n)

/-- VF_ENABLE_CLEAR (R413). -/
def execVfEnableClear (n : Nat) (s : State) : Res :=
  if dead s || !s.host.vfEnable || decide (s.host.numVfs ≤ n) then .next s else .next (setVfs s n)

/-! ## Configuration space (R408, R411, R414, R425) -/

/-- Type bits of a function's BAR register at a configuration offset (R414): 64-bit, and prefetchable where the table has it so; a VF has none of
its own, and VF BAR0 stands in the SR-IOV capability. -/
def barType (fn o : Nat) : Nat :=
  if fn = 0 ∧ (o = 0x10 ∨ o = 0x184) then 0x4 else if fn = 0 ∧ (o = 0x18 ∨ o = 0x20) then 0xC else 0

/-- Sizes of the BARs by their configuration offset (R414). -/
def barBytes (s : State) (o : Nat) : Nat :=
  if o = 0x10 then 2 ^ 26 else if o = 0x18 then s.host.bar2Size else if o = 0x20 then 2 ^ 28 else 2 ^ 22

/-- Writable bits of a BAR: those of its address at or above its size, of the low half or of the high one (R414). -/
def barMask (s : State) (o : Nat) (high : Bool) : Nat :=
  let m := 2 ^ 64 - barBytes s o
  if high then m / 2 ^ 32 else m % 2 ^ 32

/-- Writable bits of a 32-bit register of configuration space, where PCI Express has them [22]: Command, the BARs, Device Control with
Max_Payload_Size and Max_Read_Request_Size, Device Control 2 with the Completion Timeout, AER, ACS and SR-IOV. -/
def configMask (s : State) (fn o : Nat) : Nat :=
  match o with
  | 0x004 => 0x142
  | 0x010 | 0x018 | 0x020 => if fn = 0 then barMask s o false else 0
  | 0x014 | 0x01C | 0x024 => if fn = 0 then barMask s (o - 4) true else 0
  | 0x048 => 0x79FF
  | 0x068 => if fn = 0 then 0x101F else 0x1000
  | 0x108 | 0x10C => 0x07FFF030
  | 0x114 => 0xF1C1
  | 0x144 => 0x4C0000
  | 0x168 => if fn = 0 then 0x18 else 0
  | 0x184 => if fn = 0 then barMask s o false else 0
  | 0x188 => if fn = 0 then barMask s 0x184 true else 0
  | _ => 0

/-- Fixed and live bits of a 32-bit register of configuration space: the identity and SR-IOV values of R411, the sizes and features of R408, the
types of R414 and the timeout ranges of R425, in the registers that PCI Express gives them; the capabilities stand where this model puts them
[22]. -/
def configFixed (s : State) (fn o : Nat) : Nat :=
  let pf (v : Nat) : Nat := if fn = 0 then v else 0
  match o with
  | 0x000 => 0x1E9A + 2 ^ 16 * (if fn = 0 then 0xC640 else 0xC641)
  | 0x004 => 2 ^ 20 + if (getFn s fn).busMaster then 4 else 0
  | 0x008 => 0xB0 + 2 ^ 8 * 0x120000
  | 0x010 | 0x018 | 0x020 => barType fn o
  | 0x034 => 0x40
  | 0x040 => 0x00028010
  | 0x044 => 2 + 2 ^ 5 + 2 ^ 28
  | 0x064 => 0xF + 2 ^ 4 + 2 ^ 16 + 2 ^ 17
  | 0x080 => 0x11 + 2 ^ 16 * (if fn = 0 then 2047 else 63)
  | 0x084 => 0x80000
  | 0x088 => 0x90000
  | 0x100 => 0x14020001
  | 0x140 => 0x1501000D
  | 0x144 => 0x4C
  | 0x150 => 0x1601000E
  | 0x154 => 2 ^ 8 * (if fn = 0 ∧ s.host.vfEnable then 1 else 0)
  | 0x160 => pf 0x1A010010
  | 0x168 => pf (if s.host.vfEnable then 1 else 0)
  | 0x16C => pf (63 + 2 ^ 16 * 63)
  | 0x170 => pf s.host.numVfs
  | 0x174 => pf (1 + 2 ^ 16)
  | 0x178 => pf (2 ^ 16 * 0xC641)
  | 0x17C | 0x180 => pf 1
  | 0x184 => barType fn o
  | 0x1A0 => pf 0x00010015
  | 0x1A4 => pf (((upTo 10).map fun i => 2 ^ (14 + i)).foldl (· + ·) 0)
  | 0x1A8 => pf (2 + 2 ^ 5 + 2 ^ 8 * (Nat.log2 s.host.bar2Size - 20))
  | _ => 0

/-- A 32-bit register of configuration space as a configuration read answers it (R409, R411). -/
def configWord (s : State) (fn o : Nat) : Nat :=
  let v := tget (getFn s fn).cfg 0 (o / 4)
  Nat.lor (if o = 0x104 ∨ o = 0x110 then v else Nat.land v (configMask s fn o)) (configFixed s fn o)

/-! ## Ring windows (R415, R417) -/

/-- The size of a function's ring window (R415). -/
def windowSize (fn : Nat) : Nat := if fn = 0 then 2 ^ 19 else 2 ^ 21

/-- The moon whose page a function addresses: a VF always its own (R415). -/
def pageMoon (fn m : Nat) : Nat := if fn = 0 then m else fn

/-- A 32-bit half of a 64-bit register replaced (R416). -/
def putHalf (old : Nat) (high : Bool) (v : W32) : Nat :=
  if high then old % 2 ^ 32 + 2 ^ 32 * v.toNat else old / 2 ^ 32 % 2 ^ 32 * 2 ^ 32 + v.toNat

/-- A high half under which some value lies in the HBM region (R42). -/
def hbmHigh (h : Nat) : Bool := decide (hbmRegion / 2 ^ 32 ≤ h) && decide (h ≤ (hbmEnd - 1) / 2 ^ 32)

/-- WIN_BASE (R416, R417): each half as it arrives; a value that is not aligned to the window or lies outside the HBM region is not taken. A low half
that comes before its high half, under one that no value of the region has, is taken: what is held then maps to no MA [22]. -/
def execWinBase (fn m : Nat) (high : Bool) (v : W32) (s : State) : Res :=
  let m := pageMoon fn m
  let n := putHalf (tget s.host.winBase 0 m) high v
  if ringAccess s fn m && n % windowSize fn == 0 && ((decide (hbmRegion ≤ n) && decide (n < hbmEnd)) || (!high && !hbmHigh (n / 2 ^ 32))) then
    .next (modHost s fun h => { h with winBase := tset h.winBase m n })
  else .next s

/-- The moon address that a window offset maps to (R417); none before a WIN_BASE has been taken, and past the window. -/
def windowMa (s : State) (fn m offset len : Nat) : Option Nat :=
  let b := tget s.host.winBase 0 m
  if hbmRegion ≤ b ∧ b < hbmEnd ∧ offset + len ≤ windowSize fn then some (b + offset) else none

/-- A window access that failed a check (R417). -/
def windowDenied (s : State) (m : Nat) : State := modHost s fun h => { h with winDenied := tmod h.winDenied 0 m fun n => satAdd n 1 }

/-- RING_WINDOW_READ (R410, R412, R417); a read of a MIGRATING page waits (R169, R426). -/
def execRingWindowRead (fn m offset len : Nat) (s : State) : Res :=
  let m := pageMoon fn m
  let ones := List.replicate len (0xFF : Byte)
  if dead s then .next s
  else if !ringAccess s fn m then .next (respond s ones)
  else match windowMa s fn m offset len with
    | none => .next (respond (windowDenied s m) ones)
    | some ma =>
      match readMa s m none ma len with
      | .ok b => .next (respond (streamAccess s m ma len 0 true) b)
      | .error e =>
        if e.code = 0 then .next s
        else if e.code = 0x0204 then .next (respond (countUe s m e.code e.ma) ones)
        else .next (respond (windowDenied s m) ones)

/-- A window write lands at a moon's MA (R417). -/
def storeWindow (s : State) (fn m ma : Nat) (b : Bytes) : State :=
  if !ringAccess s fn m then s
  else match writeMa (streamAccess s m ma b.length 0 false) m ma b with
    | .ok s => s
    | .error _ => windowDenied s m

/-- A window write waits: its page or bank is held by a MIGRATING mark (R169, R426). -/
def windowWaits (s : State) (m ma n : Nat) : Bool := (checkWrite s m (n / 64 + 2) ma n).map Fail.code == some 0

/-- RING_WINDOW_WRITE (R410, R412, R417, R426): a write of a MIGRATING page waits, and so do the function's writes after it. -/
def execRingWindowWrite (fn m offset : Nat) (b : Bytes) (s : State) : Res :=
  let m := pageMoon fn m
  if !ringAccess s fn m then .next s
  else match windowMa s fn m offset b.length with
    | none => .next (windowDenied s m)
    | some ma =>
      .next (if hostWaits s fn || windowWaits s m ma b.length then holdWrite s (.window fn m ma b) else storeWindow s fn m ma b)

/-! ## Event queues and MSI-X (R416, R421) -/

/-- Events that waited for the queue to be served (R489, R498, R515) are written. -/
def flushHeld (s : State) (fn : Nat) : State :=
  let l := s.host.heldEvents.filter fun e => e.fn == fn
  let s := modHost s fun h => { h with heldEvents := h.heldEvents.filter fun e => e.fn != fn }
  l.foldl (fun s e => postEvent s e.fn e.code e.moon e.orbit e.args) s

/-- Raise an event to the PF when its queue is next served (R498, R515). -/
def raiseServed (s : State) (code : Nat) (args : List Nat) : State :=
  let f := getFn s 0
  if f.evqEnable && f.busMaster && s.fw.swap.isNone then raisePf s code args
  else modHost s fun h => { h with heldEvents := h.heldEvents ++ [⟨0, code, 0xFF, s.orbit.now, args⟩] }

/-- EVQ_CFG (R416): while ENABLE is 1, LOG2_SIZE stays; ENABLE is refused with CFG_ERR for a bad size or base. -/
def execEvqCfg (fn : Nat) (v : W32) (s : State) : Res :=
  let f := getFn s fn
  let en := v.toNat.testBit 4
  if dead s || !fnLive s fn then .next s
  else if f.evqEnable then .next (setFn s fn { f with evqEnable := en })
  else
    let f := { f with evqLog2 := v.toNat % 16 }
    if !en then .next (setFn s fn f)
    else if 6 ≤ f.evqLog2 ∧ f.evqLog2 ≤ 12 ∧ f.evqBase % 4096 = 0 then
      let s := setFn s fn { f with evqEnable := true }
      .next (if s.fw.swap.isNone then flushHeld s fn else s)
    else .next (setFn s fn { f with evqCfgErr := true })

/-- A vector of a function exists (R415). -/
def vectorOk (fn v : Nat) : Bool := decide (v < if fn = 0 then 2048 else 64)

/-- MSIX_UNMASK (R421): a pending vector sends its one message. -/
def execMsixUnmask (fn v : Nat) (s : State) : Res :=
  let f := getFn s fn
  if dead s || !fnLive s fn || !vectorOk fn v || f.unmasked.contains v then .next s
  else
    let g := { f with unmasked := addNum f.unmasked v }
    if f.pendingVecs.contains v ∧ f.busMaster then .next (emit (setFn s fn { g with pendingVecs := delNum g.pendingVecs v }) (.msix fn v))
    else .next (setFn s fn g)

/-! ## Host memory reads that fail (R425) -/

/-- A host-memory read of a MOVE task, or of the moon's fetch, ended with a completion status (R425) [22]. -/
def hostReadFailed (s : State) (m : Nat) (task : Option (Nat × W32)) (status : Nat) : State :=
  match task with
  | some (r, q) =>
    (match findTask s m r q with
     | some t => failHostMove s t status
     | none => s)
  | none =>
    match tfind s.fetch.jobs m with
    | some j => if j.cmd.bar4 then s else endFetch s m (hostDma status)
    | none => s

/-- An error of AER's Uncorrectable Error Status of a function (R408), at PCI Express's bit [22]. -/
def noteAer (s : State) (fn bit : Nat) : State :=
  modFn s fn fun f => { f with cfg := tmod f.cfg 0 0x41 fun v => if v.testBit bit then v else v + 2 ^ bit }

/-- HOST_CPL_TIMEOUT (R425): completion status 3, counted; none while the PF's Completion Timeout Disable is set. -/
def execHostCplTimeout (m : Nat) (task : Option (Nat × W32)) (s : State) : Res :=
  if (tget (getFn s 0).cfg 0 0x1A).testBit 4 then .next s
  else whenUp s (noteAer (hostReadFailed (incA s 0x0013 0 1) m task 3) (hostFn s m) 14)

/-- HOST_DMA_ERROR (R425): Unsupported Request, Completer Abort or Poisoned. -/
def execHostDmaError (m : Nat) (task : Option (Nat × W32)) (status : Nat) (s : State) : Res :=
  if status = 1 ∨ status = 2 ∨ status = 4 then
    whenUp s (let t := hostReadFailed s m task status; if status = 4 then noteAer t (hostFn s m) 12 else t)
  else .next s

end Sys2Proof.Machine
end

