-- ==== Sys2Proof/Machine/Power.lean ====
section
/-! DEFINITION. Input, throttling, thermal response, Drain and the power-fail stop (R454 to R464, R467 to R474), and the rows
POWER_FAIL_DETECT, INPUT_OV, INPUT_HIGH, INPUT_LOW, REGULATOR, POWER_CONTROL_UPDATE, THERMAL_EVALUATE, LEAK, DRAIN, UNDRAIN,
POWER_STAT_READ. -/

namespace Sys2Proof.Machine

/-- Change the power unit. -/
def modPower (s : State) (f : PowerUnit → PowerUnit) : State := { s with power := f s.power }

/-! ## Input (R456) -/

/-- INPUT_OV (R456): above 62.0 V for 1 ms. -/
def execInputOv (s : State) : Res := .next (faultStop s .inputOv)

/-- The band that an input voltage in mV lies in. -/
def inputBand (mv : Nat) : InputBand :=
  if mv < 44000 then .under else if mv < 46000 then .low else if mv ≤ 60000 then .normal else if mv ≤ 62000 then .high else .over

/-- An input voltage is sampled (R456, R459): entering the high or the low band raises its event. -/
def sampleInput (s : State) (mv : Nat) : State :=
  let t := modPower s fun p => { p with band := inputBand mv }
  if inputBand mv = s.power.band then s
  else match inputBand mv with
    | .high => raisePf t 0x0103 [milliF32 mv]
    | .low => raisePf t 0x0102 [milliF32 mv]
    | _ => t

/-- INPUT_HIGH (R456): the input enters the band above 60.0 V up to 62.0 V, also from above; a sample beyond the band leaves it. -/
def execInputHigh (mv : Nat) (s : State) : Res := if 60000 < mv then whenUp s (sampleInput s mv) else .next s

/-- INPUT_LOW (R456): the input enters the band from 44.0 V to below 46.0 V, also from below; a sample beyond the band leaves it. -/
def execInputLow (mv : Nat) (s : State) : Res := if mv < 46000 then whenUp s (sampleInput s mv) else .next s

/-- REGULATOR (R470 to R472): the rail is switched off, PWR_GOOD is deasserted, Fault-Stop. -/
def execRegulator (rail : Nat) (s : State) : Res :=
  if dead s then .next s
  else .next (faultStop (modPower s fun p => { p with failedRail := some rail, pwrGood := false }) .regulator)

/-- LEAK (R464): LEAK_N asserted for 10 ms, whatever the state. -/
def execLeak (s : State) : Res :=
  if dead s then .next s else .next (faultStop (modPower s fun p => { p with leak := true }) .leak)

/-! ## Power-fail stop (R457) -/

/-- What outlasts the removal of power: flash, fuses, and the model's own queue, outputs and counter (R430, R475, R488, R502); BOOT_EPOCH counts on, so
that members see a manager that starts again (R379, R382) [59]. -/
def coldState (s : State) : State :=
  { State.reset with
    pending := s.pending
    journal := { s.journal with openPage := [], programming := [], compacting := false, compactWaits := false, snapAt := 0, countAt := 0 }
    fw := { s.fw with swap := none, staging := none, retrainPorts := [], trialAt := 0, lastOp := 0, code := 0 }
    sec := { SecUnit.reset with operatorKeys := s.sec.operatorKeys }
    pack := { PackUnit.reset with bootEpoch := s.pack.bootEpoch }
    host := { HostUnit.reset with perst := s.host.perst }
    out := s.out
    free := s.free }

/-- PF1 to PF3 (R457): tasks are abandoned without records, the journal commits with the open totals, the rails go off. -/
def powerOff (s : State) : State :=
  let s := if s.journal.valid then jCommit (jAppend s (.ledgerSnap (openTotals s))) else s
  modPower (coldState s) fun p => { p with railsOffAt := some 0 }

/-- POWER_FAIL_DETECT (R456, R457): below 44.0 V for 20 µs, also in Fault-Stop and during start-up. -/
def execPowerFailDetect (s : State) : Res := if s.power.phase = .off then .next s else .next (powerOff s)

/-! ## Power control (R458 to R461) -/

/-- The lesser of two impedances, each a voltage over a current. -/
def zLe (a b : Nat × Nat) : Bool := decide (a.1 * b.2 ≤ b.1 * a.2)

/-- The median of the load steps in ohms as a fraction (R461); none until 8 have been measured. -/
def impedance (p : PowerUnit) : Option (Nat × Nat) :=
  if p.zSamples.length < 8 then none
  else
    let l := p.zSamples.mergeSort zLe
    let a := l.getD ((l.length - 1) / 2) (0, 1)
    let b := l.getD (l.length / 2) (0, 1)
    some (a.1 * b.2 + b.1 * a.2, 2 * a.2 * b.2)

/-- The droop ceiling in mW (R461) at `v` mV and `i` mA: 45 V × (V + I × Z − 45 V) / Z; none while Z is unknown or 0, which sets no limit. -/
def droopMw (p : PowerUnit) (v i : Nat) : Option Int :=
  match impedance p with
  | none => none
  | some (a, b) => if a = 0 then none else some (45 * (((v * b + i * a : Nat) : Int) - (45000 * b : Nat)) / (a : Int))

/-- FP32 of a fraction. -/
def ratioF32 (a : Int) (b : Nat) : Nat := bits32 (rn32 (divNum (Num.ofInt a) (Num.ofInt b)))

/-- Input power expected under a share, times 64 − t: the part above 420 W scales with the slots issued (R459). -/
def shareEnough (p100 : Nat) (t u : Nat) (target : Int) : Bool :=
  decide (420000 * ((64 - t : Nat) : Int) + ((p100 : Int) - 420000) * ((64 - u : Nat) : Int) ≤ target * ((64 - t : Nat) : Int))

/-- The power share after an update (R459). -/
def nextShare (t p100 : Nat) (target : Int) : Nat :=
  if target < p100 then ((upTo 65).find? fun u => decide (t ≤ u) && shareEnough p100 t u target).getD 64
  else if (p100 : Int) < target - 50000 then t - 1 else t

/-- The input values that an update measures (R474). -/
def measureInput (s : State) (x : PowerSample) : State :=
  let h := (x.p10 :: s.power.powerHist).take 100
  let seen := match inputBand x.milliVolt with | .high => s.power.band | .low => s.power.band | b => b
  let s := modPower s fun p => { p with powerHist := h, band := seen }
  let s := setParam s 0x1100 0 (milliF32 x.milliVolt)
  let s := setParam s 0x1101 0 (milliF32 x.milliAmp)
  let s := setParam s 0x1102 0 (ratioF32 (h.foldl (· + ·) 0 : Nat) (1000 * h.length))
  let e := s.power.energyRest + x.p10
  let s := modPower s fun p => { p with energyRest := e % 100000000 }
  if e < 100000000 then s else incA s 0x1030 0 (e / 100000000)

/-- A load step of at least 20 A joins the last 32 (R461): Z is published, and IMPEDANCE_HIGH raised once per start-up. -/
def measureStep (s : State) (dv di : Nat) : State :=
  if di < 20000 then s
  else
    let s := modPower s fun p => { p with zSamples := ((dv, di) :: p.zSamples).take 32 }
    match impedance s.power with
    | none => s
    | some (a, b) =>
      let s := setParam s 0x1103 0 (ratioF32 (1000 * a : Nat) b)
      if param s 0x1012 0 * b < 1000 * a ∧ !s.power.zRaised then
        raisePf (modPower s fun p => { p with zRaised := true }) 0x0104 [param s 0x1103 0]
      else s

/-- POWER_CONTROL_UPDATE (R459, R461, R474): every 10 µs; in Boot and in Fault-Stop the input is still measured. -/
def execPowerControlUpdate (x : PowerSample) (s : State) : Res :=
  if dead s then .next s
  else if !isUp s then .next (measureInput s x)
  else
    let s := measureInput s x
    let s := match x.loadStep with | some (dv, di) => measureStep s dv di | none => s
    let p := s.power
    let s := if p.powerShare = 0 then s else incB s 0x1020 0 10
    let s := if p.thermalShare.any fun e => e.2 != 0 then incB s 0x1021 0 10 else s
    let ceil := droopMw p x.milliVolt x.milliAmp
    let s := match impedance p, ceil with
      | none, _ => s
      | some _, some c => setParam s 0x1104 0 (ratioF32 c 1000)
      | some _, none => setParam s 0x1104 0 (Config.openValue 19 x.milliVolt % 2 ^ 32)
    let lim (w : Int) : Int := match ceil with | some c => min w c | none => w
    let cap := match impedance p with
      | none => min ((1000 * param s 0x1000 0 : Nat) : Int) 2800000
      | some _ => lim (1000 * param s 0x1000 0 : Nat)
    let e := min 800000000 (p.credit + cap - x.p10)
    let full := decide (e = 800000000)
    let s := if p.creditFull && !full then incB s 0x1022 0 1 else s
    let target := if 0 < e then lim 2800000 else cap
    .next (modPower s fun p => { p with credit := e, creditFull := full, powerShare := nextShare p.powerShare x.p100 target })

/-- THROTTLE_NOW of a die (R458). -/
def throttleNow (s : State) (die : Nat) : Nat := Nat.max s.power.powerShare (tget s.power.thermalShare 0 die)

/-! ## Thermal response (R462) -/

/-- The thermal share of a die after a reading, and DIE_HOT on entry (R462). -/
def thermalShift (s : State) (die : Nat) (milliC : Int) : State :=
  let t := Num.ofInt milliC
  let limit := Num.mul (num32 (param s 0x1010 0)) (Num.ofInt 1000)
  let sh := tget s.power.thermalShare 0 die
  if Num.le limit t then
    let s := if s.power.hotDies.contains die then s
             else raisePf (modPower s fun p => { p with hotDies := addNum p.hotDies die }) 0x0107 [die, milliF32 milliC]
    modPower s fun p => { p with thermalShare := tset p.thermalShare die (Nat.min 64 (sh + 1)) }
  else
    let s := modPower s fun p => { p with hotDies := delNum p.hotDies die }
    if Num.lt t (Num.add limit (Num.ofInt (-2000))) then modPower s fun p => { p with thermalShare := tset p.thermalShare die (sh - 1) } else s

/-- THERMAL_EVALUATE (R462): the hottest reading of a die, every 1 ms, from Boot on; every line whose condition holds acts. -/
def execThermalEvaluate (die : Nat) (milliC : Int) (s : State) : Res :=
  if dead s || decide (4 ≤ die) then .next s
  else
    let s := thermalShift (setParam s 0x1110 die (milliF32 milliC)) die milliC
    .next (if 115000 ≤ milliC then faultStop s .dieOvertemp else s)

/-- Coolant readings (R463): published, a sensor outside −20 °C to 120 °C invalid, its fault raised once; COOLANT_HOT on entry. -/
def readCoolant (s : State) (inlet outlet : Int) : State :=
  let ok (t : Int) : Bool := decide (-20000 ≤ t ∧ t ≤ 120000)
  let shown (t : Int) : Nat := if ok t then milliF32 t else 0x7FC00000
  let s := setParam (setParam s 0x1120 0 (shown inlet)) 0x1121 0 (shown outlet)
  let s := setParam s 0x1122 0 ((if ok inlet then 1 else 0) + if ok outlet then 2 else 0)
  let note (s : State) (i : Nat) (t : Int) : State :=
    if ok t || s.power.sensorFaults.contains i then s
    else raisePf (modPower s fun p => { p with sensorFaults := addNum p.sensorFaults i }) 0x0106 [i]
  let s := note (note s 0 inlet) 1 outlet
  let hot := ok inlet && Num.lt (Num.mul (num32 (param s 0x1011 0)) (Num.ofInt 1000)) (Num.ofInt inlet)
  let was := s.power.coolantHot
  let s := modPower s fun p => { p with coolantHot := hot }
  if hot && !was then raisePf s 0x0105 [shown inlet] else s

/-! ## Drain (R468) -/

/-- A POWER_CMD write (R468). -/
def powerCmd (v : Nat) (s : State) : Except Nat State :=
  if v = 1 then .ok (announce s (modPower s fun p => { p with draining := true }))
  else if v = 2 then .ok (announce s (modPower s fun p => { p with draining := false }))
  else .error 7

/-- DRAIN (R468). -/
def execDrain (who : Who) (s : State) : Res := command s who 0x1001 0 (powerCmd 1)

/-- UNDRAIN (R468). -/
def execUndrain (who : Who) (s : State) : Res := command s who 0x1001 0 (powerCmd 2)

/-- POWER_STAT_READ (R474): any role clears the group. -/
def execPowerStatRead (who : Who) (s : State) : Res := query s who 0x1020 0 fun s => readStat s 0x1020 0 true

end Sys2Proof.Machine
end

