-- ==== Sys2Proof/Machine/Journal.lean ====
section
/-! DEFINITION. The journal (R475 to R484, R486, R494): pages, compaction and reset, and the rows JOURNAL_PAGE_TIMER,
JOURNAL_PAGE_PROGRAMMED, COMPACT_AT, COMPACT_NOW, JOURNAL_RESET, COMPACTION_DONE, SVC_CLEAR. -/

namespace Sys2Proof.Machine

/-- Change the journal unit. -/
def modJournal (s : State) (f : JournalUnit → JournalUnit) : State := { s with journal := f s.journal }

/-- Pages of a journal region: 464 MiB of 4 KiB (R475). -/
def regionPages : Nat := 118784

/-- Pages that records fill in order, each record within one page (R476). -/
def packPages (used : Nat) (l : List JRec) : Nat :=
  match l with
  | [] => 1
  | r :: t =>
    let n := recordLen r.payload
    if used + n ≤ 4096 then packPages (used + n) t else 1 + packPages n t

/-! ## What a checkpoint holds (R482) -/

/-- ns in 10,080 minutes (R254). -/
def ledgerKeepNs : Nat := 604800000000000

/-- A record number at or before another (R220). -/
def seqAtOrBefore (a b : W32) : Bool := decide ((b - a).toNat < 2 ^ 31)

/-- A ledger record may be dropped: acknowledged later, or older than 10,080 minutes. -/
def closeGone (now : Nat) (later : List JRec) (c : LedgerRec) : Bool :=
  decide (c.endOrbit + ledgerKeepNs < now) ||
  later.any fun r => match r.payload with | .ledgerAck m q => m == c.moon && seqAtOrBefore c.recSeq q | _ => false

/-- The keys of counters that later records hold. -/
def laterCounters (later : List JRec) : List Nat :=
  later.flatMap fun r => match r.payload with | .counters v => v.map Prod.fst | _ => []

/-- The moons whose totals later records hold. -/
def laterSnaps (later : List JRec) : List Nat :=
  later.flatMap fun r => match r.payload with | .ledgerSnap v => v.map Prod.fst | _ => []

/-- What is live of a record, given the later ones (R482); superseded values are dropped. CORE_FAIL records stay live, since a failed core
is never remapped into service (R484); the substitutions of a barrier stay until its definition is written again (R389). -/
def livePart (now : Nat) (later : List JRec) (p : JPayload) : Option JPayload :=
  let keep (b : Bool) : Option JPayload := if b then none else some p
  match p with
  | .ledgerClose c => keep (closeGone now later c)
  | .ledgerSnap v =>
    let l := v.filter fun e => !(laterSnaps later).contains e.1
    if l.isEmpty then none else some (.ledgerSnap l)
  | .ledgerAck m _ => keep (later.any fun r => match r.payload with | .ledgerAck k _ => k == m | _ => false)
  | .coreMap die lc _ _ => keep (later.any fun r => match r.payload with | .coreMap d c _ _ => d == die && c == lc | _ => false)
  | .softFuse .. => some p
  | .spareBad .. => some p
  | .hbmRepair .. => some p
  | .pageRetire st pg _ _ => keep (later.any fun r => match r.payload with | .pageRetire a b _ _ => a == st && b == pg | _ => false)
  | .coreFail .. => some p
  | .param k _ => keep (later.any fun r => match r.payload with | .param j _ => j == k | _ => false)
  | .paramBlob k _ => keep (later.any fun r => match r.payload with
      | .paramBlob j _ => if k / 65536 = 0xB042 then j == pkey 0xB040 (k % 65536) else j == k
      | _ => false)
  | .nonceCeil _ => keep (later.any fun r => match r.payload with | .nonceCeil _ => true | _ => false)
  | .counters v =>
    let l := v.filter fun e => !(laterCounters later).contains e.1
    if l.isEmpty then none else some (.counters l)
  | .health e _ _ _ => keep (later.any fun r => match r.payload with | .health f _ _ _ => f == e | _ => false)
  | .svc _ => keep (later.any fun r => match r.payload with | .svc _ => true | _ => false)
  | .fwBank _ _ _ => keep (later.any fun r => match r.payload with | .fwBank _ _ _ => true | _ => false)
  | .fault _ => none
  | .compactBegin _ _ => none
  | .compactEnd _ _ _ _ => none

/-- The checkpoint of records: one per live item, each with CHECKPOINT and the S0 of the compaction (R476, R482). -/
def checkpointOf (now : Nat) (s0 : W32) (l : List JRec) : List JRec :=
  match l with
  | [] => []
  | r :: later =>
    match livePart now later r.payload with
    | some p => { r with payload := p, checkpoint := true, seq := s0 } :: checkpointOf now s0 later
    | none => checkpointOf now s0 later

/-! ## Compaction (R481, R482) -/

/-- JOURNAL_WEAR in percent (R480). -/
def journalWear (j : JournalUnit) : Nat := j.erases.foldl (fun n e => Nat.max n e.2) 0 / 1000

/-- A region is erased: its count, and JOURNAL_WEAR past 90% (R480). -/
def eraseRegion (s : State) (k : Nat) : State :=
  let s := modJournal s fun j => { j with erases := tmod j.erases 0 k (· + 1) }
  if 90 < journalWear s.journal then setSvc s 4 else s

/-- C1 of R482; a trigger while a compaction runs has no effect, one during a firmware swap waits (R481). -/
def startCompaction (s : State) : State :=
  let j := s.journal
  if j.compacting then s
  else if s.fw.swap.isSome then modJournal s fun j => { j with compactWaits := true }
  else
    let n := j.seq
    let s := jMust s (.compactBegin (j.epoch.toNat + 1) (1 - j.active))
    eraseRegion (modJournal s fun j => { j with compacting := true, s0 := n, compactWaits := false }) (1 - j.active)

/-- The fill trigger: 75% of the region's pages (R481). -/
def fillTrigger (s : State) : State :=
  if isUp s && s.journal.valid && !s.journal.compacting && decide (3 * regionPages ≤ 4 * s.journal.pages) then startCompaction s else s

/-- Ledger records that the checkpoint drops as expired leave a gap (R254, R482). -/
def dropExpired (s : State) : State :=
  { s with moons := s.moons.map fun e =>
      let l := e.2.ledger
      let old := l.records.any fun r => decide (r.endOrbit + ledgerKeepNs < s.orbit.now)
      (e.1, if old then { e.2 with ledger := { l with
        records := l.records.filter fun r => !decide (r.endOrbit + ledgerKeepNs < s.orbit.now), gap := true } } else e.2) }

/-- COMPACTION_DONE (R482): the target holds the checkpoint, the records after S0 and COMPACT_END, and becomes active. -/
def execCompactionDone (s : State) : Res :=
  let j := s.journal
  if !j.compacting || dead s || s.fw.swap.isSome then .next s
  else
    let isBegin (r : JRec) : Bool := match r.payload with | .compactBegin e _ => e == j.epoch.toNat + 1 | _ => false
    let before := j.committed.takeWhile fun r => !isBegin r
    let after := (j.committed.dropWhile fun r => !isBegin r).drop 1
    let cp := checkpointOf s.orbit.now j.s0 before
    let last := match after.getLast? with | some r => r.seq | none => j.s0
    let fin : JRec := { seq := j.seq, time := if s.orbit.state == .unlocked then s.orbit.refNs else s.orbit.now,
                        timeLocal := s.orbit.state == .unlocked, checkpoint := false,
                        payload := .compactEnd (j.epoch.toNat + 1) j.s0.toNat last.toNat cp.length }
    let l := cp ++ after ++ [fin]
    let s := modJournal (incA s 0xB106 0 1) fun j => { j with
      committed := l, active := 1 - j.active, epoch := j.epoch + 1, seq := j.seq + 1, pages := packPages 0 l, compacting := false }
    .next (raisePf (dropExpired (incA s 0xB107 0 1)) 0x0C02 [s.journal.epoch.toNat, j.s0.toNat])

/-- COMPACT_AT (R203, R481): orbit reaches it; it returns to 0. -/
def execCompactAt (s : State) : Res :=
  let at_ := param s 0xB104 0
  if isUp s && at_ != 0 && s.orbit.state != .unlocked && decide (at_ ≤ s.orbit.now) && !earlierDue s 9 at_ then .next (startCompaction (setParamJ s 0xB104 0 0))
  else .next s

/-- A JOURNAL_CMD write (R481, R484): COMPACT_NOW, or RESET in Fault-Stop JOURNAL alone. -/
def journalCmd (v : Nat) (s : State) : Except Nat State :=
  let stopped := s.power.phase == .faultStop
  if v = 1 then .ok (if stopped && !s.journal.valid then s else startCompaction s)
  else if v = 2 ∧ stopped ∧ s.power.faultReason = FaultReason.journal.code then
    let s := eraseRegion (eraseRegion s 0) 1
    .ok (modJournal s fun j => { j with
      active := 0, epoch := 0, committed := [], openPage := [], programming := [], pages := 1, compacting := false, compactWaits := false
      torn := false, valid := true, wasReset := true, gapNext := true })
  else .error 7

/-- COMPACT_NOW (R481). -/
def execCompactNow (who : Who) (s : State) : Res := command s who 0xB105 0 (journalCmd 1)

/-- JOURNAL_RESET (R484). -/
def execJournalReset (who : Who) (s : State) : Res := command s who 0xB105 0 (journalCmd 2)

/-! ## Pages (R478, R480) -/

/-- JOURNAL_PAGE_TIMER (R478): 100 ms after its first record the open page is programmed. -/
def execJournalPageTimer (s : State) : Res :=
  match s.journal.openPage with
  | [] => .next s
  | r :: _ =>
    if !dead s && s.fw.swap.isNone && decide (r.time + 100000000 ≤ if r.timeLocal then s.orbit.refNs else s.orbit.now) then
      .next (modJournal s fun j => { j with programming := j.programming ++ j.openPage, openPage := [], pages := j.pages + 1 })
    else .next s

/-- JOURNAL_PAGE_PROGRAMMED (R478, R480): the program with its read-back has ended; a failed block is replaced from SPARE and its records are
written again. -/
def execJournalPageProgrammed (failedBlock : Bool) (s : State) : Res :=
  if dead s || s.fw.swap.isSome || s.journal.programming.isEmpty then .next s
  else if failedBlock && s.journal.spare == 0 then .next (faultStop s .journal)
  else
    let s := if failedBlock then incA (modJournal s fun j => { j with spare := j.spare - 1 }) 0xB108 0 1 else s
    .next (fillTrigger (modJournal s fun j => { j with committed := j.committed ++ j.programming, programming := [] }))

/-- JOURNAL_STATE (R494). -/
def journalState (j : JournalUnit) : Nat :=
  j.active + (if j.compacting then 2 else 0) + (if j.torn then 4 else 0) + (if j.wasReset then 8 else 0) + if j.spare < 16 then 16 else 0

/-- JOURNAL_FILL in percent (R494). -/
def journalFill (j : JournalUnit) : Nat := 100 * j.pages / regionPages

/-! ## Servicing (R486) -/

/-- A bit of SVC_REASON still meets its condition (R486): only LINK_FAILED can end in the field. -/
def svcHolds (s : State) (bit : Nat) : Bool := bit != 2 || s.links.ports.any fun e => e.2.phase == .failed

/-- A SVC_CLEAR write (R486, R472). -/
def clearSvc (mask : Nat) (s : State) : Except Nat State :=
  let named := (bitsOf mask 5).filter fun b => s.power.svcReason.toNat.testBit b
  if named.any (svcHolds s) then .error 7
  else if named.isEmpty then .ok s
  else
    let v : W32 := BitVec.ofNat 32 (maskOf ((bitsOf s.power.svcReason.toNat 32).filter fun b => !named.contains b))
    let t := modPower s fun p => { p with svcReason := v, svcReqPin := p.svcReqPin && v != 0 }
    .ok (announce s (jAppend t (.svc v)))

/-- SVC_CLEAR (R486). -/
def execSvcClear (who : Who) (mask : W32) (s : State) : Res := command s who 0xB140 0 (clearSvc mask.toNat)

end Sys2Proof.Machine
end

