-- ==== Sys2Proof/Machine/Firmware.lean ====
section
/-! DEFINITION. Firmware banks and core microcode (R488 to R490, R497 to R500), and the rows STAGE, FW_STAGED, ACTIVATE, COMMIT, REVERT,
FW_TRIAL_EXPIRE, FW_WATCHDOG, FW_SWAP_DONE, RELOAD_STALE, STOP. -/

namespace Sys2Proof.Machine

/-- Change the firmware unit. -/
def modFw (s : State) (f : FwUnit → FwUnit) : State := { s with fw := f s.fw }

/-- Firmware bank `b` (0 A, 1 B). -/
def getBank (s : State) (b : Nat) : Bank := tget s.fw.banks Bank.reset b

/-- ASCII bytes of a text (R495). -/
def ascii (t : String) : Bytes := t.toList.map fun c => BitVec.ofNat 8 c.toNat

/-! ## Verification (R497, R498) -/

/-- Bytes of a signature (R495). -/
def sigBytes : Nat := 4627

/-- The image digest: SHA3-512 over header and body (R497). -/
def imageDigest (b : Bytes) : Bytes := Config.sha3 (b.take (b.length - sigBytes))

/-- The header of an image is valid: MAGIC, IMAGE_VER, reserved fields, sizes, SVN (R497). -/
def imageHeaderOk (b : Bytes) : Bool :=
  decide (4883 ≤ b.length) && decide (b.length ≤ 33554432) && field b 0 4 == 0x46574C56 && field b 4 2 == 1 && field b 6 2 == 0 &&
  field b 0x18 40 == 0 && field b 0x80 128 == 0 && field b 0x10 4 + 4883 == b.length && decide (1 ≤ field b 0xC 4) &&
  decide (field b 0xC 4 ≤ 64)

/-- The first check that an image fails, 0 for none (R498). -/
def verifyImage (s : State) (b : Bytes) : Nat :=
  if !imageHeaderOk b then 1
  else match (upTo 4).find? fun i => !s.fw.revoked.contains i && Config.sha3 (Config.romKey i) == slice b 0x40 64 with
    | none => 2
    | some i =>
      if !Config.dsaVerify (Config.romKey i) (imageDigest b) (b.drop (b.length - sigBytes)) then 3
      else if field b 0xC 4 < s.fw.fusedSvn then 4 else 0

/-- A bank that holds an image (R494). -/
def bankOf (b : Bytes) (valid : Bool) : Bank :=
  { image := b, digest := imageDigest b, version := field b 8 4, svn := field b 0xC 4, mcode := field b 0x14 4, valid := valid }

/-- FW_STATE (R488). -/
def fwState (f : FwUnit) : Nat :=
  f.running + (if f.trial then 2 else 0) + 4 * f.other + (if f.fellBack then 16 else 0) + 2 ^ 8 * f.lastOp + 2 ^ 16 * f.code

/-- FW_BANK_INFO of a bank (R494): its state is OTHER_STATE, or VALID for the running one. -/
def bankInfo (s : State) (b : Nat) : Bytes :=
  let x := getBank s b
  padTo (padTo x.digest 64 ++ leBytes 4 x.version ++ leBytes 4 x.svn ++ leBytes 1 (if b = s.fw.running then 2 else s.fw.other)) 80

/-- Journal FW_BANK, committed before the module acts (R477, R478, R488). -/
def noteBanks (s : State) : State := jMust s (.fwBank s.fw.running (if s.fw.trial then 1 else 0) s.fw.other)

/-! ## FW_CMD (R488, R500) -/

/-- A FW_CMD completes with a code. -/
def fwDone (s : State) (op code : Nat) : State := modFw s fun f => { f with lastOp := op, code := code }

/-- Commit the running bank (R500): the fuses first, then TRIAL; a bank below the new FUSED_SVN becomes INVALID. -/
def commitFw (s : State) : State :=
  let svn := (getBank s s.fw.running).svn
  let up := decide (s.fw.fusedSvn < svn)
  let s := if up then raisePf (modFw s fun f => { f with fusedSvn := svn }) 0x0A05 [svn] else s
  let o := getBank s (1 - s.fw.running)
  let drop := up && s.fw.other == 2 && decide (o.svn < svn)
  noteBanks (modFw s fun f => { f with
    trial := false, other := if drop then 3 else f.other
    banks := if drop then tset f.banks (1 - f.running) { o with valid := false } else f.banks })

/-- W1 and W2 of R489: FW_BANK names the new running bank, the swap begins, and requests that mailboxes have taken stay BUSY. -/
def startSwap (s : State) (dest : Nat) (trial auto : Bool) : State :=
  let s := modFw (jMust s (.fwBank dest (if trial then 1 else 0) 2)) fun f => { f with swap := some (dest, auto) }
  modHost s fun h => { h with taken := [], heldTaken := h.heldTaken ++ h.taken }

/-- A FW_CMD write (R488): 1 STAGE, 2 ACTIVATE, 3 COMMIT, 4 REVERT. -/
def fwCmd (op : Nat) (c : FwCmd) (s : State) : Except Nat State :=
  let other := 1 - s.fw.running
  if op = 0 ∨ 4 < op ∨ (op = 1 ∧ !(decide (1 ≤ c.length ∧ c.length ≤ 33554432))) then .ok (fwDone s op 1)
  else match op with
    | 1 =>
      if s.fw.trial ∨ s.fw.staging.isSome then .ok (fwDone s op 2)
      else .ok (modFw (fwDone s op 0) fun f => { f with other := 1, staging := some c.length, banks := tset f.banks other Bank.reset })
    | 2 =>
      if s.journal.compacting then .ok (fwDone s op 5)
      else if s.fw.other ≠ 2 ∨ s.fw.trial then .ok (fwDone s op 2)
      else .ok (startSwap (fwDone s op 0) other true false)
    | 3 => if s.fw.trial then .ok (commitFw (fwDone s op 0)) else .ok (fwDone s op 2)
    | _ => if s.fw.trial then .ok (startSwap (fwDone s op 0) other false false) else .ok (fwDone s op 2)

/-- STAGE (R488). -/
def execStage (who : Who) (c : FwCmd) (s : State) : Res := command s who 0xB110 0 (fwCmd 1 c)

/-- ACTIVATE (R488, R489). -/
def execActivate (who : Who) (c : FwCmd) (s : State) : Res := command s who 0xB110 0 (fwCmd 2 c)

/-- COMMIT (R488, R500). -/
def execCommit (who : Who) (c : FwCmd) (s : State) : Res := command s who 0xB110 0 (fwCmd 3 c)

/-- REVERT (R488). -/
def execRevert (who : Who) (c : FwCmd) (s : State) : Res := command s who 0xB110 0 (fwCmd 4 c)

/-- FW_STAGED (R488, R498): the image has been copied, or host memory failed, and the bank is verified. -/
def execFwStaged (image : Bytes) (hostStatus : Nat) (s : State) : Res :=
  if dead s then .next s
  else match s.fw.staging with
    | none => .next s
    | some n =>
      let b := 1 - s.fw.running
      let image := slice image 0 n
      let why := verifyImage s image
      let s := modFw s fun f => { f with staging := none }
      let s :=
        if hostStatus ≠ 0 then modFw s fun f => { f with other := 3, code := 3 }
        else
          let s := modFw s fun f => { f with
            banks := tset f.banks b (bankOf image (why == 0)), other := if why = 0 then 2 else 3, code := if why = 0 then 0 else 4 }
          if why = 0 then s else raiseServed s 0x0A04 [b, why]
      let s := noteBanks s
      .next (raisePf s 0x0C03 [fwState s.fw])

/-- The management controller runs a bank's firmware (R465, R471): in service and in Fault-Stop. -/
def fwServes (s : State) : Bool := !dead s && s.power.phase != .boot

/-- FW_TRIAL_EXPIRE (R488, R500): the trial period ends as by COMMIT. -/
def execFwTrialExpire (s : State) : Res :=
  if fwServes s && s.fw.trial && s.fw.swap.isNone && decide (s.fw.trialAt + 1000000000 * param s 0xB113 0 ≤ s.orbit.refNs) then .next (commitFw s)
  else .next s

/-- FW_WATCHDOG (R488): during TRIAL the module reverts by itself. -/
def execFwWatchdog (s : State) : Res :=
  if fwServes s && s.fw.trial && s.fw.swap.isNone then .next (startSwap s (1 - s.fw.running) false true) else .next s

/-! ## The swap (R489, R490) -/

/-- The next port whose SerDes settings differ in the new bank is retrained once the previous one is UP or FAILED (R490). -/
def retrainNext (s : State) : State :=
  match s.fw.retrainPorts with
  | [] => s
  | p :: rest =>
    if s.links.ports.any fun e => e.2.phase == .retraining then s
    else
      let s := modFw s fun f => { f with retrainPorts := rest }
      if (getPort s p).phase = .up then startRetrain s p else s

/-- W3 (R489, R503, R508): the FWK, every offer and every session end with the bank that ran. -/
def endFirmware (s : State) : State :=
  { s with sec := { s.sec with
      offers := [], provisional := none, proven := none } }

/-- W4 (R481, R489): the dictionary is live for the requests that waited, records held since W1 commit, held events are written, a waiting
compaction starts. -/
def swapLive (s : State) : State :=
  let s := jCommit (modFw s fun f => { f with swap := none })
  let s := modHost s fun h => { h with taken := h.heldTaken ++ h.taken, heldTaken := [] }
  let s := ((s.host.heldEvents.map HeldEvent.fn).foldl addNum []).foldl flushHeld s
  if s.journal.compactWaits then startCompaction s else s

/-- FW_SWAP_DONE (R488, R489): the new bank runs after its second verification and the handover check; otherwise the module goes back to the
committed bank with FELL_BACK and FW_FALLBACK. -/
def execFwSwapDone (verified : Bool) (s : State) : Res :=
  match s.fw.swap with
  | none => .next s
  | some (dest, auto) =>
    if dead s then .next s
    else
      let back := s.fw.trial
      let why := if (getBank s dest).image.isEmpty then 0 else verifyImage s (getBank s dest).image
      let s := endFirmware s
      if verified && why == 0 then
        let s := modFw s fun f => { f with
          running := dest, trial := !back, other := 2, fellBack := auto, trialAt := s.orbit.refNs
          retrainPorts := if back then f.retrainPorts else (upTo 32).filter fun p => Config.serdesDiffers (getBank s dest).version p }
        let s := swapLive s
        let s := if auto then raisePf s 0x0C05 [fwState s.fw] else s
        .next (retrainNext (raisePf s 0x0C04 [fwState s.fw]))
      else
        let s := if why = 0 then s else raiseServed s 0x0A04 [dest, why]
        let s := modFw s fun f => { f with fellBack := true, other := if why = 0 then f.other else 3 }
        let s := swapLive (noteBanks s)
        .next (raisePf s 0x0C05 [fwState s.fw])

/-! ## Microcode (R490) -/

/-- A MCODE_CMD write (R490): 1 RELOAD_STALE, 2 STOP. -/
def mcodeCmd (v : Nat) (s : State) : Except Nat State :=
  if v = 1 then .ok { s with cores := { s.cores with reloading := true } }
  else if v = 2 then .ok { s with cores := { s.cores with reloading := false } }
  else .error 7

/-- RELOAD_STALE (R490). -/
def execReloadStale (who : Who) (s : State) : Res := command s who 0xB120 0 (mcodeCmd 1)

/-- STOP (R490). -/
def execStop (who : Who) (s : State) : Res := command s who 0xB120 0 (mcodeCmd 2)

end Sys2Proof.Machine
end

