-- ==== Sys2Proof/Machine/Security.lean ====
section
/-! DEFINITION. Keys, sessions, attestation and the debug lock (R495 to R517), and the rows OPERATOR_KEY_DIGEST, SESSION_OFFER, KEY_OFFER,
OFFER_EXPIRE, SESSION_OPEN, SESSION_PROVE, ATTEST_REPORT, KEY_LOAD, GENERATE, ERASE, DBG_CHALLENGE, DBG_RESPONSE. -/

namespace Sys2Proof.Machine

/-- Change the security unit. -/
def modSec (s : State) (f : SecUnit → SecUnit) : State := { s with sec := f s.sec }

/-- `n` fresh bytes of entropy (R495) [4]. -/
def freshBytes (s : State) (n : Nat) : Bytes × State :=
  let (k, s) := draw s
  (leBytes n (Config.entropy k), s)

/-- MODULE_IDENTITY as bytes. -/
def identityBytes : Bytes := leBytes 8 Config.moduleIdentity

/-! ## Identity (R496, R501) -/

/-- The seed of the device identity key (R496). -/
def dikSeed : Bytes := (Config.sha3 (ascii "VLR-DIK" ++ Config.uds)).take 32

/-- The seed of the running firmware's key (R496). -/
def fwkSeed (s : State) : Bytes :=
  let b := getBank s s.fw.running
  (Config.sha3 (ascii "VLR-FWK" ++ Config.uds ++ padTo b.digest 64 ++ leBytes 4 b.svn)).take 32

/-- Bytes signed: the bytes, then the signature over their digest (R495). -/
def signed (seed b : Bytes) : Bytes := b ++ slice (Config.dsaSign seed (Config.sha3 b)) 0 sigBytes

/-- FW_CERT (R501). -/
def fwCert (s : State) : Bytes :=
  let b := getBank s s.fw.running
  signed dikSeed (leBytes 2 1 ++ leBytes 1 2 ++ leBytes 5 0 ++ identityBytes ++ slice (Config.sha3 (Config.dsaPublic dikSeed)) 0 64 ++
    padTo b.digest 64 ++ leBytes 4 b.svn ++ leBytes 12 0 ++ slice (Config.dsaPublic (fwkSeed s)) 0 2592)

/-! ## Operator key (R502) -/

/-- The operator key digest in force: the last slot written. -/
def operatorDigest (s : State) : Option Bytes := s.sec.operatorKeys.getLast?

/-- Sessions end (R508). -/
def endSessions (s : State) : State := modSec s fun x => { x with provisional := none, proven := none }

/-- Only the operator-key role writes OPERATOR_KEY_DIGEST once a slot is written (R502). -/
def keyClaimed (s : State) (who : Who) : Bool := who.role != .operatorKey && !s.sec.operatorKeys.isEmpty

/-- An OPERATOR_KEY_DIGEST write (R502): from the PF only while no slot is written. -/
def writeDigest (who : Who) (d : Bytes) (s : State) : Except Nat State :=
  if keyClaimed s who then .error 10
  else if d.length ≠ 64 then .error 6
  else if allZero d || decide (4 ≤ s.sec.operatorKeys.length) then .error 7
  else .ok (endSessions (modSec s fun x => { x with operatorKeys := x.operatorKeys ++ [d] }))

/-- OPERATOR_KEY_DIGEST (R502). -/
def execOperatorKeyDigest (who : Who) (d : Bytes) (s : State) : Res := command s who 0xA001 0 (writeDigest who d)

/-! ## Offers (R503) -/

/-- The live offer of a kind: a moon's, or the session offer (0xFF); none lives longer than 60 s on the module reference. -/
def liveOffer (s : State) (m : Nat) : Option Offer :=
  s.sec.offers.find? fun o => o.moon == m && decide (s.orbit.refNs < o.at_ + 60000000000)

/-- An offer ends (R503, R513). -/
def endOffer (s : State) (id : Nat) : State := modSec s fun x => { x with offers := x.offers.filter fun o => o.id != id }

/-- A new offer of a moon, or of a session (R503): it replaces a live one of its kind. -/
def makeOffer (m : Nat) (s : State) : State × Bytes :=
  let (a, s) := freshBytes s 8
  let id := 1 + leNat a % (2 ^ 64 - 1)
  let (seed, s) := freshBytes s 64
  let o : Offer := { id := id, moon := m, seed := seed, at_ := s.orbit.refNs }
  let b := leBytes 8 id ++ identityBytes ++ leBytes 1 m ++ leBytes 7 0 ++ leBytes 8 s.orbit.now ++ slice (Config.kemPublic seed) 0 1568
  (modSec s fun x => { x with offers := (x.offers.filter fun y => y.moon != m) ++ [o] }, signed (fwkSeed s) b)

/-- Keep a value for reads in pieces by the same role and path (R438). -/
def keepPieces (s : State) (who : Who) (p e : Nat) (b : Bytes) : State :=
  { s with dict := { s.dict with
      pieces := (s.dict.pieces.filter fun x => !(x.who == who && x.param == p && x.element == e)) ++ [⟨who, p, e, b, s.orbit.refNs⟩] } }

/-- SESSION_OFFER (R503). -/
def execSessionOffer (who : Who) (s : State) : Res :=
  query s who 0xA002 0 fun s => let (s, b) := makeOffer 0xFF s; .ok (keepPieces s who 0xA002 0 b, b)

/-- KEY_OFFER (R503). -/
def execKeyOffer (who : Who) (m : Nat) (s : State) : Res :=
  let m := effMoon who m
  query s who 0xA030 m fun s => let (s, b) := makeOffer m s; .ok (keepPieces s who 0xA030 m b, b)

/-- OFFER_EXPIRE (R503): 60 s on the module reference. -/
def execOfferExpire (id : Nat) (s : State) : Res :=
  if s.sec.offers.any fun o => o.id == id && decide (o.at_ + 60000000000 ≤ s.orbit.refNs) then .next (endOffer s id) else .next s

/-! ## Sessions (R504 to R508) -/

/-- A SESSION_OPEN write (R504). -/
def sessionOpen (v : Bytes) (s : State) : Except Nat State :=
  if v.length ≠ 1584 then .error 6
  else match liveOffer s 0xFF with
    | none => .error 7
    | some o =>
      if field v 0 8 ≠ o.id then .error 7
      else
        let ct := v.drop 16
        let kp := Config.kmac (Config.kemDecap o.seed ct) (leBytes 8 o.id ++ identityBytes) 256 "VLR-SESSION"
        let s := modSec (endOffer s o.id) fun x => { x with provisional := some (kp, o.id, Config.sha3 ct) }
        .ok { s with dict := { s.dict with nonceProv := 0 } }

/-- SESSION_OPEN (R504, R507). -/
def execSessionOpen (who : Who) (v : Bytes) (s : State) : Res := command s who 0xA003 0 (sessionOpen v)

/-- A SESSION_PROVE write (R505): the provisional key is proven, or its session ends. -/
def sessionProve (v : Bytes) (s : State) : State × Nat :=
  if v.length ≠ 7219 then (s, 6)
  else match s.sec.provisional with
    | none => (s, 7)
    | some (kp, id, ct) =>
      let pub := v.take 2592
      let msg := Config.sha3 (ascii "VLR-PROVE" ++ leBytes 8 id ++ identityBytes ++ ct)
      if operatorDigest s = some (Config.sha3 pub) ∧ Config.dsaVerify pub msg (v.drop 2592) then
        (raisePf (modSec s fun x => { x with proven := some kp, provisional := none }) 0x0A02 [id], 0)
      else (modSec s fun x => { x with provisional := none }, 7)

/-- SESSION_PROVE (R505). -/
def execSessionProve (who : Who) (v : Bytes) (s : State) : Res :=
  if dead s then .next s
  else
    let c := writeStatus s who 0xA004 0
    if c ≠ 0 then .next (answer s c) else let (t, c) := sessionProve v s; .next (answer t c)

/-! ## Attestation (R509, R510) -/

/-- The number of MOON_STATE (R228). -/
def moonCode : MoonState → Nat
  | .free => 0
  | .admitting => 1
  | .active => 2
  | .waiting => 3
  | .suspended => 4
  | .resizing => 5
  | .migrating => 6
  | .moved => 7
  | .arriving => 8
  | .releasing => 9

/-- Key slot of a moon. -/
def keySlot (s : State) (m : Nat) : KeySlot := tget s.sec.slots KeySlot.reset m

/-- ATTEST_NONCE of a role and moon (R509). -/
def attestNonce (s : State) (who : Who) (m : Nat) : Bytes := padTo (tget s.sec.nonces [] (8 * m + roleCode who.role)) 32

/-- A version entry of a slot entry (R510). -/
def versionEntry (s : State) (v : Option Version) : Bytes :=
  match v with
  | none => List.replicate 132 0
  | some v =>
    let f := 1 + (match v.kind with | .current => 2 | .staged => 4 | .pinnedOld => 8 | .waitingOverlay => 64) +
      (if v.shared.isSome then 16 else 0) + if v.derived then 32 else 0
    let man := match v.shared with | some b => (tget s.fetch.shared SharedBase.reset b).manifest | none => if v.derived then [] else v.manifest
    padTo (leBytes 2 v.number.toNat ++ leBytes 1 f ++ leBytes 1 0 ++ padTo man 64 ++ padTo v.overlay 64) 132

/-- A slot entry (R510): VARIANTS counts the active ones, whose numbers reach 1,023 [DEDUCED 57]; a retired variant is active until it leaves (R292). -/
def slotEntry (s : State) (m k : Nat) : Bytes :=
  let x := getSlot s m k
  let act := x.variants.filter fun e => e.2.active
  let vd := if act.isEmpty then [] else Config.sha3 (act.flatMap fun e => leBytes 2 e.1 ++ padTo e.2.manifest 64)
  leBytes 1 (slotCode x.state) ++ leBytes 1 0 ++ leBytes 2 act.length ++ leBytes 4 0 ++
  versionEntry s x.versions[0]? ++ versionEntry s x.versions[1]? ++ padTo vd 64

/-- KEY_ID of a moon's key (R509). -/
def keyId (s : State) (m : Nat) : Bytes :=
  match (keySlot s m).key with
  | some k => slice (Config.kmac k [] 256 "VLR-KEYID") 0 32
  | none => List.replicate 32 0

/-- MOON_INFO (R257): 0 while a pool moon is WAITING. -/
def moonInfo (x : Moon) : Nat := if x.pool && x.state == .waiting then 0 else maskOf x.octets

/-- ATTEST_REPORT of a moon for a reader (R509). -/
def attestReport (who : Who) (m : Nat) (s : State) : Bytes :=
  let x := getMoon s m
  let sk := tget s.dict.blobs [] (pkey 0xA011 m)
  let fl := (if s.fw.trial then 1 else 0) + (if s.sec.everUnlocked then 2 else 0) + if s.journal.wasReset then 4 else 0
  let mf := (if x.pool then 1 else 0) + (if x.privileged then 2 else 0) + (if (keySlot s m).generated then 4 else 0) + if x.displaced then 8 else 0
  let head := leBytes 2 1 ++ leBytes 1 m ++ leBytes 1 fl ++ leBytes 2 Config.romVersion ++ leBytes 1 s.fw.running ++
    leBytes 1 (orbitCode s.orbit.state) ++ identityBytes ++ leBytes 8 s.orbit.now ++ leBytes 8 0 ++ attestNonce s who m ++
    slice (Config.sha3 (Config.fuseArray s.fw.fusedSvn s.fw.revoked s.sec.operatorKeys)) 0 64 ++ bankInfo s 0 ++ bankInfo s 1
  let body := leBytes 1 (moonCode x.state) ++ leBytes 1 mf ++ leBytes 1 x.poolCount ++ leBytes 1 x.blocks.length ++ leBytes 2 x.linkShare ++
    leBytes 2 0 ++ leBytes 8 (moonInfo x) ++ leBytes 4 x.hbmPages ++ leBytes 4 x.save.length ++ leBytes 8 0 ++ keyId s m ++
    (if allZero sk then List.replicate 64 0 else slice (Config.sha3 sk) 0 64)
  signed (fwkSeed s) (head ++ body ++ (upTo 16).flatMap (slotEntry s m))

/-- ATTEST_REPORT (R509). -/
def execAttestReport (who : Who) (m : Nat) (s : State) : Res :=
  let m := effMoon who m
  query s who 0xA021 m fun s => let b := attestReport who m s; .ok (keepPieces s who 0xA021 m b, b)

/-! ## Moon keys (R511 to R513) -/

/-- Change a moon's key slot. -/
def modSlot (s : State) (m : Nat) (f : KeySlot → KeySlot) : State := modSec s fun x => { x with slots := tset x.slots m (f (tget x.slots KeySlot.reset m)) }

/-- KEY_STATE (R513). -/
def keyState (s : State) (m : Nat) : Nat :=
  let k := keySlot s m
  (if k.key.isSome then 2 else if (liveOffer s m).isSome then 1 else 0) + (if k.generated then 4 else 0) + 256 * k.lastError

/-- A KEY_LOAD write (R512), by the first line that applies: the state it leaves and the item status. -/
def keyLoad (m : Nat) (v : Bytes) (s : State) : State × Nat :=
  if v.length ≠ 1656 then (s, 6)
  else if (getMoon s m).state ≠ .free then (s, 8)
  else match liveOffer s m with
    | none => (modSlot s m fun k => { k with lastError := 1 }, 7)
    | some o =>
      if field v 0 8 ≠ o.id then (modSlot s m fun k => { k with lastError := 1 }, 7)
      else
        let s := endOffer s o.id
        let fail (c : Nat) : State × Nat := (modSlot s m fun k => { k with lastError := c }, 7)
        if field v 8 1 ≠ m then fail 2
        else
          let kek := Config.kmac (Config.kemDecap o.seed (slice v 16 1568)) (leBytes 8 o.id ++ identityBytes ++ leBytes 1 m) 256 "VLR-MOONKEY"
          match Config.kwUnwrap kek (v.drop 0x630) with
          | none => fail 3
          | some key =>
            if key.take 32 == (key.drop 32).take 32 then fail 4
            else
              let s := modSlot s m fun _ => { key := some key, generated := false, lastError := 0 }
              (raiseMoon s m 0x0A01 [m, keyState s m], 0)

/-- KEY_LOAD (R512). -/
def execKeyLoad (who : Who) (m : Nat) (v : Bytes) (s : State) : Res :=
  let m := effMoon who m
  if dead s then .next s
  else
    let c := writeStatus s who 0xA031 m
    if c ≠ 0 then .next (answer s c) else let (t, c) := keyLoad m v s; .next (answer t c)

/-- A key from entropy with key1 ≠ key2 (R495): a draw whose halves are equal is not taken as it stands [4]. -/
def twoHalves (k : Bytes) : Bytes := if k.take 32 == (k.drop 32).take 32 then k.take 63 ++ [k.getD 63 0 + 1] else k

/-- A KEY_CMD write (R512): 1 GENERATE, 2 ERASE. -/
def keyCmd (m v : Nat) (s : State) : Except Nat State :=
  if v ≠ 1 ∧ v ≠ 2 then .error 7
  else if (getMoon s m).state ≠ .free then .error 8
  else if v = 1 then
    let (k, s) := freshBytes s 64
    .ok (modSlot s m fun _ => { key := some (twoHalves k), generated := true, lastError := 0 })
  else
    let s := match liveOffer s m with | some o => endOffer s o.id | none => s
    .ok (modSlot s m fun _ => KeySlot.reset)

/-- GENERATE (R512). -/
def execGenerate (who : Who) (m : Nat) (s : State) : Res := let m := effMoon who m; command s who 0xA032 m (keyCmd m 1)

/-- ERASE (R512). -/
def execErase (who : Who) (m : Nat) (s : State) : Res := let m := effMoon who m; command s who 0xA032 m (keyCmd m 2)

/-! ## Debug lock (R515) -/

/-- DBG_CHALLENGE (R515): MODULE_IDENTITY and 32 fresh bytes; none within 1 s of a refusal. -/
def execDbgChallenge (s : State) : Res :=
  let wait := match s.sec.refusedAt with | some t => decide (s.orbit.refNs < t + 1000000000) | none => false
  if dead s || wait then .next s
  else
    let (b, s) := freshBytes s 32
    .next { modSec s fun x => { x with challenge := some b } with jtag := { s.jtag with dr := leNat (identityBytes ++ b) } }

/-- The scope of a response is allowed in the present state (R515). -/
def scopeOk (s : State) (scope : Nat) : Bool :=
  (scope == 1 && s.power.bootHalt) || (scope == 2 && (s.power.bootHalt || s.power.phase == .faultStop))

/-- DBG_RESPONSE (R515). -/
def execDbgResponse (v : Bytes) (s : State) : Res :=
  match s.sec.challenge with
  | none => .next s
  | some ch =>
    if dead s then .next s
    else
      let s := modSec s fun x => { x with challenge := none }
      let scope := field v 0 1
      let pub := slice v 8 2592
      let msg := Config.sha3 (ascii "VLR-DEBUG" ++ identityBytes ++ ch ++ leBytes 1 scope)
      if v.length = 7227 ∧ scopeOk s scope ∧ operatorDigest s = some (Config.sha3 pub) ∧
          Config.dsaVerify pub msg (v.drop 2600) then
        let s := modSec s fun x => { x with everUnlocked := true, debug := if scope = 2 ∨ x.debug = .full then .full else .recovery }
        let s := if scope = 2 then endSessions (modSec s fun x => { x with moduleKey := false }) else s
        .next (raiseServed s 0x0A03 [scope])
      else .next (modSec s fun x => { x with refusedAt := some s.orbit.refNs })

end Sys2Proof.Machine
end

