-- ==== Sys2Proof/Machine/Jtag.lean ====
section
/-! DEFINITION. The test access port (R515, R527), and the rows EXTEST, IDCODE, BYPASS, SAMPLE_PRELOAD, TAP_RESET. -/

namespace Sys2Proof.Machine

/-- Change the test access port. -/
def modJtag (s : State) (f : JtagUnit → JtagUnit) : State := { s with jtag := f s.jtag }

/-- EXTEST acts: in boot halt and in Fault-Stop (R515). -/
def extestOk (s : State) : Bool := s.power.bootHalt || s.power.phase == .faultStop

/-- The value of an output pin (R472, R527): 0 PWR_GOOD, 1 SVC_REQ_N asserted, 2 FAULT_N asserted. Under EXTEST it is what the pin's boundary
cell holds; the order of the cells is not described [7]. -/
def pinShown (s : State) (pin : Nat) : Bool :=
  if s.jtag.ir = .extest ∧ extestOk s = true then s.jtag.cells.testBit (Config.openValue 20 pin)
  else if pin = 0 then s.power.pwrGood else if pin = 1 then s.power.svcReqPin else s.power.faultPin

/-- EXTEST (R527): the cells drive the output pins; elsewhere it is locked and reads zeros. -/
def execExtest (cells : Nat) (s : State) : Res :=
  if dead s then .next s
  else if extestOk s then .next (modJtag s fun j => { j with ir := .extest, cells := cells, dr := cells })
  else .next (modJtag s fun j => { j with dr := 0 })

/-- IDCODE (R527). -/
def execIdcode (s : State) : Res := if dead s then .next s else .next (modJtag s fun j => { j with ir := .idcode, dr := 0xBC640547 })

/-- BYPASS (R527): the one-bit bypass register, captured as 0 under IEEE 1149.1. -/
def execBypass (s : State) : Res := if dead s then .next s else .next (modJtag s fun j => { j with ir := .bypass, dr := 0 })

/-- SAMPLE/PRELOAD (R527): the cells are loaded, or capture the sideband signals, whose order in the chain is not described [7]. -/
def execSamplePreload (load : Option Nat) (s : State) : Res :=
  if dead s then .next s
  else match load with
    | some c => .next (modJtag s fun j => { j with ir := .sample, cells := c, dr := c })
    | none =>
      let c := Config.openValue 21 ((if pinShown s 0 then 1 else 0) + (if pinShown s 1 then 2 else 0) + if pinShown s 2 then 4 else 0)
      .next (modJtag s fun j => { j with ir := .sample, cells := c, dr := c })

/-- TAP_RESET (R527): the TAP controller resets, so IDCODE is in force and EXTEST ends. -/
def execTapReset (s : State) : Res := if dead s then .next s else .next (modJtag s fun j => { j with ir := .idcode })

end Sys2Proof.Machine
end

