-- ==== Sys2Proof/Machine/DictRead.lean ====
section
/-! DEFINITION. The values that dictionary reads return (R31, R82 to R85, R124, R185, R219, R222, R257, R300, R336, R353, R376, R406, R427,
R446, R447, R452, R474, R494, R517): which moon an element names, class B groups, values that follow the module's state, and stored values. -/

namespace Sys2Proof.Machine

/-! ## Moons and selectors (R84, R300, R336, R353) -/

/-- Parameters whose moon is named by SERVE_MOON (R300, R353). -/
def underServe (p : Nat) : Bool :=
  [0x8001, 0x8002, 0x8004, 0x8010, 0x8020, 0x8021, 0x8030, 0x8031, 0x8032, 0x8033, 0x8050, 0x8051, 0x8052, 0x8053, 0xA011].contains p ||
  decide (0x8040 ≤ p ∧ p ≤ 0x8047)

/-- Parameters whose moon is named by TRAIN_MOON (R336). -/
def underTrain (p : Nat) : Bool := decide (0x9010 ≤ p ∧ p ≤ 0x9502) && !(decide (0x9100 ≤ p ∧ p ≤ 0x9106) || p == 0x9300)

/-- The selector that names the moon of a parameter, if one does. -/
def selectorOf (p : Nat) : Option Nat :=
  if underServe p then some 0x8000 else if underTrain p then some 0x9001 else if 0x9100 ≤ p ∧ p ≤ 0x9106 then some 0x9000 else none

/-- The moon a request addresses: its own for a tenant, the selector's for the parameters that have one, otherwise the element (R432). -/
def addrMoon (s : State) (who : Who) (p e : Nat) : Nat :=
  match selectorOf p with
  | some q => selMoon s who q
  | none => effMoon who e

/-- A selector above 63: the element is invalid (R84, R300, R336). -/
def badMoon (s : State) (who : Who) (p e : Nat) : Bool := (selectorOf p).isSome && decide (63 < addrMoon s who p e)

/-- The key of a role's own copy of a selector (R432); SEQ_SELECT has one for each moon (R264). -/
def selKey (who : Who) (p m : Nat) : Nat := 8 * (if p = 0x8020 then pkey p m else p) + roleCode who.role

/-- A role's own copy of a selector. -/
def selValue (s : State) (who : Who) (p m : Nat) : Nat := tget s.dict.selectors 0 (selKey who p m)

/-! ## Management ports (R446, R447, R452) -/

/-- MGT_STATE (R446, R452). -/
def mgtState (s : State) (port : Nat) : Nat :=
  let plca := decide (s.power.slotId < 31)
  let mode := if param s 0x0021 port = 0 then 0 else if plca && !s.dict.csma.contains port then 2 else 1
  mode + 256 * (if plca then s.power.slotId + 1 else 0xFF)

/-- MGT_MAC (R447): MODULE_IDENTITY[39:0] most significant octet first. -/
def mgtMac (port : Nat) : Bytes := leBytes 1 (if port = 0 then 2 else 6) ++ (leBytes 5 Config.moduleIdentity).reverse

/-! ## Live values -/

/-- Area 0x0 (R427, R452). -/
def live0 (s : State) (p e : Nat) : Option Bytes :=
  match p with
  | 0x0000 => some (leBytes 8 Config.moduleIdentity)
  | 0x0001 => some (ascii "VLR-CG4")
  | 0x0002 => some (ascii "VLR-CG4-384L")
  | 0x0003 => some (ascii "B0")
  | 0x0004 => some (slice Config.serial 0 16)
  | 0x0008 => some (leBytes 1 s.power.bootStep)
  | 0x0012 => some (leBytes 1 (if s.host.vfEnable then s.host.numVfs else 0))
  | 0x0020 => some (leBytes 4 (mgtState s e))
  | 0x0024 => some (mgtMac e)
  | 0x0025 => some (leBytes 1 s.power.slotId)
  | _ => none

/-- Area 0x1 (R474). -/
def live1 (s : State) (p e : Nat) : Option Bytes :=
  match p with
  | 0x1002 => some (leBytes 1 (powerCode s))
  | 0x1003 => some (leBytes 2 s.power.faultReason)
  | 0x1004 => some (leBytes 4 s.power.svcReason.toNat)
  | 0x1005 => some (leBytes 4 (ratioF32 s.power.credit 100000000))
  | 0x1006 => some (leBytes 1 (throttleNow s e))
  | 0x1123 => some (leBytes 1 (if s.power.leak then 1 else 0))
  | _ => none

/-- Areas 0x2 and 0x3 (R31, R185, R406). -/
def live23 (s : State) (p e : Nat) : Option Bytes :=
  match p with
  | 0x2030 => some (leBytes 1 (orbitCode s.orbit.state))
  | 0x2031 => some (leBytes 8 s.orbit.now)
  | 0x203E => some (leBytes 1 (orbitFlags s.orbit))
  | 0x2040 => some (leBytes 4 (milliF32 (tget s.mem.temp 0 e)))
  | 0x3000 => some (leBytes 1 (kennel s e).length)
  | 0x3001 => some (leBytes 1 ((upTo 128).filter fun lc => physOf s e lc != 0xFF).length)
  | 0x3010 => some (leBytes 1 (physOf s 0 e))
  | 0x3011 => some (leBytes 1 (physOf s 1 e))
  | 0x3012 => some (leBytes 1 (physOf s 2 e))
  | 0x3013 => some (leBytes 1 (physOf s 3 e))
  | _ => none

/-- Areas 0x4 and 0x5 (R185, R376). -/
def live45 (s : State) (who : Who) (p e m : Nat) : Option Bytes :=
  match p with
  | 0x4000 => some (leBytes 4 (freePages s e).length)
  | 0x4002 => some (leBytes 1 (tget s.mem.band 1 e))
  | 0x4021 => some (leBytes 4 (keepQuota s m))
  | 0x5000 => some (leBytes 4 (portState (getPort s e)))
  | 0x5001 => some (portMeas (getPort s e))
  | 0x5002 => some (portPartner (getPort s e))
  | 0x5020 => some (leBytes 2 (selValue s who p 0))
  | 0x5021 => some (leBytes 4 (tget s.links.fwd 0 (selValue s who 0x5020 0 + e)))
  | 0x5050 => some (padTo (getMoon s m).recvWin 512)
  | 0x5051 => some (leBytes 2 (guaranteed s m))
  | 0x5053 => some (padTo (getMoon s m).routes 512)
  | _ => none

/-- Areas 0x6 and 0x7 (R222, R257). -/
def live67 (s : State) (who : Who) (p e m : Nat) : Option Bytes :=
  let x := getMoon s m
  match p with
  | 0x6001 => some (leBytes 4 x.status.toNat)
  | 0x6002 => some (leBytes 1 (moonCode x.state))
  | 0x6003 => some (leBytes 8 (moonInfo x))
  | 0x6008 => some (leBytes 1 (if x.displaced then 1 else 0))
  | 0x6010 => some (leBytes 1 (tget (getMoon s (effMoon who 0)).prio 0 e))
  | 0x6021 => some (leBytes 4 x.hbmPages)
  | 0x6022 => some (leBytes 4 (mappedCount s m))
  | 0x6023 => some (leBytes 4 x.pageReq.toNat)
  | 0x6110 => some (leBytes 1 x.blocks.length)
  | 0x6120 => some (leBytes 2 (224 - alarmsHeld s none))
  | 0x7020 => some (ledgerValue s m)
  | _ => if 0x7000 ≤ p ∧ p ≤ 0x7004 then some (leBytes 8 (ledgerTotal s p m)) else none

/-- SEQ_UNALLOTTED (R300). -/
def seqUnallotted (s : State) : Nat := 16384 - ((upTo 64).map (param s 0x8001)).foldl (· + ·) 0

/-- SHARED_BASE_INFO (R353). -/
def sharedInfo (b : SharedBase) : Bytes :=
  padTo (padTo b.manifest 64 ++ leBytes 4 b.pages.length ++ leBytes 2 b.attached ++ leBytes 1 b.state) 80

/-- Area 0x8 (R264, R266, R300, R353). -/
def live8 (s : State) (who : Who) (p e m : Nat) : Option Bytes :=
  match p with
  | 0x8000 => some (leBytes 1 (selValue s who p 0))
  | 0x8002 => some (leBytes 2 (getServe s m).seqs.length)
  | 0x8003 => some (leBytes 2 (seqUnallotted s))
  | 0x8004 => some (leBytes 1 (if (getMoon s m).privileged then 1 else 0))
  | 0x8010 => some (leBytes 8 (getServe s m).ctxMa)
  | 0x8020 => some (leBytes 2 (selValue s who p m))
  | 0x8021 => some (seqRecord (getServe s m) (selValue s who 0x8020 m))
  | 0x8031 => some (leBytes 4 (modelWord (getSlot s m e)))
  | 0x8032 => some (leBytes 8 (param s p (256 * m + e)))
  | 0x8033 => some (leBytes 4 (stepsRecent s (getSlot s m e)))
  | 0x8051 => some (leBytes 4 (tget s.fetch.status 0 m).toNat)
  | 0x8055 => some (sharedInfo (tget s.fetch.shared SharedBase.reset e))
  | _ => none

/-- GNS_CFG as written (R326). -/
def gnsBytes (g : Option GnsCfg) : Bytes :=
  match g with
  | none => List.replicate 32 0
  | some g =>
    padTo (leBytes 1 g.localTag ++ leBytes 1 g.globalTag ++ leBytes 2 (if g.enable then 1 else 0) ++ leBytes 4 g.bLocal ++ leBytes 4 g.bGlobal ++
      leBytes 4 g.alpha ++ leBytes 4 g.quantum ++ leBytes 4 g.minimum ++ leBytes 4 g.maximum) 32

/-- SNAP_ACCEPT as written (R328). -/
def acceptBytes (a : Option SnapAccept) : Bytes :=
  match a with
  | none => List.replicate 32 0
  | some a => leBytes 8 a.sourceModule ++ leBytes 1 a.sourceMoon ++ leBytes 3 0 ++ leBytes 4 a.snapId ++ leBytes 8 a.targetMa ++ leBytes 8 a.length

/-- Area 0x9 (R313, R326 to R330, R336). -/
def live9 (s : State) (who : Who) (p m : Nat) : Option Bytes :=
  let t := getTrain s m
  match p with
  | 0x9000 => some (leBytes 1 (selValue s who p 0))
  | 0x9001 => some (leBytes 1 (selValue s who p 0))
  | 0x9010 => some (leBytes 8 t.ctxMa)
  | 0x9013 => some (leBytes 8 (pipeStatus s m))
  | 0x9200 => some (gnsBytes t.gns)
  | 0x9201 => some (leBytes 4 (gnsBatch s m))
  | 0x9202 => some (leBytes 4 (bits32 (rn32 (decFloat fp64 t.gnsMean))))
  | 0x9203 => some (leBytes 4 (bits32 (rn32 (decFloat fp64 t.gnsNoise))))
  | 0x9401 => some (leBytes 4 (turnState t))
  | 0x9501 => some (leBytes 4 t.snapState.toNat)
  | 0x9502 => some (acceptBytes t.accept)
  | _ => none

/-- The number of DEBUG_STATE (R515). -/
def debugCode : DebugState → Nat
  | .locked => 0
  | .recovery => 1
  | .full => 2

/-- Area 0xA (R500 to R517), apart from the values that a read makes. -/
def liveA (s : State) (who : Who) (p m : Nat) : Option Bytes :=
  match p with
  | 0xA000 => some (slice Config.deviceCert 0 7379)
  | 0xA001 => some (padTo ((operatorDigest s).getD []) 64)
  | 0xA005 => some (fwCert s)
  | 0xA006 => some (leBytes 1 s.fw.fusedSvn)
  | 0xA007 => some (leBytes 1 (debugCode s.sec.debug))
  | 0xA020 => some (attestNonce s who m)
  | 0xA033 => some (leBytes 4 (keyState s m))
  | _ => none

/-- Member-table, threshold and barrier parameters, which hold their defaults on a module that is no manager (R406). -/
def managerOnly (p : Nat) : Bool :=
  decide (0xB010 ≤ p ∧ p ≤ 0xB016) || decide (0xB020 ≤ p ∧ p ≤ 0xB028) || decide (0xB030 ≤ p ∧ p ≤ 0xB042)

/-- Area 0xB (R377 to R396, R406, R488 to R494). -/
def liveB (s : State) (p e : Nat) : Option Bytes :=
  match p with
  | 0xB002 => some (leBytes 1 s.pack.role)
  | 0xB003 => some (leBytes 1 s.pack.packState)
  | 0xB010 => some (leBytes 2 (getMember s e).fabric)
  | 0xB011 => some (leBytes 4 (memberStatus (getMember s e)))
  | 0xB012 => some (leBytes 4 (getMember s e).score)
  | 0xB013 => some (match (getMember s e).answer with | some (a, rtt) => answerBytes a rtt | none => List.replicate 32 0)
  | 0xB028 => some (leBytes 1 (if s.pack.frozen then 1 else 0))
  | 0xB040 => some (if thas s.pack.barriers e then barDefBytes (getBarrier s e) else List.replicate 528 0)
  | 0xB041 => some (match tfind s.pack.records e with | some r => recordRecBytes r | none => List.replicate 160 0)
  | 0xB100 => some (leBytes 4 (journalState s.journal))
  | 0xB101 => some (leBytes 1 (journalFill s.journal))
  | 0xB102 => some (leBytes 1 (journalWear s.journal))
  | 0xB103 => some (leBytes 4 s.journal.epoch.toNat)
  | 0xB111 => some (leBytes 4 (fwState s.fw))
  | 0xB112 => some (bankInfo s e)
  | 0xB121 => some (leBytes 1 (staleCores s e).length)
  | 0xB122 => some (leBytes 4 (bankMcode s))
  | _ => none

/-- A value that follows the module's state. -/
def liveValue (s : State) (who : Who) (p e m : Nat) : Option Bytes :=
  match p / 4096 with
  | 0 => live0 s p e
  | 1 => live1 s p e
  | 2 => live23 s p e
  | 3 => live23 s p e
  | 4 => live45 s who p e m
  | 5 => live45 s who p e m
  | 6 => live67 s who p e m
  | 7 => live67 s who p e m
  | 8 => live8 s who p e m
  | 9 => live9 s who p m
  | 10 => liveA s who p m
  | 11 => liveB s p e
  | _ => none

/-- Parameters stored by moon under their own element or under a selector. -/
def storeElem (p e m : Nat) : Nat := if (selectorOf p).isSome then m else if counterMoon p e = some e ∨ p = 0x6004 ∨ p = 0x6121 then m else e

/-- The stored value of a parameter, or its default (R430). -/
def storedValue (s : State) (i : ParamInfo) (e : Nat) : Bytes :=
  if i.typ = 9 then padTo (tget s.dict.blobs [] (pkey i.num e)) i.size else leBytes i.size (param s i.num e)

/-! ## Class B groups (R219) -/

/-- Groups that only the moon's own role clears; other roles read live values (R82, R222, R256, R300, R336). -/
def moonGroup (first : Nat) : Bool := [0x6030, 0x6100, 0x8040, 0x9020, 0x9100].contains first

/-- A member's value as it stands: a counter, or the interval. -/
def liveMember (s : State) (g : GroupB) (p e : Nat) : Nat := if p = g.interval then intervalB s g.first e else cntB s p e

/-- A read of a member of a class B group: the first member snapshots, and clears where the reader clears; the others return the snapshot. -/
def readGroup (s : State) (who : Who) (g : GroupB) (i : ParamInfo) (e m : Nat) : Except Nat (State × Bytes) :=
  let p := i.num
  let s := if g.first = 0x9020 then flushWait s m else s
  if moonGroup g.first then
    let k := if g.first = 0x9100 then 256 * m + e else m
    let own := ownRole s who m
    if p = 0x9100 then .ok (readFmt s who m e, leBytes 4 (cntB s p k))
    else if p = g.first then readStat s p k own
    else .ok (s, leBytes i.size (if own then tget s.stat.snap 0 (pkey p k) else liveMember s g p k))
  else if p = g.first then readStat s p e true
  else .ok (s, leBytes i.size (tget s.stat.snap 0 (pkey p e)))

/-! ## Reads -/

/-- The whole value of a parameter for a role and path, and the state its read leaves (R436, R438), or an item status. -/
def readValue (s : State) (who : Who) (i : ParamInfo) (e : Nat) : Except Nat (State × Bytes) :=
  let p := i.num
  let m := addrMoon s who p e
  if managerOnly p && !isManager s then .ok (s, storedValue { s with dict := DictUnit.reset } i e)
  else match p with
    | 0xA002 => .ok (makeOffer 0xFF s)
    | 0xA021 => .ok (s, attestReport who m s)
    | 0xA030 => .ok (makeOffer m s)
    | 0x9105 => .ok (s, leBytes 4 (if ownRole s who m then tget s.stat.fmtSnap 0x1F (256 * m + e) else fmtInfoWord s (256 * m + e)))
    | _ => match groupOf p with
      | some g => readGroup s who g i e m
      | none => .ok (s, (liveValue s who p e m).getD (storedValue s i (storeElem p e m)))

end Sys2Proof.Machine
end

