-- ==== Sys2Proof/Machine/DictWrite.lean ====
section
/-! DEFINITION. What a written value does (R226, R243, R257, R261, R289, R300, R326, R328, R330, R336, R341, R353, R376, R406, R427, R444, R452,
R474, R488, R494, R517): the command records from their bytes, ranges, and the effect of each writable parameter. -/

namespace Sys2Proof.Machine

/-! ## Command records from their bytes -/

/-- Bytes of a record that are reserved are not all zero. -/
def rsvSet (b : Bytes) (o n : Nat) : Bool := field b o n != 0

/-- A MOON_CMD record (R226). -/
def parseMoonCmd (b : Bytes) : MoonCmd :=
  let f := field b 1 1
  { pool := f.testBit 0, privileged := f.testBit 1, whenEn := f.testBit 2, syncBlocks := field b 2 2, share := field b 4 2
    linkShare := field b 6 2, whenOrbit := field b 8 8, octets := field b 0x10 8, hbmPages := field b 0x18 4, poolCount := field b 0x1C 1
    peer := field b 0x20 8, ports := field b 0x28 4, peerMoon := field b 0x2C 1
    rsv := decide (8 ≤ f) || rsvSet b 0x1D 3 || rsvSet b 0x2D 19 }

/-- A PAGE_REQ record (R243). -/
def parsePageReq (b : Bytes) : PageReq :=
  let f := field b 1 1
  { permR := f.testBit 0, permW := f.testBit 1, stackPref := field b 2 1, first := field b 4 4, count := field b 8 4
    rsv := decide (4 ≤ f) || rsvSet b 3 1 || rsvSet b 12 4 }

/-- A MODEL_CMD record (R289). -/
def parseModelCmd (b : Bytes) : ModelCmd :=
  let f := field b 1 1
  { pinned := f.testBit 0, whenEn := f.testBit 1, variant := field b 2 2, whenOrbit := field b 8 8
    rsv := decide (4 ≤ f) || rsvSet b 4 4 || rsvSet b 16 16 }

/-- A FETCH_CMD record (R341). -/
def parseFetchCmd (b : Bytes) : FetchCmd :=
  let f := field b 1 1
  { bar4 := f.testBit 0, share := f.testBit 1, awaitOverlay := f.testBit 2, writable := f.testBit 3, slot := field b 2 1, sb := field b 3 1
    variant := field b 4 2, fetchId := field b 8 4, hostAddr := field b 0x10 8, bundleBytes := field b 0x18 8, targetMa := field b 0x20 8
    timeoutMs := field b 0x28 4, rsv := decide (16 ≤ f) || rsvSet b 6 2 || rsvSet b 12 4 || rsvSet b 0x2C 20 }

/-- A SNAP_CMD record (R328). -/
def parseSnapCmd (b : Bytes) : SnapCmd :=
  let f := field b 1 1
  { whenEn := f.testBit 0, remote := f.testBit 1, fromNormal := f.testBit 2, snapId := field b 4 4, whenOrbit := field b 8 8
    targetMa := field b 0x10 8, peer := field b 0x18 8, ports := field b 0x20 4, targetMoon := field b 0x24 1, firstTile := field b 0x28 4
    tileCount := field b 0x2C 4, rsv := decide (8 ≤ f) || rsvSet b 2 2 || rsvSet b 0x25 3 || rsvSet b 0x30 16 }

/-- A SNAP_ACCEPT record (R328). -/
def parseAccept (b : Bytes) : SnapAccept :=
  { sourceModule := field b 0 8, sourceMoon := field b 8 1, snapId := field b 12 4, targetMa := field b 16 8, length := field b 24 8 }

/-- A TURN_CMD record (R330). -/
def parseTurnCmd (b : Bytes) : TurnCmd :=
  let f := field b 1 1
  { endLive := f.testBit 0, slot := field b 2 1, turnId := field b 4 4, whenOrbit := field b 8 8, plan := field b 0x10 8, pipeRec := field b 0x18 8
    barrier := field b 0x20 4, timeoutMs := field b 0x24 4, rsv := decide (2 ≤ f) || rsvSet b 3 1 || rsvSet b 0x28 24 }

/-- A GNS_CFG record (R326): an ENABLE other than 0 and 1 is out of its range. -/
def parseGns (b : Bytes) : GnsCfg :=
  { localTag := field b 0 1, globalTag := field b 1 1, enable := field b 2 1 == 1, bLocal := field b 4 4, bGlobal := field b 8 4
    alpha := field b 12 4, quantum := field b 16 4, minimum := field b 20 4, maximum := field b 24 4
    rsv := decide (2 ≤ field b 2 1) }

/-- A FW_CMD record (R488). -/
def parseFwCmd (b : Bytes) : FwCmd := { length := field b 4 4, hostAddr := field b 8 8, rsv := rsvSet b 1 3 || rsvSet b 16 16 }

/-! ## Commands (R444) -/

/-- A MOON_CMD write: a reserved OP completes with OP_BAD (R226, R227). -/
def writeMoonCmd (who : Who) (m : Nat) (b : Bytes) (s : State) : Except Nat State :=
  let c := parseMoonCmd b
  match field b 0 1 with
  | 1 => moonWrite who .create m c s
  | 2 => moonWrite who .resize m c s
  | 3 => moonWrite who .release m c s
  | 4 => moonWrite who .suspend m c s
  | 5 => moonWrite who .resume m c s
  | 6 => moonWrite who .migrateOut m c s
  | 7 => moonWrite who .migrateIn m c s
  | 8 => moonWrite who .reclaim m c s
  | 9 => cancelCmd who m c s
  | op =>
    if (getMoon s m).job.isSome then .error 8
    else
      let v := 4 + 256 * op + 65536
      .ok (raiseWriter (modMoon s m fun x => { x with status := BitVec.ofNat 32 v }) who m 0x0603 [v])

/-- A MODEL_CMD write: a reserved OP is an invalid value (R289). -/
def writeModelCmd (m k : Nat) (b : Bytes) (s : State) : Except Nat State :=
  let c := parseModelCmd b
  match field b 0 1 with
  | 1 => swapCmd m k c s
  | 2 => cancelSwapCmd m k c s
  | 3 => unloadCmd m k c s
  | 4 => retireCmd m k c s
  | _ => .error 7

/-- A FETCH_CMD write: a reserved OP completes with OP_BAD (R341, R343). -/
def writeFetchCmd (who : Who) (m : Nat) (b : Bytes) (s : State) : Except Nat State :=
  let c := parseFetchCmd b
  match field b 0 1 with
  | 1 => fetchCmd .loadBase who m c s
  | 2 => fetchCmd .loadOverlay who m c s
  | 3 => fetchCmd .loadVariant who m c s
  | 4 => fetchCmd .attachShared who m c s
  | 5 => fetchCmd .dropShared who m c s
  | 6 => fetchCancelCmd who m c s
  | op =>
    if thas s.fetch.jobs m then .error 8
    else
      let v := 4 + 256 * op + 65536
      .ok (raiseWriter { s with fetch := { s.fetch with status := tset s.fetch.status m (BitVec.ofNat 32 v) } } who m 0x0802 [c.fetchId, v])

/-- A SNAP_CMD write: a reserved OP fails with OP_BAD (R328, R329). -/
def writeSnapCmd (who : Who) (m : Nat) (b : Bytes) (s : State) : Except Nat State :=
  let c := parseSnapCmd b
  match field b 0 1 with
  | 1 => snapshotCmd who m c s
  | 2 => snapCancelCmd m c s
  | op => if (getTrain s m).snapStage ≠ 0 then .error 8 else .ok (snapFailed s m op c.snapId 1)

/-- A TURN_CMD write: a reserved OP fails with OP_BAD (R330). -/
def writeTurnCmd (who : Who) (m : Nat) (b : Bytes) (s : State) : Except Nat State :=
  let c := parseTurnCmd b
  match field b 0 1 with
  | 1 => turnCmd true who m c s
  | 2 => turnCmd false who m c s
  | 3 => turnCancelCmd m s
  | _ => .ok (if turnBusy (getTrain s m) then modTrain s m fun t => { t with turnCode := 8 } else endTurn s m c.turnId 1)

/-- A PIPE_CTRL write (R304). -/
def writePipeCtrl (m v : Nat) (s : State) : Except Nat State :=
  match v with
  | 1 => pipeStart m s
  | 2 => pipeDrain m s
  | 3 => pipeRetry m s
  | 4 => pipeReset m s
  | _ => .error 7

/-- A PORT_CTRL write (R376). -/
def writePortCtrl (p v : Nat) (s : State) : Except Nat State :=
  match v with
  | 1 => retrainPort p s
  | 2 => disablePort p s
  | 3 => enablePort p s
  | 4 => forcePort p s
  | 5 => autoPort p s
  | _ => .error 7

/-! ## Settings -/

/-- Set a parameter, journaled where its row says so (R430, R444). -/
def setStored (s : State) (i : ParamInfo) (e v : Nat) : State := if i.journaled then setParamJ s i.num e v else setParam s i.num e v

/-- Set a role's own copy of a selector. -/
def setSel (s : State) (who : Who) (p m v : Nat) : State :=
  { s with dict := { s.dict with selectors := tset s.dict.selectors (selKey who p m) v } }

/-- A numeric value lies in the range of its row (R429): inclusive, F32 finite and compared as numbers. -/
def inRange (i : ParamInfo) (v : Nat) : Bool :=
  if i.typ = 7 then
    match num32 v with
    | .fin .. => Num.le (num32 i.lo) (num32 v) && Num.le (num32 v) (num32 i.hi)
    | _ => false
  else if i.num = 0x2033 ∨ i.num = 0x2034 then decide (v ≤ 31 ∨ v = 0xFF)
  else decide (i.lo ≤ v ∧ v ≤ i.hi)

/-- A SEQ_QUOTA write (R261). -/
def writeSeqQuota (m v : Nat) (s : State) : Except Nat State :=
  let others := (((upTo 64).filter fun k => k != m).map (param s 0x8001)).foldl (· + ·) 0
  if 16384 < others + v ∨ v < (getServe s m).seqs.length then .error 7 else .ok (setParam s 0x8001 m v)

/-- A POOL_OCTETS write (R233): it may name only octets that no dedicated moon holds, and none withdrawn (R29). -/
def writePool (v : Nat) (s : State) : Except Nat State :=
  let taken := (bitsOf v 64).any fun k => s.cores.withdrawn.contains k || s.moons.any fun e => !e.2.pool && e.2.octets.contains k
  if taken then .error 7 else .ok (settlePool (setParamJ s 0x6005 0 v))

/-- A moon's share as the last tick found it stands until the next (R257). -/
def keepShare (s : State) (m : Nat) : State :=
  if thas s.tasks.shares m then s else { s with tasks := { s.tasks with shares := tset s.tasks.shares m (param s 0x6004 m) } }

/-- A FWD_ENTRY write (R362, R376). -/
def writeFwd (s : State) (fabric v : Nat) : State :=
  jAppend { s with links := { s.links with fwd := if v = 0 then tdel s.links.fwd fabric else tset s.links.fwd fabric v } } (.param (pkey 0x5021 fabric) v)

/-- A threshold write (R392, R406): no effect on a module that is no manager; SUSPECT_OFF stays below SUSPECT_ON. -/
def writeThreshold (i : ParamInfo) (v : Nat) (s : State) : Except Nat State :=
  let bad := (i.num == 0xB022 && !Num.lt (num32 (param s 0xB023 0)) (num32 v)) || (i.num == 0xB023 && !Num.lt (num32 v) (num32 (param s 0xB022 0)))
  if !isManager s then .ok s else if bad then .error 7 else .ok (setStored s i 0 v)

/-- A write of a numeric parameter (R444): the element as named, the moon it addresses. -/
def writeNumber (who : Who) (i : ParamInfo) (e m v : Nat) (s : State) : Except Nat State :=
  if !inRange i v then .error 7
  else match i.num with
  | 0x0014 => if v % s.host.bar2Size = 0 then .ok (setParam s 0x0014 0 v) else .error 7
  | 0x1001 => powerCmd v s
  | 0x2032 => writeSource v s
  | 0x2033 => writeOrbitPort false v s
  | 0x2034 => writeOrbitPort true v s
  | 0x203A => writeDomain v s
  | 0x2039 => writePps v s
  | 0x3025 => .ok (setStored (noteCycle s) i (storeElem i.num e m) v)
  | 0x4021 => .ok (modMoon s m fun x => { x with keepQuota := some v })
  | 0x5003 => writePortCtrl e v s
  | 0x5020 => .ok (setSel s who i.num 0 v)
  | 0x5021 => .ok (writeFwd s (selValue s who 0x5020 0 + e) v)
  | 0x6004 => if v = 0 then .error 7 else .ok (setParam (keepShare s m) 0x6004 m v)
  | 0x6005 => writePool v s
  | 0x6010 => .ok (modMoon s (effMoon who 0) fun x => { x with prio := tset x.prio e v })
  | 0x7021 => ackLedger m v s
  | 0x8000 => .ok (setSel s who i.num 0 v)
  | 0x8001 => writeSeqQuota m v s
  | 0x8010 => writeCtx m v s
  | 0x8020 => .ok (setSel s who i.num m v)
  | 0x9000 => .ok (setSel s who i.num 0 v)
  | 0x9001 => .ok (setSel s who i.num 0 v)
  | 0x9010 => writePipeCtx m v s
  | 0x9012 => writePipeCtrl m v s
  | 0x9205 => .ok (if v = 1 then closeGns s m else s)
  | 0xA032 => keyCmd m v s
  | 0xB000 => writeRole v s
  | 0xB001 => .ok (dropLost (packParent (setParamJ s 0xB001 0 v)))
  | 0xB010 => writeMember e v s
  | 0xB026 => writeSpares v s
  | 0xB105 => journalCmd v s
  | 0xB120 => mcodeCmd v s
  | 0xB140 => clearSvc v s
  | _ => if managerOnly i.num then writeThreshold i v s else .ok (setStored s i (storeElem i.num e m) v)

/-- A BLOB kept as written. -/
def keepBlob (s : State) (p e : Nat) (b : Bytes) : State := { s with dict := { s.dict with blobs := tset s.dict.blobs (pkey p e) b } }

/-- A write of a BLOB parameter of the right length (R444). -/
def writeBlob (who : Who) (p e m : Nat) (b : Bytes) (s : State) : Except Nat State :=
  match p with
  | 0x5050 => .ok (modMoon s m fun x => { x with recvWin := b })
  | 0x5053 => .ok (modMoon s m fun x => { x with routes := b })
  | 0x6000 => writeMoonCmd who m b s
  | 0x6020 => pageReq who (field b 0 1) m (parsePageReq b) s
  | 0x8030 => writeModelCmd m e b s
  | 0x8050 => writeFetchCmd who m b s
  | 0x9200 => writeGns m (parseGns b) s
  | 0x9400 => writeTurnCmd who m b s
  | 0x9500 => writeSnapCmd who m b s
  | 0x9502 => .ok (modTrain s m fun t => { t with accept := some (parseAccept b) })
  | 0xA001 => writeDigest who b s
  | 0xA003 => sessionOpen b s
  | 0xA010 => .ok (jAppend (keepBlob s p e b) (.paramBlob (pkey p e) b))
  | 0xA011 => .ok (keepBlob s p m b)
  | 0xA020 => .ok (modSec s fun x => { x with nonces := tset x.nonces (8 * m + roleCode who.role) b })
  | 0xB040 => writeBarDef e (parseBarDef b) s
  | 0xB042 => writeBarMove e (parseBarMove b) s
  | 0xB110 => fwCmd (field b 0 1) (parseFwCmd b) s
  | _ => .ok s

/-- The effect of a whole value of the right type and length, and its item status. KEY_LOAD and SESSION_PROVE change state also when they fail
(R505, R512). -/
def writeValue (s : State) (who : Who) (i : ParamInfo) (e : Nat) (b : Bytes) : State × Nat :=
  let m := addrMoon s who i.num e
  if i.num = 0xA031 then keyLoad m b s
  else if i.num = 0xA004 then sessionProve b s
  else match (if i.typ = 9 then writeBlob who i.num e m b s else writeNumber who i e m (leNat b) s) with
    | .ok t => (t, 0)
    | .error c => (s, c)

end Sys2Proof.Machine
end

