-- ==== Sys2Proof/Machine/Dict.lean ====
section
/-! DEFINITION. Dictionary frames (R431 to R451): roles, authentication, items, pieces, responses, the gateway, management ports, and the rows
READ, WRITE, DESCRIBE, STAGING_EXPIRE, PLCA_BEACON_TIMEOUT, PLCA_BEACON, DICT_STAT_READ, GATEWAY_RESPONSE, TARGET_TIMEOUT. -/

namespace Sys2Proof.Machine

/-- Change the dictionary unit. -/
def modDict (s : State) (f : DictUnit → DictUnit) : State := { s with dict := f s.dict }

/-! ## Parameters as requests see them -/

/-- The row of a number; area 0xF is readable under the operator key alone, its content not described (R428) [7]. -/
def dictRow (p : Nat) : Option ParamInfo :=
  if p / 4096 = 15 then
    some { num := p, name := "", typ := 9, size := 0, pf := 0, vf := 0, shep := 0, key := 1, dflt := 0, lo := 0, hi := 0, journaled := false
           cls := 0, last := 255 }
  else paramInfo p

/-- SIZE of DESCRIBE (R437). -/
def wholeSize (s : State) (i : ParamInfo) (e : Nat) : Nat :=
  if i.num / 4096 = 15 then (Config.vendor i.num e).length
  else if i.typ = 8 then ((live0 s i.num e).getD []).length else i.size

/-- DEFAULT of DESCRIBE (R437): fused and sampled values, and the present result of a formula. -/
def shownDefault (s : State) (who : Who) (i : ParamInfo) (e : Nat) : Nat :=
  match i.num with
  | 0x0000 => Config.moduleIdentity
  | 0x0025 => s.power.slotId
  | 0x4021 => 512 * (getMoon s (effMoon who e)).octets.length
  | 0xA006 => s.fw.fusedSvn
  | n => if 0x3010 ≤ n ∧ n ≤ 0x3013 then 17 * (e / 16) + e % 16 else i.dflt

/-- The 16 bytes of a DESCRIBE answer (R437). -/
def describeBytes (s : State) (who : Who) (i : ParamInfo) (e : Nat) : Bytes :=
  leBytes 1 i.typ ++ leBytes 1 (accessOf i who.role) ++ leBytes 1 (if i.journaled then 1 else 0) ++ leBytes 1 i.cls ++ leBytes 1 0 ++
    leBytes 1 i.last ++ leBytes 2 (if i.typ = 8 then i.size else wholeSize s i e) ++
    leBytes 8 (if i.typ = 8 ∨ i.typ = 9 then 0 else shownDefault s who i e)

/-! ## Items (R436 to R439) -/

/-- A response item. -/
structure ItemRsp where
  status : Nat
  typ    : Nat
  last   : Bool
  stuck  : Bool
  value  : Bytes
  deriving DecidableEq, Repr

/-- A failed item. -/
def itemFail (c : Nat) : ItemRsp := ⟨c, 0, false, false, []⟩

/-- A non-zero field that the operation reserves (R436): TYPE and OFFSET of a READ or DESCRIBE, OFFSET of a numeric type. -/
def itemRsv (op : ItemOp) (it : Item) : Bool :=
  it.rsv || (op != .write && it.type != 0) || (it.offset != 0 && (op == .describe || (match dictRow it.param with
    | some i => i.typ != 8 && i.typ != 9
    | none => false)))

/-- What an authenticated frame lets an item do (R506): everything, SESSION_PROVE writes only, or its own first SESSION_OPEN only. -/
inductive Grant where
  | all | prove | opening
  deriving DecidableEq, Repr

/-- The item is one that the grant reaches. -/
def grantOk (g : Grant) (first : Bool) (op : ItemOp) (p : Nat) : Bool :=
  match g with
  | .all => true
  | .prove => op == .write && p == 0xA004
  | .opening => first && op == .write && p == 0xA003

/-- The access outcome of R431 for a role. -/
def accessStatus (a : Nat) (op : ItemOp) (r : Role) : Nat :=
  match op with
  | .describe => 0
  | .read => if a = 0 then 3 else if a = 3 then 5 else 0
  | .write => if a = 0 then 3 else if a = 1 then 4 else if a = 4 && r != .operatorKey then 10 else 0

/-- The element that an item addresses lies outside its parameter's range (R428): above ELEM_LAST, a moon selector above 63, a FABRIC_ID above
0xFFFF in FWD_ENTRY. A DESCRIBE needs no selector [32]. -/
def elementBad (s : State) (who : Who) (op : ItemOp) (i : ParamInfo) (e : Nat) : Bool :=
  decide (i.last < e) || (op != .describe && (badMoon s who i.num e || (i.num == 0x5021 && decide (0xFFFF < selValue s who 0x5020 0 + e))))

/-- A parameter of a moon that only the moon's own role reads or writes. -/
def notOwn (s : State) (who : Who) (op : ItemOp) (p e : Nat) : Bool :=
  let m := addrMoon s who p e
  match op with
  | .describe => false
  | .read => (p == 0x6010 && !ownRole s who (effMoon who 0)) || ((p == 0x5050 || p == 0x5053) && !ownRole s who m)
  | .write => (p == 0x6010 && !ownRole s who (effMoon who 0)) ||
      ((p == 0x5050 || p == 0x5053 || p == 0x9200 || p == 0x9205 || p == 0x9502) && !ownRole s who m)

/-- The first check of R439 that an item fails before its value is looked at, or its parameter. R79 counts tags 1 to 255, and R84 does not say that
element 0 of P9100 to P9106 is refused: it is accepted, and its counters, which nothing counts, read 0 [DESIGN CHOICE 51]. -/
def itemCheck (s : State) (who : Who) (g : Grant) (first : Bool) (op : ItemOp) (it : Item) : Except Nat ParamInfo :=
  if notReady s who it.param (op == .write) then .error 9
  else if itemRsv op it then .error 12
  else match dictRow it.param with
    | none => .error 1
    | some i =>
      if elementBad s who op i it.element then .error 2
      else if !grantOk g first op it.param then .error 10
      else
        let c := accessStatus (accessOf i who.role) op who.role
        if c ≠ 0 then .error c
        else if notOwn s who op i.num it.element then .error 3
        else if op == .write && i.num == 0xA001 && keyClaimed s who then .error 10
        else .ok i

/-- The slice of a value that a READ returns (R438). -/
def cutValue (it : Item) (b : Bytes) : Bytes × Bool :=
  let n := if it.len = 0 then b.length - it.offset else Nat.min it.len (b.length - it.offset)
  ((b.drop it.offset).take n, decide (b.length ≤ it.offset + n))

/-- The present value of a parameter and what reading it changes; area 0xF answers the content that the spec leaves to the vendor (R428) [7]. -/
def wholeValue (s : State) (who : Who) (i : ParamInfo) (e : Nat) : Except Nat (State × Bytes) :=
  if i.num / 4096 = 15 then .ok (s, Config.vendor i.num e) else readValue s who i e

/-- A READ item (R436, R438). -/
def readItem (s : State) (who : Who) (i : ParamInfo) (it : Item) : State × ItemRsp :=
  if i.typ ≠ 8 ∧ i.typ ≠ 9 then
    match readValue s who i it.element with
    | .error c => (s, itemFail c)
    | .ok (t, v) => (t, ⟨0, i.typ, false, s.dict.stuckList.contains (pkey i.num (storeElem i.num it.element (addrMoon s who i.num it.element))), v⟩)
  else if it.offset = 0 then
    match wholeValue s who i it.element with
    | .error c => (s, itemFail c)
    | .ok (t, b) => let (v, l) := cutValue it b; (keepPieces t who i.num it.element b, ⟨0, i.typ, l, false, v⟩)
  else match s.dict.pieces.find? fun x => x.who == who && x.param == i.num && x.element == it.element && decide (s.orbit.refNs ≤ x.at_ + 1000000000) with
    | none => (s, itemFail 11)
    | some x => if x.bytes.length < it.offset then (s, itemFail 11) else let (v, l) := cutValue it x.bytes; (s, ⟨0, i.typ, l, false, v⟩)

/-- Drop what a role and path has staged. -/
def dropStaging (s : State) (who : Who) : State := modDict s fun d => { d with staging := d.staging.filter fun x => x.who != who }

/-- A WRITE item (R436, R438, R444). -/
def writeItem (s : State) (who : Who) (i : ParamInfo) (it : Item) : State × ItemRsp :=
  let v := slice it.value 0 it.len
  let done (x : State × Nat) : State × ItemRsp := if x.2 = 0 then (x.1, ⟨0, i.typ, false, false, []⟩) else (x.1, itemFail x.2)
  if it.type ≠ i.typ then (s, itemFail 6)
  else if i.typ ≠ 8 ∧ i.typ ≠ 9 then
    if it.len ≠ i.size then (s, itemFail 6) else done (writeValue s who i it.element v)
  else
    let old := s.dict.staging.find? fun x =>
      x.who == who && x.param == i.num && x.element == it.element && decide (s.orbit.refNs ≤ x.at_ + 1000000000)
    let before : Option Bytes := if it.offset = 0 then some [] else match old with
      | some x => if x.bytes.length = it.offset then some x.bytes else none
      | none => none
    let s := dropStaging s who
    match before with
    | none => (s, itemFail 11)
    | some b =>
      let b := b ++ v
      if !it.last then
        (modDict s fun d => { d with staging := d.staging ++ [⟨who, i.num, it.element, b, s.orbit.refNs⟩] }, ⟨0, i.typ, false, false, []⟩)
      else if b.length ≠ i.size then (s, itemFail 6)
      else done (writeValue s who i it.element b)

/-- One item (R439, R440). -/
def actItem (s : State) (who : Who) (g : Grant) (first : Bool) (op : ItemOp) (it : Item) : State × ItemRsp :=
  match itemCheck s who g first op it with
  | .error c => (s, itemFail c)
  | .ok i => match op with
    | .read => readItem s who i it
    | .write => writeItem s who i it
    | .describe => (s, ⟨0, i.typ, false, false, describeBytes s who i it.element⟩)

/-- The items of a frame in order (R442). -/
def actItems (s : State) (who : Who) (g : Grant) (first : Bool) (l : List (ItemOp × Item)) : State × List ItemRsp :=
  match l with
  | [] => (s, [])
  | (op, it) :: rest =>
    let (s, r) := actItem s who g first op it
    let (s, rs) := actItems s who g false rest
    (s, r :: rs)

/-! ## Responses (R435, R436) -/

/-- Bytes padded to a multiple of 4. -/
def pad4 (b : Bytes) : Bytes := padTo b ((b.length + 3) / 4 * 4)

/-- A response item's bytes. -/
def rspItemBytes (it : Item) (r : ItemRsp) : Bytes :=
  leBytes 2 it.param ++ leBytes 1 it.element ++ leBytes 1 r.status ++ leBytes 1 r.typ ++
    leBytes 1 ((if r.last then 1 else 0) + if r.stuck then 2 else 0) ++ leBytes 2 r.value.length ++ leBytes 2 it.offset ++ leBytes 2 0 ++ pad4 r.value

/-- A response header (R435). -/
def rspHeader (s : State) (f : Frame) (items status : Nat) (auth : Bool) (n : Nat) : Bytes :=
  leBytes 1 1 ++ leBytes 1 2 ++ leBytes 2 f.reqId ++ leBytes 2 f.target ++ leBytes 2 (ownFabric s) ++ leBytes 1 f.role ++ leBytes 1 items ++
    leBytes 1 status ++ leBytes 1 (if auth then 1 else 0) ++ leBytes 2 n ++ leBytes 2 f.via

/-- A refused frame's response (R441); AUTH_REPLAY names the lowest acceptable nonce (R434). -/
def failBytes (s : State) (f : Frame) (status low : Nat) : Bytes :=
  if status = 0x24 then rspHeader s f 0 status false 48 ++ padTo (leBytes 8 low) 32 else rspHeader s f 0 status false 16

/-- A response with the AUTH block of R433 under the key that verified the request. -/
def sealedBytes (s : State) (f : Frame) (key : Option Bytes) (items status : Nat) (body : Bytes) : Bytes :=
  match key with
  | none => rspHeader s f items status false (16 + body.length) ++ body
  | some k =>
    let b := rspHeader s f items status true (48 + body.length) ++ body ++ leBytes 8 f.nonce
    b ++ leBytes 8 0 ++ slice (Config.kmac k b 128 "VLR-DICT") 0 16

/-- The response of a served frame. -/
def okBytes (s : State) (f : Frame) (key : Option Bytes) (l : List (ItemOp × Item)) (rs : List ItemRsp) : Bytes :=
  sealedBytes s f key rs.length 0 ((l.zip rs).flatMap fun x => rspItemBytes x.1.2 x.2)

/-- Bytes of the response body that a frame needs (R438). -/
def rspSize (f : Frame) (rs : List ItemRsp) : Nat :=
  16 + (rs.map fun r => 12 + (r.value.length + 3) / 4 * 4).foldl (· + ·) 0 + if f.auth then 32 else 0

/-! ## Roles and authentication (R432 to R434, R506, R507) -/

/-- The role of a number (R435). -/
def roleOf (n : Nat) : Option Role :=
  match n with
  | 0 => some .hostPf
  | 1 => some .tenant
  | 2 => some .shepherd
  | 3 => some .operatorKey
  | _ => none

/-- The role that a path may claim (R432): operator-key only with AUTH, shepherd over a link only from PARENT_FABRIC. -/
def claimed (s : State) (path : Path) (f : Frame) : Option Role :=
  match roleOf f.role, path with
  | some .operatorKey, .vf _ => none
  | some .operatorKey, _ => if f.auth then some .operatorKey else none
  | some .hostPf, .pf => some .hostPf
  | some .tenant, .vf _ => some .tenant
  | some .shepherd, .mgt _ => some .shepherd
  | some .shepherd, .link _ => if f.source = param s 0xB001 0 ∧ f.source ≠ 0xFFFF ∧ s.pack.role ≠ 2 then some .shepherd else none
  | _, _ => none

/-- The tag verifies under a key (R433). -/
def tagOk (f : Frame) (key : Bytes) : Bool := slice (Config.kmac key f.covered 128 "VLR-DICT") 0 16 == slice f.tag 0 16

/-- The key that the frame's own first item would establish (R506). -/
def openingKey (s : State) (l : List (ItemOp × Item)) : Option Bytes :=
  match l with
  | (.write, it) :: _ =>
    if it.param = 0xA003 ∧ it.offset = 0 then
      match sessionOpen (slice it.value 0 it.len) s with
      | .ok t => t.sec.provisional.map Prod.fst
      | .error _ => none
    else none
  | _ => none

/-- The key under which a frame's tag verifies, with what it grants: the proven key first, then the provisional, then its own first item's. -/
def verifiedBy (s : State) (f : Frame) (l : List (ItemOp × Item)) : Option (Bytes × Grant) :=
  let try_ (k : Option Bytes) (g : Grant) : Option (Bytes × Grant) :=
    match k with | some k => if tagOk f k then some (k, g) else none | none => none
  ((try_ s.sec.proven .all).or (try_ (s.sec.provisional.map Prod.fst) .prove)).or (try_ (openingKey s l) .opening)

/-- The nonce mark that binds a grant (R434, R506). -/
def nonceMark (s : State) : Grant → Nat
  | .all => s.dict.nonce
  | .prove => s.dict.nonceProv
  | .opening => 0

/-- An accepted nonce: the mark rises; within 2^19 of the ceiling a new ceiling is journaled 2^20 above it (R434). -/
def takeNonce (s : State) (g : Grant) (n : Nat) : State :=
  match g with
  | .all =>
    let s := modDict s fun d => { d with nonce := n }
    if s.dict.nonceCeil < n + 2 ^ 19 then
      let c := Nat.min (n + 2 ^ 20) (2 ^ 64 - 1)
      jAppend (modDict s fun d => { d with nonceCeil := c }) (.nonceCeil c)
    else s
  | _ => modDict s fun d => { d with nonceProv := n }

/-! ## Frames as they leave (R435, R447) -/

/-- A request item's bytes (R436). -/
def reqItemBytes (x : ItemOp × Item) : Bytes :=
  let it := x.2
  let op := match x.1 with | .read => 1 | .write => 2 | .describe => 3
  leBytes 2 it.param ++ leBytes 1 it.element ++ leBytes 1 op ++ leBytes 1 it.type ++ leBytes 1 (if it.last then 1 else 0) ++ leBytes 2 it.len ++
    leBytes 2 it.offset ++ leBytes 2 (if it.rsv then 1 else 0) ++ if x.1 = .write then pad4 (slice it.value 0 it.len) else []

/-- A request's body: as it came, or from its fields (R433, R435). -/
def requestBytes (f : Frame) (l : List (ItemOp × Item)) : Bytes :=
  if f.raw ≠ [] then f.raw
  else
    let items := l.flatMap reqItemBytes
    leBytes 1 f.version ++ leBytes 1 f.kind ++ leBytes 2 f.reqId ++ leBytes 2 f.target ++ leBytes 2 0 ++ leBytes 1 f.role ++
      leBytes 1 l.length ++ leBytes 1 0 ++ leBytes 1 (if f.auth then 1 else 0) ++ leBytes 2 (16 + items.length + if f.auth then 32 else 0) ++
      leBytes 2 f.via ++ items ++ if f.auth then leBytes 8 f.nonce ++ leBytes 8 0 ++ slice f.tag 0 16 else []

/-- Bytes with those at an offset replaced. -/
def putBytes (b : Bytes) (o : Nat) (v : Bytes) : Bytes := b.take o ++ v ++ b.drop (o + v.length)

/-- A request as it travels on: the PF's role becomes shepherd (R450), VIA becomes 0xFFFF on the way to VIA (R449); everything else is unchanged. -/
def forwardBytes (f : Frame) (hops : Nat) (l : List (ItemOp × Item)) : Bytes :=
  let b := requestBytes f l
  let b := if f.role = 0 then putBytes b 8 (leBytes 1 2) else b
  if hops = 2 then putBytes b 14 (leBytes 2 0xFFFF) else b

/-- Send a dictionary body to a module in CONTROL flits (R372, R405). -/
def sendBody (s : State) (kind : CtlKind) (fabric : Nat) (b : Bytes) : State :=
  let p := portTo s fabric
  let x := getPort s p
  let s := emit s (.dictFrame (.link p) b)
  if p < 32 ∧ x.phase = .up ∧ !x.sxl1 then
    (payloads 240 (b.length / 240 + 2) b).foldl (fun s d =>
      offer (emit s (.control p kind fabric [])) p 5 (mkFlit s (controlTo s p fabric) fabric 0 0 0 d)) s
  else s

/-- An Ethernet II frame that answers a request out of its management port: to the source of the request, padded to the minimum (R447). -/
def mgtFrame (port : Nat) (f : Frame) (b : Bytes) : Bytes := f.src ++ mgtMac port ++ [0x88, 0xB5] ++ padTo b 46

/-! ## Delivering responses (R424, R447) -/

/-- The number of a mailbox's function. -/
def pathFn : Path → Nat
  | .vf n => n
  | _ => 0

/-- The response stands in the mailbox (step 4 of R424); one whose function was reset meanwhile is discarded. -/
def finishMailbox (s : State) (fn : Nat) (b : Bytes) : State :=
  let f := getFn s fn
  if f.mbx ≠ .busy then s
  else
    let s := setFn s fn { f with mbx := .done, rspBuf := b, rspLen := b.length }
    if f.mbxIrq then sendMsix s fn (if fn = 0 then 18 else 33) else s

/-- Hand a response to where its request came from (R424, R435, R447). -/
def reply (s : State) (path : Path) (mailbox : Bool) (f : Frame) (b : Bytes) : State :=
  match path with
  | .mgt p => emit s (.dictFrame path (mgtFrame p f b))
  | .link _ => sendBody s .dictRsp f.source b
  | _ => if mailbox then finishMailbox s (pathFn path) b else emit s (.dictFrame path b)

/-- Count a request and its response (R452), and keep the last item's answer. -/
def countFrame (s : State) (status : Nat) (rs : List ItemRsp) : State :=
  let s := incB s 0x0030 0 1
  let s := if status ≠ 0 || rs.any fun r => r.status != 0 then incB s 0x0031 0 1 else s
  let s := if status = 0x23 ∨ status = 0x24 then incB s 0x0032 0 1 else s
  let r := rs.getLastD (itemFail 0)
  modDict s fun d => { d with answer := { frame := status, status := r.status, stuck := r.stuck, last := r.last, value := r.value } }

/-- Answer a frame that is refused whole (R441). -/
def refuseFrame (s : State) (path : Path) (mailbox : Bool) (f : Frame) (status low : Nat) : State :=
  reply (countFrame s status []) path mailbox f (failBytes s f status low)

/-- TOO_BIG (R438): no item acts; the answer to an authenticated request that passed carries its AUTH block (R433). -/
def tooBig (s : State) (path : Path) (mailbox : Bool) (f : Frame) (key : Option Bytes) : State :=
  reply (countFrame s 0x28 []) path mailbox f (sealedBytes s f key 0 0x28 [])

/-- Bytes a body may take (R438). -/
def rspLimit (path : Path) : Nat :=
  match path with
  | .pf => 4096
  | .vf _ => 4096
  | _ => 1500

/-- Serve a local frame (R432 to R444); a request or a response beyond the path's limit leaves every item undone (TOO_BIG, R438) [32]. -/
def serveLocal (s : State) (path : Path) (mailbox : Bool) (f : Frame) (role : Role) (l : List (ItemOp × Item)) : State :=
  let who : Who := { role := role, path := path }
  let run (s : State) (g : Grant) (key : Option Bytes) : State :=
    let (t, rs) := actItems s who g true l
    if rspLimit path < Nat.max (requestBytes f l).length (rspSize f rs) then tooBig s path mailbox f key
    else
      let t := if g = .opening then takeNonce t g f.nonce else t
      reply (countFrame t 0 rs) path mailbox f (okBytes t f key l rs)
  if !f.auth then run s .all none
  else match verifiedBy s f l with
    | none => refuseFrame s path mailbox f 0x23 0
    | some (k, g) =>
      let mark := nonceMark s g
      if f.nonce ≤ mark then refuseFrame s path mailbox f 0x24 (mark + 1)
      else run (if g = .opening then s else takeNonce s g f.nonce) g (some k)

/-! ## Gateway (R448 to R451) -/

/-- The ANSWERING member with a FABRIC_ID (R381, R449). -/
def answering (s : State) (fabric : Nat) : Option Nat :=
  match memberOf s fabric with
  | some e => if (getMember s e).silent then none else some e
  | none => none

/-- Where a request for another module goes (R449): the member, its FABRIC_ID, the hops. -/
def gatewayTo (s : State) (f : Frame) : Option (Nat × Nat × Nat) :=
  if !isManager s then none
  else match answering s f.target with
    | some e => some (e, f.target, 1)
    | none =>
      if s.pack.role ≠ 2 then none
      else match answering s f.via with
        | some e => some (e, f.via, 2)
        | none => none

/-- Forward a request (R449, R450), or answer TARGET_UNREACHABLE; a body above the 1,500 bytes of a remote target is TOO_BIG (R438) [32]. -/
def forwardFrame (s : State) (path : Path) (mailbox : Bool) (f : Frame) (l : List (ItemOp × Item)) : State :=
  match gatewayTo s f with
  | none => refuseFrame s path mailbox f 0x25 0
  | some (e, fabric, hops) =>
    if 16 ≤ s.dict.forwarded.length then refuseFrame s path mailbox f 0x25 0
    else if 1500 < (forwardBytes f hops l).length then refuseFrame s path mailbox f 0x28 0
    else
      let n := s.dict.nextRequest
      let s := modDict s fun d => { d with
        nextRequest := n + 1
        forwarded := d.forwarded ++ [{ request := n, origin := path, mailbox := mailbox, frame := f, member := e, hops := hops, sentAt := s.orbit.refNs }] }
      sendBody s .dictReq fabric (forwardBytes f hops l)

/-- The request names this module (R449). -/
def isLocal (s : State) (f : Frame) : Bool := f.target == 0xFFFE || (f.target == ownFabric s && f.target != 0xFFFF)

/-- One request from a path (R432, R441, R448, R449): the frame checks in the order of their codes, a VF's remote target refused whole. -/
def serveFrame (s : State) (path : Path) (mailbox : Bool) (f : Frame) (l : List (ItemOp × Item)) : State :=
  let isMgt := match path with | .mgt _ => true | _ => false
  let isVf := match path with | .vf _ => true | _ => false
  if f.version ≠ 1 ∨ f.kind ≠ 1 then refuseFrame s path mailbox f 0x20 0
  else if !f.wellLen ∨ l.isEmpty ∨ 64 < l.length then refuseFrame s path mailbox f 0x21 0
  else match claimed s path f with
    | none => refuseFrame s path mailbox f 0x22 0
    | some r =>
      if isLocal s f then serveLocal s path mailbox f r l
      else if isVf then refuseFrame s path mailbox f 0x27 0
      else if f.target = 0xFFFF then
        if !isMgt || !f.broadcast then refuseFrame s path mailbox f 0x25 0
        else if l.any fun x => x.1 == .write then refuseFrame s path mailbox f 0x27 0
        else serveLocal s path mailbox f r l
      else forwardFrame s path mailbox f l

/-- A path that can bring a request now: a live function, an enabled management port (R411, R445), a link. -/
def pathLive (s : State) (path : Path) : Bool :=
  match path with
  | .pf => true
  | .vf n => vfOn s n
  | .mgt p => decide (p < 2) && param s 0x0021 p == 1
  | .link p => linksLive s && (getPort s p).phase == .up

/-- The Ethernet frame of a request on a management port is one that the port takes (R447): untagged, to its address or the broadcast address,
with the dictionary's EtherType. -/
def mgtTakes (path : Path) (f : Frame) : Bool :=
  match path with
  | .mgt p => (f.broadcast || f.dest == mgtMac p) && f.etherType == 0x88B5 && !f.vlan
  | _ => true

/-- Requests wait to be served (R442). -/
def requestsWait (s : State) : Bool := !s.host.taken.isEmpty || !s.dict.held.isEmpty

/-- The 9th request of a management port that none of is served yet is dropped (R447). -/
def portFull (s : State) (path : Path) : Bool :=
  match path with
  | .mgt _ => decide (8 ≤ (s.dict.held.filter fun x => x.path == path).length)
  | _ => false

/-- A request arrives (R442, R447): served at once, or held behind the requests that wait; a management port that holds 8 drops it and counts. -/
def takeRequest (s : State) (path : Path) (f : Frame) (l : List (ItemOp × Item)) : State :=
  if !requestsWait s then serveFrame s path false f l
  else if portFull s path then incB s 0x0033 0 1
  else modDict s fun d => { d with held := d.held ++ [⟨path, f, l⟩] }

/-- Place of a path among those served in one cycle (R442). -/
def pathRank : Path → Nat
  | .pf => 0
  | .vf n => n
  | .mgt p => 64 + p
  | .link p => 128 + p

/-- Serve the held requests, MGT_A's first, then MGT_B's, then the links' by port number (R442). -/
def serveHeld (s : State) : State :=
  if s.dict.held.isEmpty then s
  else
    ((upTo 160).flatMap fun n => s.dict.held.filter fun x => pathRank x.path == n).foldl (fun s x => serveFrame s x.path false x.frame x.items)
      (modDict s fun d => { d with held := [] })

/-- A frame of one item. -/
def serveItem (s : State) (path : Path) (f : Frame) (op : ItemOp) (it : Item) : Res :=
  if dead s || !pathLive s path || !mgtTakes path f then .next s else .next (takeRequest s path f [(op, it)])

/-- READ (R436). -/
def execRead (path : Path) (f : Frame) (it : Item) (s : State) : Res := serveItem s path f .read it

/-- WRITE (R436, R444). -/
def execWrite (path : Path) (f : Frame) (it : Item) (s : State) : Res := serveItem s path f .write it

/-- DESCRIBE (R437). -/
def execDescribe (path : Path) (f : Frame) (it : Item) (s : State) : Res := serveItem s path f .describe it

/-- STAGING_EXPIRE (R438): 1 s without a piece. -/
def execStagingExpire (who : Who) (s : State) : Res :=
  if s.dict.staging.any fun x => x.who == who && decide (x.at_ + 1000000000 ≤ s.orbit.refNs) then .next (dropStaging s who) else .next s

/-- The item statuses of a response's items (R436). -/
def rspStatuses (n : Nat) (b : Bytes) : List Nat :=
  match n with
  | 0 => []
  | n + 1 => if b.length < 12 then [] else field b 3 1 :: rspStatuses n (b.drop (12 + (field b 6 2 + 3) / 4 * 4))

/-- GATEWAY_RESPONSE (R451): passed back unchanged while its originator waits, otherwise dropped. -/
def execGatewayResponse (request : Nat) (body : Bytes) (s : State) : Res :=
  match s.dict.forwarded.find? fun x => x.request == request with
  | none => .next s
  | some x =>
    if dead s then .next s
    else .next (reply (modDict (countFrame s (field body 10 1) ((rspStatuses (field body 9 1) (body.drop 16)).map itemFail)) fun d => { d with forwarded := d.forwarded.filter fun y => y.request != request }) x.origin x.mailbox x.frame body)

/-- TARGET_TIMEOUT (R451): 100 µs for each hop. -/
def execTargetTimeout (request : Nat) (s : State) : Res :=
  match s.dict.forwarded.find? fun x => x.request == request with
  | none => .next s
  | some x =>
    if dead s || decide (s.orbit.refNs < x.sentAt + 100000 * x.hops) then .next s
    else .next (refuseFrame (modDict s fun d => { d with forwarded := d.forwarded.filter fun y => y.request != request }) x.origin x.mailbox x.frame 0x26 0)

/-- A port with PLCA enabled (R446). -/
def plcaPort (s : State) (p : Nat) : Bool := !dead s && decide (p < 2) && decide (s.power.slotId < 31) && param s 0x0021 p == 1

/-- PLCA_BEACON_TIMEOUT (R446): 4 ms without a PLCA BEACON. -/
def execPlcaBeaconTimeout (p : Nat) (s : State) : Res :=
  if plcaPort s p && decide (tget s.dict.plcaAt 0 p + 4000000 ≤ s.orbit.refNs) then .next (modDict s fun d => { d with csma := addNum d.csma p })
  else .next s

/-- PLCA_BEACON (R446). -/
def execPlcaBeacon (p : Nat) (s : State) : Res :=
  if plcaPort s p then .next (modDict s fun d => { d with csma := delNum d.csma p, plcaAt := tset d.plcaAt p s.orbit.refNs }) else .next s

/-- DICT_STAT_READ (R452): any role clears the group. -/
def execDictStatRead (who : Who) (s : State) : Res := query s who 0x0030 0 fun s => readStat s 0x0030 0 true

end Sys2Proof.Machine
end

