-- ==== Sys2Proof/Machine/Bar0.lean ====
section
/-! DEFINITION. Writes to BAR0 (R204 to R207, R410, R415 to R417, R421), the mailbox (R424) and dictionary bodies in CONTROL flits (R435): the rows
MBX_DOORBELL, REGISTER_WRITE and CONTROL. -/

namespace Sys2Proof.Machine

/-- The state a meaning leaves; the old one where it stops. -/
def after (s : State) (r : Res) : State := match r with | .next t => t | _ => s

/-! ## Mailbox (R424, R435, R436) -/

/-- The items of a request body, with the bytes they take; none when an item runs past the body (R441). -/
def parseItems (n : Nat) (b : Bytes) : Option (List (ItemOp × Item) × Nat) :=
  match n with
  | 0 => some ([], 0)
  | n + 1 =>
    let op := field b 3 1
    let len := field b 6 2
    let size := 12 + if op = 2 then (len + 3) / 4 * 4 else 0
    if b.length < size then none
    else
      let it : Item := { param := field b 0 2, element := field b 2 1, type := field b 4 1, last := (field b 5 1).testBit 0, len := len
                         offset := field b 8 2, value := if op = 2 then slice b 12 len else []
                         rsv := decide (op = 0 ∨ 3 < op) || decide (2 ≤ field b 5 1) || field b 10 2 != 0 }
      let op := if op = 2 then ItemOp.write else if op = 3 then ItemOp.describe else ItemOp.read
      (parseItems n (b.drop size)).map fun r => ((op, it) :: r.1, size + r.2)

/-- A request body: its frame and items (R433, R435). -/
def parseFrame (b : Bytes) : Frame × List (ItemOp × Item) :=
  let auth := (field b 0xB 1).testBit 0
  let tail := if auth then 32 else 0
  let items := parseItems (field b 9 1) (b.drop 16)
  let good := decide (16 ≤ b.length) && field b 0xC 2 == b.length && (match items with | some r => 16 + r.2 + tail == b.length | none => false)
  ({ version := field b 0 1, kind := field b 1 1, reqId := field b 2 2, target := field b 4 2, role := field b 8 1, via := field b 0xE 2
     source := 0xFFFF, auth := auth, broadcast := false, wellLen := good, covered := b.take (b.length - 24)
     nonce := field b (b.length - 32) 8, tag := slice b (b.length - 16) 16, raw := b }, (items.map Prod.fst).getD [])

/-- Serve a request that a function's mailbox has taken (step 4 of R424); with 64 added to its number, the function was reset since, and the
response is discarded. -/
def serveTaken (s : State) (x : Nat × Bytes) : State :=
  let fn := x.1 % 64
  let path : Path := if fn = 0 then .pf else .vf fn
  let (fr, items) := parseFrame x.2
  if x.1 < 64 then serveFrame s path true fr items
  else
    let old := getFn s fn
    let t := serveFrame (setFn s fn { old with mbx := .idle }) path true fr items
    let t := setFn t fn { getFn t fn with mbx := old.mbx, rspLen := old.rspLen, rspBuf := old.rspBuf }
    { t with dict := { t.dict with forwarded := t.dict.forwarded.filter fun x => s.dict.forwarded.any fun y => y.request == x.request } }

/-- Serve a taken request, or hold it when a firmware swap has begun since it was taken (W2 of R489). -/
def serveOrHold (live : Bool) (s : State) (x : Nat × Bytes) : State :=
  if live && s.fw.swap.isSome then modHost s fun h => { h with heldTaken := h.heldTaken ++ [x] } else serveTaken s x

/-- Answer every request taken from a mailbox, the PF's first, then the VFs' by number (R442). -/
def serveMailboxes (s : State) : State :=
  let l := s.host.taken
  if l.isEmpty then s
  else
    let t := modHost s fun h => { h with taken := [] }
    ((upTo 64).flatMap fun fn => l.filter fun x => x.1 % 64 == fn).foldl (serveOrHold s.fw.swap.isNone) t

/-- MBX_DOORBELL (R424): refused while BUSY or with a LEN out of range; otherwise the request is copied and STATE is BUSY. -/
def execMbxDoorbell (fn : Nat) (v : W32) (s : State) : Res :=
  let f := getFn s fn
  let len := v.toNat % 2 ^ 13
  if dead s || !fnLive s fn then .next s
  else if f.mbx = .busy ∨ len = 0 ∨ 4096 < len then .next (setFn s fn { f with mbxRefused := true })
  else
    .next (modHost (setFn s fn { f with mbx := .busy }) fun h => { h with taken := h.taken ++ [(fn, memRead f.reqBuf 0 len)] })

/-! ## The function page (R416) -/

/-- A 32-bit write to the function register page. -/
def writeFnReg (fn o : Nat) (v : W32) (s : State) : State :=
  let f := getFn s fn
  let bit (i : Nat) : Bool := v.toNat.testBit i
  match o with
  | 0x008 => if f.evqEnable then s else setFn s fn { f with evqBase := putHalf f.evqBase false v }
  | 0x00C => if f.evqEnable then s else setFn s fn { f with evqBase := putHalf f.evqBase true v }
  | 0x010 => after s (execEvqCfg fn v s)
  | 0x018 => setFn s fn { f with evqHead := v }
  | 0x01C => setFn s fn { f with evqOverflow := f.evqOverflow && !bit 0, evqCfgErr := f.evqCfgErr && !bit 1 }
  | 0x028 => after s (execMbxDoorbell fn v s)
  | 0x02C => setFn s fn { f with mbxRefused := f.mbxRefused && !bit 2 }
  | 0x030 => setFn s fn { f with mbxIrq := bit 0 }
  | _ => s

/-! ## Moon pages (R204 to R207, R415) -/

/-- A 32-bit write to a ring register block (R204): base registers only while the ring is disabled and not draining (R205). -/
def writeRingReg (fn m r k : Nat) (v : W32) (s : State) : State :=
  let x := getRing s m r
  let bit (i : Nat) : Bool := v.toNat.testBit i
  let open_ := !x.enable && x.state != .draining
  if !ringAccess s fn m then s
  else match k with
  | 0x00 => if open_ then setRing s m r { x with base := putHalf x.base false v } else s
  | 0x04 => if open_ then setRing s m r { x with base := putHalf x.base true v } else s
  | 0x08 => if open_ then setRing s m r { x with cplBase := putHalf x.cplBase false v } else s
  | 0x0C => if open_ then setRing s m r { x with cplBase := putHalf x.cplBase true v } else s
  | 0x10 => after s (execRingCfg fn m r v s)
  | 0x14 => takeTail fn m r v s
  | 0x1C => setRing s m r { x with dbErr := x.dbErr && !bit 2, fail := x.fail && !bit 3, cfgErr := x.cfgErr && !bit 4, cplErr := x.cplErr && !bit 5 }
  | 0x20 => if bit 1 then after s (execRingCtrlReset fn m r s) else if bit 0 then after s (execRingCtrlResume fn m r s) else s
  | _ => s

/-- A 32-bit write to a moon page (R415). -/
def writeMoonPage (fn m o : Nat) (v : W32) (s : State) : State :=
  if o < 0x400 then writeRingReg fn m (o / 0x40) (o % 0x40) v s
  else if o = 0x400 then after s (execWinBase fn m false v s)
  else if o = 0x404 then after s (execWinBase fn m true v s)
  else s

/-- A 32-bit register write of BAR0 (R415, R416). -/
def writeReg (fn o : Nat) (v : W32) (s : State) : State :=
  if o < 0x1000 then writeFnReg fn o v s
  else if fn = 0 then (if 0x10000 ≤ o ∧ o < 0x50000 then writeMoonPage 0 ((o - 0x10000) / 0x1000) (o % 0x1000) v s else s)
  else if 0x10000 ≤ o ∧ o < 0x11000 then writeMoonPage fn fn (o % 0x1000) v s
  else s

/-- A register access of 32 or 64 bits, naturally aligned, the 64-bit one as two halves in ascending order; any other is discarded (R416). -/
def writeRegs (fn o : Nat) (b : Bytes) (s : State) : State :=
  let w (i : Nat) : W32 := BitVec.ofNat 32 (field b i 4)
  if b.length = 4 ∧ o % 4 = 0 then writeReg fn o (w 0) s
  else if b.length = 8 ∧ o % 8 = 0 then writeReg fn (o + 4) (w 4) (writeReg fn o (w 0) s)
  else s

/-! ## MSI-X table (R415, R421) -/

/-- The mask bit of a vector as its table entry holds it. -/
def entryMasked (f : Func) (v : Nat) : Bool := (memGet f.msixTable (16 * v + 12)).toNat.testBit 0

/-- A write to the MSI-X table: the entries keep the bytes, and the vectors whose mask byte was written follow their mask bit. -/
def writeMsix (fn o : Nat) (b : Bytes) (s : State) : State :=
  let size := if fn = 0 then 2048 else 64
  if 16 * size < o + b.length then s
  else
    let f := getFn s fn
    let s := setFn s fn { f with msixTable := memWrite f.msixTable o b }
    let hit := (upTo (b.length / 16 + 2)).filterMap fun i =>
      let v := o / 16 + i
      if o ≤ 16 * v + 12 ∧ 16 * v + 12 < o + b.length then some v else none
    hit.foldl (fun s v =>
      let f := getFn s fn
      if entryMasked f v then setFn s fn { f with unmasked := delNum f.unmasked v } else after s (execMsixUnmask fn v s)) s

/-! ## REGISTER_WRITE -/

/-- Where the model takes writes to a function's configuration space [22]. -/
def configSpace : Nat := 2 ^ 32

/-- A write to BAR0 of a function: registers, the request buffer, the MSI-X table, the ring windows (R415). -/
def writeBar0 (fn o : Nat) (b : Bytes) (s : State) : State :=
  let n := b.length
  if 0x1000 ≤ o ∧ o + n ≤ 0x2000 then let f := getFn s fn; setFn s fn { f with reqBuf := memWrite f.reqBuf (o - 0x1000) b }
  else if 0x80000 ≤ o ∧ o + n ≤ 0x90000 then writeMsix fn (o - 0x80000) b s
  else if fn = 0 ∧ 0x2000000 ≤ o ∧ o + n ≤ 0x4000000 then
    after s (execRingWindowWrite 0 ((o - 0x2000000) / 0x80000) (o % 0x80000) b s)
  else if fn ≠ 0 ∧ 0x200000 ≤ o ∧ o + n ≤ 0x400000 then after s (execRingWindowWrite fn fn (o - 0x200000) b s)
  else writeRegs fn o b s

/-- The size of BAR2 chosen at the PF's resizable BAR control, whose bits 13:8 give 2^n MiB: 1 GiB to 512 GiB (R414) [22]. -/
def resizeBar2 (n : Nat) (s : State) : State :=
  if 10 ≤ n ∧ n ≤ 19 then modHost s fun h => { h with bar2Size := 2 ^ (20 + n) } else s

/-- Bus Master Enable as written (R421): set, the unmasked vectors that are pending send their messages. -/
def writeBme (fn : Nat) (on : Bool) (s : State) : State :=
  let s := modFn s fn fun f => { f with busMaster := on }
  if !on then s
  else ((getFn s fn).pendingVecs.filter fun v => (getFn s fn).unmasked.contains v).foldl (fun s v => sendMsix s fn v) s

/-- A write to configuration space (R408, R414, R421, R425), within one 32-bit register: the writable bits follow; Bus Master Enable, the size of
BAR2 and an FLR act; a Max_Payload_Size above 512 bytes or a Max_Read_Request_Size above 4,096 bytes is not taken [22]. -/
def writeConfig (fn o : Nat) (b : Bytes) (s : State) : State :=
  let k := o / 4 * 4
  let old := configWord s fn k
  let v := leNat (memRead (memWrite ((upTo 4).map fun i => (i, BitVec.ofNat 8 (old / 2 ^ (8 * i)))) (o % 4) b) 0 4)
  let rw := configMask s fn k
  let set (v : Nat) (s : State) : State := modFn s fn fun f => { f with cfg := tset f.cfg (k / 4) (Nat.land v rw) }
  if 4 < o % 4 + b.length then s
  else match k with
    | 0x004 => writeBme fn (v.testBit 2) (set v s)
    | 0x048 =>
      let s := if v / 32 % 8 ≤ 2 ∧ v / 4096 % 8 ≤ 5 then set v s else s
      if v.testBit 15 then after s (execFlr fn s) else s
    | 0x104 | 0x110 =>
      let clear := leNat (memRead (memWrite [] (o % 4) b) 0 4)
      modFn s fn fun f => { f with cfg := tset f.cfg (k / 4) (Nat.land (tget f.cfg 0 (k / 4)) (Nat.xor (2 ^ 32 - 1) clear)) }
    | 0x1A8 => if fn = 0 then resizeBar2 (v / 256 % 64) s else s
    | _ => set v s

/-- REGISTER_WRITE (R415, R416): a write to BAR0, behind the function's writes that wait, or to configuration space [22]. -/
def execRegisterWrite (fn o : Nat) (b : Bytes) (s : State) : Res :=
  if dead s || !fnLive s fn then .next s
  else if configSpace ≤ o then .next (writeConfig fn (o - configSpace) b s)
  else .next (if hostWaits s fn then holdWrite s (.reg fn o b) else writeBar0 fn o b s)

/-! ## Writes that wait (R417, R426) -/

/-- A write still waits for its page or bank. -/
def writeWaits (s : State) : HostWrite → Bool
  | .window _ m ma b => windowWaits s m ma b.length
  | .bar2 o b => isUp s && bar2Waits s (bar2Hpa s o) b.length true
  | _ => false

/-- A write that has waited acts. -/
def landWrite (s : State) : HostWrite → State
  | .window fn m ma b => storeWindow s fn m ma b
  | .bar2 o b => if !isUp s || decide (s.host.bar2Size < o + b.length) then s else storeBar2 s (bar2Hpa s o) b
  | .tail fn m r v => takeTail fn m r v s
  | .reg fn o b => writeBar0 fn o b s

/-- Writes that waited act in order, each function's up to the first that still waits (R417, R426). -/
def landWrites (s : State) : List HostWrite → State
  | [] => s
  | w :: l =>
    if hostWaits s w.fn || writeWaits s w then landWrites (holdWrite s w) l else landWrites (landWrite s w) l

/-- The writes that wait are tried again. -/
def retryWrites (s : State) : State :=
  if s.host.waiting.isEmpty then s else landWrites (modHost s fun h => { h with waiting := [] }) s.host.waiting

/-! ## Dictionary bodies in CONTROL flits (R405, R435, R451) -/

/-- A request body from another module. -/
def takeRequestBody (s : State) (p src : Nat) (b : Bytes) : State :=
  let (f, l) := parseFrame b
  takeRequest s (.link p) { f with source := src } l

/-- A response body: that of the oldest request forwarded to its sender under its REQ_ID (R451) [32]; one that answers no request is dropped. -/
def takeResponseBody (s : State) (src : Nat) (b : Bytes) : State :=
  match s.dict.forwarded.find? fun x => x.frame.reqId == field b 2 2 && (getMember s x.member).fabric == src with
  | some x => after s (execGatewayResponse x.request b s)
  | none => s

/-- The payload of a CONTROL flit with part of a dictionary body; the body is whole at its BODY_LEN (R435). -/
def takeBody (s : State) (p src : Nat) (rsp : Bool) (d : Bytes) : State :=
  let k := 2 * src + if rsp then 1 else 0
  let b := tget s.dict.parts [] k ++ d
  let n := field b 0xC 2
  if b.length < n then modDict s fun x => { x with parts := tset x.parts k b }
  else
    let s := modDict s fun x => { x with parts := tdel x.parts k }
    let b := if n < 16 then b else b.take n
    if rsp then takeResponseBody s src b else takeRequestBody s p src b

/-- What a CONTROL flit for this module does, by its kind. -/
def controlFor (s : State) (p : Nat) (f : Flit) (kind : CtlKind) (args : List Nat) : State :=
  match kind with
  | .dictReq => takeBody s p f.srcFabric false f.payload
  | .dictRsp => takeBody s p f.srcFabric true f.payload
  | _ => controlActs s kind args

/-- CONTROL (R359, R372): in transit, or consumed here and passed on to its logic, whose own row acts; none crosses an SXL1 port. -/
def execControl (p : Nat) (f : Flit) (kind : CtlKind) (args : List Nat) (s : State) : Res :=
  let (s, ok) := takeFlit s p f
  if !ok || (getPort s p).sxl1 then .next s
  else if !forUs s p f then .next (transit s p 5 f)
  else .next (controlFor (sendCredit s p 0 0 1) p f kind args)

end Sys2Proof.Machine
end

