-- ==== Sys2Proof/Machine/Clock.lean ====
section
/-! DEFINITION. One nanosecond of the module reference: orbit and its slewing (R45 to R47), accounting (R250), virtual time (R234), the fill
trigger (R481), ports that wait to retrain (R490), rails that stay off (R457), mailbox requests that get their answers (R424). -/

namespace Sys2Proof.Machine

/-- Reference ns for each ns of slewing: at least 20,000, that is at most 50 ppm (R47) [8]. -/
def slewPeriod : Nat := Nat.max 20000 Config.slewPace

/-- Orbit after one reference ns: one ns, or none or two where a ns of correction falls due (R47); 64 bits (R46). -/
def orbitTick (o : OrbitUnit) : OrbitUnit :=
  let o := { o with refNs := o.refNs + 1 }
  if o.slew = 0 then { o with now := (o.now + 1) % 2 ^ 64, slewPhase := 0 }
  else if o.slewPhase + 1 < slewPeriod then { o with now := (o.now + 1) % 2 ^ 64, slewPhase := o.slewPhase + 1 }
  else if 0 < o.slew then { o with now := (o.now + 2) % 2 ^ 64, slewPhase := 0, slew := o.slew - 1 }
  else { o with slewPhase := 0, slew := o.slew + 1 }

/-- A tick without power: only the time since the rails went off (R457). -/
def tickOff (s : State) : State := { s with power := { s.power with railsOffAt := s.power.railsOffAt.map (· + 1) } }

/-- The waits for derivations that have begun or ended since the last tick (R336). -/
def noteWaits (s : State) : State := (s.train.map Prod.fst).foldl noteWait s

/-- Arrivals that waited for a moving page or bank are written once it stands (R170, R369). -/
def writeWaiting (s : State) : State :=
  (s.moons.filter fun e => !e.2.held.isEmpty && !arrivalsHeld s e.1).foldl (fun s e => deliverHeld s e.1) s

/-- A tick of a module in service. -/
def tickUp (s : State) : State := retrainNext (fillTrigger (ageAll (accrueAll s)))

/-- The requests that wait are served: the mailboxes', then the management ports' and the links' (R442). -/
def serveRequests (s : State) : State := serveHeld (serveMailboxes s)

/-- One nanosecond passes. -/
def tick (s : State) : State :=
  if dead s then tickOff s
  else
    let s := if isUp s then noteWaits s else s
    let s := retryWrites (serveRequests { s with orbit := orbitTick s.orbit })
    if isUp s then tickUp (writeWaiting s) else s

end Sys2Proof.Machine
end

