-- ==== Sys2Proof/Machine/StartUp.lean ====
section
/-! DEFINITION. Start-up and replay (R22, R25, R29, R122, R180, R181, R253, R434, R457, R461, R463, R465, R466, R483, R484, R488, R492, R499),
and the rows START_UP, POWER_FAIL_RESTART, COOLANT_READ, RECOVERY_IMAGE. -/

namespace Sys2Proof.Machine

/-- BOOT_STEP (R465). -/
def bootAt (s : State) (n : Nat) : State := modPower s fun p => { p with bootStep := n }

/-! ## Step 3: the firmware bank (R466, R488, R499) -/

/-- What the last FW_BANK record says: running bank, trial, state of the other bank; without a record the values of R488's resets. -/
def bankRecord (l : List JRec) : Nat × Nat × Nat :=
  l.foldl (fun a r => match r.payload with | .fwBank b t o => (b, t, o) | _ => a) (0, 0, 0)

/-- The reason that a bank does not run, 0 when it verifies (R498). A bank as manufactured is not described; whether it verifies is a fact of
the start-up, and its reason a free one [7]. -/
def bankFails (s : State) (f : BootFacts) (b : Nat) : Nat :=
  let x := getBank s b
  if !x.image.isEmpty then verifyImage s x.image
  else if (if b = 0 then f.bankAOk else f.bankBOk) then 0 else 1 + Config.openValue 22 b % 4

/-- The first bank of an order that verifies; each that fails raises FW_VERIFY_FAILED (R498, R499). -/
def firstBank (s : State) (f : BootFacts) (l : List Nat) : Option Nat × State :=
  match l with
  | [] => (none, s)
  | b :: r =>
    let why := bankFails s f b
    if why = 0 then (some b, s) else firstBank (raiseServed s 0x0A04 [b, why]) f r

/-- The bank state at step 3: the trial bank, the committed bank, the other bank if VALID; without a valid region A, then B (R499). A start-up
on the trial bank that did not reach step 9 counts as failed (R488). An other bank that was being staged is EMPTY (R488). -/
def chooseBank (s : State) (f : BootFacts) : Option Nat × State :=
  if !s.journal.valid then
    match firstBank s f [0, 1] with
    | (none, s) => (none, s)
    | (some b, s) => (some b, modFw s fun w => { w with running := b, trial := false, other := if b = 0 then 0 else 3 })
  else
    let (run, t, o) := bankRecord s.journal.committed
    let o := if s.fw.other ≤ 1 ∧ t = 0 then 0 else o
    let trial := t == 1
    let tryTrial := trial && !s.fw.trialTried
    let order := (if tryTrial then [run] else []) ++ [if trial then 1 - run else run] ++ (if !trial && o == 2 then [1 - run] else [])
    match firstBank s f order with
    | (none, s) => (none, s)
    | (some b, s) =>
      let kept := b == run
      (some b, modFw s fun w => { w with
        running := b, trial := tryTrial && kept, other := if kept then o else if trial && !tryTrial then 2 else 3
        fellBack := w.fellBack || (trial && !kept), trialTried := tryTrial && kept })

/-! ## Step 5: HBM records, bridges (R180, R181, R466, R484) -/

/-- A row's page when it comes from the journal, whose record names none [7]. -/
def recordPage (k : Nat) : Nat := pageKey (k / 2 ^ 32) (Config.openValue 23 k % windowPages)

/-- Set a parameter from the journal by its key. -/
def putKey (s : State) (k v : Nat) : State := { s with dict := { s.dict with params := tset s.dict.params k v } }

/-- HBM_REPAIR and PAGE_RETIRE records (R484), with the counters they carry (R477). -/
def applyHbm (s : State) (r : JRec) : State :=
  match r.payload with
  | .hbmRepair stack row kind n =>
    let k := stack * 2 ^ 32 + row % 2 ^ 32
    let x := { getRow s k with page := recordPage k }
    let x := if kind = 0 then { x with soft := true } else if kind = 1 then { x with soft := true, hard := true } else { x with soft := true, rejected := true }
    let s := setRow s k x
    if kind = 0 then putKey s (pkey 0x4006 stack) n else putKey s (pkey 0x4007 stack) n
  | .pageRetire stack page st n =>
    putKey (setPage s (pageKey stack page) ⟨if st = 1 then .retired else .retirePending, 0⟩) (pkey 0x4001 stack) n
  | _ => s

/-- Soft-repaired rows become hard-repaired, or their page is retired where the stack rejects it (R180). -/
def hardenRows (s : State) (f : BootFacts) : State :=
  (s.mem.rows.filter fun e => e.2.soft && !e.2.hard && !e.2.rejected).foldl (fun s e =>
    let stack := e.1 / 2 ^ 32
    hardRepair stack ((f.rowRejects.filter fun x => x.1 == stack).map Prod.snd) s e) s

/-- Retire-pending pages are released by the loss of power, and retired (R181). -/
def retireWaiting (s : State) : State :=
  (s.mem.pages.filter fun e => e.2.use == .retirePending).foldl (fun s e => retirePage s e.1) s

/-! ## Step 7: e-fuses and BIST (R22, R25, R29, R34, R465, R485) -/

/-- Physical cores of the module, by die and number. -/
def allPhys : List (Nat × Nat) := (upTo 4).flatMap fun d => (upTo 136).map fun p => (d, p)

/-- Physical cores that failed manufacturing test: at most 7 of a die's 8 spares are used, since each die leaves manufacture with at least one
kennel core (R22). -/
def fusedBad : List (Nat × Nat) :=
  (upTo 4).flatMap fun d => (((upTo 136).filter fun p => Config.fusedFailed d p).take 7).map fun p => (d, p)

/-- A failed core gives its logical number to a spare, or its octet is withdrawn (R25, R29), before any journal record says so. -/
def seat (s : State) (die pc : Nat) : State :=
  match logicalOf s die pc with
  | none => s
  | some lc => match nearest pc (kennel s die) with
    | some y => { s with cores := { s.cores with map := tset s.cores.map (128 * die + lc) y } }
    | none => { s with cores := { s.cores with
        map := (upTo 8).foldl (fun t i => tset t (128 * die + lc / 8 * 8 + i) 0xFF) s.cores.map
        withdrawn := addNum s.cores.withdrawn (16 * die + lc / 8) } }

/-- The e-fuse map and repairs (R22, R34): they are no journal's. -/
def fuseState (s : State) : State :=
  let bad := fusedBad
  let s := { s with cores := { s.cores with failed := bad.map fun x => 136 * x.1 + x.2 } }
  let s := bad.foldl (fun s x => seat s x.1 x.2) s
  { s with cores := { s.cores with arrays := allPhys.flatMap fun x =>
      ((upTo 128).filter fun a => decide (Config.fusedColumn x.1 x.2 a < 8)).map fun a => (arrayKey x.1 x.2 a, .column (Config.fusedColumn x.1 x.2 a)) } }

/-- A core that fails at start-up is declared failed: counted, journaled, announced (R485). -/
def bootDeclare (s : State) (die pc cause : Nat) : State :=
  if failedPc s die pc then s
  else
    let s := incA { s with cores := { s.cores with failed := addNum s.cores.failed (136 * die + pc) } } 0xB141 die 1
    raisePf (jMust s (.coreFail die pc cause (param s 0xB141 die))) 0x0C07 [die, pc, cause]

/-- A failing column of a core at start-up (R121, R122): known to the fuses, fused now, or the core's failure. -/
def bootColumn (s : State) (x : Nat × Nat × Nat × Nat) : State :=
  let (die, pc, a, f) := x
  let key := arrayKey die pc a
  if knownColumn s key f || failedPc s die pc || decide (8 < f) then s
  else match tget s.cores.arrays .none key with
    | .none =>
      if f = 8 then jAppend { s with cores := { s.cores with arrays := tset s.cores.arrays key .spareBad } } (.spareBad die pc a)
      else
        let s := incA s 0x3020 die 1
        let s := jMust s (.softFuse die pc a f (param s 0x3020 die))
        { s with cores := { s.cores with arrays := tset s.cores.arrays key (.column f) } }
    | _ => bootDeclare s die pc 5

/-- A failed core that still answers to a logical core is replaced from the kennel, or its octet is withdrawn (R24, R25, R29, R466). -/
def bootPlace (s : State) (die pc : Nat) : State :=
  match logicalOf s die pc with
  | none => s
  | some lc => match nearest pc (kennel s die) with
    | some x => checkKennel (setMap s die lc x 6) die
    | none => setSvc (withdrawOctet s (128 * die + lc) 6) 0

/-- The failing columns of an array that its e-fuse repair does not cover: with a repair left the first is repaired, any other fails the core (R121). -/
def trialColumn (s : State) (x : Nat × Nat × Nat × Nat) : State :=
  let (die, pc, a, f) := x
  let key := arrayKey die pc a
  if knownColumn s key f || failedPc s die pc || decide (8 < f) then s
  else match tget s.cores.arrays .none key with
    | .none => { s with cores := { s.cores with arrays := tset s.cores.arrays key (if f = 8 then .spareBad else .column f) } }
    | _ => { s with cores := { s.cores with failed := addNum s.cores.failed (136 * die + pc) } }

/-- Failing cores that exist. -/
def badCores (f : BootFacts) : List (Nat × Nat) := (f.segFails ++ f.bistFails).filter fun x => decide (x.1 < 4 ∧ x.2 < 136)

/-- Failing columns that exist. -/
def badColumns (f : BootFacts) : List (Nat × Nat × Nat × Nat) :=
  f.columnFails.filter fun x => decide (x.1 < 4 ∧ x.2.1 < 136 ∧ x.2.2.1 < 128)

/-- Steps 6 and 7 (R24, R122, R465): self-test and BIST with the e-fuse repairs only, and the kennel assignment that they give; step 8 reconciles it
with the journal. -/
def bootBist (s : State) (f : BootFacts) : State :=
  let s := fuseState s
  let s := { s with cores := { s.cores with failed := (badCores f).foldl (fun l x => addNum l (136 * x.1 + x.2)) s.cores.failed } }
  let s := (badColumns f).foldl trialColumn s
  s.cores.failed.foldl (fun s k => seat s (k / 136) (k % 136)) s

/-- The reconciliation of step 8 (R122, R465, R484): failures that the journal does not know are declared, every failed core is replaced or its octet
withdrawn. -/
def bootCores (s : State) (f : BootFacts) : State :=
  let s := (badCores f).foldl (fun s x => bootDeclare s x.1 x.2 6) s
  let s := (badColumns f).foldl bootColumn s
  s.cores.failed.foldl (fun s k => bootPlace s (k / 136) (k % 136)) s

/-- A die without an octet (R466). -/
def emptyDie (s : State) : Bool := (upTo 4).any fun d => (upTo 16).all fun k => s.cores.withdrawn.contains (16 * d + k)

/-! ## Step 8: replay (R122, R253, R389, R406, R430, R434, R477, R484) -/

/-- A member from its HEALTH record (R406, R477). -/
def putHealth (s : State) (e st score : Nat) (counts : List Nat) : State :=
  let h : Health := match st / 4 % 4 with | 0 => .normal | 1 => .suspect | 2 => .watch | _ => .expelled
  let s := setMember s e { getMember s e with
    silent := st % 4 == 2, health := h, svcReq := st.testBit 4, locked := st.testBit 5, missRun := st / 2 ^ 8 % 256
    answerRun := st / 2 ^ 16 % 256, score := score }
  putKey (putKey (putKey s (pkey 0xB014 e) (counts.getD 0 0)) (pkey 0xB015 e) (counts.getD 1 0)) (pkey 0xB016 e) (counts.getD 2 0)

/-- A PARAM record: the value, and what stands outside the numeric parameters (R378, R376, R430). -/
def putParam (s : State) (k v : Nat) : State :=
  match k / 65536 with
  | 0x5021 => { s with links := { s.links with fwd := if v = 0 then tdel s.links.fwd (k % 65536) else tset s.links.fwd (k % 65536) v } }
  | 0xB010 => setMember (putKey s k v) (k % 65536) (freshMember v)
  | _ => putKey s k v

/-- A PARAM record of bytes (R353, R384, R389). -/
def putBlob (s : State) (k : Nat) (b : Bytes) : State :=
  let e := k % 65536
  match k / 65536 with
  | 0xB040 => setBarrier s e { defn := parseBarDef b, gen := BitVec.ofNat 32 (field b 8 4), moves := [] }
  | 0xB042 => setBarrier s e { getBarrier s e with moves := (getBarrier s e).moves ++ [parseBarMove b] }
  | _ => { s with dict := { s.dict with blobs := tset s.dict.blobs k b } }

/-- The journaled values that a record carries: parameters, counters, the nonce ceiling, members, SVC_REASON (R430, R434, R477). -/
def loadRecord (s : State) (r : JRec) : State :=
  match r.payload with
  | .softFuse die _ _ _ n => putKey s (pkey 0x3020 die) n
  | .coreFail die _ _ n => putKey s (pkey 0xB141 die) n
  | .param k v => putParam s k v
  | .paramBlob k b => putBlob s k b
  | .nonceCeil v => { s with dict := { s.dict with nonce := v, nonceCeil := v } }
  | .counters v => v.foldl (fun s e => putKey s e.1 e.2) s
  | .health e st score counts => putHealth s e st score counts
  | .svc v => modPower s fun p => { p with svcReason := v }
  | .ledgerClose .. => s
  | .ledgerAck .. => s
  | .coreMap .. => s
  | .spareBad .. => s
  | .ledgerSnap _ => s
  | .hbmRepair .. => s
  | .pageRetire .. => s
  | .fault _ => s
  | .fwBank .. => s
  | .compactBegin .. => s
  | .compactEnd .. => s

/-- The journaled values, which stand before any path serves a READ of them, also in a Fault-Stop before step 8 (R430, R443) [25]. -/
def loadValues (s : State) : State := if s.journal.valid then s.journal.committed.foldl loadRecord s else s

/-- One record of the second pass of replay, beside its values (R477, R484). -/
def applyRecord (s : State) (r : JRec) : State :=
  match r.payload with
  | .ledgerClose c => modLedger s c.moon fun l => { l with records := l.records ++ [c], recSeq := c.recSeq + 1 }
  | .ledgerAck m q => modLedger s m fun l => { l with
      records := l.records.filter fun c => !seqAtOrBefore c.recSeq q, recSeq := if seqAtOrBefore l.recSeq q then q + 1 else l.recSeq }
  | .coreMap die lc pc _ => { s with cores := { s.cores with
      map := tset s.cores.map (128 * die + lc) pc
      withdrawn := if pc = 0xFF then addNum s.cores.withdrawn (16 * die + lc / 8) else s.cores.withdrawn } }
  | .softFuse die pc a f _ => { s with cores := { s.cores with arrays := tset s.cores.arrays (arrayKey die pc a) (.column f) } }
  | .spareBad die pc a => { s with cores := { s.cores with arrays := tset s.cores.arrays (arrayKey die pc a) .spareBad } }
  | .coreFail die pc _ _ => { s with cores := { s.cores with failed := addNum s.cores.failed (136 * die + pc) } }
  | .param .. => s
  | .paramBlob .. => s
  | .nonceCeil _ => s
  | .counters _ => s
  | .health .. => s
  | .svc _ => s
  | .ledgerSnap _ => s
  | .hbmRepair .. => s
  | .pageRetire .. => s
  | .fault _ => s
  | .fwBank .. => s
  | .compactBegin .. => s
  | .compactEnd .. => s

/-- The last journaled orbit value (R252). -/
def lastOrbit (l : List JRec) : Nat :=
  match (l.filter fun r => !r.timeLocal).getLast? with
  | some r => r.time
  | none => match l.getLast? with | some r => r.time | none => 0

/-- The last acknowledgement of a moon. -/
def lastAck (l : List JRec) (m : Nat) : Option W32 :=
  l.foldl (fun a r => match r.payload with | .ledgerAck k q => if k = m then some q else a | _ => a) none

/-- The record of a span that was open when power was lost (R253), with the OCTETS and FLAGS of the span (R252) [11]. -/
def lossRecord (s : State) (m fin : Nat) (t : List Nat) : LedgerRec :=
  { recSeq := (getLedger s m).recSeq, moon := m, octets := t.getD 6 0, flags := 64 ||| t.getD 7 0
    startOrbit := t.getD 0 0, endOrbit := fin, engineUs := t.getD 1 0, moveUs := t.getD 2 0, heldUs := t.getD 3 0, pageSec := t.getD 4 0
    txBytes := t.getD 5 0 }

/-- Append a moon's POWER_LOSS record if its span was open (R253). -/
def closeLost (l : List JRec) (s : State) (m : Nat) : State :=
  match lastSnap l m with
  | none => s
  | some t =>
    let r := lossRecord s m (lastOrbit l) t
    let s := modLedger s m fun x => { x with records := x.records ++ [r], recSeq := r.recSeq + 1 }
    let s := incA (incA (incA (incA (incA s 0x7000 m r.engineUs) 0x7001 m r.moveUs) 0x7002 m r.heldUs) 0x7003 m r.pageSec) 0x7004 m r.txBytes
    jAppend s (.ledgerClose r)

/-- GAP_BEFORE of a moon's oldest record after replay (R254, R484): records before it were dropped, or the journal has been reset. -/
def markGap (l : List JRec) (s : State) (m : Nat) : State :=
  match (getLedger s m).records with
  | [] => if s.journal.gapNext ∧ lastAck l m = none then modLedger s m fun x => { x with gap := true } else s
  | r :: _ =>
    let due := match lastAck l m with | none => s.journal.gapNext || r.recSeq != 0 | some q => r.recSeq != q + 1
    if due then modLedger s m fun x => { x with gap := true } else s

/-- The region replayed: records past a bad one are lost, and SEQ goes on after the last good one (R483, R484). -/
def selectRegion (s : State) (f : BootFacts) : State :=
  let valid := s.journal.valid && f.journalOk
  let s := modJournal s fun j => { j with valid := valid, torn := false, wasReset := false }
  match f.torn with
  | none => s
  | some n =>
    if !valid || decide (s.journal.committed.length ≤ n) then s
    else
      let l := s.journal.committed.take n
      modJournal s fun j => { j with committed := l, torn := true, pages := packPages 0 l
                                     seq := match l.getLast? with | some r => r.seq + 1 | none => 0 }

/-- The second pass of replay, with what follows from it (R484). -/
def replay (s : State) : State :=
  let l := s.journal.committed
  let s := l.foldl applyRecord s
  let s := (upTo 64).foldl (closeLost l) s
  let s := (upTo 64).foldl (markGap l) s
  let s := if s.journal.torn then raisePf s 0x0C01 [match l.getLast? with | some r => r.seq.toNat | none => 0] else s
  let (b, t, o) := bankRecord l
  let now := (s.fw.running, if s.fw.trial then 1 else 0, s.fw.other)
  let s := if now = (b, t, o) then s else noteBanks s
  settlePool (modPower s fun p => { p with svcReqPin := p.svcReason != 0 })

/-! ## Steps 9 to 11 -/

/-- ENTROPY_FAULT of a die whose source fails at start-up (R325). -/
def badEntropy (s : State) (die : Nat) : State :=
  raisePf (incA { s with sec := { s.sec with entropyBad := addNum s.sec.entropyBad die } } 0x9300 die 1) 0x0906 [die]

/-- Steps 10 and 11 (R325, R461, R465, R467, R481): cores come up, Ready. -/
def bootReady (s : State) (f : BootFacts) : State :=
  let s := ((upTo 4).filter fun d => !f.entropyOk.contains d).foldl badEntropy (bootAt s 10)
  if (upTo 4).all fun d => s.sec.entropyBad.contains d then faultStop s .entropy
  else
    let s := { s with cores := { s.cores with mcode := (upTo 544).map fun k => (k, bankMcode s) } }
    let s := (upTo 8).foldl (fun s _ => measureStep s f.impedanceUohm 1000000) s
    let old := s
    let s := modPower s fun p => { p with phase := .up, bootStep := 11, heldFacts := none, credit := 800000000, creditFull := true }
    fillTrigger (announce old (settlePack (packParent (updateRole s))))

/-- Wire groups of a bridge that fail bridge training. -/
def failedGroups (f : BootFacts) (b : Nat) : Nat := ((f.groupFails.filter fun e => e.1 == b).map Prod.snd).foldl (· + ·) 0

/-- Spare wire groups switched in for failed ones (R19): as far as the bridge has them. -/
def sparesUsed (f : BootFacts) : Tab Nat :=
  ((upTo 6).map fun b => (b, Nat.min (failedGroups f b) (Config.spareGroups b))).filter fun e => e.2 != 0

/-- Bridges that cannot be brought up at full width after spares are used (R19). -/
def narrowBridges (f : BootFacts) : List Nat :=
  (upTo 6).filter fun b => f.bridgeFails.contains b || decide (Config.spareGroups b < failedGroups f b)

/-- Step 5 (R19, R180, R181, R465, R484): HBM training with the journal's repairs, bridge training. -/
def bootHbm (s : State) (f : BootFacts) : State :=
  let s := if s.journal.valid then retireWaiting (hardenRows (s.journal.committed.foldl applyHbm s) f) else s
  { s with
    cores := { s.cores with bridges := (narrowBridges f).zipIdx.map (fun x => (x.1, if x.2 = 0 then .detour else .failed)), bridgeSpares := sparesUsed f }
    sec := { s.sec with moduleKey := s.sec.debug != .full } }

/-- Steps 8 to 11 (R122, R465, R466, R484): a die that the reconciliation leaves without an octet stops the module as in step 7. -/
def bootReplay (s : State) (f : BootFacts) : State :=
  let ok := s.journal.valid
  let s := bootAt s 8
  let s := bootCores (if ok then replay s else s) f
  if emptyDie s then faultStop s .noOctet
  else
    let s := if (narrowBridges f).isEmpty then s else setSvc s 3
    let s := modFw (bootAt s 9) fun w => { w with trialTried := false }
    if !ok then faultStop s .journal else bootReady s f

/-- Steps 5 to 11 (R465, R466). -/
def bootMiddle (s : State) (f : BootFacts) : State :=
  let s := bootHbm (bootAt s 5) f
  if f.stackFails.any fun k => decide (k < 8) then faultStop s .hbmTrain
  else if 2 ≤ (narrowBridges f).length then faultStop s .bridge
  else
    let t := bootBist (bootAt (bootAt s 6) 7) f
    if emptyDie t then faultStop t .noOctet else bootReplay (fuseState (bootAt s 7)) f

/-! ## Steps 1 to 4 -/

/-- A coolant reading at step 4 holds start-up while it is above COOLANT_IN_MAX (R463, R466). -/
def bootCoolant (s : State) (f : BootFacts) (inlet outlet : Int) : State :=
  let s := readCoolant s inlet outlet
  if s.power.coolantHot then modPower s fun p => { p with heldFacts := some f }
  else bootMiddle (modPower s fun p => { p with heldFacts := none }) f

/-- Step 4 (R355, R464, R466): LEAK_N and coolant are checked, enabled ports begin bring-up. -/
def bootChecks (s : State) (f : BootFacts) : State :=
  let s := bootAt s 4
  let s := { s with links := { s.links with ports := (upTo 32).map fun p => let x := getPort s p; (p, if x.enabled then { x with phase := .down } else x) } }
  if f.leak then faultStop (modPower s fun p => { p with leak := true }) .leak else bootCoolant s f f.coolantMilli f.outletMilli

/-- Step 3 on a bank that runs. -/
def bootRun (s : State) (f : BootFacts) : State :=
  bootChecks (trainHost (modPower s fun p => { p with bootHalt := false, faultPin := false, heldFacts := none })) f

/-- Step 3 (R466, R499): the endpoint trains with the ROM stage; without a bank the module halts with FAULT_N asserted. -/
def bootRom (s : State) (f : BootFacts) : State :=
  match chooseBank (bootAt (trainHost s) 3) f with
  | (some _, s) => bootRun s f
  | (none, s) => modPower s fun p => { p with bootHalt := true, faultPin := true, heldFacts := some f }

/-- Start-up from step 1 (R464, R465): straps and regulators; a leak in step 1 or 2 is a Fault-Stop that prevents step 3, so that no management
controller serves any path or writes the journal [25]. -/
def startUp (s : State) (f : BootFacts) : State :=
  let s := modPower (coldState s) fun p => { p with roleSel := f.roleSel % 4, slotId := f.slotId % 32, leak := f.leakEarly }
  if f.leakEarly then
    modPower s fun p => { p with phase := .faultStop, bootStep := 2, faultReason := FaultReason.leak.code, faultPin := true }
  else bootRom (loadValues (selectRegion (modPower s fun p => { p with phase := .boot, pwrGood := true }) f)) f

/-- The rails have been off for 100 ms (R457). -/
def railsRested (s : State) : Bool := match s.power.railsOffAt with | some n => decide (100000000 ≤ n) | none => true

/-- START_UP (R465): the input reaches 46.0 V while the module is off. -/
def execStartUp (facts : BootFacts) (s : State) : Res :=
  .next (if s.power.phase = .off ∧ railsRested s = true then startUp s facts else s)

/-- POWER_FAIL_RESTART (R457): after at least 100 ms with the rails off. -/
def execPowerFailRestart (facts : BootFacts) (s : State) : Res :=
  .next (if s.power.phase = .off ∧ s.power.railsOffAt.isSome = true ∧ railsRested s = true then startUp s facts else s)

/-- COOLANT_READ (R463, R466): published; a start-up held at step 4 goes on once the inlet is at or below the limit. -/
def execCoolantRead (inlet outlet : Int) (s : State) : Res :=
  if dead s then .next s
  else match s.power.phase, s.power.heldFacts with
    | .boot, some f => .next (if s.power.bootHalt then readCoolant s inlet outlet else bootCoolant s f inlet outlet)
    | _, _ => .next (readCoolant s inlet outlet)

/-- RECOVERY_IMAGE (R492): in boot halt, unlocked, bank A takes the image; one that verifies restarts start-up from step 3 on bank A. -/
def execRecoveryImage (image : Bytes) (s : State) : Res :=
  match s.power.heldFacts with
  | none => .next s
  | some f =>
    if !s.power.bootHalt || s.sec.debug == .locked || image.isEmpty || decide (33554432 < image.length) then .next s
    else
      let why := verifyImage s image
      let s := modFw s fun w => { w with banks := tset w.banks 0 (bankOf image (why == 0)) }
      if why ≠ 0 then .next (raiseServed s 0x0A04 [0, why])
      else .next (bootRun (modFw s fun w => { w with running := 0, trial := false, other := 3, trialTried := false }) f)

end Sys2Proof.Machine
end

