-- ==== Sys2Proof/Machine/Dispatch.lean ====
section
/-! DEFINITION. The effect of every command on everything but the queue: one arm per row of the table. -/

namespace Sys2Proof.Machine

/-- The meaning of a command. -/
def exec (i : Instr) (s : State) : Host.Outcome State Fault Refusal :=
  match i with
  | .substitutionStart x0 x1 x2 => Sys2Proof.Machine.execSubstitutionStart x0 x1 x2 s
  | .substitutionDone x0 x1 => Sys2Proof.Machine.execSubstitutionDone x0 x1 s
  | .fmtStatRead x0 x1 => Sys2Proof.Machine.execFmtStatRead x0 x1 s
  | .gemm x0 x1 => Sys2Proof.Machine.execGemm x0 x1 s
  | .gemmPassDone x0 x1 x2 x3 x4 => Sys2Proof.Machine.execGemmPassDone x0 x1 x2 x3 x4 s
  | .arrayStatRead x0 x1 => Sys2Proof.Machine.execArrayStatRead x0 x1 s
  | .arrayBackgroundTest x0 x1 => Sys2Proof.Machine.execArrayBackgroundTest x0 x1 s
  | .forcedArrayTest x0 x1 => Sys2Proof.Machine.execForcedArrayTest x0 x1 s
  | .arrayTestDone x0 x1 x2 => Sys2Proof.Machine.execArrayTestDone x0 x1 x2 s
  | .softFuse x0 x1 x2 x3 => Sys2Proof.Machine.execSoftFuse x0 x1 x2 x3 s
  | .chain x0 x1 => Sys2Proof.Machine.execChain x0 x1 s
  | .chainStripDone x0 x1 x2 x3 => Sys2Proof.Machine.execChainStripDone x0 x1 x2 x3 s
  | .cometRead x0 x1 => Sys2Proof.Machine.execCometRead x0 x1 s
  | .hbmTempSample x0 x1 => Sys2Proof.Machine.execHbmTempSample x0 x1 s
  | .scrubScratchpad x0 x1 x2 => Sys2Proof.Machine.execScrubScratchpad x0 x1 x2 s
  | .scrubHbm x0 x1 x2 x3 => Sys2Proof.Machine.execScrubHbm x0 x1 x2 x3 s
  | .softRepairDone x0 x1 => Sys2Proof.Machine.execSoftRepairDone x0 x1 s
  | .pageRetireDone x0 x1 x2 => Sys2Proof.Machine.execPageRetireDone x0 x1 x2 s
  | .bar2Read x0 x1 => Sys2Proof.Machine.execBar2Read x0 x1 s
  | .bar2Write x0 x1 => Sys2Proof.Machine.execBar2Write x0 x1 s
  | .memStatRead x0 x1 x2 => Sys2Proof.Machine.execMemStatRead x0 x1 x2 s
  | .taskFetch x0 x1 => Sys2Proof.Machine.execTaskFetch x0 x1 s
  | .moveCopy x0 x1 x2 => Sys2Proof.Machine.execMoveCopy x0 x1 x2 s
  | .moveFill x0 x1 => Sys2Proof.Machine.execMoveFill x0 x1 s
  | .transcode x0 x1 x2 => Sys2Proof.Machine.execTranscode x0 x1 x2 s
  | .send x0 x1 => Sys2Proof.Machine.execSend x0 x1 s
  | .syncSignal x0 x1 => Sys2Proof.Machine.execSyncSignal x0 x1 s
  | .syncSet x0 x1 => Sys2Proof.Machine.execSyncSet x0 x1 s
  | .syncDump x0 x1 => Sys2Proof.Machine.execSyncDump x0 x1 s
  | .barrier x0 x1 => Sys2Proof.Machine.execBarrier x0 x1 s
  | .alarm x0 x1 => Sys2Proof.Machine.execAlarm x0 x1 s
  | .alarmFire x0 x1 x2 => Sys2Proof.Machine.execAlarmFire x0 x1 x2 s
  | .notBeforeRelease x0 x1 => Sys2Proof.Machine.execNotBeforeRelease x0 x1 s
  | .taskCompletion x0 x1 x2 => Sys2Proof.Machine.execTaskCompletion x0 x1 x2 s
  | .completionRecordAck x0 x1 x2 => Sys2Proof.Machine.execCompletionRecordAck x0 x1 x2 s
  | .ringTail x0 x1 x2 x3 => Sys2Proof.Machine.execRingTail x0 x1 x2 x3 s
  | .ringCfg x0 x1 x2 x3 => Sys2Proof.Machine.execRingCfg x0 x1 x2 x3 s
  | .ringCtrlResume x0 x1 x2 => Sys2Proof.Machine.execRingCtrlResume x0 x1 x2 s
  | .ringCtrlReset x0 x1 x2 => Sys2Proof.Machine.execRingCtrlReset x0 x1 x2 s
  | .taskStatRead x0 x1 => Sys2Proof.Machine.execTaskStatRead x0 x1 s
  | .create x0 x1 x2 => Sys2Proof.Machine.execCreate x0 x1 x2 s
  | .resize x0 x1 x2 => Sys2Proof.Machine.execResize x0 x1 x2 s
  | .release x0 x1 x2 => Sys2Proof.Machine.execRelease x0 x1 x2 s
  | .suspend x0 x1 x2 => Sys2Proof.Machine.execSuspend x0 x1 x2 s
  | .resume x0 x1 x2 => Sys2Proof.Machine.execResume x0 x1 x2 s
  | .migrateOut x0 x1 x2 => Sys2Proof.Machine.execMigrateOut x0 x1 x2 s
  | .migrateIn x0 x1 x2 => Sys2Proof.Machine.execMigrateIn x0 x1 x2 s
  | .migrateReclaim x0 x1 x2 => Sys2Proof.Machine.execMigrateReclaim x0 x1 x2 s
  | .moonCmdCancel x0 x1 x2 => Sys2Proof.Machine.execMoonCmdCancel x0 x1 x2 s
  | .moonCmdWhen x0 => Sys2Proof.Machine.execMoonCmdWhen x0 s
  | .resizeStepBoundary x0 => Sys2Proof.Machine.execResizeStepBoundary x0 s
  | .preemptionBoundary x0 x1 => Sys2Proof.Machine.execPreemptionBoundary x0 x1 s
  | .spillDone x0 => Sys2Proof.Machine.execSpillDone x0 s
  | .restoreDone x0 => Sys2Proof.Machine.execRestoreDone x0 s
  | .map x0 x1 x2 => Sys2Proof.Machine.execMap x0 x1 x2 s
  | .unmap x0 x1 x2 => Sys2Proof.Machine.execUnmap x0 x1 x2 s
  | .protect x0 x1 x2 => Sys2Proof.Machine.execProtect x0 x1 x2 s
  | .replacePoisoned x0 x1 x2 => Sys2Proof.Machine.execReplacePoisoned x0 x1 x2 s
  | .migratePeerConfirm x0 x1 => Sys2Proof.Machine.execMigratePeerConfirm x0 x1 s
  | .precopyDone x0 => Sys2Proof.Machine.execPrecopyDone x0 s
  | .migrationHandover x0 => Sys2Proof.Machine.execMigrationHandover x0 s
  | .migrateStateReceived x0 x1 => Sys2Proof.Machine.execMigrateStateReceived x0 x1 s
  | .readyReceived x0 => Sys2Proof.Machine.execReadyReceived x0 s
  | .goReceived x0 => Sys2Proof.Machine.execGoReceived x0 s
  | .runningReceived x0 => Sys2Proof.Machine.execRunningReceived x0 s
  | .abortReceived x0 => Sys2Proof.Machine.execAbortReceived x0 s
  | .migrateReadyTimeout x0 => Sys2Proof.Machine.execMigrateReadyTimeout x0 s
  | .migrateRunningTimeout x0 => Sys2Proof.Machine.execMigrateRunningTimeout x0 s
  | .migrateGoTimeout x0 => Sys2Proof.Machine.execMigrateGoTimeout x0 s
  | .ledgerRead x0 x1 => Sys2Proof.Machine.execLedgerRead x0 x1 s
  | .ledgerAck x0 x1 x2 => Sys2Proof.Machine.execLedgerAck x0 x1 x2 s
  | .moonStatRead x0 x1 => Sys2Proof.Machine.execMoonStatRead x0 x1 s
  | .serveCtx x0 x1 x2 => Sys2Proof.Machine.execServeCtx x0 x1 x2 s
  | .stepRun x0 x1 => Sys2Proof.Machine.execStepRun x0 x1 s
  | .stepClose x0 x1 x2 => Sys2Proof.Machine.execStepClose x0 x1 x2 s
  | .stepService x0 x1 => Sys2Proof.Machine.execStepService x0 x1 s
  | .follow x0 x1 => Sys2Proof.Machine.execFollow x0 x1 s
  | .followWorkList x0 x1 x2 x3 x4 => Sys2Proof.Machine.execFollowWorkList x0 x1 x2 x3 x4 s
  | .followReport x0 x1 x2 x3 => Sys2Proof.Machine.execFollowReport x0 x1 x2 x3 s
  | .spanTimeout x0 x1 x2 => Sys2Proof.Machine.execSpanTimeout x0 x1 x2 s
  | .swap x0 x1 x2 x3 => Sys2Proof.Machine.execSwap x0 x1 x2 x3 s
  | .cancelSwap x0 x1 x2 x3 => Sys2Proof.Machine.execCancelSwap x0 x1 x2 x3 s
  | .unload x0 x1 x2 x3 => Sys2Proof.Machine.execUnload x0 x1 x2 x3 s
  | .variantRetire x0 x1 x2 x3 => Sys2Proof.Machine.execVariantRetire x0 x1 x2 x3 s
  | .swapFire x0 x1 => Sys2Proof.Machine.execSwapFire x0 x1 s
  | .serveStatRead x0 x1 => Sys2Proof.Machine.execServeStatRead x0 x1 s
  | .pipeCtx x0 x1 x2 => Sys2Proof.Machine.execPipeCtx x0 x1 x2 s
  | .pipeStart x0 x1 => Sys2Proof.Machine.execPipeStart x0 x1 s
  | .pipeDrain x0 x1 => Sys2Proof.Machine.execPipeDrain x0 x1 s
  | .pipeRetry x0 x1 => Sys2Proof.Machine.execPipeRetry x0 x1 s
  | .pipeReset x0 x1 => Sys2Proof.Machine.execPipeReset x0 x1 s
  | .pipeCmdFwd x0 => Sys2Proof.Machine.execPipeCmdFwd x0 s
  | .pipeCmdBwd x0 => Sys2Proof.Machine.execPipeCmdBwd x0 s
  | .pipeCmdUpdate x0 => Sys2Proof.Machine.execPipeCmdUpdate x0 s
  | .forwardProgramStart x0 => Sys2Proof.Machine.execForwardProgramStart x0 s
  | .backwardProgramStart x0 => Sys2Proof.Machine.execBackwardProgramStart x0 s
  | .updateProgramStart x0 => Sys2Proof.Machine.execUpdateProgramStart x0 s
  | .forwardDone x0 => Sys2Proof.Machine.execForwardDone x0 s
  | .backwardDone x0 => Sys2Proof.Machine.execBackwardDone x0 s
  | .updateDone x0 => Sys2Proof.Machine.execUpdateDone x0 s
  | .deriveDone x0 x1 => Sys2Proof.Machine.execDeriveDone x0 x1 s
  | .actRestoreDone x0 => Sys2Proof.Machine.execActRestoreDone x0 s
  | .gnsCfg x0 x1 x2 => Sys2Proof.Machine.execGnsCfg x0 x1 x2 s
  | .gnsClose x0 x1 => Sys2Proof.Machine.execGnsClose x0 x1 s
  | .trainStatRead x0 x1 => Sys2Proof.Machine.execTrainStatRead x0 x1 s
  | .snapshot x0 x1 x2 => Sys2Proof.Machine.execSnapshot x0 x1 x2 s
  | .snapCancel x0 x1 x2 => Sys2Proof.Machine.execSnapCancel x0 x1 x2 s
  | .snapAccept x0 x1 x2 => Sys2Proof.Machine.execSnapAccept x0 x1 x2 s
  | .snapshotArm x0 => Sys2Proof.Machine.execSnapshotArm x0 s
  | .snapshotCapture x0 => Sys2Proof.Machine.execSnapshotCapture x0 s
  | .snapshotDone x0 x1 => Sys2Proof.Machine.execSnapshotDone x0 x1 s
  | .toLearn x0 x1 x2 => Sys2Proof.Machine.execToLearn x0 x1 x2 s
  | .toGenerate x0 x1 x2 => Sys2Proof.Machine.execToGenerate x0 x1 x2 s
  | .turnCancel x0 x1 x2 => Sys2Proof.Machine.execTurnCancel x0 x1 x2 s
  | .turnSwitchFire x0 => Sys2Proof.Machine.execTurnSwitchFire x0 s
  | .turnDrainPoint x0 => Sys2Proof.Machine.execTurnDrainPoint x0 s
  | .turnPlanDone x0 => Sys2Proof.Machine.execTurnPlanDone x0 s
  | .turnTimeout x0 => Sys2Proof.Machine.execTurnTimeout x0 s
  | .entropyTestFail x0 => Sys2Proof.Machine.execEntropyTestFail x0 s
  | .loadBase x0 x1 x2 => Sys2Proof.Machine.execLoadBase x0 x1 x2 s
  | .loadOverlay x0 x1 x2 => Sys2Proof.Machine.execLoadOverlay x0 x1 x2 s
  | .loadVariant x0 x1 x2 => Sys2Proof.Machine.execLoadVariant x0 x1 x2 s
  | .attachShared x0 x1 x2 => Sys2Proof.Machine.execAttachShared x0 x1 x2 s
  | .dropShared x0 x1 x2 => Sys2Proof.Machine.execDropShared x0 x1 x2 s
  | .fetchCancel x0 x1 x2 => Sys2Proof.Machine.execFetchCancel x0 x1 x2 s
  | .fetchHeaderRead x0 x1 x2 x3 => Sys2Proof.Machine.execFetchHeaderRead x0 x1 x2 x3 s
  | .fetchChunkDone x0 x1 => Sys2Proof.Machine.execFetchChunkDone x0 x1 s
  | .bar4Write x0 x1 => Sys2Proof.Machine.execBar4Write x0 x1 s
  | .bar4BufferFull x0 => Sys2Proof.Machine.execBar4BufferFull x0 s
  | .bar4Timeout x0 => Sys2Proof.Machine.execBar4Timeout x0 s
  | .linkSignalDetect x0 x1 => Sys2Proof.Machine.execLinkSignalDetect x0 x1 s
  | .linkUp x0 x1 => Sys2Proof.Machine.execLinkUp x0 x1 s
  | .bringUpTimeout x0 => Sys2Proof.Machine.execBringUpTimeout x0 s
  | .data x0 x1 => Sys2Proof.Machine.execData x0 x1 s
  | .chunkHdr x0 x1 x2 => Sys2Proof.Machine.execChunkHdr x0 x1 x2 s
  | .delivered x0 x1 => Sys2Proof.Machine.execDelivered x0 x1 s
  | .nack x0 x1 x2 x3 => Sys2Proof.Machine.execNack x0 x1 x2 x3 s
  | .control x0 x1 x2 x3 => Sys2Proof.Machine.execControl x0 x1 x2 x3 s
  | .credit x0 x1 x2 => Sys2Proof.Machine.execCredit x0 x1 x2 s
  | .creditSync x0 x1 x2 x3 => Sys2Proof.Machine.execCreditSync x0 x1 x2 x3 s
  | .sendChunkStart x0 x1 x2 => Sys2Proof.Machine.execSendChunkStart x0 x1 x2 s
  | .retrain x0 x1 => Sys2Proof.Machine.execRetrain x0 x1 s
  | .retrainDone x0 x1 x2 => Sys2Proof.Machine.execRetrainDone x0 x1 x2 s
  | .disable x0 x1 => Sys2Proof.Machine.execDisable x0 x1 s
  | .enable x0 x1 => Sys2Proof.Machine.execEnable x0 x1 s
  | .force112 x0 x1 => Sys2Proof.Machine.execForce112 x0 x1 s
  | .auto x0 x1 => Sys2Proof.Machine.execAuto x0 x1 s
  | .linkTimeout x0 x1 x2 => Sys2Proof.Machine.execLinkTimeout x0 x1 x2 s
  | .linkStatRead x0 x1 => Sys2Proof.Machine.execLinkStatRead x0 x1 s
  | .poll x0 x1 => Sys2Proof.Machine.execPoll x0 x1 s
  | .answer x0 x1 x2 => Sys2Proof.Machine.execAnswer x0 x1 x2 s
  | .pollMiss x0 => Sys2Proof.Machine.execPollMiss x0 s
  | .arrive x0 => Sys2Proof.Machine.execArrive x0 s
  | .barrierRelease x0 x1 => Sys2Proof.Machine.execBarrierRelease x0 x1 s
  | .withdraw x0 => Sys2Proof.Machine.execWithdraw x0 s
  | .barrierTimeout x0 => Sys2Proof.Machine.execBarrierTimeout x0 s
  | .barrierDef x0 x1 x2 => Sys2Proof.Machine.execBarrierDef x0 x1 x2 s
  | .barrierMove x0 x1 x2 => Sys2Proof.Machine.execBarrierMove x0 x1 x2 s
  | .memberFabric x0 x1 x2 => Sys2Proof.Machine.execMemberFabric x0 x1 x2 s
  | .sparesDeclared x0 x1 => Sys2Proof.Machine.execSparesDeclared x0 x1 s
  | .packRole x0 x1 => Sys2Proof.Machine.execPackRole x0 x1 s
  | .refWindow x0 => Sys2Proof.Machine.execRefWindow x0 s
  | .orbitPpsSeconds x0 x1 => Sys2Proof.Machine.execOrbitPpsSeconds x0 x1 s
  | .ptpSync x0 x1 => Sys2Proof.Machine.execPtpSync x0 x1 s
  | .beacon x0 x1 => Sys2Proof.Machine.execBeacon x0 x1 s
  | .delayReq x0 x1 => Sys2Proof.Machine.execDelayReq x0 x1 s
  | .delayResp x0 x1 x2 x3 x4 => Sys2Proof.Machine.execDelayResp x0 x1 x2 x3 x4 s
  | .orbitSource x0 x1 => Sys2Proof.Machine.execOrbitSource x0 x1 s
  | .orbitStatRead x0 => Sys2Proof.Machine.execOrbitStatRead x0 s
  | .packStatRead x0 => Sys2Proof.Machine.execPackStatRead x0 s
  | .gatewayResponse x0 x1 => Sys2Proof.Machine.execGatewayResponse x0 x1 s
  | .targetTimeout x0 => Sys2Proof.Machine.execTargetTimeout x0 s
  | .flr x0 => Sys2Proof.Machine.execFlr x0 s
  | .vfEnableClear x0 => Sys2Proof.Machine.execVfEnableClear x0 s
  | .winBase x0 x1 x2 x3 => Sys2Proof.Machine.execWinBase x0 x1 x2 x3 s
  | .ringWindowRead x0 x1 x2 x3 => Sys2Proof.Machine.execRingWindowRead x0 x1 x2 x3 s
  | .ringWindowWrite x0 x1 x2 x3 => Sys2Proof.Machine.execRingWindowWrite x0 x1 x2 x3 s
  | .evqCfg x0 x1 => Sys2Proof.Machine.execEvqCfg x0 x1 s
  | .registerWrite x0 x1 x2 => Sys2Proof.Machine.execRegisterWrite x0 x1 x2 s
  | .mbxDoorbell x0 x1 => Sys2Proof.Machine.execMbxDoorbell x0 x1 s
  | .msixUnmask x0 x1 => Sys2Proof.Machine.execMsixUnmask x0 x1 s
  | .hostCplTimeout x0 x1 => Sys2Proof.Machine.execHostCplTimeout x0 x1 s
  | .hostReadAborted x0 => Sys2Proof.Machine.execHostReadAborted x0 s
  | .read x0 x1 x2 => Sys2Proof.Machine.execRead x0 x1 x2 s
  | .write x0 x1 x2 => Sys2Proof.Machine.execWrite x0 x1 x2 s
  | .describe x0 x1 x2 => Sys2Proof.Machine.execDescribe x0 x1 x2 s
  | .stagingExpire x0 => Sys2Proof.Machine.execStagingExpire x0 s
  | .plcaBeaconTimeout x0 => Sys2Proof.Machine.execPlcaBeaconTimeout x0 s
  | .plcaBeacon x0 => Sys2Proof.Machine.execPlcaBeacon x0 s
  | .dictStatRead x0 => Sys2Proof.Machine.execDictStatRead x0 s
  | .startUp x0 => Sys2Proof.Machine.execStartUp x0 s
  | .inputHigh x0 => Sys2Proof.Machine.execInputHigh x0 s
  | .inputLow x0 => Sys2Proof.Machine.execInputLow x0 s
  | .regulator x0 => Sys2Proof.Machine.execRegulator x0 s
  | .powerControlUpdate x0 => Sys2Proof.Machine.execPowerControlUpdate x0 s
  | .thermalEvaluate x0 x1 => Sys2Proof.Machine.execThermalEvaluate x0 x1 s
  | .coolantRead x0 x1 => Sys2Proof.Machine.execCoolantRead x0 x1 s
  | .drain x0 => Sys2Proof.Machine.execDrain x0 s
  | .undrain x0 => Sys2Proof.Machine.execUndrain x0 s
  | .powerStatRead x0 => Sys2Proof.Machine.execPowerStatRead x0 s
  | .journalPageProgrammed x0 => Sys2Proof.Machine.execJournalPageProgrammed x0 s
  | .compactNow x0 => Sys2Proof.Machine.execCompactNow x0 s
  | .journalReset x0 => Sys2Proof.Machine.execJournalReset x0 s
  | .svcClear x0 x1 => Sys2Proof.Machine.execSvcClear x0 x1 s
  | .stage x0 x1 => Sys2Proof.Machine.execStage x0 x1 s
  | .fwStaged x0 x1 => Sys2Proof.Machine.execFwStaged x0 x1 s
  | .activate x0 x1 => Sys2Proof.Machine.execActivate x0 x1 s
  | .commit x0 x1 => Sys2Proof.Machine.execCommit x0 x1 s
  | .revert x0 x1 => Sys2Proof.Machine.execRevert x0 x1 s
  | .fwSwapDone x0 => Sys2Proof.Machine.execFwSwapDone x0 s
  | .reloadStale x0 => Sys2Proof.Machine.execReloadStale x0 s
  | .stop x0 => Sys2Proof.Machine.execStop x0 s
  | .hbmRecalWindow x0 x1 => Sys2Proof.Machine.execHbmRecalWindow x0 x1 s
  | .hbmRecalDone x0 x1 => Sys2Proof.Machine.execHbmRecalDone x0 x1 s
  | .recoveryImage x0 => Sys2Proof.Machine.execRecoveryImage x0 s
  | .coreHangTimeout x0 x1 => Sys2Proof.Machine.execCoreHangTimeout x0 x1 s
  | .operatorKeyDigest x0 x1 => Sys2Proof.Machine.execOperatorKeyDigest x0 x1 s
  | .sessionOffer x0 => Sys2Proof.Machine.execSessionOffer x0 s
  | .keyOffer x0 x1 => Sys2Proof.Machine.execKeyOffer x0 x1 s
  | .offerExpire x0 => Sys2Proof.Machine.execOfferExpire x0 s
  | .sessionOpen x0 x1 => Sys2Proof.Machine.execSessionOpen x0 x1 s
  | .sessionProve x0 x1 => Sys2Proof.Machine.execSessionProve x0 x1 s
  | .attestReport x0 x1 => Sys2Proof.Machine.execAttestReport x0 x1 s
  | .keyLoad x0 x1 x2 => Sys2Proof.Machine.execKeyLoad x0 x1 x2 s
  | .generate x0 x1 => Sys2Proof.Machine.execGenerate x0 x1 s
  | .erase x0 x1 => Sys2Proof.Machine.execErase x0 x1 s
  | .dbgResponse x0 => Sys2Proof.Machine.execDbgResponse x0 s
  | .extest x0 => Sys2Proof.Machine.execExtest x0 s
  | .samplePreload x0 => Sys2Proof.Machine.execSamplePreload x0 s
  | .admissionDone x0 => Sys2Proof.Machine.execAdmissionDone x0 s
  | .powerFailRestart x0 => Sys2Proof.Machine.execPowerFailRestart x0 s
  | .vfEnable x0 => Sys2Proof.Machine.execVfEnable x0 s
  | .hostDmaError x0 x1 x2 => Sys2Proof.Machine.execHostDmaError x0 x1 x2 s
  | .bridgeFail x0 => Sys2Proof.Machine.execBridgeFail x0 s
  | .ptpAnnounce x0 x1 => Sys2Proof.Machine.execPtpAnnounce x0 x1 s
  | .ptpDelayResp x0 => Sys2Proof.Machine.execPtpDelayResp x0 s
  | .schedTick => Sys2Proof.Machine.execSchedTick s
  | .billingMinuteClose => Sys2Proof.Machine.execBillingMinuteClose s
  | .ledgerSnap => Sys2Proof.Machine.execLedgerSnap s
  | .counters => Sys2Proof.Machine.execCounters s
  | .pollSend => Sys2Proof.Machine.execPollSend s
  | .orphan => Sys2Proof.Machine.execOrphan s
  | .ppsEdge => Sys2Proof.Machine.execPpsEdge s
  | .refLoss => Sys2Proof.Machine.execRefLoss s
  | .ppsHoldover => Sys2Proof.Machine.execPpsHoldover s
  | .ptpSyncTimeout => Sys2Proof.Machine.execPtpSyncTimeout s
  | .beaconSend => Sys2Proof.Machine.execBeaconSend s
  | .beaconTimeout => Sys2Proof.Machine.execBeaconTimeout s
  | .delayReqSend => Sys2Proof.Machine.execDelayReqSend s
  | .perstNDeassert => Sys2Proof.Machine.execPerstNDeassert s
  | .hotReset => Sys2Proof.Machine.execHotReset s
  | .powerFailDetect => Sys2Proof.Machine.execPowerFailDetect s
  | .inputOv => Sys2Proof.Machine.execInputOv s
  | .leak => Sys2Proof.Machine.execLeak s
  | .journalPageTimer => Sys2Proof.Machine.execJournalPageTimer s
  | .compactAt => Sys2Proof.Machine.execCompactAt s
  | .compactionDone => Sys2Proof.Machine.execCompactionDone s
  | .fwTrialExpire => Sys2Proof.Machine.execFwTrialExpire s
  | .fwWatchdog => Sys2Proof.Machine.execFwWatchdog s
  | .dbgChallenge => Sys2Proof.Machine.execDbgChallenge s
  | .idcode => Sys2Proof.Machine.execIdcode s
  | .bypass => Sys2Proof.Machine.execBypass s
  | .tapReset => Sys2Proof.Machine.execTapReset s
  | .expelIntervalElapsed => Sys2Proof.Machine.execExpelIntervalElapsed s

end Sys2Proof.Machine
end

