-- ==== Sys2Proof/Safety.lean ====
section
/-! DEFINITION. The terms in which claims speak: a module in service, the parts of the state and what it means that only some of them change,
and the fuses that are never taken back (R500, R502). -/

namespace Sys2Proof.Machine

/-- The module serves: start-up is complete, it is not in Fault-Stop, and its management controller is not restarting (R467, R489). -/
def Serving (s : State) : Prop := s.power.phase = .up ∧ s.fw.swap = none

/-- The parts of the state, apart from the queue; `bytes` stands for the bytes of HBM, scratchpad and vector registers alone. -/
inductive Part where
  | orbit | power | cores | mem | tasks | moons | serve | train | fetch | links | pack | host | dict | stat | journal | fw | sec | jtag | out | free
  | bytes
  deriving DecidableEq, Repr

/-- Every byte of HBM, scratchpad and vector registers reads in `t` as in `s` (R8). -/
def SameBytes (s t : State) : Prop :=
  ∀ a, memGet t.mem.hbm a = memGet s.mem.hbm a ∧ memGet t.mem.spm a = memGet s.mem.spm a ∧ memGet t.cores.vregs a = memGet s.cores.vregs a

/-- A part is the same in `t` as in `s`. -/
def SamePart (s t : State) : Part → Prop
  | .orbit => t.orbit = s.orbit
  | .power => t.power = s.power
  | .cores => t.cores = s.cores
  | .mem => t.mem = s.mem
  | .tasks => t.tasks = s.tasks
  | .moons => t.moons = s.moons
  | .serve => t.serve = s.serve
  | .train => t.train = s.train
  | .fetch => t.fetch = s.fetch
  | .links => t.links = s.links
  | .pack => t.pack = s.pack
  | .host => t.host = s.host
  | .dict => t.dict = s.dict
  | .stat => t.stat = s.stat
  | .journal => t.journal = s.journal
  | .fw => t.fw = s.fw
  | .sec => t.sec = s.sec
  | .jtag => t.jtag = s.jtag
  | .out => t.out = s.out
  | .free => t.free = s.free
  | .bytes => SameBytes s t

/-- From `s` to `t` the queue and every part that is not listed stay as they are. -/
def OnlyChanges (l : List Part) (s t : State) : Prop := t.pending = s.pending ∧ ∀ p, p ∉ l → SamePart s t p

/-- The parts that a command may change: the frame of every row, the queue apart. A part that a list leaves out is as it was after the
command, whatever its operands and whatever it answers. -/
def mayChange (c : Instr) : List Part :=
  match c with
  | .substitutionStart .. | .arrayTestDone .. | .scrubScratchpad .. => [.cores, .mem, .tasks, .moons, .host, .dict, .stat, .journal, .out, .bytes]
  | .coreHangTimeout .. => [.power, .cores, .mem, .tasks, .moons, .host, .dict, .stat, .journal, .out, .bytes]
  | .substitutionDone .. => [.power, .cores, .tasks, .host, .dict, .journal, .out]
  | .fmtStatRead .. | .arrayStatRead .. | .memStatRead .. | .taskStatRead .. | .ledgerRead .. | .moonStatRead .. | .serveStatRead ..
    | .linkStatRead .. | .orbitStatRead .. | .packStatRead .. | .dictStatRead .. | .powerStatRead .. | .attestReport .. => [.host, .dict, .stat, .out]
  | .gatewayResponse .. | .targetTimeout .. | .credit .. | .creditSync .. | .retrain .. | .disable .. | .enable .. | .force112 ..
    | .auto .. => [.links, .host, .dict, .stat, .out]
  | .trainStatRead .. | .pipeCtx .. | .gnsCfg .. | .gnsClose .. | .snapAccept .. | .toLearn .. | .toGenerate .. | .turnCancel .. =>
    [.train, .host, .dict, .stat, .out]
  | .snapshot .. | .snapCancel .. => [.train, .links, .host, .dict, .stat, .out]
  | .gemm .. | .chain .. => [.power, .cores, .mem, .tasks, .moons, .host, .dict, .stat, .journal, .out]
  | .gemmPassDone .. | .chainStripDone .. | .resizeStepBoundary .. =>
    [.power, .cores, .mem, .tasks, .moons, .train, .host, .dict, .stat, .journal, .out, .free, .bytes]
  | .arrayBackgroundTest .. | .forcedArrayTest .. => [.cores]
  | .softFuse .. => [.cores, .tasks, .host, .dict, .journal, .out]
  | .cometRead .. => [.mem, .host, .stat, .out]
  | .hbmTempSample .. | .create .. | .resize .. | .release .. | .suspend .. | .resume .. | .migrateOut .. | .migrateIn ..
    | .migrateReclaim .. | .moonCmdWhen .. | .runningReceived .. | .abortReceived .. | .entropyTestFail .. | .regulator ..
    | .thermalEvaluate .. | .journalPageProgrammed .. | .bridgeFail .. | .inputOv | .leak =>
    [.power, .cores, .mem, .tasks, .moons, .serve, .train, .fetch, .links, .pack, .host, .dict, .stat, .journal, .sec, .out, .free, .bytes]
  | .scrubHbm .. => [.power, .mem, .moons, .host, .dict, .stat, .journal, .out]
  | .softRepairDone .. => [.mem, .host, .dict, .journal, .out]
  | .pageRetireDone .. => [.power, .mem, .moons, .host, .dict, .journal, .out, .free, .bytes]
  | .bar2Read .. | .ringWindowRead .. => [.power, .mem, .moons, .host, .dict, .stat, .journal, .out, .bytes]
  | .bar2Write .. => [.mem, .host, .dict, .stat, .out, .bytes]
  | .taskFetch .. => [.power, .mem, .tasks, .moons, .host, .dict, .stat, .journal, .out]
  | .moveCopy .. | .moveFill .. | .transcode .. => [.power, .mem, .tasks, .moons, .train, .links, .host, .dict, .stat, .journal, .out, .free, .bytes]
  | .sendChunkStart .. => [.power, .mem, .tasks, .moons, .links, .host, .dict, .stat, .journal, .out, .free, .bytes]
  | .send .. | .linkUp .. | .retrainDone .. | .readyReceived .. => [.power, .mem, .tasks, .moons, .links, .host, .dict, .stat, .journal, .out]
  | .nack .. | .linkTimeout .. => [.power, .cores, .mem, .tasks, .moons, .train, .links, .host, .dict, .stat, .journal, .out, .bytes]
  | .syncSignal .. | .syncSet .. | .syncDump .. | .alarmFire .. => [.mem, .tasks, .host, .dict, .stat, .out, .bytes]
  | .barrier .. => [.power, .mem, .tasks, .moons, .links, .pack, .host, .dict, .stat, .journal, .out]
  | .alarm .. => [.tasks, .host, .dict, .out]
  | .notBeforeRelease .. | .ringCtrlResume .. => [.tasks]
  | .taskCompletion .. => [.cores, .mem, .tasks, .train, .host, .dict, .stat, .out, .bytes]
  | .completionRecordAck .. => [.mem, .tasks, .host, .out, .bytes]
  | .ringTail .. => [.tasks, .host, .out]
  | .ringCfg .. | .ringCtrlReset .. => [.tasks, .moons, .links, .pack, .host, .out]
  | .moonCmdCancel .. => [.power, .cores, .mem, .tasks, .moons, .links, .host, .dict, .stat, .journal, .out, .free, .bytes]
  | .preemptionBoundary .. => [.cores, .mem, .tasks, .moons, .host, .stat, .out, .free, .bytes]
  | .spillDone .. => [.power, .cores, .mem, .tasks, .moons, .train, .links, .host, .dict, .stat, .journal, .out, .free, .bytes]
  | .restoreDone .. | .goReceived .. | .migrateReadyTimeout .. =>
    [.power, .cores, .mem, .tasks, .moons, .links, .host, .dict, .stat, .journal, .out, .bytes]
  | .map .. | .unmap .. | .protect .. | .replacePoisoned .. => [.power, .mem, .moons, .host, .dict, .stat, .journal, .out, .free, .bytes]
  | .migratePeerConfirm .. | .admissionDone .. => [.moons, .links, .host, .out]
  | .migrateRunningTimeout .. | .migrateGoTimeout .. => [.moons, .host, .out]
  | .precopyDone .. | .migrationHandover .. | .turnPlanDone .. =>
    [.power, .mem, .tasks, .moons, .serve, .train, .fetch, .links, .pack, .host, .dict, .stat, .journal, .out, .bytes]
  | .flr .. | .registerWrite .. => [.power, .mem, .tasks, .moons, .serve, .fetch, .links, .pack, .host, .dict, .stat, .journal, .out, .bytes]
  | .hotReset => [.power, .mem, .tasks, .moons, .serve, .fetch, .links, .pack, .host, .dict, .stat, .journal, .out, .free, .bytes]
  | .migrateStateReceived .. => [.mem, .tasks, .moons, .serve, .train, .fetch, .links, .dict, .stat, .out, .free, .bytes]
  | .billingMinuteClose | .compactionDone => [.moons, .host, .dict, .journal, .out]
  | .ledgerAck .. => [.moons, .host, .dict, .stat, .journal, .out]
  | .serveCtx .. | .swap .. | .cancelSwap .. | .unload .. | .variantRetire .. => [.serve, .host, .dict, .stat, .out]
  | .stepRun .. | .stepClose .. => [.power, .mem, .tasks, .moons, .serve, .fetch, .links, .host, .dict, .stat, .journal, .out, .free, .bytes]
  | .stepService .. => [.power, .mem, .tasks, .moons, .serve, .fetch, .host, .dict, .stat, .journal, .out, .free, .bytes]
  | .follow .. => [.power, .mem, .tasks, .moons, .serve, .host, .dict, .stat, .journal, .out]
  | .followWorkList .. | .spanTimeout .. | .vfEnableClear .. | .hostCplTimeout .. | .vfEnable .. | .hostDmaError .. =>
    [.power, .mem, .tasks, .moons, .serve, .fetch, .links, .host, .dict, .stat, .journal, .out, .bytes]
  | .followReport .. | .swapFire .. => [.serve]
  | .pipeStart .. | .pipeRetry .. | .pipeReset .. => [.mem, .tasks, .train, .host, .dict, .stat, .out, .bytes]
  | .pipeDrain .. => [.tasks, .train, .host, .dict, .stat, .out]
  | .forwardProgramStart .. | .backwardProgramStart .. | .updateProgramStart .. | .forwardDone .. | .backwardDone .. | .updateDone .. =>
    [.mem, .tasks, .train, .links, .host, .dict, .stat, .out, .bytes]
  | .pipeCmdFwd .. | .pipeCmdBwd .. | .pipeCmdUpdate .. | .actRestoreDone .. => [.tasks, .train, .host, .stat, .out]
  | .deriveDone .. => [.mem, .tasks, .train, .host, .stat, .out, .bytes]
  | .snapshotDone .. => [.mem, .train, .links, .host, .stat, .out, .bytes]
  | .snapshotArm .. | .snapshotCapture .. => [.train, .links, .host, .out]
  | .turnSwitchFire .. => [.tasks, .serve, .train, .host, .stat, .out]
  | .turnDrainPoint .. => [.power, .mem, .tasks, .moons, .serve, .train, .fetch, .links, .host, .dict, .stat, .journal, .out, .bytes]
  | .turnTimeout .. => [.serve, .train, .host, .out]
  | .loadBase .. | .loadOverlay .. | .loadVariant .. | .attachShared .. | .dropShared .. =>
    [.power, .mem, .moons, .serve, .fetch, .host, .dict, .stat, .journal, .out, .bytes]
  | .fetchCancel .. => [.fetch, .host, .dict, .stat, .out]
  | .fetchHeaderRead .. => [.power, .mem, .moons, .serve, .fetch, .host, .dict, .journal, .out, .free, .bytes]
  | .fetchChunkDone .. | .bar4Timeout .. => [.power, .mem, .moons, .serve, .fetch, .host, .dict, .journal, .out, .bytes]
  | .bar4Write .. => [.fetch, .host, .dict, .out]
  | .bar4BufferFull .. => [.mem, .fetch, .host, .dict, .out, .bytes]
  | .linkSignalDetect .. | .bringUpTimeout .. => [.power, .links, .host, .dict, .journal, .out]
  | .data .. | .chunkHdr .. => [.power, .mem, .tasks, .moons, .links, .host, .dict, .stat, .journal, .out, .bytes]
  | .delivered .. => [.mem, .tasks, .moons, .links, .host, .dict, .stat, .out]
  | .control .. | .read .. | .write .. | .describe .. =>
    [.orbit, .power, .cores, .mem, .tasks, .moons, .serve, .train, .fetch, .links, .pack, .host, .dict, .stat, .journal, .fw, .sec, .out, .free, .bytes]
  | .poll .. | .barrierRelease .. | .barrierTimeout .. | .orphan | .arrive .. | .packRole .. =>
    [.power, .mem, .tasks, .moons, .serve, .train, .links, .pack, .host, .dict, .stat, .journal, .out, .bytes]
  | .answer .. | .pollMiss .. => [.pack, .host, .dict, .out]
  | .withdraw .. => [.pack]
  | .barrierDef .. | .barrierMove .. | .memberFabric .. | .sparesDeclared .. => [.pack, .host, .dict, .stat, .journal, .out]
  | .refWindow .. | .ptpAnnounce .. | .ptpDelayResp .. | .refLoss => [.orbit]
  | .ptpSync .. => [.orbit, .out]
  | .orbitPpsSeconds .. | .beaconTimeout => [.orbit, .host, .dict, .stat, .out]
  | .beacon .. => [.orbit, .host, .dict, .out]
  | .delayReq .. => [.links, .out]
  | .delayReqSend | .beaconSend => [.orbit, .links, .out]
  | .delayResp .. => [.orbit, .dict]
  | .orbitSource .. => [.orbit, .host, .dict, .stat, .journal, .out]
  | .winBase .. | .mbxDoorbell .. => [.host]
  | .ringWindowWrite .. => [.mem, .host, .stat, .out, .bytes]
  | .evqCfg .. | .msixUnmask .. => [.host, .out]
  | .hostReadAborted .. => [.host, .dict, .out]
  | .stagingExpire .. | .plcaBeaconTimeout .. | .plcaBeacon .. => [.dict]
  | .startUp .. | .powerFailRestart .. | .powerFailDetect =>
    [.orbit, .power, .cores, .mem, .tasks, .moons, .serve, .train, .fetch, .links, .pack, .host, .dict, .stat, .journal, .fw, .sec, .jtag, .out,
      .free, .bytes]
  | .inputHigh .. | .inputLow .. => [.power, .host, .out]
  | .powerControlUpdate .. | .drain .. | .undrain .. => [.power, .host, .dict, .stat, .out]
  | .coolantRead .. | .recoveryImage .. =>
    [.power, .cores, .mem, .tasks, .moons, .serve, .train, .fetch, .links, .pack, .host, .dict, .stat, .journal, .fw, .sec, .out, .free, .bytes]
  | .compactNow .. | .journalReset .. | .svcClear .. => [.power, .host, .dict, .stat, .journal, .out]
  | .stage .. | .activate .. | .commit .. | .revert .. => [.host, .dict, .stat, .journal, .fw, .out]
  | .fwStaged .. | .fwTrialExpire | .fwWatchdog => [.host, .dict, .journal, .fw, .out]
  | .fwSwapDone .. => [.power, .links, .host, .dict, .journal, .fw, .sec, .out]
  | .reloadStale .. | .stop .. => [.cores, .host, .dict, .stat, .out]
  | .hbmRecalWindow .. => [.mem]
  | .hbmRecalDone .. => [.power, .mem, .moons, .host, .dict, .journal, .out]
  | .operatorKeyDigest .. | .sessionOpen .. | .sessionProve .. | .keyLoad .. => [.host, .dict, .stat, .sec, .out]
  | .sessionOffer .. | .keyOffer .. | .generate .. | .erase .. => [.host, .dict, .stat, .sec, .out, .free]
  | .offerExpire .. => [.sec]
  | .dbgResponse .. => [.host, .sec, .out]
  | .extest .. | .samplePreload .. | .idcode | .bypass | .tapReset => [.jtag]
  | .schedTick => [.cores, .mem, .tasks, .moons, .host, .stat, .out]
  | .ledgerSnap | .counters => [.host, .dict, .journal, .out]
  | .pollSend => [.links, .pack, .host, .dict, .out]
  | .ppsEdge => [.orbit, .host, .stat, .out]
  | .ppsHoldover | .ptpSyncTimeout => [.orbit, .host, .out]
  | .perstNDeassert => [.host, .dict, .free]
  | .journalPageTimer => [.journal]
  | .compactAt => [.power, .host, .dict, .journal, .out]
  | .dbgChallenge => [.sec, .jtag, .free]
  | .expelIntervalElapsed => [.pack, .host, .dict, .journal, .out]

/-- The power unit is the same apart from SVC_REASON and SVC_REQ_N: phase, start-up step, Drain, FAULT_REASON, the input's band, the power
and thermal shares, the excursion credit, PWR_GOOD and FAULT_N (R458, R467, R469, R470, R472). -/
def SamePower (s t : State) : Prop :=
  t.power = { s.power with svcReason := t.power.svcReason, svcReqPin := t.power.svcReqPin }

/-- The commands that may change more of the power unit than SVC_REASON: the rows of power, thermal state and start-up, what can end in
Fault-Stop, and what carries a dictionary write. -/
def mayChangePower (c : Instr) : Bool :=
  match c with
  | .hbmTempSample .. | .entropyTestFail .. | .control .. | .read .. | .write .. | .describe .. | .startUp .. | .inputHigh .. | .inputLow .. |
    .regulator .. | .powerControlUpdate .. | .thermalEvaluate .. | .coolantRead .. | .drain .. | .undrain .. | .journalPageProgrammed .. |
    .svcClear .. | .recoveryImage .. | .powerFailRestart .. | .bridgeFail .. | .powerFailDetect | .inputOv | .leak => true
  | _ => false

/-- The fuses of `s` still stand in `t`: operator key digests are only added, the fused security version never falls (R500, R502). -/
def FusesKept (s t : State) : Prop := s.sec.operatorKeys <+: t.sec.operatorKeys ∧ s.fw.fusedSvn ≤ t.fw.fusedSvn

/-- A record of `p` has committed, or waits for W4 in a firmware swap (R478, R489). -/
def Journaled (s : State) (p : JPayload) : Prop :=
  (∃ e ∈ s.journal.committed, e.payload = p) ∨
  (s.fw.swap.isSome = true ∧ ∃ e ∈ s.journal.committed ++ (s.journal.programming ++ s.journal.openPage), e.payload = p)

/-- The phase of a ring's task by its sequence number (R199, R211). -/
def phaseOf (s : State) (m r : Nat) (q : W32) : Option TaskPhase := (findTask s m r q).map Task.phase

/-- What an add of `d` leaves in the object that moon `m` numbers `k` (R196): the sum, clamped and stuck outside 32 bits; a stuck object stays. -/
def Added (s t : State) (m k : Nat) (d : Int) : Prop :=
  ∀ n, objNum s m k = some n →
    let v := (getObj s n).value + d
    getObj t n = if (getObj s n).stuck then getObj s n else if 2147483647 < v then ⟨2147483647, true⟩
      else if v < -2147483648 then ⟨-2147483648, true⟩ else ⟨v, false⟩

/-- A task that ends as COMPLETE, waits on no object that it consumes, and signals one object at most (R196, R197). -/
def PlainSignal (u : Task) : Prop := u.result = 0 ∧ u.desc.w0En = false ∧ u.desc.w1En = false ∧ u.desc.s0En = true ∧ u.desc.s1En = false

/-- A command that a moon takes at once (R226 to R228): written with status 0, no other command in progress, its fields legal, allowed in the
moon's state, and not kept for its WHEN. -/
structure TakenAtOnce (s : State) (who : Who) (m : Nat) (op : MoonOp) (c : MoonCmd) : Prop where
  written : writeStatus s who 0x6000 m = 0
  none : (getMoon s m).job = none
  legal : moonCmdBad op c (getMoon s m).pool = false
  allowed : opAllowed (getMoon s m).state op = true
  now : c.whenEn = false ∨ op = .migrateOut

/-- The state in which such a command runs: MOON_CMD_STATUS shows RUNNING (R227). -/
def cmdRunning (s : State) (who : Who) (m : Nat) (op : MoonOp) (c : MoonCmd) : State :=
  let s := modMoon (setStatus s m 1 op 0) m fun x => { x with job := some ⟨op, c, who, false⟩ }
  modMoon (setStatus s m 2 op 0) m fun x => { x with job := some ⟨op, c, who, true⟩ }

/-- The rows that take flit `f` at port `p` (R360). -/
def flitRow (p : Nat) (f : Flit) (c : Instr) : Prop :=
  c = .data p f ∨ (∃ h, c = .chunkHdr p f h) ∨ c = .delivered p f ∨ (∃ a b, c = .nack p f a b) ∨ (∃ k l, c = .control p f k l) ∨
  (∃ l, c = .credit p f l) ∨ ∃ a b, c = .creditSync p f a b

/-- A read of a class B group (R219): who reads, the group's first member, its element, and whether this reader clears the group. -/
structure StatRow where
  who : Who
  first : Nat
  element : Nat
  clears : Bool
  deriving DecidableEq, Repr

/-- The rows that read a class B group: most groups are cleared by every reader (R99, R185, R376, R406, R452, R474), a moon's groups by its own
role (R222, R256, R300, R336); a tenant addresses its own moon (R432). -/
def statRow (s : State) (c : Instr) : Option StatRow :=
  match c with
  | .dictStatRead w => some ⟨w, 0x0030, 0, true⟩
  | .powerStatRead w => some ⟨w, 0x1020, 0, true⟩
  | .orbitStatRead w => some ⟨w, 0x203B, 0, true⟩
  | .arrayStatRead w die => some ⟨w, 0x3030, die, true⟩
  | .memStatRead w p e => if p = 0x4003 ∨ p = 0x4010 ∨ p = 0x4032 then some ⟨w, p, e, true⟩ else none
  | .linkStatRead w port => some ⟨w, 0x5030, port, true⟩
  | .moonStatRead w m => some ⟨w, 0x6030, effMoon w m, ownRole s w (effMoon w m)⟩
  | .taskStatRead w m => some ⟨w, 0x6100, effMoon w m, ownRole s w (effMoon w m)⟩
  | .serveStatRead w m => some ⟨w, 0x8040, effMoon w m, ownRole s w (effMoon w m)⟩
  | .trainStatRead w m => some ⟨w, 0x9020, effMoon w m, ownRole s w (effMoon w m)⟩
  | .packStatRead w => some ⟨w, 0xB050, 0, true⟩
  | _ => none

/-- `t` is `s` after it entered Fault-Stop for reason `n` (R470, R471): FAULT_N is asserted, no task is left and every ring is disabled, every
moon is FREE, scratchpads, vector registers and key slots hold nothing, and a journal that is in use has the reason (R489 holds it until W4 in a swap). -/
structure StoppedFor (n : Nat) (s t : State) : Prop where
  phase : t.power.phase = .faultStop
  reason : t.power.faultReason = n
  pin : t.power.faultPin = true
  tasks : t.tasks.tasks = []
  rings : ∀ e ∈ t.tasks.rings, e.2.state = .disabled
  moons : ∀ m, (getMoon t m).state = .free
  spm : t.mem.spm = []
  vregs : t.cores.vregs = []
  slots : t.sec.slots = []
  record : s.journal.valid = true → Journaled t (.fault n)

/-- A start-up from the rails being off: which row begins it, with what the row finds (R457, R465). -/
def startsUp (s : State) (f : BootFacts) (c : Instr) : Prop :=
  s.power.phase = .off ∧
  ((c = .startUp f ∧ railsRested s = true) ∨ (c = .powerFailRestart f ∧ ∃ n, s.power.railsOffAt = some n ∧ 100000000 ≤ n))

/-- The inlet is hotter than COOLANT_IN_MAX at its default (R463, R474). -/
def inletHot (milliC : Int) : Bool :=
  decide (-20000 ≤ milliC ∧ milliC ≤ 120000) &&
    Num.lt (Num.mul (num32 (param State.reset 0x1011 0)) (Num.ofInt 1000)) (Num.ofInt milliC)

/-- The PF's event queue, where it is enabled, has room and may be written, takes an event first among those of this command (R421 to R423). -/
def FirstEvent (s t : State) (code : Nat) (args : List Nat) : Prop :=
  (getFn s 0).evqEnable = true → (getFn s 0).busMaster = true → s.fw.swap = none →
  ((getFn s 0).evqTail - (getFn s 0).evqHead).toNat < 2 ^ (getFn s 0).evqLog2 →
  Out.dma 0 ((getFn s 0).evqBase + 64 * ((getFn s 0).evqTail.toNat % 2 ^ (getFn s 0).evqLog2))
    (eventBytes (getFn s 0).evqTail code 0xFF (getFn s 0).lostBefore s.orbit.now args) ∈ t.out

/-- The key-encryption key of a delivery `v` to moon `m` under an offer (R511). -/
def moonKek (o : Offer) (m : Nat) (v : Bytes) : Bytes :=
  Config.kmac (Config.kemDecap o.seed (slice v 16 1568)) (leBytes 8 o.id ++ identityBytes ++ leBytes 1 m) 256 "VLR-MOONKEY"

/-- The float elements of the format table (R49, R50, R53). -/
def elementFloats : List FloatFmt := [fp32, bf16, fp16, e4m3, e5m2, e2m3, e3m2, e2m1]

/-- The distance between two finite values. -/
def numGap (a b : Num) : Num := (Num.add a b.neg).abs

/-- Commands of the moon that a path stands for, or of the module itself: the role that a function writes with (R432). -/
def pfWho : Who := { role := .hostPf, path := .pf }

/-- A tenant on its own VF (R432). -/
def vfWho (n : Nat) : Who := { role := .tenant, path := .vf n }

/-- The operator-key role on the management path (R432, R505). -/
def keyWho : Who := { role := .operatorKey, path := .mgt 0 }

end Sys2Proof.Machine
end

