-- ==== Sys2Proof/Certificates/Slice0/Obligations.lean ====
section
/-! DEFINITION. The statements for the provers. -/

open Sys2Proof Sys2Proof.Machine

/-- The command at the front of the queue runs, on the state with the queue's rest. The queue is the model's own. -/
def Obligations.StepRunsFrontCommand : Prop :=  ∀ (c : Instr) (r : List Instr) (s : State), s.pending = c :: r → step s = exec c { s with pending := r }

/-- With nothing queued one nanosecond passes (the model's choice, log entry 26): the reference counts it, and orbit follows without a step
back: at most two nanoseconds ahead, or none while it slews back (R46, R47). The module is past step 2 of its start-up. Dictionary requests
and host writes that wait are served first, so none waits here. -/
def Obligations.IdleStepIsOneNanosecond : Prop :=  ∀ s : State, s.pending = [] → dead s = false → s.host.taken = [] → s.dict.held = [] →
    s.host.waiting = [] →
    ∃ t, step s = .next t ∧ t.orbit.refNs = s.orbit.refNs + 1 ∧
      (t.orbit.now = s.orbit.now ∨ t.orbit.now = (s.orbit.now + 1) % 2 ^ 64 ∨ t.orbit.now = (s.orbit.now + 2) % 2 ^ 64) ∧
      (s.orbit.slew = 0 → t.orbit.now = (s.orbit.now + 1) % 2 ^ 64)

/-- What holds before the first start-up: orbit at 0 and UNLOCKED (R46), no moon but FREE ones (R228), rings DISABLED with IRQ_FAIL 1
(R205, R206), the default core map (R22), mailboxes IDLE (R424), pins without a strap (R526). That the rails are off then is the model's
choice (log 1), as are the empty queue (log 26), ring counters at 0, masked vectors and no fuse blown (log 2). The byte memories are in
canonical form after reset: addresses rise, no listed byte is the byte that an unlisted address reads as. -/
def Obligations.ResetValues : Prop :=
  (State.reset.pending = [] ∧ State.reset.orbit.now = 0 ∧ State.reset.orbit.state = .unlocked ∧
    (∀ m, (getMoon State.reset m).state = .free) ∧
    (∀ m r, (getRing State.reset m r).state = .disabled ∧ (getRing State.reset m r).enable = false ∧ (getRing State.reset m r).irqFail = true ∧
      (getRing State.reset m r).tail = 0 ∧ (getRing State.reset m r).head = 0 ∧ (getRing State.reset m r).started = 0) ∧
    (∀ n, (getFn State.reset n).mbx = .idle ∧ (getFn State.reset n).unmasked = [] ∧ (getFn State.reset n).evqEnable = false) ∧
    (∀ m, (getTrain State.reset m).state = .off) ∧
    (∀ d lc, d < 4 → lc < 128 → physOf State.reset d lc = 17 * (lc / 16) + lc % 16) ∧
    State.reset.power.phase = .off ∧ State.reset.power.slotId = 31 ∧ State.reset.sec.operatorKeys = [] ∧ State.reset.fw.fusedSvn = 0) ∧
  (Memory.wf State.reset = true)

/-- A byte written reads back, every other byte reads as before, and the form stays canonical (R8: the scale of every wider access). -/
def Obligations.BytesReadBack : Prop :=  ∀ (m : List Host.Cell) (a : Nat) (b : Bytes), memWf m = true →
    memWf (memWrite m a b) = true ∧ memRead (memWrite m a b) a b.length = b ∧
    ∀ k, k < a ∨ a + b.length ≤ k → memGet (memWrite m a b) k = memGet m k

/-- Every step of every state keeps the byte memories canonical. -/
def Obligations.StepKeepsMemoryCanonical : Prop :=  ∀ s t : State, step s = .next t → Memory.wf s = true → Memory.wf t = true

/-- No step takes back a fuse: operator key digests are only added, the fused security version never falls (R500, R502). -/
def Obligations.StepKeepsFuses : Prop := ∀ s t : State, step s = .next t → FusesKept s t

/-- Every command answers a next state, from every state; the module has no command that stops it for want of a meaning. -/
def Obligations.EveryCommandAnswers : Prop := ∀ (c : Instr) (s : State), ∃ t, exec c s = .next t

/-- The frame of every command: the queue and every part of the state that `mayChange` does not list stay as they were. -/
def Obligations.CommandsChangeOnlyTheirParts : Prop :=  ∀ (c : Instr) (s t : State), exec c s = .next t → OnlyChanges (mayChange c) s t

/-- The state of power and start-up (phase, Drain, Fault-Stop and its reason, shares, credit, PWR_GOOD, FAULT_N) is changed by no command
but the 23 that `mayChangePower` names; any other changes at most SVC_REASON and SVC_REQ_N (R467 to R471). -/
def Obligations.PowerStateChangesOnlyByItsCommands : Prop :=  ∀ (c : Instr) (s t : State), exec c s = .next t → mayChangePower c = false → SamePower s t

/-- R25: the spare at the smallest distance, among equals the one with the lowest number, from those the die's kennel still has. -/
def Obligations.NearestSpareIsPicked : Prop :=  ∀ (s : State) (die pc : Nat),
    let left := (kennel s die).filter fun x => !(s.cores.subst.any fun b => b.die == die && b.spare == x)
    (spareFor s die pc = none ↔ left = []) ∧
    ∀ x, spareFor s die pc = some x → x ∈ left ∧ ∀ y ∈ left, pcDist pc x < pcDist pc y ∨ (pcDist pc x = pcDist pc y ∧ x ≤ y)

/-- R50, R51, R53, R60, R62, R64, R65: every finite element is written back as the bits that it was read from, and a conversion of it into
its own format returns it, sets no status and draws nothing, under either rounding. Under RN a finite value that does not overflow becomes
a nearest element, of two that are equally near the one with an even code; one that does is the largest element under SAT, ∞ (NaN in E4M3)
under PROP, with OVF. NaN becomes the canonical code with NAN_IN. -/
def Obligations.FormatsHoldAndRound : Prop :=  ∀ f ∈ elementFloats,
    (∀ (b n : Nat) (sr prop : Bool), b < 2 ^ (1 + f.eb + f.mb) → (decFloat f b).isFin = true →
      encFloat f (decFloat f b) = b ∧ encFloat f (toFloat f sr prop (decFloat f b) n).val = b ∧
        (toFloat f sr prop (decFloat f b) n).st = 0 ∧ (toFloat f sr prop (decFloat f b) n).n = n) ∧
    (∀ (s prop : Bool) (m n b : Nat) (e : Int), m ≠ 0 → f.overflows false m e = false → b < 2 ^ (1 + f.eb + f.mb) →
      (decFloat f b).isFin = true →
      Machine.Num.le (numGap (.fin s m e) (toFloat f false prop (.fin s m e) n).val) (numGap (.fin s m e) (decFloat f b)) = true ∧
      (Machine.Num.cmp (numGap (.fin s m e) (toFloat f false prop (.fin s m e) n).val) (numGap (.fin s m e) (decFloat f b)) = 0 →
        Machine.Num.cmp (toFloat f false prop (.fin s m e) n).val (decFloat f b) ≠ 0 →
        encFloat f (toFloat f false prop (.fin s m e) n).val % 2 = 0)) ∧
    (∀ (s sr : Bool) (m n : Nat) (e : Int), m ≠ 0 → f.overflows sr m e = true →
      toFloat f sr false (.fin s m e) n = ⟨f.maxNum s, stOvf, n⟩ ∧
      toFloat f sr true (.fin s m e) n = ⟨if f.kind = .e4m3 then .nan else .inf s, stOvf, n⟩) ∧
    (∀ (sr prop : Bool) (n : Nat), toFloat f sr prop .nan n = ⟨.nan, stNan, n⟩) ∧
    (canonNan fp32 = 0x7FC00000 ∧ canonNan bf16 = 0x7FC0 ∧ canonNan fp16 = 0x7E00 ∧ canonNan e4m3 = 0x7F ∧ canonNan e5m2 = 0x7E)

/-- R103: an INT32 cell adds its products to the accumulator exactly and clamps to the range of INT32, with SAT when the clamp acts; the
clamp does not stick: the next slot adds to the clamped value. -/
def Obligations.IntegerAccumulatorsClamp : Prop :=  ∀ (v : Int) (l k : List Int) (st n : Nat), -2147483648 ≤ v → v ≤ 2147483647 →
    let x := v + l.foldl (· + ·) 0
    let c := max (-2147483648) (min 2147483647 x)
    slotInt ⟨Machine.Num.ofInt v, st, n⟩ (l.map Machine.Num.ofInt) = ⟨Machine.Num.ofInt c, if c = x then st else st ||| tsSat, n⟩ ∧
    (slotInt (slotInt ⟨Machine.Num.ofInt v, st, n⟩ (l.map Machine.Num.ofInt)) (k.map Machine.Num.ofInt)).val =
      Machine.Num.ofInt (max (-2147483648) (min 2147483647 (c + k.foldl (· + ·) 0)))

/-- R26, R24, R29, R213, R490: a substitution starts at a task boundary and marks the tasks that ran on the core, a reload substitution
takes a spare, or, with the kennel empty and the core drained, the core itself; when the copy ends the spare answers to the logical core,
runs the running bank's microcode, and the map entry stands in the journal. R485, R178: a hung core that holds a task fails and counts in
CORE_FAIL_COUNT; a scrubbed scratchpad word that cannot be corrected is poisoned.
Completes: substitutionStart, substitutionDone, scrubScratchpad, coreHangTimeout. -/
def Obligations.CoresSubstituteAndFail : Prop :=
  ((∀ (s : State) (die lc : Nat) (b : Subst), isUp s = true → die < 4 → lc < 128 → atTaskBoundary s (128 * die + lc) = true →
      s.cores.subst.find? (fun x => x.die == die) = some b → b.lc = lc → b.started = false → b.reload = false →
      (kennel s die).contains b.spare = true →
      ∃ t, exec (.substitutionStart die lc false) s = .next t ∧
        t.cores.subst = s.cores.subst.map (fun x => if x == b then { b with started := true } else x) ∧ t.tasks = (markSubst s (128 * die + lc)).tasks ∧
          OnlyChanges [.cores, .tasks] s t) ∧
    (∀ (s : State) (die lc x : Nat), isUp s = true → die < 4 → lc < 128 → atTaskBoundary s (128 * die + lc) = true →
      s.cores.subst.find? (fun x => x.die == die) = none → s.cores.reloading = true → (staleCores s die).head? = some lc →
      spareFor s die (physOf s die lc) = some x →
      ∃ t, exec (.substitutionStart die lc true) s = .next t ∧ t.cores.subst = s.cores.subst ++ [⟨die, lc, x, true, true⟩] ∧
        t.tasks = (markSubst s (128 * die + lc)).tasks ∧ OnlyChanges [.cores, .tasks] s t) ∧
    (∀ (s : State) (die lc : Nat), isUp s = true → die < 4 → lc < 128 → atTaskBoundary s (128 * die + lc) = true →
      s.cores.subst.find? (fun x => x.die == die) = none → s.cores.reloading = true → (staleCores s die).head? = some lc →
      spareFor s die (physOf s die lc) = none → coreDrained s (128 * die + lc) = true →
      ∃ t, exec (.substitutionStart die lc true) s = .next t ∧ t.cores.subst = s.cores.subst ++ [⟨die, lc, physOf s die lc, true, true⟩] ∧
        OnlyChanges [.cores] s t) ∧
    (∀ (s : State) (die lc : Nat) (b : Subst), isUp s = true →
      s.cores.subst.find? (fun b => b.die == die && b.lc == lc && b.started) = some b →
      ∃ t, exec (.substitutionDone die lc) s = .next t ∧ physOf t die lc = b.spare ∧ b ∉ t.cores.subst ∧
        tget t.cores.mcode 0 (136 * die + b.spare) = bankMcode s ∧
        (b.spare ≠ physOf s die lc → Journaled t (.coreMap die lc b.spare 0)))) ∧
  ((∀ (s : State) (die lc : Nat), isUp s = true → die < 4 → lc < 128 → holdsTask s (128 * die + lc) = true → physOf s die lc ≠ 0xFF →
      ∃ t, exec (.coreHangTimeout die lc) s = .next t ∧ 136 * die + physOf s die lc ∈ t.cores.failed) ∧
    (∀ (s : State) (core corrected : Nat) (w : Nat), isUp s = true → core < 512 → physOf s (core / 128) (core % 128) ≠ 0xFF →
      spmScrubDue s core = true → w < 2 ^ 21 → corrected < 64 → tget s.cores.uncorrected [] (136 * (core / 128) + physOf s (core / 128) (core % 128)) = [] →
      tget s.cores.corrected [] (136 * (core / 128) + physOf s (core / 128) (core % 128)) = [] →
      ∃ t, exec (.scrubScratchpad core corrected [w]) s = .next t ∧ core * 2 ^ 21 + w ∈ t.mem.ueSpm))

/-- R120 to R123: tests start on cores with no task, a forced one when the core was not tested for the interval of the cycle that runs
(R124; its clock is the model's choice, log 49); a test without a new failing column notes its times; the first failing column of an array
waits for its fuse, a failing spare column is marked; at a task boundary the fuse takes effect and stands in the journal.
Completes: arrayBackgroundTest, forcedArrayTest, arrayTestDone, softFuse. -/
def Obligations.ArrayTestsAndFuses : Prop :=  (∀ (s : State) (die lc : Nat), testable s die lc = true → atTaskBoundary s (128 * die + lc) = true →
    ∃ t, exec (.arrayBackgroundTest die lc) s = .next t ∧ 2 * (128 * die + lc) ∈ t.cores.testing ∧ OnlyChanges [.cores] s t) ∧
  (∀ (s : State) (die lc : Nat), testable s die lc = true → atTaskBoundary s (128 * die + lc) = true →
    tget s.cores.testedAt 0 (128 * die + lc) + testSeconds s * 1000000000 ≤ s.orbit.refNs →
    ∃ t, exec (.forcedArrayTest die lc) s = .next t ∧ 2 * (128 * die + lc) + 1 ∈ t.cores.testing ∧ OnlyChanges [.cores] s t) ∧
  (∀ (s : State) (die lc : Nat) (fails : List (Nat × Nat)), isUp s = true →
    (2 * (128 * die + lc) ∈ s.cores.testing ∨ 2 * (128 * die + lc) + 1 ∈ s.cores.testing) →
    (∀ f ∈ fails, f.1 < 128 → f.2 < 9 → knownColumn s (arrayKey die (physOf s die lc) f.1) f.2 = true) →
    ∃ t, exec (.arrayTestDone die lc fails) s = .next t ∧ tget t.cores.testedAt 0 (128 * die + lc) = s.orbit.refNs ∧
      tget t.cores.testedOrbit 0 (128 * die + lc) = s.orbit.now ∧ t.cores.arrays = s.cores.arrays ∧ t.cores.fusePending = s.cores.fusePending) ∧
  (∀ (s : State) (die lc array column : Nat), isUp s = true →
    (2 * (128 * die + lc) ∈ s.cores.testing ∨ 2 * (128 * die + lc) + 1 ∈ s.cores.testing) → array < 128 → column < 8 →
    tget s.cores.arrays .none (arrayKey die (physOf s die lc) array) = .none →
    (∀ p ∈ s.cores.fusePending, p.1 ≠ arrayKey die (physOf s die lc) array) →
    ∃ t, exec (.arrayTestDone die lc [(array, column)]) s = .next t ∧
      t.cores.fusePending = s.cores.fusePending ++ [(arrayKey die (physOf s die lc) array, column)]) ∧
  (∀ (s : State) (die lc array column : Nat), isUp s = true → die < 4 → lc < 128 →
    (arrayKey die (physOf s die lc) array, column) ∈ s.cores.fusePending → atTaskBoundary s (128 * die + lc) = true →
    ∃ t, exec (.softFuse die lc array column) s = .next t ∧
      tget t.cores.arrays .none (arrayKey die (physOf s die lc) array) = .column column ∧
      (arrayKey die (physOf s die lc) array, column) ∉ t.cores.fusePending ∧
      ∃ n, Journaled t (.softFuse die (physOf s die lc) array column n))

/-- R219 for the rows of the eleven groups: the read answers the first counter's value; a reader that clears the group takes a snapshot of
every counter and of the interval, clears the group (the request count goes on, for the read itself is a request) and starts a new
interval; any other reader leaves counters and snapshot alone. A wait that goes on counts up to the read (R336). R82: a read of
FMT_STAT_ELEMS answers the tag's counter; the moon's own role takes the snapshot and clears the five counters, another role leaves them.
R218, R219: a class B counter adds up to 0xFFFF_FFFF and stays there; a class A counter adds up to 2^64 − 1, is then stuck and ignores
increases.
Completes: fmtStatRead, arrayStatRead, memStatRead, taskStatRead, moonStatRead, serveStatRead, trainStatRead, linkStatRead, orbitStatRead,
packStatRead, dictStatRead, powerStatRead. -/
def Obligations.StatisticsReadClearAndSaturate : Prop :=
  (∀ (s : State) (c : Instr) (x : StatRow) (g : GroupB), statRow s c = some x → groupOf x.first = some g →
      readStatus s x.who x.first x.element = 0 →
      let u := if x.first = 0x9020 then flushWait s x.element else s
      ∃ t, exec c s = .next t ∧ t.dict.answer.status = 0 ∧ t.dict.answer.value = leBytes 4 (cntB u x.first x.element) ∧
        (x.clears = true →
          (∀ q ∈ g.counters, tget t.stat.snap 0 (pkey q x.element) = cntB u q x.element) ∧
          tget t.stat.snap 0 (pkey g.interval x.element) = intervalB s g.first x.element ∧
          (∀ q ∈ g.counters, q ≠ 0x0030 → cntB t q x.element = 0) ∧
          tget t.stat.start (0, false) (pkey g.first x.element) = (s.orbit.now, s.orbit.state != .unlocked)) ∧
        (x.clears = false → t.stat.snap = s.stat.snap ∧ t.stat.start = s.stat.start ∧
          ∀ q e, (q, e) ≠ (0x0030, 0) → q < 65536 → e < 65536 → cntB t q e = cntB u q e)) ∧
  (∀ (s : State) (w : Who) (p e : Nat),
      let reads : Nat → Nat → State → State → Prop := fun p e u t => t.dict.answer.status = 0 ∧ t.dict.answer.value = leBytes 4 (cntB u p e)
      (readStatus s w 0x0030 0 = 0 → ∃ t, exec (.dictStatRead w) s = .next t ∧ reads 0x0030 0 s t) ∧
      (readStatus s w 0x1020 0 = 0 → ∃ t, exec (.powerStatRead w) s = .next t ∧ reads 0x1020 0 s t) ∧
      (readStatus s w 0x203B 0 = 0 → ∃ t, exec (.orbitStatRead w) s = .next t ∧ reads 0x203B 0 s t) ∧
      (readStatus s w 0x3030 e = 0 → ∃ t, exec (.arrayStatRead w e) s = .next t ∧ reads 0x3030 e s t) ∧
      (p = 0x4003 ∨ p = 0x4010 ∨ p = 0x4032 → readStatus s w p e = 0 → ∃ t, exec (.memStatRead w p e) s = .next t ∧ reads p e s t) ∧
      (readStatus s w 0x5030 e = 0 → ∃ t, exec (.linkStatRead w e) s = .next t ∧ reads 0x5030 e s t) ∧
      (readStatus s w 0x6030 (effMoon w e) = 0 → ∃ t, exec (.moonStatRead w e) s = .next t ∧ reads 0x6030 (effMoon w e) s t) ∧
      (readStatus s w 0x6100 (effMoon w e) = 0 → ∃ t, exec (.taskStatRead w e) s = .next t ∧ reads 0x6100 (effMoon w e) s t) ∧
      (readStatus s w 0x8040 (effMoon w e) = 0 → ∃ t, exec (.serveStatRead w e) s = .next t ∧ reads 0x8040 (effMoon w e) s t) ∧
      (readStatus s w 0x9020 (effMoon w e) = 0 →
        ∃ t, exec (.trainStatRead w e) s = .next t ∧ reads 0x9020 (effMoon w e) (flushWait s (effMoon w e)) t) ∧
      (readStatus s w 0xB050 0 = 0 → ∃ t, exec (.packStatRead w) s = .next t ∧ reads 0xB050 0 s t)) ∧
  (∀ (s : State) (w : Who) (tag : Nat), readStatus s w 0x9100 tag = 0 → selMoon s w 0x9000 < 64 →
      ∃ t, exec (.fmtStatRead w tag) s = .next t ∧ t.dict.answer.status = 0 ∧
        t.dict.answer.value = leBytes 4 (cntB s 0x9100 (256 * selMoon s w 0x9000 + tag)) ∧
        (ownRole s w (selMoon s w 0x9000) = true → ∀ q ∈ [0x9100, 0x9101, 0x9102, 0x9103, 0x9104],
          tget t.stat.snap 0 (pkey q (256 * selMoon s w 0x9000 + tag)) = cntB s q (256 * selMoon s w 0x9000 + tag) ∧
          cntB t q (256 * selMoon s w 0x9000 + tag) = 0) ∧
        (ownRole s w (selMoon s w 0x9000) = false → ∀ q ∈ [0x9100, 0x9101, 0x9102, 0x9103, 0x9104],
          cntB t q (256 * selMoon s w 0x9000 + tag) = cntB s q (256 * selMoon s w 0x9000 + tag))) ∧
  ((∀ (s : State) (p e n : Nat), cntB (incB s p e n) p e = Nat.min (cntB s p e + n) 0xFFFFFFFF) ∧
    (∀ (s : State) (p e n : Nat), pkey p e ∉ s.dict.stuckList → param s p e + n < 2 ^ 64 → param (incA s p e n) p e = param s p e + n) ∧
    (∀ (s : State) (p e n : Nat), pkey p e ∉ s.dict.stuckList → 2 ^ 64 ≤ param s p e + n →
      param (incA s p e n) p e = 2 ^ 64 - 1 ∧ pkey p e ∈ (incA s p e n).dict.stuckList) ∧
    (∀ (s : State) (p e n : Nat), pkey p e ∈ s.dict.stuckList → incA s p e n = s))

/-- R42: a scratchpad MA names a moon-local core by bits [32:24] and the byte in its segment by bits [23:0]; a core index not below the
moon's core count, and every MA outside the two regions, is an address fault; an MA of the HBM region goes through the page table entry of
its 2 MiB page, and waits where the repair of its bank or a recalibration of its channel holds it (R180, R491). -/
def Obligations.MoonAddressesTranslate : Prop :=  ∀ (s : State) (m ma : Nat) (write : Bool),
    (∀ c, ma < 0x200000000 → (moonCores s m)[ma / 2 ^ 24]? = some c → homeOf s m ma write = .ok (.spm (c * 2 ^ 24 + ma % 2 ^ 24))) ∧
    (ma < 0x200000000 → (moonCores s m).length ≤ ma / 2 ^ 24 → ∃ e, homeOf s m ma write = .error e ∧ e.code = 0x0201) ∧
    (0x200000000 ≤ ma → ma < 0x10000000000 → ∃ e, homeOf s m ma write = .error e ∧ e.code = 0x0201) ∧
    (0x20000000000 ≤ ma → ∃ e, homeOf s m ma write = .error e ∧ e.code = 0x0201) ∧
    (∀ e, 0x10000000000 ≤ ma → ma < 0x20000000000 → entryOf s m ((ma - 0x10000000000) / 2 ^ 21) = some e → e.r = true → e.w = true →
      e.poison = false → e.migrating = false → hbmWaits s ((32768 * e.stack + e.page) * 2 ^ 21 + ma % 2 ^ 21) write = false →
      homeOf s m ma write = .ok (.hbm ((32768 * e.stack + e.page) * 2 ^ 21 + ma % 2 ^ 21) e.owner))

/-- R167: a temperature sample stands in HBM_TEMP; the refresh band moves up as soon as a limit is reached and down only 3 °C below it; 110
°C ends in Fault-Stop with reason 5. R178 to R181: a scrub that is due (log 54) marks the sectors it cannot correct; a soft repair is
journaled and releases its bank; a page that retires leaves the list of waiting pages and is in use no more. R173, R174: a read-ahead burst
of a stream of a running task or of the next queued one moves its place on by the burst, from where the demand or the last burst stands,
and changes no byte; it happens only below band 4, outside a recalibration of its channel and while its bank is not held. R184: BAR2 by the
kind of page a byte lies in: a read answers the contents of a page granted to moon 0, all ones where they cannot be corrected (R177; log
54), zero for a free page, all ones for any other, and one request with a denied page counts once; a write stores into pages of moon 0,
stores nothing elsewhere, and waits behind a page that waits (R426).
Completes: cometRead, hbmTempSample, scrubHbm, softRepairDone, pageRetireDone, bar2Read, bar2Write. -/
def Obligations.HbmCometAndBar2 : Prop :=
  ((∀ (s : State) (stack : Nat) (c : Int), isUp s = true → stack < 8 → c < 110000 → bandOf s stack ∈ [1, 2, 3, 4] →
      ∃ t, exec (.hbmTempSample stack c) s = .next t ∧ tget t.mem.temp 0 stack = c ∧ bandOf t stack ∈ [1, 2, 3, 4] ∧
        (c > 105000 → bandOf t stack = 4) ∧ (95000 ≤ c → 3 ≤ bandOf t stack) ∧ (85000 ≤ c → 2 ≤ bandOf t stack) ∧
        (bandOf s stack < bandOf t stack → bandLimit (bandOf t stack) ≤ c) ∧
        (∀ k, bandOf t stack < k → k ≤ bandOf s stack → c ≤ bandLimit k - 3000)) ∧
    (∀ (s : State) (stack : Nat) (c : Int), isUp s = true → stack < 8 → 110000 ≤ c →
      ∃ t, exec (.hbmTempSample stack c) s = .next t ∧ t.power.phase = .faultStop ∧ t.power.faultReason = 5)) ∧
  ((∀ (s : State) (stack page x : Nat), isUp s = true → stack < 8 → page < windowPages → x < 65536 → scrubDue s (pageKey stack page) = true →
      ∃ t, exec (.scrubHbm stack page [] [x]) s = .next t ∧ pageKey stack page * 65536 + x ∈ t.mem.ueHbm ∧
        cntB t 0x4004 stack = Nat.min (cntB s 0x4004 stack + 1) 0xFFFFFFFF) ∧
    (∀ (s : State) (stack row : Nat), isUp s = true → stack < 8 → (getRow s (stack * 2 ^ 32 + row % 2 ^ 32)).holding = true →
      ∃ t, exec (.softRepairDone stack row) s = .next t ∧ (getRow t (stack * 2 ^ 32 + row % 2 ^ 32)).holding = false ∧
        (getRow t (stack * 2 ^ 32 + row % 2 ^ 32)).soft = true ∧ ∃ n, Journaled t (.hbmRepair stack row 0 n)) ∧
    (∀ (s : State) (stack page : Nat) (lost : List Nat), isUp s = true → page < windowPages → pageKey stack page ∈ s.mem.retirePend →
      ∃ t, exec (.pageRetireDone stack page lost) s = .next t ∧ pageKey stack page ∉ t.mem.retirePend ∧
        ((pageInfo t (pageKey stack page)).use = .retired ∨ (pageInfo t (pageKey stack page)).use = .retirePending))) ∧
  (∀ (s : State) (die n : Nat) (x : ReadStream) (e : PageEntry), isUp s = true →
      ((cometTasks s die).flatMap (taskStreams s))[n]? = some x →
      let p := cometPos s die x
      let hpa := (32768 * e.stack + e.page) * 2 ^ 21 + (x.addr p - 0x10000000000) % 2 ^ 21
      (cometAt s die x).stopped = false → p < x.bytes → cometBurst s x p ≠ 0 → 0x10000000000 ≤ x.addr p →
      cometPage s x.task.moon (x.addr p) = some e → bandOf s e.stack ≠ 4 → inWindow s hpa = false → bankHeld s hpa = false →
      ∃ t, exec (.cometRead die n) s = .next t ∧ (cometAt t die x).pos = p + cometBurst s x p ∧ SameBytes s t) ∧
  ((∀ (s : State) (o n : Nat), isUp s = true → o + n ≤ s.host.bar2Size → bar2Waits s (bar2Hpa s o) n false = false →
      ∃ t, exec (.bar2Read o n) s = .next t ∧ t.dict.answer.value.length = n ∧
        (∀ i, i < n → t.dict.answer.value[i]? = some (if bar2Kind s (bar2Hpa s o + i) = 0 then
            (if homeBad s (.hbm (bar2Hpa s o + i) 0) 1 then 0xFF else memGet s.mem.hbm (bar2Hpa s o + i))
          else if bar2Kind s (bar2Hpa s o + i) = 1 then 0 else 0xFF)) ∧
        ((bar2Kinds s (bar2Hpa s o) n).contains 2 = true → pkey 0x4008 0 ∉ s.dict.stuckList → param s 0x4008 0 + 1 < 2 ^ 64 →
          param t 0x4008 0 = param s 0x4008 0 + 1) ∧
        ((bar2Kinds s (bar2Hpa s o) n).contains 2 = false → param t 0x4008 0 = param s 0x4008 0)) ∧
    (∀ (s : State) (o : Nat) (b : Bytes), isUp s = true → o + b.length ≤ s.host.bar2Size → bar2Waits s (bar2Hpa s o) b.length true = false → hostWaits s 0 = false →
      Memory.wf s = true → (∀ i, i < b.length → bar2Kind s (bar2Hpa s o + i) = 0) →
      ∃ t, exec (.bar2Write o b) s = .next t ∧ memRead t.mem.hbm (bar2Hpa s o) b.length = b) ∧
    (∀ (s : State) (o : Nat) (b : Bytes), isUp s = true → o + b.length ≤ s.host.bar2Size → bar2Waits s (bar2Hpa s o) b.length true = false → hostWaits s 0 = false →
      (∀ k ∈ bar2Kinds s (bar2Hpa s o) b.length, k ≠ 0) → (∀ i, i < b.length → bar2Kind s (bar2Hpa s o + i) ≠ 0) →
      (∀ i, i < (bar2Hpa s o % 256 + b.length + 255) / 256 → bar2Kind s ((bar2Hpa s o / 256 + i) * 256) ≠ 0) →
      ∃ t, exec (.bar2Write o b) s = .next t ∧ t.mem.hbm = s.mem.hbm) ∧
    (∀ (s : State) (o : Nat) (b : Bytes), isUp s = true → o + b.length ≤ s.host.bar2Size →
      (bar2Waits s (bar2Hpa s o) b.length true = true ∨ hostWaits s 0 = true) →
      ∃ t, exec (.bar2Write o b) s = .next t ∧ t.host.waiting = s.host.waiting ++ [.bar2 o b] ∧ OnlyChanges [.host] s t))

/-- R199, R201, R204: an eligible GEMM, CHAIN or BARRIER task starts: it runs, and RING_STARTED passes it. A GEMM or CHAIN task needs a
core of its set that is its own to take (R106, R128, R231); a BARRIER sends its ARRIVE to its scope's combiner (R385).
Completes: gemm, chain, barrier. -/
def Obligations.EligibleTasksStart : Prop :=  (∀ (s : State) (m r : Nat) (u : Machine.Task), readyTask s m r 1 = some u → startRuns s m r = true → descCores s m u.desc ≠ [] →
    firstCore s u = true → resCheck (startTask s u .running).1 m (parseGemm u.ext).a = none →
    resCheck (startTask s u .running).1 m (parseGemm u.ext).b = none →
    ∃ t, exec (.gemm m r) s = .next t ∧ phaseOf t m r u.seq = some .running ∧ (u.ofPlan = false → (getRing t m r).started = u.seq + 1)) ∧
  (∀ (s : State) (m r : Nat) (u : Machine.Task), readyTask s m r 2 = some u → startRuns s m r = true → descCores s m u.desc ≠ [] →
    firstCore s u = true → capCheck (startTask s u .running).1 m (parseChain u.ext).plane = none →
    resChecks (startTask s u .running).1 m (parseChain u.ext).ins = none →
    ∃ t, exec (.chain m r) s = .next t ∧ phaseOf t m r u.seq = some .running ∧ (u.ofPlan = false → (getRing t m r).started = u.seq + 1)) ∧
  (∀ (s : State) (m r : Nat) (u : Machine.Task), readyTask s m r 6 = some u → moonRuns s m = true →
    noCombiner (startTask s u .running).1 u.desc.karg16 = false →
    (combinerOf (startTask s u .running).1 u.desc.karg16 = some (ownFabric (startTask s u .running).1) →
      (getBarrier (startTask s u .running).1 u.desc.karg32).defn.valid = true) →
    ∃ t, exec (.barrier m r) s = .next t ∧ phaseOf t m r u.seq = some .running ∧
      hasArrived t m u.desc.karg16 u.desc.karg32 = true ∧ (u.ofPlan = false → (getRing t m r).started = u.seq + 1))

/-- R93, R148: a pass or a strip of a task that has not failed, whose core has drained, leaves the bytes that its run gives, and the task
goes on: one tile fewer is left, or the task is done; a strip inside its row moves on to the row's next strip. R193, R350, R366: an
eligible MOVE task on a free engine. COPY and FILL leave the bytes that the copy or the fill writes and are done, TRANSCODE likewise for
shards on this module, SEND opens a transfer with one entry in the list of transfers.
Completes: gemmPassDone, chainStripDone, moveCopy, moveFill, transcode, send. -/
def Obligations.PassesStripsAndMovesRun : Prop :=
  ((∀ (s : State) (m r j core : Nat) (q : W32) (b : Bubbles) (u : Machine.Task) (w : WorkUnit) (d : TileDone), isUp s = true →
      findTask s m r q = some u → u.phase = .running → u.desc.kind = 1 → u.work.find? (fun w => w.core == j && !w.susp) = some w →
      moonCore s m j = some core → runTile s u core w = .ok d → ((parseGemm u.ext).rowstat = 0 ∨ 1 < d.t.left) →
      d.t.result ≠ 1 →
      ∃ t, exec (.gemmPassDone m r q j b) s = .next t ∧ SameBytes d.s t ∧
        (1 < d.t.left → phaseOf t m r q = some .running) ∧ (d.t.left ≤ 1 → phaseOf t m r q = some .done)) ∧
    (∀ (s : State) (m r j core : Nat) (q : W32) (u : Machine.Task) (w : WorkUnit) (d : StripDone), isUp s = true →
      findTask s m r q = some u → u.phase = .running → u.desc.kind = 2 → u.work.find? (fun w => w.core == j && !w.susp) = some w →
      moonCore s m j = some core → runStrip s u core w = .ok d → (d.last = false ∨ d.t.result ≠ 1) → (d.last = false ∨ 1 < d.t.left ∨ (parseChain u.ext).plane = 0) →
      ∃ t, exec (.chainStripDone m r q j) s = .next t ∧ SameBytes d.s t ∧
        (d.last = false ∨ 1 < d.t.left → phaseOf t m r q = some .running) ∧ (d.last = true ∧ d.t.left ≤ 1 → phaseOf t m r q = some .done))) ∧
  ((∀ (s s1 s2 : State) (m r : Nat) (h : Bytes) (u : Machine.Task) (p : List (Bytes × Bytes)), isUp s = true →
      startMove s m r 0 = some (.ok (s1, u)) → sourcePlanes s1 u (parseMove u.ext) h = .ok (some p) →
      let x := if (parseMove u.ext).srcHost = 0 then touchSource s1 u (parseMove u.ext).src else s1
      writeTensor (if (parseMove u.ext).dstHost = 0 then touchDest x u (parseMove u.ext).dst else x) m
        ((parseMove u.ext).dstHost == 1) (parseMove u.ext).dst p = .ok s2 →
      ∃ t, exec (.moveCopy m r h) s = .next t ∧ SameBytes s2 t ∧
        ∀ v ∈ t.tasks.tasks, v.moon = u.moon → v.ring = u.ring → v.seq = u.seq → v.phase = .done) ∧
    (∀ (s s1 s2 : State) (m r : Nat) (u : Machine.Task), isUp s = true → startMove s m r 1 = some (.ok (s1, u)) →
      writeTensor (if (parseMove u.ext).dstHost = 0 then touchDest s1 u (parseMove u.ext).dst else s1) m
        ((parseMove u.ext).dstHost == 1) (parseMove u.ext).dst
        ((upTo (parseMove u.ext).dst.vectors).map fun i =>
          (fillBytes (parseMove u.ext).fill (packedBytes (parseMove u.ext).dst.fmt (parseMove u.ext).dst.len) (fillPhase (parseMove u.ext).dst i),
           fillBytes (parseMove u.ext).fill (parseMove u.ext).dst.scaleBytes 0)) = .ok s2 →
      ∃ t, exec (.moveFill m r) s = .next t ∧ SameBytes s2 t ∧
        ∀ v ∈ t.tasks.tasks, v.moon = u.moon → v.ring = u.ring → v.seq = u.seq → v.phase = .done) ∧
    (∀ (s s1 s3 : State) (m r cvt : Nat) (h : Bytes) (u : Machine.Task) (sh : List Shard) (p : List (Bytes × Bytes)), isUp s = true →
      startMove s m r 2 = some (.ok (s1, u)) →
      readShards s1 m (parseTrans (parseMove u.ext).args) (parseMove u.ext).dst = .ok sh →
      transChecks s1 m (parseTrans (parseMove u.ext).args) (parseMove u.ext) sh = none →
      sourcePlanes s1 u (parseMove u.ext) h = .ok (some p) →
      let x := if (parseMove u.ext).srcHost = 0 then touchPlane (touchSource s1 u (parseMove u.ext).src) u none (parseMove u.ext).src else s1
      ((sourceVals s1 m (parseMove u.ext).src p).bind
        fun v => putShards x u
          (parseTrans (parseMove u.ext).args) (parseMove u.ext).dst ((parseMove u.ext).dstHost == 1)
          (logicalOut (parseTrans (parseMove u.ext).args) (parseMove u.ext).src v) 0 u.cvt sh) = .ok (s3, cvt) →
      (∀ x ∈ s3.links.tx, ¬(x.moon = m ∧ x.ring = r ∧ x.seq = u.seq)) →
      ∃ t, exec (.transcode m r h) s = .next t ∧ SameBytes s3 t ∧
        ∀ v ∈ t.tasks.tasks, v.moon = u.moon → v.ring = u.ring → v.seq = u.seq → v.phase = .done) ∧
    (∀ (s s1 : State) (m r : Nat) (u : Machine.Task), isUp s = true → startMove s m r 3 = some (.ok (s1, u)) →
      (∀ x ∈ s1.links.tx, ¬(x.moon = m ∧ x.ring = r ∧ x.seq = u.seq)) →
      ∃ t x, exec (.send m r) s = .next t ∧ t.links.tx = s1.links.tx ++ [x] ∧ x.moon = u.moon ∧ x.ring = u.ring ∧ x.seq = u.seq ∧
        x.destFabric = (routeOf s1 m (parseSend (parseMove u.ext).args).route).fabric ∧
        x.destMoon = (routeOf s1 m (parseSend (parseMove u.ext).args).route).moon ∧ x.sent = [] ∧ t.links.nextXfer = s1.links.nextXfer + 1))

/-- R214, R215: a fetched descriptor that passes every check becomes the ring's next task; the first check that fails ends it, halts the
ring and sets FAIL.
Completes: taskFetch. -/
def Obligations.DescriptorsAreFetched : Prop :=  ∀ (s : State) (m r : Nat) (b ext : Bytes), isUp s = true → m < 64 → r < 16 → (getRing s m r).state = .running → moonSyncs s m = true →
    oldestUnstarted s m r = none → nextFetch s m r ≠ (getRing s m r).tail →
    readMa s m none ((getRing s m r).base + 64 * ((nextFetch s m r).toNat % 2 ^ (getRing s m r).log2)) 64 = .ok b →
    readExt s m (parseDesc b) = .ok ext →
    (fetchCheck s m (parseDesc b) ext = none →
      ∃ t, exec (.taskFetch m r) s = .next t ∧ t.tasks.tasks = s.tasks.tasks ++ [mkTask m r (nextFetch s m r) (parseDesc b) ext] ∧
        t.tasks.rings = s.tasks.rings ∧ OnlyChanges [.tasks] s t) ∧
    ∀ code detail, fetchCheck s m (parseDesc b) ext = some (code, detail) →
      ∃ t, exec (.taskFetch m r) s = .next t ∧ (getRing t m r).state = .halted ∧ (getRing t m r).fail = true ∧
        (getRing t m r).started = nextFetch s m r + 1

/-- R196, R197, R201: an eligible SYNC task, whose consuming waits come first, starts and completes at once, and RING_STARTED passes it.
SIGNAL adds to the object that it signals: the sum, or the clamp with the object stuck; a stuck object stays and the task records SIG_OVF.
SET writes KARG32 into its object and frees it, once no add of a task that has ended is still due there (R198). DUMP writes the 1,056 bytes of the block of its object.
Completes: syncSignal, syncSet, syncDump. -/
def Obligations.SyncTasksCompleteAtOnce : Prop :=  (∀ (s : State) (m r : Nat) (u : Machine.Task), readyTask s m r 4 = some u → moonSyncs s m = true → syncOp u.desc = 0 → u.ofPlan = false →
    ∃ t, exec (.syncSignal m r) s = .next t ∧ phaseOf t m r u.seq = some .recorded ∧ (getRing t m r).started = u.seq + 1 ∧
      (PlainSignal u → Added s t m u.desc.sig0 u.desc.s0Add ∧
        ∀ n, objNum s m u.desc.sig0 = some n → (getObj s n).stuck = true → (findTask t m r u.seq).map Task.sigOvf = some true)) ∧
  (∀ (s : State) (m r n : Nat) (u : Machine.Task), readyTask s m r 4 = some u → moonSyncs s m = true → syncOp u.desc = 1 → u.ofPlan = false →
    addsDue s m (setObjects u.desc) = false → u.result = 0 → u.desc.s1En = false → objNum s m u.desc.sig0 = some n →
    ∃ t, exec (.syncSet m r) s = .next t ∧ phaseOf t m r u.seq = some .recorded ∧ (getRing t m r).started = u.seq + 1 ∧
      getObj t n = ⟨toSigned 32 u.desc.karg32, false⟩) ∧
  (∀ (s : State) (m r : Nat) (u : Machine.Task), readyTask s m r 4 = some u → moonSyncs s m = true → syncOp u.desc = 2 → u.ofPlan = false →
    (checkWrite s m 20 u.desc.ext 1056).map Fail.code ≠ some 0 →
    ∃ t, exec (.syncDump m r) s = .next t ∧ phaseOf t m r u.seq = some .recorded ∧ (getRing t m r).started = u.seq + 1 ∧
      ∀ n s1, u.result = 0 → u.desc.s1En = false → (∀ d ∈ s.mem.dirty, ¬(d.moon = m ∧ d.ring = r ∧ d.seq = u.seq)) →
        objNum s m u.desc.sig0 = some n →
        writeMa (startTask s u .done).1 m u.desc.ext (dumpBytes (startTask s u .done).1 (n / 256)) = .ok s1 → SameBytes s1 t)

/-- R199, R202, R203: an ALARM task takes a free alarm and its ring moves on, or waits for one; at NOT_BEFORE, once no event that goes
first is still due (log 50), the alarm's task completes with its signal, LATE when it waited for its alarm past NOT_BEFORE; a not-before
value that has passed releases its task in the same order.
Completes: alarm, alarmFire, notBeforeRelease. -/
def Obligations.AlarmsAndNotBefore : Prop :=  (∀ (s : State) (m r : Nat) (u : Machine.Task), readyTask s m r 7 = some u → moonRuns s m = true → alarmFree s m = true →
    ∃ t, exec (.alarm m r) s = .next t ∧ phaseOf t m r u.seq = some .armed ∧ (u.ofPlan = false → (getRing t m r).started = u.seq + 1)) ∧
  (∀ (s : State) (m r : Nat) (u : Machine.Task), readyTask s m r 7 = some u → moonRuns s m = true → alarmFree s m = false →
    ∃ t, exec (.alarm m r) s = .next t ∧ (findTask t m r u.seq).map Task.alarmWait = some true ∧ t.tasks.rings = s.tasks.rings) ∧
  (∀ (s : State) (m r : Nat) (q : W32) (u : Machine.Task), findTask s m r q = some u → u.phase = .armed → moonAlarms s m = true →
    s.orbit.state ≠ .unlocked → u.desc.notBefore ≤ s.orbit.now → u.desc.kind = 7 → earlierDue s 7 u.desc.notBefore = false →
    alarmFirst s u = false →
    ∃ t, exec (.alarmFire m r q) s = .next t ∧ phaseOf t m r q = some .recorded ∧
      (findTask t m r q).map Task.late = some (u.alarmWait && decide (u.desc.notBefore + 1000 < s.orbit.now)) ∧
      alarmsHeld t none < alarmsHeld s none ∧ (PlainSignal u → Added s t m u.desc.sig0 u.desc.s0Add)) ∧
  (∀ (s : State) (m r : Nat) (u : Machine.Task), oldestUnstarted s m r = some u → isUp s = true → u.desc.nbEn = true →
    s.orbit.state ≠ .unlocked → u.desc.notBefore ≤ s.orbit.now → earlierDue s 8 u.desc.notBefore = false →
    ∃ t, exec (.notBeforeRelease m r) s = .next t ∧ OnlyChanges [.tasks] s t ∧ (findTask t m r u.seq).map Task.released = some true)

/-- R211, R213: when every engine has finished, the task's completion applies its signal and its record is due; the record's 64 bytes go to
its place in the completion ring, and when their write is acknowledged the task leaves the ring's front.
Completes: taskCompletion, completionRecordAck. -/
def Obligations.TasksCompleteAndLeaveTheRing : Prop :=  (∀ (s : State) (m r : Nat) (q : W32) (u : Machine.Task), isUp s = true → findTask s m r q = some u → u.phase = .done →
    ∃ t, exec (.taskCompletion m r q) s = .next t ∧ phaseOf t m r q = some .recorded ∧ (findTask t m r q).map Task.endAt = some s.orbit.now ∧
      (u.desc.kind ≠ 4 → PlainSignal u → Added s t m u.desc.sig0 u.desc.s0Add)) ∧
  (∀ (s s1 : State) (m r : Nat) (q : W32) (u : Machine.Task), isUp s = true → findTask s m r q = some u → u.phase = .recorded →
    u.ofPlan = false → (getRing s m r).state = .running → ringTasks s m r = [u] →
    writeMa s m ((getRing s m r).cplBase + 64 * (q.toNat % 2 ^ (getRing s m r).log2)) (recordBytes u) = .ok s1 →
    ∃ t, exec (.completionRecordAck m r q) s = .next t ∧ SameBytes s1 t ∧ (getRing t m r).head = q + 1 ∧ ringTasks t m r = [])

/-- R205 to R209 for the ring registers of a function that may use them: ENABLE with checked values starts the ring at RING_TAIL, without
them sets CFG_ERR; a doorbell inside the ring's size publishes, any other sets DB_ERR and leaves RING_TAIL; one that comes while an earlier write
of its function waits, waits behind it (R417); RESUME takes HALTED to RUNNING,
RESET takes RUNNING or HALTED to DRAINING with nothing armed or unstarted left that is not discarded.
Completes: ringTail, ringCfg, ringCtrlResume, ringCtrlReset. -/
def Obligations.RingRegistersAct : Prop :=  (∀ (s : State) (fn m r : Nat) (v : W32), ringAccess s fn m = true → hostWaits s fn = false → (getRing s m r).state ≠ .disabled → (getRing s m r).state ≠ .draining →
    (v - (getRing s m r).head).toNat ≤ 2 ^ (getRing s m r).log2 → ((getRing s m r).tail - (getRing s m r).head).toNat ≤ (v - (getRing s m r).head).toNat →
    ∃ t, exec (.ringTail fn m r v) s = .next t ∧ getRing t m r = { getRing s m r with tail := v } ∧ OnlyChanges [.tasks] s t) ∧
  (∀ (s : State) (fn m r : Nat) (v : W32), hostWaits s fn = true →
    ∃ t, exec (.ringTail fn m r v) s = .next t ∧ t.host.waiting = s.host.waiting ++ [.tail fn m r v] ∧ OnlyChanges [.host] s t) ∧
  (∀ (s : State) (fn m r : Nat) (v : W32), ringAccess s fn m = true → hostWaits s fn = false →
    ((getRing s m r).state = .disabled ∨ (getRing s m r).state = .draining ∨ 2 ^ (getRing s m r).log2 < (v - (getRing s m r).head).toNat ∨
      (v - (getRing s m r).head).toNat < ((getRing s m r).tail - (getRing s m r).head).toNat) →
    ∃ t, exec (.ringTail fn m r v) s = .next t ∧ getRing t m r = { getRing s m r with dbErr := true } ∧ OnlyChanges [.tasks, .host, .out] s t) ∧
  (∀ (s : State) (fn m r : Nat) (v : W32), ringAccess s fn m = true → (getRing s m r).enable = false → (getRing s m r).state ≠ .draining →
    v.toNat.testBit 5 = true →
    (ringCfgOk s m { getRing s m r with irqFail := v.toNat.testBit 6, log2 := v.toNat % 32 } = true →
      ∃ t, exec (.ringCfg fn m r v) s = .next t ∧ getRing t m r = { getRing s m r with
        irqFail := v.toNat.testBit 6, log2 := v.toNat % 32, enable := true, state := .running, head := (getRing s m r).tail,
        started := (getRing s m r).tail }) ∧
    (ringCfgOk s m { getRing s m r with irqFail := v.toNat.testBit 6, log2 := v.toNat % 32 } = false →
      ∃ t, exec (.ringCfg fn m r v) s = .next t ∧ getRing t m r = { getRing s m r with
        irqFail := v.toNat.testBit 6, log2 := v.toNat % 32, cfgErr := true })) ∧
  (∀ (s : State) (fn m r : Nat), ringAccess s fn m = true → (getRing s m r).state = .halted →
    ∃ t, exec (.ringCtrlResume fn m r) s = .next t ∧ (getRing t m r).state = .running ∧ t.tasks.tasks = s.tasks.tasks ∧
      OnlyChanges [.tasks] s t) ∧
  (∀ (s : State) (fn m r : Nat), ringAccess s fn m = true → ((getRing s m r).state = .running ∨ (getRing s m r).state = .halted) →
    (getRing s m r).tail = nextFetch s m r → ringTasks s m r ≠ [] →
    ∃ t, exec (.ringCtrlReset fn m r) s = .next t ∧ (getRing t m r).state = .draining ∧
      ∀ u ∈ ringTasks t m r, u.phase ≠ .fetched ∧ u.phase ≠ .armed)

/-- R230, R245: a CREATE or MIGRATE_IN that passes the checks of R227 holds its octets, or its place in the pool, and its reservations: the
moon is ADMITTING, a CREATE has opened its ledger entry; when the grants are complete the moon is ACTIVE, WAITING or ARRIVING, and its
command ends.
Completes: create, migrateIn, admissionDone. -/
def Obligations.AdmissionGrantsAndCompletes : Prop :=  (∀ (s : State) (w : Who) (m : Nat) (c : MoonCmd), TakenAtOnce s w m .create c → s.power.draining = false →
    admitCheck (cmdRunning s w m .create c) m c = 0 →
    ∃ t, exec (.create w m c) s = .next t ∧ t.dict.answer.status = 0 ∧ (getMoon t m).state = .admitting ∧ (getMoon t m).pool = c.pool ∧
      (getMoon t m).octets = (if c.pool then [] else bitsOf c.octets 64) ∧ (getMoon t m).hbmPages = c.hbmPages ∧
      (getMoon t m).linkShare = c.linkShare ∧ (getMoon t m).ledger.spanOpen = true ∧ (getMoon t m).ledger.startOrbit = s.orbit.now) ∧
  (∀ (s : State) (w : Who) (m : Nat) (c : MoonCmd), TakenAtOnce s w m .migrateIn c → s.power.draining = false →
    admitCheck (cmdRunning s w m .migrateIn c) m c = 0 →
    ∃ t, exec (.migrateIn w m c) s = .next t ∧ t.dict.answer.status = 0 ∧ (getMoon t m).state = .admitting ∧
      (getMoon t m).octets = (if c.pool then [] else bitsOf c.octets 64) ∧ (getMoon t m).hbmPages = c.hbmPages ∧
      (getMoon t m).migCmd = some c ∧ (getMoon t m).ledger.spanOpen = false) ∧
  (∀ (s : State) (m : Nat) (j : MoonJob), isUp s = true → (getMoon s m).job = some j → j.running = true → (getMoon s m).state = .admitting →
    ∃ t, exec (.admissionDone m) s = .next t ∧ (getMoon t m).job = none ∧
      (j.op = .create → (getMoon t m).state = readyState (getMoon s m)) ∧
      (j.op ≠ .create → (getMoon t m).state = .arriving ∧ (getMoon t m).mig = .arriving))

/-- R228, R235, R240, R247, R248: what the commands of an admitted moon start or do: RESIZE waits in RESIZING, RELEASE ends in FREE,
SUSPEND spills, RESUME restores, MIGRATE_OUT enters MIGRATING, MIGRATE_RECLAIM returns to SUSPENDED. R227 to R229: a command with WHEN_EN
waits and runs at its orbit value; CANCEL withdraws what waits, fails with STATE_BAD when nothing is in progress or a resize has come to
its step boundary, and is refused as busy while a command runs in a state that does not allow CANCEL.
Completes: resize, release, suspend, resume, migrateOut, migrateReclaim, moonCmdCancel, moonCmdWhen. -/
def Obligations.MoonCommandsActWaitAndCancel : Prop :=
  ((∀ (s : State) (w : Who) (m : Nat) (c : MoonCmd), TakenAtOnce s w m .resize c → (getMoon s m).state = .active →
      resizeCheck (cmdRunning s w m .resize c) m (resizePlan (getMoon s m) c) = 0 →
      ∃ t, exec (.resize w m c) s = .next t ∧ t.dict.answer.status = 0 ∧ (getMoon t m).state = .resizing ∧ (getMoon t m).prev = .active) ∧
    (∀ (s : State) (w : Who) (m : Nat) (c : MoonCmd), TakenAtOnce s w m .release c → pagesShared (cmdRunning s w m .release c) m = false →
      ∃ t, exec (.release w m c) s = .next t ∧ t.dict.answer.status = 0 ∧ (getMoon t m).state = .free ∧ (getMoon t m).job = none ∧
        (getMoon t m).octets = [] ∧ (getMoon t m).table = []) ∧
    (∀ (s : State) (w : Who) (m : Nat) (c : MoonCmd), TakenAtOnce s w m .suspend c →
      ∃ t, exec (.suspend w m c) s = .next t ∧ t.dict.answer.status = 0 ∧ (getMoon t m).state = .suspended ∧
        ((getMoon s m).state = .active → (getMoon t m).swap = .spilling)) ∧
    (∀ (s : State) (w : Who) (m : Nat) (c : MoonCmd), TakenAtOnce s w m .resume c → (getMoon s m).state = .suspended →
      (getMoon s m).displaced = false →
      ∃ t, exec (.resume w m c) s = .next t ∧ t.dict.answer.status = 0 ∧ ((getMoon s m).pool = false → (getMoon t m).swap = .restoring) ∧
        ((getMoon s m).pool = true → (getMoon s m).spilled = true → (getMoon t m).state = .waiting)) ∧
    (∀ (s : State) (w : Who) (m : Nat) (c : MoonCmd), TakenAtOnce s w m .migrateOut c → pagesShared (cmdRunning s w m .migrateOut c) m = false →
      ∃ t, exec (.migrateOut w m c) s = .next t ∧ t.dict.answer.status = 0 ∧ (getMoon t m).state = .migrating ∧
        (getMoon t m).prev = (getMoon s m).state ∧ (getMoon t m).migCmd = some c) ∧
    (∀ (s : State) (w : Who) (m : Nat) (c : MoonCmd), TakenAtOnce s w m .reclaim c →
      ∃ t, exec (.migrateReclaim w m c) s = .next t ∧ t.dict.answer.status = 0 ∧ (getMoon t m).state = .suspended ∧ (getMoon t m).job = none)) ∧
  ((∀ (s : State) (w : Who) (m : Nat) (c : MoonCmd), writeStatus s w 0x6000 m = 0 → (getMoon s m).job = none → c.rsv = false → c.whenEn = true →
      ∃ t, exec (.suspend w m c) s = .next t ∧ t.dict.answer.status = 0 ∧ (getMoon t m).job = some ⟨.suspend, c, w, false⟩ ∧
        (getMoon t m).state = (getMoon s m).state) ∧
    (∀ (s : State) (m : Nat) (j : MoonJob), isUp s = true → (getMoon s m).job = some j → j.running = false → j.cmd.whenEn = true →
      s.orbit.state ≠ .unlocked → j.cmd.whenOrbit ≤ s.orbit.now →
      ∃ t, exec (.moonCmdWhen m) s = .next t ∧ t = runJob s m ∧
        (j.op = .suspend → (getMoon s m).state = .active → (getMoon t m).state = .suspended ∧ (getMoon t m).swap = .spilling)) ∧
    (∀ (s : State) (w : Who) (m : Nat) (c : MoonCmd) (j : MoonJob), writeStatus s w 0x6000 m = 0 → c.rsv = false → (getMoon s m).job = some j →
      j.running = false →
      ∃ t, exec (.moonCmdCancel w m c) s = .next t ∧ t.dict.answer.status = 0 ∧ (getMoon t m).job = none ∧
        (getMoon t m).state = (getMoon s m).state ∧ (getMoon t m).status = 3 + 256 * 9) ∧
    (∀ (s : State) (w : Who) (m : Nat) (c : MoonCmd), writeStatus s w 0x6000 m = 0 → c.rsv = false → (getMoon s m).job = none →
      ∃ t, exec (.moonCmdCancel w m c) s = .next t ∧ t.dict.answer.status = 0 ∧ (getMoon t m).status = 4 + 256 * 9 + 65536 * 2) ∧
    (∀ (s : State) (w : Who) (m : Nat) (c : MoonCmd) (j : MoonJob), writeStatus s w 0x6000 m = 0 → c.rsv = false → (getMoon s m).job = some j →
      j.running = true → resizeDue s m = true →
      ∃ t, exec (.moonCmdCancel w m c) s = .next t ∧ t.dict.answer.status = 0 ∧ (getMoon t m).status = 4 + 256 * 9 + 65536 * 2 ∧
        (getMoon t m).job = some j ∧ (getMoon t m).state = .resizing) ∧
    (∀ (s : State) (w : Who) (m : Nat) (c : MoonCmd) (j : MoonJob), writeStatus s w 0x6000 m = 0 → (getMoon s m).job = some j →
      j.running = true → opAllowed (getMoon s m).state .cancel = false →
      ∃ t, exec (.moonCmdCancel w m c) s = .next t ∧ t.dict.answer.status = 8 ∧ t.moons = s.moons))

/-- R104, R234, R235, R240: a tick that is due restores the one runnable pool moon on the lowest octets of the pool; work at a boundary is
pre-empted, a pass with a segment after the one that runs too; a spill leaves the moon spilled; a restore lets a moon run that waited or was
suspended; a move of an octet takes effect when no work is left on it (R249; log 35); a resize is applied at the step boundary.
Completes: resizeStepBoundary, schedTick, preemptionBoundary, spillDone, restoreDone. -/
def Obligations.PoolMoonsSpillAndRestore : Prop :=  (∀ (s : State) (m : Nat) (x : Moon), isUp s = true → tickDue s = true → s.moons = [(m, x)] → x.pool = true → x.state = .waiting → x.octets = [] →
    x.nextOctets = [] → x.swap = .none → runnableNow s m = true → 1 ≤ x.poolCount → x.poolCount ≤ (bitsOf (param s 0x6005 0) 64).length →
    ∃ t, exec .schedTick s = .next t ∧ (getMoon t m).octets = (bitsOf (param s 0x6005 0) 64).take x.poolCount ∧
      (getMoon t m).swap = .restoring) ∧
  (∀ (s : State) (m j : Nat), isUp s = true → boundaryTasks s m j ≠ [] → (moonCore s m j).isSome = true →
    ∃ t, exec (.preemptionBoundary m j) s = .next t ∧
      ∀ u ∈ boundaryTasks s m j, u.desc.kind ≠ 1 →
        ∃ v ∈ t.tasks.tasks, v.moon = u.moon ∧ v.ring = u.ring ∧ v.seq = u.seq ∧ v.preempted = true) ∧
  (∀ (s : State) (m j core : Nat) (u : Machine.Task) (w : WorkUnit), isUp s = true → boundaryTasks s m j = [u] → u.desc.kind = 1 →
    u.work.find? (fun x => x.core == j && !x.susp) = some w → moonCore s m j = some core → stopPass s u core w ≠ none →
    ∃ t, exec (.preemptionBoundary m j) s = .next t ∧
      ∃ v ∈ t.tasks.tasks, v.moon = u.moon ∧ v.ring = u.ring ∧ v.seq = u.seq ∧ v.preempted = true) ∧
  (∀ (s : State) (m : Nat), isUp s = true → (getMoon s m).swap = .spilling → spillReady s m = true → (getMoon s m).nextOctets = [] →
    ∃ t, exec (.spillDone m) s = .next t ∧ (getMoon t m).spilled = true ∧ (getMoon t m).swap = .none ∧
      ((getMoon s m).state = .active → (getMoon t m).state = .waiting)) ∧
  (∀ (s : State) (m : Nat), isUp s = true → (getMoon s m).swap = .restoring →
    ∃ t, exec (.restoreDone m) s = .next t ∧ (getMoon t m).spilled = false ∧ (getMoon t m).swap = .none ∧
      ((getMoon s m).state = .waiting ∨ (getMoon s m).state = .suspended → (getMoon t m).state = .active) ∧
      ((getMoon s m).state ≠ .waiting → (getMoon s m).state ≠ .suspended → (getMoon t m).state = (getMoon s m).state)) ∧
  (∀ (s : State) (m : Nat) (v : Nat × Nat × Nat), isUp s = true → (getMoon s m).swap = .none → (getMoon s m).moves = [v] →
    ((getMoon s m).spilled = true ∨ octetLeft s m v.1 = true) →
    ∃ t, exec (.restoreDone m) s = .next t ∧ (getMoon t m).moves = [] ∧
      (getMoon t m).octets = addNum (delNum (getMoon s m).octets v.1) v.2.1) ∧
  (∀ (s : State) (m : Nat) (j : MoonJob), isUp s = true → (getMoon s m).job = some j → (getMoon s m).state = .resizing →
    (getMoon s m).swap = .none → (getMoon s m).moves = [] → atBoundary s m = true → (getMoon s m).pool = false → (getMoon s m).spilled = false →
    resizeCheck s m (resizePlan (getMoon s m) j.cmd) = 0 →
    ∃ t, exec (.resizeStepBoundary m) s = .next t ∧ (getMoon t m).state = (getMoon s m).prev ∧ (getMoon t m).job = none ∧
      (getMoon t m).octets = (resizePlan (getMoon s m) j.cmd).octets ∧ (getMoon t m).hbmPages = (resizePlan (getMoon s m) j.cmd).pages)

/-- R243, R244: MAP enters a page for every index of its range, with the permissions asked; UNMAP leaves none; PROTECT sets the
permissions; REPLACE_POISONED leaves no poisoned page of the moon in its range. PAGE_REQ_STATUS shows DONE.
Completes: map, unmap, protect, replacePoisoned. -/
def Obligations.PageRequestsAct : Prop :=  (∀ (s : State) (w : Who) (m0 m : Nat) (q : PageReq), m = effMoon w m0 → writeStatus s w 0x6020 m = 0 → reqBad q = false →
    (getMoon s m).state ≠ .free → (∀ i ∈ reqRange q, entryOf s m i = none) → mappedCount s m + q.count ≤ (getMoon s m).hbmPages →
    (grantPages s m .granted (mapStacks s m q.stackPref) q.count).2.length = q.count →
    ∃ t, exec (.map w m0 q) s = .next t ∧ t.dict.answer.status = 0 ∧ (getMoon t m).pageReq = 3 + 256 * 1 ∧
      ∀ i ∈ reqRange q, ∃ e, entryOf t m i = some e ∧ e.r = q.permR ∧ e.w = q.permW ∧ e.poison = false ∧ e.owner = m) ∧
  (∀ (s : State) (w : Who) (m0 m : Nat) (q : PageReq), m = effMoon w m0 → writeStatus s w 0x6020 m = 0 → reqBad q = false →
    (getMoon s m).state ≠ .free →
    (∀ i ∈ reqRange q, ∃ e, entryOf s m i = some e ∧ (e.owner = m → mappedElsewhere s m (pageKey e.stack e.page) = false ∧ baseHeld s m (pageKey e.stack e.page) = false)) →
    ∃ t, exec (.unmap w m0 q) s = .next t ∧ t.dict.answer.status = 0 ∧ (getMoon t m).pageReq = 3 + 256 * 2 ∧
      ∀ i ∈ reqRange q, entryOf t m i = none) ∧
  (∀ (s : State) (w : Who) (m0 m : Nat) (q : PageReq), m = effMoon w m0 → writeStatus s w 0x6020 m = 0 → reqBad q = false →
    (getMoon s m).state ≠ .free → (∀ i ∈ reqRange q, (entryOf s m i).isSome = true) →
    ∃ t, exec (.protect w m0 q) s = .next t ∧ t.dict.answer.status = 0 ∧ (getMoon t m).pageReq = 3 + 256 * 3 ∧
      ∀ i ∈ reqRange q, ∃ e, entryOf t m i = some e ∧ e.r = q.permR ∧ e.w = (q.permW && e.owner == m && !(attachedIdx s m).contains i)) ∧
  (∀ (s : State) (w : Who) (m0 m : Nat) (q : PageReq), m = effMoon w m0 → writeStatus s w 0x6020 m = 0 → reqBad q = false →
    (getMoon s m).state ≠ .free →
    (∀ i e, entryOf s m i = some e → mappedElsewhere s m (pageKey e.stack e.page) = false ∧ baseHeld s m (pageKey e.stack e.page) = false) →
    (∀ n, n ≤ q.count → (grantPages s m .granted (mapStacks s m 0xFF) n).2.length = n) →
    ∃ t, exec (.replacePoisoned w m0 q) s = .next t ∧ t.dict.answer.status = 0 ∧ (getMoon t m).pageReq = 3 + 256 * 4 ∧
      ∀ i ∈ reqRange q, ∀ e, entryOf t m i = some e → e.owner = m → e.poison = false)

/-- R203, R245, R247, R299: the handshake of a live migration, at the source (M2 to M5, M7, M9) and at the target (M6, M8, the abort).
R247: what a migration's time limits do: before M7 the source aborts and its moon goes on in its previous state; after GO the source stays
MOVED and the target ARRIVING, each with MIGRATE_UNCERTAIN.
Completes: migratePeerConfirm, precopyDone, migrationHandover, migrateStateReceived, readyReceived, goReceived, runningReceived,
abortReceived, migrateReadyTimeout, migrateRunningTimeout, migrateGoTimeout. -/
def Obligations.MigrationHandshakesAndTimesOut : Prop :=
  ((∀ (s : State) (m : Nat), isUp s = true → (getMoon s m).state = .migrating → (getMoon s m).mig = .none →
      (∀ quota, (getServe s m).seqs.length ≤ quota →
        ∃ t, exec (.migratePeerConfirm m ⟨true, quota⟩) s = .next t ∧ (getMoon t m).mig = .precopy ∧ OnlyChanges [.moons, .links] s t) ∧
      ∀ matching quota, (matching = false ∨ quota < (getServe s m).seqs.length) →
        ∃ t, exec (.migratePeerConfirm m ⟨matching, quota⟩) s = .next t ∧ (getMoon t m).state = (getMoon s m).prev ∧ (getMoon t m).job = none) ∧
    (∀ (s : State) (m : Nat), isUp s = true → (getMoon s m).state = .migrating → (getMoon s m).mig = .precopy → roundDone s m = true →
      migWhen (getMoon s m) = false →
      ∃ t, exec (.precopyDone m) s = .next t ∧ ((getMoon t m).mig = .handover ∨ (getMoon t m).mig = .stateSent)) ∧
    (∀ (s : State) (m : Nat) (c : MoonCmd), isUp s = true → (getMoon s m).state = .migrating → (getMoon s m).mig = .precopy →
      (getMoon s m).migCmd = some c → c.whenEn = true → s.orbit.state ≠ .unlocked → c.whenOrbit ≤ s.orbit.now →
      earlierDue s 2 c.whenOrbit = false →
      ∃ t, exec (.migrationHandover m) s = .next t ∧ ((getMoon t m).mig = .handover ∨ (getMoon t m).mig = .stateSent)) ∧
    (∀ (s : State) (m : Nat) (g : MigState), isUp s = true → (getMoon s m).state = .arriving → (getMoon s m).mig = .arriving →
      ∃ t, exec (.migrateStateReceived m g) s = .next t ∧ (getMoon t m).mig = .installed ∧ (getMoon t m).spilled = true ∧
        (getMoon t m).image = g.image ∧ ∃ p k, Out.migrate m p k .ready [] ∈ t.out) ∧
    (∀ (s : State) (m : Nat), isUp s = true → (getMoon s m).state = .migrating → (getMoon s m).mig = .stateSent →
      ∃ t, exec (.readyReceived m) s = .next t ∧ (getMoon t m).state = .moved ∧ (getMoon t m).mig = .awaitRunning ∧
        (getMoon t m).ledger.spanOpen = false) ∧
    (∀ (s : State) (m : Nat), isUp s = true → (getMoon s m).state = .arriving → ((getMoon s m).mig = .installed ∨ (getMoon s m).mig = .uncertain) →
      ∃ t, exec (.goReceived m) s = .next t ∧ (getMoon t m).state = readyState (getMoon s m) ∧ (getMoon t m).mig = .none) ∧
    (∀ (s : State) (m : Nat), isUp s = true → (getMoon s m).state = .moved →
      ∃ t, exec (.runningReceived m) s = .next t ∧ (getMoon t m).state = .free ∧ (getMoon t m).job = none) ∧
    (∀ (s : State) (m : Nat), isUp s = true → (getMoon s m).state = .arriving →
      ∃ t, exec (.abortReceived m) s = .next t ∧ (getMoon t m).state = .free)) ∧
  ((∀ (s : State) (m : Nat), isUp s = true → (getMoon s m).state = .migrating → ((getMoon s m).mig = .handover ∨ (getMoon s m).mig = .stateSent) →
      (getMoon s m).migAt ≤ s.orbit.refNs → (getMoon s m).pool = false →
      ∃ t, exec (.migrateReadyTimeout m) s = .next t ∧ (getMoon t m).state = (getMoon s m).prev ∧ (getMoon t m).mig = .none ∧
        (getMoon t m).migCmd = none ∧ (getMoon t m).job = none) ∧
    (∀ (s : State) (m : Nat), isUp s = true → (getMoon s m).state = .moved → (getMoon s m).mig = .awaitRunning →
      (getMoon s m).migAt ≤ s.orbit.refNs →
      ∃ t, exec (.migrateRunningTimeout m) s = .next t ∧ (getMoon t m).state = .moved ∧ (getMoon t m).mig = .uncertain ∧ (getMoon t m).job = none) ∧
    (∀ (s : State) (m : Nat), isUp s = true → (getMoon s m).state = .arriving → (getMoon s m).mig = .installed →
      (getMoon s m).migAt ≤ s.orbit.refNs →
      ∃ t, exec (.migrateGoTimeout m) s = .next t ∧ (getMoon t m).state = .arriving ∧ (getMoon t m).mig = .uncertain))

/-- R250, R251, R254, R477: LEDGER_READ answers the moon's oldest unacknowledged record, or 64 zero bytes, and keeps it; LEDGER_ACK drops
the record it names and all before it, any other number is refused with INVALID_VALUE and drops nothing; the close of a minute adds its
record, and a snapshot of changed totals goes to the journal once a second (on the module's clock, log 59).
Completes: billingMinuteClose, ledgerSnap, ledgerRead, ledgerAck. -/
def Obligations.LedgerRecordsAreKept : Prop :=  (∀ (s : State) (w : Who) (m0 m : Nat), m = effMoon w m0 → readStatus s w 0x7020 m = 0 →
    ∃ t, exec (.ledgerRead w m0) s = .next t ∧ t.dict.answer.status = 0 ∧ t.moons = s.moons ∧
      ((getMoon s m).ledger.records = [] → t.dict.answer.value = List.replicate 64 0) ∧
      ∀ r l, (getMoon s m).ledger.records = r :: l → t.dict.answer.value = ledgerBytes r (getMoon s m).ledger.gap) ∧
  (∀ (s : State) (w : Who) (m0 m q : Nat) (a b : List LedgerRec) (r : LedgerRec), m = effMoon w m0 → writeStatus s w 0x7021 m = 0 →
    (getMoon s m).ledger.records = a ++ r :: b → r.recSeq.toNat = q → (∀ x ∈ a, x.recSeq.toNat ≠ q) →
    ∃ t, exec (.ledgerAck w m0 q) s = .next t ∧ t.dict.answer.status = 0 ∧ (getMoon t m).ledger.records = b) ∧
  (∀ (s : State) (w : Who) (m0 m q : Nat), m = effMoon w m0 → writeStatus s w 0x7021 m = 0 →
    (∀ x ∈ (getMoon s m).ledger.records, x.recSeq.toNat ≠ q) →
    ∃ t, exec (.ledgerAck w m0 q) s = .next t ∧ t.dict.answer.status = 7 ∧ t.moons = s.moons ∧ t.journal = s.journal) ∧
  (∀ (s : State) (m : Nat) (x : Moon), isUp s = true → s.moons = [(m, x)] → x.ledger.spanOpen = true → minuteDue s x = true →
    earlierDue s 6 (s.orbit.now / minuteNs * minuteNs) = false →
    ∃ t r, exec .billingMinuteClose s = .next t ∧ (getMoon t m).ledger.records = x.ledger.records ++ [r] ∧ r.recSeq = x.ledger.recSeq ∧
      r.startOrbit = x.ledger.startOrbit ∧ r.endOrbit = s.orbit.now / minuteNs * minuteNs ∧ r.engineUs = x.ledger.engineNs / 1000 ∧
      (getMoon t m).ledger.startOrbit = r.endOrbit ∧ (getMoon t m).ledger.spanOpen = true) ∧
  (∀ s : State, isUp s = true → changedTotals s ≠ [] → s.journal.snapAt + 1000000000 ≤ s.orbit.refNs →
    ∃ t, exec .ledgerSnap s = .next t ∧ t.moons = s.moons ∧
      t = jAppend { s with journal := { s.journal with snapAt := s.orbit.refNs } } (.ledgerSnap (changedTotals s)))

/-- R259, R289, R290, R292: SERVE_CTX is taken only while no sequence is live and no STEP task has started, and a context that passes its
checks is copied; SWAP is kept for its boundary or its WHEN, CANCEL_SWAP drops it, UNLOAD and VARIANT_RETIRE mark what leaves; a SWAP
without a STAGED version, or beside one that waits, is refused with INVALID_VALUE; at its WHEN a kept swap is armed, once no event that
goes first is due (R203, log 50).
Completes: serveCtx, swap, cancelSwap, unload, variantRetire, swapFire. -/
def Obligations.ServingCommandsAct : Prop :=  (∀ (s : State) (w : Who) (m0 m a : Nat), m = effMoon w m0 → writeStatus s w 0x8010 m = 0 → (getServe s m).seqs = [] →
    stepStarted s m = false →
    ∃ t, exec (.serveCtx w m0 a) s = .next t ∧ t.dict.answer.status = 0 ∧ (getServe t m).ctxMa = a ∧
      (∀ b, a % 64 = 0 → hbmRegion ≤ a → a + 128 ≤ hbmEnd → readMa s m none a 128 = .ok b → ctxOk s m b = true →
        (getServe t m).ctx = some (parseCtx b))) ∧
  (∀ (s : State) (w : Who) (m0 m a : Nat), m = effMoon w m0 → writeStatus s w 0x8010 m = 0 →
    ((getServe s m).seqs ≠ [] ∨ stepStarted s m = true) →
    ∃ t, exec (.serveCtx w m0 a) s = .next t ∧ t.dict.answer.status = 8 ∧ t.serve = s.serve) ∧
  (∀ (s : State) (w : Who) (m0 m k : Nat) (c : ModelCmd), m = effMoon w m0 → writeStatus s w 0x8030 k = 0 →
    ((getSlot s m k).version .staged).isSome = true → (getSlot s m k).swap = none →
    ∃ t j, exec (.swap w m0 k c) s = .next t ∧ t.dict.answer.status = 0 ∧ (getSlot t m k).swap = some j ∧ j.pinned = c.pinned ∧
      j.armed = (!c.whenEn) ∧ (c.whenEn = true → j.whenOrbit = some c.whenOrbit)) ∧
  (∀ (s : State) (w : Who) (m0 m k : Nat) (c : ModelCmd), m = effMoon w m0 → writeStatus s w 0x8030 k = 0 →
    (((getSlot s m k).version .staged).isSome = false ∨ (getSlot s m k).swap ≠ none) →
    ∃ t, exec (.swap w m0 k c) s = .next t ∧ t.dict.answer.status = 7 ∧ t.serve = s.serve) ∧
  (∀ (s : State) (w : Who) (m0 m k : Nat) (c : ModelCmd), m = effMoon w m0 → writeStatus s w 0x8030 k = 0 →
    (∃ t, exec (.cancelSwap w m0 k c) s = .next t ∧ t.dict.answer.status = 0 ∧ (getSlot t m k).swap = none ∧
      (getSlot t m k).versions = (getSlot s m k).versions) ∧
    (∃ t, exec (.unload w m0 k c) s = .next t ∧ t.dict.answer.status = 0 ∧ (getSlot t m k).unload = true ∧
      (getSlot t m k).versions = (getSlot s m k).versions) ∧
    ∃ t, exec (.variantRetire w m0 k c) s = .next t ∧ t.dict.answer.status = 0 ∧
      (∀ v, tfind (getSlot s m k).variants c.variant = some v →
        tfind (getSlot t m k).variants c.variant = some { v with retired := true }) ∧
      ∀ n, n ≠ c.variant → tfind (getSlot t m k).variants n = tfind (getSlot s m k).variants n) ∧
  (∀ (s : State) (m k n : Nat) (j : SwapJob), isUp s = true → (getSlot s m k).swap = some j → j.armed = false → j.whenOrbit = some n →
    s.orbit.state ≠ .unlocked → n ≤ s.orbit.now → (getMoon s m).spilled = false →
    earlierDue s 4 n = false →
    ∃ t, exec (.swapFire m k) s = .next t ∧ (getSlot t m k).swap = some { j with armed := true } ∧ OnlyChanges [.serve] s t)

/-- R268, R269, R272, R293: an eligible STEP task whose slot is idle and whose start checks pass opens. A RUN step or a follower takes the
slot's step number and advances it by one; a SERVICE step acts on the requests, writes a work list without entries, takes no step number,
and is done with bit 8 of KSTATUS set. R273, R293, R294, R297: a step whose plan has completed closes: its task is done and its slot is
free for the next step; a follower's close reports to its lead; a failed plan ends the step's task with SUBTASK_FAILED, a work list of
another step with code 0x0409, a follower that has not reported by SPAN_TIMEOUT with 0x0408, each once what its plan has issued has
completed (R216). A lead's work list reaches its follower, whose plan then runs, with bit 8 of KSTATUS for an empty one (R298), a
follower's report is kept. That a report names the follower, its slot and the step is the model's
choice (log 56).
Completes: stepRun, stepClose, stepService, follow, followWorkList, followReport, spanTimeout. -/
def Obligations.StepsOpenAndClose : Prop :=
  ((∀ (s t : State) (m r : Nat) (u : Machine.Task) (e : StepRec) (c : ServeCtx), readyStep s m r 0 = some (u, e) →
      stepStartBad (startTask s u .running).1 (startTask s u .running).2 e = .ok none → (getServe s m).ctx = some c →
      openRun (startTask s u .running).1 (startTask s u .running).2 e c = .ok t →
      exec (.stepRun m r) s = .next t ∧ (getSlot t m u.desc.karg16).step = (getSlot s m u.desc.karg16).step + 1 ∧
        (getSlot t m u.desc.karg16).running = some (r, u.seq) ∧ (findRun t m r u.seq).isSome = true) ∧
    (∀ (s s2 s3 : State) (m r bits : Nat) (u : Machine.Task) (e : StepRec) (c : ServeCtx), readyStep s m r 2 = some (u, e) →
      stepStartBad (startTask s u .running).1 (startTask s u .running).2 e = .ok none → (getServe s m).ctx = some c →
      openRequests (startTask s u .running).1 m u.desc.karg16 c (getSlot s m u.desc.karg16).step = .ok (s2, bits) →
      writeEmpty s2 m c e.wlBuf (getSlot s2 m u.desc.karg16).step
        (((stepVersion (getSlot s2 m u.desc.karg16) e.verSel).map Version.number).getD 0) = .ok s3 →
      (∃ t, exec (.stepService m r) s = .next t ∧ phaseOf t m r u.seq = some .done ∧
        (findTask t m r u.seq).map Task.kstatus = some (bits ||| 256) ∧ SameBytes s3 t ∧
        (getSlot t m u.desc.karg16).step = (getSlot s m u.desc.karg16).step) ∧
      (∀ a, ctxWord (startTask s u .running).1 m 0x18 = .ok a → ctxWord (startTask s u .running).1 m 0x1C = .ok a →
        (getSlot s m u.desc.karg16).swap = none → (getSlot s m u.desc.karg16).unload = false → bits = 0)) ∧
    (∀ (s : State) (m r : Nat) (u : Machine.Task) (e : StepRec) (c : ServeCtx), readyStep s m r 1 = some (u, e) →
      stepStartBad (startTask s u .running).1 (startTask s u .running).2 e = .ok none → (getServe s m).ctx = some c →
      ∃ t, exec (.follow m r) s = .next t ∧ phaseOf t m r u.seq = some .running ∧
        (getSlot t m u.desc.karg16).step = (getSlot s m u.desc.karg16).step + 1 ∧
        (getSlot t m u.desc.karg16).running = some (r, u.seq))) ∧
  ((∀ (s t : State) (m r : Nat) (q : W32) (u : Machine.Task) (run : StepRun) (c : ServeCtx), r < 16 → runningStep s m r q = some (u, run) →
      u.result ≠ 1 → planFailed s m (16 + run.slot) = none → planComplete s m (16 + run.slot) = true → run.got = true → run.mode ≠ 1 →
      run.followers.length ≤ run.reported.length → (getServe s m).ctx = some c → closeRun s u run c = .ok t →
      exec (.stepClose m r q) s = .next t ∧ phaseOf t m r q = some .done ∧ (getSlot t m run.slot).running = none ∧ findRun t m r q = none) ∧
    (∀ (s : State) (m r : Nat) (q : W32) (u : Machine.Task) (run : StepRun), r < 16 → runningStep s m r q = some (u, run) →
      u.result ≠ 1 → planFailed s m (16 + run.slot) = none → planComplete s m (16 + run.slot) = true → run.got = true → run.mode = 1 →
      let l := run.lead.getD (Config.moduleIdentity, m, run.slot)
      ∃ t, exec (.stepClose m r q) s = .next t ∧ phaseOf t m r q = some .done ∧ (getSlot t m run.slot).running = none ∧
        Out.span l.1 l.2.1 l.2.2
          (leBytes 8 Config.moduleIdentity ++ leBytes 4 m ++ leBytes 4 run.slot ++ leBytes 4 run.step.toNat) ∈ t.out) ∧
    (∀ (s : State) (m r : Nat) (q : W32) (u v : Machine.Task) (run : StepRun), r < 16 → runningStep s m r q = some (u, run) → u.ofPlan = false →
      u.result ≠ 1 → planFailed s m (16 + run.slot) = some v →
      ∃ t, exec (.stepClose m r q) s = .next t ∧ (getRing t m r).fail = true ∧
        (findTask t m r q).map (fun x => (x.phase, x.result, x.error)) =
          some (if planBusy s m run.slot then .running else .done, 1, 0x0407)) ∧
    (∀ (s : State) (m r : Nat) (q : W32) (u : Machine.Task) (run : StepRun), r < 16 → runningStep s m r q = some (u, run) → u.result = 1 →
      planBusy s m run.slot = false →
      ∃ t, exec (.stepClose m r q) s = .next t ∧ (findTask t m r q).map (fun x => (x.phase, x.result)) = some (.done, 1) ∧
        (getSlot t m run.slot).running = none ∧ findRun t m r q = none) ∧
    (∀ (s s1 s2 : State) (m r lead lm lk : Nat) (q : W32) (list : Bytes) (u : Machine.Task) (run : StepRun) (h : PlanHdr),
      runningStep s m r q = some (u, run) → run.mode = 1 → run.got = false → u.result ≠ 1 →
      writeMa s m (parseStep u.ext).wlBuf list = .ok s1 →
      loadPlan (listTaken s1 m r q ⟨list, lead, lm, lk⟩) m (16 + run.slot) u.desc (parseStep u.ext).plan
        (listQty list (parseStep u.ext).wlBuf) = .ok (some (h, s2)) →
      exec (.followWorkList m r q run.step ⟨list, lead, lm, lk⟩) s = .next s2 ∧ SameBytes s1 s2 ∧
        (findRun s2 m r q).map (fun x => (x.got, x.lead)) = some (true, some (lead, lm, lk)) ∧
        (field list 4 4 = 0 → (findRun s2 m r q).map (fun x => x.kstatus.toNat.testBit 8) = some true)) ∧
    (∀ (s : State) (m r lead lm lk : Nat) (q step : W32) (list : Bytes) (u : Machine.Task) (run : StepRun), r < 16 →
      runningStep s m r q = some (u, run) → u.ofPlan = false → run.mode = 1 → run.got = false → u.result ≠ 1 → step ≠ run.step →
      planBusy s m run.slot = false →
      ∃ t, exec (.followWorkList m r q step ⟨list, lead, lm, lk⟩) s = .next t ∧
        (findTask t m r q).map (fun x => (x.phase, x.result, x.error)) = some (.done, 1, 0x0409) ∧ (getRing t m r).fail = true) ∧
    (∀ (s : State) (m r f : Nat) (q : W32) (u : Machine.Task) (run : StepRun), runningStep s m r q = some (u, run) → run.mode = 0 →
      f < run.followers.length →
      ∃ t, exec (.followReport m r q f) s = .next t ∧ (findRun t m r q).map StepRun.reported = some (addNum run.reported f) ∧
        OnlyChanges [.serve] s t) ∧
    (∀ (s : State) (m r f : Nat) (q : W32) (u : Machine.Task) (run : StepRun), r < 16 → runningStep s m r q = some (u, run) →
      u.ofPlan = false → run.mode = 0 → u.result ≠ 1 → f < run.followers.length → f ∉ run.reported →
      run.sentAt + param s 0x8035 0 * 1000000 ≤ s.orbit.refNs →
      ∃ t, exec (.spanTimeout m r q) s = .next t ∧ (getRing t m r).fail = true ∧
        (findTask t m r q).map (fun x => (x.phase, x.result, x.error)) =
          some (if planBusy s m run.slot then .running else .done, 1, 0x0408)))

/-- R303, R304: PIPE_CTX is taken only while the unit is OFF or HALTED; START installs a checked record with micro-batch numbers at 0;
DRAIN stops forwards; RETRY runs again from HALTED; RESET forgets every micro-batch in flight and drains.
Completes: pipeCtx, pipeStart, pipeDrain, pipeRetry, pipeReset. -/
def Obligations.PipelineCommandsAct : Prop :=  (∀ (s : State) (w : Who) (m0 m a : Nat), m = effMoon w m0 → writeStatus s w 0x9010 m = 0 →
    ((getTrain s m).state = .off ∨ (getTrain s m).state = .halted →
      ∃ t, exec (.pipeCtx w m0 a) s = .next t ∧ t.dict.answer.status = 0 ∧ (getTrain t m).ctxMa = a) ∧
    ((getTrain s m).state = .running ∨ (getTrain s m).state = .draining →
      ∃ t, exec (.pipeCtx w m0 a) s = .next t ∧ t.dict.answer.status = 8 ∧ t.train = s.train)) ∧
  (∀ (s s1 : State) (w : Who) (m0 m : Nat) (p : PipeRec) (b : Bytes), m = effMoon w m0 → writeStatus s w 0x9012 m = 0 →
    (getTrain s m).state = .off → readPipe s m (getTrain s m).ctxMa = .ok (some (p, b)) → pipeStarted s m p b = .ok s1 →
    ∃ t, exec (.pipeStart w m0) s = .next t ∧ t.dict.answer.status = 0 ∧ (getTrain t m).state = .running ∧ (getTrain t m).pipeRec = some p ∧
      (getTrain t m).nextMb = 0 ∧ (getTrain t m).inFlight = [] ∧ (getTrain t m).error = 0 ∧ SameBytes s1 t) ∧
  (∀ (s : State) (w : Who) (m0 m : Nat), m = effMoon w m0 → writeStatus s w 0x9012 m = 0 → (getTrain s m).state = .running →
    ∃ t, exec (.pipeDrain w m0) s = .next t ∧ t.dict.answer.status = 0 ∧
      ((getTrain t m).state = .draining ∨ (getTrain t m).state = .off) ∧ ((getTrain s m).active = true → (getTrain t m).state = .draining) ∧
      (getTrain t m).inFlight = (getTrain s m).inFlight) ∧
  (∀ (s s1 : State) (w : Who) (m0 m : Nat) (p : PipeRec) (b : Bytes), m = effMoon w m0 → writeStatus s w 0x9012 m = 0 →
    (getTrain s m).state = .halted → readPipe s m (getTrain s m).ctxMa = .ok (some (p, b)) →
    retryDerives (setTrain (if (getTrain s m).active then s else clearPlans s m) m
      { getTrain s m with pipeRec := some p, state := .running, error := 0, task := 0, code := 0, resetting := false
                          prefetched := if (getTrain s m).active then (getTrain s m).prefetched else none, nextProgram := none }) m p = .ok s1 →
    ∃ t, exec (.pipeRetry w m0) s = .next t ∧ t.dict.answer.status = 0 ∧ (getTrain t m).state = .running ∧ (getTrain t m).error = 0 ∧
      (getTrain t m).program = (getTrain s m).program ∧ (getTrain t m).active = (getTrain s m).active ∧
      (getTrain t m).inFlight = (getTrain s m).inFlight) ∧
  (∀ (s s1 s2 : State) (w : Who) (m0 m : Nat) (p : PipeRec), m = effMoon w m0 → writeStatus s w 0x9012 m = 0 →
    (getTrain s m).state ≠ .off → (getTrain s m).pipeRec = some p →
    modTiles (setTrain (dropUnstarted s m [32, 35, restoreRing]) m
      { getTrain s m with state := .draining, resetting := true, inFlight := [], bwdSince := 0, taken := false, active := false
                          restoring := none, nextProgram := none, prefetched := none, program := none
                          fromRing := false }) m p
      (fun t => { t with even := 0, odd := 0, failed := false }) (upTo p.tiles) = .ok s1 →
    startDerives s1 m p (upTo p.tiles) = .ok s2 → (∃ l, readTiles s2 m p (upTo p.tiles) = .ok l) →
    ∃ t, exec (.pipeReset w m0) s = .next t ∧ t.dict.answer.status = 0 ∧ (getTrain t m).inFlight = [] ∧ (getTrain t m).program = none ∧
      ((getTrain t m).state = .draining ∨ (getTrain t m).state = .off))

/-- R306, R309, R315: in MANUAL mode a command of the ring that passes its check names the next program; a program whose turn it is and
that waits for nothing starts, and a forward takes the next micro-batch number. R307, R308, R312, R315 to R317, R320: a program whose plan
has completed ends: a backward's micro-batch is no longer in flight, an update counts a step; a plan that has failed halts the unit with
TASK_FAILED. A derivation's end makes the tile's transposed copy current or halts the unit with DERIVE_FAILED; a restore's end puts the
activations into the region.
Completes: pipeCmdFwd, pipeCmdBwd, pipeCmdUpdate, forwardProgramStart, backwardProgramStart, updateProgramStart, forwardDone, backwardDone,
updateDone, deriveDone, actRestoreDone. -/
def Obligations.ProgramsStartAndEnd : Prop :=
  ((∀ (s : State) (m : Nat) (r : PipeRec) (b : Bytes) (p : Program), (getTrain s m).pipeRec = some r → moonRuns s m = true → r.manual = true →
      (getTrain s m).state = .running → (getTrain s m).active = false → (getTrain s m).taken = false → (getTrain s m).nextProgram = none →
      readPipeCmd s m (getTrain s m) r (getTrain s m).cmdHead = .ok (some b) → cmdProgram (getTrain s m) r b = some p →
      (∀ f c, p = .update f c → onlyDeriving s m r f c = .ok true) →
      let named : State → Prop := fun t =>
        (getTrain t m).nextProgram = some p ∧ (getTrain t m).state = .running ∧ (getTrain t m).cmdHead = (getTrain s m).cmdHead
      (∀ k, p = .forward k → ∃ t, exec (.pipeCmdFwd m) s = .next t ∧ named t) ∧
      (∀ k, p = .backward k → ∃ t, exec (.pipeCmdBwd m) s = .next t ∧ named t) ∧
      ∀ f c, p = .update f c → ∃ t, exec (.pipeCmdUpdate m) s = .next t ∧ named t) ∧
    (∀ (s s1 : State) (m : Nat) (r : PipeRec) (p : Program), (getTrain s m).pipeRec = some r → moonRuns s m = true →
      pipeIdle (getTrain s m) = true → (getTrain s m).snapStage ≠ 2 → nextUp (getTrain s m) r = some p →
      reshapeDue s m = false → ringQuiet s m (pipeRing (getTrain s m)) = true →
      ((getTrain s m).prefetched = some p ∨ ringQuiet s m (if (getTrain s m).side then 32 else 35) = true) → waitFor s m (getTrain s m) r p = .ok 0 → startProgram s m r p = .ok s1 →
      (getTrain s1 m).state ≠ .halted →
      let starts : State → Prop := fun t => (getTrain t m).program = some p ∧ (getTrain t m).active = true ∧ SameBytes s1 t
      (∀ k, p = .forward k → ∃ t, exec (.forwardProgramStart m) s = .next t ∧ starts t ∧
        ((getTrain s m).taken = false →
          (getTrain t m).nextMb = (getTrain s m).nextMb + 1 ∧ ∃ f ∈ (getTrain t m).inFlight, f.mb = k)) ∧
      (∀ k, p = .backward k → ∃ t, exec (.backwardProgramStart m) s = .next t ∧ starts t) ∧
      ∀ f c, p = .update f c → ∃ t, exec (.updateProgramStart m) s = .next t ∧ starts t)) ∧
  ((∀ (s s1 s2 s3 : State) (m : Nat) (r : PipeRec) (p : Program), isUp s = true → (getTrain s m).pipeRec = some r →
      (getTrain s m).resetting = false → (getTrain s m).program = some p → (getTrain s m).active = true → (getTrain s m).state = .running →
      planFailed s m (pipeRing (getTrain s m)) = none → planComplete s m (pipeRing (getTrain s m)) = true →
      programEffect (dropPlan s m (pipeRing (getTrain s m))) m r p = .ok s1 → passCmd s1 m = .ok s2 →
      startDerives (addRestore (modTrain s2 m fun t => pipeEnded t r p) m r) m r (upTo r.tiles) = .ok s3 →
      let ends : State → Prop := fun t => (getTrain t m).program = none ∧ (getTrain t m).active = false ∧ SameBytes s3 t
      (∀ k, p = .forward k → ∃ t, exec (.forwardDone m) s = .next t ∧ ends t) ∧
      (∀ k, p = .backward k → ∃ t, exec (.backwardDone m) s = .next t ∧ ends t ∧ (∀ f ∈ (getTrain t m).inFlight, f.mb ≠ k) ∧
        (getTrain t m).bwdSince = (getTrain s m).bwdSince + 1) ∧
      ∀ f c, p = .update f c → ∃ t, exec (.updateDone m) s = .next t ∧ ends t ∧ (getTrain t m).steps = (getTrain s m).steps + 1 ∧
        (getTrain t m).bwdSince = 0) ∧
    (∀ (s : State) (m : Nat) (r : PipeRec) (p : Program) (u : Machine.Task), isUp s = true → (getTrain s m).pipeRec = some r →
      (getTrain s m).resetting = false → (getTrain s m).program = some p → (getTrain s m).active = true → (getTrain s m).state = .running →
      planFailed s m (pipeRing (getTrain s m)) = some u →
      let halts : State → Prop := fun t =>
        (getTrain t m).state = .halted ∧ (getTrain t m).error = 3 ∧ (getTrain t m).task = u.seq.toNat ∧ (getTrain t m).code = u.error
      (∀ k, p = .forward k → ∃ t, exec (.forwardDone m) s = .next t ∧ halts t) ∧
      (∀ k, p = .backward k → ∃ t, exec (.backwardDone m) s = .next t ∧ halts t) ∧
      ∀ f c, p = .update f c → ∃ t, exec (.updateDone m) s = .next t ∧ halts t) ∧
    (∀ (s s1 : State) (m i : Nat) (r : PipeRec) (u : Machine.Task), isUp s = true → deriveTask s m i = some u → u.completed = true →
      (getTrain s m).pipeRec = some r →
      (u.result = 0 → (getTrain s m).state = .running →
        modTiles (dropDerive s m i) m r (fun t => { t with tver := t.ver, deriving_ := false }) [i] = .ok s1 →
        ∃ t, exec (.deriveDone m i) s = .next t ∧ deriveTask t m i = none ∧ SameBytes s1 t) ∧
      (u.result ≠ 0 → (getTrain s m).state = .running →
        modTiles (dropDerive s m i) m r (fun t => { t with deriving_ := false, failed := true }) [i] = .ok s1 →
        ∃ t, exec (.deriveDone m i) s = .next t ∧ (getTrain t m).state = .halted ∧ (getTrain t m).error = 4 ∧ (getTrain t m).task = i)) ∧
    (∀ (s : State) (m : Nat) (k : W32) (u : Machine.Task), isUp s = true → (ringTasks s m restoreRing).head? = some u → u.completed = true →
      (getTrain s m).restoring = some k →
      (u.result = 0 → ∃ t, exec (.actRestoreDone m) s = .next t ∧ (getTrain t m).restoring = none ∧ ringTasks t m restoreRing = [] ∧
        (∀ f ∈ (getTrain t m).inFlight, f.mb = k → f.inRegion = true) ∧ SameBytes s t) ∧
      (u.result ≠ 0 → (getTrain s m).state = .running ∨ (getTrain s m).state = .draining →
        ∃ t, exec (.actRestoreDone m) s = .next t ∧ (getTrain t m).state = .halted ∧ (getTrain t m).error = 7 ∧
          (getTrain t m).code = u.error ∧ (getTrain t m).restoring = some k)))

/-- R325 to R327: a legal GNS_CFG starts the statistic from nothing, an illegal one is refused with INVALID_VALUE and changes nothing;
GNS_CLOSE leaves both sums at 0. A die whose entropy source fails its health test is marked; when no source of the four is left the module
is in Fault-Stop.
Completes: gnsCfg, gnsClose, entropyTestFail. -/
def Obligations.GradientNoiseAndEntropy : Prop :=  (∀ (s : State) (w : Who) (m0 m : Nat) (g : GnsCfg), m = effMoon w m0 → writeStatus s w 0x9200 m = 0 → ownRole s w m = true →
    (gnsBad g = false → ∃ t, exec (.gnsCfg w m0 g) s = .next t ∧ t.dict.answer.status = 0 ∧ (getTrain t m).gns = some g ∧
      (getTrain t m).gnsL = 0 ∧ (getTrain t m).gnsG = 0 ∧ (getTrain t m).gnsSeen = false) ∧
    (gnsBad g = true → ∃ t, exec (.gnsCfg w m0 g) s = .next t ∧ t.dict.answer.status = 7 ∧ t.train = s.train)) ∧
  (∀ (s : State) (w : Who) (m0 m : Nat) (g : GnsCfg), m = effMoon w m0 → writeStatus s w 0x9205 m = 0 → ownRole s w m = true →
    (getTrain s m).gns = some g →
    ∃ t, exec (.gnsClose w m0) s = .next t ∧ t.dict.answer.status = 0 ∧ (getTrain t m).gnsL = 0 ∧ (getTrain t m).gnsG = 0 ∧
      (g.enable = true → (decFloat fp64 (getTrain s m).gnsL).isZero = false → (decFloat fp64 (getTrain s m).gnsG).isZero = false →
        (getTrain t m).gnsSeen = true)) ∧
  (∀ (s : State) (d : Nat), isUp s = true → d < 4 →
    ∃ t, exec (.entropyTestFail d) s = .next t ∧ d ∈ t.sec.entropyBad ∧
      ((∃ e, e < 4 ∧ e ≠ d ∧ e ∉ s.sec.entropyBad) → t.power.phase = .up) ∧
      ((∀ e, e < 4 → e ≠ d → e ∈ s.sec.entropyBad) → t.power.phase = .faultStop ∧ t.power.faultReason = FaultReason.entropy.code))

/-- R328, R329: a SNAPSHOT without WHEN is armed, one with WHEN waits for it; CANCEL withdraws a pending one; a boundary between programs
captures the snapshot that the target accepts, or asks a target on another module; it fails with NOT_ACCEPTED otherwise; when the bytes
stand at the target the snapshot is DONE. SNAP_ACCEPT is the target moon's own.
Completes: snapshot, snapCancel, snapAccept, snapshotArm, snapshotCapture, snapshotDone. -/
def Obligations.SnapshotsAct : Prop :=  (∀ (s : State) (w : Who) (m0 m : Nat) (c : SnapCmd), m = effMoon w m0 → writeStatus s w 0x9500 m = 0 → (getTrain s m).snapStage = 0 →
    c.rsv = false → c.targetMoon ≤ 63 → (c.whenEn = true ∨ snapNoLayout (getTrain s m) = false) →
    ∃ t, exec (.snapshot w m0 c) s = .next t ∧ t.dict.answer.status = 0 ∧ (getTrain t m).snap = some (c, w) ∧
      (getTrain t m).snapStage = (if c.whenEn then 1 else 2)) ∧
  (∀ (s : State) (w v : Who) (m0 m : Nat) (c d : SnapCmd), m = effMoon w m0 → writeStatus s w 0x9500 m = 0 → (getTrain s m).snapStage = 1 →
    (getTrain s m).snap = some (d, v) → c.rsv = false →
    ∃ t, exec (.snapCancel w m0 c) s = .next t ∧ t.dict.answer.status = 0 ∧ (getTrain t m).snap = none ∧ (getTrain t m).snapStage = 0 ∧
      (getTrain t m).snapState = 4 + 256 * 1 + 65536 * 0xE) ∧
  (∀ (s : State) (w : Who) (m0 m : Nat) (a : SnapAccept), m = effMoon w m0 → writeStatus s w 0x9502 m = 0 →
    (ownRole s w m = true → ∃ t, exec (.snapAccept w m0 a) s = .next t ∧ t.dict.answer.status = 0 ∧ (getTrain t m).accept = some a) ∧
    (ownRole s w m = false → ∃ t, exec (.snapAccept w m0 a) s = .next t ∧ t.dict.answer.status = 3 ∧ t.train = s.train)) ∧
  (∀ (s : State) (w : Who) (m : Nat) (c : SnapCmd), moonRuns s m = true → (getTrain s m).snap = some (c, w) → (getTrain s m).snapStage = 1 →
    s.orbit.state ≠ .unlocked → c.whenOrbit ≤ s.orbit.now → earlierDue s 5 c.whenOrbit = false → snapNoLayout (getTrain s m) = false →
    ∃ t, exec (.snapshotArm m) s = .next t ∧ (getTrain t m).snapStage = 2 ∧ OnlyChanges [.train] s t) ∧
  (∀ (s : State) (w : Who) (m : Nat) (c : SnapCmd) (l : List (Nat × Nat)), moonRuns s m = true → (getTrain s m).snap = some (c, w) →
    (getTrain s m).snapStage = 2 → (getTrain s m).active = false → snapHeld (getTrain s m) = false → snapNoLayout (getTrain s m) = false →
    (turnWhen s m).any (orbitReached s) = false → snapList s m c = .ok (some l) →
    (c.remote = true ∨ accepts s c.targetMoon (needs m c (pieceBytes l)) = true →
      ∃ t, exec (.snapshotCapture m) s = .next t ∧ (getTrain t m).snapStage = 3 ∧ (getTrain t m).snap = some (c, w) ∧ SameBytes s t) ∧
    (c.remote = false → accepts s c.targetMoon (needs m c (pieceBytes l)) = false →
      ∃ t, exec (.snapshotCapture m) s = .next t ∧ (getTrain t m).snapStage = 0 ∧ (getTrain t m).snapState = 4 + 256 * 1 + 65536 * 0xC)) ∧
  (∀ (s s1 : State) (w : Who) (m : Nat) (c : SnapCmd) (l : List (Nat × Nat)) (b : Bytes), isUp s = true →
    (getTrain s m).snap = some (c, w) → (getTrain s m).snapStage = 3 → c.remote = false → snapList s m c = .ok (some l) →
    readPieces s m l = .ok b → writeMa s c.targetMoon c.targetMa b = .ok s1 →
    ∃ t, exec (.snapshotDone m true) s = .next t ∧ (getTrain t m).snap = none ∧ (getTrain t m).snapStage = 0 ∧
      (getTrain t m).snapState = 3 + 256 * 1 ∧ SameBytes s1 t) ∧
  (∀ (s : State) (w : Who) (m : Nat) (c : SnapCmd), isUp s = true → (getTrain s m).snap = some (c, w) → c.remote = true →
    (4 ≤ (getTrain s m).snapStage → (∀ x ∈ s.links.tx, x.moon = m → x.ring ≠ snapRing) →
      ∃ t, exec (.snapshotDone m true) s = .next t ∧ (getTrain t m).snap = none ∧ (getTrain t m).snapState = 3 + 256 * 1 ∧ SameBytes s t) ∧
    (3 ≤ (getTrain s m).snapStage →
      ∃ t, exec (.snapshotDone m false) s = .next t ∧ (getTrain t m).snap = none ∧ (getTrain t m).snapStage = 0 ∧
        (getTrain t m).snapState = 4 + 256 * 1 + 65536 * 0xC ∧ SameBytes s t))

/-- R330 to R333: a legal turn command waits for its WHEN, and CANCEL withdraws it; at WHEN a turn to learning gates its slot, a turn to
generation drains the pipeline; at the drain point the turn plan is bound; when it has completed and no barrier is named the layout is
installed and the turn is DONE; live sequences that remain after TIMEOUT end it with code 4 and its slot admits again.
Completes: toLearn, toGenerate, turnCancel, turnSwitchFire, turnDrainPoint, turnPlanDone, turnTimeout. -/
def Obligations.TurnsSwitchTheLayout : Prop :=  (∀ (s : State) (w : Who) (m0 m : Nat) (c : TurnCmd), m = effMoon w m0 → writeStatus s w 0x9400 m = 0 → turnBusy (getTrain s m) = false →
    turnBad c = false →
    ((getTrain s m).layout ≠ .learn →
      ∃ t, exec (.toLearn w m0 c) s = .next t ∧ t.dict.answer.status = 0 ∧ (getTrain t m).phase = .pending ∧ (getTrain t m).turnCode = 0 ∧
        (getTrain t m).turn = some (c, true, w)) ∧
    ((getTrain s m).layout ≠ .generate → (getSlot s m c.slot).registration.isSome = true →
      ∃ t, exec (.toGenerate w m0 c) s = .next t ∧ t.dict.answer.status = 0 ∧ (getTrain t m).phase = .pending ∧ (getTrain t m).turnCode = 0 ∧
        (getTrain t m).turn = some (c, false, w))) ∧
  (∀ (s : State) (w v : Who) (m0 m : Nat) (c d : TurnCmd) (l : Bool), m = effMoon w m0 → writeStatus s w 0x9400 m = 0 →
    (getTrain s m).phase = .pending → (getTrain s m).turn = some (d, l, v) →
    ∃ t, exec (.turnCancel w m0 c) s = .next t ∧ t.dict.answer.status = 0 ∧ (getTrain t m).turn = none ∧ (getTrain t m).phase = .failed ∧
      (getTrain t m).turnCode = 7 ∧ (getTrain t m).layout = (getTrain s m).layout) ∧
  (∀ (s : State) (w : Who) (m : Nat) (c : TurnCmd) (l : Bool), moonRuns s m = true → (getTrain s m).phase = .pending →
    (getTrain s m).turn = some (c, l, w) → s.orbit.state ≠ .unlocked → c.whenOrbit ≤ s.orbit.now → earlierDue s 3 c.whenOrbit = false →
    (l = true ∨ (getSlot s m c.slot).registration.isSome = true) →
    ∃ t, exec (.turnSwitchFire m) s = .next t ∧ (getTrain t m).phase = .draining ∧
      (l = true → (getSlot t m c.slot).admitsOff = true ∧ (getTrain t m).state = (getTrain s m).state) ∧
      (l = false → (getTrain s m).state = .running → (getTrain t m).state = .draining ∨ (getTrain t m).state = .off)) ∧
  (∀ (s s1 : State) (w : Who) (m : Nat) (c : TurnCmd), moonRuns s m = true → (getTrain s m).phase = .draining →
    ((getTrain s m).turn = some (c, true, w) → slotIdle s m c.slot = true → slotSeqs (getServe s m) c.slot = [] →
      startTurnPlan (emptySlot s m c.slot) m c = .ok s1 →
      exec (.turnDrainPoint m) s = .next s1 ∧ (getSlot s1 m c.slot).state = .empty ∧ (getSlot s1 m c.slot).versions = [] ∧
        ((getTrain s1 m).phase = .transforming ∨ (getTrain s1 m).phase = .failed)) ∧
    ((getTrain s m).turn = some (c, false, w) → (getTrain s m).state = .off →
      startTurnPlan (setTrain s m { getTrain s m with pipeRec := none, layers := [] }) m c = .ok s1 →
      exec (.turnDrainPoint m) s = .next s1 ∧ (getTrain s1 m).pipeRec = none ∧
        ((getTrain s1 m).phase = .transforming ∨ (getTrain s1 m).phase = .failed))) ∧
  (∀ (s s1 : State) (w : Who) (m : Nat) (c : TurnCmd), isUp s = true → (getTrain s m).phase = .transforming → planFailed s m 33 = none →
    planComplete s m 33 = true → c.barrier = 0xFFFFFFFF →
    ((getTrain s m).turn = some (c, true, w) → installPipe (dropPlan s m 33) m c.pipeRec = .ok s1 →
      ∃ t, exec (.turnPlanDone m) s = .next t ∧ (getTrain t m).layout = .learn ∧ (getTrain t m).phase = .done ∧ (getTrain t m).turnCode = 0 ∧
        (getTrain t m).turn = none) ∧
    ((getTrain s m).turn = some (c, false, w) → (getSlot s m c.slot).registration.isSome = true →
      ∃ t v, exec (.turnPlanDone m) s = .next t ∧ (getTrain t m).layout = .generate ∧ (getTrain t m).phase = .done ∧
        (getTrain t m).turn = none ∧ (getSlot t m c.slot).state = .ready ∧ (getSlot t m c.slot).versions = [v] ∧ v.kind = .current ∧
        v.derived = true ∧ (getSlot t m c.slot).admitsOff = false)) ∧
  (∀ (s : State) (w : Who) (m : Nat) (c : TurnCmd), isUp s = true → (getTrain s m).phase = .draining →
    (getTrain s m).turn = some (c, true, w) → c.endLive = false → slotSeqs (getServe s m) c.slot ≠ [] →
    (getTrain s m).turnAt + c.timeoutMs * 1000000 ≤ s.orbit.refNs →
    ∃ t, exec (.turnTimeout m) s = .next t ∧ (getTrain t m).phase = .failed ∧ (getTrain t m).turnCode = 4 ∧ (getTrain t m).turn = none ∧
      (getSlot t m c.slot).admitsOff = false ∧ (getTrain t m).layout = (getTrain s m).layout)

/-- R341 to R344: a load that passes its checks starts one fetch of the moon with nothing verified; a second while it runs is refused with
BUSY; CANCEL marks the fetch that runs, to end at the next boundary between chunks; one with a reserved field shows OP_BAD (R343). R342, R345, R347: ATTACH_SHARED gives the slot a
version of the shared base and counts one holder more; DROP_SHARED takes away a base that nobody holds and fails with SHARED_BUSY, keeping
it, while one is attached.
Completes: loadBase, loadOverlay, loadVariant, attachShared, dropShared, fetchCancel. -/
def Obligations.FetchesStartAndBasesAttach : Prop :=
  ((∀ (s : State) (w : Who) (m0 m : Nat) (c : FetchCmd) (p : FetchOp), m = effMoon w m0 → writeStatus s w 0x8050 m = 0 →
      (p = .loadBase ∨ p = .loadOverlay ∨ p = .loadVariant) →
      (thas s.fetch.jobs m = false → fetchOpBad p w m c = false → fetchStateBad s p m c = false →
        (c.bar4 = false ∨ s.fetch.bar4Owner = none) →
        let starts : State → Prop := fun t => ∃ j,
          t.dict.answer.status = 0 ∧ tfind t.fetch.jobs m = some j ∧ j.op = p ∧ j.cmd = c ∧ j.who = w ∧ j.headerOk = false ∧ j.verified = [] ∧
          j.cancel = false ∧ tfind t.fetch.status m = some (BitVec.ofNat 32 (2 + 256 * fetchOpCode p)) ∧
          (c.slot < 16 → (getSlot s m c.slot).state = .empty ∨ (getSlot s m c.slot).state = .evicted →
            (getSlot t m c.slot).state = .loading)
        (p = .loadBase → ∃ t, exec (.loadBase w m0 c) s = .next t ∧ starts t) ∧
        (p = .loadOverlay → ∃ t, exec (.loadOverlay w m0 c) s = .next t ∧ starts t) ∧
        (p = .loadVariant → ∃ t, exec (.loadVariant w m0 c) s = .next t ∧ starts t)) ∧
      (thas s.fetch.jobs m = true →
        let busy : State → Prop := fun t => t.dict.answer.status = 8 ∧ t.fetch = s.fetch
        (∃ t, exec (.loadBase w m0 c) s = .next t ∧ busy t) ∧ (∃ t, exec (.loadOverlay w m0 c) s = .next t ∧ busy t) ∧
          ∃ t, exec (.loadVariant w m0 c) s = .next t ∧ busy t)) ∧
    (∀ (s : State) (w : Who) (m0 m : Nat) (c : FetchCmd) (j : FetchJob), m = effMoon w m0 → writeStatus s w 0x8050 m = 0 → c.rsv = false →
      tfind s.fetch.jobs m = some j →
      ∃ t, exec (.fetchCancel w m0 c) s = .next t ∧ t.dict.answer.status = 0 ∧ tfind t.fetch.jobs m = some { j with cancel := true } ∧
        t.mem = s.mem) ∧
    (∀ (s : State) (w : Who) (m0 m : Nat) (c : FetchCmd), m = effMoon w m0 → writeStatus s w 0x8050 m = 0 → c.rsv = true →
      ∃ t, exec (.fetchCancel w m0 c) s = .next t ∧ t.dict.answer.status = 0 ∧ t.fetch.jobs = s.fetch.jobs ∧
        tfind t.fetch.status m = some (BitVec.ofNat 32 (4 + 256 * fetchOpCode .cancel + 65536 * 1)))) ∧
  ((∀ (s : State) (w : Who) (m0 m : Nat) (c : FetchCmd) (b : SharedBase), m = effMoon w m0 → writeStatus s w 0x8050 m = 0 →
      thas s.fetch.jobs m = false → fetchOpBad .attachShared w m c = false → fetchStateBad s .attachShared m c = false →
      tfind s.fetch.shared c.sb = some b → c.targetMa + b.pages.length * pageBytes ≤ hbmEnd →
      (∀ i, i < b.pages.length → entryOf s m ((c.targetMa - hbmRegion) / pageBytes + i) = none) →
      ∃ t v, exec (.attachShared w m0 c) s = .next t ∧ t.dict.answer.status = 0 ∧
        (getSlot t m c.slot).versions = (getSlot s m c.slot).versions ++ [v] ∧ v.shared = some c.sb ∧ v.manifest = b.manifest ∧
        v.number = (getSlot s m c.slot).lastVersion + 1 ∧ tfind t.fetch.shared c.sb = some { b with attached := b.attached + 1 } ∧
        tfind t.fetch.status m = some (BitVec.ofNat 32 (3 + 256 * fetchOpCode .attachShared))) ∧
    (∀ (s : State) (w : Who) (m0 m : Nat) (c : FetchCmd) (b : SharedBase), m = effMoon w m0 → writeStatus s w 0x8050 m = 0 →
      thas s.fetch.jobs m = false → fetchOpBad .dropShared w m c = false → fetchStateBad s .dropShared m c = false →
      tfind s.fetch.shared c.sb = some b →
      (b.attached = 0 → ∃ t, exec (.dropShared w m0 c) s = .next t ∧ t.dict.answer.status = 0 ∧ tfind t.fetch.shared c.sb = none ∧
        tfind t.fetch.status m = some (BitVec.ofNat 32 (3 + 256 * fetchOpCode .dropShared))) ∧
      (b.attached ≠ 0 → ∃ t, exec (.dropShared w m0 c) s = .next t ∧ t.dict.answer.status = 0 ∧ t.fetch.shared = s.fetch.shared ∧
        tfind t.fetch.status m = some (BitVec.ofNat 32 (4 + 256 * fetchOpCode .dropShared + 65536 * 0x11)))))

/-- R338 to R345: a header that passes every check of F2 has its pages granted, one that fails ends the fetch with the check's code; a
chunk whose hash is right stands in the pages and counts as verified, a wrong one is read once more and then ends the fetch with code 9;
after the last chunk the fetch is DONE, or ends with code 8 if the version that it rests on has gone (R345). Chunks of several moons follow in turn, ascending. R349: what the host writes into an open BAR4
window stands in its descriptors and buffers, and is dropped and counted while no fetch owns the window or the module is not running; a FULL
buffer that fits the bundle is taken and its STATE is 0; bytes that stay away for the command's timeout end the fetch with code 0x10.
Completes: fetchHeaderRead, fetchChunkDone, bar4Write, bar4BufferFull, bar4Timeout. -/
def Obligations.FetchesVerifyAndBar4Fills : Prop :=
  ((∀ (s : State) (m : Nat) (j : FetchJob) (header hashes signature hd hs sg : Bytes), isUp s = true → tfind s.fetch.jobs m = some j →
      j.headerOk = false → j.slotGone = false → j.cancel = false → (j.cmd.bar4 = true ∨ (getFn s (hostFn s m)).busMaster = true) →
      bundleParts s j header hashes signature = some (hd, hs, sg) →
      ∃ t, exec (.fetchHeaderRead m header hashes signature) s = .next t ∧
        (bundleCode s m j hd hs sg ≠ 0 → tfind t.fetch.jobs m = none ∧
          tfind t.fetch.status m = some (BitVec.ofNat 32 (4 + 256 * fetchOpCode j.op + 65536 * bundleCode s m j hd hs sg))) ∧
        (bundleCode s m j hd hs sg = 0 → (fetchPages s m j (parseHdr hd).image).1 = 0 →
          ∃ k, tfind t.fetch.jobs m = some k ∧ k.headerOk = true ∧ k.header = hd ∧ k.hashes = hs ∧
            k.granted = (fetchPages s m j (parseHdr hd).image).2.2) ∧
        (bundleCode s m j hd hs sg = 0 → (fetchPages s m j (parseHdr hd).image).1 ≠ 0 → tfind t.fetch.jobs m = none ∧
          tfind t.fetch.status m = some (BitVec.ofNat 32 (4 + 256 * fetchOpCode j.op + 65536 * (fetchPages s m j (parseHdr hd).image).1)))) ∧
    (∀ (s : State) (m i n ma : Nat) (j : FetchJob) (chunk : Bytes), isUp s = true → tfind s.fetch.jobs m = some j → j.headerOk = true →
      j.slotGone = false → j.cancel = false → j.cmd.bar4 = false → (getFn s (hostFn s m)).busMaster = true → fetchTurn s m = true →
      nextChunk j = some i → n = chunkLen (parseHdr j.header) i →
      ma = j.cmd.targetMa + i * 2 ^ (parseHdr j.header).log2 →
      ∃ t, exec (.fetchChunkDone m chunk) s = .next t ∧
        (Config.sha3 (chunk.take n) = slice j.hashes (64 * i) 64 → (addNum j.verified i).length ≠ (parseHdr j.header).chunks →
          tfind t.fetch.jobs m = some { j with verified := addNum j.verified i } ∧
          SameBytes (writeHomes s m (n / 64 + 2) ma (chunk.take n)) t) ∧
        (Config.sha3 (chunk.take n) = slice j.hashes (64 * i) 64 → (addNum j.verified i).length = (parseHdr j.header).chunks →
          tfind t.fetch.jobs m = none ∧
          tfind t.fetch.status m = some (BitVec.ofNat 32 (if baseMatches (getSlot s m j.cmd.slot) j.op (parseHdr j.header) then
            3 + 256 * fetchOpCode j.op else 4 + 256 * fetchOpCode j.op + 65536 * 8))) ∧
        (Config.sha3 (chunk.take n) ≠ slice j.hashes (64 * i) 64 → j.retried.contains i = false →
          tfind t.fetch.jobs m = some { j with retried := i :: j.retried } ∧ t.mem = s.mem) ∧
        (Config.sha3 (chunk.take n) ≠ slice j.hashes (64 * i) 64 → j.retried.contains i = true →
          tfind t.fetch.jobs m = none ∧ tfind t.fetch.status m = some (BitVec.ofNat 32 (4 + 256 * fetchOpCode j.op + 65536 * 9))))) ∧
  ((∀ (s : State) (m a i : Nat) (d : Bytes), isUp s = true → s.fetch.bar4Owner = some m → i < 63 → 0x800 + 16 * i ≤ a → a < 0x810 + 16 * i →
      d ≠ [] → a + d.length ≤ 0x400000 →
      ∃ t, exec (.bar4Write a d) s = .next t ∧
        (getBuf t i).offset = field (overwrite (bufBytes (getBuf s i)) (a % 16) d) 0 8 ∧
        (getBuf t i).len = field (overwrite (bufBytes (getBuf s i)) (a % 16) d) 8 4 ∧
        ((getBuf t i).full = true ↔ field (overwrite (bufBytes (getBuf s i)) (a % 16) d) 12 4 = 1) ∧
        (getBuf t i).bytes = (getBuf s i).bytes ∧ OnlyChanges [.fetch] s t) ∧
    (∀ (s : State) (m a i : Nat) (d : Bytes), isUp s = true → s.fetch.bar4Owner = some m → i < 63 → 0x400000 * (i + 1) ≤ a →
      a + d.length ≤ 0x400000 * (i + 2) → d ≠ [] → memWf (getBuf s i).bytes = true →
      ∃ t, exec (.bar4Write a d) s = .next t ∧ OnlyChanges [.fetch] s t ∧
        ∀ o, memGet (getBuf t i).bytes o =
          if a % 0x400000 ≤ o ∧ o < a % 0x400000 + d.length then d.getD (o - a % 0x400000) 0 else memGet (getBuf s i).bytes o) ∧
    (∀ (s : State) (a : Nat) (d : Bytes), dead s = false → (s.fetch.bar4Owner = none ∨ isUp s = false) →
      pkey 0x8056 0 ∉ s.dict.stuckList → param s 0x8056 0 + 1 < 2 ^ 64 →
      ∃ t, exec (.bar4Write a d) s = .next t ∧ t.fetch = s.fetch ∧ param t 0x8056 0 = param s 0x8056 0 + 1) ∧
    (∀ (s : State) (m i : Nat) (j : FetchJob), isUp s = true → s.fetch.bar4Owner = some m → tfind s.fetch.jobs m = some j →
      j.headerOk = true → (getBuf s i).full = true → 0 < (getBuf s i).len → (getBuf s i).len ≤ 0x400000 →
      (getBuf s i).offset + (getBuf s i).len ≤ j.cmd.bundleBytes →
      (∀ r ∈ j.received, meets ((getBuf s i).offset, (getBuf s i).len) r = false) →
      ∃ t k, exec (.bar4BufferFull i) s = .next t ∧ tfind t.fetch.jobs m = some k ∧
        k.received = j.received ++ [((getBuf s i).offset, (getBuf s i).len)] ∧ getBuf t i = { getBuf s i with full := false }) ∧
    (∀ (s : State) (m : Nat) (j : FetchJob), isUp s = true → tfind s.fetch.jobs m = some j → j.cmd.bar4 = true →
      covers (bar4Ranges s j) ((bar4Ranges s j).length + 1) 0 j.cmd.bundleBytes = false →
      j.fullAt + j.cmd.timeoutMs * 1000000 ≤ s.orbit.refNs →
      ∃ t, exec (.bar4Timeout m) s = .next t ∧ tfind t.fetch.jobs m = none ∧
        tfind t.fetch.status m = some (BitVec.ofNat 32 (4 + 256 * fetchOpCode j.op + 65536 * 0x10))))

/-- R355 to R358, R361, R374: a port that finds signal measures and chooses its mode; a training port that meets an SXL2 partner with
another FABRIC_ID comes UP, one with the same FABRIC_ID goes DOWN with FABRIC_CONFLICT; an SXL1 partner is accepted at 112 Gb/s where the
port allows it; a training that does not end counts, and the third failure in 10 minutes puts the port into FAILED. R357, R373, R374, R376:
what PORT_CTRL does to its port: RETRAIN starts a retraining of a port that is UP and is counted, DISABLE takes it out of use (a FAILED one stays FAILED), ENABLE lets
a DISABLED or FAILED port bring up again, FORCE_112 and AUTO set and clear the restriction to 112 Gb/s.
Completes: linkSignalDetect, linkUp, bringUpTimeout, retrain, retrainDone, disable, enable, force112, auto. -/
def Obligations.PortsComeUpAndObey : Prop :=
  ((∀ (s : State) (p w : Nat) (k : Bool) (c : ChanMeas), linksLive s = true → (getPort s p).enabled = true → (getPort s p).phase = .down →
      linkMode c ((getPort s p).forced112 || (getPort s p).repeat112) = some (k, w) →
      ∃ t, exec (.linkSignalDetect p c) s = .next t ∧ (getPort t p).phase = .training ∧ (getPort t p).class224 = k ∧ (getPort t p).width = w ∧
        (getPort t p).meas = some c ∧ OnlyChanges [.links] s t) ∧
    (∀ (s : State) (p : Nat) (q : Partner), linksLive s = true → (getPort s p).phase = .training → q.sxl2 = true →
      (param s 0x5010 0 ≠ 0xFFFF → param s 0x5010 0 ≠ q.fabric →
        ∃ t, exec (.linkUp p q) s = .next t ∧ (getPort t p).phase = .up ∧ (getPort t p).partner = some q ∧ (getPort t p).sxl1 = false ∧
          ((getPort s p).resume = false ∨ (getPort s p).partner.map Partner.identity ≠ some q.identity → (getPort t p).rxSeq = 0) ∧
          (getPort t p).degraded = degradedBy (getPort s p) q) ∧
      (param s 0x5010 0 = 0xFFFF ∨ param s 0x5010 0 = q.fabric →
        ∃ t, exec (.linkUp p q) s = .next t ∧ (getPort t p).phase = .down ∧ (getPort t p).conflict = true)) ∧
    (∀ (s : State) (p : Nat) (q : Partner), linksLive s = true → (getPort s p).phase = .training → q.sxl2 = false →
      (q.sxl1 = true → (getPort s p).class224 = false → param s 0x5004 p = 1 →
        ∃ t, exec (.linkUp p q) s = .next t ∧ (getPort t p).phase = .up ∧ (getPort t p).sxl1 = true) ∧
      (∀ k c w, q.sxl1 = true → (getPort s p).class224 = true → (getPort s p).meas = some c → linkMode c true = some (k, w) →
        ∃ t, exec (.linkUp p q) s = .next t ∧ (getPort t p).phase = .training ∧ (getPort t p).repeat112 = true ∧ (getPort t p).class224 = k ∧
          (getPort t p).width = w) ∧
      (q.sxl1 = false ∨ ((getPort s p).class224 = false ∧ param s 0x5004 p ≠ 1) →
        ∃ t, exec (.linkUp p q) s = .next t ∧ (getPort t p).phase = .down ∧ (getPort t p).protoRefused = true)) ∧
    (∀ (s : State) (p : Nat), linksLive s = true → ((getPort s p).phase = .training ∨ (getPort s p).phase = .retraining) →
      (((getPort s p).failTimes.filter (failRecent s)).length < 2 →
        ∃ t, exec (.bringUpTimeout p) s = .next t ∧ (getPort t p).phase = .down) ∧
      (2 ≤ ((getPort s p).failTimes.filter (failRecent s)).length →
        ∃ t, exec (.bringUpTimeout p) s = .next t ∧ (getPort t p).phase = .failed)) ∧
    (∀ (s : State) (p w : Nat) (k : Bool) (c : ChanMeas) (q : Partner), linksLive s = true → (getPort s p).phase = .retraining →
      linkMode c ((getPort s p).forced112 || (getPort s p).repeat112) = some (k, w) → q.sxl2 = true → param s 0x5010 0 ≠ 0xFFFF →
      param s 0x5010 0 ≠ q.fabric →
      ∃ t, exec (.retrainDone p c q) s = .next t ∧ (getPort t p).phase = .up ∧ (getPort t p).partner = some q ∧
        ((getPort s p).resume = true → (getPort s p).partner.map Partner.identity = some q.identity → (getPort t p).rxSeq = (getPort s p).rxSeq) ∧
        ((getPort s p).resume = false ∨ (getPort s p).partner.map Partner.identity ≠ some q.identity → (getPort t p).rxSeq = 0))) ∧
  (∀ (s : State) (w : Who) (p : Nat), writeStatus s w 0x5003 p = 0 →
      ((getPort s p).phase = .up → ∃ t, exec (.retrain w p) s = .next t ∧ t.dict.answer.status = 0 ∧ (getPort t p).phase = .retraining ∧
        (getPort t p).retry = (getPort s p).retry ∧ (getPort t p).resume = true ∧
        (pkey 0x5041 p ∉ s.dict.stuckList → param s 0x5041 p + 1 < 2 ^ 64 → param t 0x5041 p = param s 0x5041 p + 1)) ∧
      ((getPort s p).phase ≠ .up → ∃ t, exec (.retrain w p) s = .next t ∧ t.dict.answer.status = 0 ∧ t.links = s.links) ∧
      (∃ t, exec (.disable w p) s = .next t ∧ t.dict.answer.status = 0 ∧ (getPort t p).enabled = false ∧
        (getPort t p).phase = if (getPort s p).phase = .failed then .failed else .disabled) ∧
      (∃ t, exec (.enable w p) s = .next t ∧ t.dict.answer.status = 0 ∧ (getPort t p).enabled = true ∧
        ((getPort s p).phase = .disabled ∨ (getPort s p).phase = .failed → (getPort t p).phase = .down) ∧
        ((getPort s p).phase ≠ .disabled → (getPort s p).phase ≠ .failed → (getPort t p).phase = (getPort s p).phase)) ∧
      (∃ t, exec (.force112 w p) s = .next t ∧ t.dict.answer.status = 0 ∧ (getPort t p).forced112 = true ∧
        (getPort t p).phase = (getPort s p).phase) ∧
      ∃ t, exec (.auto w p) s = .next t ∧ t.dict.answer.status = 0 ∧ (getPort t p).forced112 = false ∧
        (getPort t p).phase = (getPort s p).phase)

/-- R360: a flit that is bad or out of sequence is discarded: nothing it carries happens but its ACK and RETRY_REQ where it is good, and a
RETRY_REQ with the last good sequence number goes back, once for the flits that follow the first one lost (log 59). R362 to R365, R369, R370: a flit taken for this module acts: a header that passes its checks opens its chunk, DATA adds
its bytes and the last writes the chunk, DELIVERED ends a transfer and bills a SEND's bytes, a NACK fails the task with its reason's code,
a CONTROL flit returns its VC0 credit and what it carries takes effect, CREDIT adds credit and CREDIT_SYNC sets it less the flits that are
not acknowledged (log 59), and what waits for credit goes out. A header in transit
goes on by the egress port.
Completes: data, chunkHdr, delivered, nack, control, credit, creditSync. -/
def Obligations.FlitsActOrAreDiscarded : Prop :=
  (∀ (s : State) (p : Nat) (f : Flit) (c : Instr), linksLive s = true → (getPort s p).phase = .up →
      flitRow p f c →
      ((f.good = false ∨ f.fecUncorr ≠ 0) →
        ∃ t g, exec c s = .next t ∧ t.links = (setPort s p { getPort s p with asked := true }).links ∧ t.mem = s.mem ∧ t.tasks = s.tasks ∧
          t.moons = s.moons ∧ t.pack = s.pack ∧ Out.flit p 0 g ∈ t.out ∧ g.retryReq = true ∧ g.ack = (getPort s p).rxSeq - 1) ∧
      (f.good = true → f.fecUncorr = 0 → f.seq ≠ (getPort s p).rxSeq →
        ∃ t, exec c s = .next t ∧ (getPort t p).rxSeq = (getPort s p).rxSeq ∧ t.mem = s.mem ∧ t.tasks = s.tasks ∧ t.moons = s.moons ∧
          t.pack = s.pack ∧
          ((getPort s p).asked = false → (f.seq - (getPort s p).rxSeq).toNat < 2048 →
            ∃ g, Out.flit p 0 g ∈ t.out ∧ g.retryReq = true ∧ g.ack = (getPort s p).rxSeq - 1))) ∧
  ((∀ (s s1 : State) (p fa mo m : Nat) (f : Flit) (h : ChunkHdr), takeFlit s p f = (s1, true) → forUs s1 p f = true →
      flitEnds s1 p f = (fa, mo, m) → chunkRefusal s1 m fa mo h = none → 0 < h.bytes →
      ∃ t, exec (.chunkHdr p f h) s = .next t ∧ rxOf t p f = some ⟨p, f, h, [], false⟩ ∧ OnlyChanges [.links, .out] s1 t) ∧
    (∀ (s s1 : State) (p e : Nat) (f : Flit) (h : ChunkHdr), takeFlit s p f = (s1, true) → forUs s1 p f = false →
      egress s1 (tget s1.links.fwd 0 f.destFabric) = some e → mayGo (getPort s1 e) 2 { f with vc := channelTo s1 e f.destFabric } = true →
      ∃ t g, exec (.chunkHdr p f h) s = .next t ∧ Out.flit e 2 g ∈ t.out ∧ g.vc = channelTo s1 e f.destFabric ∧ g.payload = f.payload ∧
        g.xfer = f.xfer ∧ (p, f.srcFabric, f.srcMoon, f.xfer, e) ∈ t.links.transit) ∧
    (∀ (s s1 : State) (p fa mo m : Nat) (f : Flit) (c : RxChunk) (b : Bytes), takeFlit s p f = (s1, true) → forUs s1 p f = true →
      flitEnds s1 p f = (fa, mo, m) → rxOf s1 p f = some c → c.refused = false →
      b = c.got ++ f.payload.take (Nat.min (flitBytes s1 p) (c.hdr.bytes - c.got.length)) →
      (b.length < c.hdr.bytes →
        ∃ t, exec (.data p f) s = .next t ∧ rxOf t p f = some { c with got := b } ∧ OnlyChanges [.links] s1 t) ∧
      (c.hdr.bytes ≤ b.length → arrivalsHeld s1 m = false → (getMoon s1 m).held = [] →
        arrivalWaits (setRx s1 p f none) m (arrivalOf p fa mo f.xfer c.hdr b) = false →
        ∃ t, exec (.data p f) s = .next t ∧ rxOf t p f = none ∧
          SameBytes (putArrival (setRx s1 p f none) m (arrivalOf p fa mo f.xfer c.hdr b)) t) ∧
      (c.hdr.bytes ≤ b.length → (arrivalsHeld s1 m = true ∨ (getMoon s1 m).held ≠ [] ∨
          arrivalWaits (setRx s1 p f none) m (arrivalOf p fa mo f.xfer c.hdr b) = true) →
        ∃ t, exec (.data p f) s = .next t ∧ rxOf t p f = none ∧
          (getMoon t m).held = (getMoon s1 m).held ++ [arrivalOf p fa mo f.xfer c.hdr b] ∧ SameBytes s1 t)) ∧
    (∀ (s s1 : State) (p : Nat) (f : Flit) (x : TxXfer) (u : Machine.Task), takeFlit s p f = (s1, true) → forUs s1 p f = true →
      s1.links.tx = [x] → x.xfer = f.xfer → x.delivered = false → txTask s1 x = some u →
      ∃ t, exec (.delivered p f) s = .next t ∧ t.links.tx = [] ∧ phaseOf t x.moon x.ring x.seq = some .done ∧
        (getMoon t x.moon).ledger.txBytes = (getMoon s1 x.moon).ledger.txBytes + if sendsAway s1 x then x.bytes else 0) ∧
    (∀ (s s1 : State) (p reason chunk : Nat) (f : Flit) (x : TxXfer) (u : Machine.Task), takeFlit s p f = (s1, true) →
      forUs s1 p f = true → (s1.links.tx.find? fun x => x.xfer == f.xfer) = some x → txTask s1 x = some u → ownOf s1 f.xfer = none → chunk ≠ noChunk →
      ∃ t, exec (.nack p f reason chunk) s = .next t ∧
        (findTask t x.moon x.ring x.seq).map (fun v => (v.phase, v.result, v.error)) =
          some (.done, 1, if reason = nackRoute then 0x0302 else if reason = nackWindow then 0x0303 else if reason = nackGone then 0x0304
            else 0x0305) ∧
        ∀ y ∈ t.links.tx, ¬(y.moon = x.moon ∧ y.ring = x.ring ∧ y.seq = x.seq)) ∧
    (∀ (s s1 : State) (p : Nat) (f : Flit) (k : CtlKind) (l : List Nat), takeFlit s p f = (s1, true) → forUs s1 p f = true →
      (getPort s1 p).sxl1 = false →
      OnlyChanges [.links, .out] s1 (sendCredit s1 p 0 0 1) ∧
      (k ≠ .dictReq → k ≠ .dictRsp → exec (.control p f k l) s = .next (controlActs (sendCredit s1 p 0 0 1) k l)) ∧
      (k = .dictReq ∨ k = .dictRsp →
        exec (.control p f k l) s = .next (takeBody (sendCredit s1 p 0 0 1) p f.srcFabric (k == .dictRsp) f.payload))) ∧
    (∀ (s s1 : State) (p vc m n : Nat) (f : Flit), takeFlit s p f = (s1, true) →
      (∃ t, exec (.credit p f [(vc, m, n)]) s = .next t ∧ OnlyChanges [.links, .out] s1 t ∧
        ((getPort s1 p).queue = [] → (getPort s1 p).owed + 1 < 32 → (getPort t p).owed = (getPort s1 p).owed + 1 ∧ t.out = s1.out ∧
          (vc = 0 → (getPort t p).credit0 = (getPort s1 p).credit0 + n) ∧ (vc = 1 → (getPort t p).credit1 = (getPort s1 p).credit1 + n) ∧
          (vc ≠ 0 → vc ≠ 1 → tget (getPort t p).credit2 0 m = tget (getPort s1 p).credit2 0 m + n)) ∧
        (∀ o, (getPort s1 p).queue = [o] → o.back = none → o.flit.vc = 0 → vc = 0 → 0 < n → (getPort s1 p).owed + 1 < 32 →
          (getPort s1 p).phase = .up → (getPort s1 p).retry.length < 1024 →
          (getPort t p).queue = [] ∧ ∃ g, Out.flit p o.type g ∈ t.out ∧ g.payload = o.flit.payload)) ∧
      ∃ t, exec (.creditSync p f vc n) s = .next t ∧ OnlyChanges [.links, .out] s1 t ∧
        ((getPort s1 p).queue = [] → t.out = s1.out ∧ (vc = 0 → (getPort t p).credit0 = n - unacked (getPort s1 p) 0 f.destMoon) ∧
          (vc = 1 → (getPort t p).credit1 = n - unacked (getPort s1 p) 1 f.destMoon) ∧
          (vc ≠ 0 → vc ≠ 1 → tget (getPort t p).credit2 0 f.destMoon = n - unacked (getPort s1 p) vc f.destMoon))))

/-- R364, R366, R368, R370: the next chunk of a running transfer goes out on one of the ports that may carry it and hold credit for all of
its flits, or through this module's own receive path; a transfer that has had no usable port for LINK_TIMEOUT fails its task with code
0x0302, and ends the MIGRATE_OUT it belongs to (R247).
Completes: sendChunkStart, linkTimeout. -/
def Obligations.ChunksGoOut : Prop :=  (∀ (s : State) (m r i : Nat) (q : W32) (u : Option Machine.Task) (x : TxXfer) (b : Bytes), findTask s m r q = u →
    nextTx s m r q = some (x, i) → txRuns s x u = true → chunkBytes s u x i = .ok b →
    (x.destFabric ≠ param s 0x5010 0 →
      ((txPorts s x).filter fun p => creditFor s x p (chunkFlits (flitBytes s p) (chunkPlace u x i).2)) ≠ [] →
      ∃ t p g, exec (.sendChunkStart m r q) s = .next t ∧
        p ∈ ((txPorts s x).filter fun p => creditFor s x p (chunkFlits (flitBytes s p) (chunkPlace u x i).2)) ∧
        { x with sent := x.sent ++ [(i, p)], openedAt := s.orbit.refNs } ∈ t.links.tx ∧ Out.flit p 2 g ∈ t.out ∧ g.xfer = x.xfer ∧
        ((getPort s p).sxl1 = false → g.destFabric = x.destFabric ∧ g.destMoon = x.destMoon)) ∧
    (x.destFabric = param s 0x5010 0 →
      (checkWrite s x.destMoon ((chunkPlace u x i).2 / 64 + 2) (chunkPlace u x i).1 (chunkPlace u x i).2).map Fail.code ≠ some 0 →
      ∃ t, exec (.sendChunkStart m r q) s = .next t ∧
        SameBytes (sendSelf (putTx (markSent (touchChunk s u x i) x i) { x with sent := x.sent ++ [(i, 32)], openedAt := s.orbit.refNs }) x
          (chunkHeader x i (chunkPlace u x i).1 (chunkPlace u x i).2) b) t)) ∧
  (∀ (s : State) (m r i : Nat) (q : W32) (x : TxXfer), isUp s = true → nextTx s m r q = some (x, i) →
    x.destFabric ≠ param s 0x5010 0 → txPorts s x = [] → x.openedAt + param s 0x5060 0 * 1000000 ≤ s.orbit.refNs →
    (∀ p ∈ bitsOf (if x.mask = 0 then tget s.links.fwd 0 x.destFabric else x.mask) 32,
      (getPort s p).downAt + param s 0x5060 0 * 1000000 ≤ s.orbit.refNs) →
    (∀ u, findTask s m r q = some u → u.phase = .running → r < migRing →
      ∃ t, exec (.linkTimeout m r q) s = .next t ∧
        (findTask t m r q).map (fun v => (v.phase, v.result, v.error)) = some (.done, 1, 0x0302) ∧
        ∀ y ∈ t.links.tx, ¬(y.moon = m ∧ y.ring = r ∧ y.seq = q)) ∧
    (findTask s m r q = none → r = migRing → (getMoon s m).state = .migrating →
      ∃ t, exec (.linkTimeout m r q) s = .next t ∧ (getMoon t m).job = none ∧ ∀ y ∈ t.links.tx, ¬(y.moon = m ∧ y.ring = r ∧ y.seq = q)))

/-- R377 to R382: the role in force follows a PACK_ROLE write; a MEMBER_FABRIC write that names a module of its own starts its entry
afresh, one that names a module twice is refused; POLL_SEND polls every member whose time in the period has come; a POLL from PARENT_FABRIC
sets PACK_STATE and is answered, any other is ignored; without a POLL for ORPHAN_MS the module is ORPHAN. R381: an ANSWER to the latest
POLL within 10 µs is kept and ends a run of misses, 16 in a row end SILENT; a late answer and a missing one are misses, and the third in a
row makes the member SILENT. R392, R394, R406: SPARES_DECLARED takes 0 to 64 on a manager, nothing on another module, and refuses more;
when the interval has elapsed the suspect with the highest score is EXPELLED, a spare is used up and LAST_EXPEL is now.
Completes: pollSend, poll, answer, pollMiss, orphan, memberFabric, sparesDeclared, packRole, expelIntervalElapsed. -/
def Obligations.PacksPollAndExpel : Prop :=
  ((∀ (s : State) (w : Who) (v : Nat), writeStatus s w 0xB000 0 = 0 →
      (v ≤ 2 → ∃ t, exec (.packRole w v) s = .next t ∧ t.dict.answer.status = 0 ∧ t.pack.role = v ∧
        (v ≠ s.pack.role → t.pack.instances = [])) ∧
      (2 < v → v ≠ 0xFF → ∃ t, exec (.packRole w v) s = .next t ∧ t.dict.answer.status = 7 ∧ t.pack = s.pack)) ∧
    (∀ (s : State) (w : Who) (e v : Nat), writeStatus s w 0xB010 e = 0 → v < 0xFFFF →
      (isManager s = true → v ≠ ownFabric s → (∀ f ∈ memberEntries s, f ≠ e → (getMember s f).fabric ≠ v) →
        ∃ t, exec (.memberFabric w e v) s = .next t ∧ t.dict.answer.status = 0 ∧ getMember t e = { freshMember v with polls := pollsDue s e }) ∧
      (v = ownFabric s ∨ (∃ f ∈ memberEntries s, f ≠ e ∧ (getMember s f).fabric = v) →
        ∃ t, exec (.memberFabric w e v) s = .next t ∧ t.dict.answer.status = 7 ∧ t.pack = s.pack)) ∧
    (∀ s : State, isUp s = true → isManager s = true →
      ∃ t, exec .pollSend s = .next t ∧
        t.pack.pollSeq = s.pack.pollSeq +
          BitVec.ofNat 16 ((memberEntries s).filter fun e => decide ((getMember s e).polls < pollsDue s e)).length ∧
        ∀ e ∈ memberEntries s,
          ((getMember s e).polls < pollsDue s e → (getMember t e).polledAt = some s.orbit.refNs ∧ (getMember t e).polls = pollsDue s e ∧
            (getMember t e).fabric = (getMember s e).fabric ∧ ∃ p l, Out.control p .poll (getMember s e).fabric l ∈ t.out) ∧
          (pollsDue s e ≤ (getMember s e).polls → getMember t e = getMember s e)) ∧
    (∀ (s : State) (p : Nat) (g : PollMsg), isUp s = true → s.pack.role ≠ 2 → param s 0xB001 0 ≠ 0xFFFF →
      (g.src = param s 0xB001 0 →
        ∃ t n l, exec (.poll p g) s = .next t ∧ t.pack.packState = (if g.health = 3 then 3 else 1) ∧ t.pack.seenEpoch = some g.bootEpoch ∧
          t.pack.pollAt = some s.orbit.refNs ∧ Out.control n .answer g.src (g.seq.toNat :: l) ∈ t.out) ∧
      (g.src ≠ param s 0xB001 0 → exec (.poll p g) s = .next s)) ∧
    (∀ s : State, isUp s = true → s.pack.role ≠ 2 → param s 0xB001 0 ≠ 0xFFFF → s.pack.packState ≠ 2 →
      s.pack.pollAt.getD 0 + 1000000 * param s 0xB004 0 ≤ s.orbit.refNs → ∃ t, exec .orphan s = .next t ∧ t.pack.packState = 2)) ∧
  ((∀ (s : State) (e rtt : Nat) (a : AnswerMsg), isUp s = true → isManager s = true → (getMember s e).fabric ≠ 0xFFFF →
      (getMember s e).polledAt.isSome = true → a.pollSeq = (getMember s e).pollSeq →
      (rtt ≤ 10000 → ∃ t, exec (.answer e a rtt) s = .next t ∧ (getMember t e).answer = some (a, rtt) ∧ (getMember t e).missRun = 0 ∧
        (getMember t e).answerRun = Nat.min 255 ((getMember s e).answerRun + 1) ∧ (getMember t e).polledAt = none ∧
        (getMember t e).silent = ((getMember s e).silent && decide ((getMember s e).answerRun + 1 < 16))) ∧
      (10000 < rtt → ∃ t, exec (.answer e a rtt) s = .next t ∧ (getMember t e).missRun = Nat.min 255 ((getMember s e).missRun + 1) ∧
        (getMember t e).answerRun = 0)) ∧
    (∀ (s : State) (e a : Nat), isUp s = true → isManager s = true → (getMember s e).polledAt = some a → a + 10000 ≤ s.orbit.refNs →
      ∃ t, exec (.pollMiss e) s = .next t ∧ (getMember t e).missRun = Nat.min 255 ((getMember s e).missRun + 1) ∧
        (getMember t e).answerRun = 0 ∧ (getMember t e).polledAt = none ∧
        (getMember t e).silent = ((getMember s e).silent || decide (3 ≤ (getMember s e).missRun + 1)))) ∧
  ((∀ (s : State) (w : Who) (v : Nat), writeStatus s w 0xB026 0 = 0 →
      (v ≤ 64 → (s.pack.role = 2 ∨ (s.pack.role = 1 ∧ memberEntries s = [])) →
        ∃ t, exec (.sparesDeclared w v) s = .next t ∧ t.dict.answer.status = 0 ∧ param t 0xB026 0 = v) ∧
      (v ≤ 64 → isManager s = false → ∃ t, exec (.sparesDeclared w v) s = .next t ∧ t.dict.answer.status = 0 ∧
        param t 0xB026 0 = param s 0xB026 0 ∧ t.pack = s.pack) ∧
      (64 < v → ∃ t, exec (.sparesDeclared w v) s = .next t ∧ t.dict.answer.status = 7 ∧ t.pack = s.pack ∧
        param t 0xB026 0 = param s 0xB026 0)) ∧
    (∀ (s : State) (e : Nat), isUp s = true → topSuspect s = some e → s.pack.role = 1 → 0 < param s 0xB026 0 →
      ((s.orbit.state ≠ .unlocked ∧ s.pack.expelFree = false ∧ param s 0xB027 0 + 1000000000 * param s 0xB025 0 ≤ s.orbit.now) ∨
        ((s.orbit.state = .unlocked ∨ s.pack.expelFree = true) ∧ s.pack.expelRef + 1000000000 * param s 0xB025 0 ≤ s.orbit.refNs)) →
      ∃ t, exec .expelIntervalElapsed s = .next t ∧ (getMember t e).health = .expelled ∧ param t 0xB026 0 + 1 = param s 0xB026 0 ∧
        param t 0xB027 0 = s.orbit.now))

/-- R383 to R389: a legal definition replaces the barrier's and drops its substitutions, a bad one is refused with INVALID_VALUE, one over
an open instance with BUSY; a substitution is added to the barrier's list; a member's arrival joins the instance; the last one closes it
with result 0 and GEN advances; WITHDRAW takes an arrival back; the timeout closes the instance with result 1 or 2. R385, R390: RELEASE
completes the task of a moon that waits at the barrier; an ARRIVE for a barrier that is not defined is refused back to its module with code
0x0502.
Completes: arrive, barrierRelease, withdraw, barrierTimeout, barrierDef, barrierMove. -/
def Obligations.BarriersGatherAndRelease : Prop :=
  ((∀ (s : State) (w : Who) (b : Nat) (d : BarDef), writeStatus s w 0xB040 b = 0 →
      (badDef s d = false → tfind s.pack.instances b = none → isManager s = true →
        ∃ t, exec (.barrierDef w b d) s = .next t ∧ t.dict.answer.status = 0 ∧ getBarrier t b = ⟨d, (getBarrier s b).gen, []⟩) ∧
      (badDef s d = true → ∃ t, exec (.barrierDef w b d) s = .next t ∧ t.dict.answer.status = 7 ∧ t.pack = s.pack) ∧
      (badDef s d = false → (tfind s.pack.instances b).isSome = true →
        ∃ t, exec (.barrierDef w b d) s = .next t ∧ t.dict.answer.status = 8 ∧ t.pack = s.pack)) ∧
    (∀ (s : State) (w : Who) (b : Nat) (v : BarMove), writeStatus s w 0xB042 b = 0 → isManager s = true → v.newMoon < 64 →
      (v.newFabric, v.newMoon) ∉ barrierPairs (getBarrier s b) → (v.oldFabric, v.oldMoon) ∈ barrierPairs (getBarrier s b) →
      tfind s.pack.instances b = none → (getBarrier s b).moves.length < 16 →
      ∃ t, exec (.barrierMove w b v) s = .next t ∧ t.dict.answer.status = 0 ∧ (getBarrier t b).moves = (getBarrier s b).moves ++ [v] ∧
        (getBarrier t b).defn = (getBarrier s b).defn ∧ barrierPairs (getBarrier t b) = movePair (barrierPairs (getBarrier s b)) v) ∧
    (∀ (s : State) (g : ArriveMsg) (i : Instance) (p : Nat × Nat), isUp s = true → ownScope s = some g.scope →
      (getBarrier s g.barrier).defn.valid = true → (g.fabric, g.moon) ∈ barrierPairs (getBarrier s g.barrier) →
      i = tget s.pack.instances ⟨[], s.orbit.refNs⟩ g.barrier → p ∈ barrierPairs (getBarrier s g.barrier) → p ≠ (g.fabric, g.moon) →
      (∀ a ∈ i.arrived, (a.fabric, a.moon) ≠ p) →
      ∃ t j, exec (.arrive g) s = .next t ∧ tfind t.pack.instances g.barrier = some j ∧ j.openedAt = i.openedAt ∧
        (∃ a ∈ j.arrived, a.fabric = g.fabric ∧ a.moon = g.moon) ∧ (∀ a ∈ i.arrived, a ∈ j.arrived) ∧
        getBarrier t g.barrier = getBarrier s g.barrier) ∧
    (∀ (s : State) (g : ArriveMsg) (i : Instance), isUp s = true → ownScope s = some g.scope →
      (getBarrier s g.barrier).defn.valid = true → (g.fabric, g.moon) ∈ barrierPairs (getBarrier s g.barrier) →
      i = tget s.pack.instances ⟨[], s.orbit.refNs⟩ g.barrier →
      (∀ p ∈ barrierPairs (getBarrier s g.barrier), p = (g.fabric, g.moon) ∨ ∃ a ∈ i.arrived, (a.fabric, a.moon) = p) →
      ∃ t k, exec (.arrive g) s = .next t ∧ tfind t.pack.instances g.barrier = none ∧ tfind t.pack.records g.barrier = some k ∧
        k.result = 0 ∧ k.gen = (getBarrier s g.barrier).gen ∧ (getBarrier t g.barrier).gen = (getBarrier s g.barrier).gen + 1) ∧
    (∀ (s : State) (g : ArriveMsg) (i : Instance), isUp s = true → ownScope s = some g.scope → tfind s.pack.instances g.barrier = some i →
      ∃ t, exec (.withdraw g) s = .next t ∧ OnlyChanges [.pack] s t ∧
        ∀ j, tfind t.pack.instances g.barrier = some j → ∀ a ∈ j.arrived, ¬(a.fabric = g.fabric ∧ a.moon = g.moon)) ∧
    (∀ (s : State) (b k : Nat) (i : Instance), isUp s = true → ownScope s = some k → tfind s.pack.instances b = some i →
      i.openedAt + barrierTimeoutNs s (getBarrier s b) ≤ s.orbit.refNs →
      ∃ t c, exec (.barrierTimeout b) s = .next t ∧ tfind t.pack.instances b = none ∧ tfind t.pack.records b = some c ∧
        (c.result = 1 ∨ c.result = 2) ∧ (getBarrier t b).gen = (getBarrier s b).gen + 1)) ∧
  ((∀ (s : State) (scope b m r : Nat) (q : W32) (a : ArriveMsg) (u : Machine.Task), isUp s = true → s.pack.sent = [(m, r, q, a)] → r ≠ 33 →
      a.scope = scope → a.barrier = b → findTask s m r q = some u → u.phase = .running →
      ∃ t, exec (.barrierRelease scope b) s = .next t ∧ phaseOf t m r q = some .recorded) ∧
    (∀ (s : State) (g : ArriveMsg), isUp s = true → (getBarrier s g.barrier).defn.valid = false → g.fabric ≠ ownFabric s →
      ∃ t p, exec (.arrive g) s = .next t ∧ t.pack = s.pack ∧
        Out.control p .arriveRefused g.fabric [g.moon, g.scope, g.barrier, 0x0502, g.barrier] ∈ t.out))

/-- R46, R47, R398: with PINS the armed edge locks orbit to its second; while LOCKED an edge within 1 µs of a whole second is taken, any
other is rejected; REF within 5,000 ppb over whole windows is valid, a lost or wrong one is not; 2 s without make HOLDOVER;
ORBIT_PPS_SECONDS is taken before the first lock alone. R399, R404: with PTP the best data set of the domain is the master; a Sync of the
master slews a LOCKED count by its offset, and the sixteenth in a row that agrees within 1 µs locks; 5 s without are HOLDOVER. Another
source is taken through HOLDOVER when orbit was LOCKED.
Completes: ppsEdge, refWindow, refLoss, ppsHoldover, orbitPpsSeconds, ptpSync, ptpSyncTimeout, orbitSource, ptpAnnounce, ptpDelayResp. -/
def Obligations.OrbitFollowsPinsAndPtp : Prop :=
  ((∀ (s : State) (w : Who) (v : Nat), writeStatus s w 0x2039 0 = 0 →
      (v ≤ 18446744073 → s.orbit.everLocked = false →
        ∃ t, exec (.orbitPpsSeconds w v) s = .next t ∧ t.dict.answer.status = 0 ∧ param t 0x2039 0 = v ∧ t.orbit.ppsArmed = true) ∧
      (18446744073 < v ∨ s.orbit.everLocked = true →
        ∃ t, exec (.orbitPpsSeconds w v) s = .next t ∧ t.dict.answer.status = 7 ∧ t.orbit = s.orbit)) ∧
    (∀ s : State, isUp s = true → orbitSource s = 1 →
      (s.orbit.refValid = true → s.orbit.state = .unlocked → s.orbit.ppsArmed = true → s.orbit.everLocked = false →
        param s 0x2039 0 ≤ 18446744073 →
        ∃ t, exec .ppsEdge s = .next t ∧ t.orbit.state = .locked ∧ t.orbit.now = 1000000000 * param s 0x2039 0 ∧
          t.orbit.edgeSec = param s 0x2039 0 ∧ t.orbit.everLocked = true ∧ OnlyChanges [.orbit] s t) ∧
      (∀ n, s.orbit.refValid = true → s.orbit.state = .locked → s.orbit.everLocked = true → n = nearestSec (sinceEdge s.orbit) →
        timeGap (sinceEdge s.orbit) (1000000000 * n) ≤ 1000 →
        ∃ t, exec .ppsEdge s = .next t ∧ t.orbit.state = .locked ∧ t.orbit.edgeSec = s.orbit.edgeSec + n ∧
          t.orbit.edgeRef = s.orbit.refNs ∧ t.orbit.now = s.orbit.now ∧ t.orbit.slew = 1000000000 * (s.orbit.edgeSec + n) - s.orbit.now) ∧
      (s.orbit.refValid = false → ∃ t, exec .ppsEdge s = .next t ∧ t.orbit = s.orbit ∧
        cntB t 0x203C 0 = Nat.min (cntB s 0x203C 0 + 1) 0xFFFFFFFF)) ∧
    (∀ (s : State) (ppb : Int), isUp s = true → orbitSource s = 1 →
      (ppb.natAbs ≤ 5000 → ∃ t, exec (.refWindow ppb) s = .next t ∧ t.orbit.refValid = (s.orbit.refValid || s.orbit.refWhole) ∧
        t.orbit.refWhole = true ∧ OnlyChanges [.orbit] s t) ∧
      (5000 < ppb.natAbs → ∃ t, exec (.refWindow ppb) s = .next t ∧ t.orbit.refValid = false ∧ OnlyChanges [.orbit] s t) ∧
      ∃ t, exec .refLoss s = .next t ∧ t.orbit.refValid = false ∧ t.orbit.refWhole = false ∧ OnlyChanges [.orbit] s t) ∧
    (∀ s : State, isUp s = true → orbitSource s = 1 → s.orbit.state = .locked →
      ((s.orbit.refValid = false ∧ s.orbit.refInvalidAt + 2000000000 ≤ s.orbit.refNs) ∨ 2000001000 ≤ sinceEdge s.orbit) →
      ∃ t, exec .ppsHoldover s = .next t ∧ t.orbit.state = .holdover ∧ t.orbit.now = s.orbit.now)) ∧
  ((∀ (s : State) (n : Nat), isUp s = true → orbitSource s = 2 →
      (s.orbit.ptpMaster = none → ∃ t, exec (.ptpAnnounce (param s 0x203A 0) n) s = .next t ∧ t.orbit.ptpMaster = some n) ∧
      (∀ t1 t2 t3, s.orbit.ptpReq = some (t1, t2, t3) → ∃ t, exec (.ptpDelayResp n) s = .next t ∧ t.orbit.ptpReq = none ∧
        t.orbit.ptpDelay = halfNs (((t2 : Int) - t1) + ((n : Int) - t3)) ∧ OnlyChanges [.orbit] s t) ∧
      (s.orbit.ptpReq = none → exec (.ptpDelayResp n) s = .next s) ∧
      (∀ d, d ≠ param s 0x203A 0 → exec (.ptpAnnounce d n) s = .next s)) ∧
    (∀ (s : State) (d m a : Nat), isUp s = true → orbitSource s = 2 → s.orbit.ptpMaster = some d → d % 2 ^ 64 = m % 2 ^ 64 →
      (s.orbit.state = .locked → ∃ t, exec (.ptpSync m a) s = .next t ∧ t.orbit.state = .locked ∧
        t.orbit.slew = (a : Int) + s.orbit.ptpDelay - s.orbit.now ∧ t.orbit.ptpAt = s.orbit.refNs ∧
        t.orbit.ptpReq = some (a, s.orbit.now, s.orbit.now) ∧ t.out = .delayReq s.orbit.now :: s.out) ∧
      (s.orbit.state ≠ .locked → 15 ≤ s.orbit.ptpRun.length →
        spread ((((s.orbit.now : Int) - ((a : Int) + s.orbit.ptpDelay)) :: s.orbit.ptpRun).take 16) ≤ 1000 →
        ∃ t, exec (.ptpSync m a) s = .next t ∧ t.orbit.state = .locked ∧ t.orbit.everLocked = true)) ∧
    (∀ s : State, isUp s = true → orbitSource s = 2 → s.orbit.state = .locked → s.orbit.ptpAt + 5000000000 ≤ s.orbit.refNs →
      ∃ t, exec .ptpSyncTimeout s = .next t ∧ t.orbit.state = .holdover ∧ t.orbit.ptpMaster = none) ∧
    (∀ (s : State) (w : Who) (v : Nat), writeStatus s w 0x2032 0 = 0 →
      (v ≤ 2 → v ≠ orbitSource s → ∃ t, exec (.orbitSource w v) s = .next t ∧ t.dict.answer.status = 0 ∧ orbitSource t = v ∧
        (s.orbit.state = .locked → t.orbit.state = .holdover) ∧ (s.orbit.state ≠ .locked → t.orbit.state = s.orbit.state)) ∧
      (2 < v → ∃ t, exec (.orbitSource w v) s = .next t ∧ t.dict.answer.status = 7 ∧ t.orbit = s.orbit)))

/-- R400 to R402: a BEACON goes out every 10 µs on every UP SXL2 port of BEACON_OUT unless orbit is UNLOCKED; one heard on the port in use
slews a LOCKED count by its offset and gives the hop count, eight in a row within 20 ns lock; the eighth hop is not followed; 100 µs
without are HOLDOVER; delay requests are sent, answered and measured.
Completes: beaconSend, beacon, beaconTimeout, delayReqSend, delayReq, delayResp. -/
def Obligations.BeaconsDistributeOrbit : Prop :=  (∀ s : State, isUp s = true → s.orbit.state ≠ .unlocked → s.orbit.beaconSentAt + 10000 ≤ s.orbit.refNs →
    ∃ t, exec .beaconSend s = .next t ∧ t.orbit.beaconSeq = s.orbit.beaconSeq + 1 ∧ t.orbit.beaconSentAt = s.orbit.refNs ∧
      ∀ p ∈ bitsOf (param s 0x2035 0) 32, (getPort s p).phase = .up → (getPort s p).sxl1 = false →
        ∃ d l, Out.control p .beacon d (s.orbit.now :: l) ∈ t.out) ∧
  (∀ (s : State) (p : Nat) (b : BeaconMsg), isUp s = true → orbitSource s = 0 → p = orbitPortOf s false →
    (b.hop < 8 → s.orbit.state = .locked → s.orbit.onAlt = false →
      ∃ t, exec (.beacon p b) s = .next t ∧ t.orbit.state = .locked ∧ t.orbit.slew = b.orbit + pathDelay s p - s.orbit.now ∧
        param t 0x2038 0 = b.hop + 1 ∧ t.orbit.beaconAt = s.orbit.refNs ∧ t.orbit.missRun = 0) ∧
    (b.hop < 8 → s.orbit.state = .unlocked → tget s.orbit.delays [] p ≠ [] →
      (∃ q a, tfind s.orbit.heard p = some (q, a) ∧ b.seq = q + 1) → 7 ≤ (tget s.orbit.run [] p).length →
      spread ((((s.orbit.now : Int) - (b.orbit + pathDelay s p)) :: tget s.orbit.run [] p).take 8) ≤ 20 →
      ∃ t, exec (.beacon p b) s = .next t ∧ t.orbit.state = .locked ∧ t.orbit.everLocked = true) ∧
    (8 ≤ b.hop → exec (.beacon p b) s = .next s)) ∧
  (∀ s : State, isUp s = true → orbitSource s = 0 → beaconMissing s = true →
    ∃ t, exec .beaconTimeout s = .next t ∧ (portInUse s ≠ 0xFF → cntB t 0x203B 0 = Nat.min (cntB s 0x203B 0 + 1) 0xFFFFFFFF) ∧
      (s.orbit.state = .locked → s.orbit.beaconAt + 100000 ≤ s.orbit.refNs → t.orbit.state = .holdover) ∧
      (s.orbit.refNs < s.orbit.beaconAt + 100000 → t.orbit.state = s.orbit.state)) ∧
  (∀ (s : State) (p : Nat), isUp s = true → p < 32 → (getPort s p).phase = .up → (getPort s p).sxl1 = false →
    (orbitSource s = 0 → (p = orbitPortOf s false ∨ p = orbitPortOf s true) → s.orbit.delayReqAt + 1000000 ≤ s.orbit.refNs → ∃ t d, exec .delayReqSend s = .next t ∧
      Out.control p .delayReq d [s.orbit.now] ∈ t.out ∧ t.orbit.delayReqAt = s.orbit.refNs ∧ OnlyChanges [.orbit, .links, .out] s t) ∧
    ∀ a, ∃ t d, exec (.delayReq p a) s = .next t ∧ Out.control p .delayResp d [a, s.orbit.now, s.orbit.now] ∈ t.out ∧
      OnlyChanges [.links, .out] s t) ∧
  (∀ (s : State) (p t1 t2 t3 t4 : Nat), isUp s = true → orbitSource s = 0 → (p = orbitPortOf s false ∨ p = orbitPortOf s true) →
    ∃ t, exec (.delayResp p t1 t2 t3 t4) s = .next t ∧
      tget t.orbit.delays [] p = ((((t4 : Int) - t1) - ((t3 : Int) - t2)) :: tget s.orbit.delays [] p).take 16)

/-- R409, R412, R413: a deasserted PERST_N lets the endpoint train; a hot reset and an FLR of the PF clear VF Enable, reset function 0 and
disable the rings of moon 0; an FLR of a VF does so for its moon; VF_ENABLE sets the number of VFs, and a lower number resets those that
go. R214, R425, R426: a read of host memory that times out or fails ends its MOVE task with HOST_DMA and the completion status, or its
fetch with code 0x000A and that status in FETCH_STATUS, unless Completion Timeout Disable is set (log 22); a host read held for too long completes with ones and is counted.
Completes: perstNDeassert, hotReset, flr, vfEnableClear, hostCplTimeout, hostReadAborted, vfEnable, hostDmaError. -/
def Obligations.FunctionsResetAndHostReadsFail : Prop :=
  ((∀ s : State, dead s = false → ∃ t, exec .perstNDeassert s = .next t ∧ t.host.perst = false ∧ t.host.linkTraining = true) ∧
    (∀ s : State, dead s = false →
      let fresh : State → Prop := fun t =>
        t.host.vfEnable = false ∧ t.host.numVfs = 0 ∧ (getFn t 0).evqEnable = false ∧ (getFn t 0).mbx = .idle ∧
        (getFn t 0).busMaster = false ∧ ∀ r, r < 16 → (getRing t 0 r).enable = false
      (∃ t, exec .hotReset s = .next t ∧ fresh t) ∧ ∃ t, exec (.flr 0) s = .next t ∧ fresh t) ∧
    (∀ (s : State) (n : Nat), dead s = false → vfOn s n = true →
      ∃ t, exec (.flr n) s = .next t ∧ t.host.vfEnable = true ∧ t.host.numVfs = s.host.numVfs ∧ (getFn t n).evqEnable = false ∧
        (getFn t n).mbx = .idle ∧ (getFn t n).busMaster = false ∧ ∀ r, r < 16 → (getRing t n r).enable = false) ∧
    (∀ (s : State) (n : Nat), dead s = false → n ≤ 63 → (s.host.vfEnable = false ∨ s.host.numVfs < n) →
      ∃ t, exec (.vfEnable n) s = .next t ∧ t.host.numVfs = n ∧ t.host.vfEnable = decide (0 < n)) ∧
    (∀ (s : State) (n : Nat), dead s = false → s.host.vfEnable = true → n < s.host.numVfs →
      ∃ t, exec (.vfEnableClear n) s = .next t ∧ t.host.numVfs = n ∧ t.host.vfEnable = decide (0 < n) ∧
        ∀ k, n < k → k < 64 → k ≤ s.host.numVfs → (getFn t k).evqEnable = false ∧ (getFn t k).busMaster = false)) ∧
  ((∀ (s : State) (m r st : Nat) (q : W32) (u : Machine.Task), isUp s = true → findTask s m r q = some u → u.phase = .running →
      u.desc.kind = 3 → (parseMove u.ext).srcHost = 1 → u.engine.isSome = true →
      ((tget (getFn s 0).cfg 0 0x1A).testBit 4 = false → ∃ t, exec (.hostCplTimeout m (some (r, q))) s = .next t ∧
        (findTask t m r q).map (fun x => (x.phase, x.result, x.error, x.detail)) = some (.done, 1, 0x0207, 3)) ∧
      ((tget (getFn s 0).cfg 0 0x1A).testBit 4 = true → exec (.hostCplTimeout m (some (r, q))) s = .next s) ∧
      (st = 1 ∨ st = 2 ∨ st = 4 → ∃ t, exec (.hostDmaError m (some (r, q)) st) s = .next t ∧
        (findTask t m r q).map (fun x => (x.phase, x.result, x.error, x.detail)) = some (.done, 1, 0x0207, st))) ∧
    (∀ (s : State) (m st : Nat) (j : FetchJob), isUp s = true → tfind s.fetch.jobs m = some j → j.cmd.bar4 = false →
      (st = 1 ∨ st = 2 ∨ st = 4) →
      ∃ t, exec (.hostDmaError m none st) s = .next t ∧ tfind t.fetch.jobs m = none ∧
        tfind t.fetch.status m = some (BitVec.ofNat 32 (4 + 256 * fetchOpCode j.op + 65536 * 0xA + 16777216 * st))) ∧
    (∀ (s : State) (n : Nat), isUp s = true → pkey 0x0011 0 ∉ s.dict.stuckList → param s 0x0011 0 + 1 < 2 ^ 64 →
      ∃ t, exec (.hostReadAborted n) s = .next t ∧ t.dict.answer.value = List.replicate n 0xFF ∧ param t 0x0011 0 = param s 0x0011 0 + 1 ∧
        t.mem = s.mem))

/-- R416, R417, R426: WIN_BASE takes an aligned base in the HBM region of the function that drives the moon, and keeps the old one
otherwise; a low half that comes before its high half is kept until then (log 22). A read or write of the window reaches the moon's memory
there; one that no base maps answers ones or is dropped, and is counted; a write that meets a MIGRATING page, or comes behind one that
waits, waits in order.
Completes: winBase, ringWindowRead, ringWindowWrite. -/
def Obligations.RingWindowsReachMemory : Prop :=  (∀ (s : State) (fn m n : Nat) (h : Bool) (v : W32), m = pageMoon fn m → n = putHalf (tget s.host.winBase 0 m) h v →
    (ringAccess s fn m = true → n % windowSize fn = 0 → ((hbmRegion ≤ n ∧ n < hbmEnd) ∨ (h = false ∧ hbmHigh (n / 2 ^ 32) = false)) →
      ∃ t, exec (.winBase fn m h v) s = .next t ∧ tget t.host.winBase 0 m = n ∧ OnlyChanges [.host] s t) ∧
    (ringAccess s fn m = false ∨ n % windowSize fn ≠ 0 ∨ ((n < hbmRegion ∨ hbmEnd ≤ n) ∧ (h = true ∨ hbmHigh (n / 2 ^ 32) = true)) →
      exec (.winBase fn m h v) s = .next s)) ∧
  (∀ (s : State) (fn m o n : Nat), m = pageMoon fn m → ringAccess s fn m = true →
    (∀ ma b, windowMa s fn m o n = some ma → readMa s m none ma n = .ok b →
      ∃ t, exec (.ringWindowRead fn m o n) s = .next t ∧ t.dict.answer.value = b ∧ SameBytes s t) ∧
    (windowMa s fn m o n = none →
      ∃ t, exec (.ringWindowRead fn m o n) s = .next t ∧ t.dict.answer.value = List.replicate n 0xFF ∧
        tget t.host.winDenied 0 m = satAdd (tget s.host.winDenied 0 m) 1 ∧ t.mem = s.mem)) ∧
  (∀ (s : State) (fn m o : Nat) (b : Bytes), m = pageMoon fn m → ringAccess s fn m = true →
    (∀ ma s1, windowMa s fn m o b.length = some ma → hostWaits s fn = false → windowWaits s m ma b.length = false →
      writeMa (streamAccess s m ma b.length 0 false) m ma b = .ok s1 →
      ∃ t, exec (.ringWindowWrite fn m o b) s = .next t ∧ SameBytes s1 t) ∧
    (∀ ma, windowMa s fn m o b.length = some ma → (hostWaits s fn = true ∨ windowWaits s m ma b.length = true) →
      ∃ t, exec (.ringWindowWrite fn m o b) s = .next t ∧ t.host.waiting = s.host.waiting ++ [.window fn m ma b] ∧ OnlyChanges [.host] s t) ∧
    (windowMa s fn m o b.length = none →
      ∃ t, exec (.ringWindowWrite fn m o b) s = .next t ∧ t.mem = s.mem ∧
        tget t.host.winDenied 0 m = satAdd (tget s.host.winDenied 0 m) 1))

/-- R416, R421: EVQ_CFG enables a queue of a legal size and base and refuses any other with CFG_ERR; an unmasked vector that was pending
sends its message once; a vector that was not pending sends nothing. R415, R416, R424: bytes written to the request buffer stand there; a
register access that is not aligned is discarded; EVQ_HEAD takes its value; a doorbell with a legal length copies the request and makes the
mailbox BUSY, any other sets REFUSED.
Completes: evqCfg, registerWrite, mbxDoorbell, msixUnmask. -/
def Obligations.QueuesVectorsAndMailbox : Prop :=
  ((∀ (s : State) (fn : Nat) (v : W32), dead s = false → fnLive s fn = true → (getFn s fn).evqEnable = false → v.toNat.testBit 4 = true →
      (6 ≤ v.toNat % 16 → v.toNat % 16 ≤ 12 → (getFn s fn).evqBase % 4096 = 0 →
        ∃ t, exec (.evqCfg fn v) s = .next t ∧ (getFn t fn).evqEnable = true ∧ (getFn t fn).evqLog2 = v.toNat % 16) ∧
      ((v.toNat % 16 < 6 ∨ 12 < v.toNat % 16 ∨ (getFn s fn).evqBase % 4096 ≠ 0) →
        ∃ t, exec (.evqCfg fn v) s = .next t ∧ (getFn t fn).evqEnable = false ∧ (getFn t fn).evqCfgErr = true ∧ OnlyChanges [.host] s t)) ∧
    (∀ (s : State) (fn v : Nat), dead s = false → fnLive s fn = true → vectorOk fn v = true → v ∉ (getFn s fn).unmasked →
      (v ∈ (getFn s fn).pendingVecs → (getFn s fn).busMaster = true →
        ∃ t, exec (.msixUnmask fn v) s = .next t ∧ v ∈ (getFn t fn).unmasked ∧ v ∉ (getFn t fn).pendingVecs ∧ t.out = .msix fn v :: s.out) ∧
      (v ∉ (getFn s fn).pendingVecs →
        ∃ t, exec (.msixUnmask fn v) s = .next t ∧ v ∈ (getFn t fn).unmasked ∧ t.out = s.out))) ∧
  ((∀ (s : State) (fn o : Nat) (b : Bytes), dead s = false → fnLive s fn = true →
      (hostWaits s fn = true → o < configSpace →
        ∃ t, exec (.registerWrite fn o b) s = .next t ∧ t.host.waiting = s.host.waiting ++ [.reg fn o b] ∧ OnlyChanges [.host] s t) ∧
      (hostWaits s fn = false → 0x1000 ≤ o → o + b.length ≤ 0x2000 →
        ∃ t, exec (.registerWrite fn o b) s = .next t ∧ (getFn t fn).reqBuf = memWrite (getFn s fn).reqBuf (o - 0x1000) b ∧
          OnlyChanges [.host] s t) ∧
      (hostWaits s fn = false → o < 0x1000 → b.length = 4 → o % 4 ≠ 0 → exec (.registerWrite fn o b) s = .next s) ∧
      (hostWaits s fn = false → o = 0x018 → b.length = 4 →
        ∃ t, exec (.registerWrite fn o b) s = .next t ∧ (getFn t fn).evqHead = BitVec.ofNat 32 (leNat b) ∧ OnlyChanges [.host] s t)) ∧
    (∀ (s : State) (fn : Nat) (v : W32), dead s = false → fnLive s fn = true →
      ((getFn s fn).mbx ≠ .busy → 1 ≤ v.toNat % 2 ^ 13 → v.toNat % 2 ^ 13 ≤ 4096 →
        ∃ t, exec (.mbxDoorbell fn v) s = .next t ∧ (getFn t fn).mbx = .busy ∧
          t.host.taken = s.host.taken ++ [(fn, memRead (getFn s fn).reqBuf 0 (v.toNat % 2 ^ 13))]) ∧
      ((getFn s fn).mbx = .busy ∨ v.toNat % 2 ^ 13 = 0 ∨ 4096 < v.toNat % 2 ^ 13 →
        ∃ t, exec (.mbxDoorbell fn v) s = .next t ∧ (getFn t fn).mbxRefused = true ∧ (getFn t fn).mbx = (getFn s fn).mbx ∧
          t.host.taken = s.host.taken)))

/-- R436, R437, R439 to R444: a one-item request of an admitted role is answered: a read of a numeric parameter with the value its rule
gives, a write with what its rule makes of the value, a description with the parameter's shape; an item that fails a check of R439 is
answered with the first check's code and changes nothing beyond the answer and its counters. R439: the checks come in the order of the
rule: NOT_READY, ITEM_RSV, NO_PARAM, BAD_ELEMENT, then the access outcome of R431, with it a parameter that only its own moon may use and the
claim of R502.
Completes: read, write, describe. -/
def Obligations.DictionaryItemsAct : Prop :=
  (∀ (s : State) (path : Path) (f : Frame) (r : Role) (it : Item), dead s = false → pathLive s path = true → mgtTakes path f = true →
      requestsWait s = false → f.version = 1 → f.kind = 1 → f.wellLen = true → f.auth = false → claimed s path f = some r →
      isLocal s f = true → (∀ p, (requestBytes f [(p, it)]).length ≤ rspLimit path) →
      (∀ i u v, itemCheck s ⟨r, path⟩ .all true .read it = .ok i → i.num / 4096 ≠ 15 → i.typ ≠ 8 → i.typ ≠ 9 →
        readValue s ⟨r, path⟩ i it.element = .ok (u, v) → v.length ≤ 16 →
        ∃ t, exec (.read path f it) s = .next t ∧ t.dict.answer.frame = 0 ∧ t.dict.answer.status = 0 ∧ t.dict.answer.value = v ∧
          OnlyChanges [.host, .links, .dict, .stat, .out] u t) ∧
      (∀ i u c, itemCheck s ⟨r, path⟩ .all true .write it = .ok i → i.typ ≠ 8 → i.typ ≠ 9 → it.type = i.typ → it.len = i.size →
        writeValue s ⟨r, path⟩ i it.element (slice it.value 0 it.len) = (u, c) →
        ∃ t, exec (.write path f it) s = .next t ∧ t.dict.answer.frame = 0 ∧ t.dict.answer.status = c ∧
          OnlyChanges [.host, .links, .dict, .stat, .out] u t) ∧
      (∀ i, itemCheck s ⟨r, path⟩ .all true .describe it = .ok i →
        ∃ t, exec (.describe path f it) s = .next t ∧ t.dict.answer.frame = 0 ∧ t.dict.answer.status = 0 ∧
          t.dict.answer.value = describeBytes s ⟨r, path⟩ i it.element ∧ OnlyChanges [.host, .links, .dict, .stat, .out] s t) ∧
      (∀ (c : Nat) (p : ItemOp), itemCheck s ⟨r, path⟩ .all true p it = .error c →
        ∃ t, exec (match p with | .read => .read path f it | .write => .write path f it | .describe => .describe path f it) s = .next t ∧
          t.dict.answer.frame = 0 ∧ t.dict.answer.status = c ∧ t.dict.params = s.dict.params ∧
          OnlyChanges [.host, .links, .dict, .stat, .out] s t)) ∧
  (∀ (s : State) (w : Who) (p : ItemOp) (it : Item),
      (notReady s w it.param (p == .write) = true → itemCheck s w .all true p it = .error 9) ∧
      (notReady s w it.param (p == .write) = false → itemRsv p it = true → itemCheck s w .all true p it = .error 12) ∧
      (notReady s w it.param (p == .write) = false → itemRsv p it = false → dictRow it.param = none →
        itemCheck s w .all true p it = .error 1) ∧
      (∀ i, notReady s w it.param (p == .write) = false → itemRsv p it = false → dictRow it.param = some i →
        (i.last < it.element → elementBad s w p i it.element = true) ∧
        (elementBad s w p i it.element = true → itemCheck s w .all true p it = .error 2) ∧
        (elementBad s w p i it.element = false → accessStatus (accessOf i w.role) p w.role ≠ 0 →
          itemCheck s w .all true p it = .error (accessStatus (accessOf i w.role) p w.role)) ∧
        (elementBad s w p i it.element = false → accessStatus (accessOf i w.role) p w.role = 0 →
          (notOwn s w p i.num it.element = true → itemCheck s w .all true p it = .error 3) ∧
          (notOwn s w p i.num it.element = false → p = .write → i.num = 0xA001 → keyClaimed s w = true →
            itemCheck s w .all true p it = .error 10) ∧
          (notOwn s w p i.num it.element = false → (p ≠ .write ∨ i.num ≠ 0xA001 ∨ keyClaimed s w = false) →
            itemCheck s w .all true p it = .ok i))))

/-- R432, R441, R448, R449: a frame of another version or kind is refused with 0x20, a wrong length with 0x21, a role that its path may not
claim with 0x22, a VF's request to another module with 0x27; none of them acts. A manager passes a request for an answering member on.
R438: a request above its path's limit is answered TOO_BIG. R442, R447: a request that comes while others wait is held, the ninth of a
management port is dropped and counted; a frame that is not for the port is not taken. R438, R446, R451: staging older than 1 s is dropped; a response of the target goes back to the originator of its request, or TARGET_TIMEOUT
after 100 µs for each hop; a management port leaves PLCA once its beacon has been away for 4 ms, and takes it up as the beacon comes.
Completes: gatewayResponse, targetTimeout, read, stagingExpire, plcaBeaconTimeout, plcaBeacon. -/
def Obligations.FramesGatewayAndStaging : Prop :=
  ((∀ (s : State) (path : Path) (f : Frame) (it : Item) (p : ItemOp) (c : Nat), dead s = false → pathLive s path = true →
      mgtTakes path f = true → requestsWait s = false →
      ((f.version ≠ 1 ∨ f.kind ≠ 1) ∧ c = 0x20 ∨
        f.version = 1 ∧ f.kind = 1 ∧ f.wellLen = false ∧ c = 0x21 ∨
        f.version = 1 ∧ f.kind = 1 ∧ f.wellLen = true ∧ claimed s path f = none ∧ c = 0x22 ∨
        f.version = 1 ∧ f.kind = 1 ∧ f.wellLen = true ∧ (claimed s path f).isSome = true ∧ isLocal s f = false ∧ (∃ n, path = .vf n) ∧ c = 0x27) →
      ∃ t, exec (match p with | .read => .read path f it | .write => .write path f it | .describe => .describe path f it) s = .next t ∧
        t.dict.answer.frame = c ∧ t.dict.params = s.dict.params ∧ OnlyChanges [.host, .links, .dict, .stat, .out] s t) ∧
    (∀ (s : State) (path : Path) (f : Frame) (it : Item) (p : ItemOp), dead s = false → pathLive s path = true → mgtTakes path f = true →
      let c : Instr := match p with | .read => .read path f it | .write => .write path f it | .describe => .describe path f it
      (requestsWait s = true → portFull s path = false →
        ∃ t, exec c s = .next t ∧ t.dict.held = s.dict.held ++ [⟨path, f, [(p, it)]⟩] ∧ OnlyChanges [.dict] s t) ∧
      (requestsWait s = true → portFull s path = true →
        ∃ t, exec c s = .next t ∧ cntB t 0x0033 0 = Nat.min (cntB s 0x0033 0 + 1) 0xFFFFFFFF ∧ t.dict.held = s.dict.held ∧
          t.dict.answer = s.dict.answer) ∧
      (requestsWait s = false → f.version = 1 → f.kind = 1 → f.wellLen = true → f.auth = false → (claimed s path f).isSome = true →
        isLocal s f = true → rspLimit path < (requestBytes f [(p, it)]).length →
        ∃ t, exec c s = .next t ∧ t.dict.answer.frame = 0x28)) ∧
    (∀ (s : State) (path : Path) (f : Frame) (it : Item) (p : ItemOp), (pathLive s path = false ∨ mgtTakes path f = false) →
      exec (match p with | .read => .read path f it | .write => .write path f it | .describe => .describe path f it) s = .next s) ∧
    (∀ (s : State) (path : Path) (f : Frame) (it : Item) (e d h : Nat), dead s = false → pathLive s path = true → mgtTakes path f = true →
      requestsWait s = false → f.version = 1 → f.kind = 1 → (forwardBytes f h [(.read, it)]).length ≤ 1500 →
      f.wellLen = true → (claimed s path f).isSome = true → isLocal s f = false → (∀ n, path ≠ .vf n) → f.target ≠ 0xFFFF →
      gatewayTo s f = some (e, d, h) → s.dict.forwarded.length < 16 →
      ∃ t x, exec (.read path f it) s = .next t ∧ t.dict.forwarded = s.dict.forwarded ++ [x] ∧ x.request = s.dict.nextRequest ∧ x.member = e ∧
        x.hops = h ∧ x.frame = f ∧ t.dict.nextRequest = s.dict.nextRequest + 1)) ∧
  ((∀ (s : State) (w : Who) (x : Staging), x ∈ s.dict.staging → x.who = w → x.at_ + 1000000000 ≤ s.orbit.refNs →
      ∃ t, exec (.stagingExpire w) s = .next t ∧ (∀ y ∈ t.dict.staging, y.who ≠ w) ∧ OnlyChanges [.dict] s t) ∧
    (∀ (s : State) (n : Nat) (b : Bytes) (x : Forwarded), dead s = false → (s.dict.forwarded.find? fun x => x.request == n) = some x →
      (∃ t, exec (.gatewayResponse n b) s = .next t ∧ (∀ y ∈ t.dict.forwarded, y.request ≠ n) ∧
        (∀ p, x.origin = .mgt p → Out.dictFrame x.origin (mgtFrame p x.frame b) ∈ t.out) ∧
        (∀ p, x.origin = .link p → ∃ q, Out.dictFrame (.link q) b ∈ t.out) ∧
        (x.mailbox = true → (x.origin = .pf ∨ ∃ n, x.origin = .vf n) → (getFn s (pathFn x.origin)).mbx = .busy → (getFn t (pathFn x.origin)).rspBuf = b)) ∧
      (x.sentAt + 100000 * x.hops ≤ s.orbit.refNs →
        ∃ t, exec (.targetTimeout n) s = .next t ∧ (∀ y ∈ t.dict.forwarded, y.request ≠ n) ∧ t.dict.answer.frame = 0x26)) ∧
    (∀ (s : State) (p : Nat), plcaPort s p = true →
      (tget s.dict.plcaAt 0 p + 4000000 ≤ s.orbit.refNs →
        ∃ t, exec (.plcaBeaconTimeout p) s = .next t ∧ p ∈ t.dict.csma ∧ OnlyChanges [.dict] s t) ∧
      (s.orbit.refNs < tget s.dict.plcaAt 0 p + 4000000 → exec (.plcaBeaconTimeout p) s = .next s) ∧
      ∃ t, exec (.plcaBeacon p) s = .next t ∧ p ∉ t.dict.csma ∧ tget t.dict.plcaAt 0 p = s.orbit.refNs ∧ OnlyChanges [.dict] s t))

/-- R456, R464, R470, R471: an input above 62.0 V, a rail that fails and a leak stop a module that starts up or runs, and record their
reason; so does a die at or above 115 °C, whose share and event come first (R462). Nothing is left that could run or read a key, every moon is FREE, and FAULT_N is
asserted. A failed rail also deasserts PWR_GOOD. In Fault-Stop a later cause changes no reason. R20, R469, R471: the first failed bridge
goes into detour with Service-Requested bit 3, a second one ends in Fault-Stop with reason 6.
Completes: inputOv, regulator, thermalEvaluate, leak, bridgeFail. -/
def Obligations.FaultStopsEraseAndStop : Prop :=
  ((∀ s : State, (s.power.phase = .up ∨ s.power.phase = .boot) → ∃ t, exec .inputOv s = .next t ∧ StoppedFor 1 s t) ∧
    (∀ (s : State) (rail : Nat), (s.power.phase = .up ∨ s.power.phase = .boot) →
      ∃ t, exec (.regulator rail) s = .next t ∧ StoppedFor 2 s t ∧ t.power.pwrGood = false ∧ t.power.failedRail = some rail) ∧
    (∀ s : State, (s.power.phase = .up ∨ s.power.phase = .boot) →
      ∃ t, exec .leak s = .next t ∧ StoppedFor 3 s t ∧ t.power.leak = true) ∧
    (∀ (s : State) (die : Nat) (c : Int), (s.power.phase = .up ∨ s.power.phase = .boot) → die < 4 → 115000 ≤ c →
      ∃ t, exec (.thermalEvaluate die c) s = .next t ∧ StoppedFor 4 s t ∧
        (Machine.Num.le (Machine.Num.mul (num32 (param s 0x1010 0)) (Machine.Num.ofInt 1000)) (Machine.Num.ofInt c) = true →
          tget t.power.thermalShare 0 die = Nat.min 64 (tget s.power.thermalShare 0 die + 1) ∧ die ∈ t.power.hotDies)) ∧
    (∀ (s : State) (rail : Nat), s.power.phase = .faultStop →
      exec .inputOv s = .next s ∧ (∃ t, exec (.regulator rail) s = .next t ∧ t.power.faultReason = s.power.faultReason) ∧
        ∃ t, exec .leak s = .next t ∧ t.power.faultReason = s.power.faultReason)) ∧
  ((∀ (s : State) (b : Nat), isUp s = true → b < 6 → (∀ e ∈ s.cores.bridges, e.2 = .full) →
      ∃ t, exec (.bridgeFail b) s = .next t ∧ tget t.cores.bridges .full b = .detour ∧ t.power.svcReason.toNat.testBit 3 = true ∧
        t.power.phase = .up) ∧
    (∀ (s : State) (b : Nat), isUp s = true → b < 6 → tget s.cores.bridges .full b = .full → (∃ e ∈ s.cores.bridges, e.2 ≠ .full) →
      ∃ t, exec (.bridgeFail b) s = .next t ∧ t.power.phase = .faultStop ∧ t.power.faultReason = 6 ∧ t.power.faultPin = true))

/-- R457, R465, R466, R489, R492: a power-fail stop leaves flash and fuses alone, everything else as after reset, with the open ledger
totals committed. On power, and again once the rails have rested, a module whose journal has nothing to replay and whose checks pass
reaches Ready, unless a die presents no octet, which is Fault-Stop; a hot inlet holds it at step 4, a leak there stops it, a leak before
step 3 puts it into Fault-Stop before it serves anything, and without a firmware bank that verifies it halts at step 3 with FAULT_N asserted, where bank A takes a recovery
image. Without power the dictionary answers nothing and changes nothing: a write, a read and a reading row leave the state as it is (the
model's choice, log entry 1).
Completes: startUp, powerFailDetect, recoveryImage, powerFailRestart. -/
def Obligations.PowerFailsAndStartUps : Prop :=
  ((∀ s : State, s.power.phase ≠ .off →
      ∃ t, exec .powerFailDetect s = .next t ∧ t.power.phase = .off ∧ t.power.railsOffAt = some 0 ∧ t.mem = State.reset.mem ∧
        t.cores = State.reset.cores ∧ t.tasks = State.reset.tasks ∧ t.moons = [] ∧ t.sec.operatorKeys = s.sec.operatorKeys ∧
        t.fw.banks = s.fw.banks ∧ t.journal.valid = s.journal.valid ∧
        (s.journal.valid = true → ∃ r ∈ t.journal.committed, r.payload = .ledgerSnap (openTotals s))) ∧
    (∀ (s : State) (f : BootFacts) (c : Instr), startsUp s f c → f.leakEarly = false → s.journal.valid = true → f.journalOk = true →
      f.torn = none → s.journal.committed = [] → (getBank s 0).image = [] → f.bankAOk = true →
      (f.leak = true → ∃ t, exec c s = .next t ∧ t.power.phase = .faultStop ∧ t.power.faultReason = 3 ∧ t.power.faultPin = true) ∧
      (f.leak = false → inletHot f.coolantMilli = true →
        ∃ t, exec c s = .next t ∧ t.power.phase = .boot ∧ t.power.bootStep = 4 ∧ t.power.heldFacts = some f) ∧
      (f.leak = false → inletHot f.coolantMilli = false → f.stackFails = [] → narrowBridges f = [] → (∃ d ∈ f.entropyOk, d < 4) →
        ∃ t, exec c s = .next t ∧
          ((t.power.phase = .up ∧ t.power.bootStep = 11 ∧ t.power.credit = 800000000) ∨
            (t.power.phase = .faultStop ∧ t.power.faultReason = 9)))) ∧
    (∀ (s : State) (f : BootFacts), s.power.phase = .off → f.leakEarly = false → s.journal.valid = true → f.journalOk = true →
      f.torn = none → s.journal.committed = [] → (getBank s 0).image = [] → f.bankAOk = true →
      f.leak = false → inletHot f.coolantMilli = false → f.stackFails = [] → narrowBridges f = [] → (∃ d ∈ f.entropyOk, d < 4) →
      let runs : State → Prop := fun t =>
        (t.power.phase = .up ∧ t.power.bootStep = 11 ∧ t.power.credit = 800000000) ∨ (t.power.phase = .faultStop ∧ t.power.faultReason = 9)
      (railsRested s = true → ∃ t, exec (.startUp f) s = .next t ∧ runs t) ∧
      ∀ n, s.power.railsOffAt = some n → 100000000 ≤ n → ∃ t, exec (.powerFailRestart f) s = .next t ∧ runs t) ∧
    (∀ (s : State) (f : BootFacts) (c : Instr), startsUp s f c → f.leakEarly = true →
      ∃ t, exec c s = .next t ∧ t.power.phase = .faultStop ∧ t.power.leak = true ∧ t.power.faultReason = 3 ∧ t.power.bootStep = 2 ∧
        t.power.faultPin = true) ∧
    (∀ (s : State) (f : BootFacts) (c : Instr), startsUp s f c → f.leakEarly = false → s.journal.valid = false →
      (getBank s 0).image = [] → (getBank s 1).image = [] → f.bankAOk = false → f.bankBOk = false →
      ∃ t, exec c s = .next t ∧ t.power.phase = .boot ∧ t.power.bootStep = 3 ∧ t.power.bootHalt = true ∧ t.power.faultPin = true) ∧
    (∀ (s : State) (f : BootFacts) (image : Bytes), s.power.heldFacts = some f → s.power.bootHalt = true → s.sec.debug ≠ .locked →
      image ≠ [] → image.length ≤ 33554432 →
      ∃ t, exec (.recoveryImage image) s = .next t ∧ getBank t 0 = bankOf image (verifyImage s image == 0) ∧
        (verifyImage s image = 0 → t.fw.running = 0 ∧ t.power.bootHalt = false) ∧
        (verifyImage s image ≠ 0 → t.power = s.power))) ∧
  (∀ (s : State) (w : Who) (path : Path) (f : Frame) (i : Item) (n : Nat), s.power.phase = .off →
      exec (.read path f i) s = .next s ∧ exec (.write path f i) s = .next s ∧ exec (.describe path f i) s = .next s ∧
      exec (.ledgerRead w n) s = .next s ∧ exec (.drain w) s = .next s ∧ exec .idcode s = .next s)

/-- R456, R459, R461 to R463, R468, R474: the input's bands, the power controller's credit and share without and with a droop ceiling, the
thermal share's steps between 0 and 64, the coolant's readings, and Drain. In Boot and Fault-Stop the controller only measures. A
sample beyond a band's far limit leaves the band, so that its next entry raises its event again (R456).
Completes: inputHigh, inputLow, powerControlUpdate, thermalEvaluate, coolantRead, drain, undrain. -/
def Obligations.PowerAndHeatAreControlled : Prop :=  (∀ (s : State) (mv : Nat), isUp s = true → 60000 < mv → mv ≤ 62000 →
    ∃ t, exec (.inputHigh mv) s = .next t ∧ t.power = { s.power with band := .high }) ∧
  (∀ (s : State) (mv : Nat), isUp s = true → 44000 ≤ mv → mv < 46000 →
    ∃ t, exec (.inputLow mv) s = .next t ∧ t.power = { s.power with band := .low }) ∧
  (∀ (s : State) (mv : Nat), isUp s = true →
    (62000 < mv → exec (.inputHigh mv) s = .next (modPower s fun p => { p with band := .over })) ∧
    (mv < 44000 → exec (.inputLow mv) s = .next (modPower s fun p => { p with band := .under })) ∧
    (60000 < mv → mv ≤ 62000 → s.power.band ≠ .high →
      exec (.inputHigh mv) s = .next (raisePf (modPower s fun p => { p with band := .high }) 0x0103 [milliF32 mv])) ∧
    (44000 ≤ mv → mv < 46000 → s.power.band ≠ .low →
      exec (.inputLow mv) s = .next (raisePf (modPower s fun p => { p with band := .low }) 0x0102 [milliF32 mv]))) ∧
  (∀ (s : State) (x : PowerSample), isUp s = true → x.loadStep = none → impedance s.power = none →
    ∃ t, exec (.powerControlUpdate x) s = .next t ∧
      t.power.credit = min 800000000 (s.power.credit + min ((1000 * param s 0x1000 0 : Nat) : Int) 2800000 - x.p10) ∧
      t.power.powerShare = nextShare s.power.powerShare x.p100
        (if 0 < t.power.credit then 2800000 else min ((1000 * param s 0x1000 0 : Nat) : Int) 2800000)) ∧
  (∀ (s : State) (x : PowerSample) (c : Int), isUp s = true → x.loadStep = none → droopMw s.power x.milliVolt x.milliAmp = some c →
    ∃ t, exec (.powerControlUpdate x) s = .next t ∧
      t.power.credit = min 800000000 (s.power.credit + min ((1000 * param s 0x1000 0 : Nat) : Int) c - x.p10) ∧
      t.power.powerShare = nextShare s.power.powerShare x.p100
        (if 0 < t.power.credit then min 2800000 c else min ((1000 * param s 0x1000 0 : Nat) : Int) c)) ∧
  (∀ (s : State) (x : PowerSample), isUp s = false → dead s = false →
    ∃ t, exec (.powerControlUpdate x) s = .next t ∧ t.power.credit = s.power.credit ∧ t.power.powerShare = s.power.powerShare ∧
      param t 0x1100 0 = milliF32 x.milliVolt ∧ param t 0x1101 0 = milliF32 x.milliAmp) ∧
  (∀ (s : State) (die : Nat) (c : Int) (limit : Machine.Num), isUp s = true → die < 4 → c < 115000 →
    limit = Machine.Num.mul (num32 (param s 0x1010 0)) (Machine.Num.ofInt 1000) →
    ∃ t, exec (.thermalEvaluate die c) s = .next t ∧
      (Machine.Num.le limit (Machine.Num.ofInt c) = true →
        tget t.power.thermalShare 0 die = Nat.min 64 (tget s.power.thermalShare 0 die + 1) ∧ die ∈ t.power.hotDies) ∧
      (Machine.Num.le limit (Machine.Num.ofInt c) = false → Machine.Num.lt (Machine.Num.ofInt c) (Machine.Num.add limit (Machine.Num.ofInt (-2000))) = true →
        tget t.power.thermalShare 0 die = tget s.power.thermalShare 0 die - 1) ∧
      (Machine.Num.le limit (Machine.Num.ofInt c) = false → Machine.Num.lt (Machine.Num.ofInt c) (Machine.Num.add limit (Machine.Num.ofInt (-2000))) = false →
        t.power.thermalShare = s.power.thermalShare) ∧
      ∀ d, d ≠ die → tget t.power.thermalShare 0 d = tget s.power.thermalShare 0 d) ∧
  (∀ (s : State) (a b : Int), (isUp s = true ∨ (s.power.phase = .faultStop ∧ dead s = false)) → -20000 ≤ a → a ≤ 120000 → -20000 ≤ b → b ≤ 120000 →
    ∃ t, exec (.coolantRead a b) s = .next t ∧ param t 0x1120 0 = milliF32 a ∧ param t 0x1121 0 = milliF32 b ∧ param t 0x1122 0 = 3 ∧
      t.power.coolantHot = Machine.Num.lt (Machine.Num.mul (num32 (param s 0x1011 0)) (Machine.Num.ofInt 1000)) (Machine.Num.ofInt a)) ∧
  (∀ (s : State) (w : Who), writeStatus s w 0x1001 0 = 0 →
    (∃ t, exec (.drain w) s = .next t ∧ t.dict.answer.status = 0 ∧ t.power = { s.power with draining := true }) ∧
    ∃ t, exec (.undrain w) s = .next t ∧ t.dict.answer.status = 0 ∧ t.power = { s.power with draining := false })

/-- R478, R480 to R482, R484, R486, R494: the open page is programmed 100 ms after its first record, and its records commit when the
program has been read back, neither while firmware is swapped (R489); a failed block is replaced from SPARE, and without one the module stops with reason JOURNAL. A trigger commits
COMPACT_BEGIN unless a compaction runs, and waits while firmware is swapped; COMPACT_AT returns to 0; COMPACT_END makes the other region
active with the next epoch. RESET acts in Fault-Stop JOURNAL alone. SVC_CLEAR clears LINK_FAILED once no port is FAILED, and no other bit.
Completes: counters, journalPageTimer, journalPageProgrammed, compactAt, compactNow, journalReset, compactionDone, svcClear. -/
def Obligations.JournalCommitsAndCompacts : Prop :=  (∀ (s : State) (r : JRec) (l : List JRec), dead s = false → s.fw.swap = none → s.journal.openPage = r :: l →
    r.time + 100000000 ≤ (if r.timeLocal then s.orbit.refNs else s.orbit.now) →
    ∃ t, exec .journalPageTimer s = .next t ∧ t.journal.programming = s.journal.programming ++ r :: l ∧ t.journal.openPage = [] ∧
      t.journal.committed = s.journal.committed ∧ OnlyChanges [.journal] s t) ∧
  (∀ (s : State) (bad : Bool), dead s = false → s.fw.swap = none → s.journal.programming ≠ [] → 4 * s.journal.pages < 3 * regionPages →
    (bad = true → s.journal.spare ≠ 0) →
    ∃ t, exec (.journalPageProgrammed bad) s = .next t ∧ t.journal.committed = s.journal.committed ++ s.journal.programming ∧
      t.journal.programming = [] ∧ t.journal.spare = s.journal.spare - (if bad then 1 else 0)) ∧
  (∀ s : State, (s.power.phase = .up ∨ s.power.phase = .boot) → s.fw.swap = none → s.journal.programming ≠ [] → s.journal.spare = 0 →
    ∃ t, exec (.journalPageProgrammed true) s = .next t ∧ StoppedFor 10 s t) ∧
  (∀ s : State, isUp s = true → s.journal.programming ≠ [] → s.journal.valid = true → s.journal.compacting = false → s.fw.swap = none →
    3 * regionPages ≤ 4 * s.journal.pages →
    ∃ t, exec (.journalPageProgrammed false) s = .next t ∧ t.journal.compacting = true) ∧
  (∀ (s : State) (w : Who), writeStatus s w 0xB105 0 = 0 → s.power.phase ≠ .faultStop → s.journal.compacting = false → s.fw.swap = none →
    ∃ t, exec (.compactNow w) s = .next t ∧ t.dict.answer.status = 0 ∧ t.journal.compacting = true ∧ t.journal.s0 = s.journal.seq ∧
      ∃ r ∈ t.journal.committed, r.seq = s.journal.seq ∧ r.payload = .compactBegin (s.journal.epoch.toNat + 1) (1 - s.journal.active)) ∧
  (∀ (s : State) (w : Who), writeStatus s w 0xB105 0 = 0 → s.power.phase ≠ .faultStop → s.journal.compacting = true →
    ∃ t, exec (.compactNow w) s = .next t ∧ t.dict.answer.status = 0 ∧ t.journal = s.journal) ∧
  (∀ s : State, isUp s = true → param s 0xB104 0 ≠ 0 → param s 0xB104 0 ≤ s.orbit.now → s.orbit.state ≠ .unlocked →
    s.journal.compacting = false → earlierDue s 9 (param s 0xB104 0) = false →
    ∃ t, exec .compactAt s = .next t ∧ param t 0xB104 0 = 0 ∧
      (if s.fw.swap.isSome then t.journal.compactWaits = true else t.journal.compacting = true)) ∧
  (∀ s : State, dead s = false → s.fw.swap = none → s.journal.compacting = true →
    ∃ t, exec .compactionDone s = .next t ∧ t.journal.compacting = false ∧ t.journal.active = 1 - s.journal.active ∧
      t.journal.epoch = s.journal.epoch + 1 ∧
      ∃ r n k, t.journal.committed.getLast? = some r ∧ r.payload = .compactEnd (s.journal.epoch.toNat + 1) s.journal.s0.toNat n k) ∧
  (∀ (s : State) (w : Who), writeStatus s w 0xB105 0 = 0 →
    ((s.power.phase = .faultStop ∧ s.power.faultReason = 10) →
      ∃ t, exec (.journalReset w) s = .next t ∧ t.dict.answer.status = 0 ∧ t.journal.valid = true ∧ t.journal.wasReset = true ∧
        t.journal.committed = [] ∧ t.journal.epoch = 0 ∧ t.journal.active = 0 ∧ t.power.phase = .faultStop) ∧
    (¬(s.power.phase = .faultStop ∧ s.power.faultReason = 10) →
      ∃ t, exec (.journalReset w) s = .next t ∧ t.dict.answer.status = 7 ∧ t.journal = s.journal)) ∧
  (∀ (s : State) (w : Who) (mask : W32), writeStatus s w 0xB140 0 = 0 →
    (mask = 4 → (∀ e ∈ s.links.ports, e.2.phase ≠ .failed) →
      ∃ t, exec (.svcClear w mask) s = .next t ∧ t.dict.answer.status = 0 ∧ t.power.svcReason.toNat.testBit 2 = false ∧
        ∀ b, b ≠ 2 → t.power.svcReason.toNat.testBit b = s.power.svcReason.toNat.testBit b) ∧
    ((∃ b, b < 5 ∧ b ≠ 2 ∧ mask.toNat.testBit b = true ∧ s.power.svcReason.toNat.testBit b = true) →
      ∃ t, exec (.svcClear w mask) s = .next t ∧ t.dict.answer.status = 7 ∧ t.power = s.power)) ∧
  (∀ s : State, isUp s = true → s.journal.countAt + 1000000000 ≤ s.orbit.refNs →
    ∃ t, exec .counters s = .next t ∧ t.journal.committed = s.journal.committed ∧ t.journal.countAt = s.orbit.refNs ∧
      (changedCounters s = [] → t = { s with journal := { s.journal with countAt := s.orbit.refNs } }))

/-- R488 to R491, R498, R500: STAGE empties the bank that is not running and what it stages is verified; ACTIVATE begins a swap to a VALID
bank, unless a compaction runs; COMMIT, and the end of the trial period, raise FUSED_SVN to the running bank's version, make a bank below
it INVALID and end the trial; REVERT, and the watchdog, swap back. A swap that is verified runs the other bank, one that is not keeps the
old with FELL_BACK; either ends every session. Microcode reloads run until STOP. A channel that is due takes its window, one at a time in a
stack.
Completes: stage, fwStaged, activate, revert, fwTrialExpire, fwWatchdog, fwSwapDone, reloadStale, stop, hbmRecalWindow, hbmRecalDone. -/
def Obligations.FirmwareBanksSwap : Prop :=  (∀ (s : State) (w : Who) (c : FwCmd), writeStatus s w 0xB110 0 = 0 →
    (1 ≤ c.length → c.length ≤ 33554432 → s.fw.trial = false → s.fw.staging = none →
      ∃ t, exec (.stage w c) s = .next t ∧ t.dict.answer.status = 0 ∧ t.fw.staging = some c.length ∧ t.fw.other = 1 ∧ t.fw.code = 0 ∧
        getBank t (1 - s.fw.running) = Bank.reset ∧ t.fw.running = s.fw.running) ∧
    (s.journal.compacting = false → s.fw.other = 2 → s.fw.trial = false →
      ∃ t, exec (.activate w c) s = .next t ∧ t.dict.answer.status = 0 ∧ t.fw.swap = some (1 - s.fw.running, false) ∧ t.fw.code = 0) ∧
    (s.journal.compacting = true →
      ∃ t, exec (.activate w c) s = .next t ∧ t.fw = { s.fw with lastOp := 2, code := 5 }) ∧
    (s.journal.compacting = false → (s.fw.other ≠ 2 ∨ s.fw.trial = true) →
      ∃ t, exec (.activate w c) s = .next t ∧ t.fw = { s.fw with lastOp := 2, code := 2 }) ∧
    (s.fw.trial = true →
      ∃ t, exec (.revert w c) s = .next t ∧ t.fw.swap = some (1 - s.fw.running, false) ∧ t.fw.code = 0) ∧
    (s.fw.trial = false →
      (∃ t, exec (.commit w c) s = .next t ∧ t.fw = { s.fw with lastOp := 3, code := 2 }) ∧
      ∃ t, exec (.revert w c) s = .next t ∧ t.fw = { s.fw with lastOp := 4, code := 2 })) ∧
  (∀ (s : State) (image : Bytes) (status n : Nat), dead s = false → s.fw.staging = some n →
    ∃ t, exec (.fwStaged image status) s = .next t ∧ t.fw.staging = none ∧
      (status ≠ 0 → t.fw.other = 3 ∧ t.fw.code = 3) ∧
      (status = 0 → getBank t (1 - s.fw.running) = bankOf (slice image 0 n) (verifyImage s (slice image 0 n) == 0) ∧
        (t.fw.other, t.fw.code) = if verifyImage s (slice image 0 n) = 0 then (2, 0) else (3, 4))) ∧
  (∀ s : State, fwServes s = true → s.fw.trial = true → s.fw.swap = none →
    (s.fw.trialAt + 1000000000 * param s 0xB113 0 ≤ s.orbit.refNs →
      ∃ t, exec .fwTrialExpire s = .next t ∧ t.fw.trial = false ∧ t.fw.running = s.fw.running ∧
        t.fw.fusedSvn = Nat.max s.fw.fusedSvn (getBank s s.fw.running).svn) ∧
    ∃ t, exec .fwWatchdog s = .next t ∧ t.fw.swap = some (1 - s.fw.running, true)) ∧
  (∀ (s : State) (b k : Nat) (auto ok : Bool), isUp s = true → s.fw.swap = some (k, auto) →
    ((ok = true ∧ ((getBank s k).image = [] ∨ verifyImage s (getBank s k).image = 0)) →
      ∃ t, exec (.fwSwapDone ok) s = .next t ∧ t.fw.running = k ∧ t.fw.trial = (!s.fw.trial) ∧ t.fw.fellBack = auto ∧ t.fw.swap = none ∧
        t.sec.proven = none ∧ t.sec.provisional = none ∧ t.sec.offers = [] ∧ getBank t b = getBank s b) ∧
    (¬(ok = true ∧ ((getBank s k).image = [] ∨ verifyImage s (getBank s k).image = 0)) →
      ∃ t, exec (.fwSwapDone ok) s = .next t ∧ t.fw.running = s.fw.running ∧ t.fw.fellBack = true ∧ t.fw.swap = none ∧
        t.sec.proven = none ∧ t.sec.provisional = none)) ∧
  (∀ (s : State) (w : Who), writeStatus s w 0xB120 0 = 0 →
    (∃ t, exec (.reloadStale w) s = .next t ∧ t.dict.answer.status = 0 ∧ t.cores = { s.cores with reloading := true }) ∧
    ∃ t, exec (.stop w) s = .next t ∧ t.dict.answer.status = 0 ∧ t.cores = { s.cores with reloading := false }) ∧
  (∀ (s : State) (stack ch : Nat), isUp s = true → stack < 8 → ch < 32 → bandOf s stack ≠ 4 →
    (tfind s.mem.recal stack = none →
      tget s.mem.recalAt 0 (32 * stack + ch) + param s 0xB130 0 * 1000000000 ≤ s.orbit.refNs →
      ∃ t, exec (.hbmRecalWindow stack ch) s = .next t ∧ tfind t.mem.recal stack = some ch ∧
        tget t.mem.recalAt 0 (32 * stack + ch) = s.orbit.refNs) ∧
    ((tfind s.mem.recal stack).isSome = true → exec (.hbmRecalWindow stack ch) s = .next s)) ∧
  (∀ (s : State) (stack ch : Nat) (l : List Nat), isUp s = true → tfind s.mem.recal stack = some ch →
    ∃ t, exec (.hbmRecalDone stack l) s = .next t ∧ tfind t.mem.recal stack = none ∧
      (l = [] → ∀ e ∈ awaitingHard s stack ch, (getRow t e.1).hard = true))

/-- R500: at COMMIT of a bank whose SVN exceeds FUSED_SVN, written or taken at the end of the trial period, the module blows fuses up to
that SVN and raises SVN_ADVANCED; TRIAL is cleared; a VALID bank whose SVN falls below the new FUSED_SVN becomes INVALID.
Completes: commit, fwTrialExpire. -/
def Obligations.CommitAdvancesTheFuses : Prop :=  ∀ s : State, s.fw.trial = true →
    let commits : State → Prop := fun t => t.fw.trial = false ∧ t.fw.running = s.fw.running ∧
      (s.fw.fusedSvn < (getBank s s.fw.running).svn →
        t.fw.fusedSvn = (getBank s s.fw.running).svn ∧ FirstEvent s t 0x0A05 [(getBank s s.fw.running).svn] ∧
        (s.fw.other = 2 → (getBank s (1 - s.fw.running)).svn < (getBank s s.fw.running).svn →
          t.fw.other = 3 ∧ (getBank t (1 - s.fw.running)).valid = false)) ∧
      (¬ s.fw.fusedSvn < (getBank s s.fw.running).svn → t.fw.fusedSvn = s.fw.fusedSvn ∧ t.fw.other = s.fw.other) ∧
      ∀ b, b ≠ 1 - s.fw.running → getBank t b = getBank s b
    (∀ w f, writeStatus s w 0xB110 0 = 0 → ∃ t, exec (.commit w f) s = .next t ∧ commits t) ∧
    (fwServes s = true → s.fw.swap = none → s.fw.trialAt + 1000000000 * param s 0xB113 0 ≤ s.orbit.refNs →
      ∃ t, exec .fwTrialExpire s = .next t ∧ commits t)

/-- R502 to R508: a claim of the operator key fuses the digest into the next of four slots and ends every session, from another role only
while no slot is written; a fifth write and zeros fail. A read of an offer makes a new one in place of a live one of its kind, for 60 s. A
session opens on the live session offer with a provisional key, which a signature by the operator key proves; a failed proof ends it.
Completes: operatorKeyDigest, sessionOffer, keyOffer, offerExpire, sessionOpen, sessionProve. -/
def Obligations.OperatorKeyAndSessions : Prop :=  (∀ (s : State) (w : Who) (d : Bytes), writeStatus s w 0xA001 0 = 0 → d.length = 64 →
    ((w.role = .operatorKey ∨ s.sec.operatorKeys = []) → allZero d = false → s.sec.operatorKeys.length < 4 →
      ∃ t, exec (.operatorKeyDigest w d) s = .next t ∧ t.dict.answer.status = 0 ∧ t.sec.operatorKeys = s.sec.operatorKeys ++ [d] ∧
        operatorDigest t = some d ∧ t.sec.provisional = none ∧ t.sec.proven = none) ∧
    ((w.role = .operatorKey ∨ s.sec.operatorKeys = []) → (allZero d = true ∨ 4 ≤ s.sec.operatorKeys.length) →
      ∃ t, exec (.operatorKeyDigest w d) s = .next t ∧ t.dict.answer.status = 7 ∧ t.sec = s.sec) ∧
    (w.role ≠ .operatorKey → s.sec.operatorKeys ≠ [] →
      ∃ t, exec (.operatorKeyDigest w d) s = .next t ∧ t.dict.answer.status = 10 ∧ t.sec = s.sec)) ∧
  (∀ (s : State) (w : Who), readStatus s w 0xA002 0 = 0 →
    ∃ t o, exec (.sessionOffer w) s = .next t ∧ t.dict.answer.status = 0 ∧ t.dict.answer.value.length = 6227 ∧
      t.sec.offers = (s.sec.offers.filter fun x => x.moon != 0xFF) ++ [o] ∧ o.moon = 0xFF ∧ o.id ≠ 0 ∧ o.at_ = s.orbit.refNs ∧
      field t.dict.answer.value 0 8 = o.id) ∧
  (∀ (s : State) (w : Who) (m0 m : Nat), m = effMoon w m0 → readStatus s w 0xA030 m = 0 →
    ∃ t o, exec (.keyOffer w m0) s = .next t ∧ t.dict.answer.status = 0 ∧ t.dict.answer.value.length = 6227 ∧
      t.sec.offers = (s.sec.offers.filter fun x => x.moon != m) ++ [o] ∧ o.moon = m ∧ o.id ≠ 0 ∧ o.at_ = s.orbit.refNs ∧
      field t.dict.answer.value 0 8 = o.id) ∧
  (∀ (s : State) (o : Offer), o ∈ s.sec.offers → o.at_ + 60000000000 ≤ s.orbit.refNs →
    ∃ t, exec (.offerExpire o.id) s = .next t ∧ t.sec.offers = (s.sec.offers.filter fun x => x.id != o.id) ∧ OnlyChanges [.sec] s t) ∧
  (∀ (s : State) (w : Who) (v : Bytes) (o : Offer), writeStatus s w 0xA003 0 = 0 → v.length = 1584 → liveOffer s 0xFF = some o →
    (field v 0 8 = o.id →
      ∃ t, exec (.sessionOpen w v) s = .next t ∧ t.dict.answer.status = 0 ∧ t.sec.proven = s.sec.proven ∧ t.dict.nonceProv = 0 ∧
        t.sec.provisional = some (Config.kmac (Config.kemDecap o.seed (v.drop 16)) (leBytes 8 o.id ++ identityBytes) 256 "VLR-SESSION",
          o.id, Config.sha3 (v.drop 16)) ∧ ∀ x ∈ t.sec.offers, x.id ≠ o.id) ∧
    (field v 0 8 ≠ o.id → ∃ t, exec (.sessionOpen w v) s = .next t ∧ t.dict.answer.status = 7 ∧ t.sec = s.sec)) ∧
  (∀ (s : State) (w : Who) (v kp ct : Bytes) (id : Nat), writeStatus s w 0xA004 0 = 0 → v.length = 7219 →
    s.sec.provisional = some (kp, id, ct) →
    ∃ t, exec (.sessionProve w v) s = .next t ∧ t.sec.provisional = none ∧
      if operatorDigest s = some (Config.sha3 (v.take 2592)) ∧
        Config.dsaVerify (v.take 2592) (Config.sha3 (ascii "VLR-PROVE" ++ leBytes 8 id ++ identityBytes ++ ct)) (v.drop 2592) = true
      then t.dict.answer.status = 0 ∧ t.sec.proven = some kp
      else t.dict.answer.status = 7 ∧ t.sec.proven = s.sec.proven)

/-- R509, R511 to R513, R515: a report carries the reader's nonce. A delivery is judged by the first line of R512 that applies: a moon that
is not FREE, an offer that is not live, another moon's number, an unwrap that fails, a weak key; an accepted one loads the slot. GENERATE
loads a key of two different halves from entropy (log 4), ERASE empties the slot and ends its offer. A debug challenge serves one response; an accepted one unlocks its
scope, a refused one holds challenges back for 1 s.
Completes: attestReport, keyLoad, generate, erase, dbgChallenge, dbgResponse. -/
def Obligations.KeysReportsAndDebug : Prop :=  (∀ (s : State) (w : Who) (m0 m : Nat), m = effMoon w m0 → readStatus s w 0xA021 m = 0 →
    (attestNonce s w m).length = 32 →
    ∃ t, exec (.attestReport w m0) s = .next t ∧ t.dict.answer.status = 0 ∧ t.dict.answer.value = attestReport w m s ∧
      slice t.dict.answer.value 8 8 = identityBytes ∧ slice t.dict.answer.value 0x20 32 = attestNonce s w m ∧ t.sec = s.sec) ∧
  (∀ (s : State) (w : Who) (m0 m : Nat) (v : Bytes), m = effMoon w m0 → writeStatus s w 0xA031 m = 0 → v.length = 1656 →
    ∃ t, exec (.keyLoad w m0 v) s = .next t ∧ (keySlot t m).key.isSome = ((keySlot s m).key.isSome || t.dict.answer.status == 0) ∧
      ((getMoon s m).state ≠ .free → t.dict.answer.status = 8 ∧ t.sec = s.sec) ∧
      ((getMoon s m).state = .free →
        ((∀ o, liveOffer s m = some o → field v 0 8 ≠ o.id) →
          t.dict.answer.status = 7 ∧ (keySlot t m).lastError = 1 ∧ t.sec.offers = s.sec.offers) ∧
        ∀ o, liveOffer s m = some o → field v 0 8 = o.id →
          (∀ x ∈ t.sec.offers, x.id ≠ o.id) ∧
          (field v 8 1 ≠ m → t.dict.answer.status = 7 ∧ (keySlot t m).lastError = 2) ∧
          (field v 8 1 = m → Config.kwUnwrap (moonKek o m v) (v.drop 0x630) = none →
            t.dict.answer.status = 7 ∧ (keySlot t m).lastError = 3) ∧
          ∀ key, field v 8 1 = m → Config.kwUnwrap (moonKek o m v) (v.drop 0x630) = some key →
            (key.take 32 = (key.drop 32).take 32 → t.dict.answer.status = 7 ∧ (keySlot t m).lastError = 4) ∧
            (key.take 32 ≠ (key.drop 32).take 32 → t.dict.answer.status = 0 ∧ keySlot t m = ⟨some key, false, 0⟩))) ∧
  (∀ (s : State) (w : Who) (m0 m : Nat), m = effMoon w m0 → writeStatus s w 0xA032 m = 0 →
    ((getMoon s m).state = .free →
      (∃ t, exec (.generate w m0) s = .next t ∧ t.dict.answer.status = 0 ∧
        keySlot t m = ⟨some (twoHalves (leBytes 64 (Config.entropy s.free))), true, 0⟩ ∧ t.free = s.free + 1) ∧
      ∃ t, exec (.erase w m0) s = .next t ∧ t.dict.answer.status = 0 ∧ keySlot t m = KeySlot.reset ∧
        ∀ o, liveOffer s m = some o → ∀ x ∈ t.sec.offers, x.id ≠ o.id) ∧
    ((getMoon s m).state ≠ .free →
      (∃ t, exec (.generate w m0) s = .next t ∧ t.dict.answer.status = 8 ∧ t.sec = s.sec) ∧
      ∃ t, exec (.erase w m0) s = .next t ∧ t.dict.answer.status = 8 ∧ t.sec = s.sec)) ∧
  (∀ s : State, dead s = false →
    ((∀ n, s.sec.refusedAt = some n → n + 1000000000 ≤ s.orbit.refNs) →
      ∃ t, exec .dbgChallenge s = .next t ∧ t.sec.challenge = some (leBytes 32 (Config.entropy s.free)) ∧
        t.jtag.dr = leNat (identityBytes ++ leBytes 32 (Config.entropy s.free)) ∧ t.free = s.free + 1) ∧
    ((∃ n, s.sec.refusedAt = some n ∧ s.orbit.refNs < n + 1000000000) → exec .dbgChallenge s = .next s)) ∧
  (∀ (s : State) (v ch : Bytes) (scope : Nat), dead s = false → s.sec.challenge = some ch → scope = field v 0 1 →
    ∃ t, exec (.dbgResponse v) s = .next t ∧ t.sec.challenge = none ∧
      if v.length = 7227 ∧ scopeOk s scope = true ∧ operatorDigest s = some (Config.sha3 (slice v 8 2592)) ∧
        Config.dsaVerify (slice v 8 2592) (Config.sha3 (ascii "VLR-DEBUG" ++ identityBytes ++ ch ++ leBytes 1 scope)) (v.drop 2600) = true
      then t.sec.everUnlocked = true ∧ t.sec.refusedAt = s.sec.refusedAt ∧
        (scope = 2 → t.sec.debug = .full ∧ t.sec.moduleKey = false ∧ t.sec.proven = none ∧ t.sec.provisional = none) ∧
        (scope = 1 → s.sec.debug ≠ .full → t.sec.debug = .recovery)
      else t.sec.refusedAt = some s.orbit.refNs ∧ t.sec.debug = s.sec.debug ∧ t.sec.everUnlocked = s.sec.everUnlocked)

/-- R515, R527: BYPASS, IDCODE and SAMPLE/PRELOAD always act; IDCODE reads 0xBC640547, BYPASS 0 (the model's reading of IEEE 1149.1, log
9), a preload is kept in the cells, a reset of the TAP controller puts IDCODE in force; EXTEST drives the pins in boot halt and in
Fault-Stop, and elsewhere reads zeros and changes nothing.
Completes: extest, idcode, bypass, samplePreload, tapReset. -/
def Obligations.TestAccessPortActs : Prop :=  ∀ (s : State) (n : Nat), dead s = false →
    exec .idcode s = .next { s with jtag := { s.jtag with ir := .idcode, dr := 0xBC640547 } } ∧
    exec .bypass s = .next { s with jtag := { s.jtag with ir := .bypass, dr := 0 } } ∧
    exec .tapReset s = .next { s with jtag := { s.jtag with ir := .idcode } } ∧
    exec (.samplePreload (some n)) s = .next { s with jtag := { ir := .sample, cells := n, dr := n } } ∧
    (∃ t, exec (.samplePreload none) s = .next t ∧ t.jtag.ir = .sample ∧ t.jtag.dr = t.jtag.cells ∧ OnlyChanges [.jtag] s t) ∧
    ((s.power.bootHalt = true ∨ s.power.phase = .faultStop) →
      exec (.extest n) s = .next { s with jtag := { ir := .extest, cells := n, dr := n } }) ∧
    (s.power.bootHalt = false → s.power.phase ≠ .faultStop →
      exec (.extest n) s = .next { s with jtag := { s.jtag with dr := 0 } })
end

