-- ==== Sys2Proof/Laws/Frame.lean ====
section
/-! SUPPORT. Which parts of the state an operation may change, and what no operation ever does: the queue stays, the byte memories keep their
canonical form (R8, [3]), no fused operator key digest and no fused security version is taken back (R500, R502). -/

set_option Elab.async false

namespace Sys2Proof.Laws

open Sys2Proof.Machine

/-- The power unit is the same apart from SVC_REASON and SVC_REQ_N (R469). -/
abbrev KeepRun (p q : PowerUnit) : Prop := q = { p with svcReason := q.svcReason, svcReqPin := q.svcReqPin }

theorem KeepRun.trans {p q r : PowerUnit} (h : KeepRun p q) (g : KeepRun q r) : KeepRun p r := by
  cases p; cases q; cases r
  simp_all

/-- The core unit is the same apart from running tests, vector registers, the pool's octets and the moons of GEMM tasks,
whole and by faulty array. -/
abbrev KeepKennel (p q : CoreUnit) : Prop :=
  q = { p with testing := q.testing, vregs := q.vregs, poolNow := q.poolNow, gemmMoons := q.gemmMoons, faulty := q.faulty }

theorem KeepKennel.trans {p q r : CoreUnit} (h : KeepKennel p q) (g : KeepKennel q r) : KeepKennel p r := by
  cases p; cases q; cases r
  simp_all

/-- From `s` to `t` only parts whose bits `k` has may differ: bit 1 orbit, 2 power, 3 cores, 4 mem, 5 tasks, 6 moons, 7 serve, 8 train, 9 fetch,
10 links, 11 pack, 12 host, 13 dict, 14 stat, 15 journal, 16 fw, 17 sec, 18 jtag, 19 out, 20 free; 21 HBM bytes, 22 scratchpad bytes,
23 vector register bytes, 24 the power unit apart from SVC_REASON and its pin,
25 the core unit apart from running tests, vector registers, the pool's octets and the moons of GEMM tasks. -/
structure Fr (k : Nat) (s t : State) : Prop where
  pending : t.pending = s.pending
  orbit : k.testBit 1 = true ∨ t.orbit = s.orbit
  power : k.testBit 2 = true ∨ t.power = s.power
  cores : k.testBit 3 = true ∨ t.cores = s.cores
  mem : k.testBit 4 = true ∨ t.mem = s.mem
  tasks : k.testBit 5 = true ∨ t.tasks = s.tasks
  moons : k.testBit 6 = true ∨ t.moons = s.moons
  serve : k.testBit 7 = true ∨ t.serve = s.serve
  train : k.testBit 8 = true ∨ t.train = s.train
  fetch : k.testBit 9 = true ∨ t.fetch = s.fetch
  links : k.testBit 10 = true ∨ t.links = s.links
  pack : k.testBit 11 = true ∨ t.pack = s.pack
  host : k.testBit 12 = true ∨ t.host = s.host
  dict : k.testBit 13 = true ∨ t.dict = s.dict
  stat : k.testBit 14 = true ∨ t.stat = s.stat
  journal : k.testBit 15 = true ∨ t.journal = s.journal
  fw : k.testBit 16 = true ∨ t.fw = s.fw
  sec : k.testBit 17 = true ∨ t.sec = s.sec
  jtag : k.testBit 18 = true ∨ t.jtag = s.jtag
  out : k.testBit 19 = true ∨ t.out = s.out
  free : k.testBit 20 = true ∨ t.free = s.free
  hbm : k.testBit 21 = true ∨ t.mem.hbm = s.mem.hbm
  spm : k.testBit 22 = true ∨ t.mem.spm = s.mem.spm
  vregs : k.testBit 23 = true ∨ t.cores.vregs = s.cores.vregs
  run : k.testBit 24 = true ∨ KeepRun s.power t.power
  kennel : k.testBit 25 = true ∨ KeepKennel s.cores t.cores
  wfHbm : memWf s.mem.hbm = true → memWf t.mem.hbm = true
  wfSpm : memWf s.mem.spm = true → memWf t.mem.spm = true
  wfVregs : memWf s.cores.vregs = true → memWf t.cores.vregs = true
  keys : s.sec.operatorKeys <+: t.sec.operatorKeys
  svn : s.fw.fusedSvn ≤ t.fw.fusedSvn

theorem Fr.refl (k : Nat) (s : State) : Fr k s s :=
  ⟨rfl, Or.inr rfl, Or.inr rfl, Or.inr rfl, Or.inr rfl, Or.inr rfl, Or.inr rfl, Or.inr rfl, Or.inr rfl, Or.inr rfl, Or.inr rfl, Or.inr rfl, Or.inr rfl, Or.inr rfl, Or.inr rfl, Or.inr rfl, Or.inr rfl, Or.inr rfl, Or.inr rfl, Or.inr rfl, Or.inr rfl, Or.inr rfl, Or.inr rfl, Or.inr rfl, Or.inr rfl, Or.inr rfl, id, id, id, List.prefix_refl _, Nat.le_refl _⟩

theorem or_trans {α : Type} {b : Prop} {x y z : α} (h : b ∨ y = x) (g : b ∨ z = y) : b ∨ z = x :=
  h.elim Or.inl fun e => g.imp id fun e' => e'.trans e

theorem Fr.trans {k : Nat} {s t u : State} (h : Fr k s t) (g : Fr k t u) : Fr k s u :=
  ⟨g.pending.trans h.pending, or_trans h.orbit g.orbit, or_trans h.power g.power, or_trans h.cores g.cores, or_trans h.mem g.mem, or_trans h.tasks g.tasks, or_trans h.moons g.moons, or_trans h.serve g.serve, or_trans h.train g.train, or_trans h.fetch g.fetch, or_trans h.links g.links, or_trans h.pack g.pack, or_trans h.host g.host, or_trans h.dict g.dict, or_trans h.stat g.stat, or_trans h.journal g.journal, or_trans h.fw g.fw, or_trans h.sec g.sec, or_trans h.jtag g.jtag, or_trans h.out g.out, or_trans h.free g.free, or_trans h.hbm g.hbm, or_trans h.spm g.spm, or_trans h.vregs g.vregs,
   h.run.elim Or.inl fun e => g.run.imp id fun e' => e.trans e', h.kennel.elim Or.inl fun e => g.kennel.imp id fun e' => e.trans e',   fun w => g.wfHbm (h.wfHbm w), fun w => g.wfSpm (h.wfSpm w), fun w => g.wfVregs (h.wfVregs w), h.keys.trans g.keys, Nat.le_trans h.svn g.svn⟩

theorem bit_up {a b : Nat} (h : a ||| b = b) {i : Nat} {p : Prop} (x : a.testBit i = true ∨ p) : b.testBit i = true ∨ p :=
  x.imp (fun e => by rw [← h, Nat.testBit_or, e]; rfl) id

theorem Fr.up {a b : Nat} {s t : State} (g : Fr a s t) (h : a ||| b = b) : Fr b s t :=
  ⟨g.pending, bit_up h g.orbit, bit_up h g.power, bit_up h g.cores, bit_up h g.mem, bit_up h g.tasks, bit_up h g.moons, bit_up h g.serve, bit_up h g.train, bit_up h g.fetch, bit_up h g.links, bit_up h g.pack, bit_up h g.host, bit_up h g.dict, bit_up h g.stat, bit_up h g.journal, bit_up h g.fw, bit_up h g.sec, bit_up h g.jtag, bit_up h g.out, bit_up h g.free, bit_up h g.hbm, bit_up h g.spm, bit_up h g.vregs, bit_up h g.run, bit_up h g.kennel, g.wfHbm, g.wfSpm, g.wfVregs, g.keys, g.svn⟩

/-- After `h`, an operation that may change the parts of `a` only. -/
theorem Fr.call {a b : Nat} {s t u : State} (g : Fr a t u) (w : a ||| b = b) (h : Fr b s t) : Fr b s u := h.trans (g.up w)

/-- A record update of a state reached so far that leaves the byte memories and the fuses alone. -/
theorem Fr.lit {k : Nat} {s u : State} {x1 : OrbitUnit} {x2 : PowerUnit} {x3 : CoreUnit} {x4 : MemUnit} {x5 : TaskUnit} {x6 : (Tab Moon)} {x7 : (Tab Serve)} {x8 : (Tab Train)} {x9 : FetchUnit} {x10 : LinkUnit} {x11 : PackUnit} {x12 : HostUnit} {x13 : DictUnit} {x14 : StatUnit} {x15 : JournalUnit} {x16 : FwUnit} {x17 : SecUnit} {x18 : JtagUnit} {x19 : (List Out)} {x20 : Nat}
    (h : Fr k s u)
    (h1 : k.testBit 1 = true ∨ x1 = u.orbit := by first | exact Or.inl rfl | exact Or.inr rfl) (h2 : k.testBit 2 = true ∨ x2 = u.power := by first | exact Or.inl rfl | exact Or.inr rfl) (h3 : k.testBit 3 = true ∨ x3 = u.cores := by first | exact Or.inl rfl | exact Or.inr rfl) (h4 : k.testBit 4 = true ∨ x4 = u.mem := by first | exact Or.inl rfl | exact Or.inr rfl) (h5 : k.testBit 5 = true ∨ x5 = u.tasks := by first | exact Or.inl rfl | exact Or.inr rfl) (h6 : k.testBit 6 = true ∨ x6 = u.moons := by first | exact Or.inl rfl | exact Or.inr rfl) (h7 : k.testBit 7 = true ∨ x7 = u.serve := by first | exact Or.inl rfl | exact Or.inr rfl) (h8 : k.testBit 8 = true ∨ x8 = u.train := by first | exact Or.inl rfl | exact Or.inr rfl) (h9 : k.testBit 9 = true ∨ x9 = u.fetch := by first | exact Or.inl rfl | exact Or.inr rfl) (h10 : k.testBit 10 = true ∨ x10 = u.links := by first | exact Or.inl rfl | exact Or.inr rfl) (h11 : k.testBit 11 = true ∨ x11 = u.pack := by first | exact Or.inl rfl | exact Or.inr rfl) (h12 : k.testBit 12 = true ∨ x12 = u.host := by first | exact Or.inl rfl | exact Or.inr rfl) (h13 : k.testBit 13 = true ∨ x13 = u.dict := by first | exact Or.inl rfl | exact Or.inr rfl) (h14 : k.testBit 14 = true ∨ x14 = u.stat := by first | exact Or.inl rfl | exact Or.inr rfl) (h15 : k.testBit 15 = true ∨ x15 = u.journal := by first | exact Or.inl rfl | exact Or.inr rfl) (h16 : k.testBit 16 = true ∨ x16 = u.fw := by first | exact Or.inl rfl | exact Or.inr rfl) (h17 : k.testBit 17 = true ∨ x17 = u.sec := by first | exact Or.inl rfl | exact Or.inr rfl) (h18 : k.testBit 18 = true ∨ x18 = u.jtag := by first | exact Or.inl rfl | exact Or.inr rfl) (h19 : k.testBit 19 = true ∨ x19 = u.out := by first | exact Or.inl rfl | exact Or.inr rfl) (h20 : k.testBit 20 = true ∨ x20 = u.free := by first | exact Or.inl rfl | exact Or.inr rfl)
    (h21 : k.testBit 21 = true ∨ x4.hbm = u.mem.hbm := by first | exact Or.inl rfl | exact Or.inr rfl) (h22 : k.testBit 22 = true ∨ x4.spm = u.mem.spm := by first | exact Or.inl rfl | exact Or.inr rfl)
    (h23 : k.testBit 23 = true ∨ x3.vregs = u.cores.vregs := by first | exact Or.inl rfl | exact Or.inr rfl)
    (h24 : k.testBit 24 = true ∨ KeepRun u.power x2 := by first | exact Or.inl rfl | exact Or.inr rfl)
    (h25 : k.testBit 25 = true ∨ KeepKennel u.cores x3 := by first | exact Or.inl rfl | exact Or.inr rfl)
    (w1 : memWf u.mem.hbm = true → memWf x4.hbm = true := by exact id) (w2 : memWf u.mem.spm = true → memWf x4.spm = true := by exact id)
    (w3 : memWf u.cores.vregs = true → memWf x3.vregs = true := by exact id)
    (w4 : u.sec.operatorKeys <+: x17.operatorKeys := by exact List.prefix_refl _) (w5 : u.fw.fusedSvn ≤ x16.fusedSvn := by exact Nat.le_refl _) :
    Fr k s (State.mk u.pending x1 x2 x3 x4 x5 x6 x7 x8 x9 x10 x11 x12 x13 x14 x15 x16 x17 x18 x19 x20) :=
  h.trans ⟨rfl, h1, h2, h3, h4, h5, h6, h7, h8, h9, h10, h11, h12, h13, h14, h15, h16, h17, h18, h19, h20, h21, h22, h23, h24, h25, w1, w2, w3, w4, w5⟩

/-- A record update of a state reached so far, with what it does to the byte memories and the fuses. -/
theorem Fr.litW {k : Nat} {s u : State} {x1 : OrbitUnit} {x2 : PowerUnit} {x3 : CoreUnit} {x4 : MemUnit} {x5 : TaskUnit} {x6 : (Tab Moon)} {x7 : (Tab Serve)} {x8 : (Tab Train)} {x9 : FetchUnit} {x10 : LinkUnit} {x11 : PackUnit} {x12 : HostUnit} {x13 : DictUnit} {x14 : StatUnit} {x15 : JournalUnit} {x16 : FwUnit} {x17 : SecUnit} {x18 : JtagUnit} {x19 : (List Out)} {x20 : Nat}
    (h : Fr k s u)
    (w1 : memWf u.mem.hbm = true → memWf x4.hbm = true) (w2 : memWf u.mem.spm = true → memWf x4.spm = true)
    (w3 : memWf u.cores.vregs = true → memWf x3.vregs = true)
    (w4 : u.sec.operatorKeys <+: x17.operatorKeys) (w5 : u.fw.fusedSvn ≤ x16.fusedSvn)
    (h1 : k.testBit 1 = true ∨ x1 = u.orbit := by first | exact Or.inl rfl | exact Or.inr rfl) (h2 : k.testBit 2 = true ∨ x2 = u.power := by first | exact Or.inl rfl | exact Or.inr rfl) (h3 : k.testBit 3 = true ∨ x3 = u.cores := by first | exact Or.inl rfl | exact Or.inr rfl) (h4 : k.testBit 4 = true ∨ x4 = u.mem := by first | exact Or.inl rfl | exact Or.inr rfl) (h5 : k.testBit 5 = true ∨ x5 = u.tasks := by first | exact Or.inl rfl | exact Or.inr rfl) (h6 : k.testBit 6 = true ∨ x6 = u.moons := by first | exact Or.inl rfl | exact Or.inr rfl) (h7 : k.testBit 7 = true ∨ x7 = u.serve := by first | exact Or.inl rfl | exact Or.inr rfl) (h8 : k.testBit 8 = true ∨ x8 = u.train := by first | exact Or.inl rfl | exact Or.inr rfl) (h9 : k.testBit 9 = true ∨ x9 = u.fetch := by first | exact Or.inl rfl | exact Or.inr rfl) (h10 : k.testBit 10 = true ∨ x10 = u.links := by first | exact Or.inl rfl | exact Or.inr rfl) (h11 : k.testBit 11 = true ∨ x11 = u.pack := by first | exact Or.inl rfl | exact Or.inr rfl) (h12 : k.testBit 12 = true ∨ x12 = u.host := by first | exact Or.inl rfl | exact Or.inr rfl) (h13 : k.testBit 13 = true ∨ x13 = u.dict := by first | exact Or.inl rfl | exact Or.inr rfl) (h14 : k.testBit 14 = true ∨ x14 = u.stat := by first | exact Or.inl rfl | exact Or.inr rfl) (h15 : k.testBit 15 = true ∨ x15 = u.journal := by first | exact Or.inl rfl | exact Or.inr rfl) (h16 : k.testBit 16 = true ∨ x16 = u.fw := by first | exact Or.inl rfl | exact Or.inr rfl) (h17 : k.testBit 17 = true ∨ x17 = u.sec := by first | exact Or.inl rfl | exact Or.inr rfl) (h18 : k.testBit 18 = true ∨ x18 = u.jtag := by first | exact Or.inl rfl | exact Or.inr rfl) (h19 : k.testBit 19 = true ∨ x19 = u.out := by first | exact Or.inl rfl | exact Or.inr rfl) (h20 : k.testBit 20 = true ∨ x20 = u.free := by first | exact Or.inl rfl | exact Or.inr rfl)
    (h21 : k.testBit 21 = true ∨ x4.hbm = u.mem.hbm := by first | exact Or.inl rfl | exact Or.inr rfl) (h22 : k.testBit 22 = true ∨ x4.spm = u.mem.spm := by first | exact Or.inl rfl | exact Or.inr rfl)
    (h23 : k.testBit 23 = true ∨ x3.vregs = u.cores.vregs := by first | exact Or.inl rfl | exact Or.inr rfl)
    (h24 : k.testBit 24 = true ∨ KeepRun u.power x2 := by first | exact Or.inl rfl | exact Or.inr rfl)
    (h25 : k.testBit 25 = true ∨ KeepKennel u.cores x3 := by first | exact Or.inl rfl | exact Or.inr rfl) :
    Fr k s (State.mk u.pending x1 x2 x3 x4 x5 x6 x7 x8 x9 x10 x11 x12 x13 x14 x15 x16 x17 x18 x19 x20) :=
  h.trans ⟨rfl, h1, h2, h3, h4, h5, h6, h7, h8, h9, h10, h11, h12, h13, h14, h15, h16, h17, h18, h19, h20, h21, h22, h23, h24, h25, w1, w2, w3, w4, w5⟩

theorem fr_foldl {α : Type} {k : Nat} {s u : State} {f : State → α → State} {l : List α} (h : Fr k s u)
    (g : ∀ v x, Fr k s v → Fr k s (f v x)) : Fr k s (l.foldl f u) := by
  induction l generalizing u with
  | nil => exact h
  | cons a r ih => exact ih (g u a h)

/-- What an Except that succeeds answers has the property. -/
def onOk {ε β : Type} (P : β → Prop) (e : Except ε β) : Prop := ∀ b, e = .ok b → P b

theorem onOk_ok {ε β : Type} {P : β → Prop} {b : β} (h : P b) : onOk P (Except.ok b : Except ε β) := fun _ e => by cases e; exact h

theorem onOk_error {ε β : Type} {P : β → Prop} {x : ε} : onOk P (Except.error x : Except ε β) := fun _ e => by cases e

theorem onOk_bind {α ε β : Type} {P : β → Prop} {e : Except ε α} {f : α → Except ε β} (g : ∀ a, e = .ok a → onOk P (f a)) :
    onOk P (e >>= f) := by
  cases e with
  | error x => intro b h; cases h
  | ok a => exact g a rfl

theorem onOk_bind2 {α ε β : Type} {P : β → Prop} {e : Except ε α} {f : α → Except ε β} (g : ∀ a, e = .ok a → onOk P (f a)) :
    onOk P (Except.bind e f) := onOk_bind g

/-- The next state of an answer has the property. -/
def onNext (P : State → Prop) (o : Res) : Prop := ∀ t, o = .next t → P t

theorem onNext_next {P : State → Prop} {t : State} (h : P t) : onNext P (.next t) := fun _ e => by cases e; exact h

/-- What an Option holds has the property. -/
def onSome {β : Type} (P : β → Prop) (o : Option β) : Prop := ∀ b, o = some b → P b

theorem onSome_some {β : Type} {P : β → Prop} {b : β} (h : P b) : onSome P (some b) := fun _ e => by cases e; exact h

theorem onSome_none {β : Type} {P : β → Prop} : onSome P (none : Option β) := fun _ e => by cases e

theorem fr_eq {α : Type} {k : Nat} {s : State} {π : α → State} {p q : α} (g : Fr k s (π p)) (h : p = q) : Fr k s (π q) := h ▸ g

theorem fr_ite {c : Prop} [Decidable c] {k : Nat} {s a b : State} (h : c → Fr k s a) (g : ¬c → Fr k s b) : Fr k s (if c then a else b) := by
  by_cases hc : c
  · rw [if_pos hc]; exact h hc
  · rw [if_neg hc]; exact g hc

theorem onOk_ite {ε β : Type} {P : β → Prop} {c : Prop} [Decidable c] {a b : Except ε β} (h : c → onOk P a) (g : ¬c → onOk P b) :
    onOk P (if c then a else b) := by
  by_cases hc : c
  · rw [if_pos hc]; exact h hc
  · rw [if_neg hc]; exact g hc

theorem onSome_ite {β : Type} {P : β → Prop} {c : Prop} [Decidable c] {a b : Option β} (h : c → onSome P a) (g : ¬c → onSome P b) :
    onSome P (if c then a else b) := by
  by_cases hc : c
  · rw [if_pos hc]; exact h hc
  · rw [if_neg hc]; exact g hc

theorem onNext_ite {P : State → Prop} {c : Prop} [Decidable c] {a b : Res} (h : c → onNext P a) (g : ¬c → onNext P b) :
    onNext P (if c then a else b) := by
  by_cases hc : c
  · rw [if_pos hc]; exact h hc
  · rw [if_neg hc]; exact g hc

theorem onOk_elim {ε : Type} {k : Nat} {s t : State} {e : Except ε State} (q : e = .ok t) (h : onOk (fun b => Fr k s b) e) : Fr k s t := h _ q

theorem onOk_elim1 {ε α : Type} {k : Nat} {s t : State} {x : α} {e : Except ε (State × α)} (q : e = .ok (t, x))
    (h : onOk (fun b => Fr k s b.1) e) : Fr k s t := h _ q

theorem onSome_elim {k : Nat} {s t : State} {e : Option State} (q : e = some t) (h : onSome (fun b => Fr k s b) e) : Fr k s t := h _ q

theorem onSome_elim1 {α : Type} {k : Nat} {s t : State} {x : α} {e : Option (State × α)} (q : e = some (t, x))
    (h : onSome (fun b => Fr k s b.1) e) : Fr k s t := h _ q

theorem onSome_elim2 {α : Type} {k : Nat} {s t : State} {x : α} {e : Option (α × State)} (q : e = some (x, t))
    (h : onSome (fun b => Fr k s b.2) e) : Fr k s t := h _ q

theorem fr_elim1 {α : Type} {k : Nat} {s t : State} {x : α} {e : State × α} (q : e = (t, x)) (h : Fr k s e.1) : Fr k s t := by
  rw [q] at h; exact h

theorem fr_elim2 {α : Type} {k : Nat} {s t : State} {x : α} {e : α × State} (q : e = (x, t)) (h : Fr k s e.2) : Fr k s t := by
  rw [q] at h; exact h

theorem fr_fst {α : Type} {k : Nat} {s a : State} {b : α} (h : Fr k s a) : Fr k s (a, b).1 := h

theorem fr_snd {α : Type} {k : Nat} {s a : State} {b : α} (h : Fr k s a) : Fr k s (b, a).2 := h

theorem fr_mid {α β : Type} {k : Nat} {s a : State} {b : α} {c : β} (h : Fr k s a) : Fr k s (b, a, c).2.1 := h

theorem fr_foldr {α : Type} {k : Nat} {s u : State} {f : α → State → State} {l : List α} (h : Fr k s u)
    (g : ∀ v x, Fr k s v → Fr k s (f x v)) : Fr k s (l.foldr f u) := by
  induction l with
  | nil => exact h
  | cons a r ih => exact g _ _ ih

theorem onOk_map {ε β : Type} {k : Nat} {s : State} {π : β → State} {f : State → β} {e : Except ε State} (w : ∀ x, π (f x) = x)
    (h : onOk (fun b => Fr k s b) e) : onOk (fun b => Fr k s (π b)) (e.map f) := by
  cases e with
  | error x => intro b hb; cases hb
  | ok a => intro b hb; cases hb; rw [w]; exact h a rfl

theorem fr_elim21 {α β : Type} {k : Nat} {s t : State} {x : α} {y : β} {e : α × State × β} (q : e = (x, t, y)) (h : Fr k s e.2.1) : Fr k s t := by
  rw [q] at h; exact h

theorem onOk_elimSome {ε : Type} {k : Nat} {s t : State} {e : Except ε (Option State)} (q : e = .ok (some t))
    (h : onOk (fun o => onSome (fun b => Fr k s b) o) e) : Fr k s t := h _ q _ rfl

theorem onOk_elimP {ε β : Type} {π : β → State} {k : Nat} {s : State} {t : β} {e : Except ε β} (q : e = .ok t)
    (h : onOk (fun b => Fr k s (π b)) e) : Fr k s (π t) := h _ q

theorem onOk_foldlM {ε α : Type} {k : Nat} {s u : State} {f : State → α → Except ε State} {l : List α} (h : Fr k s u)
    (g : ∀ v x, Fr k s v → onOk (fun b => Fr k s b) (f v x)) : onOk (fun b => Fr k s b) (l.foldlM f u) := by
  induction l generalizing u with
  | nil => exact onOk_ok h
  | cons a r ih =>
    rw [List.foldlM_cons]
    exact onOk_bind fun v q => ih (g _ _ h _ q)

theorem fr_have {k : Nat} {s x : State} {Q : Prop} (h : Fr k s x) (g : Fr k s x → Q) : Q := g h

theorem onOk_call {ε β : Type} {a k : Nat} {s u : State} {π : β → State} {e : Except ε β} (g : onOk (fun b => Fr a u (π b)) e)
    (w : a ||| k = k) (h : Fr k s u) : onOk (fun b => Fr k s (π b)) e := fun b hb => (g b hb).call w h

theorem onSome_call {β : Type} {a k : Nat} {s u : State} {π : β → State} {e : Option β} (g : onSome (fun b => Fr a u (π b)) e)
    (w : a ||| k = k) (h : Fr k s u) : onSome (fun b => Fr k s (π b)) e := fun b hb => (g b hb).call w h

theorem onNext_call {a k : Nat} {s u : State} {e : Res} (g : onNext (fun b => Fr a u b) e)
    (w : a ||| k = k) (h : Fr k s u) : onNext (fun b => Fr k s b) e := fun b hb => (g b hb).call w h

theorem onOk_mapError {ε δ β : Type} {P : β → Prop} {f : ε → δ} {e : Except ε β} (h : onOk P e) : onOk P (e.mapError f) := by
  cases e with
  | error x => intro b hb; cases hb
  | ok a => intro b hb; cases hb; exact h a rfl

theorem mapError_ok {ε δ β : Type} {f : ε → δ} {e : Except ε β} {b : β} (h : e.mapError f = .ok b) : e = .ok b := by
  cases e with
  | error x => cases h
  | ok a => cases h; rfl

end Sys2Proof.Laws
end

