-- ==== Sys2Proof/Laws/Memory.lean ====
section
/-! SUPPORT. Laws of byte memories (R8, R40, log 3): every operation keeps the canonical form, a read after a write gives what was written, and
a write leaves every other address alone. -/

set_option Elab.async false

namespace Sys2Proof.Laws

open Sys2Proof.Machine

/-- Every listed address is above `a`. -/
def above (a : Nat) (m : List Host.Cell) : Bool := m.all fun c => decide (a < c.1)

theorem memWf_cons {a : Nat} {v : Byte} {r : List Host.Cell} : memWf ((a, v) :: r) = true ↔ v ≠ 0 ∧ above a r = true ∧ memWf r = true := by
  simp [memWf, above, and_assoc]

theorem above_mono {a b : Nat} {m : List Host.Cell} (h : a ≤ b) (g : above b m = true) : above a m = true := by
  simp only [above, List.all_eq_true, decide_eq_true_eq] at *
  intro c hc; have := g c hc; omega

theorem above_memSet {a k : Nat} {v : Byte} {m : List Host.Cell} (h : a < k) (g : above a m = true) : above a (memSet m k v) = true := by
  induction m with
  | nil => unfold memSet; split <;> simp [above, h]
  | cons c r ih =>
    obtain ⟨b, x⟩ := c
    simp only [above, List.all_cons, Bool.and_eq_true, decide_eq_true_eq] at g
    have g2 : above a r = true := by simpa [above] using g.2
    unfold memSet
    split
    · split
      · exact g2
      · simp only [above, List.all_cons, Bool.and_eq_true, decide_eq_true_eq]; exact ⟨h, by simpa [above] using g.2⟩
    · split
      · split
        · simp only [above, List.all_cons, Bool.and_eq_true, decide_eq_true_eq]; exact ⟨g.1, by simpa [above] using g.2⟩
        · simp only [above, List.all_cons, Bool.and_eq_true, decide_eq_true_eq]; exact ⟨h, g.1, by simpa [above] using g.2⟩
      · have := ih g2
        simp only [above, List.all_cons, Bool.and_eq_true, decide_eq_true_eq]; exact ⟨g.1, by simpa [above] using this⟩

theorem memWf_memSet {m : List Host.Cell} {k : Nat} {v : Byte} (h : memWf m = true) : memWf (memSet m k v) = true := by
  induction m with
  | nil => unfold memSet; split <;> simp_all [memWf]
  | cons c r ih =>
    obtain ⟨b, x⟩ := c
    obtain ⟨h1, h2, h3⟩ := memWf_cons.1 h
    unfold memSet
    split
    · rename_i e; subst e; split
      · exact h3
      · rename_i hv; exact memWf_cons.2 ⟨hv, h2, h3⟩
    · split
      · split
        · exact h
        · rename_i hlt hv
          refine memWf_cons.2 ⟨hv, ?_, h⟩
          have := above_mono (Nat.le_of_lt hlt) h2
          simp only [above, List.all_cons, Bool.and_eq_true, decide_eq_true_eq] at *
          exact ⟨hlt, this⟩
      · exact memWf_cons.2 ⟨h1, above_memSet (by omega) h2, ih h3⟩

theorem memWf_memWrite {m : List Host.Cell} {k : Nat} {b : Bytes} (h : memWf m = true) : memWf (memWrite m k b) = true := by
  induction b generalizing m k with
  | nil => exact h
  | cons x r ih => exact ih (memWf_memSet h)

theorem memWf_memPut {m : List Host.Cell} {k : Nat} {p : List Host.Cell} (h : memWf m = true) : memWf (memPut m k p) = true := by
  unfold memPut
  induction p generalizing m with
  | nil => exact h
  | cons x r ih => exact ih (memWf_memSet h)

theorem memWf_filter {m : List Host.Cell} {f : Host.Cell → Bool} (h : memWf m = true) : memWf (m.filter f) = true := by
  induction m with
  | nil => rfl
  | cons c r ih =>
    obtain ⟨b, x⟩ := c
    obtain ⟨h1, h2, h3⟩ := memWf_cons.1 h
    rw [List.filter_cons]
    split
    · refine memWf_cons.2 ⟨h1, ?_, ih h3⟩
      simp only [above, List.all_eq_true, decide_eq_true_eq] at *
      intro c hc; exact h2 c (List.mem_filter.1 hc).1
    · exact ih h3

theorem memWf_memZero {m : List Host.Cell} {k n : Nat} (h : memWf m = true) : memWf (memZero m k n) = true := memWf_filter h

theorem memWf_foldl {α : Type} {f : List Host.Cell → α → List Host.Cell} {l : List α} {m : List Host.Cell} (h : memWf m = true)
    (g : ∀ r a, memWf r = true → memWf (f r a) = true) : memWf (l.foldl f m) = true := by
  induction l generalizing m with
  | nil => exact h
  | cons a r ih => exact ih (g m a h)

theorem memWf_ite {c : Prop} [Decidable c] {a b : List Host.Cell} (h : memWf a = true) (g : memWf b = true) :
    memWf (if c then a else b) = true := by
  by_cases hc : c
  · rw [if_pos hc]; exact h
  · rw [if_neg hc]; exact g

/-- A written byte reads back (R8). -/
theorem memGet_memSet_same {m : List Host.Cell} {k : Nat} {v : Byte} (h : memWf m = true) : memGet (memSet m k v) k = v := by
  induction m with
  | nil =>
    unfold memSet; split
    · rename_i e; subst e; rfl
    · simp [memGet, tget]
  | cons c r ih =>
    obtain ⟨b, x⟩ := c
    obtain ⟨h1, h2, h3⟩ := memWf_cons.1 h
    have none_at : ∀ (l : List Host.Cell) (a : Nat), above a l = true → tget l 0 a = 0 := by
      intro l a hl
      induction l with
      | nil => rfl
      | cons d q ihq =>
        obtain ⟨j, y⟩ := d
        simp only [above, List.all_cons, Bool.and_eq_true, decide_eq_true_eq] at hl
        unfold tget
        rw [if_neg (by omega)]
        exact ihq (by simpa [above] using hl.2)
    unfold memSet
    split
    · rename_i e; subst e; split
      · rename_i hv; subst hv; exact none_at r b h2
      · simp [memGet, tget]
    · rename_i hne
      split
      · rename_i hlt
        split
        · rename_i hv; subst hv
          unfold memGet tget; rw [if_neg hne]
          exact none_at r k (above_mono (Nat.le_of_lt hlt) h2)
        · simp [memGet, tget]
      · unfold memGet tget; rw [if_neg hne]; exact ih h3

/-- A write leaves every other address alone (R8). -/
theorem memGet_memSet_ne {m : List Host.Cell} {k a : Nat} {v : Byte} (h : a ≠ k) : memGet (memSet m k v) a = memGet m a := by
  induction m with
  | nil =>
    unfold memSet; split
    · rfl
    · unfold memGet tget; rw [if_neg (fun e => h e.symm)]; rfl
  | cons c r ih =>
    obtain ⟨b, x⟩ := c
    have hk : ¬k = a := fun e => h e.symm
    unfold memSet
    split
    · rename_i e; subst e
      split
      · unfold memGet; conv => rhs; unfold tget
        rw [if_neg hk]
      · unfold memGet; unfold tget; rw [if_neg hk, if_neg hk]
    · split
      · split
        · rfl
        · unfold memGet; conv => lhs; unfold tget
          rw [if_neg hk]
      · unfold memGet at ih ⊢; unfold tget
        split
        · rfl
        · exact ih

theorem memGet_memWrite_out {m : List Host.Cell} {k a : Nat} {b : Bytes} (h : a < k ∨ k + b.length ≤ a) :
    memGet (memWrite m k b) a = memGet m a := by
  induction b generalizing m k with
  | nil => rfl
  | cons x r ih =>
    simp only [List.length_cons] at h
    unfold memWrite
    rw [ih (by omega), memGet_memSet_ne (by omega)]

theorem memRead_memWrite {m : List Host.Cell} {k : Nat} {b : Bytes} (h : memWf m = true) : memRead (memWrite m k b) k b.length = b := by
  induction b generalizing m k with
  | nil => rfl
  | cons x r ih =>
    have hw : memWrite m k (x :: r) = memWrite (memSet m k x) (k + 1) r := rfl
    rw [hw, List.length_cons]
    unfold memRead
    rw [ih (memWf_memSet h), memGet_memWrite_out (by omega), memGet_memSet_same h]

/-- The memories of the state after reset are canonical. -/
theorem wf_reset : Memory.wf State.reset = true := rfl

end Sys2Proof.Laws
end

