-- ==== Sys2Proof/Laws/Frames1.lean ====
section
/-! SUPPORT. Frames of the operations of Machine, part 1: for each, the parts of the state that it may change (Laws/Frame.lean says which bit
names which part), callees before callers. -/

set_option Elab.async false

namespace Sys2Proof.Laws

open Sys2Proof.Machine

theorem fr_dropPrecopy {a0 a1} :
    Fr 1040 a0 (dropPrecopy a0 a1) := by
  unfold dropPrecopy
  extract_lets +onlyGivenNames x0
  refine Fr.lit ?_
  exact Fr.refl _ _

theorem fr_emit {a0 a1} :
    Fr 524288 a0 (emit a0 a1) := by
  unfold emit
  refine Fr.lit ?_
  exact Fr.refl _ _

theorem fr_setPort {a0 a1 a2} :
    Fr 1024 a0 (setPort a0 a1 a2) := by
  unfold setPort
  refine Fr.lit ?_
  exact Fr.refl _ _

theorem fr_sendFlit {a0 a1 a2 a3} :
    Fr 525312 a0 (sendFlit a0 a1 a2 a3) := by
  unfold sendFlit
  extract_lets +onlyGivenNames x0
  refine fr_ite (fun c1 => ?_) (fun c1 => ?_)
  · extract_lets +onlyGivenNames x2
    extract_lets +onlyGivenNames x3
    refine Fr.call fr_emit rfl ?_
    refine Fr.call fr_setPort rfl ?_
    exact Fr.refl _ _
  · exact Fr.refl _ _

theorem fr_spend {a0 a1 a2 a3 a4} :
    Fr 1024 a0 (spend a0 a1 a2 a3 a4) := by
  unfold spend
  extract_lets +onlyGivenNames x0
  refine Fr.call fr_setPort rfl ?_
  exact Fr.refl _ _

theorem fr_sendSpent {a0 a1 a2 a3} :
    Fr 525312 a0 (sendSpent a0 a1 a2 a3) := by
  unfold sendSpent
  refine Fr.call fr_sendFlit rfl ?_
  refine fr_ite (fun c0 => ?_) (fun c0 => ?_)
  · exact Fr.refl _ _
  · refine Fr.call fr_spend rfl ?_
    exact Fr.refl _ _

theorem fr_enqueue {a0 a1 a2} :
    Fr 1024 a0 (enqueue a0 a1 a2) := by
  unfold enqueue
  extract_lets +onlyGivenNames x0
  refine fr_ite (fun c1 => ?_) (fun c1 => ?_)
  · refine Fr.call fr_setPort rfl ?_
    exact Fr.refl _ _
  · exact Fr.refl _ _

theorem fr_offer {a0 a1 a2 a3} :
    Fr 525312 a0 (offer a0 a1 a2 a3) := by
  unfold offer
  refine fr_ite (fun c0 => ?_) (fun c0 => ?_)
  · refine Fr.call fr_sendSpent rfl ?_
    exact Fr.refl _ _
  · refine Fr.call fr_enqueue rfl ?_
    exact Fr.refl _ _

theorem fr_offerCtl {a0 a1 a2} :
    Fr 525312 a0 (offerCtl a0 a1 a2) := by
  unfold offerCtl
  refine fr_ite (fun c0 => ?_) (fun c0 => ?_)
  · refine Fr.call fr_offer rfl ?_
    exact Fr.refl _ _
  · exact Fr.refl _ _

theorem fr_handshake {a0 a1 a2 a3} :
    Fr 525312 a0 (handshake a0 a1 a2 a3) := by
  unfold handshake
  extract_lets +onlyGivenNames x0
  extract_lets +onlyGivenNames x1
  extract_lets +onlyGivenNames x2
  refine Fr.call fr_offerCtl rfl ?_
  refine Fr.call fr_emit rfl ?_
  exact Fr.refl _ _

theorem fr_setMoon {a0 a1 a2} :
    Fr 64 a0 (setMoon a0 a1 a2) := by
  unfold setMoon
  refine Fr.lit ?_
  exact Fr.refl _ _

theorem fr_modMoon {a0 a1 a2} :
    Fr 64 a0 (modMoon a0 a1 a2) := by
  unfold modMoon
  refine Fr.call fr_setMoon rfl ?_
  exact Fr.refl _ _

theorem fr_clearCores {a0 a1} :
    Fr 12582936 a0 (clearCores a0 a1) := by
  unfold clearCores
  refine Fr.litW ?_ ?_ ?_ ?_ ?_ ?_ <;> first | exact id | exact List.prefix_refl _ | exact Nat.le_refl _ | skip
  · exact Fr.refl _ _
  · exact fun w => memWf_filter w
  · exact fun w => memWf_filter w

theorem fr_putImage {a0 a1 a2 a3} :
    Fr 12582936 a0 (putImage a0 a1 a2 a3) := by
  unfold putImage
  extract_lets +onlyGivenNames x0
  have h0 : Fr 12582936 a0 x0 := by
    unfold x0
    refine Fr.call fr_clearCores rfl ?_
    exact Fr.refl _ _
  clear_value x0
  refine fr_foldl ?_ (fun v1 y1 h1 => ?_)
  · exact h0
  · refine Fr.litW ?_ ?_ ?_ ?_ ?_ ?_ <;> first | exact id | exact List.prefix_refl _ | exact Nat.le_refl _ | skip
    · exact h1
    · exact fun w => memWf_memPut w

theorem fr_setParam {a0 a1 a2 a3} :
    Fr 8192 a0 (setParam a0 a1 a2 a3) := by
  unfold setParam
  refine Fr.lit ?_
  exact Fr.refl _ _

theorem fr_setFn {a0 a1 a2} :
    Fr 4096 a0 (setFn a0 a1 a2) := by
  unfold setFn
  refine Fr.lit ?_
  exact Fr.refl _ _

theorem fr_sendMsix {a0 a1 a2} :
    Fr 528384 a0 (sendMsix a0 a1 a2) := by
  unfold sendMsix
  extract_lets +onlyGivenNames x0
  refine fr_ite (fun c1 => ?_) (fun c1 => ?_)
  · refine fr_ite (fun c2 => ?_) (fun c2 => ?_)
    · refine Fr.call fr_emit rfl ?_
      refine Fr.call fr_setFn rfl ?_
      exact Fr.refl _ _
    · exact Fr.refl _ _
  · refine Fr.call fr_setFn rfl ?_
    exact Fr.refl _ _

theorem fr_postEvent {a0 a1 a2 a3 a4 a5} :
    Fr 528384 a0 (postEvent a0 a1 a2 a3 a4 a5) := by
  unfold postEvent
  extract_lets +onlyGivenNames x0
  extract_lets +onlyGivenNames x1
  refine fr_ite (fun c2 => ?_) (fun c2 => ?_)
  · refine Fr.call fr_setFn rfl ?_
    exact Fr.refl _ _
  · refine fr_ite (fun c3 => ?_) (fun c3 => ?_)
    · refine Fr.call fr_setFn rfl ?_
      exact Fr.refl _ _
    · extract_lets +onlyGivenNames x4
      extract_lets +onlyGivenNames x5
      have h5 : Fr 528384 a0 x5 := by
        unfold x5
        refine Fr.call fr_setFn rfl ?_
        exact Fr.refl _ _
      clear_value x5
      refine Fr.call fr_sendMsix rfl ?_
      refine Fr.call fr_emit rfl ?_
      exact h5

theorem fr_raiseTo {a0 a1 a2 a3 a4} :
    Fr 528384 a0 (raiseTo a0 a1 a2 a3 a4) := by
  unfold raiseTo
  refine fr_ite (fun c0 => ?_) (fun c0 => ?_)
  · refine Fr.lit ?_
    exact Fr.refl _ _
  · refine Fr.call fr_postEvent rfl ?_
    exact Fr.refl _ _

theorem fr_raiseMoon {a0 a1 a2 a3} :
    Fr 528384 a0 (raiseMoon a0 a1 a2 a3) := by
  unfold raiseMoon
  refine Fr.call fr_raiseTo rfl ?_
  exact Fr.refl _ _

theorem fr_raisePf {a0 a1 a2} :
    Fr 528384 a0 (raisePf a0 a1 a2) := by
  unfold raisePf
  refine Fr.call fr_raiseTo rfl ?_
  exact Fr.refl _ _

theorem fr_incA {a0 a1 a2 a3} :
    Fr 536576 a0 (incA a0 a1 a2 a3) := by
  unfold incA
  extract_lets +onlyGivenNames x0
  refine fr_ite (fun c1 => ?_) (fun c1 => ?_)
  · exact Fr.refl _ _
  · extract_lets +onlyGivenNames x2
    refine fr_ite (fun c3 => ?_) (fun c3 => ?_)
    · refine Fr.call fr_setParam rfl ?_
      exact Fr.refl _ _
    · extract_lets +onlyGivenNames x4
      have h4 : Fr 536576 a0 x4 := by
        unfold x4
        refine Fr.call fr_setParam rfl ?_
        exact Fr.refl _ _
      clear_value x4
      extract_lets +onlyGivenNames x5
      extract_lets +onlyGivenNames x6
      have h6 : Fr 536576 a0 x6 := by
        unfold x6
        refine Fr.lit ?_
        exact h4
      clear_value x6
      split
      · rename_i i7 i8 i9
        refine Fr.call fr_raiseMoon rfl ?_
        exact h6
      · rename_i i10 i11
        refine Fr.call fr_raisePf rfl ?_
        exact h6

theorem fr_countSwap {a0 a1} :
    Fr 536576 a0 (countSwap a0 a1) := by
  unfold countSwap
  refine Fr.call fr_incA rfl ?_
  exact Fr.refl _ _

theorem fr_seeChunk {a0 a1 a2 a3} :
    Fr 1024 a0 (seeChunk a0 a1 a2 a3).1 := by
  unfold seeChunk
  extract_lets +onlyGivenNames x0
  extract_lets +onlyGivenNames x1
  extract_lets +onlyGivenNames x2
  extract_lets +onlyGivenNames x3
  refine fr_fst ?_
  refine Fr.lit ?_
  exact Fr.refl _ _

theorem fr_setObj {a0 a1 a2} :
    Fr 32 a0 (setObj a0 a1 a2) := by
  unfold setObj
  refine Fr.lit ?_
  exact Fr.refl _ _

theorem fr_addObj {a0 a1 a2 a3} :
    Fr 536608 a0 (addObj a0 a1 a2 a3).1 := by
  unfold addObj
  split
  · rename_i i0 i1
    refine fr_fst ?_
    exact Fr.refl _ _
  · rename_i i2 i3 i4
    extract_lets +onlyGivenNames x5
    split
    · rename_i i6
      refine fr_fst ?_
      exact Fr.refl _ _
    · rename_i i7
      extract_lets +onlyGivenNames x8
      split
      · rename_i i9
        extract_lets +onlyGivenNames x10
        have h10 : Fr 536608 a0 x10 := by
          unfold x10
          refine Fr.call fr_setObj rfl ?_
          exact Fr.refl _ _
        clear_value x10
        refine fr_fst ?_
        refine Fr.call fr_raiseMoon rfl ?_
        refine Fr.call fr_incA rfl ?_
        exact h10
      · rename_i i11
        refine fr_fst ?_
        refine Fr.call fr_setObj rfl ?_
        exact Fr.refl _ _

theorem fr_putTask {a0 a1} :
    Fr 32 a0 (putTask a0 a1) := by
  unfold putTask
  refine Fr.lit ?_
  exact Fr.refl _ _

theorem fr_sendOvf {a0 a1} :
    Fr 32 a0 (sendOvf a0 a1) := by
  unfold sendOvf
  split
  · rename_i i0 i1 i2
    refine Fr.call fr_putTask rfl ?_
    exact Fr.refl _ _
  · rename_i i3 i4
    exact Fr.refl _ _

theorem fr_countTx {a0 a1 a2} :
    Fr 64 a0 (countTx a0 a1 a2) := by
  unfold countTx
  refine Fr.call fr_modMoon rfl ?_
  exact Fr.refl _ _

theorem fr_dropTx {a0 a1 a2 a3} :
    Fr 1024 a0 (dropTx a0 a1 a2 a3) := by
  unfold dropTx
  refine Fr.lit ?_
  exact Fr.refl _ _

theorem fr_cometPause {a0 a1 a2 a3} :
    Fr 16 a0 (cometPause a0 a1 a2 a3) := by
  unfold cometPause
  refine Fr.lit ?_
  exact Fr.refl _ _

theorem fr_cometClose {a0 a1 a2 a3} :
    Fr 16 a0 (cometClose a0 a1 a2 a3) := by
  unfold cometClose
  extract_lets +onlyGivenNames x0
  have h0 : Fr 16 a0 x0 := by
    unfold x0
    refine Fr.call fr_cometPause rfl ?_
    exact Fr.refl _ _
  clear_value x0
  refine Fr.lit ?_
  exact h0

theorem fr_moveDone {a0 a1} :
    Fr 48 a0 (moveDone a0 a1) := by
  unfold moveDone
  refine Fr.call fr_cometClose rfl ?_
  refine Fr.call fr_putTask rfl ?_
  exact Fr.refl _ _

theorem fr_txDelivered {a0 a1} :
    Fr 1136 a0 (txDelivered a0 a1) := by
  unfold txDelivered
  split
  · rename_i i0 i1
    exact Fr.refl _ _
  · rename_i i2 i3 i4
    extract_lets +onlyGivenNames x5
    have h5 : Fr 1136 a0 x5 := by
      unfold x5
      refine fr_ite (fun c6 => ?_) (fun c6 => ?_)
      · refine Fr.call fr_countTx rfl ?_
        exact Fr.refl _ _
      · exact Fr.refl _ _
    clear_value x5
    extract_lets +onlyGivenNames x7
    extract_lets +onlyGivenNames x8
    extract_lets +onlyGivenNames x9
    have h9 : Fr 1136 a0 x9 := by
      unfold x9
      refine Fr.lit ?_
      exact h5
    clear_value x9
    refine fr_ite (fun c10 => ?_) (fun c10 => ?_)
    · split
      · rename_i i11 i12 i13
        refine Fr.call fr_dropTx rfl ?_
        refine Fr.call fr_moveDone rfl ?_
        exact h9
      · rename_i i14 i15
        refine Fr.call fr_dropTx rfl ?_
        exact h9
    · exact h9

theorem fr_offerBack {a0 a1 a2 a3} :
    Fr 525312 a0 (offerBack a0 a1 a2 a3) := by
  unfold offerBack
  refine fr_ite (fun c0 => ?_) (fun c0 => ?_)
  · refine Fr.call fr_offer rfl ?_
    exact Fr.refl _ _
  · refine Fr.lit ?_
    exact Fr.refl _ _

theorem fr_sendBack {a0 a1 a2 a3 a4 a5 a6 a7} :
    Fr 525312 a0 (sendBack a0 a1 a2 a3 a4 a5 a6 a7) := by
  unfold sendBack
  refine Fr.call fr_offerBack rfl ?_
  exact Fr.refl _ _

theorem fr_chunkWritten {a0 a1 a2} :
    Fr 537712 a0 (chunkWritten a0 a1 a2) := by
  unfold chunkWritten
  split
  · rename_i i0 i1 i2 i3
    have h4 := fr_eq fr_seeChunk i3
    refine fr_ite (fun c5 => ?_) (fun c5 => ?_)
    · refine Fr.call h4 rfl ?_
      exact Fr.refl _ _
    · extract_lets +onlyGivenNames x6
      have h6 : Fr 537712 a0 x6 := by
        unfold x6
        refine fr_ite (fun c7 => ?_) (fun c7 => ?_)
        · split
          · rename_i i8 i9 i10 i11
            have h12 := fr_eq fr_addObj i11
            refine fr_ite (fun c13 => ?_) (fun c13 => ?_)
            · refine Fr.call fr_sendOvf rfl ?_
              refine Fr.call h12 rfl ?_
              refine Fr.call h4 rfl ?_
              exact Fr.refl _ _
            · refine Fr.call h12 rfl ?_
              refine Fr.call h4 rfl ?_
              exact Fr.refl _ _
        · refine Fr.call h4 rfl ?_
          exact Fr.refl _ _
      clear_value x6
      refine fr_ite (fun c14 => ?_) (fun c14 => ?_)
      · refine Fr.call fr_txDelivered rfl ?_
        exact h6
      · refine Fr.call fr_sendBack rfl ?_
        exact h6

theorem fr_invalidate {a0 a1 a2 a3 a4} :
    Fr 16 a0 (invalidate a0 a1 a2 a3 a4) := by
  unfold invalidate
  extract_lets +onlyGivenNames x0
  refine Fr.lit ?_
  exact Fr.refl _ _

theorem fr_invalidateRange {a0 a1 a2 a3 a4} :
    Fr 16 a0 (invalidateRange a0 a1 a2 a3 a4) := by
  unfold invalidateRange
  refine Fr.call fr_invalidate rfl ?_
  exact Fr.refl _ _

theorem fr_homeWrite {a0 a1 a2} :
    Fr 6291472 a0 (homeWrite a0 a1 a2) := by
  unfold homeWrite
  split
  · rename_i i0 i1
    refine Fr.litW ?_ ?_ ?_ ?_ ?_ ?_ <;> first | exact id | exact List.prefix_refl _ | exact Nat.le_refl _ | skip
    · exact Fr.refl _ _
    · exact fun w => memWf_memWrite w
  · rename_i i2 i3 i4
    refine Fr.litW ?_ ?_ ?_ ?_ ?_ ?_ <;> first | exact id | exact List.prefix_refl _ | exact Nat.le_refl _ | skip
    · exact Fr.refl _ _
    · exact fun w => memWf_memWrite w

theorem fr_writeHomes {a0 a1 a2 a3 a4} :
    Fr 6291472 a0 (writeHomes a0 a1 a2 a3 a4) := by
  fun_induction writeHomes
  · rename_i i0 i1 i2
    exact Fr.refl _ _
  · rename_i i3 i4 i5 i6 i7
    exact Fr.refl _ _
  · rename_i i8 i9 i10 i11 i12 i13 i14 i15
    refine Fr.call i15 rfl ?_
    unfold i14
    split
    · rename_i i16 i17 i18
      refine Fr.call fr_homeWrite rfl ?_
      exact Fr.refl _ _
    · rename_i i19 i20
      exact Fr.refl _ _

theorem fr_writeMa {a0 a1 a2 a3} :
    onOk (fun b => Fr 6291472 a0 b) (writeMa a0 a1 a2 a3) := by
  unfold writeMa
  split
  · rename_i i0 i1 i2
    exact onOk_error
  · rename_i i3 i4
    refine onOk_ok ?_
    refine Fr.call fr_invalidateRange rfl ?_
    refine Fr.call fr_writeHomes rfl ?_
    exact Fr.refl _ _

theorem fr_raiseSat {a0 a1 a2 a3} :
    Fr 528384 a0 (raiseSat a0 a1 a2 a3) := by
  unfold raiseSat
  split
  · rename_i i0
    refine Fr.call fr_raisePf rfl ?_
    exact Fr.refl _ _
  · rename_i i1
    refine Fr.call fr_raisePf rfl ?_
    exact Fr.refl _ _
  · rename_i i2
    refine Fr.call fr_raisePf rfl ?_
    exact Fr.refl _ _
  · rename_i i3
    refine Fr.call fr_raisePf rfl ?_
    exact Fr.refl _ _
  · rename_i i4
    refine Fr.call fr_raisePf rfl ?_
    exact Fr.refl _ _
  · rename_i i5
    refine Fr.call fr_raisePf rfl ?_
    exact Fr.refl _ _
  · rename_i i6
    refine Fr.call fr_raisePf rfl ?_
    exact Fr.refl _ _
  · rename_i i7
    refine Fr.call fr_raisePf rfl ?_
    exact Fr.refl _ _
  · rename_i i8
    refine Fr.call fr_raiseMoon rfl ?_
    exact Fr.refl _ _
  · rename_i i9
    refine Fr.call fr_raiseMoon rfl ?_
    exact Fr.refl _ _
  · rename_i i10
    refine Fr.call fr_raiseMoon rfl ?_
    exact Fr.refl _ _
  · rename_i i11
    refine Fr.call fr_raiseMoon rfl ?_
    exact Fr.refl _ _
  · rename_i i12
    refine Fr.call fr_raiseMoon rfl ?_
    exact Fr.refl _ _
  · rename_i i13
    refine Fr.call fr_raisePf rfl ?_
    exact Fr.refl _ _
  · rename_i i14 i15 i16 i17 i18 i19 i20 i21 i22 i23 i24 i25 i26 i27 i28
    exact Fr.refl _ _

theorem fr_incB {a0 a1 a2 a3} :
    Fr 544768 a0 (incB a0 a1 a2 a3) := by
  unfold incB
  extract_lets +onlyGivenNames x0
  extract_lets +onlyGivenNames x1
  extract_lets +onlyGivenNames x2
  have h2 : Fr 544768 a0 x2 := by
    unfold x2
    refine Fr.lit ?_
    exact Fr.refl _ _
  clear_value x2
  refine fr_ite (fun c3 => ?_) (fun c3 => ?_)
  · exact h2
  · split
    · rename_i i4 i5
      exact h2
    · rename_i i6 i7 i8
      extract_lets +onlyGivenNames x9
      refine fr_ite (fun c10 => ?_) (fun c10 => ?_)
      · exact h2
      · refine Fr.call fr_raiseSat rfl ?_
        refine Fr.lit ?_
        exact h2

theorem fr_mscPut {a0 a1} :
    Fr 16 a0 (mscPut a0 a1) := by
  unfold mscPut
  refine Fr.lit ?_
  exact Fr.refl _ _

theorem fr_mscDiscard {a0 a1} :
    Fr 2097168 a0 (mscDiscard a0 a1) := by
  unfold mscDiscard
  refine Fr.litW ?_ ?_ ?_ ?_ ?_ ?_ <;> first | exact id | exact List.prefix_refl _ | exact Nat.le_refl _ | skip
  · exact Fr.refl _ _
  · exact fun w => memWf_ite (memWf_memPut (memWf_memZero w)) w

theorem fr_mscDrop {a0 a1} :
    Fr 16 a0 (mscDrop a0 a1) := by
  unfold mscDrop
  extract_lets +onlyGivenNames x0
  refine Fr.lit ?_
  exact Fr.refl _ _

theorem fr_mscUse {a0 a1 a2} :
    Fr 2097168 a0 (mscUse a0 a1 a2) := by
  unfold mscUse
  split
  · rename_i i0 i1 i2
    refine fr_ite (fun c3 => ?_) (fun c3 => ?_)
    · refine fr_ite (fun c4 => ?_) (fun c4 => ?_)
      · refine Fr.call fr_mscDiscard rfl ?_
        exact Fr.refl _ _
      · refine Fr.call fr_mscDrop rfl ?_
        exact Fr.refl _ _
    · refine Fr.call fr_mscPut rfl ?_
      exact Fr.refl _ _
  · rename_i i5 i6
    refine Fr.call fr_mscPut rfl ?_
    exact Fr.refl _ _

theorem fr_demote {a0 a1 a2} :
    Fr 16 a0 (demote a0 a1 a2) := by
  unfold demote
  extract_lets +onlyGivenNames x0
  extract_lets +onlyGivenNames x1
  refine Fr.lit ?_
  exact Fr.refl _ _

theorem fr_mscRoom {a0 a1 a2} :
    Fr 16 a0 (mscRoom a0 a1 a2) := by
  unfold mscRoom
  extract_lets +onlyGivenNames x0
  have h0 : Fr 16 a0 x0 := by
    unfold x0
    refine Fr.call fr_demote rfl ?_
    exact Fr.refl _ _
  clear_value x0
  split
  · rename_i i1 i2 i3
    refine Fr.call fr_mscDrop rfl ?_
    exact h0
  · rename_i i4 i5
    exact h0

theorem fr_mscAccess {a0 a1 a2 a3 a4} :
    Fr 2641936 a0 (mscAccess a0 a1 a2 a3 a4) := by
  unfold mscAccess
  extract_lets +onlyGivenNames x0
  extract_lets +onlyGivenNames x1
  extract_lets +onlyGivenNames x2
  split
  · rename_i i3 i4 i5
    extract_lets +onlyGivenNames x6
    have h6 : Fr 2641936 a0 x6 := by
      unfold x6
      split
      · rename_i i7 i8 i9
        refine fr_ite (fun c10 => ?_) (fun c10 => ?_)
        · refine Fr.call fr_incB rfl ?_
          exact Fr.refl _ _
        · exact Fr.refl _ _
      · rename_i i11 i12
        exact Fr.refl _ _
    clear_value x6
    extract_lets +onlyGivenNames x13
    split
    · rename_i i14 i15 i16
      refine Fr.call fr_mscPut rfl ?_
      exact h6
    · rename_i i17 i18 i19 i20
      refine Fr.call fr_mscPut rfl ?_
      exact h6
    · rename_i i21 i22 i23 i24
      refine Fr.call fr_mscPut rfl ?_
      exact h6
    · rename_i i25 i26 i27 i28 i29
      refine Fr.call fr_mscPut rfl ?_
      exact h6
    · rename_i i30 i31 i32 i33 i34 i35
      refine fr_ite (fun c36 => ?_) (fun c36 => ?_)
      · refine Fr.call fr_mscUse rfl ?_
        exact h6
      · refine Fr.call fr_mscPut rfl ?_
        exact h6
    · rename_i i37 i38 i39 i40 i41
      extract_lets +onlyGivenNames x42
      refine fr_ite (fun c43 => ?_) (fun c43 => ?_)
      · refine Fr.call fr_mscUse rfl ?_
        exact h6
      · refine Fr.call fr_mscPut rfl ?_
        exact h6
  · rename_i i44 i45
    extract_lets +onlyGivenNames x46
    refine fr_ite (fun c47 => ?_) (fun c47 => ?_)
    · exact Fr.refl _ _
    · extract_lets +onlyGivenNames x48
      have h48 : Fr 2641936 a0 x48 := by
        unfold x48
        refine Fr.call fr_mscRoom rfl ?_
        exact Fr.refl _ _
      clear_value x48
      extract_lets +onlyGivenNames x49
      extract_lets +onlyGivenNames x50
      refine fr_ite (fun c51 => ?_) (fun c51 => ?_)
      · refine Fr.call fr_mscUse rfl ?_
        refine Fr.call fr_mscPut rfl ?_
        exact h48
      · refine Fr.call fr_mscPut rfl ?_
        exact h48

theorem fr_streamAccess {a0 a1 a2 a3 a4 a5} :
    Fr 2641936 a0 (streamAccess a0 a1 a2 a3 a4 a5) := by
  unfold streamAccess
  refine fr_foldl ?_ (fun v0 y0 h0 => ?_)
  · exact Fr.refl _ _
  · refine Fr.call fr_mscAccess rfl ?_
    exact h0

theorem fr_setPage {a0 a1 a2} :
    Fr 16 a0 (setPage a0 a1 a2) := by
  unfold setPage
  refine Fr.lit ?_
  exact Fr.refl _ _

theorem fr_jAppend {a0 a1} :
    Fr 569344 a0 (jAppend a0 a1) := by
  unfold jAppend
  extract_lets +onlyGivenNames x0
  extract_lets +onlyGivenNames x1
  extract_lets +onlyGivenNames x2
  refine Fr.call fr_incA rfl ?_
  refine Fr.lit ?_
  exact Fr.refl _ _

theorem fr_jCommit {a0} :
    Fr 32768 a0 (jCommit a0) := by
  unfold jCommit
  extract_lets +onlyGivenNames x0
  refine Fr.lit ?_
  exact Fr.refl _ _

theorem fr_jMust {a0 a1} :
    Fr 569344 a0 (jMust a0 a1) := by
  unfold jMust
  refine fr_ite (fun c0 => ?_) (fun c0 => ?_)
  · refine Fr.call fr_jAppend rfl ?_
    exact Fr.refl _ _
  · refine Fr.call fr_jCommit rfl ?_
    refine Fr.call fr_jAppend rfl ?_
    exact Fr.refl _ _

theorem fr_announce {a0 a1} :
    Fr 528384 a1 (announce a0 a1) := by
  unfold announce
  extract_lets +onlyGivenNames x0
  extract_lets +onlyGivenNames x1
  refine fr_ite (fun c2 => ?_) (fun c2 => ?_)
  · exact Fr.refl _ _
  · refine Fr.call fr_raisePf rfl ?_
    exact Fr.refl _ _

theorem fr_setSvc {a0 a1} :
    Fr 569348 a0 (setSvc a0 a1) := by
  unfold setSvc
  refine fr_ite (fun c0 => ?_) (fun c0 => ?_)
  · exact Fr.refl _ _
  · extract_lets +onlyGivenNames x1
    extract_lets +onlyGivenNames x2
    extract_lets +onlyGivenNames x3
    have h3 : Fr 569348 a0 x3 := by
      unfold x3
      refine Fr.lit ?_
      exact Fr.refl _ _
    clear_value x3
    refine Fr.call fr_announce rfl ?_
    refine Fr.call fr_raisePf rfl ?_
    refine Fr.call fr_jAppend rfl ?_
    exact h3

theorem fr_retirePage {a0 a1} :
    Fr 569364 a0 (retirePage a0 a1) := by
  unfold retirePage
  extract_lets +onlyGivenNames x0
  extract_lets +onlyGivenNames x1
  have h1 : Fr 569364 a0 x1 := by
    unfold x1
    refine Fr.call fr_incA rfl ?_
    refine Fr.call fr_setPage rfl ?_
    exact Fr.refl _ _
  clear_value x1
  extract_lets +onlyGivenNames x2
  have h2 : Fr 569364 a0 x2 := by
    unfold x2
    refine Fr.call fr_jMust rfl ?_
    exact h1
  clear_value x2
  refine fr_ite (fun c3 => ?_) (fun c3 => ?_)
  · refine Fr.call fr_setSvc rfl ?_
    exact h2
  · exact h2

theorem fr_retirePrivate {a0 a1 a2} :
    Fr 569364 a0 (retirePrivate a0 a1 a2) := by
  unfold retirePrivate
  split
  · rename_i i0 i1
    exact Fr.refl _ _
  · rename_i i2 i3 i4
    extract_lets +onlyGivenNames x5
    refine Fr.call fr_retirePage rfl ?_
    refine Fr.lit ?_
    exact Fr.refl _ _

theorem fr_mapEntries {a0 a1 a2} :
    Fr 64 a0 (mapEntries a0 a1 a2) := by
  unfold mapEntries
  refine Fr.lit ?_
  exact Fr.refl _ _

theorem fr_beginRetire {a0 a1} :
    Fr 569428 a0 (beginRetire a0 a1) := by
  unfold beginRetire
  extract_lets +onlyGivenNames x0
  refine fr_ite (fun c1 => ?_) (fun c1 => ?_)
  · refine Fr.call fr_retirePrivate rfl ?_
    exact Fr.refl _ _
  · refine fr_ite (fun c2 => ?_) (fun c2 => ?_)
    · exact Fr.refl _ _
    · refine fr_ite (fun c3 => ?_) (fun c3 => ?_)
      · refine Fr.call fr_retirePage rfl ?_
        exact Fr.refl _ _
      · refine Fr.call fr_mapEntries rfl ?_
        refine Fr.lit ?_
        exact Fr.refl _ _

theorem fr_setRow {a0 a1 a2} :
    Fr 16 a0 (setRow a0 a1 a2) := by
  unfold setRow
  refine Fr.lit ?_
  exact Fr.refl _ _

theorem fr_failRow {a0 a1 a2} :
    Fr 569428 a0 (failRow a0 a1 a2) := by
  unfold failRow
  extract_lets +onlyGivenNames x0
  extract_lets +onlyGivenNames x1
  refine fr_ite (fun c2 => ?_) (fun c2 => ?_)
  · exact Fr.refl _ _
  · refine fr_ite (fun c3 => ?_) (fun c3 => ?_)
    · refine Fr.call fr_beginRetire rfl ?_
      refine Fr.call fr_setRow rfl ?_
      exact Fr.refl _ _
    · refine Fr.call fr_setRow rfl ?_
      exact Fr.refl _ _

theorem fr_failByte {a0 a1} :
    Fr 569428 a0 (failByte a0 a1) := by
  unfold failByte
  refine Fr.call fr_failRow rfl ?_
  exact Fr.refl _ _

theorem fr_countUe {a0 a1 a2 a3} :
    Fr 585812 a0 (countUe a0 a1 a2 a3) := by
  unfold countUe
  refine fr_ite (fun c0 => ?_) (fun c0 => ?_)
  · exact Fr.refl _ _
  · split
    · rename_i i1 i2 i3
      refine Fr.call fr_incB rfl ?_
      exact Fr.refl _ _
    · rename_i i4 i5
      split
      · rename_i i6 i7 i8
        refine Fr.call fr_incB rfl ?_
        exact Fr.refl _ _
      · rename_i i9 i10 i11 i12
        refine fr_ite (fun c13 => ?_) (fun c13 => ?_)
        · refine Fr.call fr_incB rfl ?_
          exact Fr.refl _ _
        · refine Fr.call fr_failByte rfl ?_
          refine Fr.call fr_incB rfl ?_
          exact Fr.refl _ _
      · rename_i i14 i15
        exact Fr.refl _ _

theorem fr_setRing {a0 a1 a2 a3} :
    Fr 32 a0 (setRing a0 a1 a2 a3) := by
  unfold setRing
  refine Fr.lit ?_
  exact Fr.refl _ _

theorem fr_haltRing {a0 a1 a2 a3} :
    Fr 32 a0 (haltRing a0 a1 a2 a3) := by
  unfold haltRing
  extract_lets +onlyGivenNames x0
  refine Fr.call fr_setRing rfl ?_
  exact Fr.refl _ _

theorem fr_failTask {a0 a1 a2 a3 a4} :
    Fr 585844 a0 (failTask a0 a1 a2 a3 a4) := by
  unfold failTask
  extract_lets +onlyGivenNames x0
  have h0 : Fr 585844 a0 x0 := by
    unfold x0
    refine Fr.call fr_countUe rfl ?_
    exact Fr.refl _ _
  clear_value x0
  extract_lets +onlyGivenNames x1
  have h1 : Fr 585844 a0 x1 := by
    unfold x1
    refine Fr.call fr_putTask rfl ?_
    exact h0
  clear_value x1
  refine fr_ite (fun c2 => ?_) (fun c2 => ?_)
  · exact h1
  · refine Fr.call fr_haltRing rfl ?_
    exact h1

theorem fr_failTx {a0 a1 a2 a3} :
    Fr 586868 a0 (failTx a0 a1 a2 a3) := by
  unfold failTx
  split
  · rename_i i0 i1 i2
    refine Fr.call fr_dropTx rfl ?_
    refine Fr.call fr_failTask rfl ?_
    exact Fr.refl _ _
  · rename_i i3 i4
    refine Fr.call fr_dropTx rfl ?_
    exact Fr.refl _ _

theorem fr_txRefused {a0 a1 a2 a3 a4} :
    Fr 586868 a0 (txRefused a0 a1 a2 a3 a4) := by
  unfold txRefused
  split
  · rename_i i0 i1
    exact Fr.refl _ _
  · rename_i i2 i3 i4
    refine fr_ite (fun c5 => ?_) (fun c5 => ?_)
    · refine Fr.call fr_failTx rfl ?_
      exact Fr.refl _ _
    · refine fr_ite (fun c6 => ?_) (fun c6 => ?_)
      · refine Fr.call fr_failTx rfl ?_
        exact Fr.refl _ _
      · refine fr_ite (fun c7 => ?_) (fun c7 => ?_)
        · refine Fr.call fr_failTx rfl ?_
          exact Fr.refl _ _
        · refine Fr.call fr_failTx rfl ?_
          exact Fr.refl _ _

theorem fr_refuseChunk {a0 a1 a2 a3} :
    Fr 586868 a0 (refuseChunk a0 a1 a2 a3) := by
  unfold refuseChunk
  extract_lets +onlyGivenNames x0
  have h0 : Fr 586868 a0 x0 := by
    unfold x0
    refine Fr.call fr_seeChunk rfl ?_
    refine Fr.call fr_incA rfl ?_
    exact Fr.refl _ _
  clear_value x0
  refine fr_ite (fun c1 => ?_) (fun c1 => ?_)
  · refine Fr.call fr_txRefused rfl ?_
    exact h0
  · refine Fr.call fr_sendBack rfl ?_
    exact h0

theorem fr_putArrival {a0 a1 a2} :
    Fr 6878324 a0 (putArrival a0 a1 a2) := by
  unfold putArrival
  refine fr_ite (fun c0 => ?_) (fun c0 => ?_)
  · refine Fr.call fr_chunkWritten rfl ?_
    refine Fr.call fr_modMoon rfl ?_
    exact Fr.refl _ _
  · split
    · rename_i i1 i2 i3
      have h4 := fr_writeMa _ i3
      refine Fr.call fr_chunkWritten rfl ?_
      refine Fr.call h4 rfl ?_
      refine Fr.call fr_streamAccess rfl ?_
      exact Fr.refl _ _
    · rename_i i5 i6 i7
      refine Fr.call fr_refuseChunk rfl ?_
      exact Fr.refl _ _

theorem fr_lendPool {a0 a1 a2 a3} :
    Fr 1024 a0 (lendPool a0 a1 a2 a3) := by
  unfold lendPool
  extract_lets +onlyGivenNames x0
  refine Fr.call fr_setPort rfl ?_
  exact Fr.refl _ _

theorem fr_askPool {a0 a1 a2} :
    Fr 1024 a0 (askPool a0 a1 a2).1 := by
  unfold askPool
  extract_lets +onlyGivenNames x0
  extract_lets +onlyGivenNames x1
  split
  · rename_i i2
    refine fr_fst ?_
    refine Fr.call fr_setPort rfl ?_
    exact Fr.refl _ _
  · rename_i i3
    split
    · rename_i i4
      refine fr_fst ?_
      refine Fr.call fr_lendPool rfl ?_
      exact Fr.refl _ _
    · rename_i i5
      refine fr_fst ?_
      refine Fr.call fr_setPort rfl ?_
      exact Fr.refl _ _

theorem fr_sendCredit {a0 a1 a2 a3 a4} :
    Fr 525312 a0 (sendCredit a0 a1 a2 a3 a4) := by
  unfold sendCredit
  extract_lets +onlyGivenNames x0
  extract_lets +onlyGivenNames x1
  extract_lets +onlyGivenNames x2
  refine fr_ite (fun c3 => ?_) (fun c3 => ?_)
  · exact Fr.refl _ _
  · refine Fr.call fr_offer rfl ?_
    refine Fr.call fr_setPort rfl ?_
    exact Fr.refl _ _

theorem fr_drawShort {a0 a1 a2} :
    Fr 525312 a0 (drawShort a0 a1 a2) := by
  unfold drawShort
  split
  · rename_i i0 i1 i2 i3
    have h4 := fr_eq fr_askPool i3
    refine Fr.call fr_sendCredit rfl ?_
    refine Fr.call h4 rfl ?_
    exact Fr.refl _ _

theorem fr_serveWants {a0 a1 a2} :
    Fr 525312 a0 (serveWants a0 a1 a2) := by
  fun_induction serveWants
  · rename_i i0
    exact Fr.refl _ _
  · rename_i i1 i2 i3 i4 i5
    unfold i4
    refine Fr.call fr_drawShort rfl ?_
    exact Fr.refl _ _
  · rename_i i6 i7 i8 i9 i10 i11
    refine Fr.call i11 rfl ?_
    unfold i9
    refine Fr.call fr_drawShort rfl ?_
    exact Fr.refl _ _

theorem fr_returnCredit {a0 a1 a2 a3} :
    Fr 525312 a0 (returnCredit a0 a1 a2 a3) := by
  unfold returnCredit
  extract_lets +onlyGivenNames x0
  extract_lets +onlyGivenNames x1
  extract_lets +onlyGivenNames x2
  refine Fr.call fr_drawShort rfl ?_
  refine Fr.call fr_serveWants rfl ?_
  refine Fr.call fr_sendCredit rfl ?_
  refine Fr.call fr_setPort rfl ?_
  exact Fr.refl _ _

theorem fr_returnSome {a0 a1 a2 a3} :
    Fr 525312 a0 (returnSome a0 a1 a2 a3) := by
  unfold returnSome
  extract_lets +onlyGivenNames x0
  extract_lets +onlyGivenNames x1
  extract_lets +onlyGivenNames x2
  refine fr_ite (fun c3 => ?_) (fun c3 => ?_)
  · exact Fr.refl _ _
  · refine Fr.call fr_returnCredit rfl ?_
    refine Fr.call fr_setPort rfl ?_
    exact Fr.refl _ _

theorem fr_writeHeld {a0 a1 a2} :
    Fr 6878324 a0 (writeHeld a0 a1 a2) := by
  fun_induction writeHeld
  · rename_i i0
    refine Fr.call fr_modMoon rfl ?_
    exact Fr.refl _ _
  · rename_i i1 i2 i3 i4
    refine Fr.call fr_modMoon rfl ?_
    exact Fr.refl _ _
  · rename_i i5 i6 i7 i8 i9 i10
    refine Fr.call i10 rfl ?_
    refine fr_ite (fun c11 => ?_) (fun c11 => ?_)
    · refine Fr.call fr_returnSome rfl ?_
      unfold i9
      refine Fr.call fr_putArrival rfl ?_
      exact Fr.refl _ _
    · unfold i9
      refine Fr.call fr_putArrival rfl ?_
      exact Fr.refl _ _

theorem fr_deliverHeld {a0 a1} :
    Fr 6878324 a0 (deliverHeld a0 a1) := by
  unfold deliverHeld
  extract_lets +onlyGivenNames x0
  have h0 : Fr 6878324 a0 x0 := by
    unfold x0
    refine Fr.call fr_writeHeld rfl ?_
    exact Fr.refl _ _
  clear_value x0
  refine fr_foldl ?_ (fun v1 y1 h1 => ?_)
  · exact h0
  · refine Fr.call fr_drawShort rfl ?_
    exact h1

theorem fr_restoreMoon {a0 a1} :
    Fr 15266940 a0 (restoreMoon a0 a1) := by
  unfold restoreMoon
  extract_lets +onlyGivenNames x0
  extract_lets +onlyGivenNames x1
  have h1 : Fr 15266940 a0 x1 := by
    unfold x1
    refine fr_ite (fun c2 => ?_) (fun c2 => ?_)
    · refine Fr.call fr_putImage rfl ?_
      exact Fr.refl _ _
    · exact Fr.refl _ _
  clear_value x1
  extract_lets +onlyGivenNames x3
  have h3 : Fr 15266940 a0 x3 := by
    unfold x3
    refine fr_ite (fun c4 => ?_) (fun c4 => ?_)
    · refine Fr.call fr_countSwap rfl ?_
      exact h1
    · exact h1
  clear_value x3
  refine Fr.call fr_deliverHeld rfl ?_
  refine Fr.call fr_modMoon rfl ?_
  exact h3

theorem fr_endSpill {a0 a1} :
    Fr 6878324 a0 (endSpill a0 a1) := by
  unfold endSpill
  refine Fr.call fr_deliverHeld rfl ?_
  refine Fr.call fr_modMoon rfl ?_
  exact Fr.refl _ _

theorem fr_takeCore {a0 a1 a2} :
    Fr 40 a0 (takeCore a0 a1 a2) := by
  unfold takeCore
  extract_lets +onlyGivenNames x0
  extract_lets +onlyGivenNames x1
  extract_lets +onlyGivenNames x2
  have h2 : Fr 40 a0 x2 := by
    unfold x2
    split
    · rename_i i3 i4 i5
      refine Fr.lit ?_
      exact Fr.refl _ _
    · rename_i i6 i7
      exact Fr.refl _ _
  clear_value x2
  refine fr_ite (fun c8 => ?_) (fun c8 => ?_)
  · refine Fr.call fr_putTask rfl ?_
    exact h2
  · refine Fr.call fr_putTask rfl ?_
    exact h2

theorem fr_offerCore {a0 a1 a2 a3} :
    Fr 40 a0 (offerCore a0 a1 a2 a3) := by
  unfold offerCore
  refine fr_ite (fun c0 => ?_) (fun c0 => ?_)
  · split
    · rename_i i1 i2 i3
      refine fr_ite (fun c4 => ?_) (fun c4 => ?_)
      · refine Fr.call fr_takeCore rfl ?_
        exact Fr.refl _ _
      · exact Fr.refl _ _
    · rename_i i5 i6
      exact Fr.refl _ _
  · exact Fr.refl _ _

theorem fr_offerCores {a0 a1 a2} :
    Fr 40 a0 (offerCores a0 a1 a2) := by
  unfold offerCores
  refine fr_foldl ?_ (fun v0 y0 h0 => ?_)
  · exact Fr.refl _ _
  · refine Fr.call fr_offerCore rfl ?_
    exact h0

theorem fr_abortMigration {a0 a1} :
    Fr 15266940 a0 (abortMigration a0 a1) := by
  unfold abortMigration
  extract_lets +onlyGivenNames x0
  have h0 : Fr 15266940 a0 x0 := by
    unfold x0
    refine Fr.call fr_dropPrecopy rfl ?_
    refine Fr.call fr_handshake rfl ?_
    exact Fr.refl _ _
  clear_value x0
  extract_lets +onlyGivenNames x1
  have h1 : Fr 15266940 a0 x1 := by
    unfold x1
    refine Fr.call fr_modMoon rfl ?_
    exact h0
  clear_value x1
  extract_lets +onlyGivenNames x2
  refine fr_ite (fun c3 => ?_) (fun c3 => ?_)
  · extract_lets +onlyGivenNames x4
    have h4 : Fr 15266940 a0 x4 := by
      unfold x4
      refine fr_ite (fun c5 => ?_) (fun c5 => ?_)
      · refine Fr.call fr_restoreMoon rfl ?_
        exact h1
      · refine fr_ite (fun c6 => ?_) (fun c6 => ?_)
        · refine Fr.call fr_modMoon rfl ?_
          exact h1
        · refine Fr.call fr_endSpill rfl ?_
          exact h1
    clear_value x4
    refine Fr.call fr_offerCores rfl ?_
    refine Fr.call fr_offerCores rfl ?_
    exact h4
  · exact h1

theorem fr_modOrbit {a0 a1} :
    Fr 2 a0 (modOrbit a0 a1) := by
  unfold modOrbit
  refine Fr.lit ?_
  exact Fr.refl _ _

theorem fr_acceptEdge {a0 a1} :
    Fr 2 a0 (acceptEdge a0 a1) := by
  unfold acceptEdge
  refine Fr.call fr_modOrbit rfl ?_
  exact Fr.refl _ _

theorem fr_accrueAll {a0} :
    Fr 96 a0 (accrueAll a0) := by
  unfold accrueAll
  refine Fr.lit ?_
  exact Fr.refl _ _

theorem fr_modLedger {a0 a1 a2} :
    Fr 64 a0 (modLedger a0 a1 a2) := by
  unfold modLedger
  refine Fr.call fr_modMoon rfl ?_
  exact Fr.refl _ _

theorem fr_ackLedger {a0 a1 a2} :
    onOk (fun b => Fr 569408 a2 b) (ackLedger a0 a1 a2) := by
  unfold ackLedger
  extract_lets +onlyGivenNames x0
  refine onOk_ite (fun c1 => ?_) (fun c1 => ?_)
  · extract_lets +onlyGivenNames x2
    refine onOk_ok ?_
    refine Fr.call fr_jAppend rfl ?_
    refine Fr.call fr_modLedger rfl ?_
    exact Fr.refl _ _
  · exact onOk_error

theorem fr_draw {a0} :
    Fr 1048576 a0 (draw a0).2 := by
  unfold draw
  refine fr_snd ?_
  refine Fr.lit ?_
  exact Fr.refl _ _

theorem fr_freshBytes {a0 a1} :
    Fr 1048576 a0 (freshBytes a0 a1).2 := by
  unfold freshBytes
  split
  · rename_i i0 i1 i2 i3
    have h4 := fr_eq fr_draw i3
    refine fr_snd ?_
    exact h4

theorem fr_modSec {k : Nat} {z s : State} {f : SecUnit → SecUnit} (hf : s.sec.operatorKeys <+: (f s.sec).operatorKeys) (w : 131072 ||| k = k)
    (h : Fr k z s) : Fr k z (modSec s f) := by
  refine Fr.call (a := 131072) (t := s) ?_ w h
  unfold modSec
  refine Fr.litW ?_ ?_ ?_ ?_ ?_ ?_ <;> first | exact id | exact List.prefix_refl _ | exact Nat.le_refl _ | skip
  · exact Fr.refl _ _
  · exact hf

theorem fr_makeOffer {a0 a1} :
    Fr 1179648 a1 (makeOffer a0 a1).1 := by
  unfold makeOffer
  split
  · rename_i i0 i1 i2 i3
    have h4 := fr_eq fr_freshBytes i3
    extract_lets +onlyGivenNames x5
    split
    · rename_i i6 i7 i8 i9
      have h10 := fr_eq fr_freshBytes i9
      extract_lets +onlyGivenNames x11
      extract_lets +onlyGivenNames x12
      refine fr_fst ?_
      refine fr_modSec ?_ rfl ?_
      · exact List.prefix_refl _
      · refine Fr.call h10 rfl ?_
        refine Fr.call h4 rfl ?_
        exact Fr.refl _ _

theorem fr_setTrain {a0 a1 a2} :
    Fr 256 a0 (setTrain a0 a1 a2) := by
  unfold setTrain
  refine Fr.lit ?_
  exact Fr.refl _ _

theorem fr_flushWait {a0 a1} :
    Fr 545024 a0 (flushWait a0 a1) := by
  unfold flushWait
  extract_lets +onlyGivenNames x0
  split
  · rename_i i1 i2
    exact Fr.refl _ _
  · rename_i i3 i4 i5
    extract_lets +onlyGivenNames x6
    refine Fr.call fr_incB rfl ?_
    refine Fr.call fr_setTrain rfl ?_
    exact Fr.refl _ _

theorem fr_clearB {a0 a1 a2} :
    Fr 16384 a0 (clearB a0 a1 a2) := by
  unfold clearB
  split
  · rename_i i0 i1
    exact Fr.refl _ _
  · rename_i i2 i3 i4
    refine Fr.lit ?_
    exact Fr.refl _ _

theorem fr_snapB {a0 a1 a2} :
    Fr 16384 a0 (snapB a0 a1 a2) := by
  unfold snapB
  split
  · rename_i i0 i1
    exact Fr.refl _ _
  · rename_i i2 i3 i4
    extract_lets +onlyGivenNames x5
    refine Fr.lit ?_
    exact Fr.refl _ _

theorem fr_readB {a0 a1 a2 a3} :
    Fr 16384 a0 (readB a0 a1 a2 a3) := by
  unfold readB
  refine fr_ite (fun c0 => ?_) (fun c0 => ?_)
  · refine Fr.call fr_clearB rfl ?_
    refine Fr.call fr_snapB rfl ?_
    exact Fr.refl _ _
  · exact Fr.refl _ _

theorem fr_readFmt {a0 a1 a2 a3} :
    Fr 16384 a0 (readFmt a0 a1 a2 a3) := by
  unfold readFmt
  refine fr_ite (fun c0 => ?_) (fun c0 => ?_)
  · extract_lets +onlyGivenNames x1
    extract_lets +onlyGivenNames x2
    extract_lets +onlyGivenNames x3
    have h3 : Fr 16384 a0 x3 := by
      unfold x3
      refine Fr.call fr_readB rfl ?_
      exact Fr.refl _ _
    clear_value x3
    refine Fr.lit ?_
    exact h3
  · exact Fr.refl _ _

theorem fr_readStat {a0 a1 a2 a3} :
    onOk (fun b : (Sys2Proof.Machine.State × Sys2Proof.Bytes) => Fr 16384 a0 b.1) (readStat a0 a1 a2 a3) := by
  unfold readStat
  refine onOk_ok ?_
  refine fr_fst ?_
  refine Fr.call fr_readB rfl ?_
  exact Fr.refl _ _

theorem fr_readGroup {a0 a1 a2 a3 a4 a5} :
    onOk (fun b : (Sys2Proof.Machine.State × Sys2Proof.Bytes) => Fr 545024 a0 b.1) (readGroup a0 a1 a2 a3 a4 a5) := by
  unfold readGroup
  extract_lets +onlyGivenNames x0
  extract_lets +onlyGivenNames x1
  have h1 : Fr 545024 a0 x1 := by
    unfold x1
    refine fr_ite (fun c2 => ?_) (fun c2 => ?_)
    · refine Fr.call fr_flushWait rfl ?_
      exact Fr.refl _ _
    · exact Fr.refl _ _
  clear_value x1
  refine onOk_ite (fun c3 => ?_) (fun c3 => ?_)
  · extract_lets +onlyGivenNames x4
    extract_lets +onlyGivenNames x5
    refine onOk_ite (fun c6 => ?_) (fun c6 => ?_)
    · refine onOk_ok ?_
      refine fr_fst ?_
      refine Fr.call fr_readFmt rfl ?_
      exact h1
    · refine onOk_ite (fun c7 => ?_) (fun c7 => ?_)
      · refine onOk_call fr_readStat rfl ?_
        exact h1
      · refine onOk_ok ?_
        refine fr_fst ?_
        exact h1
  · refine onOk_ite (fun c8 => ?_) (fun c8 => ?_)
    · refine onOk_call fr_readStat rfl ?_
      exact h1
    · refine onOk_ok ?_
      refine fr_fst ?_
      exact h1

theorem fr_readValue {a0 a1 a2 a3} :
    onOk (fun b : (Sys2Proof.Machine.State × Sys2Proof.Bytes) => Fr 1732864 a0 b.1) (readValue a0 a1 a2 a3) := by
  unfold readValue
  extract_lets +onlyGivenNames x0
  extract_lets +onlyGivenNames x1
  refine onOk_ite (fun c2 => ?_) (fun c2 => ?_)
  · refine onOk_ok ?_
    refine fr_fst ?_
    exact Fr.refl _ _
  · clear_value x0
    split
    · rename_i i3
      refine onOk_ok ?_
      refine Fr.call fr_makeOffer rfl ?_
      exact Fr.refl _ _
    · rename_i i4
      refine onOk_ok ?_
      refine fr_fst ?_
      exact Fr.refl _ _
    · rename_i i5
      refine onOk_ok ?_
      refine Fr.call fr_makeOffer rfl ?_
      exact Fr.refl _ _
    · rename_i i6
      refine onOk_ok ?_
      refine fr_fst ?_
      exact Fr.refl _ _
    · rename_i i7 i8 i9 i10 i11
      split
      · rename_i i12 i13 i14
        refine onOk_call fr_readGroup rfl ?_
        exact Fr.refl _ _
      · rename_i i15 i16
        refine onOk_ok ?_
        refine fr_fst ?_
        exact Fr.refl _ _

theorem fr_wholeValue {a0 a1 a2 a3} :
    onOk (fun b : (Sys2Proof.Machine.State × Sys2Proof.Bytes) => Fr 1732864 a0 b.1) (wholeValue a0 a1 a2 a3) := by
  unfold wholeValue
  refine onOk_ite (fun c0 => ?_) (fun c0 => ?_)
  · refine onOk_ok ?_
    refine fr_fst ?_
    exact Fr.refl _ _
  · refine onOk_call fr_readValue rfl ?_
    exact Fr.refl _ _

theorem fr_keepPieces {a0 a1 a2 a3 a4} :
    Fr 8192 a0 (keepPieces a0 a1 a2 a3 a4) := by
  unfold keepPieces
  refine Fr.lit ?_
  exact Fr.refl _ _

theorem fr_readItem {a0 a1 a2 a3} :
    Fr 1732864 a0 (readItem a0 a1 a2 a3).1 := by
  unfold readItem
  split
  · rename_i i0
    split
    · rename_i i1 i2 i3
      refine fr_fst ?_
      exact Fr.refl _ _
    · rename_i i5 i6 i7 i8
      have h9 := fr_readValue _ i8
      refine fr_fst ?_
      exact h9
  · rename_i i10
    split
    · rename_i i11
      split
      · rename_i i12 i13 i14
        refine fr_fst ?_
        exact Fr.refl _ _
      · rename_i i16 i17 i18 i19
        have h20 := fr_wholeValue _ i19
        split
        · rename_i i21 i22 i23 i24
          refine fr_fst ?_
          refine Fr.call fr_keepPieces rfl ?_
          exact h20
    · rename_i i25
      split
      · rename_i i26 i27
        refine fr_fst ?_
        exact Fr.refl _ _
      · rename_i i28 i29 i30
        split
        · rename_i i31
          refine fr_fst ?_
          exact Fr.refl _ _
        · rename_i i32
          split
          · rename_i i33 i34 i35 i36
            refine fr_fst ?_
            exact Fr.refl _ _

theorem fr_modSlot {a0 a1 a2} :
    Fr 131072 a0 (modSlot a0 a1 a2) := by
  unfold modSlot
  refine fr_modSec ?_ rfl ?_
  · exact List.prefix_refl _
  · exact Fr.refl _ _

theorem fr_endOffer {a0 a1} :
    Fr 131072 a0 (endOffer a0 a1) := by
  unfold endOffer
  refine fr_modSec ?_ rfl ?_
  · exact List.prefix_refl _
  · exact Fr.refl _ _

theorem fr_keyLoad {a0 a1 a2} :
    Fr 659456 a2 (keyLoad a0 a1 a2).1 := by
  unfold keyLoad
  split
  · rename_i i0
    refine fr_fst ?_
    exact Fr.refl _ _
  · rename_i i1
    split
    · rename_i i2
      refine fr_fst ?_
      exact Fr.refl _ _
    · rename_i i3
      split
      · rename_i i4 i5
        refine fr_fst ?_
        refine Fr.call fr_modSlot rfl ?_
        exact Fr.refl _ _
      · rename_i i6 i7 i8
        split
        · rename_i i9
          refine fr_fst ?_
          refine Fr.call fr_modSlot rfl ?_
          exact Fr.refl _ _
        · rename_i i10
          extract_lets +onlyGivenNames x11
          have h11 : Fr 659456 a2 x11 := by
            unfold x11
            refine Fr.call fr_endOffer rfl ?_
            exact Fr.refl _ _
          clear_value x11
          extract_lets +onlyGivenNames x12
          split
          · rename_i i13
            unfold x12
            refine fr_fst ?_
            refine Fr.call fr_modSlot rfl ?_
            exact h11
          · rename_i i14
            extract_lets +onlyGivenNames x15
            split
            · rename_i i16 i17
              unfold x12
              refine fr_fst ?_
              refine Fr.call fr_modSlot rfl ?_
              exact h11
            · rename_i i18 i19 i20
              split
              · rename_i i21
                unfold x12
                refine fr_fst ?_
                refine Fr.call fr_modSlot rfl ?_
                exact h11
              · rename_i i22
                extract_lets +onlyGivenNames x23
                have h23 : Fr 659456 a2 x23 := by
                  unfold x23
                  refine Fr.call fr_modSlot rfl ?_
                  exact h11
                clear_value x23
                refine fr_fst ?_
                refine Fr.call fr_raiseMoon rfl ?_
                exact h23

theorem fr_sessionProve {a0 a1} :
    Fr 659456 a1 (sessionProve a0 a1).1 := by
  unfold sessionProve
  split
  · rename_i i0
    refine fr_fst ?_
    exact Fr.refl _ _
  · rename_i i1
    split
    · rename_i i2 i3
      refine fr_fst ?_
      exact Fr.refl _ _
    · rename_i i4 i5 i6 i7 i8
      extract_lets +onlyGivenNames x9
      extract_lets +onlyGivenNames x10
      split
      · rename_i i11
        refine fr_fst ?_
        refine Fr.call fr_raisePf rfl ?_
        refine fr_modSec ?_ rfl ?_
        · exact List.prefix_refl _
        · exact Fr.refl _ _
      · rename_i i12
        refine fr_fst ?_
        refine fr_modSec ?_ rfl ?_
        · exact List.prefix_refl _
        · exact Fr.refl _ _

theorem fr_raiseWriter {a0 a1 a2 a3 a4} :
    Fr 528384 a0 (raiseWriter a0 a1 a2 a3 a4) := by
  unfold raiseWriter
  split
  · rename_i i0 i1 i2
    refine Fr.call fr_raiseTo rfl ?_
    exact Fr.refl _ _
  · rename_i i3 i4
    exact Fr.refl _ _

theorem fr_setStatus {a0 a1 a2 a3 a4} :
    Fr 64 a0 (setStatus a0 a1 a2 a3 a4) := by
  unfold setStatus
  refine Fr.call fr_modMoon rfl ?_
  exact Fr.refl _ _

theorem fr_endCmd {a0 a1 a2 a3 a4} :
    Fr 528448 a0 (endCmd a0 a1 a2 a3 a4) := by
  unfold endCmd
  extract_lets +onlyGivenNames x0
  refine Fr.call fr_raiseWriter rfl ?_
  refine Fr.call fr_setStatus rfl ?_
  exact Fr.refl _ _

theorem fr_keepBlocks {a0 a1 a2} :
    Fr 96 a0 (keepBlocks a0 a1 a2) := by
  unfold keepBlocks
  extract_lets +onlyGivenNames x0
  extract_lets +onlyGivenNames x1
  extract_lets +onlyGivenNames x2
  have h2 : Fr 96 a0 x2 := by
    unfold x2
    refine Fr.lit ?_
    exact Fr.refl _ _
  clear_value x2
  refine Fr.call fr_modMoon rfl ?_
  exact h2

theorem fr_drawFrom {a0 a1} :
    Fr 1048576 a1 (drawFrom a0 a1).2 := by
  unfold drawFrom
  split
  · rename_i i0
    refine fr_snd ?_
    exact Fr.refl _ _
  · rename_i i1 i2 i3
    split
    · rename_i i4 i5 i6 i7
      have h8 := fr_eq fr_draw i7
      refine fr_snd ?_
      exact h8

theorem fr_givePage {a0 a1 a2 a3} :
    Fr 2097168 a0 (givePage a0 a1 a2 a3) := by
  unfold givePage
  extract_lets +onlyGivenNames x0
  have h0 : Fr 2097168 a0 x0 := by
    unfold x0
    refine Fr.call fr_setPage rfl ?_
    exact Fr.refl _ _
  clear_value x0
  refine Fr.litW ?_ ?_ ?_ ?_ ?_ ?_ <;> first | exact id | exact List.prefix_refl _ | exact Nat.le_refl _ | skip
  · exact h0
  · exact fun w => memWf_memZero w

theorem fr_grantPage {a0 a1 a2 a3} :
    onSome (fun b : (Nat × Sys2Proof.Machine.State) => Fr 3145744 a0 b.2) (grantPage a0 a1 a2 a3) := by
  unfold grantPage
  extract_lets +onlyGivenNames x0
  split
  · rename_i i1 i2 i3 i4
    have h5 := fr_eq fr_drawFrom i4
    refine onSome_some ?_
    refine fr_snd ?_
    refine Fr.call fr_givePage rfl ?_
    refine Fr.call h5 rfl ?_
    exact Fr.refl _ _
  · rename_i i6 i7 i8
    have h9 := fr_eq fr_drawFrom i8
    exact onSome_none

theorem fr_grantPages {a0 a1 a2 a3 a4} :
    Fr 3145744 a0 (grantPages a0 a1 a2 a3 a4).1 := by
  induction a4 generalizing a0 a3 <;> unfold grantPages
  · refine fr_fst ?_
    exact Fr.refl _ _
  · rename_i i0 i1
    split
    · rename_i i2 i3
      refine fr_fst ?_
      exact Fr.refl _ _
    · rename_i i5 i6 i7 i8
      have h9 := fr_grantPage _ i8
      refine Fr.call i1 rfl ?_
      exact h9

theorem fr_freePage {a0 a1} :
    Fr 569364 a0 (freePage a0 a1) := by
  unfold freePage
  refine fr_ite (fun c0 => ?_) (fun c0 => ?_)
  · refine Fr.call fr_retirePage rfl ?_
    refine Fr.lit ?_
    exact Fr.refl _ _
  · refine Fr.lit ?_
    exact Fr.refl _ _

theorem fr_resave {a0 a1 a2} :
    Fr 3715156 a0 (resave a0 a1 a2) := by
  unfold resave
  extract_lets +onlyGivenNames x0
  refine fr_ite (fun c1 => ?_) (fun c1 => ?_)
  · split
    · rename_i i2 i3 i4 i5
      have h6 := fr_eq fr_grantPages i5
      refine Fr.call fr_modMoon rfl ?_
      refine Fr.call h6 rfl ?_
      exact Fr.refl _ _
  · extract_lets +onlyGivenNames x7
    have h7 : Fr 3715156 a0 x7 := by
      unfold x7
      refine fr_foldl ?_ (fun v8 y8 h8 => ?_)
      · exact Fr.refl _ _
      · refine Fr.call fr_freePage rfl ?_
        exact h8
    clear_value x7
    refine Fr.call fr_modMoon rfl ?_
    exact h7

theorem fr_unadmit {a0 a1} :
    Fr 3715188 a0 (unadmit a0 a1) := by
  unfold unadmit
  extract_lets +onlyGivenNames x0
  have h0 : Fr 3715188 a0 x0 := by
    unfold x0
    refine Fr.call fr_keepBlocks rfl ?_
    exact Fr.refl _ _
  clear_value x0
  extract_lets +onlyGivenNames x1
  have h1 : Fr 3715188 a0 x1 := by
    unfold x1
    refine Fr.call fr_resave rfl ?_
    exact h0
  clear_value x1
  extract_lets +onlyGivenNames x2
  refine Fr.call fr_setMoon rfl ?_
  exact h1

theorem fr_endJob {a0 a1 a2} :
    Fr 528448 a0 (endJob a0 a1 a2) := by
  unfold endJob
  split
  · rename_i i0 i1
    exact Fr.refl _ _
  · rename_i i2 i3 i4
    refine Fr.call fr_endCmd rfl ?_
    refine Fr.call fr_modMoon rfl ?_
    exact Fr.refl _ _

theorem fr_giveWay {a0 a1} :
    Fr 16315516 a0 (giveWay a0 a1) := by
  unfold giveWay
  split
  · rename_i i0 i1
    exact Fr.refl _ _
  · rename_i i2 i3 i4
    extract_lets +onlyGivenNames x5
    extract_lets +onlyGivenNames x6
    extract_lets +onlyGivenNames x7
    have h7 : Fr 16315516 a0 x7 := by
      unfold x7
      refine fr_ite (fun c8 => ?_) (fun c8 => ?_)
      · exact Fr.refl _ _
      · split
        · rename_i i9 i10
          refine Fr.call fr_unadmit rfl ?_
          exact Fr.refl _ _
        · rename_i i11 i12
          refine Fr.call fr_modMoon rfl ?_
          exact Fr.refl _ _
        · rename_i i13 i14
          refine Fr.call fr_abortMigration rfl ?_
          exact Fr.refl _ _
        · rename_i i15 i16
          refine fr_ite (fun c17 => ?_) (fun c17 => ?_)
          · refine Fr.call fr_modMoon rfl ?_
            exact Fr.refl _ _
          · exact Fr.refl _ _
        · rename_i i18 i19 i20 i21 i22
          exact Fr.refl _ _
    clear_value x7
    extract_lets +onlyGivenNames x23
    have h23 : Fr 16315516 a0 x23 := by
      unfold x23
      refine Fr.call fr_endJob rfl ?_
      exact h7
    clear_value x23
    refine fr_ite (fun c24 => ?_) (fun c24 => ?_)
    · refine Fr.call fr_offerCores rfl ?_
      refine Fr.call fr_offerCores rfl ?_
      exact h23
    · exact h23

theorem fr_clearCounters {a0 a1 a2} :
    Fr 24576 a0 (clearCounters a0 a1 a2) := by
  unfold clearCounters
  extract_lets +onlyGivenNames x0
  extract_lets +onlyGivenNames x1
  extract_lets +onlyGivenNames x2
  refine Fr.lit ?_
  exact Fr.refl _ _

theorem fr_grantBlock {a0 a1} :
    Fr 1048672 a0 (grantBlock a0 a1) := by
  unfold grantBlock
  split
  · rename_i i0 i1 i2
    have h3 := fr_eq fr_drawFrom i2
    refine Fr.call h3 rfl ?_
    exact Fr.refl _ _
  · rename_i i4 i5 i6 i7
    have h8 := fr_eq fr_drawFrom i7
    extract_lets +onlyGivenNames x9
    extract_lets +onlyGivenNames x10
    have h10 : Fr 1048672 a0 x10 := by
      unfold x10
      refine Fr.lit ?_
      refine Fr.call h8 rfl ?_
      exact Fr.refl _ _
    clear_value x10
    refine Fr.call fr_modMoon rfl ?_
    exact h10

theorem fr_grantBlocks {a0 a1 a2} :
    Fr 1048672 a0 (grantBlocks a0 a1 a2) := by
  unfold grantBlocks
  refine fr_foldl ?_ (fun v0 y0 h0 => ?_)
  · exact Fr.refl _ _
  · refine Fr.call fr_grantBlock rfl ?_
    exact h0

theorem fr_openSpanAt {a0 a1 a2 a3} :
    Fr 64 a0 (openSpanAt a0 a1 a2 a3) := by
  unfold openSpanAt
  refine Fr.call fr_modLedger rfl ?_
  exact Fr.refl _ _

theorem fr_openSpan {a0 a1 a2} :
    Fr 64 a0 (openSpan a0 a1 a2) := by
  unfold openSpan
  refine Fr.call fr_openSpanAt rfl ?_
  exact Fr.refl _ _

theorem fr_takeIn {a0 a1 a2 a3} :
    Fr 3731572 a0 (takeIn a0 a1 a2 a3) := by
  unfold takeIn
  extract_lets +onlyGivenNames x0
  extract_lets +onlyGivenNames x1
  extract_lets +onlyGivenNames x2
  extract_lets +onlyGivenNames x3
  extract_lets +onlyGivenNames x4
  have h4 : Fr 3731572 a0 x4 := by
    unfold x4
    refine Fr.call fr_setMoon rfl ?_
    exact Fr.refl _ _
  clear_value x4
  extract_lets +onlyGivenNames x5
  extract_lets +onlyGivenNames x6
  have h6 : Fr 3731572 a0 x6 := by
    unfold x6
    refine Fr.lit ?_
    exact h4
  clear_value x6
  extract_lets +onlyGivenNames x7
  have h7 : Fr 3731572 a0 x7 := by
    unfold x7
    refine fr_ite (fun c8 => ?_) (fun c8 => ?_)
    · exact h6
    · refine Fr.call fr_setParam rfl ?_
      exact h6
  clear_value x7
  extract_lets +onlyGivenNames x9
  extract_lets +onlyGivenNames x10
  have h10 : Fr 3731572 a0 x10 := by
    unfold x10
    refine Fr.lit ?_
    exact h7
  clear_value x10
  extract_lets +onlyGivenNames x11
  have h11 : Fr 3731572 a0 x11 := by
    unfold x11
    refine Fr.call fr_resave rfl ?_
    exact h10
  clear_value x11
  extract_lets +onlyGivenNames x12
  have h12 : Fr 3731572 a0 x12 := by
    unfold x12
    refine Fr.call fr_clearCounters rfl ?_
    refine Fr.call fr_grantBlocks rfl ?_
    exact h11
  clear_value x12
  refine fr_ite (fun c13 => ?_) (fun c13 => ?_)
  · refine Fr.call fr_openSpan rfl ?_
    exact h12
  · exact h12

theorem fr_clearMarks {a0 a1} :
    Fr 16 a0 (clearMarks a0 a1) := by
  unfold clearMarks
  extract_lets +onlyGivenNames x0
  extract_lets +onlyGivenNames x1
  refine Fr.lit ?_
  exact Fr.refl _ _

theorem fr_addMarks {a0 a1} :
    Fr 16 a0 (addMarks a0 a1) := by
  unfold addMarks
  refine fr_foldl ?_ (fun v0 y0 h0 => ?_)
  · exact Fr.refl _ _
  · split
    · rename_i i1 i2
      refine Fr.lit ?_
      exact h0
    · rename_i i3 i4 i5
      refine Fr.lit ?_
      exact h0

theorem fr_deliver {a0 a1 a2} :
    Fr 6291472 a0 (deliver a0 a1 a2) := by
  unfold deliver
  extract_lets +onlyGivenNames x0
  have h0 : Fr 6291472 a0 x0 := by
    unfold x0
    refine fr_foldr ?_ (fun v1 y1 h1 => ?_)
    · exact Fr.refl _ _
    · split
      · rename_i i2 i3 i4
        refine Fr.call fr_homeWrite rfl ?_
        exact h1
      · rename_i i5 i6
        exact h1
  clear_value x0
  extract_lets +onlyGivenNames x7
  have h7 : Fr 6291472 a0 x7 := by
    unfold x7
    refine Fr.call fr_clearMarks rfl ?_
    exact h0
  clear_value x7
  extract_lets +onlyGivenNames x8
  have h8 : Fr 6291472 a0 x8 := by
    unfold x8
    refine Fr.call fr_addMarks rfl ?_
    exact h7
  clear_value x8
  extract_lets +onlyGivenNames x9
  extract_lets +onlyGivenNames x10
  have h10 : Fr 6291472 a0 x10 := by
    unfold x10
    refine Fr.lit ?_
    exact h8
  clear_value x10
  split
  · rename_i i11
    exact h10
  · rename_i i12 i13 i14
    refine Fr.call fr_invalidate rfl ?_
    exact h10

theorem fr_writeBack {a0 a1 a2 a3} :
    Fr 6291472 a0 (writeBack a0 a1 a2 a3) := by
  unfold writeBack
  extract_lets +onlyGivenNames x0
  refine fr_foldl ?_ (fun v1 y1 h1 => ?_)
  · exact Fr.refl _ _
  · refine Fr.call fr_deliver rfl ?_
    exact h1

theorem fr_writeBackMoon {a0 a1} :
    Fr 6291472 a0 (writeBackMoon a0 a1) := by
  unfold writeBackMoon
  refine fr_foldl ?_ (fun v0 y0 h0 => ?_)
  · exact Fr.refl _ _
  · refine Fr.call fr_writeBack rfl ?_
    exact h0

theorem fr_poisonEvents {a0 a1 a2 a3} :
    Fr 528384 a0 (poisonEvents a0 a1 a2 a3) := by
  unfold poisonEvents
  extract_lets +onlyGivenNames x0
  refine fr_foldl ?_ (fun v1 y1 h1 => ?_)
  · exact Fr.refl _ _
  · refine Fr.call fr_raiseMoon rfl ?_
    exact h1

theorem fr_saveMoon {a0 a1} :
    Fr 15216728 a0 (saveMoon a0 a1) := by
  unfold saveMoon
  extract_lets +onlyGivenNames x0
  extract_lets +onlyGivenNames x1
  have h1 : Fr 15216728 a0 x1 := by
    unfold x1
    refine Fr.call fr_writeBackMoon rfl ?_
    exact Fr.refl _ _
  clear_value x1
  extract_lets +onlyGivenNames x2
  extract_lets +onlyGivenNames x3
  extract_lets +onlyGivenNames x4
  have h4 : Fr 15216728 a0 x4 := by
    unfold x4
    refine fr_foldl ?_ (fun v5 y5 h5 => ?_)
    · exact h1
    · refine Fr.call fr_poisonEvents rfl ?_
      exact h5
  clear_value x4
  extract_lets +onlyGivenNames x6
  have h6 : Fr 15216728 a0 x6 := by
    unfold x6
    refine Fr.call fr_countSwap rfl ?_
    exact h4
  clear_value x6
  extract_lets +onlyGivenNames x7
  have h7 : Fr 15216728 a0 x7 := by
    unfold x7
    refine fr_ite (fun c8 => ?_) (fun c8 => ?_)
    · refine Fr.call fr_clearCores rfl ?_
      exact h6
    · exact h6
  clear_value x7
  refine Fr.call fr_modMoon rfl ?_
  exact h7

theorem fr_moveSegments {a0 a1 a2} :
    Fr 12582936 a0 (moveSegments a0 a1 a2) := by
  unfold moveSegments
  extract_lets +onlyGivenNames x0
  extract_lets +onlyGivenNames x1
  refine Fr.call fr_putImage rfl ?_
  refine Fr.call fr_clearCores rfl ?_
  exact Fr.refl _ _

theorem fr_demoteAll {a0 a1} :
    Fr 16 a0 (demoteAll a0 a1) := by
  unfold demoteAll
  refine fr_foldl ?_ (fun v0 y0 h0 => ?_)
  · exact Fr.refl _ _
  · refine Fr.call fr_demote rfl ?_
    exact h0

theorem fr_recheckSync {a0 a1 a2} :
    Fr 585844 a0 (recheckSync a0 a1 a2) := by
  unfold recheckSync
  split
  · rename_i i0 i1
    exact Fr.refl _ _
  · rename_i i2 i3 i4
    split
    · rename_i i5 i6
      exact Fr.refl _ _
    · rename_i i7 i8 i9
      extract_lets +onlyGivenNames x10
      refine Fr.call fr_failTask rfl ?_
      refine fr_ite (fun c11 => ?_) (fun c11 => ?_)
      · exact Fr.refl _ _
      · refine Fr.call fr_setRing rfl ?_
        exact Fr.refl _ _

theorem fr_applyResize {a0 a1 a2} :
    Fr 16314492 a0 (applyResize a0 a1 a2) := by
  unfold applyResize
  extract_lets +onlyGivenNames x0
  extract_lets +onlyGivenNames x1
  extract_lets +onlyGivenNames x2
  have h2 : Fr 16314492 a0 x2 := by
    unfold x2
    refine fr_ite (fun c3 => ?_) (fun c3 => ?_)
    · refine Fr.call fr_saveMoon rfl ?_
      refine Fr.call fr_modMoon rfl ?_
      exact Fr.refl _ _
    · exact Fr.refl _ _
  clear_value x2
  extract_lets +onlyGivenNames x4
  have h4 : Fr 16314492 a0 x4 := by
    unfold x4
    refine Fr.call fr_modMoon rfl ?_
    exact h2
  clear_value x4
  extract_lets +onlyGivenNames x5
  extract_lets +onlyGivenNames x6
  extract_lets +onlyGivenNames x7
  have h7 : Fr 16314492 a0 x7 := by
    unfold x7
    refine fr_ite (fun c8 => ?_) (fun c8 => ?_)
    · refine fr_ite (fun c9 => ?_) (fun c9 => ?_)
      · unfold x6
        refine Fr.call fr_modMoon rfl ?_
        exact h4
      · exact h4
    · refine fr_ite (fun c10 => ?_) (fun c10 => ?_)
      · refine Fr.call fr_clearCores rfl ?_
        unfold x6
        refine Fr.call fr_modMoon rfl ?_
        exact h4
      · refine fr_ite (fun c11 => ?_) (fun c11 => ?_)
        · exact h4
        · refine Fr.call fr_moveSegments rfl ?_
          exact h4
  clear_value x7
  extract_lets +onlyGivenNames x12
  have h12 : Fr 16314492 a0 x12 := by
    unfold x12
    refine Fr.call fr_resave rfl ?_
    exact h7
  clear_value x12
  extract_lets +onlyGivenNames x13
  have h13 : Fr 16314492 a0 x13 := by
    unfold x13
    refine Fr.call fr_modMoon rfl ?_
    exact h12
  clear_value x13
  extract_lets +onlyGivenNames x14
  extract_lets +onlyGivenNames x15
  have h15 : Fr 16314492 a0 x15 := by
    unfold x15
    refine fr_ite (fun c16 => ?_) (fun c16 => ?_)
    · refine Fr.call fr_grantBlocks rfl ?_
      exact h13
    · refine Fr.call fr_keepBlocks rfl ?_
      exact h13
  clear_value x15
  refine Fr.call fr_demoteAll rfl ?_
  refine fr_foldl ?_ (fun v17 y17 h17 => ?_)
  · exact h15
  · refine Fr.call fr_recheckSync rfl ?_
    exact h17

theorem fr_endWait {a0 a1} :
    Fr 545024 a0 (endWait a0 a1) := by
  unfold endWait
  extract_lets +onlyGivenNames x0
  have h0 : Fr 545024 a0 x0 := by
    unfold x0
    refine Fr.call fr_flushWait rfl ?_
    exact Fr.refl _ _
  clear_value x0
  refine Fr.call fr_setTrain rfl ?_
  exact h0

theorem fr_pipeHalt {a0 a1 a2 a3 a4} :
    Fr 545024 a0 (pipeHalt a0 a1 a2 a3 a4) := by
  unfold pipeHalt
  extract_lets +onlyGivenNames x0
  have h0 : Fr 545024 a0 x0 := by
    unfold x0
    refine Fr.call fr_endWait rfl ?_
    exact Fr.refl _ _
  clear_value x0
  extract_lets +onlyGivenNames x1
  extract_lets +onlyGivenNames x2
  have h2 : Fr 545024 a0 x2 := by
    unfold x2
    refine Fr.call fr_setTrain rfl ?_
    exact h0
  clear_value x2
  refine Fr.call fr_raiseMoon rfl ?_
  exact h2

theorem fr_pipeResized {a0 a1} :
    Fr 545056 a0 (pipeResized a0 a1) := by
  unfold pipeResized
  extract_lets +onlyGivenNames x0
  refine fr_ite (fun c1 => ?_) (fun c1 => ?_)
  · extract_lets +onlyGivenNames x2
    extract_lets +onlyGivenNames x3
    have h3 : Fr 545056 a0 x3 := by
      unfold x3
      refine Fr.lit ?_
      exact Fr.refl _ _
    clear_value x3
    refine Fr.call fr_pipeHalt rfl ?_
    refine Fr.call fr_setTrain rfl ?_
    exact h3
  · exact Fr.refl _ _

theorem fr_finishResize {a0 a1 a2} :
    Fr 16314748 a0 (finishResize a0 a1 a2) := by
  unfold finishResize
  extract_lets +onlyGivenNames x0
  extract_lets +onlyGivenNames x1
  extract_lets +onlyGivenNames x2
  refine fr_ite (fun c3 => ?_) (fun c3 => ?_)
  · refine Fr.call fr_endJob rfl ?_
    refine Fr.call fr_modMoon rfl ?_
    exact Fr.refl _ _
  · extract_lets +onlyGivenNames x4
    have h4 : Fr 16314748 a0 x4 := by
      unfold x4
      refine Fr.call fr_applyResize rfl ?_
      exact Fr.refl _ _
    clear_value x4
    extract_lets +onlyGivenNames x5
    extract_lets +onlyGivenNames x6
    extract_lets +onlyGivenNames x7
    have h7 : Fr 16314748 a0 x7 := by
      unfold x7
      refine Fr.call fr_pipeResized rfl ?_
      refine Fr.call fr_modMoon rfl ?_
      exact h4
    clear_value x7
    refine Fr.call fr_offerCores rfl ?_
    refine Fr.call fr_offerCores rfl ?_
    refine Fr.call fr_endJob rfl ?_
    exact h7

theorem fr_endRestore {a0 a1} :
    Fr 536640 a0 (endRestore a0 a1) := by
  unfold endRestore
  extract_lets +onlyGivenNames x0
  have h0 : Fr 536640 a0 x0 := by
    unfold x0
    refine fr_ite (fun c1 => ?_) (fun c1 => ?_)
    · refine Fr.call fr_countSwap rfl ?_
      exact Fr.refl _ _
    · exact Fr.refl _ _
  clear_value x0
  refine Fr.call fr_modMoon rfl ?_
  exact h0

theorem fr_sendCtl {a0 a1 a2 a3} :
    Fr 525312 a0 (sendCtl a0 a1 a2 a3) := by
  unfold sendCtl
  extract_lets +onlyGivenNames x0
  refine Fr.call fr_offerCtl rfl ?_
  refine Fr.call fr_emit rfl ?_
  exact Fr.refl _ _

theorem fr_withdrawArrivals {a0 a1} :
    Fr 527360 a0 (withdrawArrivals a0 a1) := by
  unfold withdrawArrivals
  extract_lets +onlyGivenNames x0
  extract_lets +onlyGivenNames x1
  extract_lets +onlyGivenNames x2
  have h2 : Fr 527360 a0 x2 := by
    unfold x2
    refine Fr.lit ?_
    exact Fr.refl _ _
  clear_value x2
  refine fr_foldl ?_ (fun v3 y3 h3 => ?_)
  · exact h2
  · split
    · rename_i i4 i5 i6
      refine Fr.call fr_sendCtl rfl ?_
      exact h3
    · rename_i i7 i8
      exact h3

theorem fr_cometStop {a0 a1} :
    Fr 16 a0 (cometStop a0 a1) := by
  unfold cometStop
  refine Fr.lit ?_
  exact Fr.refl _ _

theorem fr_returnHeld {a0 a1 a2} :
    Fr 525312 a0 (returnHeld a0 a1 a2) := by
  unfold returnHeld
  refine Fr.call fr_returnSome rfl ?_
  exact Fr.refl _ _

theorem fr_stopMoon {a0 a1} :
    Fr 528304 a0 (stopMoon a0 a1) := by
  unfold stopMoon
  extract_lets +onlyGivenNames x0
  have h0 : Fr 528304 a0 x0 := by
    unfold x0
    refine Fr.call fr_withdrawArrivals rfl ?_
    refine Fr.call fr_cometStop rfl ?_
    exact Fr.refl _ _
  clear_value x0
  extract_lets +onlyGivenNames x1
  have h1 : Fr 528304 a0 x1 := by
    unfold x1
    refine fr_foldl ?_ (fun v2 y2 h2 => ?_)
    · exact h0
    · refine Fr.call fr_returnCredit rfl ?_
      exact h2
  clear_value x1
  extract_lets +onlyGivenNames x3
  have h3 : Fr 528304 a0 x3 := by
    unfold x3
    refine fr_foldl ?_ (fun v4 y4 h4 => ?_)
    · exact h1
    · refine Fr.call fr_returnHeld rfl ?_
      exact h4
  clear_value x3
  refine Fr.lit ?_
  exact h3

theorem fr_closeCredit {a0 a1} :
    Fr 1024 a0 (closeCredit a0 a1) := by
  unfold closeCredit
  refine Fr.lit ?_
  exact Fr.refl _ _

theorem fr_freeMoon {a0 a1} :
    Fr 16449532 a0 (freeMoon a0 a1) := by
  unfold freeMoon
  extract_lets +onlyGivenNames x0
  have h0 : Fr 16449532 a0 x0 := by
    unfold x0
    refine Fr.call fr_clearCores rfl ?_
    refine Fr.call fr_stopMoon rfl ?_
    exact Fr.refl _ _
  clear_value x0
  extract_lets +onlyGivenNames x1
  extract_lets +onlyGivenNames x2
  extract_lets +onlyGivenNames x3
  have h3 : Fr 16449532 a0 x3 := by
    unfold x3
    refine Fr.lit ?_
    exact h0
  clear_value x3
  extract_lets +onlyGivenNames x4
  have h4 : Fr 16449532 a0 x4 := by
    unfold x4
    refine fr_foldl ?_ (fun v5 y5 h5 => ?_)
    · exact h3
    · refine fr_ite (fun c6 => ?_) (fun c6 => ?_)
      · refine Fr.call fr_freePage rfl ?_
        exact h5
      · exact h5
  clear_value x4
  extract_lets +onlyGivenNames x7
  have h7 : Fr 16449532 a0 x7 := by
    unfold x7
    refine Fr.call fr_keepBlocks rfl ?_
    refine Fr.call fr_resave rfl ?_
    exact h4
  clear_value x7
  extract_lets +onlyGivenNames x8
  extract_lets +onlyGivenNames x9
  extract_lets +onlyGivenNames x10
  extract_lets +onlyGivenNames x11
  have h11 : Fr 16449532 a0 x11 := by
    unfold x11
    refine Fr.call fr_setMoon rfl ?_
    exact h7
  clear_value x11
  refine Fr.call fr_clearCounters rfl ?_
  refine Fr.call fr_closeCredit rfl ?_
  exact h11

theorem fr_closeSpan {a0 a1 a2 a3} :
    Fr 569408 a0 (closeSpan a0 a1 a2 a3) := by
  unfold closeSpan
  extract_lets +onlyGivenNames x0
  extract_lets +onlyGivenNames x1
  refine fr_ite (fun c2 => ?_) (fun c2 => ?_)
  · exact Fr.refl _ _
  · extract_lets +onlyGivenNames x3
    extract_lets +onlyGivenNames x4
    have h4 : Fr 569408 a0 x4 := by
      unfold x4
      refine Fr.call fr_setMoon rfl ?_
      exact Fr.refl _ _
    clear_value x4
    extract_lets +onlyGivenNames x5
    have h5 : Fr 569408 a0 x5 := by
      unfold x5
      refine Fr.call fr_incA rfl ?_
      refine Fr.call fr_incA rfl ?_
      refine Fr.call fr_incA rfl ?_
      refine Fr.call fr_incA rfl ?_
      refine Fr.call fr_incA rfl ?_
      exact h4
    clear_value x5
    refine Fr.call fr_jAppend rfl ?_
    exact h5

theorem fr_releaseMoon {a0 a1} :
    Fr 16449532 a0 (releaseMoon a0 a1) := by
  unfold releaseMoon
  extract_lets +onlyGivenNames x0
  extract_lets +onlyGivenNames x1
  have h1 : Fr 16449532 a0 x1 := by
    unfold x1
    refine fr_ite (fun c2 => ?_) (fun c2 => ?_)
    · refine Fr.call fr_openSpanAt rfl ?_
      exact Fr.refl _ _
    · exact Fr.refl _ _
  clear_value x1
  refine Fr.call fr_freeMoon rfl ?_
  refine Fr.call fr_closeSpan rfl ?_
  exact h1

theorem fr_beginSpill {a0 a1} :
    Fr 544880 a0 (beginSpill a0 a1) := by
  unfold beginSpill
  extract_lets +onlyGivenNames x0
  extract_lets +onlyGivenNames x1
  have h1 : Fr 544880 a0 x1 := by
    unfold x1
    refine Fr.lit ?_
    exact Fr.refl _ _
  clear_value x1
  refine Fr.call fr_incB rfl ?_
  refine Fr.call fr_cometStop rfl ?_
  refine Fr.call fr_modMoon rfl ?_
  exact h1

theorem fr_completeM8 {a0 a1} :
    Fr 15266940 a0 (completeM8 a0 a1) := by
  unfold completeM8
  extract_lets +onlyGivenNames x0
  have h0 : Fr 15266940 a0 x0 := by
    unfold x0
    refine fr_ite (fun c1 => ?_) (fun c1 => ?_)
    · exact Fr.refl _ _
    · refine Fr.call fr_restoreMoon rfl ?_
      exact Fr.refl _ _
  clear_value x0
  extract_lets +onlyGivenNames x2
  have h2 : Fr 15266940 a0 x2 := by
    unfold x2
    refine Fr.call fr_openSpan rfl ?_
    refine Fr.call fr_modMoon rfl ?_
    exact h0
  clear_value x2
  refine Fr.call fr_offerCores rfl ?_
  refine Fr.call fr_offerCores rfl ?_
  exact h2

theorem fr_queryPeer {a0 a1} :
    Fr 525312 a0 (queryPeer a0 a1) := by
  unfold queryPeer
  refine Fr.call fr_handshake rfl ?_
  exact Fr.refl _ _

theorem fr_runJob {a0 a1} :
    Fr 16449532 a0 (runJob a0 a1) := by
  unfold runJob
  split
  · rename_i i0 i1
    exact Fr.refl _ _
  · rename_i i2 i3 i4
    extract_lets +onlyGivenNames x5
    extract_lets +onlyGivenNames x6
    have h6 : Fr 16449532 a0 x6 := by
      unfold x6
      refine Fr.call fr_modMoon rfl ?_
      refine Fr.call fr_setStatus rfl ?_
      exact Fr.refl _ _
    clear_value x6
    refine fr_ite (fun c7 => ?_) (fun c7 => ?_)
    · refine Fr.call fr_endJob rfl ?_
      exact h6
    · split
      · rename_i i8 i9
        extract_lets +onlyGivenNames x10
        refine fr_ite (fun c11 => ?_) (fun c11 => ?_)
        · refine Fr.call fr_endJob rfl ?_
          exact h6
        · refine Fr.call fr_takeIn rfl ?_
          exact h6
      · rename_i i12 i13
        extract_lets +onlyGivenNames x14
        refine fr_ite (fun c15 => ?_) (fun c15 => ?_)
        · refine Fr.call fr_endJob rfl ?_
          exact h6
        · refine Fr.call fr_takeIn rfl ?_
          exact h6
      · rename_i i16 i17
        extract_lets +onlyGivenNames x18
        refine fr_ite (fun c19 => ?_) (fun c19 => ?_)
        · refine Fr.call fr_endJob rfl ?_
          exact h6
        · extract_lets +onlyGivenNames x20
          have h20 : Fr 16449532 a0 x20 := by
            unfold x20
            refine Fr.call fr_modMoon rfl ?_
            exact h6
          clear_value x20
          refine fr_ite (fun c21 => ?_) (fun c21 => ?_)
          · refine Fr.call fr_finishResize rfl ?_
            refine Fr.call fr_endRestore rfl ?_
            exact h20
          · exact h20
      · rename_i i22 i23
        refine fr_ite (fun c24 => ?_) (fun c24 => ?_)
        · refine Fr.call fr_endJob rfl ?_
          exact h6
        · refine Fr.call fr_endJob rfl ?_
          refine Fr.call fr_releaseMoon rfl ?_
          exact h6
      · rename_i i25 i26
        refine fr_ite (fun c27 => ?_) (fun c27 => ?_)
        · refine Fr.call fr_endJob rfl ?_
          refine Fr.call fr_endRestore rfl ?_
          refine Fr.call fr_modMoon rfl ?_
          exact h6
        · refine Fr.call fr_beginSpill rfl ?_
          refine Fr.call fr_modMoon rfl ?_
          exact h6
      · rename_i i28 i29
        refine fr_ite (fun c30 => ?_) (fun c30 => ?_)
        · refine fr_ite (fun c31 => ?_) (fun c31 => ?_)
          · refine Fr.call fr_endJob rfl ?_
            refine Fr.call fr_completeM8 rfl ?_
            exact h6
          · refine Fr.call fr_endJob rfl ?_
            exact h6
        · refine fr_ite (fun c32 => ?_) (fun c32 => ?_)
          · refine Fr.call fr_endJob rfl ?_
            exact h6
          · refine fr_ite (fun c33 => ?_) (fun c33 => ?_)
            · extract_lets +onlyGivenNames x34
              have h34 : Fr 16449532 a0 x34 := by
                unfold x34
                refine fr_ite (fun c35 => ?_) (fun c35 => ?_)
                · refine Fr.call fr_modMoon rfl ?_
                  exact h6
                · refine Fr.call fr_endSpill rfl ?_
                  exact h6
              clear_value x34
              refine Fr.call fr_offerCores rfl ?_
              refine Fr.call fr_offerCores rfl ?_
              refine Fr.call fr_endJob rfl ?_
              exact h34
            · refine Fr.call fr_modMoon rfl ?_
              exact h6
      · rename_i i36 i37
        refine fr_ite (fun c38 => ?_) (fun c38 => ?_)
        · refine Fr.call fr_endJob rfl ?_
          exact h6
        · extract_lets +onlyGivenNames x39
          have h39 : Fr 16449532 a0 x39 := by
            unfold x39
            refine fr_ite (fun c40 => ?_) (fun c40 => ?_)
            · refine Fr.call fr_endRestore rfl ?_
              exact h6
            · exact h6
          clear_value x39
          refine Fr.call fr_queryPeer rfl ?_
          refine Fr.call fr_modMoon rfl ?_
          exact h39
      · rename_i i41 i42
        refine Fr.call fr_endJob rfl ?_
        refine Fr.call fr_openSpan rfl ?_
        refine Fr.call fr_modMoon rfl ?_
        exact h6
      · rename_i i43 i44
        refine Fr.call fr_endJob rfl ?_
        exact h6

theorem fr_moonWrite {a0 a1 a2 a3 a4} :
    onOk (fun b => Fr 16449532 a4 b) (moonWrite a0 a1 a2 a3 a4) := by
  unfold moonWrite
  extract_lets +onlyGivenNames x0
  extract_lets +onlyGivenNames x1
  refine onOk_ite (fun c2 => ?_) (fun c2 => ?_)
  · exact onOk_error
  · refine onOk_ite (fun c3 => ?_) (fun c3 => ?_)
    · refine onOk_ok ?_
      refine Fr.call fr_endCmd rfl ?_
      exact Fr.refl _ _
    · extract_lets +onlyGivenNames x4
      have h4 : Fr 16449532 a4 x4 := by
        unfold x4
        refine Fr.call fr_setStatus rfl ?_
        refine Fr.call fr_giveWay rfl ?_
        exact Fr.refl _ _
      clear_value x4
      extract_lets +onlyGivenNames x5
      have h5 : Fr 16449532 a4 x5 := by
        unfold x5
        refine Fr.call fr_modMoon rfl ?_
        exact h4
      clear_value x5
      refine onOk_ok ?_
      refine fr_ite (fun c6 => ?_) (fun c6 => ?_)
      · exact h5
      · refine Fr.call fr_runJob rfl ?_
        exact h5

theorem fr_cancelCmd {a0 a1 a2 a3} :
    onOk (fun b => Fr 16315516 a3 b) (cancelCmd a0 a1 a2 a3) := by
  unfold cancelCmd
  extract_lets +onlyGivenNames x0
  split
  · rename_i i1 i2
    refine onOk_ok ?_
    refine Fr.call fr_endCmd rfl ?_
    exact Fr.refl _ _
  · rename_i i3 i4 i5
    refine onOk_ite (fun c6 => ?_) (fun c6 => ?_)
    · exact onOk_error
    · refine onOk_ite (fun c7 => ?_) (fun c7 => ?_)
      · refine onOk_ok ?_
        refine Fr.call fr_endCmd rfl ?_
        exact Fr.refl _ _
      · refine onOk_ite (fun c8 => ?_) (fun c8 => ?_)
        · refine onOk_ok ?_
          refine Fr.call fr_endCmd rfl ?_
          exact Fr.refl _ _
        · refine onOk_ok ?_
          refine Fr.call fr_endCmd rfl ?_
          refine Fr.call fr_giveWay rfl ?_
          exact Fr.refl _ _

theorem fr_writeMoonCmd {a0 a1 a2 a3} :
    onOk (fun b => Fr 16449532 a3 b) (writeMoonCmd a0 a1 a2 a3) := by
  unfold writeMoonCmd
  extract_lets +onlyGivenNames x0
  split
  · rename_i i1 i2
    refine onOk_call fr_moonWrite rfl ?_
    exact Fr.refl _ _
  · rename_i i3 i4
    refine onOk_call fr_moonWrite rfl ?_
    exact Fr.refl _ _
  · rename_i i5 i6
    refine onOk_call fr_moonWrite rfl ?_
    exact Fr.refl _ _
  · rename_i i7 i8
    refine onOk_call fr_moonWrite rfl ?_
    exact Fr.refl _ _
  · rename_i i9 i10
    refine onOk_call fr_moonWrite rfl ?_
    exact Fr.refl _ _
  · rename_i i11 i12
    refine onOk_call fr_moonWrite rfl ?_
    exact Fr.refl _ _
  · rename_i i13 i14
    refine onOk_call fr_moonWrite rfl ?_
    exact Fr.refl _ _
  · rename_i i15 i16
    refine onOk_call fr_moonWrite rfl ?_
    exact Fr.refl _ _
  · rename_i i17 i18
    refine onOk_call fr_cancelCmd rfl ?_
    exact Fr.refl _ _
  · rename_i i19 i20 i21 i22 i23 i24 i25 i26 i27 i28
    refine onOk_ite (fun c29 => ?_) (fun c29 => ?_)
    · exact onOk_error
    · extract_lets +onlyGivenNames x30
      refine onOk_ok ?_
      refine Fr.call fr_raiseWriter rfl ?_
      refine Fr.call fr_modMoon rfl ?_
      exact Fr.refl _ _

theorem fr_tlbDrop {a0 a1 a2} :
    Fr 16 a0 (tlbDrop a0 a1 a2) := by
  unfold tlbDrop
  refine Fr.lit ?_
  exact Fr.refl _ _

theorem fr_setEntry {a0 a1 a2 a3} :
    Fr 80 a0 (setEntry a0 a1 a2 a3) := by
  unfold setEntry
  refine Fr.call fr_tlbDrop rfl ?_
  refine Fr.call fr_modMoon rfl ?_
  exact Fr.refl _ _

theorem fr_enterPages {a0 a1 a2 a3 a4} :
    Fr 80 a0 (enterPages a0 a1 a2 a3 a4) := by
  unfold enterPages
  refine fr_foldl ?_ (fun v0 y0 h0 => ?_)
  · exact Fr.refl _ _
  · refine Fr.call fr_setEntry rfl ?_
    exact h0

theorem fr_dropLines {a0 a1 a2} :
    Fr 2097168 a0 (dropLines a0 a1 a2) := by
  unfold dropLines
  refine fr_foldl ?_ (fun v0 y0 h0 => ?_)
  · exact Fr.refl _ _
  · refine Fr.call fr_mscDiscard rfl ?_
    exact h0

theorem fr_unmapPages {a0 a1 a2} :
    Fr 2666580 a0 (unmapPages a0 a1 a2) := by
  unfold unmapPages
  refine fr_foldl ?_ (fun v0 y0 h0 => ?_)
  · exact Fr.refl _ _
  · split
    · rename_i i1 i2
      exact h0
    · rename_i i3 i4 i5
      extract_lets +onlyGivenNames x6
      extract_lets +onlyGivenNames x7
      have h7 : Fr 2666580 a0 x7 := by
        unfold x7
        refine Fr.call fr_dropLines rfl ?_
        refine Fr.call fr_tlbDrop rfl ?_
        refine Fr.call fr_modMoon rfl ?_
        exact h0
      clear_value x7
      extract_lets +onlyGivenNames x8
      refine fr_ite (fun c9 => ?_) (fun c9 => ?_)
      · refine Fr.call fr_freePage rfl ?_
        exact h7
      · exact h7

theorem fr_pageAct {a0 a1 a2 a3} :
    Fr 3715156 a3 (pageAct a0 a1 a2 a3).2 := by
  unfold pageAct
  extract_lets +onlyGivenNames x0
  split
  · rename_i i1
    refine fr_snd ?_
    exact Fr.refl _ _
  · rename_i i2
    split
    · rename_i i3
      refine fr_snd ?_
      exact Fr.refl _ _
    · rename_i i4
      split
      · rename_i i5
        split
        · rename_i i6
          refine fr_snd ?_
          exact Fr.refl _ _
        · rename_i i7
          split
          · rename_i i8
            refine fr_snd ?_
            exact Fr.refl _ _
          · rename_i i9
            split
            · rename_i i10 i11 i12 i13
              have h14 := fr_eq fr_grantPages i13
              split
              · rename_i i15
                refine fr_snd ?_
                exact Fr.refl _ _
              · rename_i i16
                refine fr_snd ?_
                refine Fr.call fr_enterPages rfl ?_
                refine Fr.call h14 rfl ?_
                exact Fr.refl _ _
      · rename_i i17
        extract_lets +onlyGivenNames x18
        split
        · rename_i i19
          refine fr_snd ?_
          exact Fr.refl _ _
        · rename_i i20
          split
          · rename_i i21
            refine fr_snd ?_
            exact Fr.refl _ _
          · rename_i i22
            refine fr_snd ?_
            refine Fr.call fr_unmapPages rfl ?_
            exact Fr.refl _ _
      · rename_i i23
        split
        · rename_i i24
          refine fr_snd ?_
          exact Fr.refl _ _
        · rename_i i25
          extract_lets +onlyGivenNames x26
          refine fr_snd ?_
          refine fr_foldl ?_ (fun v27 y27 h27 => ?_)
          · refine Fr.call fr_modMoon rfl ?_
            exact Fr.refl _ _
          · refine Fr.call fr_tlbDrop rfl ?_
            exact h27
      · rename_i i28 i29 i30 i31
        extract_lets +onlyGivenNames x32
        split
        · rename_i i33
          refine fr_snd ?_
          exact Fr.refl _ _
        · rename_i i34
          split
          · rename_i i35 i36 i37 i38
            have h39 := fr_eq fr_grantPages i38
            split
            · rename_i i40
              refine fr_snd ?_
              exact Fr.refl _ _
            · rename_i i41
              refine fr_snd ?_
              refine fr_foldl ?_ (fun v42 y42 h42 => ?_)
              · refine Fr.call h39 rfl ?_
                exact Fr.refl _ _
              · extract_lets +onlyGivenNames x43
                refine Fr.call fr_freePage rfl ?_
                refine Fr.call fr_dropLines rfl ?_
                refine Fr.call fr_setEntry rfl ?_
                exact h42

theorem fr_pageReq {a0 a1 a2 a3 a4} :
    onOk (fun b => Fr 3715156 a4 b) (pageReq a0 a1 a2 a3 a4) := by
  unfold pageReq
  split
  · rename_i i0 i1 i2 i3
    have h4 := fr_eq fr_pageAct i3
    extract_lets +onlyGivenNames x5
    refine onOk_ok ?_
    refine Fr.call fr_raiseWriter rfl ?_
    refine Fr.call fr_modMoon rfl ?_
    exact h4

theorem fr_setServe {a0 a1 a2} :
    Fr 128 a0 (setServe a0 a1 a2) := by
  unfold setServe
  refine Fr.lit ?_
  exact Fr.refl _ _

theorem fr_modServe {a0 a1 a2} :
    Fr 128 a0 (modServe a0 a1 a2) := by
  unfold modServe
  refine Fr.call fr_setServe rfl ?_
  exact Fr.refl _ _

theorem fr_setSlot {a0 a1 a2 a3} :
    Fr 128 a0 (setSlot a0 a1 a2 a3) := by
  unfold setSlot
  refine Fr.call fr_modServe rfl ?_
  exact Fr.refl _ _

theorem fr_swapCmd {a0 a1 a2 a3} :
    onOk (fun b => Fr 128 a3 b) (swapCmd a0 a1 a2 a3) := by
  unfold swapCmd
  extract_lets +onlyGivenNames x0
  refine onOk_ite (fun c1 => ?_) (fun c1 => ?_)
  · exact onOk_error
  · refine onOk_ok ?_
    refine Fr.call fr_setSlot rfl ?_
    exact Fr.refl _ _

theorem fr_cancelSwapCmd {a0 a1 a2 a3} :
    onOk (fun b => Fr 128 a3 b) (cancelSwapCmd a0 a1 a2 a3) := by
  unfold cancelSwapCmd
  refine onOk_ok ?_
  refine Fr.call fr_setSlot rfl ?_
  exact Fr.refl _ _

theorem fr_unloadCmd {a0 a1 a2 a3} :
    onOk (fun b => Fr 128 a3 b) (unloadCmd a0 a1 a2 a3) := by
  unfold unloadCmd
  refine onOk_ok ?_
  refine Fr.call fr_setSlot rfl ?_
  exact Fr.refl _ _

theorem fr_retireCmd {a0 a1 a2 a3} :
    onOk (fun b => Fr 128 a3 b) (retireCmd a0 a1 a2 a3) := by
  unfold retireCmd
  extract_lets +onlyGivenNames x0
  refine onOk_ok ?_
  refine Fr.call fr_setSlot rfl ?_
  exact Fr.refl _ _

theorem fr_writeModelCmd {a0 a1 a2 a3} :
    onOk (fun b => Fr 128 a3 b) (writeModelCmd a0 a1 a2 a3) := by
  unfold writeModelCmd
  extract_lets +onlyGivenNames x0
  split
  · rename_i i1 i2
    refine onOk_call fr_swapCmd rfl ?_
    exact Fr.refl _ _
  · rename_i i3 i4
    refine onOk_call fr_cancelSwapCmd rfl ?_
    exact Fr.refl _ _
  · rename_i i5 i6
    refine onOk_call fr_unloadCmd rfl ?_
    exact Fr.refl _ _
  · rename_i i7 i8
    refine onOk_call fr_retireCmd rfl ?_
    exact Fr.refl _ _
  · rename_i i9 i10 i11 i12 i13
    exact onOk_error

theorem fr_fetchStatus {a0 a1 a2 a3 a4 a5} :
    Fr 528896 a0 (fetchStatus a0 a1 a2 a3 a4 a5) := by
  unfold fetchStatus
  extract_lets +onlyGivenNames x0
  refine Fr.call fr_raiseWriter rfl ?_
  refine Fr.lit ?_
  exact Fr.refl _ _

theorem fr_addVersion {a0 a1 a2 a3 a4 a5} :
    Fr 128 a0 (addVersion a0 a1 a2 a3 a4 a5) := by
  unfold addVersion
  extract_lets +onlyGivenNames x0
  extract_lets +onlyGivenNames x1
  extract_lets +onlyGivenNames x2
  extract_lets +onlyGivenNames x3
  refine Fr.call fr_setSlot rfl ?_
  exact Fr.refl _ _

theorem fr_attach {a0 a1 a2} :
    Fr 720 a0 (attach a0 a1 a2).2 := by
  unfold attach
  extract_lets +onlyGivenNames x0
  extract_lets +onlyGivenNames x1
  extract_lets +onlyGivenNames x2
  split
  · rename_i i3
    refine fr_snd ?_
    exact Fr.refl _ _
  · rename_i i4
    split
    · rename_i i5
      refine fr_snd ?_
      exact Fr.refl _ _
    · rename_i i6
      extract_lets +onlyGivenNames x7
      have h7 : Fr 720 a0 x7 := by
        unfold x7
        refine fr_foldl ?_ (fun v8 y8 h8 => ?_)
        · exact Fr.refl _ _
        · split
          · rename_i i9 i10 i11
            refine Fr.call fr_setEntry rfl ?_
            exact h8
          · rename_i i12 i13
            exact h8
      clear_value x7
      extract_lets +onlyGivenNames x14
      extract_lets +onlyGivenNames x15
      have h15 : Fr 720 a0 x15 := by
        unfold x15
        refine Fr.lit ?_
        exact h7
      clear_value x15
      extract_lets +onlyGivenNames x16
      refine fr_snd ?_
      refine Fr.call fr_addVersion rfl ?_
      exact h15

theorem fr_dropShared {a0 a1} :
    Fr 2667092 a0 (dropShared a0 a1).2 := by
  unfold dropShared
  extract_lets +onlyGivenNames x0
  split
  · rename_i i1
    refine fr_snd ?_
    exact Fr.refl _ _
  · rename_i i2
    extract_lets +onlyGivenNames x3
    have h3 : Fr 2667092 a0 x3 := by
      unfold x3
      refine Fr.call fr_unmapPages rfl ?_
      exact Fr.refl _ _
    clear_value x3
    refine fr_snd ?_
    refine Fr.lit ?_
    exact h3

theorem fr_startFetch {a0 a1 a2 a3 a4} :
    Fr 8832 a0 (startFetch a0 a1 a2 a3 a4) := by
  unfold startFetch
  extract_lets +onlyGivenNames x0
  extract_lets +onlyGivenNames x1
  extract_lets +onlyGivenNames x2
  have h2 : Fr 8832 a0 x2 := by
    unfold x2
    refine fr_ite (fun c3 => ?_) (fun c3 => ?_)
    · refine Fr.call fr_setSlot rfl ?_
      exact Fr.refl _ _
    · exact Fr.refl _ _
  clear_value x2
  extract_lets +onlyGivenNames x4
  extract_lets +onlyGivenNames x5
  extract_lets +onlyGivenNames x6
  have h6 : Fr 8832 a0 x6 := by
    unfold x6
    refine Fr.lit ?_
    exact h2
  clear_value x6
  refine Fr.call fr_setParam rfl ?_
  exact h6

theorem fr_fetchCmd {a0 a1 a2 a3 a4} :
    onOk (fun b => Fr 2667220 a4 b) (fetchCmd a0 a1 a2 a3 a4) := by
  have hs : ∀ {s : State} {o k}, Fr 2667220 s (fetchStatus s a2 a1 o a3.fetchId k) := Fr.up fr_fetchStatus rfl
  have hb : ∀ {o : FetchOp}, onOk (fun b => Fr 2667220 a4 b) (if (a3.bar4 && a4.fetch.bar4Owner.isSome) = true
      then (.ok (fetchStatus a4 a2 a1 o a3.fetchId 0xF) : Except Nat State) else .ok (startFetch a4 o a1 a2 a3)) := fun {o} => by
    refine onOk_ite (fun _ => ?_) (fun _ => ?_)
    · exact onOk_ok hs
    · exact onOk_ok (Fr.up fr_startFetch rfl)
  unfold fetchCmd
  refine onOk_ite (fun _ => ?_) (fun _ => ?_)
  · exact onOk_error
  · refine onOk_ite (fun _ => ?_) (fun _ => ?_)
    · exact onOk_ok hs
    · refine onOk_ite (fun _ => ?_) (fun _ => ?_)
      · exact onOk_ok hs
      · cases a0
        · exact hb
        · exact hb
        · exact hb
        · rcases q : attach a4 a2 a3 with ⟨k, t⟩
          exact onOk_ok (hs.call rfl (Fr.up (fr_elim2 q fr_attach) rfl))
        · rcases q : dropShared a4 a3 with ⟨k, t⟩
          exact onOk_ok (hs.call rfl (Fr.up (fr_elim2 q fr_dropShared) rfl))
        · exact hb

theorem fr_fetchCancelCmd {a0 a1 a2 a3} :
    onOk (fun b => Fr 528896 a3 b) (fetchCancelCmd a0 a1 a2 a3) := by
  unfold fetchCancelCmd
  split
  · rename_i i0 i1
    refine onOk_ok ?_
    refine Fr.call fr_fetchStatus rfl ?_
    exact Fr.refl _ _
  · rename_i i2 i3 i4
    refine onOk_ok ?_
    refine fr_ite (fun c5 => ?_) (fun c5 => ?_)
    · refine Fr.call fr_fetchStatus rfl ?_
      exact Fr.refl _ _
    · refine Fr.lit ?_
      exact Fr.refl _ _

theorem fr_writeFetchCmd {a0 a1 a2 a3} :
    onOk (fun b => Fr 2667220 a3 b) (writeFetchCmd a0 a1 a2 a3) := by
  unfold writeFetchCmd
  extract_lets +onlyGivenNames x0
  split
  · rename_i i1 i2
    refine onOk_call fr_fetchCmd rfl ?_
    exact Fr.refl _ _
  · rename_i i3 i4
    refine onOk_call fr_fetchCmd rfl ?_
    exact Fr.refl _ _
  · rename_i i5 i6
    refine onOk_call fr_fetchCmd rfl ?_
    exact Fr.refl _ _
  · rename_i i7 i8
    refine onOk_call fr_fetchCmd rfl ?_
    exact Fr.refl _ _
  · rename_i i9 i10
    refine onOk_call fr_fetchCmd rfl ?_
    exact Fr.refl _ _
  · rename_i i11 i12
    refine onOk_call fr_fetchCancelCmd rfl ?_
    exact Fr.refl _ _
  · rename_i i13 i14 i15 i16 i17 i18 i19
    refine onOk_ite (fun c20 => ?_) (fun c20 => ?_)
    · exact onOk_error
    · extract_lets +onlyGivenNames x21
      refine onOk_ok ?_
      refine Fr.call fr_raiseWriter rfl ?_
      refine Fr.lit ?_
      exact Fr.refl _ _

theorem fr_writeGns {a0 a1 a2} :
    onOk (fun b => Fr 256 a2 b) (writeGns a0 a1 a2) := by
  unfold writeGns
  refine onOk_ite (fun c0 => ?_) (fun c0 => ?_)
  · exact onOk_error
  · extract_lets +onlyGivenNames x1
    refine onOk_ok ?_
    refine Fr.call fr_setTrain rfl ?_
    exact Fr.refl _ _

theorem fr_modTrain {a0 a1 a2} :
    Fr 256 a0 (modTrain a0 a1 a2) := by
  unfold modTrain
  refine Fr.call fr_setTrain rfl ?_
  exact Fr.refl _ _

theorem fr_endTurn {a0 a1 a2 a3} :
    Fr 528640 a0 (endTurn a0 a1 a2 a3) := by
  unfold endTurn
  extract_lets +onlyGivenNames x0
  have h0 : Fr 528640 a0 x0 := by
    unfold x0
    refine Fr.call fr_modTrain rfl ?_
    exact Fr.refl _ _
  clear_value x0
  refine Fr.call fr_raiseMoon rfl ?_
  exact h0

theorem fr_turnCmd {a0 a1 a2 a3 a4} :
    onOk (fun b => Fr 528640 a4 b) (turnCmd a0 a1 a2 a3 a4) := by
  unfold turnCmd
  extract_lets +onlyGivenNames x0
  refine onOk_ite (fun c1 => ?_) (fun c1 => ?_)
  · refine onOk_ok ?_
    refine Fr.call fr_setTrain rfl ?_
    exact Fr.refl _ _
  · refine onOk_ite (fun c2 => ?_) (fun c2 => ?_)
    · refine onOk_ok ?_
      refine Fr.call fr_endTurn rfl ?_
      exact Fr.refl _ _
    · refine onOk_ite (fun c3 => ?_) (fun c3 => ?_)
      · refine onOk_ok ?_
        refine Fr.call fr_endTurn rfl ?_
        exact Fr.refl _ _
      · refine onOk_ite (fun c4 => ?_) (fun c4 => ?_)
        · refine onOk_ok ?_
          refine Fr.call fr_endTurn rfl ?_
          exact Fr.refl _ _
        · refine onOk_ok ?_
          refine Fr.call fr_setTrain rfl ?_
          exact Fr.refl _ _

theorem fr_turnCancelCmd {a0 a1} :
    onOk (fun b => Fr 528640 a1 b) (turnCancelCmd a0 a1) := by
  unfold turnCancelCmd
  extract_lets +onlyGivenNames x0
  split
  · rename_i i1 i2 i3 i4 i5
    refine onOk_ite (fun c6 => ?_) (fun c6 => ?_)
    · refine onOk_ok ?_
      refine Fr.call fr_endTurn rfl ?_
      exact Fr.refl _ _
    · refine onOk_ok ?_
      refine Fr.call fr_setTrain rfl ?_
      exact Fr.refl _ _
  · rename_i i7 i8
    refine onOk_ok ?_
    exact Fr.refl _ _

theorem fr_writeTurnCmd {a0 a1 a2 a3} :
    onOk (fun b => Fr 528640 a3 b) (writeTurnCmd a0 a1 a2 a3) := by
  unfold writeTurnCmd
  extract_lets +onlyGivenNames x0
  split
  · rename_i i1 i2
    refine onOk_call fr_turnCmd rfl ?_
    exact Fr.refl _ _
  · rename_i i3 i4
    refine onOk_call fr_turnCmd rfl ?_
    exact Fr.refl _ _
  · rename_i i5 i6
    refine onOk_call fr_turnCancelCmd rfl ?_
    exact Fr.refl _ _
  · rename_i i7 i8 i9 i10
    refine onOk_ok ?_
    refine fr_ite (fun c11 => ?_) (fun c11 => ?_)
    · refine Fr.call fr_modTrain rfl ?_
      exact Fr.refl _ _
    · refine Fr.call fr_endTurn rfl ?_
      exact Fr.refl _ _

theorem fr_setSnap {a0 a1 a2 a3 a4} :
    Fr 256 a0 (setSnap a0 a1 a2 a3 a4) := by
  unfold setSnap
  refine Fr.call fr_modTrain rfl ?_
  exact Fr.refl _ _

theorem fr_endSnap {a0 a1 a2 a3 a4} :
    Fr 529664 a0 (endSnap a0 a1 a2 a3 a4) := by
  unfold endSnap
  extract_lets +onlyGivenNames x0
  extract_lets +onlyGivenNames x1
  have h1 : Fr 529664 a0 x1 := by
    unfold x1
    refine Fr.call fr_setSnap rfl ?_
    exact Fr.refl _ _
  clear_value x1
  extract_lets +onlyGivenNames x2
  have h2 : Fr 529664 a0 x2 := by
    unfold x2
    refine Fr.call fr_modTrain rfl ?_
    exact h1
  clear_value x2
  extract_lets +onlyGivenNames x3
  extract_lets +onlyGivenNames x4
  have h4 : Fr 529664 a0 x4 := by
    unfold x4
    refine Fr.call fr_raiseMoon rfl ?_
    exact h2
  clear_value x4
  refine fr_ite (fun c5 => ?_) (fun c5 => ?_)
  · exact h4
  · refine fr_ite (fun c6 => ?_) (fun c6 => ?_)
    · refine Fr.call fr_sendCtl rfl ?_
      exact h4
    · refine Fr.call fr_raiseMoon rfl ?_
      exact h4

theorem fr_snapshotCmd {a0 a1 a2 a3} :
    onOk (fun b => Fr 529664 a3 b) (snapshotCmd a0 a1 a2 a3) := by
  unfold snapshotCmd
  extract_lets +onlyGivenNames x0
  refine onOk_ite (fun c1 => ?_) (fun c1 => ?_)
  · exact onOk_error
  · refine onOk_ite (fun c2 => ?_) (fun c2 => ?_)
    · refine onOk_ok ?_
      refine Fr.call fr_endSnap rfl ?_
      exact Fr.refl _ _
    · refine onOk_ite (fun c3 => ?_) (fun c3 => ?_)
      · refine onOk_ok ?_
        refine Fr.call fr_endSnap rfl ?_
        exact Fr.refl _ _
      · extract_lets +onlyGivenNames x4
        have h4 : Fr 529664 a3 x4 := by
          unfold x4
          refine Fr.call fr_setSnap rfl ?_
          exact Fr.refl _ _
        clear_value x4
        refine onOk_ok ?_
        refine Fr.call fr_modTrain rfl ?_
        exact h4

theorem fr_snapFailed {a0 a1 a2 a3 a4} :
    Fr 528640 a0 (snapFailed a0 a1 a2 a3 a4) := by
  unfold snapFailed
  extract_lets +onlyGivenNames x0
  have h0 : Fr 528640 a0 x0 := by
    unfold x0
    refine Fr.call fr_setSnap rfl ?_
    exact Fr.refl _ _
  clear_value x0
  refine Fr.call fr_raiseMoon rfl ?_
  exact h0

theorem fr_snapCancelCmd {a0 a1 a2} :
    onOk (fun b => Fr 529664 a2 b) (snapCancelCmd a0 a1 a2) := by
  unfold snapCancelCmd
  extract_lets +onlyGivenNames x0
  refine onOk_ite (fun c1 => ?_) (fun c1 => ?_)
  · refine onOk_ok ?_
    refine Fr.call fr_snapFailed rfl ?_
    exact Fr.refl _ _
  · split
    · rename_i i2 i3 i4 i5
      refine onOk_ite (fun c6 => ?_) (fun c6 => ?_)
      · refine onOk_ok ?_
        refine Fr.call fr_endSnap rfl ?_
        exact Fr.refl _ _
      · refine onOk_ok ?_
        refine Fr.call fr_snapFailed rfl ?_
        exact Fr.refl _ _
    · rename_i i7 i8
      refine onOk_ok ?_
      refine Fr.call fr_snapFailed rfl ?_
      exact Fr.refl _ _

theorem fr_writeSnapCmd {a0 a1 a2 a3} :
    onOk (fun b => Fr 529664 a3 b) (writeSnapCmd a0 a1 a2 a3) := by
  unfold writeSnapCmd
  extract_lets +onlyGivenNames x0
  split
  · rename_i i1 i2
    refine onOk_call fr_snapshotCmd rfl ?_
    exact Fr.refl _ _
  · rename_i i3 i4
    refine onOk_call fr_snapCancelCmd rfl ?_
    exact Fr.refl _ _
  · rename_i i5 i6 i7
    refine onOk_ite (fun c8 => ?_) (fun c8 => ?_)
    · exact onOk_error
    · refine onOk_ok ?_
      refine Fr.call fr_snapFailed rfl ?_
      exact Fr.refl _ _

theorem fr_endSessions {a0} :
    Fr 131072 a0 (endSessions a0) := by
  unfold endSessions
  refine fr_modSec ?_ rfl ?_
  · exact List.prefix_refl _
  · exact Fr.refl _ _

theorem fr_writeDigest {a0 a1 a2} :
    onOk (fun b => Fr 131072 a2 b) (writeDigest a0 a1 a2) := by
  unfold writeDigest
  refine onOk_ite (fun c0 => ?_) (fun c0 => ?_)
  · exact onOk_error
  · refine onOk_ite (fun c1 => ?_) (fun c1 => ?_)
    · exact onOk_error
    · refine onOk_ite (fun c2 => ?_) (fun c2 => ?_)
      · exact onOk_error
      · refine onOk_ok ?_
        refine Fr.call fr_endSessions rfl ?_
        refine fr_modSec ?_ rfl ?_
        · exact List.prefix_append _ _
        · exact Fr.refl _ _

end Sys2Proof.Laws
end

