-- ==== Sys2Proof/Laws/Frames2.lean ====
section
/-! SUPPORT. Frames of the operations of Machine, part 2: for each, the parts of the state that it may change (Laws/Frame.lean says which bit
names which part), callees before callers. -/

set_option Elab.async false

namespace Sys2Proof.Laws

open Sys2Proof.Machine

theorem fr_sessionOpen {a0 a1} :
    onOk (fun b => Fr 139264 a1 b) (sessionOpen a0 a1) := by
  unfold sessionOpen
  refine onOk_ite (fun c0 => ?_) (fun c0 => ?_)
  · exact onOk_error
  · split
    · rename_i i1 i2
      exact onOk_error
    · rename_i i3 i4 i5
      refine onOk_ite (fun c6 => ?_) (fun c6 => ?_)
      · exact onOk_error
      · extract_lets +onlyGivenNames x7
        extract_lets +onlyGivenNames x8
        extract_lets +onlyGivenNames x9
        have h9 : Fr 139264 a1 x9 := by
          unfold x9
          refine fr_modSec ?_ rfl ?_
          · exact List.prefix_refl _
          · refine Fr.call fr_endOffer rfl ?_
            exact Fr.refl _ _
        clear_value x9
        refine onOk_ok ?_
        refine Fr.lit ?_
        exact h9

theorem fr_keepBlob {a0 a1 a2 a3} :
    Fr 8192 a0 (keepBlob a0 a1 a2 a3) := by
  unfold keepBlob
  refine Fr.lit ?_
  exact Fr.refl _ _

theorem fr_setBarrier {a0 a1 a2} :
    Fr 2048 a0 (setBarrier a0 a1 a2) := by
  unfold setBarrier
  refine Fr.lit ?_
  exact Fr.refl _ _

theorem fr_writeBarDef {a0 a1 a2} :
    onOk (fun b => Fr 571392 a2 b) (writeBarDef a0 a1 a2) := by
  unfold writeBarDef
  refine onOk_ite (fun c0 => ?_) (fun c0 => ?_)
  · exact onOk_error
  · refine onOk_ite (fun c1 => ?_) (fun c1 => ?_)
    · exact onOk_error
    · refine onOk_ite (fun c2 => ?_) (fun c2 => ?_)
      · refine onOk_ok ?_
        exact Fr.refl _ _
      · extract_lets +onlyGivenNames x3
        refine onOk_ok ?_
        refine Fr.call fr_jAppend rfl ?_
        refine Fr.call fr_setBarrier rfl ?_
        exact Fr.refl _ _

theorem fr_writeBarMove {a0 a1 a2} :
    onOk (fun b => Fr 571392 a2 b) (writeBarMove a0 a1 a2) := by
  unfold writeBarMove
  extract_lets +onlyGivenNames x0
  extract_lets +onlyGivenNames x1
  refine onOk_ite (fun c2 => ?_) (fun c2 => ?_)
  · refine onOk_ok ?_
    exact Fr.refl _ _
  · refine onOk_ite (fun c3 => ?_) (fun c3 => ?_)
    · exact onOk_error
    · refine onOk_ite (fun c4 => ?_) (fun c4 => ?_)
      · exact onOk_error
      · refine onOk_ite (fun c5 => ?_) (fun c5 => ?_)
        · exact onOk_error
        · refine onOk_ok ?_
          refine Fr.call fr_jAppend rfl ?_
          refine Fr.call fr_setBarrier rfl ?_
          exact Fr.refl _ _

theorem fr_modFw {k : Nat} {z s : State} {f : FwUnit → FwUnit} (hf : s.fw.fusedSvn ≤ (f s.fw).fusedSvn) (w : 65536 ||| k = k)
    (h : Fr k z s) : Fr k z (modFw s f) := by
  refine Fr.call (a := 65536) (t := s) ?_ w h
  unfold modFw
  refine Fr.litW ?_ ?_ ?_ ?_ ?_ ?_ <;> first | exact id | exact List.prefix_refl _ | exact Nat.le_refl _ | skip
  · exact Fr.refl _ _
  · exact hf

theorem fr_fwDone {a0 a1 a2} :
    Fr 65536 a0 (fwDone a0 a1 a2) := by
  unfold fwDone
  refine fr_modFw ?_ rfl ?_
  · exact Nat.le_refl _
  · exact Fr.refl _ _

theorem fr_modHost {a0 a1} :
    Fr 4096 a0 (modHost a0 a1) := by
  unfold modHost
  refine Fr.lit ?_
  exact Fr.refl _ _

theorem fr_startSwap {a0 a1 a2 a3} :
    Fr 634880 a0 (startSwap a0 a1 a2 a3) := by
  unfold startSwap
  extract_lets +onlyGivenNames x0
  have h0 : Fr 634880 a0 x0 := by
    unfold x0
    refine fr_modFw ?_ rfl ?_
    · exact Nat.le_refl _
    · refine Fr.call fr_jMust rfl ?_
      exact Fr.refl _ _
  clear_value x0
  refine Fr.call fr_modHost rfl ?_
  exact h0

theorem fr_noteBanks {a0} :
    Fr 569344 a0 (noteBanks a0) := by
  unfold noteBanks
  refine Fr.call fr_jMust rfl ?_
  exact Fr.refl _ _

theorem fr_commitFw {a0} :
    Fr 634880 a0 (commitFw a0) := by
  unfold commitFw
  extract_lets +onlyGivenNames x0
  extract_lets +onlyGivenNames x1
  extract_lets +onlyGivenNames x2
  have h2 : Fr 634880 a0 x2 := by
    unfold x2
    refine fr_ite (fun c3 => ?_) (fun c3 => ?_)
    · refine Fr.call fr_raisePf rfl ?_
      refine fr_modFw ?_ rfl ?_
      · exact Nat.le_of_lt (of_decide_eq_true c3)
      · exact Fr.refl _ _
    · exact Fr.refl _ _
  clear_value x2
  extract_lets +onlyGivenNames x4
  extract_lets +onlyGivenNames x5
  refine Fr.call fr_noteBanks rfl ?_
  refine fr_modFw ?_ rfl ?_
  · exact Nat.le_refl _
  · exact h2

theorem fr_fwCmd {a0 a1 a2} :
    onOk (fun b => Fr 634880 a2 b) (fwCmd a0 a1 a2) := by
  unfold fwCmd
  extract_lets +onlyGivenNames x0
  refine onOk_ite (fun c1 => ?_) (fun c1 => ?_)
  · refine onOk_ok ?_
    refine Fr.call fr_fwDone rfl ?_
    exact Fr.refl _ _
  · split
    · rename_i i2
      refine onOk_ite (fun c3 => ?_) (fun c3 => ?_)
      · refine onOk_ok ?_
        refine Fr.call fr_fwDone rfl ?_
        exact Fr.refl _ _
      · refine onOk_ok ?_
        refine fr_modFw ?_ rfl ?_
        · exact Nat.le_refl _
        · refine Fr.call fr_fwDone rfl ?_
          exact Fr.refl _ _
    · rename_i i4
      refine onOk_ite (fun c5 => ?_) (fun c5 => ?_)
      · refine onOk_ok ?_
        refine Fr.call fr_fwDone rfl ?_
        exact Fr.refl _ _
      · refine onOk_ite (fun c6 => ?_) (fun c6 => ?_)
        · refine onOk_ok ?_
          refine Fr.call fr_fwDone rfl ?_
          exact Fr.refl _ _
        · refine onOk_ok ?_
          refine Fr.call fr_startSwap rfl ?_
          refine Fr.call fr_fwDone rfl ?_
          exact Fr.refl _ _
    · rename_i i7
      refine onOk_ite (fun c8 => ?_) (fun c8 => ?_)
      · refine onOk_ok ?_
        refine Fr.call fr_commitFw rfl ?_
        refine Fr.call fr_fwDone rfl ?_
        exact Fr.refl _ _
      · refine onOk_ok ?_
        refine Fr.call fr_fwDone rfl ?_
        exact Fr.refl _ _
    · rename_i i9 i10 i11 i12
      refine onOk_ite (fun c13 => ?_) (fun c13 => ?_)
      · refine onOk_ok ?_
        refine Fr.call fr_startSwap rfl ?_
        refine Fr.call fr_fwDone rfl ?_
        exact Fr.refl _ _
      · refine onOk_ok ?_
        refine Fr.call fr_fwDone rfl ?_
        exact Fr.refl _ _

theorem fr_writeBlob {a0 a1 a2 a3 a4 a5} :
    onOk (fun b => Fr 16515068 a5 b) (writeBlob a0 a1 a2 a3 a4 a5) := by
  unfold writeBlob
  split
  · rename_i i0
    refine onOk_ok ?_
    refine Fr.call fr_modMoon rfl ?_
    exact Fr.refl _ _
  · rename_i i1
    refine onOk_ok ?_
    refine Fr.call fr_modMoon rfl ?_
    exact Fr.refl _ _
  · rename_i i2
    refine onOk_call fr_writeMoonCmd rfl ?_
    exact Fr.refl _ _
  · rename_i i3
    refine onOk_call fr_pageReq rfl ?_
    exact Fr.refl _ _
  · rename_i i4
    refine onOk_call fr_writeModelCmd rfl ?_
    exact Fr.refl _ _
  · rename_i i5
    refine onOk_call fr_writeFetchCmd rfl ?_
    exact Fr.refl _ _
  · rename_i i6
    refine onOk_call fr_writeGns rfl ?_
    exact Fr.refl _ _
  · rename_i i7
    refine onOk_call fr_writeTurnCmd rfl ?_
    exact Fr.refl _ _
  · rename_i i8
    refine onOk_call fr_writeSnapCmd rfl ?_
    exact Fr.refl _ _
  · rename_i i9
    refine onOk_ok ?_
    refine Fr.call fr_modTrain rfl ?_
    exact Fr.refl _ _
  · rename_i i10
    refine onOk_call fr_writeDigest rfl ?_
    exact Fr.refl _ _
  · rename_i i11
    refine onOk_call fr_sessionOpen rfl ?_
    exact Fr.refl _ _
  · rename_i i12
    refine onOk_ok ?_
    refine Fr.call fr_jAppend rfl ?_
    refine Fr.call fr_keepBlob rfl ?_
    exact Fr.refl _ _
  · rename_i i13
    refine onOk_ok ?_
    refine Fr.call fr_keepBlob rfl ?_
    exact Fr.refl _ _
  · rename_i i14
    refine onOk_ok ?_
    refine fr_modSec ?_ rfl ?_
    · exact List.prefix_refl _
    · exact Fr.refl _ _
  · rename_i i15
    refine onOk_call fr_writeBarDef rfl ?_
    exact Fr.refl _ _
  · rename_i i16
    refine onOk_call fr_writeBarMove rfl ?_
    exact Fr.refl _ _
  · rename_i i17
    refine onOk_call fr_fwCmd rfl ?_
    exact Fr.refl _ _
  · rename_i i18 i19 i20 i21 i22 i23 i24 i25 i26 i27 i28 i29 i30 i31 i32 i33 i34 i35 i36
    refine onOk_ok ?_
    exact Fr.refl _ _

theorem fr_modPower {a0 a1} :
    Fr 16777220 a0 (modPower a0 a1) := by
  unfold modPower
  refine Fr.lit ?_
  exact Fr.refl _ _

theorem fr_powerCmd {a0 a1} :
    onOk (fun b => Fr 17305604 a1 b) (powerCmd a0 a1) := by
  unfold powerCmd
  refine onOk_ite (fun c0 => ?_) (fun c0 => ?_)
  · refine onOk_ok ?_
    refine Fr.call fr_announce rfl ?_
    refine Fr.call fr_modPower rfl ?_
    exact Fr.refl _ _
  · refine onOk_ite (fun c1 => ?_) (fun c1 => ?_)
    · refine onOk_ok ?_
      refine Fr.call fr_announce rfl ?_
      refine Fr.call fr_modPower rfl ?_
      exact Fr.refl _ _
    · exact onOk_error

theorem fr_setParamJ {a0 a1 a2 a3} :
    Fr 569344 a0 (setParamJ a0 a1 a2 a3) := by
  unfold setParamJ
  refine Fr.call fr_jAppend rfl ?_
  refine Fr.call fr_setParam rfl ?_
  exact Fr.refl _ _

theorem fr_enterHoldover {a0} :
    Fr 528386 a0 (enterHoldover a0) := by
  unfold enterHoldover
  refine fr_ite (fun c0 => ?_) (fun c0 => ?_)
  · exact Fr.refl _ _
  · refine Fr.call fr_raisePf rfl ?_
    refine Fr.call fr_modOrbit rfl ?_
    exact Fr.refl _ _

theorem fr_writeSource {a0 a1} :
    onOk (fun b => Fr 569346 a1 b) (writeSource a0 a1) := by
  unfold writeSource
  refine onOk_ite (fun c0 => ?_) (fun c0 => ?_)
  · exact onOk_error
  · refine onOk_ite (fun c1 => ?_) (fun c1 => ?_)
    · refine onOk_ok ?_
      exact Fr.refl _ _
    · extract_lets +onlyGivenNames x2
      have h2 : Fr 569346 a1 x2 := by
        unfold x2
        refine Fr.call fr_modOrbit rfl ?_
        refine Fr.call fr_setParamJ rfl ?_
        exact Fr.refl _ _
      clear_value x2
      refine onOk_ok ?_
      refine fr_ite (fun c3 => ?_) (fun c3 => ?_)
      · refine Fr.call fr_enterHoldover rfl ?_
        exact h2
      · exact h2

theorem fr_usePort {a0 a1} :
    Fr 8194 a0 (usePort a0 a1) := by
  unfold usePort
  extract_lets +onlyGivenNames x0
  have h0 : Fr 8194 a0 x0 := by
    unfold x0
    refine Fr.call fr_modOrbit rfl ?_
    exact Fr.refl _ _
  clear_value x0
  refine Fr.call fr_setParam rfl ?_
  exact h0

theorem fr_writeOrbitPort {a0 a1 a2} :
    onOk (fun b => Fr 569346 a2 b) (writeOrbitPort a0 a1 a2) := by
  unfold writeOrbitPort
  extract_lets +onlyGivenNames x0
  extract_lets +onlyGivenNames x1
  have h1 : Fr 569346 a2 x1 := by
    unfold x1
    refine Fr.call fr_setParamJ rfl ?_
    exact Fr.refl _ _
  clear_value x1
  extract_lets +onlyGivenNames x2
  extract_lets +onlyGivenNames x3
  have h3 : Fr 569346 a2 x3 := by
    unfold x3
    refine Fr.call fr_modOrbit rfl ?_
    exact h1
  clear_value x3
  refine onOk_ok ?_
  refine fr_ite (fun c4 => ?_) (fun c4 => ?_)
  · exact h3
  · refine Fr.call fr_modOrbit rfl ?_
    refine Fr.call fr_usePort rfl ?_
    exact h3

theorem fr_writeDomain {a0 a1} :
    onOk (fun b => Fr 569346 a1 b) (writeDomain a0 a1) := by
  unfold writeDomain
  extract_lets +onlyGivenNames x0
  have h0 : Fr 569346 a1 x0 := by
    unfold x0
    refine Fr.call fr_setParamJ rfl ?_
    exact Fr.refl _ _
  clear_value x0
  refine onOk_ok ?_
  refine fr_ite (fun c1 => ?_) (fun c1 => ?_)
  · exact h0
  · refine Fr.call fr_modOrbit rfl ?_
    exact h0

theorem fr_writePps {a0 a1} :
    onOk (fun b => Fr 8194 a1 b) (writePps a0 a1) := by
  unfold writePps
  refine onOk_ite (fun c0 => ?_) (fun c0 => ?_)
  · exact onOk_error
  · refine onOk_ok ?_
    refine Fr.call fr_modOrbit rfl ?_
    refine Fr.call fr_setParam rfl ?_
    exact Fr.refl _ _

theorem fr_setStored {a0 a1 a2 a3} :
    Fr 569344 a0 (setStored a0 a1 a2 a3) := by
  unfold setStored
  refine fr_ite (fun c0 => ?_) (fun c0 => ?_)
  · refine Fr.call fr_setParamJ rfl ?_
    exact Fr.refl _ _
  · refine Fr.call fr_setParam rfl ?_
    exact Fr.refl _ _

theorem fr_noteCycle {a0} :
    Fr 33554440 a0 (noteCycle a0) := by
  unfold noteCycle
  refine fr_ite (fun c0 => ?_) (fun c0 => ?_)
  · exact Fr.refl _ _
  · extract_lets +onlyGivenNames x1
    extract_lets +onlyGivenNames x2
    refine Fr.lit ?_
    exact Fr.refl _ _

theorem fr_modPort {a0 a1 a2} :
    Fr 1024 a0 (modPort a0 a1 a2) := by
  unfold modPort
  refine Fr.call fr_setPort rfl ?_
  exact Fr.refl _ _

theorem fr_startRetrain {a0 a1} :
    Fr 537600 a0 (startRetrain a0 a1) := by
  unfold startRetrain
  refine Fr.call fr_incA rfl ?_
  refine Fr.call fr_modPort rfl ?_
  exact Fr.refl _ _

theorem fr_retrainPort {a0 a1} :
    onOk (fun b => Fr 537600 a1 b) (retrainPort a0 a1) := by
  unfold retrainPort
  refine onOk_ok ?_
  refine fr_ite (fun c0 => ?_) (fun c0 => ?_)
  · refine Fr.call fr_startRetrain rfl ?_
    exact Fr.refl _ _
  · exact Fr.refl _ _

theorem fr_disablePort {a0 a1} :
    onOk (fun b => Fr 1024 a1 b) (disablePort a0 a1) := by
  unfold disablePort
  refine onOk_ok ?_
  refine Fr.call fr_modPort rfl ?_
  exact Fr.refl _ _

theorem fr_enablePort {a0 a1} :
    onOk (fun b => Fr 1024 a1 b) (enablePort a0 a1) := by
  unfold enablePort
  refine onOk_ok ?_
  refine Fr.call fr_modPort rfl ?_
  exact Fr.refl _ _

theorem fr_forcePort {a0 a1} :
    onOk (fun b => Fr 1024 a1 b) (forcePort a0 a1) := by
  unfold forcePort
  refine onOk_ok ?_
  refine Fr.call fr_modPort rfl ?_
  exact Fr.refl _ _

theorem fr_autoPort {a0 a1} :
    onOk (fun b => Fr 1024 a1 b) (autoPort a0 a1) := by
  unfold autoPort
  refine onOk_ok ?_
  refine Fr.call fr_modPort rfl ?_
  exact Fr.refl _ _

theorem fr_writePortCtrl {a0 a1 a2} :
    onOk (fun b => Fr 537600 a2 b) (writePortCtrl a0 a1 a2) := by
  unfold writePortCtrl
  split
  · rename_i i0
    refine onOk_call fr_retrainPort rfl ?_
    exact Fr.refl _ _
  · rename_i i1
    refine onOk_call fr_disablePort rfl ?_
    exact Fr.refl _ _
  · rename_i i2
    refine onOk_call fr_enablePort rfl ?_
    exact Fr.refl _ _
  · rename_i i3
    refine onOk_call fr_forcePort rfl ?_
    exact Fr.refl _ _
  · rename_i i4
    refine onOk_call fr_autoPort rfl ?_
    exact Fr.refl _ _
  · rename_i i5 i6 i7 i8 i9 i10
    exact onOk_error

theorem fr_setSel {a0 a1 a2 a3 a4} :
    Fr 8192 a0 (setSel a0 a1 a2 a3 a4) := by
  unfold setSel
  refine Fr.lit ?_
  exact Fr.refl _ _

theorem fr_writeFwd {a0 a1 a2} :
    Fr 570368 a0 (writeFwd a0 a1 a2) := by
  unfold writeFwd
  refine Fr.call fr_jAppend rfl ?_
  refine Fr.lit ?_
  exact Fr.refl _ _

theorem fr_keepShare {a0 a1} :
    Fr 32 a0 (keepShare a0 a1) := by
  unfold keepShare
  refine fr_ite (fun c0 => ?_) (fun c0 => ?_)
  · exact Fr.refl _ _
  · refine Fr.lit ?_
    exact Fr.refl _ _

theorem fr_settlePool {a0} :
    Fr 8 a0 (settlePool a0) := by
  unfold settlePool
  refine fr_ite (fun c0 => ?_) (fun c0 => ?_)
  · exact Fr.refl _ _
  · refine Fr.lit ?_
    exact Fr.refl _ _

theorem fr_writePool {a0 a1} :
    onOk (fun b => Fr 569352 a1 b) (writePool a0 a1) := by
  unfold writePool
  extract_lets +onlyGivenNames x0
  refine onOk_ite (fun c1 => ?_) (fun c1 => ?_)
  · exact onOk_error
  · refine onOk_ok ?_
    refine Fr.call fr_settlePool rfl ?_
    refine Fr.call fr_setParamJ rfl ?_
    exact Fr.refl _ _

theorem fr_writeSeqQuota {a0 a1 a2} :
    onOk (fun b => Fr 8192 a2 b) (writeSeqQuota a0 a1 a2) := by
  unfold writeSeqQuota
  extract_lets +onlyGivenNames x0
  refine onOk_ite (fun c1 => ?_) (fun c1 => ?_)
  · exact onOk_error
  · refine onOk_ok ?_
    refine Fr.call fr_setParam rfl ?_
    exact Fr.refl _ _

theorem fr_writeCtx {a0 a1 a2} :
    onOk (fun b => Fr 128 a2 b) (writeCtx a0 a1 a2) := by
  unfold writeCtx
  extract_lets +onlyGivenNames x0
  refine onOk_ite (fun c1 => ?_) (fun c1 => ?_)
  · exact onOk_error
  · extract_lets +onlyGivenNames x2
    extract_lets +onlyGivenNames x3
    refine onOk_ok ?_
    refine Fr.call fr_setServe rfl ?_
    exact Fr.refl _ _

theorem fr_writePipeCtx {a0 a1 a2} :
    onOk (fun b => Fr 256 a2 b) (writePipeCtx a0 a1 a2) := by
  unfold writePipeCtx
  extract_lets +onlyGivenNames x0
  refine onOk_ite (fun c1 => ?_) (fun c1 => ?_)
  · refine onOk_ok ?_
    refine Fr.call fr_setTrain rfl ?_
    exact Fr.refl _ _
  · exact onOk_error

theorem fr_writeTile {a0 a1 a2 a3 a4} :
    onOk (fun b => Fr 6291472 a0 b) (writeTile a0 a1 a2 a3 a4) := by
  unfold writeTile
  refine onOk_call fr_writeMa rfl ?_
  exact Fr.refl _ _

theorem fr_modTiles {a0 a1 a2 a3 a4} :
    onOk (fun b => Fr 6291472 a0 b) (modTiles a0 a1 a2 a3 a4) := by
  fun_induction modTiles
  · rename_i i0
    refine onOk_ok ?_
    exact Fr.refl _ _
  · rename_i i1 i2 i3 i4
    refine onOk_bind (fun b5 q5 => ?_)
    extract_lets +onlyGivenNames x6
    refine onOk_ite (fun c7 => ?_) (fun c7 => ?_)
    · refine onOk_bind (fun b8 q8 => ?_)
      unfold x6
      refine onOk_call (i4 _) rfl ?_
      refine onOk_elim q8 ?_
      refine onOk_ok ?_
      exact Fr.refl _ _
    · refine onOk_bind (fun b9 q9 => ?_)
      have h10 := fr_writeTile _ q9
      unfold x6
      refine onOk_call (i4 _) rfl ?_
      exact h10

theorem fr_clearPlans {a0 a1} :
    Fr 32 a0 (clearPlans a0 a1) := by
  unfold clearPlans
  refine Fr.lit ?_
  exact Fr.refl _ _

theorem fr_addTask {a0 a1} :
    Fr 32 a0 (addTask a0 a1) := by
  unfold addTask
  refine Fr.lit ?_
  exact Fr.refl _ _

theorem fr_startDerives {a0 a1 a2 a3} :
    onOk (fun b => Fr 6291504 a0 b) (startDerives a0 a1 a2 a3) := by
  fun_induction startDerives
  · rename_i i0
    refine onOk_ok ?_
    exact Fr.refl _ _
  · rename_i i1 i2 i3 i4 i5
    refine onOk_bind (fun b6 q6 => ?_)
    refine onOk_ite (fun c7 => ?_) (fun c7 => ?_)
    · refine onOk_bind (fun b8 q8 => ?_)
      refine onOk_bind (fun b9 q9 => ?_)
      refine onOk_bind (fun b10 q10 => ?_)
      have h11 := fr_writeTile _ q10
      refine onOk_call (i4 _ _) rfl ?_
      refine Fr.call fr_addTask rfl ?_
      refine Fr.call h11 rfl ?_
      exact Fr.refl _ _
    · refine onOk_call i5 rfl ?_
      exact Fr.refl _ _

theorem fr_pipeStarted {a0 a1 a2 a3} :
    onOk (fun b => Fr 6291760 a0 b) (pipeStarted a0 a1 a2 a3) := by
  unfold pipeStarted
  refine onOk_bind (fun b0 q0 => ?_)
  have h1 := fr_modTiles _ q0
  refine onOk_bind (fun b2 q2 => ?_)
  extract_lets +onlyGivenNames x3
  have h3 : Fr 6291760 a0 x3 := by
    unfold x3
    refine Fr.call fr_modTrain rfl ?_
    refine Fr.call fr_clearPlans rfl ?_
    refine Fr.call h1 rfl ?_
    exact Fr.refl _ _
  clear_value x3
  refine onOk_call fr_startDerives rfl ?_
  exact h3

theorem fr_noteWait {a0 a1} :
    Fr 545024 a0 (noteWait a0 a1) := by
  unfold noteWait
  extract_lets +onlyGivenNames x0
  split
  · rename_i i1 i2 i3 i4
    refine Fr.call fr_setTrain rfl ?_
    exact Fr.refl _ _
  · rename_i i5 i6 i7 i8 i9
    refine Fr.call fr_endWait rfl ?_
    exact Fr.refl _ _
  · rename_i i10 i11 i12 i13
    exact Fr.refl _ _

theorem fr_pipeStart {a0 a1} :
    onOk (fun b => Fr 6836528 a1 b) (pipeStart a0 a1) := by
  unfold pipeStart
  extract_lets +onlyGivenNames x0
  refine onOk_ite (fun c1 => ?_) (fun c1 => ?_)
  · exact onOk_error
  · extract_lets +onlyGivenNames x2
    have h2 : Fr 6836528 a1 x2 := by
      unfold x2
      refine Fr.call fr_setTrain rfl ?_
      exact Fr.refl _ _
    clear_value x2
    split
    · rename_i i3 i4 i5
      refine onOk_ite (fun c6 => ?_) (fun c6 => ?_)
      · exact onOk_error
      · refine onOk_ok ?_
        exact h2
    · rename_i i7 i8
      refine onOk_ok ?_
      exact h2
    · rename_i i9 i10 i11 i12
      split
      · rename_i i13 i14 i15
        have h16 := fr_pipeStarted _ i15
        refine onOk_ok ?_
        refine Fr.call fr_noteWait rfl ?_
        refine Fr.call h16 rfl ?_
        exact Fr.refl _ _
      · rename_i i17 i18 i19
        refine onOk_ite (fun c21 => ?_) (fun c21 => ?_)
        · exact onOk_error
        · refine onOk_ok ?_
          exact h2

theorem fr_pipeOff {a0 a1} :
    onOk (fun b => Fr 288 a0 b) (pipeOff a0 a1) := by
  unfold pipeOff
  extract_lets +onlyGivenNames x0
  split
  · rename_i i1 i2
    refine onOk_ok ?_
    exact Fr.refl _ _
  · rename_i i3 i4 i5
    extract_lets +onlyGivenNames x6
    refine onOk_ite (fun c7 => ?_) (fun c7 => ?_)
    · refine onOk_bind (fun b8 q8 => ?_)
      refine onOk_ite (fun c9 => ?_) (fun c9 => ?_)
      · refine onOk_ok ?_
        refine Fr.call fr_modTrain rfl ?_
        refine Fr.call fr_clearPlans rfl ?_
        exact Fr.refl _ _
      · refine onOk_ok ?_
        exact Fr.refl _ _
    · refine onOk_ok ?_
      exact Fr.refl _ _

theorem fr_pipeDrain {a0 a1} :
    onOk (fun b => Fr 545056 a1 b) (pipeDrain a0 a1) := by
  unfold pipeDrain
  extract_lets +onlyGivenNames x0
  refine onOk_ite (fun c1 => ?_) (fun c1 => ?_)
  · exact onOk_error
  · extract_lets +onlyGivenNames x2
    have h2 : Fr 545056 a1 x2 := by
      unfold x2
      refine Fr.call fr_setTrain rfl ?_
      exact Fr.refl _ _
    clear_value x2
    split
    · rename_i i3 i4 i5
      have h6 := fr_pipeOff _ i5
      refine onOk_ok ?_
      refine Fr.call fr_noteWait rfl ?_
      refine Fr.call h6 rfl ?_
      exact h2
    · rename_i i7 i8 i9
      refine onOk_ok ?_
      refine Fr.call fr_noteWait rfl ?_
      exact h2

theorem fr_retryDerives {a0 a1 a2} :
    onOk (fun b => Fr 6291504 a0 b) (retryDerives a0 a1 a2) := by
  unfold retryDerives
  refine onOk_bind (fun b0 q0 => ?_)
  have h1 := fr_modTiles _ q0
  refine onOk_call fr_startDerives rfl ?_
  refine Fr.call h1 rfl ?_
  exact Fr.refl _ _

theorem fr_addRestore {a0 a1 a2} :
    Fr 32 a0 (addRestore a0 a1 a2) := by
  unfold addRestore
  split
  · rename_i i0 i1 i2
    refine fr_ite (fun c3 => ?_) (fun c3 => ?_)
    · refine Fr.call fr_addTask rfl ?_
      exact Fr.refl _ _
    · exact Fr.refl _ _
  · rename_i i4 i5
    exact Fr.refl _ _

theorem fr_pipeRetry {a0 a1} :
    onOk (fun b => Fr 6836528 a1 b) (pipeRetry a0 a1) := by
  unfold pipeRetry
  extract_lets +onlyGivenNames x0
  refine onOk_ite (fun c1 => ?_) (fun c1 => ?_)
  · exact onOk_error
  · extract_lets +onlyGivenNames x2
    have h2 : Fr 6836528 a1 x2 := by
      unfold x2
      refine Fr.call fr_setTrain rfl ?_
      exact Fr.refl _ _
    clear_value x2
    split
    · rename_i i3 i4 i5
      refine onOk_ite (fun c6 => ?_) (fun c6 => ?_)
      · exact onOk_error
      · refine onOk_ok ?_
        exact h2
    · rename_i i7 i8
      refine onOk_ok ?_
      exact h2
    · rename_i i9 i10 i11 i12
      extract_lets +onlyGivenNames x13
      have h13 : Fr 6836528 a1 x13 := by
        unfold x13
        refine fr_ite (fun c14 => ?_) (fun c14 => ?_)
        · exact Fr.refl _ _
        · refine Fr.call fr_clearPlans rfl ?_
          exact Fr.refl _ _
      clear_value x13
      extract_lets +onlyGivenNames x15
      have h15 : Fr 6836528 a1 x15 := by
        unfold x15
        refine Fr.call fr_setTrain rfl ?_
        exact h13
      clear_value x15
      split
      · rename_i i16 i17 i18
        have h19 := fr_retryDerives _ i18
        refine onOk_ok ?_
        refine Fr.call fr_noteWait rfl ?_
        refine Fr.call fr_addRestore rfl ?_
        refine Fr.call h19 rfl ?_
        exact h15
      · rename_i i20 i21 i22
        refine onOk_ite (fun c24 => ?_) (fun c24 => ?_)
        · exact onOk_error
        · refine onOk_ok ?_
          exact h2

theorem fr_dropUnstarted {a0 a1 a2} :
    Fr 32 a0 (dropUnstarted a0 a1 a2) := by
  unfold dropUnstarted
  refine Fr.lit ?_
  exact Fr.refl _ _

theorem fr_pipeReset {a0 a1} :
    onOk (fun b => Fr 6836528 a1 b) (pipeReset a0 a1) := by
  unfold pipeReset
  extract_lets +onlyGivenNames x0
  split
  · rename_i i1 i2
    exact onOk_error
  · rename_i i3 i4 i5
    refine onOk_ite (fun c6 => ?_) (fun c6 => ?_)
    · exact onOk_error
    · extract_lets +onlyGivenNames x7
      have h7 : Fr 6836528 a1 x7 := by
        unfold x7
        refine Fr.call fr_dropUnstarted rfl ?_
        exact Fr.refl _ _
      clear_value x7
      extract_lets +onlyGivenNames x8
      have h8 : Fr 6836528 a1 x8 := by
        unfold x8
        refine Fr.call fr_setTrain rfl ?_
        exact h7
      clear_value x8
      split
      · rename_i i9 i10 i11
        refine onOk_ok ?_
        refine Fr.call fr_noteWait rfl ?_
        refine onOk_elim i11 ?_
        refine onOk_bind (fun b12 q12 => ?_)
        have h13 := fr_modTiles _ q12
        refine onOk_bind (fun b14 q14 => ?_)
        have h15 := fr_startDerives _ q14
        refine onOk_call fr_pipeOff rfl ?_
        refine Fr.call h15 rfl ?_
        refine Fr.call h13 rfl ?_
        exact h8
      · rename_i i16 i17 i18
        refine onOk_ite (fun c19 => ?_) (fun c19 => ?_)
        · exact onOk_error
        · refine onOk_ok ?_
          exact h8

theorem fr_writePipeCtrl {a0 a1 a2} :
    onOk (fun b => Fr 6836528 a2 b) (writePipeCtrl a0 a1 a2) := by
  unfold writePipeCtrl
  split
  · rename_i i0
    refine onOk_call fr_pipeStart rfl ?_
    exact Fr.refl _ _
  · rename_i i1
    refine onOk_call fr_pipeDrain rfl ?_
    exact Fr.refl _ _
  · rename_i i2
    refine onOk_call fr_pipeRetry rfl ?_
    exact Fr.refl _ _
  · rename_i i3
    refine onOk_call fr_pipeReset rfl ?_
    exact Fr.refl _ _
  · rename_i i4 i5 i6 i7 i8
    exact onOk_error

theorem fr_closeGns {a0 a1} :
    Fr 536832 a0 (closeGns a0 a1) := by
  unfold closeGns
  extract_lets +onlyGivenNames x0
  split
  · rename_i i1 i2
    exact Fr.refl _ _
  · rename_i i3 i4 i5
    extract_lets +onlyGivenNames x6
    extract_lets +onlyGivenNames x7
    extract_lets +onlyGivenNames x8
    refine fr_ite (fun c9 => ?_) (fun c9 => ?_)
    · refine Fr.call fr_setTrain rfl ?_
      exact Fr.refl _ _
    · extract_lets +onlyGivenNames x10
      extract_lets +onlyGivenNames x11
      extract_lets +onlyGivenNames x12
      extract_lets +onlyGivenNames x13
      refine Fr.call fr_incA rfl ?_
      refine Fr.call fr_setTrain rfl ?_
      exact Fr.refl _ _

theorem fr_keyCmd {a0 a1 a2} :
    onOk (fun b => Fr 1179648 a2 b) (keyCmd a0 a1 a2) := by
  unfold keyCmd
  refine onOk_ite (fun c0 => ?_) (fun c0 => ?_)
  · exact onOk_error
  · refine onOk_ite (fun c1 => ?_) (fun c1 => ?_)
    · exact onOk_error
    · refine onOk_ite (fun c2 => ?_) (fun c2 => ?_)
      · split
        · rename_i i3 i4 i5 i6
          have h7 := fr_eq fr_freshBytes i6
          refine onOk_ok ?_
          refine Fr.call fr_modSlot rfl ?_
          refine Fr.call h7 rfl ?_
          exact Fr.refl _ _
      · extract_lets +onlyGivenNames x8
        have h8 : Fr 1179648 a2 x8 := by
          unfold x8
          split
          · rename_i i9 i10 i11
            refine Fr.call fr_endOffer rfl ?_
            exact Fr.refl _ _
          · rename_i i12 i13
            exact Fr.refl _ _
        clear_value x8
        refine onOk_ok ?_
        refine Fr.call fr_modSlot rfl ?_
        exact h8

theorem fr_refreeze {a0} :
    Fr 530432 a0 (refreeze a0) := by
  unfold refreeze
  extract_lets +onlyGivenNames x0
  extract_lets +onlyGivenNames x1
  extract_lets +onlyGivenNames x2
  have h2 : Fr 530432 a0 x2 := by
    unfold x2
    refine Fr.lit ?_
    exact Fr.refl _ _
  clear_value x2
  refine fr_ite (fun c3 => ?_) (fun c3 => ?_)
  · refine Fr.call fr_raisePf rfl ?_
    exact h2
  · exact h2

theorem fr_settlePack {a0} :
    Fr 530432 a0 (settlePack a0) := by
  unfold settlePack
  refine Fr.call fr_refreeze rfl ?_
  refine fr_ite (fun c0 => ?_) (fun c0 => ?_)
  · refine Fr.lit ?_
    exact Fr.refl _ _
  · exact Fr.refl _ _

theorem fr_gateSlot {a0 a1 a2 a3} :
    Fr 128 a0 (gateSlot a0 a1 a2 a3) := by
  unfold gateSlot
  extract_lets +onlyGivenNames x0
  refine Fr.call fr_setSlot rfl ?_
  exact Fr.refl _ _

theorem fr_finishTurn {a0 a1 a2} :
    Fr 6844848 a0 (finishTurn a0 a1 a2) := by
  unfold finishTurn
  extract_lets +onlyGivenNames x0
  split
  · rename_i i1 i2
    exact Fr.refl _ _
  · rename_i i3 i4 i5 i6 i7
    extract_lets +onlyGivenNames x8
    have h8 : Fr 6844848 a0 x8 := by
      unfold x8
      refine Fr.call fr_setTrain rfl ?_
      exact Fr.refl _ _
    clear_value x8
    extract_lets +onlyGivenNames x9
    have h9 : Fr 6844848 a0 x9 := by
      unfold x9
      refine fr_ite (fun c10 => ?_) (fun c10 => ?_)
      · refine fr_ite (fun c11 => ?_) (fun c11 => ?_)
        · split
          · rename_i i12 i13 i14
            have h15 := fr_pipeStart _ i14
            refine Fr.call h15 rfl ?_
            exact h8
          · rename_i i16 i17 i18
            exact h8
        · exact h8
      · refine Fr.call fr_gateSlot rfl ?_
        exact h8
    clear_value x9
    extract_lets +onlyGivenNames x20
    have h20 : Fr 6844848 a0 x20 := by
      unfold x20
      refine Fr.call fr_setParam rfl ?_
      exact h9
    clear_value x20
    extract_lets +onlyGivenNames x21
    have h21 : Fr 6844848 a0 x21 := by
      unfold x21
      refine Fr.call fr_incA rfl ?_
      exact h20
    clear_value x21
    refine Fr.call fr_endTurn rfl ?_
    exact h21

theorem fr_setObjValue {a0 a1 a2 a3} :
    Fr 32 a0 (setObjValue a0 a1 a2 a3) := by
  unfold setObjValue
  split
  · rename_i i0 i1
    exact Fr.refl _ _
  · rename_i i2 i3 i4
    refine Fr.call fr_setObj rfl ?_
    exact Fr.refl _ _

theorem fr_applySignals {a0 a1} :
    Fr 536608 a0 (applySignals a0 a1).1 := by
  unfold applySignals
  extract_lets +onlyGivenNames x0
  extract_lets +onlyGivenNames x1
  split
  · rename_i i2
    extract_lets +onlyGivenNames x3
    have h3 : Fr 536608 a0 x3 := by
      unfold x3
      refine Fr.call fr_setObjValue rfl ?_
      exact Fr.refl _ _
    clear_value x3
    refine fr_fst ?_
    refine fr_ite (fun c4 => ?_) (fun c4 => ?_)
    · refine Fr.call fr_setObjValue rfl ?_
      exact h3
    · exact h3
  · rename_i i5
    split
    · rename_i i6 i7 i8 i9
      split
      · rename_i i10 i11 i12 i13
        refine fr_fst ?_
        refine fr_elim1 i13 ?_
        split
        · rename_i i14
          refine Fr.call fr_addObj rfl ?_
          refine fr_elim1 i9 ?_
          split
          · rename_i i15
            refine Fr.call fr_addObj rfl ?_
            exact Fr.refl _ _
          · rename_i i16
            refine fr_fst ?_
            exact Fr.refl _ _
        · rename_i i17
          refine fr_fst ?_
          refine fr_elim1 i9 ?_
          split
          · rename_i i18
            refine Fr.call fr_addObj rfl ?_
            exact Fr.refl _ _
          · rename_i i19
            refine fr_fst ?_
            exact Fr.refl _ _

theorem fr_signalTask {a0 a1} :
    Fr 6828080 a0 (signalTask a0 a1).1 := by
  unfold signalTask
  split
  · rename_i i0
    refine fr_fst ?_
    exact Fr.refl _ _
  · rename_i i1
    split
    · rename_i i2 i3 i4 i5
      have h6 := fr_eq fr_applySignals i5
      extract_lets +onlyGivenNames x7
      split
      · rename_i i8
        split
        · rename_i i9 i10 i11
          split
          · rename_i i12 i13 i14
            have h15 := fr_writeMa _ i14
            refine fr_fst ?_
            refine Fr.call h15 rfl ?_
            refine Fr.call h6 rfl ?_
            exact Fr.refl _ _
          · rename_i i16 i17 i18
            refine fr_fst ?_
            refine Fr.call fr_haltRing rfl ?_
            exact Fr.refl _ _
        · rename_i i20 i21
          refine fr_fst ?_
          refine Fr.call h6 rfl ?_
          exact Fr.refl _ _
      · rename_i i22
        refine fr_fst ?_
        refine Fr.call h6 rfl ?_
        exact Fr.refl _ _

theorem fr_completeTask {a0 a1} :
    Fr 6844464 a0 (completeTask a0 a1) := by
  unfold completeTask
  extract_lets +onlyGivenNames x0
  have h0 : Fr 6844464 a0 x0 := by
    unfold x0
    refine Fr.call fr_writeBack rfl ?_
    exact Fr.refl _ _
  clear_value x0
  split
  · rename_i i1 i2 i3 i4
    have h5 := fr_eq fr_signalTask i4
    extract_lets +onlyGivenNames x6
    have h6 : Fr 6844464 a0 x6 := by
      unfold x6
      refine Fr.call fr_putTask rfl ?_
      refine Fr.call h5 rfl ?_
      exact h0
    clear_value x6
    refine fr_ite (fun c7 => ?_) (fun c7 => ?_)
    · exact h6
    · refine Fr.call fr_incB rfl ?_
      exact h6

theorem fr_settleArrival {a0 a1 a2 a3} :
    Fr 6879732 a0 (settleArrival a0 a1 a2 a3) := by
  unfold settleArrival
  extract_lets +onlyGivenNames x0
  extract_lets +onlyGivenNames x1
  extract_lets +onlyGivenNames x2
  have h2 : Fr 6879732 a0 x2 := by
    unfold x2
    refine Fr.lit ?_
    exact Fr.refl _ _
  clear_value x2
  refine fr_ite (fun c3 => ?_) (fun c3 => ?_)
  · refine Fr.call fr_finishTurn rfl ?_
    exact h2
  · split
    · rename_i i4 i5 i6
      refine fr_ite (fun c7 => ?_) (fun c7 => ?_)
      · exact h2
      · refine fr_ite (fun c8 => ?_) (fun c8 => ?_)
        · refine Fr.call fr_completeTask rfl ?_
          exact h2
        · refine Fr.call fr_failTask rfl ?_
          exact h2
    · rename_i i9 i10
      exact h2

theorem fr_sendArrive {a0 a1 a2 a3 a4 a5 a6} :
    onSome (fun b => Fr 527360 a0 b) (sendArrive a0 a1 a2 a3 a4 a5 a6) := by
  unfold sendArrive
  split
  · rename_i i0 i1
    exact onSome_none
  · rename_i i2 i3 i4
    refine onSome_ite (fun c5 => ?_) (fun c5 => ?_)
    · refine onSome_some ?_
      exact Fr.refl _ _
    · extract_lets +onlyGivenNames x6
      extract_lets +onlyGivenNames x7
      extract_lets +onlyGivenNames x8
      extract_lets +onlyGivenNames x9
      have h9 : Fr 527360 a0 x9 := by
        unfold x9
        refine Fr.lit ?_
        exact Fr.refl _ _
      clear_value x9
      refine onSome_some ?_
      refine fr_ite (fun c10 => ?_) (fun c10 => ?_)
      · exact h9
      · refine Fr.call fr_sendCtl rfl ?_
        exact h9

theorem fr_sendWaiting {a0 a1 a2 a3} :
    Fr 6880756 a0 (sendWaiting a0 a1 a2 a3) := by
  unfold sendWaiting
  refine fr_foldl ?_ (fun v0 y0 h0 => ?_)
  · exact Fr.refl _ _
  · refine fr_ite (fun c1 => ?_) (fun c1 => ?_)
    · exact h0
    · split
      · rename_i i2 i3 i4
        have h5 := fr_sendArrive _ i4
        refine Fr.call h5 rfl ?_
        exact h0
      · rename_i i6 i7
        refine Fr.call fr_settleArrival rfl ?_
        exact h0

theorem fr_settleArrivals {a0 a1 a2 a3} :
    Fr 6880756 a0 (settleArrivals a0 a1 a2 a3) := by
  unfold settleArrivals
  extract_lets +onlyGivenNames x0
  extract_lets +onlyGivenNames x1
  have h1 : Fr 6880756 a0 x1 := by
    unfold x1
    refine fr_foldl ?_ (fun v2 y2 h2 => ?_)
    · exact Fr.refl _ _
    · refine Fr.call fr_settleArrival rfl ?_
      exact h2
  clear_value x1
  refine fr_foldl ?_ (fun v3 y3 h3 => ?_)
  · exact h1
  · refine Fr.call fr_sendWaiting rfl ?_
    exact h3

theorem fr_dropLost {a0} :
    Fr 6880756 a0 (dropLost a0) := by
  unfold dropLost
  refine Fr.call fr_settleArrivals rfl ?_
  exact Fr.refl _ _

theorem fr_packParent {a0} :
    Fr 6880756 a0 (packParent a0) := by
  unfold packParent
  extract_lets +onlyGivenNames x0
  extract_lets +onlyGivenNames x1
  have h1 : Fr 6880756 a0 x1 := by
    unfold x1
    refine Fr.lit ?_
    exact Fr.refl _ _
  refine fr_ite (fun c2 => ?_) (fun c2 => ?_)
  · refine Fr.call fr_dropLost rfl ?_
    refine Fr.lit ?_
    exact h1
  · exact h1

theorem fr_updateRole {a0} :
    Fr 6880756 a0 (updateRole a0) := by
  unfold updateRole
  extract_lets +onlyGivenNames x0
  refine fr_ite (fun c1 => ?_) (fun c1 => ?_)
  · exact Fr.refl _ _
  · extract_lets +onlyGivenNames x2
    extract_lets +onlyGivenNames x3
    extract_lets +onlyGivenNames x4
    have h4 : Fr 6880756 a0 x4 := by
      unfold x4
      refine Fr.lit ?_
      exact Fr.refl _ _
    clear_value x4
    refine Fr.call fr_settlePack rfl ?_
    refine Fr.call fr_dropLost rfl ?_
    refine Fr.call fr_packParent rfl ?_
    exact h4

theorem fr_writeRole {a0 a1} :
    onOk (fun b => Fr 6880756 a1 b) (writeRole a0 a1) := by
  unfold writeRole
  refine onOk_ite (fun c0 => ?_) (fun c0 => ?_)
  · refine onOk_ok ?_
    refine Fr.call fr_updateRole rfl ?_
    refine Fr.call fr_setParamJ rfl ?_
    exact Fr.refl _ _
  · exact onOk_error

theorem fr_setMember {a0 a1 a2} :
    Fr 2048 a0 (setMember a0 a1 a2) := by
  unfold setMember
  refine Fr.lit ?_
  exact Fr.refl _ _

theorem fr_clearA {a0 a1 a2} :
    Fr 8192 a0 (clearA a0 a1 a2) := by
  unfold clearA
  extract_lets +onlyGivenNames x0
  have h0 : Fr 8192 a0 x0 := by
    unfold x0
    refine Fr.call fr_setParam rfl ?_
    exact Fr.refl _ _
  clear_value x0
  refine Fr.lit ?_
  exact h0

theorem fr_noteHealth {a0 a1} :
    Fr 569344 a0 (noteHealth a0 a1) := by
  unfold noteHealth
  extract_lets +onlyGivenNames x0
  refine Fr.call fr_jAppend rfl ?_
  exact Fr.refl _ _

theorem fr_writeMember {a0 a1 a2} :
    onOk (fun b => Fr 571392 a2 b) (writeMember a0 a1 a2) := by
  unfold writeMember
  refine onOk_ite (fun c0 => ?_) (fun c0 => ?_)
  · exact onOk_error
  · refine onOk_ite (fun c1 => ?_) (fun c1 => ?_)
    · exact onOk_error
    · refine onOk_ite (fun c2 => ?_) (fun c2 => ?_)
      · refine onOk_ok ?_
        exact Fr.refl _ _
      · extract_lets +onlyGivenNames x3
        extract_lets +onlyGivenNames x4
        have h4 : Fr 571392 a2 x4 := by
          unfold x4
          refine Fr.call fr_setMember rfl ?_
          refine Fr.call fr_clearA rfl ?_
          refine Fr.call fr_setParamJ rfl ?_
          exact Fr.refl _ _
        clear_value x4
        refine onOk_ok ?_
        refine Fr.call fr_refreeze rfl ?_
        refine Fr.call fr_noteHealth rfl ?_
        exact h4

theorem fr_setHealth {a0 a1 a2} :
    Fr 571392 a0 (setHealth a0 a1 a2) := by
  unfold setHealth
  extract_lets +onlyGivenNames x0
  extract_lets +onlyGivenNames x1
  have h1 : Fr 571392 a0 x1 := by
    unfold x1
    refine Fr.call fr_noteHealth rfl ?_
    refine Fr.call fr_setMember rfl ?_
    exact Fr.refl _ _
  clear_value x1
  refine Fr.call fr_refreeze rfl ?_
  split
  · rename_i i2
    exact h1
  · rename_i i3
    refine Fr.call fr_raisePf rfl ?_
    exact h1
  · rename_i i4
    refine Fr.call fr_raisePf rfl ?_
    exact h1
  · rename_i i5
    refine Fr.call fr_raisePf rfl ?_
    exact h1

theorem fr_tryExpel {a0} :
    Fr 571392 a0 (tryExpel a0) := by
  unfold tryExpel
  split
  · rename_i i0 i1
    exact Fr.refl _ _
  · rename_i i2 i3 i4
    extract_lets +onlyGivenNames x5
    refine fr_ite (fun c6 => ?_) (fun c6 => ?_)
    · extract_lets +onlyGivenNames x7
      have h7 : Fr 571392 a0 x7 := by
        unfold x7
        refine Fr.call fr_setHealth rfl ?_
        refine Fr.call fr_setParamJ rfl ?_
        refine Fr.call fr_setParamJ rfl ?_
        exact Fr.refl _ _
      clear_value x7
      extract_lets +onlyGivenNames x8
      extract_lets +onlyGivenNames x9
      have h9 : Fr 571392 a0 x9 := by
        unfold x9
        refine Fr.lit ?_
        exact h7
      clear_value x9
      refine fr_ite (fun c10 => ?_) (fun c10 => ?_)
      · refine fr_foldl ?_ (fun v11 y11 h11 => ?_)
        · exact h9
        · refine fr_ite (fun c12 => ?_) (fun c12 => ?_)
          · refine Fr.call fr_setHealth rfl ?_
            exact h11
          · exact h11
      · exact h9
    · exact Fr.refl _ _

theorem fr_evalMember {a0 a1} :
    Fr 571392 a0 (evalMember a0 a1) := by
  unfold evalMember
  extract_lets +onlyGivenNames x0
  extract_lets +onlyGivenNames x1
  extract_lets +onlyGivenNames x2
  extract_lets +onlyGivenNames x3
  split
  · rename_i i4 i5
    refine fr_ite (fun c6 => ?_) (fun c6 => ?_)
    · refine Fr.call fr_setHealth rfl ?_
      exact Fr.refl _ _
    · exact Fr.refl _ _
  · rename_i i7 i8
    refine fr_ite (fun c9 => ?_) (fun c9 => ?_)
    · refine Fr.call fr_setHealth rfl ?_
      exact Fr.refl _ _
    · refine fr_ite (fun c10 => ?_) (fun c10 => ?_)
      · refine Fr.call fr_setHealth rfl ?_
        exact Fr.refl _ _
      · exact Fr.refl _ _
  · rename_i i11 i12
    refine fr_ite (fun c13 => ?_) (fun c13 => ?_)
    · refine Fr.call fr_setHealth rfl ?_
      exact Fr.refl _ _
    · refine fr_ite (fun c14 => ?_) (fun c14 => ?_)
      · refine Fr.call fr_setHealth rfl ?_
        exact Fr.refl _ _
      · exact Fr.refl _ _
  · rename_i i15 i16
    exact Fr.refl _ _

theorem fr_evalHealth {a0} :
    Fr 571392 a0 (evalHealth a0) := by
  unfold evalHealth
  refine fr_ite (fun c0 => ?_) (fun c0 => ?_)
  · refine Fr.call fr_tryExpel rfl ?_
    refine fr_foldl ?_ (fun v1 y1 h1 => ?_)
    · exact Fr.refl _ _
    · refine Fr.call fr_evalMember rfl ?_
      exact h1
  · exact Fr.refl _ _

theorem fr_writeSpares {a0 a1} :
    onOk (fun b => Fr 571392 a1 b) (writeSpares a0 a1) := by
  unfold writeSpares
  refine onOk_ite (fun c0 => ?_) (fun c0 => ?_)
  · exact onOk_error
  · refine onOk_ite (fun c1 => ?_) (fun c1 => ?_)
    · refine onOk_ok ?_
      exact Fr.refl _ _
    · refine onOk_ok ?_
      refine Fr.call fr_evalHealth rfl ?_
      refine Fr.call fr_setParamJ rfl ?_
      exact Fr.refl _ _

theorem fr_modJournal {a0 a1} :
    Fr 32768 a0 (modJournal a0 a1) := by
  unfold modJournal
  refine Fr.lit ?_
  exact Fr.refl _ _

theorem fr_eraseRegion {a0 a1} :
    Fr 569348 a0 (eraseRegion a0 a1) := by
  unfold eraseRegion
  extract_lets +onlyGivenNames x0
  have h0 : Fr 569348 a0 x0 := by
    unfold x0
    refine Fr.call fr_modJournal rfl ?_
    exact Fr.refl _ _
  clear_value x0
  refine fr_ite (fun c1 => ?_) (fun c1 => ?_)
  · refine Fr.call fr_setSvc rfl ?_
    exact h0
  · exact h0

theorem fr_startCompaction {a0} :
    Fr 569348 a0 (startCompaction a0) := by
  unfold startCompaction
  extract_lets +onlyGivenNames x0
  refine fr_ite (fun c1 => ?_) (fun c1 => ?_)
  · exact Fr.refl _ _
  · refine fr_ite (fun c2 => ?_) (fun c2 => ?_)
    · refine Fr.call fr_modJournal rfl ?_
      exact Fr.refl _ _
    · extract_lets +onlyGivenNames x3
      extract_lets +onlyGivenNames x4
      have h4 : Fr 569348 a0 x4 := by
        unfold x4
        refine Fr.call fr_jMust rfl ?_
        exact Fr.refl _ _
      clear_value x4
      refine Fr.call fr_eraseRegion rfl ?_
      refine Fr.call fr_modJournal rfl ?_
      exact h4

theorem fr_journalCmd {a0 a1} :
    onOk (fun b => Fr 569348 a1 b) (journalCmd a0 a1) := by
  unfold journalCmd
  extract_lets +onlyGivenNames x0
  refine onOk_ite (fun c1 => ?_) (fun c1 => ?_)
  · refine onOk_ok ?_
    refine fr_ite (fun c2 => ?_) (fun c2 => ?_)
    · exact Fr.refl _ _
    · refine Fr.call fr_startCompaction rfl ?_
      exact Fr.refl _ _
  · refine onOk_ite (fun c3 => ?_) (fun c3 => ?_)
    · extract_lets +onlyGivenNames x4
      have h4 : Fr 569348 a1 x4 := by
        unfold x4
        refine Fr.call fr_eraseRegion rfl ?_
        refine Fr.call fr_eraseRegion rfl ?_
        exact Fr.refl _ _
      clear_value x4
      refine onOk_ok ?_
      refine Fr.call fr_modJournal rfl ?_
      exact h4
    · exact onOk_error

theorem fr_mcodeCmd {a0 a1} :
    onOk (fun b => Fr 33554440 a1 b) (mcodeCmd a0 a1) := by
  unfold mcodeCmd
  refine onOk_ite (fun c0 => ?_) (fun c0 => ?_)
  · refine onOk_ok ?_
    refine Fr.lit ?_
    exact Fr.refl _ _
  · refine onOk_ite (fun c1 => ?_) (fun c1 => ?_)
    · refine onOk_ok ?_
      refine Fr.lit ?_
      exact Fr.refl _ _
    · exact onOk_error

theorem fr_clearSvc {a0 a1} :
    onOk (fun b => Fr 17346564 a1 b) (clearSvc a0 a1) := by
  unfold clearSvc
  extract_lets +onlyGivenNames x0
  refine onOk_ite (fun c1 => ?_) (fun c1 => ?_)
  · exact onOk_error
  · refine onOk_ite (fun c2 => ?_) (fun c2 => ?_)
    · refine onOk_ok ?_
      exact Fr.refl _ _
    · extract_lets +onlyGivenNames x3
      extract_lets +onlyGivenNames x4
      have h4 : Fr 17346564 a1 x4 := by
        unfold x4
        refine Fr.call fr_modPower rfl ?_
        exact Fr.refl _ _
      clear_value x4
      refine onOk_ok ?_
      refine Fr.call fr_announce rfl ?_
      refine Fr.call fr_jAppend rfl ?_
      exact h4

theorem fr_writeThreshold {a0 a1 a2} :
    onOk (fun b => Fr 569344 a2 b) (writeThreshold a0 a1 a2) := by
  unfold writeThreshold
  extract_lets +onlyGivenNames x0
  refine onOk_ite (fun c1 => ?_) (fun c1 => ?_)
  · refine onOk_ok ?_
    exact Fr.refl _ _
  · refine onOk_ite (fun c2 => ?_) (fun c2 => ?_)
    · exact onOk_error
    · refine onOk_ok ?_
      refine Fr.call fr_setStored rfl ?_
      exact Fr.refl _ _

theorem fr_writeNumber {a0 a1 a2 a3 a4 a5} :
    onOk (fun b => Fr 58392062 a5 b) (writeNumber a0 a1 a2 a3 a4 a5) := by
  unfold writeNumber
  refine onOk_ite (fun c0 => ?_) (fun c0 => ?_)
  · exact onOk_error
  · split
    · rename_i i1 i2
      refine onOk_ite (fun c3 => ?_) (fun c3 => ?_)
      · refine onOk_ok ?_
        refine Fr.call fr_setParam rfl ?_
        exact Fr.refl _ _
      · exact onOk_error
    · rename_i i4 i5
      refine onOk_call fr_powerCmd rfl ?_
      exact Fr.refl _ _
    · rename_i i6 i7
      refine onOk_call fr_writeSource rfl ?_
      exact Fr.refl _ _
    · rename_i i8 i9
      refine onOk_call fr_writeOrbitPort rfl ?_
      exact Fr.refl _ _
    · rename_i i10 i11
      refine onOk_call fr_writeOrbitPort rfl ?_
      exact Fr.refl _ _
    · rename_i i12 i13
      refine onOk_call fr_writeDomain rfl ?_
      exact Fr.refl _ _
    · rename_i i14 i15
      refine onOk_call fr_writePps rfl ?_
      exact Fr.refl _ _
    · rename_i i16 i17
      refine onOk_ok ?_
      refine Fr.call fr_setStored rfl ?_
      refine Fr.call fr_noteCycle rfl ?_
      exact Fr.refl _ _
    · rename_i i18 i19
      refine onOk_ok ?_
      refine Fr.call fr_modMoon rfl ?_
      exact Fr.refl _ _
    · rename_i i20 i21
      refine onOk_call fr_writePortCtrl rfl ?_
      exact Fr.refl _ _
    · rename_i i22 i23
      refine onOk_ok ?_
      refine Fr.call fr_setSel rfl ?_
      exact Fr.refl _ _
    · rename_i i24 i25
      refine onOk_ok ?_
      refine Fr.call fr_writeFwd rfl ?_
      exact Fr.refl _ _
    · rename_i i26 i27
      refine onOk_ite (fun c28 => ?_) (fun c28 => ?_)
      · exact onOk_error
      · refine onOk_ok ?_
        refine Fr.call fr_setParam rfl ?_
        refine Fr.call fr_keepShare rfl ?_
        exact Fr.refl _ _
    · rename_i i29 i30
      refine onOk_call fr_writePool rfl ?_
      exact Fr.refl _ _
    · rename_i i31 i32
      refine onOk_ok ?_
      refine Fr.call fr_modMoon rfl ?_
      exact Fr.refl _ _
    · rename_i i33 i34
      refine onOk_call fr_ackLedger rfl ?_
      exact Fr.refl _ _
    · rename_i i35 i36
      refine onOk_ok ?_
      refine Fr.call fr_setSel rfl ?_
      exact Fr.refl _ _
    · rename_i i37 i38
      refine onOk_call fr_writeSeqQuota rfl ?_
      exact Fr.refl _ _
    · rename_i i39 i40
      refine onOk_call fr_writeCtx rfl ?_
      exact Fr.refl _ _
    · rename_i i41 i42
      refine onOk_ok ?_
      refine Fr.call fr_setSel rfl ?_
      exact Fr.refl _ _
    · rename_i i43 i44
      refine onOk_ok ?_
      refine Fr.call fr_setSel rfl ?_
      exact Fr.refl _ _
    · rename_i i45 i46
      refine onOk_ok ?_
      refine Fr.call fr_setSel rfl ?_
      exact Fr.refl _ _
    · rename_i i47 i48
      refine onOk_call fr_writePipeCtx rfl ?_
      exact Fr.refl _ _
    · rename_i i49 i50
      refine onOk_call fr_writePipeCtrl rfl ?_
      exact Fr.refl _ _
    · rename_i i51 i52
      refine onOk_ok ?_
      refine fr_ite (fun c53 => ?_) (fun c53 => ?_)
      · refine Fr.call fr_closeGns rfl ?_
        exact Fr.refl _ _
      · exact Fr.refl _ _
    · rename_i i54 i55
      refine onOk_call fr_keyCmd rfl ?_
      exact Fr.refl _ _
    · rename_i i56 i57
      refine onOk_call fr_writeRole rfl ?_
      exact Fr.refl _ _
    · rename_i i58 i59
      refine onOk_ok ?_
      refine Fr.call fr_dropLost rfl ?_
      refine Fr.call fr_packParent rfl ?_
      refine Fr.call fr_setParamJ rfl ?_
      exact Fr.refl _ _
    · rename_i i60 i61
      refine onOk_call fr_writeMember rfl ?_
      exact Fr.refl _ _
    · rename_i i62 i63
      refine onOk_call fr_writeSpares rfl ?_
      exact Fr.refl _ _
    · rename_i i64 i65
      refine onOk_call fr_journalCmd rfl ?_
      exact Fr.refl _ _
    · rename_i i66 i67
      refine onOk_call fr_mcodeCmd rfl ?_
      exact Fr.refl _ _
    · rename_i i68 i69
      refine onOk_call fr_clearSvc rfl ?_
      exact Fr.refl _ _
    · rename_i i70 i71 i72 i73 i74 i75 i76 i77 i78 i79 i80 i81 i82 i83 i84 i85 i86 i87 i88 i89 i90 i91 i92 i93 i94 i95 i96 i97 i98 i99 i100 i101 i102 i103
      refine onOk_ite (fun c104 => ?_) (fun c104 => ?_)
      · refine onOk_call fr_writeThreshold rfl ?_
        exact Fr.refl _ _
      · refine onOk_ok ?_
        refine Fr.call fr_setStored rfl ?_
        exact Fr.refl _ _

theorem fr_writeValue {a0 a1 a2 a3 a4} :
    Fr 66846718 a0 (writeValue a0 a1 a2 a3 a4).1 := by
  unfold writeValue
  extract_lets +onlyGivenNames x0
  split
  · rename_i i1
    refine Fr.call fr_keyLoad rfl ?_
    exact Fr.refl _ _
  · rename_i i2
    split
    · rename_i i3
      refine Fr.call fr_sessionProve rfl ?_
      exact Fr.refl _ _
    · rename_i i4
      split
      · rename_i i5 i6 i7
        refine fr_fst ?_
        refine onOk_elim i7 ?_
        refine onOk_ite (fun c8 => ?_) (fun c8 => ?_)
        · refine onOk_call fr_writeBlob rfl ?_
          exact Fr.refl _ _
        · refine onOk_call fr_writeNumber rfl ?_
          exact Fr.refl _ _
      · rename_i i9 i10 i11
        refine fr_fst ?_
        exact Fr.refl _ _

theorem fr_modDict {a0 a1} :
    Fr 8192 a0 (modDict a0 a1) := by
  unfold modDict
  refine Fr.lit ?_
  exact Fr.refl _ _

theorem fr_dropStaging {a0 a1} :
    Fr 8192 a0 (dropStaging a0 a1) := by
  unfold dropStaging
  refine Fr.call fr_modDict rfl ?_
  exact Fr.refl _ _

theorem fr_writeItem {a0 a1 a2 a3} :
    Fr 66846718 a0 (writeItem a0 a1 a2 a3).1 := by
  unfold writeItem
  extract_lets +onlyGivenNames x0
  extract_lets +onlyGivenNames x1
  split
  · rename_i i2
    refine fr_fst ?_
    exact Fr.refl _ _
  · rename_i i3
    split
    · rename_i i4
      split
      · rename_i i5
        refine fr_fst ?_
        exact Fr.refl _ _
      · rename_i i6
        unfold x1
        split
        · rename_i i7
          refine fr_fst ?_
          refine Fr.call fr_writeValue rfl ?_
          exact Fr.refl _ _
        · rename_i i8
          refine fr_fst ?_
          refine Fr.call fr_writeValue rfl ?_
          exact Fr.refl _ _
    · rename_i i9
      extract_lets +onlyGivenNames x10
      extract_lets +onlyGivenNames x11
      extract_lets +onlyGivenNames x12
      have h12 : Fr 66846718 a0 x12 := by
        unfold x12
        refine Fr.call fr_dropStaging rfl ?_
        exact Fr.refl _ _
      clear_value x12
      clear_value x11
      split
      · rename_i i13
        refine fr_fst ?_
        exact h12
      · rename_i i14 i15
        extract_lets +onlyGivenNames x16
        split
        · rename_i i17
          refine fr_fst ?_
          refine Fr.call fr_modDict rfl ?_
          exact h12
        · rename_i i18
          split
          · rename_i i19
            refine fr_fst ?_
            exact h12
          · rename_i i20
            unfold x1
            split
            · rename_i i21
              refine fr_fst ?_
              refine Fr.call fr_writeValue rfl ?_
              exact h12
            · rename_i i22
              refine fr_fst ?_
              refine Fr.call fr_writeValue rfl ?_
              exact h12

theorem fr_actItem {a0 a1 a2 a3 a4 a5} :
    Fr 66846718 a0 (actItem a0 a1 a2 a3 a4 a5).1 := by
  unfold actItem
  split
  · rename_i i0 i1 i2
    refine fr_fst ?_
    exact Fr.refl _ _
  · rename_i i3 i4 i5
    split
    · rename_i i6
      refine Fr.call fr_readItem rfl ?_
      exact Fr.refl _ _
    · rename_i i7
      refine Fr.call fr_writeItem rfl ?_
      exact Fr.refl _ _
    · rename_i i8
      refine fr_fst ?_
      exact Fr.refl _ _

theorem fr_actItems {a0 a1 a2 a3 a4} :
    Fr 66846718 a0 (actItems a0 a1 a2 a3 a4).1 := by
  fun_induction actItems
  · rename_i i0 i1
    refine fr_fst ?_
    exact Fr.refl _ _
  · rename_i i2 i3 i4 i5 i6 i7 i8 i9 i10 i11 i12 i13
    have h14 := fr_eq fr_actItem i9
    refine fr_fst ?_
    refine fr_elim1 i12 ?_
    refine Fr.call i13 rfl ?_
    exact h14

theorem fr_takeKv {a0 a1 a2 a3} :
    Fr 1048704 a0 (takeKv a0 a1 a2 a3).1 := by
  fun_induction takeKv
  · rename_i i0
    refine fr_fst ?_
    exact Fr.refl _ _
  · rename_i i1 i2 i3 i4
    have h5 := fr_eq fr_drawFrom i4
    refine fr_fst ?_
    refine Fr.call h5 rfl ?_
    exact Fr.refl _ _
  · rename_i i6 i7 i8 i9 i10 i11 i12 i13 i14
    have h15 := fr_eq fr_drawFrom i10
    refine fr_fst ?_
    refine fr_elim1 i13 ?_
    refine Fr.call i14 rfl ?_
    refine Fr.call fr_modServe rfl ?_
    refine Fr.call h15 rfl ?_
    exact Fr.refl _ _

theorem fr_setCtxWord {a0 a1 a2 a3} :
    onOk (fun b => Fr 6291472 a0 b) (setCtxWord a0 a1 a2 a3) := by
  unfold setCtxWord
  refine onOk_call fr_writeMa rfl ?_
  exact Fr.refl _ _

theorem fr_postOut {a0 a1 a2 a3} :
    onOk (fun b => Fr 6291472 a0 b) (postOut a0 a1 a2 a3) := by
  unfold postOut
  refine onOk_bind (fun b0 q0 => ?_)
  refine onOk_bind (fun b1 q1 => ?_)
  have h2 := fr_writeMa _ q1
  refine onOk_call fr_setCtxWord rfl ?_
  exact h2

theorem fr_giveKv {a0 a1 a2} :
    Fr 128 a0 (giveKv a0 a1 a2) := by
  unfold giveKv
  refine Fr.call fr_modServe rfl ?_
  exact Fr.refl _ _

theorem fr_freeSeq {a0 a1 a2} :
    Fr 128 a0 (freeSeq a0 a1 a2) := by
  unfold freeSeq
  split
  · rename_i i0 i1
    exact Fr.refl _ _
  · rename_i i2 i3 i4
    refine Fr.call fr_modServe rfl ?_
    refine Fr.call fr_giveKv rfl ?_
    exact Fr.refl _ _

theorem fr_endSeq {a0 a1 a2 a3 a4 a5} :
    onOk (fun b => Fr 6836368 a0 b) (endSeq a0 a1 a2 a3 a4 a5) := by
  unfold endSeq
  split
  · rename_i i0 i1
    refine onOk_ok ?_
    exact Fr.refl _ _
  · rename_i i2 i3 i4
    refine onOk_bind (fun b5 q5 => ?_)
    have h6 := fr_postOut _ q5
    extract_lets +onlyGivenNames x7
    have h7 : Fr 6836368 a0 x7 := by
      unfold x7
      refine fr_ite (fun c8 => ?_) (fun c8 => ?_)
      · refine Fr.call fr_incB rfl ?_
        refine Fr.call h6 rfl ?_
        exact Fr.refl _ _
      · refine Fr.call h6 rfl ?_
        exact Fr.refl _ _
    clear_value x7
    refine onOk_ok ?_
    refine Fr.call fr_freeSeq rfl ?_
    exact h7

theorem fr_admitSeq {a0 a1 a2 a3 a4} :
    onOk (fun b => Fr 7884944 a0 b) (admitSeq a0 a1 a2 a3 a4) := by
  unfold admitSeq
  split
  · rename_i i0 i1 i2 i3 i4 i5
    split
    · rename_i i6 i7 i8 i9
      have h10 := fr_eq fr_takeKv i9
      extract_lets +onlyGivenNames x11
      extract_lets +onlyGivenNames x12
      have h12 : Fr 7884944 a0 x12 := by
        unfold x12
        refine Fr.call fr_modServe rfl ?_
        refine Fr.call h10 rfl ?_
        exact Fr.refl _ _
      clear_value x12
      extract_lets +onlyGivenNames x13
      refine onOk_bind (fun b14 q14 => ?_)
      have h15 := fr_postOut _ q14
      refine onOk_ite (fun c16 => ?_) (fun c16 => ?_)
      · refine onOk_call fr_endSeq rfl ?_
        refine Fr.call h15 rfl ?_
        exact h12
      · refine onOk_ok ?_
        refine Fr.call h15 rfl ?_
        exact h12
  · rename_i i17 i18 i19
    refine onOk_ok ?_
    exact Fr.refl _ _

theorem fr_reject {a0 a1 a2 a3 a4 a5} :
    onOk (fun b => Fr 6836240 a0 b) (reject a0 a1 a2 a3 a4 a5) := by
  unfold reject
  refine onOk_bind (fun b0 q0 => ?_)
  have h1 := fr_postOut _ q0
  refine onOk_ok ?_
  refine Fr.call fr_incB rfl ?_
  refine Fr.call h1 rfl ?_
  exact Fr.refl _ _

theorem fr_actReq {a0 a1 a2 a3 a4} :
    onOk (fun b : (Sys2Proof.Machine.State × Bool) => Fr 7884944 a0 b.1) (actReq a0 a1 a2 a3 a4) := by
  unfold actReq
  extract_lets +onlyGivenNames x0
  split
  · rename_i i1 i2
    extract_lets +onlyGivenNames x3
    refine onOk_ite (fun c4 => ?_) (fun c4 => ?_)
    · refine onOk_map (fun _ => rfl) ?_
      refine onOk_call fr_admitSeq rfl ?_
      exact Fr.refl _ _
    · refine onOk_map (fun _ => rfl) ?_
      refine onOk_call fr_reject rfl ?_
      exact Fr.refl _ _
  · rename_i i5 i6
    refine onOk_ite (fun c7 => ?_) (fun c7 => ?_)
    · refine onOk_map (fun _ => rfl) ?_
      refine onOk_call fr_reject rfl ?_
      exact Fr.refl _ _
    · split
      · rename_i i8 i9
        refine onOk_ok ?_
        refine fr_fst ?_
        exact Fr.refl _ _
      · rename_i i10 i11 i12
        refine onOk_ite (fun c13 => ?_) (fun c13 => ?_)
        · refine onOk_ok ?_
          refine fr_fst ?_
          refine Fr.call fr_modServe rfl ?_
          exact Fr.refl _ _
        · refine onOk_map (fun _ => rfl) ?_
          refine onOk_call fr_endSeq rfl ?_
          exact Fr.refl _ _
  · rename_i i14 i15
    refine onOk_ite (fun c16 => ?_) (fun c16 => ?_)
    · refine onOk_map (fun _ => rfl) ?_
      refine onOk_call fr_reject rfl ?_
      exact Fr.refl _ _
    · split
      · rename_i i17 i18
        refine onOk_ok ?_
        refine fr_fst ?_
        exact Fr.refl _ _
      · rename_i i19 i20 i21
        refine onOk_ok ?_
        refine fr_fst ?_
        refine Fr.call fr_modServe rfl ?_
        exact Fr.refl _ _
  · rename_i i22 i23 i24 i25
    refine onOk_map (fun _ => rfl) ?_
    refine onOk_call fr_reject rfl ?_
    exact Fr.refl _ _

theorem fr_activate {a0 a1 a2} :
    Fr 640 a0 (activate a0 a1 a2) := by
  unfold activate
  extract_lets +onlyGivenNames x0
  extract_lets +onlyGivenNames x1
  split
  · rename_i i2 i3
    refine fr_ite (fun c4 => ?_) (fun c4 => ?_)
    · extract_lets +onlyGivenNames x5
      refine Fr.lit ?_
      exact Fr.refl _ _
    · refine fr_ite (fun c6 => ?_) (fun c6 => ?_)
      · exact Fr.refl _ _
      · refine Fr.call fr_addVersion rfl ?_
        exact Fr.refl _ _
  · rename_i i7 i8
    extract_lets +onlyGivenNames x9
    extract_lets +onlyGivenNames x10
    refine Fr.call fr_setSlot rfl ?_
    exact Fr.refl _ _
  · rename_i i11 i12
    extract_lets +onlyGivenNames x13
    refine Fr.call fr_setSlot rfl ?_
    exact Fr.refl _ _
  · rename_i i14 i15 i16 i17
    exact Fr.refl _ _

theorem fr_advanceHead {a0 a1 a2 a3} :
    Fr 32 a0 (advanceHead a0 a1 a2 a3) := by
  fun_induction advanceHead
  · rename_i i0
    exact Fr.refl _ _
  · rename_i i1 i2 i3
    exact Fr.refl _ _
  · rename_i i4 i5 i6 i7 i8 i9 i10 i11 i12
    refine Fr.call i12 rfl ?_
    refine Fr.lit ?_
    unfold i11
    refine Fr.call fr_setRing rfl ?_
    exact Fr.refl _ _
  · rename_i i13 i14 i15 i16 i17 i18
    exact Fr.refl _ _

theorem fr_after {k : Nat} {z s : State} {r : Res} (h : Fr k z s) (g : onNext (fun b => Fr k z b) r) : Fr k z (after s r) := by
  unfold after
  split
  · exact g _ rfl
  · exact h

theorem fr_noteRunnable {a0 a1} :
    Fr 64 a0 (noteRunnable a0 a1) := by
  unfold noteRunnable
  extract_lets +onlyGivenNames x0
  refine fr_ite (fun c1 => ?_) (fun c1 => ?_)
  · exact Fr.refl _ _
  · extract_lets +onlyGivenNames x2
    extract_lets +onlyGivenNames x3
    extract_lets +onlyGivenNames x4
    refine Fr.call fr_setMoon rfl ?_
    exact Fr.refl _ _

theorem fr_noteAll {a0} :
    Fr 64 a0 (noteAll a0) := by
  unfold noteAll
  refine fr_foldl ?_ (fun v0 y0 h0 => ?_)
  · exact Fr.refl _ _
  · refine Fr.call fr_noteRunnable rfl ?_
    exact h0

theorem fr_ageAll {a0} :
    Fr 64 a0 (ageAll a0) := by
  unfold ageAll
  extract_lets +onlyGivenNames x0
  have h0 : Fr 64 a0 x0 := by
    unfold x0
    refine Fr.call fr_noteAll rfl ?_
    exact Fr.refl _ _
  clear_value x0
  refine Fr.lit ?_
  exact h0

theorem fr_answerWith {a0 a1 a2 a3} :
    Fr 552960 a0 (answerWith a0 a1 a2 a3) := by
  unfold answerWith
  extract_lets +onlyGivenNames x0
  have h0 : Fr 552960 a0 x0 := by
    unfold x0
    refine Fr.call fr_incB rfl ?_
    exact Fr.refl _ _
  clear_value x0
  extract_lets +onlyGivenNames x1
  have h1 : Fr 552960 a0 x1 := by
    unfold x1
    refine fr_ite (fun c2 => ?_) (fun c2 => ?_)
    · exact h0
    · refine Fr.call fr_incB rfl ?_
      exact h0
  clear_value x1
  refine Fr.lit ?_
  exact h1

theorem fr_answer {a0 a1} :
    Fr 552960 a0 (answer a0 a1) := by
  unfold answer
  refine Fr.call fr_answerWith rfl ?_
  exact Fr.refl _ _

theorem fr_putKey {a0 a1 a2} :
    Fr 8192 a0 (putKey a0 a1 a2) := by
  unfold putKey
  refine Fr.lit ?_
  exact Fr.refl _ _

theorem fr_applyHbm {a0 a1} :
    Fr 8208 a0 (applyHbm a0 a1) := by
  unfold applyHbm
  split
  · rename_i i0 i1 i2 i3 i4 i5
    extract_lets +onlyGivenNames x6
    extract_lets +onlyGivenNames x7
    extract_lets +onlyGivenNames x8
    extract_lets +onlyGivenNames x9
    extract_lets +onlyGivenNames x10
    have h10 : Fr 8208 a0 x10 := by
      unfold x10
      refine Fr.call fr_setRow rfl ?_
      exact Fr.refl _ _
    clear_value x10
    refine fr_ite (fun c11 => ?_) (fun c11 => ?_)
    · refine Fr.call fr_putKey rfl ?_
      exact h10
    · refine Fr.call fr_putKey rfl ?_
      exact h10
  · rename_i i12 i13 i14 i15 i16 i17
    refine Fr.call fr_putKey rfl ?_
    refine Fr.call fr_setPage rfl ?_
    exact Fr.refl _ _
  · rename_i i18 i19 i20
    exact Fr.refl _ _

theorem fr_applyRecord {a0 a1} :
    Fr 33554504 a0 (applyRecord a0 a1) := by
  unfold applyRecord
  split
  · rename_i i0 i1 i2
    refine Fr.call fr_modLedger rfl ?_
    exact Fr.refl _ _
  · rename_i i3 i4 i5 i6
    refine Fr.call fr_modLedger rfl ?_
    exact Fr.refl _ _
  · rename_i i7 i8 i9 i10 i11 i12
    refine Fr.lit ?_
    exact Fr.refl _ _
  · rename_i i13 i14 i15 i16 i17 i18 i19
    refine Fr.lit ?_
    exact Fr.refl _ _
  · rename_i i20 i21 i22 i23 i24
    refine Fr.lit ?_
    exact Fr.refl _ _
  · rename_i i25 i26 i27 i28 i29 i30
    refine Fr.lit ?_
    exact Fr.refl _ _
  · rename_i i31 i32 i33 i34
    exact Fr.refl _ _
  · rename_i i35 i36 i37 i38
    exact Fr.refl _ _
  · rename_i i39 i40 i41
    exact Fr.refl _ _
  · rename_i i42 i43 i44
    exact Fr.refl _ _
  · rename_i i45 i46 i47 i48 i49 i50
    exact Fr.refl _ _
  · rename_i i51 i52 i53
    exact Fr.refl _ _
  · rename_i i54 i55 i56
    exact Fr.refl _ _
  · rename_i i57 i58 i59 i60 i61 i62
    exact Fr.refl _ _
  · rename_i i63 i64 i65 i66 i67 i68
    exact Fr.refl _ _
  · rename_i i69 i70 i71
    exact Fr.refl _ _
  · rename_i i72 i73 i74 i75 i76
    exact Fr.refl _ _
  · rename_i i77 i78 i79 i80
    exact Fr.refl _ _
  · rename_i i81 i82 i83 i84 i85 i86
    exact Fr.refl _ _

theorem fr_releaseVersion {a0 a1 a2} :
    Fr 2667092 a0 (releaseVersion a0 a1 a2) := by
  unfold releaseVersion
  extract_lets +onlyGivenNames x0
  have h0 : Fr 2667092 a0 x0 := by
    unfold x0
    refine Fr.call fr_unmapPages rfl ?_
    exact Fr.refl _ _
  clear_value x0
  split
  · rename_i i1 i2 i3
    refine Fr.lit ?_
    exact h0
  · rename_i i4 i5
    exact h0

theorem fr_dropVersions {a0 a1 a2 a3} :
    Fr 2667220 a0 (dropVersions a0 a1 a2 a3) := by
  unfold dropVersions
  extract_lets +onlyGivenNames x0
  extract_lets +onlyGivenNames x1
  have h1 : Fr 2667220 a0 x1 := by
    unfold x1
    refine fr_foldl ?_ (fun v2 y2 h2 => ?_)
    · exact Fr.refl _ _
    · refine Fr.call fr_releaseVersion rfl ?_
      exact h2
  clear_value x1
  refine Fr.call fr_setSlot rfl ?_
  exact h1

theorem fr_applySwap {a0 a1 a2 a3} :
    Fr 2667220 a0 (applySwap a0 a1 a2 a3).1 := by
  unfold applySwap
  extract_lets +onlyGivenNames x0
  split
  · rename_i i1 i2 i3 i4 i5 i6
    split
    · rename_i i7
      refine fr_fst ?_
      exact Fr.refl _ _
    · rename_i i8
      extract_lets +onlyGivenNames x9
      extract_lets +onlyGivenNames x10
      have h10 : Fr 2667220 a0 x10 := by
        unfold x10
        refine Fr.call fr_modServe rfl ?_
        exact Fr.refl _ _
      clear_value x10
      extract_lets +onlyGivenNames x11
      have h11 : Fr 2667220 a0 x11 := by
        unfold x11
        refine fr_ite (fun c12 => ?_) (fun c12 => ?_)
        · refine Fr.call fr_setSlot rfl ?_
          exact h10
        · refine Fr.call fr_dropVersions rfl ?_
          exact h10
      clear_value x11
      extract_lets +onlyGivenNames x13
      refine fr_fst ?_
      refine Fr.call fr_setSlot rfl ?_
      exact h11
  · rename_i i14 i15 i16
    refine fr_fst ?_
    exact Fr.refl _ _

theorem fr_endSlot {a0 a1 a2 a3 a4 a5} :
    onOk (fun b => Fr 6836368 a0 b) (endSlot a0 a1 a2 a3 a4 a5) := by
  fun_induction endSlot
  · rename_i i0
    refine onOk_ok ?_
    exact Fr.refl _ _
  · rename_i i1 i2 i3 i4
    refine onOk_bind (fun b5 q5 => ?_)
    have h6 := fr_endSeq _ q5
    refine onOk_call (i4 _) rfl ?_
    exact h6

theorem fr_dropVariants {a0 a1 a2} :
    Fr 2666708 a0 (dropVariants a0 a1 a2) := by
  unfold dropVariants
  extract_lets +onlyGivenNames x0
  extract_lets +onlyGivenNames x1
  have h1 : Fr 2666708 a0 x1 := by
    unfold x1
    refine fr_foldl ?_ (fun v2 y2 h2 => ?_)
    · exact Fr.refl _ _
    · refine Fr.call fr_unmapPages rfl ?_
      exact h2
  clear_value x1
  refine Fr.call fr_setSlot rfl ?_
  exact h1

theorem fr_goneFetch {a0 a1 a2} :
    Fr 512 a0 (goneFetch a0 a1 a2) := by
  unfold goneFetch
  refine Fr.lit ?_
  exact Fr.refl _ _

theorem fr_applyUnload {a0 a1 a2 a3 a4} :
    onOk (fun b => Fr 6877908 a0 b) (applyUnload a0 a1 a2 a3 a4) := by
  unfold applyUnload
  refine onOk_ite (fun c0 => ?_) (fun c0 => ?_)
  · refine onOk_ok ?_
    exact Fr.refl _ _
  · extract_lets +onlyGivenNames x1
    refine onOk_bind (fun b2 q2 => ?_)
    refine onOk_ite (fun c3 => ?_) (fun c3 => ?_)
    · refine onOk_ok ?_
      exact Fr.refl _ _
    · refine onOk_bind (fun b4 q4 => ?_)
      have h5 := fr_endSlot _ q4
      extract_lets +onlyGivenNames x6
      have h6 : Fr 6877908 a0 x6 := by
        unfold x6
        refine Fr.call fr_dropVariants rfl ?_
        refine Fr.call fr_dropVersions rfl ?_
        refine Fr.call h5 rfl ?_
        exact Fr.refl _ _
      clear_value x6
      extract_lets +onlyGivenNames x7
      extract_lets +onlyGivenNames x8
      have h8 : Fr 6877908 a0 x8 := by
        unfold x8
        refine Fr.call fr_setSlot rfl ?_
        exact h6
      clear_value x8
      refine onOk_ok ?_
      refine Fr.call fr_goneFetch rfl ?_
      exact h8

theorem fr_arrayFaults {a0 a1 a2} :
    Fr 528384 a0 (arrayFaults a0 a1 a2) := by
  unfold arrayFaults
  extract_lets +onlyGivenNames x0
  refine fr_foldl ?_ (fun v1 y1 h1 => ?_)
  · exact Fr.refl _ _
  · refine Fr.call fr_raiseMoon rfl ?_
    exact h1

theorem fr_holdFlits {a0 a1 a2 a3} :
    Fr 1024 a0 (holdFlits a0 a1 a2 a3) := by
  unfold holdFlits
  extract_lets +onlyGivenNames x0
  refine Fr.call fr_setPort rfl ?_
  exact Fr.refl _ _

theorem fr_arriveChunk {a0 a1 a2} :
    Fr 6878324 a0 (arriveChunk a0 a1 a2) := by
  unfold arriveChunk
  refine fr_ite (fun c0 => ?_) (fun c0 => ?_)
  · extract_lets +onlyGivenNames x1
    have h1 : Fr 6878324 a0 x1 := by
      unfold x1
      refine Fr.call fr_modMoon rfl ?_
      exact Fr.refl _ _
    clear_value x1
    refine fr_ite (fun c2 => ?_) (fun c2 => ?_)
    · refine Fr.call fr_holdFlits rfl ?_
      exact h1
    · exact h1
  · extract_lets +onlyGivenNames x3
    have h3 : Fr 6878324 a0 x3 := by
      unfold x3
      refine Fr.call fr_putArrival rfl ?_
      exact Fr.refl _ _
    clear_value x3
    refine fr_ite (fun c4 => ?_) (fun c4 => ?_)
    · refine Fr.call fr_returnCredit rfl ?_
      exact h3
    · exact h3

theorem fr_askRetry {a0 a1} :
    Fr 525312 a0 (askRetry a0 a1) := by
  unfold askRetry
  extract_lets +onlyGivenNames x0
  refine Fr.call fr_emit rfl ?_
  refine Fr.call fr_setPort rfl ?_
  exact Fr.refl _ _

theorem fr_askTarget {a0 a1 a2 a3} :
    Fr 525312 a0 (askTarget a0 a1 a2 a3) := by
  unfold askTarget
  refine Fr.call fr_sendCtl rfl ?_
  exact Fr.refl _ _

theorem fr_assignOctets {a0 a1 a2} :
    Fr 64 a0 (assignOctets a0 a1 a2) := by
  fun_induction assignOctets
  · rename_i i0 i1
    exact Fr.refl _ _
  · rename_i i2 i3 i4 i5 i6 i7 i8
    refine Fr.call i8 rfl ?_
    exact Fr.refl _ _
  · rename_i i9 i10 i11 i12 i13 i14 i15
    refine Fr.call i15 rfl ?_
    refine Fr.call fr_setMoon rfl ?_
    exact Fr.refl _ _

theorem fr_copyKv {a0 a1 a2 a3} :
    onOk (fun b => Fr 6291472 a0 b) (copyKv a0 a1 a2 a3) := by
  unfold copyKv
  refine onOk_bind (fun b0 q0 => ?_)
  refine onOk_call fr_writeMa rfl ?_
  exact Fr.refl _ _

theorem fr_leaveSp {a0 a1 a2 a3} :
    onOk (fun b => Fr 6291600 a0 b) (leaveSp a0 a1 a2 a3) := by
  fun_induction leaveSp
  · rename_i i0
    refine onOk_ok ?_
    exact Fr.refl _ _
  · rename_i i1 i2 i3 i4
    refine onOk_bind (fun b5 q5 => ?_)
    have h6 := fr_copyKv _ q5
    refine onOk_call (i4 _) rfl ?_
    refine Fr.call fr_modServe rfl ?_
    refine Fr.call h6 rfl ?_
    exact Fr.refl _ _

theorem fr_enterSp {a0 a1 a2 a3} :
    onOk (fun b => Fr 7340176 a0 b) (enterSp a0 a1 a2 a3) := by
  fun_induction enterSp
  · rename_i i0
    refine onOk_ok ?_
    exact Fr.refl _ _
  · rename_i i1 i2 i3 i4 i5
    have h6 := fr_eq fr_drawFrom i5
    refine onOk_ok ?_
    refine Fr.call h6 rfl ?_
    exact Fr.refl _ _
  · rename_i i7 i8 i9 i10 i11 i12 i13
    have h14 := fr_eq fr_drawFrom i12
    refine onOk_bind (fun b15 q15 => ?_)
    have h16 := fr_copyKv _ q15
    refine onOk_call (i13 _) rfl ?_
    refine Fr.call fr_modServe rfl ?_
    refine Fr.call h16 rfl ?_
    refine Fr.call h14 rfl ?_
    exact Fr.refl _ _

theorem fr_assignSp {a0 a1 a2 a3} :
    onOk (fun b => Fr 7340176 a0 b) (assignSp a0 a1 a2 a3) := by
  unfold assignSp
  extract_lets +onlyGivenNames x0
  extract_lets +onlyGivenNames x1
  extract_lets +onlyGivenNames x2
  extract_lets +onlyGivenNames x3
  refine onOk_bind (fun b4 q4 => ?_)
  have h5 := fr_leaveSp _ q4
  refine onOk_call fr_enterSp rfl ?_
  refine Fr.call h5 rfl ?_
  exact Fr.refl _ _

theorem fr_endFetch {a0 a1 a2} :
    Fr 2667220 a0 (endFetch a0 a1 a2) := by
  unfold endFetch
  split
  · rename_i i0 i1
    exact Fr.refl _ _
  · rename_i i2 i3 i4
    extract_lets +onlyGivenNames x5
    have h5 : Fr 2667220 a0 x5 := by
      unfold x5
      refine Fr.call fr_unmapPages rfl ?_
      exact Fr.refl _ _
    clear_value x5
    extract_lets +onlyGivenNames x6
    extract_lets +onlyGivenNames x7
    have h7 : Fr 2667220 a0 x7 := by
      unfold x7
      refine fr_ite (fun c8 => ?_) (fun c8 => ?_)
      · refine Fr.call fr_setServe rfl ?_
        exact h5
      · exact h5
    clear_value x7
    extract_lets +onlyGivenNames x9
    extract_lets +onlyGivenNames x10
    have h10 : Fr 2667220 a0 x10 := by
      unfold x10
      refine fr_ite (fun c11 => ?_) (fun c11 => ?_)
      · refine Fr.lit ?_
        exact h7
      · exact h7
    clear_value x10
    extract_lets +onlyGivenNames x12
    extract_lets +onlyGivenNames x13
    have h13 : Fr 2667220 a0 x13 := by
      unfold x13
      refine Fr.lit ?_
      exact h10
    clear_value x13
    refine Fr.call fr_fetchStatus rfl ?_
    exact h13

theorem fr_atChunkEdge {a0 a1 a2} :
    onSome (fun b => Fr 2667220 a0 b) (atChunkEdge a0 a1 a2) := by
  unfold atChunkEdge
  refine onSome_ite (fun c0 => ?_) (fun c0 => ?_)
  · refine onSome_some ?_
    refine Fr.call fr_endFetch rfl ?_
    exact Fr.refl _ _
  · refine onSome_ite (fun c1 => ?_) (fun c1 => ?_)
    · refine onSome_some ?_
      refine Fr.call fr_endFetch rfl ?_
      exact Fr.refl _ _
    · refine onSome_ite (fun c2 => ?_) (fun c2 => ?_)
      · refine onSome_some ?_
        refine Fr.call fr_endFetch rfl ?_
        exact Fr.refl _ _
      · exact onSome_none

theorem fr_badEntropy {a0 a1} :
    Fr 667648 a0 (badEntropy a0 a1) := by
  unfold badEntropy
  refine Fr.call fr_raisePf rfl ?_
  refine Fr.call fr_incA rfl ?_
  refine Fr.lit ?_
  exact Fr.refl _ _

theorem fr_bar2Count {a0 a1 a2} :
    Fr 536576 a0 (bar2Count a0 a1 a2) := by
  unfold bar2Count
  refine fr_ite (fun c0 => ?_) (fun c0 => ?_)
  · refine Fr.call fr_incA rfl ?_
    exact Fr.refl _ _
  · exact Fr.refl _ _

theorem fr_bar2Store {a0 a1 a2} :
    Fr 2097168 a0 (bar2Store a0 a1 a2) := by
  fun_induction bar2Store
  · rename_i i0 i1
    exact Fr.refl _ _
  · rename_i i2 i3 i4 i5 i6
    refine Fr.call i6 rfl ?_
    refine fr_ite (fun c7 => ?_) (fun c7 => ?_)
    · refine Fr.litW ?_ ?_ ?_ ?_ ?_ ?_ <;> first | exact id | exact List.prefix_refl _ | exact Nat.le_refl _ | skip
      · exact Fr.refl _ _
      · exact fun w => memWf_memSet w
    · exact Fr.refl _ _

theorem fr_bar2Touch {a0 a1 a2 a3} :
    Fr 2641936 a0 (bar2Touch a0 a1 a2 a3) := by
  unfold bar2Touch
  refine fr_foldl ?_ (fun v0 y0 h0 => ?_)
  · exact Fr.refl _ _
  · extract_lets +onlyGivenNames x1
    refine fr_ite (fun c2 => ?_) (fun c2 => ?_)
    · refine Fr.call fr_mscAccess rfl ?_
      exact h0
    · exact h0

theorem fr_bar2Ue {a0 a1 a2} :
    Fr 585812 a0 (bar2Ue a0 a1 a2) := by
  unfold bar2Ue
  split
  · rename_i i0 i1 i2
    refine Fr.call fr_failByte rfl ?_
    refine Fr.call fr_incB rfl ?_
    exact Fr.refl _ _
  · rename_i i3 i4
    exact Fr.refl _ _

theorem fr_bar4Drop {a0} :
    Fr 536576 a0 (bar4Drop a0) := by
  unfold bar4Drop
  refine Fr.call fr_incA rfl ?_
  exact Fr.refl _ _

theorem fr_beginRestore {a0 a1} :
    Fr 64 a0 (beginRestore a0 a1) := by
  unfold beginRestore
  extract_lets +onlyGivenNames x0
  refine fr_ite (fun c1 => ?_) (fun c1 => ?_)
  · refine Fr.call fr_setMoon rfl ?_
    exact Fr.refl _ _
  · exact Fr.refl _ _

theorem fr_beginRestores {a0} :
    Fr 64 a0 (beginRestores a0) := by
  unfold beginRestores
  refine fr_foldl ?_ (fun v0 y0 h0 => ?_)
  · exact Fr.refl _ _
  · refine Fr.call fr_beginRestore rfl ?_
    exact h0

theorem fr_bootAt {a0 a1} :
    Fr 16777220 a0 (bootAt a0 a1) := by
  unfold bootAt
  refine Fr.call fr_modPower rfl ?_
  exact Fr.refl _ _

theorem fr_seat {a0 a1 a2} :
    Fr 33554440 a0 (seat a0 a1 a2) := by
  unfold seat
  split
  · rename_i i0 i1
    exact Fr.refl _ _
  · rename_i i2 i3 i4
    split
    · rename_i i5 i6 i7
      refine Fr.lit ?_
      exact Fr.refl _ _
    · rename_i i8 i9
      refine Fr.lit ?_
      exact Fr.refl _ _

theorem fr_fuseState {a0} :
    Fr 33554440 a0 (fuseState a0) := by
  unfold fuseState
  extract_lets +onlyGivenNames x0
  extract_lets +onlyGivenNames x1
  extract_lets +onlyGivenNames x2
  have h2 : Fr 33554440 a0 x2 := by
    unfold x2
    refine Fr.lit ?_
    exact Fr.refl _ _
  clear_value x2
  extract_lets +onlyGivenNames x3
  have h3 : Fr 33554440 a0 x3 := by
    unfold x3
    refine fr_foldl ?_ (fun v4 y4 h4 => ?_)
    · exact h2
    · refine Fr.call fr_seat rfl ?_
      exact h4
  clear_value x3
  refine Fr.lit ?_
  exact h3

theorem fr_trialColumn {a0 a1} :
    Fr 33554440 a0 (trialColumn a0 a1) := by
  unfold trialColumn
  split
  · rename_i i0 i1 i2 i3 i4
    extract_lets +onlyGivenNames x5
    refine fr_ite (fun c6 => ?_) (fun c6 => ?_)
    · exact Fr.refl _ _
    · split
      · rename_i i7 i8
        refine Fr.lit ?_
        exact Fr.refl _ _
      · rename_i i9 i10
        refine Fr.lit ?_
        exact Fr.refl _ _

theorem fr_bootBist {a0 a1} :
    Fr 33554440 a0 (bootBist a0 a1) := by
  unfold bootBist
  extract_lets +onlyGivenNames x0
  have h0 : Fr 33554440 a0 x0 := by
    unfold x0
    refine Fr.call fr_fuseState rfl ?_
    exact Fr.refl _ _
  clear_value x0
  extract_lets +onlyGivenNames x1
  extract_lets +onlyGivenNames x2
  have h2 : Fr 33554440 a0 x2 := by
    unfold x2
    refine Fr.lit ?_
    exact h0
  clear_value x2
  extract_lets +onlyGivenNames x3
  have h3 : Fr 33554440 a0 x3 := by
    unfold x3
    refine fr_foldl ?_ (fun v4 y4 h4 => ?_)
    · exact h2
    · refine Fr.call fr_trialColumn rfl ?_
      exact h4
  clear_value x3
  refine fr_foldl ?_ (fun v5 y5 h5 => ?_)
  · exact h3
  · refine Fr.call fr_seat rfl ?_
    exact h5

theorem fr_disableRings {a0} :
    Fr 32 a0 (disableRings a0) := by
  unfold disableRings
  refine Fr.lit ?_
  exact Fr.refl _ _

theorem fr_faultMoon {a0 a1} :
    Fr 16449532 a0 (faultMoon a0 a1) := by
  unfold faultMoon
  refine fr_ite (fun c0 => ?_) (fun c0 => ?_)
  · exact Fr.refl _ _
  · refine Fr.call fr_modMoon rfl ?_
    refine Fr.call fr_freeMoon rfl ?_
    refine Fr.call fr_closeSpan rfl ?_
    exact Fr.refl _ _

theorem fr_zeroise {a0} :
    Fr 12714008 a0 (zeroise a0) := by
  unfold zeroise
  refine Fr.litW ?_ ?_ ?_ ?_ ?_ ?_ <;> first | exact id | exact List.prefix_refl _ | exact Nat.le_refl _ | skip
  · exact Fr.refl _ _
  · exact fun _ => rfl
  · exact fun _ => rfl

theorem fr_faultStop {a0 a1} :
    Fr 33226748 a0 (faultStop a0 a1) := by
  unfold faultStop
  refine fr_ite (fun c0 => ?_) (fun c0 => ?_)
  · exact Fr.refl _ _
  · extract_lets +onlyGivenNames x1
    extract_lets +onlyGivenNames x2
    have h2 : Fr 33226748 a0 x2 := by
      unfold x2
      refine Fr.lit ?_
      exact Fr.refl _ _
    clear_value x2
    extract_lets +onlyGivenNames x3
    have h3 : Fr 33226748 a0 x3 := by
      unfold x3
      refine Fr.call fr_disableRings rfl ?_
      refine fr_foldl ?_ (fun v4 y4 h4 => ?_)
      · exact h2
      · refine Fr.call fr_faultMoon rfl ?_
        exact h4
    clear_value x3
    extract_lets +onlyGivenNames x5
    have h5 : Fr 33226748 a0 x5 := by
      unfold x5
      refine fr_ite (fun c6 => ?_) (fun c6 => ?_)
      · refine Fr.call fr_jMust rfl ?_
        exact h3
      · exact h3
    clear_value x5
    extract_lets +onlyGivenNames x7
    have h7 : Fr 33226748 a0 x7 := by
      unfold x7
      refine Fr.call fr_zeroise rfl ?_
      exact h5
    clear_value x7
    extract_lets +onlyGivenNames x8
    extract_lets +onlyGivenNames x9
    have h9 : Fr 33226748 a0 x9 := by
      unfold x9
      refine Fr.lit ?_
      exact h7
    clear_value x9
    refine Fr.call fr_announce rfl ?_
    refine Fr.call fr_raisePf rfl ?_
    exact h9

theorem fr_readCoolant {a0 a1 a2} :
    Fr 17313796 a0 (readCoolant a0 a1 a2) := by
  unfold readCoolant
  extract_lets +onlyGivenNames x0
  extract_lets +onlyGivenNames x1
  extract_lets +onlyGivenNames x2
  have h2 : Fr 17313796 a0 x2 := by
    unfold x2
    refine Fr.call fr_setParam rfl ?_
    refine Fr.call fr_setParam rfl ?_
    exact Fr.refl _ _
  clear_value x2
  extract_lets +onlyGivenNames x3
  have h3 : Fr 17313796 a0 x3 := by
    unfold x3
    refine Fr.call fr_setParam rfl ?_
    exact h2
  clear_value x3
  extract_lets +onlyGivenNames x4
  extract_lets +onlyGivenNames x5
  have h5 : Fr 17313796 a0 x5 := by
    unfold x5
    unfold x4
    refine fr_ite (fun c6 => ?_) (fun c6 => ?_)
    · refine fr_ite (fun c7 => ?_) (fun c7 => ?_)
      · exact h3
      · refine Fr.call fr_raisePf rfl ?_
        refine Fr.call fr_modPower rfl ?_
        exact h3
    · refine Fr.call fr_raisePf rfl ?_
      refine Fr.call fr_modPower rfl ?_
      refine fr_ite (fun c8 => ?_) (fun c8 => ?_)
      · exact h3
      · refine Fr.call fr_raisePf rfl ?_
        refine Fr.call fr_modPower rfl ?_
        exact h3
  clear_value x5
  extract_lets +onlyGivenNames x9
  extract_lets +onlyGivenNames x10
  extract_lets +onlyGivenNames x11
  have h11 : Fr 17313796 a0 x11 := by
    unfold x11
    refine Fr.call fr_modPower rfl ?_
    exact h5
  clear_value x11
  refine fr_ite (fun c12 => ?_) (fun c12 => ?_)
  · refine Fr.call fr_raisePf rfl ?_
    exact h11
  · exact h11

theorem fr_retireWaiting {a0} :
    Fr 569364 a0 (retireWaiting a0) := by
  unfold retireWaiting
  refine fr_foldl ?_ (fun v0 y0 h0 => ?_)
  · exact Fr.refl _ _
  · refine Fr.call fr_retirePage rfl ?_
    exact h0

theorem fr_hardRepair {a0 a1 a2 a3} :
    Fr 569428 a2 (hardRepair a0 a1 a2 a3) := by
  unfold hardRepair
  extract_lets +onlyGivenNames x0
  refine fr_ite (fun c1 => ?_) (fun c1 => ?_)
  · extract_lets +onlyGivenNames x2
    have h2 : Fr 569428 a2 x2 := by
      unfold x2
      refine Fr.call fr_jAppend rfl ?_
      exact Fr.refl _ _
    clear_value x2
    refine Fr.call fr_beginRetire rfl ?_
    refine Fr.call fr_setRow rfl ?_
    exact h2
  · extract_lets +onlyGivenNames x3
    have h3 : Fr 569428 a2 x3 := by
      unfold x3
      refine Fr.call fr_incA rfl ?_
      exact Fr.refl _ _
    clear_value x3
    refine Fr.call fr_setRow rfl ?_
    refine Fr.call fr_jAppend rfl ?_
    exact h3

theorem fr_hardenRows {a0 a1} :
    Fr 569428 a0 (hardenRows a0 a1) := by
  unfold hardenRows
  refine fr_foldl ?_ (fun v0 y0 h0 => ?_)
  · exact Fr.refl _ _
  · extract_lets +onlyGivenNames x1
    refine Fr.call fr_hardRepair rfl ?_
    exact h0

theorem fr_bootHbm {a0 a1} :
    Fr 34254940 a0 (bootHbm a0 a1) := by
  unfold bootHbm
  extract_lets +onlyGivenNames x0
  have h0 : Fr 34254940 a0 x0 := by
    unfold x0
    refine fr_ite (fun c1 => ?_) (fun c1 => ?_)
    · refine Fr.call fr_retireWaiting rfl ?_
      refine Fr.call fr_hardenRows rfl ?_
      refine fr_foldl ?_ (fun v2 y2 h2 => ?_)
      · exact Fr.refl _ _
      · refine Fr.call fr_applyHbm rfl ?_
        exact h2
    · exact Fr.refl _ _
  clear_value x0
  refine Fr.lit ?_
  exact h0

theorem fr_bootDeclare {a0 a1 a2 a3} :
    Fr 34123784 a0 (bootDeclare a0 a1 a2 a3) := by
  unfold bootDeclare
  refine fr_ite (fun c0 => ?_) (fun c0 => ?_)
  · exact Fr.refl _ _
  · extract_lets +onlyGivenNames x1
    extract_lets +onlyGivenNames x2
    have h2 : Fr 34123784 a0 x2 := by
      unfold x2
      refine Fr.call fr_incA rfl ?_
      refine Fr.lit ?_
      exact Fr.refl _ _
    clear_value x2
    refine Fr.call fr_raisePf rfl ?_
    refine Fr.call fr_jMust rfl ?_
    exact h2

theorem fr_bootColumn {a0 a1} :
    Fr 34123784 a0 (bootColumn a0 a1) := by
  unfold bootColumn
  split
  · rename_i i0 i1 i2 i3 i4
    extract_lets +onlyGivenNames x5
    refine fr_ite (fun c6 => ?_) (fun c6 => ?_)
    · exact Fr.refl _ _
    · split
      · rename_i i7 i8
        refine fr_ite (fun c9 => ?_) (fun c9 => ?_)
        · refine Fr.call fr_jAppend rfl ?_
          refine Fr.lit ?_
          exact Fr.refl _ _
        · extract_lets +onlyGivenNames x10
          have h10 : Fr 34123784 a0 x10 := by
            unfold x10
            refine Fr.call fr_incA rfl ?_
            exact Fr.refl _ _
          clear_value x10
          extract_lets +onlyGivenNames x11
          have h11 : Fr 34123784 a0 x11 := by
            unfold x11
            refine Fr.call fr_jMust rfl ?_
            exact h10
          clear_value x11
          refine Fr.lit ?_
          exact h11
      · rename_i i12 i13
        refine Fr.call fr_bootDeclare rfl ?_
        exact Fr.refl _ _

theorem fr_checkKennel {a0 a1} :
    Fr 569348 a0 (checkKennel a0 a1) := by
  unfold checkKennel
  refine fr_ite (fun c0 => ?_) (fun c0 => ?_)
  · refine Fr.call fr_setSvc rfl ?_
    exact Fr.refl _ _
  · exact Fr.refl _ _

theorem fr_setMap {a0 a1 a2 a3 a4} :
    Fr 34123784 a0 (setMap a0 a1 a2 a3 a4) := by
  unfold setMap
  refine Fr.call fr_jMust rfl ?_
  refine Fr.lit ?_
  exact Fr.refl _ _

theorem fr_moveVregs {a0 a1 a2} :
    Fr 8388616 a0 (moveVregs a0 a1 a2) := by
  unfold moveVregs
  extract_lets +onlyGivenNames x0
  refine Fr.litW ?_ ?_ ?_ ?_ ?_ ?_ <;> first | exact id | exact List.prefix_refl _ | exact Nat.le_refl _ | skip
  · exact Fr.refl _ _
  · exact fun w => memWf_foldl (memWf_filter w) fun _ _ h => memWf_memPut h

theorem fr_moveOctet {a0 a1 a2} :
    Fr 15208536 a0 (moveOctet a0 a1 a2) := by
  unfold moveOctet
  extract_lets +onlyGivenNames x0
  extract_lets +onlyGivenNames x1
  have h1 : Fr 15208536 a0 x1 := by
    unfold x1
    refine Fr.call fr_writeBackMoon rfl ?_
    exact Fr.refl _ _
  clear_value x1
  extract_lets +onlyGivenNames x2
  extract_lets +onlyGivenNames x3
  have h3 : Fr 15208536 a0 x3 := by
    unfold x3
    refine Fr.call fr_modMoon rfl ?_
    exact h1
  clear_value x3
  extract_lets +onlyGivenNames x4
  refine fr_ite (fun c5 => ?_) (fun c5 => ?_)
  · exact h3
  · extract_lets +onlyGivenNames x6
    have h6 : Fr 15208536 a0 x6 := by
      unfold x6
      refine Fr.call fr_moveVregs rfl ?_
      refine Fr.call fr_moveSegments rfl ?_
      exact h3
    clear_value x6
    refine Fr.call fr_poisonEvents rfl ?_
    exact h6

theorem fr_settleMoves {a0 a1} :
    Fr 15208568 a0 (settleMoves a0 a1) := by
  unfold settleMoves
  extract_lets +onlyGivenNames x0
  refine fr_ite (fun c1 => ?_) (fun c1 => ?_)
  · exact Fr.refl _ _
  · extract_lets +onlyGivenNames x2
    have h2 : Fr 15208568 a0 x2 := by
      unfold x2
      refine fr_foldl ?_ (fun v3 y3 h3 => ?_)
      · exact Fr.refl _ _
      · refine fr_ite (fun c4 => ?_) (fun c4 => ?_)
        · refine Fr.call fr_moveOctet rfl ?_
          exact h3
        · exact h3
    clear_value x2
    refine Fr.call fr_offerCores rfl ?_
    refine Fr.call fr_offerCores rfl ?_
    exact h2

theorem fr_displace {a0 a1} :
    Fr 553072 a0 (displace a0 a1) := by
  unfold displace
  extract_lets +onlyGivenNames x0
  have h0 : Fr 553072 a0 x0 := by
    unfold x0
    refine Fr.call fr_modMoon rfl ?_
    exact Fr.refl _ _
  clear_value x0
  extract_lets +onlyGivenNames x1
  have h1 : Fr 553072 a0 x1 := by
    unfold x1
    refine fr_ite (fun c2 => ?_) (fun c2 => ?_)
    · refine Fr.call fr_endRestore rfl ?_
      exact h0
    · exact h0
  clear_value x1
  extract_lets +onlyGivenNames x3
  have h3 : Fr 553072 a0 x3 := by
    unfold x3
    split
    · rename_i i4 i5 i6
      refine fr_ite (fun c7 => ?_) (fun c7 => ?_)
      · refine Fr.call fr_endJob rfl ?_
        exact h1
      · exact h1
    · rename_i i8 i9
      exact h1
  clear_value x3
  extract_lets +onlyGivenNames x10
  have h10 : Fr 553072 a0 x10 := by
    unfold x10
    refine fr_ite (fun c11 => ?_) (fun c11 => ?_)
    · exact h3
    · refine Fr.call fr_beginSpill rfl ?_
      exact h3
  clear_value x10
  refine Fr.call fr_raiseTo rfl ?_
  exact h10

theorem fr_startOctetMove {a0 a1 a2 a3} :
    Fr 15233144 a0 (startOctetMove a0 a1 a2 a3) := by
  unfold startOctetMove
  split
  · rename_i i0 i1 i2
    refine Fr.call fr_settleMoves rfl ?_
    refine Fr.call fr_modMoon rfl ?_
    exact Fr.refl _ _
  · rename_i i3 i4
    refine Fr.call fr_displace rfl ?_
    exact Fr.refl _ _

theorem fr_rehomeMoon {a0 a1 a2 a3} :
    Fr 15233144 a2 (rehomeMoon a0 a1 a2 a3) := by
  unfold rehomeMoon
  extract_lets +onlyGivenNames x0
  refine fr_ite (fun c1 => ?_) (fun c1 => ?_)
  · extract_lets +onlyGivenNames x2
    have h2 : Fr 15233144 a2 x2 := by
      unfold x2
      refine Fr.call fr_modMoon rfl ?_
      exact Fr.refl _ _
    clear_value x2
    refine fr_ite (fun c3 => ?_) (fun c3 => ?_)
    · exact h2
    · refine fr_ite (fun c4 => ?_) (fun c4 => ?_)
      · refine Fr.call fr_endRestore rfl ?_
        exact h2
      · refine Fr.call fr_beginSpill rfl ?_
        exact h2
  · extract_lets +onlyGivenNames x5
    extract_lets +onlyGivenNames x6
    have h6 : Fr 15233144 a2 x6 := by
      unfold x6
      refine Fr.call fr_modMoon rfl ?_
      exact Fr.refl _ _
    clear_value x6
    extract_lets +onlyGivenNames x7
    have h7 : Fr 15233144 a2 x7 := by
      unfold x7
      refine fr_foldl ?_ (fun v8 y8 h8 => ?_)
      · exact h6
      · refine Fr.call fr_startOctetMove rfl ?_
        exact h8
    clear_value x7
    refine fr_ite (fun c9 => ?_) (fun c9 => ?_)
    · refine Fr.call fr_startOctetMove rfl ?_
      exact h7
    · exact h7

theorem fr_rehome {a0 a1 a2} :
    Fr 15233144 a0 (rehome a0 a1 a2) := by
  unfold rehome
  refine fr_foldl ?_ (fun v0 y0 h0 => ?_)
  · exact Fr.refl _ _
  · refine Fr.call fr_rehomeMoon rfl ?_
    exact h0

theorem fr_poolEvents {a0} :
    Fr 528384 a0 (poolEvents a0) := by
  unfold poolEvents
  refine fr_foldl ?_ (fun v0 y0 h0 => ?_)
  · exact Fr.refl _ _
  · refine Fr.call fr_raiseTo rfl ?_
    exact h0

theorem fr_withdrawOctet {a0 a1 a2} :
    Fr 48820344 a0 (withdrawOctet a0 a1 a2) := by
  unfold withdrawOctet
  extract_lets +onlyGivenNames x0
  extract_lets +onlyGivenNames x1
  extract_lets +onlyGivenNames x2
  extract_lets +onlyGivenNames x3
  have h3 : Fr 48820344 a0 x3 := by
    unfold x3
    refine Fr.lit ?_
    exact Fr.refl _ _
  clear_value x3
  extract_lets +onlyGivenNames x4
  have h4 : Fr 48820344 a0 x4 := by
    unfold x4
    refine fr_foldl ?_ (fun v5 y5 h5 => ?_)
    · exact h3
    · refine Fr.call fr_setMap rfl ?_
      exact h5
  clear_value x4
  extract_lets +onlyGivenNames x6
  extract_lets +onlyGivenNames x7
  extract_lets +onlyGivenNames x8
  have h8 : Fr 48820344 a0 x8 := by
    unfold x8
    refine Fr.lit ?_
    exact h4
  clear_value x8
  extract_lets +onlyGivenNames x9
  have h9 : Fr 48820344 a0 x9 := by
    unfold x9
    refine Fr.call fr_rehome rfl ?_
    exact h8
  clear_value x9
  refine fr_ite (fun c10 => ?_) (fun c10 => ?_)
  · refine Fr.call fr_poolEvents rfl ?_
    refine Fr.call fr_setParamJ rfl ?_
    exact h9
  · exact h9

theorem fr_bootPlace {a0 a1 a2} :
    Fr 48820348 a0 (bootPlace a0 a1 a2) := by
  unfold bootPlace
  split
  · rename_i i0 i1
    exact Fr.refl _ _
  · rename_i i2 i3 i4
    split
    · rename_i i5 i6 i7
      refine Fr.call fr_checkKennel rfl ?_
      refine Fr.call fr_setMap rfl ?_
      exact Fr.refl _ _
    · rename_i i8 i9
      refine Fr.call fr_setSvc rfl ?_
      refine Fr.call fr_withdrawOctet rfl ?_
      exact Fr.refl _ _

theorem fr_bootCores {a0 a1} :
    Fr 48820348 a0 (bootCores a0 a1) := by
  unfold bootCores
  extract_lets +onlyGivenNames x0
  have h0 : Fr 48820348 a0 x0 := by
    unfold x0
    refine fr_foldl ?_ (fun v1 y1 h1 => ?_)
    · exact Fr.refl _ _
    · refine Fr.call fr_bootDeclare rfl ?_
      exact h1
  clear_value x0
  extract_lets +onlyGivenNames x2
  have h2 : Fr 48820348 a0 x2 := by
    unfold x2
    refine fr_foldl ?_ (fun v3 y3 h3 => ?_)
    · exact h0
    · refine Fr.call fr_bootColumn rfl ?_
      exact h3
  clear_value x2
  refine fr_foldl ?_ (fun v4 y4 h4 => ?_)
  · exact h2
  · refine Fr.call fr_bootPlace rfl ?_
    exact h4

theorem fr_closeLost {a0 a1 a2} :
    Fr 569408 a1 (closeLost a0 a1 a2) := by
  unfold closeLost
  split
  · rename_i i0 i1
    exact Fr.refl _ _
  · rename_i i2 i3 i4
    extract_lets +onlyGivenNames x5
    extract_lets +onlyGivenNames x6
    have h6 : Fr 569408 a1 x6 := by
      unfold x6
      refine Fr.call fr_modLedger rfl ?_
      exact Fr.refl _ _
    clear_value x6
    extract_lets +onlyGivenNames x7
    have h7 : Fr 569408 a1 x7 := by
      unfold x7
      refine Fr.call fr_incA rfl ?_
      refine Fr.call fr_incA rfl ?_
      refine Fr.call fr_incA rfl ?_
      refine Fr.call fr_incA rfl ?_
      refine Fr.call fr_incA rfl ?_
      exact h6
    clear_value x7
    refine Fr.call fr_jAppend rfl ?_
    exact h7

theorem fr_markGap {a0 a1 a2} :
    Fr 64 a1 (markGap a0 a1 a2) := by
  unfold markGap
  split
  · rename_i i0 i1
    refine fr_ite (fun c2 => ?_) (fun c2 => ?_)
    · refine Fr.call fr_modLedger rfl ?_
      exact Fr.refl _ _
    · exact Fr.refl _ _
  · rename_i i3 i4 i5 i6
    extract_lets +onlyGivenNames x7
    refine fr_ite (fun c8 => ?_) (fun c8 => ?_)
    · refine Fr.call fr_modLedger rfl ?_
      exact Fr.refl _ _
    · exact Fr.refl _ _

theorem fr_replay {a0} :
    Fr 50901068 a0 (replay a0) := by
  unfold replay
  extract_lets +onlyGivenNames x0
  extract_lets +onlyGivenNames x1
  have h1 : Fr 50901068 a0 x1 := by
    unfold x1
    refine fr_foldl ?_ (fun v2 y2 h2 => ?_)
    · exact Fr.refl _ _
    · refine Fr.call fr_applyRecord rfl ?_
      exact h2
  clear_value x1
  extract_lets +onlyGivenNames x3
  have h3 : Fr 50901068 a0 x3 := by
    unfold x3
    refine fr_foldl ?_ (fun v4 y4 h4 => ?_)
    · exact h1
    · refine Fr.call fr_closeLost rfl ?_
      exact h4
  clear_value x3
  extract_lets +onlyGivenNames x5
  have h5 : Fr 50901068 a0 x5 := by
    unfold x5
    refine fr_foldl ?_ (fun v6 y6 h6 => ?_)
    · exact h3
    · refine Fr.call fr_markGap rfl ?_
      exact h6
  clear_value x5
  extract_lets +onlyGivenNames x7
  have h7 : Fr 50901068 a0 x7 := by
    unfold x7
    refine fr_ite (fun c8 => ?_) (fun c8 => ?_)
    · refine Fr.call fr_raisePf rfl ?_
      exact h5
    · exact h5
  clear_value x7
  split
  · rename_i i9 i10 i11 i12 i13
    extract_lets +onlyGivenNames x14
    extract_lets +onlyGivenNames x15
    have h15 : Fr 50901068 a0 x15 := by
      unfold x15
      refine fr_ite (fun c16 => ?_) (fun c16 => ?_)
      · exact h7
      · refine Fr.call fr_noteBanks rfl ?_
        exact h7
    clear_value x15
    refine Fr.call fr_settlePool rfl ?_
    refine Fr.call fr_modPower rfl ?_
    exact h15

end Sys2Proof.Laws
end

