-- ==== Sys2Proof/Laws/Frames3.lean ====
section
/-! SUPPORT. Frames of the operations of Machine, part 3: for each, the parts of the state that it may change (Laws/Frame.lean says which bit
names which part), callees before callers. -/

set_option Elab.async false

namespace Sys2Proof.Laws

open Sys2Proof.Machine

theorem fr_measureStep {a0 a1 a2} :
    Fr 17313796 a0 (measureStep a0 a1 a2) := by
  unfold measureStep
  refine fr_ite (fun c0 => ?_) (fun c0 => ?_)
  · exact Fr.refl _ _
  · extract_lets +onlyGivenNames x1
    have h1 : Fr 17313796 a0 x1 := by
      unfold x1
      refine Fr.call fr_modPower rfl ?_
      exact Fr.refl _ _
    clear_value x1
    split
    · rename_i i2 i3
      exact h1
    · rename_i i4 i5 i6 i7
      extract_lets +onlyGivenNames x8
      have h8 : Fr 17313796 a0 x8 := by
        unfold x8
        refine Fr.call fr_setParam rfl ?_
        exact h1
      clear_value x8
      refine fr_ite (fun c9 => ?_) (fun c9 => ?_)
      · refine Fr.call fr_raisePf rfl ?_
        refine Fr.call fr_modPower rfl ?_
        exact h8
      · exact h8

theorem fr_fillTrigger {a0} :
    Fr 569348 a0 (fillTrigger a0) := by
  unfold fillTrigger
  refine fr_ite (fun c0 => ?_) (fun c0 => ?_)
  · refine Fr.call fr_startCompaction rfl ?_
    exact Fr.refl _ _
  · exact Fr.refl _ _

theorem fr_bootReady {a0 a1} :
    Fr 66781180 a0 (bootReady a0 a1) := by
  unfold bootReady
  extract_lets +onlyGivenNames x0
  have h0 : Fr 66781180 a0 x0 := by
    unfold x0
    refine fr_foldl ?_ (fun v1 y1 h1 => ?_)
    · refine Fr.call fr_bootAt rfl ?_
      exact Fr.refl _ _
    · refine Fr.call fr_badEntropy rfl ?_
      exact h1
  clear_value x0
  refine fr_ite (fun c2 => ?_) (fun c2 => ?_)
  · refine Fr.call fr_faultStop rfl ?_
    exact h0
  · extract_lets +onlyGivenNames x3
    extract_lets +onlyGivenNames x4
    have h4 : Fr 66781180 a0 x4 := by
      unfold x4
      refine Fr.lit ?_
      exact h0
    clear_value x4
    extract_lets +onlyGivenNames x5
    have h5 : Fr 66781180 a0 x5 := by
      unfold x5
      refine fr_foldl ?_ (fun v6 y6 h6 => ?_)
      · exact h4
      · refine Fr.call fr_measureStep rfl ?_
        exact h6
    clear_value x5
    extract_lets +onlyGivenNames x7
    have h7 : Fr 66781180 a0 x7 := by
      unfold x7
      exact h5
    clear_value x7
    extract_lets +onlyGivenNames x8
    have h8 : Fr 66781180 a0 x8 := by
      unfold x8
      refine Fr.call fr_modPower rfl ?_
      exact h5
    clear_value x8
    refine Fr.call fr_fillTrigger rfl ?_
    refine Fr.call fr_announce rfl ?_
    refine Fr.call fr_settlePack rfl ?_
    refine Fr.call fr_packParent rfl ?_
    refine Fr.call fr_updateRole rfl ?_
    exact h8

theorem fr_bootReplay {a0 a1} :
    Fr 66846716 a0 (bootReplay a0 a1) := by
  unfold bootReplay
  extract_lets +onlyGivenNames x0
  extract_lets +onlyGivenNames x1
  have h1 : Fr 66846716 a0 x1 := by
    unfold x1
    refine Fr.call fr_bootAt rfl ?_
    exact Fr.refl _ _
  clear_value x1
  extract_lets +onlyGivenNames x2
  have h2 : Fr 66846716 a0 x2 := by
    unfold x2
    refine Fr.call fr_bootCores rfl ?_
    refine fr_ite (fun c3 => ?_) (fun c3 => ?_)
    · refine Fr.call fr_replay rfl ?_
      exact h1
    · exact h1
  clear_value x2
  refine fr_ite (fun c4 => ?_) (fun c4 => ?_)
  · refine Fr.call fr_faultStop rfl ?_
    exact h2
  · extract_lets +onlyGivenNames x5
    have h5 : Fr 66846716 a0 x5 := by
      unfold x5
      refine fr_ite (fun c6 => ?_) (fun c6 => ?_)
      · exact h2
      · refine Fr.call fr_setSvc rfl ?_
        exact h2
    clear_value x5
    extract_lets +onlyGivenNames x7
    have h7 : Fr 66846716 a0 x7 := by
      unfold x7
      refine fr_modFw ?_ rfl ?_
      · exact Nat.le_refl _
      · refine Fr.call fr_bootAt rfl ?_
        exact h5
    clear_value x7
    refine fr_ite (fun c8 => ?_) (fun c8 => ?_)
    · refine Fr.call fr_faultStop rfl ?_
      exact h7
    · refine Fr.call fr_bootReady rfl ?_
      exact h7

theorem fr_bootMiddle {a0 a1} :
    Fr 66846716 a0 (bootMiddle a0 a1) := by
  unfold bootMiddle
  extract_lets +onlyGivenNames x0
  have h0 : Fr 66846716 a0 x0 := by
    unfold x0
    refine Fr.call fr_bootHbm rfl ?_
    refine Fr.call fr_bootAt rfl ?_
    exact Fr.refl _ _
  clear_value x0
  refine fr_ite (fun c1 => ?_) (fun c1 => ?_)
  · refine Fr.call fr_faultStop rfl ?_
    exact h0
  · refine fr_ite (fun c2 => ?_) (fun c2 => ?_)
    · refine Fr.call fr_faultStop rfl ?_
      exact h0
    · extract_lets +onlyGivenNames x3
      have h3 : Fr 66846716 a0 x3 := by
        unfold x3
        refine Fr.call fr_bootBist rfl ?_
        refine Fr.call fr_bootAt rfl ?_
        refine Fr.call fr_bootAt rfl ?_
        exact h0
      clear_value x3
      refine fr_ite (fun c4 => ?_) (fun c4 => ?_)
      · refine Fr.call fr_faultStop rfl ?_
        exact h3
      · refine Fr.call fr_bootReplay rfl ?_
        refine Fr.call fr_fuseState rfl ?_
        refine Fr.call fr_bootAt rfl ?_
        exact h0

theorem fr_bootCoolant {a0 a1 a2 a3} :
    Fr 66846716 a0 (bootCoolant a0 a1 a2 a3) := by
  unfold bootCoolant
  extract_lets +onlyGivenNames x0
  have h0 : Fr 66846716 a0 x0 := by
    unfold x0
    refine Fr.call fr_readCoolant rfl ?_
    exact Fr.refl _ _
  clear_value x0
  refine fr_ite (fun c1 => ?_) (fun c1 => ?_)
  · refine Fr.call fr_modPower rfl ?_
    exact h0
  · refine Fr.call fr_bootMiddle rfl ?_
    refine Fr.call fr_modPower rfl ?_
    exact h0

theorem fr_bootChecks {a0 a1} :
    Fr 66846716 a0 (bootChecks a0 a1) := by
  unfold bootChecks
  extract_lets +onlyGivenNames x0
  have h0 : Fr 66846716 a0 x0 := by
    unfold x0
    refine Fr.call fr_bootAt rfl ?_
    exact Fr.refl _ _
  clear_value x0
  extract_lets +onlyGivenNames x1
  extract_lets +onlyGivenNames x2
  have h2 : Fr 66846716 a0 x2 := by
    unfold x2
    refine Fr.lit ?_
    exact h0
  clear_value x2
  refine fr_ite (fun c3 => ?_) (fun c3 => ?_)
  · refine Fr.call fr_faultStop rfl ?_
    refine Fr.call fr_modPower rfl ?_
    exact h2
  · refine Fr.call fr_bootCoolant rfl ?_
    exact h2

theorem fr_raiseServed {a0 a1 a2} :
    Fr 528384 a0 (raiseServed a0 a1 a2) := by
  unfold raiseServed
  extract_lets +onlyGivenNames x0
  refine fr_ite (fun c1 => ?_) (fun c1 => ?_)
  · refine Fr.call fr_raisePf rfl ?_
    exact Fr.refl _ _
  · refine Fr.call fr_modHost rfl ?_
    exact Fr.refl _ _

theorem fr_firstBank {a0 a1 a2} :
    Fr 528384 a0 (firstBank a0 a1 a2).2 := by
  fun_induction firstBank
  · rename_i i0
    refine fr_snd ?_
    exact Fr.refl _ _
  · rename_i i1 i2 i3 i4 i5
    refine fr_snd ?_
    exact Fr.refl _ _
  · rename_i i6 i7 i8 i9 i10 i11
    refine Fr.call i11 rfl ?_
    refine Fr.call fr_raiseServed rfl ?_
    exact Fr.refl _ _

theorem fr_chooseBank {a0 a1} :
    Fr 593920 a0 (chooseBank a0 a1).2 := by
  unfold chooseBank
  split
  · rename_i i0
    split
    · rename_i i1 i2 i3
      have h4 := fr_eq fr_firstBank i3
      refine fr_snd ?_
      refine Fr.call h4 rfl ?_
      exact Fr.refl _ _
    · rename_i i5 i6 i7 i8
      have h9 := fr_eq fr_firstBank i8
      refine fr_snd ?_
      refine fr_modFw ?_ rfl ?_
      · exact Nat.le_refl _
      · refine Fr.call h9 rfl ?_
        exact Fr.refl _ _
  · rename_i i10
    split
    · rename_i i11 i12 i13 i14 i15
      extract_lets +onlyGivenNames x16
      extract_lets +onlyGivenNames x17
      extract_lets +onlyGivenNames x18
      extract_lets +onlyGivenNames x19
      split
      · rename_i i20 i21 i22
        have h23 := fr_eq fr_firstBank i22
        refine fr_snd ?_
        refine Fr.call h23 rfl ?_
        exact Fr.refl _ _
      · rename_i i24 i25 i26 i27
        have h28 := fr_eq fr_firstBank i27
        extract_lets +onlyGivenNames x29
        refine fr_snd ?_
        refine fr_modFw ?_ rfl ?_
        · exact Nat.le_refl _
        · refine Fr.call h28 rfl ?_
          exact Fr.refl _ _

theorem fr_trainHost {a0} :
    Fr 1060864 a0 (trainHost a0) := by
  unfold trainHost
  refine fr_ite (fun c0 => ?_) (fun c0 => ?_)
  · exact Fr.refl _ _
  · split
    · rename_i i1 i2 i3 i4
      have h5 := fr_eq fr_draw i4
      refine Fr.call fr_modHost rfl ?_
      refine Fr.call fr_setParam rfl ?_
      refine Fr.call h5 rfl ?_
      exact Fr.refl _ _

theorem fr_bootRun {a0 a1} :
    Fr 66846716 a0 (bootRun a0 a1) := by
  unfold bootRun
  refine Fr.call fr_bootChecks rfl ?_
  refine Fr.call fr_trainHost rfl ?_
  refine Fr.call fr_modPower rfl ?_
  exact Fr.refl _ _

theorem fr_bootRom {a0 a1} :
    Fr 66846716 a0 (bootRom a0 a1) := by
  unfold bootRom
  split
  · rename_i i0 i1 i2 i3
    have h4 := fr_eq fr_chooseBank i3
    refine Fr.call fr_bootRun rfl ?_
    refine Fr.call h4 rfl ?_
    refine Fr.call fr_bootAt rfl ?_
    refine Fr.call fr_trainHost rfl ?_
    exact Fr.refl _ _
  · rename_i i5 i6 i7
    have h8 := fr_eq fr_chooseBank i7
    refine Fr.call fr_modPower rfl ?_
    refine Fr.call h8 rfl ?_
    refine Fr.call fr_bootAt rfl ?_
    refine Fr.call fr_trainHost rfl ?_
    exact Fr.refl _ _

theorem fr_bumpTiles {a0 a1 a2 a3 a4} :
    onOk (fun b => Fr 6291472 a0 b) (bumpTiles a0 a1 a2 a3 a4) := by
  unfold bumpTiles
  refine onOk_call fr_modTiles rfl ?_
  exact Fr.refl _ _

theorem fr_checkDiverged {a0} :
    Fr 528386 a0 (checkDiverged a0) := by
  unfold checkDiverged
  split
  · rename_i i0 i1
    exact Fr.refl _ _
  · rename_i i2 i3 i4
    refine fr_ite (fun c5 => ?_) (fun c5 => ?_)
    · exact Fr.refl _ _
    · refine Fr.call fr_raisePf rfl ?_
      refine Fr.call fr_modOrbit rfl ?_
      exact Fr.refl _ _

theorem fr_chooseMode {a0 a1 a2} :
    onSome (fun b => Fr 1024 a0 b) (chooseMode a0 a1 a2) := by
  unfold chooseMode
  extract_lets +onlyGivenNames x0
  split
  · rename_i i1 i2
    exact onSome_none
  · rename_i i3 i4 i5 i6
    refine onSome_some ?_
    refine Fr.call fr_setPort rfl ?_
    exact Fr.refl _ _

theorem fr_histPut {a0 a1 a2 a3 a4 a5} :
    onOk (fun b => Fr 6291472 a0 b) (histPut a0 a1 a2 a3 a4 a5) := by
  fun_induction histPut
  · rename_i i0 i1
    refine onOk_ok ?_
    exact Fr.refl _ _
  · rename_i i2 i3 i4 i5 i6
    refine onOk_bind (fun b7 q7 => ?_)
    have h8 := fr_writeMa _ q7
    refine onOk_call (i6 _) rfl ?_
    exact h8

theorem fr_trimKv {a0 a1 a2 a3} :
    Fr 128 a0 (trimKv a0 a1 a2 a3) := by
  unfold trimKv
  split
  · rename_i i0 i1
    exact Fr.refl _ _
  · rename_i i2 i3 i4
    extract_lets +onlyGivenNames x5
    refine Fr.call fr_modServe rfl ?_
    refine Fr.call fr_giveKv rfl ?_
    exact Fr.refl _ _

theorem fr_finishWalk {a0 a1 a2 a3 a4 a5 a6 a7 a8} :
    onOk (fun b : (Sys2Proof.Machine.State × Nat) => Fr 6836368 a0 b.1) (finishWalk a0 a1 a2 a3 a4 a5 a6 a7 a8) := by
  unfold finishWalk
  refine onOk_bind (fun b0 q0 => ?_)
  have h1 := fr_histPut _ q0
  extract_lets +onlyGivenNames x2
  extract_lets +onlyGivenNames x3
  extract_lets +onlyGivenNames x4
  have h4 : Fr 6836368 a0 x4 := by
    unfold x4
    refine Fr.call fr_modServe rfl ?_
    refine Fr.call h1 rfl ?_
    exact Fr.refl _ _
  clear_value x4
  extract_lets +onlyGivenNames x5
  have h5 : Fr 6836368 a0 x5 := by
    unfold x5
    refine fr_ite (fun c6 => ?_) (fun c6 => ?_)
    · exact h4
    · refine Fr.call fr_incB rfl ?_
      exact h4
  clear_value x5
  extract_lets +onlyGivenNames x7
  have h7 : Fr 6836368 a0 x7 := by
    unfold x7
    refine Fr.call fr_incB rfl ?_
    exact h5
  clear_value x7
  extract_lets +onlyGivenNames x8
  have h8 : Fr 6836368 a0 x8 := by
    unfold x8
    refine fr_ite (fun c9 => ?_) (fun c9 => ?_)
    · refine fr_ite (fun c10 => ?_) (fun c10 => ?_)
      · exact h7
      · refine Fr.call fr_incB rfl ?_
        exact h7
    · exact h5
  clear_value x8
  refine onOk_ite (fun c11 => ?_) (fun c11 => ?_)
  · refine onOk_bind (fun b12 q12 => ?_)
    have h13 := fr_endSeq _ q12
    refine onOk_ok ?_
    refine fr_fst ?_
    refine Fr.call h13 rfl ?_
    exact h8
  · refine onOk_bind (fun b14 q14 => ?_)
    have h15 := fr_postOut _ q14
    refine onOk_ok ?_
    refine fr_fst ?_
    refine fr_ite (fun c16 => ?_) (fun c16 => ?_)
    · refine Fr.call fr_trimKv rfl ?_
      refine Fr.call h15 rfl ?_
      exact h8
    · refine Fr.call fr_freeSeq rfl ?_
      refine Fr.call h15 rfl ?_
      exact h8

theorem fr_walkTree {a0 a1 a2 a3 a4 a5 a6 a7 a8} :
    onOk (fun b : (Sys2Proof.Machine.State × Sys2Proof.Machine.Walk) => Fr 1048576 a0 b.1) (walkTree a0 a1 a2 a3 a4 a5 a6 a7 a8) := by
  induction a6 generalizing a0 a7 a8 <;> unfold walkTree
  · refine onOk_ok ?_
    refine fr_fst ?_
    exact Fr.refl _ _
  · rename_i i0 i1
    refine onOk_bind (fun b2 q2 => ?_)
    split
    · rename_i i3 i4 i5 i6
      extract_lets +onlyGivenNames x7
      have h7 : Fr 1048576 a0 x7 := by
        unfold x7
        refine Fr.lit ?_
        exact Fr.refl _ _
      clear_value x7
      split
      · rename_i i8 i9
        refine onOk_ok ?_
        refine fr_fst ?_
        exact h7
      · rename_i i10 i11
        extract_lets +onlyGivenNames x12
        refine onOk_ite (fun c13 => ?_) (fun c13 => ?_)
        · refine onOk_ok ?_
          refine fr_fst ?_
          exact h7
        · refine onOk_ite (fun c14 => ?_) (fun c14 => ?_)
          · refine onOk_ok ?_
            refine fr_fst ?_
            exact h7
          · split
            · rename_i i15 i16 i17
              refine onOk_call i1 rfl ?_
              exact h7
            · rename_i i18 i19
              refine onOk_ok ?_
              refine fr_fst ?_
              exact h7

theorem fr_moveKv {a0 a1 a2 a3 a4 a5 a6 a7} :
    onOk (fun b => Fr 6291472 a0 b) (moveKv a0 a1 a2 a3 a4 a5 a6 a7) := by
  fun_induction moveKv
  · rename_i i0
    refine onOk_ok ?_
    exact Fr.refl _ _
  · rename_i i1 i2 i3 i4 i5 i6
    refine onOk_bind (fun b7 q7 => ?_)
    refine onOk_bind (fun b8 q8 => ?_)
    have h9 := fr_writeMa _ q8
    refine onOk_call (i6 _) rfl ?_
    exact h9

theorem fr_compactKv {a0 a1 a2 a3 a4 a5 a6} :
    onOk (fun b => Fr 6291472 a0 b) (compactKv a0 a1 a2 a3 a4 a5 a6) := by
  fun_induction compactKv
  · rename_i i0 i1
    refine onOk_ok ?_
    exact Fr.refl _ _
  · rename_i i2 i3 i4 i5 i6
    refine onOk_bind (fun b7 q7 => ?_)
    unfold i5
    refine onOk_call (i6 _) rfl ?_
    refine onOk_elim q7 ?_
    refine onOk_ok ?_
    exact Fr.refl _ _
  · rename_i i8 i9 i10 i11 i12 i13 i14
    refine onOk_bind (fun b15 q15 => ?_)
    have h16 := fr_moveKv _ q15
    unfold i12
    refine onOk_call (i14 _) rfl ?_
    exact h16

theorem fr_closeEntry {a0 a1 a2 a3 a4 a5} :
    onOk (fun b : (Sys2Proof.Machine.State × Nat) => Fr 7884944 a0 b.1) (closeEntry a0 a1 a2 a3 a4 a5) := by
  unfold closeEntry
  split
  · rename_i i0 i1
    refine onOk_ok ?_
    refine fr_fst ?_
    exact Fr.refl _ _
  · rename_i i2 i3 i4
    extract_lets +onlyGivenNames x5
    refine onOk_ite (fun c6 => ?_) (fun c6 => ?_)
    · refine onOk_ok ?_
      refine fr_fst ?_
      exact Fr.refl _ _
    · refine onOk_bind (fun b7 q7 => ?_)
      refine onOk_ite (fun c8 => ?_) (fun c8 => ?_)
      · extract_lets +onlyGivenNames x9
        extract_lets +onlyGivenNames x10
        extract_lets +onlyGivenNames x11
        refine onOk_ite (fun c12 => ?_) (fun c12 => ?_)
        · refine onOk_bind (fun b13 q13 => ?_)
          have h14 := fr_walkTree _ q13
          unfold x11
          split
          · rename_i i15 i16 i17
            refine onOk_bind (fun b18 q18 => ?_)
            have h19 := fr_histPut _ q18
            extract_lets +onlyGivenNames x20
            have h20 : Fr 7884944 a0 x20 := by
              unfold x20
              refine Fr.call fr_modServe rfl ?_
              refine Fr.call h19 rfl ?_
              refine Fr.call h14 rfl ?_
              exact Fr.refl _ _
            clear_value x20
            refine onOk_ite (fun c21 => ?_) (fun c21 => ?_)
            · refine onOk_call fr_finishWalk rfl ?_
              exact h20
            · refine onOk_ok ?_
              refine fr_fst ?_
              refine Fr.call fr_trimKv rfl ?_
              exact h20
        · refine onOk_bind (fun b22 q22 => ?_)
          unfold x11
          split
          · rename_i i23 i24 i25
            refine onOk_bind (fun b26 q26 => ?_)
            have h27 := fr_histPut _ q26
            extract_lets +onlyGivenNames x28
            have h28 : Fr 7884944 a0 x28 := by
              unfold x28
              refine Fr.call fr_modServe rfl ?_
              refine Fr.call h27 rfl ?_
              refine onOk_elim1 q22 ?_
              refine onOk_ok ?_
              refine fr_fst ?_
              exact Fr.refl _ _
            clear_value x28
            refine onOk_ite (fun c29 => ?_) (fun c29 => ?_)
            · refine onOk_call fr_finishWalk rfl ?_
              exact h28
            · refine onOk_ok ?_
              refine fr_fst ?_
              refine Fr.call fr_trimKv rfl ?_
              exact h28
      · refine onOk_bind (fun b30 q30 => ?_)
        have h31 := fr_walkTree _ q30
        split
        · rename_i i32 i33 i34
          refine onOk_bind (fun b35 q35 => ?_)
          have h36 := fr_compactKv _ q35
          extract_lets +onlyGivenNames x37
          refine onOk_call fr_finishWalk rfl ?_
          refine Fr.call fr_modServe rfl ?_
          refine Fr.call h36 rfl ?_
          refine Fr.call h31 rfl ?_
          exact Fr.refl _ _

theorem fr_closeEntries {a0 a1 a2 a3 a4 a5} :
    onOk (fun b : (Sys2Proof.Machine.State × Nat) => Fr 7884944 a0 b.1) (closeEntries a0 a1 a2 a3 a4 a5) := by
  fun_induction closeEntries
  · rename_i i0
    refine onOk_ok ?_
    refine fr_fst ?_
    exact Fr.refl _ _
  · rename_i i1 i2 i3 i4
    refine onOk_bind (fun b5 q5 => ?_)
    have h6 := fr_closeEntry _ q5
    split
    · rename_i i7 i8 i9
      refine onOk_bind (fun b10 q10 => ?_)
      split
      · rename_i i11 i12 i13
        refine onOk_ok ?_
        refine fr_fst ?_
        refine onOk_elim1 q10 ?_
        refine onOk_call (i4 _) rfl ?_
        exact h6

theorem fr_closeInstance {a0 a1 a2 a3 a4} :
    Fr 2048 a0 (closeInstance a0 a1 a2 a3 a4) := by
  unfold closeInstance
  extract_lets +onlyGivenNames x0
  extract_lets +onlyGivenNames x1
  have h1 : Fr 2048 a0 x1 := by
    unfold x1
    refine Fr.call fr_setBarrier rfl ?_
    exact Fr.refl _ _
  clear_value x1
  refine Fr.lit ?_
  exact h1

theorem fr_closeMinute {a0 a1} :
    Fr 569408 a0 (closeMinute a0 a1) := by
  unfold closeMinute
  refine fr_ite (fun c0 => ?_) (fun c0 => ?_)
  · extract_lets +onlyGivenNames x1
    refine Fr.call fr_openSpanAt rfl ?_
    refine Fr.call fr_closeSpan rfl ?_
    exact Fr.refl _ _
  · exact Fr.refl _ _

theorem fr_seeCancels {a0 a1 a2 a3 a4 a5 a6} :
    onOk (fun b => Fr 128 a0 b) (seeCancels a0 a1 a2 a3 a4 a5 a6) := by
  induction a6 generalizing a0 a4 <;> unfold seeCancels
  · refine onOk_ok ?_
    exact Fr.refl _ _
  · rename_i i0 i1
    refine onOk_ite (fun c2 => ?_) (fun c2 => ?_)
    · refine onOk_ok ?_
      exact Fr.refl _ _
    · refine onOk_bind (fun b3 q3 => ?_)
      extract_lets +onlyGivenNames x4
      extract_lets +onlyGivenNames x5
      extract_lets +onlyGivenNames x6
      have h6 : Fr 128 a0 x6 := by
        unfold x6
        clear_value x5
        split
        · rename_i i7 i8
          refine Fr.call fr_modServe rfl ?_
          exact Fr.refl _ _
        · rename_i i9
          exact Fr.refl _ _
      clear_value x6
      refine onOk_call i1 rfl ?_
      exact h6

theorem fr_endCancelled {a0 a1 a2 a3 a4} :
    onOk (fun b : (Sys2Proof.Machine.State × Nat) => Fr 6836368 a0 b.1) (endCancelled a0 a1 a2 a3 a4) := by
  fun_induction endCancelled
  · rename_i i0
    refine onOk_ok ?_
    refine fr_fst ?_
    exact Fr.refl _ _
  · rename_i i1 i2 i3 i4 i5 i6 i7 i8
    refine onOk_bind (fun b9 q9 => ?_)
    unfold i4
    split
    · rename_i i10 i11 i12
      refine onOk_bind (fun b13 q13 => ?_)
      split
      · rename_i i14 i15 i16
        refine onOk_ok ?_
        refine fr_fst ?_
        refine onOk_elim1 q13 ?_
        refine onOk_call (i8 _) rfl ?_
        refine onOk_elim1 q9 ?_
        refine onOk_map (fun _ => rfl) ?_
        refine onOk_call fr_endSeq rfl ?_
        exact Fr.refl _ _
  · rename_i i17 i18 i19 i20 i21 i22 i23 i24
    refine onOk_bind (fun b25 q25 => ?_)
    unfold i20
    split
    · rename_i i26 i27 i28
      refine onOk_bind (fun b29 q29 => ?_)
      split
      · rename_i i30 i31 i32
        refine onOk_ok ?_
        refine fr_fst ?_
        refine onOk_elim1 q29 ?_
        refine onOk_call (i24 _) rfl ?_
        refine onOk_elim1 q25 ?_
        refine onOk_ok ?_
        refine fr_fst ?_
        exact Fr.refl _ _
  · rename_i i33 i34 i35 i36 i37 i38
    refine onOk_bind (fun b39 q39 => ?_)
    unfold i36
    split
    · rename_i i40 i41 i42
      refine onOk_bind (fun b43 q43 => ?_)
      split
      · rename_i i44 i45 i46
        refine onOk_ok ?_
        refine fr_fst ?_
        refine onOk_elim1 q43 ?_
        refine onOk_call (i38 _) rfl ?_
        refine onOk_elim1 q39 ?_
        refine onOk_ok ?_
        refine fr_fst ?_
        exact Fr.refl _ _

theorem fr_sweepSlot {a0 a1 a2} :
    Fr 2667220 a0 (sweepSlot a0 a1 a2) := by
  unfold sweepSlot
  extract_lets +onlyGivenNames x0
  extract_lets +onlyGivenNames x1
  have h1 : Fr 2667220 a0 x1 := by
    unfold x1
    refine Fr.call fr_dropVersions rfl ?_
    exact Fr.refl _ _
  clear_value x1
  extract_lets +onlyGivenNames x2
  extract_lets +onlyGivenNames x3
  extract_lets +onlyGivenNames x4
  have h4 : Fr 2667220 a0 x4 := by
    unfold x4
    refine fr_foldl ?_ (fun v5 y5 h5 => ?_)
    · exact h1
    · refine Fr.call fr_unmapPages rfl ?_
      exact h5
  clear_value x4
  extract_lets +onlyGivenNames x6
  refine Fr.call fr_setSlot rfl ?_
  exact h4

theorem fr_sweepMoon {a0 a1} :
    Fr 2667220 a0 (sweepMoon a0 a1) := by
  unfold sweepMoon
  refine fr_foldl ?_ (fun v0 y0 h0 => ?_)
  · exact Fr.refl _ _
  · refine Fr.call fr_sweepSlot rfl ?_
    exact h0

theorem fr_countStep {a0 a1 a2} :
    Fr 553088 a0 (countStep a0 a1 a2) := by
  unfold countStep
  extract_lets +onlyGivenNames x0
  have h0 : Fr 553088 a0 x0 := by
    unfold x0
    refine Fr.call fr_incA rfl ?_
    refine Fr.call fr_incB rfl ?_
    exact Fr.refl _ _
  clear_value x0
  extract_lets +onlyGivenNames x1
  refine Fr.call fr_setSlot rfl ?_
  exact h0

theorem fr_dropPlan {a0 a1 a2} :
    Fr 6292528 a0 (dropPlan a0 a1 a2) := by
  unfold dropPlan
  extract_lets +onlyGivenNames x0
  have h0 : Fr 6292528 a0 x0 := by
    unfold x0
    refine fr_foldl ?_ (fun v1 y1 h1 => ?_)
    · exact Fr.refl _ _
    · refine Fr.call fr_cometClose rfl ?_
      refine Fr.call fr_writeBack rfl ?_
      exact h1
  clear_value x0
  refine Fr.lit ?_
  exact h0

theorem fr_endRun {a0 a1 a2} :
    Fr 6292656 a0 (endRun a0 a1 a2) := by
  unfold endRun
  extract_lets +onlyGivenNames x0
  have h0 : Fr 6292656 a0 x0 := by
    unfold x0
    refine Fr.call fr_dropPlan rfl ?_
    exact Fr.refl _ _
  clear_value x0
  extract_lets +onlyGivenNames x1
  have h1 : Fr 6292656 a0 x1 := by
    unfold x1
    refine Fr.call fr_modServe rfl ?_
    exact h0
  clear_value x1
  refine Fr.call fr_setSlot rfl ?_
  exact h1

theorem fr_fillBack {a0 a1 a2 a3 a4} :
    onOk (fun b => Fr 6291472 a0 b) (fillBack a0 a1 a2 a3 a4) := by
  fun_induction fillBack
  · rename_i i0
    refine onOk_ok ?_
    exact Fr.refl _ _
  · rename_i i1 i2 i3 i4 i5 i6
    refine onOk_bind (fun b7 q7 => ?_)
    refine onOk_call (i6 _) rfl ?_
    refine onOk_elim q7 ?_
    refine onOk_foldlM ?_ (fun v8 y8 h8 => ?_)
    · exact Fr.refl _ _
    · refine onOk_call fr_copyKv rfl ?_
      exact h8

theorem fr_closeRun {a0 a1 a2 a3} :
    onOk (fun b => Fr 7927540 a0 b) (closeRun a0 a1 a2 a3) := by
  unfold closeRun
  extract_lets +onlyGivenNames x0
  refine onOk_bind (fun b1 q1 => ?_)
  refine onOk_bind (fun b2 q2 => ?_)
  refine onOk_bind (fun b3 q3 => ?_)
  have h4 := fr_seeCancels _ q3
  refine onOk_bind (fun b5 q5 => ?_)
  have h6 := fr_endCancelled _ q5
  split
  · rename_i i7 i8 i9
    extract_lets +onlyGivenNames x10
    split
    · rename_i i11 i12 i13
      refine onOk_bind (fun b14 q14 => ?_)
      have h15 := fr_closeEntries _ q14
      refine onOk_bind (fun b16 q16 => ?_)
      have h17 := fr_fillBack _ q16
      refine onOk_bind (fun b18 q18 => ?_)
      unfold x10
      split
      · rename_i i19 i20 i21
        extract_lets +onlyGivenNames x22
        extract_lets +onlyGivenNames x23
        have h23 : Fr 7927540 a0 x23 := by
          unfold x23
          refine Fr.call fr_sweepMoon rfl ?_
          refine Fr.call fr_countStep rfl ?_
          refine Fr.call fr_endRun rfl ?_
          refine onOk_elim1 q18 ?_
          refine onOk_ok ?_
          refine fr_fst ?_
          refine Fr.call h17 rfl ?_
          refine Fr.call h15 rfl ?_
          refine Fr.call h6 rfl ?_
          refine Fr.call h4 rfl ?_
          exact Fr.refl _ _
        clear_value x23
        refine onOk_ok ?_
        refine Fr.call fr_putTask rfl ?_
        exact h23
    · rename_i i24 i25
      refine onOk_bind (fun b26 q26 => ?_)
      unfold x10
      split
      · rename_i i27 i28 i29
        extract_lets +onlyGivenNames x30
        extract_lets +onlyGivenNames x31
        have h31 : Fr 7927540 a0 x31 := by
          unfold x31
          refine Fr.call fr_sweepMoon rfl ?_
          refine Fr.call fr_countStep rfl ?_
          refine Fr.call fr_endRun rfl ?_
          refine onOk_elim1 q26 ?_
          refine onOk_ok ?_
          refine fr_fst ?_
          refine Fr.call h6 rfl ?_
          refine Fr.call h4 rfl ?_
          exact Fr.refl _ _
        clear_value x31
        refine onOk_ok ?_
        refine Fr.call fr_putTask rfl ?_
        exact h31

theorem fr_coldState {s : State} : Fr 67108862 s (coldState s) := by
  unfold coldState
  exact ⟨rfl, Or.inl rfl, Or.inl rfl, Or.inl rfl, Or.inl rfl, Or.inl rfl, Or.inl rfl, Or.inl rfl, Or.inl rfl, Or.inl rfl, Or.inl rfl, Or.inl rfl, Or.inl rfl, Or.inl rfl, Or.inl rfl, Or.inl rfl, Or.inl rfl, Or.inl rfl, Or.inl rfl, Or.inl rfl, Or.inl rfl, Or.inl rfl, Or.inl rfl, Or.inl rfl, Or.inl rfl, Or.inl rfl, fun _ => rfl, fun _ => rfl, fun _ => rfl, List.prefix_refl _, Nat.le_refl _⟩

theorem fr_cometFill {a0 a1 a2 a3 a4} :
    Fr 544784 a0 (cometFill a0 a1 a2 a3 a4) := by
  unfold cometFill
  refine fr_ite (fun c0 => ?_) (fun c0 => ?_)
  · exact Fr.refl _ _
  · extract_lets +onlyGivenNames x1
    have h1 : Fr 544784 a0 x1 := by
      unfold x1
      refine Fr.call fr_mscRoom rfl ?_
      exact Fr.refl _ _
    clear_value x1
    extract_lets +onlyGivenNames x2
    refine Fr.call fr_incB rfl ?_
    refine Fr.call fr_mscPut rfl ?_
    exact h1

theorem fr_putComet {a0 a1} :
    Fr 16 a0 (putComet a0 a1) := by
  unfold putComet
  refine Fr.lit ?_
  exact Fr.refl _ _

theorem fr_cometStep {a0 a1 a2} :
    Fr 544784 a0 (cometStep a0 a1 a2) := by
  unfold cometStep
  extract_lets +onlyGivenNames x0
  extract_lets +onlyGivenNames x1
  refine fr_ite (fun c2 => ?_) (fun c2 => ?_)
  · exact Fr.refl _ _
  · split
    · rename_i i3 i4
      refine Fr.call fr_putComet rfl ?_
      exact Fr.refl _ _
    · rename_i i5 i6 i7
      extract_lets +onlyGivenNames x8
      refine fr_ite (fun c9 => ?_) (fun c9 => ?_)
      · exact Fr.refl _ _
      · extract_lets +onlyGivenNames x10
        extract_lets +onlyGivenNames x11
        have h11 : Fr 544784 a0 x11 := by
          unfold x11
          refine fr_foldl ?_ (fun v12 y12 h12 => ?_)
          · exact Fr.refl _ _
          · refine Fr.call fr_cometFill rfl ?_
            exact h12
        clear_value x11
        refine Fr.call fr_putComet rfl ?_
        exact h11

theorem fr_command {k : Nat} {s : State} {w : Who} {p e : Nat} {f : State → Except Nat State} (u : 552960 ||| k = k)
    (hf : ∀ v, onOk (fun b => Fr k v b) (f v)) : onNext (fun b => Fr k s b) (command s w p e f) := by
  unfold command
  refine onNext_ite (fun _ => ?_) (fun _ => ?_)
  · exact onNext_next (Fr.refl _ _)
  · refine onNext_ite (fun _ => ?_) (fun _ => ?_)
    · exact onNext_next (Fr.call fr_answer u (Fr.refl _ _))
    · split
      · exact onNext_next (Fr.call fr_answer u (Fr.refl _ _))
      · rename_i t q
        exact onNext_next (Fr.call fr_answer u (hf s t q))

theorem fr_consumeOne {a0 a1 a2 a3 a4} :
    Fr 536608 a0 (consumeOne a0 a1 a2 a3 a4).1 := by
  unfold consumeOne
  split
  · rename_i i0
    refine Fr.call fr_addObj rfl ?_
    exact Fr.refl _ _
  · rename_i i1
    refine fr_fst ?_
    exact Fr.refl _ _

theorem fr_openOwn {a0 a1 a2 a3 a4 a5 a6 a7 a8} :
    Fr 1024 a0 (openOwn a0 a1 a2 a3 a4 a5 a6 a7 a8) := by
  unfold openOwn
  extract_lets +onlyGivenNames x0
  refine fr_ite (fun c1 => ?_) (fun c1 => ?_)
  · exact Fr.refl _ _
  · refine Fr.lit ?_
    exact Fr.refl _ _

theorem fr_snapAnswered {a0 a1 a2 a3} :
    Fr 546048 a0 (snapAnswered a0 a1 a2 a3) := by
  unfold snapAnswered
  extract_lets +onlyGivenNames x0
  split
  · rename_i i1 i2
    exact Fr.refl _ _
  · rename_i i3 i4 i5 i6
    refine fr_ite (fun c7 => ?_) (fun c7 => ?_)
    · exact Fr.refl _ _
    · refine fr_ite (fun c8 => ?_) (fun c8 => ?_)
      · refine Fr.call fr_noteWait rfl ?_
        refine Fr.call fr_endSnap rfl ?_
        exact Fr.refl _ _
      · split
        · rename_i i9 i10 i11
          refine fr_ite (fun c12 => ?_) (fun c12 => ?_)
          · exact Fr.refl _ _
          · refine Fr.call fr_noteWait rfl ?_
            refine Fr.call fr_endSnap rfl ?_
            exact Fr.refl _ _
        · rename_i i13 i14 i15
          extract_lets +onlyGivenNames x16
          refine Fr.call fr_modTrain rfl ?_
          refine Fr.call fr_openOwn rfl ?_
          exact Fr.refl _ _

theorem fr_controlActs {a0 a1 a2} :
    Fr 6880756 a0 (controlActs a0 a1 a2) := by
  unfold controlActs
  extract_lets +onlyGivenNames x0
  split
  · rename_i i1
    refine Fr.call fr_settleArrivals rfl ?_
    exact Fr.refl _ _
  · rename_i i2
    refine Fr.call fr_settleArrivals rfl ?_
    exact Fr.refl _ _
  · rename_i i3
    refine Fr.call fr_sendCtl rfl ?_
    exact Fr.refl _ _
  · rename_i i4
    refine Fr.call fr_snapAnswered rfl ?_
    exact Fr.refl _ _
  · rename_i i5
    refine Fr.call fr_raiseMoon rfl ?_
    exact Fr.refl _ _
  · rename_i i6
    refine Fr.call fr_sendCtl rfl ?_
    exact Fr.refl _ _
  · rename_i i7 i8 i9 i10 i11 i12 i13
    exact Fr.refl _ _

theorem fr_sendBody {a0 a1 a2 a3} :
    Fr 525312 a0 (sendBody a0 a1 a2 a3) := by
  unfold sendBody
  extract_lets +onlyGivenNames x0
  extract_lets +onlyGivenNames x1
  extract_lets +onlyGivenNames x2
  have h2 : Fr 525312 a0 x2 := by
    unfold x2
    refine Fr.call fr_emit rfl ?_
    exact Fr.refl _ _
  clear_value x2
  refine fr_ite (fun c3 => ?_) (fun c3 => ?_)
  · refine fr_foldl ?_ (fun v4 y4 h4 => ?_)
    · exact h2
    · refine Fr.call fr_offer rfl ?_
      refine Fr.call fr_emit rfl ?_
      exact h4
  · exact h2

theorem fr_finishMailbox {a0 a1 a2} :
    Fr 528384 a0 (finishMailbox a0 a1 a2) := by
  unfold finishMailbox
  extract_lets +onlyGivenNames x0
  refine fr_ite (fun c1 => ?_) (fun c1 => ?_)
  · exact Fr.refl _ _
  · extract_lets +onlyGivenNames x2
    have h2 : Fr 528384 a0 x2 := by
      unfold x2
      refine Fr.call fr_setFn rfl ?_
      exact Fr.refl _ _
    clear_value x2
    refine fr_ite (fun c3 => ?_) (fun c3 => ?_)
    · refine Fr.call fr_sendMsix rfl ?_
      exact h2
    · exact h2

theorem fr_reply {a0 a1 a2 a3 a4} :
    Fr 529408 a0 (reply a0 a1 a2 a3 a4) := by
  unfold reply
  split
  · rename_i i0 i1
    refine Fr.call fr_emit rfl ?_
    exact Fr.refl _ _
  · rename_i i2 i3
    refine Fr.call fr_sendBody rfl ?_
    exact Fr.refl _ _
  · rename_i i4 i5 i6
    refine fr_ite (fun c7 => ?_) (fun c7 => ?_)
    · refine Fr.call fr_finishMailbox rfl ?_
      exact Fr.refl _ _
    · refine Fr.call fr_emit rfl ?_
      exact Fr.refl _ _

theorem fr_countFrame {a0 a1 a2} :
    Fr 552960 a0 (countFrame a0 a1 a2) := by
  unfold countFrame
  extract_lets +onlyGivenNames x0
  have h0 : Fr 552960 a0 x0 := by
    unfold x0
    refine Fr.call fr_incB rfl ?_
    exact Fr.refl _ _
  clear_value x0
  extract_lets +onlyGivenNames x1
  have h1 : Fr 552960 a0 x1 := by
    unfold x1
    refine fr_ite (fun c2 => ?_) (fun c2 => ?_)
    · refine Fr.call fr_incB rfl ?_
      exact h0
    · exact h0
  clear_value x1
  extract_lets +onlyGivenNames x3
  have h3 : Fr 552960 a0 x3 := by
    unfold x3
    refine fr_ite (fun c4 => ?_) (fun c4 => ?_)
    · refine Fr.call fr_incB rfl ?_
      exact h1
    · exact h1
  clear_value x3
  extract_lets +onlyGivenNames x5
  refine Fr.call fr_modDict rfl ?_
  exact h3

theorem fr_execGatewayResponse {a0 a1 a2} :
    onNext (fun b => Fr 553984 a2 b) (execGatewayResponse a0 a1 a2) := by
  unfold execGatewayResponse
  split
  · rename_i i0 i1
    refine onNext_next ?_
    exact Fr.refl _ _
  · rename_i i2 i3 i4
    refine onNext_ite (fun c5 => ?_) (fun c5 => ?_)
    · refine onNext_next ?_
      exact Fr.refl _ _
    · refine onNext_next ?_
      refine Fr.call fr_reply rfl ?_
      refine Fr.call fr_modDict rfl ?_
      refine Fr.call fr_countFrame rfl ?_
      exact Fr.refl _ _

theorem fr_takeResponseBody {a0 a1 a2} :
    Fr 553984 a0 (takeResponseBody a0 a1 a2) := by
  unfold takeResponseBody
  split
  · rename_i i0 i1 i2
    refine fr_after ?_ ?_
    · exact Fr.refl _ _
    · refine onNext_call fr_execGatewayResponse rfl ?_
      exact Fr.refl _ _
  · rename_i i3 i4
    exact Fr.refl _ _

theorem fr_refuseFrame {a0 a1 a2 a3 a4 a5} :
    Fr 553984 a0 (refuseFrame a0 a1 a2 a3 a4 a5) := by
  unfold refuseFrame
  refine Fr.call fr_reply rfl ?_
  refine Fr.call fr_countFrame rfl ?_
  exact Fr.refl _ _

theorem fr_tooBig {a0 a1 a2 a3 a4} :
    Fr 553984 a0 (tooBig a0 a1 a2 a3 a4) := by
  unfold tooBig
  refine Fr.call fr_reply rfl ?_
  refine Fr.call fr_countFrame rfl ?_
  exact Fr.refl _ _

theorem fr_takeNonce {a0 a1 a2} :
    Fr 569344 a0 (takeNonce a0 a1 a2) := by
  unfold takeNonce
  split
  · rename_i i0
    extract_lets +onlyGivenNames x1
    have h1 : Fr 569344 a0 x1 := by
      unfold x1
      refine Fr.call fr_modDict rfl ?_
      exact Fr.refl _ _
    clear_value x1
    refine fr_ite (fun c2 => ?_) (fun c2 => ?_)
    · extract_lets +onlyGivenNames x3
      refine Fr.call fr_jAppend rfl ?_
      refine Fr.call fr_modDict rfl ?_
      exact h1
    · exact h1
  · rename_i i4 i5
    refine Fr.call fr_modDict rfl ?_
    exact Fr.refl _ _

theorem fr_serveLocal {a0 a1 a2 a3 a4 a5} :
    Fr 66846718 a0 (serveLocal a0 a1 a2 a3 a4 a5) := by
  unfold serveLocal
  extract_lets +onlyGivenNames x0
  extract_lets +onlyGivenNames x1
  refine fr_ite (fun c2 => ?_) (fun c2 => ?_)
  · unfold x1
    split
    · rename_i i3 i4 i5 i6
      have h7 := fr_eq fr_actItems i6
      refine fr_ite (fun c8 => ?_) (fun c8 => ?_)
      · refine Fr.call fr_tooBig rfl ?_
        exact Fr.refl _ _
      · extract_lets +onlyGivenNames x9
        have h9 : Fr 66846718 a0 x9 := by
          unfold x9
          refine fr_ite (fun c10 => ?_) (fun c10 => ?_)
          · refine Fr.call fr_takeNonce rfl ?_
            exact h7
          · exact h7
        clear_value x9
        refine Fr.call fr_reply rfl ?_
        refine Fr.call fr_countFrame rfl ?_
        exact h9
  · split
    · rename_i i11 i12
      refine Fr.call fr_refuseFrame rfl ?_
      exact Fr.refl _ _
    · rename_i i13 i14 i15 i16
      extract_lets +onlyGivenNames x17
      refine fr_ite (fun c18 => ?_) (fun c18 => ?_)
      · refine Fr.call fr_refuseFrame rfl ?_
        exact Fr.refl _ _
      · unfold x1
        split
        · rename_i i19 i20 i21 i22
          have h23 := fr_eq fr_actItems i22
          refine fr_ite (fun c24 => ?_) (fun c24 => ?_)
          · refine Fr.call fr_tooBig rfl ?_
            refine fr_ite (fun c25 => ?_) (fun c25 => ?_)
            · exact Fr.refl _ _
            · refine Fr.call fr_takeNonce rfl ?_
              exact Fr.refl _ _
          · extract_lets +onlyGivenNames x26
            have h26 : Fr 66846718 a0 x26 := by
              unfold x26
              refine fr_ite (fun c27 => ?_) (fun c27 => ?_)
              · refine Fr.call fr_takeNonce rfl ?_
                refine Fr.call h23 rfl ?_
                refine fr_ite (fun c28 => ?_) (fun c28 => ?_)
                · exact Fr.refl _ _
                · refine Fr.call fr_takeNonce rfl ?_
                  exact Fr.refl _ _
              · refine Fr.call h23 rfl ?_
                refine fr_ite (fun c29 => ?_) (fun c29 => ?_)
                · exact Fr.refl _ _
                · refine Fr.call fr_takeNonce rfl ?_
                  exact Fr.refl _ _
            clear_value x26
            refine Fr.call fr_reply rfl ?_
            refine Fr.call fr_countFrame rfl ?_
            exact h26

theorem fr_forwardFrame {a0 a1 a2 a3 a4} :
    Fr 553984 a0 (forwardFrame a0 a1 a2 a3 a4) := by
  unfold forwardFrame
  split
  · rename_i i0 i1
    refine Fr.call fr_refuseFrame rfl ?_
    exact Fr.refl _ _
  · rename_i i2 i3 i4 i5 i6
    refine fr_ite (fun c7 => ?_) (fun c7 => ?_)
    · refine Fr.call fr_refuseFrame rfl ?_
      exact Fr.refl _ _
    · refine fr_ite (fun c8 => ?_) (fun c8 => ?_)
      · refine Fr.call fr_refuseFrame rfl ?_
        exact Fr.refl _ _
      · extract_lets +onlyGivenNames x9
        extract_lets +onlyGivenNames x10
        have h10 : Fr 553984 a0 x10 := by
          unfold x10
          refine Fr.call fr_modDict rfl ?_
          exact Fr.refl _ _
        clear_value x10
        refine Fr.call fr_sendBody rfl ?_
        exact h10

theorem fr_serveFrame {a0 a1 a2 a3 a4} :
    Fr 66846718 a0 (serveFrame a0 a1 a2 a3 a4) := by
  unfold serveFrame
  extract_lets +onlyGivenNames x0
  extract_lets +onlyGivenNames x1
  refine fr_ite (fun c2 => ?_) (fun c2 => ?_)
  · refine Fr.call fr_refuseFrame rfl ?_
    exact Fr.refl _ _
  · refine fr_ite (fun c3 => ?_) (fun c3 => ?_)
    · refine Fr.call fr_refuseFrame rfl ?_
      exact Fr.refl _ _
    · split
      · rename_i i4 i5
        refine Fr.call fr_refuseFrame rfl ?_
        exact Fr.refl _ _
      · rename_i i6 i7 i8
        refine fr_ite (fun c9 => ?_) (fun c9 => ?_)
        · refine Fr.call fr_serveLocal rfl ?_
          exact Fr.refl _ _
        · refine fr_ite (fun c10 => ?_) (fun c10 => ?_)
          · refine Fr.call fr_refuseFrame rfl ?_
            exact Fr.refl _ _
          · refine fr_ite (fun c11 => ?_) (fun c11 => ?_)
            · refine fr_ite (fun c12 => ?_) (fun c12 => ?_)
              · refine Fr.call fr_refuseFrame rfl ?_
                exact Fr.refl _ _
              · refine fr_ite (fun c13 => ?_) (fun c13 => ?_)
                · refine Fr.call fr_refuseFrame rfl ?_
                  exact Fr.refl _ _
                · refine Fr.call fr_serveLocal rfl ?_
                  exact Fr.refl _ _
            · refine Fr.call fr_forwardFrame rfl ?_
              exact Fr.refl _ _

theorem fr_takeRequest {a0 a1 a2 a3} :
    Fr 66846718 a0 (takeRequest a0 a1 a2 a3) := by
  unfold takeRequest
  refine fr_ite (fun c0 => ?_) (fun c0 => ?_)
  · refine Fr.call fr_serveFrame rfl ?_
    exact Fr.refl _ _
  · refine fr_ite (fun c1 => ?_) (fun c1 => ?_)
    · refine Fr.call fr_incB rfl ?_
      exact Fr.refl _ _
    · refine Fr.call fr_modDict rfl ?_
      exact Fr.refl _ _

theorem fr_takeRequestBody {a0 a1 a2 a3} :
    Fr 66846718 a0 (takeRequestBody a0 a1 a2 a3) := by
  unfold takeRequestBody
  split
  · rename_i i0 i1 i2 i3
    refine Fr.call fr_takeRequest rfl ?_
    exact Fr.refl _ _

theorem fr_takeBody {a0 a1 a2 a3 a4} :
    Fr 66846718 a0 (takeBody a0 a1 a2 a3 a4) := by
  unfold takeBody
  extract_lets +onlyGivenNames x0
  extract_lets +onlyGivenNames x1
  extract_lets +onlyGivenNames x2
  refine fr_ite (fun c3 => ?_) (fun c3 => ?_)
  · refine Fr.call fr_modDict rfl ?_
    exact Fr.refl _ _
  · extract_lets +onlyGivenNames x4
    have h4 : Fr 66846718 a0 x4 := by
      unfold x4
      refine Fr.call fr_modDict rfl ?_
      exact Fr.refl _ _
    clear_value x4
    extract_lets +onlyGivenNames x5
    refine fr_ite (fun c6 => ?_) (fun c6 => ?_)
    · refine Fr.call fr_takeResponseBody rfl ?_
      exact h4
    · refine Fr.call fr_takeRequestBody rfl ?_
      exact h4

theorem fr_controlFor {a0 a1 a2 a3 a4} :
    Fr 66846718 a0 (controlFor a0 a1 a2 a3 a4) := by
  unfold controlFor
  split
  · rename_i i0
    refine Fr.call fr_takeBody rfl ?_
    exact Fr.refl _ _
  · rename_i i1
    refine Fr.call fr_takeBody rfl ?_
    exact Fr.refl _ _
  · rename_i i2 i3 i4
    refine Fr.call fr_controlActs rfl ?_
    exact Fr.refl _ _

theorem fr_opcEvict {a0 a1} :
    Fr 6291472 a0 (opcEvict a0 a1) := by
  unfold opcEvict
  extract_lets +onlyGivenNames x0
  have h0 : Fr 6291472 a0 x0 := by
    unfold x0
    refine Fr.call fr_deliver rfl ?_
    exact Fr.refl _ _
  clear_value x0
  refine Fr.lit ?_
  exact h0

theorem fr_opcTouch {a0 a1 a2 a3} :
    Fr 6291472 a0 (opcTouch a0 a1 a2 a3) := by
  unfold opcTouch
  extract_lets +onlyGivenNames x0
  extract_lets +onlyGivenNames x1
  have h1 : Fr 6291472 a0 x1 := by
    unfold x1
    refine fr_ite (fun c2 => ?_) (fun c2 => ?_)
    · exact Fr.refl _ _
    · split
      · rename_i i3 i4 i5
        refine Fr.call fr_opcEvict rfl ?_
        exact Fr.refl _ _
      · rename_i i6 i7
        exact Fr.refl _ _
  clear_value x1
  refine Fr.lit ?_
  exact h1

theorem fr_opcUse {a0 a1 a2 a3 a4} :
    Fr 6291472 a0 (opcUse a0 a1 a2 a3 a4) := by
  unfold opcUse
  refine fr_foldl ?_ (fun v0 y0 h0 => ?_)
  · exact Fr.refl _ _
  · refine Fr.call fr_opcTouch rfl ?_
    exact h0

theorem fr_opcWrite {a0 a1 a2 a3 a4 a5 a6 a7} :
    Fr 6291472 a0 (opcWrite a0 a1 a2 a3 a4 a5 a6 a7) := by
  fun_induction opcWrite
  · rename_i i0 i1 i2
    exact Fr.refl _ _
  · rename_i i3 i4 i5 i6 i7
    exact Fr.refl _ _
  · rename_i i8 i9 i10 i11 i12 i13 i14 i15 i16
    refine Fr.call i16 rfl ?_
    unfold i15
    refine Fr.lit ?_
    unfold i14
    refine Fr.call fr_opcTouch rfl ?_
    exact Fr.refl _ _

theorem fr_coreWrite {a0 a1 a2 a3 a4 a5 a6} :
    onOk (fun b => Fr 6291472 a0 b) (coreWrite a0 a1 a2 a3 a4 a5 a6) := by
  unfold coreWrite
  split
  · rename_i i0 i1 i2
    exact onOk_error
  · rename_i i3 i4
    extract_lets +onlyGivenNames x5
    refine onOk_ite (fun c6 => ?_) (fun c6 => ?_)
    · refine onOk_ok ?_
      refine Fr.call fr_invalidateRange rfl ?_
      refine Fr.call fr_writeHomes rfl ?_
      refine Fr.call fr_opcUse rfl ?_
      exact Fr.refl _ _
    · refine onOk_ok ?_
      refine Fr.call fr_opcWrite rfl ?_
      exact Fr.refl _ _

theorem fr_correctSector {a0 a1} :
    Fr 569428 a0 (correctSector a0 a1) := by
  unfold correctSector
  extract_lets +onlyGivenNames x0
  extract_lets +onlyGivenNames x1
  extract_lets +onlyGivenNames x2
  extract_lets +onlyGivenNames x3
  extract_lets +onlyGivenNames x4
  have h4 : Fr 569428 a0 x4 := by
    unfold x4
    refine Fr.call fr_setRow rfl ?_
    exact Fr.refl _ _
  clear_value x4
  refine fr_ite (fun c5 => ?_) (fun c5 => ?_)
  · refine Fr.call fr_failRow rfl ?_
    refine Fr.call fr_setRow rfl ?_
    exact h4
  · exact h4

theorem fr_countFec {a0 a1 a2} :
    Fr 544768 a0 (countFec a0 a1 a2) := by
  unfold countFec
  extract_lets +onlyGivenNames x0
  have h0 : Fr 544768 a0 x0 := by
    unfold x0
    refine fr_ite (fun c1 => ?_) (fun c1 => ?_)
    · exact Fr.refl _ _
    · refine Fr.call fr_incB rfl ?_
      exact Fr.refl _ _
  clear_value x0
  refine fr_ite (fun c2 => ?_) (fun c2 => ?_)
  · exact h0
  · refine Fr.call fr_incB rfl ?_
    exact h0

theorem fr_countFmt {a0 a1 a2 a3 a4 a5} :
    Fr 544768 a0 (countFmt a0 a1 a2 a3 a4 a5) := by
  unfold countFmt
  refine fr_ite (fun c0 => ?_) (fun c0 => ?_)
  · exact Fr.refl _ _
  · extract_lets +onlyGivenNames x1
    extract_lets +onlyGivenNames x2
    extract_lets +onlyGivenNames x3
    have h3 : Fr 544768 a0 x3 := by
      unfold x3
      refine Fr.call fr_incB rfl ?_
      exact Fr.refl _ _
    clear_value x3
    extract_lets +onlyGivenNames x4
    have h4 : Fr 544768 a0 x4 := by
      unfold x4
      refine fr_ite (fun c5 => ?_) (fun c5 => ?_)
      · exact h3
      · refine Fr.call fr_incB rfl ?_
        exact h3
    clear_value x4
    extract_lets +onlyGivenNames x6
    have h6 : Fr 544768 a0 x6 := by
      unfold x6
      refine Fr.call fr_incB rfl ?_
      exact h4
    clear_value x6
    extract_lets +onlyGivenNames x7
    have h7 : Fr 544768 a0 x7 := by
      unfold x7
      refine Fr.call fr_incB rfl ?_
      exact h6
    clear_value x7
    extract_lets +onlyGivenNames x8
    have h8 : Fr 544768 a0 x8 := by
      unfold x8
      refine Fr.call fr_incB rfl ?_
      exact h7
    clear_value x8
    refine fr_ite (fun c9 => ?_) (fun c9 => ?_)
    · exact h8
    · extract_lets +onlyGivenNames x10
      extract_lets +onlyGivenNames x11
      refine Fr.lit ?_
      exact h8

theorem fr_countSlots {a0 a1 a2 a3} :
    Fr 544768 a0 (countSlots a0 a1 a2 a3) := by
  unfold countSlots
  extract_lets +onlyGivenNames x0
  extract_lets +onlyGivenNames x1
  extract_lets +onlyGivenNames x2
  extract_lets +onlyGivenNames x3
  have h3 : Fr 544768 a0 x3 := by
    unfold x3
    refine Fr.lit ?_
    exact Fr.refl _ _
  clear_value x3
  refine fr_ite (fun c4 => ?_) (fun c4 => ?_)
  · exact h3
  · refine Fr.call fr_incB rfl ?_
    exact h3

theorem fr_countPass {a0 a1 a2 a3} :
    Fr 544768 a0 (countPass a0 a1 a2 a3) := by
  unfold countPass
  extract_lets +onlyGivenNames x0
  have h0 : Fr 544768 a0 x0 := by
    unfold x0
    refine Fr.call fr_countSlots rfl ?_
    exact Fr.refl _ _
  clear_value x0
  refine Fr.call fr_countSlots rfl ?_
  refine Fr.call fr_countSlots rfl ?_
  refine Fr.call fr_countSlots rfl ?_
  exact h0

theorem fr_noteWrite {a0 a1 a2 a3 a4} :
    Fr 6291728 a0 (noteWrite a0 a1 a2 a3 a4) := by
  unfold noteWrite
  extract_lets +onlyGivenNames x0
  extract_lets +onlyGivenNames x1
  extract_lets +onlyGivenNames x2
  extract_lets +onlyGivenNames x3
  refine fr_ite (fun c4 => ?_) (fun c4 => ?_)
  · exact Fr.refl _ _
  · extract_lets +onlyGivenNames x5
    extract_lets +onlyGivenNames x6
    have h6 : Fr 6291728 a0 x6 := by
      unfold x6
      refine Fr.call fr_setTrain rfl ?_
      exact Fr.refl _ _
    clear_value x6
    split
    · rename_i i7 i8
      exact h6
    · rename_i i9 i10 i11
      refine fr_foldl ?_ (fun v12 y12 h12 => ?_)
      · exact h6
      · split
        · rename_i i13 i14 i15
          have h16 := fr_writeMa _ i15
          refine Fr.call h16 rfl ?_
          exact h12
        · rename_i i17 i18 i19
          exact h12

theorem fr_countRun {a0 a1 a2 a3 a4 a5} :
    Fr 6836496 a0 (countRun a0 a1 a2 a3 a4 a5) := by
  unfold countRun
  refine Fr.call fr_noteWrite rfl ?_
  refine Fr.call fr_countFmt rfl ?_
  exact Fr.refl _ _

theorem fr_freeCore {a0 a1} :
    Fr 40 a0 (freeCore a0 a1) := by
  unfold freeCore
  split
  · rename_i i0 i1
    exact Fr.refl _ _
  · rename_i i2 i3 i4
    refine Fr.call fr_offerCores rfl ?_
    refine Fr.call fr_offerCores rfl ?_
    exact Fr.refl _ _

theorem fr_dropSubst {a0 a1} :
    Fr 33554440 a0 (dropSubst a0 a1) := by
  unfold dropSubst
  refine Fr.lit ?_
  exact Fr.refl _ _

theorem fr_spareLost {a0 a1 a2 a3} :
    Fr 48820344 a0 (spareLost a0 a1 a2 a3) := by
  unfold spareLost
  split
  · rename_i i0 i1
    exact Fr.refl _ _
  · rename_i i2 i3 i4
    refine fr_ite (fun c5 => ?_) (fun c5 => ?_)
    · refine Fr.call fr_freeCore rfl ?_
      refine Fr.call fr_dropSubst rfl ?_
      exact Fr.refl _ _
    · split
      · rename_i i6 i7 i8
        refine Fr.lit ?_
        exact Fr.refl _ _
      · rename_i i9 i10
        refine Fr.call fr_withdrawOctet rfl ?_
        refine Fr.call fr_dropSubst rfl ?_
        exact Fr.refl _ _

theorem fr_replaceCore {a0 a1 a2 a3} :
    Fr 48820344 a0 (replaceCore a0 a1 a2 a3) := by
  unfold replaceCore
  split
  · rename_i i0 i1 i2
    refine Fr.lit ?_
    exact Fr.refl _ _
  · rename_i i3 i4
    refine Fr.call fr_withdrawOctet rfl ?_
    exact Fr.refl _ _

theorem fr_declareFail {a0 a1 a2 a3} :
    Fr 48820344 a0 (declareFail a0 a1 a2 a3) := by
  unfold declareFail
  refine fr_ite (fun c0 => ?_) (fun c0 => ?_)
  · exact Fr.refl _ _
  · extract_lets +onlyGivenNames x1
    extract_lets +onlyGivenNames x2
    have h2 : Fr 48820344 a0 x2 := by
      unfold x2
      refine Fr.call fr_incA rfl ?_
      refine Fr.lit ?_
      exact Fr.refl _ _
    clear_value x2
    extract_lets +onlyGivenNames x3
    have h3 : Fr 48820344 a0 x3 := by
      unfold x3
      refine Fr.call fr_raisePf rfl ?_
      refine Fr.call fr_jMust rfl ?_
      exact h2
    clear_value x3
    split
    · rename_i i4 i5
      refine Fr.call fr_spareLost rfl ?_
      exact h3
    · rename_i i6 i7 i8
      split
      · rename_i i9 i10
        refine Fr.call fr_replaceCore rfl ?_
        exact h3
      · rename_i i11 i12 i13
        refine fr_ite (fun c14 => ?_) (fun c14 => ?_)
        · refine Fr.call fr_replaceCore rfl ?_
          refine Fr.call fr_dropSubst rfl ?_
          exact h3
        · exact h3

theorem fr_demandErrors {a0 a1 a2 a3 a4} :
    Fr 585812 a0 (demandErrors a0 a1 a2 a3 a4) := by
  unfold demandErrors
  extract_lets +onlyGivenNames x0
  extract_lets +onlyGivenNames x1
  have h1 : Fr 585812 a0 x1 := by
    unfold x1
    refine fr_foldl ?_ (fun v2 y2 h2 => ?_)
    · exact Fr.refl _ _
    · refine fr_ite (fun c3 => ?_) (fun c3 => ?_)
      · refine Fr.call fr_incB rfl ?_
        exact h2
      · refine Fr.call fr_correctSector rfl ?_
        refine Fr.call fr_incB rfl ?_
        exact h2
  clear_value x1
  refine fr_foldl ?_ (fun v4 y4 h4 => ?_)
  · exact h1
  · extract_lets +onlyGivenNames x5
    split
    · rename_i i6 i7
      unfold x0 at i7
      unfold x5
      refine Fr.lit ?_
      exact h4
    · rename_i i8 i9 i10
      unfold x0 at i10
      refine fr_ite (fun c11 => ?_) (fun c11 => ?_)
      · unfold x5
        refine Fr.lit ?_
        refine Fr.lit ?_
        exact h4
      · refine Fr.call fr_mscDrop rfl ?_
        exact h4

theorem fr_opcFail {a0 a1 a2} :
    Fr 16 a0 (opcFail a0 a1 a2) := by
  unfold opcFail
  split
  · rename_i i0 i1
    exact Fr.refl _ _
  · rename_i i2 i3 i4
    refine fr_ite (fun c5 => ?_) (fun c5 => ?_)
    · refine Fr.lit ?_
      exact Fr.refl _ _
    · refine Fr.lit ?_
      exact Fr.refl _ _

theorem fr_sramErrors {a0 a1 a2 a3 a4} :
    Fr 48820344 a0 (sramErrors a0 a1 a2 a3 a4) := by
  unfold sramErrors
  extract_lets +onlyGivenNames x0
  extract_lets +onlyGivenNames x1
  extract_lets +onlyGivenNames x2
  extract_lets +onlyGivenNames x3
  extract_lets +onlyGivenNames x4
  extract_lets +onlyGivenNames x5
  extract_lets +onlyGivenNames x6
  have h6 : Fr 48820344 a0 x6 := by
    unfold x6
    refine Fr.lit ?_
    exact Fr.refl _ _
  clear_value x6
  extract_lets +onlyGivenNames x7
  have h7 : Fr 48820344 a0 x7 := by
    unfold x7
    refine fr_ite (fun c8 => ?_) (fun c8 => ?_)
    · refine Fr.call fr_declareFail rfl ?_
      exact h6
    · exact h6
  clear_value x7
  refine fr_ite (fun c9 => ?_) (fun c9 => ?_)
  · refine Fr.call fr_declareFail rfl ?_
    exact h7
  · exact h7

theorem fr_demandSram {a0 a1 a2 a3} :
    Fr 48820344 a0 (demandSram a0 a1 a2 a3) := by
  unfold demandSram
  extract_lets +onlyGivenNames x0
  refine fr_ite (fun c1 => ?_) (fun c1 => ?_)
  · exact Fr.refl _ _
  · extract_lets +onlyGivenNames x2
    extract_lets +onlyGivenNames x3
    extract_lets +onlyGivenNames x4
    have h4 : Fr 48820344 a0 x4 := by
      unfold x4
      refine fr_ite (fun c5 => ?_) (fun c5 => ?_)
      · exact Fr.refl _ _
      · refine Fr.call fr_incB rfl ?_
        exact Fr.refl _ _
    clear_value x4
    extract_lets +onlyGivenNames x6
    extract_lets +onlyGivenNames x7
    have h7 : Fr 48820344 a0 x7 := by
      unfold x7
      refine Fr.lit ?_
      exact h4
    clear_value x7
    extract_lets +onlyGivenNames x8
    have h8 : Fr 48820344 a0 x8 := by
      unfold x8
      refine fr_foldl ?_ (fun v9 y9 h9 => ?_)
      · exact h7
      · refine Fr.call fr_opcFail rfl ?_
        exact h9
    clear_value x8
    refine Fr.call fr_sramErrors rfl ?_
    exact h8

theorem fr_dropSignals {a0 a1 a2} :
    Fr 1088 a0 (dropSignals a0 a1 a2) := by
  unfold dropSignals
  extract_lets +onlyGivenNames x0
  refine Fr.lit ?_
  exact Fr.refl _ _

theorem fr_ringVector {a0 a1 a2 a3} :
    Fr 528384 a0 (ringVector a0 a1 a2 a3) := by
  unfold ringVector
  extract_lets +onlyGivenNames x0
  refine fr_ite (fun c1 => ?_) (fun c1 => ?_)
  · refine Fr.call fr_sendMsix rfl ?_
    exact Fr.refl _ _
  · refine Fr.call fr_sendMsix rfl ?_
    exact Fr.refl _ _

theorem fr_drainEnd {a0 a1 a2} :
    Fr 528416 a0 (drainEnd a0 a1 a2) := by
  unfold drainEnd
  extract_lets +onlyGivenNames x0
  refine fr_ite (fun c1 => ?_) (fun c1 => ?_)
  · refine fr_ite (fun c2 => ?_) (fun c2 => ?_)
    · refine Fr.call fr_setRing rfl ?_
      exact Fr.refl _ _
    · refine fr_ite (fun c3 => ?_) (fun c3 => ?_)
      · refine Fr.call fr_setRing rfl ?_
        exact Fr.refl _ _
      · refine Fr.call fr_ringVector rfl ?_
        refine Fr.call fr_setRing rfl ?_
        exact Fr.refl _ _
  · exact Fr.refl _ _

theorem fr_discardUnfetched {a0 a1 a2 a3} :
    Fr 32 a0 (discardUnfetched a0 a1 a2 a3) := by
  fun_induction discardUnfetched
  · rename_i i0
    exact Fr.refl _ _
  · rename_i i1 i2 i3 i4 i5
    exact Fr.refl _ _
  · rename_i i6 i7 i8 i9 i10 i11 i12
    refine Fr.call i12 rfl ?_
    refine Fr.call fr_addTask rfl ?_
    exact Fr.refl _ _

theorem fr_drainRing {a0 a1 a2} :
    Fr 531552 a0 (drainRing a0 a1 a2) := by
  unfold drainRing
  extract_lets +onlyGivenNames x0
  have h0 : Fr 531552 a0 x0 := by
    unfold x0
    refine Fr.call fr_dropSignals rfl ?_
    exact Fr.refl _ _
  clear_value x0
  extract_lets +onlyGivenNames x1
  extract_lets +onlyGivenNames x2
  have h2 : Fr 531552 a0 x2 := by
    unfold x2
    refine Fr.call fr_withdrawArrivals rfl ?_
    refine Fr.call fr_setRing rfl ?_
    exact h0
  clear_value x2
  extract_lets +onlyGivenNames x3
  extract_lets +onlyGivenNames x4
  extract_lets +onlyGivenNames x5
  have h5 : Fr 531552 a0 x5 := by
    unfold x5
    refine Fr.lit ?_
    exact h2
  clear_value x5
  refine Fr.call fr_drainEnd rfl ?_
  refine Fr.call fr_discardUnfetched rfl ?_
  exact h5

theorem fr_disableRing {a0 a1 a2} :
    Fr 531552 a0 (disableRing a0 a1 a2) := by
  unfold disableRing
  extract_lets +onlyGivenNames x0
  refine fr_ite (fun c1 => ?_) (fun c1 => ?_)
  · exact Fr.refl _ _
  · extract_lets +onlyGivenNames x2
    have h2 : Fr 531552 a0 x2 := by
      unfold x2
      refine Fr.call fr_setRing rfl ?_
      exact Fr.refl _ _
    clear_value x2
    refine fr_ite (fun c3 => ?_) (fun c3 => ?_)
    · exact h2
    · refine Fr.call fr_drainRing rfl ?_
      exact h2

theorem fr_drainPort {a0 a1 a2} :
    Fr 525312 a1 (drainPort a0 a1 a2) := by
  fun_induction drainPort
  · rename_i i0
    exact Fr.refl _ _
  · rename_i i1 i2 i3 i4
    exact Fr.refl _ _
  · rename_i i5 i6 i7 i8 i9 i10 i11 i12
    refine Fr.call i12 rfl ?_
    split
    · rename_i i13 i14 i15
      refine Fr.call fr_sendCredit rfl ?_
      unfold i11
      refine Fr.call fr_sendSpent rfl ?_
      refine Fr.call fr_setPort rfl ?_
      exact Fr.refl _ _
    · rename_i i16 i17
      unfold i11
      refine Fr.call fr_sendSpent rfl ?_
      refine Fr.call fr_setPort rfl ?_
      exact Fr.refl _ _

theorem fr_drawPool {a0 a1 a2 a3} :
    Fr 525312 a0 (drawPool a0 a1 a2 a3) := by
  unfold drawPool
  extract_lets +onlyGivenNames x0
  refine fr_ite (fun c1 => ?_) (fun c1 => ?_)
  · exact Fr.refl _ _
  · refine Fr.call fr_sendCredit rfl ?_
    refine Fr.call fr_lendPool rfl ?_
    exact Fr.refl _ _

theorem fr_dropDerive {a0 a1 a2} :
    Fr 32 a0 (dropDerive a0 a1 a2) := by
  unfold dropDerive
  refine Fr.lit ?_
  exact Fr.refl _ _

theorem fr_dropExpired {a0} :
    Fr 64 a0 (dropExpired a0) := by
  unfold dropExpired
  refine Fr.lit ?_
  exact Fr.refl _ _

theorem fr_dropQueue {a0 a1} :
    Fr 525312 a0 (dropQueue a0 a1) := by
  unfold dropQueue
  refine fr_foldl ?_ (fun v0 y0 h0 => ?_)
  · refine Fr.call fr_modPort rfl ?_
    exact Fr.refl _ _
  · split
    · rename_i i1 i2 i3
      refine Fr.call fr_sendCredit rfl ?_
      exact h0
    · rename_i i4 i5
      exact h0

theorem fr_dropSnapTx {a0 a1} :
    Fr 1024 a0 (dropSnapTx a0 a1) := by
  unfold dropSnapTx
  refine Fr.lit ?_
  exact Fr.refl _ _

theorem fr_dropSpan {a0 a1} :
    Fr 64 a0 (dropSpan a0 a1) := by
  unfold dropSpan
  refine Fr.call fr_modLedger rfl ?_
  exact Fr.refl _ _

theorem fr_emptySlot {a0 a1 a2} :
    Fr 2667220 a0 (emptySlot a0 a1 a2) := by
  unfold emptySlot
  extract_lets +onlyGivenNames x0
  have h0 : Fr 2667220 a0 x0 := by
    unfold x0
    refine Fr.call fr_dropVersions rfl ?_
    exact Fr.refl _ _
  clear_value x0
  extract_lets +onlyGivenNames x1
  extract_lets +onlyGivenNames x2
  have h2 : Fr 2667220 a0 x2 := by
    unfold x2
    refine Fr.call fr_goneFetch rfl ?_
    refine Fr.call fr_dropVariants rfl ?_
    exact h0
  clear_value x2
  refine Fr.call fr_setSlot rfl ?_
  exact h2

theorem fr_endFailed {a0 a1 a2} :
    Fr 6878964 a0 (endFailed a0 a1 a2) := by
  unfold endFailed
  extract_lets +onlyGivenNames x0
  extract_lets +onlyGivenNames x1
  extract_lets +onlyGivenNames x2
  have h2 : Fr 6878964 a0 x2 := by
    unfold x2
    refine Fr.call fr_endRun rfl ?_
    exact Fr.refl _ _
  clear_value x2
  split
  · rename_i i3 i4 i5 i6
    extract_lets +onlyGivenNames x7
    have h7 : Fr 6878964 a0 x7 := by
      unfold x7
      split
      · rename_i i8 i9 i10
        refine fr_foldl ?_ (fun v11 y11 h11 => ?_)
        · refine fr_elim1 i6 ?_
          split
          · rename_i i12 i13
            refine fr_fst ?_
            exact h2
          · rename_i i14 i15 i16
            split
            · rename_i i17 i18 i19
              have h20 := fr_endCancelled _ i19
              refine Fr.call h20 rfl ?_
              exact h2
            · rename_i i21 i22 i23
              refine fr_fst ?_
              exact h2
        · refine Fr.call fr_trimKv rfl ?_
          exact h11
      · rename_i i25 i26
        refine fr_elim1 i6 ?_
        split
        · rename_i i27 i28
          refine fr_fst ?_
          exact h2
        · rename_i i29 i30 i31
          split
          · rename_i i32 i33 i34
            have h35 := fr_endCancelled _ i34
            refine Fr.call h35 rfl ?_
            exact h2
          · rename_i i36 i37 i38
            refine fr_fst ?_
            exact h2
    clear_value x7
    refine Fr.call fr_putTask rfl ?_
    refine Fr.call fr_sweepMoon rfl ?_
    exact h7

theorem fr_endFailing {a0 a1 a2} :
    Fr 32 a0 (endFailing a0 a1 a2) := by
  unfold endFailing
  extract_lets +onlyGivenNames x0
  refine Fr.call fr_putTask rfl ?_
  exact Fr.refl _ _

theorem fr_endFirmware {a0} :
    Fr 131072 a0 (endFirmware a0) := by
  unfold endFirmware
  refine Fr.lit ?_
  exact Fr.refl _ _

theorem fr_endLimits {a0 a1 a2 a3 a4} :
    onOk (fun b => Fr 6836368 a0 b) (endLimits a0 a1 a2 a3 a4) := by
  fun_induction endLimits
  · rename_i i0
    refine onOk_ok ?_
    exact Fr.refl _ _
  · rename_i i1 i2 i3 i4
    refine onOk_bind (fun b5 q5 => ?_)
    extract_lets +onlyGivenNames x6
    extract_lets +onlyGivenNames x7
    refine onOk_ite (fun c8 => ?_) (fun c8 => ?_)
    · refine onOk_bind (fun b9 q9 => ?_)
      have h10 := fr_endSeq _ q9
      unfold x7
      refine onOk_call (i4 _) rfl ?_
      exact h10
    · refine onOk_bind (fun b11 q11 => ?_)
      unfold x7
      refine onOk_call (i4 _) rfl ?_
      refine onOk_elim q11 ?_
      refine onOk_ok ?_
      exact Fr.refl _ _

theorem fr_endLive {a0 a1 a2} :
    onOk (fun o => onSome (fun b => Fr 6836368 a0 b) o) (endLive a0 a1 a2) := by
  unfold endLive
  extract_lets +onlyGivenNames x0
  refine onOk_ite (fun c1 => ?_) (fun c1 => ?_)
  · refine onOk_ok ?_
    refine onSome_some ?_
    exact Fr.refl _ _
  · split
    · rename_i i2 i3
      refine onOk_ok ?_
      refine onSome_some ?_
      exact Fr.refl _ _
    · rename_i i4 i5 i6
      refine onOk_bind (fun b7 q7 => ?_)
      refine onOk_ite (fun c8 => ?_) (fun c8 => ?_)
      · refine onOk_ok ?_
        exact onSome_none
      · refine onOk_bind (fun b9 q9 => ?_)
        have h10 := fr_endSlot _ q9
        refine onOk_ok ?_
        refine onSome_some ?_
        exact h10

theorem fr_pipeRes {k : Nat} {z s0 : State} {m : Nat} {x : Except Fail State} (w : (288 ||| 545024 ||| 545024) ||| k = k)
    (h0 : Fr k z s0) (h : onOk (fun b => Fr k z b) x) : onNext (fun b => Fr k z b) (pipeRes s0 m x) := by
  unfold pipeRes
  split
  · rename_i s q
    refine onNext_next ((Fr.up fr_noteWait ?_).call w ?_)
    · rfl
    · refine onOk_elim q ?_
      cases x with
      | error e => intro b hb; cases hb
      | ok y => exact onOk_call fr_pipeOff (by rw [← w]; apply Nat.eq_of_testBit_eq; intro i; simp only [Nat.testBit_or]; cases (Nat.testBit 288 i) <;> simp) (h _ rfl)
  · refine onNext_ite (fun _ => ?_) (fun _ => ?_)
    · exact onNext_next h0
    · refine onNext_next ((Fr.up fr_pipeHalt ?_).call w h0)
      rfl

theorem fr_updateLayer {a0 a1 a2 a3} :
    onOk (fun b => Fr 6291728 a0 b) (updateLayer a0 a1 a2 a3) := by
  unfold updateLayer
  extract_lets +onlyGivenNames x0
  split
  · rename_i i1 i2
    refine onOk_ok ?_
    exact Fr.refl _ _
  · rename_i i3 i4 i5
    extract_lets +onlyGivenNames x6
    refine onOk_bind (fun b7 q7 => ?_)
    split
    · rename_i i8 i9 i10 i11
      refine onOk_bind (fun b12 q12 => ?_)
      have h13 := fr_writeMa _ q12
      refine onOk_bind (fun b14 q14 => ?_)
      have h15 := fr_writeMa _ q14
      refine onOk_ok ?_
      refine Fr.call fr_setTrain rfl ?_
      refine Fr.call h15 rfl ?_
      refine Fr.call h13 rfl ?_
      exact Fr.refl _ _

theorem fr_updateLayers {a0 a1 a2 a3} :
    onOk (fun b => Fr 6291728 a0 b) (updateLayers a0 a1 a2 a3) := by
  fun_induction updateLayers
  · rename_i i0
    refine onOk_ok ?_
    exact Fr.refl _ _
  · rename_i i1 i2 i3 i4
    refine onOk_bind (fun b5 q5 => ?_)
    have h6 := fr_updateLayer _ q5
    refine onOk_call (i4 _) rfl ?_
    exact h6

theorem fr_programEffect {a0 a1 a2 a3} :
    onOk (fun b => Fr 6844688 a0 b) (programEffect a0 a1 a2 a3) := by
  unfold programEffect
  split
  · rename_i i0 i1
    refine onOk_ok ?_
    refine Fr.call fr_incB rfl ?_
    exact Fr.refl _ _
  · rename_i i2 i3
    refine onOk_bind (fun b4 q4 => ?_)
    have h5 := fr_modTiles _ q4
    refine onOk_ok ?_
    refine Fr.call fr_incB rfl ?_
    refine Fr.call h5 rfl ?_
    exact Fr.refl _ _
  · rename_i i6 i7 i8
    extract_lets +onlyGivenNames x9
    refine onOk_bind (fun b10 q10 => ?_)
    have h11 := fr_bumpTiles _ q10
    refine onOk_bind (fun b12 q12 => ?_)
    refine onOk_bind (fun b13 q13 => ?_)
    have h14 := fr_updateLayers _ q13
    refine onOk_ok ?_
    refine Fr.call fr_closeGns rfl ?_
    refine Fr.call fr_incB rfl ?_
    refine Fr.call h14 rfl ?_
    refine Fr.call h11 rfl ?_
    exact Fr.refl _ _

theorem fr_passCmd {a0 a1} :
    onOk (fun b => Fr 6291728 a0 b) (passCmd a0 a1) := by
  unfold passCmd
  extract_lets +onlyGivenNames x0
  refine onOk_ite (fun c1 => ?_) (fun c1 => ?_)
  · refine onOk_call fr_writeMa rfl ?_
    refine Fr.call fr_setTrain rfl ?_
    exact Fr.refl _ _
  · refine onOk_ok ?_
    exact Fr.refl _ _

theorem fr_endProgram {a0 a1 a2} :
    onNext (fun b => Fr 6845744 a0 b) (endProgram a0 a1 a2) := by
  unfold endProgram
  extract_lets +onlyGivenNames x0
  split
  · rename_i i1 i2
    refine onNext_next ?_
    exact Fr.refl _ _
  · rename_i i3 i4 i5
    refine onNext_ite (fun c6 => ?_) (fun c6 => ?_)
    · refine fr_pipeRes rfl ?_ ?_
      · exact Fr.refl _ _
      · refine onOk_ok ?_
        exact Fr.refl _ _
    · split
      · rename_i i7 i8
        refine onNext_ite (fun c9 => ?_) (fun c9 => ?_)
        · refine fr_pipeRes rfl ?_ ?_
          · exact Fr.refl _ _
          · refine onOk_ok ?_
            exact Fr.refl _ _
        · refine onNext_next ?_
          exact Fr.refl _ _
      · rename_i i10 i11 i12
        extract_lets +onlyGivenNames x13
        refine onNext_ite (fun c14 => ?_) (fun c14 => ?_)
        · refine onNext_next ?_
          exact Fr.refl _ _
        · split
          · rename_i i15 i16 i17
            refine onNext_next ?_
            refine Fr.call fr_pipeHalt rfl ?_
            exact Fr.refl _ _
          · rename_i i18 i19
            refine onNext_ite (fun c20 => ?_) (fun c20 => ?_)
            · refine onNext_next ?_
              exact Fr.refl _ _
            · refine fr_pipeRes rfl ?_ ?_
              · exact Fr.refl _ _
              · refine onOk_bind (fun b21 q21 => ?_)
                have h22 := fr_programEffect _ q21
                refine onOk_bind (fun b23 q23 => ?_)
                have h24 := fr_passCmd _ q23
                extract_lets +onlyGivenNames x25
                have h25 : Fr 6845744 a0 x25 := by
                  unfold x25
                  refine Fr.call fr_addRestore rfl ?_
                  refine Fr.call fr_modTrain rfl ?_
                  refine Fr.call h24 rfl ?_
                  refine Fr.call h22 rfl ?_
                  refine Fr.call fr_dropPlan rfl ?_
                  exact Fr.refl _ _
                clear_value x25
                refine onOk_call fr_startDerives rfl ?_
                exact h25

theorem fr_evictFor {a0 a1 a2 a3} :
    Fr 2667220 a0 (evictFor a0 a1 a2 a3) := by
  fun_induction evictFor
  · rename_i i0
    exact Fr.refl _ _
  · rename_i i1 i2 i3
    exact Fr.refl _ _
  · rename_i i4 i5 i6 i7
    exact Fr.refl _ _
  · rename_i i8 i9 i10 i11 i12 i13 i14 i15
    refine Fr.call i15 rfl ?_
    refine Fr.call fr_setSlot rfl ?_
    unfold i13
    refine Fr.call fr_dropVariants rfl ?_
    refine Fr.call fr_dropVersions rfl ?_
    exact Fr.refl _ _

theorem fr_exchangeItems {a0 a1} :
    Fr 524288 a0 (exchangeItems a0 a1) := by
  unfold exchangeItems
  refine Fr.call fr_emit rfl ?_
  exact Fr.refl _ _

theorem fr_execAbortReceived {a0 a1} :
    onNext (fun b => Fr 16449532 a1 b) (execAbortReceived a0 a1) := by
  unfold execAbortReceived
  refine onNext_ite (fun c0 => ?_) (fun c0 => ?_)
  · refine onNext_next ?_
    refine Fr.call fr_freeMoon rfl ?_
    exact Fr.refl _ _
  · refine onNext_next ?_
    exact Fr.refl _ _

theorem fr_execActRestoreDone {a0 a1} :
    onNext (fun b => Fr 545056 a1 b) (execActRestoreDone a0 a1) := by
  unfold execActRestoreDone
  split
  · rename_i i0 i1
    refine onNext_next ?_
    exact Fr.refl _ _
  · rename_i i2 i3 i4
    refine onNext_ite (fun c5 => ?_) (fun c5 => ?_)
    · refine onNext_next ?_
      exact Fr.refl _ _
    · extract_lets +onlyGivenNames x6
      extract_lets +onlyGivenNames x7
      have h7 : Fr 545056 a1 x7 := by
        unfold x7
        refine Fr.lit ?_
        exact Fr.refl _ _
      clear_value x7
      extract_lets +onlyGivenNames x8
      split
      · rename_i i9 i10
        refine fr_pipeRes rfl ?_ ?_
        · exact Fr.refl _ _
        · refine onOk_ok ?_
          exact h7
      · rename_i i11 i12 i13
        refine onNext_ite (fun c14 => ?_) (fun c14 => ?_)
        · refine onNext_next ?_
          refine Fr.call fr_noteWait rfl ?_
          refine Fr.call fr_setTrain rfl ?_
          exact h7
        · refine onNext_next ?_
          refine fr_ite (fun c15 => ?_) (fun c15 => ?_)
          · exact h7
          · refine Fr.call fr_pipeHalt rfl ?_
            exact h7

theorem fr_execActivate {a0 a1 a2} :
    onNext (fun b => Fr 651264 a2 b) (execActivate a0 a1 a2) := by
  unfold execActivate
  refine fr_command rfl (fun v0 => ?_)
  refine onOk_call fr_fwCmd rfl ?_
  exact Fr.refl _ _

theorem fr_sendSync {a0 a1 a2 a3 a4} :
    Fr 525312 a0 (sendSync a0 a1 a2 a3 a4) := by
  unfold sendSync
  refine Fr.call fr_offer rfl ?_
  exact Fr.refl _ _

theorem fr_syncMoon {a0 a1 a2} :
    Fr 525312 a0 (syncMoon a0 a1 a2) := by
  unfold syncMoon
  extract_lets +onlyGivenNames x0
  have h0 : Fr 525312 a0 x0 := by
    unfold x0
    refine Fr.call fr_askPool rfl ?_
    exact Fr.refl _ _
  clear_value x0
  refine Fr.call fr_sendSync rfl ?_
  exact h0

theorem fr_openCredit {a0 a1} :
    Fr 525312 a0 (openCredit a0 a1) := by
  unfold openCredit
  refine fr_foldl ?_ (fun v0 y0 h0 => ?_)
  · exact Fr.refl _ _
  · refine Fr.call fr_syncMoon rfl ?_
    exact h0

theorem fr_execAdmissionDone {a0 a1} :
    onNext (fun b => Fr 529472 a1 b) (execAdmissionDone a0 a1) := by
  unfold execAdmissionDone
  extract_lets +onlyGivenNames x0
  split
  · rename_i i1 i2
    refine onNext_next ?_
    exact Fr.refl _ _
  · rename_i i3 i4 i5
    refine onNext_ite (fun c6 => ?_) (fun c6 => ?_)
    · extract_lets +onlyGivenNames x7
      have h7 : Fr 529472 a1 x7 := by
        unfold x7
        refine Fr.call fr_modMoon rfl ?_
        exact Fr.refl _ _
      clear_value x7
      refine onNext_next ?_
      refine Fr.call fr_endJob rfl ?_
      refine Fr.call fr_openCredit rfl ?_
      exact h7
    · refine onNext_next ?_
      exact Fr.refl _ _

theorem fr_startTask {a0 a1 a2} :
    Fr 536608 a0 (startTask a0 a1 a2).1 := by
  unfold startTask
  split
  · rename_i i0 i1 i2 i3
    have h4 := fr_eq fr_consumeOne i3
    split
    · rename_i i5 i6 i7 i8
      have h9 := fr_eq fr_consumeOne i8
      extract_lets +onlyGivenNames x10
      extract_lets +onlyGivenNames x11
      refine fr_fst ?_
      refine Fr.call fr_putTask rfl ?_
      refine fr_ite (fun c12 => ?_) (fun c12 => ?_)
      · refine Fr.call h9 rfl ?_
        exact h4
      · refine Fr.call fr_setRing rfl ?_
        refine Fr.call h9 rfl ?_
        exact h4

theorem fr_execAlarm {a0 a1 a2} :
    onNext (fun b => Fr 536608 a2 b) (execAlarm a0 a1 a2) := by
  unfold execAlarm
  split
  · rename_i i0 i1
    refine onNext_next ?_
    exact Fr.refl _ _
  · rename_i i2 i3 i4
    refine onNext_ite (fun c5 => ?_) (fun c5 => ?_)
    · refine onNext_next ?_
      exact Fr.refl _ _
    · refine onNext_ite (fun c6 => ?_) (fun c6 => ?_)
      · refine onNext_next ?_
        refine Fr.call fr_startTask rfl ?_
        exact Fr.refl _ _
      · refine onNext_next ?_
        refine Fr.call fr_putTask rfl ?_
        exact Fr.refl _ _

theorem fr_execAlarmFire {a0 a1 a2 a3} :
    onNext (fun b => Fr 6844464 a3 b) (execAlarmFire a0 a1 a2 a3) := by
  unfold execAlarmFire
  split
  · rename_i i0 i1
    refine onNext_next ?_
    exact Fr.refl _ _
  · rename_i i2 i3 i4
    refine onNext_ite (fun c5 => ?_) (fun c5 => ?_)
    · refine onNext_next ?_
      refine Fr.call fr_completeTask rfl ?_
      exact Fr.refl _ _
    · refine onNext_next ?_
      exact Fr.refl _ _

theorem fr_pollMissed {a0 a1} :
    Fr 538624 a0 (pollMissed a0 a1) := by
  unfold pollMissed
  extract_lets +onlyGivenNames x0
  extract_lets +onlyGivenNames x1
  extract_lets +onlyGivenNames x2
  have h2 : Fr 538624 a0 x2 := by
    unfold x2
    refine Fr.call fr_incA rfl ?_
    refine Fr.call fr_setMember rfl ?_
    exact Fr.refl _ _
  clear_value x2
  refine fr_ite (fun c3 => ?_) (fun c3 => ?_)
  · refine Fr.call fr_raisePf rfl ?_
    refine Fr.call fr_setMember rfl ?_
    exact h2
  · exact h2

theorem fr_execAnswer {a0 a1 a2 a3} :
    onNext (fun b => Fr 538624 a3 b) (execAnswer a0 a1 a2 a3) := by
  unfold execAnswer
  extract_lets +onlyGivenNames x0
  refine onNext_ite (fun c1 => ?_) (fun c1 => ?_)
  · refine onNext_next ?_
    exact Fr.refl _ _
  · refine onNext_ite (fun c2 => ?_) (fun c2 => ?_)
    · refine onNext_next ?_
      refine Fr.call fr_pollMissed rfl ?_
      exact Fr.refl _ _
    · extract_lets +onlyGivenNames x3
      extract_lets +onlyGivenNames x4
      extract_lets +onlyGivenNames x5
      have h5 : Fr 538624 a3 x5 := by
        unfold x5
        refine Fr.call fr_setMember rfl ?_
        exact Fr.refl _ _
      clear_value x5
      refine onNext_next ?_
      refine fr_ite (fun c6 => ?_) (fun c6 => ?_)
      · refine Fr.call fr_raisePf rfl ?_
        exact h5
      · exact h5

theorem fr_execArrayBackgroundTest {a0 a1 a2} :
    onNext (fun b => Fr 8 a2 b) (execArrayBackgroundTest a0 a1 a2) := by
  unfold execArrayBackgroundTest
  refine onNext_ite (fun c0 => ?_) (fun c0 => ?_)
  · refine onNext_next ?_
    refine Fr.lit ?_
    exact Fr.refl _ _
  · refine onNext_next ?_
    exact Fr.refl _ _

theorem fr_query {k : Nat} {s : State} {w : Who} {p e : Nat} {f : State → Except Nat (State × Bytes)} (u : 552960 ||| k = k)
    (hf : ∀ v, onOk (fun b : State × Bytes => Fr k v b.1) (f v)) : onNext (fun b => Fr k s b) (query s w p e f) := by
  unfold query
  refine onNext_ite (fun _ => ?_) (fun _ => ?_)
  · exact onNext_next (Fr.refl _ _)
  · refine onNext_ite (fun _ => ?_) (fun _ => ?_)
    · exact onNext_next (Fr.call fr_answer u (Fr.refl _ _))
    · split
      · exact onNext_next (Fr.call fr_answer u (Fr.refl _ _))
      · rename_i t v q
        exact onNext_next (Fr.call fr_answerWith u (hf s (t, v) q))

theorem fr_execArrayStatRead {a0 a1 a2} :
    onNext (fun b => Fr 552960 a2 b) (execArrayStatRead a0 a1 a2) := by
  unfold execArrayStatRead
  refine fr_query rfl (fun v0 => ?_)
  refine onOk_call fr_readStat rfl ?_
  exact Fr.refl _ _

theorem fr_noteTest {a0 a1 a2} :
    Fr 33554440 a0 (noteTest a0 a1 a2) := by
  unfold noteTest
  extract_lets +onlyGivenNames x0
  extract_lets +onlyGivenNames x1
  refine Fr.lit ?_
  exact Fr.refl _ _

theorem fr_failColumn {a0 a1 a2 a3} :
    Fr 48820344 a0 (failColumn a0 a1 a2 a3) := by
  unfold failColumn
  extract_lets +onlyGivenNames x0
  split
  · rename_i i1 i2
    refine fr_ite (fun c3 => ?_) (fun c3 => ?_)
    · refine Fr.call fr_declareFail rfl ?_
      exact Fr.refl _ _
    · refine fr_ite (fun c4 => ?_) (fun c4 => ?_)
      · refine Fr.lit ?_
        exact Fr.refl _ _
      · refine Fr.call fr_jAppend rfl ?_
        refine Fr.lit ?_
        exact Fr.refl _ _
  · rename_i i5 i6 i7
    refine Fr.call fr_declareFail rfl ?_
    exact Fr.refl _ _
  · rename_i i8 i9
    refine Fr.call fr_declareFail rfl ?_
    exact Fr.refl _ _

theorem fr_execArrayTestDone {a0 a1 a2 a3} :
    onNext (fun b => Fr 48820344 a3 b) (execArrayTestDone a0 a1 a2 a3) := by
  unfold execArrayTestDone
  extract_lets +onlyGivenNames x0
  refine onNext_ite (fun c1 => ?_) (fun c1 => ?_)
  · refine onNext_next ?_
    exact Fr.refl _ _
  · extract_lets +onlyGivenNames x2
    extract_lets +onlyGivenNames x3
    have h3 : Fr 48820344 a3 x3 := by
      unfold x3
      refine Fr.lit ?_
      exact Fr.refl _ _
    clear_value x3
    extract_lets +onlyGivenNames x4
    extract_lets +onlyGivenNames x5
    extract_lets +onlyGivenNames x6
    extract_lets +onlyGivenNames x7
    have h7 : Fr 48820344 a3 x7 := by
      unfold x7
      refine Fr.call fr_noteTest rfl ?_
      refine Fr.call fr_arrayFaults rfl ?_
      exact h3
    clear_value x7
    refine onNext_next ?_
    refine Fr.call fr_freeCore rfl ?_
    refine fr_foldl ?_ (fun v8 y8 h8 => ?_)
    · exact h7
    · refine Fr.call fr_failColumn rfl ?_
      exact h8

theorem fr_refuseArrive {a0 a1 a2 a3} :
    Fr 6880756 a0 (refuseArrive a0 a1 a2 a3) := by
  unfold refuseArrive
  refine fr_ite (fun c0 => ?_) (fun c0 => ?_)
  · refine Fr.call fr_settleArrivals rfl ?_
    exact Fr.refl _ _
  · refine Fr.call fr_sendCtl rfl ?_
    exact Fr.refl _ _

theorem fr_takeSample {a0 a1 a2} :
    Fr 587776 a0 (takeSample a0 a1 a2) := by
  unfold takeSample
  extract_lets +onlyGivenNames x0
  extract_lets +onlyGivenNames x1
  have h1 : Fr 587776 a0 x1 := by
    unfold x1
    refine fr_foldl ?_ (fun v2 y2 h2 => ?_)
    · refine Fr.call fr_incB rfl ?_
      exact Fr.refl _ _
    · split
      · rename_i i3 i4
        exact h2
      · rename_i i5 i6 i7
        extract_lets +onlyGivenNames x8
        refine fr_ite (fun c9 => ?_) (fun c9 => ?_)
        · exact h2
        · extract_lets +onlyGivenNames x10
          extract_lets +onlyGivenNames x11
          have h11 : Fr 587776 a0 x11 := by
            unfold x11
            refine Fr.call fr_incA rfl ?_
            refine Fr.call fr_setMember rfl ?_
            exact h2
          clear_value x11
          refine fr_ite (fun c12 => ?_) (fun c12 => ?_)
          · refine Fr.call fr_incA rfl ?_
            exact h11
          · exact h11
  clear_value x1
  refine Fr.call fr_evalHealth rfl ?_
  exact h1

theorem fr_releaseInstance {a0 a1 a2 a3} :
    Fr 6880756 a0 (releaseInstance a0 a1 a2 a3) := by
  unfold releaseInstance
  extract_lets +onlyGivenNames x0
  extract_lets +onlyGivenNames x1
  extract_lets +onlyGivenNames x2
  have h2 : Fr 6880756 a0 x2 := by
    unfold x2
    refine Fr.call fr_incB rfl ?_
    refine Fr.call fr_closeInstance rfl ?_
    exact Fr.refl _ _
  clear_value x2
  extract_lets +onlyGivenNames x3
  have h3 : Fr 6880756 a0 x3 := by
    unfold x3
    refine fr_foldl ?_ (fun v4 y4 h4 => ?_)
    · exact h2
    · refine fr_ite (fun c5 => ?_) (fun c5 => ?_)
      · refine Fr.call fr_settleArrivals rfl ?_
        exact h4
      · refine Fr.call fr_sendCtl rfl ?_
        exact h4
  clear_value x3
  refine fr_ite (fun c6 => ?_) (fun c6 => ?_)
  · refine Fr.call fr_takeSample rfl ?_
    exact h3
  · exact h3

theorem fr_execArrive {a0 a1} :
    onNext (fun b => Fr 6880756 a1 b) (execArrive a0 a1) := by
  unfold execArrive
  extract_lets +onlyGivenNames x0
  refine onNext_ite (fun c1 => ?_) (fun c1 => ?_)
  · refine onNext_next ?_
    exact Fr.refl _ _
  · refine onNext_ite (fun c2 => ?_) (fun c2 => ?_)
    · refine onNext_next ?_
      refine Fr.call fr_refuseArrive rfl ?_
      exact Fr.refl _ _
    · refine onNext_ite (fun c3 => ?_) (fun c3 => ?_)
      · refine onNext_next ?_
        refine Fr.call fr_refuseArrive rfl ?_
        exact Fr.refl _ _
      · extract_lets +onlyGivenNames x4
        have h4 : Fr 6880756 a1 x4 := by
          unfold x4
          refine fr_ite (fun c5 => ?_) (fun c5 => ?_)
          · exact Fr.refl _ _
          · refine Fr.call fr_sendCtl rfl ?_
            exact Fr.refl _ _
        clear_value x4
        extract_lets +onlyGivenNames x6
        extract_lets +onlyGivenNames x7
        refine onNext_ite (fun c8 => ?_) (fun c8 => ?_)
        · refine onNext_next ?_
          refine Fr.call fr_releaseInstance rfl ?_
          exact h4
        · refine onNext_next ?_
          refine Fr.lit ?_
          exact h4

theorem fr_execAttachShared {a0 a1 a2 a3} :
    onNext (fun b => Fr 2683604 a3 b) (execAttachShared a0 a1 a2 a3) := by
  unfold execAttachShared
  extract_lets +onlyGivenNames x0
  refine fr_command rfl (fun v1 => ?_)
  refine onOk_call fr_fetchCmd rfl ?_
  exact Fr.refl _ _

theorem fr_execAttestReport {a0 a1 a2} :
    onNext (fun b => Fr 552960 a2 b) (execAttestReport a0 a1 a2) := by
  unfold execAttestReport
  extract_lets +onlyGivenNames x0
  refine fr_query rfl (fun v1 => ?_)
  extract_lets +onlyGivenNames x2
  refine onOk_ok ?_
  refine fr_fst ?_
  refine Fr.call fr_keepPieces rfl ?_
  exact Fr.refl _ _

theorem fr_execAuto {a0 a1 a2} :
    onNext (fun b => Fr 553984 a2 b) (execAuto a0 a1 a2) := by
  unfold execAuto
  refine fr_command rfl (fun v0 => ?_)
  refine onOk_call fr_autoPort rfl ?_
  exact Fr.refl _ _

theorem fr_execBackwardDone {a0 a1} :
    onNext (fun b => Fr 6845744 a1 b) (execBackwardDone a0 a1) := by
  unfold execBackwardDone
  refine onNext_call fr_endProgram rfl ?_
  exact Fr.refl _ _

theorem fr_takeProgram {a0 a1 a2 a3} :
    onOk (fun b => Fr 6828336 a0 b) (takeProgram a0 a1 a2 a3) := by
  unfold takeProgram
  extract_lets +onlyGivenNames x0
  refine onOk_ite (fun c1 => ?_) (fun c1 => ?_)
  · refine onOk_ok ?_
    exact Fr.refl _ _
  · split
    · rename_i i2 i3
      extract_lets +onlyGivenNames x4
      have h4 : Fr 6828336 a0 x4 := by
        unfold x4
        refine Fr.call fr_addObj rfl ?_
        exact Fr.refl _ _
      clear_value x4
      refine onOk_bind (fun b5 q5 => ?_)
      have h6 := fr_modTiles _ q5
      refine onOk_ok ?_
      refine Fr.call fr_setTrain rfl ?_
      refine Fr.call h6 rfl ?_
      exact h4
    · rename_i i7 i8
      refine onOk_ok ?_
      refine fr_ite (fun c9 => ?_) (fun c9 => ?_)
      · exact Fr.refl _ _
      · refine Fr.call fr_addObj rfl ?_
        exact Fr.refl _ _
    · rename_i i10 i11 i12
      refine onOk_ok ?_
      exact Fr.refl _ _

theorem fr_loadPipe {a0 a1 a2 a3 a4 a5 a6} :
    onOk (fun o => onSome (fun b => Fr 32 a0 b) o) (loadPipe a0 a1 a2 a3 a4 a5 a6) := by
  unfold loadPipe
  refine onOk_bind (fun b0 q0 => ?_)
  split
  · rename_i i1
    refine onOk_ok ?_
    exact onSome_none
  · rename_i i2 i3
    refine onOk_bind (fun b4 q4 => ?_)
    refine onOk_ite (fun c5 => ?_) (fun c5 => ?_)
    · refine onOk_ok ?_
      exact onSome_none
    · refine onOk_bind (fun b6 q6 => ?_)
      refine onOk_ok ?_
      refine onSome_some ?_
      refine Fr.lit ?_
      exact Fr.refl _ _

theorem fr_prefetchNext {a0 a1 a2 a3} :
    onOk (fun b => Fr 6292784 a0 b) (prefetchNext a0 a1 a2 a3) := by
  unfold prefetchNext
  extract_lets +onlyGivenNames x0
  refine onOk_ite (fun c1 => ?_) (fun c1 => ?_)
  · refine onOk_ok ?_
    exact Fr.refl _ _
  · refine onOk_bind (fun b2 q2 => ?_)
    split
    · rename_i i3
      refine onOk_ok ?_
      exact Fr.refl _ _
    · rename_i i4 i5 i6
      refine onOk_ok ?_
      exact Fr.refl _ _
    · rename_i i7 i8 i9
      extract_lets +onlyGivenNames x10
      extract_lets +onlyGivenNames x11
      have h11 : Fr 6292784 a0 x11 := by
        unfold x11
        refine Fr.call fr_dropPlan rfl ?_
        exact Fr.refl _ _
      clear_value x11
      extract_lets +onlyGivenNames x12
      refine onOk_bind (fun b13 q13 => ?_)
      have h14 := fr_loadPipe _ q13
      split
      · rename_i i15 i16
        refine onOk_ok ?_
        refine Fr.call fr_setTrain rfl ?_
        refine Fr.call (h14 _ rfl) rfl ?_
        exact h11
      · rename_i i17
        refine onOk_ok ?_
        exact h11

theorem fr_startProgram {a0 a1 a2 a3} :
    onOk (fun b => Fr 6845744 a0 b) (startProgram a0 a1 a2 a3) := by
  unfold startProgram
  extract_lets +onlyGivenNames x0
  refine onOk_bind (fun b1 q1 => ?_)
  have h2 := fr_takeProgram _ q1
  extract_lets +onlyGivenNames x3
  extract_lets +onlyGivenNames x4
  extract_lets +onlyGivenNames x5
  extract_lets +onlyGivenNames x6
  extract_lets +onlyGivenNames x7
  extract_lets +onlyGivenNames x8
  have h8 : Fr 6845744 a0 x8 := by
    unfold x8
    refine fr_ite (fun c9 => ?_) (fun c9 => ?_)
    · refine Fr.call fr_dropPlan rfl ?_
      refine Fr.call h2 rfl ?_
      exact Fr.refl _ _
    · refine Fr.call fr_dropPlan rfl ?_
      refine Fr.call fr_dropUnstarted rfl ?_
      refine Fr.call h2 rfl ?_
      exact Fr.refl _ _
  clear_value x8
  extract_lets +onlyGivenNames x10
  have h10 : Fr 6845744 a0 x10 := by
    unfold x10
    refine Fr.call fr_setTrain rfl ?_
    exact h8
  clear_value x10
  refine onOk_bind (fun b11 q11 => ?_)
  have h12 := fr_loadPipe _ q11
  split
  · rename_i i13
    refine onOk_ok ?_
    refine Fr.call fr_pipeHalt rfl ?_
    exact h10
  · rename_i i14 i15
    refine onOk_bind (fun b16 q16 => ?_)
    have h17 := fr_prefetchNext _ q16
    split
    · rename_i i18 i19 i20
      refine onOk_ok ?_
      refine fr_ite (fun c21 => ?_) (fun c21 => ?_)
      · refine Fr.call fr_pipeHalt rfl ?_
        refine Fr.call h17 rfl ?_
        refine Fr.call (h12 _ rfl) rfl ?_
        exact h10
      · refine Fr.call h17 rfl ?_
        refine Fr.call (h12 _ rfl) rfl ?_
        exact h10
    · rename_i i22 i23
      refine onOk_ok ?_
      refine Fr.call h17 rfl ?_
      refine Fr.call (h12 _ rfl) rfl ?_
      exact h10

theorem fr_tryStart {a0 a1 a2} :
    onNext (fun b => Fr 6845744 a0 b) (tryStart a0 a1 a2) := by
  unfold tryStart
  extract_lets +onlyGivenNames x0
  split
  · rename_i i1 i2
    refine onNext_next ?_
    exact Fr.refl _ _
  · rename_i i3 i4 i5
    refine onNext_ite (fun c6 => ?_) (fun c6 => ?_)
    · refine onNext_next ?_
      exact Fr.refl _ _
    · split
      · rename_i i7 i8
        refine onNext_next ?_
        exact Fr.refl _ _
      · rename_i i9 i10 i11
        refine onNext_ite (fun c12 => ?_) (fun c12 => ?_)
        · refine onNext_next ?_
          exact Fr.refl _ _
        · refine onNext_ite (fun c13 => ?_) (fun c13 => ?_)
          · refine onNext_next ?_
            exact Fr.refl _ _
          · refine fr_pipeRes rfl ?_ ?_
            · exact Fr.refl _ _
            · refine onOk_bind (fun b14 q14 => ?_)
              refine onOk_ite (fun c15 => ?_) (fun c15 => ?_)
              · refine onOk_call fr_startProgram rfl ?_
                exact Fr.refl _ _
              · refine onOk_ok ?_
                exact Fr.refl _ _

theorem fr_execBackwardProgramStart {a0 a1} :
    onNext (fun b => Fr 6845744 a1 b) (execBackwardProgramStart a0 a1) := by
  unfold execBackwardProgramStart
  refine onNext_call fr_tryStart rfl ?_
  exact Fr.refl _ _

theorem fr_respond {a0 a1} :
    Fr 8192 a0 (respond a0 a1) := by
  unfold respond
  refine Fr.lit ?_
  exact Fr.refl _ _

theorem fr_execBar2Read {a0 a1 a2} :
    onNext (fun b => Fr 2682964 a2 b) (execBar2Read a0 a1 a2) := by
  unfold execBar2Read
  extract_lets +onlyGivenNames x0
  refine onNext_ite (fun c1 => ?_) (fun c1 => ?_)
  · refine onNext_next ?_
    exact Fr.refl _ _
  · refine onNext_ite (fun c2 => ?_) (fun c2 => ?_)
    · refine onNext_next ?_
      refine Fr.call fr_respond rfl ?_
      exact Fr.refl _ _
    · refine onNext_ite (fun c3 => ?_) (fun c3 => ?_)
      · refine onNext_next ?_
        exact Fr.refl _ _
      · extract_lets +onlyGivenNames x4
        refine onNext_next ?_
        refine Fr.call fr_respond rfl ?_
        refine Fr.call fr_bar2Ue rfl ?_
        refine Fr.call fr_bar2Touch rfl ?_
        refine Fr.call fr_bar2Count rfl ?_
        exact Fr.refl _ _

theorem fr_holdWrite {a0 a1} :
    Fr 4096 a0 (holdWrite a0 a1) := by
  unfold holdWrite
  refine Fr.lit ?_
  exact Fr.refl _ _

theorem fr_storeBar2 {a0 a1 a2} :
    Fr 2650128 a0 (storeBar2 a0 a1 a2) := by
  unfold storeBar2
  extract_lets +onlyGivenNames x0
  extract_lets +onlyGivenNames x1
  have h1 : Fr 2650128 a0 x1 := by
    unfold x1
    refine Fr.call fr_bar2Store rfl ?_
    refine Fr.call fr_bar2Touch rfl ?_
    refine Fr.call fr_bar2Count rfl ?_
    exact Fr.refl _ _
  clear_value x1
  refine Fr.lit ?_
  exact h1

theorem fr_execBar2Write {a0 a1 a2} :
    onNext (fun b => Fr 2650128 a2 b) (execBar2Write a0 a1 a2) := by
  unfold execBar2Write
  extract_lets +onlyGivenNames x0
  extract_lets +onlyGivenNames x1
  refine onNext_ite (fun c2 => ?_) (fun c2 => ?_)
  · refine onNext_next ?_
    exact Fr.refl _ _
  · refine onNext_ite (fun c3 => ?_) (fun c3 => ?_)
    · refine onNext_next ?_
      refine Fr.call fr_holdWrite rfl ?_
      exact Fr.refl _ _
    · refine onNext_next ?_
      refine Fr.call fr_storeBar2 rfl ?_
      exact Fr.refl _ _

theorem fr_setBuf {a0 a1 a2} :
    Fr 512 a0 (setBuf a0 a1 a2) := by
  unfold setBuf
  refine Fr.lit ?_
  exact Fr.refl _ _

theorem fr_modJob {a0 a1 a2} :
    Fr 512 a0 (modJob a0 a1 a2) := by
  unfold modJob
  refine Fr.lit ?_
  exact Fr.refl _ _

theorem fr_execBar4BufferFull {a0 a1} :
    onNext (fun b => Fr 6828560 a1 b) (execBar4BufferFull a0 a1) := by
  unfold execBar4BufferFull
  split
  · rename_i i0 i1
    refine onNext_next ?_
    exact Fr.refl _ _
  · rename_i i2 i3 i4
    split
    · rename_i i5 i6
      refine onNext_next ?_
      exact Fr.refl _ _
    · rename_i i7 i8 i9
      extract_lets +onlyGivenNames x10
      refine onNext_ite (fun c11 => ?_) (fun c11 => ?_)
      · refine onNext_next ?_
        exact Fr.refl _ _
      · extract_lets +onlyGivenNames x12
        refine onNext_ite (fun c13 => ?_) (fun c13 => ?_)
        · refine onNext_next ?_
          refine Fr.call fr_bar4Drop rfl ?_
          refine Fr.call fr_setBuf rfl ?_
          exact Fr.refl _ _
        · extract_lets +onlyGivenNames x14
          refine onNext_ite (fun c15 => ?_) (fun c15 => ?_)
          · refine onNext_next ?_
            exact Fr.refl _ _
          · extract_lets +onlyGivenNames x16
            extract_lets +onlyGivenNames x17
            extract_lets +onlyGivenNames x18
            extract_lets +onlyGivenNames x19
            extract_lets +onlyGivenNames x20
            have h20 : Fr 6828560 a1 x20 := by
              unfold x20
              refine fr_ite (fun c21 => ?_) (fun c21 => ?_)
              · exact Fr.refl _ _
              · refine Fr.call fr_writeHomes rfl ?_
                exact Fr.refl _ _
            clear_value x20
            refine onNext_next ?_
            refine Fr.call fr_modJob rfl ?_
            refine Fr.call fr_setBuf rfl ?_
            exact h20

theorem fr_execBar4Timeout {a0 a1} :
    onNext (fun b => Fr 2667220 a1 b) (execBar4Timeout a0 a1) := by
  unfold execBar4Timeout
  split
  · rename_i i0 i1
    refine onNext_next ?_
    exact Fr.refl _ _
  · rename_i i2 i3 i4
    extract_lets +onlyGivenNames x5
    refine onNext_ite (fun c6 => ?_) (fun c6 => ?_)
    · refine onNext_next ?_
      refine Fr.call fr_endFetch rfl ?_
      exact Fr.refl _ _
    · refine onNext_next ?_
      exact Fr.refl _ _

theorem fr_writeDesc {a0 a1 a2 a3 a4} :
    Fr 512 a0 (writeDesc a0 a1 a2 a3 a4) := by
  unfold writeDesc
  extract_lets +onlyGivenNames x0
  extract_lets +onlyGivenNames x1
  extract_lets +onlyGivenNames x2
  extract_lets +onlyGivenNames x3
  have h3 : Fr 512 a0 x3 := by
    unfold x3
    refine Fr.call fr_setBuf rfl ?_
    exact Fr.refl _ _
  clear_value x3
  split
  · rename_i i4 i5 i6
    refine fr_ite (fun c7 => ?_) (fun c7 => ?_)
    · refine Fr.call fr_modJob rfl ?_
      exact h3
    · exact h3
  · rename_i i8 i9
    exact h3

theorem fr_execBar4Write {a0 a1 a2} :
    onNext (fun b => Fr 537088 a2 b) (execBar4Write a0 a1 a2) := by
  unfold execBar4Write
  refine onNext_ite (fun c0 => ?_) (fun c0 => ?_)
  · refine onNext_next ?_
    exact Fr.refl _ _
  · split
    · rename_i i1 i2
      refine onNext_next ?_
      refine Fr.call fr_bar4Drop rfl ?_
      exact Fr.refl _ _
    · rename_i i3 i4 i5
      extract_lets +onlyGivenNames x6
      have h6 : Fr 537088 a2 x6 := by
        unfold x6
        refine fr_foldl ?_ (fun v7 y7 h7 => ?_)
        · exact Fr.refl _ _
        · extract_lets +onlyGivenNames x8
          refine fr_ite (fun c9 => ?_) (fun c9 => ?_)
          · exact h7
          · refine Fr.call fr_setBuf rfl ?_
            exact h7
      clear_value x6
      refine onNext_next ?_
      refine fr_foldl ?_ (fun v10 y10 h10 => ?_)
      · exact h6
      · extract_lets +onlyGivenNames x11
        refine fr_ite (fun c12 => ?_) (fun c12 => ?_)
        · exact h10
        · refine Fr.call fr_writeDesc rfl ?_
          exact h10

theorem fr_execBarrier {a0 a1 a2} :
    onNext (fun b => Fr 588916 a2 b) (execBarrier a0 a1 a2) := by
  unfold execBarrier
  split
  · rename_i i0 i1
    refine onNext_next ?_
    exact Fr.refl _ _
  · rename_i i2 i3 i4
    refine onNext_ite (fun c5 => ?_) (fun c5 => ?_)
    · refine onNext_next ?_
      exact Fr.refl _ _
    · extract_lets +onlyGivenNames x6
      split
      · rename_i i7 i8 i9 i10
        have h11 := fr_eq fr_startTask i10
        refine onNext_ite (fun c12 => ?_) (fun c12 => ?_)
        · refine onNext_next ?_
          refine Fr.call fr_failTask rfl ?_
          refine Fr.call h11 rfl ?_
          exact Fr.refl _ _
        · refine onNext_ite (fun c13 => ?_) (fun c13 => ?_)
          · refine onNext_next ?_
            refine Fr.call fr_failTask rfl ?_
            refine Fr.call h11 rfl ?_
            exact Fr.refl _ _
          · split
            · rename_i i14 i15 i16
              have h17 := fr_sendArrive _ i16
              refine onNext_next ?_
              refine Fr.call h17 rfl ?_
              refine Fr.call h11 rfl ?_
              exact Fr.refl _ _
            · rename_i i18 i19
              refine onNext_next ?_
              refine Fr.call fr_failTask rfl ?_
              refine Fr.call h11 rfl ?_
              exact Fr.refl _ _

end Sys2Proof.Laws
end

