-- ==== Sys2Proof/Laws/Frames4.lean ====
section
/-! SUPPORT. Frames of the operations of Machine, part 4: for each, the parts of the state that it may change (Laws/Frame.lean says which bit
names which part), callees before callers. -/

set_option Elab.async false

namespace Sys2Proof.Laws

open Sys2Proof.Machine

theorem fr_execBarrierDef {a0 a1 a2 a3} :
    onNext (fun b => Fr 587776 a3 b) (execBarrierDef a0 a1 a2 a3) := by
  unfold execBarrierDef
  refine fr_command rfl (fun v0 => ?_)
  refine onOk_call fr_writeBarDef rfl ?_
  exact Fr.refl _ _

theorem fr_execBarrierMove {a0 a1 a2 a3} :
    onNext (fun b => Fr 587776 a3 b) (execBarrierMove a0 a1 a2 a3) := by
  unfold execBarrierMove
  refine fr_command rfl (fun v0 => ?_)
  refine onOk_call fr_writeBarMove rfl ?_
  exact Fr.refl _ _

theorem fr_whenUp {k : Nat} {z s t : State} (h : Fr k z s) (g : Fr k z t) : onNext (fun b => Fr k z b) (whenUp s t) := by
  unfold whenUp
  refine onNext_ite (fun _ => ?_) (fun _ => ?_)
  · exact onNext_next g
  · exact onNext_next h

theorem fr_execBarrierRelease {a0 a1 a2} :
    onNext (fun b => Fr 6880756 a2 b) (execBarrierRelease a0 a1 a2) := by
  unfold execBarrierRelease
  refine fr_whenUp ?_ ?_
  · exact Fr.refl _ _
  · refine Fr.call fr_settleArrivals rfl ?_
    exact Fr.refl _ _

theorem fr_execBarrierTimeout {a0 a1} :
    onNext (fun b => Fr 6880756 a1 b) (execBarrierTimeout a0 a1) := by
  unfold execBarrierTimeout
  split
  · rename_i i0 i1 i2 i3 i4 i5
    extract_lets +onlyGivenNames x6
    refine onNext_ite (fun c7 => ?_) (fun c7 => ?_)
    · refine onNext_next ?_
      exact Fr.refl _ _
    · extract_lets +onlyGivenNames x8
      extract_lets +onlyGivenNames x9
      extract_lets +onlyGivenNames x10
      extract_lets +onlyGivenNames x11
      extract_lets +onlyGivenNames x12
      extract_lets +onlyGivenNames x13
      have h13 : Fr 6880756 a1 x13 := by
        unfold x13
        refine Fr.call fr_incB rfl ?_
        refine Fr.call fr_closeInstance rfl ?_
        exact Fr.refl _ _
      clear_value x13
      refine onNext_next ?_
      refine fr_foldl ?_ (fun v14 y14 h14 => ?_)
      · exact h13
      · extract_lets +onlyGivenNames x15
        refine fr_ite (fun c16 => ?_) (fun c16 => ?_)
        · refine Fr.call fr_settleArrivals rfl ?_
          exact h14
        · refine Fr.call fr_sendCtl rfl ?_
          exact h14
  · rename_i i17 i18 i19
    refine onNext_next ?_
    exact Fr.refl _ _

theorem fr_takeBeacon {a0 a1 a2} :
    Fr 8194 a0 (takeBeacon a0 a1 a2) := by
  unfold takeBeacon
  extract_lets +onlyGivenNames x0
  refine Fr.call fr_modOrbit rfl ?_
  refine Fr.call fr_setParam rfl ?_
  refine Fr.call fr_setParam rfl ?_
  exact Fr.refl _ _

theorem fr_follow {a0 a1} :
    Fr 528386 a0 (follow a0 a1) := by
  unfold follow
  refine Fr.call fr_checkDiverged rfl ?_
  refine Fr.call fr_modOrbit rfl ?_
  exact Fr.refl _ _

theorem fr_execBeacon {a0 a1 a2} :
    onNext (fun b => Fr 536578 a2 b) (execBeacon a0 a1 a2) := by
  unfold execBeacon
  extract_lets +onlyGivenNames x0
  extract_lets +onlyGivenNames x1
  refine onNext_ite (fun c2 => ?_) (fun c2 => ?_)
  · refine onNext_next ?_
    exact Fr.refl _ _
  · extract_lets +onlyGivenNames x3
    extract_lets +onlyGivenNames x4
    extract_lets +onlyGivenNames x5
    extract_lets +onlyGivenNames x6
    have h6 : Fr 536578 a2 x6 := by
      unfold x6
      refine Fr.call fr_modOrbit rfl ?_
      refine Fr.call fr_takeBeacon rfl ?_
      exact Fr.refl _ _
    clear_value x6
    extract_lets +onlyGivenNames x7
    split
    · rename_i i8 i9
      refine onNext_ite (fun c10 => ?_) (fun c10 => ?_)
      · refine onNext_next ?_
        exact h6
      · refine onNext_next ?_
        refine Fr.call fr_follow rfl ?_
        refine Fr.call fr_modOrbit rfl ?_
        refine Fr.call fr_usePort rfl ?_
        exact h6
    · rename_i i11 i12
      refine onNext_next ?_
      refine Fr.call fr_follow rfl ?_
      refine Fr.call fr_modOrbit rfl ?_
      refine Fr.call fr_usePort rfl ?_
      exact h6
    · rename_i i13 i14
      extract_lets +onlyGivenNames x15
      have h15 : Fr 536578 a2 x15 := by
        unfold x15
        refine fr_ite (fun c16 => ?_) (fun c16 => ?_)
        · refine Fr.call fr_usePort rfl ?_
          exact h6
        · exact h6
      clear_value x15
      refine onNext_ite (fun c17 => ?_) (fun c17 => ?_)
      · refine onNext_next ?_
        exact h15
      · refine onNext_next ?_
        refine Fr.call fr_follow rfl ?_
        refine Fr.call fr_modOrbit rfl ?_
        exact h15

theorem fr_sendOn {a0 a1 a2 a3 a4} :
    Fr 525312 a0 (sendOn a0 a1 a2 a3 a4) := by
  unfold sendOn
  extract_lets +onlyGivenNames x0
  extract_lets +onlyGivenNames x1
  refine fr_ite (fun c2 => ?_) (fun c2 => ?_)
  · refine Fr.call fr_offer rfl ?_
    refine Fr.call fr_emit rfl ?_
    exact Fr.refl _ _
  · exact Fr.refl _ _

theorem fr_execBeaconSend {a0} :
    onNext (fun b => Fr 525314 a0 b) (execBeaconSend a0) := by
  unfold execBeaconSend
  refine onNext_ite (fun c0 => ?_) (fun c0 => ?_)
  · refine onNext_next ?_
    exact Fr.refl _ _
  · extract_lets +onlyGivenNames x1
    extract_lets +onlyGivenNames x2
    have h2 : Fr 525314 a0 x2 := by
      unfold x2
      refine fr_foldl ?_ (fun v3 y3 h3 => ?_)
      · exact Fr.refl _ _
      · refine Fr.call fr_sendOn rfl ?_
        exact h3
    clear_value x2
    refine onNext_next ?_
    refine Fr.call fr_modOrbit rfl ?_
    exact h2

theorem fr_execBeaconTimeout {a0} :
    onNext (fun b => Fr 552962 a0 b) (execBeaconTimeout a0) := by
  unfold execBeaconTimeout
  refine onNext_ite (fun c0 => ?_) (fun c0 => ?_)
  · refine onNext_next ?_
    exact Fr.refl _ _
  · extract_lets +onlyGivenNames x1
    extract_lets +onlyGivenNames x2
    have h2 : Fr 552962 a0 x2 := by
      unfold x2
      refine Fr.call fr_modOrbit rfl ?_
      refine fr_ite (fun c3 => ?_) (fun c3 => ?_)
      · exact Fr.refl _ _
      · refine Fr.call fr_incB rfl ?_
        exact Fr.refl _ _
    clear_value x2
    extract_lets +onlyGivenNames x4
    have h4 : Fr 552962 a0 x4 := by
      unfold x4
      refine fr_ite (fun c5 => ?_) (fun c5 => ?_)
      · refine Fr.call fr_usePort rfl ?_
        exact h2
      · exact h2
    clear_value x4
    extract_lets +onlyGivenNames x6
    have h6 : Fr 552962 a0 x6 := by
      unfold x6
      refine Fr.call fr_checkDiverged rfl ?_
      exact h4
    clear_value x6
    refine onNext_next ?_
    refine fr_ite (fun c7 => ?_) (fun c7 => ?_)
    · refine Fr.call fr_enterHoldover rfl ?_
      exact h6
    · exact h6

theorem fr_execBillingMinuteClose {a0} :
    onNext (fun b => Fr 569408 a0 b) (execBillingMinuteClose a0) := by
  unfold execBillingMinuteClose
  refine fr_whenUp ?_ ?_
  · exact Fr.refl _ _
  · refine fr_ite (fun c0 => ?_) (fun c0 => ?_)
    · exact Fr.refl _ _
    · refine fr_foldl ?_ (fun v1 y1 h1 => ?_)
      · exact Fr.refl _ _
      · refine Fr.call fr_closeMinute rfl ?_
        exact h1

theorem fr_execBridgeFail {a0 a1} :
    onNext (fun b => Fr 66781180 a1 b) (execBridgeFail a0 a1) := by
  unfold execBridgeFail
  refine onNext_ite (fun c0 => ?_) (fun c0 => ?_)
  · refine onNext_next ?_
    exact Fr.refl _ _
  · refine onNext_ite (fun c1 => ?_) (fun c1 => ?_)
    · refine onNext_next ?_
      refine Fr.call fr_faultStop rfl ?_
      refine Fr.lit ?_
      exact Fr.refl _ _
    · refine onNext_next ?_
      refine Fr.call fr_setSvc rfl ?_
      refine Fr.lit ?_
      exact Fr.refl _ _

theorem fr_trainFail {a0 a1} :
    Fr 570372 a0 (trainFail a0 a1) := by
  unfold trainFail
  extract_lets +onlyGivenNames x0
  extract_lets +onlyGivenNames x1
  have h1 : Fr 570372 a0 x1 := by
    unfold x1
    refine Fr.call fr_incA rfl ?_
    refine Fr.call fr_modPort rfl ?_
    exact Fr.refl _ _
  clear_value x1
  refine fr_ite (fun c2 => ?_) (fun c2 => ?_)
  · exact h1
  · refine Fr.call fr_setSvc rfl ?_
    refine Fr.call fr_raisePf rfl ?_
    refine Fr.call fr_modPort rfl ?_
    exact h1

theorem fr_execBringUpTimeout {a0 a1} :
    onNext (fun b => Fr 570372 a1 b) (execBringUpTimeout a0 a1) := by
  unfold execBringUpTimeout
  extract_lets +onlyGivenNames x0
  refine onNext_ite (fun c1 => ?_) (fun c1 => ?_)
  · refine onNext_next ?_
    refine Fr.call fr_trainFail rfl ?_
    exact Fr.refl _ _
  · refine onNext_next ?_
    exact Fr.refl _ _

theorem fr_modJtag {a0 a1} :
    Fr 262144 a0 (modJtag a0 a1) := by
  unfold modJtag
  refine Fr.lit ?_
  exact Fr.refl _ _

theorem fr_execBypass {a0} :
    onNext (fun b => Fr 262144 a0 b) (execBypass a0) := by
  unfold execBypass
  refine onNext_ite (fun c0 => ?_) (fun c0 => ?_)
  · refine onNext_next ?_
    exact Fr.refl _ _
  · refine onNext_next ?_
    refine Fr.call fr_modJtag rfl ?_
    exact Fr.refl _ _

theorem fr_execCancelSwap {a0 a1 a2 a3 a4} :
    onNext (fun b => Fr 553088 a4 b) (execCancelSwap a0 a1 a2 a3 a4) := by
  unfold execCancelSwap
  refine fr_command rfl (fun v0 => ?_)
  refine onOk_call fr_cancelSwapCmd rfl ?_
  exact Fr.refl _ _

theorem fr_failWith {k : Nat} {z s0 s : State} {t : Machine.Task} {b : Bad} (w : 585844 ||| k = k) (h0 : Fr k z s0) (h : Fr k z s) :
    Fr k z (failWith s0 s t b) := by
  unfold failWith
  refine fr_ite (fun _ => ?_) (fun _ => ?_)
  · exact h0
  · exact Fr.call fr_failTask w h

theorem fr_execChain {a0 a1 a2} :
    onNext (fun b => Fr 585852 a2 b) (execChain a0 a1 a2) := by
  unfold execChain
  split
  · rename_i i0 i1
    refine onNext_next ?_
    exact Fr.refl _ _
  · rename_i i2 i3 i4
    refine onNext_ite (fun c5 => ?_) (fun c5 => ?_)
    · refine onNext_next ?_
      exact Fr.refl _ _
    · refine onNext_ite (fun c6 => ?_) (fun c6 => ?_)
      · split
        · rename_i i7 i8 i9 i10
          have h11 := fr_eq fr_startTask i10
          refine onNext_next ?_
          refine Fr.call fr_failTask rfl ?_
          refine Fr.call h11 rfl ?_
          exact Fr.refl _ _
      · refine onNext_ite (fun c12 => ?_) (fun c12 => ?_)
        · refine onNext_next ?_
          exact Fr.refl _ _
        · extract_lets +onlyGivenNames x13
          extract_lets +onlyGivenNames x14
          have h14 : Fr 585852 a2 x14 := by
            unfold x14
            exact Fr.refl _ _
          clear_value x14
          split
          · rename_i i15 i16 i17 i18
            have h19 := fr_eq fr_startTask i18
            split
            · rename_i i20 i21 i22
              refine onNext_next ?_
              refine fr_failWith rfl ?_ ?_
              · exact h14
              · refine Fr.call h19 rfl ?_
                exact Fr.refl _ _
            · rename_i i23 i24
              extract_lets +onlyGivenNames x25
              refine onNext_next ?_
              refine Fr.call fr_offerCores rfl ?_
              refine Fr.call fr_putTask rfl ?_
              refine Fr.call h19 rfl ?_
              exact Fr.refl _ _

theorem fr_noteDemand {a0 a1 a2 a3} :
    Fr 16 a0 (noteDemand a0 a1 a2 a3) := by
  unfold noteDemand
  refine fr_ite (fun c0 => ?_) (fun c0 => ?_)
  · extract_lets +onlyGivenNames x1
    refine Fr.lit ?_
    exact Fr.refl _ _
  · exact Fr.refl _ _

theorem fr_tlbTouch {a0 a1 a2 a3} :
    Fr 16 a0 (tlbTouch a0 a1 a2 a3) := by
  unfold tlbTouch
  extract_lets +onlyGivenNames x0
  refine fr_ite (fun c1 => ?_) (fun c1 => ?_)
  · exact Fr.refl _ _
  · extract_lets +onlyGivenNames x2
    extract_lets +onlyGivenNames x3
    refine Fr.lit ?_
    exact Fr.refl _ _

theorem fr_tlbUse {a0 a1 a2 a3 a4} :
    Fr 16 a0 (tlbUse a0 a1 a2 a3 a4) := by
  unfold tlbUse
  refine fr_ite (fun c0 => ?_) (fun c0 => ?_)
  · extract_lets +onlyGivenNames x1
    refine fr_foldl ?_ (fun v2 y2 h2 => ?_)
    · exact Fr.refl _ _
    · refine fr_ite (fun c3 => ?_) (fun c3 => ?_)
      · refine Fr.call fr_tlbTouch rfl ?_
        exact h2
      · exact h2
  · exact Fr.refl _ _

theorem fr_useRead {a0 a1 a2 a3 a4 a5} :
    Fr 6836240 a0 (useRead a0 a1 a2 a3 a4 a5) := by
  unfold useRead
  extract_lets +onlyGivenNames x0
  have h0 : Fr 6836240 a0 x0 := by
    unfold x0
    split
    · rename_i i1 i2
      refine Fr.call fr_opcUse rfl ?_
      exact Fr.refl _ _
    · rename_i i3
      exact Fr.refl _ _
  clear_value x0
  refine Fr.call fr_streamAccess rfl ?_
  refine Fr.call fr_tlbUse rfl ?_
  exact h0

theorem fr_touchVec {a0 a1 a2 a3 a4 a5 a6 a7} :
    Fr 6836240 a0 (touchVec a0 a1 a2 a3 a4 a5 a6 a7) := by
  unfold touchVec
  extract_lets +onlyGivenNames x0
  extract_lets +onlyGivenNames x1
  extract_lets +onlyGivenNames x2
  extract_lets +onlyGivenNames x3
  have h3 : Fr 6836240 a0 x3 := by
    unfold x3
    refine Fr.call fr_noteDemand rfl ?_
    refine Fr.call fr_useRead rfl ?_
    exact Fr.refl _ _
  clear_value x3
  refine fr_ite (fun c4 => ?_) (fun c4 => ?_)
  · refine Fr.call fr_noteDemand rfl ?_
    refine Fr.call fr_useRead rfl ?_
    exact h3
  · exact h3

theorem fr_touchPlane {a0 a1 a2 a3} :
    Fr 6836240 a0 (touchPlane a0 a1 a2 a3) := by
  unfold touchPlane
  refine fr_ite (fun c0 => ?_) (fun c0 => ?_)
  · exact Fr.refl _ _
  · split
    · rename_i i1 i2 i3
      exact Fr.refl _ _
    · rename_i i4 i5 i6
      extract_lets +onlyGivenNames x7
      extract_lets +onlyGivenNames x8
      extract_lets +onlyGivenNames x9
      extract_lets +onlyGivenNames x10
      have h10 : Fr 6836240 a0 x10 := by
        unfold x10
        refine Fr.call fr_noteDemand rfl ?_
        refine Fr.call fr_useRead rfl ?_
        exact Fr.refl _ _
      clear_value x10
      extract_lets +onlyGivenNames x11
      have h11 : Fr 6836240 a0 x11 := by
        unfold x11
        refine Fr.call fr_noteDemand rfl ?_
        refine Fr.call fr_useRead rfl ?_
        exact h10
      clear_value x11
      refine Fr.call fr_noteDemand rfl ?_
      refine Fr.call fr_useRead rfl ?_
      exact h11

theorem fr_touchStreams {a0 a1 a2 a3 a4 a5 a6 a7 a8} :
    Fr 6836240 a0 (touchStreams a0 a1 a2 a3 a4 a5 a6 a7 a8) := by
  fun_induction touchStreams
  · rename_i i0 i1
    exact Fr.refl _ _
  · rename_i i2 i3 i4 i5 i6 i7 i8 i9 i10 i11 i12
    refine Fr.call i12 rfl ?_
    refine Fr.call fr_touchVec rfl ?_
    refine Fr.call fr_touchPlane rfl ?_
    exact Fr.refl _ _

theorem fr_useWrite {a0 a1 a2 a3 a4 a5} :
    Fr 2641936 a0 (useWrite a0 a1 a2 a3 a4 a5) := by
  unfold useWrite
  refine Fr.call fr_streamAccess rfl ?_
  refine Fr.call fr_tlbUse rfl ?_
  exact Fr.refl _ _

theorem fr_useRecord {a0 a1 a2 a3 a4 a5} :
    Fr 6836240 a0 (useRecord a0 a1 a2 a3 a4 a5) := by
  unfold useRecord
  extract_lets +onlyGivenNames x0
  extract_lets +onlyGivenNames x1
  extract_lets +onlyGivenNames x2
  unfold x2
  refine fr_ite (fun c3 => ?_) (fun c3 => ?_)
  · refine Fr.call fr_useRead rfl ?_
    refine fr_ite (fun c4 => ?_) (fun c4 => ?_)
    · refine Fr.call fr_useRead rfl ?_
      refine fr_ite (fun c5 => ?_) (fun c5 => ?_)
      · refine Fr.call fr_useRead rfl ?_
        exact Fr.refl _ _
      · refine Fr.call fr_useWrite rfl ?_
        exact Fr.refl _ _
    · refine Fr.call fr_useWrite rfl ?_
      refine fr_ite (fun c6 => ?_) (fun c6 => ?_)
      · refine Fr.call fr_useRead rfl ?_
        exact Fr.refl _ _
      · refine Fr.call fr_useWrite rfl ?_
        exact Fr.refl _ _
  · refine Fr.call fr_useWrite rfl ?_
    refine fr_ite (fun c7 => ?_) (fun c7 => ?_)
    · refine Fr.call fr_useRead rfl ?_
      refine fr_ite (fun c8 => ?_) (fun c8 => ?_)
      · refine Fr.call fr_useRead rfl ?_
        exact Fr.refl _ _
      · refine Fr.call fr_useWrite rfl ?_
        exact Fr.refl _ _
    · refine Fr.call fr_useWrite rfl ?_
      refine fr_ite (fun c9 => ?_) (fun c9 => ?_)
      · refine Fr.call fr_useRead rfl ?_
        exact Fr.refl _ _
      · refine Fr.call fr_useWrite rfl ?_
        exact Fr.refl _ _

theorem fr_setVreg {a0 a1 a2 a3} :
    Fr 8388616 a0 (setVreg a0 a1 a2 a3) := by
  unfold setVreg
  generalize (upTo 2048).zip a3 = p
  refine Fr.litW ?_ ?_ ?_ ?_ ?_ ?_ <;> first | exact id | exact List.prefix_refl _ | exact Nat.le_refl _ | skip
  · exact Fr.refl _ _
  · exact fun w => memWf_memPut w

theorem fr_placeStrip {a0 a1 a2 a3 a4} :
    Fr 8388616 a0 (placeStrip a0 a1 a2 a3 a4) := by
  unfold placeStrip
  extract_lets +onlyGivenNames x0
  have h0 : Fr 8388616 a0 x0 := by
    unfold x0
    refine fr_foldl ?_ (fun v1 y1 h1 => ?_)
    · exact Fr.refl _ _
    · extract_lets +onlyGivenNames x2
      refine Fr.call fr_setVreg rfl ?_
      exact h1
  clear_value x0
  refine fr_foldl ?_ (fun v3 y3 h3 => ?_)
  · exact h0
  · refine fr_ite (fun c4 => ?_) (fun c4 => ?_)
    · exact h3
    · refine Fr.call fr_setVreg rfl ?_
      exact h3

theorem fr_writeEntry {a0 a1 a2 a3 a4 a5} :
    onOk (fun b => Fr 6836240 a5 b) (writeEntry a0 a1 a2 a3 a4 a5) := by
  unfold writeEntry
  extract_lets +onlyGivenNames x0
  extract_lets +onlyGivenNames x1
  extract_lets +onlyGivenNames x2
  have h2 : Fr 6836240 a5 x2 := by
    unfold x2
    refine Fr.call fr_useRecord rfl ?_
    exact Fr.refl _ _
  clear_value x2
  refine onOk_bind (fun b3 q3 => ?_)
  have h4 := fr_coreWrite _ (mapError_ok q3)
  refine onOk_bind (fun b5 q5 => ?_)
  have h6 := fr_coreWrite _ (mapError_ok q5)
  refine onOk_mapError ?_
  refine onOk_call fr_coreWrite rfl ?_
  refine Fr.call h6 rfl ?_
  refine Fr.call h4 rfl ?_
  exact h2

theorem fr_writeRun {a0 a1 a2 a3 a4 a5 a6 a7 a8} :
    onOk (fun b : Sys2Proof.Machine.StripOut => Fr 6836496 a8.s b.s) (writeRun a0 a1 a2 a3 a4 a5 a6 a7 a8) := by
  unfold writeRun
  split
  · rename_i i0 i1 i2 i3
    extract_lets +onlyGivenNames x4
    extract_lets +onlyGivenNames x5
    refine onOk_bind (fun b6 q6 => ?_)
    have h7 := fr_coreWrite _ (mapError_ok q6)
    extract_lets +onlyGivenNames x8
    extract_lets +onlyGivenNames x9
    extract_lets +onlyGivenNames x10
    refine onOk_ite (fun c11 => ?_) (fun c11 => ?_)
    · refine onOk_bind (fun b12 q12 => ?_)
      have h13 := fr_coreWrite _ (mapError_ok q12)
      unfold x10
      extract_lets +onlyGivenNames x14
      have h14 : Fr 6836496 a8.s x14 := by
        unfold x14
        refine Fr.call fr_countRun rfl ?_
        refine Fr.call h13 rfl ?_
        refine Fr.call fr_useWrite rfl ?_
        refine Fr.call h7 rfl ?_
        refine Fr.call fr_useWrite rfl ?_
        exact Fr.refl _ _
      clear_value x14
      refine onOk_ite (fun c15 => ?_) (fun c15 => ?_)
      · split
        · rename_i i16 i17 i18 i19 i20
          refine onOk_ok ?_
          exact h14
      · refine onOk_ok ?_
        exact h14
    · refine onOk_bind (fun b21 q21 => ?_)
      unfold x10
      extract_lets +onlyGivenNames x22
      have h22 : Fr 6836496 a8.s x22 := by
        unfold x22
        refine Fr.call fr_countRun rfl ?_
        refine onOk_elim q21 ?_
        refine onOk_ok ?_
        refine Fr.call h7 rfl ?_
        refine Fr.call fr_useWrite rfl ?_
        exact Fr.refl _ _
      clear_value x22
      refine onOk_ite (fun c23 => ?_) (fun c23 => ?_)
      · split
        · rename_i i24 i25 i26 i27 i28
          refine onOk_ok ?_
          exact h22
      · refine onOk_ok ?_
        exact h22

theorem fr_writeOuts {a0 a1 a2 a3 a4 a5 a6 a7 a8} :
    onOk (fun b : Sys2Proof.Machine.StripOut => Fr 6836496 a8.s b.s) (writeOuts a0 a1 a2 a3 a4 a5 a6 a7 a8) := by
  fun_induction writeOuts
  · rename_i i0 i1
    refine onOk_ok ?_
    exact Fr.refl _ _
  · rename_i i2 i3 i4 i5 i6 i7 i8
    refine onOk_bind (fun b9 q9 => ?_)
    unfold i6
    refine onOk_call (i8 _) rfl ?_
    refine onOk_elimP (π := StripOut.s) q9 ?_
    refine onOk_ite (fun c10 => ?_) (fun c10 => ?_)
    · refine onOk_bind (fun b11 q11 => ?_)
      have h12 := fr_writeEntry _ q11
      refine onOk_ok ?_
      refine Fr.call h12 rfl ?_
      exact Fr.refl _ _
    · refine onOk_ok ?_
      exact Fr.refl _ _
  · rename_i i13 i14 i15 i16 i17 i18 i19 i20 i21
    refine onOk_bind (fun b22 q22 => ?_)
    unfold i18
    refine onOk_call (i21 _) rfl ?_
    refine onOk_elimP (π := StripOut.s) q22 ?_
    refine onOk_ite (fun c23 => ?_) (fun c23 => ?_)
    · refine onOk_call fr_writeRun rfl ?_
      exact Fr.refl _ _
    · refine onOk_ok ?_
      exact Fr.refl _ _
  · rename_i i24 i25 i26 i27 i28 i29 i30 i31 i32
    refine onOk_bind (fun b33 q33 => ?_)
    have h34 := fr_writeRun _ q33
    unfold i29
    refine onOk_call (i32 _) rfl ?_
    refine Fr.call h34 rfl ?_
    exact Fr.refl _ _

theorem fr_runStrip {a0 a1 a2 a3} :
    onOk (fun b : Sys2Proof.Machine.StripDone => Fr 16273688 a0 b.s) (runStrip a0 a1 a2 a3) := by
  unfold runStrip
  extract_lets +onlyGivenNames x0
  extract_lets +onlyGivenNames x1
  extract_lets +onlyGivenNames x2
  refine onOk_bind (fun b3 q3 => ?_)
  refine onOk_bind (fun b4 q4 => ?_)
  extract_lets +onlyGivenNames x5
  have h5 : Fr 16273688 a0 x5 := by
    unfold x5
    refine Fr.call fr_touchStreams rfl ?_
    exact Fr.refl _ _
  clear_value x5
  extract_lets +onlyGivenNames x6
  have h6 : Fr 16273688 a0 x6 := by
    unfold x6
    refine fr_ite (fun c7 => ?_) (fun c7 => ?_)
    · refine Fr.call fr_useRecord rfl ?_
      exact h5
    · exact h5
  clear_value x6
  extract_lets +onlyGivenNames x8
  extract_lets +onlyGivenNames x9
  extract_lets +onlyGivenNames x10
  have h10 : Fr 16273688 a0 x10 := by
    unfold x10
    refine Fr.call fr_placeStrip rfl ?_
    exact h6
  clear_value x10
  refine onOk_bind (fun b11 q11 => ?_)
  have h12 := fr_writeOuts _ q11
  extract_lets +onlyGivenNames x13
  refine onOk_ok ?_
  extract_lets +onlyGivenNames x14
  have h14 : Fr 16273688 a0 x14 := by
    unfold x14
    refine Fr.call h12 rfl ?_
    exact h10
  clear_value x14
  refine Fr.lit ?_
  exact h14

theorem fr_failUnit {a0 a1 a2 a3 a4 a5} :
    Fr 585844 a0 (failUnit a0 a1 a2 a3 a4 a5) := by
  unfold failUnit
  refine fr_ite (fun c0 => ?_) (fun c0 => ?_)
  · refine Fr.call fr_endFailing rfl ?_
    refine Fr.call fr_countUe rfl ?_
    exact Fr.refl _ _
  · extract_lets +onlyGivenNames x1
    have h1 : Fr 585844 a0 x1 := by
      unfold x1
      refine Fr.call fr_failTask rfl ?_
      exact Fr.refl _ _
    clear_value x1
    extract_lets +onlyGivenNames x2
    refine fr_ite (fun c3 => ?_) (fun c3 => ?_)
    · exact h1
    · refine Fr.call fr_putTask rfl ?_
      exact h1

theorem fr_failOn {a0 a1 a2 a3} :
    Fr 585844 a0 (failOn a0 a1 a2 a3) := by
  unfold failOn
  refine fr_ite (fun c0 => ?_) (fun c0 => ?_)
  · exact Fr.refl _ _
  · refine Fr.call fr_failUnit rfl ?_
    exact Fr.refl _ _

theorem fr_writePlane {k : Nat} {z s : State} {wr : State → Nat → Bytes → Except Fail State} {m : Nat} {o : Opd} {plane tau : Nat}
    {blocks : List ResEntry} (hs : Fr k z s) (h : ∀ v a b, onOk (fun b => Fr k v b) (wr v a b)) :
    onOk (fun b : State × Nat × Nat => Fr k z b.1) (writePlane wr s m o plane tau blocks) := by
  unfold writePlane
  refine onOk_bind (fun _ _ => ?_)
  refine onOk_bind (fun s1 q1 => ?_)
  have h1 := hs.trans (h _ _ _ _ (mapError_ok q1))
  refine onOk_bind (fun s2 q2 => ?_)
  have h2 := h1.trans (h _ _ _ _ (mapError_ok q2))
  refine onOk_bind (fun s3 q3 => ?_)
  have h3 := h2.trans (h _ _ _ _ (mapError_ok q3))
  refine onOk_bind (fun s4 q4 => ?_)
  exact onOk_ok (h3.trans (h _ _ _ _ (mapError_ok q4)))

theorem fr_finishChain {a0 a1 a2} :
    onOk (fun b => Fr 6836272 a0 b) (finishChain a0 a1 a2) := by
  unfold finishChain
  extract_lets +onlyGivenNames x0
  extract_lets +onlyGivenNames x1
  split
  · rename_i i2 i3 i4
    refine onOk_ok ?_
    refine Fr.call fr_putTask rfl ?_
    exact Fr.refl _ _
  · rename_i i5 i6 i7 i8 i9
    refine onOk_bind (fun b10 q10 => ?_)
    split
    · rename_i i12 i13 i14 i15
      refine onOk_ok ?_
      refine Fr.call fr_putTask rfl ?_
      refine Fr.call fr_countFmt rfl ?_
      refine onOk_elim1 q10 ?_
      refine fr_writePlane ?_ (fun v16 a16 b16 => ?_)
      · exact Fr.refl _ _
      · refine onOk_call fr_coreWrite rfl ?_
        refine Fr.call fr_useWrite rfl ?_
        exact Fr.refl _ _
  · rename_i i17 i18 i19 i20
    refine onOk_ok ?_
    refine Fr.call fr_putTask rfl ?_
    exact Fr.refl _ _

theorem fr_execChainStripDone {a0 a1 a2 a3 a4} :
    onNext (fun b => Fr 16314748 a4 b) (execChainStripDone a0 a1 a2 a3 a4) := by
  unfold execChainStripDone
  split
  · rename_i i0 i1
    refine onNext_next ?_
    exact Fr.refl _ _
  · rename_i i2 i3 i4
    split
    · rename_i i5 i6 i7 i8 i9 i10
      refine onNext_ite (fun c11 => ?_) (fun c11 => ?_)
      · refine onNext_next ?_
        exact Fr.refl _ _
      · split
        · rename_i i12 i13 i14
          refine onNext_next ?_
          refine Fr.call fr_offerCores rfl ?_
          refine fr_ite (fun c16 => ?_) (fun c16 => ?_)
          · exact Fr.refl _ _
          · refine Fr.call fr_cometClose rfl ?_
            refine Fr.call fr_failOn rfl ?_
            exact Fr.refl _ _
        · rename_i i17 i18 i19
          have h20 := fr_runStrip _ i19
          refine onNext_ite (fun c21 => ?_) (fun c21 => ?_)
          · refine onNext_next ?_
            refine Fr.call fr_putTask rfl ?_
            refine Fr.call h20 rfl ?_
            exact Fr.refl _ _
          · extract_lets +onlyGivenNames x22
            extract_lets +onlyGivenNames x23
            refine onNext_ite (fun c24 => ?_) (fun c24 => ?_)
            · refine onNext_next ?_
              refine Fr.call fr_offerCores rfl ?_
              refine Fr.call fr_endFailing rfl ?_
              refine Fr.call h20 rfl ?_
              exact Fr.refl _ _
            · refine onNext_ite (fun c25 => ?_) (fun c25 => ?_)
              · refine onNext_next ?_
                refine Fr.call fr_offerCores rfl ?_
                refine Fr.call fr_putTask rfl ?_
                refine Fr.call h20 rfl ?_
                exact Fr.refl _ _
              · split
                · rename_i i26 i27 i28
                  refine onNext_next ?_
                  refine Fr.call fr_offerCores rfl ?_
                  refine Fr.call fr_cometClose rfl ?_
                  refine fr_failWith rfl ?_ ?_
                  · refine Fr.call h20 rfl ?_
                    exact Fr.refl _ _
                  · refine Fr.call h20 rfl ?_
                    exact Fr.refl _ _
                · rename_i i30 i31 i32
                  have h33 := fr_finishChain _ i32
                  refine onNext_next ?_
                  refine Fr.call fr_offerCores rfl ?_
                  refine Fr.call fr_cometClose rfl ?_
                  refine Fr.call h33 rfl ?_
                  refine Fr.call h20 rfl ?_
                  exact Fr.refl _ _
    · rename_i i34 i35 i36
      refine onNext_next ?_
      exact Fr.refl _ _

theorem fr_resend {a0 a1} :
    Fr 524288 a0 (resend a0 a1) := by
  unfold resend
  refine fr_foldl ?_ (fun v0 y0 h0 => ?_)
  · exact Fr.refl _ _
  · refine Fr.call fr_emit rfl ?_
    exact h0

theorem fr_retryPort {a0 a1} :
    Fr 553984 a0 (retryPort a0 a1) := by
  unfold retryPort
  extract_lets +onlyGivenNames x0
  extract_lets +onlyGivenNames x1
  extract_lets +onlyGivenNames x2
  extract_lets +onlyGivenNames x3
  extract_lets +onlyGivenNames x4
  have h4 : Fr 553984 a0 x4 := by
    unfold x4
    refine Fr.call fr_incB rfl ?_
    refine Fr.call fr_setPort rfl ?_
    exact Fr.refl _ _
  clear_value x4
  extract_lets +onlyGivenNames x5
  have h5 : Fr 553984 a0 x5 := by
    unfold x5
    refine Fr.call fr_resend rfl ?_
    exact h4
  clear_value x5
  refine fr_ite (fun c6 => ?_) (fun c6 => ?_)
  · refine Fr.call fr_startRetrain rfl ?_
    exact h5
  · exact h5

theorem fr_flushPort {a0 a1} :
    Fr 525312 a0 (flushPort a0 a1) := by
  unfold flushPort
  refine Fr.call fr_drainPort rfl ?_
  exact Fr.refl _ _

theorem fr_takeControl {a0 a1 a2} :
    Fr 553984 a0 (takeControl a0 a1 a2) := by
  unfold takeControl
  extract_lets +onlyGivenNames x0
  extract_lets +onlyGivenNames x1
  extract_lets +onlyGivenNames x2
  have h2 : Fr 553984 a0 x2 := by
    unfold x2
    refine Fr.call fr_setPort rfl ?_
    exact Fr.refl _ _
  clear_value x2
  refine fr_ite (fun c3 => ?_) (fun c3 => ?_)
  · refine Fr.call fr_retryPort rfl ?_
    exact h2
  · refine Fr.call fr_flushPort rfl ?_
    exact h2

theorem fr_takeFlit {a0 a1 a2} :
    Fr 553984 a0 (takeFlit a0 a1 a2).1 := by
  unfold takeFlit
  extract_lets +onlyGivenNames x0
  split
  · rename_i i1
    refine fr_fst ?_
    exact Fr.refl _ _
  · rename_i i2
    extract_lets +onlyGivenNames x3
    have h3 : Fr 553984 a0 x3 := by
      unfold x3
      refine Fr.call fr_countFec rfl ?_
      exact Fr.refl _ _
    clear_value x3
    split
    · rename_i i4
      refine fr_fst ?_
      refine Fr.call fr_askRetry rfl ?_
      refine fr_ite (fun c5 => ?_) (fun c5 => ?_)
      · exact h3
      · refine Fr.call fr_incB rfl ?_
        exact h3
    · rename_i i6
      split
      · rename_i i7
        refine fr_fst ?_
        refine Fr.call fr_takeControl rfl ?_
        refine Fr.call fr_modPort rfl ?_
        exact h3
      · rename_i i8
        extract_lets +onlyGivenNames x9
        have h9 : Fr 553984 a0 x9 := by
          unfold x9
          refine Fr.call fr_takeControl rfl ?_
          exact h3
        clear_value x9
        refine fr_fst ?_
        refine fr_ite (fun c10 => ?_) (fun c10 => ?_)
        · exact h9
        · refine Fr.call fr_askRetry rfl ?_
          exact h9

theorem fr_passOn {a0 a1 a2 a3 a4} :
    Fr 525312 a0 (passOn a0 a1 a2 a3 a4) := by
  unfold passOn
  extract_lets +onlyGivenNames x0
  extract_lets +onlyGivenNames x1
  refine fr_ite (fun c2 => ?_) (fun c2 => ?_)
  · refine Fr.call fr_sendCredit rfl ?_
    refine Fr.call fr_sendSpent rfl ?_
    exact Fr.refl _ _
  · refine fr_ite (fun c3 => ?_) (fun c3 => ?_)
    · refine Fr.call fr_enqueue rfl ?_
      exact Fr.refl _ _
    · refine Fr.call fr_sendCredit rfl ?_
      exact Fr.refl _ _

theorem fr_routeNone {a0 a1 a2 a3} :
    Fr 525312 a0 (routeNone a0 a1 a2 a3) := by
  unfold routeNone
  refine Fr.call fr_sendBack rfl ?_
  exact Fr.refl _ _

theorem fr_transit {a0 a1 a2 a3} :
    Fr 525312 a0 (transit a0 a1 a2 a3) := by
  unfold transit
  extract_lets +onlyGivenNames x0
  extract_lets +onlyGivenNames x1
  extract_lets +onlyGivenNames x2
  refine fr_ite (fun c3 => ?_) (fun c3 => ?_)
  · extract_lets +onlyGivenNames x4
    clear_value x0
    split
    · rename_i i5 i6
      refine Fr.call fr_passOn rfl ?_
      unfold x2
      refine Fr.lit ?_
      exact Fr.refl _ _
    · rename_i i7
      refine Fr.call fr_routeNone rfl ?_
      unfold x1
      refine Fr.call fr_sendCredit rfl ?_
      unfold x2
      refine Fr.lit ?_
      exact Fr.refl _ _
  · refine fr_ite (fun c8 => ?_) (fun c8 => ?_)
    · split
      · rename_i i9 i10 i11
        refine Fr.call fr_passOn rfl ?_
        exact Fr.refl _ _
      · rename_i i12 i13
        unfold x1
        refine Fr.call fr_sendCredit rfl ?_
        exact Fr.refl _ _
    · clear_value x0
      split
      · rename_i i14 i15
        refine Fr.call fr_passOn rfl ?_
        exact Fr.refl _ _
      · rename_i i16
        refine Fr.call fr_routeNone rfl ?_
        unfold x1
        refine Fr.call fr_sendCredit rfl ?_
        exact Fr.refl _ _

theorem fr_setRx {a0 a1 a2 a3} :
    Fr 1024 a0 (setRx a0 a1 a2 a3) := by
  unfold setRx
  extract_lets +onlyGivenNames x0
  refine Fr.lit ?_
  exact Fr.refl _ _

theorem fr_execChunkHdr {a0 a1 a2 a3} :
    onNext (fun b => Fr 6878324 a3 b) (execChunkHdr a0 a1 a2 a3) := by
  unfold execChunkHdr
  split
  · rename_i i0 i1 i2 i3
    have h4 := fr_eq fr_takeFlit i3
    refine onNext_ite (fun c5 => ?_) (fun c5 => ?_)
    · refine onNext_next ?_
      refine Fr.call h4 rfl ?_
      exact Fr.refl _ _
    · refine onNext_ite (fun c6 => ?_) (fun c6 => ?_)
      · refine onNext_next ?_
        refine Fr.call fr_transit rfl ?_
        refine Fr.call h4 rfl ?_
        exact Fr.refl _ _
      · split
        · rename_i i7 i8 i9 i10 i11
          split
          · rename_i i12 i13 i14
            extract_lets +onlyGivenNames x15
            have h15 : Fr 6878324 a3 x15 := by
              unfold x15
              refine Fr.call fr_refuseChunk rfl ?_
              refine Fr.call h4 rfl ?_
              exact Fr.refl _ _
            clear_value x15
            refine onNext_next ?_
            refine Fr.call fr_sendCredit rfl ?_
            refine Fr.call fr_setRx rfl ?_
            exact h15
          · rename_i i16 i17
            refine onNext_ite (fun c18 => ?_) (fun c18 => ?_)
            · refine onNext_next ?_
              refine Fr.call fr_arriveChunk rfl ?_
              refine Fr.call fr_setRx rfl ?_
              refine Fr.call h4 rfl ?_
              exact Fr.refl _ _
            · extract_lets +onlyGivenNames x19
              have h19 : Fr 6878324 a3 x19 := by
                unfold x19
                refine Fr.call fr_setRx rfl ?_
                refine Fr.call h4 rfl ?_
                exact Fr.refl _ _
              clear_value x19
              refine onNext_next ?_
              refine fr_ite (fun c20 => ?_) (fun c20 => ?_)
              · exact h19
              · refine Fr.call fr_drawPool rfl ?_
                exact h19

theorem fr_execCometRead {a0 a1 a2} :
    onNext (fun b => Fr 544784 a2 b) (execCometRead a0 a1 a2) := by
  unfold execCometRead
  split
  · rename_i i0 i1 i2
    refine onNext_ite (fun c3 => ?_) (fun c3 => ?_)
    · refine onNext_next ?_
      exact Fr.refl _ _
    · refine onNext_next ?_
      refine Fr.call fr_cometStep rfl ?_
      exact Fr.refl _ _
  · rename_i i4 i5
    refine onNext_next ?_
    exact Fr.refl _ _

theorem fr_execCommit {a0 a1 a2} :
    onNext (fun b => Fr 651264 a2 b) (execCommit a0 a1 a2) := by
  unfold execCommit
  refine fr_command rfl (fun v0 => ?_)
  refine onOk_call fr_fwCmd rfl ?_
  exact Fr.refl _ _

theorem fr_execCompactAt {a0} :
    onNext (fun b => Fr 569348 a0 b) (execCompactAt a0) := by
  unfold execCompactAt
  extract_lets +onlyGivenNames x0
  refine onNext_ite (fun c1 => ?_) (fun c1 => ?_)
  · refine onNext_next ?_
    refine Fr.call fr_startCompaction rfl ?_
    refine Fr.call fr_setParamJ rfl ?_
    exact Fr.refl _ _
  · refine onNext_next ?_
    exact Fr.refl _ _

theorem fr_execCompactNow {a0 a1} :
    onNext (fun b => Fr 585732 a1 b) (execCompactNow a0 a1) := by
  unfold execCompactNow
  refine fr_command rfl (fun v0 => ?_)
  refine onOk_call fr_journalCmd rfl ?_
  exact Fr.refl _ _

theorem fr_execCompactionDone {a0} :
    onNext (fun b => Fr 569408 a0 b) (execCompactionDone a0) := by
  unfold execCompactionDone
  extract_lets +onlyGivenNames x0
  refine onNext_ite (fun c1 => ?_) (fun c1 => ?_)
  · refine onNext_next ?_
    exact Fr.refl _ _
  · extract_lets +onlyGivenNames x2
    extract_lets +onlyGivenNames x3
    extract_lets +onlyGivenNames x4
    extract_lets +onlyGivenNames x5
    extract_lets +onlyGivenNames x6
    extract_lets +onlyGivenNames x7
    extract_lets +onlyGivenNames x8
    extract_lets +onlyGivenNames x9
    have h9 : Fr 569408 a0 x9 := by
      unfold x9
      refine Fr.call fr_modJournal rfl ?_
      refine Fr.call fr_incA rfl ?_
      exact Fr.refl _ _
    clear_value x9
    refine onNext_next ?_
    refine Fr.call fr_raisePf rfl ?_
    refine Fr.call fr_dropExpired rfl ?_
    refine Fr.call fr_incA rfl ?_
    exact h9

theorem fr_writeRecord {a0 a1} :
    onOk (fun b : (Sys2Proof.Machine.State × Bool) => Fr 6291504 a0 b.1) (writeRecord a0 a1) := by
  unfold writeRecord
  extract_lets +onlyGivenNames x0
  extract_lets +onlyGivenNames x1
  split
  · rename_i i2 i3 i4
    have h5 := fr_writeMa _ i4
    refine onOk_ok ?_
    refine fr_fst ?_
    refine Fr.call h5 rfl ?_
    exact Fr.refl _ _
  · rename_i i6 i7 i8
    refine onOk_ite (fun c10 => ?_) (fun c10 => ?_)
    · exact onOk_error
    · extract_lets +onlyGivenNames x11
      have h11 : Fr 6291504 a0 x11 := by
        unfold x11
        refine Fr.call fr_setRing rfl ?_
        exact Fr.refl _ _
      clear_value x11
      refine onOk_ok ?_
      refine fr_fst ?_
      refine fr_ite (fun c12 => ?_) (fun c12 => ?_)
      · exact h11
      · refine Fr.call fr_haltRing rfl ?_
        exact h11

theorem fr_execCompletionRecordAck {a0 a1 a2 a3} :
    onNext (fun b => Fr 6819888 a3 b) (execCompletionRecordAck a0 a1 a2 a3) := by
  unfold execCompletionRecordAck
  split
  · rename_i i0 i1
    refine onNext_next ?_
    exact Fr.refl _ _
  · rename_i i2 i3 i4
    refine onNext_ite (fun c5 => ?_) (fun c5 => ?_)
    · refine onNext_next ?_
      exact Fr.refl _ _
    · split
      · rename_i i6 i7 i8
        refine onNext_next ?_
        exact Fr.refl _ _
      · rename_i i10 i11 i12 i13
        have h14 := fr_writeRecord _ i13
        extract_lets +onlyGivenNames x15
        extract_lets +onlyGivenNames x16
        have h16 : Fr 6819888 a3 x16 := by
          unfold x16
          refine Fr.call fr_advanceHead rfl ?_
          refine Fr.call fr_putTask rfl ?_
          refine Fr.call h14 rfl ?_
          exact Fr.refl _ _
        clear_value x16
        extract_lets +onlyGivenNames x17
        have h17 : Fr 6819888 a3 x17 := by
          unfold x17
          refine fr_ite (fun c18 => ?_) (fun c18 => ?_)
          · refine Fr.call fr_ringVector rfl ?_
            exact h16
          · exact h16
        clear_value x17
        extract_lets +onlyGivenNames x19
        have h19 : Fr 6819888 a3 x19 := by
          unfold x19
          refine fr_ite (fun c20 => ?_) (fun c20 => ?_)
          · refine Fr.call fr_ringVector rfl ?_
            exact h17
          · exact h17
        clear_value x19
        refine onNext_next ?_
        refine Fr.call fr_drainEnd rfl ?_
        exact h19

theorem fr_execControl {a0 a1 a2 a3 a4} :
    onNext (fun b => Fr 66846718 a4 b) (execControl a0 a1 a2 a3 a4) := by
  unfold execControl
  split
  · rename_i i0 i1 i2 i3
    have h4 := fr_eq fr_takeFlit i3
    refine onNext_ite (fun c5 => ?_) (fun c5 => ?_)
    · refine onNext_next ?_
      refine Fr.call h4 rfl ?_
      exact Fr.refl _ _
    · refine onNext_ite (fun c6 => ?_) (fun c6 => ?_)
      · refine onNext_next ?_
        refine Fr.call fr_transit rfl ?_
        refine Fr.call h4 rfl ?_
        exact Fr.refl _ _
      · refine onNext_next ?_
        refine Fr.call fr_controlFor rfl ?_
        refine Fr.call fr_sendCredit rfl ?_
        refine Fr.call h4 rfl ?_
        exact Fr.refl _ _

theorem fr_execCoolantRead {a0 a1 a2} :
    onNext (fun b => Fr 66846716 a2 b) (execCoolantRead a0 a1 a2) := by
  unfold execCoolantRead
  refine onNext_ite (fun c0 => ?_) (fun c0 => ?_)
  · refine onNext_next ?_
    exact Fr.refl _ _
  · split
    · rename_i i1 i2 i3 i4 i5
      refine onNext_next ?_
      refine fr_ite (fun c6 => ?_) (fun c6 => ?_)
      · refine Fr.call fr_readCoolant rfl ?_
        exact Fr.refl _ _
      · refine Fr.call fr_bootCoolant rfl ?_
        exact Fr.refl _ _
    · rename_i i7 i8 i9
      refine onNext_next ?_
      refine Fr.call fr_readCoolant rfl ?_
      exact Fr.refl _ _

theorem fr_killCore {a0 a1} :
    Fr 585844 a0 (killCore a0 a1) := by
  unfold killCore
  split
  · rename_i i0 i1
    exact Fr.refl _ _
  · rename_i i2 i3 i4
    split
    · rename_i i5 i6
      exact Fr.refl _ _
    · rename_i i7 i8 i9
      refine fr_foldl ?_ (fun v10 y10 h10 => ?_)
      · exact Fr.refl _ _
      · refine Fr.call fr_cometClose rfl ?_
        refine Fr.call fr_failUnit rfl ?_
        exact h10

theorem fr_markSubst {a0 a1} :
    Fr 32 a0 (markSubst a0 a1) := by
  unfold markSubst
  split
  · rename_i i0 i1
    exact Fr.refl _ _
  · rename_i i2 i3 i4
    split
    · rename_i i5 i6
      exact Fr.refl _ _
    · rename_i i7 i8 i9
      refine Fr.lit ?_
      exact Fr.refl _ _

theorem fr_execCoreHangTimeout {a0 a1 a2} :
    onNext (fun b => Fr 48820348 a2 b) (execCoreHangTimeout a0 a1 a2) := by
  unfold execCoreHangTimeout
  extract_lets +onlyGivenNames x0
  refine onNext_ite (fun c1 => ?_) (fun c1 => ?_)
  · extract_lets +onlyGivenNames x2
    have h2 : Fr 48820348 a2 x2 := by
      unfold x2
      refine Fr.call fr_killCore rfl ?_
      exact Fr.refl _ _
    clear_value x2
    extract_lets +onlyGivenNames x3
    have h3 : Fr 48820348 a2 x3 := by
      unfold x3
      refine fr_ite (fun c4 => ?_) (fun c4 => ?_)
      · exact h2
      · refine Fr.call fr_declareFail rfl ?_
        exact h2
    clear_value x3
    refine onNext_next ?_
    refine fr_ite (fun c5 => ?_) (fun c5 => ?_)
    · refine Fr.call fr_markSubst rfl ?_
      exact h3
    · exact h3
  · refine onNext_next ?_
    exact Fr.refl _ _

theorem fr_snapCounters {a0} :
    Fr 569344 a0 (snapCounters a0) := by
  unfold snapCounters
  extract_lets +onlyGivenNames x0
  refine fr_foldl ?_ (fun v1 y1 h1 => ?_)
  · exact Fr.refl _ _
  · refine fr_ite (fun c2 => ?_) (fun c2 => ?_)
    · exact h1
    · refine Fr.call fr_jAppend rfl ?_
      exact h1

theorem fr_execCounters {a0} :
    onNext (fun b => Fr 569344 a0 b) (execCounters a0) := by
  unfold execCounters
  refine onNext_ite (fun c0 => ?_) (fun c0 => ?_)
  · refine onNext_next ?_
    refine Fr.call fr_snapCounters rfl ?_
    refine Fr.lit ?_
    exact Fr.refl _ _
  · refine onNext_next ?_
    exact Fr.refl _ _

theorem fr_execCreate {a0 a1 a2 a3} :
    onNext (fun b => Fr 16449532 a3 b) (execCreate a0 a1 a2 a3) := by
  unfold execCreate
  refine fr_command rfl (fun v0 => ?_)
  refine onOk_call fr_moonWrite rfl ?_
  exact Fr.refl _ _

theorem fr_returnOwed {a0 a1} :
    Fr 525312 a0 (returnOwed a0 a1) := by
  unfold returnOwed
  refine fr_ite (fun c0 => ?_) (fun c0 => ?_)
  · refine Fr.call fr_sendCredit rfl ?_
    exact Fr.refl _ _
  · exact Fr.refl _ _

theorem fr_execCredit {a0 a1 a2 a3} :
    onNext (fun b => Fr 553984 a3 b) (execCredit a0 a1 a2 a3) := by
  unfold execCredit
  split
  · rename_i i0 i1 i2 i3
    have h4 := fr_eq fr_takeFlit i3
    refine onNext_ite (fun c5 => ?_) (fun c5 => ?_)
    · refine onNext_next ?_
      exact h4
    · refine onNext_next ?_
      refine Fr.call fr_returnOwed rfl ?_
      refine Fr.call fr_flushPort rfl ?_
      refine Fr.call fr_modPort rfl ?_
      exact h4

theorem fr_execCreditSync {a0 a1 a2 a3 a4} :
    onNext (fun b => Fr 553984 a4 b) (execCreditSync a0 a1 a2 a3 a4) := by
  unfold execCreditSync
  split
  · rename_i i0 i1 i2 i3
    have h4 := fr_eq fr_takeFlit i3
    refine onNext_ite (fun c5 => ?_) (fun c5 => ?_)
    · refine onNext_next ?_
      exact h4
    · refine onNext_next ?_
      refine Fr.call fr_flushPort rfl ?_
      refine Fr.call fr_modPort rfl ?_
      exact h4

theorem fr_execData {a0 a1 a2} :
    onNext (fun b => Fr 6878324 a2 b) (execData a0 a1 a2) := by
  unfold execData
  split
  · rename_i i0 i1 i2 i3
    have h4 := fr_eq fr_takeFlit i3
    refine onNext_ite (fun c5 => ?_) (fun c5 => ?_)
    · refine onNext_next ?_
      refine Fr.call h4 rfl ?_
      exact Fr.refl _ _
    · refine onNext_ite (fun c6 => ?_) (fun c6 => ?_)
      · refine onNext_next ?_
        refine Fr.call fr_transit rfl ?_
        refine Fr.call h4 rfl ?_
        exact Fr.refl _ _
      · split
        · rename_i i7 i8 i9 i10 i11
          split
          · rename_i i12 i13
            refine onNext_next ?_
            refine Fr.call fr_sendCredit rfl ?_
            refine Fr.call h4 rfl ?_
            exact Fr.refl _ _
          · rename_i i14 i15 i16
            extract_lets +onlyGivenNames x17
            extract_lets +onlyGivenNames x18
            refine onNext_ite (fun c19 => ?_) (fun c19 => ?_)
            · refine onNext_next ?_
              refine Fr.call fr_sendCredit rfl ?_
              refine Fr.call fr_setRx rfl ?_
              refine Fr.call h4 rfl ?_
              exact Fr.refl _ _
            · refine onNext_ite (fun c20 => ?_) (fun c20 => ?_)
              · refine onNext_next ?_
                refine Fr.call fr_setRx rfl ?_
                refine Fr.call h4 rfl ?_
                exact Fr.refl _ _
              · refine onNext_next ?_
                refine Fr.call fr_arriveChunk rfl ?_
                refine Fr.call fr_setRx rfl ?_
                refine Fr.call h4 rfl ?_
                exact Fr.refl _ _

theorem fr_execDbgChallenge {a0} :
    onNext (fun b => Fr 1441792 a0 b) (execDbgChallenge a0) := by
  unfold execDbgChallenge
  extract_lets +onlyGivenNames x0
  refine onNext_ite (fun c1 => ?_) (fun c1 => ?_)
  · refine onNext_next ?_
    exact Fr.refl _ _
  · split
    · rename_i i2 i3 i4 i5
      have h6 := fr_eq fr_freshBytes i5
      refine onNext_next ?_
      extract_lets +onlyGivenNames x7
      have h7 : Fr 1441792 a0 x7 := by
        unfold x7
        refine fr_modSec ?_ rfl ?_
        · exact List.prefix_refl _
        · refine Fr.call h6 rfl ?_
          exact Fr.refl _ _
      clear_value x7
      refine Fr.lit ?_
      exact h7

theorem fr_execDbgResponse {a0 a1} :
    onNext (fun b => Fr 659456 a1 b) (execDbgResponse a0 a1) := by
  unfold execDbgResponse
  split
  · rename_i i0 i1
    refine onNext_next ?_
    exact Fr.refl _ _
  · rename_i i2 i3 i4
    refine onNext_ite (fun c5 => ?_) (fun c5 => ?_)
    · refine onNext_next ?_
      exact Fr.refl _ _
    · extract_lets +onlyGivenNames x6
      have h6 : Fr 659456 a1 x6 := by
        unfold x6
        refine fr_modSec ?_ rfl ?_
        · exact List.prefix_refl _
        · exact Fr.refl _ _
      clear_value x6
      extract_lets +onlyGivenNames x7
      extract_lets +onlyGivenNames x8
      extract_lets +onlyGivenNames x9
      refine onNext_ite (fun c10 => ?_) (fun c10 => ?_)
      · extract_lets +onlyGivenNames x11
        have h11 : Fr 659456 a1 x11 := by
          unfold x11
          refine fr_modSec ?_ rfl ?_
          · exact List.prefix_refl _
          · exact h6
        clear_value x11
        extract_lets +onlyGivenNames x12
        have h12 : Fr 659456 a1 x12 := by
          unfold x12
          refine fr_ite (fun c13 => ?_) (fun c13 => ?_)
          · refine Fr.call fr_endSessions rfl ?_
            refine fr_modSec ?_ rfl ?_
            · exact List.prefix_refl _
            · exact h11
          · exact h11
        clear_value x12
        refine onNext_next ?_
        refine Fr.call fr_raiseServed rfl ?_
        exact h12
      · refine onNext_next ?_
        refine fr_modSec ?_ rfl ?_
        · exact List.prefix_refl _
        · exact h6

theorem fr_execDelayReq {a0 a1 a2} :
    onNext (fun b => Fr 525312 a2 b) (execDelayReq a0 a1 a2) := by
  unfold execDelayReq
  extract_lets +onlyGivenNames x0
  refine onNext_ite (fun c1 => ?_) (fun c1 => ?_)
  · refine onNext_next ?_
    exact Fr.refl _ _
  · refine onNext_next ?_
    refine Fr.call fr_sendOn rfl ?_
    exact Fr.refl _ _

theorem fr_execDelayReqSend {a0} :
    onNext (fun b => Fr 525314 a0 b) (execDelayReqSend a0) := by
  unfold execDelayReqSend
  refine onNext_ite (fun c0 => ?_) (fun c0 => ?_)
  · refine onNext_next ?_
    exact Fr.refl _ _
  · extract_lets +onlyGivenNames x1
    have h1 : Fr 525314 a0 x1 := by
      unfold x1
      refine Fr.call fr_modOrbit rfl ?_
      exact Fr.refl _ _
    clear_value x1
    extract_lets +onlyGivenNames x2
    refine onNext_next ?_
    refine fr_foldl ?_ (fun v3 y3 h3 => ?_)
    · exact h1
    · refine Fr.call fr_sendOn rfl ?_
      exact h3

theorem fr_execDelayResp {a0 a1 a2 a3 a4 a5} :
    onNext (fun b => Fr 8194 a5 b) (execDelayResp a0 a1 a2 a3 a4 a5) := by
  unfold execDelayResp
  refine onNext_ite (fun c0 => ?_) (fun c0 => ?_)
  · refine onNext_next ?_
    exact Fr.refl _ _
  · extract_lets +onlyGivenNames x1
    extract_lets +onlyGivenNames x2
    have h2 : Fr 8194 a5 x2 := by
      unfold x2
      refine Fr.call fr_modOrbit rfl ?_
      exact Fr.refl _ _
    clear_value x2
    refine onNext_next ?_
    refine fr_ite (fun c3 => ?_) (fun c3 => ?_)
    · refine Fr.call fr_setParam rfl ?_
      exact h2
    · exact h2

theorem fr_execDelivered {a0 a1 a2} :
    onNext (fun b => Fr 554096 a2 b) (execDelivered a0 a1 a2) := by
  unfold execDelivered
  split
  · rename_i i0 i1 i2 i3
    have h4 := fr_eq fr_takeFlit i3
    refine onNext_ite (fun c5 => ?_) (fun c5 => ?_)
    · refine onNext_next ?_
      refine Fr.call h4 rfl ?_
      exact Fr.refl _ _
    · refine onNext_ite (fun c6 => ?_) (fun c6 => ?_)
      · refine onNext_next ?_
        refine Fr.call fr_transit rfl ?_
        refine Fr.call h4 rfl ?_
        exact Fr.refl _ _
      · refine onNext_next ?_
        refine Fr.call fr_sendCredit rfl ?_
        refine Fr.call fr_txDelivered rfl ?_
        refine Fr.call h4 rfl ?_
        exact Fr.refl _ _

theorem fr_execDeriveDone {a0 a1 a2} :
    onNext (fun b => Fr 6836528 a2 b) (execDeriveDone a0 a1 a2) := by
  unfold execDeriveDone
  split
  · rename_i i0 i1 i2 i3 i4 i5
    refine onNext_ite (fun c6 => ?_) (fun c6 => ?_)
    · refine onNext_next ?_
      exact Fr.refl _ _
    · extract_lets +onlyGivenNames x7
      have h7 : Fr 6836528 a2 x7 := by
        unfold x7
        refine Fr.call fr_dropDerive rfl ?_
        exact Fr.refl _ _
      clear_value x7
      refine onNext_ite (fun c8 => ?_) (fun c8 => ?_)
      · refine fr_pipeRes rfl ?_ ?_
        · exact Fr.refl _ _
        · refine onOk_call fr_modTiles rfl ?_
          exact h7
      · extract_lets +onlyGivenNames x9
        split
        · rename_i i10 i11 i12
          refine onNext_ite (fun c14 => ?_) (fun c14 => ?_)
          · refine onNext_next ?_
            exact Fr.refl _ _
          · refine onNext_next ?_
            refine Fr.call fr_pipeHalt rfl ?_
            exact h7
        · rename_i i15 i16 i17
          have h18 := fr_modTiles _ i17
          refine onNext_next ?_
          refine fr_ite (fun c19 => ?_) (fun c19 => ?_)
          · refine Fr.call h18 rfl ?_
            exact h7
          · refine Fr.call fr_pipeHalt rfl ?_
            refine Fr.call h18 rfl ?_
            exact h7
  · rename_i i20 i21 i22
    refine onNext_next ?_
    exact Fr.refl _ _

theorem fr_serveItem {a0 a1 a2 a3 a4} :
    onNext (fun b => Fr 66846718 a0 b) (serveItem a0 a1 a2 a3 a4) := by
  unfold serveItem
  refine onNext_ite (fun c0 => ?_) (fun c0 => ?_)
  · refine onNext_next ?_
    exact Fr.refl _ _
  · refine onNext_next ?_
    refine Fr.call fr_takeRequest rfl ?_
    exact Fr.refl _ _

theorem fr_execDescribe {a0 a1 a2 a3} :
    onNext (fun b => Fr 66846718 a3 b) (execDescribe a0 a1 a2 a3) := by
  unfold execDescribe
  refine onNext_call fr_serveItem rfl ?_
  exact Fr.refl _ _

theorem fr_execDictStatRead {a0 a1} :
    onNext (fun b => Fr 552960 a1 b) (execDictStatRead a0 a1) := by
  unfold execDictStatRead
  refine fr_query rfl (fun v0 => ?_)
  refine onOk_call fr_readStat rfl ?_
  exact Fr.refl _ _

theorem fr_execDisable {a0 a1 a2} :
    onNext (fun b => Fr 553984 a2 b) (execDisable a0 a1 a2) := by
  unfold execDisable
  refine fr_command rfl (fun v0 => ?_)
  refine onOk_call fr_disablePort rfl ?_
  exact Fr.refl _ _

theorem fr_execDrain {a0 a1} :
    onNext (fun b => Fr 17330180 a1 b) (execDrain a0 a1) := by
  unfold execDrain
  refine fr_command rfl (fun v0 => ?_)
  refine onOk_call fr_powerCmd rfl ?_
  exact Fr.refl _ _

theorem fr_execDropShared {a0 a1 a2 a3} :
    onNext (fun b => Fr 2683604 a3 b) (execDropShared a0 a1 a2 a3) := by
  unfold execDropShared
  extract_lets +onlyGivenNames x0
  refine fr_command rfl (fun v1 => ?_)
  refine onOk_call fr_fetchCmd rfl ?_
  exact Fr.refl _ _

theorem fr_execEnable {a0 a1 a2} :
    onNext (fun b => Fr 553984 a2 b) (execEnable a0 a1 a2) := by
  unfold execEnable
  refine fr_command rfl (fun v0 => ?_)
  refine onOk_call fr_enablePort rfl ?_
  exact Fr.refl _ _

theorem fr_execEntropyTestFail {a0 a1} :
    onNext (fun b => Fr 33226748 a1 b) (execEntropyTestFail a0 a1) := by
  unfold execEntropyTestFail
  refine onNext_ite (fun c0 => ?_) (fun c0 => ?_)
  · refine onNext_next ?_
    exact Fr.refl _ _
  · extract_lets +onlyGivenNames x1
    extract_lets +onlyGivenNames x2
    have h2 : Fr 33226748 a1 x2 := by
      unfold x2
      refine Fr.lit ?_
      exact Fr.refl _ _
    clear_value x2
    extract_lets +onlyGivenNames x3
    have h3 : Fr 33226748 a1 x3 := by
      unfold x3
      refine Fr.call fr_raisePf rfl ?_
      refine Fr.call fr_incA rfl ?_
      exact h2
    clear_value x3
    refine onNext_ite (fun c4 => ?_) (fun c4 => ?_)
    · refine onNext_next ?_
      refine Fr.call fr_faultStop rfl ?_
      exact h3
    · refine onNext_next ?_
      exact h3

theorem fr_execErase {a0 a1 a2} :
    onNext (fun b => Fr 1732608 a2 b) (execErase a0 a1 a2) := by
  unfold execErase
  extract_lets +onlyGivenNames x0
  refine fr_command rfl (fun v1 => ?_)
  refine onOk_call fr_keyCmd rfl ?_
  exact Fr.refl _ _

theorem fr_flushHeld {a0 a1} :
    Fr 528384 a0 (flushHeld a0 a1) := by
  unfold flushHeld
  extract_lets +onlyGivenNames x0
  extract_lets +onlyGivenNames x1
  have h1 : Fr 528384 a0 x1 := by
    unfold x1
    refine Fr.call fr_modHost rfl ?_
    exact Fr.refl _ _
  clear_value x1
  refine fr_foldl ?_ (fun v2 y2 h2 => ?_)
  · exact h1
  · refine Fr.call fr_postEvent rfl ?_
    exact h2

theorem fr_execEvqCfg {a0 a1 a2} :
    onNext (fun b => Fr 528384 a2 b) (execEvqCfg a0 a1 a2) := by
  unfold execEvqCfg
  extract_lets +onlyGivenNames x0
  extract_lets +onlyGivenNames x1
  refine onNext_ite (fun c2 => ?_) (fun c2 => ?_)
  · refine onNext_next ?_
    exact Fr.refl _ _
  · refine onNext_ite (fun c3 => ?_) (fun c3 => ?_)
    · refine onNext_next ?_
      refine Fr.call fr_setFn rfl ?_
      exact Fr.refl _ _
    · extract_lets +onlyGivenNames x4
      refine onNext_ite (fun c5 => ?_) (fun c5 => ?_)
      · refine onNext_next ?_
        refine Fr.call fr_setFn rfl ?_
        exact Fr.refl _ _
      · refine onNext_ite (fun c6 => ?_) (fun c6 => ?_)
        · extract_lets +onlyGivenNames x7
          have h7 : Fr 528384 a2 x7 := by
            unfold x7
            refine Fr.call fr_setFn rfl ?_
            exact Fr.refl _ _
          clear_value x7
          refine onNext_next ?_
          refine fr_ite (fun c8 => ?_) (fun c8 => ?_)
          · refine Fr.call fr_flushHeld rfl ?_
            exact h7
          · exact h7
        · refine onNext_next ?_
          refine Fr.call fr_setFn rfl ?_
          exact Fr.refl _ _

theorem fr_execExpelIntervalElapsed {a0} :
    onNext (fun b => Fr 571392 a0 b) (execExpelIntervalElapsed a0) := by
  unfold execExpelIntervalElapsed
  refine fr_whenUp ?_ ?_
  · exact Fr.refl _ _
  · refine Fr.call fr_tryExpel rfl ?_
    exact Fr.refl _ _

theorem fr_execExtest {a0 a1} :
    onNext (fun b => Fr 262144 a1 b) (execExtest a0 a1) := by
  unfold execExtest
  refine onNext_ite (fun c0 => ?_) (fun c0 => ?_)
  · refine onNext_next ?_
    exact Fr.refl _ _
  · refine onNext_ite (fun c1 => ?_) (fun c1 => ?_)
    · refine onNext_next ?_
      refine Fr.call fr_modJtag rfl ?_
      exact Fr.refl _ _
    · refine onNext_next ?_
      refine Fr.call fr_modJtag rfl ?_
      exact Fr.refl _ _

theorem fr_execFetchCancel {a0 a1 a2 a3} :
    onNext (fun b => Fr 553472 a3 b) (execFetchCancel a0 a1 a2 a3) := by
  unfold execFetchCancel
  extract_lets +onlyGivenNames x0
  refine fr_command rfl (fun v1 => ?_)
  refine onOk_call fr_fetchCancelCmd rfl ?_
  exact Fr.refl _ _

theorem fr_openPages {a0 a1 a2 a3} :
    Fr 80 a0 (openPages a0 a1 a2 a3) := by
  unfold openPages
  refine fr_foldl ?_ (fun v0 y0 h0 => ?_)
  · exact Fr.refl _ _
  · split
    · rename_i i1 i2 i3
      refine Fr.call fr_setEntry rfl ?_
      exact h0
    · rename_i i4 i5
      exact h0

theorem fr_finishFetch {a0 a1 a2} :
    Fr 2667220 a0 (finishFetch a0 a1 a2) := by
  unfold finishFetch
  refine fr_ite (fun c0 => ?_) (fun c0 => ?_)
  · refine Fr.call fr_endFetch rfl ?_
    exact Fr.refl _ _
  · extract_lets +onlyGivenNames x1
    have h1 : Fr 2667220 a0 x1 := by
      unfold x1
      refine Fr.call fr_activate rfl ?_
      refine Fr.call fr_openPages rfl ?_
      exact Fr.refl _ _
    clear_value x1
    extract_lets +onlyGivenNames x2
    have h2 : Fr 2667220 a0 x2 := by
      unfold x2
      refine Fr.call fr_incA rfl ?_
      exact h1
    clear_value x2
    extract_lets +onlyGivenNames x3
    extract_lets +onlyGivenNames x4
    have h4 : Fr 2667220 a0 x4 := by
      unfold x4
      refine Fr.lit ?_
      exact h2
    clear_value x4
    refine Fr.call fr_fetchStatus rfl ?_
    exact h4

theorem fr_execFetchChunkDone {a0 a1 a2} :
    onNext (fun b => Fr 6861524 a2 b) (execFetchChunkDone a0 a1 a2) := by
  unfold execFetchChunkDone
  split
  · rename_i i0 i1
    refine onNext_next ?_
    exact Fr.refl _ _
  · rename_i i2 i3 i4
    refine onNext_ite (fun c5 => ?_) (fun c5 => ?_)
    · refine onNext_next ?_
      exact Fr.refl _ _
    · split
      · rename_i i6 i7 i8
        have h9 := fr_atChunkEdge _ i8
        refine onNext_next ?_
        refine Fr.call h9 rfl ?_
        exact Fr.refl _ _
      · rename_i i10 i11
        split
        · rename_i i13 i14
          refine onNext_next ?_
          exact Fr.refl _ _
        · rename_i i15 i16 i17
          extract_lets +onlyGivenNames x18
          extract_lets +onlyGivenNames x19
          extract_lets +onlyGivenNames x20
          extract_lets +onlyGivenNames x21
          extract_lets +onlyGivenNames x22
          have h22 : Fr 6861524 a2 x22 := by
            unfold x22
            refine Fr.lit ?_
            exact Fr.refl _ _
          clear_value x22
          extract_lets +onlyGivenNames x23
          refine onNext_ite (fun c24 => ?_) (fun c24 => ?_)
          · refine onNext_next ?_
            refine fr_ite (fun c25 => ?_) (fun c25 => ?_)
            · refine Fr.call fr_endFetch rfl ?_
              exact h22
            · refine Fr.call fr_modJob rfl ?_
              exact h22
          · extract_lets +onlyGivenNames x26
            have h26 : Fr 6861524 a2 x26 := by
              unfold x26
              refine fr_ite (fun c27 => ?_) (fun c27 => ?_)
              · exact h22
              · refine Fr.call fr_writeHomes rfl ?_
                exact h22
            clear_value x26
            extract_lets +onlyGivenNames x28
            extract_lets +onlyGivenNames x29
            have h29 : Fr 6861524 a2 x29 := by
              unfold x29
              refine Fr.call fr_setParam rfl ?_
              refine Fr.call fr_modJob rfl ?_
              exact h26
            clear_value x29
            refine onNext_ite (fun c30 => ?_) (fun c30 => ?_)
            · refine onNext_next ?_
              refine Fr.call fr_finishFetch rfl ?_
              exact h29
            · refine onNext_next ?_
              exact h29

theorem fr_fetchPages {a0 a1 a2 a3} :
    Fr 3715796 a0 (fetchPages a0 a1 a2 a3).2.1 := by
  unfold fetchPages
  extract_lets +onlyGivenNames x0
  extract_lets +onlyGivenNames x1
  extract_lets +onlyGivenNames x2
  extract_lets +onlyGivenNames x3
  have h3 : Fr 3715796 a0 x3 := by
    unfold x3
    refine Fr.call fr_evictFor rfl ?_
    exact Fr.refl _ _
  clear_value x3
  split
  · rename_i i4
    refine fr_mid ?_
    exact h3
  · rename_i i5
    split
    · rename_i i6
      refine fr_mid ?_
      exact h3
    · rename_i i7
      split
      · rename_i i8 i9 i10 i11
        have h12 := fr_eq fr_grantPages i11
        split
        · rename_i i13
          refine fr_mid ?_
          exact h3
        · rename_i i14
          refine fr_mid ?_
          refine Fr.call fr_enterPages rfl ?_
          refine Fr.call h12 rfl ?_
          exact h3

theorem fr_execFetchHeaderRead {a0 a1 a2 a3 a4} :
    onNext (fun b => Fr 3715796 a4 b) (execFetchHeaderRead a0 a1 a2 a3 a4) := by
  unfold execFetchHeaderRead
  split
  · rename_i i0 i1
    refine onNext_next ?_
    exact Fr.refl _ _
  · rename_i i2 i3 i4
    refine onNext_ite (fun c5 => ?_) (fun c5 => ?_)
    · refine onNext_next ?_
      exact Fr.refl _ _
    · split
      · rename_i i6 i7 i8
        have h9 := fr_atChunkEdge _ i8
        refine onNext_next ?_
        refine Fr.call h9 rfl ?_
        exact Fr.refl _ _
      · rename_i i10 i11
        split
        · rename_i i13 i14
          refine onNext_next ?_
          exact Fr.refl _ _
        · rename_i i15 i16 i17 i18 i19
          extract_lets +onlyGivenNames x20
          refine onNext_ite (fun c21 => ?_) (fun c21 => ?_)
          · refine onNext_next ?_
            refine Fr.call fr_endFetch rfl ?_
            exact Fr.refl _ _
          · split
            · rename_i i22 i23 i24 i25 i26
              refine onNext_ite (fun c28 => ?_) (fun c28 => ?_)
              · refine onNext_next ?_
                refine Fr.call fr_endFetch rfl ?_
                refine fr_elim21 i26 ?_
                refine Fr.call fr_fetchPages rfl ?_
                exact Fr.refl _ _
              · refine onNext_next ?_
                refine Fr.call fr_modJob rfl ?_
                refine fr_elim21 i26 ?_
                refine Fr.call fr_fetchPages rfl ?_
                exact Fr.refl _ _

theorem fr_resetFn {a0 a1} :
    Fr 12288 a0 (resetFn a0 a1) := by
  unfold resetFn
  extract_lets +onlyGivenNames x0
  have h0 : Fr 12288 a0 x0 := by
    unfold x0
    refine Fr.call fr_modHost rfl ?_
    exact Fr.refl _ _
  clear_value x0
  refine Fr.lit ?_
  exact h0

theorem fr_failMove {k : Nat} {z s0 s : State} {t : Machine.Task} {b : Bad} (w : (585844 ||| 1024) ||| k = k) (h0 : Fr k z s0)
    (h : Fr k z s) : Fr k z (failMove s0 s t b) := by
  unfold failMove
  refine fr_ite (fun _ => ?_) (fun _ => ?_)
  · exact h0
  · extract_lets +onlyGivenNames x
    refine Fr.call (a := 585844 ||| 1024) (t := s) ?_ w h
    have hx : Fr (585844 ||| 1024) s x := Fr.call fr_cometClose rfl (Fr.call fr_failTask rfl (Fr.refl _ _))
    clear_value x
    refine Fr.lit ?_
    exact hx

theorem fr_failHostMove {a0 a1 a2} :
    Fr 586868 a0 (failHostMove a0 a1 a2) := by
  unfold failHostMove
  refine fr_ite (fun c0 => ?_) (fun c0 => ?_)
  · refine fr_failMove rfl ?_ ?_
    · exact Fr.refl _ _
    · exact Fr.refl _ _
  · exact Fr.refl _ _

theorem fr_hostLost {a0 a1 a2} :
    Fr 2684660 a0 (hostLost a0 a1 a2) := by
  unfold hostLost
  extract_lets +onlyGivenNames x0
  have h0 : Fr 2684660 a0 x0 := by
    unfold x0
    refine fr_foldl ?_ (fun v1 y1 h1 => ?_)
    · exact Fr.refl _ _
    · refine Fr.call fr_failHostMove rfl ?_
      exact h1
  clear_value x0
  split
  · rename_i i2 i3 i4
    refine fr_ite (fun c5 => ?_) (fun c5 => ?_)
    · exact h0
    · refine Fr.call fr_endFetch rfl ?_
      exact h0
  · rename_i i6 i7
    exact h0

theorem fr_flrMoon {a0 a1} :
    Fr 2686708 a0 (flrMoon a0 a1) := by
  unfold flrMoon
  refine fr_foldl ?_ (fun v0 y0 h0 => ?_)
  · refine Fr.call fr_resetFn rfl ?_
    refine Fr.call fr_hostLost rfl ?_
    exact Fr.refl _ _
  · refine Fr.call fr_disableRing rfl ?_
    exact h0

theorem fr_setVfs {a0 a1} :
    Fr 2684660 a0 (setVfs a0 a1) := by
  unfold setVfs
  extract_lets +onlyGivenNames x0
  extract_lets +onlyGivenNames x1
  have h1 : Fr 2684660 a0 x1 := by
    unfold x1
    refine fr_foldl ?_ (fun v2 y2 h2 => ?_)
    · exact Fr.refl _ _
    · refine Fr.call fr_resetFn rfl ?_
      refine Fr.call fr_hostLost rfl ?_
      exact h2
  clear_value x1
  refine Fr.call fr_modHost rfl ?_
  exact h1

theorem fr_flrPf {a0} :
    Fr 2686708 a0 (flrPf a0) := by
  unfold flrPf
  extract_lets +onlyGivenNames x0
  refine Fr.call fr_flrMoon rfl ?_
  refine Fr.call fr_setVfs rfl ?_
  refine fr_foldl ?_ (fun v1 y1 h1 => ?_)
  · exact Fr.refl _ _
  · refine Fr.call fr_hostLost rfl ?_
    exact h1

theorem fr_execFlr {a0 a1} :
    onNext (fun b => Fr 2686708 a1 b) (execFlr a0 a1) := by
  unfold execFlr
  refine onNext_ite (fun c0 => ?_) (fun c0 => ?_)
  · refine onNext_next ?_
    exact Fr.refl _ _
  · refine onNext_next ?_
    refine fr_ite (fun c1 => ?_) (fun c1 => ?_)
    · refine Fr.call fr_flrPf rfl ?_
      exact Fr.refl _ _
    · refine Fr.call fr_flrMoon rfl ?_
      exact Fr.refl _ _

theorem fr_fmtRead {a0 a1 a2} :
    onOk (fun b : (Sys2Proof.Machine.State × Sys2Proof.Bytes) => Fr 16384 a2 b.1) (fmtRead a0 a1 a2) := by
  unfold fmtRead
  extract_lets +onlyGivenNames x0
  refine onOk_ite (fun c1 => ?_) (fun c1 => ?_)
  · exact onOk_error
  · refine onOk_ok ?_
    refine fr_fst ?_
    refine Fr.call fr_readFmt rfl ?_
    exact Fr.refl _ _

theorem fr_execFmtStatRead {a0 a1 a2} :
    onNext (fun b => Fr 552960 a2 b) (execFmtStatRead a0 a1 a2) := by
  unfold execFmtStatRead
  refine fr_query rfl (fun v0 => ?_)
  refine onOk_call fr_fmtRead rfl ?_
  exact Fr.refl _ _

theorem fr_startStep {k : Nat} {s : State} {p : Machine.Task × StepRec} {act : State → Machine.Task → ServeCtx → Except Bad State}
    (w : (536608 ||| 585844) ||| k = k) (h : ∀ v t c, onOk (fun b => Fr k v b) (act v t c)) :
    onNext (fun b => Fr k s b) (startStep s p act) := by
  unfold startStep
  split
  rename_i s1 t q
  have h1 : Fr k s s1 := fr_elim1 q ((Fr.up (b := 536608 ||| 585844) fr_startTask rfl).call w (Fr.refl _ _))
  have hf : ∀ {u : State} {t : Machine.Task} {a b c : Nat}, Fr k s u → Fr k s (failTask u t a b c) :=
    fun hu => (Fr.up (b := 536608 ||| 585844) fr_failTask rfl).call w hu
  have hw : ∀ {b : Bad}, Fr k s (failWith s s1 t b) := fun {b} => by
    unfold failWith
    refine fr_ite (fun _ => ?_) (fun _ => ?_)
    · exact Fr.refl _ _
    · exact hf h1
  split
  · exact onNext_next hw
  · exact onNext_next (hf h1)
  · split
    · exact onNext_next (hf h1)
    · split
      · exact onNext_next hw
      · rename_i q2
        exact onNext_next (h1.trans (h _ _ _ _ q2))

theorem fr_execFollow {a0 a1 a2} :
    onNext (fun b => Fr 585972 a2 b) (execFollow a0 a1 a2) := by
  unfold execFollow
  split
  · rename_i i0 i1
    refine onNext_next ?_
    exact Fr.refl _ _
  · rename_i i2 i3 i4
    refine onNext_call (fr_startStep (k := 585972) rfl (fun v5 t5 c5 => ?_)) rfl ?_
    · extract_lets +onlyGivenNames x6
      extract_lets +onlyGivenNames x7
      extract_lets +onlyGivenNames x8
      extract_lets +onlyGivenNames x9
      have h9 : Fr 585972 v5 x9 := by
        unfold x9
        refine Fr.call fr_modServe rfl ?_
        exact Fr.refl _ _
      clear_value x9
      refine onOk_ok ?_
      refine Fr.call fr_setSlot rfl ?_
      exact h9
    · exact Fr.refl _ _

theorem fr_execFollowReport {a0 a1 a2 a3 a4} :
    onNext (fun b => Fr 128 a4 b) (execFollowReport a0 a1 a2 a3 a4) := by
  unfold execFollowReport
  split
  · rename_i i0 i1
    refine onNext_next ?_
    exact Fr.refl _ _
  · rename_i i2 i3 i4 i5
    refine onNext_ite (fun c6 => ?_) (fun c6 => ?_)
    · refine onNext_next ?_
      refine Fr.call fr_modServe rfl ?_
      exact Fr.refl _ _
    · refine onNext_next ?_
      exact Fr.refl _ _

theorem fr_stopPlan {a0 a1 a2} :
    Fr 6292528 a0 (stopPlan a0 a1 a2) := by
  unfold stopPlan
  extract_lets +onlyGivenNames x0
  extract_lets +onlyGivenNames x1
  extract_lets +onlyGivenNames x2
  have h2 : Fr 6292528 a0 x2 := by
    unfold x2
    refine fr_foldl ?_ (fun v3 y3 h3 => ?_)
    · exact Fr.refl _ _
    · refine Fr.call fr_cometClose rfl ?_
      refine Fr.call fr_writeBack rfl ?_
      exact h3
  clear_value x2
  extract_lets +onlyGivenNames x4
  refine Fr.lit ?_
  exact h2

theorem fr_failRun {a0 a1 a2 a3 a4 a5} :
    Fr 6878964 a0 (failRun a0 a1 a2 a3 a4 a5) := by
  unfold failRun
  extract_lets +onlyGivenNames x0
  have h0 : Fr 6878964 a0 x0 := by
    unfold x0
    refine Fr.call fr_failTask rfl ?_
    exact Fr.refl _ _
  clear_value x0
  extract_lets +onlyGivenNames x1
  refine fr_ite (fun c2 => ?_) (fun c2 => ?_)
  · refine Fr.call fr_putTask rfl ?_
    refine Fr.call fr_stopPlan rfl ?_
    exact h0
  · refine Fr.call fr_endFailed rfl ?_
    exact h0

theorem fr_listTaken {a0 a1 a2 a3 a4} :
    Fr 128 a0 (listTaken a0 a1 a2 a3 a4) := by
  unfold listTaken
  refine Fr.call fr_modServe rfl ?_
  exact Fr.refl _ _

theorem fr_loadPlan {a0 a1 a2 a3 a4 a5} :
    onOk (fun o => onSome (fun b => Fr 32 a0 b.2) o) (loadPlan a0 a1 a2 a3 a4 a5) := by
  unfold loadPlan
  refine onOk_bind (fun b0 q0 => ?_)
  split
  · rename_i i1
    refine onOk_ok ?_
    exact onSome_none
  · rename_i i2 i3
    refine onOk_bind (fun b4 q4 => ?_)
    refine onOk_bind (fun b5 q5 => ?_)
    refine onOk_ok ?_
    refine onSome_some ?_
    refine fr_snd ?_
    refine Fr.lit ?_
    exact Fr.refl _ _

theorem fr_execFollowWorkList {a0 a1 a2 a3 a4 a5} :
    onNext (fun b => Fr 6878964 a5 b) (execFollowWorkList a0 a1 a2 a3 a4 a5) := by
  unfold execFollowWorkList
  split
  · rename_i i0 i1
    refine onNext_next ?_
    exact Fr.refl _ _
  · rename_i i2 i3 i4 i5
    refine onNext_ite (fun c6 => ?_) (fun c6 => ?_)
    · refine onNext_next ?_
      exact Fr.refl _ _
    · refine onNext_ite (fun c7 => ?_) (fun c7 => ?_)
      · refine onNext_next ?_
        refine Fr.call fr_failRun rfl ?_
        exact Fr.refl _ _
      · extract_lets +onlyGivenNames x8
        split
        · rename_i i9 i10 i11
          refine onNext_ite (fun c13 => ?_) (fun c13 => ?_)
          · refine onNext_next ?_
            exact Fr.refl _ _
          · refine onNext_next ?_
            refine Fr.call fr_failRun rfl ?_
            exact Fr.refl _ _
        · rename_i i14 i15 i16
          have h17 := fr_writeMa _ i16
          extract_lets +onlyGivenNames x18
          have h18 : Fr 6878964 a5 x18 := by
            unfold x18
            refine Fr.call fr_listTaken rfl ?_
            refine Fr.call h17 rfl ?_
            exact Fr.refl _ _
          clear_value x18
          split
          · rename_i i19 i20 i21
            refine onNext_ite (fun c23 => ?_) (fun c23 => ?_)
            · refine onNext_next ?_
              exact Fr.refl _ _
            · refine onNext_next ?_
              refine Fr.call fr_failRun rfl ?_
              exact h18
          · rename_i i24 i25
            have h26 := fr_loadPlan _ i25
            refine onNext_next ?_
            refine Fr.call fr_failRun rfl ?_
            exact h18
          · rename_i i27 i28 i29 i30
            have h31 := fr_loadPlan _ i30
            refine onNext_next ?_
            refine Fr.call (h31 _ rfl) rfl ?_
            exact h18

theorem fr_execForce112 {a0 a1 a2} :
    onNext (fun b => Fr 553984 a2 b) (execForce112 a0 a1 a2) := by
  unfold execForce112
  refine fr_command rfl (fun v0 => ?_)
  refine onOk_call fr_forcePort rfl ?_
  exact Fr.refl _ _

theorem fr_execForcedArrayTest {a0 a1 a2} :
    onNext (fun b => Fr 8 a2 b) (execForcedArrayTest a0 a1 a2) := by
  unfold execForcedArrayTest
  extract_lets +onlyGivenNames x0
  refine onNext_ite (fun c1 => ?_) (fun c1 => ?_)
  · refine onNext_next ?_
    refine Fr.lit ?_
    exact Fr.refl _ _
  · refine onNext_next ?_
    exact Fr.refl _ _

theorem fr_execForwardDone {a0 a1} :
    onNext (fun b => Fr 6845744 a1 b) (execForwardDone a0 a1) := by
  unfold execForwardDone
  refine onNext_call fr_endProgram rfl ?_
  exact Fr.refl _ _

theorem fr_execForwardProgramStart {a0 a1} :
    onNext (fun b => Fr 6845744 a1 b) (execForwardProgramStart a0 a1) := by
  unfold execForwardProgramStart
  refine onNext_call fr_tryStart rfl ?_
  exact Fr.refl _ _

theorem fr_execFwStaged {a0 a1 a2} :
    onNext (fun b => Fr 634880 a2 b) (execFwStaged a0 a1 a2) := by
  unfold execFwStaged
  refine onNext_ite (fun c0 => ?_) (fun c0 => ?_)
  · refine onNext_next ?_
    exact Fr.refl _ _
  · split
    · rename_i i1 i2
      refine onNext_next ?_
      exact Fr.refl _ _
    · rename_i i3 i4 i5
      extract_lets +onlyGivenNames x6
      extract_lets +onlyGivenNames x7
      extract_lets +onlyGivenNames x8
      extract_lets +onlyGivenNames x9
      have h9 : Fr 634880 a2 x9 := by
        unfold x9
        refine fr_modFw ?_ rfl ?_
        · exact Nat.le_refl _
        · exact Fr.refl _ _
      clear_value x9
      extract_lets +onlyGivenNames x10
      have h10 : Fr 634880 a2 x10 := by
        unfold x10
        refine fr_modFw ?_ rfl ?_
        · exact Nat.le_refl _
        · exact h9
      clear_value x10
      extract_lets +onlyGivenNames x11
      have h11 : Fr 634880 a2 x11 := by
        unfold x11
        refine fr_ite (fun c12 => ?_) (fun c12 => ?_)
        · refine fr_modFw ?_ rfl ?_
          · exact Nat.le_refl _
          · exact h9
        · refine fr_ite (fun c13 => ?_) (fun c13 => ?_)
          · exact h10
          · refine Fr.call fr_raiseServed rfl ?_
            exact h10
      clear_value x11
      extract_lets +onlyGivenNames x14
      have h14 : Fr 634880 a2 x14 := by
        unfold x14
        refine Fr.call fr_noteBanks rfl ?_
        exact h11
      clear_value x14
      refine onNext_next ?_
      refine Fr.call fr_raisePf rfl ?_
      exact h14

theorem fr_swapLive {a0} :
    Fr 634884 a0 (swapLive a0) := by
  unfold swapLive
  extract_lets +onlyGivenNames x0
  have h0 : Fr 634884 a0 x0 := by
    unfold x0
    refine Fr.call fr_jCommit rfl ?_
    refine fr_modFw ?_ rfl ?_
    · exact Nat.le_refl _
    · exact Fr.refl _ _
  clear_value x0
  extract_lets +onlyGivenNames x1
  have h1 : Fr 634884 a0 x1 := by
    unfold x1
    refine Fr.call fr_modHost rfl ?_
    exact h0
  clear_value x1
  extract_lets +onlyGivenNames x2
  have h2 : Fr 634884 a0 x2 := by
    unfold x2
    refine fr_foldl ?_ (fun v3 y3 h3 => ?_)
    · exact h1
    · refine Fr.call fr_flushHeld rfl ?_
      exact h3
  clear_value x2
  refine fr_ite (fun c4 => ?_) (fun c4 => ?_)
  · refine Fr.call fr_startCompaction rfl ?_
    exact h2
  · exact h2

theorem fr_retrainNext {a0} :
    Fr 603136 a0 (retrainNext a0) := by
  unfold retrainNext
  split
  · rename_i i0 i1
    exact Fr.refl _ _
  · rename_i i2 i3 i4 i5
    refine fr_ite (fun c6 => ?_) (fun c6 => ?_)
    · exact Fr.refl _ _
    · extract_lets +onlyGivenNames x7
      have h7 : Fr 603136 a0 x7 := by
        unfold x7
        refine fr_modFw ?_ rfl ?_
        · exact Nat.le_refl _
        · exact Fr.refl _ _
      clear_value x7
      refine fr_ite (fun c8 => ?_) (fun c8 => ?_)
      · refine Fr.call fr_startRetrain rfl ?_
        exact h7
      · exact h7

theorem fr_execFwSwapDone {a0 a1} :
    onNext (fun b => Fr 766980 a1 b) (execFwSwapDone a0 a1) := by
  unfold execFwSwapDone
  split
  · rename_i i0 i1
    refine onNext_next ?_
    exact Fr.refl _ _
  · rename_i i2 i3 i4 i5
    refine onNext_ite (fun c6 => ?_) (fun c6 => ?_)
    · refine onNext_next ?_
      exact Fr.refl _ _
    · extract_lets +onlyGivenNames x7
      extract_lets +onlyGivenNames x8
      extract_lets +onlyGivenNames x9
      have h9 : Fr 766980 a1 x9 := by
        unfold x9
        refine Fr.call fr_endFirmware rfl ?_
        exact Fr.refl _ _
      clear_value x9
      refine onNext_ite (fun c10 => ?_) (fun c10 => ?_)
      · extract_lets +onlyGivenNames x11
        have h11 : Fr 766980 a1 x11 := by
          unfold x11
          refine fr_modFw ?_ rfl ?_
          · exact Nat.le_refl _
          · exact h9
        clear_value x11
        extract_lets +onlyGivenNames x12
        have h12 : Fr 766980 a1 x12 := by
          unfold x12
          refine Fr.call fr_swapLive rfl ?_
          exact h11
        clear_value x12
        extract_lets +onlyGivenNames x13
        have h13 : Fr 766980 a1 x13 := by
          unfold x13
          refine fr_ite (fun c14 => ?_) (fun c14 => ?_)
          · refine Fr.call fr_raisePf rfl ?_
            exact h12
          · exact h12
        clear_value x13
        refine onNext_next ?_
        refine Fr.call fr_retrainNext rfl ?_
        refine Fr.call fr_raisePf rfl ?_
        exact h13
      · extract_lets +onlyGivenNames x15
        have h15 : Fr 766980 a1 x15 := by
          unfold x15
          refine fr_ite (fun c16 => ?_) (fun c16 => ?_)
          · exact h9
          · refine Fr.call fr_raiseServed rfl ?_
            exact h9
        clear_value x15
        extract_lets +onlyGivenNames x17
        have h17 : Fr 766980 a1 x17 := by
          unfold x17
          refine fr_modFw ?_ rfl ?_
          · exact Nat.le_refl _
          · exact h15
        clear_value x17
        extract_lets +onlyGivenNames x18
        have h18 : Fr 766980 a1 x18 := by
          unfold x18
          refine Fr.call fr_swapLive rfl ?_
          refine Fr.call fr_noteBanks rfl ?_
          exact h17
        clear_value x18
        refine onNext_next ?_
        refine Fr.call fr_raisePf rfl ?_
        exact h18

theorem fr_execFwTrialExpire {a0} :
    onNext (fun b => Fr 634880 a0 b) (execFwTrialExpire a0) := by
  unfold execFwTrialExpire
  refine onNext_ite (fun c0 => ?_) (fun c0 => ?_)
  · refine onNext_next ?_
    refine Fr.call fr_commitFw rfl ?_
    exact Fr.refl _ _
  · refine onNext_next ?_
    exact Fr.refl _ _

theorem fr_execFwWatchdog {a0} :
    onNext (fun b => Fr 634880 a0 b) (execFwWatchdog a0) := by
  unfold execFwWatchdog
  refine onNext_ite (fun c0 => ?_) (fun c0 => ?_)
  · refine onNext_next ?_
    refine Fr.call fr_startSwap rfl ?_
    exact Fr.refl _ _
  · refine onNext_next ?_
    exact Fr.refl _ _

theorem fr_execGemm {a0 a1 a2} :
    onNext (fun b => Fr 585852 a2 b) (execGemm a0 a1 a2) := by
  unfold execGemm
  split
  · rename_i i0 i1
    refine onNext_next ?_
    exact Fr.refl _ _
  · rename_i i2 i3 i4
    refine onNext_ite (fun c5 => ?_) (fun c5 => ?_)
    · refine onNext_next ?_
      exact Fr.refl _ _
    · refine onNext_ite (fun c6 => ?_) (fun c6 => ?_)
      · split
        · rename_i i7 i8 i9 i10
          have h11 := fr_eq fr_startTask i10
          refine onNext_next ?_
          refine Fr.call fr_failTask rfl ?_
          refine Fr.call h11 rfl ?_
          exact Fr.refl _ _
      · refine onNext_ite (fun c12 => ?_) (fun c12 => ?_)
        · refine onNext_next ?_
          exact Fr.refl _ _
        · extract_lets +onlyGivenNames x13
          extract_lets +onlyGivenNames x14
          have h14 : Fr 585852 a2 x14 := by
            unfold x14
            exact Fr.refl _ _
          clear_value x14
          split
          · rename_i i15 i16 i17 i18
            have h19 := fr_eq fr_startTask i18
            split
            · rename_i i20 i21 i22
              refine onNext_next ?_
              refine fr_failWith rfl ?_ ?_
              · exact h14
              · refine Fr.call h19 rfl ?_
                exact Fr.refl _ _
            · rename_i i23 i24
              extract_lets +onlyGivenNames x25
              refine onNext_next ?_
              refine Fr.call fr_offerCores rfl ?_
              refine Fr.call fr_putTask rfl ?_
              refine Fr.call h19 rfl ?_
              exact Fr.refl _ _

theorem fr_touchLines {a0 a1 a2 a3 a4} :
    Fr 6836240 a0 (touchLines a0 a1 a2 a3 a4) := by
  unfold touchLines
  refine fr_foldl ?_ (fun v0 y0 h0 => ?_)
  · refine Fr.call fr_touchPlane rfl ?_
    exact Fr.refl _ _
  · split
    · rename_i i1 i2 i3 i4
      refine Fr.call fr_touchVec rfl ?_
      exact h0

theorem fr_touchStart {a0 a1 a2 a3 a4 a5} :
    Fr 6836240 a0 (touchStart a0 a1 a2 a3 a4 a5) := by
  unfold touchStart
  extract_lets +onlyGivenNames x0
  refine fr_foldl ?_ (fun v1 y1 h1 => ?_)
  · exact Fr.refl _ _
  · split
    · rename_i i2 i3 i4 i5
      refine Fr.call fr_noteDemand rfl ?_
      refine Fr.call fr_useRead rfl ?_
      exact h1

theorem fr_touchFactors {a0 a1 a2 a3 a4 a5 a6} :
    Fr 6836240 a0 (touchFactors a0 a1 a2 a3 a4 a5 a6) := by
  unfold touchFactors
  extract_lets +onlyGivenNames x0
  extract_lets +onlyGivenNames x1
  extract_lets +onlyGivenNames x2
  extract_lets +onlyGivenNames x3
  have h3 : Fr 6836240 a0 x3 := by
    unfold x3
    unfold x1
    refine fr_ite (fun c4 => ?_) (fun c4 => ?_)
    · refine fr_ite (fun c5 => ?_) (fun c5 => ?_)
      · refine fr_ite (fun c6 => ?_) (fun c6 => ?_)
        · exact Fr.refl _ _
        · refine Fr.call fr_useRead rfl ?_
          exact Fr.refl _ _
      · refine Fr.call fr_useRead rfl ?_
        refine fr_ite (fun c7 => ?_) (fun c7 => ?_)
        · exact Fr.refl _ _
        · refine Fr.call fr_useRead rfl ?_
          exact Fr.refl _ _
    · refine Fr.call fr_useRead rfl ?_
      refine fr_ite (fun c8 => ?_) (fun c8 => ?_)
      · refine fr_ite (fun c9 => ?_) (fun c9 => ?_)
        · exact Fr.refl _ _
        · refine Fr.call fr_useRead rfl ?_
          exact Fr.refl _ _
      · refine Fr.call fr_useRead rfl ?_
        refine fr_ite (fun c10 => ?_) (fun c10 => ?_)
        · exact Fr.refl _ _
        · refine Fr.call fr_useRead rfl ?_
          exact Fr.refl _ _
  clear_value x3
  refine fr_ite (fun c11 => ?_) (fun c11 => ?_)
  · exact h3
  · refine fr_foldl ?_ (fun v12 y12 h12 => ?_)
    · exact h3
    · refine Fr.call fr_useRead rfl ?_
      exact h12

theorem fr_finishRow {a0 a1 a2 a3 a4 a5 a6 a7} :
    onOk (fun b : Sys2Proof.Machine.TileRun => Fr 6836496 a7.s b.s) (finishRow a0 a1 a2 a3 a4 a5 a6 a7) := by
  unfold finishRow
  extract_lets +onlyGivenNames x0
  have h0 : Fr 6836496 a7.s x0 := by
    unfold x0
    exact Fr.refl _ _
  clear_value x0
  extract_lets +onlyGivenNames x1
  extract_lets +onlyGivenNames x2
  have h2 : Fr 6836496 a7.s x2 := by
    unfold x2
    refine fr_ite (fun c3 => ?_) (fun c3 => ?_)
    · refine Fr.call fr_useRecord rfl ?_
      exact h0
    · exact h0
  clear_value x2
  extract_lets +onlyGivenNames x4
  extract_lets +onlyGivenNames x5
  extract_lets +onlyGivenNames x6
  refine onOk_ite (fun c7 => ?_) (fun c7 => ?_)
  · refine onOk_bind (fun b8 q8 => ?_)
    unfold x6
    split
    · rename_i i9 i10 i11
      split
      · rename_i i12 i13 i14 i15
        refine onOk_ite (fun c16 => ?_) (fun c16 => ?_)
        · refine onOk_ok ?_
          exact h2
        · refine onOk_ite (fun c17 => ?_) (fun c17 => ?_)
          · extract_lets +onlyGivenNames x18
            refine onOk_bind (fun b19 q19 => ?_)
            have h20 := fr_coreWrite _ (mapError_ok q19)
            refine onOk_ok ?_
            refine Fr.call fr_noteWrite rfl ?_
            refine Fr.call h20 rfl ?_
            refine Fr.call fr_useWrite rfl ?_
            exact h2
          · extract_lets +onlyGivenNames x21
            extract_lets +onlyGivenNames x22
            refine onOk_bind (fun b23 q23 => ?_)
            have h24 := fr_coreWrite _ (mapError_ok q23)
            extract_lets +onlyGivenNames x25
            extract_lets +onlyGivenNames x26
            refine onOk_ite (fun c27 => ?_) (fun c27 => ?_)
            · refine onOk_bind (fun b28 q28 => ?_)
              have h29 := fr_coreWrite _ (mapError_ok q28)
              unfold x26
              refine onOk_ok ?_
              refine Fr.call fr_countRun rfl ?_
              refine Fr.call h29 rfl ?_
              refine Fr.call fr_useWrite rfl ?_
              refine Fr.call h24 rfl ?_
              refine Fr.call fr_useWrite rfl ?_
              exact h2
            · refine onOk_bind (fun b30 q30 => ?_)
              unfold x26
              refine onOk_ok ?_
              refine Fr.call fr_countRun rfl ?_
              refine onOk_elim q30 ?_
              refine onOk_ok ?_
              refine Fr.call h24 rfl ?_
              refine Fr.call fr_useWrite rfl ?_
              exact h2
  · refine onOk_bind (fun b31 q31 => ?_)
    split
    · rename_i i32 i33 i34 i35
      refine onOk_bind (fun b36 q36 => ?_)
      unfold x6
      split
      · rename_i i37 i38 i39
        split
        · rename_i i40 i41 i42 i43
          refine onOk_ite (fun c44 => ?_) (fun c44 => ?_)
          · refine onOk_ok ?_
            exact h2
          · refine onOk_ite (fun c45 => ?_) (fun c45 => ?_)
            · extract_lets +onlyGivenNames x46
              refine onOk_bind (fun b47 q47 => ?_)
              have h48 := fr_coreWrite _ (mapError_ok q47)
              refine onOk_ok ?_
              refine Fr.call fr_noteWrite rfl ?_
              refine Fr.call h48 rfl ?_
              refine Fr.call fr_useWrite rfl ?_
              exact h2
            · extract_lets +onlyGivenNames x49
              extract_lets +onlyGivenNames x50
              refine onOk_bind (fun b51 q51 => ?_)
              have h52 := fr_coreWrite _ (mapError_ok q51)
              extract_lets +onlyGivenNames x53
              extract_lets +onlyGivenNames x54
              refine onOk_ite (fun c55 => ?_) (fun c55 => ?_)
              · refine onOk_bind (fun b56 q56 => ?_)
                have h57 := fr_coreWrite _ (mapError_ok q56)
                unfold x54
                refine onOk_ok ?_
                refine Fr.call fr_countRun rfl ?_
                refine Fr.call h57 rfl ?_
                refine Fr.call fr_useWrite rfl ?_
                refine Fr.call h52 rfl ?_
                refine Fr.call fr_useWrite rfl ?_
                exact h2
              · refine onOk_bind (fun b58 q58 => ?_)
                unfold x54
                refine onOk_ok ?_
                refine Fr.call fr_countRun rfl ?_
                refine onOk_elim q58 ?_
                refine onOk_ok ?_
                refine Fr.call h52 rfl ?_
                refine Fr.call fr_useWrite rfl ?_
                exact h2

theorem fr_tileRows {a0 a1 a2 a3 a4 a5 a6 a7} :
    onOk (fun b : Sys2Proof.Machine.TileRun => Fr 6836496 a7.s b.s) (tileRows a0 a1 a2 a3 a4 a5 a6 a7) := by
  fun_induction tileRows
  · rename_i i0
    refine onOk_ok ?_
    exact Fr.refl _ _
  · rename_i i1 i2 i3 i4 i5
    refine onOk_bind (fun b6 q6 => ?_)
    refine onOk_bind (fun b7 q7 => ?_)
    have h8 := fr_finishRow _ q7
    refine onOk_call (i5 _) rfl ?_
    refine Fr.call h8 rfl ?_
    exact Fr.refl _ _

theorem fr_runTile {a0 a1 a2 a3} :
    onOk (fun b : Sys2Proof.Machine.TileDone => Fr 7885072 a0 b.s) (runTile a0 a1 a2 a3) := by
  unfold runTile
  extract_lets +onlyGivenNames x0
  extract_lets +onlyGivenNames x1
  refine onOk_bind (fun b2 q2 => ?_)
  extract_lets +onlyGivenNames x3
  have h3 : Fr 7885072 a0 x3 := by
    unfold x3
    refine Fr.call fr_touchLines rfl ?_
    refine Fr.call fr_touchLines rfl ?_
    exact Fr.refl _ _
  clear_value x3
  extract_lets +onlyGivenNames x4
  have h4 : Fr 7885072 a0 x4 := by
    unfold x4
    refine fr_ite (fun c5 => ?_) (fun c5 => ?_)
    · refine Fr.call fr_touchStart rfl ?_
      exact h3
    · exact h3
  clear_value x4
  extract_lets +onlyGivenNames x6
  have h6 : Fr 7885072 a0 x6 := by
    unfold x6
    refine fr_ite (fun c7 => ?_) (fun c7 => ?_)
    · exact h4
    · refine Fr.call fr_touchFactors rfl ?_
      exact h4
  clear_value x6
  extract_lets +onlyGivenNames x8
  split
  · rename_i i9 i10 i11 i12
    extract_lets +onlyGivenNames x13
    extract_lets +onlyGivenNames x14
    split
    · rename_i i15 i16 i17 i18
      refine onOk_bind (fun b19 q19 => ?_)
      have h20 := fr_tileRows _ q19
      extract_lets +onlyGivenNames x21
      extract_lets +onlyGivenNames x22
      refine onOk_ok ?_
      extract_lets +onlyGivenNames x23
      have h23 : Fr 7885072 a0 x23 := by
        unfold x23
        refine Fr.call h20 rfl ?_
        exact h6
      clear_value x23
      refine Fr.lit ?_
      exact h23

theorem fr_writeRowRecs {a0 a1 a2 a3 a4 a5 a6} :
    onOk (fun b => Fr 6836240 a0 b) (writeRowRecs a0 a1 a2 a3 a4 a5 a6) := by
  fun_induction writeRowRecs
  · rename_i i0
    refine onOk_ok ?_
    exact Fr.refl _ _
  · rename_i i1 i2 i3 i4 i5
    refine onOk_bind (fun b6 q6 => ?_)
    have h7 := fr_coreWrite _ (mapError_ok q6)
    refine onOk_call (i5 _) rfl ?_
    refine Fr.call h7 rfl ?_
    unfold i4
    refine Fr.call fr_useWrite rfl ?_
    exact Fr.refl _ _

theorem fr_finishRows {a0 a1 a2} :
    onOk (fun b : (Sys2Proof.Machine.State × Nat) => Fr 7884816 a0 b.1) (finishRows a0 a1 a2) := by
  unfold finishRows
  extract_lets +onlyGivenNames x0
  extract_lets +onlyGivenNames x1
  refine onOk_ite (fun c2 => ?_) (fun c2 => ?_)
  · refine onOk_ok ?_
    refine fr_fst ?_
    exact Fr.refl _ _
  · refine onOk_ite (fun c3 => ?_) (fun c3 => ?_)
    · refine onOk_bind (fun b4 q4 => ?_)
      have h5 := fr_writeRowRecs _ q4
      refine onOk_ok ?_
      refine fr_fst ?_
      refine Fr.call h5 rfl ?_
      exact Fr.refl _ _
    · split
      · rename_i i6 i7 i8 i9
        refine onOk_bind (fun b10 q10 => ?_)
        have h11 := fr_writeRowRecs _ q10
        refine onOk_ok ?_
        refine fr_fst ?_
        refine Fr.call h11 rfl ?_
        refine Fr.lit ?_
        exact Fr.refl _ _

theorem fr_noteGemm {a0 a1 a2} :
    Fr 8 a0 (noteGemm a0 a1 a2) := by
  unfold noteGemm
  refine Fr.lit ?_
  exact Fr.refl _ _

theorem fr_finishGemm {a0 a1 a2} :
    Fr 7925884 a0 (finishGemm a0 a1 a2) := by
  unfold finishGemm
  split
  · rename_i i0 i1 i2
    refine fr_failWith rfl ?_ ?_
    · exact Fr.refl _ _
    · exact Fr.refl _ _
  · rename_i i4 i5 i6 i7
    have h8 := fr_finishRows _ i7
    refine Fr.call fr_noteGemm rfl ?_
    refine Fr.call fr_putTask rfl ?_
    refine Fr.call h8 rfl ?_
    exact Fr.refl _ _

theorem fr_execGemmPassDone {a0 a1 a2 a3 a4 a5} :
    onNext (fun b => Fr 7926140 a5 b) (execGemmPassDone a0 a1 a2 a3 a4 a5) := by
  unfold execGemmPassDone
  split
  · rename_i i0 i1
    refine onNext_next ?_
    exact Fr.refl _ _
  · rename_i i2 i3 i4
    split
    · rename_i i5 i6 i7 i8 i9 i10
      refine onNext_ite (fun c11 => ?_) (fun c11 => ?_)
      · refine onNext_next ?_
        exact Fr.refl _ _
      · split
        · rename_i i12 i13 i14
          refine onNext_next ?_
          refine Fr.call fr_offerCores rfl ?_
          refine fr_ite (fun c16 => ?_) (fun c16 => ?_)
          · exact Fr.refl _ _
          · refine Fr.call fr_cometClose rfl ?_
            refine Fr.call fr_failOn rfl ?_
            exact Fr.refl _ _
        · rename_i i17 i18 i19
          have h20 := fr_runTile _ i19
          extract_lets +onlyGivenNames x21
          extract_lets +onlyGivenNames x22
          extract_lets +onlyGivenNames x23
          have h23 : Fr 7926140 a5 x23 := by
            unfold x23
            refine Fr.call fr_countPass rfl ?_
            refine Fr.call h20 rfl ?_
            exact Fr.refl _ _
          clear_value x23
          refine onNext_ite (fun c24 => ?_) (fun c24 => ?_)
          · refine onNext_next ?_
            refine Fr.call fr_offerCores rfl ?_
            refine Fr.call fr_endFailing rfl ?_
            exact h23
          · refine onNext_ite (fun c25 => ?_) (fun c25 => ?_)
            · refine onNext_next ?_
              refine Fr.call fr_offerCores rfl ?_
              refine Fr.call fr_putTask rfl ?_
              exact h23
            · refine onNext_next ?_
              refine Fr.call fr_offerCores rfl ?_
              refine Fr.call fr_cometClose rfl ?_
              refine Fr.call fr_finishGemm rfl ?_
              exact h23
    · rename_i i26 i27 i28
      refine onNext_next ?_
      exact Fr.refl _ _

theorem fr_execGenerate {a0 a1 a2} :
    onNext (fun b => Fr 1732608 a2 b) (execGenerate a0 a1 a2) := by
  unfold execGenerate
  extract_lets +onlyGivenNames x0
  refine fr_command rfl (fun v1 => ?_)
  refine onOk_call fr_keyCmd rfl ?_
  exact Fr.refl _ _

theorem fr_execGnsCfg {a0 a1 a2 a3} :
    onNext (fun b => Fr 553216 a3 b) (execGnsCfg a0 a1 a2 a3) := by
  unfold execGnsCfg
  extract_lets +onlyGivenNames x0
  refine fr_command rfl (fun v1 => ?_)
  refine onOk_ite (fun c2 => ?_) (fun c2 => ?_)
  · refine onOk_call fr_writeGns rfl ?_
    exact Fr.refl _ _
  · exact onOk_error

theorem fr_execGnsClose {a0 a1 a2} :
    onNext (fun b => Fr 553216 a2 b) (execGnsClose a0 a1 a2) := by
  unfold execGnsClose
  extract_lets +onlyGivenNames x0
  refine fr_command rfl (fun v1 => ?_)
  refine onOk_ite (fun c2 => ?_) (fun c2 => ?_)
  · refine onOk_ok ?_
    refine Fr.call fr_closeGns rfl ?_
    exact Fr.refl _ _
  · exact onOk_error

theorem fr_execGoReceived {a0 a1} :
    onNext (fun b => Fr 15266940 a1 b) (execGoReceived a0 a1) := by
  unfold execGoReceived
  extract_lets +onlyGivenNames x0
  refine onNext_ite (fun c1 => ?_) (fun c1 => ?_)
  · refine onNext_next ?_
    refine Fr.call fr_completeM8 rfl ?_
    refine Fr.call fr_handshake rfl ?_
    exact Fr.refl _ _
  · refine onNext_next ?_
    exact Fr.refl _ _

end Sys2Proof.Laws
end

