-- ==== Sys2Proof/Laws/Frames5.lean ====
section
/-! SUPPORT. Frames of the operations of Machine, part 5: for each, the parts of the state that it may change (Laws/Frame.lean says which bit
names which part), callees before callers. -/

set_option Elab.async false

namespace Sys2Proof.Laws

open Sys2Proof.Machine

theorem fr_execHbmRecalDone {a0 a1 a2} :
    onNext (fun b => Fr 569428 a2 b) (execHbmRecalDone a0 a1 a2) := by
  unfold execHbmRecalDone
  split
  · rename_i i0 i1
    refine onNext_next ?_
    exact Fr.refl _ _
  · rename_i i2 i3 i4
    refine onNext_ite (fun c5 => ?_) (fun c5 => ?_)
    · refine onNext_next ?_
      exact Fr.refl _ _
    · extract_lets +onlyGivenNames x6
      have h6 : Fr 569428 a2 x6 := by
        unfold x6
        refine fr_foldl ?_ (fun v7 y7 h7 => ?_)
        · exact Fr.refl _ _
        · refine Fr.call fr_hardRepair rfl ?_
          exact h7
      clear_value x6
      extract_lets +onlyGivenNames x8
      refine onNext_next ?_
      refine Fr.call fr_incA rfl ?_
      refine Fr.lit ?_
      exact h6

theorem fr_execHbmRecalWindow {a0 a1 a2} :
    onNext (fun b => Fr 16 a2 b) (execHbmRecalWindow a0 a1 a2) := by
  unfold execHbmRecalWindow
  extract_lets +onlyGivenNames x0
  extract_lets +onlyGivenNames x1
  extract_lets +onlyGivenNames x2
  extract_lets +onlyGivenNames x3
  refine onNext_ite (fun c4 => ?_) (fun c4 => ?_)
  · refine onNext_next ?_
    refine Fr.lit ?_
    exact Fr.refl _ _
  · refine onNext_next ?_
    exact Fr.refl _ _

theorem fr_execHbmTempSample {a0 a1 a2} :
    onNext (fun b => Fr 33226748 a2 b) (execHbmTempSample a0 a1 a2) := by
  unfold execHbmTempSample
  refine onNext_ite (fun c0 => ?_) (fun c0 => ?_)
  · refine onNext_next ?_
    exact Fr.refl _ _
  · extract_lets +onlyGivenNames x1
    extract_lets +onlyGivenNames x2
    extract_lets +onlyGivenNames x3
    have h3 : Fr 33226748 a2 x3 := by
      unfold x3
      refine Fr.lit ?_
      exact Fr.refl _ _
    clear_value x3
    refine onNext_ite (fun c4 => ?_) (fun c4 => ?_)
    · refine onNext_next ?_
      refine Fr.call fr_faultStop rfl ?_
      exact h3
    · refine onNext_ite (fun c5 => ?_) (fun c5 => ?_)
      · refine onNext_next ?_
        refine Fr.call fr_raisePf rfl ?_
        exact h3
      · refine onNext_next ?_
        exact h3

theorem fr_modFn {a0 a1 a2} :
    Fr 4096 a0 (modFn a0 a1 a2) := by
  unfold modFn
  refine Fr.call fr_setFn rfl ?_
  exact Fr.refl _ _

theorem fr_noteAer {a0 a1 a2} :
    Fr 4096 a0 (noteAer a0 a1 a2) := by
  unfold noteAer
  refine Fr.call fr_modFn rfl ?_
  exact Fr.refl _ _

theorem fr_hostReadFailed {a0 a1 a2 a3} :
    Fr 2684660 a0 (hostReadFailed a0 a1 a2 a3) := by
  unfold hostReadFailed
  split
  · rename_i i0 i1 i2
    split
    · rename_i i3 i4 i5
      refine Fr.call fr_failHostMove rfl ?_
      exact Fr.refl _ _
    · rename_i i6 i7
      exact Fr.refl _ _
  · rename_i i8
    split
    · rename_i i9 i10 i11
      refine fr_ite (fun c12 => ?_) (fun c12 => ?_)
      · exact Fr.refl _ _
      · refine Fr.call fr_endFetch rfl ?_
        exact Fr.refl _ _
    · rename_i i13 i14
      exact Fr.refl _ _

theorem fr_execHostCplTimeout {a0 a1 a2} :
    onNext (fun b => Fr 2684660 a2 b) (execHostCplTimeout a0 a1 a2) := by
  unfold execHostCplTimeout
  refine onNext_ite (fun c0 => ?_) (fun c0 => ?_)
  · refine onNext_next ?_
    exact Fr.refl _ _
  · refine fr_whenUp ?_ ?_
    · exact Fr.refl _ _
    · refine Fr.call fr_noteAer rfl ?_
      refine Fr.call fr_hostReadFailed rfl ?_
      refine Fr.call fr_incA rfl ?_
      exact Fr.refl _ _

theorem fr_execHostDmaError {a0 a1 a2 a3} :
    onNext (fun b => Fr 2684660 a3 b) (execHostDmaError a0 a1 a2 a3) := by
  unfold execHostDmaError
  refine onNext_ite (fun c0 => ?_) (fun c0 => ?_)
  · refine fr_whenUp ?_ ?_
    · exact Fr.refl _ _
    · extract_lets +onlyGivenNames x1
      have h1 : Fr 2684660 a3 x1 := by
        unfold x1
        refine Fr.call fr_hostReadFailed rfl ?_
        exact Fr.refl _ _
      clear_value x1
      refine fr_ite (fun c2 => ?_) (fun c2 => ?_)
      · refine Fr.call fr_noteAer rfl ?_
        exact h1
      · exact h1
  · refine onNext_next ?_
    exact Fr.refl _ _

theorem fr_execHostReadAborted {a0 a1} :
    onNext (fun b => Fr 536576 a1 b) (execHostReadAborted a0 a1) := by
  unfold execHostReadAborted
  refine onNext_ite (fun c0 => ?_) (fun c0 => ?_)
  · refine onNext_next ?_
    refine Fr.call fr_respond rfl ?_
    refine Fr.call fr_incA rfl ?_
    exact Fr.refl _ _
  · refine onNext_next ?_
    exact Fr.refl _ _

theorem fr_retrainHost {a0} :
    Fr 1060864 a0 (retrainHost a0) := by
  unfold retrainHost
  refine Fr.call fr_trainHost rfl ?_
  refine Fr.call fr_modHost rfl ?_
  exact Fr.refl _ _

theorem fr_execHotReset {a0} :
    onNext (fun b => Fr 3735284 a0 b) (execHotReset a0) := by
  unfold execHotReset
  refine onNext_ite (fun c0 => ?_) (fun c0 => ?_)
  · refine onNext_next ?_
    exact Fr.refl _ _
  · refine onNext_next ?_
    refine Fr.call fr_retrainHost rfl ?_
    refine Fr.call fr_flrPf rfl ?_
    exact Fr.refl _ _

theorem fr_execIdcode {a0} :
    onNext (fun b => Fr 262144 a0 b) (execIdcode a0) := by
  unfold execIdcode
  refine onNext_ite (fun c0 => ?_) (fun c0 => ?_)
  · refine onNext_next ?_
    exact Fr.refl _ _
  · refine onNext_next ?_
    refine Fr.call fr_modJtag rfl ?_
    exact Fr.refl _ _

theorem fr_sampleInput {a0 a1} :
    Fr 17305604 a0 (sampleInput a0 a1) := by
  unfold sampleInput
  extract_lets +onlyGivenNames x0
  have h0 : Fr 17305604 a0 x0 := by
    unfold x0
    refine Fr.call fr_modPower rfl ?_
    exact Fr.refl _ _
  clear_value x0
  refine fr_ite (fun c1 => ?_) (fun c1 => ?_)
  · exact Fr.refl _ _
  · split
    · rename_i i2 i3
      refine Fr.call fr_raisePf rfl ?_
      exact h0
    · rename_i i4 i5
      refine Fr.call fr_raisePf rfl ?_
      exact h0
    · rename_i i6 i7 i8
      exact h0

theorem fr_execInputHigh {a0 a1} :
    onNext (fun b => Fr 17305604 a1 b) (execInputHigh a0 a1) := by
  unfold execInputHigh
  refine onNext_ite (fun c0 => ?_) (fun c0 => ?_)
  · refine fr_whenUp ?_ ?_
    · exact Fr.refl _ _
    · refine Fr.call fr_sampleInput rfl ?_
      exact Fr.refl _ _
  · refine onNext_next ?_
    exact Fr.refl _ _

theorem fr_execInputLow {a0 a1} :
    onNext (fun b => Fr 17305604 a1 b) (execInputLow a0 a1) := by
  unfold execInputLow
  refine onNext_ite (fun c0 => ?_) (fun c0 => ?_)
  · refine fr_whenUp ?_ ?_
    · exact Fr.refl _ _
    · refine Fr.call fr_sampleInput rfl ?_
      exact Fr.refl _ _
  · refine onNext_next ?_
    exact Fr.refl _ _

theorem fr_execInputOv {a0} :
    onNext (fun b => Fr 33226748 a0 b) (execInputOv a0) := by
  unfold execInputOv
  refine onNext_next ?_
  refine Fr.call fr_faultStop rfl ?_
  exact Fr.refl _ _

theorem fr_execJournalPageProgrammed {a0 a1} :
    onNext (fun b => Fr 33226748 a1 b) (execJournalPageProgrammed a0 a1) := by
  unfold execJournalPageProgrammed
  refine onNext_ite (fun c0 => ?_) (fun c0 => ?_)
  · refine onNext_next ?_
    exact Fr.refl _ _
  · refine onNext_ite (fun c1 => ?_) (fun c1 => ?_)
    · refine onNext_next ?_
      refine Fr.call fr_faultStop rfl ?_
      exact Fr.refl _ _
    · extract_lets +onlyGivenNames x2
      have h2 : Fr 33226748 a1 x2 := by
        unfold x2
        refine fr_ite (fun c3 => ?_) (fun c3 => ?_)
        · refine Fr.call fr_incA rfl ?_
          refine Fr.call fr_modJournal rfl ?_
          exact Fr.refl _ _
        · exact Fr.refl _ _
      clear_value x2
      refine onNext_next ?_
      refine Fr.call fr_fillTrigger rfl ?_
      refine Fr.call fr_modJournal rfl ?_
      exact h2

theorem fr_execJournalPageTimer {a0} :
    onNext (fun b => Fr 32768 a0 b) (execJournalPageTimer a0) := by
  unfold execJournalPageTimer
  split
  · rename_i i0 i1
    refine onNext_next ?_
    exact Fr.refl _ _
  · rename_i i2 i3 i4 i5
    refine onNext_ite (fun c6 => ?_) (fun c6 => ?_)
    · refine onNext_next ?_
      refine Fr.call fr_modJournal rfl ?_
      exact Fr.refl _ _
    · refine onNext_next ?_
      exact Fr.refl _ _

theorem fr_execJournalReset {a0 a1} :
    onNext (fun b => Fr 585732 a1 b) (execJournalReset a0 a1) := by
  unfold execJournalReset
  refine fr_command rfl (fun v0 => ?_)
  refine onOk_call fr_journalCmd rfl ?_
  exact Fr.refl _ _

theorem fr_execKeyLoad {a0 a1 a2 a3} :
    onNext (fun b => Fr 684032 a3 b) (execKeyLoad a0 a1 a2 a3) := by
  unfold execKeyLoad
  extract_lets +onlyGivenNames x0
  refine onNext_ite (fun c1 => ?_) (fun c1 => ?_)
  · refine onNext_next ?_
    exact Fr.refl _ _
  · extract_lets +onlyGivenNames x2
    refine onNext_ite (fun c3 => ?_) (fun c3 => ?_)
    · refine onNext_next ?_
      refine Fr.call fr_answer rfl ?_
      exact Fr.refl _ _
    · split
      · rename_i i4 i5 i6 i7
        have h8 := fr_eq fr_keyLoad i7
        refine onNext_next ?_
        refine Fr.call fr_answer rfl ?_
        refine Fr.call h8 rfl ?_
        exact Fr.refl _ _

theorem fr_execKeyOffer {a0 a1 a2} :
    onNext (fun b => Fr 1732608 a2 b) (execKeyOffer a0 a1 a2) := by
  unfold execKeyOffer
  extract_lets +onlyGivenNames x0
  refine fr_query rfl (fun v1 => ?_)
  split
  · rename_i i2 i3 i4 i5
    have h6 := fr_eq fr_makeOffer i5
    refine onOk_ok ?_
    refine fr_fst ?_
    refine Fr.call fr_keepPieces rfl ?_
    refine Fr.call h6 rfl ?_
    exact Fr.refl _ _

theorem fr_execLeak {a0} :
    onNext (fun b => Fr 33226748 a0 b) (execLeak a0) := by
  unfold execLeak
  refine onNext_ite (fun c0 => ?_) (fun c0 => ?_)
  · refine onNext_next ?_
    exact Fr.refl _ _
  · refine onNext_next ?_
    refine Fr.call fr_faultStop rfl ?_
    refine Fr.call fr_modPower rfl ?_
    exact Fr.refl _ _

theorem fr_execLedgerAck {a0 a1 a2 a3} :
    onNext (fun b => Fr 585792 a3 b) (execLedgerAck a0 a1 a2 a3) := by
  unfold execLedgerAck
  extract_lets +onlyGivenNames x0
  refine fr_command rfl (fun v1 => ?_)
  refine onOk_call fr_ackLedger rfl ?_
  exact Fr.refl _ _

theorem fr_execLedgerRead {a0 a1 a2} :
    onNext (fun b => Fr 552960 a2 b) (execLedgerRead a0 a1 a2) := by
  unfold execLedgerRead
  extract_lets +onlyGivenNames x0
  refine fr_query rfl (fun v1 => ?_)
  refine onOk_ok ?_
  refine fr_fst ?_
  exact Fr.refl _ _

theorem fr_snapLedger {a0} :
    Fr 569344 a0 (snapLedger a0) := by
  unfold snapLedger
  refine fr_ite (fun c0 => ?_) (fun c0 => ?_)
  · exact Fr.refl _ _
  · refine Fr.call fr_jAppend rfl ?_
    exact Fr.refl _ _

theorem fr_execLedgerSnap {a0} :
    onNext (fun b => Fr 569344 a0 b) (execLedgerSnap a0) := by
  unfold execLedgerSnap
  refine onNext_ite (fun c0 => ?_) (fun c0 => ?_)
  · refine onNext_next ?_
    refine Fr.call fr_snapLedger rfl ?_
    refine Fr.lit ?_
    exact Fr.refl _ _
  · refine onNext_next ?_
    exact Fr.refl _ _

theorem fr_execLinkSignalDetect {a0 a1 a2} :
    onNext (fun b => Fr 570372 a2 b) (execLinkSignalDetect a0 a1 a2) := by
  unfold execLinkSignalDetect
  extract_lets +onlyGivenNames x0
  refine onNext_ite (fun c1 => ?_) (fun c1 => ?_)
  · refine onNext_next ?_
    exact Fr.refl _ _
  · extract_lets +onlyGivenNames x2
    have h2 : Fr 570372 a2 x2 := by
      unfold x2
      refine Fr.call fr_setPort rfl ?_
      exact Fr.refl _ _
    clear_value x2
    split
    · rename_i i3 i4 i5
      have h6 := fr_chooseMode _ i5
      refine onNext_next ?_
      refine Fr.call h6 rfl ?_
      exact h2
    · rename_i i7 i8
      refine onNext_next ?_
      refine Fr.call fr_trainFail rfl ?_
      exact h2

theorem fr_execLinkStatRead {a0 a1 a2} :
    onNext (fun b => Fr 552960 a2 b) (execLinkStatRead a0 a1 a2) := by
  unfold execLinkStatRead
  refine fr_query rfl (fun v0 => ?_)
  refine onOk_call fr_readStat rfl ?_
  exact Fr.refl _ _

theorem fr_snapRefused {a0 a1 a2} :
    Fr 546048 a0 (snapRefused a0 a1 a2) := by
  unfold snapRefused
  split
  · rename_i i0 i1
    exact Fr.refl _ _
  · rename_i i2 i3 i4 i5
    refine Fr.call fr_noteWait rfl ?_
    refine Fr.call fr_endSnap rfl ?_
    refine Fr.call fr_dropSnapTx rfl ?_
    exact Fr.refl _ _

theorem fr_ownRefused {a0 a1} :
    Fr 15267196 a0 (ownRefused a0 a1) := by
  unfold ownRefused
  split
  · rename_i i0 i1
    refine fr_ite (fun c2 => ?_) (fun c2 => ?_)
    · refine Fr.call fr_snapRefused rfl ?_
      exact Fr.refl _ _
    · refine fr_ite (fun c3 => ?_) (fun c3 => ?_)
      · refine Fr.call fr_endJob rfl ?_
        refine Fr.call fr_abortMigration rfl ?_
        exact Fr.refl _ _
      · exact Fr.refl _ _
  · rename_i i4
    exact Fr.refl _ _

theorem fr_execLinkTimeout {a0 a1 a2 a3} :
    onNext (fun b => Fr 15267196 a3 b) (execLinkTimeout a0 a1 a2 a3) := by
  unfold execLinkTimeout
  split
  · rename_i i0 i1 i2 i3
    extract_lets +onlyGivenNames x4
    extract_lets +onlyGivenNames x5
    extract_lets +onlyGivenNames x6
    extract_lets +onlyGivenNames x7
    refine onNext_ite (fun c8 => ?_) (fun c8 => ?_)
    · refine onNext_next ?_
      refine Fr.call fr_ownRefused rfl ?_
      refine Fr.call fr_failTx rfl ?_
      exact Fr.refl _ _
    · refine onNext_next ?_
      exact Fr.refl _ _
  · rename_i i9 i10
    refine onNext_next ?_
    exact Fr.refl _ _

theorem fr_tellUp {a0 a1} :
    Fr 529408 a0 (tellUp a0 a1) := by
  unfold tellUp
  extract_lets +onlyGivenNames x0
  have h0 : Fr 529408 a0 x0 := by
    unfold x0
    refine Fr.call fr_raisePf rfl ?_
    exact Fr.refl _ _
  clear_value x0
  extract_lets +onlyGivenNames x1
  refine fr_ite (fun c2 => ?_) (fun c2 => ?_)
  · exact h0
  · refine Fr.call fr_sendCtl rfl ?_
    exact h0

theorem fr_loseFlits {a0 a1} :
    Fr 586868 a0 (loseFlits a0 a1) := by
  unfold loseFlits
  extract_lets +onlyGivenNames x0
  extract_lets +onlyGivenNames x1
  refine fr_foldl ?_ (fun v2 y2 h2 => ?_)
  · exact Fr.refl _ _
  · refine Fr.call fr_failTx rfl ?_
    exact h2

theorem fr_freshPort {a0 a1} :
    Fr 586868 a0 (freshPort a0 a1) := by
  unfold freshPort
  extract_lets +onlyGivenNames x0
  have h0 : Fr 586868 a0 x0 := by
    unfold x0
    refine Fr.call fr_dropQueue rfl ?_
    refine Fr.call fr_loseFlits rfl ?_
    exact Fr.refl _ _
  clear_value x0
  extract_lets +onlyGivenNames x1
  have h1 : Fr 586868 a0 x1 := by
    unfold x1
    refine Fr.call fr_modPort rfl ?_
    exact h0
  clear_value x1
  refine Fr.lit ?_
  exact h1

theorem fr_sendSyncs {a0 a1} :
    Fr 525312 a0 (sendSyncs a0 a1) := by
  unfold sendSyncs
  extract_lets +onlyGivenNames x0
  have h0 : Fr 525312 a0 x0 := by
    unfold x0
    refine Fr.call fr_sendSync rfl ?_
    exact Fr.refl _ _
  clear_value x0
  refine fr_ite (fun c1 => ?_) (fun c1 => ?_)
  · refine Fr.call fr_syncMoon rfl ?_
    exact h0
  · extract_lets +onlyGivenNames x2
    have h2 : Fr 525312 a0 x2 := by
      unfold x2
      refine Fr.call fr_sendSync rfl ?_
      exact h0
    clear_value x2
    refine fr_foldl ?_ (fun v3 y3 h3 => ?_)
    · exact h2
    · refine Fr.call fr_syncMoon rfl ?_
      exact h3

theorem fr_sendParked {a0} :
    Fr 525312 a0 (sendParked a0) := by
  unfold sendParked
  refine fr_foldl ?_ (fun v0 y0 h0 => ?_)
  · refine Fr.lit ?_
    exact Fr.refl _ _
  · refine Fr.call fr_offerBack rfl ?_
    exact h0

theorem fr_portUp {a0 a1 a2 a3} :
    Fr 586868 a0 (portUp a0 a1 a2 a3) := by
  unfold portUp
  extract_lets +onlyGivenNames x0
  extract_lets +onlyGivenNames x1
  extract_lets +onlyGivenNames x2
  have h2 : Fr 586868 a0 x2 := by
    unfold x2
    refine fr_ite (fun c3 => ?_) (fun c3 => ?_)
    · exact Fr.refl _ _
    · refine Fr.call fr_freshPort rfl ?_
      exact Fr.refl _ _
  clear_value x2
  extract_lets +onlyGivenNames x4
  have h4 : Fr 586868 a0 x4 := by
    unfold x4
    refine Fr.call fr_modPort rfl ?_
    exact h2
  clear_value x4
  extract_lets +onlyGivenNames x5
  have h5 : Fr 586868 a0 x5 := by
    unfold x5
    refine Fr.call fr_sendSyncs rfl ?_
    refine fr_ite (fun c6 => ?_) (fun c6 => ?_)
    · refine Fr.call fr_resend rfl ?_
      exact h4
    · exact h4
  clear_value x5
  refine Fr.call fr_sendParked rfl ?_
  exact h5

theorem fr_t6Short {a0 a1 a2} :
    Fr 570372 a0 (t6Short a0 a1 a2) := by
  unfold t6Short
  split
  · rename_i i0
    refine Fr.call fr_raisePf rfl ?_
    refine Fr.call fr_modPort rfl ?_
    exact Fr.refl _ _
  · rename_i i1
    refine Fr.call fr_modPort rfl ?_
    exact Fr.refl _ _
  · rename_i i2
    extract_lets +onlyGivenNames x3
    have h3 : Fr 570372 a0 x3 := by
      unfold x3
      refine Fr.call fr_modPort rfl ?_
      exact Fr.refl _ _
    clear_value x3
    split
    · rename_i i4 i5 i6
      split
      · rename_i i7 i8 i9
        have h10 := fr_chooseMode _ i9
        refine Fr.call h10 rfl ?_
        exact h3
      · rename_i i11 i12
        refine Fr.call fr_trainFail rfl ?_
        exact h3
    · rename_i i14 i15
      exact h3
  · rename_i i16 i17
    exact Fr.refl _ _

theorem fr_execLinkUp {a0 a1 a2} :
    onNext (fun b => Fr 586868 a2 b) (execLinkUp a0 a1 a2) := by
  unfold execLinkUp
  extract_lets +onlyGivenNames x0
  refine onNext_ite (fun c1 => ?_) (fun c1 => ?_)
  · refine onNext_next ?_
    exact Fr.refl _ _
  · extract_lets +onlyGivenNames x2
    have h2 : Fr 586868 a2 x2 := by
      unfold x2
      refine Fr.call fr_exchangeItems rfl ?_
      exact Fr.refl _ _
    clear_value x2
    split
    · rename_i i3 i4 i5
      extract_lets +onlyGivenNames x6
      have h6 : Fr 586868 a2 x6 := by
        unfold x6
        refine Fr.call fr_tellUp rfl ?_
        refine Fr.call fr_portUp rfl ?_
        exact h2
      clear_value x6
      refine onNext_next ?_
      refine Fr.call fr_flushPort rfl ?_
      refine fr_ite (fun c7 => ?_) (fun c7 => ?_)
      · refine Fr.call fr_raisePf rfl ?_
        exact h6
      · exact h6
    · rename_i i8 i9
      refine onNext_next ?_
      refine Fr.call fr_t6Short rfl ?_
      exact h2

theorem fr_execLoadBase {a0 a1 a2 a3} :
    onNext (fun b => Fr 2683604 a3 b) (execLoadBase a0 a1 a2 a3) := by
  unfold execLoadBase
  extract_lets +onlyGivenNames x0
  refine fr_command rfl (fun v1 => ?_)
  refine onOk_call fr_fetchCmd rfl ?_
  exact Fr.refl _ _

theorem fr_execLoadOverlay {a0 a1 a2 a3} :
    onNext (fun b => Fr 2683604 a3 b) (execLoadOverlay a0 a1 a2 a3) := by
  unfold execLoadOverlay
  extract_lets +onlyGivenNames x0
  refine fr_command rfl (fun v1 => ?_)
  refine onOk_call fr_fetchCmd rfl ?_
  exact Fr.refl _ _

theorem fr_execLoadVariant {a0 a1 a2 a3} :
    onNext (fun b => Fr 2683604 a3 b) (execLoadVariant a0 a1 a2 a3) := by
  unfold execLoadVariant
  extract_lets +onlyGivenNames x0
  refine fr_command rfl (fun v1 => ?_)
  refine onOk_call fr_fetchCmd rfl ?_
  exact Fr.refl _ _

theorem fr_execPage {a0 a1 a2 a3 a4} :
    onNext (fun b => Fr 3731540 a4 b) (execPage a0 a1 a2 a3 a4) := by
  unfold execPage
  extract_lets +onlyGivenNames x0
  refine fr_command rfl (fun v1 => ?_)
  refine onOk_call fr_pageReq rfl ?_
  exact Fr.refl _ _

theorem fr_execMap {a0 a1 a2 a3} :
    onNext (fun b => Fr 3731540 a3 b) (execMap a0 a1 a2 a3) := by
  unfold execMap
  refine onNext_call fr_execPage rfl ?_
  exact Fr.refl _ _

theorem fr_execMbxDoorbell {a0 a1 a2} :
    onNext (fun b => Fr 4096 a2 b) (execMbxDoorbell a0 a1 a2) := by
  unfold execMbxDoorbell
  extract_lets +onlyGivenNames x0
  extract_lets +onlyGivenNames x1
  refine onNext_ite (fun c2 => ?_) (fun c2 => ?_)
  · refine onNext_next ?_
    exact Fr.refl _ _
  · refine onNext_ite (fun c3 => ?_) (fun c3 => ?_)
    · refine onNext_next ?_
      refine Fr.call fr_setFn rfl ?_
      exact Fr.refl _ _
    · refine onNext_next ?_
      refine Fr.call fr_modHost rfl ?_
      refine Fr.call fr_setFn rfl ?_
      exact Fr.refl _ _

theorem fr_execMemStatRead {a0 a1 a2 a3} :
    onNext (fun b => Fr 552960 a3 b) (execMemStatRead a0 a1 a2 a3) := by
  unfold execMemStatRead
  refine onNext_ite (fun c0 => ?_) (fun c0 => ?_)
  · refine fr_query rfl (fun v1 => ?_)
    refine onOk_call fr_readStat rfl ?_
    exact Fr.refl _ _
  · refine onNext_next ?_
    exact Fr.refl _ _

theorem fr_execMemberFabric {a0 a1 a2 a3} :
    onNext (fun b => Fr 587776 a3 b) (execMemberFabric a0 a1 a2 a3) := by
  unfold execMemberFabric
  refine fr_command rfl (fun v0 => ?_)
  refine onOk_call fr_writeMember rfl ?_
  exact Fr.refl _ _

theorem fr_execMigrateGoTimeout {a0 a1} :
    onNext (fun b => Fr 528448 a1 b) (execMigrateGoTimeout a0 a1) := by
  unfold execMigrateGoTimeout
  extract_lets +onlyGivenNames x0
  refine onNext_ite (fun c1 => ?_) (fun c1 => ?_)
  · refine onNext_next ?_
    refine Fr.call fr_raiseTo rfl ?_
    refine Fr.call fr_setMoon rfl ?_
    exact Fr.refl _ _
  · refine onNext_next ?_
    exact Fr.refl _ _

theorem fr_execMigrateIn {a0 a1 a2 a3} :
    onNext (fun b => Fr 16449532 a3 b) (execMigrateIn a0 a1 a2 a3) := by
  unfold execMigrateIn
  refine fr_command rfl (fun v0 => ?_)
  refine onOk_call fr_moonWrite rfl ?_
  exact Fr.refl _ _

theorem fr_execMigrateOut {a0 a1 a2 a3} :
    onNext (fun b => Fr 16449532 a3 b) (execMigrateOut a0 a1 a2 a3) := by
  unfold execMigrateOut
  refine fr_command rfl (fun v0 => ?_)
  refine onOk_call fr_moonWrite rfl ?_
  exact Fr.refl _ _

theorem fr_sendPages {a0 a1} :
    Fr 1024 a0 (sendPages a0 a1) := by
  unfold sendPages
  split
  · rename_i i0 i1
    exact Fr.refl _ _
  · rename_i i2 i3 i4
    extract_lets +onlyGivenNames x5
    refine Fr.call fr_openOwn rfl ?_
    exact Fr.refl _ _

theorem fr_execMigratePeerConfirm {a0 a1 a2} :
    onNext (fun b => Fr 529472 a2 b) (execMigratePeerConfirm a0 a1 a2) := by
  unfold execMigratePeerConfirm
  extract_lets +onlyGivenNames x0
  refine onNext_ite (fun c1 => ?_) (fun c1 => ?_)
  · refine onNext_next ?_
    exact Fr.refl _ _
  · refine onNext_ite (fun c2 => ?_) (fun c2 => ?_)
    · refine onNext_next ?_
      refine Fr.call fr_sendPages rfl ?_
      refine Fr.call fr_setMoon rfl ?_
      exact Fr.refl _ _
    · refine onNext_next ?_
      refine Fr.call fr_endJob rfl ?_
      refine Fr.call fr_setMoon rfl ?_
      exact Fr.refl _ _

theorem fr_execMigrateReadyTimeout {a0 a1} :
    onNext (fun b => Fr 15266940 a1 b) (execMigrateReadyTimeout a0 a1) := by
  unfold execMigrateReadyTimeout
  extract_lets +onlyGivenNames x0
  refine onNext_ite (fun c1 => ?_) (fun c1 => ?_)
  · refine onNext_next ?_
    refine Fr.call fr_endJob rfl ?_
    refine Fr.call fr_abortMigration rfl ?_
    exact Fr.refl _ _
  · refine onNext_next ?_
    exact Fr.refl _ _

theorem fr_execMigrateReclaim {a0 a1 a2 a3} :
    onNext (fun b => Fr 16449532 a3 b) (execMigrateReclaim a0 a1 a2 a3) := by
  unfold execMigrateReclaim
  refine fr_command rfl (fun v0 => ?_)
  refine onOk_call fr_moonWrite rfl ?_
  exact Fr.refl _ _

theorem fr_execMigrateRunningTimeout {a0 a1} :
    onNext (fun b => Fr 528448 a1 b) (execMigrateRunningTimeout a0 a1) := by
  unfold execMigrateRunningTimeout
  extract_lets +onlyGivenNames x0
  refine onNext_ite (fun c1 => ?_) (fun c1 => ?_)
  · refine onNext_next ?_
    refine Fr.call fr_endJob rfl ?_
    refine Fr.call fr_raiseTo rfl ?_
    refine Fr.call fr_setMoon rfl ?_
    exact Fr.refl _ _
  · refine onNext_next ?_
    exact Fr.refl _ _

theorem fr_installPages {a0 a1 a2} :
    Fr 3145808 a0 (installPages a0 a1 a2) := by
  unfold installPages
  split
  · rename_i i0 i1 i2 i3
    have h4 := fr_eq fr_grantPages i3
    extract_lets +onlyGivenNames x5
    have h5 : Fr 3145808 a0 x5 := by
      unfold x5
      refine fr_foldl ?_ (fun v6 y6 h6 => ?_)
      · refine Fr.call h4 rfl ?_
        exact Fr.refl _ _
      · extract_lets +onlyGivenNames x7
        extract_lets +onlyGivenNames x8
        have h8 : Fr 3145808 a0 x8 := by
          unfold x8
          refine Fr.call fr_setEntry rfl ?_
          exact h6
        clear_value x8
        extract_lets +onlyGivenNames x9
        refine Fr.litW ?_ ?_ ?_ ?_ ?_ ?_ <;> first | exact id | exact List.prefix_refl _ | exact Nat.le_refl _ | skip
        · exact h8
        · exact fun w => memWf_memPut w
    clear_value x5
    refine fr_foldl ?_ (fun v10 y10 h10 => ?_)
    · exact h5
    · split
      · rename_i i11 i12
        exact h10
      · rename_i i13 i14 i15
        split
        · rename_i i16 i17 i18
          refine Fr.call fr_setEntry rfl ?_
          exact h10
        · rename_i i19 i20
          exact h10

theorem fr_installServe {a0 a1 a2 a3} :
    Fr 640 a0 (installServe a0 a1 a2 a3) := by
  unfold installServe
  extract_lets +onlyGivenNames x0
  extract_lets +onlyGivenNames x1
  extract_lets +onlyGivenNames x2
  have h2 : Fr 640 a0 x2 := by
    unfold x2
    refine Fr.call fr_setServe rfl ?_
    exact Fr.refl _ _
  clear_value x2
  refine fr_foldl ?_ (fun v3 y3 h3 => ?_)
  · exact h2
  · split
    · rename_i i4 i5 i6
      unfold x0 at i6
      refine Fr.lit ?_
      exact h3
    · rename_i i7 i8
      unfold x0 at i8
      exact h3

theorem fr_installMig {a0 a1 a2} :
    Fr 3172336 a0 (installMig a0 a1 a2) := by
  unfold installMig
  extract_lets +onlyGivenNames x0
  have h0 : Fr 3172336 a0 x0 := by
    unfold x0
    refine Fr.call fr_installPages rfl ?_
    exact Fr.refl _ _
  clear_value x0
  extract_lets +onlyGivenNames x1
  have h1 : Fr 3172336 a0 x1 := by
    unfold x1
    refine fr_foldl ?_ (fun v2 y2 h2 => ?_)
    · exact h0
    · split
      · rename_i i3 i4 i5
        refine Fr.call fr_setObj rfl ?_
        exact h2
      · rename_i i6 i7
        exact h2
  clear_value x1
  extract_lets +onlyGivenNames x8
  have h8 : Fr 3172336 a0 x8 := by
    unfold x8
    refine fr_foldl ?_ (fun v9 y9 h9 => ?_)
    · exact h1
    · refine fr_ite (fun c10 => ?_) (fun c10 => ?_)
      · refine Fr.call fr_setRing rfl ?_
        exact h9
      · exact h9
  clear_value x8
  extract_lets +onlyGivenNames x11
  have h11 : Fr 3172336 a0 x11 := by
    unfold x11
    refine fr_foldl ?_ (fun v12 y12 h12 => ?_)
    · exact h8
    · refine Fr.call fr_addTask rfl ?_
      exact h12
  clear_value x11
  extract_lets +onlyGivenNames x13
  extract_lets +onlyGivenNames x14
  have h14 : Fr 3172336 a0 x14 := by
    unfold x14
    refine Fr.lit ?_
    exact h11
  clear_value x14
  extract_lets +onlyGivenNames x15
  have h15 : Fr 3172336 a0 x15 := by
    unfold x15
    refine fr_foldl ?_ (fun v16 y16 h16 => ?_)
    · exact h14
    · refine Fr.call fr_setParam rfl ?_
      exact h16
  clear_value x15
  extract_lets +onlyGivenNames x17
  extract_lets +onlyGivenNames x18
  have h18 : Fr 3172336 a0 x18 := by
    unfold x18
    refine Fr.call fr_installServe rfl ?_
    exact h15
  clear_value x18
  extract_lets +onlyGivenNames x19
  have h19 : Fr 3172336 a0 x19 := by
    unfold x19
    refine Fr.call fr_setTrain rfl ?_
    exact h18
  clear_value x19
  extract_lets +onlyGivenNames x20
  extract_lets +onlyGivenNames x21
  have h21 : Fr 3172336 a0 x21 := by
    unfold x21
    refine Fr.lit ?_
    exact h19
  clear_value x21
  refine Fr.call fr_modMoon rfl ?_
  exact h21

theorem fr_execMigrateStateReceived {a0 a1 a2} :
    onNext (fun b => Fr 3696624 a2 b) (execMigrateStateReceived a0 a1 a2) := by
  unfold execMigrateStateReceived
  extract_lets +onlyGivenNames x0
  refine onNext_ite (fun c1 => ?_) (fun c1 => ?_)
  · refine onNext_next ?_
    refine Fr.call fr_handshake rfl ?_
    refine Fr.call fr_installMig rfl ?_
    exact Fr.refl _ _
  · refine onNext_next ?_
    exact Fr.refl _ _

theorem fr_stopPrecopy {a0 a1} :
    Fr 1040 a0 (stopPrecopy a0 a1) := by
  unfold stopPrecopy
  extract_lets +onlyGivenNames x0
  extract_lets +onlyGivenNames x1
  refine Fr.lit ?_
  exact Fr.refl _ _

theorem fr_giveBack {a0 a1 a2 a3 a4} :
    Fr 536608 a0 (giveBack a0 a1 a2 a3 a4) := by
  unfold giveBack
  refine fr_ite (fun c0 => ?_) (fun c0 => ?_)
  · refine Fr.call fr_addObj rfl ?_
    exact Fr.refl _ _
  · exact Fr.refl _ _

theorem fr_unstart {a0 a1} :
    Fr 536608 a0 (unstart a0 a1) := by
  unfold unstart
  refine fr_foldl ?_ (fun v0 y0 h0 => ?_)
  · exact Fr.refl _ _
  · refine Fr.call fr_giveBack rfl ?_
    refine Fr.call fr_giveBack rfl ?_
    exact h0

theorem fr_sendMigState {a0 a1} :
    Fr 546128 a0 (sendMigState a0 a1) := by
  unfold sendMigState
  extract_lets +onlyGivenNames x0
  have h0 : Fr 546128 a0 x0 := by
    unfold x0
    refine Fr.call fr_endWait rfl ?_
    exact Fr.refl _ _
  clear_value x0
  extract_lets +onlyGivenNames x1
  extract_lets +onlyGivenNames x2
  have h2 : Fr 546128 a0 x2 := by
    unfold x2
    refine Fr.call fr_dropPrecopy rfl ?_
    refine Fr.call fr_modMoon rfl ?_
    exact h0
  clear_value x2
  split
  · rename_i i3 i4
    exact h2
  · rename_i i5 i6 i7
    extract_lets +onlyGivenNames x8
    extract_lets +onlyGivenNames x9
    have h9 : Fr 546128 a0 x9 := by
      unfold x9
      refine Fr.call fr_openOwn rfl ?_
      exact h2
    clear_value x9
    refine Fr.call fr_emit rfl ?_
    refine Fr.call fr_openOwn rfl ?_
    exact h9

theorem fr_handover {a0 a1} :
    Fr 2686964 a0 (handover a0 a1) := by
  unfold handover
  extract_lets +onlyGivenNames x0
  have h0 : Fr 2686964 a0 x0 := by
    unfold x0
    refine Fr.call fr_withdrawArrivals rfl ?_
    refine Fr.call fr_endFetch rfl ?_
    refine Fr.call fr_stopPrecopy rfl ?_
    exact Fr.refl _ _
  clear_value x0
  extract_lets +onlyGivenNames x1
  have h1 : Fr 2686964 a0 x1 := by
    unfold x1
    refine Fr.call fr_unstart rfl ?_
    exact h0
  clear_value x1
  extract_lets +onlyGivenNames x2
  extract_lets +onlyGivenNames x3
  have h3 : Fr 2686964 a0 x3 := by
    unfold x3
    refine Fr.lit ?_
    exact h1
  clear_value x3
  extract_lets +onlyGivenNames x4
  have h4 : Fr 2686964 a0 x4 := by
    unfold x4
    refine Fr.call fr_modMoon rfl ?_
    exact h3
  clear_value x4
  extract_lets +onlyGivenNames x5
  refine fr_ite (fun c6 => ?_) (fun c6 => ?_)
  · exact h4
  · refine fr_ite (fun c7 => ?_) (fun c7 => ?_)
    · refine Fr.call fr_sendMigState rfl ?_
      exact h4
    · refine Fr.call fr_beginSpill rfl ?_
      exact h4

theorem fr_execMigrationHandover {a0 a1} :
    onNext (fun b => Fr 2686964 a1 b) (execMigrationHandover a0 a1) := by
  unfold execMigrationHandover
  extract_lets +onlyGivenNames x0
  refine onNext_ite (fun c1 => ?_) (fun c1 => ?_)
  · refine onNext_next ?_
    refine Fr.call fr_handover rfl ?_
    exact Fr.refl _ _
  · refine onNext_next ?_
    exact Fr.refl _ _

theorem fr_execMoonCmdCancel {a0 a1 a2 a3} :
    onNext (fun b => Fr 16315516 a3 b) (execMoonCmdCancel a0 a1 a2 a3) := by
  unfold execMoonCmdCancel
  refine fr_command rfl (fun v0 => ?_)
  refine onOk_call fr_cancelCmd rfl ?_
  exact Fr.refl _ _

theorem fr_execMoonCmdWhen {a0 a1} :
    onNext (fun b => Fr 16449532 a1 b) (execMoonCmdWhen a0 a1) := by
  unfold execMoonCmdWhen
  split
  · rename_i i0 i1
    refine onNext_next ?_
    exact Fr.refl _ _
  · rename_i i2 i3 i4
    refine onNext_ite (fun c5 => ?_) (fun c5 => ?_)
    · refine onNext_next ?_
      refine Fr.call fr_runJob rfl ?_
      exact Fr.refl _ _
    · refine onNext_next ?_
      exact Fr.refl _ _

theorem fr_execMoonStatRead {a0 a1 a2} :
    onNext (fun b => Fr 552960 a2 b) (execMoonStatRead a0 a1 a2) := by
  unfold execMoonStatRead
  extract_lets +onlyGivenNames x0
  refine fr_query rfl (fun v1 => ?_)
  refine onOk_call fr_readStat rfl ?_
  exact Fr.refl _ _

theorem startMove_cases {s : State} {m r mode : Nat} {e : Except State (State × Machine.Task)} (q : startMove s m r mode = some e) :
    (∀ x, e = .error x → Fr (536608 ||| 585844 ||| 32) s x) ∧ (∀ p, e = .ok p → Fr (536608 ||| 585844 ||| 32) s p.1) := by
  have hs : ∀ {t : Machine.Task} {p}, Fr (536608 ||| 585844 ||| 32) s (startTask s t p).1 := (Fr.up fr_startTask rfl)
  unfold startMove at q
  split at q
  · split at q
    · cases q; exact ⟨fun x e => (nomatch e), fun p e => by cases e; exact Fr.refl _ _⟩
    · cases q
  · split at q
    · cases q
    · split at q
      · cases q
      · split at q
        · cases q
          refine ⟨fun x e => ?_, fun p e => (nomatch e)⟩
          cases e
          exact hs.trans (Fr.up fr_failTask rfl)
        · extract_lets d at q
          split at q
          · cases q
          · cases q
            refine ⟨fun x e => (nomatch e), fun p e => ?_⟩
            cases e
            exact hs.trans (Fr.up fr_putTask rfl)

theorem startMove_ok {s : State} {m r mode : Nat} {x : State} {t : Machine.Task} (q : startMove s m r mode = some (.ok (x, t))) :
    Fr (536608 ||| 585844 ||| 32) s x := (startMove_cases q).2 _ rfl

theorem startMove_error {s : State} {m r mode : Nat} {x : State} (q : startMove s m r mode = some (.error x)) :
    Fr (536608 ||| 585844 ||| 32) s x := (startMove_cases q).1 _ rfl

theorem fr_touchSource {a0 a1 a2} :
    Fr 6836240 a0 (touchSource a0 a1 a2) := by
  unfold touchSource
  refine fr_foldl ?_ (fun v0 y0 h0 => ?_)
  · exact Fr.refl _ _
  · refine Fr.call fr_touchVec rfl ?_
    exact h0

theorem fr_touchDest {a0 a1 a2} :
    Fr 2641936 a0 (touchDest a0 a1 a2) := by
  unfold touchDest
  refine fr_foldl ?_ (fun v0 y0 h0 => ?_)
  · exact Fr.refl _ _
  · extract_lets +onlyGivenNames x1
    have h1 : Fr 2641936 a0 x1 := by
      unfold x1
      refine Fr.call fr_useWrite rfl ?_
      exact h0
    clear_value x1
    refine fr_ite (fun c2 => ?_) (fun c2 => ?_)
    · exact h1
    · refine Fr.call fr_useWrite rfl ?_
      exact h1

theorem fr_spaceWrite {a0 a1 a2 a3 a4} :
    onOk (fun b => Fr 6815760 a0 b) (spaceWrite a0 a1 a2 a3 a4) := by
  unfold spaceWrite
  refine onOk_ite (fun c0 => ?_) (fun c0 => ?_)
  · extract_lets +onlyGivenNames x1
    refine onOk_ite (fun c2 => ?_) (fun c2 => ?_)
    · refine onOk_ok ?_
      refine Fr.call fr_emit rfl ?_
      exact Fr.refl _ _
    · exact onOk_error
  · refine onOk_mapError ?_
    refine onOk_call fr_writeMa rfl ?_
    exact Fr.refl _ _

theorem fr_writePlanes {a0 a1 a2 a3 a4} :
    onOk (fun b => Fr 6815760 a0 b) (writePlanes a0 a1 a2 a3 a4) := by
  fun_induction writePlanes
  · rename_i i0
    refine onOk_ok ?_
    exact Fr.refl _ _
  · rename_i i1 i2 i3 i4 i5
    refine onOk_bind (fun b6 q6 => ?_)
    have h7 := fr_spaceWrite _ q6
    extract_lets +onlyGivenNames x8
    refine onOk_ite (fun c9 => ?_) (fun c9 => ?_)
    · refine onOk_bind (fun b10 q10 => ?_)
      unfold x8
      refine onOk_call (i5 _) rfl ?_
      refine onOk_elim q10 ?_
      refine onOk_ok ?_
      exact h7
    · refine onOk_bind (fun b11 q11 => ?_)
      have h12 := fr_spaceWrite _ q11
      unfold x8
      refine onOk_call (i5 _) rfl ?_
      refine Fr.call h12 rfl ?_
      exact h7

theorem fr_writeTensor {a0 a1 a2 a3 a4} :
    onOk (fun b => Fr 7864336 a0 b) (writeTensor a0 a1 a2 a3 a4) := by
  unfold writeTensor
  extract_lets +onlyGivenNames x0
  refine onOk_ite (fun c1 => ?_) (fun c1 => ?_)
  · refine onOk_call fr_writePlanes rfl ?_
    exact Fr.refl _ _
  · split
    · rename_i i2 i3 i4 i5
      refine onOk_call fr_writePlanes rfl ?_
      refine Fr.lit ?_
      exact Fr.refl _ _

theorem fr_noteMove {a0 a1 a2 a3} :
    Fr 6291728 a0 (noteMove a0 a1 a2 a3) := by
  unfold noteMove
  refine fr_ite (fun c0 => ?_) (fun c0 => ?_)
  · exact Fr.refl _ _
  · refine fr_foldl ?_ (fun v1 y1 h1 => ?_)
    · exact Fr.refl _ _
    · extract_lets +onlyGivenNames x2
      refine Fr.call fr_noteWrite rfl ?_
      exact h1

theorem fr_execMoveCopy {a0 a1 a2 a3} :
    onNext (fun b => Fr 7927156 a3 b) (execMoveCopy a0 a1 a2 a3) := by
  unfold execMoveCopy
  split
  · rename_i i0 i1
    refine onNext_next ?_
    exact Fr.refl _ _
  · rename_i i3 i4 i5
    have h6 := startMove_error i5
    refine onNext_next ?_
    refine Fr.call h6 rfl ?_
    exact Fr.refl _ _
  · rename_i i7 i8 i9 i10
    have h11 := startMove_ok i10
    refine onNext_ite (fun c12 => ?_) (fun c12 => ?_)
    · refine onNext_next ?_
      exact Fr.refl _ _
    · extract_lets +onlyGivenNames x13
      split
      · rename_i i14 i15 i16
        refine onNext_next ?_
        refine fr_failMove rfl ?_ ?_
        · exact Fr.refl _ _
        · refine Fr.call h11 rfl ?_
          exact Fr.refl _ _
      · rename_i i17 i18
        refine onNext_next ?_
        refine Fr.call h11 rfl ?_
        exact Fr.refl _ _
      · rename_i i19 i20 i21
        extract_lets +onlyGivenNames x22
        have h22 : Fr 7927156 a3 x22 := by
          unfold x22
          refine fr_ite (fun c23 => ?_) (fun c23 => ?_)
          · refine Fr.call fr_touchSource rfl ?_
            refine Fr.call h11 rfl ?_
            exact Fr.refl _ _
          · refine Fr.call h11 rfl ?_
            exact Fr.refl _ _
        clear_value x22
        extract_lets +onlyGivenNames x24
        have h24 : Fr 7927156 a3 x24 := by
          unfold x24
          refine fr_ite (fun c25 => ?_) (fun c25 => ?_)
          · refine Fr.call fr_touchDest rfl ?_
            exact h22
          · exact h22
        clear_value x24
        split
        · rename_i i26 i27 i28
          refine onNext_next ?_
          refine fr_failMove rfl ?_ ?_
          · exact Fr.refl _ _
          · refine Fr.call h11 rfl ?_
            exact Fr.refl _ _
        · rename_i i30 i31 i32
          have h33 := fr_writeTensor _ i32
          refine onNext_next ?_
          refine Fr.call fr_moveDone rfl ?_
          refine Fr.call fr_noteMove rfl ?_
          refine Fr.call h33 rfl ?_
          exact h24

theorem fr_execMoveFill {a0 a1 a2} :
    onNext (fun b => Fr 7927156 a2 b) (execMoveFill a0 a1 a2) := by
  unfold execMoveFill
  split
  · rename_i i0 i1
    refine onNext_next ?_
    exact Fr.refl _ _
  · rename_i i3 i4 i5
    have h6 := startMove_error i5
    refine onNext_next ?_
    refine Fr.call h6 rfl ?_
    exact Fr.refl _ _
  · rename_i i7 i8 i9 i10
    have h11 := startMove_ok i10
    refine onNext_ite (fun c12 => ?_) (fun c12 => ?_)
    · refine onNext_next ?_
      exact Fr.refl _ _
    · extract_lets +onlyGivenNames x13
      extract_lets +onlyGivenNames x14
      split
      · rename_i i15 i16 i17
        refine onNext_next ?_
        refine fr_failMove rfl ?_ ?_
        · exact Fr.refl _ _
        · refine Fr.call h11 rfl ?_
          exact Fr.refl _ _
      · rename_i i19 i20 i21
        have h22 := fr_writeTensor _ i21
        refine onNext_next ?_
        refine Fr.call fr_moveDone rfl ?_
        refine Fr.call fr_noteMove rfl ?_
        refine Fr.call h22 rfl ?_
        refine fr_ite (fun c23 => ?_) (fun c23 => ?_)
        · refine Fr.call fr_touchDest rfl ?_
          refine Fr.call h11 rfl ?_
          exact Fr.refl _ _
        · refine Fr.call h11 rfl ?_
          exact Fr.refl _ _

theorem fr_execMsixUnmask {a0 a1 a2} :
    onNext (fun b => Fr 528384 a2 b) (execMsixUnmask a0 a1 a2) := by
  unfold execMsixUnmask
  extract_lets +onlyGivenNames x0
  refine onNext_ite (fun c1 => ?_) (fun c1 => ?_)
  · refine onNext_next ?_
    exact Fr.refl _ _
  · extract_lets +onlyGivenNames x2
    refine onNext_ite (fun c3 => ?_) (fun c3 => ?_)
    · refine onNext_next ?_
      refine Fr.call fr_emit rfl ?_
      refine Fr.call fr_setFn rfl ?_
      exact Fr.refl _ _
    · refine onNext_next ?_
      refine Fr.call fr_setFn rfl ?_
      exact Fr.refl _ _

theorem fr_execNack {a0 a1 a2 a3 a4} :
    onNext (fun b => Fr 15267196 a4 b) (execNack a0 a1 a2 a3 a4) := by
  unfold execNack
  split
  · rename_i i0 i1 i2 i3
    have h4 := fr_eq fr_takeFlit i3
    refine onNext_ite (fun c5 => ?_) (fun c5 => ?_)
    · refine onNext_next ?_
      refine Fr.call h4 rfl ?_
      exact Fr.refl _ _
    · refine onNext_ite (fun c6 => ?_) (fun c6 => ?_)
      · refine onNext_next ?_
        refine Fr.call fr_transit rfl ?_
        refine Fr.call h4 rfl ?_
        exact Fr.refl _ _
      · refine onNext_next ?_
        refine Fr.call fr_sendCredit rfl ?_
        refine Fr.call fr_ownRefused rfl ?_
        refine Fr.call fr_txRefused rfl ?_
        refine Fr.call h4 rfl ?_
        exact Fr.refl _ _

theorem fr_execNotBeforeRelease {a0 a1 a2} :
    onNext (fun b => Fr 32 a2 b) (execNotBeforeRelease a0 a1 a2) := by
  unfold execNotBeforeRelease
  split
  · rename_i i0 i1
    refine onNext_next ?_
    exact Fr.refl _ _
  · rename_i i2 i3 i4
    refine onNext_ite (fun c5 => ?_) (fun c5 => ?_)
    · refine onNext_next ?_
      refine Fr.call fr_putTask rfl ?_
      exact Fr.refl _ _
    · refine onNext_next ?_
      exact Fr.refl _ _

theorem fr_execOfferExpire {a0 a1} :
    onNext (fun b => Fr 131072 a1 b) (execOfferExpire a0 a1) := by
  unfold execOfferExpire
  refine onNext_ite (fun c0 => ?_) (fun c0 => ?_)
  · refine onNext_next ?_
    refine Fr.call fr_endOffer rfl ?_
    exact Fr.refl _ _
  · refine onNext_next ?_
    exact Fr.refl _ _

theorem fr_execOperatorKeyDigest {a0 a1 a2} :
    onNext (fun b => Fr 684032 a2 b) (execOperatorKeyDigest a0 a1 a2) := by
  unfold execOperatorKeyDigest
  refine fr_command rfl (fun v0 => ?_)
  refine onOk_call fr_writeDigest rfl ?_
  exact Fr.refl _ _

theorem fr_execOrbitPpsSeconds {a0 a1 a2} :
    onNext (fun b => Fr 552962 a2 b) (execOrbitPpsSeconds a0 a1 a2) := by
  unfold execOrbitPpsSeconds
  refine fr_command rfl (fun v0 => ?_)
  refine onOk_call fr_writePps rfl ?_
  exact Fr.refl _ _

theorem fr_execOrbitSource {a0 a1 a2} :
    onNext (fun b => Fr 585730 a2 b) (execOrbitSource a0 a1 a2) := by
  unfold execOrbitSource
  refine fr_command rfl (fun v0 => ?_)
  refine onOk_call fr_writeSource rfl ?_
  exact Fr.refl _ _

theorem fr_execOrbitStatRead {a0 a1} :
    onNext (fun b => Fr 552960 a1 b) (execOrbitStatRead a0 a1) := by
  unfold execOrbitStatRead
  refine fr_query rfl (fun v0 => ?_)
  refine onOk_call fr_readStat rfl ?_
  exact Fr.refl _ _

theorem fr_execOrphan {a0} :
    onNext (fun b => Fr 6880756 a0 b) (execOrphan a0) := by
  unfold execOrphan
  refine onNext_ite (fun c0 => ?_) (fun c0 => ?_)
  · refine onNext_next ?_
    refine Fr.call fr_dropLost rfl ?_
    refine Fr.call fr_raisePf rfl ?_
    refine Fr.lit ?_
    exact Fr.refl _ _
  · refine onNext_next ?_
    exact Fr.refl _ _

theorem fr_execPackRole {a0 a1 a2} :
    onNext (fun b => Fr 6880756 a2 b) (execPackRole a0 a1 a2) := by
  unfold execPackRole
  refine fr_command rfl (fun v0 => ?_)
  refine onOk_call fr_writeRole rfl ?_
  exact Fr.refl _ _

theorem fr_execPackStatRead {a0 a1} :
    onNext (fun b => Fr 552960 a1 b) (execPackStatRead a0 a1) := by
  unfold execPackStatRead
  refine fr_query rfl (fun v0 => ?_)
  refine onOk_call fr_readStat rfl ?_
  exact Fr.refl _ _

theorem fr_retireTarget {a0 a1} :
    Fr 1048576 a0 (retireTarget a0 a1).2 := by
  unfold retireTarget
  extract_lets +onlyGivenNames x0
  split
  · rename_i i1
    refine Fr.call fr_drawFrom rfl ?_
    exact Fr.refl _ _
  · rename_i i2
    refine Fr.call fr_drawFrom rfl ?_
    exact Fr.refl _ _

theorem fr_poisonedEvents {a0 a1 a2} :
    Fr 528384 a0 (poisonedEvents a0 a1 a2) := by
  unfold poisonedEvents
  refine fr_foldl ?_ (fun v0 y0 h0 => ?_)
  · exact Fr.refl _ _
  · refine fr_foldl ?_ (fun v1 y1 h1 => ?_)
    · exact h0
    · refine fr_ite (fun c2 => ?_) (fun c2 => ?_)
      · refine Fr.call fr_raiseMoon rfl ?_
        exact h1
      · exact h1

theorem fr_finishRetire {a0 a1 a2} :
    Fr 3715156 a0 (finishRetire a0 a1 a2) := by
  unfold finishRetire
  extract_lets +onlyGivenNames x0
  extract_lets +onlyGivenNames x1
  extract_lets +onlyGivenNames x2
  have h2 : Fr 3715156 a0 x2 := by
    unfold x2
    refine Fr.lit ?_
    exact Fr.refl _ _
  clear_value x2
  split
  · rename_i i3 i4 i5
    have h6 := fr_eq fr_retireTarget i5
    extract_lets +onlyGivenNames x7
    have h7 : Fr 3715156 a0 x7 := by
      unfold x7
      refine Fr.call fr_mapEntries rfl ?_
      refine Fr.call fr_setPage rfl ?_
      refine Fr.call h6 rfl ?_
      exact h2
    clear_value x7
    refine Fr.call fr_jMust rfl ?_
    exact h7
  · rename_i i8 i9 i10 i11
    have h12 := fr_eq fr_retireTarget i11
    extract_lets +onlyGivenNames x13
    extract_lets +onlyGivenNames x14
    have h14 : Fr 3715156 a0 x14 := by
      unfold x14
      refine Fr.call fr_setPage rfl ?_
      refine Fr.call h12 rfl ?_
      exact h2
    clear_value x14
    extract_lets +onlyGivenNames x15
    extract_lets +onlyGivenNames x16
    have h16 : Fr 3715156 a0 x16 := by
      unfold x16
      refine Fr.litW ?_ ?_ ?_ ?_ ?_ ?_ <;> first | exact id | exact List.prefix_refl _ | exact Nat.le_refl _ | skip
      · exact h14
      · exact fun w => memWf_memPut (memWf_memZero w)
    clear_value x16
    extract_lets +onlyGivenNames x17
    have h17 : Fr 3715156 a0 x17 := by
      unfold x17
      split
      · rename_i i18 i19 i20 i21
        refine Fr.call fr_modMoon rfl ?_
        exact h16
      · rename_i i22 i23
        exact h16
    clear_value x17
    extract_lets +onlyGivenNames x24
    have h24 : Fr 3715156 a0 x24 := by
      unfold x24
      refine fr_ite (fun c25 => ?_) (fun c25 => ?_)
      · exact h17
      · refine Fr.call fr_poisonedEvents rfl ?_
        exact h17
    clear_value x24
    extract_lets +onlyGivenNames x26
    have h26 : Fr 3715156 a0 x26 := by
      unfold x26
      refine Fr.call fr_mapEntries rfl ?_
      exact h24
    clear_value x26
    refine Fr.call fr_retirePage rfl ?_
    exact h26

theorem fr_execPageRetireDone {a0 a1 a2 a3} :
    onNext (fun b => Fr 3715156 a3 b) (execPageRetireDone a0 a1 a2 a3) := by
  unfold execPageRetireDone
  extract_lets +onlyGivenNames x0
  refine onNext_ite (fun c1 => ?_) (fun c1 => ?_)
  · refine onNext_next ?_
    refine Fr.call fr_finishRetire rfl ?_
    exact Fr.refl _ _
  · refine onNext_next ?_
    exact Fr.refl _ _

theorem fr_execPerstNDeassert {a0} :
    onNext (fun b => Fr 1060864 a0 b) (execPerstNDeassert a0) := by
  unfold execPerstNDeassert
  refine onNext_next ?_
  refine Fr.call fr_retrainHost rfl ?_
  refine Fr.call fr_modHost rfl ?_
  exact Fr.refl _ _

theorem fr_takePipeCmd {a0 a1 a2} :
    onNext (fun b => Fr 545056 a0 b) (takePipeCmd a0 a1 a2) := by
  unfold takePipeCmd
  extract_lets +onlyGivenNames x0
  split
  · rename_i i1 i2
    refine onNext_next ?_
    exact Fr.refl _ _
  · rename_i i3 i4 i5
    refine onNext_ite (fun c6 => ?_) (fun c6 => ?_)
    · refine onNext_next ?_
      exact Fr.refl _ _
    · split
      · rename_i i7 i8 i9
        refine fr_pipeRes rfl ?_ ?_
        · exact Fr.refl _ _
        · exact onOk_error
      · rename_i i10 i11
        refine onNext_next ?_
        exact Fr.refl _ _
      · rename_i i12 i13 i14
        extract_lets +onlyGivenNames x15
        refine onNext_ite (fun c16 => ?_) (fun c16 => ?_)
        · refine onNext_next ?_
          exact Fr.refl _ _
        · split
          · rename_i i17 i18
            refine onNext_next ?_
            refine Fr.call fr_pipeHalt rfl ?_
            exact Fr.refl _ _
          · rename_i i19 i20 i21 i22
            refine fr_pipeRes rfl ?_ ?_
            · exact Fr.refl _ _
            · refine onOk_bind (fun b23 q23 => ?_)
              refine onOk_ok ?_
              refine fr_ite (fun c24 => ?_) (fun c24 => ?_)
              · refine Fr.call fr_setTrain rfl ?_
                exact Fr.refl _ _
              · refine Fr.call fr_pipeHalt rfl ?_
                exact Fr.refl _ _
          · rename_i i25 i26 i27 i28
            refine onNext_next ?_
            refine Fr.call fr_noteWait rfl ?_
            refine Fr.call fr_setTrain rfl ?_
            exact Fr.refl _ _

theorem fr_execPipeCmdBwd {a0 a1} :
    onNext (fun b => Fr 545056 a1 b) (execPipeCmdBwd a0 a1) := by
  unfold execPipeCmdBwd
  refine onNext_call fr_takePipeCmd rfl ?_
  exact Fr.refl _ _

theorem fr_execPipeCmdFwd {a0 a1} :
    onNext (fun b => Fr 545056 a1 b) (execPipeCmdFwd a0 a1) := by
  unfold execPipeCmdFwd
  refine onNext_call fr_takePipeCmd rfl ?_
  exact Fr.refl _ _

theorem fr_execPipeCmdUpdate {a0 a1} :
    onNext (fun b => Fr 545056 a1 b) (execPipeCmdUpdate a0 a1) := by
  unfold execPipeCmdUpdate
  refine onNext_call fr_takePipeCmd rfl ?_
  exact Fr.refl _ _

theorem fr_execPipeCtx {a0 a1 a2 a3} :
    onNext (fun b => Fr 553216 a3 b) (execPipeCtx a0 a1 a2 a3) := by
  unfold execPipeCtx
  extract_lets +onlyGivenNames x0
  refine fr_command rfl (fun v1 => ?_)
  refine onOk_call fr_writePipeCtx rfl ?_
  exact Fr.refl _ _

theorem fr_execPipeDrain {a0 a1 a2} :
    onNext (fun b => Fr 553248 a2 b) (execPipeDrain a0 a1 a2) := by
  unfold execPipeDrain
  extract_lets +onlyGivenNames x0
  refine fr_command rfl (fun v1 => ?_)
  refine onOk_call fr_pipeDrain rfl ?_
  exact Fr.refl _ _

theorem fr_execPipeReset {a0 a1 a2} :
    onNext (fun b => Fr 6844720 a2 b) (execPipeReset a0 a1 a2) := by
  unfold execPipeReset
  extract_lets +onlyGivenNames x0
  refine fr_command rfl (fun v1 => ?_)
  refine onOk_call fr_pipeReset rfl ?_
  exact Fr.refl _ _

theorem fr_execPipeRetry {a0 a1 a2} :
    onNext (fun b => Fr 6844720 a2 b) (execPipeRetry a0 a1 a2) := by
  unfold execPipeRetry
  extract_lets +onlyGivenNames x0
  refine fr_command rfl (fun v1 => ?_)
  refine onOk_call fr_pipeRetry rfl ?_
  exact Fr.refl _ _

theorem fr_execPipeStart {a0 a1 a2} :
    onNext (fun b => Fr 6844720 a2 b) (execPipeStart a0 a1 a2) := by
  unfold execPipeStart
  extract_lets +onlyGivenNames x0
  refine fr_command rfl (fun v1 => ?_)
  refine onOk_call fr_pipeStart rfl ?_
  exact Fr.refl _ _

theorem fr_execPlcaBeacon {a0 a1} :
    onNext (fun b => Fr 8192 a1 b) (execPlcaBeacon a0 a1) := by
  unfold execPlcaBeacon
  refine onNext_ite (fun c0 => ?_) (fun c0 => ?_)
  · refine onNext_next ?_
    refine Fr.call fr_modDict rfl ?_
    exact Fr.refl _ _
  · refine onNext_next ?_
    exact Fr.refl _ _

theorem fr_execPlcaBeaconTimeout {a0 a1} :
    onNext (fun b => Fr 8192 a1 b) (execPlcaBeaconTimeout a0 a1) := by
  unfold execPlcaBeaconTimeout
  refine onNext_ite (fun c0 => ?_) (fun c0 => ?_)
  · refine onNext_next ?_
    refine Fr.call fr_modDict rfl ?_
    exact Fr.refl _ _
  · refine onNext_next ?_
    exact Fr.refl _ _

theorem fr_resendArrivals {a0} :
    Fr 525312 a0 (resendArrivals a0) := by
  unfold resendArrivals
  refine fr_foldl ?_ (fun v0 y0 h0 => ?_)
  · exact Fr.refl _ _
  · split
    · rename_i i1 i2 i3
      refine fr_ite (fun c4 => ?_) (fun c4 => ?_)
      · exact h0
      · refine Fr.call fr_sendCtl rfl ?_
        exact h0
    · rename_i i5 i6
      exact h0

theorem fr_execPoll {a0 a1 a2} :
    onNext (fun b => Fr 6880756 a2 b) (execPoll a0 a1 a2) := by
  unfold execPoll
  refine onNext_ite (fun c0 => ?_) (fun c0 => ?_)
  · refine onNext_next ?_
    exact Fr.refl _ _
  · extract_lets +onlyGivenNames x1
    extract_lets +onlyGivenNames x2
    extract_lets +onlyGivenNames x3
    extract_lets +onlyGivenNames x4
    extract_lets +onlyGivenNames x5
    have h5 : Fr 6880756 a2 x5 := by
      unfold x5
      refine Fr.lit ?_
      exact Fr.refl _ _
    clear_value x5
    extract_lets +onlyGivenNames x6
    have h6 : Fr 6880756 a2 x6 := by
      unfold x6
      refine fr_ite (fun c7 => ?_) (fun c7 => ?_)
      · refine Fr.call fr_raisePf rfl ?_
        exact h5
      · exact h5
    clear_value x6
    extract_lets +onlyGivenNames x8
    have h8 : Fr 6880756 a2 x8 := by
      unfold x8
      refine Fr.call fr_dropLost rfl ?_
      refine fr_ite (fun c9 => ?_) (fun c9 => ?_)
      · refine Fr.call fr_resendArrivals rfl ?_
        exact h6
      · exact h6
    clear_value x8
    extract_lets +onlyGivenNames x10
    refine onNext_next ?_
    refine Fr.call fr_sendCtl rfl ?_
    exact h8

theorem fr_execPollMiss {a0 a1} :
    onNext (fun b => Fr 538624 a1 b) (execPollMiss a0 a1) := by
  unfold execPollMiss
  split
  · rename_i i0 i1 i2
    refine onNext_ite (fun c3 => ?_) (fun c3 => ?_)
    · refine onNext_next ?_
      refine Fr.call fr_pollMissed rfl ?_
      exact Fr.refl _ _
    · refine onNext_next ?_
      exact Fr.refl _ _
  · rename_i i4 i5
    refine onNext_next ?_
    exact Fr.refl _ _

theorem fr_sendPoll {a0 a1} :
    Fr 539648 a0 (sendPoll a0 a1) := by
  unfold sendPoll
  extract_lets +onlyGivenNames x0
  have h0 : Fr 539648 a0 x0 := by
    unfold x0
    refine fr_ite (fun c1 => ?_) (fun c1 => ?_)
    · refine Fr.call fr_pollMissed rfl ?_
      exact Fr.refl _ _
    · exact Fr.refl _ _
  clear_value x0
  extract_lets +onlyGivenNames x2
  extract_lets +onlyGivenNames x3
  extract_lets +onlyGivenNames x4
  extract_lets +onlyGivenNames x5
  extract_lets +onlyGivenNames x6
  extract_lets +onlyGivenNames x7
  have h7 : Fr 539648 a0 x7 := by
    unfold x7
    refine Fr.call fr_setMember rfl ?_
    refine Fr.lit ?_
    exact h0
  clear_value x7
  refine Fr.call fr_sendCtl rfl ?_
  exact h7

theorem fr_execPollSend {a0} :
    onNext (fun b => Fr 539648 a0 b) (execPollSend a0) := by
  unfold execPollSend
  refine fr_whenUp ?_ ?_
  · exact Fr.refl _ _
  · refine fr_ite (fun c0 => ?_) (fun c0 => ?_)
    · refine fr_foldl ?_ (fun v1 y1 h1 => ?_)
      · exact Fr.refl _ _
      · refine Fr.call fr_sendPoll rfl ?_
        exact h1
    · exact Fr.refl _ _

theorem fr_measureInput {a0 a1} :
    Fr 17313796 a0 (measureInput a0 a1) := by
  unfold measureInput
  extract_lets +onlyGivenNames x0
  extract_lets +onlyGivenNames x1
  extract_lets +onlyGivenNames x2
  have h2 : Fr 17313796 a0 x2 := by
    unfold x2
    refine Fr.call fr_modPower rfl ?_
    exact Fr.refl _ _
  clear_value x2
  extract_lets +onlyGivenNames x3
  have h3 : Fr 17313796 a0 x3 := by
    unfold x3
    refine Fr.call fr_setParam rfl ?_
    exact h2
  clear_value x3
  extract_lets +onlyGivenNames x4
  have h4 : Fr 17313796 a0 x4 := by
    unfold x4
    refine Fr.call fr_setParam rfl ?_
    exact h3
  clear_value x4
  extract_lets +onlyGivenNames x5
  have h5 : Fr 17313796 a0 x5 := by
    unfold x5
    refine Fr.call fr_setParam rfl ?_
    exact h4
  clear_value x5
  extract_lets +onlyGivenNames x6
  extract_lets +onlyGivenNames x7
  have h7 : Fr 17313796 a0 x7 := by
    unfold x7
    refine Fr.call fr_modPower rfl ?_
    exact h5
  clear_value x7
  refine fr_ite (fun c8 => ?_) (fun c8 => ?_)
  · exact h7
  · refine Fr.call fr_incA rfl ?_
    exact h7

theorem fr_execPowerControlUpdate {a0 a1} :
    onNext (fun b => Fr 17330180 a1 b) (execPowerControlUpdate a0 a1) := by
  unfold execPowerControlUpdate
  refine onNext_ite (fun c0 => ?_) (fun c0 => ?_)
  · refine onNext_next ?_
    exact Fr.refl _ _
  · refine onNext_ite (fun c1 => ?_) (fun c1 => ?_)
    · refine onNext_next ?_
      refine Fr.call fr_measureInput rfl ?_
      exact Fr.refl _ _
    · extract_lets +onlyGivenNames x2
      have h2 : Fr 17330180 a1 x2 := by
        unfold x2
        refine Fr.call fr_measureInput rfl ?_
        exact Fr.refl _ _
      clear_value x2
      extract_lets +onlyGivenNames x3
      have h3 : Fr 17330180 a1 x3 := by
        unfold x3
        split
        · rename_i i4 i5 i6 i7
          refine Fr.call fr_measureStep rfl ?_
          exact h2
        · rename_i i8 i9
          exact h2
      clear_value x3
      extract_lets +onlyGivenNames x10
      extract_lets +onlyGivenNames x11
      have h11 : Fr 17330180 a1 x11 := by
        unfold x11
        refine fr_ite (fun c12 => ?_) (fun c12 => ?_)
        · exact h3
        · refine Fr.call fr_incB rfl ?_
          exact h3
      clear_value x11
      extract_lets +onlyGivenNames x13
      have h13 : Fr 17330180 a1 x13 := by
        unfold x13
        refine fr_ite (fun c14 => ?_) (fun c14 => ?_)
        · refine Fr.call fr_incB rfl ?_
          exact h11
        · exact h11
      clear_value x13
      extract_lets +onlyGivenNames x15
      extract_lets +onlyGivenNames x16
      have h16 : Fr 17330180 a1 x16 := by
        unfold x16
        clear_value x15
        split
        · rename_i i17 i18 i19 i20
          exact h13
        · rename_i i21 i22 i23 i24 i25
          refine Fr.call fr_setParam rfl ?_
          exact h13
        · rename_i i26 i27 i28 i29
          refine Fr.call fr_setParam rfl ?_
          exact h13
      clear_value x16
      extract_lets +onlyGivenNames x30
      extract_lets +onlyGivenNames x31
      extract_lets +onlyGivenNames x32
      extract_lets +onlyGivenNames x33
      extract_lets +onlyGivenNames x34
      have h34 : Fr 17330180 a1 x34 := by
        unfold x34
        refine fr_ite (fun c35 => ?_) (fun c35 => ?_)
        · refine Fr.call fr_incB rfl ?_
          exact h16
        · exact h16
      clear_value x34
      extract_lets +onlyGivenNames x36
      refine onNext_next ?_
      refine Fr.call fr_modPower rfl ?_
      exact h34

theorem fr_powerOff {a0} :
    Fr 67108862 a0 (powerOff a0) := by
  unfold powerOff
  extract_lets +onlyGivenNames x0
  have h0 : Fr 67108862 a0 x0 := by
    unfold x0
    refine fr_ite (fun c1 => ?_) (fun c1 => ?_)
    · refine Fr.call fr_jCommit rfl ?_
      refine Fr.call fr_jAppend rfl ?_
      exact Fr.refl _ _
    · exact Fr.refl _ _
  clear_value x0
  refine Fr.call fr_modPower rfl ?_
  refine Fr.call fr_coldState rfl ?_
  exact h0

theorem fr_execPowerFailDetect {a0} :
    onNext (fun b => Fr 67108862 a0 b) (execPowerFailDetect a0) := by
  unfold execPowerFailDetect
  refine onNext_ite (fun c0 => ?_) (fun c0 => ?_)
  · refine onNext_next ?_
    exact Fr.refl _ _
  · refine onNext_next ?_
    refine Fr.call fr_powerOff rfl ?_
    exact Fr.refl _ _

theorem fr_putParam {a0 a1 a2} :
    Fr 11264 a0 (putParam a0 a1 a2) := by
  unfold putParam
  split
  · rename_i i0 i1
    refine Fr.lit ?_
    exact Fr.refl _ _
  · rename_i i2 i3
    refine Fr.call fr_setMember rfl ?_
    refine Fr.call fr_putKey rfl ?_
    exact Fr.refl _ _
  · rename_i i4 i5 i6
    refine Fr.call fr_putKey rfl ?_
    exact Fr.refl _ _

theorem fr_putBlob {a0 a1 a2} :
    Fr 10240 a0 (putBlob a0 a1 a2) := by
  unfold putBlob
  extract_lets +onlyGivenNames x0
  split
  · rename_i i1 i2
    refine Fr.call fr_setBarrier rfl ?_
    exact Fr.refl _ _
  · rename_i i3 i4
    refine Fr.call fr_setBarrier rfl ?_
    exact Fr.refl _ _
  · rename_i i5 i6 i7
    refine Fr.lit ?_
    exact Fr.refl _ _

theorem fr_putHealth {a0 a1 a2 a3 a4} :
    Fr 10240 a0 (putHealth a0 a1 a2 a3 a4) := by
  unfold putHealth
  extract_lets +onlyGivenNames x0
  extract_lets +onlyGivenNames x1
  extract_lets +onlyGivenNames x2
  have h2 : Fr 10240 a0 x2 := by
    unfold x2
    refine Fr.call fr_setMember rfl ?_
    exact Fr.refl _ _
  clear_value x2
  refine Fr.call fr_putKey rfl ?_
  refine Fr.call fr_putKey rfl ?_
  refine Fr.call fr_putKey rfl ?_
  exact h2

theorem fr_loadRecord {a0 a1} :
    Fr 16788484 a0 (loadRecord a0 a1) := by
  unfold loadRecord
  split
  · rename_i i0 i1 i2 i3 i4 i5 i6
    refine Fr.call fr_putKey rfl ?_
    exact Fr.refl _ _
  · rename_i i7 i8 i9 i10 i11 i12
    refine Fr.call fr_putKey rfl ?_
    exact Fr.refl _ _
  · rename_i i13 i14 i15 i16
    refine Fr.call fr_putParam rfl ?_
    exact Fr.refl _ _
  · rename_i i17 i18 i19 i20
    refine Fr.call fr_putBlob rfl ?_
    exact Fr.refl _ _
  · rename_i i21 i22 i23
    refine Fr.lit ?_
    exact Fr.refl _ _
  · rename_i i24 i25 i26
    refine fr_foldl ?_ (fun v27 y27 h27 => ?_)
    · exact Fr.refl _ _
    · refine Fr.call fr_putKey rfl ?_
      exact h27
  · rename_i i28 i29 i30 i31 i32 i33
    refine Fr.call fr_putHealth rfl ?_
    exact Fr.refl _ _
  · rename_i i34 i35 i36
    refine Fr.call fr_modPower rfl ?_
    exact Fr.refl _ _
  · rename_i i37 i38 i39
    exact Fr.refl _ _
  · rename_i i40 i41 i42 i43
    exact Fr.refl _ _
  · rename_i i44 i45 i46 i47 i48 i49
    exact Fr.refl _ _
  · rename_i i50 i51 i52 i53 i54
    exact Fr.refl _ _
  · rename_i i55 i56 i57
    exact Fr.refl _ _
  · rename_i i58 i59 i60 i61 i62 i63
    exact Fr.refl _ _
  · rename_i i64 i65 i66 i67 i68 i69
    exact Fr.refl _ _
  · rename_i i70 i71 i72
    exact Fr.refl _ _
  · rename_i i73 i74 i75 i76 i77
    exact Fr.refl _ _
  · rename_i i78 i79 i80 i81
    exact Fr.refl _ _
  · rename_i i82 i83 i84 i85 i86 i87
    exact Fr.refl _ _

theorem fr_loadValues {a0} :
    Fr 16788484 a0 (loadValues a0) := by
  unfold loadValues
  refine fr_ite (fun c0 => ?_) (fun c0 => ?_)
  · refine fr_foldl ?_ (fun v1 y1 h1 => ?_)
    · exact Fr.refl _ _
    · refine Fr.call fr_loadRecord rfl ?_
      exact h1
  · exact Fr.refl _ _

theorem fr_selectRegion {a0 a1} :
    Fr 32768 a0 (selectRegion a0 a1) := by
  unfold selectRegion
  extract_lets +onlyGivenNames x0
  extract_lets +onlyGivenNames x1
  have h1 : Fr 32768 a0 x1 := by
    unfold x1
    refine Fr.call fr_modJournal rfl ?_
    exact Fr.refl _ _
  clear_value x1
  split
  · rename_i i2 i3
    exact h1
  · rename_i i4 i5 i6
    refine fr_ite (fun c7 => ?_) (fun c7 => ?_)
    · exact h1
    · extract_lets +onlyGivenNames x8
      refine Fr.call fr_modJournal rfl ?_
      exact h1

theorem fr_startUp {a0 a1} :
    Fr 67108862 a0 (startUp a0 a1) := by
  unfold startUp
  extract_lets +onlyGivenNames x0
  have h0 : Fr 67108862 a0 x0 := by
    unfold x0
    refine Fr.call fr_modPower rfl ?_
    refine Fr.call fr_coldState rfl ?_
    exact Fr.refl _ _
  clear_value x0
  refine fr_ite (fun c1 => ?_) (fun c1 => ?_)
  · refine Fr.call fr_modPower rfl ?_
    exact h0
  · refine Fr.call fr_bootRom rfl ?_
    refine Fr.call fr_loadValues rfl ?_
    refine Fr.call fr_selectRegion rfl ?_
    refine Fr.call fr_modPower rfl ?_
    exact h0

theorem fr_execPowerFailRestart {a0 a1} :
    onNext (fun b => Fr 67108862 a1 b) (execPowerFailRestart a0 a1) := by
  unfold execPowerFailRestart
  refine onNext_next ?_
  refine fr_ite (fun c0 => ?_) (fun c0 => ?_)
  · refine Fr.call fr_startUp rfl ?_
    exact Fr.refl _ _
  · exact Fr.refl _ _

theorem fr_execPowerStatRead {a0 a1} :
    onNext (fun b => Fr 552960 a1 b) (execPowerStatRead a0 a1) := by
  unfold execPowerStatRead
  refine fr_query rfl (fun v0 => ?_)
  refine onOk_call fr_readStat rfl ?_
  exact Fr.refl _ _

theorem fr_rejectEdge {a0} :
    Fr 544768 a0 (rejectEdge a0) := by
  unfold rejectEdge
  refine Fr.call fr_incB rfl ?_
  exact Fr.refl _ _

theorem fr_execPpsEdge {a0} :
    onNext (fun b => Fr 544770 a0 b) (execPpsEdge a0) := by
  unfold execPpsEdge
  extract_lets +onlyGivenNames x0
  refine onNext_ite (fun c1 => ?_) (fun c1 => ?_)
  · refine onNext_next ?_
    exact Fr.refl _ _
  · refine onNext_ite (fun c2 => ?_) (fun c2 => ?_)
    · refine onNext_next ?_
      refine Fr.call fr_rejectEdge rfl ?_
      exact Fr.refl _ _
    · split
      · rename_i i3 i4
        refine onNext_next ?_
        refine fr_ite (fun c5 => ?_) (fun c5 => ?_)
        · refine Fr.call fr_acceptEdge rfl ?_
          exact Fr.refl _ _
        · exact Fr.refl _ _
      · rename_i i6 i7
        extract_lets +onlyGivenNames x8
        refine onNext_next ?_
        refine fr_ite (fun c9 => ?_) (fun c9 => ?_)
        · refine Fr.call fr_acceptEdge rfl ?_
          exact Fr.refl _ _
        · refine Fr.call fr_rejectEdge rfl ?_
          exact Fr.refl _ _
      · rename_i i10 i11
        extract_lets +onlyGivenNames x12
        refine onNext_next ?_
        refine fr_ite (fun c13 => ?_) (fun c13 => ?_)
        · refine Fr.call fr_acceptEdge rfl ?_
          exact Fr.refl _ _
        · refine Fr.call fr_rejectEdge rfl ?_
          exact Fr.refl _ _

theorem fr_execPpsHoldover {a0} :
    onNext (fun b => Fr 528386 a0 b) (execPpsHoldover a0) := by
  unfold execPpsHoldover
  extract_lets +onlyGivenNames x0
  refine onNext_ite (fun c1 => ?_) (fun c1 => ?_)
  · refine onNext_next ?_
    refine Fr.call fr_enterHoldover rfl ?_
    exact Fr.refl _ _
  · refine onNext_next ?_
    exact Fr.refl _ _

theorem fr_execPrecopyDone {a0 a1} :
    onNext (fun b => Fr 2686964 a1 b) (execPrecopyDone a0 a1) := by
  unfold execPrecopyDone
  extract_lets +onlyGivenNames x0
  refine onNext_ite (fun c1 => ?_) (fun c1 => ?_)
  · refine onNext_next ?_
    refine fr_ite (fun c2 => ?_) (fun c2 => ?_)
    · refine Fr.call fr_sendPages rfl ?_
      exact Fr.refl _ _
    · refine Fr.call fr_handover rfl ?_
      exact Fr.refl _ _
  · refine onNext_next ?_
    exact Fr.refl _ _

theorem fr_stopPass {a0 a1 a2 a3} :
    onSome (fun b : (Sys2Proof.Machine.State × Sys2Proof.Machine.WorkUnit × Nat) => Fr 1048576 a0 b.1) (stopPass a0 a1 a2 a3) := by
  unfold stopPass
  split
  · rename_i i0 i1 i2
    exact onSome_none
  · rename_i i3 i4 i5
    extract_lets +onlyGivenNames x6
    extract_lets +onlyGivenNames x7
    extract_lets +onlyGivenNames x8
    extract_lets +onlyGivenNames x9
    refine onSome_ite (fun c10 => ?_) (fun c10 => ?_)
    · exact onSome_none
    · extract_lets +onlyGivenNames x11
      split
      · rename_i i12 i13 i14 i15
        refine onSome_some ?_
        refine fr_fst ?_
        refine Fr.lit ?_
        exact Fr.refl _ _

theorem fr_suspendUnit {a0 a1 a2 a3} :
    Fr 6836272 a0 (suspendUnit a0 a1 a2 a3) := by
  unfold suspendUnit
  extract_lets +onlyGivenNames x0
  extract_lets +onlyGivenNames x1
  have h1 : Fr 6836272 a0 x1 := by
    unfold x1
    refine Fr.call fr_writeBack rfl ?_
    refine Fr.call fr_cometPause rfl ?_
    exact Fr.refl _ _
  clear_value x1
  extract_lets +onlyGivenNames x2
  extract_lets +onlyGivenNames x3
  extract_lets +onlyGivenNames x4
  extract_lets +onlyGivenNames x5
  have h5 : Fr 6836272 a0 x5 := by
    unfold x5
    refine Fr.call fr_incB rfl ?_
    refine Fr.lit ?_
    exact h1
  clear_value x5
  refine Fr.call fr_putTask rfl ?_
  exact h5

theorem fr_suspendAt {a0 a1 a2} :
    Fr 7884848 a0 (suspendAt a0 a1 a2) := by
  unfold suspendAt
  split
  · rename_i i0 i1 i2 i3 i4 i5
    refine fr_ite (fun c6 => ?_) (fun c6 => ?_)
    · split
      · rename_i i7 i8 i9 i10 i11
        have h12 := fr_stopPass _ i11
        refine Fr.call fr_suspendUnit rfl ?_
        refine Fr.call fr_countPass rfl ?_
        refine Fr.call h12 rfl ?_
        exact Fr.refl _ _
      · rename_i i13 i14
        exact Fr.refl _ _
    · refine Fr.call fr_suspendUnit rfl ?_
      exact Fr.refl _ _
  · rename_i i16 i17 i18
    exact Fr.refl _ _

theorem fr_execPreemptionBoundary {a0 a1 a2} :
    onNext (fun b => Fr 7884920 a2 b) (execPreemptionBoundary a0 a1 a2) := by
  unfold execPreemptionBoundary
  extract_lets +onlyGivenNames x0
  refine onNext_ite (fun c1 => ?_) (fun c1 => ?_)
  · refine onNext_next ?_
    exact Fr.refl _ _
  · extract_lets +onlyGivenNames x2
    extract_lets +onlyGivenNames x3
    have h3 : Fr 7884920 a2 x3 := by
      unfold x3
      refine fr_foldl ?_ (fun v4 y4 h4 => ?_)
      · exact Fr.refl _ _
      · refine Fr.call fr_suspendAt rfl ?_
        exact h4
    clear_value x3
    extract_lets +onlyGivenNames x5
    have h5 : Fr 7884920 a2 x5 := by
      unfold x5
      refine Fr.call fr_modMoon rfl ?_
      exact h3
    clear_value x5
    refine onNext_ite (fun c6 => ?_) (fun c6 => ?_)
    · refine onNext_next ?_
      exact h5
    · refine onNext_next ?_
      refine Fr.call fr_offerCores rfl ?_
      refine Fr.call fr_offerCores rfl ?_
      exact h5

theorem fr_execProtect {a0 a1 a2 a3} :
    onNext (fun b => Fr 3731540 a3 b) (execProtect a0 a1 a2 a3) := by
  unfold execProtect
  refine onNext_call fr_execPage rfl ?_
  exact Fr.refl _ _

theorem fr_execPtpAnnounce {a0 a1 a2} :
    onNext (fun b => Fr 2 a2 b) (execPtpAnnounce a0 a1 a2) := by
  unfold execPtpAnnounce
  refine onNext_ite (fun c0 => ?_) (fun c0 => ?_)
  · refine onNext_next ?_
    exact Fr.refl _ _
  · refine onNext_next ?_
    refine Fr.call fr_modOrbit rfl ?_
    exact Fr.refl _ _

theorem fr_execPtpDelayResp {a0 a1} :
    onNext (fun b => Fr 2 a1 b) (execPtpDelayResp a0 a1) := by
  unfold execPtpDelayResp
  split
  · rename_i i0 i1
    refine onNext_next ?_
    exact Fr.refl _ _
  · rename_i i2 i3 i4 i5 i6
    refine onNext_ite (fun c7 => ?_) (fun c7 => ?_)
    · refine onNext_next ?_
      exact Fr.refl _ _
    · refine onNext_next ?_
      refine Fr.call fr_modOrbit rfl ?_
      exact Fr.refl _ _

theorem fr_execPtpSync {a0 a1 a2} :
    onNext (fun b => Fr 524290 a2 b) (execPtpSync a0 a1 a2) := by
  unfold execPtpSync
  refine onNext_ite (fun c0 => ?_) (fun c0 => ?_)
  · refine onNext_next ?_
    exact Fr.refl _ _
  · refine onNext_next ?_
    refine Fr.call fr_modOrbit rfl ?_
    refine Fr.call fr_emit rfl ?_
    exact Fr.refl _ _

theorem fr_execPtpSyncTimeout {a0} :
    onNext (fun b => Fr 528386 a0 b) (execPtpSyncTimeout a0) := by
  unfold execPtpSyncTimeout
  refine onNext_ite (fun c0 => ?_) (fun c0 => ?_)
  · refine onNext_next ?_
    exact Fr.refl _ _
  · extract_lets +onlyGivenNames x1
    have h1 : Fr 528386 a0 x1 := by
      unfold x1
      refine Fr.call fr_modOrbit rfl ?_
      exact Fr.refl _ _
    clear_value x1
    refine onNext_next ?_
    refine fr_ite (fun c2 => ?_) (fun c2 => ?_)
    · refine Fr.call fr_enterHoldover rfl ?_
      exact h1
    · exact h1

theorem fr_execRead {a0 a1 a2 a3} :
    onNext (fun b => Fr 66846718 a3 b) (execRead a0 a1 a2 a3) := by
  unfold execRead
  refine onNext_call fr_serveItem rfl ?_
  exact Fr.refl _ _

theorem fr_refuseLate {a0 a1} :
    Fr 586868 a0 (refuseLate a0 a1) := by
  unfold refuseLate
  extract_lets +onlyGivenNames x0
  extract_lets +onlyGivenNames x1
  extract_lets +onlyGivenNames x2
  have h2 : Fr 586868 a0 x2 := by
    unfold x2
    refine Fr.call fr_modMoon rfl ?_
    exact Fr.refl _ _
  clear_value x2
  extract_lets +onlyGivenNames x3
  extract_lets +onlyGivenNames x4
  have h4 : Fr 586868 a0 x4 := by
    unfold x4
    refine Fr.lit ?_
    exact h2
  clear_value x4
  extract_lets +onlyGivenNames x5
  have h5 : Fr 586868 a0 x5 := by
    unfold x5
    refine fr_foldl ?_ (fun v6 y6 h6 => ?_)
    · exact h4
    · refine Fr.call fr_refuseChunk rfl ?_
      exact h6
  clear_value x5
  extract_lets +onlyGivenNames x7
  have h7 : Fr 586868 a0 x7 := by
    unfold x7
    refine fr_foldl ?_ (fun v8 y8 h8 => ?_)
    · exact h5
    · split
      · rename_i i9 i10 i11 i12 i13
        refine Fr.call fr_sendCredit rfl ?_
        refine Fr.call fr_refuseChunk rfl ?_
        exact h8
  clear_value x7
  refine fr_foldl ?_ (fun v14 y14 h14 => ?_)
  · exact h7
  · refine Fr.call fr_returnHeld rfl ?_
    exact h14

theorem fr_execReadyReceived {a0 a1} :
    onNext (fun b => Fr 586868 a1 b) (execReadyReceived a0 a1) := by
  unfold execReadyReceived
  extract_lets +onlyGivenNames x0
  refine onNext_ite (fun c1 => ?_) (fun c1 => ?_)
  · extract_lets +onlyGivenNames x2
    have h2 : Fr 586868 a1 x2 := by
      unfold x2
      refine Fr.call fr_refuseLate rfl ?_
      refine Fr.call fr_dropPrecopy rfl ?_
      refine Fr.call fr_handshake rfl ?_
      exact Fr.refl _ _
    clear_value x2
    extract_lets +onlyGivenNames x3
    have h3 : Fr 586868 a1 x3 := by
      unfold x3
      refine Fr.call fr_closeSpan rfl ?_
      exact h2
    clear_value x3
    extract_lets +onlyGivenNames x4
    have h4 : Fr 586868 a1 x4 := by
      unfold x4
      refine Fr.call fr_modLedger rfl ?_
      exact h3
    clear_value x4
    refine onNext_next ?_
    refine Fr.call fr_modMoon rfl ?_
    exact h4
  · refine onNext_next ?_
    exact Fr.refl _ _

theorem fr_execRecoveryImage {a0 a1} :
    onNext (fun b => Fr 66846716 a1 b) (execRecoveryImage a0 a1) := by
  unfold execRecoveryImage
  split
  · rename_i i0 i1
    refine onNext_next ?_
    exact Fr.refl _ _
  · rename_i i2 i3 i4
    refine onNext_ite (fun c5 => ?_) (fun c5 => ?_)
    · refine onNext_next ?_
      exact Fr.refl _ _
    · extract_lets +onlyGivenNames x6
      extract_lets +onlyGivenNames x7
      have h7 : Fr 66846716 a1 x7 := by
        unfold x7
        refine fr_modFw ?_ rfl ?_
        · exact Nat.le_refl _
        · exact Fr.refl _ _
      clear_value x7
      refine onNext_ite (fun c8 => ?_) (fun c8 => ?_)
      · refine onNext_next ?_
        refine Fr.call fr_raiseServed rfl ?_
        exact h7
      · refine onNext_next ?_
        refine Fr.call fr_bootRun rfl ?_
        refine fr_modFw ?_ rfl ?_
        · exact Nat.le_refl _
        · exact h7

theorem fr_execRefLoss {a0} :
    onNext (fun b => Fr 2 a0 b) (execRefLoss a0) := by
  unfold execRefLoss
  refine onNext_ite (fun c0 => ?_) (fun c0 => ?_)
  · refine onNext_next ?_
    exact Fr.refl _ _
  · refine onNext_next ?_
    refine Fr.call fr_modOrbit rfl ?_
    exact Fr.refl _ _

theorem fr_execRefWindow {a0 a1} :
    onNext (fun b => Fr 2 a1 b) (execRefWindow a0 a1) := by
  unfold execRefWindow
  refine onNext_ite (fun c0 => ?_) (fun c0 => ?_)
  · refine onNext_next ?_
    exact Fr.refl _ _
  · refine onNext_next ?_
    refine Fr.call fr_modOrbit rfl ?_
    exact Fr.refl _ _

theorem fr_writeBme {a0 a1 a2} :
    Fr 528384 a2 (writeBme a0 a1 a2) := by
  unfold writeBme
  extract_lets +onlyGivenNames x0
  have h0 : Fr 528384 a2 x0 := by
    unfold x0
    refine Fr.call fr_modFn rfl ?_
    exact Fr.refl _ _
  clear_value x0
  refine fr_ite (fun c1 => ?_) (fun c1 => ?_)
  · exact h0
  · refine fr_foldl ?_ (fun v2 y2 h2 => ?_)
    · exact h0
    · refine Fr.call fr_sendMsix rfl ?_
      exact h2

theorem fr_resizeBar2 {a0 a1} :
    Fr 4096 a1 (resizeBar2 a0 a1) := by
  unfold resizeBar2
  refine fr_ite (fun c0 => ?_) (fun c0 => ?_)
  · refine Fr.call fr_modHost rfl ?_
    exact Fr.refl _ _
  · exact Fr.refl _ _

theorem fr_writeConfig {a0 a1 a2 a3} :
    Fr 2686708 a3 (writeConfig a0 a1 a2 a3) := by
  unfold writeConfig
  extract_lets +onlyGivenNames x0
  extract_lets +onlyGivenNames x1
  extract_lets +onlyGivenNames x2
  extract_lets +onlyGivenNames x3
  extract_lets +onlyGivenNames x4
  refine fr_ite (fun c5 => ?_) (fun c5 => ?_)
  · exact Fr.refl _ _
  · clear_value x0
    split
    · rename_i i6
      refine Fr.call fr_writeBme rfl ?_
      unfold x4
      refine Fr.call fr_modFn rfl ?_
      exact Fr.refl _ _
    · rename_i i7
      extract_lets +onlyGivenNames x8
      have h8 : Fr 2686708 a3 x8 := by
        unfold x8
        refine fr_ite (fun c9 => ?_) (fun c9 => ?_)
        · unfold x4
          refine Fr.call fr_modFn rfl ?_
          exact Fr.refl _ _
        · exact Fr.refl _ _
      clear_value x8
      refine fr_ite (fun c10 => ?_) (fun c10 => ?_)
      · refine fr_after ?_ ?_
        · exact h8
        · refine onNext_call fr_execFlr rfl ?_
          exact h8
      · exact h8
    · rename_i i11
      extract_lets +onlyGivenNames x12
      refine Fr.call fr_modFn rfl ?_
      exact Fr.refl _ _
    · rename_i i13
      extract_lets +onlyGivenNames x14
      refine Fr.call fr_modFn rfl ?_
      exact Fr.refl _ _
    · rename_i i15
      refine fr_ite (fun c16 => ?_) (fun c16 => ?_)
      · refine Fr.call fr_resizeBar2 rfl ?_
        exact Fr.refl _ _
      · exact Fr.refl _ _
    · rename_i i17 i18 i19 i20 i21 i22
      unfold x4
      refine Fr.call fr_modFn rfl ?_
      exact Fr.refl _ _

theorem fr_writeMsix {a0 a1 a2 a3} :
    Fr 528384 a3 (writeMsix a0 a1 a2 a3) := by
  unfold writeMsix
  extract_lets +onlyGivenNames x0
  refine fr_ite (fun c1 => ?_) (fun c1 => ?_)
  · exact Fr.refl _ _
  · extract_lets +onlyGivenNames x2
    extract_lets +onlyGivenNames x3
    have h3 : Fr 528384 a3 x3 := by
      unfold x3
      refine Fr.call fr_setFn rfl ?_
      exact Fr.refl _ _
    clear_value x3
    extract_lets +onlyGivenNames x4
    refine fr_foldl ?_ (fun v5 y5 h5 => ?_)
    · exact h3
    · extract_lets +onlyGivenNames x6
      refine fr_ite (fun c7 => ?_) (fun c7 => ?_)
      · refine Fr.call fr_setFn rfl ?_
        exact h5
      · refine fr_after ?_ ?_
        · exact h5
        · refine onNext_call fr_execMsixUnmask rfl ?_
          exact h5

theorem fr_windowDenied {a0 a1} :
    Fr 4096 a0 (windowDenied a0 a1) := by
  unfold windowDenied
  refine Fr.call fr_modHost rfl ?_
  exact Fr.refl _ _

theorem fr_storeWindow {a0 a1 a2 a3 a4} :
    Fr 6836240 a0 (storeWindow a0 a1 a2 a3 a4) := by
  unfold storeWindow
  refine fr_ite (fun c0 => ?_) (fun c0 => ?_)
  · exact Fr.refl _ _
  · split
    · rename_i i1 i2 i3
      have h4 := fr_writeMa _ i3
      refine Fr.call h4 rfl ?_
      refine Fr.call fr_streamAccess rfl ?_
      exact Fr.refl _ _
    · rename_i i5 i6 i7
      refine Fr.call fr_windowDenied rfl ?_
      exact Fr.refl _ _

theorem fr_execRingWindowWrite {a0 a1 a2 a3 a4} :
    onNext (fun b => Fr 6836240 a4 b) (execRingWindowWrite a0 a1 a2 a3 a4) := by
  unfold execRingWindowWrite
  extract_lets +onlyGivenNames x0
  refine onNext_ite (fun c1 => ?_) (fun c1 => ?_)
  · refine onNext_next ?_
    exact Fr.refl _ _
  · split
    · rename_i i2 i3
      refine onNext_next ?_
      refine Fr.call fr_windowDenied rfl ?_
      exact Fr.refl _ _
    · rename_i i4 i5 i6
      refine onNext_next ?_
      refine fr_ite (fun c7 => ?_) (fun c7 => ?_)
      · refine Fr.call fr_holdWrite rfl ?_
        exact Fr.refl _ _
      · refine Fr.call fr_storeWindow rfl ?_
        exact Fr.refl _ _

theorem fr_writeFnReg {a0 a1 a2 a3} :
    Fr 528384 a3 (writeFnReg a0 a1 a2 a3) := by
  unfold writeFnReg
  extract_lets +onlyGivenNames x0
  extract_lets +onlyGivenNames x1
  split
  · rename_i i2
    refine fr_ite (fun c3 => ?_) (fun c3 => ?_)
    · exact Fr.refl _ _
    · refine Fr.call fr_setFn rfl ?_
      exact Fr.refl _ _
  · rename_i i4
    refine fr_ite (fun c5 => ?_) (fun c5 => ?_)
    · exact Fr.refl _ _
    · refine Fr.call fr_setFn rfl ?_
      exact Fr.refl _ _
  · rename_i i6
    refine fr_after ?_ ?_
    · exact Fr.refl _ _
    · refine onNext_call fr_execEvqCfg rfl ?_
      exact Fr.refl _ _
  · rename_i i7
    refine Fr.call fr_setFn rfl ?_
    exact Fr.refl _ _
  · rename_i i8
    refine Fr.call fr_setFn rfl ?_
    exact Fr.refl _ _
  · rename_i i9
    refine fr_after ?_ ?_
    · exact Fr.refl _ _
    · refine onNext_call fr_execMbxDoorbell rfl ?_
      exact Fr.refl _ _
  · rename_i i10
    refine Fr.call fr_setFn rfl ?_
    exact Fr.refl _ _
  · rename_i i11
    refine Fr.call fr_setFn rfl ?_
    exact Fr.refl _ _
  · rename_i i12 i13 i14 i15 i16 i17 i18 i19 i20
    exact Fr.refl _ _

theorem fr_execRingCfg {a0 a1 a2 a3 a4} :
    onNext (fun b => Fr 531552 a4 b) (execRingCfg a0 a1 a2 a3 a4) := by
  unfold execRingCfg
  extract_lets +onlyGivenNames x0
  extract_lets +onlyGivenNames x1
  refine onNext_ite (fun c2 => ?_) (fun c2 => ?_)
  · refine onNext_next ?_
    exact Fr.refl _ _
  · extract_lets +onlyGivenNames x3
    refine onNext_ite (fun c4 => ?_) (fun c4 => ?_)
    · refine onNext_ite (fun c5 => ?_) (fun c5 => ?_)
      · refine onNext_next ?_
        refine Fr.call fr_setRing rfl ?_
        exact Fr.refl _ _
      · extract_lets +onlyGivenNames x6
        have h6 : Fr 531552 a4 x6 := by
          unfold x6
          refine Fr.call fr_setRing rfl ?_
          exact Fr.refl _ _
        clear_value x6
        refine onNext_next ?_
        refine fr_ite (fun c7 => ?_) (fun c7 => ?_)
        · exact h6
        · refine fr_ite (fun c8 => ?_) (fun c8 => ?_)
          · exact h6
          · refine Fr.call fr_drainRing rfl ?_
            exact h6
    · refine onNext_ite (fun c9 => ?_) (fun c9 => ?_)
      · refine onNext_next ?_
        refine Fr.call fr_setRing rfl ?_
        exact Fr.refl _ _
      · extract_lets +onlyGivenNames x10
        refine onNext_ite (fun c11 => ?_) (fun c11 => ?_)
        · refine onNext_next ?_
          refine Fr.call fr_setRing rfl ?_
          exact Fr.refl _ _
        · refine onNext_ite (fun c12 => ?_) (fun c12 => ?_)
          · refine onNext_next ?_
            refine Fr.call fr_setRing rfl ?_
            exact Fr.refl _ _
          · refine onNext_next ?_
            refine Fr.call fr_ringVector rfl ?_
            refine Fr.call fr_setRing rfl ?_
            exact Fr.refl _ _

theorem fr_takeTail {a0 a1 a2 a3 a4} :
    Fr 528416 a4 (takeTail a0 a1 a2 a3 a4) := by
  unfold takeTail
  extract_lets +onlyGivenNames x0
  refine fr_ite (fun c1 => ?_) (fun c1 => ?_)
  · exact Fr.refl _ _
  · refine fr_ite (fun c2 => ?_) (fun c2 => ?_)
    · refine Fr.call fr_ringVector rfl ?_
      refine Fr.call fr_setRing rfl ?_
      exact Fr.refl _ _
    · refine Fr.call fr_setRing rfl ?_
      exact Fr.refl _ _

theorem fr_execRingCtrlReset {a0 a1 a2 a3} :
    onNext (fun b => Fr 531552 a3 b) (execRingCtrlReset a0 a1 a2 a3) := by
  unfold execRingCtrlReset
  extract_lets +onlyGivenNames x0
  refine onNext_ite (fun c1 => ?_) (fun c1 => ?_)
  · refine onNext_next ?_
    refine Fr.call fr_drainRing rfl ?_
    exact Fr.refl _ _
  · refine onNext_next ?_
    exact Fr.refl _ _

theorem fr_execRingCtrlResume {a0 a1 a2 a3} :
    onNext (fun b => Fr 32 a3 b) (execRingCtrlResume a0 a1 a2 a3) := by
  unfold execRingCtrlResume
  extract_lets +onlyGivenNames x0
  refine onNext_ite (fun c1 => ?_) (fun c1 => ?_)
  · refine onNext_next ?_
    refine Fr.call fr_setRing rfl ?_
    exact Fr.refl _ _
  · refine onNext_next ?_
    exact Fr.refl _ _

theorem fr_writeRingReg {a0 a1 a2 a3 a4 a5} :
    Fr 531552 a5 (writeRingReg a0 a1 a2 a3 a4 a5) := by
  unfold writeRingReg
  extract_lets +onlyGivenNames x0
  extract_lets +onlyGivenNames x1
  extract_lets +onlyGivenNames x2
  refine fr_ite (fun c3 => ?_) (fun c3 => ?_)
  · exact Fr.refl _ _
  · split
    · rename_i i4
      refine fr_ite (fun c5 => ?_) (fun c5 => ?_)
      · refine Fr.call fr_setRing rfl ?_
        exact Fr.refl _ _
      · exact Fr.refl _ _
    · rename_i i6
      refine fr_ite (fun c7 => ?_) (fun c7 => ?_)
      · refine Fr.call fr_setRing rfl ?_
        exact Fr.refl _ _
      · exact Fr.refl _ _
    · rename_i i8
      refine fr_ite (fun c9 => ?_) (fun c9 => ?_)
      · refine Fr.call fr_setRing rfl ?_
        exact Fr.refl _ _
      · exact Fr.refl _ _
    · rename_i i10
      refine fr_ite (fun c11 => ?_) (fun c11 => ?_)
      · refine Fr.call fr_setRing rfl ?_
        exact Fr.refl _ _
      · exact Fr.refl _ _
    · rename_i i12
      refine fr_after ?_ ?_
      · exact Fr.refl _ _
      · refine onNext_call fr_execRingCfg rfl ?_
        exact Fr.refl _ _
    · rename_i i13
      refine Fr.call fr_takeTail rfl ?_
      exact Fr.refl _ _
    · rename_i i14
      refine Fr.call fr_setRing rfl ?_
      exact Fr.refl _ _
    · rename_i i15
      refine fr_ite (fun c16 => ?_) (fun c16 => ?_)
      · refine fr_after ?_ ?_
        · exact Fr.refl _ _
        · refine onNext_call fr_execRingCtrlReset rfl ?_
          exact Fr.refl _ _
      · refine fr_ite (fun c17 => ?_) (fun c17 => ?_)
        · refine fr_after ?_ ?_
          · exact Fr.refl _ _
          · refine onNext_call fr_execRingCtrlResume rfl ?_
            exact Fr.refl _ _
        · exact Fr.refl _ _
    · rename_i i18 i19 i20 i21 i22 i23 i24 i25 i26
      exact Fr.refl _ _

theorem fr_execWinBase {a0 a1 a2 a3 a4} :
    onNext (fun b => Fr 4096 a4 b) (execWinBase a0 a1 a2 a3 a4) := by
  unfold execWinBase
  extract_lets +onlyGivenNames x0
  extract_lets +onlyGivenNames x1
  refine onNext_ite (fun c2 => ?_) (fun c2 => ?_)
  · refine onNext_next ?_
    refine Fr.call fr_modHost rfl ?_
    exact Fr.refl _ _
  · refine onNext_next ?_
    exact Fr.refl _ _

theorem fr_writeMoonPage {a0 a1 a2 a3 a4} :
    Fr 531552 a4 (writeMoonPage a0 a1 a2 a3 a4) := by
  unfold writeMoonPage
  refine fr_ite (fun c0 => ?_) (fun c0 => ?_)
  · refine Fr.call fr_writeRingReg rfl ?_
    exact Fr.refl _ _
  · refine fr_ite (fun c1 => ?_) (fun c1 => ?_)
    · refine fr_after ?_ ?_
      · exact Fr.refl _ _
      · refine onNext_call fr_execWinBase rfl ?_
        exact Fr.refl _ _
    · refine fr_ite (fun c2 => ?_) (fun c2 => ?_)
      · refine fr_after ?_ ?_
        · exact Fr.refl _ _
        · refine onNext_call fr_execWinBase rfl ?_
          exact Fr.refl _ _
      · exact Fr.refl _ _

theorem fr_writeReg {a0 a1 a2 a3} :
    Fr 531552 a3 (writeReg a0 a1 a2 a3) := by
  unfold writeReg
  refine fr_ite (fun c0 => ?_) (fun c0 => ?_)
  · refine Fr.call fr_writeFnReg rfl ?_
    exact Fr.refl _ _
  · refine fr_ite (fun c1 => ?_) (fun c1 => ?_)
    · refine fr_ite (fun c2 => ?_) (fun c2 => ?_)
      · refine Fr.call fr_writeMoonPage rfl ?_
        exact Fr.refl _ _
      · exact Fr.refl _ _
    · refine fr_ite (fun c3 => ?_) (fun c3 => ?_)
      · refine Fr.call fr_writeMoonPage rfl ?_
        exact Fr.refl _ _
      · exact Fr.refl _ _

theorem fr_writeRegs {a0 a1 a2 a3} :
    Fr 531552 a3 (writeRegs a0 a1 a2 a3) := by
  unfold writeRegs
  extract_lets +onlyGivenNames x0
  refine fr_ite (fun c1 => ?_) (fun c1 => ?_)
  · refine Fr.call fr_writeReg rfl ?_
    exact Fr.refl _ _
  · refine fr_ite (fun c2 => ?_) (fun c2 => ?_)
    · refine Fr.call fr_writeReg rfl ?_
      refine Fr.call fr_writeReg rfl ?_
      exact Fr.refl _ _
    · exact Fr.refl _ _

theorem fr_writeBar0 {a0 a1 a2 a3} :
    Fr 6839408 a3 (writeBar0 a0 a1 a2 a3) := by
  unfold writeBar0
  extract_lets +onlyGivenNames x0
  refine fr_ite (fun c1 => ?_) (fun c1 => ?_)
  · extract_lets +onlyGivenNames x2
    refine Fr.call fr_setFn rfl ?_
    exact Fr.refl _ _
  · refine fr_ite (fun c3 => ?_) (fun c3 => ?_)
    · refine Fr.call fr_writeMsix rfl ?_
      exact Fr.refl _ _
    · refine fr_ite (fun c4 => ?_) (fun c4 => ?_)
      · refine fr_after ?_ ?_
        · exact Fr.refl _ _
        · refine onNext_call fr_execRingWindowWrite rfl ?_
          exact Fr.refl _ _
      · refine fr_ite (fun c5 => ?_) (fun c5 => ?_)
        · refine fr_after ?_ ?_
          · exact Fr.refl _ _
          · refine onNext_call fr_execRingWindowWrite rfl ?_
            exact Fr.refl _ _
        · refine Fr.call fr_writeRegs rfl ?_
          exact Fr.refl _ _

theorem fr_execRegisterWrite {a0 a1 a2 a3} :
    onNext (fun b => Fr 6881012 a3 b) (execRegisterWrite a0 a1 a2 a3) := by
  unfold execRegisterWrite
  refine onNext_ite (fun c0 => ?_) (fun c0 => ?_)
  · refine onNext_next ?_
    exact Fr.refl _ _
  · refine onNext_ite (fun c1 => ?_) (fun c1 => ?_)
    · refine onNext_next ?_
      refine Fr.call fr_writeConfig rfl ?_
      exact Fr.refl _ _
    · refine onNext_next ?_
      refine fr_ite (fun c2 => ?_) (fun c2 => ?_)
      · refine Fr.call fr_holdWrite rfl ?_
        exact Fr.refl _ _
      · refine Fr.call fr_writeBar0 rfl ?_
        exact Fr.refl _ _

theorem fr_execRegulator {a0 a1} :
    onNext (fun b => Fr 33226748 a1 b) (execRegulator a0 a1) := by
  unfold execRegulator
  refine onNext_ite (fun c0 => ?_) (fun c0 => ?_)
  · refine onNext_next ?_
    exact Fr.refl _ _
  · refine onNext_next ?_
    refine Fr.call fr_faultStop rfl ?_
    refine Fr.call fr_modPower rfl ?_
    exact Fr.refl _ _

theorem fr_execRelease {a0 a1 a2 a3} :
    onNext (fun b => Fr 16449532 a3 b) (execRelease a0 a1 a2 a3) := by
  unfold execRelease
  refine fr_command rfl (fun v0 => ?_)
  refine onOk_call fr_moonWrite rfl ?_
  exact Fr.refl _ _

theorem fr_execReloadStale {a0 a1} :
    onNext (fun b => Fr 34107400 a1 b) (execReloadStale a0 a1) := by
  unfold execReloadStale
  refine fr_command rfl (fun v0 => ?_)
  refine onOk_call fr_mcodeCmd rfl ?_
  exact Fr.refl _ _

theorem fr_execReplacePoisoned {a0 a1 a2 a3} :
    onNext (fun b => Fr 3731540 a3 b) (execReplacePoisoned a0 a1 a2 a3) := by
  unfold execReplacePoisoned
  refine onNext_call fr_execPage rfl ?_
  exact Fr.refl _ _

theorem fr_execResize {a0 a1 a2 a3} :
    onNext (fun b => Fr 16449532 a3 b) (execResize a0 a1 a2 a3) := by
  unfold execResize
  refine fr_command rfl (fun v0 => ?_)
  refine onOk_call fr_moonWrite rfl ?_
  exact Fr.refl _ _

theorem fr_execResizeStepBoundary {a0 a1} :
    onNext (fun b => Fr 16314748 a1 b) (execResizeStepBoundary a0 a1) := by
  unfold execResizeStepBoundary
  extract_lets +onlyGivenNames x0
  split
  · rename_i i1 i2
    refine onNext_next ?_
    exact Fr.refl _ _
  · rename_i i3 i4 i5
    refine onNext_ite (fun c6 => ?_) (fun c6 => ?_)
    · refine onNext_next ?_
      refine Fr.call fr_finishResize rfl ?_
      exact Fr.refl _ _
    · refine onNext_next ?_
      exact Fr.refl _ _

theorem fr_execRestoreDone {a0 a1} :
    onNext (fun b => Fr 15266940 a1 b) (execRestoreDone a0 a1) := by
  unfold execRestoreDone
  extract_lets +onlyGivenNames x0
  refine onNext_ite (fun c1 => ?_) (fun c1 => ?_)
  · refine onNext_next ?_
    exact Fr.refl _ _
  · refine onNext_ite (fun c2 => ?_) (fun c2 => ?_)
    · refine onNext_next ?_
      refine Fr.call fr_settleMoves rfl ?_
      exact Fr.refl _ _
    · extract_lets +onlyGivenNames x3
      have h3 : Fr 15266940 a1 x3 := by
        unfold x3
        refine Fr.call fr_restoreMoon rfl ?_
        exact Fr.refl _ _
      clear_value x3
      extract_lets +onlyGivenNames x4
      have h4 : Fr 15266940 a1 x4 := by
        unfold x4
        refine Fr.call fr_modMoon rfl ?_
        exact h3
      clear_value x4
      extract_lets +onlyGivenNames x5
      have h5 : Fr 15266940 a1 x5 := by
        unfold x5
        split
        · rename_i i6 i7 i8
          refine fr_ite (fun c9 => ?_) (fun c9 => ?_)
          · refine Fr.call fr_endJob rfl ?_
            exact h4
          · exact h4
        · rename_i i10 i11
          exact h4
      clear_value x5
      refine onNext_next ?_
      refine Fr.call fr_settleMoves rfl ?_
      refine Fr.call fr_offerCores rfl ?_
      refine Fr.call fr_offerCores rfl ?_
      exact h5

theorem fr_execResume {a0 a1 a2 a3} :
    onNext (fun b => Fr 16449532 a3 b) (execResume a0 a1 a2 a3) := by
  unfold execResume
  refine fr_command rfl (fun v0 => ?_)
  refine onOk_call fr_moonWrite rfl ?_
  exact Fr.refl _ _

theorem fr_execRetrain {a0 a1 a2} :
    onNext (fun b => Fr 553984 a2 b) (execRetrain a0 a1 a2) := by
  unfold execRetrain
  refine fr_command rfl (fun v0 => ?_)
  refine onOk_call fr_retrainPort rfl ?_
  exact Fr.refl _ _

theorem fr_execRetrainDone {a0 a1 a2 a3} :
    onNext (fun b => Fr 586868 a3 b) (execRetrainDone a0 a1 a2 a3) := by
  unfold execRetrainDone
  extract_lets +onlyGivenNames x0
  refine onNext_ite (fun c1 => ?_) (fun c1 => ?_)
  · refine onNext_next ?_
    exact Fr.refl _ _
  · split
    · rename_i i2 i3
      refine onNext_next ?_
      refine Fr.call fr_trainFail rfl ?_
      exact Fr.refl _ _
    · rename_i i5 i6 i7
      have h8 := fr_chooseMode _ i7
      extract_lets +onlyGivenNames x9
      have h9 : Fr 586868 a3 x9 := by
        unfold x9
        refine Fr.call fr_exchangeItems rfl ?_
        refine Fr.call h8 rfl ?_
        exact Fr.refl _ _
      clear_value x9
      split
      · rename_i i10 i11 i12
        refine onNext_next ?_
        refine Fr.call fr_flushPort rfl ?_
        refine Fr.call fr_portUp rfl ?_
        exact h9
      · rename_i i13 i14
        refine onNext_next ?_
        refine Fr.call fr_t6Short rfl ?_
        exact h9

theorem fr_execRevert {a0 a1 a2} :
    onNext (fun b => Fr 651264 a2 b) (execRevert a0 a1 a2) := by
  unfold execRevert
  refine fr_command rfl (fun v0 => ?_)
  refine onOk_call fr_fwCmd rfl ?_
  exact Fr.refl _ _

theorem fr_execRingTail {a0 a1 a2 a3 a4} :
    onNext (fun b => Fr 528416 a4 b) (execRingTail a0 a1 a2 a3 a4) := by
  unfold execRingTail
  refine onNext_next ?_
  refine fr_ite (fun c0 => ?_) (fun c0 => ?_)
  · refine Fr.call fr_holdWrite rfl ?_
    exact Fr.refl _ _
  · refine Fr.call fr_takeTail rfl ?_
    exact Fr.refl _ _

theorem fr_execRingWindowRead {a0 a1 a2 a3 a4} :
    onNext (fun b => Fr 2682964 a4 b) (execRingWindowRead a0 a1 a2 a3 a4) := by
  unfold execRingWindowRead
  extract_lets +onlyGivenNames x0
  extract_lets +onlyGivenNames x1
  refine onNext_ite (fun c2 => ?_) (fun c2 => ?_)
  · refine onNext_next ?_
    exact Fr.refl _ _
  · refine onNext_ite (fun c3 => ?_) (fun c3 => ?_)
    · refine onNext_next ?_
      refine Fr.call fr_respond rfl ?_
      exact Fr.refl _ _
    · split
      · rename_i i4 i5
        refine onNext_next ?_
        refine Fr.call fr_respond rfl ?_
        refine Fr.call fr_windowDenied rfl ?_
        exact Fr.refl _ _
      · rename_i i6 i7 i8
        split
        · rename_i i9 i10 i11
          refine onNext_next ?_
          refine Fr.call fr_respond rfl ?_
          refine Fr.call fr_streamAccess rfl ?_
          exact Fr.refl _ _
        · rename_i i12 i13 i14
          refine onNext_ite (fun c15 => ?_) (fun c15 => ?_)
          · refine onNext_next ?_
            exact Fr.refl _ _
          · refine onNext_ite (fun c16 => ?_) (fun c16 => ?_)
            · refine onNext_next ?_
              refine Fr.call fr_respond rfl ?_
              refine Fr.call fr_countUe rfl ?_
              exact Fr.refl _ _
            · refine onNext_next ?_
              refine Fr.call fr_respond rfl ?_
              refine Fr.call fr_windowDenied rfl ?_
              exact Fr.refl _ _

end Sys2Proof.Laws
end

