-- ==== Sys2Proof/Laws/Frames6.lean ====
section
/-! SUPPORT. Frames of the operations of Machine, part 6: for each, the parts of the state that it may change (Laws/Frame.lean says which bit
names which part), callees before callers. -/

set_option Elab.async false

namespace Sys2Proof.Laws

open Sys2Proof.Machine

theorem fr_execRunningReceived {a0 a1} :
    onNext (fun b => Fr 16449532 a1 b) (execRunningReceived a0 a1) := by
  unfold execRunningReceived
  extract_lets +onlyGivenNames x0
  refine onNext_ite (fun c1 => ?_) (fun c1 => ?_)
  · refine onNext_next ?_
    refine Fr.call fr_endJob rfl ?_
    refine Fr.call fr_freeMoon rfl ?_
    exact Fr.refl _ _
  · refine onNext_next ?_
    exact Fr.refl _ _

theorem fr_execSamplePreload {a0 a1} :
    onNext (fun b => Fr 262144 a1 b) (execSamplePreload a0 a1) := by
  unfold execSamplePreload
  refine onNext_ite (fun c0 => ?_) (fun c0 => ?_)
  · refine onNext_next ?_
    exact Fr.refl _ _
  · split
    · rename_i i1 i2
      refine onNext_next ?_
      refine Fr.call fr_modJtag rfl ?_
      exact Fr.refl _ _
    · rename_i i3
      extract_lets +onlyGivenNames x4
      refine onNext_next ?_
      refine Fr.call fr_modJtag rfl ?_
      exact Fr.refl _ _

theorem fr_tickPool {a0} :
    Fr 544888 a0 (tickPool a0) := by
  unfold tickPool
  extract_lets +onlyGivenNames x0
  have h0 : Fr 544888 a0 x0 := by
    unfold x0
    refine Fr.call fr_settlePool rfl ?_
    refine Fr.call fr_noteAll rfl ?_
    exact Fr.refl _ _
  clear_value x0
  extract_lets +onlyGivenNames x1
  extract_lets +onlyGivenNames x2
  extract_lets +onlyGivenNames x3
  extract_lets +onlyGivenNames x4
  extract_lets +onlyGivenNames x5
  extract_lets +onlyGivenNames x6
  extract_lets +onlyGivenNames x7
  have h7 : Fr 544888 a0 x7 := by
    unfold x7
    refine fr_foldl ?_ (fun v8 y8 h8 => ?_)
    · exact h0
    · refine Fr.call fr_beginSpill rfl ?_
      exact h8
  clear_value x7
  extract_lets +onlyGivenNames x9
  have h9 : Fr 544888 a0 x9 := by
    unfold x9
    refine Fr.call fr_assignOctets rfl ?_
    exact h7
  clear_value x9
  refine Fr.call fr_beginRestores rfl ?_
  exact h9

theorem fr_takeShares {a0} :
    Fr 32 a0 (takeShares a0) := by
  unfold takeShares
  refine Fr.lit ?_
  exact Fr.refl _ _

theorem fr_inherit {a0 a1} :
    Fr 544800 a0 (inherit a0 a1) := by
  unfold inherit
  refine fr_ite (fun c0 => ?_) (fun c0 => ?_)
  · exact Fr.refl _ _
  · split
    · rename_i i1 i2
      exact Fr.refl _ _
    · rename_i i3 i4 i5
      refine fr_ite (fun c6 => ?_) (fun c6 => ?_)
      · exact Fr.refl _ _
      · refine Fr.call fr_incB rfl ?_
        refine Fr.call fr_putTask rfl ?_
        exact Fr.refl _ _

theorem fr_tickMoon {a0 a1} :
    Fr 544872 a0 (tickMoon a0 a1) := by
  unfold tickMoon
  refine fr_ite (fun c0 => ?_) (fun c0 => ?_)
  · exact Fr.refl _ _
  · extract_lets +onlyGivenNames x1
    have h1 : Fr 544872 a0 x1 := by
      unfold x1
      refine fr_foldl ?_ (fun v2 y2 h2 => ?_)
      · exact Fr.refl _ _
      · refine Fr.call fr_inherit rfl ?_
        exact h2
    clear_value x1
    extract_lets +onlyGivenNames x3
    have h3 : Fr 544872 a0 x3 := by
      unfold x3
      refine Fr.call fr_modMoon rfl ?_
      exact h1
    clear_value x3
    refine Fr.call fr_offerCores rfl ?_
    refine Fr.call fr_offerCores rfl ?_
    exact h3

theorem fr_schedTick {a0} :
    Fr 544888 a0 (schedTick a0) := by
  unfold schedTick
  extract_lets +onlyGivenNames x0
  extract_lets +onlyGivenNames x1
  have h1 : Fr 544888 a0 x1 := by
    unfold x1
    refine Fr.call fr_tickPool rfl ?_
    refine Fr.call fr_takeShares rfl ?_
    refine Fr.lit ?_
    exact Fr.refl _ _
  clear_value x1
  refine fr_foldl ?_ (fun v2 y2 h2 => ?_)
  · exact h1
  · refine Fr.call fr_tickMoon rfl ?_
    exact h2

theorem fr_execSchedTick {a0} :
    onNext (fun b => Fr 544888 a0 b) (execSchedTick a0) := by
  unfold execSchedTick
  refine onNext_ite (fun c0 => ?_) (fun c0 => ?_)
  · refine onNext_next ?_
    refine Fr.call fr_schedTick rfl ?_
    exact Fr.refl _ _
  · refine onNext_next ?_
    exact Fr.refl _ _

theorem fr_execScrubHbm {a0 a1 a2 a3 a4} :
    onNext (fun b => Fr 585812 a4 b) (execScrubHbm a0 a1 a2 a3 a4) := by
  unfold execScrubHbm
  extract_lets +onlyGivenNames x0
  refine onNext_ite (fun c1 => ?_) (fun c1 => ?_)
  · refine onNext_next ?_
    exact Fr.refl _ _
  · refine onNext_ite (fun c2 => ?_) (fun c2 => ?_)
    · refine onNext_next ?_
      refine Fr.call fr_demandErrors rfl ?_
      exact Fr.refl _ _
    · extract_lets +onlyGivenNames x3
      extract_lets +onlyGivenNames x4
      have h4 : Fr 585812 a4 x4 := by
        unfold x4
        refine Fr.lit ?_
        exact Fr.refl _ _
      clear_value x4
      extract_lets +onlyGivenNames x5
      extract_lets +onlyGivenNames x6
      extract_lets +onlyGivenNames x7
      have h7 : Fr 585812 a4 x7 := by
        unfold x7
        refine fr_ite (fun c8 => ?_) (fun c8 => ?_)
        · exact h4
        · refine Fr.call fr_incB rfl ?_
          exact h4
      clear_value x7
      extract_lets +onlyGivenNames x9
      have h9 : Fr 585812 a4 x9 := by
        unfold x9
        refine fr_ite (fun c10 => ?_) (fun c10 => ?_)
        · exact h7
        · refine Fr.call fr_incB rfl ?_
          exact h7
      clear_value x9
      extract_lets +onlyGivenNames x11
      extract_lets +onlyGivenNames x12
      have h12 : Fr 585812 a4 x12 := by
        unfold x12
        refine Fr.lit ?_
        exact h9
      clear_value x12
      extract_lets +onlyGivenNames x13
      have h13 : Fr 585812 a4 x13 := by
        unfold x13
        refine fr_foldl ?_ (fun v14 y14 h14 => ?_)
        · exact h12
        · refine Fr.call fr_correctSector rfl ?_
          exact h14
      clear_value x13
      refine onNext_next ?_
      refine fr_foldl ?_ (fun v15 y15 h15 => ?_)
      · exact h13
      · refine Fr.call fr_failRow rfl ?_
        exact h15

theorem fr_scrubMapped {a0 a1 a2 a3} :
    Fr 48820344 a0 (scrubMapped a0 a1 a2 a3) := by
  unfold scrubMapped
  extract_lets +onlyGivenNames x0
  extract_lets +onlyGivenNames x1
  extract_lets +onlyGivenNames x2
  have h2 : Fr 48820344 a0 x2 := by
    unfold x2
    refine fr_ite (fun c3 => ?_) (fun c3 => ?_)
    · exact Fr.refl _ _
    · refine Fr.call fr_incB rfl ?_
      exact Fr.refl _ _
  clear_value x2
  extract_lets +onlyGivenNames x4
  have h4 : Fr 48820344 a0 x4 := by
    unfold x4
    refine fr_ite (fun c5 => ?_) (fun c5 => ?_)
    · exact h2
    · refine Fr.call fr_incB rfl ?_
      exact h2
  clear_value x4
  extract_lets +onlyGivenNames x6
  extract_lets +onlyGivenNames x7
  have h7 : Fr 48820344 a0 x7 := by
    unfold x7
    refine Fr.lit ?_
    exact h4
  clear_value x7
  extract_lets +onlyGivenNames x8
  have h8 : Fr 48820344 a0 x8 := by
    unfold x8
    split
    · rename_i i9 i10 i11
      refine Fr.call fr_poisonEvents rfl ?_
      exact h7
    · rename_i i12 i13
      exact h7
  clear_value x8
  refine Fr.call fr_sramErrors rfl ?_
  exact h8

theorem fr_scrubSpare {a0 a1 a2 a3 a4} :
    Fr 48820344 a0 (scrubSpare a0 a1 a2 a3 a4) := by
  unfold scrubSpare
  extract_lets +onlyGivenNames x0
  extract_lets +onlyGivenNames x1
  have h1 : Fr 48820344 a0 x1 := by
    unfold x1
    refine fr_ite (fun c2 => ?_) (fun c2 => ?_)
    · exact Fr.refl _ _
    · refine Fr.call fr_incB rfl ?_
      exact Fr.refl _ _
  clear_value x1
  extract_lets +onlyGivenNames x3
  have h3 : Fr 48820344 a0 x3 := by
    unfold x3
    refine fr_ite (fun c4 => ?_) (fun c4 => ?_)
    · exact h1
    · refine Fr.call fr_incB rfl ?_
      exact h1
  clear_value x3
  refine Fr.call fr_sramErrors rfl ?_
  exact h3

theorem fr_scrubSegment {a0 a1 a2 a3} :
    Fr 48820344 a0 (scrubSegment a0 a1 a2 a3) := by
  unfold scrubSegment
  refine fr_ite (fun c0 => ?_) (fun c0 => ?_)
  · refine fr_ite (fun c1 => ?_) (fun c1 => ?_)
    · exact Fr.refl _ _
    · refine Fr.call fr_scrubMapped rfl ?_
      exact Fr.refl _ _
  · extract_lets +onlyGivenNames x2
    extract_lets +onlyGivenNames x3
    refine fr_ite (fun c4 => ?_) (fun c4 => ?_)
    · refine Fr.call fr_scrubSpare rfl ?_
      exact Fr.refl _ _
    · exact Fr.refl _ _

theorem fr_execScrubScratchpad {a0 a1 a2 a3} :
    onNext (fun b => Fr 48820344 a3 b) (execScrubScratchpad a0 a1 a2 a3) := by
  unfold execScrubScratchpad
  refine onNext_ite (fun c0 => ?_) (fun c0 => ?_)
  · refine onNext_next ?_
    exact Fr.refl _ _
  · refine onNext_ite (fun c1 => ?_) (fun c1 => ?_)
    · refine onNext_next ?_
      refine Fr.call fr_demandSram rfl ?_
      exact Fr.refl _ _
    · refine onNext_next ?_
      refine Fr.call fr_scrubSegment rfl ?_
      refine Fr.lit ?_
      exact Fr.refl _ _

theorem fr_openTx {a0 a1 a2 a3 a4 a5 a6 a7} :
    Fr 1024 a0 (openTx a0 a1 a2 a3 a4 a5 a6 a7) := by
  unfold openTx
  refine Fr.lit ?_
  exact Fr.refl _ _

theorem fr_execSend {a0 a1 a2} :
    onNext (fun b => Fr 586868 a2 b) (execSend a0 a1 a2) := by
  unfold execSend
  split
  · rename_i i0 i1
    refine onNext_next ?_
    exact Fr.refl _ _
  · rename_i i3 i4 i5
    have h6 := startMove_error i5
    refine onNext_next ?_
    refine Fr.call h6 rfl ?_
    exact Fr.refl _ _
  · rename_i i7 i8 i9 i10
    have h11 := startMove_ok i10
    refine onNext_ite (fun c12 => ?_) (fun c12 => ?_)
    · refine onNext_next ?_
      exact Fr.refl _ _
    · extract_lets +onlyGivenNames x13
      refine onNext_ite (fun c14 => ?_) (fun c14 => ?_)
      · refine onNext_next ?_
        exact Fr.refl _ _
      · extract_lets +onlyGivenNames x15
        extract_lets +onlyGivenNames x16
        refine onNext_next ?_
        refine Fr.call fr_openTx rfl ?_
        refine Fr.call h11 rfl ?_
        exact Fr.refl _ _

theorem fr_markSent {a0 a1 a2} :
    Fr 16 a0 (markSent a0 a1 a2) := by
  unfold markSent
  split
  · rename_i i0 i1 i2
    split
    · rename_i i3 i4 i5
      refine fr_ite (fun c6 => ?_) (fun c6 => ?_)
      · refine Fr.lit ?_
        exact Fr.refl _ _
      · exact Fr.refl _ _
    · rename_i i7 i8
      exact Fr.refl _ _
  · rename_i i9 i10
    exact Fr.refl _ _

theorem fr_touchChunk {a0 a1 a2 a3} :
    Fr 6836240 a0 (touchChunk a0 a1 a2 a3) := by
  unfold touchChunk
  split
  · rename_i i0 i1 i2 i3
    extract_lets +onlyGivenNames x4
    split
    · rename_i i5 i6
      exact Fr.refl _ _
    · rename_i i7 i8 i9
      refine Fr.call fr_noteDemand rfl ?_
      refine fr_foldl ?_ (fun v10 y10 h10 => ?_)
      · exact Fr.refl _ _
      · refine Fr.call fr_useRead rfl ?_
        exact h10
  · rename_i i11 i12 i13 i14
    exact Fr.refl _ _

theorem fr_sendSelf {a0 a1 a2 a3} :
    Fr 6878324 a0 (sendSelf a0 a1 a2 a3) := by
  unfold sendSelf
  extract_lets +onlyGivenNames x0
  split
  · rename_i i1 i2 i3
    refine Fr.call fr_refuseChunk rfl ?_
    exact Fr.refl _ _
  · rename_i i4 i5
    refine Fr.call fr_arriveChunk rfl ?_
    exact Fr.refl _ _

theorem fr_putTx {a0 a1} :
    Fr 1024 a0 (putTx a0 a1) := by
  unfold putTx
  refine Fr.lit ?_
  exact Fr.refl _ _

theorem fr_sendChunk {a0 a1 a2 a3 a4} :
    Fr 525312 a0 (sendChunk a0 a1 a2 a3 a4) := by
  unfold sendChunk
  extract_lets +onlyGivenNames x0
  extract_lets +onlyGivenNames x1
  have h1 : Fr 525312 a0 x1 := by
    unfold x1
    refine Fr.call fr_spend rfl ?_
    exact Fr.refl _ _
  clear_value x1
  extract_lets +onlyGivenNames x2
  have h2 : Fr 525312 a0 x2 := by
    unfold x2
    refine Fr.call fr_sendFlit rfl ?_
    exact h1
  clear_value x2
  refine fr_foldl ?_ (fun v3 y3 h3 => ?_)
  · exact h2
  · refine Fr.call fr_sendFlit rfl ?_
    exact h3

theorem fr_execSendChunkStart {a0 a1 a2 a3} :
    onNext (fun b => Fr 7926900 a3 b) (execSendChunkStart a0 a1 a2 a3) := by
  unfold execSendChunkStart
  split
  · rename_i i0 i1 i2 i3
    extract_lets +onlyGivenNames x4
    refine onNext_ite (fun c5 => ?_) (fun c5 => ?_)
    · refine onNext_next ?_
      exact Fr.refl _ _
    · split
      · rename_i i6 i7 i8 i9
        extract_lets +onlyGivenNames x10
        extract_lets +onlyGivenNames x11
        refine onNext_ite (fun c12 => ?_) (fun c12 => ?_)
        · refine onNext_next ?_
          exact Fr.refl _ _
        · refine onNext_ite (fun c13 => ?_) (fun c13 => ?_)
          · refine onNext_next ?_
            exact Fr.refl _ _
          · split
            · rename_i i14 i15 i16
              refine onNext_next ?_
              clear_value x4
              split
              · rename_i i17 i18
                refine fr_failMove rfl ?_ ?_
                · exact Fr.refl _ _
                · exact Fr.refl _ _
              · rename_i i19
                exact Fr.refl _ _
            · rename_i i20 i21 i22
              extract_lets +onlyGivenNames x23
              extract_lets +onlyGivenNames x24
              have h24 : Fr 7926900 a3 x24 := by
                unfold x24
                refine Fr.call fr_markSent rfl ?_
                refine Fr.call fr_touchChunk rfl ?_
                exact Fr.refl _ _
              clear_value x24
              refine onNext_ite (fun c25 => ?_) (fun c25 => ?_)
              · refine onNext_next ?_
                refine Fr.call fr_sendSelf rfl ?_
                refine Fr.call fr_putTx rfl ?_
                exact h24
              · split
                · rename_i i26 i27 i28 i29
                  have h30 := fr_eq fr_drawFrom i29
                  refine onNext_next ?_
                  refine Fr.call fr_sendChunk rfl ?_
                  refine Fr.call fr_putTx rfl ?_
                  refine Fr.call h30 rfl ?_
                  exact h24
                · rename_i i31 i32 i33
                  have h34 := fr_eq fr_drawFrom i33
                  refine onNext_next ?_
                  refine Fr.call h34 rfl ?_
                  exact h24
  · rename_i i35 i36
    refine onNext_next ?_
    exact Fr.refl _ _

theorem fr_execServeCtx {a0 a1 a2 a3} :
    onNext (fun b => Fr 553088 a3 b) (execServeCtx a0 a1 a2 a3) := by
  unfold execServeCtx
  extract_lets +onlyGivenNames x0
  refine fr_command rfl (fun v1 => ?_)
  refine onOk_call fr_writeCtx rfl ?_
  exact Fr.refl _ _

theorem fr_execServeStatRead {a0 a1 a2} :
    onNext (fun b => Fr 552960 a2 b) (execServeStatRead a0 a1 a2) := by
  unfold execServeStatRead
  extract_lets +onlyGivenNames x0
  refine fr_query rfl (fun v1 => ?_)
  refine onOk_call fr_readStat rfl ?_
  exact Fr.refl _ _

theorem fr_execSessionOffer {a0 a1} :
    onNext (fun b => Fr 1732608 a1 b) (execSessionOffer a0 a1) := by
  unfold execSessionOffer
  refine fr_query rfl (fun v0 => ?_)
  split
  · rename_i i1 i2 i3 i4
    have h5 := fr_eq fr_makeOffer i4
    refine onOk_ok ?_
    refine fr_fst ?_
    refine Fr.call fr_keepPieces rfl ?_
    refine Fr.call h5 rfl ?_
    exact Fr.refl _ _

theorem fr_execSessionOpen {a0 a1 a2} :
    onNext (fun b => Fr 684032 a2 b) (execSessionOpen a0 a1 a2) := by
  unfold execSessionOpen
  refine fr_command rfl (fun v0 => ?_)
  refine onOk_call fr_sessionOpen rfl ?_
  exact Fr.refl _ _

theorem fr_execSessionProve {a0 a1 a2} :
    onNext (fun b => Fr 684032 a2 b) (execSessionProve a0 a1 a2) := by
  unfold execSessionProve
  refine onNext_ite (fun c0 => ?_) (fun c0 => ?_)
  · refine onNext_next ?_
    exact Fr.refl _ _
  · extract_lets +onlyGivenNames x1
    refine onNext_ite (fun c2 => ?_) (fun c2 => ?_)
    · refine onNext_next ?_
      refine Fr.call fr_answer rfl ?_
      exact Fr.refl _ _
    · split
      · rename_i i3 i4 i5 i6
        have h7 := fr_eq fr_sessionProve i6
        refine onNext_next ?_
        refine Fr.call fr_answer rfl ?_
        refine Fr.call h7 rfl ?_
        exact Fr.refl _ _

theorem fr_execSnapAccept {a0 a1 a2 a3} :
    onNext (fun b => Fr 553216 a3 b) (execSnapAccept a0 a1 a2 a3) := by
  unfold execSnapAccept
  extract_lets +onlyGivenNames x0
  refine fr_command rfl (fun v1 => ?_)
  refine onOk_ite (fun c2 => ?_) (fun c2 => ?_)
  · refine onOk_ok ?_
    refine Fr.call fr_modTrain rfl ?_
    exact Fr.refl _ _
  · exact onOk_error

theorem fr_execSnapCancel {a0 a1 a2 a3} :
    onNext (fun b => Fr 554240 a3 b) (execSnapCancel a0 a1 a2 a3) := by
  unfold execSnapCancel
  extract_lets +onlyGivenNames x0
  refine fr_command rfl (fun v1 => ?_)
  refine onOk_call fr_snapCancelCmd rfl ?_
  exact Fr.refl _ _

theorem fr_execSnapshot {a0 a1 a2 a3} :
    onNext (fun b => Fr 554240 a3 b) (execSnapshot a0 a1 a2 a3) := by
  unfold execSnapshot
  extract_lets +onlyGivenNames x0
  refine fr_command rfl (fun v1 => ?_)
  refine onOk_call fr_snapshotCmd rfl ?_
  exact Fr.refl _ _

theorem fr_execSnapshotArm {a0 a1} :
    onNext (fun b => Fr 529664 a1 b) (execSnapshotArm a0 a1) := by
  unfold execSnapshotArm
  extract_lets +onlyGivenNames x0
  split
  · rename_i i1 i2
    refine onNext_next ?_
    exact Fr.refl _ _
  · rename_i i3 i4 i5 i6
    refine onNext_ite (fun c7 => ?_) (fun c7 => ?_)
    · refine onNext_next ?_
      exact Fr.refl _ _
    · refine onNext_ite (fun c8 => ?_) (fun c8 => ?_)
      · refine onNext_next ?_
        refine Fr.call fr_endSnap rfl ?_
        exact Fr.refl _ _
      · refine onNext_next ?_
        refine Fr.call fr_modTrain rfl ?_
        refine Fr.call fr_setSnap rfl ?_
        exact Fr.refl _ _

theorem fr_execSnapshotCapture {a0 a1} :
    onNext (fun b => Fr 529664 a1 b) (execSnapshotCapture a0 a1) := by
  unfold execSnapshotCapture
  extract_lets +onlyGivenNames x0
  split
  · rename_i i1 i2
    refine onNext_next ?_
    exact Fr.refl _ _
  · rename_i i3 i4 i5 i6
    refine onNext_ite (fun c7 => ?_) (fun c7 => ?_)
    · refine onNext_next ?_
      exact Fr.refl _ _
    · refine onNext_ite (fun c8 => ?_) (fun c8 => ?_)
      · refine onNext_next ?_
        refine Fr.call fr_endSnap rfl ?_
        exact Fr.refl _ _
      · split
        · rename_i i9 i10 i11
          refine onNext_ite (fun c12 => ?_) (fun c12 => ?_)
          · refine onNext_next ?_
            exact Fr.refl _ _
          · refine onNext_next ?_
            refine Fr.call fr_endSnap rfl ?_
            exact Fr.refl _ _
        · rename_i i13 i14
          refine onNext_next ?_
          refine Fr.call fr_endSnap rfl ?_
          exact Fr.refl _ _
        · rename_i i15 i16 i17
          refine onNext_ite (fun c18 => ?_) (fun c18 => ?_)
          · refine onNext_next ?_
            refine Fr.call fr_modTrain rfl ?_
            refine Fr.call fr_askTarget rfl ?_
            exact Fr.refl _ _
          · refine onNext_ite (fun c19 => ?_) (fun c19 => ?_)
            · refine onNext_next ?_
              refine Fr.call fr_endSnap rfl ?_
              exact Fr.refl _ _
            · refine onNext_next ?_
              refine Fr.call fr_modTrain rfl ?_
              exact Fr.refl _ _

theorem fr_execSnapshotDone {a0 a1 a2} :
    onNext (fun b => Fr 6837520 a2 b) (execSnapshotDone a0 a1 a2) := by
  unfold execSnapshotDone
  extract_lets +onlyGivenNames x0
  split
  · rename_i i1 i2
    refine onNext_next ?_
    exact Fr.refl _ _
  · rename_i i3 i4 i5 i6
    refine onNext_ite (fun c7 => ?_) (fun c7 => ?_)
    · refine onNext_next ?_
      exact Fr.refl _ _
    · refine onNext_ite (fun c8 => ?_) (fun c8 => ?_)
      · refine onNext_next ?_
        refine Fr.call fr_noteWait rfl ?_
        refine Fr.call fr_endSnap rfl ?_
        refine Fr.call fr_dropSnapTx rfl ?_
        exact Fr.refl _ _
      · refine onNext_ite (fun c9 => ?_) (fun c9 => ?_)
        · refine onNext_ite (fun c10 => ?_) (fun c10 => ?_)
          · refine onNext_next ?_
            exact Fr.refl _ _
          · refine onNext_next ?_
            refine Fr.call fr_noteWait rfl ?_
            refine Fr.call fr_endSnap rfl ?_
            exact Fr.refl _ _
        · split
          · rename_i i11 i12 i13
            refine onNext_ite (fun c14 => ?_) (fun c14 => ?_)
            · refine onNext_next ?_
              exact Fr.refl _ _
            · refine onNext_next ?_
              refine Fr.call fr_noteWait rfl ?_
              refine Fr.call fr_endSnap rfl ?_
              exact Fr.refl _ _
          · rename_i i15 i16
            refine onNext_next ?_
            refine Fr.call fr_noteWait rfl ?_
            refine Fr.call fr_endSnap rfl ?_
            exact Fr.refl _ _
          · rename_i i17 i18 i19
            refine onNext_next ?_
            refine Fr.call fr_noteWait rfl ?_
            refine Fr.call fr_endSnap rfl ?_
            refine onOk_elimSome i19 ?_
            refine onOk_bind (fun b20 q20 => ?_)
            split
            · rename_i i21
              refine onOk_ok ?_
              exact onSome_none
            · rename_i i22 i23
              refine onOk_bind (fun b24 q24 => ?_)
              refine onOk_bind (fun b25 q25 => ?_)
              have h26 := fr_writeMa _ q25
              refine onOk_ok ?_
              refine onSome_some ?_
              refine Fr.call h26 rfl ?_
              exact Fr.refl _ _

theorem fr_execSoftFuse {a0 a1 a2 a3 a4} :
    onNext (fun b => Fr 34123816 a4 b) (execSoftFuse a0 a1 a2 a3 a4) := by
  unfold execSoftFuse
  extract_lets +onlyGivenNames x0
  extract_lets +onlyGivenNames x1
  extract_lets +onlyGivenNames x2
  refine onNext_ite (fun c3 => ?_) (fun c3 => ?_)
  · extract_lets +onlyGivenNames x4
    have h4 : Fr 34123816 a4 x4 := by
      unfold x4
      refine Fr.call fr_incA rfl ?_
      exact Fr.refl _ _
    clear_value x4
    extract_lets +onlyGivenNames x5
    have h5 : Fr 34123816 a4 x5 := by
      unfold x5
      refine Fr.call fr_jMust rfl ?_
      exact h4
    clear_value x5
    refine onNext_next ?_
    refine Fr.call fr_freeCore rfl ?_
    refine Fr.lit ?_
    exact h5
  · refine onNext_next ?_
    exact Fr.refl _ _

theorem fr_execSoftRepairDone {a0 a1 a2} :
    onNext (fun b => Fr 569360 a2 b) (execSoftRepairDone a0 a1 a2) := by
  unfold execSoftRepairDone
  extract_lets +onlyGivenNames x0
  extract_lets +onlyGivenNames x1
  refine onNext_ite (fun c2 => ?_) (fun c2 => ?_)
  · extract_lets +onlyGivenNames x3
    have h3 : Fr 569360 a2 x3 := by
      unfold x3
      refine Fr.call fr_incA rfl ?_
      exact Fr.refl _ _
    clear_value x3
    extract_lets +onlyGivenNames x4
    have h4 : Fr 569360 a2 x4 := by
      unfold x4
      refine Fr.call fr_jMust rfl ?_
      exact h3
    clear_value x4
    refine onNext_next ?_
    refine Fr.call fr_setRow rfl ?_
    exact h4
  · refine onNext_next ?_
    exact Fr.refl _ _

theorem fr_execSpanTimeout {a0 a1 a2 a3} :
    onNext (fun b => Fr 6878964 a3 b) (execSpanTimeout a0 a1 a2 a3) := by
  unfold execSpanTimeout
  split
  · rename_i i0 i1
    refine onNext_next ?_
    exact Fr.refl _ _
  · rename_i i2 i3 i4 i5
    split
    · rename_i i6 i7 i8
      refine onNext_ite (fun c9 => ?_) (fun c9 => ?_)
      · refine onNext_next ?_
        refine Fr.call fr_failRun rfl ?_
        exact Fr.refl _ _
      · refine onNext_next ?_
        exact Fr.refl _ _
    · rename_i i10 i11
      refine onNext_next ?_
      exact Fr.refl _ _

theorem fr_execSparesDeclared {a0 a1 a2} :
    onNext (fun b => Fr 587776 a2 b) (execSparesDeclared a0 a1 a2) := by
  unfold execSparesDeclared
  refine fr_command rfl (fun v0 => ?_)
  refine onOk_call fr_writeSpares rfl ?_
  exact Fr.refl _ _

theorem fr_spilledTo {a0 a1} :
    Fr 16314748 a0 (spilledTo a0 a1) := by
  unfold spilledTo
  extract_lets +onlyGivenNames x0
  split
  · rename_i i1 i2
    refine Fr.call fr_modMoon rfl ?_
    exact Fr.refl _ _
  · rename_i i3 i4
    refine fr_ite (fun c5 => ?_) (fun c5 => ?_)
    · extract_lets +onlyGivenNames x6
      have h6 : Fr 16314748 a0 x6 := by
        unfold x6
        refine Fr.call fr_modMoon rfl ?_
        exact Fr.refl _ _
      clear_value x6
      split
      · rename_i i7 i8 i9
        refine Fr.call fr_finishResize rfl ?_
        exact h6
      · rename_i i10 i11
        exact h6
    · exact Fr.refl _ _
  · rename_i i12 i13
    refine Fr.call fr_modMoon rfl ?_
    exact Fr.refl _ _
  · rename_i i14 i15
    split
    · rename_i i16 i17 i18
      refine fr_ite (fun c19 => ?_) (fun c19 => ?_)
      · refine Fr.call fr_endJob rfl ?_
        exact Fr.refl _ _
      · exact Fr.refl _ _
    · rename_i i20 i21
      exact Fr.refl _ _
  · rename_i i22 i23 i24 i25 i26
    exact Fr.refl _ _

theorem fr_execSpillDone {a0 a1} :
    onNext (fun b => Fr 16315772 a1 b) (execSpillDone a0 a1) := by
  unfold execSpillDone
  extract_lets +onlyGivenNames x0
  refine onNext_ite (fun c1 => ?_) (fun c1 => ?_)
  · refine onNext_next ?_
    exact Fr.refl _ _
  · extract_lets +onlyGivenNames x2
    have h2 : Fr 16315772 a1 x2 := by
      unfold x2
      refine Fr.call fr_saveMoon rfl ?_
      exact Fr.refl _ _
    clear_value x2
    extract_lets +onlyGivenNames x3
    have h3 : Fr 16315772 a1 x3 := by
      unfold x3
      refine fr_ite (fun c4 => ?_) (fun c4 => ?_)
      · refine Fr.call fr_sendMigState rfl ?_
        exact h2
      · refine Fr.call fr_spilledTo rfl ?_
        exact h2
    clear_value x3
    refine onNext_next ?_
    refine Fr.call fr_beginRestores rfl ?_
    refine Fr.call fr_settleMoves rfl ?_
    exact h3

theorem fr_execStage {a0 a1 a2} :
    onNext (fun b => Fr 651264 a2 b) (execStage a0 a1 a2) := by
  unfold execStage
  refine fr_command rfl (fun v0 => ?_)
  refine onOk_call fr_fwCmd rfl ?_
  exact Fr.refl _ _

theorem fr_execStagingExpire {a0 a1} :
    onNext (fun b => Fr 8192 a1 b) (execStagingExpire a0 a1) := by
  unfold execStagingExpire
  refine onNext_ite (fun c0 => ?_) (fun c0 => ?_)
  · refine onNext_next ?_
    refine Fr.call fr_dropStaging rfl ?_
    exact Fr.refl _ _
  · refine onNext_next ?_
    exact Fr.refl _ _

theorem fr_execStartUp {a0 a1} :
    onNext (fun b => Fr 67108862 a1 b) (execStartUp a0 a1) := by
  unfold execStartUp
  refine onNext_next ?_
  refine fr_ite (fun c0 => ?_) (fun c0 => ?_)
  · refine Fr.call fr_startUp rfl ?_
    exact Fr.refl _ _
  · exact Fr.refl _ _

theorem fr_execStepClose {a0 a1 a2 a3} :
    onNext (fun b => Fr 7927540 a3 b) (execStepClose a0 a1 a2 a3) := by
  unfold execStepClose
  split
  · rename_i i0 i1
    refine onNext_next ?_
    exact Fr.refl _ _
  · rename_i i2 i3 i4 i5
    refine onNext_ite (fun c6 => ?_) (fun c6 => ?_)
    · refine onNext_next ?_
      refine fr_ite (fun c7 => ?_) (fun c7 => ?_)
      · exact Fr.refl _ _
      · refine Fr.call fr_endFailed rfl ?_
        exact Fr.refl _ _
    · split
      · rename_i i8 i9 i10
        refine onNext_next ?_
        refine Fr.call fr_failRun rfl ?_
        exact Fr.refl _ _
      · rename_i i11 i12
        refine onNext_ite (fun c13 => ?_) (fun c13 => ?_)
        · refine onNext_next ?_
          exact Fr.refl _ _
        · refine onNext_ite (fun c14 => ?_) (fun c14 => ?_)
          · extract_lets +onlyGivenNames x15
            split
            · rename_i i16 i17 i18 i19 i20
              extract_lets +onlyGivenNames x21
              have h21 : Fr 7927540 a3 x21 := by
                unfold x21
                refine Fr.call fr_emit rfl ?_
                refine Fr.call fr_endRun rfl ?_
                exact Fr.refl _ _
              clear_value x21
              refine onNext_next ?_
              refine Fr.call fr_putTask rfl ?_
              exact h21
          · refine onNext_ite (fun c22 => ?_) (fun c22 => ?_)
            · refine onNext_next ?_
              exact Fr.refl _ _
            · split
              · rename_i i23 i24
                refine onNext_next ?_
                refine Fr.call fr_failRun rfl ?_
                exact Fr.refl _ _
              · rename_i i25 i26 i27
                split
                · rename_i i28 i29 i30
                  have h31 := fr_closeRun _ i30
                  refine onNext_next ?_
                  exact h31
                · rename_i i32 i33 i34
                  refine onNext_ite (fun c36 => ?_) (fun c36 => ?_)
                  · refine onNext_next ?_
                    exact Fr.refl _ _
                  · refine onNext_next ?_
                    refine Fr.call fr_failRun rfl ?_
                    exact Fr.refl _ _

theorem fr_openVariants {a0 a1 a2} :
    Fr 128 a0 (openVariants a0 a1 a2) := by
  unfold openVariants
  extract_lets +onlyGivenNames x0
  refine Fr.call fr_setSlot rfl ?_
  exact Fr.refl _ _

theorem fr_takeReqs {a0 a1 a2 a3 a4 a5 a6} :
    onOk (fun b : (Sys2Proof.Machine.State × Nat) => Fr 7884944 a0 b.1) (takeReqs a0 a1 a2 a3 a4 a5 a6) := by
  fun_induction takeReqs
  · rename_i i0 i1
    refine onOk_ok ?_
    refine fr_fst ?_
    exact Fr.refl _ _
  · rename_i i2 i3 i4 i5
    refine onOk_bind (fun b6 q6 => ?_)
    refine onOk_ite (fun c7 => ?_) (fun c7 => ?_)
    · refine onOk_ok ?_
      refine fr_fst ?_
      exact Fr.refl _ _
    · refine onOk_bind (fun b8 q8 => ?_)
      refine onOk_bind (fun b9 q9 => ?_)
      have h10 := fr_actReq _ q9
      split
      · rename_i i11 i12 i13
        refine onOk_bind (fun b14 q14 => ?_)
        refine onOk_ite (fun c15 => ?_) (fun c15 => ?_)
        · refine onOk_ok ?_
          refine fr_fst ?_
          exact Fr.refl _ _
        · refine onOk_bind (fun b16 q16 => ?_)
          have h17 := fr_setCtxWord _ q16
          refine onOk_call (i5 _ _) rfl ?_
          refine Fr.call h17 rfl ?_
          exact h10

theorem fr_openRequests {a0 a1 a2 a3 a4} :
    onOk (fun b : (Sys2Proof.Machine.State × Nat) => Fr 7926484 a0 b.1) (openRequests a0 a1 a2 a3 a4) := by
  unfold openRequests
  refine onOk_bind (fun b0 q0 => ?_)
  split
  · rename_i i1 i2 i3 i4
    have h5 := fr_eq fr_applySwap i4
    refine onOk_bind (fun b6 q6 => ?_)
    have h7 := fr_applyUnload _ q6
    refine onOk_bind (fun b8 q8 => ?_)
    have h9 := fr_takeReqs _ q8
    split
    · rename_i i10 i11 i12
      refine onOk_ok ?_
      refine fr_fst ?_
      refine Fr.call fr_sweepMoon rfl ?_
      refine Fr.call h9 rfl ?_
      refine Fr.call h7 rfl ?_
      refine Fr.call h5 rfl ?_
      refine Fr.call fr_openVariants rfl ?_
      exact Fr.refl _ _

theorem fr_writeEmpty {a0 a1 a2 a3 a4 a5} :
    onOk (fun b => Fr 7340176 a0 b) (writeEmpty a0 a1 a2 a3 a4 a5) := by
  unfold writeEmpty
  refine onOk_bind (fun b0 q0 => ?_)
  have h1 := fr_assignSp _ q0
  refine onOk_call fr_writeMa rfl ?_
  exact h1

theorem fr_sendList {a0 a1 a2 a3 a4 a5} :
    Fr 1024 a0 (sendList a0 a1 a2 a3 a4 a5) := by
  unfold sendList
  extract_lets +onlyGivenNames x0
  refine fr_foldl ?_ (fun v1 y1 h1 => ?_)
  · exact Fr.refl _ _
  · refine Fr.call fr_openOwn rfl ?_
    exact h1

theorem fr_fitList {a0 a1 a2 a3 a4 a5 a6 a7 a8} :
    onOk (fun b : (Sys2Proof.Machine.State × Sys2Proof.Machine.Building × Nat) => Fr 6836368 a0 b.1) (fitList a0 a1 a2 a3 a4 a5 a6 a7 a8) := by
  induction a7 generalizing a0 a8 <;> unfold fitList
  · refine onOk_bind (fun b0 q0 => ?_)
    extract_lets +onlyGivenNames x1
    extract_lets +onlyGivenNames x2
    extract_lets +onlyGivenNames x3
    extract_lets +onlyGivenNames x4
    split
    · rename_i i5 i6
      refine onOk_ok ?_
      refine fr_fst ?_
      exact Fr.refl _ _
    · rename_i i7 i8 i9
      cases i9
  · rename_i i10 i11
    refine onOk_bind (fun b12 q12 => ?_)
    extract_lets +onlyGivenNames x13
    extract_lets +onlyGivenNames x14
    extract_lets +onlyGivenNames x15
    extract_lets +onlyGivenNames x16
    split
    · rename_i i17 i18
      refine onOk_ok ?_
      refine fr_fst ?_
      exact Fr.refl _ _
    · rename_i i19 i20 i21
      cases i21
      refine onOk_ite (fun c22 => ?_) (fun c22 => ?_)
      · refine onOk_ok ?_
        refine fr_fst ?_
        exact Fr.refl _ _
      · split
        · rename_i i23 i24
          refine onOk_ok ?_
          refine fr_fst ?_
          exact Fr.refl _ _
        · rename_i i25 i26 i27
          refine onOk_bind (fun b28 q28 => ?_)
          refine onOk_ite (fun c29 => ?_) (fun c29 => ?_)
          · refine onOk_bind (fun b30 q30 => ?_)
            have h31 := fr_endSeq _ q30
            refine onOk_call i11 rfl ?_
            exact h31
          · refine onOk_ok ?_
            refine fr_fst ?_
            exact Fr.refl _ _

theorem fr_markDeferred {a0 a1 a2} :
    Fr 544896 a0 (markDeferred a0 a1 a2) := by
  unfold markDeferred
  extract_lets +onlyGivenNames x0
  have h0 : Fr 544896 a0 x0 := by
    unfold x0
    refine Fr.call fr_modServe rfl ?_
    exact Fr.refl _ _
  clear_value x0
  refine fr_ite (fun c1 => ?_) (fun c1 => ?_)
  · exact h0
  · refine Fr.call fr_incB rfl ?_
    exact h0

theorem fr_givePages {a0 a1 a2 a3 a4} :
    Fr 1048704 a0 (givePages a0 a1 a2 a3 a4) := by
  unfold givePages
  refine fr_foldl ?_ (fun v0 y0 h0 => ?_)
  · exact Fr.refl _ _
  · split
    · rename_i i1 i2 i3 i4
      have h5 := fr_eq fr_takeKv i4
      refine Fr.call fr_modServe rfl ?_
      refine Fr.call h5 rfl ?_
      exact h0

theorem fr_openRun {a0 a1 a2 a3} :
    onOk (fun b => Fr 7927540 a0 b) (openRun a0 a1 a2 a3) := by
  unfold openRun
  extract_lets +onlyGivenNames x0
  extract_lets +onlyGivenNames x1
  extract_lets +onlyGivenNames x2
  extract_lets +onlyGivenNames x3
  refine onOk_bind (fun b4 q4 => ?_)
  unfold x3 at q4
  have h5 := fr_openRequests _ (mapError_ok q4)
  split
  · rename_i i6 i7 i8
    extract_lets +onlyGivenNames x9
    extract_lets +onlyGivenNames x10
    split
    · rename_i i11 i12
      refine onOk_bind (fun b13 q13 => ?_)
      unfold x3 at q13
      have h14 := fr_writeEmpty _ (mapError_ok q13)
      unfold x10
      refine onOk_bind (fun b15 q15 => ?_)
      unfold x3 at q15
      have h16 := fr_loadPlan _ (mapError_ok q15)
      split
      · rename_i i17
        exact onOk_error
      · rename_i i18 i19 i20
        refine onOk_ok ?_
        refine Fr.call (h16 _ rfl) rfl ?_
        refine Fr.call fr_sendList rfl ?_
        unfold x9
        extract_lets +onlyGivenNames x21
        extract_lets +onlyGivenNames x22
        have h22 : Fr 7927540 a0 x22 := by
          unfold x22
          refine Fr.call fr_modServe rfl ?_
          refine Fr.call h14 rfl ?_
          refine Fr.call h5 rfl ?_
          exact Fr.refl _ _
        clear_value x22
        refine Fr.call fr_setSlot rfl ?_
        exact h22
    · rename_i i23 i24 i25
      refine onOk_bind (fun b26 q26 => ?_)
      unfold x3 at q26
      refine onOk_bind (fun b27 q27 => ?_)
      unfold x3 at q27
      have h28 := fr_endLimits _ (mapError_ok q27)
      refine onOk_bind (fun b29 q29 => ?_)
      unfold x3 at q29
      have h30 := fr_fitList _ (mapError_ok q29)
      split
      · rename_i i31 i32 i33 i34
        extract_lets +onlyGivenNames x35
        have h35 : Fr 7927540 a0 x35 := by
          unfold x35
          refine Fr.call fr_markDeferred rfl ?_
          refine Fr.call fr_sweepMoon rfl ?_
          refine Fr.call h30 rfl ?_
          refine Fr.call h28 rfl ?_
          refine Fr.call h5 rfl ?_
          exact Fr.refl _ _
        clear_value x35
        extract_lets +onlyGivenNames x36
        have h36 : Fr 7927540 a0 x36 := by
          unfold x36
          refine Fr.call fr_givePages rfl ?_
          exact h35
        clear_value x36
        refine onOk_bind (fun b37 q37 => ?_)
        unfold x3 at q37
        have h38 := fr_assignSp _ (mapError_ok q37)
        extract_lets +onlyGivenNames x39
        extract_lets +onlyGivenNames x40
        refine onOk_bind (fun b41 q41 => ?_)
        unfold x3 at q41
        have h42 := fr_writeMa _ (mapError_ok q41)
        extract_lets +onlyGivenNames x43
        extract_lets +onlyGivenNames x44
        have h44 : Fr 7927540 a0 x44 := by
          unfold x44
          unfold x9
          extract_lets +onlyGivenNames x45
          extract_lets +onlyGivenNames x46
          have h46 : Fr 7927540 a0 x46 := by
            unfold x46
            refine Fr.call fr_modServe rfl ?_
            refine Fr.call h42 rfl ?_
            refine Fr.call h38 rfl ?_
            exact h36
          clear_value x46
          refine Fr.call fr_setSlot rfl ?_
          exact h46
        clear_value x44
        extract_lets +onlyGivenNames x47
        have h47 : Fr 7927540 a0 x47 := by
          unfold x47
          refine Fr.call fr_sendList rfl ?_
          exact h44
        clear_value x47
        unfold x10
        refine onOk_bind (fun b48 q48 => ?_)
        unfold x3 at q48
        have h49 := fr_loadPlan _ (mapError_ok q48)
        split
        · rename_i i50
          exact onOk_error
        · rename_i i51 i52 i53
          refine onOk_ok ?_
          refine Fr.call (h49 _ rfl) rfl ?_
          exact h47

theorem fr_execStepRun {a0 a1 a2} :
    onNext (fun b => Fr 7927540 a2 b) (execStepRun a0 a1 a2) := by
  unfold execStepRun
  split
  · rename_i i0 i1
    refine onNext_next ?_
    exact Fr.refl _ _
  · rename_i i2 i3 i4
    refine onNext_call (fr_startStep (k := 7927540) rfl (fun v5 t5 c5 => ?_)) rfl ?_
    · refine onOk_call fr_openRun rfl ?_
      exact Fr.refl _ _
    · exact Fr.refl _ _

theorem fr_execStepService {a0 a1 a2} :
    onNext (fun b => Fr 7926516 a2 b) (execStepService a0 a1 a2) := by
  unfold execStepService
  split
  · rename_i i0 i1
    refine onNext_next ?_
    exact Fr.refl _ _
  · rename_i i2 i3 i4
    refine onNext_call (fr_startStep (k := 7926516) rfl (fun v5 t5 c5 => ?_)) rfl ?_
    · split
      · rename_i i6 i7 i8
        exact onOk_error
      · rename_i i10 i11 i12 i13
        have h14 := fr_openRequests _ i13
        extract_lets +onlyGivenNames x15
        split
        · rename_i i16 i17 i18
          exact onOk_error
        · rename_i i20 i21 i22
          have h23 := fr_writeEmpty _ i22
          refine onOk_ok ?_
          refine Fr.call fr_putTask rfl ?_
          refine Fr.call h23 rfl ?_
          refine Fr.call h14 rfl ?_
          exact Fr.refl _ _
    · exact Fr.refl _ _

theorem fr_execStop {a0 a1} :
    onNext (fun b => Fr 34107400 a1 b) (execStop a0 a1) := by
  unfold execStop
  refine fr_command rfl (fun v0 => ?_)
  refine onOk_call fr_mcodeCmd rfl ?_
  exact Fr.refl _ _

theorem fr_loadMcode {a0 a1 a2} :
    Fr 33554440 a0 (loadMcode a0 a1 a2) := by
  unfold loadMcode
  extract_lets +onlyGivenNames x0
  refine Fr.lit ?_
  exact Fr.refl _ _

theorem fr_useSpare {a0 a1} :
    Fr 34123820 a0 (useSpare a0 a1) := by
  unfold useSpare
  extract_lets +onlyGivenNames x0
  extract_lets +onlyGivenNames x1
  have h1 : Fr 34123820 a0 x1 := by
    unfold x1
    refine Fr.call fr_markSubst rfl ?_
    exact Fr.refl _ _
  clear_value x1
  extract_lets +onlyGivenNames x2
  have h2 : Fr 34123820 a0 x2 := by
    unfold x2
    split
    · rename_i i3 i4 i5
      refine Fr.call fr_poisonEvents rfl ?_
      exact h1
    · rename_i i6 i7
      exact h1
  clear_value x2
  extract_lets +onlyGivenNames x8
  extract_lets +onlyGivenNames x9
  have h9 : Fr 34123820 a0 x9 := by
    unfold x9
    refine Fr.call fr_setMap rfl ?_
    exact h2
  clear_value x9
  refine fr_ite (fun c10 => ?_) (fun c10 => ?_)
  · refine Fr.call fr_setSvc rfl ?_
    exact h9
  · exact h9

theorem fr_finishSubst {a0 a1} :
    Fr 34123820 a0 (finishSubst a0 a1) := by
  unfold finishSubst
  extract_lets +onlyGivenNames x0
  extract_lets +onlyGivenNames x1
  extract_lets +onlyGivenNames x2
  have h2 : Fr 34123820 a0 x2 := by
    unfold x2
    refine Fr.lit ?_
    exact Fr.refl _ _
  clear_value x2
  extract_lets +onlyGivenNames x3
  have h3 : Fr 34123820 a0 x3 := by
    unfold x3
    refine Fr.call fr_loadMcode rfl ?_
    refine fr_ite (fun c4 => ?_) (fun c4 => ?_)
    · exact h2
    · refine Fr.call fr_useSpare rfl ?_
      exact h2
  clear_value x3
  extract_lets +onlyGivenNames x5
  have h5 : Fr 34123820 a0 x5 := by
    unfold x5
    refine fr_ite (fun c6 => ?_) (fun c6 => ?_)
    · refine Fr.call fr_raisePf rfl ?_
      exact h3
    · exact h3
  clear_value x5
  refine Fr.call fr_freeCore rfl ?_
  exact h5

theorem fr_execSubstitutionDone {a0 a1 a2} :
    onNext (fun b => Fr 34123820 a2 b) (execSubstitutionDone a0 a1 a2) := by
  unfold execSubstitutionDone
  split
  · rename_i i0 i1 i2
    refine onNext_ite (fun c3 => ?_) (fun c3 => ?_)
    · refine onNext_next ?_
      refine Fr.call fr_finishSubst rfl ?_
      exact Fr.refl _ _
    · refine onNext_next ?_
      exact Fr.refl _ _
  · rename_i i4 i5
    refine onNext_next ?_
    exact Fr.refl _ _

theorem fr_startField {a0 a1} :
    Fr 48820344 a0 (startField a0 a1) := by
  unfold startField
  extract_lets +onlyGivenNames x0
  refine fr_ite (fun c1 => ?_) (fun c1 => ?_)
  · refine Fr.lit ?_
    exact Fr.refl _ _
  · extract_lets +onlyGivenNames x2
    extract_lets +onlyGivenNames x3
    have h3 : Fr 48820344 a0 x3 := by
      unfold x3
      refine Fr.lit ?_
      exact Fr.refl _ _
    clear_value x3
    split
    · rename_i i4 i5 i6
      refine Fr.lit ?_
      exact h3
    · rename_i i7 i8
      refine Fr.call fr_withdrawOctet rfl ?_
      exact h3

theorem fr_execSubstitutionStart {a0 a1 a2 a3} :
    onNext (fun b => Fr 48820344 a3 b) (execSubstitutionStart a0 a1 a2 a3) := by
  unfold execSubstitutionStart
  refine onNext_ite (fun c0 => ?_) (fun c0 => ?_)
  · refine onNext_next ?_
    exact Fr.refl _ _
  · split
    · rename_i i1 i2 i3
      refine onNext_ite (fun c4 => ?_) (fun c4 => ?_)
      · refine onNext_next ?_
        refine Fr.call fr_startField rfl ?_
        refine Fr.call fr_markSubst rfl ?_
        exact Fr.refl _ _
      · refine onNext_next ?_
        exact Fr.refl _ _
    · rename_i i5 i6
      refine onNext_ite (fun c7 => ?_) (fun c7 => ?_)
      · split
        · rename_i i8 i9 i10
          extract_lets +onlyGivenNames x11
          have h11 : Fr 48820344 a3 x11 := by
            unfold x11
            refine Fr.call fr_markSubst rfl ?_
            exact Fr.refl _ _
          clear_value x11
          refine onNext_next ?_
          refine Fr.lit ?_
          exact h11
        · rename_i i12 i13
          refine onNext_ite (fun c14 => ?_) (fun c14 => ?_)
          · refine onNext_next ?_
            refine Fr.lit ?_
            exact Fr.refl _ _
          · refine onNext_next ?_
            exact Fr.refl _ _
      · refine onNext_next ?_
        exact Fr.refl _ _

theorem fr_execSuspend {a0 a1 a2 a3} :
    onNext (fun b => Fr 16449532 a3 b) (execSuspend a0 a1 a2 a3) := by
  unfold execSuspend
  refine fr_command rfl (fun v0 => ?_)
  refine onOk_call fr_moonWrite rfl ?_
  exact Fr.refl _ _

theorem fr_execSvcClear {a0 a1 a2} :
    onNext (fun b => Fr 17362948 a2 b) (execSvcClear a0 a1 a2) := by
  unfold execSvcClear
  refine fr_command rfl (fun v0 => ?_)
  refine onOk_call fr_clearSvc rfl ?_
  exact Fr.refl _ _

theorem fr_execSwap {a0 a1 a2 a3 a4} :
    onNext (fun b => Fr 553088 a4 b) (execSwap a0 a1 a2 a3 a4) := by
  unfold execSwap
  refine fr_command rfl (fun v0 => ?_)
  refine onOk_call fr_swapCmd rfl ?_
  exact Fr.refl _ _

theorem fr_execSwapFire {a0 a1 a2} :
    onNext (fun b => Fr 128 a2 b) (execSwapFire a0 a1 a2) := by
  unfold execSwapFire
  extract_lets +onlyGivenNames x0
  split
  · rename_i i1 i2 i3
    refine onNext_ite (fun c4 => ?_) (fun c4 => ?_)
    · refine onNext_next ?_
      refine Fr.call fr_setSlot rfl ?_
      exact Fr.refl _ _
    · refine onNext_next ?_
      exact Fr.refl _ _
  · rename_i i5 i6
    refine onNext_next ?_
    exact Fr.refl _ _

theorem fr_runSync {a0 a1 a2 a3} :
    Fr 6844464 a3 (runSync a0 a1 a2 a3) := by
  unfold runSync
  split
  · rename_i i0 i1
    exact Fr.refl _ _
  · rename_i i2 i3 i4
    refine fr_ite (fun c5 => ?_) (fun c5 => ?_)
    · split
      · rename_i i6 i7 i8 i9
        have h10 := fr_eq fr_startTask i9
        refine Fr.call fr_completeTask rfl ?_
        refine Fr.call h10 rfl ?_
        exact Fr.refl _ _
    · exact Fr.refl _ _

theorem fr_execSyncDump {a0 a1 a2} :
    onNext (fun b => Fr 6844464 a2 b) (execSyncDump a0 a1 a2) := by
  unfold execSyncDump
  refine onNext_next ?_
  refine Fr.call fr_runSync rfl ?_
  exact Fr.refl _ _

theorem fr_execSyncSet {a0 a1 a2} :
    onNext (fun b => Fr 6844464 a2 b) (execSyncSet a0 a1 a2) := by
  unfold execSyncSet
  refine onNext_next ?_
  refine Fr.call fr_runSync rfl ?_
  exact Fr.refl _ _

theorem fr_execSyncSignal {a0 a1 a2} :
    onNext (fun b => Fr 6844464 a2 b) (execSyncSignal a0 a1 a2) := by
  unfold execSyncSignal
  refine onNext_next ?_
  refine Fr.call fr_runSync rfl ?_
  exact Fr.refl _ _

theorem fr_execTapReset {a0} :
    onNext (fun b => Fr 262144 a0 b) (execTapReset a0) := by
  unfold execTapReset
  refine onNext_ite (fun c0 => ?_) (fun c0 => ?_)
  · refine onNext_next ?_
    exact Fr.refl _ _
  · refine onNext_next ?_
    refine Fr.call fr_modJtag rfl ?_
    exact Fr.refl _ _

theorem fr_execTargetTimeout {a0 a1} :
    onNext (fun b => Fr 553984 a1 b) (execTargetTimeout a0 a1) := by
  unfold execTargetTimeout
  split
  · rename_i i0 i1
    refine onNext_next ?_
    exact Fr.refl _ _
  · rename_i i2 i3 i4
    refine onNext_ite (fun c5 => ?_) (fun c5 => ?_)
    · refine onNext_next ?_
      exact Fr.refl _ _
    · refine onNext_next ?_
      refine Fr.call fr_refuseFrame rfl ?_
      refine Fr.call fr_modDict rfl ?_
      exact Fr.refl _ _

theorem fr_pipeTaskEnd {a0 a1} :
    Fr 545024 a0 (pipeTaskEnd a0 a1) := by
  unfold pipeTaskEnd
  extract_lets +onlyGivenNames x0
  refine fr_ite (fun c1 => ?_) (fun c1 => ?_)
  · refine Fr.call fr_pipeHalt rfl ?_
    exact Fr.refl _ _
  · exact Fr.refl _ _

theorem fr_execTaskCompletion {a0 a1 a2 a3} :
    onNext (fun b => Fr 6844728 a3 b) (execTaskCompletion a0 a1 a2 a3) := by
  unfold execTaskCompletion
  split
  · rename_i i0 i1
    refine onNext_next ?_
    exact Fr.refl _ _
  · rename_i i2 i3 i4
    refine onNext_ite (fun c5 => ?_) (fun c5 => ?_)
    · refine onNext_next ?_
      exact Fr.refl _ _
    · refine onNext_next ?_
      refine Fr.call fr_offerCores rfl ?_
      refine Fr.call fr_offerCores rfl ?_
      refine Fr.call fr_pipeTaskEnd rfl ?_
      refine Fr.call fr_completeTask rfl ?_
      exact Fr.refl _ _

theorem fr_failFetch {a0 a1 a2 a3 a4} :
    Fr 585844 a0 (failFetch a0 a1 a2 a3 a4) := by
  unfold failFetch
  extract_lets +onlyGivenNames x0
  extract_lets +onlyGivenNames x1
  have h1 : Fr 585844 a0 x1 := by
    unfold x1
    refine Fr.call fr_setRing rfl ?_
    exact Fr.refl _ _
  clear_value x1
  refine Fr.call fr_failTask rfl ?_
  refine Fr.call fr_addTask rfl ?_
  exact h1

theorem fr_execTaskFetch {a0 a1 a2} :
    onNext (fun b => Fr 585844 a2 b) (execTaskFetch a0 a1 a2) := by
  unfold execTaskFetch
  extract_lets +onlyGivenNames x0
  extract_lets +onlyGivenNames x1
  refine onNext_ite (fun c2 => ?_) (fun c2 => ?_)
  · refine onNext_next ?_
    exact Fr.refl _ _
  · split
    · rename_i i3 i4 i5
      refine onNext_ite (fun c6 => ?_) (fun c6 => ?_)
      · refine onNext_next ?_
        exact Fr.refl _ _
      · refine onNext_next ?_
        refine Fr.call fr_failFetch rfl ?_
        exact Fr.refl _ _
    · rename_i i7 i8 i9
      extract_lets +onlyGivenNames x10
      split
      · rename_i i11 i12 i13
        refine onNext_ite (fun c14 => ?_) (fun c14 => ?_)
        · refine onNext_next ?_
          exact Fr.refl _ _
        · refine onNext_next ?_
          refine Fr.call fr_failFetch rfl ?_
          exact Fr.refl _ _
      · rename_i i15 i16 i17
        extract_lets +onlyGivenNames x18
        split
        · rename_i i19 i20 i21 i22
          refine onNext_next ?_
          refine Fr.call fr_failFetch rfl ?_
          exact Fr.refl _ _
        · rename_i i23 i24
          refine onNext_next ?_
          refine Fr.call fr_addTask rfl ?_
          exact Fr.refl _ _

theorem fr_execTaskStatRead {a0 a1 a2} :
    onNext (fun b => Fr 552960 a2 b) (execTaskStatRead a0 a1 a2) := by
  unfold execTaskStatRead
  extract_lets +onlyGivenNames x0
  refine fr_query rfl (fun v1 => ?_)
  refine onOk_call fr_readStat rfl ?_
  exact Fr.refl _ _

theorem fr_thermalShift {a0 a1 a2} :
    Fr 17305604 a0 (thermalShift a0 a1 a2) := by
  unfold thermalShift
  extract_lets +onlyGivenNames x0
  extract_lets +onlyGivenNames x1
  extract_lets +onlyGivenNames x2
  refine fr_ite (fun c3 => ?_) (fun c3 => ?_)
  · extract_lets +onlyGivenNames x4
    have h4 : Fr 17305604 a0 x4 := by
      unfold x4
      refine fr_ite (fun c5 => ?_) (fun c5 => ?_)
      · exact Fr.refl _ _
      · refine Fr.call fr_raisePf rfl ?_
        refine Fr.call fr_modPower rfl ?_
        exact Fr.refl _ _
    clear_value x4
    refine Fr.call fr_modPower rfl ?_
    exact h4
  · extract_lets +onlyGivenNames x6
    have h6 : Fr 17305604 a0 x6 := by
      unfold x6
      refine Fr.call fr_modPower rfl ?_
      exact Fr.refl _ _
    clear_value x6
    refine fr_ite (fun c7 => ?_) (fun c7 => ?_)
    · refine Fr.call fr_modPower rfl ?_
      exact h6
    · exact h6

theorem fr_execThermalEvaluate {a0 a1 a2} :
    onNext (fun b => Fr 33226748 a2 b) (execThermalEvaluate a0 a1 a2) := by
  unfold execThermalEvaluate
  refine onNext_ite (fun c0 => ?_) (fun c0 => ?_)
  · refine onNext_next ?_
    exact Fr.refl _ _
  · extract_lets +onlyGivenNames x1
    have h1 : Fr 33226748 a2 x1 := by
      unfold x1
      refine Fr.call fr_thermalShift rfl ?_
      refine Fr.call fr_setParam rfl ?_
      exact Fr.refl _ _
    clear_value x1
    refine onNext_next ?_
    refine fr_ite (fun c2 => ?_) (fun c2 => ?_)
    · refine Fr.call fr_faultStop rfl ?_
      exact h1
    · exact h1

theorem fr_execToGenerate {a0 a1 a2 a3} :
    onNext (fun b => Fr 553216 a3 b) (execToGenerate a0 a1 a2 a3) := by
  unfold execToGenerate
  extract_lets +onlyGivenNames x0
  refine fr_command rfl (fun v1 => ?_)
  refine onOk_call fr_turnCmd rfl ?_
  exact Fr.refl _ _

theorem fr_execToLearn {a0 a1 a2 a3} :
    onNext (fun b => Fr 553216 a3 b) (execToLearn a0 a1 a2 a3) := by
  unfold execToLearn
  extract_lets +onlyGivenNames x0
  refine fr_command rfl (fun v1 => ?_)
  refine onOk_call fr_turnCmd rfl ?_
  exact Fr.refl _ _

theorem fr_execTrainStatRead {a0 a1 a2} :
    onNext (fun b => Fr 553216 a2 b) (execTrainStatRead a0 a1 a2) := by
  unfold execTrainStatRead
  extract_lets +onlyGivenNames x0
  refine fr_query rfl (fun v1 => ?_)
  refine onOk_call fr_readStat rfl ?_
  refine Fr.call fr_flushWait rfl ?_
  exact Fr.refl _ _

theorem fr_putShard {a0 a1 a2 a3 a4 a5 a6} :
    onOk (fun b : (Sys2Proof.Machine.State × Nat) => Fr 7885840 a0 b.1) (putShard a0 a1 a2 a3 a4 a5 a6) := by
  unfold putShard
  extract_lets +onlyGivenNames x0
  refine onOk_ite (fun c1 => ?_) (fun c1 => ?_)
  · exact onOk_error
  · refine onOk_ite (fun c2 => ?_) (fun c2 => ?_)
    · extract_lets +onlyGivenNames x3
      refine onOk_ite (fun c4 => ?_) (fun c4 => ?_)
      · exact onOk_error
      · extract_lets +onlyGivenNames x5
        extract_lets +onlyGivenNames x6
        extract_lets +onlyGivenNames x7
        extract_lets +onlyGivenNames x8
        have h8 : Fr 7885840 a0 x8 := by
          unfold x8
          refine fr_ite (fun c9 => ?_) (fun c9 => ?_)
          · refine Fr.call fr_countFmt rfl ?_
            exact Fr.refl _ _
          · exact Fr.refl _ _
        clear_value x8
        refine onOk_ok ?_
        refine fr_fst ?_
        refine Fr.call fr_openTx rfl ?_
        exact h8
    · refine onOk_bind (fun b10 q10 => ?_)
      have h11 := fr_writeTensor _ q10
      refine onOk_ite (fun c12 => ?_) (fun c12 => ?_)
      · refine onOk_bind (fun b13 q13 => ?_)
        split
        · rename_i i15 i16 i17 i18
          refine onOk_ok ?_
          refine fr_fst ?_
          refine Fr.call fr_countFmt rfl ?_
          refine onOk_elim1 q13 ?_
          refine fr_writePlane ?_ (fun v19 a19 b19 => ?_)
          · refine Fr.call h11 rfl ?_
            refine fr_ite (fun c20 => ?_) (fun c20 => ?_)
            · exact Fr.refl _ _
            · refine Fr.call fr_touchDest rfl ?_
              exact Fr.refl _ _
          · refine onOk_call fr_writeMa rfl ?_
            refine Fr.call fr_useWrite rfl ?_
            exact Fr.refl _ _
      · refine onOk_ok ?_
        refine fr_fst ?_
        refine Fr.call h11 rfl ?_
        refine fr_ite (fun c21 => ?_) (fun c21 => ?_)
        · exact Fr.refl _ _
        · refine Fr.call fr_touchDest rfl ?_
          exact Fr.refl _ _

theorem fr_putShards {a0 a1 a2 a3 a4 a5 a6 a7 a8} :
    onOk (fun b : (Sys2Proof.Machine.State × Nat) => Fr 7886096 a0 b.1) (putShards a0 a1 a2 a3 a4 a5 a6 a7 a8) := by
  fun_induction putShards
  · rename_i i0 i1 i2
    refine onOk_ok ?_
    refine fr_fst ?_
    exact Fr.refl _ _
  · rename_i i3 i4 i5 i6 i7 i8 i9 i10 i11
    refine onOk_bind (fun b12 q12 => ?_)
    have h13 := fr_putShard _ q12
    split
    · rename_i i14 i15 i16
      refine onOk_call (i11 _ _) rfl ?_
      refine Fr.call h13 rfl ?_
      unfold i10
      refine fr_foldl ?_ (fun v17 y17 h17 => ?_)
      · unfold i9
        refine Fr.call fr_countFmt rfl ?_
        refine Fr.lit ?_
        exact Fr.refl _ _
      · refine Fr.call fr_noteWrite rfl ?_
        exact h17

theorem fr_execTranscode {a0 a1 a2 a3} :
    onNext (fun b => Fr 7927156 a3 b) (execTranscode a0 a1 a2 a3) := by
  unfold execTranscode
  split
  · rename_i i0 i1
    refine onNext_next ?_
    exact Fr.refl _ _
  · rename_i i3 i4 i5
    have h6 := startMove_error i5
    refine onNext_next ?_
    refine Fr.call h6 rfl ?_
    exact Fr.refl _ _
  · rename_i i7 i8 i9 i10
    have h11 := startMove_ok i10
    refine onNext_ite (fun c12 => ?_) (fun c12 => ?_)
    · refine onNext_next ?_
      exact Fr.refl _ _
    · extract_lets +onlyGivenNames x13
      extract_lets +onlyGivenNames x14
      split
      · rename_i i15 i16 i17
        refine onNext_next ?_
        refine fr_failMove rfl ?_ ?_
        · exact Fr.refl _ _
        · refine Fr.call h11 rfl ?_
          exact Fr.refl _ _
      · rename_i i18 i19 i20
        split
        · rename_i i21 i22 i23
          refine onNext_next ?_
          refine fr_failMove rfl ?_ ?_
          · exact Fr.refl _ _
          · refine Fr.call h11 rfl ?_
            exact Fr.refl _ _
        · rename_i i24 i25
          split
          · rename_i i26 i27 i28
            refine onNext_next ?_
            refine fr_failMove rfl ?_ ?_
            · exact Fr.refl _ _
            · refine Fr.call h11 rfl ?_
              exact Fr.refl _ _
          · rename_i i29 i30
            refine onNext_next ?_
            refine Fr.call h11 rfl ?_
            exact Fr.refl _ _
          · rename_i i31 i32 i33
            extract_lets +onlyGivenNames x34
            have h34 : Fr 7927156 a3 x34 := by
              unfold x34
              refine fr_ite (fun c35 => ?_) (fun c35 => ?_)
              · refine Fr.call fr_touchPlane rfl ?_
                refine Fr.call fr_touchSource rfl ?_
                refine Fr.call h11 rfl ?_
                exact Fr.refl _ _
              · refine Fr.call h11 rfl ?_
                exact Fr.refl _ _
            clear_value x34
            split
            · rename_i i36 i37 i38
              refine onNext_next ?_
              refine fr_failMove rfl ?_ ?_
              · exact Fr.refl _ _
              · refine Fr.call h11 rfl ?_
                exact Fr.refl _ _
            · rename_i i39 i40 i41 i42
              extract_lets +onlyGivenNames x43
              refine onNext_ite (fun c44 => ?_) (fun c44 => ?_)
              · refine onNext_next ?_
                refine Fr.call fr_putTask rfl ?_
                refine onOk_elim1 i42 ?_
                refine onOk_bind2 (fun b45 q45 => ?_)
                refine onOk_call fr_putShards rfl ?_
                exact h34
              · refine onNext_next ?_
                refine Fr.call fr_moveDone rfl ?_
                refine onOk_elim1 i42 ?_
                refine onOk_bind2 (fun b46 q46 => ?_)
                refine onOk_call fr_putShards rfl ?_
                exact h34

theorem fr_execTurnCancel {a0 a1 a2 a3} :
    onNext (fun b => Fr 553216 a3 b) (execTurnCancel a0 a1 a2 a3) := by
  unfold execTurnCancel
  extract_lets +onlyGivenNames x0
  refine fr_command rfl (fun v1 => ?_)
  refine onOk_call fr_turnCancelCmd rfl ?_
  exact Fr.refl _ _

theorem fr_failTurnPlan {a0 a1 a2} :
    Fr 6821296 a0 (failTurnPlan a0 a1 a2) := by
  unfold failTurnPlan
  extract_lets +onlyGivenNames x0
  have h0 : Fr 6821296 a0 x0 := by
    unfold x0
    refine Fr.call fr_dropPlan rfl ?_
    exact Fr.refl _ _
  clear_value x0
  extract_lets +onlyGivenNames x1
  have h1 : Fr 6821296 a0 x1 := by
    unfold x1
    refine Fr.call fr_gateSlot rfl ?_
    exact h0
  clear_value x1
  refine Fr.call fr_endTurn rfl ?_
  refine Fr.call fr_modTrain rfl ?_
  exact h1

theorem fr_startTurnPlan {a0 a1 a2} :
    onOk (fun b => Fr 6821296 a0 b) (startTurnPlan a0 a1 a2) := by
  unfold startTurnPlan
  extract_lets +onlyGivenNames x0
  have h0 : Fr 6821296 a0 x0 := by
    unfold x0
    refine Fr.call fr_modTrain rfl ?_
    exact Fr.refl _ _
  clear_value x0
  refine onOk_bind (fun b1 q1 => ?_)
  have h2 := fr_loadPipe _ q1
  split
  · rename_i i3 i4
    refine onOk_ok ?_
    refine Fr.call (h2 _ rfl) rfl ?_
    exact h0
  · rename_i i5
    refine onOk_ok ?_
    refine Fr.call fr_failTurnPlan rfl ?_
    exact h0

theorem fr_execTurnDrainPoint {a0 a1} :
    onNext (fun b => Fr 6879220 a1 b) (execTurnDrainPoint a0 a1) := by
  unfold execTurnDrainPoint
  extract_lets +onlyGivenNames x0
  split
  · rename_i i1 i2
    refine onNext_next ?_
    exact Fr.refl _ _
  · rename_i i3 i4 i5 i6 i7
    refine onNext_ite (fun c8 => ?_) (fun c8 => ?_)
    · refine onNext_next ?_
      exact Fr.refl _ _
    · extract_lets +onlyGivenNames x9
      extract_lets +onlyGivenNames x10
      obtain ⟨y11, i11⟩ : ∃ y, x10 = y := ⟨_, rfl⟩
      rw [i11]
      split
      · rename_i i12 i13
        refine onNext_next ?_
        refine onOk_elimSome i11 ?_
        unfold x10
        refine onOk_ite (fun c14 => ?_) (fun c14 => ?_)
        · refine onOk_ite (fun c15 => ?_) (fun c15 => ?_)
          · refine onOk_ok ?_
            exact onSome_none
          · refine onOk_ite (fun c16 => ?_) (fun c16 => ?_)
            · refine onOk_bind (fun b17 q17 => ?_)
              have h18 := fr_endLive _ q17
              unfold x9
              split
              · rename_i i19
                refine onOk_ok ?_
                exact onSome_none
              · rename_i i20 i21
                refine onOk_bind (fun b22 q22 => ?_)
                have h23 := fr_startTurnPlan _ q22
                refine onOk_ok ?_
                refine onSome_some ?_
                refine Fr.call h23 rfl ?_
                refine Fr.call fr_emptySlot rfl ?_
                refine Fr.call (h18 _ rfl) rfl ?_
                exact Fr.refl _ _
            · refine onOk_bind (fun b24 q24 => ?_)
              unfold x9
              split
              · rename_i i25
                refine onOk_ok ?_
                exact onSome_none
              · rename_i i26 i27
                refine onOk_bind (fun b28 q28 => ?_)
                have h29 := fr_startTurnPlan _ q28
                refine onOk_ok ?_
                refine onSome_some ?_
                refine Fr.call h29 rfl ?_
                refine Fr.call fr_emptySlot rfl ?_
                refine onOk_elimSome q24 ?_
                refine onOk_ok ?_
                refine onSome_ite (fun c30 => ?_) (fun c30 => ?_)
                · refine onSome_some ?_
                  exact Fr.refl _ _
                · exact onSome_none
        · refine onOk_ite (fun c31 => ?_) (fun c31 => ?_)
          · refine onOk_ok ?_
            exact onSome_none
          · refine onOk_bind (fun b32 q32 => ?_)
            have h33 := fr_startTurnPlan _ q32
            refine onOk_ok ?_
            refine onSome_some ?_
            refine Fr.call h33 rfl ?_
            refine Fr.call fr_setTrain rfl ?_
            exact Fr.refl _ _
      · rename_i i34
        refine onNext_next ?_
        exact Fr.refl _ _
      · rename_i i35 i36
        refine onNext_ite (fun c37 => ?_) (fun c37 => ?_)
        · refine onNext_next ?_
          exact Fr.refl _ _
        · refine onNext_next ?_
          refine Fr.call fr_failTurnPlan rfl ?_
          exact Fr.refl _ _

theorem fr_installPipe {a0 a1 a2} :
    onOk (fun b => Fr 6291728 a0 b) (installPipe a0 a1 a2) := by
  unfold installPipe
  extract_lets +onlyGivenNames x0
  have h0 : Fr 6291728 a0 x0 := by
    unfold x0
    refine Fr.call fr_modTrain rfl ?_
    exact Fr.refl _ _
  clear_value x0
  refine onOk_bind (fun b1 q1 => ?_)
  split
  · rename_i i2
    refine onOk_ok ?_
    exact h0
  · rename_i i3 i4 i5
    refine onOk_call fr_modTiles rfl ?_
    exact h0

theorem fr_installDerived {a0 a1 a2} :
    Fr 2667220 a0 (installDerived a0 a1 a2) := by
  unfold installDerived
  extract_lets +onlyGivenNames x0
  extract_lets +onlyGivenNames x1
  extract_lets +onlyGivenNames x2
  have h2 : Fr 2667220 a0 x2 := by
    unfold x2
    refine Fr.call fr_dropVersions rfl ?_
    exact Fr.refl _ _
  clear_value x2
  extract_lets +onlyGivenNames x3
  split
  · rename_i i4 i5
    exact h2
  · rename_i i6 i7 i8
    extract_lets +onlyGivenNames x9
    refine Fr.call fr_setSlot rfl ?_
    exact h2

theorem fr_execTurnPlanDone {a0 a1} :
    onNext (fun b => Fr 6881268 a1 b) (execTurnPlanDone a0 a1) := by
  unfold execTurnPlanDone
  extract_lets +onlyGivenNames x0
  split
  · rename_i i1 i2
    refine onNext_next ?_
    exact Fr.refl _ _
  · rename_i i3 i4 i5 i6 i7
    refine onNext_ite (fun c8 => ?_) (fun c8 => ?_)
    · refine onNext_next ?_
      exact Fr.refl _ _
    · split
      · rename_i i9 i10 i11
        refine onNext_next ?_
        refine Fr.call fr_failTurnPlan rfl ?_
        exact Fr.refl _ _
      · rename_i i12 i13
        refine onNext_ite (fun c14 => ?_) (fun c14 => ?_)
        · refine onNext_next ?_
          exact Fr.refl _ _
        · extract_lets +onlyGivenNames x15
          have h15 : Fr 6881268 a1 x15 := by
            unfold x15
            refine Fr.call fr_dropPlan rfl ?_
            exact Fr.refl _ _
          clear_value x15
          extract_lets +onlyGivenNames x16
          obtain ⟨y17, i17⟩ : ∃ y, x16 = y := ⟨_, rfl⟩
          rw [i17]
          split
          · rename_i i18 i19
            refine onNext_ite (fun c20 => ?_) (fun c20 => ?_)
            · refine onNext_next ?_
              exact Fr.refl _ _
            · refine onNext_next ?_
              refine Fr.call fr_failTurnPlan rfl ?_
              exact h15
          · rename_i i21 i22
            refine onNext_ite (fun c23 => ?_) (fun c23 => ?_)
            · refine onNext_next ?_
              refine Fr.call fr_finishTurn rfl ?_
              refine onOk_elim i17 ?_
              unfold x16
              refine onOk_ite (fun c24 => ?_) (fun c24 => ?_)
              · refine onOk_call fr_installPipe rfl ?_
                exact h15
              · refine onOk_ok ?_
                refine Fr.call fr_installDerived rfl ?_
                exact h15
            · extract_lets +onlyGivenNames x25
              have h25 : Fr 6881268 a1 x25 := by
                unfold x25
                refine Fr.call fr_modTrain rfl ?_
                refine onOk_elim i17 ?_
                unfold x16
                refine onOk_ite (fun c26 => ?_) (fun c26 => ?_)
                · refine onOk_call fr_installPipe rfl ?_
                  exact h15
                · refine onOk_ok ?_
                  refine Fr.call fr_installDerived rfl ?_
                  exact h15
              clear_value x25
              split
              · rename_i i27 i28 i29
                have h30 := fr_sendArrive _ i29
                refine onNext_next ?_
                refine Fr.call h30 rfl ?_
                exact h25
              · rename_i i31 i32
                refine onNext_next ?_
                refine Fr.call fr_finishTurn rfl ?_
                exact h25

theorem fr_execTurnSwitchFire {a0 a1} :
    onNext (fun b => Fr 545184 a1 b) (execTurnSwitchFire a0 a1) := by
  unfold execTurnSwitchFire
  extract_lets +onlyGivenNames x0
  split
  · rename_i i1 i2
    refine onNext_next ?_
    exact Fr.refl _ _
  · rename_i i3 i4 i5 i6 i7
    refine onNext_ite (fun c8 => ?_) (fun c8 => ?_)
    · refine onNext_next ?_
      exact Fr.refl _ _
    · refine onNext_ite (fun c9 => ?_) (fun c9 => ?_)
      · refine onNext_next ?_
        refine Fr.call fr_gateSlot rfl ?_
        refine Fr.call fr_setTrain rfl ?_
        exact Fr.refl _ _
      · refine onNext_ite (fun c10 => ?_) (fun c10 => ?_)
        · refine onNext_next ?_
          refine Fr.call fr_endTurn rfl ?_
          exact Fr.refl _ _
        · extract_lets +onlyGivenNames x11
          have h11 : Fr 545184 a1 x11 := by
            unfold x11
            refine Fr.call fr_setTrain rfl ?_
            exact Fr.refl _ _
          clear_value x11
          split
          · rename_i i12 i13 i14
            have h15 := fr_pipeDrain _ i14
            refine onNext_next ?_
            refine Fr.call h15 rfl ?_
            exact h11
          · rename_i i16 i17 i18
            refine onNext_next ?_
            exact h11

theorem fr_execTurnTimeout {a0 a1} :
    onNext (fun b => Fr 528768 a1 b) (execTurnTimeout a0 a1) := by
  unfold execTurnTimeout
  extract_lets +onlyGivenNames x0
  split
  · rename_i i1 i2
    refine onNext_next ?_
    exact Fr.refl _ _
  · rename_i i3 i4 i5 i6 i7
    refine onNext_ite (fun c8 => ?_) (fun c8 => ?_)
    · refine onNext_next ?_
      refine Fr.call fr_endTurn rfl ?_
      refine Fr.call fr_gateSlot rfl ?_
      exact Fr.refl _ _
    · refine onNext_next ?_
      exact Fr.refl _ _

theorem fr_execUndrain {a0 a1} :
    onNext (fun b => Fr 17330180 a1 b) (execUndrain a0 a1) := by
  unfold execUndrain
  refine fr_command rfl (fun v0 => ?_)
  refine onOk_call fr_powerCmd rfl ?_
  exact Fr.refl _ _

theorem fr_execUnload {a0 a1 a2 a3 a4} :
    onNext (fun b => Fr 553088 a4 b) (execUnload a0 a1 a2 a3 a4) := by
  unfold execUnload
  refine fr_command rfl (fun v0 => ?_)
  refine onOk_call fr_unloadCmd rfl ?_
  exact Fr.refl _ _

theorem fr_execUnmap {a0 a1 a2 a3} :
    onNext (fun b => Fr 3731540 a3 b) (execUnmap a0 a1 a2 a3) := by
  unfold execUnmap
  refine onNext_call fr_execPage rfl ?_
  exact Fr.refl _ _

theorem fr_execUpdateDone {a0 a1} :
    onNext (fun b => Fr 6845744 a1 b) (execUpdateDone a0 a1) := by
  unfold execUpdateDone
  refine onNext_call fr_endProgram rfl ?_
  exact Fr.refl _ _

theorem fr_execUpdateProgramStart {a0 a1} :
    onNext (fun b => Fr 6845744 a1 b) (execUpdateProgramStart a0 a1) := by
  unfold execUpdateProgramStart
  refine onNext_call fr_tryStart rfl ?_
  exact Fr.refl _ _

theorem fr_execVariantRetire {a0 a1 a2 a3 a4} :
    onNext (fun b => Fr 553088 a4 b) (execVariantRetire a0 a1 a2 a3 a4) := by
  unfold execVariantRetire
  refine fr_command rfl (fun v0 => ?_)
  refine onOk_call fr_retireCmd rfl ?_
  exact Fr.refl _ _

theorem fr_execVfEnable {a0 a1} :
    onNext (fun b => Fr 2684660 a1 b) (execVfEnable a0 a1) := by
  unfold execVfEnable
  refine onNext_ite (fun c0 => ?_) (fun c0 => ?_)
  · refine onNext_next ?_
    exact Fr.refl _ _
  · refine onNext_next ?_
    refine Fr.call fr_setVfs rfl ?_
    exact Fr.refl _ _

theorem fr_execVfEnableClear {a0 a1} :
    onNext (fun b => Fr 2684660 a1 b) (execVfEnableClear a0 a1) := by
  unfold execVfEnableClear
  refine onNext_ite (fun c0 => ?_) (fun c0 => ?_)
  · refine onNext_next ?_
    exact Fr.refl _ _
  · refine onNext_next ?_
    refine Fr.call fr_setVfs rfl ?_
    exact Fr.refl _ _

theorem fr_execWithdraw {a0 a1} :
    onNext (fun b => Fr 2048 a1 b) (execWithdraw a0 a1) := by
  unfold execWithdraw
  split
  · rename_i i0 i1
    refine onNext_next ?_
    exact Fr.refl _ _
  · rename_i i2 i3 i4
    refine onNext_ite (fun c5 => ?_) (fun c5 => ?_)
    · refine onNext_next ?_
      exact Fr.refl _ _
    · extract_lets +onlyGivenNames x6
      refine onNext_next ?_
      refine Fr.lit ?_
      exact Fr.refl _ _

theorem fr_execWrite {a0 a1 a2 a3} :
    onNext (fun b => Fr 66846718 a3 b) (execWrite a0 a1 a2 a3) := by
  unfold execWrite
  refine onNext_call fr_serveItem rfl ?_
  exact Fr.refl _ _

theorem fr_landWrite {a0 a1} :
    Fr 6847600 a0 (landWrite a0 a1) := by
  unfold landWrite
  split
  · rename_i i0 i1 i2 i3 i4
    refine Fr.call fr_storeWindow rfl ?_
    exact Fr.refl _ _
  · rename_i i5 i6 i7
    refine fr_ite (fun c8 => ?_) (fun c8 => ?_)
    · exact Fr.refl _ _
    · refine Fr.call fr_storeBar2 rfl ?_
      exact Fr.refl _ _
  · rename_i i9 i10 i11 i12 i13
    refine Fr.call fr_takeTail rfl ?_
    exact Fr.refl _ _
  · rename_i i14 i15 i16 i17
    refine Fr.call fr_writeBar0 rfl ?_
    exact Fr.refl _ _

theorem fr_landWrites {a0 a1} :
    Fr 6847600 a0 (landWrites a0 a1) := by
  fun_induction landWrites
  · rename_i i0
    exact Fr.refl _ _
  · rename_i i1 i2 i3 i4 i5
    refine Fr.call i5 rfl ?_
    refine Fr.call fr_holdWrite rfl ?_
    exact Fr.refl _ _
  · rename_i i6 i7 i8 i9 i10
    refine Fr.call i10 rfl ?_
    refine Fr.call fr_landWrite rfl ?_
    exact Fr.refl _ _

theorem fr_noteWaits {a0} :
    Fr 545024 a0 (noteWaits a0) := by
  unfold noteWaits
  refine fr_foldl ?_ (fun v0 y0 h0 => ?_)
  · exact Fr.refl _ _
  · refine Fr.call fr_noteWait rfl ?_
    exact h0

theorem fr_retryWrites {a0} :
    Fr 6847600 a0 (retryWrites a0) := by
  unfold retryWrites
  refine fr_ite (fun c0 => ?_) (fun c0 => ?_)
  · exact Fr.refl _ _
  · refine Fr.call fr_landWrites rfl ?_
    refine Fr.call fr_modHost rfl ?_
    exact Fr.refl _ _

theorem fr_serveHeld {a0} :
    Fr 66846718 a0 (serveHeld a0) := by
  unfold serveHeld
  refine fr_ite (fun c0 => ?_) (fun c0 => ?_)
  · exact Fr.refl _ _
  · refine fr_foldl ?_ (fun v1 y1 h1 => ?_)
    · refine Fr.call fr_modDict rfl ?_
      exact Fr.refl _ _
    · refine Fr.call fr_serveFrame rfl ?_
      exact h1

theorem fr_serveTaken {a0 a1} :
    Fr 66846718 a0 (serveTaken a0 a1) := by
  unfold serveTaken
  extract_lets +onlyGivenNames x0
  extract_lets +onlyGivenNames x1
  split
  · rename_i i2 i3 i4 i5
    refine fr_ite (fun c6 => ?_) (fun c6 => ?_)
    · refine Fr.call fr_serveFrame rfl ?_
      exact Fr.refl _ _
    · extract_lets +onlyGivenNames x7
      extract_lets +onlyGivenNames x8
      have h8 : Fr 66846718 a0 x8 := by
        unfold x8
        refine Fr.call fr_serveFrame rfl ?_
        refine Fr.call fr_setFn rfl ?_
        exact Fr.refl _ _
      clear_value x8
      extract_lets +onlyGivenNames x9
      extract_lets +onlyGivenNames x10
      have h10 : Fr 66846718 a0 x10 := by
        unfold x10
        refine Fr.call fr_setFn rfl ?_
        exact h8
      clear_value x10
      refine Fr.lit ?_
      exact h10

theorem fr_serveOrHold {a0 a1 a2} :
    Fr 66846718 a1 (serveOrHold a0 a1 a2) := by
  unfold serveOrHold
  refine fr_ite (fun c0 => ?_) (fun c0 => ?_)
  · refine Fr.call fr_modHost rfl ?_
    exact Fr.refl _ _
  · refine Fr.call fr_serveTaken rfl ?_
    exact Fr.refl _ _

theorem fr_serveMailboxes {a0} :
    Fr 66846718 a0 (serveMailboxes a0) := by
  unfold serveMailboxes
  extract_lets +onlyGivenNames x0
  refine fr_ite (fun c1 => ?_) (fun c1 => ?_)
  · exact Fr.refl _ _
  · extract_lets +onlyGivenNames x2
    have h2 : Fr 66846718 a0 x2 := by
      unfold x2
      refine Fr.call fr_modHost rfl ?_
      exact Fr.refl _ _
    clear_value x2
    refine fr_foldl ?_ (fun v3 y3 h3 => ?_)
    · exact h2
    · refine Fr.call fr_serveOrHold rfl ?_
      exact h3

theorem fr_serveRequests {a0} :
    Fr 66846718 a0 (serveRequests a0) := by
  unfold serveRequests
  refine Fr.call fr_serveHeld rfl ?_
  refine Fr.call fr_serveMailboxes rfl ?_
  exact Fr.refl _ _

theorem fr_tickOff {a0} :
    Fr 16777220 a0 (tickOff a0) := by
  unfold tickOff
  refine Fr.lit ?_
  exact Fr.refl _ _

theorem fr_tickUp {a0} :
    Fr 636004 a0 (tickUp a0) := by
  unfold tickUp
  refine Fr.call fr_retrainNext rfl ?_
  refine Fr.call fr_fillTrigger rfl ?_
  refine Fr.call fr_ageAll rfl ?_
  refine Fr.call fr_accrueAll rfl ?_
  exact Fr.refl _ _

theorem fr_writeWaiting {a0} :
    Fr 6878324 a0 (writeWaiting a0) := by
  unfold writeWaiting
  refine fr_foldl ?_ (fun v0 y0 h0 => ?_)
  · exact Fr.refl _ _
  · refine Fr.call fr_deliverHeld rfl ?_
    exact h0

theorem fr_tick {a0} :
    Fr 66846718 a0 (tick a0) := by
  unfold tick
  refine fr_ite (fun c0 => ?_) (fun c0 => ?_)
  · refine Fr.call fr_tickOff rfl ?_
    exact Fr.refl _ _
  · extract_lets +onlyGivenNames x1
    have h1 : Fr 66846718 a0 x1 := by
      unfold x1
      refine fr_ite (fun c2 => ?_) (fun c2 => ?_)
      · refine Fr.call fr_noteWaits rfl ?_
        exact Fr.refl _ _
      · exact Fr.refl _ _
    clear_value x1
    extract_lets +onlyGivenNames x3
    have h3 : Fr 66846718 a0 x3 := by
      unfold x3
      refine Fr.call fr_retryWrites rfl ?_
      refine Fr.call fr_serveRequests rfl ?_
      refine Fr.lit ?_
      exact h1
    clear_value x3
    refine fr_ite (fun c4 => ?_) (fun c4 => ?_)
    · refine Fr.call fr_tickUp rfl ?_
      refine Fr.call fr_writeWaiting rfl ?_
      exact h3
    · exact h3

end Sys2Proof.Laws
end

