-- ==== Sys2Proof/Laws/State.lean ====
section
/-! SUPPORT. What each update of the state leaves as it was, field by field: no later proof unfolds a record update. -/

set_option Elab.async false

namespace Sys2Proof.Machine

/-! ### setMoon -/

@[simp] theorem setMoon_pending (s : State) (m : Nat) (x : Moon) : (setMoon s m x).pending = s.pending := rfl
@[simp] theorem setMoon_orbit (s : State) (m : Nat) (x : Moon) : (setMoon s m x).orbit = s.orbit := rfl
@[simp] theorem setMoon_power (s : State) (m : Nat) (x : Moon) : (setMoon s m x).power = s.power := rfl
@[simp] theorem setMoon_cores (s : State) (m : Nat) (x : Moon) : (setMoon s m x).cores = s.cores := rfl
@[simp] theorem setMoon_mem (s : State) (m : Nat) (x : Moon) : (setMoon s m x).mem = s.mem := rfl
@[simp] theorem setMoon_tasks (s : State) (m : Nat) (x : Moon) : (setMoon s m x).tasks = s.tasks := rfl
@[simp] theorem setMoon_moons (s : State) (m : Nat) (x : Moon) : (setMoon s m x).moons = tset s.moons m x := rfl
@[simp] theorem setMoon_serve (s : State) (m : Nat) (x : Moon) : (setMoon s m x).serve = s.serve := rfl
@[simp] theorem setMoon_train (s : State) (m : Nat) (x : Moon) : (setMoon s m x).train = s.train := rfl
@[simp] theorem setMoon_fetch (s : State) (m : Nat) (x : Moon) : (setMoon s m x).fetch = s.fetch := rfl
@[simp] theorem setMoon_links (s : State) (m : Nat) (x : Moon) : (setMoon s m x).links = s.links := rfl
@[simp] theorem setMoon_pack (s : State) (m : Nat) (x : Moon) : (setMoon s m x).pack = s.pack := rfl
@[simp] theorem setMoon_host (s : State) (m : Nat) (x : Moon) : (setMoon s m x).host = s.host := rfl
@[simp] theorem setMoon_dict (s : State) (m : Nat) (x : Moon) : (setMoon s m x).dict = s.dict := rfl
@[simp] theorem setMoon_stat (s : State) (m : Nat) (x : Moon) : (setMoon s m x).stat = s.stat := rfl
@[simp] theorem setMoon_journal (s : State) (m : Nat) (x : Moon) : (setMoon s m x).journal = s.journal := rfl
@[simp] theorem setMoon_fw (s : State) (m : Nat) (x : Moon) : (setMoon s m x).fw = s.fw := rfl
@[simp] theorem setMoon_sec (s : State) (m : Nat) (x : Moon) : (setMoon s m x).sec = s.sec := rfl
@[simp] theorem setMoon_jtag (s : State) (m : Nat) (x : Moon) : (setMoon s m x).jtag = s.jtag := rfl
@[simp] theorem setMoon_out (s : State) (m : Nat) (x : Moon) : (setMoon s m x).out = s.out := rfl
@[simp] theorem setMoon_free (s : State) (m : Nat) (x : Moon) : (setMoon s m x).free = s.free := rfl

/-! ### modMoon -/

@[simp] theorem modMoon_pending (s : State) (m : Nat) (f : Moon → Moon) : (modMoon s m f).pending = s.pending := rfl
@[simp] theorem modMoon_orbit (s : State) (m : Nat) (f : Moon → Moon) : (modMoon s m f).orbit = s.orbit := rfl
@[simp] theorem modMoon_power (s : State) (m : Nat) (f : Moon → Moon) : (modMoon s m f).power = s.power := rfl
@[simp] theorem modMoon_cores (s : State) (m : Nat) (f : Moon → Moon) : (modMoon s m f).cores = s.cores := rfl
@[simp] theorem modMoon_mem (s : State) (m : Nat) (f : Moon → Moon) : (modMoon s m f).mem = s.mem := rfl
@[simp] theorem modMoon_tasks (s : State) (m : Nat) (f : Moon → Moon) : (modMoon s m f).tasks = s.tasks := rfl
@[simp] theorem modMoon_moons (s : State) (m : Nat) (f : Moon → Moon) : (modMoon s m f).moons = tset s.moons m (f (getMoon s m)) := rfl
@[simp] theorem modMoon_serve (s : State) (m : Nat) (f : Moon → Moon) : (modMoon s m f).serve = s.serve := rfl
@[simp] theorem modMoon_train (s : State) (m : Nat) (f : Moon → Moon) : (modMoon s m f).train = s.train := rfl
@[simp] theorem modMoon_fetch (s : State) (m : Nat) (f : Moon → Moon) : (modMoon s m f).fetch = s.fetch := rfl
@[simp] theorem modMoon_links (s : State) (m : Nat) (f : Moon → Moon) : (modMoon s m f).links = s.links := rfl
@[simp] theorem modMoon_pack (s : State) (m : Nat) (f : Moon → Moon) : (modMoon s m f).pack = s.pack := rfl
@[simp] theorem modMoon_host (s : State) (m : Nat) (f : Moon → Moon) : (modMoon s m f).host = s.host := rfl
@[simp] theorem modMoon_dict (s : State) (m : Nat) (f : Moon → Moon) : (modMoon s m f).dict = s.dict := rfl
@[simp] theorem modMoon_stat (s : State) (m : Nat) (f : Moon → Moon) : (modMoon s m f).stat = s.stat := rfl
@[simp] theorem modMoon_journal (s : State) (m : Nat) (f : Moon → Moon) : (modMoon s m f).journal = s.journal := rfl
@[simp] theorem modMoon_fw (s : State) (m : Nat) (f : Moon → Moon) : (modMoon s m f).fw = s.fw := rfl
@[simp] theorem modMoon_sec (s : State) (m : Nat) (f : Moon → Moon) : (modMoon s m f).sec = s.sec := rfl
@[simp] theorem modMoon_jtag (s : State) (m : Nat) (f : Moon → Moon) : (modMoon s m f).jtag = s.jtag := rfl
@[simp] theorem modMoon_out (s : State) (m : Nat) (f : Moon → Moon) : (modMoon s m f).out = s.out := rfl
@[simp] theorem modMoon_free (s : State) (m : Nat) (f : Moon → Moon) : (modMoon s m f).free = s.free := rfl

/-! ### setRing -/

@[simp] theorem setRing_pending (s : State) (m r : Nat) (x : Ring) : (setRing s m r x).pending = s.pending := rfl
@[simp] theorem setRing_orbit (s : State) (m r : Nat) (x : Ring) : (setRing s m r x).orbit = s.orbit := rfl
@[simp] theorem setRing_power (s : State) (m r : Nat) (x : Ring) : (setRing s m r x).power = s.power := rfl
@[simp] theorem setRing_cores (s : State) (m r : Nat) (x : Ring) : (setRing s m r x).cores = s.cores := rfl
@[simp] theorem setRing_mem (s : State) (m r : Nat) (x : Ring) : (setRing s m r x).mem = s.mem := rfl
@[simp] theorem setRing_tasks (s : State) (m r : Nat) (x : Ring) : (setRing s m r x).tasks = { s.tasks with rings := tset s.tasks.rings (16 * m + r) x } := rfl
@[simp] theorem setRing_moons (s : State) (m r : Nat) (x : Ring) : (setRing s m r x).moons = s.moons := rfl
@[simp] theorem setRing_serve (s : State) (m r : Nat) (x : Ring) : (setRing s m r x).serve = s.serve := rfl
@[simp] theorem setRing_train (s : State) (m r : Nat) (x : Ring) : (setRing s m r x).train = s.train := rfl
@[simp] theorem setRing_fetch (s : State) (m r : Nat) (x : Ring) : (setRing s m r x).fetch = s.fetch := rfl
@[simp] theorem setRing_links (s : State) (m r : Nat) (x : Ring) : (setRing s m r x).links = s.links := rfl
@[simp] theorem setRing_pack (s : State) (m r : Nat) (x : Ring) : (setRing s m r x).pack = s.pack := rfl
@[simp] theorem setRing_host (s : State) (m r : Nat) (x : Ring) : (setRing s m r x).host = s.host := rfl
@[simp] theorem setRing_dict (s : State) (m r : Nat) (x : Ring) : (setRing s m r x).dict = s.dict := rfl
@[simp] theorem setRing_stat (s : State) (m r : Nat) (x : Ring) : (setRing s m r x).stat = s.stat := rfl
@[simp] theorem setRing_journal (s : State) (m r : Nat) (x : Ring) : (setRing s m r x).journal = s.journal := rfl
@[simp] theorem setRing_fw (s : State) (m r : Nat) (x : Ring) : (setRing s m r x).fw = s.fw := rfl
@[simp] theorem setRing_sec (s : State) (m r : Nat) (x : Ring) : (setRing s m r x).sec = s.sec := rfl
@[simp] theorem setRing_jtag (s : State) (m r : Nat) (x : Ring) : (setRing s m r x).jtag = s.jtag := rfl
@[simp] theorem setRing_out (s : State) (m r : Nat) (x : Ring) : (setRing s m r x).out = s.out := rfl
@[simp] theorem setRing_free (s : State) (m r : Nat) (x : Ring) : (setRing s m r x).free = s.free := rfl

/-! ### setServe -/

@[simp] theorem setServe_pending (s : State) (m : Nat) (x : Serve) : (setServe s m x).pending = s.pending := rfl
@[simp] theorem setServe_orbit (s : State) (m : Nat) (x : Serve) : (setServe s m x).orbit = s.orbit := rfl
@[simp] theorem setServe_power (s : State) (m : Nat) (x : Serve) : (setServe s m x).power = s.power := rfl
@[simp] theorem setServe_cores (s : State) (m : Nat) (x : Serve) : (setServe s m x).cores = s.cores := rfl
@[simp] theorem setServe_mem (s : State) (m : Nat) (x : Serve) : (setServe s m x).mem = s.mem := rfl
@[simp] theorem setServe_tasks (s : State) (m : Nat) (x : Serve) : (setServe s m x).tasks = s.tasks := rfl
@[simp] theorem setServe_moons (s : State) (m : Nat) (x : Serve) : (setServe s m x).moons = s.moons := rfl
@[simp] theorem setServe_serve (s : State) (m : Nat) (x : Serve) : (setServe s m x).serve = tset s.serve m x := rfl
@[simp] theorem setServe_train (s : State) (m : Nat) (x : Serve) : (setServe s m x).train = s.train := rfl
@[simp] theorem setServe_fetch (s : State) (m : Nat) (x : Serve) : (setServe s m x).fetch = s.fetch := rfl
@[simp] theorem setServe_links (s : State) (m : Nat) (x : Serve) : (setServe s m x).links = s.links := rfl
@[simp] theorem setServe_pack (s : State) (m : Nat) (x : Serve) : (setServe s m x).pack = s.pack := rfl
@[simp] theorem setServe_host (s : State) (m : Nat) (x : Serve) : (setServe s m x).host = s.host := rfl
@[simp] theorem setServe_dict (s : State) (m : Nat) (x : Serve) : (setServe s m x).dict = s.dict := rfl
@[simp] theorem setServe_stat (s : State) (m : Nat) (x : Serve) : (setServe s m x).stat = s.stat := rfl
@[simp] theorem setServe_journal (s : State) (m : Nat) (x : Serve) : (setServe s m x).journal = s.journal := rfl
@[simp] theorem setServe_fw (s : State) (m : Nat) (x : Serve) : (setServe s m x).fw = s.fw := rfl
@[simp] theorem setServe_sec (s : State) (m : Nat) (x : Serve) : (setServe s m x).sec = s.sec := rfl
@[simp] theorem setServe_jtag (s : State) (m : Nat) (x : Serve) : (setServe s m x).jtag = s.jtag := rfl
@[simp] theorem setServe_out (s : State) (m : Nat) (x : Serve) : (setServe s m x).out = s.out := rfl
@[simp] theorem setServe_free (s : State) (m : Nat) (x : Serve) : (setServe s m x).free = s.free := rfl

/-! ### setTrain -/

@[simp] theorem setTrain_pending (s : State) (m : Nat) (x : Train) : (setTrain s m x).pending = s.pending := rfl
@[simp] theorem setTrain_orbit (s : State) (m : Nat) (x : Train) : (setTrain s m x).orbit = s.orbit := rfl
@[simp] theorem setTrain_power (s : State) (m : Nat) (x : Train) : (setTrain s m x).power = s.power := rfl
@[simp] theorem setTrain_cores (s : State) (m : Nat) (x : Train) : (setTrain s m x).cores = s.cores := rfl
@[simp] theorem setTrain_mem (s : State) (m : Nat) (x : Train) : (setTrain s m x).mem = s.mem := rfl
@[simp] theorem setTrain_tasks (s : State) (m : Nat) (x : Train) : (setTrain s m x).tasks = s.tasks := rfl
@[simp] theorem setTrain_moons (s : State) (m : Nat) (x : Train) : (setTrain s m x).moons = s.moons := rfl
@[simp] theorem setTrain_serve (s : State) (m : Nat) (x : Train) : (setTrain s m x).serve = s.serve := rfl
@[simp] theorem setTrain_train (s : State) (m : Nat) (x : Train) : (setTrain s m x).train = tset s.train m x := rfl
@[simp] theorem setTrain_fetch (s : State) (m : Nat) (x : Train) : (setTrain s m x).fetch = s.fetch := rfl
@[simp] theorem setTrain_links (s : State) (m : Nat) (x : Train) : (setTrain s m x).links = s.links := rfl
@[simp] theorem setTrain_pack (s : State) (m : Nat) (x : Train) : (setTrain s m x).pack = s.pack := rfl
@[simp] theorem setTrain_host (s : State) (m : Nat) (x : Train) : (setTrain s m x).host = s.host := rfl
@[simp] theorem setTrain_dict (s : State) (m : Nat) (x : Train) : (setTrain s m x).dict = s.dict := rfl
@[simp] theorem setTrain_stat (s : State) (m : Nat) (x : Train) : (setTrain s m x).stat = s.stat := rfl
@[simp] theorem setTrain_journal (s : State) (m : Nat) (x : Train) : (setTrain s m x).journal = s.journal := rfl
@[simp] theorem setTrain_fw (s : State) (m : Nat) (x : Train) : (setTrain s m x).fw = s.fw := rfl
@[simp] theorem setTrain_sec (s : State) (m : Nat) (x : Train) : (setTrain s m x).sec = s.sec := rfl
@[simp] theorem setTrain_jtag (s : State) (m : Nat) (x : Train) : (setTrain s m x).jtag = s.jtag := rfl
@[simp] theorem setTrain_out (s : State) (m : Nat) (x : Train) : (setTrain s m x).out = s.out := rfl
@[simp] theorem setTrain_free (s : State) (m : Nat) (x : Train) : (setTrain s m x).free = s.free := rfl

/-! ### setFn -/

@[simp] theorem setFn_pending (s : State) (n : Nat) (f : Func) : (setFn s n f).pending = s.pending := rfl
@[simp] theorem setFn_orbit (s : State) (n : Nat) (f : Func) : (setFn s n f).orbit = s.orbit := rfl
@[simp] theorem setFn_power (s : State) (n : Nat) (f : Func) : (setFn s n f).power = s.power := rfl
@[simp] theorem setFn_cores (s : State) (n : Nat) (f : Func) : (setFn s n f).cores = s.cores := rfl
@[simp] theorem setFn_mem (s : State) (n : Nat) (f : Func) : (setFn s n f).mem = s.mem := rfl
@[simp] theorem setFn_tasks (s : State) (n : Nat) (f : Func) : (setFn s n f).tasks = s.tasks := rfl
@[simp] theorem setFn_moons (s : State) (n : Nat) (f : Func) : (setFn s n f).moons = s.moons := rfl
@[simp] theorem setFn_serve (s : State) (n : Nat) (f : Func) : (setFn s n f).serve = s.serve := rfl
@[simp] theorem setFn_train (s : State) (n : Nat) (f : Func) : (setFn s n f).train = s.train := rfl
@[simp] theorem setFn_fetch (s : State) (n : Nat) (f : Func) : (setFn s n f).fetch = s.fetch := rfl
@[simp] theorem setFn_links (s : State) (n : Nat) (f : Func) : (setFn s n f).links = s.links := rfl
@[simp] theorem setFn_pack (s : State) (n : Nat) (f : Func) : (setFn s n f).pack = s.pack := rfl
@[simp] theorem setFn_host (s : State) (n : Nat) (f : Func) : (setFn s n f).host = { s.host with funcs := tset s.host.funcs n f } := rfl
@[simp] theorem setFn_dict (s : State) (n : Nat) (f : Func) : (setFn s n f).dict = s.dict := rfl
@[simp] theorem setFn_stat (s : State) (n : Nat) (f : Func) : (setFn s n f).stat = s.stat := rfl
@[simp] theorem setFn_journal (s : State) (n : Nat) (f : Func) : (setFn s n f).journal = s.journal := rfl
@[simp] theorem setFn_fw (s : State) (n : Nat) (f : Func) : (setFn s n f).fw = s.fw := rfl
@[simp] theorem setFn_sec (s : State) (n : Nat) (f : Func) : (setFn s n f).sec = s.sec := rfl
@[simp] theorem setFn_jtag (s : State) (n : Nat) (f : Func) : (setFn s n f).jtag = s.jtag := rfl
@[simp] theorem setFn_out (s : State) (n : Nat) (f : Func) : (setFn s n f).out = s.out := rfl
@[simp] theorem setFn_free (s : State) (n : Nat) (f : Func) : (setFn s n f).free = s.free := rfl

/-! ### setPort -/

@[simp] theorem setPort_pending (s : State) (p : Nat) (x : Port) : (setPort s p x).pending = s.pending := rfl
@[simp] theorem setPort_orbit (s : State) (p : Nat) (x : Port) : (setPort s p x).orbit = s.orbit := rfl
@[simp] theorem setPort_power (s : State) (p : Nat) (x : Port) : (setPort s p x).power = s.power := rfl
@[simp] theorem setPort_cores (s : State) (p : Nat) (x : Port) : (setPort s p x).cores = s.cores := rfl
@[simp] theorem setPort_mem (s : State) (p : Nat) (x : Port) : (setPort s p x).mem = s.mem := rfl
@[simp] theorem setPort_tasks (s : State) (p : Nat) (x : Port) : (setPort s p x).tasks = s.tasks := rfl
@[simp] theorem setPort_moons (s : State) (p : Nat) (x : Port) : (setPort s p x).moons = s.moons := rfl
@[simp] theorem setPort_serve (s : State) (p : Nat) (x : Port) : (setPort s p x).serve = s.serve := rfl
@[simp] theorem setPort_train (s : State) (p : Nat) (x : Port) : (setPort s p x).train = s.train := rfl
@[simp] theorem setPort_fetch (s : State) (p : Nat) (x : Port) : (setPort s p x).fetch = s.fetch := rfl
@[simp] theorem setPort_links (s : State) (p : Nat) (x : Port) : (setPort s p x).links = { s.links with ports := tset s.links.ports p x } := rfl
@[simp] theorem setPort_pack (s : State) (p : Nat) (x : Port) : (setPort s p x).pack = s.pack := rfl
@[simp] theorem setPort_host (s : State) (p : Nat) (x : Port) : (setPort s p x).host = s.host := rfl
@[simp] theorem setPort_dict (s : State) (p : Nat) (x : Port) : (setPort s p x).dict = s.dict := rfl
@[simp] theorem setPort_stat (s : State) (p : Nat) (x : Port) : (setPort s p x).stat = s.stat := rfl
@[simp] theorem setPort_journal (s : State) (p : Nat) (x : Port) : (setPort s p x).journal = s.journal := rfl
@[simp] theorem setPort_fw (s : State) (p : Nat) (x : Port) : (setPort s p x).fw = s.fw := rfl
@[simp] theorem setPort_sec (s : State) (p : Nat) (x : Port) : (setPort s p x).sec = s.sec := rfl
@[simp] theorem setPort_jtag (s : State) (p : Nat) (x : Port) : (setPort s p x).jtag = s.jtag := rfl
@[simp] theorem setPort_out (s : State) (p : Nat) (x : Port) : (setPort s p x).out = s.out := rfl
@[simp] theorem setPort_free (s : State) (p : Nat) (x : Port) : (setPort s p x).free = s.free := rfl

/-! ### emit -/

@[simp] theorem emit_pending (s : State) (o : Out) : (emit s o).pending = s.pending := rfl
@[simp] theorem emit_orbit (s : State) (o : Out) : (emit s o).orbit = s.orbit := rfl
@[simp] theorem emit_power (s : State) (o : Out) : (emit s o).power = s.power := rfl
@[simp] theorem emit_cores (s : State) (o : Out) : (emit s o).cores = s.cores := rfl
@[simp] theorem emit_mem (s : State) (o : Out) : (emit s o).mem = s.mem := rfl
@[simp] theorem emit_tasks (s : State) (o : Out) : (emit s o).tasks = s.tasks := rfl
@[simp] theorem emit_moons (s : State) (o : Out) : (emit s o).moons = s.moons := rfl
@[simp] theorem emit_serve (s : State) (o : Out) : (emit s o).serve = s.serve := rfl
@[simp] theorem emit_train (s : State) (o : Out) : (emit s o).train = s.train := rfl
@[simp] theorem emit_fetch (s : State) (o : Out) : (emit s o).fetch = s.fetch := rfl
@[simp] theorem emit_links (s : State) (o : Out) : (emit s o).links = s.links := rfl
@[simp] theorem emit_pack (s : State) (o : Out) : (emit s o).pack = s.pack := rfl
@[simp] theorem emit_host (s : State) (o : Out) : (emit s o).host = s.host := rfl
@[simp] theorem emit_dict (s : State) (o : Out) : (emit s o).dict = s.dict := rfl
@[simp] theorem emit_stat (s : State) (o : Out) : (emit s o).stat = s.stat := rfl
@[simp] theorem emit_journal (s : State) (o : Out) : (emit s o).journal = s.journal := rfl
@[simp] theorem emit_fw (s : State) (o : Out) : (emit s o).fw = s.fw := rfl
@[simp] theorem emit_sec (s : State) (o : Out) : (emit s o).sec = s.sec := rfl
@[simp] theorem emit_jtag (s : State) (o : Out) : (emit s o).jtag = s.jtag := rfl
@[simp] theorem emit_out (s : State) (o : Out) : (emit s o).out = o :: s.out := rfl
@[simp] theorem emit_free (s : State) (o : Out) : (emit s o).free = s.free := rfl

/-! ### setParam -/

@[simp] theorem setParam_pending (s : State) (p e v : Nat) : (setParam s p e v).pending = s.pending := rfl
@[simp] theorem setParam_orbit (s : State) (p e v : Nat) : (setParam s p e v).orbit = s.orbit := rfl
@[simp] theorem setParam_power (s : State) (p e v : Nat) : (setParam s p e v).power = s.power := rfl
@[simp] theorem setParam_cores (s : State) (p e v : Nat) : (setParam s p e v).cores = s.cores := rfl
@[simp] theorem setParam_mem (s : State) (p e v : Nat) : (setParam s p e v).mem = s.mem := rfl
@[simp] theorem setParam_tasks (s : State) (p e v : Nat) : (setParam s p e v).tasks = s.tasks := rfl
@[simp] theorem setParam_moons (s : State) (p e v : Nat) : (setParam s p e v).moons = s.moons := rfl
@[simp] theorem setParam_serve (s : State) (p e v : Nat) : (setParam s p e v).serve = s.serve := rfl
@[simp] theorem setParam_train (s : State) (p e v : Nat) : (setParam s p e v).train = s.train := rfl
@[simp] theorem setParam_fetch (s : State) (p e v : Nat) : (setParam s p e v).fetch = s.fetch := rfl
@[simp] theorem setParam_links (s : State) (p e v : Nat) : (setParam s p e v).links = s.links := rfl
@[simp] theorem setParam_pack (s : State) (p e v : Nat) : (setParam s p e v).pack = s.pack := rfl
@[simp] theorem setParam_host (s : State) (p e v : Nat) : (setParam s p e v).host = s.host := rfl
@[simp] theorem setParam_dict (s : State) (p e v : Nat) : (setParam s p e v).dict = { s.dict with params := tset s.dict.params (pkey p e) v } := rfl
@[simp] theorem setParam_stat (s : State) (p e v : Nat) : (setParam s p e v).stat = s.stat := rfl
@[simp] theorem setParam_journal (s : State) (p e v : Nat) : (setParam s p e v).journal = s.journal := rfl
@[simp] theorem setParam_fw (s : State) (p e v : Nat) : (setParam s p e v).fw = s.fw := rfl
@[simp] theorem setParam_sec (s : State) (p e v : Nat) : (setParam s p e v).sec = s.sec := rfl
@[simp] theorem setParam_jtag (s : State) (p e v : Nat) : (setParam s p e v).jtag = s.jtag := rfl
@[simp] theorem setParam_out (s : State) (p e v : Nat) : (setParam s p e v).out = s.out := rfl
@[simp] theorem setParam_free (s : State) (p e v : Nat) : (setParam s p e v).free = s.free := rfl

/-! ### modDict -/

@[simp] theorem modDict_pending (s : State) (f : DictUnit → DictUnit) : (modDict s f).pending = s.pending := rfl
@[simp] theorem modDict_orbit (s : State) (f : DictUnit → DictUnit) : (modDict s f).orbit = s.orbit := rfl
@[simp] theorem modDict_power (s : State) (f : DictUnit → DictUnit) : (modDict s f).power = s.power := rfl
@[simp] theorem modDict_cores (s : State) (f : DictUnit → DictUnit) : (modDict s f).cores = s.cores := rfl
@[simp] theorem modDict_mem (s : State) (f : DictUnit → DictUnit) : (modDict s f).mem = s.mem := rfl
@[simp] theorem modDict_tasks (s : State) (f : DictUnit → DictUnit) : (modDict s f).tasks = s.tasks := rfl
@[simp] theorem modDict_moons (s : State) (f : DictUnit → DictUnit) : (modDict s f).moons = s.moons := rfl
@[simp] theorem modDict_serve (s : State) (f : DictUnit → DictUnit) : (modDict s f).serve = s.serve := rfl
@[simp] theorem modDict_train (s : State) (f : DictUnit → DictUnit) : (modDict s f).train = s.train := rfl
@[simp] theorem modDict_fetch (s : State) (f : DictUnit → DictUnit) : (modDict s f).fetch = s.fetch := rfl
@[simp] theorem modDict_links (s : State) (f : DictUnit → DictUnit) : (modDict s f).links = s.links := rfl
@[simp] theorem modDict_pack (s : State) (f : DictUnit → DictUnit) : (modDict s f).pack = s.pack := rfl
@[simp] theorem modDict_host (s : State) (f : DictUnit → DictUnit) : (modDict s f).host = s.host := rfl
@[simp] theorem modDict_dict (s : State) (f : DictUnit → DictUnit) : (modDict s f).dict = f s.dict := rfl
@[simp] theorem modDict_stat (s : State) (f : DictUnit → DictUnit) : (modDict s f).stat = s.stat := rfl
@[simp] theorem modDict_journal (s : State) (f : DictUnit → DictUnit) : (modDict s f).journal = s.journal := rfl
@[simp] theorem modDict_fw (s : State) (f : DictUnit → DictUnit) : (modDict s f).fw = s.fw := rfl
@[simp] theorem modDict_sec (s : State) (f : DictUnit → DictUnit) : (modDict s f).sec = s.sec := rfl
@[simp] theorem modDict_jtag (s : State) (f : DictUnit → DictUnit) : (modDict s f).jtag = s.jtag := rfl
@[simp] theorem modDict_out (s : State) (f : DictUnit → DictUnit) : (modDict s f).out = s.out := rfl
@[simp] theorem modDict_free (s : State) (f : DictUnit → DictUnit) : (modDict s f).free = s.free := rfl

/-! ### modFw -/

@[simp] theorem modFw_pending (s : State) (f : FwUnit → FwUnit) : (modFw s f).pending = s.pending := rfl
@[simp] theorem modFw_orbit (s : State) (f : FwUnit → FwUnit) : (modFw s f).orbit = s.orbit := rfl
@[simp] theorem modFw_power (s : State) (f : FwUnit → FwUnit) : (modFw s f).power = s.power := rfl
@[simp] theorem modFw_cores (s : State) (f : FwUnit → FwUnit) : (modFw s f).cores = s.cores := rfl
@[simp] theorem modFw_mem (s : State) (f : FwUnit → FwUnit) : (modFw s f).mem = s.mem := rfl
@[simp] theorem modFw_tasks (s : State) (f : FwUnit → FwUnit) : (modFw s f).tasks = s.tasks := rfl
@[simp] theorem modFw_moons (s : State) (f : FwUnit → FwUnit) : (modFw s f).moons = s.moons := rfl
@[simp] theorem modFw_serve (s : State) (f : FwUnit → FwUnit) : (modFw s f).serve = s.serve := rfl
@[simp] theorem modFw_train (s : State) (f : FwUnit → FwUnit) : (modFw s f).train = s.train := rfl
@[simp] theorem modFw_fetch (s : State) (f : FwUnit → FwUnit) : (modFw s f).fetch = s.fetch := rfl
@[simp] theorem modFw_links (s : State) (f : FwUnit → FwUnit) : (modFw s f).links = s.links := rfl
@[simp] theorem modFw_pack (s : State) (f : FwUnit → FwUnit) : (modFw s f).pack = s.pack := rfl
@[simp] theorem modFw_host (s : State) (f : FwUnit → FwUnit) : (modFw s f).host = s.host := rfl
@[simp] theorem modFw_dict (s : State) (f : FwUnit → FwUnit) : (modFw s f).dict = s.dict := rfl
@[simp] theorem modFw_stat (s : State) (f : FwUnit → FwUnit) : (modFw s f).stat = s.stat := rfl
@[simp] theorem modFw_journal (s : State) (f : FwUnit → FwUnit) : (modFw s f).journal = s.journal := rfl
@[simp] theorem modFw_fw (s : State) (f : FwUnit → FwUnit) : (modFw s f).fw = f s.fw := rfl
@[simp] theorem modFw_sec (s : State) (f : FwUnit → FwUnit) : (modFw s f).sec = s.sec := rfl
@[simp] theorem modFw_jtag (s : State) (f : FwUnit → FwUnit) : (modFw s f).jtag = s.jtag := rfl
@[simp] theorem modFw_out (s : State) (f : FwUnit → FwUnit) : (modFw s f).out = s.out := rfl
@[simp] theorem modFw_free (s : State) (f : FwUnit → FwUnit) : (modFw s f).free = s.free := rfl

/-! ### modHost -/

@[simp] theorem modHost_pending (s : State) (f : HostUnit → HostUnit) : (modHost s f).pending = s.pending := rfl
@[simp] theorem modHost_orbit (s : State) (f : HostUnit → HostUnit) : (modHost s f).orbit = s.orbit := rfl
@[simp] theorem modHost_power (s : State) (f : HostUnit → HostUnit) : (modHost s f).power = s.power := rfl
@[simp] theorem modHost_cores (s : State) (f : HostUnit → HostUnit) : (modHost s f).cores = s.cores := rfl
@[simp] theorem modHost_mem (s : State) (f : HostUnit → HostUnit) : (modHost s f).mem = s.mem := rfl
@[simp] theorem modHost_tasks (s : State) (f : HostUnit → HostUnit) : (modHost s f).tasks = s.tasks := rfl
@[simp] theorem modHost_moons (s : State) (f : HostUnit → HostUnit) : (modHost s f).moons = s.moons := rfl
@[simp] theorem modHost_serve (s : State) (f : HostUnit → HostUnit) : (modHost s f).serve = s.serve := rfl
@[simp] theorem modHost_train (s : State) (f : HostUnit → HostUnit) : (modHost s f).train = s.train := rfl
@[simp] theorem modHost_fetch (s : State) (f : HostUnit → HostUnit) : (modHost s f).fetch = s.fetch := rfl
@[simp] theorem modHost_links (s : State) (f : HostUnit → HostUnit) : (modHost s f).links = s.links := rfl
@[simp] theorem modHost_pack (s : State) (f : HostUnit → HostUnit) : (modHost s f).pack = s.pack := rfl
@[simp] theorem modHost_host (s : State) (f : HostUnit → HostUnit) : (modHost s f).host = f s.host := rfl
@[simp] theorem modHost_dict (s : State) (f : HostUnit → HostUnit) : (modHost s f).dict = s.dict := rfl
@[simp] theorem modHost_stat (s : State) (f : HostUnit → HostUnit) : (modHost s f).stat = s.stat := rfl
@[simp] theorem modHost_journal (s : State) (f : HostUnit → HostUnit) : (modHost s f).journal = s.journal := rfl
@[simp] theorem modHost_fw (s : State) (f : HostUnit → HostUnit) : (modHost s f).fw = s.fw := rfl
@[simp] theorem modHost_sec (s : State) (f : HostUnit → HostUnit) : (modHost s f).sec = s.sec := rfl
@[simp] theorem modHost_jtag (s : State) (f : HostUnit → HostUnit) : (modHost s f).jtag = s.jtag := rfl
@[simp] theorem modHost_out (s : State) (f : HostUnit → HostUnit) : (modHost s f).out = s.out := rfl
@[simp] theorem modHost_free (s : State) (f : HostUnit → HostUnit) : (modHost s f).free = s.free := rfl

/-! ### modJournal -/

@[simp] theorem modJournal_pending (s : State) (f : JournalUnit → JournalUnit) : (modJournal s f).pending = s.pending := rfl
@[simp] theorem modJournal_orbit (s : State) (f : JournalUnit → JournalUnit) : (modJournal s f).orbit = s.orbit := rfl
@[simp] theorem modJournal_power (s : State) (f : JournalUnit → JournalUnit) : (modJournal s f).power = s.power := rfl
@[simp] theorem modJournal_cores (s : State) (f : JournalUnit → JournalUnit) : (modJournal s f).cores = s.cores := rfl
@[simp] theorem modJournal_mem (s : State) (f : JournalUnit → JournalUnit) : (modJournal s f).mem = s.mem := rfl
@[simp] theorem modJournal_tasks (s : State) (f : JournalUnit → JournalUnit) : (modJournal s f).tasks = s.tasks := rfl
@[simp] theorem modJournal_moons (s : State) (f : JournalUnit → JournalUnit) : (modJournal s f).moons = s.moons := rfl
@[simp] theorem modJournal_serve (s : State) (f : JournalUnit → JournalUnit) : (modJournal s f).serve = s.serve := rfl
@[simp] theorem modJournal_train (s : State) (f : JournalUnit → JournalUnit) : (modJournal s f).train = s.train := rfl
@[simp] theorem modJournal_fetch (s : State) (f : JournalUnit → JournalUnit) : (modJournal s f).fetch = s.fetch := rfl
@[simp] theorem modJournal_links (s : State) (f : JournalUnit → JournalUnit) : (modJournal s f).links = s.links := rfl
@[simp] theorem modJournal_pack (s : State) (f : JournalUnit → JournalUnit) : (modJournal s f).pack = s.pack := rfl
@[simp] theorem modJournal_host (s : State) (f : JournalUnit → JournalUnit) : (modJournal s f).host = s.host := rfl
@[simp] theorem modJournal_dict (s : State) (f : JournalUnit → JournalUnit) : (modJournal s f).dict = s.dict := rfl
@[simp] theorem modJournal_stat (s : State) (f : JournalUnit → JournalUnit) : (modJournal s f).stat = s.stat := rfl
@[simp] theorem modJournal_journal (s : State) (f : JournalUnit → JournalUnit) : (modJournal s f).journal = f s.journal := rfl
@[simp] theorem modJournal_fw (s : State) (f : JournalUnit → JournalUnit) : (modJournal s f).fw = s.fw := rfl
@[simp] theorem modJournal_sec (s : State) (f : JournalUnit → JournalUnit) : (modJournal s f).sec = s.sec := rfl
@[simp] theorem modJournal_jtag (s : State) (f : JournalUnit → JournalUnit) : (modJournal s f).jtag = s.jtag := rfl
@[simp] theorem modJournal_out (s : State) (f : JournalUnit → JournalUnit) : (modJournal s f).out = s.out := rfl
@[simp] theorem modJournal_free (s : State) (f : JournalUnit → JournalUnit) : (modJournal s f).free = s.free := rfl

/-! ### modJtag -/

@[simp] theorem modJtag_pending (s : State) (f : JtagUnit → JtagUnit) : (modJtag s f).pending = s.pending := rfl
@[simp] theorem modJtag_orbit (s : State) (f : JtagUnit → JtagUnit) : (modJtag s f).orbit = s.orbit := rfl
@[simp] theorem modJtag_power (s : State) (f : JtagUnit → JtagUnit) : (modJtag s f).power = s.power := rfl
@[simp] theorem modJtag_cores (s : State) (f : JtagUnit → JtagUnit) : (modJtag s f).cores = s.cores := rfl
@[simp] theorem modJtag_mem (s : State) (f : JtagUnit → JtagUnit) : (modJtag s f).mem = s.mem := rfl
@[simp] theorem modJtag_tasks (s : State) (f : JtagUnit → JtagUnit) : (modJtag s f).tasks = s.tasks := rfl
@[simp] theorem modJtag_moons (s : State) (f : JtagUnit → JtagUnit) : (modJtag s f).moons = s.moons := rfl
@[simp] theorem modJtag_serve (s : State) (f : JtagUnit → JtagUnit) : (modJtag s f).serve = s.serve := rfl
@[simp] theorem modJtag_train (s : State) (f : JtagUnit → JtagUnit) : (modJtag s f).train = s.train := rfl
@[simp] theorem modJtag_fetch (s : State) (f : JtagUnit → JtagUnit) : (modJtag s f).fetch = s.fetch := rfl
@[simp] theorem modJtag_links (s : State) (f : JtagUnit → JtagUnit) : (modJtag s f).links = s.links := rfl
@[simp] theorem modJtag_pack (s : State) (f : JtagUnit → JtagUnit) : (modJtag s f).pack = s.pack := rfl
@[simp] theorem modJtag_host (s : State) (f : JtagUnit → JtagUnit) : (modJtag s f).host = s.host := rfl
@[simp] theorem modJtag_dict (s : State) (f : JtagUnit → JtagUnit) : (modJtag s f).dict = s.dict := rfl
@[simp] theorem modJtag_stat (s : State) (f : JtagUnit → JtagUnit) : (modJtag s f).stat = s.stat := rfl
@[simp] theorem modJtag_journal (s : State) (f : JtagUnit → JtagUnit) : (modJtag s f).journal = s.journal := rfl
@[simp] theorem modJtag_fw (s : State) (f : JtagUnit → JtagUnit) : (modJtag s f).fw = s.fw := rfl
@[simp] theorem modJtag_sec (s : State) (f : JtagUnit → JtagUnit) : (modJtag s f).sec = s.sec := rfl
@[simp] theorem modJtag_jtag (s : State) (f : JtagUnit → JtagUnit) : (modJtag s f).jtag = f s.jtag := rfl
@[simp] theorem modJtag_out (s : State) (f : JtagUnit → JtagUnit) : (modJtag s f).out = s.out := rfl
@[simp] theorem modJtag_free (s : State) (f : JtagUnit → JtagUnit) : (modJtag s f).free = s.free := rfl

/-! ### modOrbit -/

@[simp] theorem modOrbit_pending (s : State) (f : OrbitUnit → OrbitUnit) : (modOrbit s f).pending = s.pending := rfl
@[simp] theorem modOrbit_orbit (s : State) (f : OrbitUnit → OrbitUnit) : (modOrbit s f).orbit = f s.orbit := rfl
@[simp] theorem modOrbit_power (s : State) (f : OrbitUnit → OrbitUnit) : (modOrbit s f).power = s.power := rfl
@[simp] theorem modOrbit_cores (s : State) (f : OrbitUnit → OrbitUnit) : (modOrbit s f).cores = s.cores := rfl
@[simp] theorem modOrbit_mem (s : State) (f : OrbitUnit → OrbitUnit) : (modOrbit s f).mem = s.mem := rfl
@[simp] theorem modOrbit_tasks (s : State) (f : OrbitUnit → OrbitUnit) : (modOrbit s f).tasks = s.tasks := rfl
@[simp] theorem modOrbit_moons (s : State) (f : OrbitUnit → OrbitUnit) : (modOrbit s f).moons = s.moons := rfl
@[simp] theorem modOrbit_serve (s : State) (f : OrbitUnit → OrbitUnit) : (modOrbit s f).serve = s.serve := rfl
@[simp] theorem modOrbit_train (s : State) (f : OrbitUnit → OrbitUnit) : (modOrbit s f).train = s.train := rfl
@[simp] theorem modOrbit_fetch (s : State) (f : OrbitUnit → OrbitUnit) : (modOrbit s f).fetch = s.fetch := rfl
@[simp] theorem modOrbit_links (s : State) (f : OrbitUnit → OrbitUnit) : (modOrbit s f).links = s.links := rfl
@[simp] theorem modOrbit_pack (s : State) (f : OrbitUnit → OrbitUnit) : (modOrbit s f).pack = s.pack := rfl
@[simp] theorem modOrbit_host (s : State) (f : OrbitUnit → OrbitUnit) : (modOrbit s f).host = s.host := rfl
@[simp] theorem modOrbit_dict (s : State) (f : OrbitUnit → OrbitUnit) : (modOrbit s f).dict = s.dict := rfl
@[simp] theorem modOrbit_stat (s : State) (f : OrbitUnit → OrbitUnit) : (modOrbit s f).stat = s.stat := rfl
@[simp] theorem modOrbit_journal (s : State) (f : OrbitUnit → OrbitUnit) : (modOrbit s f).journal = s.journal := rfl
@[simp] theorem modOrbit_fw (s : State) (f : OrbitUnit → OrbitUnit) : (modOrbit s f).fw = s.fw := rfl
@[simp] theorem modOrbit_sec (s : State) (f : OrbitUnit → OrbitUnit) : (modOrbit s f).sec = s.sec := rfl
@[simp] theorem modOrbit_jtag (s : State) (f : OrbitUnit → OrbitUnit) : (modOrbit s f).jtag = s.jtag := rfl
@[simp] theorem modOrbit_out (s : State) (f : OrbitUnit → OrbitUnit) : (modOrbit s f).out = s.out := rfl
@[simp] theorem modOrbit_free (s : State) (f : OrbitUnit → OrbitUnit) : (modOrbit s f).free = s.free := rfl

/-! ### modPower -/

@[simp] theorem modPower_pending (s : State) (f : PowerUnit → PowerUnit) : (modPower s f).pending = s.pending := rfl
@[simp] theorem modPower_orbit (s : State) (f : PowerUnit → PowerUnit) : (modPower s f).orbit = s.orbit := rfl
@[simp] theorem modPower_power (s : State) (f : PowerUnit → PowerUnit) : (modPower s f).power = f s.power := rfl
@[simp] theorem modPower_cores (s : State) (f : PowerUnit → PowerUnit) : (modPower s f).cores = s.cores := rfl
@[simp] theorem modPower_mem (s : State) (f : PowerUnit → PowerUnit) : (modPower s f).mem = s.mem := rfl
@[simp] theorem modPower_tasks (s : State) (f : PowerUnit → PowerUnit) : (modPower s f).tasks = s.tasks := rfl
@[simp] theorem modPower_moons (s : State) (f : PowerUnit → PowerUnit) : (modPower s f).moons = s.moons := rfl
@[simp] theorem modPower_serve (s : State) (f : PowerUnit → PowerUnit) : (modPower s f).serve = s.serve := rfl
@[simp] theorem modPower_train (s : State) (f : PowerUnit → PowerUnit) : (modPower s f).train = s.train := rfl
@[simp] theorem modPower_fetch (s : State) (f : PowerUnit → PowerUnit) : (modPower s f).fetch = s.fetch := rfl
@[simp] theorem modPower_links (s : State) (f : PowerUnit → PowerUnit) : (modPower s f).links = s.links := rfl
@[simp] theorem modPower_pack (s : State) (f : PowerUnit → PowerUnit) : (modPower s f).pack = s.pack := rfl
@[simp] theorem modPower_host (s : State) (f : PowerUnit → PowerUnit) : (modPower s f).host = s.host := rfl
@[simp] theorem modPower_dict (s : State) (f : PowerUnit → PowerUnit) : (modPower s f).dict = s.dict := rfl
@[simp] theorem modPower_stat (s : State) (f : PowerUnit → PowerUnit) : (modPower s f).stat = s.stat := rfl
@[simp] theorem modPower_journal (s : State) (f : PowerUnit → PowerUnit) : (modPower s f).journal = s.journal := rfl
@[simp] theorem modPower_fw (s : State) (f : PowerUnit → PowerUnit) : (modPower s f).fw = s.fw := rfl
@[simp] theorem modPower_sec (s : State) (f : PowerUnit → PowerUnit) : (modPower s f).sec = s.sec := rfl
@[simp] theorem modPower_jtag (s : State) (f : PowerUnit → PowerUnit) : (modPower s f).jtag = s.jtag := rfl
@[simp] theorem modPower_out (s : State) (f : PowerUnit → PowerUnit) : (modPower s f).out = s.out := rfl
@[simp] theorem modPower_free (s : State) (f : PowerUnit → PowerUnit) : (modPower s f).free = s.free := rfl

/-! ### modSec -/

@[simp] theorem modSec_pending (s : State) (f : SecUnit → SecUnit) : (modSec s f).pending = s.pending := rfl
@[simp] theorem modSec_orbit (s : State) (f : SecUnit → SecUnit) : (modSec s f).orbit = s.orbit := rfl
@[simp] theorem modSec_power (s : State) (f : SecUnit → SecUnit) : (modSec s f).power = s.power := rfl
@[simp] theorem modSec_cores (s : State) (f : SecUnit → SecUnit) : (modSec s f).cores = s.cores := rfl
@[simp] theorem modSec_mem (s : State) (f : SecUnit → SecUnit) : (modSec s f).mem = s.mem := rfl
@[simp] theorem modSec_tasks (s : State) (f : SecUnit → SecUnit) : (modSec s f).tasks = s.tasks := rfl
@[simp] theorem modSec_moons (s : State) (f : SecUnit → SecUnit) : (modSec s f).moons = s.moons := rfl
@[simp] theorem modSec_serve (s : State) (f : SecUnit → SecUnit) : (modSec s f).serve = s.serve := rfl
@[simp] theorem modSec_train (s : State) (f : SecUnit → SecUnit) : (modSec s f).train = s.train := rfl
@[simp] theorem modSec_fetch (s : State) (f : SecUnit → SecUnit) : (modSec s f).fetch = s.fetch := rfl
@[simp] theorem modSec_links (s : State) (f : SecUnit → SecUnit) : (modSec s f).links = s.links := rfl
@[simp] theorem modSec_pack (s : State) (f : SecUnit → SecUnit) : (modSec s f).pack = s.pack := rfl
@[simp] theorem modSec_host (s : State) (f : SecUnit → SecUnit) : (modSec s f).host = s.host := rfl
@[simp] theorem modSec_dict (s : State) (f : SecUnit → SecUnit) : (modSec s f).dict = s.dict := rfl
@[simp] theorem modSec_stat (s : State) (f : SecUnit → SecUnit) : (modSec s f).stat = s.stat := rfl
@[simp] theorem modSec_journal (s : State) (f : SecUnit → SecUnit) : (modSec s f).journal = s.journal := rfl
@[simp] theorem modSec_fw (s : State) (f : SecUnit → SecUnit) : (modSec s f).fw = s.fw := rfl
@[simp] theorem modSec_sec (s : State) (f : SecUnit → SecUnit) : (modSec s f).sec = f s.sec := rfl
@[simp] theorem modSec_jtag (s : State) (f : SecUnit → SecUnit) : (modSec s f).jtag = s.jtag := rfl
@[simp] theorem modSec_out (s : State) (f : SecUnit → SecUnit) : (modSec s f).out = s.out := rfl
@[simp] theorem modSec_free (s : State) (f : SecUnit → SecUnit) : (modSec s f).free = s.free := rfl

/-! ### setPage -/

@[simp] theorem setPage_pending (s : State) (k : Nat) (p : PageInfo) : (setPage s k p).pending = s.pending := rfl
@[simp] theorem setPage_orbit (s : State) (k : Nat) (p : PageInfo) : (setPage s k p).orbit = s.orbit := rfl
@[simp] theorem setPage_power (s : State) (k : Nat) (p : PageInfo) : (setPage s k p).power = s.power := rfl
@[simp] theorem setPage_cores (s : State) (k : Nat) (p : PageInfo) : (setPage s k p).cores = s.cores := rfl
@[simp] theorem setPage_mem (s : State) (k : Nat) (p : PageInfo) : (setPage s k p).mem = { s.mem with pages := tset s.mem.pages k p } := rfl
@[simp] theorem setPage_tasks (s : State) (k : Nat) (p : PageInfo) : (setPage s k p).tasks = s.tasks := rfl
@[simp] theorem setPage_moons (s : State) (k : Nat) (p : PageInfo) : (setPage s k p).moons = s.moons := rfl
@[simp] theorem setPage_serve (s : State) (k : Nat) (p : PageInfo) : (setPage s k p).serve = s.serve := rfl
@[simp] theorem setPage_train (s : State) (k : Nat) (p : PageInfo) : (setPage s k p).train = s.train := rfl
@[simp] theorem setPage_fetch (s : State) (k : Nat) (p : PageInfo) : (setPage s k p).fetch = s.fetch := rfl
@[simp] theorem setPage_links (s : State) (k : Nat) (p : PageInfo) : (setPage s k p).links = s.links := rfl
@[simp] theorem setPage_pack (s : State) (k : Nat) (p : PageInfo) : (setPage s k p).pack = s.pack := rfl
@[simp] theorem setPage_host (s : State) (k : Nat) (p : PageInfo) : (setPage s k p).host = s.host := rfl
@[simp] theorem setPage_dict (s : State) (k : Nat) (p : PageInfo) : (setPage s k p).dict = s.dict := rfl
@[simp] theorem setPage_stat (s : State) (k : Nat) (p : PageInfo) : (setPage s k p).stat = s.stat := rfl
@[simp] theorem setPage_journal (s : State) (k : Nat) (p : PageInfo) : (setPage s k p).journal = s.journal := rfl
@[simp] theorem setPage_fw (s : State) (k : Nat) (p : PageInfo) : (setPage s k p).fw = s.fw := rfl
@[simp] theorem setPage_sec (s : State) (k : Nat) (p : PageInfo) : (setPage s k p).sec = s.sec := rfl
@[simp] theorem setPage_jtag (s : State) (k : Nat) (p : PageInfo) : (setPage s k p).jtag = s.jtag := rfl
@[simp] theorem setPage_out (s : State) (k : Nat) (p : PageInfo) : (setPage s k p).out = s.out := rfl
@[simp] theorem setPage_free (s : State) (k : Nat) (p : PageInfo) : (setPage s k p).free = s.free := rfl

/-! ### setMember -/

@[simp] theorem setMember_pending (s : State) (e : Nat) (x : Member) : (setMember s e x).pending = s.pending := rfl
@[simp] theorem setMember_orbit (s : State) (e : Nat) (x : Member) : (setMember s e x).orbit = s.orbit := rfl
@[simp] theorem setMember_power (s : State) (e : Nat) (x : Member) : (setMember s e x).power = s.power := rfl
@[simp] theorem setMember_cores (s : State) (e : Nat) (x : Member) : (setMember s e x).cores = s.cores := rfl
@[simp] theorem setMember_mem (s : State) (e : Nat) (x : Member) : (setMember s e x).mem = s.mem := rfl
@[simp] theorem setMember_tasks (s : State) (e : Nat) (x : Member) : (setMember s e x).tasks = s.tasks := rfl
@[simp] theorem setMember_moons (s : State) (e : Nat) (x : Member) : (setMember s e x).moons = s.moons := rfl
@[simp] theorem setMember_serve (s : State) (e : Nat) (x : Member) : (setMember s e x).serve = s.serve := rfl
@[simp] theorem setMember_train (s : State) (e : Nat) (x : Member) : (setMember s e x).train = s.train := rfl
@[simp] theorem setMember_fetch (s : State) (e : Nat) (x : Member) : (setMember s e x).fetch = s.fetch := rfl
@[simp] theorem setMember_links (s : State) (e : Nat) (x : Member) : (setMember s e x).links = s.links := rfl
@[simp] theorem setMember_pack (s : State) (e : Nat) (x : Member) : (setMember s e x).pack = { s.pack with members := tset s.pack.members e x } := rfl
@[simp] theorem setMember_host (s : State) (e : Nat) (x : Member) : (setMember s e x).host = s.host := rfl
@[simp] theorem setMember_dict (s : State) (e : Nat) (x : Member) : (setMember s e x).dict = s.dict := rfl
@[simp] theorem setMember_stat (s : State) (e : Nat) (x : Member) : (setMember s e x).stat = s.stat := rfl
@[simp] theorem setMember_journal (s : State) (e : Nat) (x : Member) : (setMember s e x).journal = s.journal := rfl
@[simp] theorem setMember_fw (s : State) (e : Nat) (x : Member) : (setMember s e x).fw = s.fw := rfl
@[simp] theorem setMember_sec (s : State) (e : Nat) (x : Member) : (setMember s e x).sec = s.sec := rfl
@[simp] theorem setMember_jtag (s : State) (e : Nat) (x : Member) : (setMember s e x).jtag = s.jtag := rfl
@[simp] theorem setMember_out (s : State) (e : Nat) (x : Member) : (setMember s e x).out = s.out := rfl
@[simp] theorem setMember_free (s : State) (e : Nat) (x : Member) : (setMember s e x).free = s.free := rfl

/-! ### setBarrier -/

@[simp] theorem setBarrier_pending (s : State) (b : Nat) (x : Barrier) : (setBarrier s b x).pending = s.pending := rfl
@[simp] theorem setBarrier_orbit (s : State) (b : Nat) (x : Barrier) : (setBarrier s b x).orbit = s.orbit := rfl
@[simp] theorem setBarrier_power (s : State) (b : Nat) (x : Barrier) : (setBarrier s b x).power = s.power := rfl
@[simp] theorem setBarrier_cores (s : State) (b : Nat) (x : Barrier) : (setBarrier s b x).cores = s.cores := rfl
@[simp] theorem setBarrier_mem (s : State) (b : Nat) (x : Barrier) : (setBarrier s b x).mem = s.mem := rfl
@[simp] theorem setBarrier_tasks (s : State) (b : Nat) (x : Barrier) : (setBarrier s b x).tasks = s.tasks := rfl
@[simp] theorem setBarrier_moons (s : State) (b : Nat) (x : Barrier) : (setBarrier s b x).moons = s.moons := rfl
@[simp] theorem setBarrier_serve (s : State) (b : Nat) (x : Barrier) : (setBarrier s b x).serve = s.serve := rfl
@[simp] theorem setBarrier_train (s : State) (b : Nat) (x : Barrier) : (setBarrier s b x).train = s.train := rfl
@[simp] theorem setBarrier_fetch (s : State) (b : Nat) (x : Barrier) : (setBarrier s b x).fetch = s.fetch := rfl
@[simp] theorem setBarrier_links (s : State) (b : Nat) (x : Barrier) : (setBarrier s b x).links = s.links := rfl
@[simp] theorem setBarrier_pack (s : State) (b : Nat) (x : Barrier) : (setBarrier s b x).pack = { s.pack with barriers := tset s.pack.barriers b x } := rfl
@[simp] theorem setBarrier_host (s : State) (b : Nat) (x : Barrier) : (setBarrier s b x).host = s.host := rfl
@[simp] theorem setBarrier_dict (s : State) (b : Nat) (x : Barrier) : (setBarrier s b x).dict = s.dict := rfl
@[simp] theorem setBarrier_stat (s : State) (b : Nat) (x : Barrier) : (setBarrier s b x).stat = s.stat := rfl
@[simp] theorem setBarrier_journal (s : State) (b : Nat) (x : Barrier) : (setBarrier s b x).journal = s.journal := rfl
@[simp] theorem setBarrier_fw (s : State) (b : Nat) (x : Barrier) : (setBarrier s b x).fw = s.fw := rfl
@[simp] theorem setBarrier_sec (s : State) (b : Nat) (x : Barrier) : (setBarrier s b x).sec = s.sec := rfl
@[simp] theorem setBarrier_jtag (s : State) (b : Nat) (x : Barrier) : (setBarrier s b x).jtag = s.jtag := rfl
@[simp] theorem setBarrier_out (s : State) (b : Nat) (x : Barrier) : (setBarrier s b x).out = s.out := rfl
@[simp] theorem setBarrier_free (s : State) (b : Nat) (x : Barrier) : (setBarrier s b x).free = s.free := rfl

/-! ### setObj -/

@[simp] theorem setObj_pending (s : State) (k : Nat) (o : SyncObj) : (setObj s k o).pending = s.pending := rfl
@[simp] theorem setObj_orbit (s : State) (k : Nat) (o : SyncObj) : (setObj s k o).orbit = s.orbit := rfl
@[simp] theorem setObj_power (s : State) (k : Nat) (o : SyncObj) : (setObj s k o).power = s.power := rfl
@[simp] theorem setObj_cores (s : State) (k : Nat) (o : SyncObj) : (setObj s k o).cores = s.cores := rfl
@[simp] theorem setObj_mem (s : State) (k : Nat) (o : SyncObj) : (setObj s k o).mem = s.mem := rfl
@[simp] theorem setObj_tasks (s : State) (k : Nat) (o : SyncObj) : (setObj s k o).tasks = { s.tasks with objs := tset s.tasks.objs k o } := rfl
@[simp] theorem setObj_moons (s : State) (k : Nat) (o : SyncObj) : (setObj s k o).moons = s.moons := rfl
@[simp] theorem setObj_serve (s : State) (k : Nat) (o : SyncObj) : (setObj s k o).serve = s.serve := rfl
@[simp] theorem setObj_train (s : State) (k : Nat) (o : SyncObj) : (setObj s k o).train = s.train := rfl
@[simp] theorem setObj_fetch (s : State) (k : Nat) (o : SyncObj) : (setObj s k o).fetch = s.fetch := rfl
@[simp] theorem setObj_links (s : State) (k : Nat) (o : SyncObj) : (setObj s k o).links = s.links := rfl
@[simp] theorem setObj_pack (s : State) (k : Nat) (o : SyncObj) : (setObj s k o).pack = s.pack := rfl
@[simp] theorem setObj_host (s : State) (k : Nat) (o : SyncObj) : (setObj s k o).host = s.host := rfl
@[simp] theorem setObj_dict (s : State) (k : Nat) (o : SyncObj) : (setObj s k o).dict = s.dict := rfl
@[simp] theorem setObj_stat (s : State) (k : Nat) (o : SyncObj) : (setObj s k o).stat = s.stat := rfl
@[simp] theorem setObj_journal (s : State) (k : Nat) (o : SyncObj) : (setObj s k o).journal = s.journal := rfl
@[simp] theorem setObj_fw (s : State) (k : Nat) (o : SyncObj) : (setObj s k o).fw = s.fw := rfl
@[simp] theorem setObj_sec (s : State) (k : Nat) (o : SyncObj) : (setObj s k o).sec = s.sec := rfl
@[simp] theorem setObj_jtag (s : State) (k : Nat) (o : SyncObj) : (setObj s k o).jtag = s.jtag := rfl
@[simp] theorem setObj_out (s : State) (k : Nat) (o : SyncObj) : (setObj s k o).out = s.out := rfl
@[simp] theorem setObj_free (s : State) (k : Nat) (o : SyncObj) : (setObj s k o).free = s.free := rfl

end Sys2Proof.Machine
end

