-- ==== Sys2Proof/Laws/Ops.lean ====
section
/-! SUPPORT. What the operations shared by every meaning leave as it was: outputs, events, parameters and counters, the journal, SVC_REASON, and
the answers to dictionary requests. -/

set_option Elab.async false

namespace Sys2Proof.Machine

/-! ### sendMsix -/

@[simp] theorem sendMsix_pending (s : State) (fn v : Nat) : (sendMsix s fn v).pending = s.pending := by unfold sendMsix; dsimp only; (repeat' split) <;> rfl
@[simp] theorem sendMsix_orbit (s : State) (fn v : Nat) : (sendMsix s fn v).orbit = s.orbit := by unfold sendMsix; dsimp only; (repeat' split) <;> rfl
@[simp] theorem sendMsix_power (s : State) (fn v : Nat) : (sendMsix s fn v).power = s.power := by unfold sendMsix; dsimp only; (repeat' split) <;> rfl
@[simp] theorem sendMsix_cores (s : State) (fn v : Nat) : (sendMsix s fn v).cores = s.cores := by unfold sendMsix; dsimp only; (repeat' split) <;> rfl
@[simp] theorem sendMsix_mem (s : State) (fn v : Nat) : (sendMsix s fn v).mem = s.mem := by unfold sendMsix; dsimp only; (repeat' split) <;> rfl
@[simp] theorem sendMsix_tasks (s : State) (fn v : Nat) : (sendMsix s fn v).tasks = s.tasks := by unfold sendMsix; dsimp only; (repeat' split) <;> rfl
@[simp] theorem sendMsix_moons (s : State) (fn v : Nat) : (sendMsix s fn v).moons = s.moons := by unfold sendMsix; dsimp only; (repeat' split) <;> rfl
@[simp] theorem sendMsix_serve (s : State) (fn v : Nat) : (sendMsix s fn v).serve = s.serve := by unfold sendMsix; dsimp only; (repeat' split) <;> rfl
@[simp] theorem sendMsix_train (s : State) (fn v : Nat) : (sendMsix s fn v).train = s.train := by unfold sendMsix; dsimp only; (repeat' split) <;> rfl
@[simp] theorem sendMsix_fetch (s : State) (fn v : Nat) : (sendMsix s fn v).fetch = s.fetch := by unfold sendMsix; dsimp only; (repeat' split) <;> rfl
@[simp] theorem sendMsix_links (s : State) (fn v : Nat) : (sendMsix s fn v).links = s.links := by unfold sendMsix; dsimp only; (repeat' split) <;> rfl
@[simp] theorem sendMsix_pack (s : State) (fn v : Nat) : (sendMsix s fn v).pack = s.pack := by unfold sendMsix; dsimp only; (repeat' split) <;> rfl
@[simp] theorem sendMsix_dict (s : State) (fn v : Nat) : (sendMsix s fn v).dict = s.dict := by unfold sendMsix; dsimp only; (repeat' split) <;> rfl
@[simp] theorem sendMsix_stat (s : State) (fn v : Nat) : (sendMsix s fn v).stat = s.stat := by unfold sendMsix; dsimp only; (repeat' split) <;> rfl
@[simp] theorem sendMsix_journal (s : State) (fn v : Nat) : (sendMsix s fn v).journal = s.journal := by unfold sendMsix; dsimp only; (repeat' split) <;> rfl
@[simp] theorem sendMsix_fw (s : State) (fn v : Nat) : (sendMsix s fn v).fw = s.fw := by unfold sendMsix; dsimp only; (repeat' split) <;> rfl
@[simp] theorem sendMsix_sec (s : State) (fn v : Nat) : (sendMsix s fn v).sec = s.sec := by unfold sendMsix; dsimp only; (repeat' split) <;> rfl
@[simp] theorem sendMsix_jtag (s : State) (fn v : Nat) : (sendMsix s fn v).jtag = s.jtag := by unfold sendMsix; dsimp only; (repeat' split) <;> rfl
@[simp] theorem sendMsix_free (s : State) (fn v : Nat) : (sendMsix s fn v).free = s.free := by unfold sendMsix; dsimp only; (repeat' split) <;> rfl

/-! ### postEvent -/

@[simp] theorem postEvent_pending (s : State) (fn code moon orbit : Nat) (args : List Nat) : (postEvent s fn code moon orbit args).pending = s.pending := by unfold postEvent; dsimp only; (repeat' split) <;> simp
@[simp] theorem postEvent_orbit (s : State) (fn code moon orbit : Nat) (args : List Nat) : (postEvent s fn code moon orbit args).orbit = s.orbit := by unfold postEvent; dsimp only; (repeat' split) <;> simp
@[simp] theorem postEvent_power (s : State) (fn code moon orbit : Nat) (args : List Nat) : (postEvent s fn code moon orbit args).power = s.power := by unfold postEvent; dsimp only; (repeat' split) <;> simp
@[simp] theorem postEvent_cores (s : State) (fn code moon orbit : Nat) (args : List Nat) : (postEvent s fn code moon orbit args).cores = s.cores := by unfold postEvent; dsimp only; (repeat' split) <;> simp
@[simp] theorem postEvent_mem (s : State) (fn code moon orbit : Nat) (args : List Nat) : (postEvent s fn code moon orbit args).mem = s.mem := by unfold postEvent; dsimp only; (repeat' split) <;> simp
@[simp] theorem postEvent_tasks (s : State) (fn code moon orbit : Nat) (args : List Nat) : (postEvent s fn code moon orbit args).tasks = s.tasks := by unfold postEvent; dsimp only; (repeat' split) <;> simp
@[simp] theorem postEvent_moons (s : State) (fn code moon orbit : Nat) (args : List Nat) : (postEvent s fn code moon orbit args).moons = s.moons := by unfold postEvent; dsimp only; (repeat' split) <;> simp
@[simp] theorem postEvent_serve (s : State) (fn code moon orbit : Nat) (args : List Nat) : (postEvent s fn code moon orbit args).serve = s.serve := by unfold postEvent; dsimp only; (repeat' split) <;> simp
@[simp] theorem postEvent_train (s : State) (fn code moon orbit : Nat) (args : List Nat) : (postEvent s fn code moon orbit args).train = s.train := by unfold postEvent; dsimp only; (repeat' split) <;> simp
@[simp] theorem postEvent_fetch (s : State) (fn code moon orbit : Nat) (args : List Nat) : (postEvent s fn code moon orbit args).fetch = s.fetch := by unfold postEvent; dsimp only; (repeat' split) <;> simp
@[simp] theorem postEvent_links (s : State) (fn code moon orbit : Nat) (args : List Nat) : (postEvent s fn code moon orbit args).links = s.links := by unfold postEvent; dsimp only; (repeat' split) <;> simp
@[simp] theorem postEvent_pack (s : State) (fn code moon orbit : Nat) (args : List Nat) : (postEvent s fn code moon orbit args).pack = s.pack := by unfold postEvent; dsimp only; (repeat' split) <;> simp
@[simp] theorem postEvent_dict (s : State) (fn code moon orbit : Nat) (args : List Nat) : (postEvent s fn code moon orbit args).dict = s.dict := by unfold postEvent; dsimp only; (repeat' split) <;> simp
@[simp] theorem postEvent_stat (s : State) (fn code moon orbit : Nat) (args : List Nat) : (postEvent s fn code moon orbit args).stat = s.stat := by unfold postEvent; dsimp only; (repeat' split) <;> simp
@[simp] theorem postEvent_journal (s : State) (fn code moon orbit : Nat) (args : List Nat) : (postEvent s fn code moon orbit args).journal = s.journal := by unfold postEvent; dsimp only; (repeat' split) <;> simp
@[simp] theorem postEvent_fw (s : State) (fn code moon orbit : Nat) (args : List Nat) : (postEvent s fn code moon orbit args).fw = s.fw := by unfold postEvent; dsimp only; (repeat' split) <;> simp
@[simp] theorem postEvent_sec (s : State) (fn code moon orbit : Nat) (args : List Nat) : (postEvent s fn code moon orbit args).sec = s.sec := by unfold postEvent; dsimp only; (repeat' split) <;> simp
@[simp] theorem postEvent_jtag (s : State) (fn code moon orbit : Nat) (args : List Nat) : (postEvent s fn code moon orbit args).jtag = s.jtag := by unfold postEvent; dsimp only; (repeat' split) <;> simp
@[simp] theorem postEvent_free (s : State) (fn code moon orbit : Nat) (args : List Nat) : (postEvent s fn code moon orbit args).free = s.free := by unfold postEvent; dsimp only; (repeat' split) <;> simp

/-! ### raiseTo -/

@[simp] theorem raiseTo_pending (s : State) (fn code moon : Nat) (args : List Nat) : (raiseTo s fn code moon args).pending = s.pending := by unfold raiseTo; split <;> simp
@[simp] theorem raiseTo_orbit (s : State) (fn code moon : Nat) (args : List Nat) : (raiseTo s fn code moon args).orbit = s.orbit := by unfold raiseTo; split <;> simp
@[simp] theorem raiseTo_power (s : State) (fn code moon : Nat) (args : List Nat) : (raiseTo s fn code moon args).power = s.power := by unfold raiseTo; split <;> simp
@[simp] theorem raiseTo_cores (s : State) (fn code moon : Nat) (args : List Nat) : (raiseTo s fn code moon args).cores = s.cores := by unfold raiseTo; split <;> simp
@[simp] theorem raiseTo_mem (s : State) (fn code moon : Nat) (args : List Nat) : (raiseTo s fn code moon args).mem = s.mem := by unfold raiseTo; split <;> simp
@[simp] theorem raiseTo_tasks (s : State) (fn code moon : Nat) (args : List Nat) : (raiseTo s fn code moon args).tasks = s.tasks := by unfold raiseTo; split <;> simp
@[simp] theorem raiseTo_moons (s : State) (fn code moon : Nat) (args : List Nat) : (raiseTo s fn code moon args).moons = s.moons := by unfold raiseTo; split <;> simp
@[simp] theorem raiseTo_serve (s : State) (fn code moon : Nat) (args : List Nat) : (raiseTo s fn code moon args).serve = s.serve := by unfold raiseTo; split <;> simp
@[simp] theorem raiseTo_train (s : State) (fn code moon : Nat) (args : List Nat) : (raiseTo s fn code moon args).train = s.train := by unfold raiseTo; split <;> simp
@[simp] theorem raiseTo_fetch (s : State) (fn code moon : Nat) (args : List Nat) : (raiseTo s fn code moon args).fetch = s.fetch := by unfold raiseTo; split <;> simp
@[simp] theorem raiseTo_links (s : State) (fn code moon : Nat) (args : List Nat) : (raiseTo s fn code moon args).links = s.links := by unfold raiseTo; split <;> simp
@[simp] theorem raiseTo_pack (s : State) (fn code moon : Nat) (args : List Nat) : (raiseTo s fn code moon args).pack = s.pack := by unfold raiseTo; split <;> simp
@[simp] theorem raiseTo_dict (s : State) (fn code moon : Nat) (args : List Nat) : (raiseTo s fn code moon args).dict = s.dict := by unfold raiseTo; split <;> simp
@[simp] theorem raiseTo_stat (s : State) (fn code moon : Nat) (args : List Nat) : (raiseTo s fn code moon args).stat = s.stat := by unfold raiseTo; split <;> simp
@[simp] theorem raiseTo_journal (s : State) (fn code moon : Nat) (args : List Nat) : (raiseTo s fn code moon args).journal = s.journal := by unfold raiseTo; split <;> simp
@[simp] theorem raiseTo_fw (s : State) (fn code moon : Nat) (args : List Nat) : (raiseTo s fn code moon args).fw = s.fw := by unfold raiseTo; split <;> simp
@[simp] theorem raiseTo_sec (s : State) (fn code moon : Nat) (args : List Nat) : (raiseTo s fn code moon args).sec = s.sec := by unfold raiseTo; split <;> simp
@[simp] theorem raiseTo_jtag (s : State) (fn code moon : Nat) (args : List Nat) : (raiseTo s fn code moon args).jtag = s.jtag := by unfold raiseTo; split <;> simp
@[simp] theorem raiseTo_free (s : State) (fn code moon : Nat) (args : List Nat) : (raiseTo s fn code moon args).free = s.free := by unfold raiseTo; split <;> simp

/-! ### raisePf -/

@[simp] theorem raisePf_pending (s : State) (code : Nat) (args : List Nat) : (raisePf s code args).pending = s.pending := by simp [raisePf]
@[simp] theorem raisePf_orbit (s : State) (code : Nat) (args : List Nat) : (raisePf s code args).orbit = s.orbit := by simp [raisePf]
@[simp] theorem raisePf_power (s : State) (code : Nat) (args : List Nat) : (raisePf s code args).power = s.power := by simp [raisePf]
@[simp] theorem raisePf_cores (s : State) (code : Nat) (args : List Nat) : (raisePf s code args).cores = s.cores := by simp [raisePf]
@[simp] theorem raisePf_mem (s : State) (code : Nat) (args : List Nat) : (raisePf s code args).mem = s.mem := by simp [raisePf]
@[simp] theorem raisePf_tasks (s : State) (code : Nat) (args : List Nat) : (raisePf s code args).tasks = s.tasks := by simp [raisePf]
@[simp] theorem raisePf_moons (s : State) (code : Nat) (args : List Nat) : (raisePf s code args).moons = s.moons := by simp [raisePf]
@[simp] theorem raisePf_serve (s : State) (code : Nat) (args : List Nat) : (raisePf s code args).serve = s.serve := by simp [raisePf]
@[simp] theorem raisePf_train (s : State) (code : Nat) (args : List Nat) : (raisePf s code args).train = s.train := by simp [raisePf]
@[simp] theorem raisePf_fetch (s : State) (code : Nat) (args : List Nat) : (raisePf s code args).fetch = s.fetch := by simp [raisePf]
@[simp] theorem raisePf_links (s : State) (code : Nat) (args : List Nat) : (raisePf s code args).links = s.links := by simp [raisePf]
@[simp] theorem raisePf_pack (s : State) (code : Nat) (args : List Nat) : (raisePf s code args).pack = s.pack := by simp [raisePf]
@[simp] theorem raisePf_dict (s : State) (code : Nat) (args : List Nat) : (raisePf s code args).dict = s.dict := by simp [raisePf]
@[simp] theorem raisePf_stat (s : State) (code : Nat) (args : List Nat) : (raisePf s code args).stat = s.stat := by simp [raisePf]
@[simp] theorem raisePf_journal (s : State) (code : Nat) (args : List Nat) : (raisePf s code args).journal = s.journal := by simp [raisePf]
@[simp] theorem raisePf_fw (s : State) (code : Nat) (args : List Nat) : (raisePf s code args).fw = s.fw := by simp [raisePf]
@[simp] theorem raisePf_sec (s : State) (code : Nat) (args : List Nat) : (raisePf s code args).sec = s.sec := by simp [raisePf]
@[simp] theorem raisePf_jtag (s : State) (code : Nat) (args : List Nat) : (raisePf s code args).jtag = s.jtag := by simp [raisePf]
@[simp] theorem raisePf_free (s : State) (code : Nat) (args : List Nat) : (raisePf s code args).free = s.free := by simp [raisePf]

/-! ### raiseMoon -/

@[simp] theorem raiseMoon_pending (s : State) (m code : Nat) (args : List Nat) : (raiseMoon s m code args).pending = s.pending := by simp [raiseMoon]
@[simp] theorem raiseMoon_orbit (s : State) (m code : Nat) (args : List Nat) : (raiseMoon s m code args).orbit = s.orbit := by simp [raiseMoon]
@[simp] theorem raiseMoon_power (s : State) (m code : Nat) (args : List Nat) : (raiseMoon s m code args).power = s.power := by simp [raiseMoon]
@[simp] theorem raiseMoon_cores (s : State) (m code : Nat) (args : List Nat) : (raiseMoon s m code args).cores = s.cores := by simp [raiseMoon]
@[simp] theorem raiseMoon_mem (s : State) (m code : Nat) (args : List Nat) : (raiseMoon s m code args).mem = s.mem := by simp [raiseMoon]
@[simp] theorem raiseMoon_tasks (s : State) (m code : Nat) (args : List Nat) : (raiseMoon s m code args).tasks = s.tasks := by simp [raiseMoon]
@[simp] theorem raiseMoon_moons (s : State) (m code : Nat) (args : List Nat) : (raiseMoon s m code args).moons = s.moons := by simp [raiseMoon]
@[simp] theorem raiseMoon_serve (s : State) (m code : Nat) (args : List Nat) : (raiseMoon s m code args).serve = s.serve := by simp [raiseMoon]
@[simp] theorem raiseMoon_train (s : State) (m code : Nat) (args : List Nat) : (raiseMoon s m code args).train = s.train := by simp [raiseMoon]
@[simp] theorem raiseMoon_fetch (s : State) (m code : Nat) (args : List Nat) : (raiseMoon s m code args).fetch = s.fetch := by simp [raiseMoon]
@[simp] theorem raiseMoon_links (s : State) (m code : Nat) (args : List Nat) : (raiseMoon s m code args).links = s.links := by simp [raiseMoon]
@[simp] theorem raiseMoon_pack (s : State) (m code : Nat) (args : List Nat) : (raiseMoon s m code args).pack = s.pack := by simp [raiseMoon]
@[simp] theorem raiseMoon_dict (s : State) (m code : Nat) (args : List Nat) : (raiseMoon s m code args).dict = s.dict := by simp [raiseMoon]
@[simp] theorem raiseMoon_stat (s : State) (m code : Nat) (args : List Nat) : (raiseMoon s m code args).stat = s.stat := by simp [raiseMoon]
@[simp] theorem raiseMoon_journal (s : State) (m code : Nat) (args : List Nat) : (raiseMoon s m code args).journal = s.journal := by simp [raiseMoon]
@[simp] theorem raiseMoon_fw (s : State) (m code : Nat) (args : List Nat) : (raiseMoon s m code args).fw = s.fw := by simp [raiseMoon]
@[simp] theorem raiseMoon_sec (s : State) (m code : Nat) (args : List Nat) : (raiseMoon s m code args).sec = s.sec := by simp [raiseMoon]
@[simp] theorem raiseMoon_jtag (s : State) (m code : Nat) (args : List Nat) : (raiseMoon s m code args).jtag = s.jtag := by simp [raiseMoon]
@[simp] theorem raiseMoon_free (s : State) (m code : Nat) (args : List Nat) : (raiseMoon s m code args).free = s.free := by simp [raiseMoon]

/-! ### raiseWriter -/

@[simp] theorem raiseWriter_pending (s : State) (w : Who) (m code : Nat) (args : List Nat) : (raiseWriter s w m code args).pending = s.pending := by unfold raiseWriter; split <;> simp
@[simp] theorem raiseWriter_orbit (s : State) (w : Who) (m code : Nat) (args : List Nat) : (raiseWriter s w m code args).orbit = s.orbit := by unfold raiseWriter; split <;> simp
@[simp] theorem raiseWriter_power (s : State) (w : Who) (m code : Nat) (args : List Nat) : (raiseWriter s w m code args).power = s.power := by unfold raiseWriter; split <;> simp
@[simp] theorem raiseWriter_cores (s : State) (w : Who) (m code : Nat) (args : List Nat) : (raiseWriter s w m code args).cores = s.cores := by unfold raiseWriter; split <;> simp
@[simp] theorem raiseWriter_mem (s : State) (w : Who) (m code : Nat) (args : List Nat) : (raiseWriter s w m code args).mem = s.mem := by unfold raiseWriter; split <;> simp
@[simp] theorem raiseWriter_tasks (s : State) (w : Who) (m code : Nat) (args : List Nat) : (raiseWriter s w m code args).tasks = s.tasks := by unfold raiseWriter; split <;> simp
@[simp] theorem raiseWriter_moons (s : State) (w : Who) (m code : Nat) (args : List Nat) : (raiseWriter s w m code args).moons = s.moons := by unfold raiseWriter; split <;> simp
@[simp] theorem raiseWriter_serve (s : State) (w : Who) (m code : Nat) (args : List Nat) : (raiseWriter s w m code args).serve = s.serve := by unfold raiseWriter; split <;> simp
@[simp] theorem raiseWriter_train (s : State) (w : Who) (m code : Nat) (args : List Nat) : (raiseWriter s w m code args).train = s.train := by unfold raiseWriter; split <;> simp
@[simp] theorem raiseWriter_fetch (s : State) (w : Who) (m code : Nat) (args : List Nat) : (raiseWriter s w m code args).fetch = s.fetch := by unfold raiseWriter; split <;> simp
@[simp] theorem raiseWriter_links (s : State) (w : Who) (m code : Nat) (args : List Nat) : (raiseWriter s w m code args).links = s.links := by unfold raiseWriter; split <;> simp
@[simp] theorem raiseWriter_pack (s : State) (w : Who) (m code : Nat) (args : List Nat) : (raiseWriter s w m code args).pack = s.pack := by unfold raiseWriter; split <;> simp
@[simp] theorem raiseWriter_dict (s : State) (w : Who) (m code : Nat) (args : List Nat) : (raiseWriter s w m code args).dict = s.dict := by unfold raiseWriter; split <;> simp
@[simp] theorem raiseWriter_stat (s : State) (w : Who) (m code : Nat) (args : List Nat) : (raiseWriter s w m code args).stat = s.stat := by unfold raiseWriter; split <;> simp
@[simp] theorem raiseWriter_journal (s : State) (w : Who) (m code : Nat) (args : List Nat) : (raiseWriter s w m code args).journal = s.journal := by unfold raiseWriter; split <;> simp
@[simp] theorem raiseWriter_fw (s : State) (w : Who) (m code : Nat) (args : List Nat) : (raiseWriter s w m code args).fw = s.fw := by unfold raiseWriter; split <;> simp
@[simp] theorem raiseWriter_sec (s : State) (w : Who) (m code : Nat) (args : List Nat) : (raiseWriter s w m code args).sec = s.sec := by unfold raiseWriter; split <;> simp
@[simp] theorem raiseWriter_jtag (s : State) (w : Who) (m code : Nat) (args : List Nat) : (raiseWriter s w m code args).jtag = s.jtag := by unfold raiseWriter; split <;> simp
@[simp] theorem raiseWriter_free (s : State) (w : Who) (m code : Nat) (args : List Nat) : (raiseWriter s w m code args).free = s.free := by unfold raiseWriter; split <;> simp

/-! ### incA -/

@[simp] theorem incA_pending (s : State) (p e n : Nat) : (incA s p e n).pending = s.pending := by unfold incA; dsimp only; (repeat' split) <;> simp
@[simp] theorem incA_orbit (s : State) (p e n : Nat) : (incA s p e n).orbit = s.orbit := by unfold incA; dsimp only; (repeat' split) <;> simp
@[simp] theorem incA_power (s : State) (p e n : Nat) : (incA s p e n).power = s.power := by unfold incA; dsimp only; (repeat' split) <;> simp
@[simp] theorem incA_cores (s : State) (p e n : Nat) : (incA s p e n).cores = s.cores := by unfold incA; dsimp only; (repeat' split) <;> simp
@[simp] theorem incA_mem (s : State) (p e n : Nat) : (incA s p e n).mem = s.mem := by unfold incA; dsimp only; (repeat' split) <;> simp
@[simp] theorem incA_tasks (s : State) (p e n : Nat) : (incA s p e n).tasks = s.tasks := by unfold incA; dsimp only; (repeat' split) <;> simp
@[simp] theorem incA_moons (s : State) (p e n : Nat) : (incA s p e n).moons = s.moons := by unfold incA; dsimp only; (repeat' split) <;> simp
@[simp] theorem incA_serve (s : State) (p e n : Nat) : (incA s p e n).serve = s.serve := by unfold incA; dsimp only; (repeat' split) <;> simp
@[simp] theorem incA_train (s : State) (p e n : Nat) : (incA s p e n).train = s.train := by unfold incA; dsimp only; (repeat' split) <;> simp
@[simp] theorem incA_fetch (s : State) (p e n : Nat) : (incA s p e n).fetch = s.fetch := by unfold incA; dsimp only; (repeat' split) <;> simp
@[simp] theorem incA_links (s : State) (p e n : Nat) : (incA s p e n).links = s.links := by unfold incA; dsimp only; (repeat' split) <;> simp
@[simp] theorem incA_pack (s : State) (p e n : Nat) : (incA s p e n).pack = s.pack := by unfold incA; dsimp only; (repeat' split) <;> simp
@[simp] theorem incA_stat (s : State) (p e n : Nat) : (incA s p e n).stat = s.stat := by unfold incA; dsimp only; (repeat' split) <;> simp
@[simp] theorem incA_journal (s : State) (p e n : Nat) : (incA s p e n).journal = s.journal := by unfold incA; dsimp only; (repeat' split) <;> simp
@[simp] theorem incA_fw (s : State) (p e n : Nat) : (incA s p e n).fw = s.fw := by unfold incA; dsimp only; (repeat' split) <;> simp
@[simp] theorem incA_sec (s : State) (p e n : Nat) : (incA s p e n).sec = s.sec := by unfold incA; dsimp only; (repeat' split) <;> simp
@[simp] theorem incA_jtag (s : State) (p e n : Nat) : (incA s p e n).jtag = s.jtag := by unfold incA; dsimp only; (repeat' split) <;> simp
@[simp] theorem incA_free (s : State) (p e n : Nat) : (incA s p e n).free = s.free := by unfold incA; dsimp only; (repeat' split) <;> simp

/-! ### clearA -/

@[simp] theorem clearA_pending (s : State) (p e : Nat) : (clearA s p e).pending = s.pending := rfl
@[simp] theorem clearA_orbit (s : State) (p e : Nat) : (clearA s p e).orbit = s.orbit := rfl
@[simp] theorem clearA_power (s : State) (p e : Nat) : (clearA s p e).power = s.power := rfl
@[simp] theorem clearA_cores (s : State) (p e : Nat) : (clearA s p e).cores = s.cores := rfl
@[simp] theorem clearA_mem (s : State) (p e : Nat) : (clearA s p e).mem = s.mem := rfl
@[simp] theorem clearA_tasks (s : State) (p e : Nat) : (clearA s p e).tasks = s.tasks := rfl
@[simp] theorem clearA_moons (s : State) (p e : Nat) : (clearA s p e).moons = s.moons := rfl
@[simp] theorem clearA_serve (s : State) (p e : Nat) : (clearA s p e).serve = s.serve := rfl
@[simp] theorem clearA_train (s : State) (p e : Nat) : (clearA s p e).train = s.train := rfl
@[simp] theorem clearA_fetch (s : State) (p e : Nat) : (clearA s p e).fetch = s.fetch := rfl
@[simp] theorem clearA_links (s : State) (p e : Nat) : (clearA s p e).links = s.links := rfl
@[simp] theorem clearA_pack (s : State) (p e : Nat) : (clearA s p e).pack = s.pack := rfl
@[simp] theorem clearA_host (s : State) (p e : Nat) : (clearA s p e).host = s.host := rfl
@[simp] theorem clearA_stat (s : State) (p e : Nat) : (clearA s p e).stat = s.stat := rfl
@[simp] theorem clearA_journal (s : State) (p e : Nat) : (clearA s p e).journal = s.journal := rfl
@[simp] theorem clearA_fw (s : State) (p e : Nat) : (clearA s p e).fw = s.fw := rfl
@[simp] theorem clearA_sec (s : State) (p e : Nat) : (clearA s p e).sec = s.sec := rfl
@[simp] theorem clearA_jtag (s : State) (p e : Nat) : (clearA s p e).jtag = s.jtag := rfl
@[simp] theorem clearA_out (s : State) (p e : Nat) : (clearA s p e).out = s.out := rfl
@[simp] theorem clearA_free (s : State) (p e : Nat) : (clearA s p e).free = s.free := rfl

/-! ### raiseSat -/

@[simp] theorem raiseSat_pending (s : State) (first p e : Nat) : (raiseSat s first p e).pending = s.pending := by unfold raiseSat; split <;> simp
@[simp] theorem raiseSat_orbit (s : State) (first p e : Nat) : (raiseSat s first p e).orbit = s.orbit := by unfold raiseSat; split <;> simp
@[simp] theorem raiseSat_power (s : State) (first p e : Nat) : (raiseSat s first p e).power = s.power := by unfold raiseSat; split <;> simp
@[simp] theorem raiseSat_cores (s : State) (first p e : Nat) : (raiseSat s first p e).cores = s.cores := by unfold raiseSat; split <;> simp
@[simp] theorem raiseSat_mem (s : State) (first p e : Nat) : (raiseSat s first p e).mem = s.mem := by unfold raiseSat; split <;> simp
@[simp] theorem raiseSat_tasks (s : State) (first p e : Nat) : (raiseSat s first p e).tasks = s.tasks := by unfold raiseSat; split <;> simp
@[simp] theorem raiseSat_moons (s : State) (first p e : Nat) : (raiseSat s first p e).moons = s.moons := by unfold raiseSat; split <;> simp
@[simp] theorem raiseSat_serve (s : State) (first p e : Nat) : (raiseSat s first p e).serve = s.serve := by unfold raiseSat; split <;> simp
@[simp] theorem raiseSat_train (s : State) (first p e : Nat) : (raiseSat s first p e).train = s.train := by unfold raiseSat; split <;> simp
@[simp] theorem raiseSat_fetch (s : State) (first p e : Nat) : (raiseSat s first p e).fetch = s.fetch := by unfold raiseSat; split <;> simp
@[simp] theorem raiseSat_links (s : State) (first p e : Nat) : (raiseSat s first p e).links = s.links := by unfold raiseSat; split <;> simp
@[simp] theorem raiseSat_pack (s : State) (first p e : Nat) : (raiseSat s first p e).pack = s.pack := by unfold raiseSat; split <;> simp
@[simp] theorem raiseSat_dict (s : State) (first p e : Nat) : (raiseSat s first p e).dict = s.dict := by unfold raiseSat; split <;> simp
@[simp] theorem raiseSat_stat (s : State) (first p e : Nat) : (raiseSat s first p e).stat = s.stat := by unfold raiseSat; split <;> simp
@[simp] theorem raiseSat_journal (s : State) (first p e : Nat) : (raiseSat s first p e).journal = s.journal := by unfold raiseSat; split <;> simp
@[simp] theorem raiseSat_fw (s : State) (first p e : Nat) : (raiseSat s first p e).fw = s.fw := by unfold raiseSat; split <;> simp
@[simp] theorem raiseSat_sec (s : State) (first p e : Nat) : (raiseSat s first p e).sec = s.sec := by unfold raiseSat; split <;> simp
@[simp] theorem raiseSat_jtag (s : State) (first p e : Nat) : (raiseSat s first p e).jtag = s.jtag := by unfold raiseSat; split <;> simp
@[simp] theorem raiseSat_free (s : State) (first p e : Nat) : (raiseSat s first p e).free = s.free := by unfold raiseSat; split <;> simp

/-! ### incB -/

@[simp] theorem incB_pending (s : State) (p e n : Nat) : (incB s p e n).pending = s.pending := by unfold incB; dsimp only; (repeat' split) <;> simp
@[simp] theorem incB_orbit (s : State) (p e n : Nat) : (incB s p e n).orbit = s.orbit := by unfold incB; dsimp only; (repeat' split) <;> simp
@[simp] theorem incB_power (s : State) (p e n : Nat) : (incB s p e n).power = s.power := by unfold incB; dsimp only; (repeat' split) <;> simp
@[simp] theorem incB_cores (s : State) (p e n : Nat) : (incB s p e n).cores = s.cores := by unfold incB; dsimp only; (repeat' split) <;> simp
@[simp] theorem incB_mem (s : State) (p e n : Nat) : (incB s p e n).mem = s.mem := by unfold incB; dsimp only; (repeat' split) <;> simp
@[simp] theorem incB_tasks (s : State) (p e n : Nat) : (incB s p e n).tasks = s.tasks := by unfold incB; dsimp only; (repeat' split) <;> simp
@[simp] theorem incB_moons (s : State) (p e n : Nat) : (incB s p e n).moons = s.moons := by unfold incB; dsimp only; (repeat' split) <;> simp
@[simp] theorem incB_serve (s : State) (p e n : Nat) : (incB s p e n).serve = s.serve := by unfold incB; dsimp only; (repeat' split) <;> simp
@[simp] theorem incB_train (s : State) (p e n : Nat) : (incB s p e n).train = s.train := by unfold incB; dsimp only; (repeat' split) <;> simp
@[simp] theorem incB_fetch (s : State) (p e n : Nat) : (incB s p e n).fetch = s.fetch := by unfold incB; dsimp only; (repeat' split) <;> simp
@[simp] theorem incB_links (s : State) (p e n : Nat) : (incB s p e n).links = s.links := by unfold incB; dsimp only; (repeat' split) <;> simp
@[simp] theorem incB_pack (s : State) (p e n : Nat) : (incB s p e n).pack = s.pack := by unfold incB; dsimp only; (repeat' split) <;> simp
@[simp] theorem incB_dict (s : State) (p e n : Nat) : (incB s p e n).dict = s.dict := by unfold incB; dsimp only; (repeat' split) <;> simp
@[simp] theorem incB_journal (s : State) (p e n : Nat) : (incB s p e n).journal = s.journal := by unfold incB; dsimp only; (repeat' split) <;> simp
@[simp] theorem incB_fw (s : State) (p e n : Nat) : (incB s p e n).fw = s.fw := by unfold incB; dsimp only; (repeat' split) <;> simp
@[simp] theorem incB_sec (s : State) (p e n : Nat) : (incB s p e n).sec = s.sec := by unfold incB; dsimp only; (repeat' split) <;> simp
@[simp] theorem incB_jtag (s : State) (p e n : Nat) : (incB s p e n).jtag = s.jtag := by unfold incB; dsimp only; (repeat' split) <;> simp
@[simp] theorem incB_free (s : State) (p e n : Nat) : (incB s p e n).free = s.free := by unfold incB; dsimp only; (repeat' split) <;> simp

/-! ### clearB -/

@[simp] theorem clearB_pending (s : State) (p e : Nat) : (clearB s p e).pending = s.pending := by unfold clearB; split <;> rfl
@[simp] theorem clearB_orbit (s : State) (p e : Nat) : (clearB s p e).orbit = s.orbit := by unfold clearB; split <;> rfl
@[simp] theorem clearB_power (s : State) (p e : Nat) : (clearB s p e).power = s.power := by unfold clearB; split <;> rfl
@[simp] theorem clearB_cores (s : State) (p e : Nat) : (clearB s p e).cores = s.cores := by unfold clearB; split <;> rfl
@[simp] theorem clearB_mem (s : State) (p e : Nat) : (clearB s p e).mem = s.mem := by unfold clearB; split <;> rfl
@[simp] theorem clearB_tasks (s : State) (p e : Nat) : (clearB s p e).tasks = s.tasks := by unfold clearB; split <;> rfl
@[simp] theorem clearB_moons (s : State) (p e : Nat) : (clearB s p e).moons = s.moons := by unfold clearB; split <;> rfl
@[simp] theorem clearB_serve (s : State) (p e : Nat) : (clearB s p e).serve = s.serve := by unfold clearB; split <;> rfl
@[simp] theorem clearB_train (s : State) (p e : Nat) : (clearB s p e).train = s.train := by unfold clearB; split <;> rfl
@[simp] theorem clearB_fetch (s : State) (p e : Nat) : (clearB s p e).fetch = s.fetch := by unfold clearB; split <;> rfl
@[simp] theorem clearB_links (s : State) (p e : Nat) : (clearB s p e).links = s.links := by unfold clearB; split <;> rfl
@[simp] theorem clearB_pack (s : State) (p e : Nat) : (clearB s p e).pack = s.pack := by unfold clearB; split <;> rfl
@[simp] theorem clearB_host (s : State) (p e : Nat) : (clearB s p e).host = s.host := by unfold clearB; split <;> rfl
@[simp] theorem clearB_dict (s : State) (p e : Nat) : (clearB s p e).dict = s.dict := by unfold clearB; split <;> rfl
@[simp] theorem clearB_journal (s : State) (p e : Nat) : (clearB s p e).journal = s.journal := by unfold clearB; split <;> rfl
@[simp] theorem clearB_fw (s : State) (p e : Nat) : (clearB s p e).fw = s.fw := by unfold clearB; split <;> rfl
@[simp] theorem clearB_sec (s : State) (p e : Nat) : (clearB s p e).sec = s.sec := by unfold clearB; split <;> rfl
@[simp] theorem clearB_jtag (s : State) (p e : Nat) : (clearB s p e).jtag = s.jtag := by unfold clearB; split <;> rfl
@[simp] theorem clearB_out (s : State) (p e : Nat) : (clearB s p e).out = s.out := by unfold clearB; split <;> rfl
@[simp] theorem clearB_free (s : State) (p e : Nat) : (clearB s p e).free = s.free := by unfold clearB; split <;> rfl

/-! ### snapB -/

@[simp] theorem snapB_pending (s : State) (p e : Nat) : (snapB s p e).pending = s.pending := by unfold snapB; split <;> rfl
@[simp] theorem snapB_orbit (s : State) (p e : Nat) : (snapB s p e).orbit = s.orbit := by unfold snapB; split <;> rfl
@[simp] theorem snapB_power (s : State) (p e : Nat) : (snapB s p e).power = s.power := by unfold snapB; split <;> rfl
@[simp] theorem snapB_cores (s : State) (p e : Nat) : (snapB s p e).cores = s.cores := by unfold snapB; split <;> rfl
@[simp] theorem snapB_mem (s : State) (p e : Nat) : (snapB s p e).mem = s.mem := by unfold snapB; split <;> rfl
@[simp] theorem snapB_tasks (s : State) (p e : Nat) : (snapB s p e).tasks = s.tasks := by unfold snapB; split <;> rfl
@[simp] theorem snapB_moons (s : State) (p e : Nat) : (snapB s p e).moons = s.moons := by unfold snapB; split <;> rfl
@[simp] theorem snapB_serve (s : State) (p e : Nat) : (snapB s p e).serve = s.serve := by unfold snapB; split <;> rfl
@[simp] theorem snapB_train (s : State) (p e : Nat) : (snapB s p e).train = s.train := by unfold snapB; split <;> rfl
@[simp] theorem snapB_fetch (s : State) (p e : Nat) : (snapB s p e).fetch = s.fetch := by unfold snapB; split <;> rfl
@[simp] theorem snapB_links (s : State) (p e : Nat) : (snapB s p e).links = s.links := by unfold snapB; split <;> rfl
@[simp] theorem snapB_pack (s : State) (p e : Nat) : (snapB s p e).pack = s.pack := by unfold snapB; split <;> rfl
@[simp] theorem snapB_host (s : State) (p e : Nat) : (snapB s p e).host = s.host := by unfold snapB; split <;> rfl
@[simp] theorem snapB_dict (s : State) (p e : Nat) : (snapB s p e).dict = s.dict := by unfold snapB; split <;> rfl
@[simp] theorem snapB_journal (s : State) (p e : Nat) : (snapB s p e).journal = s.journal := by unfold snapB; split <;> rfl
@[simp] theorem snapB_fw (s : State) (p e : Nat) : (snapB s p e).fw = s.fw := by unfold snapB; split <;> rfl
@[simp] theorem snapB_sec (s : State) (p e : Nat) : (snapB s p e).sec = s.sec := by unfold snapB; split <;> rfl
@[simp] theorem snapB_jtag (s : State) (p e : Nat) : (snapB s p e).jtag = s.jtag := by unfold snapB; split <;> rfl
@[simp] theorem snapB_out (s : State) (p e : Nat) : (snapB s p e).out = s.out := by unfold snapB; split <;> rfl
@[simp] theorem snapB_free (s : State) (p e : Nat) : (snapB s p e).free = s.free := by unfold snapB; split <;> rfl

/-! ### readB -/

@[simp] theorem readB_pending (s : State) (p e : Nat) (c : Bool) : (readB s p e c).pending = s.pending := by unfold readB; split <;> simp
@[simp] theorem readB_orbit (s : State) (p e : Nat) (c : Bool) : (readB s p e c).orbit = s.orbit := by unfold readB; split <;> simp
@[simp] theorem readB_power (s : State) (p e : Nat) (c : Bool) : (readB s p e c).power = s.power := by unfold readB; split <;> simp
@[simp] theorem readB_cores (s : State) (p e : Nat) (c : Bool) : (readB s p e c).cores = s.cores := by unfold readB; split <;> simp
@[simp] theorem readB_mem (s : State) (p e : Nat) (c : Bool) : (readB s p e c).mem = s.mem := by unfold readB; split <;> simp
@[simp] theorem readB_tasks (s : State) (p e : Nat) (c : Bool) : (readB s p e c).tasks = s.tasks := by unfold readB; split <;> simp
@[simp] theorem readB_moons (s : State) (p e : Nat) (c : Bool) : (readB s p e c).moons = s.moons := by unfold readB; split <;> simp
@[simp] theorem readB_serve (s : State) (p e : Nat) (c : Bool) : (readB s p e c).serve = s.serve := by unfold readB; split <;> simp
@[simp] theorem readB_train (s : State) (p e : Nat) (c : Bool) : (readB s p e c).train = s.train := by unfold readB; split <;> simp
@[simp] theorem readB_fetch (s : State) (p e : Nat) (c : Bool) : (readB s p e c).fetch = s.fetch := by unfold readB; split <;> simp
@[simp] theorem readB_links (s : State) (p e : Nat) (c : Bool) : (readB s p e c).links = s.links := by unfold readB; split <;> simp
@[simp] theorem readB_pack (s : State) (p e : Nat) (c : Bool) : (readB s p e c).pack = s.pack := by unfold readB; split <;> simp
@[simp] theorem readB_host (s : State) (p e : Nat) (c : Bool) : (readB s p e c).host = s.host := by unfold readB; split <;> simp
@[simp] theorem readB_dict (s : State) (p e : Nat) (c : Bool) : (readB s p e c).dict = s.dict := by unfold readB; split <;> simp
@[simp] theorem readB_journal (s : State) (p e : Nat) (c : Bool) : (readB s p e c).journal = s.journal := by unfold readB; split <;> simp
@[simp] theorem readB_fw (s : State) (p e : Nat) (c : Bool) : (readB s p e c).fw = s.fw := by unfold readB; split <;> simp
@[simp] theorem readB_sec (s : State) (p e : Nat) (c : Bool) : (readB s p e c).sec = s.sec := by unfold readB; split <;> simp
@[simp] theorem readB_jtag (s : State) (p e : Nat) (c : Bool) : (readB s p e c).jtag = s.jtag := by unfold readB; split <;> simp
@[simp] theorem readB_out (s : State) (p e : Nat) (c : Bool) : (readB s p e c).out = s.out := by unfold readB; split <;> simp
@[simp] theorem readB_free (s : State) (p e : Nat) (c : Bool) : (readB s p e c).free = s.free := by unfold readB; split <;> simp

/-! ### jCommit -/

@[simp] theorem jCommit_pending (s : State)  : (jCommit s).pending = s.pending := rfl
@[simp] theorem jCommit_orbit (s : State)  : (jCommit s).orbit = s.orbit := rfl
@[simp] theorem jCommit_power (s : State)  : (jCommit s).power = s.power := rfl
@[simp] theorem jCommit_cores (s : State)  : (jCommit s).cores = s.cores := rfl
@[simp] theorem jCommit_mem (s : State)  : (jCommit s).mem = s.mem := rfl
@[simp] theorem jCommit_tasks (s : State)  : (jCommit s).tasks = s.tasks := rfl
@[simp] theorem jCommit_moons (s : State)  : (jCommit s).moons = s.moons := rfl
@[simp] theorem jCommit_serve (s : State)  : (jCommit s).serve = s.serve := rfl
@[simp] theorem jCommit_train (s : State)  : (jCommit s).train = s.train := rfl
@[simp] theorem jCommit_fetch (s : State)  : (jCommit s).fetch = s.fetch := rfl
@[simp] theorem jCommit_links (s : State)  : (jCommit s).links = s.links := rfl
@[simp] theorem jCommit_pack (s : State)  : (jCommit s).pack = s.pack := rfl
@[simp] theorem jCommit_host (s : State)  : (jCommit s).host = s.host := rfl
@[simp] theorem jCommit_dict (s : State)  : (jCommit s).dict = s.dict := rfl
@[simp] theorem jCommit_stat (s : State)  : (jCommit s).stat = s.stat := rfl
@[simp] theorem jCommit_fw (s : State)  : (jCommit s).fw = s.fw := rfl
@[simp] theorem jCommit_sec (s : State)  : (jCommit s).sec = s.sec := rfl
@[simp] theorem jCommit_jtag (s : State)  : (jCommit s).jtag = s.jtag := rfl
@[simp] theorem jCommit_out (s : State)  : (jCommit s).out = s.out := rfl
@[simp] theorem jCommit_free (s : State)  : (jCommit s).free = s.free := rfl

/-! ### jAppend -/

@[simp] theorem jAppend_pending (s : State) (p : JPayload) : (jAppend s p).pending = s.pending := by simp [jAppend]
@[simp] theorem jAppend_orbit (s : State) (p : JPayload) : (jAppend s p).orbit = s.orbit := by simp [jAppend]
@[simp] theorem jAppend_power (s : State) (p : JPayload) : (jAppend s p).power = s.power := by simp [jAppend]
@[simp] theorem jAppend_cores (s : State) (p : JPayload) : (jAppend s p).cores = s.cores := by simp [jAppend]
@[simp] theorem jAppend_mem (s : State) (p : JPayload) : (jAppend s p).mem = s.mem := by simp [jAppend]
@[simp] theorem jAppend_tasks (s : State) (p : JPayload) : (jAppend s p).tasks = s.tasks := by simp [jAppend]
@[simp] theorem jAppend_moons (s : State) (p : JPayload) : (jAppend s p).moons = s.moons := by simp [jAppend]
@[simp] theorem jAppend_serve (s : State) (p : JPayload) : (jAppend s p).serve = s.serve := by simp [jAppend]
@[simp] theorem jAppend_train (s : State) (p : JPayload) : (jAppend s p).train = s.train := by simp [jAppend]
@[simp] theorem jAppend_fetch (s : State) (p : JPayload) : (jAppend s p).fetch = s.fetch := by simp [jAppend]
@[simp] theorem jAppend_links (s : State) (p : JPayload) : (jAppend s p).links = s.links := by simp [jAppend]
@[simp] theorem jAppend_pack (s : State) (p : JPayload) : (jAppend s p).pack = s.pack := by simp [jAppend]
@[simp] theorem jAppend_stat (s : State) (p : JPayload) : (jAppend s p).stat = s.stat := by simp [jAppend]
@[simp] theorem jAppend_fw (s : State) (p : JPayload) : (jAppend s p).fw = s.fw := by simp [jAppend]
@[simp] theorem jAppend_sec (s : State) (p : JPayload) : (jAppend s p).sec = s.sec := by simp [jAppend]
@[simp] theorem jAppend_jtag (s : State) (p : JPayload) : (jAppend s p).jtag = s.jtag := by simp [jAppend]
@[simp] theorem jAppend_free (s : State) (p : JPayload) : (jAppend s p).free = s.free := by simp [jAppend]

/-! ### jMust -/

@[simp] theorem jMust_pending (s : State) (p : JPayload) : (jMust s p).pending = s.pending := by unfold jMust; split <;> simp
@[simp] theorem jMust_orbit (s : State) (p : JPayload) : (jMust s p).orbit = s.orbit := by unfold jMust; split <;> simp
@[simp] theorem jMust_power (s : State) (p : JPayload) : (jMust s p).power = s.power := by unfold jMust; split <;> simp
@[simp] theorem jMust_cores (s : State) (p : JPayload) : (jMust s p).cores = s.cores := by unfold jMust; split <;> simp
@[simp] theorem jMust_mem (s : State) (p : JPayload) : (jMust s p).mem = s.mem := by unfold jMust; split <;> simp
@[simp] theorem jMust_tasks (s : State) (p : JPayload) : (jMust s p).tasks = s.tasks := by unfold jMust; split <;> simp
@[simp] theorem jMust_moons (s : State) (p : JPayload) : (jMust s p).moons = s.moons := by unfold jMust; split <;> simp
@[simp] theorem jMust_serve (s : State) (p : JPayload) : (jMust s p).serve = s.serve := by unfold jMust; split <;> simp
@[simp] theorem jMust_train (s : State) (p : JPayload) : (jMust s p).train = s.train := by unfold jMust; split <;> simp
@[simp] theorem jMust_fetch (s : State) (p : JPayload) : (jMust s p).fetch = s.fetch := by unfold jMust; split <;> simp
@[simp] theorem jMust_links (s : State) (p : JPayload) : (jMust s p).links = s.links := by unfold jMust; split <;> simp
@[simp] theorem jMust_pack (s : State) (p : JPayload) : (jMust s p).pack = s.pack := by unfold jMust; split <;> simp
@[simp] theorem jMust_stat (s : State) (p : JPayload) : (jMust s p).stat = s.stat := by unfold jMust; split <;> simp
@[simp] theorem jMust_fw (s : State) (p : JPayload) : (jMust s p).fw = s.fw := by unfold jMust; split <;> simp
@[simp] theorem jMust_sec (s : State) (p : JPayload) : (jMust s p).sec = s.sec := by unfold jMust; split <;> simp
@[simp] theorem jMust_jtag (s : State) (p : JPayload) : (jMust s p).jtag = s.jtag := by unfold jMust; split <;> simp
@[simp] theorem jMust_free (s : State) (p : JPayload) : (jMust s p).free = s.free := by unfold jMust; split <;> simp

/-! ### setParamJ -/

@[simp] theorem setParamJ_pending (s : State) (p e v : Nat) : (setParamJ s p e v).pending = s.pending := by simp [setParamJ]
@[simp] theorem setParamJ_orbit (s : State) (p e v : Nat) : (setParamJ s p e v).orbit = s.orbit := by simp [setParamJ]
@[simp] theorem setParamJ_power (s : State) (p e v : Nat) : (setParamJ s p e v).power = s.power := by simp [setParamJ]
@[simp] theorem setParamJ_cores (s : State) (p e v : Nat) : (setParamJ s p e v).cores = s.cores := by simp [setParamJ]
@[simp] theorem setParamJ_mem (s : State) (p e v : Nat) : (setParamJ s p e v).mem = s.mem := by simp [setParamJ]
@[simp] theorem setParamJ_tasks (s : State) (p e v : Nat) : (setParamJ s p e v).tasks = s.tasks := by simp [setParamJ]
@[simp] theorem setParamJ_moons (s : State) (p e v : Nat) : (setParamJ s p e v).moons = s.moons := by simp [setParamJ]
@[simp] theorem setParamJ_serve (s : State) (p e v : Nat) : (setParamJ s p e v).serve = s.serve := by simp [setParamJ]
@[simp] theorem setParamJ_train (s : State) (p e v : Nat) : (setParamJ s p e v).train = s.train := by simp [setParamJ]
@[simp] theorem setParamJ_fetch (s : State) (p e v : Nat) : (setParamJ s p e v).fetch = s.fetch := by simp [setParamJ]
@[simp] theorem setParamJ_links (s : State) (p e v : Nat) : (setParamJ s p e v).links = s.links := by simp [setParamJ]
@[simp] theorem setParamJ_pack (s : State) (p e v : Nat) : (setParamJ s p e v).pack = s.pack := by simp [setParamJ]
@[simp] theorem setParamJ_stat (s : State) (p e v : Nat) : (setParamJ s p e v).stat = s.stat := by simp [setParamJ]
@[simp] theorem setParamJ_fw (s : State) (p e v : Nat) : (setParamJ s p e v).fw = s.fw := by simp [setParamJ]
@[simp] theorem setParamJ_sec (s : State) (p e v : Nat) : (setParamJ s p e v).sec = s.sec := by simp [setParamJ]
@[simp] theorem setParamJ_jtag (s : State) (p e v : Nat) : (setParamJ s p e v).jtag = s.jtag := by simp [setParamJ]
@[simp] theorem setParamJ_free (s : State) (p e v : Nat) : (setParamJ s p e v).free = s.free := by simp [setParamJ]

/-! ### announce -/

@[simp] theorem announce_pending (s t : State) : (announce s t).pending = t.pending := by
  unfold announce; dsimp only; split <;> simp
@[simp] theorem announce_orbit (s t : State) : (announce s t).orbit = t.orbit := by
  unfold announce; dsimp only; split <;> simp
@[simp] theorem announce_power (s t : State) : (announce s t).power = t.power := by
  unfold announce; dsimp only; split <;> simp
@[simp] theorem announce_cores (s t : State) : (announce s t).cores = t.cores := by
  unfold announce; dsimp only; split <;> simp
@[simp] theorem announce_mem (s t : State) : (announce s t).mem = t.mem := by
  unfold announce; dsimp only; split <;> simp
@[simp] theorem announce_tasks (s t : State) : (announce s t).tasks = t.tasks := by
  unfold announce; dsimp only; split <;> simp
@[simp] theorem announce_moons (s t : State) : (announce s t).moons = t.moons := by
  unfold announce; dsimp only; split <;> simp
@[simp] theorem announce_serve (s t : State) : (announce s t).serve = t.serve := by
  unfold announce; dsimp only; split <;> simp
@[simp] theorem announce_train (s t : State) : (announce s t).train = t.train := by
  unfold announce; dsimp only; split <;> simp
@[simp] theorem announce_fetch (s t : State) : (announce s t).fetch = t.fetch := by
  unfold announce; dsimp only; split <;> simp
@[simp] theorem announce_links (s t : State) : (announce s t).links = t.links := by
  unfold announce; dsimp only; split <;> simp
@[simp] theorem announce_pack (s t : State) : (announce s t).pack = t.pack := by
  unfold announce; dsimp only; split <;> simp
@[simp] theorem announce_dict (s t : State) : (announce s t).dict = t.dict := by
  unfold announce; dsimp only; split <;> simp
@[simp] theorem announce_stat (s t : State) : (announce s t).stat = t.stat := by
  unfold announce; dsimp only; split <;> simp
@[simp] theorem announce_journal (s t : State) : (announce s t).journal = t.journal := by
  unfold announce; dsimp only; split <;> simp
@[simp] theorem announce_fw (s t : State) : (announce s t).fw = t.fw := by
  unfold announce; dsimp only; split <;> simp
@[simp] theorem announce_sec (s t : State) : (announce s t).sec = t.sec := by
  unfold announce; dsimp only; split <;> simp
@[simp] theorem announce_jtag (s t : State) : (announce s t).jtag = t.jtag := by
  unfold announce; dsimp only; split <;> simp
@[simp] theorem announce_free (s t : State) : (announce s t).free = t.free := by
  unfold announce; dsimp only; split <;> simp

/-! ### setSvc -/

@[simp] theorem setSvc_pending (s : State) (b : Nat) : (setSvc s b).pending = s.pending := by unfold setSvc; dsimp only; split <;> simp
@[simp] theorem setSvc_orbit (s : State) (b : Nat) : (setSvc s b).orbit = s.orbit := by unfold setSvc; dsimp only; split <;> simp
@[simp] theorem setSvc_cores (s : State) (b : Nat) : (setSvc s b).cores = s.cores := by unfold setSvc; dsimp only; split <;> simp
@[simp] theorem setSvc_mem (s : State) (b : Nat) : (setSvc s b).mem = s.mem := by unfold setSvc; dsimp only; split <;> simp
@[simp] theorem setSvc_tasks (s : State) (b : Nat) : (setSvc s b).tasks = s.tasks := by unfold setSvc; dsimp only; split <;> simp
@[simp] theorem setSvc_moons (s : State) (b : Nat) : (setSvc s b).moons = s.moons := by unfold setSvc; dsimp only; split <;> simp
@[simp] theorem setSvc_serve (s : State) (b : Nat) : (setSvc s b).serve = s.serve := by unfold setSvc; dsimp only; split <;> simp
@[simp] theorem setSvc_train (s : State) (b : Nat) : (setSvc s b).train = s.train := by unfold setSvc; dsimp only; split <;> simp
@[simp] theorem setSvc_fetch (s : State) (b : Nat) : (setSvc s b).fetch = s.fetch := by unfold setSvc; dsimp only; split <;> simp
@[simp] theorem setSvc_links (s : State) (b : Nat) : (setSvc s b).links = s.links := by unfold setSvc; dsimp only; split <;> simp
@[simp] theorem setSvc_pack (s : State) (b : Nat) : (setSvc s b).pack = s.pack := by unfold setSvc; dsimp only; split <;> simp
@[simp] theorem setSvc_stat (s : State) (b : Nat) : (setSvc s b).stat = s.stat := by unfold setSvc; dsimp only; split <;> simp
@[simp] theorem setSvc_fw (s : State) (b : Nat) : (setSvc s b).fw = s.fw := by unfold setSvc; dsimp only; split <;> simp
@[simp] theorem setSvc_sec (s : State) (b : Nat) : (setSvc s b).sec = s.sec := by unfold setSvc; dsimp only; split <;> simp
@[simp] theorem setSvc_jtag (s : State) (b : Nat) : (setSvc s b).jtag = s.jtag := by unfold setSvc; dsimp only; split <;> simp
@[simp] theorem setSvc_free (s : State) (b : Nat) : (setSvc s b).free = s.free := by unfold setSvc; dsimp only; split <;> simp

/-! ### answerWith -/

@[simp] theorem answerWith_pending (s : State) (c : Nat) (v : Bytes) (l : Bool) : (answerWith s c v l).pending = s.pending := by unfold answerWith; dsimp only; split <;> simp
@[simp] theorem answerWith_orbit (s : State) (c : Nat) (v : Bytes) (l : Bool) : (answerWith s c v l).orbit = s.orbit := by unfold answerWith; dsimp only; split <;> simp
@[simp] theorem answerWith_power (s : State) (c : Nat) (v : Bytes) (l : Bool) : (answerWith s c v l).power = s.power := by unfold answerWith; dsimp only; split <;> simp
@[simp] theorem answerWith_cores (s : State) (c : Nat) (v : Bytes) (l : Bool) : (answerWith s c v l).cores = s.cores := by unfold answerWith; dsimp only; split <;> simp
@[simp] theorem answerWith_mem (s : State) (c : Nat) (v : Bytes) (l : Bool) : (answerWith s c v l).mem = s.mem := by unfold answerWith; dsimp only; split <;> simp
@[simp] theorem answerWith_tasks (s : State) (c : Nat) (v : Bytes) (l : Bool) : (answerWith s c v l).tasks = s.tasks := by unfold answerWith; dsimp only; split <;> simp
@[simp] theorem answerWith_moons (s : State) (c : Nat) (v : Bytes) (l : Bool) : (answerWith s c v l).moons = s.moons := by unfold answerWith; dsimp only; split <;> simp
@[simp] theorem answerWith_serve (s : State) (c : Nat) (v : Bytes) (l : Bool) : (answerWith s c v l).serve = s.serve := by unfold answerWith; dsimp only; split <;> simp
@[simp] theorem answerWith_train (s : State) (c : Nat) (v : Bytes) (l : Bool) : (answerWith s c v l).train = s.train := by unfold answerWith; dsimp only; split <;> simp
@[simp] theorem answerWith_fetch (s : State) (c : Nat) (v : Bytes) (l : Bool) : (answerWith s c v l).fetch = s.fetch := by unfold answerWith; dsimp only; split <;> simp
@[simp] theorem answerWith_links (s : State) (c : Nat) (v : Bytes) (l : Bool) : (answerWith s c v l).links = s.links := by unfold answerWith; dsimp only; split <;> simp
@[simp] theorem answerWith_pack (s : State) (c : Nat) (v : Bytes) (l : Bool) : (answerWith s c v l).pack = s.pack := by unfold answerWith; dsimp only; split <;> simp
@[simp] theorem answerWith_journal (s : State) (c : Nat) (v : Bytes) (l : Bool) : (answerWith s c v l).journal = s.journal := by unfold answerWith; dsimp only; split <;> simp
@[simp] theorem answerWith_fw (s : State) (c : Nat) (v : Bytes) (l : Bool) : (answerWith s c v l).fw = s.fw := by unfold answerWith; dsimp only; split <;> simp
@[simp] theorem answerWith_sec (s : State) (c : Nat) (v : Bytes) (l : Bool) : (answerWith s c v l).sec = s.sec := by unfold answerWith; dsimp only; split <;> simp
@[simp] theorem answerWith_jtag (s : State) (c : Nat) (v : Bytes) (l : Bool) : (answerWith s c v l).jtag = s.jtag := by unfold answerWith; dsimp only; split <;> simp
@[simp] theorem answerWith_free (s : State) (c : Nat) (v : Bytes) (l : Bool) : (answerWith s c v l).free = s.free := by unfold answerWith; dsimp only; split <;> simp

/-! ### answer -/

@[simp] theorem answer_pending (s : State) (c : Nat) : (answer s c).pending = s.pending := by simp [answer]
@[simp] theorem answer_orbit (s : State) (c : Nat) : (answer s c).orbit = s.orbit := by simp [answer]
@[simp] theorem answer_power (s : State) (c : Nat) : (answer s c).power = s.power := by simp [answer]
@[simp] theorem answer_cores (s : State) (c : Nat) : (answer s c).cores = s.cores := by simp [answer]
@[simp] theorem answer_mem (s : State) (c : Nat) : (answer s c).mem = s.mem := by simp [answer]
@[simp] theorem answer_tasks (s : State) (c : Nat) : (answer s c).tasks = s.tasks := by simp [answer]
@[simp] theorem answer_moons (s : State) (c : Nat) : (answer s c).moons = s.moons := by simp [answer]
@[simp] theorem answer_serve (s : State) (c : Nat) : (answer s c).serve = s.serve := by simp [answer]
@[simp] theorem answer_train (s : State) (c : Nat) : (answer s c).train = s.train := by simp [answer]
@[simp] theorem answer_fetch (s : State) (c : Nat) : (answer s c).fetch = s.fetch := by simp [answer]
@[simp] theorem answer_links (s : State) (c : Nat) : (answer s c).links = s.links := by simp [answer]
@[simp] theorem answer_pack (s : State) (c : Nat) : (answer s c).pack = s.pack := by simp [answer]
@[simp] theorem answer_journal (s : State) (c : Nat) : (answer s c).journal = s.journal := by simp [answer]
@[simp] theorem answer_fw (s : State) (c : Nat) : (answer s c).fw = s.fw := by simp [answer]
@[simp] theorem answer_sec (s : State) (c : Nat) : (answer s c).sec = s.sec := by simp [answer]
@[simp] theorem answer_jtag (s : State) (c : Nat) : (answer s c).jtag = s.jtag := by simp [answer]
@[simp] theorem answer_free (s : State) (c : Nat) : (answer s c).free = s.free := by simp [answer]

end Sys2Proof.Machine
end

