-- ==== Sys2Proof/Laws/Completion.lean ====
section
/-! SUPPORT. What a command that is obeyed answers: tables, item statuses and answers, class B groups, tasks and rings, and the bridge from the
frames of Laws/Frame.lean to those of Safety. -/

set_option Elab.async false

namespace Sys2Proof.Laws

open Sys2Proof.Machine

/-! ## Frames as Safety says them -/

/-- Every part, the bytes last. -/
def allParts : List Part :=
  [.orbit, .power, .cores, .mem, .tasks, .moons, .serve, .train, .fetch, .links, .pack, .host, .dict, .stat, .journal, .fw, .sec, .jtag, .out,
   .free, .bytes]

/-- The mask of a frame leaves a part alone. -/
def partFree (k : Nat) : Part → Bool
  | .orbit => !k.testBit 1
  | .power => !k.testBit 2
  | .cores => !k.testBit 3
  | .mem => !k.testBit 4
  | .tasks => !k.testBit 5
  | .moons => !k.testBit 6
  | .serve => !k.testBit 7
  | .train => !k.testBit 8
  | .fetch => !k.testBit 9
  | .links => !k.testBit 10
  | .pack => !k.testBit 11
  | .host => !k.testBit 12
  | .dict => !k.testBit 13
  | .stat => !k.testBit 14
  | .journal => !k.testBit 15
  | .fw => !k.testBit 16
  | .sec => !k.testBit 17
  | .jtag => !k.testBit 18
  | .out => !k.testBit 19
  | .free => !k.testBit 20
  | .bytes => !k.testBit 21 && !k.testBit 22 && !k.testBit 23

theorem or_of_free {b : Bool} {p : Prop} (h : b = true ∨ p) (g : (!b) = true) : p := h.resolve_left (by simp_all)

/-- A part outside the mask is the same. -/
theorem Fr.part {k : Nat} {s t : State} (h : Fr k s t) (p : Part) (g : partFree k p = true) : SamePart s t p := by
  cases p
  case bytes =>
    simp only [partFree, Bool.and_eq_true] at g
    intro a
    rw [or_of_free h.hbm g.1.1, or_of_free h.spm g.1.2, or_of_free h.vregs g.2]
    exact ⟨rfl, rfl, rfl⟩
  all_goals simp only [partFree] at g
  · exact or_of_free h.orbit g
  · exact or_of_free h.power g
  · exact or_of_free h.cores g
  · exact or_of_free h.mem g
  · exact or_of_free h.tasks g
  · exact or_of_free h.moons g
  · exact or_of_free h.serve g
  · exact or_of_free h.train g
  · exact or_of_free h.fetch g
  · exact or_of_free h.links g
  · exact or_of_free h.pack g
  · exact or_of_free h.host g
  · exact or_of_free h.dict g
  · exact or_of_free h.stat g
  · exact or_of_free h.journal g
  · exact or_of_free h.fw g
  · exact or_of_free h.sec g
  · exact or_of_free h.jtag g
  · exact or_of_free h.out g
  · exact or_of_free h.free g

/-- A frame whose mask lies within a list of parts. -/
theorem Fr.only {k : Nat} {s t : State} {l : List Part} (h : Fr k s t) (w : (allParts.all fun p => l.contains p || partFree k p) = true) :
    OnlyChanges l s t := by
  refine ⟨h.pending, fun p hp => h.part p ?_⟩
  have := List.all_eq_true.mp w p (by cases p <;> simp [allParts])
  simpa [hp] using this

/-- The part of a frame that is wanted. -/
theorem OnlyChanges.same {l : List Part} {s t : State} (h : OnlyChanges l s t) (p : Part) (hp : p ∉ l) : SamePart s t p := h.2 p hp

/-- A frame without bit 24 keeps the power unit apart from SVC_REASON. -/
theorem Fr.power24 {k : Nat} {s t : State} (h : Fr k s t) (g : k.testBit 24 = false) : SamePower s t :=
  h.run.resolve_left (by simp [g])

/-- A frame without bit 25 keeps the core unit apart from running tests and the like. -/
theorem Fr.kennel25 {k : Nat} {s t : State} (h : Fr k s t) (g : k.testBit 25 = false) : KeepKennel s.cores t.cores :=
  h.kennel.resolve_left (by simp [g])

/-- Reading a table of the core unit across such a frame. -/
theorem KeepKennel.fields {p q : CoreUnit} (h : KeepKennel p q) :
    q.map = p.map ∧ q.failed = p.failed ∧ q.withdrawn = p.withdrawn ∧ q.subst = p.subst ∧ q.arrays = p.arrays ∧ q.fusePending = p.fusePending ∧
    q.testedAt = p.testedAt ∧ q.testedOrbit = p.testedOrbit ∧ q.bridges = p.bridges ∧ q.mcode = p.mcode ∧ q.reloading = p.reloading := by
  rw [h]; exact ⟨rfl, rfl, rfl, rfl, rfl, rfl, rfl, rfl, rfl, rfl, rfl⟩

/-! ## Tables -/

theorem tget_tset_same {α : Type} (t : Tab α) (d : α) (k : Nat) (x : α) : tget (tset t k x) d k = x := by
  induction t with
  | nil => simp [tset, tget]
  | cons e r ih =>
    unfold tset
    split
    · simp [tget]
    · rename_i h1
      split
      · simp [tget]
      · simp [tget, h1, ih]

theorem tget_tset_ne {α : Type} (t : Tab α) (d : α) (k j : Nat) (x : α) (h : j ≠ k) : tget (tset t k x) d j = tget t d j := by
  induction t with
  | nil => simp [tset, tget, Ne.symm h]
  | cons e r ih =>
    unfold tset
    split
    · rename_i h1
      simp [tget, h1, Ne.symm h]
    · split
      · simp [tget, Ne.symm h]
      · by_cases q : e.1 = j <;> simp [tget, q, ih]

theorem mem_addNum {l : List Nat} {n a : Nat} : a ∈ addNum l n ↔ a = n ∨ a ∈ l := by
  induction l with
  | nil => simp [addNum]
  | cons b r ih =>
    unfold addNum
    split
    · rename_i h; subst h; simp
    · split
      · simp
      · simp only [List.mem_cons, ih]; constructor <;> rintro (h | h | h) <;> simp [h]

theorem mem_delNum {l : List Nat} {n a : Nat} : a ∈ delNum l n ↔ a ∈ l ∧ a ≠ n := by simp [delNum]

theorem getMoon_setMoon (s : State) (m : Nat) (x : Moon) : getMoon (setMoon s m x) m = x := tget_tset_same _ _ _ _
theorem getMoon_modMoon (s : State) (m : Nat) (f : Moon → Moon) : getMoon (modMoon s m f) m = f (getMoon s m) := tget_tset_same _ _ _ _
theorem getRing_setRing (s : State) (m r : Nat) (x : Ring) : getRing (setRing s m r x) m r = x := tget_tset_same _ _ _ _
theorem getServe_setServe (s : State) (m : Nat) (x : Serve) : getServe (setServe s m x) m = x := tget_tset_same _ _ _ _
theorem getTrain_setTrain (s : State) (m : Nat) (x : Train) : getTrain (setTrain s m x) m = x := tget_tset_same _ _ _ _
theorem getFn_setFn (s : State) (n : Nat) (x : Func) : getFn (setFn s n x) n = x := tget_tset_same _ _ _ _
theorem getPort_setPort (s : State) (p : Nat) (x : Port) : getPort (setPort s p x) p = x := tget_tset_same _ _ _ _
theorem param_setParam (s : State) (p e v : Nat) : param (setParam s p e v) p e = v := tget_tset_same _ _ _ _

theorem param_of_dict {s t : State} (h : t.dict = s.dict) (p e : Nat) : param t p e = param s p e := by unfold param; rw [h]

/-! ## Item statuses and answers -/

theorem dead_of_ready {s : State} {w : Who} {p : Nat} {b : Bool} (h : ¬notReady s w p b = true) : dead s = false := by
  unfold notReady at h
  unfold dead
  cases hp : s.power.phase <;> simp_all

theorem dead_of_write {s : State} {w : Who} {p e : Nat} (h : writeStatus s w p e = 0) : dead s = false := by
  refine dead_of_ready (w := w) (p := p) (b := true) fun c => ?_
  simp [writeStatus, c] at h

theorem dead_of_read {s : State} {w : Who} {p e : Nat} (h : readStatus s w p e = 0) : dead s = false := by
  refine dead_of_ready (w := w) (p := p) (b := false) fun c => ?_
  simp [readStatus, c] at h

/-- A command written with status 0 and obeyed. -/
theorem command_ok {s u : State} {w : Who} {p e : Nat} {f : State → Except Nat State} (h : writeStatus s w p e = 0) (g : f s = .ok u) :
    command s w p e f = .next (answer u 0) := by
  unfold command
  rw [dead_of_write h]
  simp [h, g]

/-- A command whose value or state its rule refuses. -/
theorem command_error {s : State} {w : Who} {p e c : Nat} {f : State → Except Nat State} (h : writeStatus s w p e = 0)
    (g : f s = .error c) : command s w p e f = .next (answer s c) := by
  unfold command
  rw [dead_of_write h]
  simp [h, g]

/-- A reading command with status 0. -/
theorem query_ok {s u : State} {w : Who} {p e : Nat} {v : Bytes} {f : State → Except Nat (State × Bytes)} (h : readStatus s w p e = 0)
    (g : f s = .ok (u, v)) : query s w p e f = .next (answerWith u 0 v (inPieces p)) := by
  unfold query
  rw [dead_of_read h]
  simp [h, g]

theorem answerWith_answer (s : State) (c : Nat) (v : Bytes) (l : Bool) :
    (answerWith s c v l).dict.answer = { frame := 0, status := c, stuck := false, last := l, value := v } := rfl

theorem answer_status (s : State) (c : Nat) : (answer s c).dict.answer.status = c := rfl

theorem answerWith_dict (s : State) (c : Nat) (v : Bytes) (l : Bool) :
    (answerWith s c v l).dict = { s.dict with answer := { frame := 0, status := c, stuck := false, last := l, value := v } } := by
  unfold answerWith
  dsimp only
  split <;> simp

theorem answer_dict (s : State) (c : Nat) :
    (answer s c).dict = { s.dict with answer := { frame := 0, status := c, stuck := false, last := false, value := [] } } :=
  answerWith_dict s c [] false

/-! ## Journal and Service-Requested -/

/-- Appending commits nothing. -/
theorem jAppend_committed (s : State) (p : JPayload) : (jAppend s p).journal.committed = s.journal.committed := by
  unfold jAppend
  dsimp only
  rw [incA_journal]
  dsimp only
  split <;> rfl

/-- A record that has to commit stands among the committed ones, or in a firmware swap among those held (R478, R489). -/
theorem jMust_mem (s : State) (p : JPayload) : Journaled (jMust s p) p := by
  by_cases hs : s.fw.swap.isSome = true
  · unfold jMust jAppend Journaled
    simp only [hs, if_true, incA_journal, incA_fw]
    refine Or.inr ⟨trivial, ?_⟩
    split
    · exact ⟨_, List.mem_append_right _ (List.mem_append_right _ (List.mem_append_right _ (List.mem_singleton.mpr rfl))), rfl⟩
    · exact ⟨_, List.mem_append_right _ (List.mem_append_right _ (List.mem_singleton.mpr rfl)), rfl⟩
  refine Or.inl ?_
  unfold jMust
  rw [if_neg hs]
  unfold jCommit jAppend
  dsimp only
  rw [incA_journal]
  dsimp only
  split
  · exact ⟨_, List.mem_append_right _ (List.mem_append_right _ (List.mem_singleton.mpr rfl)), rfl⟩
  · exact ⟨_, List.mem_append_right _ (List.mem_singleton.mpr rfl), rfl⟩

/-- Service-Requested commits nothing. -/
theorem setSvc_committed (s : State) (b : Nat) : (setSvc s b).journal.committed = s.journal.committed := by
  unfold setSvc
  split
  · rfl
  · simp [jAppend_committed]

/-- The bit of SVC_REASON is set, whatever it was (R469). -/
theorem setSvc_bit {s : State} {b : Nat} (h : b < 32) : (setSvc s b).power.svcReason.toNat.testBit b = true := by
  unfold setSvc
  split
  · assumption
  · have hb : 2 ^ b % 4294967296 = 2 ^ b := Nat.mod_eq_of_lt (Nat.pow_lt_pow_right (by omega) h)
    simp [hb, Nat.testBit_or]

/-! ## Fault-Stop -/

theorem SamePower.fields {s t : State} (h : SamePower s t) :
    t.power.phase = s.power.phase ∧ t.power.faultReason = s.power.faultReason ∧ t.power.faultPin = s.power.faultPin := by
  rw [h]; exact ⟨rfl, rfl, rfl⟩

/-- Entering Fault-Stop from start-up or service: the phase, FAULT_REASON and FAULT_N (R470, R471). -/
theorem faultStop_power {s : State} {r : FaultReason} (h : s.power.phase = .up ∨ s.power.phase = .boot) :
    (faultStop s r).power.phase = .faultStop ∧ (faultStop s r).power.faultReason = r.code ∧ (faultStop s r).power.faultPin = true := by
  unfold faultStop
  have hn : ¬(s.power.phase = .off ∨ s.power.phase = .faultStop) := by rcases h with h | h <;> simp [h]
  rw [if_neg hn]
  extract_lets p t1 t2 t3 t4 p5 t5
  have h2 : Fr 16777214 t1 t2 := Fr.call fr_disableRings rfl (fr_foldl (Fr.refl _ _) fun v x hv => Fr.call fr_faultMoon rfl hv)
  have h3 : Fr 16777214 t1 t3 := fr_ite (fun _ => Fr.call fr_jMust rfl h2) (fun _ => h2)
  have h4 : Fr 16777214 t1 t4 := Fr.call fr_zeroise rfl h3
  have e := SamePower.fields (s := t1) (t := t4) (Fr.power24 h4 rfl)
  rw [announce_power, raisePf_power]
  exact ⟨e.1, e.2.1, rfl⟩

end Sys2Proof.Laws
end

