-- ==== Sys2Proof/Machine/Flags.lean ====
section
/-! DEFINITION. What reads of BAR0 and BAR4 return (R204 to R206, R349, R410, R412, R415, R416): the words of the function register page, of the moon pages
and of the ring register blocks, each flag in its place. -/

namespace Sys2Proof.Machine

/-- One bit of a word. -/
def flagBit (b : Bool) (i : Nat) : Nat := if b then 2 ^ i else 0

/-- FUNC_ID (R416): the moon, IS_PF, IF_VER 1. -/
def funcIdWord (fn : Nat) : Nat := fn + flagBit (fn == 0) 6 + 2 ^ 8

/-- The dictionary is live (R416, R465, R471). -/
def dictLive (s : State) : Bool :=
  match s.power.phase with
  | .off => false
  | .boot => decide (9 ≤ s.power.bootStep)
  | .up => true
  | .faultStop => true

/-- MOD_STATUS (R416, R467). -/
def modStatusWord (s : State) : Nat :=
  flagBit (isUp s) 0 + flagBit (dictLive s) 1 + flagBit (s.power.svcReqPin) 2 + flagBit (s.power.phase == .faultStop) 3 + powerCode s * 2 ^ 8

/-- EVQ_CFG (R416). -/
def evqCfgWord (f : Func) : Nat := f.evqLog2 + flagBit f.evqEnable 4

/-- EVQ_STATUS (R416). -/
def evqStatusWord (f : Func) : Nat := flagBit f.evqOverflow 0 + flagBit f.evqCfgErr 1

/-- STATE of MBX_STATUS (R416). -/
def mbxCode : MbxState → Nat
  | .idle => 0
  | .busy => 1
  | .done => 2

/-- MBX_STATUS (R416). -/
def mbxStatusWord (f : Func) : Nat := mbxCode f.mbx + flagBit f.mbxRefused 2 + f.rspLen * 2 ^ 16

/-- STATE of RING_STATUS (R206). -/
def ringStateCode : RingState → Nat
  | .disabled => 0
  | .running => 1
  | .halted => 2
  | .draining => 3

/-- RING_STATUS (R206). -/
def ringStatusWord (x : Ring) : Nat :=
  ringStateCode x.state + flagBit x.dbErr 2 + flagBit x.fail 3 + flagBit x.cfgErr 4 + flagBit x.cplErr 5

/-- RING_CFG (R205). -/
def ringCfgWord (x : Ring) : Nat := x.log2 + flagBit x.enable 5 + flagBit x.irqFail 6

/-- The 64 bytes of a ring register block (R204). -/
def ringBlock (x : Ring) : Bytes :=
  padTo (leBytes 8 x.base ++ leBytes 8 x.cplBase ++ leBytes 4 (ringCfgWord x) ++ leBytes 4 x.tail.toNat ++ leBytes 4 x.head.toNat ++
    leBytes 4 (ringStatusWord x) ++ leBytes 4 0 ++ leBytes 4 x.failSeq.toNat ++ leBytes 4 x.started.toNat) 64

/-- The function register page up to MBX_CTRL (R416). -/
def fnPage (s : State) (fn : Nat) : Bytes :=
  let f := getFn s fn
  leBytes 4 (funcIdWord fn) ++ leBytes 4 (modStatusWord s) ++ leBytes 8 f.evqBase ++ leBytes 4 (evqCfgWord f) ++ leBytes 4 f.evqTail.toNat ++
  leBytes 4 f.evqHead.toNat ++ leBytes 4 (evqStatusWord f) ++ leBytes 8 f.evqDropped ++ leBytes 4 0 ++ leBytes 4 (mbxStatusWord f) ++
  leBytes 4 (flagBit f.mbxIrq 0)

/-- A function may read the ring registers of a moon (R410, R412): the PF those of every moon, a VF its own. -/
def ringReadable (s : State) (fn m : Nat) : Bool := isUp s && decide (m < 64) && (fn == 0 || (vfOn s fn && fn == m))

/-- A moon page's bytes from an offset (R415); reserved offsets read 0. -/
def moonPage (s : State) (fn m o n : Nat) : Bytes :=
  if o < 0x400 then (if ringReadable s fn m then slice (ringBlock (getRing s m (o / 0x40))) (o % 0x40) n else List.replicate n 0)
  else if o < 0x410 then slice (leBytes 8 (tget s.host.winBase 0 m) ++ leBytes 8 (tget s.host.winDenied 0 m)) (o - 0x400) n
  else List.replicate n 0

/-- The bytes that a read of `n` bytes of BAR0 within one register or buffer returns (R415, R416). -/
def readBar0 (s : State) (fn o n : Nat) : Bytes :=
  if o < 0x1000 then slice (fnPage s fn) o n
  else if o < 0x2000 then memRead (getFn s fn).reqBuf (o - 0x1000) n
  else if o < 0x3000 then slice (getFn s fn).rspBuf (o - 0x2000) n
  else if 0x80000 ≤ o ∧ o < 0x90000 then memRead (getFn s fn).msixTable (o - 0x80000) n
  else if 0x90000 ≤ o ∧ o < 0x90100 then slice (leBytes 256 (maskOf (getFn s fn).pendingVecs)) (o - 0x90000) n
  else if 0x10000 ≤ o ∧ o < 0x50000 then
    (if fn = 0 then moonPage s 0 ((o - 0x10000) / 0x1000) (o % 0x1000) n
     else if o < 0x11000 then moonPage s fn fn (o % 0x1000) n else List.replicate n 0)
  else List.replicate n 0

/-! ## BAR4 (R349) -/

/-- The registers of the BAR4 window: SESSION, WIN_STATE, BUNDLE_BYTES, BUF_COUNT, BUF_LOG2; WIN_STATE is IDLE before Ready and in Fault-Stop
(R410). -/
def bar4Regs (s : State) : Bytes :=
  let owner := if isUp s then s.fetch.bar4Owner else none
  let job := owner.bind fun m => tfind s.fetch.jobs m
  leBytes 4 ((job.map fun j => j.cmd.fetchId).getD 0) ++ leBytes 4 (if owner.isSome then 1 else 0) ++
    leBytes 8 ((job.map fun j => j.cmd.bundleBytes).getD 0) ++ leBytes 4 63 ++ leBytes 4 22

/-- The bytes that a read of `n` bytes of BAR4 returns (R349): the registers, the descriptors, and all ones for the buffers, which are WO. -/
def readBar4 (s : State) (o n : Nat) : Bytes :=
  if o < 0x800 then slice (padTo (bar4Regs s) 0x800) o n
  else if o < 0x800 + 16 * 63 then slice (bufBytes (getBuf s ((o - 0x800) / 16))) ((o - 0x800) % 16) n
  else if 0x400000 ≤ o then List.replicate n 0xFF
  else List.replicate n 0

end Sys2Proof.Machine
end

