-- ==== Sys2Proof/WellFormed.lean ====
section
/-! DEFINITION. Well-formed commands: every number an operand carries lies in the range the spec gives it (R12, R22, R32, R223, R354). -/

namespace Sys2Proof.WellFormed

/-- Moons 0 to 63 (R223). -/
def okMoon (n : Nat) : Bool := n < 64
/-- Command rings 0 to 15 (R204) and the numbers 16 to 60 under which the model keeps the tasks of plans and the module's own transfers [13]. -/
def okRing (n : Nat) : Bool := n < 61
/-- Dies 0 to 3. -/
def okDie (n : Nat) : Bool := n < 4
/-- Logical cores of a die 0 to 127 (R21). -/
def okLc (n : Nat) : Bool := n < 128
/-- HBM stacks 0 to 7. -/
def okStack (n : Nat) : Bool := n < 8
/-- Channels of a stack 0 to 31 (R164). -/
def okChannel (n : Nat) : Bool := n < 32
/-- Window pages of a stack (R40). -/
def okPage (n : Nat) : Bool := n < 22888
/-- Link ports 0 to 31 (R354). -/
def okPort (n : Nat) : Bool := n < 32
/-- Management ports MGT_A and MGT_B (R445). -/
def okMgt (n : Nat) : Bool := n < 2
/-- Functions: the PF and VFs 1 to 63 (R411). -/
def okFn (n : Nat) : Bool := n < 64
/-- NumVFs up to TotalVFs (R411). -/
def okNumVfs (n : Nat) : Bool := n ≤ 63
/-- MSI-X vectors (R415). -/
def okVector (n : Nat) : Bool := n < 2048
/-- Model slots 0 to 15 (R265). -/
def okSlot (n : Nat) : Bool := n < 16
/-- Member entries 0 to 63 (R378). -/
def okEntry (n : Nat) : Bool := n < 64
/-- Barriers 0 to 255 (R384). -/
def okBarrier (n : Nat) : Bool := n < 256
/-- Bridges BR01, BR12, BR23, BR30, BR02, BR13 (R18). -/
def okBridge (n : Nat) : Bool := n < 6
/-- Module logical cores 0 to 511. -/
def okCore (n : Nat) : Bool := n < 512
/-- Arrays of a core 0 to 127 (R32). -/
def okArray (n : Nat) : Bool := n < 128
/-- Physical cell columns 0 to 8 (R34). -/
def okColumn (n : Nat) : Bool := n < 9
/-- Tensor tags (R79). -/
def okTag (n : Nat) : Bool := n < 256
/-- BAR4 buffers 0 to 62 (R349). -/
def okBuffer (n : Nat) : Bool := n < 63
/-- Parameter numbers (R428). -/
def okParam (n : Nat) : Bool := n < 65536
/-- Elements (R428). -/
def okElement (n : Nat) : Bool := n < 256
/-- 64-bit values. -/
def okU64 (n : Nat) : Bool := n < 2 ^ 64
/-- A role on a path that may claim it (R432). -/
def okWho (w : Who) : Bool :=
  match w.role, w.path with
  | .hostPf, .pf => true
  | .tenant, .vf n => 1 ≤ n && n < 64
  | .shepherd, .mgt p => p < 2
  | .shepherd, .link p => p < 32
  | .operatorKey, .pf => true
  | .operatorKey, .mgt p => p < 2
  | .operatorKey, .link p => p < 32
  | _, _ => false
/-- A flit's header fields in their widths (R359). -/
def okFlit (f : Flit) : Bool := f.vc < 4 && f.destMoon < 64 && f.srcMoon < 64 && f.destFabric < 65536 && f.srcFabric < 65536 && f.xfer < 4096
/-- An arrival names a moon, a barrier and a scope of R385. -/
def okArrive (m : ArriveMsg) : Bool := m.moon < 64 && m.barrier < 256 && m.scope < 3

end Sys2Proof.WellFormed

namespace Sys2Proof

open WellFormed

/-- Every operand of a command is in range. -/
def wellFormed (i : Instr) : Bool :=
  match i with
  | .substitutionStart x0 x1 _ => okDie x0 && okLc x1
  | .substitutionDone x0 x1 => okDie x0 && okLc x1
  | .fmtStatRead x0 x1 => okWho x0 && okTag x1
  | .gemm x0 x1 => okMoon x0 && okRing x1
  | .gemmPassDone x0 x1 _ x3 _ => okMoon x0 && okRing x1 && okCore x3
  | .arrayStatRead x0 x1 => okWho x0 && okDie x1
  | .arrayBackgroundTest x0 x1 => okDie x0 && okLc x1
  | .forcedArrayTest x0 x1 => okDie x0 && okLc x1
  | .arrayTestDone x0 x1 _ => okDie x0 && okLc x1
  | .softFuse x0 x1 x2 x3 => okDie x0 && okLc x1 && okArray x2 && okColumn x3
  | .chain x0 x1 => okMoon x0 && okRing x1
  | .chainStripDone x0 x1 _ x3 => okMoon x0 && okRing x1 && okCore x3
  | .cometRead x0 _ => okDie x0
  | .hbmTempSample x0 _ => okStack x0
  | .scrubScratchpad x0 _ _ => okCore x0
  | .scrubHbm x0 x1 _ _ => okStack x0 && okPage x1
  | .softRepairDone x0 _ => okStack x0
  | .pageRetireDone x0 x1 _ => okStack x0 && okPage x1
  | .bar2Read _ _ => true
  | .bar2Write _ _ => true
  | .memStatRead x0 x1 x2 => okWho x0 && okParam x1 && okElement x2
  | .taskFetch x0 x1 => okMoon x0 && okRing x1
  | .moveCopy x0 x1 _ => okMoon x0 && okRing x1
  | .moveFill x0 x1 => okMoon x0 && okRing x1
  | .transcode x0 x1 _ => okMoon x0 && okRing x1
  | .send x0 x1 => okMoon x0 && okRing x1
  | .syncSignal x0 x1 => okMoon x0 && okRing x1
  | .syncSet x0 x1 => okMoon x0 && okRing x1
  | .syncDump x0 x1 => okMoon x0 && okRing x1
  | .barrier x0 x1 => okMoon x0 && okRing x1
  | .alarm x0 x1 => okMoon x0 && okRing x1
  | .alarmFire x0 x1 _ => okMoon x0 && okRing x1
  | .notBeforeRelease x0 x1 => okMoon x0 && okRing x1
  | .taskCompletion x0 x1 _ => okMoon x0 && okRing x1
  | .completionRecordAck x0 x1 _ => okMoon x0 && okRing x1
  | .ringTail x0 x1 x2 _ => okFn x0 && okMoon x1 && okRing x2
  | .ringCfg x0 x1 x2 _ => okFn x0 && okMoon x1 && okRing x2
  | .ringCtrlResume x0 x1 x2 => okFn x0 && okMoon x1 && okRing x2
  | .ringCtrlReset x0 x1 x2 => okFn x0 && okMoon x1 && okRing x2
  | .taskStatRead x0 x1 => okWho x0 && okMoon x1
  | .create x0 x1 _ => okWho x0 && okMoon x1
  | .resize x0 x1 _ => okWho x0 && okMoon x1
  | .release x0 x1 _ => okWho x0 && okMoon x1
  | .suspend x0 x1 _ => okWho x0 && okMoon x1
  | .resume x0 x1 _ => okWho x0 && okMoon x1
  | .migrateOut x0 x1 _ => okWho x0 && okMoon x1
  | .migrateIn x0 x1 _ => okWho x0 && okMoon x1
  | .migrateReclaim x0 x1 _ => okWho x0 && okMoon x1
  | .moonCmdCancel x0 x1 _ => okWho x0 && okMoon x1
  | .moonCmdWhen x0 => okMoon x0
  | .resizeStepBoundary x0 => okMoon x0
  | .preemptionBoundary x0 x1 => okMoon x0 && okCore x1
  | .spillDone x0 => okMoon x0
  | .restoreDone x0 => okMoon x0
  | .map x0 x1 _ => okWho x0 && okMoon x1
  | .unmap x0 x1 _ => okWho x0 && okMoon x1
  | .protect x0 x1 _ => okWho x0 && okMoon x1
  | .replacePoisoned x0 x1 _ => okWho x0 && okMoon x1
  | .migratePeerConfirm x0 _ => okMoon x0
  | .precopyDone x0 => okMoon x0
  | .migrationHandover x0 => okMoon x0
  | .migrateStateReceived x0 _ => okMoon x0
  | .readyReceived x0 => okMoon x0
  | .goReceived x0 => okMoon x0
  | .runningReceived x0 => okMoon x0
  | .abortReceived x0 => okMoon x0
  | .migrateReadyTimeout x0 => okMoon x0
  | .migrateRunningTimeout x0 => okMoon x0
  | .migrateGoTimeout x0 => okMoon x0
  | .ledgerRead x0 x1 => okWho x0 && okMoon x1
  | .ledgerAck x0 x1 _ => okWho x0 && okMoon x1
  | .moonStatRead x0 x1 => okWho x0 && okMoon x1
  | .serveCtx x0 x1 x2 => okWho x0 && okMoon x1 && okU64 x2
  | .stepRun x0 x1 => okMoon x0 && okRing x1
  | .stepClose x0 x1 _ => okMoon x0 && okRing x1
  | .stepService x0 x1 => okMoon x0 && okRing x1
  | .follow x0 x1 => okMoon x0 && okRing x1
  | .followWorkList x0 x1 _ _ x4 => okMoon x0 && okRing x1 && okMoon x4.moon
  | .followReport x0 x1 _ _ => okMoon x0 && okRing x1
  | .spanTimeout x0 x1 _ => okMoon x0 && okRing x1
  | .swap x0 x1 x2 _ => okWho x0 && okMoon x1 && okSlot x2
  | .cancelSwap x0 x1 x2 _ => okWho x0 && okMoon x1 && okSlot x2
  | .unload x0 x1 x2 _ => okWho x0 && okMoon x1 && okSlot x2
  | .variantRetire x0 x1 x2 _ => okWho x0 && okMoon x1 && okSlot x2
  | .swapFire x0 x1 => okMoon x0 && okSlot x1
  | .serveStatRead x0 x1 => okWho x0 && okMoon x1
  | .pipeCtx x0 x1 x2 => okWho x0 && okMoon x1 && okU64 x2
  | .pipeStart x0 x1 => okWho x0 && okMoon x1
  | .pipeDrain x0 x1 => okWho x0 && okMoon x1
  | .pipeRetry x0 x1 => okWho x0 && okMoon x1
  | .pipeReset x0 x1 => okWho x0 && okMoon x1
  | .pipeCmdFwd x0 => okMoon x0
  | .pipeCmdBwd x0 => okMoon x0
  | .pipeCmdUpdate x0 => okMoon x0
  | .forwardProgramStart x0 => okMoon x0
  | .backwardProgramStart x0 => okMoon x0
  | .updateProgramStart x0 => okMoon x0
  | .forwardDone x0 => okMoon x0
  | .backwardDone x0 => okMoon x0
  | .updateDone x0 => okMoon x0
  | .deriveDone x0 _ => okMoon x0
  | .actRestoreDone x0 => okMoon x0
  | .gnsCfg x0 x1 _ => okWho x0 && okMoon x1
  | .gnsClose x0 x1 => okWho x0 && okMoon x1
  | .trainStatRead x0 x1 => okWho x0 && okMoon x1
  | .snapshot x0 x1 _ => okWho x0 && okMoon x1
  | .snapCancel x0 x1 _ => okWho x0 && okMoon x1
  | .snapAccept x0 x1 _ => okWho x0 && okMoon x1
  | .snapshotArm x0 => okMoon x0
  | .snapshotCapture x0 => okMoon x0
  | .snapshotDone x0 _ => okMoon x0
  | .toLearn x0 x1 _ => okWho x0 && okMoon x1
  | .toGenerate x0 x1 _ => okWho x0 && okMoon x1
  | .turnCancel x0 x1 _ => okWho x0 && okMoon x1
  | .turnSwitchFire x0 => okMoon x0
  | .turnDrainPoint x0 => okMoon x0
  | .turnPlanDone x0 => okMoon x0
  | .turnTimeout x0 => okMoon x0
  | .entropyTestFail x0 => okDie x0
  | .loadBase x0 x1 _ => okWho x0 && okMoon x1
  | .loadOverlay x0 x1 _ => okWho x0 && okMoon x1
  | .loadVariant x0 x1 _ => okWho x0 && okMoon x1
  | .attachShared x0 x1 _ => okWho x0 && okMoon x1
  | .dropShared x0 x1 _ => okWho x0 && okMoon x1
  | .fetchCancel x0 x1 _ => okWho x0 && okMoon x1
  | .fetchHeaderRead x0 _ _ _ => okMoon x0
  | .fetchChunkDone x0 _ => okMoon x0
  | .bar4Write _ _ => true
  | .bar4BufferFull x0 => okBuffer x0
  | .bar4Timeout x0 => okMoon x0
  | .linkSignalDetect x0 _ => okPort x0
  | .linkUp x0 _ => okPort x0
  | .bringUpTimeout x0 => okPort x0
  | .data x0 x1 => okPort x0 && okFlit x1
  | .chunkHdr x0 x1 _ => okPort x0 && okFlit x1
  | .delivered x0 x1 => okPort x0 && okFlit x1
  | .nack x0 x1 _ _ => okPort x0 && okFlit x1
  | .control x0 x1 _ _ => okPort x0 && okFlit x1
  | .credit x0 x1 _ => okPort x0 && okFlit x1
  | .creditSync x0 x1 _ _ => okPort x0 && okFlit x1
  | .sendChunkStart x0 x1 _ => okMoon x0 && okRing x1
  | .retrain x0 x1 => okWho x0 && okPort x1
  | .retrainDone x0 _ _ => okPort x0
  | .disable x0 x1 => okWho x0 && okPort x1
  | .enable x0 x1 => okWho x0 && okPort x1
  | .force112 x0 x1 => okWho x0 && okPort x1
  | .auto x0 x1 => okWho x0 && okPort x1
  | .linkTimeout x0 x1 _ => okMoon x0 && okRing x1
  | .linkStatRead x0 x1 => okWho x0 && okPort x1
  | .poll x0 _ => okPort x0
  | .answer x0 _ _ => okEntry x0
  | .pollMiss x0 => okEntry x0
  | .arrive x0 => okArrive x0
  | .barrierRelease _ x1 => okBarrier x1
  | .withdraw x0 => okArrive x0
  | .barrierTimeout x0 => okBarrier x0
  | .barrierDef x0 x1 _ => okWho x0 && okBarrier x1
  | .barrierMove x0 x1 _ => okWho x0 && okBarrier x1
  | .memberFabric x0 x1 _ => okWho x0 && okEntry x1
  | .sparesDeclared x0 _ => okWho x0
  | .packRole x0 _ => okWho x0
  | .refWindow _ => true
  | .orbitPpsSeconds x0 _ => okWho x0
  | .ptpSync _ _ => true
  | .beacon x0 _ => okPort x0
  | .delayReq x0 _ => okPort x0
  | .delayResp x0 _ _ _ _ => okPort x0
  | .orbitSource x0 _ => okWho x0
  | .orbitStatRead x0 => okWho x0
  | .packStatRead x0 => okWho x0
  | .gatewayResponse _ _ => true
  | .targetTimeout _ => true
  | .flr x0 => okFn x0
  | .vfEnableClear x0 => okNumVfs x0
  | .winBase x0 x1 _ _ => okFn x0 && okMoon x1
  | .ringWindowRead x0 x1 _ _ => okFn x0 && okMoon x1
  | .ringWindowWrite x0 x1 _ _ => okFn x0 && okMoon x1
  | .evqCfg x0 _ => okFn x0
  | .registerWrite x0 _ _ => okFn x0
  | .mbxDoorbell x0 _ => okFn x0
  | .msixUnmask x0 x1 => okFn x0 && okVector x1
  | .hostCplTimeout x0 _ => okMoon x0
  | .hostReadAborted _ => true
  | .read _ _ _ => true
  | .write _ _ _ => true
  | .describe _ _ _ => true
  | .stagingExpire x0 => okWho x0
  | .plcaBeaconTimeout p => okMgt p
  | .plcaBeacon p => okMgt p
  | .dictStatRead x0 => okWho x0
  | .startUp _ => true
  | .inputHigh _ => true
  | .inputLow _ => true
  | .regulator _ => true
  | .powerControlUpdate _ => true
  | .thermalEvaluate x0 _ => okDie x0
  | .coolantRead _ _ => true
  | .drain x0 => okWho x0
  | .undrain x0 => okWho x0
  | .powerStatRead x0 => okWho x0
  | .journalPageProgrammed _ => true
  | .compactNow x0 => okWho x0
  | .journalReset x0 => okWho x0
  | .svcClear x0 _ => okWho x0
  | .stage x0 _ => okWho x0
  | .fwStaged _ _ => true
  | .activate x0 _ => okWho x0
  | .commit x0 _ => okWho x0
  | .revert x0 _ => okWho x0
  | .fwSwapDone _ => true
  | .reloadStale x0 => okWho x0
  | .stop x0 => okWho x0
  | .hbmRecalWindow x0 x1 => okStack x0 && okChannel x1
  | .hbmRecalDone x0 _ => okStack x0
  | .recoveryImage _ => true
  | .coreHangTimeout x0 x1 => okDie x0 && okLc x1
  | .operatorKeyDigest x0 _ => okWho x0
  | .sessionOffer x0 => okWho x0
  | .keyOffer x0 x1 => okWho x0 && okMoon x1
  | .offerExpire _ => true
  | .sessionOpen x0 _ => okWho x0
  | .sessionProve x0 _ => okWho x0
  | .attestReport x0 x1 => okWho x0 && okMoon x1
  | .keyLoad x0 x1 _ => okWho x0 && okMoon x1
  | .generate x0 x1 => okWho x0 && okMoon x1
  | .erase x0 x1 => okWho x0 && okMoon x1
  | .dbgResponse _ => true
  | .extest _ => true
  | .samplePreload _ => true
  | .admissionDone x0 => okMoon x0
  | .powerFailRestart _ => true
  | .vfEnable x0 => okNumVfs x0
  | .hostDmaError x0 _ _ => okMoon x0
  | .bridgeFail x0 => okBridge x0
  | .ptpAnnounce _ _ => true
  | .ptpDelayResp _ => true
  | .schedTick => true
  | .billingMinuteClose => true
  | .ledgerSnap => true
  | .counters => true
  | .pollSend => true
  | .orphan => true
  | .ppsEdge => true
  | .refLoss => true
  | .ppsHoldover => true
  | .ptpSyncTimeout => true
  | .beaconSend => true
  | .beaconTimeout => true
  | .delayReqSend => true
  | .perstNDeassert => true
  | .hotReset => true
  | .powerFailDetect => true
  | .inputOv => true
  | .leak => true
  | .journalPageTimer => true
  | .compactAt => true
  | .compactionDone => true
  | .fwTrialExpire => true
  | .fwWatchdog => true
  | .dbgChallenge => true
  | .idcode => true
  | .bypass => true
  | .tapReset => true
  | .expelIntervalElapsed => true

end Sys2Proof
end

