-- ==== Sys2Proof/Tests/Slice0.lean ====
section
/-! SUPPORT. Tests: ill-formed terms that WellFormed refuses, worked examples of the spec, and for the statements of
Certificates/Slice0/Obligations.lean one state and operands each that meet the hypotheses of a clause, with what the command leaves. -/

open Sys2Proof Sys2Proof.Machine

set_option Elab.async false

namespace Sys2Proof.Tests

/-- A module in service with nothing in it. -/
def up : State := { State.reset with power := { State.reset.power with phase := .up, bootStep := 11 } }

/-- The command answers a next state with a property. -/
def leaves (r : Res) (p : State → Bool) : Bool := match r with | .next t => p t | _ => false

/-! ## The queue and the idle step -/

/-- A command at the front of the queue. -/
def queued : State := { up with pending := [.leak, .idcode] }

theorem test_step_front : queued.pending = Instr.leak :: [.idcode] ∧
    leaves (step queued) (fun t => decide (t.pending = [.idcode] ∧ t.power.leak = true)) = true := by decide +kernel

theorem test_step_idle : up.pending = [] ∧ dead up = false ∧ up.host.taken = [] ∧ up.dict.held = [] ∧ up.host.waiting = [] ∧ up.orbit.slew = 0 ∧
    leaves (step up) (fun t => decide (t.orbit.refNs = 1 ∧ t.orbit.now = 1)) = true := by decide +kernel

theorem test_bytes : memWf [] = true ∧ memRead (memWrite [] 4 [1, 0, 2]) 4 3 = [1, 0, 2] ∧ memWf (memWrite [] 4 [1, 0, 2]) = true := by
  decide

theorem test_step_keeps_memory : (∃ t, step up = .next t) ∧ Memory.wf up = true := ⟨⟨_, rfl⟩, by decide⟩

theorem test_no_power : State.reset.power.phase = .off ∧ exec .idcode State.reset = .next State.reset := ⟨rfl, rfl⟩

theorem test_power_frame : mayChangePower .idcode = false ∧ ∃ t, exec .idcode up = .next t := ⟨rfl, _, rfl⟩


/-! ## Worked examples of the spec, and the number formats -/

/-- R22, R25: module logical core 300 is LC44 of die 2, by default on PC46, and its nearest spare is PC50. -/
theorem test_example_core : physOf up 2 44 = 46 ∧ spareFor up 2 46 = some 50 := by decide +kernel

/-- R168: moon 5 reads MA 0x0100_0123_4567 through entry 9, stack 3, page 1,000. -/
theorem test_example_address : homeOf (setMoon up 5 { Moon.reset with state := .active, table := [(9, ⟨true, true, false, false, 3, 1000, 5⟩)] }) 5
    0x010001234567 true = .ok (.hbm 0x307D034567 5) := by rfl

/-- R225: the save area of 8 octets is 521 pages. R363: shares of 250 and 500 per mille are 896 and 1,792 flits. -/
theorem test_example_shares : savePages 8 = 521 ∧ guaranteed (setMoon up 3 { Moon.reset with state := .active, linkShare := 250 }) 3 = 896 ∧
    guaranteed (setMoon up 5 { Moon.reset with state := .active, linkShare := 500 }) 5 = 1792 := by decide +kernel

/-- The weight vector of the example of R73: 5.5, 1.3, −0.7, 0.2 and 28 zeros. -/
def weights : List Machine.Num := (([0x40B00000, 0x3FA66666, 0xBF333333, 0x3E4CCCCD] : List Nat) ++ List.replicate 28 0).map num32

theorem test_example_mxfp4 : (convVec 0x09 false false weights 0).bytes = [0x37, 0x09] ++ List.replicate 14 0 ∧
    (convVec 0x09 false false weights 0).scales = [0x7F] ∧ (convVec 0x09 false false weights 0).st = stUnf := by decide +kernel

theorem test_example_residual : (let b := toBlock 0x09 false weights 0
    resFlagged 0x09 b weights (num32 0x3D800000) 0 && (resBlock 0x09 false b weights 0).codes.take 5 == [0xE, 0xB, 0xB, 0x3, 0] &&
      (resBlock 0x09 false b weights 0).scale == 0x7C) = true := by decide +kernel

/-- R102: an FP32 accumulator of 2^127 that takes a product of 2^127 becomes +∞ with OVF. -/
theorem test_example_overflow : slotFp false ⟨.fin false 1 127, 0, 0⟩ [.fin false 1 127] = ⟨.inf false, tsOvf, 0⟩ := by decide +kernel

/-- R103: 2,147,479,576 and a product of 16,129 clamp with SAT; ten products of −16,129 bring it to 2,147,322,357. -/
theorem test_example_clamp : slotInt ⟨Machine.Num.ofInt 2147479576, 0, 0⟩ [Machine.Num.ofInt 16129] = ⟨Machine.Num.ofInt 2147483647, tsSat, 0⟩ ∧
    (slotInt ⟨Machine.Num.ofInt 2147483647, tsSat, 0⟩ (List.replicate 10 (Machine.Num.ofInt (-16129)))).val = Machine.Num.ofInt 2147322357 := by decide +kernel

/-- R326: b = 64, B = 1,024, L = 2.0 and G = 0.5 give 0.4 and 102.4. -/
theorem test_example_gns : (let g : GnsCfg := ⟨1, 2, true, 64, 1024, 0x3F000000, 64, 64, 4096, false⟩
    bits64 (gnsG2 g (Machine.Num.ofInt 2) (.fin false 1 (-1))) == 0x3FD999999999999A && bits64 (gnsS g (Machine.Num.ofInt 2) (.fin false 1 (-1))) == 0x405999999999999A)
    = true := by decide +kernel

/-- R451: a read of ORBIT_NOW at 10^15 ns answers this item. -/
theorem test_example_item : (let it : Item := { param := 0x2031, element := 0, type := 0, last := false, len := 0, offset := 0, value := [], rsv := false }
    let s := { up with orbit := { up.orbit with now := 1000000000000000, state := .locked } }
    reqItemBytes (.read, it) == [0x31, 0x20, 0, 1, 0, 0, 0, 0, 0, 0, 0, 0] &&
      rspItemBytes it (actItem s ⟨.shepherd, .mgt 0⟩ .all true .read it).2 ==
        [0x31, 0x20, 0, 0, 0x0A, 0, 8, 0, 0, 0, 0, 0, 0, 0x80, 0xC6, 0xA4, 0x7E, 0x8D, 3, 0]) = true := by decide +kernel

theorem test_formats_finite : fp16 ∈ elementFloats ∧ 0x7BFF < 2 ^ (1 + fp16.eb + fp16.mb) ∧ (decFloat fp16 0x7BFF).isFin = true ∧
    encFloat fp16 (decFloat fp16 0x7BFF) = 0x7BFF := by decide +kernel

theorem test_formats_round : e2m1.overflows false 13 (-3) = false ∧ (toFloat e2m1 false false (.fin false 13 (-3)) 0).val = .fin false 3 (-1) ∧
    e4m3.overflows false 1 9 = true ∧ toFloat e4m3 false true (.fin false 1 9) 0 = ⟨.nan, stOvf, 0⟩ := by decide +kernel

/-! ## Ill-formed terms -/

theorem test_wf_places : wellFormed (.gemm 64 0) = false ∧ wellFormed (.gemm 0 61) = false ∧ wellFormed (.softFuse 4 0 0 0) = false ∧
    wellFormed (.softFuse 0 128 0 0) = false ∧ wellFormed (.softFuse 0 0 128 0) = false ∧ wellFormed (.softFuse 0 0 0 9) = false ∧
    wellFormed (.hbmTempSample 8 0) = false ∧ wellFormed (.scrubHbm 0 22888 [] []) = false ∧ wellFormed (.hbmRecalWindow 0 32) = false := by decide

theorem test_wf_numbers : wellFormed (.serveCtx pfWho 0 (2 ^ 64)) = false ∧ wellFormed (.swapFire 0 16) = false ∧ wellFormed (.bar4BufferFull 63) = false ∧ wellFormed (.bringUpTimeout 32) = false ∧
    wellFormed (.plcaBeacon 2) = false ∧ wellFormed (.flr 64) = false ∧ wellFormed (.vfEnable 64) = false ∧ wellFormed (.msixUnmask 0 2048) = false ∧
    wellFormed (.pollMiss 64) = false ∧ wellFormed (.barrierTimeout 256) = false ∧ wellFormed (.bridgeFail 6) = false := by decide

theorem test_wf_roles : wellFormed (.fmtStatRead pfWho 256) = false ∧ wellFormed (.dictStatRead ⟨.tenant, .pf⟩) = false ∧
    wellFormed (.dictStatRead ⟨.tenant, .vf 0⟩) = false ∧ wellFormed (.memStatRead pfWho 65536 0) = false ∧ wellFormed (.memStatRead pfWho 0 256) = false ∧
    wellFormed (.gemmPassDone 0 0 0 512 ⟨0, 0, 0⟩) = false ∧ wellFormed (.withdraw ⟨0, 0, 3, 0, 0, 1⟩) = false ∧
    wellFormed (.data 0 { vc := 4, destMoon := 0, srcMoon := 0, destFabric := 0, srcFabric := 0, xfer := 0, seq := 0, ack := 0, retryReq := false
                          good := true, payload := [] }) = false := by decide

theorem test_wf_good : wellFormed (.gemm 63 15) = true ∧ wellFormed (.softFuse 3 127 127 8) = true ∧ wellFormed (.dictStatRead keyWho) = true := by decide

/-- The table gives no row bits, so no word spells a command. -/
theorem test_no_words : decodeTableWord 16 0x1234 = none ∧ State.reset.withFetchWord 16 0x1234 = State.reset := ⟨rfl, rfl⟩

/-! ## Cores, arrays, statistics, memory -/

/-- Moon 1 runs on the first octet of die 0, with one page of HBM mapped at its first MA page. -/
def m1 : State := setMoon up 1 { Moon.reset with
  state := .active, octets := [0], hbmPages := 4, table := [(0, ⟨true, true, false, false, 0, 5, 1⟩)] }

/-- A field substitution of logical core 3 onto physical core 16 waits on die 0. -/
def subWaits : State := { up with cores := { up.cores with subst := [⟨0, 3, 16, false, false⟩] } }

theorem test_nearest_spare : spareFor up 0 20 = some 33 ∧ pcDist 20 33 < pcDist 20 16 := by decide +kernel

theorem test_substitution_start : isUp subWaits = true ∧ atTaskBoundary subWaits 3 = true ∧
    subWaits.cores.subst.find? (fun x => x.die == 0) = some ⟨0, 3, 16, false, false⟩ ∧ (kennel subWaits 0).contains 16 = true ∧
    leaves (exec (.substitutionStart 0 3 false) subWaits) (fun t => t.cores.subst == [⟨0, 3, 16, false, true⟩]) = true := by decide +kernel

theorem test_reload_start : leaves (exec (.reloadStale pfWho) { up with fw := { up.fw with banks := [(0, { Bank.reset with mcode := 1 })] } })
    (fun s => s.cores.subst.isEmpty && (staleCores s 0).head? == some 0 && spareFor s 0 (physOf s 0 0) == some 16 &&
      atTaskBoundary s 0 && leaves (exec (.substitutionStart 0 0 true) s) (fun t => t.cores.subst == [⟨0, 0, 16, true, true⟩])) = true := by
  decide +kernel

/-- R24: with the kennel empty a stale core that has drained takes itself. -/
theorem test_reload_in_place : (let s := { up with
      fw := { up.fw with banks := [(0, { Bank.reset with mcode := 1 })] }
      cores := { up.cores with reloading := true, failed := kennel up 0 } }
    (staleCores s 0).head? == some 0 && spareFor s 0 (physOf s 0 0) == none && coreDrained s 0 && atTaskBoundary s 0 &&
      leaves (exec (.substitutionStart 0 0 true) s) (fun t => t.cores.subst == [⟨0, 0, 0, true, true⟩])) = true := by decide +kernel

theorem test_substitution_done : leaves (exec (.substitutionStart 0 3 false) subWaits)
    (fun s => isUp s && s.cores.subst.find? (fun b => b.die == 0 && b.lc == 3 && b.started) == some ⟨0, 3, 16, false, true⟩ &&
      leaves (exec (.substitutionDone 0 3) s) (fun t => physOf t 0 3 == 16 && t.journal.committed.any fun e => e.payload == .coreMap 0 3 16 0))
    = true := by decide +kernel

/-- A task of moon 1 runs on its first core. -/
def holding : State := { m1 with tasks := { m1.tasks with tasks :=
  [{ mkTask 1 0 0 (parseDesc (1 :: 1 :: List.replicate 62 0)) [] with phase := .running, cores := [0] }] } }

theorem test_core_hang : holdsTask holding 0 = true ∧
    leaves (exec (.coreHangTimeout 0 0) holding) (fun t => t.cores.failed.contains 0) = true := by decide +kernel

/-- R213: the task that ran on the hung core carries SUBSTITUTED. -/
theorem test_substituted : leaves (exec (.coreHangTimeout 0 0) { holding with tasks := { holding.tasks with
    tasks := holding.tasks.tasks.map fun t => { t with seen := t.cores } } }) (fun t => t.tasks.tasks.any fun x => cflags x == 8) = true := by
  decide +kernel

theorem test_scrub_scratchpad : physOf m1 0 0 ≠ 0xFF ∧ spmScrubDue m1 0 = true ∧ tget m1.cores.uncorrected [] 0 = [] ∧ tget m1.cores.corrected [] 0 = [] ∧
    leaves (exec (.scrubScratchpad 0 3 [7]) m1) (fun t => t.mem.ueSpm.contains 7) = true := by decide +kernel

/-- Core 0 of die 0 is under its background test. -/
def testing : State := { up with cores := { up.cores with testing := [0] } }

theorem test_array_background : testable up 0 0 = true ∧ atTaskBoundary up 0 = true ∧
    leaves (exec (.arrayBackgroundTest 0 0) up) (fun t => t.cores.testing == [0]) = true := by decide +kernel

theorem test_array_forced : (let s := { up with orbit := { up.orbit with refNs := 10 ^ 15 } }
    testable s 0 0 && decide (tget s.cores.testedAt 0 0 + testSeconds s * 1000000000 ≤ s.orbit.refNs) &&
      leaves (exec (.forcedArrayTest 0 0) s) (fun t => t.cores.testing.contains 1)) = true := by decide +kernel

theorem test_array_clean : isUp testing = true ∧ 2 * (128 * 0 + 0) ∈ testing.cores.testing ∧
    leaves (exec (.arrayTestDone 0 0 []) testing) (fun t => t.cores.testing.isEmpty) = true := by decide +kernel

theorem test_array_column : tget testing.cores.arrays .none (arrayKey 0 0 5) = .none ∧ testing.cores.fusePending = [] ∧
    leaves (exec (.arrayTestDone 0 0 [(5, 7)]) testing) (fun t => t.cores.fusePending == [(arrayKey 0 0 5, 7)]) = true := by decide +kernel

theorem test_soft_fuse : (let s := { up with cores := { up.cores with fusePending := [(arrayKey 0 0 5, 7)] } }
    atTaskBoundary s 0 && leaves (exec (.softFuse 0 0 5 7) s) (fun t => tget t.cores.arrays .none (arrayKey 0 0 5) == .column 7 &&
      t.cores.fusePending.isEmpty && t.journal.committed.any fun e => e.payload == .softFuse 0 0 5 7 1)) = true := by decide +kernel

theorem test_stat_clears : statRow up (.dictStatRead pfWho) = some ⟨pfWho, 0x0030, 0, true⟩ ∧ readStatus up pfWho 0x0030 0 = 0 ∧
    (groupOf 0x0030).isSome = true ∧ leaves (exec (.dictStatRead pfWho) up) (fun t => t.dict.answer.status == 0) = true := by decide +kernel

theorem test_stat_keeps : statRow m1 (.moonStatRead keyWho 1) = some ⟨keyWho, 0x6030, 1, false⟩ ∧ readStatus m1 keyWho 0x6030 1 = 0 := by
  decide +kernel

theorem test_fmt_stat_own : readStatus m1 pfWho 0x9100 3 = 0 ∧ selMoon m1 pfWho 0x9000 < 64 ∧ ownRole m1 pfWho (selMoon m1 pfWho 0x9000) = true :=
  by decide +kernel

theorem test_fmt_stat_other : readStatus m1 keyWho 0x9100 3 = 0 ∧ ownRole m1 keyWho (selMoon m1 keyWho 0x9000) = false := by decide +kernel

theorem test_counters_stick : pkey 0x5041 2 ∉ up.dict.stuckList ∧ param up 0x5041 2 + 1 < 2 ^ 64 ∧ 2 ^ 64 ≤ param up 0x5041 2 + 2 ^ 64 ∧
    pkey 0x5041 2 ∈ (incA up 0x5041 2 (2 ^ 64)).dict.stuckList := by decide +kernel

theorem test_addresses : (moonCores m1 1)[7]? = some 7 ∧ (moonCores m1 1).length ≤ 0x8000000 / 2 ^ 24 ∧
    entryOf m1 1 0 = some ⟨true, true, false, false, 0, 5, 1⟩ := by decide

theorem test_scratchpad_address : homeOf m1 1 (7 * 2 ^ 24 + 9) true = .ok (.spm (7 * 2 ^ 24 + 9)) := by rfl

theorem test_hbm_address : homeOf m1 1 0x10000000003 true = .ok (.hbm (5 * 2 ^ 21 + 3) 1) := by rfl

theorem test_band_up : bandOf up 0 ∈ [1, 2, 3, 4] ∧ leaves (exec (.hbmTempSample 0 95000) up) (fun t => bandOf t 0 == 3) = true := by
  decide +kernel

theorem test_band_stop : leaves (exec (.hbmTempSample 0 110000) up)
    (fun t => t.power.phase == .faultStop && t.power.faultReason == 5) = true := by decide +kernel

theorem test_scrub_hbm : isUp m1 = true ∧ 5 < windowPages ∧ 9 < 65536 ∧ scrubDue m1 (pageKey 0 5) = true := by decide

theorem test_soft_repair : (let s := setRow m1 3 { page := 5, ceTimes := [], soft := false, hard := false, rejected := false, holding := true }
    (getRow s 3).holding && leaves (exec (.softRepairDone 0 3) s) (fun t => (getRow t 3).soft && !(getRow t 3).holding)) = true := by
  decide +kernel

theorem test_page_retire : (let s := { m1 with mem := { m1.mem with retirePend := [7], pages := [(7, ⟨.free, 0⟩)] } }
    s.mem.retirePend.contains (pageKey 0 7) &&
      leaves (exec (.pageRetireDone 0 7 []) s) (fun t => t.mem.retirePend.isEmpty)) = true := by decide +kernel

/-- Page 5 of stack 0 belongs to moon 0, page 6 to another moon. -/
def bar2 : State := { up with mem := { up.mem with pages := [(5, ⟨.granted, 0⟩), (6, ⟨.granted, 2⟩)] } }

theorem test_bar2_read : 6 * 2 ^ 21 + 1 ≤ bar2.host.bar2Size ∧ bar2Waits bar2 (bar2Hpa bar2 (6 * 2 ^ 21 - 1)) 2 false = false ∧
    bar2Kinds bar2 (bar2Hpa bar2 (6 * 2 ^ 21 - 1)) 2 = [0, 2] ∧ pkey 0x4008 0 ∉ bar2.dict.stuckList ∧
    leaves (exec (.bar2Read (6 * 2 ^ 21 - 1) 2) bar2) (fun t => t.dict.answer.value == [0, 0xFF] && param t 0x4008 0 == 1) = true := by
  decide +kernel

theorem test_bar2_own : bar2Kinds bar2 (5 * 2 ^ 21) 1 = [0] ∧ Memory.wf bar2 = true ∧
    leaves (exec (.bar2Write (5 * 2 ^ 21) [7]) bar2) (fun t => memGet t.mem.hbm (5 * 2 ^ 21) == 7) = true := by decide +kernel

theorem test_bar2_other : bar2Kinds bar2 (6 * 2 ^ 21 + 256) 1 = [2] ∧ bar2Kind bar2 (6 * 2 ^ 21 + 256) ≠ 0 ∧
    leaves (exec (.bar2Write (6 * 2 ^ 21 + 256) [7]) bar2) (fun t => t.mem.hbm == []) = true := by decide +kernel

/-! ## Tasks and rings -/

/-- Ring 0 of moon 1 runs. -/
def r1 : State := setRing (setMoon up 1 { getMoon m1 1 with blocks := [2] }) 1 0
  { Ring.reset with state := .running, enable := true, log2 := 6, tail := 1, base := 0x10000000000, cplBase := 0x10000001000 }

/-- A descriptor of a kind for moon 1. -/
def desc (kind karg16 karg32 : Nat) : Desc :=
  { kind := kind, moon := 1, flags := 0, taskId := 0, notBefore := 0, wait0 := 0, wait1 := 0, sig0 := 0, sig1 := 0, w0Thresh := 0,
    w1Thresh := 0, s0Add := 0, s1Add := 0, coreMask := 0, ext := 0, extLines := 0, karg16 := karg16, karg32 := karg32 }

/-- The one task of ring 0 of moon 1. -/
def withTask (s : State) (t : Machine.Task) : State := { s with tasks := { s.tasks with tasks := [t] } }

/-- It has been fetched. -/
def fetched (d : Desc) (ext : Bytes) : State := withTask r1 (mkTask 1 0 0 d ext)

/-- An operand of one vector in format `fmt` at an MA (R190). -/
def opd (base fmt len : Nat) : Bytes :=
  leBytes 8 base ++ leBytes 16 0 ++ leBytes 4 len ++ leBytes 4 1 ++ leBytes 12 0 ++ leBytes 1 fmt ++ leBytes 19 0

/-- A GEMM of one element in FP32, written to its C (R192). -/
def gemmExt : Bytes :=
  leBytes 4 1 ++ leBytes 4 1 ++ leBytes 4 1 ++ leBytes 4 4 ++ leBytes 4 0x3F800000 ++ leBytes 44 0 ++ opd 0 0 1 ++ opd 64 0 1 ++ opd 128 0 1

/-- A CHAIN of one ADD over one row of two FP32 elements (R130, R131). -/
def chainExt : Bytes :=
  [1, 2, 1, 0] ++ leBytes 4 2 ++ leBytes 4 1 ++ leBytes 20 0 ++ leBytes 8 (1 + 1 * 2 ^ 13) ++ leBytes 88 0 ++ opd 0 0 2 ++ opd 64 0 2 ++ opd 128 0 2

/-- A MOVE of one FP32 element (R193). -/
def moveExt (mode : Nat) : Bytes := [BitVec.ofNat 8 mode, 0, 0, 0] ++ leBytes 4 0x01020304 ++ leBytes 24 0 ++ [0, 0, 1] ++ leBytes 29 0 ++
  opd 0 0 1 ++ opd 128 0 1

/-- 2.0 stands at MA 0 and 3.0 at MA 64, 4.0 after it. -/
def operands (s : State) : State :=
  { s with mem := { s.mem with spm := memWrite (memWrite [] 0 (leBytes 4 0x40000000)) 64 (leBytes 4 0x40400000 ++ leBytes 4 0x40800000) } }

theorem test_gemm_starts : (let s := fetched (desc 1 0 0) gemmExt
    (readyTask s 1 0 1).isSome && startRuns s 1 0 && !(descCores s 1 (desc 1 0 0)).isEmpty && firstCore s (mkTask 1 0 0 (desc 1 0 0) gemmExt) &&
    leaves (exec (.gemm 1 0) s) (fun t => phaseOf t 1 0 0 == some .running && (getRing t 1 0).started == 1)) = true := by decide +kernel

theorem test_gemm_pass : leaves (exec (.gemm 1 0) (operands (fetched (desc 1 0 0) gemmExt))) (fun s =>
    (findTask s 1 0 0).any (fun u => u.phase == .running && (u.work.find? (fun w => w.core == 0 && !w.susp)).any fun w =>
      match runTile s u 0 w with | .ok d => (parseGemm u.ext).rowstat == 0 && d.t.result != 1 | .error _ => false) && moonCore s 1 0 == some 0)
    = true := by decide +kernel

/-- The GEMM reads its A in HBM: a burst takes the whole of it. -/
theorem test_comet : leaves (exec (.gemm 1 0) (fetched (desc 1 0 0) (gemmExt.take 64 ++ opd 0x10000000000 0 1 ++ gemmExt.drop 128))) (fun s =>
    ((cometTasks s 0).flatMap (taskStreams s))[0]?.any fun x => !(cometAt s 0 x).stopped && x.bytes == 4 && cometBurst s x 0 == 4 &&
      (cometPage s 1 (x.addr 0)).isSome && bandOf s 0 != 4 && !inWindow s (5 * 2 ^ 21) && !bankHeld s (5 * 2 ^ 21) &&
      leaves (exec (.cometRead 0 0) s) (fun t => (cometAt t 0 x).pos == 4)) = true := by decide +kernel

theorem test_chain_starts : leaves (exec (.chain 1 0) (operands (fetched (desc 2 0 0) chainExt))) (fun s =>
    phaseOf s 1 0 0 == some .running && (getRing s 1 0).started == 1 &&
    leaves (exec (.chainStripDone 1 0 0 0) s) (fun t => memRead t.mem.spm 128 8 == leBytes 4 0x40A00000 ++ leBytes 4 0x40800000 &&
      phaseOf t 1 0 0 == some .done)) = true := by decide +kernel

theorem test_barrier_starts : (let s := { fetched (desc 6 0 9) [] with pack := { up.pack with role := 1, barriers :=
      [(9, ⟨⟨true, false, 0, [⟨0xFFFF, 1, 1⟩, ⟨5, 1, 1⟩], false⟩, 0, []⟩)] } }
    (readyTask s 1 0 6).isSome && moonRuns s 1 && !noCombiner s 0 && (getBarrier s 9).defn.valid &&
    leaves (exec (.barrier 1 0) s) (fun t => phaseOf t 1 0 0 == some .running && hasArrived t 1 0 9)) = true := by decide +kernel

theorem test_move_copy : leaves (exec (.moveCopy 1 0 []) (operands (fetched (desc 3 0 0) (moveExt 0)))) (fun t =>
    memRead t.mem.spm 128 4 == leBytes 4 0x40000000 && phaseOf t 1 0 0 == some .done) = true := by decide +kernel

theorem test_move_fill : leaves (exec (.moveFill 1 0) (fetched (desc 3 0 0) (moveExt 1))) (fun t =>
    memRead t.mem.spm 128 4 == [4, 3, 2, 1] && phaseOf t 1 0 0 == some .done) = true := by decide +kernel

theorem test_transcode : leaves (exec (.transcode 1 0 []) (operands (fetched (desc 3 0 0) (moveExt 2)))) (fun t =>
    memRead t.mem.spm 128 4 == leBytes 4 0x40000000 && phaseOf t 1 0 0 == some .done) = true := by decide +kernel

theorem test_send : (let s := fetched (desc 3 0 0) (moveExt 3)
    (startMove s 1 0 3).isSome && leaves (exec (.send 1 0) s) (fun t => t.links.tx.length == 1 && t.links.nextXfer == 1)) = true := by decide +kernel

/-- A published SYNC descriptor with a kind at ring base. -/
def published (kind : Byte) : State :=
  { r1 with mem := { r1.mem with hbm := memWrite [] (5 * 2 ^ 21) (kind :: 1 :: List.replicate 62 0) } }

theorem test_fetch_good : (getRing (published 4) 1 0).state = .running ∧ oldestUnstarted (published 4) 1 0 = none ∧
    nextFetch (published 4) 1 0 ≠ (getRing (published 4) 1 0).tail ∧
    leaves (exec (.taskFetch 1 0) (published 4)) (fun t => phaseOf t 1 0 0 == some .fetched) = true := by decide +kernel

theorem test_fetch_bad : leaves (exec (.taskFetch 1 0) (published 9)) (fun t =>
    (getRing t 1 0).state == .halted && (getRing t 1 0).fail && (getRing t 1 0).started == 1) = true := by decide +kernel

theorem test_sync_signal : (let s := fetched (desc 4 0 0) []
    (readyTask s 1 0 4).isSome && moonSyncs s 1 && leaves (exec (.syncSignal 1 0) s) (fun t => phaseOf t 1 0 0 == some .recorded)) = true := by
  decide +kernel

/-- A task with a descriptor that signals 5 to its moon's object 3. -/
def signals (d : Desc) : Machine.Task := mkTask 1 0 0 { d with flags := d.flags + 32, sig0 := 3, s0Add := 5 } []

theorem test_signals : PlainSignal (signals (desc 4 0 0)) ∧
    leaves (exec (.syncSignal 1 0) (withTask r1 (signals (desc 4 0 0)))) (fun t => getObj t 515 == ⟨5, false⟩) = true ∧
    leaves (exec (.syncSignal 1 0) (setObj (withTask r1 (signals (desc 4 0 0))) 515 ⟨2147483647, true⟩)) (fun t =>
      getObj t 515 == ⟨2147483647, true⟩ && (findTask t 1 0 0).map Task.sigOvf == some true) = true :=
  ⟨⟨rfl, rfl, rfl, rfl, rfl⟩, by decide +kernel, by decide +kernel⟩

theorem test_sync_set : (let s := fetched (desc 4 1 0xFFFFFFFE) []
    (readyTask s 1 0 4).isSome && objNum s 1 0 == some 512 && !addsDue s 1 (setObjects (desc 4 1 0xFFFFFFFE)) && leaves (exec (.syncSet 1 0) s) (fun t => getObj t 512 == ⟨-2, false⟩)) = true := by
  decide +kernel

theorem test_sync_dump : (let s := fetched { desc 4 2 0 with ext := 0x10000000000, extLines := 17 } []
    (readyTask s 1 0 4).isSome && (checkWrite s 1 20 0x10000000000 1056).map Fail.code != some 0 &&
      leaves (exec (.syncDump 1 0) s) (fun t => phaseOf t 1 0 0 == some .recorded && (getRing t 1 0).started == 1)) = true := by decide +kernel

theorem test_alarm_arms : (let s := fetched { desc 7 0 0 with flags := 1, notBefore := 9 } []
    (readyTask s 1 0 7).isSome && alarmFree s 1 && leaves (exec (.alarm 1 0) s) (fun t => phaseOf t 1 0 0 == some .armed)) = true := by
  decide +kernel

theorem test_alarm_waits : (let s := setParam (fetched { desc 7 0 0 with flags := 1, notBefore := 9 } []) 0x6121 1 0
    (readyTask s 1 0 7).isSome && !alarmFree s 1 && leaves (exec (.alarm 1 0) s) (fun t => (findTask t 1 0 0).map Task.alarmWait == some true)) = true
    := by decide +kernel

/-- Orbit is LOCKED at 10. -/
def locked (s : State) : State := { s with orbit := { s.orbit with state := .locked, now := 10 } }

theorem test_alarm_fires : (let s := locked (withTask r1 { mkTask 1 0 0 { desc 7 0 0 with flags := 1, notBefore := 9 } [] with phase := .armed })
    !earlierDue s 7 9 && leaves (exec (.alarmFire 1 0 0) s) (fun t => phaseOf t 1 0 0 == some .recorded && decide (alarmsHeld t none < alarmsHeld s none))) = true := by
  decide +kernel

theorem test_alarm_signals : (let s := locked (withTask r1 { signals { desc 7 0 0 with flags := 1, notBefore := 9 } with phase := .armed })
    s.tasks.tasks.all (fun u => !alarmFirst s u) && leaves (exec (.alarmFire 1 0 0) s) (fun t => getObj t 515 == ⟨5, false⟩)) = true := by decide +kernel

theorem test_not_before : (let s := locked (fetched { desc 4 0 0 with flags := 1, notBefore := 9 } [])
    (oldestUnstarted s 1 0).isSome && !earlierDue s 8 9 && leaves (exec (.notBeforeRelease 1 0) s) (fun t => (findTask t 1 0 0).map Task.released == some true)) = true
    := by decide +kernel

theorem test_completion : (let s := withTask r1 { mkTask 1 0 0 (desc 2 0 0) [] with phase := .done }
    leaves (exec (.taskCompletion 1 0 0) s) (fun t => phaseOf t 1 0 0 == some .recorded &&
      leaves (exec (.completionRecordAck 1 0 0) t) (fun v => (getRing v 1 0).head == 1 && (ringTasks v 1 0).isEmpty))) = true := by decide +kernel

theorem test_completion_signals : (let s := withTask r1 { signals (desc 2 0 0) with phase := .done }
    leaves (exec (.taskCompletion 1 0 0) s) (fun t => getObj t 515 == ⟨5, false⟩)) = true := by decide +kernel

theorem test_ring_tail : ringAccess r1 0 1 = true ∧ ((2 : W32) - (getRing r1 1 0).head).toNat ≤ 2 ^ (getRing r1 1 0).log2 ∧
    leaves (exec (.ringTail 0 1 0 2) r1) (fun t => (getRing t 1 0).tail == 2) = true := by decide +kernel

theorem test_ring_tail_bad : 2 ^ (getRing r1 1 0).log2 < ((65 : W32) - (getRing r1 1 0).head).toNat ∧
    leaves (exec (.ringTail 0 1 0 65) r1) (fun t => (getRing t 1 0).dbErr && (getRing t 1 0).tail == 1) = true := by decide +kernel

/-- Ring 1 of moon 1 has its bases. -/
def ringOff : State := setRing r1 1 1 { Ring.reset with base := 0x10000000000, cplBase := 0x10000001000, tail := 3 }

theorem test_ring_enable : (getRing ringOff 1 1).enable = false ∧ (38 : W32).toNat.testBit 5 = true ∧
    leaves (exec (.ringCfg 0 1 1 38) ringOff) (fun t => (getRing t 1 1).state == .running && (getRing t 1 1).head == 3) = true := by decide +kernel

theorem test_ring_cfg_bad : ringCfgOk ringOff 1 { getRing ringOff 1 1 with irqFail := false, log2 := 5 } = false ∧
    leaves (exec (.ringCfg 0 1 1 37) ringOff) (fun t => (getRing t 1 1).cfgErr && !(getRing t 1 1).enable) = true := by decide +kernel

theorem test_ring_resume : (let s := setRing r1 1 0 { getRing r1 1 0 with state := .halted }
    leaves (exec (.ringCtrlResume 0 1 0) s) (fun t => (getRing t 1 0).state == .running)) = true := by decide +kernel

theorem test_ring_reset : (let s := withTask r1 { mkTask 1 0 0 (desc 2 0 0) [] with phase := .running }
    (getRing s 1 0).tail == nextFetch s 1 0 && leaves (exec (.ringCtrlReset 0 1 0) s) (fun t => (getRing t 1 0).state == .draining)) = true := by
  decide +kernel

/-! ## Moons -/

/-- A moon command that names octet 3, four pages, one block and a link share of 5 (R226). -/
def mc : MoonCmd :=
  { pool := false, privileged := false, whenEn := false, syncBlocks := 1, share := 100, linkShare := 5, whenOrbit := 0, octets := 8,
    hbmPages := 4, poolCount := 0, peer := 7, ports := 1, peerMoon := 2, rsv := false }

/-- A command that changes nothing but the octets. -/
def keepCmd : MoonCmd := { mc with syncBlocks := 2 ^ 16 - 1, share := 2 ^ 16 - 1, linkShare := 2 ^ 16 - 1, hbmPages := 2 ^ 32 - 1, poolCount := 255 }

/-- The hypotheses of TakenAtOnce, for the PF. -/
def taken (s : State) (m : Nat) (op : MoonOp) (c : MoonCmd) : Bool :=
  writeStatus s pfWho 0x6000 m == 0 && (getMoon s m).job.isNone && !moonCmdBad op c (getMoon s m).pool && opAllowed (getMoon s m).state op &&
    (!c.whenEn || op == .migrateOut)

/-- Moon 1 changed. -/
def moon1 (f : Moon → Moon) : State := modMoon m1 1 f

/-- Moon 1 in a state of a live migration, its time limit past. -/
def migrating (st : MoonState) (g : MigPhase) : State := moon1 fun x => { x with state := st, prev := .active, mig := g, migCmd := some mc }

/-- Moon 3's key slot holds a key. -/
def keyed : State := { up with sec := { up.sec with slots := [(3, ⟨some [], false, 0⟩)] } }

theorem test_create : taken keyed 3 .create mc = true ∧ keyed.power.draining = false ∧
    admitCheck (cmdRunning keyed pfWho 3 .create mc) 3 mc = 0 := by decide +kernel

theorem test_migrate_in : taken keyed 3 .migrateIn mc = true ∧ admitCheck (cmdRunning keyed pfWho 3 .migrateIn mc) 3 mc = 0 := by decide +kernel

/-- A moon's command runs, with its record. -/
def jobRuns (op : MoonOp) (x : Moon) : Moon := { x with job := some ⟨op, keepCmd, pfWho, true⟩ }

theorem test_admission_done : leaves (exec (.admissionDone 1) (moon1 fun x => jobRuns .create { x with state := .admitting })) (fun t =>
      (getMoon t 1).state == .active && (getMoon t 1).job.isNone) = true ∧
    leaves (exec (.admissionDone 1) (moon1 fun x => jobRuns .migrateIn { x with state := .admitting })) (fun t =>
      (getMoon t 1).state == .arriving) = true := by decide +kernel

theorem test_resize : taken m1 1 .resize keepCmd = true ∧
    resizeCheck (cmdRunning m1 pfWho 1 .resize keepCmd) 1 (resizePlan (getMoon m1 1) keepCmd) = 0 ∧
    leaves (exec (.resize pfWho 1 keepCmd) m1) (fun s => (getMoon s 1).state == .resizing && (getMoon s 1).prev == .active) = true := by decide +kernel

theorem test_resize_boundary : (let s := moon1 fun x => jobRuns .resize { x with state := .resizing, prev := .active }
    (getMoon s 1).swap == .none && atBoundary s 1 && !(getMoon s 1).pool && !(getMoon s 1).spilled &&
      resizeCheck s 1 (resizePlan (getMoon s 1) keepCmd) == 0) = true := by decide +kernel

theorem test_release : taken m1 1 .release mc = true ∧ pagesShared (cmdRunning m1 pfWho 1 .release mc) 1 = false ∧
    leaves (exec (.release pfWho 1 mc) m1) (fun t => (getMoon t 1).state == .free && (getMoon t 1).octets.isEmpty) = true := by decide +kernel

theorem test_suspend_resume : taken m1 1 .suspend mc = true ∧ leaves (exec (.suspend pfWho 1 mc) m1) (fun s =>
    (getMoon s 1).state == .suspended && (getMoon s 1).swap == .spilling && spillReady s 1 && leaves (exec (.spillDone 1) s) (fun t =>
      (getMoon t 1).spilled && (getMoon t 1).swap == .none && taken t 1 .resume mc && !(getMoon t 1).displaced &&
      leaves (exec (.resume pfWho 1 mc) t) (fun u => (getMoon u 1).swap == .restoring &&
        leaves (exec (.restoreDone 1) u) (fun v => (getMoon v 1).state == .active && !(getMoon v 1).spilled)))) = true := by decide +kernel

theorem test_migrate_out : taken m1 1 .migrateOut mc = true ∧ pagesShared (cmdRunning m1 pfWho 1 .migrateOut mc) 1 = false ∧
    leaves (exec (.migrateOut pfWho 1 mc) m1) (fun t => (getMoon t 1).state == .migrating && (getMoon t 1).migCmd == some mc) = true := by decide +kernel

theorem test_reclaim : (let s := migrating .moved .uncertain
    taken s 1 .reclaim mc && leaves (exec (.migrateReclaim pfWho 1 mc) s) (fun t => (getMoon t 1).state == .suspended)) = true := by decide +kernel

theorem test_when_and_cancel : (let c := { mc with whenEn := true, whenOrbit := 9 }
    writeStatus m1 pfWho 0x6000 1 == 0 && leaves (exec (.suspend pfWho 1 c) m1) (fun t => (getMoon t 1).job == some ⟨.suspend, c, pfWho, false⟩ &&
      leaves (exec (.moonCmdWhen 1) (locked t)) (fun u => (getMoon u 1).state == .suspended) &&
      leaves (exec (.moonCmdCancel pfWho 1 mc) t) (fun u => (getMoon u 1).job.isNone && (getMoon u 1).status == 0x903))) = true := by decide +kernel

theorem test_cancel_nothing : writeStatus m1 pfWho 0x6000 1 = 0 ∧ (getMoon m1 1).job = none ∧
    leaves (exec (.moonCmdCancel pfWho 1 mc) m1) (fun t => (getMoon t 1).status == 0x20904) = true := by decide +kernel

theorem test_cancel_late : (let s := moon1 fun x => jobRuns .resize { x with state := .resizing, prev := .active }
    resizeDue s 1 && leaves (exec (.moonCmdCancel pfWho 1 mc) s) (fun t => (getMoon t 1).status == 0x20904 && (getMoon t 1).job.isSome)) = true ∧
    (let s := moon1 fun x => jobRuns .suspend { x with state := .suspended }
    !opAllowed (getMoon s 1).state .cancel && leaves (exec (.moonCmdCancel pfWho 1 mc) s) (fun t => t.dict.answer.status == 8)) = true := by
  decide +kernel

/-- A pool moon that waits with a published task; the pool has octets 2 and 5. -/
def pooled : State :=
  let s := setRing (setMoon up 1 { Moon.reset with state := .waiting, pool := true, poolCount := 1 }) 1 0
    { Ring.reset with state := .running, enable := true, log2 := 6 }
  withTask (setParam s 0x6005 0 0x24) (mkTask 1 0 0 (desc 4 0 0) [])

theorem test_pool_tick : tickDue pooled = true ∧ runnableNow pooled 1 = true ∧ bitsOf (param pooled 0x6005 0) 64 = [2, 5] ∧
    leaves (exec .schedTick pooled) (fun t => (getMoon t 1).octets == [2] && (getMoon t 1).swap == .restoring) = true := by decide +kernel

theorem test_preemption : leaves (exec (.chain 1 0) (operands (fetched (desc 2 0 0) chainExt))) (fun t =>
    let u := modMoon t 1 fun x => { x with state := .suspended, swap := .spilling }
    (boundaryTasks u 1 0).map (fun x => x.desc.kind) == [2] && (moonCore u 1 0).isSome &&
      leaves (exec (.preemptionBoundary 1 0) u) (fun v => v.tasks.tasks.any Machine.Task.preempted)) = true := by decide +kernel

/-- A pass of FP32 elements with a segment after the one that runs stops. -/
theorem stop_pass_some {s : State} {t : Machine.Task} {core : Nat} {w : WorkUnit} {x : Pass} (h : readPass s t core w = .ok x)
    (k : x.rate = 0 ∧ x.aF = [] ∧ x.bF = [] ∧ w.slots / segmentSlots < (3 * (parseGemm t.ext).k - 1) / segmentSlots) :
    stopPass s t core w ≠ none := by
  obtain ⟨h1, h2, h3, h4⟩ := k
  have h5 : passSlots (parseGemm t.ext) x.rate x.aF x.bF = 3 * (parseGemm t.ext).k := by simp [passSlots, h1, h2, h3]
  simp only [stopPass, h, h5, if_neg (Nat.not_le.2 h4)]
  exact fun c => nomatch c

/-- R104: a pass of 4,098 slots has a segment after its first. -/
def longGemm : Bytes := leBytes 8 0x100000001 ++ leBytes 4 1366 ++ leBytes 4 4 ++ leBytes 4 0x3F800000 ++ leBytes 44 0 ++ opd 0 0 1366 ++
  opd 8192 0 1366 ++ opd 16384 0 1

theorem test_gemm_preempted : leaves (exec (.gemm 1 0) (fetched (desc 1 0 0) longGemm)) (fun t =>
    let u := modMoon t 1 fun x => { x with state := .suspended, swap := .spilling }
    (boundaryTasks u 1 0).any fun x => x.desc.kind == 1 && (x.work.find? (fun w => w.core == 0 && !w.susp)).any fun w =>
      match readPass u x 0 w with
      | .ok y => decide (y.rate = 0 ∧ y.aF = [] ∧ y.bF = [] ∧ w.slots / segmentSlots < (3 * (parseGemm x.ext).k - 1) / segmentSlots)
      | .error _ => false) = true := by decide +kernel

/-- A request for one page from MA index `i`. -/
def pr (i : Nat) : PageReq := { permR := true, permW := false, stackPref := 0xFF, first := i, count := 1, rsv := false }

theorem test_map : writeStatus m1 pfWho 0x6020 1 = 0 ∧ reqBad (pr 2) = false ∧ (getMoon m1 1).state ≠ .free ∧ entryOf m1 1 2 = none ∧
    mappedCount m1 1 + 1 ≤ (getMoon m1 1).hbmPages := by decide +kernel

theorem test_grants : (grantPages m1 1 .granted (mapStacks m1 1 0xFF) 1).2.length = 1 := by decide +kernel

theorem test_unmap : (∀ e, entryOf m1 1 0 = some e → mappedElsewhere m1 1 (pageKey e.stack e.page) = false ∧
    baseHeld m1 1 (pageKey e.stack e.page) = false) ∧
    leaves (exec (.unmap pfWho 1 (pr 0)) m1) (fun t => (entryOf t 1 0).isNone && (getMoon t 1).pageReq == 0x203) = true :=
  ⟨fun e h => by cases h; exact ⟨by decide, by decide⟩, by decide +kernel⟩

theorem test_protect : leaves (exec (.protect pfWho 1 (pr 0)) m1) (fun t => (entryOf t 1 0).any fun e => e.r && !e.w) = true := by decide +kernel

theorem test_replace_poisoned : reqBad (pr 0) = false ∧ writeStatus m1 pfWho 0x6020 1 = 0 ∧ entryOf m1 1 0 ≠ none := by decide +kernel

theorem test_peer_confirm : leaves (exec (.migratePeerConfirm 1 ⟨true, 0⟩) (migrating .migrating .none)) (fun t => (getMoon t 1).mig == .precopy) = true ∧
    leaves (exec (.migratePeerConfirm 1 ⟨false, 0⟩) (migrating .migrating .none)) (fun t => (getMoon t 1).state == .active) = true := by decide +kernel

theorem test_precopy : migWhen (getMoon (migrating .migrating .precopy) 1) = false ∧ roundDone (migrating .migrating .precopy) 1 = true ∧
    leaves (exec (.precopyDone 1) (migrating .migrating .precopy)) (fun t => [.handover, .stateSent].contains (getMoon t 1).mig) = true := by
  decide +kernel

theorem test_handover : (let s := locked (modMoon (migrating .migrating .precopy) 1 fun x => { x with migCmd := some { mc with whenEn := true } })
    leaves (exec (.migrationHandover 1) s) (fun t => [.handover, .stateSent].contains (getMoon t 1).mig)) = true := by decide +kernel

theorem test_ready : leaves (exec (.readyReceived 1) (migrating .migrating .stateSent)) (fun t => (getMoon t 1).state == .moved &&
    leaves (exec (.runningReceived 1) t) (fun u => (getMoon u 1).state == .free)) = true := by decide +kernel

theorem test_state_received : isUp (migrating .arriving .arriving) = true ∧ (getMoon (migrating .arriving .arriving) 1).mig = .arriving := by
  decide +kernel

theorem test_go : leaves (exec (.goReceived 1) (migrating .arriving .installed)) (fun t => (getMoon t 1).state == .active) = true ∧
    leaves (exec (.abortReceived 1) (migrating .arriving .installed)) (fun t => (getMoon t 1).state == .free) = true := by decide +kernel

theorem test_migration_limits : leaves (exec (.migrateReadyTimeout 1) (migrating .migrating .handover)) (fun t => (getMoon t 1).state == .active) = true ∧
    leaves (exec (.migrateRunningTimeout 1) (migrating .moved .awaitRunning)) (fun t => (getMoon t 1).mig == .uncertain) = true ∧
    leaves (exec (.migrateGoTimeout 1) (migrating .arriving .installed)) (fun t => (getMoon t 1).mig == .uncertain) = true := by decide +kernel

/-- A ledger record of moon 1 with a number. -/
def lr (n : Nat) : LedgerRec := ⟨.ofNat 32 n, 1, 1, 0, 0, 60000000000, 0, 0, 0, 0, 0⟩

/-- Two records stand, the span is open, and a minute has passed. -/
def minute : State := (let s := moon1 fun x => { x with ledger := { x.ledger with spanOpen := true, records := [lr 1, lr 2], recSeq := 3 } }
  { s with orbit := { s.orbit with now := 60000000005, state := .locked } })

theorem test_ledger_read : readStatus minute pfWho 0x7020 1 = 0 ∧ leaves (exec (.ledgerRead pfWho 1) minute) (fun t =>
    t.dict.answer.value == ledgerBytes (lr 1) false) = true ∧
    leaves (exec (.ledgerRead pfWho 1) m1) (fun t => t.dict.answer.value == List.replicate 64 0) = true := by decide +kernel

theorem test_ledger_ack : writeStatus minute pfWho 0x7021 1 = 0 ∧
    leaves (exec (.ledgerAck pfWho 1 1) minute) (fun t => (getMoon t 1).ledger.records == [lr 2]) = true ∧
    leaves (exec (.ledgerAck pfWho 1 9) minute) (fun t => t.dict.answer.status == 7 && (getMoon t 1).ledger.records == [lr 1, lr 2]) = true := by
  decide +kernel

theorem test_minute : minuteDue minute (getMoon minute 1) = true ∧
    leaves (exec .billingMinuteClose minute) (fun t => (getMoon t 1).ledger.records.length == 3 && (getMoon t 1).ledger.startOrbit == 60000000000) = true := by
  decide +kernel

theorem test_ledger_snap : (let s := moon1 fun x => { x with ledger := { x.ledger with spanOpen := true, txBytes := 7 } }
    let s := { s with orbit := { s.orbit with refNs := 1000000000 } }
    !(changedTotals s).isEmpty && leaves (exec .ledgerSnap s) (fun t => t.journal.seq == 1)) = true := by decide +kernel

/-! ## Serving -/

/-- Bytes at an offset of moon 1's one page. -/
def poke (s : State) (o : Nat) (b : Bytes) : State := { s with mem := { s.mem with hbm := memWrite s.mem.hbm (5 * 2 ^ 21 + o) b } }

/-- The MA of an offset of that page. -/
def ma (o : Nat) : Nat := hbmRegion + o

/-- A serving context with rings of 64 entries and no pages (R258). -/
def ctxBytes : Bytes := [1, 0, 6, 6] ++ leBytes 4 0 ++ leBytes 8 (ma 0x4000) ++ leBytes 8 (ma 0x8000) ++ leBytes 16 0 ++ leBytes 8 hbmRegion ++ leBytes 80 0

/-- A plan of one SYNC task at offset 0x10000 (R270). -/
def withPlan (s : State) : State :=
  poke s 0x10000 (leBytes 2 1 ++ leBytes 2 1 ++ leBytes 12 0 ++ leBytes 8 (ma 0x10040) ++ leBytes 40 0 ++ [4, 1] ++ leBytes 62 0)

/-- Moon 1 changed in its serving. -/
def serve1 (s : State) (f : Serve → Serve) : State := { s with serve := [(1, f (getServe s 1))] }

/-- A version of slot 0. -/
def ver (k : VersionKind) : Version := { number := 1, kind := k, manifest := [], overlay := [], derived := false, shared := none, vocab := 1,
                                         layers := 1, kvTpp := 1, maxCtx := 1, span := false, pages := [], followers := [] }

/-- Slot 0 is READY with a CURRENT version and the context is installed. -/
def served (s : State) : State := serve1 (withPlan (poke s 0x2000 ctxBytes)) fun v =>
  { v with ctxMa := ma 0x2000, ctx := some (parseCtx ctxBytes), slots := [(0, { Slot.reset with state := .ready, versions := [ver .current], lastVersion := 1 })] }

/-- A STEP record of a mode (R267). -/
def stepExt (mode : Nat) : Bytes := leBytes 4 mode ++ leBytes 4 0 ++ leBytes 8 (ma 0x10000) ++ leBytes 8 (ma 0x20000) ++ leBytes 40 0

/-- A STEP task has been fetched. -/
def stepping (mode : Nat) : State := served (fetched (desc 5 0 0) (stepExt mode))

/-- Its step runs on slot 0, and its plan has completed. -/
def stepRuns (mode : Nat) (got : Bool) (followers : List (Nat × Nat × Nat)) : State :=
  serve1 (served (withTask r1 { mkTask 1 0 0 (desc 5 0 0) (stepExt mode) with phase := .running })) fun v =>
    { v with runs := [{ ring := 0, seq := 0, slot := 0, step := 7, version := 1, entries := [], logitBuf := 0, vocab := 1, kstatus := 0,
                        followers := followers, reported := [], sentAt := 0, outReserved := 0, mode := mode, got := got, lead := none }] }

/-- A MODEL_CMD. -/
def mdl : ModelCmd := { pinned := false, whenEn := true, variant := 3, whenOrbit := 9, rsv := false }

/-- Slot 0 with a STAGED version and a variant. -/
def staged : State := serve1 m1 fun v => { v with slots := [(0, { Slot.reset with versions := [ver .staged], variants := [(3, ⟨false, [], [], false, false⟩)] })] }

theorem test_serve_ctx : (let s := poke r1 0x2000 ctxBytes
    writeStatus s pfWho 0x8010 1 == 0 && (getServe s 1).seqs.isEmpty && !stepStarted s 1 && ctxOk s 1 ctxBytes &&
      leaves (exec (.serveCtx pfWho 1 (ma 0x2000)) s) (fun t => (getServe t 1).ctx == some (parseCtx ctxBytes)) &&
      leaves (exec (.serveCtx pfWho 1 (ma 0x2000)) (stepRuns 0 true [])) (fun t => t.dict.answer.status == 8)) = true := by decide +kernel

theorem test_swap : writeStatus staged pfWho 0x8030 0 = 0 ∧ ((getSlot staged 1 0).version .staged).isSome = true ∧ (getSlot staged 1 0).swap = none ∧
    leaves (exec (.swap pfWho 1 0 mdl) staged) (fun s => (getSlot s 1 0).swap == some ⟨false, some 9, false, false⟩ &&
      leaves (exec (.swapFire 1 0) (locked s)) (fun t => (getSlot t 1 0).swap == some ⟨false, some 9, true, false⟩) &&
      leaves (exec (.cancelSwap pfWho 1 0 mdl) s) (fun t => (getSlot t 1 0).swap.isNone)) = true := by decide +kernel

theorem test_swap_refused : ((getSlot m1 1 0).version .staged).isSome = false ∧
    leaves (exec (.swap pfWho 1 0 mdl) m1) (fun t => t.dict.answer.status == 7) = true := by decide +kernel

theorem test_unload : leaves (exec (.unload pfWho 1 0 mdl) staged) (fun t => (getSlot t 1 0).unload) = true ∧
    leaves (exec (.variantRetire pfWho 1 0 mdl) staged) (fun t => (getSlot t 1 0).variants == [(3, ⟨false, [], [], true, false⟩)]) = true := by decide +kernel

theorem test_step_run : (let s := stepping 0
    match readyStep s 1 0 0 with
    | none => false
    | some (u, e) => (getServe s 1).ctx.isSome && (match stepStartBad (startTask s u .running).1 (startTask s u .running).2 e with
      | .ok none => true | _ => false) &&
      leaves (exec (.stepRun 1 0) s) (fun t => (getSlot t 1 0).step == 1 && (getSlot t 1 0).running == some (0, 0))) = true := by decide +kernel

theorem test_step_service : (let s := stepping 2
    (readyStep s 1 0 2).isSome && (getSlot s 1 0).swap.isNone && !(getSlot s 1 0).unload &&
      leaves (exec (.stepService 1 0) s) (fun t => (findTask t 1 0 0).map Task.kstatus == some 256)) = true := by decide +kernel

theorem test_follow : (let s := stepping 1
    (readyStep s 1 0 1).isSome && leaves (exec (.follow 1 0) s) (fun t => (getSlot t 1 0).step == 1 && phaseOf t 1 0 0 == some .running)) = true := by
  decide +kernel

theorem test_step_close : (let s := stepRuns 0 true []
    (runningStep s 1 0 0).isSome && planComplete s 1 16 &&
      leaves (exec (.stepClose 1 0 0) s) (fun t => phaseOf t 1 0 0 == some .done && (getSlot t 1 0).running.isNone)) = true := by decide +kernel

theorem test_follower_close : leaves (exec (.stepClose 1 0 0) (stepRuns 1 true [])) (fun t => phaseOf t 1 0 0 == some .done &&
    (getSlot t 1 0).running.isNone) = true := by decide +kernel

theorem test_step_fails : (let s := stepRuns 0 true []
    let u := { s with tasks := { s.tasks with tasks := s.tasks.tasks ++ [{ mkTask 1 16 0 (desc 4 0 0) [] with phase := .recorded, result := 1 }] } }
    (planFailed u 1 16).isSome && leaves (exec (.stepClose 1 0 0) u) (fun t => (findTask t 1 0 0).map Task.error == some 0x0407)) = true := by
  decide +kernel

theorem test_follow_list : (let s := stepRuns 1 false []
    (match writeMa s 1 (ma 0x20000) (leBytes 64 0) with | .ok _ => true | .error _ => false) &&
      leaves (exec (.followWorkList 1 0 0 7 ⟨leBytes 64 0, 5, 1, 0⟩) s) (fun t => (findRun t 1 0 0).map StepRun.got == some true) &&
      leaves (exec (.followWorkList 1 0 0 8 ⟨leBytes 64 0, 5, 1, 0⟩) s) (fun t => (findTask t 1 0 0).map Task.error == some 0x0409)) = true := by decide +kernel

theorem test_follow_report : leaves (exec (.followReport 1 0 0 0) (stepRuns 0 true [(7, 1, 0)])) (fun t =>
      (findRun t 1 0 0).map StepRun.reported == some [0]) = true ∧
    (let s := { stepRuns 0 true [(7, 1, 0)] with orbit := { up.orbit with refNs := 10 ^ 15 } }
     leaves (exec (.spanTimeout 1 0 0) s) (fun t => (findTask t 1 0 0).map Task.error == some 0x0408)) = true := by decide +kernel

/-! ## Training -/

/-- A pipeline record of the last stage of one: one tile, one layer, its plans at one place (R303). -/
def pipeBytes (mode : Nat) : Bytes := leBytes 2 1 ++ leBytes 2 mode ++ [0, 1, 0, 1] ++ leBytes 4 1 ++ leBytes 8 0 ++ leBytes 4 1 ++ leBytes 8 (ma 0x10000) ++
  leBytes 8 (ma 0x10000) ++ leBytes 8 (ma 0x10000) ++ leBytes 8 (ma 0x3000) ++ leBytes 8 (ma 0x3100) ++ leBytes 2 1 ++ leBytes 30 0 ++
  leBytes 8 (ma 0x4000) ++ leBytes 4 6 ++ leBytes 20 0

/-- The record, its parse. -/
def pipe (mode : Nat) : PipeRec := parsePipe (pipeBytes mode)

/-- Moon 1 in training, changed; no derivation waits (a tile of zeros is current). -/
def train1 (s : State) (f : Train → Train) : State := { s with train := [(1, f (getTrain s 1))] }

/-- Moon 1 with record, plan and one block of objects. -/
def piped (mode : Nat) : State := train1 (poke (withPlan r1) 0x2000 (pipeBytes mode)) fun t => { t with ctxMa := ma 0x2000 }

/-- The unit in a state with its record installed. -/
def piping (mode : Nat) (st : PipeState) (f : Train → Train) : State :=
  train1 (piped mode) fun t => f { t with pipeRec := some (pipe mode), state := st }

theorem test_pipe_ctx : writeStatus (piped 0) pfWho 0x9010 1 = 0 ∧ (getTrain (piped 0) 1).state = .off ∧
    leaves (exec (.pipeCtx pfWho 1 (ma 0x40)) (piped 0)) (fun t => (getTrain t 1).ctxMa == ma 0x40) = true ∧
    leaves (exec (.pipeCtx pfWho 1 (ma 0x40)) (piping 0 .running id)) (fun t => t.dict.answer.status == 8) = true := by decide +kernel

theorem test_pipe_start : writeStatus (piped 0) pfWho 0x9012 1 = 0 ∧ pipeOk (piped 0) 1 (pipeBytes 0) = true ∧
    leaves (exec (.pipeStart pfWho 1) (piped 0)) (fun t => (getTrain t 1).state == .running && (getTrain t 1).pipeRec == some (pipe 0)) = true := by
  decide +kernel

theorem test_pipe_drain : leaves (exec (.pipeDrain pfWho 1) (piping 0 .running fun t => { t with active := true })) (fun t =>
    (getTrain t 1).state == .draining) = true := by decide +kernel

theorem test_pipe_retry : leaves (exec (.pipeRetry pfWho 1) (piping 0 .halted fun t => { t with error := 3 })) (fun t =>
    (getTrain t 1).state == .running && (getTrain t 1).error == 0) = true := by decide +kernel

/-- A program that has not failed goes on. -/
theorem test_pipe_retry_active : leaves (exec (.pipeRetry pfWho 1) (piping 0 .halted fun t =>
    { t with error := 4, active := true, program := some (.forward 0) })) (fun t => (getTrain t 1).state == .running && (getTrain t 1).active &&
      (getTrain t 1).program == some (.forward 0)) = true := by decide +kernel

theorem test_pipe_reset : leaves (exec (.pipeReset pfWho 1) (piping 0 .running fun t => { t with inFlight := [⟨0, true⟩] })) (fun t =>
    (getTrain t 1).inFlight.isEmpty && (getTrain t 1).state == .off) = true := by decide +kernel

/-- MANUAL mode with one published command. -/
def manual (b : Bytes) : State := poke (poke (piping 1 .running fun t => { t with inFlight := [⟨4, true⟩] }) 0x206C (leBytes 4 1)) 0x4000 b

theorem test_pipe_commands : moonRuns (manual []) 1 = true ∧
    leaves (exec (.pipeCmdFwd 1) (manual ([1, 0, 0, 0] ++ leBytes 12 0))) (fun t => (getTrain t 1).nextProgram == some (.forward 0)) = true ∧
    leaves (exec (.pipeCmdBwd 1) (manual ([2, 0, 0, 0] ++ leBytes 12 4))) (fun t => (getTrain t 1).nextProgram == some (.backward 4)) = true ∧
    leaves (exec (.pipeCmdUpdate 1) (manual ([3, 0, 0, 0] ++ leBytes 12 0))) (fun t => (getTrain t 1).nextProgram == some (.update 0 1)) = true := by
  decide +kernel

theorem test_forward_start : (let s := setObj (piping 1 .running fun t => { t with nextProgram := some (.forward 0) }) 512 ⟨1, false⟩
    moonRuns s 1 && pipeIdle (getTrain s 1) && nextUp (getTrain s 1) (pipe 1) == some (.forward 0) && ringQuiet s 1 32 && ringQuiet s 1 35 &&
      leaves (exec (.forwardProgramStart 1) s) (fun t => (getTrain t 1).active && (getTrain t 1).nextMb == 1 && (getTrain t 1).inFlight.any (fun f => f.mb == 0)))
    = true := by decide +kernel

theorem test_backward_start : leaves (exec (.backwardProgramStart 1) (piping 1 .running fun t =>
    { t with nextProgram := some (.backward 0), inFlight := [⟨0, true⟩] })) (fun t => (getTrain t 1).program == some (.backward 0) && (getTrain t 1).active) = true := by
  decide +kernel

theorem test_prefetched_start : (let s := piping 1 .running fun t =>
      { t with nextProgram := some (.backward 0), inFlight := [⟨0, true⟩], prefetched := some (.backward 0) }
    !reshapeDue s 1 && (getTrain s 1).snapStage != 2 && ringQuiet s 1 (pipeRing (getTrain s 1)) &&
      leaves (exec (.backwardProgramStart 1) s) (fun t => (getTrain t 1).active)) = true := by decide +kernel

theorem test_update_start : leaves (exec (.updateProgramStart 1) (piping 1 .running fun t => { t with nextProgram := some (.update 0 1) })) (fun t =>
    (getTrain t 1).program == some (.update 0 1) && (getTrain t 1).active) = true := by decide +kernel

/-- A program runs and its plan has completed. -/
def ending (p : Program) : State := piping 1 .running fun t => { t with program := some p, active := true, inFlight := [⟨0, true⟩] }

theorem test_programs_end : planComplete (ending (.backward 0)) 1 (pipeRing (getTrain (ending (.backward 0)) 1)) = true ∧
    leaves (exec (.forwardDone 1) (ending (.forward 0))) (fun t => (getTrain t 1).program.isNone) = true ∧
    leaves (exec (.backwardDone 1) (poke (ending (.backward 0)) 0x3004 [1])) (fun t => (getTrain t 1).inFlight.isEmpty && (getTrain t 1).bwdSince == 1) = true ∧
    leaves (exec (.updateDone 1) (ending (.update 0 1))) (fun t => (getTrain t 1).steps == 1) = true := by decide +kernel

/-- A task of a pseudo-ring has ended with a result. -/
def ended (s : State) (r res : Nat) : State :=
  { s with tasks := { s.tasks with tasks := s.tasks.tasks ++ [{ mkTask 1 r 0 (desc 4 0 0) [] with phase := .recorded, result := res, error := 5 * res }] } }

theorem test_program_fails : (planFailed (ended (ending (.forward 0)) 32 1) 1 32).isSome = true ∧
    leaves (exec (.forwardDone 1) (ended (ending (.forward 0)) 32 1)) (fun t => (getTrain t 1).state == .halted && (getTrain t 1).code == 5) = true := by
  decide +kernel

theorem test_derive_done : (deriveTask (ended (piping 0 .running id) 34 0) 1 0).isSome = true ∧
    leaves (exec (.deriveDone 1 0) (ended (piping 0 .running id) 34 0)) (fun t => (deriveTask t 1 0).isNone) = true ∧
    leaves (exec (.deriveDone 1 0) (ended (piping 0 .running id) 34 1)) (fun t => (getTrain t 1).state == .halted && (getTrain t 1).error == 4) = true := by
  decide +kernel

theorem test_restore_done_training : (let s := piping 0 .running fun t => { t with restoring := some 0, inFlight := [⟨0, false⟩] }
    leaves (exec (.actRestoreDone 1) (ended s restoreRing 0)) (fun t => (getTrain t 1).restoring.isNone && (getTrain t 1).inFlight == [⟨0, true⟩]) &&
    leaves (exec (.actRestoreDone 1) (ended s restoreRing 1)) (fun t => (getTrain t 1).state == .halted && (getTrain t 1).error == 7)) = true := by
  decide +kernel

/-- A configuration of the gradient-noise statistic (R326). -/
def gns : GnsCfg := { localTag := 1, globalTag := 2, enable := true, bLocal := 1, bGlobal := 2, alpha := 0x3F000000, quantum := 1, minimum := 1,
                      maximum := 8, rsv := false }

/-- The tenant of moon 1. -/
def own1 : Who := vfWho 1

theorem test_gns : writeStatus m1 own1 0x9200 1 = 0 ∧ ownRole m1 own1 1 = true ∧ gnsBad gns = false ∧ gnsBad { gns with quantum := 0 } = true ∧
    leaves (exec (.gnsCfg own1 1 gns) m1) (fun t => (getTrain t 1).gns == some gns &&
      leaves (exec (.gnsClose own1 1) (train1 t fun x => { x with gnsL := 0x3FF0000000000000, gnsG := 0x4000000000000000 })) (fun u =>
        (getTrain u 1).gnsSeen && (getTrain u 1).gnsL == 0)) = true ∧
    leaves (exec (.gnsCfg own1 1 { gns with quantum := 0 }) m1) (fun t => t.dict.answer.status == 7 && t.train == m1.train) = true := by decide +kernel

theorem test_entropy : leaves (exec (.entropyTestFail 2) up) (fun t => t.sec.entropyBad == [2] && t.power.phase == .up) = true ∧
    leaves (exec (.entropyTestFail 2) { up with sec := { up.sec with entropyBad := [0, 1, 3] } }) (fun t =>
      t.power.phase == .faultStop && t.power.faultReason == FaultReason.entropy.code) = true := by decide +kernel

/-- A snapshot of the one tile to this module's moon 1. -/
def snp : SnapCmd := { whenEn := true, remote := false, fromNormal := false, snapId := 3, whenOrbit := 9, targetMa := ma 0x6000, peer := 0, ports := 0,
                       targetMoon := 1, firstTile := 0, tileCount := 1, rsv := false }

/-- A snapshot stands at a stage. -/
def snapping (stage : Nat) : State := train1 (piped 0) fun t => { t with snap := some (snp, pfWho), snapStage := stage }

theorem test_snapshot : writeStatus (piped 0) pfWho 0x9500 1 = 0 ∧
    leaves (exec (.snapshot pfWho 1 snp) (piped 0)) (fun s => (getTrain s 1).snapStage == 1 &&
      leaves (exec (.snapCancel pfWho 1 snp) s) (fun t => (getTrain t 1).snap.isNone && (getTrain t 1).snapState == 4 + 256 + 65536 * 0xE) &&
      leaves (exec (.snapshotArm 1) (locked s)) (fun t => (getTrain t 1).snapStage == 2)) = true ∧
    leaves (exec (.snapshot pfWho 1 { snp with whenEn := false }) (piped 0)) (fun s => (getTrain s 1).snapStage == 2) = true := by decide +kernel

theorem test_snap_accept : (let a : SnapAccept := ⟨5, 1, 3, ma 0x6000, 0⟩
    leaves (exec (.snapAccept own1 1 a) m1) (fun t => (getTrain t 1).accept == some a) &&
    (let s := { m1 with host := { m1.host with vfEnable := true, numVfs := 2 } };
      writeStatus s pfWho 0x9502 1 == 0 && leaves (exec (.snapAccept pfWho 1 a) s) (fun t => t.dict.answer.status == 3))) = true := by decide +kernel

theorem test_snapshot_capture : snapHeld (getTrain (snapping 2) 1) = false ∧ (turnWhen (snapping 2) 1).any (orbitReached (snapping 2)) = false ∧
    (match snapList (snapping 2) 1 snp with | .ok (some l) => l.length == 1 | _ => false) = true ∧
    accepts (train1 (snapping 2) fun t => { t with accept := some (needs 1 snp 0) }) 1 (needs 1 snp 0) = true ∧
    accepts (snapping 2) 1 (needs 1 snp 0) = false := by
  refine ⟨by decide +kernel, by decide +kernel, by decide +kernel, ?_, by decide +kernel⟩
  simp [accepts, train1, snapping, getTrain, tget]

/-- The target is on another module. -/
theorem test_snapshot_remote : (let s := train1 (piped 0) fun t => { t with snap := some ({ snp with remote := true }, pfWho), snapStage := 2 }
    leaves (exec (.snapshotCapture 1) s) (fun t => (getTrain t 1).snapStage == 3 &&
      leaves (exec (.snapshotDone 1 false) t) (fun u => (getTrain u 1).snap.isNone && (getTrain u 1).snapState == 4 + 256 + 65536 * 0xC) &&
      leaves (exec (.snapshotDone 1 true) (modTrain t 1 fun x => { x with snapStage := 4 })) (fun u => (getTrain u 1).snap.isNone &&
        (getTrain u 1).snapState == 0x103))) = true := by decide +kernel

theorem test_snapshot_done : leaves (exec (.snapshotDone 1 true) (snapping 3)) (fun t => (getTrain t 1).snap.isNone && (getTrain t 1).snapState == 0x103) = true := by
  decide +kernel

/-- A turn command without a barrier. -/
def trn : TurnCmd := { endLive := false, slot := 0, turnId := 2, whenOrbit := 9, plan := ma 0x10000, pipeRec := ma 0x2000, barrier := 0xFFFFFFFF, timeoutMs := 1,
                       rsv := false }

/-- Slot 0 is registered. -/
def registered (s : State) : State := serve1 s fun v => { v with slots := [(0, { Slot.reset with registration := some ⟨1, 1, 1, 1, false⟩ })] }

/-- A turn stands in a phase. -/
def turning (learn : Bool) (ph : TurnPhase) : State := registered (train1 (piped 0) fun t => { t with turn := some (trn, learn, pfWho), phase := ph })

theorem test_turn_commands : writeStatus (registered m1) pfWho 0x9400 1 = 0 ∧ turnBad trn = false ∧ turnBusy (getTrain m1 1) = false ∧
    leaves (exec (.toLearn pfWho 1 trn) m1) (fun t => (getTrain t 1).turn == some (trn, true, pfWho) &&
      leaves (exec (.turnCancel pfWho 1 trn) t) (fun u => (getTrain u 1).turnCode == 7 && (getTrain u 1).turn.isNone)) = true ∧
    leaves (exec (.toGenerate pfWho 1 trn) (registered m1)) (fun t => (getTrain t 1).turn == some (trn, false, pfWho)) = true := by decide +kernel

theorem test_turn_fires : leaves (exec (.turnSwitchFire 1) (locked (turning true .pending))) (fun t => (getTrain t 1).phase == .draining &&
      (getSlot t 1 0).admitsOff) = true ∧
    leaves (exec (.turnSwitchFire 1) (locked (train1 (turning false .pending) fun t => { t with state := .running, pipeRec := some (pipe 0) }))) (fun t =>
      (getTrain t 1).phase == .draining && (getTrain t 1).state == .off) = true := by decide +kernel

theorem test_turn_drains : leaves (exec (.turnDrainPoint 1) (turning true .draining)) (fun t => (getSlot t 1 0).state == .empty &&
      [.transforming, .failed].contains (getTrain t 1).phase) = true ∧
    leaves (exec (.turnDrainPoint 1) (turning false .draining)) (fun t => (getTrain t 1).pipeRec.isNone &&
      [.transforming, .failed].contains (getTrain t 1).phase) = true := by decide +kernel

theorem test_turn_done : leaves (exec (.turnPlanDone 1) (turning true .transforming)) (fun t => (getTrain t 1).layout == .learn &&
      (getTrain t 1).phase == .done) = true ∧
    leaves (exec (.turnPlanDone 1) (turning false .transforming)) (fun t => (getTrain t 1).layout == .generate && (getSlot t 1 0).state == .ready) = true := by
  decide +kernel

/-- A live sequence of slot 0. -/
def aSeq : Sequence :=
  { state := .decode, slot := 0, variant := 0, tag := 0, pos := 0, promptDone := 0, promptLen := 0, prompt := 0, generated := 0, maxNew := 1, version := 1
    spec := false, pinned := false, cancel := false, deferred := false, admitStep := 0, swapStep := 0, kv := [], hist := some 0, stops := []
    sampling := ⟨0, 0, 0, 0, 0, 0, 0⟩, pendingTok := 0, swapped := false }

theorem test_turn_timeout : (let s := serve1 (turning true .draining) fun v => { v with seqs := [(0, aSeq)] }
    let s := { s with orbit := { s.orbit with refNs := 1000000 } }
    !(slotSeqs (getServe s 1) 0).isEmpty && leaves (exec (.turnTimeout 1) s) (fun t => (getTrain t 1).phase == .failed && (getTrain t 1).turnCode == 4)) = true
    := by decide +kernel

/-! ## Weight fetch -/

/-- A FETCH_CMD of a plain image at MA page 0 (R341). -/
def fc : FetchCmd := { bar4 := false, share := false, awaitOverlay := false, writable := false, slot := 0xFF, sb := 0, variant := 0, fetchId := 1,
                       hostAddr := 0x100000, bundleBytes := 4096, targetMa := hbmRegion, timeoutMs := 10, rsv := false }

/-- A fetch of moon 1 runs. -/
def fj : FetchJob := { op := .loadBase, cmd := fc, who := pfWho, headerOk := false, header := [], hashes := [], manifest := [], verified := [],
                       retried := [], granted := [], prevSlot := .empty, cancel := false, slotGone := false, received := [], pre := [], fullAt := 0 }

def fetching (j : FetchJob) : State := { m1 with
  fetch := { m1.fetch with jobs := [(1, j)] }, host := { m1.host with funcs := [(0, { Func.reset with busMaster := true })] } }

/-- BAR4 belongs to the fetch of moon 1. -/
def windowed (j : FetchJob) (bufs : Tab Bar4Buf) : State :=
  { m1 with fetch := { m1.fetch with jobs := [(1, { j with cmd := { fc with bar4 := true } })], bar4Owner := some 1, bar4 := bufs } }

/-- Shared base 2 is READY, attached `n` times; moon 0 runs too. -/
def shared (n : Nat) : State := { setMoon m1 0 { Moon.reset with state := .active } with fetch := { m1.fetch with shared := [(2, ⟨2, [], [], n, []⟩)] } }

theorem test_fetch_start : writeStatus m1 pfWho 0x8050 1 = 0 ∧ fetchOpBad .loadBase pfWho 1 fc = false ∧ fetchStateBad m1 .loadBase 1 fc = false ∧
    leaves (exec (.loadBase pfWho 1 fc) m1) (fun t => (tfind t.fetch.jobs 1).any (fun j => j.op == .loadBase && !j.headerOk) &&
      leaves (exec (.loadOverlay pfWho 1 fc) t) (fun u => u.dict.answer.status == 8) &&
      leaves (exec (.fetchCancel pfWho 1 fc) t) (fun u => (tfind u.fetch.jobs 1).any FetchJob.cancel)) = true := by decide +kernel

/-- A load into slot 0. -/
def fs : FetchCmd := { fc with slot := 0 }

theorem test_load_overlay : (let s := serve1 m1 fun v => { v with slots := [(0, { Slot.reset with state := .loading, versions := [ver .waitingOverlay] })] }
    (!fetchOpBad .loadOverlay pfWho 1 fs && !fetchStateBad s .loadOverlay 1 fs &&
      leaves (exec (.loadOverlay pfWho 1 fs) s) (fun t => (tfind t.fetch.jobs 1).any (fun j => j.op == .loadOverlay)))) = true := by decide +kernel

theorem test_load_variant : (let s := served r1
    let c := { fs with variant := 4 }
    (!fetchOpBad .loadVariant pfWho 1 c && !fetchStateBad s .loadVariant 1 c &&
      leaves (exec (.loadVariant pfWho 1 c) s) (fun t => (tfind t.fetch.jobs 1).any (fun j => j.op == .loadVariant)))) = true := by decide +kernel

theorem test_attach : (let c := { fc with slot := 0, sb := 2, targetMa := hbmRegion + 2 ^ 21 }
    !fetchOpBad .attachShared pfWho 1 c && !fetchStateBad (shared 0) .attachShared 1 c &&
      leaves (exec (.attachShared pfWho 1 c) (shared 0)) (fun t => (getSlot t 1 0).versions.length == 1 &&
        (tfind t.fetch.shared 2).map SharedBase.attached == some 1)) = true := by decide +kernel

theorem test_drop : (let c := { fc with sb := 2 }
    !fetchOpBad .dropShared pfWho 0 c && !fetchStateBad (shared 0) .dropShared 0 c &&
      leaves (exec (.dropShared pfWho 0 c) (shared 0)) (fun t => t.fetch.shared.isEmpty) &&
      leaves (exec (.dropShared pfWho 0 c) (shared 1)) (fun t => t.fetch.shared.length == 1 && tfind t.fetch.status 0 == some 0x110504)) = true := by
  decide +kernel

theorem test_header : isUp (fetching fj) = true ∧ (getFn (fetching fj) (hostFn (fetching fj) 1)).busMaster = true ∧ fj.headerOk = false ∧ (bundleParts (fetching fj) fj [] [] []).isSome = true := by decide +kernel

/-- A checked header of one chunk of 64 bytes (R338). -/
def chunked (retried : Bool) : FetchJob := { fj with headerOk := true, retried := if retried then [0] else []
                                                     header := leBytes 7 0 ++ [6] ++ leBytes 8 64 ++ leBytes 4 1 ++ leBytes 236 0 }

theorem test_chunk : isUp (fetching (chunked false)) = true ∧ fetchTurn (fetching (chunked false)) 1 = true ∧ nextChunk (chunked false) = some 0 ∧ chunkLen (parseHdr (chunked false).header) 0 = 64 ∧
    nextChunk (chunked true) = some 0 := by decide +kernel

/-- Each outcome of the hash has its case: the digest is what the function gives, or it is not. -/
theorem test_chunk_hash (c : Bytes) : Config.sha3 c = Config.sha3 c ∧ ∃ h, Config.sha3 c ≠ h :=
  ⟨rfl, if e : Config.sha3 c = [] then ⟨[0], by rw [e]; decide⟩ else ⟨[], e⟩⟩

theorem test_bar4_descriptor : leaves (exec (.bar4Write 0x818 [7, 0, 0, 0]) (windowed fj [])) (fun t => (getBuf t 1).len == 7 && (getBuf t 1).offset == 0) = true := by
  decide +kernel

theorem test_bar4_buffer : memWf (getBuf (windowed fj []) 2).bytes = true ∧
    leaves (exec (.bar4Write 0xC00005 [7, 8]) (windowed fj [])) (fun t => memRead (getBuf t 2).bytes 5 2 == [7, 8]) = true := by decide +kernel

theorem test_bar4_dropped : pkey 0x8056 0 ∉ m1.dict.stuckList ∧ param m1 0x8056 0 + 1 < 2 ^ 64 ∧
    leaves (exec (.bar4Write 0 [1]) m1) (fun t => param t 0x8056 0 == 1) = true ∧
    (let s := { windowed fj [] with power := { up.power with phase := .faultStop } }
    !isUp s && !dead s && leaves (exec (.bar4Write 0 [1]) s) (fun t => param t 0x8056 0 == 1)) = true := by decide +kernel

theorem test_bar4_full : leaves (exec (.bar4BufferFull 0) (windowed { fj with headerOk := true } [(0, ⟨64, 32, true, []⟩)])) (fun t =>
    (tfind t.fetch.jobs 1).map FetchJob.received == some [(64, 32)]) = true := by decide +kernel

theorem test_bar4_timeout : (let s := { windowed fj [] with orbit := { up.orbit with refNs := 10000000 } }
    bar4Ranges s fj == [] && !covers [] 1 0 4096 && leaves (exec (.bar4Timeout 1) s) (fun t => (tfind t.fetch.jobs 1).isNone && tfind t.fetch.status 1 == some 0x100104)) = true := by
  decide +kernel

/-! ## Links -/

/-- A channel that allows eight lanes at 224 Gb/s (R356). -/
def meas : ChanMeas := { loss224 := List.replicate 8 0, loss112 := List.replicate 8 0, rttNs := 100 }

/-- A partner of FABRIC_ID 7; an SXL1 partner. -/
def mate : Partner := { sxl1 := true, sxl2 := true, class112 := true, class224 := true, identity := 9, fabric := 7, port := 0, ports := 1, role := 0 }

/-- Port 3 changed, on a module of FABRIC_ID 5. -/
def port3 (s : State) (f : Port → Port) : State := setParam (setPort s 3 (f (getPort s 3))) 0x5010 0 5

/-- Port 3 in a phase. -/
def phased (ph : PortPhase) : State := port3 up fun x => { x with phase := ph, partner := some mate }

theorem test_link_detect : linksLive (phased .down) = true ∧ (getPort (phased .down) 3).enabled = true ∧ linkMode meas false = some (true, 8) ∧
    leaves (exec (.linkSignalDetect 3 meas) (phased .down)) (fun t => (getPort t 3).phase == .training && (getPort t 3).width == 8) = true := by
  decide +kernel

theorem test_link_up : leaves (exec (.linkUp 3 mate) (phased .training)) (fun t => (getPort t 3).phase == .up && !(getPort t 3).sxl1) = true ∧
    leaves (exec (.linkUp 3 { mate with fabric := 5 }) (phased .training)) (fun t => (getPort t 3).phase == .down && (getPort t 3).conflict) = true := by
  decide +kernel

theorem test_link_up_sxl1 : (let s := setParam (phased .training) 0x5004 3 1
    leaves (exec (.linkUp 3 { mate with sxl2 := false }) s) (fun t => (getPort t 3).phase == .up && (getPort t 3).sxl1) &&
    leaves (exec (.linkUp 3 { mate with sxl2 := false, sxl1 := false }) s) (fun t => (getPort t 3).phase == .down && (getPort t 3).protoRefused)) = true := by
  decide +kernel

/-- R358: an SXL1 partner at 224 Gb/s has the training repeated at 112 Gb/s. -/
theorem test_link_repeats : linkMode meas true = some (false, 8) ∧
    leaves (exec (.linkUp 3 { mate with sxl2 := false }) (port3 (phased .training) fun x => { x with class224 := true, meas := some meas })) (fun t =>
      (getPort t 3).phase == .training && (getPort t 3).repeat112 && !(getPort t 3).class224) = true := by decide +kernel

theorem test_bring_up_fails : leaves (exec (.bringUpTimeout 3) (phased .training)) (fun t => (getPort t 3).phase == .down) = true ∧
    leaves (exec (.bringUpTimeout 3) (port3 (phased .training) fun x => { x with failTimes := [0, 0] })) (fun t => (getPort t 3).phase == .failed) = true := by
  decide +kernel

theorem test_retrain_done : (let s := port3 (phased .retraining) fun x => { x with rxSeq := 9, resume := true }
    leaves (exec (.retrainDone 3 meas mate) s) (fun t => (getPort t 3).phase == .up && (getPort t 3).rxSeq == 9) &&
    leaves (exec (.retrainDone 3 meas { mate with identity := 8 }) s) (fun t => (getPort t 3).rxSeq == 0)) = true := by decide +kernel

theorem test_port_commands : writeStatus (phased .up) pfWho 0x5003 3 = 0 ∧
    leaves (exec (.retrain pfWho 3) (phased .up)) (fun t => (getPort t 3).phase == .retraining && param t 0x5041 3 == 1) = true ∧
    leaves (exec (.retrain pfWho 3) (phased .down)) (fun t => (getPort t 3).phase == .down && t.dict.answer.status == 0) = true ∧
    leaves (exec (.disable pfWho 3) (phased .up)) (fun t => (getPort t 3).phase == .disabled) = true ∧
    leaves (exec (.enable pfWho 3) (phased .failed)) (fun t => (getPort t 3).phase == .down) = true ∧
    leaves (exec (.enable pfWho 3) (phased .up)) (fun t => (getPort t 3).phase == .up) = true := by decide +kernel

theorem test_port_rates : leaves (exec (.force112 pfWho 3) (phased .up)) (fun t => (getPort t 3).forced112 &&
    leaves (exec (.auto pfWho 3) t) (fun u => !(getPort u 3).forced112)) = true := by decide +kernel

/-- A good flit in sequence for moon 1 of this module. -/
def flit : Flit := { vc := 2, destMoon := 1, srcMoon := 2, destFabric := 5, srcFabric := 7, xfer := 0, seq := 0, ack := 0xFFF, retryReq := false, good := true,
                     payload := [1, 2] }

/-- Port 3 is UP on a module whose moon 1 takes, into its first page, what moon 2 of module 7 sends (R371). -/
def linked (s : State) : State :=
  modMoon (port3 s fun x => { x with phase := .up, partner := some mate, credit2 := [(6, 99)] }) 1 fun x =>
    { x with recvWin := leBytes 2 7 ++ [2, 3] ++ leBytes 4 0 ++ leBytes 8 hbmRegion ++ leBytes 16 4096 ++ List.replicate 480 0 }

/-- A chunk of 300 bytes. -/
def hdr : ChunkHdr := { destMa := ma 0x100, bytes := 300, hint := 0, index := 0, total := 1, destObj := 0, destAdd := 0, sigEn := false, migration := false }

/-- The flit of a number with 240 bytes of payload. -/
def flitNo (n : Nat) : Flit := { flit with seq := .ofNat 12 n, payload := List.replicate 240 (.ofNat 8 n) }

/-- R376: the codewords of a flit that FEC corrected or could not correct count. -/
theorem test_fec : leaves (exec (.data 3 { flit with good := false, fecCorr := 2, fecUncorr := 1 }) (linked r1))
    (fun t => cntB t 0x5030 3 == 2 && cntB t 0x5031 3 == 1 && cntB t 0x5032 3 == 1) = true := by decide +kernel

theorem test_bad_flit : (getPort (linked r1) 3).phase = .up ∧ { flit with good := false }.good = false ∧ (flitNo 3).seq ≠ (getPort (linked r1) 3).rxSeq ∧
    flitRow 3 (flitNo 3) (.data 3 (flitNo 3)) ∧ leaves (exec (.data 3 (flitNo 3)) (linked r1)) (fun t => t.out.any fun o => match o with
      | .flit 3 0 g => g.retryReq && g.ack == 0xFFF | _ => false) = true := by
  refine ⟨by decide, by decide, by decide, Or.inl rfl, by decide +kernel⟩

theorem test_chunk_received : (takeFlit (linked r1) 3 flit).2 = true ∧ chunkRefusal (takeFlit (linked r1) 3 flit).1 1 7 2 hdr = none ∧
    leaves (exec (.chunkHdr 3 flit hdr) (linked r1)) (fun a => rxOf a 3 flit == some ⟨3, flit, hdr, [], false⟩ &&
      leaves (exec (.data 3 (flitNo 1)) a) (fun b => (rxOf b 3 flit).map (fun c => c.got.length) == some 240 &&
        leaves (exec (.data 3 (flitNo 2)) b) (fun c => (rxOf c 3 flit).isNone && memRead c.mem.hbm (5 * 2 ^ 21 + 0x100 + 239) 3 == [1, 2, 2]))) = true := by
  decide +kernel

/-- A header for module 9 goes on by port 4. -/
theorem test_chunk_in_transit : (let s := linked r1
    let s := setPort { s with links := { s.links with fwd := [(9, 16)] } } 4 { getPort s 3 with credit2 := [(1, 9)], credit1 := 9 }
    egress s 16 == some 4 && leaves (exec (.chunkHdr 3 { flit with destFabric := 9 } hdr) s) (fun t =>
      t.links.transit == [(3, 7, 2, 0, 4)] && t.out.any fun o => match o with | .flit 4 2 g => g.payload == [1, 2] | _ => false)) = true := by
  decide +kernel

theorem test_chunk_held : leaves (exec (.chunkHdr 3 flit { hdr with bytes := 2 }) (modMoon (linked r1) 1 fun x => { x with state := .suspended })) (fun a =>
    arrivalsHeld a 1 && leaves (exec (.data 3 { flit with seq := 1 }) a) (fun b => (getMoon b 1).held.length == 1 && (rxOf b 3 flit).isNone)) = true := by
  decide +kernel

/-- A SEND task of moon 1 runs with one chunk for moon 6 of module 7, over port 3. -/
def sending (sent : List (Nat × Nat)) : State :=
  let s := linked (withTask r1 { mkTask 1 0 0 (desc 3 0 0) (moveExt 3) with phase := .running })
  { s with links := { s.links with tx := [{ moon := 1, ring := 0, seq := 0, xfer := 0, destFabric := 7, destMoon := 6, mask := 8, total := 1, sent := sent
                                            delivered := false, bytes := 4, chunks := [(ma 0, [1, 2, 3, 4])], pages := [], hint := 0, obj := 0, add := 0, sig := false
                                            openedAt := 0 }] } }

theorem test_chunk_goes_out : (let s := sending []
    (nextTx s 1 0 0).any fun z => txRuns s z.1 (findTask s 1 0 0) && (match chunkBytes s (findTask s 1 0 0) z.1 z.2 with
        | .ok b => b == [1, 2, 3, 4] | .error _ => false) &&
      (txPorts s z.1).filter (fun p => creditFor s z.1 p (chunkFlits (flitBytes s p) 4)) == [3]) = true := by decide +kernel

/-- A chunk for this module itself. -/
theorem test_chunk_to_self : (let s := sending []
    let s := { s with links := { s.links with tx := s.links.tx.map fun x => { x with destFabric := 5, destMoon := 1 } } }
    (checkWrite s 1 2 (ma 0) 4).map Fail.code != some 0 && leaves (exec (.sendChunkStart 1 0 0) s) (fun t =>
      (findTask t 1 0 0).map Task.error == some 0x0303)) = true := by decide +kernel

theorem test_delivered : leaves (exec (.delivered 3 flit) (sending [(0, 3)])) (fun t => t.links.tx.isEmpty && phaseOf t 1 0 0 == some .done &&
    (getMoon t 1).ledger.txBytes == 4) = true := by decide +kernel

theorem test_nack : leaves (exec (.nack 3 flit nackGone 0) (sending [(0, 3)])) (fun t => (findTask t 1 0 0).map Task.error == some 0x0304) = true := by
  decide +kernel

theorem test_control : (takeFlit (linked r1) 3 flit).2 = true ∧ forUs (takeFlit (linked r1) 3 flit).1 3 flit = true ∧
    leaves (exec (.control 3 flit .dictReq []) (linked r1)) (fun t => (getPort t 3).rxSeq == 1) = true := by decide +kernel

theorem test_credit : leaves (exec (.credit 3 flit [(2, 6, 5)]) (linked r1)) (fun t => tget (getPort t 3).credit2 0 6 == 104) = true ∧
    leaves (exec (.creditSync 3 flit 0 5) (linked r1)) (fun t => (getPort t 3).credit0 == 5) = true := by decide +kernel

/-- A flit that waits for VC0 credit goes out with it. -/
theorem test_credit_releases : leaves (exec (.credit 3 flit [(0, 0, 1)]) (port3 (linked r1) fun x =>
    { x with phase := .up, queue := [⟨7, { flit with vc := 0 }, none⟩] })) (fun t => (getPort t 3).queue.isEmpty && t.out.any fun o => match o with
      | .flit 3 7 g => g.payload == [1, 2] | _ => false) = true := by decide +kernel

theorem test_link_timeout : (let s := { port3 (sending []) fun x => { x with phase := .down } with orbit := { up.orbit with refNs := 10 ^ 12 } }
    leaves (exec (.linkTimeout 1 0 0) s) (fun t => (findTask t 1 0 0).map Task.error == some 0x0302 && t.links.tx.isEmpty)) = true := by decide +kernel

/-- The transfer of a live migration. -/
theorem test_migration_times_out : (let s := modMoon (port3 (sending []) fun x => { x with phase := .down }) 1 fun x => { x with state := .migrating, mig := .precopy }
    let s := { s with tasks := { s.tasks with tasks := [] }, orbit := { up.orbit with refNs := 10 ^ 12 }
                      links := { s.links with tx := s.links.tx.map fun x => { x with ring := migRing } } }
    leaves (exec (.linkTimeout 1 migRing 0) s) (fun t => t.links.tx.isEmpty && (getMoon t 1).job.isNone)) = true := by decide +kernel

/-! ## Packs and orbit -/

/-- A pack manager of FABRIC_ID 5 with member 0 on module 7, polled at 0, and barrier 9 of modules 5 and 7 (R378, R384). -/
def manager : State := setParam { up with pack := { up.pack with
  role := 1, members := [(0, { freshMember 7 with polledAt := some 0 })]
  barriers := [(9, ⟨⟨true, false, 1, [⟨5, 1, 1⟩, ⟨7, 1, 1⟩], false⟩, 4, []⟩)] } } 0x5010 0 5

/-- A module whose parent is module 7. -/
def polled : State := setParam up 0xB001 0 7

/-- Time has passed. -/
def later (s : State) (ns : Nat) : State := { s with orbit := { s.orbit with refNs := ns, now := ns } }

theorem test_pack_role : writeStatus manager keyWho 0xB000 0 = 0 ∧
    leaves (exec (.packRole keyWho 0) manager) (fun t => t.pack.role == 0 && t.pack.instances.isEmpty) = true ∧
    leaves (exec (.packRole keyWho 3) manager) (fun t => t.dict.answer.status == 7 && t.pack.role == 1) = true := by decide +kernel

theorem test_member : writeStatus manager keyWho 0xB010 1 = 0 ∧ memberEntries manager = [0] ∧
    leaves (exec (.memberFabric keyWho 1 8) manager) (fun t => getMember t 1 == freshMember 8) = true ∧
    leaves (exec (.memberFabric keyWho 1 7) manager) (fun t => t.dict.answer.status == 7) = true ∧
    leaves (exec (.memberFabric keyWho 1 5) manager) (fun t => t.dict.answer.status == 7) = true := by decide +kernel

theorem test_poll_send : leaves (exec .pollSend (later manager 5)) (fun t => t.pack.pollSeq == 1 && (getMember t 0).polledAt == some 5) = true := by
  decide +kernel

/-- A member whose time has not come is not polled. -/
theorem test_poll_later : (let s := { manager with pack := { manager.pack with members := [(0, { freshMember 7 with polls := 9 })] } }
    decide (pollsDue s 0 ≤ 9) && leaves (exec .pollSend s) (fun t => t.pack.members == s.pack.members && t.pack.pollSeq == 0)) = true := by decide +kernel

theorem test_poll : leaves (exec (.poll 3 ⟨7, 2, 6, 0, 7, 1⟩) (later polled 5)) (fun t => t.pack.packState == 1 && t.pack.seenEpoch == some 6 &&
      t.pack.pollAt == some 5) = true ∧
    leaves (exec (.poll 3 ⟨8, 2, 6, 0, 7, 1⟩) (later polled 5)) (fun t => t.pack.pollAt.isNone) = true := by decide +kernel

theorem test_orphan : leaves (exec .orphan (later polled (10 ^ 12))) (fun t => t.pack.packState == 2) = true := by decide +kernel

/-- An answer of the member. -/
def ans : AnswerMsg := ⟨0, 7, 1, false, true, false, false, 1, 0, 0, 0⟩

theorem test_answer : leaves (exec (.answer 0 ans 10000) manager) (fun t => (getMember t 0).answer == some (ans, 10000) && (getMember t 0).missRun == 0) = true ∧
    leaves (exec (.answer 0 ans 10001) manager) (fun t => (getMember t 0).missRun == 1 && (getMember t 0).answerRun == 0) = true := by decide +kernel

theorem test_poll_miss : leaves (exec (.pollMiss 0) (later { manager with pack := { manager.pack with
      members := [(0, { freshMember 7 with polledAt := some 0, missRun := 2 })] } } 10000)) (fun t => (getMember t 0).silent) = true := by decide +kernel

theorem test_spares : writeStatus manager keyWho 0xB026 0 = 0 ∧
    leaves (exec (.sparesDeclared keyWho 64) { up with pack := { up.pack with role := 2 } }) (fun t => param t 0xB026 0 == 64) = true ∧
    leaves (exec (.sparesDeclared keyWho 64) up) (fun t => t.dict.answer.status == 0 && param t 0xB026 0 == 0) = true ∧
    leaves (exec (.sparesDeclared keyWho 65) manager) (fun t => t.dict.answer.status == 7) = true := by decide +kernel

theorem test_expel : (let m := { manager with pack := { manager.pack with members := [(0, { freshMember 7 with health := .suspect })] } }
    let s := setParam (later m (10 ^ 15)) 0xB026 0 1
    let l := { s with orbit := { s.orbit with state := .locked } }
    s.orbit.state == .unlocked && leaves (exec .expelIntervalElapsed l) (fun t => (getMember t 0).health == .expelled) && topSuspect s == some 0 && leaves (exec .expelIntervalElapsed s) (fun t => (getMember t 0).health == .expelled && param t 0xB026 0 == 0)) = true := by
  decide +kernel

/-- A definition over one module outside the pack, and one over the manager itself. -/
def bd (f : Nat) : BarDef := ⟨true, false, 5, [⟨f, 1, 1⟩], false⟩

/-- An arrival of a module at barrier 9. -/
def arr (f : Nat) : ArriveMsg := ⟨f, 1, 0, 9, 3, 1⟩

/-- Module 7 has arrived. -/
def gathering : State := { manager with pack := { manager.pack with instances := [(9, ⟨[arr 7], 0⟩)] } }

theorem test_barrier_def : writeStatus manager keyWho 0xB040 9 = 0 ∧ badDef manager (bd 5) = false ∧ badDef manager (bd 8) = true ∧
    leaves (exec (.barrierDef keyWho 9 (bd 5)) manager) (fun t => getBarrier t 9 == ⟨bd 5, 4, []⟩) = true ∧
    leaves (exec (.barrierDef keyWho 9 (bd 8)) manager) (fun t => t.dict.answer.status == 7) = true ∧
    leaves (exec (.barrierDef keyWho 9 (bd 5)) gathering) (fun t => t.dict.answer.status == 8) = true := by decide +kernel

theorem test_barrier_move : leaves (exec (.barrierMove keyWho 9 ⟨7, 1, 8, 2, false⟩) manager) (fun t =>
    barrierPairs (getBarrier t 9) == [(5, 1), (8, 2)]) = true := by decide +kernel

theorem test_arrive : ownScope manager = some 0 ∧
    leaves (exec (.arrive (arr 5)) manager) (fun t => (tfind t.pack.instances 9).map (fun i => i.arrived.length) == some 1) = true ∧
    ((barrierPairs (getBarrier gathering 9)).all fun p => p == (5, 1) ||
      (tget gathering.pack.instances ⟨[], 0⟩ 9).arrived.any fun a => (a.fabric, a.moon) == p) = true := by decide +kernel

theorem test_withdraw : leaves (exec (.withdraw (arr 7)) gathering) (fun t => ((tfind t.pack.instances 9).map fun i => i.arrived.length) != some 1) = true := by
  decide +kernel

theorem test_barrier_timeout : leaves (exec (.barrierTimeout 9) (later gathering 1000000)) (fun t => (tfind t.pack.instances 9).isNone &&
    (tfind t.pack.records 9).any (fun r => r.result == 1 || r.result == 2)) = true := by decide +kernel

theorem test_release_barrier : (let s := withTask r1 { mkTask 1 0 0 (desc 6 0 9) [] with phase := .running }
    leaves (exec (.barrierRelease 0 9) { s with pack := { s.pack with sent := [(1, 0, 0, arr 5)] } }) (fun t => phaseOf t 1 0 0 == some .recorded)) = true := by
  decide +kernel

theorem test_arrive_refused : leaves (exec (.arrive { arr 7 with barrier := 8 }) manager) (fun t => t.pack == manager.pack && t.out.any fun o => match o with
    | .control _ .arriveRefused f l => f == 7 && l == [1, 0, 8, 0x0502, 8] | _ => false) = true := by decide +kernel

/-- Orbit comes from a source, in a state. -/
def orbiting (src : Nat) (st : OrbitState) (f : OrbitUnit → OrbitUnit) : State :=
  setParam { up with orbit := f { up.orbit with state := st, everLocked := st != .unlocked, refValid := true, refWhole := true } } 0x2032 0 src

theorem test_pps_seconds : writeStatus up keyWho 0x2039 0 = 0 ∧
    leaves (exec (.orbitPpsSeconds keyWho 18446744073) up) (fun t => t.orbit.ppsArmed && param t 0x2039 0 == 18446744073) = true ∧
    leaves (exec (.orbitPpsSeconds keyWho 18446744074) up) (fun t => t.dict.answer.status == 7) = true ∧
    leaves (exec (.orbitPpsSeconds keyWho 1) (orbiting 1 .locked id)) (fun t => t.dict.answer.status == 7) = true := by decide +kernel

theorem test_pps_edge : leaves (exec .ppsEdge (setParam (orbiting 1 .unlocked fun o => { o with ppsArmed := true }) 0x2039 0 7)) (fun t =>
      t.orbit.state == .locked && t.orbit.now == 7000000000) = true ∧
    leaves (exec .ppsEdge (orbiting 1 .locked fun o => { o with refNs := 1000001000, now := 5 })) (fun t => t.orbit.edgeSec == 1 &&
      t.orbit.slew == 999999995) = true := by decide +kernel

theorem test_pps_rejected : leaves (exec .ppsEdge (orbiting 1 .locked fun o => { o with refValid := false })) (fun t => cntB t 0x203C 0 == 1) = true ∧
    leaves (exec (.refWindow 5001) (orbiting 1 .locked id)) (fun t => !t.orbit.refValid) = true := by decide +kernel

theorem test_ref : leaves (exec (.refWindow (-5000)) (orbiting 1 .locked fun o => { o with refValid := false })) (fun t => t.orbit.refValid) = true ∧
    leaves (exec .refLoss (orbiting 1 .locked id)) (fun t => !t.orbit.refValid && !t.orbit.refWhole) = true ∧
    leaves (exec .ppsHoldover (orbiting 1 .locked fun o => { o with refNs := 2000001000 })) (fun t => t.orbit.state == .holdover) = true := by decide +kernel

theorem test_ptp_announce : leaves (exec (.ptpAnnounce (param up 0x203A 0) 9) (orbiting 2 .unlocked id)) (fun t => t.orbit.ptpMaster == some 9) = true ∧
    leaves (exec (.ptpDelayResp 4) (orbiting 2 .unlocked fun o => { o with ptpReq := some (0, 3, 1) })) (fun t => t.orbit.ptpDelay == 3 &&
      t.orbit.ptpReq.isNone) = true := by decide +kernel

theorem test_ptp_sync : leaves (exec (.ptpSync 9 100) (orbiting 2 .locked fun o => { o with ptpMaster := some 9, ptpDelay := 4, now := 90 })) (fun t =>
      t.orbit.slew == 14 && t.orbit.ptpReq == some (100, 90, 90) && t.out == [.delayReq 90]) = true ∧
    leaves (exec (.ptpSync 9 100) (orbiting 2 .unlocked fun o => { o with ptpMaster := some 9, ptpRun := List.replicate 15 (-100) })) (fun t =>
      t.orbit.state == .locked) = true ∧
    leaves (exec .ptpSyncTimeout (orbiting 2 .locked fun o => { o with refNs := 5000000000 })) (fun t => t.orbit.state == .holdover) = true := by decide +kernel

theorem test_orbit_source : writeStatus up keyWho 0x2032 0 = 0 ∧
    leaves (exec (.orbitSource keyWho 1) (orbiting 2 .locked id)) (fun t => orbitSource t == 1 && t.orbit.state == .holdover) = true ∧
    leaves (exec (.orbitSource keyWho 3) (orbiting 2 .locked id)) (fun t => t.dict.answer.status == 7) = true := by decide +kernel

theorem test_beacon_send : leaves (exec .beaconSend (orbiting 0 .locked fun o => { o with refNs := 10000 })) (fun t => t.orbit.beaconSeq == 1) = true := by
  decide +kernel

/-- Beacons come in by port 3, whose path has been measured. -/
def heard (st : OrbitState) (f : OrbitUnit → OrbitUnit) : State :=
  setParam (orbiting 0 st fun o => f { o with delays := [(3, [80])], heard := [(3, 4, 0)], run := [(3, List.replicate 7 (-60))] }) 0x2033 0 3

theorem test_beacon : pathDelay (heard .locked id) 3 = 40 ∧
    leaves (exec (.beacon 3 ⟨20, 5, 1, 2, 7, true⟩) (heard .locked fun o => { o with now := 50 })) (fun t => t.orbit.slew == 10 && param t 0x2038 0 == 3) = true ∧
    leaves (exec (.beacon 3 ⟨20, 5, 1, 2, 7, true⟩) (heard .unlocked id)) (fun t => t.orbit.state == .locked) = true ∧
    leaves (exec (.beacon 3 ⟨20, 5, 1, 8, 7, true⟩) (heard .unlocked id)) (fun t => t.orbit.state == .unlocked) = true := by decide +kernel

theorem test_beacon_timeout : portInUse (heard .locked id) ≠ 0xFF ∧
    leaves (exec .beaconTimeout (heard .locked fun o => { o with refNs := 100000 })) (fun t => t.orbit.state == .holdover && cntB t 0x203B 0 == 1) = true := by
  decide +kernel

theorem test_delays : (let s := port3 (heard .locked id) fun x => { x with phase := .up, partner := some mate }
    let s := { s with orbit := { s.orbit with refNs := 1000000 } }
    leaves (exec .delayReqSend s) (fun t => t.out.any fun o => match o with | .control 3 .delayReq _ [0] => true | _ => false) &&
    leaves (exec (.delayReq 3 6) s) (fun t => t.out.any fun o => match o with | .control 3 .delayResp _ [6, 0, 0] => true | _ => false) &&
    leaves (exec (.delayResp 3 0 10 30 100) s) (fun t => tget t.orbit.delays [] 3 == [80, 80])) = true := by decide +kernel

/-! ## Host interface -/

/-- The PF's functions: four VFs are enabled. -/
def vfs (s : State) : State := { s with host := { s.host with vfEnable := true, numVfs := 4, funcs := [(0, { Func.reset with busMaster := true })] } }

theorem test_perst : leaves (exec .perstNDeassert up) (fun t => !t.host.perst && t.host.linkTraining) = true := by decide +kernel

theorem test_hot_reset : leaves (exec .hotReset (vfs r1)) (fun t => !t.host.vfEnable && t.host.numVfs == 0 && !(getFn t 0).busMaster) = true ∧
    leaves (exec (.flr 1) (vfs r1)) (fun t => t.host.vfEnable && t.host.numVfs == 4 && !(getRing t 1 0).enable) = true := by decide +kernel

theorem test_vf_enable : leaves (exec (.vfEnable 63) up) (fun t => t.host.vfEnable && t.host.numVfs == 63) = true ∧
    leaves (exec (.vfEnableClear 1) (vfs up)) (fun t => t.host.vfEnable && t.host.numVfs == 1) = true := by decide +kernel

theorem test_win_base : ringAccess (vfs r1) 1 1 = true ∧ leaves (exec (.winBase 1 0 true 0x100) (vfs r1)) (fun s => tget s.host.winBase 0 1 == hbmRegion &&
      leaves (exec (.ringWindowWrite 1 0 0x40 [5, 6]) s) (fun t => memRead t.mem.hbm (5 * 2 ^ 21 + 0x40) 2 == [5, 6] &&
        leaves (exec (.ringWindowRead 1 0 0x41 2) t) (fun u => u.dict.answer.value == [6, 0]))) = true ∧
    leaves (exec (.winBase 1 0 false 0x1000) (vfs r1)) (fun t => t.host == (vfs r1).host) = true := by decide +kernel

theorem test_window_denied : leaves (exec (.ringWindowRead 1 0 0 2) (vfs r1)) (fun t => t.dict.answer.value == [0xFF, 0xFF] && tget t.host.winDenied 0 1 == 1) = true ∧
    leaves (exec (.ringWindowWrite 1 0 0 [1]) (vfs r1)) (fun t => tget t.host.winDenied 0 1 == 1 && t.mem == r1.mem) = true := by decide +kernel

theorem test_evq : leaves (exec (.evqCfg 0 28) up) (fun t => (getFn t 0).evqEnable && (getFn t 0).evqLog2 == 12) = true ∧
    leaves (exec (.evqCfg 0 29) up) (fun t => !(getFn t 0).evqEnable && (getFn t 0).evqCfgErr) = true := by decide +kernel

theorem test_msix : (let s := { up with host := { up.host with funcs := [(0, { Func.reset with busMaster := true, pendingVecs := [2047] })] } }
    vectorOk 0 2047 && leaves (exec (.msixUnmask 0 2047) s) (fun t => t.out == [.msix 0 2047] && (getFn t 0).pendingVecs.isEmpty) &&
      leaves (exec (.msixUnmask 0 3) s) (fun t => t.out.isEmpty && (getFn t 0).unmasked == [3])) = true := by decide +kernel

/-- R414: BAR2 takes the size chosen at the PF's resizable BAR control, 2^10 MiB being the least. -/
theorem test_bar2_size : leaves (exec (.registerWrite 0 (configSpace + 0x1A8) [0, 10, 0, 0]) up) (fun t => t.host.bar2Size == 2 ^ 30) = true ∧
    leaves (exec (.registerWrite 0 (configSpace + 0x1A8) [0, 9, 0, 0]) up) (fun t => t == up) = true := by decide +kernel

theorem test_register_write : leaves (exec (.registerWrite 0 0x1FFF [9]) up) (fun t => (getFn t 0).reqBuf == [(4095, 9)]) = true ∧
    leaves (exec (.registerWrite 0 0x018 [1, 0, 0, 0]) up) (fun t => (getFn t 0).evqHead == 1) = true ∧
    leaves (exec (.registerWrite 0 0x01A [1, 0, 0, 0]) up) (fun t => t == up) = true := by decide +kernel

theorem test_mailbox : leaves (exec (.mbxDoorbell 0 4096) up) (fun t => (getFn t 0).mbx == .busy && t.host.taken.map Prod.fst == [0] &&
      leaves (exec (.mbxDoorbell 0 16) t) (fun u => (getFn u 0).mbxRefused)) = true ∧
    leaves (exec (.mbxDoorbell 0 4097) up) (fun t => (getFn t 0).mbxRefused && t.host.taken.isEmpty) = true := by decide +kernel

/-- A MOVE task that reads host memory runs on an engine. -/
def hostMove : State := withTask r1 { mkTask 1 0 0 (desc 3 0 0) (0 :: 1 :: (moveExt 0).drop 2) with phase := .running, engine := some 0 }

theorem test_host_read_fails : (parseMove (0 :: 1 :: (moveExt 0).drop 2)).srcHost = 1 ∧
    leaves (exec (.hostCplTimeout 1 (some (0, 0))) hostMove) (fun t => (findTask t 1 0 0).map (fun x => (x.error, x.detail)) == some (0x0207, 3)) = true ∧
    leaves (exec (.hostDmaError 1 (some (0, 0)) 4) hostMove) (fun t => (findTask t 1 0 0).map (fun x => (x.error, x.detail)) == some (0x0207, 4)) = true := by
  decide +kernel

theorem test_fetch_read_fails : leaves (exec (.hostDmaError 1 none 1) { m1 with fetch := { m1.fetch with jobs := [(1, fj)] } }) (fun t =>
    t.fetch.jobs.isEmpty && tfind t.fetch.status 1 == some 0x010A0104) = true := by decide +kernel

theorem test_read_aborted : leaves (exec (.hostReadAborted 2) up) (fun t => t.dict.answer.value == [0xFF, 0xFF] && param t 0x0011 0 == 1) = true := by decide +kernel

/-! ## The dictionary -/

/-- A PF frame to this module (R433). -/
def fr : Frame := { version := 1, kind := 1, reqId := 3, target := 0xFFFE, role := 0, via := 0xFFFF, source := 0, auth := false, broadcast := false,
                    wellLen := true, covered := [], nonce := 0, tag := [] }

/-- An item of a parameter and element. -/
def item (p e : Nat) : Item := { param := p, element := e, type := 0, last := true, len := 0, offset := 0, value := [], rsv := false }

/-- The item check's answer for the PF. -/
def check (s : State) (op : ItemOp) (it : Item) : Nat := match itemCheck s pfWho .all true op it with | .ok _ => 0 | .error c => c

theorem test_read_item : claimed up .pf fr = some .hostPf ∧ isLocal up fr = true ∧ check up .read (item 0x5003 3) = 5 ∧ check up .write (item 0x5010 0) = 4 ∧ check up .read (item 0x5010 0) = 0 ∧
    leaves (exec (.read .pf fr (item 0x5010 0)) up) (fun t => t.dict.answer.frame == 0 && t.dict.answer.status == 0 && t.dict.answer.value == [0xFF, 0xFF]) = true := by
  decide +kernel

theorem test_write_item : leaves (exec (.write (.mgt 0) { fr with role := 2, broadcast := true } { item 0x5010 0 with type := 3, len := 2, value := [5, 0] }) up) (fun t =>
      t.dict.answer.status == 0 && param t 0x5010 0 == 5) = true ∧
    leaves (exec (.describe .pf fr (item 0x5010 0)) up) (fun t => t.dict.answer.status == 0) = true := by decide +kernel

theorem test_item_checks : check { up with fw := { up.fw with swap := some (1, false) } } .read (item 0x5010 0) = 9 ∧
    check up .read { item 0x5010 0 with rsv := true } = 12 ∧ check up .read (item 0x0FFF 0) = 1 ∧ check up .read (item 0x5003 32) = 2 ∧
    leaves (exec (.read .pf fr (item 0x5003 32)) up) (fun t => t.dict.answer.status == 2) = true := by decide +kernel

theorem test_frame_codes : leaves (exec (.read .pf { fr with version := 2 } (item 0x5010 0)) up) (fun t => t.dict.answer.frame == 0x20) = true ∧
    leaves (exec (.write .pf { fr with wellLen := false } (item 0x5010 0)) up) (fun t => t.dict.answer.frame == 0x21) = true ∧
    leaves (exec (.describe .pf { fr with role := 1 } (item 0x5010 0)) up) (fun t => t.dict.answer.frame == 0x22) = true := by decide +kernel

theorem test_frame_from_vf : (let s := { up with host := { up.host with vfEnable := true, numVfs := 4 } }
    pathLive s (.vf 1) && leaves (exec (.write (.vf 1) { fr with role := 1, target := 6 } (item 0x5010 0)) s) (fun t => t.dict.answer.frame == 0x27)) = true := by
  decide +kernel

theorem test_forwarded : (let f := { fr with target := 7 }
    gatewayTo manager f == none || gatewayTo manager f == some (0, 7, 1)) = true ∧
    (let s := { manager with pack := { manager.pack with members := [(0, { freshMember 7 with answerRun := 20, answer := some (ans, 5) })] } }
    gatewayTo s { fr with target := 7 } == some (0, 7, 1) &&
      leaves (exec (.read .pf { fr with target := 7 } (item 0x5010 0)) s) (fun t => t.dict.forwarded.map Forwarded.member == [0])) = true := by decide +kernel

/-- A request stands forwarded for a mailbox or for a management port. -/
def awaits (mb : Bool) : State := { up with
  dict := { up.dict with forwarded := [{ request := 4, origin := if mb then .pf else .mgt 0, mailbox := mb, frame := { fr with src := [1, 2, 3, 4, 5, 6] }, member := 0, hops := 1, sentAt := 0 }] }
  host := { up.host with funcs := [(0, { Func.reset with mbx := .busy })] }
  orbit := { up.orbit with refNs := 100000 } }

theorem test_gateway : leaves (exec (.gatewayResponse 4 [1, 2]) (awaits true)) (fun t => (getFn t 0).rspBuf == [1, 2] && t.dict.forwarded.isEmpty) = true ∧
    leaves (exec (.gatewayResponse 4 [1, 2]) (awaits false)) (fun t => t.out.any fun o => match o with
      | .dictFrame (.mgt 0) b => b.length == 60 && b.drop 12 == [0x88, 0xB5, 1, 2] ++ List.replicate 44 0 | _ => false) = true ∧
    leaves (exec (.targetTimeout 4) (awaits true)) (fun t => t.dict.answer.frame == 0x26 && t.dict.forwarded.isEmpty) = true := by decide +kernel

theorem test_staging : leaves (exec (.stagingExpire pfWho) { later up 1000000000 with dict := { up.dict with staging := [⟨pfWho, 0x5020, 1, [], 0⟩] } })
    (fun t => t.dict.staging.isEmpty) = true := by decide +kernel

theorem test_plca : (let s := later { up with power := { up.power with slotId := 2 } } 4000000
    plcaPort s 1 && leaves (exec (.plcaBeaconTimeout 1) s) (fun t => t.dict.csma == [1] &&
      leaves (exec (.plcaBeacon 1) t) (fun u => u.dict.csma.isEmpty &&
        leaves (exec (.plcaBeaconTimeout 1) u) (fun v => v.dict.csma.isEmpty)))) = true := by decide +kernel

/-! ## Power, start-up, journal, firmware -/

/-- The module in a phase, for a reason. -/
def phaseIs (p : PowerPhase) (reason : Nat) : State := { up with power := { up.power with phase := p, faultReason := reason } }

theorem test_fault_stops : leaves (exec .inputOv up) (fun t => t.power.phase == .faultStop && t.power.faultReason == 1 && t.power.faultPin) = true ∧
    leaves (exec (.regulator 4) (phaseIs .boot 0)) (fun t => t.power.faultReason == 2 && t.power.failedRail == some 4) = true ∧
    leaves (exec .leak up) (fun t => t.power.faultReason == 3 && t.power.leak) = true ∧
    leaves (exec (.thermalEvaluate 3 115000) up) (fun t => t.power.faultReason == 4) = true := by decide +kernel

theorem test_fault_keeps_reason : leaves (exec (.regulator 4) (phaseIs .faultStop 9)) (fun t => t.power.faultReason == 9) = true ∧
    leaves (exec .leak (phaseIs .faultStop 9)) (fun t => t.power.faultReason == 9) = true := by decide +kernel

theorem test_power_fail : leaves (exec .powerFailDetect m1) (fun t => t.power.phase == .off && t.moons.isEmpty && t.journal.committed.any fun r =>
    r.payload == .ledgerSnap (openTotals m1)) = true := by decide +kernel

/-- What a start-up finds. -/
def facts (leak : Bool) (coolant : Int) : BootFacts :=
  { roleSel := 0, slotId := 2, coolantMilli := coolant, leakEarly := false, leak := leak, stackFails := [], bridgeFails := [], segFails := [], bistFails := []
    columnFails := [], rowRejects := [], entropyOk := [0, 1, 2, 3], impedanceUohm := 0, journalOk := true, torn := none, bankAOk := true, bankBOk := false }

theorem test_starts : startsUp State.reset (facts true 20000) (.startUp (facts true 20000)) ∧ State.reset.journal.valid = true ∧
    State.reset.journal.committed = [] ∧ (getBank State.reset 0).image = [] := ⟨⟨rfl, .inl ⟨rfl, by decide⟩⟩, by decide, by decide, by decide⟩

theorem test_start_leak : leaves (exec (.startUp (facts true 20000)) State.reset) (fun t => t.power.phase == .faultStop && t.power.faultReason == 3) = true ∧
    leaves (exec (.startUp { facts true 20000 with leakEarly := true }) State.reset) (fun t => t.power.phase == .faultStop &&
      t.power.faultReason == 3 && t.power.bootStep == 2) = true := by decide +kernel

theorem test_restart_hot : (let s := { State.reset with power := { State.reset.power with railsOffAt := some 100000000 } }
    inletHot 120000 && !inletHot 20000 && leaves (exec (.powerFailRestart (facts false 120000)) s) (fun t =>
      t.power.phase == .boot && t.power.bootStep == 4)) = true := by decide +kernel

/-- No journal and no bank. -/
def bare : State := { State.reset with journal := { State.reset.journal with valid := false } }

theorem test_no_bank : startsUp bare { facts false 20000 with bankAOk := false } (.startUp { facts false 20000 with bankAOk := false }) ∧
    bare.journal.valid = false ∧ (getBank bare 0).image = [] ∧ (getBank bare 1).image = [] := ⟨⟨rfl, .inl ⟨rfl, by decide⟩⟩, by decide, by decide, by decide⟩

theorem test_start_ready : startsUp State.reset (facts false 20000) (.startUp (facts false 20000)) ∧ inletHot (facts false 20000).coolantMilli = false ∧
    (narrowBridges (facts false 20000) = [] ∧ (facts false 20000).stackFails = []) :=
  ⟨⟨rfl, .inl ⟨rfl, by decide⟩⟩, by decide +kernel, by decide +kernel⟩

/-- Start-up has halted without a bank; recovery is unlocked. -/
def recovering : State := { phaseIs .boot 0 with
  power := { (phaseIs .boot 0).power with bootHalt := true, heldFacts := some (facts false 20000) }, sec := { up.sec with debug := .recovery } }

theorem test_recovery : recovering.power.heldFacts ≠ none ∧ recovering.power.bootHalt = true ∧ recovering.sec.debug ≠ .locked ∧ ([1] : Bytes) ≠ [] := by decide

theorem test_input_bands : leaves (exec (.inputHigh 62000) up) (fun t => t.power.band == .high) = true ∧
    leaves (exec (.inputLow 44000) up) (fun t => t.power.band == .low) = true := by decide +kernel

/-- A power sample without a load step. -/
def sample : PowerSample := ⟨1000000, 900000, 54000, 18000, none⟩

/-- Z has been measured at 100 microohm eight times. -/
def measured : State := { up with power := { up.power with zSamples := List.replicate 8 (100, 1) } }

theorem test_power_control : impedance up.power = none ∧
    leaves (exec (.powerControlUpdate sample) up) (fun t => t.power.credit == min 800000000 (up.power.credit + min (1000 * param up 0x1000 0 : Nat) 2800000 - 1000000)) = true ∧
    leaves (exec (.powerControlUpdate sample) (phaseIs .faultStop 1)) (fun t => param t 0x1100 0 == milliF32 54000) = true := by decide +kernel

theorem test_impedance : (droopMw measured.power 54000 18000).isSome = true := by
  have h : (List.replicate 8 ((100, 1) : Nat × Nat)).mergeSort zLe = List.replicate 8 (100, 1) := List.mergeSort_of_pairwise (by decide)
  simp only [droopMw, impedance, measured, h]
  decide

theorem test_thermal : leaves (exec (.thermalEvaluate 3 114999) up) (fun t => tget t.power.thermalShare 0 3 == 1 && t.power.hotDies == [3]) = true ∧
    leaves (exec (.thermalEvaluate 3 20000) { up with power := { up.power with thermalShare := [(3, 64)] } }) (fun t => tget t.power.thermalShare 0 3 == 63) = true := by
  decide +kernel

theorem test_coolant : leaves (exec (.coolantRead (-20000) 120000) up) (fun t => param t 0x1122 0 == 3 && !t.power.coolantHot) = true ∧
    leaves (exec (.coolantRead 120000 20000) up) (fun t => t.power.coolantHot) = true := by decide +kernel

theorem test_drain : writeStatus up keyWho 0x1001 0 = 0 ∧ leaves (exec (.drain keyWho) up) (fun t => t.power.draining &&
    leaves (exec (.undrain keyWho) t) (fun u => !u.power.draining)) = true := by decide +kernel

/-- A journal record. -/
def jr : JRec := ⟨0, 5, true, false, .svc 1⟩

/-- The journal changed, at a reference time. -/
def journal (ns : Nat) (f : JournalUnit → JournalUnit) : State := { up with journal := f up.journal, orbit := { up.orbit with refNs := ns, now := ns, state := .locked } }

theorem test_page_timer : leaves (exec .journalPageTimer (journal 100000005 fun j => { j with openPage := [jr] })) (fun t =>
    t.journal.programming == [jr] && t.journal.openPage.isEmpty) = true := by decide +kernel

theorem test_page_programmed : leaves (exec (.journalPageProgrammed true) (journal 0 fun j => { j with programming := [jr] })) (fun t =>
      t.journal.committed == [jr] && t.journal.spare == 127) = true ∧
    leaves (exec (.journalPageProgrammed true) (journal 0 fun j => { j with programming := [jr], spare := 0 })) (fun t =>
      t.power.phase == .faultStop && t.power.faultReason == 10) = true := by decide +kernel

theorem test_page_compacts : leaves (exec (.journalPageProgrammed false) (journal 0 fun j => { j with programming := [jr], pages := regionPages })) (fun t =>
    t.journal.compacting) = true := by decide +kernel

theorem test_compact_now : writeStatus up keyWho 0xB105 0 = 0 ∧ leaves (exec (.compactNow keyWho) up) (fun t => t.journal.compacting &&
    leaves (exec (.compactNow keyWho) t) (fun u => u.journal == t.journal) &&
    leaves (exec .compactionDone t) (fun u => !u.journal.compacting && u.journal.active == 1 && u.journal.epoch == 1)) = true := by decide +kernel

theorem test_compact_at : earlierDue (setParam (journal 9 id) 0xB104 0 9) 9 9 = false ∧ leaves (exec .compactAt (setParam (journal 9 id) 0xB104 0 9)) (fun t => t.journal.compacting && param t 0xB104 0 == 0) = true ∧
    leaves (exec .compactAt { setParam (journal 9 id) 0xB104 0 9 with fw := { up.fw with swap := some (1, false) } }) (fun t => t.journal.compactWaits) = true := by
  decide +kernel

theorem test_journal_reset : leaves (exec (.journalReset keyWho) (phaseIs .faultStop 10)) (fun t => t.journal.wasReset && t.power.phase == .faultStop) = true ∧
    leaves (exec (.journalReset keyWho) up) (fun t => t.dict.answer.status == 7) = true := by decide +kernel

/-- Service is requested for every reason. -/
def svc : State := { up with power := { up.power with svcReason := 31 } }

theorem test_svc_clear : writeStatus svc keyWho 0xB140 0 = 0 ∧ leaves (exec (.svcClear keyWho 4) svc) (fun t => t.power.svcReason == 27) = true ∧
    leaves (exec (.svcClear keyWho 16) svc) (fun t => t.dict.answer.status == 7 && t.power.svcReason == 31) = true := by decide +kernel

theorem test_counters_record : leaves (exec .counters (later (setParam up 0x5041 2 3) 1000000000)) (fun t => t.journal.committed.isEmpty &&
    t.journal.countAt == 1000000000) = true ∧ changedCounters up = [] := by decide +kernel

/-- The firmware changed. -/
def fw (f : FwUnit → FwUnit) : State := { up with fw := f up.fw }

/-- A firmware command; the other bank with a security version. -/
def fcmd : FwCmd := ⟨1, 0, false⟩

theorem test_stage : writeStatus up keyWho 0xB110 0 = 0 ∧ leaves (exec (.stage keyWho fcmd) up) (fun t => t.fw.staging == some 1 && t.fw.other == 1) = true ∧
    leaves (exec (.fwStaged [] 1) (fw fun f => { f with staging := some 1 })) (fun t => t.fw.other == 3 && t.fw.code == 3) = true := by decide +kernel

theorem test_activate : leaves (exec (.activate keyWho fcmd) (fw fun f => { f with other := 2 })) (fun t => t.fw.swap == some (1, false)) = true ∧
    leaves (exec (.activate keyWho fcmd) up) (fun t => t.fw.code == 2) = true := by decide +kernel

theorem test_activate_busy : leaves (exec (.activate keyWho fcmd) (journal 0 fun j => { j with compacting := true })) (fun t => t.fw.code == 5) = true := by
  decide +kernel

/-- A trial of bank A, whose security version is 3; bank B is VALID with version 1. -/
def trial : State := fw fun f => { f with trial := true, other := 2, banks := [(0, { Bank.reset with svn := 3, valid := true }), (1, { Bank.reset with svn := 1, valid := true })] }

theorem test_commit : leaves (exec (.commit keyWho fcmd) trial) (fun t => t.fw.fusedSvn == 3 && !t.fw.trial && t.fw.other == 3 && !(getBank t 1).valid) = true ∧
    leaves (exec (.commit keyWho fcmd) up) (fun t => t.fw.code == 2) = true := by decide +kernel

theorem test_revert : leaves (exec (.revert keyWho fcmd) trial) (fun t => t.fw.swap == some (1, false)) = true ∧
    leaves (exec (.revert keyWho fcmd) up) (fun t => t.fw.code == 2) = true := by decide +kernel

theorem test_trial_ends : leaves (exec .fwTrialExpire (later trial (10 ^ 15))) (fun t => t.fw.fusedSvn == 3 && !t.fw.trial) = true ∧
    leaves (exec .fwWatchdog trial) (fun t => t.fw.swap == some (1, true)) = true := by decide +kernel

theorem test_swap_done : leaves (exec (.fwSwapDone true) { trial with fw := { trial.fw with swap := some (1, false) } }) (fun t => t.fw.running == 1 && !t.fw.trial) = true ∧
    leaves (exec (.fwSwapDone false) { trial with fw := { trial.fw with swap := some (1, false) } }) (fun t => t.fw.running == 0 && t.fw.fellBack) = true := by
  decide +kernel

theorem test_reloading : writeStatus up keyWho 0xB120 0 = 0 ∧ leaves (exec (.reloadStale keyWho) up) (fun t => t.cores.reloading &&
    leaves (exec (.stop keyWho) t) (fun u => !u.cores.reloading)) = true := by decide +kernel

theorem test_recal : leaves (exec (.hbmRecalWindow 7 31) (later up (10 ^ 15))) (fun t => tfind t.mem.recal 7 == some 31 &&
    leaves (exec (.hbmRecalWindow 7 30) t) (fun u => tfind u.mem.recal 7 == some 31) &&
    leaves (exec (.hbmRecalDone 7 []) t) (fun u => (tfind u.mem.recal 7).isNone)) = true := by decide +kernel

/-! ## Security and the test port -/

/-- Operator keys fused, offers live. -/
def secured (keys : List Bytes) (offers : List Offer) : State := { up with sec := { up.sec with operatorKeys := keys, offers := offers } }

/-- A digest. -/
def digest (b : Byte) : Bytes := b :: List.replicate 63 0

theorem test_operator_key : writeStatus up keyWho 0xA001 0 = 0 ∧ writeStatus up pfWho 0xA001 0 = 0 ∧
    leaves (exec (.operatorKeyDigest pfWho (digest 1)) up) (fun t => t.sec.operatorKeys == [digest 1] &&
      leaves (exec (.operatorKeyDigest pfWho (digest 2)) t) (fun u => u.dict.answer.status == 10) &&
      leaves (exec (.operatorKeyDigest keyWho (digest 2)) t) (fun u => u.sec.operatorKeys == [digest 1, digest 2])) = true ∧
    leaves (exec (.operatorKeyDigest keyWho (digest 0)) up) (fun t => t.dict.answer.status == 7) = true := by decide +kernel

theorem test_operator_key_full : leaves (exec (.operatorKeyDigest keyWho (digest 5)) (secured (List.replicate 4 (digest 1)) [])) (fun t =>
    t.dict.answer.status == 7 && t.sec.operatorKeys.length == 4) = true := by decide +kernel

theorem test_offers : readStatus up pfWho 0xA002 0 = 0 ∧ readStatus up pfWho 0xA030 1 = 0 := by decide +kernel

theorem test_offer_expires : leaves (exec (.offerExpire 6) (later (secured [] [⟨6, 0xFF, [], 0⟩]) 60000000000)) (fun t => t.sec.offers.isEmpty) = true := by
  decide +kernel

/-- A session request for an offer. -/
def sessionBytes (id : Nat) : Bytes := leBytes 8 id ++ List.replicate 1576 0

theorem test_session_open : writeStatus up pfWho 0xA003 0 = 0 ∧ (sessionBytes 6).length = 1584 ∧ (liveOffer (secured [] [⟨6, 0xFF, [], 0⟩]) 0xFF).map Offer.id = some 6 ∧
    leaves (exec (.sessionOpen pfWho (sessionBytes 7)) (secured [] [⟨6, 0xFF, [], 0⟩])) (fun t => t.dict.answer.status == 7) = true ∧
    leaves (exec (.sessionOpen pfWho (sessionBytes 6)) (secured [] [⟨6, 0xFF, [], 0⟩])) (fun t => t.sec.provisional.isSome) = true := by decide +kernel

theorem test_session_prove : writeStatus up keyWho 0xA004 0 = 0 ∧ (List.replicate 7219 (0 : Byte)).length = 7219 := by decide +kernel

theorem test_report : readStatus up pfWho 0xA021 1 = 0 ∧ (attestNonce up pfWho 1).length = 32 := by decide +kernel

/-- A key delivery to a moon under an offer. -/
def delivery (id m : Nat) : Bytes := leBytes 8 id ++ leBytes 8 m ++ List.replicate 1640 0

theorem test_key_load : writeStatus up pfWho 0xA031 1 = 0 ∧ (delivery 6 1).length = 1656 ∧
    leaves (exec (.keyLoad pfWho 1 (delivery 6 1)) m1) (fun t => t.dict.answer.status == 8) = true ∧
    leaves (exec (.keyLoad pfWho 1 (delivery 7 1)) (secured [] [⟨6, 1, [], 0⟩])) (fun t => (keySlot t 1).lastError == 1) = true ∧
    leaves (exec (.keyLoad pfWho 1 (delivery 6 2)) (secured [] [⟨6, 1, [], 0⟩])) (fun t => (keySlot t 1).lastError == 2 && t.sec.offers.isEmpty) = true := by
  decide +kernel

theorem test_keys : writeStatus up pfWho 0xA032 1 = 0 ∧ (getMoon up 1).state = .free ∧
    leaves (exec (.generate pfWho 1) up) (fun t => (keySlot t 1).generated && t.free == 1 &&
      leaves (exec (.erase pfWho 1) t) (fun u => keySlot u 1 == KeySlot.reset)) = true ∧
    leaves (exec (.generate pfWho 1) m1) (fun t => t.dict.answer.status == 8) = true ∧
    leaves (exec (.erase pfWho 1) m1) (fun t => t.dict.answer.status == 8) = true := by decide +kernel

/-- A debug response was refused at 0; a challenge is live. -/
def refused : State := { up with sec := { up.sec with refusedAt := some 0, challenge := some [] } }

theorem test_challenge : leaves (exec .dbgChallenge up) (fun t => t.sec.challenge.isSome && t.free == 1) = true ∧
    leaves (exec .dbgChallenge (later refused 999999999)) (fun t => t.sec.challenge == some []) = true := by decide +kernel

theorem test_response : leaves (exec (.dbgResponse [1]) (later refused 7)) (fun t => t.sec.challenge.isNone && t.sec.refusedAt == some 7 && t.sec.debug == .locked) = true := by
  decide +kernel

theorem test_tap : leaves (exec .idcode up) (fun t => t.jtag.dr == 0xBC640547) = true ∧
    leaves (exec (.samplePreload (some 5)) up) (fun t => t.jtag.cells == 5 && leaves (exec (.samplePreload none) t) (fun u => u.jtag.ir == .sample) &&
      leaves (exec .tapReset t) (fun u => u.jtag.ir == .idcode) && leaves (exec .bypass t) (fun u => u.jtag.ir == .bypass)) = true := by decide +kernel

theorem test_extest : leaves (exec (.extest 9) up) (fun t => t.jtag.cells == 0 && t.jtag.dr == 0) = true ∧
    leaves (exec (.extest 9) (phaseIs .faultStop 1)) (fun t => t.jtag.cells == 9) = true := by decide +kernel

/-! ## Further clauses of the statements -/

theorem test_stat_rows : ([.dictStatRead pfWho, .powerStatRead pfWho, .orbitStatRead pfWho, .arrayStatRead pfWho 3, .memStatRead pfWho 0x4003 0,
    .memStatRead pfWho 0x4010 0, .memStatRead pfWho 0x4032 0, .linkStatRead pfWho 3, .moonStatRead pfWho 1, .taskStatRead pfWho 1,
    .serveStatRead pfWho 1, .trainStatRead pfWho 1, .packStatRead pfWho, .fmtStatRead pfWho 3] : List Instr).all (fun c =>
      leaves (exec c m1) fun t => t.dict.answer.status == 0 && t.dict.answer.value == leBytes 4 0) = true := by decide +kernel

/-- A host write of function 0 waits. -/
def behind (s : State) : State := { s with host := { s.host with waiting := [.bar2 0 [1]] } }

/-- R417, R426: later writes of the function wait behind it. -/
theorem test_writes_wait : hostWaits (behind r1) 0 = true ∧
    leaves (exec (.ringTail 0 1 0 2) (behind r1)) (fun t => t.host.waiting == [.bar2 0 [1], .tail 0 1 0 2] && (getRing t 1 0).tail == 1) = true ∧
    leaves (exec (.bar2Write (5 * 2 ^ 21) [7]) (behind bar2)) (fun t => t.host.waiting.length == 2 && t.mem.hbm == []) = true ∧
    leaves (exec (.registerWrite 0 0x1FFF [9]) (behind up)) (fun t => t.host.waiting.length == 2 && (getFn t 0).reqBuf == []) = true := by
  decide +kernel

/-- A window write to a page that a migration moves waits. -/
theorem test_window_waits : (let s := { vfs (modMoon r1 1 fun x => { x with table := [(0, ⟨true, true, false, true, 0, 5, 1⟩)] }) with
      host := { (vfs r1).host with winBase := [(1, hbmRegion)] } }
    windowMa s 1 1 0x40 2 == some (hbmRegion + 0x40) && windowWaits s 1 (hbmRegion + 0x40) 2 &&
      leaves (exec (.ringWindowWrite 1 0 0x40 [5, 6]) s) (fun t => t.host.waiting == [.window 1 1 (hbmRegion + 0x40) [5, 6]])) = true := by decide +kernel

/-- R416: the low half of a base that comes first is kept for its high half. -/
theorem test_win_base_low : leaves (exec (.winBase 1 0 false 0x400000) (vfs r1)) (fun s => tget s.host.winBase 0 1 == 0x400000 &&
    leaves (exec (.winBase 1 0 true 0x100) s) (fun t => tget t.host.winBase 0 1 == hbmRegion + 0x400000)) = true := by decide +kernel

/-- R249: an octet move ends when no work is left on the octet. -/
theorem test_octet_move : (let s := moon1 fun x => { x with moves := [(0, 7, 0)] }
    (getMoon s 1).swap == .none && octetLeft s 1 0 &&
      leaves (exec (.restoreDone 1) s) (fun t => (getMoon t 1).octets == [7] && (getMoon t 1).moves.isEmpty)) = true := by decide +kernel

/-- A restore that ends in another state leaves that state. -/
theorem test_restore_keeps_state : leaves (exec (.restoreDone 1) (moon1 fun x => { x with state := .resizing, prev := .waiting, swap := .restoring, spilled := true }))
    (fun t => (getMoon t 1).state == .resizing && !(getMoon t 1).spilled && (getMoon t 1).swap == .none) = true := by decide +kernel

/-- R216: a failed step whose plan has drained closes. -/
theorem test_failed_step_closes : (let s := stepRuns 0 true []
    let u := { s with tasks := { s.tasks with tasks := s.tasks.tasks.map fun x => { x with result := 1 } } }
    (runningStep u 1 0 0).isSome && !planBusy u 1 0 && leaves (exec (.stepClose 1 0 0) u) (fun t => phaseOf t 1 0 0 == some .done &&
      (getSlot t 1 0).running.isNone && (findRun t 1 0 0).isNone)) = true := by decide +kernel

/-- R216: while a task of the plan still runs, the failed step waits for it. -/
theorem test_failed_step_waits : (let s := stepRuns 0 true []
    let u := { s with tasks := { s.tasks with tasks := s.tasks.tasks ++ [{ mkTask 1 16 0 (desc 4 0 0) [] with phase := .recorded, result := 1 },
      { mkTask 1 16 1 (desc 2 0 0) [] with phase := .running, work := [⟨0, 0, 0, false, [], 0, [], 0⟩] }] } }
    planBusy u 1 0 && leaves (exec (.stepClose 1 0 0) u) (fun t => (findTask t 1 0 0).map (fun x => (x.phase, x.error)) == some (.running, 0x0407))) = true := by
  decide +kernel

/-- The follower's plan is loaded with the quantities of an empty list. -/
theorem test_follow_plan : (let s := stepRuns 1 false []
    match writeMa s 1 (ma 0x20000) (leBytes 64 0) with
    | .error _ => false
    | .ok s1 => match findTask s 1 0 0 with
      | none => false
      | some u => match loadPlan (listTaken s1 1 0 0 ⟨leBytes 64 0, 5, 1, 0⟩) 1 16 u.desc (parseStep u.ext).plan (listQty (leBytes 64 0) (parseStep u.ext).wlBuf) with
        | .ok (some (_, t)) => (ringTasks t 1 16).length == 1 && (findRun t 1 0 0).map (fun x => x.kstatus.toNat.testBit 8) == some true
        | _ => false) = true := by decide +kernel

/-- R343: a CANCEL with a reserved field that is not zero shows OP_BAD. -/
theorem test_fetch_cancel_rsv : leaves (exec (.fetchCancel pfWho 1 { fc with rsv := true }) (fetching fj)) (fun t =>
    tfind t.fetch.status 1 == some (.ofNat 32 (4 + 256 * fetchOpCode .cancel + 65536)) && t.fetch.jobs == (fetching fj).fetch.jobs) = true := by decide +kernel

/-- R345: an overlay whose version has gone does not match. -/
theorem test_base_gone : baseMatches (getSlot m1 1 0) .loadOverlay (parseHdr (chunked false).header) = false ∧
    baseMatches (getSlot m1 1 0) .loadBase (parseHdr (chunked false).header) = true := by decide +kernel

/-- R360: a flit with a codeword that FEC could not correct is discarded though it is good otherwise. -/
theorem test_uncorrected_flit : leaves (exec (.data 3 { flit with fecUncorr := 1 }) (linked r1)) (fun t => (getPort t 3).rxSeq == 0 && (getPort t 3).asked) = true := by
  decide +kernel

/-- A CONTROL flit of the orbit unit. -/
theorem test_control_kinds : (takeFlit (linked r1) 3 flit).2 = true ∧ (getPort (takeFlit (linked r1) 3 flit).1 3).sxl1 = false ∧
    leaves (exec (.control 3 flit .linkUp []) (linked r1)) (fun t => (getPort t 3).rxSeq == 1) = true := by decide +kernel

/-- R425: with Completion Timeout Disable no read of the host times out. -/
theorem test_cto_disabled : (let s := { hostMove with host := { hostMove.host with funcs := [(0, { Func.reset with cfg := [(0x1A, 0x10)] })] } }
    (tget (getFn s 0).cfg 0 0x1A).testBit 4 && leaves (exec (.hostCplTimeout 1 (some (0, 0))) s) (fun t => t == s)) = true := by decide +kernel

/-- A request of a mailbox waits. -/
def busyDict (n : Nat) : State := { up with dict := { up.dict with held := List.replicate n ⟨.mgt 0, fr, [(.read, item 0x5010 0)]⟩ } }

/-- R447: a ninth request at a management port is dropped; R442: one that comes while others wait is held. -/
theorem test_requests_wait : requestsWait (busyDict 1) = true ∧ portFull (busyDict 8) (.mgt 0) = true ∧ portFull (busyDict 7) (.mgt 0) = false ∧
    leaves (exec (.read (.mgt 0) { fr with broadcast := true } (item 0x5010 0)) (busyDict 7)) (fun t => t.dict.held.length == 8) = true ∧
    leaves (exec (.write (.mgt 0) { fr with broadcast := true } (item 0x5010 0)) (busyDict 8)) (fun t => t.dict.held.length == 8 && cntB t 0x0033 0 == 1) = true := by
  decide +kernel

/-- R438: a request body of more than 1,500 bytes at a management port. R447: a frame of another EtherType is not for the port. -/
theorem test_frame_limits : (let f := { fr with role := 2, broadcast := true, raw := List.replicate 1501 0 }
    decide (rspLimit (.mgt 0) < (requestBytes f [(.read, item 0x5010 0)]).length) &&
      leaves (exec (.read (.mgt 0) f (item 0x5010 0)) up) (fun t => t.dict.answer.frame == 0x28)) = true ∧
    leaves (exec (.describe (.mgt 0) { fr with role := 2, broadcast := true, etherType := 0x0800 } (item 0x5010 0)) up) (fun t => t == up) = true := by
  decide +kernel

/-- R439: a selector that names no element, a parameter of another's moon, a claim of a key that is claimed. -/
theorem test_item_owner : (let s := { m1 with dict := { m1.dict with selectors := [(selKey pfWho 0x5020 0, 0xFFFF)] } }
    let v := { m1 with
      host := { m1.host with vfEnable := true, numVfs := 2 }
      dict := { m1.dict with selectors := [(8 * 0x9001 + roleCode pfWho.role, 1)] } }
    check s .read (item 0x5021 1) == 2 && check s .describe (item 0x5021 1) == 0 && check v .write (item 0x9502 1) == 3 &&
      check (secured [digest 1] []) .write (item 0xA001 0) == 10 && check up .write (item 0xA001 0) == 0) = true := by decide +kernel

/-- R462: a die at 115 °C stops a module that starts up, with its share raised and its event first. -/
theorem test_thermal_in_boot : leaves (exec (.thermalEvaluate 3 115000) (phaseIs .boot 0)) (fun t => t.power.phase == .faultStop &&
    t.power.faultReason == 4 && tget t.power.thermalShare 0 3 == 1) = true := by decide +kernel

/-- R456: the high band entered again from above, the low band from below. -/
theorem test_band_again : leaves (exec (.inputHigh 62001) up) (fun s => s.power.band == .over &&
      leaves (exec (.inputHigh 62000) s) (fun t => t.power.band == .high)) = true ∧
    leaves (exec (.inputLow 43999) up) (fun s => s.power.band == .under && leaves (exec (.inputLow 44000) s) (fun t => t.power.band == .low)) = true := by
  decide +kernel

/-- The rails have been off for 100 ms. -/
theorem test_restart_ready : (let s := { State.reset with power := { State.reset.power with railsOffAt := some 100000000 } }
    s.power.phase == .off && railsRested s && s.journal.valid && s.journal.committed.isEmpty && (getBank s 0).image.isEmpty) = true := by decide +kernel

/-- R374: a FAILED port that is disabled stays FAILED. -/
theorem test_disable_failed : leaves (exec (.disable pfWho 3) (phased .failed)) (fun t => (getPort t 3).phase == .failed && !(getPort t 3).enabled) = true := by
  decide +kernel

/-- R394: after an expulsion before the first lock the interval is measured on the module's reference. -/
theorem test_expel_free : (let m := { manager with pack := { manager.pack with expelFree := true, members := [(0, { freshMember 7 with health := .suspect })] } }
    let s := setParam (later m (10 ^ 15)) 0xB026 0 1
    let l := { s with orbit := { s.orbit with state := .locked, now := 0 } }
    topSuspect l == some 0 && leaves (exec .expelIntervalElapsed l) (fun t => (getMember t 0).health == .expelled)) = true := by decide +kernel

/-- R402: with no port in use HOLDOVER comes after 100 µs too. -/
theorem test_no_port_in_use : (let s := setParam (heard .locked fun o => { o with refNs := 100000 }) 0x2033 0 0xFF
    beaconMissing s && portInUse s == 0xFF && leaves (exec .beaconTimeout s) (fun t => t.orbit.state == .holdover && cntB t 0x203B 0 == 0)) = true := by
  decide +kernel

/-- R401: the path of the other port is measured too. -/
theorem test_delay_other_port : (let s := setParam (port3 (setParam (heard .locked id) 0x2033 0 5) fun x => { x with phase := .up, partner := some mate }) 0x2034 0 3
    let s := { s with orbit := { s.orbit with refNs := 1000000 } }
    3 == orbitPortOf s true && leaves (exec .delayReqSend s) (fun t => t.out.any fun o => match o with | .control 3 .delayReq _ [0] => true | _ => false) &&
      leaves (exec (.delayResp 3 0 10 30 100) s) (fun t => tget t.orbit.delays [] 3 == [80, 80])) = true := by decide +kernel

/-- R457: the coolant is read in Fault-Stop. -/
theorem test_coolant_stopped : dead (phaseIs .faultStop 1) = false ∧ leaves (exec (.coolantRead 20000 120000) (phaseIs .faultStop 1)) (fun t =>
    param t 0x1120 0 == milliF32 20000 && param t 0x1121 0 == milliF32 120000) = true := by decide +kernel

/-- R498: the trial ends in Fault-Stop too. -/
theorem test_trial_ends_stopped : (let s := later { trial with power := { trial.power with phase := .faultStop } } (10 ^ 15)
    fwServes s && leaves (exec .fwTrialExpire s) (fun t => t.fw.fusedSvn == 3 && !t.fw.trial)) = true := by decide +kernel

/-- A response for a request that came by a port. -/
theorem test_gateway_link : (let s := { awaits false with dict := { (awaits false).dict with forwarded := (awaits false).dict.forwarded.map fun x => { x with origin := .link 3 } } }
    leaves (exec (.gatewayResponse 4 [1, 2]) s) (fun t => t.dict.forwarded.isEmpty && t.out.any fun o => match o with
      | .dictFrame (.link _) b => b == [1, 2] | _ => false)) = true := by decide +kernel

/-- R20: the first failed bridge goes into detour, a second one stops the module. -/
theorem test_bridge_fails : up.cores.bridges = [] ∧ leaves (exec (.bridgeFail 2) up) (fun s => tget s.cores.bridges .full 2 == .detour &&
    s.power.phase == .up && leaves (exec (.bridgeFail 5) s) (fun t => t.power.phase == .faultStop && t.power.faultReason == 6)) = true := by decide +kernel

end Sys2Proof.Tests
end

section
/-! The choice of a spare core (R25): the fold of `nearest` keeps, of the spares seen so far, one at the smallest distance, and among those the
first. The kennel lists its cores in ascending order, so the first is the lowest. -/

namespace Sys2Proof.Proofs

open Sys2Proof.Machine

/-- `x` is in `l`, and every spare of `l` is farther from `pc`, or equally far and not lower (the rule of R25). -/
def IsNearest (pc : Nat) (l : List Nat) (x : Nat) : Prop :=
  x ∈ l ∧ ∀ y ∈ l, pcDist pc x < pcDist pc y ∨ (pcDist pc x = pcDist pc y ∧ x ≤ y)

/-- Induction along a left fold: the last element joins at the end. -/
theorem concat_induction {α : Type} {P : List α → Prop} (nil : P []) (concat : ∀ l x, P l → P (l ++ [x])) (l : List α) : P l := by
  have rev : ∀ r : List α, P r.reverse := fun r => by
    induction r with
    | nil => exact nil
    | cons x r ih => exact List.reverse_cons ▸ concat r.reverse x ih
  exact l.reverse_reverse ▸ rev l.reverse

theorem nearest_concat_of_none {pc : Nat} {l : List Nat} (h : nearest pc l = none) (x : Nat) : nearest pc (l ++ [x]) = some x := by
  unfold nearest at *
  rw [List.foldl_append, h]
  rfl

theorem nearest_concat_of_some {pc y : Nat} {l : List Nat} (h : nearest pc l = some y) (x : Nat) :
    nearest pc (l ++ [x]) = if pcDist pc x < pcDist pc y then some x else some y := by
  unfold nearest at *
  rw [List.foldl_append, h]
  rfl

theorem nearest_eq_none_iff (pc : Nat) (l : List Nat) : nearest pc l = none ↔ l = [] := by
  induction l using concat_induction with
  | nil => exact iff_of_true rfl rfl
  | concat l x _ =>
    cases h : nearest pc l with
    | none => simp [nearest_concat_of_none h]
    | some y =>
      rw [nearest_concat_of_some h]
      split <;> simp

theorem isNearest_singleton (pc x : Nat) : IsNearest pc [x] x := by
  simp [IsNearest]

/-- A strictly closer spare takes the place of the nearest one so far. -/
theorem IsNearest.concat_closer {pc x y : Nat} {l : List Nat} (h : IsNearest pc l y) (hd : pcDist pc x < pcDist pc y) :
    IsNearest pc (l ++ [x]) x := by
  obtain ⟨-, hmin⟩ := h
  refine ⟨by simp, fun z hz => ?_⟩
  rcases List.mem_append.1 hz with hz | hz
  · have := hmin z hz
    omega
  · obtain rfl := List.mem_singleton.1 hz
    exact .inr ⟨rfl, Nat.le_refl _⟩

/-- A spare with a higher number that is no closer leaves the nearest one so far in place. -/
theorem IsNearest.concat_not_closer {pc x y : Nat} {l : List Nat} (h : IsNearest pc l y) (hd : pcDist pc y ≤ pcDist pc x) (hlt : y < x) :
    IsNearest pc (l ++ [x]) y := by
  obtain ⟨hmem, hmin⟩ := h
  refine ⟨List.mem_append_left _ hmem, fun z hz => ?_⟩
  rcases List.mem_append.1 hz with hz | hz
  · exact hmin z hz
  · obtain rfl := List.mem_singleton.1 hz
    omega

theorem isNearest_of_nearest {pc : Nat} {l : List Nat} (hl : l.Pairwise (· < ·)) {x : Nat} (h : nearest pc l = some x) :
    IsNearest pc l x := by
  induction l using concat_induction generalizing x with
  | nil => exact absurd h (by simp [nearest])
  | concat l a ih =>
    obtain ⟨hl, -, hlast⟩ := List.pairwise_append.1 hl
    cases hn : nearest pc l with
    | none =>
      rw [nearest_concat_of_none hn] at h
      obtain rfl := (nearest_eq_none_iff pc l).1 hn
      obtain rfl := Option.some.inj h
      exact isNearest_singleton pc a
    | some y =>
      have hy : IsNearest pc l y := ih hl hn
      rw [nearest_concat_of_some hn] at h
      split at h
      · next hd =>
        obtain rfl := Option.some.inj h
        exact hy.concat_closer hd
      · next hd =>
        obtain rfl := Option.some.inj h
        exact hy.concat_not_closer (Nat.not_lt.1 hd) (hlast y hy.1 a (List.mem_singleton_self a))

theorem kennel_ascending (s : State) (die : Nat) : (kennel s die).Pairwise (· < ·) :=
  List.pairwise_lt_range.filter _

/-- Settles O10: the spares left to a die ascend, and on an ascending list `nearest` picks as R25 says. -/
theorem nearestSpareIsPicked : Obligations.NearestSpareIsPicked := by
  unfold Obligations.NearestSpareIsPicked
  intro s die pc left
  have hleft : left.Pairwise (· < ·) := (kennel_ascending s die).filter _
  exact ⟨nearest_eq_none_iff pc left, fun _ hx => isNearest_of_nearest hleft hx⟩

end Sys2Proof.Proofs
end

section
/-! The translation of a moon address (R42): one equation of `homeOf` for each region. -/

namespace Sys2Proof.Proofs

open Sys2Proof.Machine

section Regions

variable {s : State} {m ma : Nat} {write : Bool}

theorem homeOf_spm {c : Nat} (hma : ma < 0x200000000) (hc : moonCore s m (ma / 2 ^ 24) = some c) :
    homeOf s m ma write = .ok (.spm (c * 2 ^ 24 + ma % 2 ^ 24)) := by
  rw [homeOf, if_pos hma, hc]

theorem homeOf_spm_of_no_core (hma : ma < 0x200000000) (hc : moonCore s m (ma / 2 ^ 24) = none) :
    homeOf s m ma write = .error ⟨0x0201, ma⟩ := by
  rw [homeOf, if_pos hma, hc]

theorem homeOf_outside_regions (hspm : 0x200000000 ≤ ma) (hhbm : ¬ (hbmRegion ≤ ma ∧ ma < hbmEnd)) :
    homeOf s m ma write = .error ⟨0x0201, ma⟩ := by
  rw [homeOf, if_neg (Nat.not_lt.2 hspm), if_neg hhbm]

/-- A page that may be read and written and is neither lost nor moving: the checks of R169 pass, and the access waits (code 0) exactly where
the HBM controller holds it (R180, R491). -/
theorem homeOf_hbm_of_open_page {e : PageEntry} (hlo : hbmRegion ≤ ma) (hhi : ma < hbmEnd)
    (he : entryOf s m ((ma - hbmRegion) / pageBytes) = some e) (hr : e.r = true) (hw : e.w = true) (hp : e.poison = false)
    (hg : e.migrating = false) :
    homeOf s m ma write =
      if hbmWaits s (pageHpa (pageKey e.stack e.page) (ma % pageBytes)) write then .error ⟨0, ma⟩
      else .ok (.hbm (pageHpa (pageKey e.stack e.page) (ma % pageBytes)) e.owner) := by
  have hspm : ¬ ma < 0x200000000 := Nat.not_lt.2 (Nat.le_trans (by decide) hlo)
  rw [homeOf, if_neg hspm, if_pos ⟨hlo, hhi⟩, he]
  simp [hr, hw, hp, hg]

end Regions

/-- Settles O16, region by region of R42. -/
theorem moonAddressesTranslate : Obligations.MoonAddressesTranslate := by
  unfold Obligations.MoonAddressesTranslate
  intro s m ma write
  refine ⟨fun c hma hc => homeOf_spm hma hc, fun hma hlen => ?_, fun hlo hhi => ?_, fun hlo => ?_, fun e hlo hhi he hr hw hp hg hwait => ?_⟩
  · exact ⟨_, homeOf_spm_of_no_core hma (List.getElem?_eq_none hlen), rfl⟩
  · exact ⟨_, homeOf_outside_regions hlo fun h => Nat.not_le.2 hhi h.1, rfl⟩
  · exact ⟨_, homeOf_outside_regions (Nat.le_trans (by decide) hlo) fun h => Nat.not_lt.2 hlo h.2, rfl⟩
  · rw [homeOf_hbm_of_open_page hlo hhi he hr hw hp hg]
    exact if_neg (by simpa [pageHpa, pageKey, pageBytes] using hwait)

end Sys2Proof.Proofs
end

section
/-! INT32 accumulation (R103): on values of integers the exact sum of a slot is the sum of the integers, and its clamp is that of an integer. -/

namespace Sys2Proof.Proofs

open Sys2Proof.Machine

/-- The range of an INT32 accumulator, as a clamp (R103). -/
def clampInt32 (x : Int) : Int := max (-2147483648) (min 2147483647 x)

theorem unitsAt_ofInt (i : Int) : Machine.Num.unitsAt (decide (i < 0)) i.natAbs 0 0 = i := by
  have hk : i.natAbs * 2 ^ ((0 : Int) - 0).toNat = i.natAbs := Nat.mul_one i.natAbs
  simp only [Machine.Num.unitsAt, hk, decide_eq_true_eq]
  split <;> omega

theorem add_ofInt (a b : Int) : Machine.Num.add (Machine.Num.ofInt a) (Machine.Num.ofInt b) = Machine.Num.ofInt (a + b) := by
  unfold Machine.Num.ofInt Machine.Num.add
  dsimp only
  split
  · next h =>
    obtain ⟨ha, hb⟩ := h
    obtain rfl := Int.natAbs_eq_zero.1 ha
    obtain rfl := Int.natAbs_eq_zero.1 hb
    rfl
  · rw [Int.min_self, unitsAt_ofInt, unitsAt_ofInt]

/-- The exact sum of a slot (R100) over integers. -/
theorem foldl_add_ofInt (v : Int) (l : List Int) : (l.map Machine.Num.ofInt).foldl Machine.Num.add (Machine.Num.ofInt v) = Machine.Num.ofInt (v + l.sum) := by
  induction l generalizing v with
  | nil => simp
  | cons x l ih => rw [List.map_cons, List.foldl_cons, add_ofInt, ih, List.sum_cons, Int.add_assoc]

/-- A magnitude that is already a multiple of the quantum needs no rounding. -/
theorem roundAt_same (sr : Bool) (m : Nat) (q : Int) (r : Nat) : roundAt sr m q q r = (m, true) := by
  simp [roundAt]

/-- An integer converts exactly (R66): only the clamp changes it, only the clamp shows a status, and no value is drawn. -/
theorem toInt_ofInt (lo hi : Int) (sr : Bool) (i : Int) (n : Nat) :
    toInt lo hi sr (Machine.Num.ofInt i) n = ⟨Machine.Num.ofInt (max lo (min hi i)), if max lo (min hi i) = i then 0 else stOvf, n⟩ := by
  have hval : (if decide (i < 0) = true then -(i.natAbs : Int) else i.natAbs) = i := by
    simpa [Machine.Num.unitsAt] using unitsAt_ofInt i
  simp only [toInt, Machine.Num.ofInt, roundAt_same, hval, ne_eq, and_not_self_iff, if_false, Nat.add_zero, Bool.true_or, if_true]

/-- One slot of an INT32 cell, whatever its accumulator held. -/
theorem slotInt_ofInt (v : Int) (l : List Int) (st n : Nat) :
    slotInt ⟨Machine.Num.ofInt v, st, n⟩ (l.map Machine.Num.ofInt) =
      ⟨Machine.Num.ofInt (clampInt32 (v + l.sum)), if clampInt32 (v + l.sum) = v + l.sum then st else st ||| tsSat, n⟩ := by
  simp only [slotInt, foldl_add_ofInt, toInt_ofInt, clampInt32]
  split
  · next hc => simp [hc]
  · next hc => simp [hc, stOvf]

/-- Settles O12: the second slot adds to the clamped value, because it starts from the accumulator that the first one leaves. -/
theorem integerAccumulatorsClamp : Obligations.IntegerAccumulatorsClamp := by
  unfold Obligations.IntegerAccumulatorsClamp
  intro v l k st n _ _
  rw [← List.sum_eq_foldl, ← List.sum_eq_foldl]
  have first := slotInt_ofInt v l st n
  refine ⟨first, ?_⟩
  rw [first, slotInt_ofInt]
  rfl

end Sys2Proof.Proofs
end

section
/-! COMMIT (R500): what it makes of the firmware unit in one equation. SVN_ADVANCED is raised first, and it stays among the outputs of the step
because what follows (the journal record, the answer) only adds outputs. -/

namespace Sys2Proof.Proofs

open Sys2Proof.Machine

/-! ## Outputs are only added -/

section Outputs

variable {l : List Out} {s : State} (h : l <:+ s.out)
include h

theorem suffix_out_sendMsix (fn v : Nat) : l <:+ (sendMsix s fn v).out := by
  unfold sendMsix
  dsimp only
  split
  · split
    · exact h.trans (List.suffix_cons _ _)
    · exact h
  · exact h

theorem suffix_out_postEvent (fn code moon orbit : Nat) (args : List Nat) : l <:+ (postEvent s fn code moon orbit args).out := by
  unfold postEvent
  dsimp only
  split
  · exact h
  · split
    · exact h
    · exact suffix_out_sendMsix (h.trans (List.suffix_cons _ _)) _ _

theorem suffix_out_raiseTo (fn code moon : Nat) (args : List Nat) : l <:+ (raiseTo s fn code moon args).out := by
  unfold raiseTo
  split
  · exact h
  · exact suffix_out_postEvent h _ _ _ _ _

theorem suffix_out_raisePf (code : Nat) (args : List Nat) : l <:+ (raisePf s code args).out := suffix_out_raiseTo h _ _ _ _

theorem suffix_out_raiseMoon (m code : Nat) (args : List Nat) : l <:+ (raiseMoon s m code args).out := suffix_out_raiseTo h _ _ _ _

/-- A counter that sticks raises an event (R218). -/
theorem suffix_out_incA (p e n : Nat) : l <:+ (incA s p e n).out := by
  unfold incA
  dsimp only
  split
  · exact h
  · split
    · exact h
    · split
      · exact suffix_out_raiseMoon (by exact h) _ _ _
      · exact suffix_out_raisePf (by exact h) _ _

theorem suffix_out_raiseSat (first p e : Nat) : l <:+ (raiseSat s first p e).out := by
  unfold raiseSat
  split <;> simp only [suffix_out_raisePf, suffix_out_raiseMoon, h]

/-- A group that saturates raises an event (R219). -/
theorem suffix_out_incB (p e n : Nat) : l <:+ (incB s p e n).out := by
  unfold incB
  dsimp only
  split
  · exact h
  · split
    · exact h
    · split
      · exact h
      · exact suffix_out_raiseSat (by exact h) _ _ _

theorem suffix_out_jMust (p : JPayload) : l <:+ (jMust s p).out := by
  have happend : l <:+ (jAppend s p).out := suffix_out_incA (by exact h) _ _ _
  unfold jMust
  split
  · exact happend
  · exact happend

theorem suffix_out_modFw (f : FwUnit → FwUnit) : l <:+ (modFw s f).out := h

theorem suffix_out_noteBanks : l <:+ (noteBanks s).out := suffix_out_jMust h _

theorem suffix_out_answer (c : Nat) : l <:+ (answer s c).out := by
  have hcount : l <:+ (incB s 0x0030 0 1).out := suffix_out_incB h _ _ _
  unfold answer answerWith
  dsimp only
  split
  · exact hcount
  · exact suffix_out_incB hcount _ _ _

end Outputs

/-! ## Events of the PF -/

/-- An event raised while the PF's queue can take one is the queue's next record (R421, R422). -/
theorem firstEvent_raisePf (s : State) (code : Nat) (args : List Nat) : FirstEvent s (raisePf s code args) code args := by
  intro hen hbm hswap hroom
  have hposts : raisePf s code args = postEvent s 0 code 0xFF s.orbit.now args := by simp [raisePf, raiseTo, hswap]
  have hfree : ¬ (!(getFn s 0).evqEnable || decide (2 ^ (getFn s 0).evqLog2 ≤ ((getFn s 0).evqTail - (getFn s 0).evqHead).toNat)) = true := by
    rw [hen, decide_eq_false (Nat.not_le.2 hroom)]
    decide
  rw [hposts]
  unfold postEvent
  dsimp only
  rw [if_neg hfree, if_neg (by simp [hbm])]
  exact (suffix_out_sendMsix List.suffix_rfl _ _).subset List.mem_cons_self

/-- The queue and the clock are not the firmware unit's. -/
theorem firstEvent_of_modFw {s t : State} {f : FwUnit → FwUnit} {code : Nat} {args : List Nat} (hf : (f s.fw).swap = s.fw.swap)
    (h : FirstEvent (modFw s f) t code args) : FirstEvent s t code args :=
  fun hen hbm hswap hroom => h hen hbm (hf.trans hswap) hroom

theorem firstEvent_mono {s t u : State} {code : Nat} {args : List Nat} (h : FirstEvent s t code args) (hout : t.out <:+ u.out) :
    FirstEvent s u code args :=
  fun hen hbm hswap hroom => hout.subset (h hen hbm hswap hroom)

/-! ## COMMIT in its two parts -/

/-- The SVN of the running bank. -/
def runningSvn (s : State) : Nat := (getBank s s.fw.running).svn

/-- The first part of COMMIT: the fuses advance to the SVN of the running bank. -/
def blowFuses (s : State) : State :=
  if decide (s.fw.fusedSvn < runningSvn s) then raisePf (modFw s fun f => { f with fusedSvn := runningSvn s }) 0x0A05 [runningSvn s] else s

/-- COMMIT makes the other bank INVALID: the fuses advance, and the bank is VALID with an SVN below them. -/
def dropsOther (s : State) : Bool :=
  decide (s.fw.fusedSvn < runningSvn s) && s.fw.other == 2 && decide ((getBank s (1 - s.fw.running)).svn < runningSvn s)

/-- The second part of COMMIT: TRIAL ends, and the other bank `o` is dropped or not. -/
def endTrial (drop : Bool) (o : Bank) (f : FwUnit) : FwUnit :=
  { f with
    trial := false, other := if drop then 3 else f.other
    banks := if drop then tset f.banks (1 - f.running) { o with valid := false } else f.banks }

theorem blowFuses_fw (s : State) :
    (blowFuses s).fw = { s.fw with fusedSvn := if s.fw.fusedSvn < runningSvn s then runningSvn s else s.fw.fusedSvn } := by
  unfold blowFuses
  by_cases hup : s.fw.fusedSvn < runningSvn s <;> simp [hup]

theorem commitFw_eq (s : State) :
    commitFw s = noteBanks (modFw (blowFuses s) (endTrial (dropsOther s) (getBank s (1 - s.fw.running)))) := by
  have hother : (blowFuses s).fw.other = s.fw.other := by rw [blowFuses_fw]
  have hbank : getBank (blowFuses s) (1 - (blowFuses s).fw.running) = getBank s (1 - s.fw.running) := by
    unfold getBank
    rw [blowFuses_fw]
  have hparts : commitFw s = noteBanks (modFw (blowFuses s) (endTrial
      (decide (s.fw.fusedSvn < runningSvn s) && (blowFuses s).fw.other == 2 &&
        decide ((getBank (blowFuses s) (1 - (blowFuses s).fw.running)).svn < runningSvn s))
      (getBank (blowFuses s) (1 - (blowFuses s).fw.running)))) := rfl
  rw [hparts, hother, hbank]
  rfl

theorem commitFw_fw (s : State) :
    (commitFw s).fw = endTrial (dropsOther s) (getBank s (1 - s.fw.running))
      { s.fw with fusedSvn := if s.fw.fusedSvn < runningSvn s then runningSvn s else s.fw.fusedSvn } := by
  rw [commitFw_eq, ← blowFuses_fw]
  exact jMust_fw _ _

/-- The fuses are blown first, and with them SVN_ADVANCED is raised. -/
theorem firstEvent_commitFw {s : State} (hup : s.fw.fusedSvn < runningSvn s) :
    FirstEvent s (commitFw s) 0x0A05 [runningSvn s] := by
  have hraised : FirstEvent s (blowFuses s) 0x0A05 [runningSvn s] := by
    unfold blowFuses
    rw [if_pos (decide_eq_true hup)]
    exact firstEvent_of_modFw (by rfl) (firstEvent_raisePf _ _ _)
  rw [commitFw_eq]
  exact firstEvent_mono hraised (suffix_out_noteBanks (suffix_out_modFw List.suffix_rfl _))

/-- What COMMIT makes of a state `s` (R500). -/
structure Commits (s t : State) : Prop where
  trial : t.fw.trial = false
  running : t.fw.running = s.fw.running
  blown : s.fw.fusedSvn < runningSvn s → t.fw.fusedSvn = runningSvn s
  event : s.fw.fusedSvn < runningSvn s → FirstEvent s t 0x0A05 [runningSvn s]
  dropped : dropsOther s = true → t.fw.other = 3 ∧ (getBank t (1 - s.fw.running)).valid = false
  kept : ¬ s.fw.fusedSvn < runningSvn s → t.fw.fusedSvn = s.fw.fusedSvn ∧ t.fw.other = s.fw.other
  banks : ∀ b, b ≠ 1 - s.fw.running → getBank t b = getBank s b

theorem commits_commitFw (s : State) : Commits s (commitFw s) where
  trial := by rw [commitFw_fw]; rfl
  running := by rw [commitFw_fw]; rfl
  blown hup := by rw [commitFw_fw]; exact if_pos hup
  event := firstEvent_commitFw
  dropped hd := by simp [getBank, commitFw_fw, endTrial, hd, Laws.tget_tset_same]
  kept hup := by
    have hd : dropsOther s = false := by simp [dropsOther, hup]
    simp [commitFw_fw, endTrial, hup, hd]
  banks b hb := by
    simp only [getBank, commitFw_fw, endTrial]
    split
    · exact Laws.tget_tset_ne _ _ _ _ _ hb
    · rfl

/-- The write of FW_CMD notes its code before and its answer after; neither touches what COMMIT is about. -/
theorem commits_answer_of_fwDone {s t : State} {op code : Nat} (h : Commits (fwDone s op code) t) (c : Nat) : Commits s (answer t c) := by
  obtain ⟨trial, running, blown, event, dropped, kept, banks⟩ := h
  have hfw : (answer t c).fw = t.fw := answer_fw t c
  have hbank : ∀ b, getBank (answer t c) b = getBank t b := fun b => by rw [getBank, hfw]; rfl
  exact {
    trial := hfw ▸ trial
    running := hfw ▸ running
    blown := hfw ▸ blown
    event := fun hup => firstEvent_mono (firstEvent_of_modFw (by rfl) (event hup)) (suffix_out_answer List.suffix_rfl c)
    dropped := fun hd => by rw [hbank, hfw]; exact dropped hd
    kept := hfw ▸ kept
    banks := fun b hb => (hbank b).trans (banks b hb) }

/-! ## The two rows that commit -/

theorem exec_commit {s : State} {w : Who} (f : FwCmd) (htrial : s.fw.trial = true) (hw : writeStatus s w 0xB110 0 = 0) :
    exec (.commit w f) s = .next (answer (commitFw (fwDone s 3 0)) 0) := by
  have hcmd : fwCmd 3 f s = .ok (commitFw (fwDone s 3 0)) := by simp [fwCmd, htrial]
  exact Laws.command_ok hw hcmd

theorem exec_fwTrialExpire {s : State} (htrial : s.fw.trial = true) (hserves : fwServes s = true) (hswap : s.fw.swap = none)
    (hover : s.fw.trialAt + 1000000000 * param s 0xB113 0 ≤ s.orbit.refNs) : exec .fwTrialExpire s = .next (commitFw s) :=
  if_pos (by simp [htrial, hserves, hswap, hover])

/-- Settles O57: the write and the end of the trial period both commit by `commitFw`. -/
theorem commitAdvancesTheFuses : Obligations.CommitAdvancesTheFuses := by
  unfold Obligations.CommitAdvancesTheFuses
  intro s htrial commits
  have hcommits : ∀ t, Commits s t → commits t := fun t h => by
    refine ⟨h.trial, h.running, fun hup => ⟨h.blown hup, h.event hup, fun hother hlow => h.dropped ?_⟩, h.kept, h.banks⟩
    simp [dropsOther, runningSvn, hup, hother, hlow]
  refine ⟨fun w f hw => ?_, fun hserves hswap hover => ?_⟩
  · exact ⟨_, exec_commit f htrial hw, hcommits _ (commits_answer_of_fwDone (commits_commitFw _) 0)⟩
  · exact ⟨_, exec_fwTrialExpire htrial hserves hswap hover, hcommits _ (commits_commitFw s)⟩

end Sys2Proof.Proofs
end

section
/-! What events leave alone of the endpoint: a raised event moves its queue, sets or clears pending vectors, or is held while firmware is
swapped (R421, R422, R489). Counters and journal records change the endpoint by the events that they raise, and in no other way. -/

set_option Elab.async false

namespace Sys2Proof.Proofs

open Sys2Proof.Machine Sys2Proof.Laws

/-- The function is the same apart from its event queue's place and its pending vectors. -/
def EventFunc (f g : Func) : Prop :=
  g = { f with evqTail := g.evqTail, evqDropped := g.evqDropped, evqOverflow := g.evqOverflow, lostBefore := g.lostBefore, pendingVecs := g.pendingVecs }

/-- The endpoint is the same apart from event queues, pending vectors and held events. -/
structure EventHost (p q : HostUnit) : Prop where
  unit : q = { p with funcs := q.funcs, heldEvents := q.heldEvents }
  funcs : ∀ n, EventFunc (tget p.funcs Func.reset n) (tget q.funcs Func.reset n)

theorem EventFunc.refl (f : Func) : EventFunc f f := rfl

theorem EventFunc.trans {f g h : Func} (hf : EventFunc f g) (hg : EventFunc g h) : EventFunc f h := by
  unfold EventFunc at *
  rw [hg, hf]

theorem EventHost.refl (p : HostUnit) : EventHost p p := ⟨rfl, fun _ => EventFunc.refl _⟩

theorem EventHost.trans {p q r : HostUnit} (h : EventHost p q) (g : EventHost q r) : EventHost p r :=
  ⟨by rw [g.unit, h.unit], fun n => (h.funcs n).trans (g.funcs n)⟩

theorem EventHost.waiting {p q : HostUnit} (h : EventHost p q) : q.waiting = p.waiting := by rw [h.unit]
theorem EventHost.taken {p q : HostUnit} (h : EventHost p q) : q.taken = p.taken := by rw [h.unit]
theorem EventHost.vfEnable {p q : HostUnit} (h : EventHost p q) : q.vfEnable = p.vfEnable := by rw [h.unit]
theorem EventHost.numVfs {p q : HostUnit} (h : EventHost p q) : q.numVfs = p.numVfs := by rw [h.unit]
theorem EventHost.winBase {p q : HostUnit} (h : EventHost p q) : q.winBase = p.winBase := by rw [h.unit]
theorem EventHost.winDenied {p q : HostUnit} (h : EventHost p q) : q.winDenied = p.winDenied := by rw [h.unit]

section Events

variable {p : HostUnit} {s : State} (h : EventHost p s.host)
include h

/-- Changing one function as an event may. -/
theorem eventHost_setFn {n : Nat} {f : Func} (hf : EventFunc (getFn s n) f) : EventHost p (setFn s n f).host := by
  refine h.trans ⟨rfl, fun k => ?_⟩
  by_cases hk : k = n
  · subst hk
    exact (tget_tset_same s.host.funcs Func.reset k f).symm ▸ hf
  · exact (tget_tset_ne s.host.funcs Func.reset n k f hk).symm ▸ EventFunc.refl _

theorem eventHost_sendMsix (fn v : Nat) : EventHost p (sendMsix s fn v).host := by
  unfold sendMsix
  dsimp only
  split
  · split
    · exact eventHost_setFn h (by rfl)
    · exact h
  · exact eventHost_setFn h (by rfl)

theorem eventHost_postEvent (fn code moon orbit : Nat) (args : List Nat) : EventHost p (postEvent s fn code moon orbit args).host := by
  unfold postEvent
  dsimp only
  split
  · exact eventHost_setFn h (by rfl)
  · split
    · exact eventHost_setFn h (by rfl)
    · have hset : EventHost p (setFn s fn { getFn s fn with evqTail := (getFn s fn).evqTail + 1, lostBefore := false }).host :=
        eventHost_setFn h (by rfl)
      exact eventHost_sendMsix (by exact hset) _ _

theorem eventHost_raiseTo (fn code moon : Nat) (args : List Nat) : EventHost p (raiseTo s fn code moon args).host := by
  unfold raiseTo
  split
  · exact h.trans ⟨rfl, fun _ => EventFunc.refl _⟩
  · exact eventHost_postEvent h _ _ _ _ _

theorem eventHost_raisePf (code : Nat) (args : List Nat) : EventHost p (raisePf s code args).host := eventHost_raiseTo h _ _ _ _

theorem eventHost_raiseMoon (m code : Nat) (args : List Nat) : EventHost p (raiseMoon s m code args).host := eventHost_raiseTo h _ _ _ _

theorem eventHost_raiseWriter (w : Who) (m code : Nat) (args : List Nat) : EventHost p (raiseWriter s w m code args).host := by
  unfold raiseWriter
  split
  · exact eventHost_raiseTo h _ _ _ _
  · exact h

theorem eventHost_incA (q e n : Nat) : EventHost p (incA s q e n).host := by
  unfold incA
  dsimp only
  split
  · exact h
  · split
    · exact h
    · split
      · exact eventHost_raiseMoon (by exact h) _ _ _
      · exact eventHost_raisePf (by exact h) _ _

theorem eventHost_raiseSat (first q e : Nat) : EventHost p (raiseSat s first q e).host := by
  unfold raiseSat
  split <;> simp only [eventHost_raisePf, eventHost_raiseMoon, h]

theorem eventHost_incB (q e n : Nat) : EventHost p (incB s q e n).host := by
  unfold incB
  dsimp only
  split
  · exact h
  · split
    · exact h
    · split
      · exact h
      · exact eventHost_raiseSat (by exact h) _ _ _

theorem eventHost_jAppend (x : JPayload) : EventHost p (jAppend s x).host := by
  unfold jAppend
  exact eventHost_incA (by exact h) _ _ _

theorem eventHost_jMust (x : JPayload) : EventHost p (jMust s x).host := by
  have happend : EventHost p (jAppend s x).host := eventHost_jAppend h x
  unfold jMust
  split
  · exact happend
  · exact happend

theorem eventHost_announce (old : State) : EventHost p (announce old s).host := by
  unfold announce
  dsimp only
  split
  · exact h
  · exact eventHost_raisePf h _ _

theorem eventHost_setSvc (b : Nat) : EventHost p (setSvc s b).host := by
  unfold setSvc
  split
  · exact h
  · exact eventHost_announce (eventHost_raisePf (eventHost_jAppend (by exact h) _) _ _) _

end Events

end Sys2Proof.Proofs
end

section
/-! Single steps: a queued command, an idle nanosecond (R45 to R47, log 26), the state before the first start-up, and a byte memory written and
read back (R8). -/

set_option Elab.async false

namespace Sys2Proof.Proofs

open Sys2Proof.Machine Sys2Proof.Laws

/-- Settles O1. -/
theorem stepRunsFrontCommand : Obligations.StepRunsFrontCommand := by
  unfold Obligations.StepRunsFrontCommand
  intro c r s hpending
  unfold step
  rw [hpending]

/-- A frame without bit 1 keeps the orbit unit. -/
theorem orbit_of_frame {k : Nat} {s t : State} (h : Fr k s t) (hk : k.testBit 1 = false) : t.orbit = s.orbit :=
  h.orbit.resolve_left (by simp [hk])

/-- A frame without bit 12 keeps the host unit. -/
theorem host_of_frame {k : Nat} {s t : State} (h : Fr k s t) (hk : k.testBit 12 = false) : t.host = s.host :=
  h.host.resolve_left (by simp [hk])

/-- A frame without bit 13 keeps the dictionary unit. -/
theorem dict_of_frame {k : Nat} {s t : State} (h : Fr k s t) (hk : k.testBit 13 = false) : t.dict = s.dict :=
  h.dict.resolve_left (by simp [hk])

theorem orbitTick_refNs (o : OrbitUnit) : (orbitTick o).refNs = o.refNs + 1 := by
  unfold orbitTick
  dsimp only
  repeat' split
  all_goals rfl

/-- Orbit goes on by one, or by two or none where a nanosecond of correction falls due (R47). -/
theorem orbitTick_now (o : OrbitUnit) :
    (orbitTick o).now = o.now ∨ (orbitTick o).now = (o.now + 1) % 2 ^ 64 ∨ (orbitTick o).now = (o.now + 2) % 2 ^ 64 := by
  unfold orbitTick
  dsimp only
  repeat' split
  · exact .inr (.inl rfl)
  · exact .inr (.inl rfl)
  · exact .inr (.inr rfl)
  · exact .inl rfl

theorem orbitTick_now_of_no_slew {o : OrbitUnit} (h : o.slew = 0) : (orbitTick o).now = (o.now + 1) % 2 ^ 64 := by
  unfold orbitTick
  dsimp only
  rw [if_pos h]

/-- A wait for a derivation counts its time, which may saturate a counter: the endpoint changes by an event at most (R336, R219). -/
theorem eventHost_noteWait {p : HostUnit} {s : State} (h : EventHost p s.host) (m : Nat) : EventHost p (noteWait s m).host := by
  have hflush : EventHost p (flushWait s m).host := by
    unfold flushWait
    dsimp only
    split
    · exact h
    · exact eventHost_incB (by exact h) _ _ _
  unfold noteWait
  dsimp only
  split
  · exact h
  · exact hflush
  · exact h

theorem eventHost_noteWaits (s : State) : EventHost s.host (noteWaits s).host := by
  have fold : ∀ (l : List Nat) (t : State), EventHost s.host t.host → EventHost s.host (l.foldl noteWait t).host := fun l => by
    induction l with
    | nil => exact fun _ h => h
    | cons m l ih => exact fun t h => ih _ (eventHost_noteWait h m)
  exact fold _ s (EventHost.refl _)

theorem noteWaits_orbit (s : State) : (noteWaits s).orbit = s.orbit := orbit_of_frame fr_noteWaits rfl

theorem noteWaits_dict (s : State) : (noteWaits s).dict = s.dict := dict_of_frame fr_noteWaits rfl

/-- With no request and no write waiting, nothing is served or tried again. -/
theorem retry_serve_eq_self {s : State} (htaken : s.host.taken = []) (hheld : s.dict.held = []) (hwaiting : s.host.waiting = []) :
    retryWrites (serveRequests s) = s := by
  have hserve : serveRequests s = s := by simp [serveRequests, serveMailboxes, serveHeld, htaken, hheld]
  rw [hserve]
  simp [retryWrites, hwaiting]

theorem tick_orbit {s : State} (hlive : dead s = false) (htaken : s.host.taken = []) (hheld : s.dict.held = [])
    (hwaiting : s.host.waiting = []) : (tick s).orbit = orbitTick s.orbit := by
  have hup : ∀ t : State, (if isUp t then tickUp (writeWaiting t) else t).orbit = t.orbit := fun t => by
    split
    · exact (orbit_of_frame fr_tickUp rfl).trans (orbit_of_frame fr_writeWaiting rfl)
    · rfl
  have hserved : ∀ t : State, t.host.taken = [] → t.dict.held = [] → t.host.waiting = [] →
      (retryWrites (serveRequests { t with orbit := orbitTick t.orbit })).orbit = orbitTick t.orbit := fun t ht hh hw =>
    congrArg State.orbit (retry_serve_eq_self (s := { t with orbit := orbitTick t.orbit }) ht hh hw)
  unfold tick
  simp only [hlive, Bool.false_eq_true, if_false]
  rw [hup]
  split
  · have hhost := eventHost_noteWaits s
    have hdict : (noteWaits s).dict.held = [] := (congrArg DictUnit.held (noteWaits_dict s)).trans hheld
    rw [hserved _ (hhost.taken.trans htaken) hdict (hhost.waiting.trans hwaiting), noteWaits_orbit]
  · exact hserved s htaken hheld hwaiting

/-- Settles O2: nothing but the clock itself changes orbit during an idle nanosecond. -/
theorem idleStepIsOneNanosecond : Obligations.IdleStepIsOneNanosecond := by
  unfold Obligations.IdleStepIsOneNanosecond
  intro s hpending hlive htaken hheld hwaiting
  have horbit := tick_orbit hlive htaken hheld hwaiting
  refine ⟨tick s, by rw [step, hpending], ?_, ?_, fun hslew => ?_⟩
  · rw [horbit, orbitTick_refNs]
  · rw [horbit]
    exact orbitTick_now _
  · rw [horbit, orbitTick_now_of_no_slew hslew]

/-- Settles O3: each value stands in the definition of the state after reset. -/
theorem resetValues : Obligations.ResetValues := by
  unfold Obligations.ResetValues
  refine ⟨⟨rfl, rfl, rfl, fun _ => rfl, fun _ _ => ⟨rfl, rfl, rfl, rfl, rfl, rfl⟩, fun _ => ⟨rfl, rfl, rfl⟩, fun _ => rfl, fun d lc _ _ => ?_,
    rfl, rfl, rfl, rfl⟩, wf_reset⟩
  rfl

/-- Settles O4. -/
theorem bytesReadBack : Obligations.BytesReadBack := by
  unfold Obligations.BytesReadBack
  intro m a b hwf
  exact ⟨memWf_memWrite hwf, memRead_memWrite hwf, fun _ hk => memGet_memWrite_out hk⟩

end Sys2Proof.Proofs
end

section
/-! The frame of a whole command, and what follows from it: which parts may change, what happens to the power unit, the canonical memories and
the fuses. The frame of each meaning is a lemma of Laws/Frames1 to Frames6; a step without a command is a tick, which has a frame too. -/

set_option Elab.async false

namespace Sys2Proof.Proofs

open Sys2Proof.Machine Sys2Proof.Laws

/-- The mask `k` frames the answer `r` of command `c`: it lies within the parts that `c` may change, and leaves the power unit alone, apart from
SVC_REASON, unless `c` may change that. -/
structure FramedBy (c : Instr) (s : State) (r : Res) (k : Nat) : Prop where
  frame : onNext (Fr k s) r
  parts : (allParts.all fun p => (mayChange c).contains p || partFree k p) = true
  power : (mayChangePower c || !k.testBit 24) = true

/-- Every meaning has a frame within what its command may change. -/
theorem exec_framed (c : Instr) (s : State) : ∃ k, FramedBy c s (exec c s) k := by
  cases c with
  | substitutionStart => exact ⟨_, fr_execSubstitutionStart, rfl, rfl⟩
  | substitutionDone => exact ⟨_, fr_execSubstitutionDone, rfl, rfl⟩
  | fmtStatRead => exact ⟨_, fr_execFmtStatRead, rfl, rfl⟩
  | gemm => exact ⟨_, fr_execGemm, rfl, rfl⟩
  | gemmPassDone => exact ⟨_, fr_execGemmPassDone, rfl, rfl⟩
  | arrayStatRead => exact ⟨_, fr_execArrayStatRead, rfl, rfl⟩
  | arrayBackgroundTest => exact ⟨_, fr_execArrayBackgroundTest, rfl, rfl⟩
  | forcedArrayTest => exact ⟨_, fr_execForcedArrayTest, rfl, rfl⟩
  | arrayTestDone => exact ⟨_, fr_execArrayTestDone, rfl, rfl⟩
  | softFuse => exact ⟨_, fr_execSoftFuse, rfl, rfl⟩
  | chain => exact ⟨_, fr_execChain, rfl, rfl⟩
  | chainStripDone => exact ⟨_, fr_execChainStripDone, rfl, rfl⟩
  | cometRead => exact ⟨_, fr_execCometRead, rfl, rfl⟩
  | hbmTempSample => exact ⟨_, fr_execHbmTempSample, rfl, rfl⟩
  | scrubScratchpad => exact ⟨_, fr_execScrubScratchpad, rfl, rfl⟩
  | scrubHbm => exact ⟨_, fr_execScrubHbm, rfl, rfl⟩
  | softRepairDone => exact ⟨_, fr_execSoftRepairDone, rfl, rfl⟩
  | pageRetireDone => exact ⟨_, fr_execPageRetireDone, rfl, rfl⟩
  | bar2Read => exact ⟨_, fr_execBar2Read, rfl, rfl⟩
  | bar2Write => exact ⟨_, fr_execBar2Write, rfl, rfl⟩
  | memStatRead => exact ⟨_, fr_execMemStatRead, rfl, rfl⟩
  | taskFetch => exact ⟨_, fr_execTaskFetch, rfl, rfl⟩
  | moveCopy => exact ⟨_, fr_execMoveCopy, rfl, rfl⟩
  | moveFill => exact ⟨_, fr_execMoveFill, rfl, rfl⟩
  | transcode => exact ⟨_, fr_execTranscode, rfl, rfl⟩
  | send => exact ⟨_, fr_execSend, rfl, rfl⟩
  | syncSignal => exact ⟨_, fr_execSyncSignal, rfl, rfl⟩
  | syncSet => exact ⟨_, fr_execSyncSet, rfl, rfl⟩
  | syncDump => exact ⟨_, fr_execSyncDump, rfl, rfl⟩
  | barrier => exact ⟨_, fr_execBarrier, rfl, rfl⟩
  | alarm => exact ⟨_, fr_execAlarm, rfl, rfl⟩
  | alarmFire => exact ⟨_, fr_execAlarmFire, rfl, rfl⟩
  | notBeforeRelease => exact ⟨_, fr_execNotBeforeRelease, rfl, rfl⟩
  | taskCompletion => exact ⟨_, fr_execTaskCompletion, rfl, rfl⟩
  | completionRecordAck => exact ⟨_, fr_execCompletionRecordAck, rfl, rfl⟩
  | ringTail => exact ⟨_, fr_execRingTail, rfl, rfl⟩
  | ringCfg => exact ⟨_, fr_execRingCfg, rfl, rfl⟩
  | ringCtrlResume => exact ⟨_, fr_execRingCtrlResume, rfl, rfl⟩
  | ringCtrlReset => exact ⟨_, fr_execRingCtrlReset, rfl, rfl⟩
  | taskStatRead => exact ⟨_, fr_execTaskStatRead, rfl, rfl⟩
  | create => exact ⟨_, fr_execCreate, rfl, rfl⟩
  | resize => exact ⟨_, fr_execResize, rfl, rfl⟩
  | release => exact ⟨_, fr_execRelease, rfl, rfl⟩
  | suspend => exact ⟨_, fr_execSuspend, rfl, rfl⟩
  | resume => exact ⟨_, fr_execResume, rfl, rfl⟩
  | migrateOut => exact ⟨_, fr_execMigrateOut, rfl, rfl⟩
  | migrateIn => exact ⟨_, fr_execMigrateIn, rfl, rfl⟩
  | migrateReclaim => exact ⟨_, fr_execMigrateReclaim, rfl, rfl⟩
  | moonCmdCancel => exact ⟨_, fr_execMoonCmdCancel, rfl, rfl⟩
  | moonCmdWhen => exact ⟨_, fr_execMoonCmdWhen, rfl, rfl⟩
  | resizeStepBoundary => exact ⟨_, fr_execResizeStepBoundary, rfl, rfl⟩
  | preemptionBoundary => exact ⟨_, fr_execPreemptionBoundary, rfl, rfl⟩
  | spillDone => exact ⟨_, fr_execSpillDone, rfl, rfl⟩
  | restoreDone => exact ⟨_, fr_execRestoreDone, rfl, rfl⟩
  | map => exact ⟨_, fr_execMap, rfl, rfl⟩
  | unmap => exact ⟨_, fr_execUnmap, rfl, rfl⟩
  | protect => exact ⟨_, fr_execProtect, rfl, rfl⟩
  | replacePoisoned => exact ⟨_, fr_execReplacePoisoned, rfl, rfl⟩
  | migratePeerConfirm => exact ⟨_, fr_execMigratePeerConfirm, rfl, rfl⟩
  | precopyDone => exact ⟨_, fr_execPrecopyDone, rfl, rfl⟩
  | migrationHandover => exact ⟨_, fr_execMigrationHandover, rfl, rfl⟩
  | migrateStateReceived => exact ⟨_, fr_execMigrateStateReceived, rfl, rfl⟩
  | readyReceived => exact ⟨_, fr_execReadyReceived, rfl, rfl⟩
  | goReceived => exact ⟨_, fr_execGoReceived, rfl, rfl⟩
  | runningReceived => exact ⟨_, fr_execRunningReceived, rfl, rfl⟩
  | abortReceived => exact ⟨_, fr_execAbortReceived, rfl, rfl⟩
  | migrateReadyTimeout => exact ⟨_, fr_execMigrateReadyTimeout, rfl, rfl⟩
  | migrateRunningTimeout => exact ⟨_, fr_execMigrateRunningTimeout, rfl, rfl⟩
  | migrateGoTimeout => exact ⟨_, fr_execMigrateGoTimeout, rfl, rfl⟩
  | ledgerRead => exact ⟨_, fr_execLedgerRead, rfl, rfl⟩
  | ledgerAck => exact ⟨_, fr_execLedgerAck, rfl, rfl⟩
  | moonStatRead => exact ⟨_, fr_execMoonStatRead, rfl, rfl⟩
  | serveCtx => exact ⟨_, fr_execServeCtx, rfl, rfl⟩
  | stepRun => exact ⟨_, fr_execStepRun, rfl, rfl⟩
  | stepClose => exact ⟨_, fr_execStepClose, rfl, rfl⟩
  | stepService => exact ⟨_, fr_execStepService, rfl, rfl⟩
  | follow => exact ⟨_, fr_execFollow, rfl, rfl⟩
  | followWorkList => exact ⟨_, fr_execFollowWorkList, rfl, rfl⟩
  | followReport => exact ⟨_, fr_execFollowReport, rfl, rfl⟩
  | spanTimeout => exact ⟨_, fr_execSpanTimeout, rfl, rfl⟩
  | swap => exact ⟨_, fr_execSwap, rfl, rfl⟩
  | cancelSwap => exact ⟨_, fr_execCancelSwap, rfl, rfl⟩
  | unload => exact ⟨_, fr_execUnload, rfl, rfl⟩
  | variantRetire => exact ⟨_, fr_execVariantRetire, rfl, rfl⟩
  | swapFire => exact ⟨_, fr_execSwapFire, rfl, rfl⟩
  | serveStatRead => exact ⟨_, fr_execServeStatRead, rfl, rfl⟩
  | pipeCtx => exact ⟨_, fr_execPipeCtx, rfl, rfl⟩
  | pipeStart => exact ⟨_, fr_execPipeStart, rfl, rfl⟩
  | pipeDrain => exact ⟨_, fr_execPipeDrain, rfl, rfl⟩
  | pipeRetry => exact ⟨_, fr_execPipeRetry, rfl, rfl⟩
  | pipeReset => exact ⟨_, fr_execPipeReset, rfl, rfl⟩
  | pipeCmdFwd => exact ⟨_, fr_execPipeCmdFwd, rfl, rfl⟩
  | pipeCmdBwd => exact ⟨_, fr_execPipeCmdBwd, rfl, rfl⟩
  | pipeCmdUpdate => exact ⟨_, fr_execPipeCmdUpdate, rfl, rfl⟩
  | forwardProgramStart => exact ⟨_, fr_execForwardProgramStart, rfl, rfl⟩
  | backwardProgramStart => exact ⟨_, fr_execBackwardProgramStart, rfl, rfl⟩
  | updateProgramStart => exact ⟨_, fr_execUpdateProgramStart, rfl, rfl⟩
  | forwardDone => exact ⟨_, fr_execForwardDone, rfl, rfl⟩
  | backwardDone => exact ⟨_, fr_execBackwardDone, rfl, rfl⟩
  | updateDone => exact ⟨_, fr_execUpdateDone, rfl, rfl⟩
  | deriveDone => exact ⟨_, fr_execDeriveDone, rfl, rfl⟩
  | actRestoreDone => exact ⟨_, fr_execActRestoreDone, rfl, rfl⟩
  | gnsCfg => exact ⟨_, fr_execGnsCfg, rfl, rfl⟩
  | gnsClose => exact ⟨_, fr_execGnsClose, rfl, rfl⟩
  | trainStatRead => exact ⟨_, fr_execTrainStatRead, rfl, rfl⟩
  | snapshot => exact ⟨_, fr_execSnapshot, rfl, rfl⟩
  | snapCancel => exact ⟨_, fr_execSnapCancel, rfl, rfl⟩
  | snapAccept => exact ⟨_, fr_execSnapAccept, rfl, rfl⟩
  | snapshotArm => exact ⟨_, fr_execSnapshotArm, rfl, rfl⟩
  | snapshotCapture => exact ⟨_, fr_execSnapshotCapture, rfl, rfl⟩
  | snapshotDone => exact ⟨_, fr_execSnapshotDone, rfl, rfl⟩
  | toLearn => exact ⟨_, fr_execToLearn, rfl, rfl⟩
  | toGenerate => exact ⟨_, fr_execToGenerate, rfl, rfl⟩
  | turnCancel w m q => exact ⟨_, fr_execTurnCancel (a2 := q), rfl, rfl⟩
  | turnSwitchFire => exact ⟨_, fr_execTurnSwitchFire, rfl, rfl⟩
  | turnDrainPoint => exact ⟨_, fr_execTurnDrainPoint, rfl, rfl⟩
  | turnPlanDone => exact ⟨_, fr_execTurnPlanDone, rfl, rfl⟩
  | turnTimeout => exact ⟨_, fr_execTurnTimeout, rfl, rfl⟩
  | entropyTestFail => exact ⟨_, fr_execEntropyTestFail, rfl, rfl⟩
  | loadBase => exact ⟨_, fr_execLoadBase, rfl, rfl⟩
  | loadOverlay => exact ⟨_, fr_execLoadOverlay, rfl, rfl⟩
  | loadVariant => exact ⟨_, fr_execLoadVariant, rfl, rfl⟩
  | attachShared => exact ⟨_, fr_execAttachShared, rfl, rfl⟩
  | dropShared => exact ⟨_, fr_execDropShared, rfl, rfl⟩
  | fetchCancel => exact ⟨_, fr_execFetchCancel, rfl, rfl⟩
  | fetchHeaderRead => exact ⟨_, fr_execFetchHeaderRead, rfl, rfl⟩
  | fetchChunkDone => exact ⟨_, fr_execFetchChunkDone, rfl, rfl⟩
  | bar4Write => exact ⟨_, fr_execBar4Write, rfl, rfl⟩
  | bar4BufferFull => exact ⟨_, fr_execBar4BufferFull, rfl, rfl⟩
  | bar4Timeout => exact ⟨_, fr_execBar4Timeout, rfl, rfl⟩
  | linkSignalDetect => exact ⟨_, fr_execLinkSignalDetect, rfl, rfl⟩
  | linkUp => exact ⟨_, fr_execLinkUp, rfl, rfl⟩
  | bringUpTimeout => exact ⟨_, fr_execBringUpTimeout, rfl, rfl⟩
  | data => exact ⟨_, fr_execData, rfl, rfl⟩
  | chunkHdr => exact ⟨_, fr_execChunkHdr, rfl, rfl⟩
  | delivered => exact ⟨_, fr_execDelivered, rfl, rfl⟩
  | nack => exact ⟨_, fr_execNack, rfl, rfl⟩
  | control => exact ⟨_, fr_execControl, rfl, rfl⟩
  | credit => exact ⟨_, fr_execCredit, rfl, rfl⟩
  | creditSync => exact ⟨_, fr_execCreditSync, rfl, rfl⟩
  | sendChunkStart => exact ⟨_, fr_execSendChunkStart, rfl, rfl⟩
  | retrain => exact ⟨_, fr_execRetrain, rfl, rfl⟩
  | retrainDone => exact ⟨_, fr_execRetrainDone, rfl, rfl⟩
  | disable => exact ⟨_, fr_execDisable, rfl, rfl⟩
  | enable => exact ⟨_, fr_execEnable, rfl, rfl⟩
  | force112 => exact ⟨_, fr_execForce112, rfl, rfl⟩
  | auto => exact ⟨_, fr_execAuto, rfl, rfl⟩
  | linkTimeout => exact ⟨_, fr_execLinkTimeout, rfl, rfl⟩
  | linkStatRead => exact ⟨_, fr_execLinkStatRead, rfl, rfl⟩
  | poll p g => exact ⟨_, fr_execPoll (a0 := p), rfl, rfl⟩
  | answer => exact ⟨_, fr_execAnswer, rfl, rfl⟩
  | pollMiss => exact ⟨_, fr_execPollMiss, rfl, rfl⟩
  | arrive => exact ⟨_, fr_execArrive, rfl, rfl⟩
  | barrierRelease => exact ⟨_, fr_execBarrierRelease, rfl, rfl⟩
  | withdraw => exact ⟨_, fr_execWithdraw, rfl, rfl⟩
  | barrierTimeout => exact ⟨_, fr_execBarrierTimeout, rfl, rfl⟩
  | barrierDef => exact ⟨_, fr_execBarrierDef, rfl, rfl⟩
  | barrierMove => exact ⟨_, fr_execBarrierMove, rfl, rfl⟩
  | memberFabric => exact ⟨_, fr_execMemberFabric, rfl, rfl⟩
  | sparesDeclared => exact ⟨_, fr_execSparesDeclared, rfl, rfl⟩
  | packRole => exact ⟨_, fr_execPackRole, rfl, rfl⟩
  | refWindow => exact ⟨_, fr_execRefWindow, rfl, rfl⟩
  | orbitPpsSeconds => exact ⟨_, fr_execOrbitPpsSeconds, rfl, rfl⟩
  | ptpSync => exact ⟨_, fr_execPtpSync, rfl, rfl⟩
  | beacon => exact ⟨_, fr_execBeacon, rfl, rfl⟩
  | delayReq => exact ⟨_, fr_execDelayReq, rfl, rfl⟩
  | delayResp => exact ⟨_, fr_execDelayResp, rfl, rfl⟩
  | orbitSource => exact ⟨_, fr_execOrbitSource, rfl, rfl⟩
  | orbitStatRead => exact ⟨_, fr_execOrbitStatRead, rfl, rfl⟩
  | packStatRead => exact ⟨_, fr_execPackStatRead, rfl, rfl⟩
  | gatewayResponse => exact ⟨_, fr_execGatewayResponse, rfl, rfl⟩
  | targetTimeout => exact ⟨_, fr_execTargetTimeout, rfl, rfl⟩
  | flr => exact ⟨_, fr_execFlr, rfl, rfl⟩
  | vfEnableClear => exact ⟨_, fr_execVfEnableClear, rfl, rfl⟩
  | winBase => exact ⟨_, fr_execWinBase, rfl, rfl⟩
  | ringWindowRead => exact ⟨_, fr_execRingWindowRead, rfl, rfl⟩
  | ringWindowWrite => exact ⟨_, fr_execRingWindowWrite, rfl, rfl⟩
  | evqCfg => exact ⟨_, fr_execEvqCfg, rfl, rfl⟩
  | registerWrite => exact ⟨_, fr_execRegisterWrite, rfl, rfl⟩
  | mbxDoorbell => exact ⟨_, fr_execMbxDoorbell, rfl, rfl⟩
  | msixUnmask => exact ⟨_, fr_execMsixUnmask, rfl, rfl⟩
  | hostCplTimeout => exact ⟨_, fr_execHostCplTimeout, rfl, rfl⟩
  | hostReadAborted => exact ⟨_, fr_execHostReadAborted, rfl, rfl⟩
  | read => exact ⟨_, fr_execRead, rfl, rfl⟩
  | write => exact ⟨_, fr_execWrite, rfl, rfl⟩
  | describe => exact ⟨_, fr_execDescribe, rfl, rfl⟩
  | stagingExpire => exact ⟨_, fr_execStagingExpire, rfl, rfl⟩
  | plcaBeaconTimeout => exact ⟨_, fr_execPlcaBeaconTimeout, rfl, rfl⟩
  | plcaBeacon => exact ⟨_, fr_execPlcaBeacon, rfl, rfl⟩
  | dictStatRead => exact ⟨_, fr_execDictStatRead, rfl, rfl⟩
  | startUp => exact ⟨_, fr_execStartUp, rfl, rfl⟩
  | inputHigh => exact ⟨_, fr_execInputHigh, rfl, rfl⟩
  | inputLow => exact ⟨_, fr_execInputLow, rfl, rfl⟩
  | regulator => exact ⟨_, fr_execRegulator, rfl, rfl⟩
  | powerControlUpdate => exact ⟨_, fr_execPowerControlUpdate, rfl, rfl⟩
  | thermalEvaluate => exact ⟨_, fr_execThermalEvaluate, rfl, rfl⟩
  | coolantRead => exact ⟨_, fr_execCoolantRead, rfl, rfl⟩
  | drain => exact ⟨_, fr_execDrain, rfl, rfl⟩
  | undrain => exact ⟨_, fr_execUndrain, rfl, rfl⟩
  | powerStatRead => exact ⟨_, fr_execPowerStatRead, rfl, rfl⟩
  | journalPageProgrammed => exact ⟨_, fr_execJournalPageProgrammed, rfl, rfl⟩
  | compactNow => exact ⟨_, fr_execCompactNow, rfl, rfl⟩
  | journalReset => exact ⟨_, fr_execJournalReset, rfl, rfl⟩
  | svcClear => exact ⟨_, fr_execSvcClear, rfl, rfl⟩
  | stage => exact ⟨_, fr_execStage, rfl, rfl⟩
  | fwStaged => exact ⟨_, fr_execFwStaged, rfl, rfl⟩
  | activate => exact ⟨_, fr_execActivate, rfl, rfl⟩
  | commit => exact ⟨_, fr_execCommit, rfl, rfl⟩
  | revert => exact ⟨_, fr_execRevert, rfl, rfl⟩
  | fwSwapDone => exact ⟨_, fr_execFwSwapDone, rfl, rfl⟩
  | reloadStale => exact ⟨_, fr_execReloadStale, rfl, rfl⟩
  | stop => exact ⟨_, fr_execStop, rfl, rfl⟩
  | hbmRecalWindow => exact ⟨_, fr_execHbmRecalWindow, rfl, rfl⟩
  | hbmRecalDone => exact ⟨_, fr_execHbmRecalDone, rfl, rfl⟩
  | recoveryImage => exact ⟨_, fr_execRecoveryImage, rfl, rfl⟩
  | coreHangTimeout => exact ⟨_, fr_execCoreHangTimeout, rfl, rfl⟩
  | operatorKeyDigest => exact ⟨_, fr_execOperatorKeyDigest, rfl, rfl⟩
  | sessionOffer => exact ⟨_, fr_execSessionOffer, rfl, rfl⟩
  | keyOffer => exact ⟨_, fr_execKeyOffer, rfl, rfl⟩
  | offerExpire => exact ⟨_, fr_execOfferExpire, rfl, rfl⟩
  | sessionOpen => exact ⟨_, fr_execSessionOpen, rfl, rfl⟩
  | sessionProve => exact ⟨_, fr_execSessionProve, rfl, rfl⟩
  | attestReport => exact ⟨_, fr_execAttestReport, rfl, rfl⟩
  | keyLoad => exact ⟨_, fr_execKeyLoad, rfl, rfl⟩
  | generate => exact ⟨_, fr_execGenerate, rfl, rfl⟩
  | erase => exact ⟨_, fr_execErase, rfl, rfl⟩
  | dbgResponse => exact ⟨_, fr_execDbgResponse, rfl, rfl⟩
  | extest => exact ⟨_, fr_execExtest, rfl, rfl⟩
  | samplePreload => exact ⟨_, fr_execSamplePreload, rfl, rfl⟩
  | admissionDone => exact ⟨_, fr_execAdmissionDone, rfl, rfl⟩
  | powerFailRestart => exact ⟨_, fr_execPowerFailRestart, rfl, rfl⟩
  | vfEnable => exact ⟨_, fr_execVfEnable, rfl, rfl⟩
  | hostDmaError => exact ⟨_, fr_execHostDmaError, rfl, rfl⟩
  | bridgeFail => exact ⟨_, fr_execBridgeFail, rfl, rfl⟩
  | ptpAnnounce => exact ⟨_, fr_execPtpAnnounce, rfl, rfl⟩
  | ptpDelayResp => exact ⟨_, fr_execPtpDelayResp, rfl, rfl⟩
  | schedTick => exact ⟨_, fr_execSchedTick, rfl, rfl⟩
  | billingMinuteClose => exact ⟨_, fr_execBillingMinuteClose, rfl, rfl⟩
  | ledgerSnap => exact ⟨_, fr_execLedgerSnap, rfl, rfl⟩
  | counters => exact ⟨_, fr_execCounters, rfl, rfl⟩
  | pollSend => exact ⟨_, fr_execPollSend, rfl, rfl⟩
  | orphan => exact ⟨_, fr_execOrphan, rfl, rfl⟩
  | ppsEdge => exact ⟨_, fr_execPpsEdge, rfl, rfl⟩
  | refLoss => exact ⟨_, fr_execRefLoss, rfl, rfl⟩
  | ppsHoldover => exact ⟨_, fr_execPpsHoldover, rfl, rfl⟩
  | ptpSyncTimeout => exact ⟨_, fr_execPtpSyncTimeout, rfl, rfl⟩
  | beaconSend => exact ⟨_, fr_execBeaconSend, rfl, rfl⟩
  | beaconTimeout => exact ⟨_, fr_execBeaconTimeout, rfl, rfl⟩
  | delayReqSend => exact ⟨_, fr_execDelayReqSend, rfl, rfl⟩
  | perstNDeassert => exact ⟨_, fr_execPerstNDeassert, rfl, rfl⟩
  | hotReset => exact ⟨_, fr_execHotReset, rfl, rfl⟩
  | powerFailDetect => exact ⟨_, fr_execPowerFailDetect, rfl, rfl⟩
  | inputOv => exact ⟨_, fr_execInputOv, rfl, rfl⟩
  | leak => exact ⟨_, fr_execLeak, rfl, rfl⟩
  | journalPageTimer => exact ⟨_, fr_execJournalPageTimer, rfl, rfl⟩
  | compactAt => exact ⟨_, fr_execCompactAt, rfl, rfl⟩
  | compactionDone => exact ⟨_, fr_execCompactionDone, rfl, rfl⟩
  | fwTrialExpire => exact ⟨_, fr_execFwTrialExpire, rfl, rfl⟩
  | fwWatchdog => exact ⟨_, fr_execFwWatchdog, rfl, rfl⟩
  | dbgChallenge => exact ⟨_, fr_execDbgChallenge, rfl, rfl⟩
  | idcode => exact ⟨_, fr_execIdcode, rfl, rfl⟩
  | bypass => exact ⟨_, fr_execBypass, rfl, rfl⟩
  | tapReset => exact ⟨_, fr_execTapReset, rfl, rfl⟩
  | expelIntervalElapsed => exact ⟨_, fr_execExpelIntervalElapsed, rfl, rfl⟩

/-- The frame of a step: that of its command, or that of a tick. -/
theorem step_framed {s t : State} (h : step s = .next t) : ∃ k r, Fr k { s with pending := r } t := by
  unfold step at h
  split at h
  · obtain rfl := Host.Outcome.next.inj h
    exact ⟨_, s.pending, fr_tick⟩
  · next c r _ =>
    obtain ⟨k, hframed⟩ := exec_framed c { s with pending := r }
    exact ⟨k, r, hframed.frame t h⟩

/-- Settles O5: the frame of every step keeps each memory canonical. -/
theorem stepKeepsMemoryCanonical : Obligations.StepKeepsMemoryCanonical := by
  unfold Obligations.StepKeepsMemoryCanonical
  intro s t h hwf
  obtain ⟨_, _, hframe⟩ := step_framed h
  simp only [Memory.wf, Bool.and_eq_true] at hwf ⊢
  obtain ⟨⟨hhbm, hspm⟩, hvregs⟩ := hwf
  exact ⟨⟨hframe.wfHbm hhbm, hframe.wfSpm hspm⟩, hframe.wfVregs hvregs⟩

/-- Settles O6: the frame of every step keeps the fuses. -/
theorem stepKeepsFuses : Obligations.StepKeepsFuses := by
  unfold Obligations.StepKeepsFuses
  intro s t h
  obtain ⟨_, _, hframe⟩ := step_framed h
  exact ⟨hframe.keys, hframe.svn⟩

/-- Settles O8: the mask of each command's frame lies within its list of parts. -/
theorem commandsChangeOnlyTheirParts : Obligations.CommandsChangeOnlyTheirParts := by
  unfold Obligations.CommandsChangeOnlyTheirParts
  intro c s t h
  obtain ⟨_, hframed⟩ := exec_framed c s
  exact (hframed.frame t h).only hframed.parts

/-- Settles O9: the masks of all commands but the 23 leave bit 24 out. -/
theorem powerStateChangesOnlyByItsCommands : Obligations.PowerStateChangesOnlyByItsCommands := by
  unfold Obligations.PowerStateChangesOnlyByItsCommands
  intro c s t h hpower
  obtain ⟨_, hframed⟩ := exec_framed c s
  exact (hframed.frame t h).power24 (by simpa [hpower] using hframed.power)

end Sys2Proof.Proofs
end

section
/-! Every command answers (log 10: a row whose precondition is missing leaves the state; log 30: no meaning faults). Most meanings are one of
the shapes below: a written command, a reading command, or branches that all end in a next state. -/

set_option Elab.async false

namespace Sys2Proof.Proofs

open Sys2Proof.Machine

/-- An outcome that is a next state. -/
def Answers (r : Res) : Prop := ∃ t, r = .next t

theorem answers_next (t : State) : Answers (.next t) := ⟨t, rfl⟩

theorem answers_ite {c : Prop} [Decidable c] {a b : Res} (ha : Answers a) (hb : Answers b) : Answers (if c then a else b) := by
  split
  · exact ha
  · exact hb

theorem answers_whenUp (s t : State) : Answers (whenUp s t) := answers_ite (answers_next t) (answers_next s)

theorem answers_command (s : State) (w : Who) (p e : Nat) (f : State → Except Nat State) : Answers (command s w p e f) := by
  unfold command
  refine answers_ite (answers_next _) (answers_ite (answers_next _) ?_)
  split <;> exact answers_next _

theorem answers_query (s : State) (w : Who) (p e : Nat) (f : State → Except Nat (State × Bytes)) : Answers (query s w p e f) := by
  unfold query
  refine answers_ite (answers_next _) (answers_ite (answers_next _) ?_)
  split <;> exact answers_next _

theorem answers_startStep (s : State) (p : Machine.Task × StepRec) (act : State → Machine.Task → ServeCtx → Except Bad State) :
    Answers (startStep s p act) := by
  unfold startStep
  dsimp only
  repeat' split
  all_goals exact answers_next _

theorem answers_pipeRes (s : State) (m : Nat) (x : Except Fail State) : Answers (pipeRes s m x) := by
  unfold pipeRes
  repeat' split
  all_goals exact answers_next _

theorem answers_takePipeCmd (s : State) (m : Nat) (mine : Nat → Bool) : Answers (takePipeCmd s m mine) := by
  unfold takePipeCmd
  dsimp only
  repeat' split
  all_goals simp only [answers_next, answers_pipeRes]

theorem answers_tryStart (s : State) (m : Nat) (mine : Program → Bool) : Answers (tryStart s m mine) := by
  unfold tryStart
  dsimp only
  repeat' split
  all_goals simp only [answers_next, answers_pipeRes]

theorem answers_endProgram (s : State) (m : Nat) (mine : Program → Bool) : Answers (endProgram s m mine) := by
  unfold endProgram
  dsimp only
  repeat' split
  all_goals simp only [answers_next, answers_pipeRes]

theorem answers_execSubstitutionStart (die lc : Nat) (reload : Bool) (s : State) : Answers (execSubstitutionStart die lc reload s) := by
  unfold execSubstitutionStart
  dsimp only
  repeat' split
  all_goals exact answers_next _

theorem answers_execSubstitutionDone (die lc : Nat) (s : State) : Answers (execSubstitutionDone die lc s) := by
  unfold execSubstitutionDone
  repeat' split
  all_goals exact answers_next _

theorem answers_execGemm (m r : Nat) (s : State) : Answers (execGemm m r s) := by
  unfold execGemm
  dsimp only
  repeat' split
  all_goals exact answers_next _

theorem answers_execGemmPassDone (m r : Nat) (q : W32) (j : Nat) (b : Bubbles) (s : State) : Answers (execGemmPassDone m r q j b s) := by
  unfold execGemmPassDone
  dsimp only
  repeat' split
  all_goals exact answers_next _

theorem answers_execChain (m r : Nat) (s : State) : Answers (execChain m r s) := by
  unfold execChain
  dsimp only
  repeat' split
  all_goals exact answers_next _

theorem answers_execChainStripDone (m r : Nat) (q : W32) (j : Nat) (s : State) : Answers (execChainStripDone m r q j s) := by
  unfold execChainStripDone
  dsimp only
  repeat' split
  all_goals exact answers_next _

theorem answers_execCometRead (die n : Nat) (s : State) : Answers (execCometRead die n s) := by
  unfold execCometRead
  repeat' split
  all_goals exact answers_next _

theorem answers_execHbmTempSample (stack : Nat) (milliC : Int) (s : State) : Answers (execHbmTempSample stack milliC s) := by
  unfold execHbmTempSample
  dsimp only
  repeat' split
  all_goals exact answers_next _

theorem answers_execBar2Read (o n : Nat) (s : State) : Answers (execBar2Read o n s) := by
  unfold execBar2Read
  dsimp only
  repeat' split
  all_goals exact answers_next _

theorem answers_execMemStatRead (who : Who) (p e : Nat) (s : State) : Answers (execMemStatRead who p e s) := by
  unfold execMemStatRead
  repeat' split
  all_goals simp only [answers_next, answers_query]

theorem answers_execTaskFetch (m r : Nat) (s : State) : Answers (execTaskFetch m r s) := by
  unfold execTaskFetch
  dsimp only
  repeat' split
  all_goals exact answers_next _

theorem answers_execMoveCopy (m r : Nat) (hostData : Bytes) (s : State) : Answers (execMoveCopy m r hostData s) := by
  unfold execMoveCopy
  dsimp only
  repeat' split
  all_goals exact answers_next _

theorem answers_execMoveFill (m r : Nat) (s : State) : Answers (execMoveFill m r s) := by
  unfold execMoveFill
  dsimp only
  repeat' split
  all_goals exact answers_next _

theorem answers_execTranscode (m r : Nat) (hostData : Bytes) (s : State) : Answers (execTranscode m r hostData s) := by
  unfold execTranscode
  dsimp only
  repeat' split
  all_goals exact answers_next _

theorem answers_execSend (m r : Nat) (s : State) : Answers (execSend m r s) := by
  unfold execSend
  dsimp only
  repeat' split
  all_goals exact answers_next _

theorem answers_execBarrier (m r : Nat) (s : State) : Answers (execBarrier m r s) := by
  unfold execBarrier
  dsimp only
  repeat' split
  all_goals exact answers_next _

theorem answers_execAlarm (m r : Nat) (s : State) : Answers (execAlarm m r s) := by
  unfold execAlarm
  repeat' split
  all_goals exact answers_next _

theorem answers_execAlarmFire (m r : Nat) (q : W32) (s : State) : Answers (execAlarmFire m r q s) := by
  unfold execAlarmFire
  repeat' split
  all_goals exact answers_next _

theorem answers_execNotBeforeRelease (m r : Nat) (s : State) : Answers (execNotBeforeRelease m r s) := by
  unfold execNotBeforeRelease
  repeat' split
  all_goals exact answers_next _

theorem answers_execTaskCompletion (m r : Nat) (q : W32) (s : State) : Answers (execTaskCompletion m r q s) := by
  unfold execTaskCompletion
  repeat' split
  all_goals exact answers_next _

theorem answers_execCompletionRecordAck (m r : Nat) (q : W32) (s : State) : Answers (execCompletionRecordAck m r q s) := by
  unfold execCompletionRecordAck
  dsimp only
  repeat' split
  all_goals exact answers_next _

theorem answers_execRingCfg (fn m r : Nat) (v : W32) (s : State) : Answers (execRingCfg fn m r v s) := by
  unfold execRingCfg
  dsimp only
  repeat' split
  all_goals exact answers_next _

theorem answers_execMoonCmdWhen (m : Nat) (s : State) : Answers (execMoonCmdWhen m s) := by
  unfold execMoonCmdWhen
  repeat' split
  all_goals exact answers_next _

theorem answers_execResizeStepBoundary (m : Nat) (s : State) : Answers (execResizeStepBoundary m s) := by
  unfold execResizeStepBoundary
  dsimp only
  repeat' split
  all_goals exact answers_next _

theorem answers_execStepRun (m r : Nat) (s : State) : Answers (execStepRun m r s) := by
  unfold execStepRun
  repeat' split
  all_goals simp only [answers_next, answers_startStep]

theorem answers_execStepClose (m r : Nat) (q : W32) (s : State) : Answers (execStepClose m r q s) := by
  unfold execStepClose
  dsimp only
  repeat' split
  all_goals exact answers_next _

theorem answers_execStepService (m r : Nat) (s : State) : Answers (execStepService m r s) := by
  unfold execStepService
  dsimp only
  repeat' split
  all_goals simp only [answers_next, answers_startStep]

theorem answers_execFollow (m r : Nat) (s : State) : Answers (execFollow m r s) := by
  unfold execFollow
  dsimp only
  repeat' split
  all_goals simp only [answers_next, answers_startStep]

theorem answers_execFollowWorkList (m r : Nat) (q step : W32) (l : FollowList) (s : State) : Answers (execFollowWorkList m r q step l s) := by
  unfold execFollowWorkList
  dsimp only
  repeat' split
  all_goals exact answers_next _

theorem answers_execFollowReport (m r : Nat) (q : W32) (f : Nat) (s : State) : Answers (execFollowReport m r q f s) := by
  unfold execFollowReport
  repeat' split
  all_goals exact answers_next _

theorem answers_execSpanTimeout (m r : Nat) (q : W32) (s : State) : Answers (execSpanTimeout m r q s) := by
  unfold execSpanTimeout
  repeat' split
  all_goals exact answers_next _

theorem answers_execSwapFire (m k : Nat) (s : State) : Answers (execSwapFire m k s) := by
  unfold execSwapFire
  dsimp only
  repeat' split
  all_goals exact answers_next _

theorem answers_execDeriveDone (m i : Nat) (s : State) : Answers (execDeriveDone m i s) := by
  unfold execDeriveDone
  dsimp only
  repeat' split
  all_goals simp only [answers_next, answers_pipeRes]

theorem answers_execActRestoreDone (m : Nat) (s : State) : Answers (execActRestoreDone m s) := by
  unfold execActRestoreDone
  dsimp only
  repeat' split
  all_goals simp only [answers_next, answers_pipeRes]

theorem answers_execGnsCfg (who : Who) (m : Nat) (g : GnsCfg) (s : State) : Answers (execGnsCfg who m g s) := by
  unfold execGnsCfg
  exact answers_command _ _ _ _ _

theorem answers_execGnsClose (who : Who) (m : Nat) (s : State) : Answers (execGnsClose who m s) := by
  unfold execGnsClose
  exact answers_command _ _ _ _ _

theorem answers_execSnapAccept (who : Who) (m : Nat) (a : SnapAccept) (s : State) : Answers (execSnapAccept who m a s) := by
  unfold execSnapAccept
  exact answers_command _ _ _ _ _

theorem answers_execSnapshotArm (m : Nat) (s : State) : Answers (execSnapshotArm m s) := by
  unfold execSnapshotArm
  dsimp only
  repeat' split
  all_goals exact answers_next _

theorem answers_execSnapshotCapture (m : Nat) (s : State) : Answers (execSnapshotCapture m s) := by
  unfold execSnapshotCapture
  dsimp only
  repeat' split
  all_goals exact answers_next _

theorem answers_execSnapshotDone (m : Nat) (ok : Bool) (s : State) : Answers (execSnapshotDone m ok s) := by
  unfold execSnapshotDone
  dsimp only
  repeat' split
  all_goals exact answers_next _

theorem answers_execTurnSwitchFire (m : Nat) (s : State) : Answers (execTurnSwitchFire m s) := by
  unfold execTurnSwitchFire
  dsimp only
  repeat' split
  all_goals exact answers_next _

theorem answers_execTurnDrainPoint (m : Nat) (s : State) : Answers (execTurnDrainPoint m s) := by
  unfold execTurnDrainPoint
  dsimp only
  repeat' split
  all_goals exact answers_next _

theorem answers_execTurnPlanDone (m : Nat) (s : State) : Answers (execTurnPlanDone m s) := by
  unfold execTurnPlanDone
  dsimp only
  repeat' split
  all_goals exact answers_next _

theorem answers_execTurnTimeout (m : Nat) (s : State) : Answers (execTurnTimeout m s) := by
  unfold execTurnTimeout
  dsimp only
  repeat' split
  all_goals exact answers_next _

theorem answers_execFetchChunkDone (m : Nat) (chunk : Bytes) (s : State) : Answers (execFetchChunkDone m chunk s) := by
  unfold execFetchChunkDone
  dsimp only
  repeat' split
  all_goals exact answers_next _

theorem answers_execBar4Write (offset : Nat) (data : Bytes) (s : State) : Answers (execBar4Write offset data s) := by
  unfold execBar4Write
  dsimp only
  repeat' split
  all_goals exact answers_next _

theorem answers_execBar4BufferFull (i : Nat) (s : State) : Answers (execBar4BufferFull i s) := by
  unfold execBar4BufferFull
  dsimp only
  repeat' split
  all_goals exact answers_next _

theorem answers_execBar4Timeout (m : Nat) (s : State) : Answers (execBar4Timeout m s) := by
  unfold execBar4Timeout
  dsimp only
  repeat' split
  all_goals exact answers_next _

theorem answers_execLinkSignalDetect (p : Nat) (c : ChanMeas) (s : State) : Answers (execLinkSignalDetect p c s) := by
  unfold execLinkSignalDetect
  dsimp only
  repeat' split
  all_goals exact answers_next _

theorem answers_execLinkUp (p : Nat) (q : Partner) (s : State) : Answers (execLinkUp p q s) := by
  unfold execLinkUp
  dsimp only
  repeat' split
  all_goals exact answers_next _

theorem answers_execData (p : Nat) (f : Flit) (s : State) : Answers (execData p f s) := by
  unfold execData
  dsimp only
  repeat' split
  all_goals exact answers_next _

theorem answers_execChunkHdr (p : Nat) (f : Flit) (h : ChunkHdr) (s : State) : Answers (execChunkHdr p f h s) := by
  unfold execChunkHdr
  dsimp only
  repeat' split
  all_goals exact answers_next _

theorem answers_execSendChunkStart (m r : Nat) (q : W32) (s : State) : Answers (execSendChunkStart m r q s) := by
  unfold execSendChunkStart
  dsimp only
  repeat' split
  all_goals exact answers_next _

theorem answers_execRetrainDone (p : Nat) (c : ChanMeas) (q : Partner) (s : State) : Answers (execRetrainDone p c q s) := by
  unfold execRetrainDone
  dsimp only
  repeat' split
  all_goals exact answers_next _

theorem answers_execLinkTimeout (m r : Nat) (q : W32) (s : State) : Answers (execLinkTimeout m r q s) := by
  unfold execLinkTimeout
  dsimp only
  repeat' split
  all_goals exact answers_next _

theorem answers_execPollMiss (e : Nat) (s : State) : Answers (execPollMiss e s) := by
  unfold execPollMiss
  repeat' split
  all_goals exact answers_next _

theorem answers_execArrive (g : ArriveMsg) (s : State) : Answers (execArrive g s) := by
  unfold execArrive
  dsimp only
  repeat' split
  all_goals exact answers_next _

theorem answers_execWithdraw (g : ArriveMsg) (s : State) : Answers (execWithdraw g s) := by
  unfold execWithdraw
  dsimp only
  repeat' split
  all_goals exact answers_next _

theorem answers_execBarrierTimeout (b : Nat) (s : State) : Answers (execBarrierTimeout b s) := by
  unfold execBarrierTimeout
  dsimp only
  repeat' split
  all_goals exact answers_next _

theorem answers_execBeacon (p : Nat) (b : BeaconMsg) (s : State) : Answers (execBeacon p b s) := by
  unfold execBeacon
  dsimp only
  repeat' split
  all_goals exact answers_next _

theorem answers_execGatewayResponse (request : Nat) (body : Bytes) (s : State) : Answers (execGatewayResponse request body s) := by
  unfold execGatewayResponse
  repeat' split
  all_goals exact answers_next _

theorem answers_execTargetTimeout (request : Nat) (s : State) : Answers (execTargetTimeout request s) := by
  unfold execTargetTimeout
  repeat' split
  all_goals exact answers_next _

theorem answers_execRingWindowRead (fn m offset len : Nat) (s : State) : Answers (execRingWindowRead fn m offset len s) := by
  unfold execRingWindowRead
  dsimp only
  repeat' split
  all_goals exact answers_next _

theorem answers_execRingWindowWrite (fn m offset : Nat) (b : Bytes) (s : State) : Answers (execRingWindowWrite fn m offset b s) := by
  unfold execRingWindowWrite
  dsimp only
  repeat' split
  all_goals exact answers_next _

theorem answers_execEvqCfg (fn : Nat) (v : W32) (s : State) : Answers (execEvqCfg fn v s) := by
  unfold execEvqCfg
  dsimp only
  repeat' split
  all_goals exact answers_next _

theorem answers_execCoolantRead (inlet outlet : Int) (s : State) : Answers (execCoolantRead inlet outlet s) := by
  unfold execCoolantRead
  repeat' split
  all_goals exact answers_next _

theorem answers_execFwStaged (image : Bytes) (hostStatus : Nat) (s : State) : Answers (execFwStaged image hostStatus s) := by
  unfold execFwStaged
  dsimp only
  repeat' split
  all_goals exact answers_next _

theorem answers_execFwSwapDone (verified : Bool) (s : State) : Answers (execFwSwapDone verified s) := by
  unfold execFwSwapDone
  dsimp only
  repeat' split
  all_goals exact answers_next _

theorem answers_execHbmRecalDone (stack : Nat) (rejected : List Nat) (s : State) : Answers (execHbmRecalDone stack rejected s) := by
  unfold execHbmRecalDone
  dsimp only
  repeat' split
  all_goals exact answers_next _

theorem answers_execRecoveryImage (image : Bytes) (s : State) : Answers (execRecoveryImage image s) := by
  unfold execRecoveryImage
  dsimp only
  repeat' split
  all_goals exact answers_next _

theorem answers_execDbgResponse (v : Bytes) (s : State) : Answers (execDbgResponse v s) := by
  unfold execDbgResponse
  dsimp only
  repeat' split
  all_goals exact answers_next _

theorem answers_execSamplePreload (load : Option Nat) (s : State) : Answers (execSamplePreload load s) := by
  unfold execSamplePreload
  dsimp only
  repeat' split
  all_goals exact answers_next _

theorem answers_execAdmissionDone (m : Nat) (s : State) : Answers (execAdmissionDone m s) := by
  unfold execAdmissionDone
  dsimp only
  repeat' split
  all_goals exact answers_next _

theorem answers_execPtpDelayResp (t4 : Nat) (s : State) : Answers (execPtpDelayResp t4 s) := by
  unfold execPtpDelayResp
  repeat' split
  all_goals exact answers_next _

theorem answers_execPpsEdge (s : State) : Answers (execPpsEdge s) := by
  unfold execPpsEdge
  dsimp only
  repeat' split
  all_goals exact answers_next _

theorem answers_execJournalPageTimer (s : State) : Answers (execJournalPageTimer s) := by
  unfold execJournalPageTimer
  repeat' split
  all_goals exact answers_next _

theorem answers_execPipeCmdFwd (m : Nat) (s : State) : Answers (execPipeCmdFwd m s) :=
  answers_takePipeCmd _ _ _

theorem answers_execPipeCmdBwd (m : Nat) (s : State) : Answers (execPipeCmdBwd m s) :=
  answers_takePipeCmd _ _ _

theorem answers_execPipeCmdUpdate (m : Nat) (s : State) : Answers (execPipeCmdUpdate m s) :=
  answers_takePipeCmd _ _ _

theorem answers_execFetchHeaderRead (m : Nat) (header hashes signature : Bytes) (s : State) :
    Answers (execFetchHeaderRead m header hashes signature s) := by
  unfold execFetchHeaderRead
  split
  · exact answers_next _
  · split
    · exact answers_next _
    · split
      · exact answers_next _
      · split
        · exact answers_next _
        · extract_lets c
          split
          · exact answers_next _
          · generalize fetchPages _ _ _ _ = x
            obtain ⟨code, t, pages⟩ := x
            exact answers_ite (answers_next _) (answers_next _)

/-- Every branch of every meaning ends in a next state (log 10, log 30). -/
theorem answers_exec (c : Instr) (s : State) : Answers (exec c s) := by
  cases c with
  | fmtStatRead => exact answers_query _ _ _ _ _
  | arrayStatRead | scrubScratchpad | scrubHbm | bar2Write | taskStatRead | preemptionBoundary | restoreDone | map | unmap | protect
    | replacePoisoned | migratePeerConfirm | ledgerRead | moonStatRead | cancelSwap | unload | variantRetire | serveStatRead | trainStatRead
    | entropyTestFail | delivered | nack | control | retrain | disable | enable | force112 | auto | linkStatRead | answer | orbitStatRead
    | packStatRead | registerWrite | mbxDoorbell | msixUnmask | dictStatRead | powerControlUpdate | drain | undrain | powerStatRead
    | journalPageProgrammed | compactNow | reloadStale | stop | sessionOffer | keyOffer | sessionProve | attestReport | keyLoad | extest
    | bridgeFail => exact answers_ite (answers_next _) (answers_ite (answers_next _) (answers_next _))
  | arrayBackgroundTest | forcedArrayTest | arrayTestDone | softFuse | softRepairDone | pageRetireDone | ringCtrlResume | ringCtrlReset
    | spillDone | precopyDone | migrationHandover | migrateStateReceived | readyReceived | goReceived | runningReceived | abortReceived
    | migrateReadyTimeout | migrateRunningTimeout | migrateGoTimeout | bringUpTimeout | credit | creditSync | poll | refWindow | ptpSync
    | delayReq | delayResp | flr | vfEnableClear | winBase | read | write | describe | stagingExpire | plcaBeaconTimeout | plcaBeacon
    | regulator | thermalEvaluate | hbmRecalWindow | coreHangTimeout | offerExpire | vfEnable | ptpAnnounce | schedTick | ledgerSnap
    | counters | orphan | refLoss | ppsHoldover | ptpSyncTimeout | beaconSend | beaconTimeout | delayReqSend | hotReset | powerFailDetect
    | leak | compactAt | compactionDone | fwTrialExpire | fwWatchdog | dbgChallenge | idcode | bypass
    | tapReset => exact answers_ite (answers_next _) (answers_next _)
  | syncSignal | syncSet | syncDump | ringTail | startUp | powerFailRestart | perstNDeassert | inputOv => exact answers_next _
  | create | resize | release | suspend | resume | migrateOut | migrateIn | migrateReclaim | moonCmdCancel | ledgerAck | serveCtx | swap
    | pipeCtx | pipeStart | pipeDrain | pipeRetry | pipeReset | snapshot | snapCancel | toLearn | toGenerate | turnCancel | loadBase
    | loadOverlay | loadVariant | attachShared | dropShared | fetchCancel | barrierDef | barrierMove | memberFabric | sparesDeclared
    | packRole | orbitPpsSeconds | orbitSource | journalReset | svcClear | stage | activate | commit | revert | operatorKeyDigest
    | sessionOpen | generate | erase => exact answers_command _ _ _ _ _
  | pipeCmdFwd => exact answers_execPipeCmdFwd _ _
  | pipeCmdBwd => exact answers_execPipeCmdBwd _ _
  | pipeCmdUpdate => exact answers_execPipeCmdUpdate _ _
  | forwardProgramStart | backwardProgramStart | updateProgramStart => exact answers_tryStart _ _ _
  | forwardDone | backwardDone | updateDone => exact answers_endProgram _ _ _
  | barrierRelease | hostReadAborted | billingMinuteClose | pollSend | expelIntervalElapsed => exact answers_whenUp _ _
  | hostCplTimeout => exact answers_ite (answers_next _) (answers_whenUp _ _)
  | inputHigh | inputLow | hostDmaError => exact answers_ite (answers_whenUp _ _) (answers_next _)
  | substitutionStart => exact answers_execSubstitutionStart _ _ _ _
  | substitutionDone => exact answers_execSubstitutionDone _ _ _
  | gemm => exact answers_execGemm _ _ _
  | gemmPassDone => exact answers_execGemmPassDone _ _ _ _ _ _
  | chain => exact answers_execChain _ _ _
  | chainStripDone => exact answers_execChainStripDone _ _ _ _ _
  | cometRead => exact answers_execCometRead _ _ _
  | hbmTempSample => exact answers_execHbmTempSample _ _ _
  | bar2Read => exact answers_execBar2Read _ _ _
  | memStatRead => exact answers_execMemStatRead _ _ _ _
  | taskFetch => exact answers_execTaskFetch _ _ _
  | moveCopy => exact answers_execMoveCopy _ _ _ _
  | moveFill => exact answers_execMoveFill _ _ _
  | transcode => exact answers_execTranscode _ _ _ _
  | send => exact answers_execSend _ _ _
  | barrier => exact answers_execBarrier _ _ _
  | alarm => exact answers_execAlarm _ _ _
  | alarmFire => exact answers_execAlarmFire _ _ _ _
  | notBeforeRelease => exact answers_execNotBeforeRelease _ _ _
  | taskCompletion => exact answers_execTaskCompletion _ _ _ _
  | completionRecordAck => exact answers_execCompletionRecordAck _ _ _ _
  | ringCfg => exact answers_execRingCfg _ _ _ _ _
  | moonCmdWhen => exact answers_execMoonCmdWhen _ _
  | resizeStepBoundary => exact answers_execResizeStepBoundary _ _
  | stepRun => exact answers_execStepRun _ _ _
  | stepClose => exact answers_execStepClose _ _ _ _
  | stepService => exact answers_execStepService _ _ _
  | follow => exact answers_execFollow _ _ _
  | followWorkList => exact answers_execFollowWorkList _ _ _ _ _ _
  | followReport => exact answers_execFollowReport _ _ _ _ _
  | spanTimeout => exact answers_execSpanTimeout _ _ _ _
  | swapFire => exact answers_execSwapFire _ _ _
  | deriveDone => exact answers_execDeriveDone _ _ _
  | actRestoreDone => exact answers_execActRestoreDone _ _
  | gnsCfg => exact answers_execGnsCfg _ _ _ _
  | gnsClose => exact answers_execGnsClose _ _ _
  | snapAccept => exact answers_execSnapAccept _ _ _ _
  | snapshotArm => exact answers_execSnapshotArm _ _
  | snapshotCapture => exact answers_execSnapshotCapture _ _
  | snapshotDone => exact answers_execSnapshotDone _ _ _
  | turnSwitchFire => exact answers_execTurnSwitchFire _ _
  | turnDrainPoint => exact answers_execTurnDrainPoint _ _
  | turnPlanDone => exact answers_execTurnPlanDone _ _
  | turnTimeout => exact answers_execTurnTimeout _ _
  | fetchChunkDone => exact answers_execFetchChunkDone _ _ _
  | bar4Write => exact answers_execBar4Write _ _ _
  | bar4BufferFull => exact answers_execBar4BufferFull _ _
  | bar4Timeout => exact answers_execBar4Timeout _ _
  | linkSignalDetect => exact answers_execLinkSignalDetect _ _ _
  | linkUp => exact answers_execLinkUp _ _ _
  | data => exact answers_execData _ _ _
  | chunkHdr => exact answers_execChunkHdr _ _ _ _
  | sendChunkStart => exact answers_execSendChunkStart _ _ _ _
  | retrainDone => exact answers_execRetrainDone _ _ _ _
  | linkTimeout => exact answers_execLinkTimeout _ _ _ _
  | pollMiss => exact answers_execPollMiss _ _
  | arrive => exact answers_execArrive _ _
  | withdraw => exact answers_execWithdraw _ _
  | barrierTimeout => exact answers_execBarrierTimeout _ _
  | beacon => exact answers_execBeacon _ _ _
  | gatewayResponse => exact answers_execGatewayResponse _ _ _
  | targetTimeout => exact answers_execTargetTimeout _ _
  | ringWindowRead => exact answers_execRingWindowRead _ _ _ _ _
  | ringWindowWrite => exact answers_execRingWindowWrite _ _ _ _ _
  | evqCfg => exact answers_execEvqCfg _ _ _
  | coolantRead => exact answers_execCoolantRead _ _ _
  | fwStaged => exact answers_execFwStaged _ _ _
  | fwSwapDone => exact answers_execFwSwapDone _ _
  | hbmRecalDone => exact answers_execHbmRecalDone _ _ _
  | recoveryImage => exact answers_execRecoveryImage _ _
  | dbgResponse => exact answers_execDbgResponse _ _
  | samplePreload => exact answers_execSamplePreload _ _
  | admissionDone => exact answers_execAdmissionDone _ _
  | ptpDelayResp => exact answers_execPtpDelayResp _ _
  | ppsEdge => exact answers_execPpsEdge _
  | journalPageTimer => exact answers_execJournalPageTimer _
  | fetchHeaderRead => exact answers_execFetchHeaderRead _ _ _ _ _

/-- Settles O7, row by row. -/
theorem everyCommandAnswers : Obligations.EveryCommandAnswers := by
  unfold Obligations.EveryCommandAnswers
  exact answers_exec

end Sys2Proof.Proofs
end

section
/-! Byte strings (R8): lengths, slices, and numbers written and read little-endian. -/

set_option Elab.async false

namespace Sys2Proof.Proofs

open Sys2Proof.Machine Sys2Proof.Laws

@[simp] theorem length_leBytes (n v : Nat) : (leBytes n v).length = n := by
  induction n generalizing v with
  | zero => rfl
  | succ n ih => simp [leBytes, ih]

@[simp] theorem length_slice (b : Bytes) (o n : Nat) : (slice b o n).length = n := by
  simp only [slice, List.length_append, List.length_take, List.length_drop, List.length_replicate]
  omega

@[simp] theorem length_memRead (m : List Host.Cell) (a n : Nat) : (memRead m a n).length = n := by
  induction n generalizing a with
  | zero => rfl
  | succ n ih => simp [memRead, ih]

theorem leNat_leBytes (n v : Nat) : leNat (leBytes n v) = v % 256 ^ n := by
  induction n generalizing v with
  | zero => simp [leBytes, leNat, Nat.mod_one]
  | succ n ih =>
    have hbyte : leNat (leBytes (n + 1) v) = v % 256 + 256 * leNat (leBytes n (v / 256)) := by
      simp [leBytes, leNat]
    rw [hbyte, ih, Nat.pow_succ', Nat.mod_mul]

/-- A slice that lies within the string. -/
theorem slice_eq_take_drop {b : Bytes} {o n : Nat} (h : o + n ≤ b.length) : slice b o n = (b.drop o).take n := by
  have hlen : n - min n (b.length - o) = 0 := by omega
  simp [slice, hlen]

/-- The part of a string that stands between two others. -/
theorem slice_middle {a b c : Bytes} {o n : Nat} (ho : a.length = o) (hn : b.length = n) : slice (a ++ b ++ c) o n = b := by
  subst ho hn
  rw [slice_eq_take_drop (by simp only [List.length_append]; omega), List.append_assoc, List.drop_left, List.take_left]

theorem slice_prefix {b c : Bytes} {n : Nat} (hn : b.length = n) : slice (b ++ c) 0 n = b := slice_middle (a := []) rfl hn

theorem field_prefix {c : Bytes} {n v : Nat} (hv : v < 256 ^ n) : field (leBytes n v ++ c) 0 n = v := by
  rw [field, slice_prefix (length_leBytes n v), leNat_leBytes, Nat.mod_eq_of_lt hv]

end Sys2Proof.Proofs
end

section
/-! Identity, keys and debug (R495 to R515, R527): offers, sessions and their proofs, reports, moon keys, the debug lock and the test access port. -/

set_option Elab.async false

namespace Sys2Proof.Proofs

open Sys2Proof.Machine Sys2Proof.Laws

/-- Settles O60: each instruction of the port is one assignment of its unit. -/
theorem testAccessPortActs : Obligations.TestAccessPortActs := by
  unfold Obligations.TestAccessPortActs
  intro s n hlive
  have hnot : ¬ dead s = true := by simp [hlive]
  refine ⟨if_neg hnot, if_neg hnot, if_neg hnot, if_neg hnot, ⟨_, if_neg hnot, rfl, rfl, ?_⟩, fun hok => ?_, fun hhalt hphase => ?_⟩
  · have hframe := exec_framed (.samplePreload none) s
    obtain ⟨_, hframed⟩ := hframe
    exact (hframed.frame _ (if_neg hnot)).only hframed.parts
  · have hact : extestOk s = true := by rcases hok with h | h <;> simp [extestOk, h]
    exact (if_neg hnot).trans (if_pos hact)
  · have hact : ¬ extestOk s = true := by simp [extestOk, hhalt, hphase]
    exact (if_neg hnot).trans (if_neg hact)

/-! ## The operator key (R502) -/

theorem writeDigest_accepted {s : State} {w : Who} {d : Bytes} (hrole : w.role = .operatorKey ∨ s.sec.operatorKeys = [])
    (hlen : d.length = 64) (hzero : allZero d = false) (hfree : s.sec.operatorKeys.length < 4) :
    writeDigest w d s = .ok (endSessions (modSec s fun x => { x with operatorKeys := x.operatorKeys ++ [d] })) := by
  have hclaim : keyClaimed s w = false := by rcases hrole with h | h <;> simp [keyClaimed, h]
  simp [writeDigest, hclaim, hlen, hzero, hfree]

theorem writeDigest_refused {s : State} {w : Who} {d : Bytes} (hrole : w.role = .operatorKey ∨ s.sec.operatorKeys = [])
    (hlen : d.length = 64) (hbad : allZero d = true ∨ 4 ≤ s.sec.operatorKeys.length) : writeDigest w d s = .error 7 := by
  have hclaim : keyClaimed s w = false := by rcases hrole with h | h <;> simp [keyClaimed, h]
  rcases hbad with h | h <;> simp [writeDigest, hclaim, hlen, h]

theorem writeDigest_claimed {s : State} {w : Who} {d : Bytes} (hrole : w.role ≠ .operatorKey) (hclaimed : s.sec.operatorKeys ≠ []) :
    writeDigest w d s = .error 10 := by
  simp [writeDigest, keyClaimed, hrole, hclaimed]

/-! ## Offers (R503) -/

/-- The offer that `makeOffer` makes from the entropy of two draws. -/
def newOffer (m : Nat) (s : State) : Offer :=
  { id := 1 + leNat (leBytes 8 (Config.entropy s.free)) % (2 ^ 64 - 1), moon := m, seed := leBytes 64 (Config.entropy (s.free + 1)),
    at_ := s.orbit.refNs }

theorem newOffer_id_lt (m : Nat) (s : State) : (newOffer m s).id < 256 ^ 8 := by
  have := Nat.mod_lt (leNat (leBytes 8 (Config.entropy s.free))) (show 0 < 2 ^ 64 - 1 by decide)
  simp only [newOffer]
  omega

theorem newOffer_id_ne_zero (m : Nat) (s : State) : (newOffer m s).id ≠ 0 := by
  simp [newOffer]

theorem makeOffer_offers (m : Nat) (s : State) :
    (makeOffer m s).1.sec.offers = (s.sec.offers.filter fun x => x.moon != m) ++ [newOffer m s] := rfl

theorem length_identityBytes : identityBytes.length = 8 := length_leBytes _ _

theorem length_signed (seed b : Bytes) : (signed seed b).length = b.length + sigBytes := by
  rw [signed, List.length_append, length_slice]

theorem makeOffer_length (m : Nat) (s : State) : (makeOffer m s).2.length = 6227 := by
  unfold makeOffer
  simp only [length_signed, List.length_append, length_leBytes, length_identityBytes, length_slice]
  rfl

/-- The value of an offer begins with its number. -/
theorem makeOffer_id (m : Nat) (s : State) : field (makeOffer m s).2 0 8 = (newOffer m s).id := by
  have hvalue : ∃ rest, (makeOffer m s).2 = leBytes 8 (newOffer m s).id ++ rest := by
    unfold makeOffer signed
    simp only [List.append_assoc]
    exact ⟨_, rfl⟩
  obtain ⟨rest, hvalue⟩ := hvalue
  rw [hvalue, field_prefix (newOffer_id_lt m s)]

/-- A read of an offer parameter `p` for moon `m`, or for a session (0xFF). -/
theorem query_makeOffer {s : State} {w : Who} {p e m : Nat} (h : readStatus s w p e = 0) :
    ∃ t o, query s w p e (fun s => .ok (keepPieces (makeOffer m s).1 w p e (makeOffer m s).2, (makeOffer m s).2)) = .next t ∧
      t.dict.answer.status = 0 ∧ t.dict.answer.value.length = 6227 ∧
      t.sec.offers = (s.sec.offers.filter fun x => x.moon != m) ++ [o] ∧ o.moon = m ∧ o.id ≠ 0 ∧ o.at_ = s.orbit.refNs ∧
      field t.dict.answer.value 0 8 = o.id := by
  refine ⟨_, newOffer m s, query_ok h rfl, rfl, makeOffer_length m s, ?_, rfl, newOffer_id_ne_zero m s, rfl, makeOffer_id m s⟩
  rw [answerWith_sec]
  exact makeOffer_offers m s

/-! ## Sessions (R504 to R508) -/

/-- A session opens on the live session offer that the write names. -/
theorem sessionOpen_accepted {s : State} {v : Bytes} {o : Offer} (hlen : v.length = 1584) (hlive : liveOffer s 0xFF = some o)
    (hid : field v 0 8 = o.id) :
    ∃ u, sessionOpen v s = .ok u ∧ u.dict = { s.dict with nonceProv := 0 } ∧
      u.sec = { s.sec with
        offers := s.sec.offers.filter fun x => x.id != o.id
        provisional := some (Config.kmac (Config.kemDecap o.seed (v.drop 16)) (leBytes 8 o.id ++ identityBytes) 256 "VLR-SESSION",
          o.id, Config.sha3 (v.drop 16)) } := by
  simp only [sessionOpen, hlen, hlive, hid, ne_eq, not_true_eq_false, if_false]
  exact ⟨_, rfl, rfl, rfl⟩

theorem sessionOpen_refused {s : State} {v : Bytes} {o : Offer} (hlen : v.length = 1584) (hlive : liveOffer s 0xFF = some o)
    (hid : field v 0 8 ≠ o.id) : sessionOpen v s = .error 7 := by
  simp [sessionOpen, hlen, hlive, hid]

/-- SESSION_PROVE ends with the answer that the proof gives. -/
theorem exec_sessionProve {s : State} {w : Who} (v : Bytes) (hw : writeStatus s w 0xA004 0 = 0) :
    exec (.sessionProve w v) s = .next (answer (sessionProve v s).1 (sessionProve v s).2) := by
  have hexec : exec (.sessionProve w v) s = execSessionProve w v s := rfl
  simp [hexec, execSessionProve, dead_of_write hw, hw]

/-- Settles O58. -/
theorem operatorKeyAndSessions : Obligations.OperatorKeyAndSessions := by
  unfold Obligations.OperatorKeyAndSessions
  refine ⟨fun s w d hw hlen => ⟨fun hrole hzero hfree => ?_, fun hrole hbad => ?_, fun hrole hclaimed => ?_⟩, fun s w hr => query_makeOffer hr,
    fun s w m0 m hm hr => ?_, fun s o ho hold => ?_, fun s w v o hw hlen hlive => ⟨fun hid => ?_, fun hid => ?_⟩,
    fun s w v kp ct id hw hlen hprov => ?_⟩
  · refine ⟨_, command_ok hw (writeDigest_accepted hrole hlen hzero hfree), rfl, ?_⟩
    rw [operatorDigest, answer_sec]
    simp [endSessions, modSec]
  · exact ⟨_, command_error hw (writeDigest_refused hrole hlen hbad), rfl, answer_sec _ _⟩
  · exact ⟨_, command_error hw (writeDigest_claimed hrole hclaimed), rfl, answer_sec _ _⟩
  · subst hm
    exact query_makeOffer hr
  · have hany : (s.sec.offers.any fun x => x.id == o.id && decide (x.at_ + 60000000000 ≤ s.orbit.refNs)) = true :=
      List.any_eq_true.2 ⟨o, ho, by simp [hold]⟩
    have hexec : exec (.offerExpire o.id) s = .next (endOffer s o.id) := if_pos hany
    obtain ⟨_, hframed⟩ := exec_framed (.offerExpire o.id) s
    exact ⟨_, hexec, rfl, (hframed.frame _ hexec).only hframed.parts⟩
  · obtain ⟨u, hopen, hdict, hsec⟩ := sessionOpen_accepted hlen hlive hid
    refine ⟨_, command_ok hw hopen, rfl, ?_, ?_, ?_, ?_⟩
    · rw [answer_sec, hsec]
    · rw [answer_dict, hdict]
    · rw [answer_sec, hsec]
    · rw [answer_sec, hsec]
      simp
  · exact ⟨_, command_error hw (sessionOpen_refused hlen hlive hid), rfl, answer_sec _ _⟩
  · refine ⟨_, exec_sessionProve v hw, ?_⟩
    rw [answer_status, answer_sec]
    by_cases hproof : operatorDigest s = some (Config.sha3 (v.take 2592)) ∧
      Config.dsaVerify (v.take 2592) (Config.sha3 (ascii "VLR-PROVE" ++ leBytes 8 id ++ identityBytes ++ ct)) (v.drop 2592) = true
    · have hproves : sessionProve v s = (raisePf (modSec s fun x => { x with proven := some kp, provisional := none }) 0x0A02 [id], 0) := by
        simp only [sessionProve, hlen, hprov, hproof, ne_eq, not_true_eq_false, if_false, and_self, if_true]
      rw [hproves, if_pos hproof, raisePf_sec]
      exact ⟨rfl, rfl, rfl⟩
    · have hproves : sessionProve v s = (modSec s fun x => { x with provisional := none }, 7) := by
        simp only [sessionProve, hlen, hprov, hproof, ne_eq, not_true_eq_false, if_false]
      rw [hproves, if_neg hproof]
      exact ⟨rfl, rfl, rfl⟩

/-! ## Moon keys (R511 to R513) -/

theorem keySlot_modSlot (s : State) (m : Nat) (f : KeySlot → KeySlot) : keySlot (modSlot s m f) m = f (keySlot s m) :=
  tget_tset_same _ _ _ _

/-- KEY_LOAD ends with the answer that the delivery gets. -/
theorem exec_keyLoad {s : State} {w : Who} {m0 m : Nat} (v : Bytes) (hm : m = effMoon w m0) (hw : writeStatus s w 0xA031 m = 0) :
    exec (.keyLoad w m0 v) s = .next (answer (keyLoad m v s).1 (keyLoad m v s).2) := by
  subst hm
  have hexec : exec (.keyLoad w m0 v) s = execKeyLoad w m0 v s := rfl
  simp [hexec, execKeyLoad, dead_of_write hw, hw]

/-- A refused delivery notes its error in the slot and leaves the key. -/
def keyRefused (m c : Nat) (s : State) : State := modSlot s m fun k => { k with lastError := c }

theorem keyLoad_not_free {s : State} {m : Nat} {v : Bytes} (hlen : v.length = 1656) (hstate : (getMoon s m).state ≠ .free) :
    keyLoad m v s = (s, 8) := by
  simp [keyLoad, hlen, hstate]

theorem keyLoad_no_offer {s : State} {m : Nat} {v : Bytes} (hlen : v.length = 1656) (hstate : (getMoon s m).state = .free)
    (hoffer : ∀ o, liveOffer s m = some o → field v 0 8 ≠ o.id) : keyLoad m v s = (keyRefused m 1 s, 7) := by
  cases hlive : liveOffer s m with
  | none => simp [keyLoad, hlen, hstate, hlive, keyRefused]
  | some o => simp [keyLoad, hlen, hstate, hlive, hoffer o hlive, keyRefused]

section Delivery

variable {s : State} {m : Nat} {v : Bytes} {o : Offer} (hlen : v.length = 1656) (hstate : (getMoon s m).state = .free)
  (hlive : liveOffer s m = some o) (hid : field v 0 8 = o.id)
include hlen hstate hlive hid

theorem keyLoad_other_moon (hmoon : field v 8 1 ≠ m) : keyLoad m v s = (keyRefused m 2 (endOffer s o.id), 7) := by
  simp [keyLoad, hlen, hstate, hlive, hid, hmoon, keyRefused]

theorem keyLoad_no_unwrap (hmoon : field v 8 1 = m) (hkw : Config.kwUnwrap (moonKek o m v) (v.drop 0x630) = none) :
    keyLoad m v s = (keyRefused m 3 (endOffer s o.id), 7) := by
  rw [moonKek] at hkw
  simp [keyLoad, hlen, hstate, hlive, hid, hmoon, hkw, keyRefused, -List.append_assoc]

theorem keyLoad_weak {key : Bytes} (hmoon : field v 8 1 = m) (hkw : Config.kwUnwrap (moonKek o m v) (v.drop 0x630) = some key)
    (hweak : key.take 32 = (key.drop 32).take 32) : keyLoad m v s = (keyRefused m 4 (endOffer s o.id), 7) := by
  rw [moonKek] at hkw
  simp [keyLoad, hlen, hstate, hlive, hid, hmoon, hkw, hweak, keyRefused, -List.append_assoc]

theorem keyLoad_accepted {key : Bytes} (hmoon : field v 8 1 = m) (hkw : Config.kwUnwrap (moonKek o m v) (v.drop 0x630) = some key)
    (hweak : key.take 32 ≠ (key.drop 32).take 32) :
    ∃ c a, keyLoad m v s = (raiseMoon (modSlot (endOffer s o.id) m fun _ => ⟨some key, false, 0⟩) m c a, 0) := by
  rw [moonKek] at hkw
  simp only [keyLoad, hlen, hstate, hlive, hid, hmoon, hkw, hweak, ne_eq, not_true_eq_false, if_false, beq_iff_eq]
  exact ⟨_, _, rfl⟩

end Delivery

/-- The branches of R512 in their order, with what each leaves. -/
theorem keyLoad_cases {s : State} {m : Nat} {v : Bytes} (hlen : v.length = 1656) :
    keyLoad m v s = (s, 8) ∨ (∃ c o, keyLoad m v s = (keyRefused m c s, 7) ∨ keyLoad m v s = (keyRefused m c (endOffer s o), 7)) ∨
      ∃ o key c a, keyLoad m v s = (raiseMoon (modSlot (endOffer s o) m fun _ => ⟨some key, false, 0⟩) m c a, 0) := by
  by_cases hstate : (getMoon s m).state = .free
  · by_cases hoffer : ∃ o, liveOffer s m = some o ∧ field v 0 8 = o.id
    · obtain ⟨o, hlive, hid⟩ := hoffer
      by_cases hmoon : field v 8 1 = m
      · cases hkw : Config.kwUnwrap (moonKek o m v) (v.drop 0x630) with
        | none => exact .inr (.inl ⟨3, o.id, .inr (keyLoad_no_unwrap hlen hstate hlive hid hmoon hkw)⟩)
        | some key =>
          by_cases hweak : key.take 32 = (key.drop 32).take 32
          · exact .inr (.inl ⟨4, o.id, .inr (keyLoad_weak hlen hstate hlive hid hmoon hkw hweak)⟩)
          · obtain ⟨c, a, h⟩ := keyLoad_accepted hlen hstate hlive hid hmoon hkw hweak
            exact .inr (.inr ⟨o.id, key, c, a, h⟩)
      · exact .inr (.inl ⟨2, o.id, .inr (keyLoad_other_moon hlen hstate hlive hid hmoon)⟩)
    · exact .inr (.inl ⟨1, 0, .inl (keyLoad_no_offer hlen hstate fun o hlive hid => hoffer ⟨o, hlive, hid⟩)⟩)
  · exact .inl (keyLoad_not_free hlen hstate)

/-- A slot holds a key after a delivery where it held one, or where the delivery was accepted. -/
theorem keyLoad_key_isSome {s : State} {m : Nat} {v : Bytes} (hlen : v.length = 1656) :
    (keySlot (keyLoad m v s).1 m).key.isSome = ((keySlot s m).key.isSome || (keyLoad m v s).2 == 0) := by
  have hraise : ∀ (u : State) (c : Nat) (a : List Nat), keySlot (raiseMoon u m c a) m = keySlot u m := fun u c a => by
    rw [keySlot, raiseMoon_sec]
    rfl
  have hend : ∀ o, keySlot (endOffer s o) m = keySlot s m := fun _ => rfl
  rcases keyLoad_cases hlen with h | ⟨c, o, h | h⟩ | ⟨o, key, c, a, h⟩
  all_goals rw [h]
  · simp
  · simp [keyRefused, keySlot_modSlot]
  · simp [keyRefused, keySlot_modSlot, hend]
  · simp [hraise, keySlot_modSlot]

theorem endOffer_offers (s : State) (id : Nat) : ∀ x ∈ (endOffer s id).sec.offers, x.id ≠ id := by
  simp [endOffer, modSec]

/-- The branches of R512 as the statement has them. -/
theorem keyLoad_judged {s : State} {m : Nat} {v : Bytes} (hlen : v.length = 1656) (hstate : (getMoon s m).state = .free) :
    ((∀ o, liveOffer s m = some o → field v 0 8 ≠ o.id) →
      (keyLoad m v s).2 = 7 ∧ (keySlot (keyLoad m v s).1 m).lastError = 1 ∧ (keyLoad m v s).1.sec.offers = s.sec.offers) ∧
    ∀ o, liveOffer s m = some o → field v 0 8 = o.id →
      (∀ x ∈ (keyLoad m v s).1.sec.offers, x.id ≠ o.id) ∧
      (field v 8 1 ≠ m → (keyLoad m v s).2 = 7 ∧ (keySlot (keyLoad m v s).1 m).lastError = 2) ∧
      (field v 8 1 = m → Config.kwUnwrap (moonKek o m v) (v.drop 0x630) = none →
        (keyLoad m v s).2 = 7 ∧ (keySlot (keyLoad m v s).1 m).lastError = 3) ∧
      ∀ key, field v 8 1 = m → Config.kwUnwrap (moonKek o m v) (v.drop 0x630) = some key →
        (key.take 32 = (key.drop 32).take 32 → (keyLoad m v s).2 = 7 ∧ (keySlot (keyLoad m v s).1 m).lastError = 4) ∧
        (key.take 32 ≠ (key.drop 32).take 32 → (keyLoad m v s).2 = 0 ∧ keySlot (keyLoad m v s).1 m = ⟨some key, false, 0⟩) := by
  have hrefused : ∀ c u, (keySlot (keyRefused m c u) m).lastError = c := fun c u => by rw [keyRefused, keySlot_modSlot]
  refine ⟨fun hoffer => ?_, fun o hlive hid => ⟨?_, fun hmoon => ?_, fun hmoon hkw => ?_, fun key hmoon hkw => ⟨fun hweak => ?_, fun hweak => ?_⟩⟩⟩
  · rw [keyLoad_no_offer hlen hstate hoffer]
    exact ⟨rfl, hrefused _ _, rfl⟩
  · by_cases hmoon : field v 8 1 = m
    · cases hkw : Config.kwUnwrap (moonKek o m v) (v.drop 0x630) with
      | none =>
        rw [keyLoad_no_unwrap hlen hstate hlive hid hmoon hkw]
        exact endOffer_offers s o.id
      | some key =>
        by_cases hweak : key.take 32 = (key.drop 32).take 32
        · rw [keyLoad_weak hlen hstate hlive hid hmoon hkw hweak]
          exact endOffer_offers s o.id
        · obtain ⟨c, a, h⟩ := keyLoad_accepted hlen hstate hlive hid hmoon hkw hweak
          rw [h, raiseMoon_sec]
          exact endOffer_offers s o.id
    · rw [keyLoad_other_moon hlen hstate hlive hid hmoon]
      exact endOffer_offers s o.id
  · rw [keyLoad_other_moon hlen hstate hlive hid hmoon]
    exact ⟨rfl, hrefused _ _⟩
  · rw [keyLoad_no_unwrap hlen hstate hlive hid hmoon hkw]
    exact ⟨rfl, hrefused _ _⟩
  · rw [keyLoad_weak hlen hstate hlive hid hmoon hkw hweak]
    exact ⟨rfl, hrefused _ _⟩
  · obtain ⟨c, a, h⟩ := keyLoad_accepted hlen hstate hlive hid hmoon hkw hweak
    rw [h, keySlot, raiseMoon_sec]
    exact ⟨rfl, tget_tset_same _ _ _ _⟩

theorem keyCmd_generate {s : State} {m : Nat} (hstate : (getMoon s m).state = .free) :
    keyCmd m 1 s = .ok (modSlot { s with free := s.free + 1 } m fun _ => ⟨some (twoHalves (leBytes 64 (Config.entropy s.free))), true, 0⟩) := by
  have hstate' : (tget s.moons Moon.reset m).state = .free := hstate
  simp [keyCmd, hstate, freshBytes, draw]

theorem keyCmd_erase {s : State} {m : Nat} (hstate : (getMoon s m).state = .free) :
    keyCmd m 2 s = .ok (modSlot (match liveOffer s m with | some o => endOffer s o.id | none => s) m fun _ => KeySlot.reset) := by
  simp [keyCmd, hstate] <;> rfl

theorem keyCmd_not_free {s : State} {m v : Nat} (hv : v = 1 ∨ v = 2) (hstate : (getMoon s m).state ≠ .free) : keyCmd m v s = .error 8 := by
  rcases hv with rfl | rfl <;> simp [keyCmd, hstate]

/-! ## The report (R509) -/

theorem attestReport_fields {s : State} {w : Who} {m : Nat} (hnonce : (attestNonce s w m).length = 32) :
    slice (attestReport w m s) 8 8 = identityBytes ∧ slice (attestReport w m s) 0x20 32 = attestNonce s w m := by
  have hparts : ∃ fl c, attestReport w m s = (leBytes 2 1 ++ leBytes 1 m ++ leBytes 1 fl ++ leBytes 2 Config.romVersion ++
      leBytes 1 s.fw.running ++ leBytes 1 (orbitCode s.orbit.state)) ++ identityBytes ++
      ((leBytes 8 s.orbit.now ++ leBytes 8 0) ++ attestNonce s w m ++ c) := by
    unfold attestReport signed
    simp only [List.append_assoc]
    exact ⟨_, _, rfl⟩
  obtain ⟨fl, c, h⟩ := hparts
  generalize ha : leBytes 2 1 ++ leBytes 1 m ++ leBytes 1 fl ++ leBytes 2 Config.romVersion ++ leBytes 1 s.fw.running ++
    leBytes 1 (orbitCode s.orbit.state) = a at h
  generalize hb : leBytes 8 s.orbit.now ++ leBytes 8 0 = b at h
  have ha : a.length = 8 := by simp [← ha]
  have hb : b.length = 16 := by simp [← hb]
  rw [h]
  refine ⟨slice_middle ha length_identityBytes, ?_⟩
  have h32 : (a ++ identityBytes ++ b).length = 0x20 := by
    simp [ha, hb, length_identityBytes]
  have hassoc : a ++ identityBytes ++ (b ++ attestNonce s w m ++ c) = a ++ identityBytes ++ b ++ attestNonce s w m ++ c := by
    simp only [List.append_assoc]
  rw [hassoc]
  exact slice_middle h32 hnonce

theorem exec_attestReport {s : State} {w : Who} {m0 m : Nat} (hm : m = effMoon w m0) (hr : readStatus s w 0xA021 m = 0) :
    exec (.attestReport w m0) s =
      .next (answerWith (keepPieces s w 0xA021 m (attestReport w m s)) 0 (attestReport w m s) (inPieces 0xA021)) := by
  subst hm
  have hexec : exec (.attestReport w m0) s = query s w 0xA021 (effMoon w m0)
      (fun s => .ok (keepPieces s w 0xA021 (effMoon w m0) (attestReport w (effMoon w m0) s), attestReport w (effMoon w m0) s)) := rfl
  rw [hexec, query_ok hr rfl]

/-! ## The debug lock (R515) -/

theorem raiseServed_sec (s : State) (c : Nat) (a : List Nat) : (raiseServed s c a).sec = s.sec := by
  unfold raiseServed
  dsimp only
  split
  · exact raisePf_sec _ _ _
  · rfl

theorem dbgChallenge_waits {s : State} (h : ∃ n, s.sec.refusedAt = some n ∧ s.orbit.refNs < n + 1000000000) :
    exec .dbgChallenge s = .next s := by
  obtain ⟨n, hrefused, hlt⟩ := h
  have hexec : exec .dbgChallenge s = execDbgChallenge s := rfl
  simp [hexec, execDbgChallenge, hrefused, hlt]

theorem dbgChallenge_served {s : State} (hlive : dead s = false)
    (h : ∀ n, s.sec.refusedAt = some n → n + 1000000000 ≤ s.orbit.refNs) :
    exec .dbgChallenge s = .next { s with
      sec := { s.sec with challenge := some (leBytes 32 (Config.entropy s.free)) }
      jtag := { s.jtag with dr := leNat (identityBytes ++ leBytes 32 (Config.entropy s.free)) }, free := s.free + 1 } := by
  have hexec : exec .dbgChallenge s = execDbgChallenge s := rfl
  cases hrefused : s.sec.refusedAt with
  | none => simp [hexec, execDbgChallenge, hrefused, hlive, freshBytes, draw, modSec]
  | some n =>
    have hpast : ¬ s.orbit.refNs < n + 1000000000 := Nat.not_lt.2 (h n hrefused)
    simp [hexec, execDbgChallenge, hrefused, hlive, hpast, freshBytes, draw, modSec]

/-- What makes a response to challenge `ch` acceptable (R515). -/
def dbgAccepts (s : State) (v ch : Bytes) : Prop :=
  v.length = 7227 ∧ scopeOk s (field v 0 1) = true ∧ operatorDigest s = some (Config.sha3 (slice v 8 2592)) ∧
    Config.dsaVerify (slice v 8 2592) (Config.sha3 (ascii "VLR-DEBUG" ++ identityBytes ++ ch ++ leBytes 1 (field v 0 1))) (v.drop 2600) = true

theorem dbgResponse_refused {s : State} {v ch : Bytes} (hlive : dead s = false) (hch : s.sec.challenge = some ch)
    (h : ¬ dbgAccepts s v ch) :
    exec (.dbgResponse v) s = .next (modSec s fun x => { x with challenge := none, refusedAt := some s.orbit.refNs }) := by
  have hexec : exec (.dbgResponse v) s = execDbgResponse v s := rfl
  rw [hexec, execDbgResponse, hch]
  simp only [hlive, Bool.false_eq_true, if_false]
  exact if_neg h

/-- The unit after an accepted response of a scope; scope 2 also ends the sessions and the module key. -/
def unlocked (scope : Nat) (x : SecUnit) : SecUnit :=
  let y := { x with challenge := none, everUnlocked := true, debug := if scope = 2 ∨ x.debug = .full then .full else .recovery }
  if scope = 2 then { y with moduleKey := false, provisional := none, proven := none } else y

theorem dbgResponse_accepted {s : State} {v ch : Bytes} (hlive : dead s = false) (hch : s.sec.challenge = some ch)
    (h : dbgAccepts s v ch) : ∃ t, exec (.dbgResponse v) s = .next t ∧ t.sec = unlocked (field v 0 1) s.sec := by
  have hexec : exec (.dbgResponse v) s = execDbgResponse v s := rfl
  rw [hexec, execDbgResponse, hch]
  simp only [hlive, Bool.false_eq_true, if_false]
  refine ⟨_, if_pos h, ?_⟩
  rw [raiseServed_sec]
  by_cases hscope : field v 0 1 = 2 <;> simp [unlocked, hscope, endSessions, modSec]

/-- Settles O59. -/
theorem keysReportsAndDebug : Obligations.KeysReportsAndDebug := by
  unfold Obligations.KeysReportsAndDebug
  refine ⟨fun s w m0 m hm hr hnonce => ?_, fun s w m0 m v hm hw hlen => ?_, fun s w m0 m hm hw => ⟨fun hstate => ⟨?_, ?_⟩, fun hstate => ⟨?_, ?_⟩⟩,
    fun s hlive => ⟨fun hpast => ?_, dbgChallenge_waits⟩, fun s v ch scope hlive hch hscope => ?_⟩
  · obtain ⟨hid, hnon⟩ := attestReport_fields hnonce
    refine ⟨_, exec_attestReport hm hr, ?_⟩
    rw [answerWith_answer, answerWith_sec]
    exact ⟨rfl, rfl, hid, hnon, rfl⟩
  · refine ⟨_, exec_keyLoad v hm hw, ?_, fun hstate => ?_, fun hstate => ?_⟩
    · rw [keySlot, answer_sec, answer_status]
      exact keyLoad_key_isSome hlen
    · rw [answer_status, answer_sec, keyLoad_not_free hlen hstate]
      exact ⟨rfl, rfl⟩
    · simp only [keySlot, answer_sec, answer_status]
      exact keyLoad_judged hlen hstate
  · subst hm
    refine ⟨_, command_ok hw (keyCmd_generate hstate), rfl, ?_, ?_⟩
    · rw [keySlot, answer_sec]
      exact tget_tset_same _ _ _ _
    · rw [answer_free]
      rfl
  · subst hm
    refine ⟨_, command_ok hw (keyCmd_erase hstate), rfl, ?_, fun o hlive => ?_⟩
    · rw [keySlot, answer_sec]
      exact tget_tset_same _ _ _ _
    · rw [answer_sec, hlive]
      exact endOffer_offers s o.id
  · subst hm
    exact ⟨_, command_error hw (keyCmd_not_free (.inl rfl) hstate), rfl, answer_sec _ _⟩
  · subst hm
    exact ⟨_, command_error hw (keyCmd_not_free (.inr rfl) hstate), rfl, answer_sec _ _⟩
  · exact ⟨_, dbgChallenge_served hlive hpast, rfl, rfl, rfl⟩
  · subst hscope
    by_cases h : dbgAccepts s v ch
    · obtain ⟨t, hexec, hsec⟩ := dbgResponse_accepted hlive hch h
      refine ⟨t, hexec, ?_, ?_⟩
      · rw [hsec, unlocked]
        split <;> rfl
      · refine Eq.mpr (if_pos h) ?_
        rw [hsec]
        refine ⟨?_, ?_, fun hscope => ?_, fun hscope hdebug => ?_⟩
        · rw [unlocked]
          split <;> rfl
        · rw [unlocked]
          split <;> rfl
        · simp [unlocked, hscope]
        · simp [unlocked, hscope, hdebug]
    · refine ⟨_, dbgResponse_refused hlive hch h, rfl, ?_⟩
      exact Eq.mpr (if_neg h) ⟨rfl, rfl, rfl⟩

end Sys2Proof.Proofs
end

section
/-! Single parts of the state across a frame: a part whose bit the mask lacks is as it was. -/

set_option Elab.async false

namespace Sys2Proof.Proofs

open Sys2Proof.Machine Sys2Proof.Laws

theorem power_of_frame {k : Nat} {s t : State} (h : Fr k s t) (hk : k.testBit 2 = false) : t.power = s.power :=
  h.power.resolve_left (by simp [hk])

theorem cores_of_frame {k : Nat} {s t : State} (h : Fr k s t) (hk : k.testBit 3 = false) : t.cores = s.cores :=
  h.cores.resolve_left (by simp [hk])

theorem mem_of_frame {k : Nat} {s t : State} (h : Fr k s t) (hk : k.testBit 4 = false) : t.mem = s.mem :=
  h.mem.resolve_left (by simp [hk])

theorem tasks_of_frame {k : Nat} {s t : State} (h : Fr k s t) (hk : k.testBit 5 = false) : t.tasks = s.tasks :=
  h.tasks.resolve_left (by simp [hk])

theorem moons_of_frame {k : Nat} {s t : State} (h : Fr k s t) (hk : k.testBit 6 = false) : t.moons = s.moons :=
  h.moons.resolve_left (by simp [hk])

theorem serve_of_frame {k : Nat} {s t : State} (h : Fr k s t) (hk : k.testBit 7 = false) : t.serve = s.serve :=
  h.serve.resolve_left (by simp [hk])

theorem train_of_frame {k : Nat} {s t : State} (h : Fr k s t) (hk : k.testBit 8 = false) : t.train = s.train :=
  h.train.resolve_left (by simp [hk])

theorem fetch_of_frame {k : Nat} {s t : State} (h : Fr k s t) (hk : k.testBit 9 = false) : t.fetch = s.fetch :=
  h.fetch.resolve_left (by simp [hk])

theorem links_of_frame {k : Nat} {s t : State} (h : Fr k s t) (hk : k.testBit 10 = false) : t.links = s.links :=
  h.links.resolve_left (by simp [hk])

theorem pack_of_frame {k : Nat} {s t : State} (h : Fr k s t) (hk : k.testBit 11 = false) : t.pack = s.pack :=
  h.pack.resolve_left (by simp [hk])

theorem stat_of_frame {k : Nat} {s t : State} (h : Fr k s t) (hk : k.testBit 14 = false) : t.stat = s.stat :=
  h.stat.resolve_left (by simp [hk])

theorem journal_of_frame {k : Nat} {s t : State} (h : Fr k s t) (hk : k.testBit 15 = false) : t.journal = s.journal :=
  h.journal.resolve_left (by simp [hk])

theorem fw_of_frame {k : Nat} {s t : State} (h : Fr k s t) (hk : k.testBit 16 = false) : t.fw = s.fw :=
  h.fw.resolve_left (by simp [hk])

theorem sec_of_frame {k : Nat} {s t : State} (h : Fr k s t) (hk : k.testBit 17 = false) : t.sec = s.sec :=
  h.sec.resolve_left (by simp [hk])

end Sys2Proof.Proofs
end

section
/-! Ring registers: the tail doorbell, configuration, RESUME and RESET (R205 to R209, R417). -/

set_option Elab.async false

namespace Sys2Proof.Proofs

open Sys2Proof.Machine Sys2Proof.Laws

@[simp] theorem ringVector_tasks (s : State) (m r : Nat) (a : Bool) : (ringVector s m r a).tasks = s.tasks :=
  tasks_of_frame fr_ringVector rfl

/-- A ring read across an operation that leaves the tasks' unit alone. -/
theorem getRing_of_tasks {s t : State} (h : t.tasks = s.tasks) (m r : Nat) : getRing t m r = getRing s m r := by
  unfold getRing; rw [h]

theorem ringTasks_of_tasks {s t : State} (h : t.tasks = s.tasks) (m r : Nat) : ringTasks t m r = ringTasks s m r := by
  unfold ringTasks; rw [h]

@[simp] theorem ringTasks_setRing (s : State) (m r a b : Nat) (x : Ring) : ringTasks (setRing s m r x) a b = ringTasks s a b := rfl

theorem mem_ringTasks {s : State} {m r : Nat} {t : Machine.Task} :
    t ∈ ringTasks s m r ↔ t ∈ s.tasks.tasks ∧ t.moon = m ∧ t.ring = r := by
  simp [ringTasks]

/-- What a RESET makes of one task of the ring: unstarted, armed and disarmed ones are discarded (R209). -/
def discardTask (s : State) (m r : Nat) (t : Machine.Task) : Machine.Task :=
  if t.moon == m && t.ring == r && (t.phase == .fetched || t.phase == .armed || (t.phase == .running && (isSend s t || t.desc.kind == 6))) then
    { t with phase := .done, result := 2, work := [], cores := [] } else t

/-- The step of a RESET that discards tasks and drops the ring's transfers. -/
def discardWaiting (s : State) (m r : Nat) : State :=
  { s with
    tasks := { s.tasks with tasks := s.tasks.tasks.map (discardTask s m r) }
    links := { s.links with tx := s.links.tx.filter fun t => !(t.moon == m && t.ring == r) } }

/-- A DRAINING ring before its waiting tasks are discarded: its signals dropped, its arrivals withdrawn (R209, R388). -/
def stopRing (s : State) (m r : Nat) : State :=
  withdrawArrivals (setRing (dropSignals s m r) m r { getRing s m r with state := .draining, failKept := false }) fun a b _ => a == m && b == r

theorem drainRing_eq (s : State) (m r : Nat) : drainRing s m r =
    drainEnd (discardUnfetched (discardWaiting (stopRing s m r) m r) m r (2 ^ (getRing s m r).log2)) m r := rfl

theorem stopRing_tasks (s : State) (m r : Nat) :
    (stopRing s m r).tasks = (setRing s m r { getRing s m r with state := .draining, failKept := false }).tasks := by
  unfold stopRing
  rw [tasks_of_frame fr_withdrawArrivals rfl]
  rfl

theorem discardTask_ids (s : State) (m r : Nat) (t : Machine.Task) :
    (discardTask s m r t).moon = t.moon ∧ (discardTask s m r t).ring = t.ring ∧ (discardTask s m r t).seq = t.seq := by
  unfold discardTask
  split <;> exact ⟨rfl, rfl, rfl⟩

theorem discardTask_phase {s : State} {m r : Nat} {t : Machine.Task} (hm : t.moon = m) (hr : t.ring = r) :
    (discardTask s m r t).phase ≠ .fetched ∧ (discardTask s m r t).phase ≠ .armed := by
  unfold discardTask
  split
  · simp
  · rename_i h
    simp [hm, hr] at h
    exact ⟨h.1.1, h.1.2⟩

theorem ringTasks_discardWaiting (s : State) (m r : Nat) :
    ringTasks (discardWaiting s m r) m r = (ringTasks s m r).map (discardTask s m r) := by
  unfold ringTasks discardWaiting
  simp only [List.filter_map]
  congr 1
  refine List.filter_congr fun t _ => ?_
  obtain ⟨hm, hr, _⟩ := discardTask_ids s m r t
  simp [hm, hr]

theorem nextFetch_discardWaiting (s : State) (m r : Nat) : nextFetch (discardWaiting s m r) m r = nextFetch s m r := by
  unfold nextFetch
  rw [ringTasks_discardWaiting, List.getLast?_map]
  cases (ringTasks s m r).getLast? with
  | none => rfl
  | some t => simp [(discardTask_ids s m r t).2.2]

theorem nextFetch_stopRing (s : State) (m r : Nat) : nextFetch (stopRing s m r) m r = nextFetch s m r := by
  unfold nextFetch
  rw [ringTasks_of_tasks (stopRing_tasks s m r), getRing_of_tasks (stopRing_tasks s m r), getRing_setRing, ringTasks_setRing]

theorem discardUnfetched_of_none {s : State} {m r : Nat} (fuel : Nat) (h : nextFetch s m r = (getRing s m r).tail) :
    discardUnfetched s m r fuel = s := by
  cases fuel with
  | zero => rfl
  | succ n =>
    unfold discardUnfetched
    exact if_pos h

theorem drainEnd_of_tasks {s : State} {m r : Nat} (h : ringTasks s m r ≠ []) : drainEnd s m r = s := by
  unfold drainEnd
  exact if_neg fun hc => h (List.isEmpty_iff.mp hc.2.2)

/-- A RESET of a ring whose descriptors are all fetched and that still has tasks: those that wait are discarded, the others run on (R209). -/
theorem drainRing_of_fetched {s : State} {m r : Nat} (hfetch : (getRing s m r).tail = nextFetch s m r) (htasks : ringTasks s m r ≠ []) :
    drainRing s m r = discardWaiting (stopRing s m r) m r := by
  have hring : getRing (discardWaiting (stopRing s m r) m r) m r = { getRing s m r with state := .draining, failKept := false } :=
    (getRing_of_tasks (stopRing_tasks s m r) m r).trans (getRing_setRing _ _ _ _)
  rw [drainRing_eq, discardUnfetched_of_none, drainEnd_of_tasks]
  · rw [ringTasks_discardWaiting, ringTasks_of_tasks (stopRing_tasks s m r)]
    simpa using htasks
  · rw [nextFetch_discardWaiting, nextFetch_stopRing, hring]
    exact hfetch.symm

/-- A doorbell inside the ring's size publishes (R208). -/
theorem takeTail_publishes {s : State} {fn m r : Nat} {v : W32} (hacc : ringAccess s fn m = true)
    (h : ¬ ((getRing s m r).state = .disabled ∨ (getRing s m r).state = .draining ∨ 2 ^ (getRing s m r).log2 < (v - (getRing s m r).head).toNat ∨
      (v - (getRing s m r).head).toNat < ((getRing s m r).tail - (getRing s m r).head).toNat)) :
    takeTail fn m r v s = setRing s m r { getRing s m r with tail := v } := by
  unfold takeTail
  rw [hacc]
  exact if_neg h

/-- Any other sets DB_ERR (R208). -/
theorem takeTail_refuses {s : State} {fn m r : Nat} {v : W32} (hacc : ringAccess s fn m = true)
    (h : (getRing s m r).state = .disabled ∨ (getRing s m r).state = .draining ∨ 2 ^ (getRing s m r).log2 < (v - (getRing s m r).head).toNat ∨
      (v - (getRing s m r).head).toNat < ((getRing s m r).tail - (getRing s m r).head).toNat) :
    takeTail fn m r v s = ringVector (setRing s m r { getRing s m r with dbErr := true }) m r true := by
  unfold takeTail
  rw [hacc]
  exact if_pos h

theorem execRingTail_now {s : State} {fn m r : Nat} {v : W32} (hwait : hostWaits s fn = false) :
    exec (.ringTail fn m r v) s = .next (takeTail fn m r v s) := by
  show execRingTail fn m r v s = _
  simp [execRingTail, hwait]

/-- Settles O24: each row is one branch of its register; RESET leaves the ring's tasks with those that wait discarded. -/
theorem ringRegistersAct : Obligations.RingRegistersAct := by
  unfold Obligations.RingRegistersAct
  refine ⟨?_, ?_, ?_, ?_, ?_, ?_⟩
  · intro s fn m r v hacc hwait hdis hdrain hsize hback
    refine ⟨setRing s m r { getRing s m r with tail := v }, ?_, getRing_setRing _ _ _ _, fr_setRing.only rfl⟩
    rw [execRingTail_now hwait, takeTail_publishes hacc]
    rintro (h | h | h | h)
    · exact hdis h
    · exact hdrain h
    · exact Nat.not_lt.mpr hsize h
    · exact Nat.not_lt.mpr hback h
  · intro s fn m r v hwait
    refine ⟨holdWrite s (.tail fn m r v), ?_, rfl, fr_holdWrite.only rfl⟩
    show execRingTail fn m r v s = _
    simp [execRingTail, hwait]
  · intro s fn m r v hacc hwait hbad
    refine ⟨ringVector (setRing s m r { getRing s m r with dbErr := true }) m r true, ?_, ?_, ?_⟩
    · rw [execRingTail_now hwait, takeTail_refuses hacc hbad]
    · rw [getRing_of_tasks (ringVector_tasks _ _ _ _), getRing_setRing]
    · exact (Fr.call fr_ringVector rfl (fr_setRing.up (b := 528416) rfl)).only rfl
  · intro s fn m r v hacc hen hdrain hbit
    constructor
    · intro hok
      refine ⟨_, ?_, getRing_setRing s m r _⟩
      show execRingCfg fn m r v s = _
      simp only [hen] at hok
      simp [execRingCfg, hacc, hen, hdrain, hbit, hok]
    · intro hbad
      refine ⟨ringVector (setRing s m r { getRing s m r with irqFail := v.toNat.testBit 6, log2 := v.toNat % 32, cfgErr := true }) m r true,
        ?_, ?_⟩
      · show execRingCfg fn m r v s = _
        simp only [hen] at hbad
        simp [execRingCfg, hacc, hen, hdrain, hbit, hbad]
      · rw [getRing_of_tasks (ringVector_tasks _ _ _ _), getRing_setRing]
  · intro s fn m r hacc hhalt
    refine ⟨setRing s m r { getRing s m r with state := .running, failKept := false }, ?_, ?_, rfl, fr_setRing.only rfl⟩
    · show execRingCtrlResume fn m r s = _
      simp [execRingCtrlResume, hacc, hhalt]
    · rw [getRing_setRing]
  · intro s fn m r hacc hstate hfetch htasks
    refine ⟨discardWaiting (stopRing s m r) m r, ?_, ?_, ?_⟩
    · show execRingCtrlReset fn m r s = _
      rw [← drainRing_of_fetched hfetch htasks]
      rcases hstate with h | h <;> simp [execRingCtrlReset, hacc, h]
    · show (getRing (stopRing s m r) m r).state = _
      rw [getRing_of_tasks (stopRing_tasks s m r), getRing_setRing]
    · intro u hu
      rw [ringTasks_discardWaiting, List.mem_map] at hu
      obtain ⟨t, ht, rfl⟩ := hu
      obtain ⟨_, hm, hr⟩ := mem_ringTasks.mp ht
      exact discardTask_phase hm hr

end Sys2Proof.Proofs
end

section
/-! Tasks of a ring: one that starts, one that completes, and the objects that it signals (R196, R201, R211). -/

set_option Elab.async false

namespace Sys2Proof.Proofs

open Sys2Proof.Machine Sys2Proof.Laws

/-! ## One task under its number -/

/-- Two tasks with the same moon, ring and number. -/
def SameKey (t u : Machine.Task) : Prop := u.moon = t.moon ∧ u.ring = t.ring ∧ u.seq = t.seq

/-- `t` stands in its ring, and no other task has its number. -/
structure SoleTask (s : State) (t : Machine.Task) : Prop where
  mem : t ∈ s.tasks.tasks
  only : ∀ u ∈ s.tasks.tasks, SameKey t u → u = t

theorem SoleTask.of_tasks {s u : State} {t : Machine.Task} (h : SoleTask s t) (e : u.tasks.tasks = s.tasks.tasks) : SoleTask u t :=
  ⟨e ▸ h.mem, e ▸ h.only⟩

theorem soleTask_putTask {s : State} {t u : Machine.Task} (hu : u ∈ s.tasks.tasks) (hkey : SameKey t u) : SoleTask (putTask s t) t := by
  obtain ⟨hm, hr, hq⟩ := hkey
  refine ⟨List.mem_map.mpr ⟨u, hu, by simp [hm, hr, hq]⟩, fun v hv hkey => ?_⟩
  obtain ⟨w, _, rfl⟩ := List.mem_map.mp hv
  by_cases h : (w.moon == t.moon && w.ring == t.ring && w.seq == t.seq) = true
  · exact if_pos h
  · rw [if_neg h] at hkey
    obtain ⟨hm, hr, hq⟩ := hkey
    simp [hm, hr, hq] at h

/-- Another task's change leaves it alone. -/
theorem SoleTask.putTask_other {s : State} {t u : Machine.Task} (h : SoleTask s t) (hne : ¬ SameKey u t) : SoleTask (putTask s u) t := by
  refine ⟨List.mem_map.mpr ⟨t, h.mem, if_neg ?_⟩, fun v hv hkey => ?_⟩
  · simpa [SameKey, and_assoc] using hne
  · obtain ⟨w, hw, rfl⟩ := List.mem_map.mp hv
    by_cases hc : (w.moon == u.moon && w.ring == u.ring && w.seq == u.seq) = true
    · rw [if_pos hc] at hkey
      obtain ⟨hm, hr, hq⟩ := hkey
      exact absurd ⟨hm.symm, hr.symm, hq.symm⟩ hne
    · rw [if_neg hc] at hkey ⊢
      exact h.only w hw hkey

theorem findTask_of_sole {s : State} {t : Machine.Task} (h : SoleTask s t) : findTask s t.moon t.ring t.seq = some t := by
  cases hfind : findTask s t.moon t.ring t.seq with
  | none => exact absurd (List.find?_eq_none.mp hfind t h.mem) (by simp)
  | some u =>
    have hkey := List.find?_some hfind
    simp only [Bool.and_eq_true, beq_iff_eq] at hkey
    rw [h.only u (List.mem_of_find?_eq_some hfind) ⟨hkey.1.1, hkey.1.2, hkey.2⟩]

theorem mem_of_findTask {s : State} {m r : Nat} {q : W32} {t : Machine.Task} (h : findTask s m r q = some t) :
    t ∈ s.tasks.tasks ∧ t.moon = m ∧ t.ring = r ∧ t.seq = q := by
  have hkey := List.find?_some h
  simp only [Bool.and_eq_true, beq_iff_eq] at hkey
  exact ⟨List.mem_of_find?_eq_some h, hkey.1.1, hkey.1.2, hkey.2⟩

theorem mem_of_oldestUnstarted {s : State} {m r : Nat} {t : Machine.Task} (h : oldestUnstarted s m r = some t) :
    t ∈ s.tasks.tasks ∧ t.moon = m ∧ t.ring = r ∧ t.phase = .fetched := by
  obtain ⟨hmem, hm, hr⟩ := mem_ringTasks.mp (List.mem_of_find?_eq_some h)
  exact ⟨hmem, hm, hr, by simpa using List.find?_some h⟩

theorem readyTask_eq_some {s : State} {m r k : Nat} {t : Machine.Task} (h : readyTask s m r k = some t) :
    oldestUnstarted s m r = some t ∧ t.desc.kind = k := by
  unfold readyTask at h
  split at h
  · rename_i u hu
    split at h
    · rename_i hc
      obtain rfl := Option.some.inj h
      simp only [Bool.and_eq_true, beq_iff_eq] at hc
      exact ⟨hu, hc.1.1⟩
    · contradiction
  · contradiction

theorem phaseOf_of_find {s : State} {m r : Nat} {q : W32} {t : Machine.Task} (h : findTask s m r q = some t) :
    phaseOf s m r q = some t.phase := by
  unfold phaseOf
  rw [h]
  rfl

/-! ## Objects (R195 to R197) -/

@[simp] theorem getObj_putTask (s : State) (t : Machine.Task) (n : Nat) : getObj (putTask s t) n = getObj s n := rfl
@[simp] theorem getObj_setRing (s : State) (m r : Nat) (x : Ring) (n : Nat) : getObj (setRing s m r x) n = getObj s n := rfl
@[simp] theorem getRing_putTask (s : State) (t : Machine.Task) (m r : Nat) : getRing (putTask s t) m r = getRing s m r := rfl

theorem getObj_setObj (s : State) (k : Nat) (o : SyncObj) : getObj (setObj s k o) k = o := tget_tset_same _ _ _ _

theorem getObj_of_tasks {s t : State} (h : t.tasks = s.tasks) (n : Nat) : getObj t n = getObj s n := by
  unfold getObj; rw [h]

theorem objNum_of_moons {s t : State} (h : t.moons = s.moons) (m k : Nat) : objNum t m k = objNum s m k := by
  unfold objNum getMoon; rw [h]

/-- An add changes objects alone among the tasks' unit. -/
theorem addObj_tasks (s : State) (m k : Nat) (d : Int) :
    (addObj s m k d).1.tasks.tasks = s.tasks.tasks ∧ (addObj s m k d).1.tasks.rings = s.tasks.rings := by
  unfold addObj
  split
  · exact ⟨rfl, rfl⟩
  · dsimp only
    split
    · exact ⟨rfl, rfl⟩
    · split
      · simp
      · exact ⟨rfl, rfl⟩

theorem addObj_added (s : State) (m k : Nat) (d : Int) : Added s (addObj s m k d).1 m k d := by
  intro n hn
  unfold addObj
  simp only [hn]
  split
  · rfl
  · rename_i hstuck
    split
    · rename_i hrange
      rw [getObj_of_tasks (raiseMoon_tasks _ _ _ _), getObj_of_tasks (incA_tasks _ _ _ _), getObj_setObj]
      rcases hrange with h | h
      · rw [if_pos h, if_pos (by omega)]
      · rw [if_neg (show ¬ (getObj s n).value + d > 0 by omega), if_neg (show ¬ 2147483647 < (getObj s n).value + d by omega), if_pos h]
    · rename_i hrange
      rw [getObj_setObj, if_neg (by omega), if_neg (by omega)]

theorem addObj_stuck {s : State} {m k n : Nat} {d : Int} (hn : objNum s m k = some n) (h : (getObj s n).stuck = true) :
    (addObj s m k d).2 = true := by
  unfold addObj
  simp [hn, h]

/-- The add seen from a state with the same moons and objects, and from one after it that leaves the objects alone. -/
theorem added_of_eq {s s1 t1 t : State} {m k : Nat} {d : Int} (h : Added s1 t1 m k d) (hmoons : s1.moons = s.moons)
    (hbefore : ∀ n, getObj s1 n = getObj s n) (hafter : ∀ n, getObj t n = getObj t1 n) : Added s t m k d := by
  intro n hn
  have := h n (by rw [objNum_of_moons hmoons]; exact hn)
  rw [hbefore] at this
  rw [hafter]
  exact this

theorem setObjValue_tasks (s : State) (m k : Nat) (v : Int) :
    (setObjValue s m k v).tasks.tasks = s.tasks.tasks ∧ (setObjValue s m k v).tasks.rings = s.tasks.rings := by
  unfold setObjValue
  split <;> exact ⟨rfl, rfl⟩

/-! ## The start of a task (R195, R204) -/

/-- The state after a task's consuming waits. -/
def afterWaits (s : State) (t : Machine.Task) : State :=
  (consumeOne (consumeOne s t.moon t.desc.wait0 (t.desc.w0En && t.desc.w0Consume) t.desc.w0Thresh).1 t.moon t.desc.wait1
    (t.desc.w1En && t.desc.w1Consume) t.desc.w1Thresh).1

theorem consumeOne_tasks (s : State) (m k : Nat) (on : Bool) (d : Int) :
    (consumeOne s m k on d).1.tasks.tasks = s.tasks.tasks ∧ (consumeOne s m k on d).1.tasks.rings = s.tasks.rings := by
  unfold consumeOne
  split
  · exact addObj_tasks _ _ _ _
  · exact ⟨rfl, rfl⟩

theorem afterWaits_tasks (s : State) (t : Machine.Task) :
    (afterWaits s t).tasks.tasks = s.tasks.tasks ∧ (afterWaits s t).tasks.rings = s.tasks.rings := by
  obtain ⟨h1, g1⟩ := consumeOne_tasks s t.moon t.desc.wait0 (t.desc.w0En && t.desc.w0Consume) t.desc.w0Thresh
  obtain ⟨h2, g2⟩ := consumeOne_tasks (consumeOne s t.moon t.desc.wait0 (t.desc.w0En && t.desc.w0Consume) t.desc.w0Thresh).1 t.moon
    t.desc.wait1 (t.desc.w1En && t.desc.w1Consume) t.desc.w1Thresh
  exact ⟨h2.trans h1, g2.trans g1⟩

/-- A task that consumes nothing starts from the state as it is. -/
theorem afterWaits_eq_self {s : State} {t : Machine.Task} (h0 : t.desc.w0En = false) (h1 : t.desc.w1En = false) : afterWaits s t = s := by
  unfold afterWaits
  rw [h0, h1]
  rfl

/-- The state and the task that a start leaves. -/
theorem startTask_fst (s : State) (t : Machine.Task) (ph : TaskPhase) : (startTask s t ph).1 =
    putTask (if t.ofPlan then afterWaits s t
      else setRing (afterWaits s t) t.moon t.ring { getRing (afterWaits s t) t.moon t.ring with started := t.seq + 1 }) (startTask s t ph).2 := rfl

theorem startTask_snd (s : State) (t : Machine.Task) (ph : TaskPhase) :
    ∃ a o, (startTask s t ph).2 = { t with phase := ph, startAt := a, sigOvf := o } := ⟨_, _, rfl⟩

theorem startTask_taskList (s : State) (t : Machine.Task) (ph : TaskPhase) :
    (startTask s t ph).1.tasks.tasks = (putTask s (startTask s t ph).2).tasks.tasks := by
  rw [startTask_fst]
  show List.map _ _ = List.map _ _
  congr 1
  split <;> exact (afterWaits_tasks s t).1

theorem startTask_sole {s : State} {t : Machine.Task} (h : t ∈ s.tasks.tasks) (ph : TaskPhase) :
    SoleTask (startTask s t ph).1 (startTask s t ph).2 :=
  (soleTask_putTask (t := (startTask s t ph).2) h ⟨rfl, rfl, rfl⟩).of_tasks (startTask_taskList s t ph)

/-- RING_STARTED passes a task that starts (R204). -/
theorem startTask_passes {s : State} {t : Machine.Task} (h : t.ofPlan = false) (ph : TaskPhase) :
    (getRing (startTask s t ph).1 t.moon t.ring).started = t.seq + 1 := by
  rw [startTask_fst, h]
  simp [getRing_setRing]

theorem startTask_obj {s : State} {t : Machine.Task} (h0 : t.desc.w0En = false) (h1 : t.desc.w1En = false) (ph : TaskPhase) (n : Nat) :
    getObj (startTask s t ph).1 n = getObj s n := by
  rw [startTask_fst, afterWaits_eq_self h0 h1, getObj_putTask]
  split <;> rfl

/-! ## The end of a task (R196, R211) -/

/-- What a task that completes signals with: its cores and work are given back, its end noted. -/
def ending (s : State) (t : Machine.Task) : Machine.Task :=
  { t with endAt := (writeBack s t.moon t.ring t.seq).orbit.now, cores := [], work := [], engine := none }

/-- The state and the task that a completion's signals leave. -/
def signalled (s : State) (t : Machine.Task) : State × Machine.Task := signalTask (writeBack s t.moon t.ring t.seq) (ending s t)

/-- The task as its record tells of it. -/
def finished (s : State) (t : Machine.Task) : Machine.Task := { (signalled s t).2 with phase := .recorded }

theorem completeTask_eq (s : State) (t : Machine.Task) : completeTask s t =
    if (signalled s t).2.ofPlan then putTask (signalled s t).1 (finished s t)
    else incB (putTask (signalled s t).1 (finished s t)) (resultCounter (signalled s t).2.result) (signalled s t).2.moon 1 := rfl

theorem applySignals_tasks (s : State) (t : Machine.Task) :
    (applySignals s t).1.tasks.tasks = s.tasks.tasks ∧ (applySignals s t).1.tasks.rings = s.tasks.rings := by
  have hset : ∀ (u : State) (k : Nat) (v : Int), u.tasks.tasks = s.tasks.tasks ∧ u.tasks.rings = s.tasks.rings →
      (setObjValue u t.moon k v).tasks.tasks = s.tasks.tasks ∧ (setObjValue u t.moon k v).tasks.rings = s.tasks.rings := fun u k v h =>
    ⟨(setObjValue_tasks u t.moon k v).1.trans h.1, (setObjValue_tasks u t.moon k v).2.trans h.2⟩
  have hadd : ∀ (u : State) (on : Bool) (k : Nat) (d : Int), u.tasks.tasks = s.tasks.tasks ∧ u.tasks.rings = s.tasks.rings →
      (if on then addObj u t.moon k d else (u, false)).1.tasks.tasks = s.tasks.tasks ∧
      (if on then addObj u t.moon k d else (u, false)).1.tasks.rings = s.tasks.rings := fun u on k d h => by
    cases on
    · exact h
    · exact ⟨(addObj_tasks u t.moon k d).1.trans h.1, (addObj_tasks u t.moon k d).2.trans h.2⟩
  unfold applySignals
  dsimp only
  split
  · split
    · exact hset _ _ _ (hset _ _ _ ⟨rfl, rfl⟩)
    · exact hset _ _ _ ⟨rfl, rfl⟩
  · exact hadd _ _ _ _ (hadd _ _ _ _ ⟨rfl, rfl⟩)

theorem writeMa_tasks {s u : State} {m ma : Nat} {b : Bytes} (h : writeMa s m ma b = .ok u) : u.tasks = s.tasks :=
  tasks_of_frame (fr_writeMa _ h) rfl

theorem haltRing_taskList (s : State) (m r : Nat) (q : W32) : (haltRing s m r q).tasks.tasks = s.tasks.tasks := rfl

theorem haltRing_started (s : State) (m r : Nat) (q : W32) : (getRing (haltRing s m r q) m r).started = (getRing s m r).started := by
  unfold haltRing
  rw [getRing_setRing]

/-- Signals change objects, the task's ring where a dump fails, and what the task tells of them. -/
theorem signalTask_kept (s : State) (t : Machine.Task) : (signalTask s t).1.tasks.tasks = s.tasks.tasks ∧
    (getRing (signalTask s t).1 t.moon t.ring).started = (getRing s t.moon t.ring).started ∧
    ∃ o c e a, (signalTask s t).2 = { t with sigOvf := o, result := c, error := e, faultMa := a } := by
  obtain ⟨happly, hrings⟩ := applySignals_tasks s t
  have hring : getRing (applySignals s t).1 t.moon t.ring = getRing s t.moon t.ring := by unfold getRing; rw [hrings]
  unfold signalTask
  split
  · exact ⟨rfl, rfl, _, _, _, _, rfl⟩
  · dsimp only
    split
    · split
      · split
        · rename_i u hwrite
          refine ⟨?_, ?_, _, _, _, _, rfl⟩
          · rw [writeMa_tasks hwrite, happly]
          · rw [getRing_of_tasks (writeMa_tasks hwrite), hring]
        · exact ⟨haltRing_taskList _ _ _ _, haltRing_started _ _ _ _, _, _, _, _, rfl⟩
      · exact ⟨happly, by rw [hring], _, _, _, _, rfl⟩
    · exact ⟨happly, by rw [hring], _, _, _, _, rfl⟩

/-- One signal of a task that is no SET and no DUMP. -/
theorem signalTask_plain {s : State} {t : Machine.Task} (h : PlainSignal t) (hkind : t.desc.kind = 4 → syncOp t.desc = 0) :
    signalTask s t = ((addObj s t.moon t.desc.sig0 t.desc.s0Add).1,
      { t with sigOvf := t.sigOvf || (addObj s t.moon t.desc.sig0 t.desc.s0Add).2 }) := by
  obtain ⟨hres, _, _, hs0, hs1⟩ := h
  have h1 : ¬ (t.desc.kind = 4 ∧ syncOp t.desc = 1) := fun h => by simp [hkind h.1] at h
  have h2 : ¬ (t.desc.kind = 4 ∧ syncOp t.desc = 2) := fun h => by simp [hkind h.1] at h
  have h2' : (t.desc.kind == 4 && syncOp t.desc == 2) = false := by simpa using h2
  unfold signalTask
  rw [if_neg (by simp [hres])]
  simp only [if_neg h2, applySignals, if_neg h1, hs0, hs1, h2']
  simp

theorem writeBack_tasks (s : State) (m r : Nat) (q : W32) : (writeBack s m r q).tasks = s.tasks := tasks_of_frame fr_writeBack rfl

theorem finished_kept (s : State) (t : Machine.Task) : SameKey t (finished s t) ∧ (finished s t).phase = .recorded ∧
    (finished s t).endAt = s.orbit.now ∧ (finished s t).late = t.late := by
  obtain ⟨_, _, o, c, e, a, h⟩ := signalTask_kept (writeBack s t.moon t.ring t.seq) (ending s t)
  have hend : (ending s t).endAt = s.orbit.now := congrArg OrbitUnit.now (orbit_of_frame fr_writeBack rfl)
  unfold finished signalled
  rw [h]
  exact ⟨⟨rfl, rfl, rfl⟩, rfl, hend, rfl⟩

theorem signalled_taskList (s : State) (t : Machine.Task) : (signalled s t).1.tasks.tasks = s.tasks.tasks :=
  (signalTask_kept _ _).1.trans (congrArg TaskUnit.tasks (writeBack_tasks _ _ _ _))

theorem completeTask_tasks (s : State) (t : Machine.Task) : (completeTask s t).tasks = (putTask (signalled s t).1 (finished s t)).tasks := by
  rw [completeTask_eq]
  split
  · rfl
  · exact incB_tasks _ _ _ _

theorem completeTask_sole {s : State} {t u : Machine.Task} (hu : u ∈ s.tasks.tasks) (hkey : SameKey t u) :
    SoleTask (completeTask s t) (finished s t) := by
  obtain ⟨⟨hm, hr, hq⟩, _⟩ := finished_kept s t
  obtain ⟨gm, gr, gq⟩ := hkey
  refine (soleTask_putTask (s := (signalled s t).1) (u := u) ?_ ⟨gm.trans hm.symm, gr.trans hr.symm, gq.trans hq.symm⟩).of_tasks ?_
  · rw [signalled_taskList]
    exact hu
  · rw [completeTask_tasks]

/-- The task found under its number after its completion. -/
theorem findTask_completeTask {s : State} {t u : Machine.Task} (hu : u ∈ s.tasks.tasks) (hkey : SameKey t u) :
    findTask (completeTask s t) t.moon t.ring t.seq = some (finished s t) := by
  obtain ⟨⟨hm, hr, hq⟩, _⟩ := finished_kept s t
  rw [← hm, ← hr, ← hq]
  exact findTask_of_sole (completeTask_sole hu hkey)

theorem completeTask_started (s : State) (t : Machine.Task) :
    (getRing (completeTask s t) t.moon t.ring).started = (getRing s t.moon t.ring).started := by
  rw [getRing_of_tasks (completeTask_tasks s t), getRing_putTask]
  refine (signalTask_kept (writeBack s t.moon t.ring t.seq) (ending s t)).2.1.trans ?_
  exact congrArg Ring.started (getRing_of_tasks (writeBack_tasks _ _ _ _) _ _)

theorem completeTask_obj (s : State) (t : Machine.Task) (n : Nat) : getObj (completeTask s t) n = getObj (signalled s t).1 n :=
  getObj_of_tasks (completeTask_tasks s t) n

/-- A completion adds the one signal of a task that is no SET and no DUMP (R196). -/
theorem completeTask_added {s : State} {t : Machine.Task} (h : PlainSignal t) (hkind : t.desc.kind = 4 → syncOp t.desc = 0) :
    Added s (completeTask s t) t.moon t.desc.sig0 t.desc.s0Add := by
  have hsig := signalTask_plain (s := writeBack s t.moon t.ring t.seq) (t := ending s t) h hkind
  refine added_of_eq (addObj_added (writeBack s t.moon t.ring t.seq) t.moon t.desc.sig0 t.desc.s0Add) (moons_of_frame fr_writeBack rfl)
    (getObj_of_tasks (writeBack_tasks _ _ _ _)) fun n => ?_
  rw [completeTask_obj, signalled, hsig]
  rfl

end Sys2Proof.Proofs
end

section
/-! SYNC tasks: SIGNAL, SET and DUMP (R196, R197, R201). -/

set_option Elab.async false

namespace Sys2Proof.Proofs

open Sys2Proof.Machine Sys2Proof.Laws

/-- A task that starts and completes at once. -/
def atOnce (s : State) (t : Machine.Task) : State := completeTask (startTask s t .done).1 (startTask s t .done).2

theorem runSync_ready {s : State} {op m r : Nat} {u : Machine.Task} (hready : readyTask s m r 4 = some u) (hsync : moonSyncs s m = true)
    (hop : syncOp u.desc = op) (hset : op = 1 → addsDue s m (setObjects u.desc) = false)
    (hdump : op = 2 → (checkWrite s m 20 u.desc.ext 1056).map Fail.code ≠ some 0) : runSync op m r s = atOnce s u := by
  unfold runSync
  rw [hready]
  refine if_pos ?_
  have h1 : (op == 1 && addsDue s m (setObjects u.desc)) = false := by
    by_cases h : op = 1
    · simp [hset h]
    · simp [h]
  have h2 : (op == 2 && (checkWrite s m 20 u.desc.ext 1056).map Fail.code == some 0) = false := by
    by_cases h : op = 2
    · simpa [h] using hdump h
    · simp [h]
  simp [hsync, hop, h1, h2]

/-- Its record is due, and RING_STARTED has passed it (R201, R204). -/
theorem atOnce_done {s : State} {m r k : Nat} {u : Machine.Task} (hready : readyTask s m r k = some u) (hplan : u.ofPlan = false) :
    phaseOf (atOnce s u) m r u.seq = some .recorded ∧ (getRing (atOnce s u) m r).started = u.seq + 1 := by
  obtain ⟨hmem, rfl, rfl, _⟩ := mem_of_oldestUnstarted (readyTask_eq_some hready).1
  have hsole := startTask_sole hmem .done
  obtain ⟨_, _, hsnd⟩ := startTask_snd s u .done
  constructor
  · have hfind : findTask (atOnce s u) u.moon u.ring u.seq = _ := findTask_completeTask hsole.mem ⟨rfl, rfl, rfl⟩
    rw [phaseOf_of_find hfind, (finished_kept _ _).2.1]
  · exact (completeTask_started (startTask s u .done).1 (startTask s u .done).2).trans (startTask_passes hplan .done)

theorem startTask_plain {s : State} {u : Machine.Task} (h : PlainSignal u) : PlainSignal (startTask s u .done).2 := h

theorem atOnce_added {s : State} {u : Machine.Task} (h : PlainSignal u) (hop : syncOp u.desc = 0) :
    Added s (atOnce s u) u.moon u.desc.sig0 u.desc.s0Add :=
  added_of_eq (completeTask_added (t := (startTask s u .done).2) (startTask_plain h) fun _ => hop) (moons_of_frame fr_startTask rfl)
    (startTask_obj h.2.1 h.2.2.1 .done) fun _ => rfl

/-- The task of an add to a stuck object records SIG_OVF (R196). -/
theorem atOnce_sigOvf {s : State} {u : Machine.Task} (h : PlainSignal u) (hop : syncOp u.desc = 0) {n : Nat}
    (hn : objNum s u.moon u.desc.sig0 = some n) (hstuck : (getObj s n).stuck = true) :
    (finished (startTask s u .done).1 (startTask s u .done).2).sigOvf = true := by
  have hplain := startTask_plain (s := s) h
  have hmoons : (writeBack (startTask s u .done).1 u.moon u.ring u.seq).moons = s.moons :=
    (moons_of_frame fr_writeBack rfl).trans (moons_of_frame fr_startTask rfl)
  have hobj : getObj (writeBack (startTask s u .done).1 u.moon u.ring u.seq) n = getObj s n :=
    (getObj_of_tasks (writeBack_tasks _ _ _ _) n).trans (startTask_obj h.2.1 h.2.2.1 .done n)
  have hovf : (addObj (writeBack (startTask s u .done).1 u.moon u.ring u.seq) u.moon u.desc.sig0 u.desc.s0Add).2 = true :=
    addObj_stuck ((objNum_of_moons hmoons _ _).trans hn) ((congrArg SyncObj.stuck hobj).trans hstuck)
  have hsig := signalTask_plain (s := writeBack (startTask s u .done).1 u.moon u.ring u.seq)
    (t := ending (startTask s u .done).1 (startTask s u .done).2) hplain fun _ => hop
  show (signalTask _ _).2.sigOvf = true
  refine (congrArg (fun x : State × Machine.Task => x.2.sigOvf) hsig).trans ?_
  show (_ || (addObj (writeBack (startTask s u .done).1 u.moon u.ring u.seq) u.moon u.desc.sig0 u.desc.s0Add).2) = true
  rw [hovf, Bool.or_true]

/-- A SET of one object (R197). -/
theorem signalTask_set {s : State} {t : Machine.Task} (hres : t.result = 0) (hkind : t.desc.kind = 4) (hop : syncOp t.desc = 1)
    (hs1 : t.desc.s1En = false) : (signalTask s t).1 = setObjValue s t.moon t.desc.sig0 (toSigned 32 t.desc.karg32) := by
  unfold signalTask
  rw [if_neg (by simp [hres])]
  simp [hkind, hop, applySignals, hs1]

theorem atOnce_set {s : State} {u : Machine.Task} {n : Nat} (hkind : u.desc.kind = 4) (hop : syncOp u.desc = 1) (hres : u.result = 0)
    (hs1 : u.desc.s1En = false) (hn : objNum s u.moon u.desc.sig0 = some n) :
    getObj (atOnce s u) n = ⟨toSigned 32 u.desc.karg32, false⟩ := by
  have hmoons : (writeBack (startTask s u .done).1 u.moon u.ring u.seq).moons = s.moons :=
    (moons_of_frame fr_writeBack rfl).trans (moons_of_frame fr_startTask rfl)
  have hset := signalTask_set (s := writeBack (startTask s u .done).1 u.moon u.ring u.seq)
    (t := ending (startTask s u .done).1 (startTask s u .done).2) hres hkind hop hs1
  have hvalue : setObjValue (writeBack (startTask s u .done).1 u.moon u.ring u.seq) u.moon u.desc.sig0 (toSigned 32 u.desc.karg32) =
      setObj (writeBack (startTask s u .done).1 u.moon u.ring u.seq) n ⟨toSigned 32 u.desc.karg32, false⟩ := by
    unfold setObjValue
    rw [objNum_of_moons hmoons, hn]
  calc getObj (atOnce s u) n
      = getObj (signalTask (writeBack (startTask s u .done).1 u.moon u.ring u.seq)
          (ending (startTask s u .done).1 (startTask s u .done).2)).1 n := completeTask_obj _ _ _
    _ = getObj (setObjValue (writeBack (startTask s u .done).1 u.moon u.ring u.seq) u.moon u.desc.sig0 (toSigned 32 u.desc.karg32)) n :=
        congrArg (getObj · n) hset
    _ = _ := by rw [hvalue, getObj_setObj]

/-- A task that has no register to write back leaves the caches alone (R134). -/
theorem writeBack_eq_self {s : State} {m r : Nat} {q : W32} (h : ∀ d ∈ s.mem.dirty, ¬(d.moon = m ∧ d.ring = r ∧ d.seq = q)) :
    writeBack s m r q = s := by
  have hmine : (s.mem.dirty.filter fun d => d.moon == m && d.ring == r && d.seq == q) = [] := by
    refine List.filter_eq_nil_iff.mpr fun d hd => ?_
    simpa [and_assoc] using h d hd
  unfold writeBack
  rw [hmine]
  rfl

/-- A DUMP without a second signal writes the block's 1,056 bytes (R197). -/
theorem signalTask_dump {s s1 : State} {t : Machine.Task} {n : Nat} (hres : t.result = 0) (hkind : t.desc.kind = 4) (hop : syncOp t.desc = 2)
    (hs1 : t.desc.s1En = false) (hn : objNum s t.moon t.desc.sig0 = some n)
    (hwrite : writeMa s t.moon t.desc.ext (dumpBytes s (n / 256)) = .ok s1) : (signalTask s t).1 = s1 := by
  unfold signalTask
  rw [if_neg (by simp [hres])]
  simp [hkind, hop, applySignals, hs1, hn, hwrite]

theorem completeTask_mem (s : State) (t : Machine.Task) : (completeTask s t).mem = (signalled s t).1.mem := by
  rw [completeTask_eq]
  split
  · rfl
  · exact incB_mem _ _ _ _

theorem atOnce_dump {s s1 : State} {u : Machine.Task} {n : Nat} (hkind : u.desc.kind = 4) (hop : syncOp u.desc = 2) (hres : u.result = 0)
    (hs1 : u.desc.s1En = false) (hclean : ∀ d ∈ s.mem.dirty, ¬(d.moon = u.moon ∧ d.ring = u.ring ∧ d.seq = u.seq))
    (hn : objNum s u.moon u.desc.sig0 = some n)
    (hwrite : writeMa (startTask s u .done).1 u.moon u.desc.ext (dumpBytes (startTask s u .done).1 (n / 256)) = .ok s1) :
    SameBytes s1 (atOnce s u) := by
  have hback : writeBack (startTask s u .done).1 u.moon u.ring u.seq = (startTask s u .done).1 :=
    writeBack_eq_self (by rw [mem_of_frame fr_startTask rfl]; exact hclean)
  have hdump := signalTask_dump (s := (startTask s u .done).1) (t := ending (startTask s u .done).1 (startTask s u .done).2) hres hkind hop hs1
    ((objNum_of_moons (moons_of_frame fr_startTask rfl) _ _).trans hn) hwrite
  have hmem : (atOnce s u).mem = s1.mem := by
    refine (completeTask_mem _ _).trans (congrArg State.mem ?_)
    show (signalTask (writeBack (startTask s u .done).1 u.moon u.ring u.seq) _).1 = s1
    rw [hback]
    exact hdump
  have hcores : (atOnce s u).cores = s1.cores := by
    have h1 : s1.cores = (startTask s u .done).1.cores := cores_of_frame (fr_writeMa _ hwrite) rfl
    exact (cores_of_frame fr_completeTask rfl).trans h1.symm
  intro a
  rw [hmem, hcores]
  exact ⟨rfl, rfl, rfl⟩

/-- Settles O21: the task starts and completes in one command; what its signals leave is read off the completion. -/
theorem syncTasksCompleteAtOnce : Obligations.SyncTasksCompleteAtOnce := by
  unfold Obligations.SyncTasksCompleteAtOnce
  refine ⟨?_, ?_, ?_⟩
  · intro s m r u hready hsync hop hplan
    obtain ⟨hphase, hstart⟩ := atOnce_done hready hplan
    obtain ⟨hmem, rfl, rfl, _⟩ := mem_of_oldestUnstarted (readyTask_eq_some hready).1
    refine ⟨_, congrArg Host.Outcome.next (runSync_ready hready hsync hop (fun h => by simp at h) fun h => by simp at h), hphase, hstart,
      fun hplain => ⟨atOnce_added hplain hop, fun n hn hstuck => ?_⟩⟩
    have hfind : findTask (atOnce s u) u.moon u.ring u.seq = _ :=
      findTask_completeTask (startTask_sole hmem .done).mem ⟨rfl, rfl, rfl⟩
    rw [hfind, Option.map_some, atOnce_sigOvf hplain hop hn hstuck]
  · intro s m r n u hready hsync hop hplan hadds hres hs1 hn
    obtain ⟨hphase, hstart⟩ := atOnce_done hready hplan
    obtain ⟨hold, hkind⟩ := readyTask_eq_some hready
    obtain ⟨_, rfl, rfl, _⟩ := mem_of_oldestUnstarted hold
    exact ⟨_, congrArg Host.Outcome.next (runSync_ready hready hsync hop (fun _ => hadds) fun h => by simp at h), hphase, hstart,
      atOnce_set hkind hop hres hs1 hn⟩
  · intro s m r u hready hsync hop hplan hcheck
    obtain ⟨hphase, hstart⟩ := atOnce_done hready hplan
    obtain ⟨hold, hkind⟩ := readyTask_eq_some hready
    obtain ⟨_, rfl, rfl, _⟩ := mem_of_oldestUnstarted hold
    exact ⟨_, congrArg Host.Outcome.next (runSync_ready hready hsync hop (fun h => by simp at h) fun _ => hcheck), hphase, hstart,
      fun n s1 hres hs1 hclean hn hwrite => atOnce_dump hkind hop hres hs1 hclean hn hwrite⟩

end Sys2Proof.Proofs
end

section
/-! ALARM tasks, not-before values, completions and completion records (R199 to R203, R208, R211). -/

set_option Elab.async false

namespace Sys2Proof.Proofs

open Sys2Proof.Machine Sys2Proof.Laws

/-! ## ALARM and NOT_BEFORE (R199, R202) -/

/-- A changed task is found under its number. -/
theorem findTask_putTask {s : State} {t u : Machine.Task} (hu : u ∈ s.tasks.tasks) (hkey : SameKey u t) :
    findTask (putTask s t) u.moon u.ring u.seq = some t := by
  obtain ⟨hm, hr, hq⟩ := hkey
  rw [← hm, ← hr, ← hq]
  exact findTask_of_sole (soleTask_putTask hu ⟨hm.symm, hr.symm, hq.symm⟩)

theorem length_filter_lt {α : Type} {p q : α → Bool} {l : List α} {a : α} (h : ∀ x ∈ l, p x = true → q x = true) (ha : a ∈ l)
    (hq : q a = true) (hp : p a = false) : (l.filter p).length < (l.filter q).length := by
  have hsub : l.filter p = (l.filter q).filter p := by
    rw [List.filter_filter]
    refine List.filter_congr fun x hx => ?_
    cases hpx : p x with
    | false => rfl
    | true => rw [h x hx hpx]; rfl
  rw [hsub, List.length_filter_lt_length_iff_exists]
  exact ⟨a, List.mem_filter.mpr ⟨ha, hq⟩, by simp [hp]⟩

/-- A completion gives back the alarm that its task held (R202). -/
theorem alarmsHeld_completeTask {s : State} {t u : Machine.Task} (hu : u ∈ s.tasks.tasks) (hkey : SameKey t u) (harmed : u.phase = .armed) :
    alarmsHeld (completeTask s t) none < alarmsHeld s none := by
  obtain ⟨⟨hm, hr, hq⟩, hphase, _⟩ := finished_kept s t
  have hlist : (completeTask s t).tasks.tasks = (putTask s (finished s t)).tasks.tasks := by
    rw [completeTask_tasks]
    show List.map _ _ = List.map _ _
    rw [signalled_taskList]
  unfold alarmsHeld
  rw [hlist]
  simp only [Option.isNone_none, Bool.true_or, Bool.and_true]
  show ((s.tasks.tasks.map _).filter _).length < _
  rw [List.filter_map, List.length_map]
  refine length_filter_lt (fun v _ hv => ?_) hu (by simp [harmed]) ?_
  · dsimp only [Function.comp] at hv
    split at hv
    · simp [hphase] at hv
    · exact hv
  · obtain ⟨gm, gr, gq⟩ := hkey
    simp [gm, gr, gq, hm, hr, hq, hphase]

theorem execAlarm_ready {s : State} {m r : Nat} {u : Machine.Task} (hready : readyTask s m r 7 = some u) (hruns : moonRuns s m = true) :
    exec (.alarm m r) s =
      .next (if alarmFree s m then (startTask s u .armed).1 else putTask s { u with alarmWait := true }) := by
  show execAlarm m r s = _
  unfold execAlarm
  rw [hready]
  simp only [hruns, Bool.not_true]
  cases alarmFree s m <;> rfl

/-- Settles O22. -/
theorem alarmsAndNotBefore : Obligations.AlarmsAndNotBefore := by
  unfold Obligations.AlarmsAndNotBefore
  refine ⟨?_, ?_, ?_, ?_⟩
  · intro s m r u hready hruns hfree
    obtain ⟨hmem, rfl, rfl, _⟩ := mem_of_oldestUnstarted (readyTask_eq_some hready).1
    refine ⟨(startTask s u .armed).1, ?_, ?_, fun hplan => startTask_passes hplan .armed⟩
    · rw [execAlarm_ready hready hruns, hfree]
      rfl
    · exact phaseOf_of_find (findTask_of_sole (startTask_sole hmem .armed))
  · intro s m r u hready hruns hfree
    obtain ⟨hmem, rfl, rfl, _⟩ := mem_of_oldestUnstarted (readyTask_eq_some hready).1
    refine ⟨putTask s { u with alarmWait := true }, ?_, ?_, rfl⟩
    · rw [execAlarm_ready hready hruns, hfree]
      rfl
    · exact congrArg (Option.map Machine.Task.alarmWait) (findTask_putTask (t := { u with alarmWait := true }) hmem ⟨rfl, rfl, rfl⟩)
  · intro s m r q u hfind harmed halarms horbit hnb hkind hearlier hfirst
    obtain ⟨hmem, rfl, rfl, rfl⟩ := mem_of_findTask hfind
    let v : Machine.Task := { u with late := u.alarmWait && decide (u.desc.notBefore + 1000 < s.orbit.now) }
    have hend := findTask_completeTask (t := v) hmem ⟨rfl, rfl, rfl⟩
    obtain ⟨_, hphase, _, hlate⟩ := finished_kept s v
    refine ⟨completeTask s v, ?_, ?_, ?_, alarmsHeld_completeTask hmem ⟨rfl, rfl, rfl⟩ harmed,
      fun hplain => completeTask_added (t := v) hplain fun h => by rw [show v.desc.kind = 7 from hkind] at h; simp at h⟩
    · show execAlarmFire u.moon u.ring u.seq s = _
      unfold execAlarmFire
      rw [hfind]
      exact if_pos (by simp [harmed, halarms, horbit, hnb, hearlier, hfirst])
    · exact (phaseOf_of_find hend).trans (congrArg some hphase)
    · exact (congrArg (Option.map Machine.Task.late) hend).trans (congrArg some hlate)
  · intro s m r u hold hup hnb horbit hdue hearlier
    obtain ⟨hmem, rfl, rfl, _⟩ := mem_of_oldestUnstarted hold
    refine ⟨putTask s { u with released := true }, ?_, fr_putTask.only rfl, ?_⟩
    · show execNotBeforeRelease u.moon u.ring s = _
      unfold execNotBeforeRelease
      rw [hold]
      exact if_pos (by simp [hup, hnb, horbit, hdue, hearlier])
    · exact congrArg (Option.map Machine.Task.released) (findTask_putTask (t := { u with released := true }) hmem ⟨rfl, rfl, rfl⟩)

/-! ## Cores offered after a completion (R231) -/

/-- What being handed cores makes of a task: a running one holds more of them, any other is as it was. -/
def TookCores (t u : Machine.Task) : Prop :=
  (∃ c e w n, u = { t with cores := c, seen := e, work := w, next := n }) ∧ (t.phase ≠ .running → u = t)

theorem TookCores.refl (t : Machine.Task) : TookCores t t := ⟨⟨t.cores, t.seen, t.work, t.next, rfl⟩, fun _ => rfl⟩

theorem TookCores.sameKey {t u : Machine.Task} (h : TookCores t u) : SameKey t u := by
  obtain ⟨⟨c, e, w, n, rfl⟩, _⟩ := h
  exact ⟨rfl, rfl, rfl⟩

theorem TookCores.phase {t u : Machine.Task} (h : TookCores t u) : u.phase = t.phase := by
  obtain ⟨⟨c, e, w, n, rfl⟩, _⟩ := h
  rfl

theorem TookCores.trans {t u v : Machine.Task} (h : TookCores t u) (g : TookCores u v) : TookCores t v := by
  refine ⟨?_, fun hp => ?_⟩
  · obtain ⟨⟨c, e, w, n, rfl⟩, _⟩ := h
    obtain ⟨⟨c, e, w, n, rfl⟩, _⟩ := g
    exact ⟨c, e, w, n, rfl⟩
  · rw [g.2 (by rw [h.phase]; exact hp), h.2 hp]

theorem foldl_better_mem (j : Nat) (l : List Claim) (c : Claim) :
    l.foldl (fun b x => if x.better j b then x else b) c ∈ c :: l := by
  induction l generalizing c with
  | nil => simp
  | cons a l ih =>
    rw [List.foldl_cons]
    split
    · exact List.mem_cons_of_mem _ (ih a)
    · rcases List.mem_cons.mp (ih c) with h | h
      · exact List.mem_cons.mpr (.inl h)
      · exact List.mem_cons_of_mem _ (List.mem_cons_of_mem _ h)

/-- The claim that takes a core is a task of the module. -/
theorem bestClaim_mem {s : State} {m k j : Nat} {c : Claim} (h : bestClaim s m k j = some c) : c.task ∈ s.tasks.tasks := by
  have hclaim : c ∈ claims s m k j := by
    unfold bestClaim at h
    split at h
    · contradiction
    · rename_i hc
      rw [hc]
      exact Option.some.inj h ▸ foldl_better_mem j _ _
  unfold claims at hclaim
  obtain ⟨t, ht, rfl⟩ := List.mem_map.mp hclaim
  exact (List.mem_filter.mp ht).1

/-- Handing a core over changes the task that takes it. -/
theorem takeCore_tasks (s : State) (t : Machine.Task) (j : Nat) : ∃ u, TookCores t u ∧ (t.phase = .running →
    (takeCore s t j).tasks.tasks = (putTask s u).tasks.tasks) ∧ (takeCore s t j).tasks.objs = s.tasks.objs ∧
    (takeCore s t j).tasks.rings = s.tasks.rings := by
  by_cases hrun : t.phase = .running
  · unfold takeCore
    dsimp only
    split <;> split <;>
    exact ⟨_, ⟨⟨_, _, _, _, rfl⟩, fun h => absurd hrun h⟩, fun _ => rfl, rfl, rfl⟩
  · refine ⟨t, TookCores.refl t, fun h => absurd h hrun, ?_, ?_⟩ <;>
    · unfold takeCore
      dsimp only
      split <;> split <;> rfl

/-- A sole task stays one while cores are handed out; objects and rings are left alone. -/
structure Handed (s u : State) : Prop where
  sole : ∀ t, SoleTask s t → ∃ v, TookCores t v ∧ SoleTask u v
  objs : u.tasks.objs = s.tasks.objs
  rings : u.tasks.rings = s.tasks.rings

theorem Handed.refl (s : State) : Handed s s := ⟨fun t h => ⟨t, TookCores.refl t, h⟩, rfl, rfl⟩

theorem Handed.trans {s u v : State} (h : Handed s u) (g : Handed u v) : Handed s v := by
  refine ⟨fun t ht => ?_, g.objs.trans h.objs, g.rings.trans h.rings⟩
  obtain ⟨a, hta, ha⟩ := h.sole t ht
  obtain ⟨b, hab, hb⟩ := g.sole a ha
  exact ⟨b, hta.trans hab, hb⟩

theorem handed_takeCore {s : State} {t : Machine.Task} (hmem : t ∈ s.tasks.tasks) (hrun : t.phase = .running) (j : Nat) :
    Handed s (takeCore s t j) := by
  obtain ⟨u, hu, htasks, hobjs, hrings⟩ := takeCore_tasks s t j
  refine ⟨fun x hx => ?_, hobjs, hrings⟩
  by_cases hkey : SameKey x t
  · obtain rfl := hx.only t hmem hkey
    exact ⟨u, hu, (soleTask_putTask hmem ⟨hu.sameKey.1.symm, hu.sameKey.2.1.symm, hu.sameKey.2.2.symm⟩).of_tasks (htasks hrun)⟩
  · refine ⟨x, TookCores.refl x, (hx.putTask_other fun hc => hkey ?_).of_tasks (htasks hrun)⟩
    obtain ⟨am, ar, aq⟩ := hu.sameKey
    obtain ⟨bm, br, bq⟩ := hc
    exact ⟨am.symm.trans bm.symm, ar.symm.trans br.symm, aq.symm.trans bq.symm⟩

theorem handed_offerCore (s : State) (m k j : Nat) : Handed s (offerCore s m k j) := by
  unfold offerCore
  split
  · split
    · rename_i c hbest
      split
      · rename_i hrun
        exact handed_takeCore (bestClaim_mem hbest) (by simpa using hrun) j
      · exact Handed.refl s
    · exact Handed.refl s
  · exact Handed.refl s

theorem handed_offerCores (s : State) (m k : Nat) : Handed s (offerCores s m k) := by
  have hfold : ∀ (l : List Nat) (u : State), Handed s u → Handed s (l.foldl (fun s j => offerCore s m k j) u) := by
    intro l
    induction l with
    | nil => exact fun u h => h
    | cons j l ih => exact fun u h => ih _ (h.trans (handed_offerCore u m k j))
  exact hfold _ s (Handed.refl s)

/-- A task that does not run is found as it was after cores were handed out. -/
theorem Handed.find {s u : State} (h : Handed s u) {t : Machine.Task} (ht : SoleTask s t) (hp : t.phase ≠ .running) :
    findTask u t.moon t.ring t.seq = some t := by
  obtain ⟨v, hv, hsole⟩ := h.sole t ht
  rw [hv.2 hp] at hsole
  exact findTask_of_sole hsole

/-! ## Completion and its record (R208, R211, R213) -/

theorem handed_taskCompletion {s : State} {m r : Nat} {q : W32} {u : Machine.Task} (hup : isUp s = true) (hfind : findTask s m r q = some u)
    (hdone : u.phase = .done) : ∃ t, exec (.taskCompletion m r q) s = .next t ∧ Handed (completeTask s u) t := by
  have hpipe : (pipeTaskEnd (completeTask s u) u).tasks = (completeTask s u).tasks := tasks_of_frame fr_pipeTaskEnd rfl
  have hbase : Handed (completeTask s u) (pipeTaskEnd (completeTask s u) u) :=
    ⟨fun t ht => ⟨t, TookCores.refl t, ht.of_tasks (congrArg TaskUnit.tasks hpipe)⟩, congrArg TaskUnit.objs hpipe, congrArg TaskUnit.rings hpipe⟩
  refine ⟨_, ?_, (hbase.trans (handed_offerCores _ m 1)).trans (handed_offerCores _ m 2)⟩
  show execTaskCompletion m r q s = _
  unfold execTaskCompletion
  rw [hfind]
  exact if_neg (by simp [hdone, hup])

/-- RING_HEAD passes the only task of a ring, once its record is acknowledged (R208). -/
theorem advanceHead_last {s : State} {m r : Nat} {t : Machine.Task} (h : ringTasks s m r = [t]) (hacked : t.phase = .acked) (fuel : Nat) :
    (getRing (advanceHead s m r (fuel + 2)) m r) = { getRing s m r with head := t.seq + 1 } ∧
    ringTasks (advanceHead s m r (fuel + 2)) m r = [] := by
  let u := setRing s m r { getRing s m r with head := t.seq + 1 }
  let v : State := { u with tasks := { u.tasks with tasks := u.tasks.tasks.filter fun w => !(w.moon == m && w.ring == r && w.seq == t.seq) } }
  have hempty : ringTasks v m r = [] := by
    refine List.filter_eq_nil_iff.mpr fun w hw hc => ?_
    obtain ⟨hmem, hne⟩ := List.mem_filter.mp hw
    have hmem : w ∈ s.tasks.tasks := hmem
    have hwt : w ∈ ringTasks s m r := List.mem_filter.mpr ⟨hmem, hc⟩
    obtain rfl := List.mem_singleton.mp (h ▸ hwt)
    rw [Bool.and_eq_true] at hc
    simp [hc.1, hc.2] at hne
  have hstep : advanceHead s m r (fuel + 2) = advanceHead v m r (fuel + 1) := by
    rw [advanceHead, h]
    exact if_pos hacked
  have hstop : advanceHead v m r (fuel + 1) = v := by
    rw [advanceHead, hempty]
  rw [hstep, hstop]
  exact ⟨getRing_setRing _ _ _ _, hempty⟩

/-- The state once a record that was written is acknowledged, before the interrupts (R208). -/
def recordPassed (s1 : State) (u : Machine.Task) : State :=
  advanceHead (putTask s1 { u with phase := .acked }) u.moon u.ring (s1.tasks.tasks.length + 1)

/-- The interrupts of a record (R213): the completion vector, then the attention vector. -/
def recordVectors (s : State) (m r : Nat) (done fails : Bool) : State :=
  let t := if done then ringVector s m r false else s
  if fails then ringVector t m r true else t

theorem recordVectors_kept (s : State) (m r : Nat) (done fails : Bool) : Fr 528384 s (recordVectors s m r done fails) := by
  unfold recordVectors
  cases done <;> cases fails
  · exact Fr.refl _ _
  · exact fr_ringVector
  · exact fr_ringVector
  · exact Fr.trans fr_ringVector fr_ringVector

theorem execCompletionRecordAck_written {s s1 : State} {u : Machine.Task} (hup : isUp s = true)
    (hfind : findTask s u.moon u.ring u.seq = some u) (hrec : u.phase = .recorded) (hplan : u.ofPlan = false)
    (hwrite : writeMa s u.moon ((getRing s u.moon u.ring).cplBase + 64 * (u.seq.toNat % 2 ^ (getRing s u.moon u.ring).log2)) (recordBytes u) =
      .ok s1) :
    ∃ fails, exec (.completionRecordAck u.moon u.ring u.seq) s =
      .next (drainEnd (recordVectors (recordPassed s1 u) u.moon u.ring u.desc.irqDone fails) u.moon u.ring) := by
  refine ⟨(u.result == 1 || (false && (getRing s u.moon u.ring).state != .draining)) &&
    (getRing (if u.desc.irqDone && !false then ringVector (recordPassed s1 u) u.moon u.ring false else recordPassed s1 u) u.moon u.ring).irqFail,
    ?_⟩
  have hrecord : writeRecord s u = .ok (s1, false) := by
    unfold writeRecord
    simp only [hwrite]
  show execCompletionRecordAck u.moon u.ring u.seq s = _
  unfold execCompletionRecordAck
  simp only [hfind, hrec, hplan, hup, hrecord, recordPassed, recordVectors]
  simp

/-- The last task of a running ring: RING_HEAD passes it, and the ring holds none. -/
theorem recordPassed_last {s s1 : State} {u : Machine.Task} (htasks : s1.tasks = s.tasks) (honly : ringTasks s u.moon u.ring = [u]) :
    getRing (recordPassed s1 u) u.moon u.ring = { getRing s u.moon u.ring with head := u.seq + 1 } ∧
    ringTasks (recordPassed s1 u) u.moon u.ring = [] := by
  have hmem : u ∈ s1.tasks.tasks := by
    rw [htasks]
    exact (mem_ringTasks.mp (honly ▸ List.mem_singleton.mpr rfl)).1
  have hring : ringTasks (putTask s1 { u with phase := .acked }) u.moon u.ring = [{ u with phase := .acked }] := by
    have hmap : ringTasks (putTask s1 { u with phase := .acked }) u.moon u.ring = (ringTasks s1 u.moon u.ring).map fun v =>
        if v.moon == u.moon && v.ring == u.ring && v.seq == u.seq then { u with phase := .acked } else v := by
      unfold ringTasks putTask
      rw [List.filter_map]
      congr 1
      refine List.filter_congr fun v _ => ?_
      dsimp only [Function.comp]
      split
      · rename_i h
        simp only [Bool.and_eq_true] at h
        simp [h.1]
      · rfl
    rw [hmap, ringTasks_of_tasks htasks, honly]
    simp
  obtain ⟨n, hn⟩ : ∃ n, s1.tasks.tasks.length = n + 1 := Nat.exists_eq_succ_of_ne_zero (by
    have := List.length_pos_of_mem hmem
    omega)
  unfold recordPassed
  rw [hn]
  obtain ⟨h1, h2⟩ := advanceHead_last hring rfl n
  exact ⟨h1.trans (by rw [getRing_putTask, getRing_of_tasks htasks]), h2⟩

theorem drainEnd_running {s : State} {m r : Nat} (h : (getRing s m r).state = .running) : drainEnd s m r = s := by
  unfold drainEnd
  exact if_neg fun hc => by simp [h] at hc

theorem fr_recordPassed (s1 : State) (u : Machine.Task) : Fr 32 s1 (recordPassed s1 u) := Fr.trans fr_putTask fr_advanceHead

theorem sameBytes_of_frame {k : Nat} {s t : State} (h : Fr k s t) (hk : partFree k .bytes = true) : SameBytes s t := h.part .bytes hk

/-- Settles O23. -/
theorem tasksCompleteAndLeaveTheRing : Obligations.TasksCompleteAndLeaveTheRing := by
  unfold Obligations.TasksCompleteAndLeaveTheRing
  refine ⟨?_, ?_⟩
  · intro s m r q u hup hfind hdone
    obtain ⟨t, hexec, hhanded⟩ := handed_taskCompletion hup hfind hdone
    obtain ⟨hmem, rfl, rfl, rfl⟩ := mem_of_findTask hfind
    obtain ⟨⟨hm, hr, hq⟩, hphase, hend, _⟩ := finished_kept s u
    have hsole := hhanded.find (completeTask_sole hmem ⟨rfl, rfl, rfl⟩) (by simp [hphase])
    rw [hm, hr, hq] at hsole
    refine ⟨t, hexec, ?_, ?_, fun hkind hplain => ?_⟩
    · rw [phaseOf_of_find hsole, hphase]
    · rw [hsole, Option.map_some, hend]
    · refine added_of_eq (completeTask_added hplain fun h => absurd h hkind) rfl (fun _ => rfl) fun n => ?_
      unfold getObj
      rw [hhanded.objs]
  · intro s s1 m r q u hup hfind hrec hplan hrun honly hwrite
    obtain ⟨_, rfl, rfl, rfl⟩ := mem_of_findTask hfind
    obtain ⟨fails, hexec⟩ := execCompletionRecordAck_written hup hfind hrec hplan hwrite
    obtain ⟨hring, hnone⟩ := recordPassed_last (writeMa_tasks hwrite) honly
    have hkept := recordVectors_kept (recordPassed s1 u) u.moon u.ring u.desc.irqDone fails
    have htasks := tasks_of_frame hkept rfl
    have hring' := (getRing_of_tasks htasks u.moon u.ring).trans hring
    rw [drainEnd_running (by rw [hring']; exact hrun)] at hexec
    refine ⟨_, hexec, ?_, ?_, ?_⟩
    · exact sameBytes_of_frame (k := 528416) (Fr.call hkept rfl ((fr_recordPassed s1 u).up rfl)) rfl
    · rw [hring']
    · rw [ringTasks_of_tasks htasks, hnone]

end Sys2Proof.Proofs
end

section
/-! A FILL under a layer's tag (R193, R321): the layer's element count changes in the layer table, beyond the bytes that the fill writes. -/

set_option Elab.async false

namespace Sys2Proof.Proofs

open Sys2Proof.Machine Sys2Proof.Laws

/-- An operand of one FP32 element at an MA under a tag (R190). -/
def elementAt (base tag : Nat) : Bytes :=
  leBytes 8 base ++ leBytes 16 0 ++ leBytes 4 1 ++ leBytes 4 1 ++ leBytes 12 0 ++ leBytes 1 0 ++ leBytes 1 tag ++ leBytes 18 0

/-- A FILL of one FP32 element at MA 128 under tag 7 (R193). -/
def taggedFill : Bytes := leBytes 1 1 ++ leBytes 3 0 ++ leBytes 4 0x01020304 ++ leBytes 24 0 ++ [0, 0, 1] ++ leBytes 29 0 ++
  elementAt 0 0 ++ elementAt 128 7

/-- A MOVE descriptor of moon 1 on any core. -/
def moveDesc : Desc :=
  { kind := 3, moon := 1, flags := 0, taskId := 0, notBefore := 0, wait0 := 0, wait1 := 0, sig0 := 0, sig1 := 0, w0Thresh := 0,
    w1Thresh := 0, s0Add := 0, s1Add := 0, coreMask := 0, ext := 0, extLines := 0, karg16 := 0, karg32 := 0 }

/-- Moon 1 on octet 0 with the fill fetched on its running ring 0, and a pipeline record whose one layer tallies tag 7 and has its table at
MA 0x1000. -/
def tallied : State :=
  { State.reset with
    power := { State.reset.power with phase := .up, bootStep := 11 }
    moons := [(1, { Moon.reset with state := .active, octets := [0], hbmPages := 4, table := [(0, ⟨true, true, false, false, 0, 5, 1⟩)] })]
    train := [(1, { Train.reset with pipeRec := some { parsePipe [] with layerTable := 0x1000, layers := 1 }, layers := [(0, { Layer.reset with gtag := 7 })] })]
    tasks := { State.reset.tasks with
      tasks := [mkTask 1 0 0 moveDesc taggedFill]
      rings := [(16, { Ring.reset with state := .running, enable := true, log2 := 6, tail := 1, base := 0x10000000000, cplBase := 0x10000001000 })] } }

/-- The fill's writes, after its start. -/
def fillWrites (s1 : State) (u : Machine.Task) (m : Nat) : Except Bad State :=
  writeTensor (if (parseMove u.ext).dstHost = 0 then touchDest s1 u (parseMove u.ext).dst else s1) m
    ((parseMove u.ext).dstHost == 1) (parseMove u.ext).dst
    ((upTo (parseMove u.ext).dst.vectors).map fun i =>
      (fillBytes (parseMove u.ext).fill (packedBytes (parseMove u.ext).dst.fmt (parseMove u.ext).dst.len) (fillPhase (parseMove u.ext).dst i),
       fillBytes (parseMove u.ext).fill (parseMove u.ext).dst.scaleBytes 0))

/-- The fill's own writes leave the layer's element count at 0; the command sets it to 1. -/
def tallyMoves : Bool :=
  match startMove tallied 1 0 1 with
  | some (.ok (s1, u)) =>
    match fillWrites s1 u 1, exec (.moveFill 1 0) tallied with
    | .ok s2, .next t => memGet s2.mem.spm 0x1014 == 0 && memGet t.mem.spm 0x1014 == 1
    | _, _ => false
  | _ => false

theorem tallyMoves_eq_true : tallyMoves = true := by decide +kernel

/-- Refutes O19: a COPY or FILL under a layer's gradient tag also writes the layer's element count into the layer table (R321), a byte
that the copy or the fill does not write. -/
theorem not_passesStripsAndMovesRun : ¬ Obligations.PassesStripsAndMovesRun := by
  unfold Obligations.PassesStripsAndMovesRun
  rintro ⟨_, _, hfill, _⟩
  have hmoves := tallyMoves_eq_true
  unfold tallyMoves at hmoves
  split at hmoves
  case h_2 => contradiction
  case h_1 s1 u hstart =>
    split at hmoves
    case h_2 => contradiction
    case h_1 s2 t hwrite hexec =>
      obtain ⟨t', hexec', hbytes, _⟩ := hfill tallied s1 s2 1 0 u rfl hstart hwrite
      rw [hexec] at hexec'
      obtain rfl := Host.Outcome.next.inj hexec'
      simp only [Bool.and_eq_true, beq_iff_eq] at hmoves
      have hsame := (hbytes 0x1014).2.1
      rw [hmoves.1, hmoves.2] at hsame
      contradiction

end Sys2Proof.Proofs
end

section
/-! Descriptors are fetched, and GEMM, CHAIN and BARRIER tasks start (R199, R201, R204, R214, R215). -/

set_option Elab.async false

namespace Sys2Proof.Proofs

open Sys2Proof.Machine Sys2Proof.Laws

/-! ## The fetch of a descriptor (R214, R215) -/

theorem execTaskFetch_ready {s : State} {m r : Nat} {b ext : Bytes} (hup : isUp s = true) (hm : m < 64) (hr : r < 16)
    (hrun : (getRing s m r).state = .running) (hsync : moonSyncs s m = true) (hold : oldestUnstarted s m r = none)
    (hnext : nextFetch s m r ≠ (getRing s m r).tail)
    (hread : readMa s m none ((getRing s m r).base + 64 * ((nextFetch s m r).toNat % 2 ^ (getRing s m r).log2)) 64 = .ok b)
    (hext : readExt s m (parseDesc b) = .ok ext) :
    exec (.taskFetch m r) s = .next (match fetchCheck s m (parseDesc b) ext with
      | some (c, k) => failFetch s (mkTask m r (nextFetch s m r) (parseDesc b) ext) c 0 k
      | none => addTask s (mkTask m r (nextFetch s m r) (parseDesc b) ext)) := by
  show execTaskFetch m r s = _
  unfold execTaskFetch
  rw [if_neg (by simp [hup, hm, hr, hrun, hsync, hold, hnext])]
  simp only [hread, hext]
  split <;> simp_all

theorem haltRing_running {s : State} {m r : Nat} (q : W32) (h : (getRing s m r).state = .running) :
    (getRing (haltRing s m r q) m r).state = .halted ∧ (getRing (haltRing s m r q) m r).fail = true := by
  unfold haltRing
  rw [getRing_setRing]
  exact ⟨if_pos h, rfl⟩

/-- A failed task of a ring halts it and leaves RING_STARTED (R209). -/
theorem failTask_ring {s : State} {t : Machine.Task} (hplan : t.ofPlan = false) (hrun : (getRing s t.moon t.ring).state = .running)
    (code ma detail : Nat) :
    (getRing (failTask s t code ma detail) t.moon t.ring).state = .halted ∧ (getRing (failTask s t code ma detail) t.moon t.ring).fail = true ∧
    (getRing (failTask s t code ma detail) t.moon t.ring).started = (getRing s t.moon t.ring).started := by
  let u := putTask (countUe s t.moon code ma) { t with phase := .done, work := [], cores := [], result := 1, error := code, faultMa := ma, detail := detail }
  have hfail : failTask s t code ma detail = haltRing u t.moon t.ring t.seq := if_neg (by
    show ¬ (t.ofPlan = true)
    rw [hplan]
    exact Bool.false_ne_true)
  have hu : getRing u t.moon t.ring = getRing s t.moon t.ring := getRing_of_tasks (s := s) (t := countUe s t.moon code ma) (tasks_of_frame fr_countUe rfl) _ _
  obtain ⟨hstate, hf⟩ := haltRing_running (s := u) t.seq (by rw [hu]; exact hrun)
  rw [hfail]
  exact ⟨hstate, hf, (haltRing_started u _ _ _).trans (by rw [hu])⟩

theorem failFetch_ring {s : State} {t : Machine.Task} (hplan : t.ofPlan = false) (hrun : (getRing s t.moon t.ring).state = .running)
    (code ma detail : Nat) :
    (getRing (failFetch s t code ma detail) t.moon t.ring).state = .halted ∧ (getRing (failFetch s t code ma detail) t.moon t.ring).fail = true ∧
    (getRing (failFetch s t code ma detail) t.moon t.ring).started = t.seq + 1 := by
  let v := addTask (setRing s t.moon t.ring { getRing s t.moon t.ring with started := t.seq + 1 }) t
  have hring : getRing v t.moon t.ring = { getRing s t.moon t.ring with started := t.seq + 1 } := getRing_setRing _ _ _ _
  obtain ⟨hstate, hfail, hstart⟩ := failTask_ring (s := v) (t := { t with startAt := s.orbit.now }) hplan
    (by rw [show getRing v t.moon t.ring = _ from hring]; exact hrun) code ma detail
  exact ⟨hstate, hfail, hstart.trans (by rw [show getRing v t.moon t.ring = _ from hring])⟩

/-- Settles O20. -/
theorem descriptorsAreFetched : Obligations.DescriptorsAreFetched := by
  unfold Obligations.DescriptorsAreFetched
  intro s m r b ext hup hm hr hrun hsync hold hnext hread hext
  have hexec := execTaskFetch_ready hup hm hr hrun hsync hold hnext hread hext
  refine ⟨fun hcheck => ?_, fun code detail hcheck => ?_⟩
  · rw [hcheck] at hexec
    exact ⟨_, hexec, rfl, rfl, fr_addTask.only rfl⟩
  · rw [hcheck] at hexec
    have hplan : (mkTask m r (nextFetch s m r) (parseDesc b) ext).ofPlan = false := by
      show decide (16 ≤ r) = false
      simpa using hr
    exact ⟨_, hexec, failFetch_ring (t := mkTask m r (nextFetch s m r) (parseDesc b) ext) hplan hrun code 0 detail⟩

/-! ## The start of GEMM, CHAIN and BARRIER tasks -/

/-- A started task whose work is offered to cores runs, and RING_STARTED has passed it. -/
theorem started_offered {s : State} {u : Machine.Task} (hmem : u ∈ s.tasks.tasks) (v : Machine.Task) (k : Nat)
    (hv : SameKey u v) (hphase : v.phase = .running) :
    phaseOf (offerCores (putTask (startTask s u .running).1 v) u.moon k) u.moon u.ring u.seq = some .running ∧
    (u.ofPlan = false → (getRing (offerCores (putTask (startTask s u .running).1 v) u.moon k) u.moon u.ring).started = u.seq + 1) := by
  have hsole := startTask_sole hmem .running
  have hput := soleTask_putTask (t := v) hsole.mem ⟨hv.1.symm, hv.2.1.symm, hv.2.2.symm⟩
  have hhanded := handed_offerCores (putTask (startTask s u .running).1 v) u.moon k
  obtain ⟨w, hw, hwsole⟩ := hhanded.sole v hput
  obtain ⟨am, ar, aq⟩ := hw.sameKey
  obtain ⟨bm, br, bq⟩ := hv
  constructor
  · have hfind := findTask_of_sole hwsole
    rw [am, ar, aq, bm, br, bq] at hfind
    rw [phaseOf_of_find hfind, hw.phase, hphase]
  · intro hplan
    have hring : getRing (offerCores (putTask (startTask s u .running).1 v) u.moon k) u.moon u.ring = getRing (startTask s u .running).1 u.moon u.ring := by
      unfold getRing
      rw [hhanded.rings]
      rfl
    rw [hring]
    exact startTask_passes hplan .running

theorem execGemm_starts {s : State} {m r : Nat} {u : Machine.Task} (hready : readyTask s m r 1 = some u) (hruns : startRuns s m r = true)
    (hcores : descCores s m u.desc ≠ []) (hfirst : firstCore s u = true)
    (ha : resCheck (startTask s u .running).1 m (parseGemm u.ext).a = none) (hb : resCheck (startTask s u .running).1 m (parseGemm u.ext).b = none) :
    exec (.gemm m r) s = .next (offerCores (putTask (startTask s u .running).1
      { (startTask s u .running).2 with units := (parseGemm u.ext).tiles, left := (parseGemm u.ext).tiles }) m 1) := by
  have hcheck : (resCheck (startTask s u .running).1 m (parseGemm u.ext).a).or (resCheck (startTask s u .running).1 m (parseGemm u.ext).b) = none := by
    rw [ha, hb]
    rfl
  show execGemm m r s = _
  unfold execGemm
  simp only [hready, hruns, hfirst, List.isEmpty_eq_false_iff.mpr hcores, Bool.not_true, Bool.false_eq_true, if_false]
  rw [hcheck]

theorem execChain_starts {s : State} {m r : Nat} {u : Machine.Task} (hready : readyTask s m r 2 = some u) (hruns : startRuns s m r = true)
    (hcores : descCores s m u.desc ≠ []) (hfirst : firstCore s u = true)
    (hcap : capCheck (startTask s u .running).1 m (parseChain u.ext).plane = none)
    (hins : resChecks (startTask s u .running).1 m (parseChain u.ext).ins = none) :
    exec (.chain m r) s = .next (offerCores (putTask (startTask s u .running).1
      { (startTask s u .running).2 with units := (parseChain u.ext).rows, left := (parseChain u.ext).rows }) m 2) := by
  have hcheck : (capCheck (startTask s u .running).1 m (parseChain u.ext).plane).or
      (resChecks (startTask s u .running).1 m (parseChain u.ext).ins) = none := by
    rw [hcap, hins]
    rfl
  show execChain m r s = _
  unfold execChain
  simp only [hready, hruns, hfirst, List.isEmpty_eq_false_iff.mpr hcores, Bool.not_true, Bool.false_eq_true, if_false]
  rw [hcheck]

/-- An ARRIVE with a combiner to go to is kept, and nothing of the tasks changes (R385, R388). -/
theorem sendArrive_kept {s : State} {m r scope b start f : Nat} {q : W32} (hcomb : combinerOf s scope = some f) :
    ∃ t, sendArrive s m r q scope b start = some t ∧ hasArrived t m scope b = true ∧ t.tasks = s.tasks := by
  unfold sendArrive
  rw [hcomb]
  dsimp only
  split
  · rename_i h
    exact ⟨s, rfl, h, rfl⟩
  · refine ⟨_, rfl, ?_, ?_⟩
    · split
      · simp [hasArrived]
      · unfold hasArrived
        rw [pack_of_frame fr_sendCtl rfl]
        simp
    · split
      · rfl
      · rw [tasks_of_frame fr_sendCtl rfl]

/-- Settles O18. -/
theorem eligibleTasksStart : Obligations.EligibleTasksStart := by
  unfold Obligations.EligibleTasksStart
  refine ⟨?_, ?_, ?_⟩
  · intro s m r u hready hruns hcores hfirst ha hb
    have hexec := execGemm_starts hready hruns hcores hfirst ha hb
    obtain ⟨hmem, rfl, rfl, _⟩ := mem_of_oldestUnstarted (readyTask_eq_some hready).1
    exact ⟨_, hexec, started_offered hmem { (startTask s u .running).2 with units := (parseGemm u.ext).tiles, left := (parseGemm u.ext).tiles } 1
      ⟨rfl, rfl, rfl⟩ rfl⟩
  · intro s m r u hready hruns hcores hfirst hcap hins
    have hexec := execChain_starts hready hruns hcores hfirst hcap hins
    obtain ⟨hmem, rfl, rfl, _⟩ := mem_of_oldestUnstarted (readyTask_eq_some hready).1
    exact ⟨_, hexec, started_offered hmem { (startTask s u .running).2 with units := (parseChain u.ext).rows, left := (parseChain u.ext).rows } 2
      ⟨rfl, rfl, rfl⟩ rfl⟩
  · intro s m r u hready hruns hcomb hvalid
    obtain ⟨hmem, rfl, rfl, _⟩ := mem_of_oldestUnstarted (readyTask_eq_some hready).1
    obtain ⟨f, hf⟩ : ∃ f, combinerOf (startTask s u .running).1 u.desc.karg16 = some f := by
      unfold noCombiner at hcomb
      split at hcomb
      · contradiction
      · rename_i f hf
        exact ⟨f, hf⟩
    obtain ⟨t, hsend, harrived, htasks⟩ := sendArrive_kept (m := u.moon) (r := u.ring) (q := u.seq) (b := u.desc.karg32)
      (start := (startTask s u .running).2.startAt) hf
    refine ⟨t, ?_, ?_, harrived, fun hplan => ?_⟩
    · have hdef : ¬ (combinerOf (startTask s u .running).1 u.desc.karg16 = some (ownFabric (startTask s u .running).1) ∧
          (!(getBarrier (startTask s u .running).1 u.desc.karg32).defn.valid) = true) := fun h => by
        rw [hvalid h.1] at h
        simp at h
      show execBarrier u.moon u.ring s = _
      unfold execBarrier
      simp only [hready, hruns, hcomb, Bool.not_true, Bool.false_eq_true, if_false]
      refine (if_neg hdef).trans ?_
      exact congrArg (fun x : Option State => match x with
        | some s => (Host.Outcome.next s : Res)
        | none => .next (failTask (startTask s u .running).1 (startTask s u .running).2 0x0504 0 0)) hsend
    · exact phaseOf_of_find (findTask_of_sole ((startTask_sole hmem .running).of_tasks (congrArg TaskUnit.tasks htasks)))
    · rw [getRing_of_tasks htasks]
      exact startTask_passes hplan .running

end Sys2Proof.Proofs
end

section
/-! Cores: substitution, failures, array tests and soft-fuses (R24 to R30, R120 to R123, R485). -/

set_option Elab.async false

namespace Sys2Proof.Proofs

open Sys2Proof.Machine Sys2Proof.Laws

/-! ## Records that stand in the journal (R478, R489) -/

theorem journaled_of_eq {s t : State} {p : JPayload} (h : Journaled s p) (hj : t.journal = s.journal) (hf : t.fw = s.fw) : Journaled t p := by
  unfold Journaled
  rw [hj, hf]
  exact h

theorem journaled_jAppend {s : State} {p : JPayload} (h : Journaled s p) (q : JPayload) : Journaled (jAppend s q) p := by
  rcases h with ⟨e, he, hp⟩ | ⟨hswap, e, he, hp⟩
  · exact .inl ⟨e, by rw [jAppend_committed]; exact he, hp⟩
  · refine .inr ⟨by simpa using hswap, e, ?_, hp⟩
    unfold jAppend
    simp only [incA_journal]
    simp only [List.mem_append] at he
    split
    · simp only [List.mem_append]
      exact he.imp_right fun h => h.imp_right Or.inl
    · simp only [List.mem_append]
      exact he.imp_right Or.inl

theorem journaled_setSvc {s : State} {p : JPayload} (h : Journaled s p) (b : Nat) : Journaled (setSvc s b) p := by
  unfold setSvc
  split
  · exact h
  · have happend : ∀ (t u : State) (q : JPayload), t.journal = s.journal → t.fw = s.fw → u.journal = (jAppend t q).journal →
        u.fw = (jAppend t q).fw → Journaled u p := fun t u q htj htf huj huf =>
      journaled_of_eq (journaled_jAppend (journaled_of_eq h htj htf) q) huj huf
    dsimp only
    generalize s.power.svcReason ||| BitVec.ofNat 32 (2 ^ b) = v
    exact happend { s with power := { s.power with svcReason := v, svcReqPin := decide (8 ≤ s.power.bootStep) } } _ (.svc v) rfl rfl
      (by rw [announce_journal, raisePf_journal]) (by rw [announce_fw, raisePf_fw])

/-! ## The kennel across what happens to tasks (R21) -/

theorem kennelFields_freeCore (s : State) (core : Nat) : KeepKennel s.cores (freeCore s core).cores := fr_freeCore.kennel25 rfl

theorem physOf_of_cores {s t : State} (h : t.cores.map = s.cores.map) (die lc : Nat) : physOf t die lc = physOf s die lc := by
  unfold physOf; rw [h]

theorem markSubst_cores (s : State) (core : Nat) : (markSubst s core).cores = s.cores := cores_of_frame fr_markSubst rfl

theorem kennel_of_cores {s t : State} (h : t.cores = s.cores) (die : Nat) : kennel t die = kennel s die := by
  unfold kennel logicalOf failedPc physOf; rw [h]

/-! ## Substitution (R26, R29, R490) -/

theorem execSubstitutionStart_now {s : State} {die lc : Nat} (reload : Bool) (hup : isUp s = true) (hdie : die < 4) (hlc : lc < 128)
    (hbound : atTaskBoundary s (128 * die + lc) = true) : exec (.substitutionStart die lc reload) s =
      match s.cores.subst.find? fun b => b.die == die with
      | some b => if b.lc == lc && !b.started && !reload && !b.reload then .next (startField (markSubst s (128 * die + lc)) b) else .next s
      | none =>
        if reload && s.cores.reloading && (staleCores s die).head? == some lc then
          match spareFor s die (physOf s die lc) with
          | some x =>
            .next { markSubst s (128 * die + lc) with cores := { (markSubst s (128 * die + lc)).cores with
              subst := (markSubst s (128 * die + lc)).cores.subst ++ [⟨die, lc, x, true, true⟩] } }
          | none =>
            if coreDrained s (128 * die + lc) then
              .next { s with cores := { s.cores with subst := s.cores.subst ++ [⟨die, lc, physOf s die lc, true, true⟩] } }
            else .next s
        else .next s := by
  show execSubstitutionStart die lc reload s = _
  unfold execSubstitutionStart
  exact if_neg (by simp [hup, hbound, Nat.not_le.mpr hdie, Nat.not_le.mpr hlc])

/-- The state with another list of substitutions. -/
def withSubst (s : State) (l : List Subst) : State := { s with cores := { s.cores with subst := l } }

theorem fr_withSubst (s : State) (l : List Subst) : Fr (2 ^ 3 + 2 ^ 25) s (withSubst s l) := Fr.lit (Fr.refl _ _)

theorem startField_kept {s : State} {b : Subst} (h : (kennel s b.die).contains b.spare = true) :
    startField s b = withSubst s (s.cores.subst.map fun x => if x == b then { b with started := true } else x) := by
  unfold startField
  exact if_pos h

theorem fr_markSubst_withSubst (s : State) (core : Nat) (l : List Subst) :
    OnlyChanges [.cores, .tasks] s (withSubst (markSubst s core) l) :=
  Fr.only (k := 2 ^ 3 + 2 ^ 5 + 2 ^ 25) (Fr.call (fr_withSubst _ _) rfl (fr_markSubst.up rfl)) rfl

theorem substitutionStart_field {s : State} {die lc : Nat} {b : Subst} (hup : isUp s = true) (hdie : die < 4) (hlc : lc < 128)
    (hbound : atTaskBoundary s (128 * die + lc) = true) (hfind : s.cores.subst.find? (fun x => x.die == die) = some b) (hb : b.lc = lc)
    (hstart : b.started = false) (hreload : b.reload = false) (hspare : (kennel s die).contains b.spare = true) :
    exec (.substitutionStart die lc false) s = .next (withSubst (markSubst s (128 * die + lc))
      (s.cores.subst.map fun x => if x == b then { b with started := true } else x)) := by
  have hbdie : b.die = die := by simpa using List.find?_some hfind
  have hmark := markSubst_cores s (128 * die + lc)
  rw [execSubstitutionStart_now false hup hdie hlc hbound, hfind]
  refine (if_pos (by simp [hb, hstart, hreload])).trans ?_
  rw [startField_kept (by rw [kennel_of_cores hmark, hbdie]; exact hspare), hmark]

theorem substitutionStart_reload {s : State} {die lc : Nat} (hup : isUp s = true) (hdie : die < 4) (hlc : lc < 128)
    (hbound : atTaskBoundary s (128 * die + lc) = true) (hfind : s.cores.subst.find? (fun x => x.die == die) = none)
    (hload : s.cores.reloading = true) (hstale : (staleCores s die).head? = some lc) : exec (.substitutionStart die lc true) s =
      match spareFor s die (physOf s die lc) with
      | some x => .next (withSubst (markSubst s (128 * die + lc)) (s.cores.subst ++ [⟨die, lc, x, true, true⟩]))
      | none =>
        if coreDrained s (128 * die + lc) then .next (withSubst s (s.cores.subst ++ [⟨die, lc, physOf s die lc, true, true⟩])) else .next s := by
  rw [execSubstitutionStart_now true hup hdie hlc hbound, hfind]
  refine (if_pos (by simp [hload, hstale])).trans ?_
  unfold withSubst
  rw [markSubst_cores]

/-! ## The end of a substitution (R24, R27, R490) -/

theorem bankMcode_of_fw {s t : State} (h : t.fw = s.fw) : bankMcode t = bankMcode s := by
  unfold bankMcode; rw [h]

/-- The map and the journal once a spare answers to its logical core (R26, R27). -/
theorem useSpare_kept (s : State) (b : Subst) : physOf (useSpare s b) b.die b.lc = b.spare ∧ (useSpare s b).cores.subst = s.cores.subst ∧
    (useSpare s b).fw = s.fw ∧ Journaled (useSpare s b) (.coreMap b.die b.lc b.spare 0) := by
  have hset : ∀ u : State, u.cores = s.cores → u.fw = s.fw →
      physOf (setMap u b.die b.lc b.spare 0) b.die b.lc = b.spare ∧ (setMap u b.die b.lc b.spare 0).cores.subst = s.cores.subst ∧
      (setMap u b.die b.lc b.spare 0).fw = s.fw ∧ Journaled (setMap u b.die b.lc b.spare 0) (.coreMap b.die b.lc b.spare 0) := by
    intro u hcores hfw
    unfold setMap
    refine ⟨?_, ?_, ?_, jMust_mem _ _⟩
    · unfold physOf
      rw [jMust_cores]
      exact tget_tset_same _ _ _ _
    · rw [jMust_cores]
      show u.cores.subst = _
      rw [hcores]
    · rw [jMust_fw]
      exact hfw
  have hbefore : ∃ u : State, u.cores = s.cores ∧ u.fw = s.fw ∧ useSpare s b =
      if (kennel u b.die).all fun x => x == b.spare then setSvc (setMap u b.die b.lc b.spare 0) 0 else setMap u b.die b.lc b.spare 0 := by
    unfold useSpare
    dsimp only
    split
    · exact ⟨_, (cores_of_frame fr_poisonEvents rfl).trans (markSubst_cores _ _),
        (fw_of_frame fr_poisonEvents rfl).trans (fw_of_frame fr_markSubst rfl), rfl⟩
    · exact ⟨_, markSubst_cores _ _, fw_of_frame fr_markSubst rfl, rfl⟩
  obtain ⟨u, hcores, hfw, heq⟩ := hbefore
  obtain ⟨hphys, hsub, hf, hj⟩ := hset u hcores hfw
  rw [heq]
  split
  · refine ⟨?_, ?_, ?_, journaled_setSvc hj 0⟩
    · rw [physOf_of_cores (congrArg CoreUnit.map (setSvc_cores _ _))]
      exact hphys
    · rw [setSvc_cores]
      exact hsub
    · rw [setSvc_fw]
      exact hf
  · exact ⟨hphys, hsub, hf, hj⟩

theorem loadMcode_spare (s : State) (b : Subst) (old : Nat) : tget (loadMcode s b old).cores.mcode 0 (136 * b.die + b.spare) = bankMcode s := by
  unfold loadMcode
  dsimp only
  split
  · by_cases h : 136 * b.die + b.spare = 136 * b.die + old
    · rw [h, tget_tset_same]
    · rw [tget_tset_ne _ _ _ _ _ h, tget_tset_same]
  · exact tget_tset_same _ _ _ _

/-- The state in which a finished substitution's microcode is loaded. -/
def substitutedMap (s : State) (b : Subst) : State :=
  if b.spare = physOf s b.die b.lc then withSubst s (s.cores.subst.filter fun x => x != b)
  else useSpare (withSubst s (s.cores.subst.filter fun x => x != b)) b

theorem substitutedMap_kept (s : State) (b : Subst) : physOf (substitutedMap s b) b.die b.lc = b.spare ∧
    (substitutedMap s b).cores.subst = s.cores.subst.filter (fun x => x != b) ∧ (substitutedMap s b).fw = s.fw ∧
    (b.spare ≠ physOf s b.die b.lc → Journaled (substitutedMap s b) (.coreMap b.die b.lc b.spare 0)) := by
  unfold substitutedMap
  split
  · rename_i h
    exact ⟨h.symm, rfl, rfl, fun hne => absurd h hne⟩
  · obtain ⟨hphys, hsub, hfw, hj⟩ := useSpare_kept (withSubst s (s.cores.subst.filter fun x => x != b)) b
    exact ⟨hphys, hsub, hfw, fun _ => hj⟩

/-- What the end of a substitution does after the microcode is loaded changes no map, substitution, microcode or record. -/
theorem finishSubst_kept (s : State) (b : Subst) : ∃ u, u = loadMcode (substitutedMap s b) b (physOf s b.die b.lc) ∧
    KeepKennel u.cores (finishSubst s b).cores ∧ (finishSubst s b).journal = u.journal ∧ (finishSubst s b).fw = u.fw := by
  refine ⟨_, rfl, ?_⟩
  have hfree : ∀ v : State, v.cores = (loadMcode (substitutedMap s b) b (physOf s b.die b.lc)).cores →
      v.journal = (loadMcode (substitutedMap s b) b (physOf s b.die b.lc)).journal →
      v.fw = (loadMcode (substitutedMap s b) b (physOf s b.die b.lc)).fw →
      KeepKennel (loadMcode (substitutedMap s b) b (physOf s b.die b.lc)).cores (freeCore v (128 * b.die + b.lc)).cores ∧
      (freeCore v (128 * b.die + b.lc)).journal = (loadMcode (substitutedMap s b) b (physOf s b.die b.lc)).journal ∧
      (freeCore v (128 * b.die + b.lc)).fw = (loadMcode (substitutedMap s b) b (physOf s b.die b.lc)).fw := fun v hc hj hf =>
    ⟨hc ▸ kennelFields_freeCore v _, (journal_of_frame fr_freeCore rfl).trans hj, (fw_of_frame fr_freeCore rfl).trans hf⟩
  have hfinish : ∃ v : State, finishSubst s b = freeCore v (128 * b.die + b.lc) ∧
      (v = loadMcode (substitutedMap s b) b (physOf s b.die b.lc) ∨ v = raisePf (loadMcode (substitutedMap s b) b (physOf s b.die b.lc)) 0x0C06 [b.die]) := by
    let x := loadMcode (substitutedMap s b) b (physOf s b.die b.lc)
    have heq : finishSubst s b = freeCore (if b.reload && x.cores.reloading && (staleCores x b.die).isEmpty then raisePf x 0x0C06 [b.die] else x)
      (128 * b.die + b.lc) := rfl
    refine ⟨_, heq, ?_⟩
    split
    · exact .inr rfl
    · exact .inl rfl
  obtain ⟨v, heq, rfl | rfl⟩ := hfinish
  · rw [heq]
    exact hfree _ rfl rfl rfl
  · rw [heq]
    exact hfree _ (raisePf_cores _ _ _) (raisePf_journal _ _ _) (raisePf_fw _ _ _)

theorem substitutionDone_ends {s : State} {die lc : Nat} {b : Subst} (hup : isUp s = true)
    (hfind : s.cores.subst.find? (fun b => b.die == die && b.lc == lc && b.started) = some b) :
    ∃ t, exec (.substitutionDone die lc) s = .next t ∧ physOf t die lc = b.spare ∧ b ∉ t.cores.subst ∧
      tget t.cores.mcode 0 (136 * die + b.spare) = bankMcode s ∧
      (b.spare ≠ physOf s die lc → Journaled t (.coreMap die lc b.spare 0)) := by
  have hkey := List.find?_some hfind
  simp only [Bool.and_eq_true, beq_iff_eq] at hkey
  obtain ⟨⟨rfl, rfl⟩, _⟩ := hkey
  obtain ⟨hphys, hsub, hfw, hj⟩ := substitutedMap_kept s b
  obtain ⟨u, hu, hkennel, hjournal, hfw'⟩ := finishSubst_kept s b
  obtain ⟨hmap, _, _, hsubst, _, _, _, _, _, hmcode, _⟩ := hkennel.fields
  refine ⟨finishSubst s b, ?_, ?_, ?_, ?_, fun hne => ?_⟩
  · show execSubstitutionDone b.die b.lc s = _
    unfold execSubstitutionDone
    rw [hfind]
    exact if_pos hup
  · rw [physOf_of_cores hmap, hu]
    exact hphys
  · rw [hsubst, hu]
    show b ∉ (substitutedMap s b).cores.subst
    rw [hsub]
    simp
  · rw [hmcode, hu, loadMcode_spare]
    exact bankMcode_of_fw hfw
  · exact journaled_of_eq (journaled_of_eq (hj hne) (by rw [hu]; rfl) (by rw [hu]; rfl)) hjournal hfw'

/-! ## Hung cores and scratchpad scrubs (R178, R485) -/

/-- Withdrawing an octet leaves the failed cores marked. -/
theorem withdrawOctet_failed (s : State) (lost cause : Nat) : (withdrawOctet s lost cause).cores.failed = s.cores.failed := by
  have hmap : ∀ (l : List Nat) (u : State) (f : State → Nat → State), (∀ v i, (f v i).cores.failed = v.cores.failed) →
      (l.foldl f u).cores.failed = u.cores.failed := by
    intro l u f hf
    induction l generalizing u with
    | nil => rfl
    | cons i l ih => rw [List.foldl_cons, ih, hf]
  have hset : ∀ (v : State) (d c p e : Nat), (setMap v d c p e).cores.failed = v.cores.failed := fun v d c p e => by
    unfold setMap
    rw [jMust_cores]
  have hrehome : ∀ (v : State) (k : Nat), (rehome v k lost).cores.failed = v.cores.failed := fun v k => (fr_rehome.kennel25 rfl).fields.2.1
  unfold withdrawOctet
  dsimp only
  split
  · refine (congrArg CoreUnit.failed (cores_of_frame fr_poolEvents rfl)).trans ?_
    refine (congrArg CoreUnit.failed (cores_of_frame fr_setParamJ rfl)).trans ?_
    refine (hrehome _ _).trans ?_
    exact hmap _ _ _ fun v i => hset _ _ _ _ _
  · refine (hrehome _ _).trans ?_
    exact hmap _ _ _ fun v i => hset _ _ _ _ _

theorem replaceCore_failed (s : State) (die lc cause : Nat) : (replaceCore s die lc cause).cores.failed = s.cores.failed := by
  unfold replaceCore
  split
  · rfl
  · exact withdrawOctet_failed _ _ _

theorem spareLost_failed (s : State) (die pc cause : Nat) : (spareLost s die pc cause).cores.failed = s.cores.failed := by
  unfold spareLost
  split
  · rfl
  · split
    · exact (kennelFields_freeCore _ _).fields.2.1
    · split
      · rfl
      · exact withdrawOctet_failed _ _ _

/-- A core that is declared failed is marked (R485). -/
theorem declareFail_failed (s : State) (die pc cause : Nat) : 136 * die + pc ∈ (declareFail s die pc cause).cores.failed := by
  have hmarked : ∀ u v : State, u.cores.failed = v.cores.failed → v.cores.failed = addNum s.cores.failed (136 * die + pc) →
      136 * die + pc ∈ u.cores.failed := fun u v h g => by
    rw [h, g]
    exact mem_addNum.mpr (.inl rfl)
  unfold declareFail
  split
  · rename_i h
    exact List.mem_of_elem_eq_true h
  · have hbase : ∀ x : State, x.cores = { s.cores with failed := addNum s.cores.failed (136 * die + pc) } →
        x.cores.failed = addNum s.cores.failed (136 * die + pc) := fun x h => by rw [h]
    dsimp only
    split
    · exact hmarked _ _ (spareLost_failed _ _ _ _) (hbase _ (by simp))
    · split
      · exact hmarked _ _ (replaceCore_failed _ _ _ _) (hbase _ (by simp))
      · split
        · refine hmarked _ _ (replaceCore_failed _ _ _ _) ?_
          show CoreUnit.failed (State.cores (raisePf _ _ _)) = _
          simp
        · exact hmarked _ _ rfl (hbase _ (by simp))

/-- Three distinct failing words or 64 corrected ones within a day fail a core; fewer leave the caches' marks alone (R485). -/
theorem sramErrors_few {s : State} {die pc corrected w : Nat} (hc : corrected < 64) (hu : tget s.cores.uncorrected [] (136 * die + pc) = [])
    (hce : tget s.cores.corrected [] (136 * die + pc) = []) : (sramErrors s die pc corrected [w]).mem = s.mem := by
  unfold sramErrors
  dsimp only
  rw [hu, hce]
  have hfew : ∀ f : Nat → Bool, ¬ 64 ≤ ((([] : List Nat) ++ List.replicate corrected (rowTime s)).filter f).length := fun f => by
    have := List.length_filter_le f (([] : List Nat) ++ List.replicate corrected (rowTime s))
    simp only [List.nil_append, List.length_replicate] at this
    simp only [List.nil_append]
    omega
  have hone : ∀ f : Nat × Nat → Bool,
      ¬ 3 ≤ (((([] : List (Nat × Nat)) ++ [w].map fun w => (rowTime s, w)).filter f).foldl (fun l e => addNum l e.2) []).length := fun f => by
    cases h : f (rowTime s, w) <;> simp [h, addNum]
  rw [if_neg (hfew _), if_neg (hone _)]

theorem mem_foldl_addNum {l m : List Nat} {a : Nat} (h : a ∈ l ∨ a ∈ m) : a ∈ m.foldl addNum l := by
  induction m generalizing l with
  | nil => simpa using h
  | cons b m ih =>
    refine ih ?_
    rcases h with h | h
    · exact .inl (mem_addNum.mpr (.inr h))
    · rcases List.mem_cons.mp h with rfl | h
      · exact .inl (mem_addNum.mpr (.inl rfl))
      · exact .inr h

/-- A mapped segment with its failing words marked and told to its moon, before its errors count (R176, R178). -/
def wordsPoisoned (s : State) (core corrected : Nat) (words : List Nat) : State :=
  let s := if corrected = 0 then s else incB s 0x4010 (core / 128) corrected
  let s := if words.isEmpty then s else incB s 0x4011 (core / 128) words.length
  let s := { s with mem := { s.mem with ueSpm := words.foldl addNum s.mem.ueSpm } }
  match coreMoon s core with | some m => poisonEvents s m core words | none => s

theorem scrubMapped_eq (s : State) (core corrected : Nat) (failing : List Nat) : scrubMapped s core corrected failing =
    sramErrors (wordsPoisoned s core corrected ((failing.filter fun w => decide (w < 2 ^ 21)).map fun w => core * 2 ^ 21 + w)) (core / 128)
      (physOf (wordsPoisoned s core corrected ((failing.filter fun w => decide (w < 2 ^ 21)).map fun w => core * 2 ^ 21 + w)) (core / 128) (core % 128))
      corrected ((failing.filter fun w => decide (w < 2 ^ 21)).map fun w => core * 2 ^ 21 + w) := rfl

theorem wordsPoisoned_kept (s : State) (core corrected : Nat) (words : List Nat) :
    (wordsPoisoned s core corrected words).cores = s.cores ∧ ∀ x ∈ words, x ∈ (wordsPoisoned s core corrected words).mem.ueSpm := by
  have hcount : ∀ (u : State) (p : Prop) [Decidable p] (q e n : Nat), (if p then u else incB u q e n).cores = u.cores := fun u p _ q e n => by
    split
    · rfl
    · exact incB_cores _ _ _ _
  unfold wordsPoisoned
  dsimp only
  split
  · rw [cores_of_frame fr_poisonEvents rfl, mem_of_frame fr_poisonEvents rfl]
    exact ⟨(hcount _ _ _ _ _).trans (hcount _ _ _ _ _), fun x hx => mem_foldl_addNum (.inr hx)⟩
  · exact ⟨(hcount _ _ _ _ _).trans (hcount _ _ _ _ _), fun x hx => mem_foldl_addNum (.inr hx)⟩

/-- A scrub poisons a word that it cannot correct (R178). -/
theorem scrubMapped_poisons {s : State} {core corrected w : Nat} (hw : w < 2 ^ 21) (hc : corrected < 64)
    (hu : tget s.cores.uncorrected [] (136 * (core / 128) + physOf s (core / 128) (core % 128)) = [])
    (hce : tget s.cores.corrected [] (136 * (core / 128) + physOf s (core / 128) (core % 128)) = []) :
    core * 2 ^ 21 + w ∈ (scrubMapped s core corrected [w]).mem.ueSpm := by
  have hwords : ([w].filter fun w => decide (w < 2 ^ 21)).map (fun w => core * 2 ^ 21 + w) = [core * 2 ^ 21 + w] := by
    simp [show w < 2097152 from hw]
  rw [scrubMapped_eq, hwords]
  obtain ⟨hcores, hmem⟩ := wordsPoisoned_kept s core corrected [core * 2 ^ 21 + w]
  rw [physOf_of_cores (congrArg CoreUnit.map hcores), sramErrors_few hc (by rw [hcores]; exact hu) (by rw [hcores]; exact hce)]
  exact hmem _ (List.mem_singleton.mpr rfl)

/-- Settles O13. -/
theorem coresSubstituteAndFail : Obligations.CoresSubstituteAndFail := by
  unfold Obligations.CoresSubstituteAndFail
  refine ⟨⟨?_, ?_, ?_, ?_⟩, ?_, ?_⟩
  · intro s die lc b hup hdie hlc hbound hfind hb hstart hreload hspare
    exact ⟨_, substitutionStart_field hup hdie hlc hbound hfind hb hstart hreload hspare, rfl, rfl, fr_markSubst_withSubst _ _ _⟩
  · intro s die lc x hup hdie hlc hbound hfind hload hstale hspare
    have hexec := substitutionStart_reload hup hdie hlc hbound hfind hload hstale
    rw [hspare] at hexec
    exact ⟨_, hexec, rfl, rfl, fr_markSubst_withSubst _ _ _⟩
  · intro s die lc hup hdie hlc hbound hfind hload hstale hspare hdrained
    have hexec := substitutionStart_reload hup hdie hlc hbound hfind hload hstale
    rw [hspare, hdrained] at hexec
    exact ⟨_, hexec, rfl, (fr_withSubst _ _).only rfl⟩
  · intro s die lc b hup hfind
    exact substitutionDone_ends hup hfind
  · intro s die lc hup hdie hlc hholds hphys
    let t := declareFail (killCore s (128 * die + lc)) die (physOf s die lc) 1
    refine ⟨if t.cores.subst.any fun b => b.die == die && b.lc == lc then markSubst t (128 * die + lc) else t, ?_, ?_⟩
    · show execCoreHangTimeout die lc s = _
      unfold execCoreHangTimeout
      simp only [hup, hdie, hlc, hholds, decide_true, Bool.and_self, if_true, if_neg hphys]
      rfl
    · split
      · rw [markSubst_cores]
        exact declareFail_failed _ _ _ _
      · exact declareFail_failed _ _ _ _
  · intro s core corrected w hup hcore hphys hdue hw hc hu hce
    refine ⟨_, ?_, scrubMapped_poisons (s := { s with mem := { s.mem with spmScrubAt := tset s.mem.spmScrubAt core s.orbit.refNs } })
      hw hc hu hce⟩
    show execScrubScratchpad core corrected [w] s = _
    unfold execScrubScratchpad
    rw [hup, hdue]
    exact congrArg Host.Outcome.next ((if_pos hcore).trans (if_neg hphys))

end Sys2Proof.Proofs
end

section
/-! Array tests and soft-fuses (R120 to R123). -/

set_option Elab.async false

namespace Sys2Proof.Proofs

open Sys2Proof.Machine Sys2Proof.Laws

theorem arrayFaults_cores (s : State) (core : Nat) (arrays : List Nat) : (arrayFaults s core arrays).cores = s.cores :=
  cores_of_frame fr_arrayFaults rfl

theorem arrayFaults_orbit (s : State) (core : Nat) (arrays : List Nat) : (arrayFaults s core arrays).orbit = s.orbit :=
  orbit_of_frame fr_arrayFaults rfl

/-- The columns of a test that are new failures (R121). -/
def newColumns (s : State) (die lc : Nat) (fails : List (Nat × Nat)) : List (Nat × Nat) :=
  fails.filter fun f => decide (f.1 < 128) && decide (f.2 < 9) && !knownColumn s (arrayKey die (physOf s die lc) f.1) f.2

/-- The arrays that a test found failing, and its times noted (R123). -/
def testNoted (s : State) (die lc : Nat) (new : List (Nat × Nat)) : State :=
  let core := 128 * die + lc
  let u := { s with cores := { s.cores with testing := delNum (delNum s.cores.testing (2 * core)) (2 * core + 1) } }
  noteTest (arrayFaults u core (new.foldl (fun l f => addNum l f.1) [])) core (new.foldl (fun l f => addNum l f.1) [])

theorem execArrayTestDone_ends {s : State} {die lc : Nat} (fails : List (Nat × Nat)) (hup : isUp s = true)
    (htest : 2 * (128 * die + lc) ∈ s.cores.testing ∨ 2 * (128 * die + lc) + 1 ∈ s.cores.testing) :
    exec (.arrayTestDone die lc fails) s = .next (freeCore ((newColumns s die lc fails).foldl (fun u f => failColumn u die (physOf s die lc) f)
      (testNoted s die lc (newColumns s die lc fails))) (128 * die + lc)) := by
  have hgo : ¬ ((!isUp s || !(s.cores.testing.contains (2 * (128 * die + lc)) || s.cores.testing.contains (2 * (128 * die + lc) + 1))) = true) := by
    simp only [hup, List.contains_eq_mem, Bool.not_true, Bool.false_or, Bool.not_eq_true', Bool.or_eq_false_iff, decide_eq_false_iff_not]
    exact fun ⟨hk, hj⟩ => htest.elim hk hj
  show execArrayTestDone die lc fails s = _
  unfold execArrayTestDone
  exact if_neg hgo

/-- The times of a test, and what its notes leave of the arrays (R123). -/
theorem testNoted_kept (s : State) (die lc : Nat) (new : List (Nat × Nat)) :
    tget (testNoted s die lc new).cores.testedAt 0 (128 * die + lc) = s.orbit.refNs ∧
    tget (testNoted s die lc new).cores.testedOrbit 0 (128 * die + lc) = s.orbit.now ∧
    (testNoted s die lc new).cores.arrays = s.cores.arrays ∧ (testNoted s die lc new).cores.fusePending = s.cores.fusePending := by
  unfold testNoted noteTest
  dsimp only
  rw [arrayFaults_cores, arrayFaults_orbit]
  exact ⟨tget_tset_same _ _ _ _, tget_tset_same _ _ _ _, rfl, rfl⟩

/-- Settles O14. -/
theorem arrayTestsAndFuses : Obligations.ArrayTestsAndFuses := by
  unfold Obligations.ArrayTestsAndFuses
  refine ⟨?_, ?_, ?_, ?_, ?_⟩
  · intro s die lc htest hbound
    refine ⟨{ s with cores := { s.cores with testing := addNum s.cores.testing (2 * (128 * die + lc)) } }, ?_, mem_addNum.mpr (.inl rfl),
      Fr.only (k := 2 ^ 3) (Fr.lit (Fr.refl _ _)) rfl⟩
    show execArrayBackgroundTest die lc s = _
    unfold execArrayBackgroundTest
    exact if_pos (by simp [htest, hbound])
  · intro s die lc htest hbound hdue
    refine ⟨{ s with cores := { s.cores with testing := addNum s.cores.testing (2 * (128 * die + lc) + 1) } }, ?_, mem_addNum.mpr (.inl rfl),
      Fr.only (k := 2 ^ 3) (Fr.lit (Fr.refl _ _)) rfl⟩
    show execForcedArrayTest die lc s = _
    unfold execForcedArrayTest
    exact if_pos (by simp [htest, hbound, testOverdue, hdue])
  · intro s die lc fails hup htest hknown
    have hnone : newColumns s die lc fails = [] := by
      refine List.filter_eq_nil_iff.mpr fun f hf hc => ?_
      simp only [Bool.and_eq_true, decide_eq_true_eq] at hc
      simp [hknown f hf hc.1.1 hc.1.2] at hc
    have hexec := execArrayTestDone_ends fails hup htest
    rw [hnone] at hexec
    obtain ⟨hat, horbit, harrays, hfuse⟩ := testNoted_kept s die lc []
    obtain ⟨_, _, _, _, garrays, gfuse, gat, gorbit, _⟩ := (kennelFields_freeCore (testNoted s die lc []) (128 * die + lc)).fields
    exact ⟨_, hexec, (congrArg (tget · 0 _) gat).trans hat, (congrArg (tget · 0 _) gorbit).trans horbit, garrays.trans harrays, gfuse.trans hfuse⟩
  · intro s die lc array column hup htest harray hcolumn hnone hpending
    have hany : ∀ (p : Nat × Nat → Bool), (∀ x, p x = true → x.1 = arrayKey die (physOf s die lc) array) → s.cores.fusePending.any p = false :=
      fun p hp => List.any_eq_false.mpr fun x hx h => hpending x hx (hp x h)
    have hnew : newColumns s die lc [(array, column)] = [(array, column)] := by
      have hknown : knownColumn s (arrayKey die (physOf s die lc) array) column = false := by
        unfold knownColumn
        rw [hnone]
        exact hany _ fun x hx => by rw [eq_of_beq hx]
      simp [newColumns, hknown, harray, show column < 9 by omega]
    have hexec := execArrayTestDone_ends [(array, column)] hup htest
    rw [hnew] at hexec
    obtain ⟨_, _, harrays, hfuse⟩ := testNoted_kept s die lc [(array, column)]
    have hfail : (failColumn (testNoted s die lc [(array, column)]) die (physOf s die lc) (array, column)).cores.fusePending =
        s.cores.fusePending ++ [(arrayKey die (physOf s die lc) array, column)] := by
      unfold failColumn
      dsimp only
      rw [harrays, hnone, hfuse, hany _ fun x hx => eq_of_beq hx]
      dsimp only
      rw [if_neg Bool.false_ne_true, if_pos hcolumn]
    exact ⟨_, hexec, (kennelFields_freeCore _ _).fields.2.2.2.2.2.1.trans hfail⟩
  · intro s die lc array column hup hdie hlc hpending hbound
    let u := jMust (incA s 0x3020 die 1) (.softFuse die (physOf s die lc) array column (param (incA s 0x3020 die 1) 0x3020 die))
    let v : State := { u with cores := { u.cores with
      arrays := tset u.cores.arrays (arrayKey die (physOf s die lc) array) (.column column)
      fusePending := u.cores.fusePending.filter fun p => p != (arrayKey die (physOf s die lc) array, column) } }
    obtain ⟨_, _, _, _, garrays, gfuse, _⟩ := (kennelFields_freeCore v (128 * die + lc)).fields
    refine ⟨freeCore v (128 * die + lc), ?_, ?_, ?_, param (incA s 0x3020 die 1) 0x3020 die, ?_⟩
    · show execSoftFuse die lc array column s = _
      unfold execSoftFuse
      exact if_pos (by simp [hup, hdie, hlc, hpending, hbound])
    · rw [garrays]
      exact tget_tset_same _ _ _ _
    · rw [gfuse]
      simp [v]
    · exact journaled_of_eq (s := u) (jMust_mem _ _) (journal_of_frame (s := v) fr_freeCore rfl) (fw_of_frame (s := v) fr_freeCore rfl)

end Sys2Proof.Proofs
end

section
/-! Class B groups: read, snapshot and clear; counters that saturate or stick (R218, R219). -/

set_option Elab.async false

namespace Sys2Proof.Proofs

open Sys2Proof.Machine Sys2Proof.Laws

/-! ## Counters (R218, R219) -/

theorem pkey_ne {p q e : Nat} (h : p ≠ q) : pkey p e ≠ pkey q e := by
  unfold pkey
  omega

theorem pkey_inj {p q e f : Nat} (he : e < 65536) (hf : f < 65536) (h : pkey p e = pkey q f) : p = q ∧ e = f := by
  unfold pkey at h
  omega

/-- What counting leaves of the statistics: snapshots, starts, and the counters (R219). -/
theorem incB_stat (s : State) (p e n : Nat) : (incB s p e n).stat.snap = s.stat.snap ∧ (incB s p e n).stat.start = s.stat.start ∧
    (incB s p e n).stat.cnt = tset s.stat.cnt (pkey p e) (Nat.min (cntB s p e + n) 0xFFFFFFFF) := by
  unfold incB
  dsimp only
  split
  · exact ⟨rfl, rfl, rfl⟩
  · split
    · exact ⟨rfl, rfl, rfl⟩
    · split
      · exact ⟨rfl, rfl, rfl⟩
      · rw [raiseSat_stat]
        exact ⟨rfl, rfl, rfl⟩

theorem cntB_incB (s : State) (p e n : Nat) : cntB (incB s p e n) p e = Nat.min (cntB s p e + n) 0xFFFFFFFF := by
  rw [cntB, (incB_stat s p e n).2.2, tget_tset_same]

theorem cntB_incB_ne {s : State} {p e n q f : Nat} (h : pkey q f ≠ pkey p e) : cntB (incB s p e n) q f = cntB s q f := by
  rw [cntB, (incB_stat s p e n).2.2, tget_tset_ne _ _ _ _ _ h]
  rfl

theorem cntB_of_stat {s t : State} (h : t.stat = s.stat) (q e : Nat) : cntB t q e = cntB s q e := by
  unfold cntB; rw [h]

theorem incA_counts {s : State} {p e n : Nat} (h : pkey p e ∉ s.dict.stuckList) (hv : param s p e + n < 2 ^ 64) :
    param (incA s p e n) p e = param s p e + n := by
  unfold incA
  rw [if_neg h]
  exact (congrArg (param · p e) (if_pos hv)).trans (param_setParam _ _ _ _)

/-- A class A counter at its end is stuck there (R218). -/
theorem incA_sticks {s : State} {p e n : Nat} (h : pkey p e ∉ s.dict.stuckList) (hv : 2 ^ 64 ≤ param s p e + n) :
    param (incA s p e n) p e = 2 ^ 64 - 1 ∧ pkey p e ∈ (incA s p e n).dict.stuckList := by
  have hdict : (incA s p e n).dict = { (setParam s p e (2 ^ 64 - 1)).dict with stuckList := addNum s.dict.stuckList (pkey p e) } := by
    unfold incA
    rw [if_neg h]
    refine (congrArg State.dict (if_neg (Nat.not_lt.mpr hv))).trans ?_
    split
    · exact raiseMoon_dict _ _ _ _
    · exact raisePf_dict _ _ _
  constructor
  · rw [param, hdict]
    exact tget_tset_same _ _ _ _
  · rw [hdict]
    exact mem_addNum.mpr (.inl rfl)

/-! ## Groups (R219) -/

theorem of_ite_some {α : Type} {P : α → Prop} {c : Prop} [Decidable c] {a g : α} {x : Option α} (h : (if c then some a else x) = some g)
    (ha : P a) (hx : x = some g → P g) : P g := by
  split at h
  · exact Option.some.inj h ▸ ha
  · exact hx h

/-- Every group of the table counts above P0030 or at it, and its interval is no counter of its own. -/
theorem groupOf_shape {p : Nat} {g : GroupB} (h : groupOf p = some g) : (∀ q ∈ g.counters, 0x0030 ≤ q) ∧ g.interval ∉ g.counters := by
  unfold groupOf at h
  iterate 14 refine of_ite_some (P := fun g => (∀ q ∈ g.counters, 0x0030 ≤ q) ∧ g.interval ∉ g.counters) h (by decide) fun h => ?_
  contradiction

theorem tget_foldl_tset {l : List Nat} {f : Nat → Nat} {e q : Nat} (t : Tab Nat) (hq : q ∈ l ∨ tget t 0 (pkey q e) = f q) :
    tget (l.foldl (fun t c => tset t (pkey c e) (f c)) t) 0 (pkey q e) = f q := by
  induction l generalizing t with
  | nil => simpa using hq
  | cons c l ih =>
    refine ih _ ?_
    by_cases hc : q = c
    · exact .inr (by rw [hc, tget_tset_same])
    · refine hq.imp (fun h => (List.mem_cons.mp h).resolve_left hc) fun h => ?_
      rw [tget_tset_ne _ _ _ _ _ (pkey_ne hc)]
      exact h

theorem tget_filter_none {l : Tab Nat} {p : Nat × Nat → Bool} {k : Nat} (h : ∀ v, p (k, v) = false) : tget (l.filter p) 0 k = 0 := by
  induction l with
  | nil => rfl
  | cons a l ih =>
    obtain ⟨j, v⟩ := a
    rw [List.filter_cons]
    split
    · rename_i hp
      have hj : j ≠ k := fun hj => by rw [hj, h v] at hp; contradiction
      show (if j = k then v else tget (l.filter p) 0 k) = 0
      rw [if_neg hj]
      exact ih
    · exact ih

/-- A read that clears its group: the snapshot, the counters at 0, the new interval (R219). -/
theorem readB_clears {s : State} {p e : Nat} {g : GroupB} (hg : groupOf p = some g) :
    (∀ q ∈ g.counters, tget (readB s p e true).stat.snap 0 (pkey q e) = cntB s q e) ∧
    tget (readB s p e true).stat.snap 0 (pkey g.interval e) = intervalB s g.first e ∧
    (∀ q ∈ g.counters, cntB (readB s p e true) q e = 0) ∧
    tget (readB s p e true).stat.start (0, false) (pkey g.first e) = (s.orbit.now, s.orbit.state != .unlocked) := by
  have heq : readB s p e true = clearB (snapB s p e) p e := rfl
  rw [heq]
  unfold clearB snapB
  rw [hg]
  refine ⟨fun q hq => ?_, tget_tset_same _ _ _ _, fun q hq => ?_, tget_tset_same _ _ _ _⟩
  · have hne : q ≠ g.interval := fun h => (groupOf_shape hg).2 (h ▸ hq)
    exact (tget_tset_ne _ _ _ _ _ (pkey_ne hne)).trans (tget_foldl_tset (f := fun c => cntB s c e) _ (.inl hq))
  · refine tget_filter_none fun v => ?_
    simp only [Bool.not_eq_false', List.any_eq_true, beq_iff_eq]
    exact ⟨q, hq, rfl⟩

theorem readB_keeps (s : State) (p e : Nat) : readB s p e false = s := rfl

/-! ## The answer of a read (R436, R452) -/

/-- An answer counts the request, and changes nothing else of the statistics. -/
theorem answerWith_stat (s : State) (v : Bytes) (l : Bool) : (answerWith s 0 v l).stat = (incB s 0x0030 0 1).stat := rfl

theorem answerWith_cnt {s : State} {v : Bytes} {l : Bool} {q e : Nat} (h : pkey q e ≠ pkey 0x0030 0) :
    cntB (answerWith s 0 v l) q e = cntB s q e :=
  (cntB_of_stat (answerWith_stat s v l) q e).trans (cntB_incB_ne h)

/-- What a row of a class B group reads: the state with a wait counted up to now for P9020 (R336). -/
def statBase (s : State) (x : StatRow) : State := if x.first = 0x9020 then flushWait s x.element else s

/-- Every row of the eleven groups is one query of its group. -/
theorem exec_statRow {s : State} {c : Instr} {x : StatRow} (h : statRow s c = some x) : exec c s =
    query s x.who x.first x.element fun s => readStat (statBase s x) x.first x.element x.clears := by
  unfold statRow at h
  split at h
  case h_5 w p e =>
    split at h
    · rename_i hp
      obtain rfl := Option.some.inj h
      have hp' : p ≠ 0x9020 := by omega
      show execMemStatRead w p e s = _
      unfold execMemStatRead
      rw [if_pos hp]
      simp only [statBase, if_neg hp']
    · contradiction
  case h_12 => contradiction
  all_goals
    obtain rfl := Option.some.inj h
    rfl

theorem statRow_reads {s : State} {c : Instr} {x : StatRow} (h : statRow s c = some x) (hr : readStatus s x.who x.first x.element = 0) :
    exec c s = .next (answerWith (readB (statBase s x) x.first x.element x.clears) 0 (leBytes 4 (cntB (statBase s x) x.first x.element))
      (inPieces x.first)) := by
  rw [exec_statRow h]
  exact query_ok hr rfl

theorem flushWait_stat (s : State) (m : Nat) : (flushWait s m).stat.snap = s.stat.snap ∧ (flushWait s m).stat.start = s.stat.start := by
  unfold flushWait
  dsimp only
  split
  · exact ⟨rfl, rfl⟩
  · exact ⟨(incB_stat _ _ _ _).1, (incB_stat _ _ _ _).2.1⟩

/-- A wait that is counted changes counters alone of the statistics, and not orbit. -/
theorem statBase_kept (s : State) (x : StatRow) : (statBase s x).stat.snap = s.stat.snap ∧ (statBase s x).stat.start = s.stat.start ∧
    (statBase s x).orbit = s.orbit := by
  unfold statBase
  split
  · obtain ⟨hsnap, hstart⟩ := flushWait_stat s x.element
    exact ⟨hsnap, hstart, orbit_of_frame fr_flushWait rfl⟩
  · exact ⟨rfl, rfl, rfl⟩

theorem statRow_read {s : State} {c : Instr} {x : StatRow} (h : statRow s c = some x) (hr : readStatus s x.who x.first x.element = 0) :
    ∃ t, exec c s = .next t ∧ t.dict.answer.status = 0 ∧ t.dict.answer.value = leBytes 4 (cntB (statBase s x) x.first x.element) :=
  ⟨_, statRow_reads h hr, rfl, rfl⟩

/-- Settles O15. -/
theorem statisticsReadClearAndSaturate : Obligations.StatisticsReadClearAndSaturate := by
  unfold Obligations.StatisticsReadClearAndSaturate
  refine ⟨?_, ?_, ?_, cntB_incB, fun s p e n => incA_counts, fun s p e n => incA_sticks, fun s p e n h => if_pos h⟩
  · intro s c x g hrow hg hr u
    obtain ⟨hsnap, hstart, horbit⟩ := statBase_kept s x
    refine ⟨_, statRow_reads hrow hr, rfl, rfl, fun hclears => ?_, fun hclears => ?_⟩
    · rw [hclears]
      obtain ⟨gsnap, ginterval, gcnt, gstart⟩ := readB_clears (s := statBase s x) (e := x.element) hg
      have hst := incB_stat (readB (statBase s x) x.first x.element true) 0x0030 0 1
      refine ⟨fun q hq => ?_, ?_, fun q hq hne => ?_, ?_⟩
      · rw [answerWith_stat, hst.1]
        exact gsnap q hq
      · rw [answerWith_stat, hst.1, ginterval, intervalB, hstart, horbit]
        rfl
      · refine (answerWith_cnt ?_).trans (gcnt q hq)
        have := (groupOf_shape hg).1 q hq
        unfold pkey
        omega
      · rw [answerWith_stat, hst.2.1, gstart, horbit]
    · rw [hclears, readB_keeps]
      have hst := incB_stat (statBase s x) 0x0030 0 1
      refine ⟨?_, ?_, fun q e hne hq he => answerWith_cnt fun hk => hne ?_⟩
      · rw [answerWith_stat, hst.1, hsnap]
      · rw [answerWith_stat, hst.2.1, hstart]
      · obtain ⟨rfl, rfl⟩ := pkey_inj he (by omega) hk
        rfl
  · intro s w p e reads
    refine ⟨fun hr => ?_, fun hr => ?_, fun hr => ?_, fun hr => ?_, fun hp hr => ?_, fun hr => ?_, fun hr => ?_, fun hr => ?_, fun hr => ?_,
      fun hr => ?_, fun hr => ?_⟩
    · exact statRow_read (c := .dictStatRead w) rfl hr
    · exact statRow_read (c := .powerStatRead w) rfl hr
    · exact statRow_read (c := .orbitStatRead w) rfl hr
    · exact statRow_read (c := .arrayStatRead w e) rfl hr
    · have hbase : statBase s ⟨w, p, e, true⟩ = s := if_neg (show p ≠ 0x9020 by omega)
      obtain ⟨t, hexec, hstatus, hvalue⟩ := statRow_read (c := .memStatRead w p e) (x := ⟨w, p, e, true⟩) (if_pos hp) hr
      rw [hbase] at hvalue
      exact ⟨t, hexec, hstatus, hvalue⟩
    · exact statRow_read (c := .linkStatRead w e) rfl hr
    · exact statRow_read (c := .moonStatRead w e) rfl hr
    · exact statRow_read (c := .taskStatRead w e) rfl hr
    · exact statRow_read (c := .serveStatRead w e) rfl hr
    · exact statRow_read (c := .trainStatRead w e) rfl hr
    · exact statRow_read (c := .packStatRead w) rfl hr
  · intro s w tag hr hsel
    have hread : fmtRead w tag s = .ok (readFmt s w (selMoon s w 0x9000) tag, leBytes 4 (cntB s 0x9100 (256 * selMoon s w 0x9000 + tag))) :=
      if_neg (by omega)
    have hhigh : ∀ q ∈ [0x9100, 0x9101, 0x9102, 0x9103, 0x9104], ∀ e, pkey q e ≠ pkey 0x0030 0 := by
      intro q hq e
      simp only [List.mem_cons, List.not_mem_nil, or_false] at hq
      unfold pkey
      omega
    refine ⟨_, query_ok hr hread, rfl, rfl, fun hown q hq => ?_, fun hown q hq => ?_⟩
    · have hfmt : (readFmt s w (selMoon s w 0x9000) tag).stat.snap = (readB s 0x9100 (256 * selMoon s w 0x9000 + tag) true).stat.snap ∧
          (readFmt s w (selMoon s w 0x9000) tag).stat.cnt = (readB s 0x9100 (256 * selMoon s w 0x9000 + tag) true).stat.cnt := by
        unfold readFmt
        rw [hown, decide_eq_true hsel]
        exact ⟨rfl, rfl⟩
      obtain ⟨gsnap, _, gcnt, _⟩ := readB_clears (s := s) (p := 0x9100) (e := 256 * selMoon s w 0x9000 + tag) rfl
      constructor
      · rw [answerWith_stat, (incB_stat _ _ _ _).1, hfmt.1]
        exact gsnap q hq
      · refine (answerWith_cnt (hhigh q hq _)).trans ?_
        rw [cntB, hfmt.2]
        exact gcnt q hq
    · have hfmt : readFmt s w (selMoon s w 0x9000) tag = s := by
        unfold readFmt
        rw [hown]
        rfl
      rw [hfmt]
      exact answerWith_cnt (hhigh q hq _)

end Sys2Proof.Proofs
end

section
/-! Ledger records: read, acknowledged, closed by the minute, snapshotted (R250, R251, R254, R477). -/

set_option Elab.async false

namespace Sys2Proof.Proofs

open Sys2Proof.Machine Sys2Proof.Laws

theorem getMoon_of_moons {s t : State} (h : t.moons = s.moons) (m : Nat) : getMoon t m = getMoon s m := by
  unfold getMoon; rw [h]

/-! ## LEDGER_ACK (R254) -/

theorem dropWhile_append_of_all {α : Type} {p : α → Bool} {a : List α} (h : ∀ x ∈ a, p x = true) (b : List α) :
    (a ++ b).dropWhile p = b.dropWhile p := by
  induction a with
  | nil => rfl
  | cons x a ih =>
    rw [List.cons_append, List.dropWhile_cons_of_pos (h x List.mem_cons_self)]
    exact ih fun y hy => h y (List.mem_cons_of_mem _ hy)

theorem ackLedger_held {s : State} {m q : Nat} {a b : List LedgerRec} {r : LedgerRec} (hrec : (getMoon s m).ledger.records = a ++ r :: b)
    (hr : r.recSeq.toNat = q) (ha : ∀ x ∈ a, x.recSeq.toNat ≠ q) :
    ackLedger m q s = .ok (jAppend (modLedger s m fun l => { l with records := b, gap := false }) (.ledgerAck m (BitVec.ofNat 32 q))) := by
  have hany : (getLedger s m).records.any (fun r => r.recSeq.toNat == q) = true :=
    List.any_eq_true.mpr ⟨r, by rw [getLedger, hrec]; simp, by simp [hr]⟩
  have hrest : ((getLedger s m).records.dropWhile fun r => r.recSeq.toNat != q).drop 1 = b := by
    rw [getLedger, hrec, dropWhile_append_of_all fun x hx => by simpa using ha x hx, List.dropWhile_cons_of_neg (by simp [hr])]
    rfl
  unfold ackLedger
  refine (if_pos hany).trans ?_
  rw [hrest]

theorem ackLedger_unknown {s : State} {m q : Nat} (h : ∀ x ∈ (getMoon s m).ledger.records, x.recSeq.toNat ≠ q) :
    ackLedger m q s = .error 7 := by
  have hany : (getLedger s m).records.any (fun r => r.recSeq.toNat == q) = false :=
    List.any_eq_false.mpr fun x hx => by simpa using h x hx
  unfold ackLedger
  exact if_neg (by rw [hany]; exact Bool.false_ne_true)

/-! ## The minute (R251, R253) -/

theorem getMoon_modLedger (s : State) (m : Nat) (f : Ledger → Ledger) :
    getMoon (modLedger s m f) m = { getMoon s m with ledger := f (getMoon s m).ledger } := getMoon_modMoon _ _ _

/-- The record that the close of an open span adds (R252). -/
def closingRecord (s : State) (m flags endOrbit : Nat) : LedgerRec :=
  let l := (getMoon s m).ledger
  { recSeq := l.recSeq, moon := m, octets := recordOctets (getMoon s m), flags := l.flags ||| flags, startOrbit := l.startOrbit,
    endOrbit := endOrbit, engineUs := l.engineNs / 1000, moveUs := l.moveNs / 1000, heldUs := l.heldNs / 1000,
    pageSec := l.pageNs / 1000000000, txBytes := l.txBytes }

theorem closeSpan_open {s : State} {m : Nat} (flags endOrbit : Nat) (h : (getMoon s m).ledger.spanOpen = true) :
    (getMoon (closeSpan s m flags endOrbit) m).ledger.records = (getMoon s m).ledger.records ++ [closingRecord s m flags endOrbit] := by
  unfold closeSpan
  dsimp only
  rw [h, if_neg (by simp), getMoon_of_moons (jAppend_moons _ _)]
  simp only [getMoon_of_moons (incA_moons _ _ _ _), getMoon_setMoon]
  rfl

/-- Settles O30. -/
theorem ledgerRecordsAreKept : Obligations.LedgerRecordsAreKept := by
  unfold Obligations.LedgerRecordsAreKept
  refine ⟨?_, ?_, ?_, ?_, ?_⟩
  · intro s w m0 m hm hr
    subst hm
    have hexec : exec (.ledgerRead w m0) s = _ := query_ok (f := fun s => .ok (s, ledgerValue s (effMoon w m0))) hr rfl
    refine ⟨_, hexec, rfl, answerWith_moons _ _ _ _, fun hnone => ?_, fun r l hrec => ?_⟩
    · show ledgerValue s (effMoon w m0) = _
      rw [ledgerValue, getLedger, hnone]
    · show ledgerValue s (effMoon w m0) = _
      rw [ledgerValue, getLedger, hrec]
  · intro s w m0 m q a b r hm hw hrec hr ha
    subst hm
    have hexec : exec (.ledgerAck w m0 q) s = _ := command_ok hw (ackLedger_held hrec hr ha)
    refine ⟨_, hexec, rfl, ?_⟩
    rw [getMoon_of_moons (answer_moons _ _), getMoon_of_moons (jAppend_moons _ _), getMoon_modLedger]
  · intro s w m0 m q hm hw hnone
    subst hm
    have hexec : exec (.ledgerAck w m0 q) s = _ := command_error hw (ackLedger_unknown hnone)
    exact ⟨_, hexec, rfl, answer_moons _ _, answer_journal _ _⟩
  · intro s m x hup hmoons hopen hdue hearlier
    have hx : getMoon s m = x := by
      unfold getMoon
      rw [hmoons]
      exact if_pos rfl
    have hexec : exec .billingMinuteClose s = .next (closeMinute s m) := by
      show execBillingMinuteClose s = _
      unfold execBillingMinuteClose whenUp
      rw [hup, hearlier, hmoons]
      rfl
    have hclose : closeMinute s m = openSpanAt (closeSpan s m 0 (s.orbit.now / minuteNs * minuteNs)) m 0 (s.orbit.now / minuteNs * minuteNs) :=
      if_pos (by rw [hx]; exact hdue)
    refine ⟨closeMinute s m, closingRecord s m 0 (s.orbit.now / minuteNs * minuteNs), hexec, ?_, ?_, ?_, rfl, ?_, ?_, ?_⟩
    · rw [hclose, openSpanAt, getMoon_modLedger]
      show (getMoon (closeSpan s m 0 _) m).ledger.records = _
      rw [closeSpan_open _ _ (by rw [hx]; exact hopen), hx]
    · rw [closingRecord, hx]
    · rw [closingRecord, hx]
    · rw [closingRecord, hx]
    · rw [hclose, openSpanAt, getMoon_modLedger]
      rfl
    · rw [hclose, openSpanAt, getMoon_modLedger]
  · intro s hup hchanged hdue
    have hsnap : snapLedger { s with journal := { s.journal with snapAt := s.orbit.refNs } } =
        jAppend { s with journal := { s.journal with snapAt := s.orbit.refNs } } (.ledgerSnap (changedTotals s)) :=
      if_neg fun h => hchanged (List.isEmpty_iff.mp h)
    refine ⟨_, ?_, ?_, hsnap⟩
    · show execLedgerSnap s = _
      unfold execLedgerSnap
      exact if_pos (by simp [hup, hdue])
    · rw [hsnap, jAppend_moons]

end Sys2Proof.Proofs
end

section
/-! Page requests: MAP, UNMAP, PROTECT and REPLACE_POISONED (R243, R244). -/

set_option Elab.async false

namespace Sys2Proof.Proofs

open Sys2Proof.Machine Sys2Proof.Laws

/-! ## Listed keys -/

theorem tfind_tset_same {α : Type} (t : Tab α) (k : Nat) (x : α) : tfind (tset t k x) k = some x := by
  induction t with
  | nil => exact if_pos rfl
  | cons e r ih =>
    unfold tset
    split
    · exact if_pos rfl
    · rename_i h
      split
      · exact if_pos rfl
      · exact (if_neg h).trans ih

theorem tfind_tset_ne {α : Type} {k j : Nat} (t : Tab α) (x : α) (h : j ≠ k) : tfind (tset t k x) j = tfind t j := by
  induction t with
  | nil => exact if_neg (Ne.symm h)
  | cons e r ih =>
    unfold tset
    split
    · rename_i he
      simp [tfind, he, Ne.symm h]
    · split
      · simp [tfind, Ne.symm h]
      · simp [tfind, ih]

theorem tfind_tdel_same {α : Type} (t : Tab α) (k : Nat) : tfind (tdel t k) k = none := by
  induction t with
  | nil => rfl
  | cons e r ih =>
    unfold tdel at ih ⊢
    rw [List.filter_cons]
    split
    · rename_i h
      have hne : e.1 ≠ k := by simpa using h
      simpa [tfind, hne] using ih
    · exact ih

theorem tfind_tdel_ne {α : Type} {k j : Nat} (t : Tab α) (h : j ≠ k) : tfind (tdel t k) j = tfind t j := by
  induction t with
  | nil => rfl
  | cons e r ih =>
    unfold tdel at ih ⊢
    rw [List.filter_cons]
    split
    · simp [tfind, ih]
    · rename_i he
      have hek : e.1 = k := by simpa using he
      have hne : e.1 ≠ j := by rw [hek]; exact Ne.symm h
      simpa [tfind, hne] using ih

theorem tfind_map {α : Type} (t : Tab α) (f : Nat × α → Nat × α) (hf : ∀ e, (f e).1 = e.1) (k : Nat) :
    tfind (t.map f) k = (tfind t k).map fun v => (f (k, v)).2 := by
  induction t with
  | nil => rfl
  | cons e r ih =>
    obtain ⟨j, v⟩ := e
    have hj := hf (j, v)
    rw [List.map_cons]
    unfold tfind
    dsimp only at hj ⊢
    rw [hj]
    split
    · rename_i h
      subst h
      rfl
    · exact ih

/-! ## One entry of a table (R168) -/

theorem entryOf_of_moons {s t : State} (h : t.moons = s.moons) (m i : Nat) : entryOf t m i = entryOf s m i := by
  unfold entryOf getMoon; rw [h]

theorem entryOf_setEntry_same (s : State) (m i : Nat) (e : PageEntry) : entryOf (setEntry s m i e) m i = some e := by
  unfold setEntry
  rw [entryOf_of_moons (moons_of_frame fr_tlbDrop rfl), entryOf, getMoon_modMoon]
  exact tfind_tset_same _ _ _

theorem entryOf_setEntry_ne {s : State} {m i j : Nat} (e : PageEntry) (h : j ≠ i) : entryOf (setEntry s m i e) m j = entryOf s m j := by
  unfold setEntry
  rw [entryOf_of_moons (moons_of_frame fr_tlbDrop rfl), entryOf, getMoon_modMoon]
  exact tfind_tset_ne _ _ h

/-- A request that its role may write, answered (R243). -/
theorem execPage_done {s t : State} {op m : Nat} {w : Who} {q : PageReq} (hw : writeStatus s w 0x6020 m = 0) (hact : pageAct op m q s = (0, t)) :
    command s w 0x6020 m (pageReq w op m q) = .next (answer (raiseWriter (modMoon t m fun x =>
      { x with pageReq := BitVec.ofNat 32 (3 + 256 * op) }) w m 0x0604 [3 + 256 * op]) 0) := by
  refine command_ok hw ?_
  unfold pageReq
  rw [hact]
  rfl

/-- PAGE_REQ_STATUS and the table that an answered request leaves. -/
theorem pageDone_kept (t : State) (op m : Nat) (w : Who) :
    let u := answer (raiseWriter (modMoon t m fun x => { x with pageReq := BitVec.ofNat 32 (3 + 256 * op) }) w m 0x0604 [3 + 256 * op]) 0
    (getMoon u m).pageReq = BitVec.ofNat 32 (3 + 256 * op) ∧ ∀ i, entryOf u m i = entryOf t m i := by
  have hmoon : ∀ u : State, u.moons = (modMoon t m fun x => { x with pageReq := BitVec.ofNat 32 (3 + 256 * op) }).moons →
      getMoon u m = { getMoon t m with pageReq := BitVec.ofNat 32 (3 + 256 * op) } := fun u h =>
    (getMoon_of_moons h m).trans (getMoon_modMoon _ _ _)
  have hu := hmoon (answer (raiseWriter (modMoon t m fun x => { x with pageReq := BitVec.ofNat 32 (3 + 256 * op) }) w m 0x0604 [3 + 256 * op]) 0)
    ((answer_moons _ _).trans (raiseWriter_moons _ _ _ _ _))
  refine ⟨?_, fun i => ?_⟩
  · rw [hu]
  · unfold entryOf
    rw [hu]

theorem length_reqRange (q : PageReq) : (reqRange q).length = q.count := by
  unfold reqRange upTo
  simp

/-- A request that may act: its fields legal, its moon not FREE (R227, R243). -/
theorem pageAct_cases {s : State} {op m : Nat} {q : PageReq} (hbad : reqBad q = false) (hop : op ≠ 0 ∧ op ≤ 4)
    (hfree : (getMoon s m).state ≠ .free) :
    ¬ ((reqBad q || op == 0 || decide (4 < op)) = true) ∧ ¬ (getMoon s m).state = .free := by
  refine ⟨?_, hfree⟩
  simp [hbad, hop.1, hop.2]

/-! ## MAP -/

theorem enterPages_entry {s : State} {m : Nat} {r w : Bool} (l : List (Nat × Nat)) (i : Nat)
    (h : i ∈ l.map Prod.fst ∨ ∃ e, entryOf s m i = some e ∧ e.r = r ∧ e.w = w ∧ e.poison = false ∧ e.owner = m) :
    ∃ e, entryOf (enterPages s m r w l) m i = some e ∧ e.r = r ∧ e.w = w ∧ e.poison = false ∧ e.owner = m := by
  induction l generalizing s with
  | nil => exact h.resolve_left (by simp)
  | cons a l ih =>
    unfold enterPages
    rw [List.foldl_cons]
    refine ih ?_
    by_cases hi : i = a.1
    · subst hi
      exact .inr ⟨_, entryOf_setEntry_same _ _ _ _, rfl, rfl, rfl, rfl⟩
    · refine h.imp (fun h => ?_) fun h => ?_
      · rw [List.map_cons, List.mem_cons] at h
        exact h.resolve_left hi
      · rw [entryOf_setEntry_ne _ hi]
        exact h

theorem pageAct_map {s : State} {m : Nat} {q : PageReq} (hbad : reqBad q = false) (hfree : (getMoon s m).state ≠ .free)
    (hnone : ∀ i ∈ reqRange q, entryOf s m i = none) (hroom : mappedCount s m + q.count ≤ (getMoon s m).hbmPages)
    (hgrant : (grantPages s m .granted (mapStacks s m q.stackPref) q.count).2.length = q.count) :
    pageAct 1 m q s = (0, enterPages (grantPages s m .granted (mapStacks s m q.stackPref) q.count).1 m q.permR q.permW
      ((reqRange q).zip (grantPages s m .granted (mapStacks s m q.stackPref) q.count).2)) := by
  obtain ⟨h1, h2⟩ := pageAct_cases hbad (op := 1) (by decide) hfree
  have hany : (reqRange q).any (fun i => (entryOf s m i).isSome) = false := List.any_eq_false.mpr fun i hi => by simp [hnone i hi]
  unfold pageAct
  rw [if_neg h1, if_neg h2]
  dsimp only
  rw [hany, if_neg Bool.false_ne_true, if_neg (Nat.not_lt.mpr hroom), if_neg (by rw [hgrant]; exact Nat.lt_irrefl _)]
  rfl

/-! ## UNMAP -/

/-- One page that UNMAP takes out of a table (R244). -/
theorem unmapPages_cons (s : State) (m i : Nat) (l : List Nat) : ∃ u, unmapPages s m (i :: l) = unmapPages u m l ∧
    entryOf u m i = none ∧ ∀ j, j ≠ i → entryOf u m j = entryOf s m j := by
  unfold unmapPages
  rw [List.foldl_cons]
  refine ⟨_, rfl, ?_⟩
  dsimp only
  split
  · rename_i h
    exact ⟨h, fun j hj => rfl⟩
  · rename_i e he
    let v := dropLines (tlbDrop (modMoon s m fun x => { x with table := tdel x.table i }) m i) m (pageKey e.stack e.page)
    have hv : ∀ j, entryOf v m j = tfind (tdel (getMoon s m).table i) j := fun j => by
      rw [entryOf_of_moons (moons_of_frame fr_dropLines rfl), entryOf_of_moons (moons_of_frame fr_tlbDrop rfl), entryOf, getMoon_modMoon]
    have hfree : ∀ (c : Prop) [Decidable c] (k j : Nat), entryOf (if c then freePage v k else v) m j = entryOf v m j := fun c _ k j => by
      split
      · exact entryOf_of_moons (moons_of_frame fr_freePage rfl) m j
      · rfl
    refine ⟨?_, fun j hj => ?_⟩
    · rw [hfree, hv, tfind_tdel_same]
    · rw [hfree, hv, tfind_tdel_ne _ hj]
      rfl

theorem unmapPages_none {s : State} {m i : Nat} (l : List Nat) (h : i ∈ l ∨ entryOf s m i = none) : entryOf (unmapPages s m l) m i = none := by
  induction l generalizing s with
  | nil => exact h.resolve_left (by simp)
  | cons a l ih =>
    obtain ⟨u, heq, hnone, hother⟩ := unmapPages_cons s m a l
    rw [heq]
    refine ih ?_
    by_cases hi : i = a
    · exact .inr (hi ▸ hnone)
    · refine h.imp (fun h => (List.mem_cons.mp h).resolve_left hi) fun h => ?_
      rw [hother i hi]
      exact h

theorem length_filterMap_of_some {α β : Type} {f : α → Option β} {l : List α} (h : ∀ a ∈ l, (f a).isSome = true) :
    (l.filterMap f).length = l.length := by
  induction l with
  | nil => rfl
  | cons a l ih =>
    obtain ⟨b, hb⟩ := Option.isSome_iff_exists.mp (h a List.mem_cons_self)
    rw [List.filterMap_cons_some hb, List.length_cons, List.length_cons, ih fun x hx => h x (List.mem_cons_of_mem _ hx)]

theorem pageAct_unmap {s : State} {m : Nat} {q : PageReq} (hbad : reqBad q = false) (hfree : (getMoon s m).state ≠ .free)
    (hall : ∀ i ∈ reqRange q, ∃ e, entryOf s m i = some e ∧
      (e.owner = m → mappedElsewhere s m (pageKey e.stack e.page) = false ∧ baseHeld s m (pageKey e.stack e.page) = false)) :
    pageAct 2 m q s = (0, unmapPages s m (reqRange q)) := by
  obtain ⟨h1, h2⟩ := pageAct_cases hbad (op := 2) (by decide) hfree
  have hlen : ((reqRange q).filterMap (entryOf s m)).length = q.count := by
    rw [length_filterMap_of_some fun i hi => ?_, length_reqRange]
    obtain ⟨e, he, _⟩ := hall i hi
    rw [he]
    rfl
  have hany : ((reqRange q).filterMap (entryOf s m)).any (fun e => e.owner == m &&
      (mappedElsewhere s m (pageKey e.stack e.page) || baseHeld s m (pageKey e.stack e.page))) = false := by
    refine List.any_eq_false.mpr fun e he hc => ?_
    obtain ⟨i, hi, hei⟩ := List.mem_filterMap.mp he
    obtain ⟨e', he', hshared⟩ := hall i hi
    rw [hei] at he'
    obtain rfl := Option.some.inj he'
    simp only [Bool.and_eq_true, beq_iff_eq] at hc
    obtain ⟨ha, hb⟩ := hshared hc.1
    simp [ha, hb] at hc
  unfold pageAct
  rw [if_neg h1, if_neg h2]
  dsimp only
  rw [hany, if_neg (not_not_intro hlen), if_neg Bool.false_ne_true]
  rfl

/-! ## PROTECT -/

/-- The entry that PROTECT leaves at an index (R244). -/
def protectEntry (s : State) (m : Nat) (q : PageReq) (e : Nat × PageEntry) : Nat × PageEntry :=
  if (reqRange q).contains e.1 then (e.1, { e.2 with r := q.permR, w := q.permW && e.2.owner == m && !(attachedIdx s m).contains e.1 }) else e

theorem pageAct_protect {s : State} {m : Nat} {q : PageReq} (hbad : reqBad q = false) (hfree : (getMoon s m).state ≠ .free)
    (hall : ∀ i ∈ reqRange q, (entryOf s m i).isSome = true) :
    pageAct 3 m q s = (0, (reqRange q).foldl (fun s i => tlbDrop s m i) (modMoon s m fun x => { x with table := x.table.map (protectEntry s m q) })) := by
  obtain ⟨h1, h2⟩ := pageAct_cases hbad (op := 3) (by decide) hfree
  have hcheck : (reqRange q).all (fun i => (entryOf s m i).isSome) = true := List.all_eq_true.mpr hall
  unfold pageAct
  rw [if_neg h1, if_neg h2]
  dsimp only
  rw [hcheck]
  rfl

theorem entryOf_foldl_tlbDrop (s : State) (m i : Nat) (l : List Nat) : entryOf (l.foldl (fun s i => tlbDrop s m i) s) m i = entryOf s m i := by
  induction l generalizing s with
  | nil => rfl
  | cons a l ih => exact (ih (tlbDrop s m a)).trans (entryOf_of_moons (moons_of_frame fr_tlbDrop rfl) m i)

theorem entryOf_protected (s : State) (m : Nat) (q : PageReq) (i : Nat) :
    entryOf ((reqRange q).foldl (fun s i => tlbDrop s m i) (modMoon s m fun x => { x with table := x.table.map (protectEntry s m q) })) m i =
      (entryOf s m i).map fun e => (protectEntry s m q (i, e)).2 := by
  rw [entryOf_foldl_tlbDrop, entryOf, getMoon_modMoon]
  refine tfind_map _ _ (fun e => ?_) i
  unfold protectEntry
  split <;> rfl

/-! ## REPLACE_POISONED -/

/-- The poisoned page of its own that a moon maps at an index. -/
def poisonedAt (s : State) (m i : Nat) : Option (Nat × PageEntry) :=
  match entryOf s m i with
  | some e => if e.poison && e.owner == m then some (i, e) else none
  | none => none

/-- One poisoned page replaced by a granted one (R244). -/
def replacePage (m : Nat) (s : State) (x : (Nat × PageEntry) × Nat) : State :=
  freePage (dropLines (setEntry s m x.1.1 { x.1.2 with poison := false, stack := x.2 / 32768, page := x.2 % 32768 }) m
    (pageKey x.1.2.stack x.1.2.page)) (pageKey x.1.2.stack x.1.2.page)

theorem entryOf_replacePage (m : Nat) (s : State) (x : (Nat × PageEntry) × Nat) (i : Nat) : entryOf (replacePage m s x) m i =
    entryOf (setEntry s m x.1.1 { x.1.2 with poison := false, stack := x.2 / 32768, page := x.2 % 32768 }) m i := by
  unfold replacePage
  rw [entryOf_of_moons (moons_of_frame fr_freePage rfl), entryOf_of_moons (moons_of_frame fr_dropLines rfl)]

/-- No page of its own at an index is poisoned. -/
def CleanAt (s : State) (m i : Nat) : Prop := ∀ e, entryOf s m i = some e → e.owner = m → e.poison = false

theorem cleanAt_foldl_replacePage {m : Nat} (l : List ((Nat × PageEntry) × Nat)) (s : State) (i : Nat)
    (h : i ∈ l.map (fun x => x.1.1) ∨ CleanAt s m i) : CleanAt (l.foldl (replacePage m) s) m i := by
  induction l generalizing s with
  | nil => exact h.resolve_left (by simp)
  | cons a l ih =>
    rw [List.foldl_cons]
    refine ih _ ?_
    by_cases hi : i = a.1.1
    · refine .inr fun e he _ => ?_
      rw [entryOf_replacePage, hi, entryOf_setEntry_same] at he
      exact (Option.some.inj he) ▸ rfl
    · refine h.imp (fun h => ?_) fun h e he => h e ?_
      · rw [List.map_cons, List.mem_cons] at h
        exact h.resolve_left hi
      · rw [← he, entryOf_replacePage, entryOf_setEntry_ne _ hi]

theorem pageAct_replace {s : State} {m : Nat} {q : PageReq} (hbad : reqBad q = false) (hfree : (getMoon s m).state ≠ .free)
    (hshared : ∀ i e, entryOf s m i = some e → mappedElsewhere s m (pageKey e.stack e.page) = false ∧ baseHeld s m (pageKey e.stack e.page) = false)
    (hgrant : ∀ n, n ≤ q.count → (grantPages s m .granted (mapStacks s m 0xFF) n).2.length = n) :
    let es := (reqRange q).filterMap (poisonedAt s m)
    pageAct 4 m q s = (0, (es.zip (grantPages s m .granted (mapStacks s m 0xFF) es.length).2).foldl (replacePage m)
      (grantPages s m .granted (mapStacks s m 0xFF) es.length).1) := by
  intro es
  obtain ⟨h1, h2⟩ := pageAct_cases hbad (op := 4) (by decide) hfree
  have hany : es.any (fun e => mappedElsewhere s m (pageKey e.2.stack e.2.page) || baseHeld s m (pageKey e.2.stack e.2.page)) = false := by
    refine List.any_eq_false.mpr fun e he hc => ?_
    obtain ⟨i, _, hei⟩ := List.mem_filterMap.mp he
    unfold poisonedAt at hei
    split at hei
    · rename_i e' he'
      split at hei
      · obtain rfl := Option.some.inj hei
        obtain ⟨ha, hb⟩ := hshared i e' he'
        simp [ha, hb] at hc
      · contradiction
    · contradiction
  have hlen : (grantPages s m .granted (mapStacks s m 0xFF) es.length).2.length = es.length :=
    hgrant _ (by rw [← length_reqRange q]; exact List.length_filterMap_le _ _)
  unfold pageAct
  rw [if_neg h1, if_neg h2]
  refine (if_neg (by rw [← Bool.not_eq_true] at hany; exact hany)).trans ?_
  have hroom : ¬ (grantPages s m .granted (mapStacks s m 0xFF) es.length).2.length < es.length := by
    rw [hlen]
    exact Nat.lt_irrefl _
  exact if_neg hroom

theorem mem_map_zip_fst {α β γ : Type} {l : List α} {k : List β} (h : k.length = l.length) (f : α → γ) {a : α} (ha : a ∈ l) :
    f a ∈ (l.zip k).map fun x => f x.1 := by
  have hmap : (l.zip k).map (fun x => f x.1) = l.map f := by
    rw [show (fun x : α × β => f x.1) = f ∘ Prod.fst from rfl, ← List.map_map, List.map_fst_zip (by omega)]
  rw [hmap]
  exact List.mem_map_of_mem ha

/-- Settles O28. -/
theorem pageRequestsAct : Obligations.PageRequestsAct := by
  unfold Obligations.PageRequestsAct
  refine ⟨?_, ?_, ?_, ?_⟩
  · intro s w m0 m q hm hw hbad hfree hnone hroom hgrant
    subst hm
    obtain ⟨hreq, hentry⟩ := pageDone_kept (enterPages (grantPages s (effMoon w m0) .granted (mapStacks s (effMoon w m0) q.stackPref) q.count).1
      (effMoon w m0) q.permR q.permW ((reqRange q).zip (grantPages s (effMoon w m0) .granted (mapStacks s (effMoon w m0) q.stackPref) q.count).2))
      1 (effMoon w m0) w
    refine ⟨_, execPage_done hw (pageAct_map hbad hfree hnone hroom hgrant), rfl, hreq, fun i hi => ?_⟩
    rw [hentry]
    refine enterPages_entry _ i (.inl ?_)
    rw [List.map_fst_zip (Nat.le_of_eq (by rw [hgrant, length_reqRange]))]
    exact hi
  · intro s w m0 m q hm hw hbad hfree hall
    subst hm
    obtain ⟨hreq, hentry⟩ := pageDone_kept (unmapPages s (effMoon w m0) (reqRange q)) 2 (effMoon w m0) w
    refine ⟨_, execPage_done hw (pageAct_unmap hbad hfree hall), rfl, hreq, fun i hi => ?_⟩
    rw [hentry]
    exact unmapPages_none _ (.inl hi)
  · intro s w m0 m q hm hw hbad hfree hall
    subst hm
    obtain ⟨hreq, hentry⟩ := pageDone_kept ((reqRange q).foldl (fun s i => tlbDrop s (effMoon w m0) i)
      (modMoon s (effMoon w m0) fun x => { x with table := x.table.map (protectEntry s (effMoon w m0) q) })) 3 (effMoon w m0) w
    refine ⟨_, execPage_done hw (pageAct_protect hbad hfree hall), rfl, hreq, fun i hi => ?_⟩
    obtain ⟨e, he⟩ := Option.isSome_iff_exists.mp (hall i hi)
    have hin : (reqRange q).contains i = true := List.elem_eq_true_of_mem hi
    refine ⟨(protectEntry s (effMoon w m0) q (i, e)).2, ?_, ?_⟩
    · rw [hentry, entryOf_protected, he]
      rfl
    · unfold protectEntry
      rw [if_pos hin]
      exact ⟨rfl, rfl⟩
  · intro s w m0 m q hm hw hbad hfree hshared hgrant
    subst hm
    let es := (reqRange q).filterMap (poisonedAt s (effMoon w m0))
    let g := grantPages s (effMoon w m0) .granted (mapStacks s (effMoon w m0) 0xFF) es.length
    have hlen : g.2.length = es.length := hgrant _ (by rw [← length_reqRange q]; exact List.length_filterMap_le _ _)
    obtain ⟨hreq, hentry⟩ := pageDone_kept ((es.zip g.2).foldl (replacePage (effMoon w m0)) g.1) 4 (effMoon w m0) w
    refine ⟨_, execPage_done hw (pageAct_replace hbad hfree hshared hgrant), rfl, hreq, fun i hi e he => ?_⟩
    rw [hentry] at he
    refine cleanAt_foldl_replacePage _ _ i ?_ e he
    cases hp : poisonedAt s (effMoon w m0) i with
    | some p =>
      have hpi : p.1 = i := by
        unfold poisonedAt at hp
        split at hp
        · split at hp
          · exact (Option.some.inj hp) ▸ rfl
          · contradiction
        · contradiction
      refine .inl ?_
      rw [← hpi]
      exact mem_map_zip_fst hlen Prod.fst (List.mem_filterMap.mpr ⟨i, hi, hp⟩)
    | none =>
      refine .inr fun e he hown => ?_
      rw [entryOf_of_moons (moons_of_frame fr_grantPages rfl)] at he
      unfold poisonedAt at hp
      rw [he] at hp
      simpa [hown] using hp

end Sys2Proof.Proofs
end

section
/-! Moon commands: admission, resizing, release, suspension, migration; WHEN and CANCEL (R226 to R230, R235, R240, R245 to R248). -/

set_option Elab.async false

namespace Sys2Proof.Proofs

open Sys2Proof.Machine Sys2Proof.Laws

/-! ## The moon's record across the operations on it -/

@[simp] theorem getMoon_setStatus (s : State) (m st : Nat) (op : MoonOp) (code : Nat) : getMoon (setStatus s m st op code) m =
    { getMoon s m with status := BitVec.ofNat 32 (st + 256 * opCode op + 65536 * code) } := getMoon_modMoon _ _ _

@[simp] theorem getMoon_endCmd (s : State) (m : Nat) (op : MoonOp) (who : Who) (code : Nat) : getMoon (endCmd s m op who code) m =
    { getMoon s m with status := BitVec.ofNat 32 ((if code = 0 then 3 else 4) + 256 * opCode op + 65536 * code) } :=
  (getMoon_of_moons (raiseWriter_moons _ _ _ _ _) m).trans (getMoon_setStatus _ _ _ _ _)

theorem getMoon_modMoon_of {s t : State} (m : Nat) (f : Moon → Moon) (h : t.moons = s.moons) : getMoon (modMoon t m f) m = f (getMoon s m) := by
  rw [getMoon_modMoon, getMoon_of_moons h]

/-- A command that ends leaves the rest of its moon (R227). -/
theorem getMoon_endJob (s : State) (m code : Nat) : ∃ v, getMoon (endJob s m code) m = { getMoon s m with job := none, status := v } := by
  unfold endJob
  split
  · rename_i h
    exact ⟨(getMoon s m).status, by rw [← h]⟩
  · exact ⟨_, by rw [getMoon_endCmd, getMoon_modMoon]⟩

theorem getMoon_answer (s : State) (c m : Nat) : getMoon (answer s c) m = getMoon s m := getMoon_of_moons (answer_moons _ _) m

theorem getMoon_resave (s : State) (m n : Nat) : ∃ l, getMoon (resave s m n) m = { getMoon s m with save := l } := by
  have hfree : ∀ (l : List Nat) (u : State), (l.foldl freePage u).moons = u.moons := fun l => by
    induction l with
    | nil => exact fun u => rfl
    | cons a l ih => exact fun u => (ih _).trans (moons_of_frame fr_freePage rfl)
  unfold resave
  dsimp only
  split
  · exact ⟨_, getMoon_modMoon_of m _ (moons_of_frame fr_grantPages rfl)⟩
  · exact ⟨_, getMoon_modMoon_of m _ (hfree _ _)⟩

theorem getMoon_grantBlock (s : State) (m : Nat) : ∃ l, getMoon (grantBlock s m) m = { getMoon s m with blocks := l } := by
  have hdraw : (drawFrom (freeBlocks s) s).2.moons = s.moons := by
    unfold drawFrom
    split <;> rfl
  unfold grantBlock
  split
  · rename_i u hu
    rw [hu] at hdraw
    exact ⟨(getMoon s m).blocks, by rw [getMoon_of_moons hdraw]⟩
  · rename_i b u hu
    rw [hu] at hdraw
    exact ⟨_, getMoon_modMoon_of m _ hdraw⟩

theorem getMoon_grantBlocks (s : State) (m n : Nat) : ∃ l, getMoon (grantBlocks s m n) m = { getMoon s m with blocks := l } := by
  have hfold : ∀ (k : List Nat) (u : State), ∃ l, getMoon (k.foldl (fun s _ => grantBlock s m) u) m = { getMoon u m with blocks := l } := by
    intro k
    induction k with
    | nil => exact fun u => ⟨(getMoon u m).blocks, rfl⟩
    | cons a k ih =>
      intro u
      obtain ⟨l, hl⟩ := ih (grantBlock u m)
      obtain ⟨l', hl'⟩ := getMoon_grantBlock u m
      exact ⟨l, hl.trans (by rw [hl'])⟩
  exact hfold _ _

theorem getMoon_openSpan (s : State) (m flags : Nat) : ∃ f, getMoon (openSpan s m flags) m =
    { getMoon s m with ledger := { (getMoon s m).ledger with spanOpen := true, startOrbit := s.orbit.now, flags := f } } :=
  ⟨_, getMoon_modLedger _ _ _⟩

theorem getMoon_endRestore (s : State) (m : Nat) : ∃ o, getMoon (endRestore s m) m =
    { getMoon s m with octets := o, nextOctets := [], swap := .none } := by
  unfold endRestore
  split
  · exact ⟨_, getMoon_modMoon_of m _ (moons_of_frame fr_countSwap rfl)⟩
  · exact ⟨_, getMoon_modMoon s m _⟩

theorem getMoon_beginSpill (s : State) (m : Nat) : getMoon (beginSpill s m) m = { getMoon s m with swap := .spilling, swapAt := s.orbit.refNs } :=
  (getMoon_of_moons (incB_moons _ _ _ _) m).trans ((getMoon_of_moons (moons_of_frame fr_cometStop rfl) m).trans (getMoon_modMoon _ _ _))

theorem getMoon_offerCores (s : State) (m k n : Nat) : getMoon (offerCores s m k) n = getMoon s n :=
  getMoon_of_moons (moons_of_frame fr_offerCores rfl) n

theorem getMoon_offerBoth (s : State) (m n : Nat) : getMoon (offerCores (offerCores s m 1) m 2) n = getMoon s n :=
  (getMoon_offerCores _ _ _ _).trans (getMoon_offerCores _ _ _ _)

/-! ## A command that is taken (R226 to R228) -/

/-- MOON_CMD_STATUS shows PENDING and the command is kept (R227). -/
def cmdKept (s : State) (w : Who) (m : Nat) (op : MoonOp) (c : MoonCmd) : State :=
  modMoon (setStatus s m 1 op 0) m fun x => { x with job := some ⟨op, c, w, false⟩ }

theorem getMoon_cmdKept (s : State) (w : Who) (m : Nat) (op : MoonOp) (c : MoonCmd) : getMoon (cmdKept s w m op c) m =
    { getMoon s m with status := BitVec.ofNat 32 (1 + 256 * opCode op + 65536 * 0), job := some ⟨op, c, w, false⟩ } := by
  unfold cmdKept
  rw [getMoon_modMoon, getMoon_setStatus]

theorem getMoon_cmdRunning (s : State) (w : Who) (m : Nat) (op : MoonOp) (c : MoonCmd) : getMoon (cmdRunning s w m op c) m =
    { getMoon s m with status := BitVec.ofNat 32 (2 + 256 * opCode op + 65536 * 0), job := some ⟨op, c, w, true⟩ } := by
  unfold cmdRunning
  rw [getMoon_modMoon, getMoon_setStatus, getMoon_modMoon, getMoon_setStatus]

/-- The state in which a command that runs acts: its number and the moon as it was are at hand. -/
def runOp (s : State) (m : Nat) (j : MoonJob) (x : Moon) : State :=
  if !opAllowed x.state j.op || ((j.op == .create || j.op == .migrateIn) && s.power.draining) then endJob s m 2
  else match j.op with
  | .create => if admitCheck s m j.cmd ≠ 0 then endJob s m (admitCheck s m j.cmd) else takeIn s m j.cmd true
  | .migrateIn => if admitCheck s m j.cmd ≠ 0 then endJob s m (admitCheck s m j.cmd) else takeIn s m j.cmd false
  | .resize =>
    if resizeCheck s m (resizePlan x j.cmd) ≠ 0 then endJob s m (resizeCheck s m (resizePlan x j.cmd))
    else
      let s := modMoon s m fun x => { x with prev := x.state, state := .resizing }
      if x.state = .waiting then finishResize (endRestore s m) m j.cmd else s
  | .release => if pagesShared s m then endJob s m 0xB else endJob (releaseMoon s m) m 0
  | .suspend =>
    if x.state = .waiting then endJob (endRestore (modMoon s m fun x => { x with state := .suspended }) m) m 0
    else beginSpill (modMoon s m fun x => { x with state := .suspended }) m
  | .resume =>
    if x.state = .arriving then
      if x.mig = .installed ∨ x.mig = .uncertain then endJob (completeM8 s m) m 0 else endJob s m 2
    else if x.displaced then endJob s m 2
    else if x.pool then
      let s := if x.spilled then modMoon s m fun x => { x with state := .waiting, swap := .none } else endSpill s m
      offerCores (offerCores (endJob s m 0) m 1) m 2
    else modMoon s m fun x => { x with swap := .restoring, swapAt := s.orbit.refNs }
  | .migrateOut =>
    if pagesShared s m then endJob s m 0xB
    else
      let s := if x.state = .waiting then endRestore s m else s
      queryPeer (modMoon s m fun x => { x with prev := x.state, state := .migrating, mig := .none, migCmd := some j.cmd }) m
  | .reclaim => endJob (openSpan (modMoon s m fun x => { x with state := .suspended, mig := .none, migCmd := none }) m 0) m 0
  | .cancel => endJob s m 2

theorem runJob_eq {s : State} {m : Nat} {j : MoonJob} (h : (getMoon s m).job = some j) : runJob s m =
    runOp (modMoon (setStatus s m 2 j.op 0) m fun x => { x with job := some { j with running := true } }) m j (getMoon s m) := by
  unfold runJob
  rw [h]
  rfl

/-- A command taken at once runs (R227, R228). -/
theorem moonWrite_taken {s : State} {w : Who} {m : Nat} {op : MoonOp} {c : MoonCmd} (h : TakenAtOnce s w m op c) :
    moonWrite w op m c s = .ok (runOp (cmdRunning s w m op c) m ⟨op, c, w, false⟩
      { getMoon s m with status := BitVec.ofNat 32 (1 + 256 * opCode op + 65536 * 0), job := some ⟨op, c, w, false⟩ }) := by
  have hgive : giveWay s m = s := by
    unfold giveWay
    rw [h.none]
  have hnow : (c.whenEn && op != .migrateOut) = false := by
    rcases h.now with hw | rfl
    · rw [hw, Bool.false_and]
    · simp
  have hjob : (getMoon (cmdKept s w m op c) m).job = some ⟨op, c, w, false⟩ := by rw [getMoon_cmdKept]
  unfold moonWrite
  simp only [h.none, h.legal, hgive, hnow, Bool.false_eq_true, if_false]
  refine congrArg Except.ok ((runJob_eq hjob).trans ?_)
  rw [getMoon_cmdKept]
  rfl

theorem exec_taken {s : State} {w : Who} {m : Nat} {op : MoonOp} {c : MoonCmd} (h : TakenAtOnce s w m op c) :
    command s w 0x6000 m (moonWrite w op m c) = .next (answer (runOp (cmdRunning s w m op c) m ⟨op, c, w, false⟩
      { getMoon s m with status := BitVec.ofNat 32 (1 + 256 * opCode op + 65536 * 0), job := some ⟨op, c, w, false⟩ }) 0) :=
  command_ok h.written (moonWrite_taken h)

/-! ## Admission (R230, R245) -/

/-- The moon as an admission enters it: fresh but for its command, its status and its ledger's records (R230, R254). -/
def admitted (s : State) (m : Nat) (c : MoonCmd) (create : Bool) : Moon :=
  { Moon.reset with
    state := .admitting, pool := c.pool, privileged := c.privileged, octets := if c.pool then [] else bitsOf c.octets 64
    poolCount := if c.pool then c.poolCount else 0, linkShare := c.linkShare, hbmPages := c.hbmPages, job := (getMoon s m).job
    status := (getMoon s m).status, migCmd := if create then none else some c
    ledger := { Ledger.reset with recSeq := (getMoon s m).ledger.recSeq, records := (getMoon s m).ledger.records, gap := (getMoon s m).ledger.gap } }

/-- The state with the admitted moon and its share entered, before its grants. -/
def entered (s : State) (m : Nat) (c : MoonCmd) (y : Moon) : State :=
  let s := setMoon s m y
  let s := { s with dict := { s.dict with params := tdel s.dict.params (pkey 0x6004 m) } }
  let s := if c.share = 0 then s else setParam s 0x6004 m c.share
  { s with tasks := { s.tasks with shares := tset s.tasks.shares m (param s 0x6004 m) } }

/-- The grants of an admission: save pages, synchronisation blocks, counters at 0. -/
def granted (s : State) (m n : Nat) (c : MoonCmd) : State := clearCounters (grantBlocks (resave s m n) m c.syncBlocks) m false

theorem takeIn_eq (s : State) (m : Nat) (c : MoonCmd) (create : Bool) : ∃ n, takeIn s m c create =
    if create then openSpan (granted (entered s m c (admitted s m c create)) m n c) m 1
    else granted (entered s m c (admitted s m c create)) m n c := ⟨_, rfl⟩

theorem entered_moons (s : State) (m : Nat) (c : MoonCmd) (y : Moon) : (entered s m c y).moons = (setMoon s m y).moons := by
  unfold entered
  dsimp only
  split <;> rfl

theorem entered_orbit (s : State) (m : Nat) (c : MoonCmd) (y : Moon) : (entered s m c y).orbit = s.orbit := by
  unfold entered
  dsimp only
  split <;> rfl

theorem getMoon_granted (s : State) (m n : Nat) (c : MoonCmd) : ∃ save blocks, getMoon (granted s m n c) m =
    { getMoon s m with save := save, blocks := blocks } := by
  obtain ⟨save, hsave⟩ := getMoon_resave s m n
  obtain ⟨blocks, hblocks⟩ := getMoon_grantBlocks (resave s m n) m c.syncBlocks
  exact ⟨save, blocks, (getMoon_of_moons (moons_of_frame fr_clearCounters rfl) m).trans (by rw [hblocks, hsave])⟩

theorem granted_orbit (s : State) (m n : Nat) (c : MoonCmd) : (granted s m n c).orbit = s.orbit :=
  (orbit_of_frame fr_clearCounters rfl).trans ((orbit_of_frame fr_grantBlocks rfl).trans (orbit_of_frame fr_resave rfl))

/-- The moon that an admission leaves: as entered, with its grants; a CREATE has opened its span (R245). -/
theorem getMoon_takeIn (s : State) (m : Nat) (c : MoonCmd) (create : Bool) : ∃ save blocks l,
    getMoon (takeIn s m c create) m = { admitted s m c create with ledger := l, save := save, blocks := blocks } ∧
    l.spanOpen = create ∧ (create = true → l.startOrbit = s.orbit.now) := by
  obtain ⟨n, hn⟩ := takeIn_eq s m c create
  obtain ⟨save, blocks, hgranted⟩ := getMoon_granted (entered s m c (admitted s m c create)) m n c
  rw [getMoon_of_moons (entered_moons _ _ _ _), getMoon_setMoon] at hgranted
  rw [hn]
  cases create with
  | false => exact ⟨save, blocks, _, hgranted, rfl, fun h => by contradiction⟩
  | true =>
    obtain ⟨f, hopen⟩ := getMoon_openSpan (granted (entered s m c (admitted s m c true)) m n c) m 1
    rw [hgranted] at hopen
    exact ⟨save, blocks, _, hopen, rfl, fun _ => congrArg OrbitUnit.now ((granted_orbit _ _ _ _).trans (entered_orbit _ _ _ _))⟩

theorem runOp_admits {s : State} {w : Who} {m : Nat} {op : MoonOp} {c : MoonCmd} {x : Moon} (create : Bool)
    (hop : op = if create then .create else .migrateIn) (hallowed : opAllowed x.state op = true) (hdrain : s.power.draining = false)
    (hcheck : admitCheck s m c = 0) : runOp s m ⟨op, c, w, false⟩ x = takeIn s m c create := by
  unfold runOp
  cases create with
  | true =>
    obtain rfl : op = .create := hop
    simp [hallowed, hdrain, hcheck]
  | false =>
    obtain rfl : op = .migrateIn := hop
    simp [hallowed, hdrain, hcheck]

/-- The moon that has all grants of its admission (R230, R245). -/
def readied (op : MoonOp) (x : Moon) : Moon :=
  if op == .create then { x with state := readyState x, spilled := x.pool } else { x with state := .arriving, mig := .arriving }

theorem execAdmissionDone_ready {s : State} {m : Nat} {j : MoonJob} (hup : isUp s = true) (hjob : (getMoon s m).job = some j)
    (hrun : j.running = true) (hstate : (getMoon s m).state = .admitting) :
    execAdmissionDone m s = .next (endJob (openCredit (modMoon s m (readied j.op)) m) m 0) := by
  unfold execAdmissionDone
  dsimp only
  rw [hjob]
  exact if_pos (by simp [hup, hstate, hrun])

/-- Settles O25. -/
theorem admissionGrantsAndCompletes : Obligations.AdmissionGrantsAndCompletes := by
  unfold Obligations.AdmissionGrantsAndCompletes
  refine ⟨?_, ?_, ?_⟩
  · intro s w m c htaken hdrain hcheck
    obtain ⟨save, blocks, l, hmoon, hspan, hstart⟩ := getMoon_takeIn (cmdRunning s w m .create c) m c true
    refine ⟨answer (takeIn (cmdRunning s w m .create c) m c true) 0, ?_, rfl, ?_⟩
    · rw [← runOp_admits (s := cmdRunning s w m .create c) (w := w) (x := { getMoon s m with
        status := BitVec.ofNat 32 (1 + 256 * opCode .create + 65536 * 0), job := some ⟨.create, c, w, false⟩ }) true rfl htaken.allowed hdrain hcheck]
      exact exec_taken htaken
    · rw [getMoon_answer, hmoon]
      exact ⟨rfl, rfl, rfl, rfl, rfl, hspan, hstart rfl⟩
  · intro s w m c htaken hdrain hcheck
    obtain ⟨save, blocks, l, hmoon, hspan, _⟩ := getMoon_takeIn (cmdRunning s w m .migrateIn c) m c false
    refine ⟨answer (takeIn (cmdRunning s w m .migrateIn c) m c false) 0, ?_, rfl, ?_⟩
    · rw [← runOp_admits (s := cmdRunning s w m .migrateIn c) (w := w) (x := { getMoon s m with
        status := BitVec.ofNat 32 (1 + 256 * opCode .migrateIn + 65536 * 0), job := some ⟨.migrateIn, c, w, false⟩ }) false rfl htaken.allowed hdrain hcheck]
      exact exec_taken htaken
    · rw [getMoon_answer, hmoon]
      exact ⟨rfl, rfl, rfl, rfl, hspan⟩
  · intro s m j hup hjob hrun hstate
    obtain ⟨v, hv⟩ := getMoon_endJob (openCredit (modMoon s m (readied j.op)) m) m 0
    rw [getMoon_of_moons (moons_of_frame fr_openCredit rfl), getMoon_modMoon] at hv
    refine ⟨_, execAdmissionDone_ready hup hjob hrun hstate, ?_, fun hop => ?_, fun hop => ?_⟩
    · rw [hv]
    · rw [hv]
      simp [readied, hop]
    · rw [hv]
      simp [readied, hop]

end Sys2Proof.Proofs
end

section
/-! Commands of an admitted moon, WHEN and CANCEL (R227 to R229, R235, R240, R247, R248). -/

set_option Elab.async false

namespace Sys2Proof.Proofs

open Sys2Proof.Machine Sys2Proof.Laws

theorem getMoon_freeMoon (s : State) (m : Nat) : ∃ j v l, getMoon (freeMoon s m) m = { Moon.reset with job := j, status := v, ledger := l } := by
  unfold freeMoon
  refine ⟨_, _, _, (getMoon_of_moons (moons_of_frame fr_clearCounters rfl) m).trans
    ((getMoon_of_moons (moons_of_frame fr_closeCredit rfl) m).trans (getMoon_setMoon _ _ _))⟩

/-- The state in which a kept command begins to run. -/
def jobStarted (s : State) (m : Nat) (j : MoonJob) : State :=
  modMoon (setStatus s m 2 j.op 0) m fun x => { x with job := some { j with running := true } }

/-- A command other than an admission that its moon's state allows is not refused. -/
theorem allowed_runs {s : State} {x : Moon} {op : MoonOp} (hallowed : opAllowed x.state op = true) (hop : op ≠ .create ∧ op ≠ .migrateIn) :
    ¬ ((!opAllowed x.state op || ((op == .create || op == .migrateIn) && s.power.draining)) = true) := by
  obtain ⟨hcreate, hin⟩ := hop
  simp [hallowed, beq_eq_false_iff_ne.mpr hcreate, beq_eq_false_iff_ne.mpr hin]

/-! ## What each command does -/

theorem runOp_suspend {s : State} {w : Who} {m : Nat} {c : MoonCmd} {x : Moon} (hallowed : opAllowed x.state .suspend = true)
    (r : Bool) : (getMoon (runOp s m ⟨.suspend, c, w, r⟩ x) m).state = .suspended ∧
      (x.state = .active → (getMoon (runOp s m ⟨.suspend, c, w, r⟩ x) m).swap = .spilling) := by
  unfold runOp
  rw [if_neg (allowed_runs hallowed (by decide))]
  dsimp only
  split
  · rename_i hwaiting
    obtain ⟨v, hend⟩ := getMoon_endJob (endRestore (modMoon s m fun x => { x with state := .suspended }) m) m 0
    obtain ⟨o, hrestore⟩ := getMoon_endRestore (modMoon s m fun x => { x with state := .suspended }) m
    rw [hend, hrestore, getMoon_modMoon, hwaiting]
    exact ⟨rfl, fun h => by contradiction⟩
  · rw [getMoon_beginSpill, getMoon_modMoon]
    exact ⟨rfl, fun _ => rfl⟩

theorem runOp_resize {s : State} {w : Who} {m : Nat} {c : MoonCmd} {x : Moon} (hactive : x.state = .active)
    (hcheck : resizeCheck s m (resizePlan x c) = 0) :
    runOp s m ⟨.resize, c, w, false⟩ x = modMoon s m fun x => { x with prev := x.state, state := .resizing } := by
  unfold runOp
  rw [if_neg (allowed_runs (op := .resize) (by rw [hactive]; rfl) (by decide))]
  dsimp only
  rw [if_neg (not_not_intro hcheck), if_neg (by rw [hactive]; decide)]

theorem runOp_release {s : State} {w : Who} {m : Nat} {c : MoonCmd} {x : Moon} (hallowed : opAllowed x.state .release = true)
    (hshared : pagesShared s m = false) : ∃ v l, getMoon (runOp s m ⟨.release, c, w, false⟩ x) m =
      { Moon.reset with status := v, ledger := l } := by
  unfold runOp
  rw [if_neg (allowed_runs hallowed (by decide))]
  dsimp only
  rw [if_neg (by rw [hshared]; exact Bool.false_ne_true)]
  obtain ⟨v, hend⟩ := getMoon_endJob (releaseMoon s m) m 0
  have hfree : ∃ j v l, getMoon (releaseMoon s m) m = { Moon.reset with job := j, status := v, ledger := l } := getMoon_freeMoon _ m
  obtain ⟨j, v', l, hfree⟩ := hfree
  exact ⟨v, l, by rw [hend, hfree]; rfl⟩

/-- RESUME of a suspended moon: a dedicated one is restored, a spilled pool moon waits (R237, R247). -/
theorem runOp_resume {s : State} {w : Who} {m : Nat} {c : MoonCmd} {x : Moon} (hsuspended : x.state = .suspended) (hdisplaced : x.displaced = false) :
    (x.pool = false → (getMoon (runOp s m ⟨.resume, c, w, false⟩ x) m).swap = .restoring) ∧
    (x.pool = true → x.spilled = true → (getMoon (runOp s m ⟨.resume, c, w, false⟩ x) m).state = .waiting) := by
  unfold runOp
  rw [if_neg (allowed_runs (op := .resume) (by rw [hsuspended]; rfl) (by decide))]
  dsimp only
  rw [if_neg (by rw [hsuspended]; decide), if_neg (by rw [hdisplaced]; exact Bool.false_ne_true)]
  refine ⟨fun hpool => ?_, fun hpool hspilled => ?_⟩
  · rw [if_neg (by rw [hpool]; exact Bool.false_ne_true), getMoon_modMoon]
  · rw [if_pos hpool, if_pos hspilled, getMoon_offerBoth]
    obtain ⟨v, hend⟩ := getMoon_endJob (modMoon s m fun x => { x with state := .waiting, swap := .none }) m 0
    rw [hend, getMoon_modMoon]

theorem runOp_migrateOut {s : State} {w : Who} {m : Nat} {c : MoonCmd} {x : Moon} (hallowed : opAllowed x.state .migrateOut = true)
    (hshared : pagesShared s m = false) (hstate : (getMoon s m).state = x.state) :
    (getMoon (runOp s m ⟨.migrateOut, c, w, false⟩ x) m).state = .migrating ∧
    (getMoon (runOp s m ⟨.migrateOut, c, w, false⟩ x) m).prev = x.state ∧
    (getMoon (runOp s m ⟨.migrateOut, c, w, false⟩ x) m).migCmd = some c := by
  unfold runOp
  rw [if_neg (allowed_runs hallowed (by decide))]
  dsimp only
  rw [if_neg (by rw [hshared]; exact Bool.false_ne_true), getMoon_of_moons (moons_of_frame fr_queryPeer rfl), getMoon_modMoon]
  refine ⟨rfl, ?_, rfl⟩
  split
  · obtain ⟨o, hrestore⟩ := getMoon_endRestore s m
    rw [hrestore, hstate]
  · rw [hstate]

theorem runOp_reclaim {s : State} {w : Who} {m : Nat} {c : MoonCmd} {x : Moon} (hallowed : opAllowed x.state .reclaim = true) :
    (getMoon (runOp s m ⟨.reclaim, c, w, false⟩ x) m).state = .suspended ∧ (getMoon (runOp s m ⟨.reclaim, c, w, false⟩ x) m).job = none := by
  unfold runOp
  rw [if_neg (allowed_runs hallowed (by decide))]
  dsimp only
  obtain ⟨v, hend⟩ := getMoon_endJob (openSpan (modMoon s m fun x => { x with state := .suspended, mig := .none, migCmd := none }) m 0) m 0
  obtain ⟨f, hopen⟩ := getMoon_openSpan (modMoon s m fun x => { x with state := .suspended, mig := .none, migCmd := none }) m 0
  rw [hend, hopen, getMoon_modMoon]
  exact ⟨rfl, rfl⟩

/-! ## WHEN and CANCEL -/

theorem exec_cancel_ok {s u : State} {w : Who} {m : Nat} {c : MoonCmd} (hw : writeStatus s w 0x6000 m = 0) (h : cancelCmd w m c s = .ok u) :
    exec (.moonCmdCancel w m c) s = .next (answer u 0) := command_ok hw h

/-- A command that waits gives way without a trace but its own end (R229). -/
theorem giveWay_waiting {s : State} {m : Nat} {j : MoonJob} (hjob : (getMoon s m).job = some j) (hrun : j.running = false) :
    giveWay s m = endJob s m 0xE := by
  unfold giveWay
  rw [hjob]
  simp only [hrun, Bool.false_and, Bool.false_eq_true, if_false, Bool.not_false, if_true]

theorem cancelCmd_waiting {s : State} {w : Who} {m : Nat} {c : MoonCmd} {j : MoonJob} (hrsv : c.rsv = false) (hjob : (getMoon s m).job = some j)
    (hrun : j.running = false) : cancelCmd w m c s = .ok (endCmd (endJob s m 0xE) m .cancel w 0) := by
  unfold cancelCmd
  simp only [hjob, hrun, hrsv, Bool.false_and, Bool.false_eq_true, if_false, giveWay_waiting hjob hrun]

theorem cancelCmd_none {s : State} {w : Who} {m : Nat} {c : MoonCmd} (hrsv : c.rsv = false) (hjob : (getMoon s m).job = none) :
    cancelCmd w m c s = .ok (endCmd s m .cancel w 2) := by
  unfold cancelCmd
  simp only [hjob, hrsv, Bool.false_eq_true, if_false]

theorem resizing_of_due {s : State} {m : Nat} (h : resizeDue s m = true) : (getMoon s m).state = .resizing := by
  unfold resizeDue at h
  simp only [Bool.and_eq_true, beq_iff_eq] at h
  exact h.1.1.1

theorem cancelCmd_late {s : State} {w : Who} {m : Nat} {c : MoonCmd} {j : MoonJob} (hrsv : c.rsv = false) (hjob : (getMoon s m).job = some j)
    (hrun : j.running = true) (hdue : resizeDue s m = true) : cancelCmd w m c s = .ok (endCmd s m .cancel w 2) := by
  unfold cancelCmd
  simp only [hjob, hrun, hrsv, hdue, resizing_of_due hdue, opAllowed, beq_self_eq_true, Bool.not_true, Bool.and_true, Bool.and_false,
    Bool.false_eq_true, if_false, if_true]

theorem cancelCmd_busy {s : State} {w : Who} {m : Nat} {c : MoonCmd} {j : MoonJob} (hjob : (getMoon s m).job = some j)
    (hrun : j.running = true) (hop : opAllowed (getMoon s m).state .cancel = false) : cancelCmd w m c s = .error 8 := by
  unfold cancelCmd
  simp only [hjob, hrun, hop, Bool.not_false, Bool.and_true, if_true]

/-- A command with WHEN_EN is kept (R227, R228). -/
theorem moonWrite_kept {s : State} {w : Who} {m : Nat} {c : MoonCmd} (hjob : (getMoon s m).job = none) (hrsv : c.rsv = false)
    (hwhen : c.whenEn = true) : moonWrite w .suspend m c s = .ok (cmdKept s w m .suspend c) := by
  have hgive : giveWay s m = s := by
    unfold giveWay
    rw [hjob]
  have hnow : (c.whenEn && MoonOp.suspend != .migrateOut) = true := by
    rw [hwhen]
    rfl
  unfold moonWrite
  simp only [hjob, moonCmdBad, hrsv, hgive, hnow, Bool.or_false, Bool.false_eq_true, if_false, if_true]
  rfl

theorem execMoonCmdWhen_due {s : State} {m : Nat} {j : MoonJob} (hup : isUp s = true) (hjob : (getMoon s m).job = some j)
    (hrun : j.running = false) (hwhen : j.cmd.whenEn = true) (hlocked : s.orbit.state ≠ .unlocked) (hdue : j.cmd.whenOrbit ≤ s.orbit.now) :
    execMoonCmdWhen m s = .next (runJob s m) := by
  unfold execMoonCmdWhen
  rw [hjob]
  exact if_pos (by simp [hup, hrun, hwhen, hlocked, hdue])

/-- Settles O26. -/
theorem moonCommandsActWaitAndCancel : Obligations.MoonCommandsActWaitAndCancel := by
  unfold Obligations.MoonCommandsActWaitAndCancel
  refine ⟨⟨?_, ?_, ?_, ?_, ?_, ?_⟩, ⟨?_, ?_, ?_, ?_, ?_, ?_⟩⟩
  case refine_1 =>
    intro s w m c htaken hactive hcheck
    refine ⟨_, exec_taken htaken, rfl, ?_⟩
    rw [getMoon_answer, runOp_resize (by exact hactive) (by exact hcheck), getMoon_modMoon, getMoon_cmdRunning]
    exact ⟨rfl, hactive⟩
  case refine_2 =>
    intro s w m c htaken hshared
    refine ⟨_, exec_taken htaken, rfl, ?_⟩
    obtain ⟨v, l, hfree⟩ := runOp_release (w := w) (c := c) (x := { getMoon s m with
        status := BitVec.ofNat 32 (1 + 256 * opCode .release + 65536 * 0), job := some ⟨.release, c, w, false⟩ }) htaken.allowed hshared
    rw [getMoon_answer, hfree]
    exact ⟨rfl, rfl, rfl, rfl⟩
  case refine_3 =>
    intro s w m c htaken
    refine ⟨_, exec_taken htaken, rfl, ?_⟩
    rw [getMoon_answer]
    exact runOp_suspend htaken.allowed false
  case refine_4 =>
    intro s w m c htaken hsuspended hdisplaced
    refine ⟨_, exec_taken htaken, rfl, ?_⟩
    rw [getMoon_answer]
    exact runOp_resume hsuspended hdisplaced
  case refine_5 =>
    intro s w m c htaken hshared
    refine ⟨_, exec_taken htaken, rfl, ?_⟩
    rw [getMoon_answer]
    exact runOp_migrateOut htaken.allowed hshared (by rw [getMoon_cmdRunning])
  case refine_6 =>
    intro s w m c htaken
    refine ⟨_, exec_taken htaken, rfl, ?_⟩
    rw [getMoon_answer]
    exact runOp_reclaim htaken.allowed
  case refine_7 =>
    intro s w m c hw hjob hrsv hwhen
    refine ⟨answer (cmdKept s w m .suspend c) 0, command_ok hw (moonWrite_kept hjob hrsv hwhen), rfl, ?_⟩
    rw [getMoon_answer, getMoon_cmdKept]
    exact ⟨rfl, rfl⟩
  case refine_8 =>
    intro s m j hup hjob hrun hwhen hlocked hdue
    refine ⟨runJob s m, execMoonCmdWhen_due hup hjob hrun hwhen hlocked hdue, rfl, ?_⟩
    obtain ⟨op, c, w, r⟩ := j
    rintro rfl hactive
    rw [runJob_eq hjob]
    obtain ⟨hstate, hswap⟩ := runOp_suspend (s := jobStarted s m ⟨.suspend, c, w, r⟩) (w := w) (m := m) (c := c) (x := getMoon s m)
      (by rw [hactive]; rfl) r
    exact ⟨hstate, hswap hactive⟩
  case refine_9 =>
    intro s w m c j hw hrsv hjob hrun
    obtain ⟨v, hend⟩ := getMoon_endJob s m 0xE
    refine ⟨_, exec_cancel_ok hw (cancelCmd_waiting hrsv hjob hrun), rfl, ?_⟩
    rw [getMoon_answer, getMoon_endCmd, hend]
    exact ⟨rfl, rfl, rfl⟩
  case refine_10 =>
    intro s w m c hw hrsv hjob
    refine ⟨_, exec_cancel_ok hw (cancelCmd_none hrsv hjob), rfl, ?_⟩
    rw [getMoon_answer, getMoon_endCmd]
    rfl
  case refine_11 =>
    intro s w m c j hw hrsv hjob hrun hdue
    refine ⟨_, exec_cancel_ok hw (cancelCmd_late hrsv hjob hrun hdue), rfl, ?_⟩
    rw [getMoon_answer, getMoon_endCmd]
    exact ⟨rfl, hjob, resizing_of_due hdue⟩
  case refine_12 =>
    intro s w m c j hw hjob hrun hop
    exact ⟨answer s 8, command_error hw (cancelCmd_busy hjob hrun hop), rfl, answer_moons _ _⟩

end Sys2Proof.Proofs
end

section
/-! The shared pool: ticks, pre-emption, spills and restores, octet moves, resizing (R104, R232 to R242, R249). -/

set_option Elab.async false

namespace Sys2Proof.Proofs

open Sys2Proof.Machine Sys2Proof.Laws

/-! ## Moons across folds and other moons -/

theorem moons_foldl {α : Type} {f : State → α → State} (h : ∀ s a, (f s a).moons = s.moons) (l : List α) (s : State) :
    (l.foldl f s).moons = s.moons := by
  induction l generalizing s with
  | nil => rfl
  | cons a l ih => exact (ih _).trans (h s a)

theorem getMoon_setMoon_ne (s : State) {m n : Nat} (x : Moon) (h : n ≠ m) : getMoon (setMoon s m x) n = getMoon s n := tget_tset_ne _ _ _ _ _ h

theorem getMoon_modMoon_ne (s : State) {m n : Nat} (f : Moon → Moon) (h : n ≠ m) : getMoon (modMoon s m f) n = getMoon s n :=
  getMoon_setMoon_ne _ _ h

/-! ## Arrivals leave the course of a moon (R365, R369, R370) -/

/-- A moon is as it was but for what it holds of arrivals and what its ledger counts. -/
def SameCourse (m : Nat) (s t : State) : Prop := ∃ h p l, getMoon t m = { getMoon s m with held := h, precopied := p, ledger := l }

theorem sameCourse_of_moons {m : Nat} {s t : State} (h : t.moons = s.moons) : SameCourse m s t :=
  ⟨(getMoon s m).held, (getMoon s m).precopied, (getMoon s m).ledger, getMoon_of_moons h m⟩

theorem SameCourse.trans {m : Nat} {s t u : State} (h : SameCourse m s t) (g : SameCourse m t u) : SameCourse m s u := by
  obtain ⟨a, b, c, h⟩ := h
  obtain ⟨d, e, f, g⟩ := g
  exact ⟨d, e, f, g.trans (by rw [h])⟩

theorem sameCourse_countTx (m : Nat) (s : State) (k n : Nat) : SameCourse m s (countTx s k n) := by
  by_cases h : m = k
  · subst h
    exact ⟨_, _, _, getMoon_modMoon _ _ _⟩
  · exact ⟨_, _, _, getMoon_modMoon_ne s _ h⟩

/-- A failure other than of uncorrectable data changes no moon (R216). -/
theorem failTask_moons (s : State) (t : Machine.Task) {code : Nat} (ma detail : Nat) (h : code ≠ 0x0204) : (failTask s t code ma detail).moons = s.moons := by
  have hcount : countUe s t.moon code ma = s := if_pos h
  have hhalt : ∀ u : State, (haltRing u t.moon t.ring t.seq).moons = u.moons := fun u => moons_of_frame fr_haltRing rfl
  unfold failTask
  rw [hcount]
  dsimp only
  split
  · rfl
  · exact hhalt _

theorem failTx_moons (s : State) (x : TxXfer) {code : Nat} (detail : Nat) (h : code ≠ 0x0204) : (failTx s x code detail).moons = s.moons := by
  unfold failTx
  split
  · exact (moons_of_frame fr_dropTx rfl).trans (failTask_moons s _ 0 detail h)
  · exact moons_of_frame fr_dropTx rfl

theorem txRefused_moons (s : State) (xfer reason chunk fabric : Nat) : (txRefused s xfer reason chunk fabric).moons = s.moons := by
  unfold txRefused
  split
  · rfl
  · split
    · exact failTx_moons _ _ _ (by decide)
    · split
      · exact failTx_moons _ _ _ (by decide)
      · split
        · exact failTx_moons _ _ _ (by decide)
        · exact failTx_moons _ _ _ (by decide)

theorem sameCourse_txDelivered (m : Nat) (s : State) (xfer : Nat) : SameCourse m s (txDelivered s xfer) := by
  unfold txDelivered
  split
  · exact sameCourse_of_moons rfl
  · rename_i x _
    dsimp only
    have hcount : SameCourse m s (if sendsAway s x then countTx s x.moon x.bytes else s) := by
      split
      · exact sameCourse_countTx m s _ _
      · exact sameCourse_of_moons rfl
    generalize (if sendsAway s x then countTx s x.moon x.bytes else s) = v at hcount ⊢
    have hdrop : ∀ u : State, (dropTx u x.moon x.ring x.seq).moons = u.moons := fun u => moons_of_frame fr_dropTx rfl
    have hdone : ∀ (u : State) (t : Machine.Task), (moveDone u t).moons = u.moons := fun u t => moons_of_frame fr_moveDone rfl
    refine hcount.trans (sameCourse_of_moons ?_)
    split
    · split
      · exact (hdrop _).trans (hdone _ _)
      · exact hdrop _
    · rfl

theorem sameCourse_chunkWritten (m : Nat) (s : State) (k : Nat) (a : Arrival) : SameCourse m s (chunkWritten s k a) := by
  have hsee : (seeChunk s k a false).1.moons = s.moons := moons_of_frame fr_seeChunk rfl
  have hadd : ∀ u : State, (addObj u k a.obj a.add).1.moons = u.moons := fun u => moons_of_frame fr_addObj rfl
  have hovf : ∀ u : State, (sendOvf u a.xfer).moons = u.moons := fun u => moons_of_frame fr_sendOvf rfl
  unfold chunkWritten
  dsimp only
  split
  · exact sameCourse_of_moons hsee
  · have hback : ∀ u : State, u.moons = s.moons → SameCourse m s
        (if fromSelf u a then txDelivered u a.xfer else sendBack u a.port 3 a.srcFabric a.srcMoon k a.xfer []) := by
      intro u hu
      refine (sameCourse_of_moons hu).trans ?_
      split
      · exact sameCourse_txDelivered m _ _
      · exact sameCourse_of_moons (moons_of_frame fr_sendBack rfl)
    apply hback
    split
    · split
      · exact (hovf _).trans ((hadd _).trans hsee)
      · exact (hadd _).trans hsee
    · exact hsee

theorem refuseChunk_moons (s : State) (m : Nat) (a : Arrival) (reason : Nat) : (refuseChunk s m a reason).moons = s.moons := by
  have hsee : (seeChunk (incA s 0x5052 m 1) m a true).1.moons = s.moons := (moons_of_frame fr_seeChunk rfl).trans (incA_moons _ _ _ _)
  unfold refuseChunk
  dsimp only
  split
  · exact (txRefused_moons _ _ _ _ _).trans hsee
  · exact (moons_of_frame fr_sendBack rfl).trans hsee

theorem sameCourse_putArrival (m : Nat) (s : State) (k : Nat) (a : Arrival) : SameCourse m s (putArrival s k a) := by
  unfold putArrival
  split
  · refine SameCourse.trans ?_ (sameCourse_chunkWritten m _ _ _)
    by_cases h : m = k
    · subst h
      exact ⟨_, _, _, getMoon_modMoon _ _ _⟩
    · exact ⟨_, _, _, getMoon_modMoon_ne s _ h⟩
  · have hstream : (streamAccess s k a.ma a.bytes.length a.hint false).moons = s.moons := moons_of_frame fr_streamAccess rfl
    split
    · rename_i t ht
      exact (sameCourse_of_moons ((moons_of_frame (fr_writeMa _ ht) rfl).trans hstream)).trans (sameCourse_chunkWritten m _ _ _)
    · exact sameCourse_of_moons (refuseChunk_moons _ _ _ _)

theorem sameCourse_writeHeld (m : Nat) (l : List Arrival) (s : State) : SameCourse m s (writeHeld s m l) := by
  induction l generalizing s with
  | nil => exact ⟨_, _, _, getMoon_modMoon _ _ _⟩
  | cons a l ih =>
    unfold writeHeld
    split
    · exact ⟨_, _, _, getMoon_modMoon _ _ _⟩
    · refine ((sameCourse_putArrival m s m a).trans (sameCourse_of_moons ?_)).trans (ih _)
      split
      · exact moons_of_frame fr_returnSome rfl
      · rfl

theorem sameCourse_deliverHeld (m : Nat) (s : State) : SameCourse m s (deliverHeld s m) :=
  (sameCourse_writeHeld m _ s).trans (sameCourse_of_moons (moons_foldl (fun _ _ => moons_of_frame fr_drawShort rfl) _ _))

/-! ## The moon across saving, restoring and moving (R235, R236, R249) -/

theorem getMoon_saveMoon (s : State) (m : Nat) : ∃ im marks, getMoon (saveMoon s m) m = { getMoon s m with
    image := im, imageUe := marks, spilled := true, swap := .none, octets := if (getMoon s m).pool then [] else (getMoon s m).octets,
    residentAt := none } := by
  have hwrite : (writeBackMoon s m).moons = s.moons := moons_of_frame fr_writeBackMoon rfl
  have hevents : ∀ (l : List Nat) (u : State), u.moons = s.moons → (l.foldl (fun s c => poisonEvents s m c
      (s.mem.ueSpm.filter fun w => w * 8 / 2 ^ 24 == c)) u).moons = s.moons := fun l u hu =>
    (moons_foldl (fun _ _ => moons_of_frame fr_poisonEvents rfl) l u).trans hu
  have hswap : ∀ u : State, (countSwap u m).moons = u.moons := fun u => moons_of_frame fr_countSwap rfl
  have hclear : ∀ (u : State) (l : List Nat), (clearCores u l).moons = u.moons := fun u l => moons_of_frame fr_clearCores rfl
  unfold saveMoon
  refine ⟨_, _, getMoon_modMoon_of m _ ?_⟩
  split
  · exact (hclear _ _).trans ((hswap _).trans (hevents _ _ hwrite))
  · exact (hswap _).trans (hevents _ _ hwrite)

theorem getMoon_restoreMoon (s : State) (m : Nat) : ∃ h p l, getMoon (restoreMoon s m) m = { getMoon s m with
    spilled := false, swap := .none, image := [], imageUe := [], held := h, precopied := p, ledger := l } := by
  let back (u : State) : State := modMoon u m fun x => { x with spilled := false, swap := .none, image := [], imageUe := [] }
  have hswap : ∀ u : State, (countSwap u m).moons = u.moons := fun u => moons_of_frame fr_countSwap rfl
  have hput : ∀ (u : State) (l : List Nat) (im : List Host.Cell) (k : List Nat), (putImage u l im k).moons = u.moons := fun u l im k =>
    moons_of_frame fr_putImage rfl
  have hbase : ∃ u : State, u.moons = s.moons ∧ restoreMoon s m = deliverHeld (back u) m := by
    unfold restoreMoon
    dsimp only
    refine ⟨_, ?_, rfl⟩
    split <;> split
    · exact (hswap _).trans (hput _ _ _ _)
    · exact hswap _
    · exact hput _ _ _ _
    · rfl
  obtain ⟨u, hu, heq⟩ := hbase
  obtain ⟨h, p, l, hheld⟩ := sameCourse_deliverHeld m (back u)
  refine ⟨h, p, l, ?_⟩
  rw [heq, hheld]
  show { (getMoon (back u) m) with held := h, precopied := p, ledger := l } = _
  rw [show getMoon (back u) m = _ from getMoon_modMoon_of m _ hu]

theorem getMoon_moveOctet (s : State) (m : Nat) (v : Nat × Nat × Nat) : getMoon (moveOctet s m v) m = { getMoon s m with
    octets := addNum (delNum (getMoon s m).octets v.1) v.2.1, moves := (getMoon s m).moves.filter fun y => y != v } := by
  have hbase : ∀ u : State, u.moons = (modMoon (writeBackMoon s m) m fun x => { x with
      octets := addNum (delNum x.octets v.1) v.2.1, moves := x.moves.filter fun y => y != v }).moons → getMoon u m = { getMoon s m with
        octets := addNum (delNum (getMoon s m).octets v.1) v.2.1, moves := (getMoon s m).moves.filter fun y => y != v } := fun u hu =>
    (getMoon_of_moons hu m).trans (getMoon_modMoon_of m _ (moons_of_frame fr_writeBackMoon rfl))
  have hsegments : ∀ (u : State) (a b : List Nat), (moveVregs (moveSegments u a b) a b).moons = u.moons := fun u a b =>
    (moons_of_frame fr_moveVregs rfl).trans (moons_of_frame fr_moveSegments rfl)
  have hevents : ∀ (u : State) (c : Nat) (l : List Nat), (poisonEvents u m c l).moons = u.moons := fun u c l => moons_of_frame fr_poisonEvents rfl
  apply hbase
  unfold moveOctet
  dsimp only
  split
  · rfl
  · exact (hevents _ _ _).trans (hsegments _ _ _)

/-- A moon's octet moves change where it stands and what is left to move. -/
theorem getMoon_settleMoves (s : State) (m : Nat) : ∃ o l, getMoon (settleMoves s m) m = { getMoon s m with octets := o, moves := l } := by
  have hfold : ∀ (k : List (Nat × Nat × Nat)) (u : State), ∃ o l, getMoon (k.foldl (fun s v =>
      if (getMoon s m).spilled || ((getMoon s m).swap == .none && octetLeft s m v.1) then moveOctet s m v else s) u) m =
        { getMoon u m with octets := o, moves := l } := by
    intro k
    induction k with
    | nil => exact fun u => ⟨_, _, rfl⟩
    | cons v k ih =>
      intro u
      obtain ⟨o, l, h⟩ := ih (if (getMoon u m).spilled || ((getMoon u m).swap == .none && octetLeft u m v.1) then moveOctet u m v else u)
      refine ⟨o, l, h.trans ?_⟩
      split
      · rw [getMoon_moveOctet]
      · rfl
  unfold settleMoves
  dsimp only
  split
  · exact ⟨_, _, rfl⟩
  · obtain ⟨o, l, h⟩ := hfold (getMoon s m).moves s
    exact ⟨o, l, (getMoon_offerBoth _ _ _).trans h⟩

theorem settleMoves_one {s : State} {m : Nat} {v : Nat × Nat × Nat} (hmoves : (getMoon s m).moves = [v])
    (hgo : ((getMoon s m).spilled || ((getMoon s m).swap == .none && octetLeft s m v.1)) = true) :
    settleMoves s m = offerCores (offerCores (moveOctet s m v) m 1) m 2 := by
  unfold settleMoves
  rw [hmoves]
  simp only [List.isEmpty_cons, Bool.false_eq_true, if_false, List.foldl_cons, List.foldl_nil, hgo, if_true]

theorem getMoon_beginRestores {s : State} {m : Nat} (h : (getMoon s m).nextOctets = []) : getMoon (beginRestores s) m = getMoon s m := by
  have hone : ∀ (u : State) (k : Nat), (getMoon u m).nextOctets = [] → getMoon (beginRestore u k) m = getMoon u m := by
    intro u k hu
    unfold beginRestore
    dsimp only
    by_cases hk : m = k
    · subst hk
      simp [hu]
    · split
      · exact getMoon_setMoon_ne _ _ hk
      · rfl
  have hfold : ∀ (l : List Nat) (u : State), (getMoon u m).nextOctets = [] → getMoon (l.foldl beginRestore u) m = getMoon u m := by
    intro l
    induction l with
    | nil => exact fun u _ => rfl
    | cons k l ih => exact fun u hu => (ih _ (by rw [hone u k hu]; exact hu)).trans (hone u k hu)
  exact hfold _ s h

/-! ## A resize at its boundary (R240 to R242) -/

/-- What a resize does first: a pool moon whose count changes leaves its octets (R233). -/
def leaveOctets (s : State) (m : Nat) (p : ResizePlan) : State :=
  if (getMoon s m).pool && p.count != (getMoon s m).poolCount && !(getMoon s m).octets.isEmpty then
    saveMoon (modMoon s m fun x => { x with swapAt := s.orbit.refNs }) m
  else s

/-- The moon at its new place. -/
def placed (s : State) (m : Nat) (p : ResizePlan) : State :=
  modMoon s m fun x => { x with octets := if x.pool then x.octets else p.octets, poolCount := if x.pool then p.count else 0 }

/-- Images beyond the new count leave the save area. -/
def cutImage (s : State) (m n : Nat) : State :=
  modMoon s m fun x => { x with image := x.image.filter fun c => c.1 < imageAt n, imageUe := x.imageUe.filter fun w => w * 8 < imageAt n }

/-- Segments follow the moon-local indexes (R241); `x` is the moon as it was, `old` its cores. -/
def recut (s : State) (m : Nat) (x : Moon) (p : ResizePlan) (old : List Nat) : State :=
  if x.pool then (if (getMoon s m).spilled then cutImage s m (8 * p.count) else s)
  else if x.spilled then clearCores (cutImage s m (moonCores s m).length) (old.filter fun c => !(moonCores s m).contains c)
  else if old == moonCores s m then s else moveSegments s old (moonCores s m)

/-- Pages and blocks of a resize, and what its tasks and lines make of them (R242). -/
def regranted (s : State) (m : Nat) (p : ResizePlan) : State :=
  let s := modMoon (resave s m (savePages p.count)) m fun x => { x with hbmPages := p.pages }
  let s := if (getMoon s m).blocks.length ≤ p.blocks then grantBlocks s m (p.blocks - (getMoon s m).blocks.length) else keepBlocks s m p.blocks
  demoteAll ((upTo 37).foldl (fun s r => recheckSync s m r) s) m

theorem applyResize_eq (s : State) (m : Nat) (p : ResizePlan) : applyResize s m p =
    regranted (recut (placed (leaveOctets s m p) m p) m (getMoon s m) p (moonCores s m)) m p := rfl

theorem getMoon_keepBlocks (s : State) (m n : Nat) : ∃ l, getMoon (keepBlocks s m n) m = { getMoon s m with blocks := l } :=
  ⟨_, getMoon_modMoon _ _ _⟩

theorem recheckSync_moons (s : State) (m r : Nat) : (recheckSync s m r).moons = s.moons := by
  unfold recheckSync
  split
  · rfl
  · split
    · rfl
    · refine (failTask_moons _ _ _ _ (by decide)).trans ?_
      split <;> rfl

theorem getMoon_regranted (s : State) (m : Nat) (p : ResizePlan) : ∃ save blocks, getMoon (regranted s m p) m =
    { getMoon s m with save := save, blocks := blocks, hbmPages := p.pages } := by
  let u := modMoon (resave s m (savePages p.count)) m fun x => { x with hbmPages := p.pages }
  let v := if (getMoon u m).blocks.length ≤ p.blocks then grantBlocks u m (p.blocks - (getMoon u m).blocks.length) else keepBlocks u m p.blocks
  obtain ⟨save, hsave⟩ := getMoon_resave s m (savePages p.count)
  have hu : getMoon u m = { getMoon s m with save := save, hbmPages := p.pages } := (getMoon_modMoon _ _ _).trans (by rw [hsave])
  have hv : ∃ l, getMoon v m = { getMoon u m with blocks := l } := by
    by_cases hle : (getMoon u m).blocks.length ≤ p.blocks
    · rw [show v = grantBlocks u m (p.blocks - (getMoon u m).blocks.length) from if_pos hle]
      exact getMoon_grantBlocks _ _ _
    · rw [show v = keepBlocks u m p.blocks from if_neg hle]
      exact getMoon_keepBlocks _ _ _
  obtain ⟨blocks, hv⟩ := hv
  refine ⟨save, blocks, ?_⟩
  have htail : (regranted s m p).moons = v.moons :=
    (moons_of_frame fr_demoteAll rfl).trans (moons_foldl (fun s r => recheckSync_moons s m r) _ v)
  rw [getMoon_of_moons htail, hv, hu]

theorem getMoon_recut (s : State) (m : Nat) (x : Moon) (p : ResizePlan) (old : List Nat) : ∃ im marks, getMoon (recut s m x p old) m =
    { getMoon s m with image := im, imageUe := marks } := by
  unfold recut
  split
  · split
    · exact ⟨_, _, getMoon_modMoon _ _ _⟩
    · exact ⟨_, _, rfl⟩
  · split
    · exact ⟨_, _, (getMoon_of_moons (moons_of_frame fr_clearCores rfl) m).trans (getMoon_modMoon _ _ _)⟩
    · split
      · exact ⟨_, _, rfl⟩
      · exact ⟨_, _, getMoon_of_moons (moons_of_frame fr_moveSegments rfl) m⟩

/-- A moon that is saved away whole, with no place given to it. -/
def SavedAway (x : Moon) : Prop := x.spilled = true ∧ x.swap = .none ∧ x.nextOctets = []

theorem SavedAway.of_fields {x y : Moon} (h : SavedAway x) (hspilled : y.spilled = x.spilled) (hswap : y.swap = x.swap)
    (hnext : y.nextOctets = x.nextOctets) : SavedAway y := ⟨hspilled.trans h.1, hswap.trans h.2.1, hnext.trans h.2.2⟩

theorem savedAway_leaveOctets {s : State} {m : Nat} (p : ResizePlan) (h : SavedAway (getMoon s m)) : SavedAway (getMoon (leaveOctets s m p) m) := by
  unfold leaveOctets
  split
  · obtain ⟨im, marks, hsave⟩ := getMoon_saveMoon (modMoon s m fun x => { x with swapAt := s.orbit.refNs }) m
    rw [hsave, getMoon_modMoon]
    exact ⟨rfl, rfl, h.2.2⟩
  · exact h

theorem savedAway_applyResize {s : State} {m : Nat} (p : ResizePlan) (h : SavedAway (getMoon s m)) : SavedAway (getMoon (applyResize s m p) m) := by
  obtain ⟨save, blocks, hgrant⟩ := getMoon_regranted (recut (placed (leaveOctets s m p) m p) m (getMoon s m) p (moonCores s m)) m p
  obtain ⟨im, marks, hcut⟩ := getMoon_recut (placed (leaveOctets s m p) m p) m (getMoon s m) p (moonCores s m)
  obtain ⟨hspilled, hswap, hnext⟩ := savedAway_leaveOctets p h
  rw [applyResize_eq, hgrant, hcut]
  unfold placed
  rw [getMoon_modMoon]
  exact ⟨hspilled, hswap, hnext⟩

/-- A resize that passes its checks again is applied, and the moon goes on (R242). -/
theorem finishResize_applied {s : State} {m : Nat} {c : MoonCmd} (hcheck : resizeCheck s m (resizePlan (getMoon s m) c) = 0) :
    ∃ v, getMoon (finishResize s m c) m = { getMoon (applyResize s m (resizePlan (getMoon s m) c)) m with
      state := if (getMoon s m).prev = .active ∧ (getMoon (applyResize s m (resizePlan (getMoon s m) c)) m).spilled then .waiting else (getMoon s m).prev,
      displaced := false, job := none, status := v } := by
  let u := applyResize s m (resizePlan (getMoon s m) c)
  let st := if (getMoon s m).prev = .active ∧ (getMoon u m).spilled then .waiting else (getMoon s m).prev
  let t := pipeResized (modMoon u m fun y => { y with state := st, displaced := false }) m
  obtain ⟨v, hend⟩ := getMoon_endJob t m 0
  have ht : getMoon t m = { getMoon u m with state := st, displaced := false } :=
    (getMoon_of_moons (moons_of_frame fr_pipeResized rfl) m).trans (getMoon_modMoon _ _ _)
  refine ⟨v, ?_⟩
  unfold finishResize
  dsimp only
  rw [if_neg (not_not_intro hcheck)]
  refine (getMoon_offerBoth _ _ _).trans (hend.trans ?_)
  rw [ht]

theorem savedAway_finishResize {s : State} {m : Nat} (c : MoonCmd) (h : SavedAway (getMoon s m)) : SavedAway (getMoon (finishResize s m c) m) := by
  by_cases hcheck : resizeCheck s m (resizePlan (getMoon s m) c) = 0
  · obtain ⟨v, hmoon⟩ := finishResize_applied hcheck
    exact (savedAway_applyResize (resizePlan (getMoon s m) c) h).of_fields (by rw [hmoon]) (by rw [hmoon]) (by rw [hmoon])
  · obtain ⟨v, hend⟩ := getMoon_endJob (modMoon s m fun x => { x with state := x.prev }) m (resizeCheck s m (resizePlan (getMoon s m) c))
    unfold finishResize
    dsimp only
    rw [if_pos hcheck, hend, getMoon_modMoon]
    exact h

/-! ## SPILL_DONE (R228, R234, R235, R242) -/

theorem savedAway_endJob {s : State} {m : Nat} (code : Nat) (h : SavedAway (getMoon s m)) : SavedAway (getMoon (endJob s m code) m) := by
  obtain ⟨v, hend⟩ := getMoon_endJob s m code
  rw [hend]
  exact h

theorem savedAway_spilledTo {s : State} {m : Nat} (h : SavedAway (getMoon s m)) : SavedAway (getMoon (spilledTo s m) m) := by
  unfold spilledTo
  dsimp only
  split
  · rw [getMoon_modMoon]
    exact h
  · split
    · have hprev : SavedAway (getMoon (modMoon s m fun x => { x with prev := .waiting }) m) := by
        rw [getMoon_modMoon]
        exact h
      split
      · exact savedAway_finishResize _ hprev
      · exact hprev
    · exact h
  · rw [getMoon_modMoon]
    exact h
  · split
    · split
      · exact savedAway_endJob 0 h
      · exact h
    · exact h
  · exact h

theorem spilledTo_active {s : State} {m : Nat} (h : (getMoon s m).state = .active) : spilledTo s m = modMoon s m fun x => { x with state := .waiting } := by
  unfold spilledTo
  dsimp only
  rw [h]

theorem savedAway_sendMigState {s : State} {m : Nat} (h : SavedAway (getMoon s m)) : SavedAway (getMoon (sendMigState s m) m) := by
  have hwait : (endWait s m).moons = s.moons := moons_of_frame fr_endWait rfl
  have hsent : SavedAway (getMoon (dropPrecopy (modMoon (endWait s m) m fun x => { x with mig := .stateSent, heldSent := x.held.length }) m) m) := by
    rw [getMoon_of_moons (moons_of_frame fr_dropPrecopy rfl), getMoon_modMoon, getMoon_of_moons hwait]
    exact h
  unfold sendMigState
  dsimp only
  split
  · exact hsent
  · rw [getMoon_of_moons (emit_moons _ _), getMoon_of_moons (moons_of_frame fr_openOwn rfl), getMoon_of_moons (moons_of_frame fr_openOwn rfl)]
    exact hsent

theorem savedAway_settled {s : State} {m : Nat} (h : SavedAway (getMoon s m)) :
    SavedAway (getMoon (beginRestores (settleMoves s m)) m) ∧ (getMoon (beginRestores (settleMoves s m)) m).state = (getMoon s m).state := by
  obtain ⟨o, l, hmoves⟩ := getMoon_settleMoves s m
  obtain ⟨hspilled, hswap, hnext⟩ := h
  have hsame : getMoon (beginRestores (settleMoves s m)) m = getMoon (settleMoves s m) m := getMoon_beginRestores (by rw [hmoves]; exact hnext)
  rw [hsame, hmoves]
  exact ⟨⟨hspilled, hswap, hnext⟩, rfl⟩

theorem exec_spillDone {s : State} {m : Nat} (hup : isUp s = true) (hswap : (getMoon s m).swap = .spilling) (hready : spillReady s m = true)
    (hnext : (getMoon s m).nextOctets = []) : ∃ t, exec (.spillDone m) s = .next t ∧ (getMoon t m).spilled = true ∧ (getMoon t m).swap = .none ∧
      ((getMoon s m).state = .active → (getMoon t m).state = .waiting) := by
  obtain ⟨im, marks, hsave⟩ := getMoon_saveMoon s m
  have hsaved : SavedAway (getMoon (saveMoon s m) m) := by
    rw [hsave]
    exact ⟨rfl, rfl, hnext⟩
  let u := if (getMoon s m).state == .migrating && (getMoon s m).mig == .handover then sendMigState (saveMoon s m) m else spilledTo (saveMoon s m) m
  have hu : SavedAway (getMoon u m) := by
    show SavedAway (getMoon (if _ then _ else _) m)
    split
    · exact savedAway_sendMigState hsaved
    · exact savedAway_spilledTo hsaved
  obtain ⟨⟨hspilled, hnone, _⟩, hstate⟩ := savedAway_settled hu
  refine ⟨beginRestores (settleMoves u m), ?_, hspilled, hnone, fun hactive => hstate.trans ?_⟩
  · show execSpillDone m s = _
    unfold execSpillDone
    exact if_neg (by simp [hup, hswap, hready])
  · have hto : u = modMoon (saveMoon s m) m fun x => { x with state := .waiting } :=
      (if_neg (by simp [hactive])).trans (spilledTo_active (by rw [hsave]; exact hactive))
    rw [hto, getMoon_modMoon]

/-! ## RESTORE_DONE and the step boundary -/

/-- A moon whose images are back goes on (R235). -/
def runsAgain (s : State) (m : Nat) : State :=
  modMoon s m fun x => { x with
    state := if x.state = .waiting ∨ x.state = .suspended then .active else x.state, residentAt := if x.pool then some s.orbit.refNs else none }

/-- A RESUME ends with the restore that it began (R247). -/
def resumeEnded (s : State) (m : Nat) (job : Option MoonJob) : State :=
  match job with
  | some j => if j.op == .resume then endJob s m 0 else s
  | none => s

theorem getMoon_resumeEnded (s : State) (m : Nat) (job : Option MoonJob) : ∃ a b, getMoon (resumeEnded s m job) m =
    { getMoon s m with job := a, status := b } := by
  unfold resumeEnded
  split
  · split
    · obtain ⟨b, hend⟩ := getMoon_endJob s m 0
      exact ⟨none, b, hend⟩
    · exact ⟨_, _, rfl⟩
  · exact ⟨_, _, rfl⟩

theorem execRestoreDone_restored {s : State} {m : Nat} (hup : isUp s = true) (hswap : (getMoon s m).swap = .restoring) :
    execRestoreDone m s = .next (settleMoves
      (offerCores (offerCores (resumeEnded (runsAgain (restoreMoon s m) m) m (getMoon s m).job) m 1) m 2) m) := by
  unfold execRestoreDone
  dsimp only
  rw [if_neg (by simp [hup]), if_neg (by simp [hswap])]
  rfl

theorem exec_restoreDone {s : State} {m : Nat} (hup : isUp s = true) (hswap : (getMoon s m).swap = .restoring) :
    ∃ t, exec (.restoreDone m) s = .next t ∧ (getMoon t m).spilled = false ∧ (getMoon t m).swap = .none ∧
      (getMoon t m).state = if (getMoon s m).state = .waiting ∨ (getMoon s m).state = .suspended then .active else (getMoon s m).state := by
  obtain ⟨h, p, l, hrestore⟩ := getMoon_restoreMoon s m
  obtain ⟨a, b, hended⟩ := getMoon_resumeEnded (runsAgain (restoreMoon s m) m) m (getMoon s m).job
  obtain ⟨o, k, hmoves⟩ := getMoon_settleMoves
    (offerCores (offerCores (resumeEnded (runsAgain (restoreMoon s m) m) m (getMoon s m).job) m 1) m 2) m
  have hruns : getMoon (runsAgain (restoreMoon s m) m) m = _ := getMoon_modMoon _ _ _
  rw [getMoon_offerBoth, hended, hruns, hrestore] at hmoves
  refine ⟨_, execRestoreDone_restored hup hswap, ?_, ?_, ?_⟩
  · rw [hmoves]
  · rw [hmoves]
  · rw [hmoves]

theorem exec_octetMoved {s : State} {m : Nat} {v : Nat × Nat × Nat} (hup : isUp s = true) (hswap : (getMoon s m).swap = .none)
    (hmoves : (getMoon s m).moves = [v]) (hgo : (getMoon s m).spilled = true ∨ octetLeft s m v.1 = true) :
    ∃ t, exec (.restoreDone m) s = .next t ∧ (getMoon t m).moves = [] ∧
      (getMoon t m).octets = addNum (delNum (getMoon s m).octets v.1) v.2.1 := by
  refine ⟨settleMoves s m, ?_, ?_⟩
  · show execRestoreDone m s = _
    unfold execRestoreDone
    dsimp only
    rw [if_neg (by simp [hup]), if_pos (by simp [hswap])]
  · rw [settleMoves_one hmoves (by rcases hgo with h | h <;> simp [h, hswap]), getMoon_offerBoth, getMoon_moveOctet, hmoves]
    exact ⟨by simp, rfl⟩

theorem exec_resizeStepBoundary {s : State} {m : Nat} {j : MoonJob} (hup : isUp s = true) (hjob : (getMoon s m).job = some j)
    (hdue : resizeDue s m = true) : exec (.resizeStepBoundary m) s = .next (finishResize s m j.cmd) := by
  show execResizeStepBoundary m s = _
  unfold execResizeStepBoundary
  dsimp only
  rw [hjob]
  exact if_pos (by simp [hup, hdue])

/-- A dedicated moon that stands on its octets takes the plan's octets and pages (R240, R241). -/
theorem getMoon_applyResize_dedicated {s : State} {m : Nat} (p : ResizePlan) (hpool : (getMoon s m).pool = false) :
    ∃ im marks save blocks, getMoon (applyResize s m p) m = { getMoon s m with
      octets := p.octets, poolCount := 0, image := im, imageUe := marks, save := save, blocks := blocks, hbmPages := p.pages } := by
  obtain ⟨save, blocks, hgrant⟩ := getMoon_regranted (recut (placed (leaveOctets s m p) m p) m (getMoon s m) p (moonCores s m)) m p
  obtain ⟨im, marks, hcut⟩ := getMoon_recut (placed (leaveOctets s m p) m p) m (getMoon s m) p (moonCores s m)
  have hleave : leaveOctets s m p = s := if_neg (by simp [hpool])
  have hplaced : getMoon (placed s m p) m = { getMoon s m with octets := p.octets, poolCount := 0 } := by
    unfold placed
    rw [getMoon_modMoon]
    simp [hpool]
  refine ⟨im, marks, save, blocks, ?_⟩
  rw [applyResize_eq, hgrant, hcut, hleave, hplaced]

/-! ## SCHED_TICK with one pool moon (R234) -/

section tick

variable {s : State} {m : Nat} {x : Moon}

theorem getMoon_sole (h : s.moons = [(m, x)]) : getMoon s m = x := by
  unfold getMoon
  rw [h]
  exact if_pos rfl

theorem setMoon_sole (h : s.moons = [(m, x)]) (y : Moon) : (setMoon s m y).moons = [(m, y)] := by
  show tset s.moons m y = _
  rw [h]
  exact if_pos rfl

theorem noteAll_sole (h : s.moons = [(m, x)]) (hpool : x.pool = true) (hin : inTick x = true) (hrun : runnableNow s m = true) :
    ∃ v, noteAll s = setMoon s m { x with runnable := true, vtime := v } := by
  have hnote : noteAll s = noteRunnable s m := by
    unfold noteAll
    rw [h]
    simp [hpool]
  rw [hnote]
  unfold noteRunnable
  dsimp only
  rw [getMoon_sole h, if_neg (by simp [hin]), hrun]
  exact ⟨_, rfl⟩

theorem settlePool_sole (h : s.moons = [(m, x)]) (hoctets : x.octets = []) (hnext : x.nextOctets = []) :
    settlePool s = { s with cores := { s.cores with poolNow := param s 0x6005 0 } } := by
  unfold settlePool
  rw [h]
  exact if_neg (by simp [hoctets, hnext])

theorem takenOctets_sole (h : s.moons = [(m, x)]) (hoctets : x.octets = []) (hnext : x.nextOctets = []) (sel : List Nat) : takenOctets s sel = [] := by
  unfold takenOctets
  rw [h]
  simp [hoctets, hnext]

/-- A moon without octets that neither spills nor restores is not kept where it is. -/
theorem not_kept (hoctets : x.octets = []) (hnext : x.nextOctets = []) (hswap : x.swap = .none) : kept s x = false := by
  simp [kept, resident, hoctets, hnext, hswap]

theorem not_resident (hoctets : x.octets = []) : resident x = false := by simp [resident, hoctets]

theorem tickOrder_sole (h : s.moons = [(m, x)]) (hin : inTick x = true) (hkept : kept s x = false) (hrun : x.runnable = true) :
    tickOrder s = [(m, x)] := by
  unfold tickOrder
  rw [h]
  simp [hin, hkept, hrun, insertV]

theorem assignOctets_sole (h : s.moons = [(m, x)]) (hresident : resident x = false) (free : List Nat) :
    assignOctets s free [m] = setMoon s m { x with nextOctets := free.take x.poolCount } := by
  simp [assignOctets, getMoon_sole h, hresident]

theorem beginRestores_sole (h : s.moons = [(m, x)]) (hoctets : x.octets = []) (hnext : x.nextOctets ≠ []) (hstate : x.state = .waiting) :
    beginRestores s = setMoon s m { x with octets := x.nextOctets, nextOctets := [], swap := .restoring, swapAt := s.orbit.refNs } := by
  have hone : beginRestores s = beginRestore s m := by
    unfold beginRestores
    rw [h]
    rfl
  rw [hone]
  unfold beginRestore
  dsimp only
  rw [getMoon_sole h]
  refine if_pos ?_
  rw [h]
  simp [hoctets, hnext, hstate]

theorem tickPool_sole (h : s.moons = [(m, x)]) (hpool : x.pool = true) (hstate : x.state = .waiting) (hoctets : x.octets = []) (hnext : x.nextOctets = [])
    (hswap : x.swap = .none) (hrun : runnableNow s m = true) (hone : 1 ≤ x.poolCount) (hfit : x.poolCount ≤ (bitsOf (param s 0x6005 0) 64).length) :
    ∃ y : Moon, (tickPool s).moons = [(m, y)] ∧ y.octets = (bitsOf (param s 0x6005 0) 64).take x.poolCount ∧ y.swap = .restoring := by
  have hin : inTick x = true := by simp [inTick, hpool, hstate]
  obtain ⟨v, hnote⟩ := noteAll_sole h hpool hin hrun
  let y : Moon := { x with runnable := true, vtime := v }
  let u := settlePool (noteAll s)
  have hnoted : (noteAll s).moons = [(m, y)] := by
    rw [hnote]
    exact setMoon_sole h y
  have hset : u = { noteAll s with cores := { (noteAll s).cores with poolNow := param s 0x6005 0 } } :=
    (settlePool_sole hnoted hoctets hnext).trans (by rw [hnote]; rfl)
  have hu : u.moons = [(m, y)] := by
    rw [hset]
    exact hnoted
  have hpoolNow : poolOctets u = bitsOf (param s 0x6005 0) 64 := by
    rw [hset]
    rfl
  have hyin : inTick y = true := hin
  have hresident : resident y = false := not_resident hoctets
  have hsel : selectMoons (bitsOf (param s 0x6005 0) 64).length false [(m, y)] = [m] := by
    have hle : y.poolCount ≤ (bitsOf (param s 0x6005 0) 64).length := hfit
    simp [selectMoons, hle]
  let w := setMoon u m { y with nextOctets := (bitsOf (param s 0x6005 0) 64).take y.poolCount }
  have htick : tickPool s = beginRestores w := by
    have hvictims : ((u.moons.filter fun e => inTick e.2 && resident e.2 && !kept u e.2 && !List.contains [m] e.1).map Prod.fst) = [] := by
      rw [hu]
      simp [hresident]
    show beginRestores (assignOctets (((u.moons.filter fun e => inTick e.2 && resident e.2 && !kept u e.2 &&
        !(selectMoons ((poolOctets u).filter fun k => !(takenOctets u []).contains k).length false (tickOrder u)).contains e.1).map Prod.fst).foldl beginSpill u)
      ((poolOctets u).filter fun k => !(takenOctets u (selectMoons ((poolOctets u).filter fun k => !(takenOctets u []).contains k).length false
        (tickOrder u))).contains k)
      (((tickOrder u).map Prod.fst).filter fun m => (selectMoons ((poolOctets u).filter fun k => !(takenOctets u []).contains k).length false
        (tickOrder u)).contains m)) = _
    rw [tickOrder_sole hu hyin (not_kept hoctets hnext hswap) rfl, takenOctets_sole hu hoctets hnext, takenOctets_sole hu hoctets hnext, hpoolNow]
    simp only [List.contains_nil, Bool.not_false, List.filter_eq_self.mpr fun _ _ => rfl, hsel, hvictims, List.foldl_nil, List.map_cons, List.map_nil]
    rw [show ([m] : List Nat).filter (fun k => List.contains [m] k) = [m] by simp]
    exact congrArg beginRestores (assignOctets_sole hu hresident _)
  have hw : w.moons = [(m, { y with nextOctets := (bitsOf (param s 0x6005 0) 64).take y.poolCount })] := setMoon_sole hu _
  have hnonempty : (bitsOf (param s 0x6005 0) 64).take y.poolCount ≠ [] := by
    have hlen : ((bitsOf (param s 0x6005 0) 64).take y.poolCount).length = x.poolCount := by
      rw [List.length_take]
      exact Nat.min_eq_left hfit
    intro hnil
    rw [hnil] at hlen
    simp at hlen
    omega
  refine ⟨{ y with octets := (bitsOf (param s 0x6005 0) 64).take y.poolCount, nextOctets := [], swap := .restoring, swapAt := w.orbit.refNs }, ?_, rfl, rfl⟩
  rw [htick, beginRestores_sole hw hoctets hnonempty hstate]
  exact setMoon_sole hw _

end tick

theorem exec_schedTick {s : State} {m : Nat} {x : Moon} (hup : isUp s = true) (hdue : tickDue s = true) (h : s.moons = [(m, x)]) (hpool : x.pool = true)
    (hstate : x.state = .waiting) (hoctets : x.octets = []) (hnext : x.nextOctets = []) (hswap : x.swap = .none) (hrun : runnableNow s m = true)
    (hone : 1 ≤ x.poolCount) (hfit : x.poolCount ≤ (bitsOf (param s 0x6005 0) 64).length) :
    ∃ t, exec .schedTick s = .next t ∧ (getMoon t m).octets = (bitsOf (param s 0x6005 0) 64).take x.poolCount ∧ (getMoon t m).swap = .restoring := by
  let u := takeShares { s with tasks := { s.tasks with tickAt := some s.orbit.refNs } }
  obtain ⟨y, hmoons, hplace, hrestoring⟩ := tickPool_sole (s := u) (m := m) (x := x) h hpool hstate hoctets hnext hswap hrun hone hfit
  have hmoon : getMoon (tickPool u) m = y := getMoon_sole hmoons
  have htick : schedTick s = tickPool u := by
    show ((tickPool u).moons.map Prod.fst).foldl tickMoon (tickPool u) = _
    rw [hmoons]
    have hstops : moonRuns (tickPool u) m = false := by simp [moonRuns, hmoon, hrestoring]
    simp [tickMoon, hstops]
  refine ⟨schedTick s, ?_, ?_⟩
  · show execSchedTick s = _
    unfold execSchedTick
    exact if_pos (by simp [hup, hdue])
  · rw [htick, hmoon]
    exact ⟨hplace, hrestoring⟩

/-! ## PREEMPTION_BOUNDARY (R104, R235) -/

/-- Every task under a task's key is marked as pre-empted, and there is one. -/
def Preempted (u : Machine.Task) (s : State) : Prop :=
  (∃ v ∈ s.tasks.tasks, SameKey u v) ∧ ∀ v ∈ s.tasks.tasks, SameKey u v → v.preempted = true

theorem mem_putTask {s : State} {t v : Machine.Task} (h : v ∈ (putTask s t).tasks.tasks) : v = t ∨ (v ∈ s.tasks.tasks ∧ ¬ SameKey t v) := by
  obtain ⟨a, ha, rfl⟩ := List.mem_map.mp h
  by_cases hkey : (a.moon == t.moon && a.ring == t.ring && a.seq == t.seq) = true
  · exact .inl (if_pos hkey)
  · refine .inr ?_
    rw [if_neg hkey]
    exact ⟨ha, fun hk => hkey (by obtain ⟨hm, hr, hq⟩ := hk; simp [hm, hr, hq])⟩

theorem hasKey_putTask {s : State} {u : Machine.Task} (t : Machine.Task) (h : ∃ v ∈ s.tasks.tasks, SameKey u v) :
    ∃ v ∈ (putTask s t).tasks.tasks, SameKey u v := by
  obtain ⟨v, hv, hkey⟩ := h
  refine ⟨_, List.mem_map_of_mem hv, ?_⟩
  split
  · rename_i hsame
    simp only [Bool.and_eq_true, beq_iff_eq] at hsame
    obtain ⟨⟨hm, hr⟩, hq⟩ := hsame
    exact ⟨hm.symm.trans hkey.1, hr.symm.trans hkey.2.1, hq.symm.trans hkey.2.2⟩
  · exact hkey

/-- Putting a task keeps the mark when the task put under the key carries it. -/
theorem preempted_putTask {s : State} {u t : Machine.Task} (hexists : ∃ v ∈ s.tasks.tasks, SameKey u v)
    (hmarked : SameKey u t → t.preempted = true) (hothers : SameKey u t ∨ Preempted u s) : Preempted u (putTask s t) := by
  refine ⟨hasKey_putTask t hexists, fun v hv hkey => ?_⟩
  rcases mem_putTask hv with rfl | ⟨hin, hne⟩
  · exact hmarked hkey
  · rcases hothers with hsame | hall
    · exact absurd ⟨hkey.1.trans hsame.1.symm, hkey.2.1.trans hsame.2.1.symm, hkey.2.2.trans hsame.2.2.symm⟩ hne
    · exact hall.2 v hin hkey

theorem Preempted.of_tasks {u : Machine.Task} {s t : State} (h : Preempted u s) (heq : t.tasks.tasks = s.tasks.tasks) : Preempted u t := by
  unfold Preempted
  rw [heq]
  exact h

theorem preempted_offerCore {u : Machine.Task} {s : State} (m k j : Nat) (h : Preempted u s) : Preempted u (offerCore s m k j) := by
  unfold offerCore
  split
  · split
    · rename_i c hbest
      split
      · rename_i hrun
        obtain ⟨v, htook, htasks, _⟩ := takeCore_tasks s c.task j
        refine Preempted.of_tasks ?_ (htasks (by simpa using hrun))
        obtain ⟨⟨a, b, d, n, rfl⟩, _⟩ := htook
        exact preempted_putTask h.1 (fun hkey => h.2 c.task (bestClaim_mem hbest) hkey) (.inr h)
      · exact h
    · exact h
  · exact h

theorem preempted_offerCores {u : Machine.Task} {s : State} (m k : Nat) (h : Preempted u s) : Preempted u (offerCores s m k) := by
  have hfold : ∀ (l : List Nat) (v : State), Preempted u v → Preempted u (l.foldl (fun s j => offerCore s m k j) v) := by
    intro l
    induction l with
    | nil => exact fun v hv => hv
    | cons j l ih => exact fun v hv => ih _ (preempted_offerCore m k j hv)
  exact hfold _ s h

/-- A task with its unit on core `j` suspended, the `n`-th suspension (R232, R235). -/
def unitSuspended (t : Machine.Task) (j : Nat) (w : WorkUnit) (n : Nat) : Machine.Task :=
  { t with cores := delNum t.cores j, preempted := true
           work := t.work.map fun x => if x.core == j then { w with susp := true, order := n } else x }

/-- A suspended unit is put back under its task's key, which is marked. -/
theorem suspendUnit_tasks (s : State) (t : Machine.Task) (j : Nat) (w : WorkUnit) :
    (suspendUnit s t j w).tasks.tasks = (putTask s (unitSuspended t j w (s.tasks.suspNo + 1))).tasks.tasks := by
  have hwrite : (writeBack (cometPause s t.moon t.ring t.seq) t.moon t.ring t.seq).tasks = s.tasks :=
    (writeBack_tasks _ _ _ _).trans (tasks_of_frame fr_cometPause rfl)
  unfold suspendUnit
  simp only [putTask, unitSuspended, incB_tasks, hwrite] <;> rfl

theorem preempted_suspendUnit {u : Machine.Task} {s : State} (t : Machine.Task) (j : Nat) (w : WorkUnit) (hexists : ∃ v ∈ s.tasks.tasks, SameKey u v) :
    (∃ v ∈ (suspendUnit s t j w).tasks.tasks, SameKey u v) ∧ (SameKey u t ∨ Preempted u s → Preempted u (suspendUnit s t j w)) := by
  have htasks := suspendUnit_tasks s t j w
  rw [htasks]
  exact ⟨hasKey_putTask _ hexists, fun hor => Preempted.of_tasks (preempted_putTask (t := unitSuspended t j w (s.tasks.suspNo + 1)) hexists (fun _ => rfl) hor) htasks⟩

/-- A boundary keeps every mark, and marks the task that it suspends there. -/
theorem preempted_suspendAt {u : Machine.Task} {s : State} (t : Machine.Task) (j : Nat) (hexists : ∃ v ∈ s.tasks.tasks, SameKey u v) :
    (∃ v ∈ (suspendAt s t j).tasks.tasks, SameKey u v) ∧ (Preempted u s → Preempted u (suspendAt s t j)) := by
  unfold suspendAt
  split
  · rename_i w c hw hc
    split
    · split
      · rename_i v w' n hstop
        have htasks : (countPass v (c / 128) n ⟨0, 0, 0⟩).tasks = s.tasks :=
          (tasks_of_frame fr_countPass rfl).trans (tasks_of_frame (fr_stopPass _ hstop) rfl)
        obtain ⟨hkey, hmark⟩ := preempted_suspendUnit (s := countPass v (c / 128) n ⟨0, 0, 0⟩) (u := u) t j w' (by rw [htasks]; exact hexists)
        exact ⟨hkey, fun h => hmark (.inr (h.of_tasks (congrArg TaskUnit.tasks htasks)))⟩
      · exact ⟨hexists, id⟩
    · obtain ⟨hkey, hmark⟩ := preempted_suspendUnit (u := u) t j w hexists
      exact ⟨hkey, fun h => hmark (.inr h)⟩
  · exact ⟨hexists, id⟩

theorem preempted_suspendAt_unit {u : Machine.Task} {s : State} {j core : Nat} {w : WorkUnit} (hexists : ∃ v ∈ s.tasks.tasks, SameKey u v)
    (hw : u.work.find? (fun w => w.core == j && !w.susp) = some w) (hcore : moonCore s u.moon j = some core)
    (hstop : u.desc.kind = 1 → stopPass s u core w ≠ none) : Preempted u (suspendAt s u j) := by
  unfold suspendAt
  rw [hw, hcore]
  dsimp only
  split
  · rename_i hkind
    split
    · rename_i v w' n hpass
      have htasks : (countPass v (core / 128) n ⟨0, 0, 0⟩).tasks = s.tasks :=
        (tasks_of_frame fr_countPass rfl).trans (tasks_of_frame (fr_stopPass _ hpass) rfl)
      exact (preempted_suspendUnit (s := countPass v (core / 128) n ⟨0, 0, 0⟩) u j w' (by rw [htasks]; exact hexists)).2 (.inl ⟨rfl, rfl, rfl⟩)
    · rename_i hnone
      exact absurd hnone (hstop hkind)
  · exact (preempted_suspendUnit u j w hexists).2 (.inl ⟨rfl, rfl, rfl⟩)

theorem moonCore_suspendAt (s : State) (t : Machine.Task) (j m k : Nat) : moonCore (suspendAt s t j) m k = moonCore s m k := by
  unfold moonCore moonCores
  rw [getMoon_of_moons (moons_of_frame fr_suspendAt rfl)]

/-- After the work of a core has been suspended, every task of the list that is no GEMM is marked. -/
theorem preempted_suspendAll {u : Machine.Task} {w : WorkUnit} {j core : Nat} (hw : u.work.find? (fun w => w.core == j && !w.susp) = some w)
    (hkind : u.desc.kind ≠ 1) (l : List Machine.Task) : ∀ s : State, (∃ v ∈ s.tasks.tasks, SameKey u v) → moonCore s u.moon j = some core →
    (u ∈ l ∨ Preempted u s) → Preempted u (l.foldl (fun s t => suspendAt s t j) s) := by
  induction l with
  | nil => exact fun s _ _ h => h.resolve_left (List.not_mem_nil)
  | cons t l ih =>
    intro s hexists hcore hor
    obtain ⟨hkey, hmark⟩ := preempted_suspendAt t j hexists
    refine ih _ hkey ((moonCore_suspendAt s t j _ _).trans hcore) ?_
    rcases hor with hin | hpre
    · rcases List.mem_cons.mp hin with rfl | hin
      · exact .inr (preempted_suspendAt_unit hexists hw hcore fun h => absurd h hkind)
      · exact .inl hin
    · exact .inr (hmark hpre)

theorem mem_boundaryTasks {s : State} {m j : Nat} {u : Machine.Task} (h : u ∈ boundaryTasks s m j) :
    u ∈ s.tasks.tasks ∧ u.moon = m ∧ ∃ w, u.work.find? (fun w => w.core == j && !w.susp) = some w := by
  obtain ⟨hin, hp⟩ := List.mem_filter.mp h
  simp only [Bool.and_eq_true, beq_iff_eq, List.any_eq_true] at hp
  obtain ⟨⟨⟨⟨hm, _⟩, w, hw, hcore⟩, _⟩, _⟩ := hp
  refine ⟨hin, hm, ?_⟩
  rw [← Option.isSome_iff_exists, List.find?_isSome]
  exact ⟨w, hw, by simpa using hcore⟩

/-- The state after the work at a boundary has been suspended. -/
def boundarySuspended (s : State) (m j : Nat) : State := (boundaryTasks s m j).foldl (fun s t => suspendAt s t j) s

theorem exec_preemptionBoundary {s : State} {m j : Nat} (hup : isUp s = true) (hne : boundaryTasks s m j ≠ []) :
    ∃ t, exec (.preemptionBoundary m j) s = .next t ∧ ∀ u, Preempted u (boundarySuspended s m j) → Preempted u t := by
  let v := modMoon (boundarySuspended s m j) m fun x => { x with marks := x.marks.filter fun k => k % 1024 != j }
  refine ⟨if (getMoon s m).swap == .spilling then v else offerCores (offerCores v m 1) m 2, ?_, fun u hu => ?_⟩
  · show execPreemptionBoundary m j s = _
    unfold execPreemptionBoundary
    dsimp only
    rw [if_neg (by simp [hup, hne]), apply_ite Host.Outcome.next]
    rfl
  · have hv : Preempted u v := hu.of_tasks rfl
    split
    · exact hv
    · exact preempted_offerCores m 2 (preempted_offerCores m 1 hv)

theorem Preempted.exists {u : Machine.Task} {s : State} (h : Preempted u s) :
    ∃ v ∈ s.tasks.tasks, v.moon = u.moon ∧ v.ring = u.ring ∧ v.seq = u.seq ∧ v.preempted = true := by
  obtain ⟨⟨v, hv, hkey⟩, hall⟩ := h
  exact ⟨v, hv, hkey.1, hkey.2.1, hkey.2.2, hall v hv hkey⟩

/-- Settles O27. -/
theorem poolMoonsSpillAndRestore : Obligations.PoolMoonsSpillAndRestore := by
  unfold Obligations.PoolMoonsSpillAndRestore
  refine ⟨?_, ?_, ?_, ?_, ?_, ?_, ?_⟩
  · intro s m x hup hdue hmoons hpool hstate hoctets hnext hswap hrun hone hfit
    exact exec_schedTick hup hdue hmoons hpool hstate hoctets hnext hswap hrun hone hfit
  · intro s m j hup hne hcore
    obtain ⟨t, hexec, hkeeps⟩ := exec_preemptionBoundary hup hne
    refine ⟨t, hexec, fun u hu hkind => (hkeeps u ?_).exists⟩
    obtain ⟨hin, rfl, w, hw⟩ := mem_boundaryTasks hu
    obtain ⟨core, hcore⟩ := Option.isSome_iff_exists.mp hcore
    exact preempted_suspendAll hw hkind _ s ⟨u, hin, rfl, rfl, rfl⟩ hcore (.inl hu)
  · intro s m j core u w hup hone hkind hw hcore hstop
    have hu : u ∈ boundaryTasks s m j := by simp [hone]
    obtain ⟨t, hexec, hkeeps⟩ := exec_preemptionBoundary hup (List.ne_nil_of_mem hu)
    obtain ⟨hin, rfl, _⟩ := mem_boundaryTasks hu
    refine ⟨t, hexec, (hkeeps u ?_).exists⟩
    unfold boundarySuspended
    rw [hone]
    exact preempted_suspendAt_unit ⟨u, hin, rfl, rfl, rfl⟩ hw hcore fun _ => hstop
  · intro s m hup hswap hready hnext
    exact exec_spillDone hup hswap hready hnext
  · intro s m hup hswap
    obtain ⟨t, hexec, hspilled, hnone, hstate⟩ := exec_restoreDone hup hswap
    refine ⟨t, hexec, hspilled, hnone, fun h => hstate.trans (if_pos h), fun hw hs => hstate.trans (if_neg ?_)⟩
    exact fun h => h.elim hw hs
  · intro s m v hup hswap hmoves hgo
    exact exec_octetMoved hup hswap hmoves hgo
  · intro s m j hup hjob hstate hswap hmoves hboundary hpool hspilled hcheck
    obtain ⟨v, hmoon⟩ := finishResize_applied hcheck
    obtain ⟨im, marks, save, blocks, happlied⟩ := getMoon_applyResize_dedicated (resizePlan (getMoon s m) j.cmd) hpool
    have hdue : resizeDue s m = true := by simp [resizeDue, hstate, hswap, hmoves, hboundary]
    rw [happlied] at hmoon
    refine ⟨_, exec_resizeStepBoundary hup hjob hdue, ?_, ?_, ?_, ?_⟩
    · rw [hmoon]
      exact if_neg (by simp [hspilled])
    · rw [hmoon]
    · rw [hmoon]
    · rw [hmoon]

end Sys2Proof.Proofs
end

section
/-! The handshake of a live migration and its time limits (R203, R245, R247, R299). -/

set_option Elab.async false

namespace Sys2Proof.Proofs

open Sys2Proof.Machine Sys2Proof.Laws

/-! ## What a link is offered is only added to the output -/

section Offered

variable {l : List Out} {s : State} (h : l <:+ s.out)
include h

theorem suffix_out_sendFlit (p type : Nat) (f : Flit) : l <:+ (sendFlit s p type f).out := by
  unfold sendFlit
  dsimp only
  split
  · exact h.trans (List.suffix_cons _ _)
  · exact h

theorem suffix_out_sendSpent (p type : Nat) (f : Flit) : l <:+ (sendSpent s p type f).out := by
  unfold sendSpent
  apply suffix_out_sendFlit
  split
  · exact h
  · exact h

theorem suffix_out_enqueue (p : Nat) (o : OutFlit) : l <:+ (enqueue s p o).out := by
  unfold enqueue
  dsimp only
  split
  · exact h
  · exact h

theorem suffix_out_offer (p type : Nat) (f : Flit) : l <:+ (offer s p type f).out := by
  unfold offer
  split
  · exact suffix_out_sendSpent h _ _ _
  · exact suffix_out_enqueue h _ _

theorem suffix_out_offerCtl (p fabric : Nat) : l <:+ (offerCtl s p fabric).out := by
  unfold offerCtl
  split
  · exact suffix_out_offer h _ _ _
  · exact h

end Offered

theorem handshake_sent (s : State) (m : Nat) (k : CtlKind) (args : List Nat) : ∃ p q, Out.migrate m p q k args ∈ (handshake s m k args).out := by
  unfold handshake
  exact ⟨_, _, (suffix_out_offerCtl (List.suffix_refl _) _ _).subset (List.mem_cons_self ..)⟩

/-! ## The source before M7 (R245) -/

theorem sendPages_moons (s : State) (m : Nat) : (sendPages s m).moons = s.moons := moons_of_frame fr_sendPages rfl

theorem getMoon_sendMigState (s : State) (m : Nat) : ∃ n, getMoon (sendMigState s m) m = { getMoon s m with mig := .stateSent, heldSent := n } := by
  have hwait : (endWait s m).moons = s.moons := moons_of_frame fr_endWait rfl
  have hsent : getMoon (dropPrecopy (modMoon (endWait s m) m fun x => { x with mig := .stateSent, heldSent := x.held.length }) m) m =
      { getMoon s m with mig := .stateSent, heldSent := (getMoon s m).held.length } :=
    (getMoon_of_moons (moons_of_frame fr_dropPrecopy rfl) m).trans (getMoon_modMoon_of m _ hwait)
  refine ⟨(getMoon s m).held.length, ?_⟩
  unfold sendMigState
  dsimp only
  split
  · exact hsent
  · rw [getMoon_of_moons (emit_moons _ _), getMoon_of_moons (moons_of_frame fr_openOwn rfl), getMoon_of_moons (moons_of_frame fr_openOwn rfl)]
    exact hsent

/-- The handover marks its moon, or has sent its state at once (M4, M5). -/
theorem handover_mig (s : State) (m : Nat) : (getMoon (handover s m) m).mig = .handover ∨ (getMoon (handover s m) m).mig = .stateSent := by
  have hmarked : ∀ u : State, (getMoon (modMoon u m fun x => { x with mig := .handover, migAt := migDeadline u }) m).mig = .handover := fun u => by
    rw [getMoon_modMoon]
  unfold handover
  dsimp only
  split
  · exact .inl (hmarked _)
  · split
    · right
      generalize (modMoon _ m fun x => { x with mig := .handover, migAt := _ }) = u
      obtain ⟨n, h⟩ := getMoon_sendMigState u m
      rw [h]
    · left
      rw [getMoon_beginSpill]
      exact hmarked _

/-! ## M6 to M9 -/

theorem closeSpan_closed (s : State) (m flags endOrbit : Nat) : (getMoon (closeSpan s m flags endOrbit) m).ledger.spanOpen = false := by
  unfold closeSpan
  dsimp only
  split
  · rename_i h
    simpa using h
  · rw [getMoon_of_moons (jAppend_moons _ _)]
    simp only [getMoon_of_moons (incA_moons _ _ _ _), getMoon_setMoon]

/-- The source as M7 finds it, with late arrivals refused (R371). -/
def lateRefused (s : State) (m : Nat) : State := refuseLate (dropPrecopy (handshake s m .go []) m) m

/-- The moon's span ends at M7 (R250). -/
def spanEnded (s : State) (m : Nat) : State := closeSpan (lateRefused s m) m 4 (lateRefused s m).orbit.now

/-- The source after M7. -/
def movedOut (s : State) (m : Nat) : State :=
  let s := modLedger (spanEnded s m) m fun l => { l with startOrbit := (spanEnded s m).orbit.now }
  modMoon s m fun x => { x with state := .moved, mig := .awaitRunning, migAt := migDeadline s }

theorem movedOut_mig (s : State) (m : Nat) : (getMoon (movedOut s m) m).state = .moved ∧ (getMoon (movedOut s m) m).mig = .awaitRunning ∧
    (getMoon (movedOut s m) m).ledger.spanOpen = false := by
  have hended : (getMoon (spanEnded s m) m).ledger.spanOpen = false := by
    unfold spanEnded
    exact closeSpan_closed _ _ _ _
  generalize hu : spanEnded s m = u at hended
  unfold movedOut
  rw [hu]
  dsimp only
  rw [getMoon_modMoon, getMoon_modLedger]
  exact ⟨rfl, rfl, hended⟩

theorem getMoon_completeM8 (s : State) (m : Nat) : (getMoon (completeM8 s m) m).state = readyState (getMoon s m) ∧
    (getMoon (completeM8 s m) m).mig = .none := by
  let u := if (getMoon s m).pool then s else restoreMoon s m
  have hpool : (getMoon u m).pool = (getMoon s m).pool := by
    show (getMoon (if _ then _ else _) m).pool = _
    split
    · rfl
    · obtain ⟨h, p, l, hrestore⟩ := getMoon_restoreMoon s m
      rw [hrestore]
  have hready : readyState (getMoon u m) = readyState (getMoon s m) := by
    unfold readyState
    rw [hpool]
  let v := modMoon u m fun x => { x with state := readyState x, mig := .none, migCmd := none }
  obtain ⟨f, hopen⟩ := getMoon_openSpan v m 8
  have hmoon : getMoon (completeM8 s m) m = getMoon (openSpan v m 8) m := getMoon_offerBoth _ _ _
  have hv : getMoon v m = _ := getMoon_modMoon _ _ _
  rw [hmoon, hopen, hv]
  exact ⟨hready, rfl⟩

/-! ## Abort before M7 (R229, R247) -/

/-- A dedicated moon goes on in its previous state when its migration is aborted. -/
theorem getMoon_abortMigration {s : State} {m : Nat} (hpool : (getMoon s m).pool = false) :
    (getMoon (abortMigration s m) m).state = (getMoon s m).prev ∧ (getMoon (abortMigration s m) m).mig = .none ∧
    (getMoon (abortMigration s m) m).migCmd = none := by
  have hdrop : (dropPrecopy (handshake s m .abort []) m).moons = s.moons :=
    (moons_of_frame fr_dropPrecopy rfl).trans (moons_of_frame fr_handshake rfl)
  let u := modMoon (dropPrecopy (handshake s m .abort []) m) m fun x => { x with state := x.prev, mig := .none, migCmd := none, heldSent := 0 }
  have hu : getMoon u m = { getMoon s m with state := (getMoon s m).prev, mig := .none, migCmd := none, heldSent := 0 } := getMoon_modMoon_of m _ hdrop
  have habort : abortMigration s m = if (getMoon u m).state = .active then offerCores (offerCores (restoreMoon u m) m 1) m 2 else u := by
    unfold abortMigration
    dsimp only
    refine ite_congr rfl (fun _ => congrArg (fun v => offerCores (offerCores v m 1) m 2) (if_pos ?_)) fun _ => rfl
    show (!(getMoon u m).pool) = true
    rw [hu]
    simp [hpool]
  obtain ⟨h, p, l, hrestore⟩ := getMoon_restoreMoon u m
  rw [habort]
  split
  · rw [getMoon_offerBoth, hrestore, hu]
    exact ⟨rfl, rfl, rfl⟩
  · rw [hu]
    exact ⟨rfl, rfl, rfl⟩

/-! ## The rows -/

theorem exec_goReceived {s : State} {m : Nat} (hup : isUp s = true) (hstate : (getMoon s m).state = .arriving)
    (hmig : (getMoon s m).mig = .installed ∨ (getMoon s m).mig = .uncertain) :
    exec (.goReceived m) s = .next (completeM8 (handshake s m .running []) m) := by
  show execGoReceived m s = _
  unfold execGoReceived
  exact if_pos (by rcases hmig with h | h <;> simp [hup, hstate, h])

/-- Settles O29. -/
theorem migrationHandshakesAndTimesOut : Obligations.MigrationHandshakesAndTimesOut := by
  unfold Obligations.MigrationHandshakesAndTimesOut
  refine ⟨⟨?_, ?_, ?_, ?_, ?_, ?_, ?_, ?_⟩, ⟨?_, ?_, ?_⟩⟩
  · intro s m hup hstate hmig
    refine ⟨fun quota hquota => ?_, fun matching quota hno => ?_⟩
    · refine ⟨sendPages (setMoon s m { getMoon s m with mig := .precopy }) m, ?_, ?_, ?_⟩
      · show execMigratePeerConfirm m ⟨true, quota⟩ s = _
        unfold execMigratePeerConfirm
        exact (if_neg (by simp [hup, hstate, hmig])).trans (if_pos (by simp [hquota]))
      · rw [getMoon_of_moons (sendPages_moons _ _), getMoon_setMoon]
      · exact Fr.only (k := 2 ^ 6 + 2 ^ 10) (Fr.call fr_sendPages rfl (fr_setMoon.up rfl)) rfl
    · obtain ⟨v, hend⟩ := getMoon_endJob (setMoon s m { getMoon s m with state := (getMoon s m).prev, migCmd := none }) m 0xC
      refine ⟨endJob (setMoon s m { getMoon s m with state := (getMoon s m).prev, migCmd := none }) m 0xC, ?_, ?_⟩
      · show execMigratePeerConfirm m ⟨matching, quota⟩ s = _
        unfold execMigratePeerConfirm
        refine (if_neg (by simp [hup, hstate, hmig])).trans (if_neg ?_)
        simp only [Bool.and_eq_true, decide_eq_true_eq, not_and]
        intro hm
        exact Nat.not_le.mpr (hno.resolve_left (by simp [hm]))
      · rw [hend, getMoon_setMoon]
        exact ⟨rfl, rfl⟩
  · intro s m hup hstate hmig hround hwhen
    refine ⟨handover s m, ?_, handover_mig s m⟩
    show execPrecopyDone m s = _
    unfold execPrecopyDone
    refine (if_pos (by simp [hup, hstate, hmig, hround])).trans ?_
    rw [hwhen]
    rfl
  · intro s m c hup hstate hmig hcmd hen hlocked hdue hfirst
    refine ⟨handover s m, ?_, handover_mig s m⟩
    show execMigrationHandover m s = _
    unfold execMigrationHandover
    exact if_pos (by simp [hup, hstate, hmig, migWhen, hcmd, hen, hlocked, hdue, hfirst])
  · intro s m g hup hstate hmig
    obtain ⟨p, q, hsent⟩ := handshake_sent (installMig s m g) m .ready []
    refine ⟨handshake (installMig s m g) m .ready [], ?_, ?_⟩
    · show execMigrateStateReceived m g s = _
      unfold execMigrateStateReceived
      exact if_pos (by simp [hup, hstate, hmig])
    · rw [getMoon_of_moons (moons_of_frame fr_handshake rfl)]
      unfold installMig
      rw [getMoon_modMoon]
      exact ⟨rfl, rfl, rfl, p, q, hsent⟩
  · intro s m hup hstate hmig
    refine ⟨movedOut s m, ?_, movedOut_mig s m⟩
    show execReadyReceived m s = _
    unfold execReadyReceived movedOut spanEnded lateRefused
    exact if_pos (by simp [hup, hstate, hmig])
  · intro s m hup hstate hmig
    obtain ⟨hready, hnone⟩ := getMoon_completeM8 (handshake s m .running []) m
    rw [getMoon_of_moons (moons_of_frame fr_handshake rfl)] at hready
    exact ⟨_, exec_goReceived hup hstate hmig, hready, hnone⟩
  · intro s m hup hstate
    obtain ⟨j, v, l, hfree⟩ := getMoon_freeMoon s m
    obtain ⟨v', hend⟩ := getMoon_endJob (freeMoon s m) m 0
    refine ⟨endJob (freeMoon s m) m 0, ?_, ?_⟩
    · show execRunningReceived m s = _
      unfold execRunningReceived
      exact if_pos (by simp [hup, hstate])
    · rw [hend, hfree]
      exact ⟨rfl, rfl⟩
  · intro s m hup hstate
    obtain ⟨j, v, l, hfree⟩ := getMoon_freeMoon s m
    refine ⟨freeMoon s m, ?_, ?_⟩
    · show execAbortReceived m s = _
      unfold execAbortReceived
      exact if_pos (by simp [hup, hstate])
    · rw [hfree]
      rfl
  · intro s m hup hstate hmig hat hpool
    obtain ⟨hprev, hnone, hcmd⟩ := getMoon_abortMigration hpool
    obtain ⟨v, hend⟩ := getMoon_endJob (abortMigration s m) m 0xD
    refine ⟨endJob (abortMigration s m) m 0xD, ?_, ?_⟩
    · show execMigrateReadyTimeout m s = _
      unfold execMigrateReadyTimeout
      exact if_pos (by rcases hmig with h | h <;> simp [hup, hstate, h, hat])
    · rw [hend]
      exact ⟨hprev, hnone, hcmd, rfl⟩
  · intro s m hup hstate hmig hat
    obtain ⟨v, hend⟩ := getMoon_endJob (raiseTo (setMoon s m { getMoon s m with mig := .uncertain }) 0 0x0606 m []) m 0xF
    refine ⟨endJob (raiseTo (setMoon s m { getMoon s m with mig := .uncertain }) 0 0x0606 m []) m 0xF, ?_, ?_⟩
    · show execMigrateRunningTimeout m s = _
      unfold execMigrateRunningTimeout
      exact if_pos (by simp [hup, hstate, hmig, hat])
    · rw [hend, getMoon_of_moons (raiseTo_moons _ _ _ _ _), getMoon_setMoon]
      exact ⟨hstate, rfl, rfl⟩
  · intro s m hup hstate hmig hat
    refine ⟨raiseTo (setMoon s m { getMoon s m with mig := .uncertain }) 0 0x0606 m [], ?_, ?_⟩
    · show execMigrateGoTimeout m s = _
      unfold execMigrateGoTimeout
      exact if_pos (by simp [hup, hstate, hmig, hat])
    · rw [getMoon_of_moons (raiseTo_moons _ _ _ _ _), getMoon_setMoon]
      exact ⟨hstate, rfl⟩

end Sys2Proof.Proofs
end

section
/-! Serving: the context, swaps, unloading and retirement (R203, R259, R289 to R292). -/

set_option Elab.async false

namespace Sys2Proof.Proofs

open Sys2Proof.Machine Sys2Proof.Laws

/-! ## Slots -/

@[simp] theorem getSlot_setSlot (s : State) (m k : Nat) (x : Slot) : getSlot (setSlot s m k x) m k = x := by
  unfold getSlot setSlot modServe
  rw [getServe_setServe]
  exact tget_tset_same _ _ _ _

theorem getServe_of_serve {s t : State} (h : t.serve = s.serve) (m : Nat) : getServe t m = getServe s m := by
  unfold getServe
  rw [h]

theorem getSlot_of_serve {s t : State} (h : t.serve = s.serve) (m k : Nat) : getSlot t m k = getSlot s m k := by
  unfold getSlot
  rw [getServe_of_serve h]

theorem getSlot_answer (s : State) (c m k : Nat) : getSlot (answer s c) m k = getSlot s m k := getSlot_of_serve (answer_serve _ _) m k

/-! ## What each write does -/

/-- The context that a SERVE_CTX write finds (R259). -/
def ctxFound (s : State) (m a : Nat) : Option ServeCtx :=
  if !(a % 64 == 0 && decide (hbmRegion ≤ a) && decide (a + 128 ≤ hbmEnd)) then none
  else match readMa s m none a 128 with
    | .ok b => if ctxOk s m b then some (parseCtx b) else none
    | .error _ => none

theorem writeCtx_taken {s : State} {m : Nat} (a : Nat) (hseqs : (getServe s m).seqs = []) (hstep : stepStarted s m = false) :
    writeCtx m a s = .ok (setServe s m { getServe s m with ctxMa := a, ctx := ctxFound s m a, kvUsed := [], kvSp := [] }) := by
  unfold writeCtx
  exact if_neg (by simp [hseqs, hstep])

theorem writeCtx_refused {s : State} {m : Nat} (a : Nat) (h : (getServe s m).seqs ≠ [] ∨ stepStarted s m = true) : writeCtx m a s = .error 8 := by
  unfold writeCtx
  exact if_pos (by rcases h with h | h <;> simp [h])

theorem ctxFound_good {s : State} {m a : Nat} {b : Bytes} (halign : a % 64 = 0) (hlow : hbmRegion ≤ a) (hhigh : a + 128 ≤ hbmEnd)
    (hread : readMa s m none a 128 = .ok b) (hok : ctxOk s m b = true) : ctxFound s m a = some (parseCtx b) := by
  unfold ctxFound
  rw [if_neg (by simp [halign, hlow, hhigh]), hread]
  exact if_pos hok

/-- The swap that a SWAP keeps (R289). -/
def swapKept (s : State) (m k : Nat) (c : ModelCmd) : SwapJob :=
  { pinned := c.pinned, whenOrbit := if c.whenEn then some c.whenOrbit else none, armed := !c.whenEn, held := (getSlot s m k).admitsOff }

theorem swapCmd_kept {s : State} {m k : Nat} (c : ModelCmd) (hstaged : ((getSlot s m k).version .staged).isSome = true)
    (hfree : (getSlot s m k).swap = none) : swapCmd m k c s = .ok (setSlot s m k { getSlot s m k with swap := some (swapKept s m k c) }) := by
  obtain ⟨v, hv⟩ := Option.isSome_iff_exists.mp hstaged
  unfold swapCmd
  exact if_neg (by simp [hv, hfree])

theorem swapCmd_refused {s : State} {m k : Nat} (c : ModelCmd) (h : ((getSlot s m k).version .staged).isSome = false ∨ (getSlot s m k).swap ≠ none) :
    swapCmd m k c s = .error 7 := by
  unfold swapCmd
  refine if_pos ?_
  rcases h with h | h
  · rw [Option.isSome_eq_false_iff] at h
    simp [h]
  · simp [Option.isSome_iff_ne_none.mpr h]

/-- Retiring a variant, as a change of an entry of the slot's table (R292). -/
def retireEntry (n : Nat) (e : Nat × Variant) : Nat × Variant := if e.1 == n then (e.1, { e.2 with retired := true }) else e

theorem retireEntry_key (n : Nat) (e : Nat × Variant) : (retireEntry n e).1 = e.1 := by
  unfold retireEntry
  split <;> rfl

/-- Settles O31. -/
theorem servingCommandsAct : Obligations.ServingCommandsAct := by
  unfold Obligations.ServingCommandsAct
  refine ⟨?_, ?_, ?_, ?_, ?_, ?_⟩
  · intro s w m0 m a hm hw hseqs hstep
    subst hm
    have hexec : exec (.serveCtx w m0 a) s = _ := command_ok hw (writeCtx_taken a hseqs hstep)
    refine ⟨_, hexec, rfl, ?_, fun b halign hlow hhigh hread hok => ?_⟩
    · rw [getServe_of_serve (answer_serve _ _), getServe_setServe]
    · rw [getServe_of_serve (answer_serve _ _), getServe_setServe]
      exact ctxFound_good halign hlow hhigh hread hok
  · intro s w m0 m a hm hw h
    subst hm
    have hexec : exec (.serveCtx w m0 a) s = _ := command_error hw (writeCtx_refused a h)
    exact ⟨_, hexec, rfl, answer_serve _ _⟩
  · intro s w m0 m k c hm hw hstaged hfree
    subst hm
    have hexec : exec (.swap w m0 k c) s = _ := command_ok hw (swapCmd_kept c hstaged hfree)
    refine ⟨_, swapKept s (effMoon w m0) k c, hexec, rfl, ?_, rfl, rfl, fun hen => if_pos hen⟩
    rw [getSlot_answer, getSlot_setSlot]
  · intro s w m0 m k c hm hw h
    subst hm
    have hexec : exec (.swap w m0 k c) s = _ := command_error hw (swapCmd_refused c h)
    exact ⟨_, hexec, rfl, answer_serve _ _⟩
  · intro s w m0 m k c hm hw
    subst hm
    refine ⟨?_, ?_, ?_⟩
    · have hexec : exec (.cancelSwap w m0 k c) s = .next (answer (setSlot s (effMoon w m0) k { getSlot s (effMoon w m0) k with swap := none }) 0) :=
        command_ok (f := cancelSwapCmd (effMoon w m0) k c) hw rfl
      refine ⟨_, hexec, rfl, ?_⟩
      rw [getSlot_answer, getSlot_setSlot]
      exact ⟨rfl, rfl⟩
    · have hexec : exec (.unload w m0 k c) s = .next (answer (setSlot s (effMoon w m0) k { getSlot s (effMoon w m0) k with unload := true }) 0) :=
        command_ok (f := unloadCmd (effMoon w m0) k c) hw rfl
      refine ⟨_, hexec, rfl, ?_⟩
      rw [getSlot_answer, getSlot_setSlot]
      exact ⟨rfl, rfl⟩
    · have hexec : exec (.variantRetire w m0 k c) s = .next (answer (setSlot s (effMoon w m0) k
          { getSlot s (effMoon w m0) k with variants := (getSlot s (effMoon w m0) k).variants.map (retireEntry c.variant) }) 0) := command_ok (f := retireCmd (effMoon w m0) k c) hw rfl
      refine ⟨_, hexec, rfl, fun v hv => ?_, fun n hn => ?_⟩
      · rw [getSlot_answer, getSlot_setSlot, tfind_map _ _ (retireEntry_key _), hv]
        simp [retireEntry]
      · rw [getSlot_answer, getSlot_setSlot, tfind_map _ _ (retireEntry_key _)]
        simp [retireEntry, hn]
  · intro s m k n j hup hswap harmed hwhen hlocked hdue hspilled hfirst
    refine ⟨setSlot s m k { getSlot s m k with swap := some { j with armed := true } }, ?_, ?_, ?_⟩
    · show execSwapFire m k s = _
      unfold execSwapFire
      dsimp only
      rw [hswap]
      exact if_pos (by simp [hup, harmed, hwhen, hlocked, hdue, hspilled, hfirst])
    · rw [getSlot_setSlot]
    · exact Fr.only (k := 2 ^ 7) (fr_setSlot.up rfl) rfl

end Sys2Proof.Proofs
end

section
/-! What the boundary operations of serving leave of a slot: its step number, its running step, and the runs (R268, R272, R273, R284). -/

set_option Elab.async false

namespace Sys2Proof.Proofs

open Sys2Proof.Machine Sys2Proof.Laws

/-- Every slot of a moon keeps its step number and what runs there, and the moon keeps its runs. -/
structure SlotKept (m : Nat) (s t : State) : Prop where
  step : ∀ k, (getSlot t m k).step = (getSlot s m k).step
  running : ∀ k, (getSlot t m k).running = (getSlot s m k).running
  runs : (getServe t m).runs = (getServe s m).runs

namespace SlotKept

variable {m : Nat}

theorem refl (s : State) : SlotKept m s s := ⟨fun _ => rfl, fun _ => rfl, rfl⟩

theorem trans {s t u : State} (h : SlotKept m s t) (g : SlotKept m t u) : SlotKept m s u :=
  ⟨fun k => (g.step k).trans (h.step k), fun k => (g.running k).trans (h.running k), g.runs.trans h.runs⟩

theorem of_serve {s t : State} (h : t.serve = s.serve) : SlotKept m s t :=
  ⟨fun k => by rw [getSlot_of_serve h], fun k => by rw [getSlot_of_serve h], by rw [getServe_of_serve h]⟩

theorem foldl {α : Type} {f : State → α → State} (h : ∀ s a, SlotKept m s (f s a)) (l : List α) (s : State) : SlotKept m s (l.foldl f s) := by
  induction l generalizing s with
  | nil => exact refl s
  | cons a l ih => exact (h s a).trans (ih _)

theorem ite {s t u : State} {c : Prop} [Decidable c] (h : SlotKept m s t) (g : SlotKept m s u) : SlotKept m s (if c then t else u) := by
  split
  · exact h
  · exact g

/-- A change of a moon's serving that leaves its slots and runs. -/
theorem modServe (s : State) (f : Serve → Serve) (hslots : (f (getServe s m)).slots = (getServe s m).slots)
    (hruns : (f (getServe s m)).runs = (getServe s m).runs) : SlotKept m s (modServe s m f) := by
  have hserve : getServe (Machine.modServe s m f) m = f (getServe s m) := getServe_setServe _ _ _
  refine ⟨fun k => ?_, fun k => ?_, ?_⟩
  · unfold getSlot
    rw [hserve, hslots]
  · unfold getSlot
    rw [hserve, hslots]
  · rw [hserve, hruns]

/-- A slot set with its step number and its running step. -/
theorem setSlot (s : State) (k : Nat) (x : Slot) (hstep : x.step = (getSlot s m k).step) (hrunning : x.running = (getSlot s m k).running) :
    SlotKept m s (setSlot s m k x) := by
  have hserve : getServe (Machine.setSlot s m k x) m = { getServe s m with slots := tset (getServe s m).slots k x } := getServe_setServe _ _ _
  have hother : ∀ j, j ≠ k → getSlot (Machine.setSlot s m k x) m j = getSlot s m j := fun j hj => by
    unfold getSlot
    rw [hserve]
    exact tget_tset_ne _ _ _ _ _ hj
  refine ⟨fun j => ?_, fun j => ?_, by rw [hserve]⟩
  · by_cases hj : j = k
    · rw [hj, getSlot_setSlot, hstep]
    · rw [hother j hj]
  · by_cases hj : j = k
    · rw [hj, getSlot_setSlot, hrunning]
    · rw [hother j hj]

end SlotKept

theorem onOk_mapped {ε α β : Type} {P : β → Prop} {f : α → β} {e : Except ε α} (h : onOk (fun a => P (f a)) e) : onOk P (e.map f) := by
  intro b hb
  cases e with
  | error x => cases hb
  | ok a => cases hb; exact h a rfl

/-! ## Memory accesses -/

theorem setCtxWord_serve {s t : State} {m off v : Nat} (h : setCtxWord s m off v = .ok t) : t.serve = s.serve := serve_of_frame (fr_setCtxWord _ h) rfl

theorem postOut_serve {s t : State} {m : Nat} {c : ServeCtx} {o : OutRec} (h : postOut s m c o = .ok t) : t.serve = s.serve :=
  serve_of_frame (fr_postOut _ h) rfl

theorem writeMa_serve {s t : State} {m ma : Nat} {b : Bytes} (h : writeMa s m ma b = .ok t) : t.serve = s.serve := serve_of_frame (fr_writeMa _ h) rfl

theorem copyKv_serve {s t : State} {m a b : Nat} (h : copyKv s m a b = .ok t) : t.serve = s.serve := serve_of_frame (fr_copyKv _ h) rfl

/-! ## Sequences and their pages -/

section ops

variable {m : Nat}

theorem slotKept_giveKv (s : State) (l : List Nat) : SlotKept m s (giveKv s m l) := SlotKept.modServe _ _ rfl rfl

theorem slotKept_trimKv (s : State) (i : Nat) (x : Version) : SlotKept m s (trimKv s m i x) := by
  unfold trimKv
  split
  · exact SlotKept.refl s
  · exact (slotKept_giveKv s _).trans (SlotKept.modServe _ _ rfl rfl)

theorem slotKept_freeSeq (s : State) (i : Nat) : SlotKept m s (freeSeq s m i) := by
  unfold freeSeq
  split
  · exact SlotKept.refl s
  · exact (slotKept_giveKv s _).trans (SlotKept.modServe _ _ rfl rfl)

theorem slotKept_endSeq (s : State) (i : Nat) (c : ServeCtx) (step : W32) (code : Nat) : onOk (SlotKept m s) (endSeq s m i c step code) := by
  unfold endSeq
  split
  · exact onOk_ok (SlotKept.refl s)
  · refine onOk_bind fun t ht => onOk_ok ?_
    have hpost : SlotKept m s t := SlotKept.of_serve (postOut_serve ht)
    exact (hpost.trans (SlotKept.ite (SlotKept.of_serve (incB_serve _ _ _ _)) (SlotKept.refl t))).trans (slotKept_freeSeq _ i)

theorem slotKept_endSlot (c : ServeCtx) (step : W32) (code : Nat) (l : List (Nat × Sequence)) (s : State) :
    onOk (SlotKept m s) (endSlot s m c step code l) := by
  induction l generalizing s with
  | nil => exact onOk_ok (SlotKept.refl s)
  | cons e l ih => exact onOk_bind fun t ht v hv => (slotKept_endSeq s _ c step code t ht).trans (ih t v hv)

theorem slotKept_takeKv (c : ServeCtx) (n : Nat) (s : State) : SlotKept m s (takeKv s m c n).1 := by
  induction n generalizing s with
  | zero => exact SlotKept.refl s
  | succ n ih =>
    have hdraw : (drawFrom (kvFree (getServe s m) c) s).2.serve = s.serve := serve_of_frame fr_drawFrom rfl
    unfold takeKv
    split
    · rename_i t ht
      rw [ht] at hdraw
      exact SlotKept.of_serve hdraw
    · rename_i p t ht
      rw [ht] at hdraw
      exact ((SlotKept.of_serve hdraw).trans (SlotKept.modServe t _ rfl rfl)).trans (ih _)

/-! ## Requests -/

theorem slotKept_reject (s : State) (c : ServeCtx) (step : W32) (r : Req) (code : Nat) : onOk (SlotKept m s) (reject s m c step r code) := by
  unfold reject
  exact onOk_bind fun t ht => onOk_ok ((SlotKept.of_serve (postOut_serve ht)).trans (SlotKept.of_serve (incB_serve _ _ _ _)))

theorem slotKept_admitSeq (s : State) (c : ServeCtx) (step : W32) (r : Req) : onOk (SlotKept m s) (admitSeq s m c step r) := by
  unfold admitSeq
  split
  · dsimp only
    refine onOk_bind fun t ht => ?_
    have hbase : SlotKept m s t := by
      refine ((slotKept_takeKv c 1 s).trans ?_).trans (SlotKept.of_serve (postOut_serve ht))
      exact SlotKept.modServe _ _ rfl rfl
    split
    · exact fun v hv => hbase.trans (slotKept_endSeq t _ c step 4 v hv)
    · exact onOk_ok hbase
  · exact onOk_ok (SlotKept.refl s)

theorem slotKept_actReq (s : State) (c : ServeCtx) (step : W32) (r : Req) : onOk (fun p => SlotKept m s p.1) (actReq s m c step r) := by
  have hreject : ∀ code, onOk (fun p : State × Bool => SlotKept m s p.1) ((reject s m c step r code).map fun s => (s, true)) :=
    fun code => onOk_mapped (slotKept_reject s c step r code)
  unfold actReq
  dsimp only
  split
  · split
    · exact onOk_mapped (slotKept_admitSeq s c step r)
    · exact hreject _
  · split
    · exact hreject _
    · split
      · exact onOk_ok (SlotKept.refl s)
      · split
        · refine onOk_ok ?_
          dsimp only
          exact SlotKept.modServe _ _ rfl rfl
        · exact onOk_mapped (slotKept_endSeq s _ c step 3)
  · split
    · exact hreject _
    · split
      · exact onOk_ok (SlotKept.refl s)
      · refine onOk_ok ?_
        dsimp only
        exact SlotKept.modServe _ _ rfl rfl
  · exact hreject _

theorem slotKept_takeReqs (c : ServeCtx) (step : W32) (tail fuel : Nat) (s : State) (k : Nat) :
    onOk (fun p => SlotKept m s p.1) (takeReqs s m c step tail fuel k) := by
  induction fuel generalizing s k with
  | zero => exact onOk_ok (SlotKept.refl s)
  | succ fuel ih =>
    unfold takeReqs
    refine onOk_bind fun head _ => ?_
    refine onOk_ite (fun _ => onOk_ok (SlotKept.refl s)) fun _ => ?_
    refine onOk_bind fun b _ => onOk_bind fun p hp => ?_
    have hact : SlotKept m s p.1 := slotKept_actReq s c step _ p hp
    refine onOk_bind fun room _ => ?_
    refine onOk_ite (fun _ => onOk_ok (SlotKept.refl s)) fun _ => ?_
    exact onOk_bind fun t ht v hv => (hact.trans (SlotKept.of_serve (setCtxWord_serve ht))).trans (ih t _ v hv)

/-! ## Versions and variants -/

theorem foldl_serve {α : Type} {f : State → α → State} (h : ∀ s a, (f s a).serve = s.serve) (l : List α) (s : State) :
    (l.foldl f s).serve = s.serve := by
  induction l generalizing s with
  | nil => rfl
  | cons a l ih => exact (ih _).trans (h s a)

theorem unmapPages_serve (s : State) (l : List Nat) : (unmapPages s m l).serve = s.serve := serve_of_frame fr_unmapPages rfl

theorem releaseVersion_serve (s : State) (v : Version) : (releaseVersion s m v).serve = s.serve := serve_of_frame fr_releaseVersion rfl

theorem slotKept_dropVersions (s : State) (k : Nat) (p : Version → Bool) : SlotKept m s (dropVersions s m k p) := by
  have hfold : ((getSlot s m k).versions.filter p |>.foldl (fun s v => releaseVersion s m v) s).serve = s.serve :=
    foldl_serve (fun s v => releaseVersion_serve s v) _ _
  unfold dropVersions
  refine (SlotKept.of_serve hfold).trans (SlotKept.setSlot _ _ _ ?_ ?_)
  · rw [getSlot_of_serve hfold]
  · rw [getSlot_of_serve hfold]

theorem slotKept_dropVariants (s : State) (k : Nat) : SlotKept m s (dropVariants s m k) := by
  unfold dropVariants
  exact (SlotKept.of_serve (foldl_serve (fun s (e : Nat × Variant) => unmapPages_serve s e.2.pages) _ s)).trans (SlotKept.setSlot _ _ _ rfl rfl)

theorem slotKept_openVariants (s : State) (k : Nat) : SlotKept m s (openVariants s m k) := SlotKept.setSlot _ _ _ rfl rfl

theorem slotKept_sweepSlot (s : State) (k : Nat) : SlotKept m s (sweepSlot s m k) := by
  have hgone : ∀ (l : List (Nat × Variant)) (u : State), SlotKept m u (l.foldl (fun s e => unmapPages s m e.2.pages) u) := fun l u =>
    SlotKept.of_serve (foldl_serve (fun s (e : Nat × Variant) => unmapPages_serve s e.2.pages) l u)
  unfold sweepSlot
  exact ((slotKept_dropVersions s k _).trans (hgone _ _)).trans (SlotKept.setSlot _ _ _ rfl rfl)

theorem slotKept_sweepMoon (s : State) : SlotKept m s (sweepMoon s m) := SlotKept.foldl (fun s k => slotKept_sweepSlot s k) _ s

theorem slotKept_applySwap (s : State) (k : Nat) (step : W32) : SlotKept m s (applySwap s m k step).1 := by
  unfold applySwap
  dsimp only
  split
  · split
    · exact SlotKept.refl s
    · rename_i j new _ _ _
      have hseqs : ∀ f : Nat × Sequence → Nat × Sequence, SlotKept m s (Machine.modServe s m fun v => { v with seqs := v.seqs.map f }) :=
        fun f => SlotKept.modServe _ _ rfl rfl
      refine SlotKept.trans ?_ (SlotKept.setSlot _ _ _ rfl rfl)
      split
      · refine (hseqs _).trans (SlotKept.setSlot _ _ _ ?_ ?_)
        · exact ((hseqs _).step k).symm
        · exact ((hseqs _).running k).symm
      · exact (hseqs _).trans (slotKept_dropVersions _ k _)
  · exact SlotKept.refl s

theorem slotKept_applyUnload (s : State) (k : Nat) (c : ServeCtx) (step : W32) : onOk (SlotKept m s) (applyUnload s m k c step) := by
  unfold applyUnload
  refine onOk_ite (fun _ => onOk_ok (SlotKept.refl s)) fun _ => ?_
  refine onOk_bind fun room _ => ?_
  refine onOk_ite (fun _ => onOk_ok (SlotKept.refl s)) fun _ => ?_
  refine onOk_bind fun t ht => onOk_ok ?_
  have hended : SlotKept m s t := slotKept_endSlot c step 7 _ s t ht
  refine SlotKept.trans ?_ (SlotKept.of_serve (serve_of_frame fr_goneFetch rfl))
  refine SlotKept.trans ?_ (SlotKept.setSlot _ _ _ rfl rfl)
  exact hended.trans ((slotKept_dropVersions t k _).trans (slotKept_dropVariants _ k))

/-- O1 to O3 of an OPEN leave every slot's step number and what runs (R272). -/
theorem slotKept_openRequests (s : State) (k : Nat) (c : ServeCtx) (step : W32) : onOk (fun p => SlotKept m s p.1) (openRequests s m k c step) := by
  unfold openRequests
  refine onOk_bind fun tail _ => ?_
  dsimp only
  refine onOk_bind fun t ht => onOk_bind fun p hp => onOk_ok ?_
  have hswap : SlotKept m s (applySwap (openVariants s m k) m k step).1 := (slotKept_openVariants s k).trans (slotKept_applySwap _ k step)
  exact ((hswap.trans (slotKept_applyUnload _ k c step t ht)).trans (slotKept_takeReqs c step tail _ t _ p hp)).trans (slotKept_sweepMoon _)

/-! ## The scratchpad's pages -/

theorem slotKept_leaveSp (c : ServeCtx) (l : List (Nat × Nat)) (s : State) : onOk (SlotKept m s) (leaveSp s m c l) := by
  induction l generalizing s with
  | nil => exact onOk_ok (SlotKept.refl s)
  | cons e l ih =>
    refine onOk_bind fun t ht v hv => ?_
    exact ((SlotKept.of_serve (copyKv_serve ht)).trans (SlotKept.modServe t _ rfl rfl)).trans (ih _ v hv)

theorem slotKept_enterSp (c : ServeCtx) (l : List Nat) (s : State) : onOk (SlotKept m s) (enterSp s m c l) := by
  induction l generalizing s with
  | nil => exact onOk_ok (SlotKept.refl s)
  | cons p l ih =>
    have hdraw : (drawFrom ((upTo c.kvSpPages).filter fun i => !thas (getServe s m).kvSp i) s).2.serve = s.serve := serve_of_frame fr_drawFrom rfl
    unfold enterSp
    split
    · rename_i t ht
      rw [ht] at hdraw
      exact onOk_ok (SlotKept.of_serve hdraw)
    · rename_i i t ht
      rw [ht] at hdraw
      refine onOk_bind fun u hu v hv => ?_
      exact (((SlotKept.of_serve hdraw).trans (SlotKept.of_serve (copyKv_serve hu))).trans (SlotKept.modServe u _ rfl rfl)).trans (ih _ v hv)

theorem slotKept_assignSp (s : State) (c : ServeCtx) (pages : List Nat) : onOk (SlotKept m s) (assignSp s m c pages) := by
  unfold assignSp
  dsimp only
  exact onOk_bind fun t ht v hv => (slotKept_leaveSp c _ s t ht).trans (slotKept_enterSp c _ t v hv)

theorem slotKept_writeEmpty (s : State) (c : ServeCtx) (buf : Nat) (step : W32) (n : BitVec 16) : onOk (SlotKept m s) (writeEmpty s m c buf step n) := by
  unfold writeEmpty
  exact onOk_bind fun t ht v hv => (slotKept_assignSp s c _ t ht).trans (SlotKept.of_serve (writeMa_serve hv))

/-! ## CLOSE -/

theorem slotKept_endCancelled (c : ServeCtx) (run : StepRun) (l : List Entry) (s : State) :
    onOk (fun p => SlotKept m s p.1) (endCancelled s m c run l) := by
  induction l generalizing s with
  | nil => exact onOk_ok (SlotKept.refl s)
  | cons e l ih =>
    have hrest : ∀ p : State × Nat, SlotKept m s p.1 → onOk (fun p : State × Nat => SlotKept m s p.1)
        (endCancelled p.1 m c run l >>= fun q => Except.ok (q.1, p.2 ||| q.2)) :=
      fun p hp => onOk_bind fun q hq => onOk_ok (hp.trans (ih p.1 q hq))
    unfold endCancelled
    dsimp only
    split
    · refine onOk_ite (fun _ => onOk_bind fun p hp => hrest p ?_) fun _ => hrest _ (SlotKept.refl s)
      exact onOk_mapped (P := fun p : State × Nat => SlotKept m s p.1) (slotKept_endSeq s _ c run.step 3) p hp
    · exact hrest _ (SlotKept.refl s)

theorem slotKept_countStep (s : State) (k : Nat) : SlotKept m s (countStep s m k) := by
  have hcount : (incA (incB s 0x8040 m 1) 0x8032 (256 * m + k) 1).serve = s.serve := (incA_serve _ _ _ _).trans (incB_serve _ _ _ _)
  unfold countStep
  exact (SlotKept.of_serve hcount).trans (SlotKept.setSlot _ _ _ rfl rfl)

end ops

end Sys2Proof.Proofs
end

section
/-! STEP tasks open, close, fail and follow (R268, R269, R272, R273, R293, R294, R297, R298). -/

set_option Elab.async false

namespace Sys2Proof.Proofs

open Sys2Proof.Machine Sys2Proof.Laws

/-! ## The start of a STEP task -/

theorem readyStep_eq_some {s : State} {m r mode : Nat} {u : Machine.Task} {e : StepRec} (h : readyStep s m r mode = some (u, e)) :
    u ∈ s.tasks.tasks ∧ u.moon = m ∧ u.ring = r ∧ e = parseStep u.ext := by
  unfold readyStep at h
  split at h
  · contradiction
  · rename_i t ht
    dsimp only at h
    split at h
    · obtain ⟨rfl, rfl⟩ := Prod.mk.inj (Option.some.inj h)
      obtain ⟨hmem, hm, hr, _⟩ := mem_of_oldestUnstarted (readyTask_eq_some ht).1
      exact ⟨hmem, hm, hr, rfl⟩
    · contradiction

theorem startTask_serve (s : State) (t : Machine.Task) (ph : TaskPhase) : (startTask s t ph).1.serve = s.serve := serve_of_frame fr_startTask rfl

/-- A STEP task that passes its start checks acts on the context of its moon. -/
theorem startStep_passed {s : State} {u : Machine.Task} {e : StepRec} {c : ServeCtx} {act : State → Machine.Task → ServeCtx → Except Bad State}
    (hcheck : stepStartBad (startTask s u .running).1 (startTask s u .running).2 e = .ok none) (hctx : (getServe s u.moon).ctx = some c) :
    startStep s (u, e) act = match act (startTask s u .running).1 (startTask s u .running).2 c with
      | .error b => .next (failWith s (startTask s u .running).1 (startTask s u .running).2 b)
      | .ok t => .next t := by
  have hctx' : (getServe (startTask s u .running).1 (startTask s u .running).2.moon).ctx = some c := by
    rw [getServe_of_serve (startTask_serve s u .running)]
    exact hctx
  unfold startStep
  simp only [hcheck, hctx'] <;> rfl

/-! ## OPEN of a RUN step (R272) -/

/-- A slot has opened a step for a task. -/
def Opened (t : Machine.Task) (step : W32) (u : State) : Prop :=
  (getSlot u t.moon t.desc.karg16).step = step + 1 ∧ (getSlot u t.moon t.desc.karg16).running = some (t.ring, t.seq) ∧
  (findRun u t.moon t.ring t.seq).isSome = true

theorem Opened.of_serve {t : Machine.Task} {step : W32} {u v : State} (h : Opened t step u) (hs : v.serve = u.serve) : Opened t step v := by
  unfold Opened findRun at h ⊢
  rw [getSlot_of_serve hs, getServe_of_serve hs]
  exact h

/-- A run entered for a task, and its slot moved on. -/
def runEntered (s : State) (t : Machine.Task) (step : W32) (run : StepRun) : State :=
  let s := modServe s t.moon fun v => { v with runs := v.runs ++ [run] }
  setSlot s t.moon t.desc.karg16 { getSlot s t.moon t.desc.karg16 with step := step + 1, running := some (t.ring, t.seq) }

theorem opened_runEntered (s : State) {t : Machine.Task} (step : W32) {run : StepRun} (hring : run.ring = t.ring) (hseq : run.seq = t.seq) :
    Opened t step (runEntered s t step run) := by
  let u := modServe s t.moon fun v => { v with runs := v.runs ++ [run] }
  have hruns : (getServe (runEntered s t step run) t.moon).runs = (getServe s t.moon).runs ++ [run] := by
    have hset : ∀ (v : State) (k : Nat) (x : Slot), (getServe (setSlot v t.moon k x) t.moon).runs = (getServe v t.moon).runs := fun v k x => by
      unfold setSlot modServe
      rw [getServe_setServe]
    refine (hset u _ _).trans ?_
    show (getServe (modServe s t.moon _) t.moon).runs = _
    unfold modServe
    rw [getServe_setServe]
  refine ⟨?_, ?_, ?_⟩
  · unfold runEntered
    rw [getSlot_setSlot]
  · unfold runEntered
    rw [getSlot_setSlot]
  · unfold findRun
    rw [hruns, List.find?_isSome]
    exact ⟨run, by simp, by simp [hring, hseq]⟩

theorem loadPlan_serve {s u : State} {m r plan : Nat} {d : Desc} {q : Nat → Nat} {h : PlanHdr} (hl : loadPlan s m r d plan q = .ok (some (h, u))) :
    u.serve = s.serve := serve_of_frame (fr_loadPlan _ hl _ rfl) rfl

theorem opened_plan {t : Machine.Task} {step : W32} {s v : State} (hopen : Opened t step v) (hs : s.serve = v.serve) (m r plan : Nat) (d : Desc)
    (q : Nat → Nat) : onOk (Opened t step) (do
      match ← (loadPlan s m r d plan q).mapError Fail.toBad with
      | none => Except.error ⟨0x0406, 0, 0⟩
      | some (_, s) => Except.ok s) := by
  refine onOk_bind fun o ho => ?_
  split
  · exact onOk_error
  · exact onOk_ok ((hopen.of_serve hs).of_serve (loadPlan_serve (mapError_ok ho)))

theorem sendList_serve (s : State) (m k buf : Nat) (b : Bytes) (l : List (Nat × Nat × Nat)) : (sendList s m k buf b l).serve = s.serve :=
  serve_of_frame fr_sendList rfl

/-- OPEN of a RUN step takes the slot's step number and advances it (R268). -/
theorem openRun_opened (s : State) (t : Machine.Task) (r : StepRec) (c : ServeCtx) :
    onOk (Opened t (getSlot s t.moon t.desc.karg16).step) (openRun s t r c) := by
  unfold openRun
  dsimp only
  refine onOk_bind fun p _ => ?_
  split
  · refine onOk_bind fun u _ => ?_
    exact opened_plan (opened_runEntered u _ rfl rfl) (sendList_serve _ _ _ _ _ _) _ _ _ _ _
  · refine onOk_bind fun b0 _ => onOk_bind fun u1 _ => onOk_bind fun p2 _ => onOk_bind fun u3 _ => onOk_bind fun u4 _ => ?_
    exact opened_plan (opened_runEntered u4 _ rfl rfl) (sendList_serve _ _ _ _ _ _) _ _ _ _ _

/-! ## A SERVICE step -/

theorem openRequests_tasks {s : State} {m k : Nat} {c : ServeCtx} {step : W32} {p : State × Nat} (h : openRequests s m k c step = .ok p) :
    p.1.tasks = s.tasks := tasks_of_frame (fr_openRequests _ h) rfl

theorem writeEmpty_tasks {s t : State} {m buf : Nat} {c : ServeCtx} {step : W32} {n : BitVec 16} (h : writeEmpty s m c buf step n = .ok t) :
    t.tasks = s.tasks := tasks_of_frame (fr_writeEmpty _ h) rfl

/-- Nothing to do at a boundary: no request, no swap, no unloading (R272). -/
theorem openRequests_idle {s t : State} {m k a bits : Nat} {c : ServeCtx} {step : W32} (htail : ctxWord s m 0x18 = .ok a)
    (hhead : ctxWord s m 0x1C = .ok a) (hswap : (getSlot s m k).swap = none) (hunload : (getSlot s m k).unload = false)
    (h : openRequests s m k c step = .ok (t, bits)) : bits = 0 := by
  let u := openVariants s m k
  have hslot : getSlot u m k = { getSlot s m k with variants := (getSlot s m k).variants.map fun e => (e.1, { e.2 with active := true }) } :=
    getSlot_setSlot _ _ _ _
  have happly : applySwap u m k step = (u, 0) := by
    unfold applySwap
    dsimp only
    rw [hslot]
    simp only [hswap]
  have hun : applyUnload u m k c step = .ok u := by
    unfold applyUnload
    rw [hslot]
    simp [hunload]
  have hctx : (getServe u m).ctxMa = (getServe s m).ctxMa := by
    show (getServe (modServe s m _) m).ctxMa = _
    unfold modServe
    rw [getServe_setServe]
  have hword : ctxWord u m 0x1C = .ok a := by
    rw [← hhead]
    unfold ctxWord
    rw [hctx]
    rfl
  have htake : takeReqs u m c step a (2 ^ c.reqLog2 + 1) 0 = .ok (u, 0) := by
    unfold takeReqs
    rw [hword]
    exact if_pos rfl
  unfold openRequests at h
  rw [htail] at h
  have heq : (Except.ok (sweepMoon u m, 0) : Except Fail (State × Nat)) = .ok (t, bits) := by
    rw [← h]
    show _ = ((applyUnload (applySwap u m k step).1 m k c step) >>= fun s =>
      takeReqs s m c step a (2 ^ c.reqLog2 + 1) (applySwap u m k step).2 >>= fun p => Except.ok (sweepMoon p.1 m, p.2))
    rw [happly, hun]
    show _ = (takeReqs u m c step a (2 ^ c.reqLog2 + 1) 0 >>= fun p => Except.ok (sweepMoon p.1 m, p.2))
    rw [htake]
    rfl
  exact (Prod.mk.inj (Except.ok.inj heq)).2.symm

theorem exec_stepService {s s2 s3 : State} {m r bits : Nat} {u : Machine.Task} {e : StepRec} {c : ServeCtx} (hready : readyStep s m r 2 = some (u, e))
    (hcheck : stepStartBad (startTask s u .running).1 (startTask s u .running).2 e = .ok none) (hctx : (getServe s m).ctx = some c)
    (hopen : openRequests (startTask s u .running).1 m u.desc.karg16 c (getSlot s m u.desc.karg16).step = .ok (s2, bits))
    (hwrite : writeEmpty s2 m c e.wlBuf (getSlot s2 m u.desc.karg16).step
      (((stepVersion (getSlot s2 m u.desc.karg16) e.verSel).map Version.number).getD 0) = .ok s3) :
    exec (.stepService m r) s = .next (putTask s3 { (startTask s u .running).2 with phase := .done, kstatus := bits ||| 256 }) := by
  obtain ⟨_, rfl, rfl, _⟩ := readyStep_eq_some hready
  have hopen' : openRequests (startTask s u .running).1 u.moon u.desc.karg16 c (getSlot (startTask s u .running).1 u.moon u.desc.karg16).step =
      .ok (s2, bits) := by
    rw [getSlot_of_serve (startTask_serve s u .running)]
    exact hopen
  show execStepService u.moon u.ring s = _
  unfold execStepService
  rw [hready]
  dsimp only
  rw [startStep_passed hcheck hctx]
  show (match (match openRequests (startTask s u .running).1 u.moon u.desc.karg16 c (getSlot (startTask s u .running).1 u.moon u.desc.karg16).step with
    | .error e => .error e.toBad
    | .ok (s, bits) => _ : Except Bad State) with
    | .error b => _
    | .ok t => _) = _
  rw [hopen']
  have hwrite' : writeEmpty s2 u.moon c e.wlBuf (getSlot s2 u.moon (startTask s u .running).2.desc.karg16).step
      (((stepVersion (getSlot s2 u.moon (startTask s u .running).2.desc.karg16) e.verSel).map Version.number).getD 0) = .ok s3 := hwrite
  dsimp only
  rw [hwrite']

/-! ## FOLLOW -/

/-- The run of a follower that waits for its list (R293). -/
def followRun (s : State) (t : Machine.Task) (e : StepRec) : StepRun :=
  { ring := t.ring, seq := t.seq, slot := t.desc.karg16, step := (getSlot s t.moon t.desc.karg16).step
    version := ((stepVersion (getSlot s t.moon t.desc.karg16) e.verSel).map Version.number).getD 0
    entries := [], logitBuf := e.logit, vocab := 0, kstatus := 0, followers := [], reported := [], sentAt := s.orbit.refNs
    outReserved := 0, mode := 1, got := false, lead := none }

/-- The follower's slot and run entered. -/
def followEntered (s : State) (t : Machine.Task) (e : StepRec) : State :=
  setSlot (modServe s t.moon fun v => { v with runs := v.runs ++ [followRun s t e] }) t.moon t.desc.karg16
    { getSlot s t.moon t.desc.karg16 with step := (getSlot s t.moon t.desc.karg16).step + 1, running := some (t.ring, t.seq) }

theorem exec_follow {s : State} {m r : Nat} {u : Machine.Task} {e : StepRec} {c : ServeCtx} (hready : readyStep s m r 1 = some (u, e))
    (hcheck : stepStartBad (startTask s u .running).1 (startTask s u .running).2 e = .ok none) (hctx : (getServe s m).ctx = some c) :
    exec (.follow m r) s = .next (followEntered (startTask s u .running).1 (startTask s u .running).2 e) := by
  obtain ⟨_, rfl, rfl, _⟩ := readyStep_eq_some hready
  show execFollow u.moon u.ring s = _
  unfold execFollow
  rw [hready]
  dsimp only
  rw [startStep_passed hcheck hctx] <;> rfl

/-! ## A step leaves its slot -/

theorem runningStep_eq_some {s : State} {m r : Nat} {q : W32} {u : Machine.Task} {run : StepRun} (h : runningStep s m r q = some (u, run)) :
    findTask s m r q = some u ∧ findRun s m r q = some run ∧ u.phase = .running := by
  unfold runningStep at h
  split at h
  · rename_i t x ht hx
    split at h
    · rename_i hc
      obtain ⟨rfl, rfl⟩ := Prod.mk.inj (Option.some.inj h)
      simp only [Bool.and_eq_true, beq_iff_eq] at hc
      exact ⟨ht, hx, hc.1⟩
    · contradiction
  · contradiction

theorem key_of_findRun {s : State} {m r : Nat} {q : W32} {run : StepRun} (h : findRun s m r q = some run) : run.ring = r ∧ run.seq = q := by
  have := List.find?_some h
  simpa using this

/-- The slot that a run has left. -/
structure RunLeft (m r k : Nat) (q : W32) (s : State) : Prop where
  running : (getSlot s m k).running = none
  run : findRun s m r q = none

theorem RunLeft.kept {m r k : Nat} {q : W32} {s t : State} (h : RunLeft m r k q s) (g : SlotKept m s t) : RunLeft m r k q t := by
  refine ⟨(g.running k).trans h.running, ?_⟩
  unfold findRun
  rw [g.runs]
  exact h.run

theorem runLeft_endRun {s : State} {m r : Nat} {q : W32} {run : StepRun} (hring : run.ring = r) (hseq : run.seq = q) :
    RunLeft m r run.slot q (endRun s m run) := by
  subst hring hseq
  unfold endRun
  refine ⟨by rw [getSlot_setSlot], ?_⟩
  unfold findRun setSlot modServe
  rw [getServe_setServe, getServe_setServe, List.find?_eq_none]
  intro x hx hkey
  have hgone := (List.mem_filter.mp hx).2
  rw [hkey] at hgone
  cases hgone

/-- Tasks whose comet streams close and whose lines are written back stay listed. -/
theorem closed_tasks (ring : Machine.Task → Nat) (m : Nat) (l : List Machine.Task) (s : State) :
    (l.foldl (fun s t => cometClose (writeBack s m (ring t) t.seq) m (ring t) t.seq) s).tasks = s.tasks := by
  induction l generalizing s with
  | nil => rfl
  | cons t l ih => exact (ih _).trans ((tasks_of_frame fr_cometClose rfl).trans (writeBack_tasks _ _ _ _))

/-- A task of another ring stays when a step leaves its slot. -/
theorem mem_endRun {s : State} {m : Nat} {run : StepRun} {u : Machine.Task} (hu : u ∈ s.tasks.tasks) (hr : u.ring < 16) :
    u ∈ (endRun s m run).tasks.tasks := by
  show u ∈ (dropPlan s m (16 + run.slot)).tasks.tasks
  unfold dropPlan
  refine List.mem_filter.mpr ⟨by rw [closed_tasks (fun _ => 16 + run.slot)]; exact hu, ?_⟩
  have hne : u.ring ≠ 16 + run.slot := by omega
  simp [hne]

/-- A task put back as DONE after its step has left the slot. -/
theorem closed_putTask {s : State} {m r k : Nat} {q : W32} {v x : Machine.Task} (h : RunLeft m r k q s) (hx : x ∈ s.tasks.tasks) (hkey : SameKey x v) :
    RunLeft m r k q (putTask s v) ∧ findTask (putTask s v) x.moon x.ring x.seq = some v :=
  ⟨h.kept (SlotKept.of_serve rfl), findTask_putTask hx hkey⟩

/-! ## CLOSE -/

/-- A step has left its slot, and the task that carried it is DONE. -/
def Closed (u : Machine.Task) (r k : Nat) (q : W32) (t : State) : Prop :=
  RunLeft u.moon r k q t ∧ phaseOf t u.moon u.ring u.seq = some .done

/-- The end of CLOSE: the step leaves its slot and counts, and its task is done. -/
theorem closed_counted {s v : State} {u x : Machine.Task} {r : Nat} {q : W32} {run : StepRun} (hv : v.tasks = s.tasks) (hu : u ∈ s.tasks.tasks)
    (hr : u.ring < 16) (hring : run.ring = r) (hseq : run.seq = q) (hkey : SameKey u x) (hdone : x.phase = .done) :
    Closed u r run.slot q (putTask (sweepMoon (countStep (endRun v u.moon run) u.moon run.slot) u.moon) x) := by
  have htasks : (sweepMoon (countStep (endRun v u.moon run) u.moon run.slot) u.moon).tasks = (endRun v u.moon run).tasks :=
    (tasks_of_frame fr_sweepMoon rfl).trans (tasks_of_frame fr_countStep rfl)
  have hmem : u ∈ (sweepMoon (countStep (endRun v u.moon run) u.moon run.slot) u.moon).tasks.tasks := by
    rw [htasks]
    exact mem_endRun (by rw [hv]; exact hu) hr
  have hleft : RunLeft u.moon r run.slot q (endRun v u.moon run) := runLeft_endRun hring hseq
  obtain ⟨hgone, hfind⟩ := closed_putTask ((hleft.kept (slotKept_countStep _ _)).kept (slotKept_sweepMoon _)) hmem hkey
  exact ⟨hgone, (phaseOf_of_find hfind).trans (congrArg some hdone)⟩

/-- CLOSE of a RUN step (R273). -/
theorem onOk_closeRun {s : State} {u : Machine.Task} {r : Nat} {q : W32} {run : StepRun} {c : ServeCtx} (hu : u ∈ s.tasks.tasks) (hr : u.ring < 16)
    (hring : run.ring = r) (hseq : run.seq = q) : onOk (Closed u r run.slot q) (closeRun s u run c) := by
  unfold closeRun
  dsimp only
  refine onOk_bind fun tail _ => onOk_bind fun head _ => onOk_bind fun s1 h1 => onOk_bind fun p h2 => ?_
  have h12 : p.1.tasks = s.tasks := (tasks_of_frame (fr_endCancelled _ h2) rfl).trans (tasks_of_frame (fr_seeCancels _ h1) rfl)
  split
  · refine onOk_bind fun x hx => onOk_bind fun s3 h3 => onOk_ok (closed_counted ?_ hu hr hring hseq ⟨rfl, rfl, rfl⟩ rfl)
    exact (tasks_of_frame (fr_fillBack _ h3) rfl).trans ((tasks_of_frame (fr_closeEntries _ hx) rfl).trans h12)
  · exact onOk_ok (closed_counted h12 hu hr hring hseq ⟨rfl, rfl, rfl⟩ rfl)

/-! ## A step that fails -/

/-- The task of a failed step at its end. -/
def failedTask (s : State) (t : Machine.Task) (run : StepRun) (bits : Nat) : Machine.Task :=
  { planMarks s t (16 + run.slot) with phase := .done, kstatus := bits }

/-- What the end of a failed step leaves before its task is put back (R297). -/
theorem endFailed_eq (s : State) (t : Machine.Task) (run : StepRun) : ∃ (u : State) (bits : Nat),
    endFailed s t run = putTask u (failedTask s t run bits) ∧
    SlotKept t.moon (endRun s t.moon run) u ∧ u.tasks = (endRun s t.moon run).tasks := by
  let s1 := endRun s t.moon run
  have hcancel : ∀ p : State × Nat, p = (match (getServe s1 t.moon).ctx with
      | none => (s1, 0)
      | some c => match endCancelled s1 t.moon c run run.entries with
        | .ok r => r
        | .error _ => (s1, 0)) → SlotKept t.moon s1 p.1 ∧ p.1.tasks = s1.tasks := by
    rintro p rfl
    split
    · exact ⟨SlotKept.refl _, rfl⟩
    · split
      · rename_i r hr
        exact ⟨slotKept_endCancelled _ _ _ _ _ hr, tasks_of_frame (fr_endCancelled _ hr) rfl⟩
      · exact ⟨SlotKept.refl _, rfl⟩
  have htrim : ∀ (x : Version) (l : List Entry) (v : State), SlotKept t.moon v (l.foldl (fun s e => trimKv s t.moon e.index x) v) ∧
      (l.foldl (fun s e => trimKv s t.moon e.index x) v).tasks = v.tasks := by
    intro x l
    induction l with
    | nil => exact fun v => ⟨SlotKept.refl v, rfl⟩
    | cons e l ih =>
      intro v
      obtain ⟨hslot, htasks⟩ := ih (trimKv v t.moon e.index x)
      exact ⟨(slotKept_trimKv v e.index x).trans hslot, htasks.trans (tasks_of_frame fr_trimKv rfl)⟩
  unfold endFailed
  dsimp only
  obtain ⟨hslot, htasks⟩ := hcancel _ rfl
  refine ⟨_, _, rfl, ?_, ?_⟩
  · refine SlotKept.trans ?_ (slotKept_sweepMoon _)
    split
    · exact hslot.trans (htrim _ _ _).1
    · exact hslot
  · refine (tasks_of_frame fr_sweepMoon rfl).trans ?_
    split
    · exact (htrim _ _ _).2.trans htasks
    · exact htasks

theorem endRun_rings (s : State) (m : Nat) (run : StepRun) (n r : Nat) : getRing (endRun s m run) n r = getRing s n r := by
  have hdrop : (endRun s m run).tasks.rings = (((ringTasks s m (16 + run.slot)).foldl (fun s t =>
      cometClose (writeBack s m (16 + run.slot) t.seq) m (16 + run.slot) t.seq) s)).tasks.rings := rfl
  unfold getRing
  rw [hdrop, closed_tasks (fun _ => 16 + run.slot)]

/-- A failed step leaves its slot; its task is done with what it failed of (R297). -/
theorem endFailed_left {s : State} {u x : Machine.Task} {r : Nat} {q : W32} {run : StepRun} (hx : x ∈ s.tasks.tasks) (hkey : SameKey x u)
    (hr : u.ring < 16) (hring : run.ring = r) (hseq : run.seq = q) :
    RunLeft u.moon r run.slot q (endFailed s u run) ∧ getRing (endFailed s u run) u.moon u.ring = getRing s u.moon u.ring ∧
    (findTask (endFailed s u run) u.moon u.ring u.seq).map (fun v => (v.phase, v.result, v.error)) = some (.done, u.result, u.error) := by
  obtain ⟨v, bits, heq, hslot, htasks⟩ := endFailed_eq s u run
  obtain ⟨hm, hring', hq⟩ := hkey
  have hmem : x ∈ v.tasks.tasks := by
    rw [htasks]
    exact mem_endRun hx (hring' ▸ hr)
  have hleft : RunLeft u.moon r run.slot q v := (runLeft_endRun hring hseq).kept hslot
  obtain ⟨hgone, hfind⟩ := closed_putTask (v := failedTask s u run bits) hleft hmem ⟨hm, hring', hq⟩
  rw [heq]
  refine ⟨hgone, ?_, ?_⟩
  · exact (getRing_of_tasks (s := endRun s u.moon run) htasks _ _).trans (endRun_rings _ _ _ _ _)
  · rw [hm, hring', hq, hfind]
    rfl

theorem failTask_taskList (s : State) (t : Machine.Task) (code ma detail : Nat) : (failTask s t code ma detail).tasks.tasks =
    (putTask s { t with phase := .done, work := [], cores := [], result := 1, error := code, faultMa := ma, detail := detail }).tasks.tasks := by
  have hcount : (countUe s t.moon code ma).tasks = s.tasks := tasks_of_frame fr_countUe rfl
  have hput : (putTask (countUe s t.moon code ma)
      { t with phase := .done, work := [], cores := [], result := 1, error := code, faultMa := ma, detail := detail }).tasks.tasks =
      (putTask s { t with phase := .done, work := [], cores := [], result := 1, error := code, faultMa := ma, detail := detail }).tasks.tasks := by
    unfold putTask
    rw [hcount]
  unfold failTask
  dsimp only
  split
  · exact hput
  · exact (haltRing_taskList _ _ _ _).trans hput

theorem failTask_fails {s : State} {t : Machine.Task} (hplan : t.ofPlan = false) (code ma detail : Nat) :
    (getRing (failTask s t code ma detail) t.moon t.ring).fail = true := by
  unfold failTask
  dsimp only
  split
  · rename_i h
    exact absurd (hplan.symm.trans h) Bool.false_ne_true
  · unfold haltRing
    rw [getRing_setRing]

/-- The tasks of another ring are as they were. -/
theorem ringTasks_putTask_ne {s : State} {t : Machine.Task} {m r : Nat} (h : t.ring ≠ r) : ringTasks (putTask s t) m r = ringTasks s m r := by
  unfold ringTasks putTask
  dsimp only
  generalize s.tasks.tasks = l
  induction l with
  | nil => rfl
  | cons a l ih =>
    rw [List.map_cons, List.filter_cons, List.filter_cons, ih]
    by_cases hkey : (a.moon == t.moon && a.ring == t.ring && a.seq == t.seq) = true
    · have har : a.ring = t.ring := by
        simp only [Bool.and_eq_true, beq_iff_eq] at hkey
        exact hkey.1.2
      have hat : ∀ x : Machine.Task, x.ring = t.ring → ¬ ((x.moon == m && x.ring == r) = true) := by
        intro x hx hc
        simp only [Bool.and_eq_true, beq_iff_eq] at hc
        exact h (hx.symm.trans hc.2)
      rw [if_pos hkey, if_neg (hat t rfl), if_neg (hat a har)]
    · rw [if_neg hkey]

theorem planBusy_of_ringTasks {s t : State} {m k : Nat} (h : ringTasks t m (16 + k) = ringTasks s m (16 + k)) : planBusy t m k = planBusy s m k := by
  unfold planBusy
  rw [h]

theorem mem_stopPlan {s : State} {m k : Nat} {x : Machine.Task} (hx : x ∈ s.tasks.tasks) (hr : x.ring < 16) : x ∈ (stopPlan s m k).tasks.tasks := by
  have hmine : (x.moon == m && x.ring == 16 + k) = false := by
    have hne : x.ring ≠ 16 + k := by omega
    simp [hne]
  unfold stopPlan
  dsimp only
  rw [closed_tasks Machine.Task.ring]
  refine List.mem_map.mpr ⟨x, List.mem_filter.mpr ⟨hx, by simp [hmine]⟩, ?_⟩
  exact if_neg fun h => Bool.false_ne_true (hmine.symm.trans h)

theorem stopPlan_rings (s : State) (m k n r : Nat) : getRing (stopPlan s m k) n r = getRing s n r := by
  unfold getRing stopPlan
  dsimp only
  rw [closed_tasks Machine.Task.ring]

/-- A step fails: its ring halts, and its task keeps the code, running while its plan's tasks are still on cores (R216, R297). -/
theorem failRun_failed {s : State} {u : Machine.Task} {r : Nat} {q : W32} {run : StepRun} (hu : u ∈ s.tasks.tasks) (hrun : u.phase = .running)
    (hr : u.ring < 16) (hplan : u.ofPlan = false) (hring : run.ring = r) (hseq : run.seq = q) (code ma detail : Nat) :
    (getRing (failRun s u run code ma detail) u.moon u.ring).fail = true ∧
    (findTask (failRun s u run code ma detail) u.moon u.ring u.seq).map (fun x => (x.phase, x.result, x.error)) =
      some (if planBusy s u.moon run.slot then .running else .done, 1, code) := by
  let w : Machine.Task := { u with phase := .done, work := [], cores := [], result := 1, error := code, faultMa := ma, detail := detail }
  let v : Machine.Task := { u with result := 1, error := code, faultMa := ma, detail := detail }
  let s1 := failTask s u code ma detail
  have hmem : w ∈ s1.tasks.tasks := by
    show w ∈ (failTask s u code ma detail).tasks.tasks
    rw [failTask_taskList]
    exact (soleTask_putTask (t := w) hu ⟨rfl, rfl, rfl⟩).mem
  have hbusy : planBusy s1 u.moon run.slot = planBusy s u.moon run.slot := by
    refine planBusy_of_ringTasks ?_
    have hput : ringTasks (putTask s w) u.moon (16 + run.slot) = ringTasks s u.moon (16 + run.slot) :=
      ringTasks_putTask_ne (show u.ring ≠ _ by omega)
    rw [← hput]
    show (failTask s u code ma detail).tasks.tasks.filter _ = (putTask s w).tasks.tasks.filter _
    rw [failTask_taskList]
  have hfails : (getRing s1 u.moon u.ring).fail = true := failTask_fails hplan code ma detail
  have heq : failRun s u run code ma detail = if planBusy s u.moon run.slot then putTask (stopPlan s1 u.moon run.slot) v else endFailed s1 v run := by
    rw [← hbusy]
    rfl
  rw [heq]
  split
  · refine ⟨?_, ?_⟩
    · show (getRing (stopPlan s1 u.moon run.slot) u.moon u.ring).fail = true
      rw [stopPlan_rings]
      exact hfails
    · rw [show findTask (putTask (stopPlan s1 u.moon run.slot) v) u.moon u.ring u.seq = some v from
        findTask_putTask (u := w) (mem_stopPlan hmem hr) ⟨rfl, rfl, rfl⟩]
      show some (u.phase, _, _) = _
      rw [hrun]
  · obtain ⟨_, hrings, hfind⟩ := endFailed_left (u := v) (q := q) hmem ⟨rfl, rfl, rfl⟩ hr hring hseq
    exact ⟨(congrArg Ring.fail hrings).trans hfails, hfind⟩

end Sys2Proof.Proofs
end

section
/-! STEP tasks: the statement (R268, R269, R272, R273, R293, R294, R297, R298). -/

set_option Elab.async false

namespace Sys2Proof.Proofs

open Sys2Proof.Machine Sys2Proof.Laws

/-! ## The rows of a running step -/

theorem mem_of_running {s : State} {m r : Nat} {q : W32} {u : Machine.Task} {run : StepRun} (h : runningStep s m r q = some (u, run)) :
    u ∈ s.tasks.tasks ∧ u.moon = m ∧ u.ring = r ∧ u.seq = q ∧ u.phase = .running ∧ run.ring = r ∧ run.seq = q := by
  obtain ⟨hfind, hrun, hphase⟩ := runningStep_eq_some h
  obtain ⟨hmem, hm, hr, hq⟩ := mem_of_findTask hfind
  obtain ⟨hring, hseq⟩ := key_of_findRun hrun
  exact ⟨hmem, hm, hr, hq, hphase, hring, hseq⟩

/-- The report of a follower that closes (R294). -/
def followerReport (m : Nat) (run : StepRun) : Out :=
  let l := run.lead.getD (Config.moduleIdentity, m, run.slot)
  .span l.1 l.2.1 l.2.2 (leBytes 8 Config.moduleIdentity ++ leBytes 4 m ++ leBytes 4 run.slot ++ leBytes 4 run.step.toNat)

/-- A follower's step closes: it reports to its lead, and its task is done (R294). -/
def followerClosed (s : State) (u : Machine.Task) (run : StepRun) : State :=
  putTask (emit (endRun s u.moon run) (followerReport u.moon run))
    { planMarks s u (16 + run.slot) with phase := .done, kstatus := run.kstatus.toNat }

theorem exec_stepClose_follower {s : State} {m r : Nat} {q : W32} {u : Machine.Task} {run : StepRun} (h : runningStep s m r q = some (u, run))
    (hres : u.result ≠ 1) (hfail : planFailed s m (16 + run.slot) = none) (hdone : planComplete s m (16 + run.slot) = true) (hgot : run.got = true)
    (hmode : run.mode = 1) : exec (.stepClose m r q) s = .next (followerClosed s u run) := by
  obtain ⟨_, rfl, _⟩ := mem_of_running h
  show execStepClose u.moon r q s = _
  unfold execStepClose
  rw [h]
  dsimp only
  rw [if_neg hres, hfail]
  dsimp only
  rw [hgot, hdone]
  refine (if_neg (by simp)).trans ((if_pos hmode).trans ?_)
  rfl

theorem exec_stepClose_lead {s t : State} {m r : Nat} {q : W32} {u : Machine.Task} {run : StepRun} {c : ServeCtx}
    (h : runningStep s m r q = some (u, run)) (hres : u.result ≠ 1) (hfail : planFailed s m (16 + run.slot) = none)
    (hdone : planComplete s m (16 + run.slot) = true) (hgot : run.got = true) (hmode : run.mode ≠ 1)
    (hall : run.followers.length ≤ run.reported.length) (hctx : (getServe s m).ctx = some c) (hclose : closeRun s u run c = .ok t) :
    exec (.stepClose m r q) s = .next t := by
  show execStepClose m r q s = _
  unfold execStepClose
  rw [h]
  dsimp only
  rw [if_neg hres, hfail]
  dsimp only
  rw [hgot, hdone]
  refine (if_neg (by simp)).trans ((if_neg hmode).trans ((if_neg (Nat.not_lt.mpr hall)).trans ?_))
  rw [hctx]
  dsimp only
  rw [hclose]

/-- The run of a task changed. -/
def modRuns (s : State) (m r : Nat) (q : W32) (f : StepRun → StepRun) : State :=
  modServe s m fun v => { v with runs := v.runs.map fun x => if x.ring == r && x.seq == q then f x else x }

theorem findRun_modRuns (s : State) (m r : Nat) (q : W32) {f : StepRun → StepRun} (hf : ∀ x, (f x).ring = x.ring ∧ (f x).seq = x.seq) :
    findRun (modRuns s m r q f) m r q = (findRun s m r q).map f := by
  unfold findRun modRuns modServe
  rw [getServe_setServe]
  dsimp only
  generalize (getServe s m).runs = l
  induction l with
  | nil => rfl
  | cons x l ih =>
    rw [List.map_cons, List.find?_cons, List.find?_cons, ih]
    by_cases hkey : (x.ring == r && x.seq == q) = true
    · obtain ⟨hr, hq⟩ := hf x
      rw [if_pos hkey, hkey, hr, hq, hkey]
      rfl
    · rw [if_neg hkey, Bool.eq_false_iff.mpr hkey]

/-- A follower's run with the list that its lead sent (R294). -/
def taken (l : FollowList) (x : StepRun) : StepRun :=
  { x with got := true, entries := [], lead := some (l.lead, l.moon, l.slot), kstatus := if field l.bytes 4 4 = 0 then x.kstatus ||| 256 else x.kstatus }

/-- The task of a SERVICE step at its end (R298). -/
def serviced (s : State) (u : Machine.Task) (bits : Nat) : Machine.Task :=
  { (startTask s u .running).2 with phase := .done, kstatus := bits ||| 256 }

/-- Settles O32. -/
theorem stepsOpenAndClose : Obligations.StepsOpenAndClose := by
  unfold Obligations.StepsOpenAndClose
  refine ⟨⟨?_, ?_, ?_⟩, ?_, ?_, ?_, ?_, ?_, ?_, ?_, ?_⟩
  · intro s t m r u e c hready hcheck hctx hopen
    obtain ⟨_, rfl, rfl, _⟩ := readyStep_eq_some hready
    have hexec : exec (.stepRun u.moon u.ring) s = .next t := by
      show execStepRun u.moon u.ring s = _
      unfold execStepRun
      rw [hready]
      dsimp only
      rw [startStep_passed hcheck hctx, hopen]
    have hopened := openRun_opened _ _ _ _ _ hopen
    rw [getSlot_of_serve (startTask_serve s u .running)] at hopened
    exact ⟨hexec, hopened⟩
  · intro s s2 s3 m r bits u e c hready hcheck hctx hopen hwrite
    obtain ⟨hmem, hm, hr, _⟩ := readyStep_eq_some hready
    have hexec := exec_stepService hready hcheck hctx hopen hwrite
    subst hm hr
    have hx : (startTask s u .running).2 ∈ s3.tasks.tasks := by
      rw [writeEmpty_tasks hwrite, openRequests_tasks hopen]
      exact (startTask_sole hmem .running).mem
    have hfind : findTask (putTask s3 (serviced s u bits)) u.moon u.ring u.seq = some (serviced s u bits) :=
      findTask_putTask (u := (startTask s u .running).2) hx ⟨rfl, rfl, rfl⟩
    have hslot : SlotKept u.moon s (putTask s3 (serviced s u bits)) :=
      (((SlotKept.of_serve (startTask_serve s u .running)).trans (slotKept_openRequests _ _ _ _ _ hopen)).trans
        (slotKept_writeEmpty _ _ _ _ _ _ hwrite)).trans (SlotKept.of_serve rfl)
    refine ⟨⟨putTask s3 (serviced s u bits), hexec, phaseOf_of_find hfind, congrArg (Option.map Machine.Task.kstatus) hfind, fun a => ⟨rfl, rfl, rfl⟩,
      hslot.step _⟩, ?_⟩
    · intro a htail hhead hswap hunload
      rw [← getSlot_of_serve (startTask_serve s u .running)] at hswap hunload
      exact openRequests_idle htail hhead hswap hunload hopen
  · intro s m r u e c hready hcheck hctx
    obtain ⟨hmem, rfl, rfl, _⟩ := readyStep_eq_some hready
    have hfind : findTask (followEntered (startTask s u .running).1 (startTask s u .running).2 e) u.moon u.ring u.seq = some (startTask s u .running).2 :=
      findTask_of_sole (startTask_sole hmem .running)
    refine ⟨_, exec_follow hready hcheck hctx, phaseOf_of_find hfind, ?_, ?_⟩
    · rw [← getSlot_of_serve (startTask_serve s u .running)]
      exact congrArg Slot.step (getSlot_setSlot _ _ _ _)
    · exact congrArg Slot.running (getSlot_setSlot _ _ _ _)
  · intro s t m r q u run c hr h hres hfail hdone hgot hmode hall hctx hclose
    obtain ⟨hmem, rfl, rfl, rfl, _, hring, hseq⟩ := mem_of_running h
    obtain ⟨hleft, hphase⟩ := onOk_closeRun hmem hr hring hseq t hclose
    exact ⟨exec_stepClose_lead h hres hfail hdone hgot hmode hall hctx hclose, hphase, hleft.running, hleft.run⟩
  · intro s m r q u run hr h hres hfail hdone hgot hmode
    obtain ⟨hmem, rfl, rfl, rfl, _, hring, hseq⟩ := mem_of_running h
    let v : Machine.Task := { planMarks s u (16 + run.slot) with phase := .done, kstatus := run.kstatus.toNat }
    have hleft : RunLeft u.moon u.ring run.slot u.seq (emit (endRun s u.moon run) (followerReport u.moon run)) :=
      (runLeft_endRun hring hseq).kept (SlotKept.of_serve rfl)
    obtain ⟨hgone, hfind⟩ := closed_putTask (v := v) hleft (mem_endRun hmem hr) ⟨rfl, rfl, rfl⟩
    exact ⟨_, exec_stepClose_follower h hres hfail hdone hgot hmode, phaseOf_of_find hfind, hgone.running, List.mem_cons_self⟩
  · intro s m r q u v run hr h hplan hres hfail
    obtain ⟨hmem, rfl, rfl, rfl, hphase, hring, hseq⟩ := mem_of_running h
    refine ⟨failRun s u run 0x0407 0 (subtaskDetail v), ?_, failRun_failed hmem hphase hr hplan hring hseq _ _ _⟩
    show execStepClose u.moon u.ring u.seq s = _
    unfold execStepClose
    rw [h]
    dsimp only
    rw [if_neg hres, hfail]
  · intro s m r q u run hr h hres hbusy
    obtain ⟨hmem, rfl, rfl, rfl, _, hring, hseq⟩ := mem_of_running h
    obtain ⟨hleft, _, hfind⟩ := endFailed_left (u := u) (q := u.seq) hmem ⟨rfl, rfl, rfl⟩ hr hring hseq
    refine ⟨endFailed s u run, ?_, ?_, hleft.running, hleft.run⟩
    · show execStepClose u.moon u.ring u.seq s = _
      unfold execStepClose
      rw [h]
      dsimp only
      rw [if_pos hres, hbusy]
      rfl
    · rw [Option.map_eq_some_iff] at hfind ⊢
      obtain ⟨x, hx, heq⟩ := hfind
      refine ⟨x, hx, ?_⟩
      rw [hres] at heq
      exact congrArg (fun p : TaskPhase × Nat × Nat => (p.1, p.2.1)) heq
  · intro s s1 s2 m r lead lm lk q list u run hdr h hmode hgot hres hwrite hload
    obtain ⟨_, hrun, _⟩ := runningStep_eq_some h
    have hrun' : findRun s2 m r q = some (taken ⟨list, lead, lm, lk⟩ run) := by
      unfold findRun
      rw [getServe_of_serve (loadPlan_serve hload)]
      have hmap := findRun_modRuns s1 m r q (f := taken ⟨list, lead, lm, lk⟩) fun x => ⟨rfl, rfl⟩
      refine hmap.trans ?_
      unfold findRun
      rw [getServe_of_serve (writeMa_serve hwrite)]
      exact congrArg (Option.map _) hrun
    refine ⟨?_, ?_, ?_, ?_⟩
    · show execFollowWorkList m r q run.step ⟨list, lead, lm, lk⟩ s = _
      unfold execFollowWorkList
      rw [h]
      dsimp only
      refine (if_neg (by simp [hmode, hgot, hres])).trans ((if_neg (by simp)).trans ?_)
      rw [hwrite]
      dsimp only
      rw [hload]
    · exact sameBytes_of_frame (s := listTaken s1 m r q ⟨list, lead, lm, lk⟩) (fr_loadPlan _ hload _ rfl) rfl
    · rw [hrun']
      rfl
    · intro hempty
      rw [hrun']
      show some ((if field list 4 4 = 0 then run.kstatus ||| 256 else run.kstatus).toNat.testBit 8) = _
      rw [if_pos hempty, BitVec.toNat_or, Nat.testBit_or]
      exact congrArg some (Bool.or_true _)
  · intro s m r lead lm lk q step list u run hr h hplan hmode hgot hres hstep hbusy
    obtain ⟨hmem, rfl, rfl, rfl, hphase, hring, hseq⟩ := mem_of_running h
    obtain ⟨hfail, hfind⟩ := failRun_failed hmem hphase hr hplan hring hseq 0x0409 0 step.toNat
    rw [hbusy] at hfind
    refine ⟨failRun s u run 0x0409 0 step.toNat, ?_, hfind, hfail⟩
    show execFollowWorkList u.moon u.ring u.seq step ⟨list, lead, lm, lk⟩ s = _
    unfold execFollowWorkList
    rw [h]
    dsimp only
    exact (if_neg (by simp [hmode, hgot, hres])).trans (if_pos (by simp [hstep]))
  · intro s m r f q u run h hmode hf
    obtain ⟨_, hrun, _⟩ := runningStep_eq_some h
    refine ⟨modRuns s m r q fun x => { x with reported := addNum x.reported f }, ?_, ?_, ?_⟩
    · show execFollowReport m r q f s = _
      unfold execFollowReport
      rw [h]
      exact if_pos (by simp [hf, hmode])
    · rw [findRun_modRuns s m r q (f := fun x => { x with reported := addNum x.reported f }) fun x => ⟨rfl, rfl⟩, hrun]
      rfl
    · exact Fr.only (k := 2 ^ 7) (fr_setServe.up rfl) rfl
  · intro s m r f q u run hr h hplan hmode hres hf hnew hdue
    obtain ⟨hmem, rfl, rfl, rfl, hphase, hring, hseq⟩ := mem_of_running h
    obtain ⟨i, hi⟩ : ∃ i, (upTo run.followers.length).find? (fun i => !run.reported.contains i) = some i := by
      rw [← Option.isSome_iff_exists, List.find?_isSome]
      exact ⟨f, by simpa [upTo] using hf, by simpa using hnew⟩
    obtain ⟨hfail, hfind⟩ := failRun_failed hmem hphase hr hplan hring hseq 0x0408 0 (((run.followers[i]?).map (fun f => f.1)).getD 0)
    refine ⟨_, ?_, hfail, hfind⟩
    show execSpanTimeout u.moon u.ring u.seq s = _
    unfold execSpanTimeout
    rw [h]
    dsimp only
    rw [hi]
    exact if_pos (by simp [hmode, hres, hdue])

end Sys2Proof.Proofs
end

section
/-! The pipeline unit: its waits and its commands (R303, R304, R336). -/

set_option Elab.async false

namespace Sys2Proof.Proofs

open Sys2Proof.Machine Sys2Proof.Laws

/-! ## The unit of a moon -/

theorem getTrain_of_train {s t : State} (h : t.train = s.train) (m : Nat) : getTrain t m = getTrain s m := by
  unfold getTrain
  rw [h]

@[simp] theorem getTrain_modTrain (s : State) (m : Nat) (f : Train → Train) : getTrain (modTrain s m f) m = f (getTrain s m) := getTrain_setTrain _ _ _

@[simp] theorem getTrain_answer (s : State) (c m : Nat) : getTrain (answer s c) m = getTrain s m := getTrain_of_train (answer_train _ _) m

/-- A unit as it was, but for the time of its wait (R336). -/
def Waited (t u : Train) : Prop := ∃ a n, u = { t with waitAt := a, waitNs := n }

theorem Waited.refl (t : Train) : Waited t t := ⟨_, _, rfl⟩

theorem waited_flushWait (s : State) (m : Nat) : Waited (getTrain s m) (getTrain (flushWait s m) m) := by
  unfold flushWait
  dsimp only
  split
  · exact Waited.refl _
  · rw [getTrain_of_train (incB_train _ _ _ _), getTrain_setTrain]
    exact ⟨_, _, rfl⟩

theorem waited_endWait (s : State) (m : Nat) : Waited (getTrain s m) (getTrain (endWait s m) m) := by
  obtain ⟨a, n, h⟩ := waited_flushWait s m
  unfold endWait
  dsimp only
  rw [getTrain_setTrain, h]
  exact ⟨_, _, rfl⟩

theorem waited_noteWait (s : State) (m : Nat) : Waited (getTrain s m) (getTrain (noteWait s m) m) := by
  unfold noteWait
  dsimp only
  split
  · rw [getTrain_setTrain]
    exact ⟨_, _, rfl⟩
  · exact waited_endWait s m
  · exact Waited.refl _

theorem sameBytes_noteWait (s : State) (m : Nat) : SameBytes s (noteWait s m) := sameBytes_of_frame fr_noteWait rfl

theorem sameBytes_answer {s t : State} (h : SameBytes s t) (c : Nat) : SameBytes s (answer t c) := by
  intro a
  rw [answer_mem, answer_cores]
  exact h a

/-! ## OFF (R304) -/

/-- The unit in OFF. -/
def inOff (t : Train) : Train := { t with state := .off, resetting := false, prefetched := none, nextProgram := none, program := none }

/-- A draining unit that is done enters OFF; nothing else changes in it. -/
theorem pipeOff_unit (s : State) (m : Nat) : onOk (fun t => getTrain t m = getTrain s m ∨
    ((getTrain s m).state = .draining ∧ (getTrain s m).active = false ∧ getTrain t m = inOff (getTrain s m))) (pipeOff s m) := by
  unfold pipeOff
  dsimp only
  split
  · exact onOk_ok (.inl rfl)
  · split
    · rename_i hcond
      simp only [Bool.and_eq_true, beq_iff_eq, Bool.not_eq_true'] at hcond
      refine onOk_bind fun l _ => ?_
      split
      · refine onOk_ok (.inr ⟨hcond.1.1.1, hcond.1.1.2, ?_⟩)
        rw [getTrain_modTrain]
        rfl
      · exact onOk_ok (.inl rfl)
    · exact onOk_ok (.inl rfl)

/-- A unit that does not drain is not taken OFF. -/
theorem pipeOff_stays {s : State} {m : Nat} (h : (getTrain s m).state ≠ .draining) : pipeOff s m = .ok s := by
  unfold pipeOff
  dsimp only
  split
  · rfl
  · exact if_neg (by simp [h])

/-- Without a tile that cannot be read, OFF is decided. -/
theorem pipeOff_reads {s : State} {m : Nat} {r : PipeRec} {l : List (Nat × TileRec)} (hrec : (getTrain s m).pipeRec = some r)
    (hread : readTiles s m r (upTo r.tiles) = .ok l) : ∃ t, pipeOff s m = .ok t := by
  unfold pipeOff
  dsimp only
  rw [hrec]
  dsimp only
  rw [hread]
  split
  · rw [show ∀ g : List (Nat × TileRec) → Except Fail State, (Except.ok l >>= g) = g l from fun _ => rfl]
    split
    · exact ⟨_, rfl⟩
    · exact ⟨_, rfl⟩
  · exact ⟨_, rfl⟩

/-! ## START, DRAIN, RETRY and RESET -/

theorem modTiles_train {s t : State} {m : Nat} {r : PipeRec} {f : TileRec → TileRec} {l : List Nat} (h : modTiles s m r f l = .ok t) : t.train = s.train :=
  train_of_frame (fr_modTiles _ h) rfl

theorem startDerives_train {s t : State} {m : Nat} {r : PipeRec} {l : List Nat} (h : startDerives s m r l = .ok t) : t.train = s.train :=
  train_of_frame (fr_startDerives _ h) rfl

/-- A unit that has started (R304). -/
structure Started (p : PipeRec) (t : Train) : Prop where
  state : t.state = .running
  record : t.pipeRec = some p
  next : t.nextMb = 0
  flight : t.inFlight = []
  error : t.error = 0

theorem pipeStarted_starts (s : State) (m : Nat) (p : PipeRec) (b : Bytes) : onOk (fun t => Started p (getTrain t m)) (pipeStarted s m p b) := by
  unfold pipeStarted
  refine onOk_bind fun s1 _ => onOk_bind fun layers _ => fun t ht => ?_
  rw [getTrain_of_train (startDerives_train ht), getTrain_modTrain]
  exact ⟨rfl, rfl, rfl, rfl, rfl⟩

theorem Started.waited {p : PipeRec} {t u : Train} (h : Started p t) (hw : Waited t u) : Started p u := by
  obtain ⟨a, n, rfl⟩ := hw
  exact ⟨h.state, h.record, h.next, h.flight, h.error⟩

theorem pipeStart_ok {s s1 : State} {m : Nat} {p : PipeRec} {b : Bytes} (hoff : (getTrain s m).state = .off)
    (hread : readPipe s m (getTrain s m).ctxMa = .ok (some (p, b))) (hstart : pipeStarted s m p b = .ok s1) :
    pipeStart m s = .ok (noteWait s1 m) := by
  unfold pipeStart
  dsimp only
  rw [hread]
  dsimp only
  rw [hstart]
  exact if_neg (by simp [hoff])

/-- A unit that has taken DRAIN (R304). -/
structure Drained (t u : Train) : Prop where
  state : u.state = .draining ∨ u.state = .off
  active : t.active = true → u.state = .draining
  flight : u.inFlight = t.inFlight

theorem pipeDrain_drains {s : State} {m : Nat} (hrun : (getTrain s m).state = .running) :
    ∃ t, pipeDrain m s = .ok t ∧ Drained (getTrain s m) (getTrain t m) := by
  let u := setTrain s m { getTrain s m with state := .draining, nextProgram := none }
  have hu : getTrain u m = { getTrain s m with state := .draining, nextProgram := none } := getTrain_setTrain _ _ _
  have hnote : ∀ v, (getTrain v m = getTrain u m ∨ ((getTrain u m).state = .draining ∧ (getTrain u m).active = false ∧ getTrain v m = inOff (getTrain u m))) →
      Drained (getTrain s m) (getTrain (noteWait v m) m) := by
    intro v hv
    obtain ⟨a, n, hw⟩ := waited_noteWait v m
    rw [hw]
    rcases hv with hv | ⟨_, hidle, hv⟩ <;> rw [hv, hu]
    · exact ⟨.inl rfl, fun _ => rfl, rfl⟩
    · rw [hu] at hidle
      refine ⟨.inr rfl, fun hact => ?_, rfl⟩
      exact absurd (hact.symm.trans hidle) (by simp)
  unfold pipeDrain
  dsimp only
  rw [if_neg (by simp [hrun])]
  split
  · rename_i v hv
    exact ⟨_, rfl, hnote v (pipeOff_unit u m v hv)⟩
  · exact ⟨_, rfl, hnote u (.inl rfl)⟩

/-- The unit that RETRY leaves before its derivations (R304). -/
def retried (s : State) (m : Nat) (p : PipeRec) : State :=
  setTrain (if (getTrain s m).active then s else clearPlans s m) m
    { getTrain s m with pipeRec := some p, state := .running, error := 0, task := 0, code := 0, resetting := false
                        prefetched := if (getTrain s m).active then (getTrain s m).prefetched else none, nextProgram := none }

theorem pipeRetry_ok {s s1 : State} {m : Nat} {p : PipeRec} {b : Bytes} (hhalt : (getTrain s m).state = .halted)
    (hread : readPipe s m (getTrain s m).ctxMa = .ok (some (p, b))) (hretry : retryDerives (retried s m p) m p = .ok s1) :
    pipeRetry m s = .ok (noteWait (addRestore s1 m p) m) := by
  unfold pipeRetry
  dsimp only
  rw [hread]
  dsimp only
  unfold retried at hretry
  rw [hretry]
  exact if_neg (by simp [hhalt])

theorem retryDerives_train {s t : State} {m : Nat} {r : PipeRec} (h : retryDerives s m r = .ok t) : t.train = s.train :=
  train_of_frame (fr_retryDerives _ h) rfl

/-- The unit that RESET leaves before its tiles (R304). -/
def resetting (s : State) (m : Nat) : State :=
  setTrain (dropUnstarted s m [32, 35, restoreRing]) m
    { getTrain s m with state := .draining, resetting := true, inFlight := [], bwdSince := 0, taken := false, active := false
                        restoring := none, nextProgram := none, prefetched := none, program := none, fromRing := false }

theorem pipeReset_ok {s s1 s2 s3 : State} {m : Nat} {p : PipeRec} (hon : (getTrain s m).state ≠ .off) (hrec : (getTrain s m).pipeRec = some p)
    (htiles : modTiles (resetting s m) m p (fun t => { t with even := 0, odd := 0, failed := false }) (upTo p.tiles) = .ok s1)
    (hderive : startDerives s1 m p (upTo p.tiles) = .ok s2) (hoff : pipeOff s2 m = .ok s3) : pipeReset m s = .ok (noteWait s3 m) := by
  have heq : pipeReset m s = match (getTrain s m).pipeRec with
    | none => .error 7
    | some r =>
      if (getTrain s m).state = .off then .error 7
      else match (modTiles (resetting s m) m r (fun t => { t with even := 0, odd := 0, failed := false }) (upTo r.tiles) >>= fun s =>
          startDerives s m r (upTo r.tiles) >>= fun s => pipeOff s m) with
        | .ok s => .ok (noteWait s m)
        | .error e => if e.code = 0 then .error 8 else .ok (resetting s m) := rfl
  have hrun : (modTiles (resetting s m) m p (fun t => { t with even := 0, odd := 0, failed := false }) (upTo p.tiles) >>= fun s =>
      startDerives s m p (upTo p.tiles) >>= fun s => pipeOff s m) = .ok s3 := by
    rw [htiles]
    show (startDerives s1 m p (upTo p.tiles) >>= fun s => pipeOff s m) = .ok s3
    rw [hderive]
    exact hoff
  rw [heq, hrec]
  dsimp only
  rw [hrun]
  exact if_neg hon

/-- Settles O33. -/
theorem pipelineCommandsAct : Obligations.PipelineCommandsAct := by
  unfold Obligations.PipelineCommandsAct
  refine ⟨?_, ?_, ?_, ?_, ?_⟩
  · intro s w m0 m a hm hw
    subst hm
    refine ⟨fun hstate => ?_, fun hstate => ?_⟩
    · have hact : writePipeCtx (effMoon w m0) a s = .ok (setTrain s (effMoon w m0) { getTrain s (effMoon w m0) with ctxMa := a }) :=
        if_pos (by rcases hstate with h | h <;> rw [h] <;> rfl)
      have hexec : exec (.pipeCtx w m0 a) s = _ := command_ok hw hact
      refine ⟨_, hexec, rfl, ?_⟩
      rw [getTrain_answer, getTrain_setTrain]
    · have hact : writePipeCtx (effMoon w m0) a s = .error 8 :=
        if_neg (by rcases hstate with h | h <;> rw [h] <;> decide)
      have hexec : exec (.pipeCtx w m0 a) s = _ := command_error hw hact
      exact ⟨_, hexec, rfl, answer_train _ _⟩
  · intro s s1 w m0 m p b hm hw hoff hread hstart
    subst hm
    have hexec : exec (.pipeStart w m0) s = _ := command_ok hw (pipeStart_ok hoff hread hstart)
    have hstarted := (pipeStarted_starts s _ p b s1 hstart).waited (waited_noteWait s1 _)
    refine ⟨_, hexec, rfl, ?_⟩
    rw [getTrain_answer]
    exact ⟨hstarted.state, hstarted.record, hstarted.next, hstarted.flight, hstarted.error, sameBytes_answer (sameBytes_noteWait _ _) 0⟩
  · intro s w m0 m hm hw hrun
    subst hm
    obtain ⟨t, ht, hdrained⟩ := pipeDrain_drains hrun
    have hexec : exec (.pipeDrain w m0) s = _ := command_ok hw ht
    refine ⟨_, hexec, rfl, ?_⟩
    rw [getTrain_answer]
    exact ⟨hdrained.state, hdrained.active, hdrained.flight⟩
  · intro s s1 w m0 m p b hm hw hhalt hread hretry
    subst hm
    have hexec : exec (.pipeRetry w m0) s = _ := command_ok hw (pipeRetry_ok hhalt hread hretry)
    have htrain : getTrain (addRestore s1 (effMoon w m0) p) (effMoon w m0) = getTrain (retried s (effMoon w m0) p) (effMoon w m0) :=
      getTrain_of_train ((train_of_frame fr_addRestore rfl).trans (retryDerives_train hretry)) _
    obtain ⟨a, n, hwait⟩ := waited_noteWait (addRestore s1 (effMoon w m0) p) (effMoon w m0)
    refine ⟨_, hexec, rfl, ?_⟩
    rw [getTrain_answer, hwait, htrain]
    unfold retried
    rw [getTrain_setTrain]
    exact ⟨rfl, rfl, rfl, rfl, rfl⟩
  · rintro s s1 s2 w m0 m p hm hw hon hrec htiles hderive ⟨l, hl⟩
    subst hm
    have htrain : getTrain s2 (effMoon w m0) = getTrain (resetting s (effMoon w m0)) (effMoon w m0) :=
      getTrain_of_train ((startDerives_train hderive).trans (modTiles_train htiles)) _
    have hset : getTrain (resetting s (effMoon w m0)) (effMoon w m0) = _ := getTrain_setTrain _ _ _
    have hrec2 : (getTrain s2 (effMoon w m0)).pipeRec = some p := by
      rw [htrain, hset]
      exact hrec
    obtain ⟨s3, hoff⟩ := pipeOff_reads hrec2 hl
    have hexec : exec (.pipeReset w m0) s = _ := command_ok hw (pipeReset_ok hon hrec htiles hderive hoff)
    obtain ⟨a, n, hwait⟩ := waited_noteWait s3 (effMoon w m0)
    refine ⟨_, hexec, rfl, ?_⟩
    rw [getTrain_answer, hwait]
    rcases pipeOff_unit s2 _ s3 hoff with h | ⟨_, _, h⟩ <;> rw [h, htrain, hset]
    · exact ⟨rfl, rfl, .inl rfl⟩
    · exact ⟨rfl, rfl, .inr rfl⟩

end Sys2Proof.Proofs
end

section
/-! The programs of the pipeline unit: commands, starts and ends (R306 to R309, R312, R315 to R317, R320). -/

set_option Elab.async false

namespace Sys2Proof.Proofs

open Sys2Proof.Machine Sys2Proof.Laws

/-! ## Outcomes of the unit -/

theorem pipeRes_ok {s0 s : State} {m : Nat} (h : pipeOff s m = .ok s) : pipeRes s0 m (.ok s) = .next (noteWait s m) := by
  unfold pipeRes
  show (match pipeOff s m with
    | .ok s => _
    | .error e => _) = _
  rw [h]

/-- A unit that runs a program is not taken OFF. -/
theorem pipeOff_active {s : State} {m : Nat} (h : (getTrain s m).active = true) : pipeOff s m = .ok s := by
  unfold pipeOff
  dsimp only
  split
  · rfl
  · exact if_neg (by simp [h])

/-- A halted unit with its error (R312). -/
structure Halted (err task code : Nat) (t : Train) : Prop where
  state : t.state = .halted
  error : t.error = err
  task : t.task = task
  code : t.code = code

theorem pipeHalt_halts (s : State) (m err task code : Nat) : Halted err task code (getTrain (pipeHalt s m err task code) m) := by
  unfold pipeHalt
  dsimp only
  rw [getTrain_of_train (raiseMoon_train _ _ _ _), getTrain_setTrain]
  exact ⟨rfl, rfl, rfl, rfl⟩

theorem pipeHalt_restoring (s : State) (m err task code : Nat) : (getTrain (pipeHalt s m err task code) m).restoring = (getTrain s m).restoring := by
  obtain ⟨a, n, h⟩ := waited_endWait s m
  unfold pipeHalt
  dsimp only
  rw [getTrain_of_train (raiseMoon_train _ _ _ _), getTrain_setTrain, h]

/-! ## Commands of the ring (R309) -/

/-- The three kinds of program, and the OP that names each (R309). -/
def isForward : Program → Bool
  | .forward _ => true
  | _ => false

def isBackward : Program → Bool
  | .backward _ => true
  | _ => false

def isUpdate : Program → Bool
  | .update .. => true
  | _ => false

def programOp : Program → Nat
  | .forward _ => 1
  | .backward _ => 2
  | .update .. => 3

/-- The program that a command names fixes the command's OP. -/
theorem cmdProgram_op {t : Train} {r : PipeRec} {b : Bytes} {p : Program} (h : cmdProgram t r b = some p) :
    field b 0 1 = programOp p := by
  unfold cmdProgram at h
  dsimp only at h
  split at h
  · contradiction
  · split at h
    · rename_i hop
      split at h
      · cases h
        exact hop
      · contradiction
    · rename_i hop
      split at h
      · cases h
        exact hop
      · contradiction
    · rename_i hop
      split at h
      · cases h
        exact hop
      · split at h
        · cases h
          exact hop
        · contradiction
    · contradiction

/-- A command that passes its check names the next program. -/
theorem takePipeCmd_names {s : State} {m : Nat} {r : PipeRec} {b : Bytes} {p : Program} {mine : Nat → Bool} (hrec : (getTrain s m).pipeRec = some r)
    (hup : moonRuns s m = true) (hman : r.manual = true) (hrun : (getTrain s m).state = .running) (hidle : (getTrain s m).active = false)
    (htaken : (getTrain s m).taken = false) (hnone : (getTrain s m).nextProgram = none)
    (hread : readPipeCmd s m (getTrain s m) r (getTrain s m).cmdHead = .ok (some b)) (hcmd : cmdProgram (getTrain s m) r b = some p)
    (hder : ∀ f c, p = .update f c → onlyDeriving s m r f c = .ok true) (hmine : mine (field b 0 1) = true) :
    ∃ t, takePipeCmd s m mine = .next t ∧ (getTrain t m).nextProgram = some p ∧ (getTrain t m).state = .running ∧
      (getTrain t m).cmdHead = (getTrain s m).cmdHead := by
  let u := setTrain s m { getTrain s m with nextProgram := some p }
  have hu : getTrain u m = { getTrain s m with nextProgram := some p } := getTrain_setTrain _ _ _
  refine ⟨noteWait u m, ?_, ?_⟩
  · unfold takePipeCmd
    dsimp only
    split
    · rename_i hno
      exact absurd (hno.symm.trans hrec) (by simp)
    · rename_i r' hr'
      obtain rfl := Option.some.inj (hr'.symm.trans hrec)
      rw [if_neg (by simp [hup, hman, hrun, hidle, htaken, hnone]), hread]
      dsimp only
      rw [hcmd, hmine]
      refine (if_neg (by simp)).trans ?_
      cases p with
      | forward k => rfl
      | backward k => rfl
      | update f c =>
        dsimp only
        rw [hder f c rfl]
        exact pipeRes_ok (s := u) (pipeOff_stays (by rw [hu]; simp [hrun]))
  · obtain ⟨a, n, hw⟩ := waited_noteWait u m
    rw [hw, hu]
    exact ⟨rfl, hrun, rfl⟩

/-! ## The start of a program (R306, R310, R315) -/

/-- A unit that has begun a program: its counts as given. -/
structure Begun (p : Program) (mb : W32) (flight : List InFlight) (t : Train) : Prop where
  program : t.program = some p
  active : t.active = true
  next : t.nextMb = mb
  flight : t.inFlight = flight

theorem Begun.waited {p : Program} {mb : W32} {flight : List InFlight} {t u : Train} (h : Begun p mb flight t) (hw : Waited t u) :
    Begun p mb flight u := by
  obtain ⟨a, n, rfl⟩ := hw
  exact ⟨h.program, h.active, h.next, h.flight⟩

theorem addObj_train (s : State) (m k : Nat) (d : Int) : (addObj s m k d).1.train = s.train := train_of_frame fr_addObj rfl

theorem dropPlan_train (s : State) (m r : Nat) : (dropPlan s m r).train = s.train := train_of_frame fr_dropPlan rfl

/-- The unit's counts once a program has taken what it consumes (R306). -/
def takenUnit (t : Train) (r : PipeRec) (p : Program) : Train :=
  if t.taken then t else match p with
    | .forward k => pipeBegun t r (.forward k)
    | _ => t

theorem takeProgram_takes (s : State) (m : Nat) (r : PipeRec) (p : Program) :
    onOk (fun u => getTrain u m = takenUnit (getTrain s m) r p) (takeProgram s m r p) := by
  unfold takeProgram takenUnit
  dsimp only
  split
  · exact onOk_ok rfl
  · cases p with
    | forward k =>
      refine onOk_bind fun u _ => onOk_ok ?_
      rw [getTrain_setTrain]
    | backward k =>
      refine onOk_ok ?_
      split
      · rfl
      · exact getTrain_of_train (addObj_train _ _ _ _) m
    | update f c => exact onOk_ok rfl

theorem prefetchNext_unit (s : State) (m : Nat) (r : PipeRec) (p : Program) :
    onOk (fun u => ∃ x, getTrain u m = { getTrain s m with prefetched := x }) (prefetchNext s m r p) := by
  unfold prefetchNext
  dsimp only
  split
  · exact onOk_ok ⟨_, rfl⟩
  · refine onOk_bind fun o _ => ?_
    split
    · exact onOk_ok ⟨_, rfl⟩
    · exact onOk_ok ⟨_, rfl⟩
    · refine onOk_bind fun l _ => ?_
      split
      · exact onOk_ok ⟨_, getTrain_setTrain _ _ _⟩
      · exact onOk_ok ⟨(getTrain s m).prefetched, getTrain_of_train (dropPlan_train s m _) m⟩

/-- A program starts, or halts its unit. -/
theorem startProgram_starts (s : State) (m : Nat) (r : PipeRec) (p : Program) :
    onOk (fun u => (getTrain u m).state = .halted ∨
      Begun p (takenUnit (getTrain s m) r p).nextMb (takenUnit (getTrain s m) r p).inFlight (getTrain u m)) (startProgram s m r p) := by
  unfold startProgram
  refine onOk_bind fun u hu => ?_
  have htaken := takeProgram_takes s m r p u hu
  rw [htaken]
  refine onOk_bind fun o ho => ?_
  split
  · exact onOk_ok (.inl (pipeHalt_halts _ _ _ _ _).state)
  · have hload := train_of_frame (fr_loadPipe _ ho _ rfl) rfl
    refine onOk_bind fun v hv => ?_
    obtain ⟨x, hx⟩ := prefetchNext_unit _ m r p v hv
    have hbegun : Begun p (takenUnit (getTrain s m) r p).nextMb (takenUnit (getTrain s m) r p).inFlight (getTrain v m) := by
      rw [hx, getTrain_of_train hload, getTrain_setTrain]
      exact ⟨rfl, rfl, rfl, rfl⟩
    split
    · refine onOk_ok ?_
      split
      · exact .inl (pipeHalt_halts _ _ _ _ _).state
      · exact .inr hbegun
    · exact onOk_ok (.inr hbegun)

/-- A program whose turn it is and that waits for nothing starts (R306). -/
theorem tryStart_starts {s s1 : State} {m : Nat} {r : PipeRec} {p : Program} {mine : Program → Bool} (hrec : (getTrain s m).pipeRec = some r)
    (hup : moonRuns s m = true) (hidle : pipeIdle (getTrain s m) = true) (hsnap : (getTrain s m).snapStage ≠ 2)
    (hnext : nextUp (getTrain s m) r = some p) (hshape : reshapeDue s m = false) (hquiet : ringQuiet s m (pipeRing (getTrain s m)) = true)
    (hpre : (getTrain s m).prefetched = some p ∨ ringQuiet s m (if (getTrain s m).side then 32 else 35) = true)
    (hwait : waitFor s m (getTrain s m) r p = .ok 0) (hstart : startProgram s m r p = .ok s1) (hlive : (getTrain s1 m).state ≠ .halted)
    (hmine : mine p = true) : tryStart s m mine = .next (noteWait s1 m) ∧
      Begun p (takenUnit (getTrain s m) r p).nextMb (takenUnit (getTrain s m) r p).inFlight (getTrain (noteWait s1 m) m) := by
  have hbegun := (startProgram_starts s m r p s1 hstart).resolve_left hlive
  refine ⟨?_, hbegun.waited (waited_noteWait s1 m)⟩
  unfold tryStart
  dsimp only
  rw [hrec]
  dsimp only
  rw [if_neg (by simp [hup, hidle, hsnap, hshape]), hnext]
  dsimp only
  rw [if_neg (by simp [hmine]), if_neg (by rcases hpre with h | h <;> simp [hquiet, h]), hwait]
  show pipeRes s m (startProgram s m r p) = _
  rw [hstart]
  exact pipeRes_ok (pipeOff_active hbegun.active)

/-! ## The end of a program (R307, R308, R315 to R317) -/

/-- What the effect of a program leaves in the unit's counts. -/
structure SameRun (t u : Train) : Prop where
  state : u.state = t.state
  flight : u.inFlight = t.inFlight
  since : u.bwdSince = t.bwdSince
  steps : u.steps = t.steps

theorem SameRun.refl (t : Train) : SameRun t t := ⟨rfl, rfl, rfl, rfl⟩

theorem SameRun.trans {t u v : Train} (h : SameRun t u) (g : SameRun u v) : SameRun t v :=
  ⟨g.state.trans h.state, g.flight.trans h.flight, g.since.trans h.since, g.steps.trans h.steps⟩

theorem SameRun.of_train {s t : State} (h : t.train = s.train) (m : Nat) : SameRun (getTrain s m) (getTrain t m) := by
  rw [getTrain_of_train h]
  exact SameRun.refl _

theorem incB_sameRun (s : State) (p e n m : Nat) : SameRun (getTrain s m) (getTrain (incB s p e n) m) := SameRun.of_train (incB_train _ _ _ _) m

theorem closeGns_sameRun (s : State) (m : Nat) : SameRun (getTrain s m) (getTrain (closeGns s m) m) := by
  unfold closeGns
  dsimp only
  split
  · exact SameRun.refl _
  · split
    · rw [getTrain_setTrain]
      exact ⟨rfl, rfl, rfl, rfl⟩
    · rw [getTrain_of_train (incA_train _ _ _ _), getTrain_setTrain]
      split <;> exact ⟨rfl, rfl, rfl, rfl⟩

theorem updateLayers_sameRun (m : Nat) (r : PipeRec) (l : List Nat) (s : State) :
    onOk (fun u => SameRun (getTrain s m) (getTrain u m)) (updateLayers s m r l) := by
  induction l generalizing s with
  | nil => exact onOk_ok (SameRun.refl _)
  | cons x l ih =>
    refine onOk_bind fun u hu => ?_
    have hlayer : SameRun (getTrain s m) (getTrain u m) := by
      unfold updateLayer at hu
      revert u
      refine (show onOk (fun u => SameRun (getTrain s m) (getTrain u m)) _ from ?_)
      dsimp only
      split
      · exact onOk_ok (SameRun.refl _)
      · refine onOk_bind fun b _ => onOk_bind fun v _ => onOk_bind fun w _ => onOk_ok ?_
        rw [getTrain_setTrain]
        exact ⟨rfl, rfl, rfl, rfl⟩
    exact fun v hv => hlayer.trans (ih u v hv)

theorem programEffect_sameRun (s : State) (m : Nat) (r : PipeRec) (p : Program) :
    onOk (fun u => SameRun (getTrain s m) (getTrain u m)) (programEffect s m r p) := by
  cases p with
  | forward k => exact onOk_ok (incB_sameRun _ _ _ _ _)
  | backward k =>
    refine onOk_bind fun u hu => onOk_ok ?_
    exact (SameRun.of_train (modTiles_train hu) m).trans (incB_sameRun _ _ _ _ _)
  | update f c =>
    refine onOk_bind fun u hu => onOk_bind fun ls _ => onOk_bind fun v hv => onOk_ok ?_
    exact (((SameRun.of_train (modTiles_train hu) m).trans (updateLayers_sameRun m r ls u v hv)).trans (incB_sameRun _ _ _ _ _)).trans (closeGns_sameRun _ _)

theorem passCmd_sameRun (s : State) (m : Nat) : onOk (fun u => SameRun (getTrain s m) (getTrain u m)) (passCmd s m) := by
  unfold passCmd
  dsimp only
  split
  · intro u hu
    rw [getTrain_of_train (train_of_frame (fr_writeMa _ hu) rfl), getTrain_setTrain]
    exact ⟨rfl, rfl, rfl, rfl⟩
  · exact onOk_ok (SameRun.refl _)

/-- A unit whose program has ended (R307). -/
structure Ended (t : Train) (p : Program) (u : Train) : Prop where
  state : u.state = t.state
  program : u.program = none
  active : u.active = false
  flight : ∀ k, p = .backward k → (∀ f ∈ u.inFlight, f.mb ≠ k) ∧ u.bwdSince = t.bwdSince + 1
  steps : ∀ f c, p = .update f c → u.steps = t.steps + 1 ∧ u.bwdSince = 0

theorem startRestore_unit (t : Train) (r : PipeRec) : ∃ x, startRestore t r = { t with restoring := x } := by
  unfold startRestore
  split
  · split
    · exact ⟨_, rfl⟩
    · exact ⟨_, rfl⟩
  · exact ⟨_, rfl⟩

theorem pipeEnded_ends {t u : Train} (r : PipeRec) (p : Program) (h : SameRun t u) : Ended t p (pipeEnded u r p) := by
  cases p with
  | forward k => exact ⟨h.state, rfl, rfl, fun _ hp => (by cases hp), fun _ _ hp => (by cases hp)⟩
  | backward k =>
    unfold pipeEnded
    dsimp only
    obtain ⟨x, hx⟩ := startRestore_unit { { u with program := none, active := false, taken := false, nextProgram := none, fromRing := false } with
      inFlight := u.inFlight.filter fun f => f.mb != k, bwdSince := u.bwdSince + 1 } r
    rw [hx]
    refine ⟨h.state, rfl, rfl, fun k' hk => ?_, fun _ _ hp => by cases hp⟩
    cases hk
    exact ⟨fun f hf => by simpa using (List.mem_filter.mp hf).2, by rw [h.since]⟩
  | update f c => exact ⟨h.state, rfl, rfl, fun _ hp => (by cases hp), fun _ _ _ => ⟨by rw [← h.steps]; rfl, rfl⟩⟩

theorem Ended.waited {t u v : Train} {p : Program} (h : Ended t p u) (hw : Waited u v) : Ended t p v := by
  obtain ⟨a, n, rfl⟩ := hw
  exact ⟨h.state, h.program, h.active, h.flight, h.steps⟩

/-- A program whose plan has completed ends. -/
theorem endProgram_ends {s s1 s2 s3 : State} {m : Nat} {r : PipeRec} {p : Program} {mine : Program → Bool} (hup : isUp s = true)
    (hrec : (getTrain s m).pipeRec = some r) (hreset : (getTrain s m).resetting = false) (hprog : (getTrain s m).program = some p)
    (hact : (getTrain s m).active = true) (hrun : (getTrain s m).state = .running) (hfail : planFailed s m (pipeRing (getTrain s m)) = none)
    (hdone : planComplete s m (pipeRing (getTrain s m)) = true)
    (heffect : programEffect (dropPlan s m (pipeRing (getTrain s m))) m r p = .ok s1) (hpass : passCmd s1 m = .ok s2)
    (hderive : startDerives (addRestore (modTrain s2 m fun t => pipeEnded t r p) m r) m r (upTo r.tiles) = .ok s3) (hmine : mine p = true) :
    endProgram s m mine = .next (noteWait s3 m) ∧ Ended (getTrain s m) p (getTrain (noteWait s3 m) m) := by
  have hsame : SameRun (getTrain s m) (getTrain s2 m) :=
    ((SameRun.of_train (dropPlan_train _ _ _) m).trans (programEffect_sameRun _ m r p s1 heffect)).trans (passCmd_sameRun s1 m s2 hpass)
  have hended : Ended (getTrain s m) p (getTrain s3 m) := by
    rw [getTrain_of_train ((startDerives_train hderive).trans (train_of_frame fr_addRestore rfl)), getTrain_modTrain]
    exact pipeEnded_ends r p hsame
  refine ⟨?_, hended.waited (waited_noteWait s3 m)⟩
  unfold endProgram
  dsimp only
  rw [hrec]
  dsimp only
  rw [if_neg (by simp [hreset]), hprog]
  dsimp only
  rw [if_neg (by simp [hmine, hact, hup, hrun]), hfail]
  dsimp only
  rw [if_neg (by simp [hdone]), heffect]
  show pipeRes s m (passCmd s1 m >>= fun s => startDerives (addRestore (modTrain s m fun t => pipeEnded t r p) m r) m r (upTo r.tiles)) = _
  rw [hpass]
  show pipeRes s m (startDerives (addRestore (modTrain s2 m fun t => pipeEnded t r p) m r) m r (upTo r.tiles)) = _
  rw [hderive]
  exact pipeRes_ok (pipeOff_stays (by rw [hended.state, hrun]; simp))

/-- A plan that has failed halts the unit (R312). -/
theorem endProgram_halts {s : State} {m : Nat} {r : PipeRec} {p : Program} {u : Machine.Task} {mine : Program → Bool} (hup : isUp s = true)
    (hrec : (getTrain s m).pipeRec = some r) (hreset : (getTrain s m).resetting = false) (hprog : (getTrain s m).program = some p)
    (hact : (getTrain s m).active = true) (hrun : (getTrain s m).state = .running) (hfail : planFailed s m (pipeRing (getTrain s m)) = some u)
    (hmine : mine p = true) : endProgram s m mine = .next (pipeHalt s m 3 u.seq.toNat u.error) := by
  unfold endProgram
  dsimp only
  rw [hrec]
  dsimp only
  rw [if_neg (by simp [hreset]), hprog]
  dsimp only
  rw [if_neg (by simp [hmine, hact, hup, hrun]), hfail]

/-! ## Derivations and restores (R317, R320) -/

theorem deriveTask_dropped {s t : State} {m i : Nat} (h : t.tasks = (dropDerive s m i).tasks) : deriveTask t m i = none := by
  unfold deriveTask
  rw [h, List.find?_eq_none]
  intro x hx hkey
  have hkept := (List.mem_filter.mp hx).2
  rw [hkey] at hkept
  cases hkept

/-- The restores of a moon taken away. -/
def dropRestores (s : State) (m : Nat) : State :=
  { s with tasks := { s.tasks with tasks := s.tasks.tasks.filter fun t => !(t.moon == m && t.ring == restoreRing) } }

theorem ringTasks_dropRestores {s t : State} {m : Nat} (h : t.tasks = (dropRestores s m).tasks) : ringTasks t m restoreRing = [] := by
  unfold ringTasks
  rw [h, List.filter_eq_nil_iff]
  intro x hx hkey
  have hkept := (List.mem_filter.mp hx).2
  rw [hkey] at hkept
  cases hkept

/-- The activations of a micro-batch stand in the region (R320). -/
def restored (t : Train) (k : W32) : Train :=
  { t with restoring := none, inFlight := t.inFlight.map fun f => if f.mb == k then { f with inRegion := true } else f }

theorem restored_inRegion (t : Train) (k : W32) : ∀ f ∈ (restored t k).inFlight, f.mb = k → f.inRegion = true := by
  intro f hf hk
  obtain ⟨g, hg, rfl⟩ := List.mem_map.mp hf
  by_cases hkey : (g.mb == k) = true
  · rw [if_pos hkey]
  · rw [if_neg hkey] at hk
    exact absurd (by simpa using hk) hkey

theorem exec_actRestoreDone {s : State} {m : Nat} {k : W32} {u : Machine.Task} (hup : isUp s = true)
    (hhead : (ringTasks s m restoreRing).head? = some u) (hdone : u.completed = true) (hrest : (getTrain s m).restoring = some k) :
    exec (.actRestoreDone m) s = if u.result = 0 then .next (noteWait (setTrain (dropRestores s m) m (restored (getTrain s m) k)) m)
      else .next (if (getTrain s m).state == .off || (getTrain s m).state == .halted then dropRestores s m
        else pipeHalt (dropRestores s m) m 7 0 u.error) := by
  show execActRestoreDone m s = _
  unfold execActRestoreDone
  rw [hhead]
  dsimp only
  rw [if_neg (by simp [hup, hdone]), hrest]
  rfl

/-- Settles O34. -/
theorem programsStartAndEnd : Obligations.ProgramsStartAndEnd := by
  unfold Obligations.ProgramsStartAndEnd
  refine ⟨⟨?_, ?_⟩, ?_, ?_, ?_, ?_⟩
  · intro s m r b p hrec hup hman hrun hidle htaken hnone hread hcmd hder
    have hop := cmdProgram_op hcmd
    have hnames := fun mine => takePipeCmd_names (mine := mine) hrec hup hman hrun hidle htaken hnone hread hcmd hder
    refine ⟨?_, ?_, ?_⟩
    · rintro k rfl
      exact hnames (fun op => op == 1 || opReserved op) (by rw [hop]; rfl)
    · rintro k rfl
      exact hnames (fun op => op == 2 || opReserved op) (by rw [hop]; rfl)
    · rintro f c rfl
      exact hnames (fun op => op == 3 || opReserved op) (by rw [hop]; rfl)
  · intro s s1 m r p hrec hup hidle hsnap hnext hshape hquiet hpre hwait hstart hlive
    have hstarts := fun mine => tryStart_starts (mine := mine) hrec hup hidle hsnap hnext hshape hquiet hpre hwait hstart hlive
    refine ⟨?_, ?_, ?_⟩
    · rintro k rfl
      obtain ⟨hexec, hbegun⟩ := hstarts isForward rfl
      refine ⟨_, hexec, ⟨hbegun.program, hbegun.active, sameBytes_noteWait _ _⟩, fun htaken => ?_⟩
      have hunit : takenUnit (getTrain s m) r (.forward k) = pipeBegun (getTrain s m) r (.forward k) := if_neg (by simp [htaken])
      rw [hbegun.next, hbegun.flight, hunit]
      exact ⟨rfl, _, List.mem_append_right _ List.mem_cons_self, rfl⟩
    · rintro k rfl
      obtain ⟨hexec, hbegun⟩ := hstarts isBackward rfl
      exact ⟨_, hexec, hbegun.program, hbegun.active, sameBytes_noteWait _ _⟩
    · rintro f c rfl
      obtain ⟨hexec, hbegun⟩ := hstarts isUpdate rfl
      exact ⟨_, hexec, hbegun.program, hbegun.active, sameBytes_noteWait _ _⟩
  · intro s s1 s2 s3 m r p hup hrec hreset hprog hact hrun hfail hdone heffect hpass hderive
    have hends := fun mine => endProgram_ends (mine := mine) hup hrec hreset hprog hact hrun hfail hdone heffect hpass hderive
    refine ⟨?_, ?_, ?_⟩
    · rintro k rfl
      obtain ⟨hexec, hended⟩ := hends isForward rfl
      exact ⟨_, hexec, hended.program, hended.active, sameBytes_noteWait _ _⟩
    · rintro k rfl
      obtain ⟨hexec, hended⟩ := hends isBackward rfl
      exact ⟨_, hexec, ⟨hended.program, hended.active, sameBytes_noteWait _ _⟩, hended.flight k rfl⟩
    · rintro f c rfl
      obtain ⟨hexec, hended⟩ := hends isUpdate rfl
      exact ⟨_, hexec, ⟨hended.program, hended.active, sameBytes_noteWait _ _⟩, hended.steps f c rfl⟩
  · intro s m r p u hup hrec hreset hprog hact hrun hfail
    have hhalts := fun mine => endProgram_halts (mine := mine) hup hrec hreset hprog hact hrun hfail
    obtain ⟨hstate, herror, htask, hcode⟩ := pipeHalt_halts s m 3 u.seq.toNat u.error
    refine ⟨?_, ?_, ?_⟩
    · rintro k rfl
      exact ⟨_, hhalts isForward rfl, hstate, herror, htask, hcode⟩
    · rintro k rfl
      exact ⟨_, hhalts isBackward rfl, hstate, herror, htask, hcode⟩
    · rintro f c rfl
      exact ⟨_, hhalts isUpdate rfl, hstate, herror, htask, hcode⟩
  · intro s s1 m i r u hup htask hdone hrec
    refine ⟨fun hres hrun htiles => ?_, fun hres hrun htiles => ?_⟩
    · have htrain : getTrain s1 m = getTrain s m := getTrain_of_train (modTiles_train htiles) m
      refine ⟨noteWait s1 m, ?_, ?_, sameBytes_noteWait _ _⟩
      · show execDeriveDone m i s = _
        unfold execDeriveDone
        rw [htask, hrec]
        dsimp only
        rw [if_neg (by simp [hup, hdone]), if_pos hres, htiles]
        exact pipeRes_ok (pipeOff_stays (by rw [htrain, hrun]; simp))
      · exact deriveTask_dropped ((tasks_of_frame fr_noteWait rfl).trans (tasks_of_frame (fr_modTiles _ htiles) rfl))
    · have hhalted := pipeHalt_halts s1 m 4 i u.error
      refine ⟨pipeHalt s1 m 4 i u.error, ?_, hhalted.state, hhalted.error, hhalted.task⟩
      show execDeriveDone m i s = _
      unfold execDeriveDone
      rw [htask, hrec]
      dsimp only
      rw [if_neg (by simp [hup, hdone]), if_neg hres, htiles]
      exact congrArg Host.Outcome.next (if_neg (by simp [hrun]))
  · intro s m k u hup hhead hdone hrest
    have hexec := exec_actRestoreDone hup hhead hdone hrest
    refine ⟨fun hres => ?_, fun hres hrun => ?_⟩
    · rw [if_pos hres] at hexec
      have hset : getTrain (setTrain (dropRestores s m) m (restored (getTrain s m) k)) m = restored (getTrain s m) k := getTrain_setTrain _ _ _
      obtain ⟨a, n, hw⟩ := waited_noteWait (setTrain (dropRestores s m) m (restored (getTrain s m) k)) m
      have htasks : (noteWait (setTrain (dropRestores s m) m (restored (getTrain s m) k)) m).tasks = (dropRestores s m).tasks :=
        tasks_of_frame (s := setTrain (dropRestores s m) m (restored (getTrain s m) k)) fr_noteWait rfl
      refine ⟨_, hexec, ?_, ringTasks_dropRestores htasks, ?_, ?_⟩
      · rw [hw, hset]
        rfl
      · rw [hw, hset]
        exact restored_inRegion _ _
      · exact sameBytes_noteWait (setTrain (dropRestores s m) m (restored (getTrain s m) k)) m
    · rw [if_neg hres, if_neg (by rcases hrun with h | h <;> simp [h])] at hexec
      have hhalted := pipeHalt_halts (dropRestores s m) m 7 0 u.error
      exact ⟨_, hexec, hhalted.state, hhalted.error, hhalted.code, (pipeHalt_restoring _ _ _ _ _).trans hrest⟩

end Sys2Proof.Proofs
end

section
/-! The gradient-noise statistic and the entropy sources (R325 to R327). -/

set_option Elab.async false

namespace Sys2Proof.Proofs

open Sys2Proof.Machine Sys2Proof.Laws

/-! ## The statistic (R326, R327) -/

theorem closeGns_sums {s : State} {m : Nat} {g : GnsCfg} (h : (getTrain s m).gns = some g) :
    (getTrain (closeGns s m) m).gnsL = 0 ∧ (getTrain (closeGns s m) m).gnsG = 0 ∧
    (g.enable = true → (decFloat fp64 (getTrain s m).gnsL).isZero = false → (decFloat fp64 (getTrain s m).gnsG).isZero = false →
      (getTrain (closeGns s m) m).gnsSeen = true) := by
  unfold closeGns
  dsimp only
  split
  · rename_i hno
    exact absurd (hno.symm.trans h) (by simp)
  rename_i g' hg
  obtain rfl := Option.some.inj (hg.symm.trans h)
  split
  · rename_i hdrop
    rw [getTrain_setTrain]
    refine ⟨rfl, rfl, fun hen hl hg => ?_⟩
    simp [hen, hl, hg] at hdrop
  · rw [getTrain_of_train (incA_train _ _ _ _), getTrain_setTrain]
    split
    · rename_i hseen
      exact ⟨rfl, rfl, fun _ _ _ => hseen⟩
    · exact ⟨rfl, rfl, fun _ _ _ => rfl⟩

/-! ## Entropy sources (R325) -/

theorem sec_foldl {α : Type} {f : State → α → State} (h : ∀ s a, (f s a).sec.entropyBad = s.sec.entropyBad) (l : List α) (s : State) :
    (l.foldl f s).sec.entropyBad = s.sec.entropyBad := by
  induction l generalizing s with
  | nil => rfl
  | cons a l ih => exact (ih _).trans (h s a)

/-- A moon's pages go; its key went before. -/
def pagesGone (s : State) (m : Nat) : State :=
  (getMoon s m).table.foldl (fun s e => if e.2.owner = m then freePage s (pageKey e.2.stack e.2.page) else s) s

theorem pagesGone_entropy (s : State) (m : Nat) : (pagesGone s m).sec.entropyBad = s.sec.entropyBad := by
  refine sec_foldl (fun s e => ?_) _ s
  split
  · exact congrArg SecUnit.entropyBad (sec_of_frame fr_freePage rfl)
  · rfl

/-- A moon that goes takes its key with it and no mark of a source. -/
theorem freeMoon_entropy (s : State) (m : Nat) : (freeMoon s m).sec.entropyBad = s.sec.entropyBad := by
  unfold freeMoon
  extract_lets s1 q1 q2 s2 s3 s4 x q3 q4 s5
  have h1 : s1.sec = s.sec := (sec_of_frame fr_clearCores rfl).trans (sec_of_frame fr_stopMoon rfl)
  clear_value s1
  have h2 : s2.sec.entropyBad = s1.sec.entropyBad := rfl
  have h3 : s3.sec.entropyBad = s2.sec.entropyBad := pagesGone_entropy s2 m
  have h4 : s4.sec = s3.sec := (sec_of_frame fr_keepBlocks rfl).trans (sec_of_frame fr_resave rfl)
  have h5 : s5.sec = s4.sec := setMoon_sec _ _ _
  have h6 : (clearCounters (closeCredit s5 m) m true).sec = s5.sec := (sec_of_frame fr_clearCounters rfl).trans (sec_of_frame fr_closeCredit rfl)
  rw [h6, h5, h4, h3, h2, h1]

theorem faultMoon_entropy (s : State) (m : Nat) : (faultMoon s m).sec.entropyBad = s.sec.entropyBad := by
  unfold faultMoon
  split
  · rfl
  · exact (congrArg SecUnit.entropyBad (modMoon_sec _ _ _)).trans ((freeMoon_entropy _ _).trans (congrArg SecUnit.entropyBad (sec_of_frame fr_closeSpan rfl)))

/-- Fault-Stop erases keys and no mark of a source (R471). -/
theorem faultStop_entropy (s : State) (r : FaultReason) : (faultStop s r).sec.entropyBad = s.sec.entropyBad := by
  unfold faultStop
  split
  · rfl
  · extract_lets p t1 t2 t3 t4 p5 t5
    have h2 : t2.sec.entropyBad = s.sec.entropyBad :=
      (congrArg SecUnit.entropyBad (sec_of_frame fr_disableRings rfl)).trans (sec_foldl faultMoon_entropy _ t1)
    have h3 : t3.sec = t2.sec := by
      show (if _ then _ else _ : State).sec = _
      split
      · exact jMust_sec _ _
      · rfl
    rw [announce_sec, raisePf_sec]
    show t3.sec.entropyBad = _
    rw [h3, h2]

/-- A die's source has failed: it is marked, counted and reported (R325). -/
def sourceFailed (s : State) (d : Nat) : State :=
  raisePf (incA { s with sec := { s.sec with entropyBad := addNum s.sec.entropyBad d } } 0x9300 d 1) 0x0906 [d]

theorem sourceFailed_sec (s : State) (d : Nat) : (sourceFailed s d).sec.entropyBad = addNum s.sec.entropyBad d := by
  unfold sourceFailed
  rw [raisePf_sec, incA_sec]

theorem sourceFailed_power (s : State) (d : Nat) : (sourceFailed s d).power = s.power := by
  unfold sourceFailed
  rw [raisePf_power, incA_power]

/-- Every source of the four has failed. -/
theorem allFailed_iff (s : State) (d : Nat) : ((upTo 4).all fun e => (sourceFailed s d).sec.entropyBad.contains e) = true ↔
    ∀ e, e < 4 → e ≠ d → e ∈ s.sec.entropyBad := by
  rw [sourceFailed_sec, List.all_eq_true]
  refine ⟨fun h e he hne => ?_, fun h e he => ?_⟩
  · have hin := List.contains_iff_mem.mp (h e (by simpa [upTo] using he))
    exact (mem_addNum.mp hin).resolve_left hne
  · refine List.contains_iff_mem.mpr (mem_addNum.mpr ?_)
    by_cases hed : e = d
    · exact .inl hed
    · exact .inr (h e (by simpa [upTo] using he) hed)

theorem exec_entropyTestFail {s : State} (d : Nat) (hup : isUp s = true) : exec (.entropyTestFail d) s =
    if (upTo 4).all fun e => (sourceFailed s d).sec.entropyBad.contains e then .next (faultStop (sourceFailed s d) .entropy)
    else .next (sourceFailed s d) := by
  show execEntropyTestFail d s = _
  unfold execEntropyTestFail
  exact if_neg (by simp [hup])

/-- Settles O35. -/
theorem gradientNoiseAndEntropy : Obligations.GradientNoiseAndEntropy := by
  unfold Obligations.GradientNoiseAndEntropy
  refine ⟨?_, ?_, ?_⟩
  · intro s w m0 m g hm hw hown
    subst hm
    refine ⟨fun hgood => ?_, fun hbad => ?_⟩
    · have hact : (if ownRole s w (effMoon w m0) then writeGns (effMoon w m0) g s else .error 3) = .ok (setTrain s (effMoon w m0)
          { getTrain s (effMoon w m0) with gns := some g, gnsL := 0, gnsG := 0, gnsSeen := false, gnsMean := 0, gnsNoise := 0 }) :=
        (if_pos hown).trans (if_neg (by simp [hgood]))
      have hexec : exec (.gnsCfg w m0 g) s = _ :=
        command_ok (f := fun s => if ownRole s w (effMoon w m0) then writeGns (effMoon w m0) g s else .error 3) hw hact
      refine ⟨_, hexec, rfl, ?_⟩
      rw [getTrain_answer, getTrain_setTrain]
      exact ⟨rfl, rfl, rfl, rfl⟩
    · have hact : (if ownRole s w (effMoon w m0) then writeGns (effMoon w m0) g s else .error 3) = .error 7 := (if_pos hown).trans (if_pos hbad)
      have hexec : exec (.gnsCfg w m0 g) s = _ :=
        command_error (f := fun s => if ownRole s w (effMoon w m0) then writeGns (effMoon w m0) g s else .error 3) hw hact
      exact ⟨_, hexec, rfl, answer_train _ _⟩
  · intro s w m0 m g hm hw hown hgns
    subst hm
    have hact : (if ownRole s w (effMoon w m0) then (.ok (closeGns s (effMoon w m0)) : Except Nat State) else .error 3) =
        .ok (closeGns s (effMoon w m0)) := if_pos hown
    have hexec : exec (.gnsClose w m0) s = _ :=
      command_ok (f := fun s => if ownRole s w (effMoon w m0) then .ok (closeGns s (effMoon w m0)) else .error 3) hw hact
    refine ⟨_, hexec, rfl, ?_⟩
    rw [getTrain_answer]
    exact closeGns_sums hgns
  · intro s d hup _
    have hphase : s.power.phase = .up := by simpa [isUp] using hup
    have hexec := exec_entropyTestFail d hup
    have hmark : d ∈ (sourceFailed s d).sec.entropyBad := by
      rw [sourceFailed_sec]
      exact mem_addNum.mpr (.inl rfl)
    by_cases hall : ((upTo 4).all fun e => (sourceFailed s d).sec.entropyBad.contains e) = true
    · rw [if_pos hall] at hexec
      refine ⟨_, hexec, ?_, fun ⟨e, he, hne, hgood⟩ => absurd ((allFailed_iff s d).mp hall e he hne) hgood, fun _ => ?_⟩
      · rw [faultStop_entropy]
        exact hmark
      · obtain ⟨hstop, hreason, _⟩ := faultStop_power (r := .entropy) (s := sourceFailed s d) (.inl (by rw [sourceFailed_power]; exact hphase))
        exact ⟨hstop, hreason⟩
    · rw [if_neg hall] at hexec
      refine ⟨_, hexec, hmark, fun _ => ?_, fun hbad => absurd ((allFailed_iff s d).mpr hbad) hall⟩
      rw [sourceFailed_power]
      exact hphase

end Sys2Proof.Proofs
end

section
/-! Evaluation snapshots (R328, R329, R333). -/

set_option Elab.async false

namespace Sys2Proof.Proofs

open Sys2Proof.Machine Sys2Proof.Laws

/-! ## The state of a snapshot -/

/-- SNAP_STATE from its parts (R329). -/
def snapWord (st op code : Nat) : W32 := BitVec.ofNat 32 (st + 256 * op + 65536 * (code % 65536))

theorem getTrain_setSnap (s : State) (m st op code : Nat) : getTrain (setSnap s m st op code) m = { getTrain s m with snapState := snapWord st op code } :=
  getTrain_modTrain _ _ _

theorem sameBytes_endSnap (s : State) (m : Nat) (c : SnapCmd) (op code : Nat) : SameBytes s (endSnap s m c op code) := sameBytes_of_frame fr_endSnap rfl

theorem sameBytes_trans {s t u : State} (h : SameBytes s t) (g : SameBytes t u) : SameBytes s u := fun a => by
  obtain ⟨hhbm, hspm, hvreg⟩ := h a
  obtain ⟨ghbm, gspm, gvreg⟩ := g a
  exact ⟨ghbm.trans hhbm, gspm.trans hspm, gvreg.trans hvreg⟩

/-- A snapshot that has ended leaves nothing but SNAP_STATE (R329). -/
theorem getTrain_endSnap (s : State) (m : Nat) (c : SnapCmd) (op code : Nat) : getTrain (endSnap s m c op code) m =
    { getTrain s m with snapState := snapWord (if code = 0 then 3 else 4) op code, snap := none, snapStage := 0 } := by
  have hend : (getTrain (modTrain (setSnap s m (if code = 0 then 3 else 4) op code) m fun t => { t with snap := none, snapStage := 0 }) m) =
      { getTrain s m with snapState := snapWord (if code = 0 then 3 else 4) op code, snap := none, snapStage := 0 } := by
    rw [getTrain_modTrain, getTrain_setSnap]
  have hsend : ∀ (u : State) (k : CtlKind) (f : Nat) (l : List Nat), (sendCtl u k f l).train = u.train := fun u k f l => train_of_frame fr_sendCtl rfl
  unfold endSnap
  dsimp only
  split
  · rw [getTrain_of_train (raiseMoon_train _ _ _ _), hend]
  · split
    · rw [getTrain_of_train (hsend _ _ _ _), getTrain_of_train (raiseMoon_train _ _ _ _), hend]
    · rw [getTrain_of_train (raiseMoon_train _ _ _ _), getTrain_of_train (raiseMoon_train _ _ _ _), hend]

/-- An ended snapshot, with its word. -/
structure SnapEnded (word : W32) (t : Train) : Prop where
  none : t.snap = none
  stage : t.snapStage = 0
  word : t.snapState = word

theorem endSnap_ends (s : State) (m : Nat) (c : SnapCmd) (op code : Nat) :
    SnapEnded (snapWord (if code = 0 then 3 else 4) op code) (getTrain (endSnap s m c op code) m) := by
  rw [getTrain_endSnap]
  exact ⟨rfl, rfl, rfl⟩

theorem SnapEnded.waited {word : W32} {t u : Train} (h : SnapEnded word t) (hw : Waited t u) : SnapEnded word u := by
  obtain ⟨a, n, rfl⟩ := hw
  exact ⟨h.none, h.stage, h.word⟩

/-! ## Commands -/

/-- A snapshot taken, armed or pending (R329). -/
def snapKept (s : State) (w : Who) (m : Nat) (c : SnapCmd) : State :=
  modTrain (setSnap s m (if c.whenEn then 1 else 2) 1 0) m fun t => { t with snap := some (c, w), snapStage := if c.whenEn then 1 else 2 }

theorem snapshotCmd_kept {s : State} {w : Who} {m : Nat} {c : SnapCmd} (hfree : (getTrain s m).snapStage = 0) (hrsv : c.rsv = false)
    (hmoon : c.targetMoon ≤ 63) (hlayout : c.whenEn = true ∨ snapNoLayout (getTrain s m) = false) :
    snapshotCmd w m c s = .ok (snapKept s w m c) := by
  unfold snapshotCmd
  refine (if_neg (by simp [hfree])).trans ((if_neg (by simp [hrsv, hmoon])).trans (if_neg ?_))
  rcases hlayout with h | h <;> simp [h]

theorem snapCancelCmd_ends {s : State} {m : Nat} {c d : SnapCmd} {v : Who} (hstage : (getTrain s m).snapStage = 1)
    (hsnap : (getTrain s m).snap = some (d, v)) (hrsv : c.rsv = false) : snapCancelCmd m c s = .ok (endSnap s m d 1 0xE) := by
  unfold snapCancelCmd
  dsimp only
  rw [hsnap]
  exact (if_neg (by simp [hrsv])).trans (if_pos hstage)

/-! ## Arming, capture and the end -/

theorem exec_snapshotArm {s : State} {m : Nat} {c : SnapCmd} {w : Who} (hup : moonRuns s m = true) (hsnap : (getTrain s m).snap = some (c, w))
    (hstage : (getTrain s m).snapStage = 1) (horbit : s.orbit.state ≠ .unlocked) (hwhen : c.whenOrbit ≤ s.orbit.now)
    (hfirst : earlierDue s 5 c.whenOrbit = false) (hlayout : snapNoLayout (getTrain s m) = false) :
    exec (.snapshotArm m) s = .next (modTrain (setSnap s m 2 1 0) m fun t => { t with snapStage := 2 }) := by
  show execSnapshotArm m s = _
  unfold execSnapshotArm
  dsimp only
  rw [hsnap]
  exact (if_neg (by simp [hup, hstage, horbit, hwhen, hfirst])).trans (if_neg (by simp [hlayout]))

theorem exec_snapshotCapture {s : State} {m : Nat} {c : SnapCmd} {w : Who} {l : List (Nat × Nat)} (hup : moonRuns s m = true)
    (hsnap : (getTrain s m).snap = some (c, w)) (hstage : (getTrain s m).snapStage = 2) (hidle : (getTrain s m).active = false)
    (hheld : snapHeld (getTrain s m) = false) (hlayout : snapNoLayout (getTrain s m) = false)
    (hturn : (turnWhen s m).any (orbitReached s) = false) (hlist : snapList s m c = .ok (some l)) :
    exec (.snapshotCapture m) s =
      if c.remote then .next (modTrain (askTarget s m c (pieceBytes l)) m fun t => { t with snapStage := 3 })
      else if !accepts s c.targetMoon (needs m c (pieceBytes l)) then .next (endSnap s m c 1 0xC)
      else .next (modTrain s m fun t => { t with snapStage := 3 }) := by
  show execSnapshotCapture m s = _
  unfold execSnapshotCapture
  dsimp only
  rw [hsnap]
  refine (if_neg (by simp [hup, hstage, hidle, hheld, hturn])).trans ((if_neg (by simp [hlayout])).trans ?_)
  rw [hlist]

/-- A snapshot that is being taken, captured or not. -/
structure SnapAt (stage : Nat) (x : SnapCmd × Who) (t : Train) : Prop where
  stage : t.snapStage = stage
  snap : t.snap = some x

theorem snapAt_three (s : State) (m : Nat) {x : SnapCmd × Who} (h : (getTrain s m).snap = some x) :
    SnapAt 3 x (getTrain (modTrain s m fun t => { t with snapStage := 3 }) m) := by
  rw [getTrain_modTrain]
  exact ⟨rfl, h⟩

/-- The bytes of a snapshot are written at a target of this module (R328). -/
theorem exec_snapshotDone_local {s s1 : State} {m : Nat} {c : SnapCmd} {w : Who} {l : List (Nat × Nat)} {b : Bytes} (hup : isUp s = true)
    (hsnap : (getTrain s m).snap = some (c, w)) (hstage : (getTrain s m).snapStage = 3) (hremote : c.remote = false)
    (hlist : snapList s m c = .ok (some l)) (hread : readPieces s m l = .ok b) (hwrite : writeMa s c.targetMoon c.targetMa b = .ok s1) :
    exec (.snapshotDone m true) s = .next (noteWait (endSnap s1 m c 1 0) m) := by
  show execSnapshotDone m true s = _
  unfold execSnapshotDone
  dsimp only
  rw [hsnap]
  refine (if_neg (by simp [hup, hstage])).trans ((if_neg (by simp)).trans ((if_neg (by simp [hremote])).trans ?_))
  rw [hlist]
  show (match (readPieces s m l >>= fun b => writeMa s c.targetMoon c.targetMa b >>= fun s => .ok (some s) : Except Fail (Option State)) with
    | .error e => _
    | .ok none => _
    | .ok (some s) => _) = _
  rw [hread]
  show (match (writeMa s c.targetMoon c.targetMa b >>= fun s => .ok (some s) : Except Fail (Option State)) with
    | .error e => _
    | .ok none => _
    | .ok (some s) => _) = _
  rw [hwrite]
  rfl

theorem exec_snapshotDone_remote {s : State} {m : Nat} {c : SnapCmd} {w : Who} (hup : isUp s = true) (hsnap : (getTrain s m).snap = some (c, w))
    (hremote : c.remote = true) (hstage : 4 ≤ (getTrain s m).snapStage) (hsent : ∀ x ∈ s.links.tx, x.moon = m → x.ring ≠ snapRing) :
    exec (.snapshotDone m true) s = .next (noteWait (endSnap s m c 1 0) m) := by
  have hnone : s.links.tx.any (fun x => x.moon == m && x.ring == snapRing) = false := by
    rw [List.any_eq_false]
    intro x hx hkey
    simp only [Bool.and_eq_true, beq_iff_eq] at hkey
    exact hsent x hx hkey.1 hkey.2
  show execSnapshotDone m true s = _
  unfold execSnapshotDone
  dsimp only
  rw [hsnap]
  refine (if_neg (by simp [hup]; omega)).trans ((if_neg (by simp)).trans ((if_pos hremote).trans (if_neg ?_)))
  rw [hnone]
  simp
  omega

theorem exec_snapshotDone_refused {s : State} {m : Nat} {c : SnapCmd} {w : Who} (hup : isUp s = true) (hsnap : (getTrain s m).snap = some (c, w))
    (hstage : 3 ≤ (getTrain s m).snapStage) : exec (.snapshotDone m false) s = .next (noteWait (endSnap (dropSnapTx s m) m c 1 0xC) m) := by
  show execSnapshotDone m false s = _
  unfold execSnapshotDone
  dsimp only
  rw [hsnap]
  exact (if_neg (by simp [hup]; omega)).trans (if_pos rfl)

/-- Settles O36. -/
theorem snapshotsAct : Obligations.SnapshotsAct := by
  unfold Obligations.SnapshotsAct
  refine ⟨?_, ?_, ?_, ?_, ?_, ?_, ?_⟩
  · intro s w m0 m c hm hw hfree hrsv hmoon hlayout
    subst hm
    have hexec : exec (.snapshot w m0 c) s = _ := command_ok hw (snapshotCmd_kept hfree hrsv hmoon hlayout)
    refine ⟨_, hexec, rfl, ?_⟩
    rw [getTrain_answer]
    unfold snapKept
    rw [getTrain_modTrain]
    exact ⟨rfl, rfl⟩
  · intro s w v m0 m c d hm hw hstage hsnap hrsv
    subst hm
    have hexec : exec (.snapCancel w m0 c) s = _ := command_ok hw (snapCancelCmd_ends hstage hsnap hrsv)
    have hends := endSnap_ends s (effMoon w m0) d 1 0xE
    refine ⟨_, hexec, rfl, ?_⟩
    rw [getTrain_answer]
    exact ⟨hends.none, hends.stage, hends.word⟩
  · intro s w m0 m a hm hw
    subst hm
    refine ⟨fun hown => ?_, fun hown => ?_⟩
    · have hact : (if ownRole s w (effMoon w m0) then (.ok (modTrain s (effMoon w m0) fun t => { t with accept := some a }) : Except Nat State)
          else .error 3) = .ok (modTrain s (effMoon w m0) fun t => { t with accept := some a }) := if_pos hown
      have hexec : exec (.snapAccept w m0 a) s = _ := command_ok
        (f := fun s => if ownRole s w (effMoon w m0) then .ok (modTrain s (effMoon w m0) fun t => { t with accept := some a }) else .error 3) hw hact
      refine ⟨_, hexec, rfl, ?_⟩
      rw [getTrain_answer, getTrain_modTrain]
    · have hact : (if ownRole s w (effMoon w m0) then (.ok (modTrain s (effMoon w m0) fun t => { t with accept := some a }) : Except Nat State)
          else .error 3) = .error 3 := if_neg (by simp [hown])
      have hexec : exec (.snapAccept w m0 a) s = _ := command_error
        (f := fun s => if ownRole s w (effMoon w m0) then .ok (modTrain s (effMoon w m0) fun t => { t with accept := some a }) else .error 3) hw hact
      exact ⟨_, hexec, rfl, answer_train _ _⟩
  · intro s w m c hup hsnap hstage horbit hwhen hfirst hlayout
    refine ⟨_, exec_snapshotArm hup hsnap hstage horbit hwhen hfirst hlayout, ?_, Fr.only (k := 2 ^ 8) (Fr.call fr_modTrain rfl (fr_setSnap.up rfl)) rfl⟩
    rw [getTrain_modTrain]
  · intro s w m c l hup hsnap hstage hidle hheld hlayout hturn hlist
    have hexec := exec_snapshotCapture hup hsnap hstage hidle hheld hlayout hturn hlist
    refine ⟨fun hok => ?_, fun hremote hrefused => ?_⟩
    · by_cases hremote : c.remote = true
      · rw [if_pos hremote] at hexec
        have hask : (askTarget s m c (pieceBytes l)).train = s.train := train_of_frame fr_askTarget rfl
        have hat := snapAt_three (askTarget s m c (pieceBytes l)) m (x := (c, w)) (by rw [getTrain_of_train hask]; exact hsnap)
        exact ⟨_, hexec, hat.stage, hat.snap, 
          sameBytes_trans (sameBytes_of_frame fr_askTarget rfl) (sameBytes_of_frame (s := askTarget s m c (pieceBytes l)) fr_modTrain rfl)⟩
      · have haccepts := hok.resolve_left hremote
        rw [if_neg hremote, if_neg (by simp [haccepts])] at hexec
        have hat := snapAt_three s m hsnap
        exact ⟨_, hexec, hat.stage, hat.snap, sameBytes_of_frame fr_modTrain rfl⟩
    · rw [if_neg (by simp [hremote]), if_pos (by simp [hrefused])] at hexec
      have hends := endSnap_ends s m c 1 0xC
      exact ⟨_, hexec, hends.stage, hends.word⟩
  · intro s s1 w m c l b hup hsnap hstage hremote hlist hread hwrite
    have hends := (endSnap_ends s1 m c 1 0).waited (waited_noteWait _ m)
    exact ⟨_, exec_snapshotDone_local hup hsnap hstage hremote hlist hread hwrite, hends.none, hends.stage, hends.word,
      sameBytes_trans (sameBytes_endSnap s1 m c 1 0) (sameBytes_noteWait _ _)⟩
  · intro s w m c hup hsnap hremote
    refine ⟨fun hstage hsent => ?_, fun hstage => ?_⟩
    · have hends := (endSnap_ends s m c 1 0).waited (waited_noteWait _ m)
      exact ⟨_, exec_snapshotDone_remote hup hsnap hremote hstage hsent, hends.none, hends.word,
        sameBytes_trans (sameBytes_endSnap s m c 1 0) (sameBytes_noteWait _ _)⟩
    · have hends := (endSnap_ends (dropSnapTx s m) m c 1 0xC).waited (waited_noteWait _ m)
      exact ⟨_, exec_snapshotDone_refused hup hsnap hstage, hends.none, hends.stage, hends.word,
        sameBytes_trans (sameBytes_trans (sameBytes_of_frame (s := s) fr_dropSnapTx rfl) (sameBytes_endSnap _ m c 1 0xC)) (sameBytes_noteWait _ _)⟩

end Sys2Proof.Proofs
end

section
/-! Turn switches (R330 to R334). -/

set_option Elab.async false

namespace Sys2Proof.Proofs

open Sys2Proof.Machine Sys2Proof.Laws

/-! ## A turn's end and its gate -/

/-- A turn that has ended (R330). -/
theorem getTrain_endTurn (s : State) (m id code : Nat) : getTrain (endTurn s m id code) m =
    { getTrain s m with phase := if code = 0 then .done else .failed, turnCode := code, turn := none } := by
  unfold endTurn
  dsimp only
  rw [getTrain_of_train (raiseMoon_train _ _ _ _), getTrain_modTrain]

theorem getSlot_endTurn (s : State) (m id code k : Nat) : getSlot (endTurn s m id code) m k = getSlot s m k :=
  getSlot_of_serve (serve_of_frame fr_endTurn rfl) m k

theorem getSlot_gateSlot (s : State) (m k : Nat) (on : Bool) : getSlot (gateSlot s m k on) m k =
    { getSlot s m k with admitsOff := on, swap := (getSlot s m k).swap.map fun j => { j with held := on } } := getSlot_setSlot _ _ _ _

theorem getTrain_gateSlot (s : State) (m k : Nat) (on : Bool) (n : Nat) : getTrain (gateSlot s m k on) n = getTrain s n :=
  getTrain_of_train (train_of_frame fr_gateSlot rfl) n

/-! ## Commands (R330) -/

theorem turnCmd_pending {s : State} {learn : Bool} {w : Who} {m : Nat} {c : TurnCmd} (hbusy : turnBusy (getTrain s m) = false)
    (hgood : turnBad c = false) (hlayout : (getTrain s m).layout ≠ if learn then .learn else .generate)
    (hreg : learn = true ∨ (getSlot s m c.slot).registration.isSome = true) :
    turnCmd learn w m c s = .ok (setTrain s m { getTrain s m with phase := .pending, turnCode := 0, turn := some (c, learn, w) }) := by
  unfold turnCmd
  refine (if_neg (by simp [hbusy])).trans ((if_neg (by simp [hgood])).trans ((if_neg hlayout).trans (if_neg ?_)))
  rcases hreg with h | h
  · simp [h]
  · rw [Option.isNone_eq_false_iff.mpr h]
    simp

theorem turnCancelCmd_ends {s : State} {m : Nat} {d : TurnCmd} {l : Bool} {v : Who} (hphase : (getTrain s m).phase = .pending)
    (hturn : (getTrain s m).turn = some (d, l, v)) : turnCancelCmd m s = .ok (endTurn s m d.turnId 7) := by
  unfold turnCancelCmd
  dsimp only
  rw [hturn]
  exact if_pos hphase

/-! ## What the pipeline unit does under a turn -/

/-- DRAIN leaves the turn as it is. -/
theorem pipeDrain_phase (s : State) (m : Nat) : onOk (fun t => (getTrain t m).phase = (getTrain s m).phase) (pipeDrain m s) := by
  have hnote : ∀ v, (getTrain v m).phase = (getTrain s m).phase → (getTrain (noteWait v m) m).phase = (getTrain s m).phase := fun v hv => by
    obtain ⟨a, n, hw⟩ := waited_noteWait v m
    rw [hw]
    exact hv
  have hset : ∀ x : Train, x.phase = (getTrain s m).phase → (getTrain (setTrain s m x) m).phase = (getTrain s m).phase := fun x hx => by
    rw [getTrain_setTrain]
    exact hx
  unfold pipeDrain
  dsimp only
  split
  · exact onOk_error
  · split
    · rename_i v hv
      refine onOk_ok (hnote v ?_)
      rcases pipeOff_unit _ _ _ hv with h | ⟨_, _, h⟩ <;> rw [h]
      · exact hset _ rfl
      · exact hset { getTrain s m with state := .draining, nextProgram := none } rfl
    · exact onOk_ok (hnote _ (hset _ rfl))

theorem pipeStarted_layout (s : State) (m : Nat) (r : PipeRec) (b : Bytes) :
    onOk (fun t => (getTrain t m).layout = (getTrain s m).layout) (pipeStarted s m r b) := by
  unfold pipeStarted
  refine onOk_bind fun s1 h1 => onOk_bind fun layers _ => fun v hv => ?_
  have htrain : (clearPlans s1 m).train = s.train := (train_of_frame fr_clearPlans rfl).trans (modTiles_train h1)
  rw [getTrain_of_train (startDerives_train hv), getTrain_modTrain]
  show (getTrain (clearPlans s1 m) m).layout = _
  rw [getTrain_of_train htrain]

/-- START leaves the layout as it is. -/
theorem pipeStart_layout (s : State) (m : Nat) : onOk (fun t => (getTrain t m).layout = (getTrain s m).layout) (pipeStart m s) := by
  have hbad : (getTrain (setTrain s m { getTrain s m with error := 1 }) m).layout = (getTrain s m).layout := by
    rw [getTrain_setTrain]
  have hstarted : ∀ r b v, pipeStarted s m r b = .ok v → (getTrain (noteWait v m) m).layout = (getTrain s m).layout := by
    intro r b v hv
    obtain ⟨a, n, hw⟩ := waited_noteWait v m
    rw [hw]
    exact pipeStarted_layout s m r b v hv
  unfold pipeStart
  dsimp only
  split
  · exact onOk_error
  · split
    · split
      · exact onOk_error
      · exact onOk_ok hbad
    · exact onOk_ok hbad
    · split
      · rename_i v hv
        exact onOk_ok (hstarted _ _ v hv)
      · split
        · exact onOk_error
        · exact onOk_ok hbad

/-! ## WHEN (R203, R331, R332) -/

theorem exec_turnSwitchFire {s : State} {m : Nat} {c : TurnCmd} {l : Bool} {w : Who} (hup : moonRuns s m = true) (hphase : (getTrain s m).phase = .pending)
    (hturn : (getTrain s m).turn = some (c, l, w)) (horbit : s.orbit.state ≠ .unlocked) (hwhen : c.whenOrbit ≤ s.orbit.now)
    (hfirst : earlierDue s 3 c.whenOrbit = false) (hreg : l = true ∨ (getSlot s m c.slot).registration.isSome = true) :
    exec (.turnSwitchFire m) s = if l then
        .next (gateSlot (setTrain s m { getTrain s m with phase := .draining, turnAt := s.orbit.refNs }) m c.slot true)
      else match pipeDrain m (setTrain s m { getTrain s m with phase := .draining, turnAt := s.orbit.refNs }) with
        | .ok s => .next s
        | .error _ => .next (setTrain s m { getTrain s m with phase := .draining, turnAt := s.orbit.refNs }) := by
  show execTurnSwitchFire m s = _
  unfold execTurnSwitchFire
  dsimp only
  split
  · rename_i hno
    exact absurd (hno.symm.trans hturn) (by simp)
  · rename_i c' l' w' hsome
    obtain ⟨rfl, rfl, rfl⟩ : c' = c ∧ l' = l ∧ w' = w := by
      have heq := Option.some.inj (hsome.symm.trans hturn)
      exact ⟨congrArg Prod.fst heq, congrArg (fun p => p.2.1) heq, congrArg (fun p => p.2.2) heq⟩
    refine (if_neg (by simp [hup, hphase, horbit, hwhen, hfirst])).trans ?_
    split
    · rfl
    · rename_i hl
      refine if_neg ?_
      rw [Option.isNone_eq_false_iff.mpr (hreg.resolve_left hl)]
      simp

/-! ## The drain point (R331, R332) -/

/-- The turn plan is bound, or the turn has failed on it (R333). -/
theorem failTurnPlan_fails (s : State) (m : Nat) (c : TurnCmd) : (getTrain (failTurnPlan s m c) m).phase = .failed ∧
    (getTrain (failTurnPlan s m c) m).pipeRec = (getTrain s m).pipeRec ∧
    (getSlot (failTurnPlan s m c) m c.slot).state = (getSlot s m c.slot).state ∧
    (getSlot (failTurnPlan s m c) m c.slot).versions = (getSlot s m c.slot).versions := by
  have hdrop : (dropPlan s m 33).serve = s.serve := serve_of_frame fr_dropPlan rfl
  have hmod : ∀ (u : State) (f : Train → Train), (modTrain u m f).serve = u.serve := fun u f => serve_of_frame fr_modTrain rfl
  unfold failTurnPlan
  dsimp only
  rw [getTrain_endTurn, getTrain_modTrain, getTrain_gateSlot, getTrain_of_train (dropPlan_train _ _ _), getSlot_endTurn, getSlot_of_serve (hmod _ _),
    getSlot_gateSlot, getSlot_of_serve hdrop]
  exact ⟨rfl, rfl, rfl, rfl⟩

theorem startTurnPlan_binds (s : State) (m : Nat) (c : TurnCmd) : onOk (fun t =>
    ((getTrain t m).phase = .transforming ∨ (getTrain t m).phase = .failed) ∧ (getTrain t m).pipeRec = (getTrain s m).pipeRec ∧
    (getSlot t m c.slot).state = (getSlot s m c.slot).state ∧ (getSlot t m c.slot).versions = (getSlot s m c.slot).versions) (startTurnPlan s m c) := by
  let u := modTrain s m fun t => { t with phase := .transforming, drainAt := s.orbit.refNs }
  have hu : getTrain u m = { getTrain s m with phase := .transforming, drainAt := s.orbit.refNs } := getTrain_modTrain _ _ _
  have hslot : getSlot u m c.slot = getSlot s m c.slot := getSlot_of_serve (serve_of_frame fr_modTrain rfl) _ _
  unfold startTurnPlan
  refine onOk_bind fun o ho => ?_
  split
  · have hload := fr_loadPipe _ ho _ rfl
    have htrain := getTrain_of_train (train_of_frame hload rfl) m
    have hserve := getSlot_of_serve (serve_of_frame hload rfl) m c.slot
    refine onOk_ok ?_
    rw [htrain, hserve]
    show ((getTrain u m).phase = _ ∨ (getTrain u m).phase = _) ∧ (getTrain u m).pipeRec = _ ∧ (getSlot u m c.slot).state = _ ∧ _
    rw [hu, hslot]
    exact ⟨.inl rfl, rfl, rfl, rfl⟩
  · obtain ⟨hphase, hrec, hstate, hversions⟩ := failTurnPlan_fails u m c
    rw [hu] at hrec
    rw [hslot] at hstate hversions
    exact onOk_ok ⟨.inr hphase, hrec, hstate, hversions⟩

theorem getSlot_emptySlot (s : State) (m k : Nat) : (getSlot (emptySlot s m k) m k).state = .empty ∧ (getSlot (emptySlot s m k) m k).versions = [] := by
  unfold emptySlot
  dsimp only
  rw [getSlot_setSlot]
  exact ⟨rfl, rfl⟩

theorem exec_turnDrainPoint_learn {s s1 : State} {m : Nat} {c : TurnCmd} {w : Who} (hup : moonRuns s m = true)
    (hphase : (getTrain s m).phase = .draining) (hturn : (getTrain s m).turn = some (c, true, w)) (hidle : slotIdle s m c.slot = true)
    (hseqs : slotSeqs (getServe s m) c.slot = []) (hplan : startTurnPlan (emptySlot s m c.slot) m c = .ok s1) :
    exec (.turnDrainPoint m) s = .next s1 := by
  have hlive : endLive s m c.slot = .ok (some s) := by
    unfold endLive
    rw [hseqs]
    rfl
  have hnone : (slotSeqs (getServe s m) c.slot).isEmpty = true := by rw [hseqs]; rfl
  show execTurnDrainPoint m s = _
  unfold execTurnDrainPoint
  dsimp only
  rw [hturn]
  dsimp only
  refine (if_neg (by simp [hup, hphase])).trans ?_
  rw [if_pos rfl, if_neg (by simp [hidle]), hlive, if_pos hnone]
  rw [ite_self]
  show (match (startTurnPlan (emptySlot s m c.slot) m c >>= fun s => .ok (some s) : Except Fail (Option State)) with
    | .ok (some s) => _
    | .ok none => _
    | .error e => _) = _
  rw [hplan]
  rfl

theorem exec_turnDrainPoint_generate {s s1 : State} {m : Nat} {c : TurnCmd} {w : Who} (hup : moonRuns s m = true)
    (hphase : (getTrain s m).phase = .draining) (hturn : (getTrain s m).turn = some (c, false, w)) (hoff : (getTrain s m).state = .off)
    (hplan : startTurnPlan (setTrain s m { getTrain s m with pipeRec := none, layers := [] }) m c = .ok s1) :
    exec (.turnDrainPoint m) s = .next s1 := by
  show execTurnDrainPoint m s = _
  unfold execTurnDrainPoint
  dsimp only
  split
  · rename_i hno
    exact absurd (hno.symm.trans hturn) (by simp)
  · rename_i c' l' w' hsome
    obtain ⟨rfl, rfl, rfl⟩ : c' = c ∧ l' = false ∧ w' = w := by
      have heq := Option.some.inj (hsome.symm.trans hturn)
      exact ⟨congrArg Prod.fst heq, congrArg (fun p => p.2.1) heq, congrArg (fun p => p.2.2) heq⟩
    refine (if_neg (by simp [hup, hphase])).trans ?_
    rw [if_neg (by simp), if_neg (by simp [hoff]), hplan]
    rfl

/-! ## The end of a turn (R331, R332, R334) -/

/-- A turn that has run to its end. -/
structure TurnDone (l : Layout) (t : Train) : Prop where
  layout : t.layout = l
  phase : t.phase = .done
  code : t.turnCode = 0
  turn : t.turn = none

theorem setParam_train (s : State) (p e v : Nat) : (setParam s p e v).train = s.train := train_of_frame fr_setParam rfl

theorem finishTurn_learn {s : State} {m : Nat} {c : TurnCmd} {w : Who} (hturn : (getTrain s m).turn = some (c, true, w)) :
    TurnDone .learn (getTrain (finishTurn s m true) m) := by
  have hstart : ∀ u : State, (getTrain (match pipeStart m u with | .ok s => s | .error _ => u) m).layout = (getTrain u m).layout := fun u => by
    split
    · rename_i v hv
      exact pipeStart_layout u m v hv
    · rfl
  unfold finishTurn
  dsimp only
  rw [hturn]
  dsimp only
  rw [getTrain_endTurn, getTrain_of_train (incA_train _ _ _ _), getTrain_of_train (setParam_train _ _ _ _), if_pos rfl, if_pos rfl]
  refine ⟨?_, rfl, rfl, rfl⟩
  refine (hstart _).trans ?_
  rw [getTrain_setTrain]
  rfl

theorem finishTurn_generate {s : State} {m : Nat} {c : TurnCmd} {w : Who} (hturn : (getTrain s m).turn = some (c, false, w)) :
    TurnDone .generate (getTrain (finishTurn s m true) m) ∧
    getSlot (finishTurn s m true) m c.slot = { getSlot s m c.slot with admitsOff := false, swap := (getSlot s m c.slot).swap.map fun j => { j with held := false } } := by
  have hparam : ∀ (u : State) (p e v : Nat), (setParam u p e v).serve = u.serve := fun u p e v => serve_of_frame fr_setParam rfl
  have hset : ∀ (u : State) (x : Train), (setTrain u m x).serve = u.serve := fun u x => serve_of_frame fr_setTrain rfl
  unfold finishTurn
  dsimp only
  rw [hturn]
  dsimp only
  rw [getTrain_endTurn, getTrain_of_train (incA_train _ _ _ _), getTrain_of_train (setParam_train _ _ _ _), getSlot_endTurn,
    getSlot_of_serve (incA_serve _ _ _ _), getSlot_of_serve (hparam _ _ _ _), if_neg (by simp), getTrain_gateSlot, getSlot_gateSlot, getTrain_setTrain,
    getSlot_of_serve (hset _ _)]
  exact ⟨⟨rfl, rfl, rfl, rfl⟩, rfl⟩

theorem installPipe_turn (s : State) (m ma : Nat) : onOk (fun t => (getTrain t m).turn = (getTrain s m).turn) (installPipe s m ma) := by
  have hset : (getTrain (modTrain s m fun t => { t with ctxMa := ma }) m).turn = (getTrain s m).turn := by rw [getTrain_modTrain]
  unfold installPipe
  refine onOk_bind fun o _ => ?_
  split
  · exact onOk_ok hset
  · intro t ht
    rw [getTrain_of_train (modTiles_train ht)]
    exact hset

theorem getSlot_dropVersions_same (s : State) (m k : Nat) (p : Version → Bool) :
    getSlot (dropVersions s m k p) m k = { getSlot s m k with versions := (getSlot s m k).versions.filter fun v => !p v } := getSlot_setSlot _ _ _ _

/-- The derived result is the slot's only version (R332). -/
theorem installDerived_installs {s : State} {m k : Nat} (hreg : (getSlot s m k).registration.isSome = true) : ∃ v : Version,
    (getSlot (installDerived s m k) m k).state = .ready ∧ (getSlot (installDerived s m k) m k).versions = [v] ∧ v.kind = .current ∧ v.derived = true := by
  obtain ⟨g, hg⟩ := Option.isSome_iff_exists.mp hreg
  unfold installDerived
  dsimp only
  rw [getSlot_dropVersions_same]
  dsimp only
  rw [hg]
  dsimp only
  rw [getSlot_setSlot]
  exact ⟨_, rfl, rfl, rfl, rfl⟩

theorem exec_turnPlanDone {s : State} {m : Nat} {c : TurnCmd} {l : Bool} {w : Who} (hup : isUp s = true) (hphase : (getTrain s m).phase = .transforming)
    (hfail : planFailed s m 33 = none) (hdone : planComplete s m 33 = true) (hbarrier : c.barrier = 0xFFFFFFFF)
    (hturn : (getTrain s m).turn = some (c, l, w)) {s1 : State}
    (hput : (if l then installPipe (dropPlan s m 33) m c.pipeRec else .ok (installDerived (dropPlan s m 33) m c.slot)) = .ok s1) :
    exec (.turnPlanDone m) s = .next (finishTurn s1 m true) := by
  show execTurnPlanDone m s = _
  unfold execTurnPlanDone
  dsimp only
  rw [hturn]
  dsimp only
  refine (if_neg (by simp [hup, hphase])).trans ?_
  rw [hfail]
  dsimp only
  rw [if_neg (by simp [hdone]), hput]
  exact if_pos hbarrier

/-- Settles O37. -/
theorem turnsSwitchTheLayout : Obligations.TurnsSwitchTheLayout := by
  unfold Obligations.TurnsSwitchTheLayout
  refine ⟨?_, ?_, ?_, ?_, ?_, ?_⟩
  · intro s w m0 m c hm hw hbusy hgood
    subst hm
    refine ⟨fun hlayout => ?_, fun hlayout hreg => ?_⟩
    · have hexec : exec (.toLearn w m0 c) s = _ := command_ok hw (turnCmd_pending (learn := true) (w := w) hbusy hgood hlayout (.inl rfl))
      refine ⟨_, hexec, rfl, ?_⟩
      rw [getTrain_answer, getTrain_setTrain]
      exact ⟨rfl, rfl, rfl⟩
    · have hexec : exec (.toGenerate w m0 c) s = _ :=
        command_ok hw (turnCmd_pending (learn := false) (w := w) hbusy hgood hlayout (.inr hreg))
      refine ⟨_, hexec, rfl, ?_⟩
      rw [getTrain_answer, getTrain_setTrain]
      exact ⟨rfl, rfl, rfl⟩
  · intro s w v m0 m c d l hm hw hphase hturn
    subst hm
    have hexec : exec (.turnCancel w m0 c) s = _ := command_ok hw (turnCancelCmd_ends hphase hturn)
    refine ⟨_, hexec, rfl, ?_⟩
    rw [getTrain_answer, getTrain_endTurn]
    exact ⟨rfl, rfl, rfl, rfl⟩
  · intro s w m c l hup hphase hturn horbit hwhen hfirst hreg
    have hexec := exec_turnSwitchFire hup hphase hturn horbit hwhen hfirst hreg
    let u := setTrain s m { getTrain s m with phase := .draining, turnAt := s.orbit.refNs }
    have hu : getTrain u m = { getTrain s m with phase := .draining, turnAt := s.orbit.refNs } := getTrain_setTrain _ _ _
    cases l with
    | true =>
      refine ⟨gateSlot u m c.slot true, hexec, ?_, fun _ => ?_, fun h => (by cases h)⟩
      · rw [getTrain_gateSlot, hu]
      · rw [getSlot_gateSlot, getTrain_gateSlot, hu]
        exact ⟨rfl, rfl⟩
    | false =>
      rw [if_neg (by simp)] at hexec
      cases hdrain : pipeDrain m u with
      | ok t =>
        have hrun : exec (.turnSwitchFire m) s = .next t := by
          rw [hexec]
          show (match pipeDrain m u with | .ok s => _ | .error _ => _) = _
          rw [hdrain]
        refine ⟨t, hrun, ?_, fun h => (by cases h), fun _ hrunning => ?_⟩
        · rw [pipeDrain_phase u m t hdrain, hu]
        · obtain ⟨t', ht', hdrained⟩ := pipeDrain_drains (s := u) (m := m) (by rw [hu]; exact hrunning)
          obtain rfl := Except.ok.inj (hdrain.symm.trans ht')
          exact hdrained.state
      | error e =>
        have hrun : exec (.turnSwitchFire m) s = .next u := by
          rw [hexec]
          show (match pipeDrain m u with | .ok s => _ | .error _ => _) = _
          rw [hdrain]
        refine ⟨u, hrun, by rw [hu], fun h => (by cases h), fun _ hrunning => ?_⟩
        obtain ⟨t', ht', _⟩ := pipeDrain_drains (s := u) (m := m) (by rw [hu]; exact hrunning)
        cases hdrain.symm.trans ht'
  · intro s s1 w m c hup hphase
    refine ⟨fun hturn hidle hseqs hplan => ?_, fun hturn hoff hplan => ?_⟩
    · obtain ⟨hphase1, _, hstate, hversions⟩ := startTurnPlan_binds _ m c s1 hplan
      obtain ⟨hempty, hnone⟩ := getSlot_emptySlot s m c.slot
      exact ⟨exec_turnDrainPoint_learn hup hphase hturn hidle hseqs hplan, hstate.trans hempty, hversions.trans hnone, hphase1⟩
    · obtain ⟨hphase1, hrec, _⟩ := startTurnPlan_binds _ m c s1 hplan
      rw [getTrain_setTrain] at hrec
      exact ⟨exec_turnDrainPoint_generate hup hphase hturn hoff hplan, hrec, hphase1⟩
  · intro s s1 w m c hup hphase hfail hdone hbarrier
    refine ⟨fun hturn hput => ?_, fun hturn hreg => ?_⟩
    · have hturn1 : (getTrain s1 m).turn = some (c, true, w) := by
        rw [installPipe_turn _ m _ s1 hput, getTrain_of_train (dropPlan_train _ _ _)]
        exact hturn
      have hends := finishTurn_learn hturn1
      exact ⟨_, exec_turnPlanDone hup hphase hfail hdone hbarrier hturn hput, hends.layout, hends.phase, hends.code, hends.turn⟩
    · have hdrop : (dropPlan s m 33).serve = s.serve := serve_of_frame fr_dropPlan rfl
      have htrain : (installDerived (dropPlan s m 33) m c.slot).train = s.train := (train_of_frame fr_installDerived rfl).trans (dropPlan_train _ _ _)
      obtain ⟨v, hstate, hversions, hkind, hderived⟩ := installDerived_installs (s := dropPlan s m 33) (m := m) (k := c.slot)
        (by rw [getSlot_of_serve hdrop]; exact hreg)
      obtain ⟨hends, hslot⟩ := finishTurn_generate (s := installDerived (dropPlan s m 33) m c.slot) (by rw [getTrain_of_train htrain]; exact hturn)
      refine ⟨_, v, exec_turnPlanDone hup hphase hfail hdone hbarrier hturn rfl, hends.layout, hends.phase, hends.turn, ?_⟩
      rw [hslot]
      exact ⟨hstate, hversions, hkind, hderived, rfl⟩
  · intro s w m c hup hphase hturn hlive hseqs hdue
    refine ⟨endTurn (gateSlot s m c.slot false) m c.turnId 4, ?_, ?_⟩
    · show execTurnTimeout m s = _
      unfold execTurnTimeout
      dsimp only
      rw [hturn]
      exact if_pos (by simp [hup, hphase, hlive, hseqs, hdue])
    · rw [getTrain_endTurn, getTrain_gateSlot, getSlot_endTurn, getSlot_gateSlot]
      exact ⟨rfl, rfl, rfl, rfl, rfl⟩

end Sys2Proof.Proofs
end

section
/-! Fetch commands and shared bases (R341 to R347). -/

set_option Elab.async false

namespace Sys2Proof.Proofs

open Sys2Proof.Machine Sys2Proof.Laws

/-! ## FETCH_STATUS -/

/-- FETCH_STATUS of an operation with its code (R341, R343). -/
def fetchWord (op : FetchOp) (code : Nat) : W32 := BitVec.ofNat 32 ((if code = 0 then 3 else 4) + 256 * fetchOpCode op + 65536 * code)

theorem fetchStatus_fetch (s : State) (m : Nat) (w : Who) (op : FetchOp) (id code : Nat) :
    (fetchStatus s m w op id code).fetch = { s.fetch with status := tset s.fetch.status m (fetchWord op code) } := raiseWriter_fetch _ _ _ _ _

theorem fetchStatus_shows (s : State) (m : Nat) (w : Who) (op : FetchOp) (id code : Nat) :
    tfind (fetchStatus s m w op id code).fetch.status m = some (fetchWord op code) ∧
    (fetchStatus s m w op id code).fetch.jobs = s.fetch.jobs ∧ (fetchStatus s m w op id code).fetch.shared = s.fetch.shared := by
  rw [fetchStatus_fetch]
  exact ⟨tfind_tset_same _ _ _, rfl, rfl⟩

theorem fetchStatus_serve (s : State) (m : Nat) (w : Who) (op : FetchOp) (id code : Nat) : (fetchStatus s m w op id code).serve = s.serve :=
  serve_of_frame fr_fetchStatus rfl

theorem tget_of_tfind {α : Type} {t : Tab α} {k : Nat} {x : α} (d : α) (h : tfind t k = some x) : tget t d k = x := by
  induction t with
  | nil => cases h
  | cons e r ih =>
    unfold tfind at h
    unfold tget
    split at h
    · rename_i hk
      rw [if_pos hk]
      exact Option.some.inj h
    · rename_i hk
      rw [if_neg hk]
      exact ih h

/-! ## Loads (R344) -/

/-- A fetch with nothing verified (R344). -/
def freshJob (s : State) (op : FetchOp) (w : Who) (m : Nat) (c : FetchCmd) : FetchJob :=
  { op := op, cmd := c, who := w, headerOk := false, header := [], hashes := [], manifest := [], verified := [], retried := []
    granted := [], prevSlot := (getSlot s m c.slot).state, cancel := false, slotGone := false, received := [], pre := [], fullAt := s.orbit.refNs }

/-- A load that has started its fetch (R344). -/
structure FetchStarted (s : State) (op : FetchOp) (w : Who) (m : Nat) (c : FetchCmd) (t : State) : Prop where
  job : tfind t.fetch.jobs m = some (freshJob s op w m c)
  status : tfind t.fetch.status m = some (BitVec.ofNat 32 (2 + 256 * fetchOpCode op))
  slot : c.slot < 16 → (getSlot s m c.slot).state = .empty ∨ (getSlot s m c.slot).state = .evicted → (getSlot t m c.slot).state = .loading

theorem startFetch_starts (s : State) (op : FetchOp) (w : Who) (m : Nat) (c : FetchCmd) : FetchStarted s op w m c (startFetch s op w m c) := by
  have hparam : ∀ (u : State) (p e v : Nat), (setParam u p e v).fetch = u.fetch ∧ (setParam u p e v).serve = u.serve := fun u p e v =>
    ⟨fetch_of_frame fr_setParam rfl, serve_of_frame fr_setParam rfl⟩
  unfold startFetch
  dsimp only
  refine ⟨?_, ?_, fun hk hstate => ?_⟩
  · rw [(hparam _ _ _ _).1]
    exact tfind_tset_same _ _ _
  · rw [(hparam _ _ _ _).1]
    exact tfind_tset_same _ _ _
  · rw [getSlot_of_serve (hparam _ _ _ _).2, if_pos ⟨hk, hstate⟩]
    exact congrArg Slot.state (getSlot_setSlot s m c.slot _)

/-- An operation that loads from a bundle (R342). -/
def FetchOp.loads (op : FetchOp) : Bool := op == .loadBase || op == .loadOverlay || op == .loadVariant

theorem fetchCmd_starts {s : State} {op : FetchOp} {w : Who} {m : Nat} {c : FetchCmd} (hload : FetchOp.loads op = true)
    (hnone : thas s.fetch.jobs m = false) (hop : fetchOpBad op w m c = false) (hstate : fetchStateBad s op m c = false)
    (hwindow : c.bar4 = false ∨ s.fetch.bar4Owner = none) : fetchCmd op w m c s = .ok (startFetch s op w m c) := by
  have hfree : (c.bar4 && s.fetch.bar4Owner.isSome) = false := by rcases hwindow with h | h <;> simp [h]
  unfold fetchCmd
  refine (if_neg (by simp [hnone])).trans ((if_neg (by simp [hop])).trans ((if_neg (by simp [hstate])).trans ?_))
  cases op with
  | loadBase | loadOverlay | loadVariant => exact if_neg (by simp [hfree])
  | attachShared | dropShared | cancel => cases hload

theorem fetchCmd_busy {s : State} {m : Nat} (op : FetchOp) (w : Who) (c : FetchCmd) (h : thas s.fetch.jobs m = true) : fetchCmd op w m c s = .error 8 :=
  if_pos h

/-! ## CANCEL (R342, R343) -/

theorem fetchCancelCmd_marks {s : State} {w : Who} {m : Nat} {c : FetchCmd} {j : FetchJob} (hrsv : c.rsv = false) (hjob : tfind s.fetch.jobs m = some j) :
    fetchCancelCmd w m c s = .ok { s with fetch := { s.fetch with jobs := tset s.fetch.jobs m { j with cancel := true } } } := by
  unfold fetchCancelCmd
  rw [hjob]
  exact congrArg Except.ok (if_neg (by simp [hrsv]))

theorem fetchCancelCmd_bad {s : State} {w : Who} {m : Nat} {c : FetchCmd} (hrsv : c.rsv = true) :
    fetchCancelCmd w m c s = .ok (fetchStatus s m w .cancel c.fetchId 1) := by
  unfold fetchCancelCmd
  split
  · rw [if_pos hrsv]
  · rw [if_pos hrsv]

/-! ## Shared bases (R345, R347) -/

/-- The pages of a shared base mapped read-only. -/
def sharedMapped (s : State) (m : Nat) (l : List (Nat × Nat)) : State :=
  l.foldl (fun s e => match entryOf s 0 e.2 with
    | some p => setEntry s m e.1 { p with r := true, w := false, owner := 0 }
    | none => s) s

theorem sharedMapped_kept (m : Nat) (l : List (Nat × Nat)) (s : State) :
    (sharedMapped s m l).serve = s.serve ∧ (sharedMapped s m l).fetch = s.fetch := by
  induction l generalizing s with
  | nil => exact ⟨rfl, rfl⟩
  | cons e l ih =>
    have hstep : ∀ u : State, u = (match entryOf s 0 e.2 with
        | some p => setEntry s m e.1 { p with r := true, w := false, owner := 0 }
        | none => s) → u.serve = s.serve ∧ u.fetch = s.fetch := by
      rintro u rfl
      split
      · exact ⟨serve_of_frame fr_setEntry rfl, fetch_of_frame fr_setEntry rfl⟩
      · exact ⟨rfl, rfl⟩
    obtain ⟨hserve, hfetch⟩ := ih (match entryOf s 0 e.2 with
      | some p => setEntry s m e.1 { p with r := true, w := false, owner := 0 }
      | none => s)
    exact ⟨hserve.trans (hstep _ rfl).1, hfetch.trans (hstep _ rfl).2⟩

/-- A new version stands last in its slot (R345). -/
theorem addVersion_adds (s : State) (m k : Nat) (v : Version) (a : Bool) (p : SlotState) : ∃ x, (getSlot (addVersion s m k v a p) m k).versions =
    (getSlot s m k).versions ++ [{ v with number := (getSlot s m k).lastVersion + 1, kind := x }] := by
  unfold addVersion
  rw [getSlot_setSlot]
  exact ⟨_, rfl⟩

theorem attach_attaches {s : State} {m : Nat} {c : FetchCmd} {b : SharedBase} (hbase : tfind s.fetch.shared c.sb = some b)
    (hfits : c.targetMa + b.pages.length * pageBytes ≤ hbmEnd)
    (hfree : ∀ i, i < b.pages.length → entryOf s m ((c.targetMa - hbmRegion) / pageBytes + i) = none) :
    (attach s m c).1 = 0 ∧ tfind (attach s m c).2.fetch.shared c.sb = some { b with attached := b.attached + 1 } ∧
    ∃ v, (getSlot (attach s m c).2 m c.slot).versions = (getSlot s m c.slot).versions ++ [v] ∧ v.shared = some c.sb ∧ v.manifest = b.manifest ∧
      v.number = (getSlot s m c.slot).lastVersion + 1 := by
  let i0 := (c.targetMa - hbmRegion) / pageBytes
  let idx := (upTo b.pages.length).map fun i => i0 + i
  let u := sharedMapped s m (idx.zip b.pages)
  let v : State := { u with fetch := { u.fetch with shared := tset u.fetch.shared c.sb { b with attached := b.attached + 1 } } }
  let h := parseHdr b.header
  have hnone : ¬ ((idx.any fun i => (entryOf s m i).isSome) = true) := by
    rw [List.any_eq_true]
    rintro ⟨x, hx, hsome⟩
    obtain ⟨i, hi, rfl⟩ := List.mem_map.mp hx
    rw [hfree i (by simpa [upTo] using hi)] at hsome
    cases hsome
  have heq : attach s m c = (0, addVersion v m c.slot (hdrVersion h b.manifest (some c.sb) idx (followersAt v m c.targetMa h)) c.awaitOverlay
      (getSlot v m c.slot).state) := by
    unfold attach
    rw [tget_of_tfind _ hbase]
    exact (if_neg (Nat.not_lt.mpr hfits)).trans (if_neg hnone)
  have hslot : getSlot v m c.slot = getSlot s m c.slot := getSlot_of_serve (sharedMapped_kept m (idx.zip b.pages) s).1 _ _
  have hfetch : ∀ w a p, (addVersion v m c.slot w a p).fetch = v.fetch := fun w a p => fetch_of_frame fr_addVersion rfl
  rw [heq]
  refine ⟨rfl, ?_, ?_⟩
  · rw [hfetch]
    exact tfind_tset_same _ _ _
  · obtain ⟨x, hx⟩ := addVersion_adds v m c.slot (hdrVersion h b.manifest (some c.sb) idx (followersAt v m c.targetMa h)) c.awaitOverlay
      (getSlot v m c.slot).state
    dsimp only
    rw [hslot] at hx ⊢
    exact ⟨_, hx, rfl, rfl, rfl⟩

theorem fetchCmd_attach {s : State} {w : Who} {m : Nat} {c : FetchCmd} (hnone : thas s.fetch.jobs m = false)
    (hop : fetchOpBad .attachShared w m c = false) (hstate : fetchStateBad s .attachShared m c = false) :
    fetchCmd .attachShared w m c s = .ok (fetchStatus (attach s m c).2 m w .attachShared c.fetchId (attach s m c).1) := by
  unfold fetchCmd
  rw [hnone, hop, hstate]
  generalize attach s m c = p
  obtain ⟨k, t⟩ := p
  rfl

theorem fetchCmd_drop {s : State} {w : Who} {m : Nat} {c : FetchCmd} (hnone : thas s.fetch.jobs m = false)
    (hop : fetchOpBad .dropShared w m c = false) (hstate : fetchStateBad s .dropShared m c = false) :
    fetchCmd .dropShared w m c s = .ok (fetchStatus (dropShared s c).2 m w .dropShared c.fetchId (dropShared s c).1) := by
  unfold fetchCmd
  rw [hnone, hop, hstate]
  generalize dropShared s c = p
  obtain ⟨k, t⟩ := p
  rfl

theorem dropShared_drops {s : State} {c : FetchCmd} {b : SharedBase} (hbase : tfind s.fetch.shared c.sb = some b) (hfree : b.attached = 0) :
    (dropShared s c).1 = 0 ∧ tfind (dropShared s c).2.fetch.shared c.sb = none := by
  unfold dropShared
  rw [tget_of_tfind _ hbase, if_neg (by simp [hfree])]
  exact ⟨rfl, tfind_tdel_same _ _⟩

theorem dropShared_busy {s : State} {c : FetchCmd} {b : SharedBase} (hbase : tfind s.fetch.shared c.sb = some b) (hheld : b.attached ≠ 0) :
    dropShared s c = (0x11, s) := by
  unfold dropShared
  rw [tget_of_tfind _ hbase]
  exact if_pos hheld

/-- Settles O38. -/
theorem fetchesStartAndBasesAttach : Obligations.FetchesStartAndBasesAttach := by
  unfold Obligations.FetchesStartAndBasesAttach
  refine ⟨⟨?_, ?_, ?_⟩, ?_, ?_⟩
  · intro s w m0 m c p hm hw hp
    subst hm
    refine ⟨fun hnone hop hstate hwindow => ?_, fun hbusy => ?_⟩
    · have hstarted := startFetch_starts s p w (effMoon w m0) c
      have hact := fetchCmd_starts (by rcases hp with rfl | rfl | rfl <;> rfl) hnone hop hstate hwindow
      have hstarts : ∀ t, t = answer (startFetch s p w (effMoon w m0) c) 0 → ∃ j : FetchJob,
          t.dict.answer.status = 0 ∧ tfind t.fetch.jobs (effMoon w m0) = some j ∧ j.op = p ∧ j.cmd = c ∧ j.who = w ∧ j.headerOk = false ∧
          j.verified = [] ∧ j.cancel = false ∧ tfind t.fetch.status (effMoon w m0) = some (BitVec.ofNat 32 (2 + 256 * fetchOpCode p)) ∧
          (c.slot < 16 → (getSlot s (effMoon w m0) c.slot).state = .empty ∨ (getSlot s (effMoon w m0) c.slot).state = .evicted →
            (getSlot t (effMoon w m0) c.slot).state = .loading) := by
        rintro t rfl
        rw [answer_fetch, getSlot_answer]
        exact ⟨_, rfl, hstarted.job, rfl, rfl, rfl, rfl, rfl, rfl, hstarted.status, hstarted.slot⟩
      refine ⟨?_, ?_, ?_⟩ <;> rintro rfl
      · exact ⟨_, command_ok hw hact, hstarts _ rfl⟩
      · exact ⟨_, command_ok hw hact, hstarts _ rfl⟩
      · exact ⟨_, command_ok hw hact, hstarts _ rfl⟩
    · have hrefused : ∀ op, command s w 0x8050 (effMoon w m0) (fetchCmd op w (effMoon w m0) c) = .next (answer s 8) :=
        fun op => command_error hw (fetchCmd_busy op w c hbusy)
      exact ⟨⟨_, hrefused .loadBase, rfl, answer_fetch _ _⟩, ⟨_, hrefused .loadOverlay, rfl, answer_fetch _ _⟩,
        ⟨_, hrefused .loadVariant, rfl, answer_fetch _ _⟩⟩
  · intro s w m0 m c j hm hw hrsv hjob
    subst hm
    have hexec : exec (.fetchCancel w m0 c) s = _ := command_ok hw (fetchCancelCmd_marks hrsv hjob)
    refine ⟨_, hexec, rfl, ?_, answer_mem _ _⟩
    rw [answer_fetch]
    exact tfind_tset_same _ _ _
  · intro s w m0 m c hm hw hrsv
    subst hm
    have hexec : exec (.fetchCancel w m0 c) s = _ := command_ok hw (fetchCancelCmd_bad hrsv)
    obtain ⟨hstatus, hjobs, _⟩ := fetchStatus_shows s (effMoon w m0) w .cancel c.fetchId 1
    refine ⟨_, hexec, rfl, ?_⟩
    rw [answer_fetch]
    exact ⟨hjobs, hstatus⟩
  · intro s w m0 m c b hm hw hnone hop hstate hbase hfits hfree
    subst hm
    obtain ⟨hcode, hshared, v, hversions, hv⟩ := attach_attaches hbase hfits hfree
    have hexec : exec (.attachShared w m0 c) s = _ := command_ok hw (fetchCmd_attach hnone hop hstate)
    rw [hcode] at hexec
    obtain ⟨hstatus, _, hkept⟩ := fetchStatus_shows (attach s (effMoon w m0) c).2 (effMoon w m0) w .attachShared c.fetchId 0
    refine ⟨_, v, hexec, rfl, ?_⟩
    rw [answer_fetch, getSlot_answer, getSlot_of_serve (fetchStatus_serve _ _ _ _ _ _), hkept]
    exact ⟨hversions, hv.1, hv.2.1, hv.2.2, hshared, hstatus⟩
  · intro s w m0 m c b hm hw hnone hop hstate hbase
    subst hm
    have hexec : exec (.dropShared w m0 c) s = _ := command_ok hw (fetchCmd_drop hnone hop hstate)
    refine ⟨fun hfree => ?_, fun hheld => ?_⟩
    · obtain ⟨hcode, hgone⟩ := dropShared_drops hbase hfree
      rw [hcode] at hexec
      obtain ⟨hstatus, _, hkept⟩ := fetchStatus_shows (dropShared s c).2 (effMoon w m0) w .dropShared c.fetchId 0
      refine ⟨_, hexec, rfl, ?_⟩
      rw [answer_fetch, hkept]
      exact ⟨hgone, hstatus⟩
    · rw [dropShared_busy hbase hheld] at hexec
      obtain ⟨hstatus, _, hkept⟩ := fetchStatus_shows s (effMoon w m0) w .dropShared c.fetchId 0x11
      refine ⟨_, hexec, rfl, ?_⟩
      rw [answer_fetch]
      exact ⟨hkept, hstatus⟩

end Sys2Proof.Proofs
end

section
/-! The fetch engine: the header, the chunks and the end of a fetch (R338 to R346). -/

set_option Elab.async false

namespace Sys2Proof.Proofs

open Sys2Proof.Machine Sys2Proof.Laws

/-! ## A fetch that ends (R344) -/

/-- A fetch that has ended with a code. -/
structure FetchEnded (m : Nat) (op : FetchOp) (code : Nat) (t : State) : Prop where
  gone : tfind t.fetch.jobs m = none
  status : tfind t.fetch.status m = some (fetchWord op code)

theorem fetchStatus_ended {s : State} {m : Nat} {w : Who} {op : FetchOp} {id code : Nat} (h : tfind s.fetch.jobs m = none) :
    FetchEnded m op code (fetchStatus s m w op id code) := by
  obtain ⟨hstatus, hjobs, _⟩ := fetchStatus_shows s m w op id code
  exact ⟨by rw [hjobs]; exact h, hstatus⟩

theorem endFetch_ends {s : State} {m : Nat} {j : FetchJob} (code : Nat) (h : tfind s.fetch.jobs m = some j) :
    FetchEnded m j.op code (endFetch s m code) := by
  unfold endFetch
  rw [h]
  dsimp only
  exact fetchStatus_ended (tfind_tdel_same _ _)

/-- Nothing ends a fetch between its chunks. -/
theorem atChunkEdge_none {s : State} {m : Nat} {j : FetchJob} (hgone : j.slotGone = false) (hcancel : j.cancel = false)
    (hbus : j.cmd.bar4 = true ∨ (getFn s (hostFn s m)).busMaster = true) : atChunkEdge s m j = none := by
  unfold atChunkEdge
  refine (if_neg (by simp [hgone])).trans ((if_neg (by simp [hcancel])).trans (if_neg ?_))
  rcases hbus with h | h <;> simp [h]

/-! ## F2 and F3: the header (R338, R344) -/

theorem releaseVersion_jobs (s : State) (m : Nat) (v : Version) : (releaseVersion s m v).fetch.jobs = s.fetch.jobs := by
  have hunmap : (unmapPages s m v.pages).fetch = s.fetch := fetch_of_frame fr_unmapPages rfl
  unfold releaseVersion
  dsimp only
  split
  · show (unmapPages s m v.pages).fetch.jobs = _
    rw [hunmap]
  · rw [hunmap]

theorem dropVersions_jobs (s : State) (m k : Nat) (p : Version → Bool) : (dropVersions s m k p).fetch.jobs = s.fetch.jobs := by
  have hfold : ∀ (l : List Version) (u : State), (l.foldl (fun s v => releaseVersion s m v) u).fetch.jobs = u.fetch.jobs := by
    intro l
    induction l with
    | nil => exact fun u => rfl
    | cons v l ih => exact fun u => (ih _).trans (releaseVersion_jobs u m v)
  exact hfold _ s

/-- Eviction leaves the fetches alone (R295). -/
theorem evictFor_jobs (m n fuel : Nat) (s : State) : (evictFor s m n fuel).fetch.jobs = s.fetch.jobs := by
  induction fuel generalizing s with
  | zero => rfl
  | succ fuel ih =>
    unfold evictFor
    split
    · rfl
    · split
      · rfl
      · exact (ih _).trans ((congrArg FetchUnit.jobs (fetch_of_frame fr_dropVariants rfl)).trans (dropVersions_jobs _ _ _ _))

theorem grantPages_fetch (s : State) (m : Nat) (p : PageUse) (l : List Nat) (n : Nat) : (grantPages s m p l n).1.fetch = s.fetch :=
  fetch_of_frame fr_grantPages rfl

theorem enterPages_fetch (s : State) (m : Nat) (r w : Bool) (l : List (Nat × Nat)) : (enterPages s m r w l).fetch = s.fetch :=
  fetch_of_frame fr_enterPages rfl

/-- Pages granted to a fetch, or too few, leave the fetches alone. -/
theorem grantedPages_jobs (s : State) (m n : Nat) (idx : List Nat) :
    (let (t, l) := grantPages s m .granted (mapStacks s m 0xFF) n
      if l.length < n then (3, s, []) else (0, enterPages t m false false (idx.zip l), idx) : Nat × State × List Nat).2.1.fetch.jobs = s.fetch.jobs := by
  have hgrant := grantPages_fetch s m .granted (mapStacks s m 0xFF) n
  generalize grantPages s m .granted (mapStacks s m 0xFF) n = p at hgrant ⊢
  obtain ⟨t, l⟩ := p
  dsimp only at hgrant ⊢
  split
  · rfl
  · rw [enterPages_fetch, hgrant]

theorem fetchPages_eq (s : State) (m : Nat) (j : FetchJob) (image n : Nat) (idx : List Nat) (u : State) (hn : n = (image + pageBytes - 1) / pageBytes)
    (hidx : idx = (upTo n).map fun i => (j.cmd.targetMa - hbmRegion) / pageBytes + i) (hu : u = evictFor s m n 17) : fetchPages s m j image =
      if unmappedPages u m < n then (3, u, [])
      else if decide (hbmEnd < j.cmd.targetMa + n * pageBytes) || idx.any (fun i => (entryOf u m i).isSome) then (4, u, [])
      else
        let (t, l) := grantPages u m .granted (mapStacks u m 0xFF) n
        if l.length < n then (3, u, []) else (0, enterPages t m false false (idx.zip l), idx) := by
  subst hn hidx hu
  rfl

theorem fetchPages_jobs (s : State) (m : Nat) (j : FetchJob) (image : Nat) : (fetchPages s m j image).2.1.fetch.jobs = s.fetch.jobs := by
  obtain ⟨n, hn⟩ : ∃ n, n = (image + pageBytes - 1) / pageBytes := ⟨_, rfl⟩
  obtain ⟨idx, hidx⟩ : ∃ idx, idx = (upTo n).map fun i => (j.cmd.targetMa - hbmRegion) / pageBytes + i := ⟨_, rfl⟩
  obtain ⟨u, hu⟩ : ∃ u, u = evictFor s m n 17 := ⟨_, rfl⟩
  have hjobs : u.fetch.jobs = s.fetch.jobs := by
    rw [hu]
    exact evictFor_jobs _ _ _ _
  rw [fetchPages_eq s m j image n idx u hn hidx hu]
  split
  · exact hjobs
  · split
    · exact hjobs
    · exact (grantedPages_jobs u m n _).trans hjobs

theorem exec_fetchHeaderRead {s : State} {m : Nat} {j : FetchJob} {header hashes signature hd hs sg : Bytes} (hup : isUp s = true)
    (hjob : tfind s.fetch.jobs m = some j) (hnew : j.headerOk = false) (hgone : j.slotGone = false) (hcancel : j.cancel = false)
    (hbus : j.cmd.bar4 = true ∨ (getFn s (hostFn s m)).busMaster = true) (hparts : bundleParts s j header hashes signature = some (hd, hs, sg)) :
    exec (.fetchHeaderRead m header hashes signature) s =
      if bundleCode s m j hd hs sg ≠ 0 then .next (endFetch s m (bundleCode s m j hd hs sg))
      else if (fetchPages s m j (parseHdr hd).image).1 ≠ 0 then
        .next (endFetch (fetchPages s m j (parseHdr hd).image).2.1 m (fetchPages s m j (parseHdr hd).image).1)
      else .next (modJob (fetchPages s m j (parseHdr hd).image).2.1 m { j with
        headerOk := true, header := hd, hashes := hs, manifest := Config.sha3 (hd ++ hs), granted := (fetchPages s m j (parseHdr hd).image).2.2 }) := by
  show execFetchHeaderRead m header hashes signature s = _
  unfold execFetchHeaderRead
  split
  · rename_i hno
    exact absurd (hno.symm.trans hjob) (by simp)
  · rename_i j' hj
    obtain rfl := Option.some.inj (hj.symm.trans hjob)
    rw [if_neg (by simp [hup, hnew])]
    split
    · rename_i hedge
      exact absurd (hedge.symm.trans (atChunkEdge_none hgone hcancel hbus)) (by simp)
    · split
      · rename_i hno
        exact absurd (hno.symm.trans hparts) (by simp)
      · rename_i hd' hs' sg' hsome
        cases Option.some.inj (hsome.symm.trans hparts)
        generalize fetchPages s m j' (parseHdr hd).image = p
        obtain ⟨c, t, idx⟩ := p
        rfl

/-! ## F4: the chunks (R344, R346) -/

/-- One piece of a range written to its home. -/
def pieceWritten (s : State) (m ma : Nat) (b : Bytes) : State :=
  match homeRaw s m ma with
  | some h => homeWrite s h b
  | none => s

theorem pieceWritten_fetch (s : State) (f : FetchUnit) (m ma : Nat) (b : Bytes) :
    pieceWritten { s with fetch := f } m ma b = { pieceWritten s m ma b with fetch := f } := by
  have hhome : homeRaw { s with fetch := f } m ma = homeRaw s m ma := rfl
  unfold pieceWritten
  rw [hhome]
  cases homeRaw s m ma with
  | none => rfl
  | some h => cases h <;> rfl

/-- What is written does not depend on the fetches. -/
theorem writeHomes_fetch (s : State) (f : FetchUnit) (m fuel ma : Nat) (b : Bytes) :
    writeHomes { s with fetch := f } m fuel ma b = { writeHomes s m fuel ma b with fetch := f } := by
  have hnext : ∀ (s : State) (fuel ma : Nat) (b : Bytes), writeHomes s m (fuel + 1) ma b = if b.isEmpty then s
      else writeHomes (pieceWritten s m ma (b.take (linePiece ma b.length))) m fuel (ma + linePiece ma b.length) (b.drop (linePiece ma b.length)) :=
    fun _ _ _ _ => rfl
  induction fuel generalizing s ma b with
  | zero => rfl
  | succ fuel ih =>
    rw [hnext, hnext]
    split
    · rfl
    · rw [pieceWritten_fetch]
      exact ih _ _ _

/-- The engine serves a moon. -/
def serving (s : State) (m : Nat) : State := { s with fetch := { s.fetch with served := m } }

/-- A chunk that is verified stands in the pages (R344). -/
def chunkStored (s : State) (m i ma n : Nat) (j : FetchJob) (b : Bytes) : State :=
  setParam (modJob (writeHomes (serving s m) m (n / 64 + 2) ma b) m { j with verified := addNum j.verified i }) 0x8052 m (addNum j.verified i).length

theorem chunkStored_job (s : State) (m i ma n : Nat) (j : FetchJob) (b : Bytes) :
    tfind (chunkStored s m i ma n j b).fetch.jobs m = some { j with verified := addNum j.verified i } := tfind_tset_same _ _ _

theorem chunkStored_bytes (s : State) (m i ma n : Nat) (j : FetchJob) (b : Bytes) :
    SameBytes (writeHomes s m (n / 64 + 2) ma b) (chunkStored s m i ma n j b) := by
  have hwrite : writeHomes (serving s m) m (n / 64 + 2) ma b =
      { writeHomes s m (n / 64 + 2) ma b with fetch := { s.fetch with served := m } } := writeHomes_fetch s _ _ _ _ _
  unfold chunkStored
  rw [hwrite]
  exact fun a => ⟨rfl, rfl, rfl⟩

theorem chunkStored_serve (s : State) (m i ma n : Nat) (j : FetchJob) (b : Bytes) : (chunkStored s m i ma n j b).serve = s.serve := by
  have hwrite : (writeHomes (serving s m) m (n / 64 + 2) ma b).serve = (serving s m).serve := serve_of_frame fr_writeHomes rfl
  exact hwrite

theorem exec_fetchChunkDone {s : State} {m i : Nat} {j : FetchJob} (chunk : Bytes) (hup : isUp s = true) (hjob : tfind s.fetch.jobs m = some j)
    (hok : j.headerOk = true) (hgone : j.slotGone = false) (hcancel : j.cancel = false) (hbar4 : j.cmd.bar4 = false)
    (hbus : (getFn s (hostFn s m)).busMaster = true) (hturn : fetchTurn s m = true) (hnext : nextChunk j = some i) :
    exec (.fetchChunkDone m chunk) s =
      if Config.sha3 (chunk.take (chunkLen (parseHdr j.header) i)) ≠ slice j.hashes (64 * i) 64 then
        .next (if j.retried.contains i then endFetch (serving s m) m 9 else modJob (serving s m) m { j with retried := i :: j.retried })
      else if (addNum j.verified i).length = (parseHdr j.header).chunks then
        .next (finishFetch (chunkStored s m i (j.cmd.targetMa + i * 2 ^ (parseHdr j.header).log2) (chunkLen (parseHdr j.header) i) j
          (chunk.take (chunkLen (parseHdr j.header) i))) m { j with verified := addNum j.verified i })
      else .next (chunkStored s m i (j.cmd.targetMa + i * 2 ^ (parseHdr j.header).log2) (chunkLen (parseHdr j.header) i) j
        (chunk.take (chunkLen (parseHdr j.header) i))) := by
  show execFetchChunkDone m chunk s = _
  unfold execFetchChunkDone
  rw [hjob]
  dsimp only
  rw [if_neg (by simp [hup, hok, hturn]), atChunkEdge_none hgone hcancel (.inr hbus)]
  dsimp only
  rw [hnext]
  dsimp only
  simp only [hbar4, Bool.false_eq_true, if_false]
  rfl

/-! ## F5 and F6 (R344, R345) -/

/-- A fetch whose last chunk is verified ends: DONE, or code 8 when the version that it rests on has gone (R345). -/
theorem finishFetch_ends {s : State} {m : Nat} {j k : FetchJob} (hjob : tfind s.fetch.jobs m = some k) (hop : k.op = j.op) :
    FetchEnded m j.op (if baseMatches (getSlot s m j.cmd.slot) j.op (parseHdr j.header) then 0 else 8) (finishFetch s m j) := by
  unfold finishFetch
  cases hbase : baseMatches (getSlot s m j.cmd.slot) j.op (parseHdr j.header) with
  | false =>
    have hend := endFetch_ends 8 hjob
    rw [hop] at hend
    exact hend
  | true =>
    show FetchEnded m j.op 0 (fetchStatus _ m j.who j.op j.cmd.fetchId 0)
    exact fetchStatus_ended (tfind_tdel_same _ _)

end Sys2Proof.Proofs
end

section
/-! The BAR4 window, and the statement about verified fetches (R338 to R349). -/

set_option Elab.async false

namespace Sys2Proof.Proofs

open Sys2Proof.Machine Sys2Proof.Laws

/-! ## Buffers -/

@[simp] theorem getBuf_setBuf (s : State) (i : Nat) (b : Bar4Buf) : getBuf (setBuf s i b) i = b := tget_tset_same _ _ _ _

theorem getBuf_setBuf_ne (s : State) {i k : Nat} (b : Bar4Buf) (h : k ≠ i) : getBuf (setBuf s i b) k = getBuf s k := tget_tset_ne _ _ _ _ _ h

/-- What is written into descriptor `i`. -/
def described (x : Bar4Buf) (o : Nat) (b : Bytes) : Bar4Buf :=
  let d := overwrite (bufBytes x) o b
  { x with offset := field d 0 8, len := field d 8 4, full := field d 12 4 == 1 }

theorem writeDesc_bar4 (s : State) (m i o : Nat) (b : Bytes) :
    (writeDesc s m i o b).fetch.bar4 = (setBuf s i (described (getBuf s i) o b)).fetch.bar4 := by
  unfold writeDesc
  dsimp only
  split
  · split <;> rfl
  · rfl

theorem getBuf_writeDesc (s : State) (m i o : Nat) (b : Bytes) : getBuf (writeDesc s m i o b) i = described (getBuf s i) o b := by
  unfold getBuf
  rw [writeDesc_bar4]
  exact getBuf_setBuf _ _ _

theorem getBuf_writeDesc_ne (s : State) {m i k o : Nat} (b : Bytes) (h : k ≠ i) : getBuf (writeDesc s m i o b) k = getBuf s k := by
  unfold getBuf
  rw [writeDesc_bar4]
  exact getBuf_setBuf_ne _ _ h

/-! ## The part of a write that falls into a buffer or a descriptor -/

theorem overlap_below {o base n : Nat} {d : Bytes} (h : o + d.length ≤ base) : (overlap o d base n).2 = [] := by
  have hnone : d.drop (base - o) = [] := List.drop_eq_nil_of_le (by omega)
  show (d.drop (base - o)).take _ = []
  rw [hnone, List.take_nil]

theorem overlap_above {o base n : Nat} {d : Bytes} (h : base + n ≤ o) : (overlap o d base n).2 = [] := by
  have hnone : base + n - Nat.max o base = 0 := by
    have : Nat.max o base = o := Nat.max_eq_left (by omega)
    omega
  show (d.drop (base - o)).take (base + n - Nat.max o base) = []
  rw [hnone, List.take_zero]

theorem overlap_inside {o base n : Nat} {d : Bytes} (h : base ≤ o) : overlap o d base n = (o - base, d.take (base + n - o)) := by
  have hmax : Nat.max o base = o := Nat.max_eq_left h
  have hzero : base - o = 0 := by omega
  unfold overlap
  rw [hmax, hzero]
  rfl

/-- What runs over the end of a record does not matter. -/
theorem overwrite_take (b d : Bytes) {o : Nat} (h : o ≤ b.length) : overwrite b o (d.take (b.length - o)) = overwrite b o d := by
  unfold overwrite
  by_cases hd : d.length ≤ b.length - o
  · rw [List.take_of_length_le hd]
  · have hlen : (b.take o ++ d.take (b.length - o)).length = b.length := by simp; omega
    rw [List.take_append_of_le_length (Nat.le_of_eq hlen.symm), List.take_of_length_le (Nat.le_of_eq hlen)]
    rw [List.take_append_of_le_length (by simp; omega), List.take_append, List.length_take, Nat.min_eq_left h,
      List.take_of_length_le (i := b.length) (List.length_take_le' _ _)]

theorem length_bufBytes (x : Bar4Buf) : (bufBytes x).length = 16 := by
  unfold bufBytes
  simp [length_leBytes]

/-! ## BAR4 writes (R349, R410) -/

/-- A write reaches one buffer, and one descriptor. -/
def contentStep (a : Nat) (d : Bytes) (s : State) (i : Nat) : State :=
  if (overlap a d (0x400000 * (i + 1)) 0x400000).2.isEmpty then s
  else setBuf s i { getBuf s i with bytes := memWrite (getBuf s i).bytes (overlap a d (0x400000 * (i + 1)) 0x400000).1 (overlap a d (0x400000 * (i + 1)) 0x400000).2 }

def descStep (m a : Nat) (d : Bytes) (s : State) (i : Nat) : State :=
  if (overlap a d (0x800 + 16 * i) 16).2.isEmpty then s
  else writeDesc s m i (overlap a d (0x800 + 16 * i) 16).1 (overlap a d (0x800 + 16 * i) 16).2

theorem exec_bar4Write {s : State} {m : Nat} (a : Nat) (d : Bytes) (hup : isUp s = true) (hown : s.fetch.bar4Owner = some m) :
    exec (.bar4Write a d) s = .next ((upTo 63).foldl (descStep m a d) ((upTo 63).foldl (contentStep a d) s)) := by
  have hlive : dead s = false := by
    have hphase : s.power.phase = .up := by simpa [isUp] using hup
    simp [dead, hphase]
  show execBar4Write a d s = _
  unfold execBar4Write
  rw [if_neg (by simp [hlive]), if_pos hup, hown]
  rfl

theorem onlyFetch_bar4Write (m a : Nat) (d : Bytes) (s : State) :
    OnlyChanges [.fetch] s ((upTo 63).foldl (descStep m a d) ((upTo 63).foldl (contentStep a d) s)) := by
  have hcontent : ∀ (v : State) (i : Nat), Fr (2 ^ 9) s v → Fr (2 ^ 9) s (contentStep a d v i) := fun v i hv => by
    unfold contentStep
    split
    · exact hv
    · exact Fr.call fr_setBuf rfl hv
  have hdesc : ∀ (v : State) (i : Nat), Fr (2 ^ 9) s v → Fr (2 ^ 9) s (descStep m a d v i) := fun v i hv => by
    unfold descStep
    split
    · exact hv
    · exact Fr.call fr_writeDesc rfl hv
  exact Fr.only (k := 2 ^ 9) (fr_foldl (fr_foldl (Fr.refl _ _) hcontent) hdesc) rfl

theorem foldl_same {α β : Type} {f : α → β → α} {l : List β} {a : α} (h : ∀ b ∈ l, f a b = a) : l.foldl f a = a := by
  induction l with
  | nil => rfl
  | cons b l ih =>
    rw [List.foldl_cons, h b List.mem_cons_self]
    exact ih fun c hc => h c (List.mem_cons_of_mem _ hc)

theorem contentStep_ne (a : Nat) (d : Bytes) (s : State) {i k : Nat} (h : k ≠ i) : getBuf (contentStep a d s i) k = getBuf s k := by
  unfold contentStep
  split
  · rfl
  · exact getBuf_setBuf_ne _ _ h

theorem descStep_ne (m a : Nat) (d : Bytes) (s : State) {i k : Nat} (h : k ≠ i) : getBuf (descStep m a d s i) k = getBuf s k := by
  unfold descStep
  split
  · rfl
  · exact getBuf_writeDesc_ne _ _ h

theorem getBuf_foldl_ne {f : State → Nat → State} {k : Nat} (hf : ∀ s i, k ≠ i → getBuf (f s i) k = getBuf s k) {l : List Nat} (hk : k ∉ l) (s : State) :
    getBuf (l.foldl f s) k = getBuf s k := by
  induction l generalizing s with
  | nil => rfl
  | cons i l ih =>
    have hki : k ≠ i := fun h => hk (h ▸ List.mem_cons_self)
    exact (ih (fun h => hk (List.mem_cons_of_mem _ h)) _).trans (hf s i hki)

/-- A buffer is changed by its own step alone. -/
theorem getBuf_foldl {f : State → Nat → State} {k n : Nat} (hf : ∀ s i, k ≠ i → getBuf (f s i) k = getBuf s k) (hk : k < n) (s : State) :
    ∃ t, getBuf t k = getBuf s k ∧ getBuf ((upTo n).foldl f s) k = getBuf (f t k) k := by
  obtain ⟨l, r, hlr⟩ := List.append_of_mem (show k ∈ upTo n by simpa [upTo] using hk)
  have hnodup : (l ++ k :: r).Nodup := by
    rw [← hlr]
    exact List.nodup_range
  rw [List.nodup_append] at hnodup
  obtain ⟨_, hcons, hdisj⟩ := hnodup
  have hl : k ∉ l := fun h => hdisj k h k List.mem_cons_self rfl
  have hr : k ∉ r := (List.nodup_cons.mp hcons).1
  refine ⟨l.foldl f s, getBuf_foldl_ne hf hl s, ?_⟩
  rw [hlr, List.foldl_append, List.foldl_cons]
  exact getBuf_foldl_ne hf hr _

/-- A write below the buffers reaches no buffer's contents. -/
theorem contents_untouched {a : Nat} {d : Bytes} (s : State) (h : a + d.length ≤ 0x400000) : (upTo 63).foldl (contentStep a d) s = s := by
  refine foldl_same fun i _ => ?_
  unfold contentStep
  rw [overlap_below (by omega)]
  rfl

/-- A write above the descriptors reaches none. -/
theorem descs_untouched {m a : Nat} {d : Bytes} (s : State) (h : 0x400000 ≤ a) : (upTo 63).foldl (descStep m a d) s = s := by
  refine foldl_same fun i hi => ?_
  have hlt : i < 63 := by simpa [upTo] using hi
  unfold descStep
  rw [overlap_above (by omega)]
  rfl

theorem getBuf_desc {m a i : Nat} {d : Bytes} (s : State) (hi : i < 63) (hlow : 0x800 + 16 * i ≤ a) (hhigh : a < 0x810 + 16 * i) (hd : d ≠ []) :
    getBuf ((upTo 63).foldl (descStep m a d) s) i = described (getBuf s i) (a % 16) d := by
  obtain ⟨t, ht, heq⟩ := getBuf_foldl (f := descStep m a d) (fun s k h => descStep_ne m a d s h) hi s
  have hover : overlap a d (0x800 + 16 * i) 16 = (a % 16, d.take (16 - a % 16)) := by
    rw [overlap_inside hlow]
    congr 1
    · omega
    · congr 1
      omega
  have hsome : (overlap a d (0x800 + 16 * i) 16).2.isEmpty = false := by
    rw [hover]
    have hpos : 0 < d.length := List.length_pos_iff.mpr hd
    have hlen : 0 < (d.take (16 - a % 16)).length := by
      rw [List.length_take]
      omega
    exact List.isEmpty_eq_false_iff.mpr (List.length_pos_iff.mp hlen)
  rw [heq]
  unfold descStep
  rw [hsome, if_neg (by simp), getBuf_writeDesc, hover, ht]
  have htake := overwrite_take (bufBytes (getBuf s i)) d (o := a % 16) (by rw [length_bufBytes]; omega)
  rw [length_bufBytes] at htake
  unfold described
  dsimp only
  rw [htake]

theorem memGet_memWrite_in {m : List Host.Cell} {k a : Nat} {b : Bytes} (h : memWf m = true) (hlow : k ≤ a) (hhigh : a < k + b.length) :
    memGet (memWrite m k b) a = b.getD (a - k) 0 := by
  induction b generalizing m k with
  | nil => exact absurd hhigh (by simp; omega)
  | cons x r ih =>
    have hstep : memWrite m k (x :: r) = memWrite (memSet m k x) (k + 1) r := rfl
    rw [hstep]
    by_cases hka : a = k
    · subst hka
      rw [memGet_memWrite_out (.inl (by omega)), memGet_memSet_same h]
      simp
    · rw [ih (memWf_memSet h) (by omega) (by simp at hhigh; omega)]
      obtain ⟨j, rfl⟩ : ∃ j, a = k + 1 + j := ⟨a - (k + 1), by omega⟩
      have h1 : k + 1 + j - (k + 1) = j := by omega
      have h2 : k + 1 + j - k = j + 1 := by omega
      rw [h1, h2]
      rfl

theorem getBuf_content {a i : Nat} {d : Bytes} (s : State) (hi : i < 63) (hlow : 0x400000 * (i + 1) ≤ a) (hhigh : a + d.length ≤ 0x400000 * (i + 2))
    (hd : d ≠ []) : getBuf ((upTo 63).foldl (contentStep a d) s) i =
      { getBuf s i with bytes := memWrite (getBuf s i).bytes (a % 0x400000) d } := by
  obtain ⟨t, ht, heq⟩ := getBuf_foldl (f := contentStep a d) (fun s k h => contentStep_ne a d s h) hi s
  have hpos : 0 < d.length := List.length_pos_iff.mpr hd
  have hover : overlap a d (0x400000 * (i + 1)) 0x400000 = (a % 0x400000, d) := by
    have hoff : a - 0x400000 * (i + 1) = a % 0x400000 := by omega
    rw [overlap_inside hlow, List.take_of_length_le (by omega), hoff]
  rw [heq]
  unfold contentStep
  rw [hover, if_neg (by simp [hd]), getBuf_setBuf, ht]

/-! ## FULL buffers (R349) -/

/-- A job that has taken a FULL buffer. -/
def bufferTaken (j : FetchJob) (b : Bar4Buf) : FetchJob :=
  let cut := Nat.min b.len (bar4ImageOff j - b.offset)
  { j with received := j.received ++ [(b.offset, b.len)], pre := if cut = 0 then j.pre else memWrite j.pre b.offset ((memRead b.bytes 0 b.len).take cut) }

/-- The image bytes of a FULL buffer stand in the pages. -/
def imageStored (s : State) (m : Nat) (j : FetchJob) (b : Bar4Buf) : State :=
  let rest := (memRead b.bytes 0 b.len).drop (Nat.min b.len (bar4ImageOff j - b.offset))
  if rest.isEmpty then s
  else writeHomes s m (rest.length / 64 + 2) (j.cmd.targetMa + (b.offset + Nat.min b.len (bar4ImageOff j - b.offset) - bar4ImageOff j)) rest

theorem exec_bar4BufferFull {s : State} {m i : Nat} {j : FetchJob} (hup : isUp s = true) (hown : s.fetch.bar4Owner = some m)
    (hjob : tfind s.fetch.jobs m = some j) (hok : j.headerOk = true) (hfull : (getBuf s i).full = true) (hpos : 0 < (getBuf s i).len)
    (hlen : (getBuf s i).len ≤ 0x400000) (hin : (getBuf s i).offset + (getBuf s i).len ≤ j.cmd.bundleBytes)
    (hnew : ∀ r ∈ j.received, meets ((getBuf s i).offset, (getBuf s i).len) r = false) :
    exec (.bar4BufferFull i) s =
      .next (modJob (setBuf (imageStored s m j (getBuf s i)) i { getBuf s i with full := false }) m (bufferTaken j (getBuf s i))) := by
  have hmeets : j.received.any (meets ((getBuf s i).offset, (getBuf s i).len)) = false := by
    rw [List.any_eq_false]
    intro r hr
    rw [hnew r hr]
    exact Bool.false_ne_true
  show execBar4BufferFull i s = _
  unfold execBar4BufferFull
  rw [hown]
  dsimp only
  rw [hjob]
  dsimp only
  rw [if_neg (by simp [hup, hfull]), if_neg (by rw [hmeets]; simp; omega), if_neg (by simp [hok])]
  rfl

/-- A header that has been read ends the fetch, or has its pages granted (R344). -/
theorem headerRead_settles {s : State} {m code : Nat} {j : FetchJob} {hd hs : Bytes} {e : Res} {p : Nat × State × List Nat}
    (hexec : e = if code ≠ 0 then .next (endFetch s m code)
      else if p.1 ≠ 0 then .next (endFetch p.2.1 m p.1)
      else .next (modJob p.2.1 m { j with headerOk := true, header := hd, hashes := hs, manifest := Config.sha3 (hd ++ hs), granted := p.2.2 }))
    (hjob : tfind s.fetch.jobs m = some j) (hjobs : p.2.1.fetch.jobs = s.fetch.jobs) :
    ∃ t, e = .next t ∧
      (code ≠ 0 → tfind t.fetch.jobs m = none ∧ tfind t.fetch.status m = some (BitVec.ofNat 32 (4 + 256 * fetchOpCode j.op + 65536 * code))) ∧
      (code = 0 → p.1 = 0 → ∃ k, tfind t.fetch.jobs m = some k ∧ k.headerOk = true ∧ k.header = hd ∧ k.hashes = hs ∧ k.granted = p.2.2) ∧
      (code = 0 → p.1 ≠ 0 → tfind t.fetch.jobs m = none ∧
        tfind t.fetch.status m = some (BitVec.ofNat 32 (4 + 256 * fetchOpCode j.op + 65536 * p.1))) := by
  have hends : ∀ (u : State) (c : Nat), c ≠ 0 → tfind u.fetch.jobs m = some j → tfind (endFetch u m c).fetch.jobs m = none ∧
      tfind (endFetch u m c).fetch.status m = some (BitVec.ofNat 32 (4 + 256 * fetchOpCode j.op + 65536 * c)) := fun u c hc hu => by
    have hended := endFetch_ends c hu
    have hstatus := hended.status
    unfold fetchWord at hstatus
    rw [if_neg hc] at hstatus
    exact ⟨hended.gone, hstatus⟩
  by_cases hcode : code = 0
  · rw [if_neg (by simp [hcode])] at hexec
    by_cases hpages : p.1 = 0
    · rw [if_neg (by simp [hpages])] at hexec
      exact ⟨_, hexec, fun h => absurd hcode h, fun _ _ => ⟨_, tfind_tset_same _ _ _, rfl, rfl, rfl, rfl⟩, fun _ h => absurd hpages h⟩
    · rw [if_pos hpages] at hexec
      exact ⟨_, hexec, fun h => absurd hcode h, fun _ h => absurd h hpages, fun _ _ => hends _ _ hpages (by rw [hjobs]; exact hjob)⟩
  · rw [if_pos hcode] at hexec
    exact ⟨_, hexec, fun _ => hends _ _ hcode hjob, fun h => absurd h hcode, fun h => absurd h hcode⟩

/-- Settles O39. -/
theorem fetchesVerifyAndBar4Fills : Obligations.FetchesVerifyAndBar4Fills := by
  unfold Obligations.FetchesVerifyAndBar4Fills
  refine ⟨⟨?_, ?_⟩, ?_, ?_, ?_, ?_, ?_⟩
  · intro s m j header hashes signature hd hs sg hup hjob hnew hgone hcancel hbus hparts
    exact headerRead_settles (exec_fetchHeaderRead hup hjob hnew hgone hcancel hbus hparts) hjob (fetchPages_jobs s m j (parseHdr hd).image)
  · intro s m i n ma j chunk hup hjob hok hgone hcancel hbar4 hbus hturn hnext hn hma
    subst hn hma
    have hexec := exec_fetchChunkDone chunk hup hjob hok hgone hcancel hbar4 hbus hturn hnext
    have hserving : tfind (serving s m).fetch.jobs m = some j := hjob
    by_cases hhash : Config.sha3 (chunk.take (chunkLen (parseHdr j.header) i)) = slice j.hashes (64 * i) 64
    · rw [if_neg (by simp [hhash])] at hexec
      by_cases hlast : (addNum j.verified i).length = (parseHdr j.header).chunks
      · rw [if_pos hlast] at hexec
        have hended := finishFetch_ends (j := { j with verified := addNum j.verified i }) (chunkStored_job s m i
          (j.cmd.targetMa + i * 2 ^ (parseHdr j.header).log2) (chunkLen (parseHdr j.header) i) j (chunk.take (chunkLen (parseHdr j.header) i))) rfl
        have hstatus := hended.status
        rw [getSlot_of_serve (chunkStored_serve _ _ _ _ _ _ _)] at hstatus
        refine ⟨_, hexec, fun _ h => absurd hlast h, fun _ _ => ⟨hended.gone, hstatus.trans ?_⟩, fun h => absurd hhash h, fun h => absurd hhash h⟩
        show some (fetchWord j.op (if baseMatches (getSlot s m j.cmd.slot) j.op (parseHdr j.header) then 0 else 8)) = _
        split <;> rfl
      · rw [if_neg hlast] at hexec
        exact ⟨_, hexec, fun _ _ => ⟨chunkStored_job _ _ _ _ _ _ _, chunkStored_bytes _ _ _ _ _ _ _⟩, fun _ h => absurd h hlast,
          fun h => absurd hhash h, fun h => absurd hhash h⟩
    · rw [if_pos hhash] at hexec
      by_cases hretried : j.retried.contains i = true
      · rw [if_pos hretried] at hexec
        have hended := endFetch_ends 9 hserving
        exact ⟨_, hexec, fun h => absurd h hhash, fun h => absurd h hhash, fun _ h => absurd (hretried.symm.trans h) (by simp),
          fun _ _ => ⟨hended.gone, hended.status⟩⟩
      · rw [if_neg hretried] at hexec
        exact ⟨_, hexec, fun h => absurd h hhash, fun h => absurd h hhash, fun _ _ => ⟨tfind_tset_same _ _ _, rfl⟩, fun _ h => absurd h hretried⟩
  · intro s m a i d hup hown hi hlow hhigh hd hend
    have hbuf := getBuf_desc (m := m) s hi hlow hhigh hd
    refine ⟨_, exec_bar4Write a d hup hown, ?_⟩
    refine ⟨?_, ?_, ?_, ?_, onlyFetch_bar4Write m a d s⟩ <;> rw [contents_untouched s hend, hbuf]
    · rfl
    · rfl
    · exact beq_iff_eq
    · rfl
  · intro s m a i d hup hown hi hlow hhigh hd hwf
    refine ⟨_, exec_bar4Write a d hup hown, onlyFetch_bar4Write m a d s, fun o => ?_⟩
    rw [descs_untouched _ (by omega), getBuf_content s hi hlow hhigh hd]
    generalize a % 0x400000 = r
    dsimp only
    split
    · rename_i hin
      exact memGet_memWrite_in hwf hin.1 hin.2
    · rename_i hout
      exact memGet_memWrite_out (by omega)
  · intro s a d hlive hclosed hstuck hroom
    have hnone : (if isUp s then s.fetch.bar4Owner else none) = none := by
      rcases hclosed with h | h
      · rw [h, ite_self]
      · rw [h]
        rfl
    refine ⟨bar4Drop s, ?_, incA_fetch _ _ _ _, incA_counts hstuck hroom⟩
    show execBar4Write a d s = _
    unfold execBar4Write
    rw [if_neg (by simp [hlive]), hnone]
  · intro s m i j hup hown hjob hok hfull hpos hlen hin hnew
    have hexec := exec_bar4BufferFull hup hown hjob hok hfull hpos hlen hin hnew
    refine ⟨_, _, hexec, tfind_tset_same _ _ _, rfl, ?_⟩
    exact getBuf_setBuf _ _ _
  · intro s m j hup hjob hbar4 hmissing hdue
    have hended := endFetch_ends 0x10 hjob
    refine ⟨endFetch s m 0x10, ?_, hended.gone, hended.status⟩
    show execBar4Timeout m s = _
    unfold execBar4Timeout
    rw [hjob]
    exact if_pos (by simp [hup, hbar4, hmissing, hdue])

end Sys2Proof.Proofs
end

section
/-! The link ports of R354 to R376: what a port keeps while flits go out, and how bring-up, retraining and PORT_CTRL leave it. -/
set_option Elab.async false

namespace Sys2Proof.Proofs
open Sys2Proof.Machine Sys2Proof.Laws

/-! ## What sending leaves of a port -/

/-- A port without what sending flits and granting credit moves: sequence number sent, retry buffer, credit, queue and turn. -/
def lineOf (x : Port) : Port :=
  { x with txSeq := 0, retry := [], credit0 := 0, credit1 := 0, credit2 := [], rxUsed := [], owed := 0, wants := [], queue := [], turn := (0, 0) }

/-- The link unit is as it was but for what sending moves: of each port, and the answers that wait for a port. -/
structure SameLines (s t : State) : Prop where
  lines : ∀ p, lineOf (getPort t p) = lineOf (getPort s p)
  rest : t.links = { s.links with ports := t.links.ports, parked := t.links.parked }

theorem sameLines_refl (s : State) : SameLines s s := ⟨fun _ => rfl, rfl⟩

theorem sameLines_trans {s t u : State} (h : SameLines s t) (g : SameLines t u) : SameLines s u :=
  ⟨fun p => (g.lines p).trans (h.lines p), by rw [g.rest, h.rest]⟩

theorem getPort_of_links {s t : State} (h : t.links = s.links) (p : Nat) : getPort t p = getPort s p := by unfold getPort; rw [h]

theorem sameLines_of_links {s t : State} (h : t.links = s.links) : SameLines s t :=
  ⟨fun p => by rw [getPort_of_links h], by rw [h]⟩

theorem getPort_setPort_ne {s : State} {p q : Nat} {x : Port} (h : q ≠ p) : getPort (setPort s p x) q = getPort s q :=
  tget_tset_ne _ _ _ _ _ h

theorem sameLines_setPort {s : State} {p : Nat} {x : Port} (h : lineOf x = lineOf (getPort s p)) : SameLines s (setPort s p x) := by
  refine ⟨fun q => ?_, rfl⟩
  rcases Decidable.em (q = p) with rfl | hq
  · rw [getPort_setPort]; exact h
  · rw [getPort_setPort_ne hq]

theorem sameLines_emit {s t : State} (h : SameLines s t) (o : Out) : SameLines s (emit t o) := ⟨h.lines, h.rest⟩

theorem sameLines_foldl {α : Type} {f : State → α → State} (h : ∀ s x, SameLines s (f s x)) (l : List α) (s : State) :
    SameLines s (l.foldl f s) := by
  induction l generalizing s with
  | nil => exact sameLines_refl s
  | cons a l ih => exact sameLines_trans (h s a) (ih _)

theorem sameLines_sendFlit (s : State) (p type : Nat) (f : Flit) : SameLines s (sendFlit s p type f) := by
  unfold sendFlit
  dsimp only
  split
  · refine sameLines_emit (sameLines_setPort ?_) _
    rfl
  · exact sameLines_refl s

theorem sameLines_spend (s : State) (p vc m n : Nat) : SameLines s (spend s p vc m n) := by
  unfold spend
  refine sameLines_setPort ?_
  split
  · rfl
  · split <;> rfl

theorem sameLines_sendSpent (s : State) (p type : Nat) (f : Flit) : SameLines s (sendSpent s p type f) := by
  unfold sendSpent
  split
  · exact sameLines_sendFlit s p type f
  · exact sameLines_trans (sameLines_spend s p f.vc f.destMoon 1) (sameLines_sendFlit _ p type f)

theorem sameLines_enqueue (s : State) (p : Nat) (o : OutFlit) : SameLines s (enqueue s p o) := by
  unfold enqueue
  dsimp only
  split
  · exact sameLines_setPort rfl
  · exact sameLines_refl s

theorem sameLines_offer (s : State) (p type : Nat) (f : Flit) : SameLines s (offer s p type f) := by
  unfold offer
  split
  · exact sameLines_sendSpent s p type f
  · exact sameLines_enqueue s p _

theorem sameLines_sendCredit (s : State) (p vc m n : Nat) : SameLines s (sendCredit s p vc m n) := by
  have hgo : ∀ f, SameLines s (offer (setPort s p { getPort s p with owed := 0 }) p 7 f) := fun f =>
    sameLines_trans (sameLines_setPort (x := { getPort s p with owed := 0 }) rfl) (sameLines_offer (setPort s p { getPort s p with owed := 0 }) p 7 f)
  unfold sendCredit
  extract_lets x e own
  split
  · exact sameLines_refl s
  · exact hgo _

theorem sameLines_offerCtl (s : State) (p fabric : Nat) : SameLines s (offerCtl s p fabric) := by
  unfold offerCtl
  split
  · exact sameLines_offer _ _ _ _
  · exact sameLines_refl _

theorem sameLines_sendCtl (s : State) (k : CtlKind) (fabric : Nat) (l : List Nat) : SameLines s (sendCtl s k fabric l) := by
  have hemit : SameLines s (emit s (.control (portTo s fabric) k fabric l)) := sameLines_of_links rfl
  refine sameLines_trans hemit ?_
  exact sameLines_offerCtl _ _ _

theorem sameLines_offerBack (s : State) (p type : Nat) (f : Flit) : SameLines s (offerBack s p type f) := by
  unfold offerBack
  split
  · exact sameLines_offer s p type _
  · exact ⟨fun _ => rfl, rfl⟩

theorem sameLines_sendParked (s : State) : SameLines s (sendParked s) := by
  have hnone : SameLines s { s with links := { s.links with parked := [] } } := ⟨fun _ => rfl, rfl⟩
  unfold sendParked
  exact sameLines_trans hnone (sameLines_foldl (f := fun s (e : Nat × Flit) => offerBack s (portTo s e.2.destFabric) e.1 e.2) (fun s e => sameLines_offerBack s _ e.1 e.2) _ _)

theorem sameLines_askPool (s : State) (p m : Nat) : SameLines s (askPool s p m).1 := by
  unfold askPool
  dsimp only
  split
  · exact sameLines_setPort rfl
  · split
    · exact sameLines_setPort rfl
    · exact sameLines_setPort rfl

theorem sameLines_syncMoon (s : State) (p m : Nat) : SameLines s (syncMoon s p m) :=
  sameLines_trans (sameLines_askPool s p m) (sameLines_offer _ p 6 _)

theorem sameLines_sendSyncs (s : State) (p : Nat) : SameLines s (sendSyncs s p) := by
  have hfirst : SameLines s (sendSync s p 0 0 (128 - waitingFrom s p 0 - (getPort s p).owed)) := sameLines_offer s p 6 _
  have hsecond : ∀ u : State, SameLines u (sendSync u p 1 0 (384 - waitingFrom u p 1)) := fun u => sameLines_offer u p 6 _
  unfold sendSyncs
  refine sameLines_trans hfirst ?_
  generalize sendSync s p 0 0 (128 - waitingFrom s p 0 - (getPort s p).owed) = u
  dsimp only
  split
  · exact sameLines_syncMoon u p 0
  · exact sameLines_trans (hsecond u) (sameLines_foldl (f := fun s (e : Nat × Moon) => syncMoon s p e.1) (fun s e => sameLines_syncMoon s p e.1) _ _)

/-- Returning a waiting flit's credit, where it came by a port. -/
theorem sameLines_creditBack (s : State) (b : Option (Nat × Nat × Nat)) :
    SameLines s (match b with | some b => sendCredit s b.1 b.2.1 b.2.2 1 | none => s) := by
  cases b with
  | none => exact sameLines_refl s
  | some b => exact sameLines_sendCredit s _ _ _ _

theorem sameLines_drainPort (fuel : Nat) (s : State) (p : Nat) : SameLines s (drainPort fuel s p) := by
  induction fuel generalizing s with
  | zero => exact sameLines_refl s
  | succ fuel ih =>
    unfold drainPort
    dsimp only
    cases nextFlit s (getPort s p) with
    | none => exact sameLines_refl s
    | some e =>
      obtain ⟨o, turn⟩ := e
      have hout : SameLines s (setPort s p { getPort s p with queue := (getPort s p).queue.erase o, turn := turn }) := sameLines_setPort rfl
      exact sameLines_trans hout (sameLines_trans (sameLines_sendSpent _ p o.type o.flit) (sameLines_trans (sameLines_creditBack _ o.back) (ih _)))

theorem sameLines_flushPort (s : State) (p : Nat) : SameLines s (flushPort s p) := sameLines_drainPort _ s p

theorem sameLines_raisePf (s : State) (code : Nat) (l : List Nat) : SameLines s (raisePf s code l) :=
  sameLines_of_links (links_of_frame fr_raisePf rfl)

theorem sameLines_tellUp (s : State) (p : Nat) : SameLines s (tellUp s p) := by
  unfold tellUp
  dsimp only
  split
  · exact sameLines_raisePf s _ _
  · exact sameLines_trans (sameLines_raisePf s _ _) (sameLines_sendCtl _ _ _ _)

/-! ## UP (R355, R357, R373) -/

theorem failTx_ports (s : State) (x : TxXfer) (code detail : Nat) : (failTx s x code detail).links.ports = s.links.ports := by
  unfold failTx
  cases txTask s x with
  | none => rfl
  | some u =>
    have hfail : (failTask s u code 0 detail).links = s.links := links_of_frame fr_failTask rfl
    exact (congrArg (fun l : LinkUnit => l.ports) hfail :)

theorem loseFlits_getPort (s : State) (p q : Nat) : getPort (loseFlits s p) q = getPort s q := by
  have hports : ∀ (l : List TxXfer) (s : State), (l.foldl (fun s x => failTx s x 0x0306 p) s).links.ports = s.links.ports := by
    intro l
    induction l with
    | nil => exact fun _ => rfl
    | cons x l ih => exact fun s => (ih _).trans (failTx_ports s x _ _)
  unfold getPort loseFlits
  rw [hports]

theorem sameLines_dropQueue (s : State) (p : Nat) : SameLines s (dropQueue s p) := by
  have hempty : SameLines s (modPort s p fun x => { x with queue := [] }) := sameLines_setPort rfl
  exact sameLines_trans hempty (sameLines_foldl (fun s (o : OutFlit) => sameLines_creditBack s o.back) _ _)

/-- T7 starts the port's sequence numbers and credit anew and keeps how it was trained. -/
theorem freshPort_line (s : State) (p : Nat) : lineOf (getPort (freshPort s p) p) =
    { lineOf (getPort s p) with rxSeq := 0, retryRun := 0, retryTimes := [], heldBy := [], asked := false } := by
  have hold : lineOf (getPort (dropQueue (loseFlits s p) p) p) = lineOf (getPort s p) :=
    ((sameLines_dropQueue _ p).lines p).trans (congrArg lineOf (loseFlits_getPort s p p))
  rw [← hold]
  exact congrArg lineOf (getPort_setPort (dropQueue (loseFlits s p) p) p
    { getPort (dropQueue (loseFlits s p) p) p with txSeq := 0, rxSeq := 0, retry := [], retryRun := 0, retryTimes := [], credit0 := 0, credit1 := 0,
                                                   credit2 := [], rxUsed := [], heldBy := [], owed := 0, asked := false, wants := [] })

/-- The port that was `x` is UP with partner `q`; after a retraining with the same partner it expects the SEQ that it expected, otherwise 0. -/
structure CameUp (x : Port) (q : Partner) (sxl1 : Bool) (y : Port) : Prop where
  phase : y.phase = .up
  partner : y.partner = some q
  framing : y.sxl1 = sxl1
  degraded : y.degraded = degradedBy x q
  kept : x.resume = true → x.partner.map Partner.identity = some q.identity → y.rxSeq = x.rxSeq
  fresh : x.resume = false ∨ x.partner.map Partner.identity ≠ some q.identity → y.rxSeq = 0

theorem cameUp_of_line {x y z : Port} {q : Partner} {k : Bool} (h : CameUp x q k y) (g : lineOf z = lineOf y) : CameUp x q k z where
  phase := (congrArg Port.phase g).trans h.phase
  partner := (congrArg Port.partner g).trans h.partner
  framing := (congrArg Port.sxl1 g).trans h.framing
  degraded := (congrArg Port.degraded g).trans h.degraded
  kept hr hp := (congrArg Port.rxSeq g).trans (h.kept hr hp)
  fresh hp := (congrArg Port.rxSeq g).trans (h.fresh hp)

/-- The flits of a retry buffer go out again, and the ports stay. -/
theorem resend_links (s : State) (p : Nat) : (resend s p).links = s.links := links_of_frame fr_resend rfl

theorem portUp_cameUp (s : State) (p : Nat) (q : Partner) (k : Bool) : CameUp (getPort s p) q k (getPort (portUp s p q k) p) := by
  have hrest : ∀ (u : State) (x : Port) (again : Bool), SameLines (setPort u p x) (sendParked (sendSyncs (if again then resend (setPort u p x) p else setPort u p x) p)) := by
    intro u x again
    refine sameLines_trans ?_ (sameLines_trans (sameLines_sendSyncs _ p) (sameLines_sendParked _))
    split
    · exact sameLines_of_links (resend_links _ p)
    · exact sameLines_refl _
  have hresume := fun (y : Port) (h : lineOf y = lineOf (getPort s p)) => congrArg Port.resume h
  refine cameUp_of_line ?_ (((hrest _ _ _).lines p).trans (congrArg lineOf (getPort_setPort _ p _)))
  cases hsame : (getPort s p).resume && (getPort s p).partner.map Partner.identity == some q.identity with
  | true =>
    obtain ⟨hr, hp⟩ := Bool.and_eq_true_iff.mp hsame
    exact ⟨rfl, rfl, rfl, rfl, fun _ _ => rfl, fun h => by
      rcases h with h | h
      · exact absurd hr (by simp [h])
      · exact absurd (eq_of_beq hp) h⟩
  | false =>
    have hline := freshPort_line s p
    refine ⟨rfl, rfl, rfl, ?_, fun hr hp => ?_, fun _ => ?_⟩
    · have hw : (getPort (freshPort s p) p).width = (getPort s p).width := by
        have h := congrArg Port.width hline
        exact h
      have hc : (getPort (freshPort s p) p).class224 = (getPort s p).class224 := by
        have h := congrArg Port.class224 hline
        exact h
      show degradedBy (getPort (freshPort s p) p) q = _
      unfold degradedBy
      rw [hw, hc]
    · simp [hr, hp] at hsame
    · have h := congrArg Port.rxSeq hline
      exact h

/-! ## Training (R355 to R358, R374) -/

theorem getPort_modPort (s : State) (p : Nat) (f : Port → Port) : getPort (modPort s p f) p = f (getPort s p) := getPort_setPort s p _

/-- A training failure takes the port DOWN, and into FAILED when it is the third in 10 minutes. -/
theorem trainFail_phase (s : State) (p : Nat) : (getPort (trainFail s p) p).phase =
    if ((getPort s p).failTimes.filter (failRecent s)).length < 2 then .down else .failed := by
  have hlen : (failsNow s p).length = ((getPort s p).failTimes.filter (failRecent s)).length + 1 := by simp [failsNow]
  have hcount : ∀ u : State, getPort (incA u 0x5040 p 1) p = getPort u p := fun u => getPort_of_links (links_of_frame fr_incA rfl) p
  unfold trainFail
  dsimp only
  rw [hlen]
  by_cases h : ((getPort s p).failTimes.filter (failRecent s)).length < 2
  · rw [if_pos (by omega), if_pos h, hcount, getPort_modPort]
  · rw [if_neg (by omega), if_neg h]
    have hsvc : ∀ u : State, getPort (setSvc u 2) p = getPort u p := fun u => getPort_of_links (links_of_frame fr_setSvc rfl) p
    have hpf : ∀ u : State, getPort (raisePf u 0x0503 [p]) p = getPort u p := fun u => getPort_of_links (links_of_frame fr_raisePf rfl) p
    rw [hsvc, hpf, getPort_modPort]

theorem chooseMode_some {s : State} {p w : Nat} {k : Bool} {c : ChanMeas}
    (h : linkMode c ((getPort s p).forced112 || (getPort s p).repeat112) = some (k, w)) :
    chooseMode s p c = some (setPort s p { getPort s p with meas := some c, measAt := s.orbit.now, class224 := k, width := w,
                                                            high := linkHigh c ((getPort s p).forced112 || (getPort s p).repeat112) }) := by
  unfold chooseMode
  dsimp only
  rw [h]

/-- A port that finds signal measures and trains. -/
theorem linkSignalDetect_trains {s : State} {p w : Nat} {k : Bool} {c : ChanMeas} (hlive : linksLive s = true)
    (hen : (getPort s p).enabled = true) (hdown : (getPort s p).phase = .down)
    (hmode : linkMode c ((getPort s p).forced112 || (getPort s p).repeat112) = some (k, w)) :
    ∃ t, exec (.linkSignalDetect p c) s = .next t ∧ (getPort t p).phase = .training ∧ (getPort t p).class224 = k ∧ (getPort t p).width = w ∧
      (getPort t p).meas = some c ∧ OnlyChanges [.links] s t := by
  let u := setPort s p { getPort s p with phase := .training, t1 := s.orbit.refNs, protoRefused := false, conflict := false }
  have hu : getPort u p = { getPort s p with phase := .training, t1 := s.orbit.refNs, protoRefused := false, conflict := false } :=
    getPort_setPort s p _
  have hchoose := chooseMode_some (s := u) (p := p) (c := c) (k := k) (w := w) (by rw [hu]; exact hmode)
  have hstep : ∀ v, chooseMode u p c = some v → exec (.linkSignalDetect p c) s = .next v := by
    intro v hv
    show execLinkSignalDetect p c s = _
    unfold execLinkSignalDetect
    refine (if_neg (by rw [hlive, hen, hdown]; decide)).trans ?_
    show ((match chooseMode u p c with | some s => .next s | none => .next (trainFail u p)) : Res) = _
    rw [hv]
  refine ⟨_, hstep _ hchoose, ?_, ?_, ?_, ?_, ?_⟩
  · rw [getPort_setPort, hu]
  · rw [getPort_setPort]
  · rw [getPort_setPort]
  · rw [getPort_setPort]
  · have hfirst : Fr (2 ^ 10) s u := fr_setPort.up rfl
    exact Fr.only (Fr.trans hfirst (fr_setPort.up rfl)) rfl

theorem execLinkUp_eq {s : State} {p : Nat} {q : Partner} (hlive : linksLive s = true) (htrain : (getPort s p).phase = .training) :
    exec (.linkUp p q) s = match chooseT6 s p q with
      | .up k =>
        let u := tellUp (portUp (exchangeItems s p) p q k) p
        .next (flushPort (if (getPort u p).degraded then raisePf u 0x0502 [p] else u) p)
      | t => .next (t6Short (exchangeItems s p) p t) := by
  show execLinkUp p q s = _
  unfold execLinkUp
  dsimp only
  rw [hlive, htrain]
  exact if_neg (by decide)

/-- T6 of a training port that comes UP. -/
theorem linkUp_cameUp {s : State} {p : Nat} {q : Partner} {k : Bool} (hlive : linksLive s = true) (htrain : (getPort s p).phase = .training)
    (h6 : chooseT6 s p q = .up k) : ∃ t, exec (.linkUp p q) s = .next t ∧ CameUp (getPort s p) q k (getPort t p) := by
  have heq := execLinkUp_eq (q := q) hlive htrain
  rw [h6] at heq
  refine ⟨_, heq, ?_⟩
  have hup := portUp_cameUp (exchangeItems s p) p q k
  have htold := cameUp_of_line hup ((sameLines_tellUp _ p).lines p)
  refine cameUp_of_line ?_ ((sameLines_flushPort _ p).lines p)
  split
  · exact cameUp_of_line htold ((sameLines_raisePf _ _ _).lines p)
  · exact htold

/-- T6 of a training port that does not come UP. -/
theorem linkUp_short {s : State} {p : Nat} {q : Partner} {a : T6} (hlive : linksLive s = true) (htrain : (getPort s p).phase = .training)
    (h6 : chooseT6 s p q = a) (ha : ∀ k, a ≠ .up k) : exec (.linkUp p q) s = .next (t6Short (exchangeItems s p) p a) := by
  rw [execLinkUp_eq hlive htrain, h6]
  cases a with
  | up k => exact absurd rfl (ha k)
  | conflict => rfl
  | refused => rfl
  | again => rfl

theorem chooseT6_sxl2 {s : State} {p : Nat} {q : Partner} (h : q.sxl2 = true) :
    chooseT6 s p q = if param s 0x5010 0 = 0xFFFF ∨ param s 0x5010 0 = q.fabric then .conflict else .up false := by
  unfold chooseT6
  exact if_pos h

theorem chooseT6_sxl1 {s : State} {p : Nat} {q : Partner} (h : q.sxl2 = false) (h1 : q.sxl1 = true) :
    chooseT6 s p q = if (getPort s p).class224 then .again else if param s 0x5004 p = 1 then .up true else .refused := by
  unfold chooseT6
  dsimp only
  rw [h, h1]
  rfl

theorem chooseT6_neither {s : State} {p : Nat} {q : Partner} (h : q.sxl2 = false) (h1 : q.sxl1 = false) : chooseT6 s p q = .refused := by
  unfold chooseT6
  rw [h, h1]
  rfl

theorem linkUp_conflicts {s : State} {p : Nat} {q : Partner} (hlive : linksLive s = true) (htrain : (getPort s p).phase = .training)
    (h2 : q.sxl2 = true) (hown : param s 0x5010 0 = 0xFFFF ∨ param s 0x5010 0 = q.fabric) :
    ∃ t, exec (.linkUp p q) s = .next t ∧ (getPort t p).phase = .down ∧ (getPort t p).conflict = true := by
  refine ⟨_, linkUp_short hlive htrain ((chooseT6_sxl2 h2).trans (if_pos hown)) (fun _ h => by cases h), ?_⟩
  have hpf : ∀ u : State, getPort (raisePf u 0x0504 [p]) p = getPort u p := fun u => getPort_of_links (links_of_frame fr_raisePf rfl) p
  unfold t6Short
  dsimp only
  rw [hpf, getPort_modPort]
  exact ⟨rfl, rfl⟩

theorem linkUp_refused {s : State} {p : Nat} {q : Partner} (hlive : linksLive s = true) (htrain : (getPort s p).phase = .training)
    (h6 : chooseT6 s p q = .refused) :
    ∃ t, exec (.linkUp p q) s = .next t ∧ (getPort t p).phase = .down ∧ (getPort t p).protoRefused = true := by
  refine ⟨_, linkUp_short hlive htrain h6 (fun _ h => by cases h), ?_⟩
  unfold t6Short
  dsimp only
  rw [getPort_modPort]
  exact ⟨rfl, rfl⟩

/-- A port trained at 224 Gb/s meets an SXL1 partner: T3 is repeated at 112 Gb/s. -/
theorem linkUp_repeats {s : State} {p w : Nat} {q : Partner} {k : Bool} {c : ChanMeas} (hlive : linksLive s = true)
    (htrain : (getPort s p).phase = .training) (h6 : chooseT6 s p q = .again) (hmeas : (getPort s p).meas = some c)
    (hmode : linkMode c true = some (k, w)) :
    ∃ t, exec (.linkUp p q) s = .next t ∧ (getPort t p).phase = .training ∧ (getPort t p).repeat112 = true ∧ (getPort t p).class224 = k ∧
      (getPort t p).width = w := by
  let u := modPort (exchangeItems s p) p fun x => { x with repeat112 := true }
  have hu : getPort u p = { getPort s p with repeat112 := true } := getPort_modPort (exchangeItems s p) p _
  have hm : (getPort u p).meas = some c := by rw [hu]; exact hmeas
  have hchoose := chooseMode_some (s := u) (p := p) (c := c) (k := k) (w := w)
    (by rw [hu]; exact (congrArg (linkMode c) (Bool.or_true _)).trans hmode)
  have hshort : ∀ v, chooseMode u p c = some v → t6Short (exchangeItems s p) p .again = v := by
    intro v hv
    show (match (getPort u p).meas with
      | some c => (match chooseMode u p c with | some s => s | none => trainFail u p)
      | none => u) = _
    rw [hm]
    show (match chooseMode u p c with | some s => s | none => trainFail u p) = _
    rw [hv]
  have hexec := linkUp_short hlive htrain h6 (fun _ h => by cases h)
  rw [hshort _ hchoose] at hexec
  refine ⟨_, hexec, ?_⟩
  rw [getPort_setPort, hu]
  exact ⟨htrain, rfl, rfl, rfl⟩

theorem bringUpTimeout_fails {s : State} {p : Nat} (hlive : linksLive s = true)
    (hph : (getPort s p).phase = .training ∨ (getPort s p).phase = .retraining) :
    exec (.bringUpTimeout p) s = .next (trainFail s p) := by
  show execBringUpTimeout p s = _
  unfold execBringUpTimeout
  dsimp only
  rw [hlive]
  rcases hph with h | h <;> rw [h] <;> rfl

/-- D3 and D4 of a retraining: the port is UP again. -/
theorem retrainDone_up {s : State} {p w : Nat} {k : Bool} {c : ChanMeas} {q : Partner} (hlive : linksLive s = true)
    (hph : (getPort s p).phase = .retraining) (hmode : linkMode c ((getPort s p).forced112 || (getPort s p).repeat112) = some (k, w))
    (h2 : q.sxl2 = true) (hfar : param s 0x5010 0 ≠ 0xFFFF) (hother : param s 0x5010 0 ≠ q.fabric) :
    ∃ t, exec (.retrainDone p c q) s = .next t ∧ (getPort t p).phase = .up ∧ (getPort t p).partner = some q ∧
      ((getPort s p).resume = true → (getPort s p).partner.map Partner.identity = some q.identity → (getPort t p).rxSeq = (getPort s p).rxSeq) ∧
      ((getPort s p).resume = false ∨ (getPort s p).partner.map Partner.identity ≠ some q.identity → (getPort t p).rxSeq = 0) := by
  let x : Port := { getPort s p with meas := some c, measAt := s.orbit.now, class224 := k, width := w,
                                     high := linkHigh c ((getPort s p).forced112 || (getPort s p).repeat112) }
  let u := exchangeItems (setPort s p x) p
  have hu : getPort u p = x := getPort_setPort s p x
  have h6 : chooseT6 u p q = .up false := (chooseT6_sxl2 (s := u) h2).trans (if_neg (not_or.mpr ⟨hfar, hother⟩))
  have hexec : exec (.retrainDone p c q) s = .next (flushPort (portUp u p q false) p) := by
    show execRetrainDone p c q s = _
    unfold execRetrainDone
    refine (if_neg (by rw [hlive, hph]; decide)).trans ?_
    show (match chooseMode s p c with
      | none => (Host.Outcome.next : State → Res) (trainFail s p)
      | some s =>
        match chooseT6 (exchangeItems s p) p q with
        | .up k => .next (flushPort (portUp (exchangeItems s p) p q k) p)
        | t => .next (t6Short (exchangeItems s p) p t)) = _
    rw [chooseMode_some hmode]
    show (match chooseT6 u p q with
        | .up k => (Host.Outcome.next : State → Res) (flushPort (portUp u p q k) p)
        | t => .next (t6Short u p t)) = _
    rw [h6]
  have hup := cameUp_of_line (portUp_cameUp u p q false) ((sameLines_flushPort (portUp u p q false) p).lines p)
  rw [hu] at hup
  exact ⟨_, hexec, hup.phase, hup.partner, hup.kept, hup.fresh⟩

/-! ## PORT_CTRL (R373, R374, R376) -/

theorem getPort_answer (s : State) (c p : Nat) : getPort (answer s c) p = getPort s p := getPort_of_links (links_of_frame fr_answer rfl) p

theorem param_answer (s : State) (c p e : Nat) : param (answer s c) p e = param s p e := by
  unfold param
  rw [answer_dict]

/-- A retraining starts, keeps the retry buffer and is counted. -/
theorem startRetrain_starts (s : State) (p : Nat) :
    (getPort (startRetrain s p) p).phase = .retraining ∧ (getPort (startRetrain s p) p).retry = (getPort s p).retry ∧
    (getPort (startRetrain s p) p).resume = true ∧
    (pkey 0x5041 p ∉ s.dict.stuckList → param s 0x5041 p + 1 < 2 ^ 64 → param (startRetrain s p) 0x5041 p = param s 0x5041 p + 1) := by
  have hport : getPort (startRetrain s p) p = _ := (getPort_of_links (links_of_frame fr_incA rfl) p).trans (getPort_modPort s p _)
  rw [hport]
  exact ⟨rfl, rfl, rfl, fun hstuck hroom => incA_counts (s := modPort s p _) hstuck hroom⟩

theorem retrain_acts {s : State} {w : Who} {p : Nat} (hw : writeStatus s w 0x5003 p = 0) :
    ((getPort s p).phase = .up → ∃ t, exec (.retrain w p) s = .next t ∧ t.dict.answer.status = 0 ∧ (getPort t p).phase = .retraining ∧
      (getPort t p).retry = (getPort s p).retry ∧ (getPort t p).resume = true ∧
      (pkey 0x5041 p ∉ s.dict.stuckList → param s 0x5041 p + 1 < 2 ^ 64 → param t 0x5041 p = param s 0x5041 p + 1)) ∧
    ((getPort s p).phase ≠ .up → ∃ t, exec (.retrain w p) s = .next t ∧ t.dict.answer.status = 0 ∧ t.links = s.links) := by
  have hexec : exec (.retrain w p) s = _ := command_ok (f := retrainPort p) hw rfl
  refine ⟨fun hup => ⟨_, hexec, answer_status _ _, ?_⟩, fun hup => ⟨_, hexec, answer_status _ _, ?_⟩⟩
  · rw [if_pos hup, getPort_answer, param_answer]
    exact startRetrain_starts s p
  · rw [if_neg hup]
    exact links_of_frame fr_answer rfl

/-- A PORT_CTRL command that only changes its port. -/
theorem portCommand_acts {s : State} {w : Who} {p : Nat} {c : Instr} {f : Nat → State → Except Nat State} {g : Port → Port}
    (hw : writeStatus s w 0x5003 p = 0) (hc : exec c s = command s w 0x5003 p (f p)) (hf : f p s = .ok (modPort s p g)) :
    ∃ t, exec c s = .next t ∧ t.dict.answer.status = 0 ∧ getPort t p = g (getPort s p) :=
  ⟨_, hc.trans (command_ok hw hf), answer_status _ _, by rw [getPort_answer, getPort_modPort]⟩

/-- Settles O40. -/
theorem portsComeUpAndObey : Obligations.PortsComeUpAndObey := by
  unfold Obligations.PortsComeUpAndObey
  refine ⟨⟨?_, ?_, ?_, ?_, ?_⟩, fun s w p hw => ?_⟩
  · exact fun s p w k c hlive hen hdown hmode => linkSignalDetect_trains hlive hen hdown hmode
  · intro s p q hlive htrain h2
    refine ⟨fun hfar hother => ?_, linkUp_conflicts hlive htrain h2⟩
    obtain ⟨t, hexec, hup⟩ := linkUp_cameUp hlive htrain ((chooseT6_sxl2 h2).trans (if_neg (not_or.mpr ⟨hfar, hother⟩)))
    exact ⟨t, hexec, hup.phase, hup.partner, hup.framing, hup.fresh, hup.degraded⟩
  · intro s p q hlive htrain h2
    refine ⟨fun h1 hc hp => ?_, fun k c w h1 hc hm hmode => ?_, fun h => linkUp_refused hlive htrain ?_⟩
    · obtain ⟨t, hexec, hup⟩ := linkUp_cameUp (q := q) (k := true) hlive htrain (by rw [chooseT6_sxl1 h2 h1, hc]; exact if_pos hp)
      exact ⟨t, hexec, hup.phase, hup.framing⟩
    · exact linkUp_repeats hlive htrain (by rw [chooseT6_sxl1 h2 h1, hc]; rfl) hm hmode
    · cases h1 : q.sxl1 with
      | false => exact chooseT6_neither h2 h1
      | true =>
        obtain ⟨hc, hp⟩ := h.resolve_left (by simp [h1])
        rw [chooseT6_sxl1 h2 h1, hc]
        exact if_neg hp
  · intro s p hlive hph
    have hexec := bringUpTimeout_fails hlive hph
    exact ⟨fun hfew => ⟨_, hexec, (trainFail_phase s p).trans (if_pos hfew)⟩,
      fun hmany => ⟨_, hexec, (trainFail_phase s p).trans (if_neg (by omega))⟩⟩
  · exact fun s p w k c q hlive hph hmode h2 hfar hother => retrainDone_up hlive hph hmode h2 hfar hother
  · obtain ⟨hup, hidle⟩ := retrain_acts hw
    refine ⟨hup, hidle, ?_, ?_, ?_, ?_⟩
    · obtain ⟨t, hexec, hans, hport⟩ := portCommand_acts (c := .disable w p) (f := disablePort) hw rfl rfl
      exact ⟨t, hexec, hans, by rw [hport], by rw [hport]⟩
    · obtain ⟨t, hexec, hans, hport⟩ := portCommand_acts (c := .enable w p) (f := enablePort) hw rfl rfl
      refine ⟨t, hexec, hans, ?_, fun h => ?_, fun h1 h2 => ?_⟩
      · rw [hport]; split <;> rfl
      · rw [hport, if_pos h]
      · rw [hport, if_neg (not_or.mpr ⟨h1, h2⟩)]
    · obtain ⟨t, hexec, hans, hport⟩ := portCommand_acts (c := .force112 w p) (f := forcePort) hw rfl rfl
      exact ⟨t, hexec, hans, by rw [hport], by rw [hport]⟩
    · obtain ⟨t, hexec, hans, hport⟩ := portCommand_acts (c := .auto w p) (f := autoPort) hw rfl rfl
      exact ⟨t, hexec, hans, by rw [hport], by rw [hport]⟩

end Sys2Proof.Proofs
end

section
/-! Flits that a port discards, and headers and DATA that it takes (R360, R362, R363, R365, R369). -/
set_option Elab.async false

namespace Sys2Proof.Proofs
open Sys2Proof.Machine Sys2Proof.Laws

/-! ## Credit of the common pool -/

theorem sameLines_drawShort (s : State) (p m : Nat) : SameLines s (drawShort s p m) :=
  sameLines_trans (sameLines_askPool s p m) (sameLines_sendCredit _ p 2 m _)

theorem sameLines_serveWants (s : State) (p : Nat) (l : List Nat) : SameLines s (serveWants s p l) := by
  induction l generalizing s with
  | nil => exact sameLines_refl s
  | cons m l ih =>
    unfold serveWants
    dsimp only
    split
    · exact sameLines_drawShort s p m
    · exact sameLines_trans (sameLines_drawShort s p m) (ih _)

theorem sameLines_lendPool (s : State) (p m n : Nat) : SameLines s (lendPool s p m n) := by
  unfold lendPool
  exact sameLines_setPort rfl

theorem sameLines_drawPool (s : State) (p m n : Nat) : SameLines s (drawPool s p m n) := by
  unfold drawPool
  dsimp only
  split
  · exact sameLines_refl s
  · exact sameLines_trans (sameLines_lendPool s p m _) (sameLines_sendCredit _ p 2 m _)

theorem sameLines_returnCredit (s : State) (p m n : Nat) : SameLines s (returnCredit s p m n) := by
  have hused : ∀ used, SameLines s (setPort s p { getPort s p with rxUsed := used }) := fun used => sameLines_setPort rfl
  exact sameLines_trans (hused _) (sameLines_trans (sameLines_sendCredit _ p 2 m _)
    (sameLines_trans (sameLines_serveWants _ p _) (sameLines_drawShort _ p m)))

theorem sameLines_sendBack (s : State) (port type fabric moon srcMoon xfer : Nat) (b : Bytes) :
    SameLines s (sendBack s port type fabric moon srcMoon xfer b) := sameLines_offerBack s _ type _

/-! ## What leaves a port (R359, R360) -/

/-- A flit that a port that is UP sends is emitted with its channel and payload; SXL2 framing keeps its addresses. -/
theorem sendFlit_emits {s : State} {p type : Nat} {f : Flit} (hup : (getPort s p).phase = .up) :
    ∃ g, Out.flit p type g ∈ (sendFlit s p type f).out ∧ g.vc = f.vc ∧ g.payload = f.payload ∧ g.xfer = f.xfer ∧
      ((getPort s p).sxl1 = false → g.destFabric = f.destFabric ∧ g.destMoon = f.destMoon) := by
  refine ⟨{ framed (getPort s p).sxl1 f with seq := (getPort s p).txSeq, ack := (getPort s p).rxSeq - 1 }, ?_, ?_, ?_, ?_, fun h => ?_⟩
  · unfold sendFlit
    dsimp only
    rw [if_pos hup]
    exact List.mem_cons_self
  · unfold framed; split <;> rfl
  · unfold framed; split <;> rfl
  · unfold framed; split <;> rfl
  · rw [h]
    exact ⟨rfl, rfl⟩

theorem sendSpent_emits {s : State} {p type : Nat} {f : Flit} (hup : (getPort s p).phase = .up) :
    ∃ g, Out.flit p type g ∈ (sendSpent s p type f).out ∧ g.vc = f.vc ∧ g.payload = f.payload ∧ g.xfer = f.xfer ∧
      ((getPort s p).sxl1 = false → g.destFabric = f.destFabric ∧ g.destMoon = f.destMoon) := by
  unfold sendSpent
  split
  · exact sendFlit_emits hup
  · have hline := (sameLines_spend s p f.vc f.destMoon 1).lines p
    have hph := congrArg Port.phase hline
    have hsx := congrArg Port.sxl1 hline
    obtain ⟨g, hout, hvc, hload, hxfer, hends⟩ := sendFlit_emits (type := type) (f := f) (hph.trans hup)
    exact ⟨g, hout, hvc, hload, hxfer, fun h => hends (hsx.trans h)⟩

theorem suffix_out_sendCredit {l : List Out} {s : State} (h : l <:+ s.out) (p vc m n : Nat) : l <:+ (sendCredit s p vc m n).out := by
  have hgo : ∀ f, l <:+ (offer (setPort s p { getPort s p with owed := 0 }) p 7 f).out := fun f =>
    suffix_out_offer (s := setPort s p { getPort s p with owed := 0 }) h p 7 f
  unfold sendCredit
  extract_lets x e own
  split
  · exact h
  · exact hgo _

theorem phase_of_mayGo {x : Port} {type : Nat} {f : Flit} (h : mayGo x type f = true) : x.phase = .up := by
  unfold mayGo Port.maySend at h
  simp only [Bool.and_eq_true, beq_iff_eq] at h
  exact h.1.1.1

/-! ## Discarded flits (R360) -/

/-- A flit that is not taken does no more than what its port does with it. -/
theorem exec_untaken {s s1 : State} {p : Nat} {f : Flit} {c : Instr} (hc : flitRow p f c) (htake : takeFlit s p f = (s1, false)) :
    exec c s = .next s1 := by
  rcases hc with rfl | ⟨h, rfl⟩ | rfl | ⟨a, b, rfl⟩ | ⟨k, l, rfl⟩ | ⟨l, rfl⟩ | ⟨a, b, rfl⟩
  · show execData p f s = _
    unfold execData
    rw [htake]
    rfl
  · show execChunkHdr p f h s = _
    unfold execChunkHdr
    rw [htake]
    rfl
  · show execDelivered p f s = _
    unfold execDelivered
    rw [htake]
    rfl
  · show execNack p f a b s = _
    unfold execNack
    rw [htake]
    rfl
  · show execControl p f k l s = _
    unfold execControl
    rw [htake]
    rfl
  · show execCredit p f l s = _
    unfold execCredit
    rw [htake]
    rfl
  · show execCreditSync p f a b s = _
    unfold execCreditSync
    rw [htake]
    rfl

theorem countFec_links (s : State) (p : Nat) (f : Flit) : (countFec s p f).links = s.links := links_of_frame fr_countFec rfl

theorem takeFlit_bad {s : State} {p : Nat} {f : Flit} (hlive : linksLive s = true) (hup : (getPort s p).phase = .up)
    (hbad : f.good = false ∨ f.fecUncorr ≠ 0) :
    takeFlit s p f = (askRetry (if f.good then countFec s p f else incB (countFec s p f) 0x5032 p 1) p, false) := by
  unfold takeFlit
  dsimp only
  rw [if_neg (by rw [hlive, hup]; decide), if_pos]
  rcases hbad with h | h
  · rw [h]; rfl
  · rw [beq_eq_false_iff_ne.mpr h, Bool.and_false]; rfl

/-- A good flit out of sequence: its link control acts, and a RETRY_REQ goes out unless one is out or the flit has come before. -/
theorem takeFlit_ahead {s : State} {p : Nat} {f : Flit} (hlive : linksLive s = true) (hup : (getPort s p).phase = .up)
    (hgood : f.good = true) (hfec : f.fecUncorr = 0) (hseq : f.seq ≠ (getPort s p).rxSeq) :
    takeFlit s p f = (if (getPort s p).asked || decide (2048 ≤ (f.seq - (getPort s p).rxSeq).toNat) then takeControl (countFec s p f) p f
      else askRetry (takeControl (countFec s p f) p f) p, false) := by
  unfold takeFlit
  dsimp only
  rw [if_neg (by rw [hlive, hup]; decide), if_neg (by rw [hgood, hfec]; decide), if_neg hseq]

/-- The RETRY_REQ that goes back names the last good sequence number. -/
theorem askRetry_asks (s : State) (p : Nat) :
    ∃ g, Out.flit p 0 g ∈ (askRetry s p).out ∧ g.retryReq = true ∧ g.ack = (getPort s p).rxSeq - 1 :=
  ⟨_, List.mem_cons_self, rfl, rfl⟩

theorem askRetry_rxSeq (s : State) (p : Nat) : (getPort (askRetry s p) p).rxSeq = (getPort s p).rxSeq := by
  have h := congrArg Port.rxSeq (getPort_setPort s p { getPort s p with asked := true })
  exact h

theorem rxSeq_of_lines {s t : State} (h : SameLines s t) (p : Nat) : (getPort t p).rxSeq = (getPort s p).rxSeq := by
  have h' := congrArg Port.rxSeq (h.lines p)
  exact h'

theorem retryPort_rxSeq (s : State) (p : Nat) : (getPort (retryPort s p) p).rxSeq = (getPort s p).rxSeq := by
  have hincB : ∀ (u : State) n, getPort (incB u 0x5033 p n) p = getPort u p := fun u n => getPort_of_links (links_of_frame fr_incB rfl) p
  have hresend : ∀ u : State, getPort (resend u p) p = getPort u p := fun u => getPort_of_links (resend_links u p) p
  have hstart : ∀ u : State, (getPort (startRetrain u p) p).rxSeq = (getPort u p).rxSeq := by
    intro u
    unfold startRetrain
    rw [getPort_of_links (links_of_frame fr_incA rfl), getPort_modPort]
  unfold retryPort
  dsimp only
  split
  · rw [hstart, hresend, hincB, getPort_setPort]
  · rw [hresend, hincB, getPort_setPort]

theorem takeControl_rxSeq (s : State) (p : Nat) (f : Flit) : (getPort (takeControl s p f) p).rxSeq = (getPort s p).rxSeq := by
  unfold takeControl
  dsimp only
  split
  · rw [retryPort_rxSeq, getPort_setPort]
  · rw [rxSeq_of_lines (sameLines_flushPort _ p), getPort_setPort]

/-- What a discarded flit leaves alone. -/
structure Discarded (s t : State) : Prop where
  mem : t.mem = s.mem
  tasks : t.tasks = s.tasks
  moons : t.moons = s.moons
  pack : t.pack = s.pack

theorem discarded_of_frame {k : Nat} {s t : State} (h : Fr k s t) (hmem : k.testBit 4 = false) (htasks : k.testBit 5 = false)
    (hmoons : k.testBit 6 = false) (hpack : k.testBit 11 = false) : Discarded s t :=
  ⟨mem_of_frame h hmem, tasks_of_frame h htasks, moons_of_frame h hmoons, pack_of_frame h hpack⟩

theorem takeFlit_discards (s : State) (p : Nat) (f : Flit) : Discarded s (takeFlit s p f).1 :=
  discarded_of_frame fr_takeFlit rfl rfl rfl rfl

theorem badFlit_asks {s : State} {p : Nat} {f : Flit} {c : Instr} (hlive : linksLive s = true) (hup : (getPort s p).phase = .up)
    (hc : flitRow p f c) (hbad : f.good = false ∨ f.fecUncorr ≠ 0) :
    ∃ t g, exec c s = .next t ∧ t.links = (setPort s p { getPort s p with asked := true }).links ∧ t.mem = s.mem ∧ t.tasks = s.tasks ∧
      t.moons = s.moons ∧ t.pack = s.pack ∧ Out.flit p 0 g ∈ t.out ∧ g.retryReq = true ∧ g.ack = (getPort s p).rxSeq - 1 := by
  have htake := takeFlit_bad hlive hup hbad
  have hdis := takeFlit_discards s p f
  rw [htake] at hdis
  have hlinks : (if f.good then countFec s p f else incB (countFec s p f) 0x5032 p 1).links = s.links := by
    split
    · exact countFec_links s p f
    · exact (links_of_frame fr_incB rfl).trans (countFec_links s p f)
  obtain ⟨g, hout, hreq, hack⟩ := askRetry_asks (if f.good then countFec s p f else incB (countFec s p f) 0x5032 p 1) p
  rw [getPort_of_links hlinks] at hack
  refine ⟨_, g, exec_untaken hc htake, ?_, hdis.mem, hdis.tasks, hdis.moons, hdis.pack, hout, hreq, hack⟩
  unfold askRetry setPort emit
  dsimp only
  rw [getPort_of_links hlinks, hlinks]

theorem aheadFlit_discarded {s : State} {p : Nat} {f : Flit} {c : Instr} (hlive : linksLive s = true) (hup : (getPort s p).phase = .up)
    (hc : flitRow p f c) (hgood : f.good = true) (hfec : f.fecUncorr = 0) (hseq : f.seq ≠ (getPort s p).rxSeq) :
    ∃ t, exec c s = .next t ∧ (getPort t p).rxSeq = (getPort s p).rxSeq ∧ t.mem = s.mem ∧ t.tasks = s.tasks ∧ t.moons = s.moons ∧
      t.pack = s.pack ∧
      ((getPort s p).asked = false → (f.seq - (getPort s p).rxSeq).toNat < 2048 →
        ∃ g, Out.flit p 0 g ∈ t.out ∧ g.retryReq = true ∧ g.ack = (getPort s p).rxSeq - 1) := by
  have htake := takeFlit_ahead hlive hup hgood hfec hseq
  have hdis := takeFlit_discards s p f
  rw [htake] at hdis
  have hrx : (getPort (takeControl (countFec s p f) p f) p).rxSeq = (getPort s p).rxSeq := by
    rw [takeControl_rxSeq, getPort_of_links (countFec_links s p f)]
  refine ⟨_, exec_untaken hc htake, ?_, hdis.mem, hdis.tasks, hdis.moons, hdis.pack, fun hasked hnew => ?_⟩
  · split
    · exact hrx
    · exact (askRetry_rxSeq _ p).trans hrx
  · rw [if_neg (by rw [hasked, decide_eq_false (by omega)]; decide)]
    obtain ⟨g, hout, hreq, hack⟩ := askRetry_asks (takeControl (countFec s p f) p f) p
    exact ⟨g, hout, hreq, by rw [hack, hrx]⟩

/-! ## Chunks being received -/

theorem rxOf_of_rx {s t : State} (h : t.links.rx = s.links.rx) (p : Nat) (f : Flit) : rxOf t p f = rxOf s p f := by
  unfold rxOf
  rw [h]

theorem rx_of_lines {s t : State} (h : SameLines s t) : t.links.rx = s.links.rx := by
  rw [h.rest]

theorem rxOf_setRx_none (s : State) (p : Nat) (f : Flit) : rxOf (setRx s p f none) p f = none := by
  refine List.find?_eq_none.mpr fun c hc => ?_
  have hnot := (List.mem_filter.mp hc).2
  simpa [or_assoc, Decidable.imp_iff_not_or] using hnot

theorem rxOf_setRx_some {s : State} {p : Nat} {f : Flit} {c : RxChunk}
    (hc : (c.port == p && c.flit.srcFabric == f.srcFabric && c.flit.srcMoon == f.srcMoon && c.flit.xfer == f.xfer) = true) :
    rxOf (setRx s p f (some c)) p f = some c := by
  have hnone := rxOf_setRx_none s p f
  unfold rxOf setRx at hnone ⊢
  dsimp only at hnone ⊢
  rw [List.find?_append, hnone]
  simp [hc]

/-- Chunks being received stay, and no transfer of a task comes up that had none. -/
structure TransfersShrink (s t : State) : Prop where
  rx : t.links.rx = s.links.rx
  tx : ∀ y ∈ t.links.tx, ∃ x ∈ s.links.tx, x.moon = y.moon ∧ x.ring = y.ring ∧ x.seq = y.seq

theorem shrink_of_same {s t : State} (hrx : t.links.rx = s.links.rx) (htx : t.links.tx = s.links.tx) : TransfersShrink s t :=
  ⟨hrx, fun y hy => ⟨y, htx ▸ hy, rfl, rfl, rfl⟩⟩

theorem shrink_refl (s : State) : TransfersShrink s s := shrink_of_same rfl rfl

theorem shrink_trans {s t u : State} (h : TransfersShrink s t) (g : TransfersShrink t u) : TransfersShrink s u := by
  refine ⟨g.rx.trans h.rx, fun y hy => ?_⟩
  obtain ⟨x, hx, h1, h2, h3⟩ := g.tx y hy
  obtain ⟨z, hz, g1, g2, g3⟩ := h.tx x hx
  exact ⟨z, hz, g1.trans h1, g2.trans h2, g3.trans h3⟩

theorem shrink_of_links {s t : State} (h : t.links = s.links) : TransfersShrink s t := shrink_of_same (by rw [h]) (by rw [h])

theorem shrink_of_lines {s t : State} (h : SameLines s t) : TransfersShrink s t := shrink_of_same (by rw [h.rest]) (by rw [h.rest])

theorem shrink_dropTx (s : State) (m r : Nat) (q : W32) : TransfersShrink s (dropTx s m r q) :=
  ⟨rfl, fun y hy => ⟨y, (List.mem_filter.mp hy).1, rfl, rfl, rfl⟩⟩

theorem shrink_failTx (s : State) (x : TxXfer) (code detail : Nat) : TransfersShrink s (failTx s x code detail) := by
  unfold failTx
  cases txTask s x with
  | none => exact shrink_dropTx s _ _ _
  | some u =>
    have hfail : (failTask s u code 0 detail).links = s.links := links_of_frame fr_failTask rfl
    exact shrink_trans (shrink_of_links hfail) (shrink_dropTx _ _ _ _)

theorem shrink_txRefused (s : State) (xfer reason chunk fabric : Nat) : TransfersShrink s (txRefused s xfer reason chunk fabric) := by
  unfold txRefused
  split
  · exact shrink_refl s
  · split
    · exact shrink_failTx s _ _ _
    · split
      · exact shrink_failTx s _ _ _
      · split <;> exact shrink_failTx s _ _ _

/-- A transfer is marked as delivered. -/
theorem shrink_markDelivered (s : State) (x : TxXfer) :
    TransfersShrink s { s with links := { s.links with tx := s.links.tx.map fun y => if y == x then { y with delivered := true } else y } } := by
  refine ⟨rfl, fun y hy => ?_⟩
  obtain ⟨z, hz, rfl⟩ := List.mem_map.mp hy
  refine ⟨z, hz, ?_⟩
  split <;> exact ⟨rfl, rfl, rfl⟩

theorem shrink_txDelivered (s : State) (xfer : Nat) : TransfersShrink s (txDelivered s xfer) := by
  unfold txDelivered
  split
  · exact shrink_refl s
  · rename_i x _
    have hcount : TransfersShrink s (if sendsAway s x then countTx s x.moon x.bytes else s) := by
      split
      · exact shrink_of_links rfl
      · exact shrink_refl s
    have hend : ∀ (u : State) (whole : Bool), TransfersShrink s u →
        TransfersShrink s (if whole then (match txTask u x with
          | some t => dropTx (moveDone u t) x.moon x.ring x.seq
          | none => dropTx u x.moon x.ring x.seq) else u) := by
      intro u whole hu
      split
      · split
        · rename_i v _
          have hdone : (moveDone u v).links = u.links := links_of_frame fr_moveDone rfl
          exact shrink_trans hu (shrink_trans (shrink_of_links hdone) (shrink_dropTx _ _ _ _))
        · exact shrink_trans hu (shrink_dropTx _ _ _ _)
      · exact hu
    exact hend _ _ (shrink_trans hcount (shrink_markDelivered _ x))

theorem shrink_seeChunk (s : State) (m : Nat) (a : Arrival) (refused : Bool) : TransfersShrink s (seeChunk s m a refused).1 :=
  shrink_of_same rfl rfl

theorem shrink_refuseChunk (s : State) (m : Nat) (a : Arrival) (reason : Nat) : TransfersShrink s (refuseChunk s m a reason) := by
  have hcount : (incA s 0x5052 m 1).links = s.links := links_of_frame fr_incA rfl
  have hseen := shrink_trans (shrink_of_links hcount) (shrink_seeChunk (incA s 0x5052 m 1) m a true)
  unfold refuseChunk
  dsimp only
  split
  · exact shrink_trans hseen (shrink_txRefused _ _ _ _ _)
  · exact shrink_trans hseen (shrink_of_lines (sameLines_sendBack _ _ _ _ _ _ _ _))

/-- The signal of a whole transfer leaves the link unit. -/
theorem signal_links (s : State) (m : Nat) (a : Arrival) :
    (if a.sig then (let (u, o) := addObj s m a.obj a.add; if o && fromSelf u a then sendOvf u a.xfer else u) else s).links = s.links := by
  have hadd : (addObj s m a.obj a.add).1.links = s.links := links_of_frame fr_addObj rfl
  split
  · dsimp only
    split
    · exact (links_of_frame fr_sendOvf rfl).trans hadd
    · exact hadd
  · rfl

theorem shrink_chunkWritten (s : State) (m : Nat) (a : Arrival) : TransfersShrink s (chunkWritten s m a) := by
  have hseen := shrink_seeChunk s m a false
  have hend : ∀ w : State, TransfersShrink s w →
      TransfersShrink s (if fromSelf w a then txDelivered w a.xfer else sendBack w a.port 3 a.srcFabric a.srcMoon m a.xfer []) := by
    intro w hw
    split
    · exact shrink_trans hw (shrink_txDelivered _ _)
    · exact shrink_trans hw (shrink_of_lines (sameLines_sendBack _ _ _ _ _ _ _ _))
  unfold chunkWritten
  generalize seeChunk s m a false = e at hseen ⊢
  obtain ⟨u, whole⟩ := e
  cases whole with
  | false => exact hseen
  | true => exact hend _ (shrink_trans hseen (shrink_of_links (signal_links u m a)))

/-- Writing an arrival leaves the chunks that are being received, and opens no transfer. -/
theorem shrink_putArrival (s : State) (m : Nat) (a : Arrival) : TransfersShrink s (putArrival s m a) := by
  have hstream : (streamAccess s m a.ma a.bytes.length a.hint false).links = s.links := links_of_frame fr_streamAccess rfl
  unfold putArrival
  split
  · have hkept : TransfersShrink s (modMoon s m fun x => { x with precopied := memWrite x.precopied a.ma a.bytes }) := shrink_of_links rfl
    exact shrink_trans hkept (shrink_chunkWritten _ m a)
  · split
    · rename_i t hwrite
      have hw : t.links = (streamAccess s m a.ma a.bytes.length a.hint false).links := links_of_frame (fr_writeMa _ hwrite) rfl
      exact shrink_trans (shrink_of_links (hw.trans hstream)) (shrink_chunkWritten t m a)
    · exact shrink_refuseChunk s m a _

/-! ## CHUNK_HDR (R362, R369) -/

theorem execChunkHdr_taken {s s1 : State} {p : Nat} {f : Flit} (h : ChunkHdr) (htake : takeFlit s p f = (s1, true)) :
    exec (.chunkHdr p f h) s = if !forUs s1 p f then .next (transit s1 p 2 f) else
      match flitEnds s1 p f with
      | (fabric, moon, m) =>
        match chunkRefusal s1 m fabric moon h with
        | some r =>
          let s := refuseChunk s1 m (arrivalOf p fabric moon f.xfer h []) r
          .next (sendCredit (setRx s p f (some ⟨p, f, h, [], true⟩)) p 2 m 1)
        | none =>
          if h.bytes = 0 then .next (arriveChunk (setRx s1 p f none) m (arrivalOf p fabric moon f.xfer h []))
          else
            let s := setRx s1 p f (some ⟨p, f, h, [], false⟩)
            .next (if arrivalsHeld s m then s else drawPool s p m (chunkFlits (flitBytes s p) h.bytes)) := by
  show execChunkHdr p f h s = _
  unfold execChunkHdr
  rw [htake]
  rfl

/-- A header that passes its checks opens its chunk. -/
theorem chunkHdr_opens {s s1 : State} {p fa mo m : Nat} {f : Flit} {h : ChunkHdr} (htake : takeFlit s p f = (s1, true))
    (hus : forUs s1 p f = true) (hends : flitEnds s1 p f = (fa, mo, m)) (hok : chunkRefusal s1 m fa mo h = none) (hbytes : 0 < h.bytes) :
    ∃ t, exec (.chunkHdr p f h) s = .next t ∧ rxOf t p f = some ⟨p, f, h, [], false⟩ ∧ OnlyChanges [.links, .out] s1 t := by
  have hexec : exec (.chunkHdr p f h) s = .next (if arrivalsHeld (setRx s1 p f (some ⟨p, f, h, [], false⟩)) m then
      setRx s1 p f (some ⟨p, f, h, [], false⟩)
      else drawPool (setRx s1 p f (some ⟨p, f, h, [], false⟩)) p m
        (chunkFlits (flitBytes (setRx s1 p f (some ⟨p, f, h, [], false⟩)) p) h.bytes)) := by
    rw [execChunkHdr_taken h htake, hus, hends]
    dsimp only
    rw [hok]
    exact if_neg (Nat.ne_of_gt hbytes)
  have hopen : rxOf (setRx s1 p f (some ⟨p, f, h, [], false⟩)) p f = some ⟨p, f, h, [], false⟩ := rxOf_setRx_some (by simp)
  have hset : Fr 525312 s1 (setRx s1 p f (some ⟨p, f, h, [], false⟩)) := fr_setRx.up rfl
  refine ⟨_, hexec, ?_, ?_⟩
  · split
    · exact hopen
    · exact (rxOf_of_rx (rx_of_lines (sameLines_drawPool _ _ _ _)) p f).trans hopen
  · split
    · exact Fr.only hset rfl
    · exact Fr.only (Fr.call fr_drawPool rfl hset) rfl

/-- A header in transit goes on by the egress port, and its chunk's port is kept. -/
theorem chunkHdr_passesOn {s s1 : State} {p e : Nat} {f : Flit} {h : ChunkHdr} (htake : takeFlit s p f = (s1, true))
    (hus : forUs s1 p f = false) (hpick : egress s1 (tget s1.links.fwd 0 f.destFabric) = some e)
    (hgo : mayGo (getPort s1 e) 2 { f with vc := channelTo s1 e f.destFabric } = true) :
    ∃ t g, exec (.chunkHdr p f h) s = .next t ∧ Out.flit e 2 g ∈ t.out ∧ g.vc = channelTo s1 e f.destFabric ∧ g.payload = f.payload ∧
      g.xfer = f.xfer ∧ (p, f.srcFabric, f.srcMoon, f.xfer, e) ∈ t.links.transit := by
  let v : State := { s1 with links := { s1.links with
    transit := (s1.links.transit.filter fun t => !sameTransit p f t) ++ [(p, f.srcFabric, f.srcMoon, f.xfer, e)] } }
  let g : Flit := { f with vc := channelTo s1 e f.destFabric }
  have hexec : exec (.chunkHdr p f h) s = .next (sendCredit (sendSpent v e 2 g) p f.vc f.destMoon 1) := by
    rw [execChunkHdr_taken h htake, hus]
    show Host.Outcome.next (transit s1 p 2 f) = _
    congr 1
    unfold transit
    dsimp only
    rw [hpick]
    show passOn v p e 2 f = _
    unfold passOn
    exact if_pos hgo
  have hup : (getPort v e).phase = .up := phase_of_mayGo hgo
  obtain ⟨g', hout, hvc, hload, hxfer, -⟩ := sendSpent_emits (type := 2) (f := g) hup
  refine ⟨_, g', hexec, (suffix_out_sendCredit (List.suffix_refl _) _ _ _ _).subset hout, hvc, hload, hxfer, ?_⟩
  have hlines := sameLines_trans (sameLines_sendSpent v e 2 g) (sameLines_sendCredit (sendSpent v e 2 g) p f.vc f.destMoon 1)
  rw [hlines.rest]
  exact List.mem_append_right _ List.mem_cons_self

/-! ## DATA (R369) -/

theorem execData_taken {s s1 : State} {p fa mo m : Nat} {f : Flit} {c : RxChunk} {b : Bytes} (htake : takeFlit s p f = (s1, true))
    (hus : forUs s1 p f = true) (hends : flitEnds s1 p f = (fa, mo, m)) (hrx : rxOf s1 p f = some c) (hok : c.refused = false)
    (hb : b = c.got ++ f.payload.take (Nat.min (flitBytes s1 p) (c.hdr.bytes - c.got.length))) :
    exec (.data p f) s = if !decide (c.hdr.bytes ≤ b.length) then .next (setRx s1 p f (some { c with got := b }))
      else .next (arriveChunk (setRx s1 p f none) m (arrivalOf p fa mo f.xfer c.hdr b)) := by
  show execData p f s = _
  unfold execData
  rw [htake]
  dsimp only
  rw [hus, hends]
  dsimp only
  rw [hrx]
  dsimp only
  rw [hok, ← hb]
  rfl

/-- A chunk whose bytes are not all there yet. -/
theorem data_adds {s s1 : State} {p fa mo m : Nat} {f : Flit} {c : RxChunk} {b : Bytes} (htake : takeFlit s p f = (s1, true))
    (hus : forUs s1 p f = true) (hends : flitEnds s1 p f = (fa, mo, m)) (hrx : rxOf s1 p f = some c) (hok : c.refused = false)
    (hb : b = c.got ++ f.payload.take (Nat.min (flitBytes s1 p) (c.hdr.bytes - c.got.length))) (hpart : b.length < c.hdr.bytes) :
    ∃ t, exec (.data p f) s = .next t ∧ rxOf t p f = some { c with got := b } ∧ OnlyChanges [.links] s1 t := by
  have hmatch := List.find?_some hrx
  refine ⟨setRx s1 p f (some { c with got := b }), ?_, rxOf_setRx_some hmatch, ?_⟩
  · rw [execData_taken htake hus hends hrx hok hb]
    exact if_pos (by simp; omega)
  · exact Fr.only (k := 1024) (s := s1) fr_setRx rfl

/-- A whole chunk that is written. -/
theorem data_writes {s s1 : State} {p fa mo m : Nat} {f : Flit} {c : RxChunk} {b : Bytes} (htake : takeFlit s p f = (s1, true))
    (hus : forUs s1 p f = true) (hends : flitEnds s1 p f = (fa, mo, m)) (hrx : rxOf s1 p f = some c) (hok : c.refused = false)
    (hb : b = c.got ++ f.payload.take (Nat.min (flitBytes s1 p) (c.hdr.bytes - c.got.length))) (hwhole : c.hdr.bytes ≤ b.length)
    (hfree : arrivalsHeld s1 m = false) (hheld : (getMoon s1 m).held = [])
    (hgo : arrivalWaits (setRx s1 p f none) m (arrivalOf p fa mo f.xfer c.hdr b) = false) :
    ∃ t, exec (.data p f) s = .next t ∧ rxOf t p f = none ∧
      SameBytes (putArrival (setRx s1 p f none) m (arrivalOf p fa mo f.xfer c.hdr b)) t := by
  have hexec := execData_taken htake hus hends hrx hok hb
  rw [if_neg (by simp; omega)] at hexec
  refine ⟨_, hexec, ?_⟩
  have hrxu : ∀ u : State, u.links.rx = (setRx s1 p f none).links.rx → rxOf u p f = none := fun u hu =>
    (rxOf_of_rx hu p f).trans (rxOf_setRx_none s1 p f)
  have hput := shrink_putArrival (setRx s1 p f none) m (arrivalOf p fa mo f.xfer c.hdr b)
  have hcond : ¬(arrivalsHeld (setRx s1 p f none) m || !(getMoon (setRx s1 p f none) m).held.isEmpty ||
      arrivalWaits (setRx s1 p f none) m (arrivalOf p fa mo f.xfer c.hdr b)) = true := by
    rw [hgo, show arrivalsHeld (setRx s1 p f none) m = false from hfree, show (getMoon (setRx s1 p f none) m).held = [] from hheld]
    decide
  unfold arriveChunk
  rw [if_neg hcond]
  dsimp only
  split
  · exact ⟨hrxu _ ((rx_of_lines (sameLines_returnCredit _ _ _ _)).trans hput.rx), sameBytes_of_frame fr_returnCredit rfl⟩
  · exact ⟨hrxu _ hput.rx, fun _ => ⟨rfl, rfl, rfl⟩⟩

/-- A whole chunk that is held. -/
theorem data_holds {s s1 : State} {p fa mo m : Nat} {f : Flit} {c : RxChunk} {b : Bytes} (htake : takeFlit s p f = (s1, true))
    (hus : forUs s1 p f = true) (hends : flitEnds s1 p f = (fa, mo, m)) (hrx : rxOf s1 p f = some c) (hok : c.refused = false)
    (hb : b = c.got ++ f.payload.take (Nat.min (flitBytes s1 p) (c.hdr.bytes - c.got.length))) (hwhole : c.hdr.bytes ≤ b.length)
    (hheld : arrivalsHeld s1 m = true ∨ (getMoon s1 m).held ≠ [] ∨
      arrivalWaits (setRx s1 p f none) m (arrivalOf p fa mo f.xfer c.hdr b) = true) :
    ∃ t, exec (.data p f) s = .next t ∧ rxOf t p f = none ∧
      (getMoon t m).held = (getMoon s1 m).held ++ [arrivalOf p fa mo f.xfer c.hdr b] ∧ SameBytes s1 t := by
  have hexec := execData_taken htake hus hends hrx hok hb
  rw [if_neg (by simp; omega)] at hexec
  refine ⟨_, hexec, ?_⟩
  let u := modMoon (setRx s1 p f none) m fun x => { x with held := x.held ++ [arrivalOf p fa mo f.xfer c.hdr b] }
  have hrxu : ∀ t : State, t.links.rx = (setRx s1 p f none).links.rx → rxOf t p f = none := fun t ht =>
    (rxOf_of_rx ht p f).trans (rxOf_setRx_none s1 p f)
  have hmoon : (getMoon u m).held = (getMoon s1 m).held ++ [arrivalOf p fa mo f.xfer c.hdr b] :=
    congrArg Moon.held (getMoon_modMoon (setRx s1 p f none) m _)
  have hcond : (arrivalsHeld (setRx s1 p f none) m || !(getMoon (setRx s1 p f none) m).held.isEmpty ||
      arrivalWaits (setRx s1 p f none) m (arrivalOf p fa mo f.xfer c.hdr b)) = true := by
    rcases hheld with h | h | h
    · rw [show arrivalsHeld (setRx s1 p f none) m = true from h]; rfl
    · have hne : (getMoon (setRx s1 p f none) m).held.isEmpty = false := List.isEmpty_eq_false_iff.mpr h
      rw [hne, Bool.not_false, Bool.or_true]; rfl
    · rw [h, Bool.or_true]
  unfold arriveChunk
  rw [if_pos hcond]
  dsimp only
  split
  · exact ⟨hrxu _ rfl, hmoon, fun _ => ⟨rfl, rfl, rfl⟩⟩
  · exact ⟨hrxu _ rfl, hmoon, fun _ => ⟨rfl, rfl, rfl⟩⟩

end Sys2Proof.Proofs
end

section
/-! DELIVERED, NACK, CONTROL and credit flits that a port takes (R363, R369, R370, R372). -/
set_option Elab.async false

namespace Sys2Proof.Proofs
open Sys2Proof.Machine Sys2Proof.Laws

/-! ## DELIVERED (R370) -/

theorem findTask_of_txTask {s : State} {x : TxXfer} {u : Machine.Task} (h : txTask s x = some u) : findTask s x.moon x.ring x.seq = some u := by
  unfold txTask at h
  split at h
  · rename_i t ht
    split at h
    · rw [ht, h]
    · cases h
  · cases h

theorem findTask_of_taskList {s t : State} (h : t.tasks.tasks = s.tasks.tasks) (m r : Nat) (q : W32) : findTask t m r q = findTask s m r q := by
  unfold findTask
  rw [h]

theorem txTask_of_tasks {s t : State} (h : t.tasks = s.tasks) (x : TxXfer) : txTask t x = txTask s x := by
  unfold txTask findTask
  rw [h]

/-- The one transfer of the module is delivered: its task is done, and the bytes of a SEND to another module are billed. -/
theorem txDelivered_ends {s : State} {x : TxXfer} {u : Machine.Task} {xfer : Nat} (htx : s.links.tx = [x]) (htag : x.xfer = xfer)
    (hopen : x.delivered = false) (hu : txTask s x = some u) :
    (txDelivered s xfer).links.tx = [] ∧ phaseOf (txDelivered s xfer) x.moon x.ring x.seq = some .done ∧
    (getMoon (txDelivered s xfer) x.moon).ledger.txBytes = (getMoon s x.moon).ledger.txBytes + if sendsAway s x then x.bytes else 0 := by
  let v : State := if sendsAway s x then countTx s x.moon x.bytes else s
  have hvtasks : v.tasks = s.tasks := by
    show (if sendsAway s x then countTx s x.moon x.bytes else s).tasks = _
    split <;> rfl
  have hvtx : v.links.tx = [x] := by
    show (if sendsAway s x then countTx s x.moon x.bytes else s).links.tx = _
    split <;> exact htx
  have hbill : (getMoon v x.moon).ledger.txBytes = (getMoon s x.moon).ledger.txBytes + if sendsAway s x then x.bytes else 0 := by
    show (getMoon (if sendsAway s x then countTx s x.moon x.bytes else s) x.moon).ledger.txBytes = _
    split
    · exact congrArg (fun y : Moon => y.ledger.txBytes) (getMoon_modMoon s x.moon _)
    · rfl
  let w : State := { v with links := { v.links with tx := v.links.tx.map fun y => if y == x then { y with delivered := true } else y } }
  have hwtx : w.links.tx = [{ x with delivered := true }] := by
    show v.links.tx.map _ = _
    rw [hvtx]
    exact congrArg (· :: []) (if_pos (beq_self_eq_true x))
  have heq : txDelivered s xfer = dropTx (moveDone w u) x.moon x.ring x.seq := by
    have hfind : (s.links.tx.find? fun y => y.xfer == xfer && !y.delivered) = some x := by rw [htx]; simp [htag, hopen]
    have hall : (w.links.tx.all fun y => !(y.moon == x.moon && y.ring == x.ring && y.seq == x.seq) || y.delivered) = true := by
      rw [hwtx]; simp
    have htask : txTask w x = some u := (txTask_of_tasks hvtasks x).trans hu
    unfold txDelivered
    rw [hfind]
    show (if (w.links.tx.all fun y => !(y.moon == x.moon && y.ring == x.ring && y.seq == x.seq) || y.delivered) = true then
      (match txTask w x with
        | some t => dropTx (moveDone w t) x.moon x.ring x.seq
        | none => dropTx w x.moon x.ring x.seq) else w) = _
    rw [if_pos hall, htask]
  have hlinks : (moveDone w u).links = w.links := links_of_frame fr_moveDone rfl
  have hmoons : (moveDone w u).moons = w.moons := moons_of_frame fr_moveDone rfl
  obtain ⟨hmem, hm, hr, hq⟩ := mem_of_findTask (findTask_of_txTask hu)
  have hdone : findTask (dropTx (moveDone w u) x.moon x.ring x.seq) x.moon x.ring x.seq = some { u with phase := .done } := by
    have hput : findTask (putTask w { u with phase := .done }) u.moon u.ring u.seq = some { u with phase := .done } :=
      findTask_putTask (by rw [show w.tasks = s.tasks from hvtasks]; exact hmem) ⟨rfl, rfl, rfl⟩
    have hclose : (moveDone w u).tasks = (putTask w { u with phase := .done }).tasks := tasks_of_frame fr_cometClose rfl
    rw [← hm, ← hr, ← hq, ← hput]
    exact findTask_of_taskList (congrArg TaskUnit.tasks hclose) _ _ _
  rw [heq]
  refine ⟨?_, phaseOf_of_find hdone, ?_⟩
  · show (moveDone w u).links.tx.filter _ = []
    rw [hlinks, hwtx]
    simp
  · have hsame : getMoon (dropTx (moveDone w u) x.moon x.ring x.seq) x.moon = getMoon v x.moon :=
      getMoon_of_moons (s := v) hmoons x.moon
    rw [hsame]
    exact hbill

theorem delivered_ends {s s1 : State} {p : Nat} {f : Flit} {x : TxXfer} {u : Machine.Task} (htake : takeFlit s p f = (s1, true))
    (hus : forUs s1 p f = true) (htx : s1.links.tx = [x]) (htag : x.xfer = f.xfer) (hopen : x.delivered = false) (hu : txTask s1 x = some u) :
    ∃ t, exec (.delivered p f) s = .next t ∧ t.links.tx = [] ∧ phaseOf t x.moon x.ring x.seq = some .done ∧
      (getMoon t x.moon).ledger.txBytes = (getMoon s1 x.moon).ledger.txBytes + if sendsAway s1 x then x.bytes else 0 := by
  have hexec : exec (.delivered p f) s = .next (sendCredit (txDelivered s1 f.xfer) p 2 (flitEnds s1 p f).2.2 1) := by
    show execDelivered p f s = _
    unfold execDelivered
    rw [htake]
    dsimp only
    rw [hus]
    rfl
  obtain ⟨hgone, hdone, hbill⟩ := txDelivered_ends htx htag hopen hu
  have hlines := sameLines_sendCredit (txDelivered s1 f.xfer) p 2 (flitEnds s1 p f).2.2 1
  have htasks : (sendCredit (txDelivered s1 f.xfer) p 2 (flitEnds s1 p f).2.2 1).tasks = (txDelivered s1 f.xfer).tasks :=
    tasks_of_frame fr_sendCredit rfl
  have hmoons : (sendCredit (txDelivered s1 f.xfer) p 2 (flitEnds s1 p f).2.2 1).moons = (txDelivered s1 f.xfer).moons :=
    moons_of_frame fr_sendCredit rfl
  refine ⟨_, hexec, ?_, ?_, ?_⟩
  · rw [hlines.rest]; exact hgone
  · unfold phaseOf at hdone ⊢
    rw [findTask_of_taskList (congrArg TaskUnit.tasks htasks)]; exact hdone
  · rw [getMoon_of_moons hmoons]; exact hbill

/-! ## NACK (R370) -/

theorem failTask_ends {s : State} {m r : Nat} {q : W32} {u : Machine.Task} (hu : findTask s m r q = some u) (code ma detail : Nat) :
    (findTask (failTask s u code ma detail) m r q).map (fun v => (v.phase, v.result, v.error)) = some (.done, 1, code) := by
  obtain ⟨hmem, rfl, rfl, rfl⟩ := mem_of_findTask hu
  have hput := findTask_putTask (s := s) (t := { u with phase := .done, work := [], cores := [], result := 1, error := code, faultMa := ma, detail := detail })
    hmem ⟨rfl, rfl, rfl⟩
  rw [findTask_of_taskList (failTask_taskList s u code ma detail), hput]
  rfl

/-- A transfer that fails ends its running task with the code, and no transfer of the task is left. -/
theorem failTx_ends {s : State} {x : TxXfer} {u : Machine.Task} (hu : txTask s x = some u) (code detail : Nat) :
    (findTask (failTx s x code detail) x.moon x.ring x.seq).map (fun v => (v.phase, v.result, v.error)) = some (.done, 1, code) ∧
    ∀ y ∈ (failTx s x code detail).links.tx, ¬(y.moon = x.moon ∧ y.ring = x.ring ∧ y.seq = x.seq) := by
  have heq : failTx s x code detail = dropTx (failTask s u code 0 detail) x.moon x.ring x.seq := by
    unfold failTx
    rw [hu]
  rw [heq]
  refine ⟨failTask_ends (findTask_of_txTask hu) code 0 detail, fun y hy => ?_⟩
  have hkeep := (List.mem_filter.mp hy).2
  rintro ⟨h1, h2, h3⟩
  simp [h1, h2, h3] at hkeep

/-- The error of R370 for a NACK's reason. -/
theorem txRefused_ends {s : State} {x : TxXfer} {u : Machine.Task} {xfer reason chunk : Nat} (fabric : Nat)
    (hfind : (s.links.tx.find? fun x => x.xfer == xfer) = some x) (hu : txTask s x = some u) (hchunk : chunk ≠ noChunk) :
    (findTask (txRefused s xfer reason chunk fabric) x.moon x.ring x.seq).map (fun v => (v.phase, v.result, v.error)) =
      some (.done, 1, if reason = nackRoute then 0x0302 else if reason = nackWindow then 0x0303 else if reason = nackGone then 0x0304
        else 0x0305) ∧
    ∀ y ∈ (txRefused s xfer reason chunk fabric).links.tx, ¬(y.moon = x.moon ∧ y.ring = x.ring ∧ y.seq = x.seq) := by
  have hfind' : (s.links.tx.find? fun x => x.xfer == xfer && chunk != noChunk) = some x := by
    rw [← hfind]
    simp [bne_iff_ne.mpr hchunk]
  unfold txRefused
  rw [hfind']
  dsimp only
  split
  · exact failTx_ends hu _ _
  · split
    · exact failTx_ends hu _ _
    · split <;> exact failTx_ends hu _ _

theorem nack_fails {s s1 : State} {p reason chunk : Nat} {f : Flit} {x : TxXfer} {u : Machine.Task} (htake : takeFlit s p f = (s1, true))
    (hus : forUs s1 p f = true) (hfind : (s1.links.tx.find? fun x => x.xfer == f.xfer) = some x) (hu : txTask s1 x = some u)
    (hown : ownOf s1 f.xfer = none) (hchunk : chunk ≠ noChunk) :
    ∃ t, exec (.nack p f reason chunk) s = .next t ∧
      (findTask t x.moon x.ring x.seq).map (fun v => (v.phase, v.result, v.error)) =
        some (.done, 1, if reason = nackRoute then 0x0302 else if reason = nackWindow then 0x0303 else if reason = nackGone then 0x0304
          else 0x0305) ∧
      ∀ y ∈ t.links.tx, ¬(y.moon = x.moon ∧ y.ring = x.ring ∧ y.seq = x.seq) := by
  have hexec : exec (.nack p f reason chunk) s =
      .next (sendCredit (txRefused s1 f.xfer reason chunk f.srcFabric) p 2 (flitEnds s1 p f).2.2 1) := by
    show execNack p f reason chunk s = _
    unfold execNack
    rw [htake]
    dsimp only
    rw [hus, hown]
    rfl
  obtain ⟨hend, hgone⟩ := txRefused_ends (reason := reason) f.srcFabric hfind hu hchunk
  have hlines := sameLines_sendCredit (txRefused s1 f.xfer reason chunk f.srcFabric) p 2 (flitEnds s1 p f).2.2 1
  have htasks : (sendCredit (txRefused s1 f.xfer reason chunk f.srcFabric) p 2 (flitEnds s1 p f).2.2 1).tasks =
      (txRefused s1 f.xfer reason chunk f.srcFabric).tasks := tasks_of_frame fr_sendCredit rfl
  refine ⟨_, hexec, ?_, ?_⟩
  · rw [findTask_of_taskList (congrArg TaskUnit.tasks htasks)]; exact hend
  · rw [hlines.rest]; exact hgone

/-! ## CONTROL (R372) -/

theorem execControl_taken {s s1 : State} {p : Nat} {f : Flit} (k : CtlKind) (l : List Nat) (htake : takeFlit s p f = (s1, true))
    (hus : forUs s1 p f = true) (hfull : (getPort s1 p).sxl1 = false) :
    exec (.control p f k l) s = .next (controlFor (sendCredit s1 p 0 0 1) p f k l) := by
  show execControl p f k l s = _
  unfold execControl
  rw [htake]
  dsimp only
  rw [hus, hfull]
  rfl

/-! ## Credit (R363) -/

theorem flushPort_idle {s : State} {p : Nat} (h : (getPort s p).queue = []) : flushPort s p = s := by
  unfold flushPort
  rw [h]
  rfl

theorem returnOwed_few {s : State} {p : Nat} (h : (getPort s p).owed < 32) : returnOwed s p = s := by
  unfold returnOwed
  exact if_neg (by omega)

/-- A port with the credit that a CREDIT flit of one entry gives, and one more flit owed. -/
def credited (x : Port) (vc m n : Nat) : Port :=
  let x := { x with owed := x.owed + 1 }
  if vc = 0 then { x with credit0 := x.credit0 + n } else if vc = 1 then { x with credit1 := x.credit1 + n }
  else { x with credit2 := tmod x.credit2 0 m (· + n) }

/-- What credit keeps of a port. -/
theorem credited_keeps (x : Port) (vc m n : Nat) : (credited x vc m n).queue = x.queue ∧ (credited x vc m n).owed = x.owed + 1 ∧
    (credited x vc m n).phase = x.phase ∧ (credited x vc m n).retry = x.retry := by
  unfold credited
  dsimp only
  split
  · exact ⟨rfl, rfl, rfl, rfl⟩
  · split <;> exact ⟨rfl, rfl, rfl, rfl⟩

theorem credited_credit (x : Port) (vc m n : Nat) : (vc = 0 → (credited x vc m n).credit0 = x.credit0 + n) ∧
    (vc = 1 → (credited x vc m n).credit1 = x.credit1 + n) ∧
    (vc ≠ 0 → vc ≠ 1 → tget (credited x vc m n).credit2 0 m = tget x.credit2 0 m + n) := by
  unfold credited
  dsimp only
  refine ⟨fun h => by rw [if_pos h], fun h => ?_, fun h0 h1 => ?_⟩
  · rw [if_neg (by omega), if_pos h]
  · rw [if_neg h0, if_neg h1]
    exact tget_tset_same _ _ _ _

theorem execCredit_taken {s s1 : State} {p : Nat} {f : Flit} (vc m n : Nat) (htake : takeFlit s p f = (s1, true)) :
    exec (.credit p f [(vc, m, n)]) s = .next (returnOwed (flushPort (setPort s1 p (credited (getPort s1 p) vc m n)) p) p) := by
  show execCredit p f [(vc, m, n)] s = _
  unfold execCredit
  rw [htake]
  rfl

/-- The waiting flit of VC0 goes out as soon as it has credit. -/
theorem drainPort_sends {s : State} {p : Nat} {o : OutFlit} (hq : (getPort s p).queue = [o]) (hback : o.back = none) (hvc : o.flit.vc = 0)
    (hgo : (getPort s p).maySend o.type o.flit = true) :
    flushPort s p = sendSpent (setPort s p { getPort s p with queue := [] }) p o.type o.flit := by
  have hsame : sameQueue o.flit o.flit = true := by unfold sameQueue; simp [hvc]
  have hready : readyFlit s (getPort s p) none = some o := by
    unfold readyFlit
    rw [hq]
    simp [hvc, hgo, hsame]
  have hnext : nextFlit s (getPort s p) = some (o, (getPort s p).turn) := by
    unfold nextFlit
    rw [hready]
  unfold flushPort
  rw [hq]
  show drainPort 1 s p = _
  unfold drainPort
  dsimp only
  rw [hnext]
  dsimp only
  rw [hback, hq, List.erase_cons_head]
  rfl

/-- Sending spends credit of its channel alone and grows the retry buffer: the queue and what is owed stay. -/
theorem sendSpent_waiting (s : State) (p type : Nat) (f : Flit) :
    (getPort (sendSpent s p type f) p).queue = (getPort s p).queue ∧ (getPort (sendSpent s p type f) p).owed = (getPort s p).owed := by
  have hsend : ∀ u : State, (getPort (sendFlit u p type f) p).queue = (getPort u p).queue ∧
      (getPort (sendFlit u p type f) p).owed = (getPort u p).owed := by
    intro u
    unfold sendFlit
    dsimp only
    split
    · have hport : ∀ x o, getPort (emit (setPort u p x) o) p = x := fun x o => getPort_setPort u p x
      rw [hport]
      exact ⟨rfl, rfl⟩
    · exact ⟨rfl, rfl⟩
  have hspend : (getPort (spend s p f.vc f.destMoon 1) p).queue = (getPort s p).queue ∧
      (getPort (spend s p f.vc f.destMoon 1) p).owed = (getPort s p).owed := by
    unfold spend
    rw [getPort_setPort]
    split
    · exact ⟨rfl, rfl⟩
    · split <;> exact ⟨rfl, rfl⟩
  unfold sendSpent
  split
  · exact hsend s
  · exact ⟨(hsend _).1.trans hspend.1, (hsend _).2.trans hspend.2⟩

theorem credit_gives {s s1 : State} {p : Nat} {f : Flit} (vc m n : Nat) (htake : takeFlit s p f = (s1, true)) :
    ∃ t, exec (.credit p f [(vc, m, n)]) s = .next t ∧ OnlyChanges [.links, .out] s1 t ∧
      ((getPort s1 p).queue = [] → (getPort s1 p).owed + 1 < 32 → (getPort t p).owed = (getPort s1 p).owed + 1 ∧ t.out = s1.out ∧
        (vc = 0 → (getPort t p).credit0 = (getPort s1 p).credit0 + n) ∧ (vc = 1 → (getPort t p).credit1 = (getPort s1 p).credit1 + n) ∧
        (vc ≠ 0 → vc ≠ 1 → tget (getPort t p).credit2 0 m = tget (getPort s1 p).credit2 0 m + n)) ∧
      (∀ o, (getPort s1 p).queue = [o] → o.back = none → o.flit.vc = 0 → vc = 0 → 0 < n → (getPort s1 p).owed + 1 < 32 →
        (getPort s1 p).phase = .up → (getPort s1 p).retry.length < 1024 →
        (getPort t p).queue = [] ∧ ∃ g, Out.flit p o.type g ∈ t.out ∧ g.payload = o.flit.payload) := by
  obtain ⟨hqueue, howed, hphase, hretry⟩ := credited_keeps (getPort s1 p) vc m n
  have hport : getPort (setPort s1 p (credited (getPort s1 p) vc m n)) p = credited (getPort s1 p) vc m n := getPort_setPort s1 p _
  refine ⟨_, execCredit_taken vc m n htake, ?_, fun hq ho => ?_, fun o hq hback hvc hvc' hn ho hup hroom => ?_⟩
  · have hset : Fr 525312 s1 (setPort s1 p (credited (getPort s1 p) vc m n)) := fr_setPort.up rfl
    exact Fr.only (Fr.call fr_returnOwed rfl (Fr.call fr_flushPort rfl hset)) rfl
  · rw [flushPort_idle (by rw [hport, hqueue, hq]), returnOwed_few (by rw [hport, howed]; exact ho), hport]
    exact ⟨howed, rfl, credited_credit (getPort s1 p) vc m n⟩
  · have hcredit : (credited (getPort s1 p) vc m n).credit o.flit.vc o.flit.destMoon = (getPort s1 p).credit0 + n := by
      unfold Port.credit
      rw [if_pos hvc]
      exact (credited_credit (getPort s1 p) vc m n).1 hvc'
    have hgo : (credited (getPort s1 p) vc m n).maySend o.type o.flit = true := by
      unfold Port.maySend
      rw [hphase, hup, hretry, hcredit, decide_eq_true hroom, decide_eq_true (show 0 < (getPort s1 p).credit0 + n by omega)]
      simp
    have hdrain := drainPort_sends (s := setPort s1 p (credited (getPort s1 p) vc m n)) (by rw [hport, hqueue, hq]) hback hvc
      (by rw [hport]; exact hgo)
    rw [hdrain]
    let v := setPort (setPort s1 p (credited (getPort s1 p) vc m n)) p
      { getPort (setPort s1 p (credited (getPort s1 p) vc m n)) p with queue := [] }
    have hv : getPort v p = { credited (getPort s1 p) vc m n with queue := [] } := (getPort_setPort _ p _).trans (by rw [hport])
    obtain ⟨hsq, hso⟩ := sendSpent_waiting v p o.type o.flit
    have hfew : returnOwed (sendSpent v p o.type o.flit) p = sendSpent v p o.type o.flit :=
      returnOwed_few (by rw [hso, hv]; show (credited (getPort s1 p) vc m n).owed < 32; rw [howed]; exact ho)
    show (getPort (returnOwed (sendSpent v p o.type o.flit) p) p).queue = [] ∧
      ∃ g, Out.flit p o.type g ∈ (returnOwed (sendSpent v p o.type o.flit) p).out ∧ g.payload = o.flit.payload
    rw [hfew]
    obtain ⟨g, hout, -, hload, -, -⟩ := sendSpent_emits (s := v) (p := p) (type := o.type) (f := o.flit)
      (by rw [hv]; exact hphase.trans hup)
    exact ⟨hsq.trans (by rw [hv]), g, hout, hload⟩

/-- A port with the credit of a channel that CREDIT_SYNC sets, of a moon on VC2. -/
def synced (x : Port) (vc m n : Nat) : Port :=
  let n := n - unacked x vc m
  if vc = 0 then { x with credit0 := n } else if vc = 1 then { x with credit1 := n } else { x with credit2 := tset x.credit2 m n }

theorem synced_queue (x : Port) (vc m n : Nat) : (synced x vc m n).queue = x.queue := by
  unfold synced
  dsimp only
  split
  · rfl
  · split <;> rfl

theorem creditSync_sets {s s1 : State} {p : Nat} {f : Flit} (vc n : Nat) (htake : takeFlit s p f = (s1, true)) :
    ∃ t, exec (.creditSync p f vc n) s = .next t ∧ OnlyChanges [.links, .out] s1 t ∧
      ((getPort s1 p).queue = [] → t.out = s1.out ∧ (vc = 0 → (getPort t p).credit0 = n - unacked (getPort s1 p) 0 f.destMoon) ∧
        (vc = 1 → (getPort t p).credit1 = n - unacked (getPort s1 p) 1 f.destMoon) ∧
        (vc ≠ 0 → vc ≠ 1 → tget (getPort t p).credit2 0 f.destMoon = n - unacked (getPort s1 p) vc f.destMoon)) := by
  have hexec : exec (.creditSync p f vc n) s = .next (flushPort (setPort s1 p (synced (getPort s1 p) vc f.destMoon n)) p) := by
    show execCreditSync p f vc n s = _
    unfold execCreditSync
    rw [htake]
    rfl
  have hport : getPort (setPort s1 p (synced (getPort s1 p) vc f.destMoon n)) p = synced (getPort s1 p) vc f.destMoon n := getPort_setPort s1 p _
  refine ⟨_, hexec, ?_, fun hq => ?_⟩
  · have hset : Fr 525312 s1 (setPort s1 p (synced (getPort s1 p) vc f.destMoon n)) := fr_setPort.up rfl
    exact Fr.only (Fr.call fr_flushPort rfl hset) rfl
  · rw [flushPort_idle (by rw [hport, synced_queue, hq]), hport]
    unfold synced
    dsimp only
    refine ⟨rfl, fun h => ?_, fun h => ?_, fun h0 h1 => ?_⟩
    · rw [if_pos h, h]
    · rw [if_neg (by omega), if_pos h, h]
    · rw [if_neg h0, if_neg h1]
      exact tget_tset_same _ _ _ _

/-- Settles O41. -/
theorem flitsActOrAreDiscarded : Obligations.FlitsActOrAreDiscarded := by
  unfold Obligations.FlitsActOrAreDiscarded
  refine ⟨fun s p f c hlive hup hc => ⟨badFlit_asks hlive hup hc, aheadFlit_discarded hlive hup hc⟩, ?_, ?_, ?_, ?_, ?_, ?_, ?_⟩
  · exact fun s s1 p fa mo m f h htake hus hends hok hbytes => chunkHdr_opens htake hus hends hok hbytes
  · exact fun s s1 p e f h htake hus hpick hgo => chunkHdr_passesOn htake hus hpick hgo
  · exact fun s s1 p fa mo m f c b htake hus hends hrx hok hb =>
      ⟨data_adds htake hus hends hrx hok hb, data_writes htake hus hends hrx hok hb, data_holds htake hus hends hrx hok hb⟩
  · exact fun s s1 p f x u htake hus htx htag hopen hu => delivered_ends htake hus htx htag hopen hu
  · exact fun s s1 p reason chunk f x u htake hus hfind hu hown hchunk => nack_fails htake hus hfind hu hown hchunk
  · intro s s1 p f k l htake hus hfull
    refine ⟨Fr.only (k := 525312) fr_sendCredit rfl, fun h1 h2 => ?_, fun h => ?_⟩
    · rw [execControl_taken k l htake hus hfull]
      cases k <;> trivial
    · rw [execControl_taken k l htake hus hfull]
      rcases h with rfl | rfl <;> rfl
  · exact fun s s1 p vc m n f htake => ⟨credit_gives vc m n htake, creditSync_sets vc n htake⟩

end Sys2Proof.Proofs
end

section
/-! Chunks that go out, and transfers without a port (R247, R364, R366, R368, R370). -/
set_option Elab.async false

namespace Sys2Proof.Proofs
open Sys2Proof.Machine Sys2Proof.Laws

/-! ## The next chunk (R364, R366) -/

theorem nextTx_mem {s : State} {m r i : Nat} {q : W32} {x : TxXfer} (h : nextTx s m r q = some (x, i)) :
    x ∈ s.links.tx ∧ x.moon = m ∧ x.ring = r ∧ x.seq = q := by
  obtain ⟨y, hy, hsome⟩ := List.exists_of_findSome?_eq_some h
  obtain ⟨j, -, heq⟩ := Option.map_eq_some_iff.mp hsome
  obtain rfl : y = x := congrArg Prod.fst heq
  obtain ⟨hmem, hkey⟩ := List.mem_filter.mp hy
  simp only [Bool.and_eq_true, beq_iff_eq] at hkey
  exact ⟨hmem, hkey.1.1, hkey.1.2, hkey.2⟩

/-- The port that is drawn is one of the list. -/
theorem drawFrom_mem {l : List Nat} (h : l ≠ []) (s : State) : ∃ p ∈ l, drawFrom l s = (some p, (drawFrom l s).2) := by
  cases l with
  | nil => exact absurd rfl h
  | cons a r =>
    refine ⟨(a :: r).getD (Config.pick (draw s).1 % (r.length + 1)) a, ?_, rfl⟩
    have hlt : Config.pick (draw s).1 % (r.length + 1) < (a :: r).length := Nat.mod_lt _ (Nat.succ_pos _)
    rw [List.getD_eq_getElem?_getD, List.getElem?_eq_getElem hlt, Option.getD_some]
    exact List.getElem_mem hlt

theorem upPorts_up {s : State} {mask p : Nat} (h : p ∈ upPorts s mask) : (getPort s p).phase = .up := by
  have hup := (List.mem_filter.mp h).2
  simp only [Bool.and_eq_true, beq_iff_eq] at hup
  exact hup.1

theorem txPorts_up {s : State} {x : TxXfer} {p : Nat} (h : p ∈ txPorts s x) : (getPort s p).phase = .up := by
  unfold txPorts at h
  split at h
  · exact upPorts_up h
  · have hup := (List.mem_filter.mp h).2
    simp only [Bool.and_eq_true, beq_iff_eq] at hup
    exact hup.1

theorem suffix_out_foldl {α : Type} {l : List Out} {f : State → α → State} (hf : ∀ s x, l <:+ s.out → l <:+ (f s x).out) (d : List α)
    (s : State) (h : l <:+ s.out) : l <:+ (d.foldl f s).out := by
  induction d generalizing s with
  | nil => exact h
  | cons a d ih => exact ih _ (hf s a h)

/-- A chunk's first flit names its transfer and its destination, and the transfers stay. -/
theorem sendChunk_emits {s : State} {x : TxXfer} {p : Nat} (h : ChunkHdr) (b : Bytes) (hup : (getPort s p).phase = .up) :
    SameLines s (sendChunk s x p h b) ∧ ∃ g, Out.flit p 2 g ∈ (sendChunk s x p h b).out ∧ g.xfer = x.xfer ∧
      ((getPort s p).sxl1 = false → g.destFabric = x.destFabric ∧ g.destMoon = x.destMoon) := by
  have hspend := sameLines_spend s p (channelTo s p x.destFabric) x.destMoon (chunkFlits (flitBytes s p) b.length)
  have hph := congrArg Port.phase (hspend.lines p)
  have hsx := congrArg Port.sxl1 (hspend.lines p)
  unfold sendChunk
  dsimp only
  generalize spend s p (channelTo s p x.destFabric) x.destMoon (chunkFlits (flitBytes s p) b.length) = u at hspend hph hsx ⊢
  obtain ⟨g, hout, -, -, hxfer, hends⟩ := sendFlit_emits (type := 2)
    (f := mkFlit u (channelTo s p x.destFabric) x.destFabric x.destMoon x.moon x.xfer (hdrBytes h)) (hph.trans hup)
  have hhead := sameLines_sendFlit u p 2 (mkFlit u (channelTo s p x.destFabric) x.destFabric x.destMoon x.moon x.xfer (hdrBytes h))
  generalize sendFlit u p 2 (mkFlit u (channelTo s p x.destFabric) x.destFabric x.destMoon x.moon x.xfer (hdrBytes h)) = v at hout hhead ⊢
  refine ⟨sameLines_trans hspend (sameLines_trans hhead (sameLines_foldl (fun s _ => sameLines_sendFlit s p 1 _) _ v)), g, ?_, hxfer,
    fun hfull => hends (hsx.trans hfull)⟩
  exact (suffix_out_foldl (fun s _ hs => suffix_out_sendFlit hs p 1 _) _ v (List.suffix_refl _)).subset hout

theorem mem_putTx {s : State} {x y : TxXfer} (hx : x ∈ s.links.tx) (hxfer : y.xfer = x.xfer) (hmoon : y.moon = x.moon) (hring : y.ring = x.ring) :
    y ∈ (putTx s y).links.tx := by
  refine List.mem_map.mpr ⟨x, hx, ?_⟩
  rw [hxfer, hmoon, hring]
  simp

/-- Reading and marking a chunk leaves the links and the clock. -/
theorem touched_links (s : State) (u : Option Machine.Task) (x : TxXfer) (i : Nat) :
    (markSent (touchChunk s u x i) x i).links = s.links ∧ (markSent (touchChunk s u x i) x i).orbit = s.orbit := by
  have hmark := fr_markSent (a0 := touchChunk s u x i) (a1 := x) (a2 := i)
  have htouch := fr_touchChunk (a0 := s) (a1 := u) (a2 := x) (a3 := i)
  exact ⟨(links_of_frame hmark rfl).trans (links_of_frame htouch rfl), (orbit_of_frame hmark rfl).trans (orbit_of_frame htouch rfl)⟩

theorem execSendChunkStart_eq {s : State} {m r i : Nat} {q : W32} {u : Option Machine.Task} {x : TxXfer} {b : Bytes}
    (hu : findTask s m r q = u) (hnext : nextTx s m r q = some (x, i)) (hruns : txRuns s x u = true) (hb : chunkBytes s u x i = .ok b) :
    exec (.sendChunkStart m r q) s =
      if !(x.destFabric == param s 0x5010 0) &&
          ((txPorts s x).filter fun p => creditFor s x p (chunkFlits (flitBytes s p) (chunkPlace u x i).2)).isEmpty then .next s
      else if x.destFabric == param s 0x5010 0 &&
          (checkWrite s x.destMoon ((chunkPlace u x i).2 / 64 + 2) (chunkPlace u x i).1 (chunkPlace u x i).2).map Fail.code == some 0 then .next s
      else if x.destFabric == param s 0x5010 0 then
        .next (sendSelf (putTx (markSent (touchChunk s u x i) x i)
          { x with sent := x.sent ++ [(i, 32)], openedAt := (markSent (touchChunk s u x i) x i).orbit.refNs }) x
          (chunkHeader x i (chunkPlace u x i).1 (chunkPlace u x i).2) b)
      else match drawFrom ((txPorts s x).filter fun p => creditFor s x p (chunkFlits (flitBytes s p) (chunkPlace u x i).2))
          (markSent (touchChunk s u x i) x i) with
        | (some p, s) => .next (sendChunk (putTx s { x with sent := x.sent ++ [(i, p)], openedAt := s.orbit.refNs }) x p
            (chunkHeader x i (chunkPlace u x i).1 (chunkPlace u x i).2) b)
        | (none, s) => .next s := by
  show execSendChunkStart m r q s = _
  unfold execSendChunkStart
  rw [hnext]
  dsimp only
  rw [hu, hruns, hb]
  rfl

theorem sendChunkStart_sends {s : State} {m r i : Nat} {q : W32} {u : Option Machine.Task} {x : TxXfer} {b : Bytes}
    (hu : findTask s m r q = u) (hnext : nextTx s m r q = some (x, i)) (hruns : txRuns s x u = true) (hb : chunkBytes s u x i = .ok b)
    (haway : x.destFabric ≠ param s 0x5010 0)
    (hports : ((txPorts s x).filter fun p => creditFor s x p (chunkFlits (flitBytes s p) (chunkPlace u x i).2)) ≠ []) :
    ∃ t p g, exec (.sendChunkStart m r q) s = .next t ∧
      p ∈ ((txPorts s x).filter fun p => creditFor s x p (chunkFlits (flitBytes s p) (chunkPlace u x i).2)) ∧
      { x with sent := x.sent ++ [(i, p)], openedAt := s.orbit.refNs } ∈ t.links.tx ∧ Out.flit p 2 g ∈ t.out ∧ g.xfer = x.xfer ∧
      ((getPort s p).sxl1 = false → g.destFabric = x.destFabric ∧ g.destMoon = x.destMoon) := by
  obtain ⟨hmem, -, -, -⟩ := nextTx_mem hnext
  obtain ⟨hlinks, horbit⟩ := touched_links s u x i
  have hexec := execSendChunkStart_eq hu hnext hruns hb
  have hself : (x.destFabric == param s 0x5010 0) = false := beq_eq_false_iff_ne.mpr haway
  rw [hself, if_neg (by simpa using hports), if_neg (by simp), if_neg (by decide)] at hexec
  obtain ⟨p, hp, hdraw⟩ := drawFrom_mem hports (markSent (touchChunk s u x i) x i)
  have hkept := fr_drawFrom (a0 := (txPorts s x).filter fun p => creditFor s x p (chunkFlits (flitBytes s p) (chunkPlace u x i).2))
    (a1 := markSent (touchChunk s u x i) x i)
  rw [hdraw] at hexec
  generalize (drawFrom ((txPorts s x).filter fun p => creditFor s x p (chunkFlits (flitBytes s p) (chunkPlace u x i).2))
    (markSent (touchChunk s u x i) x i)).2 = v at hexec hkept
  have hvlinks : v.links = s.links := (links_of_frame hkept rfl).trans hlinks
  have hvorbit : v.orbit = s.orbit := (orbit_of_frame hkept rfl).trans horbit
  dsimp only at hexec
  rw [hvorbit] at hexec
  let w := putTx v { x with sent := x.sent ++ [(i, p)], openedAt := s.orbit.refNs }
  have hport : getPort w p = getPort s p := getPort_of_links (s := s) (t := v) hvlinks p
  obtain ⟨hlines, g, hout, hxfer, hends⟩ := sendChunk_emits (s := w) (x := x) (chunkHeader x i (chunkPlace u x i).1 (chunkPlace u x i).2) b
    ((congrArg Port.phase hport).trans (txPorts_up (List.mem_filter.mp hp).1))
  refine ⟨_, p, g, hexec, hp, ?_, hout, hxfer, fun hfull => hends ((congrArg Port.sxl1 hport).trans hfull)⟩
  rw [hlines.rest]
  exact mem_putTx (s := v) (x := x) (hvlinks ▸ hmem) rfl rfl rfl

theorem sendChunkStart_self {s : State} {m r i : Nat} {q : W32} {u : Option Machine.Task} {x : TxXfer} {b : Bytes}
    (hu : findTask s m r q = u) (hnext : nextTx s m r q = some (x, i)) (hruns : txRuns s x u = true) (hb : chunkBytes s u x i = .ok b)
    (hown : x.destFabric = param s 0x5010 0)
    (hfree : (checkWrite s x.destMoon ((chunkPlace u x i).2 / 64 + 2) (chunkPlace u x i).1 (chunkPlace u x i).2).map Fail.code ≠ some 0) :
    ∃ t, exec (.sendChunkStart m r q) s = .next t ∧
      SameBytes (sendSelf (putTx (markSent (touchChunk s u x i) x i) { x with sent := x.sent ++ [(i, 32)], openedAt := s.orbit.refNs }) x
        (chunkHeader x i (chunkPlace u x i).1 (chunkPlace u x i).2) b) t := by
  obtain ⟨-, horbit⟩ := touched_links s u x i
  have hexec := execSendChunkStart_eq hu hnext hruns hb
  have hself : (x.destFabric == param s 0x5010 0) = true := beq_iff_eq.mpr hown
  rw [hself, if_neg (by simp), if_neg (by simpa using hfree), if_pos rfl, horbit] at hexec
  exact ⟨_, hexec, fun _ => ⟨rfl, rfl, rfl⟩⟩

/-! ## A transfer without a port (R247, R370) -/

/-- No transfer of the task stands. -/
def NoTransfer (m r : Nat) (q : W32) (s : State) : Prop := ∀ y ∈ s.links.tx, ¬(y.moon = m ∧ y.ring = r ∧ y.seq = q)

theorem noTransfer_of_shrink {m r : Nat} {q : W32} {s t : State} (h : NoTransfer m r q s) (g : TransfersShrink s t) : NoTransfer m r q t := by
  rintro y hy ⟨h1, h2, h3⟩
  obtain ⟨x, hx, g1, g2, g3⟩ := g.tx y hy
  exact h x hx ⟨g1.trans h1, g2.trans h2, g3.trans h3⟩

theorem noTransfer_dropTx (s : State) (m r : Nat) (q : W32) : NoTransfer m r q (dropTx s m r q) := by
  rintro y hy ⟨h1, h2, h3⟩
  have hkeep := (List.mem_filter.mp hy).2
  simp [h1, h2, h3] at hkeep

theorem shrink_returnSome (s : State) (p m n : Nat) : TransfersShrink s (returnSome s p m n) := by
  have hset : ∀ held, TransfersShrink s (setPort s p { getPort s p with heldBy := held }) := fun held => shrink_of_same rfl rfl
  have hgo : ∀ held k, TransfersShrink s (returnCredit (setPort s p { getPort s p with heldBy := held }) p m k) := fun held k =>
    shrink_trans (hset held) (shrink_of_lines (sameLines_returnCredit _ p m k))
  unfold returnSome
  extract_lets x held k
  split
  · exact shrink_refl s
  · exact hgo _ _

theorem shrink_writeHeld (s : State) (m : Nat) (l : List Arrival) : TransfersShrink s (writeHeld s m l) := by
  induction l generalizing s with
  | nil => exact shrink_of_links rfl
  | cons a l ih =>
    unfold writeHeld
    split
    · exact shrink_of_links rfl
    · dsimp only
      refine shrink_trans (shrink_putArrival s m a) (shrink_trans ?_ (ih _))
      split
      · exact shrink_returnSome _ _ _ _
      · exact shrink_refl _

theorem shrink_deliverHeld (s : State) (m : Nat) : TransfersShrink s (deliverHeld s m) :=
  shrink_trans (shrink_writeHeld s m _) (shrink_of_lines (sameLines_foldl (f := fun s p => drawShort s p m) (fun s p => sameLines_drawShort s p m) _ _))

theorem shrink_endSpill (s : State) (m : Nat) : TransfersShrink s (endSpill s m) := by
  have hkept : TransfersShrink s (modMoon s m fun x => { x with state := .active, swap := .none }) := shrink_of_links rfl
  exact shrink_trans hkept (shrink_deliverHeld _ m)

theorem shrink_restoreMoon (s : State) (m : Nat) : TransfersShrink s (restoreMoon s m) := by
  have hput : ∀ u : State, (if (getMoon s m).spilled then putImage s (moonCores s m) (getMoon s m).image (getMoon s m).imageUe else s) = u →
      u.links = s.links := by
    rintro u rfl
    split
    · exact links_of_frame fr_putImage rfl
    · rfl
  have hcount : ∀ u : State, (if (getMoon s m).swap == .restoring then countSwap u m else u).links = u.links := by
    intro u
    split
    · exact links_of_frame fr_countSwap rfl
    · rfl
  have hkept : ∀ u : State, u.links = s.links →
      TransfersShrink s (modMoon u m fun x => { x with spilled := false, swap := .none, image := [], imageUe := [] }) := fun u hu =>
    shrink_of_links hu
  exact shrink_trans (hkept _ ((hcount _).trans (hput _ rfl))) (shrink_deliverHeld _ m)

theorem shrink_offerBoth (s : State) (m : Nat) : TransfersShrink s (offerCores (offerCores s m 1) m 2) :=
  shrink_of_links ((links_of_frame fr_offerCores rfl).trans (links_of_frame fr_offerCores rfl))

theorem shrink_handshake (s : State) (m : Nat) (k : CtlKind) (l : List Nat) : TransfersShrink s (handshake s m k l) :=
  shrink_of_lines (sameLines_trans (sameLines_emit (sameLines_refl s) _) (sameLines_offerCtl _ _ _))

theorem shrink_dropPrecopy (s : State) (m : Nat) : TransfersShrink s (dropPrecopy s m) :=
  ⟨rfl, fun y hy => ⟨y, (List.mem_filter.mp hy).1, rfl, rfl, rfl⟩⟩

/-- Giving up a migration opens no transfer. -/
theorem shrink_abortMigration (s : State) (m : Nat) : TransfersShrink s (abortMigration s m) := by
  have hback : ∀ u : State, TransfersShrink u (modMoon u m fun x => { x with state := x.prev, mig := .none, migCmd := none, heldSent := 0 }) :=
    fun u => shrink_of_links rfl
  have hwait : ∀ u : State, TransfersShrink u (modMoon u m fun x => { x with state := .waiting, swap := .none }) := fun u => shrink_of_links rfl
  have hfirst := shrink_trans (shrink_handshake s m .abort []) (shrink_trans (shrink_dropPrecopy _ m) (hback _))
  unfold abortMigration
  dsimp only
  split
  · refine shrink_trans hfirst (shrink_trans ?_ (shrink_offerBoth _ m))
    split
    · exact shrink_restoreMoon _ m
    · split
      · exact hwait _
      · exact shrink_endSpill _ m
  · exact hfirst

/-- A moon whose command has ended has no job. -/
theorem endJob_ends (s : State) (m code : Nat) : (getMoon (endJob s m code) m).job = none := by
  obtain ⟨v, hv⟩ := getMoon_endJob s m code
  rw [hv]

theorem execLinkTimeout_eq {s : State} {m r i : Nat} {q : W32} {x : TxXfer} (hup : isUp s = true) (hnext : nextTx s m r q = some (x, i))
    (haway : x.destFabric ≠ param s 0x5010 0) (hports : txPorts s x = []) (hold : x.openedAt + param s 0x5060 0 * 1000000 ≤ s.orbit.refNs)
    (hdown : ∀ p ∈ bitsOf (if x.mask = 0 then tget s.links.fwd 0 x.destFabric else x.mask) 32,
      (getPort s p).downAt + param s 0x5060 0 * 1000000 ≤ s.orbit.refNs)
    (hgo : (match findTask s m r q with | some t => t.phase == .running | none => decide (migRing ≤ x.ring)) = true) :
    exec (.linkTimeout m r q) s = .next (ownRefused (failTx s x 0x0302 (param s 0x5010 0)) (some x)) := by
  show execLinkTimeout m r q s = _
  unfold execLinkTimeout
  rw [hnext]
  refine if_pos ?_
  simp only [Bool.and_eq_true]
  exact ⟨⟨⟨⟨⟨hgo, hup⟩, bne_iff_ne.mpr haway⟩, by rw [hports]; rfl⟩, decide_eq_true hold⟩,
    List.all_eq_true.mpr fun p hp => decide_eq_true (hdown p hp)⟩

theorem linkTimeout_fails {s : State} {m r i : Nat} {q : W32} {x : TxXfer} {u : Machine.Task} (hnext : nextTx s m r q = some (x, i))
    (hexec : exec (.linkTimeout m r q) s = .next (ownRefused (failTx s x 0x0302 (param s 0x5010 0)) (some x)))
    (hu : findTask s m r q = some u) (hrun : u.phase = .running) (hring : r < migRing) :
    ∃ t, exec (.linkTimeout m r q) s = .next t ∧
      (findTask t m r q).map (fun v => (v.phase, v.result, v.error)) = some (.done, 1, 0x0302) ∧
      ∀ y ∈ t.links.tx, ¬(y.moon = m ∧ y.ring = r ∧ y.seq = q) := by
  obtain ⟨-, rfl, rfl, rfl⟩ := nextTx_mem hnext
  have htask : txTask s x = some u := by
    unfold txTask
    rw [hu]
    exact if_pos hrun
  have hown : ∀ t : State, ownRefused t (some x) = t := by
    intro t
    have hsnap : x.ring ≠ snapRing := by unfold snapRing; omega
    unfold ownRefused
    dsimp only
    rw [if_neg hsnap, if_neg (fun h => absurd h.1 (by omega))]
  rw [hown] at hexec
  exact ⟨_, hexec, failTx_ends htask _ _⟩

theorem linkTimeout_endsMigration {s : State} {m r i : Nat} {q : W32} {x : TxXfer} (hnext : nextTx s m r q = some (x, i))
    (hexec : exec (.linkTimeout m r q) s = .next (ownRefused (failTx s x 0x0302 (param s 0x5010 0)) (some x)))
    (hu : findTask s m r q = none) (hring : r = migRing) (hmig : (getMoon s m).state = .migrating) :
    ∃ t, exec (.linkTimeout m r q) s = .next t ∧ (getMoon t m).job = none ∧ ∀ y ∈ t.links.tx, ¬(y.moon = m ∧ y.ring = r ∧ y.seq = q) := by
  obtain ⟨-, rfl, rfl, rfl⟩ := nextTx_mem hnext
  have hfail : failTx s x 0x0302 (param s 0x5010 0) = dropTx s x.moon x.ring x.seq := by
    unfold failTx txTask
    rw [hu]
  have hown : ownRefused (failTx s x 0x0302 (param s 0x5010 0)) (some x) =
      endJob (abortMigration (dropTx s x.moon x.ring x.seq) x.moon) x.moon 0xD := by
    rw [hfail]
    unfold ownRefused
    dsimp only
    rw [if_neg (by rw [hring]; decide), if_pos ⟨hring, hmig⟩]
  rw [hown] at hexec
  have hend : (endJob (abortMigration (dropTx s x.moon x.ring x.seq) x.moon) x.moon 0xD).links =
      (abortMigration (dropTx s x.moon x.ring x.seq) x.moon).links := links_of_frame fr_endJob rfl
  exact ⟨_, hexec, endJob_ends _ _ _,
    noTransfer_of_shrink (noTransfer_dropTx s _ _ _) (shrink_trans (shrink_abortMigration _ _) (shrink_of_links hend))⟩

/-- Settles O42. -/
theorem chunksGoOut : Obligations.ChunksGoOut := by
  unfold Obligations.ChunksGoOut
  refine ⟨fun s m r i q u x b hu hnext hruns hb => ⟨sendChunkStart_sends hu hnext hruns hb, sendChunkStart_self hu hnext hruns hb⟩,
    fun s m r i q x hup hnext haway hports hold hdown => ⟨fun u hu hrun hring => ?_, fun hu hring hmig => ?_⟩⟩
  · exact linkTimeout_fails hnext (execLinkTimeout_eq hup hnext haway hports hold hdown (by rw [hu]; exact beq_iff_eq.mpr hrun)) hu hrun hring
  · obtain ⟨-, -, hr, -⟩ := nextTx_mem hnext
    exact linkTimeout_endsMigration hnext
      (execLinkTimeout_eq hup hnext haway hports hold hdown (by rw [hu]; exact decide_eq_true (by omega))) hu hring hmig

end Sys2Proof.Proofs
end

section
/-! Packs: roles, members, polls, misses and expulsion (R377 to R382, R392, R394). -/
set_option Elab.async false

namespace Sys2Proof.Proofs
open Sys2Proof.Machine Sys2Proof.Laws

/-! ## Parameters beside a counter or the journal -/

theorem param_of_params {s t : State} (h : t.dict.params = s.dict.params) (p e : Nat) : param t p e = param s p e := by
  unfold param
  rw [h]

theorem param_setParam_ne {s : State} {p e q f v : Nat} (h : pkey q f ≠ pkey p e) : param (setParam s p e v) q f = param s q f :=
  tget_tset_ne _ _ _ _ _ h

theorem param_incA_ne {s : State} {p e n q f : Nat} (h : pkey q f ≠ pkey p e) : param (incA s p e n) q f = param s q f := by
  unfold incA
  dsimp only
  split
  · rfl
  · split
    · exact param_setParam_ne h
    · split
      · exact (param_of_params (by rw [raiseMoon_dict]) q f).trans (param_setParam_ne (v := 2 ^ 64 - 1) h)
      · exact (param_of_params (by rw [raisePf_dict]) q f).trans (param_setParam_ne (v := 2 ^ 64 - 1) h)

theorem param_jAppend {s : State} {r : JPayload} {q f : Nat} (h : pkey q f ≠ pkey 0xB106 0) : param (jAppend s r) q f = param s q f := by
  unfold jAppend
  exact param_incA_ne h

theorem param_setParamJ {s : State} {p e v : Nat} (h : pkey p e ≠ pkey 0xB106 0) : param (setParamJ s p e v) p e = v := by
  unfold setParamJ
  rw [param_jAppend h, param_setParam]

theorem param_setParamJ_ne {s : State} {p e q f v : Nat} (h : pkey q f ≠ pkey p e) (hj : pkey q f ≠ pkey 0xB106 0) :
    param (setParamJ s p e v) q f = param s q f := by
  unfold setParamJ
  rw [param_jAppend hj, param_setParam_ne h]

theorem setParamJ_pack (s : State) (p e v : Nat) : (setParamJ s p e v).pack = s.pack := pack_of_frame fr_setParamJ rfl

/-! ## Members -/

theorem getMember_of_members {s t : State} (h : t.pack.members = s.pack.members) (e : Nat) : getMember t e = getMember s e := by
  unfold getMember
  rw [h]

theorem getMember_of_pack {s t : State} (h : t.pack = s.pack) (e : Nat) : getMember t e = getMember s e := getMember_of_members (by rw [h]) e

theorem getMember_setMember (s : State) (e : Nat) (x : Member) : getMember (setMember s e x) e = x := tget_tset_same _ _ _ _

theorem getMember_setMember_ne {s : State} {e f : Nat} {x : Member} (h : f ≠ e) : getMember (setMember s e x) f = getMember s f :=
  tget_tset_ne _ _ _ _ _ h

theorem memberEntries_of_members {s t : State} (h : t.pack.members = s.pack.members) : memberEntries t = memberEntries s := by
  unfold memberEntries
  simp only [getMember_of_members h]

theorem refreeze_members (s : State) : (refreeze s).pack.members = s.pack.members := by
  unfold refreeze
  dsimp only
  split
  · rw [raisePf_pack]
  · rfl

theorem noteHealth_pack (s : State) (e : Nat) : (noteHealth s e).pack = s.pack := pack_of_frame fr_noteHealth rfl

theorem pack_answer (s : State) (c : Nat) : (answer s c).pack = s.pack := pack_of_frame fr_answer rfl

/-! ## Settling arrivals touches the list of arrivals alone -/

/-- Of the pack unit only the list of arrivals sent has changed. -/
def OnlySent (s t : State) : Prop := t.pack = { s.pack with sent := t.pack.sent }

theorem onlySent_of_pack {s t : State} (h : t.pack = s.pack) : OnlySent s t := by unfold OnlySent; rw [h]

theorem onlySent_trans {s t u : State} (h : OnlySent s t) (g : OnlySent t u) : OnlySent s u := by
  unfold OnlySent at *
  rw [g, h]

theorem onlySent_foldl {α : Type} {f : State → α → State} (h : ∀ s x, OnlySent s (f s x)) (l : List α) (s : State) : OnlySent s (l.foldl f s) := by
  induction l generalizing s with
  | nil => exact rfl
  | cons a l ih => exact onlySent_trans (h s a) (ih _)

theorem onlySent_settleArrival (s : State) (e : Nat × Nat × W32 × ArriveMsg) (code detail : Nat) : OnlySent s (settleArrival s e code detail) := by
  let u : State := { s with pack := { s.pack with sent := s.pack.sent.filter fun x => !(x.1 == e.1 && x.2.1 == e.2.1 && x.2.2.1 == e.2.2.1) } }
  have hdrop : OnlySent s u := rfl
  refine onlySent_trans hdrop (onlySent_of_pack ?_)
  have hturn : (finishTurn u e.1 (code == 0)).pack = u.pack := pack_of_frame fr_finishTurn rfl
  have hdone : ∀ t, (completeTask u t).pack = u.pack := fun t => pack_of_frame fr_completeTask rfl
  have hfail : ∀ t, (failTask u t code 0 detail).pack = u.pack := fun t => pack_of_frame fr_failTask rfl
  show (if e.2.1 = 33 then finishTurn u e.1 (code == 0)
    else match findTask u e.1 e.2.1 e.2.2.1 with
      | some t => if t.phase != .running then u else if code = 0 then completeTask u t else failTask u t code 0 detail
      | none => u).pack = u.pack
  split
  · exact hturn
  · split
    · rename_i t _
      split
      · rfl
      · split
        · exact hdone t
        · exact hfail t
    · rfl

theorem onlySent_sendArrive {s t : State} {m r scope b start : Nat} {q : W32} (h : sendArrive s m r q scope b start = some t) : OnlySent s t := by
  unfold sendArrive at h
  split at h
  · cases h
  · split at h
    · cases h
      exact rfl
    · obtain rfl := Option.some.inj h
      split
      · exact rfl
      · exact onlySent_trans (t := { s with pack := { s.pack with sent := _ } }) rfl (onlySent_of_pack (pack_of_frame fr_sendCtl rfl))

theorem onlySent_sendWaiting (s : State) (m scope b : Nat) : OnlySent s (sendWaiting s m scope b) := by
  unfold sendWaiting
  refine onlySent_foldl (fun u x => ?_) _ s
  split
  · exact rfl
  · split
    · rename_i h
      exact onlySent_sendArrive h
    · exact onlySent_settleArrival u _ _ _

theorem onlySent_settleArrivals (s : State) (p : ArriveMsg → Bool) (code detail : Nat) : OnlySent s (settleArrivals s p code detail) := by
  unfold settleArrivals
  dsimp only
  exact onlySent_trans (onlySent_foldl (f := fun s e => settleArrival s e code detail) (fun s e => onlySent_settleArrival s e code detail) _ s)
    (onlySent_foldl (f := fun s (e : Nat × Nat × W32 × ArriveMsg) => sendWaiting s e.1 e.2.2.2.scope e.2.2.2.barrier)
      (fun s e => onlySent_sendWaiting s _ _ _) _ _)

theorem onlySent_dropLost (s : State) : OnlySent s (dropLost s) := onlySent_settleArrivals s _ _ _

/-! ## Roles (R377, R379) -/

theorem packParent_role (s : State) : (packParent s).pack.role = s.pack.role ∧ (packParent s).pack.instances = s.pack.instances := by
  unfold packParent
  dsimp only
  split
  · rw [onlySent_dropLost]
    exact ⟨rfl, rfl⟩
  · exact ⟨rfl, rfl⟩

theorem settlePack_role (s : State) : (settlePack s).pack.role = s.pack.role ∧ (settlePack s).pack.instances = s.pack.instances := by
  have hfreeze : ∀ u : State, (refreeze u).pack.role = u.pack.role ∧ (refreeze u).pack.instances = u.pack.instances := by
    intro u
    unfold refreeze
    dsimp only
    split
    · rw [raisePf_pack]
      exact ⟨rfl, rfl⟩
    · exact ⟨rfl, rfl⟩
  unfold settlePack
  split
  · exact ⟨(hfreeze _).1, (hfreeze _).2⟩
  · exact hfreeze s

theorem updateRole_role (s : State) :
    (updateRole s).pack.role = roleNow s ∧ (roleNow s ≠ s.pack.role → (updateRole s).pack.instances = []) := by
  unfold updateRole
  dsimp only
  split
  · rename_i h
    exact ⟨h.symm, fun hne => absurd h hne⟩
  · rw [(settlePack_role _).1, (settlePack_role _).2, onlySent_dropLost]
    dsimp only
    rw [(packParent_role _).1, (packParent_role _).2]
    exact ⟨rfl, fun _ => rfl⟩

theorem packRole_acts {s : State} {w : Who} {v : Nat} (hw : writeStatus s w 0xB000 0 = 0) :
    (v ≤ 2 → ∃ t, exec (.packRole w v) s = .next t ∧ t.dict.answer.status = 0 ∧ t.pack.role = v ∧
      (v ≠ s.pack.role → t.pack.instances = [])) ∧
    (2 < v → v ≠ 0xFF → ∃ t, exec (.packRole w v) s = .next t ∧ t.dict.answer.status = 7 ∧ t.pack = s.pack) := by
  refine ⟨fun hv => ?_, fun hv hff => ?_⟩
  · have hact : writeRole v s = .ok (updateRole (setParamJ s 0xB000 0 v)) := if_pos (.inl hv)
    have hrole : roleNow (setParamJ s 0xB000 0 v) = v := by
      unfold roleNow
      rw [param_setParamJ (by decide)]
      exact if_pos hv
    obtain ⟨hset, hdrop⟩ := updateRole_role (setParamJ s 0xB000 0 v)
    rw [hrole] at hset hdrop
    have hexec : exec (.packRole w v) s = _ := command_ok hw hact
    refine ⟨_, hexec, answer_status _ _, ?_, fun hne => ?_⟩
    · rw [pack_answer]; exact hset
    · rw [pack_answer]
      exact hdrop (by rw [setParamJ_pack]; exact hne)
  · have hact : writeRole v s = .error 7 := if_neg (by omega)
    have hexec : exec (.packRole w v) s = _ := command_error hw hact
    exact ⟨_, hexec, answer_status _ _, pack_answer _ _⟩

/-! ## The member table (R378, R381) -/

theorem memberFabric_enters {s : State} {w : Who} {e v : Nat} (hw : writeStatus s w 0xB010 e = 0) (hv : v < 0xFFFF) (hman : isManager s = true)
    (hown : v ≠ ownFabric s) (hnew : ∀ f ∈ memberEntries s, f ≠ e → (getMember s f).fabric ≠ v) :
    ∃ t, exec (.memberFabric w e v) s = .next t ∧ t.dict.answer.status = 0 ∧ getMember t e = { freshMember v with polls := pollsDue s e } := by
  have hany : ¬(v ≠ 0xFFFF ∧ (v = ownFabric s ∨ ((memberEntries s).any fun f => f != e && (getMember s f).fabric == v) = true)) := by
    rintro ⟨-, h | h⟩
    · exact hown h
    · obtain ⟨f, hf, hsame⟩ := List.any_eq_true.mp h
      simp only [Bool.and_eq_true, bne_iff_ne, beq_iff_eq] at hsame
      exact hnew f hf hsame.1 hsame.2
  have hact : writeMember e v s = .ok (refreeze (noteHealth (setMember (clearA (setParamJ s 0xB010 e v) 0xB015 e) e
      { freshMember v with polls := pollsDue s e }) e)) := by
    unfold writeMember
    rw [if_neg hany, if_neg (by omega), hman]
    rfl
  have hexec : exec (.memberFabric w e v) s = _ := command_ok hw hact
  refine ⟨_, hexec, answer_status _ _, ?_⟩
  rw [getMember_of_pack (pack_answer _ _), getMember_of_members (refreeze_members _), getMember_of_pack (noteHealth_pack _ _), getMember_setMember]

theorem memberFabric_refused {s : State} {w : Who} {e v : Nat} (hw : writeStatus s w 0xB010 e = 0) (hv : v < 0xFFFF)
    (hdup : v = ownFabric s ∨ ∃ f ∈ memberEntries s, f ≠ e ∧ (getMember s f).fabric = v) :
    ∃ t, exec (.memberFabric w e v) s = .next t ∧ t.dict.answer.status = 7 ∧ t.pack = s.pack := by
  have hany : v ≠ 0xFFFF ∧ (v = ownFabric s ∨ ((memberEntries s).any fun f => f != e && (getMember s f).fabric == v) = true) := by
    refine ⟨by omega, hdup.imp id ?_⟩
    rintro ⟨f, hf, hne, hsame⟩
    exact List.any_eq_true.mpr ⟨f, hf, by simp [hne, hsame]⟩
  have hact : writeMember e v s = .error 7 := if_pos hany
  have hexec : exec (.memberFabric w e v) s = _ := command_error hw hact
  exact ⟨_, hexec, answer_status _ _, pack_answer _ _⟩

/-! ## Polls and misses (R380, R381) -/

/-- A member with one miss more in its run, which ends its run of answers and its POLL. -/
def missed (x : Member) : Member := { x with missRun := Nat.min 255 (x.missRun + 1), answerRun := 0, polledAt := none }

/-- A miss counts in the member's run, ends its run of answers, and the third in a row makes it SILENT; the other members stay. -/
theorem pollMissed_counts (s : State) (e : Nat) :
    getMember (pollMissed s e) e = { missed (getMember s e) with silent := (getMember s e).silent || decide (3 ≤ (getMember s e).missRun + 1) } ∧
    (∀ f, f ≠ e → getMember (pollMissed s e) f = getMember s f) ∧ (pollMissed s e).pack.pollSeq = s.pack.pollSeq ∧
    (pollMissed s e).pack.pollBase = s.pack.pollBase := by
  have hcap : decide (3 ≤ Nat.min 255 ((getMember s e).missRun + 1)) = decide (3 ≤ (getMember s e).missRun + 1) :=
    decide_eq_decide.mpr (by show 3 ≤ min _ _ ↔ _; omega)
  let u := incA (setMember s e (missed (getMember s e))) 0xB014 e 1
  have hpack : u.pack = (setMember s e (missed (getMember s e))).pack := incA_pack _ _ _ _
  have hu : getMember u e = missed (getMember s e) := (getMember_of_pack hpack e).trans (getMember_setMember s e _)
  have hother : ∀ f, f ≠ e → getMember u f = getMember s f := fun f hf => (getMember_of_pack hpack f).trans (getMember_setMember_ne hf)
  have heq : pollMissed s e = if !(getMember s e).silent && decide (3 ≤ Nat.min 255 ((getMember s e).missRun + 1)) then
      raisePf (setMember u e { getMember u e with silent := true }) 0x0B01 [e, (getMember s e).fabric] else u := rfl
  rw [heq, hcap]
  split
  · rename_i h
    simp only [Bool.and_eq_true, Bool.not_eq_true'] at h
    refine ⟨?_, fun f hf => ?_, ?_, ?_⟩
    · rw [getMember_of_pack (raisePf_pack _ _ _), getMember_setMember, hu, h.2, Bool.or_true]
    · rw [getMember_of_pack (raisePf_pack _ _ _), getMember_setMember_ne hf, hother f hf]
    · rw [raisePf_pack]
      show u.pack.pollSeq = _
      rw [hpack]
      rfl
    · rw [raisePf_pack]
      show u.pack.pollBase = _
      rw [hpack]
      rfl
  · rename_i h
    have hsil : ((getMember s e).silent || decide (3 ≤ (getMember s e).missRun + 1)) = (getMember s e).silent := by
      cases hs : (getMember s e).silent with
      | true => rfl
      | false =>
        rw [hs] at h
        simpa using h
    refine ⟨by rw [hu, hsil]; rfl, hother, ?_, ?_⟩
    · rw [hpack]; rfl
    · rw [hpack]; rfl

theorem pollMissed_orbit (s : State) (e : Nat) : (pollMissed s e).orbit = s.orbit := orbit_of_frame fr_pollMissed rfl

theorem pollsDue_of {s t : State} (horbit : t.orbit = s.orbit) (hbase : t.pack.pollBase = s.pack.pollBase) (e : Nat) : pollsDue t e = pollsDue s e := by
  unfold pollsDue
  rw [horbit, hbase]

/-- What one POLL does: its member is polled now, the other members stay, and the sequence number moves on. -/
structure Polled (s t : State) (e : Nat) : Prop where
  orbit : t.orbit = s.orbit
  base : t.pack.pollBase = s.pack.pollBase
  seq : t.pack.pollSeq = s.pack.pollSeq + 1
  at_ : (getMember t e).polledAt = some s.orbit.refNs
  polls : (getMember t e).polls = pollsDue s e
  fabric : (getMember t e).fabric = (getMember s e).fabric
  others : ∀ f, f ≠ e → getMember t f = getMember s f
  sent : ∃ p l, Out.control p .poll (getMember s e).fabric l ∈ t.out
  out : s.out <:+ t.out

theorem sendCtl_emits (s : State) (k : CtlKind) (fabric : Nat) (l : List Nat) :
    Out.control (portTo s fabric) k fabric l ∈ (sendCtl s k fabric l).out ∧ s.out <:+ (sendCtl s k fabric l).out := by
  have hsuf := suffix_out_offerCtl (s := emit s (.control (portTo s fabric) k fabric l)) (List.suffix_refl _) (portTo s fabric) fabric
  exact ⟨hsuf.subset List.mem_cons_self, (List.suffix_cons _ _).trans hsuf⟩

theorem suffix_out_pollMissed (s : State) (e : Nat) : s.out <:+ (pollMissed s e).out := by
  have hcount : ∀ x, s.out <:+ (incA (setMember s e x) 0xB014 e 1).out := fun x =>
    suffix_out_incA (s := setMember s e x) (List.suffix_refl _) _ _ _
  unfold pollMissed
  dsimp only
  split
  · exact suffix_out_raisePf (s := setMember (incA (setMember s e _) 0xB014 e 1) e _) (hcount _) _ _
  · exact hcount _

theorem sendPoll_polls (s : State) (e : Nat) : Polled s (sendPoll s e) e := by
  have hmiss : ∀ u : State, (if (getMember s e).polledAt.isSome then pollMissed s e else s) = u →
      u.orbit = s.orbit ∧ u.pack.pollBase = s.pack.pollBase ∧ u.pack.pollSeq = s.pack.pollSeq ∧ (getMember u e).fabric = (getMember s e).fabric ∧
      (∀ f, f ≠ e → getMember u f = getMember s f) ∧ s.out <:+ u.out := by
    rintro u rfl
    obtain ⟨hmine, hother, hseq, hbase⟩ := pollMissed_counts s e
    split
    · exact ⟨pollMissed_orbit s e, hbase, hseq, by rw [hmine]; rfl, hother, suffix_out_pollMissed s e⟩
    · exact ⟨rfl, rfl, rfl, rfl, fun _ _ => rfl, List.suffix_refl _⟩
  unfold sendPoll
  generalize hu : (if (getMember s e).polledAt.isSome then pollMissed s e else s) = u
  obtain ⟨horbit, hbase, hseq, hfabric, hother, hout⟩ := hmiss u hu
  let v := setMember { u with pack := { u.pack with pollSeq := u.pack.pollSeq + 1 } } e
    { getMember u e with pollSeq := u.pack.pollSeq, polledAt := some u.orbit.refNs, polls := pollsDue u e }
  have hctl : ∀ fabric l, Polled s (sendCtl v .poll fabric l) e ∨ fabric ≠ (getMember u e).fabric := by
    intro fabric l
    by_cases hf : fabric = (getMember u e).fabric
    · left
      have hpack : (sendCtl v .poll fabric l).pack = v.pack := pack_of_frame fr_sendCtl rfl
      have hmine : getMember (sendCtl v .poll fabric l) e = { getMember u e with pollSeq := u.pack.pollSeq, polledAt := some u.orbit.refNs,
                                                                                 polls := pollsDue u e } :=
        (getMember_of_pack hpack e).trans (getMember_setMember _ e _)
      obtain ⟨hemit, hkeep⟩ := sendCtl_emits v .poll fabric l
      refine ⟨(orbit_of_frame fr_sendCtl rfl).trans horbit, ?_, ?_, ?_, ?_, ?_, fun f hf => ?_, ⟨portTo v fabric, l, ?_⟩, hout.trans hkeep⟩
      · rw [hpack]; exact hbase
      · rw [hpack]; exact congrArg (· + 1) hseq
      · rw [hmine, horbit]
      · rw [hmine]; exact pollsDue_of horbit hbase e
      · rw [hmine]; exact hfabric
      · exact (getMember_of_pack hpack f).trans ((getMember_setMember_ne hf).trans (hother f hf))
      · rw [← hfabric, ← hf]; exact hemit
    · exact .inr hf
  exact (hctl (getMember u e).fabric _).resolve_right (not_not_intro rfl)

/-- A run of POLLs over entries of which each occurs once. -/
theorem foldl_sendPoll {l : List Nat} (hl : l.Nodup) (s : State) :
    (l.foldl sendPoll s).orbit = s.orbit ∧ (l.foldl sendPoll s).pack.pollBase = s.pack.pollBase ∧
    (l.foldl sendPoll s).pack.pollSeq = s.pack.pollSeq + BitVec.ofNat 16 l.length ∧ s.out <:+ (l.foldl sendPoll s).out ∧
    (∀ e, e ∉ l → getMember (l.foldl sendPoll s) e = getMember s e) ∧
    ∀ e ∈ l, (getMember (l.foldl sendPoll s) e).polledAt = some s.orbit.refNs ∧ (getMember (l.foldl sendPoll s) e).polls = pollsDue s e ∧
      (getMember (l.foldl sendPoll s) e).fabric = (getMember s e).fabric ∧
      ∃ p d, Out.control p .poll (getMember s e).fabric d ∈ (l.foldl sendPoll s).out := by
  induction l generalizing s with
  | nil => exact ⟨rfl, rfl, by simp, List.suffix_refl _, fun _ _ => rfl, fun e he => absurd he (by simp)⟩
  | cons a l ih =>
    obtain ⟨ha, hl⟩ := List.nodup_cons.mp hl
    have hone := sendPoll_polls s a
    obtain ⟨horbit, hbase, hseq, hout, hother, hmine⟩ := ih hl (sendPoll s a)
    rw [List.foldl_cons]
    refine ⟨horbit.trans hone.orbit, hbase.trans hone.base, ?_, hone.out.trans hout, fun e he => ?_, fun e he => ?_⟩
    · rw [hseq, hone.seq, List.length_cons, Nat.add_comm l.length 1, BitVec.ofNat_add, BitVec.add_assoc]
      rfl
    · obtain ⟨hne, hnot⟩ := not_or.mp (mt List.mem_cons.mpr he)
      exact (hother e hnot).trans (hone.others e hne)
    · rcases List.mem_cons.mp he with rfl | he
      · have hkeep := hother e ha
        obtain ⟨p, d, hsent⟩ := hone.sent
        exact ⟨by rw [hkeep]; exact hone.at_, by rw [hkeep]; exact hone.polls, by rw [hkeep]; exact hone.fabric, p, d, hout.subset hsent⟩
      · have hne : e ≠ a := fun h => ha (h ▸ he)
        obtain ⟨hat, hpolls, hfabric, hsent⟩ := hmine e he
        rw [hone.others e hne] at hfabric hsent
        exact ⟨hat.trans (by rw [hone.orbit]), hpolls.trans (pollsDue_of hone.orbit hone.base e), hfabric, hsent⟩

theorem memberEntries_nodup (s : State) : (memberEntries s).Nodup := List.Pairwise.filter _ List.nodup_range

theorem pollSend_polls {s : State} (hup : isUp s = true) (hman : isManager s = true) :
    ∃ t, exec .pollSend s = .next t ∧
      t.pack.pollSeq = s.pack.pollSeq +
        BitVec.ofNat 16 ((memberEntries s).filter fun e => decide ((getMember s e).polls < pollsDue s e)).length ∧
      ∀ e ∈ memberEntries s,
        ((getMember s e).polls < pollsDue s e → (getMember t e).polledAt = some s.orbit.refNs ∧ (getMember t e).polls = pollsDue s e ∧
          (getMember t e).fabric = (getMember s e).fabric ∧ ∃ p l, Out.control p .poll (getMember s e).fabric l ∈ t.out) ∧
        (pollsDue s e ≤ (getMember s e).polls → getMember t e = getMember s e) := by
  have hexec : exec .pollSend s = .next (((memberEntries s).filter fun e => decide ((getMember s e).polls < pollsDue s e)).foldl sendPoll s) := by
    show execPollSend s = _
    unfold execPollSend whenUp
    rw [hup, hman]
    rfl
  obtain ⟨-, -, hseq, -, hother, hmine⟩ := foldl_sendPoll ((memberEntries_nodup s).filter fun e => decide ((getMember s e).polls < pollsDue s e)) s
  refine ⟨_, hexec, hseq, fun e he => ⟨fun hdue => ?_, fun hnot => ?_⟩⟩
  · exact hmine e (List.mem_filter.mpr ⟨he, decide_eq_true hdue⟩)
  · refine hother e fun h => ?_
    have hdue := of_decide_eq_true (List.mem_filter.mp h).2
    omega

/-- A POLL from PARENT_FABRIC. -/
theorem poll_answered {s : State} {p : Nat} {g : PollMsg} (hup : isUp s = true) (hrole : s.pack.role ≠ 2) (hparent : param s 0xB001 0 ≠ 0xFFFF)
    (hsrc : g.src = param s 0xB001 0) :
    ∃ t n l, exec (.poll p g) s = .next t ∧ t.pack.packState = (if g.health = 3 then 3 else 1) ∧ t.pack.seenEpoch = some g.bootEpoch ∧
      t.pack.pollAt = some s.orbit.refNs ∧ Out.control n .answer g.src (g.seq.toNat :: l) ∈ t.out := by
  let v : State := { s with pack := { s.pack with
    packState := if g.health = 3 then 3 else 1, pollAt := some s.orbit.refNs, seenEpoch := some g.bootEpoch
    leadFabric := if g.leadFabric = 0xFFFF then none else some g.leadFabric } }
  let again := match s.pack.seenEpoch with | some e => e != g.bootEpoch | none => false
  let x := if (if g.health = 3 then 3 else 1) = 3 ∧ s.pack.packState ≠ 3 then raisePf v 0x0B08 [] else v
  let y := dropLost (if again then resendArrivals x else x)
  have hevent : ∀ c : Bool, (if c then raisePf v 0x0B08 [] else v).pack = v.pack := by
    intro c
    cases c with
    | true => exact raisePf_pack _ _ _
    | false => rfl
  have hx : x.pack = v.pack := by
    have h := hevent (decide ((if g.health = 3 then 3 else 1) = 3 ∧ s.pack.packState ≠ 3))
    simp only [decide_eq_true_eq] at h
    exact h
  have hagain : (if again then resendArrivals x else x).pack = v.pack := by
    split
    · exact (pack_of_frame fr_resendArrivals rfl).trans hx
    · exact hx
  have hy : OnlySent v y := onlySent_trans (onlySent_of_pack hagain) (onlySent_dropLost _)
  have hexec : exec (.poll p g) s = .next (sendCtl y .answer g.src [(ownAnswer y g.seq).pollSeq.toNat, (ownAnswer y g.seq).fabric,
      (ownAnswer y g.seq).powerState, AnswerMsg.flags (ownAnswer y g.seq), (ownAnswer y g.seq).moons, (ownAnswer y g.seq).role,
      ofSigned 32 (ownAnswer y g.seq).offset, (ownAnswer y g.seq).orbit]) := by
    show execPoll p g s = _
    unfold execPoll
    exact if_neg (by simp [hup, hrole, hparent, hsrc])
  have hpack : ∀ l, (sendCtl y .answer g.src l).pack = y.pack := fun l => pack_of_frame fr_sendCtl rfl
  refine ⟨_, portTo y g.src, _, hexec, ?_, ?_, ?_, (sendCtl_emits y .answer g.src _).1⟩
  · rw [hpack, hy]
  · rw [hpack, hy]
  · rw [hpack, hy]

theorem poll_ignored {s : State} {p : Nat} {g : PollMsg} (hsrc : g.src ≠ param s 0xB001 0) : exec (.poll p g) s = .next s := by
  show execPoll p g s = _
  unfold execPoll
  exact if_pos (by simp [hsrc])

theorem orphan_acts {s : State} (hup : isUp s = true) (hrole : s.pack.role ≠ 2) (hparent : param s 0xB001 0 ≠ 0xFFFF) (hstate : s.pack.packState ≠ 2)
    (hold : s.pack.pollAt.getD 0 + 1000000 * param s 0xB004 0 ≤ s.orbit.refNs) :
    ∃ t, exec .orphan s = .next t ∧ t.pack.packState = 2 := by
  have hexec : exec .orphan s = .next (dropLost (raisePf { s with pack := { s.pack with packState := 2 } } 0x0B03 [])) := by
    show execOrphan s = _
    unfold execOrphan
    exact if_pos (by simp only [Bool.and_eq_true, bne_iff_ne, decide_eq_true_eq]; exact ⟨⟨⟨⟨hup, hrole⟩, hparent⟩, hstate⟩, hold⟩)
  refine ⟨_, hexec, ?_⟩
  rw [onlySent_dropLost, raisePf_pack]

theorem answer_taken {s : State} {e rtt : Nat} {a : AnswerMsg} (hup : isUp s = true) (hman : isManager s = true)
    (hfabric : (getMember s e).fabric ≠ 0xFFFF) (hpolled : (getMember s e).polledAt.isSome = true) (hseq : a.pollSeq = (getMember s e).pollSeq) :
    (rtt ≤ 10000 → ∃ t, exec (.answer e a rtt) s = .next t ∧ (getMember t e).answer = some (a, rtt) ∧ (getMember t e).missRun = 0 ∧
      (getMember t e).answerRun = Nat.min 255 ((getMember s e).answerRun + 1) ∧ (getMember t e).polledAt = none ∧
      (getMember t e).silent = ((getMember s e).silent && decide ((getMember s e).answerRun + 1 < 16))) ∧
    (10000 < rtt → ∃ t, exec (.answer e a rtt) s = .next t ∧ (getMember t e).missRun = Nat.min 255 ((getMember s e).missRun + 1) ∧
      (getMember t e).answerRun = 0) := by
  let n := Nat.min 255 ((getMember s e).answerRun + 1)
  let back := (getMember s e).silent && decide (16 ≤ n)
  let u := setMember s e { getMember s e with answer := some (a, rtt), missRun := 0, answerRun := n, polledAt := none,
                                              silent := (getMember s e).silent && !back, svcReq := a.svcReq, locked := a.locked }
  have hexec : exec (.answer e a rtt) s = if 10000 < rtt then .next (pollMissed s e)
      else .next (if back then raisePf u 0x0B02 [e, (getMember s e).fabric] else u) := by
    show execAnswer e a rtt s = _
    unfold execAnswer
    exact if_neg (by simp [hup, hman, hfabric, Option.ne_none_iff_isSome.mpr hpolled, hseq])
  refine ⟨fun hin => ?_, fun hlate => ?_⟩
  · rw [if_neg (by omega)] at hexec
    have hu : getMember (if back then raisePf u 0x0B02 [e, (getMember s e).fabric] else u) e =
        { getMember s e with answer := some (a, rtt), missRun := 0, answerRun := n, polledAt := none,
                             silent := (getMember s e).silent && !back, svcReq := a.svcReq, locked := a.locked } := by
      split
      · exact (getMember_of_pack (raisePf_pack _ _ _) e).trans (getMember_setMember s e _)
      · exact getMember_setMember s e _
    refine ⟨_, hexec, ?_⟩
    rw [hu]
    refine ⟨rfl, rfl, rfl, rfl, ?_⟩
    have hcap : decide (16 ≤ n) = !decide ((getMember s e).answerRun + 1 < 16) := by
      rw [← decide_not]
      exact decide_eq_decide.mpr (by show 16 ≤ min _ _ ↔ _; omega)
    show ((getMember s e).silent && !((getMember s e).silent && decide (16 ≤ n))) = _
    rw [hcap]
    cases (getMember s e).silent <;> simp
  · rw [if_pos hlate] at hexec
    obtain ⟨hmine, -, -, -⟩ := pollMissed_counts s e
    exact ⟨_, hexec, by rw [hmine]; rfl, by rw [hmine]; rfl⟩

theorem pollMiss_counts {s : State} {e a : Nat} (hup : isUp s = true) (hman : isManager s = true) (hpolled : (getMember s e).polledAt = some a)
    (hold : a + 10000 ≤ s.orbit.refNs) :
    ∃ t, exec (.pollMiss e) s = .next t ∧ (getMember t e).missRun = Nat.min 255 ((getMember s e).missRun + 1) ∧
      (getMember t e).answerRun = 0 ∧ (getMember t e).polledAt = none ∧
      (getMember t e).silent = ((getMember s e).silent || decide (3 ≤ (getMember s e).missRun + 1)) := by
  have hexec : exec (.pollMiss e) s = .next (pollMissed s e) := by
    show execPollMiss e s = _
    unfold execPollMiss
    rw [hpolled]
    exact if_pos (by rw [hup, hman, decide_eq_true hold]; rfl)
  obtain ⟨hmine, -, -, -⟩ := pollMissed_counts s e
  refine ⟨_, hexec, ?_⟩
  rw [hmine]
  exact ⟨rfl, rfl, rfl, rfl⟩

/-! ## Spares and expulsion (R392, R394, R406) -/

theorem topSuspect_none {s : State} (h : memberEntries s = []) : topSuspect s = none := by
  unfold topSuspect
  rw [h]
  rfl

theorem evalHealth_quiet {s : State} (h : s.pack.role = 2 ∨ (s.pack.role = 1 ∧ memberEntries s = [])) : evalHealth s = s := by
  unfold evalHealth
  rcases h with h | ⟨-, h⟩
  · exact if_neg (by omega)
  · rw [h]
    have hnone : tryExpel s = s := by
      unfold tryExpel
      rw [topSuspect_none h]
    show (if s.pack.role = 1 then tryExpel s else s) = s
    rw [hnone, ite_self]

theorem sparesDeclared_acts {s : State} {w : Who} {v : Nat} (hw : writeStatus s w 0xB026 0 = 0) :
    (v ≤ 64 → (s.pack.role = 2 ∨ (s.pack.role = 1 ∧ memberEntries s = [])) →
      ∃ t, exec (.sparesDeclared w v) s = .next t ∧ t.dict.answer.status = 0 ∧ param t 0xB026 0 = v) ∧
    (v ≤ 64 → isManager s = false → ∃ t, exec (.sparesDeclared w v) s = .next t ∧ t.dict.answer.status = 0 ∧
      param t 0xB026 0 = param s 0xB026 0 ∧ t.pack = s.pack) ∧
    (64 < v → ∃ t, exec (.sparesDeclared w v) s = .next t ∧ t.dict.answer.status = 7 ∧ t.pack = s.pack ∧
      param t 0xB026 0 = param s 0xB026 0) := by
  refine ⟨fun hv hrole => ?_, fun hv hman => ?_, fun hv => ?_⟩
  · have hman : isManager s = true := by
      unfold isManager
      rcases hrole with h | ⟨h, -⟩ <;> rw [h] <;> rfl
    have hpack := setParamJ_pack s 0xB026 0 v
    have hquiet : evalHealth (setParamJ s 0xB026 0 v) = setParamJ s 0xB026 0 v :=
      evalHealth_quiet (by rw [hpack, memberEntries_of_members (s := s) (by rw [hpack])]; exact hrole)
    have hact : writeSpares v s = .ok (setParamJ s 0xB026 0 v) := by
      unfold writeSpares
      rw [if_neg (by omega), hman, hquiet]
      rfl
    have hexec : exec (.sparesDeclared w v) s = _ := command_ok hw hact
    exact ⟨_, hexec, answer_status _ _, by rw [param_answer, param_setParamJ (by decide)]⟩
  · have hact : writeSpares v s = .ok s := by
      unfold writeSpares
      rw [if_neg (by omega), hman]
      rfl
    have hexec : exec (.sparesDeclared w v) s = _ := command_ok hw hact
    exact ⟨_, hexec, answer_status _ _, param_answer _ _ _ _, pack_answer _ _⟩
  · have hact : writeSpares v s = .error 7 := if_pos hv
    have hexec : exec (.sparesDeclared w v) s = _ := command_error hw hact
    exact ⟨_, hexec, answer_status _ _, pack_answer _ _, param_answer _ _ _ _⟩

/-- A member's HEALTH is set, the other members and the two parameters of expulsion stay. -/
theorem setHealth_sets (s : State) (e : Nat) (h : Health) :
    (getMember (setHealth s e h) e).health = h ∧ (∀ f, f ≠ e → getMember (setHealth s e h) f = getMember s f) ∧
    param (setHealth s e h) 0xB026 0 = param s 0xB026 0 ∧ param (setHealth s e h) 0xB027 0 = param s 0xB027 0 := by
  let u := noteHealth (setMember s e { getMember s e with health := h }) e
  have hparam : ∀ p, pkey p 0 ≠ pkey 0xB106 0 → param u p 0 = param s p 0 := fun p hp =>
    (param_jAppend hp).trans (param_of_dict (by simp) p 0)
  have hev : ∀ v : State, (match h with
      | .normal => u
      | .suspect => raisePf u 0x0B04 [e, (getMember s e).fabric]
      | .watch => raisePf u 0x0B05 [e, (getMember s e).fabric]
      | .expelled => raisePf u 0x0B06 [e, (getMember s e).fabric]) = v → v.pack = u.pack ∧ v.dict = u.dict := by
    rintro v rfl
    cases h
    · exact ⟨rfl, rfl⟩
    · exact ⟨raisePf_pack _ _ _, raisePf_dict _ _ _⟩
    · exact ⟨raisePf_pack _ _ _, raisePf_dict _ _ _⟩
    · exact ⟨raisePf_pack _ _ _, raisePf_dict _ _ _⟩
  obtain ⟨hpack, hdict⟩ := hev _ rfl
  have hmembers : (setHealth s e h).pack.members = (setMember s e { getMember s e with health := h }).pack.members :=
    (refreeze_members _).trans ((congrArg PackUnit.members hpack).trans (congrArg PackUnit.members (noteHealth_pack _ e)))
  have hrefreeze : ∀ v : State, (refreeze v).dict = v.dict := fun v => dict_of_frame fr_refreeze rfl
  have hd : (setHealth s e h).dict = u.dict := (hrefreeze _).trans hdict
  refine ⟨?_, fun f hf => ?_, ?_, ?_⟩
  · rw [getMember_of_members hmembers, getMember_setMember]
  · rw [getMember_of_members hmembers, getMember_setMember_ne hf]
  · rw [param_of_dict hd]; exact hparam _ (by decide)
  · rw [param_of_dict hd]; exact hparam _ (by decide)

/-- Moving the remaining suspects to WATCH leaves an expelled member and the two parameters. -/
theorem watchSuspects_keeps {l : List Nat} {e : Nat} {s : State} (he : (getMember s e).health = .expelled) :
    (getMember (l.foldl (fun s e => if (getMember s e).health = .suspect then setHealth s e .watch else s) s) e).health = .expelled ∧
    param (l.foldl (fun s e => if (getMember s e).health = .suspect then setHealth s e .watch else s) s) 0xB026 0 = param s 0xB026 0 ∧
    param (l.foldl (fun s e => if (getMember s e).health = .suspect then setHealth s e .watch else s) s) 0xB027 0 = param s 0xB027 0 := by
  induction l generalizing s with
  | nil => exact ⟨he, rfl, rfl⟩
  | cons f l ih =>
    rw [List.foldl_cons]
    split
    · rename_i hs
      have hne : e ≠ f := fun h => by rw [← h, he] at hs; cases hs
      obtain ⟨-, hother, hspares, hlast⟩ := setHealth_sets s f .watch
      obtain ⟨h1, h2, h3⟩ := ih (s := setHealth s f .watch) (by rw [hother e hne]; exact he)
      exact ⟨h1, h2.trans hspares, h3.trans hlast⟩
    · exact ih he

theorem expelDue_of {s : State} (h : (s.orbit.state ≠ .unlocked ∧ s.pack.expelFree = false ∧ param s 0xB027 0 + 1000000000 * param s 0xB025 0 ≤ s.orbit.now) ∨
      ((s.orbit.state = .unlocked ∨ s.pack.expelFree = true) ∧ s.pack.expelRef + 1000000000 * param s 0xB025 0 ≤ s.orbit.refNs)) :
    expelDue s = true := by
  unfold expelDue
  dsimp only
  rcases h with ⟨h1, h2, h3⟩ | ⟨h1, h2⟩
  · rw [if_neg (by simp [h1, h2])]
    exact decide_eq_true h3
  · rw [if_pos h1]
    exact decide_eq_true h2

/-- The suspect with the highest score is expelled, and without a spare left the other suspects are watched. -/
theorem tryExpel_some {s : State} {e : Nat} (htop : topSuspect s = some e) (hrole : s.pack.role = 1) (hspares : 0 < param s 0xB026 0)
    (hdue : expelDue s = true) :
    tryExpel s =
      let u := setHealth (setParamJ (setParamJ s 0xB026 0 (param s 0xB026 0 - 1)) 0xB027 0 s.orbit.now) e .expelled
      let v : State := { u with pack := { u.pack with expelRef := u.orbit.refNs, expelFree := u.orbit.state == .unlocked } }
      if param s 0xB026 0 = 1 then
        (memberEntries v).foldl (fun s e => if (getMember s e).health = .suspect then setHealth s e .watch else s) v
      else v := by
  unfold tryExpel
  rw [htop]
  dsimp only
  rw [if_pos ⟨hrole, hspares, hdue⟩]

theorem tryExpel_expels {s : State} {e : Nat} (htop : topSuspect s = some e) (hrole : s.pack.role = 1) (hspares : 0 < param s 0xB026 0)
    (hdue : expelDue s = true) :
    (getMember (tryExpel s) e).health = .expelled ∧ param (tryExpel s) 0xB026 0 + 1 = param s 0xB026 0 ∧
      param (tryExpel s) 0xB027 0 = s.orbit.now := by
  have h26 : param (setParamJ (setParamJ s 0xB026 0 (param s 0xB026 0 - 1)) 0xB027 0 s.orbit.now) 0xB026 0 = param s 0xB026 0 - 1 := by
    rw [param_setParamJ_ne (by decide) (by decide), param_setParamJ (by decide)]
  have h27 : param (setParamJ (setParamJ s 0xB026 0 (param s 0xB026 0 - 1)) 0xB027 0 s.orbit.now) 0xB027 0 = s.orbit.now :=
    param_setParamJ (by decide)
  rw [tryExpel_some htop hrole hspares hdue]
  generalize setParamJ (setParamJ s 0xB026 0 (param s 0xB026 0 - 1)) 0xB027 0 s.orbit.now = r at h26 h27 ⊢
  obtain ⟨hhealth, -, hs26, hs27⟩ := setHealth_sets r e .expelled
  generalize setHealth r e .expelled = u at hhealth hs26 hs27 ⊢
  have hu26 : param u 0xB026 0 + 1 = param s 0xB026 0 := by rw [hs26, h26]; omega
  have hu27 : param u 0xB027 0 = s.orbit.now := hs27.trans h27
  have hkept : ∀ v : State, v.pack.members = u.pack.members → v.dict = u.dict → (getMember v e).health = .expelled ∧
      param v 0xB026 0 + 1 = param s 0xB026 0 ∧ param v 0xB027 0 = s.orbit.now := fun v hm hd =>
    ⟨by rw [getMember_of_members hm]; exact hhealth, by rw [param_of_dict hd]; exact hu26, by rw [param_of_dict hd]; exact hu27⟩
  dsimp only
  generalize hv : ({ u with pack := { u.pack with expelRef := u.orbit.refNs, expelFree := u.orbit.state == .unlocked } } : State) = v
  obtain ⟨hv1, hv2, hv3⟩ := hkept v (by rw [← hv]) (by rw [← hv])
  split
  · obtain ⟨h1, h2, h3⟩ := watchSuspects_keeps (l := memberEntries v) hv1
    exact ⟨h1, by rw [h2]; exact hv2, h3.trans hv3⟩
  · exact ⟨hv1, hv2, hv3⟩

theorem expelIntervalElapsed_expels {s : State} {e : Nat} (hup : isUp s = true) (htop : topSuspect s = some e) (hrole : s.pack.role = 1)
    (hspares : 0 < param s 0xB026 0) (hdue : expelDue s = true) :
    ∃ t, exec .expelIntervalElapsed s = .next t ∧ (getMember t e).health = .expelled ∧ param t 0xB026 0 + 1 = param s 0xB026 0 ∧
      param t 0xB027 0 = s.orbit.now := by
  have hexec : exec .expelIntervalElapsed s = .next (tryExpel s) := by
    show execExpelIntervalElapsed s = _
    unfold execExpelIntervalElapsed whenUp
    exact if_pos hup
  exact ⟨_, hexec, tryExpel_expels htop hrole hspares hdue⟩

/-- Settles O43. -/
theorem packsPollAndExpel : Obligations.PacksPollAndExpel := by
  unfold Obligations.PacksPollAndExpel
  refine ⟨⟨fun s w v hw => packRole_acts hw, fun s w e v hw hv => ⟨memberFabric_enters hw hv, memberFabric_refused hw hv⟩,
    fun s hup hman => pollSend_polls hup hman, fun s p g hup hrole hparent => ⟨poll_answered hup hrole hparent, poll_ignored⟩,
    fun s hup hrole hparent hstate hold => orphan_acts hup hrole hparent hstate hold⟩,
    ⟨fun s e rtt a hup hman hfabric hpolled hseq => answer_taken hup hman hfabric hpolled hseq,
      fun s e a hup hman hpolled hold => pollMiss_counts hup hman hpolled hold⟩,
    fun s w v hw => sparesDeclared_acts hw,
    fun s e hup htop hrole hspares hdue => expelIntervalElapsed_expels hup htop hrole hspares (expelDue_of hdue)⟩

end Sys2Proof.Proofs
end

section
/-! Barriers: definitions and substitutions, arrivals, their release, withdrawal and timeout (R383 to R390). -/
set_option Elab.async false

namespace Sys2Proof.Proofs
open Sys2Proof.Machine Sys2Proof.Laws

/-! ## Definitions and substitutions (R384, R389) -/

theorem getBarrier_of_barriers {s t : State} (h : t.pack.barriers = s.pack.barriers) (b : Nat) : getBarrier t b = getBarrier s b := by
  unfold getBarrier
  rw [h]

theorem getBarrier_setBarrier (s : State) (b : Nat) (x : Barrier) : getBarrier (setBarrier s b x) b = x := tget_tset_same _ _ _ _

theorem getBarrier_answer (s : State) (c b : Nat) : getBarrier (answer s c) b = getBarrier s b := getBarrier_of_barriers (by rw [pack_answer]) b

theorem getBarrier_jAppend (s : State) (r : JPayload) (b : Nat) : getBarrier (jAppend s r) b = getBarrier s b :=
  getBarrier_of_barriers (by rw [jAppend_pack]) b

theorem barrierDef_acts {s : State} {w : Who} {b : Nat} {d : BarDef} (hw : writeStatus s w 0xB040 b = 0) :
    (badDef s d = false → tfind s.pack.instances b = none → isManager s = true →
      ∃ t, exec (.barrierDef w b d) s = .next t ∧ t.dict.answer.status = 0 ∧ getBarrier t b = ⟨d, (getBarrier s b).gen, []⟩) ∧
    (badDef s d = true → ∃ t, exec (.barrierDef w b d) s = .next t ∧ t.dict.answer.status = 7 ∧ t.pack = s.pack) ∧
    (badDef s d = false → (tfind s.pack.instances b).isSome = true →
      ∃ t, exec (.barrierDef w b d) s = .next t ∧ t.dict.answer.status = 8 ∧ t.pack = s.pack) := by
  refine ⟨fun hok hnone hman => ?_, fun hbad => ?_, fun hok hopen => ?_⟩
  · have hact : writeBarDef b d s = .ok (jAppend (setBarrier s b ⟨d, (getBarrier s b).gen, []⟩)
        (.paramBlob (pkey 0xB040 b) (barDefBytes ⟨d, (getBarrier s b).gen, []⟩))) := by
      unfold writeBarDef
      rw [hok, hnone, hman]
      rfl
    have hexec : exec (.barrierDef w b d) s = _ := command_ok hw hact
    exact ⟨_, hexec, answer_status _ _, by rw [getBarrier_answer, getBarrier_jAppend, getBarrier_setBarrier]⟩
  · have hact : writeBarDef b d s = .error 7 := if_pos hbad
    have hexec : exec (.barrierDef w b d) s = _ := command_error hw hact
    exact ⟨_, hexec, answer_status _ _, pack_answer _ _⟩
  · have hact : writeBarDef b d s = .error 8 := by
      unfold writeBarDef
      rw [hok, hopen]
      rfl
    have hexec : exec (.barrierDef w b d) s = _ := command_error hw hact
    exact ⟨_, hexec, answer_status _ _, pack_answer _ _⟩

theorem barrierMove_adds {s : State} {w : Who} {b : Nat} {v : BarMove} (hw : writeStatus s w 0xB042 b = 0) (hman : isManager s = true)
    (hmoon : v.newMoon < 64) (hnew : (v.newFabric, v.newMoon) ∉ barrierPairs (getBarrier s b))
    (hold : (v.oldFabric, v.oldMoon) ∈ barrierPairs (getBarrier s b)) (hnone : tfind s.pack.instances b = none)
    (hroom : (getBarrier s b).moves.length < 16) :
    ∃ t, exec (.barrierMove w b v) s = .next t ∧ t.dict.answer.status = 0 ∧ (getBarrier t b).moves = (getBarrier s b).moves ++ [v] ∧
      (getBarrier t b).defn = (getBarrier s b).defn ∧ barrierPairs (getBarrier t b) = movePair (barrierPairs (getBarrier s b)) v := by
  have hact : writeBarMove b v s = .ok (jAppend (setBarrier s b { getBarrier s b with moves := (getBarrier s b).moves ++ [v] })
      (.paramBlob (pkey 0xB042 b) (barMoveBytes v))) := by
    unfold writeBarMove
    dsimp only
    rw [if_neg (by rw [hman]; decide), if_neg (by simp [hmoon, hnew, hold]), hnone, if_neg (by simp), if_neg (by omega)]
  have hexec : exec (.barrierMove w b v) s = _ := command_ok hw hact
  refine ⟨_, hexec, answer_status _ _, ?_⟩
  rw [getBarrier_answer, getBarrier_jAppend, getBarrier_setBarrier]
  refine ⟨rfl, rfl, ?_⟩
  unfold barrierPairs
  exact List.foldl_append

/-! ## Arrivals (R385, R387, R390) -/

/-- The instance that an arrival opens or joins (R385). -/
def joined (i : Instance) (g : ArriveMsg) : List ArriveMsg :=
  if i.arrived.any fun a => a.fabric == g.fabric && a.moon == g.moon then i.arrived else i.arrived ++ [g]

theorem joined_has (i : Instance) (g : ArriveMsg) : (∃ a ∈ joined i g, a.fabric = g.fabric ∧ a.moon = g.moon) ∧ ∀ a ∈ i.arrived, a ∈ joined i g := by
  unfold joined
  split
  · rename_i h
    obtain ⟨a, ha, heq⟩ := List.any_eq_true.mp h
    simp only [Bool.and_eq_true, beq_iff_eq] at heq
    exact ⟨⟨a, ha, heq⟩, fun a h => h⟩
  · exact ⟨⟨g, List.mem_append_right _ List.mem_cons_self, rfl, rfl⟩, fun a h => List.mem_append_left _ h⟩

theorem mem_joined {i : Instance} {g a : ArriveMsg} (h : a ∈ joined i g) : a ∈ i.arrived ∨ a = g := by
  unfold joined at h
  split at h
  · exact .inl h
  · exact (List.mem_append.mp h).imp id List.mem_singleton.mp

/-- The acknowledgement of an arrival from another module. -/
def acked (s : State) (g : ArriveMsg) : State :=
  if g.fabric = ownFabric s then s else sendCtl s .arriveAck g.fabric [g.moon, g.scope, g.barrier]

theorem acked_kept (s : State) (g : ArriveMsg) : (acked s g).pack = s.pack ∧ (acked s g).orbit = s.orbit := by
  unfold acked
  split
  · exact ⟨rfl, rfl⟩
  · exact ⟨pack_of_frame fr_sendCtl rfl, orbit_of_frame fr_sendCtl rfl⟩

theorem execArrive_member {s : State} {g : ArriveMsg} {i : Instance} (hup : isUp s = true) (hscope : ownScope s = some g.scope)
    (hvalid : (getBarrier s g.barrier).defn.valid = true) (hmember : (g.fabric, g.moon) ∈ barrierPairs (getBarrier s g.barrier))
    (hi : i = tget s.pack.instances ⟨[], s.orbit.refNs⟩ g.barrier) :
    exec (.arrive g) s =
      if (barrierPairs (getBarrier s g.barrier)).all fun p => (joined i g).any fun a => a.fabric == p.1 && a.moon == p.2 then
        .next (releaseInstance (acked s g) g.scope g.barrier (joined i g))
      else .next { acked s g with pack := { (acked s g).pack with
        instances := tset (acked s g).pack.instances g.barrier { i with arrived := joined i g } } } := by
  obtain ⟨hpack, horbit⟩ := acked_kept s g
  have hi' : i = tget (acked s g).pack.instances { arrived := [], openedAt := (acked s g).orbit.refNs } g.barrier := by
    rw [hpack, horbit]
    exact hi
  show execArrive g s = _
  unfold execArrive
  dsimp only
  rw [if_neg (by rw [hup]; decide), if_neg (by simp [hscope, hvalid]), if_neg (by simp [hmember])]
  rw [hi']
  rfl

theorem arrive_joins {s : State} {g : ArriveMsg} {i : Instance} {p : Nat × Nat} (hup : isUp s = true) (hscope : ownScope s = some g.scope)
    (hvalid : (getBarrier s g.barrier).defn.valid = true) (hmember : (g.fabric, g.moon) ∈ barrierPairs (getBarrier s g.barrier))
    (hi : i = tget s.pack.instances ⟨[], s.orbit.refNs⟩ g.barrier) (hp : p ∈ barrierPairs (getBarrier s g.barrier))
    (hne : p ≠ (g.fabric, g.moon)) (hwait : ∀ a ∈ i.arrived, (a.fabric, a.moon) ≠ p) :
    ∃ t j, exec (.arrive g) s = .next t ∧ tfind t.pack.instances g.barrier = some j ∧ j.openedAt = i.openedAt ∧
      (∃ a ∈ j.arrived, a.fabric = g.fabric ∧ a.moon = g.moon) ∧ (∀ a ∈ i.arrived, a ∈ j.arrived) ∧
      getBarrier t g.barrier = getBarrier s g.barrier := by
  have hexec := execArrive_member hup hscope hvalid hmember hi
  have hopen : ¬((barrierPairs (getBarrier s g.barrier)).all fun p => (joined i g).any fun a => a.fabric == p.1 && a.moon == p.2) = true := by
    intro hall
    obtain ⟨a, ha, heq⟩ := List.any_eq_true.mp (List.all_eq_true.mp hall p hp)
    simp only [Bool.and_eq_true, beq_iff_eq] at heq
    have hpair : (a.fabric, a.moon) = p := Prod.ext heq.1 heq.2
    rcases mem_joined ha with h | h
    · exact hwait a h hpair
    · exact hne (by rw [← hpair, h])
  rw [if_neg hopen] at hexec
  obtain ⟨hmine, hold⟩ := joined_has i g
  refine ⟨_, { i with arrived := joined i g }, hexec, tfind_tset_same _ _ _, rfl, hmine, hold, ?_⟩
  exact getBarrier_of_barriers (s := s) (by dsimp only; rw [(acked_kept s g).1]) g.barrier

/-! ## Release (R385, R387, R391) -/

/-- Of the pack unit only the arrivals sent and the members' health have changed. -/
structure InstancesKept (s t : State) : Prop where
  instances : t.pack.instances = s.pack.instances
  records : t.pack.records = s.pack.records
  barriers : t.pack.barriers = s.pack.barriers

theorem instancesKept_of_pack {s t : State} (h : t.pack = s.pack) : InstancesKept s t := ⟨by rw [h], by rw [h], by rw [h]⟩

theorem instancesKept_refl (s : State) : InstancesKept s s := ⟨rfl, rfl, rfl⟩

theorem instancesKept_trans {s t u : State} (h : InstancesKept s t) (g : InstancesKept t u) : InstancesKept s u :=
  ⟨g.instances.trans h.instances, g.records.trans h.records, g.barriers.trans h.barriers⟩

theorem instancesKept_of_onlySent {s t : State} (h : OnlySent s t) : InstancesKept s t := ⟨by rw [h], by rw [h], by rw [h]⟩

theorem instancesKept_foldl {α : Type} {f : State → α → State} (h : ∀ s x, InstancesKept s (f s x)) (l : List α) (s : State) :
    InstancesKept s (l.foldl f s) := by
  induction l generalizing s with
  | nil => exact instancesKept_refl s
  | cons a l ih => exact instancesKept_trans (h s a) (ih _)

theorem instancesKept_refreeze (s : State) : InstancesKept s (refreeze s) := by
  unfold refreeze
  dsimp only
  split
  · exact ⟨by rw [raisePf_pack], by rw [raisePf_pack], by rw [raisePf_pack]⟩
  · exact ⟨rfl, rfl, rfl⟩

theorem instancesKept_setHealth (s : State) (e : Nat) (h : Health) : InstancesKept s (setHealth s e h) := by
  have hset : InstancesKept s (setMember s e { getMember s e with health := h }) := ⟨rfl, rfl, rfl⟩
  refine instancesKept_trans hset (instancesKept_trans (instancesKept_of_pack (noteHealth_pack _ e)) (instancesKept_trans ?_ (instancesKept_refreeze _)))
  cases h
  · exact instancesKept_refl _
  · exact instancesKept_of_pack (raisePf_pack _ _ _)
  · exact instancesKept_of_pack (raisePf_pack _ _ _)
  · exact instancesKept_of_pack (raisePf_pack _ _ _)

theorem instancesKept_evalMember (s : State) (e : Nat) : InstancesKept s (evalMember s e) := by
  unfold evalMember
  dsimp only
  split
  · split
    · exact instancesKept_setHealth s e _
    · exact instancesKept_refl s
  · split
    · exact instancesKept_setHealth s e _
    · split
      · exact instancesKept_setHealth s e _
      · exact instancesKept_refl s
  · split
    · exact instancesKept_setHealth s e _
    · split
      · exact instancesKept_setHealth s e _
      · exact instancesKept_refl s
  · exact instancesKept_refl s

theorem instancesKept_tryExpel (s : State) : InstancesKept s (tryExpel s) := by
  have hexpel : ∀ (u : State) (e : Nat), InstancesKept u (setHealth (setParamJ (setParamJ u 0xB026 0 (param u 0xB026 0 - 1)) 0xB027 0 u.orbit.now) e .expelled) :=
    fun u e => instancesKept_trans (instancesKept_of_pack ((setParamJ_pack _ _ _ _).trans (setParamJ_pack _ _ _ _))) (instancesKept_setHealth _ e _)
  have hwatch : ∀ (l : List Nat) (u : State),
      InstancesKept u (l.foldl (fun s e => if (getMember s e).health = .suspect then setHealth s e .watch else s) u) := by
    intro l u
    refine instancesKept_foldl (fun s e => ?_) l u
    split
    · exact instancesKept_setHealth s e _
    · exact instancesKept_refl s
  unfold tryExpel
  split
  · exact instancesKept_refl s
  · rename_i e _
    dsimp only
    split
    · have hfirst := hexpel s e
      generalize setHealth (setParamJ (setParamJ s 0xB026 0 (param s 0xB026 0 - 1)) 0xB027 0 s.orbit.now) e .expelled = u at hfirst ⊢
      have hnote : InstancesKept u { u with pack := { u.pack with expelRef := u.orbit.refNs, expelFree := u.orbit.state == .unlocked } } :=
        ⟨rfl, rfl, rfl⟩
      split
      · exact instancesKept_trans hfirst (instancesKept_trans hnote (hwatch _ _))
      · exact instancesKept_trans hfirst hnote
    · exact instancesKept_refl s

theorem instancesKept_evalHealth (s : State) : InstancesKept s (evalHealth s) := by
  unfold evalHealth
  split
  · exact instancesKept_trans (instancesKept_foldl (fun s e => instancesKept_evalMember s e) _ s) (instancesKept_tryExpel _)
  · exact instancesKept_refl s

theorem instancesKept_takeSample (s : State) (r : BarRec) (l : List ArriveMsg) : InstancesKept s (takeSample s r l) := by
  have hone : ∀ (u : State) (e : Nat) (x : Member) (late : Bool), InstancesKept u
      (if late then incA (incA (setMember u e x) 0xB015 e 1) 0xB016 e 1 else incA (setMember u e x) 0xB015 e 1) := by
    intro u e x late
    have hset : InstancesKept u (setMember u e x) := ⟨rfl, rfl, rfl⟩
    have hcount := instancesKept_trans hset (instancesKept_of_pack (incA_pack (setMember u e x) 0xB015 e 1))
    cases late with
    | true => exact instancesKept_trans hcount (instancesKept_of_pack (incA_pack _ _ _ _))
    | false => exact hcount
  unfold takeSample
  dsimp only
  refine instancesKept_trans (instancesKept_of_pack (incB_pack s 0xB052 0 1))
    (instancesKept_trans (instancesKept_foldl (fun u a => ?_) _ _) (instancesKept_evalHealth _))
  split
  · exact instancesKept_refl u
  · split
    · exact instancesKept_refl u
    · exact hone _ _ _ _

/-- An instance that closes leaves its record, and GEN advances. -/
theorem closeInstance_closes (s : State) (b result : Nat) (sample : Bool) (l : List ArriveMsg) :
    tfind (closeInstance s b result sample l).pack.instances b = none ∧
    tfind (closeInstance s b result sample l).pack.records b = some (makeRecord (getBarrier s b).gen result sample l) ∧
    (getBarrier (closeInstance s b result sample l) b).gen = (getBarrier s b).gen + 1 :=
  ⟨tfind_tdel_same _ _, tfind_tset_same _ _ _, congrArg Barrier.gen (getBarrier_setBarrier s b _)⟩

/-- Settling here or telling the other modules leaves the instances. -/
theorem instancesKept_tell {p : State → Nat → ArriveMsg → Bool} {k : CtlKind} {c d : Nat} {a : Nat → List Nat} (l : List Nat) (s : State) :
    InstancesKept s (l.foldl (fun s f => if f = ownFabric s then settleArrivals s (p s f) c d else sendCtl s k f (a f)) s) := by
  refine instancesKept_foldl (fun u f => ?_) l s
  split
  · exact instancesKept_of_onlySent (onlySent_settleArrivals u _ _ _)
  · exact instancesKept_of_pack (pack_of_frame fr_sendCtl rfl)

theorem releaseInstance_closes (s : State) (scope b : Nat) (l : List ArriveMsg) :
    ∃ sample, InstancesKept (closeInstance s b 0 sample l) (releaseInstance s scope b l) := by
  refine ⟨givesSample s (getBarrier s b) l, ?_⟩
  have hcount := instancesKept_of_pack (incB_pack (closeInstance s b 0 (givesSample s (getBarrier s b) l) l) 0xB050 0 1)
  have htell := instancesKept_trans hcount (instancesKept_tell (p := fun _ _ a => a.scope == scope && a.barrier == b) (k := .release) (c := 0) (d := 0)
    (a := fun _ => [scope, b]) (arrivedModules l) (incB (closeInstance s b 0 (givesSample s (getBarrier s b) l) l) 0xB050 0 1))
  unfold releaseInstance
  dsimp only
  split
  · rename_i h
    rw [h] at htell
    rw [h]
    exact instancesKept_trans htell (instancesKept_takeSample _ _ _)
  · exact htell

theorem arrive_releases {s : State} {g : ArriveMsg} {i : Instance} (hup : isUp s = true) (hscope : ownScope s = some g.scope)
    (hvalid : (getBarrier s g.barrier).defn.valid = true) (hmember : (g.fabric, g.moon) ∈ barrierPairs (getBarrier s g.barrier))
    (hi : i = tget s.pack.instances ⟨[], s.orbit.refNs⟩ g.barrier)
    (hlast : ∀ p ∈ barrierPairs (getBarrier s g.barrier), p = (g.fabric, g.moon) ∨ ∃ a ∈ i.arrived, (a.fabric, a.moon) = p) :
    ∃ t k, exec (.arrive g) s = .next t ∧ tfind t.pack.instances g.barrier = none ∧ tfind t.pack.records g.barrier = some k ∧
      k.result = 0 ∧ k.gen = (getBarrier s g.barrier).gen ∧ (getBarrier t g.barrier).gen = (getBarrier s g.barrier).gen + 1 := by
  have hexec := execArrive_member hup hscope hvalid hmember hi
  obtain ⟨⟨a, ha, hfa, hma⟩, hold⟩ := joined_has i g
  have hall : ((barrierPairs (getBarrier s g.barrier)).all fun p => (joined i g).any fun a => a.fabric == p.1 && a.moon == p.2) = true := by
    refine List.all_eq_true.mpr fun p hp => List.any_eq_true.mpr ?_
    rcases hlast p hp with rfl | ⟨c, hc, rfl⟩
    · exact ⟨a, ha, by simp [hfa, hma]⟩
    · exact ⟨c, hold c hc, by simp⟩
  rw [if_pos hall] at hexec
  obtain ⟨sample, hkept⟩ := releaseInstance_closes (acked s g) g.scope g.barrier (joined i g)
  obtain ⟨hgone, hrec, hgen⟩ := closeInstance_closes (acked s g) g.barrier 0 sample (joined i g)
  have hbar : getBarrier (acked s g) g.barrier = getBarrier s g.barrier := getBarrier_of_barriers (by rw [(acked_kept s g).1]) _
  rw [hbar] at hrec hgen
  refine ⟨_, makeRecord (getBarrier s g.barrier).gen 0 sample (joined i g), hexec, ?_, ?_, rfl, rfl, ?_⟩
  · rw [hkept.instances]; exact hgone
  · rw [hkept.records]; exact hrec
  · rw [getBarrier_of_barriers hkept.barriers]; exact hgen

/-! ## Withdrawal and timeout (R386, R388) -/

theorem withdraw_takesBack {s : State} {g : ArriveMsg} {i : Instance} (hup : isUp s = true) (hscope : ownScope s = some g.scope)
    (hi : tfind s.pack.instances g.barrier = some i) :
    ∃ t, exec (.withdraw g) s = .next t ∧ OnlyChanges [.pack] s t ∧
      ∀ j, tfind t.pack.instances g.barrier = some j → ∀ a ∈ j.arrived, ¬(a.fabric = g.fabric ∧ a.moon = g.moon) := by
  let l := i.arrived.filter fun a => !(a.fabric == g.fabric && a.moon == g.moon)
  have hexec : exec (.withdraw g) s = .next { s with pack := { s.pack with
      instances := if l.isEmpty then tdel s.pack.instances g.barrier else tset s.pack.instances g.barrier { i with arrived := l } } } := by
    show execWithdraw g s = _
    unfold execWithdraw
    rw [hi]
    exact if_neg (by simp [hup, hscope])
  have hframe : Fr (2 ^ 11) s { s with pack := { s.pack with
      instances := if l.isEmpty then tdel s.pack.instances g.barrier else tset s.pack.instances g.barrier { i with arrived := l } } } :=
    Fr.lit (Fr.refl _ _)
  refine ⟨_, hexec, Fr.only hframe rfl, fun j hj a ha => ?_⟩
  dsimp only at hj
  split at hj
  · rw [tfind_tdel_same] at hj
    cases hj
  · rw [tfind_tset_same] at hj
    obtain rfl := Option.some.inj hj
    have hkeep := (List.mem_filter.mp ha).2
    rintro ⟨h1, h2⟩
    simp [h1, h2] at hkeep

/-- The modules of an instance's members that have not arrived (R386). -/
def missingFrom (s : State) (b : Nat) (l : List ArriveMsg) : List Nat :=
  ((barrierPairs (getBarrier s b)).filter fun p => !l.any fun a => a.fabric == p.1 && a.moon == p.2).map Prod.fst

/-- One of them is SILENT (R386). -/
def silentMissing (s : State) (b : Nat) (l : List ArriveMsg) : Bool :=
  (missingFrom s b l).any fun f => match memberOf s f with | some e => (getMember s e).silent | none => false

/-- What every module that arrived learns of an instance that failed (R386). -/
def tellFailure (s : State) (k b code low : Nat) (l : List ArriveMsg) : State :=
  (arrivedModules l).foldl (fun s f =>
    if f = ownFabric s then
      settleArrivals s (fun a => a.scope == k && a.barrier == b && ((l.filter fun a => a.fabric == f).map ArriveMsg.moon).contains a.moon) code low
    else sendCtl s .barFail f ([k, b, code, low] ++ (l.filter fun a => a.fabric == f).map ArriveMsg.moon)) s

theorem execBarrierTimeout_due {s : State} {b k : Nat} {i : Instance} (hup : isUp s = true) (hscope : ownScope s = some k)
    (hi : tfind s.pack.instances b = some i) (hold : i.openedAt + barrierTimeoutNs s (getBarrier s b) ≤ s.orbit.refNs) :
    exec (.barrierTimeout b) s =
      .next (tellFailure (incB (closeInstance s b (if silentMissing s b i.arrived then 2 else 1) false i.arrived) 0xB051 0 1) k b
        (if silentMissing s b i.arrived then 0x0506 else 0x0505) (leastOf (missingFrom s b i.arrived) 0xFFFF) i.arrived) := by
  show execBarrierTimeout b s = _
  unfold execBarrierTimeout
  rw [hi, hscope]
  exact if_neg (by rw [hup, decide_eq_true hold]; decide)

theorem barrierTimeout_closes {s : State} {b k : Nat} {i : Instance} (hup : isUp s = true) (hscope : ownScope s = some k)
    (hi : tfind s.pack.instances b = some i) (hold : i.openedAt + barrierTimeoutNs s (getBarrier s b) ≤ s.orbit.refNs) :
    ∃ t c, exec (.barrierTimeout b) s = .next t ∧ tfind t.pack.instances b = none ∧ tfind t.pack.records b = some c ∧
      (c.result = 1 ∨ c.result = 2) ∧ (getBarrier t b).gen = (getBarrier s b).gen + 1 := by
  have hexec := execBarrierTimeout_due hup hscope hi hold
  generalize silentMissing s b i.arrived = silent at hexec
  have hkept : InstancesKept (closeInstance s b (if silent = true then 2 else 1) false i.arrived) _ :=
    instancesKept_trans (instancesKept_of_pack (incB_pack _ 0xB051 0 1))
      (instancesKept_tell (p := fun _ f a => a.scope == k && a.barrier == b &&
          ((i.arrived.filter fun a => a.fabric == f).map ArriveMsg.moon).contains a.moon) (k := .barFail)
        (c := if silent then 0x0506 else 0x0505) (d := leastOf (missingFrom s b i.arrived) 0xFFFF)
        (a := fun f => [k, b, if silent then 0x0506 else 0x0505, leastOf (missingFrom s b i.arrived) 0xFFFF] ++
          (i.arrived.filter fun a => a.fabric == f).map ArriveMsg.moon) (arrivedModules i.arrived) _)
  obtain ⟨hgone, hrec, hgen⟩ := closeInstance_closes s b (if silent = true then 2 else 1) false i.arrived
  refine ⟨_, _, hexec, ?_, (congrArg (tfind · b) hkept.records).trans hrec, ?_, ?_⟩
  · exact (congrArg (tfind · b) hkept.instances).trans hgone
  · show (if silent = true then 2 else 1) = 1 ∨ (if silent = true then 2 else 1) = 2
    split
    · exact .inr rfl
    · exact .inl rfl
  · exact (congrArg Barrier.gen (getBarrier_of_barriers hkept.barriers b)).trans hgen

/-! ## RELEASE at a moon, and a refused ARRIVE (R385, R390) -/

theorem findTask_putTask_ne {s : State} {t : Machine.Task} {m r : Nat} {q : W32} (h : ¬(t.moon = m ∧ t.ring = r ∧ t.seq = q)) :
    findTask (putTask s t) m r q = findTask s m r q := by
  unfold findTask putTask
  dsimp only
  generalize s.tasks.tasks = l
  induction l with
  | nil => rfl
  | cons a l ih =>
    rw [List.map_cons, List.find?_cons, List.find?_cons, ih]
    by_cases hk : (a.moon == t.moon && a.ring == t.ring && a.seq == t.seq) = true
    · rw [if_pos hk]
      simp only [Bool.and_eq_true, beq_iff_eq] at hk
      have hnot : (t.moon == m && t.ring == r && t.seq == q) = false := by
        rw [Bool.eq_false_iff]
        intro ht
        simp only [Bool.and_eq_true, beq_iff_eq] at ht
        exact h ⟨ht.1.1, ht.1.2, ht.2⟩
      have hnot' : (a.moon == m && a.ring == r && a.seq == q) = false := by rw [hk.1.1, hk.1.2, hk.2]; exact hnot
      rw [hnot, hnot']
    · rw [if_neg hk]

/-- A turn whose barrier failed starts no pipeline, and no task changes. -/
theorem finishTurn_failed_tasks (s : State) (m : Nat) : (finishTurn s m false).tasks = s.tasks := by
  have hlast : ∀ (u : State) n c, (endTurn u m n c).tasks = u.tasks := fun u n c => tasks_of_frame fr_endTurn rfl
  have hgate : ∀ (u : State) k, (gateSlot u m k false).tasks = u.tasks := fun u k => tasks_of_frame fr_gateSlot rfl
  unfold finishTurn
  dsimp only
  split
  · rfl
  · rw [hlast, incA_tasks, setParam_tasks]
    split
    · rfl
    · rw [hgate]
      rfl

/-- The task has been completed. -/
def Recorded (m r : Nat) (q : W32) (s : State) : Prop := ∃ v, findTask s m r q = some v ∧ v.phase = .recorded

theorem recorded_of_tasks {m r : Nat} {q : W32} {s t : State} (h : t.tasks = s.tasks) (g : Recorded m r q s) : Recorded m r q t := by
  obtain ⟨v, hv, hrec⟩ := g
  exact ⟨v, (findTask_of_taskList (by rw [h]) m r q).trans hv, hrec⟩

/-- An arrival that fails leaves a completed task. -/
theorem recorded_settleFailed {m r : Nat} {q : W32} {s : State} (e : Nat × Nat × W32 × ArriveMsg) {code : Nat} (hcode : code ≠ 0)
    (h : Recorded m r q s) : Recorded m r q (settleArrival s e code 0) := by
  let u : State := { s with pack := { s.pack with sent := s.pack.sent.filter fun x => !(x.1 == e.1 && x.2.1 == e.2.1 && x.2.2.1 == e.2.2.1) } }
  have hu : Recorded m r q u := recorded_of_tasks (s := s) rfl h
  show Recorded m r q (if e.2.1 = 33 then finishTurn u e.1 (code == 0)
    else match findTask u e.1 e.2.1 e.2.2.1 with
      | some t => if t.phase != .running then u else if code = 0 then completeTask u t else failTask u t code 0 0
      | none => u)
  split
  · rw [beq_eq_false_iff_ne.mpr hcode]
    exact recorded_of_tasks (finishTurn_failed_tasks u e.1) hu
  · split
    · rename_i t ht
      split
      · exact hu
      · rename_i hrun
        obtain ⟨v, hv, hrec⟩ := hu
        refine ⟨v, ?_, hrec⟩
        rw [findTask_of_taskList (failTask_taskList u t code 0 0), findTask_putTask_ne, hv]
        rintro ⟨rfl, rfl, rfl⟩
        obtain ⟨-, h1, h2, h3⟩ := mem_of_findTask ht
        rw [← h1, ← h2, ← h3] at ht
        obtain rfl := Option.some.inj (ht.symm.trans hv)
        rw [hrec] at hrun
        exact hrun rfl
    · exact hu

theorem recorded_sendWaiting {m r : Nat} {q : W32} {s : State} (n scope b : Nat) (h : Recorded m r q s) :
    Recorded m r q (sendWaiting s n scope b) := by
  have hstep : ∀ (u : State) (x : Nat × W32 × Nat), Recorded m r q u → Recorded m r q (if hasArrived u n scope b then u
      else match sendArrive u n x.1 x.2.1 scope b x.2.2 with
        | some t => t
        | none => settleArrival u (n, x.1, x.2.1, ⟨0, n, scope, b, 0, 0⟩) 0x0504 0) := by
    intro u x hu
    split
    · exact hu
    · split
      · rename_i t ht
        have htasks : t.tasks = u.tasks := tasks_of_frame (fr_sendArrive _ ht) rfl
        exact recorded_of_tasks htasks hu
      · exact recorded_settleFailed _ (by decide) hu
  unfold sendWaiting
  generalize waitingAt s n scope b = l
  induction l generalizing s with
  | nil => exact h
  | cons x l ih => exact ih (hstep s x h)

theorem barrierRelease_completes {s : State} {scope b m r : Nat} {q : W32} {a : ArriveMsg} {u : Machine.Task} (hup : isUp s = true)
    (hsent : s.pack.sent = [(m, r, q, a)]) (hring : r ≠ 33) (hscope : a.scope = scope) (hbar : a.barrier = b)
    (hu : findTask s m r q = some u) (hrun : u.phase = .running) :
    ∃ t, exec (.barrierRelease scope b) s = .next t ∧ phaseOf t m r q = some .recorded := by
  let v : State := { s with pack := { s.pack with sent := s.pack.sent.filter fun x => !(x.1 == m && x.2.1 == r && x.2.2.1 == q) } }
  have hsettle : settleArrival s (m, r, q, a) 0 0 = completeTask v u := by
    show (if r = 33 then finishTurn v m true
      else match findTask v m r q with
        | some t => if t.phase != .running then v else if 0 = 0 then completeTask v t else failTask v t 0 0 0
        | none => v) = _
    rw [if_neg hring, show findTask v m r q = some u from hu]
    show (if u.phase != .running then v else if 0 = 0 then completeTask v u else failTask v u 0 0 0) = _
    rw [hrun]
    rfl
  have hexec : exec (.barrierRelease scope b) s = .next (sendWaiting (completeTask v u) m scope b) := by
    show execBarrierRelease scope b s = _
    unfold execBarrierRelease whenUp settleArrivals
    rw [if_pos hup, hsent]
    simp [hscope, hbar, hsettle]
  obtain ⟨hmem, hm, hr, hq⟩ := mem_of_findTask hu
  have hrec : Recorded m r q (completeTask v u) := by
    refine ⟨finished v u, ?_, rfl⟩
    have hfind := findTask_completeTask (s := v) (t := u) hmem ⟨rfl, rfl, rfl⟩
    rw [hm, hr, hq] at hfind
    exact hfind
  obtain ⟨w, hfind, hphase⟩ := recorded_sendWaiting m scope b hrec
  exact ⟨_, hexec, by rw [phaseOf_of_find hfind, hphase]⟩

theorem arrive_refused {s : State} {g : ArriveMsg} (hup : isUp s = true) (hnone : (getBarrier s g.barrier).defn.valid = false)
    (haway : g.fabric ≠ ownFabric s) :
    ∃ t p, exec (.arrive g) s = .next t ∧ t.pack = s.pack ∧
      Out.control p .arriveRefused g.fabric [g.moon, g.scope, g.barrier, 0x0502, g.barrier] ∈ t.out := by
  have hexec : exec (.arrive g) s = .next (sendCtl s .arriveRefused g.fabric [g.moon, g.scope, g.barrier, 0x0502, g.barrier]) := by
    show execArrive g s = _
    unfold execArrive
    dsimp only
    rw [if_neg (by rw [hup]; decide), if_pos (.inr (by rw [hnone]; rfl))]
    unfold refuseArrive
    rw [if_neg haway]
  exact ⟨_, portTo s g.fabric, hexec, pack_of_frame fr_sendCtl rfl, (sendCtl_emits s .arriveRefused g.fabric _).1⟩

/-- Settles O44. -/
theorem barriersGatherAndRelease : Obligations.BarriersGatherAndRelease := by
  unfold Obligations.BarriersGatherAndRelease
  exact ⟨⟨fun s w b d hw => barrierDef_acts hw,
    fun s w b v hw hman hmoon hnew hold hnone hroom => barrierMove_adds hw hman hmoon hnew hold hnone hroom,
    fun s g i p hup hscope hvalid hmember hi hp hne hwait => arrive_joins hup hscope hvalid hmember hi hp hne hwait,
    fun s g i hup hscope hvalid hmember hi hlast => arrive_releases hup hscope hvalid hmember hi hlast,
    fun s g i hup hscope hi => withdraw_takesBack hup hscope hi,
    fun s b k i hup hscope hi hold => barrierTimeout_closes hup hscope hi hold⟩,
    fun s scope b m r q a u hup hsent hring hscope hbar hu hrun => barrierRelease_completes hup hsent hring hscope hbar hu hrun,
    fun s g hup hnone haway => arrive_refused hup hnone haway⟩

end Sys2Proof.Proofs
end

section
/-! Orbit from the pins and from PTP, and the choice of its source (R46, R47, R397 to R399, R404). -/
set_option Elab.async false

namespace Sys2Proof.Proofs
open Sys2Proof.Machine Sys2Proof.Laws

/-! ## Locks and HOLDOVER (R46, R47) -/

theorem onlyOrbit (s : State) (f : OrbitUnit → OrbitUnit) : OnlyChanges [.orbit] s (modOrbit s f) :=
  Fr.only (k := 2 ^ 1) (Fr.up fr_modOrbit rfl) rfl

theorem lockTo_locks (o : OrbitUnit) (v : Int) : (lockTo o v).state = .locked ∧ (lockTo o v).everLocked = true := by
  unfold lockTo
  split
  · rename_i h
    exact ⟨rfl, h⟩
  · exact ⟨rfl, rfl⟩

/-- The first lock steps the count to the source's value. -/
theorem lockTo_first {o : OrbitUnit} (h : o.everLocked = false) (v : Int) : (lockTo o v).now = ofSigned 64 v := by
  unfold lockTo
  rw [if_neg (by rw [h]; decide)]

/-- A later lock slews to it. -/
theorem lockTo_later {o : OrbitUnit} (h : o.everLocked = true) (v : Int) :
    lockTo o v = { o with state := .locked, slew := v - o.now, slewPhase := reslew o (v - o.now) } := by
  unfold lockTo
  exact if_pos h

theorem enterHoldover_locked {s : State} (h : s.orbit.state = .locked) :
    enterHoldover s = raisePf (modOrbit s fun o => { o with state := .holdover, slew := 0, slewPhase := 0 }) 0x0201 [] := by
  unfold enterHoldover
  exact if_neg (by rw [h]; decide)

theorem enterHoldover_state {s : State} (h : s.orbit.state = .locked) :
    (enterHoldover s).orbit = { s.orbit with state := .holdover, slew := 0, slewPhase := 0 } := by
  rw [enterHoldover_locked h, raisePf_orbit]
  rfl

theorem orbit_answer (s : State) (c : Nat) : (answer s c).orbit = s.orbit := orbit_of_frame fr_answer rfl

/-! ## PINS (R398) -/

theorem orbitPpsSeconds_acts {s : State} {w : Who} {v : Nat} (hw : writeStatus s w 0x2039 0 = 0) :
    (v ≤ 18446744073 → s.orbit.everLocked = false →
      ∃ t, exec (.orbitPpsSeconds w v) s = .next t ∧ t.dict.answer.status = 0 ∧ param t 0x2039 0 = v ∧ t.orbit.ppsArmed = true) ∧
    (18446744073 < v ∨ s.orbit.everLocked = true →
      ∃ t, exec (.orbitPpsSeconds w v) s = .next t ∧ t.dict.answer.status = 7 ∧ t.orbit = s.orbit) := by
  refine ⟨fun hv hnew => ?_, fun h => ?_⟩
  · have hact : writePps v s = .ok (modOrbit (setParam s 0x2039 0 v) fun o => { o with ppsArmed := true }) :=
      if_neg (not_or.mpr ⟨by omega, by rw [hnew]; decide⟩)
    have hexec : exec (.orbitPpsSeconds w v) s = _ := command_ok hw hact
    refine ⟨_, hexec, answer_status _ _, ?_, ?_⟩
    · rw [param_answer]
      exact param_setParam s 0x2039 0 v
    · rw [orbit_answer]
      rfl
  · have hact : writePps v s = .error 7 := if_pos h
    have hexec : exec (.orbitPpsSeconds w v) s = _ := command_error hw hact
    exact ⟨_, hexec, answer_status _ _, orbit_answer _ _⟩

/-- An accepted edge locks to its second. -/
theorem acceptEdge_orbit (s : State) (sec : Nat) : (acceptEdge s sec).orbit = { lockTo s.orbit ((1000000000 * sec : Nat) : Int) with
    edgeRef := s.orbit.refNs, edgeSec := sec, refExtra := 0, refCountAt := s.orbit.refNs } := rfl

theorem ofSigned_nat {w n : Nat} (h : n < 2 ^ w) : ofSigned w (n : Int) = n := by
  unfold ofSigned
  rw [← Int.natCast_emod, Int.toNat_natCast, Nat.mod_eq_of_lt h]

theorem ppsEdge_locks {s : State} (hup : isUp s = true) (hsrc : orbitSource s = 1) (hvalid : s.orbit.refValid = true)
    (hun : s.orbit.state = .unlocked) (harmed : s.orbit.ppsArmed = true) (hnew : s.orbit.everLocked = false)
    (hsec : param s 0x2039 0 ≤ 18446744073) :
    ∃ t, exec .ppsEdge s = .next t ∧ t.orbit.state = .locked ∧ t.orbit.now = 1000000000 * param s 0x2039 0 ∧
      t.orbit.edgeSec = param s 0x2039 0 ∧ t.orbit.everLocked = true ∧ OnlyChanges [.orbit] s t := by
  have hexec : exec .ppsEdge s = .next (acceptEdge s (param s 0x2039 0)) := by
    show execPpsEdge s = _
    unfold execPpsEdge
    dsimp only
    rw [if_neg (by simp [hup, hsrc]), if_neg (by rw [hvalid]; decide), hun]
    exact congrArg Host.Outcome.next (if_pos harmed)
  obtain ⟨hstate, hever⟩ := lockTo_locks s.orbit ((1000000000 * param s 0x2039 0 : Nat) : Int)
  have hnow := lockTo_first hnew ((1000000000 * param s 0x2039 0 : Nat) : Int)
  rw [ofSigned_nat (by omega)] at hnow
  refine ⟨_, hexec, ?_, ?_, ?_, ?_, onlyOrbit s _⟩
  · rw [acceptEdge_orbit]; exact hstate
  · rw [acceptEdge_orbit]; exact hnow
  · rw [acceptEdge_orbit]
  · rw [acceptEdge_orbit]; exact hever

theorem ppsEdge_follows {s : State} {n : Nat} (hup : isUp s = true) (hsrc : orbitSource s = 1) (hvalid : s.orbit.refValid = true)
    (hlock : s.orbit.state = .locked) (hever : s.orbit.everLocked = true) (hn : n = nearestSec (sinceEdge s.orbit))
    (hin : timeGap (sinceEdge s.orbit) (1000000000 * n) ≤ 1000) :
    ∃ t, exec .ppsEdge s = .next t ∧ t.orbit.state = .locked ∧ t.orbit.edgeSec = s.orbit.edgeSec + n ∧
      t.orbit.edgeRef = s.orbit.refNs ∧ t.orbit.now = s.orbit.now ∧ t.orbit.slew = 1000000000 * (s.orbit.edgeSec + n) - s.orbit.now := by
  have hexec : exec .ppsEdge s = .next (acceptEdge s (s.orbit.edgeSec + n)) := by
    subst hn
    show execPpsEdge s = _
    unfold execPpsEdge
    dsimp only
    rw [if_neg (by simp [hup, hsrc]), if_neg (by rw [hvalid]; decide), hlock]
    exact congrArg Host.Outcome.next (if_pos hin)
  refine ⟨_, hexec, ?_⟩
  rw [acceptEdge_orbit, lockTo_later hever]
  exact ⟨rfl, rfl, rfl, rfl, by rw [Int.natCast_mul, Int.natCast_add]; rfl⟩

theorem ppsEdge_rejected {s : State} (hup : isUp s = true) (hsrc : orbitSource s = 1) (hvalid : s.orbit.refValid = false) :
    ∃ t, exec .ppsEdge s = .next t ∧ t.orbit = s.orbit ∧ cntB t 0x203C 0 = Nat.min (cntB s 0x203C 0 + 1) 0xFFFFFFFF := by
  have hexec : exec .ppsEdge s = .next (rejectEdge s) := by
    show execPpsEdge s = _
    unfold execPpsEdge
    dsimp only
    rw [if_neg (by simp [hup, hsrc]), if_pos (by rw [hvalid]; rfl)]
  exact ⟨_, hexec, orbit_of_frame fr_rejectEdge rfl, cntB_incB s 0x203C 0 1⟩

theorem ref_acts {s : State} (ppb : Int) (hup : isUp s = true) (hsrc : orbitSource s = 1) :
    (ppb.natAbs ≤ 5000 → ∃ t, exec (.refWindow ppb) s = .next t ∧ t.orbit.refValid = (s.orbit.refValid || s.orbit.refWhole) ∧
      t.orbit.refWhole = true ∧ OnlyChanges [.orbit] s t) ∧
    (5000 < ppb.natAbs → ∃ t, exec (.refWindow ppb) s = .next t ∧ t.orbit.refValid = false ∧ OnlyChanges [.orbit] s t) ∧
    ∃ t, exec .refLoss s = .next t ∧ t.orbit.refValid = false ∧ t.orbit.refWhole = false ∧ OnlyChanges [.orbit] s t := by
  have hon : ¬(!isUp s || orbitSource s != 1) = true := by simp [hup, hsrc]
  refine ⟨fun hin => ?_, fun hout => ?_, ?_⟩
  · have hexec : exec (.refWindow ppb) s = _ := if_neg hon
    refine ⟨_, hexec, ?_, ?_, onlyOrbit s _⟩
    · show (if ppb.natAbs ≤ 5000 then _ else _ : OrbitUnit).refValid = _
      rw [if_pos hin]
      rfl
    · show (if ppb.natAbs ≤ 5000 then _ else _ : OrbitUnit).refWhole = _
      rw [if_pos hin]
  · have hexec : exec (.refWindow ppb) s = _ := if_neg hon
    refine ⟨_, hexec, ?_, onlyOrbit s _⟩
    show (if ppb.natAbs ≤ 5000 then _ else _ : OrbitUnit).refValid = _
    rw [if_neg (by omega)]
  · have hexec : exec .refLoss s = _ := if_neg hon
    exact ⟨_, hexec, rfl, rfl, onlyOrbit s _⟩

theorem ppsHoldover_holds {s : State} (hup : isUp s = true) (hsrc : orbitSource s = 1) (hlock : s.orbit.state = .locked)
    (hlost : (s.orbit.refValid = false ∧ s.orbit.refInvalidAt + 2000000000 ≤ s.orbit.refNs) ∨ 2000001000 ≤ sinceEdge s.orbit) :
    ∃ t, exec .ppsHoldover s = .next t ∧ t.orbit.state = .holdover ∧ t.orbit.now = s.orbit.now := by
  have hexec : exec .ppsHoldover s = .next (enterHoldover s) := by
    show execPpsHoldover s = _
    unfold execPpsHoldover
    refine if_pos ?_
    simp only [Bool.and_eq_true, Bool.or_eq_true, beq_iff_eq, decide_eq_true_eq, Bool.not_eq_true']
    exact ⟨⟨⟨hup, hsrc⟩, hlock⟩, hlost⟩
  refine ⟨_, hexec, ?_⟩
  rw [enterHoldover_state hlock]
  exact ⟨rfl, rfl⟩

/-! ## PTP (R399) -/

theorem ptpAnnounce_first {s : State} (n : Nat) (hup : isUp s = true) (hsrc : orbitSource s = 2) (hnone : s.orbit.ptpMaster = none) :
    ∃ t, exec (.ptpAnnounce (param s 0x203A 0) n) s = .next t ∧ t.orbit.ptpMaster = some n := by
  have hexec : exec (.ptpAnnounce (param s 0x203A 0) n) s = _ := if_neg (by simp [hup, hsrc])
  refine ⟨_, hexec, ?_⟩
  show (match s.orbit.ptpMaster with
    | none => { s.orbit with ptpMaster := some n, ptpRun := [] }
    | some d =>
      if d % 2 ^ 64 = n % 2 ^ 64 then { s.orbit with ptpMaster := some n }
      else if n < d then { s.orbit with ptpMaster := some n, ptpRun := [] } else s.orbit).ptpMaster = some n
  rw [hnone]

theorem ptpDelayResp_measures {s : State} {n t1 t2 t3 : Nat} (hup : isUp s = true) (hsrc : orbitSource s = 2)
    (hreq : s.orbit.ptpReq = some (t1, t2, t3)) :
    ∃ t, exec (.ptpDelayResp n) s = .next t ∧ t.orbit.ptpReq = none ∧
      t.orbit.ptpDelay = halfNs (((t2 : Int) - t1) + ((n : Int) - t3)) ∧ OnlyChanges [.orbit] s t := by
  have hexec : exec (.ptpDelayResp n) s =
      .next (modOrbit s fun o => { o with ptpReq := none, ptpDelay := halfNs (((t2 : Int) - t1) + ((n : Int) - t3)) }) := by
    show execPtpDelayResp n s = _
    unfold execPtpDelayResp
    rw [hreq]
    exact if_neg (by simp [hup, hsrc])
  exact ⟨_, hexec, rfl, rfl, onlyOrbit s _⟩

theorem ptpDelayResp_idle {s : State} {n : Nat} (hreq : s.orbit.ptpReq = none) : exec (.ptpDelayResp n) s = .next s := by
  show execPtpDelayResp n s = _
  unfold execPtpDelayResp
  rw [hreq]

/-- What a Sync of the master leaves of the orbit unit. -/
def afterSync (o : OrbitUnit) (a : Nat) : OrbitUnit :=
  let off : Int := (o.now : Int) - (a + o.ptpDelay)
  let run := (off :: o.ptpRun).take 16
  let o := { o with ptpRun := run, ptpAt := o.refNs, ptpReq := some (a, o.now, o.now) }
  if o.state = .locked then { o with slew := -off, slewPhase := reslew o (-off) }
  else if run.length = 16 ∧ spread run ≤ 1000 then { lockTo o (o.now - off) with ptpRun := [] }
  else o

theorem execPtpSync_master {s : State} {d m a : Nat} (hup : isUp s = true) (hsrc : orbitSource s = 2) (hmaster : s.orbit.ptpMaster = some d)
    (hsame : d % 2 ^ 64 = m % 2 ^ 64) :
    exec (.ptpSync m a) s = .next (modOrbit (emit s (.delayReq s.orbit.now)) fun o => afterSync o a) := by
  show execPtpSync m a s = _
  unfold execPtpSync
  refine if_neg ?_
  rw [hup, hsrc, hmaster, show Option.map (· % 2 ^ 64) (some d) = some (m % 2 ^ 64) from congrArg some hsame]
  simp

theorem ptpSync_slews {s : State} {d m a : Nat} (hup : isUp s = true) (hsrc : orbitSource s = 2) (hmaster : s.orbit.ptpMaster = some d)
    (hsame : d % 2 ^ 64 = m % 2 ^ 64) (hlock : s.orbit.state = .locked) :
    ∃ t, exec (.ptpSync m a) s = .next t ∧ t.orbit.state = .locked ∧ t.orbit.slew = (a : Int) + s.orbit.ptpDelay - s.orbit.now ∧
      t.orbit.ptpAt = s.orbit.refNs ∧ t.orbit.ptpReq = some (a, s.orbit.now, s.orbit.now) ∧ t.out = .delayReq s.orbit.now :: s.out := by
  refine ⟨_, execPtpSync_master hup hsrc hmaster hsame, ?_⟩
  have horbit : (modOrbit (emit s (.delayReq s.orbit.now)) fun o => afterSync o a).orbit = afterSync s.orbit a := rfl
  rw [horbit]
  unfold afterSync
  dsimp only
  rw [if_pos hlock]
  exact ⟨hlock, by dsimp only; omega, rfl, rfl, rfl⟩

theorem ptpSync_locks {s : State} {d m a : Nat} (hup : isUp s = true) (hsrc : orbitSource s = 2) (hmaster : s.orbit.ptpMaster = some d)
    (hsame : d % 2 ^ 64 = m % 2 ^ 64) (hopen : s.orbit.state ≠ .locked) (hlen : 15 ≤ s.orbit.ptpRun.length)
    (hspread : spread ((((s.orbit.now : Int) - ((a : Int) + s.orbit.ptpDelay)) :: s.orbit.ptpRun).take 16) ≤ 1000) :
    ∃ t, exec (.ptpSync m a) s = .next t ∧ t.orbit.state = .locked ∧ t.orbit.everLocked = true := by
  refine ⟨_, execPtpSync_master hup hsrc hmaster hsame, ?_⟩
  have horbit : (modOrbit (emit s (.delayReq s.orbit.now)) fun o => afterSync o a).orbit = afterSync s.orbit a := rfl
  have hfull : ((((s.orbit.now : Int) - ((a : Int) + s.orbit.ptpDelay)) :: s.orbit.ptpRun).take 16).length = 16 := by simp; omega
  rw [horbit]
  unfold afterSync
  dsimp only
  rw [if_neg hopen, if_pos ⟨hfull, hspread⟩]
  exact lockTo_locks _ _

theorem ptpSyncTimeout_holds {s : State} (hup : isUp s = true) (hsrc : orbitSource s = 2) (hlock : s.orbit.state = .locked)
    (hold : s.orbit.ptpAt + 5000000000 ≤ s.orbit.refNs) :
    ∃ t, exec .ptpSyncTimeout s = .next t ∧ t.orbit.state = .holdover ∧ t.orbit.ptpMaster = none := by
  have hexec : exec .ptpSyncTimeout s = .next (enterHoldover (modOrbit s fun o => { o with ptpRun := [], ptpMaster := none })) := by
    show execPtpSyncTimeout s = _
    unfold execPtpSyncTimeout
    refine (if_neg (by rw [hup, hsrc, decide_eq_true hold]; decide)).trans ?_
    exact congrArg Host.Outcome.next (if_pos hlock)
  refine ⟨_, hexec, ?_⟩
  rw [enterHoldover_state (s := modOrbit s fun o => { o with ptpRun := [], ptpMaster := none }) hlock]
  exact ⟨rfl, rfl⟩

/-! ## The choice of source (R404) -/

theorem orbitSource_acts {s : State} {w : Who} {v : Nat} (hw : writeStatus s w 0x2032 0 = 0) :
    (v ≤ 2 → v ≠ orbitSource s → ∃ t, exec (.orbitSource w v) s = .next t ∧ t.dict.answer.status = 0 ∧ orbitSource t = v ∧
      (s.orbit.state = .locked → t.orbit.state = .holdover) ∧ (s.orbit.state ≠ .locked → t.orbit.state = s.orbit.state)) ∧
    (2 < v → ∃ t, exec (.orbitSource w v) s = .next t ∧ t.dict.answer.status = 7 ∧ t.orbit = s.orbit) := by
  refine ⟨fun hv hnew => ?_, fun hv => ?_⟩
  · let u := modOrbit (setParamJ s 0x2032 0 v) fun o => { o with
      sourceAt := o.refNs, run := [], heard := [], missRun := 0, ptpRun := [], ptpMaster := none, ptpAt := o.refNs, beaconAt := o.refNs
      divergedAt := none, upstream := false, ptpReq := none, refValid := false, refWhole := true, refInvalidAt := o.refNs }
    have hact : writeSource v s = .ok (if u.orbit.state = .locked then enterHoldover u else u) := by
      unfold writeSource
      rw [if_neg (by omega), if_neg hnew]
    have hexec : exec (.orbitSource w v) s = _ := command_ok hw hact
    have hsrc : param u 0x2032 0 = v := param_setParamJ (s := s) (p := 0x2032) (e := 0) (v := v) (by decide)
    have hkept : (setParamJ s 0x2032 0 v).orbit = s.orbit := orbit_of_frame fr_setParamJ rfl
    have hstate : u.orbit.state = s.orbit.state := by
      show (setParamJ s 0x2032 0 v).orbit.state = _
      rw [hkept]
    refine ⟨_, hexec, answer_status _ _, ?_, fun hlock => ?_, fun hopen => ?_⟩
    · unfold orbitSource
      rw [param_answer]
      split
      · rename_i hlock
        rw [enterHoldover_locked hlock, param_of_dict (raisePf_dict _ _ _)]
        exact hsrc
      · exact hsrc
    · have hul : u.orbit.state = .locked := hstate.trans hlock
      rw [orbit_answer, if_pos hul, enterHoldover_state hul]
    · rw [orbit_answer, if_neg (fun h => hopen (hstate.symm.trans h))]
      exact hstate
  · have hact : writeSource v s = .error 7 := if_pos hv
    have hexec : exec (.orbitSource w v) s = _ := command_error hw hact
    exact ⟨_, hexec, answer_status _ _, orbit_answer _ _⟩

/-- Settles O45. -/
theorem orbitFollowsPinsAndPtp : Obligations.OrbitFollowsPinsAndPtp := by
  unfold Obligations.OrbitFollowsPinsAndPtp
  refine ⟨⟨fun s w v hw => orbitPpsSeconds_acts hw, fun s hup hsrc => ⟨ppsEdge_locks hup hsrc, fun n => ppsEdge_follows hup hsrc, ppsEdge_rejected hup hsrc⟩,
    fun s ppb hup hsrc => ref_acts ppb hup hsrc, fun s hup hsrc hlock hlost => ppsHoldover_holds hup hsrc hlock hlost⟩,
    fun s n hup hsrc => ⟨ptpAnnounce_first n hup hsrc, fun t1 t2 t3 hreq => ptpDelayResp_measures hup hsrc hreq, ptpDelayResp_idle, fun d hd => ?_⟩,
    fun s d m a hup hsrc hmaster hsame => ⟨ptpSync_slews hup hsrc hmaster hsame, ptpSync_locks hup hsrc hmaster hsame⟩,
    fun s hup hsrc hlock hold => ptpSyncTimeout_holds hup hsrc hlock hold, fun s w v hw => orbitSource_acts hw⟩
  exact if_pos (by simp [hd])

end Sys2Proof.Proofs
end

section
/-! Orbit over the links: BEACONs sent and heard, their absence, and the measurement of path delays (R400 to R402). -/
set_option Elab.async false

namespace Sys2Proof.Proofs
open Sys2Proof.Machine Sys2Proof.Laws

/-! ## CONTROL flits on the orbit ports (R372, R400) -/

theorem sendOn_up {s : State} {p : Nat} (k : CtlKind) (l : List Nat) (b : Bytes) (hp : p < 32) (hup : (getPort s p).phase = .up)
    (hsxl : (getPort s p).sxl1 = false) : ∃ d, Out.control p k d l ∈ (sendOn s p k l b).out := by
  refine ⟨((getPort s p).partner.map Partner.fabric).getD 0xFFFF, ?_⟩
  unfold sendOn
  dsimp only
  rw [if_pos ⟨hp, hup, by rw [hsxl]; rfl⟩]
  exact (suffix_out_offer (List.suffix_refl _) p 5 _).subset List.mem_cons_self

theorem suffix_out_sendOn {l : List Out} {s : State} (h : l <:+ s.out) (p : Nat) (k : CtlKind) (a : List Nat) (b : Bytes) :
    l <:+ (sendOn s p k a b).out := by
  unfold sendOn
  dsimp only
  split
  · exact suffix_out_offer (h.trans (List.suffix_cons _ _)) p 5 _
  · exact h

theorem sameLines_sendOn (s : State) (p : Nat) (k : CtlKind) (a : List Nat) (b : Bytes) : SameLines s (sendOn s p k a b) := by
  unfold sendOn
  dsimp only
  split
  · exact sameLines_trans (sameLines_emit (sameLines_refl s) _) (sameLines_offer _ p 5 _)
  · exact sameLines_refl s

theorem usable_of_sameLines {s t : State} (h : SameLines s t) (p : Nat) :
    (getPort t p).phase = (getPort s p).phase ∧ (getPort t p).sxl1 = (getPort s p).sxl1 :=
  ⟨(congrArg Port.phase (h.lines p) :), (congrArg Port.sxl1 (h.lines p) :)⟩

theorem orbit_sendOn (s : State) (p : Nat) (k : CtlKind) (a : List Nat) (b : Bytes) : (sendOn s p k a b).orbit = s.orbit :=
  orbit_of_frame fr_sendOn rfl

/-- One flit for each port of a list, with arguments from the orbit unit: every UP SXL2 port among them sends its own. -/
theorem sendOn_foldl {k : CtlKind} (l : OrbitUnit → List Nat) (b : OrbitUnit → Bytes) (ports : List Nat) (s : State) :
    (ports.foldl (fun s p => sendOn s p k (l s.orbit) (b s.orbit)) s).orbit = s.orbit ∧
    ∀ p ∈ ports, p < 32 → (getPort s p).phase = .up → (getPort s p).sxl1 = false →
      ∃ d, Out.control p k d (l s.orbit) ∈ (ports.foldl (fun s p => sendOn s p k (l s.orbit) (b s.orbit)) s).out := by
  induction ports generalizing s with
  | nil => exact ⟨rfl, fun p hp => absurd hp List.not_mem_nil⟩
  | cons q qs ih =>
    have hkept := orbit_sendOn s q k (l s.orbit) (b s.orbit)
    obtain ⟨horbit, hsent⟩ := ih (sendOn s q k (l s.orbit) (b s.orbit))
    refine ⟨horbit.trans hkept, fun p hp h32 hup hsxl => ?_⟩
    rcases List.mem_cons.mp hp with rfl | hp
    · obtain ⟨d, hd⟩ := sendOn_up k (l s.orbit) (b s.orbit) h32 hup hsxl
      refine ⟨d, ?_⟩
      exact (suffix_out_foldl (fun s x hs => suffix_out_sendOn hs x k (l s.orbit) (b s.orbit)) qs _ (List.suffix_refl _)).subset hd
    · obtain ⟨hphase, hkind⟩ := usable_of_sameLines (sameLines_sendOn s q k (l s.orbit) (b s.orbit)) p
      obtain ⟨d, hd⟩ := hsent p hp h32 (hphase.trans hup) (hkind.trans hsxl)
      rw [hkept] at hd
      exact ⟨d, hd⟩

theorem mem_bitsOf_lt {v n p : Nat} (h : p ∈ bitsOf v n) : p < n := by
  unfold bitsOf at h
  exact List.mem_range.mp (List.mem_filter.mp h).1

theorem beaconSend_sends {s : State} (hup : isUp s = true) (hlock : s.orbit.state ≠ .unlocked)
    (hdue : s.orbit.beaconSentAt + 10000 ≤ s.orbit.refNs) :
    ∃ t, exec .beaconSend s = .next t ∧ t.orbit.beaconSeq = s.orbit.beaconSeq + 1 ∧ t.orbit.beaconSentAt = s.orbit.refNs ∧
      ∀ p ∈ bitsOf (param s 0x2035 0) 32, (getPort s p).phase = .up → (getPort s p).sxl1 = false →
        ∃ d l, Out.control p .beacon d (s.orbit.now :: l) ∈ t.out := by
  have hexec : exec .beaconSend s = _ := if_neg (by simp [hup, hlock, hdue])
  obtain ⟨horbit, hsent⟩ := sendOn_foldl (k := .beacon)
    (fun _ => [(ownBeacon s).orbit, (ownBeacon s).seq.toNat, (ownBeacon s).state, (ownBeacon s).hop, (ownBeacon s).lead])
    (fun _ => beaconBytes (ownBeacon s)) (bitsOf (param s 0x2035 0) 32) s
  refine ⟨_, hexec, ?_, ?_, fun p hp hphase hsxl => ?_⟩
  · exact congrArg (fun o : OrbitUnit => o.beaconSeq + 1) horbit
  · exact congrArg (fun o : OrbitUnit => o.refNs) horbit
  · obtain ⟨d, hd⟩ := hsent p hp (mem_bitsOf_lt hp) hphase hsxl
    exact ⟨d, _, hd⟩

/-! ## BEACONs heard (R400 to R402) -/

/-- ORBIT_DIVERGED aside, the orbit unit stays. -/
theorem checkDiverged_orbit (s : State) : ∃ d, (checkDiverged s).orbit = { s.orbit with diverged := d } := by
  unfold checkDiverged
  split
  · exact ⟨_, rfl⟩
  · split
    · exact ⟨_, rfl⟩
    · refine ⟨true, ?_⟩
      rw [raisePf_orbit]
      rfl

theorem follow_orbit (s : State) (th : Int) : ∃ d a, (follow s th).orbit = { s.orbit with diverged := d, divergedAt := a } := by
  unfold follow
  obtain ⟨d, hd⟩ := checkDiverged_orbit (modOrbit s fun o => { o with
    divergedAt := if th.natAbs ≤ 1000 then none else match o.divergedAt with | some t => some t | none => some o.refNs })
  exact ⟨d, _, hd⟩

theorem dict_follow (s : State) (th : Int) : (follow s th).dict = s.dict := dict_of_frame fr_follow rfl

/-- The offset of a BEACON that a port hears (R401). -/
def beaconOffset (s : State) (p : Nat) (b : BeaconMsg) : Int := (s.orbit.now : Int) - ((b.orbit : Int) + pathDelay s p)

/-- The run of offsets of a port with that of the BEACON that it hears now (R401). -/
def beaconRun (s : State) (p : Nat) (b : BeaconMsg) : List Int :=
  (beaconOffset s p b :: if (match tfind s.orbit.heard p with | some (q, _) => b.seq == q + 1 | none => false) then tget s.orbit.run [] p else []).take 16

/-- What every BEACON heard leaves, before it is followed (R400 to R402). -/
def heardBeacon (s : State) (p : Nat) (b : BeaconMsg) : State :=
  modOrbit (takeBeacon s b (beaconOffset s p b)) fun o =>
    { o with run := tset o.run p (beaconRun s p b), heard := tset o.heard p (b.seq, o.refNs), beaconAt := o.refNs }

/-- Only ORBIT_HOP and ORBIT_OFFSET of the dictionary move. -/
theorem heardBeacon_dict (s : State) (p : Nat) (b : BeaconMsg) :
    ∃ v, (heardBeacon s p b).dict = (setParam (setParam s 0x2038 0 (b.hop + 1)) 0x2036 0 v).dict := ⟨_, rfl⟩

theorem heardBeacon_hop (s : State) (p : Nat) (b : BeaconMsg) : param (heardBeacon s p b) 0x2038 0 = b.hop + 1 := by
  obtain ⟨v, hv⟩ := heardBeacon_dict s p b
  rw [param_of_dict hv, param_setParam_ne (by decide), param_setParam]

theorem heardBeacon_port (s : State) (p : Nat) (b : BeaconMsg) (alt : Bool) : orbitPortOf (heardBeacon s p b) alt = orbitPortOf s alt := by
  obtain ⟨v, hv⟩ := heardBeacon_dict s p b
  unfold orbitPortOf
  cases alt
  · rw [param_of_dict hv, param_setParam_ne (by decide), param_setParam_ne (by decide)]
  · rw [param_of_dict hv, param_setParam_ne (by decide), param_setParam_ne (by decide)]

/-- What follows a BEACON heard, by the state of orbit (R401, R402). -/
def followBeacon (s : State) (p : Nat) (th : Int) (run : List Int) (isAlt : Bool) : Res :=
  match s.orbit.state with
  | .unlocked =>
    if (tget s.orbit.delays [] p).isEmpty || decide (run.length < 8) || decide (20 < spread (run.take 8)) then .next s
    else .next (follow (modOrbit (usePort s isAlt) fun o => lockTo o (o.now - th)) th)
  | .holdover => .next (follow (modOrbit (usePort s isAlt) fun o => lockTo o (o.now - th)) th)
  | .locked =>
    let s := if s.orbit.onAlt && !isAlt && run.length == 16 then usePort s false else s
    if p ≠ portInUse s then .next s
    else .next (follow (modOrbit s fun o => { o with slew := -th, slewPhase := reslew o (-th), missRun := 0 }) th)

theorem execBeacon_main {s : State} {p : Nat} {b : BeaconMsg} (hup : isUp s = true) (hsrc : orbitSource s = 0)
    (hp : p = orbitPortOf s false) (hhop : b.hop < 8) :
    exec (.beacon p b) s = followBeacon (heardBeacon s p b) p (beaconOffset s p b) (beaconRun s p b) false := by
  rw [show false = (p != orbitPortOf s false) by simp [hp]]
  exact if_neg (by simp [hup, hsrc, hp, hhop])

theorem beacon_slews {s : State} {p : Nat} {b : BeaconMsg} (hup : isUp s = true) (hsrc : orbitSource s = 0)
    (hp : p = orbitPortOf s false) (hhop : b.hop < 8) (hlock : s.orbit.state = .locked) (halt : s.orbit.onAlt = false) :
    ∃ t, exec (.beacon p b) s = .next t ∧ t.orbit.state = .locked ∧ t.orbit.slew = b.orbit + pathDelay s p - s.orbit.now ∧
      param t 0x2038 0 = b.hop + 1 ∧ t.orbit.beaconAt = s.orbit.refNs ∧ t.orbit.missRun = 0 := by
  have hl : (heardBeacon s p b).orbit.state = .locked := hlock
  have ha : (heardBeacon s p b).orbit.onAlt = false := halt
  have hinuse : p = portInUse (heardBeacon s p b) := by
    unfold portInUse
    rw [heardBeacon_port, ha, hp]
  have hhop' := heardBeacon_hop s p b
  have hat : (heardBeacon s p b).orbit.beaconAt = s.orbit.refNs := rfl
  have hoff : -beaconOffset s p b = b.orbit + pathDelay s p - s.orbit.now := by unfold beaconOffset; omega
  rw [execBeacon_main hup hsrc hp hhop]
  unfold followBeacon
  rw [hl]
  dsimp only
  have hkeep : (if ((heardBeacon s p b).orbit.onAlt && !false && (beaconRun s p b).length == 16) = true then usePort (heardBeacon s p b) false
      else heardBeacon s p b) = heardBeacon s p b := if_neg (by rw [ha]; simp)
  rw [hkeep, if_neg (not_not_intro hinuse)]
  generalize heardBeacon s p b = u at hl hhop' hat
  obtain ⟨d, a, horbit⟩ := follow_orbit (modOrbit u fun o =>
    { o with slew := -beaconOffset s p b, slewPhase := reslew o (-beaconOffset s p b), missRun := 0 }) (beaconOffset s p b)
  refine ⟨_, rfl, ?_, ?_, (param_of_dict (dict_follow _ _) 0x2038 0).trans hhop', ?_, ?_⟩
  · rw [horbit]; exact hl
  · rw [horbit]; exact hoff
  · rw [horbit]; exact hat
  · rw [horbit]; rfl

theorem beacon_locks {s : State} {p : Nat} {b : BeaconMsg} (hup : isUp s = true) (hsrc : orbitSource s = 0)
    (hp : p = orbitPortOf s false) (hhop : b.hop < 8) (hopen : s.orbit.state = .unlocked) (hdelay : tget s.orbit.delays [] p ≠ [])
    (hnext : ∃ q a, tfind s.orbit.heard p = some (q, a) ∧ b.seq = q + 1) (hlen : 7 ≤ (tget s.orbit.run [] p).length)
    (hspread : spread ((beaconOffset s p b :: tget s.orbit.run [] p).take 8) ≤ 20) :
    ∃ t, exec (.beacon p b) s = .next t ∧ t.orbit.state = .locked ∧ t.orbit.everLocked = true := by
  obtain ⟨q, a, hheard, hseq⟩ := hnext
  have hrun : beaconRun s p b = (beaconOffset s p b :: tget s.orbit.run [] p).take 16 := by
    unfold beaconRun
    rw [hheard]
    dsimp only
    rw [if_pos (by rw [hseq]; exact beq_self_eq_true _)]
  have hlong : ¬(beaconRun s p b).length < 8 := by rw [hrun, List.length_take, List.length_cons]; omega
  have hnear : ¬20 < spread ((beaconRun s p b).take 8) := by
    rw [hrun, List.take_take]
    exact Nat.not_lt.mpr hspread
  have hu : (heardBeacon s p b).orbit.state = .unlocked := hopen
  have hd : ¬(tget (heardBeacon s p b).orbit.delays [] p).isEmpty = true := by
    rw [List.isEmpty_iff]
    exact hdelay
  rw [execBeacon_main hup hsrc hp hhop]
  unfold followBeacon
  rw [hu]
  dsimp only
  rw [if_neg (by simp [hd, hlong, hnear])]
  generalize usePort (heardBeacon s p b) false = u
  obtain ⟨d, a', horbit⟩ := follow_orbit (modOrbit u fun o => lockTo o (o.now - beaconOffset s p b)) (beaconOffset s p b)
  refine ⟨_, rfl, ?_⟩
  rw [horbit]
  exact lockTo_locks u.orbit _

theorem beacon_tooFar {s : State} {p : Nat} {b : BeaconMsg} (hhop : 8 ≤ b.hop) : exec (.beacon p b) s = .next s :=
  if_pos (by simp [hhop])

/-! ## BEACONs missing (R402) -/

theorem stat_usePort (s : State) (alt : Bool) : (usePort s alt).stat = s.stat := stat_of_frame fr_usePort rfl

/-- A missing BEACON counted, before its consequences. -/
def missBeacon (s : State) : State :=
  modOrbit (if portInUse s = 0xFF then s else incB s 0x203B 0 1) fun o =>
    { o with missRun := o.missRun + 1, run := tdel o.run (portInUse s), beaconMissAt := o.refNs }

theorem missBeacon_counts {s : State} (h : portInUse s ≠ 0xFF) : cntB (missBeacon s) 0x203B 0 = Nat.min (cntB s 0x203B 0 + 1) 0xFFFFFFFF := by
  unfold missBeacon
  rw [if_neg h]
  exact cntB_incB s 0x203B 0 1

theorem missBeacon_orbit (s : State) : (missBeacon s).orbit =
    { s.orbit with missRun := s.orbit.missRun + 1, run := tdel s.orbit.run (portInUse s), beaconMissAt := s.orbit.refNs } := by
  unfold missBeacon
  split
  · rfl
  · have horbit : (incB s 0x203B 0 1).orbit = s.orbit := orbit_of_frame fr_incB rfl
    exact congrArg (fun o : OrbitUnit =>
      { o with missRun := o.missRun + 1, run := tdel o.run (portInUse s), beaconMissAt := o.refNs }) horbit

/-- What follows a miss: the other port while it delivers, and DIVERGED. -/
def afterMiss (s : State) : State := checkDiverged (if 3 ≤ s.orbit.missRun ∧ otherDelivers s then usePort s (!s.orbit.onAlt) else s)

theorem afterMiss_kept (s : State) : (afterMiss s).stat = s.stat ∧ (afterMiss s).orbit.state = s.orbit.state ∧
    (afterMiss s).orbit.beaconAt = s.orbit.beaconAt ∧ (afterMiss s).orbit.refNs = s.orbit.refNs := by
  unfold afterMiss
  have hstat : ∀ u : State, (checkDiverged u).stat = u.stat := fun u => stat_of_frame fr_checkDiverged rfl
  rw [hstat]
  obtain ⟨d, hd⟩ := checkDiverged_orbit (if 3 ≤ s.orbit.missRun ∧ otherDelivers s then usePort s (!s.orbit.onAlt) else s)
  rw [hd]
  split
  · exact ⟨stat_usePort s _, rfl, rfl, rfl⟩
  · exact ⟨rfl, rfl, rfl, rfl⟩

theorem beaconTimeout_counts {s : State} (hup : isUp s = true) (hsrc : orbitSource s = 0) (hmiss : beaconMissing s = true) :
    ∃ t, exec .beaconTimeout s = .next t ∧ (portInUse s ≠ 0xFF → cntB t 0x203B 0 = Nat.min (cntB s 0x203B 0 + 1) 0xFFFFFFFF) ∧
      (s.orbit.state = .locked → s.orbit.beaconAt + 100000 ≤ s.orbit.refNs → t.orbit.state = .holdover) ∧
      (s.orbit.refNs < s.orbit.beaconAt + 100000 → t.orbit.state = s.orbit.state) := by
  let u := afterMiss (missBeacon s)
  have hexec : exec .beaconTimeout s = .next (if u.orbit.state = .locked ∧ u.orbit.beaconAt + 100000 ≤ u.orbit.refNs then enterHoldover u else u) :=
    if_neg (by simp [hup, hsrc, hmiss])
  obtain ⟨hstat, hstate, hat, href⟩ := afterMiss_kept (missBeacon s)
  rw [missBeacon_orbit] at hstate hat href
  have hcount : portInUse s ≠ 0xFF → cntB u 0x203B 0 = Nat.min (cntB s 0x203B 0 + 1) 0xFFFFFFFF := fun h =>
    (cntB_of_stat hstat 0x203B 0).trans (missBeacon_counts h)
  refine ⟨_, hexec, fun h => ?_, fun hlock hlate => ?_, fun hsoon => ?_⟩
  · have hkept : (enterHoldover u).stat = u.stat := stat_of_frame fr_enterHoldover rfl
    split
    · exact (cntB_of_stat hkept 0x203B 0).trans (hcount h)
    · exact hcount h
  · have hul : u.orbit.state = .locked := hstate.trans hlock
    rw [if_pos ⟨hul, by rw [hat, href]; exact hlate⟩, enterHoldover_state hul]
  · rw [if_neg (fun h => by rw [hat, href] at h; exact absurd h.2 (Nat.not_le.mpr hsoon))]
    exact hstate

/-! ## Path delays (R401) -/

theorem delayReqSend_sends {s : State} {p : Nat} (hup : isUp s = true) (hp : p < 32) (hphase : (getPort s p).phase = .up)
    (hsxl : (getPort s p).sxl1 = false) (hsrc : orbitSource s = 0) (huse : p = orbitPortOf s false ∨ p = orbitPortOf s true)
    (hdue : s.orbit.delayReqAt + 1000000 ≤ s.orbit.refNs) :
    ∃ t d, exec .delayReqSend s = .next t ∧ Out.control p .delayReq d [s.orbit.now] ∈ t.out ∧ t.orbit.delayReqAt = s.orbit.refNs ∧
      OnlyChanges [.orbit, .links, .out] s t := by
  let u := modOrbit s fun o => { o with delayReqAt := o.refNs }
  obtain ⟨horbit, hsent⟩ := sendOn_foldl (k := .delayReq) (fun o => [o.now]) (fun o => leBytes 8 o.now)
    (addNum (addNum [] (orbitPortOf u false)) (orbitPortOf u true)) u
  have hexec : exec .delayReqSend s = _ := if_neg (by simp [hup, hsrc, hdue])
  obtain ⟨d, hd⟩ := hsent p (by rw [mem_addNum, mem_addNum]; exact huse.symm.imp_right .inl) hp hphase hsxl
  refine ⟨_, d, hexec, hd, congrArg OrbitUnit.delayReqAt horbit, ?_⟩
  exact Fr.only (k := 525314) (fr_foldl (Fr.up fr_modOrbit rfl) fun v x h => Fr.call fr_sendOn rfl h) rfl

theorem delayReq_answered {s : State} {p : Nat} (a : Nat) (hup : isUp s = true) (hp : p < 32) (hphase : (getPort s p).phase = .up)
    (hsxl : (getPort s p).sxl1 = false) :
    ∃ t d, exec (.delayReq p a) s = .next t ∧ Out.control p .delayResp d [a, s.orbit.now, s.orbit.now] ∈ t.out ∧
      OnlyChanges [.links, .out] s t := by
  have hexec : exec (.delayReq p a) s = _ := if_neg (by simp [hup])
  obtain ⟨d, hd⟩ := sendOn_up .delayResp [a, s.orbit.now, s.orbit.now] (leBytes 8 a ++ leBytes 8 s.orbit.now ++ leBytes 8 s.orbit.now) hp hphase hsxl
  exact ⟨_, d, hexec, hd, Fr.only (k := 525312) fr_sendOn rfl⟩

theorem delayResp_measures {s : State} {p : Nat} (t1 t2 t3 t4 : Nat) (hup : isUp s = true) (hsrc : orbitSource s = 0)
    (huse : p = orbitPortOf s false ∨ p = orbitPortOf s true) :
    ∃ t, exec (.delayResp p t1 t2 t3 t4) s = .next t ∧
      tget t.orbit.delays [] p = ((((t4 : Int) - t1) - ((t3 : Int) - t2)) :: tget s.orbit.delays [] p).take 16 := by
  let u := modOrbit s fun o =>
    { o with delays := tset o.delays p (((((t4 : Int) - t1) - ((t3 : Int) - t2)) :: tget o.delays [] p).take 16) }
  have hexec : exec (.delayResp p t1 t2 t3 t4) s = .next (if p = portInUse u then setParam u 0x2037 0 (pathDelay u p).toNat else u) :=
    if_neg (by rcases huse with h | h <;> simp [hup, hsrc, ← h])
  have hset : tget u.orbit.delays [] p = ((((t4 : Int) - t1) - ((t3 : Int) - t2)) :: tget s.orbit.delays [] p).take 16 :=
    tget_tset_same _ _ _ _
  refine ⟨_, hexec, ?_⟩
  split
  · exact hset
  · exact hset

/-- Settles O46. -/
theorem beaconsDistributeOrbit : Obligations.BeaconsDistributeOrbit := by
  unfold Obligations.BeaconsDistributeOrbit
  refine ⟨fun s => beaconSend_sends, fun s p b hup hsrc hp => ⟨fun hhop hlock halt => beacon_slews hup hsrc hp hhop hlock halt,
    fun hhop hopen hdelay hnext hlen hspread => beacon_locks hup hsrc hp hhop hopen hdelay hnext hlen hspread, beacon_tooFar⟩,
    fun s => beaconTimeout_counts, fun s p hup hp hphase hsxl => ⟨delayReqSend_sends hup hp hphase hsxl, fun a => delayReq_answered a hup hp hphase hsxl⟩,
    fun s p t1 t2 t3 t4 => delayResp_measures t1 t2 t3 t4⟩

end Sys2Proof.Proofs
end

section
/-! What failing tasks and fetches, retiring pages and draining rings leave of the endpoint: events alone reach it (R421, R422). -/
set_option Elab.async false

namespace Sys2Proof.Proofs
open Sys2Proof.Machine Sys2Proof.Laws

theorem eventHost_of_host {p : HostUnit} {s t : State} (h : EventHost p s.host) (g : t.host = s.host) : EventHost p t.host := g ▸ h

theorem eventHost_foldl {α : Type} {f : State → α → State} {p : HostUnit} (hf : ∀ s x, EventHost p s.host → EventHost p (f s x).host)
    (l : List α) (s : State) (h : EventHost p s.host) : EventHost p (l.foldl f s).host := by
  induction l generalizing s with
  | nil => exact h
  | cons a l ih => exact ih _ (hf s a h)

section Events
variable {p : HostUnit} {s : State} (h : EventHost p s.host)
include h

theorem eventHost_ringVector (m r : Nat) (a : Bool) : EventHost p (ringVector s m r a).host := by
  unfold ringVector
  dsimp only
  split
  · exact eventHost_sendMsix h _ _
  · exact eventHost_sendMsix h _ _

/-! ## Pages that retire and rows that fail -/

theorem eventHost_retirePage (key : Nat) : EventHost p (retirePage s key).host := by
  have hpage : EventHost p (setPage s key ⟨.retired, 0⟩).host := h
  unfold retirePage
  dsimp only
  split
  · exact eventHost_setSvc (eventHost_jMust (eventHost_incA hpage _ _ _) _) 1
  · exact eventHost_jMust (eventHost_incA hpage _ _ _) _

theorem eventHost_freePage (key : Nat) : EventHost p (freePage s key).host := by
  unfold freePage
  split
  · exact eventHost_retirePage (by exact h) key
  · exact h

theorem eventHost_retirePrivate (stack i : Nat) : EventHost p (retirePrivate s stack i).host := by
  unfold retirePrivate
  split
  · exact h
  · exact eventHost_retirePage (by exact h) _

theorem eventHost_beginRetire (key : Nat) : EventHost p (beginRetire s key).host := by
  unfold beginRetire
  dsimp only
  split
  · exact eventHost_retirePrivate h _ _
  · split
    · exact h
    · split
      · exact eventHost_retirePage h key
      · exact h

theorem eventHost_failRow (k key : Nat) : EventHost p (failRow s k key).host := by
  unfold failRow
  dsimp only
  split
  · exact h
  · split
    · exact eventHost_beginRetire (by exact h) key
    · exact h

theorem eventHost_countUe (m code ma : Nat) : EventHost p (countUe s m code ma).host := by
  unfold countUe
  split
  · exact h
  · split
    · exact eventHost_incB h _ _ _
    · split
      · exact eventHost_incB h _ _ _
      · split
        · exact eventHost_incB h _ _ _
        · exact eventHost_failRow (eventHost_incB h _ _ _) _ _
      · exact h

/-! ## Tasks and fetches that fail -/

theorem eventHost_failTask (t : Machine.Task) (code ma detail : Nat) : EventHost p (failTask s t code ma detail).host := by
  have hcount := eventHost_countUe h t.moon code ma
  unfold failTask
  dsimp only
  split
  · exact hcount
  · exact hcount

theorem eventHost_failMove {s0 : State} (h0 : EventHost p s0.host) (t : Machine.Task) (b : Bad) : EventHost p (failMove s0 s t b).host := by
  unfold failMove
  split
  · exact h0
  · have hfail := eventHost_failTask h t b.code b.ma b.detail
    have hclose : (cometClose (failTask s t b.code b.ma b.detail) t.moon t.ring t.seq).host = (failTask s t b.code b.ma b.detail).host :=
      host_of_frame fr_cometClose rfl
    exact eventHost_of_host hfail hclose

theorem eventHost_failHostMove (t : Machine.Task) (status : Nat) : EventHost p (failHostMove s t status).host := by
  unfold failHostMove
  split
  · exact eventHost_failMove h h t _
  · exact h

theorem eventHost_unmapPages (m : Nat) (l : List Nat) : EventHost p (unmapPages s m l).host := by
  have hdrop : ∀ (u : State) (k : Nat), (dropLines u m k).host = u.host := fun u k => host_of_frame fr_dropLines rfl
  unfold unmapPages
  refine eventHost_foldl (fun s i h => ?_) l s h
  split
  · exact h
  · rename_i e _
    have hlines : EventHost p (dropLines (tlbDrop (modMoon s m fun x => { x with table := tdel x.table i }) m i) m (pageKey e.stack e.page)).host :=
      eventHost_of_host (s := tlbDrop (modMoon s m fun x => { x with table := tdel x.table i }) m i) h (hdrop _ _)
    dsimp only
    split
    · exact eventHost_freePage hlines _
    · exact hlines

theorem eventHost_fetchStatus (m : Nat) (w : Who) (op : FetchOp) (id code : Nat) : EventHost p (fetchStatus s m w op id code).host := by
  unfold fetchStatus
  exact eventHost_raiseWriter (by exact h) _ _ _ _

theorem eventHost_endFetch (m code : Nat) : EventHost p (endFetch s m code).host := by
  unfold endFetch
  split
  · exact h
  · rename_i j _
    have hpages := eventHost_unmapPages h m j.granted
    dsimp only
    refine eventHost_fetchStatus ?_ m j.who j.op j.cmd.fetchId code
    show EventHost p (State.host (if j.cmd.share = true then _ else _))
    split
    · show EventHost p (State.host (if _ then _ else _))
      split
      · exact hpages
      · exact hpages
    · split
      · exact hpages
      · exact hpages

theorem eventHost_hostLost (m status : Nat) : EventHost p (hostLost s m status).host := by
  have hmoves := eventHost_foldl (f := fun s t => failHostMove s t status) (fun s t h => eventHost_failHostMove h t status)
    (s.tasks.tasks.filter fun t => t.moon == m) s h
  unfold hostLost
  dsimp only
  split
  · split
    · exact hmoves
    · exact eventHost_endFetch hmoves m _
  · exact hmoves

/-! ## Rings that drain -/

theorem eventHost_drainEnd (m r : Nat) : EventHost p (drainEnd s m r).host := by
  unfold drainEnd
  dsimp only
  split
  · split
    · exact h
    · split
      · exact h
      · exact eventHost_ringVector (by exact h) m r true
  · exact h

theorem eventHost_drainRing (m r : Nat) : EventHost p (drainRing s m r).host := by
  rw [drainRing_eq]
  refine eventHost_drainEnd (eventHost_of_host h ?_) m r
  have hwithdraw : ∀ (u : State) (f : Nat → Nat → W32 → Bool), (withdrawArrivals u f).host = u.host := fun u f =>
    host_of_frame fr_withdrawArrivals rfl
  have hdiscard : ∀ (u : State) (n : Nat), (discardUnfetched u m r n).host = u.host := fun u n => host_of_frame fr_discardUnfetched rfl
  exact (hdiscard _ _).trans (hwithdraw _ _)

theorem eventHost_disableRing (m r : Nat) : EventHost p (disableRing s m r).host := by
  unfold disableRing
  dsimp only
  split
  · exact h
  · split
    · exact h
    · exact eventHost_drainRing (by exact h) m r

end Events

/-! ## The other rings while one drains (R209) -/

/-- No ring but one changes, and that one stays out of use if it was. -/
structure OnlyRing (m r : Nat) (s t : State) : Prop where
  others : ∀ b, b ≠ r → getRing t m b = getRing s m b
  off : (getRing s m r).enable = false → (getRing t m r).enable = false

theorem onlyRing_of_rings {m r : Nat} {s t : State} (h : t.tasks.rings = s.tasks.rings) : OnlyRing m r s t := by
  have hring : ∀ b, getRing t m b = getRing s m b := fun b => by unfold getRing; rw [h]
  exact ⟨fun b _ => hring b, fun hoff => by rw [hring]; exact hoff⟩

theorem onlyRing_trans {m r : Nat} {s t u : State} (h : OnlyRing m r s t) (g : OnlyRing m r t u) : OnlyRing m r s u :=
  ⟨fun b hb => (g.others b hb).trans (h.others b hb), fun hoff => g.off (h.off hoff)⟩

theorem onlyRing_setRing {s : State} {m r : Nat} {x : Ring} (h : (getRing s m r).enable = false → x.enable = false) :
    OnlyRing m r s (setRing s m r x) :=
  ⟨fun b hb => tget_tset_ne _ _ _ _ _ (by omega), fun hoff => by rw [getRing_setRing]; exact h hoff⟩

theorem onlyRing_discardUnfetched (s : State) (m r fuel : Nat) : OnlyRing m r s (discardUnfetched s m r fuel) := by
  induction fuel generalizing s with
  | zero => exact onlyRing_of_rings rfl
  | succ n ih =>
    unfold discardUnfetched
    dsimp only
    split
    · exact onlyRing_of_rings rfl
    · exact onlyRing_trans (t := addTask s _) (onlyRing_of_rings rfl) (ih _)

theorem onlyRing_drainEnd (s : State) (m r : Nat) : OnlyRing m r s (drainEnd s m r) := by
  unfold drainEnd
  dsimp only
  split
  · split
    · exact onlyRing_setRing fun h => h
    · split
      · exact onlyRing_setRing fun h => h
      · exact onlyRing_trans (onlyRing_setRing (x := { getRing s m r with state := .disabled, enable := false, cfgErr := true }) fun _ => rfl)
          (onlyRing_of_rings (congrArg TaskUnit.rings (ringVector_tasks _ m r true)))
  · exact onlyRing_of_rings rfl

theorem onlyRing_drainRing (s : State) (m r : Nat) : OnlyRing m r s (drainRing s m r) := by
  rw [drainRing_eq]
  have hset : OnlyRing m r s (setRing s m r { getRing s m r with state := .draining, failKept := false }) := onlyRing_setRing fun h => h
  have hstop : OnlyRing m r s (discardWaiting (stopRing s m r) m r) :=
    onlyRing_trans hset (onlyRing_of_rings (congrArg TaskUnit.rings (stopRing_tasks s m r) :))
  exact onlyRing_trans (onlyRing_trans hstop (onlyRing_discardUnfetched _ m r _)) (onlyRing_drainEnd _ m r)

theorem disableRing_off (s : State) (m r : Nat) : OnlyRing m r s (disableRing s m r) ∧ (getRing (disableRing s m r) m r).enable = false := by
  have hset : OnlyRing m r s (setRing s m r { getRing s m r with enable := false }) := onlyRing_setRing fun _ => rfl
  have hoff : (getRing (setRing s m r { getRing s m r with enable := false }) m r).enable = false := by rw [getRing_setRing]
  unfold disableRing
  dsimp only
  split
  · rename_i h
    exact ⟨onlyRing_of_rings rfl, by simpa using h⟩
  · split
    · exact ⟨hset, hoff⟩
    · have hdrain := onlyRing_drainRing (setRing s m r { getRing s m r with enable := false }) m r
      exact ⟨onlyRing_trans hset hdrain, hdrain.off hoff⟩

/-- Rings that are disabled in turn are all out of use at the end. -/
theorem foldl_disableRing {m r : Nat} (l : List Nat) (s : State) (h : r ∈ l ∨ (getRing s m r).enable = false) :
    (getRing (l.foldl (fun s r => disableRing s m r) s) m r).enable = false := by
  induction l generalizing s with
  | nil => exact h.resolve_left List.not_mem_nil
  | cons a l ih =>
    obtain ⟨honly, hoff⟩ := disableRing_off s m a
    refine ih _ ?_
    rcases Decidable.em (r = a) with rfl | hne
    · exact .inr hoff
    · refine h.imp (fun hr => (List.mem_cons.mp hr).resolve_left hne) fun hr => ?_
      rw [honly.others r hne]
      exact hr

end Sys2Proof.Proofs
end

section
/-! Resets of functions, VF Enable, and reads of host memory that fail (R409, R412, R413, R425, R426). -/
set_option Elab.async false

namespace Sys2Proof.Proofs
open Sys2Proof.Machine Sys2Proof.Laws

/-! ## Functions as after reset (R413) -/

/-- The function has no event queue, no mailbox request and no bus mastering. -/
def Quiet (f : Func) : Prop := f.evqEnable = false ∧ f.mbx = .idle ∧ f.busMaster = false

theorem quiet_of_event {f g : Func} (h : EventFunc f g) (hf : Quiet f) : Quiet g := by
  unfold Quiet
  rw [h]
  exact hf

theorem quiet_of_host {s t : State} (h : EventHost s.host t.host) {n : Nat} (hn : Quiet (getFn s n)) : Quiet (getFn t n) :=
  quiet_of_event (h.funcs n) hn

theorem tget_of_tfind_none {α : Type} {t : Tab α} {k : Nat} (d : α) (h : tfind t k = none) : tget t d k = d := by
  induction t with
  | nil => rfl
  | cons e t ih =>
    obtain ⟨j, v⟩ := e
    unfold tfind at h
    unfold tget
    split at h
    · cases h
    · rename_i hj
      rw [if_neg hj]
      exact ih h

theorem getFn_resetFn (s : State) (n : Nat) : getFn (resetFn s n) n = Func.reset := tget_of_tfind_none _ (tfind_tdel_same _ _)

theorem tget_tdel_ne {α : Type} {k j : Nat} (t : Tab α) (d : α) (h : j ≠ k) : tget (tdel t k) d j = tget t d j := by
  have hfind := tfind_tdel_ne t h
  cases hj : tfind t j with
  | none => rw [tget_of_tfind_none d hj, tget_of_tfind_none d (hfind.trans hj)]
  | some x => rw [tget_of_tfind d hj, tget_of_tfind d (hfind.trans hj)]

theorem getFn_resetFn_ne {s : State} {n k : Nat} (h : k ≠ n) : getFn (resetFn s n) k = getFn s k := tget_tdel_ne _ _ h

/-- What a reset of a function and its moon leaves: the function as after reset, its rings out of use. -/
structure Fresh (n : Nat) (t : State) : Prop where
  quiet : Quiet (getFn t n)
  rings : ∀ r, r < 16 → (getRing t n r).enable = false

theorem flrMoon_fresh (s : State) (n : Nat) :
    Fresh n (flrMoon s n) ∧ (flrMoon s n).host.vfEnable = s.host.vfEnable ∧ (flrMoon s n).host.numVfs = s.host.numVfs := by
  have hlost := eventHost_hostLost (EventHost.refl s.host) n 5
  have hrings : EventHost (resetFn (hostLost s n 5) n).host (flrMoon s n).host :=
    eventHost_foldl (f := fun s r => disableRing s n r) (fun s r h => eventHost_disableRing h n r) (upTo 16) _ (EventHost.refl _)
  refine ⟨⟨quiet_of_host hrings ?_, fun r hr => ?_⟩, ?_, ?_⟩
  · rw [getFn_resetFn]
    exact ⟨rfl, rfl, rfl⟩
  · exact foldl_disableRing (upTo 16) _ (.inl (List.mem_range.mpr hr))
  · exact hrings.vfEnable.trans hlost.vfEnable
  · exact hrings.numVfs.trans hlost.numVfs

theorem setVfs_host (s : State) (n : Nat) : (setVfs s n).host.vfEnable = decide (0 < n) ∧ (setVfs s n).host.numVfs = n := ⟨rfl, rfl⟩

/-- Functions reset in turn are all as after reset at the end. -/
theorem foldl_resetFn {k : Nat} (l : List Nat) (s : State) (h : k ∈ l ∨ Quiet (getFn s k)) :
    Quiet (getFn (l.foldl (fun s k => resetFn (hostLost s k 6) k) s) k) := by
  induction l generalizing s with
  | nil => exact h.resolve_left List.not_mem_nil
  | cons a l ih =>
    refine ih _ ?_
    rcases Decidable.em (k = a) with rfl | hne
    · right
      rw [getFn_resetFn]
      exact ⟨rfl, rfl, rfl⟩
    · refine h.imp (fun hk => (List.mem_cons.mp hk).resolve_left hne) fun hq => ?_
      rw [getFn_resetFn_ne hne]
      exact quiet_of_host (eventHost_hostLost (EventHost.refl s.host) a 6) hq

theorem setVfs_quiets {s : State} {n k : Nat} (hon : vfOn s k = true) (hn : n < k) (hk : k < 64) : Quiet (getFn (setVfs s n) k) := by
  refine foldl_resetFn _ s (.inl (List.mem_filter.mpr ⟨List.mem_range.mpr hk, ?_⟩))
  rw [hon, decide_eq_true hn]
  rfl

theorem flrMoon_setVfs_fresh (s : State) :
    Fresh 0 (flrMoon (setVfs s 0) 0) ∧ (flrMoon (setVfs s 0) 0).host.vfEnable = false ∧ (flrMoon (setVfs s 0) 0).host.numVfs = 0 := by
  obtain ⟨hvf, hnum⟩ := setVfs_host s 0
  obtain ⟨hfresh, hkept, hkeptNum⟩ := flrMoon_fresh (setVfs s 0) 0
  rw [hkept, hkeptNum, hvf, hnum]
  exact ⟨hfresh, by decide, rfl⟩

theorem flrPf_fresh (s : State) : Fresh 0 (flrPf s) ∧ (flrPf s).host.vfEnable = false ∧ (flrPf s).host.numVfs = 0 := by
  unfold flrPf
  dsimp only
  exact flrMoon_setVfs_fresh _

/-! ## The link (R407, R409) -/

theorem trainHost_kept (s : State) : (trainHost s).host = { s.host with linkTraining := (trainHost s).host.linkTraining } ∧
    (trainHost s).tasks = s.tasks := by
  unfold trainHost
  split
  · exact ⟨rfl, rfl⟩
  · exact ⟨rfl, rfl⟩

theorem retrainHost_kept (s : State) : (retrainHost s).host = { s.host with linkTraining := (retrainHost s).host.linkTraining } ∧
    (retrainHost s).tasks = s.tasks := by
  obtain ⟨hhost, htasks⟩ := trainHost_kept (modHost s fun h => { h with linkTraining := false })
  exact ⟨by unfold retrainHost; rw [hhost]; rfl, htasks⟩

theorem retrainHost_vfs (s : State) : (retrainHost s).host.vfEnable = s.host.vfEnable ∧ (retrainHost s).host.numVfs = s.host.numVfs := by
  obtain ⟨hhost, _⟩ := retrainHost_kept s
  rw [hhost]
  exact ⟨rfl, rfl⟩

theorem retrainHost_trains {s : State} (hperst : s.host.perst = false) (hlive : dead s = false) : (retrainHost s).host.linkTraining = true := by
  have hno : ¬((modHost s fun h => { h with linkTraining := false }).host.perst = true ∨
      (modHost s fun h => { h with linkTraining := false }).host.linkTraining = true ∨ dead (modHost s fun h => { h with linkTraining := false }) = true) := by
    rintro (h | h | h)
    · exact absurd (hperst.symm.trans h) Bool.false_ne_true
    · exact absurd h Bool.false_ne_true
    · exact absurd (hlive.symm.trans h) Bool.false_ne_true
  unfold retrainHost trainHost
  rw [if_neg hno]
  rfl

theorem fresh_retrainHost {s : State} {n : Nat} (h : Fresh n s) : Fresh n (retrainHost s) := by
  obtain ⟨hhost, htasks⟩ := retrainHost_kept s
  refine ⟨?_, fun r hr => ?_⟩
  · have hfn : getFn (retrainHost s) n = getFn s n := by unfold getFn; rw [hhost]
    rw [hfn]
    exact h.quiet
  · rw [getRing_of_tasks htasks]
    exact h.rings r hr

theorem perstNDeassert_trains {s : State} (hlive : dead s = false) :
    ∃ t, exec .perstNDeassert s = .next t ∧ t.host.perst = false ∧ t.host.linkTraining = true := by
  let u := modHost s fun h => { h with perst := false }
  refine ⟨retrainHost u, rfl, ?_, retrainHost_trains (s := u) rfl hlive⟩
  rw [(retrainHost_kept u).1]
  rfl

/-! ## Resets and VF Enable (R412, R413) -/

theorem hotReset_resets {s : State} (hlive : dead s = false) :
    ∃ t, exec .hotReset s = .next t ∧ t.host.vfEnable = false ∧ t.host.numVfs = 0 ∧ Fresh 0 t := by
  have hexec : exec .hotReset s = .next (retrainHost (flrPf s)) := if_neg (by rw [hlive]; decide)
  obtain ⟨hfresh, hvf, hnum⟩ := flrPf_fresh s
  obtain ⟨hkept, hkeptNum⟩ := retrainHost_vfs (flrPf s)
  exact ⟨_, hexec, hkept.trans hvf, hkeptNum.trans hnum, fresh_retrainHost hfresh⟩

theorem flr_resetsPf {s : State} (hlive : dead s = false) :
    ∃ t, exec (.flr 0) s = .next t ∧ t.host.vfEnable = false ∧ t.host.numVfs = 0 ∧ Fresh 0 t := by
  have hexec : exec (.flr 0) s = .next (flrPf s) := by
    show execFlr 0 s = _
    unfold execFlr
    rw [if_neg (by rw [hlive]; simp [fnLive]), if_pos rfl]
  obtain ⟨hfresh, hvf, hnum⟩ := flrPf_fresh s
  exact ⟨_, hexec, hvf, hnum, hfresh⟩

theorem vfOn_fields {s : State} {n : Nat} (h : vfOn s n = true) : s.host.vfEnable = true ∧ 1 ≤ n ∧ n ≤ s.host.numVfs := by
  simpa [vfOn, and_assoc] using h

theorem flr_resetsVf {s : State} {n : Nat} (hlive : dead s = false) (hon : vfOn s n = true) :
    ∃ t, exec (.flr n) s = .next t ∧ t.host.vfEnable = true ∧ t.host.numVfs = s.host.numVfs ∧ Fresh n t := by
  obtain ⟨hen, hpos, _⟩ := vfOn_fields hon
  have hexec : exec (.flr n) s = .next (flrMoon s n) := by
    refine (if_neg (by rw [hlive]; simp [fnLive, hon])).trans ?_
    exact congrArg Host.Outcome.next (if_neg (by omega))
  obtain ⟨hfresh, hvf, hnum⟩ := flrMoon_fresh s n
  exact ⟨_, hexec, hvf.trans hen, hnum, hfresh⟩

theorem vfEnable_sets {s : State} {n : Nat} (hlive : dead s = false) (hn : n ≤ 63) (hnew : s.host.vfEnable = false ∨ s.host.numVfs < n) :
    ∃ t, exec (.vfEnable n) s = .next t ∧ t.host.numVfs = n ∧ t.host.vfEnable = decide (0 < n) := by
  have hexec : exec (.vfEnable n) s = .next (setVfs s n) := by
    refine if_neg ?_
    rw [hlive]
    rcases hnew with h | h
    · simp [h, hn]
    · simp [hn]
      omega
  obtain ⟨hvf, hnum⟩ := setVfs_host s n
  exact ⟨_, hexec, hnum, hvf⟩

theorem vfEnableClear_resets {s : State} {n : Nat} (hlive : dead s = false) (hen : s.host.vfEnable = true) (hn : n < s.host.numVfs) :
    ∃ t, exec (.vfEnableClear n) s = .next t ∧ t.host.numVfs = n ∧ t.host.vfEnable = decide (0 < n) ∧
      ∀ k, n < k → k < 64 → k ≤ s.host.numVfs → Quiet (getFn t k) := by
  have hexec : exec (.vfEnableClear n) s = .next (setVfs s n) := if_neg (by rw [hlive, hen]; simp; omega)
  obtain ⟨hvf, hnum⟩ := setVfs_host s n
  refine ⟨_, hexec, hnum, hvf, fun k hnk hk hle => setVfs_quiets ?_ hnk hk⟩
  simp [vfOn, hen, hle]
  omega

/-! ## Reads of host memory that fail (R425, R426) -/

/-- The task's phase, result, error code and detail. -/
def outcome (u : Machine.Task) : TaskPhase × Nat × Nat × Nat := (u.phase, u.result, u.error, u.detail)

theorem failHostMove_ends {s : State} {m r status : Nat} {q : W32} {u : Machine.Task} (hu : findTask s m r q = some u) (hrun : u.phase = .running)
    (hkind : u.desc.kind = 3) (hsrc : (parseMove u.ext).srcHost = 1) (heng : u.engine.isSome = true) :
    (findTask (failHostMove s u status) m r q).map outcome = some (.done, 1, 0x0207, status) := by
  obtain ⟨hmem, rfl, rfl, rfl⟩ := mem_of_findTask hu
  have hput := findTask_putTask (s := s) (t := { u with phase := .done, work := [], cores := [], result := 1, error := 0x0207, faultMa := 0, detail := status })
    hmem ⟨rfl, rfl, rfl⟩
  have hclose : ∀ v : State, (cometClose v u.moon u.ring u.seq).tasks = v.tasks := fun v => tasks_of_frame fr_cometClose rfl
  have htasks : (failHostMove s u status).tasks = (failTask s u 0x0207 0 status).tasks := by
    unfold failHostMove failMove
    rw [if_pos (by rw [hrun, hkind, hsrc, heng]; decide), if_neg (show ¬(0x0207 : Nat) = 0 by decide)]
    exact hclose _
  rw [findTask_of_taskList ((congrArg TaskUnit.tasks htasks).trans (failTask_taskList s u 0x0207 0 status)), hput]
  rfl

theorem findTask_noteAer (s : State) (fn bit m r : Nat) (q : W32) : findTask (noteAer s fn bit) m r q = findTask s m r q := rfl

theorem hostReadFailed_task {s : State} {m r status : Nat} {q : W32} {u : Machine.Task} (hu : findTask s m r q = some u) :
    hostReadFailed s m (some (r, q)) status = failHostMove s u status := by
  unfold hostReadFailed
  dsimp only
  rw [hu]

/-- What ends a read of a MOVE task from host memory. -/
structure HostMove (s : State) (m r : Nat) (q : W32) (u : Machine.Task) : Prop where
  found : findTask s m r q = some u
  running : u.phase = .running
  kind : u.desc.kind = 3
  host : (parseMove u.ext).srcHost = 1
  engine : u.engine.isSome = true

theorem hostCplTimeout_fails {s : State} {m r : Nat} {q : W32} {u : Machine.Task} (hup : isUp s = true) (hu : HostMove s m r q u)
    (hen : (tget (getFn s 0).cfg 0 0x1A).testBit 4 = false) :
    ∃ t, exec (.hostCplTimeout m (some (r, q))) s = .next t ∧ (findTask t m r q).map outcome = some (.done, 1, 0x0207, 3) := by
  have hexec : exec (.hostCplTimeout m (some (r, q))) s =
      .next (noteAer (hostReadFailed (incA s 0x0013 0 1) m (some (r, q)) 3) (hostFn s m) 14) :=
    (if_neg (by rw [hen]; decide)).trans (if_pos hup)
  have hkept : (incA s 0x0013 0 1).tasks = s.tasks := tasks_of_frame fr_incA rfl
  have hfound : findTask (incA s 0x0013 0 1) m r q = some u := (findTask_of_taskList (congrArg TaskUnit.tasks hkept) m r q).trans hu.found
  refine ⟨_, hexec, ?_⟩
  rw [findTask_noteAer, hostReadFailed_task hfound]
  exact failHostMove_ends hfound hu.running hu.kind hu.host hu.engine

theorem hostCplTimeout_off {s : State} {m : Nat} {x : Option (Nat × W32)} (hdis : (tget (getFn s 0).cfg 0 0x1A).testBit 4 = true) :
    exec (.hostCplTimeout m x) s = .next s := if_pos hdis

theorem execHostDmaError_eq {s : State} {m st : Nat} {x : Option (Nat × W32)} (hup : isUp s = true) (hst : st = 1 ∨ st = 2 ∨ st = 4) :
    exec (.hostDmaError m x st) s =
      .next (if st = 4 then noteAer (hostReadFailed s m x st) (hostFn s m) 12 else hostReadFailed s m x st) :=
  (if_pos hst).trans (if_pos hup)

theorem hostDmaError_failsTask {s : State} {m r st : Nat} {q : W32} {u : Machine.Task} (hup : isUp s = true) (hu : HostMove s m r q u)
    (hst : st = 1 ∨ st = 2 ∨ st = 4) :
    ∃ t, exec (.hostDmaError m (some (r, q)) st) s = .next t ∧ (findTask t m r q).map outcome = some (.done, 1, 0x0207, st) := by
  have hends := failHostMove_ends (status := st) hu.found hu.running hu.kind hu.host hu.engine
  rw [← hostReadFailed_task hu.found] at hends
  refine ⟨_, execHostDmaError_eq hup hst, ?_⟩
  split
  · rw [findTask_noteAer]; exact hends
  · exact hends

theorem hostDmaError_failsFetch {s : State} {m st : Nat} {j : FetchJob} (hup : isUp s = true) (hj : tfind s.fetch.jobs m = some j)
    (hbar : j.cmd.bar4 = false) (hst : st = 1 ∨ st = 2 ∨ st = 4) :
    ∃ t, exec (.hostDmaError m none st) s = .next t ∧ tfind t.fetch.jobs m = none ∧
      tfind t.fetch.status m = some (BitVec.ofNat 32 (4 + 256 * fetchOpCode j.op + 65536 * 0xA + 16777216 * st)) := by
  have hread : hostReadFailed s m none st = endFetch s m (hostDma st) := by
    unfold hostReadFailed
    dsimp only
    rw [hj]
    exact if_neg (by rw [hbar]; decide)
  have hword : fetchWord j.op (hostDma st) = BitVec.ofNat 32 (4 + 256 * fetchOpCode j.op + 65536 * 0xA + 16777216 * st) := by
    unfold fetchWord hostDma
    rw [if_neg (by omega)]
    congr 1
    omega
  obtain ⟨hgone, hstatus⟩ := endFetch_ends (hostDma st) hj
  rw [hword] at hstatus
  refine ⟨_, execHostDmaError_eq hup hst, ?_⟩
  rw [hread]
  split
  · exact ⟨hgone, hstatus⟩
  · exact ⟨hgone, hstatus⟩

theorem hostReadAborted_answers {s : State} (n : Nat) (hup : isUp s = true) (hstuck : pkey 0x0011 0 ∉ s.dict.stuckList)
    (hroom : param s 0x0011 0 + 1 < 2 ^ 64) :
    ∃ t, exec (.hostReadAborted n) s = .next t ∧ t.dict.answer.value = List.replicate n 0xFF ∧ param t 0x0011 0 = param s 0x0011 0 + 1 ∧
      t.mem = s.mem := by
  have hexec : exec (.hostReadAborted n) s = .next (respond (incA s 0x0011 0 1) (List.replicate n 0xFF)) := if_pos hup
  have hmem : (incA s 0x0011 0 1).mem = s.mem := mem_of_frame fr_incA rfl
  exact ⟨_, hexec, rfl, incA_counts hstuck hroom, hmem⟩

/-- Settles O47. -/
theorem functionsResetAndHostReadsFail : Obligations.FunctionsResetAndHostReadsFail := by
  unfold Obligations.FunctionsResetAndHostReadsFail
  refine ⟨⟨fun s => perstNDeassert_trains, fun s hlive => ⟨?_, ?_⟩, fun s n hlive hon => ?_, fun s n => vfEnable_sets, fun s n hlive hen hn => ?_⟩,
    fun s m r st q u hup hu hrun hkind hsrc heng => ?_, fun s m st j hup hj hbar hst => hostDmaError_failsFetch hup hj hbar hst,
    fun s n => hostReadAborted_answers n⟩
  · obtain ⟨t, hexec, hvf, hnum, ⟨hevq, hmbx, hbus⟩, hrings⟩ := hotReset_resets hlive
    exact ⟨t, hexec, hvf, hnum, hevq, hmbx, hbus, hrings⟩
  · obtain ⟨t, hexec, hvf, hnum, ⟨hevq, hmbx, hbus⟩, hrings⟩ := flr_resetsPf hlive
    exact ⟨t, hexec, hvf, hnum, hevq, hmbx, hbus, hrings⟩
  · obtain ⟨t, hexec, hvf, hnum, ⟨hevq, hmbx, hbus⟩, hrings⟩ := flr_resetsVf hlive hon
    exact ⟨t, hexec, hvf, hnum, hevq, hmbx, hbus, hrings⟩
  · obtain ⟨t, hexec, hnum, hvf, hquiet⟩ := vfEnableClear_resets hlive hen hn
    refine ⟨t, hexec, hnum, hvf, fun k hnk hk hle => ?_⟩
    obtain ⟨hevq, _, hbus⟩ := hquiet k hnk hk hle
    exact ⟨hevq, hbus⟩
  · have hmove : HostMove s m r q u := ⟨hu, hrun, hkind, hsrc, heng⟩
    exact ⟨hostCplTimeout_fails hup hmove, hostCplTimeout_off, hostDmaError_failsTask hup hmove⟩

end Sys2Proof.Proofs
end

section
/-! WIN_BASE and the ring windows (R416, R417, R426). -/
set_option Elab.async false

namespace Sys2Proof.Proofs
open Sys2Proof.Machine Sys2Proof.Laws

/-! ## Accesses without a retention hint change no byte (R161) -/

/-- The byte memories themselves stand, not only what they read as, and every page's use. -/
structure SameStores (s t : State) : Prop where
  pages : t.mem.pages = s.mem.pages
  hbm : t.mem.hbm = s.mem.hbm
  spm : t.mem.spm = s.mem.spm
  vregs : t.cores.vregs = s.cores.vregs

theorem sameStores_refl (s : State) : SameStores s s := ⟨rfl, rfl, rfl, rfl⟩

theorem sameStores_trans {s t u : State} (h : SameStores s t) (g : SameStores t u) : SameStores s u :=
  ⟨g.pages.trans h.pages, g.hbm.trans h.hbm, g.spm.trans h.spm, g.vregs.trans h.vregs⟩

theorem sameBytes_of_stores {s t : State} (h : SameStores s t) : SameBytes s t := fun a => by rw [h.hbm, h.spm, h.vregs]; exact ⟨rfl, rfl, rfl⟩

theorem sameStores_foldl {α : Type} {f : State → α → State} (hf : ∀ s x, SameStores s (f s x)) (l : List α) (s : State) :
    SameStores s (l.foldl f s) := by
  induction l generalizing s with
  | nil => exact sameStores_refl s
  | cons a l ih => exact sameStores_trans (hf s a) (ih _)

theorem sameStores_incB (s : State) (q e n : Nat) : SameStores s (incB s q e n) := by
  have hmem : (incB s q e n).mem = s.mem := mem_of_frame fr_incB rfl
  have hcores : (incB s q e n).cores = s.cores := cores_of_frame fr_incB rfl
  exact ⟨by rw [hmem], by rw [hmem], by rw [hmem], by rw [hcores]⟩

theorem sameStores_mscRoom (s : State) (m line : Nat) : SameStores s (mscRoom s m line) := by
  unfold mscRoom
  dsimp only
  split
  · exact ⟨rfl, rfl, rfl, rfl⟩
  · exact ⟨rfl, rfl, rfl, rfl⟩

/-- An access with hint 0 uses no line up, so it drops none unwritten. -/
theorem sameStores_mscAccess (s : State) (m line : Nat) (read : Bool) : SameStores s (mscAccess s m line 0 read) := by
  have hmode : hintMode 0 = 0 := rfl
  unfold mscAccess
  dsimp only
  rw [hmode]
  split
  · have hcount : ∀ c : Option Nat, SameStores s (match c with | some d => if read then incB s 0x4033 d 1 else s | none => s) := by
      intro c
      split
      · split
        · exact sameStores_incB s _ _ _
        · exact sameStores_refl s
      · exact sameStores_refl s
    rename_i x _
    have hx := hcount x.comet
    exact ⟨hx.pages, hx.hbm, hx.spm, hx.vregs⟩
  · split
    · exact sameStores_refl s
    · have hroom := sameStores_mscRoom s m line
      rw [if_neg (by simp)]
      exact ⟨hroom.pages, hroom.hbm, hroom.spm, hroom.vregs⟩

theorem sameStores_streamAccess (s : State) (m ma n : Nat) (read : Bool) : SameStores s (streamAccess s m ma n 0 read) :=
  sameStores_foldl (f := fun s (l : Nat × Nat) => mscAccess s l.2 l.1 0 read) (fun s l => sameStores_mscAccess s l.2 l.1 read) _ s

/-! ## WIN_BASE (R416, R417) -/

theorem winBase_acts {s : State} {fn m n : Nat} {h : Bool} {v : W32} (hm : m = pageMoon fn m) (hn : n = putHalf (tget s.host.winBase 0 m) h v) :
    (ringAccess s fn m = true → n % windowSize fn = 0 → ((hbmRegion ≤ n ∧ n < hbmEnd) ∨ (h = false ∧ hbmHigh (n / 2 ^ 32) = false)) →
      ∃ t, exec (.winBase fn m h v) s = .next t ∧ tget t.host.winBase 0 m = n ∧ OnlyChanges [.host] s t) ∧
    (ringAccess s fn m = false ∨ n % windowSize fn ≠ 0 ∨ ((n < hbmRegion ∨ hbmEnd ≤ n) ∧ (h = true ∨ hbmHigh (n / 2 ^ 32) = true)) →
      exec (.winBase fn m h v) s = .next s) := by
  have hexec : exec (.winBase fn m h v) s =
      (if ringAccess s fn m && n % windowSize fn == 0 && ((decide (hbmRegion ≤ n) && decide (n < hbmEnd)) || (!h && !hbmHigh (n / 2 ^ 32))) then
        .next (modHost s fun h => { h with winBase := tset h.winBase m n }) else .next s) := by
    show execWinBase fn m h v s = _
    unfold execWinBase
    dsimp only
    rw [← hm, ← hn]
  refine ⟨fun hacc halign hin => ?_, fun hout => ?_⟩
  · refine ⟨_, hexec.trans (if_pos ?_), tget_tset_same _ _ _ _, Fr.only (k := 4096) (Fr.up fr_modHost rfl) rfl⟩
    rw [hacc, halign]
    rcases hin with ⟨hlo, hhi⟩ | ⟨hh, hhigh⟩
    · simp [hlo, hhi]
    · rw [hh, hhigh]
      simp
  · refine hexec.trans (if_neg ?_)
    rcases hout with h | h | ⟨hrange, hhigh⟩
    · simp [h]
    · simp [h]
    · have hno : (decide (hbmRegion ≤ n) && decide (n < hbmEnd)) = false := by
        rw [Bool.and_eq_false_iff, decide_eq_false_iff_not, decide_eq_false_iff_not]
        omega
      rw [hno]
      rcases hhigh with h | h
      · simp [h]
      · rw [h]
        simp

/-! ## The windows (R417, R426) -/

theorem isUp_of_ringAccess {s : State} {fn m : Nat} (h : ringAccess s fn m = true) : isUp s = true := by
  unfold ringAccess at h
  simp only [Bool.and_eq_true] at h
  exact h.1.1

theorem alive_of_isUp {s : State} (h : isUp s = true) : dead s = false := by
  unfold isUp at h
  unfold dead
  rw [beq_iff_eq.mp h]
  rfl

theorem execRingWindowRead_eq {s : State} {fn m o n : Nat} (hm : m = pageMoon fn m) (hacc : ringAccess s fn m = true) :
    (∀ ma b, windowMa s fn m o n = some ma → readMa s m none ma n = .ok b →
      exec (.ringWindowRead fn m o n) s = .next (respond (streamAccess s m ma n 0 true) b)) ∧
    (windowMa s fn m o n = none → exec (.ringWindowRead fn m o n) s = .next (respond (windowDenied s m) (List.replicate n 0xFF))) := by
  have hlive := alive_of_isUp (isUp_of_ringAccess hacc)
  constructor
  · intro ma b hma hread
    show execRingWindowRead fn m o n s = _
    unfold execRingWindowRead
    dsimp only
    rw [← hm, hlive, hacc, hma]
    dsimp only
    rw [hread]
    rfl
  · intro hma
    show execRingWindowRead fn m o n s = _
    unfold execRingWindowRead
    dsimp only
    rw [← hm, hlive, hacc, hma]
    rfl

theorem windowDenied_counts (s : State) (m : Nat) : tget (windowDenied s m).host.winDenied 0 m = satAdd (tget s.host.winDenied 0 m) 1 :=
  tget_tset_same _ _ _ _

theorem ringWindowRead_acts {s : State} {fn m o n : Nat} (hm : m = pageMoon fn m) (hacc : ringAccess s fn m = true) :
    (∀ ma b, windowMa s fn m o n = some ma → readMa s m none ma n = .ok b →
      ∃ t, exec (.ringWindowRead fn m o n) s = .next t ∧ t.dict.answer.value = b ∧ SameBytes s t) ∧
    (windowMa s fn m o n = none →
      ∃ t, exec (.ringWindowRead fn m o n) s = .next t ∧ t.dict.answer.value = List.replicate n 0xFF ∧
        tget t.host.winDenied 0 m = satAdd (tget s.host.winDenied 0 m) 1 ∧ t.mem = s.mem) := by
  obtain ⟨hmapped, hunmapped⟩ := execRingWindowRead_eq (o := o) (n := n) hm hacc
  refine ⟨fun ma b hma hread => ⟨_, hmapped ma b hma hread, rfl, ?_⟩, fun hma => ⟨_, hunmapped hma, rfl, windowDenied_counts s m, rfl⟩⟩
  exact sameBytes_trans (sameBytes_of_stores (sameStores_streamAccess s m ma n true)) (sameBytes_of_frame fr_respond rfl)

theorem execRingWindowWrite_mapped {s : State} {fn m o ma : Nat} {b : Bytes} (hm : m = pageMoon fn m) (hacc : ringAccess s fn m = true)
    (hma : windowMa s fn m o b.length = some ma) : exec (.ringWindowWrite fn m o b) s =
      .next (if hostWaits s fn || windowWaits s m ma b.length then holdWrite s (.window fn m ma b) else storeWindow s fn m ma b) := by
  show execRingWindowWrite fn m o b s = _
  unfold execRingWindowWrite
  dsimp only
  rw [← hm, hacc, hma]
  rfl

theorem storeWindow_ok {s s1 : State} {fn m ma : Nat} {b : Bytes} (hacc : ringAccess s fn m = true)
    (hwrite : writeMa (streamAccess s m ma b.length 0 false) m ma b = .ok s1) : storeWindow s fn m ma b = s1 := by
  unfold storeWindow
  rw [hacc, hwrite]
  rfl

theorem ringWindowWrite_acts {s : State} {fn m o : Nat} {b : Bytes} (hm : m = pageMoon fn m) (hacc : ringAccess s fn m = true) :
    (∀ ma s1, windowMa s fn m o b.length = some ma → hostWaits s fn = false → windowWaits s m ma b.length = false →
      writeMa (streamAccess s m ma b.length 0 false) m ma b = .ok s1 →
      ∃ t, exec (.ringWindowWrite fn m o b) s = .next t ∧ SameBytes s1 t) ∧
    (∀ ma, windowMa s fn m o b.length = some ma → (hostWaits s fn = true ∨ windowWaits s m ma b.length = true) →
      ∃ t, exec (.ringWindowWrite fn m o b) s = .next t ∧ t.host.waiting = s.host.waiting ++ [.window fn m ma b] ∧ OnlyChanges [.host] s t) ∧
    (windowMa s fn m o b.length = none →
      ∃ t, exec (.ringWindowWrite fn m o b) s = .next t ∧ t.mem = s.mem ∧
        tget t.host.winDenied 0 m = satAdd (tget s.host.winDenied 0 m) 1) := by
  refine ⟨fun ma s1 hma hfree hpage hwrite => ?_, fun ma hma hwait => ?_, fun hma => ?_⟩
  · refine ⟨_, execRingWindowWrite_mapped hm hacc hma, ?_⟩
    rw [hfree, hpage, if_neg (by decide), storeWindow_ok hacc hwrite]
    exact sameBytes_of_stores (sameStores_refl s1)
  · refine ⟨_, (execRingWindowWrite_mapped hm hacc hma).trans (congrArg Host.Outcome.next (if_pos ?_)), rfl, ?_⟩
    · rcases hwait with h | h <;> simp [h]
    · exact Fr.only (k := 4096) fr_holdWrite rfl
  · have hexec : exec (.ringWindowWrite fn m o b) s = .next (windowDenied s m) := by
      show execRingWindowWrite fn m o b s = _
      unfold execRingWindowWrite
      dsimp only
      rw [← hm, hacc, hma]
      rfl
    exact ⟨_, hexec, rfl, windowDenied_counts s m⟩

/-- Settles O48. -/
theorem ringWindowsReachMemory : Obligations.RingWindowsReachMemory := by
  unfold Obligations.RingWindowsReachMemory
  exact ⟨fun s fn m n h v => winBase_acts, fun s fn m o n => ringWindowRead_acts, fun s fn m o b => ringWindowWrite_acts⟩

end Sys2Proof.Proofs
end

section
/-! Event queues, MSI-X vectors, writes to BAR0 and the mailbox (R415, R416, R421, R424). -/
set_option Elab.async false

namespace Sys2Proof.Proofs
open Sys2Proof.Machine Sys2Proof.Laws

theorem onlyHost_setFn (s : State) (n : Nat) (f : Func) : OnlyChanges [.host] s (setFn s n f) := Fr.only (k := 4096) fr_setFn rfl

/-! ## Event queues (R416) -/

theorem eventHost_flushHeld {p : HostUnit} {s : State} (h : EventHost p s.host) (fn : Nat) : EventHost p (flushHeld s fn).host := by
  have hdrop : EventHost p (modHost s fun h => { h with heldEvents := h.heldEvents.filter fun e => e.fn != fn }).host :=
    h.trans ⟨rfl, fun _ => EventFunc.refl _⟩
  exact eventHost_foldl (f := fun s (e : HeldEvent) => postEvent s e.fn e.code e.moon e.orbit e.args)
    (fun s e h => eventHost_postEvent h e.fn e.code e.moon e.orbit e.args) _ _ hdrop

/-- A queue that is not enabled, written with ENABLE. -/
theorem execEvqCfg_enable {s : State} {fn : Nat} {v : W32} (hlive : dead s = false) (hfn : fnLive s fn = true)
    (hoff : (getFn s fn).evqEnable = false) (hen : v.toNat.testBit 4 = true) :
    exec (.evqCfg fn v) s =
      (if 6 ≤ v.toNat % 16 ∧ v.toNat % 16 ≤ 12 ∧ (getFn s fn).evqBase % 4096 = 0 then
        let u := setFn s fn { getFn s fn with evqLog2 := v.toNat % 16, evqEnable := true }
        .next (if u.fw.swap.isNone then flushHeld u fn else u)
      else .next (setFn s fn { getFn s fn with evqLog2 := v.toNat % 16, evqCfgErr := true })) := by
  show execEvqCfg fn v s = _
  unfold execEvqCfg
  dsimp only
  rw [if_neg (by simp [hlive, hfn]), if_neg (by simp [hoff]), if_neg (by simp [hen])]

theorem evqCfg_acts {s : State} {fn : Nat} {v : W32} (hlive : dead s = false) (hfn : fnLive s fn = true)
    (hoff : (getFn s fn).evqEnable = false) (hen : v.toNat.testBit 4 = true) :
    (6 ≤ v.toNat % 16 → v.toNat % 16 ≤ 12 → (getFn s fn).evqBase % 4096 = 0 →
      ∃ t, exec (.evqCfg fn v) s = .next t ∧ (getFn t fn).evqEnable = true ∧ (getFn t fn).evqLog2 = v.toNat % 16) ∧
    ((v.toNat % 16 < 6 ∨ 12 < v.toNat % 16 ∨ (getFn s fn).evqBase % 4096 ≠ 0) →
      ∃ t, exec (.evqCfg fn v) s = .next t ∧ (getFn t fn).evqEnable = false ∧ (getFn t fn).evqCfgErr = true ∧ OnlyChanges [.host] s t) := by
  have hexec := execEvqCfg_enable hlive hfn hoff hen
  refine ⟨fun hlo hhi hbase => ?_, fun hbad => ?_⟩
  · rw [if_pos ⟨hlo, hhi, hbase⟩] at hexec
    dsimp only at hexec
    refine ⟨_, hexec, ?_⟩
    have hset := getFn_setFn s fn { getFn s fn with evqLog2 := v.toNat % 16, evqEnable := true }
    generalize setFn s fn { getFn s fn with evqLog2 := v.toNat % 16, evqEnable := true } = u at hset ⊢
    have hevent : EventFunc (getFn u fn) (getFn (if u.fw.swap.isNone = true then flushHeld u fn else u) fn) := by
      split
      · exact (eventHost_flushHeld (EventHost.refl u.host) fn).funcs fn
      · exact EventFunc.refl _
    rw [hevent, hset]
    exact ⟨rfl, rfl⟩
  · rw [if_neg (by omega)] at hexec
    refine ⟨_, hexec, ?_, ?_, onlyHost_setFn s fn _⟩
    · rw [getFn_setFn]; exact hoff
    · rw [getFn_setFn]

/-! ## Vectors (R421) -/

theorem msixUnmask_acts {s : State} {fn v : Nat} (hlive : dead s = false) (hfn : fnLive s fn = true) (hv : vectorOk fn v = true)
    (hmasked : v ∉ (getFn s fn).unmasked) :
    (v ∈ (getFn s fn).pendingVecs → (getFn s fn).busMaster = true →
      ∃ t, exec (.msixUnmask fn v) s = .next t ∧ v ∈ (getFn t fn).unmasked ∧ v ∉ (getFn t fn).pendingVecs ∧ t.out = .msix fn v :: s.out) ∧
    (v ∉ (getFn s fn).pendingVecs → ∃ t, exec (.msixUnmask fn v) s = .next t ∧ v ∈ (getFn t fn).unmasked ∧ t.out = s.out) := by
  let g := { getFn s fn with unmasked := addNum (getFn s fn).unmasked v }
  have hin : v ∈ g.unmasked := mem_addNum.mpr (.inl rfl)
  have hexec : exec (.msixUnmask fn v) s = (if (getFn s fn).pendingVecs.contains v ∧ (getFn s fn).busMaster then
      .next (emit (setFn s fn { g with pendingVecs := delNum g.pendingVecs v }) (.msix fn v)) else .next (setFn s fn g)) :=
    if_neg (by simp [hlive, hfn, hv, hmasked])
  refine ⟨fun hpend hbus => ?_, fun hidle => ?_⟩
  · have hset : getFn (emit (setFn s fn { g with pendingVecs := delNum g.pendingVecs v }) (.msix fn v)) fn =
        { g with pendingVecs := delNum g.pendingVecs v } := getFn_setFn s fn _
    refine ⟨_, hexec.trans (if_pos ⟨List.contains_iff_mem.mpr hpend, hbus⟩), ?_, ?_, rfl⟩
    · rw [hset]
      exact hin
    · rw [hset, mem_delNum]
      exact fun h => h.2 rfl
  · refine ⟨_, hexec.trans (if_neg fun h => hidle (List.contains_iff_mem.mp h.1)), ?_, rfl⟩
    rw [getFn_setFn]
    exact hin

/-! ## Writes to BAR0 (R415, R416) -/

theorem registerWrite_waits {s : State} {fn o : Nat} {b : Bytes} (hlive : dead s = false) (hfn : fnLive s fn = true)
    (hwait : hostWaits s fn = true) (ho : o < configSpace) : exec (.registerWrite fn o b) s = .next (holdWrite s (.reg fn o b)) := by
  show execRegisterWrite fn o b s = _
  unfold execRegisterWrite
  rw [if_neg (by simp [hlive, hfn]), if_neg (by omega), if_pos hwait]

theorem registerWrite_now {s : State} {fn o : Nat} {b : Bytes} (hlive : dead s = false) (hfn : fnLive s fn = true)
    (hwait : hostWaits s fn = false) (ho : o < 0x2001) : exec (.registerWrite fn o b) s = .next (writeBar0 fn o b s) := by
  have hbar : ¬configSpace ≤ o := by
    unfold configSpace
    omega
  show execRegisterWrite fn o b s = _
  unfold execRegisterWrite
  rw [if_neg (by simp [hlive, hfn]), if_neg hbar, if_neg (by simp [hwait])]

theorem writeBar0_buffer {s : State} {fn o : Nat} {b : Bytes} (hlo : 0x1000 ≤ o) (hhi : o + b.length ≤ 0x2000) :
    writeBar0 fn o b s = setFn s fn { getFn s fn with reqBuf := memWrite (getFn s fn).reqBuf (o - 0x1000) b } := if_pos ⟨hlo, hhi⟩

theorem writeBar0_page {s : State} {fn o : Nat} {b : Bytes} (ho : o < 0x1000) : writeBar0 fn o b s = writeRegs fn o b s := by
  unfold writeBar0
  dsimp only
  rw [if_neg (by omega), if_neg (by omega), if_neg (by omega), if_neg (by omega)]

theorem writeRegs_unaligned {s : State} {fn o : Nat} {b : Bytes} (hlen : b.length = 4) (ho : o % 4 ≠ 0) : writeRegs fn o b s = s := by
  unfold writeRegs
  dsimp only
  rw [if_neg (by omega), if_neg (by omega)]

theorem writeRegs_head {s : State} {fn : Nat} {b : Bytes} (hlen : b.length = 4) :
    writeRegs fn 0x018 b s = setFn s fn { getFn s fn with evqHead := BitVec.ofNat 32 (leNat b) } := by
  have hfield : field b 0 4 = leNat b := by
    unfold field
    rw [slice_eq_take_drop (by omega), List.drop_zero, List.take_of_length_le (by omega)]
  unfold writeRegs
  dsimp only
  rw [if_pos ⟨hlen, rfl⟩, hfield]
  rfl

theorem registerWrite_acts {s : State} {fn o : Nat} {b : Bytes} (hlive : dead s = false) (hfn : fnLive s fn = true) :
    (hostWaits s fn = true → o < configSpace →
      ∃ t, exec (.registerWrite fn o b) s = .next t ∧ t.host.waiting = s.host.waiting ++ [.reg fn o b] ∧ OnlyChanges [.host] s t) ∧
    (hostWaits s fn = false → 0x1000 ≤ o → o + b.length ≤ 0x2000 →
      ∃ t, exec (.registerWrite fn o b) s = .next t ∧ (getFn t fn).reqBuf = memWrite (getFn s fn).reqBuf (o - 0x1000) b ∧
        OnlyChanges [.host] s t) ∧
    (hostWaits s fn = false → o < 0x1000 → b.length = 4 → o % 4 ≠ 0 → exec (.registerWrite fn o b) s = .next s) ∧
    (hostWaits s fn = false → o = 0x018 → b.length = 4 →
      ∃ t, exec (.registerWrite fn o b) s = .next t ∧ (getFn t fn).evqHead = BitVec.ofNat 32 (leNat b) ∧ OnlyChanges [.host] s t) := by
  refine ⟨fun hwait ho => ?_, fun hfree hlo hhi => ?_, fun hfree ho hlen hodd => ?_, fun hfree ho hlen => ?_⟩
  · exact ⟨_, registerWrite_waits hlive hfn hwait ho, rfl, Fr.only (k := 4096) fr_holdWrite rfl⟩
  · refine ⟨_, (registerWrite_now hlive hfn hfree (by omega)).trans (congrArg Host.Outcome.next (writeBar0_buffer hlo hhi)), ?_, onlyHost_setFn s fn _⟩
    rw [getFn_setFn]
  · rw [registerWrite_now hlive hfn hfree (by omega), writeBar0_page ho, writeRegs_unaligned hlen hodd]
  · subst ho
    have hexec := registerWrite_now (b := b) hlive hfn hfree (show 0x018 < 0x2001 by decide)
    rw [writeBar0_page (by decide), writeRegs_head hlen] at hexec
    refine ⟨_, hexec, ?_, onlyHost_setFn s fn _⟩
    rw [getFn_setFn]

/-! ## The mailbox (R424) -/

theorem mbxDoorbell_acts {s : State} {fn : Nat} {v : W32} (hlive : dead s = false) (hfn : fnLive s fn = true) :
    ((getFn s fn).mbx ≠ .busy → 1 ≤ v.toNat % 2 ^ 13 → v.toNat % 2 ^ 13 ≤ 4096 →
      ∃ t, exec (.mbxDoorbell fn v) s = .next t ∧ (getFn t fn).mbx = .busy ∧
        t.host.taken = s.host.taken ++ [(fn, memRead (getFn s fn).reqBuf 0 (v.toNat % 2 ^ 13))]) ∧
    ((getFn s fn).mbx = .busy ∨ v.toNat % 2 ^ 13 = 0 ∨ 4096 < v.toNat % 2 ^ 13 →
      ∃ t, exec (.mbxDoorbell fn v) s = .next t ∧ (getFn t fn).mbxRefused = true ∧ (getFn t fn).mbx = (getFn s fn).mbx ∧
        t.host.taken = s.host.taken) := by
  have hexec : exec (.mbxDoorbell fn v) s =
      (if (getFn s fn).mbx = .busy ∨ v.toNat % 2 ^ 13 = 0 ∨ 4096 < v.toNat % 2 ^ 13 then .next (setFn s fn { getFn s fn with mbxRefused := true })
      else .next (modHost (setFn s fn { getFn s fn with mbx := .busy }) fun h =>
        { h with taken := h.taken ++ [(fn, memRead (getFn s fn).reqBuf 0 (v.toNat % 2 ^ 13))] })) :=
    if_neg (by simp [hlive, hfn])
  refine ⟨fun hidle hlo hhi => ?_, fun hbad => ?_⟩
  · refine ⟨_, hexec.trans (if_neg ?_), ?_, rfl⟩
    · rintro (h | h | h)
      · exact hidle h
      · omega
      · omega
    · exact congrArg Func.mbx (getFn_setFn s fn { getFn s fn with mbx := .busy })
  · refine ⟨_, hexec.trans (if_pos hbad), ?_, ?_, rfl⟩
    · rw [getFn_setFn]
    · rw [getFn_setFn]

/-- Settles O49. -/
theorem queuesVectorsAndMailbox : Obligations.QueuesVectorsAndMailbox := by
  unfold Obligations.QueuesVectorsAndMailbox
  exact ⟨⟨fun s fn v => evqCfg_acts, fun s fn v => msixUnmask_acts⟩, fun s fn o b => registerWrite_acts, fun s fn v => mbxDoorbell_acts⟩

end Sys2Proof.Proofs
end

section
/-! Dictionary items: the checks of R439 in their order, and what a one-item request of an admitted role is answered (R436 to R444). -/
set_option Elab.async false

namespace Sys2Proof.Proofs
open Sys2Proof.Machine Sys2Proof.Laws

/-! ## Responses on their way (R435, R447, R452) -/

theorem dict_reply (s : State) (path : Path) (mailbox : Bool) (f : Frame) (b : Bytes) : (reply s path mailbox f b).dict = s.dict :=
  dict_of_frame fr_reply rfl

/-- A counted frame moves of the dictionary unit the last answer alone. -/
theorem countFrame_dict (s : State) (status : Nat) (rs : List ItemRsp) : (countFrame s status rs).dict =
    { s.dict with answer := { frame := status, status := (rs.getLastD (itemFail 0)).status, stuck := (rs.getLastD (itemFail 0)).stuck
                              last := (rs.getLastD (itemFail 0)).last, value := (rs.getLastD (itemFail 0)).value } } := by
  have hinc : ∀ (u : State) (q e n : Nat), (incB u q e n).dict = u.dict := fun u q e n => dict_of_frame fr_incB rfl
  have hkept : ∀ (u v : State) (c : Prop) [Decidable c], u.dict = s.dict → v.dict = s.dict → (if c then u else v).dict = s.dict := by
    intro u v c _ hu hv
    split
    · exact hu
    · exact hv
  have h1 : (incB s 0x0030 0 1).dict = s.dict := hinc _ _ _ _
  have h2 := hkept (incB (incB s 0x0030 0 1) 0x0031 0 1) _ (status ≠ 0 || rs.any fun r => r.status != 0) ((hinc _ _ _ _).trans h1) h1
  have h3 := hkept (incB _ 0x0032 0 1) _ (status = 0x23 ∨ status = 0x24) ((hinc _ _ _ _).trans h2) h2
  unfold countFrame
  exact congrArg (fun d : DictUnit =>
    { d with answer := { frame := status, status := (rs.getLastD (itemFail 0)).status, stuck := (rs.getLastD (itemFail 0)).stuck
                         last := (rs.getLastD (itemFail 0)).last, value := (rs.getLastD (itemFail 0)).value } }) h3

/-- What answering a request may touch. -/
theorem onlyAnswer (s : State) (status : Nat) (rs : List ItemRsp) (path : Path) (mailbox : Bool) (f : Frame) (b : Bytes) :
    OnlyChanges [.host, .links, .dict, .stat, .out] s (reply (countFrame s status rs) path mailbox f b) :=
  Fr.only (k := 553984) (Fr.call fr_reply rfl (Fr.up fr_countFrame rfl)) rfl

/-! ## A request of one item (R432, R442) -/

/-- A frame of the dictionary's version that its port takes, of an admitted role, for this module, while nothing waits. -/
structure Admitted (s : State) (path : Path) (f : Frame) (r : Role) : Prop where
  live : dead s = false
  usable : pathLive s path = true
  taken : mgtTakes path f = true
  free : requestsWait s = false
  version : f.version = 1
  kind : f.kind = 1
  length : f.wellLen = true
  plain : f.auth = false
  role : claimed s path f = some r
  here : isLocal s f = true

theorem serveItem_free {s : State} {path : Path} {f : Frame} (hlive : dead s = false) (hpath : pathLive s path = true)
    (htaken : mgtTakes path f = true) (hfree : requestsWait s = false) (p : ItemOp) (it : Item) :
    serveItem s path f p it = .next (serveFrame s path false f [(p, it)]) := by
  unfold serveItem takeRequest
  rw [if_neg (by simp [hlive, hpath, htaken]), if_pos (by rw [hfree]; rfl)]

theorem serveFrame_local {s : State} {path : Path} {f : Frame} {r : Role} (hversion : f.version = 1) (hkind : f.kind = 1)
    (hlen : f.wellLen = true) (hrole : claimed s path f = some r) (hhere : isLocal s f = true) (p : ItemOp) (it : Item) :
    serveFrame s path false f [(p, it)] = serveLocal s path false f r [(p, it)] := by
  unfold serveFrame
  dsimp only
  rw [if_neg (by simp [hversion, hkind]), if_neg (by simp [hlen]), hrole]
  exact if_pos hhere

/-- A request of one item whose response fits is answered by what the item leaves (R436, R438). -/
theorem serveItem_answers {s t : State} {path : Path} {f : Frame} {r : Role} {p : ItemOp} {it : Item} {x : ItemRsp} (h : Admitted s path f r)
    (hreq : (requestBytes f [(p, it)]).length ≤ rspLimit path) (hact : actItem s ⟨r, path⟩ .all true p it = (t, x)) (hval : x.value.length ≤ 16) :
    ∃ u, serveItem s path f p it = .next u ∧ u.dict.answer = { frame := 0, status := x.status, stuck := x.stuck, last := x.last, value := x.value } ∧
      u.dict.params = t.dict.params ∧ OnlyChanges [.host, .links, .dict, .stat, .out] t u := by
  have hitems : actItems s ⟨r, path⟩ .all true [(p, it)] = (t, [x]) := by
    unfold actItems
    rw [hact]
    rfl
  have hlimit : 1500 ≤ rspLimit path := by
    unfold rspLimit
    split <;> omega
  have hsize : rspSize f [x] ≤ 44 := by
    unfold rspSize
    rw [if_neg (by rw [h.plain]; decide)]
    simp only [List.map_cons, List.map_nil, List.foldl_cons, List.foldl_nil]
    omega
  have hserve : serveLocal s path false f r [(p, it)] = reply (countFrame t 0 [x]) path false f (okBytes t f none [(p, it)] [x]) := by
    unfold serveLocal
    dsimp only
    rw [if_pos (by rw [h.plain]; rfl), hitems]
    dsimp only
    rw [if_neg, if_neg (by decide)]
    exact Nat.not_lt.mpr (Nat.max_le.mpr ⟨hreq, by omega⟩)
  refine ⟨_, serveItem_free h.live h.usable h.taken h.free p it, ?_⟩
  rw [serveFrame_local h.version h.kind h.length h.role h.here, hserve, dict_reply, countFrame_dict]
  exact ⟨rfl, rfl, onlyAnswer t 0 [x] path false f _⟩

section
variable {s : State} {w : Who} {g : Grant} {first : Bool} {it : Item} {i : ParamInfo}

theorem actItem_read (h : itemCheck s w g first .read it = .ok i) : actItem s w g first .read it = readItem s w i it := by
  unfold actItem
  rw [h]

theorem actItem_write (h : itemCheck s w g first .write it = .ok i) : actItem s w g first .write it = writeItem s w i it := by
  unfold actItem
  rw [h]

theorem actItem_describe (h : itemCheck s w g first .describe it = .ok i) :
    actItem s w g first .describe it = (s, ⟨0, i.typ, false, false, describeBytes s w i it.element⟩) := by
  unfold actItem
  rw [h]

end

theorem actItem_error {s : State} {w : Who} {g : Grant} {first : Bool} {p : ItemOp} {it : Item} {c : Nat}
    (h : itemCheck s w g first p it = .error c) : actItem s w g first p it = (s, itemFail c) := by
  unfold actItem
  rw [h]

/-! ## Reads, writes and descriptions (R436, R437) -/

theorem readItem_numeric {s u : State} {w : Who} {i : ParamInfo} {it : Item} {v : Bytes} (h8 : i.typ ≠ 8) (h9 : i.typ ≠ 9)
    (hread : readValue s w i it.element = .ok (u, v)) :
    ∃ stuck, readItem s w i it = (u, ⟨0, i.typ, false, stuck, v⟩) := by
  unfold readItem
  rw [if_pos ⟨h8, h9⟩, hread]
  exact ⟨_, rfl⟩

theorem writeItem_numeric {s u : State} {w : Who} {i : ParamInfo} {it : Item} {c : Nat} (h8 : i.typ ≠ 8) (h9 : i.typ ≠ 9)
    (htype : it.type = i.typ) (hlen : it.len = i.size) (hwrite : writeValue s w i it.element (slice it.value 0 it.len) = (u, c)) :
    ∃ x, writeItem s w i it = (u, x) ∧ x.status = c ∧ x.value = [] := by
  unfold writeItem
  dsimp only
  rw [if_neg (not_not_intro htype), if_pos ⟨h8, h9⟩, if_neg (not_not_intro hlen), hwrite]
  dsimp only
  split
  · rename_i hc
    exact ⟨_, rfl, hc.symm, rfl⟩
  · exact ⟨_, rfl, rfl, rfl⟩

theorem read_answered {s u : State} {path : Path} {f : Frame} {r : Role} {it : Item} {i : ParamInfo} {v : Bytes} (h : Admitted s path f r)
    (hreq : (requestBytes f [(.read, it)]).length ≤ rspLimit path) (hcheck : itemCheck s ⟨r, path⟩ .all true .read it = .ok i)
    (h8 : i.typ ≠ 8) (h9 : i.typ ≠ 9) (hread : readValue s ⟨r, path⟩ i it.element = .ok (u, v)) (hv : v.length ≤ 16) :
    ∃ t, exec (.read path f it) s = .next t ∧ t.dict.answer.frame = 0 ∧ t.dict.answer.status = 0 ∧ t.dict.answer.value = v ∧
      OnlyChanges [.host, .links, .dict, .stat, .out] u t := by
  obtain ⟨stuck, hitem⟩ := readItem_numeric h8 h9 hread
  obtain ⟨t, hexec, hanswer, _, honly⟩ := serveItem_answers h hreq ((actItem_read hcheck).trans hitem) hv
  exact ⟨t, hexec, by rw [hanswer], by rw [hanswer], by rw [hanswer], honly⟩

theorem write_answered {s u : State} {path : Path} {f : Frame} {r : Role} {it : Item} {i : ParamInfo} {c : Nat} (h : Admitted s path f r)
    (hreq : (requestBytes f [(.write, it)]).length ≤ rspLimit path) (hcheck : itemCheck s ⟨r, path⟩ .all true .write it = .ok i)
    (h8 : i.typ ≠ 8) (h9 : i.typ ≠ 9) (htype : it.type = i.typ) (hlen : it.len = i.size)
    (hwrite : writeValue s ⟨r, path⟩ i it.element (slice it.value 0 it.len) = (u, c)) :
    ∃ t, exec (.write path f it) s = .next t ∧ t.dict.answer.frame = 0 ∧ t.dict.answer.status = c ∧
      OnlyChanges [.host, .links, .dict, .stat, .out] u t := by
  obtain ⟨x, hitem, hstatus, hvalue⟩ := writeItem_numeric h8 h9 htype hlen hwrite
  obtain ⟨t, hexec, hanswer, _, honly⟩ := serveItem_answers h hreq ((actItem_write hcheck).trans hitem) (by rw [hvalue]; exact Nat.zero_le _)
  exact ⟨t, hexec, by rw [hanswer], by rw [hanswer]; exact hstatus, honly⟩

theorem length_describeBytes (s : State) (w : Who) (i : ParamInfo) (e : Nat) : (describeBytes s w i e).length = 16 := by
  simp only [describeBytes, List.length_append, length_leBytes]

theorem describe_answered {s : State} {path : Path} {f : Frame} {r : Role} {it : Item} {i : ParamInfo} (h : Admitted s path f r)
    (hreq : (requestBytes f [(.describe, it)]).length ≤ rspLimit path) (hcheck : itemCheck s ⟨r, path⟩ .all true .describe it = .ok i) :
    ∃ t, exec (.describe path f it) s = .next t ∧ t.dict.answer.frame = 0 ∧ t.dict.answer.status = 0 ∧
      t.dict.answer.value = describeBytes s ⟨r, path⟩ i it.element ∧ OnlyChanges [.host, .links, .dict, .stat, .out] s t := by
  obtain ⟨t, hexec, hanswer, _, honly⟩ := serveItem_answers h hreq (actItem_describe hcheck) (Nat.le_of_eq (length_describeBytes _ _ _ _))
  exact ⟨t, hexec, by rw [hanswer], by rw [hanswer], by rw [hanswer], honly⟩

theorem item_refused {s : State} {path : Path} {f : Frame} {r : Role} {it : Item} {p : ItemOp} {c : Nat} (h : Admitted s path f r)
    (hreq : (requestBytes f [(p, it)]).length ≤ rspLimit path) (hcheck : itemCheck s ⟨r, path⟩ .all true p it = .error c) :
    ∃ t, serveItem s path f p it = .next t ∧ t.dict.answer.frame = 0 ∧ t.dict.answer.status = c ∧ t.dict.params = s.dict.params ∧
      OnlyChanges [.host, .links, .dict, .stat, .out] s t := by
  obtain ⟨t, hexec, hanswer, hparams, honly⟩ := serveItem_answers h hreq (actItem_error hcheck) (Nat.zero_le _)
  exact ⟨t, hexec, by rw [hanswer], by rw [hanswer]; rfl, hparams, honly⟩

/-! ## The order of the checks (R439) -/

theorem itemCheck_notReady {s : State} {w : Who} {p : ItemOp} {it : Item} (h : notReady s w it.param (p == .write) = true) :
    itemCheck s w .all true p it = .error 9 := if_pos h

theorem itemCheck_reserved {s : State} {w : Who} {p : ItemOp} {it : Item} (hready : notReady s w it.param (p == .write) = false)
    (h : itemRsv p it = true) : itemCheck s w .all true p it = .error 12 := by
  unfold itemCheck
  rw [if_neg (by rw [hready]; decide), if_pos h]

theorem itemCheck_unknown {s : State} {w : Who} {p : ItemOp} {it : Item} (hready : notReady s w it.param (p == .write) = false)
    (hrsv : itemRsv p it = false) (h : dictRow it.param = none) : itemCheck s w .all true p it = .error 1 := by
  unfold itemCheck
  rw [if_neg (by rw [hready]; decide), if_neg (by rw [hrsv]; decide), h]

/-- The checks of a known parameter: its element, the access outcome, its own moon, the claim of the operator key. -/
theorem itemCheck_known {s : State} {w : Who} {p : ItemOp} {it : Item} {i : ParamInfo} (hready : notReady s w it.param (p == .write) = false)
    (hrsv : itemRsv p it = false) (hrow : dictRow it.param = some i) : itemCheck s w .all true p it =
      (if elementBad s w p i it.element then .error 2
      else if accessStatus (accessOf i w.role) p w.role ≠ 0 then .error (accessStatus (accessOf i w.role) p w.role)
      else if notOwn s w p i.num it.element then .error 3
      else if p == .write && i.num == 0xA001 && keyClaimed s w then .error 10 else .ok i) := by
  unfold itemCheck
  rw [if_neg (by rw [hready]; decide), if_neg (by rw [hrsv]; decide), hrow]
  dsimp only
  rw [show (!grantOk .all true p it.param) = false from rfl]
  simp only [Bool.false_eq_true, if_false]

theorem itemCheck_order {s : State} {w : Who} {p : ItemOp} {it : Item} {i : ParamInfo} (hready : notReady s w it.param (p == .write) = false)
    (hrsv : itemRsv p it = false) (hrow : dictRow it.param = some i) :
    (i.last < it.element → elementBad s w p i it.element = true) ∧
    (elementBad s w p i it.element = true → itemCheck s w .all true p it = .error 2) ∧
    (elementBad s w p i it.element = false → accessStatus (accessOf i w.role) p w.role ≠ 0 →
      itemCheck s w .all true p it = .error (accessStatus (accessOf i w.role) p w.role)) ∧
    (elementBad s w p i it.element = false → accessStatus (accessOf i w.role) p w.role = 0 →
      (notOwn s w p i.num it.element = true → itemCheck s w .all true p it = .error 3) ∧
      (notOwn s w p i.num it.element = false → p = .write → i.num = 0xA001 → keyClaimed s w = true →
        itemCheck s w .all true p it = .error 10) ∧
      (notOwn s w p i.num it.element = false → (p ≠ .write ∨ i.num ≠ 0xA001 ∨ keyClaimed s w = false) →
        itemCheck s w .all true p it = .ok i)) := by
  have hknown := itemCheck_known hready hrsv hrow
  refine ⟨fun h => ?_, fun h => ?_, fun helem hacc => ?_, fun helem hacc => ⟨fun hown => ?_, fun hown hp hnum hkey => ?_, fun hown hopen => ?_⟩⟩
  · unfold elementBad
    rw [decide_eq_true h]
    rfl
  · rw [hknown, if_pos h]
  · rw [hknown, if_neg (by rw [helem]; decide), if_pos hacc]
  · rw [hknown, if_neg (by rw [helem]; decide), if_neg (not_not_intro hacc), if_pos hown]
  · rw [hknown, if_neg (by rw [helem]; decide), if_neg (not_not_intro hacc), if_neg (by rw [hown]; decide), if_pos (by simp [hp, hnum, hkey])]
  · rw [hknown, if_neg (by rw [helem]; decide), if_neg (not_not_intro hacc), if_neg (by rw [hown]; decide), if_neg]
    rcases hopen with h | h | h
    · simp [h]
    · simp [h]
    · simp [h]

/-- Settles O50. -/
theorem dictionaryItemsAct : Obligations.DictionaryItemsAct := by
  unfold Obligations.DictionaryItemsAct
  refine ⟨fun s path f r it hlive hpath htaken hfree hversion hkind hlen hplain hrole hhere hreq => ?_, fun s w p it =>
    ⟨itemCheck_notReady, itemCheck_reserved, itemCheck_unknown, fun i => itemCheck_order⟩⟩
  have h : Admitted s path f r := ⟨hlive, hpath, htaken, hfree, hversion, hkind, hlen, hplain, hrole, hhere⟩
  refine ⟨fun i u v hcheck _ h8 h9 hread hv => read_answered h (hreq _) hcheck h8 h9 hread hv,
    fun i u c hcheck h8 h9 htype hsize hwrite => write_answered h (hreq _) hcheck h8 h9 htype hsize hwrite,
    fun i hcheck => describe_answered h (hreq _) hcheck, fun c p hcheck => ?_⟩
  have hrefused := item_refused h (hreq p) hcheck
  cases p with
  | read => exact hrefused
  | write => exact hrefused
  | describe => exact hrefused

end Sys2Proof.Proofs
end

section
/-! Frames that are refused, held, dropped or passed on, the answers of other modules, staging and PLCA (R432, R438, R441, R442, R446 to R451). -/
set_option Elab.async false

namespace Sys2Proof.Proofs
open Sys2Proof.Machine Sys2Proof.Laws

/-! ## Frames refused whole (R441) -/

theorem refuseFrame_dict (s : State) (path : Path) (mailbox : Bool) (f : Frame) (status low : Nat) :
    (refuseFrame s path mailbox f status low).dict = (countFrame s status []).dict := dict_reply _ _ _ _ _

theorem refuseFrame_answer (s : State) (path : Path) (mailbox : Bool) (f : Frame) (status low : Nat) :
    (refuseFrame s path mailbox f status low).dict.answer.frame = status ∧
    (refuseFrame s path mailbox f status low).dict.params = s.dict.params ∧
    (refuseFrame s path mailbox f status low).dict.forwarded = s.dict.forwarded ∧
    OnlyChanges [.host, .links, .dict, .stat, .out] s (refuseFrame s path mailbox f status low) := by
  rw [refuseFrame_dict, countFrame_dict]
  exact ⟨rfl, rfl, rfl, onlyAnswer s status [] path mailbox f _⟩

/-- Which code the checks of R441 and R449 refuse a frame with. -/
theorem serveFrame_refused {s : State} {path : Path} {f : Frame} {c : Nat} (p : ItemOp) (it : Item)
    (h : (f.version ≠ 1 ∨ f.kind ≠ 1) ∧ c = 0x20 ∨
      f.version = 1 ∧ f.kind = 1 ∧ f.wellLen = false ∧ c = 0x21 ∨
      f.version = 1 ∧ f.kind = 1 ∧ f.wellLen = true ∧ claimed s path f = none ∧ c = 0x22 ∨
      f.version = 1 ∧ f.kind = 1 ∧ f.wellLen = true ∧ (claimed s path f).isSome = true ∧ isLocal s f = false ∧ (∃ n, path = .vf n) ∧ c = 0x27) :
    serveFrame s path false f [(p, it)] = refuseFrame s path false f c 0 := by
  unfold serveFrame
  dsimp only
  rcases h with ⟨hbad, rfl⟩ | ⟨hversion, hkind, hlen, rfl⟩ | ⟨hversion, hkind, hlen, hrole, rfl⟩ |
    ⟨hversion, hkind, hlen, hrole, hremote, ⟨n, rfl⟩, rfl⟩
  · exact if_pos hbad
  · rw [if_neg (by simp [hversion, hkind])]
    exact if_pos (by simp [hlen])
  · rw [if_neg (by simp [hversion, hkind]), if_neg (by simp [hlen]), hrole]
  · obtain ⟨r, hr⟩ := Option.isSome_iff_exists.mp hrole
    rw [if_neg (by simp [hversion, hkind]), if_neg (by simp [hlen]), hr]
    dsimp only
    rw [hremote]
    rfl

theorem frame_refused {s : State} {path : Path} {f : Frame} {c : Nat} {p : ItemOp} {it : Item} (hlive : dead s = false)
    (hpath : pathLive s path = true) (htaken : mgtTakes path f = true) (hfree : requestsWait s = false)
    (h : serveFrame s path false f [(p, it)] = refuseFrame s path false f c 0) :
    ∃ t, serveItem s path f p it = .next t ∧ t.dict.answer.frame = c ∧ t.dict.params = s.dict.params ∧
      OnlyChanges [.host, .links, .dict, .stat, .out] s t := by
  refine ⟨_, serveItem_free hlive hpath htaken hfree p it, ?_⟩
  rw [h]
  obtain ⟨hframe, hparams, _, honly⟩ := refuseFrame_answer s path false f c 0
  exact ⟨hframe, hparams, honly⟩

/-! ## Requests behind others, and those that are too big (R438, R442, R447) -/

theorem serveItem_taken {s : State} {path : Path} {f : Frame} (hlive : dead s = false) (hpath : pathLive s path = true)
    (htaken : mgtTakes path f = true) (p : ItemOp) (it : Item) : serveItem s path f p it = .next (takeRequest s path f [(p, it)]) :=
  if_neg (by simp [hlive, hpath, htaken])

theorem serveItem_untaken {s : State} {path : Path} {f : Frame} (h : pathLive s path = false ∨ mgtTakes path f = false) (p : ItemOp) (it : Item) :
    serveItem s path f p it = .next s :=
  if_pos (by rcases h with h | h <;> simp [h])

theorem request_held {s : State} {path : Path} {f : Frame} {p : ItemOp} {it : Item} (hlive : dead s = false)
    (hpath : pathLive s path = true) (htaken : mgtTakes path f = true) (hwait : requestsWait s = true) (hroom : portFull s path = false) :
    ∃ t, serveItem s path f p it = .next t ∧ t.dict.held = s.dict.held ++ [⟨path, f, [(p, it)]⟩] ∧ OnlyChanges [.dict] s t := by
  refine ⟨_, serveItem_taken hlive hpath htaken p it, ?_⟩
  unfold takeRequest
  rw [if_neg (by rw [hwait]; decide), if_neg (by rw [hroom]; decide)]
  exact ⟨rfl, Fr.only (k := 8192) fr_modDict rfl⟩

theorem request_dropped {s : State} {path : Path} {f : Frame} {p : ItemOp} {it : Item} (hlive : dead s = false)
    (hpath : pathLive s path = true) (htaken : mgtTakes path f = true) (hwait : requestsWait s = true) (hfull : portFull s path = true) :
    ∃ t, serveItem s path f p it = .next t ∧ cntB t 0x0033 0 = Nat.min (cntB s 0x0033 0 + 1) 0xFFFFFFFF ∧ t.dict.held = s.dict.held ∧
      t.dict.answer = s.dict.answer := by
  have hdict : (incB s 0x0033 0 1).dict = s.dict := dict_of_frame fr_incB rfl
  refine ⟨_, serveItem_taken hlive hpath htaken p it, ?_⟩
  unfold takeRequest
  rw [if_neg (by rw [hwait]; decide), if_pos hfull, hdict]
  exact ⟨cntB_incB s 0x0033 0 1, rfl, rfl⟩

theorem tooBig_answer (s : State) (path : Path) (mailbox : Bool) (f : Frame) (key : Option Bytes) :
    (tooBig s path mailbox f key).dict.answer.frame = 0x28 := by
  unfold tooBig
  rw [dict_reply, countFrame_dict]

theorem request_tooBig {s : State} {path : Path} {f : Frame} {p : ItemOp} {it : Item} (hlive : dead s = false)
    (hpath : pathLive s path = true) (htaken : mgtTakes path f = true) (hfree : requestsWait s = false) (hversion : f.version = 1)
    (hkind : f.kind = 1) (hlen : f.wellLen = true) (hplain : f.auth = false) (hrole : (claimed s path f).isSome = true)
    (hhere : isLocal s f = true) (hbig : rspLimit path < (requestBytes f [(p, it)]).length) :
    ∃ t, serveItem s path f p it = .next t ∧ t.dict.answer.frame = 0x28 := by
  obtain ⟨r, hr⟩ := Option.isSome_iff_exists.mp hrole
  refine ⟨_, serveItem_free hlive hpath htaken hfree p it, ?_⟩
  rw [serveFrame_local hversion hkind hlen hr hhere]
  unfold serveLocal
  dsimp only
  rw [if_pos (by rw [hplain]; rfl), if_pos (Nat.lt_of_lt_of_le hbig (Nat.le_max_left _ _))]
  exact tooBig_answer s path false f none

/-! ## The gateway (R449 to R451) -/

theorem dict_sendBody (s : State) (k : CtlKind) (fabric : Nat) (b : Bytes) : (sendBody s k fabric b).dict = s.dict := dict_of_frame fr_sendBody rfl

theorem serveFrame_remote {s : State} {path : Path} {f : Frame} (l : List (ItemOp × Item)) (hl : l ≠ []) (hshort : l.length ≤ 64)
    (hversion : f.version = 1) (hkind : f.kind = 1) (hlen : f.wellLen = true) (hrole : (claimed s path f).isSome = true)
    (hremote : isLocal s f = false) (hvf : ∀ n, path ≠ .vf n) (htarget : f.target ≠ 0xFFFF) :
    serveFrame s path false f l = forwardFrame s path false f l := by
  obtain ⟨r, hr⟩ := Option.isSome_iff_exists.mp hrole
  unfold serveFrame
  dsimp only
  rw [if_neg (by simp [hversion, hkind]), if_neg (by simp [hlen, hl, hshort]), hr]
  dsimp only
  rw [if_neg (by rw [hremote]; decide), if_neg, if_neg htarget]
  cases path with
  | vf n => exact absurd rfl (hvf n)
  | pf => exact Bool.false_ne_true
  | mgt n => exact Bool.false_ne_true
  | link n => exact Bool.false_ne_true

theorem forwardFrame_sends {s : State} {path : Path} {f : Frame} {l : List (ItemOp × Item)} {e d h : Nat} (hgate : gatewayTo s f = some (e, d, h))
    (hroom : s.dict.forwarded.length < 16) (hsmall : (forwardBytes f h l).length ≤ 1500) :
    ∃ x, (forwardFrame s path false f l).dict.forwarded = s.dict.forwarded ++ [x] ∧ x.request = s.dict.nextRequest ∧ x.member = e ∧ x.hops = h ∧
      x.frame = f ∧ (forwardFrame s path false f l).dict.nextRequest = s.dict.nextRequest + 1 := by
  unfold forwardFrame
  rw [hgate]
  dsimp only
  rw [if_neg (by omega), if_neg (by omega), dict_sendBody]
  exact ⟨_, rfl, rfl, rfl, rfl, rfl, rfl⟩

theorem suffix_out_sendBody (s : State) (k : CtlKind) (fabric : Nat) (b : Bytes) :
    Out.dictFrame (.link (portTo s fabric)) b :: s.out <:+ (sendBody s k fabric b).out := by
  unfold sendBody
  dsimp only
  split
  · exact suffix_out_foldl (fun v x hv => suffix_out_offer (hv.trans (List.suffix_cons _ _)) _ 5 _) _ _ (List.suffix_refl _)
  · exact List.suffix_refl _

theorem finishMailbox_holds {s : State} {fn : Nat} {b : Bytes} (hbusy : (getFn s fn).mbx = .busy) : (getFn (finishMailbox s fn b) fn).rspBuf = b := by
  unfold finishMailbox
  dsimp only
  rw [if_neg (not_not_intro hbusy)]
  have hset := getFn_setFn s fn { getFn s fn with mbx := .done, rspBuf := b, rspLen := b.length }
  generalize setFn s fn { getFn s fn with mbx := .done, rspBuf := b, rspLen := b.length } = u at hset ⊢
  have hevent : ∀ v, EventFunc (getFn u fn) (getFn (if (getFn s fn).mbxIrq = true then sendMsix u fn v else u) fn) := by
    intro v
    split
    · exact (eventHost_sendMsix (EventHost.refl u.host) fn v).funcs fn
    · exact EventFunc.refl _
  rw [hevent, hset]

theorem eventHost_countFrame {p : HostUnit} {s : State} (h : EventHost p s.host) (status : Nat) (rs : List ItemRsp) :
    EventHost p (countFrame s status rs).host := by
  have hinc : ∀ (u : State) (c : Prop) [Decidable c] (q : Nat), EventHost p u.host → EventHost p (if c then incB u q 0 1 else u).host := by
    intro u c _ q hu
    split
    · exact eventHost_incB hu _ _ _
    · exact hu
  exact hinc _ _ 0x0032 (hinc _ _ 0x0031 (eventHost_incB h 0x0030 0 1))

/-- A response handed back: what it leaves by each kind of path. -/
theorem reply_reaches (s : State) (path : Path) (mailbox : Bool) (f : Frame) (b : Bytes) :
    (∀ p, path = .mgt p → Out.dictFrame path (mgtFrame p f b) ∈ (reply s path mailbox f b).out) ∧
    (∀ p, path = .link p → ∃ q, Out.dictFrame (.link q) b ∈ (reply s path mailbox f b).out) ∧
    (mailbox = true → (path = .pf ∨ ∃ n, path = .vf n) → (getFn s (pathFn path)).mbx = .busy →
      (getFn (reply s path mailbox f b) (pathFn path)).rspBuf = b) := by
  refine ⟨?_, ?_, ?_⟩
  · rintro p rfl
    exact List.mem_cons_self
  · rintro p rfl
    exact ⟨portTo s f.source, (suffix_out_sendBody s .dictRsp f.source b).subset List.mem_cons_self⟩
  · rintro rfl (rfl | ⟨n, rfl⟩) hbusy
    · exact finishMailbox_holds hbusy
    · exact finishMailbox_holds hbusy

theorem gatewayResponse_returns {s : State} {n : Nat} {b : Bytes} {x : Forwarded} (hlive : dead s = false)
    (hx : (s.dict.forwarded.find? fun x => x.request == n) = some x) :
    ∃ t, exec (.gatewayResponse n b) s = .next t ∧ (∀ y ∈ t.dict.forwarded, y.request ≠ n) ∧
      (∀ p, x.origin = .mgt p → Out.dictFrame x.origin (mgtFrame p x.frame b) ∈ t.out) ∧
      (∀ p, x.origin = .link p → ∃ q, Out.dictFrame (.link q) b ∈ t.out) ∧
      (x.mailbox = true → (x.origin = .pf ∨ ∃ n, x.origin = .vf n) → (getFn s (pathFn x.origin)).mbx = .busy →
        (getFn t (pathFn x.origin)).rspBuf = b) := by
  let u := modDict (countFrame s (field b 10 1) ((rspStatuses (field b 9 1) (b.drop 16)).map itemFail)) fun d =>
    { d with forwarded := d.forwarded.filter fun y => y.request != n }
  have hexec : exec (.gatewayResponse n b) s = .next (reply u x.origin x.mailbox x.frame b) := by
    show execGatewayResponse n b s = _
    unfold execGatewayResponse
    rw [hx]
    exact if_neg (by rw [hlive]; decide)
  obtain ⟨hmgt, hlink, hbox⟩ := reply_reaches u x.origin x.mailbox x.frame b
  refine ⟨_, hexec, fun y hy => ?_, hmgt, hlink, fun hmail hfn hbusy => hbox hmail hfn ?_⟩
  · rw [dict_reply] at hy
    simpa using (List.mem_filter.mp hy).2
  · have hevent := eventHost_countFrame (EventHost.refl s.host) (field b 10 1) ((rspStatuses (field b 9 1) (b.drop 16)).map itemFail)
    have hfunc : EventFunc (getFn s (pathFn x.origin)) (getFn u (pathFn x.origin)) := hevent.funcs _
    rw [hfunc]
    exact hbusy

theorem targetTimeout_answers {s : State} {n : Nat} {x : Forwarded} (hlive : dead s = false)
    (hx : (s.dict.forwarded.find? fun x => x.request == n) = some x) (hlate : x.sentAt + 100000 * x.hops ≤ s.orbit.refNs) :
    ∃ t, exec (.targetTimeout n) s = .next t ∧ (∀ y ∈ t.dict.forwarded, y.request ≠ n) ∧ t.dict.answer.frame = 0x26 := by
  let u := modDict s fun d => { d with forwarded := d.forwarded.filter fun y => y.request != n }
  have hexec : exec (.targetTimeout n) s = .next (refuseFrame u x.origin x.mailbox x.frame 0x26 0) := by
    show execTargetTimeout n s = _
    unfold execTargetTimeout
    rw [hx]
    exact if_neg (by simp [hlive, hlate])
  obtain ⟨hframe, _, hforwarded, _⟩ := refuseFrame_answer u x.origin x.mailbox x.frame 0x26 0
  refine ⟨_, hexec, fun y hy => ?_, hframe⟩
  rw [hforwarded] at hy
  simpa using (List.mem_filter.mp hy).2

/-! ## Staging and PLCA (R438, R446) -/

theorem stagingExpire_drops {s : State} {w : Who} {x : Staging} (hx : x ∈ s.dict.staging) (hw : x.who = w)
    (hold : x.at_ + 1000000000 ≤ s.orbit.refNs) :
    ∃ t, exec (.stagingExpire w) s = .next t ∧ (∀ y ∈ t.dict.staging, y.who ≠ w) ∧ OnlyChanges [.dict] s t := by
  have hexec : exec (.stagingExpire w) s = .next (dropStaging s w) := if_pos (List.any_eq_true.mpr ⟨x, hx, by simp [hw, hold]⟩)
  refine ⟨_, hexec, fun y hy => ?_, Fr.only (k := 8192) fr_dropStaging rfl⟩
  simpa using (List.mem_filter.mp hy).2

theorem plca_acts {s : State} {p : Nat} (hp : plcaPort s p = true) :
    (tget s.dict.plcaAt 0 p + 4000000 ≤ s.orbit.refNs →
      ∃ t, exec (.plcaBeaconTimeout p) s = .next t ∧ p ∈ t.dict.csma ∧ OnlyChanges [.dict] s t) ∧
    (s.orbit.refNs < tget s.dict.plcaAt 0 p + 4000000 → exec (.plcaBeaconTimeout p) s = .next s) ∧
    ∃ t, exec (.plcaBeacon p) s = .next t ∧ p ∉ t.dict.csma ∧ tget t.dict.plcaAt 0 p = s.orbit.refNs ∧ OnlyChanges [.dict] s t := by
  refine ⟨fun hlate => ?_, fun hsoon => if_neg (by simp [hsoon]), ?_⟩
  · have hexec : exec (.plcaBeaconTimeout p) s = _ := if_pos (by simp [hp, hlate])
    exact ⟨_, hexec, mem_addNum.mpr (.inl rfl), Fr.only (k := 8192) fr_modDict rfl⟩
  · have hexec : exec (.plcaBeacon p) s = _ := if_pos hp
    exact ⟨_, hexec, fun h => (mem_delNum.mp h).2 rfl, tget_tset_same _ _ _ _, Fr.only (k := 8192) fr_modDict rfl⟩

/-- Settles O51. -/
theorem framesGatewayAndStaging : Obligations.FramesGatewayAndStaging := by
  unfold Obligations.FramesGatewayAndStaging
  refine ⟨⟨fun s path f it p c hlive hpath htaken hfree h => ?_, fun s path f it p hlive hpath htaken => ?_, fun s path f it p h => ?_,
    fun s path f it e d h hlive hpath htaken hfree hversion hkind hsmall hlen hrole hremote hvf htarget hgate hroom => ?_⟩,
    fun s w x => stagingExpire_drops, fun s n b x hlive hx => ⟨gatewayResponse_returns hlive hx, targetTimeout_answers hlive hx⟩, fun s p => plca_acts⟩
  · have hrefused := frame_refused hlive hpath htaken hfree (serveFrame_refused p it h)
    cases p with
    | read => exact hrefused
    | write => exact hrefused
    | describe => exact hrefused
  · have hacts : _ ∧ _ ∧ _ := ⟨request_held (p := p) (it := it) hlive hpath htaken, request_dropped (p := p) (it := it) hlive hpath htaken,
      request_tooBig (p := p) (it := it) hlive hpath htaken⟩
    cases p with
    | read => exact hacts
    | write => exact hacts
    | describe => exact hacts
  · have hidle := serveItem_untaken h p it
    cases p with
    | read => exact hidle
    | write => exact hidle
    | describe => exact hidle
  · obtain ⟨x, hforwarded, hrequest, hmember, hhops, hframe, hnext⟩ := forwardFrame_sends (path := path) (l := [(.read, it)]) hgate hroom hsmall
    rw [← serveFrame_remote [(.read, it)] (List.cons_ne_nil _ _) (by simp) hversion hkind hlen hrole hremote hvf htarget] at hforwarded hnext
    exact ⟨_, x, serveItem_free hlive hpath htaken hfree .read it, hforwarded, hrequest, hmember, hhops, hframe, hnext⟩

end Sys2Proof.Proofs
end

section
/-! Fault-Stop: its causes, what it leaves, and bridges that fail (R20, R456, R462, R464, R469 to R471). -/
set_option Elab.async false

namespace Sys2Proof.Proofs
open Sys2Proof.Machine Sys2Proof.Laws

/-! ## Moons that Fault-Stop frees (R248, R471) -/

theorem getMoon_resave_ne {s : State} {m k n : Nat} (h : k ≠ m) : getMoon (resave s m n) k = getMoon s k := by
  have hgrant : ∀ l c, (grantPages s m .save l c).1.moons = s.moons := fun l c => moons_of_frame fr_grantPages rfl
  have hfree : ∀ l : List Nat, (l.foldl freePage s).moons = s.moons := fun l => moons_foldl (fun s a => moons_of_frame fr_freePage rfl) l s
  unfold resave
  dsimp only
  split
  · exact (getMoon_modMoon_ne _ _ h).trans (getMoon_of_moons (hgrant _ _) k)
  · exact (getMoon_modMoon_ne _ _ h).trans (getMoon_of_moons (hfree _) k)

theorem getMoon_freeMoon_ne {s : State} {m k : Nat} (h : k ≠ m) : getMoon (freeMoon s m) k = getMoon s k := by
  unfold freeMoon
  extract_lets s1 q1 q2 s2 s3 s4 x q3 q4 s5
  have h1 : s1.moons = s.moons := (moons_of_frame fr_clearCores rfl).trans (moons_of_frame fr_stopMoon rfl)
  clear_value s1
  have h3 : s3.moons = s1.moons := by
    refine moons_foldl (s := s2) (fun s e => ?_) _
    split
    · exact moons_of_frame fr_freePage rfl
    · rfl
  have h4 : getMoon s4 k = getMoon s3 k := (getMoon_modMoon_ne _ _ h).trans (getMoon_resave_ne h)
  have h6 : (clearCounters (closeCredit s5 m) m true).moons = s5.moons := (moons_of_frame fr_clearCounters rfl).trans (moons_of_frame fr_closeCredit rfl)
  rw [getMoon_of_moons h6, show getMoon s5 k = getMoon s4 k from tget_tset_ne _ _ _ _ _ h, h4, getMoon_of_moons h3, getMoon_of_moons h1]

theorem getMoon_closeSpan_ne {s : State} {m k : Nat} (flags endOrbit : Nat) (h : k ≠ m) :
    getMoon (closeSpan s m flags endOrbit) k = getMoon s k := by
  unfold closeSpan
  dsimp only
  split
  · rfl
  · have hcount : ∀ (u : State) (a b c d e : Nat) (p : JPayload),
        (jAppend (incA (incA (incA (incA (incA u 0x7000 m a) 0x7001 m b) 0x7002 m c) 0x7003 m d) 0x7004 m e) p).moons = u.moons := by
      intro u a b c d e p
      rw [jAppend_moons, incA_moons, incA_moons, incA_moons, incA_moons, incA_moons]
    exact (getMoon_of_moons (hcount _ _ _ _ _ _ _) k).trans (getMoon_setMoon_ne _ _ h)

theorem faultMoon_frees (s : State) (m : Nat) : (getMoon (faultMoon s m) m).state = .free := by
  unfold faultMoon
  split
  · assumption
  · obtain ⟨j, v, l, hfree⟩ := getMoon_freeMoon (closeSpan s m 2 s.orbit.now) m
    rw [getMoon_modMoon, hfree]
    rfl

theorem faultMoon_keepsFree {s : State} {k : Nat} (h : (getMoon s k).state = .free) (m : Nat) : (getMoon (faultMoon s m) k).state = .free := by
  rcases Decidable.em (k = m) with rfl | hne
  · exact faultMoon_frees s k
  · unfold faultMoon
    split
    · exact h
    · rw [getMoon_modMoon_ne _ _ hne, getMoon_freeMoon_ne hne, getMoon_closeSpan_ne 2 _ hne]
      exact h

theorem foldl_faultMoon_free {k : Nat} (l : List Nat) (s : State) (h : k ∈ l ∨ (getMoon s k).state = .free) :
    (getMoon (l.foldl faultMoon s) k).state = .free := by
  induction l generalizing s with
  | nil => exact h.resolve_left List.not_mem_nil
  | cons a l ih =>
    refine ih _ ?_
    rcases Decidable.em (k = a) with rfl | hne
    · exact .inr (faultMoon_frees s k)
    · exact h.imp (fun hk => (List.mem_cons.mp hk).resolve_left hne) fun hfree => faultMoon_keepsFree hfree a

theorem tget_of_not_mem {α : Type} {t : Tab α} {k : Nat} (d : α) (h : k ∉ t.map Prod.fst) : tget t d k = d := by
  induction t with
  | nil => rfl
  | cons e t ih =>
    rw [List.map_cons, List.mem_cons, not_or] at h
    unfold tget
    rw [if_neg (Ne.symm h.1)]
    exact ih h.2

/-- Every moon is FREE once each that stands in the table has gone. -/
theorem faultMoons_free (s : State) (k : Nat) : (getMoon ((s.moons.map Prod.fst).foldl faultMoon s) k).state = .free := by
  refine foldl_faultMoon_free _ s ((Decidable.em (k ∈ s.moons.map Prod.fst)).imp id fun h => ?_)
  unfold getMoon
  rw [tget_of_not_mem _ h]
  rfl

/-! ## The journal stays in use -/

theorem valid_jAppend (s : State) (p : JPayload) : (jAppend s p).journal.valid = s.journal.valid := by
  unfold jAppend
  rw [incA_journal]
  dsimp only
  split
  · rfl
  · rfl

theorem valid_jMust (s : State) (p : JPayload) : (jMust s p).journal.valid = s.journal.valid := by
  unfold jMust
  split
  · exact valid_jAppend s p
  · exact valid_jAppend s p

theorem valid_setSvc (s : State) (b : Nat) : (setSvc s b).journal.valid = s.journal.valid := by
  unfold setSvc
  split
  · rfl
  · rw [announce_journal, raisePf_journal, valid_jAppend]

theorem valid_foldl {α : Type} {f : State → α → State} (h : ∀ s a, (f s a).journal.valid = s.journal.valid) (l : List α) (s : State) :
    (l.foldl f s).journal.valid = s.journal.valid := by
  induction l generalizing s with
  | nil => rfl
  | cons a l ih => exact (ih _).trans (h s a)

theorem valid_retirePage (s : State) (key : Nat) : (retirePage s key).journal.valid = s.journal.valid := by
  have hcount : (incA (setPage s key ⟨.retired, 0⟩) 0x4001 (key / 32768) 1).journal = s.journal := incA_journal _ _ _ _
  unfold retirePage
  dsimp only
  split
  · rw [valid_setSvc, valid_jMust, hcount]
  · rw [valid_jMust, hcount]

theorem valid_freePage (s : State) (key : Nat) : (freePage s key).journal.valid = s.journal.valid := by
  unfold freePage
  split
  · exact valid_retirePage _ key
  · rfl

theorem valid_resave (s : State) (m n : Nat) : (resave s m n).journal.valid = s.journal.valid := by
  have hgrant : ∀ l c, (grantPages s m .save l c).1.journal = s.journal := fun l c => journal_of_frame fr_grantPages rfl
  unfold resave
  dsimp only
  split
  · exact congrArg JournalUnit.valid (hgrant _ _)
  · exact valid_foldl valid_freePage _ s

theorem valid_freeMoon (s : State) (m : Nat) : (freeMoon s m).journal.valid = s.journal.valid := by
  unfold freeMoon
  extract_lets s1 q1 q2 s2 s3 s4 x q3 q4 s5
  have h1 : s1.journal = s.journal := (journal_of_frame fr_clearCores rfl).trans (journal_of_frame fr_stopMoon rfl)
  clear_value s1
  have h3 : s3.journal.valid = s1.journal.valid := by
    refine valid_foldl (s := s2) (fun s e => ?_) _
    split
    · exact valid_freePage s _
    · rfl
  have h4 : s4.journal.valid = s3.journal.valid := valid_resave s3 m 0
  have h6 : (clearCounters (closeCredit s5 m) m true).journal = s5.journal := (journal_of_frame fr_clearCounters rfl).trans (journal_of_frame fr_closeCredit rfl)
  rw [h6, show s5.journal = s4.journal from rfl, h4, h3, h1]

theorem valid_closeSpan (s : State) (m flags endOrbit : Nat) : (closeSpan s m flags endOrbit).journal.valid = s.journal.valid := by
  unfold closeSpan
  dsimp only
  split
  · rfl
  · rw [valid_jAppend, incA_journal, incA_journal, incA_journal, incA_journal, incA_journal]
    rfl

theorem valid_faultMoon (s : State) (m : Nat) : (faultMoon s m).journal.valid = s.journal.valid := by
  unfold faultMoon
  split
  · rfl
  · rw [modMoon_journal, valid_freeMoon, valid_closeSpan]

/-! ## Entering Fault-Stop (R470, R471) -/

/-- What Fault-Stop leaves of the power unit. -/
theorem faultStop_powerUnit {s : State} {r : FaultReason} (h : s.power.phase = .up ∨ s.power.phase = .boot) :
    ∃ v b, (faultStop s r).power = { s.power with phase := .faultStop, faultReason := r.code, bootHalt := false, heldFacts := none, faultPin := true
                                                  svcReason := v, svcReqPin := b } := by
  have hn : ¬(s.power.phase = .off ∨ s.power.phase = .faultStop) := by rcases h with h | h <;> simp [h]
  unfold faultStop
  rw [if_neg hn]
  extract_lets p t1 t2 t3 t4 p5 t5
  have h2 : Fr 16777214 t1 t2 := Fr.call fr_disableRings rfl (fr_foldl (Fr.refl _ _) fun v x hv => Fr.call fr_faultMoon rfl hv)
  have h3 : Fr 16777214 t1 t3 := fr_ite (fun _ => Fr.call fr_jMust rfl h2) (fun _ => h2)
  have h4 : Fr 16777214 t1 t4 := Fr.call fr_zeroise rfl h3
  have e : SamePower t1 t4 := Fr.power24 h4 rfl
  rw [announce_power, raisePf_power]
  show ∃ v b, { t4.power with faultPin := true } = _
  rw [e]
  exact ⟨_, _, rfl⟩

theorem faultStop_stops {s : State} {r : FaultReason} (h : s.power.phase = .up ∨ s.power.phase = .boot) : StoppedFor r.code s (faultStop s r) := by
  obtain ⟨hphase, hreason, hpin⟩ := faultStop_power (r := r) h
  have hn : ¬(s.power.phase = .off ∨ s.power.phase = .faultStop) := by rcases h with h | h <;> simp [h]
  suffices hrest : (faultStop s r).tasks.tasks = [] ∧ (∀ e ∈ (faultStop s r).tasks.rings, e.2.state = .disabled) ∧
      (∀ m, (getMoon (faultStop s r) m).state = .free) ∧ (faultStop s r).mem.spm = [] ∧ (faultStop s r).cores.vregs = [] ∧
      (faultStop s r).sec.slots = [] ∧ (s.journal.valid = true → Journaled (faultStop s r) (.fault r.code)) by
    obtain ⟨htasks, hrings, hmoons, hspm, hvregs, hslots, hrecord⟩ := hrest
    exact ⟨hphase, hreason, hpin, htasks, hrings, hmoons, hspm, hvregs, hslots, hrecord⟩
  unfold faultStop
  rw [if_neg hn]
  extract_lets p t1 t2 t3 t4 p5 t5
  have htasks : t3.tasks = t2.tasks := by
    show (if _ then _ else _ : State).tasks = _
    split
    · exact jMust_tasks _ _
    · rfl
  have hmoons : t3.moons = t2.moons := by
    show (if _ then _ else _ : State).moons = _
    split
    · exact jMust_moons _ _
    · rfl
  rw [announce_tasks, raisePf_tasks, announce_mem, raisePf_mem, announce_cores, raisePf_cores, announce_sec, raisePf_sec]
  refine ⟨?_, ?_, fun m => ?_, rfl, rfl, rfl, fun hvalid => ?_⟩
  · show t3.tasks.tasks = []
    rw [htasks]
    rfl
  · show ∀ e ∈ t3.tasks.rings, _
    rw [htasks]
    intro e he
    obtain ⟨x, _, rfl⟩ := List.mem_map.mp he
    rfl
  · have hend : (announce s (raisePf t5 0x0109 [r.code])).moons = t2.moons := by
      rw [announce_moons, raisePf_moons]
      exact hmoons
    rw [getMoon_of_moons hend]
    exact faultMoons_free t1 m
  · have hvalid2 : t2.journal.valid = true := (valid_foldl valid_faultMoon _ t1).trans hvalid
    have hrecord : Journaled t3 (.fault r.code) := by
      show Journaled (if _ then _ else _) _
      rw [if_pos hvalid2]
      exact Sys2Proof.Laws.jMust_mem t2 _
    refine journaled_of_eq (t := announce s (raisePf t5 0x0109 [r.code])) hrecord ?_ ?_
    · rw [announce_journal, raisePf_journal]
      rfl
    · rw [announce_fw, raisePf_fw]
      rfl

/-! ## Its causes (R456, R462, R464, R470) -/

theorem alive_of_running {s : State} (h : s.power.phase = .up ∨ s.power.phase = .boot) : dead s = false := by
  unfold dead
  rcases h with h | h
  · rw [h]; rfl
  · rw [h]; rfl

/-- A stop counts from the state before its cause as well, where that left the journal alone. -/
theorem stoppedFor_of {n : Nat} {s u t : State} (h : StoppedFor n u t) (hj : u.journal = s.journal) : StoppedFor n s t :=
  { h with record := fun hv => h.record (by rw [hj]; exact hv) }

theorem faultStop_again {s : State} (h : s.power.phase = .faultStop) (r : FaultReason) : faultStop s r = s := if_pos (.inr h)

theorem regulator_stops {s : State} (rail : Nat) (h : s.power.phase = .up ∨ s.power.phase = .boot) :
    ∃ t, exec (.regulator rail) s = .next t ∧ StoppedFor 2 s t ∧ t.power.pwrGood = false ∧ t.power.failedRail = some rail := by
  let u := modPower s fun p => { p with failedRail := some rail, pwrGood := false }
  have hexec : exec (.regulator rail) s = .next (faultStop u .regulator) := if_neg (by rw [alive_of_running h]; decide)
  obtain ⟨v, b, hpower⟩ := faultStop_powerUnit (s := u) (r := .regulator) h
  refine ⟨_, hexec, stoppedFor_of (faultStop_stops (s := u) (r := .regulator) h) rfl, ?_, ?_⟩
  · rw [hpower]; rfl
  · rw [hpower]; rfl

theorem leak_stops {s : State} (h : s.power.phase = .up ∨ s.power.phase = .boot) :
    ∃ t, exec .leak s = .next t ∧ StoppedFor 3 s t ∧ t.power.leak = true := by
  let u := modPower s fun p => { p with leak := true }
  have hexec : exec .leak s = .next (faultStop u .leak) := if_neg (by rw [alive_of_running h]; decide)
  obtain ⟨v, b, hpower⟩ := faultStop_powerUnit (s := u) (r := .leak) h
  refine ⟨_, hexec, stoppedFor_of (faultStop_stops (s := u) (r := .leak) h) rfl, ?_⟩
  rw [hpower]
  rfl

/-- What a reading moves of the power unit (R462). -/
theorem thermalShift_kept (s : State) (die : Nat) (c : Int) : (thermalShift s die c).power.phase = s.power.phase ∧
    (thermalShift s die c).journal = s.journal := by
  unfold thermalShift
  extract_lets t limit sh hot warm
  split
  · show (if _ then _ else _ : State).power.phase = _ ∧ (if _ then _ else _ : State).journal = _
    split
    · exact ⟨rfl, rfl⟩
    · rw [raisePf_power, raisePf_journal]
      exact ⟨rfl, rfl⟩
  · split
    · exact ⟨rfl, rfl⟩
    · exact ⟨rfl, rfl⟩

theorem thermalShift_hot {s : State} {die : Nat} {c : Int}
    (h : Machine.Num.le (Machine.Num.mul (num32 (param s 0x1010 0)) (Machine.Num.ofInt 1000)) (Machine.Num.ofInt c) = true) :
    tget (thermalShift s die c).power.thermalShare 0 die = Nat.min 64 (tget s.power.thermalShare 0 die + 1) ∧
    die ∈ (thermalShift s die c).power.hotDies := by
  unfold thermalShift
  dsimp only
  rw [if_pos h]
  refine ⟨tget_tset_same _ _ _ _, ?_⟩
  show die ∈ (if _ then _ else _ : State).power.hotDies
  split
  · rename_i hin
    exact List.contains_iff_mem.mp hin
  · rw [raisePf_power]
    exact mem_addNum.mpr (.inl rfl)

theorem thermalEvaluate_stops {s : State} {die : Nat} {c : Int} (h : s.power.phase = .up ∨ s.power.phase = .boot) (hdie : die < 4)
    (hc : 115000 ≤ c) :
    ∃ t, exec (.thermalEvaluate die c) s = .next t ∧ StoppedFor 4 s t ∧
      (Machine.Num.le (Machine.Num.mul (num32 (param s 0x1010 0)) (Machine.Num.ofInt 1000)) (Machine.Num.ofInt c) = true →
        tget t.power.thermalShare 0 die = Nat.min 64 (tget s.power.thermalShare 0 die + 1) ∧ die ∈ t.power.hotDies) := by
  let v := setParam s 0x1110 die (milliF32 c)
  let u := thermalShift v die c
  have hexec : exec (.thermalEvaluate die c) s = .next (faultStop u .dieOvertemp) := by
    refine (if_neg ?_).trans (congrArg Host.Outcome.next (if_pos hc))
    rw [alive_of_running h]
    simp
    omega
  obtain ⟨hphase, hjournal⟩ := thermalShift_kept v die c
  have hup : u.power.phase = .up ∨ u.power.phase = .boot := by rw [hphase]; exact h
  obtain ⟨x, b, hpower⟩ := faultStop_powerUnit (s := u) (r := .dieOvertemp) hup
  refine ⟨_, hexec, stoppedFor_of (faultStop_stops (s := u) (r := .dieOvertemp) hup) hjournal, fun hhot => ?_⟩
  have hlimit : param v 0x1010 0 = param s 0x1010 0 := param_setParam_ne (by unfold pkey; omega)
  rw [hpower]
  exact thermalShift_hot (by rw [hlimit]; exact hhot)

/-- A later cause changes no reason (R470). -/
theorem faultStop_keepsReason {s : State} (rail : Nat) (h : s.power.phase = .faultStop) :
    exec .inputOv s = .next s ∧ (∃ t, exec (.regulator rail) s = .next t ∧ t.power.faultReason = s.power.faultReason) ∧
      ∃ t, exec .leak s = .next t ∧ t.power.faultReason = s.power.faultReason := by
  refine ⟨congrArg Host.Outcome.next (faultStop_again h .inputOv), ?_, ?_⟩
  · by_cases hdead : dead s = true
    · exact ⟨s, if_pos hdead, rfl⟩
    · refine ⟨_, if_neg hdead, ?_⟩
      rw [faultStop_again (s := modPower s fun p => { p with failedRail := some rail, pwrGood := false }) h]
      rfl
  · by_cases hdead : dead s = true
    · exact ⟨s, if_pos hdead, rfl⟩
    · refine ⟨_, if_neg hdead, ?_⟩
      rw [faultStop_again (s := modPower s fun p => { p with leak := true }) h]
      rfl

/-! ## Bridges (R20) -/

theorem tget_of_all {α : Type} {t : Tab α} {d : α} (h : ∀ e ∈ t, e.2 = d) (k : Nat) : tget t d k = d := by
  induction t with
  | nil => rfl
  | cons e t ih =>
    unfold tget
    split
    · exact h e List.mem_cons_self
    · exact ih fun x hx => h x (List.mem_cons_of_mem _ hx)

theorem phase_setSvc (s : State) (b : Nat) : (setSvc s b).power.phase = s.power.phase := by
  unfold setSvc
  split
  · rfl
  · rw [announce_power, raisePf_power, jAppend_power]

theorem bridgeFail_detours {s : State} {b : Nat} (hup : isUp s = true) (hb : b < 6) (hfull : ∀ e ∈ s.cores.bridges, e.2 = .full) :
    ∃ t, exec (.bridgeFail b) s = .next t ∧ tget t.cores.bridges .full b = .detour ∧ t.power.svcReason.toNat.testBit 3 = true ∧
      t.power.phase = .up := by
  let u : State := { s with cores := { s.cores with bridges := tset s.cores.bridges b .detour } }
  have hexec : exec (.bridgeFail b) s = .next (setSvc u 3) := by
    refine (if_neg ?_).trans (if_neg ?_)
    · rw [hup, tget_of_all hfull]
      simp
      omega
    · simp only [List.any_eq_true, not_exists, not_and]
      intro e he
      rw [hfull e he]
      decide
  refine ⟨_, hexec, ?_, setSvc_bit (by decide), ?_⟩
  · rw [setSvc_cores]
    exact tget_tset_same _ _ _ _
  · rw [phase_setSvc]
    exact beq_iff_eq.mp hup

theorem bridgeFail_stops {s : State} {b : Nat} (hup : isUp s = true) (hb : b < 6) (hfull : tget s.cores.bridges .full b = .full)
    (hother : ∃ e ∈ s.cores.bridges, e.2 ≠ .full) :
    ∃ t, exec (.bridgeFail b) s = .next t ∧ t.power.phase = .faultStop ∧ t.power.faultReason = 6 ∧ t.power.faultPin = true := by
  let u : State := { s with cores := { s.cores with bridges := tset s.cores.bridges b .failed } }
  obtain ⟨e, he, hne⟩ := hother
  have hexec : exec (.bridgeFail b) s = .next (faultStop u .bridge) := by
    refine (if_neg ?_).trans (if_pos (List.any_eq_true.mpr ⟨e, he, by rw [bne_iff_ne]; exact hne⟩))
    rw [hup, hfull]
    simp
    omega
  exact ⟨_, hexec, faultStop_power (s := u) (r := .bridge) (.inl (beq_iff_eq.mp hup))⟩

/-- Settles O52. -/
theorem faultStopsEraseAndStop : Obligations.FaultStopsEraseAndStop := by
  unfold Obligations.FaultStopsEraseAndStop
  exact ⟨⟨fun s h => ⟨_, rfl, faultStop_stops (r := .inputOv) h⟩, fun s rail => regulator_stops rail, fun s => leak_stops,
    fun s die c => thermalEvaluate_stops, fun s rail => faultStop_keepsReason rail⟩, fun s b => bridgeFail_detours, fun s b => bridgeFail_stops⟩

end Sys2Proof.Proofs
end

section
/-! What the steps of start-up leave of the power unit, the firmware banks and the entropy sources (R463, R465, R466, R488, R499). -/
set_option Elab.async false

namespace Sys2Proof.Proofs
open Sys2Proof.Machine Sys2Proof.Laws

/-! ## The power unit across a step -/

/-- The state of start-up stands, but for the step: phase and boot halt. -/
structure SameBoot (s t : State) : Prop where
  phase : t.power.phase = s.power.phase
  halt : t.power.bootHalt = s.power.bootHalt

theorem sameBoot_refl (s : State) : SameBoot s s := ⟨rfl, rfl⟩

theorem sameBoot_trans {s t u : State} (h : SameBoot s t) (g : SameBoot t u) : SameBoot s u :=
  ⟨g.phase.trans h.phase, g.halt.trans h.halt⟩

theorem sameBoot_of_same {s t : State} (h : SamePower s t) : SameBoot s t := by
  unfold SamePower at h
  exact ⟨by rw [h], by rw [h]⟩

theorem sameBoot_of_power {s t : State} (h : t.power = s.power) : SameBoot s t := ⟨by rw [h], by rw [h]⟩

theorem sameBoot_foldl {α : Type} {f : State → α → State} (h : ∀ s a, SameBoot s (f s a)) (l : List α) (s : State) : SameBoot s (l.foldl f s) := by
  induction l generalizing s with
  | nil => exact sameBoot_refl s
  | cons a l ih => exact sameBoot_trans (h s a) (ih _)

theorem sameBoot_replay (s : State) : SameBoot s (replay s) := by
  unfold replay
  extract_lets l s1 s2 s3 s4
  have h1 : Fr 34123848 s s1 := fr_foldl (Fr.refl _ _) fun v x h => Fr.call fr_applyRecord rfl h
  have h2 : Fr 34123848 s s2 := fr_foldl h1 fun v x h => Fr.call fr_closeLost rfl h
  have h3 : Fr 34123848 s s3 := fr_foldl h2 fun v x h => Fr.call fr_markGap rfl h
  have h4 : Fr 34123848 s s4 := fr_ite (fun _ => Fr.call fr_raisePf rfl h3) fun _ => h3
  clear_value s4
  split
  extract_lets s5
  have h5 : Fr 34123848 s s5 := fr_ite (fun _ => h4) fun _ => Fr.call fr_noteBanks rfl h4
  have hpower : s5.power = s.power := power_of_frame h5 rfl
  have hpool : ∀ u : State, (settlePool u).power = u.power := fun u => power_of_frame fr_settlePool rfl
  refine sameBoot_trans (sameBoot_of_power hpower) (sameBoot_trans (t := modPower s5 fun p => { p with svcReqPin := p.svcReason != 0 }) ⟨rfl, rfl⟩ ?_)
  exact sameBoot_of_power (hpool _)

theorem sameBoot_measureStep (s : State) (dv di : Nat) : SameBoot s (measureStep s dv di) := by
  unfold measureStep
  split
  · exact sameBoot_refl s
  · dsimp only
    split
    · exact ⟨rfl, rfl⟩
    · split
      · exact ⟨by rw [raisePf_power]; rfl, by rw [raisePf_power]; rfl⟩
      · exact ⟨rfl, rfl⟩

/-! ## Coolant (R463) -/

/-- COOLANT_HOT as a reading gives it. -/
def hotAt (s : State) (inlet : Int) : Bool :=
  decide (-20000 ≤ inlet ∧ inlet ≤ 120000) && Machine.Num.lt (Machine.Num.mul (num32 (param s 0x1011 0)) (Machine.Num.ofInt 1000)) (Machine.Num.ofInt inlet)

theorem readCoolant_power (s : State) (inlet outlet : Int) :
    ∃ x, (readCoolant s inlet outlet).power = { s.power with sensorFaults := x, coolantHot := hotAt s inlet } := by
  unfold readCoolant
  extract_lets ok shown s1 s2 note s3 hot was s4
  have hnote : ∀ (u : State) (i : Nat) (t : Int), (∃ x, (note u i t).power = { u.power with sensorFaults := x }) ∧ (note u i t).dict = u.dict := by
    intro u i t
    unfold note
    split
    · exact ⟨⟨_, rfl⟩, rfl⟩
    · rw [raisePf_power, raisePf_dict]
      exact ⟨⟨_, rfl⟩, rfl⟩
  obtain ⟨⟨x, hx⟩, hxd⟩ := hnote s2 0 inlet
  obtain ⟨⟨y, hy⟩, hyd⟩ := hnote (note s2 0 inlet) 1 outlet
  have hlimit : param s3 0x1011 0 = param s 0x1011 0 := by
    rw [param_of_dict (hyd.trans hxd)]
    show param (setParam (setParam (setParam s 0x1120 0 (shown inlet)) 0x1121 0 (shown outlet)) 0x1122 0 _) 0x1011 0 = _
    rw [param_setParam_ne (by decide), param_setParam_ne (by decide), param_setParam_ne (by decide)]
  have hhot : hot = hotAt s inlet := by
    show (ok inlet && Machine.Num.lt (Machine.Num.mul (num32 (param s3 0x1011 0)) (Machine.Num.ofInt 1000)) (Machine.Num.ofInt inlet)) = _
    rw [hlimit]
    rfl
  have h4 : s4.power = { s.power with sensorFaults := y, coolantHot := hotAt s inlet } := by
    show { s3.power with coolantHot := hot } = _
    rw [hhot, hy, hx]
    rfl
  refine ⟨y, ?_⟩
  split
  · rw [raisePf_power]; exact h4
  · exact h4

/-! ## The journal, the banks and the sources across the steps -/

theorem valid_beginRetire (s : State) (key : Nat) : (beginRetire s key).journal.valid = s.journal.valid := by
  unfold beginRetire
  dsimp only
  split
  · unfold retirePrivate
    split
    · rfl
    · exact valid_retirePage _ _
  · split
    · rfl
    · split
      · exact valid_retirePage s key
      · rfl

theorem valid_hardRepair (stack : Nat) (l : List Nat) (s : State) (e : Nat × RowInfo) : (hardRepair stack l s e).journal.valid = s.journal.valid := by
  unfold hardRepair
  dsimp only
  split
  · exact (valid_beginRetire _ _).trans (valid_jAppend s _)
  · exact (valid_jAppend _ _).trans (congrArg JournalUnit.valid (incA_journal s _ _ _))

theorem valid_bootHbm (s : State) (f : BootFacts) : (bootHbm s f).journal.valid = s.journal.valid := by
  have happly : ∀ u r, (applyHbm u r).journal.valid = u.journal.valid := fun u r =>
    congrArg JournalUnit.valid (journal_of_frame (fr_applyHbm (a0 := u) (a1 := r)) rfl)
  have hharden : ∀ u, (hardenRows u f).journal.valid = u.journal.valid := fun u => by
    unfold hardenRows
    exact valid_foldl (fun s e => valid_hardRepair _ _ s e) _ u
  have hretire : ∀ u, (retireWaiting u).journal.valid = u.journal.valid := fun u =>
    valid_foldl (f := fun s (e : Nat × PageInfo) => retirePage s e.1) (fun s e => valid_retirePage s e.1) _ u
  unfold bootHbm
  show (if _ then _ else _ : State).journal.valid = _
  split
  · rw [hretire, hharden, valid_foldl happly]
  · rfl

/-- Bank contents and the bank in use stand. -/
def SameBanks (s t : State) : Prop := t.fw.banks = s.fw.banks ∧ t.fw.running = s.fw.running

theorem sameBanks_of_fw {s t : State} (h : t.fw = s.fw) : SameBanks s t := ⟨by rw [h], by rw [h]⟩

theorem sameBanks_trans {s t u : State} (h : SameBanks s t) (g : SameBanks t u) : SameBanks s u := ⟨g.1.trans h.1, g.2.trans h.2⟩

/-- A step keeps the banks and enters no boot halt. -/
structure GoesOn (s t : State) : Prop where
  banks : SameBanks s t
  halt : s.power.bootHalt = false → t.power.bootHalt = false

theorem goesOn_trans {s t u : State} (h : GoesOn s t) (g : GoesOn t u) : GoesOn s u :=
  ⟨sameBanks_trans h.banks g.banks, fun hs => g.halt (h.halt hs)⟩

theorem goesOn_of_boot {s t : State} (h : SameBoot s t) (hfw : t.fw = s.fw) : GoesOn s t := ⟨sameBanks_of_fw hfw, fun hs => h.halt.trans hs⟩

theorem goesOn_faultStop (s : State) (r : FaultReason) : GoesOn s (faultStop s r) := by
  refine ⟨sameBanks_of_fw (fw_of_frame fr_faultStop rfl), fun hs => ?_⟩
  cases hphase : s.power.phase with
  | off => unfold faultStop; rw [if_pos (.inl hphase)]; exact hs
  | faultStop => unfold faultStop; rw [if_pos (.inr hphase)]; exact hs
  | boot =>
    obtain ⟨v, b, hpower⟩ := faultStop_powerUnit (r := r) (.inr hphase)
    rw [hpower]
  | up =>
    obtain ⟨v, b, hpower⟩ := faultStop_powerUnit (r := r) (.inl hphase)
    rw [hpower]

/-! ## Steps 9 to 11 (R325, R461, R465) -/

theorem sameBoot_bootAt (s : State) (n : Nat) : SameBoot s (bootAt s n) := ⟨rfl, rfl⟩

/-- The entropy sources are tested. -/
def tested (s : State) (f : BootFacts) : State := ((upTo 4).filter fun d => !f.entropyOk.contains d).foldl badEntropy (bootAt s 10)

/-- The cores have come up and the load steps are measured. -/
def warmed (s : State) (f : BootFacts) : State :=
  (upTo 8).foldl (fun s _ => measureStep s f.impedanceUohm 1000000)
    { tested s f with cores := { (tested s f).cores with mcode := (upTo 544).map fun k => (k, bankMcode (tested s f)) } }

/-- Ready. -/
def served (s : State) : State :=
  fillTrigger (announce s (settlePack (packParent (updateRole
    (modPower s fun p => { p with phase := .up, bootStep := 11, heldFacts := none, credit := 800000000, creditFull := true })))))

theorem bootReady_eq (s : State) (f : BootFacts) : bootReady s f =
    if (upTo 4).all fun d => (tested s f).sec.entropyBad.contains d then faultStop (tested s f) .entropy else served (warmed s f) := rfl

theorem tested_kept (s : State) (f : BootFacts) : SameBoot s (tested s f) ∧ (tested s f).fw = s.fw := by
  have hpower : ∀ u d, (badEntropy u d).power = u.power := fun u d => power_of_frame fr_badEntropy rfl
  have hframe : Fr 667648 (bootAt s 10) (tested s f) := fr_foldl (Fr.refl _ _) fun v x h => Fr.call fr_badEntropy rfl h
  have hfw : (tested s f).fw = (bootAt s 10).fw := fw_of_frame hframe rfl
  exact ⟨sameBoot_trans (sameBoot_bootAt s 10) (sameBoot_foldl (fun u d => sameBoot_of_power (hpower u d)) _ _), hfw⟩

theorem badEntropy_marks (l : List Nat) (s : State) (d : Nat) :
    d ∈ (l.foldl badEntropy s).sec.entropyBad ↔ d ∈ l ∨ d ∈ s.sec.entropyBad := by
  have hmark : ∀ u e, (badEntropy u e).sec.entropyBad = addNum u.sec.entropyBad e := fun u e => by
    unfold badEntropy
    rw [raisePf_sec, incA_sec]
  induction l generalizing s with
  | nil => simp
  | cons a l ih =>
    refine (ih (badEntropy s a)).trans ?_
    rw [hmark, mem_addNum, List.mem_cons]
    exact ⟨fun h => h.elim (fun h => .inl (.inr h)) fun h => h.elim (fun h => .inl (.inl h)) .inr,
      fun h => h.elim (fun h => h.elim (fun h => .inr (.inl h)) .inl) fun h => .inr (.inr h)⟩

theorem warmed_kept (s : State) (f : BootFacts) : SameBoot s (warmed s f) ∧ (warmed s f).fw = s.fw := by
  obtain ⟨hboot, hfw⟩ := tested_kept s f
  have hmeasure : ∀ (l : List Nat) (u : State), SameBoot u (l.foldl (fun s _ => measureStep s f.impedanceUohm 1000000) u) ∧
      (l.foldl (fun s _ => measureStep s f.impedanceUohm 1000000) u).fw = u.fw := fun l u =>
    ⟨sameBoot_foldl (fun v _ => sameBoot_measureStep v _ _) _ u,
      fw_of_frame (k := 17313796) (fr_foldl (Fr.refl _ _) fun v x h => Fr.call fr_measureStep rfl h) rfl⟩
  unfold warmed
  generalize tested s f = u at hboot hfw ⊢
  let v : State := { u with cores := { u.cores with mcode := (upTo 544).map fun k => (k, bankMcode u) } }
  have huv : SameBoot u v := ⟨rfl, rfl⟩
  have hfwv : v.fw = u.fw := rfl
  show SameBoot s ((upTo 8).foldl (fun s _ => measureStep s f.impedanceUohm 1000000) v) ∧
    ((upTo 8).foldl (fun s _ => measureStep s f.impedanceUohm 1000000) v).fw = s.fw
  clear_value v
  generalize upTo 8 = l
  obtain ⟨hcores, hcoresFw⟩ := hmeasure l v
  exact ⟨sameBoot_trans hboot (sameBoot_trans huv hcores), hcoresFw.trans (hfwv.trans hfw)⟩

/-- The module as it becomes Ready, before the pack learns of it. -/
def atReady (s : State) : State :=
  modPower s fun p => { p with phase := .up, bootStep := 11, heldFacts := none, credit := 800000000, creditFull := true }

theorem fr_served (s : State) : Fr 6880756 (atReady s) (served s) :=
  Fr.call fr_fillTrigger rfl (Fr.call fr_announce rfl (Fr.call fr_settlePack rfl (Fr.call fr_packParent rfl (Fr.up fr_updateRole rfl))))

theorem served_power (s : State) : (served s).power.phase = .up ∧ (served s).power.bootStep = 11 ∧ (served s).power.credit = 800000000 ∧
    (served s).power.bootHalt = s.power.bootHalt := by
  have hsame : SamePower (atReady s) (served s) := Fr.power24 (fr_served s) rfl
  unfold SamePower at hsame
  rw [hsame]
  exact ⟨rfl, rfl, rfl, rfl⟩

theorem goesOn_served (s : State) : GoesOn s (served s) := by
  have hfw : (served s).fw = (atReady s).fw := fw_of_frame (fr_served s) rfl
  obtain ⟨_, _, _, hhalt⟩ := served_power s
  exact ⟨sameBanks_of_fw hfw, fun hs => hhalt.trans hs⟩

theorem goesOn_bootReady (s : State) (f : BootFacts) : GoesOn s (bootReady s f) := by
  rw [bootReady_eq]
  split
  · obtain ⟨hboot, hfw⟩ := tested_kept s f
    exact goesOn_trans (goesOn_of_boot hboot hfw) (goesOn_faultStop _ _)
  · obtain ⟨hboot, hfw⟩ := warmed_kept s f
    exact goesOn_trans (goesOn_of_boot hboot hfw) (goesOn_served _)

/-- What a start-up that runs through comes to: Ready, or Fault-Stop for a die without an octet (R466). -/
def Runs (t : State) : Prop :=
  (t.power.phase = .up ∧ t.power.bootStep = 11 ∧ t.power.credit = 800000000) ∨ (t.power.phase = .faultStop ∧ t.power.faultReason = 9)

theorem bootReady_runs {s : State} {f : BootFacts} (hsources : s.sec.entropyBad = []) (hok : ∃ d ∈ f.entropyOk, d < 4) : Runs (bootReady s f) := by
  obtain ⟨d, hd, hd4⟩ := hok
  have hgood : d ∉ (tested s f).sec.entropyBad := by
    intro h
    rcases (badEntropy_marks _ (bootAt s 10) d).mp h with h | h
    · have hbad := (List.mem_filter.mp h).2
      rw [List.contains_iff_mem.mpr hd] at hbad
      exact absurd hbad (by decide)
    · rw [show (bootAt s 10).sec.entropyBad = [] from hsources] at h
      exact List.not_mem_nil h
  rw [bootReady_eq, if_neg]
  · obtain ⟨hphase, hstep, hcredit, _⟩ := served_power (warmed s f)
    exact .inl ⟨hphase, hstep, hcredit⟩
  · intro hall
    exact hgood (List.contains_iff_mem.mp (List.all_eq_true.mp hall d (List.mem_range.mpr hd4)))

theorem faultStop_noOctet {s : State} (h : s.power.phase = .boot) : Runs (faultStop s .noOctet) := by
  obtain ⟨hphase, hreason, _⟩ := faultStop_power (r := .noOctet) (.inr h)
  exact .inr ⟨hphase, hreason⟩

/-! ## Step 8: the replay and its reconciliation (R465, R466, R484) -/

/-- The journal is replayed and every failed core reconciled with it. -/
def reconciled (s : State) (f : BootFacts) : State := bootCores (if s.journal.valid then replay (bootAt s 8) else bootAt s 8) f

/-- Step 9 begins. -/
def stepNine (s : State) (f : BootFacts) : State :=
  modFw (bootAt (if (narrowBridges f).isEmpty then s else setSvc s 3) 9) fun w => { w with trialTried := false }

theorem bootReplay_eq (s : State) (f : BootFacts) : bootReplay s f =
    if emptyDie (reconciled s f) then faultStop (reconciled s f) .noOctet
    else if !s.journal.valid then faultStop (stepNine (reconciled s f) f) .journal else bootReady (stepNine (reconciled s f) f) f := rfl

theorem reconciled_kept (s : State) (f : BootFacts) : SameBoot s (reconciled s f) ∧ (reconciled s f).fw = s.fw ∧
    (reconciled s f).sec = s.sec := by
  have hstart : ∀ u : State, u = (if s.journal.valid then replay (bootAt s 8) else bootAt s 8) → SameBoot s u ∧ u.fw = s.fw ∧ u.sec = s.sec := by
    rintro u rfl
    split
    · have hfw : (replay (bootAt s 8)).fw = (bootAt s 8).fw := fw_of_frame fr_replay rfl
      have hsec : (replay (bootAt s 8)).sec = (bootAt s 8).sec := sec_of_frame fr_replay rfl
      exact ⟨sameBoot_trans (sameBoot_bootAt s 8) (sameBoot_replay _), hfw, hsec⟩
    · exact ⟨sameBoot_bootAt s 8, rfl, rfl⟩
  unfold reconciled
  generalize hu : (if s.journal.valid then replay (bootAt s 8) else bootAt s 8) = u
  obtain ⟨hboot, hfw, hsec⟩ := hstart u hu.symm
  have hsame : SamePower u (bootCores u f) := Fr.power24 fr_bootCores rfl
  have hfw' : (bootCores u f).fw = u.fw := fw_of_frame fr_bootCores rfl
  have hsec' : (bootCores u f).sec = u.sec := sec_of_frame fr_bootCores rfl
  exact ⟨sameBoot_trans hboot (sameBoot_of_same hsame), hfw'.trans hfw, hsec'.trans hsec⟩

theorem stepNine_kept (s : State) (f : BootFacts) : GoesOn s (stepNine s f) ∧ (stepNine s f).sec = s.sec := by
  unfold stepNine
  split
  · exact ⟨⟨⟨rfl, rfl⟩, id⟩, rfl⟩
  · have hsame : SamePower s (setSvc s 3) := Fr.power24 fr_setSvc rfl
    obtain ⟨_, hhalt⟩ := sameBoot_of_same hsame
    have hfw := setSvc_fw s 3
    have hsec := setSvc_sec s 3
    generalize setSvc s 3 = u at hhalt hfw hsec ⊢
    exact ⟨⟨⟨(congrArg FwUnit.banks hfw :), (congrArg FwUnit.running hfw :)⟩, fun hs => hhalt.trans hs⟩, hsec⟩

theorem goesOn_bootReplay (s : State) (f : BootFacts) : GoesOn s (bootReplay s f) := by
  obtain ⟨hboot, hfw, _⟩ := reconciled_kept s f
  have hrec := goesOn_of_boot hboot hfw
  have hnine := goesOn_trans hrec (stepNine_kept (reconciled s f) f).1
  rw [bootReplay_eq]
  split
  · exact goesOn_trans hrec (goesOn_faultStop _ _)
  · split
    · exact goesOn_trans hnine (goesOn_faultStop _ _)
    · exact goesOn_trans hnine (goesOn_bootReady _ f)

theorem bootReplay_runs {s : State} {f : BootFacts} (hphase : s.power.phase = .boot) (hvalid : s.journal.valid = true)
    (hsources : s.sec.entropyBad = []) (hok : ∃ d ∈ f.entropyOk, d < 4) : Runs (bootReplay s f) := by
  obtain ⟨hboot, _, hsec⟩ := reconciled_kept s f
  rw [bootReplay_eq]
  split
  · exact faultStop_noOctet (hboot.phase.trans hphase)
  · rw [if_neg (by rw [hvalid]; decide)]
    exact bootReady_runs (by rw [(stepNine_kept _ f).2, hsec]; exact hsources) hok

/-! ## Steps 5 to 7 (R19, R180, R465, R466) -/

theorem bootHbm_kept (s : State) (f : BootFacts) : SameBoot s (bootHbm s f) ∧ (bootHbm s f).fw = s.fw ∧
    (bootHbm s f).sec.entropyBad = s.sec.entropyBad := by
  have hsame : SamePower s (bootHbm s f) := Fr.power24 fr_bootHbm rfl
  have hfw : (bootHbm s f).fw = s.fw := fw_of_frame fr_bootHbm rfl
  have hrows : ∀ u : State, (retireWaiting (hardenRows u f)).sec = u.sec := fun u =>
    (sec_of_frame fr_retireWaiting rfl).trans (sec_of_frame fr_hardenRows rfl)
  have hrecords : ∀ (l : List JRec) (u : State), (l.foldl applyHbm u).sec = u.sec := fun l u =>
    sec_of_frame (k := 8208) (fr_foldl (Fr.refl _ _) fun v x h => Fr.call fr_applyHbm rfl h) rfl
  refine ⟨sameBoot_of_same hsame, hfw, ?_⟩
  unfold bootHbm
  show (if _ then _ else _ : State).sec.entropyBad = _
  split
  · rw [hrows, hrecords]
  · rfl

theorem bist_kept (s : State) (f : BootFacts) (n : Nat) : SameBoot s (bootBist (bootAt (bootAt s 6) n) f) ∧
    (bootBist (bootAt (bootAt s 6) n) f).fw = s.fw ∧ SameBoot s (fuseState (bootAt s n)) ∧ (fuseState (bootAt s n)).fw = s.fw ∧
    (fuseState (bootAt s n)).sec = s.sec ∧ (fuseState (bootAt s n)).journal = s.journal := by
  have hbist : ∀ u : State, (bootBist u f).power = u.power ∧ (bootBist u f).fw = u.fw := fun u =>
    ⟨power_of_frame fr_bootBist rfl, fw_of_frame fr_bootBist rfl⟩
  have hfuse : ∀ u : State, (fuseState u).power = u.power ∧ (fuseState u).fw = u.fw ∧ (fuseState u).sec = u.sec ∧ (fuseState u).journal = u.journal :=
    fun u => ⟨power_of_frame fr_fuseState rfl, fw_of_frame fr_fuseState rfl, sec_of_frame fr_fuseState rfl, journal_of_frame fr_fuseState rfl⟩
  obtain ⟨hpower, hfw⟩ := hbist (bootAt (bootAt s 6) n)
  obtain ⟨hpower', hfw', hsec', hjournal'⟩ := hfuse (bootAt s n)
  exact ⟨sameBoot_trans (t := bootAt (bootAt s 6) n) ⟨rfl, rfl⟩ (sameBoot_of_power hpower), hfw,
    sameBoot_trans (t := bootAt s n) ⟨rfl, rfl⟩ (sameBoot_of_power hpower'), hfw', hsec', hjournal'⟩

/-- Start-up after HBM and bridges, with what either found (R466). -/
theorem bootMiddle_eq (s : State) (f : BootFacts) : bootMiddle s f =
    (let u := bootHbm (bootAt s 5) f
    if f.stackFails.any fun k => decide (k < 8) then faultStop u .hbmTrain
    else if 2 ≤ (narrowBridges f).length then faultStop u .bridge
    else if emptyDie (bootBist (bootAt (bootAt u 6) 7) f) then faultStop (bootBist (bootAt (bootAt u 6) 7) f) .noOctet
    else bootReplay (fuseState (bootAt u 7)) f) := rfl

theorem goesOn_bootMiddle (s : State) (f : BootFacts) : GoesOn s (bootMiddle s f) := by
  obtain ⟨hboot, hfw, _⟩ := bootHbm_kept (bootAt s 5) f
  have hhbm : GoesOn s (bootHbm (bootAt s 5) f) := goesOn_trans (goesOn_of_boot (sameBoot_bootAt s 5) rfl) (goesOn_of_boot hboot hfw)
  rw [bootMiddle_eq]
  dsimp only
  generalize bootHbm (bootAt s 5) f = u at hhbm ⊢
  obtain ⟨hbist, hbistFw, hfuse, hfuseFw, _, _⟩ := bist_kept u f 7
  split
  · exact goesOn_trans hhbm (goesOn_faultStop _ _)
  · split
    · exact goesOn_trans hhbm (goesOn_faultStop _ _)
    · split
      · exact goesOn_trans hhbm (goesOn_trans (goesOn_of_boot hbist hbistFw) (goesOn_faultStop _ _))
      · exact goesOn_trans hhbm (goesOn_trans (goesOn_of_boot hfuse hfuseFw) (goesOn_bootReplay _ f))

theorem bootMiddle_runs {s : State} {f : BootFacts} (hphase : s.power.phase = .boot) (hvalid : s.journal.valid = true)
    (hsources : s.sec.entropyBad = []) (hstacks : f.stackFails = []) (hwide : narrowBridges f = []) (hok : ∃ d ∈ f.entropyOk, d < 4) :
    Runs (bootMiddle s f) := by
  obtain ⟨hboot, _, hsec⟩ := bootHbm_kept (bootAt s 5) f
  have hjournal := valid_bootHbm (bootAt s 5) f
  rw [bootMiddle_eq]
  dsimp only
  generalize bootHbm (bootAt s 5) f = u at hboot hsec hjournal ⊢
  obtain ⟨hbist, _, hfuse, _, hfuseSec, hfuseJournal⟩ := bist_kept u f 7
  have hu : u.power.phase = .boot := hboot.phase.trans hphase
  rw [if_neg (by rw [hstacks]; decide), if_neg (by rw [hwide]; decide)]
  split
  · exact faultStop_noOctet (hbist.phase.trans hu)
  · refine bootReplay_runs (hfuse.phase.trans hu) ?_ ?_ hok
    · rw [hfuseJournal]; exact hjournal.trans hvalid
    · rw [hfuseSec]; exact hsec.trans hsources

end Sys2Proof.Proofs
end

section
/-! Power-fail stop, start-up to Ready or to its holds and stops, recovery, and what does nothing without power (R457, R463 to R466, R492). -/
set_option Elab.async false

namespace Sys2Proof.Proofs
open Sys2Proof.Machine Sys2Proof.Laws

/-! ## Power-fail stop (R457) -/

theorem jAppend_opens (s : State) (p : JPayload) : ∃ r ∈ (jAppend s p).journal.openPage, r.payload = p ∧ r.seq = s.journal.seq := by
  unfold jAppend
  dsimp only
  rw [incA_journal]
  refine ⟨{ seq := s.journal.seq, time := if s.orbit.state == .unlocked then s.orbit.refNs else s.orbit.now,
            timeLocal := s.orbit.state == .unlocked, checkpoint := false, payload := p }, ?_, rfl, rfl⟩
  dsimp only
  split
  · exact List.mem_append_right _ List.mem_cons_self
  · exact List.mem_cons_self

theorem powerFailDetect_stops {s : State} (hon : s.power.phase ≠ .off) :
    ∃ t, exec .powerFailDetect s = .next t ∧ t.power.phase = .off ∧ t.power.railsOffAt = some 0 ∧ t.mem = State.reset.mem ∧
      t.cores = State.reset.cores ∧ t.tasks = State.reset.tasks ∧ t.moons = [] ∧ t.sec.operatorKeys = s.sec.operatorKeys ∧
      t.fw.banks = s.fw.banks ∧ t.journal.valid = s.journal.valid ∧
      (s.journal.valid = true → ∃ r ∈ t.journal.committed, r.payload = .ledgerSnap (openTotals s)) := by
  have hexec : exec .powerFailDetect s = .next (powerOff s) := if_neg hon
  let u := if s.journal.valid then jCommit (jAppend s (.ledgerSnap (openTotals s))) else s
  have hu : powerOff s = modPower (coldState u) fun p => { p with railsOffAt := some 0 } := rfl
  have hcommit : u.sec = s.sec ∧ u.fw = s.fw ∧ u.journal.valid = s.journal.valid := by
    show State.sec (if _ then _ else _) = _ ∧ State.fw (if _ then _ else _) = _ ∧ (State.journal (if _ then _ else _)).valid = _
    split
    · refine ⟨?_, ?_, (valid_jAppend s _)⟩
      · rw [jCommit_sec, jAppend_sec]
      · rw [jCommit_fw, jAppend_fw]
    · exact ⟨rfl, rfl, rfl⟩
  obtain ⟨hsec, hfw, hvalid⟩ := hcommit
  rw [hu] at hexec
  refine ⟨_, hexec, rfl, rfl, rfl, rfl, rfl, rfl, (congrArg SecUnit.operatorKeys hsec :), (congrArg FwUnit.banks hfw :), hvalid, fun hv => ?_⟩
  have hcommitted : (modPower (coldState u) fun p => { p with railsOffAt := some 0 }).journal.committed =
      (jCommit (jAppend s (.ledgerSnap (openTotals s)))).journal.committed := by
    show (State.journal (if _ then _ else _)).committed = _
    rw [if_pos hv]
  rw [hcommitted]
  show ∃ r ∈ (jAppend s _).journal.committed ++ (jAppend s _).journal.programming ++ (jAppend s _).journal.openPage, _
  obtain ⟨r, hr, hpayload, _⟩ := jAppend_opens s (.ledgerSnap (openTotals s))
  exact ⟨r, List.mem_append_right _ hr, hpayload⟩

/-! ## Steps 1 to 4 (R463 to R466) -/

theorem exec_startsUp {s : State} {f : BootFacts} {c : Instr} (h : startsUp s f c) : exec c s = .next (startUp s f) := by
  obtain ⟨hoff, ⟨rfl, hrest⟩ | ⟨rfl, n, hn, hlong⟩⟩ := h
  · exact congrArg Host.Outcome.next (if_pos ⟨hoff, hrest⟩)
  · refine congrArg Host.Outcome.next (if_pos ⟨hoff, by rw [hn]; rfl, ?_⟩)
    unfold railsRested
    rw [hn]
    exact decide_eq_true hlong

theorem startUp_leaks {s : State} {f : BootFacts} (h : f.leakEarly = true) :
    (startUp s f).power.phase = .faultStop ∧ (startUp s f).power.leak = true ∧ (startUp s f).power.faultReason = 3 ∧
      (startUp s f).power.bootStep = 2 ∧ (startUp s f).power.faultPin = true := by
  unfold startUp
  dsimp only
  rw [if_pos h]
  exact ⟨rfl, h, rfl, rfl, rfl⟩

/-- The module at step 2, its journal selected. -/
def romStage (s : State) (f : BootFacts) : State :=
  selectRegion (modPower (modPower (coldState s) fun p => { p with roleSel := f.roleSel % 4, slotId := f.slotId % 32, leak := f.leakEarly })
    fun p => { p with phase := .boot, pwrGood := true }) f

theorem startUp_eq {s : State} {f : BootFacts} (h : f.leakEarly = false) : startUp s f = bootRom (loadValues (romStage s f)) f := by
  unfold startUp
  dsimp only
  rw [if_neg (by rw [h]; decide)]
  rfl

/-- What the ROM stage finds: Boot, the reset values, the bank contents. -/
structure AtRom (s t : State) : Prop where
  phase : t.power.phase = .boot
  sources : t.sec.entropyBad = []
  dict : t.dict = State.reset.dict
  banks : t.fw.banks = s.fw.banks

theorem romStage_atRom (s : State) (f : BootFacts) : AtRom s (romStage s f) := by
  have hselect : ∀ u : State, (selectRegion u f).power = u.power ∧ (selectRegion u f).sec = u.sec ∧ (selectRegion u f).dict = u.dict ∧
      (selectRegion u f).fw = u.fw := fun u =>
    ⟨power_of_frame fr_selectRegion rfl, sec_of_frame fr_selectRegion rfl, dict_of_frame fr_selectRegion rfl, fw_of_frame fr_selectRegion rfl⟩
  unfold romStage
  generalize hu : (modPower (modPower (coldState s) fun p => { p with roleSel := f.roleSel % 4, slotId := f.slotId % 32, leak := f.leakEarly })
    fun p => { p with phase := .boot, pwrGood := true }) = u
  obtain ⟨hpower, hsec, hdict, hfw⟩ := hselect u
  subst hu
  exact ⟨by rw [hpower]; rfl, by rw [hsec]; rfl, by rw [hdict]; rfl, by rw [hfw]; rfl⟩

theorem romStage_valid {s : State} {f : BootFacts} (hvalid : s.journal.valid = true) (hok : f.journalOk = true) (htorn : f.torn = none) :
    (romStage s f).journal.valid = true ∧ (romStage s f).journal.committed = s.journal.committed := by
  unfold romStage selectRegion
  dsimp only
  rw [htorn]
  refine ⟨?_, rfl⟩
  show (s.journal.valid && f.journalOk) = true
  rw [hvalid, hok]
  rfl

theorem romStage_invalid {s : State} {f : BootFacts} (hvalid : s.journal.valid = false) : (romStage s f).journal.valid = false := by
  have hno : (s.journal.valid && f.journalOk) = false := by rw [hvalid]; rfl
  unfold romStage selectRegion
  dsimp only
  split
  · exact hno
  · rw [if_pos]
    · exact hno
    · rw [show (modPower (modPower (coldState s) fun p => { p with roleSel := f.roleSel % 4, slotId := f.slotId % 32, leak := f.leakEarly })
        fun p => { p with phase := .boot, pwrGood := true }).journal.valid = s.journal.valid from rfl, hno]
      rfl

theorem loadValues_none {s : State} (h : s.journal.valid = false ∨ s.journal.committed = []) : loadValues s = s := by
  unfold loadValues
  rcases h with h | h
  · exact if_neg (by rw [h]; decide)
  · rw [h]
    exact ite_self _

/-- Bank A runs where the journal holds no record and the bank, as manufactured, verifies. -/
theorem chooseBank_bankA {s : State} {f : BootFacts} (hvalid : s.journal.valid = true) (hempty : s.journal.committed = [])
    (himage : (getBank s 0).image = []) (hok : f.bankAOk = true) : ∃ g, chooseBank s f = (some 0, modFw s g) ∧ ∀ w, (g w).banks = w.banks := by
  have hverifies : bankFails s f 0 = 0 := by
    unfold bankFails
    dsimp only
    rw [himage]
    exact if_pos hok
  have hfirst : firstBank s f [0] = (some 0, s) := by
    unfold firstBank
    exact if_pos hverifies
  unfold chooseBank
  rw [if_neg (by rw [hvalid]; decide), hempty, show bankRecord [] = (0, 0, 0) from rfl]
  dsimp only
  rw [ite_self, show (if (((0 : Nat) == 1) && !s.fw.trialTried) = true then [0] else []) ++ [if ((0 : Nat) == 1) = true then 1 - 0 else 0] ++
    (if (!((0 : Nat) == 1) && (0 : Nat) == 2) = true then [1 - 0] else []) = [0] from rfl, hfirst]
  exact ⟨_, rfl, fun w => rfl⟩

/-! ## Step 3 (R466, R499) -/

theorem bootRom_runs {s : State} {f : BootFacts} {b : Nat} {t : State} (h : chooseBank (bootAt (trainHost s) 3) f = (some b, t)) :
    bootRom s f = bootRun t f := by
  unfold bootRom
  rw [h]

theorem bootRom_halts {s : State} {f : BootFacts} {t : State} (h : chooseBank (bootAt (trainHost s) 3) f = (none, t)) :
    (bootRom s f).power = { s.power with bootStep := 3, bootHalt := true, faultPin := true, heldFacts := some f } := by
  have hpower : t.power = { s.power with bootStep := 3 } := by
    have hchosen : (chooseBank (bootAt (trainHost s) 3) f).2.power = (bootAt (trainHost s) 3).power := power_of_frame fr_chooseBank rfl
    rw [h] at hchosen
    exact hchosen.trans (congrArg (fun p : PowerUnit => { p with bootStep := 3 }) (power_of_frame fr_trainHost rfl))
  unfold bootRom
  rw [h]
  show { t.power with bootHalt := true, faultPin := true, heldFacts := some f } = _
  rw [hpower]

theorem bankFails_manufactured {s : State} {f : BootFacts} {b : Nat} (himage : (getBank s b).image = [])
    (hbad : (if b = 0 then f.bankAOk else f.bankBOk) = false) : bankFails s f b ≠ 0 := by
  unfold bankFails
  dsimp only
  rw [himage, hbad]
  show 1 + Config.openValue 22 b % 4 ≠ 0
  omega

theorem firstBank_next {s : State} {f : BootFacts} {b : Nat} {l : List Nat} (h : bankFails s f b ≠ 0) :
    ∃ t, t.fw = s.fw ∧ firstBank s f (b :: l) = firstBank t f l := by
  refine ⟨raiseServed s 0x0A04 [b, bankFails s f b], fw_of_frame fr_raiseServed rfl, ?_⟩
  rw [firstBank]
  exact if_neg h

/-- Without a valid region bank A is tried, then bank B (R499). -/
theorem chooseBank_none {s : State} {f : BootFacts} (hvalid : s.journal.valid = false) (hA : (getBank s 0).image = [])
    (hB : (getBank s 1).image = []) (hbadA : f.bankAOk = false) (hbadB : f.bankBOk = false) : ∃ t, chooseBank s f = (none, t) := by
  obtain ⟨t, hfw, hfirst⟩ := firstBank_next (l := [1]) (bankFails_manufactured (b := 0) hA hbadA)
  have hB' : (getBank t 1).image = [] := by
    unfold getBank at hB ⊢
    rw [hfw]; exact hB
  obtain ⟨u, _, hsecond⟩ := firstBank_next (l := []) (bankFails_manufactured (b := 1) hB' hbadB)
  refine ⟨u, ?_⟩
  unfold chooseBank
  rw [if_pos (by rw [hvalid]; rfl), hfirst, hsecond]
  rfl

/-! ## Step 4 (R463, R464, R466) -/

/-- The endpoint's and the ports' part of steps 3 and 4. -/
def atChecks (s : State) : State :=
  let t := bootAt (trainHost (modPower s fun p => { p with bootHalt := false, faultPin := false, heldFacts := none })) 4
  { t with links := { t.links with ports := (upTo 32).map fun p => let x := getPort t p; (p, if x.enabled then { x with phase := .down } else x) } }

theorem bootRun_eq (s : State) (f : BootFacts) : bootRun s f =
    if f.leak then faultStop (modPower (atChecks s) fun p => { p with leak := true }) .leak
    else bootCoolant (atChecks s) f f.coolantMilli f.outletMilli := rfl

theorem atChecks_power (s : State) :
    (atChecks s).power = { s.power with bootHalt := false, faultPin := false, heldFacts := none, bootStep := 4 } :=
  congrArg (fun p : PowerUnit => { p with bootStep := 4 })
    (power_of_frame (s := modPower s fun p => { p with bootHalt := false, faultPin := false, heldFacts := none }) fr_trainHost rfl)

theorem atChecks_kept (s : State) : (atChecks s).fw = s.fw ∧ (atChecks s).sec = s.sec ∧ (atChecks s).journal = s.journal := by
  generalize hu : (modPower s fun p => { p with bootHalt := false, faultPin := false, heldFacts := none }) = u
  have hfw : (trainHost u).fw = u.fw := fw_of_frame fr_trainHost rfl
  have hsec : (trainHost u).sec = u.sec := sec_of_frame fr_trainHost rfl
  have hjournal : (trainHost u).journal = u.journal := journal_of_frame fr_trainHost rfl
  subst hu
  exact ⟨hfw, hsec, hjournal⟩

theorem goesOn_bootCoolant (s : State) (f : BootFacts) (inlet outlet : Int) : GoesOn s (bootCoolant s f inlet outlet) := by
  obtain ⟨x, hpower⟩ := readCoolant_power s inlet outlet
  have hfw : (readCoolant s inlet outlet).fw = s.fw := fw_of_frame fr_readCoolant rfl
  have hread : GoesOn s (readCoolant s inlet outlet) := ⟨sameBanks_of_fw hfw, fun h => by rw [hpower]; exact h⟩
  unfold bootCoolant
  dsimp only
  refine goesOn_trans hread ?_
  generalize readCoolant s inlet outlet = u
  split
  · exact ⟨⟨rfl, rfl⟩, id⟩
  · refine goesOn_trans (t := modPower u fun p => { p with heldFacts := none }) ⟨⟨rfl, rfl⟩, id⟩ (goesOn_bootMiddle _ f)

theorem bootRun_banks (s : State) (f : BootFacts) : SameBanks s (bootRun s f) ∧ (bootRun s f).power.bootHalt = false := by
  have hhalt : (atChecks s).power.bootHalt = false := by rw [atChecks_power]
  have hfw := sameBanks_of_fw (atChecks_kept s).1
  have hrest : GoesOn (atChecks s) (bootRun s f) := by
    rw [bootRun_eq]
    split
    · exact goesOn_trans (t := modPower (atChecks s) fun p => { p with leak := true }) ⟨⟨rfl, rfl⟩, id⟩ (goesOn_faultStop _ _)
    · exact goesOn_bootCoolant _ _ _ _
  exact ⟨sameBanks_trans hfw hrest.banks, hrest.halt hhalt⟩

theorem param_trainHost {s : State} {p e : Nat} (h : pkey 0x0010 0 ≠ pkey p e) : param (trainHost s) p e = param s p e := by
  unfold trainHost
  split
  · rfl
  · exact param_setParam_ne h.symm

theorem hotAt_atChecks {s : State} (hdict : ∀ p e, pkey 0x0010 0 ≠ pkey p e → param s p e = param State.reset p e) (inlet : Int) :
    hotAt (atChecks s) inlet = inletHot inlet := by
  have hne : pkey 0x0010 0 ≠ pkey 0x1011 0 := by decide
  have hparam : param (atChecks s) 0x1011 0 = param State.reset 0x1011 0 := (param_trainHost hne).trans (hdict _ _ hne)
  unfold hotAt inletHot
  rw [hparam]

/-- What step 3 on a bank finds: Boot, a valid journal, four entropy sources, default parameters. -/
structure Ready3 (s : State) : Prop where
  phase : s.power.phase = .boot
  valid : s.journal.valid = true
  sources : s.sec.entropyBad = []
  params : ∀ p e, pkey 0x0010 0 ≠ pkey p e → param s p e = param State.reset p e

theorem startUp_runsBank {s : State} {f : BootFacts} (hearly : f.leakEarly = false) (hvalid : s.journal.valid = true) (hjournal : f.journalOk = true)
    (htorn : f.torn = none) (hempty : s.journal.committed = []) (himage : (getBank s 0).image = []) (hbank : f.bankAOk = true) :
    ∃ u, startUp s f = bootRun u f ∧ Ready3 u := by
  obtain ⟨hphase, hsources, hdict, hbanks⟩ := romStage_atRom s f
  obtain ⟨hok, hcommitted⟩ := romStage_valid (f := f) hvalid hjournal htorn
  have hvalues : loadValues (romStage s f) = romStage s f := loadValues_none (.inr (hcommitted.trans hempty))
  have hstart := startUp_eq (s := s) hearly
  rw [hvalues] at hstart
  have himage' : (getBank (romStage s f) 0).image = [] := by
    unfold getBank at himage ⊢
    rw [hbanks]; exact himage
  have hcommitted' := hcommitted.trans hempty
  generalize romStage s f = r at *
  have hjournalT : (trainHost r).journal = r.journal := journal_of_frame fr_trainHost rfl
  have hfwT : (trainHost r).fw = r.fw := fw_of_frame fr_trainHost rfl
  have hpowerT : (trainHost r).power = r.power := power_of_frame fr_trainHost rfl
  have hsecT : (trainHost r).sec = r.sec := sec_of_frame fr_trainHost rfl
  obtain ⟨g, hchosen, _⟩ := chooseBank_bankA (s := bootAt (trainHost r) 3) (f := f) (by show (trainHost r).journal.valid = _; rw [hjournalT]; exact hok)
    (by show (trainHost r).journal.committed = _; rw [hjournalT]; exact hcommitted') (by
      unfold getBank at himage' ⊢
      rw [show (bootAt (trainHost r) 3).fw = r.fw from hfwT]; exact himage') hbank
  refine ⟨_, hstart.trans (bootRom_runs hchosen), ?_, ?_, ?_, fun p e hne => ?_⟩
  · show (trainHost r).power.phase = _
    rw [hpowerT]; exact hphase
  · show (trainHost r).journal.valid = _
    rw [hjournalT]; exact hok
  · show (trainHost r).sec.entropyBad = _
    rw [hsecT]; exact hsources
  · exact (param_trainHost hne).trans (param_of_dict hdict p e)

theorem bootRun_leaks {s : State} {f : BootFacts} (h : s.power.phase = .boot) (hleak : f.leak = true) :
    (bootRun s f).power.phase = .faultStop ∧ (bootRun s f).power.faultReason = 3 ∧ (bootRun s f).power.faultPin = true := by
  have hphase : (atChecks s).power.phase = .boot := by rw [atChecks_power]; exact h
  rw [bootRun_eq, if_pos hleak]
  obtain ⟨v, b, hpower⟩ := faultStop_powerUnit (r := .leak) (s := modPower (atChecks s) fun p => { p with leak := true }) (.inr hphase)
  rw [hpower]
  exact ⟨rfl, rfl, rfl⟩

theorem bootRun_held {s : State} {f : BootFacts} (h : Ready3 s) (hleak : f.leak = false) (hhot : inletHot f.coolantMilli = true) :
    (bootRun s f).power.phase = .boot ∧ (bootRun s f).power.bootStep = 4 ∧ (bootRun s f).power.heldFacts = some f := by
  obtain ⟨x, hpower⟩ := readCoolant_power (atChecks s) f.coolantMilli f.outletMilli
  rw [hotAt_atChecks h.params, hhot, atChecks_power] at hpower
  rw [bootRun_eq, if_neg (by rw [hleak]; decide)]
  unfold bootCoolant
  dsimp only
  rw [if_pos (by rw [hpower])]
  refine ⟨?_, ?_, rfl⟩
  · show (readCoolant _ _ _).power.phase = _
    rw [hpower]; exact h.phase
  · show (readCoolant _ _ _).power.bootStep = _
    rw [hpower]

theorem bootRun_runs {s : State} {f : BootFacts} (h : Ready3 s) (hleak : f.leak = false) (hcool : inletHot f.coolantMilli = false)
    (hstacks : f.stackFails = []) (hwide : narrowBridges f = []) (hok : ∃ d ∈ f.entropyOk, d < 4) : Runs (bootRun s f) := by
  obtain ⟨x, hpower⟩ := readCoolant_power (atChecks s) f.coolantMilli f.outletMilli
  rw [hotAt_atChecks h.params, hcool, atChecks_power] at hpower
  obtain ⟨_, hsecA, hjournalA⟩ := atChecks_kept s
  have hsec : (readCoolant (atChecks s) f.coolantMilli f.outletMilli).sec = (atChecks s).sec := sec_of_frame fr_readCoolant rfl
  have hjournal : (readCoolant (atChecks s) f.coolantMilli f.outletMilli).journal.valid = (atChecks s).journal.valid :=
    congrArg JournalUnit.valid (journal_of_frame fr_readCoolant rfl)
  rw [bootRun_eq, if_neg (by rw [hleak]; decide)]
  unfold bootCoolant
  dsimp only
  rw [if_neg (by rw [hpower]; exact Bool.false_ne_true)]
  refine bootMiddle_runs ?_ ?_ ?_ hstacks hwide hok
  · show (readCoolant _ _ _).power.phase = _
    rw [hpower]; exact h.phase
  · refine hjournal.trans ?_
    rw [hjournalA]; exact h.valid
  · show (readCoolant _ _ _).sec.entropyBad = _
    rw [hsec, hsecA]; exact h.sources

/-! ## Boot halt and recovery (R466, R492) -/

theorem startUp_halts {s : State} {f : BootFacts} (hearly : f.leakEarly = false) (hvalid : s.journal.valid = false)
    (hA : (getBank s 0).image = []) (hB : (getBank s 1).image = []) (hbadA : f.bankAOk = false) (hbadB : f.bankBOk = false) :
    (startUp s f).power.phase = .boot ∧ (startUp s f).power.bootStep = 3 ∧ (startUp s f).power.bootHalt = true ∧ (startUp s f).power.faultPin = true := by
  obtain ⟨hphase, _, _, hbanks⟩ := romStage_atRom s f
  have hinvalid := romStage_invalid (f := f) hvalid
  rw [startUp_eq hearly, loadValues_none (.inl hinvalid)]
  have hbank : ∀ b, getBank (romStage s f) b = getBank s b := fun b => by unfold getBank; rw [hbanks]
  rw [← hbank] at hA hB
  generalize romStage s f = r at *
  have hjournalT : (trainHost r).journal = r.journal := journal_of_frame fr_trainHost rfl
  have hfwT : (trainHost r).fw = r.fw := fw_of_frame fr_trainHost rfl
  have hbankT : ∀ b, getBank (bootAt (trainHost r) 3) b = getBank r b := fun b => by
    unfold getBank
    rw [show (bootAt (trainHost r) 3).fw = r.fw from hfwT]
  obtain ⟨t, hnone⟩ := chooseBank_none (s := bootAt (trainHost r) 3) (f := f) (by show (trainHost r).journal.valid = _; rw [hjournalT]; exact hinvalid)
    (by rw [hbankT]; exact hA) (by rw [hbankT]; exact hB) hbadA hbadB
  rw [bootRom_halts hnone]
  exact ⟨hphase, rfl, rfl, rfl⟩

theorem recoveryImage_loads {s : State} {f : BootFacts} {image : Bytes} (hheld : s.power.heldFacts = some f) (hhalt : s.power.bootHalt = true)
    (hdebug : s.sec.debug ≠ .locked) (hsome : image ≠ []) (hfits : image.length ≤ 33554432) :
    ∃ t, exec (.recoveryImage image) s = .next t ∧ getBank t 0 = bankOf image (verifyImage s image == 0) ∧
      (verifyImage s image = 0 → t.fw.running = 0 ∧ t.power.bootHalt = false) ∧ (verifyImage s image ≠ 0 → t.power = s.power) := by
  let u := modFw s fun w => { w with banks := tset w.banks 0 (bankOf image (verifyImage s image == 0)) }
  have hexec : exec (.recoveryImage image) s = (if verifyImage s image ≠ 0 then .next (raiseServed u 0x0A04 [0, verifyImage s image])
      else .next (bootRun (modFw u fun w => { w with running := 0, trial := false, other := 3, trialTried := false }) f)) := by
    show execRecoveryImage image s = _
    unfold execRecoveryImage
    rw [hheld]
    refine if_neg ?_
    rw [hhalt]
    simp only [Bool.not_true, Bool.false_or, Bool.or_eq_true, beq_iff_eq, List.isEmpty_iff, decide_eq_true_eq, not_or, Nat.not_lt]
    exact ⟨⟨hdebug, hsome⟩, hfits⟩
  have hbank : ∀ t : State, t.fw.banks = u.fw.banks → getBank t 0 = bankOf image (verifyImage s image == 0) := fun t ht => by
    unfold getBank
    rw [ht]
    exact tget_tset_same _ _ _ _
  by_cases hwhy : verifyImage s image = 0
  · obtain ⟨⟨hbanks, hrunning⟩, hgoes⟩ := bootRun_banks (modFw u fun w => { w with running := 0, trial := false, other := 3, trialTried := false }) f
    exact ⟨_, hexec.trans (if_neg (not_not_intro hwhy)), hbank _ hbanks, fun _ => ⟨hrunning, hgoes⟩, fun hne => absurd hwhy hne⟩
  · have hfw : (raiseServed u 0x0A04 [0, verifyImage s image]).fw = u.fw := fw_of_frame fr_raiseServed rfl
    have hpower : (raiseServed u 0x0A04 [0, verifyImage s image]).power = u.power := power_of_frame fr_raiseServed rfl
    exact ⟨_, hexec.trans (if_pos hwhy), hbank _ (by rw [hfw]), fun h => absurd h hwhy, fun _ => hpower⟩

/-! ## Without power (log 1) -/

theorem dead_of_off {s : State} (h : s.power.phase = .off) : dead s = true := by
  unfold dead
  rw [h]
  rfl

theorem serveItem_dead {s : State} (h : dead s = true) (path : Path) (f : Frame) (op : ItemOp) (i : Item) : serveItem s path f op i = .next s :=
  if_pos (by rw [h]; rfl)

/-- Settles O53: each row of start-up is followed step by step, by what each step keeps of the power unit, the banks and the journal. -/
theorem powerFailsAndStartUps : Obligations.PowerFailsAndStartUps := by
  refine ⟨⟨fun s hon => powerFailDetect_stops hon, ?_, ?_, fun s f c hstart hearly => ?_, fun s f c hstart hearly hvalid hA hB hbadA hbadB => ?_,
    fun s f image hheld hhalt hdebug hsome hfits => recoveryImage_loads hheld hhalt hdebug hsome hfits⟩, fun s w path f i n hoff => ?_⟩
  · intro s f c hstart hearly hvalid hjournal htorn hempty himage hbank
    obtain ⟨u, hu, hready⟩ := startUp_runsBank hearly hvalid hjournal htorn hempty himage hbank
    have hexec := exec_startsUp hstart
    rw [hu] at hexec
    exact ⟨fun hleak => ⟨_, hexec, bootRun_leaks hready.phase hleak⟩, fun hleak hhot => ⟨_, hexec, bootRun_held hready hleak hhot⟩,
      fun hleak hcool hstacks hwide hok => ⟨_, hexec, bootRun_runs hready hleak hcool hstacks hwide hok⟩⟩
  · intro s f hoff hearly hvalid hjournal htorn hempty himage hbank hleak hcool hstacks hwide hok
    obtain ⟨u, hu, hready⟩ := startUp_runsBank hearly hvalid hjournal htorn hempty himage hbank
    have hruns : Runs (startUp s f) := by
      rw [hu]
      exact bootRun_runs hready hleak hcool hstacks hwide hok
    exact ⟨fun hrested => ⟨_, exec_startsUp ⟨hoff, .inl ⟨rfl, hrested⟩⟩, hruns⟩,
      fun n hn hlong => ⟨_, exec_startsUp ⟨hoff, .inr ⟨rfl, n, hn, hlong⟩⟩, hruns⟩⟩
  · exact ⟨_, exec_startsUp hstart, startUp_leaks hearly⟩
  · exact ⟨_, exec_startsUp hstart, startUp_halts hearly hvalid hA hB hbadA hbadB⟩
  · have hdead := dead_of_off hoff
    exact ⟨serveItem_dead hdead path f .read i, serveItem_dead hdead path f .write i, serveItem_dead hdead path f .describe i, if_pos hdead,
      if_pos hdead, if_pos hdead⟩

end Sys2Proof.Proofs
end

section
/-! Input bands, the power controller, the thermal share, coolant readings and Drain (R456, R459, R461 to R463, R468). -/
set_option Elab.async false

namespace Sys2Proof.Proofs
open Sys2Proof.Machine Sys2Proof.Laws

theorem exec_whenUp {s t : State} {c : Instr} (h : exec c s = whenUp s t) (hup : isUp s = true) : exec c s = .next t :=
  h.trans (if_pos hup)

/-! ## Input bands (R456) -/

theorem inputHigh_samples {s : State} {mv : Nat} (hup : isUp s = true) (h : 60000 < mv) : exec (.inputHigh mv) s = .next (sampleInput s mv) :=
  exec_whenUp (if_pos h) hup

theorem inputLow_samples {s : State} {mv : Nat} (hup : isUp s = true) (h : mv < 46000) : exec (.inputLow mv) s = .next (sampleInput s mv) :=
  exec_whenUp (if_pos h) hup

theorem sampleInput_power (s : State) (mv : Nat) : (sampleInput s mv).power = { s.power with band := inputBand mv } := by
  unfold sampleInput
  extract_lets t
  by_cases h : inputBand mv = s.power.band
  · rw [if_pos h, h]
  · rw [if_neg h]
    split
    · rw [raisePf_power]; rfl
    · rw [raisePf_power]; rfl
    · rfl

/-- A band that raises no event is only noted. -/
theorem sampleInput_quiet {s : State} {mv : Nat} (hhigh : inputBand mv ≠ .high) (hlow : inputBand mv ≠ .low) :
    sampleInput s mv = modPower s fun p => { p with band := inputBand mv } := by
  unfold sampleInput
  extract_lets t
  by_cases h : inputBand mv = s.power.band
  · rw [if_pos h]
    show s = { s with power := { s.power with band := inputBand mv } }
    rw [h]
  · rw [if_neg h]
    split
    · next hband => exact absurd hband hhigh
    · next hband => exact absurd hband hlow
    · rfl

theorem inputBand_high {mv : Nat} (h : 60000 < mv) (h' : mv ≤ 62000) : inputBand mv = .high := by
  unfold inputBand
  rw [if_neg (by omega), if_neg (by omega), if_neg (by omega), if_pos h']

theorem inputBand_low {mv : Nat} (h : 44000 ≤ mv) (h' : mv < 46000) : inputBand mv = .low := by
  unfold inputBand
  rw [if_neg (by omega), if_pos h']

theorem inputBand_over {mv : Nat} (h : 62000 < mv) : inputBand mv = .over := by
  unfold inputBand
  rw [if_neg (by omega), if_neg (by omega), if_neg (by omega), if_neg (by omega)]

theorem inputBand_under {mv : Nat} (h : mv < 44000) : inputBand mv = .under := if_pos h

theorem sampleInput_high {s : State} {mv : Nat} (hband : inputBand mv = .high) (h : s.power.band ≠ .high) :
    sampleInput s mv = raisePf (modPower s fun p => { p with band := .high }) 0x0103 [milliF32 mv] := by
  unfold sampleInput
  dsimp only
  rw [hband, if_neg (Ne.symm h)]

theorem sampleInput_low {s : State} {mv : Nat} (hband : inputBand mv = .low) (h : s.power.band ≠ .low) :
    sampleInput s mv = raisePf (modPower s fun p => { p with band := .low }) 0x0102 [milliF32 mv] := by
  unfold sampleInput
  dsimp only
  rw [hband, if_neg (Ne.symm h)]

/-! ## Power control (R459, R461, R474) -/

theorem impedance_of_samples {p q : PowerUnit} (h : p.zSamples = q.zSamples) : impedance p = impedance q := by
  unfold impedance
  rw [h]

theorem droopMw_of_samples {p q : PowerUnit} (h : p.zSamples = q.zSamples) (v i : Nat) : droopMw p v i = droopMw q v i := by
  unfold droopMw
  rw [impedance_of_samples h]

/-- What an update's measurement shows and leaves alone. -/
structure Measured (s : State) (x : PowerSample) (t : State) : Prop where
  credit : t.power.credit = s.power.credit
  share : t.power.powerShare = s.power.powerShare
  samples : t.power.zSamples = s.power.zSamples
  volt : param t 0x1100 0 = milliF32 x.milliVolt
  amp : param t 0x1101 0 = milliF32 x.milliAmp
  limit : param t 0x1000 0 = param s 0x1000 0

theorem measureInput_measured (s : State) (x : PowerSample) : Measured s x (measureInput s x) := by
  unfold measureInput
  extract_lets h seen s1 s2 s3 s4 e s5
  have hs5 : Measured s x s5 := by
    refine ⟨rfl, rfl, rfl, ?_, ?_, ?_⟩
    · show param s4 _ _ = _
      exact (param_setParam_ne (by decide)).trans ((param_setParam_ne (by decide)).trans (param_setParam _ _ _ _))
    · show param s4 _ _ = _
      exact (param_setParam_ne (by decide)).trans (param_setParam _ _ _ _)
    · show param s4 _ _ = _
      exact (param_setParam_ne (by decide)).trans ((param_setParam_ne (by decide)).trans (param_setParam_ne (by decide)))
  obtain ⟨hcredit, hshare, hsamples, hvolt, hamp, hlimit⟩ := hs5
  split
  · exact ⟨hcredit, hshare, hsamples, hvolt, hamp, hlimit⟩
  · have hpower := incA_power s5 0x1030 0 (e / 100000000)
    exact ⟨by rw [hpower]; exact hcredit, by rw [hpower]; exact hshare, by rw [hpower]; exact hsamples, (param_incA_ne (by decide)).trans hvolt,
      (param_incA_ne (by decide)).trans hamp, (param_incA_ne (by decide)).trans hlimit⟩

theorem powerControl_measures {s : State} (x : PowerSample) (hup : isUp s = false) (halive : dead s = false) :
    exec (.powerControlUpdate x) s = .next (measureInput s x) := by
  show execPowerControlUpdate x s = _
  unfold execPowerControlUpdate
  rw [if_neg (by rw [halive]; decide), if_pos (by rw [hup]; rfl)]

theorem param_incB (s : State) (p e n q f : Nat) : param (incB s p e n) q f = param s q f := param_of_dict (incB_dict s p e n) q f

/-- A counter that a condition may add to changes no parameter. -/
theorem param_ite_incB {c : Prop} [Decidable c] {s : State} {p e n : Nat} (q f : Nat) :
    param (if c then incB s p e n else s) q f = param s q f := by
  split
  · exact param_incB s p e n q f
  · rfl

theorem param_ite_else_incB {c : Prop} [Decidable c] {s : State} {p e n : Nat} (q f : Nat) :
    param (if c then s else incB s p e n) q f = param s q f := by
  split
  · rfl
  · exact param_incB s p e n q f

theorem power_ite_incB {c : Prop} [Decidable c] {s : State} {p e n : Nat} : (if c then incB s p e n else s).power = s.power := by
  split
  · exact incB_power s p e n
  · rfl

theorem power_ite_else_incB {c : Prop} [Decidable c] {s : State} {p e n : Nat} : (if c then s else incB s p e n).power = s.power := by
  split
  · rfl
  · exact incB_power s p e n

/-- The controller's part of an update, on the measured state and with the ceiling that holds. -/
structure Controlled (s : State) (x : PowerSample) (cap full : Int) (t : State) : Prop where
  credit : t.power.credit = min 800000000 (s.power.credit + cap - x.p10)
  share : t.power.powerShare = nextShare s.power.powerShare x.p100 (if 0 < t.power.credit then full else cap)

theorem powerControl_controls {s : State} {x : PowerSample} (hup : isUp s = true) (hload : x.loadStep = none) :
    ∃ t, exec (.powerControlUpdate x) s = .next t ∧
      (impedance s.power = none → Controlled s x (min ((1000 * param s 0x1000 0 : Nat) : Int) 2800000) 2800000 t) ∧
      ∀ c, droopMw s.power x.milliVolt x.milliAmp = some c →
        Controlled s x (min ((1000 * param s 0x1000 0 : Nat) : Int) c) (min 2800000 c) t := by
  obtain ⟨hcredit, hshare, hsamples, _, _, hlimit⟩ := measureInput_measured s x
  rw [← impedance_of_samples hsamples, ← droopMw_of_samples hsamples x.milliVolt x.milliAmp]
  have hexec : exec (.powerControlUpdate x) s = execPowerControlUpdate x s := rfl
  rw [hexec]
  unfold execPowerControlUpdate
  rw [if_neg (by rw [alive_of_isUp hup]; decide), if_neg (by rw [hup]; decide), hload]
  generalize measureInput s x = u at *
  dsimp only
  refine ⟨_, rfl, fun hz => ?_, fun c hd => ?_⟩
  · have hd : droopMw u.power x.milliVolt x.milliAmp = none := by
      unfold droopMw
      rw [hz]
    rw [hz, hd]
    dsimp only
    constructor <;> simp only [modPower, param_ite_incB, param_ite_else_incB, power_ite_incB, power_ite_else_incB, hcredit, hlimit, hshare]
  · obtain ⟨z, hz⟩ : ∃ z, impedance u.power = some z := by
      cases hz : impedance u.power with
      | none =>
        unfold droopMw at hd
        rw [hz] at hd
        cases hd
      | some z => exact ⟨z, rfl⟩
    rw [hz, hd]
    dsimp only
    constructor <;> simp only [modPower, param_ite_incB, param_ite_else_incB, power_ite_incB, power_ite_else_incB, setParam_power,
      param_setParam_ne (show pkey 0x1000 0 ≠ pkey 0x1104 0 by decide), hcredit,
      hlimit, hshare]

theorem powerControl_free {s : State} {x : PowerSample} (hup : isUp s = true) (hload : x.loadStep = none) (hz : impedance s.power = none) :
    ∃ t, exec (.powerControlUpdate x) s = .next t ∧
      t.power.credit = min 800000000 (s.power.credit + min ((1000 * param s 0x1000 0 : Nat) : Int) 2800000 - x.p10) ∧
      t.power.powerShare = nextShare s.power.powerShare x.p100
        (if 0 < t.power.credit then 2800000 else min ((1000 * param s 0x1000 0 : Nat) : Int) 2800000) := by
  obtain ⟨t, hexec, hfree, _⟩ := powerControl_controls hup hload
  exact ⟨t, hexec, (hfree hz).credit, (hfree hz).share⟩

theorem powerControl_droop {s : State} {x : PowerSample} {c : Int} (hup : isUp s = true) (hload : x.loadStep = none)
    (hd : droopMw s.power x.milliVolt x.milliAmp = some c) :
    ∃ t, exec (.powerControlUpdate x) s = .next t ∧
      t.power.credit = min 800000000 (s.power.credit + min ((1000 * param s 0x1000 0 : Nat) : Int) c - x.p10) ∧
      t.power.powerShare = nextShare s.power.powerShare x.p100
        (if 0 < t.power.credit then min 2800000 c else min ((1000 * param s 0x1000 0 : Nat) : Int) c) := by
  obtain ⟨t, hexec, _, hdroop⟩ := powerControl_controls hup hload
  exact ⟨t, hexec, (hdroop c hd).credit, (hdroop c hd).share⟩

/-! ## The thermal share (R462) -/

theorem thermalShift_cool {s : State} {die : Nat} {c : Int} {limit : Machine.Num}
    (hlimit : limit = Machine.Num.mul (num32 (param s 0x1010 0)) (Machine.Num.ofInt 1000)) (h : Machine.Num.le limit (Machine.Num.ofInt c) = false) :
    (thermalShift s die c).power.thermalShare =
      if Machine.Num.lt (Machine.Num.ofInt c) (Machine.Num.add limit (Machine.Num.ofInt (-2000))) = true
      then tset s.power.thermalShare die (tget s.power.thermalShare 0 die - 1) else s.power.thermalShare := by
  subst hlimit
  unfold thermalShift
  dsimp only
  rw [if_neg (by rw [h]; decide)]
  split <;> rfl

theorem thermalShift_warm {s : State} {die : Nat} {c : Int}
    (h : Machine.Num.le (Machine.Num.mul (num32 (param s 0x1010 0)) (Machine.Num.ofInt 1000)) (Machine.Num.ofInt c) = true) :
    (thermalShift s die c).power.thermalShare =
      tset s.power.thermalShare die (Nat.min 64 (tget s.power.thermalShare 0 die + 1)) := by
  unfold thermalShift
  dsimp only
  rw [if_pos h]
  show tset (State.power (if _ then _ else _)).thermalShare die _ = _
  split
  · rfl
  · rw [raisePf_power]; rfl

theorem thermalShift_others {s : State} {die d : Nat} {c : Int} (h : d ≠ die) :
    tget (thermalShift s die c).power.thermalShare 0 d = tget s.power.thermalShare 0 d := by
  cases hle : Machine.Num.le (Machine.Num.mul (num32 (param s 0x1010 0)) (Machine.Num.ofInt 1000)) (Machine.Num.ofInt c) with
  | true =>
    rw [thermalShift_warm hle]
    exact tget_tset_ne _ _ _ _ _ h
  | false =>
    rw [thermalShift_cool rfl hle]
    split
    · exact tget_tset_ne _ _ _ _ _ h
    · rfl

theorem thermalEvaluate_shifts {s : State} {die : Nat} {c : Int} (hup : isUp s = true) (hdie : die < 4) (hc : c < 115000) :
    exec (.thermalEvaluate die c) s = .next (thermalShift (setParam s 0x1110 die (milliF32 c)) die c) := by
  show execThermalEvaluate die c s = _
  unfold execThermalEvaluate
  rw [alive_of_isUp hup, if_neg (by simpa using hdie)]
  dsimp only
  rw [if_neg (by omega)]

/-! ## Coolant (R463) -/

theorem readCoolant_params {s : State} {a b : Int} (ha : -20000 ≤ a ∧ a ≤ 120000) (hb : -20000 ≤ b ∧ b ≤ 120000) :
    param (readCoolant s a b) 0x1120 0 = milliF32 a ∧ param (readCoolant s a b) 0x1121 0 = milliF32 b ∧ param (readCoolant s a b) 0x1122 0 = 3 := by
  unfold readCoolant
  extract_lets ok shown s1 s2 note s3 hot was s4
  have hok : ok a = true ∧ ok b = true := ⟨decide_eq_true ha, decide_eq_true hb⟩
  have hshown : shown a = milliF32 a ∧ shown b = milliF32 b := ⟨if_pos hok.1, if_pos hok.2⟩
  have hnote : ∀ (u : State) (i : Nat) (t : Int), (note u i t).dict = u.dict := by
    intro u i t
    unfold note
    split
    · rfl
    · exact raisePf_dict _ _ _
  have hdict : s4.dict = s2.dict := (hnote _ _ _).trans (hnote _ _ _)
  have hparams : param s4 0x1120 0 = milliF32 a ∧ param s4 0x1121 0 = milliF32 b ∧ param s4 0x1122 0 = 3 := by
    rw [param_of_dict hdict, param_of_dict hdict, param_of_dict hdict]
    refine ⟨?_, ?_, ?_⟩
    · exact (param_setParam_ne (by decide)).trans ((param_setParam_ne (by decide)).trans ((param_setParam _ _ _ _).trans hshown.1))
    · exact (param_setParam_ne (by decide)).trans ((param_setParam _ _ _ _).trans hshown.2)
    · refine (param_setParam _ _ _ _).trans ?_
      rw [hok.1, hok.2]
      rfl
  split
  · rw [param_of_dict (raisePf_dict _ _ _), param_of_dict (raisePf_dict _ _ _), param_of_dict (raisePf_dict _ _ _)]
    exact hparams
  · exact hparams

theorem coolantRead_reads {s : State} (a b : Int) (h : isUp s = true ∨ (s.power.phase = .faultStop ∧ dead s = false)) :
    exec (.coolantRead a b) s = .next (readCoolant s a b) := by
  have hphase : dead s = false ∧ (s.power.phase = .up ∨ s.power.phase = .faultStop) := by
    rcases h with hup | ⟨hstop, halive⟩
    · exact ⟨alive_of_isUp hup, .inl (by simpa [isUp] using hup)⟩
    · exact ⟨halive, .inr hstop⟩
  show execCoolantRead a b s = _
  unfold execCoolantRead
  rw [if_neg (by rw [hphase.1]; decide)]
  rcases hphase.2 with hp | hp <;> rw [hp]

theorem coolantRead_shows {s : State} {a b : Int} (h : isUp s = true ∨ (s.power.phase = .faultStop ∧ dead s = false))
    (ha : -20000 ≤ a ∧ a ≤ 120000) (hb : -20000 ≤ b ∧ b ≤ 120000) :
    ∃ t, exec (.coolantRead a b) s = .next t ∧ param t 0x1120 0 = milliF32 a ∧ param t 0x1121 0 = milliF32 b ∧ param t 0x1122 0 = 3 ∧
      t.power.coolantHot = Machine.Num.lt (Machine.Num.mul (num32 (param s 0x1011 0)) (Machine.Num.ofInt 1000)) (Machine.Num.ofInt a) := by
  obtain ⟨hinlet, houtlet, hvalid⟩ := readCoolant_params (s := s) ha hb
  obtain ⟨x, hpower⟩ := readCoolant_power s a b
  refine ⟨_, coolantRead_reads a b h, hinlet, houtlet, hvalid, ?_⟩
  rw [hpower]
  show hotAt s a = _
  unfold hotAt
  rw [decide_eq_true ha, Bool.true_and]

/-! ## Drain (R468) -/

theorem powerCommand_drains {s : State} {w : Who} (b : Bool) (hw : writeStatus s w 0x1001 0 = 0) :
    ∃ t, command s w 0x1001 0 (powerCmd (if b then 1 else 2)) = .next t ∧ t.dict.answer.status = 0 ∧ t.power = { s.power with draining := b } := by
  have hcmd : powerCmd (if b then 1 else 2) s = .ok (announce s (modPower s fun p => { p with draining := b })) := by
    cases b <;> rfl
  refine ⟨_, command_ok hw hcmd, answer_status _ _, ?_⟩
  rw [answer_power, announce_power]
  rfl

/-- Settles O54: each row's equation with what it leaves in the power unit and the parameters. -/
theorem powerAndHeatAreControlled : Obligations.PowerAndHeatAreControlled := by
  refine ⟨fun s mv hup h h' => ⟨_, inputHigh_samples hup h, ?_⟩, fun s mv hup h h' => ⟨_, inputLow_samples hup h', ?_⟩, fun s mv hup => ⟨fun h => ?_, fun h => ?_,
    fun h h' hband => ?_, fun h h' hband => ?_⟩, fun s x hup hload hz => powerControl_free hup hload hz, fun s x c hup hload hd => powerControl_droop hup hload hd,
    fun s x hup halive => ?_, fun s die c limit hup hdie hc hlimit => ?_, fun s a b h ha ha' hb hb' => coolantRead_shows h ⟨ha, ha'⟩ ⟨hb, hb'⟩,
    fun s w hw => ⟨powerCommand_drains true hw, powerCommand_drains false hw⟩⟩
  · rw [sampleInput_power, inputBand_high h h']
  · rw [sampleInput_power, inputBand_low h h']
  · rw [inputHigh_samples hup (by omega), sampleInput_quiet (by rw [inputBand_over h]; decide) (by rw [inputBand_over h]; decide), inputBand_over h]
  · rw [inputLow_samples hup (by omega), sampleInput_quiet (by rw [inputBand_under h]; decide) (by rw [inputBand_under h]; decide), inputBand_under h]
  · rw [inputHigh_samples hup h, sampleInput_high (inputBand_high h h') hband]
  · rw [inputLow_samples hup h', sampleInput_low (inputBand_low h h') hband]
  · obtain ⟨hcredit, hshare, _, hvolt, hamp, _⟩ := measureInput_measured s x
    exact ⟨_, powerControl_measures x hup halive, hcredit, hshare, hvolt, hamp⟩
  · have hlimit' : limit = Machine.Num.mul (num32 (param (setParam s 0x1110 die (milliF32 c)) 0x1010 0)) (Machine.Num.ofInt 1000) := by
      rw [param_setParam_ne (by simp [pkey]; omega)]; exact hlimit
    refine ⟨_, thermalEvaluate_shifts hup hdie hc, fun hle => ?_, fun hle hlt => ?_, fun hle hlt => ?_, fun d hd => thermalShift_others hd⟩
    · exact thermalShift_hot (by rw [← hlimit']; exact hle)
    · rw [thermalShift_cool hlimit' hle, if_pos hlt]
      exact tget_tset_same _ _ _ _
    · rw [thermalShift_cool hlimit' hle, if_neg (by rw [hlt]; decide)]
      rfl

end Sys2Proof.Proofs
end

section
/-! The journal: pages, compaction, reset, SVC_CLEAR and the COUNTERS record (R477, R478, R480 to R482, R484, R486). -/
set_option Elab.async false

namespace Sys2Proof.Proofs
open Sys2Proof.Machine Sys2Proof.Laws

/-! ## What a record appended leaves alone -/

/-- The journal's committed records, its compaction and its counters' time stand. -/
structure SameStore (s t : State) : Prop where
  committed : t.journal.committed = s.journal.committed
  compacting : t.journal.compacting = s.journal.compacting
  waits : t.journal.compactWaits = s.journal.compactWaits
  s0 : t.journal.s0 = s.journal.s0
  active : t.journal.active = s.journal.active
  epoch : t.journal.epoch = s.journal.epoch
  countAt : t.journal.countAt = s.journal.countAt

theorem sameStore_refl (s : State) : SameStore s s := ⟨rfl, rfl, rfl, rfl, rfl, rfl, rfl⟩

theorem sameStore_trans {s t u : State} (h : SameStore s t) (g : SameStore t u) : SameStore s u :=
  ⟨g.committed.trans h.committed, g.compacting.trans h.compacting, g.waits.trans h.waits, g.s0.trans h.s0, g.active.trans h.active,
    g.epoch.trans h.epoch, g.countAt.trans h.countAt⟩

theorem sameStore_of_journal {s t : State} (h : t.journal = s.journal) : SameStore s t := by
  refine ⟨?_, ?_, ?_, ?_, ?_, ?_, ?_⟩ <;> rw [h]

theorem sameStore_jAppend (s : State) (p : JPayload) : SameStore s (jAppend s p) := by
  unfold jAppend
  extract_lets j r k
  have hk : SameStore s { s with journal := k } := by
    show SameStore s { s with journal := if _ then _ else _ }
    split <;> exact ⟨rfl, rfl, rfl, rfl, rfl, rfl, rfl⟩
  exact sameStore_trans hk (sameStore_of_journal (incA_journal _ _ _ _))

theorem sameStore_setSvc (s : State) (b : Nat) : SameStore s (setSvc s b) := by
  unfold setSvc
  split
  · exact sameStore_refl s
  · extract_lets v q t
    have ht : SameStore s t := sameStore_of_journal rfl
    exact sameStore_trans (sameStore_trans ht (sameStore_jAppend t (.svc v))) (sameStore_of_journal ((announce_journal _ _).trans (raisePf_journal _ _ _)))

theorem sameStore_eraseRegion (s : State) (k : Nat) : SameStore s (eraseRegion s k) := by
  unfold eraseRegion
  dsimp only
  have herased : SameStore s (modJournal s fun j => { j with erases := tmod j.erases 0 k (· + 1) }) := ⟨rfl, rfl, rfl, rfl, rfl, rfl, rfl⟩
  split
  · exact sameStore_trans herased (sameStore_setSvc _ _)
  · exact herased

theorem sameStore_foldl {α : Type} {f : State → α → State} (h : ∀ s a, SameStore s (f s a)) (l : List α) (s : State) : SameStore s (l.foldl f s) := by
  induction l generalizing s with
  | nil => exact sameStore_refl s
  | cons a l ih => exact sameStore_trans (h s a) (ih _)

/-! ## Compaction (R481, R482) -/

theorem jMust_committed {s : State} (p : JPayload) (hswap : s.fw.swap = none) :
    ∃ r ∈ (jMust s p).journal.committed, r.payload = p ∧ r.seq = s.journal.seq := by
  obtain ⟨r, hr, hpayload, hseq⟩ := jAppend_opens s p
  unfold jMust
  rw [if_neg (by rw [hswap]; decide)]
  exact ⟨r, List.mem_append_right _ hr, hpayload, hseq⟩

theorem startCompaction_begins {s : State} (hidle : s.journal.compacting = false) (hswap : s.fw.swap = none) :
    (startCompaction s).journal.compacting = true ∧ (startCompaction s).journal.s0 = s.journal.seq ∧
      ∃ r ∈ (startCompaction s).journal.committed, r.seq = s.journal.seq ∧
        r.payload = .compactBegin (s.journal.epoch.toNat + 1) (1 - s.journal.active) := by
  unfold startCompaction
  dsimp only
  rw [if_neg (by rw [hidle]; decide), if_neg (by rw [hswap]; decide)]
  obtain ⟨r, hr, hpayload, hseq⟩ := jMust_committed (.compactBegin (s.journal.epoch.toNat + 1) (1 - s.journal.active)) hswap
  generalize jMust s (.compactBegin (s.journal.epoch.toNat + 1) (1 - s.journal.active)) = u at hr ⊢
  have herase := sameStore_eraseRegion (modJournal u fun j => { j with compacting := true, s0 := s.journal.seq, compactWaits := false }) (1 - s.journal.active)
  refine ⟨herase.compacting, herase.s0, r, ?_, hseq, hpayload⟩
  rw [herase.committed]
  exact hr

theorem startCompaction_waits {s : State} (hidle : s.journal.compacting = false) (hswap : s.fw.swap.isSome = true) :
    (startCompaction s).journal.compactWaits = true := by
  unfold startCompaction
  dsimp only
  rw [if_neg (by rw [hidle]; decide), if_pos hswap]
  rfl

theorem startCompaction_runs {s : State} (h : s.journal.compacting = true) : startCompaction s = s := if_pos h

theorem compactNow_acts {s : State} {w : Who} (hw : writeStatus s w 0xB105 0 = 0) (hrun : s.power.phase ≠ .faultStop) :
    exec (.compactNow w) s = .next (answer (startCompaction s) 0) := by
  show command s w 0xB105 0 (journalCmd 1) = _
  refine command_ok hw ?_
  unfold journalCmd
  dsimp only
  rw [if_pos rfl, if_neg]
  simp [hrun]

theorem param_setSvc {s : State} {b q f : Nat} (h : pkey q f ≠ pkey 0xB106 0) : param (setSvc s b) q f = param s q f := by
  unfold setSvc
  split
  · rfl
  · rw [param_of_dict (announce_dict _ _), param_of_dict (raisePf_dict _ _ _), param_jAppend h]
    rfl

theorem param_jMust {s : State} {p : JPayload} {q f : Nat} (h : pkey q f ≠ pkey 0xB106 0) : param (jMust s p) q f = param s q f := by
  unfold jMust
  split
  · exact param_jAppend h
  · exact (param_of_dict (jCommit_dict _) _ _).trans (param_jAppend h)

theorem param_startCompaction {s : State} {q f : Nat} (h : pkey q f ≠ pkey 0xB106 0) : param (startCompaction s) q f = param s q f := by
  have herase : ∀ (u : State) (k : Nat), param (eraseRegion u k) q f = param u q f := fun u k => by
    unfold eraseRegion
    dsimp only
    split
    · rw [param_setSvc h]; rfl
    · rfl
  unfold startCompaction
  dsimp only
  split
  · rfl
  · split
    · rfl
    · rw [herase]
      exact param_jMust h

/-- COMPACT_AT with nothing that goes first (R203, R481). -/
theorem compactAt_fires {s : State} (hup : isUp s = true) (hset : param s 0xB104 0 ≠ 0) (hdue : param s 0xB104 0 ≤ s.orbit.now)
    (horbit : s.orbit.state ≠ .unlocked) (hfirst : earlierDue s 9 (param s 0xB104 0) = false) :
    exec .compactAt s = .next (startCompaction (setParamJ s 0xB104 0 0)) := by
  refine if_pos ?_
  simp [hup, hset, hdue, horbit, hfirst]

theorem setParamJ_store (s : State) (p e v : Nat) : SameStore s (setParamJ s p e v) :=
  sameStore_trans (sameStore_of_journal (t := setParam s p e v) rfl) (sameStore_jAppend _ _)

theorem compactionDone_ends {s : State} (halive : dead s = false) (hswap : s.fw.swap = none) (hruns : s.journal.compacting = true) :
    ∃ t, exec .compactionDone s = .next t ∧ t.journal.compacting = false ∧ t.journal.active = 1 - s.journal.active ∧
      t.journal.epoch = s.journal.epoch + 1 ∧
      ∃ r n k, t.journal.committed.getLast? = some r ∧ r.payload = .compactEnd (s.journal.epoch.toNat + 1) s.journal.s0.toNat n k := by
  have hexec : exec .compactionDone s = execCompactionDone s := rfl
  rw [hexec]
  unfold execCompactionDone
  extract_lets j isBegin before after cp last fin l t
  rw [if_neg (by rw [halive, hswap]; show ¬((!s.journal.compacting || false || false) = true); rw [hruns]; decide)]
  have hjournal : (raisePf (dropExpired (incA t 0xB107 0 1)) 0x0C02 [t.journal.epoch.toNat, j.s0.toNat]).journal = t.journal := by
    rw [raisePf_journal]
    exact incA_journal _ _ _ _
  have hcounted : (incA s 0xB106 0 1).journal = s.journal := incA_journal _ _ _ _
  refine ⟨_, rfl, ?_, ?_, ?_, fin, last.toNat, cp.length, ?_, rfl⟩
  · rw [hjournal]; rfl
  · rw [hjournal, ← hcounted]; rfl
  · rw [hjournal, ← hcounted]; rfl
  · rw [hjournal]
    exact List.getLast?_concat

/-! ## Pages (R478, R480, R481) -/

theorem journalPageTimer_programs {s : State} {r : JRec} {l : List JRec} (halive : dead s = false) (hswap : s.fw.swap = none)
    (hopen : s.journal.openPage = r :: l) (hdue : r.time + 100000000 ≤ (if r.timeLocal then s.orbit.refNs else s.orbit.now)) :
    exec .journalPageTimer s = .next (modJournal s fun j => { j with programming := j.programming ++ j.openPage, openPage := [], pages := j.pages + 1 }) := by
  show execJournalPageTimer s = _
  unfold execJournalPageTimer
  rw [hopen]
  refine if_pos ?_
  rw [halive, hswap]
  simpa using hdue

theorem journalPageProgrammed_commits {s : State} {bad : Bool} (halive : dead s = false) (hswap : s.fw.swap = none)
    (hsome : s.journal.programming ≠ []) (hspare : bad = true → s.journal.spare ≠ 0) :
    ∃ u, exec (.journalPageProgrammed bad) s = .next (fillTrigger (modJournal u fun j => { j with committed := j.committed ++ j.programming, programming := [] })) ∧
      u.journal = { s.journal with spare := s.journal.spare - (if bad then 1 else 0) } ∧ u.fw = s.fw ∧ u.power = s.power := by
  have hexec : ∀ u, (if bad then incA (modJournal s fun j => { j with spare := j.spare - 1 }) 0xB108 0 1 else s) = u →
      exec (.journalPageProgrammed bad) s = .next (fillTrigger (modJournal u fun j => { j with committed := j.committed ++ j.programming, programming := [] })) := by
    intro u hu
    show execJournalPageProgrammed bad s = _
    unfold execJournalPageProgrammed
    rw [if_neg (by simpa [halive, hswap] using hsome), if_neg (by simpa using hspare)]
    dsimp only
    rw [hu]
  refine ⟨_, hexec _ rfl, ?_, ?_, ?_⟩
  · cases bad with
    | true => exact incA_journal _ _ _ _
    | false => rfl
  · cases bad with
    | true => exact incA_fw _ _ _ _
    | false => rfl
  · cases bad with
    | true => exact incA_power _ _ _ _
    | false => rfl

theorem fillTrigger_low {s : State} (h : 4 * s.journal.pages < 3 * regionPages) : fillTrigger s = s := by
  refine if_neg ?_
  simp [h]

theorem fillTrigger_full {s : State} (hup : isUp s = true) (hvalid : s.journal.valid = true) (hidle : s.journal.compacting = false)
    (hfull : 3 * regionPages ≤ 4 * s.journal.pages) : fillTrigger s = startCompaction s := by
  refine if_pos ?_
  simp [hup, hvalid, hidle, hfull]

theorem journalPageProgrammed_stops {s : State} (h : s.power.phase = .up ∨ s.power.phase = .boot) (hswap : s.fw.swap = none)
    (hsome : s.journal.programming ≠ []) (hspare : s.journal.spare = 0) :
    ∃ t, exec (.journalPageProgrammed true) s = .next t ∧ StoppedFor 10 s t := by
  refine ⟨faultStop s .journal, ?_, faultStop_stops (r := .journal) h⟩
  have halive : dead s = false := by rcases h with h | h <;> simp [dead, h]
  show execJournalPageProgrammed true s = _
  unfold execJournalPageProgrammed
  rw [if_neg (by simpa [halive, hswap] using hsome), if_pos (by rw [hspare]; rfl)]

/-! ## RESET (R484) -/

theorem journalReset_resets {s : State} {w : Who} (hw : writeStatus s w 0xB105 0 = 0) (hphase : s.power.phase = .faultStop) (hreason : s.power.faultReason = 10) :
    ∃ t, exec (.journalReset w) s = .next t ∧ t.dict.answer.status = 0 ∧ t.journal.valid = true ∧ t.journal.wasReset = true ∧
      t.journal.committed = [] ∧ t.journal.epoch = 0 ∧ t.journal.active = 0 ∧ t.power.phase = .faultStop := by
  have hcmd : journalCmd 2 s = .ok (modJournal (eraseRegion (eraseRegion s 0) 1) fun j => { j with
      active := 0, epoch := 0, committed := [], openPage := [], programming := [], pages := 1, compacting := false, compactWaits := false
      torn := false, valid := true, wasReset := true, gapNext := true }) := by
    unfold journalCmd
    dsimp only
    rw [if_neg (by decide), if_pos ⟨rfl, by rw [hphase]; rfl, hreason⟩]
  have hsvc : ∀ (u : State) (k : Nat), (eraseRegion u k).power.phase = u.power.phase := fun u k => by
    unfold eraseRegion
    dsimp only
    split
    · rw [phase_setSvc]; rfl
    · rfl
  refine ⟨_, command_ok hw hcmd, answer_status _ _, ?_⟩
  rw [answer_journal, answer_power]
  refine ⟨rfl, rfl, rfl, rfl, rfl, ?_⟩
  show (eraseRegion (eraseRegion s 0) 1).power.phase = _
  rw [hsvc, hsvc, hphase]

theorem journalReset_refused {s : State} {w : Who} (hw : writeStatus s w 0xB105 0 = 0) (h : ¬(s.power.phase = .faultStop ∧ s.power.faultReason = 10)) :
    ∃ t, exec (.journalReset w) s = .next t ∧ t.dict.answer.status = 7 ∧ t.journal = s.journal := by
  have hcmd : journalCmd 2 s = .error 7 := by
    unfold journalCmd
    dsimp only
    rw [if_neg (by decide), if_neg]
    rintro ⟨_, hstopped, hreason⟩
    exact h ⟨by simpa using hstopped, hreason⟩
  exact ⟨_, command_error hw hcmd, answer_status _ _, answer_journal _ _⟩

/-! ## SVC_CLEAR (R486) -/

theorem testBit_foldl_or (l : List Nat) (m i : Nat) : (l.foldl (fun m i => m ||| 2 ^ i) m).testBit i = (m.testBit i || decide (i ∈ l)) := by
  induction l generalizing m with
  | nil => simp
  | cons a l ih =>
    rw [List.foldl_cons, ih, Nat.testBit_or, Nat.testBit_two_pow]
    by_cases h : a = i
    · simp [h]
    · simp [h, Ne.symm h]

theorem testBit_maskOf (l : List Nat) (i : Nat) : (maskOf l).testBit i = decide (i ∈ l) := by
  unfold maskOf
  rw [testBit_foldl_or, Nat.zero_testBit, Bool.false_or]

theorem mem_bitsOf {m n i : Nat} : i ∈ bitsOf m n ↔ i < n ∧ m.testBit i = true := by
  unfold bitsOf
  rw [List.mem_filter, List.mem_range]

theorem svcClear_refused {s : State} {w : Who} {mask : W32} (hw : writeStatus s w 0xB140 0 = 0)
    (h : ∃ b, b < 5 ∧ b ≠ 2 ∧ mask.toNat.testBit b = true ∧ s.power.svcReason.toNat.testBit b = true) :
    ∃ t, exec (.svcClear w mask) s = .next t ∧ t.dict.answer.status = 7 ∧ t.power = s.power := by
  obtain ⟨b, hb, hne, hmask, hset⟩ := h
  have hcmd : clearSvc mask.toNat s = .error 7 := by
    refine if_pos ?_
    rw [List.any_eq_true]
    refine ⟨b, List.mem_filter.2 ⟨mem_bitsOf.2 ⟨hb, hmask⟩, hset⟩, ?_⟩
    unfold svcHolds
    rw [bne_iff_ne.2 hne, Bool.true_or]
  exact ⟨_, command_error hw hcmd, answer_status _ _, answer_power _ _⟩

theorem svcClear_clears {s : State} {w : Who} (hw : writeStatus s w 0xB140 0 = 0) (hports : ∀ e ∈ s.links.ports, e.2.phase ≠ .failed) :
    ∃ t, exec (.svcClear w 4) s = .next t ∧ t.dict.answer.status = 0 ∧ t.power.svcReason.toNat.testBit 2 = false ∧
      ∀ b, b ≠ 2 → t.power.svcReason.toNat.testBit b = s.power.svcReason.toNat.testBit b := by
  by_cases hset : s.power.svcReason.toNat.testBit 2 = true
  · have hnamed : (bitsOf 4 5).filter (fun b => s.power.svcReason.toNat.testBit b) = [2] := by
      rw [show bitsOf 4 5 = [2] from rfl, List.filter_cons_of_pos hset]
      rfl
    have hends : svcHolds s 2 = false := by
      refine Bool.or_eq_false_iff.2 ⟨rfl, List.any_eq_false.2 fun e he => ?_⟩
      simpa using hports e he
    let v : W32 := BitVec.ofNat 32 (maskOf ((bitsOf s.power.svcReason.toNat 32).filter fun b => !([2] : List Nat).contains b))
    have hcmd : clearSvc 4 s = .ok (announce s (jAppend (modPower s fun p => { p with svcReason := v, svcReqPin := p.svcReqPin && v != 0 }) (.svc v))) := by
      unfold clearSvc
      dsimp only
      rw [hnamed, if_neg (by simp [hends]), if_neg (by decide)]
    have hv : ∀ b, v.toNat.testBit b = (s.power.svcReason.toNat.testBit b && decide (b ≠ 2)) := fun b => by
      show ((maskOf _) % 2 ^ 32).testBit b = _
      rw [Nat.testBit_mod_two_pow, testBit_maskOf]
      by_cases hb : b < 32
      · simp [hb, mem_bitsOf]
      · rw [Nat.testBit_lt_two_pow (Nat.lt_of_lt_of_le s.power.svcReason.isLt (Nat.pow_le_pow_right (by decide) (by omega)))]
        simp [hb]
    refine ⟨_, command_ok hw hcmd, answer_status _ _, ?_⟩
    rw [answer_power, announce_power, jAppend_power]
    refine ⟨(hv 2).trans (by simp), fun b hb => (hv b).trans (by simp [hb])⟩
  · have hnamed : (bitsOf 4 5).filter (fun b => s.power.svcReason.toNat.testBit b) = [] := by
      rw [show bitsOf 4 5 = [2] from rfl, List.filter_cons_of_neg hset]
      rfl
    have hcmd : clearSvc 4 s = .ok s := by
      unfold clearSvc
      dsimp only
      rw [hnamed]
      rfl
    refine ⟨_, command_ok hw hcmd, answer_status _ _, ?_⟩
    rw [answer_power]
    exact ⟨by simpa using hset, fun _ _ => rfl⟩

/-! ## COUNTERS (R477) -/

theorem counters_appends {s : State} (hup : isUp s = true) (hdue : s.journal.countAt + 1000000000 ≤ s.orbit.refNs) :
    ∃ t, exec .counters s = .next t ∧ t.journal.committed = s.journal.committed ∧ t.journal.countAt = s.orbit.refNs ∧
      (changedCounters s = [] → t = { s with journal := { s.journal with countAt := s.orbit.refNs } }) := by
  have hexec : exec .counters s = .next (snapCounters { s with journal := { s.journal with countAt := s.orbit.refNs } }) := by
    refine if_pos ?_
    simp [hup, hdue]
  have hstore : ∀ u, SameStore u (snapCounters u) := fun u => by
    unfold snapCounters
    refine sameStore_foldl (fun v c => ?_) _ _
    split
    · exact sameStore_refl v
    · exact sameStore_jAppend _ _
  have hnone : ∀ u, changedCounters u = [] → snapCounters u = u := fun u hu => by
    unfold snapCounters
    rw [hu]
    rfl
  exact ⟨_, hexec, (hstore _).committed, (hstore _).countAt, fun h => hnone _ h⟩

/-- Settles O55: the journal's rows by what a record appended, a compaction begun and an erased region leave alone. -/
theorem journalCommitsAndCompacts : Obligations.JournalCommitsAndCompacts := by
  refine ⟨fun s r l halive hswap hopen hdue => ?_, fun s bad halive hswap hsome hlow hspare => ?_,
    fun s h hswap hsome hspare => journalPageProgrammed_stops h hswap hsome hspare, fun s hup hsome hvalid hidle hswap hfull => ?_,
    fun s w hw hrun hidle hswap => ?_, fun s w hw hrun hruns => ?_, fun s hup hset hdue horbit hidle hfirst => ?_,
    fun s halive hswap hruns => compactionDone_ends halive hswap hruns,
    fun s w hw => ⟨fun h => journalReset_resets hw h.1 h.2, journalReset_refused hw⟩,
    fun s w mask hw => ⟨fun hmask hports => ?_, svcClear_refused hw⟩, fun s hup hdue => counters_appends hup hdue⟩
  · refine ⟨_, journalPageTimer_programs halive hswap hopen hdue, ?_, rfl, rfl, ?_⟩
    · show s.journal.programming ++ s.journal.openPage = _
      rw [hopen]
    · exact Fr.only (k := 2 ^ 15) fr_modJournal rfl
  · obtain ⟨u, hexec, hjournal, _, _⟩ := journalPageProgrammed_commits halive hswap hsome hspare
    rw [fillTrigger_low (by show 4 * u.journal.pages < _; rw [hjournal]; exact hlow)] at hexec
    refine ⟨_, hexec, ?_, rfl, ?_⟩
    · show u.journal.committed ++ u.journal.programming = _
      rw [hjournal]
    · show u.journal.spare = _
      rw [hjournal]
  · obtain ⟨u, hexec, hjournal, hfw, hpower⟩ := journalPageProgrammed_commits (bad := false) (alive_of_isUp hup) hswap hsome (fun h => absurd h (by decide))
    rw [fillTrigger_full (by show (u.power.phase == .up) = _; rw [hpower]; exact hup) (by show u.journal.valid = _; rw [hjournal]; exact hvalid)
      (by show u.journal.compacting = _; rw [hjournal]; exact hidle) (by show _ ≤ 4 * u.journal.pages; rw [hjournal]; exact hfull)] at hexec
    exact ⟨_, hexec, (startCompaction_begins (by show u.journal.compacting = _; rw [hjournal]; exact hidle) (by show u.fw.swap = _; rw [hfw]; exact hswap)).1⟩
  · obtain ⟨hcompacting, hs0, hbegin⟩ := startCompaction_begins hidle hswap
    refine ⟨_, compactNow_acts hw hrun, answer_status _ _, ?_⟩
    rw [answer_journal]
    exact ⟨hcompacting, hs0, hbegin⟩
  · refine ⟨_, compactNow_acts hw hrun, answer_status _ _, ?_⟩
    rw [answer_journal, startCompaction_runs hruns]
  · have hidle' : (setParamJ s 0xB104 0 0).journal.compacting = false := (setParamJ_store _ _ _ _).compacting.trans hidle
    have hfw : (setParamJ s 0xB104 0 0).fw = s.fw := setParamJ_fw _ _ _ _
    refine ⟨_, compactAt_fires hup hset hdue horbit hfirst, (param_startCompaction (by decide)).trans (param_setParamJ (by decide)), ?_⟩
    cases hswap : s.fw.swap with
    | none => exact (startCompaction_begins hidle' (by rw [hfw]; exact hswap)).1
    | some x => exact startCompaction_waits hidle' (by rw [hfw, hswap]; rfl)
  · subst hmask
    exact svcClear_clears hw hports

end Sys2Proof.Proofs
end

section
/-! Firmware: staging, ACTIVATE, REVERT, the trial's end, the swap; microcode reloads; recalibration of the HBM (R488 to R491, R498, R500). -/
set_option Elab.async false

namespace Sys2Proof.Proofs
open Sys2Proof.Machine Sys2Proof.Laws

/-! ## FW_CMD (R488) -/

theorem startSwap_fw (s : State) (dest : Nat) (trial auto : Bool) : (startSwap s dest trial auto).fw = { s.fw with swap := some (dest, auto) } := by
  have hmust : (jMust s (.fwBank dest (if trial then 1 else 0) 2)).fw = s.fw := jMust_fw _ _
  show { (jMust s (.fwBank dest (if trial then 1 else 0) 2)).fw with swap := some (dest, auto) } = _
  rw [hmust]

/-- A FW_CMD write that passes its checks. -/
theorem fwWrite_ok {s u : State} {w : Who} {op : Nat} {c : FwCmd} (hw : writeStatus s w 0xB110 0 = 0) (hcmd : fwCmd op c s = .ok u) :
    ∃ t, command s w 0xB110 0 (fwCmd op c) = .next t ∧ t.dict.answer.status = 0 ∧ t.fw = u.fw :=
  ⟨_, command_ok hw hcmd, answer_status _ _, answer_fw _ _⟩

theorem fwCmd_stage {s : State} {c : FwCmd} (hlen : 1 ≤ c.length) (hmax : c.length ≤ 33554432) (htrial : s.fw.trial = false) (hidle : s.fw.staging = none) :
    fwCmd 1 c s = .ok (modFw (fwDone s 1 0) fun f => { f with other := 1, staging := some c.length, banks := tset f.banks (1 - s.fw.running) Bank.reset }) := by
  unfold fwCmd
  dsimp only
  rw [if_neg (by simp [hlen, hmax])]
  exact if_neg (by simp [htrial, hidle])

theorem fwCmd_activate {s : State} (c : FwCmd) : fwCmd 2 c s = .ok (if s.journal.compacting then fwDone s 2 5
    else if s.fw.other ≠ 2 ∨ s.fw.trial then fwDone s 2 2 else startSwap (fwDone s 2 0) (1 - s.fw.running) true false) := by
  unfold fwCmd
  dsimp only
  rw [if_neg (by simp)]
  show (if s.journal.compacting = true then Except.ok (fwDone s 2 5)
    else if s.fw.other ≠ 2 ∨ s.fw.trial = true then Except.ok (fwDone s 2 2) else Except.ok (startSwap (fwDone s 2 0) (1 - s.fw.running) true false)) = _
  by_cases hcompact : s.journal.compacting = true
  · rw [if_pos hcompact, if_pos hcompact]
  · rw [if_neg hcompact, if_neg hcompact]
    by_cases hrefused : s.fw.other ≠ 2 ∨ s.fw.trial = true
    · rw [if_pos hrefused, if_pos hrefused]
    · rw [if_neg hrefused, if_neg hrefused]

theorem fwCmd_revert {s : State} (c : FwCmd) :
    fwCmd 4 c s = .ok (if s.fw.trial then startSwap (fwDone s 4 0) (1 - s.fw.running) false false else fwDone s 4 2) := by
  unfold fwCmd
  dsimp only
  rw [if_neg (by simp)]
  show (if s.fw.trial = true then Except.ok (startSwap (fwDone s 4 0) (1 - s.fw.running) false false) else Except.ok (fwDone s 4 2)) = _
  by_cases htrial : s.fw.trial = true
  · rw [if_pos htrial, if_pos htrial]
  · rw [if_neg htrial, if_neg htrial]

theorem fwCmd_commit_refused {s : State} {c : FwCmd} (htrial : s.fw.trial = false) : fwCmd 3 c s = .ok (fwDone s 3 2) := by
  unfold fwCmd
  dsimp only
  rw [if_neg (by simp)]
  exact if_neg (by rw [htrial]; decide)

/-! ## FW_STAGED (R488, R498) -/

theorem fwStaged_ends {s : State} (image : Bytes) (status : Nat) {n : Nat} (halive : dead s = false) (hstaging : s.fw.staging = some n) :
    ∃ t, exec (.fwStaged image status) s = .next t ∧ t.fw.staging = none ∧
      (status ≠ 0 → t.fw.other = 3 ∧ t.fw.code = 3) ∧
      (status = 0 → getBank t (1 - s.fw.running) = bankOf (slice image 0 n) (verifyImage s (slice image 0 n) == 0) ∧
        (t.fw.other, t.fw.code) = if verifyImage s (slice image 0 n) = 0 then (2, 0) else (3, 4)) := by
  have hexec : exec (.fwStaged image status) s = execFwStaged image status s := rfl
  rw [hexec]
  unfold execFwStaged
  rw [if_neg (by rw [halive]; decide)]
  split
  · next h =>
    rw [hstaging] at h
    cases h
  · next m h =>
    obtain rfl : n = m := Option.some.inj (hstaging.symm.trans h)
    extract_lets b img why s1 s2 s3 s4
    have hserved : ∀ (c : Prop) [Decidable c] (u : State), (if c then u else raiseServed u 0x0A04 [b, why]).fw = u.fw := fun c _ u => by
      split
      · rfl
      · exact fw_of_frame fr_raiseServed rfl
    have hfw : (raisePf s4 0x0C03 [fwState s4.fw]).fw = s3.fw := (raisePf_fw _ _ _).trans (jMust_fw _ _)
    refine ⟨_, rfl, ?_, fun hstatus => ?_, fun hstatus => ?_⟩
    · rw [hfw]
      show (State.fw (if _ then _ else _)).staging = _
      split
      · rfl
      · exact congrArg FwUnit.staging (hserved _ _)
    · rw [hfw]
      have hs3 : s3 = modFw s1 fun f => { f with other := 3, code := 3 } := if_pos hstatus
      rw [hs3]
      exact ⟨rfl, rfl⟩
    · have hs3 : s3.fw = { s1.fw with banks := tset s1.fw.banks b (bankOf img (why == 0)), other := if why = 0 then 2 else 3, code := if why = 0 then 0 else 4 } := by
        show State.fw (if _ then _ else _) = _
        rw [if_neg (not_not_intro hstatus)]
        exact hserved _ _
      have hbank : getBank (raisePf s4 0x0C03 [fwState s4.fw]) b = bankOf img (why == 0) := by
        unfold getBank
        rw [hfw, hs3]
        exact tget_tset_same _ _ _ _
      refine ⟨hbank, ?_⟩
      rw [hfw, hs3]
      show (if why = 0 then 2 else 3, if why = 0 then 0 else 4) = _
      by_cases hwhy : why = 0
      · rw [if_pos hwhy, if_pos hwhy, if_pos hwhy]
      · rw [if_neg hwhy, if_neg hwhy, if_neg hwhy]

/-! ## The swap (R489, R490) -/

theorem swapLive_fw (s : State) : (swapLive s).fw = { s.fw with swap := none } := by
  unfold swapLive
  extract_lets s1 s2 s3
  have hflush : ∀ (l : List Nat) (u : State), (l.foldl flushHeld u).fw = u.fw := fun l u => by
    induction l generalizing u with
    | nil => rfl
    | cons n l ih => exact (ih _).trans (fw_of_frame fr_flushHeld rfl)
  have hs3 : s3.fw = { s.fw with swap := none } := hflush _ _
  split
  · exact (fw_of_frame fr_startCompaction rfl : (startCompaction s3).fw = s3.fw).trans hs3
  · exact hs3

theorem swapLive_sec (s : State) : (swapLive s).sec = s.sec := sec_of_frame fr_swapLive rfl

theorem retrainNext_fw (s : State) : ∃ l, (retrainNext s).fw = { s.fw with retrainPorts := l } := by
  unfold retrainNext
  split
  · exact ⟨_, rfl⟩
  · next p rest _ =>
    split
    · exact ⟨_, rfl⟩
    · dsimp only
      split
      · exact ⟨rest, (fw_of_frame fr_startRetrain rfl : (startRetrain (modFw s fun f => { f with retrainPorts := rest }) p).fw = _)⟩
      · exact ⟨rest, rfl⟩

/-- The bank that the swap goes to verifies again (R489). -/
def verifiesAgain (s : State) (k : Nat) : Prop := (getBank s k).image = [] ∨ verifyImage s (getBank s k).image = 0

/-- The first failed check of a swap's second verification. -/
def swapFault (s : State) (k : Nat) : Nat := if (getBank s k).image.isEmpty then 0 else verifyImage s (getBank s k).image

theorem swapFault_eq_zero {s : State} {k : Nat} : swapFault s k = 0 ↔ verifiesAgain s k := by
  unfold swapFault verifiesAgain
  by_cases h : (getBank s k).image = []
  · simp [h]
  · simp [h]

theorem fwSwapDone_runs {s : State} {k : Nat} {auto : Bool} (b : Nat) (hup : isUp s = true) (hswap : s.fw.swap = some (k, auto)) (hok : verifiesAgain s k) :
    ∃ t, exec (.fwSwapDone true) s = .next t ∧ t.fw.running = k ∧ t.fw.trial = (!s.fw.trial) ∧ t.fw.fellBack = auto ∧ t.fw.swap = none ∧
      t.sec.proven = none ∧ t.sec.provisional = none ∧ t.sec.offers = [] ∧ getBank t b = getBank s b := by
  have hwhy := swapFault_eq_zero.2 hok
  have hexec : exec (.fwSwapDone true) s = execFwSwapDone true s := rfl
  rw [hexec]
  unfold execFwSwapDone
  rw [hswap]
  dsimp only
  rw [if_neg (by rw [alive_of_isUp hup]; decide), if_pos (by unfold swapFault at hwhy; rw [hwhy]; rfl)]
  generalize hu : (modFw (endFirmware s) fun f => { f with
          running := k, trial := !s.fw.trial, other := 2, fellBack := auto, trialAt := (endFirmware s).orbit.refNs
          retrainPorts := if s.fw.trial then f.retrainPorts else (upTo 32).filter fun p => Config.serdesDiffers (getBank (endFirmware s) k).version p }) = u
  have hraised : ∀ (v : State) (l : List Nat), (if auto = true then raisePf v 0x0C05 l else v).fw = v.fw ∧
      (if auto = true then raisePf v 0x0C05 l else v).sec = v.sec := fun v l => by
    split
    · exact ⟨raisePf_fw _ _ _, raisePf_sec _ _ _⟩
    · exact ⟨rfl, rfl⟩
  generalize hv : (if auto = true then raisePf (swapLive u) 0x0C05 [fwState (swapLive u).fw] else swapLive u) = v
  have hvfw : v.fw = { u.fw with swap := none } := by
    rw [← hv, (hraised _ _).1]
    exact swapLive_fw u
  have hvsec : v.sec = u.sec := by
    rw [← hv, (hraised _ _).2]
    exact swapLive_sec u
  obtain ⟨l, hfw⟩ := retrainNext_fw (raisePf v 0x0C04 [fwState v.fw])
  have hsec : (retrainNext (raisePf v 0x0C04 [fwState v.fw])).sec = u.sec :=
    (sec_of_frame fr_retrainNext rfl : _ = (raisePf v 0x0C04 [fwState v.fw]).sec).trans ((raisePf_sec _ _ _).trans hvsec)
  have hfw' := hfw.trans (congrArg (fun f : FwUnit => { f with retrainPorts := l }) ((raisePf_fw v 0x0C04 [fwState v.fw]).trans hvfw))
  refine ⟨_, rfl, ?_⟩
  unfold getBank
  rw [hfw', hsec, ← hu]
  exact ⟨rfl, rfl, rfl, rfl, rfl, rfl, rfl, rfl⟩

theorem fwSwapDone_fallsBack {s : State} {k : Nat} {auto ok : Bool} (hup : isUp s = true) (hswap : s.fw.swap = some (k, auto))
    (hbad : ¬(ok = true ∧ verifiesAgain s k)) :
    ∃ t, exec (.fwSwapDone ok) s = .next t ∧ t.fw.running = s.fw.running ∧ t.fw.fellBack = true ∧ t.fw.swap = none ∧
      t.sec.proven = none ∧ t.sec.provisional = none := by
  have hwhy : ¬(ok && swapFault s k == 0) = true := by
    rw [Bool.and_eq_true, beq_iff_eq, swapFault_eq_zero]
    exact hbad
  have hexec : exec (.fwSwapDone ok) s = execFwSwapDone ok s := rfl
  rw [hexec]
  unfold execFwSwapDone
  rw [hswap]
  dsimp only
  rw [if_neg (by rw [alive_of_isUp hup]; decide), if_neg (by unfold swapFault at hwhy; exact hwhy)]
  generalize (if (getBank s k).image.isEmpty = true then 0 else verifyImage s (getBank s k).image) = why
  have hraised : (if why = 0 then endFirmware s else raiseServed (endFirmware s) 0x0A04 [k, why]).fw = s.fw ∧
      (if why = 0 then endFirmware s else raiseServed (endFirmware s) 0x0A04 [k, why]).sec = (endFirmware s).sec := by
    split
    · exact ⟨rfl, rfl⟩
    · exact ⟨(fw_of_frame fr_raiseServed rfl : _ = (endFirmware s).fw), raiseServed_sec _ _ _⟩
  obtain ⟨hfw, hsec⟩ := hraised
  generalize (if why = 0 then endFirmware s else raiseServed (endFirmware s) 0x0A04 [k, why]) = u at hfw hsec ⊢
  generalize hv : modFw u (fun f => { f with fellBack := true, other := if why = 0 then f.other else 3 }) = v
  have hlive : (swapLive (noteBanks v)).fw = { v.fw with swap := none } := by
    rw [swapLive_fw]
    exact congrArg (fun f : FwUnit => { f with swap := none }) (jMust_fw _ _)
  have hliveSec : (swapLive (noteBanks v)).sec = v.sec := (swapLive_sec _).trans (jMust_sec _ _)
  refine ⟨_, rfl, ?_⟩
  rw [raisePf_fw, raisePf_sec, hlive, hliveSec, ← hv]
  refine ⟨?_, rfl, rfl, ?_, ?_⟩
  · show u.fw.running = _
    rw [hfw]
  · show u.sec.proven = _
    rw [hsec]; rfl
  · show u.sec.provisional = _
    rw [hsec]; rfl

/-! ## Recalibration of the HBM (R491) -/

theorem thas_eq_isSome {α : Type} (t : Tab α) (k : Nat) : thas t k = (tfind t k).isSome := by
  induction t with
  | nil => rfl
  | cons e t ih =>
    obtain ⟨j, x⟩ := e
    by_cases h : j = k
    · simp [thas, tfind, h]
    · simpa [thas, tfind, beq_false_of_ne h, h] using ih

theorem hbmRecalWindow_opens {s : State} {stack ch : Nat} (hup : isUp s = true) (hstack : stack < 8) (hch : ch < 32) (hband : bandOf s stack ≠ 4)
    (hfree : tfind s.mem.recal stack = none) (hdue : tget s.mem.recalAt 0 (32 * stack + ch) + param s 0xB130 0 * 1000000000 ≤ s.orbit.refNs) :
    ∃ t, exec (.hbmRecalWindow stack ch) s = .next t ∧ tfind t.mem.recal stack = some ch ∧ tget t.mem.recalAt 0 (32 * stack + ch) = s.orbit.refNs := by
  have hexec : exec (.hbmRecalWindow stack ch) s = .next { s with mem := { s.mem with
      recal := tset s.mem.recal stack ch, recalAt := tset s.mem.recalAt (32 * stack + ch) s.orbit.refNs
      recalTemp := tset s.mem.recalTemp (32 * stack + ch) (tget s.mem.temp 0 stack) } } := by
    refine if_pos ?_
    simp [hup, hstack, hch, hband, hdue, thas_eq_isSome, hfree]
  exact ⟨_, hexec, tfind_tset_same _ _ _, tget_tset_same _ _ _ _⟩

theorem hbmRecalWindow_oneAtATime {s : State} {stack ch : Nat} (h : (tfind s.mem.recal stack).isSome = true) :
    exec (.hbmRecalWindow stack ch) s = .next s := by
  refine if_neg ?_
  simp [thas_eq_isSome, h]

/-- A row that a hard repair has reached stays hard, and each repair makes its row hard. -/
theorem hardRepair_hardens (stack : Nat) (l : List (Nat × RowInfo)) (s : State) (k : Nat) (h : (getRow s k).hard = true ∨ ∃ e ∈ l, e.1 = k) :
    (getRow (l.foldl (hardRepair stack []) s) k).hard = true := by
  induction l generalizing s with
  | nil => exact h.resolve_right (by simp)
  | cons e l ih =>
    have hrows : (hardRepair stack [] s e).mem.rows = tset s.mem.rows e.1 { e.2 with hard := true } := by
      show tset (jAppend (incA s 0x4007 stack 1) _).mem.rows e.1 _ = _
      rw [jAppend_mem, incA_mem]
    refine ih _ ?_
    by_cases hk : e.1 = k
    · refine .inl ?_
      unfold getRow
      rw [hrows, hk, tget_tset_same]
    · refine h.imp (fun hrow => ?_) fun ⟨x, hx, hxk⟩ => ?_
      · unfold getRow
        rw [hrows, tget_tset_ne _ _ _ _ _ (Ne.symm hk)]
        exact hrow
      · exact ⟨x, (List.mem_cons.1 hx).resolve_left (fun hxe => hk (hxe ▸ hxk)), hxk⟩

theorem hbmRecalDone_closes {s : State} {stack ch : Nat} (l : List Nat) (hup : isUp s = true) (hopen : tfind s.mem.recal stack = some ch) :
    ∃ t, exec (.hbmRecalDone stack l) s = .next t ∧ tfind t.mem.recal stack = none ∧
      (l = [] → ∀ e ∈ awaitingHard s stack ch, (getRow t e.1).hard = true) := by
  have hexec : exec (.hbmRecalDone stack l) s = execHbmRecalDone stack l s := rfl
  rw [hexec]
  unfold execHbmRecalDone
  rw [hopen]
  dsimp only
  rw [if_neg (by rw [hup]; decide)]
  refine ⟨_, rfl, ?_, fun hl e he => ?_⟩
  · rw [incA_mem]
    exact tfind_tdel_same _ _
  · have hhard := hardRepair_hardens stack (awaitingHard s stack ch) s e.1 (.inr ⟨e, he, rfl⟩)
    subst hl
    unfold getRow at hhard ⊢
    rw [incA_mem]
    exact hhard

/-- Settles O56: FW_CMD by what each operation makes of the firmware unit, the swap by its second verification, recalibration by its rows. -/
theorem firmwareBanksSwap : Obligations.FirmwareBanksSwap := by
  refine ⟨fun s w c hw => ⟨fun hlen hmax htrial hidle => ?_, fun hcompact hother htrial => ?_, fun hcompact => ?_, fun hcompact hrefused => ?_,
    fun htrial => ?_, fun htrial => ⟨?_, ?_⟩⟩, fun s image status n halive hstaging => fwStaged_ends image status halive hstaging,
    fun s hserves htrial hswap => ⟨fun hover => ?_, ?_⟩,
    fun s b k auto ok hup hswap => ⟨fun h => ?_, fwSwapDone_fallsBack hup hswap⟩, fun s w hw => ⟨?_, ?_⟩,
    fun s stack ch hup hstack hch hband => ⟨hbmRecalWindow_opens hup hstack hch hband, hbmRecalWindow_oneAtATime⟩,
    fun s stack ch l hup hopen => hbmRecalDone_closes l hup hopen⟩
  · obtain ⟨t, hexec, hstatus, hfw⟩ := fwWrite_ok hw (fwCmd_stage hlen hmax htrial hidle)
    refine ⟨t, hexec, hstatus, ?_⟩
    unfold getBank
    rw [hfw]
    exact ⟨rfl, rfl, rfl, tget_tset_same _ _ _ _, rfl⟩
  · obtain ⟨t, hexec, hstatus, hfw⟩ := fwWrite_ok hw (fwCmd_activate c)
    rw [if_neg (by rw [hcompact]; decide), if_neg (by simp [hother, htrial]), startSwap_fw] at hfw
    exact ⟨t, hexec, hstatus, by rw [hfw], by rw [hfw]; rfl⟩
  · obtain ⟨t, hexec, _, hfw⟩ := fwWrite_ok hw (fwCmd_activate c)
    rw [if_pos hcompact] at hfw
    exact ⟨t, hexec, hfw⟩
  · obtain ⟨t, hexec, _, hfw⟩ := fwWrite_ok hw (fwCmd_activate c)
    rw [if_neg (by rw [hcompact]; decide), if_pos hrefused] at hfw
    exact ⟨t, hexec, hfw⟩
  · obtain ⟨t, hexec, _, hfw⟩ := fwWrite_ok hw (fwCmd_revert c)
    rw [if_pos htrial, startSwap_fw] at hfw
    exact ⟨t, hexec, by rw [hfw], by rw [hfw]; rfl⟩
  · obtain ⟨t, hexec, _, hfw⟩ := fwWrite_ok hw (fwCmd_commit_refused (c := c) htrial)
    exact ⟨t, hexec, hfw⟩
  · obtain ⟨t, hexec, _, hfw⟩ := fwWrite_ok hw (fwCmd_revert c)
    rw [if_neg (by rw [htrial]; decide)] at hfw
    exact ⟨t, hexec, hfw⟩
  · refine ⟨_, exec_fwTrialExpire htrial hserves hswap hover, (commits_commitFw s).trial, (commits_commitFw s).running, ?_⟩
    rw [commitFw_fw]
    show (if s.fw.fusedSvn < runningSvn s then runningSvn s else s.fw.fusedSvn) = Nat.max s.fw.fusedSvn (runningSvn s)
    rw [show Nat.max s.fw.fusedSvn (runningSvn s) = max s.fw.fusedSvn (runningSvn s) from rfl]
    split <;> omega
  · refine ⟨startSwap s (1 - s.fw.running) false true, if_pos (by simp [hserves, htrial, hswap]), ?_⟩
    rw [startSwap_fw]
  · obtain ⟨rfl, hverified⟩ := h
    exact fwSwapDone_runs b hup hswap hverified
  · have hcmd : mcodeCmd 1 s = .ok { s with cores := { s.cores with reloading := true } } := rfl
    exact ⟨_, command_ok hw hcmd, answer_status _ _, answer_cores _ _⟩
  · have hcmd : mcodeCmd 2 s = .ok { s with cores := { s.cores with reloading := false } } := rfl
    exact ⟨_, command_ok hw hcmd, answer_status _ _, answer_cores _ _⟩

end Sys2Proof.Proofs
end

section
/-! HBM: temperature bands, scrubs, soft repairs, page retirement; comet; BAR2 (R167, R173 to R184, R426). -/
set_option Elab.async false

namespace Sys2Proof.Proofs
open Sys2Proof.Machine Sys2Proof.Laws

/-! ## Temperature (R167) -/

/-- The band after a reading, by the limits of R167. -/
structure BandAfter (b : Nat) (c : Int) (n : Nat) : Prop where
  range : n ∈ [1, 2, 3, 4]
  hot : c > 105000 → n = 4
  warm : 95000 ≤ c → 3 ≤ n
  mild : 85000 ≤ c → 2 ≤ n
  up : b < n → bandLimit n ≤ c
  down : ∀ k, n < k → k ≤ b → c ≤ bandLimit k - 3000

/-- The limits in numbers: 85, 95 and 105 °C upwards, 3 °C below each downwards. -/
theorem nextBand_limits {b : Nat} (c : Int) (h1 : 1 ≤ b) (h4 : b ≤ 4) :
    (1 ≤ nextBand b c ∧ nextBand b c ≤ 4) ∧ (c > 105000 → nextBand b c = 4) ∧ (95000 ≤ c → 3 ≤ nextBand b c) ∧ (85000 ≤ c → 2 ≤ nextBand b c) ∧
      (b < nextBand b c → (nextBand b c = 2 → 85000 ≤ c) ∧ (nextBand b c = 3 → 95000 ≤ c) ∧ (nextBand b c = 4 → 105000 ≤ c)) ∧
      (nextBand b c < 2 → 2 ≤ b → c ≤ 82000) ∧ (nextBand b c < 3 → 3 ≤ b → c ≤ 92000) ∧ (nextBand b c < 4 → 4 ≤ b → c ≤ 102000) := by
  obtain ⟨hmild, hwarm, hhot⟩ : bandLimit 2 = 85000 ∧ bandLimit 3 = 95000 ∧ bandLimit 4 = 105000 := ⟨rfl, rfl, rfl⟩
  unfold nextBand
  dsimp only
  rw [hmild, hwarm, hhot]
  grind

theorem nextBand_after {b : Nat} (c : Int) (h : b ∈ [1, 2, 3, 4]) : BandAfter b c (nextBand b c) := by
  have hb : 1 ≤ b ∧ b ≤ 4 := by
    rcases (by simpa using h : b = 1 ∨ b = 2 ∨ b = 3 ∨ b = 4) with rfl | rfl | rfl | rfl <;> decide
  obtain ⟨⟨hmin, hmax⟩, hhot, hwarm, hmild, hup, hdown2, hdown3, hdown4⟩ := nextBand_limits c hb.1 hb.2
  generalize nextBand b c = n at *
  have hn : n = 1 ∨ n = 2 ∨ n = 3 ∨ n = 4 := by omega
  refine ⟨by simpa using hn, hhot, hwarm, hmild, fun hlt => ?_, fun k hnk hkb => ?_⟩
  · obtain ⟨hup2, hup3, hup4⟩ := hup hlt
    rcases (by omega : n = 2 ∨ n = 3 ∨ n = 4) with rfl | rfl | rfl
    · exact hup2 rfl
    · exact hup3 rfl
    · exact hup4 rfl
  · rcases (by omega : k = 2 ∨ k = 3 ∨ k = 4) with rfl | rfl | rfl
    · exact hdown2 hnk hkb
    · exact hdown3 hnk hkb
    · exact hdown4 hnk hkb

theorem hbmTempSample_bands {s : State} {stack : Nat} {c : Int} (hup : isUp s = true) (hstack : stack < 8) (hc : c < 110000)
    (hband : bandOf s stack ∈ [1, 2, 3, 4]) :
    ∃ t, exec (.hbmTempSample stack c) s = .next t ∧ tget t.mem.temp 0 stack = c ∧ BandAfter (bandOf s stack) c (bandOf t stack) := by
  have hafter := nextBand_after c hband
  let u : State := { s with mem := { s.mem with temp := tset s.mem.temp stack c, band := tset s.mem.band stack (nextBand (bandOf s stack) c) } }
  have hexec : exec (.hbmTempSample stack c) s =
      (if nextBand (bandOf s stack) c = 4 ∧ bandOf s stack ≠ 4 then .next (raisePf u 0x0402 [stack, milliF32 c]) else .next u) := by
    show execHbmTempSample stack c s = _
    unfold execHbmTempSample
    rw [if_neg (by simp [hup, hstack])]
    exact if_neg (by omega)
  have hu : tget u.mem.temp 0 stack = c ∧ BandAfter (bandOf s stack) c (bandOf u stack) := by
    refine ⟨tget_tset_same _ _ _ _, ?_⟩
    rw [show bandOf u stack = nextBand (bandOf s stack) c from tget_tset_same _ _ _ _]
    exact hafter
  have hraise : (raisePf u 0x0402 [stack, milliF32 c]).mem = u.mem := raisePf_mem _ _ _
  rw [hexec]
  split
  · refine ⟨_, rfl, ?_⟩
    unfold bandOf at hu ⊢
    rw [hraise]
    exact hu
  · exact ⟨_, rfl, hu⟩

theorem hbmTempSample_stops {s : State} {stack : Nat} {c : Int} (hup : isUp s = true) (hstack : stack < 8) (hc : 110000 ≤ c) :
    ∃ t, exec (.hbmTempSample stack c) s = .next t ∧ t.power.phase = .faultStop ∧ t.power.faultReason = 5 := by
  let u : State := { s with mem := { s.mem with temp := tset s.mem.temp stack c, band := tset s.mem.band stack (nextBand (bandOf s stack) c) } }
  have hexec : exec (.hbmTempSample stack c) s = .next (faultStop u .hbmOvertemp) := by
    show execHbmTempSample stack c s = _
    unfold execHbmTempSample
    rw [if_neg (by simp [hup, hstack])]
    exact if_pos hc
  obtain ⟨hphase, hreason, _⟩ := faultStop_power (s := u) (r := .hbmOvertemp) (.inl (by simpa [isUp] using hup))
  exact ⟨_, hexec, hphase, hreason⟩

/-! ## Rows and pages that fail (R178 to R181) -/

theorem retirePage_mem (s : State) (key : Nat) : (retirePage s key).mem = (setPage s key ⟨.retired, 0⟩).mem := by
  unfold retirePage
  dsimp only
  split
  · rw [setSvc_mem, Machine.jMust_mem, incA_mem]
  · rw [Machine.jMust_mem, incA_mem]

/-- A window page's retirement takes no failing mark away. -/
theorem failRow_marks {s : State} (k : Nat) {key : Nat} (hwindow : key % 32768 < windowPages) : (failRow s k key).mem.ueHbm = s.mem.ueHbm := by
  have hretire : ∀ u : State, (beginRetire u key).mem.ueHbm = u.mem.ueHbm := fun u => by
    unfold beginRetire
    dsimp only
    rw [if_neg (by omega)]
    split
    · rfl
    · split
      · rw [retirePage_mem]; rfl
      · rfl
  unfold failRow
  dsimp only
  split
  · rfl
  · split
    · rw [hretire]; rfl
    · rfl

theorem scrubHbm_marks {s : State} {stack page x : Nat} (hup : isUp s = true) (hstack : stack < 8) (hpage : page < windowPages) (hx : x < 65536)
    (hdue : scrubDue s (pageKey stack page) = true) :
    ∃ t, exec (.scrubHbm stack page [] [x]) s = .next t ∧ pageKey stack page * 65536 + x ∈ t.mem.ueHbm ∧
      cntB t 0x4004 stack = Nat.min (cntB s 0x4004 stack + 1) 0xFFFFFFFF := by
  have hkey : pageKey stack page % 32768 < windowPages := by
    unfold pageKey windowPages at *
    omega
  let u : State := incB { s with mem := { s.mem with hbmScrubAt := tset s.mem.hbmScrubAt (pageKey stack page) s.orbit.refNs } } 0x4004 stack 1
  let v : State := { u with mem := { u.mem with ueHbm := addNum u.mem.ueHbm (pageKey stack page * 65536 + x) } }
  have hexec : exec (.scrubHbm stack page [] [x]) s =
      .next (failRow v (rowOf (pageHpa (pageKey stack page) (32 * x))) (pageKey stack page)) := by
    show execScrubHbm stack page [] [x] s = _
    unfold execScrubHbm
    have hfilter : [x].filter (fun x => decide (x < 65536)) = [x] := by simp [hx]
    dsimp only
    rw [if_neg (by simp [hup, hstack]; omega), if_neg (by simp [hdue]), hfilter]
    rfl
  have hstat : (failRow v (rowOf (pageHpa (pageKey stack page) (32 * x))) (pageKey stack page)).stat = v.stat := stat_of_frame fr_failRow rfl
  refine ⟨_, hexec, ?_, ?_⟩
  · rw [failRow_marks _ hkey]
    exact mem_addNum.2 (.inl rfl)
  · rw [cntB_of_stat hstat]
    exact cntB_incB _ _ _ _

theorem softRepairDone_repairs {s : State} {stack row : Nat} (hup : isUp s = true) (hstack : stack < 8)
    (hholding : (getRow s (stack * 2 ^ 32 + row % 2 ^ 32)).holding = true) :
    ∃ t, exec (.softRepairDone stack row) s = .next t ∧ (getRow t (stack * 2 ^ 32 + row % 2 ^ 32)).holding = false ∧
      (getRow t (stack * 2 ^ 32 + row % 2 ^ 32)).soft = true ∧ ∃ n, Journaled t (.hbmRepair stack row 0 n) := by
  have hexec : exec (.softRepairDone stack row) s = .next (setRow (jMust (incA s 0x4006 stack 1) (.hbmRepair stack row 0 (param (incA s 0x4006 stack 1) 0x4006 stack)))
      (stack * 2 ^ 32 + row % 2 ^ 32) { getRow s (stack * 2 ^ 32 + row % 2 ^ 32) with holding := false, soft := true }) :=
    if_pos (by rw [hup, hholding, decide_eq_true hstack]; rfl)
  have hrow : ∀ (u : State) (k : Nat) (r : RowInfo), getRow (setRow u k r) k = r := fun u k r => tget_tset_same _ _ _ _
  refine ⟨_, hexec, ?_, ?_, _, journaled_of_eq (Laws.jMust_mem _ _) rfl rfl⟩
  · rw [hrow]
  · rw [hrow]

theorem poisonedEvents_mem (s : State) (key lost : Nat) : (poisonedEvents s key lost).mem = s.mem := mem_of_frame fr_poisonedEvents rfl

theorem retireTarget_mem (s : State) (stack : Nat) : (retireTarget s stack).2.mem = s.mem := mem_of_frame fr_retireTarget rfl

/-- What becomes of a page whose copy has ended: it is retired, or waits to be, with no copy open. -/
structure RetireEnds (key : Nat) (t : State) : Prop where
  closed : key ∉ t.mem.retirePend
  use : (pageInfo t key).use = .retired ∨ (pageInfo t key).use = .retirePending

theorem retireEnds_of_retirePage {s : State} {key : Nat} (h : key ∉ s.mem.retirePend) : RetireEnds key (retirePage s key) := by
  refine ⟨?_, .inl ?_⟩
  · rw [retirePage_mem]; exact h
  · unfold pageInfo
    rw [retirePage_mem]
    exact congrArg PageInfo.use (tget_tset_same s.mem.pages _ key _)

theorem finishRetire_ends (s : State) (key : Nat) (lost : List Nat) : RetireEnds key (finishRetire s key lost) := by
  unfold finishRetire
  extract_lets p m1 s1
  have hclosed : key ∉ (retireTarget s1 (key / 32768)).2.mem.retirePend := by
    rw [retireTarget_mem]
    exact fun h => (mem_delNum.1 h).2 rfl
  split
  · next s2 hs2 =>
    rw [hs2] at hclosed
    extract_lets s3
    have hmem : (jMust s3 (.pageRetire (key / 32768) (key % 32768) 0 (param s3 0x4001 (key / 32768)))).mem =
        (setPage s2 key { p with use := .retirePending }).mem := Machine.jMust_mem _ _
    refine ⟨?_, .inr ?_⟩
    · rw [hmem]; exact hclosed
    · unfold pageInfo
      rw [hmem]
      exact congrArg PageInfo.use (tget_tset_same s2.mem.pages _ key _)
  · next k2 s2 hs2 =>
    rw [hs2] at hclosed
    extract_lets bad s3 u3 s4 s5 s6 s7
    have hs5 : s5.mem = s4.mem := by
      show State.mem (match savePlace s4 key with | some (m, i) => _ | none => s4) = _
      split <;> rfl
    have hs6 : s6.mem = s5.mem := by
      show State.mem (if _ then _ else _) = _
      split
      · rfl
      · exact poisonedEvents_mem _ _ _
    refine retireEnds_of_retirePage ?_
    rw [show s7.mem = s6.mem from rfl, hs6, hs5]
    exact hclosed

theorem pageRetireDone_ends {s : State} {stack page : Nat} (lost : List Nat) (hup : isUp s = true) (hpage : page < windowPages)
    (hopen : pageKey stack page ∈ s.mem.retirePend) :
    ∃ t, exec (.pageRetireDone stack page lost) s = .next t ∧ RetireEnds (pageKey stack page) t :=
  ⟨_, if_pos (by simp [hup, hpage, hopen]), finishRetire_ends _ _ _⟩

/-! ## Comet (R173, R174) -/

/-- A die's comet in a stream goes by the die, the task and the stream. -/
theorem cometAt_names (s : State) (die : Nat) (x : ReadStream) : (cometAt s die x).die = die ∧ (cometAt s die x).moon = x.task.moon ∧
    (cometAt s die x).ring = x.task.ring ∧ (cometAt s die x).seq = x.task.seq ∧ (cometAt s die x).base = x.base := by
  unfold cometAt
  cases h : s.mem.comet.find? fun c => c.die == die && c.moon == x.task.moon && c.ring == x.task.ring && c.seq == x.task.seq && c.base == x.base with
  | none => exact ⟨rfl, rfl, rfl, rfl, rfl⟩
  | some c =>
    have hc := List.find?_some h
    simp only [Bool.and_eq_true, beq_iff_eq] at hc
    obtain ⟨⟨⟨⟨hdie, hmoon⟩, hring⟩, hseq⟩, hbase⟩ := hc
    exact ⟨hdie, hmoon, hring, hseq, hbase⟩

theorem cometAt_putComet (s u : State) (die : Nat) (x : ReadStream) (pos : Nat) :
    cometAt (putComet u { cometAt s die x with pos := pos }) die x = { cometAt s die x with pos := pos } := by
  obtain ⟨hdie, hmoon, hring, hseq, hbase⟩ := cometAt_names s die x
  have hfind : ((putComet u { cometAt s die x with pos := pos }).mem.comet.find? fun c =>
      c.die == die && c.moon == x.task.moon && c.ring == x.task.ring && c.seq == x.task.seq && c.base == x.base) =
      some { cometAt s die x with pos := pos } := by
    refine List.find?_cons_of_pos ?_
    simp [hdie, hmoon, hring, hseq, hbase]
  rw [cometAt, hfind]
  rfl

/-- A byte's place in its page, counted from the start of the HBM region. -/
theorem pageOffset_of_region {a : Nat} (h : 0x10000000000 ≤ a) : (a - 0x10000000000) % 2 ^ 21 = a % 2 ^ 21 := by omega

theorem cometStep_moves {s : State} {die : Nat} {x : ReadStream} {e : PageEntry} (hruns : (cometAt s die x).stopped = false)
    (hleft : cometPos s die x < x.bytes) (hburst : cometBurst s x (cometPos s die x) ≠ 0) (hregion : 0x10000000000 ≤ x.addr (cometPos s die x))
    (hpage : cometPage s x.task.moon (x.addr (cometPos s die x)) = some e) (hband : bandOf s e.stack ≠ 4)
    (hwindow : inWindow s ((32768 * e.stack + e.page) * 2 ^ 21 + (x.addr (cometPos s die x) - 0x10000000000) % 2 ^ 21) = false)
    (hbank : bankHeld s ((32768 * e.stack + e.page) * 2 ^ 21 + (x.addr (cometPos s die x) - 0x10000000000) % 2 ^ 21) = false) :
    (cometAt (cometStep s die x) die x).pos = cometPos s die x + cometBurst s x (cometPos s die x) := by
  rw [pageOffset_of_region hregion] at hwindow hbank
  rw [← (cometAt_names s die x).2.1] at hpage
  unfold cometStep
  dsimp only
  rw [if_neg (by simp [hruns, hburst]; omega), hpage]
  dsimp only
  rw [if_neg]
  · rw [cometAt_putComet]
  · rintro (h | h | h)
    · exact hband h
    · exact absurd (hwindow.symm.trans h) (by decide)
    · exact absurd (hbank.symm.trans h) (by decide)

theorem cometRead_steps {s : State} {die n : Nat} {x : ReadStream} (hup : isUp s = true)
    (hx : ((cometTasks s die).flatMap (taskStreams s))[n]? = some x) : exec (.cometRead die n) s = .next (cometStep s die x) := by
  show execCometRead die n s = _
  unfold execCometRead
  rw [hx]
  exact if_neg (by rw [hup]; decide)

theorem sameBytes_cometStep (s : State) (die : Nat) (x : ReadStream) : SameBytes s (cometStep s die x) := sameBytes_of_frame fr_cometStep rfl

/-! ## BAR2 reads (R177, R184) -/

theorem bar2Kind_of_pages {s t : State} (h : t.mem.pages = s.mem.pages) (hpa : Nat) : bar2Kind t hpa = bar2Kind s hpa := by
  unfold bar2Kind pageInfo
  rw [h]

/-- The byte that a read through BAR2 returns. -/
def bar2Byte (s : State) (hpa : Nat) : Byte :=
  if bar2Kind s hpa = 0 then (if homeBad s (.hbm hpa 0) 1 then 0xFF else memGet s.mem.hbm hpa) else if bar2Kind s hpa = 1 then 0 else 0xFF

theorem bar2Bytes_succ (s : State) (hpa n : Nat) : bar2Bytes s hpa (n + 1) = bar2Byte s hpa :: bar2Bytes s (hpa + 1) n := by
  rw [bar2Bytes]
  refine congrArg (· :: _) ?_
  unfold bar2Byte
  split
  · next h => rw [if_pos h]
  · next h => rw [if_neg (by rw [h]; decide), if_pos h]
  · next h0 h1 => rw [if_neg h0, if_neg h1]

theorem length_bar2Bytes (s : State) (hpa n : Nat) : (bar2Bytes s hpa n).length = n := by
  induction n generalizing hpa with
  | zero => rfl
  | succ n ih => rw [bar2Bytes_succ, List.length_cons, ih]

theorem getElem_bar2Bytes (s : State) (hpa : Nat) {n i : Nat} (h : i < n) : (bar2Bytes s hpa n)[i]? = some (bar2Byte s (hpa + i)) := by
  induction n generalizing hpa i with
  | zero => omega
  | succ n ih =>
    rw [bar2Bytes_succ]
    cases i with
    | zero => rfl
    | succ i =>
      rw [List.getElem?_cons_succ, ih (hpa + 1) (by omega)]
      congr 2
      omega

theorem param_retirePage {s : State} {key q f : Nat} (hst : pkey q f ≠ pkey 0x4001 (key / 32768)) (hj : pkey q f ≠ pkey 0xB106 0) :
    param (retirePage s key) q f = param s q f := by
  have hmust : ∀ p, param (jMust (incA (setPage s key ⟨.retired, 0⟩) 0x4001 (key / 32768) 1) p) q f = param s q f := fun p =>
    (param_jMust hj).trans (param_incA_ne hst)
  unfold retirePage
  dsimp only
  split
  · exact (param_setSvc hj).trans (hmust _)
  · exact hmust _

theorem param_failRow {s : State} {k key q f : Nat} (hwindow : key % 32768 < windowPages) (hst : pkey q f ≠ pkey 0x4001 (key / 32768))
    (hj : pkey q f ≠ pkey 0xB106 0) : param (failRow s k key) q f = param s q f := by
  have hretire : ∀ u : State, param (beginRetire u key) q f = param u q f := fun u => by
    unfold beginRetire
    dsimp only
    rw [if_neg (by omega)]
    split
    · rfl
    · split
      · exact param_retirePage hst hj
      · rfl
  unfold failRow
  dsimp only
  split
  · rfl
  · split
    · exact hretire _
    · rfl

theorem param_bar2Ue (s : State) (hpa n : Nat) : param (bar2Ue s hpa n) 0x4008 0 = param s 0x4008 0 := by
  unfold bar2Ue
  split
  · next w hw =>
    have hfound := List.find?_some hw
    simp only [Bool.and_eq_true, beq_iff_eq] at hfound
    obtain ⟨⟨_, hkind⟩, _⟩ := hfound
    have hin : w * 32 / 2 ^ 21 % 32768 < windowPages ∧ w * 32 / 2 ^ 21 / 32768 < 8 := by
      unfold bar2Kind at hkind
      dsimp only at hkind
      by_cases hout : windowPages ≤ w * 32 / 2 ^ 21 % 32768 ∨ 8 ≤ w * 32 / 2 ^ 21 / 32768
      · rw [if_pos hout] at hkind
        exact absurd hkind (by decide)
      · omega
    have hne : pkey 0x4008 0 ≠ pkey 0x4001 (w * 32 / 2 ^ 21 / 32768) := by
      unfold pkey
      omega
    exact (param_failRow hin.1 hne (by decide)).trans (param_incB _ _ _ _ _ _)
  · rfl

theorem bar2Read_reads {s : State} {o n : Nat} (hup : isUp s = true) (hsize : o + n ≤ s.host.bar2Size) (hgo : bar2Waits s (bar2Hpa s o) n false = false) :
    exec (.bar2Read o n) s = .next (respond (bar2Ue (bar2Touch (bar2Count s (bar2Hpa s o) n) (bar2Hpa s o) n true) (bar2Hpa s o) n)
      (bar2Bytes s (bar2Hpa s o) n)) := by
  show execBar2Read o n s = _
  unfold execBar2Read
  dsimp only
  rw [if_neg (by rw [alive_of_isUp hup]; simpa using hsize), if_neg (by rw [hup]; decide), if_neg (by rw [hgo]; decide)]

theorem param_bar2Read (s : State) (hpa n : Nat) (b : Bytes) :
    param (respond (bar2Ue (bar2Touch (bar2Count s hpa n) hpa n true) hpa n) b) 0x4008 0 = param (bar2Count s hpa n) 0x4008 0 := by
  have htouch : (bar2Touch (bar2Count s hpa n) hpa n true).dict = (bar2Count s hpa n).dict := dict_of_frame fr_bar2Touch rfl
  exact (param_bar2Ue _ _ _).trans (param_of_dict htouch _ _)

/-! ## BAR2 writes (R184, R426) -/

theorem sameStores_bar2 (s : State) (hpa n : Nat) (read : Bool) : SameStores s (bar2Touch (bar2Count s hpa n) hpa n read) := by
  have hcount : SameStores s (bar2Count s hpa n) := by
    have hmem : (bar2Count s hpa n).mem = s.mem := mem_of_frame fr_bar2Count rfl
    have hcores : (bar2Count s hpa n).cores = s.cores := cores_of_frame fr_bar2Count rfl
    exact ⟨by rw [hmem], by rw [hmem], by rw [hmem], by rw [hcores]⟩
  refine sameStores_trans hcount (sameStores_foldl (fun u i => ?_) _ _)
  dsimp only
  split
  · exact sameStores_mscAccess _ _ _ _
  · exact sameStores_refl u

theorem bar2Store_own {s : State} {hpa : Nat} {b : Bytes} (h : ∀ i, i < b.length → bar2Kind s (hpa + i) = 0) :
    (bar2Store s hpa b).mem.hbm = memWrite s.mem.hbm hpa b := by
  induction b generalizing s hpa with
  | nil => rfl
  | cons x r ih =>
    have h0 : bar2Kind s hpa = 0 := h 0 (by simp)
    rw [bar2Store, if_pos h0, ih]
    · rfl
    · intro i hi
      refine (bar2Kind_of_pages (s := s) (by rfl) _).trans ?_
      rw [show hpa + 1 + i = hpa + (i + 1) by omega]
      exact h _ (by simpa using hi)

theorem bar2Store_denied {s : State} {hpa : Nat} {b : Bytes} (h : ∀ i, i < b.length → bar2Kind s (hpa + i) ≠ 0) : bar2Store s hpa b = s := by
  induction b generalizing hpa with
  | nil => rfl
  | cons x r ih =>
    have h0 : bar2Kind s hpa ≠ 0 := h 0 (by simp)
    rw [bar2Store, if_neg h0, ih]
    intro i hi
    rw [show hpa + 1 + i = hpa + (i + 1) by omega]
    exact h _ (by simpa using hi)

theorem bar2Write_stores {s : State} {o : Nat} {b : Bytes} (hup : isUp s = true) (hsize : o + b.length ≤ s.host.bar2Size)
    (hgo : bar2Waits s (bar2Hpa s o) b.length true = false) (hfree : hostWaits s 0 = false) :
    exec (.bar2Write o b) s = .next (storeBar2 s (bar2Hpa s o) b) := by
  show execBar2Write o b s = _
  unfold execBar2Write
  dsimp only
  rw [if_neg (by rw [hup]; simpa using hsize), if_neg (by rw [hgo, hfree]; decide)]

theorem bar2Write_waits {s : State} {o : Nat} {b : Bytes} (hup : isUp s = true) (hsize : o + b.length ≤ s.host.bar2Size)
    (hwait : bar2Waits s (bar2Hpa s o) b.length true = true ∨ hostWaits s 0 = true) : exec (.bar2Write o b) s = .next (holdWrite s (.bar2 o b)) := by
  show execBar2Write o b s = _
  unfold execBar2Write
  dsimp only
  rw [if_neg (by rw [hup]; simpa using hsize), if_pos]
  rcases hwait with h | h <;> rw [h] <;> simp

theorem hbm_setMarks (s : State) (l : List Nat) : ({ s with mem := { s.mem with ueHbm := l } } : State).mem.hbm = s.mem.hbm := rfl

theorem storeBar2_hbm (s : State) (hpa : Nat) (b : Bytes) :
    (storeBar2 s hpa b).mem.hbm = (bar2Store (bar2Touch (bar2Count s hpa b.length) hpa b.length false) hpa b).mem.hbm := by
  unfold storeBar2
  exact hbm_setMarks _ _

theorem storeBar2_own {s : State} {hpa : Nat} {b : Bytes} (hwf : Memory.wf s = true) (h : ∀ i, i < b.length → bar2Kind s (hpa + i) = 0) :
    memRead (storeBar2 s hpa b).mem.hbm hpa b.length = b := by
  have hstores := sameStores_bar2 s hpa b.length false
  have hhbm : (storeBar2 s hpa b).mem.hbm = memWrite s.mem.hbm hpa b := by
    rw [storeBar2_hbm, ← hstores.hbm]
    exact bar2Store_own fun i hi => (bar2Kind_of_pages hstores.pages _).trans (h i hi)
  rw [hhbm]
  refine memRead_memWrite ?_
  unfold Memory.wf at hwf
  simp only [Bool.and_eq_true] at hwf
  exact hwf.1.1

theorem storeBar2_denied {s : State} {hpa : Nat} {b : Bytes} (h : ∀ i, i < b.length → bar2Kind s (hpa + i) ≠ 0) :
    (storeBar2 s hpa b).mem.hbm = s.mem.hbm := by
  have hstores := sameStores_bar2 s hpa b.length false
  have hkept := bar2Store_denied (s := bar2Touch (bar2Count s hpa b.length) hpa b.length false) (hpa := hpa) (b := b) fun i hi => by
    rw [bar2Kind_of_pages hstores.pages]
    exact h i hi
  rw [storeBar2_hbm, hkept]
  exact hstores.hbm

/-- Settles O17: temperatures by the limits in numbers, rows and pages by what each operation leaves in the memory unit, BAR2 byte by byte. -/
theorem hbmCometAndBar2 : Obligations.HbmCometAndBar2 := by
  refine ⟨⟨fun s stack c hup hstack hc hband => ?_, fun s stack c hup hstack hc => hbmTempSample_stops hup hstack hc⟩,
    ⟨fun s stack page x hup hstack hpage hx hdue => scrubHbm_marks hup hstack hpage hx hdue,
      fun s stack row hup hstack hholding => softRepairDone_repairs hup hstack hholding, fun s stack page lost hup hpage hopen => ?_⟩,
    ?_,
    fun s o n hup hsize hgo => ?_, fun s o b hup hsize hgo hfree hwf hown => ⟨_, bar2Write_stores hup hsize hgo hfree, storeBar2_own hwf hown⟩,
    fun s o b hup hsize hgo hfree _ hother _ => ⟨_, bar2Write_stores hup hsize hgo hfree, storeBar2_denied hother⟩,
    fun s o b hup hsize hwait => ⟨_, bar2Write_waits hup hsize hwait, rfl, Fr.only (k := 4096) fr_holdWrite rfl⟩⟩
  · obtain ⟨t, hexec, htemp, hafter⟩ := hbmTempSample_bands hup hstack hc hband
    exact ⟨t, hexec, htemp, hafter.range, hafter.hot, hafter.warm, hafter.mild, hafter.up, hafter.down⟩
  · obtain ⟨t, hexec, hends⟩ := pageRetireDone_ends lost hup hpage hopen
    exact ⟨t, hexec, hends.closed, hends.use⟩
  · intro s die n x e hup hx p hpa hruns hleft hburst hregion hpage hband hwindow hbank
    exact ⟨_, cometRead_steps hup hx, cometStep_moves hruns hleft hburst hregion hpage hband hwindow hbank, sameBytes_cometStep s die x⟩
  · refine ⟨_, bar2Read_reads hup hsize hgo, length_bar2Bytes _ _ _, fun i hi => getElem_bar2Bytes _ _ hi, fun hdenied hstuck hroom => ?_, fun hall => ?_⟩
    · rw [param_bar2Read, bar2Count, if_pos hdenied]
      exact incA_counts hstuck hroom
    · rw [param_bar2Read, bar2Count, if_neg (by rw [hall]; decide)]

end Sys2Proof.Proofs
end

section
/-! Elements of the float formats: order and distance of exact values in a common unit, decoding (R50, R53). -/
set_option Elab.async false

namespace Sys2Proof.Proofs
open Sys2Proof.Machine Sys2Proof.Laws

/-! ## Exact values as integers in a common unit 2^Q -/

/-- How many units 2^Q stand in 2^q, for Q at most q. -/
def unitsIn (Q q : Int) : Nat := 2 ^ (q - Q).toNat

theorem unitsIn_pos (Q q : Int) : 0 < unitsIn Q q := Nat.two_pow_pos _

theorem unitsIn_trans {Q q e : Int} (hQ : Q ≤ q) (hq : q ≤ e) : unitsIn q e * unitsIn Q q = unitsIn Q e := by
  unfold unitsIn
  rw [← Nat.pow_add]
  congr 1
  omega

theorem two_pow_unitsIn {Q e q : Int} {n : Nat} (hQ : Q ≤ e) (h : n + e = q) : 2 ^ n * unitsIn Q e = unitsIn Q q := by
  unfold unitsIn
  rw [← Nat.pow_add]
  congr 1
  omega

theorem unitsIn_mono {Q a b : Int} (h : a ≤ b) : unitsIn Q a ≤ unitsIn Q b :=
  Nat.pow_le_pow_right (by decide) (by omega)

theorem unitsAt_false (m : Nat) (e Q : Int) : Machine.Num.unitsAt false m e Q = ((m * unitsIn Q e : Nat) : Int) := rfl

theorem unitsAt_true (m : Nat) (e Q : Int) : Machine.Num.unitsAt true m e Q = -((m * unitsIn Q e : Nat) : Int) := rfl

theorem unitsAt_not (s : Bool) (m : Nat) (e Q : Int) : Machine.Num.unitsAt (!s) m e Q = -Machine.Num.unitsAt s m e Q := by
  cases s with
  | false => rfl
  | true => exact (Int.neg_neg _).symm

theorem unitsAt_natAbs (s : Bool) (m : Nat) (e Q : Int) : (Machine.Num.unitsAt s m e Q).natAbs = m * unitsIn Q e := by
  cases s with
  | false => rfl
  | true => rw [unitsAt_true, Int.natAbs_neg, Int.natAbs_natCast]

/-- The change to a smaller unit. -/
theorem unitsAt_trans (s : Bool) (m : Nat) {e q Q : Int} (hQ : Q ≤ q) (hq : q ≤ e) :
    Machine.Num.unitsAt s m e Q = Machine.Num.unitsAt s m e q * (unitsIn Q q : Nat) := by
  have hm : m * unitsIn Q e = m * unitsIn q e * unitsIn Q q := by rw [Nat.mul_assoc, unitsIn_trans hQ hq]
  cases s with
  | false => rw [unitsAt_false, unitsAt_false, hm, Int.natCast_mul]
  | true => rw [unitsAt_true, unitsAt_true, hm, Int.natCast_mul, Int.neg_mul]

/-- The comparison of two finite values is that of their integers in any common unit. -/
theorem cmp_fin (s t : Bool) (m k : Nat) {e g Q : Int} (he : Q ≤ e) (hg : Q ≤ g) :
    (Machine.Num.cmp (.fin s m e) (.fin t k g) < 0 ↔ Machine.Num.unitsAt s m e Q < Machine.Num.unitsAt t k g Q) ∧
    (Machine.Num.cmp (.fin s m e) (.fin t k g) = 0 ↔ Machine.Num.unitsAt s m e Q = Machine.Num.unitsAt t k g Q) ∧
    (Machine.Num.cmp (.fin s m e) (.fin t k g) ≤ 0 ↔ Machine.Num.unitsAt s m e Q ≤ Machine.Num.unitsAt t k g Q) := by
  have hpos : (0 : Int) < (unitsIn Q (min e g) : Nat) := Int.natCast_pos.mpr (unitsIn_pos _ _)
  have hcmp : Machine.Num.cmp (.fin s m e) (.fin t k g) =
      (if Machine.Num.unitsAt s m e (min e g) - Machine.Num.unitsAt t k g (min e g) < 0 then -1
        else if Machine.Num.unitsAt s m e (min e g) - Machine.Num.unitsAt t k g (min e g) = 0 then 0 else 1) := rfl
  have hs := unitsAt_trans s m (Q := Q) (q := min e g) (by omega) (Int.min_le_left e g)
  have ht := unitsAt_trans t k (Q := Q) (q := min e g) (by omega) (Int.min_le_right e g)
  rw [hcmp, hs, ht]
  generalize Machine.Num.unitsAt s m e (min e g) = a
  generalize Machine.Num.unitsAt t k g (min e g) = b
  rw [Int.mul_lt_mul_right hpos, Int.mul_le_mul_right hpos, Int.mul_eq_mul_right_iff (Int.ne_of_gt hpos)]
  rcases Int.lt_trichotomy a b with h | h | h
  · rw [if_pos (by omega)]
    omega
  · rw [if_neg (by omega), if_pos (by omega)]
    omega
  · rw [if_neg (by omega), if_neg (by omega)]
    omega

theorem le_fin (s t : Bool) (m k : Nat) {e g Q : Int} (he : Q ≤ e) (hg : Q ≤ g) :
    Machine.Num.le (.fin s m e) (.fin t k g) = true ↔ Machine.Num.unitsAt s m e Q ≤ Machine.Num.unitsAt t k g Q := by
  rw [← (cmp_fin s t m k he hg).2.2]
  exact decide_eq_true_iff

/-- The distance of a value other than zero from another, as a value. -/
theorem numGap_fin {m : Nat} (s t : Bool) (k : Nat) {e g Q : Int} (h : m ≠ 0) (he : Q ≤ e) (hg : Q ≤ g) :
    ∃ d i, numGap (.fin s m e) (.fin t k g) = .fin false d i ∧ Q ≤ i ∧
      Machine.Num.unitsAt false d i Q = ((Machine.Num.unitsAt s m e Q - Machine.Num.unitsAt t k g Q).natAbs : Int) := by
  refine ⟨(Machine.Num.unitsAt s m e (min e g) + Machine.Num.unitsAt (!t) k g (min e g)).natAbs, min e g, ?_, by omega, ?_⟩
  · have hadd : Machine.Num.add (.fin s m e) (.fin (!t) k g) =
        .fin (decide (Machine.Num.unitsAt s m e (min e g) + Machine.Num.unitsAt (!t) k g (min e g) < 0))
          (Machine.Num.unitsAt s m e (min e g) + Machine.Num.unitsAt (!t) k g (min e g)).natAbs (min e g) := if_neg (fun h' => h h'.1)
    show (Machine.Num.add (.fin s m e) (.fin (!t) k g)).abs = _
    rw [hadd]
    rfl
  · have hs := unitsAt_trans s m (Q := Q) (q := min e g) (by omega) (Int.min_le_left e g)
    have ht := unitsAt_trans t k (Q := Q) (q := min e g) (by omega) (Int.min_le_right e g)
    rw [hs, ht, ← Int.sub_mul, Int.natAbs_mul, Int.natAbs_natCast, unitsAt_not, ← Int.sub_eq_add_neg, unitsAt_false]

/-! ## Elements (R50, R53) -/

/-- What the element formats have in common. -/
structure ElementFmt (f : FloatFmt) : Prop where
  exponents : 2 ≤ f.eb
  mantissa : 1 ≤ f.mb
  narrow : f.kind = .e4m3 → f.mb = 3

theorem elementFmt_of_mem {f : FloatFmt} (h : f ∈ elementFloats) : ElementFmt f := by
  have hall : ∀ g ∈ elementFloats, 2 ≤ g.eb ∧ 1 ≤ g.mb ∧ (g.kind = .e4m3 → g.mb = 3) := by decide
  obtain ⟨hexp, hmant, hnarrow⟩ := hall f h
  exact ⟨hexp, hmant, hnarrow⟩

/-- The fields of an element's bits. -/
theorem bits_split (f : FloatFmt) {b : Nat} (h : b < 2 ^ (1 + f.eb + f.mb)) :
    b = (if b.testBit (f.eb + f.mb) then 2 ^ (f.eb + f.mb) else 0) + b / 2 ^ f.mb % 2 ^ f.eb * 2 ^ f.mb + b % 2 ^ f.mb := by
  have hbit : b.testBit (f.eb + f.mb) = decide (b / 2 ^ (f.eb + f.mb) % 2 = 1) := Nat.testBit_eq_decide_div_mod_eq
  have htop : b / 2 ^ (f.eb + f.mb) < 2 := by
    rw [Nat.div_lt_iff_lt_mul (Nat.two_pow_pos _)]
    calc b < 2 ^ (1 + f.eb + f.mb) := h
      _ = 2 * 2 ^ (f.eb + f.mb) := by rw [Nat.add_assoc, Nat.pow_add]
  have hdiv : b / 2 ^ f.mb / 2 ^ f.eb = b / 2 ^ (f.eb + f.mb) := by rw [Nat.div_div_eq_div_mul, ← Nat.pow_add, Nat.add_comm]
  have hlow := Nat.div_add_mod b (2 ^ f.mb)
  have hhigh := Nat.div_add_mod (b / 2 ^ f.mb) (2 ^ f.eb)
  rw [hdiv] at hhigh
  have hsign : (if b.testBit (f.eb + f.mb) then 2 ^ (f.eb + f.mb) else 0) = 2 ^ f.mb * (2 ^ f.eb * (b / 2 ^ (f.eb + f.mb))) := by
    rw [hbit]
    generalize b / 2 ^ (f.eb + f.mb) = t at htop
    obtain rfl | rfl : t = 0 ∨ t = 1 := by omega
    · rw [Nat.mul_zero, Nat.mul_zero]
      rfl
    · rw [decide_eq_true rfl, if_pos rfl, Nat.mul_one, ← Nat.pow_add, Nat.add_comm]
  rw [hsign]
  calc b = 2 ^ f.mb * (b / 2 ^ f.mb) + b % 2 ^ f.mb := hlow.symm
    _ = 2 ^ f.mb * (2 ^ f.eb * (b / 2 ^ (f.eb + f.mb)) + b / 2 ^ f.mb % 2 ^ f.eb) + b % 2 ^ f.mb := by rw [hhigh]
    _ = _ := by rw [Nat.mul_add, Nat.mul_comm (2 ^ f.mb) (b / 2 ^ f.mb % 2 ^ f.eb)]

/-- A finite element: a subnormal value, or one with the leading bit; no larger than the largest. -/
structure Element (f : FloatFmt) (b : Nat) (m : Nat) (e : Int) : Prop where
  value : decFloat f b = .fin (b.testBit (f.eb + f.mb)) m e
  bound : m < 2 ^ (f.mb + 1)
  least : f.emin - f.mb ≤ e
  most : e ≤ f.emax - f.mb
  form : (m < 2 ^ f.mb ∧ e = f.emin - f.mb ∧ b / 2 ^ f.mb % 2 ^ f.eb = 0 ∧ b % 2 ^ f.mb = m) ∨
    (2 ^ f.mb ≤ m ∧ e = (b / 2 ^ f.mb % 2 ^ f.eb : Nat) - f.bias - f.mb ∧ b % 2 ^ f.mb = m - 2 ^ f.mb)
  top : e = f.emax - f.mb → m ≤ f.maxM

theorem element_of_isFin {f : FloatFmt} (hf : ElementFmt f) {b : Nat} (h : (decFloat f b).isFin = true) : ∃ m e, Element f b m e := by
  have hm : b % 2 ^ f.mb < 2 ^ f.mb := Nat.mod_lt _ (Nat.two_pow_pos _)
  have hx : b / 2 ^ f.mb % 2 ^ f.eb < 2 ^ f.eb := Nat.mod_lt _ (Nat.two_pow_pos _)
  have heb : 4 ≤ 2 ^ f.eb := Nat.pow_le_pow_right (n := 2) (by decide) hf.exponents
  have hmb : 2 ^ (f.mb + 1) = 2 * 2 ^ f.mb := by rw [Nat.pow_succ, Nat.mul_comm]
  have hone : (2 : Int) ^ f.eb = ((2 ^ f.eb : Nat) : Int) := rfl
  by_cases hieee : f.kind = .ieee ∧ b / 2 ^ f.mb % 2 ^ f.eb = 2 ^ f.eb - 1
  · unfold decFloat at h
    dsimp only at h
    rw [if_pos hieee] at h
    split at h <;> cases h
  by_cases hnan : f.kind = .e4m3 ∧ b / 2 ^ f.mb % 2 ^ f.eb = 2 ^ f.eb - 1 ∧ b % 2 ^ f.mb = 2 ^ f.mb - 1
  · unfold decFloat at h
    dsimp only at h
    rw [if_neg hieee, if_pos hnan] at h
    cases h
  have hvalue : decFloat f b = if b / 2 ^ f.mb % 2 ^ f.eb = 0 then .fin (b.testBit (f.eb + f.mb)) (b % 2 ^ f.mb) (f.emin - f.mb)
      else .fin (b.testBit (f.eb + f.mb)) (2 ^ f.mb + b % 2 ^ f.mb) (((b / 2 ^ f.mb % 2 ^ f.eb : Nat) : Int) - f.bias - f.mb) := by
    unfold decFloat
    dsimp only
    rw [if_neg hieee, if_neg hnan]
  have hmax : f.emin < f.emax := by
    unfold FloatFmt.emin FloatFmt.emax
    split <;> omega
  generalize hxdef : b / 2 ^ f.mb % 2 ^ f.eb = x at *
  generalize hydef : b % 2 ^ f.mb = y at *
  by_cases hzero : x = 0
  · rw [if_pos hzero] at hvalue
    exact ⟨y, f.emin - f.mb, hvalue, by omega, Int.le_refl _, by omega, .inl ⟨hm, rfl, hxdef.trans hzero, hydef⟩, fun htop => absurd htop (by omega)⟩
  · rw [if_neg hzero] at hvalue
    refine ⟨2 ^ f.mb + y, (x : Int) - f.bias - f.mb, hvalue, by omega, ?_, ?_, .inr ⟨by omega, by rw [hxdef], by omega⟩, fun htop => ?_⟩
    · unfold FloatFmt.emin
      omega
    · unfold FloatFmt.emax
      split
      · next hkind =>
        have hbelow : x ≠ 2 ^ f.eb - 1 := fun h' => hieee ⟨hkind, h'⟩
        omega
      · omega
    · unfold FloatFmt.maxM
      split
      · next hkind =>
        have hlast : x = 2 ^ f.eb - 1 := by
          unfold FloatFmt.emax at htop
          rw [if_neg (by rw [hkind]; decide)] at htop
          omega
        have hbelow : y ≠ 2 ^ f.mb - 1 := fun h' => hnan ⟨hkind, hlast, h'⟩
        rw [hf.narrow hkind] at hm hbelow ⊢
        omega
      · omega

end Sys2Proof.Proofs
end

section
/-! The float formats: what is read is written back, and a conversion rounds to a nearest element (R60, R62, R64, R65). -/
set_option Elab.async false

namespace Sys2Proof.Proofs
open Sys2Proof.Machine Sys2Proof.Laws

/-! ## Written back as read (R50, R53) -/

/-- The sign bit of an element's bits. -/
def signBit (f : FloatFmt) (s : Bool) : Nat := if s then 2 ^ (f.eb + f.mb) else 0

theorem quantum_element {f : FloatFmt} {b m : Nat} {e : Int} (h : Element f b m e) (hm : m ≠ 0) : f.quantum m e = e := by
  unfold FloatFmt.quantum
  have hlog : Nat.log2 m < f.mb + 1 := (Nat.log2_lt hm).2 h.bound
  have hleast := h.least
  rcases h.form with ⟨_, he, _⟩ | ⟨hlead, _⟩
  · omega
  · have hlog' : f.mb ≤ Nat.log2 m := (Nat.le_log2 hm).2 hlead
    omega

/-- The bits of a value that a format holds at its quantum. -/
theorem encFloat_exact {f : FloatFmt} {m : Nat} {e : Int} (s : Bool) (hm : m ≠ 0) (hq : f.quantum m e = e) :
    encFloat f (.fin s m e) = if m < 2 ^ f.mb then signBit f s + m
      else signBit f s + ((Nat.log2 m : Int) + e + f.bias).toNat * 2 ^ f.mb + (m - 2 ^ f.mb) := by
  unfold FloatFmt.quantum at hq
  unfold encFloat
  dsimp only
  rw [if_neg hm, hq, if_pos (Int.le_refl e), Int.sub_self, Int.toNat_zero, Nat.pow_zero, Nat.mul_one]
  rfl

theorem encFloat_zero (f : FloatFmt) (s : Bool) (e : Int) : encFloat f (.fin s 0 e) = signBit f s := rfl

theorem encFloat_element {f : FloatFmt} {b m : Nat} {e : Int} (hb : b < 2 ^ (1 + f.eb + f.mb)) (h : Element f b m e) :
    encFloat f (.fin (b.testBit (f.eb + f.mb)) m e) = b := by
  have hsplit : b = signBit f (b.testBit (f.eb + f.mb)) + b / 2 ^ f.mb % 2 ^ f.eb * 2 ^ f.mb + b % 2 ^ f.mb := bits_split f hb
  have hbound := h.bound
  by_cases hm : m = 0
  · subst hm
    rcases h.form with ⟨_, _, hx, hy⟩ | ⟨hlead, _⟩
    · rw [hx, hy] at hsplit
      rw [encFloat_zero]
      omega
    · exact absurd hlead (Nat.not_le.mpr (Nat.two_pow_pos _))
  · rw [encFloat_exact _ hm (quantum_element h hm)]
    rcases h.form with ⟨hsub, _, hx, hy⟩ | ⟨hlead, he, hy⟩
    · rw [if_pos hsub]
      rw [hx, hy] at hsplit
      omega
    · rw [if_neg (by omega)]
      have hlog : Nat.log2 m = f.mb := by
        have h1 : Nat.log2 m < f.mb + 1 := (Nat.log2_lt hm).2 hbound
        have h2 : f.mb ≤ Nat.log2 m := (Nat.le_log2 hm).2 hlead
        omega
      have hexp : ((Nat.log2 m : Int) + e + f.bias).toNat = b / 2 ^ f.mb % 2 ^ f.eb := by
        rw [hlog, he]
        omega
      rw [hexp, ← hy]
      exact hsplit.symm

/-! ## No element overflows (R65) -/

theorem maxM_bound {f : FloatFmt} (hf : ElementFmt f) : 2 ^ f.mb ≤ f.maxM := by
  have h2 : 2 ^ 1 ≤ 2 ^ f.mb := Nat.pow_le_pow_right (by decide) hf.mantissa
  unfold FloatFmt.maxM
  split
  · next hkind => rw [hf.narrow hkind]; decide
  · rw [Nat.pow_succ]; omega

theorem element_le_max {f : FloatFmt} (hf : ElementFmt f) {b m : Nat} {e Q : Int} (h : Element f b m e) (hQ : Q ≤ e) :
    m * unitsIn Q e ≤ f.maxM * unitsIn Q (f.emax - f.mb) := by
  have hmax := maxM_bound hf
  have hbound := h.bound
  have hmost := h.most
  rw [Nat.pow_succ] at hbound
  by_cases he : e = f.emax - f.mb
  · rw [← he]
    exact Nat.mul_le_mul_right _ (h.top he)
  · calc m * unitsIn Q e ≤ f.maxM * 2 ^ 1 * unitsIn Q e := Nat.mul_le_mul_right _ (by omega)
      _ = f.maxM * unitsIn Q (1 + e) := by rw [Nat.mul_assoc, two_pow_unitsIn hQ (q := 1 + e) (by omega)]
      _ ≤ f.maxM * unitsIn Q (f.emax - f.mb) := Nat.mul_le_mul_left _ (unitsIn_mono (by omega))

theorem overflows_element {f : FloatFmt} (hf : ElementFmt f) {b m : Nat} {e : Int} (h : Element f b m e) (sr : Bool) : f.overflows sr m e = false := by
  have hmost := h.most
  have hle := element_le_max hf h (Q := e - 1) (by omega)
  unfold FloatFmt.overflows
  cases sr with
  | true =>
    have hcmp := (cmp_fin false false m f.maxM (e := e) (g := f.emax - f.mb) (Q := e - 1) (by omega) (by omega)).2.2.2 (Int.ofNat_le.mpr hle)
    exact decide_eq_false (by unfold FloatFmt.maxNum; omega)
  | false =>
    have hhalf := two_pow_unitsIn (Q := e - 1) (e := f.emax - f.mb - 1) (q := f.emax - f.mb) (n := 1) (by omega) (by omega)
    have hpos := unitsIn_pos (e - 1) (f.emax - f.mb - 1)
    have hlt : m * unitsIn (e - 1) e < (2 * f.maxM + 1) * unitsIn (e - 1) (f.emax - f.mb - 1) := by
      rw [← hhalf, Nat.pow_one, ← Nat.mul_assoc, Nat.mul_comm f.maxM] at hle
      rw [Nat.add_mul]
      omega
    have hcmp := (cmp_fin false false m (2 * f.maxM + 1) (e := e) (g := f.emax - f.mb - 1) (Q := e - 1) (by omega) (by omega)).1.2 (Int.ofNat_lt.mpr hlt)
    exact decide_eq_false (by omega)

/-- A conversion of an element into its own format returns it (R62, R64). -/
theorem toFloat_element {f : FloatFmt} (hf : ElementFmt f) {b m : Nat} {e : Int} (h : Element f b m e) (s sr prop : Bool) (n : Nat) :
    toFloat f sr prop (.fin s m e) n = ⟨.fin s m (if m = 0 then 0 else e), 0, n⟩ := by
  unfold toFloat
  dsimp only
  by_cases hm : m = 0
  · rw [if_pos hm, if_pos hm, hm]
  · rw [if_neg hm, if_neg (by rw [overflows_element hf h]; decide), if_neg hm, quantum_element h hm]
    have hround : roundAt sr m e e (Config.random n) = (m, true) := by
      unfold roundAt
      rw [if_pos (Int.le_refl e), Int.sub_self, Int.toNat_zero, Nat.pow_zero, Nat.mul_one]
    rw [hround]
    dsimp only
    rw [if_neg hm]
    rfl

theorem element_roundTrip {f : FloatFmt} (hf : ElementFmt f) {b : Nat} (n : Nat) (sr prop : Bool) (hb : b < 2 ^ (1 + f.eb + f.mb))
    (hfin : (decFloat f b).isFin = true) : encFloat f (decFloat f b) = b ∧ encFloat f (toFloat f sr prop (decFloat f b) n).val = b ∧
      (toFloat f sr prop (decFloat f b) n).st = 0 ∧ (toFloat f sr prop (decFloat f b) n).n = n := by
  obtain ⟨m, e, h⟩ := element_of_isFin hf hfin
  have henc := encFloat_element hb h
  rw [h.value, toFloat_element hf h]
  refine ⟨henc, ?_, rfl, rfl⟩
  by_cases hm : m = 0
  · rw [hm] at henc ⊢
    exact henc
  · rw [if_neg hm]
    exact henc

/-! ## Rounding to nearest, ties to even (R60) -/

/-- A multiple of P units as near to `v` as any, even at a tie. -/
structure Nearest (v : Int) (k P : Nat) : Prop where
  near : 2 * (v - (k * P : Nat)).natAbs ≤ P
  even : 2 * (v - (k * P : Nat)).natAbs = P → k % 2 = 0

/-- Rounding a number to a multiple of 2^sh: at most half a multiple away, at half of one an even multiple. -/
theorem roundsUp_nearest (m sh r : Nat) :
    Nearest m (if roundsUp false (m / 2 ^ sh) (m % 2 ^ sh) sh r then m / 2 ^ sh + 1 else m / 2 ^ sh) (2 ^ sh) := by
  have hdiv := Nat.div_add_mod m (2 ^ sh)
  have hlt := Nat.mod_lt m (Nat.two_pow_pos sh)
  have hround : roundsUp false (m / 2 ^ sh) (m % 2 ^ sh) sh r =
      (decide (2 ^ sh < 2 * (m % 2 ^ sh)) || (decide (2 * (m % 2 ^ sh) = 2 ^ sh) && m / 2 ^ sh % 2 == 1)) := rfl
  rw [Nat.mul_comm] at hdiv
  by_cases hup : roundsUp false (m / 2 ^ sh) (m % 2 ^ sh) sh r = true
  · rw [if_pos hup]
    rw [hround, Bool.or_eq_true, Bool.and_eq_true, decide_eq_true_iff, decide_eq_true_iff, beq_iff_eq] at hup
    generalize m / 2 ^ sh = d at *
    generalize m % 2 ^ sh = rem at *
    constructor <;> rw [Nat.succ_mul d] <;> omega
  · rw [if_neg hup]
    rw [hround, Bool.or_eq_true, Bool.and_eq_true, decide_eq_true_iff, decide_eq_true_iff, beq_iff_eq] at hup
    generalize m / 2 ^ sh = d at *
    generalize m % 2 ^ sh = rem at *
    constructor <;> omega

/-- An exact rounding. -/
theorem nearest_self {P : Nat} (h : 0 < P) (k : Nat) : Nearest (k * P : Nat) k P := by
  constructor <;> omega

/-- Rounding in a unit is rounding in a smaller one. -/
theorem nearest_scaled {m k P c : Nat} (hc : 0 < c) (h : Nearest m k P) : Nearest (m * c : Nat) k (P * c) := by
  have hdist : (((m * c : Nat) : Int) - (k * (P * c) : Nat)).natAbs = ((m : Int) - (k * P : Nat)).natAbs * c := by
    rw [← Nat.mul_assoc, Int.natCast_mul, Int.natCast_mul (k * P), ← Int.sub_mul, Int.natAbs_mul, Int.natAbs_natCast]
  constructor
  · rw [hdist, ← Nat.mul_assoc]
    exact Nat.mul_le_mul_right _ h.near
  · rw [hdist, ← Nat.mul_assoc]
    exact fun htie => h.even (Nat.eq_of_mul_eq_mul_right hc htie)

theorem roundAt_nearest (m : Nat) {e q Q : Int} (r : Nat) (he : Q ≤ e) (hq : Q ≤ q) :
    Nearest (m * unitsIn Q e : Nat) (roundAt false m e q r).1 (unitsIn Q q) := by
  unfold roundAt
  by_cases hcoarse : q ≤ e
  · rw [if_pos hcoarse, ← unitsIn_trans hq hcoarse, ← Nat.mul_assoc]
    exact nearest_self (unitsIn_pos _ _) _
  · rw [if_neg hcoarse, ← unitsIn_trans (Q := Q) (q := e) (e := q) he (by omega)]
    dsimp only
    have hround : Nearest m _ (2 ^ (q - e).toNat) := roundsUp_nearest m (q - e).toNat r
    split
    · next hrem =>
      have hself := nearest_self (Nat.two_pow_pos (q - e).toNat) (m / 2 ^ (q - e).toNat)
      rw [Nat.div_mul_cancel (Nat.dvd_of_mod_eq_zero hrem)] at hself
      exact nearest_scaled (unitsIn_pos _ _) hself
    · exact nearest_scaled (unitsIn_pos _ _) hround

/-- No multiple is nearer; another one as near leaves an even multiple. -/
theorem nearest_multiple {v : Int} {k P : Nat} (h : Nearest v k P) (z : Int) :
    (v - (k * P : Nat)).natAbs ≤ (v - z * P).natAbs ∧
      ((v - (k * P : Nat)).natAbs = (v - z * P).natAbs → ((k * P : Nat) : Int) ≠ z * P → k % 2 = 0) := by
  have hnear := h.near
  have heven := h.even
  have hP : (0 : Int) ≤ P := Int.natCast_nonneg P
  rw [Int.natCast_mul] at *
  rcases Int.lt_trichotomy (k : Int) z with hz | hz | hz
  · have happart := Int.mul_le_mul_of_nonneg_right (show (k : Int) + 1 ≤ z from hz) hP
    rw [Int.add_mul, Int.one_mul] at happart
    exact ⟨by omega, fun htie _ => heven (by omega)⟩
  · rw [hz]
    exact ⟨Nat.le_refl _, fun _ hne => absurd rfl hne⟩
  · have happart := Int.mul_le_mul_of_nonneg_right (show z + 1 ≤ (k : Int) from hz) hP
    rw [Int.add_mul, Int.one_mul] at happart
    exact ⟨by omega, fun htie _ => heven (by omega)⟩

/-! ## Elements against the quantum -/

/-- The leading bit of a value. -/
theorem leading_le {m : Nat} (hm : m ≠ 0) {e Q : Int} (hQ : Q ≤ e) :
    unitsIn Q ((Nat.log2 m : Int) + e) ≤ m * unitsIn Q e ∧ m * unitsIn Q e < unitsIn Q ((Nat.log2 m : Int) + e + 1) := by
  have hlow := two_pow_unitsIn hQ (n := Nat.log2 m) rfl
  have hhigh := two_pow_unitsIn hQ (n := Nat.log2 m + 1) (q := (Nat.log2 m : Int) + e + 1) (by omega)
  rw [← hlow, ← hhigh]
  exact ⟨Nat.mul_le_mul_right _ (Nat.log2_self_le hm), Nat.mul_lt_mul_of_pos_right Nat.lt_log2_self (unitsIn_pos _ _)⟩

/-- An element is a multiple of the quantum of a value, or smaller than the value's leading bit. -/
theorem element_multiple {f : FloatFmt} {b mw : Nat} {ew : Int} (h : Element f b mw ew) (s : Bool) (m : Nat) {e Q : Int} (hw : Q ≤ ew)
    (hQ : Q ≤ f.quantum m e) : (∃ z : Int, Machine.Num.unitsAt s mw ew Q = z * (unitsIn Q (f.quantum m e) : Nat)) ∨
      (f.quantum m e = (Nat.log2 m : Int) + e - f.mb ∧ (Machine.Num.unitsAt s mw ew Q).natAbs < unitsIn Q ((Nat.log2 m : Int) + e)) := by
  by_cases hq : f.quantum m e ≤ ew
  · exact .inl ⟨_, unitsAt_trans s mw hQ hq⟩
  · have hleast := h.least
    have hquantum : f.quantum m e = (Nat.log2 m : Int) + e - f.mb := by
      unfold FloatFmt.quantum at hq ⊢
      omega
    refine .inr ⟨hquantum, ?_⟩
    rw [unitsAt_natAbs]
    calc mw * unitsIn Q ew < 2 ^ (f.mb + 1) * unitsIn Q ew := Nat.mul_lt_mul_of_pos_right h.bound (unitsIn_pos _ _)
      _ = unitsIn Q ((f.mb + 1 : Nat) + ew) := two_pow_unitsIn hw rfl
      _ ≤ unitsIn Q ((Nat.log2 m : Int) + e) := unitsIn_mono (by omega)

/-- No element is nearer than the rounded value; another one as near leaves an even multiple. -/
theorem nearest_element {f : FloatFmt} {b mw m : Nat} {ew : Int} (h : Element f b mw ew) (s : Bool) (hm : m ≠ 0) {e Q : Int} {k : Nat}
    (he : Q ≤ e) (hw : Q ≤ ew) (hQ : Q ≤ f.quantum m e) (hk : Nearest (m * unitsIn Q e : Nat) k (unitsIn Q (f.quantum m e))) :
    (((m * unitsIn Q e : Nat) : Int) - (k * unitsIn Q (f.quantum m e) : Nat)).natAbs ≤
        (((m * unitsIn Q e : Nat) : Int) - Machine.Num.unitsAt s mw ew Q).natAbs ∧
      ((((m * unitsIn Q e : Nat) : Int) - (k * unitsIn Q (f.quantum m e) : Nat)).natAbs =
          (((m * unitsIn Q e : Nat) : Int) - Machine.Num.unitsAt s mw ew Q).natAbs →
        ((k * unitsIn Q (f.quantum m e) : Nat) : Int) ≠ Machine.Num.unitsAt s mw ew Q → k % 2 = 0) := by
  rcases element_multiple h s m hw hQ with ⟨z, hz⟩ | ⟨hq, hsmall⟩
  · rw [hz]
    exact nearest_multiple hk z
  · obtain ⟨hlow, _⟩ := leading_le hm he
    have hlead : 2 ^ f.mb * unitsIn Q (f.quantum m e) = unitsIn Q ((Nat.log2 m : Int) + e) := two_pow_unitsIn hQ (by omega)
    have hnear := (nearest_multiple hk ((2 ^ f.mb : Nat) : Int)).1
    rw [← Int.natCast_mul, hlead] at hnear
    exact ⟨by omega, fun htie => absurd htie (by omega)⟩

/-! ## The code of an even multiple -/

theorem even_pow {n : Nat} (h : 1 ≤ n) : 2 ^ n % 2 = 0 := by
  obtain ⟨k, rfl⟩ : ∃ k, n = k + 1 := ⟨n - 1, by omega⟩
  rw [Nat.pow_succ]
  omega

/-- A rounded value needs at most one digit more than the format holds. -/
theorem nearest_le {f : FloatFmt} {m k : Nat} {e Q : Int} (hm : m ≠ 0) (he : Q ≤ e) (hQ : Q ≤ f.quantum m e)
    (hk : Nearest (m * unitsIn Q e : Nat) k (unitsIn Q (f.quantum m e))) : k ≤ 2 ^ (f.mb + 1) := by
  obtain ⟨_, hhigh⟩ := leading_le hm he
  have htop : unitsIn Q ((Nat.log2 m : Int) + e + 1) ≤ 2 ^ (f.mb + 1) * unitsIn Q (f.quantum m e) := by
    rw [two_pow_unitsIn hQ rfl]
    refine unitsIn_mono ?_
    unfold FloatFmt.quantum
    omega
  have hpos := unitsIn_pos Q (f.quantum m e)
  have hnear := hk.near
  refine Nat.not_lt.mp fun hgt => ?_
  have hmult := Nat.mul_le_mul_right (unitsIn Q (f.quantum m e)) hgt
  rw [Nat.succ_mul] at hmult
  omega

theorem signBit_even {f : FloatFmt} (hf : ElementFmt f) (s : Bool) : signBit f s % 2 = 0 := by
  unfold signBit
  split
  · exact even_pow (by have := hf.mantissa; omega)
  · rfl

/-- The significand that a value is written with is even where its multiple is. -/
theorem encFloat_even {f : FloatFmt} (hf : ElementFmt f) {k : Nat} (s : Bool) (q : Int) (hleast : f.emin - f.mb ≤ q) (hk : k ≤ 2 ^ (f.mb + 1))
    (heven : k % 2 = 0) : encFloat f (.fin s k q) % 2 = 0 := by
  have hsign := signBit_even hf s
  have hmb := even_pow hf.mantissa
  unfold encFloat
  dsimp only
  by_cases hzero : k = 0
  · rw [if_pos hzero]
    exact hsign
  rw [if_neg hzero]
  have hwritten : (if max ((Nat.log2 k : Int) + q - f.mb) (f.emin - f.mb) ≤ q
      then k * 2 ^ (q - max ((Nat.log2 k : Int) + q - f.mb) (f.emin - f.mb)).toNat
      else k / 2 ^ (max ((Nat.log2 k : Int) + q - f.mb) (f.emin - f.mb) - q).toNat) % 2 = 0 := by
    split
    · rw [Nat.mul_mod, heven, Nat.zero_mul, Nat.zero_mod]
    · next hfew =>
      have hlog : f.mb + 1 ≤ Nat.log2 k := by omega
      have htop : k = 2 ^ (f.mb + 1) := Nat.le_antisymm hk ((Nat.le_log2 hzero).1 hlog)
      have hlog' : Nat.log2 k = f.mb + 1 := by rw [htop, Nat.log2_two_pow]
      have hone : (max ((Nat.log2 k : Int) + q - f.mb) (f.emin - f.mb) - q).toNat = 1 := by
        rw [hlog']
        omega
      rw [hone, htop, Nat.pow_one, Nat.pow_succ, Nat.mul_div_cancel _ (by decide)]
      exact hmb
  generalize (if max ((Nat.log2 k : Int) + q - f.mb) (f.emin - f.mb) ≤ q
      then k * 2 ^ (q - max ((Nat.log2 k : Int) + q - f.mb) (f.emin - f.mb)).toNat
      else k / 2 ^ (max ((Nat.log2 k : Int) + q - f.mb) (f.emin - f.mb) - q).toNat) = w at hwritten ⊢
  have hsb : (if s = true then 2 ^ (f.eb + f.mb) else 0) = signBit f s := rfl
  rw [hsb]
  split
  · omega
  · next hlarge =>
    have hexp : ((Nat.log2 k : Int) + q + f.bias).toNat * 2 ^ f.mb % 2 = 0 := by rw [Nat.mul_mod, hmb, Nat.mul_zero, Nat.zero_mod]
    omega

/-! ## The conversion (R60, R64, R65) -/

theorem toFloat_rounds {f : FloatFmt} (s prop : Bool) {m : Nat} (n : Nat) {e : Int} (hm : m ≠ 0) (hfits : f.overflows false m e = false) :
    (toFloat f false prop (.fin s m e) n).val = .fin s (roundAt false m e (f.quantum m e) (Config.random n)).1 (f.quantum m e) := by
  unfold toFloat
  dsimp only
  rw [if_neg hm, if_neg (by rw [hfits]; decide)]

/-- Mirrored values are as far apart. -/
theorem unitsAt_sub_mirror (s t : Bool) (m k : Nat) (e g Q : Int) : (Machine.Num.unitsAt s m e Q - Machine.Num.unitsAt t k g Q).natAbs =
    (((m * unitsIn Q e : Nat) : Int) - Machine.Num.unitsAt (s ^^ t) k g Q).natAbs := by
  cases s with
  | false => rw [Bool.false_xor, unitsAt_false]
  | true =>
    rw [Bool.true_xor, unitsAt_not, unitsAt_true]
    omega

/-- Values that agree up to a common sign agree with it. -/
theorem unitsAt_of_xor {s t : Bool} {m k : Nat} {e g Q : Int} (h : ((m * unitsIn Q e : Nat) : Int) = Machine.Num.unitsAt (s ^^ t) k g Q) :
    Machine.Num.unitsAt s m e Q = Machine.Num.unitsAt t k g Q := by
  cases s with
  | false => rwa [Bool.false_xor] at h
  | true =>
    rw [Bool.true_xor, unitsAt_not] at h
    rw [unitsAt_true, h, Int.neg_neg]

theorem toFloat_nearest {f : FloatFmt} (hf : ElementFmt f) (s prop : Bool) {m b : Nat} (n : Nat) {e : Int} (hm : m ≠ 0)
    (hfits : f.overflows false m e = false) (hfin : (decFloat f b).isFin = true) :
    Machine.Num.le (numGap (.fin s m e) (toFloat f false prop (.fin s m e) n).val) (numGap (.fin s m e) (decFloat f b)) = true ∧
    (Machine.Num.cmp (numGap (.fin s m e) (toFloat f false prop (.fin s m e) n).val) (numGap (.fin s m e) (decFloat f b)) = 0 →
      Machine.Num.cmp (toFloat f false prop (.fin s m e) n).val (decFloat f b) ≠ 0 →
      encFloat f (toFloat f false prop (.fin s m e) n).val % 2 = 0) := by
  obtain ⟨mw, ew, h⟩ := element_of_isFin hf hfin
  obtain ⟨Q, he, hw, hQ⟩ : ∃ Q : Int, Q ≤ e ∧ Q ≤ ew ∧ Q ≤ f.quantum m e := ⟨min (min e ew) (f.quantum m e), by omega, by omega, by omega⟩
  have hnearest := roundAt_nearest m (Config.random n) he hQ
  rw [toFloat_rounds s prop n hm hfits, h.value]
  generalize (roundAt false m e (f.quantum m e) (Config.random n)).1 = k at hnearest ⊢
  generalize b.testBit (f.eb + f.mb) = t
  obtain ⟨hle, htie⟩ := nearest_element h (s ^^ t) hm he hw hQ hnearest
  obtain ⟨d1, i1, hgap1, hi1, hval1⟩ := numGap_fin s s k hm he hQ
  obtain ⟨d2, i2, hgap2, hi2, hval2⟩ := numGap_fin s t mw hm he hw
  rw [unitsAt_sub_mirror, Bool.xor_self, unitsAt_false k] at hval1
  rw [unitsAt_sub_mirror] at hval2
  rw [hgap1, hgap2]
  refine ⟨(le_fin _ _ _ _ hi1 hi2).2 (by rw [hval1, hval2]; exact Int.ofNat_le.mpr hle), fun heq hne => ?_⟩
  have hequal := (cmp_fin _ _ _ _ hi1 hi2).2.1.1 heq
  rw [hval1, hval2] at hequal
  have hleast : f.emin - f.mb ≤ f.quantum m e := by
    unfold FloatFmt.quantum
    omega
  refine encFloat_even hf s _ hleast (nearest_le hm he hQ hnearest) (htie (Int.ofNat_inj.mp hequal) fun hsame => hne ?_)
  exact (cmp_fin _ _ _ _ hQ hw).2.1.2 (unitsAt_of_xor hsame)

/-- Settles O11: every element format is one of `ElementFmt`; a value's multiples of its quantum stand for the elements near it. -/
theorem formatsHoldAndRound : Obligations.FormatsHoldAndRound := by
  intro f hmem
  have hf := elementFmt_of_mem hmem
  refine ⟨fun b n sr prop hb hfin => element_roundTrip hf n sr prop hb hfin,
    fun s prop m n b e hm hfits _ hfin => toFloat_nearest hf s prop n hm hfits hfin, fun s sr m n e hm hover => ?_, fun sr prop n => rfl, by decide⟩
  unfold toFloat
  dsimp only
  rw [if_neg hm, if_pos hover, if_neg (by decide), if_neg hm, if_pos hover, if_pos rfl]
  exact ⟨rfl, rfl⟩

end Sys2Proof.Proofs
end
